-- ==== Sys2Proof/Word.lean ====
section
/-! DEFINITION. The words of the hub: bytes, 64-byte blocks and the subchannel-physical burst address.
Object values are natural numbers bounded by their type's width (00_scope.md R8): widths run from 8 to 23,696 bits,
so one register store holds them all. -/

namespace Sys2Proof

/-- One byte (00_scope.md R5: byte 0 first, most significant first). -/
abbrev Byte := BitVec 8

/-- One 64-byte block, byte 0 in the highest bits (02_headrace_links.md R43; 07_memory_controller.md R164). -/
abbrev Block := BitVec 512

end Sys2Proof
end

