-- ==== Sys2Proof/Syntax.lean ====
section
/-! DEFINITION. The commands of the hub: one constructor for every row of spec/opcode_table.json, with its operands.
A row that is an arrival carries what arrived; a row that is an expiry is the expiry itself; a row that is a physical
result (a sweep, a decode, a conversion) carries what was measured. -/

namespace Sys2Proof

/-- The two worlds a request can act in (R11, R333). -/
inductive World where
  | openWorld | secureWorld
  deriving DecidableEq, Repr

/-- Status codes (R58). -/
inductive Status where
  | ok | notReady | stale | retry | poisoned | uncorrectable | deniedWorld | noRegion | busySluice | malformed
  deriving DecidableEq, Repr

/-- The 8-bit value of a status code (R58). -/
def Status.code : Status → Nat
  | .ok => 0 | .notReady => 1 | .stale => 2 | .retry => 3 | .poisoned => 4 | .uncorrectable => 5
  | .deniedWorld => 6 | .noRegion => 7 | .busySluice => 8 | .malformed => 9

abbrev Port := Fin 8
abbrev HrLane := Fin 4
abbrev StreamNo := Fin 256
abbrev WindowNo := Fin 64
abbrev ContextNo := Fin 128
abbrev JobNo := Fin 32
abbrev LeaseNo := Fin 16
abbrev RegionNo := Fin 1024
abbrev ScNo := Fin 32
abbrev RankNo := Fin 8
abbrev BankNo := Fin 256
abbrev LaneNo := Fin 10
abbrev RailNo := Fin 16
abbrev SourceNo := Fin 768
abbrev ChannelNo := Fin 25
abbrev SailNo := Fin 4
abbrev KeySlotNo := Fin 16
/-- 0 East, 1 West. -/
abbrev Half := Fin 2

/-- A Headrace cell as it arrives, all fields of R35 but TYPE, which the command's row names. DEDUCED, unsafe (log entry 74). -/
structure Cell where
  vc : BitVec 2
  last : Bool
  poison : Bool
  tag : BitVec 12
  hver : BitVec 3
  plen : BitVec 9
  arg : BitVec 48
  pcrc : BitVec 32
  hcrc : BitVec 16
  payload : List Byte
  deriving DecidableEq, Repr

/-- A codeword as the receiver of a lane sees it (R28, R29). DEDUCED, unsafe (log entry 74). -/
structure Codeword where
  /-- decodes with zero or correctable syndromes -/
  good : Bool
  /-- symbols corrected, at most 15 -/
  corrected : Nat
  /-- the decoded message of 5140 bits, the field sent first highest (R28) -/
  msg : BitVec 5140
  deriving DecidableEq, Repr

/-- A direction of a Headrace lane, as the hub sees it (R32). -/
inductive LaneDir where
  | transmit | receive
  deriving DecidableEq, Repr

/-- One direction of one lane of a port (R32). -/
structure LaneEnd where
  lane : HrLane
  dir : LaneDir
  deriving DecidableEq, Repr

/-- How an LOA message arrived (R47, R362, R364): in an OBJECT cell of a port, or in a UDP datagram. -/
inductive LoaArrival where
  | headrace (p : Port) (c : Cell)
  | udp (addr : Nat) (port : BitVec 16) (checksumOk : Bool) (msg : List Byte)
  deriving DecidableEq, Repr

/-- A Sail message as it arrives, with its CRC (R384) and the hub time of its first bit at the pins (R388). -/
structure SailArrival where
  bytes : List Byte
  crc : BitVec 32
  stamp : BitVec 96
  /-- a HELLO's physical far end: it came from an SP0 (R390 WIRING) -/
  fromSp0 : Bool
  deriving DecidableEq, Repr

/-- Which timing conditions of JESD79 hold in the MCLK cycle of a pick (R174). DESIGN CHOICE, unsafe (log entry 10). -/
structure PickTiming where
  /-- request numbers whose column command meets its timing -/
  cas : List Nat
  /-- banks whose precharge, and whose activate, meet their timing -/
  pre : List Nat
  act : List Nat
  /-- logical ranks that may take a refresh, or a mode register command, now -/
  ref : List Nat
  mode : List Nat
  /-- the encoder's syndrome check of a write burst: outcomes of the first and second encode (R251) -/
  enc1 : Bool
  enc2 : Bool
  deriving DecidableEq, Repr

/-- What the wires returned for the oldest in-flight read: an error pattern over the 80 symbols, and for each lane the
bits in which the EARLY and the LATE shadow sampler differ from the main sampler (R219, R221, R249). -/
structure ReadData where
  err : List Byte
  shadow : List (Nat × Nat)
  /-- length of the interruption, when this decode ends one (R254), in ns -/
  interruptNs : Nat
  deriving DecidableEq, Repr

/-- One swept code and the ends of its longest run of passing delays (R207); `none` where nothing passed. -/
structure SweepPoint where
  code : Nat
  run : Option (Nat × Nat)
  deriving DecidableEq, Repr

/-- What a step of cold training measured for one lane (R206 to R208). -/
structure LaneSweep where
  /-- per bit, the ends of its own window -/
  bits : List (Nat × Nat)
  coarse : List SweepPoint
  fine : List SweepPoint
  /-- step 5: earliest and latest passing RECEN -/
  recen : Option (Nat × Nat)
  /-- step 7: first transition, and whether a second lies within 2 UI -/
  level : Option (Nat × Bool)
  /-- step 9: for each DFE setting of tap 1 (tap 2), the write eye width -/
  taps1 : List (Int × Nat)
  taps2 : List (Int × Nat)
  /-- step 9: the delay run of the repeated step 8 sweep at v* -/
  again : Option (Nat × Nat)
  /-- step 10 -/
  corrected : Nat
  inBadBlock : Bool
  deriving DecidableEq, Repr

/-- The result of a cold-training step: the command-side sweep (steps 2 and 3) and the lanes'. -/
structure StepResult where
  coarse : List SweepPoint
  fine : List SweepPoint
  caBits : List (Nat × Nat)
  lanes : List LaneSweep
  /-- hard repairs of R262 tried in the step and whether each held -/
  hardOk : List Bool
  /-- bursts of the save area that read as uncorrectable, as 128 · (LR mod 4) + column (R216) -/
  saveBad : List Nat
  deriving DecidableEq, Repr

/-- Step 10 outcome of one lane in a restore (R413). -/
structure LaneCheck where
  corrected : Nat
  inBadBlock : Bool
  deriving DecidableEq, Repr

/-- What a restore found: the step 10 outcomes of 20 lanes, and whether each hard repair of its two package ranks held
(R262, R413). -/
structure RestoreResult where
  lanes : List LaneCheck
  hardOk : List Bool
  deriving DecidableEq, Repr

/-- Write sweep of a package rank (R236): for each lane the longest run of passing offsets. -/
structure WriteSweep where
  runs : List (Option (Int × Int))
  /-- a point was repeated a third time (R236 step 3) -/
  repeated : Bool
  /-- columns of the saved row that read as uncorrectable (R236 step 2) -/
  saveBad : List Nat
  deriving DecidableEq, Repr

/-- The immediate credit kinds asked for again (R424). -/
inductive ReaskKind where
  | capture | insert | scrub | repair
  deriving DecidableEq, Repr

/-- In-service fields that walk toward targets (R226). -/
inductive TapField where
  | recen | rdDqs | rdVref | wrDqs | wrDq
  | rdBit (b : Fin 4) | wrBit (b : Fin 4)
  deriving DecidableEq, Repr

/-- Ledger records kept in A/B slots (R237). -/
inductive LedgerRec where
  | calEast | calWest | objects
  deriving DecidableEq, Repr

/-- Detected excursions (R275, R276, R278). -/
inductive Excursion where
  | over | under | senseOpen
  deriving DecidableEq, Repr

/-- What one poll of a PMBus rail returned (R295); `none` for a failed transaction. -/
structure PmbusResult where
  rail : RailNo
  data : Option (BitVec 32 × BitVec 32 × BitVec 32 × BitVec 16)
  deriving DecidableEq, Repr

/-- The context a source supplies with an event (R325). -/
structure FaultCtx where
  master : BitVec 4
  access : BitVec 4
  kind : BitVec 3
  value : BitVec 48
  deriving DecidableEq, Repr

/-- JTAG instructions (R354). -/
inductive JtagInstr where
  | bypass | idcode | samplePreload | extest | vendorDebug
  deriving DecidableEq, Repr

/-- PTP messages (R394): what the hub takes from them. -/
structure PtpAnnounce where
  domain : BitVec 8
  clockIdentity : BitVec 64
  /-- priority1, clockClass, accuracy, variance, priority2 as one number, then steps removed -/
  quality : BitVec 56
  arb : Bool
  deriving DecidableEq, Repr

structure PtpSync where
  clockIdentity : BitVec 64
  /-- origin time of a one-step Sync or of a Follow_Up; none for a two-step Sync -/
  origin : Option (BitVec 96)
  /-- arrival time of the Sync at the pins -/
  arrival : BitVec 96
  /-- departure time of the Delay_Req that follows -/
  departure : BitVec 96
  deriving DecidableEq, Repr

structure PtpDelayResp where
  clockIdentity : BitVec 64
  receive : BitVec 96
  deriving DecidableEq, Repr

/-- What the checks of SELFTEST found (R412). -/
structure SelftestResult where
  /-- a manufacture fuse field fails its check code -/
  fuseBad : Bool
  /-- a failing Millpond word, as its byte offset -/
  millpond : Option Nat
  /-- for each monitor channel the offset and gain trims that its calibration kept, none where it was refused (R230) -/
  trims : List (Option (Int × Int))
  /-- sources whose checkers fail in the checker pass -/
  checkers : List SourceNo
  deriving DecidableEq, Repr

/-- The commands. -/
inductive Instr where
  /-- LANE_TRAINING_RESTART (R32): 100 ms after a failed start-up protocol, a Headrace lane restarts link training. -/
  | laneTrainingRestart (p : Port) (l : LaneEnd)
  /-- LANE_TRAINED (R32): A Headrace lane completes the start-up protocol, and the port moves toward ALIGNING. -/
  | laneTrained (p : Port) (l : LaneEnd)
  /-- CODEWORD_RECEIVE (R29): An RS(544,514) codeword arrives on a lane; it is decoded, the lane's lock state is updated and its cells are extracted. -/
  | codewordReceive (p : Port) (l : HrLane) (cw : Codeword)
  /-- TXMASK_UPDATE (R33): At the next codeword with SEQ = 0, the transmitter removes a failed lane from TXMASK or returns a retrained one to it. -/
  | txmaskUpdate (p : Port)
  /-- IDLE_CELL (R39): An IDLE cell is received, and only its HCRC is checked. -/
  | idleCell (p : Port) (c : Cell)
  /-- CREDIT_CELL (R51): A CREDIT cell is received, updating the cumulative grants and the far end's RX_LANES. -/
  | creditCell (p : Port) (c : Cell)
  /-- WRITE_CELL (R41): A WRITE cell is received and checked; the final cell of a transaction applies the whole transaction. -/
  | writeCell (p : Port) (c : Cell)
  /-- WRITE_RESPONSE (R41): Once a WRITE transaction's data is accepted into the write queues, the hub sends its RESPONSE. -/
  | writeResponse (p : Port) (tag : Nat)
  /-- READ_REQUEST (R43): A READ request cell is received and checked, and its 64-byte reads are issued to the controllers. -/
  | readRequest (p : Port) (c : Cell)
  /-- READ_RESPONSE (R44): Read data returns, and the next RESPONSE cell of a READ is formed with its STATUS, GEN, READY and STALE. -/
  | readResponse (p : Port) (tag : Nat)
  /-- HOST_RESPONSE (R48): A RESPONSE cell from the host answers a pushed WRITE transaction with OK or RETRY. -/
  | hostResponse (p : Port) (c : Cell)
  /-- CREDIT_SEND (R52): After 32 freed cells on a virtual channel, or after 1 µs, the hub sends a CREDIT cell. -/
  | creditSend (p : Port)
  /-- KEEPALIVE_LOST (R53): With no valid CREDIT cell for 100 µs, the hub sets KEEPALIVE_LOST, raises HR_KEEPALIVE_HPn and restarts the port. -/
  | keepaliveLost (p : Port)
  /-- STREAM_SAMPLES (R89): A STREAM cell of KIND SAMPLES is received; its full index is formed, and it is stored, gapped or discarded and placed in the elastic buffer. -/
  | streamSamples (p : Port) (c : Cell)
  /-- STREAM_DISCLOSURE (R75): A STREAM cell of KIND DISCLOSURE is received, and its record is applied, queued or refused. -/
  | streamDisclosure (p : Port) (c : Cell)
  /-- STREAM_RECORD_REFUSED (R68): A host STREAM cell of KIND RECORD is discarded, and KIND_REFUSED is set. -/
  | streamRecordRefused (p : Port) (c : Cell)
  /-- FLUSH_TIMEOUT (R92): After FLUSH_TIMEOUT with no cell, the stream's partial block is committed with zero fill. -/
  | flushTimeout (st : StreamNo)
  /-- BLOCK_COMMIT (R99): A controller accepts a ring block into its write queue, and RING_HEAD and the segment cursor advance. -/
  | blockCommit (st : StreamNo)
  /-- STREAM_ENABLE (R72): A write of ENABLE = 1 checks the stream and takes it from DISABLED to ARMED. -/
  | streamEnable (st : StreamNo) (w : World)
  /-- STREAM_DISABLE (R73): A write of ENABLE = 0 takes an ARMED, RUNNING or ENDED stream to FLUSHING. -/
  | streamDisable (st : StreamNo) (w : World)
  /-- PARTITION_WRITE (R95): A write of PARTITION re-divides Millpond at once, after its checks. -/
  | partitionWrite (w : World) (v : BitVec 32)
  /-- ELASTIC_PEAK_RESET (R98): A write of 0 to ELASTIC_PEAK resets it. -/
  | elasticPeakReset (w : World)
  /-- REGION_DEFINE (R83): A write taking PERSONALITY from NONE to another personality checks and defines the region. -/
  | regionDefine (r : RegionNo) (w : World) (per : BitVec 8)
  /-- REGION_FREE (R162): A write of NONE to PERSONALITY frees the region, or defers the free while leases hold it. -/
  | regionFree (r : RegionNo) (w : World)
  /-- WINDOW_ARM (R103): A write of ARM = 1 checks a DISARMED window and arms it. -/
  | windowArm (n : WindowNo) (w : World)
  /-- WINDOW_DISARM (R103): A write of ARM = 0 disarms an ARMED window. -/
  | windowDisarm (n : WindowNo) (w : World)
  /-- WINDOW_RELEASE (R116): A write of RELEASE = 1 releases a PENDING or COMPLETE window, decrementing HOLDS and rearming or disarming it. -/
  | windowRelease (n : WindowNo) (w : World)
  /-- TRIGGER (R108): A Headrace TRIGGER cell is decided on by a window: it freezes, extends or is refused, and it is answered. -/
  | trigger (p : Port) (c : Cell)
  /-- CONTEXT_START (R122): A write of START = 1 checks an IDLE context, takes its credit and sets it RUNNING. -/
  | contextStart (x : ContextNo) (w : World)
  /-- CONTEXT_STOP (R124): A write of START = 0 takes a RUNNING context to STOPPING and closes its open frame as SHORT. -/
  | contextStop (x : ContextNo) (w : World)
  /-- CONTEXT_OP_WRITE (R130): A write of OP sets the operation and also resets EXCLUDE. -/
  | contextOpWrite (x : ContextNo) (w : World) (op : BitVec 8)
  /-- CLOSE_NOW (R133): A write of CLOSE_NOW closes the open frame after the row being decided. -/
  | closeNow (x : ContextNo) (w : World)
  /-- FRAME_CLOSE_COMPLETE (R133): The last close writes are accepted; the summary, READY and generation are published in one cycle. -/
  | frameCloseComplete (x : ContextNo)
  /-- JOB_START (R146): A write of START = 1 checks a drain job, takes its credit and fixes its source. -/
  | jobStart (j : JobNo) (w : World)
  /-- JOB_CANCEL (R149): A write of CANCEL = 1 cancels a RUNNING or HALTED job. -/
  | jobCancel (j : JobNo) (w : World)
  /-- JOB_RESUME (R157): A write of RESUME = 1 restarts a HALTED job at its first record that is not complete. -/
  | jobResume (j : JobNo) (w : World)
  /-- JOB_CELL_SEND (R154): With credit and rate available, a job sends its next STREAM cell or pushed WRITE transaction, or writes its next LOCAL block. `tag` is the hub tag that a new transaction takes (R48, R154). -/
  | jobCellSend (j : JobNo) (tag : BitVec 12)
  /-- PUSH_RESP_TIMEOUT (R154): With no answer within RESP_TIMEOUT, a pushed transaction is sent again or the job halts at RETRY_LIMIT. -/
  | pushRespTimeout (j : JobNo) (tag : Nat)
  /-- JOB_STALL_TIMEOUT (R156): With no BLK credit for STALL_TIMEOUT, a job halts with cause STALLED. -/
  | jobStallTimeout (j : JobNo)
  /-- CHECKPOINT_SIGNED (R350): Signing of a protected job's checkpoint completes; it is published and spilled to flash. -/
  | checkpointSigned (j : JobNo)
  /-- LEASE_ENABLE (R158): A write of ENABLE = 1 checks a lease and makes it ACTIVE, counting a first frame start. -/
  | leaseEnable (l : LeaseNo) (w : World)
  /-- LEASE_DISABLE (R158): A write of ENABLE = 0 returns a lease to IDLE. -/
  | leaseDisable (l : LeaseNo) (w : World)
  /-- FRAME_MARK (R159): A write of FRAME_MARK starts a lease frame and applies pending PERIOD and TOL values. -/
  | frameMark (l : LeaseNo) (w : World) (v : BitVec 32)
  /-- FRAME_OVERRUN (R159): With no marker by T_MARK + PERIOD + TOL, a frame start is assumed, and OVERRUN is set. -/
  | frameOverrun (l : LeaseNo)
  /-- LEASE_QUIET (R161): With no leased READ for QUIET_NS, the lease decision puts idle subchannels into power-down or self-refresh. -/
  | leaseQuiet (sc : ScNo)
  /-- LEASE_WAKE (R161): A lease-scheduled wake time arrives, and the subchannel leaves its low-power state. -/
  | leaseWake (sc : ScNo)
  /-- MC_REQUEST_ACCEPT (R168): A controller accepts a request from its command FIFO, forwarding or merging it when it matches a queued write. -/
  | mcRequestAccept (sc : ScNo)
  /-- MC_PICK (R174): A controller picks and issues one DRAM command. -/
  | mcPick (sc : ScNo) (t : PickTiming)
  /-- READ_DECODE (R249): Read data is decoded and judged OK, corrected, POISONED, held or uncorrectable, and is fed to Fantail and scrub. -/
  | readDecode (sc : ScNo) (d : ReadData)
  /-- REFRESH_INTERVAL (R176): A logical rank's refresh interval ends, and its debt D increases. -/
  | refreshInterval (sc : ScNo) (lr : RankNo)
  /-- REF_LATE (R181): A debt above POSTPONE held for one tREFI raises MC_REF_LATE. -/
  | refLate (sc : ScNo) (lr : RankNo)
  /-- MR4_POLL (R178): MR4_POLL_US expires, and MR4 of every die is read at FORCE. -/
  | mr4Poll (sc : ScNo)
  /-- MR4_RESULT (R179): MR4 results update the HOT or COLD rate, doubling the debt and issuing excess refreshes on a rise. -/
  | mr4Result (sc : ScNo) (lr : RankNo) (dies : List (Fin 3))
  /-- REQUEST_PROMOTE (R173): A BE or BG request that has reached its age is promoted. -/
  | requestPromote (sc : ScNo) (id : Nat)
  /-- ROW_IDLE_CLOSE (R175): An open row idle for ROW_IDLE_NS is precharged. -/
  | rowIdleClose (sc : ScNo) (bank : BankNo)
  /-- REFRESH_FLUSH (R182): A write of REFRESH_FLUSH takes a credit and issues every owed refresh at FORCE. -/
  | refreshFlush (w : World)
  /-- POWER_DOWN_ENTRY (R183): A package rank idle for PD_IDLE_NS enters power-down. -/
  | powerDownEntry (sc : ScNo) (pr : Fin 2)
  /-- SELF_REFRESH_ENTRY (R185): Once the subchannel's queues are empty, owed refreshes issue and the subchannel enters self-refresh. -/
  | selfRefreshEntry (sc : ScNo)
  /-- SELF_REFRESH_EXIT (R186): A subchannel leaves self-refresh, restarting its timers and polling MR4. -/
  | selfRefreshExit (sc : ScNo)
  /-- ADDR_MAP_WRITE (R166): A write of ADDR_MAP, accepted only with no region defined, changes the address map. -/
  | addrMapWrite (w : World) (v : BitVec 8)
  /-- ALERT_EVENT (R199): ALERT_n held low for 2 CK stops commands on the subchannel and raises DDR_ALERT. -/
  | alertEvent (sc : ScNo)
  /-- ALERT_DEASSERT (R199): ALERT_n returns high; the subchannel precharges, replays the window and resumes the pick. -/
  | alertDeassert (sc : ScNo)
  /-- ALERT_STUCK (R200): ALERT_n held low for 10 µs takes the subchannel OFFLINE. -/
  | alertStuck (sc : ScNo)
  /-- TRAIN_STEP_DONE (R206): A cold-training step finishes its sweep; the next step starts, or the results are published. -/
  | trainStepDone (sc : ScNo) (r : StepResult)
  /-- RETRAIN (R216): A write of RETRAIN = 1 to an OFFLINE subchannel queues a training credit and starts cold training. -/
  | retrain (sc : ScNo) (w : World)
  /-- TRACK_STARVED (R224): A lane without a qualified window for STARVE_MS becomes starved and asks for an insertion credit. -/
  | trackStarved (sc : ScNo) (pr : Fin 2) (k : LaneNo)
  /-- CREDIT_REASK (R424): A refused immediate credit of a retrying kind is asked for again at its period. -/
  | creditReask (kind : ReaskKind) (sc : ScNo) (pr : Fin 2)
  /-- TAP_STEP (R226): An applied delay or VREF value takes one rate-limited step toward its target. -/
  | tapStep (sc : ScNo) (pr : Fin 2) (k : LaneNo) (f : TapField)
  /-- DLL_TRIM_STEP (R229): The delay-locked loop adjusts a trim DAC by one step, or raises DDR_DLL_UNLOCK. -/
  | dllTrimStep (h : Half) (up : Option Bool)
  /-- MON_CAL (R230): A monitor channel's calibration falls due, and its 1 ms window begins. -/
  | monCal (ch : ChannelNo)
  /-- MON_CAL_DONE (R230): A calibration window ends; the trims are kept, or the calibration is retried or refused. -/
  | monCalDone (ch : ChannelNo) (rippleMv : Nat) (off : Int) (gain : Int)
  /-- MON_READING (R231): A monitor channel publishes a new reading, which drives temperature checks and recalibration. -/
  | monReading (ch : ChannelNo) (v : Int)
  /-- RECAL (R234): A write of RECAL = 1 recalibrates the subchannel with capture. -/
  | recal (sc : ScNo) (w : World)
  /-- CAPTURE (R235): With its credit granted, a capture takes the read-side values and starts the write sweep. -/
  | capture (sc : ScNo)
  /-- WRITE_SWEEP_DONE (R236): A package rank's write sweep finishes; the row is restored, and the set is stored or the capture fails. -/
  | writeSweepDone (sc : ScNo) (pr : Fin 2) (r : WriteSweep)
  /-- LEDGER_COMMIT (R237): A ledger record commit begins under the A/B slot rule. -/
  | ledgerCommit (rec : LedgerRec)
  /-- LEDGER_STEP_DONE (R238): An erase, program or read-back step of a commit completes, and the next begins or the commit ends. -/
  | ledgerStepDone (rec : LedgerRec) (flaw : List (Nat × Byte))
  /-- CAL_COMMIT_DUE (R238): COMMIT_MIN_S passes with calibration changes pending, and a commit begins. -/
  | calCommitDue (h : Half)
  /-- FORERUNNER_WRITE (R242): A write of a PMH-4016 record stores it and sets FORERUNNER_BAD if it is malformed. -/
  | forerunnerWrite (h : Half) (w : World) (bs : List Byte)
  /-- DECODER_SELFTEST (R251): Every SELFTEST_MS each decoder decodes its four test words. -/
  | decoderSelftest (sc : ScNo) (outcomes : List Nat)
  /-- ERASE_MAP_WRITE (R253): A firmware write of ERASE_MAP marks or clears a package erasure. -/
  | eraseMapWrite (sc : ScNo) (w : World) (v : BitVec 16)
  /-- SCRUB_ROW (R256): The next patrol scrub row falls due, and its reads are issued. -/
  | scrubRow (sc : ScNo)
  /-- REPAIR (R260): With its credit granted, a soft repair of a row runs its steps in service. -/
  | repair (sc : ScNo) (resource : Bool)
  /-- REPAIR_DONE (R260): The read-back of a repaired row decides SOFT, HARD_PENDING or FAILED, and the list is committed. `lr` is the logical rank whose repair ends. -/
  | repairDone (sc : ScNo) (lr : RankNo)
  /-- RAIL_EXCURSION (R278): An out-of-window run lasting FILTER_US is detected; the rail goes OUT and may be cut or descended. -/
  | railExcursion (rc : RailNo) (k : Excursion) (mv : Nat)
  /-- RAIL_RECOVER (R278): An OUT rail back in window for FILTER_US returns to GOOD. -/
  | railRecover (rc : RailNo)
  /-- PG_DISAGREE (R276): Power-good low for FILTER_US on a GOOD rail sets PG_DISAGREE. -/
  | pgDisagree (rc : RailNo)
  /-- COMPARATOR_TEST (R277): A rail's comparator self-test runs for 1 µs and may raise SQ_CHECK. -/
  | comparatorTest (rc : RailNo) (ok : Bool)
  /-- RAMP_STEP (R280): The sequencer enables the next rail in ramp order. -/
  | rampStep (code : Nat) (linear : Bool)
  /-- RAIL_UP (R280): The rising rail has power-good and is in window for FILTER_US, so it becomes GOOD. -/
  | railUp (us : Nat)
  /-- DELAY_ON_EXPIRY (R280): DELAY_ON_US passes, and the next ramp step or the cascade begins. -/
  | delayOnExpiry
  /-- RAMP_TIMEOUT (R281): A ramp step exceeds T_ON_MAX_MS, and RAMP fails into DESCENT. -/
  | rampTimeout
  /-- DESCENT_STEP (R283): The sequencer releases the next rail in reverse ramp order. -/
  | descentStep
  /-- RAIL_OFF (R283): A falling rail stays below OFF_CODE for FILTER_US and becomes OFF. -/
  | railOff (us : Nat)
  /-- DELAY_OFF_EXPIRY (R283): DELAY_OFF_US passes, and the next descent step begins or the sequencer enters OFF. -/
  | delayOffExpiry
  /-- DESCENT_STUCK (R284): A rail not falling within T_OFF_MAX_MS becomes STUCK, and descent continues. -/
  | descentStuck
  /-- SQ_UP_IN_RISE (R285): SQ_UP_IN goes high, an on request. -/
  | sqUpInRise
  /-- SQ_UP_IN_FALL (R285): SQ_UP_IN goes low, an off request. -/
  | sqUpInFall
  /-- POWER_REQ_OFF (R285): A write of POWER_REQ OFF requests descent. -/
  | powerReqOff (w : World)
  /-- POWER_REQ_CYCLE (R285): A write of POWER_REQ CYCLE requests descent and latches an on request. -/
  | powerReqCycle (w : World)
  /-- DWELL_END (R287): DWELL_MS after OFF passes, and RAMP begins if an on request stands and retries remain. -/
  | dwellEnd
  /-- SQ_DN_IN_CHANGE (R290): SQ_DN_IN is stable for 10 µs, ending a cascade wait. -/
  | sqDnInChange (level : Bool)
  /-- CASCADE_TIMEOUT (R290): A cascade wait exceeds T_CASCADE_MS, and SQ_CASCADE is raised. -/
  | cascadeTimeout
  /-- INPUT_COLLAPSE (R292): SQ_PFAIL_N low or AO supply below 3.10 V for 2 µs releases all enables and enters OFF. -/
  | inputCollapse (aoLow : Bool)
  /-- AO_RESET_RELEASE (R291): The always-on supply holds above 3.12 V for 10 ms; the domain leaves reset and clears the lockout latch. -/
  | aoResetRelease
  /-- MARGIN_WRITE (R294): A write of MARGIN checks and sets a rail's margin target. -/
  | marginWrite (rc : RailNo) (w : World) (v : BitVec 32)
  /-- MARGIN_STEP (R294): Every MARGIN_STEP_US the margin output moves one 0.5 % step toward its target. -/
  | marginStep (rc : RailNo)
  /-- PMBUS_POLL (R295): Every 10 ms the hub polls each PMBus rail. -/
  | pmbusPoll (rs : List PmbusResult)
  /-- PMBUS_ALERT (R295): A falling SQ_PMB_ALERT_N causes an immediate poll of every PMBus rail. -/
  | pmbusAlert (rs : List PmbusResult)
  /-- FIRST_FAILURE_END (R297): A first-failure event ends, and its log entry is committed. -/
  | firstFailureEnd
  /-- FAULT_EVENT (R303): A source pair changes to FAULT; the event is classified, acted on, logged and captured. -/
  | faultEvent (src : SourceNo) (ctx : FaultCtx)
  /-- WIRE_FAULT (R303): A pair reads INVALID twice, which is handled as an event with the WIRE mark. -/
  | wireFault (src : SourceNo)
  /-- SOURCE_IDLE (R303): A source pair returns to IDLE, and ACTIVE clears. -/
  | sourceIdle (src : SourceNo)
  /-- QUIET_WINDOW_CLOSE (R317): A reaction's quiet window closes; the opening record is rewritten, and standing conditions are raised with LATE. -/
  | quietWindowClose (id : Nat)
  /-- FAULT_INJECT (R321): A write of FORCE = 1 drives a source pair to FAULT for 16 cycles. -/
  | faultInject (src : SourceNo) (w : World)
  /-- INJECTION_END (R322): An injection ends, and a latched real condition is presented with the REAL mark. -/
  | injectionEnd (src : SourceNo)
  /-- PIN_READBACK_FAULT (R320): ERR_N or SAFE_N reads back wrongly for 1 µs, and FC_PIN is raised. -/
  | pinReadbackFault
  /-- FE_REARM (R323): A write of FE_REARM = 1 zeroes FIRST_ERROR and FE_LATER. -/
  | feRearm (w : World)
  /-- CLEAR_ALL (R332): A write of CLEAR_ALL = 1 clears every PENDING. -/
  | clearAll (w : World)
  /-- STATUS_FLAG_CLEAR (R10): A write to a W1C object clears the flags written 1, and a set in the same cycle wins. -/
  | statusFlagClear (w : World) (idx : BitVec 16) (sub : BitVec 8) (v : BitVec 32) (set : BitVec 32)
  /-- CONFIG_SCAN (R329): The 1 ms parity scan of the collector configuration may raise FC_REG and enter FALLBACK. -/
  | configScan (bad : Option Nat)
  /-- RECEIVER_SELFTEST (R329): Every 10 µs one pair receiver is self-tested. -/
  | receiverSelftest (src : SourceNo) (ok : Bool)
  /-- KEY_IMPORT (R340): A write of a slot's KEY imports, wraps and commits a record key. -/
  | keyImport (k : KeySlotNo) (w : World) (key : BitVec 256)
  /-- KEY_ERASE (R340): A write of ERASE = 1 empties a key slot and halts its jobs with cause KEY. -/
  | keyErase (k : KeySlotNo) (w : World)
  /-- FUSE_OWNER_KEY (R338): FUSE_PROGRAM OP 1 programs an owner key hash. -/
  | fuseOwnerKey (w : World) (arg : BitVec 8) (hash : BitVec 384)
  /-- FUSE_REVOKE (R338): FUSE_PROGRAM OP 2 revokes an owner key. -/
  | fuseRevoke (w : World) (arg : BitVec 8)
  /-- FUSE_SVN_FLOOR (R338): FUSE_PROGRAM OP 3 raises the SVN floor. -/
  | fuseSvnFloor (w : World) (arg : BitVec 8)
  /-- FUSE_SECURE_BOOT (R338): FUSE_PROGRAM OP 4 enforces secure boot. -/
  | fuseSecureBoot (w : World)
  /-- FUSE_JTAG_PERM_LOCK (R338): FUSE_PROGRAM OP 5 permanently locks JTAG. -/
  | fuseJtagPermLock (w : World)
  /-- SUPERVISOR_BOOT (R343): A half's boot ROM selects, checks and runs an image, falls back, or enters RECOVERY. -/
  | supervisorBoot (h : Half)
  /-- IMG_OPEN (R344): A write of IMG_OPEN selects an image slot to fill. -/
  | imgOpen (w : World) (v : BitVec 8)
  /-- IMG_DATA (R344): A write of IMG_DATA appends bytes to the open slot. -/
  | imgData (w : World) (bs : List Byte)
  /-- IMG_CLOSE (R344): A write of IMG_CLOSE checks the slot and sets it VALID or INVALID. -/
  | imgClose (w : World)
  /-- ACTIVATE (R345): A write of ACTIVATE restarts a half on a new image in TRIAL. -/
  | activate (w : World) (v : BitVec 8)
  /-- CONFIRM (R345): A write of CONFIRM commits BOOT_SLOT and returns the half to RUNNING. -/
  | confirm (w : World) (v : BitVec 8)
  /-- TRIAL_EXPIRY (R345): TRIAL_S passes without CONFIRM, and the half reverts to its previous slot. -/
  | trialExpiry (h : Half)
  /-- CP_FETCH (R352): A write of CP_FETCH_SEQ loads the stored checkpoint into CP_FETCHED. -/
  | cpFetch (w : World) (v : BitVec 64)
  /-- JTAG_INSTRUCTION (R354): A JTAG instruction is loaded and either admitted or decoded as BYPASS with SEC_JTAG. -/
  | jtagInstruction (i : JtagInstr)
  /-- JTAG_TEST_LOGIC_RESET (R355): The TAP passes Test-Logic-Reset, and a pending JTAG_MODE takes effect. -/
  | jtagTestLogicReset
  /-- LOA_READ (R371): An LOA READ returns an object value, or a segment from the session snapshot. -/
  | loaRead (a : LoaArrival)
  /-- LOA_WRITE (R372): An LOA WRITE assembles segments and applies the value under R446. -/
  | loaWrite (a : LoaArrival)
  /-- LOA_DESCRIBE (R374): An LOA DESCRIBE returns an object's type, access, world, persistence and size. -/
  | loaDescribe (a : LoaArrival)
  /-- LOA_OPEN (R366): An LOA OPEN assigns a UDP session and returns the hub nonce. -/
  | loaOpen (a : LoaArrival) (nh : BitVec 128)
  /-- LOA_AUTH (R367): An LOA AUTH derives KS and admits the session to the secure world. -/
  | loaAuth (a : LoaArrival)
  /-- LOA_CLOSE (R366): An LOA CLOSE closes the session and discards its state. -/
  | loaClose (a : LoaArrival)
  /-- LOA_SUBSCRIBE (R377): An LOA SUBSCRIBE turns notifications on or off for the session. -/
  | loaSubscribe (a : LoaArrival)
  /-- LOA_NOTIFY_ACK (R378): An acknowledgement of a NOTIFY ends its retries. -/
  | loaNotifyAck (a : LoaArrival)
  /-- LOA_ECHO (R363): An LOA ECHO returns its data bytes. -/
  | loaEcho (a : LoaArrival)
  /-- NOTIFY_RETRY (R378): An unacknowledged NOTIFY is resent after NOTIFY_RETRY_MS, or is counted lost. -/
  | notifyRetry (session : Nat) (seq : Nat)
  /-- SESSION_IDLE (R366): A UDP session idle for SESSION_IDLE_S closes. -/
  | sessionIdle (session : Nat)
  /-- ARP_REQUEST (R364): An ARP request on the management port is answered. -/
  | arpRequest (target : BitVec 32) (fromMac : BitVec 48) (fromIp : BitVec 32)
  /-- NEIGHBOR_SOLICITATION (R364): An IPv6 Neighbor Discovery solicitation is answered. -/
  | neighborSolicitation (target : BitVec 128) (fromMac : BitVec 48) (fromIp : BitVec 128)
  /-- ICMP_ECHO (R364): An ICMPv4 or ICMPv6 echo request is answered. -/
  | icmpEcho (v6 : Bool) (dst : BitVec 128) (src : BitVec 128) (data : List Byte)
  /-- MG_LINK_CHANGE (R364): The management port link goes up or down, raising MG_LINK when it is lost. -/
  | mgLinkChange (up : Bool)
  /-- MG_ADDRESS_WRITE (R380): A write of an address or MG_MODE closes UDP sessions and schedules the change. -/
  | mgAddressWrite (w : World) (sub : BitVec 8) (v : BitVec 128)
  /-- MG_ADDRESS_APPLY (R380): 1 ms after the reply, the new address or mode takes effect. -/
  | mgAddressApply
  /-- ADMIT_KEY (R369): A write of ADMIT_KEY wraps and commits a new admission key. -/
  | admitKey (w : World) (key : BitVec 256)
  /-- FACTORY_DEFAULTS (R379): A write of FACTORY_DEFAULTS in SERVICE resets LEDGER objects and commits them. -/
  | factoryDefaults (w : World)
  /-- SAIL_BLOCK_LOCK (R386): A Sail port gains clause 49 block lock and sends its HELLO. -/
  | sailBlockLock (sp : SailNo)
  /-- SAIL_LINK_DOWN (R386): Lost block lock, or 100 µs with no valid message, takes a Sail port DOWN and raises SL_LINK. -/
  | sailLinkDown (sp : SailNo)
  /-- SAIL_TRIGGER (R392): A Sail TRIGGER message is forwarded and offered to Weir. -/
  | sailTrigger (sp : SailNo) (m : SailArrival)
  /-- SAIL_EPOCH (R399): A Sail EPOCH message is forwarded downward and accepted or refused as a pending epoch. -/
  | sailEpoch (sp : SailNo) (m : SailArrival)
  /-- SAIL_SEQ (R385): A SEQ message acknowledges reliable messages up to its LSEQ. -/
  | sailSeq (sp : SailNo) (m : SailArrival)
  /-- SAIL_SEQ_KEEPALIVE (R385): While a port is idle, a SEQ is sent at least every 10 µs. -/
  | sailSeqKeepalive (sp : SailNo)
  /-- SAIL_RETX (R385): RETX_NS after the oldest unacknowledged message was sent, every unacknowledged message is resent. -/
  | sailRetx (sp : SailNo)
  /-- TIME_SYNC_SEND (R395): Every TIME_INTERVAL_US the parent sends a TIME SYNC on each child port. -/
  | timeSyncSend
  /-- TIME_SYNC (R395): A TIME SYNC is received, and the child sends its DREQ. -/
  | timeSync (sp : SailNo) (m : SailArrival)
  /-- TIME_DREQ (R395): A TIME DREQ is received, and the parent answers with a DRESP. -/
  | timeDreq (sp : SailNo) (m : SailArrival)
  /-- TIME_DRESP (R397): A TIME DRESP completes an exchange, and the offset is applied to the discipline loop. -/
  | timeDresp (sp : SailNo) (m : SailArrival)
  /-- HEALTH_HELLO (R390): A HEALTH HELLO is checked, and the port enters UP or REFUSED. -/
  | healthHello (sp : SailNo) (m : SailArrival)
  /-- HEALTH_STATUS (R391): A HEALTH STATUS is recorded, flooded and counted into SUBTREE. -/
  | healthStatus (sp : SailNo) (m : SailArrival)
  /-- HEALTH_DUAL_HELM (R390): A HEALTH DUAL_HELM sets DUAL_HELM and raises SL_DUAL_HELM. -/
  | healthDualHelm (sp : SailNo) (m : SailArrival)
  /-- HEALTH_REFUSED (R390): A HEALTH REFUSED report is delivered and flooded. -/
  | healthRefused (sp : SailNo) (m : SailArrival)
  /-- HEALTH_PERIOD (R391): Every HEALTH_PERIOD_MS the hub sends a HEALTH STATUS. -/
  | healthPeriod
  /-- EPOCH_NOW (R398): A write of EPOCH_NOW on the helm originates an EPOCH. -/
  | epochNow (w : World)
  /-- EPOCH_PERIOD (R398): Every EPOCH_PERIOD_MS the helm originates an EPOCH. -/
  | epochPeriod
  /-- EPOCH_LATCH (R400): At the latch tick the snapshot counters are taken. -/
  | epochLatch
  /-- SNAPSHOT_PUBLISH (R400): The epoch snapshot is copied and published as one generation. -/
  | snapshotPublish
  /-- PTP_ANNOUNCE (R394): A PTP Announce feeds the best master clock algorithm. -/
  | ptpAnnounce (m : PtpAnnounce)
  /-- PTP_SYNC (R394): A PTP Sync or Follow_Up is stamped, and a Delay_Req follows. -/
  | ptpSync (m : PtpSync)
  /-- PTP_DELAY_RESP (R397): A PTP Delay_Resp completes a measurement, which is applied to hub time. -/
  | ptpDelayResp (m : PtpDelayResp)
  /-- PPS_EDGE (R396): A rising edge of PPS_IN is stamped, and the edge is used or rejected. -/
  | ppsEdge (stamp : BitVec 96)
  /-- HOLDOVER (R397): With no measurement for HOLDOVER_S, the hub enters HOLDOVER and raises TIME_LOST. -/
  | holdover
  /-- HEARTBEAT_WRITE (R401): A supervisor writes its heartbeat register. -/
  | heartbeatWrite (h : Half) (v : BitVec 32)
  /-- SUP_WDOG (R304): A heartbeat 10 ms old makes its half not HEALTHY and raises SUP_WDOG. -/
  | supWdog (h : Half)
  /-- DECISION_POST (R402): A supervisor posts a decision number and digest. -/
  | decisionPost (h : Half) (num : Nat) (digest : BitVec 32)
  /-- DECIDE_MISS (R402): A digest missing after 100 µs counts in DECIDE_MISS. -/
  | decideMiss (num : Nat)
  /-- BATON_ARBITRATE (R403): Every 1 µs the arbiter evaluates the heartbeats and may move the baton or raise BATON_CONFLICT. -/
  | batonArbitrate
  /-- STATE_REQ_SERVICE (R409): STATE_REQ SERVICE takes IDLE or DEGRADED to SERVICE. -/
  | stateReqService (w : World)
  /-- STATE_REQ_LEAVE_SERVICE (R409): STATE_REQ LEAVE_SERVICE returns to IDLE or DEGRADED. -/
  | stateReqLeaveService (w : World)
  /-- STATE_REQ_SLEEP (R415): STATE_REQ SLEEP takes the exit credits and puts every subchannel into self-refresh. -/
  | stateReqSleep (w : World)
  /-- STATE_REQ_WAKE (R414): STATE_REQ WAKE starts a SLEEP_EXIT start through RESTORE. -/
  | stateReqWake (w : World)
  /-- STATE_REQ_EXIT_SAFE (R409): STATE_REQ EXIT_SAFE leaves SAFE for SELFTEST. -/
  | stateReqExitSafe (w : World)
  /-- SAFE_FLUSH (R416): SAFE_FLUSH_US passes; uncommitted blocks are discarded, and subchannels enter self-refresh. -/
  | safeFlush
  /-- SELFTEST_DONE (R412): SELFTEST checks finish, and the device enters RESTORE or TRAIN. -/
  | selftestDone (r : SelftestResult)
  /-- RESTORE_DONE (R413): A restore's verification ends, and the subchannel is TRAINED or goes to cold training. -/
  | restoreDone (sc : ScNo) (r : RestoreResult)
  /-- SHUTDOWN_PHASE_END (R419): The orderly phase ends when all is flushed or SHUTDOWN_MAX_MS passes, and DESCENT follows. -/
  | shutdownPhaseEnd (forced : Bool)
  /-- SC_ORDER_OFFLINE (R420): SC_ORDER OFFLINE takes a subchannel OFFLINE. -/
  | scOrderOffline (sc : ScNo) (w : World)
  /-- SC_ORDER_HOLD (R420): SC_ORDER HOLD puts a subchannel into held self-refresh. -/
  | scOrderHold (sc : ScNo) (w : World)
  /-- SC_ORDER_ONLINE (R420): SC_ORDER ONLINE returns a subchannel to service, filling it first if CONTENT_LOST. -/
  | scOrderOnline (sc : ScNo) (w : World)
  /-- OFFLINE_HOLD_EXPIRY (R421): OFFLINE_HOLD_US after entry, the requests of an OFFLINE or held subchannel are answered or dropped. -/
  | offlineHoldExpiry (sc : ScNo)
  /-- FILL_DONE (R422): The poison fill of a CONTENT_LOST subchannel completes, and its bit clears. -/
  | fillDone (sc : ScNo)
  /-- SLUICE_GRANT (R425): Sluice grants the head of its queue once credit is free. -/
  | sluiceGrant
  /-- SLUICE_BUDGET_WRITE (R423): A write of BUDGET_MW, BASE_MW or FLOOR_MW recomputes the pool, possibly setting OVER_POOL. -/
  | sluiceBudgetWrite (w : World) (sub : BitVec 8) (v : BitVec 32)
  /-- REGISTER_WRITE (R446): A write to an object without a row of its own is checked and applied. -/
  | registerWrite (w : World) (idx : BitVec 16) (sub : BitVec 8) (bs : List Byte)
  /-- GLITCH (R275): An out-of-window excursion of a rail ends before FILTER_US has passed, so GLITCHES increments and GLITCH is set with nothing raised. -/
  | glitch (rc : RailNo)
  /-- MONITOR_READING_STALE (R231): A monitor reading ages past 4 update periods, or a refused channel's trim ages past MON_TRIM_MAX_AGE_S, so the reading turns STALE, TEMP_STALE is set and MON_CHECK becomes ACTIVE. -/
  | monitorReadingStale (ch : ChannelNo)
  /-- ALWAYS_ON_RESET (R291): The always-on supply falls away after collapse and the always-on domain enters reset, with the sequencer, baton register, lockout latch and AO_US counter returning to their reset values. -/
  | alwaysOnReset
  deriving DecidableEq, Repr

end Sys2Proof
end

