-- ==== Sys2Proof/Machine/Bits.lean ====
section
/-! DEFINITION. Bit fields, byte order, two's complement, saturation and the two CRCs. Object values and message fields
are natural numbers; every field of a message travels most significant byte first (00_scope.md R5). -/

namespace Sys2Proof.Machine

/-- Bits [hi:lo] of a value (R5). -/
def field (hi lo v : Nat) : Nat := (v >>> lo) % 2 ^ (hi + 1 - lo)

/-- One bit of a value. -/
def bit (n v : Nat) : Bool := v.testBit n

/-- Replace bits [hi:lo] of a value. -/
def setField (hi lo v x : Nat) : Nat :=
  v - (field hi lo v) <<< lo + (x % 2 ^ (hi + 1 - lo)) <<< lo

/-- Set or clear one bit. -/
def setBitTo (n : Nat) (b : Bool) (v : Nat) : Nat :=
  if v.testBit n then (if b then v else v - 2 ^ n) else (if b then v + 2 ^ n else v)

/-- A Boolean as the number an object holds (R8). -/
def ofBool (b : Bool) : Nat := if b then 1 else 0

/-- The smaller of a value and the largest a width holds. -/
def sat (w v : Nat) : Nat := if v < 2 ^ w then v else 2 ^ w - 1

/-- Two's complement of a width, as an integer (R8, I32). -/
def toSigned (w v : Nat) : Int :=
  let u := v % 2 ^ w
  if u < 2 ^ (w - 1) then (u : Int) else (u : Int) - (2 : Int) ^ w

/-- An integer as two's complement of a width. -/
def ofSigned (w : Nat) (i : Int) : Nat := (i % (2 : Int) ^ w).toNat

/-- An integer saturated into two's complement of a width. -/
def satSigned (w : Nat) (i : Int) : Nat :=
  if i < -((2 : Int) ^ (w - 1)) then ofSigned w (-((2 : Int) ^ (w - 1)))
  else if (2 : Int) ^ (w - 1) ≤ i then ofSigned w ((2 : Int) ^ (w - 1) - 1)
  else ofSigned w i

/-- Quotient rounded up. -/
def ceilDiv (a b : Nat) : Nat := (a + b - 1) / b

/-- Bytes, most significant first, as a number (R5). -/
def ofBytes (bs : List Byte) : Nat := bs.foldl (fun a b => a * 256 + b.toNat) 0

/-- The n bytes of a number, most significant first (R5). -/
def toBytes : Nat → Nat → List Byte
  | 0, _ => []
  | n + 1, v => BitVec.ofNat 8 (v / 256 ^ n) :: toBytes n v

/-- Bytes, least significant first, as a number. -/
def ofBytesLe : List Byte → Nat
  | [] => 0
  | b :: t => b.toNat + 256 * ofBytesLe t

/-- The n bytes of a number, least significant first. -/
def toBytesLe : Nat → Nat → List Byte
  | 0, _ => []
  | n + 1, v => BitVec.ofNat 8 v :: toBytesLe n (v / 256)

/-- Part of a list. -/
def slice {α : Type} (i n : Nat) (l : List α) : List α := (l.drop i).take n

/-- Element of a list or a default. -/
def nth {α : Type} (l : List α) (i : Nat) (d : α) : α := (l[i]?).getD d

/-- One bit of a most-significant-first CRC of width w. -/
def crcBit (w poly crc : Nat) (b : Bool) : Nat :=
  let top := crc.testBit (w - 1)
  let s := (crc * 2) % 2 ^ w
  if top != b then s ^^^ poly else s

/-- One byte, most significant bit first. -/
def crcByte (w poly crc : Nat) (b : Byte) : Nat :=
  [7, 6, 5, 4, 3, 2, 1, 0].foldl (fun c i => crcBit w poly c (b.toNat.testBit i)) crc

/-- Take bytes into a CRC in order; each value is computed before the next byte is taken. -/
def crcTake (f : Nat → Byte → Nat) : List Byte → Nat → Nat
  | [], c => c
  | b :: t, c => if f c b = 0 then crcTake f t 0 else crcTake f t (f c b)

/-- CRC-16: polynomial 0x1021, initial value 0xFFFF, no reflection, no final inversion (02_headrace_links.md R36). -/
def crc16 (bs : List Byte) : Nat := crcTake (crcByte 16 0x1021) bs 0xFFFF

/-- One bit of the reflected CRC-32C. -/
def crc32cBit (crc : Nat) : Nat :=
  if crc % 2 = 1 then (crc / 2) ^^^ 0x82F63B78 else crc / 2

/-- One byte of the reflected CRC-32C. -/
def crc32cByte (crc : Nat) (b : Byte) : Nat :=
  (List.range 8).foldl (fun c _ => crc32cBit c) (crc ^^^ b.toNat)

/-- CRC-32C (Castagnoli): polynomial 0x1EDC6F41 reflected, initial value and final inversion all ones (RFC 3385). -/
def crc32c (bs : List Byte) : Nat := crcTake crc32cByte bs 0xFFFFFFFF ^^^ 0xFFFFFFFF

/-- Number of set bits among the low w. -/
def popcount (w v : Nat) : Nat := (List.range w).foldl (fun n i => if v.testBit i then n + 1 else n) 0

/-- A mask with the bits of the numbers below w that satisfy a test. -/
def maskOf (w : Nat) (p : Nat → Bool) : Nat :=
  (List.range w).foldl (fun m i => if p i then m + 2 ^ i else m) 0

/-- Go on with a list each of whose numbers has been computed. -/
def settled {α : Type} : List Nat → (List Nat → α) → α
  | [], k => k []
  | 0 :: t, k => settled t fun u => k (0 :: u)
  | (n + 1) :: t, k => settled t fun u => k ((n + 1) :: u)

/-- Go on with a number that has been computed. -/
def settledNat {α : Type} : Nat → (Nat → α) → α
  | 0, k => k 0
  | n + 1, k => k (n + 1)

end Sys2Proof.Machine
end

