-- ==== Sys2Proof/Machine/Rs.lean ====
section
/-! DEFINITION. The code of the bursts: RS(80,64) over GF(2^8), its encoder, its decoder and the decoder's acceptance
rule (10_ecc_repair.md R247 to R250). A word is a list of 80 symbols c_0 to c_79. -/

namespace Sys2Proof.Machine

/-- Multiply by α = 0x02 in GF(2^8) with field polynomial 0x11D (R247). -/
def gfDouble (a : Nat) : Nat := (2 * a) ^^^ (a / 128 * 0x11D)

/-- Product in GF(2^8). -/
def gfMul (a b : Nat) : Nat :=
  [0, 1, 2, 3, 4, 5, 6, 7].foldr (fun i acc => gfDouble acc ^^^ (b / 2 ^ i % 2 * a)) 0

/-- Powers of α. -/
def gfPow : Nat → Nat
  | 0 => 1
  | n + 1 => gfDouble (gfPow n)

/-- The inverse of a nonzero element: a^254. -/
def gfInv (a : Nat) : Nat :=
  let sq := fun x => gfMul x x
  let a2 := sq a
  let a4 := sq a2
  let a8 := sq a4
  let a16 := sq a8
  let a32 := sq a16
  let a64 := sq a32
  gfMul (sq a64) (gfMul a64 (gfMul a32 (gfMul a16 (gfMul a8 (gfMul a4 a2)))))

/-- Value of a polynomial, coefficients from the highest power down. -/
def gfEval (cs : List Nat) (x : Nat) : Nat := cs.foldl (fun acc c => gfMul acc x ^^^ c) 0

/-- Value of a polynomial, coefficients from x^0 up. -/
def gfEvalUp (cs : List Nat) (x : Nat) : Nat := cs.foldr (fun c acc => gfMul acc x ^^^ c) 0

/-- Product of polynomials, coefficients from x^0 up. -/
def gfPolyMul (a b : List Nat) : List Nat :=
  match a with
  | [] => []
  | x :: t =>
    let p := b.map (gfMul x)
    let q := 0 :: gfPolyMul t b
    (List.range (max p.length q.length)).map fun i => nth p i 0 ^^^ nth q i 0

/-- The generator g(x) = (x + α^0)(x + α^1)…(x + α^15), coefficients from x^0 up (R247). -/
def rsGen : List Nat := (List.range 16).foldl (fun g i => gfPolyMul g [gfPow i, 1]) [1]

/-- One step of the division of x^16 · d(x) by g(x): the remainder, from x^15 down, after one more data symbol. -/
def rsShift (g : List Nat) (rem : List Nat) (d : Nat) : List Nat :=
  let f := nth rem 0 0 ^^^ d
  (List.range 16).map fun i => nth rem (i + 1) 0 ^^^ gfMul f (nth g (15 - i) 0)

/-- The check symbols c_64 to c_79 of 64 data symbols (R247). -/
def rsCheck (data : List Nat) : List Nat := data.foldl (rsShift rsGen) (List.replicate 16 0)

/-- The syndromes r(α^i), i = 0 to 15, of a word read as Σ c_j · x^(79 − j). -/
def rsSyndromes (w : List Nat) : List Nat := (List.range 16).map fun i => gfEval w (gfPow i)

/-- The locator α^(79 − j) of symbol c_j. -/
def rsLocator (j : Nat) : Nat := gfPow (79 - j)

/-- State of the Berlekamp–Massey iteration: locator, previous locator, length. -/
structure BmState where
  lam : List Nat
  prev : List Nat
  len : Nat
  deriving DecidableEq, Repr

/-- One Berlekamp–Massey step at index r, with `f` erasures. -/
def bmStep (s : List Nat) (f : Nat) (st : BmState) (r : Nat) : BmState :=
  let delta := (List.range (r + 1)).foldl (fun a i => a ^^^ gfMul (nth st.lam i 0) (nth s (r - i) 0)) 0
  let shifted := 0 :: st.prev
  if delta = 0 then { st with prev := shifted }
  else
    let n := max st.lam.length shifted.length
    settled ((List.range n).map fun i => nth st.lam i 0 ^^^ gfMul delta (nth shifted i 0)) fun lam =>
    if 2 * st.len ≤ r + f then
      settled (st.lam.map (gfMul (gfInv delta))) fun prev => { lam := lam, prev := prev, len := r + 1 + f - st.len }
    else { lam := lam, prev := shifted, len := st.len }

/-- Degree of a polynomial with coefficients from x^0 up. -/
def gfDegree (p : List Nat) : Nat :=
  (List.range p.length).foldl (fun d i => if nth p i 0 ≠ 0 then i else d) 0

/-- Bounded-distance decoding with erasures: the error word, if a codeword lies within 2e + f ≤ 16 (R249). -/
def rsErrors (w : List Nat) (erased : List Nat) : Option (List Nat) :=
  if w.all (· == 0) then some (List.replicate 80 0)
  else
    settled (rsSyndromes w) fun s =>
    if s.all (· == 0) then some (List.replicate 80 0)
    else
      let gamma := erased.foldl (fun g j => gfPolyMul g [1, rsLocator j]) [1]
      let f := erased.length
      let st := (List.range (16 - f)).foldl (fun st i => bmStep s f st (f + i))
        { lam := gamma, prev := gamma, len := f }
      let deg := gfDegree st.lam
      if 16 < 2 * deg - f ∨ deg ≠ st.len then none
      else
        let roots := (List.range 80).filter fun j => gfEvalUp st.lam (gfInv (rsLocator j)) = 0
        if roots.length ≠ deg then none
        else
          let omega := (gfPolyMul s st.lam).take 16
          let deriv := (List.range (st.lam.length - 1)).map fun i => if i % 2 = 0 then nth st.lam (i + 1) 0 else 0
          let err := (List.range 80).map fun j =>
            if roots.contains j then
              let x := rsLocator j
              let xi := gfInv x
              gfMul x (gfMul (gfEvalUp omega xi) (gfInv (gfEvalUp deriv xi)))
            else 0
          if rsSyndromes err = s then some err else none

/-- The eight symbols of the package on a lane (R248). -/
def laneSymbols (k : Nat) : List Nat := (List.range 8).map fun s => 8 * k + s

/-- The poison vector P: check symbol c_(64+j) XORed with 0x5A ⊕ j (R250). -/
def poisonVector : List Nat := List.replicate 64 0 ++ (List.range 16).map fun j => 0x5A ^^^ j

/-- Sum of two words. -/
def rsAdd (a b : List Nat) : List Nat := (List.range 80).map fun i => nth a i 0 ^^^ nth b i 0

/-- Symbols in error outside the erased package. -/
def errSymbols (err : List Nat) (marked : Option Nat) : List Nat :=
  (List.range 80).filter fun j => nth err j 0 ≠ 0 && (match marked with | none => true | some k => j / 8 ≠ k)

/-- The acceptance limit of R249: no mark, e to 4 anywhere, 5 to 8 all in one package; one mark, e to 4. -/
def rsAccepts (syms : List Nat) (marked : Option Nat) : Bool :=
  let e := syms.length
  match marked with
  | some _ => e ≤ 4
  | none => e ≤ 4 || (e ≤ 8 && (List.range 10).any fun k => syms.all fun j => j / 8 == k)

/-- Decode a word with the package of a lane erased, or none: the error word when it is accepted (R249 step 1). -/
def rsDecode (w : List Nat) (marked : Option Nat) : Option (List Nat) :=
  match rsErrors w (match marked with | none => [] | some k => laneSymbols k) with
  | none => none
  | some err => if rsAccepts (errSymbols err marked) marked then some err else none

/-- What the decoder makes of a burst (R249 steps 1, 2 and 4). The residue is what remains in the word after the
decoder's correction: all zeros unless it miscorrected. -/
inductive Judgement where
  | data (syms residue : List Nat)
  | poisoned (syms residue : List Nat)
  | bad
  deriving DecidableEq, Repr

/-- The judgement of a burst, from the error word the wires added to it. The code is linear, so whether a word decodes
depends on the error word alone; `poison` says the stored word carries P (R249, R250). -/
def judge (err : List Nat) (poison : Bool) (marked : Option Nat) : Judgement :=
  let w := if poison then rsAdd err poisonVector else err
  match rsDecode w marked with
  | some e => .data (errSymbols e marked) (rsAdd w e)
  | none =>
    match rsDecode (rsAdd w poisonVector) marked with
    | some e => .poisoned (errSymbols e marked) (rsAdd (rsAdd w poisonVector) e)
    | none => .bad

/-- The data of a block after a residue of the decoder is added to it. -/
def addResidue (data : Nat) (residue : List Nat) : Nat :=
  data ^^^ (List.range 64).foldl (fun a i => a * 256 + nth residue i 0) 0

/-- The 80 symbols of a stored block: its 64 bytes, its check symbols, with P when it is poisoned (R247, R250). -/
def storedWord (data : Nat) (poison : Bool) : List Nat :=
  let d := (toBytes 64 data).map (·.toNat)
  let w := d ++ (if d.all (· == 0) then List.replicate 16 0 else rsCheck d)
  if poison then rsAdd w poisonVector else w

end Sys2Proof.Machine
end

