-- ==== Sys2Proof/Config.lean ====
section
/-! DEFINITION. What the part fixes and the spec does not state, and the free values: constants without a body, so that no
proof can see a value of one (DESIGN CHOICE; log entries 3, 4, 7 and 34). -/

namespace Sys2Proof

/-- SILICON_REV, object 0x1000.02 (R380: per part). DESIGN CHOICE, unsafe (log entry 3). -/
opaque Config.siliconRev : BitVec 16

/-- SERIAL, object 0x1000.03, from fuses (R380: per part). DESIGN CHOICE, unsafe (log entry 3). -/
opaque Config.serial : BitVec 128

/-- SPEED_MAX, object 0x1000.08 (R445: per part). DESIGN CHOICE, unsafe (log entry 3). -/
opaque Config.speedMax : BitVec 16

/-- MAC, object 0x1100.02 (R380: per part). DESIGN CHOICE, unsafe (log entry 3). -/
opaque Config.mac : BitVec 48

/-- DEVICE_PUBKEY, object 0x5000.03 (R356: per part): the public half of the device key. DESIGN CHOICE, unsafe (log entry 3). -/
opaque Config.devicePubkey : BitVec 776

/-- ROOT_KEY, the fuse key that wraps every stored key (R336, R340): a secret of the part.
DESIGN CHOICE, unsafe (log entry 3). -/
opaque Config.rootKey : BitVec 256

/-- The factory calibration of a monitor channel: offset and gain trims, per part (R230). DESIGN CHOICE, unsafe (log entry 3). -/
opaque Config.factoryTrim : Nat → Int × Int

/-- ECDSA P-384 signature of a SHA-384 digest under the device key: r then s, 96 bytes. FIPS 186-5 lets the signer
draw a random number per signature, so a counter of the model (`Core.drawn`) is a second argument. -/
opaque Config.ecdsaSign : (digest : BitVec 384) → (draw : Nat) → BitVec 768

/-- ECDSA P-384 verification of a signature over a digest under a public key (R342). -/
opaque Config.ecdsaVerify : (key : BitVec 776) → (digest : BitVec 384) → (signature : BitVec 768) → Bool

/-- The set of the combining cache that a 256-byte line of the data space falls in: R138 gives the sets and ways but not
the mapping. DESIGN CHOICE, safe (log entry 34). -/
opaque Config.cacheSet : (line : Nat) → Nat

/-- A byte of DRAM whose content the spec leaves undefined: `epoch` counts the losses of content of the subchannel.
DESIGN CHOICE, unsafe (log entry 4). -/
opaque Config.freeByte : (epoch addr : Nat) → BitVec 8

/-- CA0 to CA13 in the cycle in which a DRAM command's chip select is low: the encodings are those of JESD79-5, which R198 and
R204 name without restating them. DESIGN CHOICE, safe (log entry 76). -/
opaque Config.caWord : (command : Nat) → BitVec 14

/-- The 64 bits of a lane in a burst of the pseudo-random sequence of a seed, which R225 names without its generator.
DESIGN CHOICE, safe (log entry 77). -/
opaque Config.trainPattern : (seed burst : Nat) → BitVec 64

/-- A value the spec leaves open, wider than a byte: `draw` is the model's own counter `Core.drawn`.
DESIGN CHOICE, unsafe (log entry 7). -/
opaque Config.freeNat : (draw : Nat) → Nat

end Sys2Proof
end

