-- ==== Sys2Proof/Machine/Keys.lean ====
section
/-! DEFINITION. The key (index * 256 + subindex) of every object of the dictionary, named as the spec names it
(00_scope.md R7; each chapter's object table; 14_object_dictionary.md R382). -/

namespace Sys2Proof.Machine

/-! Id: index 0x1000 -/
@[simp] abbrev Obj.Id.DEVICE_NAME : Nat := 0x100001
@[simp] abbrev Obj.Id.SILICON_REV : Nat := 0x100002
@[simp] abbrev Obj.Id.SERIAL : Nat := 0x100003
@[simp] abbrev Obj.Id.HUB_ID : Nat := 0x100004
@[simp] abbrev Obj.Id.DICT_VERSION : Nat := 0x100005
@[simp] abbrev Obj.Id.FW_VERSION : Nat := 0x100006
@[simp] abbrev Obj.Id.FACTORY_DEFAULTS : Nat := 0x100007
@[simp] abbrev Obj.Id.SPEED_MAX : Nat := 0x100008

/-! Mg: index 0x1100 -/
@[simp] abbrev Obj.Mg.MG_MODE : Nat := 0x110001
@[simp] abbrev Obj.Mg.MAC : Nat := 0x110002
@[simp] abbrev Obj.Mg.IPV4_ADDR : Nat := 0x110003
@[simp] abbrev Obj.Mg.IPV4_PREFIX : Nat := 0x110004
@[simp] abbrev Obj.Mg.IPV4_GATEWAY : Nat := 0x110005
@[simp] abbrev Obj.Mg.IPV6_ADDR : Nat := 0x110006
@[simp] abbrev Obj.Mg.IPV6_PREFIX : Nat := 0x110007
@[simp] abbrev Obj.Mg.IPV6_GATEWAY : Nat := 0x110008
@[simp] abbrev Obj.Mg.LINK_STATE : Nat := 0x110009
@[simp] abbrev Obj.Mg.DATAGRAMS_BAD : Nat := 0x11000A

/-! Loa: index 0x1110 -/
@[simp] abbrev Obj.Loa.ADMIT_KEY : Nat := 0x111001
@[simp] abbrev Obj.Loa.ADMIT_KCV : Nat := 0x111002
@[simp] abbrev Obj.Loa.SESSION_IDLE_S : Nat := 0x111003
@[simp] abbrev Obj.Loa.NOTIFY_RETRY_MS : Nat := 0x111004
@[simp] abbrev Obj.Loa.SESSIONS : Nat := 0x111005
@[simp] abbrev Obj.Loa.SECURE_SESSIONS : Nat := 0x111006
@[simp] abbrev Obj.Loa.REQUESTS : Nat := 0x111007
@[simp] abbrev Obj.Loa.DUPLICATES : Nat := 0x111008
@[simp] abbrev Obj.Loa.AUTH_FAILS : Nat := 0x111009
@[simp] abbrev Obj.Loa.NOTIFY_LOST : Nat := 0x11100A
@[simp] abbrev Obj.Loa.FLAGS : Nat := 0x11100B
@[simp] abbrev Obj.Loa.SET_DURING_CLEAR : Nat := 0x11100C
@[simp] abbrev Obj.Loa.ADMIT_GEN : Nat := 0x11100D

/-! Time: index 0x1200 -/
@[simp] abbrev Obj.Time.HUB_TIME : Nat := 0x120001
@[simp] abbrev Obj.Time.TIME_VALID : Nat := 0x120002
@[simp] abbrev Obj.Time.TIME_SOURCE : Nat := 0x120003
@[simp] abbrev Obj.Time.PPS_MODE : Nat := 0x120004
@[simp] abbrev Obj.Time.DISC_STATE : Nat := 0x120005
@[simp] abbrev Obj.Time.OFFSET_PS : Nat := 0x120006
@[simp] abbrev Obj.Time.TRIM : Nat := 0x120007
@[simp] abbrev Obj.Time.STEP_LIMIT_NS : Nat := 0x120008
@[simp] abbrev Obj.Time.LOOP_TC_MS : Nat := 0x120009
@[simp] abbrev Obj.Time.TIME_INTERVAL_US : Nat := 0x12000A
@[simp] abbrev Obj.Time.HOLDOVER_S : Nat := 0x12000B
@[simp] abbrev Obj.Time.PTP_DOMAIN : Nat := 0x12000C
@[simp] abbrev Obj.Time.PTP_GM_ID : Nat := 0x12000D
@[simp] abbrev Obj.Time.STEPS : Nat := 0x12000E
@[simp] abbrev Obj.Time.PPS_REJECTS : Nat := 0x12000F
@[simp] abbrev Obj.Time.FLAGS : Nat := 0x120010
@[simp] abbrev Obj.Time.SET_DURING_CLEAR : Nat := 0x120011

/-! Hr: index 0x2000 -/
@[simp] abbrev Obj.Hr.PORT_ENABLE : Nat := 0x200001
@[simp] abbrev Obj.Hr.SET_DURING_CLEAR : Nat := 0x200002

/-! Port: index 0x2010 + 0x1·i, i < 8 -/
@[simp] abbrev Obj.Port.PORT_STATE (i : Nat) : Nat := (0x2010 + i) * 0x100 + 0x01
@[simp] abbrev Obj.Port.LANE_MASK_TX (i : Nat) : Nat := (0x2010 + i) * 0x100 + 0x02
@[simp] abbrev Obj.Port.LANE_MASK_RX (i : Nat) : Nat := (0x2010 + i) * 0x100 + 0x03
@[simp] abbrev Obj.Port.FLAGS (i : Nat) : Nat := (0x2010 + i) * 0x100 + 0x04
@[simp] abbrev Obj.Port.HCRC_ERRORS (i : Nat) : Nat := (0x2010 + i) * 0x100 + 0x05
@[simp] abbrev Obj.Port.PCRC_ERRORS (i : Nat) : Nat := (0x2010 + i) * 0x100 + 0x06
@[simp] abbrev Obj.Port.FEC_CORRECTED (i : Nat) : Nat := (0x2010 + i) * 0x100 + 0x07
@[simp] abbrev Obj.Port.FEC_UNCORRECTABLE (i : Nat) : Nat := (0x2010 + i) * 0x100 + 0x08
@[simp] abbrev Obj.Port.MALFORMED_COUNT (i : Nat) : Nat := (0x2010 + i) * 0x100 + 0x09
@[simp] abbrev Obj.Port.CREDIT_OVERFLOWS (i : Nat) : Nat := (0x2010 + i) * 0x100 + 0x0A
@[simp] abbrev Obj.Port.LANE_RETRAINS (i : Nat) : Nat := (0x2010 + i) * 0x100 + 0x0B
@[simp] abbrev Obj.Port.UNBOUND (i : Nat) : Nat := (0x2010 + i) * 0x100 + 0x0C

/-! Region: index 0x2300 + 0x1·i, i < 1024 -/
@[simp] abbrev Obj.Region.PERSONALITY (i : Nat) : Nat := (0x2300 + i) * 0x100 + 0x01
@[simp] abbrev Obj.Region.BASE_MIB (i : Nat) : Nat := (0x2300 + i) * 0x100 + 0x02
@[simp] abbrev Obj.Region.SIZE_MIB (i : Nat) : Nat := (0x2300 + i) * 0x100 + 0x03
@[simp] abbrev Obj.Region.RING_HEAD (i : Nat) : Nat := (0x2300 + i) * 0x100 + 0x04
@[simp] abbrev Obj.Region.WORLD (i : Nat) : Nat := (0x2300 + i) * 0x100 + 0x05
@[simp] abbrev Obj.Region.OWNER_MASK (i : Nat) : Nat := (0x2300 + i) * 0x100 + 0x06
@[simp] abbrev Obj.Region.RING_TAIL (i : Nat) : Nat := (0x2300 + i) * 0x100 + 0x07
@[simp] abbrev Obj.Region.DATA_MIB (i : Nat) : Nat := (0x2300 + i) * 0x100 + 0x08
@[simp] abbrev Obj.Region.SPAN_MIB (i : Nat) : Nat := (0x2300 + i) * 0x100 + 0x09
@[simp] abbrev Obj.Region.MAP_MIB (i : Nat) : Nat := (0x2300 + i) * 0x100 + 0x0A
@[simp] abbrev Obj.Region.STREAM (i : Nat) : Nat := (0x2300 + i) * 0x100 + 0x0B
@[simp] abbrev Obj.Region.SEGS_HELD (i : Nat) : Nat := (0x2300 + i) * 0x100 + 0x0C
@[simp] abbrev Obj.Region.SPANS_USED (i : Nat) : Nat := (0x2300 + i) * 0x100 + 0x0D
@[simp] abbrev Obj.Region.SPAN_HEAD (i : Nat) : Nat := (0x2300 + i) * 0x100 + 0x0E
@[simp] abbrev Obj.Region.CURSOR (i : Nat) : Nat := (0x2300 + i) * 0x100 + 0x0F
@[simp] abbrev Obj.Region.CONTEXT (i : Nat) : Nat := (0x2300 + i) * 0x100 + 0x10
@[simp] abbrev Obj.Region.SLOT_BYTES (i : Nat) : Nat := (0x2300 + i) * 0x100 + 0x11
@[simp] abbrev Obj.Region.NFRAMES_BOUND (i : Nat) : Nat := (0x2300 + i) * 0x100 + 0x12
@[simp] abbrev Obj.Region.RECORD_END (i : Nat) : Nat := (0x2300 + i) * 0x100 + 0x13
@[simp] abbrev Obj.Region.LEASES (i : Nat) : Nat := (0x2300 + i) * 0x100 + 0x1E
@[simp] abbrev Obj.Region.FREE_PENDING (i : Nat) : Nat := (0x2300 + i) * 0x100 + 0x1F

/-! Stream: index 0x2800 + 0x1·i, i < 256 -/
@[simp] abbrev Obj.Stream.ENABLE (i : Nat) : Nat := (0x2800 + i) * 0x100 + 0x01
@[simp] abbrev Obj.Stream.STATE (i : Nat) : Nat := (0x2800 + i) * 0x100 + 0x02
@[simp] abbrev Obj.Stream.PORT (i : Nat) : Nat := (0x2800 + i) * 0x100 + 0x03
@[simp] abbrev Obj.Stream.REGION (i : Nat) : Nat := (0x2800 + i) * 0x100 + 0x04
@[simp] abbrev Obj.Stream.FORMAT (i : Nat) : Nat := (0x2800 + i) * 0x100 + 0x05
@[simp] abbrev Obj.Stream.CLASS (i : Nat) : Nat := (0x2800 + i) * 0x100 + 0x06
@[simp] abbrev Obj.Stream.SPECLEN (i : Nat) : Nat := (0x2800 + i) * 0x100 + 0x07
@[simp] abbrev Obj.Stream.EXACT_ALLOWED (i : Nat) : Nat := (0x2800 + i) * 0x100 + 0x08
@[simp] abbrev Obj.Stream.START_INDEX (i : Nat) : Nat := (0x2800 + i) * 0x100 + 0x09
@[simp] abbrev Obj.Stream.T0 (i : Nat) : Nat := (0x2800 + i) * 0x100 + 0x0A
@[simp] abbrev Obj.Stream.RATE (i : Nat) : Nat := (0x2800 + i) * 0x100 + 0x0B
@[simp] abbrev Obj.Stream.GDELAY (i : Nat) : Nat := (0x2800 + i) * 0x100 + 0x0C
@[simp] abbrev Obj.Stream.MINPHASE (i : Nat) : Nat := (0x2800 + i) * 0x100 + 0x0D
@[simp] abbrev Obj.Stream.NEXT_INDEX (i : Nat) : Nat := (0x2800 + i) * 0x100 + 0x0E
@[simp] abbrev Obj.Stream.FLUSH_TIMEOUT (i : Nat) : Nat := (0x2800 + i) * 0x100 + 0x0F
@[simp] abbrev Obj.Stream.FLAGS (i : Nat) : Nat := (0x2800 + i) * 0x100 + 0x10
@[simp] abbrev Obj.Stream.CELLS (i : Nat) : Nat := (0x2800 + i) * 0x100 + 0x11
@[simp] abbrev Obj.Stream.GAP_SAMPLES (i : Nat) : Nat := (0x2800 + i) * 0x100 + 0x12
@[simp] abbrev Obj.Stream.LINK_ERR_CELLS (i : Nat) : Nat := (0x2800 + i) * 0x100 + 0x13
@[simp] abbrev Obj.Stream.BACKSTEPS (i : Nat) : Nat := (0x2800 + i) * 0x100 + 0x14
@[simp] abbrev Obj.Stream.DISC_APPLIED (i : Nat) : Nat := (0x2800 + i) * 0x100 + 0x15
@[simp] abbrev Obj.Stream.TB_LOG (i : Nat) : Nat := (0x2800 + i) * 0x100 + 0x16
@[simp] abbrev Obj.Stream.DISCARDED (i : Nat) : Nat := (0x2800 + i) * 0x100 + 0x17

/-! Millpond: index 0x2900 -/
@[simp] abbrev Obj.Millpond.PARTITION : Nat := 0x290001
@[simp] abbrev Obj.Millpond.ELASTIC_FILL : Nat := 0x290002
@[simp] abbrev Obj.Millpond.ELASTIC_PEAK : Nat := 0x290003
@[simp] abbrev Obj.Millpond.HIGH_WATER : Nat := 0x290004
@[simp] abbrev Obj.Millpond.LOW_WATER : Nat := 0x290005
@[simp] abbrev Obj.Millpond.THROTTLE_TIME : Nat := 0x290006
@[simp] abbrev Obj.Millpond.FLAGS : Nat := 0x290007
@[simp] abbrev Obj.Millpond.SET_DURING_CLEAR : Nat := 0x290008

/-! Preset: index 0x2901 -/
@[simp] abbrev Obj.Preset.RATE_PRESET (j : Nat) : Nat := 0x290100 + (0x01 + j)

/-! Window: index 0x2a00 + 0x1·i, i < 64 -/
@[simp] abbrev Obj.Window.STATE (i : Nat) : Nat := (0x2A00 + i) * 0x100 + 0x01
@[simp] abbrev Obj.Window.ARM (i : Nat) : Nat := (0x2A00 + i) * 0x100 + 0x02
@[simp] abbrev Obj.Window.PRE_NS (i : Nat) : Nat := (0x2A00 + i) * 0x100 + 0x03
@[simp] abbrev Obj.Window.POST_NS (i : Nat) : Nat := (0x2A00 + i) * 0x100 + 0x04
@[simp] abbrev Obj.Window.SOURCES (i : Nat) : Nat := (0x2A00 + i) * 0x100 + 0x05
@[simp] abbrev Obj.Window.DETECTOR_MATCH (i : Nat) : Nat := (0x2A00 + i) * 0x100 + 0x06
@[simp] abbrev Obj.Window.RETRIGGER (i : Nat) : Nat := (0x2A00 + i) * 0x100 + 0x07
@[simp] abbrev Obj.Window.SAIL_FORWARD (i : Nat) : Nat := (0x2A00 + i) * 0x100 + 0x08
@[simp] abbrev Obj.Window.RELEASE (i : Nat) : Nat := (0x2A00 + i) * 0x100 + 0x09
@[simp] abbrev Obj.Window.FLAGS (i : Nat) : Nat := (0x2A00 + i) * 0x100 + 0x0A
@[simp] abbrev Obj.Window.REARM (i : Nat) : Nat := (0x2A00 + i) * 0x100 + 0x0B
@[simp] abbrev Obj.Window.AUTO_RELEASE (i : Nat) : Nat := (0x2A00 + i) * 0x100 + 0x0C
@[simp] abbrev Obj.Window.GEN (i : Nat) : Nat := (0x2A00 + i) * 0x100 + 0x0D
@[simp] abbrev Obj.Window.READY (i : Nat) : Nat := (0x2A00 + i) * 0x100 + 0x0E
@[simp] abbrev Obj.Window.TRIGGER_ID (i : Nat) : Nat := (0x2A00 + i) * 0x100 + 0x0F
@[simp] abbrev Obj.Window.TRIGGER_SRC (i : Nat) : Nat := (0x2A00 + i) * 0x100 + 0x10
@[simp] abbrev Obj.Window.T_EVENT (i : Nat) : Nat := (0x2A00 + i) * 0x100 + 0x11
@[simp] abbrev Obj.Window.SEGS_RESERVED (i : Nat) : Nat := (0x2A00 + i) * 0x100 + 0x12
@[simp] abbrev Obj.Window.RETRIGGERS (i : Nat) : Nat := (0x2A00 + i) * 0x100 + 0x13
@[simp] abbrev Obj.Window.REFUSALS (i : Nat) : Nat := (0x2A00 + i) * 0x100 + 0x14
@[simp] abbrev Obj.Window.LAST_REFUSAL (i : Nat) : Nat := (0x2A00 + i) * 0x100 + 0x15
@[simp] abbrev Obj.Window.MEMBER (i j : Nat) : Nat := (0x2A00 + i) * 0x100 + (0x20 + j)
@[simp] abbrev Obj.Window.RESULT (i j : Nat) : Nat := (0x2A00 + i) * 0x100 + (0x30 + j)

/-! Quota: index 0x2c00 + 0x1·i, i < 1024 -/
@[simp] abbrev Obj.Quota.QUOTA_SEG (i : Nat) : Nat := (0x2C00 + i) * 0x100 + 0x01
@[simp] abbrev Obj.Quota.OVERFLOW (i : Nat) : Nat := (0x2C00 + i) * 0x100 + 0x02
@[simp] abbrev Obj.Quota.SEGS_COMMITTED (i : Nat) : Nat := (0x2C00 + i) * 0x100 + 0x03
@[simp] abbrev Obj.Quota.EVICTIONS (i : Nat) : Nat := (0x2C00 + i) * 0x100 + 0x04
@[simp] abbrev Obj.Quota.BLOCKED_SAMPLES (i : Nat) : Nat := (0x2C00 + i) * 0x100 + 0x05
@[simp] abbrev Obj.Quota.FLAGS (i : Nat) : Nat := (0x2C00 + i) * 0x100 + 0x06

/-! Context: index 0x3000 + 0x1·i, i < 128 -/
@[simp] abbrev Obj.Context.STATE (i : Nat) : Nat := (0x3000 + i) * 0x100 + 0x01
@[simp] abbrev Obj.Context.START (i : Nat) : Nat := (0x3000 + i) * 0x100 + 0x02
@[simp] abbrev Obj.Context.OP (i : Nat) : Nat := (0x3000 + i) * 0x100 + 0x03
@[simp] abbrev Obj.Context.ELEM (i : Nat) : Nat := (0x3000 + i) * 0x100 + 0x04
@[simp] abbrev Obj.Context.STREAM (i : Nat) : Nat := (0x3000 + i) * 0x100 + 0x05
@[simp] abbrev Obj.Context.REGION (i : Nat) : Nat := (0x3000 + i) * 0x100 + 0x06
@[simp] abbrev Obj.Context.NFRAMES (i : Nat) : Nat := (0x3000 + i) * 0x100 + 0x07
@[simp] abbrev Obj.Context.NROWS (i : Nat) : Nat := (0x3000 + i) * 0x100 + 0x08
@[simp] abbrev Obj.Context.START_ROW (i : Nat) : Nat := (0x3000 + i) * 0x100 + 0x09
@[simp] abbrev Obj.Context.X_FIRST (i : Nat) : Nat := (0x3000 + i) * 0x100 + 0x0A
@[simp] abbrev Obj.Context.XBINS (i : Nat) : Nat := (0x3000 + i) * 0x100 + 0x0B
@[simp] abbrev Obj.Context.XDIV (i : Nat) : Nat := (0x3000 + i) * 0x100 + 0x0C
@[simp] abbrev Obj.Context.YBINS (i : Nat) : Nat := (0x3000 + i) * 0x100 + 0x0D
@[simp] abbrev Obj.Context.YMODE (i : Nat) : Nat := (0x3000 + i) * 0x100 + 0x0E
@[simp] abbrev Obj.Context.Y_LOG_BASE (i : Nat) : Nat := (0x3000 + i) * 0x100 + 0x0F
@[simp] abbrev Obj.Context.Y_LOG_STEP (i : Nat) : Nat := (0x3000 + i) * 0x100 + 0x10
@[simp] abbrev Obj.Context.Y_LIN_OFFSET (i : Nat) : Nat := (0x3000 + i) * 0x100 + 0x11
@[simp] abbrev Obj.Context.Y_LIN_SCALE (i : Nat) : Nat := (0x3000 + i) * 0x100 + 0x12
@[simp] abbrev Obj.Context.Y_EDGE (i : Nat) : Nat := (0x3000 + i) * 0x100 + 0x13
@[simp] abbrev Obj.Context.LAYOUT (i : Nat) : Nat := (0x3000 + i) * 0x100 + 0x14
@[simp] abbrev Obj.Context.EXCLUDE (i : Nat) : Nat := (0x3000 + i) * 0x100 + 0x15
@[simp] abbrev Obj.Context.CREDIT_MW (i : Nat) : Nat := (0x3000 + i) * 0x100 + 0x16
@[simp] abbrev Obj.Context.FLAGS (i : Nat) : Nat := (0x3000 + i) * 0x100 + 0x17
@[simp] abbrev Obj.Context.FRAME (i : Nat) : Nat := (0x3000 + i) * 0x100 + 0x18
@[simp] abbrev Obj.Context.CLOSE_NOW (i : Nat) : Nat := (0x3000 + i) * 0x100 + 0x19
@[simp] abbrev Obj.Context.UPDATES (i : Nat) : Nat := (0x3000 + i) * 0x100 + 0x1A
@[simp] abbrev Obj.Context.ROWS_EXCLUDED (i : Nat) : Nat := (0x3000 + i) * 0x100 + 0x1B
@[simp] abbrev Obj.Context.UPDATES_DROPPED (i : Nat) : Nat := (0x3000 + i) * 0x100 + 0x1C
@[simp] abbrev Obj.Context.LATE_MARKS (i : Nat) : Nat := (0x3000 + i) * 0x100 + 0x1D
@[simp] abbrev Obj.Context.NONFINITE (i : Nat) : Nat := (0x3000 + i) * 0x100 + 0x1E
@[simp] abbrev Obj.Context.SATURATIONS (i : Nat) : Nat := (0x3000 + i) * 0x100 + 0x1F
@[simp] abbrev Obj.Context.SUMMARY (i j : Nat) : Nat := (0x3000 + i) * 0x100 + (0x20 + j)
@[simp] abbrev Obj.Context.LAST_SUMMARY (i : Nat) : Nat := (0x3000 + i) * 0x100 + 0x24
@[simp] abbrev Obj.Context.Y_OUTSIDE (i : Nat) : Nat := (0x3000 + i) * 0x100 + 0x25

/-! Millstone: index 0x3200 -/
@[simp] abbrev Obj.Millstone.CONTEXTS_RUNNING : Nat := 0x320001
@[simp] abbrev Obj.Millstone.CACHE_LINES : Nat := 0x320002
@[simp] abbrev Obj.Millstone.LINES_USED : Nat := 0x320003
@[simp] abbrev Obj.Millstone.LINES_PINNED : Nat := 0x320004
@[simp] abbrev Obj.Millstone.EVICTIONS : Nat := 0x320005
@[simp] abbrev Obj.Millstone.REFILLS : Nat := 0x320006
@[simp] abbrev Obj.Millstone.CACHE_CORRECTED : Nat := 0x320007
@[simp] abbrev Obj.Millstone.FLAGS : Nat := 0x320008
@[simp] abbrev Obj.Millstone.SET_DURING_CLEAR : Nat := 0x320009
@[simp] abbrev Obj.Millstone.UPDATE_RATE : Nat := 0x32000A

/-! Job: index 0x3400 + 0x1·i, i < 32 -/
@[simp] abbrev Obj.Job.STATE (i : Nat) : Nat := (0x3400 + i) * 0x100 + 0x01
@[simp] abbrev Obj.Job.START (i : Nat) : Nat := (0x3400 + i) * 0x100 + 0x02
@[simp] abbrev Obj.Job.SRC_KIND (i : Nat) : Nat := (0x3400 + i) * 0x100 + 0x03
@[simp] abbrev Obj.Job.SOURCE (i : Nat) : Nat := (0x3400 + i) * 0x100 + 0x04
@[simp] abbrev Obj.Job.FRAME_SEL (i : Nat) : Nat := (0x3400 + i) * 0x100 + 0x05
@[simp] abbrev Obj.Job.RANGE_OFFSET (i : Nat) : Nat := (0x3400 + i) * 0x100 + 0x06
@[simp] abbrev Obj.Job.RANGE_LENGTH (i : Nat) : Nat := (0x3400 + i) * 0x100 + 0x07
@[simp] abbrev Obj.Job.MODE (i : Nat) : Nat := (0x3400 + i) * 0x100 + 0x08
@[simp] abbrev Obj.Job.PORT (i : Nat) : Nat := (0x3400 + i) * 0x100 + 0x09
@[simp] abbrev Obj.Job.PUSH_REGION (i : Nat) : Nat := (0x3400 + i) * 0x100 + 0x0A
@[simp] abbrev Obj.Job.PUSH_OFFSET (i : Nat) : Nat := (0x3400 + i) * 0x100 + 0x0B
@[simp] abbrev Obj.Job.PROTECT (i : Nat) : Nat := (0x3400 + i) * 0x100 + 0x0C
@[simp] abbrev Obj.Job.KEY_SLOT (i : Nat) : Nat := (0x3400 + i) * 0x100 + 0x0D
@[simp] abbrev Obj.Job.RATE_LIMIT (i : Nat) : Nat := (0x3400 + i) * 0x100 + 0x0E
@[simp] abbrev Obj.Job.PUSH_DEPTH (i : Nat) : Nat := (0x3400 + i) * 0x100 + 0x0F
@[simp] abbrev Obj.Job.RETRY_LIMIT (i : Nat) : Nat := (0x3400 + i) * 0x100 + 0x10
@[simp] abbrev Obj.Job.RESP_TIMEOUT (i : Nat) : Nat := (0x3400 + i) * 0x100 + 0x11
@[simp] abbrev Obj.Job.STALL_TIMEOUT (i : Nat) : Nat := (0x3400 + i) * 0x100 + 0x12
@[simp] abbrev Obj.Job.CANCEL (i : Nat) : Nat := (0x3400 + i) * 0x100 + 0x13
@[simp] abbrev Obj.Job.RESUME (i : Nat) : Nat := (0x3400 + i) * 0x100 + 0x14
@[simp] abbrev Obj.Job.CREDIT_MW (i : Nat) : Nat := (0x3400 + i) * 0x100 + 0x15
@[simp] abbrev Obj.Job.FLAGS (i : Nat) : Nat := (0x3400 + i) * 0x100 + 0x16
@[simp] abbrev Obj.Job.HALT_CAUSE (i : Nat) : Nat := (0x3400 + i) * 0x100 + 0x17
@[simp] abbrev Obj.Job.GEN (i : Nat) : Nat := (0x3400 + i) * 0x100 + 0x18
@[simp] abbrev Obj.Job.READY (i : Nat) : Nat := (0x3400 + i) * 0x100 + 0x19
@[simp] abbrev Obj.Job.RECORDS (i : Nat) : Nat := (0x3400 + i) * 0x100 + 0x1A
@[simp] abbrev Obj.Job.BYTES (i : Nat) : Nat := (0x3400 + i) * 0x100 + 0x1B
@[simp] abbrev Obj.Job.BAD_BLOCKS (i : Nat) : Nat := (0x3400 + i) * 0x100 + 0x1C
@[simp] abbrev Obj.Job.POISON_BLOCKS (i : Nat) : Nat := (0x3400 + i) * 0x100 + 0x1D
@[simp] abbrev Obj.Job.RETRIES (i : Nat) : Nat := (0x3400 + i) * 0x100 + 0x1E
@[simp] abbrev Obj.Job.RESUMES (i : Nat) : Nat := (0x3400 + i) * 0x100 + 0x1F
@[simp] abbrev Obj.Job.SOURCE_GEN (i : Nat) : Nat := (0x3400 + i) * 0x100 + 0x20
@[simp] abbrev Obj.Job.FIRST_CHAIN (i : Nat) : Nat := (0x3400 + i) * 0x100 + 0x21
@[simp] abbrev Obj.Job.LAST_CHAIN (i : Nat) : Nat := (0x3400 + i) * 0x100 + 0x22
@[simp] abbrev Obj.Job.PROGRESS (i : Nat) : Nat := (0x3400 + i) * 0x100 + 0x23

/-! Lease: index 0x3500 + 0x1·i, i < 16 -/
@[simp] abbrev Obj.Lease.STATE (i : Nat) : Nat := (0x3500 + i) * 0x100 + 0x01
@[simp] abbrev Obj.Lease.ENABLE (i : Nat) : Nat := (0x3500 + i) * 0x100 + 0x02
@[simp] abbrev Obj.Lease.REGION (i : Nat) : Nat := (0x3500 + i) * 0x100 + 0x03
@[simp] abbrev Obj.Lease.PORT (i : Nat) : Nat := (0x3500 + i) * 0x100 + 0x04
@[simp] abbrev Obj.Lease.PERIOD (i : Nat) : Nat := (0x3500 + i) * 0x100 + 0x05
@[simp] abbrev Obj.Lease.TOL (i : Nat) : Nat := (0x3500 + i) * 0x100 + 0x06
@[simp] abbrev Obj.Lease.PERIOD_NEXT (i : Nat) : Nat := (0x3500 + i) * 0x100 + 0x07
@[simp] abbrev Obj.Lease.TOL_NEXT (i : Nat) : Nat := (0x3500 + i) * 0x100 + 0x08
@[simp] abbrev Obj.Lease.FRAME_MARK (i : Nat) : Nat := (0x3500 + i) * 0x100 + 0x09
@[simp] abbrev Obj.Lease.LAST_MARK (i : Nat) : Nat := (0x3500 + i) * 0x100 + 0x0A
@[simp] abbrev Obj.Lease.T_MARK (i : Nat) : Nat := (0x3500 + i) * 0x100 + 0x0B
@[simp] abbrev Obj.Lease.FRAMES (i : Nat) : Nat := (0x3500 + i) * 0x100 + 0x0C
@[simp] abbrev Obj.Lease.OVERRUNS (i : Nat) : Nat := (0x3500 + i) * 0x100 + 0x0D
@[simp] abbrev Obj.Lease.SLOW_WAKES (i : Nat) : Nat := (0x3500 + i) * 0x100 + 0x0E
@[simp] abbrev Obj.Lease.FLAGS (i : Nat) : Nat := (0x3500 + i) * 0x100 + 0x0F

/-! Tailrace: index 0x3600 -/
@[simp] abbrev Obj.Tailrace.JOBS_RUNNING : Nat := 0x360001
@[simp] abbrev Obj.Tailrace.LEASES_ACTIVE : Nat := 0x360002
@[simp] abbrev Obj.Tailrace.PD_EXIT_NS : Nat := 0x360003
@[simp] abbrev Obj.Tailrace.SR_EXIT_NS : Nat := 0x360004
@[simp] abbrev Obj.Tailrace.SR_MIN_IDLE_US : Nat := 0x360005
@[simp] abbrev Obj.Tailrace.PD_MIN_IDLE_NS : Nat := 0x360006
@[simp] abbrev Obj.Tailrace.QUIET_NS : Nat := 0x360007
@[simp] abbrev Obj.Tailrace.WAKE_MARGIN_NS : Nat := 0x360008
@[simp] abbrev Obj.Tailrace.EARLY_FREES : Nat := 0x360009
@[simp] abbrev Obj.Tailrace.LAST_EARLY_FREE : Nat := 0x36000A
@[simp] abbrev Obj.Tailrace.SR_ENTRIES : Nat := 0x36000B
@[simp] abbrev Obj.Tailrace.FLAGS : Nat := 0x36000C
@[simp] abbrev Obj.Tailrace.SET_DURING_CLEAR : Nat := 0x36000D

/-! Mc: index 0x3800 -/
@[simp] abbrev Obj.Mc.ADDR_MAP : Nat := 0x380001
@[simp] abbrev Obj.Mc.POSTPONE : Nat := 0x380002
@[simp] abbrev Obj.Mc.AGE_LIMIT_NS : Nat := 0x380003
@[simp] abbrev Obj.Mc.ROW_IDLE_NS : Nat := 0x380004
@[simp] abbrev Obj.Mc.PD_IDLE_NS : Nat := 0x380005
@[simp] abbrev Obj.Mc.WQ_HIGH : Nat := 0x380006
@[simp] abbrev Obj.Mc.WQ_LOW : Nat := 0x380007
@[simp] abbrev Obj.Mc.MR4_POLL_US : Nat := 0x380008
@[simp] abbrev Obj.Mc.REFRESH_FLUSH : Nat := 0x380009
@[simp] abbrev Obj.Mc.FLAGS : Nat := 0x38000A
@[simp] abbrev Obj.Mc.SET_DURING_CLEAR : Nat := 0x38000B

/-! Phy: index 0x3900 -/
@[simp] abbrev Obj.Phy.SPEED_BIN : Nat := 0x390001
@[simp] abbrev Obj.Phy.CA_PARITY_EN : Nat := 0x390002
@[simp] abbrev Obj.Phy.ALERT_WINDOW_NS : Nat := 0x390003
@[simp] abbrev Obj.Phy.PAT_BURSTS : Nat := 0x390004
@[simp] abbrev Obj.Phy.MIN_EYE_TAPS : Nat := 0x390005
@[simp] abbrev Obj.Phy.MIN_EYE_CODES : Nat := 0x390006
@[simp] abbrev Obj.Phy.MARGIN_EYE_TAPS : Nat := 0x390007
@[simp] abbrev Obj.Phy.VREF_COARSE_STEP : Nat := 0x390008
@[simp] abbrev Obj.Phy.TRAIN_SEED : Nat := 0x390009
@[simp] abbrev Obj.Phy.DFE_MODE : Nat := 0x39000A
@[simp] abbrev Obj.Phy.CA_2N : Nat := 0x39000B
@[simp] abbrev Obj.Phy.TRAIN_PARALLEL : Nat := 0x39000C
@[simp] abbrev Obj.Phy.FLAGS : Nat := 0x39000D
@[simp] abbrev Obj.Phy.SET_DURING_CLEAR : Nat := 0x39000E

/-! Fantail: index 0x3a00 -/
@[simp] abbrev Obj.Fantail.FT_ENABLE : Nat := 0x3A0001
@[simp] abbrev Obj.Fantail.WINDOW_BURSTS : Nat := 0x3A0002
@[simp] abbrev Obj.Fantail.SHADOW_INSET : Nat := 0x3A0003
@[simp] abbrev Obj.Fantail.SHADOW_DEFAULT : Nat := 0x3A0004
@[simp] abbrev Obj.Fantail.MOVE_MIN : Nat := 0x3A0005
@[simp] abbrev Obj.Fantail.TRACK_LIMIT : Nat := 0x3A0006
@[simp] abbrev Obj.Fantail.STARVE_MS : Nat := 0x3A0007
@[simp] abbrev Obj.Fantail.SHADOW_BURSTS : Nat := 0x3A0008
@[simp] abbrev Obj.Fantail.FLAGS : Nat := 0x3A0009
@[simp] abbrev Obj.Fantail.SET_DURING_CLEAR : Nat := 0x3A000A

/-! Cal: index 0x3a10 -/
@[simp] abbrev Obj.Cal.RECAL_DT_MC : Nat := 0x3A1001
@[simp] abbrev Obj.Cal.SET_MAX_AGE_D : Nat := 0x3A1002
@[simp] abbrev Obj.Cal.WRECAL_SPAN : Nat := 0x3A1003
@[simp] abbrev Obj.Cal.COMMIT_MIN_S : Nat := 0x3A1004
@[simp] abbrev Obj.Cal.SLOT_SEQ : Nat := 0x3A1005
@[simp] abbrev Obj.Cal.SLOT_VALID : Nat := 0x3A1006
@[simp] abbrev Obj.Cal.RESTORE_SOURCE : Nat := 0x3A1007
@[simp] abbrev Obj.Cal.COMMITS : Nat := 0x3A1008
@[simp] abbrev Obj.Cal.COMMIT_FAILS : Nat := 0x3A1009
@[simp] abbrev Obj.Cal.LAST_COMMIT : Nat := 0x3A100A
@[simp] abbrev Obj.Cal.FORERUNNER_EAST : Nat := 0x3A100B
@[simp] abbrev Obj.Cal.FORERUNNER_WEST : Nat := 0x3A100C
@[simp] abbrev Obj.Cal.FLAGS : Nat := 0x3A100D

/-! Mon: index 0x3a20 -/
@[simp] abbrev Obj.Mon.MON_CAL_PERIOD_S : Nat := 0x3A2001
@[simp] abbrev Obj.Mon.RIPPLE_LIMIT_MV : Nat := 0x3A2002
@[simp] abbrev Obj.Mon.MON_TRIM_MAX_AGE_S : Nat := 0x3A2003
@[simp] abbrev Obj.Mon.CAL_REFUSALS : Nat := 0x3A2004
@[simp] abbrev Obj.Mon.REFUSED_MASK : Nat := 0x3A2005
@[simp] abbrev Obj.Mon.FLAGS : Nat := 0x3A2006
@[simp] abbrev Obj.Mon.TS (j : Nat) : Nat := 0x3A2000 + (0x10 + j)

/-! Ecc: index 0x3b00 -/
@[simp] abbrev Obj.Ecc.SCRUB_PERIOD_H : Nat := 0x3B0001
@[simp] abbrev Obj.Ecc.MARK_SYMS : Nat := 0x3B0002
@[simp] abbrev Obj.Ecc.AUTO_MARK : Nat := 0x3B0003
@[simp] abbrev Obj.Ecc.REPAIR_MODE : Nat := 0x3B0004
@[simp] abbrev Obj.Ecc.ROW_CE_LIMIT : Nat := 0x3B0005
@[simp] abbrev Obj.Ecc.LOG_RATE : Nat := 0x3B0006
@[simp] abbrev Obj.Ecc.SELFTEST_MS : Nat := 0x3B0007
@[simp] abbrev Obj.Ecc.LOG_COUNT : Nat := 0x3B0008
@[simp] abbrev Obj.Ecc.LOG_DROPPED : Nat := 0x3B0009
@[simp] abbrev Obj.Ecc.REPAIR_COUNT : Nat := 0x3B000A
@[simp] abbrev Obj.Ecc.FLAGS : Nat := 0x3B000B
@[simp] abbrev Obj.Ecc.SET_DURING_CLEAR : Nat := 0x3B000C

/-! EccLog: index 0x3b20 + 0x1·i, i < 8 -/
@[simp] abbrev Obj.EccLog.RECORD (i j : Nat) : Nat := (0x3B20 + i) * 0x100 + (0x01 + j)

/-! Repair: index 0x3b30 + 0x1·i, i < 4 -/
@[simp] abbrev Obj.Repair.ENTRY (i j : Nat) : Nat := (0x3B30 + i) * 0x100 + (0x01 + j)

/-! Seq: index 0x4000 -/
@[simp] abbrev Obj.Seq.SEQ_STATE : Nat := 0x400001
@[simp] abbrev Obj.Seq.ON_PENDING : Nat := 0x400002
@[simp] abbrev Obj.Seq.POWER_REQ : Nat := 0x400003
@[simp] abbrev Obj.Seq.CASCADE : Nat := 0x400004
@[simp] abbrev Obj.Seq.T_CASCADE_MS : Nat := 0x400005
@[simp] abbrev Obj.Seq.RAMP_RETRY : Nat := 0x400006
@[simp] abbrev Obj.Seq.DWELL_MS : Nat := 0x400007
@[simp] abbrev Obj.Seq.MARGIN_STEP_US : Nat := 0x400008
@[simp] abbrev Obj.Seq.RAMP_STEP : Nat := 0x400009
@[simp] abbrev Obj.Seq.RAMP_ORDER : Nat := 0x40000A
@[simp] abbrev Obj.Seq.FAIL_COUNT : Nat := 0x40000B
@[simp] abbrev Obj.Seq.AO_US : Nat := 0x40000C
@[simp] abbrev Obj.Seq.TABLE_SOURCE : Nat := 0x40000D
@[simp] abbrev Obj.Seq.EVENT_SEQ : Nat := 0x40000E
@[simp] abbrev Obj.Seq.FLAGS : Nat := 0x40000F
@[simp] abbrev Obj.Seq.SET_DURING_CLEAR : Nat := 0x400010
@[simp] abbrev Obj.Seq.PMB_KHZ : Nat := 0x400011

/-! Rail: index 0x4010 + 0x1·i, i < 16 -/
@[simp] abbrev Obj.Rail.USED (i : Nat) : Nat := (0x4010 + i) * 0x100 + 0x01
@[simp] abbrev Obj.Rail.NAME (i : Nat) : Nat := (0x4010 + i) * 0x100 + 0x02
@[simp] abbrev Obj.Rail.PARENT (i : Nat) : Nat := (0x4010 + i) * 0x100 + 0x03
@[simp] abbrev Obj.Rail.VNOM_MV (i : Nat) : Nat := (0x4010 + i) * 0x100 + 0x04
@[simp] abbrev Obj.Rail.RANGE (i : Nat) : Nat := (0x4010 + i) * 0x100 + 0x05
@[simp] abbrev Obj.Rail.UV_CODE (i : Nat) : Nat := (0x4010 + i) * 0x100 + 0x06
@[simp] abbrev Obj.Rail.OV_CODE (i : Nat) : Nat := (0x4010 + i) * 0x100 + 0x07
@[simp] abbrev Obj.Rail.OFF_CODE (i : Nat) : Nat := (0x4010 + i) * 0x100 + 0x08
@[simp] abbrev Obj.Rail.FILTER_US (i : Nat) : Nat := (0x4010 + i) * 0x100 + 0x09
@[simp] abbrev Obj.Rail.DELAY_ON_US (i : Nat) : Nat := (0x4010 + i) * 0x100 + 0x0A
@[simp] abbrev Obj.Rail.T_ON_MAX_MS (i : Nat) : Nat := (0x4010 + i) * 0x100 + 0x0B
@[simp] abbrev Obj.Rail.DELAY_OFF_US (i : Nat) : Nat := (0x4010 + i) * 0x100 + 0x0C
@[simp] abbrev Obj.Rail.T_OFF_MAX_MS (i : Nat) : Nat := (0x4010 + i) * 0x100 + 0x0D
@[simp] abbrev Obj.Rail.ACTIONS (i : Nat) : Nat := (0x4010 + i) * 0x100 + 0x0E
@[simp] abbrev Obj.Rail.MARGIN (i : Nat) : Nat := (0x4010 + i) * 0x100 + 0x0F
@[simp] abbrev Obj.Rail.MARGIN_APPLIED (i : Nat) : Nat := (0x4010 + i) * 0x100 + 0x10
@[simp] abbrev Obj.Rail.STATE (i : Nat) : Nat := (0x4010 + i) * 0x100 + 0x11
@[simp] abbrev Obj.Rail.READING (i : Nat) : Nat := (0x4010 + i) * 0x100 + 0x12
@[simp] abbrev Obj.Rail.FLAGS (i : Nat) : Nat := (0x4010 + i) * 0x100 + 0x13
@[simp] abbrev Obj.Rail.T_RISE_US (i : Nat) : Nat := (0x4010 + i) * 0x100 + 0x14
@[simp] abbrev Obj.Rail.T_FALL_US (i : Nat) : Nat := (0x4010 + i) * 0x100 + 0x15
@[simp] abbrev Obj.Rail.GLITCHES (i : Nat) : Nat := (0x4010 + i) * 0x100 + 0x16
@[simp] abbrev Obj.Rail.PMB_ADDR (i : Nat) : Nat := (0x4010 + i) * 0x100 + 0x17
@[simp] abbrev Obj.Rail.PMB_PAGE (i : Nat) : Nat := (0x4010 + i) * 0x100 + 0x18
@[simp] abbrev Obj.Rail.PMB_MARGIN (i : Nat) : Nat := (0x4010 + i) * 0x100 + 0x19
@[simp] abbrev Obj.Rail.PMB_READINGS (i : Nat) : Nat := (0x4010 + i) * 0x100 + 0x1A

/-! FfLog: index 0x4030 -/
@[simp] abbrev Obj.FfLog.LOG (j : Nat) : Nat := 0x403000 + (0x01 + j)

/-! Sluice: index 0x4400 -/
@[simp] abbrev Obj.Sluice.BUDGET_MW : Nat := 0x440001
@[simp] abbrev Obj.Sluice.BASE_MW : Nat := 0x440002
@[simp] abbrev Obj.Sluice.FLOOR_MW : Nat := 0x440003
@[simp] abbrev Obj.Sluice.POOL_MW : Nat := 0x440004
@[simp] abbrev Obj.Sluice.GRANTED_MW : Nat := 0x440005
@[simp] abbrev Obj.Sluice.PEAK_GRANTED_MW : Nat := 0x440006
@[simp] abbrev Obj.Sluice.FORCED_MW : Nat := 0x440007
@[simp] abbrev Obj.Sluice.GRANTS : Nat := 0x440008
@[simp] abbrev Obj.Sluice.REFUSALS : Nat := 0x440009
@[simp] abbrev Obj.Sluice.QUEUED : Nat := 0x44000A
@[simp] abbrev Obj.Sluice.FLAGS : Nat := 0x44000B
@[simp] abbrev Obj.Sluice.SET_DURING_CLEAR : Nat := 0x44000C
@[simp] abbrev Obj.Sluice.HELD_BY_KIND (j : Nat) : Nat := 0x440000 + (0x11 + j)

/-! Fc: index 0x4800 -/
@[simp] abbrev Obj.Fc.MODE : Nat := 0x480001
@[simp] abbrev Obj.Fc.ERR_CLASS : Nat := 0x480002
@[simp] abbrev Obj.Fc.ERR_SEV : Nat := 0x480003
@[simp] abbrev Obj.Fc.ACTION_MAP : Nat := 0x480004
@[simp] abbrev Obj.Fc.QUIET_US : Nat := 0x480005
@[simp] abbrev Obj.Fc.INJ_ENABLE : Nat := 0x480006
@[simp] abbrev Obj.Fc.INJ_REACT : Nat := 0x480007
@[simp] abbrev Obj.Fc.FIRST_ERROR : Nat := 0x480008
@[simp] abbrev Obj.Fc.FE_REARM : Nat := 0x480009
@[simp] abbrev Obj.Fc.FE_LATER : Nat := 0x48000A
@[simp] abbrev Obj.Fc.PENDING_COUNT : Nat := 0x48000B
@[simp] abbrev Obj.Fc.PIN_STATE : Nat := 0x48000C
@[simp] abbrev Obj.Fc.LOCKOUT_SOURCE : Nat := 0x48000D
@[simp] abbrev Obj.Fc.LAST_LOCKOUT : Nat := 0x48000E
@[simp] abbrev Obj.Fc.EVENTS : Nat := 0x48000F
@[simp] abbrev Obj.Fc.SUPPRESSED : Nat := 0x480010
@[simp] abbrev Obj.Fc.WIRE_FAULTS : Nat := 0x480011
@[simp] abbrev Obj.Fc.INJECTIONS : Nat := 0x480012
@[simp] abbrev Obj.Fc.CLEAR_ALL : Nat := 0x480013
@[simp] abbrev Obj.Fc.FLAGS : Nat := 0x480014
@[simp] abbrev Obj.Fc.SET_DURING_CLEAR : Nat := 0x480015
@[simp] abbrev Obj.Fc.LOG_HEAD : Nat := 0x480016
@[simp] abbrev Obj.Fc.TEMP_WARN_MC : Nat := 0x480017
@[simp] abbrev Obj.Fc.TEMP_CRIT_MC : Nat := 0x480018

/-! EventLog: index 0x4820 + 0x1·i, i < 2 -/
@[simp] abbrev Obj.EventLog.LOG (i j : Nat) : Nat := (0x4820 + i) * 0x100 + (0x01 + j)

/-! Source: index 0x4900 + 0x1·i, i < 768 -/
@[simp] abbrev Obj.Source.CONFIG (i : Nat) : Nat := (0x4900 + i) * 0x100 + 0x01
@[simp] abbrev Obj.Source.STATUS (i : Nat) : Nat := (0x4900 + i) * 0x100 + 0x02
@[simp] abbrev Obj.Source.CLASSIC (i : Nat) : Nat := (0x4900 + i) * 0x100 + 0x03
@[simp] abbrev Obj.Source.COUNT (i : Nat) : Nat := (0x4900 + i) * 0x100 + 0x04
@[simp] abbrev Obj.Source.SUPPRESSED (i : Nat) : Nat := (0x4900 + i) * 0x100 + 0x05
@[simp] abbrev Obj.Source.FORCE (i : Nat) : Nat := (0x4900 + i) * 0x100 + 0x06
@[simp] abbrev Obj.Source.LAST_TIME (i : Nat) : Nat := (0x4900 + i) * 0x100 + 0x07

/-! Sec: index 0x5000 -/
@[simp] abbrev Obj.Sec.PORT_WORLD : Nat := 0x500001
@[simp] abbrev Obj.Sec.JTAG_MODE : Nat := 0x500002
@[simp] abbrev Obj.Sec.DEVICE_PUBKEY : Nat := 0x500003
@[simp] abbrev Obj.Sec.DENIED_COUNT : Nat := 0x500004
@[simp] abbrev Obj.Sec.CHAIN_NEXT : Nat := 0x500005
@[simp] abbrev Obj.Sec.CHAIN_RESERVE : Nat := 0x500006
@[simp] abbrev Obj.Sec.FLAGS : Nat := 0x500007
@[simp] abbrev Obj.Sec.SET_DURING_CLEAR : Nat := 0x500008

/-! Fuse: index 0x5010 -/
@[simp] abbrev Obj.Fuse.SECURE_BOOT : Nat := 0x501001
@[simp] abbrev Obj.Fuse.OWNER_KEY_HASH : Nat := 0x501002
@[simp] abbrev Obj.Fuse.KEY_REVOKED : Nat := 0x501003
@[simp] abbrev Obj.Fuse.SVN_FLOOR : Nat := 0x501004
@[simp] abbrev Obj.Fuse.JTAG_PERM_LOCK : Nat := 0x501005
@[simp] abbrev Obj.Fuse.FUSE_PROGRAM : Nat := 0x501006

/-! KeySlot: index 0x5020 + 0x1·i, i < 16 -/
@[simp] abbrev Obj.KeySlot.STATE (i : Nat) : Nat := (0x5020 + i) * 0x100 + 0x01
@[simp] abbrev Obj.KeySlot.KEY (i : Nat) : Nat := (0x5020 + i) * 0x100 + 0x02
@[simp] abbrev Obj.KeySlot.ERASE (i : Nat) : Nat := (0x5020 + i) * 0x100 + 0x03
@[simp] abbrev Obj.KeySlot.KCV (i : Nat) : Nat := (0x5020 + i) * 0x100 + 0x04
@[simp] abbrev Obj.KeySlot.KEY_GEN (i : Nat) : Nat := (0x5020 + i) * 0x100 + 0x05
@[simp] abbrev Obj.KeySlot.JOBS (i : Nat) : Nat := (0x5020 + i) * 0x100 + 0x06

/-! Image: index 0x5030 -/
@[simp] abbrev Obj.Image.BOOT_SLOT : Nat := 0x503001
@[simp] abbrev Obj.Image.RUN_SLOT : Nat := 0x503002
@[simp] abbrev Obj.Image.HALF_STATE : Nat := 0x503003
@[simp] abbrev Obj.Image.IMG_STATE : Nat := 0x503004
@[simp] abbrev Obj.Image.IMG_OPEN : Nat := 0x503005
@[simp] abbrev Obj.Image.IMG_DATA : Nat := 0x503006
@[simp] abbrev Obj.Image.IMG_OFFSET : Nat := 0x503007
@[simp] abbrev Obj.Image.IMG_CLOSE : Nat := 0x503008
@[simp] abbrev Obj.Image.ACTIVATE : Nat := 0x503009
@[simp] abbrev Obj.Image.CONFIRM : Nat := 0x50300A
@[simp] abbrev Obj.Image.TRIAL_S : Nat := 0x50300B

/-! Checkpoint: index 0x5040 -/
@[simp] abbrev Obj.Checkpoint.CP_JOB (j : Nat) : Nat := 0x504000 + (0x01 + j)

/-! CpFetch: index 0x5041 -/
@[simp] abbrev Obj.CpFetch.CP_FETCH_SEQ : Nat := 0x504101
@[simp] abbrev Obj.CpFetch.CP_FETCHED : Nat := 0x504102
@[simp] abbrev Obj.CpFetch.SPILL_SLOTS : Nat := 0x504103

/-! Sail: index 0x5800 -/
@[simp] abbrev Obj.Sail.ROOT : Nat := 0x580001
@[simp] abbrev Obj.Sail.ROLE : Nat := 0x580002
@[simp] abbrev Obj.Sail.DEPTH : Nat := 0x580003
@[simp] abbrev Obj.Sail.SUBTREE : Nat := 0x580004
@[simp] abbrev Obj.Sail.ARRAY_HUBS : Nat := 0x580005
@[simp] abbrev Obj.Sail.EPOCH_PERIOD_MS : Nat := 0x580006
@[simp] abbrev Obj.Sail.EPOCH_LEAD_US : Nat := 0x580007
@[simp] abbrev Obj.Sail.EPOCH_NOW : Nat := 0x580008
@[simp] abbrev Obj.Sail.HEALTH_PERIOD_MS : Nat := 0x580009
@[simp] abbrev Obj.Sail.RETX_NS : Nat := 0x58000A
@[simp] abbrev Obj.Sail.TRIG_DROPPED : Nat := 0x58000B
@[simp] abbrev Obj.Sail.EPOCH_REFUSED : Nat := 0x58000C
@[simp] abbrev Obj.Sail.FLAGS : Nat := 0x58000D
@[simp] abbrev Obj.Sail.SET_DURING_CLEAR : Nat := 0x58000E

/-! Baton: index 0x5808 -/
@[simp] abbrev Obj.Baton.BATON : Nat := 0x580801
@[simp] abbrev Obj.Baton.HEALTH_MASK : Nat := 0x580802
@[simp] abbrev Obj.Baton.MOVES : Nat := 0x580803
@[simp] abbrev Obj.Baton.LAST_MOVE_CAUSE : Nat := 0x580804
@[simp] abbrev Obj.Baton.T_LAST_MOVE : Nat := 0x580805
@[simp] abbrev Obj.Baton.CLAIM_REFUSED : Nat := 0x580806
@[simp] abbrev Obj.Baton.DECIDE_MISS : Nat := 0x580807
@[simp] abbrev Obj.Baton.HEARTBEATS : Nat := 0x580808

/-! SailPort: index 0x5810 + 0x1·i, i < 4 -/
@[simp] abbrev Obj.SailPort.ENABLE (i : Nat) : Nat := (0x5810 + i) * 0x100 + 0x01
@[simp] abbrev Obj.SailPort.STATE (i : Nat) : Nat := (0x5810 + i) * 0x100 + 0x02
@[simp] abbrev Obj.SailPort.FAR_ID (i : Nat) : Nat := (0x5810 + i) * 0x100 + 0x03
@[simp] abbrev Obj.SailPort.REFUSE_CAUSE (i : Nat) : Nat := (0x5810 + i) * 0x100 + 0x04
@[simp] abbrev Obj.SailPort.LINK_DELAY_PS (i : Nat) : Nat := (0x5810 + i) * 0x100 + 0x05
@[simp] abbrev Obj.SailPort.ASYM_PS (i : Nat) : Nat := (0x5810 + i) * 0x100 + 0x06
@[simp] abbrev Obj.SailPort.TX_EQ (i : Nat) : Nat := (0x5810 + i) * 0x100 + 0x07
@[simp] abbrev Obj.SailPort.RETX (i : Nat) : Nat := (0x5810 + i) * 0x100 + 0x08
@[simp] abbrev Obj.SailPort.CRC_ERRORS (i : Nat) : Nat := (0x5810 + i) * 0x100 + 0x09
@[simp] abbrev Obj.SailPort.MSGS_RX (i : Nat) : Nat := (0x5810 + i) * 0x100 + 0x0A
@[simp] abbrev Obj.SailPort.FLAGS (i : Nat) : Nat := (0x5810 + i) * 0x100 + 0x0B

/-! Snap: index 0x5840 -/
@[simp] abbrev Obj.Snap.GEN : Nat := 0x584001
@[simp] abbrev Obj.Snap.READY : Nat := 0x584002
@[simp] abbrev Obj.Snap.EPOCH_NUM : Nat := 0x584003
@[simp] abbrev Obj.Snap.T_EPOCH : Nat := 0x584004
@[simp] abbrev Obj.Snap.T_LATCH : Nat := 0x584005
@[simp] abbrev Obj.Snap.SNAP_FLAGS : Nat := 0x584006

/-! SnapStream: index 0x5841 + 0x1·i, i < 2 -/
@[simp] abbrev Obj.SnapStream.STREAM (i j : Nat) : Nat := (0x5841 + i) * 0x100 + (0x01 + j)

/-! SnapContext: index 0x5843 -/
@[simp] abbrev Obj.SnapContext.CONTEXT (j : Nat) : Nat := 0x584300 + (0x01 + j)

/-! SnapHub: index 0x5844 -/
@[simp] abbrev Obj.SnapHub.EVENTS : Nat := 0x584401
@[simp] abbrev Obj.SnapHub.CHAIN_NEXT : Nat := 0x584402
@[simp] abbrev Obj.SnapHub.THROTTLE_TIME : Nat := 0x584403
@[simp] abbrev Obj.SnapHub.ELASTIC_FILL : Nat := 0x584404

/-! Dev: index 0x5900 -/
@[simp] abbrev Obj.Dev.DEVICE_STATE : Nat := 0x590001
@[simp] abbrev Obj.Dev.STATE_REQ : Nat := 0x590002
@[simp] abbrev Obj.Dev.START_KIND : Nat := 0x590003
@[simp] abbrev Obj.Dev.FORCE_COLD : Nat := 0x590004
@[simp] abbrev Obj.Dev.SHUTDOWN_MAX_MS : Nat := 0x590005
@[simp] abbrev Obj.Dev.SAFE_FLUSH_US : Nat := 0x590006
@[simp] abbrev Obj.Dev.OFFLINE_HOLD_US : Nat := 0x590007
@[simp] abbrev Obj.Dev.T_STATE : Nat := 0x590008
@[simp] abbrev Obj.Dev.PREV_STATE : Nat := 0x590009
@[simp] abbrev Obj.Dev.START_TIME_US : Nat := 0x59000A
@[simp] abbrev Obj.Dev.RESTORE_FAILS : Nat := 0x59000B
@[simp] abbrev Obj.Dev.SAFE_LOST_BLOCKS : Nat := 0x59000C
@[simp] abbrev Obj.Dev.LOCKOUT_ON_REQS : Nat := 0x59000D
@[simp] abbrev Obj.Dev.FLAGS : Nat := 0x59000E
@[simp] abbrev Obj.Dev.SET_DURING_CLEAR : Nat := 0x59000F

/-! ScOrder: index 0x5910 -/
@[simp] abbrev Obj.ScOrder.SC_ORDER (j : Nat) : Nat := 0x591000 + (0x01 + j)

/-! ScMask: index 0x5911 -/
@[simp] abbrev Obj.ScMask.OFFLINE_MASK : Nat := 0x591101
@[simp] abbrev Obj.ScMask.HELD_MASK : Nat := 0x591102
@[simp] abbrev Obj.ScMask.CONTENT_LOST : Nat := 0x591103
@[simp] abbrev Obj.ScMask.OFFLINE_READS : Nat := 0x591104
@[simp] abbrev Obj.ScMask.OFFLINE_DROPS : Nat := 0x591105

/-! Sc: index 0x6000 + 0x40·i, i < 32 -/
@[simp] abbrev Obj.Sc.STATE (i : Nat) : Nat := (0x6000 + 0x40 * i) * 0x100 + 0x01
@[simp] abbrev Obj.Sc.PD_MASK (i : Nat) : Nat := (0x6000 + 0x40 * i) * 0x100 + 0x02
@[simp] abbrev Obj.Sc.HOT_MASK (i : Nat) : Nat := (0x6000 + 0x40 * i) * 0x100 + 0x03
@[simp] abbrev Obj.Sc.REF_DEBT (i : Nat) : Nat := (0x6000 + 0x40 * i) * 0x100 + 0x04
@[simp] abbrev Obj.Sc.REFRESHES (i : Nat) : Nat := (0x6000 + 0x40 * i) * 0x100 + 0x05
@[simp] abbrev Obj.Sc.REF_FORCED (i : Nat) : Nat := (0x6000 + 0x40 * i) * 0x100 + 0x06
@[simp] abbrev Obj.Sc.REF_EXCESS (i : Nat) : Nat := (0x6000 + 0x40 * i) * 0x100 + 0x07
@[simp] abbrev Obj.Sc.READS (i : Nat) : Nat := (0x6000 + 0x40 * i) * 0x100 + 0x08
@[simp] abbrev Obj.Sc.WRITES (i : Nat) : Nat := (0x6000 + 0x40 * i) * 0x100 + 0x09
@[simp] abbrev Obj.Sc.FORWARDS (i : Nat) : Nat := (0x6000 + 0x40 * i) * 0x100 + 0x0A
@[simp] abbrev Obj.Sc.ROW_HITS (i : Nat) : Nat := (0x6000 + 0x40 * i) * 0x100 + 0x0B
@[simp] abbrev Obj.Sc.ACTIVATES (i : Nat) : Nat := (0x6000 + 0x40 * i) * 0x100 + 0x0C
@[simp] abbrev Obj.Sc.PROMOTIONS (i : Nat) : Nat := (0x6000 + 0x40 * i) * 0x100 + 0x0D
@[simp] abbrev Obj.Sc.WQ_FILL (i : Nat) : Nat := (0x6000 + 0x40 * i) * 0x100 + 0x0E
@[simp] abbrev Obj.Sc.PD_TIME (i : Nat) : Nat := (0x6000 + 0x40 * i) * 0x100 + 0x0F
@[simp] abbrev Obj.Sc.SR_TIME (i : Nat) : Nat := (0x6000 + 0x40 * i) * 0x100 + 0x10
@[simp] abbrev Obj.Sc.SR_ENTRIES (i : Nat) : Nat := (0x6000 + 0x40 * i) * 0x100 + 0x11
@[simp] abbrev Obj.Sc.UE_COUNT (i : Nat) : Nat := (0x6000 + 0x40 * i) * 0x100 + 0x12
@[simp] abbrev Obj.Sc.UE_REREAD_OK (i : Nat) : Nat := (0x6000 + 0x40 * i) * 0x100 + 0x13
@[simp] abbrev Obj.Sc.UE_LAST (i : Nat) : Nat := (0x6000 + 0x40 * i) * 0x100 + 0x14
@[simp] abbrev Obj.Sc.FLAGS (i : Nat) : Nat := (0x6000 + 0x40 * i) * 0x100 + 0x15

/-! Train: index 0x6001 + 0x40·i, i < 32 -/
@[simp] abbrev Obj.Train.TRAIN_STATE (i : Nat) : Nat := (0x6001 + 0x40 * i) * 0x100 + 0x01
@[simp] abbrev Obj.Train.GEN (i : Nat) : Nat := (0x6001 + 0x40 * i) * 0x100 + 0x02
@[simp] abbrev Obj.Train.READY (i : Nat) : Nat := (0x6001 + 0x40 * i) * 0x100 + 0x03
@[simp] abbrev Obj.Train.TRAIN_TIME (i : Nat) : Nat := (0x6001 + 0x40 * i) * 0x100 + 0x04
@[simp] abbrev Obj.Train.TRAIN_TEMP (i : Nat) : Nat := (0x6001 + 0x40 * i) * 0x100 + 0x05
@[simp] abbrev Obj.Train.SPEED (i : Nat) : Nat := (0x6001 + 0x40 * i) * 0x100 + 0x06
@[simp] abbrev Obj.Train.FAILED_LANES (i : Nat) : Nat := (0x6001 + 0x40 * i) * 0x100 + 0x07
@[simp] abbrev Obj.Train.MARGINAL_LANES (i : Nat) : Nat := (0x6001 + 0x40 * i) * 0x100 + 0x08
@[simp] abbrev Obj.Train.STEP_FAILED (i : Nat) : Nat := (0x6001 + 0x40 * i) * 0x100 + 0x09
@[simp] abbrev Obj.Train.DURATION (i : Nat) : Nat := (0x6001 + 0x40 * i) * 0x100 + 0x0A
@[simp] abbrev Obj.Train.RETRAIN (i : Nat) : Nat := (0x6001 + 0x40 * i) * 0x100 + 0x0B
@[simp] abbrev Obj.Train.ALERT_EVENTS (i : Nat) : Nat := (0x6001 + 0x40 * i) * 0x100 + 0x0C
@[simp] abbrev Obj.Train.CA_REPLAYS (i : Nat) : Nat := (0x6001 + 0x40 * i) * 0x100 + 0x0D
@[simp] abbrev Obj.Train.PARITY_UNRECOVERED (i : Nat) : Nat := (0x6001 + 0x40 * i) * 0x100 + 0x0E
@[simp] abbrev Obj.Train.FLAGS (i : Nat) : Nat := (0x6001 + 0x40 * i) * 0x100 + 0x0F

/-! LaneRec0: index 0x6002 + 0x40·i, i < 32 -/
@[simp] abbrev Obj.LaneRec0.LANE (i j : Nat) : Nat := (0x6002 + 0x40 * i) * 0x100 + (0x01 + j)

/-! LaneRec1: index 0x6003 + 0x40·i, i < 32 -/
@[simp] abbrev Obj.LaneRec1.LANE (i j : Nat) : Nat := (0x6003 + 0x40 * i) * 0x100 + (0x01 + j)

/-! Ca: index 0x6004 + 0x40·i, i < 32 -/
@[simp] abbrev Obj.Ca.CA_COMMON (i : Nat) : Nat := (0x6004 + 0x40 * i) * 0x100 + 0x01
@[simp] abbrev Obj.Ca.CA_BIT (i : Nat) : Nat := (0x6004 + 0x40 * i) * 0x100 + 0x02
@[simp] abbrev Obj.Ca.CS_DLY (i : Nat) : Nat := (0x6004 + 0x40 * i) * 0x100 + 0x03
@[simp] abbrev Obj.Ca.VREFCA (i : Nat) : Nat := (0x6004 + 0x40 * i) * 0x100 + 0x04
@[simp] abbrev Obj.Ca.VREFCS (i : Nat) : Nat := (0x6004 + 0x40 * i) * 0x100 + 0x05
@[simp] abbrev Obj.Ca.CA_EYE_W (i : Nat) : Nat := (0x6004 + 0x40 * i) * 0x100 + 0x06
@[simp] abbrev Obj.Ca.CS_EYE_W (i : Nat) : Nat := (0x6004 + 0x40 * i) * 0x100 + 0x07

/-! FtSc: index 0x6005 + 0x40·i, i < 32 -/
@[simp] abbrev Obj.FtSc.T_NOW (i : Nat) : Nat := (0x6005 + 0x40 * i) * 0x100 + 0x01
@[simp] abbrev Obj.FtSc.T_CAL (i : Nat) : Nat := (0x6005 + 0x40 * i) * 0x100 + 0x02
@[simp] abbrev Obj.FtSc.T_CAL_TIME (i : Nat) : Nat := (0x6005 + 0x40 * i) * 0x100 + 0x03
@[simp] abbrev Obj.FtSc.BANDS_VALID (i : Nat) : Nat := (0x6005 + 0x40 * i) * 0x100 + 0x04
@[simp] abbrev Obj.FtSc.BAND_TEMPS (i : Nat) : Nat := (0x6005 + 0x40 * i) * 0x100 + 0x05
@[simp] abbrev Obj.FtSc.RECAL (i : Nat) : Nat := (0x6005 + 0x40 * i) * 0x100 + 0x06
@[simp] abbrev Obj.FtSc.RECALS (i : Nat) : Nat := (0x6005 + 0x40 * i) * 0x100 + 0x07
@[simp] abbrev Obj.FtSc.CAPTURES (i : Nat) : Nat := (0x6005 + 0x40 * i) * 0x100 + 0x08
@[simp] abbrev Obj.FtSc.CAPTURE_FAILS (i : Nat) : Nat := (0x6005 + 0x40 * i) * 0x100 + 0x09
@[simp] abbrev Obj.FtSc.TAP_MOVES (i : Nat) : Nat := (0x6005 + 0x40 * i) * 0x100 + 0x0A
@[simp] abbrev Obj.FtSc.STARVED_LANES (i : Nat) : Nat := (0x6005 + 0x40 * i) * 0x100 + 0x0B
@[simp] abbrev Obj.FtSc.INSERTED_BURSTS (i : Nat) : Nat := (0x6005 + 0x40 * i) * 0x100 + 0x0C
@[simp] abbrev Obj.FtSc.INSERT_REFUSALS (i : Nat) : Nat := (0x6005 + 0x40 * i) * 0x100 + 0x0D
@[simp] abbrev Obj.FtSc.FLAGS (i : Nat) : Nat := (0x6005 + 0x40 * i) * 0x100 + 0x0E

/-! Track0: index 0x6006 + 0x40·i, i < 32 -/
@[simp] abbrev Obj.Track0.TRACK (i j : Nat) : Nat := (0x6006 + 0x40 * i) * 0x100 + (0x01 + j)

/-! Track1: index 0x6007 + 0x40·i, i < 32 -/
@[simp] abbrev Obj.Track1.TRACK (i j : Nat) : Nat := (0x6007 + 0x40 * i) * 0x100 + (0x01 + j)

/-! EccSc: index 0x6008 + 0x40·i, i < 32 -/
@[simp] abbrev Obj.EccSc.ERASE_MAP (i : Nat) : Nat := (0x6008 + 0x40 * i) * 0x100 + 0x01
@[simp] abbrev Obj.EccSc.CE_BURSTS (i : Nat) : Nat := (0x6008 + 0x40 * i) * 0x100 + 0x02
@[simp] abbrev Obj.EccSc.CE_SYMBOLS (i : Nat) : Nat := (0x6008 + 0x40 * i) * 0x100 + 0x03
@[simp] abbrev Obj.EccSc.ERASURE_DECODES (i : Nat) : Nat := (0x6008 + 0x40 * i) * 0x100 + 0x04
@[simp] abbrev Obj.EccSc.POISON_READS (i : Nat) : Nat := (0x6008 + 0x40 * i) * 0x100 + 0x05
@[simp] abbrev Obj.EccSc.SUSPECTS (i : Nat) : Nat := (0x6008 + 0x40 * i) * 0x100 + 0x06
@[simp] abbrev Obj.EccSc.TRANSIENTS (i : Nat) : Nat := (0x6008 + 0x40 * i) * 0x100 + 0x07
@[simp] abbrev Obj.EccSc.ROW_FAULTS (i : Nat) : Nat := (0x6008 + 0x40 * i) * 0x100 + 0x08
@[simp] abbrev Obj.EccSc.SCRUB_POS (i : Nat) : Nat := (0x6008 + 0x40 * i) * 0x100 + 0x09
@[simp] abbrev Obj.EccSc.SCRUB_PASSES (i : Nat) : Nat := (0x6008 + 0x40 * i) * 0x100 + 0x0A
@[simp] abbrev Obj.EccSc.SCRUB_LAST_PASS (i : Nat) : Nat := (0x6008 + 0x40 * i) * 0x100 + 0x0B
@[simp] abbrev Obj.EccSc.SCRUB_WB (i : Nat) : Nat := (0x6008 + 0x40 * i) * 0x100 + 0x0C
@[simp] abbrev Obj.EccSc.SCRUB_WB_DROPPED (i : Nat) : Nat := (0x6008 + 0x40 * i) * 0x100 + 0x0D
@[simp] abbrev Obj.EccSc.REPAIRS (i : Nat) : Nat := (0x6008 + 0x40 * i) * 0x100 + 0x0E
@[simp] abbrev Obj.EccSc.REPAIR_FAILS (i : Nat) : Nat := (0x6008 + 0x40 * i) * 0x100 + 0x0F
@[simp] abbrev Obj.EccSc.INTERRUPT_LAST (i : Nat) : Nat := (0x6008 + 0x40 * i) * 0x100 + 0x10
@[simp] abbrev Obj.EccSc.INTERRUPT_MAX (i : Nat) : Nat := (0x6008 + 0x40 * i) * 0x100 + 0x11
@[simp] abbrev Obj.EccSc.PKG_SYMBOLS (i : Nat) : Nat := (0x6008 + 0x40 * i) * 0x100 + 0x12
@[simp] abbrev Obj.EccSc.FLAGS (i : Nat) : Nat := (0x6008 + 0x40 * i) * 0x100 + 0x13

end Sys2Proof.Machine
end

