-- ==== Sys2Proof/Machine/RailTree.lean ====
section
/-! DEFINITION. The default rail tree (11_power_sequencing.md R272), as the default of the rail objects (R300). -/

namespace Sys2Proof.Machine

/-- One rail of the default tree: NAME, PARENT (0xFF root), VNOM_MV, RANGE, UV_CODE, OV_CODE, OFF_CODE. -/
structure TreeRow where
  name : List Nat
  parent : Nat
  vnom : Nat
  range : Nat
  uv : Nat
  ov : Nat
  off : Nat
  deriving DecidableEq, Repr

/-- RC00 to RC13 of the default tree (R272); RC14 and RC15 are unused. -/
def treeRows : List TreeRow := [
  ⟨[72, 67, 79, 82, 69], 0xFF, 750, 0, 570, 630, 150⟩,                -- HCORE
  ⟨[72, 83, 82, 65, 77], 0, 800, 0, 608, 672, 160⟩,                   -- HSRAM
  ⟨[72, 65, 78, 65], 1, 900, 0, 684, 756, 180⟩,                       -- HANA
  ⟨[72, 73, 79, 49, 56], 2, 1800, 1, 684, 756, 180⟩,                  -- HIO18
  ⟨[72, 86, 68, 68, 81, 95, 69], 3, 1100, 0, 852, 933, 220⟩,          -- HVDDQ_E
  ⟨[72, 86, 68, 68, 81, 95, 87], 3, 1100, 0, 852, 933, 220⟩,          -- HVDDQ_W
  ⟨[72, 86, 84, 84], 2, 1200, 0, 912, 1008, 240⟩,                     -- HVTT
  ⟨[68, 86, 80, 80, 95, 69], 3, 1800, 1, 684, 756, 180⟩,              -- DVPP_E
  ⟨[68, 86, 80, 80, 95, 87], 3, 1800, 1, 684, 756, 180⟩,              -- DVPP_W
  ⟨[68, 86, 68, 68, 95, 69], 7, 1100, 0, 852, 933, 220⟩,              -- DVDD_E
  ⟨[68, 86, 68, 68, 95, 87], 8, 1100, 0, 852, 933, 220⟩,              -- DVDD_W
  ⟨[68, 86, 68, 68, 81, 95, 69], 9, 1100, 0, 852, 933, 220⟩,          -- DVDDQ_E
  ⟨[68, 86, 68, 68, 81, 95, 87], 10, 1100, 0, 852, 933, 220⟩,         -- DVDDQ_W
  ⟨[77, 71, 51, 86, 51], 0xFF, 3300, 2, 627, 693, 165⟩]               -- MG3V3

/-- ASCII padded with zeros to 8 bytes (R300). -/
def treeName (cs : List Nat) : Nat :=
  (cs ++ List.replicate (8 - cs.length) 0).foldl (fun a c => a * 256 + c) 0

/-- The default of rail object 0x4010+rail, subindices 1 to 8 (R272, R300); an unused rail has zeros and PARENT root. -/
def treeDefault (rail sub : Nat) : Nat :=
  match treeRows[rail]? with
  | none => if sub = 3 then 0xFF else 0
  | some r =>
    match sub with
    | 1 => 1
    | 2 => treeName r.name
    | 3 => r.parent
    | 4 => r.vnom
    | 5 => r.range
    | 6 => r.uv
    | 7 => r.ov
    | 8 => r.off
    | _ => 0

end Sys2Proof.Machine
end

