-- ==== Sys2Proof/Machine/SourceMap.lean ====
section
/-! DEFINITION. The fault source map (12_fault_collection.md R304 to R309): which of the 768 numbers are sources, and the
fixed CLASSIC properties of each. -/

namespace Sys2Proof.Machine

/-- The fixed properties of a source (R304): CLASS, LOCKOUT, DANGEROUS, REACTION. -/
structure SourceInfo where
  cls : Nat
  lockout : Bool
  dangerous : Bool
  reaction : Nat
  deriving DecidableEq, Repr

/-- One row of R304: numbers lo to hi. -/
structure SourceRow where
  lo : Nat
  hi : Nat
  info : SourceInfo
  deriving DecidableEq, Repr

/-- The source map, R304 and R298: reaction codes are those of R315. -/
def sourceMap : List SourceRow := [
  ⟨0x000, 0x000, ⟨2, false, true, 7⟩⟩,   -- FC_REG
  ⟨0x001, 0x001, ⟨2, false, true, 7⟩⟩,   -- FC_CHECKER
  ⟨0x002, 0x002, ⟨2, false, true, 7⟩⟩,   -- FC_SELFTEST
  ⟨0x003, 0x003, ⟨1, false, false, 0⟩⟩,  -- FC_PIN
  ⟨0x004, 0x004, ⟨2, false, true, 7⟩⟩,   -- REFCLK_LOST
  ⟨0x005, 0x006, ⟨1, false, false, 5⟩⟩,  -- DDR_DLL_UNLOCK_EAST, _WEST
  ⟨0x007, 0x007, ⟨2, false, false, 7⟩⟩,  -- BATON_CONFLICT
  ⟨0x008, 0x00B, ⟨1, false, false, 0⟩⟩,  -- BATON_MOVED, SUP_WDOG_EAST, _WEST, LEDGER_COMMIT
  ⟨0x00C, 0x00C, ⟨0, false, false, 0⟩⟩,  -- MP_CE
  ⟨0x00D, 0x00D, ⟨1, false, true, 0⟩⟩,   -- MP_UE_ELASTIC
  ⟨0x00E, 0x00F, ⟨2, false, true, 7⟩⟩,   -- MP_UE_DESC, FAB_PARITY
  ⟨0x010, 0x010, ⟨1, false, true, 0⟩⟩,   -- MON_CHECK
  ⟨0x020, 0x028, ⟨1, false, false, 0⟩⟩,  -- TEMP_WARN_TSn
  ⟨0x030, 0x038, ⟨2, false, true, 7⟩⟩,   -- TEMP_CRIT_TSn
  ⟨0x040, 0x047, ⟨0, false, false, 0⟩⟩,  -- HR_HCRC_HPn
  ⟨0x048, 0x04F, ⟨0, false, true, 0⟩⟩,   -- HR_PCRC_HPn
  ⟨0x050, 0x057, ⟨1, false, false, 0⟩⟩,  -- HR_CREDIT_OVF_HPn
  ⟨0x058, 0x05F, ⟨1, false, false, 3⟩⟩,  -- HR_KEEPALIVE_HPn
  ⟨0x060, 0x067, ⟨1, false, false, 0⟩⟩,  -- HR_FEC_UNCORR_HPn
  ⟨0x080, 0x080, ⟨0, false, false, 0⟩⟩,  -- MR_THROTTLE
  ⟨0x081, 0x082, ⟨1, false, false, 0⟩⟩,  -- WR_RING_BLOCKED, MS_DROP
  ⟨0x083, 0x083, ⟨1, false, true, 0⟩⟩,   -- MS_CACHE_UE
  ⟨0x084, 0x084, ⟨1, false, false, 0⟩⟩,  -- TR_JOB_HALT
  ⟨0x0C0, 0x0C1, ⟨1, false, false, 0⟩⟩,  -- SEC_BOOT, SEC_KEY
  ⟨0x0C2, 0x0C2, ⟨0, false, false, 0⟩⟩,  -- SEC_DENIED
  ⟨0x0C3, 0x0C3, ⟨1, false, false, 0⟩⟩,  -- SEC_JTAG
  ⟨0x0C4, 0x0C4, ⟨2, true, false, 8⟩⟩,   -- SEC_FUSE
  ⟨0x0D0, 0x0D6, ⟨1, false, false, 0⟩⟩,  -- SL_LINK_SPn, SL_DUAL_HELM, SL_EPOCH_LATE, TIME_LOST
  ⟨0x0E0, 0x0E0, ⟨1, false, false, 0⟩⟩,  -- MG_LINK
  ⟨0x100, 0x10F, ⟨2, true, true, 8⟩⟩,    -- SQ_OV_RCcc
  ⟨0x110, 0x12F, ⟨1, false, false, 0⟩⟩,  -- SQ_UV_RCcc, SQ_PG_RCcc
  ⟨0x130, 0x13F, ⟨1, false, true, 0⟩⟩,   -- SQ_SENSE_RCcc
  ⟨0x140, 0x14F, ⟨2, false, true, 7⟩⟩,   -- SQ_CHECK_RCcc
  ⟨0x150, 0x154, ⟨1, false, false, 0⟩⟩,  -- SQ_RAMP_FAIL, DESCENT_STUCK, CASCADE, INPUT_LOSS, AO_LOW
  ⟨0x155, 0x155, ⟨0, false, false, 0⟩⟩,  -- SQ_PMBUS
  ⟨0x156, 0x156, ⟨1, false, false, 0⟩⟩,  -- SQ_TABLE_BAD
  ⟨0x180, 0x19F, ⟨1, false, true, 0⟩⟩,   -- MC_UE_SCnn
  ⟨0x1A0, 0x1BF, ⟨1, false, false, 0⟩⟩,  -- MC_REF_LATE_SCnn
  ⟨0x1C0, 0x1DF, ⟨2, false, true, 7⟩⟩,   -- MC_TEMP_LIMIT_SCnn
  ⟨0x1E0, 0x1FF, ⟨0, false, true, 0⟩⟩,   -- ECC_CE_SCnn
  ⟨0x210, 0x22F, ⟨0, false, true, 1⟩⟩,   -- DDR_ALERT_SCnn
  ⟨0x230, 0x24F, ⟨1, false, false, 0⟩⟩,  -- DDR_TRAIN_SCnn
  ⟨0x250, 0x26F, ⟨0, false, false, 0⟩⟩,  -- FT_TRACK_SCnn
  ⟨0x270, 0x28F, ⟨1, false, true, 2⟩⟩,   -- ECC_PKG_MARK_SCnn
  ⟨0x290, 0x2AF, ⟨1, false, false, 0⟩⟩,  -- ECC_REPAIR_SCnn
  ⟨0x2B0, 0x2CF, ⟨1, false, true, 4⟩⟩,   -- ECC_CHECKER_SCnn
  ⟨0x2D0, 0x2EF, ⟨1, false, false, 0⟩⟩]  -- SC_OFFLINE_SCnn

/-- The fixed properties of a source number; none for a reserved number (R304). -/
def sourceInfo? (s : Nat) : Option SourceInfo :=
  (sourceMap.find? fun r => decide (r.lo ≤ s ∧ s ≤ r.hi)).map (·.info)

/-- The properties of a source, reserved numbers included. -/
def sourceInfo (s : Nat) : SourceInfo := (sourceInfo? s).getD ⟨0, false, false, 0⟩

/-- The CLASSIC byte (R309). -/
def sourceClassic (s : Nat) : Nat :=
  let i := sourceInfo s
  (if i.dangerous then 128 else 0) + i.reaction * 8 + (if i.lockout then 4 else 0) + i.cls

/-- The default SEVERITY by class (R307). -/
def sourceConfigDefault (s : Nat) : Nat :=
  let i := sourceInfo s
  if i.lockout then 7 else if i.cls = 2 then 6 else if i.cls = 1 then 4 else 1

/-- FC_REG, FC_CHECKER and BATON_CONFLICT are pinned (R312). -/
def sourcePinned (s : Nat) : Bool := s = 0x000 || s = 0x001 || s = 0x007

/-! The numbers of the sources, by name (R304, R298). -/
abbrev Src.fcReg : Nat := 0x000
abbrev Src.fcChecker : Nat := 0x001
abbrev Src.fcSelftest : Nat := 0x002
abbrev Src.fcPin : Nat := 0x003
abbrev Src.refclkLost : Nat := 0x004
abbrev Src.dllUnlock (h : Nat) : Nat := 0x005 + h
abbrev Src.batonConflict : Nat := 0x007
abbrev Src.batonMoved : Nat := 0x008
abbrev Src.supWdog (h : Nat) : Nat := 0x009 + h
abbrev Src.ledgerCommit : Nat := 0x00B
abbrev Src.mpCe : Nat := 0x00C
abbrev Src.mpUeElastic : Nat := 0x00D
abbrev Src.mpUeDesc : Nat := 0x00E
abbrev Src.fabParity : Nat := 0x00F
abbrev Src.monCheck : Nat := 0x010
abbrev Src.tempWarn (n : Nat) : Nat := 0x020 + n
abbrev Src.tempCrit (n : Nat) : Nat := 0x030 + n
abbrev Src.hrHcrc (p : Nat) : Nat := 0x040 + p
abbrev Src.hrPcrc (p : Nat) : Nat := 0x048 + p
abbrev Src.hrCreditOvf (p : Nat) : Nat := 0x050 + p
abbrev Src.hrKeepalive (p : Nat) : Nat := 0x058 + p
abbrev Src.hrFecUncorr (p : Nat) : Nat := 0x060 + p
abbrev Src.mrThrottle : Nat := 0x080
abbrev Src.wrRingBlocked : Nat := 0x081
abbrev Src.msDrop : Nat := 0x082
abbrev Src.msCacheUe : Nat := 0x083
abbrev Src.trJobHalt : Nat := 0x084
abbrev Src.secBoot : Nat := 0x0C0
abbrev Src.secKey : Nat := 0x0C1
abbrev Src.secDenied : Nat := 0x0C2
abbrev Src.secJtag : Nat := 0x0C3
abbrev Src.secFuse : Nat := 0x0C4
abbrev Src.slLink (n : Nat) : Nat := 0x0D0 + n
abbrev Src.slDualHelm : Nat := 0x0D4
abbrev Src.slEpochLate : Nat := 0x0D5
abbrev Src.timeLost : Nat := 0x0D6
abbrev Src.mgLink : Nat := 0x0E0
abbrev Src.sqOv (c : Nat) : Nat := 0x100 + c
abbrev Src.sqUv (c : Nat) : Nat := 0x110 + c
abbrev Src.sqPg (c : Nat) : Nat := 0x120 + c
abbrev Src.sqSense (c : Nat) : Nat := 0x130 + c
abbrev Src.sqCheck (c : Nat) : Nat := 0x140 + c
abbrev Src.sqRampFail : Nat := 0x150
abbrev Src.sqDescentStuck : Nat := 0x151
abbrev Src.sqCascade : Nat := 0x152
abbrev Src.sqInputLoss : Nat := 0x153
abbrev Src.sqAoLow : Nat := 0x154
abbrev Src.sqPmbus : Nat := 0x155
abbrev Src.sqTableBad : Nat := 0x156
abbrev Src.mcUe (n : Nat) : Nat := 0x180 + n
abbrev Src.mcRefLate (n : Nat) : Nat := 0x1A0 + n
abbrev Src.mcTempLimit (n : Nat) : Nat := 0x1C0 + n
abbrev Src.eccCe (n : Nat) : Nat := 0x1E0 + n
abbrev Src.ddrAlert (n : Nat) : Nat := 0x210 + n
abbrev Src.ddrTrain (n : Nat) : Nat := 0x230 + n
abbrev Src.ftTrack (n : Nat) : Nat := 0x250 + n
abbrev Src.eccPkgMark (n : Nat) : Nat := 0x270 + n
abbrev Src.eccRepair (n : Nat) : Nat := 0x290 + n
abbrev Src.eccChecker (n : Nat) : Nat := 0x2B0 + n
abbrev Src.scOffline (n : Nat) : Nat := 0x2D0 + n

end Sys2Proof.Machine
end

