-- ==== Sys2Proof/Machine/Dictionary.lean ====
section
/-! DEFINITION. The object dictionary: key constants and one row for every object of the spec's object tables
(00_scope.md R7 to R11; 14_object_dictionary.md R382; the table of each chapter is named beside its rows).
A key is index * 256 + subindex. -/

namespace Sys2Proof.Machine

/-- Object value types (R8). -/
inductive Ty where
  | bool | u8 | u16 | u32 | u64 | i32 | f32 | time96 | ratio80 | enum8
  | octets (n : Nat)
  deriving DecidableEq, Repr

/-- Size of a type in bytes (R8, R373). -/
def Ty.bytes : Ty → Nat
  | .bool | .u8 | .enum8 => 1
  | .u16 => 2
  | .u32 | .i32 | .f32 => 4
  | .u64 => 8
  | .ratio80 => 10
  | .time96 => 12
  | .octets n => n

/-- The TYPE code of DESCRIBE (R374). -/
def Ty.code : Ty → Nat
  | .bool => 0 | .u8 => 1 | .u16 => 2 | .u32 => 3 | .u64 => 4 | .i32 => 5 | .f32 => 6
  | .time96 => 7 | .ratio80 => 8 | .enum8 => 9 | .octets _ => 10

/-- Access codes (R9). -/
inductive Access where
  | const | ro | rw | rwi | rws | wo | w1c
  deriving DecidableEq, Repr

/-- The ACCESS code of DESCRIBE (R374). -/
def Access.code : Access → Nat
  | .const => 0 | .ro => 1 | .rw => 2 | .rwi => 3 | .rws => 4 | .wo => 5 | .w1c => 6

/-- Persistence (R12); `none` is constants and fuses (R374). -/
inductive Persist where
  | vol | ledger | none
  deriving DecidableEq, Repr

/-- The PERSISTENCE code of DESCRIBE (R374). -/
def Persist.code : Persist → Nat
  | .vol => 0 | .ledger => 1 | .none => 2

/-- What makes a value well formed in itself beyond its type: step 4 of R446. -/
inductive Check where
  | any
  | range (lo hi : Nat)
  | rangeOr (lo hi extra : Nat)
  | oneOf (vs : List Nat)
  | srange (lo hi : Int)
  | mask (m : Nat)
  | bytesLe (m : Nat)
  | nonzero
  | member
  | eraseMap
  | partition
  | w1c (clearable readOnly : Nat)
  deriving DecidableEq, Repr

/-- One row of an object table: subindices `lo` to `hi`. -/
structure Row where
  lo : Nat
  hi : Nat
  ty : Ty
  acc : Access
  world : World
  pers : Persist
  dflt : Nat
  chk : Check
  deriving DecidableEq, Repr

/-- One entry of the dictionary map (R382): indices base + stride·i for first ≤ i < count. -/
structure Group where
  base : Nat
  stride : Nat
  count : Nat
  first : Nat
  rows : List Row
  deriving DecidableEq, Repr

/-- Objects of Id. -/
def Obj.Id.rows : List Row := [
  ⟨0x01, 0x01, (.octets 8), .const, .openWorld, .none, 5786360455294366514, .any⟩,  -- DEVICE_NAME (R380)
  ⟨0x02, 0x02, .u16, .const, .openWorld, .none, 0, .any⟩,  -- SILICON_REV (R380)
  ⟨0x03, 0x03, (.octets 16), .const, .openWorld, .none, 0, .any⟩,  -- SERIAL (R380)
  ⟨0x04, 0x04, .u32, .rws, .secureWorld, .ledger, 0, .any⟩,  -- HUB_ID (R380)
  ⟨0x05, 0x05, .u16, .const, .openWorld, .none, 1, .any⟩,  -- DICT_VERSION (R380)
  ⟨0x06, 0x06, .u64, .ro, .openWorld, .vol, 0, .any⟩,  -- FW_VERSION (R380)
  ⟨0x07, 0x07, .bool, .wo, .secureWorld, .vol, 0, .any⟩,  -- FACTORY_DEFAULTS (R380)
  ⟨0x08, 0x08, .u16, .const, .openWorld, .none, 0, .any⟩]  -- SPEED_MAX (R445)

/-- Objects of Mg. -/
def Obj.Mg.rows : List Row := [
  ⟨0x01, 0x01, .enum8, .rwi, .secureWorld, .ledger, 0, .range 0 1⟩,  -- MG_MODE (R380)
  ⟨0x02, 0x02, (.octets 6), .const, .openWorld, .none, 0, .any⟩,  -- MAC (R380)
  ⟨0x03, 0x03, .u32, .rwi, .secureWorld, .ledger, 0, .any⟩,  -- IPV4_ADDR (R380)
  ⟨0x04, 0x04, .u8, .rwi, .secureWorld, .ledger, 24, .range 8 30⟩,  -- IPV4_PREFIX (R380)
  ⟨0x05, 0x05, .u32, .rwi, .secureWorld, .ledger, 0, .any⟩,  -- IPV4_GATEWAY (R380)
  ⟨0x06, 0x06, (.octets 16), .rwi, .secureWorld, .ledger, 0, .any⟩,  -- IPV6_ADDR (R380)
  ⟨0x07, 0x07, .u8, .rwi, .secureWorld, .ledger, 64, .range 16 127⟩,  -- IPV6_PREFIX (R380)
  ⟨0x08, 0x08, (.octets 16), .rwi, .secureWorld, .ledger, 0, .any⟩,  -- IPV6_GATEWAY (R380)
  ⟨0x09, 0x09, .enum8, .ro, .openWorld, .vol, 0, .any⟩,  -- LINK_STATE (R380)
  ⟨0x0A, 0x0A, .u32, .ro, .openWorld, .vol, 0, .any⟩]  -- DATAGRAMS_BAD (R380)

/-- Objects of Loa. -/
def Obj.Loa.rows : List Row := [
  ⟨0x01, 0x01, (.octets 32), .wo, .secureWorld, .ledger, 0, .nonzero⟩,  -- ADMIT_KEY (R381)
  ⟨0x02, 0x02, (.octets 4), .ro, .openWorld, .vol, 0, .any⟩,  -- ADMIT_KCV (R381)
  ⟨0x03, 0x03, .u16, .rw, .secureWorld, .ledger, 60, .range 5 3600⟩,  -- SESSION_IDLE_S (R381)
  ⟨0x04, 0x04, .u16, .rw, .openWorld, .ledger, 100, .range 10 10000⟩,  -- NOTIFY_RETRY_MS (R381)
  ⟨0x05, 0x05, .u32, .ro, .openWorld, .vol, 0, .any⟩,  -- SESSIONS (R381)
  ⟨0x06, 0x06, .u32, .ro, .openWorld, .vol, 0, .any⟩,  -- SECURE_SESSIONS (R381)
  ⟨0x07, 0x07, .u64, .ro, .openWorld, .vol, 0, .any⟩,  -- REQUESTS (R381)
  ⟨0x08, 0x08, .u32, .ro, .openWorld, .vol, 0, .any⟩,  -- DUPLICATES (R381)
  ⟨0x09, 0x09, .u32, .ro, .openWorld, .vol, 0, .any⟩,  -- AUTH_FAILS (R381)
  ⟨0x0A, 0x0A, .u32, .ro, .openWorld, .vol, 0, .any⟩,  -- NOTIFY_LOST (R381)
  ⟨0x0B, 0x0B, .u32, .w1c, .openWorld, .vol, 0, .w1c 0xF 0x0⟩,  -- FLAGS (R381)
  ⟨0x0C, 0x0C, .u32, .ro, .openWorld, .vol, 0, .any⟩,  -- SET_DURING_CLEAR (R381)
  ⟨0x0D, 0x0D, .u32, .ro, .openWorld, .ledger, 0, .any⟩]  -- ADMIT_GEN (R381)

/-- Objects of Time. -/
def Obj.Time.rows : List Row := [
  ⟨0x01, 0x01, .time96, .ro, .openWorld, .vol, 0, .any⟩,  -- HUB_TIME (R405)
  ⟨0x02, 0x02, .bool, .ro, .openWorld, .vol, 0, .any⟩,  -- TIME_VALID (R405)
  ⟨0x03, 0x03, .enum8, .rwi, .secureWorld, .ledger, 3, .range 0 3⟩,  -- TIME_SOURCE (R405)
  ⟨0x04, 0x04, .enum8, .rwi, .secureWorld, .ledger, 0, .range 0 1⟩,  -- PPS_MODE (R405)
  ⟨0x05, 0x05, .enum8, .ro, .openWorld, .vol, 0, .any⟩,  -- DISC_STATE (R405)
  ⟨0x06, 0x06, .i32, .ro, .openWorld, .vol, 0, .any⟩,  -- OFFSET_PS (R405)
  ⟨0x07, 0x07, .i32, .ro, .openWorld, .vol, 0, .any⟩,  -- TRIM (R405)
  ⟨0x08, 0x08, .u32, .rw, .secureWorld, .ledger, 1000, .range 100 1000000000⟩,  -- STEP_LIMIT_NS (R405)
  ⟨0x09, 0x09, .u32, .rw, .openWorld, .ledger, 100, .range 10 100000⟩,  -- LOOP_TC_MS (R405)
  ⟨0x0A, 0x0A, .u32, .rw, .openWorld, .ledger, 1000, .range 125 1000000⟩,  -- TIME_INTERVAL_US (R405)
  ⟨0x0B, 0x0B, .u32, .rw, .openWorld, .ledger, 600, .range 1 86400⟩,  -- HOLDOVER_S (R405)
  ⟨0x0C, 0x0C, .u8, .rwi, .secureWorld, .ledger, 0, .range 0 127⟩,  -- PTP_DOMAIN (R405)
  ⟨0x0D, 0x0D, (.octets 8), .ro, .openWorld, .vol, 0, .any⟩,  -- PTP_GM_ID (R405)
  ⟨0x0E, 0x0E, .u32, .ro, .openWorld, .vol, 0, .any⟩,  -- STEPS (R405)
  ⟨0x0F, 0x0F, .u32, .ro, .openWorld, .vol, 0, .any⟩,  -- PPS_REJECTS (R405)
  ⟨0x10, 0x10, .u32, .w1c, .openWorld, .vol, 0, .w1c 0xF 0x0⟩,  -- FLAGS (R405)
  ⟨0x11, 0x11, .u32, .ro, .openWorld, .vol, 0, .any⟩]  -- SET_DURING_CLEAR (R405)

/-- Objects of Hr. -/
def Obj.Hr.rows : List Row := [
  ⟨0x01, 0x01, .u8, .rwi, .secureWorld, .ledger, 0xFF, .any⟩,  -- PORT_ENABLE (R64)
  ⟨0x02, 0x02, .u32, .ro, .openWorld, .vol, 0, .any⟩]  -- SET_DURING_CLEAR (R64)

/-- Objects of Port. -/
def Obj.Port.rows : List Row := [
  ⟨0x01, 0x01, .enum8, .ro, .openWorld, .vol, 0, .any⟩,  -- PORT_STATE (R64)
  ⟨0x02, 0x02, .u8, .ro, .openWorld, .vol, 0x00, .any⟩,  -- LANE_MASK_TX (R64)
  ⟨0x03, 0x03, .u8, .ro, .openWorld, .vol, 0x00, .any⟩,  -- LANE_MASK_RX (R64)
  ⟨0x04, 0x04, .u32, .w1c, .openWorld, .vol, 0, .w1c 0xFFF 0x0⟩,  -- FLAGS (R64)
  ⟨0x05, 0x05, .u32, .ro, .openWorld, .vol, 0, .any⟩,  -- HCRC_ERRORS (R64)
  ⟨0x06, 0x06, .u32, .ro, .openWorld, .vol, 0, .any⟩,  -- PCRC_ERRORS (R64)
  ⟨0x07, 0x07, .u64, .ro, .openWorld, .vol, 0, .any⟩,  -- FEC_CORRECTED (R64)
  ⟨0x08, 0x08, .u32, .ro, .openWorld, .vol, 0, .any⟩,  -- FEC_UNCORRECTABLE (R64)
  ⟨0x09, 0x09, .u32, .ro, .openWorld, .vol, 0, .any⟩,  -- MALFORMED_COUNT (R64)
  ⟨0x0A, 0x0A, .u32, .ro, .openWorld, .vol, 0, .any⟩,  -- CREDIT_OVERFLOWS (R64)
  ⟨0x0B, 0x0B, .u32, .ro, .openWorld, .vol, 0, .any⟩,  -- LANE_RETRAINS (R64)
  ⟨0x0C, 0x0C, .u32, .ro, .openWorld, .vol, 0, .any⟩]  -- UNBOUND (R64)

/-- Objects of Region. -/
def Obj.Region.rows : List Row := [
  ⟨0x01, 0x01, .enum8, .rw, .secureWorld, .vol, 0, .range 0 5⟩,  -- PERSONALITY (R82)
  ⟨0x02, 0x02, .u32, .rw, .secureWorld, .vol, 0, .any⟩,  -- BASE_MIB (R82)
  ⟨0x03, 0x03, .u32, .rw, .secureWorld, .vol, 0, .any⟩,  -- SIZE_MIB (R82)
  ⟨0x04, 0x04, .u64, .ro, .openWorld, .vol, 0, .any⟩,  -- RING_HEAD (R82)
  ⟨0x05, 0x05, .enum8, .rw, .secureWorld, .vol, 0, .range 0 1⟩,  -- WORLD (R82)
  ⟨0x06, 0x06, .u8, .rw, .secureWorld, .vol, 0x00, .any⟩,  -- OWNER_MASK (R82)
  ⟨0x07, 0x07, .u64, .ro, .openWorld, .vol, 0, .any⟩,  -- RING_TAIL (R82)
  ⟨0x08, 0x08, .u32, .rw, .secureWorld, .vol, 0, .any⟩,  -- DATA_MIB (R82)
  ⟨0x09, 0x09, .u32, .rw, .secureWorld, .vol, 1, .range 1 64⟩,  -- SPAN_MIB (R82)
  ⟨0x0A, 0x0A, .u32, .ro, .openWorld, .vol, 0, .any⟩,  -- MAP_MIB (R82)
  ⟨0x0B, 0x0B, .u16, .ro, .openWorld, .vol, 0xFFFF, .any⟩,  -- STREAM (R82)
  ⟨0x0C, 0x0C, .u32, .ro, .openWorld, .vol, 0, .any⟩,  -- SEGS_HELD (R82)
  ⟨0x0D, 0x0D, .u32, .ro, .openWorld, .vol, 0, .any⟩,  -- SPANS_USED (R82)
  ⟨0x0E, 0x0E, .u32, .ro, .openWorld, .vol, 0, .any⟩,  -- SPAN_HEAD (R82)
  ⟨0x0F, 0x0F, .u32, .ro, .openWorld, .vol, 0, .any⟩,  -- CURSOR (R82)
  ⟨0x10, 0x10, .u16, .ro, .openWorld, .vol, 0xFFFF, .any⟩,  -- CONTEXT (R142)
  ⟨0x11, 0x11, .u32, .ro, .openWorld, .vol, 0, .any⟩,  -- SLOT_BYTES (R142)
  ⟨0x12, 0x12, .u8, .ro, .openWorld, .vol, 0, .any⟩,  -- NFRAMES_BOUND (R142)
  ⟨0x13, 0x13, .u64, .ro, .openWorld, .vol, 0, .any⟩,  -- RECORD_END (R84)
  ⟨0x1E, 0x1E, .u16, .ro, .openWorld, .vol, 0, .any⟩,  -- LEASES (R162)
  ⟨0x1F, 0x1F, .bool, .ro, .openWorld, .vol, 0, .any⟩]  -- FREE_PENDING (R162)

/-- Objects of Stream. -/
def Obj.Stream.rows : List Row := [
  ⟨0x01, 0x01, .bool, .rw, .openWorld, .vol, 0, .any⟩,  -- ENABLE (R70)
  ⟨0x02, 0x02, .enum8, .ro, .openWorld, .vol, 0, .any⟩,  -- STATE (R70)
  ⟨0x03, 0x03, .u8, .rw, .openWorld, .vol, 0xFF, .rangeOr 0 7 0xFF⟩,  -- PORT (R70)
  ⟨0x04, 0x04, .u16, .rw, .openWorld, .vol, 0xFFFF, .rangeOr 0 1023 0xFFFF⟩,  -- REGION (R70)
  ⟨0x05, 0x05, .enum8, .rw, .openWorld, .vol, 1, .range 0 5⟩,  -- FORMAT (R70)
  ⟨0x06, 0x06, .enum8, .rw, .openWorld, .vol, 0, .range 0 1⟩,  -- CLASS (R70)
  ⟨0x07, 0x07, .u32, .rw, .openWorld, .vol, 0, .range 0 1048576⟩,  -- SPECLEN (R70)
  ⟨0x08, 0x08, .bool, .rw, .secureWorld, .vol, 0, .any⟩,  -- EXACT_ALLOWED (R70)
  ⟨0x09, 0x09, .u64, .rw, .openWorld, .vol, 0, .any⟩,  -- START_INDEX (R70)
  ⟨0x0A, 0x0A, .time96, .rw, .openWorld, .vol, 0, .any⟩,  -- T0 (R70)
  ⟨0x0B, 0x0B, .ratio80, .rw, .openWorld, .vol, 1, .any⟩,  -- RATE (R70)
  ⟨0x0C, 0x0C, .u32, .ro, .openWorld, .vol, 0, .any⟩,  -- GDELAY (R70)
  ⟨0x0D, 0x0D, .bool, .ro, .openWorld, .vol, 0, .any⟩,  -- MINPHASE (R70)
  ⟨0x0E, 0x0E, .u64, .ro, .openWorld, .vol, 0, .any⟩,  -- NEXT_INDEX (R70)
  ⟨0x0F, 0x0F, .u16, .rw, .openWorld, .vol, 50, .range 1 10000⟩,  -- FLUSH_TIMEOUT (R70)
  ⟨0x10, 0x10, .u32, .w1c, .openWorld, .vol, 0, .w1c 0x7FF 0x0⟩,  -- FLAGS (R70)
  ⟨0x11, 0x11, .u64, .ro, .openWorld, .vol, 0, .any⟩,  -- CELLS (R70)
  ⟨0x12, 0x12, .u64, .ro, .openWorld, .vol, 0, .any⟩,  -- GAP_SAMPLES (R70)
  ⟨0x13, 0x13, .u32, .ro, .openWorld, .vol, 0, .any⟩,  -- LINK_ERR_CELLS (R70)
  ⟨0x14, 0x14, .u32, .ro, .openWorld, .vol, 0, .any⟩,  -- BACKSTEPS (R70)
  ⟨0x15, 0x15, .u32, .ro, .openWorld, .vol, 0, .any⟩,  -- DISC_APPLIED (R70)
  ⟨0x16, 0x16, (.octets 240), .ro, .openWorld, .vol, 0, .any⟩,  -- TB_LOG (R70)
  ⟨0x17, 0x17, .u32, .ro, .openWorld, .vol, 0, .any⟩]  -- DISCARDED (R70)

/-- Objects of Millpond. -/
def Obj.Millpond.rows : List Row := [
  ⟨0x01, 0x01, .u32, .rwi, .secureWorld, .ledger, 0x00080301, .partition⟩,  -- PARTITION (R94)
  ⟨0x02, 0x02, .u32, .ro, .openWorld, .vol, 0, .any⟩,  -- ELASTIC_FILL (R98)
  ⟨0x03, 0x03, .u32, .rw, .openWorld, .vol, 0, .range 0 0⟩,  -- ELASTIC_PEAK (R98)
  ⟨0x04, 0x04, .u32, .ro, .openWorld, .vol, 58720256, .any⟩,  -- HIGH_WATER (R98)
  ⟨0x05, 0x05, .u32, .ro, .openWorld, .vol, 50331648, .any⟩,  -- LOW_WATER (R98)
  ⟨0x06, 0x06, .u64, .ro, .openWorld, .vol, 0, .any⟩,  -- THROTTLE_TIME (R98)
  ⟨0x07, 0x07, .u32, .w1c, .openWorld, .vol, 0, .w1c 0x3 0x0⟩,  -- FLAGS (R98)
  ⟨0x08, 0x08, .u32, .ro, .openWorld, .vol, 0, .any⟩]  -- SET_DURING_CLEAR (R98)

/-- Objects of Preset. -/
def Obj.Preset.rows : List Row := [
  ⟨0x01, 0xFE, .ratio80, .rw, .secureWorld, .ledger, 1, .any⟩]  -- RATE_PRESET (R77)

/-- Objects of Window. -/
def Obj.Window.rows : List Row := [
  ⟨0x01, 0x01, .enum8, .ro, .openWorld, .vol, 0, .any⟩,  -- STATE (R101)
  ⟨0x02, 0x02, .bool, .rw, .openWorld, .vol, 0, .any⟩,  -- ARM (R101)
  ⟨0x03, 0x03, .u64, .rw, .openWorld, .vol, 0, .any⟩,  -- PRE_NS (R101)
  ⟨0x04, 0x04, .u64, .rw, .openWorld, .vol, 0, .any⟩,  -- POST_NS (R101)
  ⟨0x05, 0x05, .u8, .rw, .openWorld, .vol, 0x07, .mask 0x07⟩,  -- SOURCES (R101)
  ⟨0x06, 0x06, .u16, .rw, .openWorld, .vol, 0xFFFF, .any⟩,  -- DETECTOR_MATCH (R101)
  ⟨0x07, 0x07, .enum8, .rw, .openWorld, .vol, 0, .range 0 1⟩,  -- RETRIGGER (R101)
  ⟨0x08, 0x08, .bool, .rw, .openWorld, .vol, 1, .any⟩,  -- SAIL_FORWARD (R101)
  ⟨0x09, 0x09, .bool, .wo, .openWorld, .vol, 0, .any⟩,  -- RELEASE (R101)
  ⟨0x0A, 0x0A, .u32, .w1c, .openWorld, .vol, 0, .w1c 0xFF 0x0⟩,  -- FLAGS (R101)
  ⟨0x0B, 0x0B, .bool, .rw, .openWorld, .vol, 1, .any⟩,  -- REARM (R101)
  ⟨0x0C, 0x0C, .bool, .rw, .openWorld, .vol, 1, .any⟩,  -- AUTO_RELEASE (R101)
  ⟨0x0D, 0x0D, .u16, .ro, .openWorld, .vol, 0, .any⟩,  -- GEN (R101)
  ⟨0x0E, 0x0E, .bool, .ro, .openWorld, .vol, 0, .any⟩,  -- READY (R101)
  ⟨0x0F, 0x0F, .u32, .ro, .openWorld, .vol, 0, .any⟩,  -- TRIGGER_ID (R101)
  ⟨0x10, 0x10, .enum8, .ro, .openWorld, .vol, 0, .any⟩,  -- TRIGGER_SRC (R101)
  ⟨0x11, 0x11, .time96, .ro, .openWorld, .vol, 0, .any⟩,  -- T_EVENT (R101)
  ⟨0x12, 0x12, .u32, .ro, .openWorld, .vol, 0, .any⟩,  -- SEGS_RESERVED (R101)
  ⟨0x13, 0x13, .u32, .ro, .openWorld, .vol, 0, .any⟩,  -- RETRIGGERS (R101)
  ⟨0x14, 0x14, .u32, .ro, .openWorld, .vol, 0, .any⟩,  -- REFUSALS (R101)
  ⟨0x15, 0x15, .enum8, .ro, .openWorld, .vol, 0, .any⟩,  -- LAST_REFUSAL (R101)
  ⟨0x20, 0x2F, (.octets 16), .rw, .openWorld, .vol, 0xFFFF0000000000000000000000000000, .member⟩,  -- MEMBER (R101)
  ⟨0x30, 0x3F, (.octets 32), .ro, .openWorld, .vol, 0, .any⟩]  -- RESULT (R101)

/-- Objects of Quota. -/
def Obj.Quota.rows : List Row := [
  ⟨0x01, 0x01, .u32, .rw, .secureWorld, .vol, 0, .any⟩,  -- QUOTA_SEG (R117)
  ⟨0x02, 0x02, .enum8, .rw, .secureWorld, .vol, 0, .range 0 2⟩,  -- OVERFLOW (R117)
  ⟨0x03, 0x03, .u32, .ro, .openWorld, .vol, 0, .any⟩,  -- SEGS_COMMITTED (R117)
  ⟨0x04, 0x04, .u32, .ro, .openWorld, .vol, 0, .any⟩,  -- EVICTIONS (R117)
  ⟨0x05, 0x05, .u64, .ro, .openWorld, .vol, 0, .any⟩,  -- BLOCKED_SAMPLES (R117)
  ⟨0x06, 0x06, .u32, .w1c, .openWorld, .vol, 0, .w1c 0x3 0x0⟩]  -- FLAGS (R117)

/-- Objects of Context. -/
def Obj.Context.rows : List Row := [
  ⟨0x01, 0x01, .enum8, .ro, .openWorld, .vol, 0, .any⟩,  -- STATE (R120)
  ⟨0x02, 0x02, .bool, .rw, .openWorld, .vol, 0, .any⟩,  -- START (R120)
  ⟨0x03, 0x03, .enum8, .rw, .openWorld, .vol, 0, .range 0 3⟩,  -- OP (R120)
  ⟨0x04, 0x04, .enum8, .rw, .openWorld, .vol, 1, .range 0 3⟩,  -- ELEM (R120)
  ⟨0x05, 0x05, .u16, .rw, .openWorld, .vol, 0xFFFF, .range 0 255⟩,  -- STREAM (R120)
  ⟨0x06, 0x06, .u16, .rw, .openWorld, .vol, 0xFFFF, .range 0 1023⟩,  -- REGION (R120)
  ⟨0x07, 0x07, .u8, .rw, .openWorld, .vol, 2, .range 2 4⟩,  -- NFRAMES (R120)
  ⟨0x08, 0x08, .u32, .rw, .openWorld, .vol, 1, .nonzero⟩,  -- NROWS (R120)
  ⟨0x09, 0x09, .u64, .rw, .openWorld, .vol, 0, .any⟩,  -- START_ROW (R120)
  ⟨0x0A, 0x0A, .u32, .rw, .openWorld, .vol, 0, .any⟩,  -- X_FIRST (R120)
  ⟨0x0B, 0x0B, .u32, .rw, .openWorld, .vol, 1, .nonzero⟩,  -- XBINS (R120)
  ⟨0x0C, 0x0C, .u16, .rw, .openWorld, .vol, 1, .range 1 4096⟩,  -- XDIV (R120)
  ⟨0x0D, 0x0D, .u16, .rw, .openWorld, .vol, 256, .range 1 4096⟩,  -- YBINS (R120)
  ⟨0x0E, 0x0E, .enum8, .rw, .openWorld, .vol, 0, .range 0 1⟩,  -- YMODE (R120)
  ⟨0x0F, 0x0F, .u32, .rw, .openWorld, .vol, 0, .any⟩,  -- Y_LOG_BASE (R120)
  ⟨0x10, 0x10, .u32, .rw, .openWorld, .vol, 0x00100000, .any⟩,  -- Y_LOG_STEP (R120)
  ⟨0x11, 0x11, .f32, .rw, .openWorld, .vol, 0, .any⟩,  -- Y_LIN_OFFSET (R120)
  ⟨0x12, 0x12, .f32, .rw, .openWorld, .vol, 0x3F800000, .any⟩,  -- Y_LIN_SCALE (R120)
  ⟨0x13, 0x13, .enum8, .rw, .openWorld, .vol, 0, .range 0 1⟩,  -- Y_EDGE (R120)
  ⟨0x14, 0x14, .enum8, .rw, .openWorld, .vol, 0, .range 0 1⟩,  -- LAYOUT (R120)
  ⟨0x15, 0x15, .u8, .rw, .openWorld, .vol, 0x11, .mask 0x1F⟩,  -- EXCLUDE (R120)
  ⟨0x16, 0x16, .u32, .ro, .openWorld, .vol, 0, .any⟩,  -- CREDIT_MW (R120)
  ⟨0x17, 0x17, .u32, .w1c, .openWorld, .vol, 0, .w1c 0x3FF 0x0⟩,  -- FLAGS (R120)
  ⟨0x18, 0x18, .u64, .ro, .openWorld, .vol, 0, .any⟩,  -- FRAME (R120)
  ⟨0x19, 0x19, .bool, .wo, .openWorld, .vol, 0, .any⟩,  -- CLOSE_NOW (R120)
  ⟨0x1A, 0x1A, .u64, .ro, .openWorld, .vol, 0, .any⟩,  -- UPDATES (R120)
  ⟨0x1B, 0x1B, .u64, .ro, .openWorld, .vol, 0, .any⟩,  -- ROWS_EXCLUDED (R120)
  ⟨0x1C, 0x1C, .u64, .ro, .openWorld, .vol, 0, .any⟩,  -- UPDATES_DROPPED (R120)
  ⟨0x1D, 0x1D, .u32, .ro, .openWorld, .vol, 0, .any⟩,  -- LATE_MARKS (R120)
  ⟨0x1E, 0x1E, .u64, .ro, .openWorld, .vol, 0, .any⟩,  -- NONFINITE (R120)
  ⟨0x1F, 0x1F, .u64, .ro, .openWorld, .vol, 0, .any⟩,  -- SATURATIONS (R120)
  ⟨0x20, 0x23, (.octets 64), .ro, .openWorld, .vol, 0, .any⟩,  -- SUMMARY (R120)
  ⟨0x24, 0x24, (.octets 64), .ro, .openWorld, .vol, 0, .any⟩,  -- LAST_SUMMARY (R120)
  ⟨0x25, 0x25, .u64, .ro, .openWorld, .vol, 0, .any⟩]  -- Y_OUTSIDE (R120)

/-- Objects of Millstone. -/
def Obj.Millstone.rows : List Row := [
  ⟨0x01, 0x01, .u8, .ro, .openWorld, .vol, 0, .any⟩,  -- CONTEXTS_RUNNING (R144)
  ⟨0x02, 0x02, .u32, .ro, .openWorld, .vol, 98304, .any⟩,  -- CACHE_LINES (R144)
  ⟨0x03, 0x03, .u32, .ro, .openWorld, .vol, 0, .any⟩,  -- LINES_USED (R144)
  ⟨0x04, 0x04, .u32, .ro, .openWorld, .vol, 0, .any⟩,  -- LINES_PINNED (R144)
  ⟨0x05, 0x05, .u64, .ro, .openWorld, .vol, 0, .any⟩,  -- EVICTIONS (R144)
  ⟨0x06, 0x06, .u64, .ro, .openWorld, .vol, 0, .any⟩,  -- REFILLS (R144)
  ⟨0x07, 0x07, .u32, .ro, .openWorld, .vol, 0, .any⟩,  -- CACHE_CORRECTED (R144)
  ⟨0x08, 0x08, .u32, .w1c, .openWorld, .vol, 0, .w1c 0x3 0x0⟩,  -- FLAGS (R144)
  ⟨0x09, 0x09, .u32, .ro, .openWorld, .vol, 0, .any⟩,  -- SET_DURING_CLEAR (R144)
  ⟨0x0A, 0x0A, .u32, .ro, .openWorld, .vol, 0, .any⟩]  -- UPDATE_RATE (R144)

/-- Objects of Job. -/
def Obj.Job.rows : List Row := [
  ⟨0x01, 0x01, .enum8, .ro, .openWorld, .vol, 0, .any⟩,  -- STATE (R145)
  ⟨0x02, 0x02, .bool, .wo, .openWorld, .vol, 0, .any⟩,  -- START (R145)
  ⟨0x03, 0x03, .enum8, .rw, .openWorld, .vol, 0, .range 0 2⟩,  -- SRC_KIND (R145)
  ⟨0x04, 0x04, .u16, .rw, .openWorld, .vol, 0xFFFF, .range 0 1023⟩,  -- SOURCE (R145)
  ⟨0x05, 0x05, .enum8, .rw, .openWorld, .vol, 0, .range 0 4⟩,  -- FRAME_SEL (R145)
  ⟨0x06, 0x06, .u64, .rw, .openWorld, .vol, 0, .any⟩,  -- RANGE_OFFSET (R145)
  ⟨0x07, 0x07, .u64, .rw, .openWorld, .vol, 0, .nonzero⟩,  -- RANGE_LENGTH (R145)
  ⟨0x08, 0x08, .enum8, .rw, .openWorld, .vol, 0, .range 0 2⟩,  -- MODE (R145)
  ⟨0x09, 0x09, .u8, .rw, .openWorld, .vol, 0xFF, .range 0 7⟩,  -- PORT (R145)
  ⟨0x0A, 0x0A, .u16, .rw, .openWorld, .vol, 0, .range 0 1023⟩,  -- PUSH_REGION (R145)
  ⟨0x0B, 0x0B, .u64, .rw, .openWorld, .vol, 0, .any⟩,  -- PUSH_OFFSET (R145)
  ⟨0x0C, 0x0C, .enum8, .rw, .openWorld, .vol, 1, .range 0 2⟩,  -- PROTECT (R145)
  ⟨0x0D, 0x0D, .u8, .rw, .secureWorld, .vol, 0, .any⟩,  -- KEY_SLOT (R145)
  ⟨0x0E, 0x0E, .u32, .rw, .openWorld, .vol, 0, .any⟩,  -- RATE_LIMIT (R145)
  ⟨0x0F, 0x0F, .u8, .rw, .openWorld, .vol, 16, .range 1 64⟩,  -- PUSH_DEPTH (R145)
  ⟨0x10, 0x10, .u8, .rw, .openWorld, .vol, 8, .range 1 255⟩,  -- RETRY_LIMIT (R145)
  ⟨0x11, 0x11, .u32, .rw, .openWorld, .vol, 1000, .range 10 10000000⟩,  -- RESP_TIMEOUT (R145)
  ⟨0x12, 0x12, .u32, .rw, .openWorld, .vol, 100, .range 1 100000⟩,  -- STALL_TIMEOUT (R145)
  ⟨0x13, 0x13, .bool, .wo, .openWorld, .vol, 0, .any⟩,  -- CANCEL (R145)
  ⟨0x14, 0x14, .bool, .wo, .openWorld, .vol, 0, .any⟩,  -- RESUME (R145)
  ⟨0x15, 0x15, .u32, .ro, .openWorld, .vol, 0, .any⟩,  -- CREDIT_MW (R145)
  ⟨0x16, 0x16, .u32, .w1c, .openWorld, .vol, 0, .w1c 0xF 0x0⟩,  -- FLAGS (R145)
  ⟨0x17, 0x17, .enum8, .ro, .openWorld, .vol, 0, .any⟩,  -- HALT_CAUSE (R145)
  ⟨0x18, 0x18, .u16, .ro, .openWorld, .vol, 0, .any⟩,  -- GEN (R145)
  ⟨0x19, 0x19, .bool, .ro, .openWorld, .vol, 0, .any⟩,  -- READY (R145)
  ⟨0x1A, 0x1A, .u64, .ro, .openWorld, .vol, 0, .any⟩,  -- RECORDS (R145)
  ⟨0x1B, 0x1B, .u64, .ro, .openWorld, .vol, 0, .any⟩,  -- BYTES (R145)
  ⟨0x1C, 0x1C, .u32, .ro, .openWorld, .vol, 0, .any⟩,  -- BAD_BLOCKS (R145)
  ⟨0x1D, 0x1D, .u32, .ro, .openWorld, .vol, 0, .any⟩,  -- POISON_BLOCKS (R145)
  ⟨0x1E, 0x1E, .u32, .ro, .openWorld, .vol, 0, .any⟩,  -- RETRIES (R145)
  ⟨0x1F, 0x1F, .u32, .ro, .openWorld, .vol, 0, .any⟩,  -- RESUMES (R145)
  ⟨0x20, 0x20, .u16, .ro, .openWorld, .vol, 0, .any⟩,  -- SOURCE_GEN (R145)
  ⟨0x21, 0x21, .u64, .ro, .openWorld, .vol, 0, .any⟩,  -- FIRST_CHAIN (R145)
  ⟨0x22, 0x22, .u64, .ro, .openWorld, .vol, 0, .any⟩,  -- LAST_CHAIN (R145)
  ⟨0x23, 0x23, .u64, .ro, .openWorld, .vol, 0, .any⟩]  -- PROGRESS (R145)

/-- Objects of Lease. -/
def Obj.Lease.rows : List Row := [
  ⟨0x01, 0x01, .enum8, .ro, .openWorld, .vol, 0, .any⟩,  -- STATE (R158)
  ⟨0x02, 0x02, .bool, .rw, .openWorld, .vol, 0, .any⟩,  -- ENABLE (R158)
  ⟨0x03, 0x03, .u16, .rw, .openWorld, .vol, 0xFFFF, .range 0 1023⟩,  -- REGION (R158)
  ⟨0x04, 0x04, .u8, .rw, .openWorld, .vol, 0xFF, .range 0 7⟩,  -- PORT (R158)
  ⟨0x05, 0x05, .u32, .ro, .openWorld, .vol, 0, .any⟩,  -- PERIOD (R158)
  ⟨0x06, 0x06, .u32, .ro, .openWorld, .vol, 0, .any⟩,  -- TOL (R158)
  ⟨0x07, 0x07, .u32, .rw, .openWorld, .vol, 16667, .range 100 10000000⟩,  -- PERIOD_NEXT (R158)
  ⟨0x08, 0x08, .u32, .rw, .openWorld, .vol, 0, .any⟩,  -- TOL_NEXT (R158)
  ⟨0x09, 0x09, .u32, .wo, .openWorld, .vol, 0, .any⟩,  -- FRAME_MARK (R158)
  ⟨0x0A, 0x0A, .u32, .ro, .openWorld, .vol, 0, .any⟩,  -- LAST_MARK (R158)
  ⟨0x0B, 0x0B, .time96, .ro, .openWorld, .vol, 0, .any⟩,  -- T_MARK (R158)
  ⟨0x0C, 0x0C, .u64, .ro, .openWorld, .vol, 0, .any⟩,  -- FRAMES (R158)
  ⟨0x0D, 0x0D, .u32, .ro, .openWorld, .vol, 0, .any⟩,  -- OVERRUNS (R158)
  ⟨0x0E, 0x0E, .u32, .ro, .openWorld, .vol, 0, .any⟩,  -- SLOW_WAKES (R158)
  ⟨0x0F, 0x0F, .u32, .w1c, .openWorld, .vol, 0, .w1c 0xF 0x0⟩]  -- FLAGS (R158)

/-- Objects of Tailrace. -/
def Obj.Tailrace.rows : List Row := [
  ⟨0x01, 0x01, .u8, .ro, .openWorld, .vol, 0, .any⟩,  -- JOBS_RUNNING (R163)
  ⟨0x02, 0x02, .u8, .ro, .openWorld, .vol, 0, .any⟩,  -- LEASES_ACTIVE (R163)
  ⟨0x03, 0x03, .u32, .rw, .openWorld, .ledger, 50, .range 20 1000⟩,  -- PD_EXIT_NS (R163)
  ⟨0x04, 0x04, .u32, .rw, .openWorld, .ledger, 3000, .range 1000 100000⟩,  -- SR_EXIT_NS (R163)
  ⟨0x05, 0x05, .u32, .rw, .openWorld, .ledger, 1000, .any⟩,  -- SR_MIN_IDLE_US (R163)
  ⟨0x06, 0x06, .u32, .rw, .openWorld, .ledger, 1000, .any⟩,  -- PD_MIN_IDLE_NS (R163)
  ⟨0x07, 0x07, .u32, .rw, .openWorld, .ledger, 20000, .any⟩,  -- QUIET_NS (R163)
  ⟨0x08, 0x08, .u32, .rw, .openWorld, .ledger, 10000, .any⟩,  -- WAKE_MARGIN_NS (R163)
  ⟨0x09, 0x09, .u32, .ro, .openWorld, .vol, 0, .any⟩,  -- EARLY_FREES (R163)
  ⟨0x0A, 0x0A, .u32, .ro, .openWorld, .vol, 0, .any⟩,  -- LAST_EARLY_FREE (R163)
  ⟨0x0B, 0x0B, .u64, .ro, .openWorld, .vol, 0, .any⟩,  -- SR_ENTRIES (R163)
  ⟨0x0C, 0x0C, .u32, .w1c, .openWorld, .vol, 0, .w1c 0x3 0x0⟩,  -- FLAGS (R163)
  ⟨0x0D, 0x0D, .u32, .ro, .openWorld, .vol, 0, .any⟩]  -- SET_DURING_CLEAR (R163)

/-- Objects of Mc. -/
def Obj.Mc.rows : List Row := [
  ⟨0x01, 0x01, .enum8, .rwi, .secureWorld, .ledger, 1, .range 0 3⟩,  -- ADDR_MAP (R190)
  ⟨0x02, 0x02, .u8, .rwi, .secureWorld, .ledger, 4, .range 0 4⟩,  -- POSTPONE (R190)
  ⟨0x03, 0x03, .u32, .rw, .openWorld, .ledger, 1000, .range 100 100000⟩,  -- AGE_LIMIT_NS (R190)
  ⟨0x04, 0x04, .u32, .rw, .openWorld, .ledger, 100, .range 0 10000⟩,  -- ROW_IDLE_NS (R190)
  ⟨0x05, 0x05, .u32, .rw, .openWorld, .ledger, 500, .rangeOr 100 1000000 0⟩,  -- PD_IDLE_NS (R190)
  ⟨0x06, 0x06, .u8, .rwi, .openWorld, .ledger, 96, .range 2 128⟩,  -- WQ_HIGH (R190)
  ⟨0x07, 0x07, .u8, .rwi, .openWorld, .ledger, 32, .range 0 127⟩,  -- WQ_LOW (R190)
  ⟨0x08, 0x08, .u32, .rw, .openWorld, .ledger, 500, .range 100 4000⟩,  -- MR4_POLL_US (R190)
  ⟨0x09, 0x09, .bool, .wo, .openWorld, .vol, 0, .any⟩,  -- REFRESH_FLUSH (R190)
  ⟨0x0A, 0x0A, .u32, .w1c, .openWorld, .vol, 0, .w1c 0x3 0x0⟩,  -- FLAGS (R190)
  ⟨0x0B, 0x0B, .u32, .ro, .openWorld, .vol, 0, .any⟩]  -- SET_DURING_CLEAR (R190)

/-- Objects of Phy. -/
def Obj.Phy.rows : List Row := [
  ⟨0x01, 0x01, .u16, .rwi, .secureWorld, .ledger, 8000, .oneOf [4800, 5600, 6400, 7200, 8000]⟩,  -- SPEED_BIN (R215)
  ⟨0x02, 0x02, .bool, .rwi, .secureWorld, .ledger, 1, .any⟩,  -- CA_PARITY_EN (R215)
  ⟨0x03, 0x03, .u16, .rwi, .openWorld, .ledger, 60, .range 20 200⟩,  -- ALERT_WINDOW_NS (R215)
  ⟨0x04, 0x04, .u16, .rwi, .openWorld, .ledger, 64, .range 16 1024⟩,  -- PAT_BURSTS (R215)
  ⟨0x05, 0x05, .u8, .rwi, .openWorld, .ledger, 16, .any⟩,  -- MIN_EYE_TAPS (R215)
  ⟨0x06, 0x06, .u8, .rwi, .openWorld, .ledger, 8, .any⟩,  -- MIN_EYE_CODES (R215)
  ⟨0x07, 0x07, .u8, .rwi, .openWorld, .ledger, 24, .any⟩,  -- MARGIN_EYE_TAPS (R215)
  ⟨0x08, 0x08, .u8, .rwi, .openWorld, .ledger, 4, .range 1 16⟩,  -- VREF_COARSE_STEP (R215)
  ⟨0x09, 0x09, .u32, .rwi, .openWorld, .ledger, 0x5A1C03E7, .range 1 0xFFFFFFFF⟩,  -- TRAIN_SEED (R215)
  ⟨0x0A, 0x0A, .enum8, .rwi, .openWorld, .ledger, 3, .range 0 3⟩,  -- DFE_MODE (R215)
  ⟨0x0B, 0x0B, .enum8, .rwi, .openWorld, .ledger, 0, .range 0 2⟩,  -- CA_2N (R215)
  ⟨0x0C, 0x0C, .u8, .rwi, .openWorld, .ledger, 32, .range 1 32⟩,  -- TRAIN_PARALLEL (R215)
  ⟨0x0D, 0x0D, .u32, .w1c, .openWorld, .vol, 0, .w1c 0x3 0x0⟩,  -- FLAGS (R215)
  ⟨0x0E, 0x0E, .u32, .ro, .openWorld, .vol, 0, .any⟩]  -- SET_DURING_CLEAR (R215)

/-- Objects of Fantail. -/
def Obj.Fantail.rows : List Row := [
  ⟨0x01, 0x01, .bool, .rwi, .secureWorld, .ledger, 1, .any⟩,  -- FT_ENABLE (R244)
  ⟨0x02, 0x02, .u16, .rw, .openWorld, .ledger, 4096, .range 256 65535⟩,  -- WINDOW_BURSTS (R244)
  ⟨0x03, 0x03, .u8, .rw, .openWorld, .ledger, 3, .range 1 16⟩,  -- SHADOW_INSET (R244)
  ⟨0x04, 0x04, .u8, .rw, .openWorld, .ledger, 12, .range 4 31⟩,  -- SHADOW_DEFAULT (R244)
  ⟨0x05, 0x05, .u16, .rw, .openWorld, .ledger, 16, .range 1 4096⟩,  -- MOVE_MIN (R244)
  ⟨0x06, 0x06, .u8, .rw, .openWorld, .ledger, 16, .range 4 48⟩,  -- TRACK_LIMIT (R244)
  ⟨0x07, 0x07, .u16, .rw, .openWorld, .ledger, 20, .range 1 10000⟩,  -- STARVE_MS (R244)
  ⟨0x08, 0x08, .u8, .rw, .openWorld, .ledger, 32, .range 1 128⟩,  -- SHADOW_BURSTS (R244)
  ⟨0x09, 0x09, .u32, .w1c, .openWorld, .vol, 0, .w1c 0x7 0x0⟩,  -- FLAGS (R244)
  ⟨0x0A, 0x0A, .u32, .ro, .openWorld, .vol, 0, .any⟩]  -- SET_DURING_CLEAR (R244)

/-- Objects of Cal. -/
def Obj.Cal.rows : List Row := [
  ⟨0x01, 0x01, .u32, .rw, .openWorld, .ledger, 4000, .range 1000 20000⟩,  -- RECAL_DT_MC (R244)
  ⟨0x02, 0x02, .u16, .rw, .openWorld, .ledger, 30, .range 1 3650⟩,  -- SET_MAX_AGE_D (R244)
  ⟨0x03, 0x03, .u8, .rw, .openWorld, .ledger, 16, .range 4 32⟩,  -- WRECAL_SPAN (R244)
  ⟨0x04, 0x04, .u32, .rw, .openWorld, .ledger, 60, .range 10 86400⟩,  -- COMMIT_MIN_S (R244)
  ⟨0x05, 0x05, (.octets 16), .ro, .openWorld, .vol, 0, .any⟩,  -- SLOT_SEQ (R244)
  ⟨0x06, 0x06, .u8, .ro, .openWorld, .vol, 0, .any⟩,  -- SLOT_VALID (R244)
  ⟨0x07, 0x07, (.octets 2), .ro, .openWorld, .vol, 0, .any⟩,  -- RESTORE_SOURCE (R244)
  ⟨0x08, 0x08, .u32, .ro, .openWorld, .vol, 0, .any⟩,  -- COMMITS (R244)
  ⟨0x09, 0x09, .u32, .ro, .openWorld, .vol, 0, .any⟩,  -- COMMIT_FAILS (R244)
  ⟨0x0A, 0x0A, .time96, .ro, .openWorld, .vol, 0, .any⟩,  -- LAST_COMMIT (R244)
  ⟨0x0B, 0x0B, (.octets 2962), .rwi, .secureWorld, .ledger, 0, .any⟩,  -- FORERUNNER_EAST (R244)
  ⟨0x0C, 0x0C, (.octets 2962), .rwi, .secureWorld, .ledger, 0, .any⟩,  -- FORERUNNER_WEST (R244)
  ⟨0x0D, 0x0D, .u32, .w1c, .openWorld, .vol, 0, .w1c 0x7 0x0⟩]  -- FLAGS (R244)

/-- Objects of Mon. -/
def Obj.Mon.rows : List Row := [
  ⟨0x01, 0x01, .u32, .rw, .secureWorld, .ledger, 3600, .range 60 604800⟩,  -- MON_CAL_PERIOD_S (R244)
  ⟨0x02, 0x02, .u16, .rw, .secureWorld, .ledger, 12, .range 2 200⟩,  -- RIPPLE_LIMIT_MV (R244)
  ⟨0x03, 0x03, .u32, .rw, .secureWorld, .ledger, 86400, .range 3600 31536000⟩,  -- MON_TRIM_MAX_AGE_S (R244)
  ⟨0x04, 0x04, .u32, .ro, .openWorld, .vol, 0, .any⟩,  -- CAL_REFUSALS (R244)
  ⟨0x05, 0x05, .u32, .ro, .openWorld, .vol, 0, .any⟩,  -- REFUSED_MASK (R244)
  ⟨0x06, 0x06, .u32, .w1c, .openWorld, .vol, 0, .w1c 0x1 0x0⟩,  -- FLAGS (R244)
  ⟨0x10, 0x18, (.octets 16), .ro, .openWorld, .vol, 0, .any⟩]  -- TS (R244)

/-- Objects of Ecc. -/
def Obj.Ecc.rows : List Row := [
  ⟨0x01, 0x01, .u16, .rw, .openWorld, .ledger, 24, .range 0 720⟩,  -- SCRUB_PERIOD_H (R266)
  ⟨0x02, 0x02, .u8, .rw, .openWorld, .ledger, 3, .range 2 8⟩,  -- MARK_SYMS (R266)
  ⟨0x03, 0x03, .bool, .rwi, .secureWorld, .ledger, 1, .any⟩,  -- AUTO_MARK (R266)
  ⟨0x04, 0x04, .enum8, .rwi, .secureWorld, .ledger, 1, .range 0 2⟩,  -- REPAIR_MODE (R266)
  ⟨0x05, 0x05, .u8, .rw, .openWorld, .ledger, 2, .range 1 64⟩,  -- ROW_CE_LIMIT (R266)
  ⟨0x06, 0x06, .u16, .rw, .openWorld, .ledger, 100, .range 1 10000⟩,  -- LOG_RATE (R266)
  ⟨0x07, 0x07, .u8, .rw, .openWorld, .ledger, 4, .range 1 8⟩,  -- SELFTEST_MS (R266)
  ⟨0x08, 0x08, .u64, .ro, .openWorld, .vol, 0, .any⟩,  -- LOG_COUNT (R266)
  ⟨0x09, 0x09, .u64, .ro, .openWorld, .vol, 0, .any⟩,  -- LOG_DROPPED (R266)
  ⟨0x0A, 0x0A, .u16, .ro, .openWorld, .vol, 0, .any⟩,  -- REPAIR_COUNT (R266)
  ⟨0x0B, 0x0B, .u32, .w1c, .openWorld, .vol, 0, .w1c 0xF 0x0⟩,  -- FLAGS (R266)
  ⟨0x0C, 0x0C, .u32, .ro, .openWorld, .vol, 0, .any⟩]  -- SET_DURING_CLEAR (R266)

/-- Objects of EccLog. -/
def Obj.EccLog.rows : List Row := [
  ⟨0x01, 0x80, (.octets 32), .ro, .openWorld, .vol, 0, .any⟩]  -- RECORD (R264)

/-- Objects of Repair. -/
def Obj.Repair.rows : List Row := [
  ⟨0x01, 0x80, (.octets 8), .ro, .openWorld, .ledger, 0, .any⟩]  -- ENTRY (R263)

/-- Objects of Seq. -/
def Obj.Seq.rows : List Row := [
  ⟨0x01, 0x01, .enum8, .ro, .openWorld, .vol, 0, .any⟩,  -- SEQ_STATE (R299)
  ⟨0x02, 0x02, .bool, .ro, .openWorld, .vol, 0, .any⟩,  -- ON_PENDING (R299)
  ⟨0x03, 0x03, .enum8, .wo, .secureWorld, .vol, 0, .range 1 2⟩,  -- POWER_REQ (R299)
  ⟨0x04, 0x04, .u8, .rws, .secureWorld, .ledger, 0x01, .mask 0x03⟩,  -- CASCADE (R299)
  ⟨0x05, 0x05, .u16, .rws, .secureWorld, .ledger, 1000, .range 10 60000⟩,  -- T_CASCADE_MS (R299)
  ⟨0x06, 0x06, .u8, .rws, .secureWorld, .ledger, 2, .range 0 7⟩,  -- RAMP_RETRY (R299)
  ⟨0x07, 0x07, .u16, .rws, .secureWorld, .ledger, 50, .range 50 10000⟩,  -- DWELL_MS (R299)
  ⟨0x08, 0x08, .u32, .rws, .secureWorld, .ledger, 1000, .range 100 100000⟩,  -- MARGIN_STEP_US (R299)
  ⟨0x09, 0x09, .u8, .ro, .openWorld, .vol, 0, .any⟩,  -- RAMP_STEP (R299)
  ⟨0x0A, 0x0A, (.octets 16), .ro, .openWorld, .vol, 0xFFFFFFFFFFFFFFFFFFFFFFFFFFFFFFFF, .any⟩,  -- RAMP_ORDER (R299)
  ⟨0x0B, 0x0B, .u8, .ro, .openWorld, .vol, 0, .any⟩,  -- FAIL_COUNT (R299)
  ⟨0x0C, 0x0C, .u64, .ro, .openWorld, .vol, 0, .any⟩,  -- AO_US (R299)
  ⟨0x0D, 0x0D, .enum8, .ro, .openWorld, .vol, 0, .any⟩,  -- TABLE_SOURCE (R299)
  ⟨0x0E, 0x0E, .u32, .ro, .openWorld, .ledger, 0, .any⟩,  -- EVENT_SEQ (R299)
  ⟨0x0F, 0x0F, .u32, .w1c, .openWorld, .vol, 0, .w1c 0xFF 0x0⟩,  -- FLAGS (R299)
  ⟨0x10, 0x10, .u32, .ro, .openWorld, .vol, 0, .any⟩,  -- SET_DURING_CLEAR (R299)
  ⟨0x11, 0x11, .u16, .rws, .secureWorld, .ledger, 100, .oneOf [100, 400]⟩]  -- PMB_KHZ (R299)

/-- Objects of Rail. -/
def Obj.Rail.rows : List Row := [
  ⟨0x01, 0x01, .bool, .rws, .secureWorld, .ledger, 0, .any⟩,  -- USED (R300)
  ⟨0x02, 0x02, (.octets 8), .rws, .openWorld, .ledger, 0, .any⟩,  -- NAME (R300)
  ⟨0x03, 0x03, .u8, .rws, .secureWorld, .ledger, 0, .rangeOr 0 15 0xFF⟩,  -- PARENT (R300)
  ⟨0x04, 0x04, .u16, .rws, .secureWorld, .ledger, 0, .any⟩,  -- VNOM_MV (R300)
  ⟨0x05, 0x05, .enum8, .rws, .secureWorld, .ledger, 0, .range 0 2⟩,  -- RANGE (R300)
  ⟨0x06, 0x06, .u16, .rws, .secureWorld, .ledger, 0, .range 0 1023⟩,  -- UV_CODE (R300)
  ⟨0x07, 0x07, .u16, .rws, .secureWorld, .ledger, 0, .range 0 1023⟩,  -- OV_CODE (R300)
  ⟨0x08, 0x08, .u16, .rws, .secureWorld, .ledger, 0, .range 0 1023⟩,  -- OFF_CODE (R300)
  ⟨0x09, 0x09, .u8, .rws, .secureWorld, .ledger, 10, .any⟩,  -- FILTER_US (R300)
  ⟨0x0A, 0x0A, .u32, .rws, .secureWorld, .ledger, 500, .range 0 1000000⟩,  -- DELAY_ON_US (R300)
  ⟨0x0B, 0x0B, .u16, .rws, .secureWorld, .ledger, 10, .range 1 10000⟩,  -- T_ON_MAX_MS (R300)
  ⟨0x0C, 0x0C, .u32, .rws, .secureWorld, .ledger, 100, .range 0 1000000⟩,  -- DELAY_OFF_US (R300)
  ⟨0x0D, 0x0D, .u16, .rws, .secureWorld, .ledger, 50, .range 1 10000⟩,  -- T_OFF_MAX_MS (R300)
  ⟨0x0E, 0x0E, .u8, .rws, .secureWorld, .ledger, 0x02, .mask 0x03⟩,  -- ACTIONS (R300)
  ⟨0x0F, 0x0F, .i32, .rws, .openWorld, .vol, 0, .srange (-12) 12⟩,  -- MARGIN (R300)
  ⟨0x10, 0x10, .i32, .ro, .openWorld, .vol, 0, .any⟩,  -- MARGIN_APPLIED (R300)
  ⟨0x11, 0x11, .enum8, .ro, .openWorld, .vol, 0, .any⟩,  -- STATE (R300)
  ⟨0x12, 0x12, (.octets 16), .ro, .openWorld, .vol, 0, .any⟩,  -- READING (R300)
  ⟨0x13, 0x13, .u32, .w1c, .openWorld, .vol, 0, .w1c 0x3FF 0x0⟩,  -- FLAGS (R300)
  ⟨0x14, 0x14, .u32, .ro, .openWorld, .vol, 0, .any⟩,  -- T_RISE_US (R300)
  ⟨0x15, 0x15, .u32, .ro, .openWorld, .vol, 0, .any⟩,  -- T_FALL_US (R300)
  ⟨0x16, 0x16, .u32, .ro, .openWorld, .vol, 0, .any⟩,  -- GLITCHES (R300)
  ⟨0x17, 0x17, .u8, .rws, .secureWorld, .ledger, 0x00, .mask 0x7F⟩,  -- PMB_ADDR (R300)
  ⟨0x18, 0x18, .u8, .rws, .secureWorld, .ledger, 0, .any⟩,  -- PMB_PAGE (R300)
  ⟨0x19, 0x19, .bool, .rws, .secureWorld, .ledger, 0, .any⟩,  -- PMB_MARGIN (R300)
  ⟨0x1A, 0x1A, (.octets 16), .ro, .openWorld, .vol, 0, .any⟩]  -- PMB_READINGS (R300)

/-- Objects of FfLog. -/
def Obj.FfLog.rows : List Row := [
  ⟨0x01, 0x10, (.octets 32), .ro, .openWorld, .ledger, 0, .any⟩]  -- LOG (R299)

/-- Objects of Sluice. -/
def Obj.Sluice.rows : List Row := [
  ⟨0x01, 0x01, .u32, .rw, .secureWorld, .ledger, 780000, .range 100000 2000000⟩,  -- BUDGET_MW (R427)
  ⟨0x02, 0x02, .u32, .rw, .secureWorld, .ledger, 700000, .any⟩,  -- BASE_MW (R427)
  ⟨0x03, 0x03, .u32, .rw, .secureWorld, .ledger, 40000, .range 1000 200000⟩,  -- FLOOR_MW (R427)
  ⟨0x04, 0x04, .u32, .ro, .openWorld, .vol, 40000, .any⟩,  -- POOL_MW (R427)
  ⟨0x05, 0x05, .u32, .ro, .openWorld, .vol, 0, .any⟩,  -- GRANTED_MW (R427)
  ⟨0x06, 0x06, .u32, .ro, .openWorld, .vol, 0, .any⟩,  -- PEAK_GRANTED_MW (R427)
  ⟨0x07, 0x07, .u32, .ro, .openWorld, .vol, 0, .any⟩,  -- FORCED_MW (R427)
  ⟨0x08, 0x08, .u64, .ro, .openWorld, .vol, 0, .any⟩,  -- GRANTS (R427)
  ⟨0x09, 0x09, .u32, .ro, .openWorld, .vol, 0, .any⟩,  -- REFUSALS (R427)
  ⟨0x0A, 0x0A, .u8, .ro, .openWorld, .vol, 0, .any⟩,  -- QUEUED (R427)
  ⟨0x0B, 0x0B, .u32, .w1c, .openWorld, .vol, 0, .w1c 0x3 0x0⟩,  -- FLAGS (R427)
  ⟨0x0C, 0x0C, .u32, .ro, .openWorld, .vol, 0, .any⟩,  -- SET_DURING_CLEAR (R427)
  ⟨0x11, 0x1B, .u32, .ro, .openWorld, .vol, 0, .any⟩]  -- HELD_BY_KIND (R427)

/-- Objects of Fc. -/
def Obj.Fc.rows : List Row := [
  ⟨0x01, 0x01, .enum8, .rwi, .secureWorld, .ledger, 0, .range 0 1⟩,  -- MODE (R332)
  ⟨0x02, 0x02, .u8, .rw, .secureWorld, .ledger, 1, .range 0 2⟩,  -- ERR_CLASS (R332)
  ⟨0x03, 0x03, .u8, .rw, .secureWorld, .ledger, 3, .range 0 7⟩,  -- ERR_SEV (R332)
  ⟨0x04, 0x04, (.octets 8), .rwi, .secureWorld, .ledger, 0x0001010203030405, .bytesLe 5⟩,  -- ACTION_MAP (R332)
  ⟨0x05, 0x05, .u16, .rw, .secureWorld, .ledger, 20, .range 1 1000⟩,  -- QUIET_US (R332)
  ⟨0x06, 0x06, .bool, .rws, .secureWorld, .vol, 0, .any⟩,  -- INJ_ENABLE (R332)
  ⟨0x07, 0x07, .enum8, .rws, .secureWorld, .vol, 0, .range 0 1⟩,  -- INJ_REACT (R332)
  ⟨0x08, 0x08, (.octets 32), .ro, .openWorld, .vol, 0, .any⟩,  -- FIRST_ERROR (R332)
  ⟨0x09, 0x09, .bool, .wo, .openWorld, .vol, 0, .any⟩,  -- FE_REARM (R332)
  ⟨0x0A, 0x0A, .u32, .ro, .openWorld, .vol, 0, .any⟩,  -- FE_LATER (R332)
  ⟨0x0B, 0x0B, .u16, .ro, .openWorld, .vol, 0, .any⟩,  -- PENDING_COUNT (R332)
  ⟨0x0C, 0x0C, .u8, .ro, .openWorld, .vol, 0, .any⟩,  -- PIN_STATE (R332)
  ⟨0x0D, 0x0D, .u16, .ro, .openWorld, .vol, 0xFFFF, .any⟩,  -- LOCKOUT_SOURCE (R332)
  ⟨0x0E, 0x0E, (.octets 32), .ro, .openWorld, .ledger, 0, .any⟩,  -- LAST_LOCKOUT (R332)
  ⟨0x0F, 0x0F, .u64, .ro, .openWorld, .vol, 0, .any⟩,  -- EVENTS (R332)
  ⟨0x10, 0x10, .u64, .ro, .openWorld, .vol, 0, .any⟩,  -- SUPPRESSED (R332)
  ⟨0x11, 0x11, .u32, .ro, .openWorld, .vol, 0, .any⟩,  -- WIRE_FAULTS (R332)
  ⟨0x12, 0x12, .u32, .ro, .openWorld, .vol, 0, .any⟩,  -- INJECTIONS (R332)
  ⟨0x13, 0x13, .bool, .wo, .secureWorld, .vol, 0, .any⟩,  -- CLEAR_ALL (R332)
  ⟨0x14, 0x14, .u32, .w1c, .openWorld, .vol, 0, .w1c 0x3F 0x0⟩,  -- FLAGS (R332)
  ⟨0x15, 0x15, .u32, .ro, .openWorld, .vol, 0, .any⟩,  -- SET_DURING_CLEAR (R332)
  ⟨0x16, 0x16, .u32, .ro, .openWorld, .vol, 0, .any⟩,  -- LOG_HEAD (R332)
  ⟨0x17, 0x17, .i32, .rw, .secureWorld, .ledger, 105000, .srange 60000 125000⟩,  -- TEMP_WARN_MC (R332)
  ⟨0x18, 0x18, .i32, .rw, .secureWorld, .ledger, 120000, .srange 65000 130000⟩]  -- TEMP_CRIT_MC (R332)

/-- Objects of EventLog. -/
def Obj.EventLog.rows : List Row := [
  ⟨0x01, 0x80, (.octets 32), .ro, .openWorld, .vol, 0, .any⟩]  -- LOG (R332)

/-- Objects of Source. -/
def Obj.Source.rows : List Row := [
  ⟨0x01, 0x01, .u8, .rw, .secureWorld, .ledger, 0, .mask 0x87⟩,  -- CONFIG (R305)
  ⟨0x02, 0x02, .u8, .w1c, .openWorld, .vol, 0x00, .w1c 0xF 0xF0⟩,  -- STATUS (R305)
  ⟨0x03, 0x03, .u8, .const, .openWorld, .none, 0, .any⟩,  -- CLASSIC (R305)
  ⟨0x04, 0x04, .u32, .ro, .openWorld, .vol, 0, .any⟩,  -- COUNT (R305)
  ⟨0x05, 0x05, .u32, .ro, .openWorld, .vol, 0, .any⟩,  -- SUPPRESSED (R305)
  ⟨0x06, 0x06, .bool, .wo, .secureWorld, .vol, 0, .any⟩,  -- FORCE (R305)
  ⟨0x07, 0x07, .time96, .ro, .openWorld, .vol, 0, .any⟩]  -- LAST_TIME (R305)

/-- Objects of Sec. -/
def Obj.Sec.rows : List Row := [
  ⟨0x01, 0x01, .u8, .rw, .secureWorld, .ledger, 0x00, .any⟩,  -- PORT_WORLD (R356)
  ⟨0x02, 0x02, .enum8, .rws, .secureWorld, .ledger, 1, .range 0 2⟩,  -- JTAG_MODE (R356)
  ⟨0x03, 0x03, (.octets 97), .const, .openWorld, .none, 0, .any⟩,  -- DEVICE_PUBKEY (R356)
  ⟨0x04, 0x04, .u32, .ro, .openWorld, .vol, 0, .any⟩,  -- DENIED_COUNT (R356)
  ⟨0x05, 0x05, .u64, .ro, .openWorld, .vol, 1, .any⟩,  -- CHAIN_NEXT (R356)
  ⟨0x06, 0x06, .u64, .ro, .openWorld, .ledger, 0, .any⟩,  -- CHAIN_RESERVE (R356)
  ⟨0x07, 0x07, .u32, .w1c, .openWorld, .vol, 0, .w1c 0xFF 0x0⟩,  -- FLAGS (R356)
  ⟨0x08, 0x08, .u32, .ro, .openWorld, .vol, 0, .any⟩]  -- SET_DURING_CLEAR (R356)

/-- Objects of Fuse. -/
def Obj.Fuse.rows : List Row := [
  ⟨0x01, 0x01, .bool, .ro, .openWorld, .none, 0, .any⟩,  -- SECURE_BOOT (R356)
  ⟨0x02, 0x02, (.octets 192), .ro, .openWorld, .none, 0, .any⟩,  -- OWNER_KEY_HASH (R356)
  ⟨0x03, 0x03, .u8, .ro, .openWorld, .none, 0, .any⟩,  -- KEY_REVOKED (R356)
  ⟨0x04, 0x04, .u8, .ro, .openWorld, .none, 0, .any⟩,  -- SVN_FLOOR (R356)
  ⟨0x05, 0x05, .bool, .ro, .openWorld, .none, 0, .any⟩,  -- JTAG_PERM_LOCK (R356)
  ⟨0x06, 0x06, (.octets 50), .wo, .secureWorld, .none, 0, .any⟩]  -- FUSE_PROGRAM (R356)

/-- Objects of KeySlot. -/
def Obj.KeySlot.rows : List Row := [
  ⟨0x01, 0x01, .enum8, .ro, .openWorld, .vol, 0, .any⟩,  -- STATE (R339)
  ⟨0x02, 0x02, (.octets 32), .wo, .secureWorld, .ledger, 0, .nonzero⟩,  -- KEY (R339)
  ⟨0x03, 0x03, .bool, .wo, .secureWorld, .vol, 0, .any⟩,  -- ERASE (R339)
  ⟨0x04, 0x04, (.octets 4), .ro, .openWorld, .vol, 0, .any⟩,  -- KCV (R339)
  ⟨0x05, 0x05, .u32, .ro, .openWorld, .ledger, 0, .any⟩,  -- KEY_GEN (R339)
  ⟨0x06, 0x06, .u32, .ro, .openWorld, .vol, 0, .any⟩]  -- JOBS (R339)

/-- Objects of Image. -/
def Obj.Image.rows : List Row := [
  ⟨0x01, 0x01, (.octets 2), .ro, .openWorld, .ledger, 0, .any⟩,  -- BOOT_SLOT (R356)
  ⟨0x02, 0x02, (.octets 2), .ro, .openWorld, .vol, 0, .any⟩,  -- RUN_SLOT (R356)
  ⟨0x03, 0x03, (.octets 2), .ro, .openWorld, .vol, 0, .any⟩,  -- HALF_STATE (R356)
  ⟨0x04, 0x04, (.octets 2), .ro, .openWorld, .vol, 0, .any⟩,  -- IMG_STATE (R356)
  ⟨0x05, 0x05, .u8, .wo, .secureWorld, .vol, 0, .range 0 1⟩,  -- IMG_OPEN (R356)
  ⟨0x06, 0x06, (.octets 4096), .wo, .secureWorld, .vol, 0, .any⟩,  -- IMG_DATA (R356)
  ⟨0x07, 0x07, .u32, .ro, .openWorld, .vol, 0, .any⟩,  -- IMG_OFFSET (R356)
  ⟨0x08, 0x08, .bool, .wo, .secureWorld, .vol, 0, .any⟩,  -- IMG_CLOSE (R356)
  ⟨0x09, 0x09, .u8, .wo, .secureWorld, .vol, 0, .mask 0x11⟩,  -- ACTIVATE (R356)
  ⟨0x0A, 0x0A, .u8, .wo, .secureWorld, .vol, 0, .range 0 1⟩,  -- CONFIRM (R356)
  ⟨0x0B, 0x0B, .u32, .rw, .secureWorld, .ledger, 600, .range 10 86400⟩]  -- TRIAL_S (R356)

/-- Objects of Checkpoint. -/
def Obj.Checkpoint.rows : List Row := [
  ⟨0x01, 0x20, (.octets 320), .ro, .openWorld, .vol, 0, .any⟩]  -- CP_JOB (R356)

/-- Objects of CpFetch. -/
def Obj.CpFetch.rows : List Row := [
  ⟨0x01, 0x01, .u64, .rw, .openWorld, .vol, 0, .any⟩,  -- CP_FETCH_SEQ (R356)
  ⟨0x02, 0x02, (.octets 320), .ro, .openWorld, .vol, 0, .any⟩,  -- CP_FETCHED (R356)
  ⟨0x03, 0x03, .u32, .ro, .openWorld, .vol, 0, .any⟩]  -- SPILL_SLOTS (R356)

/-- Objects of Sail. -/
def Obj.Sail.rows : List Row := [
  ⟨0x01, 0x01, .bool, .rwi, .secureWorld, .ledger, 0, .any⟩,  -- ROOT (R404)
  ⟨0x02, 0x02, .enum8, .ro, .openWorld, .vol, 0, .any⟩,  -- ROLE (R404)
  ⟨0x03, 0x03, .u8, .ro, .openWorld, .vol, 0, .any⟩,  -- DEPTH (R404)
  ⟨0x04, 0x04, .u16, .ro, .openWorld, .vol, 1, .any⟩,  -- SUBTREE (R404)
  ⟨0x05, 0x05, .u16, .ro, .openWorld, .vol, 0, .any⟩,  -- ARRAY_HUBS (R404)
  ⟨0x06, 0x06, .u32, .rw, .openWorld, .ledger, 0, .rangeOr 1 3600000 0⟩,  -- EPOCH_PERIOD_MS (R404)
  ⟨0x07, 0x07, .u32, .rw, .openWorld, .ledger, 50, .range 20 1000000⟩,  -- EPOCH_LEAD_US (R404)
  ⟨0x08, 0x08, .bool, .wo, .openWorld, .vol, 0, .any⟩,  -- EPOCH_NOW (R404)
  ⟨0x09, 0x09, .u16, .rw, .openWorld, .ledger, 100, .range 10 10000⟩,  -- HEALTH_PERIOD_MS (R404)
  ⟨0x0A, 0x0A, .u16, .rw, .openWorld, .ledger, 1000, .range 300 10000⟩,  -- RETX_NS (R404)
  ⟨0x0B, 0x0B, .u32, .ro, .openWorld, .vol, 0, .any⟩,  -- TRIG_DROPPED (R404)
  ⟨0x0C, 0x0C, .u32, .ro, .openWorld, .vol, 0, .any⟩,  -- EPOCH_REFUSED (R404)
  ⟨0x0D, 0x0D, .u32, .w1c, .openWorld, .vol, 0, .w1c 0x3F 0x0⟩,  -- FLAGS (R404)
  ⟨0x0E, 0x0E, .u32, .ro, .openWorld, .vol, 0, .any⟩]  -- SET_DURING_CLEAR (R404)

/-- Objects of Baton. -/
def Obj.Baton.rows : List Row := [
  ⟨0x01, 0x01, .enum8, .ro, .openWorld, .vol, 0, .any⟩,  -- BATON (R404)
  ⟨0x02, 0x02, .u8, .ro, .openWorld, .vol, 0, .any⟩,  -- HEALTH_MASK (R404)
  ⟨0x03, 0x03, .u32, .ro, .openWorld, .vol, 0, .any⟩,  -- MOVES (R404)
  ⟨0x04, 0x04, .enum8, .ro, .openWorld, .vol, 0, .any⟩,  -- LAST_MOVE_CAUSE (R404)
  ⟨0x05, 0x05, .time96, .ro, .openWorld, .vol, 0, .any⟩,  -- T_LAST_MOVE (R404)
  ⟨0x06, 0x06, .u32, .ro, .openWorld, .vol, 0, .any⟩,  -- CLAIM_REFUSED (R404)
  ⟨0x07, 0x07, .u32, .ro, .openWorld, .vol, 0, .any⟩,  -- DECIDE_MISS (R404)
  ⟨0x08, 0x08, (.octets 8), .ro, .openWorld, .vol, 0, .any⟩]  -- HEARTBEATS (R404)

/-- Objects of SailPort. -/
def Obj.SailPort.rows : List Row := [
  ⟨0x01, 0x01, .bool, .rwi, .secureWorld, .ledger, 1, .any⟩,  -- ENABLE (R404)
  ⟨0x02, 0x02, .enum8, .ro, .openWorld, .vol, 0, .any⟩,  -- STATE (R404)
  ⟨0x03, 0x03, .u32, .ro, .openWorld, .vol, 0, .any⟩,  -- FAR_ID (R404)
  ⟨0x04, 0x04, .enum8, .ro, .openWorld, .vol, 0, .any⟩,  -- REFUSE_CAUSE (R404)
  ⟨0x05, 0x05, .u32, .ro, .openWorld, .vol, 0, .any⟩,  -- LINK_DELAY_PS (R404)
  ⟨0x06, 0x06, .i32, .rw, .openWorld, .ledger, 0, .srange (-100000) 100000⟩,  -- ASYM_PS (R404)
  ⟨0x07, 0x07, (.octets 3), .rwi, .openWorld, .ledger, 0x003F00, .bytesLe 63⟩,  -- TX_EQ (R404)
  ⟨0x08, 0x08, .u32, .ro, .openWorld, .vol, 0, .any⟩,  -- RETX (R404)
  ⟨0x09, 0x09, .u32, .ro, .openWorld, .vol, 0, .any⟩,  -- CRC_ERRORS (R404)
  ⟨0x0A, 0x0A, .u64, .ro, .openWorld, .vol, 0, .any⟩,  -- MSGS_RX (R404)
  ⟨0x0B, 0x0B, .u32, .w1c, .openWorld, .vol, 0, .w1c 0x7 0x0⟩]  -- FLAGS (R404)

/-- Objects of Snap. -/
def Obj.Snap.rows : List Row := [
  ⟨0x01, 0x01, .u16, .ro, .openWorld, .vol, 0, .any⟩,  -- GEN (R400)
  ⟨0x02, 0x02, .bool, .ro, .openWorld, .vol, 0, .any⟩,  -- READY (R400)
  ⟨0x03, 0x03, .u32, .ro, .openWorld, .vol, 0, .any⟩,  -- EPOCH_NUM (R400)
  ⟨0x04, 0x04, .u64, .ro, .openWorld, .vol, 0, .any⟩,  -- T_EPOCH (R400)
  ⟨0x05, 0x05, .time96, .ro, .openWorld, .vol, 0, .any⟩,  -- T_LATCH (R400)
  ⟨0x06, 0x06, .u8, .ro, .openWorld, .vol, 0, .any⟩]  -- SNAP_FLAGS (R400)

/-- Objects of SnapStream. -/
def Obj.SnapStream.rows : List Row := [
  ⟨0x01, 0x80, (.octets 32), .ro, .openWorld, .vol, 0, .any⟩]  -- STREAM (R400)

/-- Objects of SnapContext. -/
def Obj.SnapContext.rows : List Row := [
  ⟨0x01, 0x80, (.octets 24), .ro, .openWorld, .vol, 0, .any⟩]  -- CONTEXT (R400)

/-- Objects of SnapHub. -/
def Obj.SnapHub.rows : List Row := [
  ⟨0x01, 0x01, .u64, .ro, .openWorld, .vol, 0, .any⟩,  -- EVENTS (R400)
  ⟨0x02, 0x02, .u64, .ro, .openWorld, .vol, 0, .any⟩,  -- CHAIN_NEXT (R400)
  ⟨0x03, 0x03, .u64, .ro, .openWorld, .vol, 0, .any⟩,  -- THROTTLE_TIME (R400)
  ⟨0x04, 0x04, .u32, .ro, .openWorld, .vol, 0, .any⟩]  -- ELASTIC_FILL (R400)

/-- Objects of Dev. -/
def Obj.Dev.rows : List Row := [
  ⟨0x01, 0x01, .enum8, .ro, .openWorld, .vol, 0, .any⟩,  -- DEVICE_STATE (R426)
  ⟨0x02, 0x02, .enum8, .wo, .secureWorld, .vol, 0, .range 1 5⟩,  -- STATE_REQ (R426)
  ⟨0x03, 0x03, .enum8, .ro, .openWorld, .vol, 0, .any⟩,  -- START_KIND (R426)
  ⟨0x04, 0x04, .bool, .rwi, .secureWorld, .ledger, 0, .any⟩,  -- FORCE_COLD (R426)
  ⟨0x05, 0x05, .u16, .rw, .secureWorld, .ledger, 20, .range 1 1000⟩,  -- SHUTDOWN_MAX_MS (R426)
  ⟨0x06, 0x06, .u16, .rw, .secureWorld, .ledger, 200, .range 0 10000⟩,  -- SAFE_FLUSH_US (R426)
  ⟨0x07, 0x07, .u32, .rw, .openWorld, .ledger, 1000, .range 0 100000⟩,  -- OFFLINE_HOLD_US (R426)
  ⟨0x08, 0x08, .time96, .ro, .openWorld, .vol, 0, .any⟩,  -- T_STATE (R426)
  ⟨0x09, 0x09, .enum8, .ro, .openWorld, .vol, 0, .any⟩,  -- PREV_STATE (R426)
  ⟨0x0A, 0x0A, .u32, .ro, .openWorld, .vol, 0, .any⟩,  -- START_TIME_US (R426)
  ⟨0x0B, 0x0B, .u32, .ro, .openWorld, .vol, 0, .any⟩,  -- RESTORE_FAILS (R426)
  ⟨0x0C, 0x0C, .u64, .ro, .openWorld, .vol, 0, .any⟩,  -- SAFE_LOST_BLOCKS (R426)
  ⟨0x0D, 0x0D, .u32, .ro, .openWorld, .vol, 0, .any⟩,  -- LOCKOUT_ON_REQS (R426)
  ⟨0x0E, 0x0E, .u32, .w1c, .openWorld, .vol, 0, .w1c 0xF 0x0⟩,  -- FLAGS (R426)
  ⟨0x0F, 0x0F, .u32, .ro, .openWorld, .vol, 0, .any⟩]  -- SET_DURING_CLEAR (R426)

/-- Objects of ScOrder. -/
def Obj.ScOrder.rows : List Row := [
  ⟨0x01, 0x20, .enum8, .wo, .secureWorld, .vol, 0, .range 1 3⟩]  -- SC_ORDER (R426)

/-- Objects of ScMask. -/
def Obj.ScMask.rows : List Row := [
  ⟨0x01, 0x01, .u32, .ro, .openWorld, .vol, 0, .any⟩,  -- OFFLINE_MASK (R426)
  ⟨0x02, 0x02, .u32, .ro, .openWorld, .vol, 0, .any⟩,  -- HELD_MASK (R426)
  ⟨0x03, 0x03, .u32, .ro, .openWorld, .vol, 0, .any⟩,  -- CONTENT_LOST (R426)
  ⟨0x04, 0x04, .u64, .ro, .openWorld, .vol, 0, .any⟩,  -- OFFLINE_READS (R426)
  ⟨0x05, 0x05, .u64, .ro, .openWorld, .vol, 0, .any⟩]  -- OFFLINE_DROPS (R426)

/-- Objects of Sc. -/
def Obj.Sc.rows : List Row := [
  ⟨0x01, 0x01, .enum8, .ro, .openWorld, .vol, 0, .any⟩,  -- STATE (R191)
  ⟨0x02, 0x02, .u8, .ro, .openWorld, .vol, 0x00, .any⟩,  -- PD_MASK (R191)
  ⟨0x03, 0x03, .u8, .ro, .openWorld, .vol, 0x00, .any⟩,  -- HOT_MASK (R191)
  ⟨0x04, 0x04, (.octets 8), .ro, .openWorld, .vol, 0, .any⟩,  -- REF_DEBT (R191)
  ⟨0x05, 0x05, .u64, .ro, .openWorld, .vol, 0, .any⟩,  -- REFRESHES (R191)
  ⟨0x06, 0x06, .u64, .ro, .openWorld, .vol, 0, .any⟩,  -- REF_FORCED (R191)
  ⟨0x07, 0x07, .u32, .ro, .openWorld, .vol, 0, .any⟩,  -- REF_EXCESS (R191)
  ⟨0x08, 0x08, .u64, .ro, .openWorld, .vol, 0, .any⟩,  -- READS (R191)
  ⟨0x09, 0x09, .u64, .ro, .openWorld, .vol, 0, .any⟩,  -- WRITES (R191)
  ⟨0x0A, 0x0A, .u64, .ro, .openWorld, .vol, 0, .any⟩,  -- FORWARDS (R191)
  ⟨0x0B, 0x0B, .u64, .ro, .openWorld, .vol, 0, .any⟩,  -- ROW_HITS (R191)
  ⟨0x0C, 0x0C, .u64, .ro, .openWorld, .vol, 0, .any⟩,  -- ACTIVATES (R191)
  ⟨0x0D, 0x0D, .u64, .ro, .openWorld, .vol, 0, .any⟩,  -- PROMOTIONS (R191)
  ⟨0x0E, 0x0E, .u8, .ro, .openWorld, .vol, 0, .any⟩,  -- WQ_FILL (R191)
  ⟨0x0F, 0x0F, .u64, .ro, .openWorld, .vol, 0, .any⟩,  -- PD_TIME (R191)
  ⟨0x10, 0x10, .u64, .ro, .openWorld, .vol, 0, .any⟩,  -- SR_TIME (R191)
  ⟨0x11, 0x11, .u32, .ro, .openWorld, .vol, 0, .any⟩,  -- SR_ENTRIES (R191)
  ⟨0x12, 0x12, .u32, .ro, .openWorld, .vol, 0, .any⟩,  -- UE_COUNT (R191)
  ⟨0x13, 0x13, .u32, .ro, .openWorld, .vol, 0, .any⟩,  -- UE_REREAD_OK (R191)
  ⟨0x14, 0x14, (.octets 16), .ro, .openWorld, .vol, 0, .any⟩,  -- UE_LAST (R191)
  ⟨0x15, 0x15, .u32, .w1c, .openWorld, .vol, 0, .w1c 0x3F 0x0⟩]  -- FLAGS (R191)

/-- Objects of Train. -/
def Obj.Train.rows : List Row := [
  ⟨0x01, 0x01, .enum8, .ro, .openWorld, .vol, 0, .any⟩,  -- TRAIN_STATE (R213)
  ⟨0x02, 0x02, .u16, .ro, .openWorld, .vol, 0, .any⟩,  -- GEN (R213)
  ⟨0x03, 0x03, .bool, .ro, .openWorld, .vol, 0, .any⟩,  -- READY (R213)
  ⟨0x04, 0x04, .time96, .ro, .openWorld, .vol, 0, .any⟩,  -- TRAIN_TIME (R213)
  ⟨0x05, 0x05, .i32, .ro, .openWorld, .vol, 0, .any⟩,  -- TRAIN_TEMP (R213)
  ⟨0x06, 0x06, .u16, .ro, .openWorld, .vol, 0, .any⟩,  -- SPEED (R213)
  ⟨0x07, 0x07, .u32, .ro, .openWorld, .vol, 0, .any⟩,  -- FAILED_LANES (R213)
  ⟨0x08, 0x08, .u32, .ro, .openWorld, .vol, 0, .any⟩,  -- MARGINAL_LANES (R213)
  ⟨0x09, 0x09, .u8, .ro, .openWorld, .vol, 0, .any⟩,  -- STEP_FAILED (R213)
  ⟨0x0A, 0x0A, .u32, .ro, .openWorld, .vol, 0, .any⟩,  -- DURATION (R213)
  ⟨0x0B, 0x0B, .bool, .wo, .openWorld, .vol, 0, .any⟩,  -- RETRAIN (R213)
  ⟨0x0C, 0x0C, .u32, .ro, .openWorld, .vol, 0, .any⟩,  -- ALERT_EVENTS (R213)
  ⟨0x0D, 0x0D, .u32, .ro, .openWorld, .vol, 0, .any⟩,  -- CA_REPLAYS (R213)
  ⟨0x0E, 0x0E, .u32, .ro, .openWorld, .vol, 0, .any⟩,  -- PARITY_UNRECOVERED (R213)
  ⟨0x0F, 0x0F, .u32, .w1c, .openWorld, .vol, 0, .w1c 0xF 0x0⟩]  -- FLAGS (R213)

/-- Objects of LaneRec0. -/
def Obj.LaneRec0.rows : List Row := [
  ⟨0x01, 0x0A, (.octets 20), .ro, .openWorld, .vol, 0, .any⟩]  -- LANE (R213)

/-- Objects of LaneRec1. -/
def Obj.LaneRec1.rows : List Row := [
  ⟨0x01, 0x0A, (.octets 20), .ro, .openWorld, .vol, 0, .any⟩]  -- LANE (R213)

/-- Objects of Ca. -/
def Obj.Ca.rows : List Row := [
  ⟨0x01, 0x01, .u16, .ro, .openWorld, .vol, 0, .any⟩,  -- CA_COMMON (R214)
  ⟨0x02, 0x02, (.octets 14), .ro, .openWorld, .vol, 0, .any⟩,  -- CA_BIT (R214)
  ⟨0x03, 0x03, (.octets 4), .ro, .openWorld, .vol, 0, .any⟩,  -- CS_DLY (R214)
  ⟨0x04, 0x04, (.octets 2), .ro, .openWorld, .vol, 0, .any⟩,  -- VREFCA (R214)
  ⟨0x05, 0x05, (.octets 2), .ro, .openWorld, .vol, 0, .any⟩,  -- VREFCS (R214)
  ⟨0x06, 0x06, .u8, .ro, .openWorld, .vol, 0, .any⟩,  -- CA_EYE_W (R214)
  ⟨0x07, 0x07, (.octets 2), .ro, .openWorld, .vol, 0, .any⟩]  -- CS_EYE_W (R214)

/-- Objects of FtSc. -/
def Obj.FtSc.rows : List Row := [
  ⟨0x01, 0x01, .i32, .ro, .openWorld, .vol, 0, .any⟩,  -- T_NOW (R245)
  ⟨0x02, 0x02, .i32, .ro, .openWorld, .vol, 0, .any⟩,  -- T_CAL (R245)
  ⟨0x03, 0x03, .time96, .ro, .openWorld, .vol, 0, .any⟩,  -- T_CAL_TIME (R245)
  ⟨0x04, 0x04, .u8, .ro, .openWorld, .vol, 0, .any⟩,  -- BANDS_VALID (R245)
  ⟨0x05, 0x05, (.octets 20), .ro, .openWorld, .vol, 0, .any⟩,  -- BAND_TEMPS (R245)
  ⟨0x06, 0x06, .bool, .wo, .openWorld, .vol, 0, .any⟩,  -- RECAL (R245)
  ⟨0x07, 0x07, .u32, .ro, .openWorld, .vol, 0, .any⟩,  -- RECALS (R245)
  ⟨0x08, 0x08, .u32, .ro, .openWorld, .vol, 0, .any⟩,  -- CAPTURES (R245)
  ⟨0x09, 0x09, .u32, .ro, .openWorld, .vol, 0, .any⟩,  -- CAPTURE_FAILS (R245)
  ⟨0x0A, 0x0A, .u64, .ro, .openWorld, .vol, 0, .any⟩,  -- TAP_MOVES (R245)
  ⟨0x0B, 0x0B, .u32, .ro, .openWorld, .vol, 0, .any⟩,  -- STARVED_LANES (R245)
  ⟨0x0C, 0x0C, .u64, .ro, .openWorld, .vol, 0, .any⟩,  -- INSERTED_BURSTS (R245)
  ⟨0x0D, 0x0D, .u32, .ro, .openWorld, .vol, 0, .any⟩,  -- INSERT_REFUSALS (R245)
  ⟨0x0E, 0x0E, .u32, .w1c, .openWorld, .vol, 0, .w1c 0x3F 0x0⟩]  -- FLAGS (R245)

/-- Objects of Track0. -/
def Obj.Track0.rows : List Row := [
  ⟨0x01, 0x0A, (.octets 16), .ro, .openWorld, .vol, 0, .any⟩]  -- TRACK (R246)

/-- Objects of Track1. -/
def Obj.Track1.rows : List Row := [
  ⟨0x01, 0x0A, (.octets 16), .ro, .openWorld, .vol, 0, .any⟩]  -- TRACK (R246)

/-- Objects of EccSc. -/
def Obj.EccSc.rows : List Row := [
  ⟨0x01, 0x01, (.octets 2), .rw, .secureWorld, .ledger, 0xFFFF, .eraseMap⟩,  -- ERASE_MAP (R267)
  ⟨0x02, 0x02, .u64, .ro, .openWorld, .vol, 0, .any⟩,  -- CE_BURSTS (R267)
  ⟨0x03, 0x03, .u64, .ro, .openWorld, .vol, 0, .any⟩,  -- CE_SYMBOLS (R267)
  ⟨0x04, 0x04, .u64, .ro, .openWorld, .vol, 0, .any⟩,  -- ERASURE_DECODES (R267)
  ⟨0x05, 0x05, .u64, .ro, .openWorld, .vol, 0, .any⟩,  -- POISON_READS (R267)
  ⟨0x06, 0x06, .u32, .ro, .openWorld, .vol, 0, .any⟩,  -- SUSPECTS (R267)
  ⟨0x07, 0x07, .u32, .ro, .openWorld, .vol, 0, .any⟩,  -- TRANSIENTS (R267)
  ⟨0x08, 0x08, .u32, .ro, .openWorld, .vol, 0, .any⟩,  -- ROW_FAULTS (R267)
  ⟨0x09, 0x09, .u32, .ro, .openWorld, .vol, 0, .any⟩,  -- SCRUB_POS (R267)
  ⟨0x0A, 0x0A, .u32, .ro, .openWorld, .vol, 0, .any⟩,  -- SCRUB_PASSES (R267)
  ⟨0x0B, 0x0B, .u32, .ro, .openWorld, .vol, 0, .any⟩,  -- SCRUB_LAST_PASS (R267)
  ⟨0x0C, 0x0C, .u64, .ro, .openWorld, .vol, 0, .any⟩,  -- SCRUB_WB (R267)
  ⟨0x0D, 0x0D, .u32, .ro, .openWorld, .vol, 0, .any⟩,  -- SCRUB_WB_DROPPED (R267)
  ⟨0x0E, 0x0E, .u16, .ro, .openWorld, .vol, 0, .any⟩,  -- REPAIRS (R267)
  ⟨0x0F, 0x0F, .u16, .ro, .openWorld, .vol, 0, .any⟩,  -- REPAIR_FAILS (R267)
  ⟨0x10, 0x10, .u32, .ro, .openWorld, .vol, 0, .any⟩,  -- INTERRUPT_LAST (R267)
  ⟨0x11, 0x11, .u32, .ro, .openWorld, .vol, 0, .any⟩,  -- INTERRUPT_MAX (R267)
  ⟨0x12, 0x12, (.octets 80), .ro, .openWorld, .vol, 0, .any⟩,  -- PKG_SYMBOLS (R267)
  ⟨0x13, 0x13, .u32, .w1c, .openWorld, .vol, 0, .w1c 0x3FF 0x0⟩]  -- FLAGS (R267)

/-- The dictionary map (R382), first part. -/
def dictionaryA : List Group := [
  ⟨0x1000, 1, 1, 0, Obj.Id.rows⟩,
  ⟨0x1100, 1, 1, 0, Obj.Mg.rows⟩,
  ⟨0x1110, 1, 1, 0, Obj.Loa.rows⟩,
  ⟨0x1200, 1, 1, 0, Obj.Time.rows⟩,
  ⟨0x2000, 1, 1, 0, Obj.Hr.rows⟩,
  ⟨0x2010, 1, 8, 0, Obj.Port.rows⟩,
  ⟨0x2300, 1, 1024, 0, Obj.Region.rows⟩,
  ⟨0x2800, 1, 256, 0, Obj.Stream.rows⟩,
  ⟨0x2900, 1, 1, 0, Obj.Millpond.rows⟩,
  ⟨0x2901, 1, 1, 0, Obj.Preset.rows⟩,
  ⟨0x2A00, 1, 64, 0, Obj.Window.rows⟩,
  ⟨0x2C00, 1, 1024, 0, Obj.Quota.rows⟩,
  ⟨0x3000, 1, 128, 0, Obj.Context.rows⟩,
  ⟨0x3200, 1, 1, 0, Obj.Millstone.rows⟩,
  ⟨0x3400, 1, 32, 0, Obj.Job.rows⟩,
  ⟨0x3500, 1, 16, 0, Obj.Lease.rows⟩,
  ⟨0x3600, 1, 1, 0, Obj.Tailrace.rows⟩,
  ⟨0x3800, 1, 1, 0, Obj.Mc.rows⟩,
  ⟨0x3900, 1, 1, 0, Obj.Phy.rows⟩,
  ⟨0x3A00, 1, 1, 0, Obj.Fantail.rows⟩,
  ⟨0x3A10, 1, 1, 0, Obj.Cal.rows⟩,
  ⟨0x3A20, 1, 1, 0, Obj.Mon.rows⟩,
  ⟨0x3B00, 1, 1, 0, Obj.Ecc.rows⟩,
  ⟨0x3B20, 1, 8, 0, Obj.EccLog.rows⟩,
  ⟨0x3B30, 1, 4, 0, Obj.Repair.rows⟩,
  ⟨0x4000, 1, 1, 0, Obj.Seq.rows⟩,
  ⟨0x4010, 1, 16, 0, Obj.Rail.rows⟩,
  ⟨0x4030, 1, 1, 0, Obj.FfLog.rows⟩]

/-- The dictionary map (R382), second part. -/
def dictionaryB : List Group := [
  ⟨0x4400, 1, 1, 0, Obj.Sluice.rows⟩,
  ⟨0x4800, 1, 1, 0, Obj.Fc.rows⟩,
  ⟨0x4820, 1, 2, 0, Obj.EventLog.rows⟩,
  ⟨0x4900, 1, 768, 0, Obj.Source.rows⟩,
  ⟨0x5000, 1, 1, 0, Obj.Sec.rows⟩,
  ⟨0x5010, 1, 1, 0, Obj.Fuse.rows⟩,
  ⟨0x5020, 1, 16, 1, Obj.KeySlot.rows⟩,
  ⟨0x5030, 1, 1, 0, Obj.Image.rows⟩,
  ⟨0x5040, 1, 1, 0, Obj.Checkpoint.rows⟩,
  ⟨0x5041, 1, 1, 0, Obj.CpFetch.rows⟩,
  ⟨0x5800, 1, 1, 0, Obj.Sail.rows⟩,
  ⟨0x5808, 1, 1, 0, Obj.Baton.rows⟩,
  ⟨0x5810, 1, 4, 0, Obj.SailPort.rows⟩,
  ⟨0x5840, 1, 1, 0, Obj.Snap.rows⟩,
  ⟨0x5841, 1, 2, 0, Obj.SnapStream.rows⟩,
  ⟨0x5843, 1, 1, 0, Obj.SnapContext.rows⟩,
  ⟨0x5844, 1, 1, 0, Obj.SnapHub.rows⟩,
  ⟨0x5900, 1, 1, 0, Obj.Dev.rows⟩,
  ⟨0x5910, 1, 1, 0, Obj.ScOrder.rows⟩,
  ⟨0x5911, 1, 1, 0, Obj.ScMask.rows⟩,
  ⟨0x6000, 64, 32, 0, Obj.Sc.rows⟩,
  ⟨0x6001, 64, 32, 0, Obj.Train.rows⟩,
  ⟨0x6002, 64, 32, 0, Obj.LaneRec0.rows⟩,
  ⟨0x6003, 64, 32, 0, Obj.LaneRec1.rows⟩,
  ⟨0x6004, 64, 32, 0, Obj.Ca.rows⟩,
  ⟨0x6005, 64, 32, 0, Obj.FtSc.rows⟩,
  ⟨0x6006, 64, 32, 0, Obj.Track0.rows⟩,
  ⟨0x6007, 64, 32, 0, Obj.Track1.rows⟩,
  ⟨0x6008, 64, 32, 0, Obj.EccSc.rows⟩]

/-- The whole dictionary. -/
def dictionary : List Group := dictionaryA ++ dictionaryB

/-- The number of an index in a group, if the index belongs to it. -/
def Group.inst (g : Group) (idx : Nat) : Option Nat :=
  if idx < g.base then none
  else
    let d := idx - g.base
    let i := if g.count = 1 then 0 else d / g.stride
    if d = g.stride * i ∧ i < g.count ∧ g.first ≤ i then some i
    else if g.count = 1 ∧ d = 0 then some 0
    else none

/-- The group an index belongs to. -/
def findGroup (idx : Nat) : Option Group :=
  dictionary.find? fun g => (g.inst idx).isSome

/-- The row of a subindex in a group. -/
def Group.row? (g : Group) (sub : Nat) : Option Row :=
  g.rows.find? fun r => decide (r.lo ≤ sub ∧ sub ≤ r.hi)

/-- The highest subindex present in a group (R7). -/
def Group.top (g : Group) : Nat := g.rows.foldl (fun m r => max m r.hi) 0

/-- Objects of fault sources exist only for the numbers listed (12_fault_collection.md R304). -/
def sourceObjectExists (idx : Nat) : Bool :=
  if 0x4900 ≤ idx ∧ idx < 0x4C00 then (sourceInfo? (idx - 0x4900)).isSome else true

/-- The dictionary row of an object, R7: subindex 0x00 of an object with more than one subindex is a constant U8. -/
@[irreducible] def lookup (idx sub : Nat) : Option Row :=
  if sourceObjectExists idx then
    match findGroup idx with
    | none => none
    | some g =>
      if sub = 0 ∧ 1 < g.top then some ⟨0, 0, .u8, .const, .openWorld, .none, g.top, .any⟩
      else g.row? sub
  else none

/-- `lookup` by key. -/
def lookupKey (k : Nat) : Option Row := lookup (k / 256) (k % 256)

/-- Bytes of an object's value (R373); 0 for a key that names no object. -/
def sizeOf (k : Nat) : Nat := match lookupKey k with | some r => r.ty.bytes | none => 0

/-- Bits of an object's value. -/
def widthOf (k : Nat) : Nat := 8 * sizeOf k

/-- The default value of an object (R12 and each object table; the rail tree R272; CONFIG R307; CLASSIC R309;
HUB_ID R380; constants of the part R380, R445, R356). DESIGN CHOICE, unsafe (log entry 2). -/
@[irreducible] def defaultOf (k : Nat) : Nat :=
  let idx := k / 256
  let sub := k % 256
  if 0x4010 ≤ idx ∧ idx < 0x4020 ∧ 1 ≤ sub ∧ sub ≤ 8 then treeDefault (idx - 0x4010) sub
  else if 0x4900 ≤ idx ∧ idx < 0x4C00 ∧ sub = 1 then sourceConfigDefault (idx - 0x4900)
  else if 0x4900 ≤ idx ∧ idx < 0x4C00 ∧ sub = 3 then sourceClassic (idx - 0x4900)
  else if k = Obj.Id.SILICON_REV then Config.siliconRev.toNat
  else if k = Obj.Id.SERIAL then Config.serial.toNat
  else if k = Obj.Id.HUB_ID then Config.serial.toNat % 2 ^ 32
  else if k = Obj.Id.SPEED_MAX then Config.speedMax.toNat
  else if k = Obj.Mg.MAC then Config.mac.toNat
  else if k = Obj.Sec.DEVICE_PUBKEY then Config.devicePubkey.toNat
  else match lookupKey k with | some r => r.dflt | none => 0

/-- Is the object a LEDGER object (R12)? -/
def isLedger (k : Nat) : Bool :=
  match lookupKey k with | some r => r.pers == .ledger | none => false

end Sys2Proof.Machine
end

