-- ==== Sys2Proof/Machine/Tbl.lean ====
section
/-! DEFINITION. Sparse tables in one canonical form: keys strictly rising, and no entry equal to what an unlisted key
reads as. Registers, memory and every array of internal state are held so. -/

namespace Sys2Proof.Machine

/-- A table from numbers to values, as data. -/
abbrev Tbl (α : Type) := List (Nat × α)

/-- The value under a key; `d` says what an unlisted key reads as. -/
def Tbl.get {α : Type} (d : Nat → α) : Tbl α → Nat → α
  | [], n => d n
  | (k, v) :: t, n => if n = k then v else Tbl.get d t n

/-- The table without a key. -/
def Tbl.erase {α : Type} : Tbl α → Nat → Tbl α
  | [], _ => []
  | (k, v) :: t, n => if n = k then Tbl.erase t n else (k, v) :: Tbl.erase t n

/-- Put an entry in before the first larger key. -/
def Tbl.insert {α : Type} : Tbl α → Nat → α → Tbl α
  | [], n, x => [(n, x)]
  | (k, v) :: t, n, x => if n < k then (n, x) :: (k, v) :: t else (k, v) :: Tbl.insert t n x

/-- Write a value under a key, keeping the canonical form. -/
def Tbl.set {α : Type} [DecidableEq α] (d : Nat → α) (t : Tbl α) (n : Nat) (x : α) : Tbl α :=
  if x = d n then t.erase n else (t.erase n).insert n x

/-- Every key is above the bound and the keys rise strictly. -/
def Tbl.rising {α : Type} : Option Nat → Tbl α → Bool
  | _, [] => true
  | lo, (k, _) :: t => (match lo with | none => true | some b => decide (b < k)) && Tbl.rising (some k) t

/-- No entry equals what the unlisted key reads as. -/
def Tbl.proper {α : Type} [DecidableEq α] (d : Nat → α) (t : Tbl α) : Bool :=
  t.all fun e => decide (e.2 ≠ d e.1)

/-- The canonical form. -/
def Tbl.wf {α : Type} [DecidableEq α] (d : Nat → α) (t : Tbl α) : Bool :=
  Tbl.rising none t && Tbl.proper d t

/-- Change the value under a key. -/
def Tbl.upd {α : Type} [DecidableEq α] (d : Nat → α) (t : Tbl α) (n : Nat) (f : α → α) : Tbl α :=
  Tbl.set d t n (f (Tbl.get d t n))

/-- Drop every key that satisfies a test. -/
def Tbl.drop {α : Type} (t : Tbl α) (p : Nat → Bool) : Tbl α := t.filter fun e => !p e.1

end Sys2Proof.Machine
end

