-- ==== Sys2Proof/Machine/State.lean ====
section
/-! DEFINITION. The state of the hub, as plain data, and the state right after reset. Objects of the dictionary live in
`Core.objs` (and, as committed to the ledger, in `Core.ledger`) under the keys of Keys.lean; every structure below is state that
the spec gives a block and no object shows. -/

namespace Sys2Proof.Machine

/-- Why a step stops with a fault. No rule of the spec stops the hub, so the type has no constructor: every event the
spec describes ends in a next state. -/
inductive Fault where
  deriving DecidableEq, Repr

/-- Why a step is refused. DESIGN CHOICE, safe (log entry 6). -/
inductive Refusal where
  /-- Raised by Dispatch.lean for a command that has no meaning yet. Safe: nothing follows from a refused step. -/
  | notModelled (mnemonic : String)
  /-- Raised by a command whose operand can not have arrived: a list that stands for a fixed number of bytes, lanes or
  samples has another length (WellFormed.lean). Safe: no such command exists at the pins. -/
  | illFormed
  deriving DecidableEq, Repr

/-! ## What leaves the hub -/

/-- Output pins of the hub. -/
inductive Pin where
  | errN | safeN
  /-- SQ_RCcc_EN -/
  | railEn (c : Nat)
  | sqUpOut | sqDnOut
  deriving DecidableEq, Repr

/-- DRAM commands as the controller issues them (R174 to R186, R206, R225, R260). -/
inductive DramCmd where
  | act (bank row : Nat) | pre (bank : Nat) | rd (bank row col : Nat) | wr (bank row col : Nat)
  | ref (lr : Nat) | pdEnter (pr : Nat) | pdExit (pr : Nat) | srEnter (pr : Nat) | srExit (pr : Nat) | mrr (lr : Nat)
  | preAll (lr : Nat)
  /-- RESET_n of the subchannel goes low or high (R206 step 1, R422) -/
  | reset (low : Bool)
  /-- ZQ calibration of a package rank (R206 step 1) -/
  | zq (pr : Nat)
  /-- the command parity check of a package rank, its command timing, and latencies for a bin (R206 step 4) -/
  | parity (pr : Nat) (on : Bool)
  | timing (pr : Nat) (twoN : Bool) (bin : Nat)
  /-- VREFDQ and the DFE taps of one package, by per-DRAM addressability (R202) -/
  | dramSide (pr lane vref tap1 tap2 : Nat)
  /-- read training pattern mode of a logical rank (R225) -/
  | pattern (lr : Nat) (on : Bool)
  /-- a die alone enters or leaves repair mode, and its row is programmed, soft or hard (R260, R262) -/
  | repairMode (lr lane : Nat) (on : Bool)
  | repairRow (lr lane bank row : Nat) (hard : Bool)
  deriving DecidableEq, Repr

/-- The chip selects that a command pulls low, bit p for PRp (R195). -/
def DramCmd.selects : DramCmd → Nat
  | .act b _ | .pre b | .rd b _ _ | .wr b _ _ => 2 ^ (b / 128)
  | .ref lr | .mrr lr | .preAll lr | .pattern lr _ | .repairMode lr _ _ | .repairRow lr _ _ _ _ => 2 ^ (lr / 4)
  | .pdEnter pr | .pdExit pr | .srEnter pr | .srExit pr | .zq pr | .parity pr _ | .timing pr _ _
  | .dramSide pr _ _ _ _ => 2 ^ pr
  | .reset _ => 0

/-- CID1 and CID0 of a command: the die of its logical rank; a command to a whole package rank drives both low (R16, R195).
DEDUCED, unsafe (log entry 81). -/
def DramCmd.cid : DramCmd → Nat
  | .act b _ | .pre b | .rd b _ _ | .wr b _ _ => b / 32 % 4
  | .ref lr | .mrr lr | .preAll lr | .pattern lr _ | .repairMode lr _ _ | .repairRow lr _ _ _ _ => lr % 4
  | _ => 0

/-- A number for each command, to name its encoding on CA0 to CA13 (R198). -/
def DramCmd.code : DramCmd → Nat
  | .act b row => 16 * (b * 2 ^ 17 + row)
  | .pre b => 16 * b + 1
  | .rd b _ col => 16 * (b * 128 + col) + 2
  | .wr b _ col => 16 * (b * 128 + col) + 3
  | .ref lr => 16 * lr + 4
  | .pdEnter pr => 16 * pr + 5
  | .pdExit pr => 16 * pr + 6
  | .srEnter pr => 16 * pr + 7
  | .srExit pr => 16 * pr + 8
  | .mrr lr => 16 * lr + 9
  | .preAll lr => 16 * lr + 10
  | .zq pr => 16 * pr + 11
  | .pattern lr on => 16 * (2 * lr + (if on then 1 else 0)) + 12
  | .parity pr on => 16 * (2 * pr + (if on then 1 else 0)) + 13
  | .timing pr twoN bin => 16 * (4 * bin + 2 * pr + (if twoN then 1 else 0)) + 14
  | .dramSide pr lane vref tap1 tap2 => 64 * ((((2 * lane + pr) * 256 + vref) * 256 + tap1) * 256 + tap2) + 15
  | .repairMode lr lane on => 64 * (2 * (16 * lr + lane) + (if on then 1 else 0)) + 31
  | .repairRow lr lane bank row hard => 64 * ((((16 * lr + lane) * 256 + bank) * 2 ^ 17 + row) * 2 + (if hard then 1 else 0)) + 47
  | .reset _ => 63

/-- What a command makes leave the hub, in order. DESIGN CHOICE, unsafe (log entry 72). -/
inductive Out where
  /-- a Headrace cell of a port with its TYPE -/
  | cell (p : Nat) (ty : Nat) (c : Cell)
  /-- the message of a codeword that a lane of a port sends (R28) -/
  | codeword (p l : Nat) (msg : BitVec 5140)
  /-- the 272 bytes of a cell taken from a lane's codewords (R28) -/
  | taken (p : Nat) (bytes : List Byte)
  /-- the status of an object write -/
  | status (s : Status)
  /-- a UDP datagram: to address and port -/
  | udp (addr : Nat) (port : Nat) (bytes : List Byte)
  /-- other management-port frames: ARP, Neighbor Discovery, ICMP (R364), as kind, destination and data -/
  | frame (kind : Nat) (mac : Nat) (ip : Nat) (bytes : List Byte)
  /-- a PTP Delay_Req (R394) -/
  | delayReq
  /-- a Sail message of a port -/
  | sail (sp : Nat) (bytes : List Byte) (crc : BitVec 32)
  | pin (p : Pin) (level : Bool)
  /-- the margin output of a rail, in steps of 0.5 % from its neutral level (R283, R294) -/
  | margin (rc : Nat) (steps : Int)
  /-- a PMBus transaction with a rail's regulator: its command code, and what is written (R294, R295) -/
  | pmbus (rc code : Nat) (data : Option Nat)
  /-- a DRAM command of a subchannel and the level of PAR (R198) -/
  | dram (sc : Nat) (cmd : DramCmd) (par : Bool)
  /-- both supervisors interrupted (R310) -/
  | interrupt
  deriving DecidableEq, Repr

/-! ## Memory -/

/-- What the bursts of a subchannel that nothing has written hold. -/
inductive Base where
  /-- zeros -/
  | zeros
  /-- zeros with the poison mark, after a fill (R422) -/
  | filled
  /-- undefined since the n-th loss of content: `Config.freeByte n` -/
  | free (n : Nat)
  deriving DecidableEq, Repr

/-- A range of bursts that the hub zeroed whole (R83): the address map then in force, its bounds as hub addresses, the
upper one excluded, and the subchannels whose content was lost since, as a mask. -/
structure ZeroSpan where
  map : Nat
  lo : Nat
  hi : Nat
  lost : Nat
  deriving DecidableEq, Repr

/-- The DRAM behind the 32 subchannels. Addresses are physical: burst `pa` = SC * 2^32 + LR * 2^29 + BG * 2^26 + BA * 2^24 +
ROW * 2^7 + COL (R164, R165), byte address 64 * pa + i. -/
structure Memory where
  /-- listed bytes -/
  cells : List Host.Cell
  /-- poison marks by burst; 1 marked, 0 not -/
  marks : Tbl Nat
  /-- by subchannel, what unlisted bursts hold -/
  base : Tbl Base
  /-- ranges of hub addresses zeroed whole, newest first -/
  zeroed : List ZeroSpan
  /-- losses of content so far -/
  epoch : Nat
  deriving DecidableEq, Repr

/-! ## Fault collector (12_fault_collection.md) -/

/-- A quiet window (R315, R316). -/
structure QuietWindow where
  id : Nat
  reaction : Nat
  scope : List Nat
  /-- EVENT_SEQ of the event that opened it, 0 for none -/
  opener : Nat
  suppressed : Nat
  /-- sources whose events the window withheld, with the context of each event -/
  masked : List (Nat × FaultCtx)
  deriving DecidableEq, Repr

/-- Marks of an event (R325). -/
structure Marks where
  injected : Bool
  real : Bool
  wire : Bool
  late : Bool
  deriving DecidableEq, Repr

structure FcState where
  /-- pair states: 0 IDLE, 1 FAULT, 2 INVALID (R302) -/
  pairs : Tbl Nat
  /-- sources with an injection running, and what the real condition drives their pairs to (R321, R322) -/
  injecting : Tbl Nat
  /-- real conditions latched during an injection (R322) -/
  latched : List (Nat × FaultCtx)
  windows : List QuietWindow
  nextWindow : Nat
  running : Bool
  /-- events of always-on sources held while the collector is not running (R303) -/
  held : List (Nat × FaultCtx)
  fallback : Bool
  /-- EVENT_SEQ of the latest numbered event (R324) -/
  seq : Nat
  /-- commanded levels of ERR_N and SAFE_N -/
  errN : Bool
  safeN : Bool
  /-- which source the receiver self-test took last (R329) -/
  tested : Nat
  deriving DecidableEq, Repr

/-- What an event asks of other blocks, taken at the end of the command. -/
inductive Req where
  | safe
  | lockout
  /-- the subchannel goes OFFLINE by the collector's order, for the source named -/
  | scOffline (sc src : Nat)
  | halfOffline (h src : Nat)
  /-- a NOTIFY of the record with this EVENT_SEQ -/
  | notify (seq : Nat)
  /-- a Sail TRIGGER: window, TRIGGER_ID, TT, per-trigger delays (R107) -/
  | sailTrigger (w id tt : Nat) (delays : Option (List Nat))
  /-- a HEALTH STATUS, because the device state changed (R391) -/
  | health
  deriving DecidableEq, Repr

/-! ## Sluice (16_states_start_sluice.md R423 to R425) -/

/-- A credit held or asked for: kind code of R424, who holds it, its size. DESIGN CHOICE, unsafe (log entry 71). -/
structure Credit where
  kind : Nat
  owner : Nat
  mw : Nat
  forced : Bool
  deriving DecidableEq, Repr

structure SluiceState where
  held : List Credit
  queue : List Credit
  deriving DecidableEq, Repr

/-! ## Memory controller (07_memory_controller.md) -/

/-- Who asked for a burst. -/
inductive Owner where
  /-- a block of a READ, a burst of a WRITE: port, tag and the port's time (`HrPortState.ups`) -/
  | hrRead (p tag blk up : Nat)
  | hrWrite (p tag up : Nat)
  | block (st : Nat)
  | scrub
  | scrubWrite
  | fantail (pr : Nat)
  /-- a write-back of context x's frame k -/
  | millstone (x k : Nat)
  /-- a block of the refill of a line of context x's frame k (R138) -/
  | refill (x k blk : Nat)
  /-- a write of a LOCAL job, and a source read of a job: which of its reads, in which of its runs -/
  | drain (j : Nat)
  | drainRead (j run blk : Nat)
  | firmware
  /-- segment-map and span writes -/
  | side
  /-- a confirmation read of a suspect package: 0 re-read, 1 probe A, 2 probe B (R252) -/
  | confirm (i : Nat)
  /-- a burst of the row under repair (R260) -/
  | repair (col : Nat)
  deriving DecidableEq, Repr

/-- Where an issued read stands (R187, R189, R254). -/
inductive Flight where
  /-- its data is awaited -/
  | out
  /-- its data will be discarded, as it was in flight when a suspect was found -/
  | stale
  /-- its data was discarded; it waits for the Replay phase -/
  | kept
  /-- it is to be issued again at FORCE -/
  | again
  deriving DecidableEq, Repr

/-- A 64-byte request. -/
structure Req64 where
  id : Nat
  ha : Nat
  write : Bool
  cls : Nat
  data : Nat
  poison : Bool
  owner : Owner
  /-- the re-read of an uncorrectable read (R187) -/
  second : Bool
  /-- a write to the same address was accepted after this scrub read (R257) -/
  passed : Bool
  /-- issued again by an ALERT replay (R221) -/
  replayed : Bool
  at_ : Flight
  /-- a read of the Replay phase (R254) -/
  inReplay : Bool
  /-- hub tick of acceptance -/
  t : Nat
  deriving DecidableEq, Repr

structure McState where
  /-- the command FIFO, at most 32 entries, and the requests whose writers stall (R21) -/
  wait : List Req64
  stalled : List Req64
  /-- read entries, the write queue and the issued reads: at most 128, 128 and 32 (R167) -/
  reads : List Req64
  writes : List Req64
  flight : List Req64
  /-- the error correction's own requests: confirmations and the row under repair (R252, R260) -/
  own : List Req64
  nextId : Nat
  dirWrite : Bool
  run : Nat
  rr : Nat
  /-- open rows by bank: row + 1, 0 closed -/
  rows : Tbl Nat
  streak : Tbl Nat
  /-- banks whose open row has had no column command since its activate -/
  fresh : Tbl Nat
  /-- refresh debt by logical rank (R176) -/
  debt : Tbl Nat
  /-- logical ranks at the HOT rate -/
  hot : Nat
  /-- consecutive polls with every die at 1x, by logical rank -/
  oneX : Tbl Nat
  /-- excess refreshes still to issue at FORCE (R179), and flush refreshes (R182), by logical rank -/
  excess : Tbl Nat
  flush : Tbl Nat
  /-- logical ranks whose MR4 is still to be read, and those whose values are awaited (R178) -/
  mrrDue : Nat
  mrrOut : Nat
  /-- package ranks whose power-down exit waits for ALERT_n, and those woken for a refresh only (R183, R199) -/
  wakeDue : Nat
  pdBack : Nat
  /-- logical ranks in whose refresh shadow pattern reads are still to begin, and those in pattern mode (R225) -/
  shadow : Nat
  pattern : Nat
  /-- self-refresh entry is under way (R185), and one more than the tick of its entry commands, 0 before (R201) -/
  srEntering : Bool
  srAt : Nat
  /-- why the subchannel is or goes into self-refresh: 1 lease, 2 SLEEP, 4 HOLD, 8 SAFE -/
  srWhy : Nat
  /-- an exit is demanded -/
  srExiting : Bool
  /-- held by firmware order (R420) -/
  held : Bool
  /-- OFFLINE_HOLD_US has passed since the entry (R421) -/
  holdOver : Bool
  /-- segment-map and span writes kept in Millpond until the return (R421) -/
  kept : List Req64
  /-- OFFLINE with RESET_n low (R422) -/
  inReset : Bool
  /-- commands stopped by ALERT_n (R199) -/
  stopped : Bool
  /-- an order to go OFFLINE waits for the self-refresh exit (R186, R420) -/
  offAfter : Bool
  deriving DecidableEq, Repr

/-! ## Headrace (02_headrace_links.md) -/

structure HrLaneState where
  /-- the start-up protocol is over in each direction (R32) -/
  txTrained : Bool
  trained : Bool
  locked : Bool
  good : Nat
  bad : Nat
  fcoBad : Nat
  /-- bytes of the running cell already passed, and those bytes unless one was lost -/
  phase : Nat
  part : Option (List Byte)
  /-- hub ticks of uncorrectable codewords in the last second (R60) -/
  uncorr : List Nat
  /-- beyond the skew limit of R31 -/
  lost : Bool
  /-- the sender's latest TXMASK names the lane (R28) -/
  used : Bool
  /-- number of the lane's latest codeword, and slot of its next cell to be whole (R30, R31) -/
  count : Nat
  slot : Nat
  deriving DecidableEq, Repr

/-- One 64-byte block of a READ. -/
structure ReadBlock where
  /-- where in the region it is read, none where it reads as zeros (R61) -/
  src : Option Nat
  /-- data and outcome: 0 OK, 1 POISONED, 2 UNCORRECTABLE; none while it is awaited -/
  got : Option (Nat × Nat)
  /-- the block's own slot state (R61, R63) -/
  gen : Nat
  ready : Bool
  stale : Bool
  notReady : Bool
  deriving DecidableEq, Repr

structure ReadTxn where
  tag : Nat
  region : Nat
  off : Nat
  blocks : List ReadBlock
  /-- cells sent so far -/
  sent : Nat
  deriving DecidableEq, Repr

/-- What becomes of a WRITE transaction at its final cell. -/
inductive WriteFate where
  | good
  | answer (s : Status) (cell : Nat)
  | silent
  deriving DecidableEq, Repr

structure WriteTxn where
  tag : Nat
  region : Nat
  off : Nat
  /-- blocks so far: data and poison -/
  blocks : List (Nat × Bool)
  cells : Nat
  fate : WriteFate
  deriving DecidableEq, Repr

/-- An applied WRITE transaction: bursts not yet accepted, and whether one was refused (R421). -/
structure WriteFlight where
  tag : Nat
  cells : Nat
  left : Nat
  retry : Bool
  deriving DecidableEq, Repr

/-- What waits at a port for a subchannel out of service (R421), in order of arrival: a checked WRITE transaction, or the
READ of a tag that may not pass one (R56). -/
inductive HeldOp where
  | write (t : WriteTxn)
  | read (tag : Nat)
  deriving DecidableEq, Repr

structure HrPortState where
  /-- times the port has left UP; transactions of an earlier time are over (R34) -/
  ups : Nat
  lanes : Tbl HrLaneState
  /-- number of the latest codeword of any lane; by SEQ, the tick at which the first lane's codeword came (R31) -/
  front : Nat
  seen : Tbl Nat
  /-- received cells that wait for their turn: slot, lane and bytes (R30, R31) -/
  inbox : List (Nat × Nat × List Byte)
  /-- codewords sent, modulo 16 (R28) -/
  txSeq : Nat
  /-- cells that have left for the lanes and have no slot yet, with their TYPE (R30, R52) -/
  line : List (Nat × Cell)
  /-- bytes of the running cells left for the next codeword, and those bytes by lane; a lane without an entry runs an
  IDLE cell (R28, R30) -/
  txLeft : Nat
  carry : Tbl (List Byte)
  /-- TXMASK to take effect at the next SEQ = 0 (R33) -/
  wantTx : Nat
  /-- RX_LANES of the far end's latest CREDIT cell -/
  farRx : Nat
  creditSeen : Bool
  /-- cumulative grants made, cells received, cells freed since the last grant, by VC (R51, R52) -/
  grant : Tbl Nat
  recv : Tbl Nat
  freed : Tbl Nat
  /-- cumulative grant received and cells sent, by VC -/
  cum : Tbl Nat
  sent : Tbl Nat
  /-- cells waiting for credit: VC, TYPE, cell -/
  txq : List (Nat × Nat × Cell)
  /-- READ transactions and applied WRITE transactions in flight -/
  readTxns : List ReadTxn
  writeTxns : List WriteFlight
  partialWrite : Option WriteTxn
  held : List HeldOp
  /-- the drain job that the port served last (R154) -/
  turn : Nat
  deriving DecidableEq, Repr

/-! ## Capture (03_millrace_capture.md) -/

/-- A ring block in the elastic buffer (R66, R92, R99). -/
structure RingBlock where
  /-- logical block number -/
  no : Nat
  /-- the 256 bytes, byte 0 highest -/
  data : Nat
  /-- received samples: first and last of each run, rising -/
  runs : List (Nat × Nat)
  /-- the lowest received sample that no commit has taken -/
  uncommitted : Option Nat
  /-- it waits for the controllers -/
  due : Bool
  /-- a word of it was uncorrectable in the buffer (R304, source MP_UE_ELASTIC) -/
  poison : Bool
  deriving DecidableEq, Repr

/-- A time base (R76): index, exact time in ns, rate. -/
structure TimeBase where
  s : Nat
  t : Rat
  num : Nat
  den : Nat
  deriving DecidableEq, Repr

structure StreamState where
  blocks : List RingBlock
  /-- disclosure records that wait for E to reach their SIDX, in arrival order (R75) -/
  waiting : List Nat
  /-- time bases, newest first, at most 8 -/
  bases : List TimeBase
  /-- RATIO80 in force -/
  rate : Nat
  deriving DecidableEq, Repr

/-- The hub's copy of a RING region's annex. -/
structure RingState where
  /-- map entries by physical segment (R85) -/
  map : Tbl Nat
  /-- span records by slot (R79) -/
  spans : Tbl Nat
  /-- slot of the newest span -/
  newest : Option Nat
  /-- the logical segment for which no segment was free (R118) -/
  blocked : Option Nat
  /-- samples of a segment since the latest ENABLE, 0 before one (R66, R88) -/
  sps : Nat
  /-- the physical segment that the cursor left last (R87, R99) -/
  prev : Nat
  deriving DecidableEq, Repr

/-! ## Trigger retention (04_weir_retention.md) -/

/-- A used member of a frozen window. -/
structure WinMember where
  k : Nat
  stream : Nat
  region : Nat
  /-- exact centre -/
  c : Int
  pre : Nat
  post : Nat
  /-- SPECLEN of a SPECTRUM member, 0 otherwise -/
  spec : Nat
  firstEff : Nat
  lastEff : Nat
  /-- result bits [9:0] -/
  flags : Nat
  /-- physical segments held -/
  held : List Nat
  /-- logical segments reserved -/
  reserved : List Nat
  deriving DecidableEq, Repr

structure WinState where
  members : List WinMember
  /-- order of the freezes (R117) -/
  order : Nat
  /-- DETECTOR and LEVEL of the trigger that froze the window (R81, R104) -/
  detector : Nat
  level : Nat
  deriving DecidableEq, Repr

/-! ## Accumulation (05_millstone_accumulation.md) -/

/-- A frame that is open or in close. -/
structure Frame where
  k : Nat
  /-- elements that updates have reached -/
  elems : Tbl Nat
  used : Nat
  excluded : Nat
  missing : Nat
  partials : Nat
  dropped : Nat
  sats : Nat
  nonfinite : Nat
  /-- summary bits [135:130] as bits [7:2] -/
  flags : Nat
  /-- 256-byte lines written back on eviction -/
  written : List Nat
  /-- 64-byte blocks that carry an uncorrectable error (R140, R188) -/
  bad : List Nat
  /-- 64-byte blocks whose refill is awaited (R138) -/
  filling : List Nat
  deriving DecidableEq, Repr

structure CtxState where
  frame : Option Frame
  /-- frames in close, lowest number first -/
  closing : List Frame
  /-- the first row not decided, and the samples of it received: channel and sample bits -/
  row : Nat
  samples : List (Nat × Nat)
  /-- in-range samples of the row that were released undecided (R141) -/
  released : Nat
  /-- CLOSE_NOW waits for the row being decided -/
  closeNow : Bool
  /-- generation of the newest closed frame, which continues across a restart -/
  gen : Nat
  /-- closed frames since START by slot: their summaries -/
  closed : Tbl Nat
  /-- slot of the newest closed frame since START -/
  newest : Option Nat
  /-- rows that applied updates since START: runs, newest first -/
  applied : List (Nat × Nat)
  deriving DecidableEq, Repr

/-- A line of the combining cache, the most recently used first in the list. -/
structure CacheLine where
  x : Nat
  k : Nat
  line : Nat
  deriving DecidableEq, Repr

/-! ## Drain jobs (06_tailrace_drain_scanout.md) -/

/-- What a record of a job carries (R150). -/
structure RecDesc where
  rtype : Nat
  member : Nat
  off : Nat
  len : Nat
  deriving DecidableEq, Repr

/-- A window member as fixed at START (R147). -/
structure MemberSnap where
  k : Nat
  stream : Nat
  region : Nat
  first : Nat
  last : Nat
  flags : Nat
  spb : Nat
  /-- span slots that touch the range -/
  slots : List Nat
  deriving DecidableEq, Repr

/-- A formed record that is not complete: its number, its place in the byte sequence, its bytes as sent, and the 64-byte
blocks of them read as UNCORRECTABLE or POISONED. -/
structure FormedRec where
  idx : Nat
  start : Nat
  bytes : List Byte
  marked : List Nat
  deriving DecidableEq, Repr

/-- A pushed transaction in flight (R154). -/
structure PushFlight where
  tag : Nat
  pos : Nat
  attempts : Nat
  /-- it waits to be sent again -/
  again : Bool
  cells : List Cell
  deriving DecidableEq, Repr

structure JobState where
  plan : List RecDesc
  members : List MemberSnap
  /-- source regions -/
  regions : List Nat
  /-- a FRAME source: its context, slot, summary, stream and NROWS -/
  ctx : Nat
  slot : Nat
  summary : Nat
  stream : Nat
  nrows : Nat
  /-- the region of a FRAME or RANGE source, and the hub address of the slot of a FRAME source -/
  region : Nat
  slotAt : Nat
  /-- window FLAGS and TRIGGER_ID at START -/
  winFlags : Nat
  trigger : Nat
  /-- times START or RESUME began a run of the job; the source blocks of the next record have been asked for; and those that
  have come: data and outcome, 0 OK, 1 POISONED, 2 UNCORRECTABLE, 3 awaited (R149, R153) -/
  run : Nat
  asked : Bool
  got : Tbl (Nat × Nat)
  /-- next record to form, records that are complete (R157), formed records, next byte to send -/
  next : Nat
  complete : Nat
  formed : List FormedRec
  pos : Nat
  flights : List PushFlight
  /-- cancelled, with pushes still awaited -/
  cancelling : Bool
  /-- bytes sent in the last 1 ms: hub tick and count -/
  sentLog : List (Nat × Nat)
  /-- TAG of the latest record of the generation (R348) -/
  prevTag : Nat
  /-- per-record digests appended so far, and the data bytes of those records (R349) -/
  digests : List Byte
  digestBytes : Nat
  /-- key slot and LAST_TAG of the previous generation, slot 0 for none (R348) -/
  lastKey : Nat
  lastTag : Nat
  /-- TIME96 of the accepted START -/
  started : Nat
  /-- generation of the checkpoint that CP_JOB_j shows, and its READY (R350) -/
  cpGen : Nat
  cpReady : Bool
  deriving DecidableEq, Repr

/-! ## Security (13_security_worlds.md) -/

/-- A supervisor and its image (R17, R342 to R345). -/
structure HalfState where
  /-- SVN, ILEVEL, MIN_PEER_ILEVEL of the running image -/
  svn : Nat
  ilevel : Nat
  minPeer : Nat
  /-- the slot that ran before the update, and the slot that the restart boots (R345) -/
  before : Nat
  target : Nat
  /-- an image runs -/
  running : Bool
  /-- a heartbeat came within the last 10 ms, and no digest is missed since (R401, R402) -/
  alive : Bool
  onTime : Bool
  /-- RELEASE and CLAIM of the latest heartbeat that the arbiter has not cleared (R403) -/
  release : Bool
  claim : Bool
  deriving DecidableEq, Repr

/-- Decisions posted: number, and the digest of each half that has posted (R402). -/
structure Decision where
  num : Nat
  east : Option Nat
  west : Option Nat
  deriving DecidableEq, Repr

/-- A copy of an owner key's hash, with its check code (R337). -/
inductive HashCopy where
  | blank
  /-- its check code fails -/
  | bad
  | good (hash : Nat)
  deriving DecidableEq, Repr

/-- Single-bit owner cells, each held three times (R337). -/
structure FuseCells where
  a : Nat
  b : Nat
  c : Nat
  deriving DecidableEq, Repr

/-- The owner's fuses (R336, R337). DESIGN CHOICE, unsafe (log entry 3). -/
structure Fuses where
  boot : FuseCells
  /-- the two copies of each owner key's hash -/
  hashes : Tbl (HashCopy × HashCopy)
  revoke : FuseCells
  /-- the thermometer code of the floor -/
  floor : FuseCells
  lock : FuseCells
  deriving DecidableEq, Repr

/-- The TAP: the mode in force and the instruction in force (R354, R355). -/
structure TapState where
  mode : Nat
  instr : JtagInstr
  deriving DecidableEq, Repr

/-- The external flash as fitted: its density in bytes, and whether it has 4-byte addressing, the 4 KiB erase and a fast
read the hub knows (R341). -/
structure FlashPart where
  bytes : Nat
  fit : Bool
  deriving DecidableEq, Repr

/-! ## LOA (14_object_dictionary.md) -/

/-- A notification that awaits its acknowledgement (R378): SEQ, times sent, message. -/
structure Note where
  seq : Nat
  sent : Nat
  msg : List Byte
  deriving DecidableEq, Repr

/-- A session: UDP 1 to 16, Headrace port 0xFF00 + p (R365, R366). -/
structure Session where
  isOpen : Bool
  /-- admitted to the secure world by AUTH, so that its messages are sealed (R367, R368) -/
  secure : Bool
  /-- source address and port of a UDP session -/
  addr : Nat
  port : Nat
  /-- nonces and session key (R367) -/
  nc : Nat
  nh : Nat
  ks : Nat
  /-- failed AUTHs -/
  fails : Nat
  /-- a request has come since OPEN -/
  begun : Bool
  /-- H and the held replies of executed requests in the window (R370) -/
  top : Nat
  replies : List (Nat × List Byte)
  /-- the READ snapshot: object, value, GEN, READY, STALE, status code (R371) -/
  snap : Option (Nat × List Byte × Nat × Bool × Bool × Nat)
  /-- the WRITE being assembled: object, TOTAL, bytes (R372) -/
  part : Option (Nat × Nat × List Byte)
  subscribed : Bool
  /-- next NOTIFY SEQ, and those not acknowledged -/
  noteSeq : Nat
  notes : List Note
  deriving DecidableEq, Repr

/-- Addresses and mode of the management port that are in force, and whether written ones wait (R380). -/
structure MgState where
  mode : Nat
  v4 : Nat
  v6 : Nat
  pending : Bool
  deriving DecidableEq, Repr

/-! ## The sequencer (11_power_sequencing.md) -/

/-- What the sequencer waits for. -/
inductive SeqPhase where
  /-- OFF or UP -/
  | rest
  /-- the next ramp step may begin; a rail rises; DELAY_ON_US runs; SQ_DN_IN is awaited high -/
  | rampReady
  | rising (rc : Nat)
  | delayOn
  | cascadeUp
  /-- SQ_DN_IN is awaited low; the next descent step may begin; a rail falls; DELAY_OFF_US runs -/
  | cascadeDown
  | dropReady
  | falling (rc : Nat)
  | delayOff
  deriving DecidableEq, Repr

/-- A row of the rail table in force: what takes effect at the next RAMP only (R274). -/
structure RailRow where
  used : Bool
  parent : Nat
  vnom : Nat
  range : Nat
  off : Nat
  deriving DecidableEq, Repr

structure SeqState where
  /-- the always-on domain is out of reset, and the hub tick of its release (R291) -/
  aoUp : Bool
  aoTick : Nat
  phase : SeqPhase
  table : List RailRow
  /-- rails that came up and were not released since, in ramp order -/
  up : List Nat
  /-- rails the sequence has still to enable, or to release, in order -/
  todo : List Nat
  /-- an off request waits for the ramp step (R286) -/
  offReq : Bool
  /-- the on request of an always-on power-up with UP_EN = 0 (R285) -/
  standing : Bool
  dwellOver : Bool
  upIn : Bool
  dnIn : Bool
  upOut : Bool
  dnOut : Bool
  /-- a cascade wait of this RAMP ran out (R290) -/
  noCascade : Bool
  /-- the orderly phase of a shutdown runs (R419) -/
  orderly : Bool
  /-- the first-failure latch: the entry without EVENT_SEQ and ECRC; and whether an event has begun since RAMP (R296) -/
  first : Option Nat
  failed : Bool
  /-- failed PMBus transactions in a row, by rail (R295) -/
  pmbFails : Tbl Nat
  deriving DecidableEq, Repr

/-! ## Sail, epochs and time (15_sail_time_array.md) -/

/-- A message that waits for the transmitter or for its acknowledgement: LSEQ, MTYPE, HOPS, body. -/
structure SailMsg where
  lseq : Nat
  mtype : Nat
  hops : Nat
  body : List Byte
  deriving DecidableEq, Repr

structure SailPortState where
  txSeq : Nat
  rxNext : Nat
  queue : List SailMsg
  unack : List SailMsg
  /-- the far end's HELLO: ROOT and DEPTH; and SUBTREE of its latest STATUS -/
  farRoot : Bool
  farDepth : Nat
  hello : Bool
  subtree : Nat
  deriving DecidableEq, Repr

/-- A pending epoch (R399). -/
structure Epoch where
  te : Nat
  num : Nat
  late : Bool
  stepped : Bool
  deriving DecidableEq, Repr

/-- A Sail TIME exchange of the child (R395): stamps in units of 2^-32 ns. -/
structure TimeEx where
  num : Nat
  t1 : Nat
  t2 : Nat
  t3 : Nat
  valid : Bool
  deriving DecidableEq, Repr

/-- The discipline loop (R393 to R397). -/
structure TimeState where
  /-- frequency estimate f, in ppb -/
  f : Rat
  good : Nat
  /-- hub tick of the latest applied measurement -/
  last : Option Nat
  /-- hops from the helm of the hub's time; 255 without discipline -/
  stratum : Nat
  exchange : Option TimeEx
  dreqNum : Nat
  /-- masters heard in PTP_DOMAIN and not on the ARB timescale: identity and quality -/
  masters : List (Nat × Nat)
  /-- the Sync under way: identity, origin when known, arrival, departure of the Delay_Req -/
  sync : Option (Nat × Option Nat × Nat × Nat)
  /-- the latest PTP offset is within 10 µs (R396) -/
  ptpClose : Bool
  deriving DecidableEq, Repr

structure SailState where
  ports : Tbl SailPortState
  /-- latest STATUS bodies of other hubs, by HUB_ID (R391) -/
  hubs : Tbl Nat
  epochs : List Epoch
  /-- T_E of the latest latched epoch -/
  latched : Option Nat
  /-- EPOCH_NUM of the latest epoch this helm originated -/
  epochNum : Nat
  /-- snapshot values taken at the latch tick and not yet published -/
  snap : Option (Tbl Nat)
  deriving DecidableEq, Repr

/-! ## Register and data buffer, cold training (08_ddr5_redrive_training.md) -/

/-- A command of the history (R199): when it left, what it was, and a write's burst. -/
structure HistCmd where
  t : Nat
  cmd : DramCmd
  /-- request number of a read -/
  read : Option Nat
  /-- physical burst, data and poison of a write -/
  wrote : Option (Nat × Nat × Bool)
  deriving DecidableEq, Repr

/-- What training has found for one lane of one package rank so far (R207 to R209). -/
structure LaneTrain where
  failed : Bool
  deskewLimit : Bool
  vrefEdge : Bool
  wlAmbig : Bool
  gateAmbig : Bool
  rdVref : Nat
  wrVref : Nat
  rdEyeW : Nat
  rdEyeH : Nat
  wrEyeW : Nat
  wrEyeH : Nat
  tap1 : Int
  tap2 : Int
  recen : Nat
  rdDqs : Nat
  wrDqs : Nat
  wrDq : Nat
  rdBit : Nat
  wrBit : Nat
  corrected : Nat
  badBlock : Bool
  done : Bool
  deriving DecidableEq, Repr

/-- A cold training (R205 to R216). -/
structure TrainRun where
  /-- waiting for its credit -/
  waiting : Bool
  /-- step 1 runs (again) -/
  fromOne : Bool
  step : Nat
  pr : Nat
  repeats : Nat
  start : Nat
  /-- command-side step that failed, with its package rank -/
  failed : Option (Nat × Nat)
  firstFail : Nat
  lanes : Tbl LaneTrain
  caWindows : List (Nat × Nat)
  caEyeW : Nat
  csDly : Tbl Nat
  csEyeW : Tbl Nat
  vrefCa : Tbl Nat
  vrefCs : Tbl Nat
  /-- the DRAM holds no data, so nothing is saved (R216) -/
  noSave : Bool
  deriving DecidableEq, Repr

structure DdrState where
  /-- ALERT_n is low -/
  alertLow : Bool
  /-- an event that came in self-refresh is handled at its exit (R201) -/
  alertOwed : Bool
  /-- package ranks whose DRAM checks command parity (R198), and that run in 2N mode (R196) -/
  parityOn : Nat
  twoN : Nat
  /-- ALERT events of the running chain, and when the latest replay ended (R200) -/
  chain : Nat
  replayEnd : Nat
  /-- the last 256 commands (R199) -/
  history : List HistCmd
  alertAt : Nat
  train : Option TrainRun
  deriving DecidableEq, Repr

/-! ## Error correction (10_ecc_repair.md) -/

structure Suspect where
  lane : Nat
  pr : Nat
  ha : Nat
  syms : List Nat
  /-- hits of the confirmation reads decoded so far: number of the read and whether it hit -/
  hits : List (Nat × Bool)
  /-- reads held until the decision: their data, and the symbols and residue that the erasure decode finds (R255) -/
  held : List (Req64 × List Nat)
  requester : Nat
  deriving DecidableEq, Repr

/-- A repair candidate: a die, a bank and a row (R259). -/
structure Candidate where
  lr : Nat
  lane : Nat
  bg : Nat
  ba : Nat
  row : Nat
  /-- an ALERT has ended one try (R261) -/
  retried : Bool
  deriving DecidableEq, Repr

/-- A row repair under way (R260): its candidate; requests older than `upto` are not held; the phase: 0 the rank's writes issue,
1 its owed refreshes, 2 the row is read, 3 the die is programmed, 4 the row is written back, 5 it is read back, 6 over. -/
structure RepairRun where
  k : Candidate
  upto : Nat
  phase : Nat
  /-- bursts of the phase still to be done -/
  left : Nat
  /-- the save area: data and poison by column -/
  save : Tbl (Nat × Bool)
  /-- the read-back has found no corrected symbol in the die's package -/
  clean : Bool
  /-- an ALERT struck phase 3 (R261) -/
  alerted : Bool
  deriving DecidableEq, Repr

structure EccState where
  suspect : Option Suspect
  /-- outcomes of the suspects of the interruption that runs on: EVENT code and suspect -/
  outcomes : List (Nat × Suspect)
  /-- scrub reads of the running row still to decode, its row number, corrected bursts by package -/
  scrubLeft : Nat
  scrubRow : Nat
  scrubCe : Tbl Nat
  /-- scrub rows due and not begun, and when the pass began -/
  behind : Nat
  passStart : Nat
  candidates : List Candidate
  repair : Option RepairRun
  /-- ticks of the CE records of the last second (R265) -/
  ceTicks : List Nat
  deriving DecidableEq, Repr

/-! ## Fantail and the calibration store (09_fantail_calibration.md) -/

/-- A nibble lane of a package rank. In-service fields by number: 0 RECEN, 1 RD_DQS, 2 to 5 RD_BIT, 6 RD_VREF, 7 WR_DQS,
8 WR_DQ, 9 to 12 WR_BIT. -/
structure FtLane where
  state : Nat
  n : Nat
  e : Nat
  l : Nat
  tr : Nat
  ones : Nat
  bursts : Nat
  /-- a step of RD_DQS took effect while the window was open (R227) -/
  moved : Bool
  /-- a live burst has counted in the window (R225) -/
  live : Bool
  ofs : Int
  lastE : Nat
  lastL : Nat
  unqual : Nat
  windows : Nat
  /-- RD_EYE_W of the latest set -/
  eyeW : Nat
  wrEyeW : Nat
  applied : Tbl Nat
  /-- the values in force since the latest load of the package rank's delay set, and the positions of the EARLY and LATE
  samplers loaded with it (R203, R219) -/
  loaded : Tbl Nat
  early : Int
  late : Int
  target : Tbl Nat
  /-- set values in force -/
  setv : Tbl Nat
  /-- ticks of the steps of the last 1 ms, by field -/
  steps : Tbl (List Nat)
  wrVref : Nat
  tap1 : Nat
  tap2 : Nat
  deriving DecidableEq, Repr

/-- A calibration set (R232, R241): entry header fields, CA record and 20 lane records. -/
structure CalSet where
  source : Nat
  speed : Nat
  temp : Int
  timeNs : Nat
  ca : Nat
  lanes : List Nat
  deriving DecidableEq, Repr

/-- A capture (R235). -/
structure CaptureRun where
  pr : Nat
  /-- T recorded at step 2 -/
  temp : Int
  /-- requests of the package rank older than this are not held (R236 step 1) -/
  upto : Nat
  /-- WR_DQ and WR_EYE_W found so far, by 10·pr + k -/
  found : Tbl (Nat × Nat)
  /-- read-side values taken at step 2, by 10·pr + k, and the WR_DQ set values before the sweep -/
  read : Tbl (Tbl Nat)
  before : Tbl Nat
  deriving DecidableEq, Repr

structure FtState where
  lanes : Tbl FtLane
  capture : Option CaptureRun
  /-- sets by band -/
  sets : Tbl CalSet
  /-- a capture is requested and has no credit yet -/
  wanted : Bool
  deriving DecidableEq, Repr

/-- What a ledger slot holds (R240): the header, and the LEDGER objects or the sets of a half by 5·(sc mod 16) + band. The
objects' record carries the same header with HALF 255. DESIGN CHOICE, safe (log entry 84). -/
structure LedgerSlot where
  seq : Nat
  crc : Nat
  magic : Nat
  format : Nat
  half : Nat
  timeNs : Nat
  objs : Tbl Nat
  sets : Tbl CalSet
  /-- bits that the flash holds otherwise than programmed: byte and mask -/
  flaw : List (Nat × Byte)
  deriving DecidableEq, Repr

/-- A commit that runs: its target slot (0 A, 1 B), its step of R237 (2 erase, 3 program, 4 read back, 5 SEQ), whether it
has started again, and what the slot will hold. -/
structure LedgerCommit where
  slot : Nat
  step : Nat
  again : Bool
  content : LedgerSlot
  deriving DecidableEq, Repr

structure LedgerState where
  a : LedgerSlot
  b : LedgerSlot
  run : Option LedgerCommit
  /-- changes wait for the next commit -/
  dirty : Bool
  /-- hub tick of the latest commit's begin -/
  last : Option Nat
  deriving DecidableEq, Repr

/-- A monitor channel (R230, R231). -/
structure MonChannel where
  /-- a calibration window runs -/
  window : Bool
  attempts : Nat
  offset : Int
  gain : Int
  /-- hub tick at which the trim in force was made -/
  trimAt : Nat
  /-- hub tick of the latest reading -/
  readAt : Nat
  deriving DecidableEq, Repr

/-- A start under way (R410, R411). -/
structure StartRun where
  /-- 0 from OFF, 2 from SLEEP, 3 from SAFE -/
  origin : Nat
  /-- hub tick of its begin -/
  begun : Nat
  /-- subchannels still to leave self-refresh, to restore and to train, as masks -/
  exits : Nat
  restores : Nat
  trains : Nat
  /-- a subchannel was trained cold -/
  cold : Bool
  deriving DecidableEq, Repr

/-! ## The whole -/

/-- Everything but DRAM, fuses, the lockout latch and the queue. -/
structure Core where
  /-- TCLK ticks of 2 ns since reset: the base of the model's intervals -/
  tick : Nat
  /-- hub time, in units of 2^-32 ns (R22), and whether it runs -/
  hubTime : Nat
  timeRuns : Bool
  objs : Tbl Nat
  /-- how many free values have been drawn (the model's own counter, no state of the hub; DESIGN CHOICE, log entry 7) -/
  drawn : Nat
  out : List Out
  req : List Req
  fc : FcState
  sluice : SluiceState
  mc : Tbl McState
  hr : Tbl HrPortState
  ddr : Tbl DdrState
  ecc : Tbl EccState
  /-- number of error-log records since OFF (R264) -/
  eccSeq : Nat
  ft : Tbl FtState
  /-- ledger records: 0 East calibration, 1 West calibration, 2 LEDGER objects -/
  ledger : Tbl LedgerState
  mon : Tbl MonChannel
  start : Option StartRun
  streams : Tbl StreamState
  rings : Tbl RingState
  wins : Tbl WinState
  /-- freezes so far -/
  freezes : Nat
  /-- CAP grants are withheld (R96) -/
  throttled : Bool
  /-- elastic fill was at or above HIGH_WATER when it last changed (R96) -/
  overHigh : Bool
  ctxs : Tbl CtxState
  cache : List CacheLine
  /-- updates applied in the last 1 ms: hub tick and count -/
  updLog : List (Nat × Nat)
  jobs : Tbl JobState
  /-- deferred frees by region: leases whose frame has still to end in bits [15:0], leases that held the region in bits
  [31:16] (R162) -/
  freeing : Tbl Nat
  /-- values that computed results show while READY is 0, by object -/
  shown : Tbl Nat
  sessions : Tbl Session
  /-- checkpoints that wait for their signature: job and bytes 0 to 223, CP_SEQ still 0 (R350) -/
  checkpoints : List (Nat × Nat)
  /-- failed commits of the objects record while a reservation waits for it (R347) -/
  chainFails : Nat
  /-- steps of the delay lines' trim DACs of each half, from where its loop began, and one more than the tick of the latest
  (R229) -/
  dll : Tbl (Int × Nat)
  /-- subchannels whose self-refresh exit is demanded, in order, and the ticks of the latest begins (R186) -/
  srQueue : List Nat
  srBegins : List Nat
  halves : Tbl HalfState
  /-- bytes of the two image slots, and which one is open for writing (R344) -/
  images : Tbl (List Byte)
  imageOpen : Option Nat
  /-- SPILL slots of 512 bytes; erased ones are unlisted (R352) -/
  spill : Tbl Nat
  flash : FlashPart
  tap : TapState
  mg : MgState
  seq : SeqState
  sail : SailState
  time : TimeState
  decisions : List Decision
  deriving DecidableEq, Repr

structure State where
  core : Core
  mem : Memory
  fuses : Fuses
  /-- the lockout latch of the always-on domain (R328) -/
  latch : Bool
  /-- commands that wait, first in, first out -/
  pending : List Instr
  deriving DecidableEq, Repr

/-! ## Reset -/

def TimeState.init : TimeState :=
  { f := 0, good := 0, last := none, stratum := 255, exchange := none, dreqNum := 0, masters := [], sync := none,
    ptpClose := false }

def SailState.init : SailState :=
  { ports := [], hubs := [], epochs := [], latched := none, epochNum := 0, snap := none }

/-- The sequencer as the always-on domain leaves reset at a hub tick (R285, R287, R291). The levels at the input pins are
what they are. -/
def SeqState.init (tick : Nat) (standing upIn dnIn : Bool) : SeqState :=
  { aoUp := true, aoTick := tick, phase := .rest, table := [], up := [], todo := [], offReq := false, standing := standing,
    dwellOver := false, upIn := upIn, dnIn := dnIn, upOut := false, dnOut := false, noCascade := false, orderly := false,
    first := none, failed := false, pmbFails := [] }

def FcState.init : FcState :=
  { pairs := [], injecting := [], latched := [], windows := [], nextWindow := 0, running := false, held := [],
    fallback := false, seq := 0, errN := true, safeN := false, tested := 0 }

/-- The hub in state OFF, every object at its default (R12, R291). DESIGN CHOICE, unsafe (log entry 2). -/
def Core.init : Core :=
  { tick := 0, hubTime := 0, timeRuns := false, objs := [], drawn := 0, out := [], req := [], fc := FcState.init,
    sluice := { held := [], queue := [] }, mc := [], hr := [], ddr := [], ecc := [], eccSeq := 0, ft := [], ledger := [],
    mon := [], start := none, streams := [], rings := [], wins := [], freezes := 0, throttled := false, overHigh := false, ctxs := [],
    cache := [], updLog := [], jobs := [], freeing := [], shown := [], sessions := [], checkpoints := [], chainFails := 0, dll := [], srQueue := [], srBegins := [],
    halves := [], images := [], imageOpen := none, spill := [], flash := { bytes := 2 ^ 26, fit := true },
    tap := { mode := 1, instr := .idcode }, mg := { mode := 0, v4 := 0, v6 := 0, pending := false },
    seq := SeqState.init 0 false false false, sail := SailState.init, time := TimeState.init, decisions := [] }

/-- DRAM that nothing has powered yet: every burst undefined. DESIGN CHOICE (log entry 4). -/
def Memory.init : Memory :=
  { cells := [], marks := [], base := (List.range 32).map fun n => (n, Base.free n), zeroed := [], epoch := 32 }

/-- The machine right after reset: the always-on domain has left reset and the sequencer is in OFF (R291, R406).
DESIGN CHOICE, unsafe, where the spec gives no value (log entries 2 and 3). -/
def State.reset : State :=
  { core := Core.init
    mem := Memory.init
    fuses := { boot := ⟨0, 0, 0⟩, hashes := [], revoke := ⟨0, 0, 0⟩, floor := ⟨0, 0, 0⟩, lock := ⟨0, 0, 0⟩ }
    latch := false
    pending := [] }

end Sys2Proof.Machine
end

