-- ==== Sys2Proof/Machine/Ops.lean ====
section
/-! DEFINITION. The named operations over registers and memory. -/

namespace Sys2Proof.Machine

/-! ## Updates of one field -/

def Core.withDecisions (c : Core) (v : List Decision) : Core := { c with decisions := v }
def Core.withDll (c : Core) (v : Tbl (Int × Nat)) : Core := { c with dll := v }
def Core.withFc (c : Core) (v : FcState) : Core := { c with fc := v }
def Core.withSeq (c : Core) (v : SeqState) : Core := { c with seq := v }
def Core.withStart (c : Core) (v : Option StartRun) : Core := { c with start := v }
def Core.withEccSeq (c : Core) (v : Nat) : Core := { c with eccSeq := v }
def Core.withOut (c : Core) (v : List Out) : Core := { c with out := v }
def Core.withReq (c : Core) (v : List Req) : Core := { c with req := v }
def Core.withCheckpoints (c : Core) (v : List (Nat × Nat)) : Core := { c with checkpoints := v }
def Core.withFreeing (c : Core) (v : Tbl Nat) : Core := { c with freeing := v }
def Core.withChainFails (c : Core) (v : Nat) : Core := { c with chainFails := v }
def Core.withObjs (c : Core) (v : Tbl Nat) : Core := { c with objs := v }
def Core.withThrottled (c : Core) (v : Bool) : Core := { c with throttled := v }
def Core.withOverHigh (c : Core) (v : Bool) : Core := { c with overHigh := v }
def Core.withCache (c : Core) (v : List CacheLine) : Core := { c with cache := v }
def Core.withUpdLog (c : Core) (v : List (Nat × Nat)) : Core := { c with updLog := v }
def Core.withMg (c : Core) (v : MgState) : Core := { c with mg := v }
def Core.withSail (c : Core) (v : SailState) : Core := { c with sail := v }
def Core.withImages (c : Core) (v : Tbl (List Byte)) : Core := { c with images := v }
def Core.withImageOpen (c : Core) (v : Option Nat) : Core := { c with imageOpen := v }
def Core.withTap (c : Core) (v : TapState) : Core := { c with tap := v }
def Core.withSluice (c : Core) (v : SluiceState) : Core := { c with sluice := v }
def Core.withTime (c : Core) (v : TimeState) : Core := { c with time := v }
def Core.withSpill (c : Core) (v : Tbl Nat) : Core := { c with spill := v }
def Core.withShown (c : Core) (v : Tbl Nat) : Core := { c with shown := v }
def Core.withFreezes (c : Core) (v : Nat) : Core := { c with freezes := v }
def Core.withWins (c : Core) (v : Tbl WinState) : Core := { c with wins := v }
def Core.withDrawn (c : Core) (v : Nat) : Core := { c with drawn := v }

/-- Hub time starts at 0 and runs (R22). -/
def Core.startTime (c : Core) : Core := { c with hubTime := 0, timeRuns := true }

/-! ## Objects -/

/-- The value an object holds; an unlisted object holds its default (R12). DEDUCED, unsafe (log entry 11). -/
def Core.get (c : Core) (k : Nat) : Nat := Tbl.get defaultOf c.objs k

/-- Write an object. -/
def Core.put (c : Core) (k v : Nat) : Core := { c with objs := Tbl.set defaultOf c.objs k v }

/-- Write an object when a condition holds. -/
def Core.putIf (c : Core) (b : Bool) (k v : Nat) : Core := if b then c.put k v else c

/-- Add to a counter of width w, which saturates at its maximum. DEDUCED, unsafe (log entry 12). -/
def Core.add (c : Core) (k w n : Nat) : Core := c.put k (sat w (c.get k + n))

/-- Add one to a 32-bit counter. DEDUCED, unsafe (log entry 12). -/
def Core.inc (c : Core) (k : Nat) : Core := c.add k 32 1

/-- Add one to a 64-bit counter. DEDUCED, unsafe (log entry 12). -/
def Core.inc64 (c : Core) (k : Nat) : Core := c.add k 64 1

/-- Set one flag of a flag word (R10). -/
def Core.flag (c : Core) (k n : Nat) : Core := c.put k (setBitTo n true (c.get k))

/-- Set or clear one bit of an object. -/
def Core.putBit (c : Core) (k n : Nat) (b : Bool) : Core := c.put k (setBitTo n b (c.get k))

/-- A byte of an OCTETS object of n bytes; byte 0 is the most significant (R8). -/
def Core.byteOf (c : Core) (k n i : Nat) : Nat := c.get k / 256 ^ (n - 1 - i) % 256

/-- Write a byte of an OCTETS object of n bytes. -/
def Core.putByte (c : Core) (k n i v : Nat) : Core :=
  c.put k (setField (8 * (n - 1 - i) + 7) (8 * (n - 1 - i)) (c.get k) v)

/-- One bit of an object. -/
def Core.bitOf (c : Core) (k n : Nat) : Bool := (c.get k).testBit n

/-- Does a Boolean object hold 1? -/
def Core.isSet (c : Core) (k : Nat) : Bool := c.get k = 1

/-- The value of an I32 object. DEDUCED, unsafe (log entry 11). -/
def Core.getInt (c : Core) (k : Nat) : Int := toSigned 32 (c.get k)

/-- Send something. -/
def Core.emit (c : Core) (o : Out) : Core := { c with out := c.out ++ [o] }

/-- Ask another block at the end of the command. -/
def Core.ask (c : Core) (r : Req) : Core := { c with req := c.req ++ [r] }

/-- Draw a free value (Config.freeNat) below a bound. DESIGN CHOICE (log entry 7). -/
def Core.draw (c : Core) (bound : Nat) : Nat × Core :=
  (Config.freeNat c.drawn % bound, { c with drawn := c.drawn + 1 })

/-- Nanoseconds since reset on the model's own clock. -/
def Core.ns (c : Core) : Nat := 2 * c.tick

/-- Bits [95:32] of hub time (R325). -/
def Core.timeNs (c : Core) : Nat := c.hubTime / 2 ^ 32

/-- TIME_VALID (R22). -/
def Core.timeValid (c : Core) : Bool := c.isSet Obj.Time.TIME_VALID

/-- A TIME96 result computed exactly and bounded (R449): value and whether it keeps its mark. -/
def boundTime (t : Int) : Nat × Bool :=
  if t < 0 then (0, false) else if t < 2 ^ 96 then (t.toNat, true) else (2 ^ 96 - 1, false)

/-! The counter of checkpoints and its reservation in the ledger (R350) are values of the hub that no object shows; they
are held with the objects under keys above the dictionary. -/
abbrev Hid.CP_NEXT : Nat := 0x1000001
abbrev Hid.CP_RESERVE : Nat := 0x1000002
/-- The speed bin that the latest start took, 0 before one (R218). -/
abbrev Hid.SPEED : Nat := 0x1000003
/-- Bit l: PERIOD_NEXT or TOL_NEXT was written to ACTIVE lease l since its last FRAME_MARK (R160). -/
abbrev Hid.TIMED : Nat := 0x1000004

/-- The speed bin in force: SPEED_BIN as it was at the latest start (R218). -/
def Core.speedNow (c : Core) : Nat :=
  let v := c.get Hid.SPEED
  if v = 0 then c.get Obj.Phy.SPEED_BIN else v

/-! ## Device state (R406) -/

abbrev Dv.off : Nat := 0
abbrev Dv.ramp : Nat := 1
abbrev Dv.selftest : Nat := 2
abbrev Dv.train : Nat := 3
abbrev Dv.restore : Nat := 4
abbrev Dv.idle : Nat := 5
abbrev Dv.service : Nat := 6
abbrev Dv.degraded : Nat := 7
abbrev Dv.sleep : Nat := 8
abbrev Dv.descent : Nat := 9
abbrev Dv.safe : Nat := 10
abbrev Dv.lockout : Nat := 11

/-- The device state. -/
def Core.dev (c : Core) : Nat := c.get Obj.Dev.DEVICE_STATE

/-- Is the device in IDLE or DEGRADED? -/
def Core.inService (c : Core) : Bool := c.dev = Dv.idle || c.dev = Dv.degraded

/-- Are Headrace READ and WRITE served (R406, R407)? -/
def Core.dataServed (c : Core) : Bool := c.inService || c.dev = Dv.service

/-- Is the sequencer UP? -/
def Core.seqUp (c : Core) : Bool := c.get 0x400001 = 2

/-! ## Tables of state -/

def HrLaneState.init : HrLaneState :=
  { txTrained := false, trained := false, locked := false, good := 0, bad := 0, fcoBad := 0, phase := 0, part := none,
    uncorr := [], lost := false, used := false, count := 0, slot := 0 }

def HrPortState.init : HrPortState :=
  { ups := 0, lanes := [], front := 0, seen := [], inbox := [], txSeq := 0, line := [], txLeft := 0, carry := [], wantTx := 0, farRx := 0, creditSeen := false, grant := [], recv := [], freed := [], cum := [], sent := [],
    txq := [], readTxns := [], writeTxns := [], partialWrite := none, held := [], turn := 0 }

def McState.init : McState :=
  { wait := [], stalled := [], reads := [], writes := [], flight := [], own := [], nextId := 0, dirWrite := false, run := 0, rr := 0, rows := [],
    streak := [], fresh := [], debt := [], hot := 0, oneX := [], excess := [], flush := [], mrrDue := 0, mrrOut := 0,
    wakeDue := 0, pdBack := 0, shadow := 0, pattern := 0, srEntering := false, srAt := 0, srWhy := 0, srExiting := false, held := false, holdOver := false, kept := [], inReset := true,
    stopped := false, offAfter := false }

def DdrState.init : DdrState :=
  { alertLow := false, alertOwed := false, parityOn := 0, twoN := 0, chain := 0, replayEnd := 0, history := [], alertAt := 0, train := none }

def EccState.init : EccState :=
  { suspect := none, outcomes := [], scrubLeft := 0, scrubRow := 0, scrubCe := [], behind := 0,
    passStart := 0, candidates := [], repair := none, ceTicks := [] }

def LaneTrain.init : LaneTrain :=
  { failed := false, deskewLimit := false, vrefEdge := false, wlAmbig := false, gateAmbig := false, rdVref := 0,
    wrVref := 0, rdEyeW := 0, rdEyeH := 0, wrEyeW := 0, wrEyeH := 0, tap1 := 0, tap2 := 0, recen := 0, rdDqs := 0,
    wrDqs := 0, wrDq := 0, rdBit := 0, wrBit := 0, corrected := 0, badBlock := false, done := false }

def FtLane.init : FtLane :=
  { state := 0, n := 0, e := 0, l := 0, tr := 0, ones := 0, bursts := 0, moved := false, live := false, ofs := 0, lastE := 0,
    lastL := 0, unqual := 0, windows := 0, eyeW := 0, wrEyeW := 0, applied := [], loaded := [], early := 0, late := 0, target := [], setv := [], steps := [],
    wrVref := 0, tap1 := 0, tap2 := 0 }

def FtState.init : FtState := { lanes := [], capture := none, sets := [], wanted := false }

/-- An entry whose VALID bit is 0. -/
def CalSet.none : CalSet := { source := 0, speed := 0, temp := 0, timeNs := 0, ca := 0, lanes := [] }

/-- An erased slot: every byte reads 0xFF (R237). -/
def LedgerSlot.init : LedgerSlot :=
  { seq := 0xFFFFFFFF, crc := 0xFFFFFFFF, magic := 0xFFFF, format := 0xFF, half := 0xFF, timeNs := 0xFFFFFFFFFFFFFFFF,
    objs := [], sets := [], flaw := [] }

def LedgerState.init : LedgerState :=
  { a := LedgerSlot.init, b := LedgerSlot.init, run := none, dirty := false, last := none }

def MonChannel.init : MonChannel :=
  { window := false, attempts := 0, offset := 0, gain := 0, trimAt := 0, readAt := 0 }

def StreamState.init : StreamState := { blocks := [], waiting := [], bases := [], rate := 1 }

def RingState.init : RingState := { map := [], spans := [], newest := none, blocked := none, sps := 0, prev := 0 }

def WinState.init : WinState := { members := [], order := 0, detector := 0, level := 0 }

def CtxState.init : CtxState :=
  { frame := none, closing := [], row := 0, samples := [], released := 0, closeNow := false, gen := 0, closed := [],
    newest := none, applied := [] }

def JobState.init : JobState :=
  { plan := [], members := [], regions := [], ctx := 0, slot := 0, summary := 0, stream := 0, nrows := 0, region := 0,
    slotAt := 0, run := 0, asked := false, got := [], winFlags := 0, trigger := 0, next := 0, complete := 0, formed := [], pos := 0, flights := [], cancelling := false,
    sentLog := [], prevTag := 0, digests := [], digestBytes := 0, lastKey := 0, lastTag := 0, started := 0, cpGen := 0,
    cpReady := false }

def HalfState.init : HalfState :=
  { svn := 0, ilevel := 0, minPeer := 0, before := 0, target := 0, running := false, alive := false, onTime := true, release := false,
    claim := false }

def Session.closed : Session :=
  { isOpen := false, secure := false, addr := 0, port := 0, nc := 0, nh := 0, ks := 0, fails := 0, begun := false, top := 0,
    replies := [], snap := none, part := none, subscribed := false, noteSeq := 1, notes := [] }

/-- A table whose unlisted entries are 0. -/
def Tbl.num (t : Tbl Nat) (k : Nat) : Nat := Tbl.get (fun _ => 0) t k

def Tbl.setNum (t : Tbl Nat) (k v : Nat) : Tbl Nat := Tbl.set (fun _ => 0) t k v

def Core.mcOf (c : Core) (n : Nat) : McState := Tbl.get (fun _ => McState.init) c.mc n

def Core.setMc (c : Core) (n : Nat) (m : McState) : Core := { c with mc := Tbl.set (fun _ => McState.init) c.mc n m }

def Core.updMc (c : Core) (n : Nat) (f : McState → McState) : Core := c.setMc n (f (c.mcOf n))

def Core.ddrOf (c : Core) (n : Nat) : DdrState := Tbl.get (fun _ => DdrState.init) c.ddr n

def Core.updDdr (c : Core) (n : Nat) (f : DdrState → DdrState) : Core :=
  { c with ddr := Tbl.upd (fun _ => DdrState.init) c.ddr n f }

def Core.eccOf (c : Core) (n : Nat) : EccState := Tbl.get (fun _ => EccState.init) c.ecc n

def Core.updEcc (c : Core) (n : Nat) (f : EccState → EccState) : Core :=
  { c with ecc := Tbl.upd (fun _ => EccState.init) c.ecc n f }

def Core.ftOf (c : Core) (n : Nat) : FtState := Tbl.get (fun _ => FtState.init) c.ft n

def Core.updFt (c : Core) (n : Nat) (f : FtState → FtState) : Core :=
  { c with ft := Tbl.upd (fun _ => FtState.init) c.ft n f }

/-- The lane Nk of PRp of a subchannel, as number 10·p + k. -/
def Core.laneOf (c : Core) (n i : Nat) : FtLane := Tbl.get (fun _ => FtLane.init) (c.ftOf n).lanes i

def Core.updLane (c : Core) (n i : Nat) (f : FtLane → FtLane) : Core :=
  c.updFt n fun t => { t with lanes := Tbl.upd (fun _ => FtLane.init) t.lanes i f }

def Core.ledgerOf (c : Core) (r : Nat) : LedgerState := Tbl.get (fun _ => LedgerState.init) c.ledger r

def Core.updLedger (c : Core) (r : Nat) (f : LedgerState → LedgerState) : Core :=
  { c with ledger := Tbl.upd (fun _ => LedgerState.init) c.ledger r f }

/-- A LEDGER object changed: a commit of the objects record is due within 100 ms (R12, R238). -/
def Core.touch (c : Core) : Core := c.updLedger 2 fun l => { l with dirty := true }

def Core.monOf (c : Core) (ch : Nat) : MonChannel := Tbl.get (fun _ => MonChannel.init) c.mon ch

def Core.updMon (c : Core) (ch : Nat) (f : MonChannel → MonChannel) : Core :=
  { c with mon := Tbl.upd (fun _ => MonChannel.init) c.mon ch f }

def Core.portOf (c : Core) (p : Nat) : HrPortState := Tbl.get (fun _ => HrPortState.init) c.hr p

def Core.setPort (c : Core) (p : Nat) (s : HrPortState) : Core :=
  { c with hr := Tbl.set (fun _ => HrPortState.init) c.hr p s }

def Core.updPort (c : Core) (p : Nat) (f : HrPortState → HrPortState) : Core := c.setPort p (f (c.portOf p))

def Core.streamOf (c : Core) (i : Nat) : StreamState := Tbl.get (fun _ => StreamState.init) c.streams i

def Core.updStream (c : Core) (i : Nat) (f : StreamState → StreamState) : Core :=
  { c with streams := Tbl.upd (fun _ => StreamState.init) c.streams i f }

def Core.ringOf (c : Core) (i : Nat) : RingState := Tbl.get (fun _ => RingState.init) c.rings i

def Core.updRing (c : Core) (i : Nat) (f : RingState → RingState) : Core :=
  { c with rings := Tbl.upd (fun _ => RingState.init) c.rings i f }

def Core.winOf (c : Core) (i : Nat) : WinState := Tbl.get (fun _ => WinState.init) c.wins i

def Core.updWin (c : Core) (i : Nat) (f : WinState → WinState) : Core :=
  { c with wins := Tbl.upd (fun _ => WinState.init) c.wins i f }

def Core.ctxOf (c : Core) (i : Nat) : CtxState := Tbl.get (fun _ => CtxState.init) c.ctxs i

def Core.updCtx (c : Core) (i : Nat) (f : CtxState → CtxState) : Core :=
  { c with ctxs := Tbl.upd (fun _ => CtxState.init) c.ctxs i f }

def Core.jobOf (c : Core) (i : Nat) : JobState := Tbl.get (fun _ => JobState.init) c.jobs i

def Core.updJob (c : Core) (i : Nat) (f : JobState → JobState) : Core :=
  { c with jobs := Tbl.upd (fun _ => JobState.init) c.jobs i f }

def Core.halfSt (c : Core) (h : Nat) : HalfState := Tbl.get (fun _ => HalfState.init) c.halves h

def Core.updHalf (c : Core) (h : Nat) (f : HalfState → HalfState) : Core :=
  { c with halves := Tbl.upd (fun _ => HalfState.init) c.halves h f }

def Core.sessionOf (c : Core) (i : Nat) : Session := Tbl.get (fun _ => Session.closed) c.sessions i

def Core.updSession (c : Core) (i : Nat) (f : Session → Session) : Core :=
  { c with sessions := Tbl.upd (fun _ => Session.closed) c.sessions i f }

def SailPortState.init : SailPortState :=
  { txSeq := 0, rxNext := 0, queue := [], unack := [], farRoot := false, farDepth := 0, hello := false, subtree := 0 }

def Core.sailOf (c : Core) (k : Nat) : SailPortState := Tbl.get (fun _ => SailPortState.init) c.sail.ports k

def Core.updSail (c : Core) (k : Nat) (f : SailPortState → SailPortState) : Core :=
  { c with sail := { c.sail with ports := Tbl.upd (fun _ => SailPortState.init) c.sail.ports k f } }

/-- Apply a function for every number below a bound, in rising order. -/
@[irreducible] def Core.each (c : Core) (n : Nat) (f : Core → Nat → Core) : Core := (List.range n).foldl f c

/-- The half of a subchannel: 0 East, 1 West (R17). -/
def halfOf (sc : Nat) : Nat := sc / 16

/-! ## Hub addresses (R165) -/

/-- The fields of a hub address under a map. -/
structure DramAddr where
  sc : Nat
  lr : Nat
  bg : Nat
  ba : Nat
  row : Nat
  col : Nat
  deriving DecidableEq, Repr

/-- The address map (R165): STRIDE 0, BANKSPREAD 1, ROWSTREAM 2, PARTITION 3. -/
def mapHa (map ha : Nat) : DramAddr :=
  let row := field 36 20 ha
  match map with
  | 0 => { sc := field 4 0 ha, col := field 11 5 ha, bg := field 16 14 ha, ba := field 13 12 ha,
           lr := field 19 17 ha, row := row }
  | 1 => { sc := field 4 0 ha, col := field 14 8 ha, bg := field 7 5 ha ^^^ field 2 0 row,
           ba := field 16 15 ha ^^^ field 4 3 row, lr := field 19 17 ha, row := row }
  | 2 => { sc := field 6 2 ha, col := field 14 10 ha * 4 + field 1 0 ha, bg := field 9 7 ha, ba := field 16 15 ha,
           lr := field 19 17 ha, row := row }
  | _ => { sc := field 36 32 ha, col := field 9 3 ha, bg := field 2 0 ha, ba := field 11 10 ha,
           lr := field 14 12 ha, row := field 31 15 ha }

/-- The inverse of the map: the hub address of a burst (R165: each map is one to one). -/
def unmapHa (map : Nat) (d : DramAddr) : Nat :=
  match map with
  | 0 => d.row * 2 ^ 20 + d.lr * 2 ^ 17 + d.bg * 2 ^ 14 + d.ba * 2 ^ 12 + d.col * 2 ^ 5 + d.sc
  | 1 => d.row * 2 ^ 20 + d.lr * 2 ^ 17 + (d.ba ^^^ field 4 3 d.row) * 2 ^ 15 + d.col * 2 ^ 8
          + (d.bg ^^^ field 2 0 d.row) * 2 ^ 5 + d.sc
  | 2 => d.row * 2 ^ 20 + d.lr * 2 ^ 17 + d.ba * 2 ^ 15 + (d.col / 4) * 2 ^ 10 + d.bg * 2 ^ 7 + d.sc * 4 + d.col % 4
  | _ => d.sc * 2 ^ 32 + d.row * 2 ^ 15 + d.lr * 2 ^ 12 + d.ba * 2 ^ 10 + d.col * 2 ^ 3 + d.bg

/-- The physical burst number of a DRAM address. -/
def DramAddr.pa (d : DramAddr) : Nat :=
  d.sc * 2 ^ 32 + d.lr * 2 ^ 29 + d.bg * 2 ^ 26 + d.ba * 2 ^ 24 + d.row * 2 ^ 7 + d.col

/-- The bank number of R174: BG = k mod 8, BA = (k / 8) mod 4, LR = k / 32. -/
def DramAddr.bank (d : DramAddr) : Nat := d.lr * 32 + d.ba * 8 + d.bg

/-- The DRAM address of a physical burst number. -/
def ofPa (pa : Nat) : DramAddr :=
  { sc := pa / 2 ^ 32, lr := field 31 29 pa, bg := field 28 26 pa, ba := field 25 24 pa, row := field 23 7 pa,
    col := field 6 0 pa }

/-! ## Memory -/

/-- Does a zeroed range cover a burst? -/
def ZeroSpan.covers (z : ZeroSpan) (pa : Nat) : Bool :=
  !z.lost.testBit (pa / 2 ^ 32) && (let ha := unmapHa z.map (ofPa pa); z.lo ≤ ha && ha < z.hi)

/-- Was a burst zeroed since its subchannel's content was lost? -/
def Memory.isZeroed (m : Memory) (pa : Nat) : Bool := m.zeroed.any fun z => z.covers pa

/-- The byte an unlisted address reads as. -/
def Memory.baseByte (m : Memory) (addr : Nat) : Byte :=
  if m.isZeroed (addr / 64) then 0
  else match Tbl.get (fun _ => Base.zeros) m.base (addr / 2 ^ 38) with
  | .zeros => 0
  | .filled => 0
  | .free n => Config.freeByte n addr

/-- The poison mark an unlisted burst reads as. -/
def Memory.baseMark (m : Memory) (pa : Nat) : Nat :=
  if m.isZeroed pa then 0
  else match Tbl.get (fun _ => Base.zeros) m.base (pa / 2 ^ 32) with
  | .filled => 1
  | _ => 0

/-- One byte. -/
def Memory.byte (m : Memory) (addr : Nat) : Byte := Tbl.get m.baseByte m.cells addr

/-- Write one byte. -/
def Memory.setByte (m : Memory) (addr : Nat) (b : Byte) : Memory :=
  { m with cells := Tbl.set m.baseByte m.cells addr b }

/-- Is a burst poisoned? -/
def Memory.poisoned (m : Memory) (pa : Nat) : Bool := Tbl.get m.baseMark m.marks pa = 1

/-- Set or clear the poison mark of a burst. -/
def Memory.setMark (m : Memory) (pa : Nat) (b : Bool) : Memory :=
  { m with marks := Tbl.set m.baseMark m.marks pa (ofBool b) }

/-- The 64 bytes of a burst as a number, byte 0 highest. -/
def Memory.burst (m : Memory) (pa : Nat) : Nat :=
  (List.range 64).foldl (fun a i => a * 256 + (m.byte (64 * pa + i)).toNat) 0

/-- Write the bytes of a list from an address upward. -/
def Memory.setBytes (m : Memory) (addr : Nat) : List Byte → Memory
  | [] => m
  | b :: t => (m.setByte addr b).setBytes (addr + 1) t

/-- Write a burst with its poison mark (R170, R247). -/
def Memory.setBurst (m : Memory) (pa data : Nat) (poison : Bool) : Memory :=
  (m.setBytes (64 * pa) (toBytes 64 data)).setMark pa poison

/-- Every burst of a subchannel takes a new base, and nothing of it stays listed. -/
def Memory.rebase (m : Memory) (sc : Nat) (b : Base) : Memory :=
  { m with
    cells := Tbl.drop m.cells fun a => a / 2 ^ 38 == sc
    marks := Tbl.drop m.marks fun a => a / 2 ^ 32 == sc
    zeroed := m.zeroed.map fun z => { z with lost := setBitTo sc true z.lost }
    base := Tbl.set (fun _ => Base.zeros) m.base sc b }

/-- The content of a subchannel becomes undefined. -/
def Memory.lose (m : Memory) (sc : Nat) : Memory :=
  { m.rebase sc (.free m.epoch) with epoch := m.epoch + 1 }

/-- The content of every subchannel becomes undefined (R166, R410). DESIGN CHOICE, unsafe (log entry 4). -/
def Memory.loseAll (m : Memory) : Memory :=
  { cells := [], marks := [], zeroed := [], base := (List.range 32).map fun n => (n, Base.free (m.epoch + n)), epoch := m.epoch + 32 }

/-- Zero the bursts of a range of hub addresses, the upper bound excluded (R83). -/
def Memory.zero (m : Memory) (map lo hi : Nat) : Memory :=
  let z : ZeroSpan := { map := map, lo := lo, hi := hi, lost := 0 }
  { m with
    cells := Tbl.drop m.cells fun a => z.covers (a / 64)
    marks := Tbl.drop m.marks fun pa => z.covers pa
    zeroed := z :: m.zeroed }

/-- The canonical form of memory: keys rising, nothing listed that an unlisted address reads as. -/
def Memory.wf (m : Memory) : Bool :=
  Tbl.wf m.baseByte m.cells && Tbl.wf m.baseMark m.marks && Tbl.wf (fun _ => Base.zeros) m.base

/-- The map in force. -/
def Core.addrMap (c : Core) : Nat := c.get Obj.Mc.ADDR_MAP

def Core.dramOf (c : Core) (ha : Nat) : DramAddr := mapHa c.addrMap ha

def Core.scOf (c : Core) (ha : Nat) : Nat := (c.dramOf ha).sc

def Core.paOf (c : Core) (ha : Nat) : Nat := (c.dramOf ha).pa

/-- STATE of a subchannel (R191). -/
def Core.scState (c : Core) (n : Nat) : Nat := c.get (Obj.Sc.STATE n)

/-- Is a subchannel OFFLINE? -/
def Core.scOffline (c : Core) (n : Nat) : Bool := c.scState n = 3

/-- Is a subchannel OFFLINE or held (R420)? -/
def Core.scOut (c : Core) (n : Nat) : Bool := c.scOffline n || (c.mcOf n).held

/-- Does any subchannel make the device DEGRADED (R408)? -/
def Core.anyOut (c : Core) : Bool := (List.range 32).any c.scOut

end Sys2Proof.Machine
end

