-- ==== Sys2Proof/Machine/Collector.lean ====
section
/-! DEFINITION. The fault collector: classification, quiet windows, pins, injection, first-error capture and the event
log (12_fault_collection.md R302 to R329). -/

namespace Sys2Proof.Machine

/-! ## Contexts (R325) -/

def ctxNone (master access : Nat) : FaultCtx :=
  { master := BitVec.ofNat 4 master, access := BitVec.ofNat 4 access, kind := 0, value := 0 }

def ctxOf (master access kind value : Nat) : FaultCtx :=
  { master := BitVec.ofNat 4 master, access := BitVec.ofNat 4 access, kind := BitVec.ofNat 3 kind,
    value := BitVec.ofNat 48 value }

/-- CTX_KIND HA. -/
def ctxHa (master access ha : Nat) : FaultCtx := ctxOf master access 1 (ha % 2 ^ 37)
/-- CTX_KIND PORT_TAG: port in [14:12], tag in [11:0]. -/
def ctxPortTag (p tag : Nat) : FaultCtx := ctxOf 1 6 2 (p * 4096 + tag % 4096)
/-- CTX_KIND RAIL. -/
def ctxRail (cc : Nat) : FaultCtx := ctxOf 10 0 3 cc
/-- CTX_KIND SENSOR. -/
def ctxSensor (n : Nat) : FaultCtx := ctxOf 0 0 4 (n % 16)
/-- CTX_KIND LANE: subchannel [9:5], package rank [4], lane [3:0]. -/
def ctxLane (master access sc pr k : Nat) : FaultCtx := ctxOf master access 5 (sc * 32 + pr * 16 + k)
/-- CTX_KIND NUMBER. -/
def ctxNumber (master access n : Nat) : FaultCtx := ctxOf master access 6 n

/-! ## Pins -/

/-- Is a key the STATUS of a source? -/
def isSourceStatus (k : Nat) : Bool := 0x490002 ≤ k && k < 0x4C0000 && k % 256 == 2

/-- In PROGRAMMED mode, outside FALLBACK (R311, R329). -/
def Core.programmed (c : Core) : Bool := c.isSet Obj.Fc.MODE && !c.fc.fallback

/-- The threshold of ERR_N (R318). -/
def Core.errThreshold (c : Core) : Nat :=
  if c.programmed then c.get Obj.Fc.ERR_SEV else c.get Obj.Fc.ERR_CLASS

/-- Is a source pending at or above the threshold (R318)? -/
def Core.anyErr (c : Core) : Bool :=
  c.objs.any fun e => isSourceStatus e.1 && bit 0 e.2 && c.errThreshold ≤ field 7 5 e.2

/-- Is the device in SAFE or LOCKOUT? -/
def Core.safeOrLock (c : Core) : Bool := c.dev = Dv.safe || c.dev = Dv.lockout

/-- The level of ERR_N (R318): high in OFF and RAMP, low at a qualifying pending source and in SAFE and LOCKOUT. -/
def Core.errLevel (c : Core) : Bool :=
  if c.safeOrLock then false
  else if c.dev = Dv.off || c.dev = Dv.ramp then true
  else !c.anyErr

/-- The level of SAFE_N (R319): low in SAFE and LOCKOUT and while the collector is not running. -/
def Core.safeLevel (c : Core) : Bool := c.fc.running && !c.safeOrLock

/-- Drive ERR_N and SAFE_N to their levels; a change leaves the hub, and PIN_STATE reads the pins back (R320, R332). -/
def Core.pins (c : Core) : Core :=
  let e := c.errLevel
  let s := c.safeLevel
  let c1 := if e = c.fc.errN then c else (c.withFc { c.fc with errN := e }).emit (.pin .errN e)
  let c2 := if s = c1.fc.safeN then c1 else (c1.withFc { c1.fc with safeN := s }).emit (.pin .safeN s)
  c2.put Obj.Fc.PIN_STATE (ofBool e + 2 * ofBool s)

/-! ## Classification (R310 to R313) -/

/-- SEVERITY of a source's CONFIG (R306). -/
def Core.severityOf (c : Core) (s : Nat) : Nat := field 2 0 (c.get (Obj.Source.CONFIG s))

/-- MASK of a source's CONFIG (R306), ignored in FALLBACK (R329). -/
def Core.maskedSrc (c : Core) (s : Nat) : Bool := c.bitOf (Obj.Source.CONFIG s) 7 && !c.fc.fallback

/-- ACTION_MAP[i]: byte i, byte 0 first (R311). -/
def actionByte (map i : Nat) : Nat := (map >>> (8 * (7 - i % 8))) % 256

/-- The CLASSIC action: LOG for CORRECTED, REACT for CONTAINED, SAFE for FATAL, LOCKOUT for an L source (R311). -/
def classicAction (s : Nat) : Nat :=
  let i := sourceInfo s
  if i.lockout then 5 else if i.cls = 2 then 4 else if i.cls = 1 then 3 else 1

/-- The severity an event carries: SEVERITY in PROGRAMMED mode, else the class (R311). -/
def Core.eventSev (c : Core) (s : Nat) : Nat := if c.programmed then c.severityOf s else (sourceInfo s).cls

/-- The action of an event (R310 to R313, R321). -/
def Core.actionOf (c : Core) (s : Nat) (m : Marks) : Nat :=
  let own :=
    if sourcePinned s then 4
    else if c.maskedSrc s then 0
    else if c.programmed then actionByte (c.get Obj.Fc.ACTION_MAP) (c.severityOf s)
    else classicAction s
  if m.injected && c.get Obj.Fc.INJ_REACT = 0 then min own 2 else own

/-! ## Records (R325) -/

/-- The 256 bits of an event record. -/
def eventRecord (seq src sev mode action : Nat) (m : Marks) (x : FaultCtx) (suppressed reaction : Nat) (valid : Bool)
    (ns : Nat) : Nat :=
  (seq % 2 ^ 32) <<< 224 + src <<< 214 + sev <<< 211 + mode <<< 210 + action <<< 207 + ofBool m.injected <<< 206
  + ofBool m.real <<< 205 + ofBool m.wire <<< 204 + ofBool m.late <<< 203 + x.master.toNat <<< 199
  + x.access.toNat <<< 195 + x.kind.toNat <<< 192 + x.value.toNat <<< 144 + sat 16 suppressed <<< 128
  + reaction <<< 124 + ofBool valid <<< 64 + ns % 2 ^ 64

/-- Where the record of event k sits (R326). -/
def logKey (k : Nat) : Nat := Obj.EventLog.LOG (k % 256 / 128) (k % 128)

/-- First-error capture (R323). -/
def Core.capture (c : Core) (r : Nat) (sev : Nat) (m : Marks) : Core :=
  if sev < c.errThreshold then c
  else if c.get Obj.Fc.FIRST_ERROR = 0 then (c.put Obj.Fc.FIRST_ERROR r).flag Obj.Fc.FLAGS 0
  else
    let c1 := c.inc Obj.Fc.FE_LATER
    if bit 206 (c.get Obj.Fc.FIRST_ERROR) && !m.injected then (c1.put Obj.Fc.FIRST_ERROR r).flag Obj.Fc.FLAGS 2 else c1

/-! ## Quiet windows (R315 to R317) -/

/-- The SC_OFFLINE scope of a subchannel (R315). -/
def scScope (n : Nat) : List Nat :=
  [Src.mcUe n, Src.mcRefLate n, Src.eccCe n, Src.ddrAlert n, Src.ftTrack n, Src.eccRepair n, Src.scOffline n]

/-- The scope of a reaction at a subchannel, port or half (R315). -/
def scopeOf (reaction i : Nat) : List Nat :=
  match reaction with
  | 1 => [Src.eccCe i, Src.ftTrack i, Src.mcRefLate i]
  | 2 => [Src.eccCe i, Src.ftTrack i, Src.mcUe i, Src.mcRefLate i]
  | 3 => [Src.hrHcrc i, Src.hrPcrc i, Src.hrCreditOvf i, Src.hrFecUncorr i]
  | 4 => scScope i
  | 5 => ((List.range 16).map fun j => scScope (16 * i + j)).flatten ++ [Src.dllUnlock i]
  | 6 => scScope i ++ [Src.ddrTrain i]
  | _ => []

/-- Open a quiet window; `opener` is the EVENT_SEQ of the event that opened it, 0 where a mask left it unnumbered or
none opened it (R316). -/
def Core.openWindow (c : Core) (reaction i opener : Nat) : Core :=
  c.withFc { c.fc with
      windows := c.fc.windows ++ [{ id := c.fc.nextWindow, reaction := reaction, scope := scopeOf reaction i,
                                    opener := opener, suppressed := 0, masked := [] }]
      nextWindow := c.fc.nextWindow + 1 }

/-- Count a suppressed event against the window that opened first among those that mask it (R316). The window keeps the latest
context of each source. -/
def suppressIn (s : Nat) (x : FaultCtx) : List QuietWindow → List QuietWindow
  | [] => []
  | w :: t => if w.scope.contains s then
      { w with suppressed := w.suppressed + 1, masked := (w.masked.filter fun e => e.1 != s) ++ [(s, x)] } :: t
     else w :: suppressIn s x t

/-- Does an open window mask an event of the source with this action (R316, R317)? -/
def Core.quiet (c : Core) (s action : Nat) : Bool :=
  (sourceInfo s).cls ≠ 2 && action < 4 && c.fc.windows.any fun w => w.scope.contains s

/-! ## Events -/

/-- The subchannel, port or half a source number belongs to. -/
def sourceIndex (s : Nat) : Nat :=
  if s = 0x005 ∨ s = 0x006 then s - 0x005
  else if 0x180 ≤ s ∧ s < 0x200 then s % 32
  else if 0x210 ≤ s ∧ s < 0x2F0 then (s - 0x210) % 32
  else if 0x040 ≤ s ∧ s < 0x068 then s % 8
  else 0

/-- What the action asks of the rest of the hub (R310, R315, R327, R328). -/
def Core.act (c : Core) (s action r : Nat) : Core :=
  let c1 := if 2 ≤ action then (c.emit .interrupt).ask (.notify c.fc.seq) else c
  let c2 :=
    if 3 ≤ action then
      match (sourceInfo s).reaction with
      | 4 => (c1.openWindow 4 (sourceIndex s) c.fc.seq).ask (.scOffline (sourceIndex s) s)
      | 5 => (c1.openWindow 5 (sourceIndex s) c.fc.seq).ask (.halfOffline (sourceIndex s) s)
      | _ => c1
    else c1
  if action = 5 then
    (((c2.put Obj.Fc.LOCKOUT_SOURCE s).put Obj.Fc.LAST_LOCKOUT r).touch).ask .lockout
  else if action = 4 then (c2.flag Obj.Fc.FLAGS 1).ask .safe
  else c2

/-- Counters and STATUS of a raised event (R305, R308, R310 action COUNT). -/
def Core.countEvent (c : Core) (s sev : Nat) (m : Marks) : Core :=
  let st := c.get (Obj.Source.STATUS s)
  let st1 := setBitTo 0 true (setField 7 5 st (max sev (field 7 5 st)))
  let st2 := if m.wire then setBitTo 3 true st1 else st1
  let st3 := if m.real then setBitTo 2 true st2 else st2
  let st4 := if m.injected then setBitTo 1 true st3 else st3
  let c1 := ((c.put (Obj.Source.STATUS s) st4).inc (Obj.Source.COUNT s)).put (Obj.Source.LAST_TIME s) c.hubTime
  let c2 := c1.inc64 Obj.Fc.EVENTS
  let c3 := if m.wire then (c2.inc Obj.Fc.WIRE_FAULTS).flag Obj.Fc.FLAGS 4 else c2
  let c4 := if m.real then c3.flag Obj.Fc.FLAGS 3 else c3
  if m.injected then c4.inc Obj.Fc.INJECTIONS else c4

/-- One event of a source, classified, counted, logged, captured and acted on (R303, R310, R314, R323, R324).
DEDUCED, unsafe (log entry 35). -/
def Core.event (c : Core) (s : Nat) (m : Marks) (x : FaultCtx) : Core :=
  let action := c.actionOf s m
  if c.quiet s action then
    let c1 := (c.inc (Obj.Source.SUPPRESSED s)).inc64 Obj.Fc.SUPPRESSED
    c1.withFc { c1.fc with windows := suppressIn s x c1.fc.windows }
  else
    let sev := c.eventSev s
    let c1 := c.countEvent s sev m
    let c4 :=
      if 1 ≤ action then
        let c2 : Core := c1.withFc { c1.fc with seq := c1.fc.seq + 1 }
        let r := eventRecord c2.fc.seq s sev (ofBool c.programmed) action m x 0 (sourceInfo s).reaction c.timeValid
          c.timeNs
        let c3 := ((c2.put (logKey c2.fc.seq) r).put Obj.Fc.LOG_HEAD c2.fc.seq).capture r sev m
        c3.act s action r
      else c1
    c4.pins

def Marks.none : Marks := { injected := false, real := false, wire := false, late := false }

/-- Pair state of a source (R302). -/
def Core.pairOf (c : Core) (s : Nat) : Nat := Tbl.num c.fc.pairs s

/-- Set the pair state, with ACTIVE of STATUS (R303, R308). -/
def Core.setPair (c : Core) (s v : Nat) : Core :=
  let c1 : Core := c.withFc { c.fc with pairs := Tbl.setNum c.fc.pairs s v }
  c1.putBit (Obj.Source.STATUS s) 4 (v ≠ 0)

/-- Does an injection drive a source's pair (R321)? -/
def Core.injected (c : Core) (s : Nat) : Bool := c.fc.injecting.any fun e => e.1 == s

/-- What the real condition drives a pair to while an injection hides it (R322). -/
def Core.setUnder (c : Core) (s v : Nat) : Core :=
  c.withFc { c.fc with injecting := c.fc.injecting.map fun e => if e.1 = s then (s, v) else e }

/-- A source detects its condition: one event unless its pair already reads FAULT. While the collector is not running
the event is held (R303); while an injection drives the pair it is latched (R322). DEDUCED, unsafe (log entry 35). -/
def Core.raise (c : Core) (s : Nat) (x : FaultCtx) : Core :=
  if (sourceInfo? s).isNone then c
  else if !c.fc.running then c.withFc { c.fc with held := c.fc.held ++ [(s, x)] }
  else if c.injected s then
    if c.fc.injecting.num s ≠ 0 || c.fc.latched.any (·.1 == s) then c
    else c.withFc { c.fc with latched := c.fc.latched ++ [(s, x)] }
  else if c.pairOf s ≠ 0 then c
  else c.event s Marks.none x

/-- A condition begins and stands: the pair goes to FAULT (R302, R303). DEDUCED, unsafe (log entry 35). -/
def Core.raiseStanding (c : Core) (s : Nat) (x : FaultCtx) : Core :=
  if (sourceInfo? s).isNone then c
  else
    let c1 := c.raise s x
    if c.injected s then c1.setUnder s 1
    else if c.fc.running then (if c.pairOf s = 0 then c1.setPair s 1 else c1)
    else c1.withFc { c1.fc with pairs := Tbl.setNum c1.fc.pairs s 1 }

/-- A standing condition ends: the pair returns to IDLE and ACTIVE clears (R303). -/
def Core.endStanding (c : Core) (s : Nat) : Core :=
  if c.injected s then c.setUnder s 0 else if c.pairOf s = 0 then c else c.setPair s 0

/-- FORCE (R321, R322): the pair goes to FAULT for 16 TCLK cycles. A pair that reads FAULT already makes no event; while
the collector is not running the pair alone changes, and no event of it is held. -/
def Core.inject (c : Core) (s : Nat) : Status × Core :=
  if !(c.isSet Obj.Fc.INJ_ENABLE) || c.injected s then (.retry, c)
  else
    let v := c.pairOf s
    let c1 : Core := c.withFc { c.fc with injecting := c.fc.injecting ++ [(s, v)] }
    (.ok, if v ≠ 0 || !c.fc.running then c1
      else (c1.event s { Marks.none with injected := true } (ctxNone 0 0)).setPair s 1)

/-- The windows that a source's local reaction opened while its event was latched take the event as their opener (R316, R322). -/
def Core.adoptWindows (c : Core) (s before : Nat) : Core :=
  let i := (sourceInfo s).reaction
  if c.fc.seq = before then c
  else c.withFc { c.fc with windows := c.fc.windows.map fun w =>
    if w.opener = 0 ∧ w.reaction = i ∧ w.scope = scopeOf i (sourceIndex s) then { w with opener := c.fc.seq } else w }

/-- The end of an injection: a latched real condition is presented with the REAL mark, and the pair follows its detector
again (R322). -/
def Core.injectionEnd (c : Core) (s : Nat) : Core :=
  if !c.injected s then c
  else
    let v := c.fc.injecting.num s
    let l := c.fc.latched.filter fun e => e.1 == s
    let c1 : Core := c.withFc { c.fc with
      injecting := c.fc.injecting.filter fun e => e.1 != s, latched := c.fc.latched.filter fun e => e.1 != s }
    (l.foldl (fun c e => (c.event s { Marks.none with real := true, wire := v == 2 } e.2).adoptWindows s c.fc.seq) c1).setPair s v

/-- Raise an event when a condition holds. -/
def Core.raiseIf (c : Core) (b : Bool) (s : Nat) (x : FaultCtx) : Core := if b then c.raise s x else c

/-- Close the quiet window `id`: the opening record takes its SUPPRESSED count in the log and in FIRST_ERROR, and sources
of the scope whose condition still stands are raised with LATE (R316, R317). -/
def Core.closeWindow (c : Core) (id : Nat) : Core :=
  match c.fc.windows.find? fun w => w.id == id with
  | none => c
  | some w =>
    let c1 : Core := c.withFc { c.fc with windows := c.fc.windows.filter fun v => v.id != id }
    let put := fun (c : Core) (k : Nat) =>
      if w.opener ≠ 0 && field 255 224 (c.get k) = w.opener % 2 ^ 32
      then c.put k (setField 143 128 (c.get k) (sat 16 w.suppressed)) else c
    let c2 := put (put c1 (logKey w.opener)) Obj.Fc.FIRST_ERROR
    w.masked.foldl (fun c e =>
      if c.pairOf e.1 ≠ 0 then c.event e.1 { Marks.none with late := true } e.2 else c) c2

/-- Every open window closes at once (R317). -/
def Core.closeAllWindows (c : Core) : Core := c.fc.windows.foldl (fun c w => c.closeWindow w.id) c

/-- Close the windows a reaction opened at a place. -/
def Core.closeReaction (c : Core) (reaction i : Nat) : Core :=
  (c.fc.windows.filter fun w => w.reaction == reaction && w.scope == scopeOf reaction i).foldl
    (fun c w => c.closeWindow w.id) c

/-- Events first sampled in one cycle are numbered in ascending source number (R303). -/
def sortHeld (x : Nat × FaultCtx) : List (Nat × FaultCtx) → List (Nat × FaultCtx)
  | [] => [x]
  | y :: t => if x.1 ≤ y.1 then x :: y :: t else y :: sortHeld x t

/-- The collector starts and raises the events held at always-on sources, in ascending number and with TIME_VALID = 0 (R303,
R412 step 3). DEDUCED, unsafe (log entry 35). -/
def Core.startCollector (c : Core) : Core :=
  if c.fc.running then c
  else
    let held := c.fc.held.foldr sortHeld []
    let c1 : Core := (c.withFc { c.fc with running := true, held := [] }).put Obj.Time.TIME_VALID 0
    ((held.foldl (fun c e =>
      let c2 := c.event e.1 Marks.none e.2
      if c2.pairOf e.1 ≠ 0 then c2.setPair e.1 (c2.pairOf e.1) else c2) c1).put Obj.Time.TIME_VALID
        (c.get Obj.Time.TIME_VALID)).pins

end Sys2Proof.Machine
end

