-- ==== Sys2Proof/Machine/Sluice.lean ====
section
/-! DEFINITION. Sluice, the power admission block: the pool, credits, immediate, queued and forced requests
(16_states_start_sluice.md R423 to R425). -/

namespace Sys2Proof.Machine

/-! Credit kinds (R424). -/
abbrev Ck.train : Nat := 1
abbrev Ck.restore : Nat := 2
abbrev Ck.fill : Nat := 3
abbrev Ck.capture : Nat := 4
abbrev Ck.insert : Nat := 5
abbrev Ck.scrub : Nat := 6
abbrev Ck.repair : Nat := 7
abbrev Ck.context : Nat := 8
abbrev Ck.drain : Nat := 9
abbrev Ck.flush : Nat := 10
abbrev Ck.srExit : Nat := 11

/-- Sum of credits. -/
def creditSum (l : List Credit) : Nat := l.foldl (fun a c => a + c.mw) 0

/-- POOL_MW = BUDGET_MW − BASE_MW − FLOOR_MW (R423). -/
def Core.pool (c : Core) : Nat := c.get Obj.Sluice.BUDGET_MW - c.get Obj.Sluice.BASE_MW - c.get Obj.Sluice.FLOOR_MW

/-- GRANTED_MW: the sum of the credits held, forced included (R423, R427). -/
def Core.granted (c : Core) : Nat := creditSum c.sluice.held

/-- FORCED_MW: forced credits held (R425). -/
def Core.forcedMw (c : Core) : Nat := creditSum (c.sluice.held.filter (·.forced))

/-- HELD_BY_KIND (R427). -/
def Core.heldByKind (c : Core) (k : Nat) : Nat := creditSum (c.sluice.held.filter fun x => x.kind == k)

/-- Does a holder hold a credit of a kind? -/
def Core.holds (c : Core) (kind owner : Nat) : Bool :=
  c.sluice.held.any fun x => x.kind == kind && x.owner == owner

/-- A grant: the credit is held, GRANTS counts it, and PEAK_GRANTED_MW follows (R425, R427). -/
def Core.grantCredit (c : Core) (x : Credit) : Core :=
  let c1 : Core := c.withSluice { c.sluice with held := c.sluice.held ++ [x] }
  (c1.inc64 Obj.Sluice.GRANTS).put Obj.Sluice.PEAK_GRANTED_MW (max (c.get Obj.Sluice.PEAK_GRANTED_MW) c1.granted)

/-- The credit of the head of the queue, 0 without one (R425). -/
def Core.headMw (c : Core) : Nat := match c.sluice.queue with | [] => 0 | x :: _ => x.mw

/-- Would an immediate request be granted (R425)? -/
def Core.admits (c : Core) (mw : Nat) : Bool := c.granted + mw + c.headMw ≤ c.pool

/-- A refused immediate request counts in REFUSALS and sets REFUSED (R425). -/
def Core.refuse (c : Core) : Core := (c.inc Obj.Sluice.REFUSALS).flag Obj.Sluice.FLAGS 0

/-- An immediate request: whether it was granted, and the state after (R425). DESIGN CHOICE, unsafe (log entry 71). -/
def Core.askNow (c : Core) (kind owner mw : Nat) : Bool × Core :=
  if c.admits mw then (true, c.grantCredit { kind := kind, owner := owner, mw := mw, forced := false })
  else (false, c.refuse)

/-- A queued request joins the queue (R425). DESIGN CHOICE, unsafe (log entry 71). -/
def Core.askQueued (c : Core) (kind owner mw : Nat) : Core :=
  c.withSluice { c.sluice with
      queue := c.sluice.queue ++ [{ kind := kind, owner := owner, mw := mw, forced := false }] }

/-- A forced grant, whatever the pool (R416, R425). DESIGN CHOICE, unsafe (log entry 71). -/
def Core.askForced (c : Core) (kind owner mw : Nat) : Core :=
  c.grantCredit { kind := kind, owner := owner, mw := mw, forced := true }

/-- Remove the first credit of a kind and holder. -/
def dropCredit (kind owner : Nat) : List Credit → List Credit
  | [] => []
  | x :: t => if x.kind = kind ∧ x.owner = owner then t else x :: dropCredit kind owner t

/-- A credit returns to Sluice (R424). -/
def Core.release (c : Core) (kind owner : Nat) : Core :=
  c.withSluice { c.sluice with held := dropCredit kind owner c.sluice.held }

/-- A waiting request is withdrawn. -/
def Core.unqueue (c : Core) (kind owner : Nat) : Core :=
  c.withSluice { c.sluice with queue := dropCredit kind owner c.sluice.queue }

/-- Does a request of a kind and holder wait? -/
def Core.waits (c : Core) (kind owner : Nat) : Bool :=
  c.sluice.queue.any fun x => x.kind == kind && x.owner == owner

/-- Subchannels that train (R205). -/
def Core.training (c : Core) : Nat := (c.sluice.held.filter fun x => x.kind == Ck.train).length

/-- May the head of the queue be granted (R425)? A head larger than the pool is granted when nothing is. A training waits
while TRAIN_PARALLEL others run (R205). DESIGN CHOICE, unsafe (log entry 71). -/
def Core.headFits (c : Core) : Bool :=
  match c.sluice.queue with
  | [] => false
  | x :: _ => (x.kind ≠ Ck.train || c.training < c.get Obj.Phy.TRAIN_PARALLEL)
      && (c.granted + x.mw ≤ c.pool || (c.pool < x.mw && c.granted = 0))

/-- Grant the head of the queue; a head larger than the pool sets OVER_POOL (R425). -/
def Core.grantHead (c : Core) : Option Credit × Core :=
  match c.sluice.queue with
  | [] => (none, c)
  | x :: t =>
    if c.headFits then
      let c1 : Core := c.withSluice { c.sluice with queue := t }
      let c2 := c1.grantCredit x
      (some x, if c.pool < x.mw then c2.flag Obj.Sluice.FLAGS 1 else c2)
    else (none, c)

end Sys2Proof.Machine
end

