-- ==== Sys2Proof/Machine/Queue.lean ====
section
/-! DEFINITION. What reaches a memory controller: the commands it puts on the wire, requests on their way through the
clock-crossing FIFO into the queues, and the ranks they wake (01_hub_in_the_array.md R21; 07_memory_controller.md R164 to R171,
R183 to R186; 08_ddr5_redrive_training.md R195, R198, R199). -/

namespace Sys2Proof.Machine

/-! ## Regions and subchannels (R83, R161, R165) -/

/-- First hub address of a region, and one above its last (R83; 1 MiB is 2^14 bursts). -/
def Core.regionHa (c : Core) (r : Nat) : Nat := c.get (Obj.Region.BASE_MIB r) * 2 ^ 14
def Core.regionHi (c : Core) (r : Nat) : Nat :=
  (c.get (Obj.Region.BASE_MIB r) + c.get (Obj.Region.SIZE_MIB r)) * 2 ^ 14

/-- Does a subchannel hold any byte of a region? A MiB spreads over all subchannels under every map but PARTITION
(R165). -/
def Core.regionOn (c : Core) (r sc : Nat) : Bool :=
  c.regionHa r < c.regionHi r &&
    (if c.addrMap = 3 then c.regionHa r / 2 ^ 32 ≤ sc && sc ≤ (c.regionHi r - 1) / 2 ^ 32 else true)

/-- ACTIVE leases that hold bytes on a subchannel. -/
def Core.leasesAt (c : Core) (sc : Nat) : List Nat :=
  (List.range 16).filter fun l => c.get (Obj.Lease.STATE l) = 1 && c.regionOn (c.get (Obj.Lease.REGION l)) sc

/-- Do the leases forbid power-down on a subchannel (R161, R183)? -/
def Core.leaseForbidsPd (c : Core) (sc : Nat) : Bool :=
  (c.leasesAt sc).any fun l => c.get (Obj.Lease.TOL l) * 1000 < c.get Obj.Tailrace.PD_EXIT_NS

/-- TRAIN_STATE of a subchannel: 0 UNTRAINED, 1 TRAINING, 2 TRAINED, 3 FAILED (R213). -/
def Core.trainState (c : Core) (n : Nat) : Nat := c.get (Obj.Train.TRAIN_STATE n)

/-- The marked package of a package rank (R253). -/
def Core.markedLane (c : Core) (n pr : Nat) : Option Nat :=
  let b := (c.get (Obj.EccSc.ERASE_MAP n) >>> (8 * (1 - pr))) % 256
  if b = 0xFF then none else some b

/-- Does insertion run on a package rank (R225)? -/
def Core.inserting (c : Core) (n pr : Nat) : Bool := c.holds Ck.insert (2 * n + pr)

/-! ## Commands on the wire (R195, R198, R199) -/

/-- The level of PAR with a command: CA0 to CA13, CID0, CID1 and PAR hold an even number of ones; low with CA_PARITY_EN = 0,
and where no chip select is low (R198). -/
def Core.parLevel (c : Core) (cmd : DramCmd) : Bool :=
  c.isSet Obj.Phy.CA_PARITY_EN && cmd.selects ≠ 0
    && (popcount 14 (Config.caWord cmd.code).toNat + popcount 2 cmd.cid) % 2 == 1

/-- Put a command on the wire, and record it in the history of the last 256 (R196, R198, R199). -/
def Core.command (c : Core) (n : Nat) (cmd : DramCmd) (read : Option Nat) (wrote : Option (Nat × Nat × Bool)) : Core :=
  (c.updDdr n fun d =>
    let h := d.history ++ [{ t := c.tick, cmd := cmd, read := read, wrote := wrote }]
    { d with history := h.drop (h.length - 256) }).emit (.dram n cmd (c.parLevel cmd))

/-- A command with no data. -/
def Core.order (c : Core) (n : Nat) (cmd : DramCmd) : Core := c.command n cmd none none

/-! ## Waking (R183, R185, R186) -/

/-- Power-down exit of a package rank (R183). -/
def Core.pdExit (c : Core) (n pr : Nat) : Core :=
  let c1 := ((c.updMc n fun m => { m with wakeDue := setBitTo pr false m.wakeDue }).putBit (Obj.Sc.PD_MASK n) pr
    false).order n (.pdExit pr)
  if c1.scState n = 1 then c1.put (Obj.Sc.STATE n) 0 else c1

/-- A request for a package rank, or a refresh due on it, takes it out of power-down (R183): once ALERT_n lets commands
issue (R199). A rank that woke for a refresh alone no longer goes back at once. -/
def Core.wakeRank (c : Core) (n pr : Nat) : Core :=
  let c1 := c.updMc n fun m => { m with pdBack := setBitTo pr false m.pdBack }
  if c.bitOf (Obj.Sc.PD_MASK n) pr then
    if (c.mcOf n).stopped then c1.updMc n fun m => { m with wakeDue := setBitTo pr true m.wakeDue } else c1.pdExit n pr
  else c1

/-- Both package ranks leave power-down. -/
def Core.wakeBoth (c : Core) (n : Nat) : Core := (c.wakeRank n 0).wakeRank n 1

/-- A self-refresh exit is demanded: the subchannel takes its place in the order of demands (R186). -/
def Core.demandExit (c : Core) (n : Nat) : Core :=
  if (c.mcOf n).srExiting || !(c.scState n = 2 || (c.mcOf n).srAt ≠ 0) then c
  else { c.updMc n fun m => { m with srExiting := true } with srQueue := c.srQueue ++ [n] }

/-- Give up a self-refresh entry whose entry commands have not issued; a lease's credit returns (R161, R184, R185). -/
def Core.abandonEntry (c : Core) (n : Nat) : Core :=
  let m := c.mcOf n
  if m.srWhy = 1 then
    let c1 := c.setMc n { m with srEntering := false, srAt := 0, srWhy := 0 }
    if c1.holds Ck.srExit n then c1.release Ck.srExit n else c1
  else c.setMc n { m with srEntering := false, srAt := 0 }

/-- Traffic for a subchannel: it abandons a self-refresh entry in its steps 1 to 3, with the exit credit of a lease (R184,
R185), and demands the exit from a self-refresh that a lease ordered (R161). -/
def Core.stir (c : Core) (n : Nat) : Core :=
  let m := c.mcOf n
  if c.scState n = 2 || m.srAt ≠ 0 then (if m.srWhy ||| 1 = 1 then c.demandExit n else c)
  else if m.srEntering then c.abandonEntry n
  else c

/-! ## The FIFO (R21, R168) -/

/-- Every request queued at a controller: read entries, write queue, the error correction's own requests, and issued reads
that are to be issued again (R167, R189). -/
def McState.queued (m : McState) : List Req64 := m.reads ++ m.writes ++ m.own ++ m.flight.filter (·.at_ == .again)

/-- Requests on their way: the FIFO and the requests whose writers stall (R21). -/
def McState.arriving (m : McState) : List Req64 := m.wait ++ m.stalled

/-- A request enters the FIFO of 32 entries; while it is full its writer stalls, and requests keep their order (R21).
DESIGN CHOICE, safe (log entry 78). -/
def McState.push (m : McState) (r : Req64) : McState :=
  if m.stalled.isEmpty && m.wait.length < 32 then { m with wait := m.wait ++ [r] }
  else { m with stalled := m.stalled ++ [r] }

/-- The FIFO without its head: the first stalled request takes the place (R21). DESIGN CHOICE, safe (log entry 78). -/
def McState.pop (m : McState) : McState :=
  { m with wait := m.wait.drop 1 ++ m.stalled.take (33 - m.wait.length), stalled := m.stalled.drop (33 - m.wait.length) }

/-- A request reaches a subchannel's command FIFO (R21, R168), and wakes its package rank (R183). -/
def Core.request (c : Core) (r : Req64) : Core :=
  let d := c.dramOf r.ha
  ((c.updMc d.sc fun m => m.push { r with t := c.tick }).stir d.sc).wakeRank d.sc (d.lr / 4)

/-- A read request of a class. -/
def readReq (ha cls : Nat) (o : Owner) : Req64 :=
  { id := 0, ha := ha, write := false, cls := cls, data := 0, poison := false, owner := o, second := false,
    passed := false, replayed := false, at_ := .out, inReplay := false, t := 0 }

/-- A write request of a class. -/
def writeReq (ha cls data : Nat) (poison : Bool) (o : Owner) : Req64 :=
  { id := 0, ha := ha, write := true, cls := cls, data := data, poison := poison, owner := o, second := false,
    passed := false, replayed := false, at_ := .out, inReplay := false, t := 0 }

/-- The error correction's own request: it passes no FIFO and takes no entry (R172, R252, R260). -/
def Core.ownRequest (c : Core) (r : Req64) : Core :=
  let d := c.dramOf r.ha
  let m := c.mcOf d.sc
  (c.setMc d.sc { m with own := m.own ++ [{ r with id := m.nextId, t := c.tick }], nextId := m.nextId + 1 }).wakeRank d.sc
    (d.lr / 4)

/-! ## The write queue (R168, R170, R257) -/

/-- The write queue with a matching entry replaced (R170). -/
def mergeWrite (r : Req64) (ws : List Req64) : List Req64 :=
  ws.map fun w => if w.ha = r.ha then { w with data := r.data, poison := r.poison, cls := min w.cls r.cls } else w

/-- Mark the scrub reads of an address, and the write-backs on their way, that a write has passed (R257). -/
def passScrub (ha : Nat) (rs : List Req64) : List Req64 :=
  rs.map fun r => if r.ha = ha ∧ (r.owner = .scrub ∨ r.owner = .scrubWrite) then { r with passed := true } else r

/-- Put a write into a write queue: merged with a waiting entry of its address, or a new entry when one is free
(R168, R170). A scrub write-back never merges (R257). `none` when it must wait. -/
def McState.takeWrite (m : McState) (r : Req64) (now : Nat) : Option McState :=
  let m1 := { m with wait := passScrub r.ha m.wait, stalled := passScrub r.ha m.stalled, reads := passScrub r.ha m.reads,
                     flight := passScrub r.ha m.flight }
  if m.writes.any fun w => w.ha == r.ha then some { m1 with writes := mergeWrite r m.writes }
  else if m.writes.length < 128 then
    some { m1 with writes := m.writes ++ [{ r with id := m.nextId, t := now }], nextId := m.nextId + 1 }
  else none

/-- An engine's write passes the FIFO and is accepted into the write queue in the same step, when nothing is ahead of it and
the queue can take it (R21, R99, R133, R155, R168); `none` when it must wait. On a subchannel out of service past its hold
time it is discarded and counted (R421), which the second component says. DESIGN CHOICE, safe (log entry 78). -/
def Core.post (c : Core) (r : Req64) : Option (Core × Bool) :=
  let d := c.dramOf r.ha
  let m := c.mcOf d.sc
  if m.arriving ≠ [] then none
  else if c.scOut d.sc then (if m.holdOver then some (c.inc64 Obj.ScMask.OFFLINE_DROPS, true) else none)
  else (m.takeWrite r c.tick).map fun m1 => (((c.setMc d.sc m1).stir d.sc).wakeRank d.sc (d.lr / 4), false)

end Sys2Proof.Machine
end

