-- ==== Sys2Proof/Machine/Slots.lean ====
section
/-! DEFINITION. Frames and their slots: configuration of a context, what a slot holds, its writes and its refills
(05_millstone_accumulation.md R120, R127, R129, R133, R138; 07_memory_controller.md R188). -/

namespace Sys2Proof.Machine

/-! ## Configuration of a context (R120, R129) -/

/-- The configuration of a context. -/
structure CtxCfg where
  op : Nat
  elem : Nat
  stream : Nat
  region : Nat
  nframes : Nat
  nrows : Nat
  startRow : Nat
  xfirst : Nat
  xbins : Nat
  xdiv : Nat
  ybins : Nat
  ymode : Nat
  ybase : Nat
  ystep : Nat
  yoff : Nat
  yscale : Nat
  yedge : Nat
  layout : Nat
  exclude : Nat
  deriving DecidableEq, Repr

def Core.cfgOf (c : Core) (x : Nat) : CtxCfg :=
  { op := c.get (Obj.Context.OP x), elem := c.get (Obj.Context.ELEM x), stream := c.get (Obj.Context.STREAM x),
    region := c.get (Obj.Context.REGION x), nframes := c.get (Obj.Context.NFRAMES x), nrows := c.get (Obj.Context.NROWS x),
    startRow := c.get (Obj.Context.START_ROW x), xfirst := c.get (Obj.Context.X_FIRST x),
    xbins := c.get (Obj.Context.XBINS x), xdiv := c.get (Obj.Context.XDIV x), ybins := c.get (Obj.Context.YBINS x),
    ymode := c.get (Obj.Context.YMODE x), ybase := c.get (Obj.Context.Y_LOG_BASE x),
    ystep := c.get (Obj.Context.Y_LOG_STEP x), yoff := c.get (Obj.Context.Y_LIN_OFFSET x),
    yscale := c.get (Obj.Context.Y_LIN_SCALE x), yedge := c.get (Obj.Context.Y_EDGE x),
    layout := c.get (Obj.Context.LAYOUT x), exclude := c.get (Obj.Context.EXCLUDE x) }

/-- ESIZE (R129). -/
def CtxCfg.esize (g : CtxCfg) : Nat := if g.elem = 2 then 2 else 4

/-- NELEM (R129). -/
def CtxCfg.nelem (g : CtxCfg) : Nat := if g.op = 3 then g.xbins * g.ybins else g.xbins

/-- SLOT_BYTES (R129). -/
def CtxCfg.slotBytes (g : CtxCfg) : Nat := ceilDiv (g.nelem * g.esize) 4096 * 4096

/-- In-range channels of a row, and the last of them (R126). -/
def CtxCfg.inRange (g : CtxCfg) : Nat := g.xbins * g.xdiv
def CtxCfg.lastIn (g : CtxCfg) : Nat := g.xfirst + g.inRange - 1

/-- The identity of an element (R127). -/
def CtxCfg.identity (g : CtxCfg) : Nat :=
  if g.op = 1 then (if g.elem = 1 then 0xFF800000 else 0)
  else if g.op = 2 then (if g.elem = 1 then 0x7F800000 else 0xFFFFFFFF)
  else 0

/-! ## Frames -/

/-- Change the open frame of a context. -/
def Core.updFrame (c : Core) (x : Nat) (f : Frame → Frame) : Core :=
  c.updCtx x fun s => { s with frame := s.frame.map f }

/-- Change a frame of a context by its number, open or in close. -/
def Core.updFrameNo (c : Core) (x k : Nat) (f : Frame → Frame) : Core :=
  let g := fun (y : Frame) => if y.k = k then f y else y
  c.updCtx x fun s => { s with frame := s.frame.map g, closing := s.closing.map g }

/-- A frame of a context by its number. -/
def Core.frameNo (c : Core) (x k : Nat) : Option Frame :=
  ((c.ctxOf x).frame.toList ++ (c.ctxOf x).closing).find? fun f => f.k == k

/-! ## Slots -/

/-- The hub address of a 64-byte block of a slot. -/
def Core.slotHa (c : Core) (x s blk : Nat) : Nat :=
  let g := c.cfgOf x
  c.regionHa g.region + s * (g.slotBytes / 64) + blk

/-- The 64 bytes of a block of a frame (R129). -/
def CtxCfg.blockData (g : CtxCfg) (f : Frame) (blk : Nat) : Nat :=
  let per := 64 / g.esize
  (List.range per).foldl (fun a i =>
    let e := blk * per + i
    a * 2 ^ (8 * g.esize) + (if e < g.nelem then Tbl.get (fun _ => g.identity) f.elems e else 0)) 0

/-- Write a block of a frame to its slot. -/
def Core.writeBlock (c : Core) (x : Nat) (f : Frame) (blk : Nat) : Core :=
  let g := c.cfgOf x
  c.request (writeReq (c.slotHa x (f.k % g.nframes) blk) 3 (g.blockData f blk) (f.bad.contains blk) (.millstone x f.k))

/-- Step 2 of a close: the cached lines, and the lines that were never written back, go to the slot (R133). -/
def Core.writeFrame (c : Core) (x : Nat) (f : Frame) : Core :=
  let g := c.cfgOf x
  (List.range (g.slotBytes / 64)).foldl (fun c b =>
    if f.written.contains (b / 4) && !(c.cache.contains { x := x, k := f.k, line := b / 4 }) then c
    else c.writeBlock x f b) c

/-! ## Drained slots (R135, R147) -/

/-- Data bytes of a job's records. -/
def JobState.dataLen (s : JobState) : Nat := ((s.plan.filter fun d => d.rtype == 0).map (·.len)).sum

/-- Does a live drain job hold a frame in a slot of a context as source: by the bytes it fixed at START, so that a restart of
the context lifts nothing (R135, R147)? -/
def Core.slotDrained (c : Core) (x s : Nat) : Bool :=
  let lo := c.slotHa x s 0
  let hi := c.slotHa x (s + 1) 0
  (List.range 32).any fun j =>
    let st := c.get (Obj.Job.STATE j)
    let a := (c.jobOf j).slotAt
    (st = 1 || st = 2) && c.get (Obj.Job.SRC_KIND j) = 1 && a < hi && lo < a + (c.jobOf j).dataLen / 64

/-! ## Refills (R138, R188) -/

/-- Elements of a block become unknown: its refill was uncorrectable (R188). DESIGN CHOICE, unsafe (log entry 7). -/
def Core.loseBlock (c : Core) (x k blk : Nat) : Core :=
  let g := c.cfgOf x
  let per := 64 / g.esize
  (List.range per).foldl (fun c i =>
    let e := blk * per + i
    if g.nelem ≤ e then c
    else
      let (v, c1) := c.draw (2 ^ (8 * g.esize))
      c1.updFrameNo x k fun f => { f with elems := Tbl.set (fun _ => g.identity) f.elems e v }) c

/-- The oldest frame in close goes to its slot once no refill of it is awaited (R133 step 2). -/
def Core.writeHead (c : Core) (x : Nat) : Core :=
  match (c.ctxOf x).closing with
  | [] => c
  | f :: _ => if f.filling.isEmpty then c.writeFrame x f else c

/-- A block of a line's refill has come: outcome 0 OK, 1 POISONED, 2 UNCORRECTABLE. A block that is not OK carries the poison
mark from now on (R138, R188). The frame's own values stand for what the slot holds: nothing else writes it. -/
def Core.refillGot (c : Core) (x k blk outcome : Nat) : Core :=
  match c.frameNo x k with
  | none => c
  | some f =>
    if !(f.filling.contains blk) then c
    else
      let c1 := c.updFrameNo x k fun f =>
        { f with filling := f.filling.erase blk, bad := if outcome = 0 then f.bad else blk :: f.bad.erase blk }
      let c2 := if outcome = 2 then c1.loseBlock x k blk else c1
      match (c2.ctxOf x).closing with
      | g :: _ => if g.k = k then c2.writeHead x else c2
      | [] => c2

end Sys2Proof.Machine
end

