-- ==== Sys2Proof/Machine/Mc.lean ====
section
/-! DEFINITION. Memory controllers: acceptance, the pick, refresh, power states (07_memory_controller.md R167 to R186), and
what a decoded or forwarded burst does for who asked for it. -/

namespace Sys2Proof.Machine

/-! ## What a finished burst does for its owner -/

/-- Record a block of a READ (R43, R44). -/
def Core.hrGot (c : Core) (p tag blk up data outcome : Nat) : Core :=
  if (c.portOf p).ups ≠ up then c
  else c.updPort p fun s => { s with readTxns := s.readTxns.map fun x =>
    if x.tag = tag then
      { x with blocks := x.blocks.mapIdx fun i b => if i = blk then { b with got := some (data, outcome) } else b }
    else x }

/-- One burst of a WRITE is accepted into a write queue (R41). -/
def Core.hrAccepted (c : Core) (p tag up : Nat) (retry : Bool) : Core :=
  if (c.portOf p).ups ≠ up then c
  else c.updPort p fun s => { s with writeTxns := s.writeTxns.map fun x =>
    if x.tag = tag then { x with left := x.left - 1, retry := x.retry || retry } else x }

/-- A source block of a job's next record has come (R149, R153). A read of an earlier run is nothing to the job. -/
def Core.drainGot (c : Core) (j run blk data outcome : Nat) : Core :=
  if (c.jobOf j).run ≠ run then c
  else c.updJob j fun s => { s with got := Tbl.set (fun _ => (0, 3)) s.got blk (data, outcome) }

/-- The last row of a scrub pass has been read: the pass is counted, timed, and late above 1.1 × SCRUB_PERIOD_H (R258). -/
def Core.scrubPassed (c : Core) (n : Nat) : Core :=
  let ns := 2 * (c.tick - (c.eccOf n).passStart)
  let c1 := (c.inc (Obj.EccSc.SCRUB_PASSES n)).put (Obj.EccSc.SCRUB_LAST_PASS n) (sat 32 (ns / 1000000000))
  if 11 * c.get Obj.Ecc.SCRUB_PERIOD_H * 3600000000000 < 10 * ns then
    (c1.flag (Obj.EccSc.FLAGS n) 5).flag Obj.Ecc.FLAGS 0
  else c1

/-- One scrub read of the row is over; after the last the position is ready for the next row, and after the last row of
q = 2^25 − 1 the pass has ended (R256, R258). -/
def Core.scrubDone (c : Core) (n : Nat) : Core :=
  let e := c.eccOf n
  let c1 := c.updEcc n fun e => { e with scrubLeft := e.scrubLeft - 1 }
  if e.scrubLeft = 1 && e.scrubRow + 1 = 2 ^ 25 then c1.scrubPassed n else c1

/-- A read ends with data for its owner: outcome 0 OK, 1 POISONED, 2 UNCORRECTABLE, whose data are zeros (R188). -/
def Core.deliver (c : Core) (n : Nat) (r : Req64) (data outcome : Nat) : Core :=
  let d := if outcome = 2 then 0 else data
  match r.owner with
  | .hrRead p tag blk up => c.hrGot p tag blk up d outcome
  | .drainRead j run blk => c.drainGot j run blk d outcome
  | .refill x k blk => c.refillGot x k blk outcome
  | .scrub => c.scrubDone n
  | _ => c

/-! ## Acceptance (R168 to R171, R421) -/

/-- Accept a read: forwarded from the youngest matching write, else it takes a read entry (R168, R169). -/
def Core.acceptRead (c : Core) (n : Nat) (m : McState) (r : Req64) : Core :=
  match (m.writes.filter fun w => w.ha == r.ha).getLast? with
  | some w =>
    let c1 := ((c.setMc n m.pop).inc64 (Obj.Sc.READS n)).inc64 (Obj.Sc.FORWARDS n)
    c1.deliver n r w.data (ofBool w.poison)
  | none =>
    if c.scOut n then
      if m.holdOver then ((c.setMc n m.pop).inc64 Obj.ScMask.OFFLINE_READS).deliver n r 0 2 else c
    else if m.reads.length < 128 then
      c.setMc n { m.pop with reads := m.reads ++ [{ r with id := m.nextId, t := c.tick }], nextId := m.nextId + 1 }
    else c

/-- A write is lost or refused because its subchannel is OFFLINE or held (R421). -/
def Core.dropWrite (c : Core) (r : Req64) : Core :=
  match r.owner with
  | .hrWrite p tag up => (c.inc64 Obj.ScMask.OFFLINE_DROPS).hrAccepted p tag up true
  | .millstone x k =>
    (c.inc64 Obj.ScMask.OFFLINE_DROPS).updCtx x fun s =>
      let f := fun (g : Frame) => if g.k = k then { g with flags := setBitTo 5 true g.flags } else g
      { s with frame := s.frame.map f, closing := s.closing.map f }
  | _ => c.inc64 Obj.ScMask.OFFLINE_DROPS

/-- Accept a write (R168, R170, R257, R421). -/
def Core.acceptWrite (c : Core) (n : Nat) (m : McState) (r : Req64) : Core :=
  if c.scOut n then
    if m.holdOver then
      if r.owner = .side ∧ m.kept.length < 1024 then c.setMc n { m.pop with kept := m.kept ++ [r] }
      else (c.setMc n m.pop).dropWrite r
    else c
  else if r.owner = .scrubWrite ∧ (r.passed ∨ (m.writes.any fun w => w.ha == r.ha)) then
    (c.setMc n m.pop).inc (Obj.EccSc.SCRUB_WB_DROPPED n)
  else
    match m.takeWrite r c.tick with
    | none => c
    | some m1 =>
      let c1 := c.setMc n m1.pop
      match r.owner with
      | .hrWrite p tag up => c1.hrAccepted p tag up false
      | .scrubWrite => c1.inc64 (Obj.EccSc.SCRUB_WB n)
      | _ => c1

/-- MC_REQUEST_ACCEPT: the head of the command FIFO, if it can be accepted (R168). -/
def Core.mcAccept (c : Core) (n : Nat) : Core :=
  let m := c.mcOf n
  match m.wait with
  | [] => c
  | r :: _ => if r.write then c.acceptWrite n m r else c.acceptRead n m r

/-! ## The pick (R174) -/

/-- The phase of a repair of a logical rank, 0 without one or before its owed refreshes (R260). -/
def Core.repairPhase (c : Core) (n lr : Nat) : Nat :=
  match (c.eccOf n).repair with | some x => if x.k.lr = lr then x.phase else 0 | none => 0

/-- Does a logical rank want a refresh at FORCE (R177, R179, R182)? A repair issues every refresh its rank owes (R260). -/
def Core.refForce (c : Core) (n : Nat) (m : McState) (lr : Nat) : Bool :=
  c.get Obj.Mc.POSTPONE < m.debt.num lr || 0 < m.excess.num lr || 0 < m.flush.num lr
  || (c.repairPhase n lr = 1 && 0 < m.debt.num lr)

/-- Is a refresh of a logical rank due, with no FORCE, URGENT or RT request queued for the rank (R177)? -/
def Core.refDue (c : Core) (m : McState) (lr : Nat) : Bool :=
  0 < m.debt.num lr && !(m.queued.any fun r => r.cls ≤ 2 && (c.dramOf r.ha).lr == lr)

/-- refresh_wants: a refresh of the logical rank may go at the class. A refresh due goes before every request but FORCE
commands, in the first cycle that its timing allows (R177). None goes to a rank whose die is in repair mode (R260).
DEDUCED, unsafe (log entry 24). -/
def Core.refWants (c : Core) (n : Nat) (m : McState) (cls lr : Nat) : Bool :=
  c.repairPhase n lr ≠ 3 && !(c.bitOf (Obj.Sc.PD_MASK n) (lr / 4))
    && ((cls = 0 && c.refForce n m lr) || (cls = 1 && c.refDue m lr))

/-- Open banks of a logical rank. -/
def McState.openBanks (m : McState) (lr : Nat) : List Nat :=
  (List.range 32).filterMap fun i => if m.rows.num (lr * 32 + i) ≠ 0 then some (lr * 32 + i) else none

/-- Close a bank. -/
def McState.close (m : McState) (b : Nat) : McState := { m with rows := m.rows.setNum b 0, fresh := m.fresh.setNum b 0 }

/-- Is a request held back by a repair of its logical rank: until the writes queued before it have issued the older requests
go on, then none but its own and reads issued again (R260)? -/
def Core.repairHolds (c : Core) (n : Nat) (r : Req64) (lr : Nat) : Bool :=
  match (c.eccOf n).repair with
  | none => false
  | some x => x.k.lr == lr && r.at_ != .again && (match r.owner with | .repair _ | .confirm _ => false | _ => true)
      && (x.phase != 0 || x.upto ≤ r.id)

/-- Is a request held back by a write sweep of its package rank: a later write, or a later request to its bank (R236)? -/
def Core.sweepHolds (c : Core) (n : Nat) (r : Req64) (d : DramAddr) : Bool :=
  match (c.ftOf n).capture with
  | none => false
  | some k => d.lr / 4 == k.pr && k.upto ≤ r.id && r.at_ != .again
      && (r.write || (d.lr == 4 * k.pr && d.bg == 0 && d.ba == 0))

/-- Is a request held back (R236, R260)? -/
def Core.heldBack (c : Core) (n : Nat) (r : Req64) : Bool :=
  let d := c.dramOf r.ha
  c.repairHolds n r d.lr || c.sweepHolds n r d

/-- Only FORCE commands issue: a suspect is being confirmed, or reads that it interrupted have still to decode again
(R252, R254). -/
def Core.forceOnly (c : Core) (n : Nat) : Bool :=
  (c.eccOf n).suspect.isSome || (c.mcOf n).flight.any fun r => r.inReplay || r.at_ == .stale || r.at_ == .kept

/-- Is the request's row open? A training-pattern burst of Fantail needs pattern mode and no row (R225). -/
def Core.rowOpen (c : Core) (m : McState) (r : Req64) : Bool :=
  let d := c.dramOf r.ha
  match r.owner with
  | .fantail _ => m.pattern.testBit d.lr
  | _ => m.rows.num d.bank == d.row + 1

/-- May the request be considered at all: none held back; no write ahead of an older read of its address; no more than 32
reads in flight, the error correction's own and reads issued again aside; no BE or BG request ahead of a refresh due on its
rank (R167, R171, R177, R236, R260)? DEDUCED, unsafe (log entry 24). -/
def Core.eligible (c : Core) (n : Nat) (m : McState) (r : Req64) : Bool :=
  !(c.heldBack n r) && !(3 ≤ r.cls && c.refDue m (c.dramOf r.ha).lr)
    && (if r.write then !(m.queued.any fun q => !q.write && q.ha == r.ha && q.id < r.id)
        else r.at_ == .again || (m.own.any fun q => q.id == r.id) || m.flight.length < 32)

/-- dir_ok of R174. -/
def dirOk (m : McState) (r : Req64) : Bool := r.cls == 0 || r.write == m.dirWrite

/-- The oldest of a list by request number. -/
def oldest (l : List Req64) : Option Req64 :=
  l.foldl (fun a r => match a with | none => some r | some q => if r.id < q.id then some r else some q) none

/-- Does another row of the bank wait at the class? -/
def Core.otherRowWaits (c : Core) (m : McState) (bank row cls : Nat) : Bool :=
  m.queued.any fun r => r.cls == cls && (let d := c.dramOf r.ha; d.bank == bank && d.row != row)

/-- Step 1 of the pick at a class: the oldest column command that may issue. HIT_CAP is 16. -/
def Core.casPick (c : Core) (n : Nat) (m : McState) (cls : Nat) (t : PickTiming) : Option Req64 :=
  oldest (m.queued.filter fun r =>
    r.cls == cls && c.eligible n m r && c.rowOpen m r && t.cas.contains r.id && dirOk m r
    && (let d := c.dramOf r.ha; m.streak.num d.bank < 16 || !(c.otherRowWaits m d.bank d.row cls)))

/-- A row command of step 2: the bank and the row to open, or none to precharge. -/
structure RowCmd where
  bank : Nat
  row : Option Nat
  deriving DecidableEq, Repr

/-- Does a request need a row? -/
def Req64.needsRow (r : Req64) : Bool := match r.owner with | .fantail _ => false | _ => true

/-- Step 2 at a class and one bank of the rotation: the bank's oldest request of the class decides. -/
def Core.rowPickAt (c : Core) (n : Nat) (m : McState) (cls : Nat) (t : PickTiming) (k : Nat) : Option RowCmd :=
  match oldest (m.queued.filter fun r =>
      r.cls == cls && r.needsRow && c.eligible n m r && dirOk m r && (c.dramOf r.ha).bank == k) with
  | none => none
  | some h =>
    let row := (c.dramOf h.ha).row
    if c.refForce n m (k / 32) then none
    else if m.rows.num k ≠ 0 then
      (if m.rows.num k ≠ row + 1 && t.pre.contains k then some { bank := k, row := none } else none)
    else if t.act.contains k then some { bank := k, row := some row } else none

/-- Step 2 at a class: the banks in rotation from rr (R174). Only banks whose row timing is met can be chosen. -/
def Core.rowPick (c : Core) (n : Nat) (m : McState) (cls : Nat) (t : PickTiming) : Option RowCmd :=
  (List.range 256).findSome? fun i =>
    let k := (m.rr + i) % 256
    if t.pre.contains k || t.act.contains k then c.rowPickAt n m cls t k else none

/-- Best class among requests; 5 for none. -/
def bestClass (l : List Req64) : Nat := l.foldl (fun a r => min a r.cls) 5

/-- update_direction of R174; MIN_RUN is 8. A direction has no candidate when none of its requests may be considered.
DEDUCED, unsafe (log entry 24). -/
def Core.updateDirection (c : Core) (n : Nat) (m : McState) : McState :=
  let cw := bestClass (m.queued.filter (·.write))
  let cr := bestClass (m.queued.filter (!·.write))
  let want :=
    if cw < cr then true
    else if cr < cw then false
    else if !m.dirWrite && c.get Obj.Mc.WQ_HIGH ≤ m.writes.length then true
    else if m.dirWrite && m.writes.length ≤ c.get Obj.Mc.WQ_LOW then false
    else m.dirWrite
  let none := !((m.queued.filter fun r => r.write == m.dirWrite).any (c.eligible n m))
  if want ≠ m.dirWrite && (8 ≤ m.run || none) then { m with dirWrite := want, run := 0 } else m

/-- What the pick chose. -/
inductive Pick where
  | refresh (lr : Nat)
  | preAll (lr : Nat)
  | mrr (lr : Nat)
  | cas (r : Req64)
  | row (x : RowCmd)
  | pattern (lr : Nat) (on : Bool)
  | idleClose (bank : Nat)
  | nothing
  deriving DecidableEq, Repr

/-- A refresh step of the first logical rank that wants one at the class and can take it: PREab, then REF. -/
def Core.refreshPick (c : Core) (n : Nat) (m : McState) (cls : Nat) (t : PickTiming) : Option Pick :=
  (List.range 8).findSome? fun lr =>
    if c.refWants n m cls lr then
      let bs := m.openBanks lr
      if bs.isEmpty then (if t.ref.contains lr then some (.refresh lr) else none)
      else if bs.all t.pre.contains then some (.preAll lr) else none
    else none

/-- The MR4 read of the first logical rank that is polled, at FORCE (R172, R178). -/
def Core.mrrPick (c : Core) (n : Nat) (m : McState) (cls : Nat) (t : PickTiming) : Option Pick :=
  if cls ≠ 0 then none
  else (List.range 8).findSome? fun lr =>
    if m.mrrDue.testBit lr && t.mode.contains lr && !(c.bitOf (Obj.Sc.PD_MASK n) (lr / 4)) then some (.mrr lr) else none

/-- Is a Fantail burst of a logical rank queued? -/
def Core.burstsLeft (c : Core) (m : McState) (lr : Nat) : Bool :=
  m.reads.any fun r => !r.needsRow && (c.dramOf r.ha).lr == lr

/-- Entry to pattern mode where a refresh shadow begins, and exit once its bursts have issued, at BG (R225). -/
def Core.patternPick (c : Core) (m : McState) (cls : Nat) (t : PickTiming) : Option Pick :=
  if cls ≠ 4 then none
  else (List.range 8).findSome? fun lr =>
    if !(t.mode.contains lr) then none
    else if m.pattern.testBit lr then (if c.burstsLeft m lr then none else some (.pattern lr false))
    else if m.shadow.testBit lr then some (.pattern lr true)
    else none

/-- A shadow in which a request of a higher class waits for its rank is skipped (R225). -/
def Core.skipShadows (c : Core) (m : McState) (t : PickTiming) : McState :=
  { m with shadow := maskOf 8 fun lr => m.shadow.testBit lr
      && !(t.mode.contains lr && m.queued.any fun r => r.cls < 4 && (c.dramOf r.ha).lr == lr) }

/-- The pick at one class (R174). DEDUCED, unsafe (log entry 24). -/
def Core.pickAt (c : Core) (n : Nat) (m : McState) (t : PickTiming) (cls : Nat) : Option Pick :=
  (c.refreshPick n m cls t).orElse fun _ => (c.mrrPick n m cls t).orElse fun _ =>
    ((c.casPick n m cls t).map .cas).orElse fun _ => ((c.rowPick n m cls t).map .row).orElse fun _ => c.patternPick m cls t

/-- A row that nothing waits for, with ROW_IDLE_NS = 0, is closed as soon as timing allows (R175).
DEDUCED, unsafe (log entry 24). -/
def Core.idlePick (c : Core) (m : McState) (t : PickTiming) : Pick :=
  if c.get Obj.Mc.ROW_IDLE_NS = 0 then
    match t.pre.find? fun k => m.rows.num k ≠ 0 && !(m.queued.any fun r =>
        let d := c.dramOf r.ha; d.bank == k && d.row + 1 == m.rows.num k) with
    | some k => .idleClose k
    | none => .nothing
  else .nothing

/-- The logical rank that a pick takes out of pattern mode first: one it refreshes, polls or opens a row of (R225). -/
def Pick.needsRank : Pick → Option Nat
  | .refresh lr | .preAll lr | .mrr lr => some lr
  | .row x => if x.row.isSome then some (x.bank / 32) else none
  | _ => none

/-- A pick for a rank in pattern mode waits for its exit from the mode (R225). -/
def Pick.leave (m : McState) (t : PickTiming) (p : Pick) : Pick :=
  match p.needsRank with
  | some lr => if m.pattern.testBit lr then (if t.mode.contains lr then .pattern lr false else .nothing) else p
  | none => p

/-- The whole pick, on the controller after update_direction (R174). OFFLINE with content: only refresh and polls at FORCE
(R422). DEDUCED, unsafe (log entry 24). -/
def Core.pick (c : Core) (n : Nat) (m : McState) (t : PickTiming) : Pick :=
  Pick.leave m t
    (if c.scOffline n then ((c.refreshPick n m 0 t).orElse fun _ => c.mrrPick n m 0 t).getD .nothing
     else if c.forceOnly n then (c.pickAt n m t 0).getD .nothing
     else ((List.range 5).findSome? (c.pickAt n m t)).getD (c.idlePick m t))

/-- May the subchannel issue commands at all (R185, R199, R201, R422)? DEDUCED, unsafe (log entry 25). -/
def Core.mayIssue (c : Core) (n : Nat) : Bool :=
  c.scState n ≠ 2 && !(c.mcOf n).stopped && !(c.mcOf n).inReset && (c.mcOf n).srAt = 0 && c.trainState n = 2

/-! ## The delay sets of the data buffer (R203, R219, R220, R226) -/

/-- d of a lane (R220). -/
def Core.shadowD (c : Core) (l : FtLane) : Nat :=
  if l.eyeW = 0 then c.get Obj.Fantail.SHADOW_DEFAULT else max (l.eyeW / 2 - c.get Obj.Fantail.SHADOW_INSET) 4

/-- A lane's applied values take effect, with the positions of its shadow samplers; a step of RD_DQS among them bars the
window it fell in (R203, R219, R226, R227). -/
def Core.loadLane (c : Core) (l : FtLane) : FtLane :=
  let q : Int := l.applied.num 1
  let d : Int := c.shadowD l
  { l with loaded := l.applied, early := q - d, late := q + d, moved := l.moved || l.loaded.num 1 ≠ l.applied.num 1 }

/-- A column command loads the delay set of its package rank (R203). -/
def Core.loadDelays (c : Core) (n pr : Nat) : Core :=
  (List.range 10).foldl (fun c k => c.updLane n (10 * pr + k) fun l => if l.state = 0 then l else c.loadLane l) c

/-! ## Issuing -/

/-- A flush refresh has gone: when none is left anywhere the credit returns (R182). DEDUCED, unsafe (log entry 26). -/
def Core.flushDone (c : Core) : Core :=
  if c.holds Ck.flush 0 && (List.range 32).all fun n => (c.mcOf n).flush.isEmpty then c.release Ck.flush 0 else c

/-- Precharge every bank of a logical rank. -/
def Core.issuePreAll (c : Core) (n lr : Nat) : Core :=
  let m := c.mcOf n
  (c.setMc n ((m.openBanks lr).foldl (fun m b => m.close b) m)).order n (.preAll lr)

/-- Precharge a logical rank that has open banks. -/
def Core.closeRank (c : Core) (n lr : Nat) : Core :=
  if ((c.mcOf n).openBanks lr).isEmpty then c else c.issuePreAll n lr

/-- May a package rank rest: nothing on its way to it, queued or in flight, no refresh due, no poll, and no pattern mode,
repair or write sweep on it (R183)? DEDUCED, unsafe (log entry 27). -/
def Core.rankIdle (c : Core) (n pr : Nat) : Bool :=
  let m := c.mcOf n
  !((m.arriving ++ m.queued ++ m.flight).any fun r => (c.dramOf r.ha).lr / 4 == pr)
  && ((List.range 4).all fun i => m.debt.num (4 * pr + i) == 0 && !(m.mrrDue.testBit (4 * pr + i))
    && !(m.pattern.testBit (4 * pr + i)))
  && (match (c.eccOf n).repair with | some x => x.k.lr / 4 != pr | none => true)
  && (match (c.ftOf n).capture with | some k => k.pr != pr | none => true)

/-- Enter power-down on a package rank: its open rows are precharged and entry is issued (R183). STATE reads POWER_DOWN
when both package ranks rest. DEDUCED, unsafe (log entry 27). -/
def Core.enterPowerDown (c : Core) (n pr : Nat) : Core :=
  let c1 := (List.range 4).foldl (fun c i => c.closeRank n (4 * pr + i)) c
  let c2 := ((c1.updMc n fun m =>
    { m with pdBack := setBitTo pr false m.pdBack,
             shadow := if pr = 0 then field 7 4 m.shadow <<< 4 else field 3 0 m.shadow }).putBit (Obj.Sc.PD_MASK n) pr
    true).order n (.pdEnter pr)
  if c2.get (Obj.Sc.PD_MASK n) = 3 then c2.put (Obj.Sc.STATE n) 1 else c2

/-- A package rank that woke for a refresh alone goes back at once if it is still idle and no lease forbids it (R183). -/
def Core.backToRest (c : Core) (n pr : Nat) : Core :=
  if (c.mcOf n).pdBack.testBit pr && c.rankIdle n pr && !(c.leaseForbidsPd n) then c.enterPowerDown n pr else c

/-- Issue a refresh of a logical rank: D falls by 1 and the counters follow (R176, R177, R179). With insertion granted its
shadow is one for pattern reads (R225). -/
def Core.issueRefresh (c : Core) (n lr : Nat) : Core :=
  let m := c.mcOf n
  let ex := m.excess.num lr
  let forced := ex = 0 && m.flush.num lr = 0 && c.get Obj.Mc.POSTPONE < m.debt.num lr
  let m1 := { m with debt := m.debt.setNum lr (m.debt.num lr - 1), excess := m.excess.setNum lr (ex - 1),
                     flush := m.flush.setNum lr (m.flush.num lr - 1),
                     shadow := setBitTo lr (c.inserting n (lr / 4)) m.shadow }
  let c1 := ((c.setMc n m1).order n (.ref lr)).inc64 (Obj.Sc.REFRESHES n)
  let c2 := if 0 < ex then c1.inc (Obj.Sc.REF_EXCESS n) else c1
  let c3 := if forced then (c2.inc64 (Obj.Sc.REF_FORCED n)).flag (Obj.Sc.FLAGS n) 2 else c2
  (c3.flushDone).backToRest n (lr / 4)

/-- The MR4 of a logical rank's dies is read (R178). -/
def Core.issueMrr (c : Core) (n lr : Nat) : Core :=
  (c.updMc n fun m => { m with mrrDue := setBitTo lr false m.mrrDue, mrrOut := setBitTo lr true m.mrrOut }).order n (.mrr lr)

/-- A column command takes its request from where it waits: an own write is over, a read is in flight with what its burst
now holds. -/
def McState.issued (m : McState) (r : Req64) (data : Nat) (poison : Bool) : McState :=
  let gone := fun (l : List Req64) => l.filter fun q => q.id != r.id
  if r.write then { m with writes := gone m.writes, own := gone m.own }
  else
    let q := { r with data := data, poison := poison, at_ := .out, replayed := false }
    { m with reads := gone m.reads, own := gone m.own, flight := gone m.flight ++ [q] }

/-- Issue a column command. It loads the delay set of its package rank (R203). A write whose encode and re-encode both
fail the syndrome check is not issued (R251); the caller takes the subchannel OFFLINE. -/
def Core.issueCas (c : Core) (mem : Memory) (n : Nat) (r : Req64) : Core × Memory :=
  let d := c.dramOf r.ha
  let m := c.mcOf n
  let hit := m.fresh.num d.bank = 0
  let m1 := if r.needsRow then
      { m with streak := m.streak.setNum d.bank (m.streak.num d.bank + 1), run := m.run + 1,
               fresh := m.fresh.setNum d.bank 0 }
    else { m with run := m.run + 1 }
  let c1 := (if hit && r.needsRow then c.inc64 (Obj.Sc.ROW_HITS n) else c).loadDelays n (d.lr / 4)
  let c2 := c1.setMc n (m1.issued r (mem.burst d.pa) (mem.poisoned d.pa))
  if r.write then
    ((c2.inc64 (Obj.Sc.WRITES n)).command n (.wr d.bank d.row d.col) none (some (d.pa, r.data, r.poison)),
      mem.setBurst d.pa r.data r.poison)
  else
    ((if r.needsRow then c2 else c2.inc64 (Obj.FtSc.INSERTED_BURSTS n)).command n (.rd d.bank d.row d.col) (some r.id) none,
      mem)

/-- Issue a row command of step 2. An activate ends a shadow on its logical rank (R225). -/
def Core.issueRow (c : Core) (n : Nat) (x : RowCmd) : Core :=
  let m := c.mcOf n
  match x.row with
  | none => (c.setMc n { m.close x.bank with rr := (x.bank + 1) % 256 }).order n (.pre x.bank)
  | some row =>
    let m1 := { m with rows := m.rows.setNum x.bank (row + 1), streak := m.streak.setNum x.bank 0,
                       fresh := m.fresh.setNum x.bank 1, rr := (x.bank + 1) % 256,
                       shadow := setBitTo (x.bank / 32) false m.shadow }
    ((c.setMc n m1).inc64 (Obj.Sc.ACTIVATES n)).order n (.act x.bank row)

/-- Enter pattern mode on a logical rank, with SHADOW_BURSTS reads as far as read entries are free; or leave it, with none
left (R167, R225). DEDUCED, unsafe (log entry 31). -/
def Core.issuePattern (c : Core) (n lr : Nat) (on : Bool) : Core :=
  let m := c.mcOf n
  let ha := unmapHa c.addrMap { sc := n, lr := lr, bg := 0, ba := 0, row := 0, col := 0 }
  let m1 :=
    if on then
      let k := min (c.get Obj.Fantail.SHADOW_BURSTS) (128 - m.reads.length)
      { m with pattern := setBitTo lr true m.pattern, shadow := setBitTo lr false m.shadow, nextId := m.nextId + k,
               reads := m.reads ++ (List.range k).map fun i =>
                 { readReq ha 4 (.fantail (lr / 4)) with id := m.nextId + i, t := c.tick } }
    else { m with pattern := setBitTo lr false m.pattern,
                  reads := m.reads.filter fun r => r.needsRow || (c.dramOf r.ha).lr != lr }
  (c.setMc n m1).order n (.pattern lr on)

/-- Does the burst a pick issues fail its encode twice (R251)? -/
def Pick.badEncode (p : Pick) (t : PickTiming) : Bool :=
  match p with | .cas r => r.write && !t.enc1 && !t.enc2 | _ => false

/-- Carry out a pick. -/
def Core.doPick (c : Core) (mem : Memory) (n : Nat) (p : Pick) : Core × Memory :=
  match p with
  | .refresh lr => (c.issueRefresh n lr, mem)
  | .preAll lr => (c.issuePreAll n lr, mem)
  | .mrr lr => (c.issueMrr n lr, mem)
  | .cas r => c.issueCas mem n r
  | .row x => (c.issueRow n x, mem)
  | .pattern lr on => (c.issuePattern n lr on, mem)
  | .idleClose b => ((c.setMc n ((c.mcOf n).close b)).order n (.pre b), mem)
  | .nothing => (c, mem)

/-! ## Refresh, MR4 and promotion (R173, R176 to R181) -/

/-- Does a subchannel refresh itself, or hold its DRAM in reset, so that no interval and no poll runs (R186, R422)? -/
def Core.restsItself (c : Core) (n : Nat) : Bool :=
  c.scState n = 2 || (c.mcOf n).srAt ≠ 0 || (c.mcOf n).inReset || c.trainState n ≠ 2

/-- REFRESH_INTERVAL: D grows by 1, and a rank in power-down wakes for the refresh due (R176, R183). -/
def Core.refreshInterval (c : Core) (n lr : Nat) : Core :=
  if c.restsItself n then c
  else
    let c1 := c.updMc n fun m => { m with debt := m.debt.setNum lr (m.debt.num lr + 1) }
    if c.bitOf (Obj.Sc.PD_MASK n) (lr / 4) then
      (c1.wakeRank n (lr / 4)).updMc n fun m => { m with pdBack := setBitTo (lr / 4) true m.pdBack }
    else c1

/-- REF_LATE: a debt above POSTPONE has lasted one tREFI (R181). -/
def Core.refLate (c : Core) (n lr : Nat) : Core :=
  if c.get Obj.Mc.POSTPONE < (c.mcOf n).debt.num lr then
    (((c.flag (Obj.Sc.FLAGS n) 5).flag Obj.Mc.FLAGS 1)).raise (Src.mcRefLate n) (ctxNone 11 4)
  else c

/-- MR4_POLL: MR4 of every die is to be read at FORCE, which wakes both package ranks; an active subchannel only (R178, R183,
R415). -/
def Core.mr4Poll (c : Core) (n : Nat) : Core :=
  if c.restsItself n then c else (c.wakeBoth n).updMc n fun m => { m with mrrDue := 0xFF }

/-- MR4_RESULT: the rate of a logical rank after the values of its ten dies: 0 1x, 1 2x, 2 beyond (R178 to R180). Values
that no MR4 read has asked for can not come. -/
def Core.mr4Result (c : Core) (n lr : Nat) (dies : List (Fin 3)) : Core :=
  let m := c.mcOf n
  let hot := m.hot.testBit lr
  if !(m.mrrOut.testBit lr) then c
  else
    let c0 := if dies.any (· == 2)
      then (c.flag (Obj.Sc.FLAGS n) 4).raise (Src.mcTempLimit n) (ctxNone 11 5) else c
    let m0 := { c0.mcOf n with mrrOut := setBitTo lr false m.mrrOut }
    if dies.any (· != 0) then
      let m1 := { m0 with hot := setBitTo lr true m0.hot, oneX := m0.oneX.setNum lr 0 }
      if hot then c0.setMc n m1
      else
        let d := 2 * m.debt.num lr
        let post := c.get Obj.Mc.POSTPONE
        let c1 := c0.setMc n { m1 with debt := m1.debt.setNum lr d, excess := m1.excess.setNum lr (d - post) }
        if post < d then c1.flag (Obj.Sc.FLAGS n) 3 else c1
    else
      let k := m.oneX.num lr + 1
      if hot && 2 ≤ k then c0.setMc n { m0 with hot := setBitTo lr false m0.hot, oneX := m0.oneX.setNum lr 0 }
      else c0.setMc n { m0 with oneX := m0.oneX.setNum lr (min k 2) }

/-- The promoted class of a class (R173). -/
def promoted (cls : Nat) : Nat := if cls = 4 then 3 else if cls = 3 then 2 else cls

/-- REQUEST_PROMOTE: BE becomes RT and BG becomes BE, counted in PROMOTIONS (R173). -/
def Core.promote (c : Core) (n id : Nat) : Core :=
  let m := c.mcOf n
  if (m.reads ++ m.writes).any fun r => r.id == id && (r.cls == 3 || r.cls == 4) then
    let f := fun (r : Req64) => if r.id = id then { r with cls := promoted r.cls, t := c.tick } else r
    (c.setMc n { m with reads := m.reads.map f, writes := m.writes.map f }).inc64 (Obj.Sc.PROMOTIONS n)
  else c

/-- ROW_IDLE_CLOSE: an open row that no queued request targets is precharged (R175). -/
def Core.rowIdleClose (c : Core) (n b : Nat) : Core :=
  let m := c.mcOf n
  if m.rows.num b ≠ 0 && c.mayIssue n && !(m.queued.any fun r =>
      let d := c.dramOf r.ha; d.bank == b && d.row + 1 == m.rows.num b)
  then (c.setMc n (m.close b)).order n (.pre b) else c

/-! ## Power-down and self-refresh (R183 to R186) -/

/-- A package rank idle for PD_IDLE_NS rests; 0 disables it, and a lease may forbid it (R161, R183). -/
def Core.powerDownEntry (c : Core) (n pr : Nat) : Core :=
  if c.get Obj.Mc.PD_IDLE_NS ≠ 0 && c.mayIssue n && c.scState n ≤ 1 && !(c.bitOf (Obj.Sc.PD_MASK n) pr) && c.rankIdle n pr
      && !(c.leaseForbidsPd n)
  then c.enterPowerDown n pr else c

/-- Ask a subchannel to enter self-refresh (R184, R185); the credit is already held. -/
def Core.orderSelfRefresh (c : Core) (n why : Nat) : Core :=
  if c.scState n = 2 || c.scOffline n || (c.mcOf n).srAt ≠ 0 then c.updMc n fun m => { m with srWhy := m.srWhy ||| why }
  else c.updMc n fun m => { m with srEntering := true, srWhy := m.srWhy ||| why }

/-- Is nothing on its way to a subchannel, queued or in flight (R185 step 1)? -/
def McState.drained (m : McState) : Bool := m.arriving.isEmpty && m.queued.isEmpty && m.flight.isEmpty

/-- Refreshes owed by all logical ranks. -/
def McState.owed (m : McState) : Nat := (List.range 8).foldl (fun a lr => a + m.debt.num lr) 0

/-- Every refresh that a logical rank owes is issued (R185 step 2). -/
def Core.refreshOwed (c : Core) (n lr : Nat) : Core :=
  let d := (c.mcOf n).debt.num lr
  if d = 0 then c else (List.range d).foldl (fun c _ => c.issueRefresh n lr) (c.closeRank n lr)

/-- Steps 2 to 4 of the entry: owed refreshes, precharges, and the entry commands to PR0 and then PR1 (R185). CK runs until
ALERT_WINDOW_NS has passed (R201). -/
def Core.beginEntry (c : Core) (n : Nat) : Core :=
  let c1 := (List.range 8).foldl (fun c lr => c.refreshOwed n lr) (c.wakeBoth n)
  let c2 := (List.range 8).foldl (fun c lr => c.closeRank n lr) c1
  (((c2.order n (.srEnter 0)).order n (.srEnter 1)).updMc n fun m =>
    { m with srEntering := true, srAt := c.tick + 1, excess := [], flush := [], streak := [], shadow := 0, mrrDue := 0,
             mrrOut := 0 }).flushDone

/-- ALERT_WINDOW_NS has passed since the entry commands without an ALERT event: CK stops, and the subchannel is in
SELF_REFRESH (R185 steps 4 and 5, R201). -/
def Core.finishEntry (c : Core) (n : Nat) : Core :=
  let m := c.mcOf n
  if m.srAt ≠ 0 && !m.stopped && c.get Obj.Phy.ALERT_WINDOW_NS ≤ 2 * (c.tick + 1 - m.srAt) then
    let c1 := c.setMc n { m with srEntering := false, srAt := 0 }
    let c2 := ((c1.put (Obj.Sc.PD_MASK n) 0).put (Obj.Sc.STATE n) 2).inc (Obj.Sc.SR_ENTRIES n)
    if m.srWhy = 1 then c2.inc64 Obj.Tailrace.SR_ENTRIES else c2
  else c

/-- SELF_REFRESH_ENTRY: once the queues are empty, the owed refreshes issue, the banks close and the entry commands go;
when their window has passed the subchannel rests (R185, R201). With requests queued the entry waits; an abandoned entry is
retried while its reason stands (R415, R420). DEDUCED, unsafe (log entry 25). -/
def Core.selfRefreshEntry (c : Core) (n : Nat) : Core :=
  let m := c.mcOf n
  if m.srAt ≠ 0 then c.finishEntry n
  else if (m.srEntering || m.srWhy ≠ 0) && c.scState n ≤ 1 && m.drained && c.mayIssue n && (c.eccOf n).repair.isNone
      && (c.ftOf n).capture.isNone
  then c.beginEntry n else c

/-- May a subchannel begin its exit: it is next in the order of demands, and fewer than 4 began in the last 1 µs (R186; 500
ticks)? -/
def Core.exitMayBegin (c : Core) (n : Nat) : Bool :=
  c.srQueue.head?.all (· == n) && (c.srBegins.filter fun t => c.tick < t + 500).length < 4

/-- Steps 1 to 5 of the exit: exit to PR0 and then PR1, timers restart with D = 1, and MR4 is polled at once (R186). -/
def Core.beginExit (c : Core) (n : Nat) : Core :=
  let c1 := ((c.order n (.srExit 0)).order n (.srExit 1)).updMc n fun m =>
    { m with debt := (List.range 8).map fun lr => (lr, 1), srWhy := 0, srExiting := false, srEntering := false,
             rows := [], fresh := [], streak := [] }
  let c2 := (List.range 8).foldl (fun c lr => c.issueMrr n lr) c1
  { c2 with srQueue := c.srQueue.filter (· != n)
            srBegins := (c.srBegins.filter fun t => c.tick < t + 500) ++ [c.tick] }

/-- Step 6 of the exit: STATE is ACTIVE and the exit credit returns (R186). -/
def Core.endExit (c : Core) (n : Nat) : Core :=
  let c1 := c.put (Obj.Sc.STATE n) 0
  if c1.holds Ck.srExit n then c1.release Ck.srExit n else c1

end Sys2Proof.Machine
end

