-- ==== Sys2Proof/Machine/Device.lean ====
section
/-! DEFINITION. Device state transitions, the progress of a start, and subchannels leaving service
(16_states_start_sluice.md R406 to R411, R420, R422). -/

namespace Sys2Proof.Machine

/-- Enter a device state: PREV_STATE, T_STATE, STATE_CHANGE and the pins follow, and a HEALTH STATUS is due (R318, R319,
R391, R408, R426). Nothing but the always-on reset leaves LOCKOUT (R328, R418). -/
def Core.setDev (c : Core) (v : Nat) : Core :=
  if c.dev = Dv.lockout || c.dev = v then c
  else
    (((((c.put Obj.Dev.PREV_STATE c.dev).put Obj.Dev.DEVICE_STATE v).put Obj.Dev.T_STATE c.hubTime).flag
      Obj.Dev.FLAGS 0).pins).ask .health

/-- DEGRADED when any subchannel is OFFLINE or held, IDLE otherwise (R408). -/
def Core.serviceState (c : Core) : Nat := if c.anyOut then Dv.degraded else Dv.idle

/-- The automatic transitions between IDLE and DEGRADED (R408). -/
def Core.autoState (c : Core) : Core :=
  if c.inService && c.dev ≠ c.serviceState then c.setDev c.serviceState else c

/-- The start ends: START_KIND, START_TIME_US, FORCE_COLD and the state of service (R410, R411, R426). -/
def Core.finishStart (c : Core) (r : StartRun) : Core :=
  let kind := if r.origin = 0 then (if r.cold then 0 else 1) else r.origin
  let c1 := (c.put Obj.Dev.START_KIND kind).put Obj.Dev.START_TIME_US (sat 32 ((c.tick - r.begun) * 2 / 1000))
  let c2 := if c1.isSet Obj.Dev.FORCE_COLD then (c1.put Obj.Dev.FORCE_COLD 0).touch else c1
  (c2.withStart none).setDev c2.serviceState

/-- The automatic transitions of a start: RESTORE to TRAIN or service, TRAIN to service (R408). -/
def Core.startProgress (c : Core) : Core :=
  match c.start with
  | none => c
  | some r =>
    if c.dev = Dv.restore && r.exits = 0 && r.restores = 0 then
      if r.trains = 0 then c.finishStart r else c.setDev Dv.train
    else if c.dev = Dv.train && r.trains = 0 then c.finishStart r
    else c

/-- Change the start under way. -/
def Core.updStart (c : Core) (f : StartRun → StartRun) : Core := c.withStart (c.start.map f)

/-- Reads in flight go back to the read entries: their data never came. The error correction's and Fantail's own are gone. -/
def McState.recall (m : McState) : McState :=
  let keep := fun (r : Req64) => match r.owner with | .fantail _ | .confirm _ | .repair _ => false | _ => true
  { m with reads := (m.flight.filter keep).map (fun r => { r with at_ := .out, inReplay := false, replayed := false })
             ++ m.reads.filter keep,
           flight := [], own := [], pattern := 0, shadow := 0 }

/-- A controller whose DRAM is held in reset: nothing of it is open, owed or under way (R422). -/
def McState.reset (m : McState) : McState :=
  { m.recall with inReset := true, rows := [], streak := [], fresh := [], debt := [], excess := [], flush := [], mrrDue := 0,
                  mrrOut := 0, wakeDue := 0, pdBack := 0, srEntering := false, srAt := 0, srWhy := 0, srExiting := false,
                  offAfter := false, stopped := false }

/-- RESET_n of a subchannel goes low: its controller starts afresh, a suspect, a repair and a capture under way are over,
and their credits return (R206, R418, R422). A candidate under repair waits again. -/
def Core.resetDevice (c : Core) (n : Nat) : Core :=
  let give := fun (c : Core) (k : Nat) => if c.holds k n then c.release k n else c
  let c1 : Core := { c.emit (.dram n (.reset true) false) with srQueue := c.srQueue.filter (· != n) }
  let c2 := ((c1.updMc n McState.reset).updDdr n fun d =>
    { d with alertLow := false, alertOwed := false, chain := 0, parityOn := 0, twoN := 0, history := [] }).updEcc n fun e =>
      { e with suspect := none, outcomes := [], repair := none,
               candidates := (match e.repair with | some x => [x.k] | none => []) ++ e.candidates }
  ([Ck.repair, Ck.capture, Ck.srExit].foldl give (c2.updFt n fun f => { f with capture := none })).flushDone

/-- A subchannel that goes OFFLINE leaves the start under way; a training whose DRAM is reset ends (R422). Credits
return. -/
def Core.dropStart (c : Core) (n : Nat) (lost : Bool) : Core :=
  let c1 := c.updStart fun r =>
    { r with exits := setBitTo n false r.exits, restores := setBitTo n false r.restores,
             trains := setBitTo n false r.trains }
  let give := fun (c : Core) (k : Nat) =>
    if c.waits k n then c.unqueue k n else if c.holds k n then c.release k n else c
  let c2 := give c1 Ck.restore
  if lost then give (c2.updDdr n fun d => { d with train := none }) Ck.train else c2

/-- A subchannel enters OFFLINE from service (R191, R420). -/
def Core.enterOffline (c : Core) (n : Nat) (order lost : Bool) : Core :=
  let was := c.scOffline n
  let c1 := if lost then c.resetDevice n else c.wakeBoth n
  let c2 := ((c1.put (Obj.Sc.STATE n) 3).put (Obj.Sc.PD_MASK n) 0).updMc n fun m =>
    { m with srEntering := false, srWhy := 0, srExiting := false, offAfter := false, held := false,
             holdOver := if was then m.holdOver else false }
  let c3 := if lost then
      let k := c2.putBit Obj.ScMask.CONTENT_LOST n true
      if k.trainState n = 3 then k else k.put (Obj.Train.TRAIN_STATE n) 0
    else c2
  let c4 := if was || order then c3 else c3.raise (Src.scOffline n) (ctxNone 11 0)
  ((if c4.holds Ck.srExit n then c4.release Ck.srExit n else c4).dropStart n lost).autoState

/-- A subchannel goes OFFLINE (R191, R420, R421). `order` is a firmware order, which raises nothing; `lost` are the cases
of R422 that hold RESET_n low and lose the content. With its content to keep, a subchannel in self-refresh leaves it
first, when its exit may begin (R186). DEDUCED, unsafe (log entry 21). -/
def Core.goOffline (c : Core) (n : Nat) (order lost : Bool) : Core :=
  if lost || !(c.scState n = 2 || (c.mcOf n).srAt ≠ 0) then c.enterOffline n order lost
  else if c.scState n = 2 && c.srQueue.all (· == n) && c.exitMayBegin n && !(c.ddrOf n).alertLow
      && !(c.ddrOf n).alertOwed then
    ((c.beginExit n).endExit n).enterOffline n order false
  else
    let c1 := (c.demandExit n).updMc n fun m => { m with offAfter := true }
    if order then c1 else c1.raise (Src.scOffline n) (ctxNone 11 0)

end Sys2Proof.Machine
end

