-- ==== Sys2Proof/Machine/Crypto.lean ====
section
/-! DEFINITION. The published functions that the security block uses: AES-256 (FIPS 197), its GCM and CMAC modes
(SP 800-38D, SP 800-38B) and SHA-384 (FIPS 180-4). The spec names them without restating them. -/

namespace Sys2Proof.Machine

/-! ## AES-256 -/

def aesSbox0 : Nat := 0x637C777BF26B6FC53001672BFED7AB76CA82C97DFA5947F0ADD4A2AF9CA472C0B7FD9326363FF7CC34A5E5F171D8311504C723C31896059A071280E2EB27B275

def aesSbox1 : Nat := 0x09832C1A1B6E5AA0523BD6B329E32F8453D100ED20FCB15B6ACBBE394A4C58CFD0EFAAFB434D338545F9027F503C9FA851A3408F929D38F5BCB6DA2110FFF3D2

def aesSbox2 : Nat := 0xCD0C13EC5F974417C4A77E3D645D197360814FDC222A908846EEB814DE5E0BDBE0323A0A4906245CC2D3AC629195E479E7C8376D8DD54EA96C56F4EA657AAE08

def aesSbox3 : Nat := 0xBA78252E1CA6B4C6E8DD741F4BBD8B8A703EB5664803F60E613557B986C11D9EE1F8981169D98E949B1E87E9CE5528DF8CA1890DBFE6426841992D0FB054BB16

/-- The substitution of a byte. -/
def aesSub (b : Nat) : Nat :=
  let t := match b / 64 with | 0 => aesSbox0 | 1 => aesSbox1 | 2 => aesSbox2 | _ => aesSbox3
  (t >>> (8 * (63 - b % 64))) % 256

/-- Multiplication by x in the field of AES. -/
def aesDouble (b : Nat) : Nat := if b < 128 then 2 * b else (2 * b - 256) ^^^ 0x1B

/-- The four bytes of a word substituted. -/
def aesSubWord (w : Nat) : Nat :=
  aesSub (w / 2 ^ 24) * 2 ^ 24 + aesSub (w / 2 ^ 16 % 256) * 2 ^ 16 + aesSub (w / 256 % 256) * 256 + aesSub (w % 256)

/-- Eight further words of the key schedule from the last eight. -/
def aesExpand (rcon : Nat) (w : List Nat) : List Nat :=
  let last := nth w 7 0
  settledNat (aesSubWord (last % 2 ^ 24 * 256 + last / 2 ^ 24) ^^^ rcon * 2 ^ 24) fun t =>
  let a := nth w 0 0 ^^^ t
  let b := nth w 1 0 ^^^ a
  let c := nth w 2 0 ^^^ b
  settledNat (nth w 3 0 ^^^ c) fun d =>
  let e := nth w 4 0 ^^^ aesSubWord d
  let f := nth w 5 0 ^^^ e
  let g := nth w 6 0 ^^^ f
  [a, b, c, d, e, f, g, nth w 7 0 ^^^ g]

/-- The key schedule: 64 words, of which 60 are used. -/
def aesSchedule : List Nat → List Nat → List Nat
  | [], w => w
  | r :: rs, w => settled w fun w => w ++ aesSchedule rs (aesExpand r w)

/-- The eight words of a 256-bit key. -/
def keyWords (key : Nat) : List Nat := (List.range 8).map fun i => key / 2 ^ (32 * (7 - i)) % 2 ^ 32

/-- The 15 round keys, each as 16 bytes. -/
def aesRoundKeys (key : Nat) : List (List Nat) :=
  let w := aesSchedule [1, 2, 4, 8, 16, 32, 64] (keyWords key)
  (List.range 15).map fun r => ((slice (4 * r) 4 w).map fun x => [x / 2 ^ 24, x / 2 ^ 16 % 256, x / 256 % 256, x % 256]).flatten

/-- XOR of two byte lists. -/
def xorBytes (a b : List Nat) : List Nat := List.zipWith (· ^^^ ·) a b

/-- Substitution and the row shift. -/
def aesSubShift (s : List Nat) : List Nat :=
  [0, 5, 10, 15, 4, 9, 14, 3, 8, 13, 2, 7, 12, 1, 6, 11].map fun i => aesSub (nth s i 0)

/-- The column mix. -/
def aesMix : List Nat → List Nat
  | a :: b :: c :: d :: t =>
    let x := a ^^^ b ^^^ c ^^^ d
    (a ^^^ x ^^^ aesDouble (a ^^^ b)) :: (b ^^^ x ^^^ aesDouble (b ^^^ c)) :: (c ^^^ x ^^^ aesDouble (c ^^^ d))
      :: (d ^^^ x ^^^ aesDouble (d ^^^ a)) :: aesMix t
  | _ => []

/-- The rounds after the first key addition. -/
def aesRounds : List (List Nat) → List Nat → List Nat
  | [], s => s
  | [k], s => xorBytes (aesSubShift s) k
  | k :: ks, s => settled (aesSubShift s) fun u => settled (xorBytes (aesMix u) k) fun v => aesRounds ks v

/-- The 16 bytes of a block as numbers. -/
def blockBytes (v : Nat) : List Nat := (List.range 16).map fun i => v / 256 ^ (15 - i) % 256

/-- AES-256 of a 128-bit block under expanded keys. -/
def aesWith (ks : List (List Nat)) (v : Nat) : Nat :=
  match ks with
  | [] => v
  | k :: rest => settled (xorBytes (blockBytes v) k) fun s => (aesRounds rest s).foldl (fun a b => a * 256 + b) 0

/-- AES-256 of a 128-bit block. PRESUMED, unsafe (log entry 13). -/
def aes (key v : Nat) : Nat := aesWith (aesRoundKeys key) v

/-! ## GCM -/

/-- The product in GF(2^128), bit by bit: the accumulated product and the running multiple. -/
def ghashLoop (x : Nat) : List Nat → Nat → Nat → Nat
  | [], z, _ => z
  | i :: t, z, y =>
    settledNat (if x.testBit (127 - i) then z ^^^ y else z) fun z =>
    settledNat (if y % 2 = 1 then (y / 2) ^^^ (0xE1 * 2 ^ 120) else y / 2) fun y => ghashLoop x t z y

/-- The product of GHASH. -/
def ghashMul (x y : Nat) : Nat := settledNat x fun x => settledNat y fun y => ghashLoop x (List.range 128) 0 y

/-- Bytes in blocks of 16, the last filled with zeros. -/
def blocks16 : Nat → List Byte → List Nat
  | 0, _ => []
  | n + 1, bs =>
    if bs.isEmpty then [] else
      let b := bs.take 16
      ofBytes (b ++ List.replicate (16 - b.length) 0) :: blocks16 n (bs.drop 16)

/-- GHASH over blocks. -/
def ghash (h : Nat) (l : List Nat) : Nat := l.foldl (fun y x => ghashMul (y ^^^ x) h) 0

/-- Counter-mode encryption from a counter block on. -/
def gcmCtr (ks : List (List Nat)) : Nat → Nat → List Byte → List Byte
  | 0, _, _ => []
  | n + 1, ctr, bs =>
    if bs.isEmpty then [] else
      let s := toBytes 16 (aesWith ks ctr)
      List.zipWith (· ^^^ ·) (bs.take 16) s ++ gcmCtr ks n (ctr / 2 ^ 32 * 2 ^ 32 + (ctr + 1) % 2 ^ 32) (bs.drop 16)

/-- The tag of authenticated data and ciphertext under a 96-bit IV. PRESUMED, unsafe (log entry 13). -/
def gcmTag (key iv : Nat) (aad ct : List Byte) : Nat :=
  let ks := aesRoundKeys key
  settledNat (aesWith ks 0) fun h =>
  let s := ghash h (blocks16 (aad.length + 1) aad ++ blocks16 (ct.length + 1) ct
    ++ [8 * aad.length * 2 ^ 64 + 8 * ct.length])
  s ^^^ aesWith ks (iv * 2 ^ 32 + 1)

/-- The ciphertext of a plaintext, or the other way round. PRESUMED, unsafe (log entry 13). -/
def gcmCrypt (key iv : Nat) (bs : List Byte) : List Byte :=
  gcmCtr (aesRoundKeys key) (bs.length + 1) (iv * 2 ^ 32 + 2) bs

/-! ## CMAC -/

/-- Doubling in the field of CMAC. -/
def cmacDouble (x : Nat) : Nat := if x < 2 ^ 127 then 2 * x else (2 * x - 2 ^ 128) ^^^ 0x87

/-- The chain over whole blocks and the last one. -/
def cmacChain (ks : List (List Nat)) (k1 k2 : Nat) : Nat → Nat → List Byte → Nat
  | 0, y, _ => y
  | n + 1, y, bs =>
    if 16 < bs.length then
      settledNat (aesWith ks (y ^^^ ofBytes (bs.take 16))) fun z => cmacChain ks k1 k2 n z (bs.drop 16)
    else if bs.length = 16 then aesWith ks (y ^^^ ofBytes bs ^^^ k1)
    else aesWith ks (y ^^^ (ofBytes (bs ++ [0x80] ++ List.replicate (15 - bs.length) 0)) ^^^ k2)

/-- AES-256-CMAC. PRESUMED, unsafe (log entry 13). -/
def cmac (key : Nat) (bs : List Byte) : Nat :=
  let ks := aesRoundKeys key
  settledNat (cmacDouble (aesWith ks 0)) fun k1 =>
  cmacChain ks k1 (cmacDouble k1) (bs.length + 1) 0 bs

/-! ## SHA-384 -/

/-- The round constants. -/
def shaK : List Nat :=
  [0x428A2F98D728AE22, 0x7137449123EF65CD, 0xB5C0FBCFEC4D3B2F, 0xE9B5DBA58189DBBC,
   0x3956C25BF348B538, 0x59F111F1B605D019, 0x923F82A4AF194F9B, 0xAB1C5ED5DA6D8118,
   0xD807AA98A3030242, 0x12835B0145706FBE, 0x243185BE4EE4B28C, 0x550C7DC3D5FFB4E2,
   0x72BE5D74F27B896F, 0x80DEB1FE3B1696B1, 0x9BDC06A725C71235, 0xC19BF174CF692694] ++
  [0xE49B69C19EF14AD2, 0xEFBE4786384F25E3, 0x0FC19DC68B8CD5B5, 0x240CA1CC77AC9C65,
   0x2DE92C6F592B0275, 0x4A7484AA6EA6E483, 0x5CB0A9DCBD41FBD4, 0x76F988DA831153B5,
   0x983E5152EE66DFAB, 0xA831C66D2DB43210, 0xB00327C898FB213F, 0xBF597FC7BEEF0EE4,
   0xC6E00BF33DA88FC2, 0xD5A79147930AA725, 0x06CA6351E003826F, 0x142929670A0E6E70] ++
  [0x27B70A8546D22FFC, 0x2E1B21385C26C926, 0x4D2C6DFC5AC42AED, 0x53380D139D95B3DF,
   0x650A73548BAF63DE, 0x766A0ABB3C77B2A8, 0x81C2C92E47EDAEE6, 0x92722C851482353B,
   0xA2BFE8A14CF10364, 0xA81A664BBC423001, 0xC24B8B70D0F89791, 0xC76C51A30654BE30,
   0xD192E819D6EF5218, 0xD69906245565A910, 0xF40E35855771202A, 0x106AA07032BBD1B8] ++
  [0x19A4C116B8D2D0C8, 0x1E376C085141AB53, 0x2748774CDF8EEB99, 0x34B0BCB5E19B48A8,
   0x391C0CB3C5C95A63, 0x4ED8AA4AE3418ACB, 0x5B9CCA4F7763E373, 0x682E6FF3D6B2B8A3,
   0x748F82EE5DEFB2FC, 0x78A5636F43172F60, 0x84C87814A1F0AB72, 0x8CC702081A6439EC,
   0x90BEFFFA23631E28, 0xA4506CEBDE82BDE9, 0xBEF9A3F7B2C67915, 0xC67178F2E372532B] ++
  [0xCA273ECEEA26619C, 0xD186B8C721C0C207, 0xEADA7DD6CDE0EB1E, 0xF57D4F7FEE6ED178,
   0x06F067AA72176FBA, 0x0A637DC5A2C898A6, 0x113F9804BEF90DAE, 0x1B710B35131C471B,
   0x28DB77F523047D84, 0x32CAAB7B40C72493, 0x3C9EBE0A15C9BEBC, 0x431D67C49C100D4C,
   0x4CC5D4BECB3E42B6, 0x597F299CFC657E2A, 0x5FCB6FAB3AD6FAEC, 0x6C44198C4A475817]

/-- The initial hash value. -/
def shaInit : List Nat :=
  [0xCBBB9D5DC1059ED8, 0x629A292A367CD507, 0x9159015A3070DD17, 0x152FECD8F70E5939,
   0x67332667FFC00B31, 0x8EB44A8768581511, 0xDB0C2E0D64F98FA7, 0x47B5481DBEFA4FA4]

/-- Rotation to the right of a 64-bit word. -/
def rotr (n x : Nat) : Nat := x / 2 ^ n + x % 2 ^ n * 2 ^ (64 - n)

def shaS0 (x : Nat) : Nat := rotr 1 x ^^^ rotr 8 x ^^^ x / 2 ^ 7
def shaS1 (x : Nat) : Nat := rotr 19 x ^^^ rotr 61 x ^^^ x / 2 ^ 6
def shaB0 (x : Nat) : Nat := rotr 28 x ^^^ rotr 34 x ^^^ rotr 39 x
def shaB1 (x : Nat) : Nat := rotr 14 x ^^^ rotr 18 x ^^^ rotr 41 x

/-- The working variables. -/
structure ShaVars where
  a : Nat
  b : Nat
  c : Nat
  d : Nat
  e : Nat
  f : Nat
  g : Nat
  h : Nat
  deriving DecidableEq, Repr

/-- One round with a constant and a schedule word. -/
def shaRound (v : ShaVars) (k w : Nat) : ShaVars :=
  let t1 := v.h + shaB1 v.e + ((v.e &&& v.f) ^^^ ((2 ^ 64 - 1 - v.e) &&& v.g)) + k + w
  let t2 := shaB0 v.a + ((v.a &&& v.b) ^^^ (v.a &&& v.c) ^^^ (v.b &&& v.c))
  { a := (t1 + t2) % 2 ^ 64, b := v.a, c := v.b, d := v.c, e := (v.d + t1) % 2 ^ 64, f := v.e, g := v.f, h := v.g }

/-- The rounds, with a window of 16 schedule words. -/
def shaRounds : List Nat → List Nat → ShaVars → ShaVars
  | [], _, v => v
  | k :: ks, ws, v =>
    let next := (shaS1 (nth ws 14 0) + nth ws 9 0 + shaS0 (nth ws 1 0) + nth ws 0 0) % 2 ^ 64
    shaRounds ks (ws.drop 1 ++ [next]) (shaRound v k (nth ws 0 0))

/-- One 128-byte block. -/
def shaBlock (s : List Nat) (bs : List Byte) : List Nat :=
  let ws := (List.range 16).map fun i => ofBytes (slice (8 * i) 8 bs)
  let v := shaRounds shaK ws
    { a := nth s 0 0, b := nth s 1 0, c := nth s 2 0, d := nth s 3 0, e := nth s 4 0, f := nth s 5 0, g := nth s 6 0,
      h := nth s 7 0 }
  List.zipWith (fun x y => (x + y) % 2 ^ 64) s [v.a, v.b, v.c, v.d, v.e, v.f, v.g, v.h]

/-- All blocks of a padded message. -/
def shaBlocks : Nat → List Nat → List Byte → List Nat
  | 0, s, _ => s
  | n + 1, s, bs => if bs.isEmpty then s else shaBlocks n (shaBlock s (bs.take 128)) (bs.drop 128)

/-- SHA-384 of bytes, as a 384-bit number. PRESUMED, unsafe (log entry 13). -/
def sha384 (bs : List Byte) : Nat :=
  let n := bs.length
  let padded := bs ++ [0x80] ++ List.replicate ((239 - n % 128) % 128) 0 ++ toBytes 16 (8 * n)
  ((shaBlocks (n / 128 + 2) shaInit padded).take 6).foldl (fun a x => a * 2 ^ 64 + x) 0

end Sys2Proof.Machine
end

