-- ==== Sys2Proof/Machine/F32.lean ====
section
/-! DEFINITION. IEEE 754 binary16 and binary32 as Millstone uses them: exact integers in units of 2^-149 or less, rounded to
nearest even, subnormals kept (05_millstone_accumulation.md R125, R127, R128). -/

namespace Sys2Proof.Machine

/-- Is a binary32 pattern NaN or infinite? -/
def f32NonFinite (u : Nat) : Bool := field 30 23 u == 255

/-- Is a binary32 pattern a NaN? -/
def f32Nan (u : Nat) : Bool := field 30 23 u == 255 && field 22 0 u != 0

/-- A finite binary32 value in units of 2^-149. -/
def f32Int (u : Nat) : Int :=
  let e := field 30 23 u
  let m := if e = 0 then field 22 0 u else (2 ^ 23 + field 22 0 u) * 2 ^ (e - 1)
  if u.testBit 31 then -(m : Int) else m

/-- A quotient by 2^k, rounded to nearest even. -/
def shiftEven (n k : Nat) : Nat :=
  if k = 0 then n
  else
    let q := n >>> k
    let r := n % 2 ^ k
    if r < 2 ^ (k - 1) then q else if 2 ^ (k - 1) < r then q + 1 else q + q % 2

/-- The binary32 pattern of x·2^-s, rounded to nearest even; beyond the range it is infinite. -/
def f32Round (x : Int) (s : Nat) : Nat :=
  let n := x.natAbs
  let sign := if x < 0 then 2 ^ 31 else 0
  if n = 0 then 0
  else
    -- unit exponent: 2^(u - 149 - s') with u counted from the smallest
    let top := Nat.log2 n
    -- value is n·2^-s; its unit in the last place is 2^(max (top - s - 23) (-149))
    let ue : Int := max ((top : Int) - s - 23) (-149)
    let k : Int := ue + s
    let q := if 0 ≤ k then shiftEven n k.toNat else n <<< (-k).toNat
    let bits := (ue + 149).toNat * 2 ^ 23 + q
    sign + min bits 0x7F800000

/-- Sum of two patterns, the second finite; an infinite first stays. A zero sum is +0. -/
def f32Add (a b : Nat) : Nat := if f32NonFinite a then a else f32Round (f32Int a + f32Int b) 149

/-- A value on the extended line, in units of 2^-149. -/
inductive Ext where
  | fin (x : Int)
  | inf (neg : Bool)
  deriving DecidableEq, Repr

/-- The value of a pattern that is no NaN. -/
def f32Ext (u : Nat) : Ext := if f32NonFinite u then .inf (u.testBit 31) else .fin (f32Int u)

/-- a < b of patterns that are no NaN; −0 equals +0. -/
def f32Lt (a b : Nat) : Bool :=
  match f32Ext a, f32Ext b with
  | .fin x, .fin y => x < y
  | .inf n, .fin _ => n
  | .fin _, .inf n => !n
  | .inf m, .inf n => m && !n

/-- v − off rounded once, v finite and off no NaN. -/
def f32Sub (v off : Nat) : Nat :=
  match f32Ext off with
  | .inf n => if n then 0x7F800000 else 0xFF800000
  | .fin y => f32Round (f32Int v - y) 149

/-- A product with a finite factor that is not zero, rounded once. -/
def f32Mul (a b : Nat) : Nat :=
  if f32NonFinite a then (if a.testBit 31 != b.testBit 31 then 0xFF800000 else 0x7F800000)
  else f32Round (f32Int a * f32Int b) 298

/-- The floor of a pattern that is no NaN. -/
def f32Floor (u : Nat) : Ext :=
  match f32Ext u with
  | .fin x => .fin (x / (2 : Int) ^ 149)
  | e => e

/-- The binary32 pattern of a natural number, nearest even (R125). -/
def f32OfNat (n : Nat) : Nat := f32Round n 0

/-- Is a binary16 pattern NaN or infinite? -/
def f16NonFinite (u : Nat) : Bool := field 14 10 u == 31

/-- A binary16 pattern widened exactly; NaN and infinity stay what they are (R125). -/
def f16Widen (u : Nat) : Nat :=
  if f16NonFinite u then (if u.testBit 15 then 2 ^ 31 else 0) + 0x7F800000 + field 9 0 u * 2 ^ 13
  else
    let e := field 14 10 u
    let m := if e = 0 then field 9 0 u else (2 ^ 10 + field 9 0 u) * 2 ^ (e - 1)
    if m = 0 && u.testBit 15 then 2 ^ 31 else f32Round (if u.testBit 15 then -(m : Int) else m) 24

end Sys2Proof.Machine
end

