-- ==== Sys2Proof/Machine/Ring.lean ====
section
/-! DEFINITION. RING regions: formats, the segment map, the cursor, holds and evictions, and the span table
(03_millrace_capture.md R66, R78 to R88; 04_weir_retention.md R114 to R118). -/

namespace Sys2Proof.Machine

/-! ## Formats (R66) and time bases (R23, R76) -/

/-- B of a format (R66). -/
def fmtBytes (f : Nat) : Nat := nth [1, 2, 3, 4, 2, 4] f 1

/-- SPB of a stream (R66). -/
def Core.spb (c : Core) (st : Nat) : Nat := 256 / fmtBytes (c.get (Obj.Stream.FORMAT st))

/-- Samples in a 1 MiB segment of a stream (R86). -/
def Core.spseg (c : Core) (st : Nat) : Nat := 4096 * c.spb st

/-- SPECLEN of a SPECTRUM stream, 0 of a VOLTAGE stream (R69). -/
def Core.specOf (c : Core) (st : Nat) : Nat :=
  if c.get (Obj.Stream.CLASS st) = 1 then c.get (Obj.Stream.SPECLEN st) else 0

/-- The numerator that converts indices: SPECLEN times the disclosed one for SPECTRUM (R69). -/
def effNum (spec num : Nat) : Nat := if spec = 0 then num else spec * num

/-- A number of ns as an exact time. -/
def ratOf (n : Nat) : Rat := n

/-- The exact time of an index in ns (R23, R76). -/
def TimeBase.timeOf (b : TimeBase) (spec n : Nat) : Rat :=
  b.t + ((n : Rat) - b.s) * b.den * 1000000000 / effNum spec b.num

/-- The time base that converts an index: the newest whose S is at most n, else the oldest; and whether the index is not
older than the oldest (R76). -/
def baseAt (bs : List TimeBase) (n : Nat) : Option (TimeBase × Bool) :=
  match bs.find? fun b => b.s ≤ n with
  | some b => some (b, true)
  | none => bs.getLast?.map fun b => (b, false)

/-- The time base in force at a time: the newest whose t is at most it, else the oldest (R110). -/
def baseWhen (bs : List TimeBase) (t : Rat) : Option (TimeBase × Bool) :=
  match bs.find? fun b => b.t ≤ t with
  | some b => some (b, true)
  | none => bs.getLast?.map fun b => (b, false)

/-- A time in ns as TIME96, with whether it keeps its mark (R449). -/
def time96 (t : Rat) : Nat × Bool :=
  boundTime (if t < 0 then -1 else (t * 4294967296).floor)

/-- The TIME96 of an index of a stream and its TIME_VALID (R76, R449). -/
def Core.indexTime (c : Core) (st n : Nat) : Nat × Bool :=
  match baseAt (c.streamOf st).bases n with
  | none => (0, false)
  | some (b, ok) =>
    let x := time96 (b.timeOf (c.specOf st) n)
    (x.1, x.2 && ok && c.timeValid)

/-! ## The segment map (R85) -/

abbrev Seg.empty : Nat := 0
abbrev Seg.filling : Nat := 1
abbrev Seg.filled : Nat := 2
abbrev Seg.held : Nat := 3

/-- STATE, HOLDS and LSEG of a map entry (R85). -/
def segState (e : Nat) : Nat := field 63 62 e
def segHolds (e : Nat) : Nat := field 61 56 e
def segL (e : Nat) : Nat := field 45 0 e
def mkSeg (st holds l : Nat) : Nat := st <<< 62 + (holds % 64) <<< 56 + l % 2 ^ 46

/-- Data segments of a ring. -/
def Core.nseg (c : Core) (r : Nat) : Nat := c.get (Obj.Region.DATA_MIB r)

/-- Write eight map entries to the region (R85). -/
def Core.writeMap (c : Core) (r q : Nat) : Core :=
  let data := (List.range 8).foldl (fun a i => a * 2 ^ 64 + (c.ringOf r).map.num (8 * q + i)) 0
  c.request (writeReq (c.regionHa r + c.nseg r * 2 ^ 14 + q) 2 data false .side)

/-- Change map entries, and write those changed to the region. -/
def Core.setSegs (c : Core) (r : Nat) (l : List (Nat × Nat)) : Core :=
  let c1 := c.updRing r fun g => { g with map := l.foldl (fun m e => m.setNum e.1 e.2) g.map }
  (l.map fun e => e.1 / 8).eraseDups.foldl (fun c q => c.writeMap r q) c1

/-- Windows that hold a physical segment of a region (R85). -/
def Core.holdersOf (c : Core) (r p : Nat) : List Nat :=
  (c.wins.filter fun w => w.2.members.any fun m => m.region == r && m.held.contains p).map (·.1)

/-- Members of frozen windows on a region. -/
def Core.membersOn (c : Core) (r : Nat) : List WinMember :=
  (c.wins.map fun w => w.2.members.filter fun m => m.region == r).flatten

/-- Logical segments of a region that windows reserve, each once. -/
def Core.reservedOn (c : Core) (r : Nat) : List Nat := ((c.membersOn r).map (·.reserved)).flatten.eraseDups

/-- Segments of a region that windows hold or reserve, each once (R117). -/
def Core.committedSegs (c : Core) (r : Nat) : Nat :=
  ((c.membersOn r).map (·.held)).flatten.eraseDups.length + (c.reservedOn r).length

/-- The lowest LSEG that is FILLING or FILLED (R88). -/
def lowestSeg (m : Tbl Nat) : Option Nat :=
  m.foldl (fun a e =>
    if segState e.2 = Seg.filling || segState e.2 = Seg.filled then
      match a with | none => some (segL e.2) | some x => some (min x (segL e.2))
    else a) none

/-- The status fields of a ring's descriptor follow its map and spans (R82, R88, R117). -/
def Core.refreshRing (c : Core) (r : Nat) : Core :=
  let g := c.ringOf r
  let c1 := (c.put (Obj.Region.SEGS_HELD r) (g.map.filter fun e => segState e.2 == Seg.held).length).put
    (Obj.Region.SPANS_USED r) g.spans.length
  let c2 := c1.put (Obj.Quota.SEGS_COMMITTED r) (c1.committedSegs r)
  if g.sps ≠ 0 then
    c2.put (Obj.Region.RING_TAIL r) (match lowestSeg g.map with
      | some l => l * g.sps | none => c.get (Obj.Region.RING_HEAD r))
  else c2

/-! ## Spans (R79, R80) -/

def spanFirst (s : Nat) : Nat := field 255 192 s
def spanLast (s : Nat) : Nat := field 191 128 s
/-- Bits [118:112]: LINK_ERR 64, GAP 32, RATE_CHANGE 16, THRESHOLD 8, ABANDONED 4, CROSSFADE 2, SETTLING 1. -/
def spanMarks (s : Nat) : Nat := field 118 112 s

abbrev Mk.settling : Nat := 1
abbrev Mk.crossfade : Nat := 2
abbrev Mk.abandoned : Nat := 4
abbrev Mk.threshold : Nat := 8
abbrev Mk.rateChange : Nat := 16
abbrev Mk.gap : Nat := 32
abbrev Mk.linkErr : Nat := 64

/-- Is a span of zero length (R79)? -/
def spanEmpty (s : Nat) : Bool := (spanLast s + 1) % 2 ^ 64 == spanFirst s

/-- One above the last sample of a span; FIRST for one of zero length. -/
def spanEnd (s : Nat) : Nat := if spanEmpty s then spanFirst s else spanLast s + 1

/-- A span record from FIRST, the index one above LAST, bits [119:112], ARG and DSEQ (R79). -/
def mkSpan (first stop marks arg dseq : Nat) : Nat :=
  let body := first <<< 192 + ((stop + 2 ^ 64 - 1) % 2 ^ 64) <<< 128 + marks <<< 112 + (arg % 2 ^ 32) <<< 80
    + (dseq % 2 ^ 32) <<< 32
  body + crc32c ((toBytes 32 body).take 28)

/-- Does a span touch a range (R79, R150)? -/
def spanTouches (s lo hi : Nat) : Bool :=
  if spanEmpty s then lo ≤ spanFirst s && spanFirst s ≤ hi else spanFirst s ≤ hi && lo ≤ spanLast s

/-- Write two span slots to the region. -/
def Core.writeSpans (c : Core) (r q : Nat) : Core :=
  let g := c.ringOf r
  let data := g.spans.num (2 * q) <<< 256 + g.spans.num (2 * q + 1)
  c.request (writeReq (c.regionHa r + (c.nseg r + c.get (Obj.Region.MAP_MIB r)) * 2 ^ 14 + q) 2 data false .side)

/-- Change a span slot. -/
def Core.setSpan (c : Core) (r slot v : Nat) : Core :=
  (c.updRing r fun g => { g with spans := g.spans.setNum slot v, newest := some slot }).writeSpans r (slot / 2)

/-- Does a span touch a HELD segment (R80)? `sps` is the samples of a segment. -/
def Core.spanHeld (c : Core) (r sps s : Nat) : Bool :=
  (c.ringOf r).map.any fun e => segState e.2 == Seg.held && spanTouches s (segL e.2 * sps) (segL e.2 * sps + sps - 1)

/-- May a slot be overwritten (R80)? -/
def Core.slotFree (c : Core) (r sps slot : Nat) : Bool :=
  let s := (c.ringOf r).spans.num slot
  s = 0 || (spanEnd s ≤ c.get (Obj.Region.RING_TAIL r) && spanFirst s < c.get (Obj.Region.RING_TAIL r)
    && !(c.spanHeld r sps s))

/-- Write a new span at SPAN_HEAD, which moves on (R80). -/
def Core.takeSlot (c : Core) (r first stop marks arg dseq : Nat) : Core :=
  let h := c.get (Obj.Region.SPAN_HEAD r)
  ((c.setSpan r h (mkSpan first stop marks arg dseq)).put (Obj.Region.SPAN_HEAD r)
    ((h + 1) % (c.get (Obj.Region.SPAN_MIB r) * 32768))).refreshRing r

/-- Record a span in the table of the stream's region: extend the newest, or take a slot, or widen the newest (R78,
R80). A span that is extended or widened keeps its ARG and DSEQ. DESIGN CHOICE, unsafe (log entry 82). -/
def Core.addSpan (c : Core) (st first stop marks arg dseq : Nat) : Core :=
  let r := c.get (Obj.Stream.REGION st)
  let g := c.ringOf r
  let old := match g.newest with | none => 0 | some k => g.spans.num k
  match g.newest with
  | some k =>
    if spanMarks old = marks && first ≤ spanEnd old then
      c.setSpan r k (mkSpan (min first (spanFirst old)) (max stop (spanEnd old)) (field 119 112 old) (field 111 80 old)
        (field 63 32 old))
    else if c.slotFree r (c.spseg st) (c.get (Obj.Region.SPAN_HEAD r)) then c.takeSlot r first stop marks arg dseq
    else
      (c.setSpan r k (mkSpan (min first (spanFirst old)) (max stop (spanEnd old)) (128 ||| field 119 112 old ||| marks)
        (field 111 80 old) (field 63 32 old))).flag (Obj.Stream.FLAGS st) 10
  | none => c.takeSlot r first stop marks arg dseq

/-- Spans of a region that touch a range, by slot. -/
def Core.spansIn (c : Core) (r lo hi : Nat) : List (Nat × Nat) :=
  (c.ringOf r).spans.filter fun e => spanTouches e.2 lo hi

/-- Marks of the spans that cover a sample. -/
def Core.marksAt (c : Core) (r n : Nat) : Nat := (c.spansIn r n n).foldl (fun a e => a ||| spanMarks e.2) 0

/-! ## Holds (R114, R116) -/

/-- Recompute the HOLDS of physical segments: a HELD one that no window holds becomes EMPTY (R85, R116). -/
def Core.rehold (c : Core) (r : Nat) (ps : List Nat) : Core :=
  let c1 := c.setSegs r (ps.map fun p =>
    let e := (c.ringOf r).map.num p
    let h := (c.holdersOf r p).length
    let st := segState e
    (p, if st = Seg.empty then 0
        else if st = Seg.held && h = 0 then 0
        else if st = Seg.filled && 0 < h then mkSeg Seg.held h (segL e)
        else mkSeg st h (segL e)))
  c1.refreshRing r

/-- Release a window: its holds and reservations go, and it is rearmed or disarmed (R116). -/
def Core.dropWindow (c : Core) (w : Nat) : Core :=
  let ms := (c.winOf w).members
  let rearm := c.get (Obj.Window.REARM w)
  let c1 := (c.updWin w fun s => { s with members := [] }).put (Obj.Window.STATE w) rearm
  ms.foldl (fun c m => c.rehold m.region m.held) (c1.put (Obj.Window.ARM w) rearm)

/-- Windows that hold segments of a region and are not DRAINING, in the order of their freezes (R117).
DEDUCED, unsafe (log entry 47). -/
def Core.evictable (c : Core) (r : Nat) : List Nat :=
  ((c.wins.filter fun w => c.get (Obj.Window.STATE w.1) ≠ 4 && w.2.members.any fun m => m.region == r && m.held ≠ []
      ).mergeSort fun a b => a.2.order ≤ b.2.order).map (·.1)

/-- Evict a window for a region (R117). DEDUCED, unsafe (log entry 47). -/
def Core.evict (c : Core) (r w : Nat) : Core :=
  ((c.dropWindow w).flag (Obj.Window.FLAGS w) 7).inc (Obj.Quota.EVICTIONS r)

/-! ## The cursor (R87, R118) -/

/-- May the cursor take a segment (R118)? -/
def segFree (e : Nat) : Bool := segState e != Seg.held && segHolds e == 0

/-- The segments after a position in cursor order, the position itself last. -/
def cursorOrder (n p : Nat) : List Nat := (List.range n).map fun i => (p + 1 + i) % n

/-- The segment that the cursor takes next; never the one it stands on (R87). -/
def Core.nextSeg (c : Core) (r p : Nat) : Option Nat :=
  ((cursorOrder (c.nseg r) p).dropLast).find? fun q => segFree ((c.ringOf r).map.num q)

/-- The segment the cursor leaves becomes FILLED, or HELD when windows hold it (R87, R114). -/
def Core.leaveSeg (c : Core) (r p : Nat) : Core :=
  let e := (c.ringOf r).map.num p
  if segState e = Seg.filling then
    c.setSegs r [(p, mkSeg (if segHolds e = 0 then Seg.filled else Seg.held) (segHolds e) (segL e))]
  else c

/-- Reservations of a logical segment turn into holds of the physical one (R114). -/
def Core.claimSeg (c : Core) (r p l : Nat) : Core :=
  let f := fun (m : WinMember) =>
    if m.region == r && m.reserved.contains l then { m with held := p :: m.held, reserved := m.reserved.erase l } else m
  c.wins.foldl (fun c w => c.updWin w.1 fun s => { s with members := s.members.map f }) c

/-- The segment the cursor reaches becomes FILLING with its new LSEG (R87, R114). -/
def Core.enterSeg (c : Core) (r p l : Nat) : Core :=
  let c1 := c.claimSeg r p l
  (c1.setSegs r [(p, mkSeg Seg.filling (c1.holdersOf r p).length l)]).put (Obj.Region.CURSOR r) p

/-- The next segment, after evictions under EVICT_OLDEST where none is free (R118); without success nothing is
evicted. -/
def Core.findSeg (c : Core) (r p : Nat) : Option (Nat × Core) :=
  match c.nextSeg r p with
  | some q => some (q, c)
  | none =>
    if c.get (Obj.Quota.OVERFLOW r) = 1 then
      ((c.evictable r).foldl (fun (a : Option (Nat × Core) × Core) w =>
        match a.1 with
        | some _ => a
        | none => let c1 := a.2.evict r w; ((c1.nextSeg r p).map fun q => (q, c1), c1)) (none, c)).1
    else none

/-- One cursor step to a logical segment; false when no segment is free (R87, R118). -/
def Core.stepSeg (c : Core) (r l : Nat) : Core × Bool :=
  let p := c.get (Obj.Region.CURSOR r)
  match c.findSeg r p with
  | none => (c, false)
  | some (q, c1) => (((c1.leaveSeg r p).enterSeg r q l).updRing r fun g => { g with prev := p }, true)

/-- Move the cursor to a logical segment; each skipped segment moves it as if written, and only the last DATA_MIB of a
longer jump change the map (R87). -/
def Core.moveCursor (c : Core) (r l : Nat) : Core × Bool :=
  let n := c.nseg r
  let p := c.get (Obj.Region.CURSOR r)
  let j := l - segL ((c.ringOf r).map.num p)
  let c0 :=
    if j ≤ n then c
    else
      let c1 := c.leaveSeg r p
      let free := (cursorOrder n p).filter fun q => segFree ((c1.ringOf r).map.num q)
      if free.isEmpty then c else c1.put (Obj.Region.CURSOR r) (nth free ((j - n - 1) % free.length) p)
  let k := min j n
  let x := (List.range k).foldl (fun (a : Core × Bool) i => if a.2 then a.1.stepSeg r (l - k + 1 + i) else a) (c0, true)
  (x.1.refreshRing r, x.2)

/-- Is any ring blocked? -/
def Core.anyBlocked (c : Core) : Bool := c.rings.any fun e => e.2.blocked.isSome

/-- A ring is blocked no longer; the fault's condition ends with the last one (R118). -/
def Core.ringFreed (c : Core) (r : Nat) : Core :=
  if (c.ringOf r).blocked.isNone then c
  else
    let c1 := c.updRing r fun g => { g with blocked := none }
    if c1.anyBlocked then c1 else c1.endStanding Src.wrRingBlocked

/-- ENABLE: entries that no window holds become EMPTY, others HELD, and the cursor is placed for a logical segment of `sps`
samples (R87). -/
def Core.startRing (c0 : Core) (r l sps : Nat) : Core :=
  let c := (c0.ringFreed r).updRing r fun g => { g with sps := sps }
  let n := c.nseg r
  let c1 := c.setSegs r ((c.ringOf r).map.map fun e =>
    (e.1, if segHolds e.2 = 0 then 0 else mkSeg Seg.held (segHolds e.2) (segL e.2)))
  let p := l % n
  let q := ((p :: cursorOrder n p).find? fun q => segFree ((c1.ringOf r).map.num q)).getD p
  (c1.enterSeg r q l).refreshRing r

/-- A blocked cursor moves on if it finds a segment (R118). -/
def Core.tryUnblock (c : Core) (r : Nat) : Core :=
  match (c.ringOf r).blocked with
  | none => c
  | some l => let x := c.moveCursor r l; if x.2 then x.1.ringFreed r else c

/-- Where a release or an eviction has freed a segment, blocked cursors move on (R118). One that evicts a window may free
another, so each is tried once for every blocked ring. -/
def Core.unblock (c : Core) : Core :=
  let bs := (c.rings.filter fun e => e.2.blocked.isSome).map (·.1)
  bs.foldl (fun c _ => bs.foldl (fun c r => c.tryUnblock r) c) c

/-- Release a window, and move on blocked cursors (R116, R118). -/
def Core.releaseWindow (c : Core) (w : Nat) : Core := (c.dropWindow w).unblock

end Sys2Proof.Machine
end

