-- ==== Sys2Proof/Machine/Weir.lean ====
section
/-! DEFINITION. Trigger retention: acceptance and refusal of triggers, window bounds, the freeze, quotas and the progress of
frozen windows (04_weir_retention.md). -/

namespace Sys2Proof.Machine

/-- The next generation of a computed result: 0 is never assigned again (R134). -/
def nextGen (g : Nat) : Nat := if g = 65535 then 1 else g + 1

/-! ## Window configuration (R101, R102) -/

/-- Used member records of a window: member number, stream and delay (R102). -/
def Core.usedMembers (c : Core) (w : Nat) : List (Nat × Nat × Nat) :=
  (List.range 16).filterMap fun k =>
    let v := c.get (Obj.Window.MEMBER w k)
    if field 127 112 v ≤ 255 then some (k, field 127 112 v, field 63 0 v) else none

/-- Is the region of a stream a RING region? -/
def Core.streamRing (c : Core) (st : Nat) : Bool :=
  let r := c.get (Obj.Stream.REGION st)
  r ≤ 1023 && c.get (Obj.Region.PERSONALITY r) = 2

/-- WINDOW_ARM (R103). -/
def Core.armWindow (c : Core) (w : Nat) : Status × Core :=
  if c.get (Obj.Window.STATE w) ≠ 0 then (.ok, c)
  else
    let ms := (c.usedMembers w).map fun m => m.2.1
    if ms.isEmpty || ms.eraseDups.length ≠ ms.length || !(ms.all c.streamRing) then (.malformed, c)
    else (.ok, (c.put (Obj.Window.STATE w) 1).put (Obj.Window.ARM w) 1)

/-- WINDOW_DISARM (R103, R116). -/
def Core.disarmWindow (c : Core) (w : Nat) : Status × Core :=
  match c.get (Obj.Window.STATE w) with
  | 0 => (.ok, c)
  | 1 => (.ok, (c.put (Obj.Window.STATE w) 0).put (Obj.Window.ARM w) 0)
  | _ => (.retry, c)

/-! ## Results (R112, R113) -/

abbrev Wm.done : Nat := 0
abbrev Wm.checked : Nat := 1
abbrev Wm.gaps : Nat := 2
abbrev Wm.inCrossfade : Nat := 3
abbrev Wm.settlingMoved : Nat := 4
abbrev Wm.clippedPre : Nat := 5
abbrev Wm.clippedPost : Nat := 6
abbrev Wm.truncated : Nat := 7
abbrev Wm.timebaseOld : Nat := 8
abbrev Wm.moveRefused : Nat := 9

/-- Set a flag of a member's result. -/
def WinMember.set (m : WinMember) (n : Nat) : WinMember := { m with flags := setBitTo n true m.flags }

/-- An exact index, bounded to 64 bits. -/
def bound64 (i : Int) : Nat := min i.toNat (2 ^ 64 - 1)

/-- The result record of a member (R112). -/
def WinMember.result (m : WinMember) : Nat :=
  m.firstEff <<< 192 + bound64 m.c <<< 128 + m.lastEff <<< 64 + (m.held.length + m.reserved.length) <<< 32 + m.flags

/-- The result objects and flags of a window follow its members (R101, R112, R113). -/
def Core.publishWin (c : Core) (w : Nat) : Core :=
  let ms := (c.winOf w).members
  let c1 := (List.range 16).foldl (fun c k =>
    c.put (Obj.Window.RESULT w k) (match ms.find? fun m => m.k == k with | some m => m.result | none => 0)) c
  let c2 := c1.put (Obj.Window.SEGS_RESERVED w) (ms.foldl (fun a m => a + m.held.length + m.reserved.length) 0)
  let any := fun (mask : Nat) => ms.any fun m => m.flags &&& mask ≠ 0
  let c3 := if any 0x3FC then c2.flag (Obj.Window.FLAGS w) 3 else c2
  if any 0xE0 then c3.flag (Obj.Window.FLAGS w) 2 else c3

/-- The objects of a window's result (R101). -/
def winResultKeys (w : Nat) : List Nat :=
  (List.range 6).map (fun i => 0x2A000D + 0x100 * w + i) ++ (List.range 16).map fun k => Obj.Window.RESULT w k

/-- A computed result begins a generation: what it shows until READY is what it last completed. -/
def Core.keepShown (c : Core) (ready : Nat) (keys : List Nat) : Core :=
  if c.get ready = 1 then c.withShown (keys.foldl (fun t k => t.setNum k (c.get k)) c.shown) else c

/-! ## Bounds (R110) -/

/-- A member as a trigger places it. -/
structure Placed where
  k : Nat
  stream : Nat
  region : Nat
  c : Int
  pre : Nat
  post : Nat
  spec : Nat
  first : Nat
  last : Int
  old : Bool
  deriving DecidableEq, Repr

/-- FIRST and LAST around a centre (R110). -/
def boundsAt (c : Int) (pre post spec : Nat) : Nat × Int :=
  let first := (c - pre).toNat
  let last := min (c + post) (2 ^ 64 - 1)
  if spec = 0 then (first, last)
  else (first - first % spec, last - last % (spec : Int) + spec - 1)

/-- Place a member for an event time (R110). A stream without a time base has no stated centre: it is a free value.
DEDUCED, unsafe (log entry 46). The rate is that of the entry of TB_LOG that converts the time. DESIGN CHOICE, unsafe (log
entry 83). -/
def Core.placeMember (c : Core) (w : Nat) (te : Rat) (m : Nat × Nat × Nat) : Placed × Core :=
  let st := m.2.1
  let spec := c.specOf st
  let r := c.get (Obj.Stream.REGION st)
  match baseWhen (c.streamOf st).bases (te + m.2.2) with
  | some (b, ok) =>
    let num : Rat := effNum spec b.num
    let den : Rat := (b.den : Rat) * 1000000000
    let g : Rat := (c.get (Obj.Stream.GDELAY st) : Rat) / 65536
    let x := ((b.s : Rat) + (te + m.2.2 - b.t) * num / den + g).ceil
    let pre := ((c.get (Obj.Window.PRE_NS w) : Rat) * num / den).ceil.toNat
    let post := ((c.get (Obj.Window.POST_NS w) : Rat) * num / den).ceil.toNat
    let fl := boundsAt x pre post spec
    ({ k := m.1, stream := st, region := r, c := x, pre := pre, post := post, spec := spec, first := fl.1, last := fl.2,
       old := !ok }, c)
  | none =>
    let x := c.draw (2 ^ 64)
    let fl := boundsAt x.1 0 0 spec
    ({ k := m.1, stream := st, region := r, c := x.1, pre := 0, post := 0, spec := spec, first := fl.1, last := fl.2,
       old := true }, x.2)

/-- Place every used member (R110); per-trigger delays replace the template's (R104). -/
def Core.placeAll (c : Core) (w : Nat) (te : Rat) (delays : Option (List Nat)) : List Placed × Core :=
  (c.usedMembers w).foldl (fun a m =>
    let d := match delays with | some l => nth l m.1 0 | none => m.2.2
    let x := a.2.placeMember w te (m.1, m.2.1, d)
    (a.1 ++ [x.1], x.2)) ([], c)

/-! ## Segments of a range, and quotas (R114, R117) -/

/-- The logical segment the ring has reached: none before the first ENABLE. -/
def Core.topSeg (c : Core) (r : Nat) : Option Nat :=
  ((c.ringOf r).map.find? fun e => segState e.2 == Seg.filling).map fun e => segL e.2

/-- Physical segments present for a range of logical ones, in logical order. -/
def Core.presentIn (c : Core) (r lo hi : Nat) : List (Nat × Nat) :=
  ((((c.ringOf r).map.filter fun e => segState e.2 != Seg.empty && lo ≤ segL e.2 && segL e.2 ≤ hi)).map
    fun e => (e.1, segL e.2)).mergeSort fun a b => a.2 ≤ b.2

/-- The first logical segment of a range that is not yet written. -/
def Core.unwrittenFrom (c : Core) (r lo : Nat) : Nat :=
  match c.topSeg r with | some t => max lo (t + 1) | none => lo

/-- The first `limit` logical segments of a range that no window holds or reserves yet and that are present or not yet
written, in ascending order (R117). -/
def Core.newSegs (c : Core) (r lo hi limit : Nat) : List Nat :=
  let present := ((c.presentIn r lo hi).filter fun e => (c.holdersOf r e.1).isEmpty).map (·.2)
  let rs := c.unwrittenFrom r lo
  let others := c.reservedOn r
  let ahead := ((List.range (min (hi + 1 - rs) (limit + others.length))).map fun i => rs + i).filter
    fun l => !others.contains l
  (present ++ ahead).take limit

/-- The quota of a region (R117). -/
def Core.quotaOf (c : Core) (r : Nat) : Nat :=
  let q := c.get (Obj.Quota.QUOTA_SEG r)
  if q = 0 then c.nseg r / 2 else q

/-- Room under the quota. -/
def Core.room (c : Core) (r : Nat) : Nat := c.quotaOf r - c.committedSegs r

/-- Do the segments held and reserved, plus the new ones of a range, fit under the quota? -/
def Core.fits (c : Core) (r lo hi : Nat) : Bool :=
  c.committedSegs r + (c.newSegs r lo hi (c.room r + 1)).length ≤ c.quotaOf r

/-- A plan of a freeze: the state with the windows' holds as planned, the windows evicted with their members, the regions
whose quota was met. -/
structure FreezePlan where
  core : Core
  evicted : List (Nat × Nat × List WinMember)
  hit : List Nat
  deriving DecidableEq, Repr

/-- Fit a range of a member under its region's policy: the last logical segment granted, or none for a refusal (R117).
`keep` is the segment that CLIP may not give up. DEDUCED, unsafe (log entry 47). -/
def FreezePlan.fit (p : FreezePlan) (w r lo hi keep : Nat) : FreezePlan × Option Nat :=
  let c := p.core
  if c.fits r lo hi then (p, some hi)
  else
    let p1 := { p with hit := r :: p.hit }
    match c.get (Obj.Quota.OVERFLOW r) with
    | 1 =>
      let x := ((c.evictable r).filter fun v => v != w).foldl (fun (a : Core × List (Nat × Nat × List WinMember)) v =>
        if a.1.fits r lo hi then a
        else
          let ms := (a.1.winOf v).members
          (a.1.updWin v fun s => { s with members := [] }, a.2 ++ [(v, r, ms)])) (c, p.evicted)
      if x.1.fits r lo hi then ({ p1 with core := x.1, evicted := x.2 }, some hi) else (p1, none)
    | 2 =>
      let x := (c.newSegs r lo hi (c.room r + 1)).getLastD 0
      if keep < x then (p1, some (x - 1)) else (p1, none)
    | _ => (p1, none)

/-- Take the segments of a range for a member (R114): present ones are held, unwritten ones reserved. -/
def Core.takeSegs (c : Core) (m : WinMember) (lo hi : Nat) : WinMember :=
  let present := (c.presentIn m.region lo hi).map (·.1)
  let rs := c.unwrittenFrom m.region lo
  let ahead := (List.range (hi + 1 - rs)).map fun i => rs + i
  { m with held := (m.held ++ present).eraseDups, reserved := (m.reserved ++ ahead).eraseDups }

/-- Are some segments of a range no longer present (R114)? -/
def Core.lostIn (c : Core) (r lo hi : Nat) : Bool :=
  (c.presentIn r lo hi).length + (hi + 1 - c.unwrittenFrom r lo) < hi + 1 - lo

/-- The member of a window for a placed one, once its range fits (R112, R114). With nothing retained FIRST_EFF is not
stated: it is a free value. -/
def FreezePlan.addMember (p : FreezePlan) (w : Nat) (m : Placed) : FreezePlan × Bool :=
  let c := p.core
  let sps := c.spseg m.stream
  let lo := m.first / sps
  let hi := (bound64 m.last) / sps
  let base : WinMember :=
    { k := m.k, stream := m.stream, region := m.region, c := m.c, pre := m.pre, post := m.post, spec := m.spec,
      firstEff := m.first, lastEff := bound64 m.last, flags := if m.old then 2 ^ Wm.timebaseOld else 0, held := [],
      reserved := [] }
  let add := fun (p : FreezePlan) (x : WinMember) =>
    { p with core := p.core.updWin w fun s => { s with members := s.members ++ [x] } }
  if !(c.streamRing m.stream) || m.last < m.first then (add p base, true)
  else
    match p.fit w m.region lo hi (bound64 m.c / sps) with
    | (p1, none) => (p1, false)
    | (p1, some h) =>
      let x := p1.core.takeSegs base lo h
      let x1 := if h < hi then { x.set Wm.clippedPost with lastEff := (h + 1) * sps - 1 } else x
      if p1.core.lostIn m.region lo h then
        let present := (p1.core.presentIn m.region lo h).map (·.2)
        match present ++ x1.reserved with
        | [] =>
          let d := p1.core.draw (2 ^ 64)
          (add { p1 with core := d.2 } { x1.set Wm.clippedPre with firstEff := d.1 }, true)
        | l :: _ => (add p1 { x1.set Wm.clippedPre with firstEff := max m.first (l * sps) }, true)
      else (add p1 x1, true)

/-- Windows that reserve a logical segment of a region. -/
def Core.reserversOf (c : Core) (r l : Nat) : List Nat :=
  (c.wins.filter fun w => w.2.members.any fun m => m.region == r && m.reserved.contains l).map (·.1)

/-- Would a segment of the range, present or reserved, be held by more than 63 windows (R108)? -/
def Core.holdsLimit (c : Core) (w r lo hi : Nat) : Bool :=
  ((c.presentIn r lo hi).any fun e => 63 ≤ ((c.holdersOf r e.1).filter (· != w)).length)
  || ((c.reservedOn r).filter fun l => lo ≤ l && l ≤ hi).any fun l => 63 ≤ ((c.reserversOf r l).filter (· != w)).length

/-- The plan takes effect in one step: evicted windows are released, and every segment's HOLDS follows (R114, R117). -/
def Core.commitPlan (c : Core) (w : Nat) (p : FreezePlan) : Core :=
  let c1 := p.evicted.foldl (fun c e =>
    let rearm := c.get (Obj.Window.REARM e.1)
    (((c.put (Obj.Window.STATE e.1) rearm).put (Obj.Window.ARM e.1) rearm).flag (Obj.Window.FLAGS e.1) 7).inc
      (Obj.Quota.EVICTIONS e.2.1)) ((c.withWins p.core.wins).withDrawn p.core.drawn)
  let c2 := p.evicted.foldl (fun c e => e.2.2.foldl (fun c m => c.rehold m.region m.held) c) c1
  let c3 := (c2.winOf w).members.foldl (fun c m => c.rehold m.region m.held) c2
  p.hit.foldl (fun c r => c.flag (Obj.Quota.FLAGS r) 0) c3.unblock

/-! ## Progress of a frozen window (R111, R115) -/

/-- The end of the SETTLING spans that cover an index, one above it; the index itself where none does (R111). -/
def Core.settledFrom (c : Core) (r : Nat) : Nat → Nat → Nat
  | 0, n => n
  | fuel + 1, n =>
    match (c.spansIn r n n).find? fun e => spanMarks e.2 &&& Mk.settling ≠ 0 with
    | some e => c.settledFrom r fuel (spanEnd e.2)
    | none => n

/-- Replace a member of a window. -/
def Core.setMember (c : Core) (w : Nat) (m : WinMember) : Core :=
  c.updWin w fun s => { s with members := s.members.map fun x => if x.k = m.k then m else x }

/-- The check of R111: a centre in a SETTLING span moves, and its bounds are placed around it anew, an extension's LAST too; it
is not checked a second time. DESIGN CHOICE, unsafe (log entry 83). -/
def Core.checkCentre (c : Core) (w : Nat) (m : WinMember) : Core :=
  let n := m.c.toNat
  let n' := if m.c < 0 then n else c.settledFrom m.region ((c.ringOf m.region).spans.length + 1) n
  let mark := fun (c : Core) (m : WinMember) =>
    let k := c.marksAt m.region m.c.toNat
    c.setMember w ((if 0 ≤ m.c && k &&& (Mk.crossfade ||| Mk.abandoned) ≠ 0 then m.set Wm.inCrossfade else m).set
      Wm.checked)
  if n' = n then mark c m
  else
    let fl := boundsAt n' m.pre m.post m.spec
    let sps := c.spseg m.stream
    let lo := m.firstEff / sps
    let hi := bound64 fl.2 / sps
    let x := (FreezePlan.mk c [] []).fit w m.region lo hi (n' / sps)
    match x.2 with
    | none => mark (x.1.hit.foldl (fun c r => c.flag (Obj.Quota.FLAGS r) 0) c) (m.set Wm.moveRefused)
    | some h =>
      let m1 := { x.1.core.takeSegs m lo h with
        c := n'
        firstEff := if m.flags.testBit Wm.clippedPre then max fl.1 m.firstEff else fl.1
        lastEff := if h < hi then (h + 1) * sps - 1 else bound64 fl.2 }
      let m2 := (if h < hi then m1.set Wm.clippedPost else m1).set Wm.settlingMoved
      let c1 := c.commitPlan w { x.1 with core := x.1.core.setMember w m2 }
      mark c1 m2

/-- Is a member's stream past storing any more: DISABLED, or ENDED with every block committed (R115)? -/
def Core.streamOver (c : Core) (st : Nat) : Bool :=
  c.get (Obj.Stream.STATE st) = 0
  || (c.get (Obj.Stream.STATE st) = 3 && !(c.streamOf st).blocks.any fun b => b.due || b.uncommitted.isSome)

/-- One member's progress. DEDUCED, unsafe (log entry 46). -/
def Core.memberProgress (c : Core) (w : Nat) (m0 : WinMember) : Core :=
  let c1 :=
    if !(m0.flags.testBit Wm.checked) && m0.c < (c.get (Obj.Stream.NEXT_INDEX m0.stream) : Int) then c.checkCentre w m0
    else c
  match (c1.winOf w).members.find? fun m => m.k == m0.k with
  | none => c1
  | some m =>
    if m.flags.testBit Wm.done then c1
    else
      let head := c1.get (Obj.Region.RING_HEAD m.region)
      let gaps := (c1.spansIn m.region m.firstEff m.lastEff).any fun e => spanMarks e.2 &&& (Mk.gap ||| Mk.linkErr) ≠ 0
      let m1 := if gaps then m.set Wm.gaps else m
      if m1.lastEff < head then c1.setMember w (m1.set Wm.done)
      else if c1.streamOver m.stream then
        let d := if head = 0 then c1.draw (2 ^ 64) else (head - 1, c1)
        (d.2.setMember w { (m1.set Wm.truncated).set Wm.done with lastEff := d.1, reserved := [] }).refreshRing m.region
      else c1.setMember w m1

/-- A PENDING window's progress: each member, and COMPLETE when every member is DONE (R115). -/
def Core.winProgress (c : Core) (w : Nat) : Core :=
  if c.get (Obj.Window.STATE w) = 2 then
    let c1 := (c.winOf w).members.foldl (fun c m => c.memberProgress w m) c
    let c2 := c1.publishWin w
    if (c2.winOf w).members.all fun m => m.flags.testBit Wm.done then
      ((c2.put (Obj.Window.STATE w) 3).put (Obj.Window.READY w) 1).flag (Obj.Window.FLAGS w) 1
    else c2
  else c

/-- Every window's progress. -/
def Core.weirProgress (c : Core) : Core := (c.wins.map (·.1)).foldl (fun c w => c.winProgress w) c

/-! ## Decision (R108, R109) -/

/-- A trigger: its source (0 HEADRACE, 1 SAIL, 2 THRESHOLD), reference stream and index or event time, TRIGGER_ID, DETECTOR and
LEVEL (R81, R104; 0 where it carries none), per-trigger delays, and the arrival port. -/
structure Trigger where
  src : Nat
  stream : Nat
  tidx : Nat
  tt : Nat
  id : Nat
  detector : Nat
  level : Nat
  delays : Option (List Nat)
  port : Nat
  deriving DecidableEq, Repr

/-- The event time at zero delay (R110), and T_EVENT as written. Where the reference stream has no time base the time is
not stated: a free value, written as 0 (R76). -/
def Core.eventTime (c : Core) (w : Nat) (t : Trigger) : Rat × Nat × Core :=
  if t.src = 1 then ((t.tt : Rat) / 4294967296, t.tt, c)
  else
    let st := t.stream
    let d : Nat := match (c.usedMembers w).find? fun m => m.2.1 == st with
      | some m => (match t.delays with | some l => nth l m.1 0 | none => m.2.2)
      | none => 0
    match baseAt (c.streamOf st).bases t.tidx with
    | some (b, _) =>
      let g : Rat := (c.get (Obj.Stream.GDELAY st) : Rat) / 65536
      let te := b.timeOf (c.specOf st) t.tidx - g * b.den * 1000000000 / effNum (c.specOf st) b.num - ratOf d
      (te, (time96 te).1, c)
    | none => let x := c.draw (2 ^ 64); (x.1, 0, x.2)

/-- Record a refusal (R108). -/
def Core.refuseTrigger (c : Core) (w cause : Nat) (s : Status) : Status × Core :=
  (s, ((c.put (Obj.Window.LAST_REFUSAL w) cause).inc (Obj.Window.REFUSALS w)).flag (Obj.Window.FLAGS w) 4)

/-- The causes that need no placement: 1 to 5 of R108. -/
def Core.earlyRefusal (c : Core) (w : Nat) (t : Trigger) : Option (Nat × Status) :=
  let regions := (c.usedMembers w).map fun m => c.get (Obj.Stream.REGION m.2.1)
  if !((c.get (Obj.Window.SOURCES w)).testBit t.src) then some (1, .retry)
  else if c.get (Obj.Window.STATE w) = 0 then some (2, .retry)
  else if t.src ≠ 1 && !((c.usedMembers w).any fun m => m.2.1 == t.stream) then some (3, .malformed)
  else if t.src = 0 && !(regions.all fun r => (c.get (Obj.Region.OWNER_MASK r)).testBit t.port) then some (4, .noRegion)
  else if t.src = 0 && !(c.bitOf Obj.Sec.PORT_WORLD t.port) && (regions.any fun r => c.get (Obj.Region.WORLD r) = 1) then
    some (5, .deniedWorld)
  else none

/-- A Headrace or threshold trigger that a window accepts goes to the array (R107). -/
def Core.forwardTrigger (c : Core) (w : Nat) (t : Trigger) (tt : Nat) : Core :=
  if t.src ≠ 1 && c.isSet (Obj.Window.SAIL_FORWARD w) then c.ask (.sailTrigger w t.id tt t.delays) else c

/-- Does every member's LAST lie below its RING_TAIL (R108)? -/
def Core.tooLate (c : Core) (ps : List Placed) : Bool :=
  ps.all fun m => m.last < (c.get (Obj.Region.RING_TAIL m.region) : Int)

/-- Freeze an ARMED window (R108 causes 7 to 9, R114, R116). DEDUCED, unsafe (log entry 46). -/
def Core.freeze (c : Core) (w : Nat) (t : Trigger) (te : Rat) (tt : Nat) : Status × Core :=
  let x := c.placeAll w te t.delays
  let ps := x.1
  if x.2.tooLate ps then x.2.refuseTrigger w 7 .noRegion
  else if ps.any fun m => x.2.holdsLimit w m.region (m.first / x.2.spseg m.stream) (bound64 m.last / x.2.spseg m.stream)
  then x.2.refuseTrigger w 8 .retry
  else
    let start : FreezePlan := { core := x.2.updWin w fun s => { s with members := [] }, evicted := [], hit := [] }
    let p := ps.foldl (fun (a : FreezePlan × Bool) m => if a.2 then a.1.addMember w m else a) (start, true)
    if !p.2 then (p.1.hit.foldl (fun c r => c.flag (Obj.Quota.FLAGS r) 0) x.2).refuseTrigger w 9 .retry
    else
      let c1 := x.2.keepShown (Obj.Window.READY w) (winResultKeys w)
      let c2 := c1.commitPlan w p.1
      let c3 := (((((c2.put (Obj.Window.STATE w) 2).put (Obj.Window.GEN w) (nextGen (c.get (Obj.Window.GEN w)))).put
        (Obj.Window.READY w) 0).put (Obj.Window.TRIGGER_ID w) t.id).put (Obj.Window.TRIGGER_SRC w) t.src).put
        (Obj.Window.T_EVENT w) tt
      let c4 : Core := c3.withFreezes (c3.freezes + 1)
      let c5 := ((c4.updWin w fun s => { s with order := c4.freezes, detector := t.detector, level := t.level }).flag (Obj.Window.FLAGS w) 0).publishWin w
      (.ok, (c5.forwardTrigger w t tt).winProgress w)

/-- Extend a member's range to a new LAST (R109); CENTRE, PRE and POST stay, and the current LAST is LAST_EFF.
DESIGN CHOICE, unsafe (log entry 83). -/
def FreezePlan.extendMember (p : FreezePlan) (w : Nat) (old : WinMember) (m : Placed) : FreezePlan × Bool :=
  let last := max old.lastEff (bound64 m.last)
  let sps := p.core.spseg old.stream
  let kept := setBitTo Wm.done false (setBitTo Wm.truncated false old.flags)
  let clear := { old with flags := if m.old then setBitTo Wm.timebaseOld true kept else kept }
  if !(p.core.streamRing old.stream) then
    ({ p with core := p.core.setMember w { clear with lastEff := last } }, true)
  else
    let lo := old.firstEff / sps
    let hi := last / sps
    match p.fit w old.region lo hi (bound64 old.c / sps) with
    | (p1, none) => (p1, false)
    | (p1, some h) =>
      let x := { p1.core.takeSegs clear (old.lastEff / sps) h with
        lastEff := if h < hi then max old.lastEff ((h + 1) * sps - 1) else last }
      let x1 := if h < hi then x.set Wm.clippedPost else x
      let x2 := if p1.core.lostIn old.region (old.lastEff / sps) h then x1.set Wm.clippedPre else x1
      ({ p1 with core := p1.core.setMember w x2 }, true)

/-- A trigger that reaches a PENDING or COMPLETE window under EXTEND (R109). The result it begins names the accepted trigger:
TRIGGER_ID, TRIGGER_SRC and T_EVENT (R101, R107, R110). DEDUCED, unsafe (log entry 46). -/
def Core.extend (c : Core) (w : Nat) (t : Trigger) (te : Rat) (tt : Nat) : Status × Core :=
  let x := c.placeAll w te t.delays
  let olds := (c.winOf w).members
  let pairs := olds.filterMap fun o => (x.1.find? fun m => m.k == o.k).map fun m => (o, m)
  if !(pairs.all fun q => q.2.first ≤ q.1.lastEff + 1) then x.2.refuseTrigger w 6 .retry
  else if x.2.tooLate x.1 then x.2.refuseTrigger w 7 .noRegion
  else if pairs.any fun q => x.2.holdsLimit w q.1.region (q.1.firstEff / x.2.spseg q.1.stream)
      (bound64 q.2.last / x.2.spseg q.1.stream) then x.2.refuseTrigger w 8 .retry
  else
    let p := pairs.foldl (fun (a : FreezePlan × Bool) q => if a.2 then a.1.extendMember w q.1 q.2 else a)
      ((FreezePlan.mk x.2 [] []), true)
    if !p.2 then (p.1.hit.foldl (fun c r => c.flag (Obj.Quota.FLAGS r) 0) x.2).refuseTrigger w 9 .retry
    else
      let c1 := (x.2.keepShown (Obj.Window.READY w) (winResultKeys w)).commitPlan w p.1
      let c2 := (((((c1.put (Obj.Window.STATE w) 2).put (Obj.Window.GEN w) (nextGen (c.get (Obj.Window.GEN w)))).put
        (Obj.Window.READY w) 0).put (Obj.Window.TRIGGER_ID w) t.id).put (Obj.Window.TRIGGER_SRC w) t.src).put
        (Obj.Window.T_EVENT w) tt
      let c3 := ((c2.updWin w fun s => { s with detector := t.detector, level := t.level }).flag (Obj.Window.FLAGS w) 6).publishWin w
      (.ok, (c3.forwardTrigger w t tt).winProgress w)

/-- Decide on a trigger (R108, R109). -/
def Core.decideTrigger (c : Core) (w : Nat) (t : Trigger) : Status × Core :=
  let st := c.get (Obj.Window.STATE w)
  let c0 := if 2 ≤ st then c.inc (Obj.Window.RETRIGGERS w) else c
  match c.earlyRefusal w t with
  | some (cause, s) => c0.refuseTrigger w cause s
  | none =>
    if st = 4 then c0.refuseTrigger w 6 .retry
    else if 2 ≤ st && c.get (Obj.Window.RETRIGGER w) = 0 then
      (c0.flag (Obj.Window.FLAGS w) 5).refuseTrigger w 6 .retry
    else
      let e := c0.eventTime w t
      if st = 1 then e.2.2.freeze w t e.1 e.2.1 else e.2.2.extend w t e.1 e.2.1

/-- A threshold candidate is offered to every matching window, in ascending order (R105). `det` is DETECTOR and LEVEL (R81), none
for a cell's mark. DESIGN CHOICE, unsafe (log entry 83). -/
def Core.thresholdCandidate (c : Core) (st n : Nat) (det : Option (Nat × Nat)) (id : Nat) : Core :=
  (List.range 64).foldl (fun c w =>
    let s := c.get (Obj.Window.STATE w)
    let dm := c.get (Obj.Window.DETECTOR_MATCH w)
    if (s = 1 || s = 2 || s = 3) && (c.get (Obj.Window.SOURCES w)).testBit 2
        && ((c.usedMembers w).any fun m => m.2.1 == st) && (dm = 0xFFFF || det.map (·.1) == some dm) then
      (c.decideTrigger w { src := 2, stream := st, tidx := n, tt := 0, id := id, detector := (det.map (·.1)).getD 0,
                           level := (det.map (·.2)).getD 0, delays := none, port := 0 }).2
    else c) c

/-- WINDOW_RELEASE (R116). -/
def Core.askRelease (c : Core) (w : Nat) : Status × Core :=
  match c.get (Obj.Window.STATE w) with
  | 4 => (.retry, c)
  | 2 => (.ok, c.releaseWindow w)
  | 3 => (.ok, c.releaseWindow w)
  | _ => (.ok, c)

/-- A drain job on a window has ended (R116). -/
def Core.drainEnded (c : Core) (w : Nat) : Core :=
  if c.get (Obj.Window.STATE w) = 4 then
    if c.isSet (Obj.Window.AUTO_RELEASE w) then c.releaseWindow w else c.put (Obj.Window.STATE w) 3
  else c

end Sys2Proof.Machine
end

