-- ==== Sys2Proof/Machine/Millstone.lean ====
section
/-! DEFINITION. Accumulation contexts, frames and the combining cache (05_millstone_accumulation.md). -/

namespace Sys2Proof.Machine

/-- Case 2 and 3 of R122 that depend on the stream: does it suit the context? -/
def Core.streamSuits (c : Core) (g : CtxCfg) : Bool :=
  g.stream ≤ 255 && c.get (Obj.Stream.CLASS g.stream) = 1
  && !(g.elem = 0 && (c.get (Obj.Stream.FORMAT g.stream) = 4 || c.get (Obj.Stream.FORMAT g.stream) = 5))
  && g.xfirst + g.inRange ≤ c.get (Obj.Stream.SPECLEN g.stream)

/-! ## Values and updates (R125 to R128) -/

/-- P of a sample of I and Q (R125). -/
def samplePower (fmt bits : Nat) : Nat :=
  let w := match fmt with | 0 => 4 | 1 => 8 | 2 => 12 | _ => 16
  let i := toSigned w (bits >>> w)
  let q := toSigned w bits
  (i * i + q * q).toNat

/-- The input value of a sample: none for a NaN or an infinity (R125, R127). -/
def sampleValue (fmt : Nat) (u32 : Bool) (bits : Nat) : Option Nat :=
  if fmt ≤ 3 then some (if u32 then samplePower fmt bits else f32OfNat (samplePower fmt bits))
  else if fmt = 4 then (if f16NonFinite bits then none else some (f16Widen bits))
  else if f32NonFinite bits then none else some bits

/-- What an update does to an element: its value, a saturation, an overflow (R127). -/
def CtxCfg.update (g : CtxCfg) (a v : Nat) : Nat × Bool × Bool :=
  match g.op with
  | 0 =>
    if g.elem = 1 then let s := f32Add a v; (s, false, f32NonFinite s)
    else if a + v < 2 ^ 32 then (a + v, false, false) else (0xFFFFFFFF, true, false)
  | 1 => (if (if g.elem = 1 then f32Lt a v else a < v) then v else a, false, false)
  | 2 => (if (if g.elem = 1 then f32Lt v a else v < a) then v else a, false, false)
  | _ =>
    let top := if g.elem = 2 then 0xFFFF else 0xFFFFFFFF
    if a < top then (a + 1, false, false) else (top, true, false)

/-- The amplitude bin of a value, before the edge rule (R128). -/
def CtxCfg.ybin (g : CtxCfg) (v : Nat) : Ext :=
  if g.ymode = 0 then
    if f32Lt 0 v then .fin (((v : Int) - g.ybase) / g.ystep) else .fin (-1)
  else f32Floor (f32Mul (f32Sub v g.yoff) g.yscale)

/-- The bin after the edge rule, none for a discarded update; and whether the value lay outside (R128). -/
def CtxCfg.ybinOf (g : CtxCfg) (v : Nat) : Option Nat × Bool :=
  let clamp := fun (low : Bool) => if g.yedge = 1 then none else some (if low then 0 else g.ybins - 1)
  match g.ybin v with
  | .inf neg => (clamp neg, true)
  | .fin y => if y < 0 then (clamp true, true) else if (g.ybins : Int) ≤ y then (clamp false, true) else (some y.toNat, false)

/-! ## The combining cache (R135, R138) -/

/-- Is the slot of frame k protected against the frame's own lines: it holds the newest closed frame or another frame in close,
or a drain job has one of its frames as source (R135)? -/
def Core.slotProtected (c : Core) (x k : Nat) : Bool :=
  let g := c.ctxOf x
  let n := c.get (Obj.Context.NFRAMES x)
  g.newest = some (k % n) || (g.closing.any fun f => f.k != k && f.k % n == k % n) || c.slotDrained x (k % n)

/-- Is a frame the one in step 2 of its close (R133)? -/
def Core.inClose (c : Core) (x k : Nat) : Bool := (c.ctxOf x).closing.head?.any fun f => f.k == k

/-- Is the refill of a line awaited? -/
def Core.lineFilling (c : Core) (l : CacheLine) : Bool :=
  (c.frameNo l.x l.k).any fun f => f.filling.any fun b => b / 4 == l.line

/-- Is a cache line pinned: its refill is awaited, or its frame is not in close and the slot is protected (R135)? A frame that
waits for an earlier close counts as the open one. DEDUCED, safe (log entry 79). -/
def Core.linePinned (c : Core) (l : CacheLine) : Bool :=
  c.lineFilling l || (!(c.inClose l.x l.k) && c.slotProtected l.x l.k)

/-- The cache set of a line. DESIGN CHOICE, safe (log entry 34). -/
def Core.setOf (c : Core) (l : CacheLine) : Nat :=
  let n := field 15 8 (c.get Obj.Millpond.PARTITION) * 2048
  Config.cacheSet (c.slotHa l.x (l.k % c.get (Obj.Context.NFRAMES l.x)) 0 / 4 + l.line) % n

/-- Evict a line: its part of the frame is written back (R138), unless the close of its frame has written it already (R133).
DESIGN CHOICE, safe (log entry 34). -/
def Core.evictLine (c : Core) (l : CacheLine) : Core :=
  let c1 : Core := c.withCache (c.cache.erase l)
  match c.frameNo l.x l.k with
  | none => c1
  | some f =>
    if c.inClose l.x l.k && f.filling.isEmpty then c1
    else
    let c2 := (List.range 4).foldl (fun c i => c.writeBlock l.x f (4 * l.line + i)) c1
    (c2.updFrameNo l.x l.k fun f => { f with written := l.line :: f.written }).inc64 Obj.Millstone.EVICTIONS

/-- Read a line back from the slot: its four blocks at BE (R138, R172). -/
def Core.refillLine (c : Core) (l : CacheLine) : Core :=
  let s := l.k % c.get (Obj.Context.NFRAMES l.x)
  let c1 := (c.updFrameNo l.x l.k fun f =>
    { f with filling := f.filling ++ (List.range 4).map fun i => 4 * l.line + i }).inc64 Obj.Millstone.REFILLS
  (List.range 4).foldl (fun c i =>
    c.request (readReq (c.slotHa l.x s (4 * l.line + i)) 3 (.refill l.x l.k (4 * l.line + i)))) c1

/-- Bring a line in: false when its set has no evictable line (R135, R138). A set has 16 ways. -/
def Core.touchLine (c : Core) (l : CacheLine) : Core × Bool :=
  if c.cache.contains l then (c.withCache (l :: c.cache.erase l), true)
  else
    let full := 16 ≤ c.cache.length && 16 ≤ (c.cache.filter fun m => c.setOf m == c.setOf l).length
    let room :=
      if full then
        match (c.cache.filter fun m => c.setOf m == c.setOf l && !(c.linePinned m)).getLast? with
        | none => none
        | some v => some (c.evictLine v)
      else some c
    match room with
    | none => (c, false)
    | some c1 =>
      let again := match c.frameNo l.x l.k with | some f => f.written.contains l.line | none => false
      let c2 : Core := c1.withCache (l :: c1.cache)
      (if again then c2.refillLine l else c2, true)

/-- Updates of a context are discarded (R135, R141). -/
def Core.dropUpdates (c : Core) (x n : Nat) : Core :=
  ((((c.add (Obj.Context.UPDATES_DROPPED x) 64 n).updFrame x fun f =>
    { f with dropped := sat 32 (f.dropped + n), flags := setBitTo 5 true f.flags }).flag (Obj.Context.FLAGS x) 2).flag
    Obj.Millstone.FLAGS 0).raise Src.msDrop (ctxNumber 4 6 x)

/-! ## One update -/

/-- Apply one in-range sample: channel and sample bits (R126 to R128, R138). -/
def Core.applySample (c : Core) (x : Nat) (g : CtxCfg) (fmt : Nat) (s : Nat × Nat) : Core :=
  match sampleValue fmt (g.op ≠ 3 && g.elem = 0) s.2 with
  | none =>
    ((c.inc64 (Obj.Context.NONFINITE x)).flag (Obj.Context.FLAGS x) 5).updFrame x fun f =>
      { f with nonfinite := sat 32 (f.nonfinite + 1) }
  | some v =>
    let xb := (s.1 - g.xfirst) / g.xdiv
    let y := if g.op = 3 then g.ybinOf v else (some 0, false)
    let c1 := if y.2 then (c.inc64 (Obj.Context.Y_OUTSIDE x)).flag (Obj.Context.FLAGS x) 6 else c
    match y.1 with
    | none => c1
    | some yb =>
      let e := if g.op ≠ 3 then xb else if g.layout = 0 then xb * g.ybins + yb else yb * g.xbins + xb
      match (c1.ctxOf x).frame with
      | none => c1
      | some f =>
        let t := c1.touchLine { x := x, k := f.k, line := e * g.esize / 256 }
        if !t.2 then c1.dropUpdates x 1
        else
          let u := g.update (Tbl.get (fun _ => g.identity) f.elems e) v
          let c2 := (t.1.updFrame x fun f =>
            { f with
              elems := Tbl.set (fun _ => g.identity) f.elems e u.1
              sats := if u.2.1 then sat 32 (f.sats + 1) else f.sats
              flags := (if u.2.1 then 16 else 0) ||| (if u.2.2 then 8 else 0) ||| f.flags }).inc64 (Obj.Context.UPDATES x)
          let c3 := if u.2.1 then (c2.inc64 (Obj.Context.SATURATIONS x)).flag (Obj.Context.FLAGS x) 3 else c2
          if u.2.2 then c3.flag (Obj.Context.FLAGS x) 4 else c3

/-! ## Frames (R132 to R136) -/

/-- A frame at its begin. -/
def Frame.fresh (k : Nat) : Frame :=
  { k := k, elems := [], used := 0, excluded := 0, missing := 0, partials := 0, dropped := 0, sats := 0, nonfinite := 0,
    flags := 0, written := [], bad := [], filling := [] }

/-- Close the open frame (R133 step 1); `next` opens the following one. A frame whose predecessor is in close waits. -/
def Core.closeFrame (c : Core) (x : Nat) (short next : Bool) : Core :=
  match (c.ctxOf x).frame with
  | none => c
  | some f =>
    let f1 := if short then { f with flags := setBitTo 2 true f.flags } else f
    let c1 := c.updCtx x fun s =>
      { s with closing := s.closing ++ [f1], frame := if next then some (Frame.fresh (f.k + 1)) else none }
    let c2 := if short then c1.flag (Obj.Context.FLAGS x) 1 else c1
    let c3 := if next then c2.put (Obj.Context.FRAME x) (f.k + 1) else c2
    if (c.ctxOf x).closing.isEmpty then c3.writeHead x else c3

/-- Are writes of a frame still waiting for the write queues (R133 step 3)? -/
def Core.frameWaits (c : Core) (x k : Nat) : Bool :=
  c.mc.any fun e => e.2.arriving.any fun r => r.write && r.owner == .millstone x k

/-- The summary of a closed frame (R136). -/
def Core.frameSummary (c : Core) (x : Nat) (f : Frame) (gen : Nat) : Nat :=
  let g := c.cfgOf x
  let first := g.startRow + f.k * g.nrows
  let spec := c.get (Obj.Stream.SPECLEN g.stream)
  let t := c.indexTime g.stream (first * spec)
  let s32 := sat 32
  let body := (f.k % 2 ^ 64) <<< 448 + (first % 2 ^ 64) <<< 384 + s32 f.used <<< 352 + s32 f.excluded <<< 320
    + s32 f.missing <<< 288 + s32 f.partials <<< 256 + s32 f.dropped <<< 224 + s32 f.sats <<< 192 + s32 f.nonfinite <<< 160
    + gen <<< 144 + (f.flags / 4) <<< 130 + ofBool t.2 <<< 129 + 1 <<< 128 + t.1 <<< 32
  body + crc32c ((toBytes 64 body).take 60)

/-- A context in STOPPING whose closes are complete returns to IDLE, with its credit (R123, R124). -/
def Core.ctxIdle (c : Core) (x : Nat) : Core :=
  if c.get (Obj.Context.STATE x) = 2 && (c.ctxOf x).closing.isEmpty then
    ((c.put (Obj.Context.STATE x) 0).put (Obj.Context.CREDIT_MW x) 0).release Ck.context x
  else c

/-- FRAME_CLOSE_COMPLETE: the oldest frame in close is published (R133 step 3, R134, R140). -/
def Core.frameClosed (c : Core) (x : Nat) : Core :=
  match (c.ctxOf x).closing with
  | [] => c
  | f :: rest =>
    if !f.filling.isEmpty || c.frameWaits x f.k then c
    else
      let gen := nextGen (c.ctxOf x).gen
      let slot := f.k % c.get (Obj.Context.NFRAMES x)
      let f1 := if f.bad.isEmpty then f else { f with flags := setBitTo 7 true f.flags }
      let sum := c.frameSummary x f1 gen
      let c1 := c.updCtx x fun s =>
        { s with closing := rest, gen := gen, newest := some slot, closed := s.closed.setNum slot sum }
      let c2 : Core := c1.withCache (c1.cache.filter fun l => !(l.x == x && l.k == f.k))
      let c3 := ((c2.put (Obj.Context.SUMMARY x slot) sum).put (Obj.Context.LAST_SUMMARY x) sum).flag
        (Obj.Context.FLAGS x) 0
      let c4 := if f.bad.isEmpty then c3 else c3.flag (Obj.Context.FLAGS x) 7
      match rest with
      | [] => c4.ctxIdle x
      | _ :: _ => c4.writeHead x

/-- Does a slot count as accumulating (R134)? -/
def Core.slotOpen (c : Core) (x s : Nat) : Bool :=
  let g := c.ctxOf x
  let n := c.get (Obj.Context.NFRAMES x)
  (g.frame.any fun f => f.k % n == s) || (g.closing.any fun f => f.k % n == s) || g.closed.num s == 0

/-! ## Rows (R130, R131, R141) -/

/-- Marks of a row as EXCLUDE counts them: [4] GAP, [3] LINK_ERR, [2] ABANDONED, [1] CROSSFADE, [0] SETTLING (R130). -/
def excludeBits (marks : Nat) : Nat :=
  marks % 8 + (if marks.testBit 6 then 8 else 0) + if marks.testBit 5 then 16 else 0

/-- Add a row to a list of runs, newest first. -/
def addRun (r : Nat) : List (Nat × Nat) → List (Nat × Nat)
  | (lo, hi) :: t => if r = hi + 1 then (lo, r) :: t else (r, r) :: (lo, hi) :: t
  | [] => [(r, r)]

/-- Updates applied, for UPDATE_RATE (R144; 500,000 ticks are 1 ms). -/
def Core.logUpdates (c : Core) (n : Nat) : Core :=
  c.withUpdLog ((c.updLog.filter fun e => c.tick < e.1 + 500000) ++ [(c.tick, n)])

/-- Decide the row that a context is at (R130, R131). -/
def Core.decideRow (c : Core) (x : Nat) : Core :=
  let g := c.cfgOf x
  let s := c.ctxOf x
  let spec := c.get (Obj.Stream.SPECLEN g.stream)
  let got := s.samples.length + s.released
  let gap := got < g.inRange
  let reg := c.get (Obj.Stream.REGION g.stream)
  let marks := ((c.spansIn reg (s.row * spec + g.xfirst) (s.row * spec + g.lastIn)).filter fun e => !spanEmpty e.2).foldl (fun a e => a ||| spanMarks e.2) 0
  let marks := if gap then marks ||| Mk.gap else marks
  let c1 :=
    if got = 0 then c.updFrame x fun f => { f with missing := f.missing + 1 }
    else if excludeBits marks &&& g.exclude ≠ 0 then
      (c.inc64 (Obj.Context.ROWS_EXCLUDED x)).updFrame x fun f => { f with excluded := f.excluded + 1 }
    else
      let fmt := c.get (Obj.Stream.FORMAT g.stream)
      let k := s.samples.foldl (fun c q => c.applySample x g fmt q) c
      let k1 := (k.updFrame x fun f =>
        { f with used := f.used + 1, partials := if gap then f.partials + 1 else f.partials }).updCtx x fun s =>
        { s with applied := addRun s.row s.applied }
      let k2 := k1.logUpdates (k1.get (Obj.Context.UPDATES x) - c.get (Obj.Context.UPDATES x))
      if 0 < s.released then k2.dropUpdates x s.released else k2
  let c2 := c1.updCtx x fun t => { t with row := t.row + 1, samples := [], released := 0, closeNow := false }
  if s.closeNow then
    let k := match s.frame with | some f => f.k | none => 0
    (c2.closeFrame x true true).updCtx x fun t => { t with row := g.startRow + (k + 1) * g.nrows }
  else c2

/-- Let a context pass every row below `rows` when E is at `e`: rows are decided, missing rows counted, and frames closed
whose rows have all passed (R131, R133). -/
def Core.passRows (c : Core) (x rows e : Nat) : Nat → Core
  | 0 => c
  | fuel + 1 =>
    let g := c.cfgOf x
    let s := c.ctxOf x
    match s.frame with
    | none => c
    | some f =>
      let spec := c.get (Obj.Stream.SPECLEN g.stream)
      let stop := g.startRow + (f.k + 1) * g.nrows
      if stop ≤ s.row then
        if stop * spec ≤ e then (c.closeFrame x false true).passRows x rows e fuel else c
      else if rows ≤ s.row then c
      else if s.samples ≠ [] || 0 < s.released then (c.decideRow x).passRows x rows e fuel
      else
        let m := min rows stop - s.row
        ((c.updFrame x fun f => { f with missing := f.missing + m }).updCtx x fun t =>
          { t with row := t.row + m }).passRows x rows e fuel

/-- Enough fuel for `passRows`: each frame takes three turns at most. -/
def Core.passFuel (c : Core) (x rows : Nat) : Nat :=
  3 * ((rows - (c.ctxOf x).row) / max 1 (c.get (Obj.Context.NROWS x)) + 3)

/-- E of the context's stream has moved to `e`: rows whose last in-range sample lies below it are decided (R131). -/
def Core.ctxPassed (c : Core) (x e : Nat) : Core :=
  let g := c.cfgOf x
  let spec := c.get (Obj.Stream.SPECLEN g.stream)
  let rows := if g.lastIn < e then (e - g.lastIn - 1) / spec + 1 else 0
  c.passRows x rows e (c.passFuel x rows)

/-- One stored sample reaches a context (R126, R131). -/
def Core.ctxSample (c : Core) (x n bits : Nat) : Core :=
  let g := c.cfgOf x
  let spec := c.get (Obj.Stream.SPECLEN g.stream)
  let r := n / spec
  let ch := n % spec
  let c1 := c.passRows x r n (c.passFuel x r)
  if r = (c1.ctxOf x).row && g.xfirst ≤ ch && ch ≤ g.lastIn then
    let c2 := c1.updCtx x fun s => { s with samples := s.samples ++ [(ch, bits)] }
    if ch = g.lastIn then c2.decideRow x else c2
  else c1

/-- Contexts in RUNNING on a stream. -/
def Core.ctxsOn (c : Core) (st : Nat) : List Nat :=
  (c.ctxs.map (·.1)).filter fun x => c.get (Obj.Context.STATE x) = 1 && c.get (Obj.Context.STREAM x) = st

/-- Stored samples of a stream reach its contexts: the first index and the sample bits. -/
def Core.feed (c : Core) (st n : Nat) (samples : List Nat) : Core :=
  (c.ctxsOn st).foldl (fun c x =>
    (samples.foldl (fun (a : Core × Nat) b => (a.1.ctxSample x a.2 b, a.2 + 1)) (c, n)).1) c

/-- E of a stream has moved. -/
def Core.feedPassed (c : Core) (st e : Nat) : Core := (c.ctxsOn st).foldl (fun c x => c.ctxPassed x e) c

/-- Does a stored sample of a stream wait for its commit? -/
def Core.uncommitted (c : Core) (st n : Nat) : Bool :=
  (c.streamOf st).blocks.any fun b => b.no == n / c.spb st && b.uncommitted.any fun u => u ≤ n

/-- At URGENT the hub releases every held block: samples already committed that no decision has taken are lost to their
contexts (R141). -/
def Core.releaseHeld (c : Core) : Core :=
  ((c.ctxs.map (·.1)).filter fun x => c.get (Obj.Context.STATE x) = 1).foldl (fun c x =>
    let st := c.get (Obj.Context.STREAM x)
    let spec := c.get (Obj.Stream.SPECLEN st)
    c.updCtx x fun s =>
      let keep := s.samples.filter fun q => c.uncommitted st (s.row * spec + q.1)
      { s with samples := keep, released := s.released + (s.samples.length - keep.length) }) c

/-- Blocks of a stream that contexts hold (R141). -/
def Core.heldBlocks (c : Core) (st : Nat) : List Nat :=
  let spec := c.get (Obj.Stream.SPECLEN st)
  let spb := c.spb st
  ((c.ctxsOn st).map fun x => (c.ctxOf x).samples.map fun q => ((c.ctxOf x).row * spec + q.1) / spb).flatten.eraseDups

/-- A mark laid down below E (R131): samples lo to stop − 1 take marks. -/
def Core.lateMark (c : Core) (st lo stop marks : Nat) : Core :=
  ((c.ctxs.map (·.1)).filter fun x => c.get (Obj.Context.STATE x) ≠ 0 && c.get (Obj.Context.STREAM x) = st).foldl (fun c x =>
    let g := c.cfgOf x
    let spec := c.get (Obj.Stream.SPECLEN st)
    let rlo := if lo ≤ g.lastIn then 0 else ceilDiv (lo - g.lastIn) spec
    let rhi := (stop - 1 - g.xfirst) / spec
    let hit := fun (a b : Nat) => g.xfirst < stop && (c.ctxOf x).applied.any fun r =>
      max (max rlo a) r.1 ≤ min (min rhi b) r.2
    if excludeBits marks &&& g.exclude ≠ 0 && hit 0 (2 ^ 64) then
      let c1 := (c.inc (Obj.Context.LATE_MARKS x)).flag (Obj.Context.FLAGS x) 8
      let late := fun (f : Frame) =>
        if hit (g.startRow + f.k * g.nrows) (g.startRow + (f.k + 1) * g.nrows - 1) then
          { f with flags := setBitTo 6 true f.flags } else f
      c1.updCtx x fun s => { s with frame := s.frame.map late, closing := s.closing.map late }
    else c) c

/-! ## Start and stop (R121 to R124, R132, R142) -/

/-- A context leaves RUNNING: the row being received is decided, and the open frame closes with SHORT if it has applied any
row (R124). -/
def Core.stopCtx (c : Core) (x : Nat) : Core :=
  if c.get (Obj.Context.STATE x) ≠ 1 then c
  else
    let g := c.cfgOf x
    let spec := c.get (Obj.Stream.SPECLEN g.stream)
    let s := c.ctxOf x
    let c1 := if s.row * spec < c.get (Obj.Stream.NEXT_INDEX g.stream) && s.frame.isSome
        && (match s.frame with | some f => s.row < g.startRow + (f.k + 1) * g.nrows | none => false)
      then c.decideRow x else c
    let c2 := (c1.put (Obj.Context.STATE x) 2).put (Obj.Context.START x) 0
    let c3 := match (c2.ctxOf x).frame with
      | some f =>
        if f.used = 0 then
          { (c2.updCtx x fun s => { s with frame := none }) with cache := c2.cache.filter fun l => !(l.x == x && l.k == f.k) }
        else c2.closeFrame x true false
      | none => c2
    c3.ctxIdle x

/-- A stream enters ENDED or FLUSHING: its contexts stop (R124). -/
def Core.stopCtxs (c : Core) (st : Nat) : Core := (c.ctxsOn st).foldl (fun c x => c.stopCtx x) c

/-- A stream is enabled: contexts that it no longer suits stop (R124). -/
def Core.mismatchCtxs (c : Core) (st : Nat) : Core :=
  (c.ctxsOn st).foldl (fun c x =>
    if c.streamSuits (c.cfgOf x) then c else (c.stopCtx x).flag (Obj.Context.FLAGS x) 9) c

/-- The RATIO80 in force of a stream: the rate written while it is DISABLED (R70). -/
def Core.rateInForce (c : Core) (st : Nat) : Nat :=
  if c.get (Obj.Stream.STATE st) = 0 then c.get (Obj.Stream.RATE st) else (c.streamOf st).rate

/-- CREDIT_MW (R123). -/
def Core.ctxCredit (c : Core) (g : CtxCfg) : Nat :=
  let rate := c.rateInForce g.stream
  250 + 60 * ceilDiv (field 79 40 rate * g.inRange) (field 39 0 rate * 1000000000)

/-- Is a region or a stream's ring SECURE? -/
def Core.regionSecure (c : Core) (r : Nat) : Bool := r ≤ 1023 && c.get (Obj.Region.WORLD r) = 1

/-- The case of R122 that refuses a START, before the credit. -/
def Core.startRefusal (c : Core) (g : CtxCfg) (x : Nat) (w : World) : Option Status :=
  let per := if g.region ≤ 1023 then c.get (Obj.Region.PERSONALITY g.region) else 0
  if (g.op = 3) ≠ (2 ≤ g.elem) then some .malformed
  else if 255 < g.stream || c.get (Obj.Stream.CLASS g.stream) ≠ 1
      || (g.elem = 0 && 4 ≤ c.get (Obj.Stream.FORMAT g.stream)) then some .malformed
  else if g.nframes < 2 || 4 < g.nframes || g.nrows = 0 || g.xbins = 0 || g.xdiv = 0 || 4096 < g.xdiv
      || (g.op = 3 && (g.ybins = 0 || 4096 < g.ybins))
      || c.get (Obj.Stream.SPECLEN g.stream) < g.xfirst + g.inRange || g.ystep = 0
      || f32NonFinite g.yscale || g.yscale % 2 ^ 31 = 0 then some .malformed
  else if per ≠ (if g.op = 3 then 4 else 3) then some .malformed
  else if c.get (Obj.Region.SIZE_MIB g.region) * 2 ^ 20 < g.nframes * g.slotBytes || 2 ^ 32 ≤ g.slotBytes then
    some .malformed
  else if field 15 8 (c.get Obj.Millpond.PARTITION) = 0 then some .malformed
  else if (List.range 128).any fun y => y ≠ x && c.get (Obj.Context.STATE y) ≠ 0 && c.get (Obj.Context.REGION y) = g.region
  then some .retry
  else if w = .openWorld && (c.regionSecure g.region || c.regionSecure (c.get (Obj.Stream.REGION g.stream))) then
    some .deniedWorld
  else none

/-- The first frame of a START (R132). -/
def Core.firstFrame (c : Core) (g : CtxCfg) : Nat :=
  let e := ceilDiv (c.get (Obj.Stream.NEXT_INDEX g.stream)) (c.get (Obj.Stream.SPECLEN g.stream))
  if e ≤ g.startRow then 0 else ceilDiv (e - g.startRow) g.nrows

/-- A region binds to a context, and other regions that named it unbind (R142). -/
def Core.bindRegion (c : Core) (x : Nat) (g : CtxCfg) : Core :=
  let c1 := (List.range 1024).foldl (fun c r =>
    if r ≠ g.region && c.get (Obj.Region.CONTEXT r) = x then
      ((c.put (Obj.Region.CONTEXT r) 0xFFFF).put (Obj.Region.SLOT_BYTES r) 0).put (Obj.Region.NFRAMES_BOUND r) 0 else c) c
  ((c1.put (Obj.Region.CONTEXT g.region) x).put (Obj.Region.SLOT_BYTES g.region) g.slotBytes).put
    (Obj.Region.NFRAMES_BOUND g.region) g.nframes

/-- CONTEXT_START (R121 to R124, R132). -/
def Core.startCtx (c : Core) (x : Nat) (w : World) : Status × Core :=
  match c.get (Obj.Context.STATE x) with
  | 1 => (.ok, c)
  | 2 => (.retry, c)
  | _ =>
    let g := c.cfgOf x
    match c.startRefusal g x w with
    | some s => (s, c)
    | none =>
      let mw := c.ctxCredit g
      match c.askNow Ck.context x mw with
      | (false, c1) => (.busySluice, c1)
      | (true, c1) =>
        let k := c.firstFrame g
        let c2 := [0x1A, 0x1B, 0x1C, 0x1D, 0x1E, 0x1F, 0x20, 0x21, 0x22, 0x23, 0x24, 0x25].foldl
          (fun c s => c.put (0x300000 + 0x100 * x + s) 0) c1
        let c3 := (((c2.put (Obj.Context.STATE x) 1).put (Obj.Context.START x) 1).put (Obj.Context.FRAME x) k).put
          (Obj.Context.CREDIT_MW x) mw
        (.ok, (c3.bindRegion x g).updCtx x fun s =>
          { s with frame := some (Frame.fresh k), closing := [], row := g.startRow + k * g.nrows, samples := [], released := 0,
                   closeNow := false, closed := [], newest := none, applied := [] })

/-- CONTEXT_STOP (R124). -/
def Core.askStop (c : Core) (x : Nat) : Status × Core := (.ok, c.stopCtx x)

/-- CONTEXT_OP_WRITE (R120, R130). -/
def Core.writeOp (c : Core) (x op : Nat) : Status × Core :=
  if c.get (Obj.Context.STATE x) ≠ 0 then (.retry, c)
  else (.ok, (c.put (Obj.Context.OP x) op).put (Obj.Context.EXCLUDE x) (if op = 0 then 0x11 else 0))

/-- CLOSE_NOW: the open frame closes after the row being decided, at once where none is (R133). -/
def Core.closeNow (c : Core) (x : Nat) : Status × Core :=
  if c.get (Obj.Context.STATE x) ≠ 1 then (.ok, c)
  else
    let g := c.cfgOf x
    let s := c.ctxOf x
    if s.samples ≠ [] || 0 < s.released then (.ok, c.updCtx x fun s => { s with closeNow := true })
    else
      match s.frame with
      | none => (.ok, c)
      | some f => (.ok, (c.closeFrame x true true).updCtx x fun t => { t with row := g.startRow + (f.k + 1) * g.nrows })

end Sys2Proof.Machine
end

