-- ==== Sys2Proof/Machine/Millrace.lean ====
section
/-! DEFINITION. Capture: streams, sample and disclosure cells, the elastic buffer, block commits (03_millrace_capture.md).
Cells reach these operations after the checks of 02_headrace_links.md R37. -/

namespace Sys2Proof.Machine

/-! ## Stream states -/

abbrev St.disabled : Nat := 0
abbrev St.armed : Nat := 1
abbrev St.running : Nat := 2
abbrev St.ended : Nat := 3
abbrev St.flushing : Nat := 4

def Core.stState (c : Core) (st : Nat) : Nat := c.get (Obj.Stream.STATE st)

/-- E of a stream (R70). -/
def Core.next (c : Core) (st : Nat) : Nat := c.get (Obj.Stream.NEXT_INDEX st)

/-! ## The elastic buffer (R94 to R98) -/

/-- ELASTIC in bytes (R94). -/
def Core.elasticBytes (c : Core) : Nat := field 23 16 (c.get Obj.Millpond.PARTITION) * 8 * 2 ^ 20

/-- Blocks that the buffer holds: not committed or open, and held by contexts (R92, R141). -/
def Core.streamFill (c : Core) (st : Nat) : Nat :=
  (((c.streamOf st).blocks.map (·.no)) ++ c.heldBlocks st).eraseDups.length

/-- ELASTIC_FILL: 256 bytes for each ring block held (R98). -/
def Core.elasticFill (c : Core) : Nat := (c.streams.map fun e => 256 * c.streamFill e.1).sum

/-- Is the fill at or above URGENT (R96, R97)? -/
def Core.urgent (c : Core) : Bool := c.elasticBytes / 2 ≤ c.elasticFill

/-- The fill may have changed: peak, URGENT_SEEN, and the throttle between HIGH_WATER and LOW_WATER. While the fill is at or
above HIGH_WATER every stream that is not DISABLED has THROTTLED set; each rise to it raises the fault. With an elastic part of
size 0 nothing is withheld (R96, R98). DESIGN CHOICE, safe (log entry 80). -/
def Core.water (c : Core) : Core :=
  let f := c.elasticFill
  let em := c.elasticBytes
  let c1 := c.put Obj.Millpond.ELASTIC_PEAK (max f (c.get Obj.Millpond.ELASTIC_PEAK))
  let c2 := if em / 2 ≤ f && 0 < f then c1.flag Obj.Millpond.FLAGS 1 else c1
  if em / 8 * 7 ≤ f && 0 < f then
    let c3 : Core := (c2.withThrottled true).withOverHigh true
    let c4 := (c3.streams.map (·.1)).foldl (fun c st =>
      if c.stState st ≠ 0 then c.flag (Obj.Stream.FLAGS st) 7 else c) (c3.flag Obj.Millpond.FLAGS 0)
    if c.overHigh then c4 else c4.raise Src.mrThrottle (ctxNone 2 6)
  else if f ≤ em / 8 * 6 then (c2.withThrottled false).withOverHigh false
  else c2.withOverHigh false

/-! ## The ring's head (R88, R99) -/

/-- RING_HEAD: the lowest received sample that no commit has taken, else E (R88). -/
def Core.headOf (c : Core) (st : Nat) : Nat :=
  ((c.streamOf st).blocks.findSome? (·.uncommitted)).getD (c.next st)

/-- The ring is blocked at a logical segment: the fault stands until a release frees a segment (R118). -/
def Core.stopRing (c : Core) (r l : Nat) : Core :=
  ((c.updRing r fun g => { g with blocked := some l }).flag (Obj.Quota.FLAGS r) 1).raiseStanding Src.wrRingBlocked
    (ctxNumber 2 2 r)

/-- Once no block waits, the cursor has passed every segment of a gap below E (R87). DESIGN CHOICE, unsafe (log entry 82). -/
def Core.gapCursor (c : Core) (st : Nat) : Core :=
  let r := c.get (Obj.Stream.REGION st)
  let l := (c.next st - 1) / c.spseg st
  if c.stState st = 0 || (c.ringOf r).blocked.isSome || ((c.streamOf st).blocks.any fun b => b.due || b.uncommitted.isSome)
      || l ≤ segL ((c.ringOf r).map.num (c.get (Obj.Region.CURSOR r))) then c
  else
    let m := c.moveCursor r l
    if m.2 then m.1.unblock else m.1.stopRing r l

/-- RING_HEAD follows, and with it the cursor, RING_TAIL and the frozen windows (R87, R88, R115). -/
def Core.headMoved (c0 : Core) (st : Nat) : Core :=
  let c := c0.gapCursor st
  let r := c.get (Obj.Stream.REGION st)
  ((c.put (Obj.Region.RING_HEAD r) (c.headOf st)).refreshRing r).weirProgress

/-- A FLUSHING stream whose blocks are all committed is DISABLED (R73), and its region shows it no more (R82).
DESIGN CHOICE, unsafe (log entry 82). -/
def Core.flushDoneStream (c : Core) (st : Nat) : Core :=
  if c.stState st = St.flushing && (c.streamOf st).blocks.isEmpty then
    ((c.put (Obj.Stream.STATE st) St.disabled).put (Obj.Region.STREAM (c.get (Obj.Stream.REGION st))) 0xFFFF).weirProgress
  else c

/-! ## E moves (R75, R76, R90) -/

/-- Samples not received are recorded as GAP (R78, R90). -/
def Core.addGap (c : Core) (st first stop : Nat) : Core :=
  if stop ≤ first then c
  else ((c.addSpan st first stop Mk.gap 0 0).add (Obj.Stream.GAP_SAMPLES st) 64 (stop - first)).flag (Obj.Stream.FLAGS st) 0

/-- Blocks below an index are complete and wait for the controllers. -/
def Core.closeBlocks (c : Core) (st e : Nat) : Core :=
  let spb := c.spb st
  let f := fun (b : RingBlock) => if (b.no + 1) * spb ≤ e then { b with due := true } else b
  c.updStream st fun s => { s with blocks := s.blocks.map f }

/-- Every block of a stream, the open one too, waits for the controllers (R73). -/
def Core.closeAll (c : Core) (st : Nat) : Core :=
  let f := fun (b : RingBlock) => { b with due := true }
  c.updStream st fun s => { s with blocks := s.blocks.map f }

/-- A stream becomes ENDED: its contexts stop (R73, R124). -/
def Core.endStream (c : Core) (st : Nat) : Core := (c.put (Obj.Stream.STATE st) St.ended).stopCtxs st

/-- The bytes of an entry of TB_LOG (R76). -/
def TimeBase.entry (b : TimeBase) : List Byte :=
  toBytes 8 b.s ++ toBytes 12 (time96 b.t).1 ++ toBytes 5 b.num ++ toBytes 5 b.den

/-- TB_LOG shows the time bases, newest first (R70, R76). -/
def Core.showBases (c : Core) (st : Nat) : Core :=
  let bs := ((c.streamOf st).bases.map TimeBase.entry).flatten
  c.put (Obj.Stream.TB_LOG st) (ofBytes (bs ++ List.replicate (240 - bs.length) 0))

/-- A rate change at an index (R76). -/
def Core.changeRate (c : Core) (st s rate gdelay dseq : Nat) : Core :=
  if rate = (c.streamOf st).rate then c
  else
    let t : Rat := match (c.streamOf st).bases with | b :: _ => b.timeOf (c.specOf st) s | [] => 0
    let b : TimeBase := { s := s, t := t, num := field 79 40 rate, den := field 39 0 rate }
    let c1 := (c.updStream st fun x => { x with rate := rate, bases := (b :: x.bases).take 8 }).showBases st
    (c1.flag (Obj.Stream.FLAGS st) 9).addSpan st s (s + 1) Mk.rateChange gdelay dseq

/-! ### Disclosure records (R74) -/

def discSidx (v : Nat) : Nat := field 511 448 v
def discEvent (v : Nat) : Nat := field 447 440 v
def discMode (v : Nat) : Nat := field 439 432 v
def discPreset (v : Nat) : Nat := field 431 424 v
def discRate (v : Nat) : Nat := field 415 336 v
def discGdelay (v : Nat) : Nat := field 335 304 v
def discMinphase (v : Nat) : Nat := field 303 303 v
def discFormat (v : Nat) : Nat := field 295 288 v
def discLength (v : Nat) : Nat := field 287 256 v
def discDetector (v : Nat) : Nat := field 255 240 v
def discLevel (v : Nat) : Nat := field 239 224 v
def discDseq (v : Nat) : Nat := field 223 192 v

/-- The rate a record asks for, by RATE_MODE (R75 step 6). -/
def Core.rateOfDisc (c : Core) (st v : Nat) : Nat :=
  match discMode v with
  | 0 => c.get (Obj.Preset.RATE_PRESET (discPreset v - 1))
  | 1 => discRate v
  | _ => (c.streamOf st).rate

/-- Do two rates differ as ratios? -/
def rateDiffers (a b : Nat) : Bool := field 79 40 a * field 39 0 b != field 79 40 b * field 39 0 a

/-- GDELAY and MINPHASE of a record take effect (R75 step 7). -/
def Core.takeDelay (c : Core) (st v : Nat) : Core :=
  ((c.put (Obj.Stream.GDELAY st) (discGdelay v)).put (Obj.Stream.MINPHASE st) (discMinphase v)).inc
    (Obj.Stream.DISC_APPLIED st)

/-- The rate and the delay of a RESYNC take effect at an index (R75 step 5, R76). -/
def Core.takeDisc (c : Core) (st s v : Nat) : Core :=
  let rate := c.rateOfDisc st v
  (if rateDiffers rate (c.streamOf st).rate then c.changeRate st s rate (discGdelay v) (discDseq v) else c).takeDelay st v

/-- A waiting record takes effect (R75 step 4): STATE and END, which change no rate (R75 step 5). END commits the partial block
(R73). -/
def Core.applyWaiting (c : Core) (st v : Nat) : Core :=
  let c1 := c.takeDelay st v
  if discEvent v = 5 && (c1.stState st = St.armed || c1.stState st = St.running) then (c1.closeAll st).endStream st else c1

/-- The waiting record with the lowest SIDX at or below E, the oldest on a tie (R75). -/
def firstWaiting (e : Nat) (l : List Nat) : Option Nat :=
  l.foldl (fun a v =>
    if discSidx v ≤ e then
      match a with | none => some v | some u => if discSidx v < discSidx u then some v else some u
    else a) none

/-- Waiting records take effect as E reaches them (R75). -/
def Core.applyDue (c : Core) (st : Nat) : Nat → Core
  | 0 => c
  | fuel + 1 =>
    match firstWaiting (c.next st) (c.streamOf st).waiting with
    | none => c
    | some v => ((c.updStream st fun s => { s with waiting := s.waiting.erase v }).applyWaiting st v).applyDue st fuel

/-- E moves to an index; what was skipped is already recorded. Once it is 2^64, NEXT_INDEX and RING_HEAD read 0.
DESIGN CHOICE, unsafe (log entry 82). -/
def Core.moveE (c : Core) (st e : Nat) : Core :=
  let c1 := (c.put (Obj.Stream.NEXT_INDEX st) e).closeBlocks st e
  (c1.feedPassed st e).applyDue st 5

/-! ## SAMPLES (R67, R89 to R91) -/

/-- A cell is discarded for format, kind or state (R70). DEDUCED, unsafe (log entry 45). -/
def Core.discardCell (c : Core) (st : Nat) : Core := c.inc (Obj.Stream.DISCARDED st)

/-- N of a cell (R89), none where it would lie below 0. DEDUCED, unsafe (log entry 45). -/
def fullIndex (e lo : Nat) : Option Nat :=
  let d : Int := ((lo : Int) - e + 2 ^ 31) % 2 ^ 32 - 2 ^ 31
  if (e : Int) + d < 0 then none else some ((e : Int) + d).toNat

/-- Put samples of one block into the buffer: block number, first and last index, the bytes in place. -/
def putBlock (no first last data : Nat) : List RingBlock → List RingBlock
  | [] => [{ no := no, data := data, runs := [(first, last)], uncommitted := some first, due := false, poison := false }]
  | b :: t =>
    if b.no = no then
      { b with
        data := b.data ||| data
        runs := match b.runs.getLast? with
          | some r => if r.2 + 1 = first then b.runs.dropLast ++ [(r.1, last)] else b.runs ++ [(first, last)]
          | none => [(first, last)]
        uncommitted := match b.uncommitted with | some u => some u | none => some first } :: t
    else b :: putBlock no first last data t

/-- Store samples in the elastic buffer, block by block (R66, R92, R99). -/
def storeSamples (spb size : Nat) (s : StreamState) (n : Nat) : List Nat → StreamState
  | [] => s
  | x :: t =>
    let at_ := 8 * (256 - (n % spb + 1) * size)
    storeSamples spb size { s with blocks := putBlock (n / spb) n n (x <<< at_) s.blocks } (n + 1) t

/-- The samples of a payload as numbers, byte 0 highest. -/
def samplesOf (size : Nat) (bs : List Byte) : Nat → List Nat
  | 0 => []
  | k + 1 => ofBytes (bs.take size) :: samplesOf size (bs.drop size) k

/-- The first accepted cell takes an ARMED stream to RUNNING (R73). -/
def Core.cellAccepted (c : Core) (st : Nat) : Core :=
  if c.stState st = St.armed then c.put (Obj.Stream.STATE st) St.running else c

/-- A SAMPLES cell of a bound stream in ARMED or RUNNING whose format is right: k samples from SIDX_LO (R73, R78, R89 to
R91, R118). `bad` is a PCRC mismatch (R59). DEDUCED, unsafe (log entry 45). -/
def Core.takeSamples (c : Core) (st lo marks : Nat) (bad : Bool) (samples : List Nat) : Core :=
  let e := c.next st
  let k := samples.length
  match fullIndex e lo with
  | none => (c.inc (Obj.Stream.BACKSTEPS st)).flag (Obj.Stream.FLAGS st) 1
  | some n =>
    if n < e then (c.inc (Obj.Stream.BACKSTEPS st)).flag (Obj.Stream.FLAGS st) 1
    else if 2 ^ 64 < n + k then (((c.flag (Obj.Stream.FLAGS st) 3).endStream st).headMoved st).water
    else
      let r := c.get (Obj.Stream.REGION st)
      let c1 := (c.cellAccepted st).addGap st e n
      let c2 := if marks = 0 then c1
        else c1.addSpan st n (n + k) (marks / 8 % 2 * Mk.settling + marks / 4 % 2 * Mk.crossfade
          + marks / 2 % 2 * Mk.abandoned + marks % 2 * Mk.threshold) 0 0
      let c3 :=
        if (c2.ringOf r).blocked.isSome then
          ((c2.addGap st n (n + k)).add (Obj.Quota.BLOCKED_SAMPLES r) 64 k).moveE st (n + k)
        else
          let c4 := if bad then ((c2.addSpan st n (n + k) Mk.linkErr 0 0).flag (Obj.Stream.FLAGS st) 2).inc
            (Obj.Stream.LINK_ERR_CELLS st) else c2
          let c5 := (c4.updStream st fun s =>
            storeSamples (c.spb st) (fmtBytes (c.get (Obj.Stream.FORMAT st))) s n samples).inc64 (Obj.Stream.CELLS st)
          let c6 := if c5.urgent then c5.releaseHeld else c5
          (c6.feed st n samples).moveE st (n + k)
      let c7 := if marks % 2 = 1 then (c3.headMoved st).thresholdCandidate st n none 0 else c3
      (c7.headMoved st).water

/-- A SAMPLES cell for a bound stream (R67, R73, R407). `malformed` is what the port does with a rule breach.
DEDUCED, unsafe (log entry 45). -/
def Core.samplesCell (c : Core) (st lo marks plen : Nat) (bad : Bool) (payload : List Byte) (malformed : Core → Core) : Core :=
  let size := fmtBytes (c.get (Obj.Stream.FORMAT st))
  let k := plen / size
  if plen % size ≠ 0 || k = 0 || c.spb st < k then (malformed c).discardCell st
  else if !c.inService || !(c.stState st = St.armed || c.stState st = St.running) then c.discardCell st
  else c.takeSamples st lo marks bad (samplesOf size payload k)

/-! ## DISCLOSURE (R74, R75) -/

/-- A refused record (R75 step 1); `rate` also sets RATE_DENIED. -/
def Core.refuseDisc (c : Core) (st : Nat) (rate : Bool) : Core :=
  let c1 := c.flag (Obj.Stream.FLAGS st) 4
  if rate then c1.flag (Obj.Stream.FLAGS st) 8 else c1

/-- Is the record refused for its rate: a preset of numerator 0, EXACT not allowed, or an exact rate without a value (R75
step 6)? -/
def Core.discRateBad (c : Core) (st v : Nat) : Bool :=
  match discMode v with
  | 0 => field 79 40 (c.get (Obj.Preset.RATE_PRESET (discPreset v - 1))) = 0
  | 1 => c.get (Obj.Stream.EXACT_ALLOWED st) ≠ 1
  | _ => false

/-- Is the record refused in itself or by E and the rate in force (R75 steps 1, 2, 4, 5)? An exact rate of numerator 0 and
preset 0 or 255 are refused too. DESIGN CHOICE, unsafe (log entry 82). -/
def Core.discBad (c : Core) (st v : Nat) : Bool :=
  let ev := discEvent v
  let e := c.next st
  field 423 416 v ≠ 0 || field 302 296 v ≠ 0 || field 191 0 v ≠ 0 || 5 < ev || 2 < discMode v
  || (discMode v = 0 && (discPreset v = 0 || discPreset v = 255))
  || (discMode v = 1 && (field 39 0 (discRate v) = 0 || field 79 40 (discRate v) = 0))
  || discFormat v ≠ c.get (Obj.Stream.FORMAT st)
  || ((ev = 0 || ev = 1 || ev = 5) && discSidx v < e)
  || ((ev = 0 || ev = 5) && e < discSidx v && 4 ≤ (c.streamOf st).waiting.length)
  || (ev ≠ 1 && !(c.discRateBad st v) && rateDiffers (c.rateOfDisc st v) (c.streamOf st).rate)

/-- The index one above a span of LENGTH samples from SIDX, no index lying above 2^64 − 1 (R24). -/
def discStop (v : Nat) : Nat := min (discSidx v + discLength v) (2 ^ 64)

/-- RESYNC (R75 step 2): E moves to SIDX, what lies between is GAP, and the rate changes there. -/
def Core.resync (c : Core) (st v : Nat) : Core :=
  let s := discSidx v
  let c1 := (c.addGap st (c.next st) s).moveE st s
  let c2 := if discLength v = 0 then c1 else c1.addSpan st s (discStop v) Mk.settling 0 (discDseq v)
  c2.takeDisc st s v

/-- CROSSFADE, ABANDON and THRESHOLD (R75 step 3, R81, R131). -/
def Core.markDisc (c : Core) (st v : Nat) : Core :=
  let s := discSidx v
  let c1 := c.takeDelay st v
  if discEvent v = 4 then
    (c1.addSpan st s (s + 1) Mk.threshold (discDetector v * 65536 + discLevel v) (discDseq v)).thresholdCandidate st s
      (some (discDetector v, discLevel v)) (discDseq v)
  else
    let mk := if discEvent v = 2 then Mk.crossfade else Mk.abandoned
    if discLength v = 0 then c1
    else (c1.addSpan st s (discStop v) mk 0 (discDseq v)).lateMark st s (discStop v) mk

/-- Apply a disclosure record (R75). -/
def Core.takeRecord (c : Core) (st v : Nat) (bad : Bool) : Core :=
  if bad then (c.refuseDisc st false).addSpan st (c.next st) (c.next st) Mk.linkErr 0 0
  else if c.discBad st v then c.refuseDisc st (c.discRateBad st v)
  else if c.discRateBad st v then c.refuseDisc st true
  else
    match discEvent v with
    | 1 => c.resync st v
    | 2 | 3 | 4 => c.markDisc st v
    | _ =>
      let c1 := c.updStream st fun s => { s with waiting := s.waiting ++ [v] }
      c1.applyDue st 5

/-- A DISCLOSURE cell for a bound stream (R73, R74, R407). -/
def Core.disclosureCell (c : Core) (st plen : Nat) (bad : Bool) (payload : List Byte) (malformed : Core → Core) : Core :=
  if plen ≠ 64 then (malformed c).discardCell st
  else if !c.inService || !(c.stState st = St.armed || c.stState st = St.running) then c.discardCell st
  else (((c.cellAccepted st).takeRecord st (ofBytes (payload.take 64)) bad).headMoved st).water

/-! ## Commit (R92, R99, R118, R421) -/

/-- FLUSH_TIMEOUT: the partial block goes to the controllers; it stays open (R92). DESIGN CHOICE, unsafe (log entry 9). -/
def Core.flushTimeout (c : Core) (st : Nat) : Core :=
  match (c.streamOf st).blocks.getLast? with
  | some b =>
    if b.uncommitted.isSome && !b.due then
      let f := fun (x : RingBlock) => if x.no = b.no then { x with due := true } else x
      (c.updStream st fun s => { s with blocks := s.blocks.map f }).flag (Obj.Stream.FLAGS st) 6
    else c
  | none => c

/-- Samples received before become GAP, which marks the rows that contexts have applied too (R118, R131, R421). -/
def Core.gapLate (c : Core) (st first stop : Nat) : Core := (c.addGap st first stop).lateMark st first stop Mk.gap

/-- The ring is blocked: the samples of the blocks that wait are not stored and become GAP (R118). -/
def Core.blockRing (c : Core) (st l : Nat) : Core :=
  let r := c.get (Obj.Stream.REGION st)
  let per := c.spseg st
  let out := (c.streamOf st).blocks.filter fun b => l * 4096 ≤ b.no
  let runs := (out.map (·.runs)).flatten
  let c1 := c.updStream st fun s => { s with blocks := s.blocks.filter fun b => b.no < l * 4096 }
  let c2 := runs.foldl (fun c q =>
    (c.gapLate st (max q.1 (l * per)) (q.2 + 1)).add (Obj.Quota.BLOCKED_SAMPLES r) 64 (q.2 + 1 - q.1)) c1
  c2.stopRing r l

/-- Post the four bursts of a block; none when one of them must wait. The list names the bursts discarded (R99, R421).
DEDUCED, unsafe (log entry 25). -/
def Core.postBlock (c : Core) (ha cls data : Nat) (poison : Bool) (st : Nat) : Option (Core × List Nat) :=
  (List.range 4).foldl (fun a i =>
    match a with
    | none => none
    | some (c, lost) =>
      (c.post (writeReq (ha + i) cls ((data >>> (512 * (3 - i))) % 2 ^ 512) poison (.block st))).map fun x =>
        (x.1, if x.2 then lost ++ [i] else lost)) (some (c, []))

/-- The samples of a block with a byte in a discarded burst become GAP (R421). -/
def Core.gapLost (c : Core) (st : Nat) (b : RingBlock) (lost : List Nat) : Core :=
  let size := fmtBytes (c.get (Obj.Stream.FORMAT st))
  let spb := c.spb st
  b.runs.foldl (fun c q =>
    (List.range (q.2 + 1 - q.1)).foldl (fun c i =>
      let n := q.1 + i
      let p := n % spb * size
      if lost.any fun k => p < 64 * k + 64 && 64 * k < p + size then c.gapLate st n (n + 1) else c) c) c

/-- After a commit: the block leaves the buffer when it is complete, or when its stream stores no more (R92). -/
def Core.blockTaken (c : Core) (st : Nat) (b : RingBlock) : Core :=
  let gone := (b.no + 1) * c.spb st ≤ c.next st || c.stState st = St.ended || c.stState st = St.flushing
  let f := fun (x : RingBlock) => if x.no = b.no then { x with due := false, uncommitted := none } else x
  c.updStream st fun s =>
    { s with blocks := if gone then s.blocks.filter fun x => x.no != b.no else s.blocks.map f }

/-- Commit a block to a physical segment, if its controllers accept it (R97, R99). -/
def Core.commitAt (c : Core) (st : Nat) (b : RingBlock) (p : Nat) : Option Core :=
  let r := c.get (Obj.Stream.REGION st)
  (c.postBlock (c.regionHa r + p * 2 ^ 14 + b.no % 4096 * 4) (if c.urgent then 1 else 2) b.data b.poison st).map fun x =>
    let c1 := (if x.2.isEmpty then x.1 else x.1.gapLost st b x.2).blockTaken st b
    (((if c1.urgent then c1.releaseHeld else c1).headMoved st).flushDoneStream st).water

/-- Try to commit a block that waits behind others of its stream (R99): into the cursor's segment or the one before it, or into
the next, when the cursor may step there; it never leaves a waiting block more than one segment behind. -/
def Core.tryCommit (c : Core) (st : Nat) (before : List RingBlock) (b : RingBlock) : Option Core :=
  let r := c.get (Obj.Stream.REGION st)
  let l := b.no / 4096
  let p := c.get (Obj.Region.CURSOR r)
  let top := segL ((c.ringOf r).map.num p)
  if !b.due then none
  else if l < top then c.commitAt st b (c.ringOf r).prev
  else if l = top then c.commitAt st b p
  else if before.isEmpty then
    let m := c.moveCursor r l
    if m.2 then (m.1.commitAt st b (m.1.get (Obj.Region.CURSOR r))).map fun c1 => c1.unblock
    else some (((m.1.blockRing st l).flushDoneStream st).headMoved st).water
  else if l = top + 1 && before.all fun x => top ≤ x.no / 4096 then
    let m := c.moveCursor r l
    if m.2 then (m.1.commitAt st b (m.1.get (Obj.Region.CURSOR r))).map fun c1 => c1.unblock else none
  else none

/-- BLOCK_COMMIT: the first block that waits and whose controllers accept it is committed; blocks of stalled subchannels hold
back RING_HEAD only (R97, R99). DEDUCED, unsafe (log entry 25). -/
def Core.blockCommit (c : Core) (st : Nat) : Core :=
  let bs := (c.streamOf st).blocks
  ((bs.mapIdx fun i b => (bs.take i, b)).findSome? fun x => c.tryCommit st x.1 x.2).getD c

/-! ## ENABLE (R72, R73) -/

/-- The case of R72 that refuses ENABLE = 1. The last case never arises (R424). -/
def Core.enableRefusal (c : Core) (st : Nat) : Option Status :=
  let rate := c.get (Obj.Stream.RATE st)
  let spec := c.get (Obj.Stream.SPECLEN st)
  let p := c.get (Obj.Stream.PORT st)
  let r := c.get (Obj.Stream.REGION st)
  if field 79 40 rate = 0 || (if c.get (Obj.Stream.CLASS st) = 1 then spec = 0 || 1048576 < spec else spec ≠ 0) then
    some .malformed
  else if 7 < p || !(c.streamRing st) then some .malformed
  else if (List.range 256).any fun s => s ≠ st && c.stState s ≠ 0 && c.get (Obj.Stream.REGION s) = r then some .retry
  else if !(c.bitOf (Obj.Region.OWNER_MASK r) p) then some .noRegion
  else if c.get (Obj.Region.WORLD r) = 1 && !(c.bitOf Obj.Sec.PORT_WORLD p) then some .deniedWorld
  else if field 23 16 (c.get Obj.Millpond.PARTITION) < 4 then some .malformed
  else none

/-- STREAM_ENABLE (R72, R73, R87). -/
def Core.enableStream (c : Core) (st : Nat) : Status × Core :=
  let s := c.stState st
  if s = St.flushing then (.retry, c)
  else if s ≠ St.disabled then (.ok, c)
  else
    match c.enableRefusal st with
    | some x => (x, c)
    | none =>
      let e := c.get (Obj.Stream.START_INDEX st)
      let rate := c.get (Obj.Stream.RATE st)
      let r := c.get (Obj.Stream.REGION st)
      let b0 : TimeBase := { s := 0, t := (c.get (Obj.Stream.T0 st) : Rat) / 4294967296, num := field 79 40 rate,
                             den := field 39 0 rate }
      let b : TimeBase := { b0 with s := e, t := b0.timeOf (c.specOf st) e }
      let c1 := ((((c.put (Obj.Stream.STATE st) St.armed).put (Obj.Stream.ENABLE st) 1).put (Obj.Stream.NEXT_INDEX st) e).put
        (Obj.Stream.GDELAY st) 0).put (Obj.Stream.MINPHASE st) 0
      let c2 := (c1.updStream st fun _ => { blocks := [], waiting := [], bases := [b], rate := rate }).showBases st
      let c3 := ((c2.put (Obj.Region.STREAM r) st).startRing r (e / c.spb st / 4096) (c.spseg st)).unblock
      (.ok, (((c3.mismatchCtxs st).feedPassed st e).headMoved st).water)

/-- A stream enters FLUSHING (R73, R124). -/
def Core.flushStream (c : Core) (st : Nat) : Core :=
  let c1 := (((c.put (Obj.Stream.STATE st) St.flushing).put (Obj.Stream.ENABLE st) 0).stopCtxs st).closeAll st
  let c2 := c1.updStream st fun s => { s with waiting := [], blocks := s.blocks.filter fun b => b.uncommitted.isSome }
  ((c2.flushDoneStream st).headMoved st).water

/-- STREAM_DISABLE (R72, R73). -/
def Core.disableStream (c : Core) (st : Nat) : Status × Core :=
  let s := c.stState st
  if s = St.disabled || s = St.flushing then (.ok, c) else (.ok, c.flushStream st)

/-! ## Millpond (R95, R98) -/

/-- PARTITION_WRITE (R95, R96). The parts' own ranges and a change of COMBINE under an active context are refused before
(R446 checks 4 and 5). -/
def Core.writePartition (c : Core) (v : Nat) : Status × Core :=
  let el := field 23 16 v
  if el < 4 && (List.range 256).any fun s => c.stState s ≠ 0 then (.malformed, c)
  else
    let em := el * 8 * 2 ^ 20
    (.ok, ((((c.put Obj.Millpond.PARTITION v).put Obj.Millpond.HIGH_WATER (em / 8 * 7)).put Obj.Millpond.LOW_WATER
      (em / 8 * 6)).touch).water)

end Sys2Proof.Machine
end

