-- ==== Sys2Proof/Machine/Jobs.lean ====
section
/-! DEFINITION. What ends a drain job: its result, its checkpoint, its halt (06_tailrace_drain_scanout.md R149, R156;
13_security_worlds.md R350, R351). -/

namespace Sys2Proof.Machine

/-! ## Stored keys (R340, R369) -/

/-- The IV of a wrap: SERIAL[12:15], three zero bytes, the slot number and its generation (R340). -/
def wrapIv (k gen : Nat) : Nat := (Config.serial.toNat % 2 ^ 32) <<< 64 + (k % 256) <<< 32 + gen % 2 ^ 32

/-- A key wrapped under ROOT_KEY: ciphertext and tag as 48 bytes (R340). -/
def wrapKey (k gen key : Nat) : Nat :=
  let ct := gcmCrypt Config.rootKey.toNat (wrapIv k gen) (toBytes 32 key)
  ofBytes ct * 2 ^ 128 + gcmTag Config.rootKey.toNat (wrapIv k gen) [] ct

/-- The key of a wrapped one, if its tag holds (R340). -/
def unwrapKey (k gen v : Nat) : Option Nat :=
  let ct := toBytes 32 (v / 2 ^ 128)
  if gcmTag Config.rootKey.toNat (wrapIv k gen) [] ct = v % 2 ^ 128 then
    some (ofBytes (gcmCrypt Config.rootKey.toNat (wrapIv k gen) ct))
  else none

/-- The record key of a slot. -/
def Core.recordKey (c : Core) (k : Nat) : Nat :=
  (unwrapKey k (c.get (Obj.KeySlot.KEY_GEN k)) (c.get (Obj.KeySlot.KEY k))).getD 0

/-- Is a key slot usable: LOADED, on a part with SECURE_BOOT = 1 (R339, R340)? -/
def Core.keyUsable (c : Core) (secureBoot : Bool) (k : Nat) : Bool :=
  secureBoot && 1 ≤ k && k ≤ 15 && c.get (Obj.KeySlot.STATE k) = 1

/-! ## Jobs -/

/-- The objects of a job's result (R145). -/
def jobResultKeys (j : Nat) : List Nat := (List.range 12).map fun i => 0x340017 + 0x100 * j + i

/-- Is a job in RUNNING or HALTED? -/
def Core.jobLive (c : Core) (j : Nat) : Bool := c.get (Obj.Job.STATE j) = 1 || c.get (Obj.Job.STATE j) = 2

/-- A checkpoint as formed at the end of a job: 320 bytes with CP_SEQ and the signature still 0 (R351). -/
def Core.checkpoint (c : Core) (j endState : Nat) : Nat :=
  let s := c.jobOf j
  let n := s.digests.length / 48
  0x4350 <<< 2544 + 1 <<< 2536 + endState <<< 2528 + c.get Obj.Id.HUB_ID <<< 2496 + j <<< 2424
  + c.get (Obj.Job.SRC_KIND j) <<< 2416 + c.get (Obj.Job.PROTECT j) <<< 2408 + c.get (Obj.Job.KEY_SLOT j) <<< 2400
  + c.get (Obj.Job.GEN j) <<< 2384 + c.get (Obj.Job.SOURCE j) <<< 2368 + c.get (Obj.Job.SOURCE_GEN j) <<< 2352
  + n <<< 2272 + s.digestBytes <<< 2208 + c.get (Obj.Job.FIRST_CHAIN j) <<< 2144 + c.get (Obj.Job.LAST_CHAIN j) <<< 2080
  + s.prevTag <<< 1952 + sha384 s.digests <<< 1568 + s.started <<< 1472 + (c.hubTime % 2 ^ 96) <<< 1376
  + (c.halfSt 0).svn <<< 1360 + (c.halfSt 1).svn <<< 1344

/-- A job ends in DONE (3) or CANCELLED (4): READY, the credit, the window or slot, the RECORD region's end and the
checkpoint (R116, R149, R155, R350). -/
def Core.endJob (c : Core) (j state : Nat) : Core :=
  let s := c.jobOf j
  let prot := c.get (Obj.Job.PROTECT j) ≠ 0
  let total := (s.plan.map fun r => r.len + 512).sum
  let c1 := (((c.put (Obj.Job.STATE j) state).put (Obj.Job.READY j) 1).flag (Obj.Job.FLAGS j) (if state = 3 then 0 else 1)).put
    (Obj.Job.CREDIT_MW j) 0
  let c2 := (c1.release Ck.drain j).updJob j fun s =>
    { s with flights := [], cancelling := false, formed := [], lastKey := if prot && s.digests ≠ [] then
        c.get (Obj.Job.KEY_SLOT j) else 0, lastTag := if prot && s.digests ≠ [] then s.prevTag else 0 }
  let c3 := if prot then c2.withCheckpoints (c2.checkpoints ++ [(j, c.checkpoint j state)]) else c2
  let c4 := if state = 3 && c.get (Obj.Job.MODE j) = 2 then
      c3.put (Obj.Region.RECORD_END (c.get (Obj.Job.PUSH_REGION j))) (c.get (Obj.Job.PUSH_OFFSET j) * 64 + total)
    else c3
  if c.get (Obj.Job.SRC_KIND j) = 0 then c4.drainEnded (c.get (Obj.Job.SOURCE j)) else c4

/-- A running job halts; one that is being cancelled ends instead (R149, R156). -/
def Core.haltJob (c : Core) (j cause : Nat) : Core :=
  if c.get (Obj.Job.STATE j) ≠ 1 then c
  else if (c.jobOf j).cancelling then c.endJob j 4
  else
    let c1 := ((c.put (Obj.Job.STATE j) 2).put (Obj.Job.HALT_CAUSE j) cause).flag (Obj.Job.FLAGS j) 2
    ((c1.updJob j fun s => { s with flights := [] }).flag Obj.Tailrace.FLAGS 0).raise Src.trJobHalt (ctxNumber 5 3 j)

/-- JOB_CANCEL: no new cell leaves; pushes in flight are awaited or timed out once, and then the job is CANCELLED
(R149). -/
def Core.cancelJob (c : Core) (j : Nat) : Core :=
  if !(c.jobLive j) then c
  else
    let c1 := c.updJob j fun s => { s with cancelling := true, flights := s.flights.filter fun f => !f.again }
    if (c1.jobOf j).flights.isEmpty then c1.endJob j 4 else c1

end Sys2Proof.Machine
end

