-- ==== Sys2Proof/Machine/Ledger.lean ====
section
/-! DEFINITION. The ledger's A/B slots (09_fantail_calibration.md R237 to R239). Record 0 is the East half's calibration
record, 1 the West half's, 2 the record of the LEDGER objects. -/

namespace Sys2Proof.Machine

/-- Number of a ledger record. -/
def ledgerNum : LedgerRec → Nat
  | .calEast => 0 | .calWest => 1 | .objects => 2

/-! ## The bytes of a slot (R237, R240, R241) -/

/-- The header of an entry: VALID, SOURCE, BAND, SPEED, TEMP and TIME_NS (R241). -/
def CalSet.header (s : CalSet) (band : Nat) : Nat :=
  if s = CalSet.none then 0
  else 2 ^ 127 + (s.source % 8) <<< 124 + (band % 16) <<< 120 + (s.speed % 2 ^ 16) <<< 96 + (ofSigned 32 s.temp) <<< 64
    + s.timeNs % 2 ^ 64

/-- An entry: header, CA record and 20 lane records, 448 bytes (R240). -/
def CalSet.entry (s : CalSet) (band : Nat) : List Byte :=
  toBytes 16 (s.header band) ++ toBytes 32 s.ca ++ ((List.range 20).map fun i => toBytes 20 (nth s.lanes i 0)).flatten

/-- An object of the objects' record: its index and subindex, its length and its value. The spec gives that record no
layout. DESIGN CHOICE, safe (log entry 84). -/
def objectBytes (e : Nat × Nat) : List Byte :=
  let n := Nat.log2 e.2 / 8 + 1
  toBytes 4 e.1 ++ toBytes 4 n ++ toBytes n e.2

/-- What follows the header: the sets of 16 subchannels in 5 bands, 35,840 bytes (R240), or the objects. -/
def LedgerSlot.body (x : LedgerSlot) : List Byte :=
  if x.half ≤ 1 then
    ((List.range 80).map fun k => (Tbl.get (fun _ => CalSet.none) x.sets k).entry (k % 5)).flatten
  else (x.objs.map objectBytes).flatten

/-- Length of the record. -/
def LedgerSlot.length (x : LedgerSlot) : Nat := if x.half ≤ 1 then 35904 else 64 + x.body.length

/-- The bytes that CRC covers, as programmed: bytes 0 to 3 and from 8 on (R240). -/
def LedgerSlot.covered (x : LedgerSlot) (seq : Nat) : List Byte :=
  toBytes 4 seq ++ toBytes 2 x.magic ++ toBytes 1 x.format ++ toBytes 1 x.half ++ toBytes 4 x.length ++ toBytes 8 x.timeNs
    ++ List.replicate 40 0 ++ x.body

/-- The bits of a byte that the flash holds otherwise than programmed. -/
def LedgerSlot.flawAt (x : LedgerSlot) (i : Nat) : Byte :=
  (x.flaw.filter fun f => f.1 == i).foldl (fun a f => a ^^^ f.2) 0

/-- Bytes as the flash holds them, the first at a place of the slot. -/
def LedgerSlot.held (x : LedgerSlot) (at_ : Nat) (bs : List Byte) : List Byte :=
  if x.flaw.isEmpty then bs else bs.mapIdx fun i b => b ^^^ x.flawAt (at_ + i)

/-- SEQ as the flash holds it. -/
def LedgerSlot.seqHeld (x : LedgerSlot) : Nat := ofBytes (x.held 0 (toBytes 4 x.seq))

/-- Does the check word hold (R237, R240)? -/
def LedgerSlot.crcHolds (x : LedgerSlot) : Bool :=
  let bs := x.covered x.seq
  crc32c (x.held 0 (bs.take 4) ++ x.held 8 (bs.drop 4)) == ofBytes (x.held 4 (toBytes 4 x.crc))

/-- A slot is valid when its SEQ is not 0xFFFF_FFFF and its magic, format and check word are correct (R237). -/
def LedgerSlot.valid (x : LedgerSlot) : Bool :=
  x.seqHeld != 0xFFFFFFFF && ofBytes (x.held 8 (toBytes 2 x.magic)) == 0x5A43
    && x.held 10 (toBytes 1 x.format) == [2] && x.crcHolds

/-- Does the read-back find the slot as it was programmed (R237 step 4)? -/
def LedgerSlot.clean (x : LedgerSlot) : Bool := x.flaw.all fun f => f.2 == 0 || x.length ≤ f.1

/-- The highest SEQ of a valid slot (R237 step 3); 0 when none is valid. -/
def LedgerState.topSeq (l : LedgerState) : Nat :=
  max (if l.a.valid then l.a.seqHeld else 0) (if l.b.valid then l.b.seqHeld else 0)

/-- The slot a commit targets: an invalid one, else the one with the lower SEQ (R237 step 1). -/
def LedgerState.target (l : LedgerState) : Nat :=
  if !l.a.valid then 0 else if !l.b.valid then 1 else if l.a.seqHeld ≤ l.b.seqHeld then 0 else 1

/-- Replace a slot. -/
def LedgerState.setSlot (l : LedgerState) (i : Nat) (x : LedgerSlot) : LedgerState :=
  if i = 0 then { l with a := x } else { l with b := x }

/-- The slot that governs: the valid one with the higher SEQ, A on a tie (R239). -/
def LedgerState.governs (l : LedgerState) : Option (Nat × LedgerSlot) :=
  if l.a.valid && (!l.b.valid || l.b.seqHeld ≤ l.a.seqHeld) then some (0, l.a)
  else if l.b.valid then some (1, l.b) else none

/-- The LEDGER objects as they stand (R12). DESIGN CHOICE, safe (log entry 84). -/
def Core.ledgerObjs (c : Core) : Tbl Nat := c.objs.filter fun e => isLedger e.1 || e.1 == Hid.CP_RESERVE || e.1 == Hid.SPEED

/-- The calibration sets of a half as they stand, by 5·(subchannel mod 16) + band (R240). -/
def Core.halfSets (c : Core) (h : Nat) : Tbl CalSet :=
  ((List.range 16).map fun i => ((c.ftOf (16 * h + i)).sets.map fun e => (5 * i + e.1, e.2))).flatten

/-- SLOT_SEQ and SLOT_VALID show the slots of the calibration records: East A, East B, West A, West B (R244).
DEDUCED, unsafe (log entry 69). -/
def Core.showSlots (c : Core) : Core :=
  let l := [(c.ledgerOf 0).a, (c.ledgerOf 0).b, (c.ledgerOf 1).a, (c.ledgerOf 1).b]
  (c.put Obj.Cal.SLOT_SEQ (l.foldl (fun a s => a * 2 ^ 32 + s.seqHeld) 0)).put Obj.Cal.SLOT_VALID
    (l.foldl (fun a s => a * 2 + ofBool s.valid) 0)

/-- They are shown anew after a change of a calibration record. -/
def Core.slotsMoved (c : Core) (r : Nat) : Core := if r = 2 then c else c.showSlots

/-- May a commit begin: a calibration record commits at most once per COMMIT_MIN_S, but for a shutdown (R238, R419;
500,000,000 ticks are 1 s). -/
def Core.commitMay (c : Core) (r : Nat) : Bool :=
  r = 2 || c.seq.orderly || (c.ledgerOf r).last.all fun t => t + c.get Obj.Cal.COMMIT_MIN_S * 500000000 ≤ c.tick

/-- A commit begins: its target slot is erased (R237 steps 1 and 2). A commit that would need SEQ 0xFFFF_FFFF raises
LEDGER_COMMIT instead. One that COMMIT_MIN_S keeps back waits for the next (R238). DEDUCED, unsafe (log entry 20). -/
def Core.ledgerBegin (c : Core) (r : Nat) : Core :=
  let l := c.ledgerOf r
  if l.run.isSome then c
  else if !(c.commitMay r) then c.updLedger r fun l => { l with dirty := true }
  else if l.topSeq + 1 = 0xFFFFFFFF then c.raise Src.ledgerCommit (ctxNone 0 0)
  else
    (c.updLedger r fun l =>
      { l.setSlot l.target LedgerSlot.init with
        run := some { slot := l.target, step := 2, again := false, content := LedgerSlot.init }, last := c.tick }).slotsMoved r

/-- The content that a commit programs: the LEDGER objects, or the sets of a half, as they stand; the check word covers the
new SEQ (R237 step 3, R240). -/
def Core.ledgerContent (c : Core) (r seq : Nat) : LedgerSlot :=
  let x : LedgerSlot :=
    { seq := seq, crc := 0, magic := 0x5A43, format := 2, half := if r = 2 then 255 else r, timeNs := c.timeNs % 2 ^ 64,
      objs := if r = 2 then c.ledgerObjs else [], sets := if r = 2 then [] else c.halfSets r, flaw := [] }
  { x with crc := crc32c (x.covered seq) }

/-- CHAIN_RESERVE as the ledger holds it (R347). DEDUCED, unsafe (log entry 53). -/
def Core.reserveStored (c : Core) : Nat :=
  match (c.ledgerOf 2).governs with
  | some (_, s) => Tbl.get defaultOf s.objs Obj.Sec.CHAIN_RESERVE
  | none => defaultOf Obj.Sec.CHAIN_RESERVE

/-- A commit failed. The second that leaves the chain's reservation out halts every protected job (R347). -/
def Core.chainCommitFailed (c : Core) (r : Nat) : Core :=
  if r ≠ 2 || c.get Obj.Sec.CHAIN_RESERVE ≤ c.reserveStored then c
  else if c.chainFails = 0 then c.withChainFails 1
  else
    let c1 := c.each 32 fun c j => if c.get (Obj.Job.PROTECT j) ≠ 0 then c.haltJob j 4 else c
    (c1.withChainFails 0).raise Src.secKey (ctxNone 0 0)

/-- A commit failed for good: the valid slot stays in force and what it carried waits for the next (R237 step 4).
DEDUCED, unsafe (log entry 20). -/
def Core.commitFailed (c : Core) (r : Nat) : Core :=
  let c1 := (c.updLedger r fun l => { l with run := none, dirty := true }).flag Obj.Cal.FLAGS 1
  ((c1.inc Obj.Cal.COMMIT_FAILS).raise Src.ledgerCommit (ctxNone 0 0)).chainCommitFailed r

/-- In the orderly phase a change that a commit under way no longer carried is committed next (R419 step 3).
DEDUCED, unsafe (log entry 16). -/
def Core.commitAgain (c : Core) (r : Nat) : Core :=
  if c.seq.orderly && (c.ledgerOf r).dirty then c.ledgerBegin r else c

/-- Every byte but SEQ is programmed (R237 step 3). -/
def Core.ledgerProgram (c : Core) (r : Nat) (x : LedgerCommit) (flaw : List (Nat × Byte)) : Core :=
  c.updLedger r fun l => l.setSlot x.slot { x.content with seq := 0xFFFFFFFF, flaw := flaw }

/-- SEQ is programmed (R237 step 5). -/
def Core.ledgerSeal (c : Core) (r : Nat) (x : LedgerCommit) (flaw : List (Nat × Byte)) : Core :=
  c.updLedger r fun l => l.setSlot x.slot { x.content with flaw := flaw }

/-- A step of a commit ends (R237 steps 2 to 5). `flaw` names the bits that it left otherwise than programmed.
DEDUCED, unsafe (log entry 20). -/
def Core.ledgerStep (c : Core) (r : Nat) (flaw : List (Nat × Byte)) : Core :=
  let l := c.ledgerOf r
  match l.run with
  | none => c
  | some x =>
    if x.step = 2 then
      c.updLedger r fun l => { l with dirty := false, run := some { x with step := 3, content := c.ledgerContent r (l.topSeq + 1) } }
    else if x.step = 3 then
      (c.ledgerProgram r x flaw).updLedger r fun l => { l with run := some { x with step := 4 } }
    else if x.step = 4 then
      if (if x.slot = 0 then l.a else l.b).clean then c.updLedger r fun l => { l with run := some { x with step := 5 } }
      else if x.again then c.commitFailed r
      else (c.updLedger r fun l =>
        { l.setSlot x.slot LedgerSlot.init with run := some { x with step := 2, again := true } }).slotsMoved r
    else
      let c1 := ((c.ledgerSeal r x flaw).updLedger r fun l => { l with run := none }).slotsMoved r
      let c2 : Core := if r = 2 then c1.withChainFails 0 else c1
      ((c2.inc Obj.Cal.COMMITS).put Obj.Cal.LAST_COMMIT c.hubTime).commitAgain r

/-- Power is lost: the step of a commit in progress completes on the hold-up, and no further step begins (R238).
DEDUCED, unsafe (log entry 20). -/
def Core.ledgerHoldup (c : Core) (r : Nat) : Core :=
  let c1 := match (c.ledgerOf r).run with
    | none => c
    | some x => if x.step = 3 then c.ledgerProgram r x [] else if x.step = 5 then c.ledgerSeal r x [] else c
  c1.updLedger r fun l => { l with run := none, dirty := false }

/-- Power is lost, and the LEDGER objects return to the stored record (R12, R238, R239). DEDUCED, unsafe (log entry 20). -/
def Core.ledgerReload (c : Core) : Core :=
  let c1 := ((c.ledgerHoldup 0).ledgerHoldup 1).ledgerHoldup 2
  match (c1.ledgerOf 2).governs with
  | some (_, s) => c1.withObjs s.objs
  | none => c1.withObjs []

end Sys2Proof.Machine
end

