-- ==== Sys2Proof/Machine/Fantail.lean ====
section
/-! DEFINITION. Fantail live tracking, calibration sets, capture and the monitor channels (09_fantail_calibration.md R219
to R246; 12_fault_collection.md R330). -/

namespace Sys2Proof.Machine

/-! ## Calibration sets (R232, R233, R241) -/

/-- An in-service field of a lane record of a set (R241), by field number. -/
def setField? (rec_ i : Nat) : Nat :=
  if i = 0 then field 127 116 rec_
  else if i = 1 then field 115 104 rec_
  else if i ≤ 5 then field (61 + 6 * (i - 2)) (56 + 6 * (i - 2)) rec_
  else if i = 6 then field 31 24 rec_
  else if i = 7 then field 103 92 rec_
  else if i = 8 then field 91 80 rec_
  else field (37 + 6 * (i - 9)) (32 + 6 * (i - 9)) rec_

/-- The lane record of a set from a lane's set values (R241). -/
def FtLane.record (l : FtLane) : Nat :=
  let v := fun i => l.setv.num i
  (l.eyeW % 256) <<< 152 + (l.wrEyeW % 256) <<< 144 + (v 0 % 4096) <<< 116 + (v 1 % 4096) <<< 104
  + (v 7 % 4096) <<< 92 + (v 8 % 4096) <<< 80
  + (v 5 % 64) <<< 74 + (v 4 % 64) <<< 68 + (v 3 % 64) <<< 62 + (v 2 % 64) <<< 56
  + (v 12 % 64) <<< 50 + (v 11 % 64) <<< 44 + (v 10 % 64) <<< 38 + (v 9 % 64) <<< 32
  + (v 6 % 256) <<< 24 + (l.wrVref % 256) <<< 16 + (l.tap1 % 256) <<< 8 + l.tap2 % 256

/-- The CA record of a subchannel's sets from its command-side results (R214, R241). -/
def Core.caRecord (c : Core) (n : Nat) : Nat :=
  (c.get (Obj.Ca.CA_COMMON n) % 4096) <<< 244 + (c.get (Obj.Ca.CA_BIT n) % 2 ^ 112) <<< 128
  + (field 27 16 (c.get (Obj.Ca.CS_DLY n))) <<< 116 + (field 11 0 (c.get (Obj.Ca.CS_DLY n))) <<< 104
  + (c.get (Obj.Ca.VREFCA n) % 65536) <<< 88 + (c.get (Obj.Ca.VREFCS n) % 65536) <<< 72

/-- The band of a temperature in m°C (R232). -/
def bandOf (t : Int) : Nat :=
  if t < 35000 then 0 else if t < 50000 then 1 else if t < 65000 then 2 else if t < 80000 then 3 else 4

/-- Is a set valid: present, and of the bin in force (R232, R218)? -/
def Core.setValid (c : Core) (s : CalSet) : Bool := s ≠ CalSet.none && s.speed = c.speedNow

/-- The set found last among valid ones: its eye widths are the lanes' (R220). -/
def latestSet : List CalSet → Option CalSet
  | [] => none
  | s :: rest =>
    match latestSet rest with
    | none => some s
    | some q => if s.timeNs < q.timeNs then some q else some s

/-- The valid sets of a subchannel, lowest temperature first: bands rise with temperature. -/
def Core.validSets (c : Core) (n : Nat) : List CalSet := ((c.ftOf n).sets.map (·.2)).filter c.setValid

/-- Interpolation of one field between two adjacent sets, division rounding toward minus infinity (R233). -/
def interpolate (va vb ta tb t : Int) : Int :=
  va + (2 * (vb - va) * (t - ta) + (tb - ta)) / (2 * (tb - ta))

/-- The pair of valid sets around T, the same set twice at the ends (R233). -/
def around (t : Int) : List CalSet → Option (CalSet × CalSet)
  | [] => none
  | [s] => some (s, s)
  | a :: b :: rest =>
    if t ≤ a.temp then some (a, a) else if t ≤ b.temp then some (a, b) else around t (b :: rest)

/-- A field at a temperature from the pair of sets: per-bit deskews are capped at 63, VREF codes at 255 (R233). -/
def fieldAt (p : CalSet × CalSet) (t : Int) (lane i : Nat) : Nat :=
  let va := setField? (nth p.1.lanes lane 0) i
  let vb := setField? (nth p.2.lanes lane 0) i
  let v : Int := if p.1 = p.2 then va else interpolate va vb p.1.temp p.2.temp t
  let u := v.toNat
  if i = 6 then min u 255 else if (2 ≤ i ∧ i ≤ 5) ∨ 9 ≤ i then min u 63 else u

/-- The target of a field: its set value, plus an offset for RD_DQS (R226). -/
def FtLane.targetOf (l : FtLane) (ofs : Int) (i : Nat) : Nat :=
  if i = 1 then ((l.setv.num 1 : Int) + ofs).toNat else l.setv.num i

/-- The offset in force: TRACK_OFS, or none while FT_ENABLE = 0 lets targets follow the sets only (R226, R244). -/
def Core.offsetOf (c : Core) (l : FtLane) : Int := if c.isSet Obj.Fantail.FT_ENABLE then l.ofs else 0

/-- Recompute every target of a lane from its set values. DEDUCED, unsafe (log entry 70). -/
def FtLane.retarget (l : FtLane) (ofs : Int) : FtLane :=
  { l with target := (List.range 13).foldl (fun t i => t.setNum i (l.targetOf ofs i)) l.target }

/-- Change a lane's set values or offset, and its targets with them (R226). -/
def Core.aimLane (c : Core) (n i : Nat) (f : FtLane → FtLane) : Core :=
  c.updLane n i fun l => let l1 := f l; l1.retarget (c.offsetOf l1)

/-- FT_ENABLE was written: every target follows (R244). -/
def Core.aimAll (c : Core) : Core :=
  (List.range 32).foldl (fun c n => (c.ftOf n).lanes.foldl (fun c e => c.aimLane n e.1 id) c) c

/-- The interpolated value of a field of a lane at a temperature; the present set value with no valid set (R233). -/
def Core.setValueAt (c : Core) (n i f : Nat) (t : Int) : Nat :=
  match around t (c.validSets n) with
  | none => (c.laneOf n i).setv.num f
  | some p => fieldAt p t i f

/-- Set every target of a subchannel from the interpolation at T; with no valid set they stay (R233, R234). -/
def Core.aim (c : Core) (n : Nat) (t : Int) : Core :=
  match around t (c.validSets n) with
  | none => c
  | some p =>
    (List.range 20).foldl (fun c i => c.aimLane n i fun l =>
      { l with setv := (List.range 13).foldl (fun v f => v.setNum f (fieldAt p t i f)) l.setv }) c

/-- The eye widths of a lane's latest set (R220, R241). -/
def FtLane.eyesOf (l : FtLane) (s : CalSet) (i : Nat) : FtLane :=
  { l with eyeW := field 159 152 (nth s.lanes i 0), wrEyeW := field 151 144 (nth s.lanes i 0) }

/-- The lanes take the eye widths of their latest set (R220). -/
def Core.takeEyes (c : Core) (n : Nat) : Core :=
  match latestSet (c.validSets n) with
  | none => c
  | some s => (List.range 20).foldl (fun c i => c.updLane n i fun l => l.eyesOf s i) c

/-- Applied values equal to targets (R413 step 5), and the DRAM-side settings of a set. -/
def Core.applyTargets (c : Core) (n : Nat) : Core :=
  (List.range 20).foldl (fun c i => c.updLane n i fun l => { l with applied := l.target }) c

/-- The valid set nearest to T, the lower temperature on a tie (R233). -/
def nearest (t : Int) : List CalSet → Option CalSet
  | [] => none
  | s :: rest =>
    match nearest t rest with
    | none => some s
    | some q => if (t - q.temp).natAbs < (t - s.temp).natAbs then some q else some s

/-- Store a set in its band, to be committed (R232, R237). DEDUCED, unsafe (log entry 70). -/
def Core.storeSet (c : Core) (n : Nat) (s : CalSet) : Core :=
  (c.updFt n fun f => { f with sets := Tbl.set (fun _ => CalSet.none) f.sets (bandOf s.temp) s }).updLedger (halfOf n)
    fun l => { l with dirty := true }

/-- T of a subchannel (R234, R245). -/
def Core.tempOf (c : Core) (n : Nat) : Int := c.getInt (Obj.FtSc.T_NOW n)

/-- A set of a subchannel with the values of given lanes, found at a temperature (R232, R235). -/
def Core.calSetOf (c : Core) (n source : Nat) (t : Int) (lane : Nat → FtLane) : CalSet :=
  { source := source, speed := c.speedNow, temp := t, timeNs := c.timeNs, ca := c.caRecord n,
    lanes := (List.range 20).map fun i => (lane i).record }

/-! ## Recalibration and capture (R234, R235) -/

/-- Ask for a capture's credit (R235 step 1, R424). On a subchannel that is not TRAINED the capture stays requested, and the
credit is asked for once it can run. DESIGN CHOICE, safe (log entry 88). -/
def Core.askCapture (c : Core) (n : Nat) : Core :=
  if (c.ftOf n).capture.isSome || c.holds Ck.capture n then c
  else if c.trainState n ≠ 2 then c.updFt n fun f => { f with wanted := true }
  else
    let (ok, c1) := c.askNow Ck.capture n 900
    c1.updFt n fun f => { f with wanted := !ok }

/-- Does a recalibration at T ask for a capture (R234)? -/
def Core.needsCapture (c : Core) (n : Nat) (t : Int) (written : Bool) : Bool :=
  let s := Tbl.get (fun _ => CalSet.none) (c.ftOf n).sets (bandOf t)
  written || !(c.setValid s)
  || (c.get Obj.Cal.SET_MAX_AGE_D * 86400 * 10 ^ 9 < c.timeNs - s.timeNs)
  || (List.range 20).any fun i => (c.laneOf n i).state == 4

/-- A recalibration (R234). -/
def Core.recalibrate (c : Core) (n : Nat) (written : Bool) : Core :=
  let t := c.tempOf n
  let c1 := (((c.put (Obj.FtSc.T_CAL n) (c.get (Obj.FtSc.T_NOW n))).put (Obj.FtSc.T_CAL_TIME n) c.hubTime).inc
    (Obj.FtSc.RECALS n)).aim n t
  if c1.needsCapture n t written then c1.askCapture n else c1

/-- The applied read-side values of a package rank's lanes, by 10·pr + k (R235 step 2). -/
def Core.readSide (c : Core) (n pr : Nat) : Tbl (Tbl Nat) :=
  (List.range 10).foldl (fun t k =>
    let l := c.laneOf n (10 * pr + k)
    Tbl.set (fun _ => []) t (10 * pr + k) ((List.range 7).foldl (fun v f => v.setNum f (l.applied.num f)) [])) []

/-- Step 2 of a capture for a package rank: applied read-side values become set values, TRACK_OFS becomes 0, and no step
is taken (R235). From here on later requests are held (R236 step 1). -/
def Core.takeRead (c : Core) (n pr : Nat) (k : CaptureRun) : Core :=
  let read := c.readSide n pr
  let c1 := (List.range 10).foldl (fun c i => c.aimLane n (10 * pr + i) fun l =>
    { l with ofs := 0, setv := (List.range 7).foldl (fun v f => v.setNum f (l.applied.num f)) l.setv }) c
  (c1.wakeRank n pr).updFt n fun f =>
    { f with wanted := false, capture := some { k with
        pr := pr, upto := (c.mcOf n).nextId,
        read := read.foldl (fun t e => Tbl.set (fun _ => []) t e.1 e.2) k.read,
        before := (List.range 10).foldl (fun t i =>
          t.setNum (10 * pr + i) ((c.laneOf n (10 * pr + i)).setv.num 8)) k.before } }

/-- CAPTURE: with its credit held, the capture begins with PR0 (R235). -/
def Core.captureBegin (c : Core) (n : Nat) : Core :=
  if c.holds Ck.capture n && (c.ftOf n).capture.isNone && c.trainState n = 2 && c.scState n ≤ 1 && (c.mcOf n).srAt = 0 then
    (c.stir n).takeRead n 0 { pr := 0, temp := c.tempOf n, upto := 0, found := [], read := [], before := [] }
  else c

/-- A capture is over: its credit returns (R235 step 5). -/
def Core.captureOver (c : Core) (n : Nat) : Core :=
  (c.updFt n fun f => { f with capture := none }).release Ck.capture n

/-- A capture ends without a set: write targets return to their interpolated values, and those with no valid set to what
they were (R235). DEDUCED, unsafe (log entry 70). -/
def Core.captureFail (c : Core) (n pr k : Nat) (run : CaptureRun) : Core :=
  let t := c.getInt (Obj.FtSc.T_CAL n)
  let old := fun i => if (c.validSets n).isEmpty then run.before.num i else c.setValueAt n i 8 t
  let c1 := run.found.foldl (fun c e => c.aimLane n e.1 fun l => { l with setv := l.setv.setNum 8 (old e.1) }) c
  (((c1.captureOver n).flag (Obj.FtSc.FLAGS n) 5).inc (Obj.FtSc.CAPTURE_FAILS n)).raise (Src.ftTrack n) (ctxLane 7 2 n pr k)

/-- One lane of a write sweep: its new WR_DQ set value and eye width, or failure (R236 step 4). -/
def Core.sweepLane (c : Core) (n i : Nat) (run : Option (Int × Int)) : Option (Nat × Nat) :=
  match run with
  | none => none
  | some (lo, ro) =>
    let span : Int := c.get Obj.Cal.WRECAL_SPAN
    if lo ≤ -span ∨ span ≤ ro ∨ ro - lo + 1 < (c.get Obj.Phy.MIN_EYE_TAPS : Int) then none
    else some ((((c.laneOf n i).applied.num 8 : Int) + (lo + ro) / 2).toNat, (ro - lo + 1).toNat)

/-- What a capture has found of a lane: the read side taken at step 2, and the write side of its sweep (R235, R236). -/
def CaptureRun.lane (k : CaptureRun) (i : Nat) (l : FtLane) : FtLane :=
  let read : Tbl Nat := Tbl.get (fun _ => []) k.read i
  let wr := Tbl.get (fun _ => (0, 0)) k.found i
  { l with setv := ((List.range 7).foldl (fun v f => v.setNum f (read.num f)) l.setv).setNum 8 wr.1, wrEyeW := wr.2 }

/-- Both package ranks have succeeded: the set is stored (R235 step 4). -/
def Core.captureDone (c : Core) (n : Nat) (k : CaptureRun) : Core :=
  let set := c.calSetOf n 1 k.temp fun i => k.lane i (c.laneOf n i)
  let c1 := (List.range 20).foldl (fun c i => c.updLane n i fun l =>
    { l with wrEyeW := (Tbl.get (fun _ => (0, 0)) k.found i).2, state := if l.state = 4 then 1 else l.state }) c
  (((c1.storeSet n set).put (Obj.FtSc.T_CAL n) (ofSigned 32 k.temp)).inc (Obj.FtSc.CAPTURES n)).captureOver n

/-- The hub writes a saved burst that read as uncorrectable back with the poison mark; the spec does not state its data
(R216, R236, R260). DESIGN CHOICE, unsafe (log entry 7). -/
def Core.writeSaved (c : Core) (mem : Memory) (pa : Nat) : Core × Memory :=
  let (d, c1) := c.draw (2 ^ 512)
  (c1, mem.setBurst pa d true)

/-- The row of a write sweep, as it stands after the save area is written back (R236 steps 2 and 5). -/
def Core.sweepMemory (c : Core) (mem : Memory) (n pr : Nat) (bad : List Nat) : Core × Memory :=
  bad.foldl (fun x col =>
    x.1.writeSaved x.2 { sc := n, lr := 4 * pr, bg := 0, ba := 0, row := 0, col := col : DramAddr }.pa) (c, mem)

/-- May the sweep of a package rank have run: the write-queue entries of its bank that it does not hold have issued (R236
step 1)? -/
def Core.sweepClear (c : Core) (n : Nat) (k : CaptureRun) : Bool :=
  !((c.mcOf n).writes.any fun r =>
    let d := c.dramOf r.ha
    r.id < k.upto && d.lr == 4 * k.pr && d.bg == 0 && d.ba == 0)

/-- The sweep of a package rank has found its values (R235 steps 3 and 4, R236 steps 4 and 5). -/
def Core.sweepFound (c : Core) (n : Nat) (s : WriteSweep) (k : CaptureRun) : Core :=
  let res := (List.range 10).map fun i => c.sweepLane n (10 * k.pr + i) (nth s.runs i none)
  match (List.range 10).find? fun i => s.repeated || (nth res i none).isNone with
  | some bad => c.captureFail n k.pr bad k
  | none =>
    let k1 := { k with found := (List.range 10).foldl (fun t i =>
      Tbl.set (fun _ => (0, 0)) t (10 * k.pr + i) ((nth res i none).getD (0, 0))) k.found }
    let c1 := (List.range 10).foldl (fun c i => c.aimLane n (10 * k.pr + i) fun l =>
      { l with setv := l.setv.setNum 8 ((nth res i none).getD (0, 0)).1 }) c
    if k.pr = 0 then c1.takeRead n 1 k1 else c1.captureDone n k1

/-- WRITE_SWEEP_DONE (R235, R236). DEDUCED, unsafe (log entry 70). -/
def Core.writeSweep (c : Core) (mem : Memory) (n pr : Nat) (s : WriteSweep) : Core × Memory :=
  match (c.ftOf n).capture with
  | none => (c, mem)
  | some k =>
    if k.pr ≠ pr || !(c.sweepClear n k) || (c.mcOf n).stopped then (c, mem)
    else
      let x := c.sweepMemory mem n pr s.saveBad
      (x.1.sweepFound n s k, x.2)

/-! ## Windows (R220 to R228) -/

/-- The lane's 64 bits of a word, as four DQ sequences of 16 beats: symbol s drives beats 2s and 2s + 1 (R248). -/
def laneBits (w : List Nat) (k j : Nat) : List Bool :=
  ((List.range 8).map fun s => let c := nth w (8 * k + s) 0; [c.testBit (4 + j), c.testBit j]).flatten

/-- Transitions between successive bits. -/
def transitions : List Bool → Nat
  | a :: b :: t => (if a = b then 0 else 1) + transitions (b :: t)
  | _ => 0

/-- Is a lane starved (R224, R246)? -/
def Core.starved (c : Core) (n i : Nat) : Bool := (c.laneOf n i).state == 2 || (c.laneOf n i).state == 3

/-- STARVED_LANES (R245). -/
def Core.starvedMask (c : Core) (n : Nat) : Nat := maskOf 20 (c.starved n)

/-- Insertion on a package rank ends, and its credit returns, when none of its lanes is starved (R225). -/
def Core.checkInsertion (c : Core) (n pr : Nat) : Core :=
  if !(c.inserting n pr) || (List.range 10).any fun k => c.starved n (10 * pr + k) then c
  else
    (c.updMc n fun m =>
      { m with reads := m.reads.filter (fun r => r.owner != .fantail pr),
               shadow := if pr = 0 then field 7 4 m.shadow <<< 4 else field 3 0 m.shadow }).release Ck.insert (2 * n + pr)

/-- A lane leaves TRACK_STARVED (R224). -/
def Core.unstarve (c : Core) (n i : Nat) : Core :=
  if c.starved n i then (c.updLane n i fun l => { l with state := 1 }).checkInsertion n (i / 10) else c

/-- A qualified window is decided (R223, R228). -/
def Core.decideWindow (c : Core) (n i : Nat) (l : FtLane) : Core :=
  let mm := c.get Obj.Fantail.MOVE_MIN
  let shrink := l.n < 64 * l.e && l.n < 64 * l.l
  let d : Int :=
    if shrink then 0
    else if l.e + mm ≤ l.l && l.l + l.e ≤ 4 * (l.l - l.e) then -1
    else if l.l + mm ≤ l.e && l.l + l.e ≤ 4 * (l.e - l.l) then 1
    else 0
  let c1 := c.updLane n i fun x => { x with lastE := sat 16 l.e, lastL := sat 16 l.l, windows := sat 32 (x.windows + 1) }
  let c2 := if shrink then c1.flag (Obj.FtSc.FLAGS n) 3 else c1
  if d ≠ 0 && c.get Obj.Fantail.TRACK_LIMIT < (l.ofs + d).natAbs then
    let c3 := (((c2.updLane n i fun x => { x with state := 4 }).flag (Obj.FtSc.FLAGS n) 1).flag Obj.Fantail.FLAGS 1).raise
      (Src.ftTrack n) (ctxLane 7 1 n (i / 10) (i % 10))
    c3.recalibrate n false
  else c2.aimLane n i fun x => { x with ofs := l.ofs + d }

/-- A window closes (R222, R224, R227). One of pattern bursts qualifies (R225). -/
def Core.closeFtWindow (c : Core) (n i : Nat) : Core :=
  let l := c.laneOf n i
  let c1 := c.updLane n i fun x => { x with n := 0, e := 0, l := 0, tr := 0, ones := 0, bursts := 0, moved := false, live := false }
  let qualified := !l.live || (l.n ≤ 16 * l.tr && l.n ≤ 4 * l.ones && 4 * l.ones ≤ 3 * l.n)
  if !qualified then c1.updLane n i fun x => { x with unqual := sat 16 (x.unqual + 1) }
  else
    let c2 := c1.unstarve n i
    let barred := c.trainState n ≠ 2 || l.state = 5 || l.state = 4 || l.applied.num 1 ≠ l.target.num 1 || l.moved
      || (match (c.ftOf n).capture with | some k => k.pr == i / 10 | none => false)
    if barred || !(c.isSet Obj.Fantail.FT_ENABLE) then c2 else c2.decideWindow n i l

/-- A burst counts toward a lane's window: the main sampler's bits of its four DQ, and the bits in which the shadow
samplers differ from them (R221). -/
def Core.countBurst (c : Core) (n i : Nat) (seqs : List (List Bool)) (shadow : Nat × Nat) (live : Bool) : Core :=
  let c1 := c.updLane n i fun l =>
    { l with n := l.n + 64, e := l.e + popcount 64 shadow.1, l := l.l + popcount 64 shadow.2,
             tr := l.tr + (seqs.map transitions).sum, ones := l.ones + (seqs.map fun b => b.count true).sum,
             bursts := l.bursts + 1, live := l.live || live }
  if c.get Obj.Fantail.WINDOW_BURSTS ≤ (c1.laneOf n i).bursts then c1.closeFtWindow n i else c1

/-- A live read burst is offered to the ten lanes of its package rank: those with no corrected symbol and no mark count it.
`w` is the received word (R221, R225). DEDUCED, unsafe (log entry 31). -/
def Core.liveBurst (c : Core) (n pr : Nat) (w syms : List Nat) (shadow : List (Nat × Nat)) : Core :=
  if c.inserting n pr then c
  else (List.range 10).foldl (fun c k =>
    if syms.any (fun j => j / 8 == k) || c.markedLane n pr = some k then c
    else c.countBurst n (10 * pr + k) ((List.range 4).map (laneBits w k)) (nth shadow k (0, 0)) true) c

/-- The pattern of a lane in a training-pattern burst, DQ by DQ: bit 16j + t is beat t of DQj (R225). -/
def Core.patternSeqs (c : Core) (pr k burst : Nat) : List (List Bool) :=
  let v := (Config.trainPattern (c.get Obj.Phy.TRAIN_SEED ^^^ (16 * pr + k)) burst).toNat
  (List.range 4).map fun j => (List.range 16).map fun t => v.testBit (16 * j + t)

/-- A pattern burst counts on the lanes whose main sampler matches the pattern: no bit of theirs came wrong (R225). The
lane's burst number is its place among the bursts inserted. DEDUCED, unsafe (log entry 31). -/
def Core.patternBurst (c : Core) (n pr : Nat) (err : List Byte) (shadow : List (Nat × Nat)) : Core :=
  let left := ((c.mcOf n).flight.filter fun r => !r.needsRow).length
  let burst := c.get (Obj.FtSc.INSERTED_BURSTS n) - left - 1
  if !(c.inserting n pr) then c
  else (List.range 10).foldl (fun c k =>
    if (laneSymbols k).any (fun j => nth err j 0 ≠ 0) || c.markedLane n pr = some k then c
    else c.countBurst n (10 * pr + k) (c.patternSeqs pr k burst) (nth shadow k (0, 0)) false) c

/-- Ask for the insertion credit of a package rank: granted, its starved lanes are INSERTING; a refusal is recorded (R225). -/
def Core.askInsert (c : Core) (n pr : Nat) : Core :=
  let (ok, c1) := c.askNow Ck.insert (2 * n + pr) 150
  if ok then (List.range 10).foldl (fun c j => c.updLane n (10 * pr + j) fun l =>
    { l with state := if l.state = 2 then 3 else l.state }) c1
  else ((c1.inc (Obj.FtSc.INSERT_REFUSALS n)).flag (Obj.FtSc.FLAGS n) 2).flag Obj.Fantail.FLAGS 2

/-- TRACK_STARVED of a lane, and the insertion credit it asks for (R224, R225). -/
def Core.starve (c : Core) (n pr k : Nat) : Core :=
  let i := 10 * pr + k
  if (c.laneOf n i).state ≠ 1 || c.scState n ≠ 0 || c.bitOf (Obj.Sc.PD_MASK n) pr then c
  else
    let c1 := ((c.updLane n i fun l => { l with state := 2 }).flag (Obj.FtSc.FLAGS n) 0).flag Obj.Fantail.FLAGS 0
    if c1.inserting n pr then c1.updLane n i fun l => { l with state := 3 } else c1.askInsert n pr

/-- Ask again for an insertion credit (R225, R424). -/
def Core.reaskInsert (c : Core) (n pr : Nat) : Core :=
  if c.inserting n pr || !((List.range 10).any fun k => c.starved n (10 * pr + k)) then c else c.askInsert n pr

/-- Number of an in-service field. -/
def tapNum : TapField → Nat
  | .recen => 0 | .rdDqs => 1 | .rdBit b => 2 + b.val | .rdVref => 6 | .wrDqs => 7 | .wrDq => 8 | .wrBit b => 9 + b.val

/-- May a field step now: at most one step in 1 µs and four in 1 ms (R226; 500 ticks are 1 µs)? -/
def Core.mayStep (c : Core) (l : FtLane) (f : Nat) : Bool :=
  let s := Tbl.get (fun _ => []) l.steps f
  (s.filter fun t => c.tick < t + 500000).length < 4 && s.all fun t => t + 500 ≤ c.tick

/-- TAP_STEP: it takes effect at the next load of the delay set (R203, R217, R226). DEDUCED, unsafe (log entry 31). -/
def Core.tapStep (c : Core) (n pr k f : Nat) : Core :=
  let i := 10 * pr + k
  let l := c.laneOf n i
  let a := l.applied.num f
  let t := l.target.num f
  if a = t || !(c.isSet (Obj.Train.READY n)) || !(c.mayStep l f) then c
  else
    (c.updLane n i fun l =>
      { l with applied := l.applied.setNum f (if a < t then a + 1 else a - 1),
               steps := Tbl.upd (fun _ => []) l.steps f fun s =>
                 (s.filter fun x => c.tick < x + 500000) ++ [c.tick] }).inc64 (Obj.FtSc.TAP_MOVES n)

/-! ## Monitors (R229 to R231, R330) -/

/-- The object that holds a channel's reading (R231, R244, R300). -/
def monKey (ch : Nat) : Nat := if ch ≤ 8 then Obj.Mon.TS ch else Obj.Rail.READING (ch - 9)

/-- VALUE of a reading. -/
def Core.monValue (c : Core) (ch : Nat) : Int := toSigned 32 (field 127 96 (c.get (monKey ch)))

/-- GEN of a reading. -/
def Core.monGen (c : Core) (ch : Nat) : Nat := field 31 16 (c.get (monKey ch))

/-- STALE of a reading. -/
def Core.monStale (c : Core) (ch : Nat) : Bool := bit 0 (c.get (monKey ch))

/-- Is a channel CAL_REFUSED (R230)? -/
def Core.monRefused (c : Core) (ch : Nat) : Bool := c.bitOf Obj.Mon.REFUSED_MASK ch

/-- Two of a group of sensors differ by more than 20,000 m°C (R330). -/
def Core.spread (c : Core) (lo : Nat) : Bool :=
  (List.range 4).any fun i => (List.range 4).any fun j =>
    c.monGen (lo + i) ≠ 0 && c.monGen (lo + j) ≠ 0 && 20000 < (c.monValue (lo + i) - c.monValue (lo + j)).natAbs

/-- The condition of MON_CHECK (R330). -/
def Core.monBad (c : Core) : Bool :=
  ((List.range 25).any c.monStale) || c.spread 0 || c.spread 4
  || ((List.range 9).all (fun i => c.monGen i ≠ 0)
      && 160000 < (8 * c.monValue 8 - ((List.range 8).map c.monValue).sum).natAbs)

/-- MON_CHECK follows its condition (R330). -/
def Core.monCheck (c : Core) (ch : Nat) : Core :=
  if c.monBad then c.raiseStanding Src.monCheck (ctxSensor ch) else c.endStanding Src.monCheck

/-- TEMP_WARN and TEMP_CRIT of a sensor after a reading that is not STALE (R330). -/
def Core.tempCheck (c : Core) (ch : Nat) (v : Int) : Core :=
  let one := fun (c : Core) (s : Nat) (t : Int) =>
    if t ≤ v then c.raiseStanding s (ctxSensor ch) else if v ≤ t - 2000 then c.endStanding s else c
  one (one c (Src.tempWarn ch) (c.getInt Obj.Fc.TEMP_WARN_MC)) (Src.tempCrit ch) (c.getInt Obj.Fc.TEMP_CRIT_MC)

/-- T of the four subchannels of a shoreline sensor, and the recalibration it starts (R234). -/
def Core.newTemp (c : Core) (ch : Nat) (v : Int) : Core :=
  (List.range 4).foldl (fun c i =>
    let n := 4 * ch + i
    let c1 := c.put (Obj.FtSc.T_NOW n) (ofSigned 32 v)
    if (c1.get Obj.Cal.RECAL_DT_MC : Int) < (v - c1.getInt (Obj.FtSc.T_CAL n)).natAbs then c1.recalibrate n false else c1) c

/-- TEMP_STALE on the subchannels of a sensor (R234). -/
def Core.staleTemp (c : Core) (ch : Nat) : Core :=
  if ch ≤ 7 then (List.range 4).foldl (fun c i => c.flag (Obj.FtSc.FLAGS (4 * ch + i)) 4) c else c

/-- MON_READING: a new record, unless a calibration window runs (R230, R231). DEDUCED, unsafe (log entry 32). -/
def Core.monReading (c : Core) (ch : Nat) (v : Int) : Core :=
  let m := c.monOf ch
  if m.window then c
  else
    let refused := c.monRefused ch
    let stale := refused && c.get Obj.Mon.MON_TRIM_MAX_AGE_S * 500000000 < c.tick - m.trimAt
    let g := c.monGen ch
    let gen := if g = 65535 then 1 else g + 1
    let r := (satSigned 32 v) <<< 96 + (c.timeNs % 2 ^ 64) <<< 32 + gen <<< 16 + 4 * ofBool c.timeValid
      + 2 * ofBool refused + ofBool stale
    let c1 := (c.put (monKey ch) r).updMon ch fun m => { m with readAt := c.tick }
    let c2 := if stale then c1.staleTemp ch
      else if ch ≤ 8 then
        let k := c1.tempCheck ch v
        if ch ≤ 7 then k.newTemp ch v else k
      else c1
    c2.monCheck ch

/-- MONITOR_READING_STALE: the reading has aged (R231, R234, R330). DEDUCED, unsafe (log entry 32). -/
def Core.monAged (c : Core) (ch : Nat) : Core :=
  if c.monGen ch = 0 then c
  else ((c.put (monKey ch) (setBitTo 0 true (c.get (monKey ch)))).staleTemp ch).monCheck ch

/-- MON_CAL: a calibration window begins, one channel at a time (R230). -/
def Core.monCal (c : Core) (ch : Nat) : Core :=
  if (List.range 25).any fun i => (c.monOf i).window then c else c.updMon ch fun m => { m with window := true }

/-- A calibration refused for the third time (R230 step 3). -/
def Core.monRefuse (c : Core) (ch : Nat) : Core :=
  ((c.putBit Obj.Mon.REFUSED_MASK ch true).inc Obj.Mon.CAL_REFUSALS).flag Obj.Mon.FLAGS 0

/-- A calibration is kept: its trims take effect at once, and CAL_REFUSED ends (R230 step 4). -/
def Core.monKeep (c : Core) (ch : Nat) (off gain : Int) : Core :=
  (c.updMon ch fun m => { m with window := false, attempts := 0, offset := off, gain := gain, trimAt := c.tick }).putBit
    Obj.Mon.REFUSED_MASK ch false

/-- MON_CAL_DONE (R230 steps 2 to 4). DEDUCED, unsafe (log entry 32). -/
def Core.monCalDone (c : Core) (ch rippleMv : Nat) (off gain : Int) : Core :=
  let m := c.monOf ch
  if !m.window then c
  else if c.get Obj.Mon.RIPPLE_LIMIT_MV < rippleMv then
    if m.attempts = 2 then (c.updMon ch fun m => { m with window := false, attempts := 0 }).monRefuse ch
    else c.updMon ch fun m => { m with window := false, attempts := m.attempts + 1 }
  else c.monKeep ch off gain

end Sys2Proof.Machine
end

