-- ==== Sys2Proof/Machine/Ddr.lean ====
section
/-! DEFINITION. The register and data buffer: ALERT_n and replay, cold training and its results
(08_ddr5_redrive_training.md R196 to R218), and the repairs applied after a reset (10_ecc_repair.md R262). -/

namespace Sys2Proof.Machine

/-! ## The error log (10_ecc_repair.md R264) -/

/-- REQUESTER of an owner (R193, R264): 0 Headrace, 1 Tailrace, 2 Millstone, 3 scrub, 4 others, 5 CONFIRM, 6 REPAIR. -/
def Owner.requester : Owner → Nat
  | .hrRead _ _ _ _ | .hrWrite _ _ _ => 0
  | .drain _ | .drainRead _ _ _ => 1
  | .millstone _ _ | .refill _ _ _ => 2
  | .scrub | .scrubWrite => 3
  | .confirm _ => 5
  | .repair _ => 6
  | _ => 4

/-- A log record (R264). -/
def logRecord (seq event sc lane requester syms : Nat) (d : DramAddr) (mask duration : Nat) (valid : Bool) (ns : Nat) : Nat :=
  (seq % 2 ^ 32) <<< 224 + event <<< 216 + sc <<< 211 + d.lr <<< 208 + lane <<< 204 + requester <<< 201 + syms <<< 196
  + d.bg <<< 193 + d.ba <<< 191 + d.row <<< 174 + d.col <<< 167 + mask <<< 80 + sat 15 duration <<< 65
  + ofBool valid <<< 64 + ns % 2 ^ 64

/-- SYMMASK: bit 79 − j stands for symbol c_j (R264). -/
def symMask (syms : List Nat) : Nat := syms.foldl (fun a j => a + 2 ^ (79 - j)) 0

/-- Write a log record (R264). -/
def Core.eccLog (c : Core) (event sc lane requester : Nat) (syms : List Nat) (d : DramAddr) (duration : Nat) : Core :=
  let k := c.eccSeq + 1
  let r := logRecord k event sc lane requester syms.length d (symMask syms) duration c.timeValid c.timeNs
  ((c.withEccSeq k).put (Obj.EccLog.RECORD (k % 1024 / 128) (k % 128)) r).inc64 Obj.Ecc.LOG_COUNT

/-! ## ALERT_n (R199 to R201, R217) -/

/-- The replay procedure ends and the subchannel goes OFFLINE (R200). -/
def Core.alertOffline (c : Core) (n : Nat) : Core :=
  ((if (c.ddrOf n).alertLow then c.inc (Obj.Train.ALERT_EVENTS n) else c).goOffline n false true).endStanding (Src.ddrAlert n)

/-- Is ALERT_n heard: parity enabled, and in a training that runs only from its step 5 on (R198, R217)? -/
def Core.alertHeard (c : Core) (n : Nat) : Bool :=
  c.isSet Obj.Phy.CA_PARITY_EN && !(c.mcOf n).inReset
    && (match (c.ddrOf n).train with | none => true | some t => t.waiting || 5 ≤ t.step)

/-- ALERT_EVENT: the event is raised and commands stop; the third event of a chain is not replayed. One that comes after CK
has stopped for self-refresh is answered at the exit (R199 to R201). DEDUCED, unsafe (log entry 28). -/
def Core.alertEvent (c : Core) (n : Nat) : Core :=
  let d := c.ddrOf n
  if d.alertLow || !(c.alertHeard n) then c
  else
    let chain := if d.chain ≠ 0 && c.tick ≤ d.replayEnd + 500 then d.chain + 1 else 1
    let before := c.fc.seq
    let c1 := (c.raiseStanding (Src.ddrAlert n) (ctxNone 11 3))
    let c2 := c1.openWindow 1 n (if before < c1.fc.seq then c1.fc.seq else 0)
    let c3 := ((c2.updDdr n fun d =>
      { d with alertLow := true, alertOwed := c.scState n = 2, chain := chain, alertAt := c.tick }).updMc n fun m =>
        { m with stopped := c.scState n ≠ 2 }).updEcc n fun e =>
          { e with repair := e.repair.map fun x => { x with alerted := x.alerted || x.phase = 3 } }
    if chain = 3 then
      ((c3.flag (Obj.Train.FLAGS n) 1).inc (Obj.Train.PARITY_UNRECOVERED n)).alertOffline n
    else c3

/-- Before a replayed column command, an activate where its row is not open (R199 step 4). Pattern reads open no row. -/
def Core.replayOpen (c : Core) (n bank row : Nat) : Core :=
  let m := c.mcOf n
  if m.rows.num bank = row + 1 || m.pattern.testBit (bank / 32) then c
  else (c.setMc n { m with rows := m.rows.setNum bank (row + 1) }).order n (.act bank row)

/-- What a command that is issued again does to the controller's rows and ranks: a refresh counts once in the debt (R199). -/
def Core.replayState (c : Core) (n : Nat) : DramCmd → Core
  | .act b row => c.updMc n fun m => { m with rows := m.rows.setNum b (row + 1) }
  | .pre b => c.updMc n fun m => m.close b
  | .preAll lr => c.updMc n fun m => (m.openBanks lr).foldl (fun m b => m.close b) m
  | .rd b row _ | .wr b row _ => c.replayOpen n b row
  | .pdEnter pr =>
    let c1 := c.putBit (Obj.Sc.PD_MASK n) pr true
    if c1.get (Obj.Sc.PD_MASK n) = 3 && c1.scState n = 0 then c1.put (Obj.Sc.STATE n) 1 else c1
  | .pdExit pr =>
    let c1 := c.putBit (Obj.Sc.PD_MASK n) pr false
    if c1.scState n = 1 then c1.put (Obj.Sc.STATE n) 0 else c1
  | .ref _ | .srEnter _ | .srExit _ | .mrr _ | .reset _ | .zq _ | .parity _ _ | .timing _ _ _ | .dramSide _ _ _ _ _
  | .pattern _ _ | .repairMode _ _ _ | .repairRow _ _ _ _ _ => c

/-- One command of the window, issued again and recorded again: write data from the replay store, read data anew (R199
step 4). DEDUCED, unsafe (log entry 28). -/
def Core.replayOne (c : Core) (mem : Memory) (n : Nat) (h : HistCmd) : Core × Memory :=
  let again := fun (r : Req64) =>
    if h.read == some r.id && (r.at_ == .out || r.at_ == .stale) then
      { r with data := mem.burst (c.paOf r.ha), poison := mem.poisoned (c.paOf r.ha), replayed := true }
    else r
  (((c.replayState n h.cmd).updMc n fun m => { m with flight := m.flight.map again }).command n h.cmd h.read h.wrote,
    match h.wrote with | some (pa, data, poison) => mem.setBurst pa data poison | none => mem)

/-- Is a command left out of a replay: a self-refresh entry that is over, and what a repair does to its die (R201, R261)? -/
def Core.notReplayed (c : Core) (n : Nat) : DramCmd → Bool
  | .srEnter _ => (c.mcOf n).srAt ≠ 0 || c.scState n = 2
  | .repairMode _ _ _ | .repairRow _ _ _ _ _ => (match (c.eccOf n).repair with | some x => x.alerted | none => false)
  | .reset _ => true
  | _ => false

/-- The commands that left the pins in ALERT_WINDOW_NS before the event, or after it (R199 step 4).
DEDUCED, unsafe (log entry 28). -/
def Core.alertWindow (c : Core) (n : Nat) : List HistCmd :=
  let d := c.ddrOf n
  d.history.filter fun h => 2 * d.alertAt ≤ 2 * h.t + c.get Obj.Phy.ALERT_WINDOW_NS && !(c.notReplayed n h.cmd)

/-- The dies take commands again: a self-refresh entry that the event abandons is left, a die under repair leaves repair mode,
and package ranks wake (R201, R261). DEDUCED, unsafe (log entry 28). -/
def Core.replayReady (c : Core) (n : Nat) : Core :=
  let c1 := if (c.mcOf n).srAt ≠ 0 then ((c.order n (.srExit 0)).order n (.srExit 1)).abandonEntry n else c
  let c2 := match (c.eccOf n).repair with
    | some x => if x.alerted && x.phase = 3 then c1.order n (.repairMode x.k.lr x.k.lane false) else c1
    | none => c1
  (List.range 2).foldl (fun c pr => if c.bitOf (Obj.Sc.PD_MASK n) pr then
    let due := (c.mcOf n).wakeDue
    (c.pdExit n pr).updMc n fun m => { m with wakeDue := due } else c) c2

/-- Package ranks that have been woken while commands were stopped (R183, R199). -/
def Core.wakeOwed (c : Core) (n : Nat) : Core :=
  (List.range 2).foldl (fun c pr =>
    if (c.mcOf n).wakeDue.testBit pr then
      (if c.bitOf (Obj.Sc.PD_MASK n) pr then c.pdExit n pr
       else c.updMc n fun m => { m with wakeDue := setBitTo pr false m.wakeDue })
    else c) c

/-- Steps 3 to 5 of the replay: precharge-all to each logical rank, the window again in order, and the pick resumes (R199).
An event in a training step repeats the step (R217). -/
def Core.replay (c : Core) (mem : Memory) (n : Nat) : Core × Memory :=
  let win := c.alertWindow n
  let c1 := (List.range 8).foldl (fun c lr => c.issuePreAll n lr) (c.replayReady n)
  let (c2, mem2) := win.foldl (fun x h => x.1.replayOne x.2 n h) (c1, mem)
  let c3 := ((c2.updDdr n fun d =>
    { d with alertLow := false, alertOwed := false, replayEnd := c.tick,
             train := d.train.map fun t => if t.waiting then t else { t with repeats := t.repeats + 1 } }).updMc n fun m =>
      { m with stopped := false }).wakeOwed n
  let c4 := (((c3.inc (Obj.Train.ALERT_EVENTS n)).inc (Obj.Train.CA_REPLAYS n)).flag (Obj.Train.FLAGS n) 0).flag
    Obj.Phy.FLAGS 0
  (c4.endStanding (Src.ddrAlert n), mem2)

/-- ALERT_DEASSERT: ALERT_n is high again, and the replay runs; in self-refresh it waits for the exit (R199, R201). -/
def Core.alertDeassert (c : Core) (mem : Memory) (n : Nat) : Core × Memory :=
  let d := c.ddrOf n
  if !d.alertLow then (c, mem)
  else if d.alertOwed then (c.updDdr n fun d => { d with alertLow := false }, mem)
  else c.replay mem n

/-- ALERT_STUCK, whether or not parity is enabled (R200). -/
def Core.alertStuck (c : Core) (n : Nat) : Core :=
  if (c.mcOf n).inReset then c
  else ((c.raise (Src.ddrAlert n) (ctxNone 11 3)).flag (Obj.Train.FLAGS n) 2).alertOffline n

/-! ## The eye-centre rule (R207, R208) -/

/-- W of a swept code (R207). -/
def pointWidth (p : SweepPoint) : Nat := match p.run with | none => 0 | some (l, r) => r + 1 - l

/-- The width at a code; codes outside the sweep count 0. -/
def widthAt (ps : List SweepPoint) (v : Int) : Nat :=
  match ps.find? fun p => (p.code : Int) == v with | some p => (pointWidth p) | none => 0

/-- S of a code (R207). -/
def sharpness (ps : List SweepPoint) (v : Int) : Nat :=
  min (widthAt ps (v - 2)) (min (widthAt ps (v - 1)) (min (widthAt ps v) (min (widthAt ps (v + 1)) (widthAt ps (v + 2)))))

/-- What the rule finds: v*, t*, EYE_W, EYE_H. -/
structure Eye where
  v : Nat
  t : Nat
  w : Nat
  h : Nat
  deriving DecidableEq, Repr

/-- vc: the coarse code with the largest W, the lowest on a tie (R207). -/
def coarseCode (coarse : List SweepPoint) : Nat :=
  let best := coarse.foldl (fun m p => max m (pointWidth p)) 0
  let tied := (coarse.filter fun p => pointWidth p == best).map (·.code)
  tied.foldl min (tied.foldl max 0)

/-- The eye-centre rule on the coarse codes and the fine sweep over vc − 8 to vc + 8 (R207).
DEDUCED, unsafe (log entry 29). -/
def eyeCentre (step : Nat) (coarse sweep : List SweepPoint) : Option Eye :=
  let vc := coarseCode coarse
  let fine := sweep.filter fun p => p.code ≤ vc + 8 && vc ≤ p.code + 8
  let best := fine.foldl (fun m p => max m (sharpness fine p.code)) 0
  let tied := (fine.filter fun p => sharpness fine p.code == best).map (·.code)
  let v := (tied.foldl min (tied.foldl max 0) + tied.foldl max 0) / 2
  match fine.find? fun p => p.code == v with
  | none => none
  | some p =>
    match p.run with
    | none => none
    | some (l, r) =>
      let w := (pointWidth p)
      let wide := (coarse.filter fun q => w ≤ 2 * (pointWidth q) && q.run.isSome).map (·.code)
      let hi := wide.foldl max 0
      let lo := wide.foldl min hi
      some { v := v, t := (l + r) / 2, w := w, h := if wide.isEmpty then step else hi - lo + step }

/-- A v* within 8 codes of either end of its VREF range (R207): 0 to 255 for the hub's receivers (R202), 0 to 125 for the
DRAM's VREFDQ, a range of JESD79-5. PRESUMED, unsafe (log entry 86). -/
def vrefEdge (top v : Nat) : Bool := v ≤ 8 || top - 8 ≤ v

/-- Per-bit deskews from the bits' own windows: C_max − C_b, capped at 63 with DESKEW_LIMIT (R208); 6 bits each, DQ3
highest. -/
def deskews (bits : List (Nat × Nat)) : Nat × Bool :=
  let cs := bits.map fun b => (b.1 + b.2) / 2
  let top := cs.foldl max 0
  let ds := cs.map (top - ·)
  ((List.range 4).foldl (fun a i => a + (min 63 (nth ds i 0)) <<< (6 * i)) 0, ds.any (63 < ·))

/-- The tap setting with the largest eye, nearest 0 on a tie (R208 step 9). -/
def bestTap (l : List (Int × Nat)) : Int :=
  match l.foldl (fun (a : Option (Int × Nat)) x =>
    match a with
    | none => some x
    | some y => if y.2 < x.2 ∨ (y.2 = x.2 ∧ x.1.natAbs < y.1.natAbs) then some x else some y) none with
  | none => 0
  | some x => x.1

/-- Taps the DFE mode trains: 0, 1 or 2 (R215). DEDUCED, unsafe (log entry 29). -/
def Core.dfeTaps (c : Core) : Nat :=
  match c.get Obj.Phy.DFE_MODE with
  | 0 => 0 | 1 => 1 | 2 => 2
  | _ => let b := c.speedNow; if b = 4800 then 0 else if b ≤ 6400 then 1 else 2

/-! ## Training a lane -/

/-- One lane's part of a step (R206 to R208); `none` means the step found no passing point. -/
def Core.laneStep (c : Core) (step : Nat) (t : LaneTrain) (s : LaneSweep) : LaneTrain :=
  let vstep := c.get Obj.Phy.VREF_COARSE_STEP
  match step with
  | 5 =>
    match s.recen with
    | none => { t with failed := true }
    | some (e, f) => { t with recen := (e + f) / 2, gateAmbig := f < e + 16 }
  | 6 =>
    match eyeCentre vstep s.coarse s.fine with
    | none => { t with failed := true }
    | some y =>
      let d := deskews s.bits
      { t with rdBit := d.1, deskewLimit := t.deskewLimit || d.2, rdVref := y.v, rdDqs := y.t, rdEyeW := y.w,
               rdEyeH := y.h, vrefEdge := t.vrefEdge || vrefEdge 255 y.v }
  | 7 =>
    match s.level with
    | none => { t with failed := true }
    | some (w, second) => { t with wrDqs := w, wlAmbig := second }
  | 8 =>
    match eyeCentre vstep s.coarse s.fine with
    | none => { t with failed := true }
    | some y =>
      let d := deskews s.bits
      { t with wrBit := d.1, deskewLimit := t.deskewLimit || d.2, wrVref := y.v, wrDq := y.t, wrEyeW := y.w,
               wrEyeH := y.h, vrefEdge := t.vrefEdge || vrefEdge 125 y.v }
  | 9 =>
    let n := c.dfeTaps
    match s.again with
    | none => { t with failed := true }
    | some (l, r) => { t with tap1 := if 1 ≤ n then bestTap s.taps1 else 0, tap2 := if 2 ≤ n then bestTap s.taps2 else 0,
                              wrDq := (l + r) / 2, wrEyeW := r + 1 - l }
  | 10 => { t with corrected := s.corrected, badBlock := s.inBadBlock, done := true }
  | _ => t

/-- RESULT of a lane (R209): 4 SKIPPED, 3 FAIL, 2 MARGINAL, 1 PASS, 0 NONE where training never reached it. -/
def Core.laneResult (c : Core) (t : LaneTrain) (skipped : Bool) : Nat :=
  let minW := c.get Obj.Phy.MIN_EYE_TAPS
  let minH := c.get Obj.Phy.MIN_EYE_CODES
  let mar := c.get Obj.Phy.MARGIN_EYE_TAPS
  if skipped then 4
  else if t.failed then 3
  else if !t.done then 0
  else if t.rdEyeW < minW || t.wrEyeW < minW || t.rdEyeH < minH || t.wrEyeH < minH || 4 < t.corrected || t.badBlock then 3
  else if t.rdEyeW < mar || t.wrEyeW < mar || t.deskewLimit || t.wlAmbig || t.gateAmbig || 1 ≤ t.corrected then 2
  else 1

/-- The lane record (R212). -/
def LaneTrain.record (t : LaneTrain) (result : Nat) : Nat :=
  result <<< 156 + ofBool t.deskewLimit <<< 155 + ofBool t.vrefEdge <<< 154 + ofBool t.wlAmbig <<< 153
  + ofBool t.gateAmbig <<< 152 + (t.rdVref % 256) <<< 144 + (t.wrVref % 256) <<< 136 + (sat 8 t.rdEyeW) <<< 128
  + (sat 8 t.rdEyeH) <<< 120 + (sat 8 t.wrEyeW) <<< 112 + (sat 8 t.wrEyeH) <<< 104 + (ofSigned 8 t.tap1) <<< 96
  + (t.recen % 4096) <<< 84 + (t.rdDqs % 4096) <<< 72 + (t.wrDqs % 4096) <<< 60 + (t.wrDq % 4096) <<< 48
  + (t.rdBit % 2 ^ 24) <<< 24 + t.wrBit % 2 ^ 24

/-- The in-service fields of a lane after training (R202, R213); what Fantail has counted stays. DLY12 values are modulo
4,096 (R197). -/
def LaneTrain.toLane (t : LaneTrain) (old : FtLane) (marked : Bool) : FtLane :=
  let v : Tbl Nat := (List.range 13).foldl (fun v i => v.setNum i
    (if i = 0 then t.recen % 4096 else if i = 1 then t.rdDqs % 4096
     else if i ≤ 5 then field (6 * (i - 2) + 5) (6 * (i - 2)) t.rdBit
     else if i = 6 then t.rdVref else if i = 7 then t.wrDqs % 4096 else if i = 8 then t.wrDq % 4096
     else field (6 * (i - 9) + 5) (6 * (i - 9)) t.wrBit)) []
  { FtLane.init with
    state := if marked then 5 else 1
    lastE := old.lastE
    lastL := old.lastL
    unqual := old.unqual
    windows := old.windows
    eyeW := sat 8 t.rdEyeW
    wrEyeW := sat 8 t.wrEyeW
    applied := v
    loaded := v
    target := v
    setv := v
    wrVref := t.wrVref
    tap1 := ofSigned 8 t.tap1
    tap2 := ofSigned 8 t.tap2 }

/-! ## The run of a training (R205, R206, R210, R211, R216) -/

/-- A training run at its begin. -/
def TrainRun.fresh (fromOne noSave : Bool) (now : Nat) : TrainRun :=
  { waiting := true, fromOne := fromOne, step := if fromOne then 1 else 2, pr := 0, repeats := 0, start := now,
    failed := none, firstFail := 0, lanes := [], caWindows := [], caEyeW := 0, csDly := [], csEyeW := [], vrefCa := [],
    vrefCs := [], noSave := noSave }

/-- Queue the training of a subchannel: the state is TRAINING, and the credit of 2,400 mW is asked (R205, R216). -/
def Core.queueTraining (c : Core) (n : Nat) (fromOne : Bool) : Core :=
  ((c.put (Obj.Train.TRAIN_STATE n) 1).updDdr n fun d =>
    { d with train := some (TrainRun.fresh fromOne (c.bitOf Obj.ScMask.CONTENT_LOST n || fromOne) c.tick) }).askQueued
    Ck.train n 2400

/-- The DRAM of a package rank stops checking command parity, for steps 1 to 3 (R198). -/
def Core.parityOff (c : Core) (n pr : Nat) : Core :=
  if (c.ddrOf n).parityOn.testBit pr then
    (c.updDdr n fun d => { d with parityOn := setBitTo pr false d.parityOn }).order n (.parity pr false)
  else c

/-- Step 1, and the reset of a restore: RESET_n goes low and high, and ZQ calibration runs (R206, R413). -/
def Core.dramStart (c : Core) (n : Nat) : Core :=
  let c1 := if (c.mcOf n).inReset then c else c.resetDevice n
  (((c1.updMc n fun m => { m with inReset := false }).order n (.reset false)).order n (.zq 0)).order n (.zq 1)

/-- Does the bin in force run command timing 2N (R196, R215)? -/
def Core.twoN (c : Core) : Bool :=
  match c.get Obj.Phy.CA_2N with
  | 1 => false
  | 2 => true
  | _ => 5600 < c.speedNow

/-- Step 4: command timing, latencies for the bin, and the parity check when CA_PARITY_EN = 1 (R196, R198, R206). -/
def Core.modeRegisters (c : Core) (n pr : Nat) : Core :=
  let c1 := (c.updDdr n fun d => { d with twoN := setBitTo pr c.twoN d.twoN }).order n (.timing pr c.twoN c.speedNow)
  if c.isSet Obj.Phy.CA_PARITY_EN then
    (c1.updDdr n fun d => { d with parityOn := setBitTo pr true d.parityOn }).order n (.parity pr true)
  else c1

/-- VREFDQ and the DFE taps of the ten packages of a package rank are written (R202, R206). -/
def Core.writeDramSide (c : Core) (n pr : Nat) (side : Nat → Nat × Nat × Nat) : Core :=
  (List.range 10).foldl (fun c k =>
    let x := side (10 * pr + k)
    c.order n (.dramSide pr k x.1 x.2.1 x.2.2)) c

/-- The training's credit is granted: training begins, and READY becomes 0 (R205, R211, R216). -/
def Core.trainGranted (c : Core) (n : Nat) : Core :=
  match (c.ddrOf n).train with
  | none => c
  | some t =>
    let c1 := (c.put (Obj.Train.READY n) 0).updDdr n fun d =>
      { d with train := d.train.map fun t => { t with waiting := false, start := c.tick } }
    if t.fromOne then (if (c.mcOf n).inReset then c1 else c1.resetDevice n) else c1.parityOff n 0

/-- Lane records of a package rank. -/
def laneKey (n pr k : Nat) : Nat := if pr = 0 then Obj.LaneRec0.LANE n k else Obj.LaneRec1.LANE n k

/-- Is a lane of a package rank skipped: step 2 or 3 failed on its package rank (R209)? -/
def TrainRun.skipped (t : TrainRun) (pr : Nat) : Bool :=
  match t.failed with | some (s, p) => s ≤ 3 && p == pr | none => false

/-- RESULT of a lane at publication: a lane that the failed step left untrained is FAIL (R209). -/
def Core.resultOf (c : Core) (t : TrainRun) (pr k : Nat) : Nat :=
  let r := c.laneResult (Tbl.get (fun _ => LaneTrain.init) t.lanes (10 * pr + k)) (t.skipped pr)
  let stopped := match t.failed with | some (s, p) => 3 < s && p == pr | none => false
  if stopped && r == 0 then 3 else r

/-- Mark a package: its lane number goes to the package rank's byte of ERASE_MAP, and its lane reads ERASED (R253). -/
def Core.markPackage (c : Core) (n pr k : Nat) : Core :=
  let e := c.get (Obj.EccSc.ERASE_MAP n)
  ((c.put (Obj.EccSc.ERASE_MAP n) (if pr = 0 then k * 256 + e % 256 else e / 256 * 256 + k)).updLane n (10 * pr + k)
    fun l => { l with state := 5 }).touch.checkInsertion n pr

/-- Write the lane records and the command-side results of a training (R211, R214). -/
def Core.putTraining (c : Core) (n : Nat) (t : TrainRun) : Core :=
  let res := fun i => c.resultOf t (i / 10) (i % 10)
  let c1 := (List.range 20).foldl (fun k i => k.put (laneKey n (i / 10) (i % 10))
    ((Tbl.get (fun _ => LaneTrain.init) t.lanes i).record (res i))) c
  let centres := t.caWindows.map fun w => (w.1 + w.2) / 2
  let low := centres.foldl min (centres.foldl max 0)
  ((((((c1.put (Obj.Ca.CA_COMMON n) (low % 4096)).put (Obj.Ca.CA_BIT n)
    ((List.range 14).foldl (fun a i => a * 256 + min 63 (nth centres i low - low)) 0)).put (Obj.Ca.CS_DLY n)
    (t.csDly.num 0 * 65536 + t.csDly.num 1)).put (Obj.Ca.VREFCA n) (t.vrefCa.num 0 * 256 + t.vrefCa.num 1)).put
    (Obj.Ca.VREFCS n) (t.vrefCs.num 0 * 256 + t.vrefCs.num 1)).put (Obj.Ca.CA_EYE_W n) (sat 8 t.caEyeW)).put
    (Obj.Ca.CS_EYE_W n) (sat 8 (t.csEyeW.num 0) * 256 + sat 8 (t.csEyeW.num 1))

/-- Write the summary of a training or restore, with its lanes' RESULTs, and assign its generation (R211, R213). -/
def Core.putSummary (c : Core) (n : Nat) (temp : Int) (firstFail us : Nat) (res : Nat → Nat) : Core :=
  let g := c.get (Obj.Train.GEN n)
  let c3 := (((c.put (Obj.Train.TRAIN_TIME n) c.hubTime).put (Obj.Train.TRAIN_TEMP n) (ofSigned 32 temp)).put
    (Obj.Train.SPEED n) (c.speedNow)).put (Obj.Train.FAILED_LANES n) (maskOf 20 fun i => 3 ≤ res i)
  ((((c3.put (Obj.Train.MARGINAL_LANES n) (maskOf 20 fun i => res i == 2)).put (Obj.Train.STEP_FAILED n) firstFail).put
    (Obj.Train.DURATION n) (sat 32 us)).put (Obj.Train.GEN n) (if g = 65535 then 1 else g + 1)).put (Obj.Train.READY n) 1

/-- Write every result object of a training and assign its generation, in one cycle (R211, R213, R214). -/
def Core.publishTraining (c : Core) (n : Nat) (t : TrainRun) (temp : Int) : Core :=
  (c.putTraining n t).putSummary n temp t.firstFail ((c.tick - t.start) * 2 / 1000) fun i =>
    c.resultOf t (i / 10) (i % 10)

/-- Lanes that count as FAIL on a package rank, by their RESULT or by a mark (R210, R253). -/
def Core.failLanes (c : Core) (n : Nat) (t : TrainRun) (pr : Nat) : List Nat :=
  (List.range 10).filter fun k => c.resultOf t pr k == 3 || c.markedLane n pr = some k

/-- Is the subchannel FAILED (R210)? DEDUCED, unsafe (log entry 29). -/
def Core.trainFails (c : Core) (n : Nat) (t : TrainRun) : Bool :=
  t.failed.isSome || 2 ≤ (c.failLanes n t 0).length || 2 ≤ (c.failLanes n t 1).length

/-- The one FAIL lane of a package rank: its package is marked, and DDR_TRAIN_SCnn raised. A lane that only its mark makes
FAIL raises nothing (R210). -/
def Core.markFails (c : Core) (n : Nat) (t : TrainRun) : Core :=
  (List.range 2).foldl (fun k pr =>
    match c.failLanes n t pr with
    | [lane] =>
      if c.resultOf t pr lane ≠ 3 then k
      else (if c.markedLane n pr = some lane then k else k.markPackage n pr lane).raise (Src.ddrTrain n)
        (ctxLane 11 5 n pr lane)
    | _ => k) c

/-- The DRAM of a subchannel starts afresh after training or restore: closed rows, no debt, commands allowed. -/
def Core.freshMc (c : Core) (n : Nat) : Core :=
  c.updMc n fun m => { m with inReset := false, stopped := false, rows := [], streak := [], fresh := [], debt := [],
                              excess := [], flush := [] }

/-- The set that a training stores, of a FAILED one too (R211, R232). -/
def Core.trainedSet (c : Core) (n : Nat) (t : TrainRun) (temp : Int) : CalSet :=
  c.calSetOf n 0 temp fun i => (Tbl.get (fun _ => LaneTrain.init) t.lanes i).toLane (c.laneOf n i) false

/-- Step 11: publish, store the set, decide the outcome, and release the credit (R206, R210, R211, R232, R234). -/
def Core.trainPublish (c : Core) (n : Nat) (t : TrainRun) (temp : Int) : Core :=
  let p := c.publishTraining n t temp
  let c1 := ((((p.storeSet n (p.trainedSet n t temp)).put (Obj.FtSc.T_CAL n) (ofSigned 32 temp)).put
    (Obj.FtSc.T_CAL_TIME n) c.hubTime).updDdr n fun d => { d with train := none }).release Ck.train n
  let started := c.start.isSome && (c.start.map (fun s => s.trains.testBit n)).getD false
  let c2 :=
    if c.trainFails n t then
      (((c1.put (Obj.Train.TRAIN_STATE n) 3).flag (Obj.Train.FLAGS n) 3).flag Obj.Phy.FLAGS 1).raise (Src.ddrTrain n)
        (ctxLane 11 5 n (t.firstFail / 128) 0) |>.goOffline n false true
    else
      let k1 := (c1.put (Obj.Train.TRAIN_STATE n) 2).markFails n t
      let k2 := (List.range 20).foldl (fun k i => k.updLane n i fun l =>
        (Tbl.get (fun _ => LaneTrain.init) t.lanes i).toLane l (k1.markedLane n (i / 10) = some (i % 10))) k1
      ((k2.checkInsertion n 0).checkInsertion n 1).freshMc n
  if started then
    (c2.updStart fun s => { s with trains := setBitTo n false s.trains, cold := true }).startProgress
  else c2

/-! ### Repairs after a reset (R262) -/

/-- The key of entry i of the repair list (R263). -/
def repairKey (i : Nat) : Nat := Obj.Repair.ENTRY (i / 128) (i % 128)

/-- The die, bank and row of an entry (R263). -/
def entryCandidate (e : Nat) : Candidate :=
  { lr := 4 * field 55 55 e + field 50 49 e, lane := field 54 51 e, bg := field 48 46 e, ba := field 45 44 e,
    row := field 43 27 e, retried := false }

/-- The DRAM address of a candidate's row. -/
def Candidate.addr (k : Candidate) (n : Nat) : DramAddr :=
  { sc := n, lr := k.lr, bg := k.bg, ba := k.ba, row := k.row, col := 0 }

/-- A die is put alone into repair mode, its row is programmed, and it leaves the mode (R260 step 5, R262). -/
def Core.programRow (c : Core) (n : Nat) (k : Candidate) (hard : Bool) : Core :=
  ((c.order n (.repairMode k.lr k.lane true)).order n (.repairRow k.lr k.lane (k.addr n).bank k.row hard)).order n
    (.repairMode k.lr k.lane false)

/-- Entries of the repair list for a package rank with a KIND. -/
def Core.repairEntries (c : Core) (n pr kind : Nat) : List Nat :=
  (List.range 512).filter fun i =>
    let e := c.get (repairKey i)
    field 63 61 e == kind && field 60 56 e == n && field 55 55 e == pr

/-- A HARD_PENDING entry is programmed as a hard repair: it becomes HARD, or stays SOFT with REPAIR_FAIL (R262, R264). -/
def Core.hardRepair (c : Core) (n i : Nat) (ok : Bool) : Core :=
  let key := repairKey i
  let k := entryCandidate (c.get key)
  let c1 := (c.programRow n k true).put key (setField 63 61 (c.get key) (if ok then 3 else 1))
  if ok then (c1.add (Obj.EccSc.REPAIRS n) 16 1).eccLog 9 n k.lane 6 [] (k.addr n) 0
  else
    (((c1.flag (Obj.EccSc.FLAGS n) 6).flag Obj.Ecc.FLAGS 2).add (Obj.EccSc.REPAIR_FAILS n) 16 1).eccLog 10 n k.lane 6 []
      (k.addr n) 0

/-- The repair list of a package rank: hard repairs first, then every SOFT entry again (R262). -/
def Core.applyRepairs (c : Core) (n pr : Nat) (hardOk : List Bool) : Core :=
  let es := c.repairEntries n pr 2
  let c1 := (List.range es.length).foldl (fun k j => k.hardRepair n (nth es j 0) (nth hardOk j true)) c
  let c2 := (c1.repairEntries n pr 1).foldl (fun k i => k.programRow n (entryCandidate (k.get (repairKey i))) false) c1
  if es.isEmpty then c2 else c2.touch

/-! ### The steps -/

/-- A command-side step fails the package rank: training goes to step 11 (R206, R210). -/
def TrainRun.fail (t : TrainRun) (step : Nat) : TrainRun :=
  { t with failed := some (step, t.pr), firstFail := if t.firstFail = 0 then 128 * t.pr + step else t.firstFail }

/-- Step 2, CS training: CS_DLY and VREFCS (R206). -/
def Core.stepCs (c : Core) (t : TrainRun) (r : StepResult) : TrainRun :=
  match eyeCentre (c.get Obj.Phy.VREF_COARSE_STEP) r.coarse r.fine with
  | none => t.fail 2
  | some y => { t with csDly := t.csDly.setNum t.pr (y.t % 4096), vrefCs := t.vrefCs.setNum t.pr (y.v % 256),
                       csEyeW := t.csEyeW.setNum t.pr y.w, step := 3, repeats := 0 }

/-- Step 3, CA training: VREFCA, and the windows of the CA bits, on PR1 intersected with those of PR0 (R206).
DEDUCED, unsafe (log entry 29). -/
def Core.stepCa (c : Core) (t : TrainRun) (r : StepResult) : TrainRun :=
  match eyeCentre (c.get Obj.Phy.VREF_COARSE_STEP) r.coarse r.fine with
  | none => t.fail 3
  | some y =>
    let ws := if t.pr = 0 then r.caBits
      else (List.range 14).map fun i =>
        let a := nth t.caWindows i (0, 0)
        let b := nth r.caBits i (0, 0)
        (max a.1 b.1, min a.2 b.2)
    if ws.any fun w => w.2 < w.1 then t.fail 3
    else
      let ws' := ws.map fun w => w.2 + 1 - w.1
      { t with vrefCa := t.vrefCa.setNum t.pr (y.v % 256), caWindows := ws,
               caEyeW := ws'.foldl min (ws'.foldl max 0), step := 4, repeats := 0 }

/-- A lane-side step, 5 to 10 (R206 to R208). A lane that has failed is not trained further; a step that no lane passes fails
the training. -/
def Core.stepLanes (c : Core) (t : TrainRun) (r : StepResult) : TrainRun :=
  let lanes := (List.range 10).foldl (fun ls k =>
    let i := 10 * t.pr + k
    let l := Tbl.get (fun _ => LaneTrain.init) t.lanes i
    if l.failed then ls
    else match r.lanes[k]? with
      | none => ls
      | some s => Tbl.set (fun _ => LaneTrain.init) ls i (c.laneStep t.step l s)) t.lanes
  let failedNow := (List.range 10).any fun k =>
    (Tbl.get (fun _ => LaneTrain.init) lanes (10 * t.pr + k)).failed
      && !(Tbl.get (fun _ => LaneTrain.init) t.lanes (10 * t.pr + k)).failed
  let none := (List.range 10).all fun k => (Tbl.get (fun _ => LaneTrain.init) lanes (10 * t.pr + k)).failed
  let t1 := { t with lanes := lanes, repeats := 0,
                     firstFail := if failedNow && t.firstFail = 0 then 128 * t.pr + t.step else t.firstFail }
  if none then t1.fail t.step
  else if t.step = 10 then { t1 with step := if t.pr = 0 then 2 else 11, pr := if t.pr = 0 then 1 else t.pr }
  else { t1 with step := t.step + 1 }

/-- One finished step of a training: the run after it (R206). A step whose third repeat an ALERT forces fails (R217). -/
def Core.trainNext (c : Core) (t : TrainRun) (r : StepResult) : TrainRun :=
  if 3 ≤ t.repeats then t.fail t.step
  else match t.step with
    | 1 => { t with step := 2, repeats := 0 }
    | 2 => c.stepCs t r
    | 3 => c.stepCa t r
    | 4 => { t with step := 5, repeats := 0 }
    | _ => c.stepLanes t r

/-- The memory after a step: step 1 resets the DRAM, whose content is undefined from then on; after step 10 the save area
is written back, its uncorrectable blocks with the poison mark (R206, R216). -/
def Core.trainMemory (c : Core) (mem : Memory) (n : Nat) (t : TrainRun) (r : StepResult) : Core × Memory :=
  if t.step = 1 then (c, mem.lose n)
  else if t.step = 10 && !t.noSave then
    r.saveBad.foldl (fun x i => x.1.writeSaved x.2
      { sc := n, lr := 4 * t.pr + i / 128 % 4, bg := 0, ba := 0, row := 0, col := i % 128 : DramAddr }.pa) (c, mem)
  else (c, mem)

/-- What the hub has put on the wire by the end of a step, besides its sweep: the reset of step 1, the mode registers and the
repair list of step 4, the DRAM's settings of step 9, and parity off before PR1's steps (R198, R206, R216, R262). -/
def Core.trainOrders (c : Core) (n : Nat) (t t1 : TrainRun) (r : StepResult) : Core :=
  match t.step with
  | 1 => c.dramStart n
  | 4 => let k := c.modeRegisters n t.pr; if t.fromOne then k.applyRepairs n t.pr r.hardOk else k
  | 9 => c.writeDramSide n t.pr fun i =>
      let l := Tbl.get (fun _ => LaneTrain.init) t1.lanes i
      (l.wrVref, ofSigned 8 l.tap1, ofSigned 8 l.tap2)
  | 10 => if t.pr = 0 then c.parityOff n 1 else c
  | _ => c

/-- TRAIN_STEP_DONE (R206): the next step starts, or the results are published. While ALERT_n is low no step ends (R217).
DEDUCED, unsafe (log entry 29). -/
def Core.trainStep (c : Core) (mem : Memory) (n : Nat) (r : StepResult) : Core × Memory :=
  match (c.ddrOf n).train with
  | none => (c, mem)
  | some t =>
    if t.waiting || (c.ddrOf n).alertLow then (c, mem)
    else
      let t1 := c.trainNext t r
      let x := (c.trainOrders n t t1 r).trainMemory mem n t r
      if t1.failed.isSome || t1.step = 11 then (x.1.trainPublish n t1 (x.1.monValue (n / 4)), x.2)
      else (x.1.updDdr n fun d => { d with train := some t1 }, x.2)

/-- RETRAIN (R216): the subchannel must be OFFLINE and not already TRAINING. -/
def Core.retrain (c : Core) (n : Nat) : Status × Core :=
  if !(c.scOffline n) || c.trainState n = 1 then (.retry, c)
  else (.ok, (c.openWindow 6 n 0).queueTraining n (c.trainState n ≠ 2))

end Sys2Proof.Machine
end

