-- ==== Sys2Proof/Machine/Ecc.lean ====
section
/-! DEFINITION. Error correction: decoding a read burst, suspects and erasure, the error log, patrol scrub and row repair
(10_ecc_repair.md R247 to R268; 07_memory_controller.md R187 to R189). -/

namespace Sys2Proof.Machine

/-! ## Repair candidates (R259) -/

/-- The die and bank group of a repair-list entry. -/
def sameDie (e n pr lane cid bg : Nat) : Bool :=
  field 60 56 e == n && field 55 55 e == pr && field 54 51 e == lane && field 50 49 e == cid && field 48 46 e == bg

/-- Is a candidate UNREPAIRABLE, as far as mode, mark and list decide (R259)? -/
def Core.unrepairable (c : Core) (n : Nat) (k : Candidate) : Bool :=
  let used := (List.range 512).filter fun i => field 63 61 (c.get (repairKey i)) ≠ 0
  c.get Obj.Ecc.REPAIR_MODE = 0 || c.markedLane n (k.lr / 4) = some k.lane
  || used.any (fun i => let e := c.get (repairKey i)
      field 63 61 e ≠ 4 && sameDie e n (k.lr / 4) k.lane (k.lr % 4) k.bg)
  || used.length = 512

/-- An unrepairable candidate is logged and raised (R259). Its record's REQUESTER is REPAIR. DEDUCED, unsafe (log entry 30). -/
def Core.refuseCandidate (c : Core) (n : Nat) (k : Candidate) (d : DramAddr) : Core :=
  (((c.eccLog 11 n k.lane 6 [] d 0).flag (Obj.EccSc.FLAGS n) 7)).raise (Src.eccRepair n)
    (ctxLane 11 0 n (k.lr / 4) k.lane)

/-- Ask for the credit of the next repair (R260 step 1, R424). -/
def Core.askRepair (c : Core) (n : Nat) : Core :=
  if c.holds Ck.repair n || (c.eccOf n).candidates.isEmpty then c else (c.askNow Ck.repair n 300).2

/-- A row becomes a repair candidate (R259). -/
def Core.addCandidate (c : Core) (n : Nat) (d : DramAddr) (lane : Nat) : Core :=
  let k : Candidate := { lr := d.lr, lane := lane, bg := d.bg, ba := d.ba, row := d.row, retried := false }
  if c.unrepairable n k then c.refuseCandidate n k d
  else if (c.eccOf n).candidates.contains k then c
  else (c.updEcc n fun e => { e with candidates := e.candidates ++ [k] }).askRepair n

/-! ## Counting corrections (R252, R257, R267) -/

/-- Symbols corrected in a package. -/
def symsIn (syms : List Nat) (k : Nat) : Nat := (syms.filter fun j => j / 8 == k).length

/-- CE_BURSTS, CE_SYMBOLS, PKG_SYMBOLS and CE (R267, R268). -/
def Core.countCe (c : Core) (n pr : Nat) (syms : List Nat) : Core :=
  let p := c.get (Obj.EccSc.PKG_SYMBOLS n)
  let p' := (List.range 10).foldl (fun a k =>
    let i := 10 * pr + k
    let lo := 32 * (19 - i)
    setField (lo + 31) lo a (sat 32 (field (lo + 31) lo a + symsIn syms k))) p
  (((c.inc64 (Obj.EccSc.CE_BURSTS n)).add (Obj.EccSc.CE_SYMBOLS n) 64 syms.length).put (Obj.EccSc.PKG_SYMBOLS n) p').flag
    (Obj.EccSc.FLAGS n) 0

/-- MASTER of a fault event of an owner's burst (R325). -/
def Owner.master : Owner → Nat
  | .hrRead _ _ _ _ => 1
  | .millstone _ _ | .refill _ _ _ => 4
  | .drain _ | .drainRead _ _ _ => 5
  | .scrub => 6
  | _ => 11

/-- A CE record, within LOG_RATE records in 1 s, and its fault event; else LOG_DROPPED (R264, R265, R304). -/
def Core.ceRecord (c : Core) (n : Nat) (r : Req64) (syms : List Nat) (d : DramAddr) : Core :=
  let recent := (c.eccOf n).ceTicks.filter fun t => c.tick < t + 500000000
  if recent.length < c.get Obj.Ecc.LOG_RATE then
    ((c.updEcc n fun e => { e with ceTicks := recent ++ [c.tick] }).eccLog 1 n (nth syms 0 120 / 8) r.owner.requester syms d
      0).raise (Src.eccCe n) (ctxHa r.owner.master 1 r.ha)
  else (c.updEcc n fun e => { e with ceTicks := recent }).inc64 Obj.Ecc.LOG_DROPPED

/-- Packages with MARK_SYMS or more corrected symbols; those of a marked package are no corrections (R252). -/
def Core.hitLanes (c : Core) (syms : List Nat) : List Nat :=
  (List.range 10).filter fun k => c.get Obj.Ecc.MARK_SYMS ≤ symsIn syms k

/-! ## Suspects (R252 to R255) -/

/-- Change the reads in flight. -/
def Core.updFlight (c : Core) (n : Nat) (f : Req64 → Req64) : Core := c.updMc n fun m => { m with flight := m.flight.map f }

/-- A suspect: it counts in SUSPECTS, what is in flight will be discarded, and the three confirmation reads issue at FORCE
(R252, R254). -/
def Core.startSuspect (c : Core) (n : Nat) (r : Req64) (d : DramAddr) (lane : Nat) (syms : List Nat) : Core :=
  let s : Suspect := { lane := lane, pr := d.lr / 4, ha := r.ha, syms := syms, hits := [], held := [],
                       requester := r.owner.requester }
  let ask := fun (c : Core) (i ha : Nat) => c.ownRequest (readReq ha 0 (.confirm i))
  let a := unmapHa c.addrMap { d with bg := (d.bg + 4) % 8, row := d.row ^^^ 1, col := 0 }
  let b := unmapHa c.addrMap { d with lr := d.lr ^^^ 1, col := 0 }
  let c1 := (((c.updEcc n fun e => { e with suspect := some s }).inc (Obj.EccSc.SUSPECTS n))).updFlight n fun q =>
    if q.at_ = .out then { q with at_ := .stale } else q
  ask (ask (ask c1 0 r.ha) 1 a) 2 b

/-- A burst with corrected symbols: a suspect, or a hit beside the pending one, or a CE record (R252, R255, R264). -/
def Core.noteCorrection (c : Core) (n : Nat) (r : Req64) (d : DramAddr) (syms : List Nat) : Core :=
  if syms.isEmpty then c
  else match (c.eccOf n).suspect with
    | none => (match c.hitLanes syms with | lane :: _ => c.startSuspect n r d lane syms | [] => c.ceRecord n r syms d)
    | some s =>
      match (c.hitLanes syms).filter fun k => !(s.pr == d.lr / 4 && s.lane == k) with
      | lane :: _ => (c.inc (Obj.EccSc.SUSPECTS n)).eccLog 3 n lane r.owner.requester syms d 0
      | [] => c.ceRecord n r syms d

/-- The EVENT code of a decision: 4 MARK, 5 TRANSIENT, 6 ROW_FAULT, 12 RANK_EXHAUSTED (R252, R264). -/
def Suspect.outcome (s : Suspect) (marked : Bool) : Nat :=
  let hit := fun i => s.hits.any fun h => h.1 == i && h.2
  if !(hit 0) then 5
  else if !(hit 1) || !(hit 2) then 6
  else if marked then 12 else 4

/-- What a decision does at once (R252, R253). -/
def Core.settleSuspect (c : Core) (n : Nat) (s : Suspect) (event : Nat) : Core :=
  let d := c.dramOf s.ha
  let f := Obj.EccSc.FLAGS n
  match event with
  | 4 =>
    let before := c.fc.seq
    let c1 := (((c.flag f 1).flag Obj.Ecc.FLAGS 1)).raise (Src.eccPkgMark n) (ctxLane (if s.requester = 1 then 5 else
      if s.requester = 3 then 6 else if s.requester = 2 then 4 else 1) 1 n s.pr s.lane)
    if c.isSet Obj.Ecc.AUTO_MARK then
      (c1.openWindow 2 n (if before < c1.fc.seq then c1.fc.seq else 0)).markPackage n s.pr s.lane
    else c1
  | 12 => (c.flag f 4).raise (Src.eccPkgMark n) (ctxLane 11 1 n s.pr s.lane)
  | 6 => (((c.flag f 3).inc (Obj.EccSc.ROW_FAULTS n))).addCandidate n d s.lane
  | _ => (c.flag f 2).inc (Obj.EccSc.TRANSIENTS n)

/-- The interruption ends: its length and the log record of each of its outcomes (R254, R264).
DEDUCED, unsafe (log entry 30). -/
def Core.endInterrupt (c : Core) (n ns : Nat) : Core :=
  let os := (c.eccOf n).outcomes
  if os.isEmpty then c
  else
    let c1 := ((c.updEcc n fun e => { e with outcomes := [] }).put (Obj.EccSc.INTERRUPT_LAST n) (sat 32 ns)).put
      (Obj.EccSc.INTERRUPT_MAX n) (max (c.get (Obj.EccSc.INTERRUPT_MAX n)) (sat 32 ns))
    let c2 := if 12000 < ns then c1.flag (Obj.EccSc.FLAGS n) 9 else c1
    os.foldl (fun c o =>
      c.eccLog o.1 n o.2.lane o.2.requester o.2.syms (c.dramOf o.2.ha) (if o.1 = 12 then 0 else ns)) c2

/-- With no suspect pending: once the last discarded read has come, the kept ones are issued again at FORCE; after the last of
them has decoded, the interruption ends and the pick resumes (R189, R254). -/
def Core.interruptStep (c : Core) (n ns : Nat) : Core :=
  let m := c.mcOf n
  if (c.eccOf n).suspect.isSome || m.flight.any (·.at_ == .stale) then c
  else if m.flight.any (·.at_ == .kept) then
    c.updFlight n fun r => if r.at_ = .kept then { r with at_ := .again, cls := 0, inReplay := true } else r
  else if m.flight.any (·.inReplay) then c
  else c.endInterrupt n ns

/-- A read is to be issued again at FORCE (R187, R254). -/
def Core.readAgain (c : Core) (n : Nat) (r : Req64) (second inReplay : Bool) : Core :=
  c.updMc n fun m => { m with flight := m.flight ++
    [{ r with at_ := .again, cls := 0, second := r.second || second, inReplay := r.inReplay || inReplay }] }

/-! ## Patrol scrub (R256 to R258) -/

/-- The corrected bursts of the row that a package has had, and the candidate at ROW_CE_LIMIT (R257). -/
def Core.scrubCorrected (c : Core) (n : Nat) (d : DramAddr) (syms : List Nat) : Core :=
  (List.range 10).foldl (fun c k =>
    if symsIn syms k = 0 then c
    else
      let m := (c.eccOf n).scrubCe.num k + 1
      let c1 := c.updEcc n fun e => { e with scrubCe := e.scrubCe.setNum k m }
      if m = c.get Obj.Ecc.ROW_CE_LIMIT then c1.addCandidate n d k else c1) c

/-- A corrected scrub burst is written back at BG, unless a write to its address waits or has passed (R257). -/
def Core.scrubBack (c : Core) (n : Nat) (r : Req64) (data : Nat) (syms : List Nat) : Core :=
  if syms.isEmpty then c
  else if r.passed || ((c.mcOf n).writes.any fun w => w.ha == r.ha) then c.inc (Obj.EccSc.SCRUB_WB_DROPPED n)
  else c.request (writeReq r.ha 4 data false .scrubWrite)

/-! ## Row repair: its reads (R260) -/

/-- A burst of the row under repair has been read: it is saved, or read back; `hit` says that it was not free of errors in the
die's package (R260 steps 4 and 7). -/
def Core.repairGot (c : Core) (n col data : Nat) (poison hit : Bool) : Core :=
  c.updEcc n fun e => { e with repair := e.repair.map fun x =>
    if x.phase = 2 then { x with save := Tbl.set (fun _ => (0, false)) x.save col (data, poison), left := x.left - 1 }
    else if x.phase = 5 then { x with clean := x.clean && !hit, left := x.left - 1 }
    else x }

/-- Symbols corrected in the package of the die under repair. -/
def Core.repairHit (c : Core) (n : Nat) (syms : List Nat) : Bool :=
  match (c.eccOf n).repair with | some x => 0 < symsIn syms x.k.lane | none => false

/-! ## READ_DECODE (R187, R249) -/

/-- PORT and TAG of UE_LAST (R193). -/
def Core.ueOrigin (c : Core) : Owner → Nat × Nat
  | .hrRead p t _ _ => (p, t)
  | .drainRead j _ _ => (if c.get (Obj.Job.PORT j) ≤ 7 then c.get (Obj.Job.PORT j) else 0xF, j)
  | .refill x _ _ => (0xF, x)
  | _ => (0xF, 0)

/-- A read whose second decode fails too (R187, R193); a demand or scrub read makes its row a repair candidate (R257, R259).
DEDUCED, unsafe (log entry 30). -/
def Core.uncorrectable (c : Core) (n : Nat) (r : Req64) (d : DramAddr) : Core :=
  let (port, tag) := c.ueOrigin r.owner
  let last := r.ha <<< 91 + (min r.owner.requester 4) <<< 88 + port <<< 84 + tag <<< 72 + ofBool c.timeValid <<< 64
    + c.timeNs % 2 ^ 64
  let c1 := ((((c.inc (Obj.Sc.UE_COUNT n)).flag (Obj.Sc.FLAGS n) 0).flag Obj.Mc.FLAGS 0).put (Obj.Sc.UE_LAST n) last).raise
    (Src.mcUe n) (ctxHa r.owner.master 1 r.ha)
  let c2 := c1.eccLog (if r.owner = .scrub then 7 else 2) n 0xF r.owner.requester [] d 0
  match r.owner with
  | .repair _ => c2
  | _ => let (lane, c3) := c2.draw 10; c3.addCandidate n d lane

/-- A confirmation read decodes (R252). -/
def Core.confirmHit (c : Core) (n i : Nat) (syms : List Nat) : Core :=
  c.updEcc n fun e => { e with suspect := e.suspect.map fun s =>
    { s with hits := s.hits ++ [(i, decide (c.get Obj.Ecc.MARK_SYMS ≤ symsIn syms s.lane))] } }

/-- What a scrub read found: candidates and the write-back (R257). -/
def Core.scrubFound (c : Core) (n : Nat) (r : Req64) (d : DramAddr) (data : Nat) (syms : List Nat) : Core :=
  if r.owner = .scrub then (c.scrubCorrected n d syms).scrubBack n r data syms else c

/-- A block that decodes as data or as POISONED, with the symbols it corrected (R187, R249 steps 1 and 2, R252, R257).
DEDUCED, unsafe (log entry 30). -/
def Core.decoded (c : Core) (n : Nat) (r : Req64) (d : DramAddr) (data : Nat) (poison : Bool) (syms : List Nat)
    (erased : Bool) : Core :=
  let c1 := if erased then c.inc64 (Obj.EccSc.ERASURE_DECODES n) else c
  let c2 := if poison then c1.inc64 (Obj.EccSc.POISON_READS n) else c1
  let c3 := if r.second then (c2.inc (Obj.Sc.UE_REREAD_OK n)).flag (Obj.Sc.FLAGS n) 1 else c2
  let c4 := (if syms.isEmpty then c3 else c3.countCe n (d.lr / 4) syms).inc64 (Obj.Sc.READS n)
  match r.owner with
  | .confirm i => (c4.noteCorrection n r d syms).confirmHit n i syms
  | .repair col => (c4.repairGot n col data poison (c4.repairHit n syms)).noteCorrection n r d syms
  | _ =>
    let c5 := c4.deliver n r data (ofBool poison)
    (if poison then c5 else c5.scrubFound n r d data syms).noteCorrection n r d syms

/-- A read passes to R187: once more at FORCE, or uncorrectable (R187, R188). -/
def Core.failedRead (c : Core) (n : Nat) (r : Req64) (d : DramAddr) : Core :=
  if !r.second then c.readAgain n r true false
  else
    let c1 := (c.uncorrectable n r d).inc64 (Obj.Sc.READS n)
    match r.owner with
    | .repair col => let (x, c2) := c1.draw (2 ^ 512); c2.repairGot n col x true true
    | _ => c1.deliver n r 0 2

/-- What the erasure of a pending suspect's package makes of a burst: data, poison and symbols, when it is accepted (R255). -/
def Core.heldBlock (c : Core) (n : Nat) (r : Req64) (pr : Nat) (err : List Nat) : Option (Req64 × List Nat) :=
  match (c.eccOf n).suspect with
  | none => none
  | some s =>
    if s.pr ≠ pr || (c.markedLane n pr).isSome then none
    else match judge err r.poison (some s.lane) with
      | .data syms res => some ({ r with data := addResidue r.data res, poison := false }, syms)
      | .poisoned syms res => some ({ r with data := addResidue r.data res, poison := true }, syms)
      | .bad => none

/-- A block that decodes as neither (R187, R249 steps 3 and 4, R255). DEDUCED, unsafe (log entry 30). -/
def Core.decodedBad (c : Core) (n : Nat) (r : Req64) (d : DramAddr) (err : List Nat) : Core :=
  match r.owner with
  | .confirm i => (c.inc64 (Obj.Sc.READS n)).confirmHit n i []
  | _ =>
    match c.heldBlock n r (d.lr / 4) err with
    | some h => c.updEcc n fun e => { e with suspect := e.suspect.map fun s => { s with held := s.held ++ [h] } }
    | none => c.failedRead n r d

/-- The third confirmation read is in: the outcome is decided; held blocks are returned under the erasure after MARK, and
pass to R187 otherwise (R252, R255). -/
def Core.conclude (c : Core) (n : Nat) : Core :=
  match (c.eccOf n).suspect with
  | none => c
  | some s =>
    if s.hits.length < 3 then c
    else
      let event := s.outcome (c.markedLane n s.pr).isSome
      let c1 := (c.updEcc n fun e => { e with suspect := none, outcomes := e.outcomes ++ [(event, s)] }).settleSuspect n s
        event
      s.held.foldl (fun c h =>
        let d := c.dramOf h.1.ha
        if event = 4 then c.decoded n h.1 d h.1.data h.1.poison h.2 true
        else c.failedRead n { h.1 with inReplay := true } d) c1

/-- Judge one burst (R249); the lanes whose package was not corrected see it as a live burst (R221). -/
def Core.judged (c : Core) (n : Nat) (r : Req64) (d : DramAddr) (x : ReadData) : Core :=
  let err := x.err.map (·.toNat)
  let pr := d.lr / 4
  let marked := c.markedLane n pr
  let live := fun (c : Core) (syms : List Nat) =>
    if r.replayed then c else c.liveBurst n pr (rsAdd (storedWord r.data r.poison) err) syms x.shadow
  match judge err r.poison marked with
  | .data syms res => (live c syms).decoded n r d (addResidue r.data res) false syms marked.isSome
  | .poisoned syms res => (live c syms).decoded n r d (addResidue r.data res) true syms marked.isSome
  | .bad => c.decodedBad n r d err

/-- READ_DECODE: the oldest read whose data is awaited returns with what the wires added to it. A read that was in flight when
a suspect was found is discarded and kept (R189, R249, R254). -/
def Core.readDecode (c : Core) (n : Nat) (x : ReadData) : Core :=
  let m := c.mcOf n
  match m.flight.find? fun r => r.at_ == .out || r.at_ == .stale with
  | none => c
  | some r =>
    if m.stopped then c
    else
      let gone := c.setMc n { m with flight := m.flight.filter (·.id != r.id) }
      match r.owner with
      | .fantail pr => if r.at_ = .stale then gone.interruptStep n x.interruptNs else gone.patternBurst n pr x.err x.shadow
      | _ =>
        if r.at_ = .stale then
          (c.updFlight n fun q => if q.id = r.id then { q with at_ := .kept } else q).interruptStep n x.interruptNs
        else ((gone.judged n r (c.dramOf r.ha) x).conclude n).interruptStep n x.interruptNs

/-! ## Rows of the chapter -/

/-- An encoder or decoder check fails: CHECKER_FAIL, its log record and its fault (R251). -/
def Core.checkerFail (c : Core) (n : Nat) : Core :=
  ((((c.flag (Obj.EccSc.FLAGS n) 8).flag Obj.Ecc.FLAGS 3)).eccLog 13 n 0xF 0 []
    { sc := n, lr := 0, bg := 0, ba := 0, row := 0, col := 0 } 0).raise (Src.eccChecker n) (ctxNone 11 2)

/-- DECODER_SELFTEST: outcomes of the four test words: 1 corrected, 2 POISONED, 3 UNCORRECTABLE, else other (R251). -/
def Core.decoderSelftest (c : Core) (n : Nat) (outcomes : List Nat) : Core :=
  if outcomes = [1, 1, 3, 2] then c else c.checkerFail n

/-- The reads of the next row begin; with the schedule met the catch-up credit returns (R256, R258). -/
def Core.scrubBegin (c : Core) (n : Nat) : Core :=
  let q := c.get (Obj.EccSc.SCRUB_POS n)
  let c1 := (c.updEcc n fun e =>
    { e with scrubLeft := 128, scrubRow := q, scrubCe := [], behind := e.behind - 1,
             passStart := if q = 0 then c.tick else e.passStart }).put (Obj.EccSc.SCRUB_POS n) ((q + 1) % 2 ^ 25)
  let c2 := (List.range 128).foldl (fun c col =>
    c.request (readReq (unmapHa c.addrMap { sc := n, lr := q / 32 % 8, bg := q % 8, ba := q / 8 % 4, row := q / 256,
                                            col := col }) 4 .scrub)) c1
  if (c2.eccOf n).behind = 0 && c2.holds Ck.scrub n then c2.release Ck.scrub n else c2

/-- A row falls due (R256, R258): it is read, or waits behind while the row before it is still read. While the catch-up
credit is held the rows come at four times the nominal rate, so that of four rows one is the schedule's own. -/
def Core.scrubRow (c : Core) (n : Nat) : Core :=
  if c.get Obj.Ecc.SCRUB_PERIOD_H = 0 || 2 ≤ c.scState n || c.trainState n ≠ 2 || !c.dataServed then c
  else
    let e := c.eccOf n
    let due := if c.holds Ck.scrub n && c.get (Obj.EccSc.SCRUB_POS n) % 4 ≠ 0 then 0 else 1
    let c1 := c.updEcc n fun e => { e with behind := e.behind + due }
    if e.scrubLeft ≠ 0 || c.forceOnly n then
      if e.behind = 1 && due = 1 && !(c.holds Ck.scrub n) then (c1.askNow Ck.scrub n 40).2 else c1
    else if e.behind + due = 0 then c
    else c1.scrubBegin n

/-- The catch-up credit asked again, 1 s after a refusal (R258, R424). -/
def Core.reaskScrub (c : Core) (n : Nat) : Core :=
  if 2 ≤ (c.eccOf n).behind && !(c.holds Ck.scrub n) then (c.askNow Ck.scrub n 40).2 else c

/-- ERASE_MAP by firmware: a second lane, or a changed lane, of a rank is refused (R253). -/
def Core.writeEraseMap (c : Core) (n v : Nat) : Status × Core :=
  let old := c.get (Obj.EccSc.ERASE_MAP n)
  let ok := fun (a b : Nat) => b = 0xFF || a = 0xFF || a = b
  if !(ok (old / 256) (v / 256)) || !(ok (old % 256) (v % 256)) then (.malformed, c)
  else
    let c1 := (c.put (Obj.EccSc.ERASE_MAP n) v).touch
    let clear := if c.trainState n = 2 then 1 else 0
    let c2 := (List.range 20).foldl (fun k i => k.updLane n i fun l =>
      if c1.markedLane n (i / 10) = some (i % 10) then { l with state := 5 }
      else if l.state = 5 then
        { l with state := clear, n := 0, e := 0, l := 0, tr := 0, ones := 0, bursts := 0, moved := false, live := false }
      else l) c1
    (.ok, (c2.checkInsertion n 0).checkInsertion n 1)

/-! ## Row repair (R259 to R263) -/

/-- REPAIR: with its credit held, the soft repair of the first candidate begins: its logical rank issues what is queued, and
holds what comes (R260 steps 1 and 2). `resource` is the die's repair resource indication for the bank group (R259). -/
def Core.repairBegin (c : Core) (n : Nat) (resource : Bool) : Core :=
  match (c.eccOf n).candidates with
  | [] => c
  | k :: rest =>
    if (c.eccOf n).repair.isSome || c.forceOnly n || c.trainState n ≠ 2 || 2 ≤ c.scState n || (c.mcOf n).srAt ≠ 0 then c
    else if !resource || c.unrepairable n k then
      let c1 := (c.updEcc n fun e => { e with candidates := rest }).refuseCandidate n k (k.addr n)
      (if c1.holds Ck.repair n then c1.release Ck.repair n else c1).askRepair n
    else if !(c.holds Ck.repair n) then c
    else
      ((c.updEcc n fun e => { e with
          candidates := rest
          repair := some { k := k, upto := (c.mcOf n).nextId, phase := 0, left := 0, save := [], clean := true,
                           alerted := false } }).stir n).wakeRank n (k.lr / 4)

/-- An entry of the repair list (R263). -/
def repairEntry (kind n : Nat) (k : Candidate) (hours : Nat) : Nat :=
  kind <<< 61 + n <<< 56 + (k.lr / 4) <<< 55 + k.lane <<< 51 + (k.lr % 4) <<< 49 + k.bg <<< 46 + k.ba <<< 44 + k.row <<< 27
  + hours % 2 ^ 27

/-- Record a repair in the first EMPTY entry, and commit the list (R260 step 8, R263). -/
def Core.addRepair (c : Core) (kind n : Nat) (k : Candidate) : Core :=
  let hours := if c.timeValid then c.timeNs / 3600000000000 else 0
  match (List.range 512).find? fun i => field 63 61 (c.get (repairKey i)) == 0 with
  | none => c
  | some i => (c.put (repairKey i) (repairEntry kind n k hours)).touch

/-- The hold of a repair is lifted, and its credit returns (R260 step 8). -/
def Core.repairOver (c : Core) (n : Nat) : Core := (c.updEcc n fun e => { e with repair := none }).release Ck.repair n

/-- A repair has failed: FAILED entry, flags, count, log record and fault (R260 step 7, R261). -/
def Core.repairFailed (c : Core) (n : Nat) (k : Candidate) : Core :=
  (((((c.addRepair 4 n k).flag (Obj.EccSc.FLAGS n) 6).flag Obj.Ecc.FLAGS 2).add (Obj.EccSc.REPAIR_FAILS n) 16 1).eccLog
    10 n k.lane 6 [] (k.addr n) 0).raise (Src.eccRepair n) (ctxLane 11 0 n (k.lr / 4) k.lane)

/-- A repair has held: SOFT, or HARD_PENDING where a start is to make it hard (R260 step 7). -/
def Core.repairHeld (c : Core) (n : Nat) (k : Candidate) : Core :=
  (((c.addRepair (if c.get Obj.Ecc.REPAIR_MODE = 2 then 2 else 1) n k).flag Obj.Ecc.FLAGS 2).add
    (Obj.EccSc.REPAIRS n) 16 1).eccLog 8 n k.lane 6 [] (k.addr n) 0

/-- Change the repair under way. -/
def Core.updRepair (c : Core) (n : Nat) (f : RepairRun → RepairRun) : Core :=
  c.updEcc n fun e => { e with repair := e.repair.map f }

/-- The 128 bursts of the row under repair are asked for (R260 steps 4 and 7). Their class is not stated.
DESIGN CHOICE, safe (log entry 87). -/
def Core.repairReads (c : Core) (n : Nat) (k : Candidate) (phase : Nat) : Core :=
  (List.range 128).foldl (fun c col =>
    c.ownRequest (readReq (unmapHa c.addrMap { k.addr n with col := col }) 2 (.repair col)))
    (c.updRepair n fun x => { x with phase := phase, left := 128 })

/-- The save area goes back to the row (R260 step 6). DESIGN CHOICE, safe (log entry 87). -/
def Core.repairWrites (c : Core) (n : Nat) (x : RepairRun) : Core :=
  (List.range 128).foldl (fun c col =>
    let b := Tbl.get (fun _ => (0, false)) x.save col
    c.ownRequest (writeReq (unmapHa c.addrMap { x.k.addr n with col := col }) 2 b.1 b.2 (.repair col)))
    (c.updRepair n fun x => { x with phase := 4 })

/-- The next step of a repair once the one before it is over (R260, R261): 0 the older writes of the rank have issued, 1 no
refresh is owed, 2 the row is saved, 3 the row is programmed, 4 the save area is written, 5 the row is read back. A suspect
suspends it; a mark on the die's package before step 5 ends it. -/
def Core.repairTurn (c : Core) (n : Nat) : Core :=
  match (c.eccOf n).repair with
  | none => c
  | some x =>
    let m := c.mcOf n
    if c.forceOnly n || m.stopped || m.inReset then c
    else if x.phase ≤ 2 && c.markedLane n (x.k.lr / 4) = some x.k.lane then
      ((c.updMc n fun m => { m with own := m.own.filter fun r => r.owner.requester != 6
                                    flight := m.flight.filter fun r => r.owner.requester != 6 }).repairOver n).askRepair n
    else match x.phase with
      | 0 =>
        if m.writes.any fun r => r.id < x.upto && (c.dramOf r.ha).lr == x.k.lr then c
        else c.updRepair n fun x => { x with phase := 1 }
      | 1 => if m.debt.num x.k.lr = 0 then c.repairReads n x.k 2 else c
      | 2 =>
        if x.left ≠ 0 then c
        else
          (((c.closeRank n x.k.lr).order n (.repairMode x.k.lr x.k.lane true)).order n
            (.repairRow x.k.lr x.k.lane (x.k.addr n).bank x.k.row false)).updRepair n fun x => { x with phase := 3 }
      | 3 => (if x.alerted then c else c.order n (.repairMode x.k.lr x.k.lane false)).repairWrites n x
      | 4 =>
        if m.own.any fun r => r.owner.requester == 6 then c
        else if x.alerted then c.updRepair n fun x => { x with phase := 6 } else c.repairReads n x.k 5
      | 5 => if x.left = 0 then c.updRepair n fun x => { x with phase := 6 } else c
      | _ => c

/-- REPAIR_DONE: the read-back decides the entry (R260 steps 7 and 8). One that an ALERT ended has failed, and its candidate
is tried once more; a mark on the die's package ends it without an entry (R261). DESIGN CHOICE, safe (log entry 87). -/
def Core.repairDone (c : Core) (n lr : Nat) : Core :=
  match (c.eccOf n).repair with
  | none => c
  | some x =>
    if x.phase ≠ 6 || x.k.lr ≠ lr then c
    else
      let c1 := c.repairOver n
      let c2 :=
        if c.markedLane n (x.k.lr / 4) = some x.k.lane then c1
        else if x.alerted then
          let c3 := c1.repairFailed n x.k
          if x.k.retried then c3
          else c3.updEcc n fun e => { e with candidates := { x.k with retried := true } :: e.candidates }
        else if !x.clean then c1.repairFailed n x.k
        else c1.repairHeld n x.k
      c2.askRepair n

end Sys2Proof.Machine
end

