-- ==== Sys2Proof/Machine/Headrace.lean ====
section
/-! DEFINITION. Headrace: cells, lanes, port states, credits, tags and transactions (02_headrace_links.md). -/

namespace Sys2Proof.Machine

/-! ## Cells (R35 to R40) -/

/-! Cell types (R38). -/
abbrev Cy.idle : Nat := 0
abbrev Cy.write : Nat := 1
abbrev Cy.read : Nat := 2
abbrev Cy.stream : Nat := 3
abbrev Cy.trigger : Nat := 4
abbrev Cy.object : Nat := 5
abbrev Cy.response : Nat := 6
abbrev Cy.credit : Nat := 7

/-! Virtual channels (R35). -/
abbrev Vc.cap : Nat := 0
abbrev Vc.blk : Nat := 1
abbrev Vc.ctl : Nat := 2
abbrev Vc.rsp : Nat := 3

/-- Header bytes 0 to 13: all fields but HCRC (R35). -/
def cellHeader (ty : Nat) (x : Cell) : List Byte :=
  toBytes 14 (ty <<< 108 + x.vc.toNat <<< 106 + ofBool x.last <<< 105 + ofBool x.poison <<< 104 + x.tag.toNat <<< 92
    + x.hver.toNat <<< 89 + x.plen.toNat <<< 80 + x.arg.toNat <<< 32 + x.pcrc.toNat)

/-- Does HCRC match (R36)? -/
def hcrcOk (ty : Nat) (x : Cell) : Bool := crc16 (cellHeader ty x) == x.hcrc.toNat

/-- Does PCRC match (R36)? -/
def pcrcOk (x : Cell) : Bool := crc32c x.payload == x.pcrc.toNat

/-- A cell that the hub sends: its payload filled with zeros to 256 bytes, and both CRCs (R35, R36). -/
def mkCell (ty vc : Nat) (last poison : Bool) (tag plen arg : Nat) (data : List Byte) : Cell :=
  let payload := data ++ List.replicate (256 - data.length) 0
  let x : Cell :=
    { vc := BitVec.ofNat 2 vc, last := last, poison := poison, tag := BitVec.ofNat 12 tag, hver := 1,
      plen := BitVec.ofNat 9 plen, arg := BitVec.ofNat 48 arg, pcrc := BitVec.ofNat 32 (crc32c payload), hcrc := 0,
      payload := payload }
  { x with hcrc := BitVec.ofNat 16 (crc16 (cellHeader ty x)) }

/-- A cell read from its 272 bytes, with its TYPE (R35). -/
def cellOf (bs : List Byte) : Nat × Cell :=
  let h := ofBytes (bs.take 16)
  (field 127 124 h,
   { vc := BitVec.ofNat 2 (field 123 122 h), last := bit 121 h, poison := bit 120 h, tag := BitVec.ofNat 12 (field 119 108 h),
     hver := BitVec.ofNat 3 (field 107 105 h), plen := BitVec.ofNat 9 (field 104 96 h), arg := BitVec.ofNat 48 (field 95 48 h),
     pcrc := BitVec.ofNat 32 (field 47 16 h), hcrc := BitVec.ofNat 16 (field 15 0 h), payload := bs.drop 16 })

/-- The virtual channel a type must arrive on (R38, R39). -/
def typeVc (ty : Nat) : Nat := nth [0, 1, 1, 0, 2, 2, 3, 0] ty 0

/-- Does a type take a response (R59)? -/
def takesResponse (ty : Nat) : Bool := ty == 1 || ty == 2 || ty == 4 || ty == 5

/-- PLEN within the type's range (R38, R104). -/
def plenOk (ty : Nat) (x : Cell) : Bool :=
  let n := x.plen.toNat
  match ty with
  | 1 => n = 256 || (x.last && 64 ≤ n && n ≤ 256 && n % 64 = 0)
  | 2 => 1 ≤ n && n ≤ 64
  | 4 => n = 64 || n = 192
  | 5 => 1 ≤ n && n ≤ 256
  | 7 => n = 1
  | _ => n ≤ 256

/-- Reserved bits and reserved values of ARG (R37, R40, R58). -/
def argOk (ty : Nat) (x : Cell) : Bool :=
  let a := x.arg.toNat
  match ty with
  | 3 => field 35 32 a ≤ 2
  | 4 => field 33 0 a = 0
  | 5 => a = 0
  | 6 => field 9 0 a = 0 && field 47 40 a ≤ 9
  | _ => true

/-- The header check of R37. -/
def headerOk (ty : Nat) (x : Cell) : Bool :=
  ty ≤ 7 && x.hver = 1 && x.vc.toNat = typeVc ty && plenOk ty x && argOk ty x

/-- REGION and OFFSET of a WRITE or READ cell (R40). -/
def cellRegion (x : Cell) : Nat := field 47 38 x.arg.toNat
def cellOffset (x : Cell) : Nat := field 37 0 x.arg.toNat
/-- STREAM of a STREAM or TRIGGER cell; MARKS, KIND and SIDX_LO; WINDOW (R40). -/
def cellStream (x : Cell) : Nat := field 47 40 x.arg.toNat
def cellMarks (x : Cell) : Nat := field 39 36 x.arg.toNat
def cellKind (x : Cell) : Nat := field 35 32 x.arg.toNat
def cellSidx (x : Cell) : Nat := field 31 0 x.arg.toNat
def cellWindow (x : Cell) : Nat := field 39 34 x.arg.toNat

/-- ARG of a RESPONSE (R40). -/
def responseArg (status forType gen : Nat) (ready stale : Bool) (cellidx mask : Nat) : Nat :=
  status <<< 40 + forType <<< 36 + (gen % 65536) <<< 20 + ofBool ready <<< 19 + ofBool stale <<< 18 + cellidx <<< 14
    + mask <<< 10

/-! ## Sending (R51, R52) -/

def Core.portState (c : Core) (p : Nat) : Nat := c.get (Obj.Port.PORT_STATE p)

/-- Is a port UP? -/
def Core.portUp (c : Core) (p : Nat) : Bool := c.portState p = 3

/-- Is a port's world SECURE (R49, R333)? Its bit can not change while the port is UP (R334). -/
def Core.portSecure (c : Core) (p : Nat) : Bool := c.bitOf Obj.Sec.PORT_WORLD p

/-- The hub's credit on a virtual channel: (CUM − SENT) mod 4096, once a CREDIT cell has come (R32, R51). -/
def HrPortState.credit (s : HrPortState) (v : Nat) : Nat :=
  if s.creditSeen then (s.cum.num v + 4096 - s.sent.num v % 4096) % 4096 else 0

/-- The 272 bytes of a cell (R35). -/
def cellBytes (ty : Nat) (x : Cell) : List Byte := cellHeader ty x ++ toBytes 2 x.hcrc.toNat ++ x.payload

/-- The IDLE cell that fills a lane (R30, R39). -/
def idleCellBytes : List Byte := cellBytes Cy.idle (mkCell Cy.idle 0 true false 0 0 0 [])

/-- The order at transmit: CREDIT, RSP, CTL, BLK (R52). -/
def sendOrder (ty : Nat) (x : Cell) : Nat := if ty = Cy.credit then 0 else 4 - x.vc.toNat

/-- Cells leave for the lanes: each stands before those that rank after it (R52). -/
def HrPortState.queueCells (s : HrPortState) (l : List (Nat × Cell)) : HrPortState :=
  { s with line := l.foldl (fun a e =>
      let before := fun (q : Nat × Cell) => sendOrder q.1 q.2 ≤ sendOrder e.1 e.2
      a.takeWhile before ++ e :: a.dropWhile before) s.line }

/-- Send the waiting cells of a virtual channel that have credit, in order. -/
def Core.pumpVc (c : Core) (p v : Nat) : Core :=
  let s := c.portOf p
  let mine := s.txq.filter fun e => e.1 == v
  let go := mine.take (s.credit v)
  let c1 := c.setPort p (({ s with
    txq := (s.txq.filter fun e => e.1 != v) ++ mine.drop go.length
    sent := s.sent.setNum v (s.sent.num v + go.length) } : HrPortState).queueCells (go.map fun e => e.2))
  c1.withOut (c1.out ++ go.map fun e => .cell p e.2.1 e.2.2)

/-- RSP leaves before CTL and CTL before BLK (R52). -/
def Core.pump (c : Core) (p : Nat) : Core := ((c.pumpVc p Vc.rsp).pumpVc p Vc.ctl).pumpVc p Vc.blk

/-- Queue a cell and send what has credit; a port that is not UP sends nothing. -/
def Core.send (c : Core) (p v ty : Nat) (x : Cell) : Core :=
  if c.portUp p then (c.updPort p fun s => { s with txq := s.txq ++ [(v, ty, x)] }).pump p else c

/-- A RESPONSE without data (R40, R59). -/
def Core.respond (c : Core) (p tag status forType cellidx : Nat) : Core :=
  c.send p Vc.rsp Cy.response (mkCell Cy.response Vc.rsp true false tag 0
    (responseArg status forType 0 false false cellidx 0) [])

/-- Receive lanes with codeword lock (R40, R64). -/
def Core.rxLanes (c : Core) (p : Nat) : Nat := c.get (Obj.Port.LANE_MASK_RX p)

/-- Are grants withheld on a virtual channel: CAP while the elastic buffer is throttled, CAP and BLK in SAFE (R96, R416)? -/
def Core.grantHeld (c : Core) (v : Nat) : Bool := (v = 0 && c.throttled) || (v < 2 && c.dev = Dv.safe)

/-- A CREDIT cell leaves: cells freed become grants, and it restates the totals (R51, R52). -/
def Core.creditSend (c : Core) (p : Nat) : Core :=
  if !c.portUp p then c
  else
    let c1 := (List.range 4).foldl (fun c v =>
      if c.grantHeld v then c
      else c.updPort p fun s => { s with grant := s.grant.setNum v (s.grant.num v + s.freed.num v),
                                         freed := s.freed.setNum v 0 }) c
    let g := fun v => (c1.portOf p).grant.num v % 4096
    let x := mkCell Cy.credit 0 true false 0 1 (g 0 <<< 36 + g 1 <<< 24 + g 2 <<< 12 + g 3) [BitVec.ofNat 8 (c.rxLanes p)]
    (c1.updPort p fun s => s.queueCells [(Cy.credit, x)]).emit (.cell p Cy.credit x)

/-- Free n cells of a virtual channel; with 32 freed since the last CREDIT cell the next one leaves (R52).
DEDUCED, unsafe (log entry 41). -/
def Core.freeCells (c : Core) (p v n : Nat) : Core :=
  let c1 := c.updPort p fun s => { s with freed := s.freed.setNum v (s.freed.num v + n) }
  if 32 ≤ (c1.portOf p).freed.num v && !(c1.grantHeld v) then c1.creditSend p else c1

/-! ## Refusals (R59, R335) -/

/-- MALFORMED_SEEN and its count (R59, R64). -/
def Core.sawMalformed (c : Core) (p : Nat) : Core := (c.flag (Obj.Port.FLAGS p) 6).inc (Obj.Port.MALFORMED_COUNT p)

/-- A refusal with DENIED_WORLD is counted and raised (R335). -/
def Core.denied (c : Core) : Core :=
  ((c.inc Obj.Sec.DENIED_COUNT).flag Obj.Sec.FLAGS 0).raise Src.secDenied (ctxNone 0 0)

/-- Answer a request that a rule refuses or Weir has decided. -/
def Core.answer (c : Core) (p tag forType cellidx : Nat) (s : Status) : Core :=
  let c1 := if s = .malformed then c.sawMalformed p else if s = .deniedWorld then c.denied else c
  c1.respond p tag s.code forType cellidx

/-- A payload CRC failure (R59). DEDUCED, unsafe (log entry 42). -/
def Core.pcrcFail (c : Core) (p tag : Nat) (src : Bool) : Core :=
  let c1 := (c.flag (Obj.Port.FLAGS p) 5).inc (Obj.Port.PCRC_ERRORS p)
  if src then c1.raise (Src.hrPcrc p) (ctxPortTag p tag) else c1

/-! ## Tags (R55) -/

/-- Is a tag in use on a port? -/
def HrPortState.tagUsed (s : HrPortState) (tag : Nat) : Bool :=
  (s.readTxns.any fun t => t.tag == tag) || (s.writeTxns.any fun t => t.tag == tag)
  || (s.held.any fun o => match o with | .write t => t.tag == tag && t.fate != .silent | .read _ => false)
  || (s.partialWrite.any fun t => t.tag == tag)
  || (s.txq.any fun e => e.1 == Vc.rsp && e.2.2.tag.toNat == tag)

/-! ## Drain jobs lose their port (R149, R156) -/

/-- Jobs in STREAM or PUSH mode on a port. -/
def Core.jobsOn (c : Core) (p : Nat) : List Nat :=
  (List.range 32).filter fun j => c.get (Obj.Job.MODE j) ≠ 2 && c.get (Obj.Job.PORT j) = p

/-! ## Port states (R32 to R34, R53) -/

/-- Does step 1 of R32 run: the port is enabled and the hub has power? -/
def Core.portWanted (c : Core) (p : Nat) : Bool := c.bitOf Obj.Hr.PORT_ENABLE p && c.dev ≠ Dv.off && c.dev ≠ Dv.ramp

/-- A lane mask of a port; a change sets LANE_CHANGE (R64, R65). -/
def Core.putLanes (c : Core) (p k m : Nat) : Core := if m = c.get k then c else (c.flag (Obj.Port.FLAGS p) 10).put k m

/-- What of a port's state outlives its time UP: WRITE transactions that passed every check are completed without a
response (R34). -/
def HrPortState.over (s : HrPortState) : HrPortState :=
  { HrPortState.init with
    ups := s.ups + 1
    held := s.held.filterMap fun o => match o with
      | .write t => some (.write { t with fate := .silent })
      | .read _ => none }

/-- Bring-up starts at step 1, or the port is DOWN (R32). The locks that end here set no LANE_DOWN.
DEDUCED, unsafe (log entry 43). -/
def Core.portBegin (c : Core) (p : Nat) : Core :=
  ((((c.updPort p HrPortState.over).put (Obj.Port.PORT_STATE p) (if c.portWanted p then 1 else 0)).putLanes p
    (Obj.Port.LANE_MASK_TX p) 0).putLanes p (Obj.Port.LANE_MASK_RX p) 0)

/-- A port leaves UP: transactions end, tags are free, its LOA session closes and its jobs halt (R34, R156, R365). -/
def Core.leaveUp (c : Core) (p : Nat) : Core :=
  let c1 := (c.portBegin p).updSession (0xFF00 + p) fun _ => Session.closed
  (c1.jobsOn p).foldl (fun c j => c.haltJob j 1) c1

/-- A port restarts; the quiet window of R315 opens. `before` is EVENT_SEQ before the event that caused it.
DEDUCED, unsafe (log entry 43). -/
def Core.restartPort (c : Core) (p before : Nat) : Core :=
  if c.portUp p then (c.openWindow 3 p (if before < c.fc.seq then c.fc.seq else 0)).leaveUp p else c.portBegin p

/-- The port enters UP: counts restart, the first CREDIT cell grants the buffers, and its LOA session opens (R32, R50,
R365). DEDUCED, unsafe (log entry 39). -/
def Core.enterUp (c : Core) (p : Nat) : Core :=
  let c1 := (c.updPort p fun s =>
    { s with grant := [(0, 512), (1, 256), (2, 64), (3, 64)], recv := [], freed := [], cum := [], sent := [], txq := [],
             creditSeen := false, readTxns := [], writeTxns := [], partialWrite := none }).put
    (Obj.Port.PORT_STATE p) 3
  (c1.updSession (0xFF00 + p) fun _ => { Session.closed with isOpen := true }).creditSend p

def Core.hrLane (c : Core) (p l : Nat) : HrLaneState := Tbl.get (fun _ => HrLaneState.init) (c.portOf p).lanes l

def Core.updHrLane (c : Core) (p l : Nat) (f : HrLaneState → HrLaneState) : Core :=
  c.updPort p fun s => { s with lanes := Tbl.upd (fun _ => HrLaneState.init) s.lanes l f }

/-- The receive lane set of a port follows its lanes (R64). DEDUCED, unsafe (log entry 69). -/
def Core.showLanes (c : Core) (p : Nat) : Core :=
  c.putLanes p (Obj.Port.LANE_MASK_RX p) (maskOf 4 fun l => (c.hrLane p l).locked)

/-- Is some lane aligned: locked and within the skew limit (R31, R32)? -/
def Core.anyAligned (c : Core) (p : Nat) : Bool :=
  (List.range 4).any fun l => (c.hrLane p l).locked && !(c.hrLane p l).lost

/-- A port that is UP and has no aligned lane left restarts (R33). -/
def Core.checkAligned (c : Core) (p : Nat) : Core :=
  if c.portUp p && !(c.anyAligned p) then c.restartPort p c.fc.seq else c

/-! ## The order of cells (R30, R31) -/

/-- Does a lane deliver cells: it holds lock, keeps the skew limit, and the sender uses it? -/
def HrLaneState.active (s : HrLaneState) : Bool := s.locked && !s.lost && s.used

/-- The first cell that waits, in the order of the slots and of the lanes in each. -/
def firstCell (l : List (Nat × Nat × List Byte)) : Option (Nat × Nat × List Byte) :=
  l.foldl (fun a e => match a with
    | none => some e
    | some b => if e.1 < b.1 || (e.1 = b.1 && e.2.1 < b.2.1) then some e else some b) none

/-- May a cell leave: every active lane has passed its place in the rotation? -/
def Core.mayDeliver (c : Core) (p : Nat) (e : Nat × Nat × List Byte) : Bool :=
  (List.range 4).all fun l =>
    let s := c.hrLane p l
    !s.active || e.1 < s.slot || (e.1 = s.slot && e.2.1 < l)

/-- The cells that may leave by the rotation over the active lanes, in order, and those that wait (R30, R31). -/
def Core.rotation (c : Core) (p : Nat) : Nat → List (Nat × Nat × List Byte) → List (List Byte) × List (Nat × Nat × List Byte)
  | 0, l => ([], l)
  | n + 1, l =>
    match firstCell l with
    | none => ([], l)
    | some e => if c.mayDeliver p e then let r := c.rotation p n (l.filter fun q => q.1 != e.1 || q.2.1 != e.2.1); (e.2.2 :: r.1, r.2)
                else ([], l)

/-! ## What lanes send (R28, R30) -/

/-- The lanes that send, and those of them that carry cells. -/
def HrPortState.sendLanes (s : HrPortState) : List Nat :=
  (List.range 4).filter fun l => (Tbl.get (fun _ => HrLaneState.init) s.lanes l).txTrained

/-- The bytes of a lane's running cell. -/
def HrPortState.carryOf (s : HrPortState) (l : Nat) : List Byte :=
  Tbl.get (fun _ => idleCellBytes.drop (272 - s.txLeft)) s.carry l

/-- The message of a codeword (R28). -/
def codewordMsg (fco lane txmask seq : Nat) (stream : List Byte) : BitVec 5140 :=
  BitVec.ofNat 5140 (fco <<< 5130 + lane <<< 5128 + txmask <<< 5124 + seq <<< 5120 + ofBytes stream)

/-- One codeword period of a port: cells take the slots that begin in it on the active lanes in ascending order, IDLE cells
the rest, and each trained lane sends 640 bytes (R28, R30, R52). -/
def Core.sendCodeword (c : Core) (p : Nat) : Core :=
  let s := c.portOf p
  let lanes := s.sendLanes
  if lanes.isEmpty then c
  else
    let mask := c.get (Obj.Port.LANE_MASK_TX p)
    let active := lanes.filter mask.testBit
    let slots := (911 - s.txLeft) / 272
    let go := s.line.take (slots * active.length)
    let cellAt := fun (slot l : Nat) =>
      match active.findIdx? (· == l) with
      | some i => (match go[slot * active.length + i]? with | some e => cellBytes e.1 e.2 | none => idleCellBytes)
      | none => idleCellBytes
    let stream := fun l => s.carryOf l ++ ((List.range slots).map fun k => cellAt k l).flatten
    let c1 := lanes.foldl (fun c l => c.emit (.codeword p l (codewordMsg s.txLeft l mask s.txSeq ((stream l).take 640)))) c
    c1.setPort p { s with
      txSeq := (s.txSeq + 1) % 16, line := s.line.drop go.length, txLeft := s.txLeft + 272 * slots - 640,
      carry := lanes.map fun l => (l, (stream l).drop 640) }

/-- Codeword periods of 51.2 ns begun by a hub tick (R31). -/
def codewordPeriods (tick : Nat) : Nat := 5 * tick / 128

/-- At a tick in which a codeword period begins, every port sends. -/
def Core.sendCodewords (c : Core) : Core :=
  if codewordPeriods (c.tick - 1) < codewordPeriods c.tick then c.each 8 fun c p => c.sendCodeword p else c

/-! ## Lanes (R29, R32, R33) -/

/-- The lanes that have completed training may carry cells: at once while the port is ALIGNING, else from the next codeword
with SEQ = 0 (R32, R33). -/
def Core.wantLanes (c : Core) (p m : Nat) : Core :=
  let c1 := c.updPort p fun s => { s with wantTx := m }
  if c.portState p = 2 then c1.putLanes p (Obj.Port.LANE_MASK_TX p) m else c1

/-- A lane loses lock (R29, R33). -/
def Core.loseLock (c : Core) (p l : Nat) : Core :=
  let c1 := (c.updHrLane p l fun s => { s with locked := false, good := 0, bad := 0, fcoBad := 0, part := none }).showLanes p
  (c1.flag (Obj.Port.FLAGS p) l).checkAligned p

/-- LANE_TRAINING_RESTART: a direction of a lane starts link training again; it carries no cells and holds no lock (R32).
DEDUCED, unsafe (log entry 39). -/
def Core.laneRestart (c : Core) (p l : Nat) (d : LaneDir) : Core :=
  if c.portState p = 0 then c
  else
    let c1 := c.inc (Obj.Port.LANE_RETRAINS p)
    match d with
    | .transmit => (c1.updHrLane p l fun s => { s with txTrained := false }).wantLanes p (setBitTo l false (c.portOf p).wantTx)
    | .receive =>
      let c2 := c1.updHrLane p l fun s => { s with trained := false }
      if (c.hrLane p l).locked then c2.loseLock p l else c2

/-- LANE_TRAINED: a direction of a lane completes the start-up protocol (R32, R33). DEDUCED, unsafe (log entry 39). -/
def Core.laneTrained (c : Core) (p l : Nat) (d : LaneDir) : Core :=
  if c.portState p = 0 then c
  else
    match d with
    | .transmit => (c.updHrLane p l fun s => { s with txTrained := true }).wantLanes p (setBitTo l true (c.portOf p).wantTx)
    | .receive => c.updHrLane p l fun s => { s with trained := true }

/-- TXMASK_UPDATE: the codeword with SEQ = 0 comes, the mask takes effect, and a port without a transmit lane restarts
(R33). DEDUCED, unsafe (log entry 39). -/
def Core.txmaskUpdate (c : Core) (p : Nat) : Core :=
  let m := (c.portOf p).wantTx
  if !c.portUp p || m = c.get (Obj.Port.LANE_MASK_TX p) then c
  else
    let c1 := (c.updPort p fun s => { s with txSeq := 0 }).putLanes p (Obj.Port.LANE_MASK_TX p) m
    if m = 0 then c1.restartPort p c.fc.seq else c1

/-- KEEPALIVE_LOST (R53). DEDUCED, unsafe (log entry 43). -/
def Core.keepaliveLost (c : Core) (p : Nat) : Core :=
  if !c.portUp p then c
  else ((c.flag (Obj.Port.FLAGS p) 11).raise (Src.hrKeepalive p) (ctxPortTag p 0)).restartPort p c.fc.seq

/-! ## Codewords (R28 to R31, R60) -/

/-- The cells of a codeword's 640 bytes after what is left of the running cell: whole cells, and the rest. -/
def takeCells : Nat → List Byte → List (List Byte) × List Byte
  | 0, bs => ([], bs)
  | n + 1, bs =>
    if bs.length < 272 then ([], bs) else let r := takeCells n (bs.drop 272); (bs.take 272 :: r.1, r.2)

/-- An uncorrectable codeword: the running cell and those of the codeword are lost (R29, R60). -/
def Core.badCodeword (c : Core) (p l : Nat) : Core :=
  let s := c.hrLane p l
  let recent := s.uncorr.filter (fun t => c.tick < t + 500000000) ++ [c.tick]
  let c1 := c.updHrLane p l fun s =>
    { s with good := 0, bad := s.bad + 1, fcoBad := 0, phase := (s.phase + 640) % 272, part := none, uncorr := recent,
             count := s.count + 1, slot := 3 * (s.count + 2) }
  let c2 := c1.inc (Obj.Port.FEC_UNCORRECTABLE p)
  let c3 := if recent.length = 17 then c2.raise (Src.hrFecUncorr p) (ctxPortTag p 0) else c2
  if s.locked && 8 ≤ s.bad + 1 then c3.loseLock p l else c3

/-! ## WRITE transactions (R41, R42, R59) -/

/-- Change the partial transaction's fate, if it is still good. -/
def WriteTxn.fail (t : WriteTxn) (f : WriteFate) : WriteTxn := if t.fate = .good then { t with fate := f } else t

/-- Subchannels that the blocks of a transaction go to. -/
def Core.writeScs (c : Core) (t : WriteTxn) : List Nat :=
  ((List.range t.blocks.length).map fun i => c.scOf (c.regionHa t.region + t.off + i))

/-- Issue the bursts of a transaction to the controllers (R41). One whose port has left UP since is not answered (R34). -/
def Core.issueWrite (c : Core) (p : Nat) (t : WriteTxn) : Core :=
  let s := c.portOf p
  let c1 := if t.fate = .silent then c else c.setPort p { s with writeTxns := s.writeTxns ++
    [{ tag := t.tag, cells := t.cells, left := t.blocks.length, retry := false }] }
  let o := if t.fate = .silent then Owner.firmware else .hrWrite p t.tag s.ups
  (t.blocks.foldl (fun (a : Core × Nat) b =>
    (a.1.request (writeReq (c.regionHa t.region + t.off + a.2) 3 b.1 b.2 o), a.2 + 1)) (c1, 0)).1

/-- A transaction with a block on a subchannel out of service past its hold time is answered with RETRY (R421). -/
def Core.retryWrite (c : Core) (p : Nat) (t : WriteTxn) : Core :=
  let n := ((c.writeScs t).filter fun sc => c.scOut sc && (c.mcOf sc).holdOver).length
  let c1 := c.add Obj.ScMask.OFFLINE_DROPS 32 n
  if t.fate = .silent then c1 else (c1.freeCells p Vc.blk t.cells).answer p t.tag Cy.write 0 .retry

/-- Apply a checked transaction: at once, later (R421), or not. -/
def Core.applyWrite (c : Core) (p : Nat) (t : WriteTxn) : Core :=
  let scs := c.writeScs t
  if scs.any fun sc => c.scOut sc && (c.mcOf sc).holdOver then c.retryWrite p t
  else if (scs.any c.scOut) || !((c.portOf p).held.isEmpty) then
    c.updPort p fun s => { s with held := s.held ++ [.write t] }
  else c.issueWrite p t

/-- The checks of a READ or WRITE against its region (R37, R59): n blocks from an offset. -/
def Core.regionCheck (c : Core) (p r off n : Nat) : Option Status :=
  if !c.dataServed then some .retry
  else if c.get (Obj.Region.PERSONALITY r) = 0 || !(c.bitOf (Obj.Region.OWNER_MASK r) p) then some .noRegion
  else if c.get (Obj.Region.WORLD r) = 1 && !(c.portSecure p) then some .deniedWorld
  else if c.get (Obj.Region.SIZE_MIB r) * 2 ^ 14 < off + n then some .noRegion
  else none

/-- The final cell of a transaction has arrived (R41, R59). DEDUCED, unsafe (log entry 42). -/
def Core.endWrite (c : Core) (p : Nat) (t : WriteTxn) : Core :=
  let c1 := c.updPort p fun s => { s with partialWrite := none }
  let c2 := c1.freeCells p Vc.blk t.cells
  match t.fate with
  | .silent => c2
  | .answer s i => c2.respond p t.tag s.code Cy.write i
  | .good =>
    match c.regionCheck p t.region t.off t.blocks.length with
    | some s => c2.answer p t.tag Cy.write 0 s
    | none =>
      if c.get (Obj.Region.PERSONALITY t.region) ≠ 1 then c2.answer p t.tag Cy.write 0 .malformed
      else c1.applyWrite p t

/-- Another BLK cell comes between the cells of a transaction: the partial transaction is discarded (R59).
DEDUCED, unsafe (log entry 42). -/
def Core.intrude (c : Core) (p : Nat) : Core :=
  match (c.portOf p).partialWrite with
  | none => c
  | some t =>
    if t.fate = .good then (c.sawMalformed p).endWrite p { t with fate := .answer .malformed 0 } else c.endWrite p t

/-- Store the partial transaction, or end it at its final cell. -/
def Core.keepWrite (c : Core) (p : Nat) (t : WriteTxn) (last : Bool) : Core :=
  if last then c.endWrite p t else c.updPort p fun s => { s with partialWrite := some t }

/-- Does a cell continue the partial transaction? -/
def Core.continues (c : Core) (p ty : Nat) (x : Cell) : Bool :=
  ty = Cy.write && x.vc.toNat = Vc.blk && (c.portOf p).partialWrite.any fun t => t.tag == x.tag.toNat

/-- A WRITE cell that a check refuses: its transaction fails (R59). `counted` says that the cell took credit. -/
def Core.refuseWrite (c : Core) (p : Nat) (x : Cell) (counted : Bool) : Core :=
  let k := ofBool counted
  match (c.portOf p).partialWrite with
  | some t =>
    if t.tag = x.tag.toNat then
      c.keepWrite p { t.fail (.answer .malformed 0) with cells := t.cells + k } x.last
    else c
  | none =>
    c.keepWrite p { tag := x.tag.toNat, region := cellRegion x, off := cellOffset x, blocks := [], cells := k,
                    fate := .answer .malformed 0 } x.last

/-- The blocks of a WRITE cell with their poison mark. -/
def cellBlocks (x : Cell) : List (Nat × Bool) :=
  (List.range (x.plen.toNat / 64)).map fun i => (ofBytes (slice (64 * i) 64 x.payload), x.poison)

/-- A WRITE cell that has passed header and credit checks (R37, R41, R55, R59). DEDUCED, unsafe (log entry 42). -/
def Core.writeCell (c : Core) (p : Nat) (x : Cell) : Core :=
  let s := c.portOf p
  let tag := x.tag.toNat
  match s.partialWrite with
  | some t =>
    let wrong := cellRegion x ≠ t.region || cellOffset x ≠ t.off + 4 * t.cells || 15 < t.cells || (t.cells = 15 && !x.last)
    let c1 := if wrong && t.fate = .good then c.sawMalformed p else c
    let c2 := if !wrong && !(pcrcOk x) then c1.pcrcFail p tag true else c1
    let t1 := if wrong then t.fail (.answer .malformed 0)
      else if !(pcrcOk x) then t.fail (.answer .retry (t.cells % 16)) else t
    c2.keepWrite p { t1 with cells := t.cells + 1, blocks := t.blocks ++ cellBlocks x } x.last
  | none =>
    let t : WriteTxn := { tag := tag, region := cellRegion x, off := cellOffset x, blocks := cellBlocks x, cells := 1,
                          fate := .good }
    if s.tagUsed tag then (c.flag (Obj.Port.FLAGS p) 8).keepWrite p { t with fate := .silent } x.last
    else if !(pcrcOk x) then (c.pcrcFail p tag true).keepWrite p { t with fate := .answer .retry 0 } x.last
    else c.keepWrite p t x.last

/-- WRITE_RESPONSE: the data is accepted, and the RESPONSE leaves (R41). -/
def Core.writeResponse (c : Core) (p tag : Nat) : Core :=
  match (c.portOf p).writeTxns.find? fun t => t.tag == tag with
  | none => c
  | some t =>
    if t.left ≠ 0 then c
    else
      ((c.updPort p fun s => { s with writeTxns := s.writeTxns.filter fun u => u.tag != tag }).freeCells p Vc.blk
        t.cells).respond p tag (if t.retry then 3 else 0) Cy.write 0

/-! ## READ (R43, R44, R61 to R63, R447) -/

/-- Where a block of a READ takes its data from: its offset in the region, none for zeros; and GEN, READY, STALE and
NOT_READY of its slot. -/
structure BlockSource where
  at_ : Option Nat
  gen : Nat
  ready : Bool
  stale : Bool
  notReady : Bool
  deriving DecidableEq, Repr

/-- The source of the block at an offset of a region (R61, R63, R142). -/
def Core.blockSource (c : Core) (r off : Nat) : BlockSource :=
  let per := c.get (Obj.Region.PERSONALITY r)
  let x := c.get (Obj.Region.CONTEXT r)
  let sb := c.get (Obj.Region.SLOT_BYTES r) / 64
  if (per = 3 || per = 4) && x ≠ 0xFFFF && off < c.get (Obj.Region.NFRAMES_BOUND r) * sb then
    let s := off / sb
    let g := c.ctxOf x
    if !(c.slotOpen x s) then
      { at_ := some off, gen := field 159 144 (g.closed.num s), ready := true, stale := false, notReady := false }
    else
      match g.newest with
      | some k => { at_ := some (k * sb + off % sb), gen := field 159 144 (g.closed.num k), ready := false, stale := true,
                    notReady := true }
      | none => { at_ := none, gen := 0, ready := false, stale := true, notReady := true }
  else { at_ := some off, gen := 0, ready := true, stale := false, notReady := false }

/-- The sources of a READ's blocks. -/
def Core.readSources (c : Core) (r off n : Nat) : List BlockSource :=
  (List.range n).map fun i => c.blockSource r (off + i)

/-- Issue the 64-byte reads of a transaction. -/
def Core.issueRead (c : Core) (p : Nat) (t : ReadTxn) : Core :=
  (t.blocks.foldl (fun (a : Core × Nat) b =>
    (match b.src with
     | some o => a.1.request (readReq (c.regionHa t.region + o) 3 (.hrRead p t.tag a.2 (c.portOf p).ups))
     | none => a.1, a.2 + 1)) (c, 0)).1

/-- A leased READ that finds a subchannel in a low-power state (R161). -/
def Core.countSlowWakes (c : Core) (p r off n : Nat) : Core :=
  let slow := (List.range n).any fun i => let s := c.scState (c.scOf (c.regionHa r + off + i)); s = 1 || s = 2
  if slow then (List.range 16).foldl (fun c l =>
    if c.get (Obj.Lease.STATE l) = 1 && c.get (Obj.Lease.REGION l) = r && c.get (Obj.Lease.PORT l) = p then
      c.inc (Obj.Lease.SLOW_WAKES l) else c) c
  else c

/-- Does a READ overlap a WRITE transaction that is held (R56)? -/
def Core.behindWrite (c : Core) (p r off n : Nat) : Bool :=
  let a := c.regionHa r + off
  (c.portOf p).held.any fun o => match o with
    | .write t => let b := c.regionHa t.region + t.off; a < b + t.blocks.length && b < a + n
    | .read _ => false

/-- A READ cell that has passed header and credit checks. -/
def Core.readCell (c : Core) (p : Nat) (x : Cell) : Core :=
  let tag := x.tag.toNat
  let r := cellRegion x
  let off := cellOffset x
  let n := x.plen.toNat
  if (c.portOf p).tagUsed tag then c.flag (Obj.Port.FLAGS p) 8
  else if !(pcrcOk x) then (c.pcrcFail p tag true).respond p tag 3 Cy.read 0
  else
    match c.regionCheck p r off n with
    | some s => c.answer p tag Cy.read 0 s
    | none =>
      let l := c.readSources r off n
      let t : ReadTxn := { tag := tag, region := r, off := off, sent := 0, blocks := l.map fun b =>
        { src := b.at_, got := if b.at_.isNone then some (0, 0) else none, gen := b.gen, ready := b.ready, stale := b.stale,
          notReady := b.notReady } }
      let wait := c.behindWrite p r off n
      let c1 := (c.countSlowWakes p r off n).updPort p fun s =>
        { s with readTxns := s.readTxns ++ [t], held := if wait then s.held ++ [.read tag] else s.held }
      if wait then c1 else c1.issueRead p t

/-- Severity of a block's outcome: 3 UNCORRECTABLE, 2 POISONED, 1 NOT_READY, 0 OK (R44, R447). -/
def ReadBlock.rank (b : ReadBlock) : Nat :=
  match b.got with
  | some (_, 2) => 3
  | some (_, 1) => 2
  | _ => if b.notReady then 1 else 0

/-- The RESPONSE cell of at most four blocks (R43, R44, R447). -/
def readCellOf (tag idx : Nat) (last : Bool) (bs : List ReadBlock) : Cell :=
  let top := bs.foldl (fun a b => max a b.rank) 0
  let mask := maskOf 4 fun i => match bs[i]? with | some b => b.rank == top | none => false
  let f := bs.find? fun b => b.rank == top
  let status := nth [0, 1, 4, 5] top 0
  mkCell Cy.response Vc.rsp last (2 ≤ top) tag (64 * bs.length)
    (responseArg status Cy.read (match f with | some b => b.gen | none => 0)
      (match f with | some b => b.ready | none => false) (match f with | some b => b.stale | none => false) idx mask)
    ((bs.map fun b => toBytes 64 (match b.got with | some d => d.1 | none => 0)).flatten)

/-- READ_RESPONSE: the next cell of a READ leaves once its blocks are in (R43). -/
def Core.readResponse (c : Core) (p tag : Nat) : Core :=
  match (c.portOf p).readTxns.find? fun t => t.tag == tag with
  | none => c
  | some t =>
    let bs := slice (4 * t.sent) 4 t.blocks
    if bs.any fun b => b.got.isNone then c
    else
      let last := t.blocks.length ≤ 4 * t.sent + 4
      let after := fun (l : List ReadTxn) =>
        if last then l.filter fun u => u.tag != tag
        else l.map fun u => if u.tag = tag then { u with sent := u.sent + 1 } else u
      let c1 := c.updPort p fun s => { s with readTxns := after s.readTxns }
      c1.send p Vc.rsp Cy.response (readCellOf tag t.sent last bs)

/-- What a port holds goes on in its order of arrival: a WRITE transaction when its subchannels are back, or answered with
RETRY; a READ once the WRITEs before it have gone (R56, R57, R421). DEDUCED, unsafe (log entry 44). -/
def Core.releaseHeldOps (c : Core) (p : Nat) : List HeldOp → Core
  | [] => c.updPort p fun s => { s with held := [] }
  | .read tag :: rest =>
    let c1 := match (c.portOf p).readTxns.find? fun t => t.tag == tag with | some t => c.issueRead p t | none => c
    c1.releaseHeldOps p rest
  | .write t :: rest =>
    let scs := c.writeScs t
    if scs.any fun sc => c.scOut sc && (c.mcOf sc).holdOver then (c.retryWrite p t).releaseHeldOps p rest
    else if scs.any c.scOut then c.updPort p fun s => { s with held := .write t :: rest }
    else (c.issueWrite p t).releaseHeldOps p rest

/-- Every port's held transactions are looked at again. DEDUCED, unsafe (log entry 44). -/
def Core.releaseAllWrites (c : Core) : Core :=
  c.each 8 fun c p => if (c.portOf p).held.isEmpty then c else c.releaseHeldOps p (c.portOf p).held

/-! ## Reception (R37, R51, R59) -/

/-- Is the receive buffer of a virtual channel without credit (R51)? -/
def HrPortState.noCredit (s : HrPortState) (v : Nat) : Bool := (s.grant.num v + 4096 - s.recv.num v % 4096) % 4096 == 0

/-- A cell takes its place in a receive buffer. DEDUCED, unsafe (log entry 41). -/
def Core.tookCredit (c : Core) (p v : Nat) : Core :=
  c.updPort p fun s => { s with recv := s.recv.setNum v (s.recv.num v + 1) }

/-- Is an OBJECT cell the acknowledgement of a NOTIFY: OP NOTIFY with REPLY = 1 (R55)? -/
def isNotifyAck (x : Cell) : Bool := (ofBytes (x.payload.take 1)) % 16 = 8 && (ofBytes (slice 2 1 x.payload)).testBit 7

/-- A cell other than a WRITE is refused with MALFORMED, if its type takes a response; the acknowledgement of a NOTIFY
takes none (R55, R59). -/
def Core.refuseOther (c : Core) (p ty : Nat) (x : Cell) : Core :=
  if takesResponse ty && !(ty = Cy.object && isNotifyAck x) then c.respond p x.tag.toNat 9 ty 0 else c

/-- A WRITE cell is refused by its header: on BLK, or on another channel with the tag of the transaction under way, its
transaction is discarded and answered once; else it is answered alone (R59). -/
def Core.refuseWriteCell (c : Core) (p : Nat) (x : Cell) (counted : Bool) : Core :=
  match (c.portOf p).partialWrite with
  | some t => if t.tag = x.tag.toNat then c.refuseWrite p x counted else c.respond p x.tag.toNat 9 Cy.write 0
  | none => c.refuseWrite p x counted

/-- A cell refused by its header (R59): it is counted, and answered if its type takes a response.
DEDUCED, unsafe (log entry 40). -/
def Core.refuseHeader (c : Core) (p ty : Nat) (x : Cell) : Core :=
  let v := x.vc.toNat
  let counted := ty ≠ Cy.credit && !((c.portOf p).noCredit v)
  let c1 := c.sawMalformed p
  let c2 := if counted then c1.tookCredit p v else c1
  if ty = Cy.write && v = Vc.blk then c2.refuseWriteCell p x counted
  else
    let c3 := if counted then c2.freeCells p v 1 else c2
    if ty = Cy.write then c3.refuseWriteCell p x false else c3.refuseOther p ty x

/-- A cell without credit (R59). DEDUCED, unsafe (log entry 41). -/
def Core.refuseCredit (c : Core) (p ty : Nat) (x : Cell) : Core :=
  let c1 := ((c.flag (Obj.Port.FLAGS p) 7).inc (Obj.Port.CREDIT_OVERFLOWS p)).raise (Src.hrCreditOvf p)
    (ctxPortTag p x.tag.toNat)
  if ty = Cy.write then c1.refuseWriteCell p x false else c1.refuseOther p ty x

/-- A cell arrives: HCRC, header and credit in the order of R37, then `k` for the rest. `k` frees the cell's place. -/
def Core.receive (c : Core) (p ty : Nat) (x : Cell) (k : Core → Core) : Core :=
  if !c.portUp p then c
  else if !(hcrcOk ty x) then
    ((c.flag (Obj.Port.FLAGS p) 4).inc (Obj.Port.HCRC_ERRORS p)).raise (Src.hrHcrc p) (ctxPortTag p x.tag.toNat)
  else if ty = Cy.idle then c
  else
    let c1 := if x.vc.toNat = Vc.blk && !(c.continues p ty x) && ty ≠ Cy.credit then c.intrude p else c
    if !(headerOk ty x) then c1.refuseHeader p ty x
    else if ty = Cy.credit then k c1
    else if (c1.portOf p).noCredit (typeVc ty) then c1.refuseCredit p ty x
    else k (c1.tookCredit p (typeVc ty))

/-- A CREDIT cell (R33, R51, R53). A lane whose bit of RX_LANES has fallen leaves TXMASK. A cell whose payload fails its CRC
is discarded at no cost, with PCRC_ERR and its count and no event. DESIGN CHOICE, unsafe (log entry 75). -/
def Core.creditCell (c : Core) (p : Nat) (x : Cell) : Core :=
  c.receive p Cy.credit x fun c =>
    if !(pcrcOk x) then c.pcrcFail p 0 false
    else
      let a := x.arg.toNat
      let rx := (ofBytes (x.payload.take 1)) % 16
      (c.updPort p fun s =>
        { s with creditSeen := true, farRx := rx,
                 wantTx := maskOf 4 fun l => s.wantTx.testBit l && !(s.farRx.testBit l && !(rx.testBit l)),
                 cum := (((s.cum.setNum 0 (field 47 36 a)).setNum 1 (field 35 24 a)).setNum 2 (field 23 12 a)).setNum 3 (field 11 0 a) }).pump p

/-- An IDLE cell: only its HCRC is checked (R39). -/
def Core.idleCell (c : Core) (p : Nat) (x : Cell) : Core := c.receive p Cy.idle x id

/-- A READ cell (R43). -/
def Core.readIn (c : Core) (p : Nat) (x : Cell) : Core :=
  c.receive p Cy.read x fun c => (c.freeCells p Vc.blk 1).readCell p x

/-- A WRITE cell (R41). -/
def Core.writeIn (c : Core) (p : Nat) (x : Cell) : Core := c.receive p Cy.write x fun c => c.writeCell p x

/-- A STREAM cell (R45, R68): samples, disclosure, or a RECORD that is refused. Bound means that the stream names the port;
a stream in DISABLED or FLUSHING counts its cells in DISCARDED (R73), and so does every stream while the device takes no
data (R407). -/
def Core.streamIn (c : Core) (p : Nat) (x : Cell) : Core :=
  c.receive p Cy.stream x fun c0 =>
    let c := c0.freeCells p Vc.cap 1
    let st := cellStream x
    let bad := !(pcrcOk x)
    let c1 := if bad then c.pcrcFail p x.tag.toNat true else c
    if c.get (Obj.Stream.PORT st) ≠ p then c1.inc (Obj.Port.UNBOUND p)
    else if !c.inService && cellKind x ≤ 1 then c1.discardCell st
    else
      match cellKind x with
      | 0 => c1.samplesCell st (cellSidx x) (cellMarks x) x.plen.toNat bad x.payload fun c => c.sawMalformed p
      | 1 => c1.disclosureCell st x.plen.toNat bad x.payload fun c => c.sawMalformed p
      | _ => (c1.flag (Obj.Stream.FLAGS st) 5).discardCell st

/-! ## TRIGGER (R46, R104, R108, R407) -/

/-- The delays of a trigger record (R104). -/
def triggerDelays (x : Cell) : List Nat := (List.range 16).map fun k => ofBytes (slice (64 + 8 * k) 8 x.payload)

/-- Does a TRIGGER cell's record break a rule of R104? -/
def triggerBad (x : Cell) : Bool :=
  let v := ofBytes (x.payload.take 64)
  let n := x.plen.toNat
  v.testBit 383 != (n = 192) || v % 2 ^ 383 ≠ 0

/-- A TRIGGER cell (R46). -/
def Core.triggerIn (c : Core) (p : Nat) (x : Cell) : Core :=
  c.receive p Cy.trigger x fun c0 =>
    let c := c0.freeCells p Vc.ctl 1
    let tag := x.tag.toNat
    if (c.portOf p).tagUsed tag then c.flag (Obj.Port.FLAGS p) 8
    else if !(pcrcOk x) then (c.pcrcFail p tag true).respond p tag 3 Cy.trigger 0
    else if triggerBad x then c.answer p tag Cy.trigger 0 .malformed
    else if !c.inService then c.answer p tag Cy.trigger 0 .retry
    else
      let v := ofBytes (x.payload.take 64)
      let r := c.decideTrigger (cellWindow x)
        { src := 0, stream := cellStream x, tidx := field 511 448 v, tt := 0, id := field 447 416 v,
          detector := field 415 400 v, level := field 399 384 v, delays := if v.testBit 383 then some (triggerDelays x) else none, port := p }
      r.2.answer p tag Cy.trigger 0 r.1

/-- Does a cell pass the checks of its header and its credit (R37, R54)? DEDUCED, unsafe (log entry 40). -/
def Core.receives (c : Core) (p ty : Nat) (x : Cell) : Bool :=
  c.portUp p && hcrcOk ty x && headerOk ty x && !((c.portOf p).noCredit (typeVc ty))

/-- An OBJECT cell: header, credit, tag and PCRC checks; the message, where it stands (R47). The acknowledgement of a
NOTIFY skips the tag check and takes no answer (R55). -/
def Core.objectIn (c : Core) (p : Nat) (x : Cell) : Core × Option (List Byte) :=
  let msg := x.payload.take x.plen.toNat
  let ack := isNotifyAck x
  let used := (c.portOf p).tagUsed x.tag.toNat && !ack
  let fine := c.receives p Cy.object x && !used && pcrcOk x
  let c1 := c.receive p Cy.object x fun c0 =>
    let c := c0.freeCells p Vc.ctl 1
    if used then c.flag (Obj.Port.FLAGS p) 8
    else if !(pcrcOk x) then
      let c1 := c.pcrcFail p x.tag.toNat true
      if ack then c1 else c1.respond p x.tag.toNat 3 Cy.object 0
    else c
  (c1, if fine then some msg else none)

/-! ## Codewords (R28 to R32) -/

/-- A cell taken from a lane: it leaves to arrive by its own row; one of a reserved TYPE, which has no row, is checked and
discarded at once (R37, R38, R59). DEDUCED, unsafe (log entry 40). -/
def Core.pass (c : Core) (p : Nat) (bs : List Byte) : Core :=
  let x := cellOf bs
  if x.1 ≤ Cy.credit then c.emit (.taken p bs) else c.receive p x.1 x.2 id

/-- Fields of a codeword's message (R28). -/
def cwFco (w : Codeword) : Nat := field 5139 5130 w.msg.toNat
def cwTxmask (w : Codeword) : Nat := field 5127 5124 w.msg.toNat
def cwSeq (w : Codeword) : Nat := field 5123 5120 w.msg.toNat
def cwStream (w : Codeword) : List Byte := toBytes 640 (w.msg.toNat % 2 ^ 5120)

/-- The number of a codeword with a SEQ: that of the latest codeword of the port's lanes, up to 8 more or 7 less (R31). -/
def unroll (front seq : Nat) : Nat :=
  let d := (seq + 16 - front % 16) % 16
  if d ≤ 8 || front + d < 16 then front + d else front + d - 16

/-- Codeword periods count from the first lane's codeword with a SEQ; one after half a round of SEQ begins a new round. Is a
codeword more than 4 periods, 204.8 ns, later (R31)? -/
def Core.lagging (c : Core) (p seq : Nat) : Bool × Core :=
  let t := (c.portOf p).seen.num seq
  if t ≠ 0 && 5 * (c.tick + 1 - t) < 1024 then (512 < 5 * (c.tick + 1 - t), c)
  else (false, c.updPort p fun s => { s with seen := s.seen.setNum seq (c.tick + 1) })

/-- Cells whose turn has come arrive (R30, R31). -/
def Core.deliverCells (c : Core) (p : Nat) : Core :=
  let l := (c.portOf p).inbox
  let r := c.rotation p l.length l
  r.1.foldl (fun c bs => c.pass p bs) (c.updPort p fun s => { s with inbox := r.2 })

/-- A lane that holds lock gives the cells of codeword number n to the rotation, if the sender uses it for cells
(R28, R30, R31). DEDUCED, unsafe (log entry 39). -/
def Core.extract (c : Core) (p l n : Nat) (cw : Codeword) : Core :=
  let s := c.hrLane p l
  let left := (272 - s.phase) % 272
  let head := (cwStream cw).take left
  let r := takeCells 3 ((cwStream cw).drop left)
  let first := match s.part with
    | some bs => if (bs ++ head).length = 272 then [(s.slot, l, bs ++ head)] else []
    | none => []
  let whole := r.1.mapIdx fun i bs => (3 * n + i, l, bs)
  let used := (cwTxmask cw).testBit l
  let c1 := c.updHrLane p l fun s =>
    { s with phase := (s.phase + 640) % 272, part := some r.2, used := used, count := n,
             slot := if r.2.isEmpty then 3 * (n + 1) else 3 * n + r.1.length }
  (if used && !s.lost then c1.updPort p fun s => { s with inbox := s.inbox ++ first ++ whole } else c1).deliverCells p

/-- CODEWORD_RECEIVE (R29, R31, R32). DEDUCED, unsafe (log entry 39). DEDUCED, unsafe (log entry 74). -/
def Core.codeword (c : Core) (p l : Nat) (cw : Codeword) : Core :=
  let s := c.hrLane p l
  if c.portState p = 0 || !s.trained then c
  else if !cw.good then (c.badCodeword p l).deliverCells p
  else
    let f := cwFco cw
    let valid := f < 640
    let lag := (c.add (Obj.Port.FEC_CORRECTED p) 64 cw.corrected).lagging p (cwSeq cw)
    let late := lag.1
    let n := unroll (c.portOf p).front (cwSeq cw)
    let c2 := (lag.2.updPort p fun q => { q with front := max q.front n }).updHrLane p l fun s =>
      { s with bad := 0, good := if valid then s.good + 1 else 0, lost := late }
    if !s.locked && !(valid && 3 ≤ s.good + 1) then c2
    else
      let c3 := if late && !(s.locked && s.lost) then c2.flag (Obj.Port.FLAGS p) 9 else c2
      if !s.locked then
        let c4 := (c3.updHrLane p l fun s =>
          { s with locked := true, fcoBad := 0, phase := (272 - f % 272) % 272, part := none, slot := 3 * n }).showLanes p
        let c5 := if c4.portState p = 1 then
            (c4.put (Obj.Port.PORT_STATE p) 2).putLanes p (Obj.Port.LANE_MASK_TX p) (c4.portOf p).wantTx
          else c4
        c5.extract p l n cw
      else
        let c4 := c3.checkAligned p
        if c3.portUp p && !(c4.portUp p) then c4
        else
          let k := if f = (272 - s.phase) % 272 then 0 else s.fcoBad + 1
          let c5 := (c4.updHrLane p l fun s => { s with fcoBad := k }).extract p l n cw
          if 8 ≤ k then (c5.loseLock p l).deliverCells p
          else if c5.portState p = 2 && !late then c5.enterUp p
          else c5

end Sys2Proof.Machine
end

