-- ==== Sys2Proof/Machine/Tailrace.lean ====
section
/-! DEFINITION. Drain jobs and their records, and scan-out leases (06_tailrace_drain_scanout.md; the tag chain of
13_security_worlds.md R346 to R350). -/

namespace Sys2Proof.Machine

/-! ## Reservations in the ledger (R347, R350) -/

/-- The value of an object in the ledger record that governs. -/
def Core.committed (c : Core) (k : Nat) : Nat :=
  match (c.ledgerOf 2).governs with
  | some (_, s) => Tbl.get defaultOf s.objs k
  | none => defaultOf k

/-- Take the next value of a reserved counter; none while the reservation is not committed. The reservation grows by
`step` when half of it is left (R347). DEDUCED, unsafe (log entry 53). -/
def Core.takeReserved (c : Core) (next reserve step : Nat) : Option (Nat × Core) :=
  let n := c.get next
  if n < c.committed reserve then
    let c1 := c.put next (n + 1)
    some (n, if c1.get reserve ≤ n + 1 + step / 2 then
      ((c1.put reserve (c1.get reserve + step)).touch).ledgerBegin 2 else c1)
  else none

/-- At a start the counter takes up its reservation, and the next one is committed at once (R347). -/
def Core.startReserved (c : Core) (next reserve step : Nat) : Core :=
  let n := max (c.get reserve) 1
  (((c.put next n).put reserve (n + step)).touch).ledgerBegin 2

/-! ## What a job will send (R150) -/

/-- Cut `total` bytes from an offset on into pieces of at most `size` bytes: offset and length. -/
def pieces (size : Nat) : Nat → Nat → Nat → List (Nat × Nat)
  | 0, _, _ => []
  | fuel + 1, off, total => if total = 0 then [] else (off, min size total) :: pieces size fuel (off + size) (total - size)

/-- Pieces of at most 1 MiB. -/
def mibPieces (off total : Nat) : List (Nat × Nat) := pieces (2 ^ 20) (total / 2 ^ 20 + 1) off total

/-- DATA records of a byte sequence. -/
def dataRecs (member off total : Nat) : List RecDesc :=
  (mibPieces off total).map fun p => { rtype := 0, member := member, off := p.1, len := p.2 }

/-- SPANS records of a member with n span slots: at least one, and an odd count is padded (R150). -/
def spanRecs (member n : Nat) : List RecDesc :=
  if n = 0 then [{ rtype := 1, member := member, off := 0, len := 0 }]
  else (mibPieces 0 (ceilDiv n 2 * 64)).map fun p => { rtype := 1, member := member, off := p.1, len := p.2 }

/-- Byte length of a member's block sequence. -/
def MemberSnap.bytes (m : MemberSnap) : Nat := (m.last / m.spb + 1 - m.first / m.spb) * 256

/-- The END record. -/
def endRec : RecDesc := { rtype := 3, member := 0xFF, off := 0, len := 64 }

/-- The records of a window (R150). -/
def windowPlan (ms : List MemberSnap) : List RecDesc :=
  (ms.map fun m => dataRecs m.k 0 m.bytes ++ spanRecs m.k m.slots.length).flatten ++ [endRec]

/-- The records of a frame: SUMMARY, DATA, END (R150). -/
def framePlan (slotBytes : Nat) : List RecDesc :=
  { rtype := 2, member := 0xFF, off := 0, len := 64 } :: dataRecs 0xFF 0 slotBytes ++ [endRec]

/-- The records of a range (R150). -/
def rangePlan (off len : Nat) : List RecDesc := dataRecs 0xFF (64 * off) (64 * len) ++ [endRec]

/-- Length of the byte sequence of records. -/
def planBytes (l : List RecDesc) : Nat := (l.map fun r => r.len + 512).sum

/-- First byte of record i in the sequence. -/
def planStart (l : List RecDesc) (i : Nat) : Nat := planBytes (l.take i)

/-- Cells of a record in STREAM mode (R154). -/
def recCells (r : RecDesc) : Nat := 2 + ceilDiv r.len 256

/-- Data bytes of DATA records that lie below a position of the sequence: the source bytes sent so far (R145). -/
def dataBelow (l : List RecDesc) (pos : Nat) : Nat :=
  ((List.range l.length).map fun i =>
    match l[i]? with
    | some d => if d.rtype = 0 then min d.len (pos - (planStart l i + 256)) else 0
    | none => 0).sum

/-- Length of the records that carry a number of data bytes. -/
def recsLength (total : Nat) : Nat := total + 512 * ceilDiv total (2 ^ 20)

/-- A window member as a START fixes it (R147). -/
def Core.snapMember (c : Core) (m : WinMember) : MemberSnap :=
  let touching := c.spansIn m.region m.firstEff m.lastEff
  { k := m.k, stream := m.stream, region := m.region, first := m.firstEff, last := m.lastEff, flags := m.flags % 1024,
    spb := c.spb m.stream,
    slots := (touching.mergeSort fun a b => spanFirst a.2 ≤ spanFirst b.2).map (·.1) }

/-! ## START (R146 to R148, R155) -/

/-- The slot a FRAME source names: none where it counts as accumulating or no frame has closed (R134, R146). -/
def Core.frameSlot (c : Core) (x sel : Nat) : Option Nat :=
  let r := c.get (Obj.Context.REGION x)
  if 1023 < r || !(c.get (Obj.Region.PERSONALITY r) = 3 || c.get (Obj.Region.PERSONALITY r) = 4)
      || c.get (Obj.Region.CONTEXT r) ≠ x then none
  else
    match (if sel = 0 then (c.ctxOf x).newest else some (sel - 1)) with
    | some s => if c.slotOpen x s then none else some s
    | none => none

/-- The source of a job as a START fixes it (R147), or the status that refuses it (R146). DEDUCED, unsafe (log entry 49). -/
def Core.jobSource (c : Core) (j : Nat) : Except Status JobState :=
  let s := c.jobOf j
  let src := c.get (Obj.Job.SOURCE j)
  match c.get (Obj.Job.SRC_KIND j) with
  | 0 =>
    if c.get (Obj.Window.STATE src) ≠ 3 then .error .retry
    else
      let ms := (c.winOf src).members.map c.snapMember
      .ok { s with plan := windowPlan ms, members := ms, regions := (ms.map (·.region)).eraseDups,
                   winFlags := c.get (Obj.Window.FLAGS src) % 256, trigger := c.get (Obj.Window.TRIGGER_ID src) }
  | 1 =>
    match c.frameSlot src (c.get (Obj.Job.FRAME_SEL j)) with
    | none => .error .notReady
    | some k =>
      let r := c.get (Obj.Context.REGION src)
      .ok { s with plan := framePlan (c.get (Obj.Region.SLOT_BYTES r)), members := [], regions := [r], ctx := src, slot := k,
                   summary := (c.ctxOf src).closed.num k, stream := c.get (Obj.Context.STREAM src),
                   nrows := c.get (Obj.Context.NROWS src), region := r,
                   slotAt := c.regionHa r + k * (c.get (Obj.Region.SLOT_BYTES r) / 64) }
  | _ =>
    let off := c.get (Obj.Job.RANGE_OFFSET j)
    let len := c.get (Obj.Job.RANGE_LENGTH j)
    if c.get (Obj.Region.PERSONALITY src) = 0 || c.get (Obj.Region.FREE_PENDING src) = 1
        || c.get (Obj.Region.SIZE_MIB src) * 2 ^ 14 < off + len then .error .noRegion
    else .ok { s with plan := rangePlan off len, members := [], regions := [src], region := src }

/-- The generation of the source (R145). -/
def Core.sourceGen (c : Core) (j : Nat) (s : JobState) : Nat :=
  match c.get (Obj.Job.SRC_KIND j) with
  | 0 => c.get (Obj.Window.GEN (c.get (Obj.Job.SOURCE j)))
  | 1 => field 159 144 s.summary
  | _ => 0

/-- Length of the sequence of a job's source as it stands, whether or not the source may be drained (R146, R150). -/
def Core.jobLength (c : Core) (j : Nat) : Nat :=
  let src := c.get (Obj.Job.SOURCE j)
  match c.get (Obj.Job.SRC_KIND j) with
  | 0 => planBytes (windowPlan ((c.winOf src).members.map c.snapMember))
  | 1 => recsLength (c.get (Obj.Region.SLOT_BYTES (c.get (Obj.Context.REGION src)))) + 1152
  | _ => recsLength (64 * c.get (Obj.Job.RANGE_LENGTH j)) + 576

/-- The first case of R146: a value out of its range, or a PUSH beyond 2^38 units. DEDUCED, unsafe (log entry 49). -/
def Core.jobRanges (c : Core) (j : Nat) : Bool :=
  let kind := c.get (Obj.Job.SRC_KIND j)
  let src := c.get (Obj.Job.SOURCE j)
  kind ≤ 2 && c.get (Obj.Job.FRAME_SEL j) ≤ 4 && c.get (Obj.Job.MODE j) ≤ 2 && c.get (Obj.Job.PROTECT j) ≤ 2
  && src < nth [64, 128, 1024] kind 0 && c.get (Obj.Job.PORT j) ≤ 7
  && 1 ≤ c.get (Obj.Job.PUSH_DEPTH j) && c.get (Obj.Job.PUSH_DEPTH j) ≤ 64 && 1 ≤ c.get (Obj.Job.RETRY_LIMIT j)
  && 10 ≤ c.get (Obj.Job.RESP_TIMEOUT j) && c.get (Obj.Job.RESP_TIMEOUT j) ≤ 10000000
  && 1 ≤ c.get (Obj.Job.STALL_TIMEOUT j) && c.get (Obj.Job.STALL_TIMEOUT j) ≤ 100000
  && c.get (Obj.Job.PUSH_REGION j) ≤ 1023 && !(kind = 2 && c.get (Obj.Job.RANGE_LENGTH j) = 0)
  && !(c.get (Obj.Job.MODE j) = 1 && 2 ^ 38 < c.get (Obj.Job.PUSH_OFFSET j) + c.jobLength j / 64)

/-- The destination cases of a LOCAL job (R155). -/
def Core.localRefusal (c : Core) (j : Nat) (s : JobState) : Option Status :=
  let d := c.get (Obj.Job.PUSH_REGION j)
  if c.get (Obj.Region.PERSONALITY d) ≠ 5 || c.get (Obj.Region.FREE_PENDING d) = 1 || s.regions.contains d
      || !(c.bitOf (Obj.Region.OWNER_MASK d) (c.get (Obj.Job.PORT j)))
      || c.get (Obj.Region.SIZE_MIB d) * 2 ^ 20 < c.get (Obj.Job.PUSH_OFFSET j) * 64 + planBytes s.plan then some .noRegion
  else if c.get (Obj.Region.WORLD d) = 0 && (s.regions.any c.regionSecure) && c.get (Obj.Job.PROTECT j) ≠ 2 then
    some .deniedWorld
  else none

/-- The case of R146 that refuses a START before the credit, with its source fixed. DEDUCED, unsafe (log entry 49). -/
def Core.jobRefusal (c : Core) (sb : Bool) (j : Nat) (w : World) (s : JobState) : Option Status :=
  let p := c.get (Obj.Job.PORT j)
  let mode := c.get (Obj.Job.MODE j)
  let prot := c.get (Obj.Job.PROTECT j)
  let secure := s.regions.any c.regionSecure
  if s.regions.any fun r => c.get (Obj.Region.FREE_PENDING r) = 1 then some .retry
  else if !(s.regions.all fun r => c.bitOf (Obj.Region.OWNER_MASK r) p) then some .noRegion
  else if mode ≠ 2 && !(c.portUp p) then some .retry
  else if secure && ((!(c.portSecure p) && prot ≠ 2) || w = .openWorld) then some .deniedWorld
  else
    match (if mode = 2 then c.localRefusal j s else none) with
    | some x => some x
    | none => if prot ≠ 0 && !(c.keyUsable sb (c.get (Obj.Job.KEY_SLOT j))) then some .malformed else none

/-- CREDIT_MW of a job (R148). -/
def Core.jobCredit (c : Core) (j : Nat) : Nat := 350 + nth [0, 100, 200] (c.get (Obj.Job.PROTECT j)) 0

/-- The physical segment that holds a logical one (R86). -/
def Core.physSeg (c : Core) (r l : Nat) : Option Nat :=
  ((c.ringOf r).map.find? fun e => segState e.2 != Seg.empty && segL e.2 == l).map (·.1)

/-- Hub addresses of the 64-byte blocks of a DATA record; none where the segment is no longer present (R86, R150). -/
def Core.recordBlocks (c : Core) (j : Nat) (s : JobState) (d : RecDesc) : List (Option Nat) :=
  match c.get (Obj.Job.SRC_KIND j) with
  | 0 =>
    match s.members.find? fun m => m.k == d.member with
    | none => []
    | some m =>
      ((List.range (d.len / 256)).map fun i =>
        let b := m.first / m.spb + d.off / 256 + i
        (List.range 4).map fun q =>
          (c.physSeg m.region (b / 4096)).map fun p => c.regionHa m.region + p * 2 ^ 14 + b % 4096 * 4 + q).flatten
  | 1 => (List.range (d.len / 64)).map fun i => some (s.slotAt + d.off / 64 + i)
  | _ => (List.range (d.len / 64)).map fun i => some (c.regionHa s.region + d.off / 64 + i)

/-- The source blocks of the next record are asked for at class BE; one whose segment is gone counts as UNCORRECTABLE (R86,
R150, R172). DEDUCED, unsafe (log entry 51). -/
def Core.askRecord (c : Core) (j : Nat) : Core :=
  let s := c.jobOf j
  match s.plan[s.next]? with
  | none => c
  | some d =>
    let has := if d.rtype = 0 then c.recordBlocks j s d else []
    let missing := (List.range has.length).filter fun i => (nth has i none).isNone
    let c1 := c.updJob j fun s => { s with
      asked := true
      got := missing.foldl (fun t i => Tbl.set (fun _ => (0, 3)) t i (0, 2)) [] }
    (List.range has.length).foldl (fun c i =>
      match nth has i none with
      | some a => c.request (readReq a 3 (.drainRead j s.run i))
      | none => c) c1

/-- Have all source blocks of a record come? -/
def JobState.blocksCome (s : JobState) (d : RecDesc) : Bool :=
  d.rtype ≠ 0 || (s.asked && (List.range (d.len / 64)).all fun i => (Tbl.get (fun _ => (0, 3)) s.got i).2 ≠ 3)

/-- Fix the source of an accepted START and begin the generation (R145, R147). -/
def Core.beginJob (c : Core) (j mw : Nat) (s : JobState) : Core :=
  let gen := c.sourceGen j s
  let slot := c.get (Obj.Job.KEY_SLOT j)
  let c1 := c.keepShown (Obj.Job.READY j) (jobResultKeys j)
  let c2 := (jobResultKeys j).foldl (fun k o => if o = Obj.Job.GEN j ∨ o = Obj.Job.READY j then k else k.put o 0) c1
  let c3 := ((((c2.put (Obj.Job.STATE j) 1).put (Obj.Job.GEN j) (nextGen (c.get (Obj.Job.GEN j)))).put (Obj.Job.READY j)
    0).put (Obj.Job.CREDIT_MW j) mw).put (Obj.Job.SOURCE_GEN j) gen
  let c4 := (c3.put (Obj.Job.PROGRESS j) 0).updJob j fun _ =>
    { s with run := s.run + 1, asked := false, got := [], next := 0, complete := 0, formed := [], pos := 0, flights := [], cancelling := false, sentLog := [],
             prevTag := if c.get (Obj.Job.PROTECT j) ≠ 0 && s.lastKey = slot && slot ≠ 0 then s.lastTag else 0,
             digests := [], digestBytes := 0, started := c.hubTime % 2 ^ 96,
             cpReady := if c.get (Obj.Job.PROTECT j) ≠ 0 then false else s.cpReady }
  (if c.get (Obj.Job.SRC_KIND j) = 0 then c4.put (Obj.Window.STATE (c.get (Obj.Job.SOURCE j))) 4 else c4).askRecord j

/-- JOB_START (R146 to R149, R407). `sb` is the fuse SECURE_BOOT. -/
def Core.startJob (c : Core) (sb : Bool) (j : Nat) (w : World) : Status × Core :=
  if c.jobLive j || !c.inService then (.retry, c)
  else if !(c.jobRanges j) then (.malformed, c)
  else
    match c.jobSource j with
    | .error x => (x, c)
    | .ok s =>
      match c.jobRefusal sb j w s with
      | some x => (x, c)
      | none =>
        match c.askNow Ck.drain j (c.jobCredit j) with
        | (false, c1) => (.busySluice, c1)
        | (true, c1) => (.ok, c1.beginJob j (c.jobCredit j) s)

/-! ## Records (R151 to R153) -/

/-- Where a record stands: stream, FIRST_INDEX, LAST_INDEX, T_FIRST and its TIME_VALID, TRIGGER_ID, SRC_FLAGS, MEMBER. -/
structure RecWhere where
  stream : Nat
  first : Nat
  last : Nat
  t : Nat × Bool
  trigger : Nat
  flags : Nat
  deriving DecidableEq, Repr

/-- The place of a record (R151). A window's END record belongs to no member. -/
def Core.recWhere (c : Core) (j : Nat) (s : JobState) (d : RecDesc) : RecWhere :=
  match c.get (Obj.Job.SRC_KIND j) with
  | 0 =>
    match s.members.find? fun m => m.k == d.member && d.rtype ≠ 3 with
    | some m =>
      let first := if d.rtype = 0 then (m.first / m.spb + d.off / 256) * m.spb else m.first
      { stream := m.stream, first := first, last := m.last, t := c.indexTime m.stream first, trigger := s.trigger,
        flags := s.winFlags <<< 16 + m.flags }
    | none => { stream := 0xFFFF, first := 0, last := 0, t := (0, false), trigger := s.trigger, flags := s.winFlags <<< 16 }
  | 1 =>
    let row := field 447 384 s.summary
    { stream := s.stream, first := row, last := row + s.nrows - 1, t := (field 127 32 s.summary, s.summary.testBit 129),
      trigger := 0, flags := field 135 128 s.summary }
  | _ => { stream := 0xFFFF, first := 0, last := 0, t := (0, false), trigger := 0, flags := 0 }

/-- The header of record i (R151). -/
def Core.recordHeader (c : Core) (j : Nat) (s : JobState) (d : RecDesc) (i chain prev : Nat) : List Byte :=
  let x := c.recWhere j s d
  let prot := c.get (Obj.Job.PROTECT j)
  let v := 0x5AA5 <<< 2032 + 1 <<< 2024 + d.rtype <<< 2016 + c.get (Obj.Job.SRC_KIND j) <<< 2008 + prot <<< 2000 + j <<< 1992
    + d.member <<< 1984 + c.get Obj.Id.HUB_ID <<< 1952 + (if prot = 0 then 0 else c.get (Obj.Job.KEY_SLOT j)) <<< 1944
    + chain <<< 1856 + i <<< 1792 + c.get (Obj.Job.SOURCE j) <<< 1776 + c.get (Obj.Job.SOURCE_GEN j) <<< 1760
    + x.stream <<< 1744 + ofBool x.t.2 <<< 1728 + x.first <<< 1664 + x.last <<< 1600
    + (if d.rtype ≤ 1 then d.off else 0) <<< 1536 + d.len <<< 1504 + x.t.1 <<< 1408 + x.trigger <<< 1376 + x.flags <<< 1344
    + prev <<< 1216
  let bs := toBytes 252 (v / 2 ^ 32)
  bs ++ toBytes 4 (crc32c bs)

/-- Trailer bytes 0 to 239 (R152). -/
def recordTrailer (i bad poison : Nat) (marked : List Nat) (sent : List Byte) : List Byte :=
  let first := match marked with | [] => 2 ^ 64 - 1 | b :: _ => 64 * b
  let v := 0xA55A <<< 2032 + sat 32 bad <<< 1984 + sat 32 poison <<< 1952 + first <<< 1888 + i <<< 1824
    + crc32c sent <<< 1792
  let bs := toBytes 236 (v / 2 ^ 160)
  bs ++ toBytes 4 (crc32c bs)

/-- The data bytes of a SPANS record: the slots as they stand when it is formed, padded with one empty slot (R150). -/
def Core.spanData (c : Core) (s : JobState) (d : RecDesc) : List Byte :=
  match s.members.find? fun m => m.k == d.member with
  | none => []
  | some m =>
    let l := slice (d.off / 32) (d.len / 32) m.slots
    let bs := (l.map fun k => toBytes 32 ((c.ringOf m.region).spans.num k)).flatten
    bs ++ List.replicate (d.len - bs.length) 0

/-- The data of an END record (R150). -/
def Core.endData (c : Core) (j : Nat) (s : JobState) : List Byte :=
  toBytes 64 (s.plan.length <<< 448 + ((s.plan.filter fun r => r.rtype == 0).map (·.len)).sum <<< 384
    + c.get (Obj.Job.BAD_BLOCKS j) <<< 352 + c.get (Obj.Job.POISON_BLOCKS j) <<< 320)

/-- Plain data of a record with the indices of its UNCORRECTABLE and POISONED blocks. -/
structure RecData where
  bytes : List Byte
  bad : List Nat
  poison : List Nat
  deriving DecidableEq, Repr

/-- The data of a record: what its reads returned, with zeros for UNCORRECTABLE blocks; the spans, the summary or the sums as
they stand (R150, R153, R188). DEDUCED, unsafe (log entry 51). -/
def Core.recordData (c : Core) (j : Nat) (s : JobState) (d : RecDesc) : RecData :=
  match d.rtype with
  | 0 =>
    let got := (List.range (d.len / 64)).map fun i => Tbl.get (fun _ => (0, 3)) s.got i
    let idx := fun k => (List.range got.length).filter fun i => (nth got i (0, 0)).2 == k
    { bytes := (got.map fun g => toBytes 64 g.1).flatten, bad := idx 2, poison := idx 1 }
  | 1 => { bytes := c.spanData s d, bad := [], poison := [] }
  | 2 => { bytes := toBytes 64 s.summary, bad := [], poison := [] }
  | _ => { bytes := c.endData j s, bad := [], poison := [] }

/-- The data as sent and the TAG of a record (R153, R346). -/
def Core.protect (c : Core) (j chain : Nat) (head data : List Byte) (trailer : List Byte → List Byte) :
    List Byte × Nat :=
  let key := c.recordKey (c.get (Obj.Job.KEY_SLOT j))
  let iv := c.get Obj.Id.HUB_ID <<< 64 + chain
  match c.get (Obj.Job.PROTECT j) with
  | 0 => (data, 0)
  | 1 => (data, gcmTag key iv (head ++ data ++ trailer data) [])
  | _ =>
    let ct := gcmCrypt key iv data
    (ct, gcmTag key iv (head ++ trailer ct) ct)

/-- Form record `s.next` with a CHAIN_SEQ (0 for an unprotected job): its bytes are kept until it is complete, and the blocks of
the one after it are asked for (R150 to R153, R346 to R349). -/
def Core.formWith (c : Core) (j chain : Nat) : Core :=
  let s := c.jobOf j
  match s.plan[s.next]? with
  | none => c
  | some d =>
    let prot := c.get (Obj.Job.PROTECT j) ≠ 0
    let x := c.recordData j s d
    let marked := (List.range (d.len / 64)).filter fun i => x.bad.contains i || x.poison.contains i
    let head := c.recordHeader j s d s.next chain (if prot then s.prevTag else 0)
    let trailer := recordTrailer s.next x.bad.length x.poison.length marked
    let (sent, tag) := c.protect j chain head x.bytes trailer
    let bytes := head ++ sent ++ trailer sent ++ toBytes 16 tag
    let rec_ : FormedRec := { idx := s.next, start := planStart s.plan s.next, bytes := bytes, marked := marked }
    let c2 := c.updJob j fun s =>
      { s with next := s.next + 1, asked := false, got := [], formed := s.formed ++ [rec_],
               prevTag := if prot then tag else s.prevTag,
               digests := if prot then s.digests ++ toBytes 48 (sha384 bytes) else s.digests,
               digestBytes := if prot then s.digestBytes + d.len else s.digestBytes }
    let c3 := (c2.add (Obj.Job.BAD_BLOCKS j) 32 x.bad.length).add (Obj.Job.POISON_BLOCKS j) 32 x.poison.length
    let c4 := if marked.isEmpty then c3 else c3.flag (Obj.Job.FLAGS j) 3
    (if prot then
      (if s.next = 0 then c4.put (Obj.Job.FIRST_CHAIN j) chain else c4).put (Obj.Job.LAST_CHAIN j) chain
    else c4).askRecord j

/-- May the next record of a job be formed: its source blocks have come, and its place in the chain is reserved (R150, R347)? -/
def Core.canForm (c : Core) (j : Nat) : Bool :=
  let s := c.jobOf j
  match s.plan[s.next]? with
  | none => false
  | some d => s.blocksCome d
      && (c.get (Obj.Job.PROTECT j) = 0 || c.get Obj.Sec.CHAIN_NEXT < c.committed Obj.Sec.CHAIN_RESERVE)

/-- Form the next record of a job: the state after, and whether it was formed. It waits for its source blocks (R421) and for
the chain's reservation (R347). DEDUCED, unsafe (log entry 51). -/
def Core.formRecord (c : Core) (j : Nat) : Core × Bool :=
  let s := c.jobOf j
  match s.plan[s.next]? with
  | none => (c, false)
  | some d =>
    if !(s.blocksCome d) then (c, false)
    else if c.get (Obj.Job.PROTECT j) = 0 then (c.formWith j 0, true)
    else
      match c.takeReserved Obj.Sec.CHAIN_NEXT Obj.Sec.CHAIN_RESERVE (2 ^ 20) with
      | none => (c.flag Obj.Sec.FLAGS 6, false)
      | some (n, c1) => (c1.formWith j n, true)

/-! ## Sending (R154 to R157) -/

/-- Bytes of the sequence from formed records. -/
def JobState.bytesAt (s : JobState) (lo hi : Nat) : List Byte :=
  (s.formed.map fun r => slice (lo - r.start) (min hi (r.start + r.bytes.length) - max lo r.start) r.bytes).flatten

/-- Does a part of the sequence carry an UNCORRECTABLE or POISONED block (R154)? -/
def JobState.markedAt (s : JobState) (lo hi : Nat) : Bool :=
  s.formed.any fun r => r.marked.any fun b =>
    let a := r.start + 256 + 64 * b
    lo < a + 64 && a < hi

/-- Are all bytes below a position formed? -/
def JobState.formedTo (s : JobState) (pos : Nat) : Bool := pos ≤ planStart s.plan s.next

/-- May a job send n bytes now (R154)? DEDUCED, unsafe (log entry 50). -/
def Core.rateAllows (c : Core) (j n : Nat) : Bool :=
  let lim := c.get (Obj.Job.RATE_LIMIT j)
  let used := (((c.jobOf j).sentLog.filter fun e => c.tick < e.1 + 500000).map (·.2)).sum
  lim = 0 || used + n ≤ lim * 1000000

/-- Log n bytes sent. DEDUCED, unsafe (log entry 50). -/
def Core.logSent (c : Core) (j n : Nat) : Core :=
  c.updJob j fun s => { s with sentLog := (s.sentLog.filter fun e => c.tick < e.1 + 500000) ++ [(c.tick, n)] }

/-- Records complete below a position follow, and bytes that no RESUME needs go; a record that is complete stays so (R157).
DEDUCED, unsafe (log entry 48). -/
def Core.completeTo (c : Core) (j low : Nat) : Core :=
  let s := c.jobOf j
  let n := max s.complete ((List.range s.plan.length).filter fun i => planStart s.plan (i + 1) ≤ low).length
  let start := planStart s.plan n
  let keep := if c.get (Obj.Job.MODE j) = 1 then start / 4096 * 4096 else start
  (c.updJob j fun s =>
    { s with complete := n, formed := s.formed.filter fun r => keep < r.start + r.bytes.length }).put (Obj.Job.RECORDS j) n

/-- The sequence has been sent up to a position: BYTES and PROGRESS are the source bytes below it (R145).
DEDUCED, unsafe (log entry 48). -/
def Core.sentTo (c : Core) (j pos : Nat) : Core :=
  let data := max (c.get (Obj.Job.PROGRESS j)) (dataBelow (c.jobOf j).plan pos)
  ((c.updJob j fun s => { s with pos := pos }).put (Obj.Job.BYTES j) data).put (Obj.Job.PROGRESS j) data

/-- The next cell of a STREAM job: its record, offset in it, size and number (R154). DEDUCED, unsafe (log entry 48). -/
def JobState.nextCell (s : JobState) : Option (RecDesc × Nat × Nat × Nat) :=
  match s.plan[s.complete]? with
  | none => none
  | some d =>
    let o := s.pos - planStart s.plan s.complete
    let size := if o = 0 || 256 + d.len ≤ o then 256 else min 256 (256 + d.len - o)
    let k := if 256 + d.len ≤ o then recCells d - 1 else o / 256
    some (d, o, size, (((s.plan.take s.complete).map recCells).sum + k) % 2 ^ 32)

/-- The port has served a job: the jobs after it come next (R154). -/
def Core.tookTurn (c : Core) (p j : Nat) : Core := c.updPort p fun s => { s with turn := (j + 1) % 32 }

/-- Send one STREAM cell (R154). DEDUCED, unsafe (log entry 48). -/
def Core.streamCell (c : Core) (j : Nat) : Core :=
  let p := c.get (Obj.Job.PORT j)
  match (c.jobOf j).nextCell with
  | none => c
  | some (d, o, size, k) =>
    if !(c.rateAllows j size) then c
    else
      let (c1, ok) := if (c.jobOf j).next ≤ (c.jobOf j).complete then c.formRecord j else (c, true)
      if !ok then c1
      else
        let s := c1.jobOf j
        let x := mkCell Cy.stream Vc.blk true (s.markedAt s.pos (s.pos + size)) 0 size (j <<< 40 + 2 <<< 32 + k)
          (s.bytesAt s.pos (s.pos + size))
        let c2 := (((c1.send p Vc.blk Cy.stream x).logSent j size).tookTurn p j).sentTo j (s.pos + size)
        if o + size = d.len + 512 then
          let c3 := c2.completeTo j (c2.jobOf j).pos
          if (c3.jobOf j).complete = s.plan.length then c3.endJob j 3 else c3
        else c2

/-- Hub tags in use on a port (R48). -/
def Core.hubTags (c : Core) (p : Nat) : List Nat :=
  ((List.range 32).map fun j =>
    if c.get (Obj.Job.PORT j) = p then (c.jobOf j).flights.map (·.tag) else []).flatten

/-- The cells of a pushed transaction at a position of the sequence (R154). -/
def Core.pushCells (c : Core) (j : Nat) (s : JobState) (tag pos hi : Nat) : List Cell :=
  (List.range (ceilDiv (hi - pos) 256)).map fun i =>
    let lo := pos + 256 * i
    let top := min (lo + 256) hi
    mkCell Cy.write Vc.blk (top = hi) (s.markedAt lo top) tag (top - lo)
      (c.get (Obj.Job.PUSH_REGION j) <<< 38 + (c.get (Obj.Job.PUSH_OFFSET j) + lo / 64) % 2 ^ 38) (s.bytesAt lo top)

/-- Send the cells of a transaction together (R154). -/
def Core.sendAll (c : Core) (p : Nat) (l : List Cell) : Core := l.foldl (fun c x => c.send p Vc.blk Cy.write x) c

/-- Send the next pushed transaction, a failed one first, which counts in RETRIES; a new one takes the hub tag that the hub
chose, which nothing in flight at the port bears (R48, R154). DEDUCED, unsafe (log entry 48). -/
def Core.pushNext (c : Core) (j tag : Nat) : Core :=
  let p := c.get (Obj.Job.PORT j)
  let s := c.jobOf j
  match s.flights.find? (·.again) with
  | some f =>
    let n := (f.cells.map fun x => x.plen.toNat).sum
    if !(c.rateAllows j n) then c
    else
      ((((c.sendAll p f.cells).logSent j n).tookTurn p j).updJob j fun s =>
        { s with flights := s.flights.map fun g => if g.tag = f.tag then { g with again := false } else g }).inc
        (Obj.Job.RETRIES j)
  | none =>
    let total := planBytes s.plan
    let hi := min (s.pos + 4096) total
    if total ≤ s.pos || c.get (Obj.Job.PUSH_DEPTH j) ≤ s.flights.length || !(c.rateAllows j (hi - s.pos)) then c
    else
      let (c1, ok) := if s.formedTo hi then (c, true) else c.formRecord j
      let s1 := c1.jobOf j
      if !ok || !(s1.formedTo hi) || (c1.hubTags p).contains tag then c1
      else
        let cells := c1.pushCells j s1 tag s1.pos hi
        let f : PushFlight := { tag := tag, pos := s1.pos, attempts := 0, again := false, cells := cells }
        ((((c1.sendAll p cells).logSent j (hi - s1.pos)).tookTurn p j).sentTo j hi).updJob j fun s =>
          { s with flights := s.flights ++ [f] }

/-- Write the next 64-byte block of a LOCAL job (R155). -/
def Core.localNext (c : Core) (j : Nat) : Core :=
  let s := c.jobOf j
  let total := planBytes s.plan
  if total ≤ s.pos || !(c.rateAllows j 64) then c
  else
    let (c1, ok) := if s.formedTo (s.pos + 64) then (c, true) else c.formRecord j
    if !ok then c1
    else
      let s1 := c1.jobOf j
      let ha := c1.regionHa (c.get (Obj.Job.PUSH_REGION j)) + c.get (Obj.Job.PUSH_OFFSET j) + s.pos / 64
      match c1.post (writeReq ha 3 (ofBytes (s1.bytesAt s.pos (s.pos + 64))) (s1.markedAt s.pos (s.pos + 64)) (.drain j)) with
      | none => c1
      | some (c2, _) =>
        let c3 := ((c2.logSent j 64).sentTo j (s.pos + 64)).completeTo j (s.pos + 64)
        if s.pos + 64 = total then c3.endJob j 3 else c3

/-- Could a job send on its port now, as far as its rate and its records go (R154)? -/
def Core.sendReady (c : Core) (j : Nat) : Bool :=
  let s := c.jobOf j
  if c.get (Obj.Job.STATE j) ≠ 1 || s.cancelling then false
  else match c.get (Obj.Job.MODE j) with
    | 0 => (match s.nextCell with
        | none => false
        | some (_, _, size, _) => c.rateAllows j size && (s.complete < s.next || c.canForm j))
    | 1 => (match s.flights.find? (·.again) with
        | some f => c.rateAllows j (f.cells.map fun x => x.plen.toNat).sum
        | none =>
          let hi := min (s.pos + 4096) (planBytes s.plan)
          s.pos < planBytes s.plan && s.flights.length < c.get (Obj.Job.PUSH_DEPTH j) && c.rateAllows j (hi - s.pos)
            && (s.formedTo hi || c.canForm j))
    | _ => false

/-- Is it a job's turn on its port: no other job that could send comes before it in the round (R154)?
DEDUCED, unsafe (log entry 48). -/
def Core.myTurn (c : Core) (p j : Nat) : Bool :=
  let t := (c.portOf p).turn
  !((List.range 32).any fun k => (k + 32 - t) % 32 < (j + 32 - t) % 32 && c.get (Obj.Job.PORT k) = p && c.sendReady k)

/-- May a job's cells leave now: the port is UP with credit, and no BLK cell of another job waits (R51, R154)? -/
def Core.blkFree (c : Core) (p : Nat) : Bool :=
  c.portUp p && 0 < (c.portOf p).credit Vc.blk && !((c.portOf p).txq.any fun e => e.1 == Vc.blk)

/-- JOB_CELL_SEND (R154, R155). DEDUCED, unsafe (log entry 48). -/
def Core.jobSend (c : Core) (j tag : Nat) : Core :=
  let p := c.get (Obj.Job.PORT j)
  if c.get (Obj.Job.STATE j) ≠ 1 || (c.jobOf j).cancelling then c
  else
    match c.get (Obj.Job.MODE j) with
    | 0 => if c.blkFree p && c.myTurn p j then c.streamCell j else c
    | 1 => if c.blkFree p && c.myTurn p j then c.pushNext j tag else c
    | _ => c.localNext j

/-- A pushed transaction has failed once more (R154, R156). DEDUCED, unsafe (log entry 52). -/
def Core.pushFailed (c : Core) (j tag : Nat) : Core :=
  let s := c.jobOf j
  match s.flights.find? fun f => f.tag == tag && !f.again with
  | none => c
  | some f =>
    if s.cancelling then
      let c1 := c.updJob j fun s => { s with flights := s.flights.filter fun g => g.tag != tag }
      if (c1.jobOf j).flights.isEmpty then c1.endJob j 4 else c1
    else if c.get (Obj.Job.RETRY_LIMIT j) ≤ f.attempts + 1 then c.haltJob j 2
    else
      c.updJob j fun s => { s with flights := s.flights.map fun g =>
        if g.tag = tag then { g with attempts := g.attempts + 1, again := true } else g }

/-- A pushed transaction is answered OK (R149, R157). -/
def Core.pushDone (c : Core) (j tag : Nat) : Core :=
  let c1 := c.updJob j fun s => { s with flights := s.flights.filter fun g => g.tag != tag }
  let s := c1.jobOf j
  let c2 := c1.completeTo j ((s.flights.map (·.pos)).foldl min s.pos)
  if s.flights.isEmpty then
    if s.cancelling then c2.endJob j 4 else if planBytes s.plan ≤ s.pos then c2.endJob j 3 else c2
  else c2

/-- HOST_RESPONSE: the host answers a pushed transaction (R48, R59). DEDUCED, unsafe (log entry 52). -/
def Core.responseIn (c : Core) (p : Nat) (x : Cell) : Core :=
  c.receive p Cy.response x fun c0 =>
    let c := c0.freeCells p Vc.rsp 1
    let tag := x.tag.toNat
    if !(pcrcOk x) then c.pcrcFail p tag false
    else
      match (List.range 32).find? fun j =>
          c.get (Obj.Job.PORT j) = p && (c.jobOf j).flights.any fun f => f.tag == tag with
      | none => c
      | some j => if field 47 40 x.arg.toNat = 0 then c.pushDone j tag else c.pushFailed j tag

/-- PUSH_RESP_TIMEOUT (R154). DEDUCED, unsafe (log entry 52). -/
def Core.pushTimeout (c : Core) (j tag : Nat) : Core := c.pushFailed j tag

/-- JOB_STALL_TIMEOUT: the host has granted no BLK credit for STALL_TIMEOUT (R156). -/
def Core.jobStalled (c : Core) (j : Nat) : Core :=
  let p := c.get (Obj.Job.PORT j)
  if c.get (Obj.Job.MODE j) = 2 || !(c.portUp p) || 0 < (c.portOf p).credit Vc.blk then c else c.haltJob j 3

/-- JOB_RESUME: the job starts again at its first record that is not complete (R149, R157, R340). -/
def Core.resumeJob (c : Core) (j : Nat) : Status × Core :=
  if c.get (Obj.Job.STATE j) ≠ 2 then (.retry, c)
  else if c.get (Obj.Job.HALT_CAUSE j) = 4 then (.malformed, c)
  else if c.get (Obj.Job.MODE j) ≠ 2 && !(c.portUp (c.get (Obj.Job.PORT j))) then (.retry, c)
  else
    let c1 := (c.put (Obj.Job.STATE j) 1).inc (Obj.Job.RESUMES j)
    (.ok, c1.updJob j fun s =>
      let a := planStart s.plan s.complete
      { s with pos := if c.get (Obj.Job.MODE j) = 1 then a / 4096 * 4096
                      else if c.get (Obj.Job.MODE j) = 2 then s.pos else a })

/-- CHECKPOINT_SIGNED: the oldest checkpoint that waits is signed, published and spilled (R350 to R352).
DEDUCED, unsafe (log entry 53). -/
def Core.checkpointSigned (c : Core) (j : Nat) : Core :=
  match c.checkpoints with
  | [] => c
  | (k, body) :: rest =>
    if k ≠ j then c
    else
      match c.takeReserved Hid.CP_NEXT Hid.CP_RESERVE (2 ^ 16) with
      | none => c
      | some (n, c1) =>
        let v := body + n <<< 2432
        let d := sha384 (toBytes 224 (v / 2 ^ 768))
        let sig := (Config.ecdsaSign (BitVec.ofNat 384 d) c1.drawn).toNat
        let full := v + sig
        let c2 : Core := (c1.withDrawn (c1.drawn + 1)).withCheckpoints rest
        let c3 := (c2.put (Obj.Checkpoint.CP_JOB j) full).updJob j fun s =>
          { s with cpGen := field 2399 2384 v, cpReady := true }
        let slots := c.get Obj.CpFetch.SPILL_SLOTS
        if slots = 0 then c3.flag Obj.Sec.FLAGS 7
        else
          let q := n % slots
          let clear := if q % 8 = 0 then Tbl.drop c3.spill fun i => i / 8 == q / 8 else c3.spill
          c3.withSpill (Tbl.set (fun _ => 0) clear q full)

/-- CP_FETCH: the stored checkpoint with a CP_SEQ (R352). DEDUCED, unsafe (log entry 53). -/
def Core.cpFetch (c : Core) (n : Nat) : Status × Core :=
  let slots := c.get Obj.CpFetch.SPILL_SLOTS
  let v := if slots = 0 then 0 else c.spill.num (n % slots)
  if v ≠ 0 && field 2495 2432 v = n then
    (.ok, (c.put Obj.CpFetch.CP_FETCH_SEQ n).put Obj.CpFetch.CP_FETCHED v)
  else (.noRegion, c)

end Sys2Proof.Machine
end

