-- ==== Sys2Proof/Machine/Leases.lean ====
section
/-! DEFINITION. Region definition and freeing (03_millrace_capture.md R82 to R84, 05_millstone_accumulation.md R142) and
scan-out leases (06_tailrace_drain_scanout.md R158 to R162). -/

namespace Sys2Proof.Machine

/-! ## Regions -/

/-- Do two regions overlap? -/
def Core.overlap (c : Core) (a b : Nat) : Bool := c.regionHa a < c.regionHi b && c.regionHa b < c.regionHi a

/-- Drop writes on their way to a range of hub addresses. -/
def McState.forget (m : McState) (lo hi : Nat) : McState :=
  let out := fun (r : Req64) => !(r.write && lo ≤ r.ha && r.ha < hi)
  { m with wait := m.wait.filter out, stalled := m.stalled.filter out, writes := m.writes.filter out,
           kept := m.kept.filter out }

/-- The annex of a RING region, map and spans, as hub addresses (R84). -/
def Core.annexLo (c : Core) (r : Nat) : Nat :=
  (c.get (Obj.Region.BASE_MIB r) + c.get (Obj.Region.DATA_MIB r)) * 2 ^ 14

/-- The refusal of a definition (R83, R84, R142, R162). -/
def Core.defineRefusal (c : Core) (r per : Nat) : Option Status :=
  let size := c.get (Obj.Region.SIZE_MIB r)
  let data := c.get (Obj.Region.DATA_MIB r)
  let others := (List.range 1024).filter fun q => q ≠ r && c.get (Obj.Region.PERSONALITY q) ≠ 0 && c.overlap q r
  if others.any fun q => c.get (Obj.Region.FREE_PENDING q) = 1 then some .retry
  else if 8388608 < c.get (Obj.Region.BASE_MIB r) + size || others ≠ [] then some .malformed
  else if per = 2 && (data < 4 || size ≠ data + c.get (Obj.Region.MAP_MIB r) + c.get (Obj.Region.SPAN_MIB r)
      || data - 1 < c.get (Obj.Quota.QUOTA_SEG r)) then some .malformed
  else if per ≠ 2 && size = 0 then some .malformed
  else none

/-- Define a region: its further objects take their defaults, and a ring's annex is zeroed (R83). -/
def Core.define (c : Core) (mem : Memory) (r per : Nat) : Core × Memory :=
  let keys := [Obj.Region.CONTEXT r, Obj.Region.SLOT_BYTES r, Obj.Region.NFRAMES_BOUND r, Obj.Region.RECORD_END r,
    Obj.Region.RING_HEAD r, Obj.Region.RING_TAIL r, Obj.Region.SEGS_HELD r, Obj.Region.SPANS_USED r,
    Obj.Region.SPAN_HEAD r, Obj.Region.CURSOR r, Obj.Region.STREAM r]
  let c1 := (keys.foldl (fun c k => c.put k (defaultOf k)) c).put (Obj.Region.PERSONALITY r) per
  if per = 2 then
    let lo := c.annexLo r
    let hi := c.regionHi r
    ((c1.each 32 fun c n => c.updMc n fun m => m.forget lo hi).updRing r fun _ => RingState.init,
      mem.zero c.addrMap lo hi)
  else (c1, mem)

/-- Does anything forbid the free of a region (R83, R124, R162)? -/
def Core.freeRefused (c : Core) (r : Nat) : Bool :=
  ((List.range 256).any fun st => c.stState st ≠ 0 && c.get (Obj.Stream.REGION st) = r)
  || ((c.ringOf r).map.any fun e => segState e.2 == Seg.held)
  || (c.wins.any fun w => w.2.members.any fun m => m.region == r && (m.held ≠ [] || m.reserved ≠ []))
  || ((List.range 128).any fun x => c.get (Obj.Context.STATE x) ≠ 0 && c.get (Obj.Region.CONTEXT r) = x)
  || ((List.range 32).any fun j => c.jobLive j &&
      ((c.jobOf j).regions.contains r || (c.get (Obj.Job.MODE j) = 2 && c.get (Obj.Job.PUSH_REGION j) = r)))

/-- ACTIVE leases on a region, as a mask: LEASES (R162). -/
def Core.leasesOn (c : Core) (r : Nat) : Nat :=
  maskOf 16 fun l => c.get (Obj.Lease.STATE l) = 1 && c.get (Obj.Lease.REGION l) = r

/-- A region is freed (R83). -/
def Core.freeRegion (c : Core) (r : Nat) : Core :=
  ((c.put (Obj.Region.PERSONALITY r) 0).put (Obj.Region.FREE_PENDING r) 0).updRing r fun _ => RingState.init

/-- One lease that a deferred free involved (R162). -/
def Core.endFreed (c : Core) (r l : Nat) : Core :=
  let c1 := ((c.inc Obj.Tailrace.EARLY_FREES).put Obj.Tailrace.LAST_EARLY_FREE (r <<< 16 + l)).flag Obj.Tailrace.FLAGS 1
  if c.get (Obj.Lease.STATE l) = 1 && c.get (Obj.Lease.REGION l) = r then
    (((c1.put (Obj.Lease.STATE l) 2).put (Obj.Lease.ENABLE l) 0).flag (Obj.Lease.FLAGS l) 2).flag (Obj.Lease.FLAGS l) 3
  else c1

/-- The current frame of a lease has ended, or the lease has left ACTIVE: a deferred free may complete (R162). -/
def Core.frameEnded (c : Core) (l : Nat) : Core :=
  c.freeing.foldl (fun c e =>
    let v := setBitTo l false e.2
    if v = e.2 then c
    else if v % 2 ^ 16 ≠ 0 then c.withFreeing (c.freeing.setNum e.1 v)
    else
      let c1 : Core := c.withFreeing (c.freeing.setNum e.1 0)
      ((List.range 16).foldl (fun c i => if v.testBit (16 + i) then c.endFreed e.1 i else c) c1).freeRegion e.1) c

/-- REGION_FREE: a write of NONE (R83, R162). -/
def Core.freeWrite (c : Core) (r : Nat) : Status × Core :=
  if c.get (Obj.Region.PERSONALITY r) = 0 || c.get (Obj.Region.FREE_PENDING r) = 1 then (.ok, c)
  else if c.freeRefused r then (.retry, c)
  else if c.leasesOn r = 0 then (.ok, c.freeRegion r)
  else
    let m := c.leasesOn r
    (.ok, { c.put (Obj.Region.FREE_PENDING r) 1 with freeing := c.freeing.setNum r (m + m <<< 16) })

/-- REGION_DEFINE: a write of another personality (R83). -/
def Core.personalityWrite (c : Core) (mem : Memory) (r per : Nat) : Status × Core × Memory :=
  if per = 0 then ((c.freeWrite r).1, (c.freeWrite r).2, mem)
  else if c.get (Obj.Region.PERSONALITY r) = per then (.ok, c, mem)
  else if c.get (Obj.Region.PERSONALITY r) ≠ 0 then (.retry, c, mem)
  else match c.defineRefusal r per with
    | some s => (s, c, mem)
    | none => (.ok, c.define mem r per)

/-! ## Leases -/

/-- Has a subchannel other work (R161)? -/
def Core.otherWork (c : Core) (sc : Nat) : Bool :=
  let m := c.mcOf sc
  ((List.range 256).any fun st => c.stState st = St.running && c.regionOn (c.get (Obj.Stream.REGION st)) sc)
  || ((List.range 128).any fun x => c.get (Obj.Context.STATE x) ≠ 0 && c.regionOn (c.get (Obj.Context.REGION x)) sc)
  || ((List.range 32).any fun j => c.get (Obj.Job.STATE j) = 1 &&
      (((c.jobOf j).regions.any fun r => c.regionOn r sc)
        || (c.get (Obj.Job.MODE j) = 2 && c.regionOn (c.get (Obj.Job.PUSH_REGION j)) sc)))
  || m.writes ≠ [] || (m.arriving.any (·.write)) || m.owed ≠ 0 || (c.eccOf sc).behind ≠ 0 || (c.eccOf sc).scrubLeft ≠ 0

/-- The lease decision at a subchannel (R161). Times are in ns of hub time. DEDUCED, unsafe (log entry 54). -/
def Core.leaseDecide (c : Core) (sc : Nat) : Core :=
  let ls := c.leasesAt sc
  if ls = [] || 1 < c.scState sc || (c.mcOf sc).srEntering || c.otherWork sc then c
  else
    let allowSr := ls.all fun l => c.get Obj.Tailrace.SR_EXIT_NS ≤ c.get (Obj.Lease.TOL l) * 1000
    let wake := ls.map fun l => c.get (Obj.Lease.T_MARK l) / 2 ^ 32 + c.get (Obj.Lease.PERIOD l) * 1000
    let idle : Int := (wake.foldl min (wake.headD 0) : Nat) - (c.timeNs : Int)
    let pd := fun (c : Core) =>
      if !(c.leaseForbidsPd sc) && (c.get Obj.Tailrace.PD_MIN_IDLE_NS : Int) ≤ idle then
        [0, 1].foldl (fun c pr =>
          if c.bitOf (Obj.Sc.PD_MASK sc) pr || !(c.mayIssue sc) || !(c.rankIdle sc pr) then c else c.enterPowerDown sc pr) c
      else c
    if allowSr && (c.get Obj.Tailrace.SR_MIN_IDLE_US * 1000 : Int) ≤ idle then
      match c.askNow Ck.srExit sc 400 with
      | (true, c1) => (c1.wakeBoth sc).orderSelfRefresh sc 1
      | (false, c1) => pd c1
    else pd c

/-- LEASE_WAKE: the wake time of a lease arrives (R161). -/
def Core.leaseWake (c : Core) (sc : Nat) : Core :=
  if c.leasesAt sc = [] then c
  else if c.scState sc = 2 || (c.mcOf sc).srAt ≠ 0 then (if (c.mcOf sc).srWhy = 1 then c.demandExit sc else c)
  else c.wakeBoth sc

/-- The decision at every subchannel that holds bytes of a lease's region. DEDUCED, unsafe (log entry 54). -/
def Core.leaseDecideAll (c : Core) (l : Nat) : Core :=
  c.each 32 fun c n => if (c.leasesAt n).contains l then c.leaseDecide n else c

/-- A frame of a lease starts (R159). -/
def Core.frameStart (c : Core) (l : Nat) : Core :=
  (((c.put (Obj.Lease.T_MARK l) (c.hubTime % 2 ^ 96)).inc64 (Obj.Lease.FRAMES l)).frameEnded l).leaseDecideAll l

/-- PERIOD and TOL take the requested values (R158, R160). -/
def Core.takeTiming (c : Core) (l : Nat) : Core :=
  ((c.put (Obj.Lease.PERIOD l) (c.get (Obj.Lease.PERIOD_NEXT l))).put (Obj.Lease.TOL l)
    (c.get (Obj.Lease.TOL_NEXT l))).putBit Hid.TIMED l false

/-- FRAME_MARK: PERIOD_NEXT and TOL_NEXT written since the last marker come into force, and TIMING_CHANGED is set (R159,
R160). -/
def Core.frameMark (c : Core) (l v : Nat) : Core :=
  let c1 := c.put (Obj.Lease.LAST_MARK l) v
  if c.get (Obj.Lease.STATE l) ≠ 1 then c1
  else (if c.bitOf Hid.TIMED l then (c1.takeTiming l).flag (Obj.Lease.FLAGS l) 0 else c1).frameStart l

/-- FRAME_OVERRUN (R159). DEDUCED, unsafe (log entry 54). -/
def Core.frameOverrun (c : Core) (l : Nat) : Core :=
  if c.get (Obj.Lease.STATE l) ≠ 1 then c
  else ((c.inc (Obj.Lease.OVERRUNS l)).flag (Obj.Lease.FLAGS l) 1).frameStart l

/-- LEASE_ENABLE (R158). A further write of 1 to an ACTIVE lease has no effect. -/
def Core.leaseEnable (c : Core) (l : Nat) : Status × Core :=
  let r := c.get (Obj.Lease.REGION l)
  let p := c.get (Obj.Lease.PORT l)
  if c.get (Obj.Lease.STATE l) = 1 then (.ok, c)
  else if 1023 < r || 7 < p || c.get (Obj.Region.PERSONALITY r) = 0 then (.malformed, c)
  else if !(c.bitOf (Obj.Region.OWNER_MASK r) p) then (.noRegion, c)
  else if c.regionSecure r && !(c.portSecure p) then (.deniedWorld, c)
  else if c.get (Obj.Region.FREE_PENDING r) = 1 then (.retry, c)
  else
    (.ok, (((c.put (Obj.Lease.STATE l) 1).put (Obj.Lease.ENABLE l) 1).takeTiming l).frameStart l)

/-- LEASE_DISABLE (R158): the lease returns to IDLE, and a free that waits for it may complete (R162). -/
def Core.leaseDisable (c : Core) (l : Nat) : Status × Core :=
  (.ok, ((c.put (Obj.Lease.STATE l) 0).put (Obj.Lease.ENABLE l) 0).frameEnded l)

/-- Every ACTIVE lease enters ENDED (R416 step 5). -/
def Core.endLeases (c : Core) : Core :=
  c.each 16 fun c l =>
    if c.get (Obj.Lease.STATE l) = 1 then ((c.put (Obj.Lease.STATE l) 2).put (Obj.Lease.ENABLE l) 0).frameEnded l else c

end Sys2Proof.Machine
end

