-- ==== Sys2Proof/Machine/Sequencer.lean ====
section
/-! DEFINITION. The power sequencer and rail supervisor (11_power_sequencing.md R269 to R301). Levels are compared in
quarters of a millivolt, in which every LSB of R273 is whole. -/

namespace Sys2Proof.Machine

/-! ## The rail table (R272 to R274) -/

/-- A rail object in force: the default tree replaces a table that failed its check (R274). -/
def Core.railVal (c : Core) (k : Nat) : Nat := if c.get Obj.Seq.TABLE_SOURCE = 1 then defaultOf k else c.get k

/-- LSB in quarters of a millivolt (R273). -/
def lsbOf (range : Nat) : Nat := nth [5, 10, 20] range 5

/-- The row of a rail as the objects, or the default tree, give it. -/
def Core.railRow (c : Core) (rc : Nat) : RailRow :=
  { used := c.railVal (Obj.Rail.USED rc) = 1, parent := c.railVal (Obj.Rail.PARENT rc),
    vnom := c.railVal (Obj.Rail.VNOM_MV rc), range := c.railVal (Obj.Rail.RANGE rc),
    off := c.railVal (Obj.Rail.OFF_CODE rc) }

/-- The row in force for a rail since the latest RAMP. -/
def Core.rowOf (c : Core) (rc : Nat) : RailRow :=
  nth c.seq.table rc { used := false, parent := 0xFF, vnom := 0, range := 0, off := 0 }

/-- Depth of a rail in a table: steps to a root; none where the parents do not lead to one. -/
def depthOf (t : List RailRow) : Nat → Nat → Option Nat
  | 0, _ => none
  | fuel + 1, rc =>
    match t[rc]? with
    | none => none
    | some r => if !r.used then none else if r.parent = 0xFF then some 0 else (depthOf t fuel r.parent).map (· + 1)

/-- Does a rail table fail its check (R274)? -/
def Core.tableBad (c : Core) (t : List RailRow) : Bool :=
  !(t.any (·.used)) || (List.range 16).any fun rc =>
    match t[rc]? with
    | none => false
    | some r =>
      let uv := c.railVal (Obj.Rail.UV_CODE rc)
      let ov := c.railVal (Obj.Rail.OV_CODE rc)
      r.used && ((depthOf t 17 rc).isNone || uv ≤ r.off || ov ≤ uv || 4 * r.vnom < uv * lsbOf r.range
                 || ov * lsbOf r.range < 4 * r.vnom)

/-- Used rails in ramp order: ascending depth, then ascending number (R280). -/
def rampOrder (t : List RailRow) : List Nat :=
  ((List.range 17).map fun d => (List.range 16).filter fun rc => depthOf t 17 rc == some d).flatten

/-- Is a rail below another in the tree, or the same? -/
def belowRail (t : List RailRow) (top : Nat) : Nat → Nat → Bool
  | 0, rc => rc == top
  | fuel + 1, rc => rc == top || (match t[rc]? with | some r => belowRail t top fuel r.parent | none => false)

/-- A level in millivolts is above OV_CODE, or below UV_CODE, of a rail (R273, R275). -/
def Core.aboveOv (c : Core) (rc mv : Nat) : Bool :=
  c.railVal (Obj.Rail.OV_CODE rc) * lsbOf (c.rowOf rc).range < 4 * mv

def Core.belowUv (c : Core) (rc mv : Nat) : Bool :=
  4 * mv < c.railVal (Obj.Rail.UV_CODE rc) * lsbOf (c.rowOf rc).range

/-! ## First-failure log (R296, R297) -/

def Core.seqState (c : Core) : Nat := c.get Obj.Seq.SEQ_STATE

/-- Microseconds since the always-on reset release (R299). -/
def Core.aoUs (c : Core) : Nat := (c.tick - c.seq.aoTick) * 2 / 1000

/-- The entry of a first failure, without EVENT_SEQ and ECRC (R297). -/
def Core.ffEntry (c : Core) (cause : Nat) (rail : Option Nat) : Nat :=
  let phase := c.seqState
  let rc := rail.getD 0
  let mv := if rail.isSome then sat 16 (c.monValue (9 + rc)).toNat else 0
  cause <<< 220 + phase <<< 218 + ofBool rail.isSome <<< 217 + ofBool c.timeValid <<< 216 + rc <<< 212
  + mv <<< 180 + (c.aoUs % 2 ^ 48) <<< 128 + (c.timeNs % 2 ^ 64) <<< 64
  + (if phase = 1 then c.get Obj.Seq.RAMP_STEP else 0) <<< 56

/-- A failure: the first since the latest RAMP begins an event, and a later one of the same event sets its rail's bit in
FOLLOW_MASK (R296). -/
def Core.ffail (c : Core) (cause : Nat) (rail : Option Nat) : Core :=
  match c.seq.first with
  | some e => match rail with
    | some rc => c.withSeq { c.seq with first := some (setBitTo (196 + rc) true e) }
    | none => c
  | none => if c.seq.failed then c
            else c.withSeq { c.seq with first := some (c.ffEntry cause rail), failed := true }

/-- The event ends: EVENT_SEQ increments and the entry is committed (R297). -/
def Core.ffEnd (c : Core) : Core :=
  match c.seq.first with
  | none => c
  | some e =>
    let c1 := c.inc Obj.Seq.EVENT_SEQ
    let n := c1.get Obj.Seq.EVENT_SEQ
    let v := n <<< 224 + e
    let entry := v + crc32c ((toBytes 32 v).take 28)
    let c2 := (c1.put (Obj.FfLog.LOG (n % 16)) entry).touch
    c2.withSeq { c2.seq with first := none }

/-! ## Steps -/

def Core.setPhase (c : Core) (p : SeqPhase) : Core := c.withSeq { c.seq with phase := p }

def Core.railState (c : Core) (rc : Nat) : Nat := c.get (Obj.Rail.STATE rc)

/-- Drive SQ_UP_OUT and SQ_DN_OUT. -/
def Core.driveUp (c : Core) (b : Bool) : Core :=
  if c.seq.upOut = b then c else (c.withSeq { c.seq with upOut := b }).emit (.pin .sqUpOut b)

def Core.driveDn (c : Core) (b : Bool) : Core :=
  if c.seq.dnOut = b then c else (c.withSeq { c.seq with dnOut := b }).emit (.pin .sqDnOut b)

def Core.dnEn (c : Core) : Bool := c.bitOf Obj.Seq.CASCADE 1

def Core.upEn (c : Core) : Bool := c.bitOf Obj.Seq.CASCADE 0

/-- Release the enables of a rail and of every used rail below it, and set CUT on each that was up or falling (R278, R283).
DEDUCED, unsafe (log entry 15). -/
def Core.cut (c : Core) (rc : Nat) : Core :=
  c.each 16 fun c r =>
    if !(belowRail c.seq.table rc 16 r) || !(c.rowOf r).used then c
    else if 1 ≤ c.railState r && c.railState r ≤ 3 then
      let c1 := ((c.put (Obj.Rail.STATE r) 6).flag (Obj.Rail.FLAGS r) 0).emit (.pin (.railEn r) false)
      c1.withSeq { c1.seq with up := c1.seq.up.filter (· ≠ r) }
    else if 4 ≤ c.railState r && c.railState r ≤ 5 then c.flag (Obj.Rail.FLAGS r) 0
    else c

/-- The PHY at rest: every RESET_n low and CK stopped, so requests on their way get no data (R271, R418, R419 step 5). -/
def Core.resetDram (c : Core) : Core :=
  c.each 32 fun c n =>
    (if (c.mcOf n).inReset then c else c.resetDevice n).updDdr n fun d => { d with train := none }

/-- The device with the sequencer in OFF: every VOL object takes its default, and what the always-on domain, the ledger and
the flash hold stays (R12, R239, R287, R288, R303, R403). DEDUCED, unsafe (log entry 14). -/
def Core.powerOff (c : Core) : Core :=
  let kept := c.ledgerReload
  let c0 : Core :=
    { Core.init with
      tick := c.tick, drawn := c.drawn, out := c.out, req := c.req, ledger := kept.ledger, images := c.images,
      spill := c.spill, flash := c.flash, seq := c.seq, objs := kept.objs,
      fc := { FcState.init with held := c.fc.held, errN := c.fc.errN, safeN := c.fc.safeN } }
  let c1 := [Obj.Seq.ON_PENDING, Obj.Seq.FAIL_COUNT, Obj.Baton.BATON, Obj.Dev.DEVICE_STATE].foldl
    (fun k a => k.put a (c.get a)) c0
  let ao := [Obj.Seq.EVENT_SEQ, Obj.Fc.LAST_LOCKOUT] ++ (List.range 16).map Obj.FfLog.LOG
  let c2 := ao.foldl (fun k a => if k.get a = c.get a then k else (k.put a (c.get a)).touch) c1
  { c2 with
    tap := { mode := c2.get Obj.Sec.JTAG_MODE, instr := .idcode }
    mg := { mode := c2.get Obj.Mg.MG_MODE, v4 := c2.get Obj.Mg.IPV4_ADDR, v6 := c2.get Obj.Mg.IPV6_ADDR, pending := false } }

/-- The sequencer enters OFF: every enable is released, the event ends and the dwell starts (R283, R287, R292, R296). In
LOCKOUT the device keeps its state (R418). DEDUCED, unsafe (log entry 14). -/
def Core.seqOff (c : Core) : Core :=
  let c1 := ((c.ffEnd).driveUp false).driveDn false
  let c2 := c1.each 16 fun c r =>
    let k := if 1 ≤ c.railState r ∧ c.railState r ≤ 3 then c.emit (.pin (.railEn r) false) else c
    if k.railState r = 7 then k else k.put (Obj.Rail.STATE r) 0
  let c3 := (c2.put Obj.Seq.SEQ_STATE 0)
  let c4 : Core := c3.withSeq { c3.seq with phase := .rest, up := [], todo := [], offReq := false, dwellOver := false,
                                                  noCascade := false, orderly := false, pmbFails := [] }
  if c4.dev = Dv.lockout then c4 else (c4.powerOff).setDev Dv.off

/-- A PMBus transaction with a rail that has an address; PAGE is written before it (R295). DESIGN CHOICE, safe (log entry 85). -/
def Core.pmbus (c : Core) (rc code : Nat) (data : Option Nat) : Core :=
  if c.get (Obj.Rail.PMB_ADDR rc) = 0 then c
  else (c.emit (.pmbus rc 0 (some (c.get (Obj.Rail.PMB_PAGE rc))))).emit (.pmbus rc code data)

/-- A rail's margin reaches a step: on the margin output, or in VOUT_COMMAND, whose level is in µV (R294). DESIGN CHOICE, safe
(log entry 85). -/
def Core.driveMargin (c : Core) (rc : Nat) (m : Int) : Core :=
  let c1 := c.put (Obj.Rail.MARGIN_APPLIED rc) (ofSigned 32 m)
  if c.isSet (Obj.Rail.PMB_MARGIN rc) then c1.pmbus rc 0x21 (some (((c.rowOf rc).vnom * (1000 + 5 * m) : Int)).toNat)
  else c1.emit (.margin rc m)

/-- Every margin returns to its neutral level (R283). -/
def Core.neutralMargins (c : Core) : Core :=
  c.each 16 fun c r =>
    let k := c.put (Obj.Rail.MARGIN r) 0
    if c.get (Obj.Rail.MARGIN_APPLIED r) = 0 then k else k.driveMargin r 0

/-- DESCENT begins over the rails of a list, in that order (R283, R290). -/
def Core.beginDescent (c : Core) (l : List Nat) : Core :=
  let c1 := ((c.resetDram).setDev Dv.descent).put Obj.Seq.SEQ_STATE 3
  let c2 := c1.neutralMargins
  let wait := c2.dnEn && c2.seq.dnIn
  let c3 := c2.driveDn false
  let c4 := c3.withSeq { c3.seq with todo := l, offReq := false, orderly := false,
                                     phase := if wait then .cascadeDown else .dropReady }
  if l = [] then c4.seqOff else c4

/-- Rails to release, latest first: the rail of the ramp step that runs, then those that came up (R281, R283). -/
def Core.descentList (c : Core) : List Nat :=
  (match c.seq.phase with | .rising rc => [rc] | _ => []) ++ c.seq.up.reverse

/-- RAMP fails (R281, R288). -/
def Core.rampFail (c : Core) : Core :=
  let c1 := (c.add Obj.Seq.FAIL_COUNT 8 1).flag Obj.Seq.FLAGS 2
  let c2 := if c1.get Obj.Seq.RAMP_RETRY < c1.get Obj.Seq.FAIL_COUNT then c1.flag Obj.Seq.FLAGS 6 else c1
  c2.beginDescent ((c2.descentList).filter fun r => c2.railState r ≠ 6)

/-- The sequencer enters UP: hub time starts, the discipline loop acquires, a start begins and the device enters SELFTEST
(R22, R282, R290, R397, R410). -/
def Core.seqEnterUp (c : Core) : Core :=
  let up := (!c.dnEn || c.seq.dnIn) && !c.seq.noCascade
  let c1 := ((((c.put Obj.Seq.SEQ_STATE 2).put Obj.Seq.FAIL_COUNT 0).put Obj.Seq.ON_PENDING 0).driveUp up).put
    Obj.Time.DISC_STATE (ofBool (c.get Obj.Time.TIME_SOURCE ≠ 0))
  let c2 := c1.each 25 fun c ch => c.updMon ch fun m =>
    { m with offset := (Config.factoryTrim ch).1, gain := (Config.factoryTrim ch).2, trimAt := c.tick }
  ((c2.startTime.withSeq { c2.seq with phase := .rest }).withStart
    (some { origin := 0, begun := c.tick, exits := 0, restores := 0, trains := 0, cold := false })).setDev
    Dv.selftest

/-- Is an on request present or latched (R285)? -/
def Core.onRequest (c : Core) : Bool :=
  (c.upEn && c.seq.upIn) || c.isSet Obj.Seq.ON_PENDING || (!c.upEn && c.seq.standing)

/-- RAMP begins (R274, R280, R410). -/
def Core.rampBegin (c : Core) (mem : Memory) : Core × Memory :=
  let c0 := c.put Obj.Seq.TABLE_SOURCE 0
  let t0 := (List.range 16).map c0.railRow
  let bad := c0.tableBad t0
  let c1 := c0.put Obj.Seq.TABLE_SOURCE (ofBool bad)
  let t := (List.range 16).map c1.railRow
  let order := rampOrder t
  let pad := order ++ List.replicate (16 - order.length) 0xFF
  let c2 := ((c1.put Obj.Seq.SEQ_STATE 1).put Obj.Seq.RAMP_STEP 0).put Obj.Seq.RAMP_ORDER
    (pad.foldl (fun a b => a * 256 + b) 0)
  let c3 := c2.each 16 fun c r => c.put (Obj.Rail.STATE r) (if (nth t r ⟨false, 0, 0, 0, 0⟩).used then 0 else 7)
  let c4 : Core := c3.withSeq { c3.seq with phase := .rampReady, table := t, up := [], todo := order, offReq := false,
                                                  noCascade := false, first := none, failed := false }
  let c5 := c4.setDev Dv.ramp
  (if bad then (c5.flag Obj.Seq.FLAGS 7).raise Src.sqTableBad (ctxNone 10 0) else c5, mem.loseAll)

/-- From OFF, RAMP begins once the dwell has passed with an on request and retries left (R287 to R289). -/
def Core.tryRamp (c : Core) (mem : Memory) : Core × Memory :=
  if c.seq.aoUp && c.seqState = 0 && c.dev ≠ Dv.lockout && c.seq.dwellOver && c.onRequest
     && c.get Obj.Seq.FAIL_COUNT ≤ c.get Obj.Seq.RAMP_RETRY
  then c.rampBegin mem else (c, mem)

/-- RAMP_STEP (R280 step 1, R295). -/
def Core.rampStep (c : Core) (code : Nat) (linear : Bool) : Core :=
  match c.seq.phase, c.seq.todo with
  | .rampReady, rc :: rest =>
    let c1 := ((c.put (Obj.Rail.STATE rc) 1).add Obj.Seq.RAMP_STEP 8 1).emit (.pin (.railEn rc) true)
    let c2 : Core := c1.withSeq { c1.seq with phase := .rising rc, todo := rest }
    let c3 := if (c2.rowOf rc).off ≤ code then c2.flag (Obj.Rail.FLAGS rc) 9 else c2
    ((c3.pmbus rc 0x03 (some 0)).pmbus rc 0x20 none).raiseIf (!linear && c3.get (Obj.Rail.PMB_ADDR rc) ≠ 0) Src.sqPmbus
      (ctxRail rc)
  | _, _ => c

/-- After the last ramp step: the cascade, or UP (R289, R290). -/
def Core.rampEnd (c : Core) : Core :=
  if c.dnEn then
    let c1 := c.driveDn true
    if c1.seq.dnIn then c1.seqEnterUp else c1.setPhase .cascadeUp
  else c.seqEnterUp

/-- RAIL_UP (R280 step 2, R286). -/
def Core.railUp (c : Core) (us : Nat) : Core :=
  match c.seq.phase with
  | .rising rc =>
    let c1 := (c.put (Obj.Rail.STATE rc) 2).put (Obj.Rail.T_RISE_US rc) (sat 32 us)
    let c2 : Core := c1.withSeq { c1.seq with up := c1.seq.up ++ [rc], phase := .delayOn }
    if c2.seq.offReq then c2.beginDescent c2.descentList else c2
  | _ => c

/-- DELAY_ON_EXPIRY (R280 step 3). -/
def Core.delayOnEnd (c : Core) : Core :=
  match c.seq.phase with
  | .delayOn => if c.seq.todo = [] then c.rampEnd else c.setPhase .rampReady
  | _ => c

/-- RAMP_TIMEOUT (R281, R286). -/
def Core.rampTimeout (c : Core) : Core :=
  match c.seq.phase with
  | .rising rc =>
    (((c.flag (Obj.Rail.FLAGS rc) 4).ffail 5 (some rc)).rampFail).raise Src.sqRampFail (ctxRail rc)
  | _ => c

/-- The next descent step, or OFF when no rail is left (R283). -/
def Core.nextDrop (c : Core) : Core :=
  if c.seq.todo.all fun r => c.railState r = 6 then c.seqOff else c.setPhase .dropReady

/-- DESCENT_STEP (R283 step 1): rails already cut are skipped. -/
def Core.descentStep (c : Core) : Core :=
  match c.seq.phase with
  | .dropReady =>
    match c.seq.todo.filter fun r => c.railState r ≠ 6 with
    | [] => c.seqOff
    | rc :: rest =>
      let c1 := (c.put (Obj.Rail.STATE rc) 4).emit (.pin (.railEn rc) false)
      c1.withSeq { c1.seq with phase := .falling rc, todo := rest, up := c1.seq.up.filter (· ≠ rc) }
  | _ => c

/-- RAIL_OFF (R283 step 2). -/
def Core.railOff (c : Core) (us : Nat) : Core :=
  match c.seq.phase with
  | .falling rc => ((c.put (Obj.Rail.STATE rc) 0).put (Obj.Rail.T_FALL_US rc) (sat 32 us)).setPhase .delayOff
  | _ => c

/-- DELAY_OFF_EXPIRY (R283 step 3). -/
def Core.delayOffEnd (c : Core) : Core :=
  match c.seq.phase with
  | .delayOff => c.nextDrop
  | _ => c

/-- DESCENT_STUCK (R284). -/
def Core.descentStuck (c : Core) : Core :=
  match c.seq.phase with
  | .falling rc =>
    ((((c.put (Obj.Rail.STATE rc) 5).flag (Obj.Rail.FLAGS rc) 5).flag Obj.Seq.FLAGS 3).ffail 6 (some rc)).setPhase .delayOff
      |>.raise Src.sqDescentStuck (ctxRail rc)
  | _ => c

/-- SQ_DN_IN_CHANGE (R290). -/
def Core.dnInChange (c : Core) (level : Bool) : Core :=
  let c1 : Core := c.withSeq { c.seq with dnIn := level }
  match c1.seq.phase with
  | .cascadeUp => if level then c1.seqEnterUp else c1
  | .cascadeDown => if level then c1 else c1.nextDrop
  | _ => c1

/-- CASCADE_TIMEOUT (R290). -/
def Core.cascadeTimeout (c : Core) : Core :=
  let fail := fun (c : Core) => ((c.flag Obj.Seq.FLAGS 5).ffail 7 none).raise Src.sqCascade (ctxNone 10 0)
  match c.seq.phase with
  | .cascadeUp =>
    let c1 := fail c
    (c1.withSeq { c1.seq with noCascade := true }).seqEnterUp
  | .cascadeDown => (fail c).nextDrop
  | _ => c

/-! ## Supervision (R275 to R278, R281, R283) -/

/-- Rail flags of an excursion. -/
def Core.excursionFlags (c : Core) (rc : Nat) (k : Excursion) : Core :=
  match k with
  | .over => c.flag (Obj.Rail.FLAGS rc) 2
  | .under => c.flag (Obj.Rail.FLAGS rc) 3
  | .senseOpen => (c.flag (Obj.Rail.FLAGS rc) 2).flag (Obj.Rail.FLAGS rc) 7

/-- The sources of an excursion: the rail's own, and SQ_SENSE for an open leg (R276, R298). -/
def Core.excursionRaise (c : Core) (rc : Nat) (k : Excursion) (stands : Bool) : Core :=
  let up := fun (c : Core) (s : Nat) => if stands then c.raiseStanding s (ctxRail rc) else c.raise s (ctxRail rc)
  match k with
  | .over => up c (Src.sqOv rc)
  | .under => up c (Src.sqUv rc)
  | .senseOpen => up (up c (Src.sqSense rc)) (Src.sqOv rc)

/-- CAUSE of R297. -/
def exCause : Excursion → Nat
  | .over => 1 | .under => 2 | .senseOpen => 4

/-- Is it an overvoltage (R276, R278)? -/
def exOver : Excursion → Bool
  | .under => false | _ => true

/-- Does a reading lie outside the window in the way an excursion says (R275, R276)? -/
def Core.isExcursion (c : Core) (rc : Nat) (k : Excursion) (mv : Nat) : Bool :=
  match k with | .over => c.aboveOv rc mv | .under => c.belowUv rc mv | .senseOpen => true

/-- An excursion in RAMP fails it: an overvoltage of the rail in its step, or any excursion of a rail that came up (R281). -/
def Core.excursionRamp (c : Core) (rc : Nat) (k : Excursion) : Core :=
  let rising := c.railState rc = 1 && exOver k
  if rising || c.railState rc = 2 then
    let c1 := ((c.excursionFlags rc k).ffail (exCause k) (some rc))
    let c2 := if c1.railState rc = 2 then c1.put (Obj.Rail.STATE rc) 3 else c1
    let c3 := if exOver k then c2.cut rc else c2
    ((c3.rampFail).raise Src.sqRampFail (ctxRail rc)).excursionRaise rc k false
  else c

/-- An excursion in UP (R278). DEDUCED, unsafe (log entry 15). -/
def Core.excursionUp (c : Core) (rc : Nat) (k : Excursion) : Core :=
  if c.railState rc = 2 || (c.railState rc = 3 && exOver k) then
    let c1 := ((c.put (Obj.Rail.STATE rc) 3).excursionFlags rc k).ffail (exCause k) (some rc)
    let act := c1.railVal (Obj.Rail.ACTIONS rc)
    if exOver k && bit 1 act then
      let c2 := c1.cut rc
      (c2.beginDescent c2.descentList).excursionRaise rc k false
    else if !(exOver k) && bit 0 act then (c1.beginDescent c1.descentList).excursionRaise rc k false
    else c1.excursionRaise rc k true
  else c

/-- An overvoltage in DESCENT cuts, whatever its ACTIONS bit (R283). -/
def Core.excursionDescent (c : Core) (rc : Nat) (k : Excursion) : Core :=
  if exOver k && 1 ≤ c.railState rc && c.railState rc ≤ 5 then
    (((c.excursionFlags rc k).ffail (exCause k) (some rc)).cut rc).excursionRaise rc k false
  else c

/-- RAIL_EXCURSION. DEDUCED, unsafe (log entry 15). -/
def Core.railExcursion (c : Core) (rc : Nat) (k : Excursion) (mv : Nat) : Core :=
  if !(c.rowOf rc).used || !(c.isExcursion rc k mv) then c
  else if c.seqState = 1 then c.excursionRamp rc k
  else if c.seqState = 2 then c.excursionUp rc k
  else if c.seqState = 3 then c.excursionDescent rc k
  else c

/-- RAIL_RECOVER (R278). -/
def Core.railRecover (c : Core) (rc : Nat) : Core :=
  if c.railState rc = 3 then
    (((c.put (Obj.Rail.STATE rc) 2).endStanding (Src.sqOv rc)).endStanding (Src.sqUv rc)).endStanding (Src.sqSense rc)
  else c

/-- PG_DISAGREE (R276); in RAMP a rail that came up and lost power-good fails it (R281). DEDUCED, unsafe (log entry 15). -/
def Core.pgDisagree (c : Core) (rc : Nat) : Core :=
  if c.railState rc ≠ 2 then c
  else
    let c1 := (c.flag (Obj.Rail.FLAGS rc) 6).ffail 3 (some rc)
    let c2 := if c1.seqState = 1 then (c1.rampFail).raise Src.sqRampFail (ctxRail rc) else c1
    c2.raise (Src.sqPg rc) (ctxRail rc)

/-- COMPARATOR_TEST (R277). -/
def Core.comparatorTest (c : Core) (rc : Nat) (ok : Bool) : Core :=
  if ok || !(c.rowOf rc).used then c
  else ((c.flag (Obj.Rail.FLAGS rc) 8).ffail 10 (some rc)).raise (Src.sqCheck rc) (ctxRail rc)

/-- GLITCH (R275). -/
def Core.glitch (c : Core) (rc : Nat) : Core :=
  if (c.rowOf rc).used && c.seqState ≠ 0 then (c.inc (Obj.Rail.GLITCHES rc)).flag (Obj.Rail.FLAGS rc) 1 else c

/-- INPUT_COLLAPSE (R292): the event is latched, OFF entered, and the source raised, which holds it at an always-on source
until the collector starts again (R303). -/
def Core.inputCollapse (c : Core) (aoLow : Bool) : Core :=
  let c1 := (if aoLow then c else c.flag Obj.Seq.FLAGS 4).ffail (if aoLow then 9 else 8) none
  let c2 := if c.seqState = 0 then c1.ffEnd else c1.seqOff
  c2.raise (if aoLow then Src.sqAoLow else Src.sqInputLoss) (ctxNone 10 0)

/-! ## Margins and PMBus (R294, R295) -/

/-- Does a level of VNOM·(1 + 0.005·m) lie 1 % of VNOM inside both thresholds (R294)? -/
def Core.marginFits (c : Core) (rc : Nat) (m : Int) : Bool :=
  let r := c.rowOf rc
  let v : Int := r.vnom
  let lsb : Int := lsbOf r.range
  let level := 4 * v * (1000 + 5 * m)
  let uv : Int := c.railVal (Obj.Rail.UV_CODE rc)
  let ov : Int := c.railVal (Obj.Rail.OV_CODE rc)
  40 * v ≤ level - 1000 * lsb * uv && 40 * v ≤ 1000 * lsb * ov - level

/-- MARGIN_WRITE: status and effect once the value is within −12 to +12 and the state is SERVICE (R294). -/
def Core.marginWrite (c : Core) (rc v : Nat) : Status × Core :=
  if c.seqState ≠ 2 || c.railState rc ≠ 2 then (.retry, c)
  else if !(c.marginFits rc (toSigned 32 v)) then (.malformed, c)
  else (.ok, c.put (Obj.Rail.MARGIN rc) v)

/-- MARGIN_STEP (R294). -/
def Core.marginStep (c : Core) (rc : Nat) : Core :=
  let m := c.getInt (Obj.Rail.MARGIN rc)
  let a := c.getInt (Obj.Rail.MARGIN_APPLIED rc)
  if c.seqState ≠ 2 || a = m then c
  else c.driveMargin rc (if a < m then a + 1 else a - 1)

/-- May a threshold write take effect: a GOOD rail's present reading stays in its window (R274)? -/
def Core.thresholdOk (c : Core) (rc uv ov : Nat) : Bool :=
  c.railState rc ≠ 2 || c.get Obj.Seq.TABLE_SOURCE = 1 || c.monGen (9 + rc) = 0 ||
    (let lsb := lsbOf (c.rowOf rc).range
     let mv := (c.monValue (9 + rc)).toNat
     uv * lsb ≤ 4 * mv && 4 * mv ≤ ov * lsb)

/-- One poll of a PMBus rail (R295). -/
def Core.pmbusOne (c : Core) (x : PmbusResult) : Core :=
  let rc := x.rail.val
  if c.get (Obj.Rail.PMB_ADDR rc) = 0 then c
  else match x.data with
    | none =>
      let n := c.seq.pmbFails.num rc + 1
      let c1 : Core := c.withSeq { c.seq with pmbFails := c.seq.pmbFails.setNum rc (min n 3) }
      if n = 3 then c1.raiseStanding Src.sqPmbus (ctxRail rc) else c1
    | some (v, i, t, st) =>
      let old := c.get (Obj.Rail.PMB_READINGS rc)
      let c1 : Core := c.withSeq { c.seq with pmbFails := c.seq.pmbFails.setNum rc 0 }
      let c2 := c1.put (Obj.Rail.PMB_READINGS rc)
        (v.toNat <<< 96 + i.toNat <<< 64 + t.toNat <<< 32 + st.toNat <<< 16 + nextGen (field 15 0 old))
      if c2.seq.pmbFails.any fun e => e.2 == 3 then c2 else c2.endStanding Src.sqPmbus

/-- PMBUS_POLL and PMBUS_ALERT (R295). DEDUCED, unsafe (log entry 17). -/
def Core.pmbusPoll (c : Core) (l : List PmbusResult) : Core :=
  if c.seqState = 0 then c
  else l.foldl (fun c x =>
    ([0x79, 0x8B, 0x8C, 0x8D].foldl (fun c code => c.pmbus x.rail.val code none) c).pmbusOne x) c

end Sys2Proof.Machine
end

