-- ==== Sys2Proof/Machine/Security.lean ====
section
/-! DEFINITION. Images and secure boot, the update of one half, fuses, key slots and JTAG
(13_security_worlds.md R336 to R345, R354, R355, R369). -/

namespace Sys2Proof.Machine

/-! ## Images (R342, R343) -/

/-- The bytes of an image slot. -/
def Core.imageOf (c : Core) (slot : Nat) : List Byte := Tbl.get (fun _ => []) c.images slot

/-- The 512-byte header of an image as a number, byte 0 highest; 0 for a slot too short to hold one. -/
def Core.imageHead (c : Core) (slot : Nat) : Nat :=
  let bs := c.imageOf slot
  if bs.length < 512 then 0 else ofBytes (bs.take 512)

def imgKeyIndex (h : Nat) : Nat := field 4071 4064 h
def imgLength (h : Nat) : Nat := field 4063 4032 h
def imgSvn (h : Nat) : Nat := field 4031 4016 h
def imgIlevel (h : Nat) : Nat := field 4015 4008 h
def imgMinPeer (h : Nat) : Nat := field 4007 4000 h
def imgVersion (h : Nat) : Nat := field 3999 3968 h

/-- A cell reads as the majority of its three copies (R337). -/
def FuseCells.val (x : FuseCells) : Nat := (x.a &&& x.b) ||| (x.a &&& x.c) ||| (x.b &&& x.c)

/-- Cells are programmed (R338). -/
def FuseCells.burn (x : FuseCells) (m : Nat) : FuseCells := { a := x.a ||| m, b := x.b ||| m, c := x.c ||| m }

/-! The owner's fuses as they read (R336, R337). -/
def Fuses.secureBoot (f : Fuses) : Bool := f.boot.val.testBit 0
def Fuses.revoked (f : Fuses) : Nat := f.revoke.val % 16
def Fuses.svnFloor (f : Fuses) : Nat := min 63 (popcount 64 f.floor.val)
def Fuses.jtagLock (f : Fuses) : Bool := f.lock.val.testBit 0
def Fuses.copies (f : Fuses) (i : Nat) : HashCopy × HashCopy := Tbl.get (fun _ => (.blank, .blank)) f.hashes i

/-- A hash reads from the first copy that passes its check; a copy that fails is ignored (R337). -/
def Fuses.hash? (f : Fuses) (i : Nat) : Option Nat :=
  match f.copies i with
  | (.good h, _) => some h
  | (_, .good h) => some h
  | _ => none

/-- A hash is programmed into its blank copies (R338). -/
def HashCopy.burn (x : HashCopy) (hash : Nat) : HashCopy := if x = .blank then .good hash else x

/-- A programmed, unrevoked owner key (R338). -/
def Fuses.keyGood (f : Fuses) (i : Nat) : Bool := i ≤ 3 && (f.hash? i).isSome && !f.revoked.testBit i

/-- Does a slot's image pass the check of R343 step 2? -/
def Core.imageOk (c : Core) (f : Fuses) (slot : Nat) : Bool :=
  let bs := c.imageOf slot
  let h := c.imageHead slot
  let n := imgLength h
  c.flash.fit && field 4095 4080 h = 0x5A46 && field 4079 4072 h = 1 && n ≤ 16776704 && 512 + n ≤ bs.length
  && sha384 (slice 512 n bs) = field 3191 2808 h
  && (!f.secureBoot ||
      (f.keyGood (imgKeyIndex h) && f.hash? (imgKeyIndex h) = some (sha384 (toBytes 97 (field 3967 3192 h)))
       && f.svnFloor ≤ imgSvn h
       && Config.ecdsaVerify (BitVec.ofNat 776 (field 3967 3192 h)) (BitVec.ofNat 384 (sha384 (bs.take 416)))
            (BitVec.ofNat 768 h)))

/-! Bytes of the two-byte objects at 0x5030: byte h of a half, or of a slot. -/
def Core.bootSlot (c : Core) (h : Nat) : Nat := c.byteOf Obj.Image.BOOT_SLOT 2 h
def Core.runSlot (c : Core) (h : Nat) : Nat := c.byteOf Obj.Image.RUN_SLOT 2 h
def Core.halfState (c : Core) (h : Nat) : Nat := c.byteOf Obj.Image.HALF_STATE 2 h
def Core.imgState (c : Core) (slot : Nat) : Nat := c.byteOf Obj.Image.IMG_STATE 2 slot
def Core.setHalf (c : Core) (h v : Nat) : Core := c.putByte Obj.Image.HALF_STATE 2 h v

/-- IMG_STATE after a slot has been checked (R344). -/
def Core.showImage (c : Core) (f : Fuses) (slot : Nat) : Core :=
  c.putByte Obj.Image.IMG_STATE 2 slot
    (if c.imageOpen = some slot then 1 else if c.imageOf slot = [] then 0 else if c.imageOk f slot then 2 else 3)

/-- Both halves in RECOVERY (R343, R360)? -/
def Core.allRecovery (c : Core) : Bool := c.halfState 0 = 3 && c.halfState 1 = 3

/-- A supervisor runs an image (R343 step 3). -/
def Core.runImage (c : Core) (h slot state : Nat) : Core :=
  let x := c.imageHead slot
  let c1 := (c.putByte Obj.Image.RUN_SLOT 2 h slot).setHalf h state
  let c2 := c1.put Obj.Id.FW_VERSION
    (if h = 0 then setField 63 32 (c1.get Obj.Id.FW_VERSION) (imgVersion x)
     else setField 31 0 (c1.get Obj.Id.FW_VERSION) (imgVersion x))
  c2.updHalf h fun s =>
    { s with svn := imgSvn x, ilevel := imgIlevel x, minPeer := imgMinPeer x, running := true, release := false,
             claim := false }

/-- The half enters RECOVERY (R343 step 5). DEDUCED, unsafe (log entry 21). -/
def Core.recover (c : Core) (h : Nat) : Core :=
  (((c.setHalf h 3).updHalf h fun s => { s with running := false, alive := false }).flag Obj.Sec.FLAGS 3).raise Src.secBoot
    (ctxNone 0 0)

/-- A start's boot of a half (R343). -/
def Core.bootHalf (c : Core) (f : Fuses) (h : Nat) : Core :=
  let a := c.bootSlot h
  let b := 1 - a
  let c1 := (c.showImage f 0).showImage f 1
  if c1.imageOk f a then c1.runImage h a 0
  else if c1.imageOk f b then ((c1.runImage h b 0).flag Obj.Sec.FLAGS 4).raise Src.secBoot (ctxNone 0 0)
  else c1.recover h

/-- The half returns to the slot that ran before its update (R345 steps 2 and 4). DEDUCED, unsafe (log entry 18). -/
def Core.trialRevert (c : Core) (f : Fuses) (h : Nat) : Core :=
  let slot := (c.halfSt h).before
  let c1 := (c.flag Obj.Sec.FLAGS 5).raise Src.secBoot (ctxNone 0 0)
  if c1.imageOk f slot then c1.runImage h slot 0 else c1.recover h

/-- SUPERVISOR_BOOT: at a start from OFF, or once the baton has left a half that restarts (R343, R345).
DEDUCED, unsafe (log entry 18). -/
def Core.supervisorBoot (c : Core) (f : Fuses) (h : Nat) : Core :=
  if c.halfState h = 1 then
    if c.get Obj.Baton.BATON = h then c
    else
      let slot := (c.halfSt h).target
      if c.imageOk f slot then c.runImage h slot 2 else c.trialRevert f h
  else
    match c.start with
    | some r =>
      if c.dev = Dv.selftest && r.origin = 0 && !(c.halfSt h).running && c.halfState h ≠ 3 then c.bootHalf f h else c
    | none => c

/-! ## Image writes and updates (R344, R345) -/

/-- IMG_OPEN. -/
def Core.imgOpen (c : Core) (slot : Nat) : Status × Core :=
  if 1 < slot then (.malformed, c)
  else if !c.flash.fit then (.noRegion, c)
  else if c.imageOpen.isSome || [0, 1].any fun h => c.runSlot h = slot || c.bootSlot h = slot then (.retry, c)
  else
    let c1 : Core := (c.withImages (Tbl.set (fun _ => []) c.images slot [])).withImageOpen (some slot)
    (.ok, (c1.putByte Obj.Image.IMG_STATE 2 slot 1).put Obj.Image.IMG_OFFSET 0)

/-- IMG_DATA: 1 to 4,096 bytes; a slot holds 16 MiB (R341, R344). DEDUCED, unsafe (log entry 18). -/
def Core.imgData (c : Core) (bs : List Byte) : Status × Core :=
  if bs.length = 0 || 4096 < bs.length then (.malformed, c)
  else if !c.flash.fit then (.noRegion, c)
  else match c.imageOpen with
    | none => (.retry, c)
    | some slot =>
      let all := c.imageOf slot ++ bs
      if 2 ^ 24 < all.length then (.malformed, c)
      else
        let c1 : Core := c.withImages (Tbl.set (fun _ => []) c.images slot all)
        (.ok, c1.put Obj.Image.IMG_OFFSET all.length)

/-- IMG_CLOSE: the slot is checked, and a half in RECOVERY boots an image that passes (R343, R344). -/
def Core.imgClose (c : Core) (f : Fuses) : Status × Core :=
  if !c.flash.fit then (.noRegion, c)
  else match c.imageOpen with
    | none => (.retry, c)
    | some slot =>
      let c1 := (c.withImageOpen none).showImage f slot
      (.ok, if c1.imageOk f slot then
          [0, 1].foldl (fun c h => if c.halfState h = 3 then c.runImage h slot 0 else c) c1
        else c1)

/-- ACTIVATE: the checks of R345; the holder offers the baton and the half is to restart. DEDUCED, unsafe (log entry 18). -/
def Core.activate (c : Core) (v : Nat) : Status × Core :=
  let h := field 4 4 v
  let o := 1 - h
  let slot := field 0 0 v
  if v &&& 0xEE ≠ 0 then (.malformed, c)
  else if c.halfState o ≠ 0 || !(c.inService || c.dev = Dv.service) then (.retry, c)
  else if c.imgState slot ≠ 2 || (c.halfSt o).ilevel < imgMinPeer (c.imageHead slot)
      || imgIlevel (c.imageHead slot) < (c.halfSt o).minPeer then (.malformed, c)
  else
    let mine := c.get Obj.Baton.BATON = h
    let c1 := (c.setHalf h 1).updHalf h fun s =>
      { s with before := c.runSlot h, target := slot, release := s.release || mine }
    (.ok, if mine then c1.putBit Obj.Baton.HEARTBEATS (if h = 0 then 34 else 2) true else c1)

/-- CONFIRM (R345 step 3). DEDUCED, unsafe (log entry 18). -/
def Core.confirm (c : Core) (h : Nat) : Status × Core :=
  if 1 < h then (.malformed, c)
  else if c.halfState h ≠ 2 then (.retry, c)
  else (.ok, ((c.putByte Obj.Image.BOOT_SLOT 2 h (c.runSlot h)).touch).setHalf h 0)

/-- TRIAL_EXPIRY (R345 step 4). -/
def Core.trialExpiry (c : Core) (f : Fuses) (h : Nat) : Core := if c.halfState h = 2 then c.trialRevert f h else c

/-! ## Fuses (R338) -/

/-- The image headers in the BOOT_SLOTs of the halves that hold one. -/
def Core.bootHeads (c : Core) : List Nat :=
  (([0, 1].map fun h => c.imageHead (c.bootSlot h))).filter fun x => field 4095 4080 x == 0x5A46

/-- FUSE_PROGRAM outside its state check: the fuses after, none where the operation is refused with MALFORMED (R338). -/
def Core.fuseAfter (c : Core) (f : Fuses) (op arg hash : Nat) : Option Fuses :=
  match op with
  | 1 =>
    let x := f.copies arg
    if 3 < arg || (f.hash? arg).isSome || (x.1 ≠ .blank && x.2 ≠ .blank) then none
    else some { f with hashes := Tbl.set (fun _ => (.blank, .blank)) f.hashes arg (x.1.burn hash, x.2.burn hash) }
  | 2 =>
    let g := { f with revoke := f.revoke.burn (2 ^ arg) }
    if 3 < arg || (f.secureBoot && !((List.range 4).any g.keyGood))
       || (c.bootHeads.any fun x => imgKeyIndex x == arg) then none else some g
  | 3 => if arg = 0 || 63 < arg || arg ≤ f.svnFloor || (c.bootHeads.any fun x => decide (imgSvn x < arg)) then none
         else some { f with floor := f.floor.burn (2 ^ arg - 1) }
  | 4 => if arg ≠ 0 || !((List.range 4).any f.keyGood) then none else some { f with boot := f.boot.burn 1 }
  | 5 => if arg ≠ 0 then none else some { f with lock := f.lock.burn 1 }
  | _ => none

/-- FUSE_PROGRAM (R338). -/
def Core.fuseProgram (c : Core) (f : Fuses) (op arg hash : Nat) : Status × Fuses :=
  if c.dev ≠ Dv.service then (.retry, f)
  else match c.fuseAfter f op arg hash with
    | none => (.malformed, f)
    | some g => (.ok, g)

/-! ## Key slots (R339, R340, R369) -/

/-- First 4 bytes of AES-256 of 16 zero bytes under a key. -/
def kcv (key : Nat) : Nat := aes key 0 / 2 ^ 96

/-- JOBS of a key slot. DEDUCED, unsafe (log entry 19). -/
def Core.keyJobs (c : Core) (k : Nat) : Nat :=
  maskOf 32 fun j => c.jobLive j && c.get (Obj.Job.PROTECT j) ≠ 0 && c.get (Obj.Job.KEY_SLOT j) = k

/-- KEY_IMPORT (R340). -/
def Core.keyImport (c : Core) (k key : Nat) : Status × Core :=
  if key = 0 then (.malformed, c)
  else if c.keyJobs k ≠ 0 then (.retry, c)
  else
    let c1 := c.inc (Obj.KeySlot.KEY_GEN k)
    (.ok, (((c1.put (Obj.KeySlot.STATE k) 1).put (Obj.KeySlot.KCV k) (kcv key)).put (Obj.KeySlot.KEY k)
      (wrapKey k (c1.get (Obj.KeySlot.KEY_GEN k)) key)).touch)

/-- KEY_ERASE (R340). -/
def Core.keyErase (c : Core) (k : Nat) : Status × Core :=
  let jobs := c.keyJobs k
  let c1 := (((c.put (Obj.KeySlot.STATE k) 0).put (Obj.KeySlot.KCV k) 0).put (Obj.KeySlot.KEY k) 0).touch
  let c2 := c1.each 32 fun c j => if jobs.testBit j then c.haltJob j 4 else c
  (.ok, c2.raise Src.secKey (ctxNone 0 0))

/-- ADMIT_KEY: a new admission key is wrapped, with ADMIT_GEN in the place of KEY_GEN and 0 for the slot (R369). -/
def Core.admitKey (c : Core) (key : Nat) : Status × Core :=
  if key = 0 then (.malformed, c)
  else
    let c1 := c.inc Obj.Loa.ADMIT_GEN
    (.ok, ((c1.put Obj.Loa.ADMIT_KCV (kcv key)).put Obj.Loa.ADMIT_KEY (wrapKey 0 (c1.get Obj.Loa.ADMIT_GEN) key)).touch)

/-- The admission key in force: none where AUTH always fails (R369). -/
def Core.admitKeyNow (c : Core) (f : Fuses) : Option Nat :=
  if c.get Obj.Loa.ADMIT_KEY = 0 then (if f.secureBoot then none else some 0)
  else unwrapKey 0 (c.get Obj.Loa.ADMIT_GEN) (c.get Obj.Loa.ADMIT_KEY)

/-- At a start the hub unwraps every stored key (R340, R369). DEDUCED, unsafe (log entry 19). -/
def Core.unwrapKeys (c : Core) : Core :=
  let fail := fun (c : Core) => (c.flag Obj.Sec.FLAGS 1).raise Src.secKey (ctxNone 0 0)
  let c1 := (List.range 15).foldl (fun c i =>
    let k := i + 1
    let v := c.get (Obj.KeySlot.KEY k)
    if v = 0 then c
    else match unwrapKey k (c.get (Obj.KeySlot.KEY_GEN k)) v with
      | some key => (c.put (Obj.KeySlot.STATE k) 1).put (Obj.KeySlot.KCV k) (kcv key)
      | none => fail ((c.put (Obj.KeySlot.STATE k) 2).put (Obj.KeySlot.KCV k) 0)) c
  let v := c1.get Obj.Loa.ADMIT_KEY
  if v = 0 then c1
  else match unwrapKey 0 (c1.get Obj.Loa.ADMIT_GEN) v with
    | some key => c1.put Obj.Loa.ADMIT_KCV (kcv key)
    | none => fail (c1.put Obj.Loa.ADMIT_KCV 0)

/-! ## JTAG (R354, R355) -/

/-- The mode that governs the TAP: JTAG_PERM_LOCK forces LOCKED (R336). -/
def Core.tapMode (c : Core) (f : Fuses) : Nat := if f.jtagLock then 2 else c.tap.mode

/-- Does a mode let an instruction through (R354)? -/
def Core.jtagAdmits (c : Core) (f : Fuses) (i : JtagInstr) : Bool :=
  match i with
  | .bypass | .idcode => true
  | .samplePreload => c.tapMode f ≤ 1
  | .extest => c.tapMode f = 0 || (c.tapMode f = 1 && c.dev = Dv.service)
  | .vendorDebug => c.tapMode f = 0

/-- JTAG_INSTRUCTION. -/
def Core.jtagInstruction (c : Core) (f : Fuses) (i : JtagInstr) : Core :=
  if c.jtagAdmits f i then c.withTap { c.tap with instr := i }
  else ((c.flag Obj.Sec.FLAGS 2).withTap { c.tap with instr := .bypass }).raise Src.secJtag (ctxNone 0 0)

/-- JTAG_TEST_LOGIC_RESET: a pending mode takes effect and IDCODE is in force (R355). -/
def Core.jtagReset (c : Core) : Core := c.withTap { mode := c.get Obj.Sec.JTAG_MODE, instr := .idcode }

/-- JTAG_MODE may be written (R355)? -/
def jtagModeOk (f : Fuses) (v : Nat) : Bool := !f.jtagLock && !(f.secureBoot && v == 0)

end Sys2Proof.Machine
end

