-- ==== Sys2Proof/Machine/States.lean ====
section
/-! DEFINITION. Device states, starts, SAFE, LOCKOUT, SLEEP, shutdown, and subchannels held and OFFLINE
(16_states_start_sluice.md R406 to R422). -/

namespace Sys2Proof.Machine

/-! ## Ending engines (R416, R419) -/

/-- Streams flush, contexts stop, jobs are cancelled and leases end (R416 steps 2 to 5). -/
def Core.endEngines (c : Core) : Core :=
  let c1 := c.each 256 fun c st =>
    if c.stState st = St.disabled || c.stState st = St.flushing then c else c.flushStream st
  let c2 := (c1.each 128 fun c x => c.stopCtx x).water
  let c3 := c2.each 32 fun c j => c.cancelJob j
  c3.endLeases

/-- A training or restore in progress is abandoned: nothing is published and its credit returns (R416, R419 step 1). -/
def Core.abandonStart (c : Core) : Core :=
  let c1 := c.each 32 fun c n =>
    let drop := fun (c : Core) (k : Nat) =>
      if c.waits k n then c.unqueue k n else if c.holds k n then c.release k n else c
    let k := if (c.ddrOf n).train.isSome then
        drop ((c.updDdr n fun d => { d with train := none }).put (Obj.Train.TRAIN_STATE n) 0) Ck.train else c
    drop k Ck.restore
  c1.withStart none

/-- The device enters SAFE (R408, R416); the quiet windows of trainings that it cuts short close (R317). DEDUCED, unsafe (log entry 36). -/
def Core.safeEntry (c : Core) : Core :=
  if Dv.selftest ≤ c.dev && c.dev ≤ Dv.sleep then
    let cut := (List.range 32).filter fun n => (c.ddrOf n).train.isSome
    cut.foldl (fun c n => c.closeReaction 6 n) ((((c.setDev Dv.safe).flag Obj.Dev.FLAGS 1).endEngines).abandonStart)
  else c

/-- Elastic blocks that no commit has taken are discarded and every stream is DISABLED; RING_HEAD stays below them (R416
step 6, R419 step 4). -/
def Core.dropElastic (c : Core) : Core :=
  (c.each 256 fun c st =>
    if c.stState st = St.disabled then c
    else (((c.updStream st fun s => { s with blocks := [], waiting := [] }).put (Obj.Stream.STATE st) St.disabled).put
      (Obj.Stream.ENABLE st) 0).put (Obj.Region.STREAM (c.get (Obj.Stream.REGION st))) 0xFFFF).weirProgress.water

/-- SAFE_FLUSH (R416 steps 6 to 8). -/
def Core.safeFlush (c : Core) : Core :=
  if c.dev ≠ Dv.safe then c
  else
    let lost := (c.streams.map fun e => (e.2.blocks.filter fun b => b.uncommitted.isSome).length).sum
    let c1 := c.add Obj.Dev.SAFE_LOST_BLOCKS 64 lost
    c1.dropElastic.each 32 fun c n =>
      if c.trainState n = 2 && !c.scOffline n && !(c.mcOf n).held then
        ((if c.holds Ck.srExit n then c else c.askForced Ck.srExit n 400).wakeBoth n).orderSelfRefresh n 8
      else c

/-! ## Off requests and the orderly phase (R285 to R287, R419) -/

/-- An off request that reaches a sequencer in RAMP (R286). -/
def Core.offInRamp (c : Core) : Core :=
  let c1 := c.flag Obj.Seq.FLAGS 0
  match c1.seq.phase with
  | .rising _ => c1.withSeq { c1.seq with offReq := true }
  | _ => c1.beginDescent c1.descentList

/-- Every pending ledger commit is started at once (R419 step 3). -/
def Core.commitAll (c : Core) : Core :=
  c.each 3 fun c r => if (c.ledgerOf r).dirty then c.ledgerBegin r else c

/-- An off request of POWER_REQ or SQ_UP_IN (R286, R408, R419). DEDUCED, unsafe (log entry 16). -/
def Core.offRequest (c : Core) : Core :=
  if c.seqState = 1 then c.offInRamp
  else if c.seqState = 2 && Dv.selftest ≤ c.dev && c.dev ≤ Dv.safe && c.dev ≠ Dv.descent then
    let c1 := (((c.setDev Dv.descent).abandonStart).endEngines).commitAll
    c1.withSeq { c1.seq with orderly := true }
  else c

/-- A later off request cancels a latched on request, and the one that stands from the always-on power-up (R285, R287). -/
def Core.cancelOn (c : Core) : Core :=
  let c1 := c.put Obj.Seq.ON_PENDING 0
  c1.withSeq { c1.seq with standing := false }

/-- An on request is latched (R287). -/
def Core.latchOn (c : Core) : Core := (c.put Obj.Seq.ON_PENDING 1).flag Obj.Seq.FLAGS 1

/-- SHUTDOWN_PHASE_END (R419 step 4). DEDUCED, unsafe (log entry 16). -/
def Core.shutdownEnd (c : Core) (forced : Bool) : Core :=
  let ready := ((List.range 256).all fun st => c.stState st = St.disabled)
    && (List.range 3).all fun r => (c.ledgerOf r).run.isNone
  if !c.seq.orderly || (!forced && !ready) then c
  else
    let c1 := if forced then (c.dropElastic).flag Obj.Dev.FLAGS 2 else c
    c1.beginDescent c1.descentList

/-- SQ_UP_IN_FALL (R285). -/
def Core.upInFall (c : Core) : Core :=
  let c1 : Core := c.withSeq { c.seq with upIn := false }
  if !c.seq.aoUp || !c.upEn || c.dev = Dv.lockout then c1 else (c1.cancelOn).offRequest

/-- SQ_UP_IN_RISE (R285, R287, R288, R418). -/
def Core.upInRise (c : Core) (mem : Memory) : Core × Memory :=
  let c1 : Core := c.withSeq { c.seq with upIn := true }
  if !c.seq.aoUp then (c1, mem)
  else
    let c2 := if c1.get Obj.Seq.RAMP_RETRY < c1.get Obj.Seq.FAIL_COUNT then c1.put Obj.Seq.FAIL_COUNT 0 else c1
    if !c.upEn then (c2, mem)
    else if c.dev = Dv.lockout then (c2.inc Obj.Dev.LOCKOUT_ON_REQS, mem)
    else if c.dev = Dv.descent then (c2.latchOn, mem)
    else c2.tryRamp mem

/-- POWER_REQ, once the write is admitted: 1 OFF, 2 CYCLE (R285). -/
def Core.powerReq (c : Core) (v : Nat) : Core :=
  let c1 := (c.cancelOn).offRequest
  if v = 2 then c1.latchOn else c1

/-! ## LOCKOUT (R328, R418) -/

/-- The device enters LOCKOUT: RESET_n low, engines stop, every quiet window closes (R317), and a sequencer in RAMP descends.
DEDUCED, unsafe (log entry 16). DEDUCED, unsafe (log entry 36). -/
def Core.lockoutEntry (c : Core) : Core :=
  if c.dev = Dv.off || c.dev = Dv.lockout then c
  else
    let k := (c.setDev Dv.lockout).resetDram
    let c1 := ((k.withStart none).withSeq { k.seq with orderly := false }).closeAllWindows
    if c1.seqState = 1 then c1.offInRamp else c1

/-! ## Calibration sets at a start (R239, R242, R243) -/

/-- Is a half's PMH-4016 record usable (R242)? The record is 2,962 bytes, byte 0 highest. -/
def forerunnerOk (v : Nat) : Bool :=
  let hd := v / 256 ^ 2946
  field 127 112 hd = 0x4016 && field 111 104 hd = 1 && field 103 96 hd = 16
  && crc16 (toBytes 2960 (v / 65536)) = v % 65536

def forerunnerSpeed (v : Nat) : Nat := field 95 80 (v / 256 ^ 2946)

/-- DLY12 of an 11-bit delay of the record: COARSE × 64 + FINE × 2 (R243). -/
def dly11 (v : Nat) : Nat := field 10 5 v * 64 + field 4 0 v * 2

/-- The lane record of a lane entry (R241, R243). DFE_TAP1 is 6 bits of two's complement. -/
def forerunnerLane (e : Nat) : Nat :=
  (dly11 (field 63 53 e)) <<< 116 + (dly11 (field 52 42 e)) <<< 104 + (dly11 (field 41 31 e)) <<< 92
  + (dly11 (field 30 20 e)) <<< 80 + (2 * field 19 13 e) <<< 24 + (field 12 6 e) <<< 16
  + (ofSigned 8 (toSigned 6 (field 5 0 e))) <<< 8

/-- The CA record of the record's 24-byte CA record (R241, R243). -/
def forerunnerCa (e : Nat) : Nat :=
  let bits := (List.range 14).foldl (fun a i => a * 256 + min 63 (2 * (field 175 64 e / 256 ^ (13 - i) % 256))) 0
  let vref := field 41 35 e * 256 + field 34 28 e
  (dly11 (field 191 181 e)) <<< 244 + bits <<< 128 + (dly11 (field 63 53 e)) <<< 116 + (dly11 (field 52 42 e)) <<< 104
  + vref <<< 88 + vref <<< 72

/-- The set of subchannel i of the half (R243); its TIME_NS is not stated. -/
def forerunnerSet (v i timeNs : Nat) : CalSet :=
  let blk := v / 256 ^ (2 + 184 * (15 - i)) % 256 ^ 184
  { source := 2, speed := 4800, temp := toSigned 32 (field 79 48 (v / 256 ^ 2946)), timeNs := timeNs,
    ca := forerunnerCa (blk / 256 ^ 160),
    lanes := (List.range 20).map fun j => forerunnerLane (blk / 256 ^ (8 * (19 - j)) % 2 ^ 64) }

/-- FORERUNNER_EAST and _WEST. -/
def forerunnerKey (h : Nat) : Nat := if h = 0 then Obj.Cal.FORERUNNER_EAST else Obj.Cal.FORERUNNER_WEST

/-- The sets of a stored record are taken (R239, R240). -/
def Core.takeSets (c : Core) (h : Nat) (s : LedgerSlot) : Core :=
  c.each 16 fun c k => c.updFt (16 * h + k) fun f =>
    { f with sets := (List.range 5).foldl (fun t b => Tbl.set (fun _ => CalSet.none) t b
        (Tbl.get (fun _ => CalSet.none) s.sets (5 * k + b))) [] }

/-- A usable PMH-4016 record is converted into the sets of its half, to be committed (R243). -/
def Core.convertSets (c : Core) (h v : Nat) : Core :=
  let (t, c1) := c.draw (2 ^ 64)
  (c1.updLedger h fun l => { l with dirty := true }).each 16 fun c k =>
    let x := forerunnerSet v k t
    c.updFt (16 * h + k) fun f => { f with sets := Tbl.set (fun _ => CalSet.none) f.sets (bandOf x.temp) x }

/-- Do changes of a ledger record wait for its slots? -/
def LedgerState.pending (l : LedgerState) : Bool := l.dirty || l.run.isSome

/-- A half's calibration record is read (R239). With changes that wait for a commit the sets are newer than the slots and
stay. DESIGN CHOICE, safe (log entry 23). -/
def Core.loadSets (c : Core) (h : Nat) : Core :=
  let keep := (c.ledgerOf h).pending
  match (c.ledgerOf h).governs with
  | some (i, s) =>
    let c1 := c.putByte Obj.Cal.RESTORE_SOURCE 2 h (i + 1)
    if keep then c1 else c1.takeSets h s
  | none =>
    let v := c.get (forerunnerKey h)
    if forerunnerOk v && forerunnerSpeed v = 4800 && c.speedNow = 4800 then
      let c1 := c.putByte Obj.Cal.RESTORE_SOURCE 2 h 3
      if keep then c1 else c1.convertSets h v
    else (c.putByte Obj.Cal.RESTORE_SOURCE 2 h 0).flag Obj.Cal.FLAGS 0

/-- Has a subchannel a set to restore (R411)? -/
def Core.hasSet (c : Core) (n : Nat) : Bool :=
  c.validSets n ≠ [] && c.byteOf Obj.Cal.RESTORE_SOURCE 2 (halfOf n) ≠ 0 && !c.isSet Obj.Dev.FORCE_COLD

/-! ## Starts (R408 to R414) -/

/-- A configuration word of the collector: its settings, and a CONFIG of a source (R306, R329). -/
def collectorWord (k : Nat) : Bool :=
  [Obj.Fc.MODE, Obj.Fc.ERR_CLASS, Obj.Fc.ERR_SEV, Obj.Fc.ACTION_MAP, Obj.Fc.TEMP_WARN_MC, Obj.Fc.TEMP_CRIT_MC].contains k
    || (0x490001 ≤ k && k < 0x4C0000 && k % 256 == 1)

/-- The objects' record is read: every LEDGER object, or, with changes that wait for a commit, the collector's words alone;
FALLBACK ends (R239, R329, R411). DESIGN CHOICE, safe (log entry 23). -/
def Core.loadObjects (c : Core) : Core :=
  let held := (c.objs.map (·.1)) ++ (match (c.ledgerOf 2).governs with | some (_, s) => s.objs.map (·.1) | none => [])
  let keys := held.filter fun k => if (c.ledgerOf 2).pending then collectorWord k else isLedger k
  let c1 := keys.foldl (fun k a => k.put a (c.committed a)) c
  c1.withFc { c1.fc with fallback := false }

/-- Has SPEED_BIN changed since the latest start (R218)? -/
def Core.binMoved (c : Core) : Bool := c.get Hid.SPEED ≠ 0 && c.get Hid.SPEED ≠ c.get Obj.Phy.SPEED_BIN

/-- The bin of a start is SPEED_BIN (R218). DEDUCED, unsafe (log entry 68). -/
def Core.takeBin (c : Core) : Core :=
  if c.get Hid.SPEED = c.get Obj.Phy.SPEED_BIN then c else (c.put Hid.SPEED (c.get Obj.Phy.SPEED_BIN)).touch

/-- Queue the trainings of the start once the device is in TRAIN; a subchannel whose DRAM is still in reset runs from step 1
(R411, R413 step 8). DEDUCED, unsafe (log entry 22). -/
def Core.trainPhase (c : Core) : Core :=
  match c.start with
  | none => c
  | some r =>
    if c.dev ≠ Dv.train then c
    else c.each 32 fun c n =>
      if r.trains.testBit n && c.trainState n ≠ 1 then c.queueTraining n (c.mcOf n).inReset else c

/-- The automatic transitions of a start, and the trainings that TRAIN begins. -/
def Core.advance (c : Core) : Core := (c.startProgress).trainPhase

/-- Did an event of this command ask for SAFE or LOCKOUT, which outrank an automatic transition (R409)? -/
def Core.stopAsked (c : Core) : Bool := c.req.any fun r => r == .safe || r == .lockout

/-- Does a subchannel rest in self-refresh, or are its entry commands given (R185)? DEDUCED, unsafe (log entry 68). -/
def Core.resting (c : Core) (n : Nat) : Bool := c.scState n = 2 || (c.mcOf n).srAt ≠ 0

/-- Which subchannels a start restores, trains, and takes out of self-refresh (R411). With a new bin it trains every one
(R218). DEDUCED, unsafe (log entry 68). -/
def Core.classify (c : Core) (r : StartRun) (moved : Bool) : Core :=
  let c0 := c.each 32 fun c n =>
    if c.scOut n || c.resting n then c
    else (if (c.mcOf n).inReset then c else c.resetDevice n).put (Obj.Train.TRAIN_STATE n) 0
  let live := fun n => !(c0.scOut n)
  let exits := maskOf 32 fun n => live n && c0.resting n
  let restores := maskOf 32 fun n => live n && !(c0.resting n) && c0.hasSet n && !moved
  let trains := maskOf 32 fun n => live n && (moved || (!(c0.resting n) && !(c0.hasSet n)))
  let c1 := c0.each 32 fun c n => if restores.testBit n then c.askQueued Ck.restore n 800 else c
  let c2 := c1.each 32 fun c n => if exits.testBit n then c.demandExit n else c
  let c3 : Core := c2.withStart (some { r with exits := exits, restores := restores, trains := trains })
  if exits = 0 && restores = 0 then c3.setDev Dv.train else c3.setDev Dv.restore

/-- Headrace and Sail ports begin bring-up (R412 step 7). DEDUCED, unsafe (log entry 68). -/
def Core.beginPorts (c : Core) : Core :=
  let c1 := c.each 8 fun c p => if c.bitOf Obj.Hr.PORT_ENABLE p && c.portState p = 0 then c.portBegin p else c
  c1.each 4 fun c k =>
    if c.isSet (Obj.SailPort.ENABLE k) && c.get (Obj.SailPort.STATE k) = 0 then c.put (Obj.SailPort.STATE k) 1 else c

/-- Has every half that can boot done so (R412 steps 1 and 2)? -/
def Core.booted (c : Core) : Bool :=
  ([0, 1].all fun h => (c.halfSt h).running || c.halfState h = 3) && !c.allRecovery

/-- SELFTEST_DONE (R408, R411, R412). DEDUCED, unsafe (log entry 68). -/
def Core.selftestDone (c : Core) (x : SelftestResult) : Core :=
  match c.start with
  | none => c
  | some r =>
    if c.dev ≠ Dv.selftest then c
    else if r.origin = 0 && x.fuseBad then (c.startCollector).raise Src.secFuse (ctxNone 0 0)
    else if r.origin = 0 && !c.booted then c
    else
      let c1 := c.startCollector
      let c2 := if r.origin = 0 then [0, 1].foldl (fun c h =>
          if c.halfState h = 3 then c.each 16 fun c i => c.goOffline (16 * h + i) false true else c) c1 else c1
      let c3 := if r.origin = 0 then
          (match x.millpond with | some o => c2.raise Src.mpUeDesc (ctxNumber 0 0 o) | none => c2) else c2
      let c4 := c3.each 25 fun c ch =>
        match x.trims[ch]?.join with | some t => c.monKeep ch t.1 t.2 | none => c.monRefuse ch
      let c5 := x.checkers.foldl (fun c s => c.raise s.val (ctxNone 0 0)) c4
      let c6 := (((c5.takeBin.unwrapKeys).loadSets 0).loadSets 1).showSlots
      let c7 := if r.origin = 0 then
          ((c6.startReserved Obj.Sec.CHAIN_NEXT Obj.Sec.CHAIN_RESERVE (2 ^ 20)).startReserved Hid.CP_NEXT Hid.CP_RESERVE
            (2 ^ 16)).put Obj.CpFetch.SPILL_SLOTS
            (if c.flash.fit then (c.flash.bytes - 33 * 2 ^ 20) / 512 else 0)
        else c6
      let c8 := c7.beginPorts
      if c8.stopAsked then c8 else (c8.classify r c.binMoved).advance

/-- The lane of a restored set at T (R413 steps 3 and 5). DESIGN CHOICE, safe (log entry 23). -/
def Core.restoreLanes (c : Core) (n : Nat) (t : Int) (s : CalSet) : Core :=
  let c1 := (List.range 20).foldl (fun c i => c.updLane n i fun _ =>
    let v := nth s.lanes i 0
    { FtLane.init with
      state := if c.markedLane n (i / 10) = some (i % 10) then 5 else 1
      lastE := (c.laneOf n i).lastE, lastL := (c.laneOf n i).lastL
      unqual := (c.laneOf n i).unqual, windows := (c.laneOf n i).windows
      wrVref := field 23 16 v, tap1 := field 15 8 v, tap2 := field 7 0 v }) c
  ((((c1.aim n t).applyTargets n).takeEyes n).checkInsertion n 0).checkInsertion n 1

/-- The CA results of a set (R214, R241). Eye widths are not part of a set: free values. DESIGN CHOICE, safe (log entry 23). -/
def Core.restoreCa (c : Core) (n : Nat) (ca : Nat) : Core :=
  let (ew, c0) := c.draw 256
  let (cw, c1) := c0.draw 65536
  ((((((c1.put (Obj.Ca.CA_COMMON n) (field 255 244 ca)).put (Obj.Ca.CA_BIT n) (field 239 128 ca)).put (Obj.Ca.CS_DLY n)
    (field 127 116 ca * 65536 + field 115 104 ca)).put (Obj.Ca.VREFCA n) (field 103 88 ca)).put (Obj.Ca.VREFCS n)
    (field 87 72 ca)).put (Obj.Ca.CA_EYE_W n) ew).put (Obj.Ca.CS_EYE_W n) cw

/-- RESULT of a lane of a restore: the step 10 criteria alone (R209, R413 step 6). -/
def checkResult (x : LaneCheck) : Nat :=
  if 4 < x.corrected || x.inBadBlock then 3 else if 1 ≤ x.corrected then 2 else 1

/-- The lane records of a restore; eye heights are not part of a set: free values (R212, R241). -/
def Core.putRestored (c : Core) (n : Nat) (l : List LaneCheck) : Core :=
  (List.range 20).foldl (fun c i =>
    let f := c.laneOf n i
    let v := f.setv
    let (eh, c1) := c.draw 65536
    let bits := fun (a : Nat) => v.num (a + 3) <<< 18 + v.num (a + 2) <<< 12 + v.num (a + 1) <<< 6 + v.num a
    let t : LaneTrain :=
      { LaneTrain.init with
        rdVref := v.num 6, wrVref := f.wrVref, rdEyeW := f.eyeW, wrEyeW := f.wrEyeW, rdEyeH := eh / 256, wrEyeH := eh % 256,
        tap1 := toSigned 8 f.tap1, recen := v.num 0, rdDqs := v.num 1, wrDqs := v.num 7, wrDq := v.num 8, rdBit := bits 2,
        wrBit := bits 9 }
    c1.put (laneKey n (i / 10) (i % 10)) (t.record (checkResult (nth l i ⟨0, false⟩)))) c

/-- Steps 3 and 4 of a restore: the mode registers, VREFDQ and the DFE taps of the nearest set, and the repair list (R262,
R413). -/
def Core.restoreDram (c : Core) (n : Nat) (s : CalSet) (hardOk : List Bool) : Core :=
  let hard := (c.repairEntries n 0 2).length
  let c1 := (List.range 2).foldl (fun c pr => (c.modeRegisters n pr).writeDramSide n pr fun i =>
    let v := nth s.lanes i 0
    (field 23 16 v, field 15 8 v, field 7 0 v)) c
  (c1.applyRepairs n 0 (hardOk.take hard)).applyRepairs n 1 (hardOk.drop hard)

/-- RESTORE_DONE (R413). DESIGN CHOICE, safe (log entry 23). -/
def Core.restoreDone (c : Core) (mem : Memory) (n : Nat) (l : List LaneCheck) (hardOk : List Bool) : Core × Memory :=
  match c.start with
  | none => (c, mem)
  | some r =>
    if c.dev ≠ Dv.restore || !r.restores.testBit n || !(c.holds Ck.restore n) then (c, mem)
    else
      let t := c.tempOf n
      let judged := (List.range 20).any fun i =>
        !(c.markedLane n (i / 10) = some (i % 10)) && checkResult (nth l i ⟨0, false⟩) = 3
      let s := (nearest t (c.validSets n)).getD CalSet.none
      let c1 := ((((c.release Ck.restore n).dramStart n).restoreDram n s hardOk).restoreLanes n t s).freshMc n
      let c2 := c1.updStart fun r => { r with restores := setBitTo n false r.restores }
      let c3 :=
        if judged then
          ((c2.inc Obj.Dev.RESTORE_FAILS).flag Obj.Dev.FLAGS 3).updStart fun r =>
            { r with trains := setBitTo n true r.trains }
        else
          let (us, k) := ((c2.restoreCa n s.ca).putRestored n l).draw (2 ^ 32)
          let k1 := k.putSummary n t 0 us fun i => checkResult (nth l i ⟨0, false⟩)
          ((k1.put (Obj.Train.TRAIN_STATE n) 2).put (Obj.FtSc.T_CAL n) (ofSigned 32 t)).put (Obj.FtSc.T_CAL_TIME n) c.hubTime
      (c3.advance, mem.lose n)

/-- The exit of self-refresh after its first five steps: an event that came while CK was stopped is answered, STATE is
ACTIVE, and the credit returns (R186 step 6, R201). -/
def Core.leaveRest (c : Core) (mem : Memory) (n : Nat) : Core × Memory :=
  let k := c.beginExit n
  let x := if (c.ddrOf n).alertOwed then k.replay mem n else (k, mem)
  ((x.1.endExit n).updMc n fun m => { m with held := false }, x.2)

/-- SELF_REFRESH_EXIT (R186, R414, R420): the demanded exit next in order runs. For a start the recalibration follows, which
writes nothing; an order for OFFLINE ends in OFFLINE. DEDUCED, unsafe (log entry 22). -/
def Core.selfRefreshExit (c : Core) (mem : Memory) (n : Nat) : Core × Memory :=
  let m := c.mcOf n
  if c.scState n ≠ 2 || !m.srExiting || !(c.exitMayBegin n) || (c.ddrOf n).alertLow then (c, mem)
  else
    let x := c.leaveRest mem n
    let atStart := match c.start with | some r => r.exits.testBit n | none => false
    if m.offAfter then (x.1.enterOffline n true false, x.2)
    else
      let c2 := if atStart then
          ((x.1.recalibrate n false).updStart fun r => { r with exits := setBitTo n false r.exits }).advance
        else x.1
      ((if m.held then c2.releaseAllWrites else c2).autoState, x.2)

/-! ## State requests (R409, R414, R415) -/

/-- Is an engine at work (R409)? -/
def Core.engineBusy (c : Core) : Bool :=
  ((List.range 256).any fun st => c.stState st ≠ St.disabled)
  || ((List.range 128).any fun x => c.get (Obj.Context.STATE x) ≠ 0)
  || ((List.range 32).any fun j => c.jobLive j)
  || (List.range 16).any fun l => c.get (Obj.Lease.STATE l) = 1

def Core.reqService (c : Core) : Status × Core :=
  if !c.inService || c.engineBusy then (.retry, c) else (.ok, c.setDev Dv.service)

/-- LEAVE_SERVICE: with EXTEST in force the hub first forces the TAP to Test-Logic-Reset (R355, R409). -/
def Core.reqLeave (c : Core) : Status × Core :=
  if c.dev ≠ Dv.service then (.retry, c)
  else
    let c1 := if c.tap.instr = .extest then c.jtagReset else c
    (.ok, c1.setDev c1.serviceState)

/-- SLEEP: one request for the exit credits, then every subchannel enters self-refresh (R415). DEDUCED, unsafe (log entry 22). -/
def Core.reqSleep (c : Core) : Status × Core :=
  if !c.inService || c.engineBusy || (List.range 32).any fun n => c.trainState n = 1 then (.retry, c)
  else
    let ns := (List.range 32).filter fun n => !c.scOffline n
    let ask := ns.filter fun n => !(c.holds Ck.srExit n)
    if !(c.admits (400 * ask.length)) then (.busySluice, c.refuse)
    else
      let held := c.sluice.held ++ ask.map fun n => { kind := Ck.srExit, owner := n, mw := 400, forced := false }
      let c1 : Core := c.withSluice { c.sluice with held := held }
      let c2 := (c1.inc64 Obj.Sluice.GRANTS).put Obj.Sluice.PEAK_GRANTED_MW
        (max (c.get Obj.Sluice.PEAK_GRANTED_MW) c1.granted)
      (.ok, (ns.foldl (fun c n => (c.wakeBoth n).orderSelfRefresh n 2) c2).setDev Dv.sleep)

/-- WAKE (R414): subchannels in self-refresh leave it; an entry that has not completed is given up. Held ones stay.
DEDUCED, unsafe (log entry 22). -/
def Core.reqWake (c : Core) : Status × Core :=
  if c.dev ≠ Dv.sleep then (.retry, c)
  else
    let exits := maskOf 32 fun n => c.resting n && !(c.mcOf n).held
    let trains := maskOf 32 fun n => c.binMoved && !(c.scOut n)
    let c1 := c.each 32 fun c n =>
      if exits.testBit n then c.demandExit n
      else if c.scOut n || !(c.mcOf n).srEntering then c
      else (c.updMc n fun m => { m with srEntering := false, srWhy := 0 }).release Ck.srExit n
    let c2 : Core := (c1.takeBin).withStart (some { origin := 2, begun := c.tick, exits := exits, restores := 0,
                                                    trains := trains, cold := false })
    (.ok, (c2.setDev Dv.restore).advance)

/-- Does a source keep the device in SAFE (R409)? -/
def Core.keepsSafe (c : Core) (k : Nat) (v : Nat) : Bool :=
  let s := k / 256 - 0x4900
  (bit 0 v || bit 4 v) &&
    (if c.programmed then 4 ≤ actionByte (c.get Obj.Fc.ACTION_MAP) (field 7 5 v) else (sourceInfo s).cls = 2)

/-- EXIT_SAFE (R409, R410, R411). -/
def Core.reqExitSafe (c : Core) : Status × Core :=
  if c.dev ≠ Dv.safe || (c.objs.any fun e => isSourceStatus e.1 && c.keepsSafe e.1 e.2) then (.retry, c)
  else
    let c1 := c.loadObjects
    let c2 : Core := c1.withStart (some { origin := 3, begun := c.tick, exits := 0, restores := 0, trains := 0,
                                               cold := false })
    (.ok, c2.setDev Dv.selftest)

/-- STATE_REQ (R409). -/
def Core.stateReq (c : Core) (v : Nat) : Status × Core :=
  match v with
  | 1 => c.reqService
  | 2 => c.reqLeave
  | 3 => c.reqSleep
  | 4 => c.reqWake
  | 5 => c.reqExitSafe
  | _ => (.malformed, c)

/-! ## Subchannels held and OFFLINE (R420 to R422) -/

/-- A subchannel returns to service from OFFLINE, and kept requests proceed in order (R420, R421). -/
def Core.backInService (c : Core) (n : Nat) : Core :=
  let c1 := (c.put (Obj.Sc.STATE n) 0).updMc n fun m =>
    { m with holdOver := false, wait := (m.kept ++ m.wait).take 32, stalled := (m.kept ++ m.wait).drop 32 ++ m.stalled,
             kept := [] }
  (c1.releaseAllWrites).autoState

/-- SC_ORDER OFFLINE: a subchannel in self-refresh leaves it and then is OFFLINE (R420). -/
def Core.orderOffline (c : Core) (n : Nat) : Core := c.goOffline n true false

/-- SC_ORDER HOLD (R420). -/
def Core.orderHold (c : Core) (n : Nat) : Status × Core :=
  if c.scOut n then (.ok, c)
  else
    let hold := fun (c : Core) =>
      (((c.wakeBoth n).orderSelfRefresh n 4).updMc n fun m =>
        { m with held := true, holdOver := false }).autoState
    if c.holds Ck.srExit n then (.ok, hold c)
    else match c.askNow Ck.srExit n 400 with
      | (true, c1) => (.ok, hold c1)
      | (false, c1) => (.busySluice, c1)

/-- SC_ORDER ONLINE (R420, R422): from OFFLINE, with the content lost, after a poison fill; from held, through the exit of
self-refresh, or at once where the entry has not completed. -/
def Core.orderOnline (c : Core) (n : Nat) : Status × Core :=
  if c.scOffline n then
    if c.trainState n ≠ 2 then (.retry, c)
    else if c.bitOf Obj.ScMask.CONTENT_LOST n then
      (.ok, if c.waits Ck.fill n || c.holds Ck.fill n then c else c.askQueued Ck.fill n 1500)
    else (.ok, c.backInService n)
  else if (c.mcOf n).held then
    if c.resting n then (.ok, c.demandExit n)
    else (.ok, ((((c.updMc n fun m => { m with held := false, srEntering := false, srWhy := 0 }).release Ck.srExit
      n).releaseAllWrites).autoState))
  else (.ok, c)

/-- SC_ORDER (R420). -/
def Core.scOrder (c : Core) (n v : Nat) : Status × Core :=
  if v = 0 || 3 < v then (.malformed, c)
  else if !(c.inService || c.dev = Dv.service) || c.trainState n = 1 then (.retry, c)
  else match v with
    | 1 => (.ok, c.orderOffline n)
    | 2 => c.orderHold n
    | _ => c.orderOnline n

/-- FILL_DONE (R422). -/
def Core.fillDone (c : Core) (mem : Memory) (n : Nat) : Core × Memory :=
  if c.scOffline n && c.holds Ck.fill n then
    ((((c.putBit Obj.ScMask.CONTENT_LOST n false).release Ck.fill n).freshMc n).backInService n, mem.rebase n .filled)
  else (c, mem)

/-- OFFLINE_HOLD_EXPIRY (R421). -/
def Core.offlineHoldOver (c : Core) (n : Nat) : Core :=
  if c.scOut n then (c.updMc n fun m => { m with holdOver := true }).releaseAllWrites else c

/-! ## Sluice (R423 to R425) -/

/-- SLUICE_GRANT: the head of the queue is granted once credit is free; a training then runs its first step (R425). -/
def Core.sluiceGrant (c : Core) : Core :=
  match c.grantHead with
  | (some x, c1) => if x.kind = Ck.train then c1.trainGranted x.owner else c1
  | (none, c1) => c1

/-- SLUICE_BUDGET_WRITE: the write is well formed; BASE_MW + FLOOR_MW stays below BUDGET_MW (R423). -/
def Core.budgetWrite (c : Core) (k v : Nat) : Status × Core :=
  let c1 := c.put k v
  if c1.get Obj.Sluice.BUDGET_MW ≤ c1.get Obj.Sluice.BASE_MW + c1.get Obj.Sluice.FLOOR_MW then (.malformed, c)
  else (.ok, (if c1.pool < c1.granted then c1.flag Obj.Sluice.FLAGS 1 else c1).touch)

/-- CREDIT_REASK (R424). -/
def Core.creditReask (c : Core) (k : ReaskKind) (n pr : Nat) : Core :=
  match k with
  | .capture => if (c.ftOf n).wanted then c.askCapture n else c
  | .insert => c.reaskInsert n pr
  | .scrub => c.reaskScrub n
  | .repair => c.askRepair n

end Sys2Proof.Machine
end

