-- ==== Sys2Proof/Machine/Sail.lean ====
section
/-! DEFINITION. Sail: messages, the reliable link, topology, triggers, health and epochs
(15_sail_time_array.md R383 to R392, R398 to R400). -/

namespace Sys2Proof.Machine

/-! ## Messages (R384, R387) -/

/-- A message without its CRC: 8-byte header, then the body (R384). -/
def sailBytes (m : SailMsg) : List Byte :=
  toBytes 8 (m.mtype <<< 60 + 1 <<< 56 + (m.lseq % 65536) <<< 40 + (m.hops % 256) <<< 32 + m.body.length <<< 16) ++ m.body

/-- A message leaves a port with its CRC-32C. -/
def Core.sailEmit (c : Core) (k : Nat) (m : SailMsg) : Core :=
  c.emit (.sail k (sailBytes m) (BitVec.ofNat 32 (crc32c (sailBytes m))))

/-- A message as received, once it has passed R384. -/
structure SailIn where
  mtype : Nat
  lseq : Nat
  hops : Nat
  body : List Byte
  deriving DecidableEq, Repr

/-- The body of a type as a number, a TRIGGER's delays left out: byte 0 holds its highest bits. -/
def SailIn.num (m : SailIn) : Nat := ofBytes (if m.mtype = 1 then m.body.take 32 else m.body)

/-- BLEN fits MTYPE, and no reserved bit of the body is set (R384, R387). DEDUCED, unsafe (log entry 63). -/
def sailBodyOk (mtype : Nat) (body : List Byte) : Bool :=
  let n := body.length
  match mtype with
  | 1 =>
    let v := ofBytes (body.take 32)
    (if bit 247 v then n = 160 else n = 32) && field 255 254 v = 0 && field 246 240 v = 0 && field 79 0 v = 0
  | 2 => n = 24 && field 63 0 (ofBytes body) = 0
  | 3 => n = 0
  | 4 => n = 32 && field 246 240 (ofBytes body) = 0 && field 215 192 (ofBytes body) = 0 && field 95 0 (ofBytes body) = 0
  | 5 => n = 32 && field 210 208 (ofBytes body) = 0 && field 31 8 (ofBytes body) = 0
  | _ => false

/-- The checks of R384: none for a message that is discarded. -/
def sailParse (a : SailArrival) : Option SailIn :=
  let h := ofBytes (a.bytes.take 8)
  let body := a.bytes.drop 8
  if 8 ≤ a.bytes.length && crc32c a.bytes = a.crc.toNat && field 59 56 h = 1 && field 31 16 h = body.length
      && field 15 0 h = 0 && sailBodyOk (field 63 60 h) body then
    some { mtype := field 63 60 h, lseq := field 55 40 h, hops := field 39 32 h, body := body }
  else none

/-- STATE of a port: 0 DOWN, 1 LOCKING, 2 HELLO, 3 UP, 4 REFUSED (R404). -/
def Core.spState (c : Core) (k : Nat) : Nat := c.get (Obj.SailPort.STATE k)

def Core.spUp (c : Core) (k : Nat) : Bool := c.spState k = 3

/-! ## The reliable link (R385, R392) -/

/-- A stamp at the `SL_` pins resolves 2^-4 ns (R388). -/
def stamp4 (t : Nat) : Nat := t / 2 ^ 28 * 2 ^ 28

/-- A message starts: it takes its LSEQ, and a HEALTH message of this hub its T_SENT (R385, R387). -/
def Core.sailLaunch (c : Core) (k : Nat) (m : SailMsg) : Core :=
  let s := c.sailOf k
  let body := if m.mtype = 5 && m.hops = 0 then m.body.take 12 ++ toBytes 12 c.hubTime ++ m.body.drop 24 else m.body
  let m1 : SailMsg := { m with lseq := s.txSeq, body := body }
  (c.updSail k fun s => { s with txSeq := (s.txSeq + 1) % 65536, unack := s.unack ++ [m1] }).sailEmit k m1

/-- A message joins a queue: a TRIGGER ahead of every other (R392). -/
def sailQueue (q : List SailMsg) (m : SailMsg) : List SailMsg :=
  if m.mtype = 1 then (q.filter fun x => x.mtype == 1) ++ m :: q.filter fun x => x.mtype != 1 else q ++ [m]

/-- A reliable message is sent on a port: at once while fewer than 64 are unacknowledged, else queued; a full queue discards
it, and counts a TRIGGER (R385, R392). DEDUCED, unsafe (log entry 63). -/
def Core.sailSend (c : Core) (k : Nat) (m : SailMsg) : Core :=
  let s := c.sailOf k
  if s.unack.length < 64 && s.queue = [] then c.sailLaunch k m
  else if s.queue.length < 64 then c.updSail k fun s => { s with queue := sailQueue s.queue m }
  else if m.mtype = 1 then c.inc Obj.Sail.TRIG_DROPPED else c

/-- The next queued message starts, if it may. -/
def Core.sailDrainOne (c : Core) (k : Nat) : Core :=
  let s := c.sailOf k
  match s.queue with
  | [] => c
  | m :: t => if s.unack.length < 64 then (c.updSail k fun s => { s with queue := t }).sailLaunch k m else c

/-- Queued messages start while the window of 64 has room (R385). -/
def Core.sailDrain (c : Core) (k : Nat) : Core := (List.range 64).foldl (fun c _ => c.sailDrainOne k) c

/-- A SEQ of the highest number received in order (R385). -/
def Core.sailAck (c : Core) (k : Nat) : Core :=
  c.sailEmit k { lseq := ((c.sailOf k).rxNext + 65535) % 65536, mtype := 3, hops := 0, body := [] }

/-- Drop the messages that a SEQ acknowledges: all up to its LSEQ (R385). -/
def sailAcked (seq : Nat) (l : List SailMsg) : List SailMsg :=
  match l.findIdx? fun m => m.lseq == seq with
  | some i => l.drop (i + 1)
  | none => l

/-- A SEQ message arrives (R385). DEDUCED, unsafe (log entry 63). -/
def Core.sailSeqIn (c : Core) (k seq : Nat) : Core :=
  (c.updSail k fun s => { s with unack := sailAcked seq s.unack }).sailDrain k

/-- SAIL_RETX: every unacknowledged message is sent again, in order; each counts in RETX (R385). -/
def Core.sailRetx (c : Core) (k : Nat) : Core :=
  (c.sailOf k).unack.foldl (fun c m => (c.sailEmit k m).inc (Obj.SailPort.RETX k)) c

/-- SAIL_SEQ_KEEPALIVE: on a port that passed block lock (R385). -/
def Core.sailKeepalive (c : Core) (k : Nat) : Core := if c.spState k < 2 then c else c.sailAck k

/-- Send on every UP port but one. -/
def Core.sailFlood (c : Core) (skip : Nat) (m : SailMsg) : Core :=
  c.each 4 fun c k => if k ≠ skip && c.spUp k then c.sailSend k m else c

/-! ## Health messages (R387, R391) -/

/-- PENDING_COUNT (R332). -/
def Core.pendingCount (c : Core) : Nat := (c.objs.filter fun e => isSourceStatus e.1 && bit 0 e.2).length

/-- The highest PEND_SEV pending. -/
def Core.worstSev (c : Core) : Nat :=
  c.objs.foldl (fun a e => if isSourceStatus e.1 && bit 0 e.2 then max a (field 7 5 e.2) else a) 0

/-- A HEALTH message of this hub. T_SENT is written when it starts. -/
def Core.healthMsg (c : Core) (kind other cause : Nat) : SailMsg :=
  { lseq := 0, mtype := 5, hops := 0
    body := toBytes 32 (kind <<< 248 + c.get Obj.Id.HUB_ID <<< 216 + c.get Obj.Sail.ROOT <<< 215
      + (c.get Obj.Sail.DEPTH % 16) <<< 211 + c.dev <<< 200 + c.get Obj.Sail.SUBTREE <<< 184 + sat 16 c.pendingCount <<< 168
      + c.worstSev <<< 160 + (other % 2 ^ 32) <<< 32 + cause) }

/-- HEALTH STATUS on every UP port (R391). -/
def Core.sendStatus (c : Core) : Core := c.sailFlood 4 (c.healthMsg 1 0 0)

def Core.sendHello (c : Core) (k : Nat) : Core := c.sailSend k (c.healthMsg 0 0 0)

/-! ## Topology (R389, R391) -/

/-- ROLE (R389). -/
def Core.roleNow (c : Core) : Nat :=
  if c.isSet Obj.Sail.ROOT then (if c.spState 0 = 4 then 4 else if c.spState 0 = 3 then 1 else 2)
  else if c.spState 0 = 3 then 1
  else if c.spUp 1 || c.spUp 2 || c.spUp 3 then 3
  else 0

/-- Does a role act as helm: HELM, and REFUSED_HELM of its own subtree (R389)? DEDUCED, unsafe (log entry 65). -/
def isHelm (role : Nat) : Bool := role = 2 || role = 4

/-- SUBTREE: 1 plus the SUBTREE of the latest STATUS of each child (R391). -/
def Core.subtreeNow (c : Core) : Nat :=
  sat 16 ([1, 2, 3].foldl (fun a k => if c.spUp k then a + (c.sailOf k).subtree else a) 1)

/-- ROLE, DEPTH, SUBTREE and ARRAY_HUBS follow the ports. A hub that enters ROLE HELM counts its epochs from 1 again (R398);
a refused port is sent the HELLO that has changed (R390). DEDUCED, unsafe (log entry 65). -/
def Core.topology (c : Core) : Core :=
  let was := c.get Obj.Sail.ROLE
  let wasDepth := c.get Obj.Sail.DEPTH
  let role := c.roleNow
  let sub := c.subtreeNow
  let c1 := ((c.put Obj.Sail.ROLE role).put Obj.Sail.DEPTH (if role = 1 then (c.sailOf 0).farDepth + 1 else 0)).put
    Obj.Sail.SUBTREE sub
  let c2 := c1.put Obj.Sail.ARRAY_HUBS (if isHelm role then sub else 0)
  let c3 := if isHelm role && 512 < sub then c2.flag Obj.Sail.FLAGS 5 else c2
  let c4 : Core := if isHelm role && !isHelm was then c3.withSail { c3.sail with epochNum := 0 } else c3
  if c4.get Obj.Sail.DEPTH = wasDepth then c4
  else c4.each 4 fun c k => if c.spState k = 4 then c.sendHello k else c

/-- ROOT was written: the roles follow, and a refused port starts again with the new HELLO (R389, R390). -/
def Core.rootWritten (c : Core) : Core :=
  let c1 := c.each 4 fun c k =>
    if c.spState k = 4 then ((c.put (Obj.SailPort.STATE k) 2).put (Obj.SailPort.REFUSE_CAUSE k) 0).sendHello k else c
  c1.topology

/-! ## Bring-up (R386, R390) -/

/-- A port returns to DOWN, or to LOCKING while it is enabled: reliable messages are discarded and LSEQ restarts (R386). -/
def Core.sailRestart (c : Core) (k : Nat) : Core :=
  let c1 := c.updSail k fun _ => SailPortState.init
  (c1.put (Obj.SailPort.STATE k) (c.get (Obj.SailPort.ENABLE k))).topology

/-- SAIL_LINK_DOWN (R386). -/
def Core.sailLinkDown (c : Core) (k : Nat) : Core :=
  if c.spState k < 2 then c
  else
    let up := c.spUp k
    let c1 := ((c.sailRestart k).flag (Obj.SailPort.FLAGS k) 2).raise (Src.slLink k) (ctxNone 0 0)
    if up then c1.flag Obj.Sail.FLAGS 0 else c1

/-- SAIL_BLOCK_LOCK (R386). -/
def Core.sailBlockLock (c : Core) (k : Nat) : Core :=
  if c.spState k ≠ 1 then c else (c.put (Obj.SailPort.STATE k) 2).sendHello k

/-- ENABLE of a port was written: 0 holds it DOWN (R404). -/
def Core.sailEnable (c : Core) (k : Nat) : Core :=
  if c.isSet (Obj.SailPort.ENABLE k) then (if c.spState k = 0 then c.put (Obj.SailPort.STATE k) 1 else c)
  else if c.spState k = 0 then c
  else
    let up := c.spUp k
    let c1 := c.sailRestart k
    if up then c1.flag Obj.Sail.FLAGS 0 else c1

/-- The first cause of R390 that applies to a HELLO; 0 for none. On SP0 only WIRING is checked.
DEDUCED, unsafe (log entry 64). -/
def Core.helloCause (c : Core) (k : Nat) (fromSp0 root : Bool) : Nat :=
  if k = 0 then (if fromSp0 then 2 else 0)
  else if !fromSp0 then 2
  else if root then 1
  else if 8 < c.get Obj.Sail.DEPTH + 1 then 3
  else 0

/-- The Sail flag of a cause: DUAL_HELM 1, WIRING 4, DEPTH_EXCEEDED 3 (R404). -/
def causeFlag (cause : Nat) : Nat := if cause = 1 then 1 else if cause = 2 then 4 else 3

/-- A port enters REFUSED (R390). -/
def Core.sailRefuse (c : Core) (k cause : Nat) : Core :=
  let c1 := if c.spUp k then c.flag Obj.Sail.FLAGS 0 else c
  let c2 := c1.updSail k fun s => { s with queue := s.queue.filter fun m => m.mtype == 5 }
  (((c2.put (Obj.SailPort.STATE k) 4).put (Obj.SailPort.REFUSE_CAUSE k) cause).flag (Obj.SailPort.FLAGS k) 1).topology

/-- The parent, or an end that finds its wiring wrong, refuses the far end (R390). DEDUCED, unsafe (log entry 64). -/
def Core.refuseHello (c : Core) (k far cause : Nat) : Core :=
  let c1 := c.sailRefuse k cause
  if cause = 1 then
    let m := c1.healthMsg 2 far 0
    ((c1.sailFlood k m).sailSend k m).raise Src.slDualHelm (ctxNone 0 0)
  else
    let c2 := c1.flag Obj.Sail.FLAGS (causeFlag cause)
    let m := c2.healthMsg 3 far cause
    (c2.sailFlood k m).sailSend k m

/-- HEALTH HELLO (R386, R390). A refused port looks again only at a HELLO that has changed. DEDUCED, unsafe (log entry 64). -/
def Core.helloIn (c : Core) (k far : Nat) (fromSp0 root : Bool) (depth : Nat) : Core :=
  let s := c.sailOf k
  let same := s.hello && c.get (Obj.SailPort.FAR_ID k) = far && s.farRoot = root && s.farDepth = depth
  let st := c.spState k
  if same && 3 ≤ st then c
  else
    let c1 := (c.put (Obj.SailPort.FAR_ID k) far).updSail k fun s =>
      { s with farRoot := root, farDepth := depth, hello := true }
    if st = 4 && k = 0 then c1
    else
      let cause := c1.helloCause k fromSp0 root
      if cause ≠ 0 then c1.refuseHello k far cause
      else if st = 3 then c1.topology
      else
        let c2 := (((c1.put (Obj.SailPort.STATE k) 3).put (Obj.SailPort.REFUSE_CAUSE k) 0).flag Obj.Sail.FLAGS 0).topology
        if st = 4 then c2.sendHello k else c2

/-- HEALTH STATUS is recorded and counted into SUBTREE (R391). -/
def Core.statusIn (c : Core) (k id v : Nat) : Core :=
  let hubs := c.sail.hubs
  let known := hubs.any fun e => e.1 == id
  let c1 : Core :=
    if id = c.get Obj.Id.HUB_ID then c
    else if known || hubs.length < 512 then c.withSail { c.sail with hubs := hubs.setNum id v }
    else c.flag Obj.Sail.FLAGS 5
  if c.get (Obj.SailPort.FAR_ID k) ≠ id then c1
  else
    (c1.updSail k fun s =>
      { s with farRoot := bit 215 v, farDepth := field 214 211 v, subtree := field 199 184 v }).topology

/-- DUAL_HELM or REFUSED that names this hub (R390). -/
def Core.refusedIn (c : Core) (k cause : Nat) : Core :=
  let c1 := c.flag Obj.Sail.FLAGS (causeFlag cause)
  let c2 := if cause = 1 then c1.raise Src.slDualHelm (ctxNone 0 0) else c1
  if k = 0 && 2 ≤ c2.spState 0 && c2.spState 0 ≠ 4 then c2.sailRefuse 0 cause else c2

/-- A HEALTH message is delivered, and flooded with HOPS + 1; a HELLO stays on its link (R391). -/
def Core.healthIn (c : Core) (k : Nat) (fromSp0 : Bool) (m : SailIn) : Core :=
  let v := m.num
  let id := field 247 216 v
  let kind := field 255 248 v
  if kind = 0 then c.helloIn k id fromSp0 (bit 215 v) (field 214 211 v)
  else
    let mine := field 63 32 v = c.get Obj.Id.HUB_ID
    let c1 :=
      if kind = 1 then c.statusIn k id v
      else if kind = 2 then (if mine then c.refusedIn k 1 else c)
      else if kind = 3 then (if mine then c.refusedIn k (field 7 0 v) else c)
      else c
    c1.sailFlood k { lseq := 0, mtype := 5, hops := m.hops + 1, body := m.body }

/-! ## Triggers (R392) -/

/-- The TRIGGER this hub originates, on every UP port (R387, R392). -/
def Core.sendTrigger (c : Core) (w id tt : Nat) (delays : Option (List Nat)) : Core :=
  let v := w <<< 248 + ofBool delays.isSome <<< 247 + (id % 2 ^ 32) <<< 208 + c.get Obj.Id.HUB_ID <<< 176 + (tt % 2 ^ 96) <<< 80
  let more := match delays with
    | some l => ((List.range 16).map fun i => toBytes 8 (nth l i 0)).flatten
    | none => []
  c.sailFlood 4 { lseq := 0, mtype := 1, hops := 0, body := toBytes 32 v ++ more }

/-- The per-trigger delays of a TRIGGER (R104, R387). -/
def SailIn.delays (m : SailIn) : Option (List Nat) :=
  if bit 247 m.num then some ((List.range 16).map fun i => ofBytes (slice (32 + 8 * i) 8 m.body)) else none

/-- A TRIGGER is forwarded, and offered to Weir unless this hub originated it (R106, R392). -/
def Core.sailTriggerIn (c : Core) (k : Nat) (m : SailIn) : Core :=
  let v := m.num
  let c1 := c.sailFlood k { lseq := 0, mtype := 1, hops := m.hops + 1, body := m.body }
  if field 207 176 v = c.get Obj.Id.HUB_ID then c1
  else (c1.decideTrigger (field 253 248 v)
    { src := 1, stream := 0, tidx := 0, tt := field 175 80 v, id := field 239 208 v, detector := 0, level := 0,
      delays := m.delays, port := 0 }).2

/-! ## Epochs (R398 to R400) -/

/-- The latest pending or latched T_E (R399). -/
def Core.latestEpoch (c : Core) : Option Nat :=
  match c.sail.epochs.getLast? with
  | some e => some e.te
  | none => c.sail.latched

/-- An epoch is accepted as pending, or refused and counted (R399). DEDUCED, unsafe (log entry 65). -/
def Core.acceptEpoch (c : Core) (te num : Nat) : Core :=
  let close := match c.latestEpoch with | some t => decide (te < t + 100000) | none => false
  if close || 4 ≤ c.sail.epochs.length then c.inc Obj.Sail.EPOCH_REFUSED
  else
    let late := decide (te * 2 ^ 32 < c.hubTime)
    let c1 : Core := c.withSail { c.sail with
      epochs := c.sail.epochs ++ [{ te := te, num := num, late := late, stepped := false }] }
    if late then (c1.flag Obj.Sail.FLAGS 2).raise Src.slEpochLate (ctxNone 0 0) else c1

/-- The helm originates an EPOCH (R398). DEDUCED, unsafe (log entry 65). -/
def Core.originateEpoch (c : Core) : Core :=
  let num := (c.sail.epochNum + 1) % 2 ^ 32
  let te := (c.timeNs + c.get Obj.Sail.EPOCH_LEAD_US * 1000) % 2 ^ 64
  let c1 : Core := c.withSail { c.sail with epochNum := num }
  (c1.sailFlood 4 { lseq := 0, mtype := 2, hops := 0,
                    body := toBytes 24 (num <<< 160 + te <<< 96 + c.get Obj.Id.HUB_ID <<< 64) }).acceptEpoch te num

/-- EPOCH_NOW (R398). -/
def Core.epochNow (c : Core) : Status × Core :=
  if isHelm (c.get Obj.Sail.ROLE) then (.ok, c.originateEpoch) else (.retry, c)

/-- EPOCH_PERIOD (R398). -/
def Core.epochPeriod (c : Core) : Core :=
  if isHelm (c.get Obj.Sail.ROLE) && c.get Obj.Sail.EPOCH_PERIOD_MS ≠ 0 then c.originateEpoch else c

/-- An EPOCH flows only downward (R398). DEDUCED, unsafe (log entry 65). -/
def Core.epochIn (c : Core) (k : Nat) (m : SailIn) : Core :=
  if k ≠ 0 then c.inc Obj.Sail.EPOCH_REFUSED
  else
    (c.sailFlood k { lseq := 0, mtype := 2, hops := m.hops + 1, body := m.body }).acceptEpoch (field 159 96 m.num)
      (field 191 160 m.num)

/-- The values of the snapshot table at the latch tick (R400). -/
def Core.snapshot (c : Core) (e : Epoch) : Tbl Nat :=
  let streams := (List.range 256).map fun st =>
    (Obj.SnapStream.STREAM (st / 128) (st % 128),
     c.get (Obj.Stream.NEXT_INDEX st) <<< 192 + c.get (Obj.Stream.CELLS st) <<< 128
     + c.get (Obj.Stream.GAP_SAMPLES st) <<< 64 + c.get (Obj.Stream.LINK_ERR_CELLS st) <<< 32
     + c.get (Obj.Stream.DISCARDED st))
  let ctxs := (List.range 128).map fun x =>
    (Obj.SnapContext.CONTEXT x,
     c.get (Obj.Context.FRAME x) <<< 128 + c.get (Obj.Context.UPDATES x) <<< 64 + c.get (Obj.Context.UPDATES_DROPPED x))
  [(Obj.Snap.EPOCH_NUM, e.num), (Obj.Snap.T_EPOCH, e.te), (Obj.Snap.T_LATCH, c.hubTime),
   (Obj.Snap.SNAP_FLAGS, ofBool e.late + 2 * ofBool e.stepped + 4 * ofBool (!c.timeValid))]
  ++ streams ++ ctxs
  ++ [(Obj.SnapHub.EVENTS, c.get Obj.Fc.EVENTS), (Obj.SnapHub.CHAIN_NEXT, c.get Obj.Sec.CHAIN_NEXT),
      (Obj.SnapHub.THROTTLE_TIME, c.get Obj.Millpond.THROTTLE_TIME),
      (Obj.SnapHub.ELASTIC_FILL, c.elasticFill)]

/-- EPOCH_LATCH: the first pending epoch, once hub time has reached its T_E (R399, R400). -/
def Core.epochLatch (c : Core) : Core :=
  match c.sail.epochs with
  | [] => c
  | e :: t =>
    if c.hubTime < e.te * 2 ^ 32 then c
    else
      let c1 := if c.sail.snap.isNone then
          (c.keepShown Obj.Snap.READY [Obj.Snap.GEN]).put Obj.Snap.GEN (nextGen (c.get Obj.Snap.GEN))
        else c
      (c1.withSail { c1.sail with epochs := t, latched := some e.te, snap := some (c.snapshot e) }).put
        Obj.Snap.READY 0

/-- SNAPSHOT_PUBLISH: the values are published as one generation (R400). -/
def Core.snapshotPublish (c : Core) : Core :=
  match c.sail.snap with
  | none => c
  | some t =>
    let c1 := t.foldl (fun c e => c.put e.1 e.2) c
    (c1.withSail { c1.sail with snap := none }).put Obj.Snap.READY 1

end Sys2Proof.Machine
end

