-- ==== Sys2Proof/Machine/Timekeeper.lean ====
section
/-! DEFINITION. Hub time and its discipline by PTP, `PPS_IN` and Sail, and the receiver of Sail messages
(15_sail_time_array.md R385, R390, R393 to R397). -/

namespace Sys2Proof.Machine

/-- Nearest integer, a half upward. DEDUCED, unsafe (log entry 66). -/
def ratRound (x : Rat) : Int := (x + 1 / 2).floor

/-- Nanoseconds of a difference of stamps in units of 2^-32 ns. -/
def nsOf (a b : Nat) : Rat := (((a : Int) - (b : Int) : Int) : Rat) / 4294967296

/-- |x|. -/
def ratAbs (x : Rat) : Rat := if x < 0 then -x else x

/-! ## Sources (R393) -/

/-- The source in force: 0 NONE, 1 PTP, 2 SAIL; AUTO takes SAIL in ROLE MEMBER and PTP elsewhere (R393). -/
def Core.timeMode (c : Core) : Nat :=
  let v := c.get Obj.Time.TIME_SOURCE
  if v = 3 then (if c.get Obj.Sail.ROLE = 1 then 2 else 1) else v

/-- TIME_SOURCE was written: the next measurement finds the loop acquiring (R397). -/
def Core.sourceWritten (c : Core) : Core :=
  let c1 := c.put Obj.Time.DISC_STATE (ofBool (c.get Obj.Time.TIME_SOURCE ≠ 0))
  c1.withTime { c1.time with last := none, good := 0, exchange := none, sync := none, ptpClose := false }

/-! ## The loop (R397) -/

/-- TRIM of a trim in ppb: clamped, in units of 2^-32 ns per tick (R397). -/
def trimOf (ppb : Rat) : Int :=
  let x : Rat := if ppb < -200000 then -200000 else if (200000 : Rat) < ppb then 200000 else ppb
  ratRound (x * 8589934592 / 1000000000)

/-- Hub time steps by −o; a forward step marks the pending epochs it passes (R397, R399). DEDUCED, unsafe (log entry 66). -/
def Core.stepTime (c : Core) (o : Rat) : Core :=
  let t := (boundTime ((c.hubTime : Int) - ratRound (o * 4294967296))).1
  let es := c.sail.epochs.map fun e =>
    if c.hubTime < e.te * 2 ^ 32 && e.te * 2 ^ 32 ≤ t then { e with stepped := true } else e
  { c with hubTime := t, sail := { c.sail with epochs := es } }

/-- The step branch of R397. DEDUCED, unsafe (log entry 66). -/
def Core.stepLoop (c : Core) (tm : TimeState) (o : Rat) (stratum : Nat) : Core :=
  let c1 := (((c.stepTime o).inc Obj.Time.STEPS).flag Obj.Time.FLAGS 1).put Obj.Time.DISC_STATE 1
  c1.withTime { tm with good := 0, last := some c.tick, stratum := stratum }

/-- A measurement o, hub minus source in ns, is applied (R397). The first after the hub leaves RAMP or HOLDOVER or after
TIME_SOURCE changes steps; `stratum` is what the hub then says of its time (R387). DEDUCED, unsafe (log entry 66). -/
def Core.measure (c : Core) (o : Rat) (stratum : Nat) : Core :=
  let tm := c.time
  let c0 := (c.put Obj.Time.OFFSET_PS (satSigned 32 (ratRound (o * 1000)))).put Obj.Time.TIME_VALID 1
  let limit : Rat := (c.get Obj.Time.STEP_LIMIT_NS : Rat)
  match tm.last with
  | none => c0.stepLoop tm o stratum
  | some t =>
    if limit < ratAbs o then c0.stepLoop tm o stratum
    else
      let tc : Rat := (c.get Obj.Time.LOOP_TC_MS : Rat) / 1000
      let ti : Rat := ((c.tick - t : Nat) : Rat) * 2 / 1000000000
      let f := tm.f - o * ti / (4 * tc * tc)
      let good := if ratAbs o < 100 then tm.good + 1 else 0
      let state := c.get Obj.Time.DISC_STATE
      let c1 := (c0.put Obj.Time.TRIM (ofSigned 32 (trimOf (f - o / tc)))).put Obj.Time.DISC_STATE
        (if 8 ≤ good then 2 else if state = 1 then 0 else state)
      c1.withTime { c1.time with f := f, good := good, last := some c.tick, stratum := stratum }

/-- HOLDOVER: no measurement was applied for HOLDOVER_S (R397). DESIGN CHOICE, unsafe (log entry 9). -/
def Core.holdover (c : Core) : Core :=
  if !c.timeRuns || c.timeMode = 0 || c.get Obj.Time.DISC_STATE = 3 then c
  else
    let c1 := ((c.put Obj.Time.DISC_STATE 3).put Obj.Time.TRIM (ofSigned 32 (trimOf c.time.f))).flag Obj.Time.FLAGS 0
    (c1.withTime { c1.time with last := none, good := 0 }).raise Src.timeLost (ctxNone 0 0)

/-! ## Sail TIME (R387, R388, R395) -/

/-- A TIME message of this hub. -/
def Core.timeMsg (c : Core) (kind num stamp : Nat) : SailMsg :=
  { lseq := 0, mtype := 4, hops := 0
    body := toBytes 32 (kind <<< 248 + ofBool c.timeValid <<< 247 + (num % 65536) <<< 224 + c.time.stratum <<< 216
      + (stamp % 2 ^ 96) <<< 96) }

/-- TIME_SYNC_SEND: SYNC on each child port (R395). -/
def Core.timeSyncSend (c : Core) : Core :=
  c.each 4 fun c k => if k ≠ 0 && c.spUp k then c.sailEmit k (c.timeMsg 0 0 (stamp4 c.hubTime)) else c

/-- SYNC: in SAIL mode the child keeps the stamps and sends its DREQ (R395). -/
def Core.syncIn (c : Core) (k : Nat) (v stamp : Nat) : Core :=
  if k ≠ 0 || c.timeMode ≠ 2 then c
  else
    let num := (c.time.dreqNum + 1) % 65536
    let t3 := stamp4 c.hubTime
    let c1 := c.sailEmit 0 (c.timeMsg 1 num t3)
    c1.withTime { c1.time with
        dreqNum := num
        exchange := some { num := num, t1 := field 191 96 v, t2 := stamp4 stamp, t3 := t3, valid := bit 247 v } }

/-- DREQ: the parent answers with its arrival (R395). -/
def Core.dreqIn (c : Core) (k : Nat) (v stamp : Nat) : Core :=
  if k = 0 then c else c.sailEmit k (c.timeMsg 2 (field 239 224 v) (stamp4 stamp))

/-- DRESP: the exchange is complete and its offset is applied (R395, R397). -/
def Core.drespIn (c : Core) (k : Nat) (v stamp : Nat) : Core :=
  match c.time.exchange with
  | none => c
  | some x =>
    if k ≠ 0 || c.timeMode ≠ 2 || x.num ≠ field 239 224 v then c
    else
      let c1 : Core := c.withTime { c.time with exchange := none }
      if !x.valid || (100000 : Rat) < nsOf stamp x.t2 then c1
      else
        let delay := (nsOf x.t2 x.t1 + nsOf (field 191 96 v) x.t3) / 2 + (c.getInt (Obj.SailPort.ASYM_PS 0) : Rat) / 1000
        let s := field 223 216 v
        (c1.put (Obj.SailPort.LINK_DELAY_PS 0) (sat 32 (ratRound (delay * 1000)).toNat)).measure
          (nsOf x.t2 x.t1 - delay) (min 255 (s + 1))

/-- A TIME message is delivered. -/
def Core.timeIn (c : Core) (k : Nat) (m : SailIn) (stamp : Nat) : Core :=
  match field 255 248 m.num with
  | 0 => c.syncIn k m.num stamp
  | 1 => c.dreqIn k m.num stamp
  | 2 => c.drespIn k m.num stamp
  | _ => c

/-! ## Arrivals (R384, R385, R390) -/

/-- A message in LSEQ order is delivered: a port that is not UP carries only HEALTH (R390). -/
def Core.sailDeliver (c : Core) (k : Nat) (a : SailArrival) (m : SailIn) : Core :=
  if m.mtype = 5 then c.healthIn k a.fromSp0 m
  else if !c.spUp k then c
  else if m.mtype = 1 then c.sailTriggerIn k m
  else c.epochIn k m

/-- A Sail message arrives on a port: checked, acknowledged, and delivered by its type (R384, R385).
DEDUCED, unsafe (log entry 63). -/
def Core.sailRx (c : Core) (k : Nat) (a : SailArrival) : Core :=
  if c.spState k < 2 then c
  else match sailParse a with
    | none => (c.inc (Obj.SailPort.CRC_ERRORS k)).flag (Obj.SailPort.FLAGS k) 0
    | some m =>
      if m.mtype = 3 then (c.inc64 (Obj.SailPort.MSGS_RX k)).sailSeqIn k m.lseq
      else if m.mtype = 4 then
        if c.spUp k then (c.inc64 (Obj.SailPort.MSGS_RX k)).timeIn k m a.stamp.toNat else c
      else if m.lseq ≠ (c.sailOf k).rxNext then c.sailAck k
      else
        let c1 := (c.updSail k fun s => { s with rxNext := (s.rxNext + 1) % 65536 }).inc64 (Obj.SailPort.MSGS_RX k)
        (c1.sailAck k).sailDeliver k a m

/-! ## PTP (R394) -/

/-- Is (identity, quality) a better master than another: by quality without the steps removed, then by identity? -/
def betterMaster (a b : Nat × Nat) : Bool :=
  a.2 / 256 < b.2 / 256 || (a.2 / 256 = b.2 / 256 && a.1 < b.1)

/-- The best master heard (R394). -/
def bestMaster : List (Nat × Nat) → Option (Nat × Nat)
  | [] => none
  | x :: t => match bestMaster t with
    | none => some x
    | some y => some (if betterMaster y x then y else x)

/-- PTP_ANNOUNCE (R394): a master of another domain is not heard, one on the ARB timescale not used.
DEDUCED, unsafe (log entry 66). -/
def Core.ptpAnnounce (c : Core) (m : PtpAnnounce) : Core :=
  if !c.timeRuns || c.timeMode ≠ 1 || m.domain.toNat ≠ c.get Obj.Time.PTP_DOMAIN then c
  else
    let id := m.clockIdentity.toNat
    let rest := c.time.masters.filter fun x => x.1 != id
    let c1 := if m.arb then c.flag Obj.Time.FLAGS 2 else c
    let ms := if m.arb then rest else rest ++ [(id, m.quality.toNat)]
    let best := match bestMaster ms with | some x => x.1 | none => 0
    (c1.withTime { c1.time with masters := ms }).put Obj.Time.PTP_GM_ID best

/-- PTP_SYNC: a Sync or Follow_Up of the master in use. A Delay_Req follows once the origin time is known; a Follow_Up
keeps the arrival of its Sync (R394). DEDUCED, unsafe (log entry 66). -/
def Core.ptpSync (c : Core) (m : PtpSync) : Core :=
  let id := m.clockIdentity.toNat
  if !c.timeRuns || c.timeMode ≠ 1 || c.time.masters = [] || id ≠ c.get Obj.Time.PTP_GM_ID then c
  else match m.origin with
    | none => c.withTime { c.time with sync := some (id, none, m.arrival.toNat, m.departure.toNat) }
    | some o =>
      let arrival := match c.time.sync with
        | some (i, none, t, _) => if i = id then t else m.arrival.toNat
        | _ => m.arrival.toNat
      let c1 : Core := c.withTime { c.time with sync := some (id, some o.toNat, arrival, m.departure.toNat) }
      c1.emit .delayReq

/-- A PTP offset: with PPS_MODE ON it is applied only while it exceeds 10 µs, and otherwise labels the second (R396). -/
def Core.ptpOffset (c : Core) (o : Rat) : Core :=
  if c.isSet Obj.Time.PPS_MODE then
    let close := ratAbs o ≤ 10000
    let c1 : Core := c.withTime { c.time with ptpClose := close }
    if close then c1 else c1.measure o 0
  else c.measure o 0

/-- PTP_DELAY_RESP: o is what the arrival of the Sync exceeds its origin by, less the mean path delay (R394, R397). -/
def Core.ptpDelayResp (c : Core) (m : PtpDelayResp) : Core :=
  match c.time.sync with
  | some (id, some t1, t2, t3) =>
    if !c.timeRuns || c.timeMode ≠ 1 || id ≠ m.clockIdentity.toNat then c
    else
      let c1 : Core := c.withTime { c.time with sync := none }
      c1.ptpOffset ((nsOf t2 t1 - nsOf m.receive.toNat t3) / 2)
  | _ => c

/-- PPS_EDGE (R396). DEDUCED, unsafe (log entry 66). -/
def Core.ppsEdge (c : Core) (stamp : Nat) : Core :=
  if !c.timeRuns || c.timeMode ≠ 1 || !c.isSet Obj.Time.PPS_MODE then c
  else
    let t : Rat := (stamp : Rat) / 4294967296
    let o := t - (ratRound (t / 1000000000) : Rat) * 1000000000
    if (10000 : Rat) < ratAbs o then (c.inc Obj.Time.PPS_REJECTS).flag Obj.Time.FLAGS 3
    else if c.time.ptpClose then c.measure o 0 else c

end Sys2Proof.Machine
end

