-- ==== Sys2Proof/Machine/Baton.lean ====
section
/-! DEFINITION. The baton arbiter: heartbeats, decisions and moves of the baton (15_sail_time_array.md R401 to R403;
12_fault_collection.md R304). -/

namespace Sys2Proof.Machine

/-- The lowest bit of a half's register in HEARTBEATS (R404). -/
def beatBase (h : Nat) : Nat := if h = 0 then 32 else 0

/-- Does a half count as HEALTHY: its heartbeat says so, is less than 10 ms old, and no digest is missed since
(R401, R402)? -/
def Core.healthy (c : Core) (h : Nat) : Bool :=
  (c.halfSt h).alive && (c.halfSt h).onTime && c.bitOf Obj.Baton.HEARTBEATS (beatBase h)

/-- HEALTH_MASK follows (R404). -/
def Core.showHealth (c : Core) : Core :=
  c.put Obj.Baton.HEALTH_MASK (ofBool (c.healthy 0) + 2 * ofBool (c.healthy 1))

/-- HEARTBEAT_WRITE (R401): the register takes what is written; a BEAT that does not follow is no heartbeat, and RELEASE of
the half without the baton has no effect. DEDUCED, unsafe (log entry 67). -/
def Core.heartbeat (c : Core) (h v : Nat) : Status × Core :=
  if field 15 3 v ≠ 0 then (.malformed, c)
  else if !(c.halfSt h).running then (.retry, c)
  else
    let b := beatBase h
    let prev := field (b + 31) (b + 16) (c.get Obj.Baton.HEARTBEATS)
    let follows := field 31 16 v = (prev + 1) % 65536
    let c1 := c.put Obj.Baton.HEARTBEATS (setField (b + 31) b (c.get Obj.Baton.HEARTBEATS) v)
    let c2 := c1.updHalf h fun s =>
      { s with
        release := bit 2 v && c.get Obj.Baton.BATON = h
        claim := bit 1 v
        alive := s.alive || follows
        onTime := s.onTime || (follows && bit 0 v) }
    (.ok, c2.showHealth)

/-- SUP_WDOG: a heartbeat is 10 ms old; a half in TRIAL reverts (R304, R345, R401). DEDUCED, unsafe (log entry 21). -/
def Core.supWdog (c : Core) (f : Fuses) (h : Nat) : Core :=
  if !(c.halfSt h).running then c
  else
    let c1 := ((c.updHalf h fun s => { s with alive := false }).raise (Src.supWdog h) (ctxNone 0 0)).showHealth
    if c1.halfState h = 2 then c1.trialRevert f h else c1

/-! ## Decisions (R402) -/

/-- Have both halves posted, and the same digest? -/
def Decision.agreed (d : Decision) : Bool := d.east.isSome && d.east = d.west

/-- Have both halves posted, and digests that differ? -/
def Decision.differs (d : Decision) : Bool := d.east.isSome && d.west.isSome && d.east ≠ d.west

/-- DECISION_POST. -/
def Core.decisionPost (c : Core) (h num digest : Nat) : Core :=
  if !(c.halfSt h).running then c
  else
    let old := (c.decisions.find? fun d => d.num == num).getD { num := num, east := none, west := none }
    let d : Decision := if h = 0 then { old with east := some digest } else { old with west := some digest }
    let rest := c.decisions.filter fun d => d.num != num
    c.withDecisions (if d.agreed then rest else rest ++ [d])

/-- DECIDE_MISS: one digest is missing after 100 µs; the late half is not HEALTHY until its next heartbeat with HEALTHY
set. -/
def Core.decideMiss (c : Core) (num : Nat) : Core :=
  match c.decisions.find? fun d => d.num == num && (d.east.isNone || d.west.isNone) with
  | none => c
  | some d =>
    let late := if d.east.isNone then 0 else 1
    let c1 : Core := c.withDecisions (c.decisions.filter fun d => d.num != num)
    ((c1.inc Obj.Baton.DECIDE_MISS).updHalf late fun s => { s with onTime := false }).showHealth

/-! ## Arbitration (R403) -/

/-- The baton moves to the other half. -/
def Core.moveBaton (c : Core) (cause : Nat) : Core :=
  let o := 1 - c.get Obj.Baton.BATON
  let c1 := (((c.put Obj.Baton.BATON o).inc Obj.Baton.MOVES).put Obj.Baton.LAST_MOVE_CAUSE cause).put Obj.Baton.T_LAST_MOVE
    c.hubTime
  let c2 := [1, 2, 33, 34].foldl (fun c n => c.putBit Obj.Baton.HEARTBEATS n false) c1
  let c3 := [0, 1].foldl (fun c h => c.updHalf h fun s => { s with release := false, claim := false }) c2
  c3.raise Src.batonMoved (ctxNone 0 0)

/-- The row of R403 that governs: 0 none, 1 CONFLICT, 2 BOTH_CLAIM, 3 HOLDER_DOWN, 4 RELEASE. DEDUCED, unsafe (log entry 67). -/
def Core.batonCase (c : Core) : Nat :=
  let b := c.get Obj.Baton.BATON
  let o := 1 - b
  if c.healthy 0 && c.healthy 1 && c.decisions.any Decision.differs then 1
  else if (c.halfSt 0).claim && (c.halfSt 1).claim then 2
  else if !c.healthy b && c.healthy o then 3
  else if (c.halfSt b).release && c.healthy o then 4
  else 0

/-- BATON_ARBITRATE (R403). DEDUCED, unsafe (log entry 67). -/
def Core.arbitrate (c : Core) : Core :=
  let b := c.get Obj.Baton.BATON
  let o := 1 - b
  let conflict := fun (c : Core) => c.raiseStanding Src.batonConflict (ctxNone 0 0)
  let calm := c.endStanding Src.batonConflict
  match c.batonCase with
  | 1 => conflict (c.withDecisions (c.decisions.filter fun d => !d.differs))
  | 2 =>
    if c.healthy 0 && c.healthy 1 then conflict c
    else if c.healthy o && !c.healthy b then calm.moveBaton 1
    else calm
  | 3 => calm.moveBaton 2
  | 4 => calm.moveBaton 3
  | _ =>
    if (c.halfSt o).claim then
      (calm.inc Obj.Baton.CLAIM_REFUSED).updHalf o fun s => { s with claim := false }
    else calm

end Sys2Proof.Machine
end

