-- ==== Sys2Proof/Machine/Operands.lean ====
section
/-! DEFINITION. What a written value must be in itself: its length, the encoding of its type, its reserved bits and its
fixed range (00_scope.md R6, R8, R10, R446 check 4; 14_object_dictionary.md R373). -/

namespace Sys2Proof.Machine

/-- The encoding of a type (R8): a Boolean above 1, a NaN and a zero denominator are refused. -/
def Ty.encodes : Ty → Nat → Bool
  | .bool, v => v ≤ 1
  | .f32, v => !(field 30 23 v == 255 && field 22 0 v != 0)
  | .ratio80, v => field 39 0 v ≠ 0
  | _, _ => true

/-- The reserved bits and the fixed range of an object (R6, R8, R10, and each object table). -/
def Check.holds (c : Check) (n v : Nat) : Bool :=
  match c with
  | .any => true
  | .range lo hi => lo ≤ v && v ≤ hi
  | .rangeOr lo hi x => (lo ≤ v && v ≤ hi) || v = x
  | .oneOf vs => vs.contains v
  | .srange lo hi => lo ≤ toSigned 32 v && toSigned 32 v ≤ hi
  | .mask m => v &&& m = v
  | .bytesLe m => (toBytes n v).all fun b => b.toNat ≤ m
  | .nonzero => v ≠ 0
  | .member => (field 127 112 v ≤ 255 || field 127 112 v = 0xFFFF) && field 111 64 v = 0
  | .eraseMap => (toBytes n v).all fun b => b.toNat ≤ 9 || b.toNat = 0xFF
  | .partition => v < 2 ^ 24 && field 23 16 v + field 15 8 v + field 7 0 v = 12 && 1 ≤ field 7 0 v
  | .w1c clear ro => v &&& (clear + ro) = v

/-- IMG_DATA, the one object whose value has no fixed length (R373). -/
def isImgData (idx sub : Nat) : Bool := idx = 0x5030 && sub = 6

/-- Is a written value well formed in itself (R446 check 4)? -/
def Row.wellFormed (r : Row) (idx sub : Nat) (bs : List Byte) : Bool :=
  let v := ofBytes bs
  if isImgData idx sub then 1 ≤ bs.length && bs.length ≤ 4096
  else bs.length = r.ty.bytes && r.ty.encodes v && r.chk.holds r.ty.bytes v

end Sys2Proof.Machine
end

