-- ==== Sys2Proof/Machine/Flags.lean ====
section
/-! DEFINITION. Status flags: a write of 1 clears, and a set in the same cycle wins (00_scope.md R10;
12_fault_collection.md R308). -/

namespace Sys2Proof.Machine

/-- SET_DURING_CLEAR of the block that an index belongs to; Weir has none. -/
def duringClear (idx : Nat) : Option Nat :=
  if idx = 0x1110 then some Obj.Loa.SET_DURING_CLEAR
  else if idx = 0x1200 then some Obj.Time.SET_DURING_CLEAR
  else if 0x2000 ≤ idx && idx < 0x2018 then some Obj.Hr.SET_DURING_CLEAR
  else if 0x2800 ≤ idx && idx < 0x2901 then some Obj.Millpond.SET_DURING_CLEAR
  else if 0x3000 ≤ idx && idx < 0x3201 then some Obj.Millstone.SET_DURING_CLEAR
  else if 0x3400 ≤ idx && idx < 0x3601 then some Obj.Tailrace.SET_DURING_CLEAR
  else if idx = 0x3800 then some Obj.Mc.SET_DURING_CLEAR
  else if idx = 0x3900 then some Obj.Phy.SET_DURING_CLEAR
  else if 0x3A00 ≤ idx && idx < 0x3A21 then some Obj.Fantail.SET_DURING_CLEAR
  else if idx = 0x3B00 then some Obj.Ecc.SET_DURING_CLEAR
  else if 0x4000 ≤ idx && idx < 0x4020 then some Obj.Seq.SET_DURING_CLEAR
  else if idx = 0x4400 then some Obj.Sluice.SET_DURING_CLEAR
  else if 0x4800 ≤ idx && idx < 0x4C00 then some Obj.Fc.SET_DURING_CLEAR
  else if idx = 0x5000 then some Obj.Sec.SET_DURING_CLEAR
  else if 0x5800 ≤ idx && idx < 0x5814 then some Obj.Sail.SET_DURING_CLEAR
  else if idx = 0x5900 then some Obj.Dev.SET_DURING_CLEAR
  else if 0x6000 ≤ idx then
    match idx % 64 with
    | 0 => some Obj.Mc.SET_DURING_CLEAR
    | 1 => some Obj.Phy.SET_DURING_CLEAR
    | 5 => some Obj.Fantail.SET_DURING_CLEAR
    | 8 => some Obj.Ecc.SET_DURING_CLEAR
    | _ => none
  else none

/-- Count flags that a set won (R10). -/
def Core.wonOver (c : Core) (idx n : Nat) : Core :=
  match duringClear idx with
  | some k => c.add k 32 n
  | none => c

/-- The value of a flag word after a write: the written ones clear, and what the hub sets in the same cycle stays
(R10). -/
def clearFlags (old v set : Nat) : Nat := (old &&& (old ^^^ (old &&& v))) ||| set

/-- The clear of a source's STATUS: PENDING falls with PEND_SEV, but not while the condition stands, nor where the hub sets
PENDING in the same cycle (R10, R308). -/
def clearStatus (old v set : Nat) : Nat :=
  let v1 := field 3 0 v
  let w := if bit 4 old || bit 0 set then v1 - v1 % 2 else v1
  let x := old - (old &&& w)
  if bit 0 w then x % 32 else x

/-- A write to a W1C object; `set` are flags that the hub sets in the same cycle. A flag that both the event and the standing
condition set counts once (R10, R308). -/
def Core.clearFlagWord (c : Core) (idx sub v set clearable : Nat) : Core :=
  let k := 256 * idx + sub
  let old := c.get k
  let won := popcount 32 (set &&& v &&& clearable)
  if isSourceStatus k then
    let again := if bit 0 v && bit 4 old && !(bit 0 (set &&& clearable)) then 1 else 0
    (((c.put k (clearStatus old v (set &&& clearable) ||| (set &&& clearable))).wonOver idx (won + again))).pins
  else (c.put k (clearFlags old (v &&& clearable) (set &&& clearable))).wonOver idx won

/-- CLEAR_ALL: every PENDING (R332). -/
def Core.clearPending (c : Core) : Core :=
  ((c.objs.map (·.1)).filter isSourceStatus).foldl (fun c k => c.clearFlagWord (k / 256) 2 1 0 0xF) c

/-- FE_REARM (R323). -/
def Core.feRearm (c : Core) : Core := (c.put Obj.Fc.FIRST_ERROR 0).put Obj.Fc.FE_LATER 0

end Sys2Proof.Machine
end

