-- ==== Sys2Proof/Machine/Registers.lean ====
section
/-! DEFINITION. Writes of objects: who may write what and when, and what each object's own rule makes of a value
(00_scope.md R446, R9 to R11; 14_object_dictionary.md R357 to R360, R379, R380; 16_states_start_sluice.md R407, R417,
R418; the object tables of every chapter). -/

namespace Sys2Proof.Machine

/-! ## Who is served (R357, R360, R406, R418) -/

/-- Is LOA served? In SELFTEST from the boot of the supervisor that holds the baton, in LOCKOUT while the sequencer is
UP. -/
def Core.loaServed (c : Core) : Bool :=
  c.dev ≠ Dv.off && c.dev ≠ Dv.ramp && c.dev ≠ Dv.descent && (c.dev ≠ Dv.lockout || c.seqUp)
    && (c.dev ≠ Dv.selftest || (c.halfSt (c.get Obj.Baton.BATON)).running || c.allRecovery)

/-- While both halves are in RECOVERY the boot ROM serves identity and images only (R360). -/
def romServes (idx : Nat) : Bool := idx = 0x1000 || idx = 0x5030

/-! ## What the state admits (R446 check 5) -/

/-- RWI outside IDLE and RWS outside SERVICE (R9). -/
def Core.accessHeld (c : Core) (a : Access) : Bool :=
  match a with
  | .rwi => c.dev ≠ Dv.idle
  | .rws => c.dev ≠ Dv.service
  | _ => false

/-- The writes other than flag clears that SAFE admits (R417). -/
def safeAdmits (k v : Nat) : Bool :=
  k = Obj.Fc.FE_REARM || k = Obj.Fc.CLEAR_ALL || k = Obj.CpFetch.CP_FETCH_SEQ || k = Obj.Seq.POWER_REQ
    || (k = Obj.Dev.STATE_REQ && v = 5)

/-- SAFE and LOCKOUT (R417, R418). -/
def Core.stateHeld (c : Core) (a : Access) (k v : Nat) : Bool :=
  if c.dev = Dv.safe then a ≠ .w1c && !(safeAdmits k v)
  else if c.dev = Dv.lockout then a ≠ .w1c && k ≠ Obj.Fc.FE_REARM
  else false

/-- A per-subchannel object of a half that does not hold the baton, while that half restarts or is on trial (R345,
R357), and one of a half in RECOVERY, which has no supervisor to configure its subchannels (R17, R343 step 5).
DESIGN CHOICE, unsafe (log entry 89). -/
def Core.halfHeld (c : Core) (idx : Nat) : Bool :=
  let h := halfOf ((idx - 0x6000) / 64)
  0x6000 ≤ idx && ((h ≠ c.get Obj.Baton.BATON && (c.halfState h = 1 || c.halfState h = 2)) || c.halfState h = 3)

/-- A 1 written to the ENABLE or START of an engine while the device takes no data (R407). -/
def Core.engineHeld (c : Core) (idx sub v : Nat) : Bool :=
  v = 1 && !c.inService &&
    ((sub = 1 && 0x2800 ≤ idx && idx < 0x2900) || (sub = 2 && 0x3000 ≤ idx && idx < 0x3080)
      || (sub = 2 && 0x3400 ≤ idx && idx < 0x3420) || (sub = 2 && 0x3500 ≤ idx && idx < 0x3510))

/-- A field whose block is in use (R71, R83, R95, R101, R120, R145, R158, R166, R334, R380). DEDUCED, unsafe (log entry 61). -/
def Core.configHeld (c : Core) (idx sub v : Nat) : Bool :=
  if idx = 0x1000 then
    sub = 4 && (List.range 32).any fun j => c.jobLive j && c.get (Obj.Job.PROTECT j) ≠ 0
  else if 0x2300 ≤ idx && idx < 0x2700 then
    [2, 3, 5, 6, 8, 9].contains sub && c.get (Obj.Region.PERSONALITY (idx - 0x2300)) ≠ 0
  else if 0x2800 ≤ idx && idx < 0x2900 then 3 ≤ sub && sub ≤ 0xB && c.stState (idx - 0x2800) ≠ St.disabled
  else if idx = 0x2900 then
    sub = 1 && field 15 8 v ≠ field 15 8 (c.get Obj.Millpond.PARTITION)
      && (List.range 128).any fun x => c.get (Obj.Context.STATE x) ≠ 0
  else if 0x2A00 ≤ idx && idx < 0x2A40 then
    ((3 ≤ sub && sub ≤ 8) || sub = 0xB || sub = 0xC || (0x20 ≤ sub && sub < 0x30))
      && c.get (Obj.Window.STATE (idx - 0x2A00)) ≠ 0
  else if 0x3000 ≤ idx && idx < 0x3080 then
    3 ≤ sub && sub ≤ 0x15 && c.get (Obj.Context.STATE (idx - 0x3000)) ≠ 0
  else if 0x3400 ≤ idx && idx < 0x3420 then 3 ≤ sub && sub ≤ 0x12 && c.jobLive (idx - 0x3400)
  else if 0x3500 ≤ idx && idx < 0x3510 then (sub = 3 || sub = 4) && c.get (Obj.Lease.STATE (idx - 0x3500)) = 1
  else if idx = 0x3800 then sub = 1 && (List.range 1024).any fun r => c.get (Obj.Region.PERSONALITY r) ≠ 0
  else if idx = 0x5000 then
    sub = 1 && (List.range 8).any fun p => c.portUp p && c.portSecure p ≠ bit p v
  else false

/-- Check 5 of R446. -/
def Core.writeHeld (c : Core) (a : Access) (idx sub v : Nat) : Bool :=
  c.accessHeld a || c.stateHeld a (256 * idx + sub) v || c.halfHeld idx || c.engineHeld idx sub v
    || c.configHeld idx sub v

/-- Checks 1 to 5 of R446: the status that refuses a write. DENIED_WORLD is counted by the caller. -/
def Core.writeRefusal (c : Core) (w : World) (idx sub : Nat) (bs : List Byte) : Option Status :=
  if c.allRecovery && !(romServes idx) then some .retry
  else match lookup idx sub with
    | none => some .malformed
    | some r =>
      if r.world = .secureWorld && w = .openWorld && !c.allRecovery then some .deniedWorld
      else if r.acc = .const || r.acc = .ro then some .malformed
      else if !(r.wellFormed idx sub bs) then some .malformed
      else if c.writeHeld r.acc idx sub (ofBytes bs) then some .retry
      else none

/-! ## Plain objects and triggers -/

/-- A setting takes its value, and a LEDGER object is due for a commit (R12). -/
def Core.store (c : Core) (k v : Nat) : Core := if isLedger k then (c.put k v).touch else c.put k v

/-- A setting that no rule of its own refuses. -/
def Core.stored (c : Core) (k v : Nat) : Status × Core := (.ok, c.store k v)

/-- A setting that its own rule may refuse with MALFORMED. -/
def Core.storedIf (c : Core) (ok : Bool) (k v : Nat) : Status × Core := if ok then c.stored k v else (.malformed, c)

/-- An object whose write of 1 acts; a write of 0 does nothing. DEDUCED, unsafe (log entry 61). -/
def Core.onOne (c : Core) (v : Nat) (r : Status × Core) : Status × Core := if v = 1 then r else (.ok, c)

/-! ## Identity, management port, LOA, time, Headrace -/

/-- Close every UDP session (R366). -/
def Core.closeUdp (c : Core) : Core := c.each 16 fun c i => c.updSession (i + 1) fun _ => Session.closed

/-- A new address or mode waits for its time, and the UDP sessions close (R366, R380). DEDUCED, unsafe (log entry 62). -/
def Core.mgWait (c : Core) : Core := c.closeUdp.withMg { c.mg with pending := true }

def Core.writeMg (c : Core) (sub v : Nat) : Status × Core :=
  let k := 0x110000 + sub
  let c1 := c.store k v
  if (sub = 1 || sub = 3 || sub = 6) && c.get k ≠ v then (.ok, c1.mgWait) else (.ok, c1)

/-- MG_ADDRESS_APPLY (R380). DEDUCED, unsafe (log entry 62). -/
def Core.mgApply (c : Core) : Core :=
  if c.mg.pending then
    c.withMg { mode := c.get Obj.Mg.MG_MODE, v4 := c.get Obj.Mg.IPV4_ADDR, v6 := c.get Obj.Mg.IPV6_ADDR,
                     pending := false }
  else c

def Core.writeLoa (c : Core) (sub v : Nat) : Status × Core :=
  if sub = 1 then c.admitKey v else c.stored (0x111000 + sub) v

/-- TIME_SOURCE starts the discipline again (R393). -/
def Core.writeTime (c : Core) (sub v : Nat) : Status × Core :=
  let k := 0x120000 + sub
  let c1 := c.store k v
  if k = Obj.Time.TIME_SOURCE && c.get k ≠ v then (.ok, c1.sourceWritten) else (.ok, c1)

/-- Ports follow PORT_ENABLE (R32). -/
def Core.portsFollow (c : Core) : Core :=
  c.each 8 fun c p =>
    if c.bitOf Obj.Hr.PORT_ENABLE p then (if c.portState p = 0 then c.portBegin p else c)
    else if c.portUp p then c.leaveUp p
    else if c.portState p = 0 then c else c.portBegin p

def Core.writeHr (c : Core) (sub v : Nat) : Status × Core := (.ok, (c.store (0x200000 + sub) v).portsFollow)

/-! ## Regions, streams, Millpond, windows, quotas -/

/-- A region field; MAP_MIB follows DATA_MIB (R82). PERSONALITY is written by `State.writePersonality`. -/
def Core.writeRegion (c : Core) (r sub v : Nat) : Status × Core :=
  let c1 := c.put (0x230000 + 256 * r + sub) v
  if sub = 8 then (.ok, c1.put (Obj.Region.MAP_MIB r) (ceilDiv v 131072)) else (.ok, c1)

def Core.writeStream (c : Core) (st sub v : Nat) : Status × Core :=
  if sub = 1 then (if v = 1 then c.enableStream st else c.disableStream st) else c.stored (0x280000 + 256 * st + sub) v

def Core.writeMillpond (c : Core) (sub v : Nat) : Status × Core :=
  if sub = 1 then c.writePartition v
  else if sub = 3 then (.ok, (c.put Obj.Millpond.ELASTIC_PEAK 0).water)
  else c.stored (0x290000 + sub) v

def Core.writeWindow (c : Core) (n sub v : Nat) : Status × Core :=
  if sub = 2 then (if v = 1 then c.armWindow n else c.disarmWindow n)
  else if sub = 9 then c.onOne v (c.askRelease n)
  else c.stored (0x2A0000 + 256 * n + sub) v

/-- QUOTA_SEG of a RING region stays below DATA_MIB (R117). -/
def Core.writeQuota (c : Core) (r sub v : Nat) : Status × Core :=
  c.storedIf (sub ≠ 1 || c.get (Obj.Region.PERSONALITY r) ≠ 2 || v < c.get (Obj.Region.DATA_MIB r))
    (0x2C0000 + 256 * r + sub) v

/-! ## Contexts, jobs, leases -/

def Core.writeContext (c : Core) (x sub v : Nat) (w : World) : Status × Core :=
  if sub = 2 then (if v = 1 then c.startCtx x w else (let y := c.askStop x; (y.1, y.2.water)))
  else if sub = 3 then c.writeOp x v
  else if sub = 0x19 then c.onOne v (c.closeNow x)
  else c.stored (0x300000 + 256 * x + sub) v

def Core.writeJob (c : Core) (f : Fuses) (j sub v : Nat) (w : World) : Status × Core :=
  if sub = 2 then c.onOne v (c.startJob f.secureBoot j w)
  else if sub = 0x13 then c.onOne v (.ok, c.cancelJob j)
  else if sub = 0x14 then c.onOne v (c.resumeJob j)
  else c.stored (0x340000 + 256 * j + sub) v

def Core.writeLease (c : Core) (l sub v : Nat) : Status × Core :=
  if sub = 2 then (if v = 1 then c.leaseEnable l else c.leaseDisable l)
  else if sub = 9 then (.ok, c.frameMark l v)
  else if sub = 8 && c.get (Obj.Lease.PERIOD_NEXT l) < v then (.malformed, c)
  else
    (c.putBit Hid.TIMED l (c.bitOf Hid.TIMED l || ((sub = 7 || sub = 8) && c.get (Obj.Lease.STATE l) = 1))).stored
      (0x350000 + 256 * l + sub) v

/-! ## Controllers, training, Fantail, error correction -/

/-- Writes that the queues hold go with the contents (R166). DEDUCED, unsafe (log entry 55). -/
def Core.dropQueued (c : Core) : Core := c.each 32 fun c n => c.updMc n fun m => { m with writes := [], kept := [] }

/-- REFRESH_FLUSH (R182). While a flush runs its credit serves the next one too. DEDUCED, unsafe (log entry 26). -/
def Core.refreshFlush (c : Core) : Status × Core :=
  let r := if c.holds Ck.flush 0 then (true, c) else c.askNow Ck.flush 0 12000
  if !r.1 then (.busySluice, r.2)
  else
    (.ok, (r.2.each 32 fun c n =>
      if c.scOffline n || c.scState n = 2 then c
      else c.updMc n fun m =>
        { m with flush := (List.range 8).foldl (fun t lr => t.setNum lr (m.debt.num lr)) [] }).flushDone)

/-- WQ_LOW stays below WQ_HIGH (R190). ADDR_MAP is written by `State.writeMap`. -/
def Core.writeMc (c : Core) (sub v : Nat) : Status × Core :=
  let k := 0x380000 + sub
  if sub = 6 then c.storedIf (c.get Obj.Mc.WQ_LOW < v) k v
  else if sub = 7 then c.storedIf (v < c.get Obj.Mc.WQ_HIGH) k v
  else if sub = 9 then c.onOne v c.refreshFlush
  else c.stored k v

/-- SPEED_BIN stays within SPEED_MAX (R445), and MARGIN_EYE_TAPS is not below MIN_EYE_TAPS (R215). -/
def Core.writePhy (c : Core) (sub v : Nat) : Status × Core :=
  c.storedIf ((sub ≠ 1 || v ≤ c.get Obj.Id.SPEED_MAX) && (sub ≠ 7 || c.get Obj.Phy.MIN_EYE_TAPS ≤ v)) (0x390000 + sub) v

/-- FT_ENABLE is written: every target follows (R244). -/
def Core.writeFt (c : Core) (sub v : Nat) : Status × Core :=
  let c1 := c.store (0x3A0000 + sub) v
  (.ok, if sub = 1 then c1.aimAll else c1)

/-- A malformed PMH-4016 record is stored, and FORERUNNER_BAD is set (R242). -/
def Core.writeCal (c : Core) (sub v : Nat) : Status × Core :=
  let c1 := c.store (0x3A1000 + sub) v
  if (sub = 0xB || sub = 0xC) && !(forerunnerOk v) then (.ok, c1.flag Obj.Cal.FLAGS 2) else (.ok, c1)

/-- Objects of a subchannel (R216, R234, R253). -/
def Core.writeSc (c : Core) (n blk sub v : Nat) : Status × Core :=
  if blk = 1 && sub = 0xB then c.onOne v (c.retrain n)
  else if blk = 5 && sub = 6 then c.onOne v (.ok, c.recalibrate n true)
  else if blk = 8 && sub = 1 then c.writeEraseMap n v
  else c.stored (0x600000 + 0x4000 * n + 256 * blk + sub) v

/-! ## Sequencer and Sluice -/

def Core.writeSeq (c : Core) (sub v : Nat) : Status × Core :=
  if sub = 3 then (.ok, c.powerReq v) else c.stored (0x400000 + sub) v

/-- UV_CODE and OV_CODE stay around the reading (R294); MARGIN has its own rule. -/
def Core.writeRail (c : Core) (rc sub v : Nat) : Status × Core :=
  let k := 0x401000 + 256 * rc + sub
  if sub = 6 then c.storedIf (c.thresholdOk rc v (c.railVal (Obj.Rail.OV_CODE rc))) k v
  else if sub = 7 then c.storedIf (c.thresholdOk rc (c.railVal (Obj.Rail.UV_CODE rc)) v) k v
  else if sub = 0xF then c.marginWrite rc v
  else c.stored k v

def Core.writeSluice (c : Core) (sub v : Nat) : Status × Core := c.budgetWrite (0x440000 + sub) v

/-! ## Fault collector (R306, R311, R312, R321, R323, R332) -/

/-- Does a D source keep its floor under an ACTION_MAP with a severity (R312)? -/
def floorKept (map s sev : Nat) : Bool := !(sourceInfo s).dangerous || classicAction s ≤ actionByte map sev

/-- Is an ACTION_MAP allowed (R311)? -/
def Core.mapAllowed (c : Core) (map : Nat) : Bool :=
  (List.range 768).all fun s => (sourceInfo? s).isNone || floorKept map s (c.severityOf s)

/-- Is a CONFIG allowed (R306)? -/
def Core.configAllowed (c : Core) (s v : Nat) : Bool :=
  !(bit 7 v && ((sourceInfo s).dangerous || sourcePinned s)) && floorKept (c.get Obj.Fc.ACTION_MAP) s (field 2 0 v)

def Core.writeFc (c : Core) (sub v : Nat) : Status × Core :=
  let k := 0x480000 + sub
  if sub = 4 then c.storedIf (c.mapAllowed v) k v
  else if sub = 9 then c.onOne v (.ok, c.feRearm)
  else if sub = 0x13 then c.onOne v (.ok, c.clearPending)
  else if sub = 0x17 then c.storedIf (toSigned 32 v < c.getInt Obj.Fc.TEMP_CRIT_MC) k v
  else if sub = 0x18 then c.storedIf (c.getInt Obj.Fc.TEMP_WARN_MC < toSigned 32 v) k v
  else (.ok, (c.store k v).pins)

def Core.writeSource (c : Core) (s sub v : Nat) : Status × Core :=
  if sub = 1 then c.storedIf (c.configAllowed s v) (Obj.Source.CONFIG s) v
  else if sub = 6 then c.onOne v (c.inject s)
  else c.stored (0x490000 + 256 * s + sub) v

/-! ## Security -/

def Core.writeSec (c : Core) (f : Fuses) (sub v : Nat) : Status × Core :=
  c.storedIf (sub ≠ 2 || jtagModeOk f v) (0x500000 + sub) v

def Core.writeKeySlot (c : Core) (k sub v : Nat) : Status × Core :=
  if sub = 2 then c.keyImport k v
  else if sub = 3 then c.onOne v (c.keyErase k)
  else c.stored (0x502000 + 256 * k + sub) v

def Core.writeImage (c : Core) (f : Fuses) (sub v : Nat) (bs : List Byte) : Status × Core :=
  if sub = 5 then c.imgOpen v
  else if sub = 6 then c.imgData bs
  else if sub = 8 then c.onOne v (c.imgClose f)
  else if sub = 9 then c.activate v
  else if sub = 0xA then c.confirm v
  else c.stored (0x503000 + sub) v

def Core.writeCp (c : Core) (sub v : Nat) : Status × Core :=
  if sub = 1 then c.cpFetch v else c.stored (0x504100 + sub) v

/-! ## Sail and device states -/

def Core.writeSail (c : Core) (sub v : Nat) : Status × Core :=
  let k := 0x580000 + sub
  if sub = 1 then
    (if c.get k = v then (.ok, c) else (.ok, (c.store k v).rootWritten))
  else if sub = 8 then c.onOne v c.epochNow
  else c.stored k v

def Core.writeSailPort (c : Core) (p sub v : Nat) : Status × Core :=
  let c1 := c.store (0x581000 + 256 * p + sub) v
  if sub = 1 then (.ok, c1.sailEnable p) else (.ok, c1)

def Core.writeDev (c : Core) (sub v : Nat) : Status × Core :=
  if sub = 2 then c.stateReq v else c.stored (0x590000 + sub) v

/-! ## One write -/

/-- What an admitted write does to everything but DRAM and fuses (R446 check 6). DEDUCED, unsafe (log entry 61). -/
def Core.writeValue (c : Core) (f : Fuses) (w : World) (idx sub : Nat) (bs : List Byte) : Status × Core :=
  let v := ofBytes bs
  if idx = 0x1100 then c.writeMg sub v
  else if idx = 0x1110 then c.writeLoa sub v
  else if idx = 0x1200 then c.writeTime sub v
  else if idx = 0x2000 then c.writeHr sub v
  else if 0x2300 ≤ idx && idx < 0x2700 then c.writeRegion (idx - 0x2300) sub v
  else if 0x2800 ≤ idx && idx < 0x2900 then c.writeStream (idx - 0x2800) sub v
  else if idx = 0x2900 then c.writeMillpond sub v
  else if 0x2A00 ≤ idx && idx < 0x2A40 then c.writeWindow (idx - 0x2A00) sub v
  else if 0x2C00 ≤ idx && idx < 0x3000 then c.writeQuota (idx - 0x2C00) sub v
  else if 0x3000 ≤ idx && idx < 0x3080 then c.writeContext (idx - 0x3000) sub v w
  else if 0x3400 ≤ idx && idx < 0x3420 then c.writeJob f (idx - 0x3400) sub v w
  else if 0x3500 ≤ idx && idx < 0x3510 then c.writeLease (idx - 0x3500) sub v
  else if idx = 0x3800 then c.writeMc sub v
  else if idx = 0x3900 then c.writePhy sub v
  else if idx = 0x3A00 then c.writeFt sub v
  else if idx = 0x3A10 then c.writeCal sub v
  else if idx = 0x4000 then c.writeSeq sub v
  else if 0x4010 ≤ idx && idx < 0x4020 then c.writeRail (idx - 0x4010) sub v
  else if idx = 0x4400 then c.writeSluice sub v
  else if idx = 0x4800 then c.writeFc sub v
  else if 0x4900 ≤ idx && idx < 0x4C00 then c.writeSource (idx - 0x4900) sub v
  else if idx = 0x5000 then c.writeSec f sub v
  else if 0x5020 ≤ idx && idx < 0x5030 then c.writeKeySlot (idx - 0x5020) sub v
  else if idx = 0x5030 then c.writeImage f sub v bs
  else if idx = 0x5041 then c.writeCp sub v
  else if idx = 0x5800 then c.writeSail sub v
  else if 0x5810 ≤ idx && idx < 0x5814 then c.writeSailPort (idx - 0x5810) sub v
  else if idx = 0x5900 then c.writeDev sub v
  else if idx = 0x5910 then c.scOrder (sub - 1) v
  else if 0x6000 ≤ idx then c.writeSc ((idx - 0x6000) / 64) ((idx - 0x6000) % 64) sub v
  else c.stored (256 * idx + sub) v

/-! ## Factory defaults (R379) -/

/-- LEDGER objects that FACTORY_DEFAULTS leaves unchanged. -/
def keptByDefaults (k : Nat) : Bool :=
  let idx := k / 256
  [Obj.Id.HUB_ID, Obj.Loa.ADMIT_KEY, Obj.Loa.ADMIT_GEN, Obj.Image.BOOT_SLOT, Obj.Sec.CHAIN_RESERVE, Obj.Fc.LAST_LOCKOUT,
    Obj.Seq.EVENT_SEQ, Obj.Cal.FORERUNNER_EAST, Obj.Cal.FORERUNNER_WEST].contains k
  || (0x5020 ≤ idx && idx < 0x5030) || (0x3B30 ≤ idx && idx ≤ 0x3B33) || idx = 0x4030
  || (0x6000 ≤ idx && idx % 64 = 8)

/-- What changes with the settings that FACTORY_DEFAULTS changed; `old` is the hub before it. DEDUCED, unsafe (log entry 60). -/
def Core.defaultsFollow (c old : Core) : Core :=
  let moved := fun (k : Nat) => c.get k ≠ old.get k
  let c1 := if moved Obj.Mg.MG_MODE || moved Obj.Mg.IPV4_ADDR || moved Obj.Mg.IPV6_ADDR then c.mgWait else c
  let c2 := if moved Obj.Time.TIME_SOURCE then c1.sourceWritten else c1
  let c3 := c2.portsFollow
  let em := c3.elasticBytes
  let c4 := ((c3.put Obj.Millpond.HIGH_WATER (em / 8 * 7)).put Obj.Millpond.LOW_WATER (em / 8 * 6)).water
  let c5 := if c4.pool < c4.granted then c4.flag Obj.Sluice.FLAGS 1 else c4
  let c6 := (List.range 4).foldl (fun c p => if moved (Obj.SailPort.ENABLE p) then c.sailEnable p else c) c5
  let c7 := if moved Obj.Sail.ROOT then c6.rootWritten else c6
  (if moved Obj.Fantail.FT_ENABLE then c7.aimAll else c7).pins

/-- Every LEDGER object but those of R379 takes its default. DEDUCED, unsafe (log entry 60). -/
def Core.toDefaults (c : Core) : Core :=
  let keys := (c.objs.map (·.1)).filter fun k => isLedger k && !keptByDefaults k
  ((keys.foldl (fun c k => c.put k (defaultOf k)) c).touch).defaultsFollow c

/-! ## Writes that reach DRAM or fuses -/

def State.onCoreOnly (s : State) (r : Status × Core) : Status × State := (r.1, { s with core := r.2 })

/-- ADDR_MAP: a change leaves every content undefined (R166). DEDUCED, unsafe (log entry 55). -/
def State.newMap (s : State) (c : Core) : State :=
  if c.addrMap = s.core.addrMap then { s with core := c }
  else { s with core := c.dropQueued, mem := s.mem.loseAll }

def State.writeMap (s : State) (v : Nat) : Status × State := (.ok, s.newMap (s.core.store Obj.Mc.ADDR_MAP v))

/-- FACTORY_DEFAULTS (R379). DEDUCED, unsafe (log entry 60). -/
def State.writeDefaults (s : State) (v : Nat) : Status × State :=
  if v ≠ 1 then (.ok, s)
  else if s.core.dev ≠ Dv.service then (.retry, s)
  else (.ok, s.newMap s.core.toDefaults)

def State.writePersonality (s : State) (r per : Nat) : Status × State :=
  let x := s.core.personalityWrite s.mem r per
  (x.1, { s with core := x.2.1, mem := x.2.2 })

/-- FUSE_PROGRAM: OP, ARG and HASH (R338). -/
def State.writeFuse (s : State) (v : Nat) : Status × State :=
  let x := s.core.fuseProgram s.fuses (field 399 392 v) (field 391 384 v) (field 383 0 v)
  (x.1, { s with fuses := x.2 })

/-- An admitted write (R446 check 6). -/
def State.admitted (s : State) (w : World) (idx sub : Nat) (bs : List Byte) : Status × State :=
  let v := ofBytes bs
  if idx = 0x1000 && sub = 7 then s.writeDefaults v
  else if idx = 0x3800 && sub = 1 then s.writeMap v
  else if idx = 0x5010 && sub = 6 then s.writeFuse v
  else if 0x2300 ≤ idx && idx < 0x2700 && sub = 1 then s.writePersonality (idx - 0x2300) v
  else s.onCoreOnly (s.core.writeValue s.fuses w idx sub bs)

/-- Does a write of a W1C object clear flags (R10)? -/
def clearableOf (idx sub : Nat) : Option Nat :=
  match lookup idx sub with
  | some r => match r.chk with | .w1c n _ => some n | _ => none
  | none => none

/-- A write of an object in a world, of a hub that serves LOA; `set` are flags that the hub sets in the same cycle
(R10, R446). -/
def State.writeObject (s : State) (w : World) (idx sub : Nat) (bs : List Byte) (set : Nat) : Status × State :=
  match s.core.writeRefusal w idx sub bs with
  | some .deniedWorld => (.deniedWorld, { s with core := s.core.denied })
  | some x => (x, s)
  | none => match clearableOf idx sub with
    | some n => (.ok, { s with core := s.core.clearFlagWord idx sub (ofBytes bs) set n })
    | none => s.admitted w idx sub bs

end Sys2Proof.Machine
end

