-- ==== Sys2Proof/Machine/View.lean ====
section
/-! DEFINITION. Reads of objects: computed values, results with their generation and READY, and the status a read answers
(00_scope.md R7, R9, R11; 14_object_dictionary.md R373 to R376; 09_fantail_calibration.md R231;
05_millstone_accumulation.md R137; 03_millrace_capture.md R82). -/

namespace Sys2Proof.Machine

/-! ## Computed values -/

/-- Sessions that satisfy a test: UDP session 1 + i in bit i, port session p in bit 16 + p (R381). -/
def Core.sessionMask (c : Core) (f : Session → Bool) : Nat :=
  maskOf 16 (fun i => f (c.sessionOf (i + 1))) + maskOf 8 (fun p => f (c.sessionOf (0xFF00 + p))) <<< 16

/-- Is a session in the secure world (R365, R366)? A port session has the world of its port. -/
def Core.sessionSecure (c : Core) (n : Nat) : Bool :=
  (c.sessionOf n).isOpen && (if 0xFF00 ≤ n then c.portSecure (n - 0xFF00) else (c.sessionOf n).secure)

def Core.secureMask (c : Core) : Nat :=
  maskOf 16 (fun i => c.sessionSecure (i + 1)) + maskOf 8 (fun p => c.sessionSecure (0xFF00 + p)) <<< 16

/-- A region's subindex under the personality in force (R82, R84, R142, R162). -/
def Core.regionView (c : Core) (r sub : Nat) : Nat :=
  let per := c.get (Obj.Region.PERSONALITY r)
  let v := c.get (0x230000 + 256 * r + sub)
  match sub with
  | 0x04 | 0x07 | 0x0C | 0x0D | 0x0E | 0x0F => if per = 2 then v else 0
  | 0x08 | 0x09 | 0x0A => if per = 0 || per = 2 then v else 0
  | 0x0B => if per = 2 then v else 0xFFFF
  | 0x10 => if per = 3 || per = 4 then v else 0xFFFF
  | 0x11 | 0x12 => if per = 3 || per = 4 then v else 0
  | 0x13 => if per = 5 then v else 0
  | 0x1E => c.leasesOn r
  | _ => v

def Core.linesUsed (c : Core) (pinned : Bool) : Nat :=
  (c.cache.filter fun l => ((c.ctxOf l.x).frame.any fun f => f.k == l.k) && (!pinned || c.linePinned l)).length

/-- Millstone block values (R144). -/
def Core.millstoneView (c : Core) (sub : Nat) : Nat :=
  match sub with
  | 1 => ((List.range 128).filter fun x => c.get (Obj.Context.STATE x) ≠ 0).length
  | 2 => field 15 8 (c.get Obj.Millpond.PARTITION) * 32768
  | 3 => c.linesUsed false
  | 4 => c.linesUsed true
  | 0xA => ((c.updLog.filter fun e => c.tick < e.1 + 500000).map (·.2)).sum / 1000
  | _ => c.get (0x320000 + sub)

/-- Sluice values (R427). -/
def Core.sluiceView (c : Core) (sub : Nat) : Nat :=
  match sub with
  | 4 => c.pool
  | 5 => c.granted
  | 7 => c.forcedMw
  | 0xA => c.sluice.queue.length
  | _ => if 0x11 ≤ sub && sub ≤ 0x1B then c.heldByKind (sub - 0x10) else c.get (0x440000 + sub)

/-- Fuses as objects (R356). -/
def fuseView (f : Fuses) (sub : Nat) : Nat :=
  match sub with
  | 1 => ofBool f.secureBoot
  | 2 => (List.range 4).foldl (fun a i => a * 2 ^ 384 + (f.hash? i).getD 0) 0
  | 3 => f.revoked
  | 4 => f.svnFloor
  | 5 => ofBool f.jtagLock
  | _ => 0


/-- The set of a band, if valid. -/
def Core.bandSet (c : Core) (n b : Nat) : Option CalSet :=
  let s := Tbl.get (fun _ => CalSet.none) (c.ftOf n).sets b
  if c.setValid s then some s else none

/-- The TRACK record of a lane (R246). -/
def Core.trackRecord (c : Core) (n i : Nat) : Nat :=
  let l := c.laneOf n i
  l.state <<< 125 + (if l.state = 0 then 0 else c.shadowD l % 256) <<< 112 + (ofSigned 8 l.ofs) <<< 104 + (l.applied.num 1 % 4096) <<< 92
    + (l.target.num 1 % 4096) <<< 80 + sat 16 l.lastE <<< 64 + sat 16 l.lastL <<< 48 + sat 16 l.unqual <<< 32
    + sat 32 l.windows

/-- Values of a subchannel (R191, R245, R246). -/
def Core.scView (c : Core) (n blk sub : Nat) : Nat :=
  let v := c.get (0x600000 + 0x4000 * n + 256 * blk + sub)
  match blk, sub with
  | 0, 3 => (c.mcOf n).hot
  | 0, 4 => (List.range 8).foldl (fun a lr => a * 256 + min 255 ((c.mcOf n).debt.num lr)) 0
  | 0, 0xE => (c.mcOf n).writes.length
  | 5, 4 => maskOf 5 fun b => (c.bandSet n b).isSome
  | 5, 5 => (List.range 5).foldl (fun a b =>
      a * 2 ^ 32 + (match c.bandSet n b with | some s => ofSigned 32 s.temp | none => 0)) 0
  | 5, 0xB => c.starvedMask n
  | 6, _ => c.trackRecord n (sub - 1)
  | 7, _ => c.trackRecord n (10 + sub - 1)
  | _, _ => v

/-- The live value of an object. DEDUCED, unsafe (log entry 11). -/
def Core.liveValue (c : Core) (f : Fuses) (idx sub : Nat) : Nat :=
  let k := 256 * idx + sub
  if sub = 0 then defaultOf k
  else if idx = 0x1110 && sub = 5 then c.sessionMask (·.isOpen)
  else if idx = 0x1110 && sub = 6 then c.secureMask
  else if k = Obj.Time.HUB_TIME then c.hubTime
  else if 0x2300 ≤ idx && idx < 0x2700 then c.regionView (idx - 0x2300) sub
  else if 0x2800 ≤ idx && idx < 0x2900 && sub = 0xB then c.rateInForce (idx - 0x2800)
  else if k = Obj.Millpond.ELASTIC_FILL then c.elasticFill
  else if 0x2C00 ≤ idx && idx < 0x3000 && sub = 3 then c.committedSegs (idx - 0x2C00)
  else if idx = 0x3200 then c.millstoneView sub
  else if idx = 0x3600 && sub = 1 then ((List.range 32).filter fun j => c.jobLive j).length
  else if idx = 0x3600 && sub = 2 then ((List.range 16).filter fun l => c.get (Obj.Lease.STATE l) = 1).length
  else if idx = 0x3B00 && sub = 0xA then
    ((List.range 512).filter fun i => field 63 61 (c.get (repairKey i)) ≠ 0).length
  else if idx = 0x4000 && sub = 0xC then c.aoUs
  else if idx = 0x4400 then c.sluiceView sub
  else if idx = 0x4800 && sub = 0xB then c.pendingCount
  else if idx = 0x5010 then fuseView f sub
  else if 0x5020 ≤ idx && idx < 0x5030 && sub = 6 then c.keyJobs (idx - 0x5020)
  else if idx = 0x5911 && sub = 1 then maskOf 32 c.scOffline
  else if idx = 0x5911 && sub = 2 then maskOf 32 fun n => (c.mcOf n).held
  else if 0x6000 ≤ idx then c.scView ((idx - 0x6000) / 64) ((idx - 0x6000) % 64) sub
  else c.get k

/-! ## Results (R375, R376) -/

/-- What a read answers. -/
structure Seen where
  status : Status
  v : Nat
  gen : Nat
  ready : Bool
  stale : Bool
  deriving DecidableEq, Repr

/-- An object that is no result: OK, GEN 0. -/
def Seen.plain (v : Nat) : Seen := { status := .ok, v := v, gen := 0, ready := true, stale := false }

/-- A member of a result group. -/
def Seen.member (ready : Bool) (v gen : Nat) : Seen :=
  { status := if ready then .ok else .notReady, v := v, gen := gen, ready := ready, stale := !ready }

/-- GEN or READY of a group: the live value. -/
def Seen.mark (v gen : Nat) (ready : Bool) : Seen :=
  { status := .ok, v := v, gen := gen, ready := ready, stale := false }

/-- A read in a group whose earlier values are kept in `shown` while READY is 0. -/
def Core.groupSeen (c : Core) (k gen ready : Nat) : Seen :=
  let up := c.isSet ready
  if k = gen || k = ready then Seen.mark (c.get k) (c.get gen) up
  else if up then Seen.member true (c.get k) (c.get gen)
  else Seen.member false (c.shown.num k) (c.shown.num gen)

/-- A read in a group whose objects keep the earlier generation until the next is published. -/
def Core.keptSeen (c : Core) (k gen ready oldGen : Nat) : Seen :=
  let up := c.isSet ready
  if k = gen || k = ready then Seen.mark (c.get k) (c.get gen) up
  else Seen.member up (c.get k) (if up then c.get gen else oldGen)

/-- A monitor reading: GEN 0 is NOT_READY, STALE is STALE (R231, R375). -/
def monitorSeen (v gen : Nat) (stale : Bool) : Seen :=
  if gen = 0 then { status := .notReady, v := v, gen := 0, ready := false, stale := true }
  else { status := if stale then .stale else .ok, v := v, gen := gen, ready := true, stale := stale }

/-- A frame summary (R137). -/
def Core.summarySeen (c : Core) (x sub : Nat) : Seen :=
  let g := c.ctxOf x
  let last := match g.newest with | some s => g.closed.num s | none => 0
  if sub = 0x24 then
    (if g.newest.isSome then Seen.member true last (field 159 144 last) else Seen.member false 0 0)
  else if c.slotOpen x (sub - 0x20) then Seen.member false last (field 159 144 last)
  else Seen.member true (g.closed.num (sub - 0x20)) (field 159 144 (g.closed.num (sub - 0x20)))

/-- What a read of an existing object that admits reads answers. DEDUCED, unsafe (log entry 11). -/
def Core.seen (c : Core) (f : Fuses) (idx sub : Nat) : Seen :=
  let k := 256 * idx + sub
  if sub = 0 then Seen.plain (c.liveValue f idx sub)
  else if 0x2A00 ≤ idx && idx < 0x2A40 && ((0xD ≤ sub && sub ≤ 0x12) || 0x30 ≤ sub) then
    c.groupSeen k (Obj.Window.GEN (idx - 0x2A00)) (Obj.Window.READY (idx - 0x2A00))
  else if 0x3000 ≤ idx && idx < 0x3080 && 0x20 ≤ sub && sub ≤ 0x24 then c.summarySeen (idx - 0x3000) sub
  else if 0x3400 ≤ idx && idx < 0x3420 && 0x17 ≤ sub && sub ≤ 0x22 then
    c.groupSeen k (Obj.Job.GEN (idx - 0x3400)) (Obj.Job.READY (idx - 0x3400))
  else if 0x6000 ≤ idx && ((idx % 64 = 1 && 2 ≤ sub && sub ≤ 0xA) || (2 ≤ idx % 64 && idx % 64 ≤ 4)) then
    let n := (idx - 0x6000) / 64
    c.keptSeen k (Obj.Train.GEN n) (Obj.Train.READY n) (c.get (Obj.Train.GEN n))
  else if idx = 0x5040 then
    let s := c.jobOf (sub - 1)
    Seen.member s.cpReady (c.get k) s.cpGen
  else if 0x5840 ≤ idx && idx ≤ 0x5844 then c.keptSeen k Obj.Snap.GEN Obj.Snap.READY (c.shown.num Obj.Snap.GEN)
  else if (idx = 0x3A20 && 0x10 ≤ sub && sub ≤ 0x18) || (0x4010 ≤ idx && idx < 0x4020 && sub = 0x12) then
    monitorSeen (c.get k) (field 31 16 (c.get k)) (bit 0 (c.get k))
  else if 0x4010 ≤ idx && idx < 0x4020 && sub = 0x1A then monitorSeen (c.get k) (field 15 0 (c.get k)) false
  else Seen.plain (c.liveValue f idx sub)

/-- The status that refuses a read (R7, R9, R11, R360). -/
def Core.readRefusal (c : Core) (w : World) (idx sub : Nat) : Option Status :=
  if c.allRecovery && !(romServes idx) then some .retry
  else match lookup idx sub with
    | none => some .malformed
    | some r =>
      if r.world = .secureWorld && w = .openWorld then some .deniedWorld
      else if r.acc = .wo then some .malformed
      else none

/-- The status that refuses a DESCRIBE (R374); an object of any access is described. -/
def Core.describeRefusal (c : Core) (w : World) (idx sub : Nat) : Option Status :=
  if c.allRecovery && !(romServes idx) then some .retry
  else match lookup idx sub with
    | none => some .malformed
    | some r => if r.world = .secureWorld && w = .openWorld then some .deniedWorld else none

/-- The 8 bytes of DESCRIBE (R374). -/
def Row.describe (r : Row) : List Byte :=
  toBytes 8 (r.ty.code <<< 56 + r.acc.code <<< 48 + (if r.world = .secureWorld then 1 else 0) <<< 40
    + r.pers.code <<< 32 + r.ty.bytes)

end Sys2Proof.Machine
end

