-- ==== Sys2Proof/Machine/Loa.lean ====
section
/-! DEFINITION. Lareri Object Access: messages, sessions, the secure world, sequence numbers, segments and notifications
(14_object_dictionary.md R361 to R378), and the management port's own services (R364). -/

namespace Sys2Proof.Machine

/-! ## Messages (R361) -/

/-- Where a message came from, which is where its reply goes: a Headrace port and tag, or a UDP address and port. -/
structure LoaPath where
  udp : Bool
  a : Nat
  b : Nat
  deriving DecidableEq, Repr

/-- A message taken apart; `size` is its length in bytes. -/
structure LoaMsg where
  lver : Nat
  op : Nat
  reply : Bool
  more : Bool
  tagged : Bool
  rsv : Nat
  session : Nat
  seq : Nat
  index : Nat
  sub : Nat
  dlen : Nat
  offset : Nat
  total : Nat
  head : List Byte
  body : List Byte
  tag : Nat
  size : Nat
  deriving DecidableEq, Repr

def loaParse (bs : List Byte) : LoaMsg :=
  let head := (bs ++ List.replicate 24 0).take 24
  let h := ofBytes head
  let tagged := bit 171 h
  let rest := bs.drop 24
  let n := if tagged then rest.length - 16 else rest.length
  { lver := field 191 188 h, op := field 187 184 h, reply := bit 175 h, more := bit 174 h, tagged := tagged,
    rsv := field 170 168 h, session := field 167 152 h, seq := field 151 120 h, index := field 119 104 h,
    sub := field 103 96 h, dlen := field 79 64 h, offset := field 63 32 h, total := field 31 0 h, head := head,
    body := rest.take n, tag := ofBytes (rest.drop n), size := bs.length }

/-- What a reply carries. -/
structure Reply where
  status : Nat
  more : Bool
  ready : Bool
  stale : Bool
  gen : Nat
  offset : Nat
  total : Nat
  data : List Byte
  deriving DecidableEq, Repr

/-- A reply without data. -/
def Reply.bare (s : Status) : Reply :=
  { status := s.code, more := false, ready := false, stale := false, gen := 0, offset := 0, total := 0, data := [] }

/-- A reply whose data is a whole value. -/
def Reply.whole (bs : List Byte) : Reply := { Reply.bare .ok with total := bs.length, data := bs }

/-- The header of a message of the hub. -/
def loaHeader (op session seq index sub : Nat) (reply tagged : Bool) (r : Reply) : List Byte :=
  toBytes 24 (1 <<< 188 + op <<< 184 + r.status <<< 176 + ofBool reply <<< 175 + ofBool r.more <<< 174
    + ofBool r.ready <<< 173 + ofBool r.stale <<< 172 + ofBool tagged <<< 171 + (session % 65536) <<< 152
    + (seq % 2 ^ 32) <<< 120 + index <<< 104 + sub <<< 96 + (r.gen % 65536) <<< 80 + (r.data.length % 65536) <<< 64
    + (r.offset % 2 ^ 32) <<< 32 + r.total % 2 ^ 32)

/-! ## The secure world (R367 to R369) -/

/-- The session key KS = K(1) ‖ K(2) under an admission key (R367). -/
def loaKey (akey hubId session nc nh : Nat) : Nat :=
  let part := fun (i : Nat) =>
    cmac akey (toBytes 1 i ++ toBytes 6 0x4C4F412D4B53 ++ toBytes 1 0 ++ toBytes 4 hubId ++ toBytes 2 session
      ++ toBytes 16 nc ++ toBytes 16 nh ++ toBytes 2 0x0100)
  part 1 * 2 ^ 128 + part 2

/-- The IV of a sealed message; DIR 0 request, 1 reply, 2 NOTIFY, 3 acknowledgement (R368). -/
def loaIv (session dir seq : Nat) : Nat := (session % 65536) <<< 80 + dir <<< 72 + (seq % 2 ^ 32) <<< 32

/-- A header and its data, sealed where the session is in the secure world (R368). -/
def loaSeal (secure : Bool) (ks session dir seq : Nat) (head data : List Byte) : List Byte :=
  if secure then
    let iv := loaIv session dir seq
    let ct := gcmCrypt ks iv data
    head ++ ct ++ toBytes 16 (gcmTag ks iv head ct)
  else head ++ data

/-- Does the tag of a message hold under a session key? -/
def LoaMsg.sealed (m : LoaMsg) (ks dir : Nat) : Bool :=
  m.tagged && 40 ≤ m.size && m.tag = gcmTag ks (loaIv m.session dir m.seq) m.head m.body

/-! ## Sending -/

/-- A message leaves by a path: a Headrace reply on RSP with the tag of the request, a NOTIFY on CTL (R47, R364, R365). -/
def Core.sendLoa (c : Core) (p : LoaPath) (vc : Nat) (bs : List Byte) : Core :=
  if p.udp then c.emit (.udp p.a p.b bs)
  else c.send p.a vc Cy.object (mkCell Cy.object vc true false p.b bs.length 0 bs)

/-- The reply to a request, sealed as its session stood when the request came (R363, R368). -/
def replyBytes (x : Session) (m : LoaMsg) (r : Reply) : List Byte :=
  loaSeal x.secure x.ks m.session 1 m.seq (loaHeader m.op m.session m.seq m.index m.sub true x.secure r) r.data

def Core.answerLoa (c : Core) (p : LoaPath) (x : Session) (m : LoaMsg) (r : Reply) : Core :=
  c.sendLoa p Vc.rsp (replyBytes x m r)

/-! ## Executing a request -/

/-- The world of a session's requests (R365, R366). -/
def Core.worldOf (c : Core) (n : Nat) : World := if c.sessionSecure n then .secureWorld else .openWorld

/-- Data bytes that a message may carry on a path (R362). DEDUCED, unsafe (log entry 56). -/
def LoaPath.room (p : LoaPath) (secure : Bool) : Nat := if p.udp then (if secure then 1192 else 1208) else 232

/-- A segment of a value that was read (R371). DEDUCED, unsafe (log entry 56). -/
def segmentReply (off want : Nat) (v : List Byte × Nat × Bool × Bool × Nat) : Reply :=
  let part := slice off want v.1
  { status := v.2.2.2.2, more := off + part.length < v.1.length, ready := v.2.2.1, stale := v.2.2.2.1, gen := v.2.1,
    offset := off, total := v.1.length, data := part }

/-- READ (R371, R375). -/
def Core.loaRead (c : Core) (f : Fuses) (n want : Nat) (m : LoaMsg) : Reply × Core :=
  let k := 256 * m.index + m.sub
  if m.offset = 0 then
    match c.readRefusal (c.worldOf n) m.index m.sub with
    | some s =>
      let c1 := if s = .deniedWorld then c.denied else c
      (Reply.bare s, c1.updSession n fun x => { x with snap := none })
    | none =>
      let q := c.seen f m.index m.sub
      let v := (toBytes (sizeOf k) q.v, q.gen, q.ready, q.stale, q.status.code)
      (segmentReply 0 want v, c.updSession n fun x => { x with snap := some (k, v) })
  else
    match (c.sessionOf n).snap with
    | some (k1, v) => if k1 = k && m.offset < v.1.length then (segmentReply m.offset want v, c) else (Reply.bare .malformed, c)
    | none => (Reply.bare .malformed, c)

/-- DESCRIBE (R374). -/
def Core.loaDescribe (c : Core) (n : Nat) (m : LoaMsg) : Reply × Core :=
  match c.describeRefusal (c.worldOf n) m.index m.sub with
  | some s => (Reply.bare s, if s = .deniedWorld then c.denied else c)
  | none => match lookup m.index m.sub with
    | some r => (Reply.whole r.describe, c)
    | none => (Reply.bare .malformed, c)

/-- SUBSCRIBE (R377). -/
def Core.loaSubscribe (c : Core) (n : Nat) (m : LoaMsg) : Reply × Core :=
  match m.body with
  | [b] => if b.toNat ≤ 1 then (Reply.bare .ok, c.updSession n fun x => { x with subscribed := b = 1 })
      else (Reply.bare .malformed, c)
  | _ => (Reply.bare .malformed, c)

/-- ECHO (R363). -/
def loaEcho (m : LoaMsg) : Reply := if m.body.length ≤ 64 then Reply.whole m.body else Reply.bare .malformed

/-- An assembly is discarded (R372). -/
def Core.dropPart (c : Core) (n : Nat) : Core :=
  if (c.sessionOf n).part.isSome then (c.updSession n fun x => { x with part := none }).flag Obj.Loa.FLAGS 0 else c

/-- Does a WRITE segment go on with the assembly of its session (R372)? -/
def Core.partGoesOn (c : Core) (n : Nat) (m : LoaMsg) : Bool :=
  match (c.sessionOf n).part with
  | some (k, total, bs) => k = 256 * m.index + m.sub && total = m.total && bs.length = m.offset
  | none => false

/-- WRITE: a segment is kept, and the last one applies the whole value (R372, R373). A first segment away from OFFSET 0, a
value beyond the 4 KiB buffer and a value whose segments do not add up to TOTAL are malformed. -/
def State.loaWrite (s : State) (n : Nat) (m : LoaMsg) : Reply × State :=
  let c := if s.core.partGoesOn n m then s.core else s.core.dropPart n
  let sofar := match (c.sessionOf n).part with | some (_, _, bs) => bs | none => []
  let all := sofar ++ m.body
  let c1 := c.updSession n fun x => { x with part := none }
  if m.offset ≠ sofar.length || 4096 < m.total || m.total < all.length || (!m.more && all.length ≠ m.total) then
    (Reply.bare .malformed, { s with core := c1 })
  else if m.more then
    (Reply.bare .ok, { s with core := c1.updSession n fun x => { x with part := some (256 * m.index + m.sub, m.total, all) } })
  else
    let r := State.writeObject { s with core := c1 } (c1.worldOf n) m.index m.sub all 0
    (Reply.bare r.1, r.2)

/-- One request of an open session (R363). -/
def State.loaExec (s : State) (p : LoaPath) (n : Nat) (m : LoaMsg) : Reply × State :=
  let on := fun (r : Reply × Core) => (r.1, ({ s with core := r.2 } : State))
  let c := if m.op = 2 then s.core else s.core.dropPart n
  match m.op with
  | 1 => on (c.loaRead s.fuses n (min m.dlen (p.room (s.core.sessionOf n).secure)) m)
  | 2 => s.loaWrite n m
  | 3 => on (c.loaDescribe n m)
  | 7 => on (c.loaSubscribe n m)
  | 9 => on (loaEcho m, c)
  | _ => on (Reply.bare .ok, c.updSession n fun _ => Session.closed)

/-! ## Sequence numbers (R370) -/

/-- Is a SEQ refused: 0, the last value, or below the window? -/
def seqRefused (top seq : Nat) : Bool := seq = 0 || seq = 0xFFFFFFFF || seq + 16 ≤ top

/-- The reply that a session holds for a SEQ. -/
def Session.held (x : Session) (seq : Nat) : Option (List Byte) := (x.replies.find? fun e => e.1 == seq).map (·.2)

/-- Record an executed request with its reply, and move the window. -/
def Session.keep (x : Session) (seq : Nat) (bs : List Byte) : Session :=
  if x.isOpen then
    let top := max x.top seq
    { x with top := top, begun := true, replies := (x.replies ++ [(seq, bs)]).filter fun e => top < e.1 + 16 }
  else x

/-- A held reply is sent again (R370). DEDUCED, unsafe (log entry 58). -/
def Core.again (c : Core) (p : LoaPath) (bs : List Byte) : Core :=
  (c.inc Obj.Loa.DUPLICATES).sendLoa p Vc.rsp bs

/-- A request with its SEQ (R370). -/
def State.loaSeq (s : State) (p : LoaPath) (n : Nat) (m : LoaMsg) : State :=
  let x := s.core.sessionOf n
  if seqRefused x.top m.seq then
    { s with core := (s.core.flag Obj.Loa.FLAGS 1).answerLoa p x m (Reply.bare .malformed) }
  else match x.held m.seq with
    | some bs => { s with core := s.core.again p bs }
    | none =>
      let r := State.loaExec { s with core := s.core.inc64 Obj.Loa.REQUESTS } p n m
      let bs := replyBytes x m r.1
      { r.2 with core := (r.2.core.updSession n fun y => y.keep m.seq bs).sendLoa p Vc.rsp bs }

/-! ## Opening and admission (R366, R367) -/

/-- UDP session numbers that are free. DEDUCED, unsafe (log entry 57). -/
def Core.freeSessions (c : Core) : List Nat := ((List.range 16).map (· + 1)).filter fun n => !(c.sessionOf n).isOpen

/-- OPEN (R366); which free number is assigned is left open. DEDUCED, unsafe (log entry 57). -/
def Core.loaOpen (c : Core) (p : LoaPath) (m : LoaMsg) (nh : Nat) : Core :=
  let l := c.freeSessions
  if !p.udp || m.session ≠ 0 || m.seq ≠ 0 || m.body.length ≠ 16 then
    c.answerLoa p Session.closed m (Reply.bare .malformed)
  else if l = [] then c.answerLoa p Session.closed m (Reply.bare .retry)
  else
    let r := c.draw l.length
    let n := nth l r.1 1
    let x : Session :=
      { Session.closed with isOpen := true, addr := p.a, port := p.b, nc := ofBytes m.body, nh := nh }
    ((r.2.inc64 Obj.Loa.REQUESTS).updSession n fun _ => x).answerLoa p x { m with session := n }
      (Reply.whole (toBytes 16 nh))

/-- A wrong AUTH tag; the third closes the session (R367). DEDUCED, unsafe (log entry 58). -/
def Core.authFail (c : Core) (n : Nat) : Core :=
  let fails := (c.sessionOf n).fails + 1
  (c.inc Obj.Loa.AUTH_FAILS).updSession n fun x => if fails = 3 then Session.closed else { x with fails := fails }

/-- AUTH on a UDP session (R367, R369). DEDUCED, unsafe (log entry 58). -/
def Core.loaAuth (c : Core) (f : Fuses) (p : LoaPath) (n : Nat) (m : LoaMsg) : Core :=
  let x := c.sessionOf n
  match x.held m.seq with
  | some bs => c.again p bs
  | none =>
    if x.begun || m.seq ≠ 1 || !m.tagged || m.dlen ≠ 0 then c.answerLoa p x m (Reply.bare .malformed)
    else match c.admitKeyNow f with
      | none => c.authFail n
      | some key =>
        let ks := loaKey key (c.get Obj.Id.HUB_ID) n x.nc x.nh
        if m.sealed ks 0 then
          let y := { x with secure := true, ks := ks }
          let bs := replyBytes y m (Reply.bare .ok)
          ((c.inc64 Obj.Loa.REQUESTS).updSession n fun _ => y.keep m.seq bs).sendLoa p Vc.rsp bs
        else c.authFail n

/-! ## A message arrives -/

/-- Does a message break a rule of its form (R361 to R363)? DEDUCED, unsafe (log entry 56). -/
def LoaMsg.bad (m : LoaMsg) (p : LoaPath) : Bool :=
  m.lver ≠ 1 || m.op = 0 || m.op = 8 || 9 < m.op || m.rsv ≠ 0 || (m.tagged && !p.udp)
    || (if p.udp then 1232 else 256) < m.size
    || m.size ≠ 24 + (if m.op = 1 then 0 else m.dlen) + (if m.tagged then 16 else 0)

/-- Is a session open on the path that a message came by (R365, R366)? -/
def Core.sessionHere (c : Core) (p : LoaPath) (n : Nat) : Bool :=
  (c.sessionOf n).isOpen && (if p.udp then 1 ≤ n && n ≤ 16 else n = 0xFF00 + p.a)

/-- Does a message name a session of another UDP source (R366)? -/
def Core.foreign (c : Core) (p : LoaPath) (n : Nat) : Bool :=
  p.udp && c.sessionHere p n && ((c.sessionOf n).addr ≠ p.a || (c.sessionOf n).port ≠ p.b)

/-- An acknowledgement ends a notification's retries (R378); one that breaks its form does nothing (R362). -/
def Core.loaAck (c : Core) (p : LoaPath) (m : LoaMsg) : Core :=
  let x := c.sessionOf m.session
  if !(c.sessionHere p m.session) || m.dlen ≠ 0 || m.lver ≠ 1 || m.rsv ≠ 0 || (m.tagged && !x.secure) then c
  else if x.secure && !(m.sealed x.ks 3) then (c.inc Obj.Loa.AUTH_FAILS).flag Obj.Loa.FLAGS 2
  else c.updSession m.session fun x => { x with notes := x.notes.filter fun e => e.seq != m.seq }

/-- A request, once its seal is checked (R362, R363, R368). DEDUCED, unsafe (log entry 56). -/
def State.loaRequest (s : State) (p : LoaPath) (m : LoaMsg) (nh : Nat) : State :=
  let c := s.core
  let x := if c.sessionHere p m.session then c.sessionOf m.session else Session.closed
  let refuse : State := { s with core := c.answerLoa p x m (Reply.bare .malformed) }
  if m.bad p then refuse
  else if m.op = 4 then { s with core := c.loaOpen p m nh }
  else if !(c.sessionHere p m.session) then refuse
  else if m.op = 5 && p.udp then { s with core := c.loaAuth s.fuses p m.session m }
  else if (!p.udp && (m.op = 5 || m.op = 6)) || (m.tagged && !x.secure) then refuse
  else s.loaSeq p m.session m

/-- A message on a path (R360, R362, R366, R368): too short to name its session, or naming another's, it is discarded;
one of a secure session must hold under its key. -/
def State.loaMessage (s : State) (p : LoaPath) (bs : List Byte) (nh : Nat) : State :=
  let c := s.core
  let m := loaParse bs
  let x := c.sessionOf m.session
  if !c.loaServed || bs.length < 9 || c.foreign p m.session then s
  else if m.reply then (if m.op = 8 then { s with core := c.loaAck p m } else s)
  else if c.sessionHere p m.session && x.secure then
    (if m.sealed x.ks 0 then s.loaRequest p { m with body := gcmCrypt x.ks (loaIv m.session 0 m.seq) m.body } nh
     else { s with core := (c.inc Obj.Loa.AUTH_FAILS).flag Obj.Loa.FLAGS 2 })
  else s.loaRequest p m nh

/-- An LOA message arrives by a port or a datagram (R47, R364). -/
def State.loaArrival (s : State) (a : LoaArrival) (nh : Nat) : State :=
  match a with
  | .udp addr port ok bs =>
    if !s.core.loaServed then s
    else if !ok then { s with core := s.core.inc Obj.Mg.DATAGRAMS_BAD }
    else s.loaMessage { udp := true, a := addr, b := port.toNat } bs nh
  | .headrace p x =>
    let (c, msg) := s.core.objectIn p.val x
    let s1 : State := { s with core := c }
    match msg with
    | some bs => s1.loaMessage { udp := false, a := p.val, b := x.tag.toNat } bs nh
    | none => s1

/-! ## Notifications (R377, R378) -/

/-- The path of a session. -/
def Core.pathOf (c : Core) (n : Nat) : LoaPath :=
  if 0xFF00 ≤ n then { udp := false, a := n - 0xFF00, b := 0 }
  else { udp := true, a := (c.sessionOf n).addr, b := (c.sessionOf n).port }

/-- A notification is lost. DEDUCED, unsafe (log entry 59). -/
def Core.noteLost (c : Core) : Core := (c.inc Obj.Loa.NOTIFY_LOST).flag Obj.Loa.FLAGS 3

/-- One session is notified of the record with an EVENT_SEQ. -/
def Core.notifyOne (c : Core) (ev n : Nat) : Core :=
  let x := c.sessionOf n
  if !x.isOpen || !x.subscribed then c
  else if 16 ≤ x.notes.length then c.noteLost
  else
    let k := logKey ev
    let data := toBytes 32 (c.get k)
    let bs := loaSeal x.secure x.ks n 2 x.noteSeq
      (loaHeader 8 n x.noteSeq (k / 256) (k % 256) false x.secure (Reply.whole data)) data
    (c.updSession n fun y =>
      { y with noteSeq := y.noteSeq + 1, notes := y.notes ++ [{ seq := y.noteSeq, sent := 1, msg := bs }] }).sendLoa
      (c.pathOf n) Vc.ctl bs

/-- Sessions, UDP ones first. -/
def sessionNumbers : List Nat := (List.range 16).map (· + 1) ++ (List.range 8).map (· + 0xFF00)

def Core.notify (c : Core) (ev : Nat) : Core := sessionNumbers.foldl (fun c n => c.notifyOne ev n) c

/-- NOTIFY_RETRY: sent again at most 3 times, then lost (R378). DEDUCED, unsafe (log entry 59). -/
def Core.notifyRetry (c : Core) (n seq : Nat) : Core :=
  match (c.sessionOf n).notes.find? fun e => e.seq == seq with
  | none => c
  | some e =>
    if 4 ≤ e.sent then (c.updSession n fun x => { x with notes := x.notes.filter fun y => y.seq != seq }).noteLost
    else (c.updSession n fun x =>
      { x with notes := x.notes.map fun y => if y.seq = seq then { y with sent := y.sent + 1 } else y }).sendLoa
      (c.pathOf n) Vc.ctl e.msg

/-- SESSION_IDLE: a UDP session closes (R366). -/
def Core.sessionIdle (c : Core) (n : Nat) : Core :=
  if 1 ≤ n && n ≤ 16 then c.updSession n fun _ => Session.closed else c

/-! ## Management port services (R364) -/

/-- The interface identifier of the link-local address: MAC as a modified EUI-64. -/
def linkLocal (mac : Nat) : Nat :=
  0xFE80 <<< 112 + (field 47 24 mac ^^^ 0x020000) <<< 40 + 0xFFFE <<< 24 + field 23 0 mac

/-- Is an IPv4 (IPv6) address the hub's? -/
def Core.ownV4 (c : Core) (a : Nat) : Bool := c.mg.v4 ≠ 0 && a = c.mg.v4
def Core.ownV6 (c : Core) (a : Nat) : Bool := a = linkLocal (c.get Obj.Mg.MAC) || (c.mg.v6 ≠ 0 && a = c.mg.v6)

/-- Frame kinds: 0 ARP reply, 1 Neighbor Advertisement, 2 ICMPv4 echo reply, 3 ICMPv6 echo reply; the data of the first
two is the hub's MAC. -/
def Core.arp (c : Core) (target mac ip : Nat) : Core :=
  if c.loaServed && c.ownV4 target then c.emit (.frame 0 mac ip (toBytes 6 (c.get Obj.Mg.MAC))) else c

def Core.neighbor (c : Core) (target mac ip : Nat) : Core :=
  if c.loaServed && c.ownV6 target then c.emit (.frame 1 mac ip (toBytes 6 (c.get Obj.Mg.MAC))) else c

def Core.icmp (c : Core) (v6 : Bool) (dst src : Nat) (data : List Byte) : Core :=
  if c.loaServed && (if v6 then c.ownV6 dst else c.ownV4 dst) then c.emit (.frame (if v6 then 3 else 2) 0 src data) else c

/-- MG_LINK_CHANGE: LINK_STATE follows, and a lost link raises MG_LINK while it lasts (R304, R380).
DEDUCED, unsafe (log entry 62). -/
def Core.mgLink (c : Core) (up : Bool) : Core :=
  let c1 := c.put Obj.Mg.LINK_STATE (ofBool up)
  if up then c1.endStanding Src.mgLink
  else if c.isSet Obj.Mg.LINK_STATE then c1.raiseStanding Src.mgLink (ctxNone 0 0) else c1

end Sys2Proof.Machine
end

