-- ==== Sys2Proof/Machine/Settle.lean ====
section
/-! DEFINITION. What follows a command before it is over: the requests that its events made of other blocks, the always-on
domain's reset and release, and the clock (12_fault_collection.md R310, R315, R327, R328; 16_states_start_sluice.md R409;
11_power_sequencing.md R291). -/

namespace Sys2Proof.Machine

/-! ## Requests of events -/

/-- The subchannels of a half go OFFLINE, their DRAM in reset (R315 HALF_OFFLINE, R422). -/
def Core.halfOffline (c : Core) (h : Nat) : Core := c.each 16 fun c i => c.goOffline (16 * h + i) false true

/-- One request but SAFE and LOCKOUT. A checker failure loses the subchannel's content (R422). -/
def Core.serve (c : Core) (r : Req) : Core :=
  match r with
  | .scOffline n src => c.goOffline n false (src == Src.eccChecker n)
  | .halfOffline h _ => c.halfOffline h
  | .notify ev => c.notify ev
  | .sailTrigger w id tt d => c.sendTrigger w id tt d
  | .health => c.sendStatus
  | _ => c

/-- One round: LOCKOUT governs over SAFE (R314, R409), and a HEALTH STATUS follows either (R391).
DEDUCED, unsafe (log entry 36). DEDUCED, unsafe (log entry 37). -/
def State.settleRound (s : State) : State :=
  let l := s.core.req
  let c : Core := s.core.withReq []
  let lock := l.contains .lockout
  let safe := l.contains .safe
  let c1 := if lock then c.lockoutEntry else if safe then c.safeEntry else c
  let c2 := if lock || safe then c1.ask .health else c1
  { s with core := l.foldl (fun c r => c.serve r) c2, latch := s.latch || lock }

/-- Rounds until nothing is asked; each request of a round raises no more than the next rounds take. -/
def State.settleRounds : Nat → State → State
  | 0, s => s
  | n + 1, s => if s.core.req = [] then s else State.settleRounds n s.settleRound

/-- The end of a command: requests are served, a start under way goes on, and ROLE follows the ports (R389, R408). -/
def State.settle (s : State) : State :=
  if s.core.req = [] then s
  else
    let s1 := State.settleRounds 8 s
    let c := if s1.core.seqUp && s1.core.get Obj.Sail.ROLE ≠ s1.core.roleNow then s1.core.topology else s1.core
    State.settleRounds 8 { s1 with core := c.advance }

/-! ## Running a command -/

/-- What the command before it sent is gone. DESIGN CHOICE, unsafe (log entry 72). -/
def State.clear (s : State) : State := { s with core := { s.core with out := [], req := [] } }

/-- A command's effect on the whole hub, then what follows it. -/
def State.act (s : State) (f : State → State) : State := (f s.clear).settle

/-- An effect on everything but DRAM and fuses. -/
def State.onCore (s : State) (f : Core → Core) : State := s.act fun s => { s with core := f s.core }

/-- An effect that reaches DRAM. -/
def State.onMem (s : State) (f : Core → Memory → Core × Memory) : State :=
  s.act fun s => { s with core := (f s.core s.mem).1, mem := (f s.core s.mem).2 }

/-- Are the hub's rails up, and does the lockout latch not hold its engines (R406, R418)? DESIGN CHOICE, unsafe (log entry 9). -/
def Core.hubUp (c : Core) : Bool := c.seqUp && c.dev ≠ Dv.lockout

/-- A command that does nothing while its condition does not hold. DESIGN CHOICE, unsafe (log entry 8). -/
def State.when (s : State) (b : Bool) (t : State) : State := if b then t else s.clear

/-- An effect of a block that works while the hub is up. DESIGN CHOICE, unsafe (log entry 8). -/
def State.onHub (s : State) (f : Core → Core) : State := s.when s.core.hubUp (s.onCore f)

def State.onHubMem (s : State) (f : Core → Memory → Core × Memory) : State := s.when s.core.hubUp (s.onMem f)

/-- An effect of a block that works while its rails are up, LOCKOUT included. DESIGN CHOICE, unsafe (log entry 8). -/
def State.onPower (s : State) (f : Core → Core) : State := s.when s.core.seqUp (s.onCore f)

/-- The same for an effect that looks at the fuses. -/
def State.onFuses (s : State) (f : Core → Fuses → Core) : State := s.when s.core.seqUp (s.onCore fun c => f c s.fuses)

/-- An effect of the always-on domain. DESIGN CHOICE, unsafe (log entry 8). -/
def State.onAo (s : State) (f : Core → Core) : State := s.when s.core.seq.aoUp (s.onCore f)

def State.onAoMem (s : State) (f : Core → Memory → Core × Memory) : State := s.when s.core.seq.aoUp (s.onMem f)

/-- A write of an object by a command of its own, in a world; its status leaves (R446). While LOA is not served there is no
request. -/
def State.write (s : State) (w : World) (k : Nat) (bs : List Byte) (set : Nat) : State :=
  s.when s.core.loaServed (s.act fun s =>
    let r := s.writeObject w (k / 256) (k % 256) bs set
    { r.2 with core := r.2.core.emit (.status r.1) })

/-- A write of a number, in the length of its object; a number that does not fit has the wrong length. -/
def State.writeNum (s : State) (w : World) (k v : Nat) : State :=
  s.write w k (if v < 2 ^ widthOf k then toBytes (sizeOf k) v else toBytes (sizeOf k + 1) v) 0

/-- A write of a status-flag object, with flags that the hub sets in the same cycle (R10): those stay set even where the
write is refused. DEDUCED, unsafe (log entry 38). -/
def State.writeFlags (s : State) (w : World) (k v set : Nat) : State :=
  s.when s.core.loaServed (s.act fun s =>
    let n := (clearableOf (k / 256) (k % 256)).getD 0
    let bs := if v < 2 ^ widthOf k then toBytes (sizeOf k) v else toBytes 5 v
    let r := s.writeObject w (k / 256) (k % 256) bs (set &&& n)
    let c := if r.1 = .ok || n = 0 then r.2.core else (r.2.core.put k (r.2.core.get k ||| (set &&& n))).pins
    { r.2 with core := c.emit (.status r.1) })

/-- The answer of a command whose operands could arrive or not (WellFormed.lean). DESIGN CHOICE, safe (log entry 6). -/
def formed (ok : Bool) (t : State) : Host.Outcome State Fault Refusal := if ok then .next t else .refused .illFormed

/-! ## The always-on domain (R285, R287, R291, R292, R328) -/

/-- The hub in OFF with its flash: every object as the ledger holds it, or at its default (R12, R291).
DEDUCED, unsafe (log entry 14). -/
def Core.coldCore (c : Core) (q : SeqState) : Core :=
  let k := c.ledgerReload
  let c1 : Core :=
    { Core.init with
      tick := c.tick, drawn := c.drawn, out := c.out, req := c.req, ledger := k.ledger, images := c.images, spill := c.spill,
      flash := c.flash, seq := q, objs := k.objs, fc := { FcState.init with errN := c.fc.errN, safeN := c.fc.safeN } }
  ({ c1 with
      tap := { mode := c1.get Obj.Sec.JTAG_MODE, instr := .idcode }
      mg := { mode := c1.get Obj.Mg.MG_MODE, v4 := c1.get Obj.Mg.IPV4_ADDR, v6 := c1.get Obj.Mg.IPV6_ADDR,
              pending := false } } : Core).pins

/-- Every enable that is driven is released. -/
def Core.releaseRails (c : Core) : Core :=
  (c.each 16 fun c r => if 1 ≤ c.railState r ∧ c.railState r ≤ 3 then c.emit (.pin (.railEn r) false) else c).driveUp false
    |>.driveDn false

/-- ALWAYS_ON_RESET: the supply is gone, and with it every state but the flash and the fuses; DRAM content is lost. -/
def State.aoReset (s : State) : State :=
  let c := s.core.releaseRails
  let q : SeqState := { SeqState.init c.tick false c.seq.upIn c.seq.dnIn with aoUp := false }
  { s with core := c.coldCore q, mem := s.mem.loseAll, latch := false }

/-- AO_RESET_RELEASE: the domain leaves reset with the sequencer in OFF, the latch clear, and with UP_EN = 0 an on request
standing. The dwell starts (R285, R287). DEDUCED, unsafe (log entry 37). -/
def State.aoRelease (s : State) : State :=
  if s.core.seq.aoUp then s
  else
    let c := s.core
    { s with core := c.withSeq (SeqState.init c.tick (!c.upEn) c.seq.upIn c.seq.dnIn), latch := false }

/-! ## The clock -/

/-- One TCLK tick of 2 ns: hub time advances by 2 ns and TRIM while it runs (R22, R393), the counters of time count
(R98, R191), the Headrace lanes send (R30), and self-refresh entries whose window has passed end (R201). DESIGN CHOICE, unsafe (log entry 5). -/
def Core.clock (c : Core) : Core :=
  let c1 : Core := { c with
    tick := c.tick + 1
    hubTime := if c.timeRuns then ((c.hubTime + 2 ^ 33 : Int) + c.getInt Obj.Time.TRIM).toNat % 2 ^ 96 else c.hubTime }
  let c2 := (if c1.throttled then c1.add Obj.Millpond.THROTTLE_TIME 64 2 else c1).sendCodewords
  (c2.each 32 fun c n => c.finishEntry n).each 32 fun c n =>
    if c.scState n = 2 then c.add (Obj.Sc.SR_TIME n) 64 2
    else if c.get (Obj.Sc.PD_MASK n) ≠ 0 then c.add (Obj.Sc.PD_TIME n) 64 2
    else c

/-- What the hub does while no command waits. DESIGN CHOICE, unsafe (log entry 5). -/
def State.idle (s : State) : State := { s.clear with core := s.clear.core.clock }

end Sys2Proof.Machine
end

