-- ==== Sys2Proof/Machine/CmdArray.lean ====
section
/-! DEFINITION. The commands of Sail, hub time, epochs, the supervisors' heartbeats and the baton
(15_sail_time_array.md; 01_hub_in_the_array.md R22). -/

namespace Sys2Proof.Machine

/-- SAIL_BLOCK_LOCK (R386). -/
def execSailBlockLock (sp : SailNo) (s : State) : Host.Outcome State Fault Refusal :=
  .next (s.onPower fun c => c.sailBlockLock sp.val)

/-- SAIL_LINK_DOWN (R386). -/
def execSailLinkDown (sp : SailNo) (s : State) : Host.Outcome State Fault Refusal :=
  .next (s.onPower fun c => c.sailLinkDown sp.val)

/-- SAIL_TRIGGER (R392). -/
def execSailTrigger (sp : SailNo) (m : SailArrival) (s : State) : Host.Outcome State Fault Refusal :=
  .next (s.onPower fun c => c.sailRx sp.val m)

/-- SAIL_EPOCH (R399). -/
def execSailEpoch (sp : SailNo) (m : SailArrival) (s : State) : Host.Outcome State Fault Refusal :=
  .next (s.onPower fun c => c.sailRx sp.val m)

/-- SAIL_SEQ (R385). -/
def execSailSeq (sp : SailNo) (m : SailArrival) (s : State) : Host.Outcome State Fault Refusal :=
  .next (s.onPower fun c => c.sailRx sp.val m)

/-- SAIL_SEQ_KEEPALIVE (R385). -/
def execSailSeqKeepalive (sp : SailNo) (s : State) : Host.Outcome State Fault Refusal :=
  .next (s.onPower fun c => c.sailKeepalive sp.val)

/-- SAIL_RETX (R385). -/
def execSailRetx (sp : SailNo) (s : State) : Host.Outcome State Fault Refusal :=
  .next (s.onPower fun c => c.sailRetx sp.val)

/-- TIME_SYNC_SEND (R395). -/
def execTimeSyncSend (s : State) : Host.Outcome State Fault Refusal := .next (s.onPower fun c => c.timeSyncSend)

/-- TIME_SYNC (R395). -/
def execTimeSync (sp : SailNo) (m : SailArrival) (s : State) : Host.Outcome State Fault Refusal :=
  .next (s.onPower fun c => c.sailRx sp.val m)

/-- TIME_DREQ (R395). -/
def execTimeDreq (sp : SailNo) (m : SailArrival) (s : State) : Host.Outcome State Fault Refusal :=
  .next (s.onPower fun c => c.sailRx sp.val m)

/-- TIME_DRESP (R395, R397). -/
def execTimeDresp (sp : SailNo) (m : SailArrival) (s : State) : Host.Outcome State Fault Refusal :=
  .next (s.onPower fun c => c.sailRx sp.val m)

/-- HEALTH_HELLO (R390). -/
def execHealthHello (sp : SailNo) (m : SailArrival) (s : State) : Host.Outcome State Fault Refusal :=
  .next (s.onPower fun c => c.sailRx sp.val m)

/-- HEALTH_STATUS (R391). -/
def execHealthStatus (sp : SailNo) (m : SailArrival) (s : State) : Host.Outcome State Fault Refusal :=
  .next (s.onPower fun c => c.sailRx sp.val m)

/-- HEALTH_DUAL_HELM (R390). -/
def execHealthDualHelm (sp : SailNo) (m : SailArrival) (s : State) : Host.Outcome State Fault Refusal :=
  .next (s.onPower fun c => c.sailRx sp.val m)

/-- HEALTH_REFUSED (R390). -/
def execHealthRefused (sp : SailNo) (m : SailArrival) (s : State) : Host.Outcome State Fault Refusal :=
  .next (s.onPower fun c => c.sailRx sp.val m)

/-- HEALTH_PERIOD (R391). -/
def execHealthPeriod (s : State) : Host.Outcome State Fault Refusal := .next (s.onPower fun c => c.sendStatus)

/-- EPOCH_NOW (R398). -/
def execEpochNow (w : World) (s : State) : Host.Outcome State Fault Refusal :=
  .next (s.writeNum w Obj.Sail.EPOCH_NOW 1)

/-- EPOCH_PERIOD (R398). -/
def execEpochPeriod (s : State) : Host.Outcome State Fault Refusal := .next (s.onPower fun c => c.epochPeriod)

/-- EPOCH_LATCH (R400). -/
def execEpochLatch (s : State) : Host.Outcome State Fault Refusal := .next (s.onPower fun c => c.epochLatch)

/-- SNAPSHOT_PUBLISH (R400). -/
def execSnapshotPublish (s : State) : Host.Outcome State Fault Refusal := .next (s.onPower fun c => c.snapshotPublish)

/-- PTP_ANNOUNCE (R394). -/
def execPtpAnnounce (m : PtpAnnounce) (s : State) : Host.Outcome State Fault Refusal :=
  .next (s.onPower fun c => c.ptpAnnounce m)

/-- PTP_SYNC (R394). -/
def execPtpSync (m : PtpSync) (s : State) : Host.Outcome State Fault Refusal := .next (s.onPower fun c => c.ptpSync m)

/-- PTP_DELAY_RESP (R394, R397). -/
def execPtpDelayResp (m : PtpDelayResp) (s : State) : Host.Outcome State Fault Refusal :=
  .next (s.onPower fun c => c.ptpDelayResp m)

/-- PPS_EDGE (R396). -/
def execPpsEdge (stamp : BitVec 96) (s : State) : Host.Outcome State Fault Refusal :=
  .next (s.onPower fun c => c.ppsEdge stamp.toNat)

/-- HOLDOVER (R397). -/
def execHoldover (s : State) : Host.Outcome State Fault Refusal := .next (s.onPower fun c => c.holdover)

/-- A heartbeat; its status answers the supervisor's own write (R401). -/
def Core.heartbeatWrite (c : Core) (h v : Nat) : Core :=
  let r := c.heartbeat h v
  r.2.emit (.status r.1)

/-- HEARTBEAT_WRITE (R401). -/
def execHeartbeatWrite (h : Half) (v : BitVec 32) (s : State) : Host.Outcome State Fault Refusal :=
  .next (s.onAo fun c => c.heartbeatWrite h.val v.toNat)

/-- SUP_WDOG (R304, R345, R401). -/
def execSupWdog (h : Half) (s : State) : Host.Outcome State Fault Refusal :=
  .next (s.onFuses fun c f => c.supWdog f h.val)

/-- DECISION_POST (R402). -/
def execDecisionPost (h : Half) (num : Nat) (digest : BitVec 32) (s : State) : Host.Outcome State Fault Refusal :=
  .next (s.onAo fun c => c.decisionPost h.val num digest.toNat)

/-- DECIDE_MISS (R402). -/
def execDecideMiss (num : Nat) (s : State) : Host.Outcome State Fault Refusal :=
  .next (s.onAo fun c => c.decideMiss num)

/-- BATON_ARBITRATE (R403). -/
def execBatonArbitrate (s : State) : Host.Outcome State Fault Refusal := .next (s.onAo fun c => c.arbitrate)

end Sys2Proof.Machine
end

