-- ==== Sys2Proof/Machine/CmdCapture.lean ====
section
/-! DEFINITION. The commands of capture, retention and accumulation (03_millrace_capture.md, 04_weir_retention.md,
05_millstone_accumulation.md). A write of an object is a request of LOA in a world (R446); its status leaves. -/

namespace Sys2Proof.Machine

/-- FLUSH_TIMEOUT (R92). -/
def execFlushTimeout (st : StreamNo) (s : State) : Host.Outcome State Fault Refusal :=
  .next (s.onHub fun c => c.flushTimeout st.val)

/-- BLOCK_COMMIT (R99). -/
def execBlockCommit (st : StreamNo) (s : State) : Host.Outcome State Fault Refusal :=
  .next (s.onHub fun c => c.blockCommit st.val)

/-- STREAM_ENABLE (R72). -/
def execStreamEnable (st : StreamNo) (w : World) (s : State) : Host.Outcome State Fault Refusal :=
  .next (s.writeNum w (Obj.Stream.ENABLE st.val) 1)

/-- STREAM_DISABLE (R73). -/
def execStreamDisable (st : StreamNo) (w : World) (s : State) : Host.Outcome State Fault Refusal :=
  .next (s.writeNum w (Obj.Stream.ENABLE st.val) 0)

/-- PARTITION_WRITE (R95). -/
def execPartitionWrite (w : World) (v : BitVec 32) (s : State) : Host.Outcome State Fault Refusal :=
  .next (s.writeNum w Obj.Millpond.PARTITION v.toNat)

/-- ELASTIC_PEAK_RESET (R98). -/
def execElasticPeakReset (w : World) (s : State) : Host.Outcome State Fault Refusal :=
  .next (s.writeNum w Obj.Millpond.ELASTIC_PEAK 0)

/-- REGION_DEFINE (R83). -/
def execRegionDefine (r : RegionNo) (w : World) (per : BitVec 8) (s : State) : Host.Outcome State Fault Refusal :=
  .next (s.writeNum w (Obj.Region.PERSONALITY r.val) per.toNat)

/-- REGION_FREE (R83, R162). -/
def execRegionFree (r : RegionNo) (w : World) (s : State) : Host.Outcome State Fault Refusal :=
  .next (s.writeNum w (Obj.Region.PERSONALITY r.val) 0)

/-- WINDOW_ARM (R103). -/
def execWindowArm (n : WindowNo) (w : World) (s : State) : Host.Outcome State Fault Refusal :=
  .next (s.writeNum w (Obj.Window.ARM n.val) 1)

/-- WINDOW_DISARM (R103). -/
def execWindowDisarm (n : WindowNo) (w : World) (s : State) : Host.Outcome State Fault Refusal :=
  .next (s.writeNum w (Obj.Window.ARM n.val) 0)

/-- WINDOW_RELEASE (R116). -/
def execWindowRelease (n : WindowNo) (w : World) (s : State) : Host.Outcome State Fault Refusal :=
  .next (s.writeNum w (Obj.Window.RELEASE n.val) 1)

/-- CONTEXT_START (R122). -/
def execContextStart (x : ContextNo) (w : World) (s : State) : Host.Outcome State Fault Refusal :=
  .next (s.writeNum w (Obj.Context.START x.val) 1)

/-- CONTEXT_STOP (R124). -/
def execContextStop (x : ContextNo) (w : World) (s : State) : Host.Outcome State Fault Refusal :=
  .next (s.writeNum w (Obj.Context.START x.val) 0)

/-- CONTEXT_OP_WRITE (R130). -/
def execContextOpWrite (x : ContextNo) (w : World) (op : BitVec 8) (s : State) : Host.Outcome State Fault Refusal :=
  .next (s.writeNum w (Obj.Context.OP x.val) op.toNat)

/-- CLOSE_NOW (R133). -/
def execCloseNow (x : ContextNo) (w : World) (s : State) : Host.Outcome State Fault Refusal :=
  .next (s.writeNum w (Obj.Context.CLOSE_NOW x.val) 1)

/-- FRAME_CLOSE_COMPLETE (R133). -/
def execFrameCloseComplete (x : ContextNo) (s : State) : Host.Outcome State Fault Refusal :=
  .next (s.onHub fun c => c.frameClosed x.val)

end Sys2Proof.Machine
end

