-- ==== Sys2Proof/Machine/CmdDrain.lean ====
section
/-! DEFINITION. The commands of drain jobs, checkpoints and scan-out leases (06_tailrace_drain_scanout.md;
13_security_worlds.md R350, R352). -/

namespace Sys2Proof.Machine

/-- JOB_START (R146). -/
def execJobStart (j : JobNo) (w : World) (s : State) : Host.Outcome State Fault Refusal :=
  .next (s.writeNum w (Obj.Job.START j.val) 1)

/-- JOB_CANCEL (R149). -/
def execJobCancel (j : JobNo) (w : World) (s : State) : Host.Outcome State Fault Refusal :=
  .next (s.writeNum w (Obj.Job.CANCEL j.val) 1)

/-- JOB_RESUME (R157). -/
def execJobResume (j : JobNo) (w : World) (s : State) : Host.Outcome State Fault Refusal :=
  .next (s.writeNum w (Obj.Job.RESUME j.val) 1)

/-- JOB_CELL_SEND (R154). -/
def execJobCellSend (j : JobNo) (tag : BitVec 12) (s : State) : Host.Outcome State Fault Refusal :=
  .next (s.onHub fun c => c.jobSend j.val tag.toNat)

/-- PUSH_RESP_TIMEOUT (R154). -/
def execPushRespTimeout (j : JobNo) (tag : Nat) (s : State) : Host.Outcome State Fault Refusal :=
  .next (s.onHub fun c => c.pushTimeout j.val tag)

/-- JOB_STALL_TIMEOUT (R156). -/
def execJobStallTimeout (j : JobNo) (s : State) : Host.Outcome State Fault Refusal :=
  .next (s.onHub fun c => c.jobStalled j.val)

/-- CHECKPOINT_SIGNED (R350). -/
def execCheckpointSigned (j : JobNo) (s : State) : Host.Outcome State Fault Refusal :=
  .next (s.onHub fun c => c.checkpointSigned j.val)

/-- CP_FETCH (R352). -/
def execCpFetch (w : World) (v : BitVec 64) (s : State) : Host.Outcome State Fault Refusal :=
  .next (s.writeNum w Obj.CpFetch.CP_FETCH_SEQ v.toNat)

/-- LEASE_ENABLE (R158). -/
def execLeaseEnable (l : LeaseNo) (w : World) (s : State) : Host.Outcome State Fault Refusal :=
  .next (s.writeNum w (Obj.Lease.ENABLE l.val) 1)

/-- LEASE_DISABLE (R158). -/
def execLeaseDisable (l : LeaseNo) (w : World) (s : State) : Host.Outcome State Fault Refusal :=
  .next (s.writeNum w (Obj.Lease.ENABLE l.val) 0)

/-- FRAME_MARK (R159). -/
def execFrameMark (l : LeaseNo) (w : World) (v : BitVec 32) (s : State) : Host.Outcome State Fault Refusal :=
  .next (s.writeNum w (Obj.Lease.FRAME_MARK l.val) v.toNat)

/-- FRAME_OVERRUN (R159). -/
def execFrameOverrun (l : LeaseNo) (s : State) : Host.Outcome State Fault Refusal :=
  .next (s.onHub fun c => c.frameOverrun l.val)

/-- LEASE_QUIET (R161). -/
def execLeaseQuiet (sc : ScNo) (s : State) : Host.Outcome State Fault Refusal :=
  .next (s.onHub fun c => c.leaseDecide sc.val)

/-- LEASE_WAKE (R161). -/
def execLeaseWake (sc : ScNo) (s : State) : Host.Outcome State Fault Refusal :=
  .next (s.onHub fun c => c.leaseWake sc.val)

end Sys2Proof.Machine
end

