-- ==== Sys2Proof/WellFormed.lean ====
section
/-! DEFINITION. Which command operands can arrive at all: a list that stands for a fixed number of bytes, lanes or dies has
that number. -/

namespace Sys2Proof

/-- A cell carries 256 payload bytes, whatever its PLEN states (R35, R36). -/
def Cell.wf (c : Cell) : Bool := decide (c.payload.length = 256)

/-- A codeword that decodes has at most 15 corrected symbols (R26, R29). -/
def Codeword.wf (c : Codeword) : Bool := decide (c.corrected ≤ 15)

/-- A read returns 80 symbols, and for each of 10 lanes the 64 bits of its two shadow samplers (R219, R249). -/
def ReadData.wf (d : ReadData) : Bool :=
  decide (d.err.length = 80 ∧ d.shadow.length = 10) && d.shadow.all fun e => decide (e.1 < 2 ^ 64 ∧ e.2 < 2 ^ 64)

/-- A write sweep has a run for each of 10 lanes, and saves columns 0 to 127 (R236). -/
def WriteSweep.wf (s : WriteSweep) : Bool := decide (s.runs.length = 10) && s.saveBad.all (· < 128)

/-- SELFTEST calibrates 25 monitor channels (R230). -/
def SelftestResult.wf (r : SelftestResult) : Bool := decide (r.trims.length = 25)

/-- A restore checks 10 lanes of each of two package ranks (R413). -/
def RestoreResult.wf (r : RestoreResult) : Bool := decide (r.lanes.length = 20)

/-- A step of cold training reports 10 lanes of one package rank (R206). -/
def StepResult.wf (r : StepResult) : Bool := decide (r.lanes.length = 10)

/-- The bytes of the LOA message in an arrival. -/
def LoaArrival.message : LoaArrival → List Byte
  | .headrace _ c => c.payload
  | .udp _ _ _ msg => msg

/-- An OBJECT cell carries 256 payload bytes; a datagram has its own length (R47, R362). -/
def LoaArrival.wf : LoaArrival → Bool
  | .headrace _ c => c.wf
  | .udp _ _ _ _ => true

/-- OP of an LOA message is OPEN (R362): such an arrival is LOA_OPEN, which alone brings the hub's nonce. -/
def LoaArrival.opens (a : LoaArrival) : Bool := a.message.head?.any fun b => b.toNat % 16 = 4

/-- Can a command arrive as it is written? DESIGN CHOICE, safe (log entry 6). -/
def Instr.wf : Instr → Bool
  | .laneTrainingRestart _ _ => true
  | .laneTrained _ _ => true
  | .codewordReceive _ _ cw => cw.wf
  | .txmaskUpdate _ => true
  | .idleCell _ c => c.wf
  | .creditCell _ c => c.wf
  | .writeCell _ c => c.wf
  | .writeResponse _ _ => true
  | .readRequest _ c => c.wf
  | .readResponse _ _ => true
  | .hostResponse _ c => c.wf
  | .creditSend _ => true
  | .keepaliveLost _ => true
  | .streamSamples _ c => c.wf
  | .streamDisclosure _ c => c.wf
  | .streamRecordRefused _ c => c.wf
  | .flushTimeout _ => true
  | .blockCommit _ => true
  | .streamEnable _ _ => true
  | .streamDisable _ _ => true
  | .partitionWrite _ _ => true
  | .elasticPeakReset _ => true
  | .regionDefine _ _ _ => true
  | .regionFree _ _ => true
  | .windowArm _ _ => true
  | .windowDisarm _ _ => true
  | .windowRelease _ _ => true
  | .trigger _ c => c.wf
  | .contextStart _ _ => true
  | .contextStop _ _ => true
  | .contextOpWrite _ _ _ => true
  | .closeNow _ _ => true
  | .frameCloseComplete _ => true
  | .jobStart _ _ => true
  | .jobCancel _ _ => true
  | .jobResume _ _ => true
  | .jobCellSend _ _ => true
  | .pushRespTimeout _ _ => true
  | .jobStallTimeout _ => true
  | .checkpointSigned _ => true
  | .leaseEnable _ _ => true
  | .leaseDisable _ _ => true
  | .frameMark _ _ _ => true
  | .frameOverrun _ => true
  | .leaseQuiet _ => true
  | .leaseWake _ => true
  | .mcRequestAccept _ => true
  | .mcPick _ _ => true
  | .readDecode _ d => d.wf
  | .refreshInterval _ _ => true
  | .refLate _ _ => true
  | .mr4Poll _ => true
  | .mr4Result _ _ dies => decide (dies.length = 10)
  | .requestPromote _ _ => true
  | .rowIdleClose _ _ => true
  | .refreshFlush _ => true
  | .powerDownEntry _ _ => true
  | .selfRefreshEntry _ => true
  | .selfRefreshExit _ => true
  | .addrMapWrite _ _ => true
  | .alertEvent _ => true
  | .alertDeassert _ => true
  | .alertStuck _ => true
  | .trainStepDone _ r => r.wf
  | .retrain _ _ => true
  | .trackStarved _ _ _ => true
  | .creditReask _ _ _ => true
  | .tapStep _ _ _ _ => true
  | .dllTrimStep _ _ => true
  | .monCal _ => true
  | .monCalDone _ _ _ _ => true
  | .monReading _ _ => true
  | .recal _ _ => true
  | .capture _ => true
  | .writeSweepDone _ _ r => r.wf
  | .ledgerCommit _ => true
  | .ledgerStepDone _ _ => true
  | .calCommitDue _ => true
  | .forerunnerWrite _ _ _ => true
  | .decoderSelftest _ outcomes => decide (outcomes.length = 4)
  | .eraseMapWrite _ _ _ => true
  | .scrubRow _ => true
  | .repair _ _ => true
  | .repairDone _ _ => true
  | .railExcursion _ _ _ => true
  | .railRecover _ => true
  | .pgDisagree _ => true
  | .comparatorTest _ _ => true
  | .rampStep _ _ => true
  | .railUp _ => true
  | .delayOnExpiry => true
  | .rampTimeout => true
  | .descentStep => true
  | .railOff _ => true
  | .delayOffExpiry => true
  | .descentStuck => true
  | .sqUpInRise => true
  | .sqUpInFall => true
  | .powerReqOff _ => true
  | .powerReqCycle _ => true
  | .dwellEnd => true
  | .sqDnInChange _ => true
  | .cascadeTimeout => true
  | .inputCollapse _ => true
  | .aoResetRelease => true
  | .marginWrite _ _ _ => true
  | .marginStep _ => true
  | .pmbusPoll _ => true
  | .pmbusAlert _ => true
  | .firstFailureEnd => true
  | .faultEvent _ _ => true
  | .wireFault _ => true
  | .sourceIdle _ => true
  | .quietWindowClose _ => true
  | .faultInject _ _ => true
  | .injectionEnd _ => true
  | .pinReadbackFault => true
  | .feRearm _ => true
  | .clearAll _ => true
  | .statusFlagClear _ _ _ _ _ => true
  | .configScan _ => true
  | .receiverSelftest _ _ => true
  | .keyImport _ _ _ => true
  | .keyErase _ _ => true
  | .fuseOwnerKey _ _ _ => true
  | .fuseRevoke _ _ => true
  | .fuseSvnFloor _ _ => true
  | .fuseSecureBoot _ => true
  | .fuseJtagPermLock _ => true
  | .supervisorBoot _ => true
  | .imgOpen _ _ => true
  | .imgData _ _ => true
  | .imgClose _ => true
  | .activate _ _ => true
  | .confirm _ _ => true
  | .trialExpiry _ => true
  | .cpFetch _ _ => true
  | .jtagInstruction _ => true
  | .jtagTestLogicReset => true
  | .loaRead a => a.wf && !a.opens
  | .loaWrite a => a.wf && !a.opens
  | .loaDescribe a => a.wf && !a.opens
  | .loaOpen a _ => a.wf
  | .loaAuth a => a.wf && !a.opens
  | .loaClose a => a.wf && !a.opens
  | .loaSubscribe a => a.wf && !a.opens
  | .loaNotifyAck a => a.wf && !a.opens
  | .loaEcho a => a.wf && !a.opens
  | .notifyRetry _ _ => true
  | .sessionIdle _ => true
  | .arpRequest _ _ _ => true
  | .neighborSolicitation _ _ _ => true
  | .icmpEcho _ _ _ _ => true
  | .mgLinkChange _ => true
  | .mgAddressWrite _ _ _ => true
  | .mgAddressApply => true
  | .admitKey _ _ => true
  | .factoryDefaults _ => true
  | .sailBlockLock _ => true
  | .sailLinkDown _ => true
  | .sailTrigger _ _ => true
  | .sailEpoch _ _ => true
  | .sailSeq _ _ => true
  | .sailSeqKeepalive _ => true
  | .sailRetx _ => true
  | .timeSyncSend => true
  | .timeSync _ _ => true
  | .timeDreq _ _ => true
  | .timeDresp _ _ => true
  | .healthHello _ _ => true
  | .healthStatus _ _ => true
  | .healthDualHelm _ _ => true
  | .healthRefused _ _ => true
  | .healthPeriod => true
  | .epochNow _ => true
  | .epochPeriod => true
  | .epochLatch => true
  | .snapshotPublish => true
  | .ptpAnnounce _ => true
  | .ptpSync _ => true
  | .ptpDelayResp _ => true
  | .ppsEdge _ => true
  | .holdover => true
  | .heartbeatWrite _ _ => true
  | .supWdog _ => true
  | .decisionPost _ _ _ => true
  | .decideMiss _ => true
  | .batonArbitrate => true
  | .stateReqService _ => true
  | .stateReqLeaveService _ => true
  | .stateReqSleep _ => true
  | .stateReqWake _ => true
  | .stateReqExitSafe _ => true
  | .safeFlush => true
  | .selftestDone r => r.wf
  | .restoreDone _ r => r.wf
  | .shutdownPhaseEnd _ => true
  | .scOrderOffline _ _ => true
  | .scOrderHold _ _ => true
  | .scOrderOnline _ _ => true
  | .offlineHoldExpiry _ => true
  | .fillDone _ => true
  | .sluiceGrant => true
  | .sluiceBudgetWrite _ _ _ => true
  | .registerWrite _ _ _ _ => true
  | .glitch _ => true
  | .monitorReadingStale _ => true
  | .alwaysOnReset => true

end Sys2Proof
end

