-- ==== Sys2Proof/Machine/CmdEcc.lean ====
section
/-! DEFINITION. The commands of error correction, scrub and in-service repair (10_ecc_repair.md). -/

namespace Sys2Proof.Machine

/-- READ_DECODE (R249). -/
def execReadDecode (sc : ScNo) (d : ReadData) (s : State) : Host.Outcome State Fault Refusal :=
  formed d.wf (s.onHub fun c => (c.readDecode sc.val d).repairTurn sc.val)

/-- DECODER_SELFTEST (R251): the outcomes of the four test words. -/
def execDecoderSelftest (sc : ScNo) (outcomes : List Nat) (s : State) : Host.Outcome State Fault Refusal :=
  formed (decide (outcomes.length = 4)) (s.onHub fun c => c.decoderSelftest sc.val outcomes)

/-- ERASE_MAP_WRITE (R253). -/
def execEraseMapWrite (sc : ScNo) (w : World) (v : BitVec 16) (s : State) : Host.Outcome State Fault Refusal :=
  .next (s.writeNum w (Obj.EccSc.ERASE_MAP sc.val) v.toNat)

/-- SCRUB_ROW (R256). -/
def execScrubRow (sc : ScNo) (s : State) : Host.Outcome State Fault Refusal :=
  .next (s.onHub fun c => c.scrubRow sc.val)

/-- REPAIR (R260). -/
def execRepair (sc : ScNo) (resource : Bool) (s : State) : Host.Outcome State Fault Refusal :=
  .next (s.onHub fun c => (c.repairBegin sc.val resource).repairTurn sc.val)

/-- REPAIR_DONE (R260). -/
def execRepairDone (sc : ScNo) (lr : RankNo) (s : State) : Host.Outcome State Fault Refusal :=
  .next (s.onHub fun c => c.repairDone sc.val lr.val)

end Sys2Proof.Machine
end

