-- ==== Sys2Proof/Machine/CmdFantail.lean ====
section
/-! DEFINITION. The commands of Fantail, the monitors, calibration and the ledger (09_fantail_calibration.md). -/

namespace Sys2Proof.Machine

/-- TRACK_STARVED (R224). -/
def execTrackStarved (sc : ScNo) (pr : Fin 2) (k : LaneNo) (s : State) : Host.Outcome State Fault Refusal :=
  .next (s.onHub fun c => c.starve sc.val pr.val k.val)

/-- CREDIT_REASK (R424). -/
def execCreditReask (kind : ReaskKind) (sc : ScNo) (pr : Fin 2) (s : State) : Host.Outcome State Fault Refusal :=
  .next (s.onHub fun c => c.creditReask kind sc.val pr.val)

/-- TAP_STEP (R226). -/
def execTapStep (sc : ScNo) (pr : Fin 2) (k : LaneNo) (f : TapField) (s : State) : Host.Outcome State Fault Refusal :=
  .next (s.onHub fun c => c.tapStep sc.val pr.val k.val (tapNum f))

/-- The loop of a half moves its trim by one DAC step, at most one in 10 µs (5,000 ticks), or loses lock (R229). -/
def Core.dllStep (c : Core) (h : Nat) (up : Option Bool) : Core :=
  let x := Tbl.get (fun _ => (0, 0)) c.dll h
  match up with
  | none => c.raise (Src.dllUnlock h) (ctxNone 0 0)
  | some b =>
    if x.2 ≠ 0 ∧ c.tick + 1 < x.2 + 5000 then c
    else c.withDll (Tbl.set (fun _ => (0, 0)) c.dll h (x.1 + (if b then 1 else -1), c.tick + 1))

/-- DLL_TRIM_STEP (R229). -/
def execDllTrimStep (h : Half) (up : Option Bool) (s : State) : Host.Outcome State Fault Refusal :=
  .next (s.onHub fun c => c.dllStep h.val up)

/-- MON_CAL (R230). -/
def execMonCal (ch : ChannelNo) (s : State) : Host.Outcome State Fault Refusal :=
  .next (s.onPower fun c => c.monCal ch.val)

/-- MON_CAL_DONE (R230). -/
def execMonCalDone (ch : ChannelNo) (rippleMv : Nat) (off : Int) (gain : Int) (s : State) :
    Host.Outcome State Fault Refusal :=
  .next (s.onPower fun c => c.monCalDone ch.val rippleMv off gain)

/-- MON_READING (R231). -/
def execMonReading (ch : ChannelNo) (v : Int) (s : State) : Host.Outcome State Fault Refusal :=
  .next (s.onPower fun c => c.monReading ch.val v)

/-- MONITOR_READING_STALE (R231). -/
def execMonitorReadingStale (ch : ChannelNo) (s : State) : Host.Outcome State Fault Refusal :=
  .next (s.onPower fun c => c.monAged ch.val)

/-- RECAL (R234). -/
def execRecal (sc : ScNo) (w : World) (s : State) : Host.Outcome State Fault Refusal :=
  .next (s.writeNum w (Obj.FtSc.RECAL sc.val) 1)

/-- CAPTURE (R235). -/
def execCapture (sc : ScNo) (s : State) : Host.Outcome State Fault Refusal :=
  .next (s.onHub fun c => c.captureBegin sc.val)

/-- WRITE_SWEEP_DONE (R236); `r` is what the sweep found. -/
def execWriteSweepDone (sc : ScNo) (pr : Fin 2) (r : WriteSweep) (s : State) : Host.Outcome State Fault Refusal :=
  formed r.wf (s.onHubMem fun c m => c.writeSweep m sc.val pr.val r)

/-- LEDGER_COMMIT (R237). -/
def execLedgerCommit (rec : LedgerRec) (s : State) : Host.Outcome State Fault Refusal :=
  .next (s.onAo fun c => c.ledgerBegin (ledgerNum rec))

/-- LEDGER_STEP_DONE (R237, R238); `flaw` names the bits that a programming step left otherwise than programmed. -/
def execLedgerStepDone (rec : LedgerRec) (flaw : List (Nat × Byte)) (s : State) : Host.Outcome State Fault Refusal :=
  .next (s.onAo fun c => c.ledgerStep (ledgerNum rec) flaw)

/-- COMMIT_MIN_S has passed: waiting changes of a half's record are committed (R238). -/
def Core.calCommitDue (c : Core) (h : Nat) : Core := if (c.ledgerOf h).dirty then c.ledgerBegin h else c

/-- CAL_COMMIT_DUE (R238). -/
def execCalCommitDue (h : Half) (s : State) : Host.Outcome State Fault Refusal :=
  .next (s.onAo fun c => c.calCommitDue h.val)

/-- FORERUNNER_WRITE (R242). -/
def execForerunnerWrite (h : Half) (w : World) (bs : List Byte) (s : State) : Host.Outcome State Fault Refusal :=
  .next (s.write w (forerunnerKey h.val) bs 0)

end Sys2Proof.Machine
end

