-- ==== Sys2Proof/Machine/CmdFaults.lean ====
section
/-! DEFINITION. The commands of fault collection (12_fault_collection.md). -/

namespace Sys2Proof.Machine

/-- Sources in the always-on domain, which may arise in OFF and RAMP too (R303). -/
def Src.alwaysOn (s : Nat) : Bool := (7 ≤ s && s ≤ 0xA) || (0x100 ≤ s && s < 0x180)

/-- Can the source's block report at all? -/
def Core.reports (c : Core) (s : Nat) : Bool := c.seqUp || (c.seq.aoUp && Src.alwaysOn s)

/-- An uncorrectable word of the elastic buffer poisons the block it lies in, a free value among the stream's blocks (R304).
DEDUCED, unsafe (log entry 33). -/
def Core.elasticUe (c : Core) (st : Nat) : Core :=
  let l := (c.streamOf st).blocks
  if l.isEmpty then c
  else
    let (i, c1) := c.draw l.length
    c1.updStream st fun x => { x with blocks := x.blocks.modify i fun b => { b with poison := true } }

/-- An uncorrectable word of the combining cache marks the line it lies in, a free value among the context's lines (R140).
DEDUCED, unsafe (log entry 33). -/
def Core.cacheUe (c : Core) (x : Nat) : Core :=
  let l := c.cache.filter fun y => y.x == x
  let c0 := c.flag Obj.Millstone.FLAGS 1
  match l with
  | [] => c0
  | a :: _ =>
    let (i, c1) := c0.draw l.length
    let y := (l[i]?).getD a
    c1.updFrameNo x y.k fun f => { f with bad := (List.range 4).map (fun j => 4 * y.line + j) ++ f.bad }

/-- A corrected Millpond word may lie in the combining cache; which offsets its part takes the spec does not say (R94, R140).
DEDUCED, unsafe (log entry 33). -/
def Core.millpondCe (c : Core) : Core :=
  let (b, c1) := c.draw 2
  if b = 1 then c1.inc Obj.Millstone.CACHE_CORRECTED else c1

/-- What a source's condition does beside its event. DEDUCED, unsafe (log entry 33). -/
def Core.faultSide (c : Core) (s : Nat) (x : FaultCtx) : Core :=
  if s = Src.mpUeElastic then c.elasticUe x.value.toNat
  else if s = Src.msCacheUe then c.cacheUe x.value.toNat
  else if s = Src.mpCe then c.millpondCe
  else c

/-- A pair changes to FAULT (R303). -/
def Core.faultEvent (c : Core) (s : Nat) (x : FaultCtx) : Core :=
  if c.reports s then (c.faultSide s x).raiseStanding s x else c

/-- FAULT_EVENT (R303). -/
def execFaultEvent (src : SourceNo) (ctx : FaultCtx) (s : State) : Host.Outcome State Fault Refusal :=
  .next (s.onCore fun c => c.faultEvent src.val ctx)

/-- A pair reads INVALID twice: an event with the WIRE mark, and ACTIVE stands while it lasts (R303). Under an injection the
condition is latched (R322). -/
def Core.wireFault (c : Core) (s : Nat) : Core :=
  if !(c.reports s) || (sourceInfo? s).isNone then c
  else if c.injected s then
    (if c.fc.latched.any (·.1 == s) then c else c.withFc { c.fc with latched := c.fc.latched ++ [(s, ctxNone 0 0)] }).setUnder
      s 2
  else if c.pairOf s = 2 then c
  else if c.fc.running then (c.event s { Marks.none with wire := true } (ctxNone 0 0)).setPair s 2
  else c.withFc { c.fc with held := c.fc.held ++ [(s, ctxNone 0 0)], pairs := Tbl.setNum c.fc.pairs s 2 }

/-- WIRE_FAULT (R303). -/
def execWireFault (src : SourceNo) (s : State) : Host.Outcome State Fault Refusal :=
  .next (s.onCore fun c => c.wireFault src.val)

/-- SOURCE_IDLE (R303). -/
def execSourceIdle (src : SourceNo) (s : State) : Host.Outcome State Fault Refusal :=
  .next (s.onCore fun c => c.endStanding src.val)

/-- QUIET_WINDOW_CLOSE (R317). -/
def execQuietWindowClose (id : Nat) (s : State) : Host.Outcome State Fault Refusal :=
  .next (s.onPower fun c => c.closeWindow id)

/-- FAULT_INJECT (R321). -/
def execFaultInject (src : SourceNo) (w : World) (s : State) : Host.Outcome State Fault Refusal :=
  .next (s.writeNum w (Obj.Source.FORCE src.val) 1)

/-- INJECTION_END (R322). -/
def execInjectionEnd (src : SourceNo) (s : State) : Host.Outcome State Fault Refusal :=
  .next (s.onPower fun c => c.injectionEnd src.val)

/-- PIN_READBACK_FAULT (R320). -/
def execPinReadbackFault (s : State) : Host.Outcome State Fault Refusal :=
  .next (s.onPower fun c => c.raise Src.fcPin (ctxNone 0 0))

/-- FE_REARM (R323). -/
def execFeRearm (w : World) (s : State) : Host.Outcome State Fault Refusal :=
  .next (s.writeNum w Obj.Fc.FE_REARM 1)

/-- CLEAR_ALL (R332). -/
def execClearAll (w : World) (s : State) : Host.Outcome State Fault Refusal :=
  .next (s.writeNum w Obj.Fc.CLEAR_ALL 1)

/-- STATUS_FLAG_CLEAR (R10): `set` holds the flags that the hub sets in the same cycle. -/
def execStatusFlagClear (w : World) (idx : BitVec 16) (sub : BitVec 8) (v : BitVec 32) (set : BitVec 32) (s : State) :
    Host.Outcome State Fault Refusal :=
  .next (s.writeFlags w (idx.toNat * 256 + sub.toNat) v.toNat set.toNat)

/-- A configuration word fails parity: FC_REG, SAFE without classification, and FALLBACK (R329). -/
def Core.configBad (c : Core) (word : Nat) : Core :=
  if !c.fc.running then c
  else
    let c1 := c.raise Src.fcReg (ctxNumber 0 0 word)
    (((c1.withFc { c1.fc with fallback := true }).flag Obj.Fc.FLAGS 5).pins).ask .safe

/-- CONFIG_SCAN (R329): the scan finds nothing, or a failing word. -/
def execConfigScan (bad : Option Nat) (s : State) : Host.Outcome State Fault Refusal :=
  .next (s.onPower fun c => match bad with | none => c | some w => c.configBad w)

/-- The self-test of a receiver (R329). -/
def Core.receiverTest (c : Core) (s : Nat) (ok : Bool) : Core :=
  if !c.fc.running then c
  else
    let c1 : Core := c.withFc { c.fc with tested := s }
    if ok then c1 else c1.raise Src.fcSelftest (ctxNumber 0 0 s)

/-- RECEIVER_SELFTEST (R329). -/
def execReceiverSelftest (src : SourceNo) (ok : Bool) (s : State) : Host.Outcome State Fault Refusal :=
  .next (s.onPower fun c => c.receiverTest src.val ok)

end Sys2Proof.Machine
end

