-- ==== Sys2Proof/Machine/CmdLinks.lean ====
section
/-! DEFINITION. The commands of Headrace (02_headrace_links.md): lanes, codewords, cells and credits. -/

namespace Sys2Proof.Machine

/-- LANE_TRAINING_RESTART (R32). -/
def execLaneTrainingRestart (p : Port) (l : LaneEnd) (s : State) : Host.Outcome State Fault Refusal :=
  .next (s.onPower fun c => c.laneRestart p.val l.lane.val l.dir)

/-- LANE_TRAINED (R32). -/
def execLaneTrained (p : Port) (l : LaneEnd) (s : State) : Host.Outcome State Fault Refusal :=
  .next (s.onPower fun c => c.laneTrained p.val l.lane.val l.dir)

/-- CODEWORD_RECEIVE (R28 to R31). The cells it completes leave as `Out.taken` and arrive by their own rows. -/
def execCodewordReceive (p : Port) (l : HrLane) (cw : Codeword) (s : State) : Host.Outcome State Fault Refusal :=
  formed cw.wf (s.onPower fun c => c.codeword p.val l.val cw)

/-- TXMASK_UPDATE (R33). -/
def execTxmaskUpdate (p : Port) (s : State) : Host.Outcome State Fault Refusal :=
  .next (s.onPower fun c => c.txmaskUpdate p.val)

/-- IDLE_CELL (R39). -/
def execIdleCell (p : Port) (c : Cell) (s : State) : Host.Outcome State Fault Refusal :=
  formed c.wf (s.onPower fun k => k.idleCell p.val c)

/-- CREDIT_CELL (R51). -/
def execCreditCell (p : Port) (c : Cell) (s : State) : Host.Outcome State Fault Refusal :=
  formed c.wf (s.onPower fun k => k.creditCell p.val c)

/-- WRITE_CELL (R41, R42). -/
def execWriteCell (p : Port) (c : Cell) (s : State) : Host.Outcome State Fault Refusal :=
  formed c.wf (s.onPower fun k => k.writeIn p.val c)

/-- WRITE_RESPONSE (R41). -/
def execWriteResponse (p : Port) (tag : Nat) (s : State) : Host.Outcome State Fault Refusal :=
  .next (s.onPower fun c => c.writeResponse p.val tag)

/-- READ_REQUEST (R43). -/
def execReadRequest (p : Port) (c : Cell) (s : State) : Host.Outcome State Fault Refusal :=
  formed c.wf (s.onPower fun k => k.readIn p.val c)

/-- READ_RESPONSE (R44). -/
def execReadResponse (p : Port) (tag : Nat) (s : State) : Host.Outcome State Fault Refusal :=
  .next (s.onPower fun c => c.readResponse p.val tag)

/-- HOST_RESPONSE (R48). -/
def execHostResponse (p : Port) (c : Cell) (s : State) : Host.Outcome State Fault Refusal :=
  formed c.wf (s.onPower fun k => k.responseIn p.val c)

/-- CREDIT_SEND (R52). -/
def execCreditSend (p : Port) (s : State) : Host.Outcome State Fault Refusal :=
  .next (s.onPower fun c => c.creditSend p.val)

/-- KEEPALIVE_LOST (R53). -/
def execKeepaliveLost (p : Port) (s : State) : Host.Outcome State Fault Refusal :=
  .next (s.onPower fun c => c.keepaliveLost p.val)

/-- STREAM_SAMPLES (R45, R89, R90). -/
def execStreamSamples (p : Port) (c : Cell) (s : State) : Host.Outcome State Fault Refusal :=
  formed c.wf (s.onPower fun k => k.streamIn p.val c)

/-- STREAM_DISCLOSURE (R75). -/
def execStreamDisclosure (p : Port) (c : Cell) (s : State) : Host.Outcome State Fault Refusal :=
  formed c.wf (s.onPower fun k => k.streamIn p.val c)

/-- STREAM_RECORD_REFUSED (R68). -/
def execStreamRecordRefused (p : Port) (c : Cell) (s : State) : Host.Outcome State Fault Refusal :=
  formed c.wf (s.onPower fun k => k.streamIn p.val c)

/-- TRIGGER (R46, R108). -/
def execTrigger (p : Port) (c : Cell) (s : State) : Host.Outcome State Fault Refusal :=
  formed c.wf (s.onPower fun k => k.triggerIn p.val c)

end Sys2Proof.Machine
end

