-- ==== Sys2Proof/Machine/CmdMemory.lean ====
section
/-! DEFINITION. The commands of the memory controllers, the DRAM interface and cold training (07_memory_controller.md,
08_ddr5_redrive_training.md). -/

namespace Sys2Proof.Machine

/-- MC_REQUEST_ACCEPT (R168). -/
def execMcRequestAccept (sc : ScNo) (s : State) : Host.Outcome State Fault Refusal :=
  .next (s.onHub fun c => c.mcAccept sc.val)

/-- One pick, after update_direction and with the shadows skipped that a higher class bars; a burst whose encode fails twice
is not issued, and its subchannel goes OFFLINE (R174, R225, R251). A repair then takes its next step (R260). -/
def Core.mcPick (c : Core) (m : Memory) (n : Nat) (t : PickTiming) : Core × Memory :=
  if c.mayIssue n then
    let c1 := c.updMc n fun m => c.skipShadows (c.updateDirection n m) t
    let p := c1.pick n (c1.mcOf n) t
    if p.badEncode t then ((c1.checkerFail n).ask (.scOffline n (Src.eccChecker n)), m)
    else
      let x := c1.doPick m n p
      (x.1.repairTurn n, x.2)
  else (c, m)

/-- MC_PICK (R174). -/
def execMcPick (sc : ScNo) (t : PickTiming) (s : State) : Host.Outcome State Fault Refusal :=
  .next (s.onHubMem fun c m => c.mcPick m sc.val t)

/-- REFRESH_INTERVAL (R176). -/
def execRefreshInterval (sc : ScNo) (lr : RankNo) (s : State) : Host.Outcome State Fault Refusal :=
  .next (s.onHub fun c => c.refreshInterval sc.val lr.val)

/-- REF_LATE (R181). -/
def execRefLate (sc : ScNo) (lr : RankNo) (s : State) : Host.Outcome State Fault Refusal :=
  .next (s.onHub fun c => c.refLate sc.val lr.val)

/-- MR4_POLL (R178). -/
def execMr4Poll (sc : ScNo) (s : State) : Host.Outcome State Fault Refusal :=
  .next (s.onHub fun c => c.mr4Poll sc.val)

/-- MR4_RESULT (R178 to R180). -/
def execMr4Result (sc : ScNo) (lr : RankNo) (dies : List (Fin 3)) (s : State) : Host.Outcome State Fault Refusal :=
  formed (decide (dies.length = 10)) (s.onHub fun c => c.mr4Result sc.val lr.val dies)

/-- REQUEST_PROMOTE (R173). -/
def execRequestPromote (sc : ScNo) (id : Nat) (s : State) : Host.Outcome State Fault Refusal :=
  .next (s.onHub fun c => c.promote sc.val id)

/-- ROW_IDLE_CLOSE (R175). -/
def execRowIdleClose (sc : ScNo) (bank : BankNo) (s : State) : Host.Outcome State Fault Refusal :=
  .next (s.onHub fun c => c.rowIdleClose sc.val bank.val)

/-- REFRESH_FLUSH (R182). -/
def execRefreshFlush (w : World) (s : State) : Host.Outcome State Fault Refusal :=
  .next (s.writeNum w Obj.Mc.REFRESH_FLUSH 1)

/-- POWER_DOWN_ENTRY (R183). -/
def execPowerDownEntry (sc : ScNo) (pr : Fin 2) (s : State) : Host.Outcome State Fault Refusal :=
  .next (s.onHub fun c => c.powerDownEntry sc.val pr.val)

/-- SELF_REFRESH_ENTRY (R185). -/
def execSelfRefreshEntry (sc : ScNo) (s : State) : Host.Outcome State Fault Refusal :=
  .next (s.onHub fun c => c.selfRefreshEntry sc.val)

/-- SELF_REFRESH_EXIT (R186). -/
def execSelfRefreshExit (sc : ScNo) (s : State) : Host.Outcome State Fault Refusal :=
  .next (s.onHubMem fun c m => c.selfRefreshExit m sc.val)

/-- ADDR_MAP_WRITE (R166). -/
def execAddrMapWrite (w : World) (v : BitVec 8) (s : State) : Host.Outcome State Fault Refusal :=
  .next (s.writeNum w Obj.Mc.ADDR_MAP v.toNat)

/-- ALERT_EVENT (R199). -/
def execAlertEvent (sc : ScNo) (s : State) : Host.Outcome State Fault Refusal :=
  .next (s.onHub fun c => c.alertEvent sc.val)

/-- ALERT_DEASSERT (R199). -/
def execAlertDeassert (sc : ScNo) (s : State) : Host.Outcome State Fault Refusal :=
  .next (s.onHubMem fun c m => let x := c.alertDeassert m sc.val; (x.1.repairTurn sc.val, x.2))

/-- ALERT_STUCK (R200). -/
def execAlertStuck (sc : ScNo) (s : State) : Host.Outcome State Fault Refusal :=
  .next (s.onHub fun c => c.alertStuck sc.val)

/-- TRAIN_STEP_DONE (R206). -/
def execTrainStepDone (sc : ScNo) (r : StepResult) (s : State) : Host.Outcome State Fault Refusal :=
  formed r.wf (s.onHubMem fun c m => c.trainStep m sc.val r)

/-- RETRAIN (R216). -/
def execRetrain (sc : ScNo) (w : World) (s : State) : Host.Outcome State Fault Refusal :=
  .next (s.writeNum w (Obj.Train.RETRAIN sc.val) 1)

end Sys2Proof.Machine
end

