-- ==== Sys2Proof/Machine/CmdObjects.lean ====
section
/-! DEFINITION. The commands of Lareri Object Access, the management port and the object dictionary
(14_object_dictionary.md; 98_common_object_writes.md). -/

namespace Sys2Proof.Machine

/-- A message that arrives on a port or by UDP, with the hub nonce that an OPEN is answered with. -/
def State.loaIn (s : State) (a : LoaArrival) (nh : Nat) : State := s.when s.core.seqUp (s.act fun s => s.loaArrival a nh)

/-- Every row but LOA_OPEN. -/
def loaRow (a : LoaArrival) (s : State) : Host.Outcome State Fault Refusal := formed (a.wf && !a.opens) (s.loaIn a 0)

/-- LOA_READ (R371). -/
def execLoaRead (a : LoaArrival) (s : State) : Host.Outcome State Fault Refusal := loaRow a s

/-- LOA_WRITE (R372). -/
def execLoaWrite (a : LoaArrival) (s : State) : Host.Outcome State Fault Refusal := loaRow a s

/-- LOA_DESCRIBE (R374). -/
def execLoaDescribe (a : LoaArrival) (s : State) : Host.Outcome State Fault Refusal := loaRow a s

/-- LOA_OPEN (R366): `nh` is the hub nonce drawn for it. -/
def execLoaOpen (a : LoaArrival) (nh : BitVec 128) (s : State) : Host.Outcome State Fault Refusal :=
  formed a.wf (s.loaIn a nh.toNat)

/-- LOA_AUTH (R367). -/
def execLoaAuth (a : LoaArrival) (s : State) : Host.Outcome State Fault Refusal := loaRow a s

/-- LOA_CLOSE (R366). -/
def execLoaClose (a : LoaArrival) (s : State) : Host.Outcome State Fault Refusal := loaRow a s

/-- LOA_SUBSCRIBE (R377). -/
def execLoaSubscribe (a : LoaArrival) (s : State) : Host.Outcome State Fault Refusal := loaRow a s

/-- LOA_NOTIFY_ACK (R378). -/
def execLoaNotifyAck (a : LoaArrival) (s : State) : Host.Outcome State Fault Refusal := loaRow a s

/-- LOA_ECHO (R363). -/
def execLoaEcho (a : LoaArrival) (s : State) : Host.Outcome State Fault Refusal := loaRow a s

/-- NOTIFY_RETRY (R378). -/
def execNotifyRetry (session : Nat) (seq : Nat) (s : State) : Host.Outcome State Fault Refusal :=
  .next (s.onPower fun c => c.notifyRetry session seq)

/-- SESSION_IDLE (R366). -/
def execSessionIdle (session : Nat) (s : State) : Host.Outcome State Fault Refusal :=
  .next (s.onPower fun c => c.sessionIdle session)

/-- ARP_REQUEST (R364). -/
def execArpRequest (target : BitVec 32) (fromMac : BitVec 48) (fromIp : BitVec 32) (s : State) :
    Host.Outcome State Fault Refusal :=
  .next (s.onPower fun c => c.arp target.toNat fromMac.toNat fromIp.toNat)

/-- NEIGHBOR_SOLICITATION (R364). -/
def execNeighborSolicitation (target : BitVec 128) (fromMac : BitVec 48) (fromIp : BitVec 128) (s : State) :
    Host.Outcome State Fault Refusal :=
  .next (s.onPower fun c => c.neighbor target.toNat fromMac.toNat fromIp.toNat)

/-- ICMP_ECHO (R364). -/
def execIcmpEcho (v6 : Bool) (dst : BitVec 128) (src : BitVec 128) (data : List Byte) (s : State) :
    Host.Outcome State Fault Refusal :=
  .next (s.onPower fun c => c.icmp v6 dst.toNat src.toNat data)

/-- MG_LINK_CHANGE (R364, R380). -/
def execMgLinkChange (up : Bool) (s : State) : Host.Outcome State Fault Refusal :=
  .next (s.onPower fun c => c.mgLink up)

/-- MG_ADDRESS_WRITE (R380). -/
def execMgAddressWrite (w : World) (sub : BitVec 8) (v : BitVec 128) (s : State) : Host.Outcome State Fault Refusal :=
  .next (s.writeNum w (0x110000 + sub.toNat) v.toNat)

/-- MG_ADDRESS_APPLY (R380). -/
def execMgAddressApply (s : State) : Host.Outcome State Fault Refusal := .next (s.onPower fun c => c.mgApply)

/-- ADMIT_KEY (R369). -/
def execAdmitKey (w : World) (key : BitVec 256) (s : State) : Host.Outcome State Fault Refusal :=
  .next (s.writeNum w Obj.Loa.ADMIT_KEY key.toNat)

/-- FACTORY_DEFAULTS (R379). -/
def execFactoryDefaults (w : World) (s : State) : Host.Outcome State Fault Refusal :=
  .next (s.writeNum w Obj.Id.FACTORY_DEFAULTS 1)

/-- REGISTER_WRITE (R446). -/
def execRegisterWrite (w : World) (idx : BitVec 16) (sub : BitVec 8) (bs : List Byte) (s : State) :
    Host.Outcome State Fault Refusal :=
  .next (s.write w (idx.toNat * 256 + sub.toNat) bs 0)

end Sys2Proof.Machine
end

