-- ==== Sys2Proof/Machine/CmdPower.lean ====
section
/-! DEFINITION. The commands of power sequencing and rail supervision (11_power_sequencing.md). The sequencer stands in the
always-on domain. -/

namespace Sys2Proof.Machine

/-- RAIL_EXCURSION (R275, R278). -/
def execRailExcursion (rc : RailNo) (k : Excursion) (mv : Nat) (s : State) : Host.Outcome State Fault Refusal :=
  .next (s.onAo fun c => c.railExcursion rc.val k mv)

/-- RAIL_RECOVER (R278). -/
def execRailRecover (rc : RailNo) (s : State) : Host.Outcome State Fault Refusal :=
  .next (s.onAo fun c => c.railRecover rc.val)

/-- PG_DISAGREE (R276). -/
def execPgDisagree (rc : RailNo) (s : State) : Host.Outcome State Fault Refusal :=
  .next (s.onAo fun c => c.pgDisagree rc.val)

/-- COMPARATOR_TEST (R277). -/
def execComparatorTest (rc : RailNo) (ok : Bool) (s : State) : Host.Outcome State Fault Refusal :=
  .next (s.onAo fun c => c.comparatorTest rc.val ok)

/-- RAMP_STEP (R280). -/
def execRampStep (code : Nat) (linear : Bool) (s : State) : Host.Outcome State Fault Refusal :=
  .next (s.onAo fun c => c.rampStep code linear)

/-- RAIL_UP (R280). -/
def execRailUp (us : Nat) (s : State) : Host.Outcome State Fault Refusal :=
  .next (s.onAo fun c => c.railUp us)

/-- DELAY_ON_EXPIRY (R280). -/
def execDelayOnExpiry (s : State) : Host.Outcome State Fault Refusal := .next (s.onAo fun c => c.delayOnEnd)

/-- RAMP_TIMEOUT (R281). -/
def execRampTimeout (s : State) : Host.Outcome State Fault Refusal := .next (s.onAo fun c => c.rampTimeout)

/-- DESCENT_STEP (R283). -/
def execDescentStep (s : State) : Host.Outcome State Fault Refusal := .next (s.onAo fun c => c.descentStep)

/-- RAIL_OFF (R283). -/
def execRailOff (us : Nat) (s : State) : Host.Outcome State Fault Refusal :=
  .next (s.onAo fun c => c.railOff us)

/-- DELAY_OFF_EXPIRY (R283). -/
def execDelayOffExpiry (s : State) : Host.Outcome State Fault Refusal := .next (s.onAo fun c => c.delayOffEnd)

/-- DESCENT_STUCK (R284). -/
def execDescentStuck (s : State) : Host.Outcome State Fault Refusal := .next (s.onAo fun c => c.descentStuck)

/-- SQ_UP_IN_RISE (R285, R419). -/
def execSqUpInRise (s : State) : Host.Outcome State Fault Refusal := .next (s.onMem fun c m => c.upInRise m)

/-- SQ_UP_IN_FALL (R285). -/
def execSqUpInFall (s : State) : Host.Outcome State Fault Refusal := .next (s.onCore fun c => c.upInFall)

/-- POWER_REQ_OFF (R285). -/
def execPowerReqOff (w : World) (s : State) : Host.Outcome State Fault Refusal :=
  .next (s.writeNum w Obj.Seq.POWER_REQ 1)

/-- POWER_REQ_CYCLE (R285). -/
def execPowerReqCycle (w : World) (s : State) : Host.Outcome State Fault Refusal :=
  .next (s.writeNum w Obj.Seq.POWER_REQ 2)

/-- DWELL_MS after OFF has passed: RAMP begins if an on request stands and retries remain (R287). -/
def Core.dwellEnd (c : Core) (m : Memory) : Core × Memory :=
  if c.seqState = 0 then (c.withSeq { c.seq with dwellOver := true }).tryRamp m else (c, m)

/-- DWELL_END (R287). -/
def execDwellEnd (s : State) : Host.Outcome State Fault Refusal := .next (s.onAoMem fun c m => c.dwellEnd m)

/-- SQ_DN_IN_CHANGE (R290). The level is the pin's, in reset too. -/
def execSqDnInChange (level : Bool) (s : State) : Host.Outcome State Fault Refusal :=
  .next (s.onCore fun c =>
    if c.seq.aoUp then c.dnInChange level else c.withSeq { c.seq with dnIn := level })

/-- CASCADE_TIMEOUT (R290). -/
def execCascadeTimeout (s : State) : Host.Outcome State Fault Refusal := .next (s.onAo fun c => c.cascadeTimeout)

/-- INPUT_COLLAPSE (R292). -/
def execInputCollapse (aoLow : Bool) (s : State) : Host.Outcome State Fault Refusal :=
  .next (s.onAo fun c => c.inputCollapse aoLow)

/-- AO_RESET_RELEASE (R291). -/
def execAoResetRelease (s : State) : Host.Outcome State Fault Refusal := .next (s.act fun s => s.aoRelease)

/-- ALWAYS_ON_RESET (R291, R292). -/
def execAlwaysOnReset (s : State) : Host.Outcome State Fault Refusal := .next (s.act fun s => s.aoReset)

/-- MARGIN_WRITE (R294). -/
def execMarginWrite (rc : RailNo) (w : World) (v : BitVec 32) (s : State) : Host.Outcome State Fault Refusal :=
  .next (s.writeNum w (Obj.Rail.MARGIN rc.val) v.toNat)

/-- MARGIN_STEP (R294). -/
def execMarginStep (rc : RailNo) (s : State) : Host.Outcome State Fault Refusal :=
  .next (s.onAo fun c => c.marginStep rc.val)

/-- PMBUS_POLL (R295); `l` is what the poll returned. -/
def execPmbusPoll (l : List PmbusResult) (s : State) : Host.Outcome State Fault Refusal :=
  .next (s.onAo fun c => c.pmbusPoll l)

/-- PMBUS_ALERT (R295): the same poll at once. -/
def execPmbusAlert (l : List PmbusResult) (s : State) : Host.Outcome State Fault Refusal :=
  .next (s.onAo fun c => c.pmbusPoll l)

/-- FIRST_FAILURE_END (R297). -/
def execFirstFailureEnd (s : State) : Host.Outcome State Fault Refusal := .next (s.onAo fun c => c.ffEnd)

/-- GLITCH (R275). -/
def execGlitch (rc : RailNo) (s : State) : Host.Outcome State Fault Refusal :=
  .next (s.onAo fun c => c.glitch rc.val)

end Sys2Proof.Machine
end

