-- ==== Sys2Proof/Machine/CmdSecurity.lean ====
section
/-! DEFINITION. The commands of keys, fuses, boot, images and JTAG (13_security_worlds.md). -/

namespace Sys2Proof.Machine

/-- KEY_IMPORT (R340). -/
def execKeyImport (k : KeySlotNo) (w : World) (key : BitVec 256) (s : State) : Host.Outcome State Fault Refusal :=
  .next (s.writeNum w (Obj.KeySlot.KEY k.val) key.toNat)

/-- KEY_ERASE (R340). -/
def execKeyErase (k : KeySlotNo) (w : World) (s : State) : Host.Outcome State Fault Refusal :=
  .next (s.writeNum w (Obj.KeySlot.ERASE k.val) 1)

/-- A write of FUSE_PROGRAM: byte 0 OP, byte 1 ARG, bytes 2 to 49 HASH (R338). -/
def State.programFuse (s : State) (w : World) (op arg hash : Nat) : State :=
  s.writeNum w Obj.Fuse.FUSE_PROGRAM (op * 2 ^ 392 + arg * 2 ^ 384 + hash)

/-- FUSE_OWNER_KEY (R338). -/
def execFuseOwnerKey (w : World) (arg : BitVec 8) (hash : BitVec 384) (s : State) : Host.Outcome State Fault Refusal :=
  .next (s.programFuse w 1 arg.toNat hash.toNat)

/-- FUSE_REVOKE (R338). -/
def execFuseRevoke (w : World) (arg : BitVec 8) (s : State) : Host.Outcome State Fault Refusal :=
  .next (s.programFuse w 2 arg.toNat 0)

/-- FUSE_SVN_FLOOR (R338). -/
def execFuseSvnFloor (w : World) (arg : BitVec 8) (s : State) : Host.Outcome State Fault Refusal :=
  .next (s.programFuse w 3 arg.toNat 0)

/-- FUSE_SECURE_BOOT (R338). -/
def execFuseSecureBoot (w : World) (s : State) : Host.Outcome State Fault Refusal :=
  .next (s.programFuse w 4 0 0)

/-- FUSE_JTAG_PERM_LOCK (R338). -/
def execFuseJtagPermLock (w : World) (s : State) : Host.Outcome State Fault Refusal :=
  .next (s.programFuse w 5 0 0)

/-- SUPERVISOR_BOOT (R343). -/
def execSupervisorBoot (h : Half) (s : State) : Host.Outcome State Fault Refusal :=
  .next (s.onFuses fun c f => c.supervisorBoot f h.val)

/-- IMG_OPEN (R344). -/
def execImgOpen (w : World) (v : BitVec 8) (s : State) : Host.Outcome State Fault Refusal :=
  .next (s.writeNum w Obj.Image.IMG_OPEN v.toNat)

/-- IMG_DATA (R344). -/
def execImgData (w : World) (bs : List Byte) (s : State) : Host.Outcome State Fault Refusal :=
  .next (s.write w Obj.Image.IMG_DATA bs 0)

/-- IMG_CLOSE (R344). -/
def execImgClose (w : World) (s : State) : Host.Outcome State Fault Refusal :=
  .next (s.writeNum w Obj.Image.IMG_CLOSE 1)

/-- ACTIVATE (R345). -/
def execActivate (w : World) (v : BitVec 8) (s : State) : Host.Outcome State Fault Refusal :=
  .next (s.writeNum w Obj.Image.ACTIVATE v.toNat)

/-- CONFIRM (R345). -/
def execConfirm (w : World) (v : BitVec 8) (s : State) : Host.Outcome State Fault Refusal :=
  .next (s.writeNum w Obj.Image.CONFIRM v.toNat)

/-- TRIAL_EXPIRY (R345). -/
def execTrialExpiry (h : Half) (s : State) : Host.Outcome State Fault Refusal :=
  .next (s.onFuses fun c f => c.trialExpiry f h.val)

/-- JTAG_INSTRUCTION (R354). -/
def execJtagInstruction (i : JtagInstr) (s : State) : Host.Outcome State Fault Refusal :=
  .next (s.onFuses fun c f => c.jtagInstruction f i)

/-- JTAG_TEST_LOGIC_RESET (R355). -/
def execJtagTestLogicReset (s : State) : Host.Outcome State Fault Refusal := .next (s.onPower fun c => c.jtagReset)

end Sys2Proof.Machine
end

