-- ==== Sys2Proof/Machine/CmdStates.lean ====
section
/-! DEFINITION. The commands of device states, starts, subchannel orders and power admission (16_states_start_sluice.md). -/

namespace Sys2Proof.Machine

/-- STATE_REQ SERVICE (R409). -/
def execStateReqService (w : World) (s : State) : Host.Outcome State Fault Refusal :=
  .next (s.writeNum w Obj.Dev.STATE_REQ 1)

/-- STATE_REQ LEAVE_SERVICE (R409). -/
def execStateReqLeaveService (w : World) (s : State) : Host.Outcome State Fault Refusal :=
  .next (s.writeNum w Obj.Dev.STATE_REQ 2)

/-- STATE_REQ SLEEP (R415). -/
def execStateReqSleep (w : World) (s : State) : Host.Outcome State Fault Refusal :=
  .next (s.writeNum w Obj.Dev.STATE_REQ 3)

/-- STATE_REQ WAKE (R409, R414). -/
def execStateReqWake (w : World) (s : State) : Host.Outcome State Fault Refusal :=
  .next (s.writeNum w Obj.Dev.STATE_REQ 4)

/-- STATE_REQ EXIT_SAFE (R409, R417). -/
def execStateReqExitSafe (w : World) (s : State) : Host.Outcome State Fault Refusal :=
  .next (s.writeNum w Obj.Dev.STATE_REQ 5)

/-- SAFE_FLUSH (R416). -/
def execSafeFlush (s : State) : Host.Outcome State Fault Refusal := .next (s.onPower fun c => c.safeFlush)

/-- SELFTEST_DONE (R412). -/
def execSelftestDone (r : SelftestResult) (s : State) : Host.Outcome State Fault Refusal :=
  formed r.wf (s.onPower fun c => c.selftestDone r)

/-- RESTORE_DONE (R413). -/
def execRestoreDone (sc : ScNo) (r : RestoreResult) (s : State) : Host.Outcome State Fault Refusal :=
  formed r.wf (s.onHubMem fun c m => c.restoreDone m sc.val r.lanes r.hardOk)

/-- SHUTDOWN_PHASE_END (R419). -/
def execShutdownPhaseEnd (forced : Bool) (s : State) : Host.Outcome State Fault Refusal :=
  .next (s.onAo fun c => c.shutdownEnd forced)

/-- SC_ORDER OFFLINE (R420). -/
def execScOrderOffline (sc : ScNo) (w : World) (s : State) : Host.Outcome State Fault Refusal :=
  .next (s.writeNum w (Obj.ScOrder.SC_ORDER sc.val) 1)

/-- SC_ORDER HOLD (R420). -/
def execScOrderHold (sc : ScNo) (w : World) (s : State) : Host.Outcome State Fault Refusal :=
  .next (s.writeNum w (Obj.ScOrder.SC_ORDER sc.val) 2)

/-- SC_ORDER ONLINE (R420, R422). -/
def execScOrderOnline (sc : ScNo) (w : World) (s : State) : Host.Outcome State Fault Refusal :=
  .next (s.writeNum w (Obj.ScOrder.SC_ORDER sc.val) 3)

/-- OFFLINE_HOLD_EXPIRY (R421). -/
def execOfflineHoldExpiry (sc : ScNo) (s : State) : Host.Outcome State Fault Refusal :=
  .next (s.onPower fun c => c.offlineHoldOver sc.val)

/-- FILL_DONE (R422). -/
def execFillDone (sc : ScNo) (s : State) : Host.Outcome State Fault Refusal :=
  .next (s.onHubMem fun c m => c.fillDone m sc.val)

/-- SLUICE_GRANT (R425). -/
def execSluiceGrant (s : State) : Host.Outcome State Fault Refusal := .next (s.onHub fun c => c.sluiceGrant)

/-- SLUICE_BUDGET_WRITE (R423). -/
def execSluiceBudgetWrite (w : World) (sub : BitVec 8) (v : BitVec 32) (s : State) : Host.Outcome State Fault Refusal :=
  .next (s.writeNum w (0x440000 + sub.toNat) v.toNat)

end Sys2Proof.Machine
end

