-- ==== Sys2Proof/Machine/Dispatch.lean ====
section
/-! DEFINITION. One arm for every command: a direct call of its meaning. -/

namespace Sys2Proof.Machine

def exec (i : Instr) (s : State) : Host.Outcome State Fault Refusal :=
  match i with
  | .laneTrainingRestart p l => Sys2Proof.Machine.execLaneTrainingRestart p l s
  | .laneTrained p l => Sys2Proof.Machine.execLaneTrained p l s
  | .codewordReceive p l cw => Sys2Proof.Machine.execCodewordReceive p l cw s
  | .txmaskUpdate p => Sys2Proof.Machine.execTxmaskUpdate p s
  | .idleCell p c => Sys2Proof.Machine.execIdleCell p c s
  | .creditCell p c => Sys2Proof.Machine.execCreditCell p c s
  | .writeCell p c => Sys2Proof.Machine.execWriteCell p c s
  | .writeResponse p tag => Sys2Proof.Machine.execWriteResponse p tag s
  | .readRequest p c => Sys2Proof.Machine.execReadRequest p c s
  | .readResponse p tag => Sys2Proof.Machine.execReadResponse p tag s
  | .hostResponse p c => Sys2Proof.Machine.execHostResponse p c s
  | .creditSend p => Sys2Proof.Machine.execCreditSend p s
  | .keepaliveLost p => Sys2Proof.Machine.execKeepaliveLost p s
  | .streamSamples p c => Sys2Proof.Machine.execStreamSamples p c s
  | .streamDisclosure p c => Sys2Proof.Machine.execStreamDisclosure p c s
  | .streamRecordRefused p c => Sys2Proof.Machine.execStreamRecordRefused p c s
  | .flushTimeout st => Sys2Proof.Machine.execFlushTimeout st s
  | .blockCommit st => Sys2Proof.Machine.execBlockCommit st s
  | .streamEnable st w => Sys2Proof.Machine.execStreamEnable st w s
  | .streamDisable st w => Sys2Proof.Machine.execStreamDisable st w s
  | .partitionWrite w v => Sys2Proof.Machine.execPartitionWrite w v s
  | .elasticPeakReset w => Sys2Proof.Machine.execElasticPeakReset w s
  | .regionDefine r w per => Sys2Proof.Machine.execRegionDefine r w per s
  | .regionFree r w => Sys2Proof.Machine.execRegionFree r w s
  | .windowArm n w => Sys2Proof.Machine.execWindowArm n w s
  | .windowDisarm n w => Sys2Proof.Machine.execWindowDisarm n w s
  | .windowRelease n w => Sys2Proof.Machine.execWindowRelease n w s
  | .trigger p c => Sys2Proof.Machine.execTrigger p c s
  | .contextStart x w => Sys2Proof.Machine.execContextStart x w s
  | .contextStop x w => Sys2Proof.Machine.execContextStop x w s
  | .contextOpWrite x w op => Sys2Proof.Machine.execContextOpWrite x w op s
  | .closeNow x w => Sys2Proof.Machine.execCloseNow x w s
  | .frameCloseComplete x => Sys2Proof.Machine.execFrameCloseComplete x s
  | .jobStart j w => Sys2Proof.Machine.execJobStart j w s
  | .jobCancel j w => Sys2Proof.Machine.execJobCancel j w s
  | .jobResume j w => Sys2Proof.Machine.execJobResume j w s
  | .jobCellSend j tag => Sys2Proof.Machine.execJobCellSend j tag s
  | .pushRespTimeout j tag => Sys2Proof.Machine.execPushRespTimeout j tag s
  | .jobStallTimeout j => Sys2Proof.Machine.execJobStallTimeout j s
  | .checkpointSigned j => Sys2Proof.Machine.execCheckpointSigned j s
  | .leaseEnable l w => Sys2Proof.Machine.execLeaseEnable l w s
  | .leaseDisable l w => Sys2Proof.Machine.execLeaseDisable l w s
  | .frameMark l w v => Sys2Proof.Machine.execFrameMark l w v s
  | .frameOverrun l => Sys2Proof.Machine.execFrameOverrun l s
  | .leaseQuiet sc => Sys2Proof.Machine.execLeaseQuiet sc s
  | .leaseWake sc => Sys2Proof.Machine.execLeaseWake sc s
  | .mcRequestAccept sc => Sys2Proof.Machine.execMcRequestAccept sc s
  | .mcPick sc t => Sys2Proof.Machine.execMcPick sc t s
  | .readDecode sc d => Sys2Proof.Machine.execReadDecode sc d s
  | .refreshInterval sc lr => Sys2Proof.Machine.execRefreshInterval sc lr s
  | .refLate sc lr => Sys2Proof.Machine.execRefLate sc lr s
  | .mr4Poll sc => Sys2Proof.Machine.execMr4Poll sc s
  | .mr4Result sc lr dies => Sys2Proof.Machine.execMr4Result sc lr dies s
  | .requestPromote sc id => Sys2Proof.Machine.execRequestPromote sc id s
  | .rowIdleClose sc bank => Sys2Proof.Machine.execRowIdleClose sc bank s
  | .refreshFlush w => Sys2Proof.Machine.execRefreshFlush w s
  | .powerDownEntry sc pr => Sys2Proof.Machine.execPowerDownEntry sc pr s
  | .selfRefreshEntry sc => Sys2Proof.Machine.execSelfRefreshEntry sc s
  | .selfRefreshExit sc => Sys2Proof.Machine.execSelfRefreshExit sc s
  | .addrMapWrite w v => Sys2Proof.Machine.execAddrMapWrite w v s
  | .alertEvent sc => Sys2Proof.Machine.execAlertEvent sc s
  | .alertDeassert sc => Sys2Proof.Machine.execAlertDeassert sc s
  | .alertStuck sc => Sys2Proof.Machine.execAlertStuck sc s
  | .trainStepDone sc r => Sys2Proof.Machine.execTrainStepDone sc r s
  | .retrain sc w => Sys2Proof.Machine.execRetrain sc w s
  | .trackStarved sc pr k => Sys2Proof.Machine.execTrackStarved sc pr k s
  | .creditReask kind sc pr => Sys2Proof.Machine.execCreditReask kind sc pr s
  | .tapStep sc pr k f => Sys2Proof.Machine.execTapStep sc pr k f s
  | .dllTrimStep h up => Sys2Proof.Machine.execDllTrimStep h up s
  | .monCal ch => Sys2Proof.Machine.execMonCal ch s
  | .monCalDone ch rippleMv off gain => Sys2Proof.Machine.execMonCalDone ch rippleMv off gain s
  | .monReading ch v => Sys2Proof.Machine.execMonReading ch v s
  | .recal sc w => Sys2Proof.Machine.execRecal sc w s
  | .capture sc => Sys2Proof.Machine.execCapture sc s
  | .writeSweepDone sc pr r => Sys2Proof.Machine.execWriteSweepDone sc pr r s
  | .ledgerCommit rec => Sys2Proof.Machine.execLedgerCommit rec s
  | .ledgerStepDone rec flaw => Sys2Proof.Machine.execLedgerStepDone rec flaw s
  | .calCommitDue h => Sys2Proof.Machine.execCalCommitDue h s
  | .forerunnerWrite h w bs => Sys2Proof.Machine.execForerunnerWrite h w bs s
  | .decoderSelftest sc outcomes => Sys2Proof.Machine.execDecoderSelftest sc outcomes s
  | .eraseMapWrite sc w v => Sys2Proof.Machine.execEraseMapWrite sc w v s
  | .scrubRow sc => Sys2Proof.Machine.execScrubRow sc s
  | .repair sc resource => Sys2Proof.Machine.execRepair sc resource s
  | .repairDone sc lr => Sys2Proof.Machine.execRepairDone sc lr s
  | .railExcursion rc k mv => Sys2Proof.Machine.execRailExcursion rc k mv s
  | .railRecover rc => Sys2Proof.Machine.execRailRecover rc s
  | .pgDisagree rc => Sys2Proof.Machine.execPgDisagree rc s
  | .comparatorTest rc ok => Sys2Proof.Machine.execComparatorTest rc ok s
  | .rampStep code linear => Sys2Proof.Machine.execRampStep code linear s
  | .railUp us => Sys2Proof.Machine.execRailUp us s
  | .delayOnExpiry => Sys2Proof.Machine.execDelayOnExpiry s
  | .rampTimeout => Sys2Proof.Machine.execRampTimeout s
  | .descentStep => Sys2Proof.Machine.execDescentStep s
  | .railOff us => Sys2Proof.Machine.execRailOff us s
  | .delayOffExpiry => Sys2Proof.Machine.execDelayOffExpiry s
  | .descentStuck => Sys2Proof.Machine.execDescentStuck s
  | .sqUpInRise => Sys2Proof.Machine.execSqUpInRise s
  | .sqUpInFall => Sys2Proof.Machine.execSqUpInFall s
  | .powerReqOff w => Sys2Proof.Machine.execPowerReqOff w s
  | .powerReqCycle w => Sys2Proof.Machine.execPowerReqCycle w s
  | .dwellEnd => Sys2Proof.Machine.execDwellEnd s
  | .sqDnInChange level => Sys2Proof.Machine.execSqDnInChange level s
  | .cascadeTimeout => Sys2Proof.Machine.execCascadeTimeout s
  | .inputCollapse aoLow => Sys2Proof.Machine.execInputCollapse aoLow s
  | .aoResetRelease => Sys2Proof.Machine.execAoResetRelease s
  | .marginWrite rc w v => Sys2Proof.Machine.execMarginWrite rc w v s
  | .marginStep rc => Sys2Proof.Machine.execMarginStep rc s
  | .pmbusPoll rs => Sys2Proof.Machine.execPmbusPoll rs s
  | .pmbusAlert rs => Sys2Proof.Machine.execPmbusAlert rs s
  | .firstFailureEnd => Sys2Proof.Machine.execFirstFailureEnd s
  | .faultEvent src ctx => Sys2Proof.Machine.execFaultEvent src ctx s
  | .wireFault src => Sys2Proof.Machine.execWireFault src s
  | .sourceIdle src => Sys2Proof.Machine.execSourceIdle src s
  | .quietWindowClose id => Sys2Proof.Machine.execQuietWindowClose id s
  | .faultInject src w => Sys2Proof.Machine.execFaultInject src w s
  | .injectionEnd src => Sys2Proof.Machine.execInjectionEnd src s
  | .pinReadbackFault => Sys2Proof.Machine.execPinReadbackFault s
  | .feRearm w => Sys2Proof.Machine.execFeRearm w s
  | .clearAll w => Sys2Proof.Machine.execClearAll w s
  | .statusFlagClear w idx sub v set => Sys2Proof.Machine.execStatusFlagClear w idx sub v set s
  | .configScan bad => Sys2Proof.Machine.execConfigScan bad s
  | .receiverSelftest src ok => Sys2Proof.Machine.execReceiverSelftest src ok s
  | .keyImport k w key => Sys2Proof.Machine.execKeyImport k w key s
  | .keyErase k w => Sys2Proof.Machine.execKeyErase k w s
  | .fuseOwnerKey w arg hash => Sys2Proof.Machine.execFuseOwnerKey w arg hash s
  | .fuseRevoke w arg => Sys2Proof.Machine.execFuseRevoke w arg s
  | .fuseSvnFloor w arg => Sys2Proof.Machine.execFuseSvnFloor w arg s
  | .fuseSecureBoot w => Sys2Proof.Machine.execFuseSecureBoot w s
  | .fuseJtagPermLock w => Sys2Proof.Machine.execFuseJtagPermLock w s
  | .supervisorBoot h => Sys2Proof.Machine.execSupervisorBoot h s
  | .imgOpen w v => Sys2Proof.Machine.execImgOpen w v s
  | .imgData w bs => Sys2Proof.Machine.execImgData w bs s
  | .imgClose w => Sys2Proof.Machine.execImgClose w s
  | .activate w v => Sys2Proof.Machine.execActivate w v s
  | .confirm w v => Sys2Proof.Machine.execConfirm w v s
  | .trialExpiry h => Sys2Proof.Machine.execTrialExpiry h s
  | .cpFetch w v => Sys2Proof.Machine.execCpFetch w v s
  | .jtagInstruction ji => Sys2Proof.Machine.execJtagInstruction ji s
  | .jtagTestLogicReset => Sys2Proof.Machine.execJtagTestLogicReset s
  | .loaRead a => Sys2Proof.Machine.execLoaRead a s
  | .loaWrite a => Sys2Proof.Machine.execLoaWrite a s
  | .loaDescribe a => Sys2Proof.Machine.execLoaDescribe a s
  | .loaOpen a nh => Sys2Proof.Machine.execLoaOpen a nh s
  | .loaAuth a => Sys2Proof.Machine.execLoaAuth a s
  | .loaClose a => Sys2Proof.Machine.execLoaClose a s
  | .loaSubscribe a => Sys2Proof.Machine.execLoaSubscribe a s
  | .loaNotifyAck a => Sys2Proof.Machine.execLoaNotifyAck a s
  | .loaEcho a => Sys2Proof.Machine.execLoaEcho a s
  | .notifyRetry session seq => Sys2Proof.Machine.execNotifyRetry session seq s
  | .sessionIdle session => Sys2Proof.Machine.execSessionIdle session s
  | .arpRequest target fromMac fromIp => Sys2Proof.Machine.execArpRequest target fromMac fromIp s
  | .neighborSolicitation target fromMac fromIp => Sys2Proof.Machine.execNeighborSolicitation target fromMac fromIp s
  | .icmpEcho v6 dst src data => Sys2Proof.Machine.execIcmpEcho v6 dst src data s
  | .mgLinkChange up => Sys2Proof.Machine.execMgLinkChange up s
  | .mgAddressWrite w sub v => Sys2Proof.Machine.execMgAddressWrite w sub v s
  | .mgAddressApply => Sys2Proof.Machine.execMgAddressApply s
  | .admitKey w key => Sys2Proof.Machine.execAdmitKey w key s
  | .factoryDefaults w => Sys2Proof.Machine.execFactoryDefaults w s
  | .sailBlockLock sp => Sys2Proof.Machine.execSailBlockLock sp s
  | .sailLinkDown sp => Sys2Proof.Machine.execSailLinkDown sp s
  | .sailTrigger sp m => Sys2Proof.Machine.execSailTrigger sp m s
  | .sailEpoch sp m => Sys2Proof.Machine.execSailEpoch sp m s
  | .sailSeq sp m => Sys2Proof.Machine.execSailSeq sp m s
  | .sailSeqKeepalive sp => Sys2Proof.Machine.execSailSeqKeepalive sp s
  | .sailRetx sp => Sys2Proof.Machine.execSailRetx sp s
  | .timeSyncSend => Sys2Proof.Machine.execTimeSyncSend s
  | .timeSync sp m => Sys2Proof.Machine.execTimeSync sp m s
  | .timeDreq sp m => Sys2Proof.Machine.execTimeDreq sp m s
  | .timeDresp sp m => Sys2Proof.Machine.execTimeDresp sp m s
  | .healthHello sp m => Sys2Proof.Machine.execHealthHello sp m s
  | .healthStatus sp m => Sys2Proof.Machine.execHealthStatus sp m s
  | .healthDualHelm sp m => Sys2Proof.Machine.execHealthDualHelm sp m s
  | .healthRefused sp m => Sys2Proof.Machine.execHealthRefused sp m s
  | .healthPeriod => Sys2Proof.Machine.execHealthPeriod s
  | .epochNow w => Sys2Proof.Machine.execEpochNow w s
  | .epochPeriod => Sys2Proof.Machine.execEpochPeriod s
  | .epochLatch => Sys2Proof.Machine.execEpochLatch s
  | .snapshotPublish => Sys2Proof.Machine.execSnapshotPublish s
  | .ptpAnnounce m => Sys2Proof.Machine.execPtpAnnounce m s
  | .ptpSync m => Sys2Proof.Machine.execPtpSync m s
  | .ptpDelayResp m => Sys2Proof.Machine.execPtpDelayResp m s
  | .ppsEdge stamp => Sys2Proof.Machine.execPpsEdge stamp s
  | .holdover => Sys2Proof.Machine.execHoldover s
  | .heartbeatWrite h v => Sys2Proof.Machine.execHeartbeatWrite h v s
  | .supWdog h => Sys2Proof.Machine.execSupWdog h s
  | .decisionPost h num digest => Sys2Proof.Machine.execDecisionPost h num digest s
  | .decideMiss num => Sys2Proof.Machine.execDecideMiss num s
  | .batonArbitrate => Sys2Proof.Machine.execBatonArbitrate s
  | .stateReqService w => Sys2Proof.Machine.execStateReqService w s
  | .stateReqLeaveService w => Sys2Proof.Machine.execStateReqLeaveService w s
  | .stateReqSleep w => Sys2Proof.Machine.execStateReqSleep w s
  | .stateReqWake w => Sys2Proof.Machine.execStateReqWake w s
  | .stateReqExitSafe w => Sys2Proof.Machine.execStateReqExitSafe w s
  | .safeFlush => Sys2Proof.Machine.execSafeFlush s
  | .selftestDone r => Sys2Proof.Machine.execSelftestDone r s
  | .restoreDone sc r => Sys2Proof.Machine.execRestoreDone sc r s
  | .shutdownPhaseEnd forced => Sys2Proof.Machine.execShutdownPhaseEnd forced s
  | .scOrderOffline sc w => Sys2Proof.Machine.execScOrderOffline sc w s
  | .scOrderHold sc w => Sys2Proof.Machine.execScOrderHold sc w s
  | .scOrderOnline sc w => Sys2Proof.Machine.execScOrderOnline sc w s
  | .offlineHoldExpiry sc => Sys2Proof.Machine.execOfflineHoldExpiry sc s
  | .fillDone sc => Sys2Proof.Machine.execFillDone sc s
  | .sluiceGrant => Sys2Proof.Machine.execSluiceGrant s
  | .sluiceBudgetWrite w sub v => Sys2Proof.Machine.execSluiceBudgetWrite w sub v s
  | .registerWrite w idx sub bs => Sys2Proof.Machine.execRegisterWrite w idx sub bs s
  | .glitch rc => Sys2Proof.Machine.execGlitch rc s
  | .monitorReadingStale ch => Sys2Proof.Machine.execMonitorReadingStale ch s
  | .alwaysOnReset => Sys2Proof.Machine.execAlwaysOnReset s

end Sys2Proof.Machine
end

