-- ==== Sys2Proof/Safety.lean ====
section
/-! DEFINITION. What counts as a safe step, in the terms the claims use. -/

namespace Sys2Proof.Machine

/-- The command ends in a next state of which `P` holds. -/
def Answers (i : Instr) (s : State) (P : State → Prop) : Prop := ∃ t, exec i s = .next t ∧ P t

/-- The command ends in a next state of its own: nothing but the hub's registers and engines (`Core`) differs from the state
before it, and `P` holds of them. -/
def AnswersCore (i : Instr) (s : State) (P : Core → Prop) : Prop :=
  ∃ c, exec i s = .next { s with core := c } ∧ P c

/-- The command ends in the next state that follows once other blocks have served what its events ask of them
(`State.settle`: reactions, SAFE, LOCKOUT, notifications, HEALTH STATUS); `P` holds of the registers and engines as the
command itself leaves them. -/
def AnswersThen (i : Instr) (s : State) (P : Core → Prop) : Prop :=
  ∃ c, exec i s = .next ({ s with core := c } : State).settle ∧ P c

/-- As `AnswersThen`, for a command that reaches DRAM, fuses or the lockout latch too. -/
def AnswersAll (i : Instr) (s : State) (P : State → Prop) : Prop := ∃ u : State, exec i s = .next u.settle ∧ P u

/-- The hub serves LOA and a write of `v` to the object `k`, in the object's length, passes checks 1 to 5 of R446. -/
abbrev Admits (s : State) (w : World) (k v : Nat) : Prop :=
  s.core.loaServed = true ∧ v < 2 ^ widthOf k ∧ s.core.writeRefusal w (k / 256) (k % 256) (toBytes (sizeOf k) v) = none

/-- `AnswersThen` for a write that ends with status OK. -/
def AnswersOk (i : Instr) (s : State) (P : Core → Prop) : Prop :=
  AnswersThen i s fun c => Out.status .ok ∈ c.out ∧ P c

/-- A cell of a type arrives at a port of a hub whose rails are up, with good CRCs, a good header and credit (R36, R37, R51), and
between no two cells of a WRITE transaction. -/
abbrev Arrives (s : State) (p ty : Nat) (x : Cell) : Prop :=
  s.core.seqUp = true ∧ x.wf = true ∧ s.core.receives p ty x = true ∧ pcrcOk x = true ∧
    (s.core.portOf p).partialWrite = none

/-- A key of the collector's objects (0x4800 to 0x4FFF). -/
abbrev isFcKey (k : Nat) : Prop := 0x480000 ≤ k ∧ k < 0x500000

/-- The collector runs, no injection drives the source's pair, the pair reads IDLE and no quiet window masks the source: its
next event counts (R302, R303, R308, R316, R322). -/
abbrev Core.Hears (c : Core) (src : Nat) : Prop :=
  c.fc.running = true ∧ c.injected src = false ∧ c.pairOf src = 0 ∧ (c.fc.windows.any fun w => w.scope.contains src) = false

/-- One event of a source that the collector heard has been counted (R308). -/
abbrev Core.Raises (c : Core) (src : Nat) (d : Core) : Prop :=
  c.Hears src → d.get (Obj.Source.COUNT src) = min (c.get (Obj.Source.COUNT src) + 1) (2 ^ 32 - 1)

/-- Block `blk` of the READ transactions of a tag at a port has come, with its data and outcome (R188); no transaction has come
or gone. -/
def BlockGot (c d : Core) (p tag blk : Nat) (v : Nat × Nat) : Prop :=
  (d.portOf p).readTxns.map (·.tag) = (c.portOf p).readTxns.map (·.tag) ∧
  ∀ x ∈ (d.portOf p).readTxns, x.tag = tag → ∀ b, x.blocks[blk]? = some b → b.got = some v

/-- `d` differs from `c` in what the collector may change alone. -/
def Core.FcOnly (c d : Core) : Prop :=
  d = { c with objs := d.objs, out := d.out, req := d.req, fc := d.fc, ledger := d.ledger }
  ∧ ∀ k, ¬ isFcKey k → d.get k = c.get k

/-- What the hub holds as the sequencer enters UP from a state `s` (R22, R282). -/
def EnteredUp (s : State) (c : Core) : Prop :=
  c.get Obj.Seq.SEQ_STATE = 2 ∧ c.get Obj.Seq.FAIL_COUNT = 0 ∧ c.get Obj.Seq.RAMP_STEP = s.core.get Obj.Seq.RAMP_STEP ∧
  c.hubTime = 0 ∧ c.timeRuns = true ∧ c.seq.phase = .rest ∧ (s.core.dev = Dv.ramp → c.dev = Dv.selftest)

/-- A message as its session reads it: in the secure world its data are enciphered (R368). -/
def Session.opened (x : Session) (m : LoaMsg) : LoaMsg :=
  if x.secure then { m with body := gcmCrypt x.ks (loaIv m.session 0 m.seq) m.body } else m

/-- A request by UDP in an open session of its source (R361 to R366, R368): the hub serves LOA, the form is right, and in a secure
session the tag holds. -/
abbrev Asked (s : State) (addr : Nat) (port : BitVec 16) (bs : List Byte) : Prop :=
  s.core.seqUp = true ∧ s.core.loaServed = true ∧ 9 ≤ bs.length ∧ (LoaArrival.udp addr port true bs).opens = false ∧
  (loaParse bs).bad { udp := true, a := addr, b := port.toNat } = false ∧ (loaParse bs).reply = false ∧
  1 ≤ (loaParse bs).session ∧ (loaParse bs).session ≤ 16 ∧
  (s.core.sessionOf (loaParse bs).session).isOpen = true ∧ (s.core.sessionOf (loaParse bs).session).addr = addr ∧
  (s.core.sessionOf (loaParse bs).session).port = port.toNat ∧
  ((s.core.sessionOf (loaParse bs).session).secure = true →
    (loaParse bs).sealed (s.core.sessionOf (loaParse bs).session).ks 0 = true)

/-- Such a request that is no AUTH, tagged in a secure session alone and with a SEQ that has not been executed (R370). -/
abbrev Fresh (s : State) (addr : Nat) (port : BitVec 16) (bs : List Byte) : Prop :=
  Asked s addr port bs ∧ ((loaParse bs).tagged = true → (s.core.sessionOf (loaParse bs).session).secure = true) ∧
  seqRefused (s.core.sessionOf (loaParse bs).session).top (loaParse bs).seq = false ∧
  (s.core.sessionOf (loaParse bs).session).held (loaParse bs).seq = none

/-- The hub with a request of session `n` counted, and the segments of a WRITE that it breaks off discarded (R372). -/
abbrev State.counted (s : State) (n : Nat) : Core := (s.clear.core.inc64 Obj.Loa.REQUESTS).dropPart n

/-- The reply to the request leaves, and its session holds it and has moved its window; no other session has changed. -/
def Replied (s : State) (addr : Nat) (port : BitVec 16) (bs : List Byte) (r : Reply) (c : Core) : Prop :=
  let m := loaParse bs
  let x := s.core.sessionOf m.session
  c.out = [.udp addr port.toNat (replyBytes x m r)] ∧
  (c.sessionOf m.session).held m.seq = some (replyBytes x m r) ∧ (c.sessionOf m.session).top = max x.top m.seq ∧
  c.get Obj.Loa.REQUESTS = min (s.core.get Obj.Loa.REQUESTS + 1) (2 ^ 64 - 1) ∧
  ∀ n, n ≠ m.session → c.sessionOf n = s.core.sessionOf n

/-- A Sail message as it leaves a port, with its CRC-32C (R384). -/
abbrev sailOut (k : Nat) (m : SailMsg) : Out :=
  .sail k (sailBytes m) (BitVec.ofNat 32 (crc32c (sailBytes m)))

/-- The SEQ of a port: the highest LSEQ that it has received in order (R385). -/
abbrev Core.seqMessage (c : Core) (k : Nat) : Out :=
  sailOut k { lseq := ((c.sailOf k).rxNext + 65535) % 65536, mtype := 3, hops := 0, body := [] }

/-- An EPOCH as the helm originates it (R387, R398). -/
abbrev helmEpoch (num te hubId : Nat) : SailMsg :=
  { lseq := 0, mtype := 2, hops := 0, body := toBytes 24 (num <<< 160 + te <<< 96 + hubId <<< 64) }

/-- A port's transmitter may start a message at once (R385). -/
abbrev Core.sailFree (c : Core) (k : Nat) : Prop := (c.sailOf k).unack.length < 64 ∧ (c.sailOf k).queue = []

/-- A reliable Sail message that passes R384 arrives in LSEQ order on a port that has passed block lock (R385, R386). -/
abbrev SailComes (s : State) (k : Nat) (a : SailArrival) (m : SailIn) : Prop :=
  s.core.seqUp = true ∧ 2 ≤ s.core.spState k ∧ sailParse a = some m ∧ m.mtype ≠ 3 ∧ m.mtype ≠ 4 ∧
  m.lseq = (s.core.sailOf k).rxNext

/-- The hub once it has counted and acknowledged such a message. -/
abbrev State.sailTaken (s : State) (k : Nat) : Core :=
  ((s.clear.core.updSail k fun x => { x with rxNext := (x.rxNext + 1) % 65536 }).inc64 (Obj.SailPort.MSGS_RX k)).sailAck k

/-- Hub time after a measurement `o`, hub minus source in ns (R397). The first one, and one beyond STEP_LIMIT_NS, steps it and
leaves the loop ACQUIRING; any other sets f and TRIM, counts towards LOCKED and leaves ACQUIRING. -/
def Measured (s : State) (o : Rat) (c : Core) : Prop :=
  let tc : Rat := (s.core.get Obj.Time.LOOP_TC_MS : Rat) / 1000
  let limit : Rat := (s.core.get Obj.Time.STEP_LIMIT_NS : Rat)
  c.get Obj.Time.TIME_VALID = 1 ∧ c.get Obj.Time.OFFSET_PS = satSigned 32 (ratRound (o * 1000)) ∧
  c.time.last = some s.core.tick ∧
  (s.core.time.last = none ∨ limit < ratAbs o →
    c.hubTime = (boundTime ((s.core.hubTime : Int) - ratRound (o * 4294967296))).1 ∧ c.time.f = s.core.time.f ∧
    c.get Obj.Time.STEPS = min (s.core.get Obj.Time.STEPS + 1) (2 ^ 32 - 1) ∧ c.bitOf Obj.Time.FLAGS 1 = true ∧
    c.time.good = 0 ∧ c.get Obj.Time.DISC_STATE = 1 ∧ c.get Obj.Time.TRIM = s.core.get Obj.Time.TRIM) ∧
  ∀ t, s.core.time.last = some t → ratAbs o ≤ limit →
    c.hubTime = s.core.hubTime ∧
    c.time.f = s.core.time.f - o * (((s.core.tick - t : Nat) : Rat) * 2 / 1000000000) / (4 * tc * tc) ∧
    c.get Obj.Time.TRIM = ofSigned 32 (trimOf (c.time.f - o / tc)) ∧
    c.time.good = (if ratAbs o < 100 then s.core.time.good + 1 else 0) ∧
    (8 ≤ c.time.good → c.get Obj.Time.DISC_STATE = 2) ∧ c.get Obj.Time.DISC_STATE ≠ 1 ∧
    c.get Obj.Time.STEPS = s.core.get Obj.Time.STEPS

/-- A message has started on every UP port but one whose transmitter was free (R391, R392, R398). -/
def Flooded (s : State) (skip : Nat) (m : SailMsg) (c : Core) : Prop :=
  ∀ j < 4, j ≠ skip → s.core.spUp j = true → s.core.sailFree j →
    (c.sailOf j).unack = (s.core.sailOf j).unack ++ [{ m with lseq := (s.core.sailOf j).txSeq }] ∧
    (c.sailOf j).txSeq = ((s.core.sailOf j).txSeq + 1) % 65536

end Sys2Proof.Machine
end

