-- ==== Sys2Proof/Certificates/Slice0/Obligations.lean ====
section
/-! DEFINITION. The statements for the provers. -/

open Sys2Proof Sys2Proof.Machine

/-- A step runs the command at the front of the queue on the state with the queue's rest (the model's own order of commands: log
entry 1). -/
def Obligations.StepRunsFront : Prop :=
  ∀ (i : Instr) (rest : List Instr) (s : State), step { s with pending := i :: rest } = exec i { s with pending := rest }

/-- On an empty queue one TCLK tick of 2 ns passes (the model's choice: log entry 5). Hub time advances by 2 ns and TRIM once it
runs (R22, R393). Headrace lanes send codewords, in the ticks in which a codeword period begins, and nothing else leaves (R30).
The counters of throttled, self-refresh and power-down time count (R98, R191). A self-refresh entry whose ALERT window has
passed ends in SELF_REFRESH (R185, R201). No other object changes. -/
def Obligations.StepIdle : Prop :=
  ∀ s : State, s.pending = [] →
    ∃ c : Core, step s = .next { s with core := c } ∧ c.tick = s.core.tick + 1 ∧
      (∀ o ∈ c.out, ∃ p l m, o = Out.codeword p l m) ∧
      (codewordPeriods (s.core.tick + 1) = codewordPeriods s.core.tick → c.out = []) ∧
      (s.core.timeRuns = true →
        c.hubTime = ((s.core.hubTime + 2 ^ 33 : Int) + s.core.getInt Obj.Time.TRIM).toNat % 2 ^ 96) ∧
      (s.core.timeRuns = false → c.hubTime = s.core.hubTime) ∧
      (s.core.throttled = true →
        c.get Obj.Millpond.THROTTLE_TIME = min (s.core.get Obj.Millpond.THROTTLE_TIME + 2) (2 ^ 64 - 1)) ∧
      (∀ n < 32, s.core.scState n = 2 →
        c.get (Obj.Sc.SR_TIME n) = min (s.core.get (Obj.Sc.SR_TIME n) + 2) (2 ^ 64 - 1)) ∧
      (∀ n < 32, (s.core.mcOf n).srAt ≠ 0 → (s.core.mcOf n).stopped = false →
        s.core.get Obj.Phy.ALERT_WINDOW_NS ≤ 2 * (s.core.tick + 2 - (s.core.mcOf n).srAt) →
        c.get (Obj.Sc.STATE n) = 2 ∧ (c.mcOf n).srAt = 0) ∧
      ∀ k, k ≠ Obj.Millpond.THROTTLE_TIME → k ≠ Obj.Tailrace.SR_ENTRIES →
        (∀ n < 32, k ≠ Obj.Sc.SR_TIME n ∧ k ≠ Obj.Sc.PD_TIME n ∧ k ≠ Obj.Sc.PD_MASK n ∧ k ≠ Obj.Sc.STATE n ∧
          k ≠ Obj.Sc.SR_ENTRIES n) →
        c.get k = s.core.get k

/-- The state after reset (R12, R285, R318, R328, R403): the sequencer and the device in OFF, the lockout latch clear, the baton
at EAST, every plain object at its default (0 for a write-only one, the model's choice: log entry 2), nothing queued, no credit
held, the budgets of R425 at their defaults, and the memory in its canonical form. -/
def Obligations.AfterReset : Prop :=
  State.reset.core.get Obj.Seq.SEQ_STATE = 0 ∧ State.reset.core.dev = Dv.off ∧ State.reset.latch = false ∧
  (∀ k, State.reset.core.get k = defaultOf k) ∧ State.reset.core.get Obj.Baton.BATON = 0 ∧
  State.reset.pending = [] ∧ State.reset.core.sluice.held = [] ∧
  State.reset.mem.wf = true ∧ State.reset.core.get Obj.Sluice.BUDGET_MW = 780000 ∧
  State.reset.core.get Obj.Sluice.BASE_MW = 700000 ∧ State.reset.core.get Obj.Sluice.FLOOR_MW = 40000

/-- Every step keeps the canonical form of DRAM's contents, so that equal contents are equal data. -/
def Obligations.MemoryStaysCanonical : Prop :=
  ∀ s t : State, s.mem.wf = true → step s = .next t → t.mem.wf = true

/-- No step but the two that take the always-on domain through reset clears the lockout latch (R328). -/
def Obligations.LatchStays : Prop :=
  ∀ s t : State, s.latch = true → step s = .next t →
    (∀ rest, s.pending ≠ .alwaysOnReset :: rest ∧ s.pending ≠ .aoResetRelease :: rest) → t.latch = true

/-- What a command leaves alone (R337, R338): the queue always; and the fuses, unless it programs one or writes an object of its
own choice. -/
def Obligations.CommandFrames : Prop :=
  ∀ (i : Instr) (s t : State), exec i s = .next t →
    t.pending = s.pending ∧
    ((∀ w a h, i ≠ .fuseOwnerKey w a h) → (∀ w a, i ≠ .fuseRevoke w a) → (∀ w a, i ≠ .fuseSvnFloor w a) →
      (∀ w, i ≠ .fuseSecureBoot w) → (∀ w, i ≠ .fuseJtagPermLock w) → (∀ w x y b, i ≠ .registerWrite w x y b) →
      (∀ w x y v e, i ≠ .statusFlagClear w x y v e) → (∀ a, i ≠ .loaRead a ∧ i ≠ .loaWrite a ∧ i ≠ .loaDescribe a ∧
        i ≠ .loaAuth a ∧ i ≠ .loaClose a ∧ i ≠ .loaSubscribe a ∧ i ≠ .loaNotifyAck a ∧ i ≠ .loaEcho a) →
      (∀ a n, i ≠ .loaOpen a n) → t.fuses = s.fuses)

/-- Every command that can arrive ends in a next state, from every state; one whose operands cannot arrive is refused as
ill-formed (the model's choice: log entry 6). -/
def Obligations.CommandsComplete : Prop :=
  (∀ (i : Instr) (s : State), i.wf = true → ∃ t, exec i s = .next t) ∧
  ∀ (i : Instr) (s : State), i.wf = false → exec i s = .refused .illFormed

/-- The order of the checks of a write (R446): the first that fails decides the status, and the objects are left as they were.
-/
def Obligations.WriteOrder : Prop :=
  (∀ (s : State) (w : World) (idx : BitVec 16) (sub : BitVec 8) (bs : List Byte), s.core.loaServed = true →
    s.core.allRecovery = false → lookup idx.toNat sub.toNat = none →
    exec (.registerWrite w idx sub bs) s = .next { s.clear with core := { s.clear.core with out := [.status .malformed] } }) ∧
  (∀ (s : State) (w : World) (idx : BitVec 16) (sub : BitVec 8) (bs : List Byte) (r : Row), s.core.loaServed = true →
    s.core.allRecovery = false → lookup idx.toNat sub.toNat = some r → ¬ (r.world = .secureWorld ∧ w = .openWorld) →
    (r.acc = .const ∨ r.acc = .ro ∨ r.wellFormed idx.toNat sub.toNat bs = false) →
    exec (.registerWrite w idx sub bs) s = .next { s.clear with core := { s.clear.core with out := [.status .malformed] } }) ∧
  (∀ (s : State) (w : World) (idx : BitVec 16) (sub : BitVec 8) (bs : List Byte) (r : Row), s.core.loaServed = true →
    s.core.allRecovery = false → lookup idx.toNat sub.toNat = some r → ¬ (r.world = .secureWorld ∧ w = .openWorld) →
    r.acc ≠ .const → r.acc ≠ .ro → r.wellFormed idx.toNat sub.toNat bs = true →
    s.core.writeHeld r.acc idx.toNat sub.toNat (ofBytes bs) = true →
    exec (.registerWrite w idx sub bs) s = .next { s.clear with core := { s.clear.core with out := [.status .retry] } }) ∧
  (∀ (s : State) (w : World) (idx : BitVec 16) (sub : BitVec 8) (bs : List Byte), s.core.loaServed = true →
    s.core.allRecovery = true → romServes idx.toNat = false →
    exec (.registerWrite w idx sub bs) s = .next { s.clear with core := { s.clear.core with out := [.status .retry] } })

/-- The two worlds (R11): a SECURE object is written and read from the secure world only; from the open world both return
DENIED_WORLD and nothing of the value, and no object changes but what counts the refusal (R335); an OPEN object answers both
worlds alike. -/
def Obligations.WorldRule : Prop :=
  (∀ (s : State) (idx : BitVec 16) (sub : BitVec 8) (bs : List Byte) (r : Row), s.core.loaServed = true →
    s.core.allRecovery = false → lookup idx.toNat sub.toNat = some r → r.world = .secureWorld →
    AnswersThen (.registerWrite .openWorld idx sub bs) s fun c =>
      Out.status .deniedWorld ∈ c.out ∧ s.core.Raises Src.secDenied c ∧
      c.get Obj.Sec.DENIED_COUNT = min (s.core.get Obj.Sec.DENIED_COUNT + 1) (2 ^ 32 - 1) ∧ c.bitOf Obj.Sec.FLAGS 0 = true ∧
      ∀ k, ¬ isFcKey k → k ≠ Obj.Sec.DENIED_COUNT → k ≠ Obj.Sec.FLAGS → c.get k = s.core.get k) ∧
  (∀ (s : State) (addr : Nat) (port : BitVec 16) (bs : List Byte) (m : LoaMsg) (r : Row), m = loaParse bs →
    Fresh s addr port bs → (s.core.sessionOf m.session).secure = false → (s.core.sessionOf m.session).part = none →
    m.op = 1 → m.offset = 0 → s.core.allRecovery = false → lookup m.index m.sub = some r → r.world = .secureWorld →
    AnswersThen (.loaRead (.udp addr port true bs)) s fun c =>
      Out.udp addr port.toNat (replyBytes (s.core.sessionOf m.session) m (Reply.bare .deniedWorld)) ∈ c.out ∧
      ∀ k, ¬ isFcKey k → k ≠ Obj.Sec.DENIED_COUNT → k ≠ Obj.Sec.FLAGS → k ≠ Obj.Loa.REQUESTS → c.get k = s.core.get k) ∧
  (∀ (c : Core) (idx sub : Nat) (bs : List Byte) (r : Row), lookup idx sub = some r → r.world = .openWorld →
    c.writeRefusal .openWorld idx sub bs = c.writeRefusal .secureWorld idx sub bs ∧
    c.readRefusal .openWorld idx sub = c.readRefusal .secureWorld idx sub)

/-- A write of PARTITION (R95), in the order of R446: parts that do not add up to 12, or leave no DESC part, are refused with
MALFORMED in every state that serves LOA; in IDLE a change of COMBINE while a context is active is refused with RETRY; an
ELASTIC part below 4 while a stream is not DISABLED is refused with MALFORMED; any other write takes effect at once. A refused
write changes nothing. -/
def Obligations.PartitionRule : Prop :=
  (∀ (s : State) (v : BitVec 32), s.core.loaServed = true → s.core.allRecovery = false →
    (field 23 16 v.toNat + field 15 8 v.toNat + field 7 0 v.toNat ≠ 12 ∨ field 7 0 v.toNat < 1) →
    exec (.partitionWrite .secureWorld v) s =
      .next { s.clear with core := { s.clear.core with out := [.status .malformed] } }) ∧
  (∀ (s : State) (v : BitVec 32), s.core.dev = Dv.idle → s.core.allRecovery = false → v.toNat < 2 ^ 24 →
    field 23 16 v.toNat + field 15 8 v.toNat + field 7 0 v.toNat = 12 → 1 ≤ field 7 0 v.toNat →
    field 15 8 v.toNat ≠ field 15 8 (s.core.get Obj.Millpond.PARTITION) →
    (∃ x < 128, s.core.get (Obj.Context.STATE x) ≠ 0) →
    exec (.partitionWrite .secureWorld v) s =
      .next { s.clear with core := { s.clear.core with out := [.status .retry] } }) ∧
  (∀ (s : State) (v : BitVec 32), s.core.dev = Dv.idle → s.core.allRecovery = false → v.toNat < 2 ^ 24 →
    field 23 16 v.toNat + field 15 8 v.toNat + field 7 0 v.toNat = 12 → 1 ≤ field 7 0 v.toNat →
    (field 15 8 v.toNat = field 15 8 (s.core.get Obj.Millpond.PARTITION) ∨
      ∀ x < 128, s.core.get (Obj.Context.STATE x) = 0) →
    field 23 16 v.toNat < 4 → (∃ st < 256, s.core.stState st ≠ St.disabled) →
    exec (.partitionWrite .secureWorld v) s =
      .next { s.clear with core := { s.clear.core with out := [.status .malformed] } }) ∧
  (∀ (s : State) (v : BitVec 32), s.core.dev = Dv.idle → s.core.allRecovery = false → v.toNat < 2 ^ 24 →
    field 23 16 v.toNat + field 15 8 v.toNat + field 7 0 v.toNat = 12 → 1 ≤ field 7 0 v.toNat →
    (field 15 8 v.toNat = field 15 8 (s.core.get Obj.Millpond.PARTITION) ∨
      ∀ x < 128, s.core.get (Obj.Context.STATE x) = 0) →
    (field 23 16 v.toNat < 4 → ∀ st < 256, s.core.stState st = St.disabled) →
    AnswersOk (.partitionWrite .secureWorld v) s fun c =>
      c.get Obj.Millpond.PARTITION = v.toNat ∧ c.elasticBytes = field 23 16 v.toNat * 8 * 2 ^ 20)

/-- A write of PORT_WORLD (R334): one that changes the world of a port that is UP is refused with RETRY; an accepted one gives
every port the world of its bit, which no port that is UP sees change, so that a port takes it at its next entry to UP. -/
def Obligations.PortWorldRule : Prop :=
  (∀ (s : State) (b : Byte) (p : Nat), s.core.loaServed = true → p < 8 → s.core.portUp p = true →
    bit p b.toNat ≠ s.core.portSecure p →
    exec (.registerWrite .secureWorld 0x5000 1 [b]) s =
      .next { s.clear with core := { s.clear.core with out := [.status .retry] } }) ∧
  (∀ (s : State) (b : Byte), s.core.loaServed = true → s.core.writeRefusal .secureWorld 0x5000 1 [b] = none →
    AnswersOk (.registerWrite .secureWorld 0x5000 1 [b]) s fun c =>
      (∀ p < 8, c.portSecure p = bit p b.toNat) ∧ (∀ p < 8, s.core.portUp p = true → c.portSecure p = s.core.portSecure p) ∧
      ∀ k, k ≠ Obj.Sec.PORT_WORLD → c.get k = s.core.get k)

/-- The steps of RAMP (R280, R295). RAMP_STEP drives the enable of the next rail of the order, sets it RISING, counts the step,
flags a rail that already reads at or above OFF_CODE, and writes CLEAR_FAULTS and reads VOUT_MODE of a PMBus rail; a mode other
than linear raises SQ_PMBUS. RAIL_UP marks the rail GOOD with its rise time. DELAY_ON_EXPIRY lets the next step begin. No other
object changes. -/
def Obligations.RampSteps : Prop :=
  (∀ (s : State) (rc : Nat) (rest : List Nat) (code : Nat) (linear : Bool),
    s.core.seq.aoUp = true → s.core.seq.phase = .rampReady → s.core.seq.todo = rc :: rest →
    (linear = true ∨ s.core.get (Obj.Rail.PMB_ADDR rc) = 0) →
    AnswersCore (.rampStep code linear) s fun c =>
      c.get (Obj.Rail.STATE rc) = 1 ∧ c.get Obj.Seq.RAMP_STEP = min (s.core.get Obj.Seq.RAMP_STEP + 1) 255 ∧
      c.bitOf (Obj.Rail.FLAGS rc) 9 = (decide ((s.core.rowOf rc).off ≤ code) || s.core.bitOf (Obj.Rail.FLAGS rc) 9) ∧
      c.out = .pin (.railEn rc) true :: (if s.core.get (Obj.Rail.PMB_ADDR rc) = 0 then []
        else [.pmbus rc 0 (some (s.core.get (Obj.Rail.PMB_PAGE rc))), .pmbus rc 0x03 (some 0),
              .pmbus rc 0 (some (s.core.get (Obj.Rail.PMB_PAGE rc))), .pmbus rc 0x20 none]) ∧
      c.seq = { s.core.seq with phase := .rising rc, todo := rest } ∧
      ∀ k, k ≠ Obj.Rail.STATE rc → k ≠ Obj.Seq.RAMP_STEP → k ≠ Obj.Rail.FLAGS rc → c.get k = s.core.get k) ∧
  (∀ (s : State) (rc : Nat) (rest : List Nat) (code : Nat), rc < 16 →
    s.core.seq.aoUp = true → s.core.seq.phase = .rampReady → s.core.seq.todo = rc :: rest →
    s.core.get (Obj.Rail.PMB_ADDR rc) ≠ 0 →
    AnswersThen (.rampStep code false) s fun c =>
      c.get (Obj.Rail.STATE rc) = 1 ∧ c.get Obj.Seq.RAMP_STEP = min (s.core.get Obj.Seq.RAMP_STEP + 1) 255 ∧
      c.seq = { s.core.seq with phase := .rising rc, todo := rest } ∧
      s.core.Raises Src.sqPmbus c ∧
      ∀ k, ¬ isFcKey k → k ≠ Obj.Rail.STATE rc → k ≠ Obj.Seq.RAMP_STEP → k ≠ Obj.Rail.FLAGS rc → c.get k = s.core.get k) ∧
  (∀ (s : State) (rc us : Nat), s.core.seq.aoUp = true → s.core.seq.phase = .rising rc → s.core.seq.offReq = false →
    AnswersCore (.railUp us) s fun c =>
      c.get (Obj.Rail.STATE rc) = 2 ∧ c.get (Obj.Rail.T_RISE_US rc) = min us (2 ^ 32 - 1) ∧
      c.seq = { s.core.seq with phase := .delayOn, up := s.core.seq.up ++ [rc] } ∧
      ∀ k, k ≠ Obj.Rail.STATE rc → k ≠ Obj.Rail.T_RISE_US rc → c.get k = s.core.get k) ∧
  (∀ (s : State) (rc : Nat) (rest : List Nat), s.core.seq.aoUp = true → s.core.seq.phase = .delayOn →
    s.core.seq.todo = rc :: rest →
    AnswersCore .delayOnExpiry s fun c =>
      c.seq = { s.core.seq with phase := .rampReady } ∧ ∀ k, c.get k = s.core.get k)

/-- After all ramp steps and the cascade the sequencer enters UP (R282, R290): at the end of the last DELAY_ON, or as SQ_DN_IN
rises where the cascade awaits it. There SEQ_STATE is UP, FAIL_COUNT is 0, RAMP_STEP keeps its value, hub time starts, and a
device in RAMP goes to SELFTEST. With DN_EN = 1 and SQ_DN_IN low the end of the last DELAY_ON drives SQ_DN_OUT high and the
cascade waits. -/
def Obligations.RampEndsInUp : Prop :=
  (∀ s : State, s.core.seq.aoUp = true → s.core.seq.phase = .delayOn → s.core.seq.todo = [] →
    (s.core.dnEn = false ∨ s.core.seq.dnIn = true) → AnswersThen .delayOnExpiry s (EnteredUp s)) ∧
  (∀ s : State, s.core.seq.aoUp = true → s.core.seq.phase = .cascadeUp →
    AnswersThen (.sqDnInChange true) s (EnteredUp s)) ∧
  (∀ s : State, s.core.seq.aoUp = true → s.core.seq.phase = .delayOn → s.core.seq.todo = [] → s.core.dnEn = true →
    s.core.seq.dnIn = false →
    AnswersCore .delayOnExpiry s fun c => c.seq.phase = .cascadeUp ∧ c.seq.dnOut = true ∧ ∀ k, c.get k = s.core.get k)

/-- How RAMP fails (R281, R288): a ramp step that times out sets TIMEOUT, and a rail that came up and loses power-good sets
PG_DISAGREE; either counts in FAIL_COUNT, sets RAMP_FAIL and begins DESCENT, whose first step is the rail of the step that timed
out. A cascade wait that runs out (R290) sets CASCADE_FAIL and the sequence goes on: into UP in RAMP, with SQ_UP_OUT held back,
and to its first descent step in DESCENT. -/
def Obligations.RampFailures : Prop :=
  (∀ (s : State) (rc : Nat), rc < 16 → s.core.seq.aoUp = true → s.core.seq.phase = .rising rc →
    s.core.get (Obj.Rail.STATE rc) ≠ 6 →
    AnswersThen .rampTimeout s fun c =>
      c.get Obj.Seq.SEQ_STATE = 3 ∧ c.get Obj.Seq.FAIL_COUNT = min (s.core.get Obj.Seq.FAIL_COUNT + 1) 255 ∧
      c.bitOf Obj.Seq.FLAGS 2 = true ∧ c.bitOf (Obj.Rail.FLAGS rc) 4 = true ∧
      c.seq.todo = rc :: (s.core.seq.up.reverse.filter fun r => s.core.get (Obj.Rail.STATE r) ≠ 6)) ∧
  (∀ (s : State) (rc : RailNo), s.core.seq.aoUp = true → s.core.get Obj.Seq.SEQ_STATE = 1 →
    s.core.get (Obj.Rail.STATE rc.val) = 2 → rc.val ∈ s.core.seq.up →
    AnswersThen (.pgDisagree rc) s fun c =>
      c.get Obj.Seq.SEQ_STATE = 3 ∧ c.get Obj.Seq.FAIL_COUNT = min (s.core.get Obj.Seq.FAIL_COUNT + 1) 255 ∧
      c.bitOf Obj.Seq.FLAGS 2 = true ∧ c.bitOf (Obj.Rail.FLAGS rc.val) 6 = true) ∧
  (∀ s : State, s.core.seq.aoUp = true → s.core.seq.phase = .cascadeUp →
    AnswersThen .cascadeTimeout s fun c =>
      c.get Obj.Seq.SEQ_STATE = 2 ∧ c.bitOf Obj.Seq.FLAGS 5 = true ∧ c.seq.noCascade = true ∧ c.seq.upOut = false) ∧
  (∀ (s : State) (rc : Nat), rc < 16 → s.core.seq.aoUp = true → s.core.seq.phase = .cascadeDown → rc ∈ s.core.seq.todo →
    s.core.get (Obj.Rail.STATE rc) ≠ 6 →
    AnswersThen .cascadeTimeout s fun c => c.seq.phase = .dropReady ∧ c.bitOf Obj.Seq.FLAGS 5 = true)

/-- The steps of DESCENT (R283, R284): DESCENT_STEP releases the enable of the first rail left that is not cut and sets it
FALLING; RAIL_OFF marks it OFF with its fall time; DELAY_OFF_EXPIRY lets the next step begin, or enters OFF once no rail is
left, where the first-failure event ends and the dwell starts; DESCENT_STUCK sets the rail STUCK, with STUCK and DESCENT_STUCK,
raises SQ_DESCENT_STUCK, and goes on as if the rail had fallen. -/
def Obligations.DescentSteps : Prop :=
  (∀ (s : State) (rc : Nat) (rest : List Nat), s.core.seq.aoUp = true → s.core.seq.phase = .dropReady →
    s.core.seq.todo = rc :: rest → s.core.get (Obj.Rail.STATE rc) ≠ 6 →
    AnswersCore .descentStep s fun c =>
      c.get (Obj.Rail.STATE rc) = 4 ∧ c.out = [.pin (.railEn rc) false] ∧ c.seq.phase = .falling rc ∧
      c.seq.todo = (rest.filter fun r => s.core.get (Obj.Rail.STATE r) ≠ 6) ∧
      ∀ k, k ≠ Obj.Rail.STATE rc → c.get k = s.core.get k) ∧
  (∀ (s : State) (rc us : Nat), s.core.seq.aoUp = true → s.core.seq.phase = .falling rc →
    AnswersCore (.railOff us) s fun c =>
      c.get (Obj.Rail.STATE rc) = 0 ∧ c.get (Obj.Rail.T_FALL_US rc) = min us (2 ^ 32 - 1) ∧
      c.seq = { s.core.seq with phase := .delayOff } ∧
      ∀ k, k ≠ Obj.Rail.STATE rc → k ≠ Obj.Rail.T_FALL_US rc → c.get k = s.core.get k) ∧
  (∀ (s : State) (rc : Nat), s.core.seq.aoUp = true → s.core.seq.phase = .delayOff → rc ∈ s.core.seq.todo →
    s.core.get (Obj.Rail.STATE rc) ≠ 6 →
    AnswersCore .delayOffExpiry s fun c => c.seq = { s.core.seq with phase := .dropReady } ∧ ∀ k, c.get k = s.core.get k) ∧
  (∀ s : State, s.core.seq.aoUp = true → s.core.seq.phase = .delayOff →
    (∀ r ∈ s.core.seq.todo, s.core.get (Obj.Rail.STATE r) = 6) →
    AnswersThen .delayOffExpiry s fun c =>
      c.get Obj.Seq.SEQ_STATE = 0 ∧ c.seq.phase = .rest ∧ c.seq.up = [] ∧ c.seq.todo = [] ∧ c.seq.upOut = false ∧
      c.seq.dnOut = false ∧ c.seq.first = none ∧ c.seq.dwellOver = false) ∧
  (∀ (s : State) (rc : Nat), rc < 16 → s.core.seq.aoUp = true → s.core.seq.phase = .falling rc →
    AnswersThen .descentStuck s fun c =>
      c.get (Obj.Rail.STATE rc) = 5 ∧ c.bitOf (Obj.Rail.FLAGS rc) 5 = true ∧ c.bitOf Obj.Seq.FLAGS 3 = true ∧
      c.seq.phase = .delayOff ∧ s.core.Raises Src.sqDescentStuck c ∧
      ((((s.clear.core.put (Obj.Rail.STATE rc) 5).flag (Obj.Rail.FLAGS rc) 5).flag Obj.Seq.FLAGS 3).ffail 6 (some rc)
        |>.setPhase .delayOff).FcOnly c)

/-- What margins and PMBus rails do (R294, R295): MARGIN_STEP moves the applied margin one step towards MARGIN, on the margin
output or in VOUT_COMMAND; a margin is written to a rail that is GOOD in UP, where the level it asks stays inside both
thresholds, and other writes are refused and change nothing; a poll asks each rail for STATUS_WORD, VOUT, IOUT and temperature,
and its latest answer of a rail stands in PMB_READINGS; three failed polls in a row raise SQ_PMBUS; PMBUS_ALERT polls at once.
-/
def Obligations.MarginsAndPolls : Prop :=
  (∀ (s : State) (rc : RailNo) (m : Int), s.core.seq.aoUp = true → s.core.get Obj.Seq.SEQ_STATE = 2 →
    s.core.getInt (Obj.Rail.MARGIN_APPLIED rc.val) ≠ s.core.getInt (Obj.Rail.MARGIN rc.val) →
    m = s.core.getInt (Obj.Rail.MARGIN_APPLIED rc.val) +
        (if s.core.getInt (Obj.Rail.MARGIN_APPLIED rc.val) < s.core.getInt (Obj.Rail.MARGIN rc.val) then 1 else -1) →
    AnswersCore (.marginStep rc) s fun c =>
      c.get (Obj.Rail.MARGIN_APPLIED rc.val) = ofSigned 32 m ∧
      c.out = (if s.core.isSet (Obj.Rail.PMB_MARGIN rc.val) then
          (if s.core.get (Obj.Rail.PMB_ADDR rc.val) = 0 then []
           else [.pmbus rc.val 0 (some (s.core.get (Obj.Rail.PMB_PAGE rc.val))),
                 .pmbus rc.val 0x21 (some (((s.core.rowOf rc.val).vnom * (1000 + 5 * m) : Int)).toNat)])
        else [.margin rc.val m]) ∧
      ∀ k, k ≠ Obj.Rail.MARGIN_APPLIED rc.val → c.get k = s.core.get k) ∧
  (∀ (s : State) (l : List PmbusResult) (x : PmbusResult) (v i t : BitVec 32) (st : BitVec 16), s.core.seq.aoUp = true →
    s.core.get Obj.Seq.SEQ_STATE ≠ 0 → x.data = some (v, i, t, st) →
    (∀ y ∈ l ++ [x], s.core.get (Obj.Rail.PMB_ADDR y.rail.val) ≠ 0) → ∀ f ∈ [Instr.pmbusPoll, Instr.pmbusAlert],
    AnswersThen (f (l ++ [x])) s fun c =>
      c.get (Obj.Rail.PMB_READINGS x.rail.val) / 2 ^ 16 = v.toNat <<< 80 + i.toNat <<< 48 + t.toNat <<< 16 + st.toNat) ∧
  (∀ (s : State) (x : PmbusResult) (code : Nat), s.core.seq.aoUp = true → s.core.get Obj.Seq.SEQ_STATE ≠ 0 →
    s.core.get (Obj.Rail.PMB_ADDR x.rail.val) ≠ 0 → code ∈ [0x79, 0x8B, 0x8C, 0x8D] →
    ∀ f ∈ [Instr.pmbusPoll, Instr.pmbusAlert],
    AnswersThen (f [x]) s fun c => Out.pmbus x.rail.val code none ∈ c.out) ∧
  (∀ (s : State) (x : PmbusResult), s.core.seq.aoUp = true → s.core.get Obj.Seq.SEQ_STATE ≠ 0 → x.data = none →
    s.core.get (Obj.Rail.PMB_ADDR x.rail.val) ≠ 0 → s.core.seq.pmbFails.num x.rail.val = 2 →
    ∀ f ∈ [Instr.pmbusPoll, Instr.pmbusAlert],
    AnswersThen (f [x]) s fun c =>
      c.seq.pmbFails.num x.rail.val = 3 ∧ s.core.Raises Src.sqPmbus c ∧ (s.clear.core.withSeq c.seq).FcOnly c) ∧
  (∀ (s : State) (rc : RailNo) (w : World) (v : BitVec 32), Admits s w (Obj.Rail.MARGIN rc.val) v.toNat →
    s.core.get Obj.Seq.SEQ_STATE = 2 → s.core.get (Obj.Rail.STATE rc.val) = 2 →
    s.core.marginFits rc.val v.toInt = true →
    AnswersOk (.marginWrite rc w v) s fun c =>
      c.get (Obj.Rail.MARGIN rc.val) = v.toNat ∧ ∀ k, k ≠ Obj.Rail.MARGIN rc.val → c.get k = s.core.get k) ∧
  (∀ (s : State) (rc : RailNo) (w : World) (v : BitVec 32), Admits s w (Obj.Rail.MARGIN rc.val) v.toNat →
    s.core.get Obj.Seq.SEQ_STATE = 2 → s.core.get (Obj.Rail.STATE rc.val) = 2 →
    s.core.marginFits rc.val v.toInt = false →
    AnswersCore (.marginWrite rc w v) s fun c => c.out = [.status .malformed] ∧ ∀ k, c.get k = s.core.get k) ∧
  (∀ (s : State) (rc : RailNo) (w : World) (v : BitVec 32), Admits s w (Obj.Rail.MARGIN rc.val) v.toNat →
    s.core.get (Obj.Rail.STATE rc.val) ≠ 2 →
    AnswersCore (.marginWrite rc w v) s fun c => c.out = [.status .retry] ∧ ∀ k, c.get k = s.core.get k)

/-- On requests (R285, R287, R288, R418). SQ_UP_IN that rises ends an exhaustion of retries; with UP_EN = 0, and with the
always-on domain in reset, it asks for nothing; in LOCKOUT it is counted; in DESCENT it is latched, with ON_PENDING and
ON_LATCHED; in OFF once the dwell is over it begins RAMP. The end of the dwell begins RAMP where an on request stands and
retries remain, and else only ends the dwell. RAMP begins with its first step ready over the rails of the table in ramp order,
and with every DRAM content lost. -/
def Obligations.OnRequests : Prop :=
  (∀ s : State, s.core.seq.aoUp = false →
    AnswersCore .sqUpInRise s fun c => c.seq = { s.core.seq with upIn := true } ∧ ∀ k, c.get k = s.core.get k) ∧
  (∀ s : State, s.core.seq.aoUp = true → s.core.upEn = false →
    AnswersCore .sqUpInRise s fun c =>
      c.seq = { s.core.seq with upIn := true } ∧
      c.get Obj.Seq.FAIL_COUNT =
        (if s.core.get Obj.Seq.RAMP_RETRY < s.core.get Obj.Seq.FAIL_COUNT then 0 else s.core.get Obj.Seq.FAIL_COUNT) ∧
      ∀ k, k ≠ Obj.Seq.FAIL_COUNT → c.get k = s.core.get k) ∧
  (∀ s : State, s.core.seq.aoUp = true → s.core.upEn = true → s.core.dev = Dv.lockout →
    AnswersCore .sqUpInRise s fun c =>
      (s.core.get Obj.Seq.RAMP_RETRY < s.core.get Obj.Seq.FAIL_COUNT → c.get Obj.Seq.FAIL_COUNT = 0) ∧
      c.get Obj.Dev.LOCKOUT_ON_REQS = min (s.core.get Obj.Dev.LOCKOUT_ON_REQS + 1) (2 ^ 32 - 1) ∧
      ∀ k, k ≠ Obj.Seq.FAIL_COUNT → k ≠ Obj.Dev.LOCKOUT_ON_REQS → c.get k = s.core.get k) ∧
  (∀ s : State, s.core.seq.aoUp = true → s.core.upEn = true → s.core.dev = Dv.descent →
    AnswersCore .sqUpInRise s fun c =>
      c.get Obj.Seq.ON_PENDING = 1 ∧ c.bitOf Obj.Seq.FLAGS 1 = true ∧
      ∀ k, k ≠ Obj.Seq.FAIL_COUNT → k ≠ Obj.Seq.ON_PENDING → k ≠ Obj.Seq.FLAGS → c.get k = s.core.get k) ∧
  (∀ s : State, s.core.seq.aoUp = true → s.core.upEn = true → s.core.dev ≠ Dv.descent → s.core.dev ≠ Dv.lockout →
    s.core.get Obj.Seq.SEQ_STATE = 0 → s.core.seq.dwellOver = true →
    AnswersAll .sqUpInRise s fun u =>
      u.core.get Obj.Seq.SEQ_STATE = 1 ∧ u.core.get Obj.Seq.RAMP_STEP = 0 ∧ u.core.dev = Dv.ramp ∧
      u.core.seq.phase = .rampReady ∧ u.core.seq.todo = rampOrder u.core.seq.table ∧ u.core.seq.failed = false ∧ u.mem = s.mem.loseAll ∧ u.fuses = s.fuses ∧
      u.latch = s.latch) ∧
  (∀ s : State, s.core.seq.aoUp = true → s.core.dev ≠ Dv.lockout → s.core.get Obj.Seq.SEQ_STATE = 0 →
    s.core.onRequest = true → s.core.get Obj.Seq.FAIL_COUNT ≤ s.core.get Obj.Seq.RAMP_RETRY →
    AnswersAll .dwellEnd s fun u =>
      u.core.get Obj.Seq.SEQ_STATE = 1 ∧ u.core.get Obj.Seq.RAMP_STEP = 0 ∧ u.core.dev = Dv.ramp ∧
      u.core.seq.phase = .rampReady ∧ u.core.seq.todo = rampOrder u.core.seq.table ∧ u.mem = s.mem.loseAll ∧ u.fuses = s.fuses ∧ u.latch = s.latch) ∧
  (∀ s : State, s.core.seq.aoUp = true → s.core.get Obj.Seq.SEQ_STATE = 0 →
    s.core.get Obj.Seq.RAMP_RETRY < s.core.get Obj.Seq.FAIL_COUNT →
    AnswersCore .dwellEnd s fun c => c.seq = { s.core.seq with dwellOver := true } ∧ ∀ k, c.get k = s.core.get k)

/-- Off requests (R285, R286, R290, R419). SQ_UP_IN that falls in RAMP sets OFF_DURING_RAMP and cancels a latched on request; a
ramp step that runs goes on, and DESCENT begins as its rail comes up, from that rail, or at once where no step runs. In UP, and
as POWER_REQ is written OFF, the device goes to DESCENT and its orderly phase begins; written CYCLE, an on request is latched
beside it. With UP_EN = 0 the pin asks for nothing. The fall of SQ_DN_IN lets a descent that awaits it release its first rail.
-/
def Obligations.OffRequests : Prop :=
  (∀ s : State, s.core.seq.aoUp = true → s.core.upEn = true → s.core.get Obj.Seq.SEQ_STATE = 1 → s.core.dev ≠ Dv.lockout →
    s.core.seq.phase = .delayOn → s.core.seq.up ≠ [] →
    AnswersThen .sqUpInFall s fun c =>
      c.get Obj.Seq.SEQ_STATE = 3 ∧ c.bitOf Obj.Seq.FLAGS 0 = true ∧ c.get Obj.Seq.ON_PENDING = 0 ∧
      c.seq.todo = s.core.seq.up.reverse) ∧
  (∀ (s : State) (rc : Nat), s.core.seq.aoUp = true → s.core.upEn = true → s.core.get Obj.Seq.SEQ_STATE = 1 →
    s.core.dev ≠ Dv.lockout → s.core.seq.phase = .rising rc →
    AnswersCore .sqUpInFall s fun c =>
      c.seq = { s.core.seq with upIn := false, standing := false, offReq := true } ∧ c.bitOf Obj.Seq.FLAGS 0 = true ∧
      c.get Obj.Seq.ON_PENDING = 0 ∧
      ∀ k, k ≠ Obj.Seq.FLAGS → k ≠ Obj.Seq.ON_PENDING → c.get k = s.core.get k) ∧
  (∀ (s : State) (rc us : Nat), s.core.seq.aoUp = true → s.core.seq.phase = .rising rc → s.core.seq.offReq = true →
    AnswersThen (.railUp us) s fun c =>
      c.get Obj.Seq.SEQ_STATE = 3 ∧ c.get (Obj.Rail.T_RISE_US rc) = min us (2 ^ 32 - 1) ∧
      c.seq.todo = rc :: s.core.seq.up.reverse) ∧
  (∀ s : State, s.core.seq.aoUp = true → s.core.upEn = true → s.core.get Obj.Seq.SEQ_STATE = 2 →
    Dv.selftest ≤ s.core.dev → s.core.dev ≤ Dv.sleep →
    AnswersThen .sqUpInFall s fun c => c.dev = Dv.descent ∧ c.seq.orderly = true) ∧
  (∀ s : State, s.core.upEn = false → AnswersCore .sqUpInFall s fun c =>
      c.seq = { s.core.seq with upIn := false } ∧ ∀ k, c.get k = s.core.get k) ∧
  (∀ (s : State) (w : World), Admits s w Obj.Seq.POWER_REQ 1 → s.core.get Obj.Seq.SEQ_STATE = 2 →
    Dv.selftest ≤ s.core.dev → s.core.dev ≤ Dv.sleep →
    AnswersOk (.powerReqOff w) s fun c => c.dev = Dv.descent ∧ c.seq.orderly = true ∧ c.get Obj.Seq.ON_PENDING = 0) ∧
  (∀ (s : State) (w : World), Admits s w Obj.Seq.POWER_REQ 2 → s.core.get Obj.Seq.SEQ_STATE = 2 →
    Dv.selftest ≤ s.core.dev → s.core.dev ≤ Dv.sleep →
    AnswersOk (.powerReqCycle w) s fun c =>
      c.dev = Dv.descent ∧ c.seq.orderly = true ∧ c.get Obj.Seq.ON_PENDING = 1 ∧ c.bitOf Obj.Seq.FLAGS 1 = true) ∧
  (∀ (s : State) (rc : Nat), s.core.seq.aoUp = true → s.core.seq.phase = .cascadeDown → rc ∈ s.core.seq.todo →
    s.core.get (Obj.Rail.STATE rc) ≠ 6 →
    AnswersCore (.sqDnInChange false) s fun c =>
      c.seq = { s.core.seq with dnIn := false, phase := .dropReady } ∧ ∀ k, c.get k = s.core.get k)

/-- Loss of power (R291, R292, R297, R328): a collapse of the input puts the sequencer in OFF with nothing left to release and
both cascade outputs low, and ends the first-failure event, which is numbered; in OFF it sets INPUT_LOSS. The always-on reset
loses every DRAM content and the lockout latch and keeps fuses and flash; its release leaves the sequencer in its initial state.
The end of a first-failure event numbers its entry, with its CRC, and stores it. -/
def Obligations.PowerLoss : Prop :=
  (∀ (s : State) (aoLow : Bool), s.core.seq.aoUp = true → s.core.get Obj.Seq.SEQ_STATE ≠ 0 →
    AnswersThen (.inputCollapse aoLow) s fun c =>
      c.get Obj.Seq.SEQ_STATE = 0 ∧
      c.get Obj.Seq.EVENT_SEQ = (if s.core.seq.first.isSome || !s.core.seq.failed
        then min (s.core.get Obj.Seq.EVENT_SEQ + 1) (2 ^ 32 - 1) else s.core.get Obj.Seq.EVENT_SEQ) ∧
      c.seq.phase = .rest ∧ c.seq.up = [] ∧ c.seq.todo = [] ∧ c.seq.first = none ∧ c.seq.dwellOver = false ∧
      c.seq.upOut = false ∧ c.seq.dnOut = false) ∧
  (∀ s : State, s.core.seq.aoUp = true → s.core.get Obj.Seq.SEQ_STATE = 0 →
    AnswersThen (.inputCollapse false) s fun c => c.bitOf Obj.Seq.FLAGS 4 = true ∧ c.seq.first = none) ∧
  (∀ s : State, AnswersAll .alwaysOnReset s fun u =>
      u.latch = false ∧ u.mem = s.mem.loseAll ∧ u.fuses = s.fuses ∧ u.core.images = s.core.images ∧
      u.core.flash = s.core.flash ∧ u.core.get Obj.Seq.SEQ_STATE = 0 ∧ u.core.seq.aoUp = false ∧ u.core.seq.upIn = s.core.seq.upIn ∧ u.core.hubTime = 0 ∧ u.core.timeRuns = false) ∧
  (∀ s : State, s.core.seq.aoUp = false →
    AnswersAll .aoResetRelease s fun u =>
      u.latch = false ∧ u.mem = s.mem ∧ u.fuses = s.fuses ∧
      u.core.seq = SeqState.init s.core.tick (!s.core.upEn) s.core.seq.upIn s.core.seq.dnIn ∧
      ∀ k, u.core.get k = s.core.get k) ∧
  (∀ (s : State) (e : Nat), s.core.seq.aoUp = true → s.core.seq.first = some e → s.core.get Obj.Seq.EVENT_SEQ + 1 < 2 ^ 32 →
    AnswersCore .firstFailureEnd s fun c =>
      let n := s.core.get Obj.Seq.EVENT_SEQ + 1
      let v := n <<< 224 + e
      c.get Obj.Seq.EVENT_SEQ = n ∧ c.get (Obj.FfLog.LOG (n % 16)) = v + crc32c ((toBytes 32 v).take 28) ∧
      c.seq.first = none ∧ ∀ k, k ≠ Obj.Seq.EVENT_SEQ → k ≠ Obj.FfLog.LOG (n % 16) → c.get k = s.core.get k)

/-- Supervision of rails (R275 to R278, R283). GLITCH counts and sets its flag. COMPARATOR_TEST that fails sets CHECK_FAIL and
raises SQ_CHECK; one that passes changes nothing. PG_DISAGREE in UP sets its flag, raises SQ_PG and leaves the rail GOOD.
RAIL_EXCURSION of a GOOD rail in UP whose ACTIONS bit is 0 marks it OUT, with its flags and its sources. With the bit at 1 an
undervoltage begins DESCENT over the rails that are up; an overvoltage, or an open sense leg, cuts the rail, releases its
enable, and begins DESCENT where a rail outside its tree is still up. In DESCENT an overvoltage cuts whatever the bit.
RAIL_RECOVER makes an OUT rail GOOD. -/
def Obligations.RailSupervision : Prop :=
  (∀ (s : State) (rc : RailNo), s.core.seq.aoUp = true → (s.core.rowOf rc.val).used = true →
    s.core.get Obj.Seq.SEQ_STATE ≠ 0 →
    AnswersCore (.glitch rc) s fun c =>
      c.get (Obj.Rail.GLITCHES rc.val) = min (s.core.get (Obj.Rail.GLITCHES rc.val) + 1) (2 ^ 32 - 1) ∧
      c.bitOf (Obj.Rail.FLAGS rc.val) 1 = true ∧
      ∀ k, k ≠ Obj.Rail.GLITCHES rc.val → k ≠ Obj.Rail.FLAGS rc.val → c.get k = s.core.get k) ∧
  (∀ (s : State) (rc : RailNo), s.core.seq.aoUp = true → (s.core.rowOf rc.val).used = true →
    AnswersThen (.comparatorTest rc false) s fun c =>
      c.bitOf (Obj.Rail.FLAGS rc.val) 8 = true ∧ s.core.Raises (Src.sqCheck rc.val) c ∧
      ((s.clear.core.flag (Obj.Rail.FLAGS rc.val) 8).ffail 10 (some rc.val)).FcOnly c) ∧
  (∀ (s : State) (rc : RailNo), AnswersCore (.comparatorTest rc true) s fun c => ∀ k, c.get k = s.core.get k) ∧
  (∀ (s : State) (rc : RailNo), s.core.seq.aoUp = true → s.core.get Obj.Seq.SEQ_STATE = 2 →
    s.core.get (Obj.Rail.STATE rc.val) = 2 →
    AnswersThen (.pgDisagree rc) s fun c =>
      c.get (Obj.Rail.STATE rc.val) = 2 ∧ c.bitOf (Obj.Rail.FLAGS rc.val) 6 = true ∧ s.core.Raises (Src.sqPg rc.val) c ∧
      ((s.clear.core.flag (Obj.Rail.FLAGS rc.val) 6).ffail 3 (some rc.val)).FcOnly c) ∧
  (∀ (s : State) (rc : RailNo) (k : Excursion) (mv : Nat), s.core.seq.aoUp = true → s.core.get Obj.Seq.SEQ_STATE = 2 →
    (s.core.rowOf rc.val).used = true → s.core.isExcursion rc.val k mv = true → s.core.get (Obj.Rail.STATE rc.val) = 2 →
    (s.core.railVal (Obj.Rail.ACTIONS rc.val)).testBit (if k = .under then 0 else 1) = false →
    AnswersThen (.railExcursion rc k mv) s fun c =>
      c.get (Obj.Rail.STATE rc.val) = 3 ∧ c.bitOf (Obj.Rail.FLAGS rc.val) (if k = .under then 3 else 2) = true ∧
      (k = .senseOpen → c.bitOf (Obj.Rail.FLAGS rc.val) 7 = true ∧ s.core.Raises (Src.sqSense rc.val) c) ∧
      (k = .under → s.core.Raises (Src.sqUv rc.val) c) ∧ (k = .over → s.core.Raises (Src.sqOv rc.val) c) ∧
      ∀ j, ¬ isFcKey j → j ≠ Obj.Rail.STATE rc.val → j ≠ Obj.Rail.FLAGS rc.val → c.get j = s.core.get j) ∧
  (∀ (s : State) (rc : RailNo) (mv : Nat), s.core.seq.aoUp = true → s.core.get Obj.Seq.SEQ_STATE = 2 →
    (s.core.rowOf rc.val).used = true → s.core.belowUv rc.val mv = true → s.core.get (Obj.Rail.STATE rc.val) = 2 →
    (s.core.railVal (Obj.Rail.ACTIONS rc.val)).testBit 0 = true → s.core.seq.phase = .rest → s.core.seq.up ≠ [] →
    AnswersThen (.railExcursion rc .under mv) s fun c =>
      c.get Obj.Seq.SEQ_STATE = 3 ∧ c.seq.todo = s.core.seq.up.reverse ∧ c.get (Obj.Rail.STATE rc.val) = 3 ∧
      c.bitOf (Obj.Rail.FLAGS rc.val) 3 = true) ∧
  (∀ (s : State) (rc : RailNo) (k : Excursion) (mv r : Nat), s.core.seq.aoUp = true → s.core.get Obj.Seq.SEQ_STATE = 2 →
    (s.core.rowOf rc.val).used = true → k ≠ .under → s.core.isExcursion rc.val k mv = true →
    s.core.get (Obj.Rail.STATE rc.val) = 2 → (s.core.railVal (Obj.Rail.ACTIONS rc.val)).testBit 1 = true →
    s.core.seq.phase = .rest → r ∈ s.core.seq.up → belowRail s.core.seq.table rc.val 16 r = false →
    AnswersThen (.railExcursion rc k mv) s fun c =>
      c.get (Obj.Rail.STATE rc.val) = 6 ∧ c.bitOf (Obj.Rail.FLAGS rc.val) 0 = true ∧
      c.bitOf (Obj.Rail.FLAGS rc.val) 2 = true ∧ Out.pin (.railEn rc.val) false ∈ c.out ∧
      c.get Obj.Seq.SEQ_STATE = 3 ∧ r ∈ c.seq.todo ∧ rc.val ∉ c.seq.todo) ∧
  (∀ (s : State) (rc : RailNo) (k : Excursion) (mv : Nat), s.core.seq.aoUp = true → s.core.get Obj.Seq.SEQ_STATE = 3 →
    (s.core.rowOf rc.val).used = true → k ≠ .under → s.core.isExcursion rc.val k mv = true →
    1 ≤ s.core.get (Obj.Rail.STATE rc.val) → s.core.get (Obj.Rail.STATE rc.val) ≤ 3 →
    AnswersThen (.railExcursion rc k mv) s fun c =>
      c.get (Obj.Rail.STATE rc.val) = 6 ∧ c.bitOf (Obj.Rail.FLAGS rc.val) 0 = true ∧
      Out.pin (.railEn rc.val) false ∈ c.out ∧ rc.val ∉ c.seq.up) ∧
  (∀ (s : State) (rc : RailNo), s.core.seq.aoUp = true → s.core.get (Obj.Rail.STATE rc.val) = 3 →
    AnswersThen (.railRecover rc) s fun c =>
      (s.clear.core.put (Obj.Rail.STATE rc.val) 2).FcOnly c)

/-- Lanes and codewords (R29, R31 to R33). A restart of link training is counted and ends the training of that direction; a
transmit lane leaves the wanted mask, and a receive lane that held lock loses it, with LANE_DOWN. A trained transmit lane joins
the wanted mask, which is TXMASK at once in ALIGNING; a trained receive lane takes codewords. With SEQ = 0 the wanted mask is
TXMASK, with LANE_CHANGE, and a port without a transmit lane restarts. An uncorrectable codeword is counted; the 17th in one
second raises HR_FEC_UNCORR. The third good codeword in a row locks a lane and takes a port from TRAINING to ALIGNING; the next
good one on time brings the port UP, with its buffers granted, its LOA session open and a CREDIT cell sent. -/
def Obligations.LaneStates : Prop :=
  (∀ (s : State) (p : Port) (l : HrLane), s.core.seqUp = true → s.core.portState p.val ≠ 0 →
    AnswersCore (.laneTrainingRestart p ⟨l, .transmit⟩) s fun c =>
      (c.hrLane p.val l.val).txTrained = false ∧ (c.portOf p.val).wantTx = setBitTo l.val false (s.core.portOf p.val).wantTx ∧
      (s.core.portState p.val = 2 → c.get (Obj.Port.LANE_MASK_TX p.val) = (c.portOf p.val).wantTx) ∧
      c.get (Obj.Port.LANE_RETRAINS p.val) = min (s.core.get (Obj.Port.LANE_RETRAINS p.val) + 1) (2 ^ 32 - 1) ∧
      ∀ k, k ≠ Obj.Port.LANE_RETRAINS p.val → k ≠ Obj.Port.LANE_MASK_TX p.val → k ≠ Obj.Port.FLAGS p.val →
        c.get k = s.core.get k) ∧
  (∀ (s : State) (p : Port) (l : HrLane), s.core.seqUp = true → s.core.portState p.val ≠ 0 →
    (s.core.hrLane p.val l.val).locked = false →
    AnswersCore (.laneTrainingRestart p ⟨l, .receive⟩) s fun c =>
      (c.hrLane p.val l.val).trained = false ∧
      c.get (Obj.Port.LANE_RETRAINS p.val) = min (s.core.get (Obj.Port.LANE_RETRAINS p.val) + 1) (2 ^ 32 - 1) ∧
      ∀ k, k ≠ Obj.Port.LANE_RETRAINS p.val → c.get k = s.core.get k) ∧
  (∀ (s : State) (p : Port) (l : HrLane), s.core.seqUp = true → s.core.portState p.val ≠ 0 →
    (s.core.hrLane p.val l.val).locked = true →
    AnswersThen (.laneTrainingRestart p ⟨l, .receive⟩) s fun c =>
      (c.hrLane p.val l.val).trained = false ∧ (c.hrLane p.val l.val).locked = false ∧
      c.bitOf (Obj.Port.FLAGS p.val) l.val = true ∧
      c.get (Obj.Port.LANE_RETRAINS p.val) = min (s.core.get (Obj.Port.LANE_RETRAINS p.val) + 1) (2 ^ 32 - 1)) ∧
  (∀ (s : State) (p : Port) (l : HrLane), s.core.seqUp = true → s.core.portState p.val ≠ 0 →
    AnswersCore (.laneTrained p ⟨l, .transmit⟩) s fun c =>
      (c.hrLane p.val l.val).txTrained = true ∧ (c.portOf p.val).wantTx = setBitTo l.val true (s.core.portOf p.val).wantTx ∧
      (s.core.portState p.val = 2 → c.get (Obj.Port.LANE_MASK_TX p.val) = (c.portOf p.val).wantTx) ∧
      ∀ k, k ≠ Obj.Port.LANE_MASK_TX p.val → k ≠ Obj.Port.FLAGS p.val → c.get k = s.core.get k) ∧
  (∀ (s : State) (p : Port) (l : HrLane), s.core.seqUp = true → s.core.portState p.val ≠ 0 →
    AnswersCore (.laneTrained p ⟨l, .receive⟩) s fun c =>
      (c.hrLane p.val l.val).trained = true ∧ ∀ k, c.get k = s.core.get k) ∧
  (∀ (s : State) (p : Port), s.core.seqUp = true → s.core.portUp p.val = true → (s.core.portOf p.val).wantTx ≠ 0 →
    (s.core.portOf p.val).wantTx ≠ s.core.get (Obj.Port.LANE_MASK_TX p.val) →
    AnswersCore (.txmaskUpdate p) s fun c =>
      c.get (Obj.Port.LANE_MASK_TX p.val) = (s.core.portOf p.val).wantTx ∧ c.bitOf (Obj.Port.FLAGS p.val) 10 = true ∧
      (c.portOf p.val).txSeq = 0 ∧
      ∀ k, k ≠ Obj.Port.LANE_MASK_TX p.val → k ≠ Obj.Port.FLAGS p.val → c.get k = s.core.get k) ∧
  (∀ (s : State) (p : Port), s.core.seqUp = true → s.core.portUp p.val = true → (s.core.portOf p.val).wantTx = 0 →
    s.core.get (Obj.Port.LANE_MASK_TX p.val) ≠ 0 →
    AnswersThen (.txmaskUpdate p) s fun c =>
      c.get (Obj.Port.LANE_MASK_TX p.val) = 0 ∧ c.get (Obj.Port.PORT_STATE p.val) = (if s.core.portWanted p.val then 1 else 0)) ∧
  (∀ (s : State) (p : Port) (l : HrLane) (cw : Codeword), s.core.seqUp = true → cw.wf = true → cw.good = false →
    s.core.portState p.val ≠ 0 → (s.core.hrLane p.val l.val).trained = true → (s.core.portOf p.val).inbox = [] →
    ((s.core.hrLane p.val l.val).locked = false ∨ (s.core.hrLane p.val l.val).bad < 7) →
    AnswersThen (.codewordReceive p l cw) s fun c =>
      (c.hrLane p.val l.val).bad = (s.core.hrLane p.val l.val).bad + 1 ∧
      c.get (Obj.Port.FEC_UNCORRECTABLE p.val) = min (s.core.get (Obj.Port.FEC_UNCORRECTABLE p.val) + 1) (2 ^ 32 - 1) ∧
      (((s.core.hrLane p.val l.val).uncorr.filter fun t => s.core.tick < t + 500000000).length = 16 →
        s.core.Raises (Src.hrFecUncorr p.val) c) ∧
      ∀ k, ¬ isFcKey k → k ≠ Obj.Port.FEC_UNCORRECTABLE p.val → c.get k = s.core.get k) ∧
  (∀ (s : State) (p : Port) (l : HrLane) (cw : Codeword), s.core.seqUp = true → cw.wf = true → cw.good = true →
    s.core.portState p.val = 1 → (s.core.hrLane p.val l.val).trained = true →
    (s.core.hrLane p.val l.val).locked = false → 2 ≤ (s.core.hrLane p.val l.val).good → cwFco cw < 640 →
    AnswersThen (.codewordReceive p l cw) s fun c =>
      c.get (Obj.Port.PORT_STATE p.val) = 2 ∧ (c.hrLane p.val l.val).locked = true ∧
      c.bitOf (Obj.Port.LANE_MASK_RX p.val) l.val = true ∧
      c.get (Obj.Port.LANE_MASK_TX p.val) = (s.core.portOf p.val).wantTx) ∧
  (∀ (s : State) (p : Port) (l : HrLane) (cw : Codeword), s.core.seqUp = true → cw.wf = true → cw.good = true →
    s.core.portState p.val = 2 → (s.core.hrLane p.val l.val).trained = true →
    (s.core.hrLane p.val l.val).locked = true → (s.core.hrLane p.val l.val).fcoBad < 7 →
    (s.core.lagging p.val (cwSeq cw)).1 = false →
    AnswersThen (.codewordReceive p l cw) s fun c =>
      c.get (Obj.Port.PORT_STATE p.val) = 3 ∧ (c.portOf p.val).creditSeen = false ∧ (c.portOf p.val).txq = [] ∧
      (c.portOf p.val).grant.num 0 = 512 ∧ (c.portOf p.val).grant.num 1 = 256 ∧ (c.portOf p.val).grant.num 2 = 64 ∧
      (c.portOf p.val).grant.num 3 = 64 ∧ (c.sessionOf (0xFF00 + p.val)).isOpen = true ∧
      ∃ x, Out.cell p.val Cy.credit x ∈ c.out)

/-- Cells that carry no request, and the checks of cells (R33, R36, R37, R39, R51 to R53). An IDLE cell changes nothing. A cell
whose HCRC does not match is counted, flagged and raised, whatever its type, and has no other effect. A CREDIT cell sets the
grants of all four virtual channels and the far side's receive lanes. A CREDIT cell sent turns the cells freed since into
grants, on every channel that may be granted, and carries the receive lanes. A lost keepalive sets its flag, raises HR_KEEPALIVE
and takes the port back to its first step. -/
def Obligations.CellChecks : Prop :=
  (∀ (s : State) (p : Port) (x : Cell), s.core.seqUp = true → x.wf = true → s.core.portUp p.val = true → hcrcOk Cy.idle x = true →
    AnswersCore (.idleCell p x) s fun c => c = s.clear.core) ∧
  (∀ (s : State) (p : Port) (x : Cell) (f : Port → Cell → Instr) (ty : Nat),
    (f, ty) ∈ [(Instr.idleCell, Cy.idle), (.creditCell, Cy.credit), (.writeCell, Cy.write), (.readRequest, Cy.read),
      (.hostResponse, Cy.response), (.streamSamples, Cy.stream), (.streamDisclosure, Cy.stream),
      (.streamRecordRefused, Cy.stream), (.trigger, Cy.trigger)] →
    s.core.seqUp = true → x.wf = true → s.core.portUp p.val = true → hcrcOk ty x = false →
    AnswersThen (f p x) s fun c =>
      s.core.Raises (Src.hrHcrc p.val) c ∧
      ((s.clear.core.flag (Obj.Port.FLAGS p.val) 4).inc (Obj.Port.HCRC_ERRORS p.val)).FcOnly c) ∧
  (∀ (s : State) (p : Port) (x : Cell), s.core.seqUp = true → x.wf = true → s.core.portUp p.val = true →
    hcrcOk Cy.credit x = true → headerOk Cy.credit x = true → pcrcOk x = true →
    AnswersCore (.creditCell p x) s fun c =>
      (c.portOf p.val).creditSeen = true ∧ (c.portOf p.val).cum.num 0 = field 47 36 x.arg.toNat ∧
      (c.portOf p.val).cum.num 1 = field 35 24 x.arg.toNat ∧ (c.portOf p.val).cum.num 2 = field 23 12 x.arg.toNat ∧
      (c.portOf p.val).cum.num 3 = field 11 0 x.arg.toNat ∧ (c.portOf p.val).farRx = ofBytes (x.payload.take 1) % 16 ∧
      ∀ k, c.get k = s.core.get k) ∧
  (∀ (s : State) (p : Port), s.core.seqUp = true → s.core.portUp p.val = true →
    AnswersCore (.creditSend p) s fun c =>
      (∀ v < 4, s.core.grantHeld v = false →
        (c.portOf p.val).grant.num v = (s.core.portOf p.val).grant.num v + (s.core.portOf p.val).freed.num v ∧
        (c.portOf p.val).freed.num v = 0) ∧
      (∀ v < 4, s.core.grantHeld v = true →
        (c.portOf p.val).grant.num v = (s.core.portOf p.val).grant.num v ∧
        (c.portOf p.val).freed.num v = (s.core.portOf p.val).freed.num v) ∧
      (∃ x, c.out = [.cell p.val Cy.credit x] ∧ x.payload.take 1 = [BitVec.ofNat 8 (s.core.rxLanes p.val)]) ∧
      ∀ k, c.get k = s.core.get k) ∧
  (∀ (s : State) (p : Port), s.core.seqUp = true → s.core.portUp p.val = true →
    (∀ j < 32, s.core.get (Obj.Job.STATE j) ≠ 1) →
    AnswersThen (.keepaliveLost p) s fun c =>
      c.get (Obj.Port.PORT_STATE p.val) = (if s.core.portWanted p.val then 1 else 0) ∧
      c.bitOf (Obj.Port.FLAGS p.val) 11 = true ∧ s.core.Raises (Src.hrKeepalive p.val) c ∧
      c.portOf p.val = (s.core.portOf p.val).over ∧ (c.sessionOf (0xFF00 + p.val)).isOpen = false)

/-- WRITE and READ transactions (R41, R43, R51, R55). A WRITE cell that is not the last is kept with its blocks and takes
credit. The last cell of a transaction that its region admits sends all its bursts to the controllers. A WRITE whose bursts are
all accepted is answered, its tag is free and its cells are freed. A READ that its region admits frees its cell and awaits its
blocks; one that is not admitted is answered with the status and awaits nothing. Its last RESPONSE cell leaves once its blocks
are in, and its tag is free. -/
def Obligations.Transactions : Prop :=
  (∀ (s : State) (p : Port) (x : Cell), Arrives s p.val Cy.write x →
    (s.core.portOf p.val).tagUsed x.tag.toNat = false → x.last = false →
    AnswersCore (.writeCell p x) s fun c =>
      (∃ t, (c.portOf p.val).partialWrite = some t ∧ t.tag = x.tag.toNat ∧ t.region = cellRegion x ∧
        t.off = cellOffset x ∧ t.blocks = cellBlocks x ∧ t.cells = 1 ∧ t.fate = .good) ∧
      (c.portOf p.val).recv.num 1 = (s.core.portOf p.val).recv.num 1 + 1 ∧ ∀ k, c.get k = s.core.get k) ∧
  (∀ (s : State) (p : Port) (x : Cell), Arrives s p.val Cy.write x →
    (s.core.portOf p.val).tagUsed x.tag.toNat = false → x.last = true →
    s.core.regionCheck p.val (cellRegion x) (cellOffset x) (cellBlocks x).length = none →
    s.core.get (Obj.Region.PERSONALITY (cellRegion x)) = 1 → (s.core.portOf p.val).held = [] →
    (∀ n < 32, s.core.scOut n = false) →
    AnswersThen (.writeCell p x) s fun c =>
      (c.portOf p.val).partialWrite = none ∧
      (∃ t ∈ (c.portOf p.val).writeTxns, t.tag = x.tag.toNat ∧ t.cells = 1 ∧ t.left = (cellBlocks x).length ∧ t.retry = false) ∧
      ∀ (i : Nat) (b : Nat × Bool), (cellBlocks x)[i]? = some b →
        ∃ r ∈ (c.mcOf (s.core.scOf (s.core.regionHa (cellRegion x) + cellOffset x + i))).arriving,
          r.ha = s.core.regionHa (cellRegion x) + cellOffset x + i ∧ r.write = true ∧ r.data = b.1 ∧ r.poison = b.2) ∧
  (∀ (s : State) (p : Port) (tag : Nat) (t : WriteFlight), s.core.seqUp = true →
    (s.core.portOf p.val).writeTxns.find? (fun t => t.tag == tag) = some t → t.left = 0 →
    AnswersCore (.writeResponse p tag) s fun c =>
      (c.portOf p.val).writeTxns = (s.core.portOf p.val).writeTxns.filter (fun u => u.tag != tag) ∧
      (c.portOf p.val).grant.num 1 + (c.portOf p.val).freed.num 1 =
        (s.core.portOf p.val).grant.num 1 + (s.core.portOf p.val).freed.num 1 + t.cells ∧
      (s.core.portUp p.val = true → (s.core.portOf p.val).txq = [] → 0 < (s.core.portOf p.val).credit Vc.rsp →
        Out.cell p.val Cy.response (mkCell Cy.response Vc.rsp true false tag 0
          (responseArg (if t.retry then 3 else 0) Cy.write 0 false false 0 0) []) ∈ c.out) ∧
      ∀ k, c.get k = s.core.get k) ∧
  (∀ (s : State) (p : Port) (x : Cell), Arrives s p.val Cy.read x →
    (s.core.portOf p.val).tagUsed x.tag.toNat = false →
    s.core.regionCheck p.val (cellRegion x) (cellOffset x) x.plen.toNat = none →
    AnswersThen (.readRequest p x) s fun c =>
      (∃ t ∈ (c.portOf p.val).readTxns, t.tag = x.tag.toNat ∧ t.region = cellRegion x ∧ t.off = cellOffset x ∧
        t.blocks.length = x.plen.toNat ∧ t.sent = 0) ∧
      (c.portOf p.val).grant.num 1 + (c.portOf p.val).freed.num 1 =
        (s.core.portOf p.val).grant.num 1 + (s.core.portOf p.val).freed.num 1 + 1) ∧
  (∀ (s : State) (p : Port) (x : Cell) (st : Status), Arrives s p.val Cy.read x →
    (s.core.portOf p.val).tagUsed x.tag.toNat = false →
    s.core.regionCheck p.val (cellRegion x) (cellOffset x) x.plen.toNat = some st → (s.core.portOf p.val).txq = [] →
    0 < (s.core.portOf p.val).credit Vc.rsp →
    AnswersThen (.readRequest p x) s fun c =>
      (c.portOf p.val).readTxns = (s.core.portOf p.val).readTxns ∧
      Out.cell p.val Cy.response (mkCell Cy.response Vc.rsp true false x.tag.toNat 0
        (responseArg st.code Cy.read 0 false false 0 0) []) ∈ c.out) ∧
  (∀ (s : State) (p : Port) (tag : Nat) (t : ReadTxn), s.core.seqUp = true →
    (s.core.portOf p.val).readTxns.find? (fun t => t.tag == tag) = some t →
    (∀ b ∈ slice (4 * t.sent) 4 t.blocks, b.got ≠ none) → t.blocks.length ≤ 4 * t.sent + 4 →
    AnswersCore (.readResponse p tag) s fun c =>
      (c.portOf p.val).readTxns = (s.core.portOf p.val).readTxns.filter (fun u => u.tag != tag) ∧
      (s.core.portUp p.val = true → (s.core.portOf p.val).txq = [] → 0 < (s.core.portOf p.val).credit Vc.rsp →
        Out.cell p.val Cy.response (readCellOf tag t.sent true (slice (4 * t.sent) 4 t.blocks)) ∈ c.out) ∧
      ∀ k, c.get k = s.core.get k)

/-- STREAM cells (R45, R67, R70, R73 to R75). A SAMPLES cell at E, of a stream that no context and no window uses, moves E by
its samples, is counted, puts its first sample into a block of the elastic buffer that is not yet committed, and takes an ARMED
stream to RUNNING. A DISCLOSURE record of event STATE for a later index waits; one for E takes effect at once, with its group
delay and phase, and is counted. A RECORD cell is refused with its flag and discarded. A cell of a stream that names another
port is counted as UNBOUND and changes nothing else. -/
def Obligations.CaptureCells : Prop :=
  (∀ (s : State) (p : Port) (x : Cell), Arrives s p.val Cy.stream x → s.core.get (Obj.Stream.PORT (cellStream x)) = p.val →
    cellKind x = 0 → s.core.inService = true →
    (s.core.stState (cellStream x) = St.armed ∨ s.core.stState (cellStream x) = St.running) →
    x.plen.toNat % fmtBytes (s.core.get (Obj.Stream.FORMAT (cellStream x))) = 0 →
    0 < x.plen.toNat / fmtBytes (s.core.get (Obj.Stream.FORMAT (cellStream x))) →
    x.plen.toNat / fmtBytes (s.core.get (Obj.Stream.FORMAT (cellStream x))) ≤ s.core.spb (cellStream x) →
    cellSidx x = s.core.next (cellStream x) % 2 ^ 32 → cellMarks x = 0 →
    s.core.next (cellStream x) + x.plen.toNat / fmtBytes (s.core.get (Obj.Stream.FORMAT (cellStream x))) ≤ 2 ^ 64 →
    s.core.get (Obj.Stream.REGION (cellStream x)) < 1024 →
    (s.core.ringOf (s.core.get (Obj.Stream.REGION (cellStream x)))).blocked = none →
    (s.core.streamOf (cellStream x)).waiting = [] → s.core.ctxs = [] → s.core.wins = [] →
    AnswersThen (.streamSamples p x) s fun c =>
      c.get (Obj.Stream.NEXT_INDEX (cellStream x)) = s.core.next (cellStream x) +
        x.plen.toNat / fmtBytes (s.core.get (Obj.Stream.FORMAT (cellStream x))) ∧
      c.get (Obj.Stream.CELLS (cellStream x)) = min (s.core.get (Obj.Stream.CELLS (cellStream x)) + 1) (2 ^ 64 - 1) ∧
      (∃ b ∈ (c.streamOf (cellStream x)).blocks,
        b.no = s.core.next (cellStream x) / s.core.spb (cellStream x) ∧ b.uncommitted ≠ none) ∧
      c.stState (cellStream x) = St.running) ∧
  (∀ (s : State) (p : Port) (x : Cell), Arrives s p.val Cy.stream x → s.core.get (Obj.Stream.PORT (cellStream x)) = p.val →
    cellKind x = 1 → s.core.inService = true →
    (s.core.stState (cellStream x) = St.armed ∨ s.core.stState (cellStream x) = St.running) → x.plen.toNat = 64 →
    s.core.discBad (cellStream x) (ofBytes (x.payload.take 64)) = false →
    s.core.discRateBad (cellStream x) (ofBytes (x.payload.take 64)) = false →
    discEvent (ofBytes (x.payload.take 64)) = 0 → s.core.next (cellStream x) < discSidx (ofBytes (x.payload.take 64)) →
    s.core.get (Obj.Stream.REGION (cellStream x)) < 1024 →
    (s.core.streamOf (cellStream x)).waiting = [] → s.core.wins = [] →
    AnswersThen (.streamDisclosure p x) s fun c =>
      (c.streamOf (cellStream x)).waiting = [ofBytes (x.payload.take 64)] ∧ c.stState (cellStream x) = St.running ∧
      c.next (cellStream x) = s.core.next (cellStream x)) ∧
  (∀ (s : State) (p : Port) (x : Cell), Arrives s p.val Cy.stream x → s.core.get (Obj.Stream.PORT (cellStream x)) = p.val →
    cellKind x = 1 → s.core.inService = true →
    (s.core.stState (cellStream x) = St.armed ∨ s.core.stState (cellStream x) = St.running) → x.plen.toNat = 64 →
    s.core.discBad (cellStream x) (ofBytes (x.payload.take 64)) = false →
    s.core.discRateBad (cellStream x) (ofBytes (x.payload.take 64)) = false →
    discEvent (ofBytes (x.payload.take 64)) = 0 → discSidx (ofBytes (x.payload.take 64)) = s.core.next (cellStream x) →
    s.core.get (Obj.Stream.REGION (cellStream x)) < 1024 →
    (s.core.streamOf (cellStream x)).waiting = [] → s.core.wins = [] →
    AnswersThen (.streamDisclosure p x) s fun c =>
      (c.streamOf (cellStream x)).waiting = [] ∧
      c.get (Obj.Stream.GDELAY (cellStream x)) = discGdelay (ofBytes (x.payload.take 64)) ∧
      c.get (Obj.Stream.MINPHASE (cellStream x)) = discMinphase (ofBytes (x.payload.take 64)) ∧
      c.get (Obj.Stream.DISC_APPLIED (cellStream x)) =
        min (s.core.get (Obj.Stream.DISC_APPLIED (cellStream x)) + 1) (2 ^ 32 - 1)) ∧
  (∀ (s : State) (p : Port) (x : Cell), Arrives s p.val Cy.stream x → s.core.get (Obj.Stream.PORT (cellStream x)) = p.val →
    cellKind x = 2 →
    AnswersCore (.streamRecordRefused p x) s fun c =>
      c.bitOf (Obj.Stream.FLAGS (cellStream x)) 5 = true ∧
      c.get (Obj.Stream.DISCARDED (cellStream x)) = min (s.core.get (Obj.Stream.DISCARDED (cellStream x)) + 1) (2 ^ 32 - 1) ∧
      ∀ k, k ≠ Obj.Stream.FLAGS (cellStream x) → k ≠ Obj.Stream.DISCARDED (cellStream x) → c.get k = s.core.get k) ∧
  (∀ (s : State) (p : Port) (x : Cell), Arrives s p.val Cy.stream x → s.core.get (Obj.Stream.PORT (cellStream x)) ≠ p.val →
    ∀ f ∈ [Instr.streamSamples, .streamDisclosure, .streamRecordRefused],
    AnswersCore (f p x) s fun c =>
      c.get (Obj.Port.UNBOUND p.val) = min (s.core.get (Obj.Port.UNBOUND p.val) + 1) (2 ^ 32 - 1) ∧
      ∀ k, k ≠ Obj.Port.UNBOUND p.val → c.get k = s.core.get k)

/-- Streams and their blocks (R72, R73, R88, R92, R97, R99). ENABLE arms a stream at START_INDEX with an empty buffer. A
disabled stream is FLUSHING while samples wait, else DISABLED. FLUSH_TIMEOUT lets the partial block go, with FLUSHED.
BLOCK_COMMIT posts the four bursts of the first block that waits, after which a complete block leaves the buffer and RING_HEAD
follows; where the controllers of that block stall, the next block that they take is committed. -/
def Obligations.StreamBlocks : Prop :=
  (∀ (s : State) (st : StreamNo) (w : World), Admits s w (Obj.Stream.ENABLE st.val) 1 → s.core.stState st.val = St.disabled →
    s.core.enableRefusal st.val = none → s.core.ctxs = [] → s.core.wins = [] → s.core.anyBlocked = false →
    AnswersOk (.streamEnable st w) s fun c =>
      c.stState st.val = St.armed ∧ c.get (Obj.Stream.ENABLE st.val) = 1 ∧
      c.next st.val = s.core.get (Obj.Stream.START_INDEX st.val) ∧ (c.streamOf st.val).blocks = [] ∧
      (c.streamOf st.val).waiting = []) ∧
  (∀ (s : State) (st : StreamNo) (w : World), Admits s w (Obj.Stream.ENABLE st.val) 0 →
    (s.core.stState st.val = St.armed ∨ s.core.stState st.val = St.running ∨ s.core.stState st.val = St.ended) →
    s.core.get (Obj.Stream.REGION st.val) < 1024 → s.core.ctxs = [] → s.core.wins = [] →
    AnswersOk (.streamDisable st w) s fun c =>
      c.get (Obj.Stream.ENABLE st.val) = 0 ∧
      c.stState st.val =
        (if (s.core.streamOf st.val).blocks.any (fun b => b.uncommitted.isSome) then St.flushing else St.disabled)) ∧
  (∀ (s : State) (st : StreamNo) (b : RingBlock), s.core.hubUp = true → (s.core.streamOf st.val).blocks.getLast? = some b →
    b.uncommitted ≠ none → b.due = false →
    AnswersCore (.flushTimeout st) s fun c =>
      (∃ b', (c.streamOf st.val).blocks.getLast? = some b' ∧ b'.due = true ∧ b'.no = b.no ∧ b'.data = b.data) ∧
      c.bitOf (Obj.Stream.FLAGS st.val) 6 = true ∧ ∀ k, k ≠ Obj.Stream.FLAGS st.val → c.get k = s.core.get k) ∧
  (∀ (s : State) (st : StreamNo) (b : RingBlock) (rest : List RingBlock) (c1 : Core) (r : Nat), s.core.hubUp = true →
    r = s.core.get (Obj.Stream.REGION st.val) → r < 1024 → (s.core.streamOf st.val).blocks = b :: rest → b.due = true →
    segL ((s.core.ringOf r).map.num (s.core.get (Obj.Region.CURSOR r))) = b.no / 4096 →
    s.clear.core.postBlock (s.core.regionHa r + s.core.get (Obj.Region.CURSOR r) * 2 ^ 14 + b.no % 4096 * 4)
      (if s.core.urgent then 1 else 2) b.data b.poison st.val = some (c1, []) →
    (b.no + 1) * s.core.spb st.val ≤ s.core.next st.val →
    (s.core.next st.val - 1) / s.core.spseg st.val ≤ b.no / 4096 → s.core.wins = [] →
    AnswersThen (.blockCommit st) s fun c =>
      c.mc = c1.mc ∧ (c.streamOf st.val).blocks = ((b :: rest).filter fun y => y.no != b.no) ∧
      c.get (Obj.Region.RING_HEAD r) = c.headOf st.val) ∧
  (∀ (s : State) (st : StreamNo) (b0 b : RingBlock) (rest : List RingBlock) (c1 : Core) (r : Nat), s.core.hubUp = true →
    r = s.core.get (Obj.Stream.REGION st.val) → r < 1024 → (s.core.streamOf st.val).blocks = b0 :: b :: rest →
    b0.due = true → b.due = true → b.no ≠ b0.no → b0.no / 4096 = b.no / 4096 →
    segL ((s.core.ringOf r).map.num (s.core.get (Obj.Region.CURSOR r))) = b.no / 4096 →
    s.clear.core.postBlock (s.core.regionHa r + s.core.get (Obj.Region.CURSOR r) * 2 ^ 14 + b0.no % 4096 * 4)
      (if s.core.urgent then 1 else 2) b0.data b0.poison st.val = none →
    s.clear.core.postBlock (s.core.regionHa r + s.core.get (Obj.Region.CURSOR r) * 2 ^ 14 + b.no % 4096 * 4)
      (if s.core.urgent then 1 else 2) b.data b.poison st.val = some (c1, []) →
    (b.no + 1) * s.core.spb st.val ≤ s.core.next st.val → s.core.wins = [] →
    AnswersThen (.blockCommit st) s fun c =>
      c.mc = c1.mc ∧ (c.streamOf st.val).blocks = ((b0 :: b :: rest).filter fun y => y.no != b.no) ∧
      c.get (Obj.Region.RING_HEAD r) = c.headOf st.val)

/-- The partition of Millpond, its peak, and regions (R82, R83, R95, R96, R98). A write of PARTITION that R95 admits sets it
with its water marks. ELASTIC_PEAK written 0 restarts at the present fill. A definition that no rule refuses sets PERSONALITY
and clears the region's stream and head, and zeroes the tables of a RING region; a free that no rule refuses, with no lease in
force, clears it. -/
def Obligations.MillpondRegions : Prop :=
  (∀ (s : State) (w : World) (v : BitVec 32), Admits s w Obj.Millpond.PARTITION v.toNat →
    (4 ≤ field 23 16 v.toNat ∨ ∀ st < 256, s.core.stState st = 0) →
    AnswersOk (.partitionWrite w v) s fun c =>
      c.get Obj.Millpond.PARTITION = v.toNat ∧
      c.get Obj.Millpond.HIGH_WATER = field 23 16 v.toNat * 8 * 2 ^ 20 / 8 * 7 ∧
      c.get Obj.Millpond.LOW_WATER = field 23 16 v.toNat * 8 * 2 ^ 20 / 8 * 6) ∧
  (∀ (s : State) (w : World), Admits s w Obj.Millpond.ELASTIC_PEAK 0 →
    AnswersOk (.elasticPeakReset w) s fun c => c.get Obj.Millpond.ELASTIC_PEAK = s.core.elasticFill) ∧
  (∀ (s : State) (r : RegionNo) (w : World) (per : BitVec 8), Admits s w (Obj.Region.PERSONALITY r.val) per.toNat →
    per.toNat ≠ 0 → s.core.get (Obj.Region.PERSONALITY r.val) = 0 → s.core.defineRefusal r.val per.toNat = none →
    AnswersAll (.regionDefine r w per) s fun u =>
      Out.status .ok ∈ u.core.out ∧ u.core.get (Obj.Region.PERSONALITY r.val) = per.toNat ∧
      u.core.get (Obj.Region.STREAM r.val) = defaultOf (Obj.Region.STREAM r.val) ∧ u.core.get (Obj.Region.RING_HEAD r.val) = 0 ∧
      u.mem = (if per.toNat = 2 then s.mem.zero s.core.addrMap (s.core.annexLo r.val) (s.core.regionHi r.val) else s.mem) ∧
      u.fuses = s.fuses ∧ u.latch = s.latch) ∧
  (∀ (s : State) (r : RegionNo) (w : World), Admits s w (Obj.Region.PERSONALITY r.val) 0 →
    s.core.get (Obj.Region.PERSONALITY r.val) ≠ 0 → s.core.get (Obj.Region.FREE_PENDING r.val) ≠ 1 →
    s.core.freeRefused r.val = false → s.core.leasesOn r.val = 0 →
    AnswersOk (.regionFree r w) s fun c =>
      c.get (Obj.Region.PERSONALITY r.val) = 0 ∧ c.get (Obj.Region.FREE_PENDING r.val) = 0 ∧ c.ringOf r.val = RingState.init)

/-- Trigger windows (R103, R104, R108, R112, R114, R116). ARM takes a window with used members of distinct streams, each with a
ring, to ARMED; DISARM takes it back. RELEASE drops its members and rearms or disarms it. A TRIGGER cell that an ARMED window
accepts freezes it in a new generation, not READY, with the trigger's number, source, DETECTOR, LEVEL and event time; the
window's own progress and the answer OK follow. -/
def Obligations.TriggerWindows : Prop :=
  (∀ (s : State) (n : WindowNo) (w : World), Admits s w (Obj.Window.ARM n.val) 1 → s.core.get (Obj.Window.STATE n.val) = 0 →
    (s.core.usedMembers n.val).map (fun m => m.2.1) ≠ [] →
    ((s.core.usedMembers n.val).map fun m => m.2.1).eraseDups.length = (s.core.usedMembers n.val).length →
    ((s.core.usedMembers n.val).all fun m => s.core.streamRing m.2.1) = true →
    AnswersOk (.windowArm n w) s fun c =>
      c.get (Obj.Window.STATE n.val) = 1 ∧ c.get (Obj.Window.ARM n.val) = 1 ∧
      ∀ k, k ≠ Obj.Window.STATE n.val → k ≠ Obj.Window.ARM n.val → c.get k = s.core.get k) ∧
  (∀ (s : State) (n : WindowNo) (w : World), Admits s w (Obj.Window.ARM n.val) 0 → s.core.get (Obj.Window.STATE n.val) = 1 →
    AnswersOk (.windowDisarm n w) s fun c =>
      c.get (Obj.Window.STATE n.val) = 0 ∧ c.get (Obj.Window.ARM n.val) = 0 ∧
      ∀ k, k ≠ Obj.Window.STATE n.val → k ≠ Obj.Window.ARM n.val → c.get k = s.core.get k) ∧
  (∀ (s : State) (n : WindowNo) (w : World), Admits s w (Obj.Window.RELEASE n.val) 1 →
    (s.core.get (Obj.Window.STATE n.val) = 2 ∨ s.core.get (Obj.Window.STATE n.val) = 3) →
    (∀ m ∈ (s.core.winOf n.val).members, m.region < 1024) → s.core.anyBlocked = false →
    AnswersOk (.windowRelease n w) s fun c =>
      (c.winOf n.val).members = [] ∧ c.get (Obj.Window.STATE n.val) = s.core.get (Obj.Window.REARM n.val) ∧
      c.get (Obj.Window.ARM n.val) = s.core.get (Obj.Window.REARM n.val)) ∧
  (∀ (s : State) (p : Port) (x : Cell) (c0 : Core) (t : Trigger), Arrives s p.val Cy.trigger x →
    (s.core.portOf p.val).tagUsed x.tag.toNat = false → s.core.inService = true → triggerBad x = false →
    c0 = (s.clear.core.tookCredit p.val Vc.ctl).freeCells p.val Vc.ctl 1 →
    t = { src := 0, stream := cellStream x, tidx := field 511 448 (ofBytes (x.payload.take 64)), tt := 0,
          id := field 447 416 (ofBytes (x.payload.take 64)), detector := field 415 400 (ofBytes (x.payload.take 64)),
          level := field 399 384 (ofBytes (x.payload.take 64)),
          delays := (if (ofBytes (x.payload.take 64)).testBit 383 then some (triggerDelays x) else none), port := p.val } →
    s.core.get (Obj.Window.STATE (cellWindow x)) = 1 → (c0.decideTrigger (cellWindow x) t).1 = .ok →
    AnswersThen (.trigger p x) s fun c => ∃ (d : Core) (tt : Nat),
      c = ((d.forwardTrigger (cellWindow x) t tt).winProgress (cellWindow x)).answer p.val x.tag.toNat Cy.trigger 0 .ok ∧
      d.get (Obj.Window.STATE (cellWindow x)) = 2 ∧ d.get (Obj.Window.READY (cellWindow x)) = 0 ∧
      d.get (Obj.Window.GEN (cellWindow x)) = nextGen (s.core.get (Obj.Window.GEN (cellWindow x))) ∧
      d.get (Obj.Window.TRIGGER_ID (cellWindow x)) = t.id ∧ d.get (Obj.Window.TRIGGER_SRC (cellWindow x)) = 0 ∧
      (d.winOf (cellWindow x)).detector = t.detector ∧ (d.winOf (cellWindow x)).level = t.level ∧
      tt = (c0.eventTime (cellWindow x) t).2.1 ∧ d.get (Obj.Window.T_EVENT (cellWindow x)) = tt ∧ d.bitOf (Obj.Window.FLAGS (cellWindow x)) 0 = true)

/-- Accumulation contexts (R120 to R124, R130, R132 to R136). START begins a frame of an IDLE context once its credit is
granted, and binds its region. STOP takes it out of RUNNING, to IDLE once its closes are complete. OP sets EXCLUDE with it.
CLOSE_NOW waits for the row in hand; where none is, it closes the frame at once with SHORT and opens the next. The end of a
close publishes the frame's summary in a new generation. -/
def Obligations.Contexts : Prop :=
  (∀ (s : State) (x : ContextNo) (w : World), Admits s w (Obj.Context.START x.val) 1 →
    s.core.get (Obj.Context.STATE x.val) = 0 → s.core.startRefusal (s.core.cfgOf x.val) x.val w = none →
    s.core.admits (s.core.ctxCredit (s.core.cfgOf x.val)) = true →
    AnswersOk (.contextStart x w) s fun c =>
      c.get (Obj.Context.STATE x.val) = 1 ∧ c.get (Obj.Context.START x.val) = 1 ∧
      c.get (Obj.Context.FRAME x.val) = s.core.firstFrame (s.core.cfgOf x.val) ∧
      c.get (Obj.Context.CREDIT_MW x.val) = s.core.ctxCredit (s.core.cfgOf x.val) ∧
      c.get (Obj.Region.CONTEXT (s.core.get (Obj.Context.REGION x.val))) = x.val ∧
      (c.ctxOf x.val).frame = some (Frame.fresh (s.core.firstFrame (s.core.cfgOf x.val)))) ∧
  (∀ (s : State) (x : ContextNo) (w : World), Admits s w (Obj.Context.START x.val) 0 →
    s.core.get (Obj.Context.STATE x.val) = 1 →
    AnswersOk (.contextStop x w) s fun c =>
      c.get (Obj.Context.START x.val) = 0 ∧
      (c.get (Obj.Context.STATE x.val) = 2 ∨ c.get (Obj.Context.STATE x.val) = 0 ∧ (c.ctxOf x.val).closing = [])) ∧
  (∀ (s : State) (x : ContextNo) (w : World) (op : BitVec 8), Admits s w (Obj.Context.OP x.val) op.toNat →
    s.core.get (Obj.Context.STATE x.val) = 0 →
    AnswersOk (.contextOpWrite x w op) s fun c =>
      c.get (Obj.Context.OP x.val) = op.toNat ∧ c.get (Obj.Context.EXCLUDE x.val) = (if op.toNat = 0 then 0x11 else 0) ∧
      ∀ k, k ≠ Obj.Context.OP x.val → k ≠ Obj.Context.EXCLUDE x.val → c.get k = s.core.get k) ∧
  (∀ (s : State) (x : ContextNo) (w : World), Admits s w (Obj.Context.CLOSE_NOW x.val) 1 →
    s.core.get (Obj.Context.STATE x.val) = 1 → (s.core.ctxOf x.val).samples ≠ [] →
    AnswersOk (.closeNow x w) s fun c => (c.ctxOf x.val).closeNow = true ∧ ∀ k, c.get k = s.core.get k) ∧
  (∀ (s : State) (x : ContextNo) (w : World) (f : Frame), Admits s w (Obj.Context.CLOSE_NOW x.val) 1 →
    s.core.get (Obj.Context.STATE x.val) = 1 → (s.core.ctxOf x.val).samples = [] → (s.core.ctxOf x.val).released = 0 →
    (s.core.ctxOf x.val).frame = some f →
    AnswersOk (.closeNow x w) s fun c =>
      c.get (Obj.Context.FRAME x.val) = f.k + 1 ∧ c.bitOf (Obj.Context.FLAGS x.val) 1 = true ∧
      (∃ f', (c.ctxOf x.val).closing = (s.core.ctxOf x.val).closing ++ [f'] ∧ f'.k = f.k ∧ f'.elems = f.elems ∧
        f'.flags = setBitTo 2 true f.flags) ∧
      (c.ctxOf x.val).frame = some (Frame.fresh (f.k + 1))) ∧
  (∀ (s : State) (x : ContextNo) (f : Frame) (rest : List Frame), s.core.hubUp = true →
    (s.core.ctxOf x.val).closing = f :: rest → f.bad = [] → f.filling = [] → s.core.frameWaits x.val f.k = false →
    0 < s.core.get (Obj.Context.NFRAMES x.val) → s.core.get (Obj.Context.NFRAMES x.val) ≤ 4 →
    AnswersThen (.frameCloseComplete x) s fun c =>
      (c.ctxOf x.val).gen = nextGen (s.core.ctxOf x.val).gen ∧ (c.ctxOf x.val).closing = rest ∧
      c.get (Obj.Context.LAST_SUMMARY x.val) = s.core.frameSummary x.val f (nextGen (s.core.ctxOf x.val).gen) ∧
      c.get (Obj.Context.SUMMARY x.val (f.k % s.core.get (Obj.Context.NFRAMES x.val))) =
        s.core.frameSummary x.val f (nextGen (s.core.ctxOf x.val).gen) ∧
      c.bitOf (Obj.Context.FLAGS x.val) 0 = true)

/-- Drain jobs as software starts and ends them (R145 to R149, R157). A START that no rule refuses takes the job to RUNNING with
its credit, in a new generation, not READY, with the plan of its source, at the first byte; a window source enters DRAINING.
CANCEL drops the transactions that wait to be sent again; where others are in flight the job awaits them, else it ends CANCELLED
and READY, its credit given back. RESUME takes a halted job to RUNNING and counts: a STREAM job goes back to its first record
that is not complete, a PUSH job to the transaction that holds that record's start. Checkpoints (R350 to R352): the oldest that
waits takes the next number, stands signed in CP_JOB with READY and, where slots exist, in its slot of the spill store; CP_FETCH
shows a stored one, and answers NO_REGION for one that is not stored. -/
def Obligations.JobControl : Prop :=
  (∀ (s : State) (j : JobNo) (w : World) (q : JobState), Admits s w (Obj.Job.START j.val) 1 → s.core.jobLive j.val = false →
    s.core.inService = true → s.core.jobRanges j.val = true →
    s.core.jobSource j.val = .ok q →
    s.core.jobRefusal s.fuses.secureBoot j.val w q = none → s.core.admits (s.core.jobCredit j.val) = true →
    AnswersOk (.jobStart j w) s fun c =>
      c.get (Obj.Job.STATE j.val) = 1 ∧ c.get (Obj.Job.READY j.val) = 0 ∧
      c.get (Obj.Job.GEN j.val) = nextGen (s.core.get (Obj.Job.GEN j.val)) ∧
      c.get (Obj.Job.CREDIT_MW j.val) = s.core.jobCredit j.val ∧
      c.get (Obj.Job.PROGRESS j.val) = 0 ∧ c.get (Obj.Job.BYTES j.val) = 0 ∧
      (s.core.get (Obj.Job.SRC_KIND j.val) = 0 → c.get (Obj.Window.STATE (s.core.get (Obj.Job.SOURCE j.val))) = 4) ∧
      (c.jobOf j.val).plan = q.plan ∧ (c.jobOf j.val).pos = 0 ∧ (c.jobOf j.val).complete = 0 ∧
      (c.jobOf j.val).flights = [] ∧ c.holds Ck.drain j.val = true) ∧
  (∀ (s : State) (j : JobNo) (w : World), Admits s w (Obj.Job.CANCEL j.val) 1 → s.core.jobLive j.val = true →
    (s.core.jobOf j.val).flights.filter (fun f => !f.again) ≠ [] →
    AnswersOk (.jobCancel j w) s fun c =>
      (c.jobOf j.val).cancelling = true ∧
      (c.jobOf j.val).flights = (s.core.jobOf j.val).flights.filter (fun f => !f.again) ∧ ∀ k, c.get k = s.core.get k) ∧
  (∀ (s : State) (j : JobNo) (w : World), Admits s w (Obj.Job.CANCEL j.val) 1 → s.core.jobLive j.val = true →
    (s.core.jobOf j.val).flights.filter (fun f => !f.again) = [] → s.core.get (Obj.Job.SRC_KIND j.val) ≠ 0 →
    AnswersOk (.jobCancel j w) s fun c =>
      c.get (Obj.Job.STATE j.val) = 4 ∧ c.get (Obj.Job.READY j.val) = 1 ∧ c.get (Obj.Job.CREDIT_MW j.val) = 0 ∧
      c.bitOf (Obj.Job.FLAGS j.val) 1 = true ∧ (c.jobOf j.val).flights = []) ∧
  (∀ (s : State) (j : JobNo) (w : World), Admits s w (Obj.Job.RESUME j.val) 1 → s.core.get (Obj.Job.STATE j.val) = 2 →
    s.core.get (Obj.Job.HALT_CAUSE j.val) ≠ 4 →
    (s.core.get (Obj.Job.MODE j.val) = 2 ∨ s.core.portUp (s.core.get (Obj.Job.PORT j.val)) = true) →
    AnswersOk (.jobResume j w) s fun c =>
      c.get (Obj.Job.STATE j.val) = 1 ∧
      c.get (Obj.Job.RESUMES j.val) = min (s.core.get (Obj.Job.RESUMES j.val) + 1) (2 ^ 32 - 1) ∧
      (s.core.get (Obj.Job.MODE j.val) = 0 →
        (c.jobOf j.val).pos = planStart (s.core.jobOf j.val).plan (s.core.jobOf j.val).complete) ∧
      (s.core.get (Obj.Job.MODE j.val) = 1 →
        (c.jobOf j.val).pos = planStart (s.core.jobOf j.val).plan (s.core.jobOf j.val).complete / 4096 * 4096) ∧
      ∀ k, k ≠ Obj.Job.STATE j.val → k ≠ Obj.Job.RESUMES j.val → c.get k = s.core.get k) ∧
  (∀ (s : State) (j : JobNo) (body n : Nat) (rest : List (Nat × Nat)) (c1 : Core), s.core.hubUp = true →
    s.core.checkpoints = (j.val, body) :: rest →
    s.clear.core.takeReserved Hid.CP_NEXT Hid.CP_RESERVE (2 ^ 16) = some (n, c1) →
    AnswersThen (.checkpointSigned j) s fun c =>
      c.checkpoints = rest ∧ (c.jobOf j.val).cpReady = true ∧
      (∃ sig : Nat, sig < 2 ^ 768 ∧ c.get (Obj.Checkpoint.CP_JOB j.val) = body + n <<< 2432 + sig) ∧
      (s.core.get Obj.CpFetch.SPILL_SLOTS ≠ 0 →
        c.spill.num (n % s.core.get Obj.CpFetch.SPILL_SLOTS) = c.get (Obj.Checkpoint.CP_JOB j.val))) ∧
  (∀ (s : State) (w : World) (v : BitVec 64), Admits s w Obj.CpFetch.CP_FETCH_SEQ v.toNat →
    s.core.get Obj.CpFetch.SPILL_SLOTS ≠ 0 → s.core.spill.num (v.toNat % s.core.get Obj.CpFetch.SPILL_SLOTS) ≠ 0 →
    field 2495 2432 (s.core.spill.num (v.toNat % s.core.get Obj.CpFetch.SPILL_SLOTS)) = v.toNat →
    AnswersOk (.cpFetch w v) s fun c =>
      c.get Obj.CpFetch.CP_FETCH_SEQ = v.toNat ∧
      c.get Obj.CpFetch.CP_FETCHED = s.core.spill.num (v.toNat % s.core.get Obj.CpFetch.SPILL_SLOTS) ∧
      ∀ k, k ≠ Obj.CpFetch.CP_FETCH_SEQ → k ≠ Obj.CpFetch.CP_FETCHED → c.get k = s.core.get k) ∧
  (∀ (s : State) (w : World) (v : BitVec 64), Admits s w Obj.CpFetch.CP_FETCH_SEQ v.toNat →
    s.core.get Obj.CpFetch.SPILL_SLOTS = 0 →
    AnswersThen (.cpFetch w v) s fun c => Out.status .noRegion ∈ c.out ∧ ∀ k, c.get k = s.core.get k)

/-- What drain jobs do as they run (R48, R145, R154 to R156, R157). In its turn a STREAM job sends its next cell; a PUSH job
sends a failed transaction again, which counts in RETRIES, or the next 4096 bytes as a new one with the hub tag chosen, which no
transaction in flight bears; a LOCAL job posts its next block. BYTES and PROGRESS follow the source bytes below what has been
sent. A transaction that times out waits to be sent again until RETRY_LIMIT, and then the job halts, as it does where the host
grants no credit. An answer OK ends a transaction. -/
def Obligations.JobCells : Prop :=
  (∀ (s : State) (j : JobNo) (tag : BitVec 12) (d : RecDesc) (o size k p : Nat), s.core.hubUp = true →
    s.core.get (Obj.Job.STATE j.val) = 1 → (s.core.jobOf j.val).cancelling = false → s.core.get (Obj.Job.MODE j.val) = 0 →
    p = s.core.get (Obj.Job.PORT j.val) → s.core.blkFree p = true → s.core.myTurn p j.val = true →
    (s.core.jobOf j.val).nextCell = some (d, o, size, k) → s.core.rateAllows j.val size = true →
    (s.core.jobOf j.val).complete < (s.core.jobOf j.val).next → o + size ≠ d.len + 512 → (s.core.portOf p).txq = [] →
    AnswersCore (.jobCellSend j tag) s fun c =>
      (c.jobOf j.val).pos = (s.core.jobOf j.val).pos + size ∧
      (∃ x, c.out = [.cell p Cy.stream x] ∧ x.plen = BitVec.ofNat 9 size ∧
        x.arg = BitVec.ofNat 48 (j.val <<< 40 + 2 <<< 32 + k)) ∧
      c.get (Obj.Job.BYTES j.val) = max (s.core.get (Obj.Job.PROGRESS j.val))
        (dataBelow (s.core.jobOf j.val).plan ((s.core.jobOf j.val).pos + size)) ∧
      c.get (Obj.Job.PROGRESS j.val) = c.get (Obj.Job.BYTES j.val) ∧
      ∀ k, k ≠ Obj.Job.BYTES j.val → k ≠ Obj.Job.PROGRESS j.val → c.get k = s.core.get k) ∧
  (∀ (s : State) (j : JobNo) (tag : BitVec 12) (f : PushFlight) (p : Nat), s.core.hubUp = true →
    s.core.get (Obj.Job.STATE j.val) = 1 → (s.core.jobOf j.val).cancelling = false → s.core.get (Obj.Job.MODE j.val) = 1 →
    p = s.core.get (Obj.Job.PORT j.val) → s.core.blkFree p = true → s.core.myTurn p j.val = true →
    (s.core.jobOf j.val).flights.find? (·.again) = some f →
    s.core.rateAllows j.val (f.cells.map fun x => x.plen.toNat).sum = true →
    (s.core.portOf p).txq = [] → f.cells.length ≤ (s.core.portOf p).credit Vc.blk →
    AnswersCore (.jobCellSend j tag) s fun c =>
      c.out = f.cells.map (Out.cell p Cy.write) ∧
      (c.jobOf j.val).flights = ((s.core.jobOf j.val).flights.map fun g => if g.tag = f.tag then { g with again := false } else g) ∧
      c.get (Obj.Job.RETRIES j.val) = min (s.core.get (Obj.Job.RETRIES j.val) + 1) (2 ^ 32 - 1) ∧
      ∀ k, k ≠ Obj.Job.RETRIES j.val → c.get k = s.core.get k) ∧
  (∀ (s : State) (j : JobNo) (tag : BitVec 12) (p : Nat), s.core.hubUp = true →
    s.core.get (Obj.Job.STATE j.val) = 1 → (s.core.jobOf j.val).cancelling = false → s.core.get (Obj.Job.MODE j.val) = 1 →
    p = s.core.get (Obj.Job.PORT j.val) → s.core.blkFree p = true → s.core.myTurn p j.val = true →
    (s.core.jobOf j.val).flights.find? (·.again) = none →
    (s.core.jobOf j.val).pos + 4096 ≤ planBytes (s.core.jobOf j.val).plan →
    (s.core.jobOf j.val).flights.length < s.core.get (Obj.Job.PUSH_DEPTH j.val) → s.core.rateAllows j.val 4096 = true →
    (s.core.jobOf j.val).formedTo ((s.core.jobOf j.val).pos + 4096) = true →
    (s.core.hubTags p).contains tag.toNat = false →
    (s.core.portOf p).txq = [] → 16 ≤ (s.core.portOf p).credit Vc.blk →
    AnswersCore (.jobCellSend j tag) s fun c => ∃ f,
      f = { tag := tag.toNat, pos := (s.core.jobOf j.val).pos, attempts := 0, again := false,
            cells := s.core.pushCells j.val (s.core.jobOf j.val) tag.toNat (s.core.jobOf j.val).pos ((s.core.jobOf j.val).pos + 4096) } ∧
      c.out = f.cells.map (Out.cell p Cy.write) ∧
      (c.jobOf j.val).pos = (s.core.jobOf j.val).pos + 4096 ∧
      (c.jobOf j.val).flights = (s.core.jobOf j.val).flights ++ [f] ∧
      c.get (Obj.Job.BYTES j.val) = max (s.core.get (Obj.Job.PROGRESS j.val))
        (dataBelow (s.core.jobOf j.val).plan ((s.core.jobOf j.val).pos + 4096)) ∧
      c.get (Obj.Job.PROGRESS j.val) = c.get (Obj.Job.BYTES j.val) ∧
      ∀ k, k ≠ Obj.Job.BYTES j.val → k ≠ Obj.Job.PROGRESS j.val → c.get k = s.core.get k) ∧
  (∀ (s : State) (j : JobNo) (tag : BitVec 12) (c2 : Core) (b : Bool), s.core.hubUp = true →
    s.core.get (Obj.Job.STATE j.val) = 1 → (s.core.jobOf j.val).cancelling = false → s.core.get (Obj.Job.MODE j.val) = 2 →
    (s.core.jobOf j.val).pos + 64 < planBytes (s.core.jobOf j.val).plan → s.core.rateAllows j.val 64 = true →
    (s.core.jobOf j.val).formedTo ((s.core.jobOf j.val).pos + 64) = true →
    s.clear.core.post (writeReq (s.core.regionHa (s.core.get (Obj.Job.PUSH_REGION j.val)) +
        s.core.get (Obj.Job.PUSH_OFFSET j.val) + (s.core.jobOf j.val).pos / 64) 3
      (ofBytes ((s.core.jobOf j.val).bytesAt (s.core.jobOf j.val).pos ((s.core.jobOf j.val).pos + 64)))
      ((s.core.jobOf j.val).markedAt (s.core.jobOf j.val).pos ((s.core.jobOf j.val).pos + 64)) (.drain j.val)) =
        some (c2, b) →
    AnswersCore (.jobCellSend j tag) s fun c =>
      (c.jobOf j.val).pos = (s.core.jobOf j.val).pos + 64 ∧ c.mc = c2.mc ∧
      c.get (Obj.Job.BYTES j.val) = max (c2.get (Obj.Job.PROGRESS j.val))
        (dataBelow (s.core.jobOf j.val).plan ((s.core.jobOf j.val).pos + 64)) ∧
      c.get (Obj.Job.PROGRESS j.val) = c.get (Obj.Job.BYTES j.val)) ∧
  (∀ (s : State) (j : JobNo) (tag : Nat) (f : PushFlight), s.core.hubUp = true →
    (s.core.jobOf j.val).flights.find? (fun f => f.tag == tag && !f.again) = some f → (s.core.jobOf j.val).cancelling = false →
    f.attempts + 1 < s.core.get (Obj.Job.RETRY_LIMIT j.val) →
    AnswersCore (.pushRespTimeout j tag) s fun c =>
      (c.jobOf j.val).flights = ((s.core.jobOf j.val).flights.map fun g =>
        if g.tag = tag then { g with attempts := g.attempts + 1, again := true } else g) ∧
      ∀ k, c.get k = s.core.get k) ∧
  (∀ (s : State) (j : JobNo) (tag : Nat) (f : PushFlight), s.core.hubUp = true → s.core.get (Obj.Job.STATE j.val) = 1 →
    (s.core.jobOf j.val).flights.find? (fun f => f.tag == tag && !f.again) = some f → (s.core.jobOf j.val).cancelling = false →
    s.core.get (Obj.Job.RETRY_LIMIT j.val) ≤ f.attempts + 1 →
    AnswersThen (.pushRespTimeout j tag) s fun c =>
      c.get (Obj.Job.STATE j.val) = 2 ∧ c.get (Obj.Job.HALT_CAUSE j.val) = 2 ∧ c.bitOf (Obj.Job.FLAGS j.val) 2 = true ∧
      (c.jobOf j.val).flights = [] ∧ s.core.Raises Src.trJobHalt c) ∧
  (∀ (s : State) (j : JobNo), s.core.hubUp = true → s.core.get (Obj.Job.STATE j.val) = 1 →
    (s.core.jobOf j.val).cancelling = false → s.core.get (Obj.Job.MODE j.val) ≠ 2 →
    s.core.portUp (s.core.get (Obj.Job.PORT j.val)) = true → (s.core.portOf (s.core.get (Obj.Job.PORT j.val))).credit Vc.blk = 0 →
    AnswersThen (.jobStallTimeout j) s fun c =>
      c.get (Obj.Job.STATE j.val) = 2 ∧ c.get (Obj.Job.HALT_CAUSE j.val) = 3 ∧ c.bitOf (Obj.Job.FLAGS j.val) 2 = true ∧
      (c.jobOf j.val).flights = [] ∧ s.core.Raises Src.trJobHalt c) ∧
  (∀ (s : State) (p : Port) (x : Cell) (j : Nat), Arrives s p.val Cy.response x → field 47 40 x.arg.toNat = 0 →
    (List.range 32).find? (fun j => s.core.get (Obj.Job.PORT j) = p.val &&
      (s.core.jobOf j).flights.any fun f => f.tag == x.tag.toNat) = some j →
    (s.core.jobOf j).flights.filter (fun g => g.tag != x.tag.toNat) ≠ [] →
    AnswersCore (.hostResponse p x) s fun c =>
      (c.jobOf j).flights = (s.core.jobOf j).flights.filter (fun g => g.tag != x.tag.toNat) ∧
      (c.portOf p.val).grant.num 3 + (c.portOf p.val).freed.num 3 =
        (s.core.portOf p.val).grant.num 3 + (s.core.portOf p.val).freed.num 3 + 1)

/-- Scan-out leases (R158 to R161), with no free of a region deferred. An ENABLE that no rule refuses takes the lease to ACTIVE
with the requested PERIOD and TOL and starts a frame: T_MARK, FRAMES. So do a mark of an ACTIVE lease, which takes PERIOD_NEXT
and TOL_NEXT written since the last one, with TIMING_CHANGED, and an overrun, which counts. DISABLE takes it to IDLE. A leased
subchannel without other work whose leases all allow it and wake far enough ahead takes its credit and is ordered into
self-refresh; the wake time of a lease demands the exit from it, and wakes both package ranks of a subchannel that is not in it.
-/
def Obligations.Leases : Prop :=
  (∀ (s : State) (l : LeaseNo) (w : World), Admits s w (Obj.Lease.ENABLE l.val) 1 → s.core.get (Obj.Lease.STATE l.val) ≠ 1 →
    s.core.get (Obj.Lease.REGION l.val) < 1024 → s.core.get (Obj.Lease.PORT l.val) < 8 →
    s.core.get (Obj.Region.PERSONALITY (s.core.get (Obj.Lease.REGION l.val))) ≠ 0 →
    s.core.bitOf (Obj.Region.OWNER_MASK (s.core.get (Obj.Lease.REGION l.val))) (s.core.get (Obj.Lease.PORT l.val)) = true →
    (s.core.regionSecure (s.core.get (Obj.Lease.REGION l.val)) = true →
      s.core.portSecure (s.core.get (Obj.Lease.PORT l.val)) = true) →
    s.core.get (Obj.Region.FREE_PENDING (s.core.get (Obj.Lease.REGION l.val))) ≠ 1 → s.core.freeing = [] →
    AnswersOk (.leaseEnable l w) s fun c =>
      c.get (Obj.Lease.STATE l.val) = 1 ∧ c.get (Obj.Lease.ENABLE l.val) = 1 ∧
      c.get (Obj.Lease.PERIOD l.val) = s.core.get (Obj.Lease.PERIOD_NEXT l.val) ∧
      c.get (Obj.Lease.TOL l.val) = s.core.get (Obj.Lease.TOL_NEXT l.val) ∧
      c.get (Obj.Lease.T_MARK l.val) = s.core.hubTime % 2 ^ 96 ∧
      c.get (Obj.Lease.FRAMES l.val) = min (s.core.get (Obj.Lease.FRAMES l.val) + 1) (2 ^ 64 - 1)) ∧
  (∀ (s : State) (l : LeaseNo) (w : World), Admits s w (Obj.Lease.ENABLE l.val) 0 → s.core.freeing = [] →
    AnswersOk (.leaseDisable l w) s fun c =>
      c.get (Obj.Lease.STATE l.val) = 0 ∧ c.get (Obj.Lease.ENABLE l.val) = 0 ∧
      ∀ k, k ≠ Obj.Lease.STATE l.val → k ≠ Obj.Lease.ENABLE l.val → c.get k = s.core.get k) ∧
  (∀ (s : State) (l : LeaseNo) (w : World) (v : BitVec 32), Admits s w (Obj.Lease.FRAME_MARK l.val) v.toNat →
    s.core.get (Obj.Lease.STATE l.val) = 1 → s.core.freeing = [] →
    AnswersOk (.frameMark l w v) s fun c =>
      c.get (Obj.Lease.LAST_MARK l.val) = v.toNat ∧ c.get (Obj.Lease.T_MARK l.val) = s.core.hubTime % 2 ^ 96 ∧
      c.get (Obj.Lease.FRAMES l.val) = min (s.core.get (Obj.Lease.FRAMES l.val) + 1) (2 ^ 64 - 1) ∧
      c.get (Obj.Lease.PERIOD l.val) =
        s.core.get (if s.core.bitOf Hid.TIMED l.val then Obj.Lease.PERIOD_NEXT l.val else Obj.Lease.PERIOD l.val) ∧
      c.get (Obj.Lease.TOL l.val) =
        s.core.get (if s.core.bitOf Hid.TIMED l.val then Obj.Lease.TOL_NEXT l.val else Obj.Lease.TOL l.val) ∧
      (s.core.bitOf Hid.TIMED l.val = true → c.bitOf (Obj.Lease.FLAGS l.val) 0 = true)) ∧
  (∀ (s : State) (l : LeaseNo) (w : World) (v : BitVec 32), Admits s w (Obj.Lease.FRAME_MARK l.val) v.toNat →
    s.core.get (Obj.Lease.STATE l.val) ≠ 1 →
    AnswersOk (.frameMark l w v) s fun c =>
      c.get (Obj.Lease.LAST_MARK l.val) = v.toNat ∧ ∀ k, k ≠ Obj.Lease.LAST_MARK l.val → c.get k = s.core.get k) ∧
  (∀ (s : State) (l : LeaseNo), s.core.hubUp = true → s.core.get (Obj.Lease.STATE l.val) = 1 → s.core.freeing = [] →
    AnswersThen (.frameOverrun l) s fun c =>
      c.get (Obj.Lease.OVERRUNS l.val) = min (s.core.get (Obj.Lease.OVERRUNS l.val) + 1) (2 ^ 32 - 1) ∧
      c.get (Obj.Lease.FRAMES l.val) = min (s.core.get (Obj.Lease.FRAMES l.val) + 1) (2 ^ 64 - 1) ∧
      c.bitOf (Obj.Lease.FLAGS l.val) 1 = true ∧ c.get (Obj.Lease.T_MARK l.val) = s.core.hubTime % 2 ^ 96) ∧
  (∀ (s : State) (sc : ScNo), s.core.hubUp = true → s.core.leasesAt sc.val ≠ [] → s.core.scState sc.val = 0 →
    (s.core.mcOf sc.val).srEntering = false → (s.core.mcOf sc.val).srAt = 0 → s.core.otherWork sc.val = false →
    (∀ l ∈ s.core.leasesAt sc.val, s.core.get Obj.Tailrace.SR_EXIT_NS ≤ s.core.get (Obj.Lease.TOL l) * 1000 ∧
      s.core.timeNs + s.core.get Obj.Tailrace.SR_MIN_IDLE_US * 1000 ≤
        s.core.get (Obj.Lease.T_MARK l) / 2 ^ 32 + s.core.get (Obj.Lease.PERIOD l) * 1000) →
    s.core.admits 400 = true →
    AnswersThen (.leaseQuiet sc) s fun c =>
      (c.mcOf sc.val).srEntering = true ∧ (c.mcOf sc.val).srWhy.testBit 0 = true ∧ c.holds Ck.srExit sc.val = true) ∧
  (∀ (s : State) (sc : ScNo), s.core.hubUp = true → s.core.leasesAt sc.val ≠ [] → s.core.scState sc.val = 2 →
    (s.core.mcOf sc.val).srWhy = 1 → (s.core.mcOf sc.val).srExiting = false →
    AnswersCore (.leaseWake sc) s fun c =>
      (c.mcOf sc.val).srExiting = true ∧ c.srQueue = s.core.srQueue ++ [sc.val] ∧ ∀ k, c.get k = s.core.get k) ∧
  (∀ (s : State) (sc : ScNo), s.core.hubUp = true → s.core.leasesAt sc.val ≠ [] → s.core.scState sc.val ≠ 2 →
    (s.core.mcOf sc.val).srAt = 0 → (s.core.mcOf sc.val).stopped = false →
    AnswersCore (.leaseWake sc) s fun c =>
      c.bitOf (Obj.Sc.PD_MASK sc.val) 0 = false ∧ c.bitOf (Obj.Sc.PD_MASK sc.val) 1 = false)

/-- Acceptance at a controller (R21, R168 to R170). The FIFO gives up its head and, as it has at most 32 entries, takes in the
first request that stalls. The head takes a read entry, or, a read of an address that waits in the write queue, its data from
there; a write takes an entry of the write queue, or merges with the waiting write of its address. The 129th read waits, and
with it all behind it. -/
def Obligations.Acceptance : Prop :=
  (∀ (m : McState) (r : Req64) (rest : List Req64), m.wait = r :: rest → m.wait.length ≤ 32 →
    m.pop.wait ++ m.pop.stalled = rest ++ m.stalled ∧ m.pop.wait.length ≤ 32 ∧
    (m.pop.stalled ≠ [] → m.pop.wait.length = 32)) ∧
  (∀ (s : State) (sc : ScNo) (m : McState) (r : Req64) (rest : List Req64), s.core.hubUp = true → m = s.core.mcOf sc.val →
    m.wait = r :: rest → r.write = false → (∀ w ∈ m.writes, w.ha ≠ r.ha) → s.core.scOut sc.val = false →
    AnswersCore (.mcRequestAccept sc) s fun c =>
      c.mcOf sc.val = (if m.reads.length < 128
        then { m.pop with reads := m.reads ++ [{ r with id := m.nextId, t := s.core.tick }], nextId := m.nextId + 1 } else m) ∧
      ∀ k, c.get k = s.core.get k) ∧
  (∀ (s : State) (sc : ScNo) (m : McState) (r w : Req64) (rest : List Req64) (p tag blk up : Nat), s.core.hubUp = true →
    m = s.core.mcOf sc.val → m.wait = r :: rest → r.write = false → r.owner = .hrRead p tag blk up →
    (s.core.portOf p).ups = up → (m.writes.filter fun w => w.ha == r.ha).getLast? = some w →
    AnswersCore (.mcRequestAccept sc) s fun c =>
      c.mcOf sc.val = m.pop ∧
      (∀ x ∈ (c.portOf p).readTxns, x.tag = tag → ∀ b, x.blocks[blk]? = some b → b.got = some (w.data, ofBool w.poison)) ∧
      c.get (Obj.Sc.READS sc.val) = min (s.core.get (Obj.Sc.READS sc.val) + 1) (2 ^ 64 - 1) ∧
      c.get (Obj.Sc.FORWARDS sc.val) = min (s.core.get (Obj.Sc.FORWARDS sc.val) + 1) (2 ^ 64 - 1) ∧
      ∀ k, k ≠ Obj.Sc.READS sc.val → k ≠ Obj.Sc.FORWARDS sc.val → c.get k = s.core.get k) ∧
  (∀ (s : State) (sc : ScNo) (m : McState) (r : Req64) (rest : List Req64) (p tag up : Nat), s.core.hubUp = true →
    m = s.core.mcOf sc.val → m.wait = r :: rest → r.write = true → r.owner = .hrWrite p tag up → (s.core.portOf p).ups = up →
    s.core.scOut sc.val = false → (∀ w ∈ m.writes, w.ha ≠ r.ha) → m.writes.length < 128 →
    AnswersCore (.mcRequestAccept sc) s fun c =>
      (c.mcOf sc.val).wait ++ (c.mcOf sc.val).stalled = passScrub r.ha (rest ++ m.stalled) ∧
      (c.mcOf sc.val).writes = m.writes ++ [{ r with id := m.nextId, t := s.core.tick }] ∧
      (c.portOf p).writeTxns = ((s.core.portOf p).writeTxns.map fun x =>
        if x.tag = tag then { x with left := x.left - 1 } else x) ∧ ∀ k, c.get k = s.core.get k) ∧
  (∀ (s : State) (sc : ScNo) (m : McState) (r : Req64) (rest : List Req64) (p tag up : Nat), s.core.hubUp = true →
    m = s.core.mcOf sc.val → m.wait = r :: rest → r.write = true → r.owner = .hrWrite p tag up → (s.core.portOf p).ups = up →
    s.core.scOut sc.val = false → (∃ w ∈ m.writes, w.ha = r.ha) →
    AnswersCore (.mcRequestAccept sc) s fun c =>
      (c.mcOf sc.val).wait ++ (c.mcOf sc.val).stalled = passScrub r.ha (rest ++ m.stalled) ∧
      (c.mcOf sc.val).writes = (m.writes.map fun w =>
        if w.ha = r.ha then { w with data := r.data, poison := r.poison, cls := min w.cls r.cls } else w) ∧
      (c.portOf p).writeTxns = ((s.core.portOf p).writeTxns.map fun x =>
        if x.tag = tag then { x with left := x.left - 1 } else x) ∧ ∀ k, c.get k = s.core.get k) ∧
  (∀ (s : State) (sc : ScNo), s.core.hubUp = true → (s.core.mcOf sc.val).wait = [] →
    exec (.mcRequestAccept sc) s = .next s.clear)

/-- The pick (R171, R172, R174, R177). A column command that the pick chooses is eligible, its row open and its direction
allowed, and it is the oldest of its class among those of which the same holds and whose bank is below HIT_CAP. Its read enters
flight with its burst as memory holds it; its write leaves the queue and stores its burst and nothing else. An activate opens
its row. A logical rank at FORCE with its banks closed and its time come is refreshed before anything else, and then a rank is
polled that MR4 is due of. No repair is under way on the subchannel. -/
def Obligations.Picks : Prop :=
  (∀ (c : Core) (n : Nat) (t : PickTiming) (r : Req64), c.pick n (c.mcOf n) t = .cas r →
    r ∈ (c.mcOf n).queued ∧ c.eligible n (c.mcOf n) r = true ∧ c.rowOpen (c.mcOf n) r = true ∧ dirOk (c.mcOf n) r = true ∧
    t.cas.contains r.id = true ∧
    ∀ q ∈ (c.mcOf n).queued, q.cls = r.cls → c.eligible n (c.mcOf n) q = true → c.rowOpen (c.mcOf n) q = true →
      t.cas.contains q.id = true → dirOk (c.mcOf n) q = true →
      (c.mcOf n).streak.num (c.dramOf q.ha).bank < 16 → r.id ≤ q.id) ∧
  (∀ (s : State) (sc : ScNo) (t : PickTiming) (c1 : Core) (r : Req64) (d : DramAddr), s.core.hubUp = true →
    s.core.mayIssue sc.val = true → (s.core.eccOf sc.val).repair = none →
    c1 = s.clear.core.updMc sc.val (fun m => s.core.skipShadows (s.core.updateDirection sc.val m) t) →
    c1.pick sc.val (c1.mcOf sc.val) t = .cas r → r.write = false → d = s.core.dramOf r.ha →
    AnswersCore (.mcPick sc t) s fun c =>
      (c.mcOf sc.val).reads = (s.core.mcOf sc.val).reads.filter (fun q => q.id != r.id) ∧
      (c.mcOf sc.val).flight = (s.core.mcOf sc.val).flight.filter (fun q => q.id != r.id) ++
        [{ r with data := s.mem.burst d.pa, poison := s.mem.poisoned d.pa, at_ := .out, replayed := false }] ∧
      c.out = [.dram sc.val (.rd d.bank d.row d.col) (s.core.parLevel (.rd d.bank d.row d.col))]) ∧
  (∀ (s : State) (sc : ScNo) (t : PickTiming) (c1 : Core) (r : Req64) (d : DramAddr), s.core.hubUp = true →
    s.core.mayIssue sc.val = true → (s.core.eccOf sc.val).repair = none →
    c1 = s.clear.core.updMc sc.val (fun m => s.core.skipShadows (s.core.updateDirection sc.val m) t) →
    c1.pick sc.val (c1.mcOf sc.val) t = .cas r → r.write = true → (t.enc1 = true ∨ t.enc2 = true) → d = s.core.dramOf r.ha →
    AnswersAll (.mcPick sc t) s fun u =>
      (u.core.mcOf sc.val).writes = (s.core.mcOf sc.val).writes.filter (fun q => q.id != r.id) ∧
      u.core.out = [.dram sc.val (.wr d.bank d.row d.col) (s.core.parLevel (.wr d.bank d.row d.col))] ∧
      u.core.get (Obj.Sc.WRITES sc.val) = min (s.core.get (Obj.Sc.WRITES sc.val) + 1) (2 ^ 64 - 1) ∧
      (∀ a, ¬ (64 * d.pa ≤ a ∧ a < 64 * d.pa + 64) → u.mem.byte a = s.mem.byte a) ∧
      u.mem.burst d.pa = r.data % 2 ^ 512 ∧ u.mem.poisoned d.pa = r.poison ∧
      (∀ pa, pa ≠ d.pa → u.mem.poisoned pa = s.mem.poisoned pa) ∧ u.fuses = s.fuses ∧ u.latch = s.latch) ∧
  (∀ (s : State) (sc : ScNo) (t : PickTiming) (c1 : Core) (bank row : Nat), s.core.hubUp = true →
    s.core.mayIssue sc.val = true → (s.core.eccOf sc.val).repair = none →
    c1 = s.clear.core.updMc sc.val (fun m => s.core.skipShadows (s.core.updateDirection sc.val m) t) →
    c1.pick sc.val (c1.mcOf sc.val) t = .row { bank := bank, row := some row } →
    AnswersCore (.mcPick sc t) s fun c =>
      (c.mcOf sc.val).rows.num bank = row + 1 ∧
      c.out = [.dram sc.val (.act bank row) (s.core.parLevel (.act bank row))] ∧
      c.get (Obj.Sc.ACTIVATES sc.val) = min (s.core.get (Obj.Sc.ACTIVATES sc.val) + 1) (2 ^ 64 - 1) ∧
      ∀ k, k ≠ Obj.Sc.ACTIVATES sc.val → c.get k = s.core.get k) ∧
  (∀ (s : State) (sc : ScNo) (t : PickTiming) (lr : Nat), s.core.hubUp = true → s.core.mayIssue sc.val = true →
    (s.core.eccOf sc.val).repair = none → lr < 8 →
    (∀ k < lr, s.core.refWants sc.val (s.core.mcOf sc.val) 0 k = false) →
    s.core.refWants sc.val (s.core.mcOf sc.val) 0 lr = true →
    (s.core.mcOf sc.val).openBanks lr = [] → t.ref.contains lr = true → (s.core.mcOf sc.val).pattern.testBit lr = false →
    (s.core.mcOf sc.val).pdBack.testBit (lr / 4) = false → s.core.holds Ck.flush 0 = false →
    AnswersCore (.mcPick sc t) s fun c =>
      (c.mcOf sc.val).debt.num lr = (s.core.mcOf sc.val).debt.num lr - 1 ∧
      c.out = [.dram sc.val (.ref lr) (s.core.parLevel (.ref lr))] ∧
      c.get (Obj.Sc.REFRESHES sc.val) = min (s.core.get (Obj.Sc.REFRESHES sc.val) + 1) (2 ^ 64 - 1)) ∧
  (∀ (s : State) (sc : ScNo) (t : PickTiming) (lr : Nat), s.core.hubUp = true → s.core.mayIssue sc.val = true →
    (s.core.eccOf sc.val).repair = none → lr < 8 →
    (∀ k < 8, s.core.refWants sc.val (s.core.mcOf sc.val) 0 k = false) →
    (∀ k < lr, (s.core.mcOf sc.val).mrrDue.testBit k = false) → (s.core.mcOf sc.val).mrrDue.testBit lr = true →
    t.mode.contains lr = true → s.core.bitOf (Obj.Sc.PD_MASK sc.val) (lr / 4) = false →
    (s.core.mcOf sc.val).pattern.testBit lr = false →
    AnswersCore (.mcPick sc t) s fun c =>
      (c.mcOf sc.val).mrrDue.testBit lr = false ∧ (c.mcOf sc.val).mrrOut.testBit lr = true ∧
      c.out = [.dram sc.val (.mrr lr) (s.core.parLevel (.mrr lr))] ∧ ∀ k, c.get k = s.core.get k)

/-- Refresh and MR4 (R173, R175, R176, R178 to R183). A refresh interval of a subchannel that does not rest adds a debt and
wakes its package rank; one that rests takes neither interval nor poll. A debt above POSTPONE that REF_LATE finds is flagged and
raised. An MR4 poll is due of every logical rank and wakes both package ranks. Values that were asked for: one hot die doubles
the debt, of which what is above POSTPONE is excess; the second poll at 1x ends the hot rate; a die beyond 2x is flagged and
raised. A promotion raises the class by one and counts; an open row that nothing waits for is closed. REFRESH_FLUSH takes its
credit and sets every debt to be worked off. -/
def Obligations.Refresh : Prop :=
  (∀ (s : State) (sc : ScNo) (lr : RankNo), s.core.hubUp = true → s.core.restsItself sc.val = false →
    (s.core.mcOf sc.val).stopped = false →
    AnswersCore (.refreshInterval sc lr) s fun c =>
      (c.mcOf sc.val).debt.num lr.val = (s.core.mcOf sc.val).debt.num lr.val + 1 ∧
      c.bitOf (Obj.Sc.PD_MASK sc.val) (lr.val / 4) = false ∧
      ∀ k, k ≠ Obj.Sc.PD_MASK sc.val → k ≠ Obj.Sc.STATE sc.val → c.get k = s.core.get k) ∧
  (∀ (s : State) (sc : ScNo) (lr : RankNo), s.core.hubUp = true → s.core.restsItself sc.val = true →
    exec (.refreshInterval sc lr) s = .next s.clear ∧ exec (.mr4Poll sc) s = .next s.clear) ∧
  (∀ (s : State) (sc : ScNo) (lr : RankNo), s.core.hubUp = true →
    s.core.get Obj.Mc.POSTPONE < (s.core.mcOf sc.val).debt.num lr.val →
    AnswersThen (.refLate sc lr) s fun c =>
      c.bitOf (Obj.Sc.FLAGS sc.val) 5 = true ∧ c.bitOf Obj.Mc.FLAGS 1 = true ∧ s.core.Raises (Src.mcRefLate sc.val) c ∧
      c.mc = s.core.mc) ∧
  (∀ (s : State) (sc : ScNo), s.core.hubUp = true → s.core.restsItself sc.val = false →
    (s.core.mcOf sc.val).stopped = false →
    AnswersCore (.mr4Poll sc) s fun c =>
      (∀ lr < 8, (c.mcOf sc.val).mrrDue.testBit lr = true) ∧
      c.bitOf (Obj.Sc.PD_MASK sc.val) 0 = false ∧ c.bitOf (Obj.Sc.PD_MASK sc.val) 1 = false ∧
      ∀ k, k ≠ Obj.Sc.PD_MASK sc.val → k ≠ Obj.Sc.STATE sc.val → c.get k = s.core.get k) ∧
  (∀ (s : State) (sc : ScNo) (lr : RankNo) (dies : List (Fin 3)), s.core.hubUp = true → dies.length = 10 →
    (s.core.mcOf sc.val).mrrOut.testBit lr.val = true →
    (∀ d ∈ dies, d ≠ 2) → (∃ d ∈ dies, d = 1) → (s.core.mcOf sc.val).hot.testBit lr.val = false →
    AnswersCore (.mr4Result sc lr dies) s fun c =>
      (c.mcOf sc.val).hot.testBit lr.val = true ∧
      (c.mcOf sc.val).debt.num lr.val = 2 * (s.core.mcOf sc.val).debt.num lr.val ∧
      (c.mcOf sc.val).excess.num lr.val = 2 * (s.core.mcOf sc.val).debt.num lr.val - s.core.get Obj.Mc.POSTPONE ∧
      (s.core.get Obj.Mc.POSTPONE < 2 * (s.core.mcOf sc.val).debt.num lr.val → c.bitOf (Obj.Sc.FLAGS sc.val) 3 = true) ∧
      ∀ k, k ≠ Obj.Sc.FLAGS sc.val → c.get k = s.core.get k) ∧
  (∀ (s : State) (sc : ScNo) (lr : RankNo) (dies : List (Fin 3)), s.core.hubUp = true → dies.length = 10 →
    (s.core.mcOf sc.val).mrrOut.testBit lr.val = true →
    (∀ d ∈ dies, d = 0) → (s.core.mcOf sc.val).hot.testBit lr.val = true →
    AnswersCore (.mr4Result sc lr dies) s fun c =>
      ((c.mcOf sc.val).hot.testBit lr.val = true ↔ (s.core.mcOf sc.val).oneX.num lr.val = 0) ∧
      (c.mcOf sc.val).debt = (s.core.mcOf sc.val).debt ∧ ∀ k, c.get k = s.core.get k) ∧
  (∀ (s : State) (sc : ScNo) (lr : RankNo) (dies : List (Fin 3)), s.core.hubUp = true → dies.length = 10 → 2 ∈ dies →
    (s.core.mcOf sc.val).mrrOut.testBit lr.val = true →
    AnswersThen (.mr4Result sc lr dies) s fun c =>
      c.bitOf (Obj.Sc.FLAGS sc.val) 4 = true ∧ s.core.Raises (Src.mcTempLimit sc.val) c) ∧
  (∀ (s : State) (sc : ScNo) (id : Nat), s.core.hubUp = true →
    (∃ r ∈ (s.core.mcOf sc.val).reads ++ (s.core.mcOf sc.val).writes, r.id = id ∧ (r.cls = 3 ∨ r.cls = 4)) →
    AnswersCore (.requestPromote sc id) s fun c =>
      (c.mcOf sc.val).reads = ((s.core.mcOf sc.val).reads.map fun r =>
        if r.id = id then { r with cls := promoted r.cls, t := s.core.tick } else r) ∧
      (c.mcOf sc.val).writes = ((s.core.mcOf sc.val).writes.map fun r =>
        if r.id = id then { r with cls := promoted r.cls, t := s.core.tick } else r) ∧
      c.get (Obj.Sc.PROMOTIONS sc.val) = min (s.core.get (Obj.Sc.PROMOTIONS sc.val) + 1) (2 ^ 64 - 1) ∧
      ∀ k, k ≠ Obj.Sc.PROMOTIONS sc.val → c.get k = s.core.get k) ∧
  (∀ (s : State) (sc : ScNo) (b : BankNo), s.core.hubUp = true → s.core.mayIssue sc.val = true →
    (s.core.mcOf sc.val).rows.num b.val ≠ 0 →
    (∀ r ∈ (s.core.mcOf sc.val).queued, (s.core.dramOf r.ha).bank = b.val →
      (s.core.dramOf r.ha).row + 1 ≠ (s.core.mcOf sc.val).rows.num b.val) →
    AnswersCore (.rowIdleClose sc b) s fun c =>
      (c.mcOf sc.val).rows.num b.val = 0 ∧ c.out = [.dram sc.val (.pre b.val) (s.core.parLevel (.pre b.val))] ∧
      ∀ k, c.get k = s.core.get k) ∧
  (∀ (s : State) (w : World), Admits s w Obj.Mc.REFRESH_FLUSH 1 → s.core.holds Ck.flush 0 = false → s.core.admits 12000 = true →
    (∀ n < 32, s.core.scState n = 0) → (∃ n < 32, ∃ lr < 8, (s.core.mcOf n).debt.num lr ≠ 0) →
    AnswersOk (.refreshFlush w) s fun c =>
      c.holds Ck.flush 0 = true ∧
      ∀ n < 32, ∀ lr < 8, (c.mcOf n).flush.num lr = (s.core.mcOf n).debt.num lr ∧
        (c.mcOf n).debt.num lr = (s.core.mcOf n).debt.num lr)

/-- Power-down, self-refresh and the address map (R166, R183, R185, R186, R201). An idle package rank closes its rows and rests.
A drained subchannel that is ordered into self-refresh issues what it owes, closes its banks and gives the entry to PR0 and then
PR1; when ALERT_WINDOW_NS has passed without an event it is in SELF_REFRESH and counted; with requests on their way it does not
begin. The demanded exit that is next in order and may begin goes to PR0 and then PR1, with one refresh due on every logical
rank, MR4 polled, and STATE ACTIVE. A new address map leaves every content undefined and drops the writes that the queues hold.
-/
def Obligations.MemoryRest : Prop :=
  (∀ (s : State) (sc : ScNo) (pr : Fin 2), s.core.hubUp = true → s.core.get Obj.Mc.PD_IDLE_NS ≠ 0 →
    s.core.mayIssue sc.val = true → s.core.scState sc.val ≤ 1 → s.core.bitOf (Obj.Sc.PD_MASK sc.val) pr.val = false →
    s.core.rankIdle sc.val pr.val = true → s.core.leaseForbidsPd sc.val = false →
    AnswersCore (.powerDownEntry sc pr) s fun c =>
      c.bitOf (Obj.Sc.PD_MASK sc.val) pr.val = true ∧
      .dram sc.val (.pdEnter pr.val) (s.core.parLevel (.pdEnter pr.val)) ∈ c.out ∧
      (c.get (Obj.Sc.PD_MASK sc.val) = 3 → c.get (Obj.Sc.STATE sc.val) = 1) ∧
      (∀ b, b / 128 = pr.val → b < 256 → (c.mcOf sc.val).rows.num b = 0) ∧
      ∀ k, k ≠ Obj.Sc.PD_MASK sc.val → k ≠ Obj.Sc.STATE sc.val → c.get k = s.core.get k) ∧
  (∀ (s : State) (sc : ScNo), s.core.hubUp = true → (s.core.mcOf sc.val).srAt = 0 → (s.core.mcOf sc.val).srEntering = true →
    s.core.scState sc.val ≤ 1 → (s.core.mcOf sc.val).drained = true → s.core.mayIssue sc.val = true →
    (s.core.eccOf sc.val).repair = none → (s.core.ftOf sc.val).capture = none → s.core.holds Ck.flush 0 = false →
    AnswersCore (.selfRefreshEntry sc) s fun c =>
      (c.mcOf sc.val).srAt = s.core.tick + 1 ∧ (∀ lr < 8, (c.mcOf sc.val).debt.num lr = 0) ∧
      (∀ b < 256, (c.mcOf sc.val).rows.num b = 0) ∧
      c.get (Obj.Sc.REFRESHES sc.val) = (if (s.core.mcOf sc.val).owed = 0 then s.core.get (Obj.Sc.REFRESHES sc.val)
        else min (s.core.get (Obj.Sc.REFRESHES sc.val) + (s.core.mcOf sc.val).owed) (2 ^ 64 - 1)) ∧
      (∃ l, c.out = l ++ [.dram sc.val (.srEnter 0) (s.core.parLevel (.srEnter 0)),
        .dram sc.val (.srEnter 1) (s.core.parLevel (.srEnter 1))]) ∧
      c.get (Obj.Sc.SR_ENTRIES sc.val) = s.core.get (Obj.Sc.SR_ENTRIES sc.val)) ∧
  (∀ (s : State) (sc : ScNo), s.core.hubUp = true → (s.core.mcOf sc.val).srAt ≠ 0 → (s.core.mcOf sc.val).stopped = false →
    s.core.get Obj.Phy.ALERT_WINDOW_NS ≤ 2 * (s.core.tick + 1 - (s.core.mcOf sc.val).srAt) → (s.core.mcOf sc.val).srWhy ≠ 1 →
    AnswersCore (.selfRefreshEntry sc) s fun c =>
      c.get (Obj.Sc.STATE sc.val) = 2 ∧ c.get (Obj.Sc.PD_MASK sc.val) = 0 ∧
      c.get (Obj.Sc.SR_ENTRIES sc.val) = min (s.core.get (Obj.Sc.SR_ENTRIES sc.val) + 1) (2 ^ 32 - 1) ∧
      (c.mcOf sc.val).srAt = 0 ∧ (c.mcOf sc.val).srEntering = false ∧ c.out = [] ∧
      ∀ k, k ≠ Obj.Sc.STATE sc.val → k ≠ Obj.Sc.PD_MASK sc.val → k ≠ Obj.Sc.SR_ENTRIES sc.val → c.get k = s.core.get k) ∧
  (∀ (s : State) (sc : ScNo), s.core.hubUp = true → (s.core.mcOf sc.val).srAt = 0 → (s.core.mcOf sc.val).arriving ≠ [] →
    exec (.selfRefreshEntry sc) s = .next s.clear) ∧
  (∀ (s : State) (sc : ScNo), s.core.hubUp = true → s.core.scState sc.val = 2 → (s.core.mcOf sc.val).srExiting = true →
    s.core.exitMayBegin sc.val = true → (s.core.ddrOf sc.val).alertLow = false → (s.core.ddrOf sc.val).alertOwed = false →
    s.core.start = none → (s.core.mcOf sc.val).held = false → (s.core.mcOf sc.val).offAfter = false →
    AnswersThen (.selfRefreshExit sc) s fun c =>
      c.get (Obj.Sc.STATE sc.val) = 0 ∧ (∀ lr < 8, (c.mcOf sc.val).debt.num lr = 1) ∧
      (∀ lr < 8, (c.mcOf sc.val).mrrOut.testBit lr = true) ∧
      (c.mcOf sc.val).srWhy = 0 ∧ (c.mcOf sc.val).srExiting = false ∧ c.srQueue = s.core.srQueue.filter (· != sc.val) ∧
      (∃ l, c.out = [.dram sc.val (.srExit 0) (s.core.parLevel (.srExit 0)),
        .dram sc.val (.srExit 1) (s.core.parLevel (.srExit 1))] ++
        (List.range 8).map (fun lr => .dram sc.val (.mrr lr) (s.core.parLevel (.mrr lr))) ++ l)) ∧
  (∀ (s : State) (w : World) (v : BitVec 8), Admits s w Obj.Mc.ADDR_MAP v.toNat →
    AnswersAll (.addrMapWrite w v) s fun u =>
      Out.status .ok ∈ u.core.out ∧ u.core.addrMap = v.toNat ∧
      u.mem = (if v.toNat = s.core.addrMap then s.mem else s.mem.loseAll) ∧
      (v.toNat ≠ s.core.addrMap → ∀ n < 32, (u.core.mcOf n).writes = []) ∧
      (∀ k, k ≠ Obj.Mc.ADDR_MAP → u.core.get k = s.core.get k) ∧ u.fuses = s.fuses ∧ u.latch = s.latch)

/-- ALERT_n (R199 to R201). An event that is heard is raised; the first or second of a chain of events within 1 us of the latest
replay's end stops the commands, or, in SELF_REFRESH, is kept for the exit; the third takes the subchannel OFFLINE with its DRAM
in reset and its content lost, and so does a pin that stays low. When an event outside self-refresh ends, every logical rank is
precharged, the commands of the window are issued again, no byte changes but those that a write of the window stores, the event
and the replay are counted, and commands go on; a step of a running training counts a repeat. No repair is under way. -/
def Obligations.Alerts : Prop :=
  (∀ (s : State) (sc : ScNo) (n : Nat), s.core.hubUp = true → (s.core.ddrOf sc.val).alertLow = false →
    s.core.alertHeard sc.val = true →
    n = (if (s.core.ddrOf sc.val).chain ≠ 0 ∧ s.core.tick ≤ (s.core.ddrOf sc.val).replayEnd + 500
      then (s.core.ddrOf sc.val).chain + 1 else 1) → n ≠ 3 →
    AnswersThen (.alertEvent sc) s fun c =>
      (c.ddrOf sc.val).alertLow = true ∧ (c.ddrOf sc.val).chain = n ∧ (c.ddrOf sc.val).alertAt = s.core.tick ∧
      (c.mcOf sc.val).stopped = !decide (s.core.scState sc.val = 2) ∧
      (c.ddrOf sc.val).alertOwed = decide (s.core.scState sc.val = 2) ∧
      s.core.Raises (Src.ddrAlert sc.val) c) ∧
  (∀ (s : State) (sc : ScNo), s.core.hubUp = true → (s.core.ddrOf sc.val).alertLow = false → s.core.alertHeard sc.val = true →
    (s.core.ddrOf sc.val).chain = 2 → s.core.tick ≤ (s.core.ddrOf sc.val).replayEnd + 500 →
    AnswersThen (.alertEvent sc) s fun c =>
      c.get (Obj.Sc.STATE sc.val) = 3 ∧ (c.mcOf sc.val).inReset = true ∧ c.bitOf Obj.ScMask.CONTENT_LOST sc.val = true ∧
      (c.ddrOf sc.val).alertLow = false ∧ (c.ddrOf sc.val).chain = 0 ∧ c.bitOf (Obj.Train.FLAGS sc.val) 1 = true ∧
      s.core.Raises (Src.ddrAlert sc.val) c ∧
      c.get (Obj.Train.PARITY_UNRECOVERED sc.val) = min (s.core.get (Obj.Train.PARITY_UNRECOVERED sc.val) + 1) (2 ^ 32 - 1)) ∧
  (∀ (s : State) (sc : ScNo), s.core.hubUp = true → (s.core.ddrOf sc.val).alertLow = true →
    (s.core.ddrOf sc.val).alertOwed = false → (s.core.eccOf sc.val).repair = none →
    AnswersAll (.alertDeassert sc) s fun u =>
      (u.core.ddrOf sc.val).alertLow = false ∧ (u.core.ddrOf sc.val).replayEnd = s.core.tick ∧
      (u.core.mcOf sc.val).stopped = false ∧ u.core.bitOf (Obj.Train.FLAGS sc.val) 0 = true ∧
      u.core.get (Obj.Train.ALERT_EVENTS sc.val) = min (s.core.get (Obj.Train.ALERT_EVENTS sc.val) + 1) (2 ^ 32 - 1) ∧
      u.core.get (Obj.Train.CA_REPLAYS sc.val) = min (s.core.get (Obj.Train.CA_REPLAYS sc.val) + 1) (2 ^ 32 - 1) ∧
      (∀ lr < 8, .dram sc.val (.preAll lr) (s.core.parLevel (.preAll lr)) ∈ u.core.out) ∧
      (∀ h ∈ s.core.alertWindow sc.val, .dram sc.val h.cmd (s.core.parLevel h.cmd) ∈ u.core.out) ∧
      (∀ t, (s.core.ddrOf sc.val).train = some t → t.waiting = false →
        (u.core.ddrOf sc.val).train = some { t with repeats := t.repeats + 1 }) ∧
      (∀ a, (∀ h ∈ s.core.alertWindow sc.val, ∀ x, h.wrote = some x → ¬ (64 * x.1 ≤ a ∧ a < 64 * x.1 + 64)) →
        u.mem.byte a = s.mem.byte a) ∧ u.fuses = s.fuses ∧ u.latch = s.latch) ∧
  (∀ (s : State) (sc : ScNo), s.core.hubUp = true → (s.core.ddrOf sc.val).alertLow = true →
    (s.core.ddrOf sc.val).alertOwed = true → (s.core.eccOf sc.val).repair = none →
    AnswersCore (.alertDeassert sc) s fun c =>
      (c.ddrOf sc.val).alertLow = false ∧ (c.ddrOf sc.val).alertOwed = true ∧ ∀ k, c.get k = s.core.get k) ∧
  (∀ (s : State) (sc : ScNo), s.core.hubUp = true → (s.core.mcOf sc.val).inReset = false →
    AnswersThen (.alertStuck sc) s fun c =>
      c.get (Obj.Sc.STATE sc.val) = 3 ∧ (c.mcOf sc.val).inReset = true ∧ c.bitOf Obj.ScMask.CONTENT_LOST sc.val = true ∧
      c.bitOf (Obj.Train.FLAGS sc.val) 2 = true ∧ (c.ddrOf sc.val).alertLow = false ∧
      s.core.Raises (Src.ddrAlert sc.val) c)

/-- Cold training (R205, R206, R210, R211, R216, R217). The step that runs ends while ALERT_n is high. Step 1 releases RESET_n
and calibrates ZQ, and the content of the DRAM is lost; steps 2 and 3 take the centre they find, step 4 starts the lane side,
and steps 5 to 9 take the lanes' results and go on to the next step. A step that an event has made repeat three times fails the
training: FAILED, OFFLINE, raised, with results published. Step 10 of PR1 publishes a new generation of results, TRAINED or
FAILED. RETRAIN of an OFFLINE subchannel queues a training for its credit, from step 1 unless the subchannel was TRAINED; of any
other it answers RETRY. -/
def Obligations.Training : Prop :=
  (∀ (s : State) (sc : ScNo) (r : StepResult) (t : TrainRun), s.core.hubUp = true → r.wf = true →
    (s.core.ddrOf sc.val).train = some t → t.waiting = false → (s.core.ddrOf sc.val).alertLow = false → t.repeats < 3 →
    t.failed = none → t.step = 1 → (s.core.mcOf sc.val).inReset = true →
    AnswersAll (.trainStepDone sc r) s fun u =>
      (u.core.ddrOf sc.val).train = some { t with step := 2, repeats := 0 } ∧ u.mem = s.mem.lose sc.val ∧
      (u.core.mcOf sc.val).inReset = false ∧
      u.core.out = [.dram sc.val (.reset false) (s.core.parLevel (.reset false)), .dram sc.val (.zq 0) (s.core.parLevel (.zq 0)),
        .dram sc.val (.zq 1) (s.core.parLevel (.zq 1))] ∧
      (∀ k, u.core.get k = s.core.get k) ∧ u.fuses = s.fuses ∧ u.latch = s.latch) ∧
  (∀ (s : State) (sc : ScNo) (r : StepResult) (t : TrainRun) (y : Eye), s.core.hubUp = true → r.wf = true →
    (s.core.ddrOf sc.val).train = some t → t.waiting = false → (s.core.ddrOf sc.val).alertLow = false → t.repeats < 3 →
    t.failed = none → eyeCentre (s.core.get Obj.Phy.VREF_COARSE_STEP) r.coarse r.fine = some y →
    (t.step = 2 → AnswersCore (.trainStepDone sc r) s fun c =>
      (∃ t', (c.ddrOf sc.val).train = some t' ∧ t'.step = 3 ∧ t'.repeats = 0 ∧ t'.csDly.num t.pr = y.t % 4096 ∧
        t'.vrefCs.num t.pr = y.v % 256) ∧ ∀ k, c.get k = s.core.get k) ∧
    (t.step = 3 → t.pr = 0 → (∀ w ∈ r.caBits, w.1 ≤ w.2) → AnswersCore (.trainStepDone sc r) s fun c =>
      (∃ t', (c.ddrOf sc.val).train = some t' ∧ t'.step = 4 ∧ t'.repeats = 0 ∧ t'.caWindows = r.caBits ∧
        t'.vrefCa.num 0 = y.v % 256) ∧ ∀ k, c.get k = s.core.get k)) ∧
  (∀ (s : State) (sc : ScNo) (r : StepResult) (t : TrainRun), s.core.hubUp = true → r.wf = true →
    (s.core.ddrOf sc.val).train = some t → t.waiting = false → (s.core.ddrOf sc.val).alertLow = false → t.repeats < 3 →
    t.failed = none → t.step = 4 → t.fromOne = false →
    AnswersCore (.trainStepDone sc r) s fun c =>
      (c.ddrOf sc.val).train = some { t with step := 5, repeats := 0 } ∧
      (c.ddrOf sc.val).twoN.testBit t.pr = s.core.twoN ∧ ∀ k, c.get k = s.core.get k) ∧
  (∀ (s : State) (sc : ScNo) (r : StepResult) (t t1 : TrainRun), s.core.hubUp = true → r.wf = true →
    (s.core.ddrOf sc.val).train = some t → t.waiting = false → (s.core.ddrOf sc.val).alertLow = false → t.repeats < 3 →
    t.failed = none → 5 ≤ t.step → t.step ≤ 9 → t1 = s.core.stepLanes t r → t1.failed = none →
    AnswersCore (.trainStepDone sc r) s fun c =>
      (c.ddrOf sc.val).train = some t1 ∧ t1.step = t.step + 1 ∧ t1.repeats = 0 ∧ ∀ k, c.get k = s.core.get k) ∧
  (∀ (s : State) (sc : ScNo) (r : StepResult) (t : TrainRun), s.core.hubUp = true → r.wf = true →
    (s.core.ddrOf sc.val).train = some t → t.waiting = false → (s.core.ddrOf sc.val).alertLow = false → 3 ≤ t.repeats →
    5 ≤ t.step → t.step ≤ 9 → s.core.start = none →
    AnswersThen (.trainStepDone sc r) s fun c =>
      (c.ddrOf sc.val).train = none ∧ c.get (Obj.Train.TRAIN_STATE sc.val) = 3 ∧ c.get (Obj.Sc.STATE sc.val) = 3 ∧
      c.bitOf (Obj.Train.FLAGS sc.val) 3 = true ∧ c.get (Obj.Train.READY sc.val) = 1 ∧
      c.get (Obj.Train.GEN sc.val) = nextGen (s.core.get (Obj.Train.GEN sc.val)) ∧ s.core.Raises (Src.ddrTrain sc.val) c) ∧
  (∀ (s : State) (sc : ScNo) (r : StepResult) (t : TrainRun), s.core.hubUp = true → r.wf = true →
    (s.core.ddrOf sc.val).train = some t → t.waiting = false → (s.core.ddrOf sc.val).alertLow = false → t.repeats < 3 →
    t.failed = none → t.step = 10 → t.pr = 1 → t.noSave = true → s.core.start = none →
    AnswersThen (.trainStepDone sc r) s fun c =>
      (c.ddrOf sc.val).train = none ∧ c.get (Obj.Train.READY sc.val) = 1 ∧
      c.get (Obj.Train.GEN sc.val) = nextGen (s.core.get (Obj.Train.GEN sc.val)) ∧
      c.get (Obj.Train.TRAIN_TIME sc.val) = s.core.hubTime ∧
      c.get (Obj.Train.TRAIN_STATE sc.val) = (if s.core.trainFails sc.val (s.core.stepLanes t r) then 3 else 2) ∧
      (c.get (Obj.Train.TRAIN_STATE sc.val) = 3 → c.get (Obj.Sc.STATE sc.val) = 3)) ∧
  (∀ (s : State) (sc : ScNo) (w : World), Admits s w (Obj.Train.RETRAIN sc.val) 1 → s.core.scOffline sc.val = true →
    s.core.trainState sc.val ≠ 1 →
    AnswersOk (.retrain sc w) s fun c =>
      c.get (Obj.Train.TRAIN_STATE sc.val) = 1 ∧ c.waits Ck.train sc.val = true ∧
      ∃ t, (c.ddrOf sc.val).train = some t ∧ t.waiting = true ∧ t.step = (if s.core.trainState sc.val = 2 then 2 else 1)) ∧
  (∀ (s : State) (sc : ScNo) (w : World), Admits s w (Obj.Train.RETRAIN sc.val) 1 → s.core.scOffline sc.val = false →
    AnswersThen (.retrain sc w) s fun c => c.out = [.status .retry] ∧ ∀ k, c.get k = s.core.get k)

/-- The oldest awaited read of a Headrace READ decodes (R187, R188, R249, R252, R254, R267, R325). As data or as POISONED it
answers its block and counts; a first failure is to be issued again at FORCE; a second answers UNCORRECTABLE, counted, flagged
and raised. Symbols corrected below MARK_SYMS in every package count in CE_BURSTS and CE_SYMBOLS; with MARK_SYMS of them in a
package it becomes a suspect, counted, the other reads awaited are to be discarded, and three reads to confirm it are asked for
at FORCE. A read to be discarded is kept. The third confirmation decides: MARK, TRANSIENT, ROW_FAULT or RANK_EXHAUSTED, by its
flag. While ALERT_n stops the subchannel, or with no read awaited, nothing decodes. -/
def Obligations.ReadDecoding : Prop :=
  (∀ (s : State) (sc : ScNo) (x : ReadData) (m : McState) (e : EccState) (r : Req64) (p tag blk up : Nat) (v : Judgement),
    s.core.hubUp = true → x.wf = true → m = s.core.mcOf sc.val → e = s.core.eccOf sc.val →
    m.flight.find? (fun r => r.at_ == .out || r.at_ == .stale) = some r → r.at_ = .out → m.stopped = false →
    r.owner = .hrRead p tag blk up → (s.core.portOf p).ups = up → e.suspect = none → e.outcomes = [] → e.repair = none →
    (∀ q ∈ m.flight, q.at_ ≠ .stale ∧ q.at_ ≠ .kept ∧ q.inReplay = false) →
    v = judge (x.err.map (·.toNat)) r.poison (s.core.markedLane sc.val ((s.core.dramOf r.ha).lr / 4)) →
    (∀ res, v = .data [] res → AnswersThen (.readDecode sc x) s fun c =>
      (c.mcOf sc.val).flight = m.flight.filter (·.id != r.id) ∧ BlockGot s.core c p tag blk (addResidue r.data res, 0) ∧
      c.get (Obj.Sc.READS sc.val) = min (s.core.get (Obj.Sc.READS sc.val) + 1) (2 ^ 64 - 1) ∧
      (r.second = true → c.bitOf (Obj.Sc.FLAGS sc.val) 1 = true ∧
        c.get (Obj.Sc.UE_REREAD_OK sc.val) = min (s.core.get (Obj.Sc.UE_REREAD_OK sc.val) + 1) (2 ^ 32 - 1))) ∧
    (∀ res, v = .poisoned [] res → AnswersThen (.readDecode sc x) s fun c =>
      (c.mcOf sc.val).flight = m.flight.filter (·.id != r.id) ∧ BlockGot s.core c p tag blk (addResidue r.data res, 1) ∧
      c.get (Obj.EccSc.POISON_READS sc.val) = min (s.core.get (Obj.EccSc.POISON_READS sc.val) + 1) (2 ^ 64 - 1)) ∧
    (∀ syms res, v = .data syms res → syms ≠ [] → s.core.hitLanes syms = [] → AnswersThen (.readDecode sc x) s fun c =>
      (c.mcOf sc.val).flight = m.flight.filter (·.id != r.id) ∧ BlockGot s.core c p tag blk (addResidue r.data res, 0) ∧
      c.bitOf (Obj.EccSc.FLAGS sc.val) 0 = true ∧
      c.get (Obj.EccSc.CE_BURSTS sc.val) = min (s.core.get (Obj.EccSc.CE_BURSTS sc.val) + 1) (2 ^ 64 - 1) ∧
      c.get (Obj.EccSc.CE_SYMBOLS sc.val) = min (s.core.get (Obj.EccSc.CE_SYMBOLS sc.val) + syms.length) (2 ^ 64 - 1)) ∧
    (∀ syms res lane rest, v = .data syms res → s.core.hitLanes syms = lane :: rest →
      AnswersThen (.readDecode sc x) s fun c =>
      BlockGot s.core c p tag blk (addResidue r.data res, 0) ∧
      (∃ q, (c.eccOf sc.val).suspect = some q ∧ q.lane = lane ∧ q.pr = (s.core.dramOf r.ha).lr / 4 ∧ q.ha = r.ha ∧
        q.hits = [] ∧ q.held = []) ∧
      c.get (Obj.EccSc.SUSPECTS sc.val) = min (s.core.get (Obj.EccSc.SUSPECTS sc.val) + 1) (2 ^ 32 - 1) ∧
      (c.mcOf sc.val).flight = ((m.flight.filter (·.id != r.id)).map fun q =>
        if q.at_ = .out then { q with at_ := .stale } else q) ∧
      let d := s.core.dramOf r.ha
      ∀ q ∈ [(0, r.ha), (1, unmapHa s.core.addrMap { d with bg := (d.bg + 4) % 8, row := d.row ^^^ 1, col := 0 }),
          (2, unmapHa s.core.addrMap { d with lr := d.lr ^^^ 1, col := 0 })],
        ∃ o ∈ (c.mcOf (s.core.dramOf q.2).sc).own, o.owner = .confirm q.1 ∧ o.ha = q.2 ∧ o.cls = 0 ∧ o.write = false) ∧
    (v = .bad → r.second = false → AnswersCore (.readDecode sc x) s fun c =>
      (c.mcOf sc.val).flight = m.flight.filter (·.id != r.id) ++ [{ r with at_ := .again, cls := 0, second := true }] ∧
      ∀ k, c.get k = s.core.get k) ∧
    (v = .bad → r.second = true → AnswersThen (.readDecode sc x) s fun c =>
      (c.mcOf sc.val).flight = m.flight.filter (·.id != r.id) ∧ BlockGot s.core c p tag blk (0, 2) ∧
      c.bitOf (Obj.Sc.FLAGS sc.val) 0 = true ∧ c.bitOf Obj.Mc.FLAGS 0 = true ∧
      c.get (Obj.Sc.UE_COUNT sc.val) = min (s.core.get (Obj.Sc.UE_COUNT sc.val) + 1) (2 ^ 32 - 1) ∧
      s.clear.core.Raises (Src.mcUe sc.val) c)) ∧
  (∀ (s : State) (sc : ScNo) (x : ReadData) (m : McState) (r : Req64) (p tag blk up : Nat),
    s.core.hubUp = true → x.wf = true → m = s.core.mcOf sc.val →
    m.flight.find? (fun r => r.at_ == .out || r.at_ == .stale) = some r → r.at_ = .stale → m.stopped = false →
    r.owner = .hrRead p tag blk up → (s.core.eccOf sc.val).suspect ≠ none → (s.core.eccOf sc.val).repair = none →
    AnswersCore (.readDecode sc x) s fun c =>
      (c.mcOf sc.val).flight = (m.flight.map fun q => if q.id = r.id then { q with at_ := .kept } else q) ∧
      ∀ k, c.get k = s.core.get k) ∧
  (∀ (s : State) (sc : ScNo) (x : ReadData) (m : McState) (e : EccState) (r : Req64) (i : Nat) (q q' : Suspect)
    (syms res : List Nat), s.core.hubUp = true → x.wf = true → m = s.core.mcOf sc.val → e = s.core.eccOf sc.val →
    m.flight.find? (fun r => r.at_ == .out || r.at_ == .stale) = some r → r.at_ = .out → m.stopped = false →
    r.owner = .confirm i → e.suspect = some q → q.hits.length = 2 → q.held = [] → q.lane < 10 → q.pr < 2 → e.repair = none →
    (∀ q ∈ m.flight, q.at_ ≠ .stale ∧ q.at_ ≠ .kept ∧ q.inReplay = false) →
    judge (x.err.map (·.toNat)) r.poison (s.core.markedLane sc.val ((s.core.dramOf r.ha).lr / 4)) = .data syms res →
    q' = { q with hits := q.hits ++ [(i, decide (s.core.get Obj.Ecc.MARK_SYMS ≤ symsIn syms q.lane))] } →
    AnswersThen (.readDecode sc x) s fun c =>
      let o := q'.outcome (s.core.markedLane sc.val q.pr).isSome
      (c.eccOf sc.val).suspect = none ∧
      c.bitOf (Obj.EccSc.FLAGS sc.val) (if o = 4 then 1 else if o = 12 then 4 else if o = 6 then 3 else 2) = true ∧
      (o = 4 → s.core.isSet Obj.Ecc.AUTO_MARK = true → c.markedLane sc.val q.pr = some q.lane) ∧
      c.get (Obj.EccSc.INTERRUPT_LAST sc.val) = min x.interruptNs (2 ^ 32 - 1)) ∧
  (∀ (s : State) (sc : ScNo) (x : ReadData), s.core.hubUp = true → x.wf = true → (s.core.eccOf sc.val).repair = none →
    ((s.core.mcOf sc.val).flight.find? (fun r => r.at_ == .out || r.at_ == .stale) = none ∨
      (s.core.mcOf sc.val).stopped = true) → exec (.readDecode sc x) s = .next s.clear)

/-- Checker, erasure, scrub and repair (R251, R253, R256, R258 to R261, R263). Test words with other outcomes than their own are
a checker failure. Firmware marks a package, and unmarks it, but puts no second mark on a rank. A row due is read with 128
reads, and the position moves on; a row that falls due while the row before it is still read waits behind. The first candidate's
repair begins under its credit, with what is queued before it; without a resource, or unrepairable, it is dropped, flagged and
raised. The end of a repair (R260 step 8) makes its entry and counts it; one whose read-back was not clean, or that an ALERT
ended, has failed, and the latter is tried once more. -/
def Obligations.EccUpkeep : Prop :=
  (∀ (s : State) (sc : ScNo), s.core.hubUp = true → exec (.decoderSelftest sc [1, 1, 3, 2]) s = .next s.clear) ∧
  (∀ (s : State) (sc : ScNo) (l : List Nat), s.core.hubUp = true → l.length = 4 → l ≠ [1, 1, 3, 2] →
    AnswersThen (.decoderSelftest sc l) s fun c =>
      c.bitOf (Obj.EccSc.FLAGS sc.val) 8 = true ∧ c.bitOf Obj.Ecc.FLAGS 3 = true ∧
      c.get Obj.Ecc.LOG_COUNT = min (s.core.get Obj.Ecc.LOG_COUNT + 1) (2 ^ 64 - 1) ∧
      s.clear.core.Raises (Src.eccChecker sc.val) c) ∧
  (∀ (s : State) (sc : ScNo) (w : World) (v : BitVec 16) (old : Nat), Admits s w (Obj.EccSc.ERASE_MAP sc.val) v.toNat →
    old = s.core.get (Obj.EccSc.ERASE_MAP sc.val) →
    (v.toNat / 256 = 0xFF ∨ old / 256 = 0xFF ∨ old / 256 = v.toNat / 256) →
    (v.toNat % 256 = 0xFF ∨ old % 256 = 0xFF ∨ old % 256 = v.toNat % 256) →
    AnswersOk (.eraseMapWrite sc w v) s fun c =>
      c.get (Obj.EccSc.ERASE_MAP sc.val) = v.toNat ∧
      (∀ i < 20, c.markedLane sc.val (i / 10) = some (i % 10) → (c.laneOf sc.val i).state = 5) ∧
      (∀ i < 20, c.markedLane sc.val (i / 10) ≠ some (i % 10) → (s.core.laneOf sc.val i).state = 5 →
        (c.laneOf sc.val i).state = if s.core.trainState sc.val = 2 then 1 else 0) ∧
      ∀ k, k ≠ Obj.EccSc.ERASE_MAP sc.val → c.get k = s.core.get k) ∧
  (∀ (s : State) (sc : ScNo) (w : World) (v : BitVec 16) (old : Nat), Admits s w (Obj.EccSc.ERASE_MAP sc.val) v.toNat →
    old = s.core.get (Obj.EccSc.ERASE_MAP sc.val) →
    (v.toNat % 256 ≠ 0xFF ∧ old % 256 ≠ 0xFF ∧ old % 256 ≠ v.toNat % 256 ∨
      v.toNat / 256 ≠ 0xFF ∧ old / 256 ≠ 0xFF ∧ old / 256 ≠ v.toNat / 256) →
    AnswersThen (.eraseMapWrite sc w v) s fun c => c.out = [.status .malformed] ∧ ∀ k, c.get k = s.core.get k) ∧
  (∀ (s : State) (sc : ScNo), s.core.hubUp = true → s.core.get Obj.Ecc.SCRUB_PERIOD_H ≠ 0 → s.core.scState sc.val < 2 →
    s.core.trainState sc.val = 2 → s.core.dataServed = true → s.core.forceOnly sc.val = false →
    s.core.holds Ck.scrub sc.val = false →
    AnswersCore (.scrubRow sc) s fun c =>
      if (s.core.eccOf sc.val).scrubLeft = 0 then
        c.get (Obj.EccSc.SCRUB_POS sc.val) = (s.core.get (Obj.EccSc.SCRUB_POS sc.val) + 1) % 2 ^ 25 ∧
        (c.eccOf sc.val).scrubLeft = 128 ∧ (c.eccOf sc.val).scrubRow = s.core.get (Obj.EccSc.SCRUB_POS sc.val) ∧
        (c.eccOf sc.val).behind = (s.core.eccOf sc.val).behind
      else
        c.get (Obj.EccSc.SCRUB_POS sc.val) = s.core.get (Obj.EccSc.SCRUB_POS sc.val) ∧
        (c.eccOf sc.val).behind = (s.core.eccOf sc.val).behind + 1 ∧
        ((s.core.eccOf sc.val).behind = 1 → s.core.admits 40 = true → c.holds Ck.scrub sc.val = true)) ∧
  (∀ (s : State) (sc : ScNo) (k : Candidate) (rest : List Candidate), s.core.hubUp = true →
    (s.core.eccOf sc.val).candidates = k :: rest → (s.core.eccOf sc.val).repair = none → s.core.forceOnly sc.val = false →
    s.core.trainState sc.val = 2 → s.core.scState sc.val < 2 → (s.core.mcOf sc.val).srAt = 0 →
    (s.core.mcOf sc.val).srEntering = false →
    (s.core.unrepairable sc.val k = false → s.core.holds Ck.repair sc.val = true → AnswersCore (.repair sc true) s fun c =>
      (∃ x, (c.eccOf sc.val).repair = some x ∧ x.k = k ∧ x.upto = (s.core.mcOf sc.val).nextId ∧ x.phase ≤ 1) ∧
      (c.eccOf sc.val).candidates = rest ∧
      ∀ o, o ≠ Obj.Sc.PD_MASK sc.val → o ≠ Obj.Sc.STATE sc.val → c.get o = s.core.get o) ∧
    ∀ res, (res = false ∨ s.core.unrepairable sc.val k = true) → AnswersThen (.repair sc res) s fun c =>
      (c.eccOf sc.val).repair = none ∧ (c.eccOf sc.val).candidates = rest ∧ c.bitOf (Obj.EccSc.FLAGS sc.val) 7 = true ∧
      s.clear.core.Raises (Src.eccRepair sc.val) c) ∧
  (∀ (s : State) (sc : ScNo) (lr : RankNo) (x : RepairRun), s.core.hubUp = true → (s.core.eccOf sc.val).repair = some x →
    x.phase = 6 → x.k.lr = lr.val →
    s.core.markedLane sc.val (x.k.lr / 4) ≠ some x.k.lane →
    (∀ i, x.alerted = false → x.clean = true →
      (List.range 512).find? (fun i => field 63 61 (s.core.get (repairKey i)) == 0) = some i →
      AnswersThen (.repairDone sc lr) s fun c =>
        (c.eccOf sc.val).repair = none ∧
        c.get (repairKey i) = repairEntry (if s.core.get Obj.Ecc.REPAIR_MODE = 2 then 2 else 1) sc.val x.k
          (if s.core.timeValid then s.core.timeNs / 3600000000000 else 0) ∧
        c.get (Obj.EccSc.REPAIRS sc.val) = min (s.core.get (Obj.EccSc.REPAIRS sc.val) + 1) (2 ^ 16 - 1)) ∧
    ((x.alerted = true ∨ x.clean = false) → AnswersThen (.repairDone sc lr) s fun c =>
      (c.eccOf sc.val).repair = none ∧ c.bitOf (Obj.EccSc.FLAGS sc.val) 6 = true ∧
      c.get (Obj.EccSc.REPAIR_FAILS sc.val) = min (s.core.get (Obj.EccSc.REPAIR_FAILS sc.val) + 1) (2 ^ 16 - 1) ∧
      (x.alerted = true → x.k.retried = false → (c.eccOf sc.val).candidates =
        { x.k with retried := true } :: (s.core.eccOf sc.val).candidates) ∧
      s.clear.core.Raises (Src.eccRepair sc.val) c))

/-- Live tracking (R224 to R226, R229, R234 to R236, R424). A field steps by one toward its target, for the next load of the
delay set; a starved lane asks for insertion; the credits refused are asked for again; a DLL's trim moves by one, and not twice
in 10 us, or it loses lock; a recalibration takes T and asks for a capture; a capture begins with PR0, goes on with PR1 and
stores its set, or fails and raises. -/
def Obligations.LaneTracking : Prop :=
  (∀ (s : State) (sc : ScNo) (pr : Fin 2) (k : LaneNo) (f : TapField) (l : FtLane), s.core.hubUp = true →
    l = s.core.laneOf sc.val (10 * pr.val + k.val) → l.applied.num (tapNum f) ≠ l.target.num (tapNum f) →
    s.core.isSet (Obj.Train.READY sc.val) = true → s.core.mayStep l (tapNum f) = true →
    AnswersCore (.tapStep sc pr k f) s fun c =>
      (c.laneOf sc.val (10 * pr.val + k.val)).applied.num (tapNum f) =
        (if l.applied.num (tapNum f) < l.target.num (tapNum f) then l.applied.num (tapNum f) + 1
         else l.applied.num (tapNum f) - 1) ∧
      (c.laneOf sc.val (10 * pr.val + k.val)).loaded = l.loaded ∧
      c.get (Obj.FtSc.TAP_MOVES sc.val) = min (s.core.get (Obj.FtSc.TAP_MOVES sc.val) + 1) (2 ^ 64 - 1) ∧
      ∀ o, o ≠ Obj.FtSc.TAP_MOVES sc.val → c.get o = s.core.get o) ∧
  (∀ (s : State) (sc : ScNo) (pr : Fin 2) (k : LaneNo), s.core.hubUp = true →
    (s.core.laneOf sc.val (10 * pr.val + k.val)).state = 1 → s.core.scState sc.val = 0 →
    s.core.bitOf (Obj.Sc.PD_MASK sc.val) pr.val = false →
    AnswersCore (.trackStarved sc pr k) s fun c =>
      c.bitOf (Obj.FtSc.FLAGS sc.val) 0 = true ∧ c.starved sc.val (10 * pr.val + k.val) = true ∧
      (c.laneOf sc.val (10 * pr.val + k.val)).state =
        (if s.core.inserting sc.val pr.val = true ∨ s.core.admits 150 = true then 3 else 2) ∧
      (s.core.inserting sc.val pr.val = false → s.core.admits 150 = false →
        c.bitOf (Obj.FtSc.FLAGS sc.val) 2 = true ∧
        c.get (Obj.FtSc.INSERT_REFUSALS sc.val) = min (s.core.get (Obj.FtSc.INSERT_REFUSALS sc.val) + 1) (2 ^ 32 - 1))) ∧
  (∀ (s : State) (sc : ScNo) (pr : Fin 2), s.core.hubUp = true → 2 ≤ (s.core.eccOf sc.val).behind →
    s.core.holds Ck.scrub sc.val = false → s.core.admits 40 = true →
    AnswersCore (.creditReask .scrub sc pr) s fun c => c.holds Ck.scrub sc.val = true) ∧
  (∀ (s : State) (sc : ScNo) (pr : Fin 2), s.core.hubUp = true → (s.core.eccOf sc.val).candidates ≠ [] →
    s.core.holds Ck.repair sc.val = false → s.core.admits 300 = true →
    AnswersCore (.creditReask .repair sc pr) s fun c => c.holds Ck.repair sc.val = true) ∧
  (∀ (s : State) (sc : ScNo) (pr : Fin 2), s.core.hubUp = true → (s.core.ftOf sc.val).wanted = true →
    s.core.trainState sc.val = 2 → (s.core.ftOf sc.val).capture = none → s.core.holds Ck.capture sc.val = false →
    s.core.admits 900 = true →
    AnswersCore (.creditReask .capture sc pr) s fun c =>
      c.holds Ck.capture sc.val = true ∧ (c.ftOf sc.val).wanted = false) ∧
  (∀ (s : State) (sc : ScNo) (pr : Fin 2), s.core.hubUp = true → s.core.inserting sc.val pr.val = false →
    (∃ k < 10, s.core.starved sc.val (10 * pr.val + k) = true) → s.core.admits 150 = true →
    AnswersCore (.creditReask .insert sc pr) s fun c =>
      c.inserting sc.val pr.val = true ∧ ∀ k < 10, (c.laneOf sc.val (10 * pr.val + k)).state ≠ 2) ∧
  (∀ (s : State) (h : Half) (b : Bool) (x : Int × Nat), s.core.hubUp = true → x = Tbl.get (fun _ => (0, 0)) s.core.dll h.val →
    AnswersCore (.dllTrimStep h (some b)) s fun c =>
      (Tbl.get (fun _ => (0, 0)) c.dll h.val).1 =
        (if x.2 = 0 ∨ x.2 + 5000 ≤ s.core.tick + 1 then x.1 + (if b then 1 else -1) else x.1) ∧
      ∀ o, c.get o = s.core.get o) ∧
  (∀ (s : State) (h : Half), s.core.hubUp = true →
    AnswersThen (.dllTrimStep h none) s fun c => s.clear.core.Raises (Src.dllUnlock h.val) c) ∧
  (∀ (s : State) (sc : ScNo) (w : World), Admits s w (Obj.FtSc.RECAL sc.val) 1 →
    AnswersOk (.recal sc w) s fun c =>
      c.get (Obj.FtSc.T_CAL sc.val) = s.core.get (Obj.FtSc.T_NOW sc.val) ∧
      c.get (Obj.FtSc.T_CAL_TIME sc.val) = s.core.hubTime ∧
      c.get (Obj.FtSc.RECALS sc.val) = min (s.core.get (Obj.FtSc.RECALS sc.val) + 1) (2 ^ 32 - 1) ∧
      (c.ftOf sc.val).capture = (s.core.ftOf sc.val).capture ∧
      ((c.ftOf sc.val).capture = none → c.holds Ck.capture sc.val = true ∨ (c.ftOf sc.val).wanted = true)) ∧
  (∀ (s : State) (sc : ScNo), s.core.hubUp = true → s.core.holds Ck.capture sc.val = true →
    (s.core.ftOf sc.val).capture = none → s.core.trainState sc.val = 2 → s.core.scState sc.val ≤ 1 →
    (s.core.mcOf sc.val).srAt = 0 → (s.core.mcOf sc.val).srEntering = false →
    AnswersCore (.capture sc) s fun c =>
      (∃ q, (c.ftOf sc.val).capture = some q ∧ q.pr = 0 ∧ q.temp = s.core.tempOf sc.val ∧
        q.upto = (s.core.mcOf sc.val).nextId ∧ q.found = []) ∧
      (∀ k < 10, (c.laneOf sc.val k).ofs = 0 ∧
        ∀ f < 7, (c.laneOf sc.val k).target.num f = (s.core.laneOf sc.val k).applied.num f) ∧
      ∀ o, o ≠ Obj.Sc.PD_MASK sc.val → o ≠ Obj.Sc.STATE sc.val → c.get o = s.core.get o) ∧
  (∀ (s : State) (sc : ScNo) (pr : Fin 2) (x : WriteSweep) (k : CaptureRun), s.core.hubUp = true → x.wf = true →
    (s.core.ftOf sc.val).capture = some k → k.pr = pr.val → s.core.sweepClear sc.val k = true →
    (s.core.mcOf sc.val).stopped = false →
    ((x.repeated = true ∨ ∃ i < 10, s.core.sweepLane sc.val (10 * pr.val + i) (nth x.runs i none) = none) →
      AnswersAll (.writeSweepDone sc pr x) s fun u =>
        (u.core.ftOf sc.val).capture = none ∧ u.core.bitOf (Obj.FtSc.FLAGS sc.val) 5 = true ∧
        u.core.get (Obj.FtSc.CAPTURE_FAILS sc.val) = min (s.core.get (Obj.FtSc.CAPTURE_FAILS sc.val) + 1) (2 ^ 32 - 1) ∧
        s.clear.core.Raises (Src.ftTrack sc.val) u.core) ∧
    (x.repeated = false → (∀ i < 10, s.core.sweepLane sc.val (10 * pr.val + i) (nth x.runs i none) ≠ none) → pr = 0 →
      AnswersAll (.writeSweepDone sc pr x) s fun u =>
        (∃ q, (u.core.ftOf sc.val).capture = some q ∧ q.pr = 1 ∧ q.temp = k.temp) ∧
        (∀ i < 10, ∀ y, s.core.sweepLane sc.val i (nth x.runs i none) = some y →
          (u.core.laneOf sc.val i).target.num 8 = y.1) ∧
        ∀ o, o ≠ Obj.Sc.PD_MASK sc.val → o ≠ Obj.Sc.STATE sc.val → u.core.get o = s.core.get o) ∧
    (x.repeated = false → (∀ i < 10, s.core.sweepLane sc.val (10 * pr.val + i) (nth x.runs i none) ≠ none) → pr = 1 →
      AnswersAll (.writeSweepDone sc pr x) s fun u =>
        (u.core.ftOf sc.val).capture = none ∧ u.core.get (Obj.FtSc.T_CAL sc.val) = ofSigned 32 k.temp ∧
        u.core.get (Obj.FtSc.CAPTURES sc.val) = min (s.core.get (Obj.FtSc.CAPTURES sc.val) + 1) (2 ^ 32 - 1) ∧
        (let q := Tbl.get (fun _ => CalSet.none) (u.core.ftOf sc.val).sets (bandOf k.temp)
         q.source = 1 ∧ q.temp = k.temp ∧ q.speed = s.core.speedNow) ∧
        (u.core.ledgerOf (halfOf sc.val)).dirty = true ∧ ∀ i < 20, (u.core.laneOf sc.val i).state ≠ 4))

/-- Monitors (R230, R231, R234). One calibration window at a time; its end keeps the trims, or tries again, or refuses the
channel at the third try. A reading is published with the next generation, its REFUSED and STALE bits by the age of the
channel's trim, and one of a shoreline sensor that is not STALE is T of its four subchannels; none is published while the
channel's window runs. An aged reading turns STALE. -/
def Obligations.Monitors : Prop :=
  (∀ (s : State) (ch : ChannelNo), s.core.seqUp = true → (∀ i < 25, (s.core.monOf i).window = false) →
    AnswersCore (.monCal ch) s fun c => (c.monOf ch.val).window = true ∧ ∀ k, c.get k = s.core.get k) ∧
  (∀ (s : State) (ch : ChannelNo), s.core.seqUp = true → (∃ i < 25, (s.core.monOf i).window = true) →
    exec (.monCal ch) s = .next s.clear) ∧
  (∀ (s : State) (ch : ChannelNo) (mv : Nat) (off gain : Int), s.core.seqUp = true → (s.core.monOf ch.val).window = true →
    mv ≤ s.core.get Obj.Mon.RIPPLE_LIMIT_MV →
    AnswersCore (.monCalDone ch mv off gain) s fun c =>
      (c.monOf ch.val).window = false ∧ (c.monOf ch.val).offset = off ∧ (c.monOf ch.val).gain = gain ∧
      (c.monOf ch.val).attempts = 0 ∧ (c.monOf ch.val).trimAt = s.core.tick ∧
      c.bitOf Obj.Mon.REFUSED_MASK ch.val = false ∧ ∀ k, k ≠ Obj.Mon.REFUSED_MASK → c.get k = s.core.get k) ∧
  (∀ (s : State) (ch : ChannelNo) (mv : Nat) (off gain : Int), s.core.seqUp = true → (s.core.monOf ch.val).window = true →
    s.core.get Obj.Mon.RIPPLE_LIMIT_MV < mv →
    AnswersCore (.monCalDone ch mv off gain) s fun c =>
      (c.monOf ch.val).window = false ∧ (c.monOf ch.val).offset = (s.core.monOf ch.val).offset ∧
      (c.monOf ch.val).gain = (s.core.monOf ch.val).gain ∧
      (if (s.core.monOf ch.val).attempts = 2 then
        (c.monOf ch.val).attempts = 0 ∧ c.bitOf Obj.Mon.REFUSED_MASK ch.val = true ∧ c.bitOf Obj.Mon.FLAGS 0 = true ∧
          c.get Obj.Mon.CAL_REFUSALS = min (s.core.get Obj.Mon.CAL_REFUSALS + 1) (2 ^ 32 - 1)
       else (c.monOf ch.val).attempts = (s.core.monOf ch.val).attempts + 1 ∧ ∀ k, c.get k = s.core.get k)) ∧
  (∀ (s : State) (ch : ChannelNo) (v : Int) (stale : Bool), s.core.seqUp = true → (s.core.monOf ch.val).window = false →
    stale = (s.core.monRefused ch.val &&
      decide (s.core.get Obj.Mon.MON_TRIM_MAX_AGE_S * 500000000 < s.core.tick - (s.core.monOf ch.val).trimAt)) →
    AnswersThen (.monReading ch v) s fun c =>
      c.get (monKey ch.val) = (satSigned 32 v) <<< 96 + (s.core.timeNs % 2 ^ 64) <<< 32 +
        (nextGen (s.core.monGen ch.val)) <<< 16 + 4 * ofBool s.core.timeValid + 2 * ofBool (s.core.monRefused ch.val) +
        ofBool stale ∧
      (c.monOf ch.val).readAt = s.core.tick ∧
      (ch.val ≤ 7 → ∀ i < 4, if stale = true then c.bitOf (Obj.FtSc.FLAGS (4 * ch.val + i)) 4 = true
        else c.get (Obj.FtSc.T_NOW (4 * ch.val + i)) = ofSigned 32 v)) ∧
  (∀ (s : State) (ch : ChannelNo) (v : Int), s.core.seqUp = true → (s.core.monOf ch.val).window = true →
    exec (.monReading ch v) s = .next s.clear) ∧
  (∀ (s : State) (ch : ChannelNo), s.core.seqUp = true → s.core.monGen ch.val ≠ 0 →
    AnswersThen (.monitorReadingStale ch) s fun c =>
      c.monStale ch.val = true ∧ c.monGen ch.val = s.core.monGen ch.val ∧
      (ch.val ≤ 7 → ∀ i < 4, c.bitOf (Obj.FtSc.FLAGS (4 * ch.val + i)) 4 = true))

/-- The ledger (R237 to R240, R242). A commit erases the slot that does not govern, which is invalid from then on, unless
COMMIT_MIN_S keeps it back or SEQ is exhausted. Its steps follow one another: the content is taken as the record stands,
programmed but for SEQ, read back, and sealed with SEQ; a bad read-back starts the commit over once and then fails it. A sealed
slot that is valid with a higher SEQ governs. A forerunner record is stored whatever it holds, and a bad one is flagged. -/
def Obligations.LedgerCommits : Prop :=
  (∀ (s : State) (r : LedgerRec) (l : LedgerState), s.core.seq.aoUp = true → l = s.core.ledgerOf (ledgerNum r) → l.run = none →
    (s.core.commitMay (ledgerNum r) = true → l.topSeq + 1 ≠ 0xFFFFFFFF → AnswersCore (.ledgerCommit r) s fun c =>
      c.ledgerOf (ledgerNum r) =
        { l.setSlot l.target LedgerSlot.init with
          run := some { slot := l.target, step := 2, again := false, content := LedgerSlot.init }
          last := some s.core.tick } ∧
      (if l.target = 0 then (c.ledgerOf (ledgerNum r)).a else (c.ledgerOf (ledgerNum r)).b).valid = false ∧
      ∀ k, k ≠ Obj.Cal.SLOT_SEQ → k ≠ Obj.Cal.SLOT_VALID → c.get k = s.core.get k) ∧
    (s.core.commitMay (ledgerNum r) = false → AnswersCore (.ledgerCommit r) s fun c =>
      c.ledgerOf (ledgerNum r) = { l with dirty := true } ∧ ∀ k, c.get k = s.core.get k) ∧
    (s.core.commitMay (ledgerNum r) = true → l.topSeq + 1 = 0xFFFFFFFF → AnswersThen (.ledgerCommit r) s fun c =>
      c.ledgerOf (ledgerNum r) = l ∧ s.clear.core.Raises Src.ledgerCommit c)) ∧
  (∀ (s : State) (h : Half), s.core.seq.aoUp = true → (s.core.ledgerOf h.val).run = none →
    (s.core.ledgerOf h.val).topSeq + 1 ≠ 0xFFFFFFFF → s.core.commitMay h.val = true →
    if (s.core.ledgerOf h.val).dirty = true then
      AnswersCore (.calCommitDue h) s fun c =>
        (c.ledgerOf h.val).run.isSome = true ∧
        ∀ k, k ≠ Obj.Cal.SLOT_SEQ → k ≠ Obj.Cal.SLOT_VALID → c.get k = s.core.get k
    else exec (.calCommitDue h) s = .next s.clear) ∧
  (∀ (s : State) (r : LedgerRec) (flaw : List (Nat × Byte)) (l : LedgerState) (x : LedgerCommit), s.core.seq.aoUp = true →
    l = s.core.ledgerOf (ledgerNum r) → l.run = some x →
    (x.step = 2 → AnswersCore (.ledgerStepDone r flaw) s fun c =>
      c.ledgerOf (ledgerNum r) = { l with
        dirty := false
        run := some { x with step := 3, content := s.core.ledgerContent (ledgerNum r) (l.topSeq + 1) } } ∧
      ∀ k, c.get k = s.core.get k) ∧
    (x.step = 3 → AnswersCore (.ledgerStepDone r flaw) s fun c =>
      c.ledgerOf (ledgerNum r) = { l.setSlot x.slot { x.content with seq := 0xFFFFFFFF, flaw := flaw } with
        run := some { x with step := 4 } } ∧
      ∀ k, c.get k = s.core.get k) ∧
    (x.step = 4 → (if x.slot = 0 then l.a else l.b).clean = true → AnswersCore (.ledgerStepDone r flaw) s fun c =>
      c.ledgerOf (ledgerNum r) = { l with run := some { x with step := 5 } } ∧ ∀ k, c.get k = s.core.get k) ∧
    (x.step = 4 → (if x.slot = 0 then l.a else l.b).clean = false → x.again = false →
      AnswersCore (.ledgerStepDone r flaw) s fun c =>
        c.ledgerOf (ledgerNum r) = { l.setSlot x.slot LedgerSlot.init with run := some { x with step := 2, again := true } } ∧
        ∀ k, k ≠ Obj.Cal.SLOT_SEQ → k ≠ Obj.Cal.SLOT_VALID → c.get k = s.core.get k) ∧
    (x.step = 4 → (if x.slot = 0 then l.a else l.b).clean = false → x.again = true →
      (r = .objects → s.core.chainFails = 0 ∨ s.core.get Obj.Sec.CHAIN_RESERVE ≤ s.core.reserveStored) →
      AnswersThen (.ledgerStepDone r flaw) s fun c =>
        c.ledgerOf (ledgerNum r) = { l with run := none, dirty := true } ∧ c.bitOf Obj.Cal.FLAGS 1 = true ∧
        c.get Obj.Cal.COMMIT_FAILS = min (s.core.get Obj.Cal.COMMIT_FAILS + 1) (2 ^ 32 - 1) ∧
        s.clear.core.Raises Src.ledgerCommit c) ∧
    (x.step = 5 → s.core.seq.orderly = false → AnswersCore (.ledgerStepDone r flaw) s fun c =>
      let y : LedgerSlot := { x.content with flaw := flaw }
      c.ledgerOf (ledgerNum r) = { l.setSlot x.slot y with run := none } ∧
      (y.valid = true → l.topSeq < y.seqHeld →
        (c.ledgerOf (ledgerNum r)).governs = some (if x.slot = 0 then 0 else 1, y)) ∧
      c.get Obj.Cal.COMMITS = min (s.core.get Obj.Cal.COMMITS + 1) (2 ^ 32 - 1) ∧
      c.get Obj.Cal.LAST_COMMIT = s.core.hubTime ∧
      ∀ k, k ≠ Obj.Cal.COMMITS → k ≠ Obj.Cal.LAST_COMMIT → k ≠ Obj.Cal.SLOT_SEQ → k ≠ Obj.Cal.SLOT_VALID →
        c.get k = s.core.get k)) ∧
  (∀ (s : State) (h : Half) (w : World) (v : Nat), Admits s w (forerunnerKey h.val) v →
    AnswersOk (.forerunnerWrite h w (toBytes (Sys2Proof.Machine.sizeOf (forerunnerKey h.val)) v)) s fun c =>
      c.get (forerunnerKey h.val) = v ∧ (forerunnerOk v = false → c.bitOf Obj.Cal.FLAGS 2 = true) ∧
      ∀ k, k ≠ forerunnerKey h.val → k ≠ Obj.Cal.FLAGS → c.get k = s.core.get k)

/-- Fault events (R303, R305, R308, R310, R314 to R316, R318, R322 to R328). A condition of an idle source is one event, which
is counted, logged under the next EVENT_SEQ, captured when it is the first at the threshold, and acted on; a pair that reads
FAULT makes none; an open quiet window withholds it; while the collector is not running it is held, and under an injection
latched. A pair that reads INVALID twice is an event with the WIRE mark. A condition that ends leaves ACTIVE clear. -/
def Obligations.FaultEvents : Prop :=
  (∀ (s : State) (src : SourceNo) (x : FaultCtx) (a r : Nat), s.core.reports src.val = true → (sourceInfo? src.val).isSome →
    s.core.fc.running = true → s.core.injected src.val = false → s.core.pairOf src.val = 0 →
    a = s.core.actionOf src.val Marks.none → s.core.quiet src.val a = false →
    r = eventRecord (s.core.fc.seq + 1) src.val (s.core.eventSev src.val) (ofBool s.core.programmed) a Marks.none x 0
      (sourceInfo src.val).reaction s.core.timeValid s.core.timeNs →
    AnswersThen (.faultEvent src x) s fun c =>
      c.get Obj.Fc.EVENTS = min (s.core.get Obj.Fc.EVENTS + 1) (2 ^ 64 - 1) ∧
      c.get (Obj.Source.COUNT src.val) = min (s.core.get (Obj.Source.COUNT src.val) + 1) (2 ^ 32 - 1) ∧
      c.get (Obj.Source.LAST_TIME src.val) = s.core.hubTime ∧
      c.bitOf (Obj.Source.STATUS src.val) 0 = true ∧ c.bitOf (Obj.Source.STATUS src.val) 4 = true ∧ c.pairOf src.val = 1 ∧
      (src.val = Src.msCacheUe → c.bitOf Obj.Millstone.FLAGS 1 = true) ∧
      (a = 0 → c.fc.seq = s.core.fc.seq) ∧
      (1 ≤ a → c.fc.seq = s.core.fc.seq + 1 ∧ c.get Obj.Fc.LOG_HEAD = s.core.fc.seq + 1 ∧
        c.get (logKey (s.core.fc.seq + 1)) = r ∧
        (s.core.errThreshold ≤ s.core.eventSev src.val → s.core.get Obj.Fc.FIRST_ERROR = 0 → c.get Obj.Fc.FIRST_ERROR = r)) ∧
      (2 ≤ a → Out.interrupt ∈ c.out ∧ Req.notify (s.core.fc.seq + 1) ∈ c.req) ∧
      (3 ≤ a → (sourceInfo src.val).reaction = 4 → Req.scOffline (sourceIndex src.val) src.val ∈ c.req) ∧
      (3 ≤ a → (sourceInfo src.val).reaction = 5 → Req.halfOffline (sourceIndex src.val) src.val ∈ c.req) ∧
      (a = 4 → Req.safe ∈ c.req) ∧
      (a = 5 → Req.lockout ∈ c.req ∧ c.get Obj.Fc.LOCKOUT_SOURCE = src.val ∧ c.get Obj.Fc.LAST_LOCKOUT = r)) ∧
  (∀ (s : State) (src : SourceNo) (x : FaultCtx), s.core.reports src.val = true → (sourceInfo? src.val).isSome →
    s.core.fc.running = true → s.core.injected src.val = false → s.core.pairOf src.val = 0 →
    s.core.quiet src.val (s.core.actionOf src.val Marks.none) = true →
    AnswersCore (.faultEvent src x) s fun c =>
      c.fc.seq = s.core.fc.seq ∧ c.pairOf src.val = 1 ∧ c.bitOf (Obj.Source.STATUS src.val) 4 = true ∧
      c.get (Obj.Source.SUPPRESSED src.val) = min (s.core.get (Obj.Source.SUPPRESSED src.val) + 1) (2 ^ 32 - 1) ∧
      c.get Obj.Fc.SUPPRESSED = min (s.core.get Obj.Fc.SUPPRESSED + 1) (2 ^ 64 - 1) ∧
      ∀ k, k ≠ Obj.Source.STATUS src.val → k ≠ Obj.Source.SUPPRESSED src.val → k ≠ Obj.Fc.SUPPRESSED →
        k ≠ Obj.Millstone.FLAGS → k ≠ Obj.Millstone.CACHE_CORRECTED → c.get k = s.core.get k) ∧
  (∀ (s : State) (src : SourceNo) (x : FaultCtx), s.core.reports src.val = true → (sourceInfo? src.val).isSome →
    s.core.fc.running = true → s.core.injected src.val = false → s.core.pairOf src.val ≠ 0 →
    src.val ≠ Src.mpUeElastic → src.val ≠ Src.msCacheUe → src.val ≠ Src.mpCe →
    exec (.faultEvent src x) s = .next s.clear) ∧
  (∀ (s : State) (src : SourceNo) (x : FaultCtx), s.core.reports src.val = true → (sourceInfo? src.val).isSome →
    s.core.fc.running = false → s.core.injected src.val = false →
    AnswersCore (.faultEvent src x) s fun c =>
      c.fc.held = s.core.fc.held ++ [(src.val, x)] ∧ c.pairOf src.val = 1 ∧ c.fc.seq = s.core.fc.seq ∧
      ∀ k, k ≠ Obj.Millstone.FLAGS → k ≠ Obj.Millstone.CACHE_CORRECTED → c.get k = s.core.get k) ∧
  (∀ (s : State) (src : SourceNo) (x : FaultCtx), s.core.reports src.val = true → (sourceInfo? src.val).isSome →
    s.core.fc.running = true → s.core.injected src.val = true → s.core.fc.injecting.num src.val = 0 →
    (∀ e ∈ s.core.fc.latched, e.1 ≠ src.val) →
    AnswersCore (.faultEvent src x) s fun c =>
      c.fc.latched = s.core.fc.latched ++ [(src.val, x)] ∧ c.fc.injecting.num src.val = 1 ∧ c.fc.seq = s.core.fc.seq ∧
      ∀ k, k ≠ Obj.Millstone.FLAGS → k ≠ Obj.Millstone.CACHE_CORRECTED → c.get k = s.core.get k) ∧
  (∀ (s : State) (src : SourceNo), s.core.reports src.val = true → (sourceInfo? src.val).isSome →
    s.core.fc.running = true → s.core.injected src.val = false → s.core.pairOf src.val ≠ 2 →
    s.core.quiet src.val (s.core.actionOf src.val { Marks.none with wire := true }) = false →
    AnswersThen (.wireFault src) s fun c =>
      c.pairOf src.val = 2 ∧ c.bitOf (Obj.Source.STATUS src.val) 0 = true ∧ c.bitOf (Obj.Source.STATUS src.val) 3 = true ∧
      c.bitOf (Obj.Source.STATUS src.val) 4 = true ∧ c.bitOf Obj.Fc.FLAGS 4 = true ∧
      c.get (Obj.Source.COUNT src.val) = min (s.core.get (Obj.Source.COUNT src.val) + 1) (2 ^ 32 - 1) ∧
      c.get Obj.Fc.WIRE_FAULTS = min (s.core.get Obj.Fc.WIRE_FAULTS + 1) (2 ^ 32 - 1)) ∧
  (∀ (s : State) (src : SourceNo), s.core.injected src.val = false → s.core.pairOf src.val ≠ 0 →
    AnswersCore (.sourceIdle src) s fun c =>
      c.pairOf src.val = 0 ∧ c.bitOf (Obj.Source.STATUS src.val) 4 = false ∧
      (∀ i, i ≠ 4 → c.bitOf (Obj.Source.STATUS src.val) i = s.core.bitOf (Obj.Source.STATUS src.val) i) ∧
      ∀ k, k ≠ Obj.Source.STATUS src.val → c.get k = s.core.get k)

/-- Injection, quiet windows and the collector's own checks (R316, R317, R320 to R322, R329). FORCE drives a source's pair and
is marked INJECTED, without SAFE or LOCKOUT where INJ_REACT is 0; it ends with RETRY while INJ_ENABLE is 0 or an injection runs.
The end of an injection gives the pair back and presents the condition it hid with the REAL mark. A window that closes writes
its count into the record that opened it, and a condition that it withheld and that still stands is an event with the LATE mark.
A wrong pin is an event. A bad configuration word means FALLBACK and SAFE. A receiver's test is noted, and a failed one is an
event. -/
def Obligations.CollectorChecks : Prop :=
  (∀ (s : State) (src : SourceNo) (w : World), Admits s w (Obj.Source.FORCE src.val) 1 → s.core.isSet Obj.Fc.INJ_ENABLE = true →
    s.core.injected src.val = false → s.core.pairOf src.val = 0 → s.core.fc.running = true →
    s.core.quiet src.val (s.core.actionOf src.val { Marks.none with injected := true }) = false →
    AnswersOk (.faultInject src w) s fun c =>
      c.injected src.val = true ∧ c.pairOf src.val = 1 ∧ c.bitOf (Obj.Source.STATUS src.val) 1 = true ∧
      c.get Obj.Fc.INJECTIONS = min (s.core.get Obj.Fc.INJECTIONS + 1) (2 ^ 32 - 1) ∧
      (s.core.get Obj.Fc.INJ_REACT = 0 → Req.safe ∉ c.req ∧ Req.lockout ∉ c.req)) ∧
  (∀ (s : State) (src : SourceNo) (w : World), Admits s w (Obj.Source.FORCE src.val) 1 →
    (s.core.isSet Obj.Fc.INJ_ENABLE = false ∨ s.core.injected src.val = true) →
    AnswersThen (.faultInject src w) s fun c => c.out = [.status .retry] ∧ ∀ k, c.get k = s.core.get k) ∧
  (∀ (s : State) (src : SourceNo), s.core.seqUp = true → s.core.injected src.val = true →
    (s.core.fc.latched.filter fun e => e.1 == src.val) = [] →
    AnswersCore (.injectionEnd src) s fun c =>
      c.injected src.val = false ∧ c.pairOf src.val = s.core.fc.injecting.num src.val ∧
      c.bitOf (Obj.Source.STATUS src.val) 4 = decide (s.core.fc.injecting.num src.val ≠ 0) ∧
      ∀ k, k ≠ Obj.Source.STATUS src.val → c.get k = s.core.get k) ∧
  (∀ (s : State) (src : SourceNo) (x : FaultCtx), s.core.seqUp = true → s.core.injected src.val = true →
    (s.core.fc.latched.filter fun e => e.1 == src.val) = [(src.val, x)] →
    s.core.quiet src.val (s.core.actionOf src.val Marks.none) = false →
    AnswersThen (.injectionEnd src) s fun c =>
      c.injected src.val = false ∧ c.pairOf src.val = s.core.fc.injecting.num src.val ∧
      c.bitOf (Obj.Source.STATUS src.val) 2 = true ∧ c.bitOf Obj.Fc.FLAGS 3 = true ∧
      c.get (Obj.Source.COUNT src.val) = min (s.core.get (Obj.Source.COUNT src.val) + 1) (2 ^ 32 - 1)) ∧
  (∀ (s : State) (id : Nat) (q : QuietWindow), s.core.seqUp = true →
    (s.core.fc.windows.find? fun w => w.id == id) = some q → (∀ e ∈ q.masked, s.core.pairOf e.1 = 0) → q.opener ≠ 0 →
    field 255 224 (s.core.get (logKey q.opener)) = q.opener % 2 ^ 32 →
    AnswersCore (.quietWindowClose id) s fun c =>
      c.fc.windows = s.core.fc.windows.filter (fun v => v.id != id) ∧
      c.get (logKey q.opener) = setField 143 128 (s.core.get (logKey q.opener)) (min q.suppressed (2 ^ 16 - 1)) ∧
      (field 255 224 (s.core.get Obj.Fc.FIRST_ERROR) = q.opener % 2 ^ 32 → c.get Obj.Fc.FIRST_ERROR =
        setField 143 128 (s.core.get Obj.Fc.FIRST_ERROR) (min q.suppressed (2 ^ 16 - 1))) ∧
      ∀ k, k ≠ logKey q.opener → k ≠ Obj.Fc.FIRST_ERROR → c.get k = s.core.get k) ∧
  (∀ (s : State) (id src : Nat) (q : QuietWindow) (x : FaultCtx), s.core.seqUp = true →
    (s.core.fc.windows.find? fun w => w.id == id) = some q → q.masked = [(src, x)] → s.core.pairOf src ≠ 0 →
    (∀ w ∈ s.core.fc.windows, w.id ≠ id → w.scope.contains src = false) →
    AnswersThen (.quietWindowClose id) s fun c =>
      c.get (Obj.Source.COUNT src) = min (s.core.get (Obj.Source.COUNT src) + 1) (2 ^ 32 - 1) ∧
      (1 ≤ s.core.actionOf src Marks.none → c.get (logKey (s.core.fc.seq + 1)) =
        eventRecord (s.core.fc.seq + 1) src (s.core.eventSev src) (ofBool s.core.programmed) (s.core.actionOf src Marks.none)
          { Marks.none with late := true } x 0 (sourceInfo src).reaction s.core.timeValid s.core.timeNs)) ∧
  (∀ (s : State), s.core.seqUp = true →
    AnswersThen .pinReadbackFault s fun c => s.clear.core.Raises Src.fcPin c) ∧
  (∀ (s : State), s.core.seqUp = true → exec (.configScan none) s = .next s.clear) ∧
  (∀ (s : State) (word : Nat), s.core.seqUp = true → s.core.fc.running = true →
    AnswersThen (.configScan (some word)) s fun c =>
      c.fc.fallback = true ∧ c.programmed = false ∧ c.bitOf Obj.Fc.FLAGS 5 = true ∧ Req.safe ∈ c.req ∧
      s.clear.core.Raises Src.fcReg c) ∧
  (∀ (s : State) (src : SourceNo), s.core.seqUp = true → s.core.fc.running = true →
    AnswersCore (.receiverSelftest src true) s fun c => c.fc.tested = src.val ∧ ∀ k, c.get k = s.core.get k) ∧
  (∀ (s : State) (src : SourceNo), s.core.seqUp = true → s.core.fc.running = true →
    AnswersThen (.receiverSelftest src false) s fun c =>
      c.fc.tested = src.val ∧ s.clear.core.Raises Src.fcSelftest c)

/-- Status flags (R10, R308, R323, R332). A write of 1 clears a flag, and a set in the same cycle wins, which is counted, also
where the write is refused. PENDING of a source does not clear while its condition stands, nor where it is set in the same
cycle, which is counted once; where it clears, PEND_SEV falls with it. FE_REARM empties the first-error record; CLEAR_ALL clears
every PENDING whose condition does not stand. -/
def Obligations.StatusFlags : Prop :=
  (∀ (s : State) (w : World) (idx : BitVec 16) (sub : BitVec 8) (v set : BitVec 32) (n : Nat),
    Admits s w (idx.toNat * 256 + sub.toNat) v.toNat → clearableOf idx.toNat sub.toNat = some n →
    isSourceStatus (idx.toNat * 256 + sub.toNat) = false → duringClear idx.toNat ≠ some (idx.toNat * 256 + sub.toNat) →
    AnswersOk (.statusFlagClear w idx sub v set) s fun c =>
      (∀ i, c.bitOf (idx.toNat * 256 + sub.toNat) i =
        ((set.toNat &&& n).testBit i ||
          (s.core.bitOf (idx.toNat * 256 + sub.toNat) i && !(v.toNat &&& n).testBit i))) ∧
      (∀ q, duringClear idx.toNat = some q →
        c.get q = min (s.core.get q + popcount 32 (set.toNat &&& v.toNat &&& n)) (2 ^ 32 - 1)) ∧
      ∀ k, k ≠ idx.toNat * 256 + sub.toNat → duringClear idx.toNat ≠ some k → c.get k = s.core.get k) ∧
  (∀ (s : State) (w : World) (idx : BitVec 16) (sub : BitVec 8) (v set : BitVec 32) (n k : Nat) (r : Status),
    k = idx.toNat * 256 + sub.toNat → s.core.loaServed = true → v.toNat < 2 ^ widthOf k → clearableOf idx.toNat sub.toNat = some n →
    n ≠ 0 → k ≠ Obj.Fc.PIN_STATE →
    s.core.writeRefusal w (k / 256) (k % 256) (toBytes (Sys2Proof.Machine.sizeOf k) v.toNat) = some r → r ≠ .ok →
    AnswersThen (.statusFlagClear w idx sub v set) s fun c =>
      Out.status r ∈ c.out ∧ (∀ i, (set.toNat &&& n).testBit i = true → c.bitOf k i = true) ∧
      (r ≠ .deniedWorld → c.get k = s.core.get k ||| (set.toNat &&& n) ∧
        ∀ j, j ≠ k → j ≠ Obj.Fc.PIN_STATE → c.get j = s.core.get j)) ∧
  (∀ (s : State) (w : World) (src : SourceNo), Admits s w (Obj.Source.STATUS src.val) 1 →
    AnswersOk (.statusFlagClear w (BitVec.ofNat 16 (0x4900 + src.val)) 2 1 0) s fun c =>
      c.bitOf (Obj.Source.STATUS src.val) 0 =
        (s.core.bitOf (Obj.Source.STATUS src.val) 0 && s.core.bitOf (Obj.Source.STATUS src.val) 4) ∧
      (s.core.bitOf (Obj.Source.STATUS src.val) 4 = false → c.get (Obj.Source.STATUS src.val) < 32) ∧
      (∀ i ∈ [1, 2, 3, 4], c.bitOf (Obj.Source.STATUS src.val) i = s.core.bitOf (Obj.Source.STATUS src.val) i) ∧
      c.get Obj.Fc.SET_DURING_CLEAR = min (s.core.get Obj.Fc.SET_DURING_CLEAR +
        (if s.core.bitOf (Obj.Source.STATUS src.val) 4 = true then 1 else 0)) (2 ^ 32 - 1)) ∧
  (∀ (s : State) (w : World) (src : SourceNo), Admits s w (Obj.Source.STATUS src.val) 1 →
    AnswersOk (.statusFlagClear w (BitVec.ofNat 16 (0x4900 + src.val)) 2 1 1) s fun c =>
      c.bitOf (Obj.Source.STATUS src.val) 0 = true ∧
      (∀ i, i ≠ 0 → c.bitOf (Obj.Source.STATUS src.val) i = s.core.bitOf (Obj.Source.STATUS src.val) i) ∧
      c.get Obj.Fc.SET_DURING_CLEAR = min (s.core.get Obj.Fc.SET_DURING_CLEAR + 1) (2 ^ 32 - 1)) ∧
  (∀ (s : State) (w : World), Admits s w Obj.Fc.FE_REARM 1 →
    AnswersOk (.feRearm w) s fun c =>
      c.get Obj.Fc.FIRST_ERROR = 0 ∧ c.get Obj.Fc.FE_LATER = 0 ∧
      ∀ k, k ≠ Obj.Fc.FIRST_ERROR → k ≠ Obj.Fc.FE_LATER → c.get k = s.core.get k) ∧
  (∀ (s : State) (w : World), Admits s w Obj.Fc.CLEAR_ALL 1 →
    AnswersOk (.clearAll w) s fun c =>
      (∀ src < 0x300, c.bitOf (Obj.Source.STATUS src) 0 =
        (s.core.bitOf (Obj.Source.STATUS src) 0 && s.core.bitOf (Obj.Source.STATUS src) 4)) ∧
      ∀ k, isSourceStatus k = false → k ≠ Obj.Fc.SET_DURING_CLEAR → k ≠ Obj.Fc.PIN_STATE → c.get k = s.core.get k)

/-- Keys (R339, R340). An import loads a slot that no job uses, counts its generation and stores the wrapped key; a key of zeros
is MALFORMED, and a slot in use answers RETRY. An erase empties the slot, halts the jobs that run with it and raises SEC_KEY. -/
def Obligations.KeySlots : Prop :=
  (∀ (s : State) (k : KeySlotNo) (w : World) (key : BitVec 256), Admits s w (Obj.KeySlot.KEY k.val) key.toNat →
    (key ≠ 0 → s.core.keyJobs k.val = 0 → AnswersOk (.keyImport k w key) s fun c =>
      c.get (Obj.KeySlot.STATE k.val) = 1 ∧ c.get (Obj.KeySlot.KCV k.val) = kcv key.toNat ∧
      c.get (Obj.KeySlot.KEY_GEN k.val) = min (s.core.get (Obj.KeySlot.KEY_GEN k.val) + 1) (2 ^ 32 - 1) ∧
      c.get (Obj.KeySlot.KEY k.val) = wrapKey k.val (c.get (Obj.KeySlot.KEY_GEN k.val)) key.toNat ∧
      ∀ o, o ≠ Obj.KeySlot.STATE k.val → o ≠ Obj.KeySlot.KCV k.val → o ≠ Obj.KeySlot.KEY_GEN k.val →
        o ≠ Obj.KeySlot.KEY k.val → c.get o = s.core.get o) ∧
    (key ≠ 0 → s.core.keyJobs k.val ≠ 0 → AnswersThen (.keyImport k w key) s fun c =>
      c.out = [.status .retry] ∧ ∀ o, c.get o = s.core.get o)) ∧
  (∀ (s : State) (k : KeySlotNo), s.core.loaServed = true → s.core.allRecovery = false →
    AnswersThen (.keyImport k .secureWorld 0) s fun c => c.out = [.status .malformed] ∧ ∀ o, c.get o = s.core.get o) ∧
  (∀ (s : State) (k : KeySlotNo) (w : World), Admits s w (Obj.KeySlot.ERASE k.val) 1 →
    (∀ j < 32, (s.core.jobOf j).cancelling = false) →
    AnswersOk (.keyErase k w) s fun c =>
      c.get (Obj.KeySlot.STATE k.val) = 0 ∧ c.get (Obj.KeySlot.KCV k.val) = 0 ∧ c.get (Obj.KeySlot.KEY k.val) = 0 ∧
      c.get (Obj.KeySlot.KEY_GEN k.val) = s.core.get (Obj.KeySlot.KEY_GEN k.val) ∧
      (∀ j < 32, (s.core.keyJobs k.val).testBit j = true → s.core.get (Obj.Job.STATE j) = 1 →
        c.get (Obj.Job.STATE j) = 2 ∧ c.get (Obj.Job.HALT_CAUSE j) = 4) ∧ s.clear.core.Raises Src.secKey c)

/-- Fuses (R336 to R338). In SERVICE an operation whose conditions hold blows its own cells and no others: an owner key's hash
that does not read yet, a revocation that leaves SECURE_BOOT a good key and boots no revoked image, a floor above the present
one and not above an image to be booted, SECURE_BOOT with a good key, and the JTAG lock. Where they do not hold the answer is
MALFORMED, and outside SERVICE RETRY, and nothing is blown. -/
def Obligations.FuseOps : Prop :=
  (∀ (s : State) (w : World) (arg : BitVec 8) (hash : BitVec 384) (x : HashCopy × HashCopy),
    Admits s w Obj.Fuse.FUSE_PROGRAM (1 * 2 ^ 392 + arg.toNat * 2 ^ 384 + hash.toNat) → s.core.dev = Dv.service →
    x = s.fuses.copies arg.toNat →
    (arg.toNat ≤ 3 → s.fuses.hash? arg.toNat = none → (x.1 = .blank ∨ x.2 = .blank) →
      AnswersAll (.fuseOwnerKey w arg hash) s fun u =>
        Out.status .ok ∈ u.core.out ∧ u.fuses.hash? arg.toNat = some hash.toNat ∧
        (∀ i, i ≠ arg.toNat → u.fuses.copies i = s.fuses.copies i) ∧
        u.fuses = { s.fuses with hashes := u.fuses.hashes } ∧ u.mem = s.mem ∧ u.latch = s.latch ∧
        ∀ k, u.core.get k = s.core.get k) ∧
    (3 < arg.toNat ∨ s.fuses.hash? arg.toNat ≠ none → AnswersThen (.fuseOwnerKey w arg hash) s fun c =>
      c.out = [.status .malformed] ∧ ∀ k, c.get k = s.core.get k)) ∧
  (∀ (s : State) (w : World) (arg : BitVec 8),
    Admits s w Obj.Fuse.FUSE_PROGRAM (2 * 2 ^ 392 + arg.toNat * 2 ^ 384 + 0) → s.core.dev = Dv.service →
    (arg.toNat ≤ 3 → (∀ x ∈ s.core.bootHeads, imgKeyIndex x ≠ arg.toNat) →
      (s.fuses.secureBoot = true → ∃ i < 4, i ≠ arg.toNat ∧ s.fuses.keyGood i = true) →
      AnswersAll (.fuseRevoke w arg) s fun u =>
        Out.status .ok ∈ u.core.out ∧ u.fuses.revoked.testBit arg.toNat = true ∧
        (∀ i, i ≠ arg.toNat → u.fuses.revoked.testBit i = s.fuses.revoked.testBit i) ∧
        u.fuses = { s.fuses with revoke := u.fuses.revoke } ∧ u.mem = s.mem ∧ u.latch = s.latch ∧
        ∀ k, u.core.get k = s.core.get k) ∧
    (3 < arg.toNat ∨ (∃ x ∈ s.core.bootHeads, imgKeyIndex x = arg.toNat) ∨
      s.fuses.secureBoot = true ∧ (∀ i < 4, i ≠ arg.toNat → s.fuses.keyGood i = false) →
      AnswersThen (.fuseRevoke w arg) s fun c => c.out = [.status .malformed] ∧ ∀ k, c.get k = s.core.get k)) ∧
  (∀ (s : State) (w : World) (arg : BitVec 8),
    Admits s w Obj.Fuse.FUSE_PROGRAM (3 * 2 ^ 392 + arg.toNat * 2 ^ 384 + 0) → s.core.dev = Dv.service →
    (s.fuses.svnFloor < arg.toNat → arg.toNat ≤ 63 → (∀ x ∈ s.core.bootHeads, arg.toNat ≤ imgSvn x) →
      AnswersAll (.fuseSvnFloor w arg) s fun u =>
        Out.status .ok ∈ u.core.out ∧ u.fuses.floor.val = s.fuses.floor.val ||| (2 ^ arg.toNat - 1) ∧
        (s.fuses.floor.val = 2 ^ s.fuses.svnFloor - 1 → u.fuses.svnFloor = arg.toNat) ∧
        u.fuses = { s.fuses with floor := u.fuses.floor } ∧ u.mem = s.mem ∧ u.latch = s.latch ∧
        ∀ k, u.core.get k = s.core.get k) ∧
    (arg.toNat ≤ s.fuses.svnFloor ∨ 63 < arg.toNat ∨ (∃ x ∈ s.core.bootHeads, imgSvn x < arg.toNat) →
      AnswersThen (.fuseSvnFloor w arg) s fun c => c.out = [.status .malformed] ∧ ∀ k, c.get k = s.core.get k)) ∧
  (∀ (s : State) (w : World), Admits s w Obj.Fuse.FUSE_PROGRAM (4 * 2 ^ 392 + 0 * 2 ^ 384 + 0) → s.core.dev = Dv.service →
    ((∃ i < 4, s.fuses.keyGood i = true) → AnswersAll (.fuseSecureBoot w) s fun u =>
      Out.status .ok ∈ u.core.out ∧ u.fuses.secureBoot = true ∧ u.fuses = { s.fuses with boot := u.fuses.boot } ∧
      u.mem = s.mem ∧ u.latch = s.latch ∧ ∀ k, u.core.get k = s.core.get k) ∧
    ((∀ i < 4, s.fuses.keyGood i = false) → AnswersThen (.fuseSecureBoot w) s fun c =>
      c.out = [.status .malformed] ∧ ∀ k, c.get k = s.core.get k)) ∧
  (∀ (s : State) (w : World), Admits s w Obj.Fuse.FUSE_PROGRAM (5 * 2 ^ 392 + 0 * 2 ^ 384 + 0) → s.core.dev = Dv.service →
    AnswersAll (.fuseJtagPermLock w) s fun u =>
      Out.status .ok ∈ u.core.out ∧ u.fuses.jtagLock = true ∧ u.fuses = { s.fuses with lock := u.fuses.lock } ∧
      u.mem = s.mem ∧ u.latch = s.latch ∧ ∀ k, u.core.get k = s.core.get k) ∧
  (∀ (s : State) (w : World) (arg : BitVec 8) (hash : BitVec 384), s.core.dev ≠ Dv.service →
    ∀ e ∈ [(Instr.fuseOwnerKey w arg hash, 1 * 2 ^ 392 + arg.toNat * 2 ^ 384 + hash.toNat),
        (.fuseRevoke w arg, 2 * 2 ^ 392 + arg.toNat * 2 ^ 384 + 0), (.fuseSvnFloor w arg, 3 * 2 ^ 392 + arg.toNat * 2 ^ 384 + 0),
        (.fuseSecureBoot w, 4 * 2 ^ 392 + 0 * 2 ^ 384 + 0), (.fuseJtagPermLock w, 5 * 2 ^ 392 + 0 * 2 ^ 384 + 0)],
      Admits s w Obj.Fuse.FUSE_PROGRAM e.2 →
      AnswersCore e.1 s fun c => c.out = [.status .retry] ∧ ∀ k, c.get k = s.core.get k)

/-- Images and boot (R342 to R345). At a start a half boots the image in its BOOT_SLOT when that passes, else the other one,
flagged, and is in RECOVERY when neither does. A half that restarts for an update runs the target on trial once the baton is the
other's. An image is written in order into a slot that nothing runs, and is checked at its close, when a half in RECOVERY boots
one that passes. An activation makes the half restart; CONFIRM ends a trial in its image, and its expiry in the one before, or
in RECOVERY. -/
def Obligations.Images : Prop :=
  (∀ (s : State) (h : Half) (r : StartRun) (a : Nat), s.core.seqUp = true → s.core.start = some r → s.core.dev = Dv.selftest →
    r.origin = 0 → (s.core.halfSt h.val).running = false → s.core.halfState h.val ≠ 1 → s.core.halfState h.val ≠ 3 →
    a = s.core.bootSlot h.val → a ≤ 1 →
    (s.core.imageOk s.fuses a = true → AnswersThen (.supervisorBoot h) s fun c =>
      c.runSlot h.val = a ∧ c.halfState h.val = 0 ∧ (c.halfSt h.val).running = true ∧
      (c.halfSt h.val).svn = imgSvn (s.core.imageHead a)) ∧
    (s.core.imageOk s.fuses a = false → s.core.imageOk s.fuses (1 - a) = true → AnswersThen (.supervisorBoot h) s fun c =>
      c.runSlot h.val = 1 - a ∧ c.halfState h.val = 0 ∧ (c.halfSt h.val).running = true ∧ c.bitOf Obj.Sec.FLAGS 4 = true ∧
      s.clear.core.Raises Src.secBoot c) ∧
    (s.core.imageOk s.fuses a = false → s.core.imageOk s.fuses (1 - a) = false → AnswersThen (.supervisorBoot h) s fun c =>
      c.halfState h.val = 3 ∧ (c.halfSt h.val).running = false ∧ c.bitOf Obj.Sec.FLAGS 3 = true ∧
      s.clear.core.Raises Src.secBoot c)) ∧
  (∀ (s : State) (h : Half) (t : Nat), s.core.seqUp = true → s.core.halfState h.val = 1 → s.core.get Obj.Baton.BATON ≠ h.val →
    t = (s.core.halfSt h.val).target → t ≤ 1 → s.core.imageOk s.fuses t = true →
    AnswersThen (.supervisorBoot h) s fun c =>
      c.runSlot h.val = t ∧ c.halfState h.val = 2 ∧ (c.halfSt h.val).running = true) ∧
  (∀ (s : State) (w : World) (v : BitVec 8), Admits s w Obj.Image.IMG_OPEN v.toNat → v.toNat ≤ 1 → s.core.flash.fit = true →
    s.core.imageOpen = none → (∀ h < 2, s.core.runSlot h ≠ v.toNat ∧ s.core.bootSlot h ≠ v.toNat) →
    AnswersOk (.imgOpen w v) s fun c =>
      c.imageOpen = some v.toNat ∧ c.imageOf v.toNat = [] ∧ c.get Obj.Image.IMG_OFFSET = 0 ∧ c.imgState v.toNat = 1 ∧
      ∀ k, k ≠ Obj.Image.IMG_OFFSET → k ≠ Obj.Image.IMG_STATE → c.get k = s.core.get k) ∧
  (∀ (s : State) (w : World) (bs : List Byte) (slot : Nat), s.core.loaServed = true →
    s.core.writeRefusal w (Obj.Image.IMG_DATA / 256) (Obj.Image.IMG_DATA % 256) bs = none → 0 < bs.length → bs.length ≤ 4096 →
    s.core.flash.fit = true → s.core.imageOpen = some slot → (s.core.imageOf slot).length + bs.length ≤ 2 ^ 24 →
    AnswersOk (.imgData w bs) s fun c =>
      c.imageOf slot = s.core.imageOf slot ++ bs ∧
      c.get Obj.Image.IMG_OFFSET = (s.core.imageOf slot).length + bs.length ∧
      ∀ k, k ≠ Obj.Image.IMG_OFFSET → c.get k = s.core.get k) ∧
  (∀ (s : State) (w : World) (slot : Nat), Admits s w Obj.Image.IMG_CLOSE 1 → s.core.flash.fit = true →
    s.core.imageOpen = some slot → slot ≤ 1 →
    AnswersOk (.imgClose w) s fun c =>
      c.imageOpen = none ∧ c.imageOf slot = s.core.imageOf slot ∧
      c.imgState slot = (if s.core.imageOf slot = [] then 0 else if s.core.imageOk s.fuses slot then 2 else 3) ∧
      (s.core.imageOk s.fuses slot = true → ∀ h < 2, s.core.halfState h = 3 → c.halfState h = 0 ∧ c.runSlot h = slot)) ∧
  (∀ (s : State) (w : World) (v : BitVec 8) (h slot : Nat), Admits s w Obj.Image.ACTIVATE v.toNat → v.toNat &&& 0xEE = 0 →
    h = field 4 4 v.toNat → slot = field 0 0 v.toNat →
    s.core.halfState (1 - h) = 0 → (s.core.inService = true ∨ s.core.dev = Dv.service) → s.core.imgState slot = 2 →
    imgMinPeer (s.core.imageHead slot) ≤ (s.core.halfSt (1 - h)).ilevel →
    (s.core.halfSt (1 - h)).minPeer ≤ imgIlevel (s.core.imageHead slot) →
    AnswersOk (.activate w v) s fun c =>
      c.halfState h = 1 ∧ (c.halfSt h).target = slot ∧ (c.halfSt h).before = s.core.runSlot h ∧
      (s.core.get Obj.Baton.BATON = h → (c.halfSt h).release = true)) ∧
  (∀ (s : State) (w : World) (v : BitVec 8), Admits s w Obj.Image.CONFIRM v.toNat → v.toNat ≤ 1 →
    s.core.halfState v.toNat = 2 →
    AnswersOk (.confirm w v) s fun c =>
      c.halfState v.toNat = 0 ∧ c.bootSlot v.toNat = s.core.runSlot v.toNat ∧
      ∀ k, k ≠ Obj.Image.BOOT_SLOT → k ≠ Obj.Image.HALF_STATE → c.get k = s.core.get k) ∧
  (∀ (s : State) (h : Half), s.core.seqUp = true → s.core.halfState h.val = 2 → (s.core.halfSt h.val).before ≤ 1 →
    AnswersThen (.trialExpiry h) s fun c =>
      c.bitOf Obj.Sec.FLAGS 5 = true ∧
      (if s.core.imageOk s.fuses (s.core.halfSt h.val).before = true then
        c.halfState h.val = 0 ∧ c.runSlot h.val = (s.core.halfSt h.val).before ∧ s.clear.core.Raises Src.secBoot c
       else c.halfState h.val = 3))

/-- JTAG (R336, R354, R355). An instruction the mode lets through is in force; any other is flagged, and BYPASS is in force
instead, and SEC_JTAG is raised. Test-Logic-Reset puts IDCODE and the mode that waits in force. -/
def Obligations.Jtag : Prop :=
  (∀ (s : State) (i : JtagInstr), s.core.seqUp = true → s.core.jtagAdmits s.fuses i = true →
    AnswersCore (.jtagInstruction i) s fun c =>
      c.tap.instr = i ∧ c.tap.mode = s.core.tap.mode ∧ ∀ k, c.get k = s.core.get k) ∧
  (∀ (s : State) (i : JtagInstr), s.core.seqUp = true → s.core.jtagAdmits s.fuses i = false →
    AnswersThen (.jtagInstruction i) s fun c =>
      c.tap.instr = .bypass ∧ c.bitOf Obj.Sec.FLAGS 2 = true ∧ s.clear.core.Raises Src.secJtag c) ∧
  (∀ (s : State) (i : JtagInstr), s.core.jtagAdmits s.fuses i = true ↔
    i = .bypass ∨ i = .idcode ∨ s.core.tapMode s.fuses = 0 ∨
      s.core.tapMode s.fuses = 1 ∧ (i = .samplePreload ∨ i = .extest ∧ s.core.dev = Dv.service)) ∧
  (∀ (s : State), s.core.seqUp = true →
    AnswersCore .jtagTestLogicReset s fun c =>
      c.tap.instr = .idcode ∧ c.tap.mode = s.core.get Obj.Sec.JTAG_MODE ∧ ∀ k, c.get k = s.core.get k)

/-- LOA requests by UDP in an open session of either world (R361 to R363, R368, R370 to R374, R377). READ answers with a segment
of the value and takes the snapshot, which a later segment is read from; a refused READ answers with its status. WRITE keeps a
segment that goes on, and the last one applies the whole value (here: a configuration object of a stream) or answers with the
status that refuses it. DESCRIBE answers with the description, SUBSCRIBE and ECHO do what they name. Each but a WRITE that goes
on discards the segments held. A SEQ already executed gets the held reply again; one below the window is refused. An OBJECT
message that arrives whole by a Headrace port is a message of that port, executed in the same way. -/
def Obligations.Requests : Prop :=
  (∀ (s : State) (addr : Nat) (port : BitVec 16) (bs : List Byte) (m : LoaMsg) (x : Session) (d : Core), m = loaParse bs →
    x = s.core.sessionOf m.session → d = s.counted m.session → Fresh s addr port bs → m.op = 1 →
    (∀ q, m.offset = 0 → d.readRefusal (s.core.worldOf m.session) m.index m.sub = none → q = d.seen s.fuses m.index m.sub →
      AnswersCore (.loaRead (.udp addr port true bs)) s fun c =>
        (let v := (toBytes (Sys2Proof.Machine.sizeOf (256 * m.index + m.sub)) q.v, q.gen, q.ready, q.stale, q.status.code)
         Replied s addr port bs (segmentReply 0 (min m.dlen (if x.secure then 1192 else 1208)) v) c ∧
         (c.sessionOf m.session).snap = some (256 * m.index + m.sub, v)) ∧
        (c.sessionOf m.session).part = none ∧ ∀ k, c.get k = d.get k) ∧
    (∀ v, m.offset ≠ 0 → x.snap = some (256 * m.index + m.sub, v) → m.offset < v.1.length →
      AnswersCore (.loaRead (.udp addr port true bs)) s fun c =>
        Replied s addr port bs (segmentReply m.offset (min m.dlen (if x.secure then 1192 else 1208)) v) c ∧
        (c.sessionOf m.session).snap = x.snap ∧ ∀ k, c.get k = d.get k) ∧
    (∀ e, m.offset = 0 → d.readRefusal (s.core.worldOf m.session) m.index m.sub = some e → e ≠ .deniedWorld →
      AnswersCore (.loaRead (.udp addr port true bs)) s fun c =>
        Replied s addr port bs (Reply.bare e) c ∧ (c.sessionOf m.session).snap = none ∧ ∀ k, c.get k = d.get k)) ∧
  (∀ (s : State) (addr : Nat) (port : BitVec 16) (bs : List Byte) (m : LoaMsg) (x : Session) (d : Core) (sofar all : List Byte),
    x = s.core.sessionOf (loaParse bs).session → m = x.opened (loaParse bs) → Fresh s addr port bs → m.op = 2 →
    d = (if s.core.partGoesOn m.session m = true then s.clear.core.inc64 Obj.Loa.REQUESTS else s.counted m.session) →
    sofar = (if s.core.partGoesOn m.session m = true then (x.part.map fun e => e.2.2).getD [] else []) →
    all = sofar ++ m.body → m.offset = sofar.length → m.total ≤ 4096 →
    (m.more = true → all.length ≤ m.total → AnswersCore (.loaWrite (.udp addr port true bs)) s fun c =>
      Replied s addr port bs (Reply.bare .ok) c ∧
      (c.sessionOf m.session).part = some (256 * m.index + m.sub, m.total, all) ∧ ∀ k, c.get k = d.get k) ∧
    (m.more = false → all.length = m.total → 0x2800 ≤ m.index → m.index < 0x2900 → m.sub ≠ 1 →
      clearableOf m.index m.sub = none → d.writeRefusal (s.core.worldOf m.session) m.index m.sub all = none →
      AnswersCore (.loaWrite (.udp addr port true bs)) s fun c =>
        Replied s addr port bs (Reply.bare .ok) c ∧ (c.sessionOf m.session).part = none ∧
        c.get (256 * m.index + m.sub) = ofBytes all ∧ ∀ k, k ≠ 256 * m.index + m.sub → c.get k = d.get k) ∧
    (∀ e, m.more = false → all.length = m.total → d.writeRefusal (s.core.worldOf m.session) m.index m.sub all = some e →
      e ≠ .deniedWorld → AnswersCore (.loaWrite (.udp addr port true bs)) s fun c =>
        Replied s addr port bs (Reply.bare e) c ∧ (c.sessionOf m.session).part = none ∧ ∀ k, c.get k = d.get k)) ∧
  (∀ (s : State) (addr : Nat) (port : BitVec 16) (bs : List Byte) (m : LoaMsg) (d : Core),
    m = (s.core.sessionOf (loaParse bs).session).opened (loaParse bs) → d = s.counted m.session → Fresh s addr port bs →
    (∀ r : Row, m.op = 3 → d.describeRefusal (s.core.worldOf m.session) m.index m.sub = none → lookup m.index m.sub = some r →
      AnswersCore (.loaDescribe (.udp addr port true bs)) s fun c =>
        Replied s addr port bs (Reply.whole r.describe) c ∧ (c.sessionOf m.session).part = none ∧
        ∀ k, c.get k = d.get k) ∧
    (∀ b : Byte, m.op = 7 → m.body = [b] → b.toNat ≤ 1 → AnswersCore (.loaSubscribe (.udp addr port true bs)) s fun c =>
      Replied s addr port bs (Reply.bare .ok) c ∧ (c.sessionOf m.session).subscribed = decide (b = 1) ∧
      (c.sessionOf m.session).part = none ∧ ∀ k, c.get k = d.get k) ∧
    (m.op = 9 → m.body.length ≤ 64 → AnswersCore (.loaEcho (.udp addr port true bs)) s fun c =>
      Replied s addr port bs (Reply.whole m.body) c ∧ (c.sessionOf m.session).part = none ∧ ∀ k, c.get k = d.get k)) ∧
  (∀ (s : State) (addr : Nat) (port : BitVec 16) (bs : List Byte) (m : LoaMsg) (x : Session), m = loaParse bs →
    x = s.core.sessionOf m.session → Asked s addr port bs → (m.tagged = true → x.secure = true) → m.op ≠ 5 →
    (∀ held, seqRefused x.top m.seq = false → x.held m.seq = some held →
      AnswersCore (.loaWrite (.udp addr port true bs)) s fun c =>
        c.out = [.udp addr port.toNat held] ∧
        c.get Obj.Loa.DUPLICATES = min (s.core.get Obj.Loa.DUPLICATES + 1) (2 ^ 32 - 1) ∧
        c.sessions = s.core.sessions ∧ ∀ k, k ≠ Obj.Loa.DUPLICATES → c.get k = s.core.get k) ∧
    (seqRefused x.top m.seq = true → AnswersCore (.loaWrite (.udp addr port true bs)) s fun c =>
      c.out = [.udp addr port.toNat (replyBytes x m (Reply.bare .malformed))] ∧
      c.bitOf Obj.Loa.FLAGS 1 = true ∧ c.sessions = s.core.sessions ∧
      ∀ k, k ≠ Obj.Loa.FLAGS → c.get k = s.core.get k)) ∧
  (∀ (s : State) (p : Port) (x : Cell) (c : Core) (bs : List Byte), s.core.seqUp = true → x.wf = true →
    (LoaArrival.headrace p x).opens = false → s.clear.core.objectIn p.val x = (c, some bs) →
    ∀ i ∈ [Instr.loaRead, .loaWrite, .loaDescribe, .loaAuth, .loaClose, .loaSubscribe, .loaNotifyAck, .loaEcho],
      exec (i (.headrace p x)) s = .next ((({ s.clear with core := c } : State).loaMessage
        { udp := false, a := p.val, b := x.tag.toNat } bs 0).settle))

/-- Sessions over UDP and the secure world (R366 to R369). OPEN binds a free number to its source and answers with the hub's
nonce, or RETRY when all 16 are open. AUTH as the first request, with a right tag, makes the session SECURE under KS; a wrong
tag, and any while there is no admission key, is counted, and the third closes the session. CLOSE, acknowledged as the session
stood, and the idle time close it. Notifications (R378): an acknowledgement, sealed in a secure session, ends one; one that is
not acknowledged is sent again unchanged, by UDP or by its port, at most 3 times, and then counts as lost. -/
def Obligations.Sessions : Prop :=
  (∀ (s : State) (addr : Nat) (port : BitVec 16) (bs : List Byte) (nh : BitVec 128) (m : LoaMsg), m = loaParse bs →
    s.core.seqUp = true → s.core.loaServed = true → 9 ≤ bs.length →
    m.bad { udp := true, a := addr, b := port.toNat } = false → m.reply = false → m.op = 4 → m.session = 0 → m.seq = 0 →
    m.body.length = 16 → (s.core.sessionOf 0).isOpen = false →
    (s.core.freeSessions ≠ [] → ∃ n ∈ s.core.freeSessions,
      AnswersCore (.loaOpen (.udp addr port true bs) nh) s fun c =>
        (let x := { Session.closed with isOpen := true, addr := addr, port := port.toNat, nc := ofBytes m.body, nh := nh.toNat }
         c.sessionOf n = x ∧
         c.out = [.udp addr port.toNat (replyBytes x { m with session := n } (Reply.whole (toBytes 16 nh.toNat)))]) ∧
        c.get Obj.Loa.REQUESTS = min (s.core.get Obj.Loa.REQUESTS + 1) (2 ^ 64 - 1) ∧
        (∀ i, i ≠ n → c.sessionOf i = s.core.sessionOf i) ∧ ∀ k, k ≠ Obj.Loa.REQUESTS → c.get k = s.core.get k) ∧
    (s.core.freeSessions = [] →
      AnswersCore (.loaOpen (.udp addr port true bs) nh) s fun c =>
        c.out = [.udp addr port.toNat (replyBytes Session.closed m (Reply.bare .retry))] ∧
        c.sessions = s.core.sessions ∧ ∀ k, c.get k = s.core.get k)) ∧
  (∀ (s : State) (addr : Nat) (port : BitVec 16) (bs : List Byte) (m : LoaMsg) (x : Session) (ks : Nat → Nat), m = loaParse bs →
    Asked s addr port bs → m.op = 5 → x = s.core.sessionOf m.session → x.held 1 = none → x.begun = false → x.secure = false →
    m.seq = 1 → m.tagged = true → m.dlen = 0 → ks = (fun key => loaKey key (s.core.get Obj.Id.HUB_ID) m.session x.nc x.nh) →
    (∀ key, s.core.admitKeyNow s.fuses = some key → m.sealed (ks key) 0 = true →
      AnswersCore (.loaAuth (.udp addr port true bs)) s fun c =>
        (c.sessionOf m.session).secure = true ∧ (c.sessionOf m.session).ks = ks key ∧
        (c.sessionOf m.session).top = max x.top 1 ∧
        c.out = [.udp addr port.toNat (replyBytes { x with secure := true, ks := ks key } m (Reply.bare .ok))] ∧
        c.get Obj.Loa.REQUESTS = min (s.core.get Obj.Loa.REQUESTS + 1) (2 ^ 64 - 1) ∧
        (∀ i, i ≠ m.session → c.sessionOf i = s.core.sessionOf i) ∧ ∀ k, k ≠ Obj.Loa.REQUESTS → c.get k = s.core.get k) ∧
    ((∀ key, s.core.admitKeyNow s.fuses = some key → m.sealed (ks key) 0 = false) →
      AnswersCore (.loaAuth (.udp addr port true bs)) s fun c =>
        c.out = [] ∧ c.get Obj.Loa.AUTH_FAILS = min (s.core.get Obj.Loa.AUTH_FAILS + 1) (2 ^ 32 - 1) ∧
        (x.fails = 2 → c.sessionOf m.session = Session.closed) ∧
        (x.fails ≠ 2 → c.sessionOf m.session = { x with fails := x.fails + 1 }) ∧
        (∀ i, i ≠ m.session → c.sessionOf i = s.core.sessionOf i) ∧ ∀ k, k ≠ Obj.Loa.AUTH_FAILS → c.get k = s.core.get k)) ∧
  (∀ (s : State) (addr : Nat) (port : BitVec 16) (bs : List Byte) (m : LoaMsg), m = loaParse bs →
    Fresh s addr port bs → m.op = 6 →
    AnswersCore (.loaClose (.udp addr port true bs)) s fun c =>
      c.sessionOf m.session = Session.closed ∧
      c.out = [.udp addr port.toNat (replyBytes (s.core.sessionOf m.session) m (Reply.bare .ok))] ∧
      (∀ i, i ≠ m.session → c.sessionOf i = s.core.sessionOf i) ∧ ∀ k, c.get k = (s.counted m.session).get k) ∧
  (∀ (s : State) (n : Nat), s.core.seqUp = true → 1 ≤ n → n ≤ 16 →
    AnswersCore (.sessionIdle n) s fun c =>
      c.sessionOf n = Session.closed ∧ (∀ i, i ≠ n → c.sessionOf i = s.core.sessionOf i) ∧ ∀ k, c.get k = s.core.get k) ∧
  (∀ (s : State) (addr : Nat) (port : BitVec 16) (bs : List Byte) (m : LoaMsg), m = loaParse bs →
    s.core.seqUp = true → s.core.loaServed = true → 9 ≤ bs.length → (LoaArrival.udp addr port true bs).opens = false →
    m.reply = true → m.op = 8 → m.dlen = 0 → 1 ≤ m.session → m.session ≤ 16 →
    (s.core.sessionOf m.session).isOpen = true → (s.core.sessionOf m.session).addr = addr →
    (s.core.sessionOf m.session).port = port.toNat → m.lver = 1 → m.rsv = 0 →
    (if (s.core.sessionOf m.session).secure = true then m.sealed (s.core.sessionOf m.session).ks 3 = true
      else m.tagged = false) →
    AnswersCore (.loaNotifyAck (.udp addr port true bs)) s fun c =>
      (c.sessionOf m.session).notes = (s.core.sessionOf m.session).notes.filter (fun e => e.seq != m.seq) ∧
      c.out = [] ∧ (∀ i, i ≠ m.session → c.sessionOf i = s.core.sessionOf i) ∧ ∀ k, c.get k = s.core.get k) ∧
  (∀ (s : State) (n seq : Nat) (e : Note), s.core.seqUp = true → 1 ≤ n → n ≤ 16 →
    ((s.core.sessionOf n).notes.find? fun e => e.seq == seq) = some e → e.sent ≤ 3 →
    AnswersCore (.notifyRetry n seq) s fun c =>
      c.out = [.udp (s.core.sessionOf n).addr (s.core.sessionOf n).port e.msg] ∧
      ((c.sessionOf n).notes.find? fun e => e.seq == seq) = some { e with sent := e.sent + 1 } ∧
      (c.sessionOf n).notes.length = (s.core.sessionOf n).notes.length ∧ ∀ k, c.get k = s.core.get k) ∧
  (∀ (s : State) (p seq : Nat) (e : Note), s.core.seqUp = true → p < 8 → s.core.portUp p = true →
    ((s.core.sessionOf (0xFF00 + p)).notes.find? fun e => e.seq == seq) = some e → e.sent ≤ 3 →
    (s.core.portOf p).txq = [] → 1 ≤ (s.core.portOf p).credit Vc.ctl →
    AnswersCore (.notifyRetry (0xFF00 + p) seq) s fun c =>
      c.out = [.cell p Cy.object (mkCell Cy.object Vc.ctl true false 0 e.msg.length 0 e.msg)] ∧
      ((c.sessionOf (0xFF00 + p)).notes.find? fun e => e.seq == seq) = some { e with sent := e.sent + 1 }) ∧
  (∀ (s : State) (n seq : Nat) (e : Note), s.core.seqUp = true →
    ((s.core.sessionOf n).notes.find? fun e => e.seq == seq) = some e → 4 ≤ e.sent →
    AnswersCore (.notifyRetry n seq) s fun c =>
      c.out = [] ∧ ((c.sessionOf n).notes.find? fun e => e.seq == seq) = none ∧
      c.get Obj.Loa.NOTIFY_LOST = min (s.core.get Obj.Loa.NOTIFY_LOST + 1) (2 ^ 32 - 1) ∧ c.bitOf Obj.Loa.FLAGS 3 = true ∧
      ∀ k, k ≠ Obj.Loa.NOTIFY_LOST → k ≠ Obj.Loa.FLAGS → c.get k = s.core.get k)

/-- The management port and writes of objects (R364, R369, R379, R380, R423, R446). The hub answers ARP, Neighbor Discovery and
echo for its own addresses; LINK_STATE follows the link, whose loss is the source MG_LINK; a new address closes the UDP sessions
and takes effect later; an admission key is stored wrapped. FACTORY_DEFAULTS sets the ledger's settings, all but those of R379,
to their defaults (here where no other block follows what changes), and ends with RETRY outside SERVICE. A budget is taken where
BASE_MW + FLOOR_MW stays below BUDGET_MW. A write of a rail's setting that no rule of its own governs is stored; a write that is
refused, but for its world, changes nothing. -/
def Obligations.ObjectWrites : Prop :=
  (∀ (s : State) (target : BitVec 32) (mac : BitVec 48) (ip : BitVec 32), s.core.seqUp = true → s.core.loaServed = true →
    s.core.mg.v4 ≠ 0 →
    (target.toNat = s.core.mg.v4 → exec (.arpRequest target mac ip) s =
      .next { s.clear with core := { s.clear.core with
        out := [.frame 0 mac.toNat ip.toNat (toBytes 6 (s.core.get Obj.Mg.MAC))] } }) ∧
    (target.toNat ≠ s.core.mg.v4 → exec (.arpRequest target mac ip) s = .next s.clear)) ∧
  (∀ (s : State) (target : BitVec 128) (mac : BitVec 48) (ip : BitVec 128), s.core.seqUp = true → s.core.loaServed = true →
    target.toNat = linkLocal (s.core.get Obj.Mg.MAC) →
    exec (.neighborSolicitation target mac ip) s =
      .next { s.clear with core := { s.clear.core with
        out := [.frame 1 mac.toNat ip.toNat (toBytes 6 (s.core.get Obj.Mg.MAC))] } }) ∧
  (∀ (s : State) (v6 : Bool) (dst src : BitVec 128) (data : List Byte), s.core.seqUp = true → s.core.loaServed = true →
    (if v6 then s.core.ownV6 dst.toNat else s.core.ownV4 dst.toNat) = true →
    exec (.icmpEcho v6 dst src data) s =
      .next { s.clear with core := { s.clear.core with out := [.frame (if v6 then 3 else 2) 0 src.toNat data] } }) ∧
  (∀ (s : State), s.core.seqUp = true → s.core.isSet Obj.Mg.LINK_STATE = true →
    AnswersThen (.mgLinkChange false) s fun c => c.get Obj.Mg.LINK_STATE = 0 ∧ s.clear.core.Raises Src.mgLink c) ∧
  (∀ (s : State), s.core.seqUp = true → s.core.injected Src.mgLink = false →
    AnswersCore (.mgLinkChange true) s fun c =>
      c.get Obj.Mg.LINK_STATE = 1 ∧ c.pairOf Src.mgLink = 0 ∧
      ∀ k, k ≠ Obj.Mg.LINK_STATE → k ≠ Obj.Source.STATUS Src.mgLink → c.get k = s.core.get k) ∧
  (∀ (s : State) (w : World) (sub : BitVec 8) (v : BitVec 128), Admits s w (0x110000 + sub.toNat) v.toNat →
    sub = 3 ∨ sub = 6 → s.core.get (0x110000 + sub.toNat) ≠ v.toNat → clearableOf 0x1100 sub.toNat = none →
    AnswersOk (.mgAddressWrite w sub v) s fun c =>
      c.get (0x110000 + sub.toNat) = v.toNat ∧ c.mg = { s.core.mg with pending := true } ∧
      (∀ n, 1 ≤ n → n ≤ 16 → c.sessionOf n = Session.closed) ∧
      ∀ k, k ≠ 0x110000 + sub.toNat → c.get k = s.core.get k) ∧
  (∀ (s : State), s.core.seqUp = true → s.core.mg.pending = true →
    AnswersCore .mgAddressApply s fun c =>
      c.mg = { mode := s.core.get Obj.Mg.MG_MODE, v4 := s.core.get Obj.Mg.IPV4_ADDR, v6 := s.core.get Obj.Mg.IPV6_ADDR,
               pending := false } ∧ ∀ k, c.get k = s.core.get k) ∧
  (∀ (s : State) (w : World) (key : BitVec 256), Admits s w Obj.Loa.ADMIT_KEY key.toNat → key ≠ 0 →
    AnswersOk (.admitKey w key) s fun c =>
      c.get Obj.Loa.ADMIT_GEN = min (s.core.get Obj.Loa.ADMIT_GEN + 1) (2 ^ 32 - 1) ∧
      c.get Obj.Loa.ADMIT_KCV = kcv key.toNat ∧
      c.get Obj.Loa.ADMIT_KEY = wrapKey 0 (c.get Obj.Loa.ADMIT_GEN) key.toNat ∧ c.sessions = s.core.sessions ∧
      ∀ k, k ≠ Obj.Loa.ADMIT_GEN → k ≠ Obj.Loa.ADMIT_KCV → k ≠ Obj.Loa.ADMIT_KEY → c.get k = s.core.get k) ∧
  (∀ (s : State) (w : World), Admits s w Obj.Id.FACTORY_DEFAULTS 1 → s.core.dev = Dv.service →
    (∀ k ∈ [Obj.Mg.MG_MODE, Obj.Mg.IPV4_ADDR, Obj.Mg.IPV6_ADDR, Obj.Time.TIME_SOURCE, Obj.Sail.ROOT, Obj.Mc.ADDR_MAP,
      Obj.SailPort.ENABLE 0, Obj.SailPort.ENABLE 1, Obj.SailPort.ENABLE 2, Obj.SailPort.ENABLE 3],
      s.core.get k = defaultOf k) → (∀ p < 8, s.core.portState p ≠ 0) → s.core.elasticFill = 0 →
    AnswersOk (.factoryDefaults w) s fun c =>
      (∀ k, isLedger k = true → keptByDefaults k = false → c.get k = defaultOf k) ∧
      ∀ k, isLedger k = true → keptByDefaults k = true → c.get k = s.core.get k) ∧
  (∀ (s : State) (w : World), Admits s w Obj.Id.FACTORY_DEFAULTS 1 → s.core.dev ≠ Dv.service →
    exec (.factoryDefaults w) s = .next { s.clear with core := { s.clear.core with out := [.status .retry] } }) ∧
  (∀ (s : State) (w : World) (sub : BitVec 8) (v : BitVec 32) (d : Core), Admits s w (0x440000 + sub.toNat) v.toNat →
    sub.toNat ∈ [1, 2, 3] → d = s.core.put (0x440000 + sub.toNat) v.toNat →
    (d.get Obj.Sluice.BASE_MW + d.get Obj.Sluice.FLOOR_MW < d.get Obj.Sluice.BUDGET_MW →
      AnswersOk (.sluiceBudgetWrite w sub v) s fun c =>
        c.get (0x440000 + sub.toNat) = v.toNat ∧ c.sluice = s.core.sluice ∧
        (d.pool < s.core.granted → c.bitOf Obj.Sluice.FLAGS 1 = true) ∧
        ∀ k, k ≠ 0x440000 + sub.toNat → k ≠ Obj.Sluice.FLAGS → c.get k = s.core.get k) ∧
    (d.get Obj.Sluice.BUDGET_MW ≤ d.get Obj.Sluice.BASE_MW + d.get Obj.Sluice.FLOOR_MW →
      exec (.sluiceBudgetWrite w sub v) s = .next { s.clear with core := { s.clear.core with out := [.status .malformed] } })) ∧
  (∀ (s : State) (w : World) (idx : BitVec 16) (sub : BitVec 8) (bs : List Byte), s.core.loaServed = true →
    s.core.writeRefusal w idx.toNat sub.toNat bs = none → 0x4010 ≤ idx.toNat → idx.toNat < 0x4020 →
    sub.toNat ∈ [1, 2, 3, 4, 5, 8, 9, 10, 11, 12, 13, 14] → clearableOf idx.toNat sub.toNat = none →
    AnswersOk (.registerWrite w idx sub bs) s fun c =>
      c.get (idx.toNat * 256 + sub.toNat) = ofBytes bs ∧
      ∀ k, k ≠ idx.toNat * 256 + sub.toNat → c.get k = s.core.get k) ∧
  (∀ (s : State) (w : World) (idx : BitVec 16) (sub : BitVec 8) (bs : List Byte) (x : Status), s.core.loaServed = true →
    s.core.writeRefusal w idx.toNat sub.toNat bs = some x → x ≠ .deniedWorld →
    exec (.registerWrite w idx sub bs) s = .next { s.clear with core := { s.clear.core with out := [.status x] } })

/-- Sail ports (R384 to R386). Block lock starts HELLO, from LOCKING alone. A lost link takes the port to LOCKING or, while it
is held, to DOWN, discards what waits, restarts LSEQ and raises SL_LINK. A SEQ acknowledges the messages up to its LSEQ; the
hub's own carries the highest number received in order, and leaves at each idle period. Every unacknowledged message is sent
again, unchanged, and counted. A message that fails its checks is counted and discarded, one out of order is only acknowledged
again, and on a port without block lock nothing is heard. -/
def Obligations.SailLinks : Prop :=
  (∀ (s : State) (sp : SailNo), s.core.seqUp = true → s.core.spState sp.val = 1 → s.core.sailFree sp.val →
    AnswersCore (.sailBlockLock sp) s fun c =>
      c.spState sp.val = 2 ∧ (c.sailOf sp.val).unack.length = (s.core.sailOf sp.val).unack.length + 1 ∧
      (c.sailOf sp.val).txSeq = ((s.core.sailOf sp.val).txSeq + 1) % 65536 ∧ c.out.length = 1 ∧
      ∀ k, k ≠ Obj.SailPort.STATE sp.val → c.get k = s.core.get k) ∧
  (∀ (s : State) (sp : SailNo), s.core.seqUp = true → s.core.spState sp.val ≠ 1 →
    exec (.sailBlockLock sp) s = .next s.clear) ∧
  (∀ (s : State) (sp : SailNo), s.core.seqUp = true → 2 ≤ s.core.spState sp.val → (∀ j < 4, s.core.spState j ≠ 4) →
    s.core.get (Obj.SailPort.ENABLE sp.val) ≤ 1 →
    AnswersThen (.sailLinkDown sp) s fun c =>
      c.spState sp.val = s.core.get (Obj.SailPort.ENABLE sp.val) ∧ c.sailOf sp.val = SailPortState.init ∧
      c.bitOf (Obj.SailPort.FLAGS sp.val) 2 = true ∧ (s.core.spState sp.val = 3 → c.bitOf Obj.Sail.FLAGS 0 = true) ∧
      (∀ j < 4, j ≠ sp.val → c.spState j = s.core.spState j ∧ c.sailOf j = s.core.sailOf j) ∧
      s.clear.core.Raises (Src.slLink sp.val) c ∧
      c.get Obj.Sail.ROLE = c.roleNow ∧ c.get Obj.Sail.SUBTREE = c.subtreeNow) ∧
  (∀ (s : State) (sp : SailNo) (a : SailArrival) (m : SailIn), s.core.seqUp = true → 2 ≤ s.core.spState sp.val →
    sailParse a = some m → m.mtype = 3 → (s.core.sailOf sp.val).queue = [] →
    AnswersCore (.sailSeq sp a) s fun c =>
      (c.sailOf sp.val).unack = sailAcked m.lseq (s.core.sailOf sp.val).unack ∧ c.out = [] ∧
      c.get (Obj.SailPort.MSGS_RX sp.val) = min (s.core.get (Obj.SailPort.MSGS_RX sp.val) + 1) (2 ^ 64 - 1) ∧
      ∀ k, k ≠ Obj.SailPort.MSGS_RX sp.val → c.get k = s.core.get k) ∧
  (∀ (s : State) (sp : SailNo), s.core.seqUp = true → 2 ≤ s.core.spState sp.val →
    exec (.sailSeqKeepalive sp) s = .next { s.clear with core := { s.clear.core with out := [s.core.seqMessage sp.val] } }) ∧
  (∀ (s : State) (sp : SailNo), s.core.spState sp.val < 2 → exec (.sailSeqKeepalive sp) s = .next s.clear) ∧
  (∀ (s : State) (sp : SailNo), s.core.seqUp = true →
    AnswersCore (.sailRetx sp) s fun c =>
      c.out = (s.core.sailOf sp.val).unack.map
        (fun m => Out.sail sp.val (sailBytes m) (BitVec.ofNat 32 (crc32c (sailBytes m)))) ∧
      c.sail = s.core.sail ∧
      c.get (Obj.SailPort.RETX sp.val) =
        (s.core.sailOf sp.val).unack.foldl (fun n _ => min (n + 1) (2 ^ 32 - 1)) (s.core.get (Obj.SailPort.RETX sp.val)) ∧
      ∀ k, k ≠ Obj.SailPort.RETX sp.val → c.get k = s.core.get k) ∧
  (∀ (s : State) (sp : SailNo) (a : SailArrival), s.core.seqUp = true → 2 ≤ s.core.spState sp.val → sailParse a = none →
    ∀ f ∈ [Instr.sailTrigger, .sailEpoch, .sailSeq, .timeSync, .timeDreq, .timeDresp, .healthHello, .healthStatus,
      .healthDualHelm, .healthRefused],
    AnswersCore (f sp a) s fun c =>
      c.get (Obj.SailPort.CRC_ERRORS sp.val) = min (s.core.get (Obj.SailPort.CRC_ERRORS sp.val) + 1) (2 ^ 32 - 1) ∧
      c.bitOf (Obj.SailPort.FLAGS sp.val) 0 = true ∧ c.out = [] ∧ c.sail = s.core.sail ∧
      ∀ k, k ≠ Obj.SailPort.CRC_ERRORS sp.val → k ≠ Obj.SailPort.FLAGS sp.val → c.get k = s.core.get k) ∧
  (∀ (s : State) (sp : SailNo) (a : SailArrival) (m : SailIn), s.core.seqUp = true → 2 ≤ s.core.spState sp.val →
    sailParse a = some m → m.mtype ≠ 3 → m.mtype ≠ 4 → m.lseq ≠ (s.core.sailOf sp.val).rxNext →
    ∀ f ∈ [Instr.sailTrigger, .sailEpoch, .healthHello, .healthStatus, .healthDualHelm, .healthRefused],
      exec (f sp a) s = .next { s.clear with core := { s.clear.core with out := [s.core.seqMessage sp.val] } }) ∧
  (∀ (s : State) (sp : SailNo) (a : SailArrival), s.core.spState sp.val < 2 →
    ∀ f ∈ [Instr.sailTrigger, .sailEpoch, .sailSeq, .timeSync, .timeDreq, .timeDresp, .healthHello, .healthStatus,
      .healthDualHelm, .healthRefused], exec (f sp a) s = .next s.clear)

/-- Triggers and epochs (R106, R392, R398 to R400). A TRIGGER in order is forwarded with HOPS + 1 and, unless this hub
originated it, offered to Weir: an ARMED window that takes it freezes with its time and id, and one that is not ARMED records
the refusal. An EPOCH from SP0 is forwarded; it is pending, late where its time has passed, unless it is too close to the one
before or a fifth. One on a child port is counted and not forwarded. The helm alone originates epochs, when it is told to and at
its period. At its tick the first pending epoch latches the counters, which are later published as one generation. -/
def Obligations.SailEpochs : Prop :=
  (∀ (s : State) (sp : SailNo) (a : SailArrival) (m : SailIn), SailComes s sp.val a m → m.mtype = 1 →
    s.core.spState sp.val = 3 → field 207 176 m.num = s.core.get Obj.Id.HUB_ID →
    AnswersCore (.sailTrigger sp a) s fun c =>
      (c.sailOf sp.val).rxNext = (m.lseq + 1) % 65536 ∧
      Flooded s sp.val { lseq := 0, mtype := 1, hops := m.hops + 1, body := m.body } c ∧
      c.get (Obj.SailPort.MSGS_RX sp.val) = min (s.core.get (Obj.SailPort.MSGS_RX sp.val) + 1) (2 ^ 64 - 1) ∧
      ∀ k, k ≠ Obj.SailPort.MSGS_RX sp.val → k ≠ Obj.Sail.TRIG_DROPPED → c.get k = s.core.get k) ∧
  (∀ (s : State) (sp : SailNo) (a : SailArrival) (m : SailIn) (c0 : Core) (w : Nat) (t : Trigger),
    SailComes s sp.val a m → m.mtype = 1 → s.core.spState sp.val = 3 →
    field 207 176 m.num ≠ s.core.get Obj.Id.HUB_ID → w = field 253 248 m.num →
    c0 = (s.sailTaken sp.val).sailFlood sp.val { lseq := 0, mtype := 1, hops := m.hops + 1, body := m.body } →
    t = { src := 1, stream := 0, tidx := 0, tt := field 175 80 m.num, id := field 239 208 m.num, detector := 0, level := 0,
          delays := m.delays, port := 0 } →
    s.core.get (Obj.Window.STATE w) = 1 → (c0.decideTrigger w t).1 = .ok →
    AnswersThen (.sailTrigger sp a) s fun c => ∃ d : Core,
      c = d.winProgress w ∧ d.get (Obj.Window.STATE w) = 2 ∧ d.get (Obj.Window.READY w) = 0 ∧
      d.get (Obj.Window.GEN w) = nextGen (s.core.get (Obj.Window.GEN w)) ∧ d.get (Obj.Window.TRIGGER_ID w) = t.id ∧
      d.get (Obj.Window.TRIGGER_SRC w) = 1 ∧ d.get (Obj.Window.T_EVENT w) = t.tt) ∧
  (∀ (s : State) (sp : SailNo) (a : SailArrival) (m : SailIn) (w : Nat), SailComes s sp.val a m → m.mtype = 1 →
    s.core.spState sp.val = 3 → field 207 176 m.num ≠ s.core.get Obj.Id.HUB_ID → w = field 253 248 m.num →
    (s.core.get (Obj.Window.SOURCES w)).testBit 1 = true → s.core.get (Obj.Window.STATE w) = 0 →
    AnswersCore (.sailTrigger sp a) s fun c =>
      c.get (Obj.Window.LAST_REFUSAL w) = 2 ∧ c.bitOf (Obj.Window.FLAGS w) 4 = true ∧
      c.get (Obj.Window.REFUSALS w) = min (s.core.get (Obj.Window.REFUSALS w) + 1) (2 ^ 32 - 1) ∧
      Flooded s sp.val { lseq := 0, mtype := 1, hops := m.hops + 1, body := m.body } c) ∧
  (∀ (s : State) (a : SailArrival) (m : SailIn), SailComes s 0 a m → m.mtype = 2 → s.core.spState 0 = 3 →
    s.core.sail.epochs.length < 4 → s.core.hubTime ≤ field 159 96 m.num * 2 ^ 32 →
    (∀ t, s.core.latestEpoch = some t → t + 100000 ≤ field 159 96 m.num) →
    AnswersCore (.sailEpoch 0 a) s fun c =>
      c.sail.epochs = s.core.sail.epochs ++
        [{ te := field 159 96 m.num, num := field 191 160 m.num, late := false, stepped := false }] ∧
      Flooded s 0 { lseq := 0, mtype := 2, hops := m.hops + 1, body := m.body } c ∧
      ∀ k, k ≠ Obj.SailPort.MSGS_RX 0 → c.get k = s.core.get k) ∧
  (∀ (s : State) (a : SailArrival) (m : SailIn), SailComes s 0 a m → m.mtype = 2 → s.core.spState 0 = 3 →
    s.core.sail.epochs.length < 4 → field 159 96 m.num * 2 ^ 32 < s.core.hubTime →
    (∀ t, s.core.latestEpoch = some t → t + 100000 ≤ field 159 96 m.num) →
    AnswersThen (.sailEpoch 0 a) s fun c =>
      c.sail.epochs = s.core.sail.epochs ++
        [{ te := field 159 96 m.num, num := field 191 160 m.num, late := true, stepped := false }] ∧
      Flooded s 0 { lseq := 0, mtype := 2, hops := m.hops + 1, body := m.body } c ∧
      c.bitOf Obj.Sail.FLAGS 2 = true ∧ s.clear.core.Raises Src.slEpochLate c) ∧
  (∀ (s : State) (a : SailArrival) (m : SailIn), SailComes s 0 a m → m.mtype = 2 → s.core.spState 0 = 3 →
    ((∃ t, s.core.latestEpoch = some t ∧ field 159 96 m.num < t + 100000) ∨ 4 ≤ s.core.sail.epochs.length) →
    AnswersCore (.sailEpoch 0 a) s fun c =>
      c.sail.epochs = s.core.sail.epochs ∧
      Flooded s 0 { lseq := 0, mtype := 2, hops := m.hops + 1, body := m.body } c ∧
      c.get Obj.Sail.EPOCH_REFUSED = min (s.core.get Obj.Sail.EPOCH_REFUSED + 1) (2 ^ 32 - 1)) ∧
  (∀ (s : State) (sp : SailNo) (a : SailArrival) (m : SailIn), SailComes s sp.val a m → m.mtype = 2 →
    s.core.spState sp.val = 3 → sp ≠ 0 →
    AnswersCore (.sailEpoch sp a) s fun c =>
      c.sail.epochs = s.core.sail.epochs ∧ (∀ j, j ≠ sp.val → c.sailOf j = s.core.sailOf j) ∧
      c.get Obj.Sail.EPOCH_REFUSED = min (s.core.get Obj.Sail.EPOCH_REFUSED + 1) (2 ^ 32 - 1) ∧
      ∀ k, k ≠ Obj.SailPort.MSGS_RX sp.val → k ≠ Obj.Sail.EPOCH_REFUSED → c.get k = s.core.get k) ∧
  (∀ (s : State) (w : World) (te : Nat), Admits s w Obj.Sail.EPOCH_NOW 1 → isHelm (s.core.get Obj.Sail.ROLE) = true →
    te = (s.core.timeNs + s.core.get Obj.Sail.EPOCH_LEAD_US * 1000) % 2 ^ 64 → s.core.hubTime ≤ te * 2 ^ 32 →
    s.core.sail.epochs.length < 4 → (∀ t, s.core.latestEpoch = some t → t + 100000 ≤ te) →
    AnswersOk (.epochNow w) s fun c =>
      c.sail.epochNum = (s.core.sail.epochNum + 1) % 2 ^ 32 ∧
      c.sail.epochs = s.core.sail.epochs ++
        [{ te := te, num := (s.core.sail.epochNum + 1) % 2 ^ 32, late := false, stepped := false }] ∧
      Flooded s 4 (helmEpoch ((s.core.sail.epochNum + 1) % 2 ^ 32) te (s.core.get Obj.Id.HUB_ID)) c ∧
      ∀ k, c.get k = s.core.get k) ∧
  (∀ (s : State) (w : World), Admits s w Obj.Sail.EPOCH_NOW 1 → isHelm (s.core.get Obj.Sail.ROLE) = false →
    exec (.epochNow w) s = .next { s.clear with core := { s.clear.core with out := [.status .retry] } }) ∧
  (∀ (s : State) (te : Nat), s.core.seqUp = true → isHelm (s.core.get Obj.Sail.ROLE) = true →
    s.core.get Obj.Sail.EPOCH_PERIOD_MS ≠ 0 →
    te = (s.core.timeNs + s.core.get Obj.Sail.EPOCH_LEAD_US * 1000) % 2 ^ 64 → s.core.hubTime ≤ te * 2 ^ 32 →
    s.core.sail.epochs.length < 4 → (∀ t, s.core.latestEpoch = some t → t + 100000 ≤ te) →
    AnswersCore .epochPeriod s fun c =>
      c.sail.epochNum = (s.core.sail.epochNum + 1) % 2 ^ 32 ∧
      c.sail.epochs = s.core.sail.epochs ++
        [{ te := te, num := (s.core.sail.epochNum + 1) % 2 ^ 32, late := false, stepped := false }] ∧
      Flooded s 4 (helmEpoch ((s.core.sail.epochNum + 1) % 2 ^ 32) te (s.core.get Obj.Id.HUB_ID)) c ∧
      ∀ k, c.get k = s.core.get k) ∧
  (∀ (s : State), isHelm (s.core.get Obj.Sail.ROLE) = false ∨ s.core.get Obj.Sail.EPOCH_PERIOD_MS = 0 →
    exec .epochPeriod s = .next s.clear) ∧
  (∀ (s : State), (∀ e ∈ s.core.sail.epochs, s.core.hubTime < e.te * 2 ^ 32) → exec .epochLatch s = .next s.clear) ∧
  (∀ (s : State) (e : Epoch) (rest : List Epoch), s.core.seqUp = true → s.core.sail.epochs = e :: rest →
    e.te * 2 ^ 32 ≤ s.core.hubTime →
    AnswersCore .epochLatch s fun c =>
      c.sail.epochs = rest ∧ c.sail.latched = some e.te ∧ c.get Obj.Snap.READY = 0 ∧
      (∃ t, c.sail.snap = some t ∧ t = s.core.snapshot e ∧ t.num Obj.Snap.EPOCH_NUM = e.num ∧ t.num Obj.Snap.T_EPOCH = e.te ∧
        t.num Obj.Snap.T_LATCH = s.core.hubTime ∧
        t.num Obj.Snap.SNAP_FLAGS = ofBool e.late + 2 * ofBool e.stepped + 4 * ofBool (!s.core.timeValid)) ∧
      (s.core.sail.snap = none → c.get Obj.Snap.GEN = nextGen (s.core.get Obj.Snap.GEN)) ∧
      ∀ k, k ≠ Obj.Snap.READY → k ≠ Obj.Snap.GEN → c.get k = s.core.get k) ∧
  (∀ (s : State) (t : Tbl Nat), s.core.seqUp = true → s.core.sail.snap = some t →
    AnswersCore .snapshotPublish s fun c =>
      c.sail.snap = none ∧ c.get Obj.Snap.READY = 1 ∧
      ((t.map (·.1)).Nodup → ∀ e ∈ t, e.1 ≠ Obj.Snap.READY → c.get e.1 = e.2) ∧
      ∀ k, k ≠ Obj.Snap.READY → (∀ e ∈ t, e.1 ≠ k) → c.get k = s.core.get k)

/-- The tree of the array (R386, R389 to R391). A HELLO that finds no cause takes its port to UP, and ROLE, DEPTH and SUBTREE
follow; a refused child port looks again only at a HELLO that has changed. The first cause of R390 refuses the port, and for
DUAL_HELM the parent says so on every UP port and the refused one and raises SL_DUAL_HELM. A STATUS is recorded and forwarded. A
report that names this hub sets the flag of its cause, raises SL_DUAL_HELM where that is the cause, and refuses SP0 where it
came by it; one that names another hub is forwarded alone. STATUS goes out on every UP port at each period. -/
def Obligations.SailHealth : Prop :=
  (∀ (s : State) (sp : SailNo) (a : SailArrival) (m : SailIn), SailComes s sp.val a m → m.mtype = 5 →
    field 255 248 m.num = 0 → s.core.spState sp.val = 2 →
    (if sp = 0 then a.fromSp0 = false else a.fromSp0 = true ∧ bit 215 m.num = false ∧ s.core.get Obj.Sail.DEPTH + 1 ≤ 8) →
    AnswersCore (.healthHello sp a) s fun c =>
      c.spState sp.val = 3 ∧ c.get (Obj.SailPort.FAR_ID sp.val) = field 247 216 m.num ∧ c.bitOf Obj.Sail.FLAGS 0 = true ∧
      c.get (Obj.SailPort.REFUSE_CAUSE sp.val) = 0 ∧ c.get Obj.Sail.ROLE = c.roleNow ∧
      c.get Obj.Sail.SUBTREE = c.subtreeNow ∧
      (c.get Obj.Sail.ROLE = 1 → c.get Obj.Sail.DEPTH = (c.sailOf 0).farDepth + 1) ∧
      (c.get Obj.Sail.ROLE ≠ 1 → c.get Obj.Sail.DEPTH = 0) ∧
      (c.sailOf sp.val).farDepth = field 214 211 m.num ∧ ∀ j < 4, j ≠ sp.val → c.spState j = s.core.spState j) ∧
  (∀ (s : State) (sp : SailNo) (a : SailArrival) (m : SailIn), SailComes s sp.val a m → m.mtype = 5 →
    field 255 248 m.num = 0 → 3 ≤ s.core.spState sp.val → (s.core.sailOf sp.val).hello = true →
    s.core.get (Obj.SailPort.FAR_ID sp.val) = field 247 216 m.num → (s.core.sailOf sp.val).farRoot = bit 215 m.num →
    (s.core.sailOf sp.val).farDepth = field 214 211 m.num →
    exec (.healthHello sp a) s = .next { s.clear with core := s.sailTaken sp.val }) ∧
  (∀ (s : State) (sp : SailNo) (a : SailArrival) (m : SailIn), SailComes s sp.val a m → m.mtype = 5 →
    field 255 248 m.num = 0 → s.core.spState sp.val = 4 → sp ≠ 0 →
    s.core.get (Obj.SailPort.FAR_ID sp.val) ≠ field 247 216 m.num ∨ (s.core.sailOf sp.val).farRoot ≠ bit 215 m.num →
    a.fromSp0 = true → bit 215 m.num = false → s.core.get Obj.Sail.DEPTH + 1 ≤ 8 →
    AnswersCore (.healthHello sp a) s fun c =>
      c.spState sp.val = 3 ∧ c.get (Obj.SailPort.REFUSE_CAUSE sp.val) = 0 ∧
      c.get (Obj.SailPort.FAR_ID sp.val) = field 247 216 m.num ∧ c.bitOf Obj.Sail.FLAGS 0 = true) ∧
  (∀ (s : State) (sp : SailNo) (a : SailArrival) (m : SailIn) (cause : Nat), SailComes s sp.val a m → m.mtype = 5 →
    field 255 248 m.num = 0 → s.core.spState sp.val = 2 →
    cause = (if sp = 0 then (if a.fromSp0 then 2 else 0) else if !a.fromSp0 then 2 else if bit 215 m.num then 1
      else if 8 < s.core.get Obj.Sail.DEPTH + 1 then 3 else 0) → cause ≠ 0 →
    AnswersThen (.healthHello sp a) s fun c =>
      c.spState sp.val = 4 ∧ c.get (Obj.SailPort.REFUSE_CAUSE sp.val) = cause ∧
      c.bitOf (Obj.SailPort.FLAGS sp.val) 1 = true ∧ 
      (cause = 2 → c.bitOf Obj.Sail.FLAGS 4 = true) ∧ (cause = 3 → c.bitOf Obj.Sail.FLAGS 3 = true) ∧
      (cause = 1 → s.clear.core.Raises Src.slDualHelm c ∧
        (s.core.get Obj.Sail.DEPTH = (if s.core.roleNow = 1 then (s.core.sailOf 0).farDepth + 1 else 0) →
          ∀ j < 4, (s.core.spUp j = true ∨ j = sp.val) → s.core.sailFree j →
            ∃ x, (c.sailOf j).unack = (s.core.sailOf j).unack ++ [x] ∧ x.mtype = 5 ∧ x.hops = 0 ∧
              x.body.drop 24 = toBytes 8 (field 247 216 m.num <<< 32))) ∧
      ∀ j < 4, j ≠ sp.val → c.spState j = s.core.spState j) ∧
  (∀ (s : State) (sp : SailNo) (a : SailArrival) (m : SailIn), SailComes s sp.val a m → m.mtype = 5 →
    field 255 248 m.num = 1 → field 247 216 m.num ≠ s.core.get Obj.Id.HUB_ID → s.core.sail.hubs.length < 512 →
    s.core.get (Obj.SailPort.FAR_ID sp.val) ≠ field 247 216 m.num →
    AnswersCore (.healthStatus sp a) s fun c =>
      c.sail.hubs.num (field 247 216 m.num) = m.num ∧ (∀ id, id ≠ field 247 216 m.num → c.sail.hubs.num id = s.core.sail.hubs.num id) ∧
      Flooded s sp.val { lseq := 0, mtype := 5, hops := m.hops + 1, body := m.body } c ∧
      ∀ k, k ≠ Obj.SailPort.MSGS_RX sp.val → c.get k = s.core.get k) ∧
  (∀ (s : State) (sp : SailNo) (a : SailArrival) (m : SailIn), SailComes s sp.val a m → m.mtype = 5 →
    field 255 248 m.num = 2 → field 63 32 m.num = s.core.get Obj.Id.HUB_ID →
    AnswersThen (.healthDualHelm sp a) s fun c =>
      c.bitOf Obj.Sail.FLAGS 1 = true ∧ s.clear.core.Raises Src.slDualHelm c ∧
      (sp = 0 → s.core.spState 0 ≠ 4 → c.spState 0 = 4 ∧ c.get (Obj.SailPort.REFUSE_CAUSE 0) = 1) ∧
      (sp ≠ 0 → c.spState 0 = s.core.spState 0) ∧ ∀ j < 4, j ≠ 0 → c.spState j = s.core.spState j) ∧
  (∀ (s : State) (sp : SailNo) (a : SailArrival) (m : SailIn) (cause : Nat), SailComes s sp.val a m → m.mtype = 5 →
    field 255 248 m.num = 3 → field 63 32 m.num = s.core.get Obj.Id.HUB_ID → cause = field 7 0 m.num →
    cause = 2 ∨ cause = 3 →
    AnswersCore (.healthRefused sp a) s fun c =>
      (cause = 2 → c.bitOf Obj.Sail.FLAGS 4 = true) ∧ (cause = 3 → c.bitOf Obj.Sail.FLAGS 3 = true) ∧
      (sp = 0 → s.core.spState 0 ≠ 4 → c.spState 0 = 4 ∧ c.get (Obj.SailPort.REFUSE_CAUSE 0) = cause) ∧
      (sp ≠ 0 → c.spState 0 = s.core.spState 0) ∧ ∀ j < 4, j ≠ 0 → c.spState j = s.core.spState j) ∧
  (∀ (s : State) (sp : SailNo) (a : SailArrival) (m : SailIn), SailComes s sp.val a m → m.mtype = 5 →
    field 63 32 m.num ≠ s.core.get Obj.Id.HUB_ID →
    ∀ x ∈ [(Instr.healthDualHelm, 2), (Instr.healthRefused, 3)], field 255 248 m.num = x.2 →
    AnswersCore (x.1 sp a) s fun c =>
      Flooded s sp.val { lseq := 0, mtype := 5, hops := m.hops + 1, body := m.body } c ∧
      ∀ k, k ≠ Obj.SailPort.MSGS_RX sp.val → c.get k = s.core.get k) ∧
  (∀ (s : State), s.core.seqUp = true →
    AnswersCore .healthPeriod s fun c =>
      (∀ j < 4, s.core.spUp j = true → s.core.sailFree j →
        (c.sailOf j).unack = (s.core.sailOf j).unack ++ [{ s.core.healthMsg 1 0 0 with
          lseq := (s.core.sailOf j).txSeq
          body := (s.core.healthMsg 1 0 0).body.take 12 ++ toBytes 12 s.core.hubTime ++
            (s.core.healthMsg 1 0 0).body.drop 24 }]) ∧ ∀ k, c.get k = s.core.get k)

/-- Hub time (R387, R393 to R397). SYNC leaves on each child port that is UP; the child answers one with a DREQ and keeps the
stamps; the parent answers a DREQ with its arrival; the DRESP gives an offset, unless it is late or the SYNC was not VALID. PTP
finds the best of the masters heard in its domain, leaves out one on the ARB timescale, and measures against the master in use.
A PPS edge more than 10 µs from a whole second is rejected, and one within it is applied once PTP is within 10 µs. An offset
steps hub time by -o at the first measurement and beyond STEP_LIMIT_NS; otherwise it sets f and TRIM. Without a measurement the
hub enters HOLDOVER at f alone and raises TIME_LOST. -/
def Obligations.TimeDiscipline : Prop :=
  (∀ (s : State), s.core.seqUp = true →
    AnswersCore .timeSyncSend s fun c =>
      c.out = (([1, 2, 3].filter fun k => s.core.spUp k).map fun k =>
        sailOut k (s.core.timeMsg 0 0 (stamp4 s.core.hubTime))) ∧
      c.sail = s.core.sail ∧ c.time = s.core.time ∧ ∀ k, c.get k = s.core.get k) ∧
  (∀ (s : State) (a : SailArrival) (m : SailIn) (num : Nat), s.core.seqUp = true → s.core.spState 0 = 3 →
    sailParse a = some m → m.mtype = 4 → field 255 248 m.num = 0 → s.core.timeMode = 2 →
    num = (s.core.time.dreqNum + 1) % 65536 →
    AnswersCore (.timeSync 0 a) s fun c =>
      c.time.exchange = some ⟨num, field 191 96 m.num, stamp4 a.stamp.toNat, stamp4 s.core.hubTime, bit 247 m.num⟩ ∧
      c.time.dreqNum = num ∧ c.out = [sailOut 0 (s.core.timeMsg 1 num (stamp4 s.core.hubTime))] ∧
      ∀ k, k ≠ Obj.SailPort.MSGS_RX 0 → c.get k = s.core.get k) ∧
  (∀ (s : State) (sp : SailNo) (a : SailArrival) (m : SailIn), s.core.seqUp = true → s.core.spState sp.val = 3 →
    sailParse a = some m → m.mtype = 4 → field 255 248 m.num = 1 → sp ≠ 0 →
    AnswersCore (.timeDreq sp a) s fun c =>
      c.out = [sailOut sp.val (s.core.timeMsg 2 (field 239 224 m.num) (stamp4 a.stamp.toNat))] ∧
      c.time = s.core.time ∧ ∀ k, k ≠ Obj.SailPort.MSGS_RX sp.val → c.get k = s.core.get k) ∧
  (∀ (s : State) (a : SailArrival) (m : SailIn) (x : TimeEx) (delay : Rat), s.core.seqUp = true → s.core.spState 0 = 3 →
    sailParse a = some m → m.mtype = 4 → field 255 248 m.num = 2 → s.core.timeMode = 2 → s.core.time.exchange = some x →
    x.num = field 239 224 m.num →
    delay = (nsOf x.t2 x.t1 + nsOf (field 191 96 m.num) x.t3) / 2 + (s.core.getInt (Obj.SailPort.ASYM_PS 0) : Rat) / 1000 →
    (x.valid = true → nsOf a.stamp.toNat x.t2 ≤ 100000 → AnswersCore (.timeDresp 0 a) s fun c =>
      c.time.exchange = none ∧ c.get (Obj.SailPort.LINK_DELAY_PS 0) = sat 32 (ratRound (delay * 1000)).toNat ∧
      Measured s (nsOf x.t2 x.t1 - delay) c) ∧
    (x.valid = false ∨ 100000 < nsOf a.stamp.toNat x.t2 → AnswersCore (.timeDresp 0 a) s fun c =>
      c.time = { s.core.time with exchange := none } ∧ c.hubTime = s.core.hubTime ∧
      ∀ k, k ≠ Obj.SailPort.MSGS_RX 0 → c.get k = s.core.get k)) ∧
  (∀ (s : State) (m : PtpAnnounce) (others : List (Nat × Nat)), s.core.seqUp = true → s.core.timeRuns = true →
    s.core.timeMode = 1 → m.domain.toNat = s.core.get Obj.Time.PTP_DOMAIN →
    others = s.core.time.masters.filter (fun x => x.1 != m.clockIdentity.toNat) →
    AnswersCore (.ptpAnnounce m) s fun c =>
      (m.arb = false → c.time.masters = others ++ [(m.clockIdentity.toNat, m.quality.toNat)]) ∧
      (m.arb = true → c.time.masters = others ∧ c.bitOf Obj.Time.FLAGS 2 = true) ∧
      (c.time.masters = [] → c.get Obj.Time.PTP_GM_ID = 0) ∧
      (c.time.masters ≠ [] → ∃ b ∈ c.time.masters, c.get Obj.Time.PTP_GM_ID = b.1 ∧
        ∀ x ∈ c.time.masters, b.2 / 256 < x.2 / 256 ∨ (b.2 / 256 = x.2 / 256 ∧ b.1 ≤ x.1)) ∧
      (m.arb = false → c.get Obj.Time.FLAGS = s.core.get Obj.Time.FLAGS) ∧
      ∀ k, k ≠ Obj.Time.PTP_GM_ID → k ≠ Obj.Time.FLAGS → c.get k = s.core.get k) ∧
  (∀ (s : State) (m : PtpSync), s.core.seqUp = true → s.core.timeRuns = true → s.core.timeMode = 1 →
    s.core.time.masters ≠ [] → m.clockIdentity.toNat = s.core.get Obj.Time.PTP_GM_ID →
    (∀ o : BitVec 96, m.origin = some o → AnswersCore (.ptpSync m) s fun c =>
      (s.core.time.sync = none →
        c.time.sync = some (m.clockIdentity.toNat, some o.toNat, m.arrival.toNat, m.departure.toNat)) ∧
      (∀ t d, s.core.time.sync = some (m.clockIdentity.toNat, none, t, d) →
        c.time.sync = some (m.clockIdentity.toNat, some o.toNat, t, m.departure.toNat)) ∧
      c.out = [.delayReq] ∧ ∀ k, c.get k = s.core.get k) ∧
    (m.origin = none → AnswersCore (.ptpSync m) s fun c =>
      c.time.sync = some (m.clockIdentity.toNat, none, m.arrival.toNat, m.departure.toNat) ∧ c.out = [] ∧
      ∀ k, c.get k = s.core.get k)) ∧
  (∀ (s : State) (m : PtpDelayResp) (id t1 t2 t3 : Nat) (o : Rat), s.core.seqUp = true → s.core.timeRuns = true →
    s.core.timeMode = 1 → s.core.time.sync = some (id, some t1, t2, t3) → id = m.clockIdentity.toNat →
    o = (nsOf t2 t1 - nsOf m.receive.toNat t3) / 2 →
    (s.core.isSet Obj.Time.PPS_MODE = false ∨ 10000 < ratAbs o → AnswersCore (.ptpDelayResp m) s fun c =>
      c.time.sync = none ∧ Measured s o c) ∧
    (s.core.isSet Obj.Time.PPS_MODE = true → ratAbs o ≤ 10000 → AnswersCore (.ptpDelayResp m) s fun c =>
      c.time = { s.core.time with sync := none, ptpClose := true } ∧ c.hubTime = s.core.hubTime ∧
      ∀ k, c.get k = s.core.get k)) ∧
  (∀ (s : State) (stamp : BitVec 96) (o : Rat), s.core.seqUp = true → s.core.timeRuns = true → s.core.timeMode = 1 →
    s.core.isSet Obj.Time.PPS_MODE = true →
    o = (stamp.toNat : Rat) / 4294967296 - (ratRound ((stamp.toNat : Rat) / 4294967296 / 1000000000) : Rat) * 1000000000 →
    (10000 < ratAbs o → AnswersCore (.ppsEdge stamp) s fun c =>
      c.get Obj.Time.PPS_REJECTS = min (s.core.get Obj.Time.PPS_REJECTS + 1) (2 ^ 32 - 1) ∧ c.bitOf Obj.Time.FLAGS 3 = true ∧
      c.hubTime = s.core.hubTime ∧ ∀ k, k ≠ Obj.Time.PPS_REJECTS → k ≠ Obj.Time.FLAGS → c.get k = s.core.get k) ∧
    (ratAbs o ≤ 10000 → s.core.time.ptpClose = true → AnswersCore (.ppsEdge stamp) s fun c => Measured s o c) ∧
    (ratAbs o ≤ 10000 → s.core.time.ptpClose = false → exec (.ppsEdge stamp) s = .next s.clear)) ∧
  (∀ (s : State), s.core.seqUp = true → s.core.timeRuns = true → s.core.timeMode ≠ 0 → s.core.get Obj.Time.DISC_STATE ≠ 3 →
    AnswersThen .holdover s fun c =>
      c.get Obj.Time.DISC_STATE = 3 ∧ c.get Obj.Time.TRIM = ofSigned 32 (trimOf s.core.time.f) ∧ c.bitOf Obj.Time.FLAGS 0 = true ∧
      c.time.last = none ∧ c.time.f = s.core.time.f ∧ c.hubTime = s.core.hubTime ∧ s.clear.core.Raises Src.timeLost c)

/-- The supervisors and the baton (R304, R401 to R403). A heartbeat takes the register's latest write, with RELEASE only from
the holder; one whose BEAT does not follow counts as none, and one that does and reports HEALTHY makes its half HEALTHY. One
that is 10 ms old ends that and raises SUP_WDOG, and a half in TRIAL reverts. Digests of a decision wait for each other; a
missing one is counted, and its half is not HEALTHY. Of R403's rows, in order: differing digests of HEALTHY halves, and both
CLAIMs of HEALTHY halves, keep the baton and raise BATON_CONFLICT; both CLAIMs, a holder that is not HEALTHY, and a RELEASE move
it to the other half where that one is HEALTHY, which raises BATON_MOVED and clears CLAIM and RELEASE; otherwise a CLAIM of the
other half is counted. -/
def Obligations.Batons : Prop :=
  (∀ (s : State) (h : Half) (v : BitVec 32), s.core.seq.aoUp = true → field 15 3 v.toNat = 0 →
    (s.core.halfSt h.val).running = true →
    AnswersCore (.heartbeatWrite h v) s fun c =>
      c.out = [.status .ok] ∧
      c.get Obj.Baton.HEARTBEATS =
        setField (beatBase h.val + 31) (beatBase h.val) (s.core.get Obj.Baton.HEARTBEATS) v.toNat ∧
      (c.halfSt h.val).claim = bit 1 v.toNat ∧
      (c.halfSt h.val).release = (bit 2 v.toNat && decide (s.core.get Obj.Baton.BATON = h.val)) ∧
      (field 31 16 v.toNat =
          (field (beatBase h.val + 31) (beatBase h.val + 16) (s.core.get Obj.Baton.HEARTBEATS) + 1) % 65536 →
        (c.halfSt h.val).alive = true ∧
        (bit 0 v.toNat = true → c.healthy h.val = true ∧ c.bitOf Obj.Baton.HEALTH_MASK h.val = true)) ∧
      (field 31 16 v.toNat ≠
          (field (beatBase h.val + 31) (beatBase h.val + 16) (s.core.get Obj.Baton.HEARTBEATS) + 1) % 65536 →
        (c.halfSt h.val).alive = (s.core.halfSt h.val).alive ∧ (c.halfSt h.val).onTime = (s.core.halfSt h.val).onTime) ∧
      ∀ k, k ≠ Obj.Baton.HEARTBEATS → k ≠ Obj.Baton.HEALTH_MASK → c.get k = s.core.get k) ∧
  (∀ (s : State) (h : Half), s.core.seqUp = true → (s.core.halfSt h.val).running = true →
    AnswersThen (.supWdog h) s fun c =>
      (s.core.halfState h.val ≠ 2 → c.healthy h.val = false ∧ c.bitOf Obj.Baton.HEALTH_MASK h.val = false) ∧
      (s.core.halfState h.val = 2 → c.bitOf Obj.Sec.FLAGS 5 = true ∧ c.halfState h.val ≠ 2) ∧
      s.clear.core.Raises (Src.supWdog h.val) c) ∧
  (∀ (s : State) (h : Half) (num : Nat) (digest : BitVec 32) (old : Option Decision), s.core.seq.aoUp = true →
    (s.core.halfSt h.val).running = true → old = s.core.decisions.find? (fun d => d.num == num) →
    AnswersCore (.decisionPost h num digest) s fun c =>
      (old = none → c.decisions = s.core.decisions ++
        [⟨num, if h.val = 0 then some digest.toNat else none, if h.val = 0 then none else some digest.toNat⟩]) ∧
      (∀ d x, old = some d → (if h.val = 0 then d.west else d.east) = some x →
        (x = digest.toNat → c.decisions = s.core.decisions.filter (fun d => d.num != num)) ∧
        (x ≠ digest.toNat → ∃ e ∈ c.decisions, e.num = num ∧ e.differs = true)) ∧
      ∀ k, c.get k = s.core.get k) ∧
  (∀ (s : State) (num late : Nat) (d : Decision), s.core.seq.aoUp = true →
    (s.core.decisions.find? fun e => e.num == num && (e.east.isNone || e.west.isNone)) = some d →
    late = (if d.east.isNone then 0 else 1) →
    AnswersCore (.decideMiss num) s fun c =>
      c.get Obj.Baton.DECIDE_MISS = min (s.core.get Obj.Baton.DECIDE_MISS + 1) (2 ^ 32 - 1) ∧ c.healthy late = false ∧
      c.bitOf Obj.Baton.HEALTH_MASK late = false ∧ c.decisions = s.core.decisions.filter (fun e => e.num != num) ∧
      ∀ k, k ≠ Obj.Baton.DECIDE_MISS → k ≠ Obj.Baton.HEALTH_MASK → c.get k = s.core.get k) ∧
  (∀ (s : State) (b cause : Nat) (claims : Bool), s.core.seq.aoUp = true → b = s.core.get Obj.Baton.BATON → b ≤ 1 →
    claims = ((s.core.halfSt 0).claim && (s.core.halfSt 1).claim) → s.core.healthy (1 - b) = true →
    (s.core.healthy b = false ∧ cause = (if claims then 1 else 2)) ∨
      (s.core.healthy b = true ∧ claims = false ∧ (∀ d ∈ s.core.decisions, d.differs = false) ∧
        (s.core.halfSt b).release = true ∧ cause = 3) →
    AnswersThen .batonArbitrate s fun c =>
      c.get Obj.Baton.BATON = 1 - b ∧ c.get Obj.Baton.LAST_MOVE_CAUSE = cause ∧ c.get Obj.Baton.T_LAST_MOVE = s.core.hubTime ∧
      c.get Obj.Baton.MOVES = min (s.core.get Obj.Baton.MOVES + 1) (2 ^ 32 - 1) ∧
      (s.core.injected Src.batonConflict = false → s.clear.core.Raises Src.batonMoved c) ∧
      ∀ h < 2, (c.halfSt h).claim = false ∧ (c.halfSt h).release = false) ∧
  (∀ (s : State), s.core.seq.aoUp = true → s.core.healthy 0 = true → s.core.healthy 1 = true →
    (s.core.decisions.any Decision.differs = true ∨ ((s.core.halfSt 0).claim = true ∧ (s.core.halfSt 1).claim = true)) →
    AnswersThen .batonArbitrate s fun c =>
      c.get Obj.Baton.BATON = s.core.get Obj.Baton.BATON ∧ c.get Obj.Baton.MOVES = s.core.get Obj.Baton.MOVES ∧
      (s.clear.core.Hears Src.batonConflict → c.bitOf (Obj.Source.STATUS Src.batonConflict) 4 = true) ∧
      s.clear.core.Raises Src.batonConflict c) ∧
  (∀ (s : State) (b : Nat), s.core.seq.aoUp = true → b = s.core.get Obj.Baton.BATON → b ≤ 1 →
    (∀ d ∈ s.core.decisions, d.differs = false) → s.core.healthy b = true → (s.core.halfSt b).release = false →
    (s.core.halfSt b).claim = false → (s.core.halfSt (1 - b)).claim = true → s.core.injected Src.batonConflict = false →
    s.core.pairOf Src.batonConflict = 0 →
    AnswersCore .batonArbitrate s fun c =>
      c.get Obj.Baton.CLAIM_REFUSED = min (s.core.get Obj.Baton.CLAIM_REFUSED + 1) (2 ^ 32 - 1) ∧
      (c.halfSt (1 - b)).claim = false ∧ ∀ k, k ≠ Obj.Baton.CLAIM_REFUSED → c.get k = s.core.get k)

/-- Requests of a device state (R408 to R411, R414, R415, R418, R355). SERVICE is accepted in IDLE and DEGRADED with no stream,
context, job or lease at work, and changes the state objects alone. LEAVE_SERVICE goes to IDLE or DEGRADED; with EXTEST in force
the TAP is reset first. SLEEP takes the SR_EXIT credit of every subchannel that is not OFFLINE as one grant and orders its
self-refresh, or is refused with BUSY_SLUICE, which counts one refusal and sets REFUSED. WAKE demands the exit of every resting
subchannel that is not held, takes the bin of the start, and enters RESTORE; with none to take out and none to train the start
ends at once as a SLEEP_EXIT; with some to train alone it is in TRAIN. An entry that had not completed is given up. EXIT_SAFE
enters SELFTEST; with no commit of the objects' record pending every LEDGER object is read anew. A request whose conditions fail
ends with RETRY and changes nothing. -/
def Obligations.StateRequests : Prop :=
  (∀ (s : State) (w : World), Admits s w Obj.Dev.STATE_REQ 1 → s.core.inService = true → s.core.engineBusy = false →
    AnswersOk (.stateReqService w) s fun c =>
      c.dev = Dv.service ∧ c.get Obj.Dev.PREV_STATE = s.core.dev ∧ c.get Obj.Dev.T_STATE = s.core.hubTime ∧
      c.bitOf Obj.Dev.FLAGS 0 = true ∧
      ∀ k, k ≠ Obj.Dev.PREV_STATE → k ≠ Obj.Dev.DEVICE_STATE → k ≠ Obj.Dev.T_STATE → k ≠ Obj.Dev.FLAGS →
        k ≠ Obj.Fc.PIN_STATE → c.get k = s.core.get k) ∧
  (∀ (s : State) (w : World), Admits s w Obj.Dev.STATE_REQ 2 → s.core.dev = Dv.service →
    AnswersOk (.stateReqLeaveService w) s fun c =>
      c.dev = s.core.serviceState ∧ c.get Obj.Dev.PREV_STATE = Dv.service ∧ c.get Obj.Dev.T_STATE = s.core.hubTime ∧
      c.tap = (if s.core.tap.instr = .extest then { mode := s.core.get Obj.Sec.JTAG_MODE, instr := .idcode } else s.core.tap) ∧
      ∀ k, k ≠ Obj.Dev.PREV_STATE → k ≠ Obj.Dev.DEVICE_STATE → k ≠ Obj.Dev.T_STATE → k ≠ Obj.Dev.FLAGS →
        k ≠ Obj.Fc.PIN_STATE → c.get k = s.core.get k) ∧
  (∀ (s : State) (w : World) (ask : List Nat), Admits s w Obj.Dev.STATE_REQ 3 → s.core.inService = true →
    s.core.engineBusy = false → (∀ n < 32, s.core.trainState n ≠ 1) →
    ask = ((List.range 32).filter fun n => !s.core.scOffline n).filter (fun n => !s.core.holds Ck.srExit n) →
    (s.core.admits (400 * ask.length) = true →
      AnswersOk (.stateReqSleep w) s fun c =>
        c.dev = Dv.sleep ∧ c.get Obj.Sluice.GRANTS = min (s.core.get Obj.Sluice.GRANTS + 1) (2 ^ 64 - 1) ∧
        c.granted = s.core.granted + 400 * ask.length ∧
        (∀ n < 32, s.core.scOffline n = false →
          c.holds Ck.srExit n = true ∧ (c.mcOf n).srWhy &&& 2 = 2 ∧ (c.resting n = true ∨ (c.mcOf n).srEntering = true))) ∧
    (s.core.admits (400 * ask.length) = false →
      AnswersThen (.stateReqSleep w) s fun c =>
        Out.status .busySluice ∈ c.out ∧ c.dev = s.core.dev ∧ c.bitOf Obj.Sluice.FLAGS 0 = true ∧
        c.get Obj.Sluice.REFUSALS = min (s.core.get Obj.Sluice.REFUSALS + 1) (2 ^ 32 - 1) ∧
        ∀ k, k ≠ Obj.Sluice.FLAGS → k ≠ Obj.Sluice.REFUSALS → c.get k = s.core.get k)) ∧
  (∀ (s : State) (w : World) (exits trains : Nat), Admits s w Obj.Dev.STATE_REQ 4 → s.core.dev = Dv.sleep →
    exits = (maskOf 32 fun n => s.core.resting n && !(s.core.mcOf n).held) →
    trains = (maskOf 32 fun n => s.core.binMoved && !(s.core.scOut n)) →
    AnswersOk (.stateReqWake w) s fun c =>
      c.get Hid.SPEED = s.core.get Obj.Phy.SPEED_BIN ∧
      (∀ n < 32, s.core.scOut n = false → (s.core.mcOf n).srEntering = true → s.core.resting n = false →
        (c.mcOf n).srEntering = false ∧ (c.mcOf n).srWhy = 0) ∧
      (∀ n < 32, s.core.resting n = true → (s.core.mcOf n).held = false → (c.mcOf n).srExiting = true) ∧
      (exits ≠ 0 → c.dev = Dv.restore ∧ c.start = some ⟨2, s.core.tick, exits, 0, trains, false⟩) ∧
      (exits = 0 → trains ≠ 0 → c.dev = Dv.train) ∧
      (exits = 0 → trains = 0 →
        c.dev = s.core.serviceState ∧ c.start = none ∧ c.get Obj.Dev.START_KIND = 2 ∧ c.get Obj.Dev.START_TIME_US = 0)) ∧
  (∀ (s : State) (w : World), Admits s w Obj.Dev.STATE_REQ 5 → s.core.dev = Dv.safe →
    (s.core.objs.any fun e => isSourceStatus e.1 && s.core.keepsSafe e.1 e.2) = false →
    AnswersOk (.stateReqExitSafe w) s fun c =>
      c.dev = Dv.selftest ∧ c.fc.fallback = false ∧ c.start = some ⟨3, s.core.tick, 0, 0, 0, false⟩ ∧
      ((s.core.ledgerOf 2).pending = false → ∀ k, isLedger k = true → c.get k = s.core.committed k)) ∧
  (∀ (s : State) (w : World) (x : Nat × Instr),
    x ∈ [(1, Instr.stateReqService w), (2, .stateReqLeaveService w), (3, .stateReqSleep w), (4, .stateReqWake w),
      (5, .stateReqExitSafe w)] → Admits s w Obj.Dev.STATE_REQ x.1 →
    (x.1 = 1 ∧ (s.core.inService = false ∨ s.core.engineBusy = true) ∨ x.1 = 2 ∧ s.core.dev ≠ Dv.service ∨
      x.1 = 3 ∧ (s.core.inService = false ∨ s.core.engineBusy = true ∨ ∃ n < 32, s.core.trainState n = 1) ∨
      x.1 = 4 ∧ s.core.dev ≠ Dv.sleep ∨
      x.1 = 5 ∧ (s.core.dev ≠ Dv.safe ∨ (s.core.objs.any fun e => isSourceStatus e.1 && s.core.keepsSafe e.1 e.2) = true)) →
    exec x.2 s = .next { s.clear with core := { s.clear.core with out := [.status .retry] } })

/-- The end of SELFTEST, restores, the flush of SAFE and the orderly phase (R408, R410 to R413, R416, R419, R422). A failed fuse
field raises SEC_FUSE and keeps SELFTEST. Otherwise the channels keep or refuse their calibrations, enabled ports that are DOWN
begin bring-up, and the subchannels that are neither OFFLINE nor held leave self-refresh, are restored or are trained: with none
to take out and none to restore the device enters TRAIN, else RESTORE. A verified restore publishes and leaves its subchannel
TRAINED with T_CAL at T; a failed one counts in RESTORE_FAILS and sends it to training; the last one ends the start, or begins
TRAIN. Either way the content is lost. SAFE_FLUSH counts and discards the elastic blocks that no commit took, disables the
streams, and orders every TRAINED subchannel that is neither OFFLINE nor held into self-refresh with a forced credit; outside
SAFE it does nothing. The orderly phase ends, ready or at its time limit, which sets SHUTDOWN_FORCED, and DESCENT runs; before
that nothing happens. -/
def Obligations.Starts : Prop :=
  (∀ (s : State) (x : SelftestResult) (r : StartRun), x.wf = true → s.core.seqUp = true → s.core.start = some r →
    s.core.dev = Dv.selftest → r.origin = 0 → x.fuseBad = true → (s.core.fc.running = true ∨ s.core.fc.held = []) →
    AnswersThen (.selftestDone x) s fun c =>
      c.fc.running = true ∧ c.dev = Dv.selftest ∧ c.start = some r ∧ s.core.startCollector.Raises Src.secFuse c) ∧
  (∀ (s : State) (x : SelftestResult) (r : StartRun) (moved : Bool), x.wf = true → x.checkers = [] → s.core.seqUp = true →
    s.core.start = some r → s.core.dev = Dv.selftest → (s.core.fc.running = true ∨ s.core.fc.held = []) →
    (r.origin = 3 ∨ (r.origin = 0 ∧ x.fuseBad = false ∧ x.millpond = none ∧ s.core.booted = true ∧
      (∀ h < 2, s.core.halfState h ≠ 3) ∧ (s.core.ledgerOf 2).topSeq + 1 ≠ 0xFFFFFFFF)) →
    (∀ k < 16, s.core.get (Obj.KeySlot.KEY k) = 0) → s.core.get Obj.Loa.ADMIT_KEY = 0 → moved = s.core.binMoved →
    AnswersThen (.selftestDone x) s fun c =>
      c.fc.running = true ∧ c.get Hid.SPEED = s.core.get Obj.Phy.SPEED_BIN ∧
      (∀ ch < 25, ∀ t, x.trims[ch]?.join = some t →
        (c.monOf ch).offset = t.1 ∧ (c.monOf ch).gain = t.2 ∧ c.bitOf Obj.Mon.REFUSED_MASK ch = false) ∧
      (∀ ch < 25, x.trims[ch]?.join = none → c.bitOf Obj.Mon.REFUSED_MASK ch = true) ∧
      (∀ p < 8, s.core.bitOf Obj.Hr.PORT_ENABLE p = true → s.core.portState p = 0 → c.portState p = 1) ∧
      ∀ exits restores trains,
        exits = (maskOf 32 fun n => !(s.core.scOut n) && s.core.resting n) →
        restores = (maskOf 32 fun n => !(s.core.scOut n) && !(s.core.resting n) && c.hasSet n && !moved) →
        trains = (maskOf 32 fun n => !(s.core.scOut n) && (moved || (!(s.core.resting n) && !(c.hasSet n)))) →
        (exits ≠ 0 ∨ restores ≠ 0 →
          c.dev = Dv.restore ∧ c.start = some { r with exits := exits, restores := restores, trains := trains } ∧
          (∀ n < 32, exits.testBit n = true → (c.mcOf n).srExiting = true) ∧
          ∀ n < 32, restores.testBit n = true → c.waits Ck.restore n = true) ∧
        (exits = 0 → restores = 0 → trains ≠ 0 →
          c.dev = Dv.train ∧ c.start = some { r with exits := 0, restores := 0, trains := trains } ∧
          ∀ n < 32, trains.testBit n = true → c.trainState n = 1 ∧ c.waits Ck.train n = true)) ∧
  (∀ (s : State) (sc : ScNo) (l : List LaneCheck) (hard : List Bool) (r : StartRun), l.length = 20 → s.core.hubUp = true →
    s.core.start = some r → s.core.dev = Dv.restore → r.restores.testBit sc.val = true →
    s.core.holds Ck.restore sc.val = true →
    (∀ i < 20, s.core.markedLane sc.val (i / 10) ≠ some (i % 10) → checkResult (nth l i ⟨0, false⟩) ≠ 3) →
    AnswersAll (.restoreDone sc ⟨l, hard⟩) s fun u =>
      u.core.get (Obj.Train.TRAIN_STATE sc.val) = 2 ∧ u.core.get (Obj.FtSc.T_CAL sc.val) = ofSigned 32 (s.core.tempOf sc.val) ∧
      u.core.get (Obj.FtSc.T_CAL_TIME sc.val) = s.core.hubTime ∧ u.mem = s.mem.lose sc.val ∧ u.fuses = s.fuses ∧
      u.latch = s.latch ∧
      ((r.exits ≠ 0 ∨ setBitTo sc.val false r.restores ≠ 0) → u.core.dev = Dv.restore ∧
        u.core.start = some { r with restores := setBitTo sc.val false r.restores }) ∧
      (r.exits = 0 → setBitTo sc.val false r.restores = 0 → r.trains ≠ 0 → u.core.dev = Dv.train) ∧
      (r.exits = 0 → setBitTo sc.val false r.restores = 0 → r.trains = 0 →
        u.core.dev = u.core.serviceState ∧ u.core.start = none ∧
        u.core.get Obj.Dev.START_KIND = if r.origin = 0 then (if r.cold then 0 else 1) else r.origin)) ∧
  (∀ (s : State) (sc : ScNo) (l : List LaneCheck) (hard : List Bool) (r : StartRun), l.length = 20 → s.core.hubUp = true →
    s.core.start = some r → s.core.dev = Dv.restore → r.restores.testBit sc.val = true →
    s.core.holds Ck.restore sc.val = true →
    (∃ i < 20, s.core.markedLane sc.val (i / 10) ≠ some (i % 10) ∧ checkResult (nth l i ⟨0, false⟩) = 3) →
    AnswersAll (.restoreDone sc ⟨l, hard⟩) s fun u =>
      u.core.get Obj.Dev.RESTORE_FAILS = min (s.core.get Obj.Dev.RESTORE_FAILS + 1) (2 ^ 32 - 1) ∧
      u.core.bitOf Obj.Dev.FLAGS 3 = true ∧ u.mem = s.mem.lose sc.val ∧ u.fuses = s.fuses ∧ u.latch = s.latch ∧
      u.core.start = some { r with
        restores := setBitTo sc.val false r.restores
        trains := setBitTo sc.val true r.trains } ∧
      ((r.exits ≠ 0 ∨ setBitTo sc.val false r.restores ≠ 0) → u.core.dev = Dv.restore) ∧
      (r.exits = 0 → setBitTo sc.val false r.restores = 0 → s.core.trainState sc.val ≠ 1 →
        u.core.dev = Dv.train ∧ u.core.trainState sc.val = 1 ∧ u.core.waits Ck.train sc.val = true)) ∧
  (∀ (s : State), s.core.seqUp = true → s.core.dev = Dv.safe →
    (∀ e ∈ s.core.wins, s.core.get (Obj.Window.STATE e.1) ≠ 2) → (∀ e ∈ s.core.streams, e.1 < 256) →
    (∀ st < 256, s.core.stState st ≠ St.disabled → s.core.get (Obj.Stream.REGION st) < 1024) →
    AnswersThen .safeFlush s fun c =>
      c.get Obj.Dev.SAFE_LOST_BLOCKS = min (s.core.get Obj.Dev.SAFE_LOST_BLOCKS +
        (s.core.streams.map fun e => (e.2.blocks.filter fun b => b.uncommitted.isSome).length).sum) (2 ^ 64 - 1) ∧
      (∀ st < 256, c.stState st = St.disabled ∧ (s.core.stState st ≠ St.disabled → (c.streamOf st).blocks = [])) ∧
      c.dev = Dv.safe ∧
      ∀ n < 32, s.core.trainState n = 2 → s.core.scOffline n = false → (s.core.mcOf n).held = false →
        c.holds Ck.srExit n = true ∧ (c.mcOf n).srWhy &&& 8 = 8 ∧ (c.resting n = true ∨ (c.mcOf n).srEntering = true)) ∧
  (∀ (s : State), (s.core.seqUp = false ∨ s.core.dev ≠ Dv.safe) → exec .safeFlush s = .next s.clear) ∧
  (∀ (s : State) (forced : Bool), s.core.seq.aoUp = true → s.core.seq.orderly = true → s.core.dev = Dv.descent →
    s.core.descentList ≠ [] → (∀ e ∈ s.core.wins, s.core.get (Obj.Window.STATE e.1) ≠ 2) → (∀ e ∈ s.core.streams, e.1 < 256) →
    (∀ st < 256, s.core.stState st ≠ St.disabled → s.core.get (Obj.Stream.REGION st) < 1024) →
    (forced = true ∨ ((∀ st < 256, s.core.stState st = St.disabled) ∧ ∀ r < 3, (s.core.ledgerOf r).run = none)) →
    AnswersThen (.shutdownPhaseEnd forced) s fun c =>
      c.get Obj.Seq.SEQ_STATE = 3 ∧ c.dev = Dv.descent ∧ c.seq.orderly = false ∧ c.seq.todo = s.core.descentList ∧
      (∀ st < 256, c.stState st = St.disabled) ∧ (forced = true → c.bitOf Obj.Dev.FLAGS 2 = true)) ∧
  (∀ (s : State), s.core.seq.aoUp = true →
    (s.core.seq.orderly = false ∨ (∃ st < 256, s.core.stState st ≠ St.disabled) ∨ ∃ r < 3, (s.core.ledgerOf r).run ≠ none) →
    exec (.shutdownPhaseEnd false) s = .next s.clear)

/-- Orders to a subchannel, its return, and Sluice (R186, R408, R420 to R425). OFFLINE leaves service at once, or, from
self-refresh, through its exit, at once where the exit may begin. HOLD takes the SR_EXIT credit, unless it holds one, and orders
self-refresh; refused, it ends with BUSY_SLUICE. ONLINE returns a TRAINED subchannel from OFFLINE, its kept requests first in
the FIFO of 32; with its content lost it asks for the FILL credit, once; a held one demands its exit, or returns at once where
its entry had not completed. In IDLE and DEGRADED the device state follows. An order that finds nothing to do ends with OK, and
one whose state forbids it with RETRY. The hold time runs out for a subchannel that is OFFLINE or held; the fill ends with the
marks of R422 and the return to service; the head of the queue is granted when it fits, which sets OVER_POOL where it is larger
than the pool, and else waits; a training then begins its time. -/
def Obligations.ScOrders : Prop :=
  (∀ (s : State) (sc : ScNo) (w : World), Admits s w (Obj.ScOrder.SC_ORDER sc.val) 1 →
    (s.core.inService = true ∨ s.core.dev = Dv.service) → s.core.trainState sc.val ≠ 1 →
    (s.core.resting sc.val = false ∨ (s.core.scState sc.val = 2 ∧ (∀ n ∈ s.core.srQueue, n = sc.val) ∧
      s.core.exitMayBegin sc.val = true ∧ (s.core.ddrOf sc.val).alertLow = false ∧ (s.core.ddrOf sc.val).alertOwed = false)) →
    AnswersOk (.scOrderOffline sc w) s fun c =>
      c.scState sc.val = 3 ∧ (c.mcOf sc.val).held = false ∧
      (s.core.scOffline sc.val = false → (c.mcOf sc.val).holdOver = false) ∧
      c.get Obj.ScMask.CONTENT_LOST = s.core.get Obj.ScMask.CONTENT_LOST ∧
      (s.core.inService = true → c.dev = Dv.degraded) ∧ (s.core.dev = Dv.service → c.dev = Dv.service) ∧
      ∀ n < 32, n ≠ sc.val → c.scState n = s.core.scState n) ∧
  (∀ (s : State) (sc : ScNo) (w : World), Admits s w (Obj.ScOrder.SC_ORDER sc.val) 1 →
    (s.core.inService = true ∨ s.core.dev = Dv.service) → s.core.trainState sc.val ≠ 1 → s.core.resting sc.val = true →
    ¬(s.core.scState sc.val = 2 ∧ (∀ n ∈ s.core.srQueue, n = sc.val) ∧ s.core.exitMayBegin sc.val = true ∧
      (s.core.ddrOf sc.val).alertLow = false ∧ (s.core.ddrOf sc.val).alertOwed = false) →
    AnswersOk (.scOrderOffline sc w) s fun c =>
      (c.mcOf sc.val).srExiting = true ∧ (c.mcOf sc.val).offAfter = true ∧
      c.srQueue = s.core.srQueue ++ (if (s.core.mcOf sc.val).srExiting then [] else [sc.val]) ∧ ∀ k, c.get k = s.core.get k) ∧
  (∀ (s : State) (sc : ScNo) (w : World) (x : Nat × Instr),
    x ∈ [(1, Instr.scOrderOffline sc w), (2, .scOrderHold sc w), (3, .scOrderOnline sc w)] →
    Admits s w (Obj.ScOrder.SC_ORDER sc.val) x.1 →
    ((s.core.inService = false ∧ s.core.dev ≠ Dv.service) ∨ s.core.trainState sc.val = 1 ∨
      (x.1 = 3 ∧ s.core.scOffline sc.val = true ∧ s.core.trainState sc.val ≠ 2)) →
    exec x.2 s = .next { s.clear with core := { s.clear.core with out := [.status .retry] } }) ∧
  (∀ (s : State) (sc : ScNo) (w : World) (x : Nat × Instr), x ∈ [(2, Instr.scOrderHold sc w), (3, .scOrderOnline sc w)] →
    Admits s w (Obj.ScOrder.SC_ORDER sc.val) x.1 → (s.core.inService = true ∨ s.core.dev = Dv.service) →
    s.core.trainState sc.val ≠ 1 → s.core.scOut sc.val = decide (x.1 = 2) →
    exec x.2 s = .next { s.clear with core := { s.clear.core with out := [.status .ok] } }) ∧
  (∀ (s : State) (sc : ScNo) (w : World), Admits s w (Obj.ScOrder.SC_ORDER sc.val) 2 →
    (s.core.inService = true ∨ s.core.dev = Dv.service) → s.core.trainState sc.val ≠ 1 → s.core.scOut sc.val = false →
    (s.core.holds Ck.srExit sc.val = true ∨ s.core.admits 400 = true → AnswersOk (.scOrderHold sc w) s fun c =>
      (c.mcOf sc.val).held = true ∧ (c.mcOf sc.val).holdOver = false ∧ (c.mcOf sc.val).srWhy &&& 4 = 4 ∧
      (c.resting sc.val = true ∨ (c.mcOf sc.val).srEntering = true) ∧
      c.granted = s.core.granted + (if s.core.holds Ck.srExit sc.val then 0 else 400) ∧
      c.holds Ck.srExit sc.val = true ∧ (s.core.inService = true → c.dev = Dv.degraded)) ∧
    (s.core.holds Ck.srExit sc.val = false → s.core.admits 400 = false → AnswersThen (.scOrderHold sc w) s fun c =>
      Out.status .busySluice ∈ c.out ∧ (c.mcOf sc.val).held = false ∧ c.bitOf Obj.Sluice.FLAGS 0 = true ∧
      c.get Obj.Sluice.REFUSALS = min (s.core.get Obj.Sluice.REFUSALS + 1) (2 ^ 32 - 1) ∧
      ∀ k, k ≠ Obj.Sluice.FLAGS → k ≠ Obj.Sluice.REFUSALS → c.get k = s.core.get k)) ∧
  (∀ (s : State) (sc : ScNo) (w : World), Admits s w (Obj.ScOrder.SC_ORDER sc.val) 3 →
    (s.core.inService = true ∨ s.core.dev = Dv.service) → s.core.scOffline sc.val = true → s.core.trainState sc.val = 2 →
    (s.core.bitOf Obj.ScMask.CONTENT_LOST sc.val = true → AnswersOk (.scOrderOnline sc w) s fun c =>
      c.sluice.queue = s.core.sluice.queue ++
        (if s.core.waits Ck.fill sc.val || s.core.holds Ck.fill sc.val then [] else [⟨Ck.fill, sc.val, 1500, false⟩]) ∧
      ∀ k, c.get k = s.core.get k) ∧
    (s.core.bitOf Obj.ScMask.CONTENT_LOST sc.val = false → AnswersOk (.scOrderOnline sc w) s fun c =>
      c.scState sc.val = 0 ∧ (s.core.inService = true → c.dev = c.serviceState) ∧
      ((∀ p < 8, (s.core.portOf p).held = []) →
        (c.mcOf sc.val).wait = ((s.core.mcOf sc.val).kept ++ (s.core.mcOf sc.val).wait).take 32 ∧
        (c.mcOf sc.val).stalled = ((s.core.mcOf sc.val).kept ++ (s.core.mcOf sc.val).wait).drop 32 ++
          (s.core.mcOf sc.val).stalled ∧ (c.mcOf sc.val).kept = []))) ∧
  (∀ (s : State) (sc : ScNo) (w : World), Admits s w (Obj.ScOrder.SC_ORDER sc.val) 3 →
    (s.core.inService = true ∨ s.core.dev = Dv.service) → s.core.trainState sc.val ≠ 1 → s.core.scOffline sc.val = false →
    (s.core.mcOf sc.val).held = true →
    (s.core.resting sc.val = true → AnswersOk (.scOrderOnline sc w) s fun c =>
      (c.mcOf sc.val).srExiting = true ∧ (c.mcOf sc.val).held = true ∧ ∀ k, c.get k = s.core.get k) ∧
    (s.core.resting sc.val = false → AnswersOk (.scOrderOnline sc w) s fun c =>
      (c.mcOf sc.val).held = false ∧ (c.mcOf sc.val).srEntering = false ∧ (c.mcOf sc.val).srWhy = 0 ∧
      c.scState sc.val = s.core.scState sc.val ∧ (s.core.inService = true → c.dev = c.serviceState))) ∧
  (∀ (s : State) (sc : ScNo), s.core.seqUp = true →
    (s.core.scOut sc.val = true → (∀ p < 8, (s.core.portOf p).held = []) →
      AnswersCore (.offlineHoldExpiry sc) s fun c =>
        (c.mcOf sc.val).holdOver = true ∧ (∀ n, n ≠ sc.val → c.mcOf n = s.core.mcOf n) ∧ ∀ k, c.get k = s.core.get k) ∧
    (s.core.scOut sc.val = false → exec (.offlineHoldExpiry sc) s = .next s.clear)) ∧
  (∀ (s : State) (sc : ScNo), s.core.hubUp = true →
    (s.core.scOffline sc.val = true ∧ s.core.holds Ck.fill sc.val = true → (∀ p < 8, (s.core.portOf p).held = []) →
      AnswersAll (.fillDone sc) s fun u =>
        u.core.bitOf Obj.ScMask.CONTENT_LOST sc.val = false ∧ u.core.scState sc.val = 0 ∧
        u.mem = s.mem.rebase sc.val .filled ∧ (s.core.inService = true → u.core.dev = u.core.serviceState) ∧
        (∀ i, i ≠ sc.val → u.core.bitOf Obj.ScMask.CONTENT_LOST i = s.core.bitOf Obj.ScMask.CONTENT_LOST i) ∧
        u.fuses = s.fuses ∧ u.latch = s.latch) ∧
    (s.core.scOffline sc.val = false ∨ s.core.holds Ck.fill sc.val = false → exec (.fillDone sc) s = .next s.clear)) ∧
  (∀ (s : State) (x : Credit) (rest : List Credit), s.core.hubUp = true → s.core.sluice.queue = x :: rest →
    s.core.headFits = true → x.kind ≠ Ck.train →
    AnswersCore .sluiceGrant s fun c =>
      c.sluice.queue = rest ∧ c.sluice.held = s.core.sluice.held ++ [x] ∧
      c.get Obj.Sluice.GRANTS = min (s.core.get Obj.Sluice.GRANTS + 1) (2 ^ 64 - 1) ∧
      c.get Obj.Sluice.PEAK_GRANTED_MW = max (s.core.get Obj.Sluice.PEAK_GRANTED_MW) (s.core.granted + x.mw) ∧
      (s.core.pool < x.mw → c.bitOf Obj.Sluice.FLAGS 1 = true) ∧
      (x.mw ≤ s.core.pool → c.get Obj.Sluice.FLAGS = s.core.get Obj.Sluice.FLAGS) ∧
      ∀ k, k ≠ Obj.Sluice.GRANTS → k ≠ Obj.Sluice.PEAK_GRANTED_MW → k ≠ Obj.Sluice.FLAGS → c.get k = s.core.get k) ∧
  (∀ (s : State) (rest : List Credit) (n : Nat), n < 32 → s.core.hubUp = true →
    s.core.sluice.queue = ⟨Ck.train, n, 2400, false⟩ :: rest → s.core.headFits = true →
    AnswersThen .sluiceGrant s fun c =>
      c.sluice.queue = rest ∧ c.holds Ck.train n = true ∧
      c.get Obj.Sluice.GRANTS = min (s.core.get Obj.Sluice.GRANTS + 1) (2 ^ 64 - 1) ∧
      ∀ t, (s.core.ddrOf n).train = some t → c.get (Obj.Train.READY n) = 0 ∧
        (c.ddrOf n).train = some { t with waiting := false, start := s.core.tick }) ∧
  (∀ (s : State), s.core.hubUp = true → s.core.headFits = false → exec .sluiceGrant s = .next s.clear)
end

