-- ==== Sys2Proof/Laws/Bits.lean ====
section
/-! SUPPORT. What the bit operations do. -/

namespace Sys2Proof.Machine

theorem testBit_succ_even (q k : Nat) (h : q % 2 = 0) : (q + 1).testBit k = if k = 0 then true else q.testBit k := by
  cases k with
  | zero => simp [Nat.testBit_zero]; omega
  | succ k => simp only [Nat.testBit_succ, Nat.succ_ne_zero, if_false]; congr 1; omega

theorem testBit_add_two_pow (v n i : Nat) (h : v.testBit n = false) :
    (v + 2 ^ n).testBit i = if i = n then true else v.testBit i := by
  have hq : v / 2 ^ n % 2 = 0 := by
    have := h; rw [Nat.testBit_eq_decide_div_mod_eq] at this; simp at this; omega
  have hv : v + 2 ^ n = 2 ^ n * (v / 2 ^ n + 1) + v % 2 ^ n := by
    have := Nat.div_add_mod v (2 ^ n); rw [Nat.mul_add]; omega
  have hw : v = 2 ^ n * (v / 2 ^ n) + v % 2 ^ n := (Nat.div_add_mod v (2 ^ n)).symm
  have hlt : v % 2 ^ n < 2 ^ n := Nat.mod_lt _ (Nat.two_pow_pos n)
  rw [hv, Nat.testBit_two_pow_mul_add _ hlt]
  conv_rhs => rw [hw, Nat.testBit_two_pow_mul_add _ hlt]
  by_cases hi : i < n
  · simp [hi, Nat.ne_of_lt hi]
  · simp only [hi, if_false, testBit_succ_even _ _ hq]
    by_cases he : i = n
    · simp [he]
    · simp [he, show i - n ≠ 0 by omega]

theorem testBit_sub_two_pow (v n i : Nat) (h : v.testBit n = true) :
    (v - 2 ^ n).testBit i = if i = n then false else v.testBit i := by
  have hle : 2 ^ n ≤ v := Nat.ge_two_pow_of_testBit h
  have hn : (v - 2 ^ n).testBit n = false := by
    have hq : v / 2 ^ n % 2 = 1 := by rw [Nat.testBit_eq_decide_div_mod_eq] at h; simpa using h
    rw [Nat.testBit_eq_decide_div_mod_eq, decide_eq_false_iff_not]
    have := Nat.sub_mul_div v (2 ^ n) 1
    simp only [mul_one] at this
    rw [this]; omega
  have := testBit_add_two_pow (v - 2 ^ n) n i hn
  rw [Nat.sub_add_cancel hle] at this
  by_cases hi : i = n
  · simp [hi, hn]
  · simp only [hi, if_false] at this ⊢; exact this.symm

/-- Every bit of a value after one bit was set or cleared. -/
theorem testBit_setBitTo (n : Nat) (b : Bool) (v i : Nat) :
    (setBitTo n b v).testBit i = if i = n then b else v.testBit i := by
  unfold setBitTo
  cases h : v.testBit n <;> cases b <;> simp only [Bool.false_eq_true, if_true, if_false]
  · by_cases hi : i = n <;> simp [hi, h]
  · exact testBit_add_two_pow v n i h
  · exact testBit_sub_two_pow v n i h
  · by_cases hi : i = n <;> simp [hi, h]

@[simp] theorem testBit_setBitTo_self (n : Nat) (b : Bool) (v : Nat) : (setBitTo n b v).testBit n = b := by
  simp [testBit_setBitTo]

theorem testBit_setBitTo_ne {n i : Nat} (b : Bool) (v : Nat) (h : i ≠ n) : (setBitTo n b v).testBit i = v.testBit i := by
  simp [testBit_setBitTo, h]

theorem setBitTo_lt (n w : Nat) (b : Bool) (v : Nat) (hn : n < w) (hv : v < 2 ^ w) : setBitTo n b v < 2 ^ w := by
  refine Nat.lt_pow_two_of_testBit _ fun i hi => ?_
  rw [testBit_setBitTo_ne b v (by omega)]
  exact Nat.testBit_lt_two_pow (lt_of_lt_of_le hv (Nat.pow_le_pow_right (by decide) hi))

@[simp] theorem toBytes_length (n v : Nat) : (toBytes n v).length = n := by
  induction n with
  | zero => rfl
  | succ n ih => simp [toBytes, ih]

theorem ofBytes_foldl (l : List Byte) (a : Nat) :
    l.foldl (fun x b => x * 256 + b.toNat) a = a * 256 ^ l.length + l.foldl (fun x b => x * 256 + b.toNat) 0 := by
  induction l generalizing a with
  | nil => simp
  | cons b t ih =>
    simp only [List.foldl_cons, List.length_cons]
    rw [ih, ih (0 * 256 + b.toNat)]
    ring

/-- A number that fits is read back from its bytes (R5). -/
theorem ofBytes_toBytes (n v : Nat) : ofBytes (toBytes n v) = v % 256 ^ n := by
  induction n with
  | zero => simp [toBytes, ofBytes, Nat.mod_one]
  | succ n ih =>
    unfold ofBytes at ih ⊢
    simp only [toBytes, List.foldl_cons]
    rw [ofBytes_foldl, ih, toBytes_length]
    have h : (BitVec.ofNat 8 (v / 256 ^ n)).toNat = v / 256 ^ n % 256 := BitVec.toNat_ofNat _ _
    rw [h, Nat.zero_mul, Nat.zero_add, Nat.pow_succ, Nat.mod_mul]
    ring

theorem ofBytes_toBytes_of_lt {n v : Nat} (h : v < 256 ^ n) : ofBytes (toBytes n v) = v := by
  rw [ofBytes_toBytes, Nat.mod_eq_of_lt h]

theorem sat_of_lt {w v : Nat} (h : v < 2 ^ w) : sat w v = v := by simp [sat, h]

theorem sat_lt (w v : Nat) : sat w v < 2 ^ w := by
  unfold sat; split
  · assumption
  · have := Nat.two_pow_pos w; omega

end Sys2Proof.Machine
end

