-- ==== Sys2Proof/Laws/Tbl.lean ====
section
/-! SUPPORT. What the table operations do: reads after writes, and that the canonical form is kept. -/

namespace Sys2Proof.Machine

variable {α : Type} (d : Nat → α)

/-! ## Reads -/

@[simp] theorem Tbl.get_nil (n : Nat) : Tbl.get d [] n = d n := rfl

theorem Tbl.get_erase_self (t : Tbl α) (n : Nat) : Tbl.get d (t.erase n) n = d n := by
  induction t with
  | nil => rfl
  | cons e t ih =>
    obtain ⟨k, v⟩ := e
    by_cases h : n = k
    · simp [Tbl.erase, h] at ih ⊢; exact ih
    · simp [Tbl.erase, h, Tbl.get]; exact ih

theorem Tbl.get_erase_ne (t : Tbl α) {n m : Nat} (h : m ≠ n) : Tbl.get d (t.erase n) m = Tbl.get d t m := by
  induction t with
  | nil => rfl
  | cons e t ih =>
    obtain ⟨k, v⟩ := e
    by_cases hk : n = k
    · subst hk; simp [Tbl.erase, Tbl.get, h, ih]
    · simp [Tbl.erase, hk, Tbl.get, ih]

theorem Tbl.not_mem_erase (t : Tbl α) (n : Nat) : ∀ e ∈ t.erase n, e.1 ≠ n := by
  induction t with
  | nil => simp [Tbl.erase]
  | cons e t ih =>
    obtain ⟨k, v⟩ := e
    by_cases h : n = k
    · simp only [Tbl.erase, h, if_true]; subst h; exact ih
    · simp only [Tbl.erase, h, if_false, List.mem_cons]
      rintro e (rfl | he)
      · exact fun h' => h h'.symm
      · exact ih e he

theorem Tbl.get_insert_self (t : Tbl α) (n : Nat) (x : α) (h : ∀ e ∈ t, e.1 ≠ n) : Tbl.get d (t.insert n x) n = x := by
  induction t with
  | nil => simp [Tbl.insert, Tbl.get]
  | cons e t ih =>
    obtain ⟨k, v⟩ := e
    have hk : n ≠ k := fun h' => h (k, v) (by simp) h'.symm
    by_cases hl : n < k
    · simp [Tbl.insert, hl, Tbl.get]
    · simp [Tbl.insert, hl, Tbl.get, hk]
      exact ih fun e he => h e (by simp [he])

theorem Tbl.get_insert_ne (t : Tbl α) {n m : Nat} (x : α) (h : m ≠ n) :
    Tbl.get d (t.insert n x) m = Tbl.get d t m := by
  induction t with
  | nil => simp [Tbl.insert, Tbl.get, h]
  | cons e t ih =>
    obtain ⟨k, v⟩ := e
    by_cases hl : n < k
    · simp [Tbl.insert, hl, Tbl.get, h]
    · simp [Tbl.insert, hl, Tbl.get, ih]

variable [DecidableEq α]

@[simp] theorem Tbl.get_set_self (t : Tbl α) (n : Nat) (x : α) : Tbl.get d (Tbl.set d t n x) n = x := by
  unfold Tbl.set
  split
  · next h => rw [Tbl.get_erase_self]; exact h.symm
  · exact Tbl.get_insert_self d _ n x (Tbl.not_mem_erase t n)

theorem Tbl.get_set_ne (t : Tbl α) {n m : Nat} (x : α) (h : m ≠ n) :
    Tbl.get d (Tbl.set d t n x) m = Tbl.get d t m := by
  unfold Tbl.set
  split
  · exact Tbl.get_erase_ne d t h
  · rw [Tbl.get_insert_ne d _ x h, Tbl.get_erase_ne d t h]

theorem Tbl.get_set (t : Tbl α) (n m : Nat) (x : α) :
    Tbl.get d (Tbl.set d t n x) m = if m = n then x else Tbl.get d t m := by
  split
  · next h => subst h; simp
  · next h => exact Tbl.get_set_ne d t x h

@[simp] theorem Tbl.get_upd_self (t : Tbl α) (n : Nat) (f : α → α) :
    Tbl.get d (Tbl.upd d t n f) n = f (Tbl.get d t n) := by simp [Tbl.upd]

theorem Tbl.get_upd_ne (t : Tbl α) {n m : Nat} (f : α → α) (h : m ≠ n) :
    Tbl.get d (Tbl.upd d t n f) m = Tbl.get d t m := Tbl.get_set_ne d t _ h

omit [DecidableEq α] in
theorem Tbl.get_drop_keep (t : Tbl α) (p : Nat → Bool) (n : Nat) (h : p n = false) :
    Tbl.get d (t.drop p) n = Tbl.get d t n := by
  induction t with
  | nil => rfl
  | cons e t ih =>
    obtain ⟨k, v⟩ := e
    by_cases hk : p k = true
    · have hn : n ≠ k := fun h' => by rw [h', hk] at h; exact absurd h (by decide)
      simp only [Tbl.drop, List.filter_cons, hk, Bool.not_true, Bool.false_eq_true, if_false, Tbl.get, hn] at ih ⊢
      exact ih
    · simp only [Tbl.drop, List.filter_cons, hk, Bool.not_false, if_true, Tbl.get] at ih ⊢
      rw [ih]

/-! ## The canonical form -/

omit [DecidableEq α] in
theorem Tbl.rising_iff (lo : Option Nat) (t : Tbl α) :
    Tbl.rising lo t = true ↔ (∀ b, lo = some b → ∀ e ∈ t, b < e.1) ∧ t.Pairwise fun a b => a.1 < b.1 := by
  induction t generalizing lo with
  | nil => simp [Tbl.rising]
  | cons e t ih =>
    obtain ⟨k, v⟩ := e
    simp only [Tbl.rising, Bool.and_eq_true, ih, List.pairwise_cons, List.mem_cons]
    constructor
    · rintro ⟨h1, h2, h3⟩
      refine ⟨?_, h2 k rfl, h3⟩
      rintro b rfl e (rfl | he)
      · simpa using h1
      · exact lt_trans (by simpa using h1) (h2 k rfl e he)
    · rintro ⟨h1, h2, h3⟩
      refine ⟨?_, fun b hb e he => ?_, h3⟩
      · cases lo with
        | none => rfl
        | some b => simpa using h1 b rfl (k, v) (Or.inl rfl)
      · cases hb; exact h2 e he

theorem Tbl.wf_iff (t : Tbl α) :
    Tbl.wf d t = true ↔ (t.Pairwise fun a b => a.1 < b.1) ∧ ∀ e ∈ t, e.2 ≠ d e.1 := by
  simp [Tbl.wf, Tbl.rising_iff, Tbl.proper]

omit [DecidableEq α] in
theorem Tbl.mem_erase {t : Tbl α} {n : Nat} {e : Nat × α} (h : e ∈ t.erase n) : e ∈ t := by
  induction t with
  | nil => exact h
  | cons a t ih =>
    obtain ⟨k, v⟩ := a
    by_cases hk : n = k
    · simp only [Tbl.erase, hk, if_true] at h; subst hk; exact List.mem_cons_of_mem _ (ih h)
    · simp only [Tbl.erase, hk, if_false, List.mem_cons] at h
      rcases h with rfl | h
      · exact List.mem_cons_self
      · exact List.mem_cons_of_mem _ (ih h)

omit [DecidableEq α] in
theorem Tbl.mem_insert {t : Tbl α} {n : Nat} {x : α} {e : Nat × α} (h : e ∈ t.insert n x) : e = (n, x) ∨ e ∈ t := by
  induction t with
  | nil => simpa [Tbl.insert] using h
  | cons a t ih =>
    obtain ⟨k, v⟩ := a
    by_cases hl : n < k
    · simpa [Tbl.insert, hl] using h
    · simp only [Tbl.insert, hl, if_false, List.mem_cons] at h ⊢
      rcases h with h | h
      · exact Or.inr (Or.inl h)
      · exact (ih h).imp id Or.inr

omit [DecidableEq α] in
theorem Tbl.pairwise_erase {t : Tbl α} (n : Nat) (h : t.Pairwise fun a b => a.1 < b.1) :
    (t.erase n).Pairwise fun a b => a.1 < b.1 := by
  induction t with
  | nil => exact h
  | cons a t ih =>
    obtain ⟨k, v⟩ := a
    rw [List.pairwise_cons] at h
    by_cases hk : n = k
    · simp only [Tbl.erase, hk, if_true]; subst hk; exact ih h.2
    · simp only [Tbl.erase, hk, if_false, List.pairwise_cons]
      exact ⟨fun e he => h.1 e (Tbl.mem_erase he), ih h.2⟩

omit [DecidableEq α] in
theorem Tbl.pairwise_insert {t : Tbl α} (n : Nat) (x : α) (hn : ∀ e ∈ t, e.1 ≠ n)
    (h : t.Pairwise fun a b => a.1 < b.1) : (t.insert n x).Pairwise fun a b => a.1 < b.1 := by
  induction t with
  | nil => simp [Tbl.insert]
  | cons a t ih =>
    obtain ⟨k, v⟩ := a
    have hc := h
    rw [List.pairwise_cons] at h
    by_cases hl : n < k
    · simp only [Tbl.insert, hl, if_true]
      rw [List.pairwise_cons]
      refine ⟨fun e he => ?_, hc⟩
      rcases List.mem_cons.1 he with rfl | he
      · exact hl
      · exact lt_trans hl (h.1 e he)
    · have hk : k < n := lt_of_le_of_ne (not_lt.1 hl) (hn (k, v) (by simp))
      simp only [Tbl.insert, hl, if_false, List.pairwise_cons]
      refine ⟨fun e he => ?_, ih (fun e he => hn e (by simp [he])) h.2⟩
      rcases Tbl.mem_insert he with rfl | he
      · exact hk
      · exact h.1 e he

theorem Tbl.wf_set (t : Tbl α) (n : Nat) (x : α) (h : Tbl.wf d t = true) : Tbl.wf d (Tbl.set d t n x) = true := by
  rw [Tbl.wf_iff] at h ⊢
  unfold Tbl.set
  split
  · exact ⟨Tbl.pairwise_erase n h.1, fun e he => h.2 e (Tbl.mem_erase he)⟩
  · next hx =>
    refine ⟨Tbl.pairwise_insert n x (Tbl.not_mem_erase t n) (Tbl.pairwise_erase n h.1), fun e he => ?_⟩
    rcases Tbl.mem_insert he with rfl | he
    · exact hx
    · exact h.2 e (Tbl.mem_erase he)

/-- A default that agrees on the listed keys keeps the form. -/
theorem Tbl.wf_congr {d' : Nat → α} (t : Tbl α) (h : Tbl.wf d t = true) (hd : ∀ e ∈ t, d' e.1 = d e.1) :
    Tbl.wf d' t = true := by
  rw [Tbl.wf_iff] at h ⊢
  exact ⟨h.1, fun e he => by rw [hd e he]; exact h.2 e he⟩

/-- Dropped keys may take any new default. -/
theorem Tbl.wf_drop {d' : Nat → α} (t : Tbl α) (p : Nat → Bool) (h : Tbl.wf d t = true)
    (hd : ∀ n, p n = false → d' n = d n) : Tbl.wf d' (t.drop p) = true := by
  rw [Tbl.wf_iff] at h ⊢
  refine ⟨h.1.filter _, fun e he => ?_⟩
  obtain ⟨he, hp⟩ := List.mem_filter.1 he
  rw [hd e.1 (by simpa using hp)]
  exact h.2 e he

/-- Two tables in the form that read alike are the same data. -/
theorem Tbl.ext_of_get (t u : Tbl α) (ht : Tbl.wf d t = true) (hu : Tbl.wf d u = true)
    (h : ∀ n, Tbl.get d t n = Tbl.get d u n) : t = u := by
  rw [Tbl.wf_iff] at ht hu
  induction t generalizing u with
  | nil =>
    cases u with
    | nil => rfl
    | cons e u =>
      have := h e.1
      simp [Tbl.get] at this
      exact absurd this.symm (hu.2 e (by simp))
  | cons a t ih =>
    obtain ⟨k, v⟩ := a
    cases u with
    | nil =>
      have := h k
      simp [Tbl.get] at this
      exact absurd this (ht.2 (k, v) (by simp))
    | cons b u =>
      obtain ⟨j, w⟩ := b
      have hlow : ∀ (s : Tbl α) (n : Nat), (∀ e ∈ s, n < e.1) → Tbl.get d s n = d n := by
        intro s n hs
        induction s with
        | nil => rfl
        | cons e s ihs =>
          have he : n ≠ e.1 := ne_of_lt (hs e (by simp))
          simp [Tbl.get, he, ihs fun x hx => hs x (by simp [hx])]
      have ht1 := List.pairwise_cons.1 ht.1
      have hu1 := List.pairwise_cons.1 hu.1
      have hkj : k = j := by
        rcases lt_trichotomy k j with hlt | heq | hgt
        · have := h k
          simp only [Tbl.get, if_true, ne_of_lt hlt, if_false] at this
          rw [hlow u k fun e he => lt_trans hlt (hu1.1 e he)] at this
          exact absurd this (ht.2 (k, v) (by simp))
        · exact heq
        · have := h j
          simp only [Tbl.get, if_true, ne_of_lt hgt, if_false] at this
          rw [hlow t j fun e he => lt_trans hgt (ht1.1 e he)] at this
          exact absurd this.symm (hu.2 (j, w) (by simp))
      subst hkj
      have hv : v = w := by simpa [Tbl.get] using h k
      subst hv
      congr 1
      refine ih u ⟨ht1.2, fun e he => ht.2 e (by simp [he])⟩ ⟨hu1.2, fun e he => hu.2 e (by simp [he])⟩ fun n => ?_
      by_cases hn : n = k
      · subst hn; rw [hlow t n ht1.1, hlow u n hu1.1]
      · simpa [Tbl.get, hn] using h n

end Sys2Proof.Machine
end

