-- ==== Sys2Proof/Laws/State.lean ====
section
/-! SUPPORT. One lemma per field of Core per update, so that no later proof unfolds a record update, and what the accessors
read after each update. -/

namespace Sys2Proof.Machine

variable (c : Core)


/-! ## put -/

@[simp] theorem Core.tick_put (k v : Nat) : (c.put k v).tick = c.tick := rfl
@[simp] theorem Core.hubTime_put (k v : Nat) : (c.put k v).hubTime = c.hubTime := rfl
@[simp] theorem Core.timeRuns_put (k v : Nat) : (c.put k v).timeRuns = c.timeRuns := rfl
@[simp] theorem Core.drawn_put (k v : Nat) : (c.put k v).drawn = c.drawn := rfl
@[simp] theorem Core.out_put (k v : Nat) : (c.put k v).out = c.out := rfl
@[simp] theorem Core.req_put (k v : Nat) : (c.put k v).req = c.req := rfl
@[simp] theorem Core.fc_put (k v : Nat) : (c.put k v).fc = c.fc := rfl
@[simp] theorem Core.sluice_put (k v : Nat) : (c.put k v).sluice = c.sluice := rfl
@[simp] theorem Core.mc_put (k v : Nat) : (c.put k v).mc = c.mc := rfl
@[simp] theorem Core.hr_put (k v : Nat) : (c.put k v).hr = c.hr := rfl
@[simp] theorem Core.ddr_put (k v : Nat) : (c.put k v).ddr = c.ddr := rfl
@[simp] theorem Core.ecc_put (k v : Nat) : (c.put k v).ecc = c.ecc := rfl
@[simp] theorem Core.eccSeq_put (k v : Nat) : (c.put k v).eccSeq = c.eccSeq := rfl
@[simp] theorem Core.ft_put (k v : Nat) : (c.put k v).ft = c.ft := rfl
@[simp] theorem Core.ledger_put (k v : Nat) : (c.put k v).ledger = c.ledger := rfl
@[simp] theorem Core.mon_put (k v : Nat) : (c.put k v).mon = c.mon := rfl
@[simp] theorem Core.start_put (k v : Nat) : (c.put k v).start = c.start := rfl
@[simp] theorem Core.streams_put (k v : Nat) : (c.put k v).streams = c.streams := rfl
@[simp] theorem Core.rings_put (k v : Nat) : (c.put k v).rings = c.rings := rfl
@[simp] theorem Core.wins_put (k v : Nat) : (c.put k v).wins = c.wins := rfl
@[simp] theorem Core.freezes_put (k v : Nat) : (c.put k v).freezes = c.freezes := rfl
@[simp] theorem Core.throttled_put (k v : Nat) : (c.put k v).throttled = c.throttled := rfl
@[simp] theorem Core.overHigh_put (k v : Nat) : (c.put k v).overHigh = c.overHigh := rfl
@[simp] theorem Core.ctxs_put (k v : Nat) : (c.put k v).ctxs = c.ctxs := rfl
@[simp] theorem Core.cache_put (k v : Nat) : (c.put k v).cache = c.cache := rfl
@[simp] theorem Core.updLog_put (k v : Nat) : (c.put k v).updLog = c.updLog := rfl
@[simp] theorem Core.jobs_put (k v : Nat) : (c.put k v).jobs = c.jobs := rfl
@[simp] theorem Core.freeing_put (k v : Nat) : (c.put k v).freeing = c.freeing := rfl
@[simp] theorem Core.shown_put (k v : Nat) : (c.put k v).shown = c.shown := rfl
@[simp] theorem Core.sessions_put (k v : Nat) : (c.put k v).sessions = c.sessions := rfl
@[simp] theorem Core.checkpoints_put (k v : Nat) : (c.put k v).checkpoints = c.checkpoints := rfl
@[simp] theorem Core.chainFails_put (k v : Nat) : (c.put k v).chainFails = c.chainFails := rfl
@[simp] theorem Core.dll_put (k v : Nat) : (c.put k v).dll = c.dll := rfl
@[simp] theorem Core.srQueue_put (k v : Nat) : (c.put k v).srQueue = c.srQueue := rfl
@[simp] theorem Core.srBegins_put (k v : Nat) : (c.put k v).srBegins = c.srBegins := rfl
@[simp] theorem Core.halves_put (k v : Nat) : (c.put k v).halves = c.halves := rfl
@[simp] theorem Core.images_put (k v : Nat) : (c.put k v).images = c.images := rfl
@[simp] theorem Core.imageOpen_put (k v : Nat) : (c.put k v).imageOpen = c.imageOpen := rfl
@[simp] theorem Core.spill_put (k v : Nat) : (c.put k v).spill = c.spill := rfl
@[simp] theorem Core.flash_put (k v : Nat) : (c.put k v).flash = c.flash := rfl
@[simp] theorem Core.tap_put (k v : Nat) : (c.put k v).tap = c.tap := rfl
@[simp] theorem Core.mg_put (k v : Nat) : (c.put k v).mg = c.mg := rfl
@[simp] theorem Core.seq_put (k v : Nat) : (c.put k v).seq = c.seq := rfl
@[simp] theorem Core.sail_put (k v : Nat) : (c.put k v).sail = c.sail := rfl
@[simp] theorem Core.time_put (k v : Nat) : (c.put k v).time = c.time := rfl
@[simp] theorem Core.decisions_put (k v : Nat) : (c.put k v).decisions = c.decisions := rfl

/-! ## emit -/

@[simp] theorem Core.tick_emit (o : Out) : (c.emit o).tick = c.tick := rfl
@[simp] theorem Core.hubTime_emit (o : Out) : (c.emit o).hubTime = c.hubTime := rfl
@[simp] theorem Core.timeRuns_emit (o : Out) : (c.emit o).timeRuns = c.timeRuns := rfl
@[simp] theorem Core.objs_emit (o : Out) : (c.emit o).objs = c.objs := rfl
@[simp] theorem Core.drawn_emit (o : Out) : (c.emit o).drawn = c.drawn := rfl
@[simp] theorem Core.req_emit (o : Out) : (c.emit o).req = c.req := rfl
@[simp] theorem Core.fc_emit (o : Out) : (c.emit o).fc = c.fc := rfl
@[simp] theorem Core.sluice_emit (o : Out) : (c.emit o).sluice = c.sluice := rfl
@[simp] theorem Core.mc_emit (o : Out) : (c.emit o).mc = c.mc := rfl
@[simp] theorem Core.hr_emit (o : Out) : (c.emit o).hr = c.hr := rfl
@[simp] theorem Core.ddr_emit (o : Out) : (c.emit o).ddr = c.ddr := rfl
@[simp] theorem Core.ecc_emit (o : Out) : (c.emit o).ecc = c.ecc := rfl
@[simp] theorem Core.eccSeq_emit (o : Out) : (c.emit o).eccSeq = c.eccSeq := rfl
@[simp] theorem Core.ft_emit (o : Out) : (c.emit o).ft = c.ft := rfl
@[simp] theorem Core.ledger_emit (o : Out) : (c.emit o).ledger = c.ledger := rfl
@[simp] theorem Core.mon_emit (o : Out) : (c.emit o).mon = c.mon := rfl
@[simp] theorem Core.start_emit (o : Out) : (c.emit o).start = c.start := rfl
@[simp] theorem Core.streams_emit (o : Out) : (c.emit o).streams = c.streams := rfl
@[simp] theorem Core.rings_emit (o : Out) : (c.emit o).rings = c.rings := rfl
@[simp] theorem Core.wins_emit (o : Out) : (c.emit o).wins = c.wins := rfl
@[simp] theorem Core.freezes_emit (o : Out) : (c.emit o).freezes = c.freezes := rfl
@[simp] theorem Core.throttled_emit (o : Out) : (c.emit o).throttled = c.throttled := rfl
@[simp] theorem Core.overHigh_emit (o : Out) : (c.emit o).overHigh = c.overHigh := rfl
@[simp] theorem Core.ctxs_emit (o : Out) : (c.emit o).ctxs = c.ctxs := rfl
@[simp] theorem Core.cache_emit (o : Out) : (c.emit o).cache = c.cache := rfl
@[simp] theorem Core.updLog_emit (o : Out) : (c.emit o).updLog = c.updLog := rfl
@[simp] theorem Core.jobs_emit (o : Out) : (c.emit o).jobs = c.jobs := rfl
@[simp] theorem Core.freeing_emit (o : Out) : (c.emit o).freeing = c.freeing := rfl
@[simp] theorem Core.shown_emit (o : Out) : (c.emit o).shown = c.shown := rfl
@[simp] theorem Core.sessions_emit (o : Out) : (c.emit o).sessions = c.sessions := rfl
@[simp] theorem Core.checkpoints_emit (o : Out) : (c.emit o).checkpoints = c.checkpoints := rfl
@[simp] theorem Core.chainFails_emit (o : Out) : (c.emit o).chainFails = c.chainFails := rfl
@[simp] theorem Core.dll_emit (o : Out) : (c.emit o).dll = c.dll := rfl
@[simp] theorem Core.srQueue_emit (o : Out) : (c.emit o).srQueue = c.srQueue := rfl
@[simp] theorem Core.srBegins_emit (o : Out) : (c.emit o).srBegins = c.srBegins := rfl
@[simp] theorem Core.halves_emit (o : Out) : (c.emit o).halves = c.halves := rfl
@[simp] theorem Core.images_emit (o : Out) : (c.emit o).images = c.images := rfl
@[simp] theorem Core.imageOpen_emit (o : Out) : (c.emit o).imageOpen = c.imageOpen := rfl
@[simp] theorem Core.spill_emit (o : Out) : (c.emit o).spill = c.spill := rfl
@[simp] theorem Core.flash_emit (o : Out) : (c.emit o).flash = c.flash := rfl
@[simp] theorem Core.tap_emit (o : Out) : (c.emit o).tap = c.tap := rfl
@[simp] theorem Core.mg_emit (o : Out) : (c.emit o).mg = c.mg := rfl
@[simp] theorem Core.seq_emit (o : Out) : (c.emit o).seq = c.seq := rfl
@[simp] theorem Core.sail_emit (o : Out) : (c.emit o).sail = c.sail := rfl
@[simp] theorem Core.time_emit (o : Out) : (c.emit o).time = c.time := rfl
@[simp] theorem Core.decisions_emit (o : Out) : (c.emit o).decisions = c.decisions := rfl

/-! ## ask -/

@[simp] theorem Core.tick_ask (r : Req) : (c.ask r).tick = c.tick := rfl
@[simp] theorem Core.hubTime_ask (r : Req) : (c.ask r).hubTime = c.hubTime := rfl
@[simp] theorem Core.timeRuns_ask (r : Req) : (c.ask r).timeRuns = c.timeRuns := rfl
@[simp] theorem Core.objs_ask (r : Req) : (c.ask r).objs = c.objs := rfl
@[simp] theorem Core.drawn_ask (r : Req) : (c.ask r).drawn = c.drawn := rfl
@[simp] theorem Core.out_ask (r : Req) : (c.ask r).out = c.out := rfl
@[simp] theorem Core.fc_ask (r : Req) : (c.ask r).fc = c.fc := rfl
@[simp] theorem Core.sluice_ask (r : Req) : (c.ask r).sluice = c.sluice := rfl
@[simp] theorem Core.mc_ask (r : Req) : (c.ask r).mc = c.mc := rfl
@[simp] theorem Core.hr_ask (r : Req) : (c.ask r).hr = c.hr := rfl
@[simp] theorem Core.ddr_ask (r : Req) : (c.ask r).ddr = c.ddr := rfl
@[simp] theorem Core.ecc_ask (r : Req) : (c.ask r).ecc = c.ecc := rfl
@[simp] theorem Core.eccSeq_ask (r : Req) : (c.ask r).eccSeq = c.eccSeq := rfl
@[simp] theorem Core.ft_ask (r : Req) : (c.ask r).ft = c.ft := rfl
@[simp] theorem Core.ledger_ask (r : Req) : (c.ask r).ledger = c.ledger := rfl
@[simp] theorem Core.mon_ask (r : Req) : (c.ask r).mon = c.mon := rfl
@[simp] theorem Core.start_ask (r : Req) : (c.ask r).start = c.start := rfl
@[simp] theorem Core.streams_ask (r : Req) : (c.ask r).streams = c.streams := rfl
@[simp] theorem Core.rings_ask (r : Req) : (c.ask r).rings = c.rings := rfl
@[simp] theorem Core.wins_ask (r : Req) : (c.ask r).wins = c.wins := rfl
@[simp] theorem Core.freezes_ask (r : Req) : (c.ask r).freezes = c.freezes := rfl
@[simp] theorem Core.throttled_ask (r : Req) : (c.ask r).throttled = c.throttled := rfl
@[simp] theorem Core.overHigh_ask (r : Req) : (c.ask r).overHigh = c.overHigh := rfl
@[simp] theorem Core.ctxs_ask (r : Req) : (c.ask r).ctxs = c.ctxs := rfl
@[simp] theorem Core.cache_ask (r : Req) : (c.ask r).cache = c.cache := rfl
@[simp] theorem Core.updLog_ask (r : Req) : (c.ask r).updLog = c.updLog := rfl
@[simp] theorem Core.jobs_ask (r : Req) : (c.ask r).jobs = c.jobs := rfl
@[simp] theorem Core.freeing_ask (r : Req) : (c.ask r).freeing = c.freeing := rfl
@[simp] theorem Core.shown_ask (r : Req) : (c.ask r).shown = c.shown := rfl
@[simp] theorem Core.sessions_ask (r : Req) : (c.ask r).sessions = c.sessions := rfl
@[simp] theorem Core.checkpoints_ask (r : Req) : (c.ask r).checkpoints = c.checkpoints := rfl
@[simp] theorem Core.chainFails_ask (r : Req) : (c.ask r).chainFails = c.chainFails := rfl
@[simp] theorem Core.dll_ask (r : Req) : (c.ask r).dll = c.dll := rfl
@[simp] theorem Core.srQueue_ask (r : Req) : (c.ask r).srQueue = c.srQueue := rfl
@[simp] theorem Core.srBegins_ask (r : Req) : (c.ask r).srBegins = c.srBegins := rfl
@[simp] theorem Core.halves_ask (r : Req) : (c.ask r).halves = c.halves := rfl
@[simp] theorem Core.images_ask (r : Req) : (c.ask r).images = c.images := rfl
@[simp] theorem Core.imageOpen_ask (r : Req) : (c.ask r).imageOpen = c.imageOpen := rfl
@[simp] theorem Core.spill_ask (r : Req) : (c.ask r).spill = c.spill := rfl
@[simp] theorem Core.flash_ask (r : Req) : (c.ask r).flash = c.flash := rfl
@[simp] theorem Core.tap_ask (r : Req) : (c.ask r).tap = c.tap := rfl
@[simp] theorem Core.mg_ask (r : Req) : (c.ask r).mg = c.mg := rfl
@[simp] theorem Core.seq_ask (r : Req) : (c.ask r).seq = c.seq := rfl
@[simp] theorem Core.sail_ask (r : Req) : (c.ask r).sail = c.sail := rfl
@[simp] theorem Core.time_ask (r : Req) : (c.ask r).time = c.time := rfl
@[simp] theorem Core.decisions_ask (r : Req) : (c.ask r).decisions = c.decisions := rfl

/-! ## setMc -/

@[simp] theorem Core.tick_setMc (n : Nat) (m : McState) : (c.setMc n m).tick = c.tick := rfl
@[simp] theorem Core.hubTime_setMc (n : Nat) (m : McState) : (c.setMc n m).hubTime = c.hubTime := rfl
@[simp] theorem Core.timeRuns_setMc (n : Nat) (m : McState) : (c.setMc n m).timeRuns = c.timeRuns := rfl
@[simp] theorem Core.objs_setMc (n : Nat) (m : McState) : (c.setMc n m).objs = c.objs := rfl
@[simp] theorem Core.drawn_setMc (n : Nat) (m : McState) : (c.setMc n m).drawn = c.drawn := rfl
@[simp] theorem Core.out_setMc (n : Nat) (m : McState) : (c.setMc n m).out = c.out := rfl
@[simp] theorem Core.req_setMc (n : Nat) (m : McState) : (c.setMc n m).req = c.req := rfl
@[simp] theorem Core.fc_setMc (n : Nat) (m : McState) : (c.setMc n m).fc = c.fc := rfl
@[simp] theorem Core.sluice_setMc (n : Nat) (m : McState) : (c.setMc n m).sluice = c.sluice := rfl
@[simp] theorem Core.hr_setMc (n : Nat) (m : McState) : (c.setMc n m).hr = c.hr := rfl
@[simp] theorem Core.ddr_setMc (n : Nat) (m : McState) : (c.setMc n m).ddr = c.ddr := rfl
@[simp] theorem Core.ecc_setMc (n : Nat) (m : McState) : (c.setMc n m).ecc = c.ecc := rfl
@[simp] theorem Core.eccSeq_setMc (n : Nat) (m : McState) : (c.setMc n m).eccSeq = c.eccSeq := rfl
@[simp] theorem Core.ft_setMc (n : Nat) (m : McState) : (c.setMc n m).ft = c.ft := rfl
@[simp] theorem Core.ledger_setMc (n : Nat) (m : McState) : (c.setMc n m).ledger = c.ledger := rfl
@[simp] theorem Core.mon_setMc (n : Nat) (m : McState) : (c.setMc n m).mon = c.mon := rfl
@[simp] theorem Core.start_setMc (n : Nat) (m : McState) : (c.setMc n m).start = c.start := rfl
@[simp] theorem Core.streams_setMc (n : Nat) (m : McState) : (c.setMc n m).streams = c.streams := rfl
@[simp] theorem Core.rings_setMc (n : Nat) (m : McState) : (c.setMc n m).rings = c.rings := rfl
@[simp] theorem Core.wins_setMc (n : Nat) (m : McState) : (c.setMc n m).wins = c.wins := rfl
@[simp] theorem Core.freezes_setMc (n : Nat) (m : McState) : (c.setMc n m).freezes = c.freezes := rfl
@[simp] theorem Core.throttled_setMc (n : Nat) (m : McState) : (c.setMc n m).throttled = c.throttled := rfl
@[simp] theorem Core.overHigh_setMc (n : Nat) (m : McState) : (c.setMc n m).overHigh = c.overHigh := rfl
@[simp] theorem Core.ctxs_setMc (n : Nat) (m : McState) : (c.setMc n m).ctxs = c.ctxs := rfl
@[simp] theorem Core.cache_setMc (n : Nat) (m : McState) : (c.setMc n m).cache = c.cache := rfl
@[simp] theorem Core.updLog_setMc (n : Nat) (m : McState) : (c.setMc n m).updLog = c.updLog := rfl
@[simp] theorem Core.jobs_setMc (n : Nat) (m : McState) : (c.setMc n m).jobs = c.jobs := rfl
@[simp] theorem Core.freeing_setMc (n : Nat) (m : McState) : (c.setMc n m).freeing = c.freeing := rfl
@[simp] theorem Core.shown_setMc (n : Nat) (m : McState) : (c.setMc n m).shown = c.shown := rfl
@[simp] theorem Core.sessions_setMc (n : Nat) (m : McState) : (c.setMc n m).sessions = c.sessions := rfl
@[simp] theorem Core.checkpoints_setMc (n : Nat) (m : McState) : (c.setMc n m).checkpoints = c.checkpoints := rfl
@[simp] theorem Core.chainFails_setMc (n : Nat) (m : McState) : (c.setMc n m).chainFails = c.chainFails := rfl
@[simp] theorem Core.dll_setMc (n : Nat) (m : McState) : (c.setMc n m).dll = c.dll := rfl
@[simp] theorem Core.srQueue_setMc (n : Nat) (m : McState) : (c.setMc n m).srQueue = c.srQueue := rfl
@[simp] theorem Core.srBegins_setMc (n : Nat) (m : McState) : (c.setMc n m).srBegins = c.srBegins := rfl
@[simp] theorem Core.halves_setMc (n : Nat) (m : McState) : (c.setMc n m).halves = c.halves := rfl
@[simp] theorem Core.images_setMc (n : Nat) (m : McState) : (c.setMc n m).images = c.images := rfl
@[simp] theorem Core.imageOpen_setMc (n : Nat) (m : McState) : (c.setMc n m).imageOpen = c.imageOpen := rfl
@[simp] theorem Core.spill_setMc (n : Nat) (m : McState) : (c.setMc n m).spill = c.spill := rfl
@[simp] theorem Core.flash_setMc (n : Nat) (m : McState) : (c.setMc n m).flash = c.flash := rfl
@[simp] theorem Core.tap_setMc (n : Nat) (m : McState) : (c.setMc n m).tap = c.tap := rfl
@[simp] theorem Core.mg_setMc (n : Nat) (m : McState) : (c.setMc n m).mg = c.mg := rfl
@[simp] theorem Core.seq_setMc (n : Nat) (m : McState) : (c.setMc n m).seq = c.seq := rfl
@[simp] theorem Core.sail_setMc (n : Nat) (m : McState) : (c.setMc n m).sail = c.sail := rfl
@[simp] theorem Core.time_setMc (n : Nat) (m : McState) : (c.setMc n m).time = c.time := rfl
@[simp] theorem Core.decisions_setMc (n : Nat) (m : McState) : (c.setMc n m).decisions = c.decisions := rfl

/-! ## updDdr -/

@[simp] theorem Core.tick_updDdr (n : Nat) (f : DdrState → DdrState) : (c.updDdr n f).tick = c.tick := rfl
@[simp] theorem Core.hubTime_updDdr (n : Nat) (f : DdrState → DdrState) : (c.updDdr n f).hubTime = c.hubTime := rfl
@[simp] theorem Core.timeRuns_updDdr (n : Nat) (f : DdrState → DdrState) : (c.updDdr n f).timeRuns = c.timeRuns := rfl
@[simp] theorem Core.objs_updDdr (n : Nat) (f : DdrState → DdrState) : (c.updDdr n f).objs = c.objs := rfl
@[simp] theorem Core.drawn_updDdr (n : Nat) (f : DdrState → DdrState) : (c.updDdr n f).drawn = c.drawn := rfl
@[simp] theorem Core.out_updDdr (n : Nat) (f : DdrState → DdrState) : (c.updDdr n f).out = c.out := rfl
@[simp] theorem Core.req_updDdr (n : Nat) (f : DdrState → DdrState) : (c.updDdr n f).req = c.req := rfl
@[simp] theorem Core.fc_updDdr (n : Nat) (f : DdrState → DdrState) : (c.updDdr n f).fc = c.fc := rfl
@[simp] theorem Core.sluice_updDdr (n : Nat) (f : DdrState → DdrState) : (c.updDdr n f).sluice = c.sluice := rfl
@[simp] theorem Core.mc_updDdr (n : Nat) (f : DdrState → DdrState) : (c.updDdr n f).mc = c.mc := rfl
@[simp] theorem Core.hr_updDdr (n : Nat) (f : DdrState → DdrState) : (c.updDdr n f).hr = c.hr := rfl
@[simp] theorem Core.ecc_updDdr (n : Nat) (f : DdrState → DdrState) : (c.updDdr n f).ecc = c.ecc := rfl
@[simp] theorem Core.eccSeq_updDdr (n : Nat) (f : DdrState → DdrState) : (c.updDdr n f).eccSeq = c.eccSeq := rfl
@[simp] theorem Core.ft_updDdr (n : Nat) (f : DdrState → DdrState) : (c.updDdr n f).ft = c.ft := rfl
@[simp] theorem Core.ledger_updDdr (n : Nat) (f : DdrState → DdrState) : (c.updDdr n f).ledger = c.ledger := rfl
@[simp] theorem Core.mon_updDdr (n : Nat) (f : DdrState → DdrState) : (c.updDdr n f).mon = c.mon := rfl
@[simp] theorem Core.start_updDdr (n : Nat) (f : DdrState → DdrState) : (c.updDdr n f).start = c.start := rfl
@[simp] theorem Core.streams_updDdr (n : Nat) (f : DdrState → DdrState) : (c.updDdr n f).streams = c.streams := rfl
@[simp] theorem Core.rings_updDdr (n : Nat) (f : DdrState → DdrState) : (c.updDdr n f).rings = c.rings := rfl
@[simp] theorem Core.wins_updDdr (n : Nat) (f : DdrState → DdrState) : (c.updDdr n f).wins = c.wins := rfl
@[simp] theorem Core.freezes_updDdr (n : Nat) (f : DdrState → DdrState) : (c.updDdr n f).freezes = c.freezes := rfl
@[simp] theorem Core.throttled_updDdr (n : Nat) (f : DdrState → DdrState) : (c.updDdr n f).throttled = c.throttled := rfl
@[simp] theorem Core.overHigh_updDdr (n : Nat) (f : DdrState → DdrState) : (c.updDdr n f).overHigh = c.overHigh := rfl
@[simp] theorem Core.ctxs_updDdr (n : Nat) (f : DdrState → DdrState) : (c.updDdr n f).ctxs = c.ctxs := rfl
@[simp] theorem Core.cache_updDdr (n : Nat) (f : DdrState → DdrState) : (c.updDdr n f).cache = c.cache := rfl
@[simp] theorem Core.updLog_updDdr (n : Nat) (f : DdrState → DdrState) : (c.updDdr n f).updLog = c.updLog := rfl
@[simp] theorem Core.jobs_updDdr (n : Nat) (f : DdrState → DdrState) : (c.updDdr n f).jobs = c.jobs := rfl
@[simp] theorem Core.freeing_updDdr (n : Nat) (f : DdrState → DdrState) : (c.updDdr n f).freeing = c.freeing := rfl
@[simp] theorem Core.shown_updDdr (n : Nat) (f : DdrState → DdrState) : (c.updDdr n f).shown = c.shown := rfl
@[simp] theorem Core.sessions_updDdr (n : Nat) (f : DdrState → DdrState) : (c.updDdr n f).sessions = c.sessions := rfl
@[simp] theorem Core.checkpoints_updDdr (n : Nat) (f : DdrState → DdrState) : (c.updDdr n f).checkpoints = c.checkpoints := rfl
@[simp] theorem Core.chainFails_updDdr (n : Nat) (f : DdrState → DdrState) : (c.updDdr n f).chainFails = c.chainFails := rfl
@[simp] theorem Core.dll_updDdr (n : Nat) (f : DdrState → DdrState) : (c.updDdr n f).dll = c.dll := rfl
@[simp] theorem Core.srQueue_updDdr (n : Nat) (f : DdrState → DdrState) : (c.updDdr n f).srQueue = c.srQueue := rfl
@[simp] theorem Core.srBegins_updDdr (n : Nat) (f : DdrState → DdrState) : (c.updDdr n f).srBegins = c.srBegins := rfl
@[simp] theorem Core.halves_updDdr (n : Nat) (f : DdrState → DdrState) : (c.updDdr n f).halves = c.halves := rfl
@[simp] theorem Core.images_updDdr (n : Nat) (f : DdrState → DdrState) : (c.updDdr n f).images = c.images := rfl
@[simp] theorem Core.imageOpen_updDdr (n : Nat) (f : DdrState → DdrState) : (c.updDdr n f).imageOpen = c.imageOpen := rfl
@[simp] theorem Core.spill_updDdr (n : Nat) (f : DdrState → DdrState) : (c.updDdr n f).spill = c.spill := rfl
@[simp] theorem Core.flash_updDdr (n : Nat) (f : DdrState → DdrState) : (c.updDdr n f).flash = c.flash := rfl
@[simp] theorem Core.tap_updDdr (n : Nat) (f : DdrState → DdrState) : (c.updDdr n f).tap = c.tap := rfl
@[simp] theorem Core.mg_updDdr (n : Nat) (f : DdrState → DdrState) : (c.updDdr n f).mg = c.mg := rfl
@[simp] theorem Core.seq_updDdr (n : Nat) (f : DdrState → DdrState) : (c.updDdr n f).seq = c.seq := rfl
@[simp] theorem Core.sail_updDdr (n : Nat) (f : DdrState → DdrState) : (c.updDdr n f).sail = c.sail := rfl
@[simp] theorem Core.time_updDdr (n : Nat) (f : DdrState → DdrState) : (c.updDdr n f).time = c.time := rfl
@[simp] theorem Core.decisions_updDdr (n : Nat) (f : DdrState → DdrState) : (c.updDdr n f).decisions = c.decisions := rfl

/-! ## updEcc -/

@[simp] theorem Core.tick_updEcc (n : Nat) (f : EccState → EccState) : (c.updEcc n f).tick = c.tick := rfl
@[simp] theorem Core.hubTime_updEcc (n : Nat) (f : EccState → EccState) : (c.updEcc n f).hubTime = c.hubTime := rfl
@[simp] theorem Core.timeRuns_updEcc (n : Nat) (f : EccState → EccState) : (c.updEcc n f).timeRuns = c.timeRuns := rfl
@[simp] theorem Core.objs_updEcc (n : Nat) (f : EccState → EccState) : (c.updEcc n f).objs = c.objs := rfl
@[simp] theorem Core.drawn_updEcc (n : Nat) (f : EccState → EccState) : (c.updEcc n f).drawn = c.drawn := rfl
@[simp] theorem Core.out_updEcc (n : Nat) (f : EccState → EccState) : (c.updEcc n f).out = c.out := rfl
@[simp] theorem Core.req_updEcc (n : Nat) (f : EccState → EccState) : (c.updEcc n f).req = c.req := rfl
@[simp] theorem Core.fc_updEcc (n : Nat) (f : EccState → EccState) : (c.updEcc n f).fc = c.fc := rfl
@[simp] theorem Core.sluice_updEcc (n : Nat) (f : EccState → EccState) : (c.updEcc n f).sluice = c.sluice := rfl
@[simp] theorem Core.mc_updEcc (n : Nat) (f : EccState → EccState) : (c.updEcc n f).mc = c.mc := rfl
@[simp] theorem Core.hr_updEcc (n : Nat) (f : EccState → EccState) : (c.updEcc n f).hr = c.hr := rfl
@[simp] theorem Core.ddr_updEcc (n : Nat) (f : EccState → EccState) : (c.updEcc n f).ddr = c.ddr := rfl
@[simp] theorem Core.eccSeq_updEcc (n : Nat) (f : EccState → EccState) : (c.updEcc n f).eccSeq = c.eccSeq := rfl
@[simp] theorem Core.ft_updEcc (n : Nat) (f : EccState → EccState) : (c.updEcc n f).ft = c.ft := rfl
@[simp] theorem Core.ledger_updEcc (n : Nat) (f : EccState → EccState) : (c.updEcc n f).ledger = c.ledger := rfl
@[simp] theorem Core.mon_updEcc (n : Nat) (f : EccState → EccState) : (c.updEcc n f).mon = c.mon := rfl
@[simp] theorem Core.start_updEcc (n : Nat) (f : EccState → EccState) : (c.updEcc n f).start = c.start := rfl
@[simp] theorem Core.streams_updEcc (n : Nat) (f : EccState → EccState) : (c.updEcc n f).streams = c.streams := rfl
@[simp] theorem Core.rings_updEcc (n : Nat) (f : EccState → EccState) : (c.updEcc n f).rings = c.rings := rfl
@[simp] theorem Core.wins_updEcc (n : Nat) (f : EccState → EccState) : (c.updEcc n f).wins = c.wins := rfl
@[simp] theorem Core.freezes_updEcc (n : Nat) (f : EccState → EccState) : (c.updEcc n f).freezes = c.freezes := rfl
@[simp] theorem Core.throttled_updEcc (n : Nat) (f : EccState → EccState) : (c.updEcc n f).throttled = c.throttled := rfl
@[simp] theorem Core.overHigh_updEcc (n : Nat) (f : EccState → EccState) : (c.updEcc n f).overHigh = c.overHigh := rfl
@[simp] theorem Core.ctxs_updEcc (n : Nat) (f : EccState → EccState) : (c.updEcc n f).ctxs = c.ctxs := rfl
@[simp] theorem Core.cache_updEcc (n : Nat) (f : EccState → EccState) : (c.updEcc n f).cache = c.cache := rfl
@[simp] theorem Core.updLog_updEcc (n : Nat) (f : EccState → EccState) : (c.updEcc n f).updLog = c.updLog := rfl
@[simp] theorem Core.jobs_updEcc (n : Nat) (f : EccState → EccState) : (c.updEcc n f).jobs = c.jobs := rfl
@[simp] theorem Core.freeing_updEcc (n : Nat) (f : EccState → EccState) : (c.updEcc n f).freeing = c.freeing := rfl
@[simp] theorem Core.shown_updEcc (n : Nat) (f : EccState → EccState) : (c.updEcc n f).shown = c.shown := rfl
@[simp] theorem Core.sessions_updEcc (n : Nat) (f : EccState → EccState) : (c.updEcc n f).sessions = c.sessions := rfl
@[simp] theorem Core.checkpoints_updEcc (n : Nat) (f : EccState → EccState) : (c.updEcc n f).checkpoints = c.checkpoints := rfl
@[simp] theorem Core.chainFails_updEcc (n : Nat) (f : EccState → EccState) : (c.updEcc n f).chainFails = c.chainFails := rfl
@[simp] theorem Core.dll_updEcc (n : Nat) (f : EccState → EccState) : (c.updEcc n f).dll = c.dll := rfl
@[simp] theorem Core.srQueue_updEcc (n : Nat) (f : EccState → EccState) : (c.updEcc n f).srQueue = c.srQueue := rfl
@[simp] theorem Core.srBegins_updEcc (n : Nat) (f : EccState → EccState) : (c.updEcc n f).srBegins = c.srBegins := rfl
@[simp] theorem Core.halves_updEcc (n : Nat) (f : EccState → EccState) : (c.updEcc n f).halves = c.halves := rfl
@[simp] theorem Core.images_updEcc (n : Nat) (f : EccState → EccState) : (c.updEcc n f).images = c.images := rfl
@[simp] theorem Core.imageOpen_updEcc (n : Nat) (f : EccState → EccState) : (c.updEcc n f).imageOpen = c.imageOpen := rfl
@[simp] theorem Core.spill_updEcc (n : Nat) (f : EccState → EccState) : (c.updEcc n f).spill = c.spill := rfl
@[simp] theorem Core.flash_updEcc (n : Nat) (f : EccState → EccState) : (c.updEcc n f).flash = c.flash := rfl
@[simp] theorem Core.tap_updEcc (n : Nat) (f : EccState → EccState) : (c.updEcc n f).tap = c.tap := rfl
@[simp] theorem Core.mg_updEcc (n : Nat) (f : EccState → EccState) : (c.updEcc n f).mg = c.mg := rfl
@[simp] theorem Core.seq_updEcc (n : Nat) (f : EccState → EccState) : (c.updEcc n f).seq = c.seq := rfl
@[simp] theorem Core.sail_updEcc (n : Nat) (f : EccState → EccState) : (c.updEcc n f).sail = c.sail := rfl
@[simp] theorem Core.time_updEcc (n : Nat) (f : EccState → EccState) : (c.updEcc n f).time = c.time := rfl
@[simp] theorem Core.decisions_updEcc (n : Nat) (f : EccState → EccState) : (c.updEcc n f).decisions = c.decisions := rfl

/-! ## updFt -/

@[simp] theorem Core.tick_updFt (n : Nat) (f : FtState → FtState) : (c.updFt n f).tick = c.tick := rfl
@[simp] theorem Core.hubTime_updFt (n : Nat) (f : FtState → FtState) : (c.updFt n f).hubTime = c.hubTime := rfl
@[simp] theorem Core.timeRuns_updFt (n : Nat) (f : FtState → FtState) : (c.updFt n f).timeRuns = c.timeRuns := rfl
@[simp] theorem Core.objs_updFt (n : Nat) (f : FtState → FtState) : (c.updFt n f).objs = c.objs := rfl
@[simp] theorem Core.drawn_updFt (n : Nat) (f : FtState → FtState) : (c.updFt n f).drawn = c.drawn := rfl
@[simp] theorem Core.out_updFt (n : Nat) (f : FtState → FtState) : (c.updFt n f).out = c.out := rfl
@[simp] theorem Core.req_updFt (n : Nat) (f : FtState → FtState) : (c.updFt n f).req = c.req := rfl
@[simp] theorem Core.fc_updFt (n : Nat) (f : FtState → FtState) : (c.updFt n f).fc = c.fc := rfl
@[simp] theorem Core.sluice_updFt (n : Nat) (f : FtState → FtState) : (c.updFt n f).sluice = c.sluice := rfl
@[simp] theorem Core.mc_updFt (n : Nat) (f : FtState → FtState) : (c.updFt n f).mc = c.mc := rfl
@[simp] theorem Core.hr_updFt (n : Nat) (f : FtState → FtState) : (c.updFt n f).hr = c.hr := rfl
@[simp] theorem Core.ddr_updFt (n : Nat) (f : FtState → FtState) : (c.updFt n f).ddr = c.ddr := rfl
@[simp] theorem Core.ecc_updFt (n : Nat) (f : FtState → FtState) : (c.updFt n f).ecc = c.ecc := rfl
@[simp] theorem Core.eccSeq_updFt (n : Nat) (f : FtState → FtState) : (c.updFt n f).eccSeq = c.eccSeq := rfl
@[simp] theorem Core.ledger_updFt (n : Nat) (f : FtState → FtState) : (c.updFt n f).ledger = c.ledger := rfl
@[simp] theorem Core.mon_updFt (n : Nat) (f : FtState → FtState) : (c.updFt n f).mon = c.mon := rfl
@[simp] theorem Core.start_updFt (n : Nat) (f : FtState → FtState) : (c.updFt n f).start = c.start := rfl
@[simp] theorem Core.streams_updFt (n : Nat) (f : FtState → FtState) : (c.updFt n f).streams = c.streams := rfl
@[simp] theorem Core.rings_updFt (n : Nat) (f : FtState → FtState) : (c.updFt n f).rings = c.rings := rfl
@[simp] theorem Core.wins_updFt (n : Nat) (f : FtState → FtState) : (c.updFt n f).wins = c.wins := rfl
@[simp] theorem Core.freezes_updFt (n : Nat) (f : FtState → FtState) : (c.updFt n f).freezes = c.freezes := rfl
@[simp] theorem Core.throttled_updFt (n : Nat) (f : FtState → FtState) : (c.updFt n f).throttled = c.throttled := rfl
@[simp] theorem Core.overHigh_updFt (n : Nat) (f : FtState → FtState) : (c.updFt n f).overHigh = c.overHigh := rfl
@[simp] theorem Core.ctxs_updFt (n : Nat) (f : FtState → FtState) : (c.updFt n f).ctxs = c.ctxs := rfl
@[simp] theorem Core.cache_updFt (n : Nat) (f : FtState → FtState) : (c.updFt n f).cache = c.cache := rfl
@[simp] theorem Core.updLog_updFt (n : Nat) (f : FtState → FtState) : (c.updFt n f).updLog = c.updLog := rfl
@[simp] theorem Core.jobs_updFt (n : Nat) (f : FtState → FtState) : (c.updFt n f).jobs = c.jobs := rfl
@[simp] theorem Core.freeing_updFt (n : Nat) (f : FtState → FtState) : (c.updFt n f).freeing = c.freeing := rfl
@[simp] theorem Core.shown_updFt (n : Nat) (f : FtState → FtState) : (c.updFt n f).shown = c.shown := rfl
@[simp] theorem Core.sessions_updFt (n : Nat) (f : FtState → FtState) : (c.updFt n f).sessions = c.sessions := rfl
@[simp] theorem Core.checkpoints_updFt (n : Nat) (f : FtState → FtState) : (c.updFt n f).checkpoints = c.checkpoints := rfl
@[simp] theorem Core.chainFails_updFt (n : Nat) (f : FtState → FtState) : (c.updFt n f).chainFails = c.chainFails := rfl
@[simp] theorem Core.dll_updFt (n : Nat) (f : FtState → FtState) : (c.updFt n f).dll = c.dll := rfl
@[simp] theorem Core.srQueue_updFt (n : Nat) (f : FtState → FtState) : (c.updFt n f).srQueue = c.srQueue := rfl
@[simp] theorem Core.srBegins_updFt (n : Nat) (f : FtState → FtState) : (c.updFt n f).srBegins = c.srBegins := rfl
@[simp] theorem Core.halves_updFt (n : Nat) (f : FtState → FtState) : (c.updFt n f).halves = c.halves := rfl
@[simp] theorem Core.images_updFt (n : Nat) (f : FtState → FtState) : (c.updFt n f).images = c.images := rfl
@[simp] theorem Core.imageOpen_updFt (n : Nat) (f : FtState → FtState) : (c.updFt n f).imageOpen = c.imageOpen := rfl
@[simp] theorem Core.spill_updFt (n : Nat) (f : FtState → FtState) : (c.updFt n f).spill = c.spill := rfl
@[simp] theorem Core.flash_updFt (n : Nat) (f : FtState → FtState) : (c.updFt n f).flash = c.flash := rfl
@[simp] theorem Core.tap_updFt (n : Nat) (f : FtState → FtState) : (c.updFt n f).tap = c.tap := rfl
@[simp] theorem Core.mg_updFt (n : Nat) (f : FtState → FtState) : (c.updFt n f).mg = c.mg := rfl
@[simp] theorem Core.seq_updFt (n : Nat) (f : FtState → FtState) : (c.updFt n f).seq = c.seq := rfl
@[simp] theorem Core.sail_updFt (n : Nat) (f : FtState → FtState) : (c.updFt n f).sail = c.sail := rfl
@[simp] theorem Core.time_updFt (n : Nat) (f : FtState → FtState) : (c.updFt n f).time = c.time := rfl
@[simp] theorem Core.decisions_updFt (n : Nat) (f : FtState → FtState) : (c.updFt n f).decisions = c.decisions := rfl

/-! ## updLedger -/

@[simp] theorem Core.tick_updLedger (n : Nat) (f : LedgerState → LedgerState) : (c.updLedger n f).tick = c.tick := rfl
@[simp] theorem Core.hubTime_updLedger (n : Nat) (f : LedgerState → LedgerState) : (c.updLedger n f).hubTime = c.hubTime := rfl
@[simp] theorem Core.timeRuns_updLedger (n : Nat) (f : LedgerState → LedgerState) : (c.updLedger n f).timeRuns = c.timeRuns := rfl
@[simp] theorem Core.objs_updLedger (n : Nat) (f : LedgerState → LedgerState) : (c.updLedger n f).objs = c.objs := rfl
@[simp] theorem Core.drawn_updLedger (n : Nat) (f : LedgerState → LedgerState) : (c.updLedger n f).drawn = c.drawn := rfl
@[simp] theorem Core.out_updLedger (n : Nat) (f : LedgerState → LedgerState) : (c.updLedger n f).out = c.out := rfl
@[simp] theorem Core.req_updLedger (n : Nat) (f : LedgerState → LedgerState) : (c.updLedger n f).req = c.req := rfl
@[simp] theorem Core.fc_updLedger (n : Nat) (f : LedgerState → LedgerState) : (c.updLedger n f).fc = c.fc := rfl
@[simp] theorem Core.sluice_updLedger (n : Nat) (f : LedgerState → LedgerState) : (c.updLedger n f).sluice = c.sluice := rfl
@[simp] theorem Core.mc_updLedger (n : Nat) (f : LedgerState → LedgerState) : (c.updLedger n f).mc = c.mc := rfl
@[simp] theorem Core.hr_updLedger (n : Nat) (f : LedgerState → LedgerState) : (c.updLedger n f).hr = c.hr := rfl
@[simp] theorem Core.ddr_updLedger (n : Nat) (f : LedgerState → LedgerState) : (c.updLedger n f).ddr = c.ddr := rfl
@[simp] theorem Core.ecc_updLedger (n : Nat) (f : LedgerState → LedgerState) : (c.updLedger n f).ecc = c.ecc := rfl
@[simp] theorem Core.eccSeq_updLedger (n : Nat) (f : LedgerState → LedgerState) : (c.updLedger n f).eccSeq = c.eccSeq := rfl
@[simp] theorem Core.ft_updLedger (n : Nat) (f : LedgerState → LedgerState) : (c.updLedger n f).ft = c.ft := rfl
@[simp] theorem Core.mon_updLedger (n : Nat) (f : LedgerState → LedgerState) : (c.updLedger n f).mon = c.mon := rfl
@[simp] theorem Core.start_updLedger (n : Nat) (f : LedgerState → LedgerState) : (c.updLedger n f).start = c.start := rfl
@[simp] theorem Core.streams_updLedger (n : Nat) (f : LedgerState → LedgerState) : (c.updLedger n f).streams = c.streams := rfl
@[simp] theorem Core.rings_updLedger (n : Nat) (f : LedgerState → LedgerState) : (c.updLedger n f).rings = c.rings := rfl
@[simp] theorem Core.wins_updLedger (n : Nat) (f : LedgerState → LedgerState) : (c.updLedger n f).wins = c.wins := rfl
@[simp] theorem Core.freezes_updLedger (n : Nat) (f : LedgerState → LedgerState) : (c.updLedger n f).freezes = c.freezes := rfl
@[simp] theorem Core.throttled_updLedger (n : Nat) (f : LedgerState → LedgerState) : (c.updLedger n f).throttled = c.throttled := rfl
@[simp] theorem Core.overHigh_updLedger (n : Nat) (f : LedgerState → LedgerState) : (c.updLedger n f).overHigh = c.overHigh := rfl
@[simp] theorem Core.ctxs_updLedger (n : Nat) (f : LedgerState → LedgerState) : (c.updLedger n f).ctxs = c.ctxs := rfl
@[simp] theorem Core.cache_updLedger (n : Nat) (f : LedgerState → LedgerState) : (c.updLedger n f).cache = c.cache := rfl
@[simp] theorem Core.updLog_updLedger (n : Nat) (f : LedgerState → LedgerState) : (c.updLedger n f).updLog = c.updLog := rfl
@[simp] theorem Core.jobs_updLedger (n : Nat) (f : LedgerState → LedgerState) : (c.updLedger n f).jobs = c.jobs := rfl
@[simp] theorem Core.freeing_updLedger (n : Nat) (f : LedgerState → LedgerState) : (c.updLedger n f).freeing = c.freeing := rfl
@[simp] theorem Core.shown_updLedger (n : Nat) (f : LedgerState → LedgerState) : (c.updLedger n f).shown = c.shown := rfl
@[simp] theorem Core.sessions_updLedger (n : Nat) (f : LedgerState → LedgerState) : (c.updLedger n f).sessions = c.sessions := rfl
@[simp] theorem Core.checkpoints_updLedger (n : Nat) (f : LedgerState → LedgerState) : (c.updLedger n f).checkpoints = c.checkpoints := rfl
@[simp] theorem Core.chainFails_updLedger (n : Nat) (f : LedgerState → LedgerState) : (c.updLedger n f).chainFails = c.chainFails := rfl
@[simp] theorem Core.dll_updLedger (n : Nat) (f : LedgerState → LedgerState) : (c.updLedger n f).dll = c.dll := rfl
@[simp] theorem Core.srQueue_updLedger (n : Nat) (f : LedgerState → LedgerState) : (c.updLedger n f).srQueue = c.srQueue := rfl
@[simp] theorem Core.srBegins_updLedger (n : Nat) (f : LedgerState → LedgerState) : (c.updLedger n f).srBegins = c.srBegins := rfl
@[simp] theorem Core.halves_updLedger (n : Nat) (f : LedgerState → LedgerState) : (c.updLedger n f).halves = c.halves := rfl
@[simp] theorem Core.images_updLedger (n : Nat) (f : LedgerState → LedgerState) : (c.updLedger n f).images = c.images := rfl
@[simp] theorem Core.imageOpen_updLedger (n : Nat) (f : LedgerState → LedgerState) : (c.updLedger n f).imageOpen = c.imageOpen := rfl
@[simp] theorem Core.spill_updLedger (n : Nat) (f : LedgerState → LedgerState) : (c.updLedger n f).spill = c.spill := rfl
@[simp] theorem Core.flash_updLedger (n : Nat) (f : LedgerState → LedgerState) : (c.updLedger n f).flash = c.flash := rfl
@[simp] theorem Core.tap_updLedger (n : Nat) (f : LedgerState → LedgerState) : (c.updLedger n f).tap = c.tap := rfl
@[simp] theorem Core.mg_updLedger (n : Nat) (f : LedgerState → LedgerState) : (c.updLedger n f).mg = c.mg := rfl
@[simp] theorem Core.seq_updLedger (n : Nat) (f : LedgerState → LedgerState) : (c.updLedger n f).seq = c.seq := rfl
@[simp] theorem Core.sail_updLedger (n : Nat) (f : LedgerState → LedgerState) : (c.updLedger n f).sail = c.sail := rfl
@[simp] theorem Core.time_updLedger (n : Nat) (f : LedgerState → LedgerState) : (c.updLedger n f).time = c.time := rfl
@[simp] theorem Core.decisions_updLedger (n : Nat) (f : LedgerState → LedgerState) : (c.updLedger n f).decisions = c.decisions := rfl

/-! ## updMon -/

@[simp] theorem Core.tick_updMon (n : Nat) (f : MonChannel → MonChannel) : (c.updMon n f).tick = c.tick := rfl
@[simp] theorem Core.hubTime_updMon (n : Nat) (f : MonChannel → MonChannel) : (c.updMon n f).hubTime = c.hubTime := rfl
@[simp] theorem Core.timeRuns_updMon (n : Nat) (f : MonChannel → MonChannel) : (c.updMon n f).timeRuns = c.timeRuns := rfl
@[simp] theorem Core.objs_updMon (n : Nat) (f : MonChannel → MonChannel) : (c.updMon n f).objs = c.objs := rfl
@[simp] theorem Core.drawn_updMon (n : Nat) (f : MonChannel → MonChannel) : (c.updMon n f).drawn = c.drawn := rfl
@[simp] theorem Core.out_updMon (n : Nat) (f : MonChannel → MonChannel) : (c.updMon n f).out = c.out := rfl
@[simp] theorem Core.req_updMon (n : Nat) (f : MonChannel → MonChannel) : (c.updMon n f).req = c.req := rfl
@[simp] theorem Core.fc_updMon (n : Nat) (f : MonChannel → MonChannel) : (c.updMon n f).fc = c.fc := rfl
@[simp] theorem Core.sluice_updMon (n : Nat) (f : MonChannel → MonChannel) : (c.updMon n f).sluice = c.sluice := rfl
@[simp] theorem Core.mc_updMon (n : Nat) (f : MonChannel → MonChannel) : (c.updMon n f).mc = c.mc := rfl
@[simp] theorem Core.hr_updMon (n : Nat) (f : MonChannel → MonChannel) : (c.updMon n f).hr = c.hr := rfl
@[simp] theorem Core.ddr_updMon (n : Nat) (f : MonChannel → MonChannel) : (c.updMon n f).ddr = c.ddr := rfl
@[simp] theorem Core.ecc_updMon (n : Nat) (f : MonChannel → MonChannel) : (c.updMon n f).ecc = c.ecc := rfl
@[simp] theorem Core.eccSeq_updMon (n : Nat) (f : MonChannel → MonChannel) : (c.updMon n f).eccSeq = c.eccSeq := rfl
@[simp] theorem Core.ft_updMon (n : Nat) (f : MonChannel → MonChannel) : (c.updMon n f).ft = c.ft := rfl
@[simp] theorem Core.ledger_updMon (n : Nat) (f : MonChannel → MonChannel) : (c.updMon n f).ledger = c.ledger := rfl
@[simp] theorem Core.start_updMon (n : Nat) (f : MonChannel → MonChannel) : (c.updMon n f).start = c.start := rfl
@[simp] theorem Core.streams_updMon (n : Nat) (f : MonChannel → MonChannel) : (c.updMon n f).streams = c.streams := rfl
@[simp] theorem Core.rings_updMon (n : Nat) (f : MonChannel → MonChannel) : (c.updMon n f).rings = c.rings := rfl
@[simp] theorem Core.wins_updMon (n : Nat) (f : MonChannel → MonChannel) : (c.updMon n f).wins = c.wins := rfl
@[simp] theorem Core.freezes_updMon (n : Nat) (f : MonChannel → MonChannel) : (c.updMon n f).freezes = c.freezes := rfl
@[simp] theorem Core.throttled_updMon (n : Nat) (f : MonChannel → MonChannel) : (c.updMon n f).throttled = c.throttled := rfl
@[simp] theorem Core.overHigh_updMon (n : Nat) (f : MonChannel → MonChannel) : (c.updMon n f).overHigh = c.overHigh := rfl
@[simp] theorem Core.ctxs_updMon (n : Nat) (f : MonChannel → MonChannel) : (c.updMon n f).ctxs = c.ctxs := rfl
@[simp] theorem Core.cache_updMon (n : Nat) (f : MonChannel → MonChannel) : (c.updMon n f).cache = c.cache := rfl
@[simp] theorem Core.updLog_updMon (n : Nat) (f : MonChannel → MonChannel) : (c.updMon n f).updLog = c.updLog := rfl
@[simp] theorem Core.jobs_updMon (n : Nat) (f : MonChannel → MonChannel) : (c.updMon n f).jobs = c.jobs := rfl
@[simp] theorem Core.freeing_updMon (n : Nat) (f : MonChannel → MonChannel) : (c.updMon n f).freeing = c.freeing := rfl
@[simp] theorem Core.shown_updMon (n : Nat) (f : MonChannel → MonChannel) : (c.updMon n f).shown = c.shown := rfl
@[simp] theorem Core.sessions_updMon (n : Nat) (f : MonChannel → MonChannel) : (c.updMon n f).sessions = c.sessions := rfl
@[simp] theorem Core.checkpoints_updMon (n : Nat) (f : MonChannel → MonChannel) : (c.updMon n f).checkpoints = c.checkpoints := rfl
@[simp] theorem Core.chainFails_updMon (n : Nat) (f : MonChannel → MonChannel) : (c.updMon n f).chainFails = c.chainFails := rfl
@[simp] theorem Core.dll_updMon (n : Nat) (f : MonChannel → MonChannel) : (c.updMon n f).dll = c.dll := rfl
@[simp] theorem Core.srQueue_updMon (n : Nat) (f : MonChannel → MonChannel) : (c.updMon n f).srQueue = c.srQueue := rfl
@[simp] theorem Core.srBegins_updMon (n : Nat) (f : MonChannel → MonChannel) : (c.updMon n f).srBegins = c.srBegins := rfl
@[simp] theorem Core.halves_updMon (n : Nat) (f : MonChannel → MonChannel) : (c.updMon n f).halves = c.halves := rfl
@[simp] theorem Core.images_updMon (n : Nat) (f : MonChannel → MonChannel) : (c.updMon n f).images = c.images := rfl
@[simp] theorem Core.imageOpen_updMon (n : Nat) (f : MonChannel → MonChannel) : (c.updMon n f).imageOpen = c.imageOpen := rfl
@[simp] theorem Core.spill_updMon (n : Nat) (f : MonChannel → MonChannel) : (c.updMon n f).spill = c.spill := rfl
@[simp] theorem Core.flash_updMon (n : Nat) (f : MonChannel → MonChannel) : (c.updMon n f).flash = c.flash := rfl
@[simp] theorem Core.tap_updMon (n : Nat) (f : MonChannel → MonChannel) : (c.updMon n f).tap = c.tap := rfl
@[simp] theorem Core.mg_updMon (n : Nat) (f : MonChannel → MonChannel) : (c.updMon n f).mg = c.mg := rfl
@[simp] theorem Core.seq_updMon (n : Nat) (f : MonChannel → MonChannel) : (c.updMon n f).seq = c.seq := rfl
@[simp] theorem Core.sail_updMon (n : Nat) (f : MonChannel → MonChannel) : (c.updMon n f).sail = c.sail := rfl
@[simp] theorem Core.time_updMon (n : Nat) (f : MonChannel → MonChannel) : (c.updMon n f).time = c.time := rfl
@[simp] theorem Core.decisions_updMon (n : Nat) (f : MonChannel → MonChannel) : (c.updMon n f).decisions = c.decisions := rfl

/-! ## setPort -/

@[simp] theorem Core.tick_setPort (n : Nat) (m : HrPortState) : (c.setPort n m).tick = c.tick := rfl
@[simp] theorem Core.hubTime_setPort (n : Nat) (m : HrPortState) : (c.setPort n m).hubTime = c.hubTime := rfl
@[simp] theorem Core.timeRuns_setPort (n : Nat) (m : HrPortState) : (c.setPort n m).timeRuns = c.timeRuns := rfl
@[simp] theorem Core.objs_setPort (n : Nat) (m : HrPortState) : (c.setPort n m).objs = c.objs := rfl
@[simp] theorem Core.drawn_setPort (n : Nat) (m : HrPortState) : (c.setPort n m).drawn = c.drawn := rfl
@[simp] theorem Core.out_setPort (n : Nat) (m : HrPortState) : (c.setPort n m).out = c.out := rfl
@[simp] theorem Core.req_setPort (n : Nat) (m : HrPortState) : (c.setPort n m).req = c.req := rfl
@[simp] theorem Core.fc_setPort (n : Nat) (m : HrPortState) : (c.setPort n m).fc = c.fc := rfl
@[simp] theorem Core.sluice_setPort (n : Nat) (m : HrPortState) : (c.setPort n m).sluice = c.sluice := rfl
@[simp] theorem Core.mc_setPort (n : Nat) (m : HrPortState) : (c.setPort n m).mc = c.mc := rfl
@[simp] theorem Core.ddr_setPort (n : Nat) (m : HrPortState) : (c.setPort n m).ddr = c.ddr := rfl
@[simp] theorem Core.ecc_setPort (n : Nat) (m : HrPortState) : (c.setPort n m).ecc = c.ecc := rfl
@[simp] theorem Core.eccSeq_setPort (n : Nat) (m : HrPortState) : (c.setPort n m).eccSeq = c.eccSeq := rfl
@[simp] theorem Core.ft_setPort (n : Nat) (m : HrPortState) : (c.setPort n m).ft = c.ft := rfl
@[simp] theorem Core.ledger_setPort (n : Nat) (m : HrPortState) : (c.setPort n m).ledger = c.ledger := rfl
@[simp] theorem Core.mon_setPort (n : Nat) (m : HrPortState) : (c.setPort n m).mon = c.mon := rfl
@[simp] theorem Core.start_setPort (n : Nat) (m : HrPortState) : (c.setPort n m).start = c.start := rfl
@[simp] theorem Core.streams_setPort (n : Nat) (m : HrPortState) : (c.setPort n m).streams = c.streams := rfl
@[simp] theorem Core.rings_setPort (n : Nat) (m : HrPortState) : (c.setPort n m).rings = c.rings := rfl
@[simp] theorem Core.wins_setPort (n : Nat) (m : HrPortState) : (c.setPort n m).wins = c.wins := rfl
@[simp] theorem Core.freezes_setPort (n : Nat) (m : HrPortState) : (c.setPort n m).freezes = c.freezes := rfl
@[simp] theorem Core.throttled_setPort (n : Nat) (m : HrPortState) : (c.setPort n m).throttled = c.throttled := rfl
@[simp] theorem Core.overHigh_setPort (n : Nat) (m : HrPortState) : (c.setPort n m).overHigh = c.overHigh := rfl
@[simp] theorem Core.ctxs_setPort (n : Nat) (m : HrPortState) : (c.setPort n m).ctxs = c.ctxs := rfl
@[simp] theorem Core.cache_setPort (n : Nat) (m : HrPortState) : (c.setPort n m).cache = c.cache := rfl
@[simp] theorem Core.updLog_setPort (n : Nat) (m : HrPortState) : (c.setPort n m).updLog = c.updLog := rfl
@[simp] theorem Core.jobs_setPort (n : Nat) (m : HrPortState) : (c.setPort n m).jobs = c.jobs := rfl
@[simp] theorem Core.freeing_setPort (n : Nat) (m : HrPortState) : (c.setPort n m).freeing = c.freeing := rfl
@[simp] theorem Core.shown_setPort (n : Nat) (m : HrPortState) : (c.setPort n m).shown = c.shown := rfl
@[simp] theorem Core.sessions_setPort (n : Nat) (m : HrPortState) : (c.setPort n m).sessions = c.sessions := rfl
@[simp] theorem Core.checkpoints_setPort (n : Nat) (m : HrPortState) : (c.setPort n m).checkpoints = c.checkpoints := rfl
@[simp] theorem Core.chainFails_setPort (n : Nat) (m : HrPortState) : (c.setPort n m).chainFails = c.chainFails := rfl
@[simp] theorem Core.dll_setPort (n : Nat) (m : HrPortState) : (c.setPort n m).dll = c.dll := rfl
@[simp] theorem Core.srQueue_setPort (n : Nat) (m : HrPortState) : (c.setPort n m).srQueue = c.srQueue := rfl
@[simp] theorem Core.srBegins_setPort (n : Nat) (m : HrPortState) : (c.setPort n m).srBegins = c.srBegins := rfl
@[simp] theorem Core.halves_setPort (n : Nat) (m : HrPortState) : (c.setPort n m).halves = c.halves := rfl
@[simp] theorem Core.images_setPort (n : Nat) (m : HrPortState) : (c.setPort n m).images = c.images := rfl
@[simp] theorem Core.imageOpen_setPort (n : Nat) (m : HrPortState) : (c.setPort n m).imageOpen = c.imageOpen := rfl
@[simp] theorem Core.spill_setPort (n : Nat) (m : HrPortState) : (c.setPort n m).spill = c.spill := rfl
@[simp] theorem Core.flash_setPort (n : Nat) (m : HrPortState) : (c.setPort n m).flash = c.flash := rfl
@[simp] theorem Core.tap_setPort (n : Nat) (m : HrPortState) : (c.setPort n m).tap = c.tap := rfl
@[simp] theorem Core.mg_setPort (n : Nat) (m : HrPortState) : (c.setPort n m).mg = c.mg := rfl
@[simp] theorem Core.seq_setPort (n : Nat) (m : HrPortState) : (c.setPort n m).seq = c.seq := rfl
@[simp] theorem Core.sail_setPort (n : Nat) (m : HrPortState) : (c.setPort n m).sail = c.sail := rfl
@[simp] theorem Core.time_setPort (n : Nat) (m : HrPortState) : (c.setPort n m).time = c.time := rfl
@[simp] theorem Core.decisions_setPort (n : Nat) (m : HrPortState) : (c.setPort n m).decisions = c.decisions := rfl

/-! ## updStream -/

@[simp] theorem Core.tick_updStream (n : Nat) (f : StreamState → StreamState) : (c.updStream n f).tick = c.tick := rfl
@[simp] theorem Core.hubTime_updStream (n : Nat) (f : StreamState → StreamState) : (c.updStream n f).hubTime = c.hubTime := rfl
@[simp] theorem Core.timeRuns_updStream (n : Nat) (f : StreamState → StreamState) : (c.updStream n f).timeRuns = c.timeRuns := rfl
@[simp] theorem Core.objs_updStream (n : Nat) (f : StreamState → StreamState) : (c.updStream n f).objs = c.objs := rfl
@[simp] theorem Core.drawn_updStream (n : Nat) (f : StreamState → StreamState) : (c.updStream n f).drawn = c.drawn := rfl
@[simp] theorem Core.out_updStream (n : Nat) (f : StreamState → StreamState) : (c.updStream n f).out = c.out := rfl
@[simp] theorem Core.req_updStream (n : Nat) (f : StreamState → StreamState) : (c.updStream n f).req = c.req := rfl
@[simp] theorem Core.fc_updStream (n : Nat) (f : StreamState → StreamState) : (c.updStream n f).fc = c.fc := rfl
@[simp] theorem Core.sluice_updStream (n : Nat) (f : StreamState → StreamState) : (c.updStream n f).sluice = c.sluice := rfl
@[simp] theorem Core.mc_updStream (n : Nat) (f : StreamState → StreamState) : (c.updStream n f).mc = c.mc := rfl
@[simp] theorem Core.hr_updStream (n : Nat) (f : StreamState → StreamState) : (c.updStream n f).hr = c.hr := rfl
@[simp] theorem Core.ddr_updStream (n : Nat) (f : StreamState → StreamState) : (c.updStream n f).ddr = c.ddr := rfl
@[simp] theorem Core.ecc_updStream (n : Nat) (f : StreamState → StreamState) : (c.updStream n f).ecc = c.ecc := rfl
@[simp] theorem Core.eccSeq_updStream (n : Nat) (f : StreamState → StreamState) : (c.updStream n f).eccSeq = c.eccSeq := rfl
@[simp] theorem Core.ft_updStream (n : Nat) (f : StreamState → StreamState) : (c.updStream n f).ft = c.ft := rfl
@[simp] theorem Core.ledger_updStream (n : Nat) (f : StreamState → StreamState) : (c.updStream n f).ledger = c.ledger := rfl
@[simp] theorem Core.mon_updStream (n : Nat) (f : StreamState → StreamState) : (c.updStream n f).mon = c.mon := rfl
@[simp] theorem Core.start_updStream (n : Nat) (f : StreamState → StreamState) : (c.updStream n f).start = c.start := rfl
@[simp] theorem Core.rings_updStream (n : Nat) (f : StreamState → StreamState) : (c.updStream n f).rings = c.rings := rfl
@[simp] theorem Core.wins_updStream (n : Nat) (f : StreamState → StreamState) : (c.updStream n f).wins = c.wins := rfl
@[simp] theorem Core.freezes_updStream (n : Nat) (f : StreamState → StreamState) : (c.updStream n f).freezes = c.freezes := rfl
@[simp] theorem Core.throttled_updStream (n : Nat) (f : StreamState → StreamState) : (c.updStream n f).throttled = c.throttled := rfl
@[simp] theorem Core.overHigh_updStream (n : Nat) (f : StreamState → StreamState) : (c.updStream n f).overHigh = c.overHigh := rfl
@[simp] theorem Core.ctxs_updStream (n : Nat) (f : StreamState → StreamState) : (c.updStream n f).ctxs = c.ctxs := rfl
@[simp] theorem Core.cache_updStream (n : Nat) (f : StreamState → StreamState) : (c.updStream n f).cache = c.cache := rfl
@[simp] theorem Core.updLog_updStream (n : Nat) (f : StreamState → StreamState) : (c.updStream n f).updLog = c.updLog := rfl
@[simp] theorem Core.jobs_updStream (n : Nat) (f : StreamState → StreamState) : (c.updStream n f).jobs = c.jobs := rfl
@[simp] theorem Core.freeing_updStream (n : Nat) (f : StreamState → StreamState) : (c.updStream n f).freeing = c.freeing := rfl
@[simp] theorem Core.shown_updStream (n : Nat) (f : StreamState → StreamState) : (c.updStream n f).shown = c.shown := rfl
@[simp] theorem Core.sessions_updStream (n : Nat) (f : StreamState → StreamState) : (c.updStream n f).sessions = c.sessions := rfl
@[simp] theorem Core.checkpoints_updStream (n : Nat) (f : StreamState → StreamState) : (c.updStream n f).checkpoints = c.checkpoints := rfl
@[simp] theorem Core.chainFails_updStream (n : Nat) (f : StreamState → StreamState) : (c.updStream n f).chainFails = c.chainFails := rfl
@[simp] theorem Core.dll_updStream (n : Nat) (f : StreamState → StreamState) : (c.updStream n f).dll = c.dll := rfl
@[simp] theorem Core.srQueue_updStream (n : Nat) (f : StreamState → StreamState) : (c.updStream n f).srQueue = c.srQueue := rfl
@[simp] theorem Core.srBegins_updStream (n : Nat) (f : StreamState → StreamState) : (c.updStream n f).srBegins = c.srBegins := rfl
@[simp] theorem Core.halves_updStream (n : Nat) (f : StreamState → StreamState) : (c.updStream n f).halves = c.halves := rfl
@[simp] theorem Core.images_updStream (n : Nat) (f : StreamState → StreamState) : (c.updStream n f).images = c.images := rfl
@[simp] theorem Core.imageOpen_updStream (n : Nat) (f : StreamState → StreamState) : (c.updStream n f).imageOpen = c.imageOpen := rfl
@[simp] theorem Core.spill_updStream (n : Nat) (f : StreamState → StreamState) : (c.updStream n f).spill = c.spill := rfl
@[simp] theorem Core.flash_updStream (n : Nat) (f : StreamState → StreamState) : (c.updStream n f).flash = c.flash := rfl
@[simp] theorem Core.tap_updStream (n : Nat) (f : StreamState → StreamState) : (c.updStream n f).tap = c.tap := rfl
@[simp] theorem Core.mg_updStream (n : Nat) (f : StreamState → StreamState) : (c.updStream n f).mg = c.mg := rfl
@[simp] theorem Core.seq_updStream (n : Nat) (f : StreamState → StreamState) : (c.updStream n f).seq = c.seq := rfl
@[simp] theorem Core.sail_updStream (n : Nat) (f : StreamState → StreamState) : (c.updStream n f).sail = c.sail := rfl
@[simp] theorem Core.time_updStream (n : Nat) (f : StreamState → StreamState) : (c.updStream n f).time = c.time := rfl
@[simp] theorem Core.decisions_updStream (n : Nat) (f : StreamState → StreamState) : (c.updStream n f).decisions = c.decisions := rfl

/-! ## updRing -/

@[simp] theorem Core.tick_updRing (n : Nat) (f : RingState → RingState) : (c.updRing n f).tick = c.tick := rfl
@[simp] theorem Core.hubTime_updRing (n : Nat) (f : RingState → RingState) : (c.updRing n f).hubTime = c.hubTime := rfl
@[simp] theorem Core.timeRuns_updRing (n : Nat) (f : RingState → RingState) : (c.updRing n f).timeRuns = c.timeRuns := rfl
@[simp] theorem Core.objs_updRing (n : Nat) (f : RingState → RingState) : (c.updRing n f).objs = c.objs := rfl
@[simp] theorem Core.drawn_updRing (n : Nat) (f : RingState → RingState) : (c.updRing n f).drawn = c.drawn := rfl
@[simp] theorem Core.out_updRing (n : Nat) (f : RingState → RingState) : (c.updRing n f).out = c.out := rfl
@[simp] theorem Core.req_updRing (n : Nat) (f : RingState → RingState) : (c.updRing n f).req = c.req := rfl
@[simp] theorem Core.fc_updRing (n : Nat) (f : RingState → RingState) : (c.updRing n f).fc = c.fc := rfl
@[simp] theorem Core.sluice_updRing (n : Nat) (f : RingState → RingState) : (c.updRing n f).sluice = c.sluice := rfl
@[simp] theorem Core.mc_updRing (n : Nat) (f : RingState → RingState) : (c.updRing n f).mc = c.mc := rfl
@[simp] theorem Core.hr_updRing (n : Nat) (f : RingState → RingState) : (c.updRing n f).hr = c.hr := rfl
@[simp] theorem Core.ddr_updRing (n : Nat) (f : RingState → RingState) : (c.updRing n f).ddr = c.ddr := rfl
@[simp] theorem Core.ecc_updRing (n : Nat) (f : RingState → RingState) : (c.updRing n f).ecc = c.ecc := rfl
@[simp] theorem Core.eccSeq_updRing (n : Nat) (f : RingState → RingState) : (c.updRing n f).eccSeq = c.eccSeq := rfl
@[simp] theorem Core.ft_updRing (n : Nat) (f : RingState → RingState) : (c.updRing n f).ft = c.ft := rfl
@[simp] theorem Core.ledger_updRing (n : Nat) (f : RingState → RingState) : (c.updRing n f).ledger = c.ledger := rfl
@[simp] theorem Core.mon_updRing (n : Nat) (f : RingState → RingState) : (c.updRing n f).mon = c.mon := rfl
@[simp] theorem Core.start_updRing (n : Nat) (f : RingState → RingState) : (c.updRing n f).start = c.start := rfl
@[simp] theorem Core.streams_updRing (n : Nat) (f : RingState → RingState) : (c.updRing n f).streams = c.streams := rfl
@[simp] theorem Core.wins_updRing (n : Nat) (f : RingState → RingState) : (c.updRing n f).wins = c.wins := rfl
@[simp] theorem Core.freezes_updRing (n : Nat) (f : RingState → RingState) : (c.updRing n f).freezes = c.freezes := rfl
@[simp] theorem Core.throttled_updRing (n : Nat) (f : RingState → RingState) : (c.updRing n f).throttled = c.throttled := rfl
@[simp] theorem Core.overHigh_updRing (n : Nat) (f : RingState → RingState) : (c.updRing n f).overHigh = c.overHigh := rfl
@[simp] theorem Core.ctxs_updRing (n : Nat) (f : RingState → RingState) : (c.updRing n f).ctxs = c.ctxs := rfl
@[simp] theorem Core.cache_updRing (n : Nat) (f : RingState → RingState) : (c.updRing n f).cache = c.cache := rfl
@[simp] theorem Core.updLog_updRing (n : Nat) (f : RingState → RingState) : (c.updRing n f).updLog = c.updLog := rfl
@[simp] theorem Core.jobs_updRing (n : Nat) (f : RingState → RingState) : (c.updRing n f).jobs = c.jobs := rfl
@[simp] theorem Core.freeing_updRing (n : Nat) (f : RingState → RingState) : (c.updRing n f).freeing = c.freeing := rfl
@[simp] theorem Core.shown_updRing (n : Nat) (f : RingState → RingState) : (c.updRing n f).shown = c.shown := rfl
@[simp] theorem Core.sessions_updRing (n : Nat) (f : RingState → RingState) : (c.updRing n f).sessions = c.sessions := rfl
@[simp] theorem Core.checkpoints_updRing (n : Nat) (f : RingState → RingState) : (c.updRing n f).checkpoints = c.checkpoints := rfl
@[simp] theorem Core.chainFails_updRing (n : Nat) (f : RingState → RingState) : (c.updRing n f).chainFails = c.chainFails := rfl
@[simp] theorem Core.dll_updRing (n : Nat) (f : RingState → RingState) : (c.updRing n f).dll = c.dll := rfl
@[simp] theorem Core.srQueue_updRing (n : Nat) (f : RingState → RingState) : (c.updRing n f).srQueue = c.srQueue := rfl
@[simp] theorem Core.srBegins_updRing (n : Nat) (f : RingState → RingState) : (c.updRing n f).srBegins = c.srBegins := rfl
@[simp] theorem Core.halves_updRing (n : Nat) (f : RingState → RingState) : (c.updRing n f).halves = c.halves := rfl
@[simp] theorem Core.images_updRing (n : Nat) (f : RingState → RingState) : (c.updRing n f).images = c.images := rfl
@[simp] theorem Core.imageOpen_updRing (n : Nat) (f : RingState → RingState) : (c.updRing n f).imageOpen = c.imageOpen := rfl
@[simp] theorem Core.spill_updRing (n : Nat) (f : RingState → RingState) : (c.updRing n f).spill = c.spill := rfl
@[simp] theorem Core.flash_updRing (n : Nat) (f : RingState → RingState) : (c.updRing n f).flash = c.flash := rfl
@[simp] theorem Core.tap_updRing (n : Nat) (f : RingState → RingState) : (c.updRing n f).tap = c.tap := rfl
@[simp] theorem Core.mg_updRing (n : Nat) (f : RingState → RingState) : (c.updRing n f).mg = c.mg := rfl
@[simp] theorem Core.seq_updRing (n : Nat) (f : RingState → RingState) : (c.updRing n f).seq = c.seq := rfl
@[simp] theorem Core.sail_updRing (n : Nat) (f : RingState → RingState) : (c.updRing n f).sail = c.sail := rfl
@[simp] theorem Core.time_updRing (n : Nat) (f : RingState → RingState) : (c.updRing n f).time = c.time := rfl
@[simp] theorem Core.decisions_updRing (n : Nat) (f : RingState → RingState) : (c.updRing n f).decisions = c.decisions := rfl

/-! ## updWin -/

@[simp] theorem Core.tick_updWin (n : Nat) (f : WinState → WinState) : (c.updWin n f).tick = c.tick := rfl
@[simp] theorem Core.hubTime_updWin (n : Nat) (f : WinState → WinState) : (c.updWin n f).hubTime = c.hubTime := rfl
@[simp] theorem Core.timeRuns_updWin (n : Nat) (f : WinState → WinState) : (c.updWin n f).timeRuns = c.timeRuns := rfl
@[simp] theorem Core.objs_updWin (n : Nat) (f : WinState → WinState) : (c.updWin n f).objs = c.objs := rfl
@[simp] theorem Core.drawn_updWin (n : Nat) (f : WinState → WinState) : (c.updWin n f).drawn = c.drawn := rfl
@[simp] theorem Core.out_updWin (n : Nat) (f : WinState → WinState) : (c.updWin n f).out = c.out := rfl
@[simp] theorem Core.req_updWin (n : Nat) (f : WinState → WinState) : (c.updWin n f).req = c.req := rfl
@[simp] theorem Core.fc_updWin (n : Nat) (f : WinState → WinState) : (c.updWin n f).fc = c.fc := rfl
@[simp] theorem Core.sluice_updWin (n : Nat) (f : WinState → WinState) : (c.updWin n f).sluice = c.sluice := rfl
@[simp] theorem Core.mc_updWin (n : Nat) (f : WinState → WinState) : (c.updWin n f).mc = c.mc := rfl
@[simp] theorem Core.hr_updWin (n : Nat) (f : WinState → WinState) : (c.updWin n f).hr = c.hr := rfl
@[simp] theorem Core.ddr_updWin (n : Nat) (f : WinState → WinState) : (c.updWin n f).ddr = c.ddr := rfl
@[simp] theorem Core.ecc_updWin (n : Nat) (f : WinState → WinState) : (c.updWin n f).ecc = c.ecc := rfl
@[simp] theorem Core.eccSeq_updWin (n : Nat) (f : WinState → WinState) : (c.updWin n f).eccSeq = c.eccSeq := rfl
@[simp] theorem Core.ft_updWin (n : Nat) (f : WinState → WinState) : (c.updWin n f).ft = c.ft := rfl
@[simp] theorem Core.ledger_updWin (n : Nat) (f : WinState → WinState) : (c.updWin n f).ledger = c.ledger := rfl
@[simp] theorem Core.mon_updWin (n : Nat) (f : WinState → WinState) : (c.updWin n f).mon = c.mon := rfl
@[simp] theorem Core.start_updWin (n : Nat) (f : WinState → WinState) : (c.updWin n f).start = c.start := rfl
@[simp] theorem Core.streams_updWin (n : Nat) (f : WinState → WinState) : (c.updWin n f).streams = c.streams := rfl
@[simp] theorem Core.rings_updWin (n : Nat) (f : WinState → WinState) : (c.updWin n f).rings = c.rings := rfl
@[simp] theorem Core.freezes_updWin (n : Nat) (f : WinState → WinState) : (c.updWin n f).freezes = c.freezes := rfl
@[simp] theorem Core.throttled_updWin (n : Nat) (f : WinState → WinState) : (c.updWin n f).throttled = c.throttled := rfl
@[simp] theorem Core.overHigh_updWin (n : Nat) (f : WinState → WinState) : (c.updWin n f).overHigh = c.overHigh := rfl
@[simp] theorem Core.ctxs_updWin (n : Nat) (f : WinState → WinState) : (c.updWin n f).ctxs = c.ctxs := rfl
@[simp] theorem Core.cache_updWin (n : Nat) (f : WinState → WinState) : (c.updWin n f).cache = c.cache := rfl
@[simp] theorem Core.updLog_updWin (n : Nat) (f : WinState → WinState) : (c.updWin n f).updLog = c.updLog := rfl
@[simp] theorem Core.jobs_updWin (n : Nat) (f : WinState → WinState) : (c.updWin n f).jobs = c.jobs := rfl
@[simp] theorem Core.freeing_updWin (n : Nat) (f : WinState → WinState) : (c.updWin n f).freeing = c.freeing := rfl
@[simp] theorem Core.shown_updWin (n : Nat) (f : WinState → WinState) : (c.updWin n f).shown = c.shown := rfl
@[simp] theorem Core.sessions_updWin (n : Nat) (f : WinState → WinState) : (c.updWin n f).sessions = c.sessions := rfl
@[simp] theorem Core.checkpoints_updWin (n : Nat) (f : WinState → WinState) : (c.updWin n f).checkpoints = c.checkpoints := rfl
@[simp] theorem Core.chainFails_updWin (n : Nat) (f : WinState → WinState) : (c.updWin n f).chainFails = c.chainFails := rfl
@[simp] theorem Core.dll_updWin (n : Nat) (f : WinState → WinState) : (c.updWin n f).dll = c.dll := rfl
@[simp] theorem Core.srQueue_updWin (n : Nat) (f : WinState → WinState) : (c.updWin n f).srQueue = c.srQueue := rfl
@[simp] theorem Core.srBegins_updWin (n : Nat) (f : WinState → WinState) : (c.updWin n f).srBegins = c.srBegins := rfl
@[simp] theorem Core.halves_updWin (n : Nat) (f : WinState → WinState) : (c.updWin n f).halves = c.halves := rfl
@[simp] theorem Core.images_updWin (n : Nat) (f : WinState → WinState) : (c.updWin n f).images = c.images := rfl
@[simp] theorem Core.imageOpen_updWin (n : Nat) (f : WinState → WinState) : (c.updWin n f).imageOpen = c.imageOpen := rfl
@[simp] theorem Core.spill_updWin (n : Nat) (f : WinState → WinState) : (c.updWin n f).spill = c.spill := rfl
@[simp] theorem Core.flash_updWin (n : Nat) (f : WinState → WinState) : (c.updWin n f).flash = c.flash := rfl
@[simp] theorem Core.tap_updWin (n : Nat) (f : WinState → WinState) : (c.updWin n f).tap = c.tap := rfl
@[simp] theorem Core.mg_updWin (n : Nat) (f : WinState → WinState) : (c.updWin n f).mg = c.mg := rfl
@[simp] theorem Core.seq_updWin (n : Nat) (f : WinState → WinState) : (c.updWin n f).seq = c.seq := rfl
@[simp] theorem Core.sail_updWin (n : Nat) (f : WinState → WinState) : (c.updWin n f).sail = c.sail := rfl
@[simp] theorem Core.time_updWin (n : Nat) (f : WinState → WinState) : (c.updWin n f).time = c.time := rfl
@[simp] theorem Core.decisions_updWin (n : Nat) (f : WinState → WinState) : (c.updWin n f).decisions = c.decisions := rfl

/-! ## updCtx -/

@[simp] theorem Core.tick_updCtx (n : Nat) (f : CtxState → CtxState) : (c.updCtx n f).tick = c.tick := rfl
@[simp] theorem Core.hubTime_updCtx (n : Nat) (f : CtxState → CtxState) : (c.updCtx n f).hubTime = c.hubTime := rfl
@[simp] theorem Core.timeRuns_updCtx (n : Nat) (f : CtxState → CtxState) : (c.updCtx n f).timeRuns = c.timeRuns := rfl
@[simp] theorem Core.objs_updCtx (n : Nat) (f : CtxState → CtxState) : (c.updCtx n f).objs = c.objs := rfl
@[simp] theorem Core.drawn_updCtx (n : Nat) (f : CtxState → CtxState) : (c.updCtx n f).drawn = c.drawn := rfl
@[simp] theorem Core.out_updCtx (n : Nat) (f : CtxState → CtxState) : (c.updCtx n f).out = c.out := rfl
@[simp] theorem Core.req_updCtx (n : Nat) (f : CtxState → CtxState) : (c.updCtx n f).req = c.req := rfl
@[simp] theorem Core.fc_updCtx (n : Nat) (f : CtxState → CtxState) : (c.updCtx n f).fc = c.fc := rfl
@[simp] theorem Core.sluice_updCtx (n : Nat) (f : CtxState → CtxState) : (c.updCtx n f).sluice = c.sluice := rfl
@[simp] theorem Core.mc_updCtx (n : Nat) (f : CtxState → CtxState) : (c.updCtx n f).mc = c.mc := rfl
@[simp] theorem Core.hr_updCtx (n : Nat) (f : CtxState → CtxState) : (c.updCtx n f).hr = c.hr := rfl
@[simp] theorem Core.ddr_updCtx (n : Nat) (f : CtxState → CtxState) : (c.updCtx n f).ddr = c.ddr := rfl
@[simp] theorem Core.ecc_updCtx (n : Nat) (f : CtxState → CtxState) : (c.updCtx n f).ecc = c.ecc := rfl
@[simp] theorem Core.eccSeq_updCtx (n : Nat) (f : CtxState → CtxState) : (c.updCtx n f).eccSeq = c.eccSeq := rfl
@[simp] theorem Core.ft_updCtx (n : Nat) (f : CtxState → CtxState) : (c.updCtx n f).ft = c.ft := rfl
@[simp] theorem Core.ledger_updCtx (n : Nat) (f : CtxState → CtxState) : (c.updCtx n f).ledger = c.ledger := rfl
@[simp] theorem Core.mon_updCtx (n : Nat) (f : CtxState → CtxState) : (c.updCtx n f).mon = c.mon := rfl
@[simp] theorem Core.start_updCtx (n : Nat) (f : CtxState → CtxState) : (c.updCtx n f).start = c.start := rfl
@[simp] theorem Core.streams_updCtx (n : Nat) (f : CtxState → CtxState) : (c.updCtx n f).streams = c.streams := rfl
@[simp] theorem Core.rings_updCtx (n : Nat) (f : CtxState → CtxState) : (c.updCtx n f).rings = c.rings := rfl
@[simp] theorem Core.wins_updCtx (n : Nat) (f : CtxState → CtxState) : (c.updCtx n f).wins = c.wins := rfl
@[simp] theorem Core.freezes_updCtx (n : Nat) (f : CtxState → CtxState) : (c.updCtx n f).freezes = c.freezes := rfl
@[simp] theorem Core.throttled_updCtx (n : Nat) (f : CtxState → CtxState) : (c.updCtx n f).throttled = c.throttled := rfl
@[simp] theorem Core.overHigh_updCtx (n : Nat) (f : CtxState → CtxState) : (c.updCtx n f).overHigh = c.overHigh := rfl
@[simp] theorem Core.cache_updCtx (n : Nat) (f : CtxState → CtxState) : (c.updCtx n f).cache = c.cache := rfl
@[simp] theorem Core.updLog_updCtx (n : Nat) (f : CtxState → CtxState) : (c.updCtx n f).updLog = c.updLog := rfl
@[simp] theorem Core.jobs_updCtx (n : Nat) (f : CtxState → CtxState) : (c.updCtx n f).jobs = c.jobs := rfl
@[simp] theorem Core.freeing_updCtx (n : Nat) (f : CtxState → CtxState) : (c.updCtx n f).freeing = c.freeing := rfl
@[simp] theorem Core.shown_updCtx (n : Nat) (f : CtxState → CtxState) : (c.updCtx n f).shown = c.shown := rfl
@[simp] theorem Core.sessions_updCtx (n : Nat) (f : CtxState → CtxState) : (c.updCtx n f).sessions = c.sessions := rfl
@[simp] theorem Core.checkpoints_updCtx (n : Nat) (f : CtxState → CtxState) : (c.updCtx n f).checkpoints = c.checkpoints := rfl
@[simp] theorem Core.chainFails_updCtx (n : Nat) (f : CtxState → CtxState) : (c.updCtx n f).chainFails = c.chainFails := rfl
@[simp] theorem Core.dll_updCtx (n : Nat) (f : CtxState → CtxState) : (c.updCtx n f).dll = c.dll := rfl
@[simp] theorem Core.srQueue_updCtx (n : Nat) (f : CtxState → CtxState) : (c.updCtx n f).srQueue = c.srQueue := rfl
@[simp] theorem Core.srBegins_updCtx (n : Nat) (f : CtxState → CtxState) : (c.updCtx n f).srBegins = c.srBegins := rfl
@[simp] theorem Core.halves_updCtx (n : Nat) (f : CtxState → CtxState) : (c.updCtx n f).halves = c.halves := rfl
@[simp] theorem Core.images_updCtx (n : Nat) (f : CtxState → CtxState) : (c.updCtx n f).images = c.images := rfl
@[simp] theorem Core.imageOpen_updCtx (n : Nat) (f : CtxState → CtxState) : (c.updCtx n f).imageOpen = c.imageOpen := rfl
@[simp] theorem Core.spill_updCtx (n : Nat) (f : CtxState → CtxState) : (c.updCtx n f).spill = c.spill := rfl
@[simp] theorem Core.flash_updCtx (n : Nat) (f : CtxState → CtxState) : (c.updCtx n f).flash = c.flash := rfl
@[simp] theorem Core.tap_updCtx (n : Nat) (f : CtxState → CtxState) : (c.updCtx n f).tap = c.tap := rfl
@[simp] theorem Core.mg_updCtx (n : Nat) (f : CtxState → CtxState) : (c.updCtx n f).mg = c.mg := rfl
@[simp] theorem Core.seq_updCtx (n : Nat) (f : CtxState → CtxState) : (c.updCtx n f).seq = c.seq := rfl
@[simp] theorem Core.sail_updCtx (n : Nat) (f : CtxState → CtxState) : (c.updCtx n f).sail = c.sail := rfl
@[simp] theorem Core.time_updCtx (n : Nat) (f : CtxState → CtxState) : (c.updCtx n f).time = c.time := rfl
@[simp] theorem Core.decisions_updCtx (n : Nat) (f : CtxState → CtxState) : (c.updCtx n f).decisions = c.decisions := rfl

/-! ## updJob -/

@[simp] theorem Core.tick_updJob (n : Nat) (f : JobState → JobState) : (c.updJob n f).tick = c.tick := rfl
@[simp] theorem Core.hubTime_updJob (n : Nat) (f : JobState → JobState) : (c.updJob n f).hubTime = c.hubTime := rfl
@[simp] theorem Core.timeRuns_updJob (n : Nat) (f : JobState → JobState) : (c.updJob n f).timeRuns = c.timeRuns := rfl
@[simp] theorem Core.objs_updJob (n : Nat) (f : JobState → JobState) : (c.updJob n f).objs = c.objs := rfl
@[simp] theorem Core.drawn_updJob (n : Nat) (f : JobState → JobState) : (c.updJob n f).drawn = c.drawn := rfl
@[simp] theorem Core.out_updJob (n : Nat) (f : JobState → JobState) : (c.updJob n f).out = c.out := rfl
@[simp] theorem Core.req_updJob (n : Nat) (f : JobState → JobState) : (c.updJob n f).req = c.req := rfl
@[simp] theorem Core.fc_updJob (n : Nat) (f : JobState → JobState) : (c.updJob n f).fc = c.fc := rfl
@[simp] theorem Core.sluice_updJob (n : Nat) (f : JobState → JobState) : (c.updJob n f).sluice = c.sluice := rfl
@[simp] theorem Core.mc_updJob (n : Nat) (f : JobState → JobState) : (c.updJob n f).mc = c.mc := rfl
@[simp] theorem Core.hr_updJob (n : Nat) (f : JobState → JobState) : (c.updJob n f).hr = c.hr := rfl
@[simp] theorem Core.ddr_updJob (n : Nat) (f : JobState → JobState) : (c.updJob n f).ddr = c.ddr := rfl
@[simp] theorem Core.ecc_updJob (n : Nat) (f : JobState → JobState) : (c.updJob n f).ecc = c.ecc := rfl
@[simp] theorem Core.eccSeq_updJob (n : Nat) (f : JobState → JobState) : (c.updJob n f).eccSeq = c.eccSeq := rfl
@[simp] theorem Core.ft_updJob (n : Nat) (f : JobState → JobState) : (c.updJob n f).ft = c.ft := rfl
@[simp] theorem Core.ledger_updJob (n : Nat) (f : JobState → JobState) : (c.updJob n f).ledger = c.ledger := rfl
@[simp] theorem Core.mon_updJob (n : Nat) (f : JobState → JobState) : (c.updJob n f).mon = c.mon := rfl
@[simp] theorem Core.start_updJob (n : Nat) (f : JobState → JobState) : (c.updJob n f).start = c.start := rfl
@[simp] theorem Core.streams_updJob (n : Nat) (f : JobState → JobState) : (c.updJob n f).streams = c.streams := rfl
@[simp] theorem Core.rings_updJob (n : Nat) (f : JobState → JobState) : (c.updJob n f).rings = c.rings := rfl
@[simp] theorem Core.wins_updJob (n : Nat) (f : JobState → JobState) : (c.updJob n f).wins = c.wins := rfl
@[simp] theorem Core.freezes_updJob (n : Nat) (f : JobState → JobState) : (c.updJob n f).freezes = c.freezes := rfl
@[simp] theorem Core.throttled_updJob (n : Nat) (f : JobState → JobState) : (c.updJob n f).throttled = c.throttled := rfl
@[simp] theorem Core.overHigh_updJob (n : Nat) (f : JobState → JobState) : (c.updJob n f).overHigh = c.overHigh := rfl
@[simp] theorem Core.ctxs_updJob (n : Nat) (f : JobState → JobState) : (c.updJob n f).ctxs = c.ctxs := rfl
@[simp] theorem Core.cache_updJob (n : Nat) (f : JobState → JobState) : (c.updJob n f).cache = c.cache := rfl
@[simp] theorem Core.updLog_updJob (n : Nat) (f : JobState → JobState) : (c.updJob n f).updLog = c.updLog := rfl
@[simp] theorem Core.freeing_updJob (n : Nat) (f : JobState → JobState) : (c.updJob n f).freeing = c.freeing := rfl
@[simp] theorem Core.shown_updJob (n : Nat) (f : JobState → JobState) : (c.updJob n f).shown = c.shown := rfl
@[simp] theorem Core.sessions_updJob (n : Nat) (f : JobState → JobState) : (c.updJob n f).sessions = c.sessions := rfl
@[simp] theorem Core.checkpoints_updJob (n : Nat) (f : JobState → JobState) : (c.updJob n f).checkpoints = c.checkpoints := rfl
@[simp] theorem Core.chainFails_updJob (n : Nat) (f : JobState → JobState) : (c.updJob n f).chainFails = c.chainFails := rfl
@[simp] theorem Core.dll_updJob (n : Nat) (f : JobState → JobState) : (c.updJob n f).dll = c.dll := rfl
@[simp] theorem Core.srQueue_updJob (n : Nat) (f : JobState → JobState) : (c.updJob n f).srQueue = c.srQueue := rfl
@[simp] theorem Core.srBegins_updJob (n : Nat) (f : JobState → JobState) : (c.updJob n f).srBegins = c.srBegins := rfl
@[simp] theorem Core.halves_updJob (n : Nat) (f : JobState → JobState) : (c.updJob n f).halves = c.halves := rfl
@[simp] theorem Core.images_updJob (n : Nat) (f : JobState → JobState) : (c.updJob n f).images = c.images := rfl
@[simp] theorem Core.imageOpen_updJob (n : Nat) (f : JobState → JobState) : (c.updJob n f).imageOpen = c.imageOpen := rfl
@[simp] theorem Core.spill_updJob (n : Nat) (f : JobState → JobState) : (c.updJob n f).spill = c.spill := rfl
@[simp] theorem Core.flash_updJob (n : Nat) (f : JobState → JobState) : (c.updJob n f).flash = c.flash := rfl
@[simp] theorem Core.tap_updJob (n : Nat) (f : JobState → JobState) : (c.updJob n f).tap = c.tap := rfl
@[simp] theorem Core.mg_updJob (n : Nat) (f : JobState → JobState) : (c.updJob n f).mg = c.mg := rfl
@[simp] theorem Core.seq_updJob (n : Nat) (f : JobState → JobState) : (c.updJob n f).seq = c.seq := rfl
@[simp] theorem Core.sail_updJob (n : Nat) (f : JobState → JobState) : (c.updJob n f).sail = c.sail := rfl
@[simp] theorem Core.time_updJob (n : Nat) (f : JobState → JobState) : (c.updJob n f).time = c.time := rfl
@[simp] theorem Core.decisions_updJob (n : Nat) (f : JobState → JobState) : (c.updJob n f).decisions = c.decisions := rfl

/-! ## updHalf -/

@[simp] theorem Core.tick_updHalf (n : Nat) (f : HalfState → HalfState) : (c.updHalf n f).tick = c.tick := rfl
@[simp] theorem Core.hubTime_updHalf (n : Nat) (f : HalfState → HalfState) : (c.updHalf n f).hubTime = c.hubTime := rfl
@[simp] theorem Core.timeRuns_updHalf (n : Nat) (f : HalfState → HalfState) : (c.updHalf n f).timeRuns = c.timeRuns := rfl
@[simp] theorem Core.objs_updHalf (n : Nat) (f : HalfState → HalfState) : (c.updHalf n f).objs = c.objs := rfl
@[simp] theorem Core.drawn_updHalf (n : Nat) (f : HalfState → HalfState) : (c.updHalf n f).drawn = c.drawn := rfl
@[simp] theorem Core.out_updHalf (n : Nat) (f : HalfState → HalfState) : (c.updHalf n f).out = c.out := rfl
@[simp] theorem Core.req_updHalf (n : Nat) (f : HalfState → HalfState) : (c.updHalf n f).req = c.req := rfl
@[simp] theorem Core.fc_updHalf (n : Nat) (f : HalfState → HalfState) : (c.updHalf n f).fc = c.fc := rfl
@[simp] theorem Core.sluice_updHalf (n : Nat) (f : HalfState → HalfState) : (c.updHalf n f).sluice = c.sluice := rfl
@[simp] theorem Core.mc_updHalf (n : Nat) (f : HalfState → HalfState) : (c.updHalf n f).mc = c.mc := rfl
@[simp] theorem Core.hr_updHalf (n : Nat) (f : HalfState → HalfState) : (c.updHalf n f).hr = c.hr := rfl
@[simp] theorem Core.ddr_updHalf (n : Nat) (f : HalfState → HalfState) : (c.updHalf n f).ddr = c.ddr := rfl
@[simp] theorem Core.ecc_updHalf (n : Nat) (f : HalfState → HalfState) : (c.updHalf n f).ecc = c.ecc := rfl
@[simp] theorem Core.eccSeq_updHalf (n : Nat) (f : HalfState → HalfState) : (c.updHalf n f).eccSeq = c.eccSeq := rfl
@[simp] theorem Core.ft_updHalf (n : Nat) (f : HalfState → HalfState) : (c.updHalf n f).ft = c.ft := rfl
@[simp] theorem Core.ledger_updHalf (n : Nat) (f : HalfState → HalfState) : (c.updHalf n f).ledger = c.ledger := rfl
@[simp] theorem Core.mon_updHalf (n : Nat) (f : HalfState → HalfState) : (c.updHalf n f).mon = c.mon := rfl
@[simp] theorem Core.start_updHalf (n : Nat) (f : HalfState → HalfState) : (c.updHalf n f).start = c.start := rfl
@[simp] theorem Core.streams_updHalf (n : Nat) (f : HalfState → HalfState) : (c.updHalf n f).streams = c.streams := rfl
@[simp] theorem Core.rings_updHalf (n : Nat) (f : HalfState → HalfState) : (c.updHalf n f).rings = c.rings := rfl
@[simp] theorem Core.wins_updHalf (n : Nat) (f : HalfState → HalfState) : (c.updHalf n f).wins = c.wins := rfl
@[simp] theorem Core.freezes_updHalf (n : Nat) (f : HalfState → HalfState) : (c.updHalf n f).freezes = c.freezes := rfl
@[simp] theorem Core.throttled_updHalf (n : Nat) (f : HalfState → HalfState) : (c.updHalf n f).throttled = c.throttled := rfl
@[simp] theorem Core.overHigh_updHalf (n : Nat) (f : HalfState → HalfState) : (c.updHalf n f).overHigh = c.overHigh := rfl
@[simp] theorem Core.ctxs_updHalf (n : Nat) (f : HalfState → HalfState) : (c.updHalf n f).ctxs = c.ctxs := rfl
@[simp] theorem Core.cache_updHalf (n : Nat) (f : HalfState → HalfState) : (c.updHalf n f).cache = c.cache := rfl
@[simp] theorem Core.updLog_updHalf (n : Nat) (f : HalfState → HalfState) : (c.updHalf n f).updLog = c.updLog := rfl
@[simp] theorem Core.jobs_updHalf (n : Nat) (f : HalfState → HalfState) : (c.updHalf n f).jobs = c.jobs := rfl
@[simp] theorem Core.freeing_updHalf (n : Nat) (f : HalfState → HalfState) : (c.updHalf n f).freeing = c.freeing := rfl
@[simp] theorem Core.shown_updHalf (n : Nat) (f : HalfState → HalfState) : (c.updHalf n f).shown = c.shown := rfl
@[simp] theorem Core.sessions_updHalf (n : Nat) (f : HalfState → HalfState) : (c.updHalf n f).sessions = c.sessions := rfl
@[simp] theorem Core.checkpoints_updHalf (n : Nat) (f : HalfState → HalfState) : (c.updHalf n f).checkpoints = c.checkpoints := rfl
@[simp] theorem Core.chainFails_updHalf (n : Nat) (f : HalfState → HalfState) : (c.updHalf n f).chainFails = c.chainFails := rfl
@[simp] theorem Core.dll_updHalf (n : Nat) (f : HalfState → HalfState) : (c.updHalf n f).dll = c.dll := rfl
@[simp] theorem Core.srQueue_updHalf (n : Nat) (f : HalfState → HalfState) : (c.updHalf n f).srQueue = c.srQueue := rfl
@[simp] theorem Core.srBegins_updHalf (n : Nat) (f : HalfState → HalfState) : (c.updHalf n f).srBegins = c.srBegins := rfl
@[simp] theorem Core.images_updHalf (n : Nat) (f : HalfState → HalfState) : (c.updHalf n f).images = c.images := rfl
@[simp] theorem Core.imageOpen_updHalf (n : Nat) (f : HalfState → HalfState) : (c.updHalf n f).imageOpen = c.imageOpen := rfl
@[simp] theorem Core.spill_updHalf (n : Nat) (f : HalfState → HalfState) : (c.updHalf n f).spill = c.spill := rfl
@[simp] theorem Core.flash_updHalf (n : Nat) (f : HalfState → HalfState) : (c.updHalf n f).flash = c.flash := rfl
@[simp] theorem Core.tap_updHalf (n : Nat) (f : HalfState → HalfState) : (c.updHalf n f).tap = c.tap := rfl
@[simp] theorem Core.mg_updHalf (n : Nat) (f : HalfState → HalfState) : (c.updHalf n f).mg = c.mg := rfl
@[simp] theorem Core.seq_updHalf (n : Nat) (f : HalfState → HalfState) : (c.updHalf n f).seq = c.seq := rfl
@[simp] theorem Core.sail_updHalf (n : Nat) (f : HalfState → HalfState) : (c.updHalf n f).sail = c.sail := rfl
@[simp] theorem Core.time_updHalf (n : Nat) (f : HalfState → HalfState) : (c.updHalf n f).time = c.time := rfl
@[simp] theorem Core.decisions_updHalf (n : Nat) (f : HalfState → HalfState) : (c.updHalf n f).decisions = c.decisions := rfl

/-! ## updSession -/

@[simp] theorem Core.tick_updSession (n : Nat) (f : Session → Session) : (c.updSession n f).tick = c.tick := rfl
@[simp] theorem Core.hubTime_updSession (n : Nat) (f : Session → Session) : (c.updSession n f).hubTime = c.hubTime := rfl
@[simp] theorem Core.timeRuns_updSession (n : Nat) (f : Session → Session) : (c.updSession n f).timeRuns = c.timeRuns := rfl
@[simp] theorem Core.objs_updSession (n : Nat) (f : Session → Session) : (c.updSession n f).objs = c.objs := rfl
@[simp] theorem Core.drawn_updSession (n : Nat) (f : Session → Session) : (c.updSession n f).drawn = c.drawn := rfl
@[simp] theorem Core.out_updSession (n : Nat) (f : Session → Session) : (c.updSession n f).out = c.out := rfl
@[simp] theorem Core.req_updSession (n : Nat) (f : Session → Session) : (c.updSession n f).req = c.req := rfl
@[simp] theorem Core.fc_updSession (n : Nat) (f : Session → Session) : (c.updSession n f).fc = c.fc := rfl
@[simp] theorem Core.sluice_updSession (n : Nat) (f : Session → Session) : (c.updSession n f).sluice = c.sluice := rfl
@[simp] theorem Core.mc_updSession (n : Nat) (f : Session → Session) : (c.updSession n f).mc = c.mc := rfl
@[simp] theorem Core.hr_updSession (n : Nat) (f : Session → Session) : (c.updSession n f).hr = c.hr := rfl
@[simp] theorem Core.ddr_updSession (n : Nat) (f : Session → Session) : (c.updSession n f).ddr = c.ddr := rfl
@[simp] theorem Core.ecc_updSession (n : Nat) (f : Session → Session) : (c.updSession n f).ecc = c.ecc := rfl
@[simp] theorem Core.eccSeq_updSession (n : Nat) (f : Session → Session) : (c.updSession n f).eccSeq = c.eccSeq := rfl
@[simp] theorem Core.ft_updSession (n : Nat) (f : Session → Session) : (c.updSession n f).ft = c.ft := rfl
@[simp] theorem Core.ledger_updSession (n : Nat) (f : Session → Session) : (c.updSession n f).ledger = c.ledger := rfl
@[simp] theorem Core.mon_updSession (n : Nat) (f : Session → Session) : (c.updSession n f).mon = c.mon := rfl
@[simp] theorem Core.start_updSession (n : Nat) (f : Session → Session) : (c.updSession n f).start = c.start := rfl
@[simp] theorem Core.streams_updSession (n : Nat) (f : Session → Session) : (c.updSession n f).streams = c.streams := rfl
@[simp] theorem Core.rings_updSession (n : Nat) (f : Session → Session) : (c.updSession n f).rings = c.rings := rfl
@[simp] theorem Core.wins_updSession (n : Nat) (f : Session → Session) : (c.updSession n f).wins = c.wins := rfl
@[simp] theorem Core.freezes_updSession (n : Nat) (f : Session → Session) : (c.updSession n f).freezes = c.freezes := rfl
@[simp] theorem Core.throttled_updSession (n : Nat) (f : Session → Session) : (c.updSession n f).throttled = c.throttled := rfl
@[simp] theorem Core.overHigh_updSession (n : Nat) (f : Session → Session) : (c.updSession n f).overHigh = c.overHigh := rfl
@[simp] theorem Core.ctxs_updSession (n : Nat) (f : Session → Session) : (c.updSession n f).ctxs = c.ctxs := rfl
@[simp] theorem Core.cache_updSession (n : Nat) (f : Session → Session) : (c.updSession n f).cache = c.cache := rfl
@[simp] theorem Core.updLog_updSession (n : Nat) (f : Session → Session) : (c.updSession n f).updLog = c.updLog := rfl
@[simp] theorem Core.jobs_updSession (n : Nat) (f : Session → Session) : (c.updSession n f).jobs = c.jobs := rfl
@[simp] theorem Core.freeing_updSession (n : Nat) (f : Session → Session) : (c.updSession n f).freeing = c.freeing := rfl
@[simp] theorem Core.shown_updSession (n : Nat) (f : Session → Session) : (c.updSession n f).shown = c.shown := rfl
@[simp] theorem Core.checkpoints_updSession (n : Nat) (f : Session → Session) : (c.updSession n f).checkpoints = c.checkpoints := rfl
@[simp] theorem Core.chainFails_updSession (n : Nat) (f : Session → Session) : (c.updSession n f).chainFails = c.chainFails := rfl
@[simp] theorem Core.dll_updSession (n : Nat) (f : Session → Session) : (c.updSession n f).dll = c.dll := rfl
@[simp] theorem Core.srQueue_updSession (n : Nat) (f : Session → Session) : (c.updSession n f).srQueue = c.srQueue := rfl
@[simp] theorem Core.srBegins_updSession (n : Nat) (f : Session → Session) : (c.updSession n f).srBegins = c.srBegins := rfl
@[simp] theorem Core.halves_updSession (n : Nat) (f : Session → Session) : (c.updSession n f).halves = c.halves := rfl
@[simp] theorem Core.images_updSession (n : Nat) (f : Session → Session) : (c.updSession n f).images = c.images := rfl
@[simp] theorem Core.imageOpen_updSession (n : Nat) (f : Session → Session) : (c.updSession n f).imageOpen = c.imageOpen := rfl
@[simp] theorem Core.spill_updSession (n : Nat) (f : Session → Session) : (c.updSession n f).spill = c.spill := rfl
@[simp] theorem Core.flash_updSession (n : Nat) (f : Session → Session) : (c.updSession n f).flash = c.flash := rfl
@[simp] theorem Core.tap_updSession (n : Nat) (f : Session → Session) : (c.updSession n f).tap = c.tap := rfl
@[simp] theorem Core.mg_updSession (n : Nat) (f : Session → Session) : (c.updSession n f).mg = c.mg := rfl
@[simp] theorem Core.seq_updSession (n : Nat) (f : Session → Session) : (c.updSession n f).seq = c.seq := rfl
@[simp] theorem Core.sail_updSession (n : Nat) (f : Session → Session) : (c.updSession n f).sail = c.sail := rfl
@[simp] theorem Core.time_updSession (n : Nat) (f : Session → Session) : (c.updSession n f).time = c.time := rfl
@[simp] theorem Core.decisions_updSession (n : Nat) (f : Session → Session) : (c.updSession n f).decisions = c.decisions := rfl

/-! ## updSail -/

@[simp] theorem Core.tick_updSail (n : Nat) (f : SailPortState → SailPortState) : (c.updSail n f).tick = c.tick := rfl
@[simp] theorem Core.hubTime_updSail (n : Nat) (f : SailPortState → SailPortState) : (c.updSail n f).hubTime = c.hubTime := rfl
@[simp] theorem Core.timeRuns_updSail (n : Nat) (f : SailPortState → SailPortState) : (c.updSail n f).timeRuns = c.timeRuns := rfl
@[simp] theorem Core.objs_updSail (n : Nat) (f : SailPortState → SailPortState) : (c.updSail n f).objs = c.objs := rfl
@[simp] theorem Core.drawn_updSail (n : Nat) (f : SailPortState → SailPortState) : (c.updSail n f).drawn = c.drawn := rfl
@[simp] theorem Core.out_updSail (n : Nat) (f : SailPortState → SailPortState) : (c.updSail n f).out = c.out := rfl
@[simp] theorem Core.req_updSail (n : Nat) (f : SailPortState → SailPortState) : (c.updSail n f).req = c.req := rfl
@[simp] theorem Core.fc_updSail (n : Nat) (f : SailPortState → SailPortState) : (c.updSail n f).fc = c.fc := rfl
@[simp] theorem Core.sluice_updSail (n : Nat) (f : SailPortState → SailPortState) : (c.updSail n f).sluice = c.sluice := rfl
@[simp] theorem Core.mc_updSail (n : Nat) (f : SailPortState → SailPortState) : (c.updSail n f).mc = c.mc := rfl
@[simp] theorem Core.hr_updSail (n : Nat) (f : SailPortState → SailPortState) : (c.updSail n f).hr = c.hr := rfl
@[simp] theorem Core.ddr_updSail (n : Nat) (f : SailPortState → SailPortState) : (c.updSail n f).ddr = c.ddr := rfl
@[simp] theorem Core.ecc_updSail (n : Nat) (f : SailPortState → SailPortState) : (c.updSail n f).ecc = c.ecc := rfl
@[simp] theorem Core.eccSeq_updSail (n : Nat) (f : SailPortState → SailPortState) : (c.updSail n f).eccSeq = c.eccSeq := rfl
@[simp] theorem Core.ft_updSail (n : Nat) (f : SailPortState → SailPortState) : (c.updSail n f).ft = c.ft := rfl
@[simp] theorem Core.ledger_updSail (n : Nat) (f : SailPortState → SailPortState) : (c.updSail n f).ledger = c.ledger := rfl
@[simp] theorem Core.mon_updSail (n : Nat) (f : SailPortState → SailPortState) : (c.updSail n f).mon = c.mon := rfl
@[simp] theorem Core.start_updSail (n : Nat) (f : SailPortState → SailPortState) : (c.updSail n f).start = c.start := rfl
@[simp] theorem Core.streams_updSail (n : Nat) (f : SailPortState → SailPortState) : (c.updSail n f).streams = c.streams := rfl
@[simp] theorem Core.rings_updSail (n : Nat) (f : SailPortState → SailPortState) : (c.updSail n f).rings = c.rings := rfl
@[simp] theorem Core.wins_updSail (n : Nat) (f : SailPortState → SailPortState) : (c.updSail n f).wins = c.wins := rfl
@[simp] theorem Core.freezes_updSail (n : Nat) (f : SailPortState → SailPortState) : (c.updSail n f).freezes = c.freezes := rfl
@[simp] theorem Core.throttled_updSail (n : Nat) (f : SailPortState → SailPortState) : (c.updSail n f).throttled = c.throttled := rfl
@[simp] theorem Core.overHigh_updSail (n : Nat) (f : SailPortState → SailPortState) : (c.updSail n f).overHigh = c.overHigh := rfl
@[simp] theorem Core.ctxs_updSail (n : Nat) (f : SailPortState → SailPortState) : (c.updSail n f).ctxs = c.ctxs := rfl
@[simp] theorem Core.cache_updSail (n : Nat) (f : SailPortState → SailPortState) : (c.updSail n f).cache = c.cache := rfl
@[simp] theorem Core.updLog_updSail (n : Nat) (f : SailPortState → SailPortState) : (c.updSail n f).updLog = c.updLog := rfl
@[simp] theorem Core.jobs_updSail (n : Nat) (f : SailPortState → SailPortState) : (c.updSail n f).jobs = c.jobs := rfl
@[simp] theorem Core.freeing_updSail (n : Nat) (f : SailPortState → SailPortState) : (c.updSail n f).freeing = c.freeing := rfl
@[simp] theorem Core.shown_updSail (n : Nat) (f : SailPortState → SailPortState) : (c.updSail n f).shown = c.shown := rfl
@[simp] theorem Core.sessions_updSail (n : Nat) (f : SailPortState → SailPortState) : (c.updSail n f).sessions = c.sessions := rfl
@[simp] theorem Core.checkpoints_updSail (n : Nat) (f : SailPortState → SailPortState) : (c.updSail n f).checkpoints = c.checkpoints := rfl
@[simp] theorem Core.chainFails_updSail (n : Nat) (f : SailPortState → SailPortState) : (c.updSail n f).chainFails = c.chainFails := rfl
@[simp] theorem Core.dll_updSail (n : Nat) (f : SailPortState → SailPortState) : (c.updSail n f).dll = c.dll := rfl
@[simp] theorem Core.srQueue_updSail (n : Nat) (f : SailPortState → SailPortState) : (c.updSail n f).srQueue = c.srQueue := rfl
@[simp] theorem Core.srBegins_updSail (n : Nat) (f : SailPortState → SailPortState) : (c.updSail n f).srBegins = c.srBegins := rfl
@[simp] theorem Core.halves_updSail (n : Nat) (f : SailPortState → SailPortState) : (c.updSail n f).halves = c.halves := rfl
@[simp] theorem Core.images_updSail (n : Nat) (f : SailPortState → SailPortState) : (c.updSail n f).images = c.images := rfl
@[simp] theorem Core.imageOpen_updSail (n : Nat) (f : SailPortState → SailPortState) : (c.updSail n f).imageOpen = c.imageOpen := rfl
@[simp] theorem Core.spill_updSail (n : Nat) (f : SailPortState → SailPortState) : (c.updSail n f).spill = c.spill := rfl
@[simp] theorem Core.flash_updSail (n : Nat) (f : SailPortState → SailPortState) : (c.updSail n f).flash = c.flash := rfl
@[simp] theorem Core.tap_updSail (n : Nat) (f : SailPortState → SailPortState) : (c.updSail n f).tap = c.tap := rfl
@[simp] theorem Core.mg_updSail (n : Nat) (f : SailPortState → SailPortState) : (c.updSail n f).mg = c.mg := rfl
@[simp] theorem Core.seq_updSail (n : Nat) (f : SailPortState → SailPortState) : (c.updSail n f).seq = c.seq := rfl
@[simp] theorem Core.time_updSail (n : Nat) (f : SailPortState → SailPortState) : (c.updSail n f).time = c.time := rfl
@[simp] theorem Core.decisions_updSail (n : Nat) (f : SailPortState → SailPortState) : (c.updSail n f).decisions = c.decisions := rfl

/-! ## withDecisions -/

@[simp] theorem Core.tick_withDecisions (v : List Decision) : (c.withDecisions v).tick = c.tick := rfl
@[simp] theorem Core.hubTime_withDecisions (v : List Decision) : (c.withDecisions v).hubTime = c.hubTime := rfl
@[simp] theorem Core.timeRuns_withDecisions (v : List Decision) : (c.withDecisions v).timeRuns = c.timeRuns := rfl
@[simp] theorem Core.objs_withDecisions (v : List Decision) : (c.withDecisions v).objs = c.objs := rfl
@[simp] theorem Core.drawn_withDecisions (v : List Decision) : (c.withDecisions v).drawn = c.drawn := rfl
@[simp] theorem Core.out_withDecisions (v : List Decision) : (c.withDecisions v).out = c.out := rfl
@[simp] theorem Core.req_withDecisions (v : List Decision) : (c.withDecisions v).req = c.req := rfl
@[simp] theorem Core.fc_withDecisions (v : List Decision) : (c.withDecisions v).fc = c.fc := rfl
@[simp] theorem Core.sluice_withDecisions (v : List Decision) : (c.withDecisions v).sluice = c.sluice := rfl
@[simp] theorem Core.mc_withDecisions (v : List Decision) : (c.withDecisions v).mc = c.mc := rfl
@[simp] theorem Core.hr_withDecisions (v : List Decision) : (c.withDecisions v).hr = c.hr := rfl
@[simp] theorem Core.ddr_withDecisions (v : List Decision) : (c.withDecisions v).ddr = c.ddr := rfl
@[simp] theorem Core.ecc_withDecisions (v : List Decision) : (c.withDecisions v).ecc = c.ecc := rfl
@[simp] theorem Core.eccSeq_withDecisions (v : List Decision) : (c.withDecisions v).eccSeq = c.eccSeq := rfl
@[simp] theorem Core.ft_withDecisions (v : List Decision) : (c.withDecisions v).ft = c.ft := rfl
@[simp] theorem Core.ledger_withDecisions (v : List Decision) : (c.withDecisions v).ledger = c.ledger := rfl
@[simp] theorem Core.mon_withDecisions (v : List Decision) : (c.withDecisions v).mon = c.mon := rfl
@[simp] theorem Core.start_withDecisions (v : List Decision) : (c.withDecisions v).start = c.start := rfl
@[simp] theorem Core.streams_withDecisions (v : List Decision) : (c.withDecisions v).streams = c.streams := rfl
@[simp] theorem Core.rings_withDecisions (v : List Decision) : (c.withDecisions v).rings = c.rings := rfl
@[simp] theorem Core.wins_withDecisions (v : List Decision) : (c.withDecisions v).wins = c.wins := rfl
@[simp] theorem Core.freezes_withDecisions (v : List Decision) : (c.withDecisions v).freezes = c.freezes := rfl
@[simp] theorem Core.throttled_withDecisions (v : List Decision) : (c.withDecisions v).throttled = c.throttled := rfl
@[simp] theorem Core.overHigh_withDecisions (v : List Decision) : (c.withDecisions v).overHigh = c.overHigh := rfl
@[simp] theorem Core.ctxs_withDecisions (v : List Decision) : (c.withDecisions v).ctxs = c.ctxs := rfl
@[simp] theorem Core.cache_withDecisions (v : List Decision) : (c.withDecisions v).cache = c.cache := rfl
@[simp] theorem Core.updLog_withDecisions (v : List Decision) : (c.withDecisions v).updLog = c.updLog := rfl
@[simp] theorem Core.jobs_withDecisions (v : List Decision) : (c.withDecisions v).jobs = c.jobs := rfl
@[simp] theorem Core.freeing_withDecisions (v : List Decision) : (c.withDecisions v).freeing = c.freeing := rfl
@[simp] theorem Core.shown_withDecisions (v : List Decision) : (c.withDecisions v).shown = c.shown := rfl
@[simp] theorem Core.sessions_withDecisions (v : List Decision) : (c.withDecisions v).sessions = c.sessions := rfl
@[simp] theorem Core.checkpoints_withDecisions (v : List Decision) : (c.withDecisions v).checkpoints = c.checkpoints := rfl
@[simp] theorem Core.chainFails_withDecisions (v : List Decision) : (c.withDecisions v).chainFails = c.chainFails := rfl
@[simp] theorem Core.dll_withDecisions (v : List Decision) : (c.withDecisions v).dll = c.dll := rfl
@[simp] theorem Core.srQueue_withDecisions (v : List Decision) : (c.withDecisions v).srQueue = c.srQueue := rfl
@[simp] theorem Core.srBegins_withDecisions (v : List Decision) : (c.withDecisions v).srBegins = c.srBegins := rfl
@[simp] theorem Core.halves_withDecisions (v : List Decision) : (c.withDecisions v).halves = c.halves := rfl
@[simp] theorem Core.images_withDecisions (v : List Decision) : (c.withDecisions v).images = c.images := rfl
@[simp] theorem Core.imageOpen_withDecisions (v : List Decision) : (c.withDecisions v).imageOpen = c.imageOpen := rfl
@[simp] theorem Core.spill_withDecisions (v : List Decision) : (c.withDecisions v).spill = c.spill := rfl
@[simp] theorem Core.flash_withDecisions (v : List Decision) : (c.withDecisions v).flash = c.flash := rfl
@[simp] theorem Core.tap_withDecisions (v : List Decision) : (c.withDecisions v).tap = c.tap := rfl
@[simp] theorem Core.mg_withDecisions (v : List Decision) : (c.withDecisions v).mg = c.mg := rfl
@[simp] theorem Core.seq_withDecisions (v : List Decision) : (c.withDecisions v).seq = c.seq := rfl
@[simp] theorem Core.sail_withDecisions (v : List Decision) : (c.withDecisions v).sail = c.sail := rfl
@[simp] theorem Core.time_withDecisions (v : List Decision) : (c.withDecisions v).time = c.time := rfl

/-! ## withDll -/

@[simp] theorem Core.tick_withDll (v : Tbl (Int × Nat)) : (c.withDll v).tick = c.tick := rfl
@[simp] theorem Core.hubTime_withDll (v : Tbl (Int × Nat)) : (c.withDll v).hubTime = c.hubTime := rfl
@[simp] theorem Core.timeRuns_withDll (v : Tbl (Int × Nat)) : (c.withDll v).timeRuns = c.timeRuns := rfl
@[simp] theorem Core.objs_withDll (v : Tbl (Int × Nat)) : (c.withDll v).objs = c.objs := rfl
@[simp] theorem Core.drawn_withDll (v : Tbl (Int × Nat)) : (c.withDll v).drawn = c.drawn := rfl
@[simp] theorem Core.out_withDll (v : Tbl (Int × Nat)) : (c.withDll v).out = c.out := rfl
@[simp] theorem Core.req_withDll (v : Tbl (Int × Nat)) : (c.withDll v).req = c.req := rfl
@[simp] theorem Core.fc_withDll (v : Tbl (Int × Nat)) : (c.withDll v).fc = c.fc := rfl
@[simp] theorem Core.sluice_withDll (v : Tbl (Int × Nat)) : (c.withDll v).sluice = c.sluice := rfl
@[simp] theorem Core.mc_withDll (v : Tbl (Int × Nat)) : (c.withDll v).mc = c.mc := rfl
@[simp] theorem Core.hr_withDll (v : Tbl (Int × Nat)) : (c.withDll v).hr = c.hr := rfl
@[simp] theorem Core.ddr_withDll (v : Tbl (Int × Nat)) : (c.withDll v).ddr = c.ddr := rfl
@[simp] theorem Core.ecc_withDll (v : Tbl (Int × Nat)) : (c.withDll v).ecc = c.ecc := rfl
@[simp] theorem Core.eccSeq_withDll (v : Tbl (Int × Nat)) : (c.withDll v).eccSeq = c.eccSeq := rfl
@[simp] theorem Core.ft_withDll (v : Tbl (Int × Nat)) : (c.withDll v).ft = c.ft := rfl
@[simp] theorem Core.ledger_withDll (v : Tbl (Int × Nat)) : (c.withDll v).ledger = c.ledger := rfl
@[simp] theorem Core.mon_withDll (v : Tbl (Int × Nat)) : (c.withDll v).mon = c.mon := rfl
@[simp] theorem Core.start_withDll (v : Tbl (Int × Nat)) : (c.withDll v).start = c.start := rfl
@[simp] theorem Core.streams_withDll (v : Tbl (Int × Nat)) : (c.withDll v).streams = c.streams := rfl
@[simp] theorem Core.rings_withDll (v : Tbl (Int × Nat)) : (c.withDll v).rings = c.rings := rfl
@[simp] theorem Core.wins_withDll (v : Tbl (Int × Nat)) : (c.withDll v).wins = c.wins := rfl
@[simp] theorem Core.freezes_withDll (v : Tbl (Int × Nat)) : (c.withDll v).freezes = c.freezes := rfl
@[simp] theorem Core.throttled_withDll (v : Tbl (Int × Nat)) : (c.withDll v).throttled = c.throttled := rfl
@[simp] theorem Core.overHigh_withDll (v : Tbl (Int × Nat)) : (c.withDll v).overHigh = c.overHigh := rfl
@[simp] theorem Core.ctxs_withDll (v : Tbl (Int × Nat)) : (c.withDll v).ctxs = c.ctxs := rfl
@[simp] theorem Core.cache_withDll (v : Tbl (Int × Nat)) : (c.withDll v).cache = c.cache := rfl
@[simp] theorem Core.updLog_withDll (v : Tbl (Int × Nat)) : (c.withDll v).updLog = c.updLog := rfl
@[simp] theorem Core.jobs_withDll (v : Tbl (Int × Nat)) : (c.withDll v).jobs = c.jobs := rfl
@[simp] theorem Core.freeing_withDll (v : Tbl (Int × Nat)) : (c.withDll v).freeing = c.freeing := rfl
@[simp] theorem Core.shown_withDll (v : Tbl (Int × Nat)) : (c.withDll v).shown = c.shown := rfl
@[simp] theorem Core.sessions_withDll (v : Tbl (Int × Nat)) : (c.withDll v).sessions = c.sessions := rfl
@[simp] theorem Core.checkpoints_withDll (v : Tbl (Int × Nat)) : (c.withDll v).checkpoints = c.checkpoints := rfl
@[simp] theorem Core.chainFails_withDll (v : Tbl (Int × Nat)) : (c.withDll v).chainFails = c.chainFails := rfl
@[simp] theorem Core.srQueue_withDll (v : Tbl (Int × Nat)) : (c.withDll v).srQueue = c.srQueue := rfl
@[simp] theorem Core.srBegins_withDll (v : Tbl (Int × Nat)) : (c.withDll v).srBegins = c.srBegins := rfl
@[simp] theorem Core.halves_withDll (v : Tbl (Int × Nat)) : (c.withDll v).halves = c.halves := rfl
@[simp] theorem Core.images_withDll (v : Tbl (Int × Nat)) : (c.withDll v).images = c.images := rfl
@[simp] theorem Core.imageOpen_withDll (v : Tbl (Int × Nat)) : (c.withDll v).imageOpen = c.imageOpen := rfl
@[simp] theorem Core.spill_withDll (v : Tbl (Int × Nat)) : (c.withDll v).spill = c.spill := rfl
@[simp] theorem Core.flash_withDll (v : Tbl (Int × Nat)) : (c.withDll v).flash = c.flash := rfl
@[simp] theorem Core.tap_withDll (v : Tbl (Int × Nat)) : (c.withDll v).tap = c.tap := rfl
@[simp] theorem Core.mg_withDll (v : Tbl (Int × Nat)) : (c.withDll v).mg = c.mg := rfl
@[simp] theorem Core.seq_withDll (v : Tbl (Int × Nat)) : (c.withDll v).seq = c.seq := rfl
@[simp] theorem Core.sail_withDll (v : Tbl (Int × Nat)) : (c.withDll v).sail = c.sail := rfl
@[simp] theorem Core.time_withDll (v : Tbl (Int × Nat)) : (c.withDll v).time = c.time := rfl
@[simp] theorem Core.decisions_withDll (v : Tbl (Int × Nat)) : (c.withDll v).decisions = c.decisions := rfl

/-! ## withFc -/

@[simp] theorem Core.tick_withFc (v : FcState) : (c.withFc v).tick = c.tick := rfl
@[simp] theorem Core.hubTime_withFc (v : FcState) : (c.withFc v).hubTime = c.hubTime := rfl
@[simp] theorem Core.timeRuns_withFc (v : FcState) : (c.withFc v).timeRuns = c.timeRuns := rfl
@[simp] theorem Core.objs_withFc (v : FcState) : (c.withFc v).objs = c.objs := rfl
@[simp] theorem Core.drawn_withFc (v : FcState) : (c.withFc v).drawn = c.drawn := rfl
@[simp] theorem Core.out_withFc (v : FcState) : (c.withFc v).out = c.out := rfl
@[simp] theorem Core.req_withFc (v : FcState) : (c.withFc v).req = c.req := rfl
@[simp] theorem Core.sluice_withFc (v : FcState) : (c.withFc v).sluice = c.sluice := rfl
@[simp] theorem Core.mc_withFc (v : FcState) : (c.withFc v).mc = c.mc := rfl
@[simp] theorem Core.hr_withFc (v : FcState) : (c.withFc v).hr = c.hr := rfl
@[simp] theorem Core.ddr_withFc (v : FcState) : (c.withFc v).ddr = c.ddr := rfl
@[simp] theorem Core.ecc_withFc (v : FcState) : (c.withFc v).ecc = c.ecc := rfl
@[simp] theorem Core.eccSeq_withFc (v : FcState) : (c.withFc v).eccSeq = c.eccSeq := rfl
@[simp] theorem Core.ft_withFc (v : FcState) : (c.withFc v).ft = c.ft := rfl
@[simp] theorem Core.ledger_withFc (v : FcState) : (c.withFc v).ledger = c.ledger := rfl
@[simp] theorem Core.mon_withFc (v : FcState) : (c.withFc v).mon = c.mon := rfl
@[simp] theorem Core.start_withFc (v : FcState) : (c.withFc v).start = c.start := rfl
@[simp] theorem Core.streams_withFc (v : FcState) : (c.withFc v).streams = c.streams := rfl
@[simp] theorem Core.rings_withFc (v : FcState) : (c.withFc v).rings = c.rings := rfl
@[simp] theorem Core.wins_withFc (v : FcState) : (c.withFc v).wins = c.wins := rfl
@[simp] theorem Core.freezes_withFc (v : FcState) : (c.withFc v).freezes = c.freezes := rfl
@[simp] theorem Core.throttled_withFc (v : FcState) : (c.withFc v).throttled = c.throttled := rfl
@[simp] theorem Core.overHigh_withFc (v : FcState) : (c.withFc v).overHigh = c.overHigh := rfl
@[simp] theorem Core.ctxs_withFc (v : FcState) : (c.withFc v).ctxs = c.ctxs := rfl
@[simp] theorem Core.cache_withFc (v : FcState) : (c.withFc v).cache = c.cache := rfl
@[simp] theorem Core.updLog_withFc (v : FcState) : (c.withFc v).updLog = c.updLog := rfl
@[simp] theorem Core.jobs_withFc (v : FcState) : (c.withFc v).jobs = c.jobs := rfl
@[simp] theorem Core.freeing_withFc (v : FcState) : (c.withFc v).freeing = c.freeing := rfl
@[simp] theorem Core.shown_withFc (v : FcState) : (c.withFc v).shown = c.shown := rfl
@[simp] theorem Core.sessions_withFc (v : FcState) : (c.withFc v).sessions = c.sessions := rfl
@[simp] theorem Core.checkpoints_withFc (v : FcState) : (c.withFc v).checkpoints = c.checkpoints := rfl
@[simp] theorem Core.chainFails_withFc (v : FcState) : (c.withFc v).chainFails = c.chainFails := rfl
@[simp] theorem Core.dll_withFc (v : FcState) : (c.withFc v).dll = c.dll := rfl
@[simp] theorem Core.srQueue_withFc (v : FcState) : (c.withFc v).srQueue = c.srQueue := rfl
@[simp] theorem Core.srBegins_withFc (v : FcState) : (c.withFc v).srBegins = c.srBegins := rfl
@[simp] theorem Core.halves_withFc (v : FcState) : (c.withFc v).halves = c.halves := rfl
@[simp] theorem Core.images_withFc (v : FcState) : (c.withFc v).images = c.images := rfl
@[simp] theorem Core.imageOpen_withFc (v : FcState) : (c.withFc v).imageOpen = c.imageOpen := rfl
@[simp] theorem Core.spill_withFc (v : FcState) : (c.withFc v).spill = c.spill := rfl
@[simp] theorem Core.flash_withFc (v : FcState) : (c.withFc v).flash = c.flash := rfl
@[simp] theorem Core.tap_withFc (v : FcState) : (c.withFc v).tap = c.tap := rfl
@[simp] theorem Core.mg_withFc (v : FcState) : (c.withFc v).mg = c.mg := rfl
@[simp] theorem Core.seq_withFc (v : FcState) : (c.withFc v).seq = c.seq := rfl
@[simp] theorem Core.sail_withFc (v : FcState) : (c.withFc v).sail = c.sail := rfl
@[simp] theorem Core.time_withFc (v : FcState) : (c.withFc v).time = c.time := rfl
@[simp] theorem Core.decisions_withFc (v : FcState) : (c.withFc v).decisions = c.decisions := rfl

/-! ## withSeq -/

@[simp] theorem Core.tick_withSeq (v : SeqState) : (c.withSeq v).tick = c.tick := rfl
@[simp] theorem Core.hubTime_withSeq (v : SeqState) : (c.withSeq v).hubTime = c.hubTime := rfl
@[simp] theorem Core.timeRuns_withSeq (v : SeqState) : (c.withSeq v).timeRuns = c.timeRuns := rfl
@[simp] theorem Core.objs_withSeq (v : SeqState) : (c.withSeq v).objs = c.objs := rfl
@[simp] theorem Core.drawn_withSeq (v : SeqState) : (c.withSeq v).drawn = c.drawn := rfl
@[simp] theorem Core.out_withSeq (v : SeqState) : (c.withSeq v).out = c.out := rfl
@[simp] theorem Core.req_withSeq (v : SeqState) : (c.withSeq v).req = c.req := rfl
@[simp] theorem Core.fc_withSeq (v : SeqState) : (c.withSeq v).fc = c.fc := rfl
@[simp] theorem Core.sluice_withSeq (v : SeqState) : (c.withSeq v).sluice = c.sluice := rfl
@[simp] theorem Core.mc_withSeq (v : SeqState) : (c.withSeq v).mc = c.mc := rfl
@[simp] theorem Core.hr_withSeq (v : SeqState) : (c.withSeq v).hr = c.hr := rfl
@[simp] theorem Core.ddr_withSeq (v : SeqState) : (c.withSeq v).ddr = c.ddr := rfl
@[simp] theorem Core.ecc_withSeq (v : SeqState) : (c.withSeq v).ecc = c.ecc := rfl
@[simp] theorem Core.eccSeq_withSeq (v : SeqState) : (c.withSeq v).eccSeq = c.eccSeq := rfl
@[simp] theorem Core.ft_withSeq (v : SeqState) : (c.withSeq v).ft = c.ft := rfl
@[simp] theorem Core.ledger_withSeq (v : SeqState) : (c.withSeq v).ledger = c.ledger := rfl
@[simp] theorem Core.mon_withSeq (v : SeqState) : (c.withSeq v).mon = c.mon := rfl
@[simp] theorem Core.start_withSeq (v : SeqState) : (c.withSeq v).start = c.start := rfl
@[simp] theorem Core.streams_withSeq (v : SeqState) : (c.withSeq v).streams = c.streams := rfl
@[simp] theorem Core.rings_withSeq (v : SeqState) : (c.withSeq v).rings = c.rings := rfl
@[simp] theorem Core.wins_withSeq (v : SeqState) : (c.withSeq v).wins = c.wins := rfl
@[simp] theorem Core.freezes_withSeq (v : SeqState) : (c.withSeq v).freezes = c.freezes := rfl
@[simp] theorem Core.throttled_withSeq (v : SeqState) : (c.withSeq v).throttled = c.throttled := rfl
@[simp] theorem Core.overHigh_withSeq (v : SeqState) : (c.withSeq v).overHigh = c.overHigh := rfl
@[simp] theorem Core.ctxs_withSeq (v : SeqState) : (c.withSeq v).ctxs = c.ctxs := rfl
@[simp] theorem Core.cache_withSeq (v : SeqState) : (c.withSeq v).cache = c.cache := rfl
@[simp] theorem Core.updLog_withSeq (v : SeqState) : (c.withSeq v).updLog = c.updLog := rfl
@[simp] theorem Core.jobs_withSeq (v : SeqState) : (c.withSeq v).jobs = c.jobs := rfl
@[simp] theorem Core.freeing_withSeq (v : SeqState) : (c.withSeq v).freeing = c.freeing := rfl
@[simp] theorem Core.shown_withSeq (v : SeqState) : (c.withSeq v).shown = c.shown := rfl
@[simp] theorem Core.sessions_withSeq (v : SeqState) : (c.withSeq v).sessions = c.sessions := rfl
@[simp] theorem Core.checkpoints_withSeq (v : SeqState) : (c.withSeq v).checkpoints = c.checkpoints := rfl
@[simp] theorem Core.chainFails_withSeq (v : SeqState) : (c.withSeq v).chainFails = c.chainFails := rfl
@[simp] theorem Core.dll_withSeq (v : SeqState) : (c.withSeq v).dll = c.dll := rfl
@[simp] theorem Core.srQueue_withSeq (v : SeqState) : (c.withSeq v).srQueue = c.srQueue := rfl
@[simp] theorem Core.srBegins_withSeq (v : SeqState) : (c.withSeq v).srBegins = c.srBegins := rfl
@[simp] theorem Core.halves_withSeq (v : SeqState) : (c.withSeq v).halves = c.halves := rfl
@[simp] theorem Core.images_withSeq (v : SeqState) : (c.withSeq v).images = c.images := rfl
@[simp] theorem Core.imageOpen_withSeq (v : SeqState) : (c.withSeq v).imageOpen = c.imageOpen := rfl
@[simp] theorem Core.spill_withSeq (v : SeqState) : (c.withSeq v).spill = c.spill := rfl
@[simp] theorem Core.flash_withSeq (v : SeqState) : (c.withSeq v).flash = c.flash := rfl
@[simp] theorem Core.tap_withSeq (v : SeqState) : (c.withSeq v).tap = c.tap := rfl
@[simp] theorem Core.mg_withSeq (v : SeqState) : (c.withSeq v).mg = c.mg := rfl
@[simp] theorem Core.sail_withSeq (v : SeqState) : (c.withSeq v).sail = c.sail := rfl
@[simp] theorem Core.time_withSeq (v : SeqState) : (c.withSeq v).time = c.time := rfl
@[simp] theorem Core.decisions_withSeq (v : SeqState) : (c.withSeq v).decisions = c.decisions := rfl

/-! ## withStart -/

@[simp] theorem Core.tick_withStart (v : Option StartRun) : (c.withStart v).tick = c.tick := rfl
@[simp] theorem Core.hubTime_withStart (v : Option StartRun) : (c.withStart v).hubTime = c.hubTime := rfl
@[simp] theorem Core.timeRuns_withStart (v : Option StartRun) : (c.withStart v).timeRuns = c.timeRuns := rfl
@[simp] theorem Core.objs_withStart (v : Option StartRun) : (c.withStart v).objs = c.objs := rfl
@[simp] theorem Core.drawn_withStart (v : Option StartRun) : (c.withStart v).drawn = c.drawn := rfl
@[simp] theorem Core.out_withStart (v : Option StartRun) : (c.withStart v).out = c.out := rfl
@[simp] theorem Core.req_withStart (v : Option StartRun) : (c.withStart v).req = c.req := rfl
@[simp] theorem Core.fc_withStart (v : Option StartRun) : (c.withStart v).fc = c.fc := rfl
@[simp] theorem Core.sluice_withStart (v : Option StartRun) : (c.withStart v).sluice = c.sluice := rfl
@[simp] theorem Core.mc_withStart (v : Option StartRun) : (c.withStart v).mc = c.mc := rfl
@[simp] theorem Core.hr_withStart (v : Option StartRun) : (c.withStart v).hr = c.hr := rfl
@[simp] theorem Core.ddr_withStart (v : Option StartRun) : (c.withStart v).ddr = c.ddr := rfl
@[simp] theorem Core.ecc_withStart (v : Option StartRun) : (c.withStart v).ecc = c.ecc := rfl
@[simp] theorem Core.eccSeq_withStart (v : Option StartRun) : (c.withStart v).eccSeq = c.eccSeq := rfl
@[simp] theorem Core.ft_withStart (v : Option StartRun) : (c.withStart v).ft = c.ft := rfl
@[simp] theorem Core.ledger_withStart (v : Option StartRun) : (c.withStart v).ledger = c.ledger := rfl
@[simp] theorem Core.mon_withStart (v : Option StartRun) : (c.withStart v).mon = c.mon := rfl
@[simp] theorem Core.streams_withStart (v : Option StartRun) : (c.withStart v).streams = c.streams := rfl
@[simp] theorem Core.rings_withStart (v : Option StartRun) : (c.withStart v).rings = c.rings := rfl
@[simp] theorem Core.wins_withStart (v : Option StartRun) : (c.withStart v).wins = c.wins := rfl
@[simp] theorem Core.freezes_withStart (v : Option StartRun) : (c.withStart v).freezes = c.freezes := rfl
@[simp] theorem Core.throttled_withStart (v : Option StartRun) : (c.withStart v).throttled = c.throttled := rfl
@[simp] theorem Core.overHigh_withStart (v : Option StartRun) : (c.withStart v).overHigh = c.overHigh := rfl
@[simp] theorem Core.ctxs_withStart (v : Option StartRun) : (c.withStart v).ctxs = c.ctxs := rfl
@[simp] theorem Core.cache_withStart (v : Option StartRun) : (c.withStart v).cache = c.cache := rfl
@[simp] theorem Core.updLog_withStart (v : Option StartRun) : (c.withStart v).updLog = c.updLog := rfl
@[simp] theorem Core.jobs_withStart (v : Option StartRun) : (c.withStart v).jobs = c.jobs := rfl
@[simp] theorem Core.freeing_withStart (v : Option StartRun) : (c.withStart v).freeing = c.freeing := rfl
@[simp] theorem Core.shown_withStart (v : Option StartRun) : (c.withStart v).shown = c.shown := rfl
@[simp] theorem Core.sessions_withStart (v : Option StartRun) : (c.withStart v).sessions = c.sessions := rfl
@[simp] theorem Core.checkpoints_withStart (v : Option StartRun) : (c.withStart v).checkpoints = c.checkpoints := rfl
@[simp] theorem Core.chainFails_withStart (v : Option StartRun) : (c.withStart v).chainFails = c.chainFails := rfl
@[simp] theorem Core.dll_withStart (v : Option StartRun) : (c.withStart v).dll = c.dll := rfl
@[simp] theorem Core.srQueue_withStart (v : Option StartRun) : (c.withStart v).srQueue = c.srQueue := rfl
@[simp] theorem Core.srBegins_withStart (v : Option StartRun) : (c.withStart v).srBegins = c.srBegins := rfl
@[simp] theorem Core.halves_withStart (v : Option StartRun) : (c.withStart v).halves = c.halves := rfl
@[simp] theorem Core.images_withStart (v : Option StartRun) : (c.withStart v).images = c.images := rfl
@[simp] theorem Core.imageOpen_withStart (v : Option StartRun) : (c.withStart v).imageOpen = c.imageOpen := rfl
@[simp] theorem Core.spill_withStart (v : Option StartRun) : (c.withStart v).spill = c.spill := rfl
@[simp] theorem Core.flash_withStart (v : Option StartRun) : (c.withStart v).flash = c.flash := rfl
@[simp] theorem Core.tap_withStart (v : Option StartRun) : (c.withStart v).tap = c.tap := rfl
@[simp] theorem Core.mg_withStart (v : Option StartRun) : (c.withStart v).mg = c.mg := rfl
@[simp] theorem Core.seq_withStart (v : Option StartRun) : (c.withStart v).seq = c.seq := rfl
@[simp] theorem Core.sail_withStart (v : Option StartRun) : (c.withStart v).sail = c.sail := rfl
@[simp] theorem Core.time_withStart (v : Option StartRun) : (c.withStart v).time = c.time := rfl
@[simp] theorem Core.decisions_withStart (v : Option StartRun) : (c.withStart v).decisions = c.decisions := rfl

/-! ## withEccSeq -/

@[simp] theorem Core.tick_withEccSeq (v : Nat) : (c.withEccSeq v).tick = c.tick := rfl
@[simp] theorem Core.hubTime_withEccSeq (v : Nat) : (c.withEccSeq v).hubTime = c.hubTime := rfl
@[simp] theorem Core.timeRuns_withEccSeq (v : Nat) : (c.withEccSeq v).timeRuns = c.timeRuns := rfl
@[simp] theorem Core.objs_withEccSeq (v : Nat) : (c.withEccSeq v).objs = c.objs := rfl
@[simp] theorem Core.drawn_withEccSeq (v : Nat) : (c.withEccSeq v).drawn = c.drawn := rfl
@[simp] theorem Core.out_withEccSeq (v : Nat) : (c.withEccSeq v).out = c.out := rfl
@[simp] theorem Core.req_withEccSeq (v : Nat) : (c.withEccSeq v).req = c.req := rfl
@[simp] theorem Core.fc_withEccSeq (v : Nat) : (c.withEccSeq v).fc = c.fc := rfl
@[simp] theorem Core.sluice_withEccSeq (v : Nat) : (c.withEccSeq v).sluice = c.sluice := rfl
@[simp] theorem Core.mc_withEccSeq (v : Nat) : (c.withEccSeq v).mc = c.mc := rfl
@[simp] theorem Core.hr_withEccSeq (v : Nat) : (c.withEccSeq v).hr = c.hr := rfl
@[simp] theorem Core.ddr_withEccSeq (v : Nat) : (c.withEccSeq v).ddr = c.ddr := rfl
@[simp] theorem Core.ecc_withEccSeq (v : Nat) : (c.withEccSeq v).ecc = c.ecc := rfl
@[simp] theorem Core.ft_withEccSeq (v : Nat) : (c.withEccSeq v).ft = c.ft := rfl
@[simp] theorem Core.ledger_withEccSeq (v : Nat) : (c.withEccSeq v).ledger = c.ledger := rfl
@[simp] theorem Core.mon_withEccSeq (v : Nat) : (c.withEccSeq v).mon = c.mon := rfl
@[simp] theorem Core.start_withEccSeq (v : Nat) : (c.withEccSeq v).start = c.start := rfl
@[simp] theorem Core.streams_withEccSeq (v : Nat) : (c.withEccSeq v).streams = c.streams := rfl
@[simp] theorem Core.rings_withEccSeq (v : Nat) : (c.withEccSeq v).rings = c.rings := rfl
@[simp] theorem Core.wins_withEccSeq (v : Nat) : (c.withEccSeq v).wins = c.wins := rfl
@[simp] theorem Core.freezes_withEccSeq (v : Nat) : (c.withEccSeq v).freezes = c.freezes := rfl
@[simp] theorem Core.throttled_withEccSeq (v : Nat) : (c.withEccSeq v).throttled = c.throttled := rfl
@[simp] theorem Core.overHigh_withEccSeq (v : Nat) : (c.withEccSeq v).overHigh = c.overHigh := rfl
@[simp] theorem Core.ctxs_withEccSeq (v : Nat) : (c.withEccSeq v).ctxs = c.ctxs := rfl
@[simp] theorem Core.cache_withEccSeq (v : Nat) : (c.withEccSeq v).cache = c.cache := rfl
@[simp] theorem Core.updLog_withEccSeq (v : Nat) : (c.withEccSeq v).updLog = c.updLog := rfl
@[simp] theorem Core.jobs_withEccSeq (v : Nat) : (c.withEccSeq v).jobs = c.jobs := rfl
@[simp] theorem Core.freeing_withEccSeq (v : Nat) : (c.withEccSeq v).freeing = c.freeing := rfl
@[simp] theorem Core.shown_withEccSeq (v : Nat) : (c.withEccSeq v).shown = c.shown := rfl
@[simp] theorem Core.sessions_withEccSeq (v : Nat) : (c.withEccSeq v).sessions = c.sessions := rfl
@[simp] theorem Core.checkpoints_withEccSeq (v : Nat) : (c.withEccSeq v).checkpoints = c.checkpoints := rfl
@[simp] theorem Core.chainFails_withEccSeq (v : Nat) : (c.withEccSeq v).chainFails = c.chainFails := rfl
@[simp] theorem Core.dll_withEccSeq (v : Nat) : (c.withEccSeq v).dll = c.dll := rfl
@[simp] theorem Core.srQueue_withEccSeq (v : Nat) : (c.withEccSeq v).srQueue = c.srQueue := rfl
@[simp] theorem Core.srBegins_withEccSeq (v : Nat) : (c.withEccSeq v).srBegins = c.srBegins := rfl
@[simp] theorem Core.halves_withEccSeq (v : Nat) : (c.withEccSeq v).halves = c.halves := rfl
@[simp] theorem Core.images_withEccSeq (v : Nat) : (c.withEccSeq v).images = c.images := rfl
@[simp] theorem Core.imageOpen_withEccSeq (v : Nat) : (c.withEccSeq v).imageOpen = c.imageOpen := rfl
@[simp] theorem Core.spill_withEccSeq (v : Nat) : (c.withEccSeq v).spill = c.spill := rfl
@[simp] theorem Core.flash_withEccSeq (v : Nat) : (c.withEccSeq v).flash = c.flash := rfl
@[simp] theorem Core.tap_withEccSeq (v : Nat) : (c.withEccSeq v).tap = c.tap := rfl
@[simp] theorem Core.mg_withEccSeq (v : Nat) : (c.withEccSeq v).mg = c.mg := rfl
@[simp] theorem Core.seq_withEccSeq (v : Nat) : (c.withEccSeq v).seq = c.seq := rfl
@[simp] theorem Core.sail_withEccSeq (v : Nat) : (c.withEccSeq v).sail = c.sail := rfl
@[simp] theorem Core.time_withEccSeq (v : Nat) : (c.withEccSeq v).time = c.time := rfl
@[simp] theorem Core.decisions_withEccSeq (v : Nat) : (c.withEccSeq v).decisions = c.decisions := rfl

/-! ## withOut -/

@[simp] theorem Core.tick_withOut (v : List Out) : (c.withOut v).tick = c.tick := rfl
@[simp] theorem Core.hubTime_withOut (v : List Out) : (c.withOut v).hubTime = c.hubTime := rfl
@[simp] theorem Core.timeRuns_withOut (v : List Out) : (c.withOut v).timeRuns = c.timeRuns := rfl
@[simp] theorem Core.objs_withOut (v : List Out) : (c.withOut v).objs = c.objs := rfl
@[simp] theorem Core.drawn_withOut (v : List Out) : (c.withOut v).drawn = c.drawn := rfl
@[simp] theorem Core.req_withOut (v : List Out) : (c.withOut v).req = c.req := rfl
@[simp] theorem Core.fc_withOut (v : List Out) : (c.withOut v).fc = c.fc := rfl
@[simp] theorem Core.sluice_withOut (v : List Out) : (c.withOut v).sluice = c.sluice := rfl
@[simp] theorem Core.mc_withOut (v : List Out) : (c.withOut v).mc = c.mc := rfl
@[simp] theorem Core.hr_withOut (v : List Out) : (c.withOut v).hr = c.hr := rfl
@[simp] theorem Core.ddr_withOut (v : List Out) : (c.withOut v).ddr = c.ddr := rfl
@[simp] theorem Core.ecc_withOut (v : List Out) : (c.withOut v).ecc = c.ecc := rfl
@[simp] theorem Core.eccSeq_withOut (v : List Out) : (c.withOut v).eccSeq = c.eccSeq := rfl
@[simp] theorem Core.ft_withOut (v : List Out) : (c.withOut v).ft = c.ft := rfl
@[simp] theorem Core.ledger_withOut (v : List Out) : (c.withOut v).ledger = c.ledger := rfl
@[simp] theorem Core.mon_withOut (v : List Out) : (c.withOut v).mon = c.mon := rfl
@[simp] theorem Core.start_withOut (v : List Out) : (c.withOut v).start = c.start := rfl
@[simp] theorem Core.streams_withOut (v : List Out) : (c.withOut v).streams = c.streams := rfl
@[simp] theorem Core.rings_withOut (v : List Out) : (c.withOut v).rings = c.rings := rfl
@[simp] theorem Core.wins_withOut (v : List Out) : (c.withOut v).wins = c.wins := rfl
@[simp] theorem Core.freezes_withOut (v : List Out) : (c.withOut v).freezes = c.freezes := rfl
@[simp] theorem Core.throttled_withOut (v : List Out) : (c.withOut v).throttled = c.throttled := rfl
@[simp] theorem Core.overHigh_withOut (v : List Out) : (c.withOut v).overHigh = c.overHigh := rfl
@[simp] theorem Core.ctxs_withOut (v : List Out) : (c.withOut v).ctxs = c.ctxs := rfl
@[simp] theorem Core.cache_withOut (v : List Out) : (c.withOut v).cache = c.cache := rfl
@[simp] theorem Core.updLog_withOut (v : List Out) : (c.withOut v).updLog = c.updLog := rfl
@[simp] theorem Core.jobs_withOut (v : List Out) : (c.withOut v).jobs = c.jobs := rfl
@[simp] theorem Core.freeing_withOut (v : List Out) : (c.withOut v).freeing = c.freeing := rfl
@[simp] theorem Core.shown_withOut (v : List Out) : (c.withOut v).shown = c.shown := rfl
@[simp] theorem Core.sessions_withOut (v : List Out) : (c.withOut v).sessions = c.sessions := rfl
@[simp] theorem Core.checkpoints_withOut (v : List Out) : (c.withOut v).checkpoints = c.checkpoints := rfl
@[simp] theorem Core.chainFails_withOut (v : List Out) : (c.withOut v).chainFails = c.chainFails := rfl
@[simp] theorem Core.dll_withOut (v : List Out) : (c.withOut v).dll = c.dll := rfl
@[simp] theorem Core.srQueue_withOut (v : List Out) : (c.withOut v).srQueue = c.srQueue := rfl
@[simp] theorem Core.srBegins_withOut (v : List Out) : (c.withOut v).srBegins = c.srBegins := rfl
@[simp] theorem Core.halves_withOut (v : List Out) : (c.withOut v).halves = c.halves := rfl
@[simp] theorem Core.images_withOut (v : List Out) : (c.withOut v).images = c.images := rfl
@[simp] theorem Core.imageOpen_withOut (v : List Out) : (c.withOut v).imageOpen = c.imageOpen := rfl
@[simp] theorem Core.spill_withOut (v : List Out) : (c.withOut v).spill = c.spill := rfl
@[simp] theorem Core.flash_withOut (v : List Out) : (c.withOut v).flash = c.flash := rfl
@[simp] theorem Core.tap_withOut (v : List Out) : (c.withOut v).tap = c.tap := rfl
@[simp] theorem Core.mg_withOut (v : List Out) : (c.withOut v).mg = c.mg := rfl
@[simp] theorem Core.seq_withOut (v : List Out) : (c.withOut v).seq = c.seq := rfl
@[simp] theorem Core.sail_withOut (v : List Out) : (c.withOut v).sail = c.sail := rfl
@[simp] theorem Core.time_withOut (v : List Out) : (c.withOut v).time = c.time := rfl
@[simp] theorem Core.decisions_withOut (v : List Out) : (c.withOut v).decisions = c.decisions := rfl

/-! ## withReq -/

@[simp] theorem Core.tick_withReq (v : List Req) : (c.withReq v).tick = c.tick := rfl
@[simp] theorem Core.hubTime_withReq (v : List Req) : (c.withReq v).hubTime = c.hubTime := rfl
@[simp] theorem Core.timeRuns_withReq (v : List Req) : (c.withReq v).timeRuns = c.timeRuns := rfl
@[simp] theorem Core.objs_withReq (v : List Req) : (c.withReq v).objs = c.objs := rfl
@[simp] theorem Core.drawn_withReq (v : List Req) : (c.withReq v).drawn = c.drawn := rfl
@[simp] theorem Core.out_withReq (v : List Req) : (c.withReq v).out = c.out := rfl
@[simp] theorem Core.fc_withReq (v : List Req) : (c.withReq v).fc = c.fc := rfl
@[simp] theorem Core.sluice_withReq (v : List Req) : (c.withReq v).sluice = c.sluice := rfl
@[simp] theorem Core.mc_withReq (v : List Req) : (c.withReq v).mc = c.mc := rfl
@[simp] theorem Core.hr_withReq (v : List Req) : (c.withReq v).hr = c.hr := rfl
@[simp] theorem Core.ddr_withReq (v : List Req) : (c.withReq v).ddr = c.ddr := rfl
@[simp] theorem Core.ecc_withReq (v : List Req) : (c.withReq v).ecc = c.ecc := rfl
@[simp] theorem Core.eccSeq_withReq (v : List Req) : (c.withReq v).eccSeq = c.eccSeq := rfl
@[simp] theorem Core.ft_withReq (v : List Req) : (c.withReq v).ft = c.ft := rfl
@[simp] theorem Core.ledger_withReq (v : List Req) : (c.withReq v).ledger = c.ledger := rfl
@[simp] theorem Core.mon_withReq (v : List Req) : (c.withReq v).mon = c.mon := rfl
@[simp] theorem Core.start_withReq (v : List Req) : (c.withReq v).start = c.start := rfl
@[simp] theorem Core.streams_withReq (v : List Req) : (c.withReq v).streams = c.streams := rfl
@[simp] theorem Core.rings_withReq (v : List Req) : (c.withReq v).rings = c.rings := rfl
@[simp] theorem Core.wins_withReq (v : List Req) : (c.withReq v).wins = c.wins := rfl
@[simp] theorem Core.freezes_withReq (v : List Req) : (c.withReq v).freezes = c.freezes := rfl
@[simp] theorem Core.throttled_withReq (v : List Req) : (c.withReq v).throttled = c.throttled := rfl
@[simp] theorem Core.overHigh_withReq (v : List Req) : (c.withReq v).overHigh = c.overHigh := rfl
@[simp] theorem Core.ctxs_withReq (v : List Req) : (c.withReq v).ctxs = c.ctxs := rfl
@[simp] theorem Core.cache_withReq (v : List Req) : (c.withReq v).cache = c.cache := rfl
@[simp] theorem Core.updLog_withReq (v : List Req) : (c.withReq v).updLog = c.updLog := rfl
@[simp] theorem Core.jobs_withReq (v : List Req) : (c.withReq v).jobs = c.jobs := rfl
@[simp] theorem Core.freeing_withReq (v : List Req) : (c.withReq v).freeing = c.freeing := rfl
@[simp] theorem Core.shown_withReq (v : List Req) : (c.withReq v).shown = c.shown := rfl
@[simp] theorem Core.sessions_withReq (v : List Req) : (c.withReq v).sessions = c.sessions := rfl
@[simp] theorem Core.checkpoints_withReq (v : List Req) : (c.withReq v).checkpoints = c.checkpoints := rfl
@[simp] theorem Core.chainFails_withReq (v : List Req) : (c.withReq v).chainFails = c.chainFails := rfl
@[simp] theorem Core.dll_withReq (v : List Req) : (c.withReq v).dll = c.dll := rfl
@[simp] theorem Core.srQueue_withReq (v : List Req) : (c.withReq v).srQueue = c.srQueue := rfl
@[simp] theorem Core.srBegins_withReq (v : List Req) : (c.withReq v).srBegins = c.srBegins := rfl
@[simp] theorem Core.halves_withReq (v : List Req) : (c.withReq v).halves = c.halves := rfl
@[simp] theorem Core.images_withReq (v : List Req) : (c.withReq v).images = c.images := rfl
@[simp] theorem Core.imageOpen_withReq (v : List Req) : (c.withReq v).imageOpen = c.imageOpen := rfl
@[simp] theorem Core.spill_withReq (v : List Req) : (c.withReq v).spill = c.spill := rfl
@[simp] theorem Core.flash_withReq (v : List Req) : (c.withReq v).flash = c.flash := rfl
@[simp] theorem Core.tap_withReq (v : List Req) : (c.withReq v).tap = c.tap := rfl
@[simp] theorem Core.mg_withReq (v : List Req) : (c.withReq v).mg = c.mg := rfl
@[simp] theorem Core.seq_withReq (v : List Req) : (c.withReq v).seq = c.seq := rfl
@[simp] theorem Core.sail_withReq (v : List Req) : (c.withReq v).sail = c.sail := rfl
@[simp] theorem Core.time_withReq (v : List Req) : (c.withReq v).time = c.time := rfl
@[simp] theorem Core.decisions_withReq (v : List Req) : (c.withReq v).decisions = c.decisions := rfl

/-! ## withCheckpoints -/

@[simp] theorem Core.tick_withCheckpoints (v : List (Nat × Nat)) : (c.withCheckpoints v).tick = c.tick := rfl
@[simp] theorem Core.hubTime_withCheckpoints (v : List (Nat × Nat)) : (c.withCheckpoints v).hubTime = c.hubTime := rfl
@[simp] theorem Core.timeRuns_withCheckpoints (v : List (Nat × Nat)) : (c.withCheckpoints v).timeRuns = c.timeRuns := rfl
@[simp] theorem Core.objs_withCheckpoints (v : List (Nat × Nat)) : (c.withCheckpoints v).objs = c.objs := rfl
@[simp] theorem Core.drawn_withCheckpoints (v : List (Nat × Nat)) : (c.withCheckpoints v).drawn = c.drawn := rfl
@[simp] theorem Core.out_withCheckpoints (v : List (Nat × Nat)) : (c.withCheckpoints v).out = c.out := rfl
@[simp] theorem Core.req_withCheckpoints (v : List (Nat × Nat)) : (c.withCheckpoints v).req = c.req := rfl
@[simp] theorem Core.fc_withCheckpoints (v : List (Nat × Nat)) : (c.withCheckpoints v).fc = c.fc := rfl
@[simp] theorem Core.sluice_withCheckpoints (v : List (Nat × Nat)) : (c.withCheckpoints v).sluice = c.sluice := rfl
@[simp] theorem Core.mc_withCheckpoints (v : List (Nat × Nat)) : (c.withCheckpoints v).mc = c.mc := rfl
@[simp] theorem Core.hr_withCheckpoints (v : List (Nat × Nat)) : (c.withCheckpoints v).hr = c.hr := rfl
@[simp] theorem Core.ddr_withCheckpoints (v : List (Nat × Nat)) : (c.withCheckpoints v).ddr = c.ddr := rfl
@[simp] theorem Core.ecc_withCheckpoints (v : List (Nat × Nat)) : (c.withCheckpoints v).ecc = c.ecc := rfl
@[simp] theorem Core.eccSeq_withCheckpoints (v : List (Nat × Nat)) : (c.withCheckpoints v).eccSeq = c.eccSeq := rfl
@[simp] theorem Core.ft_withCheckpoints (v : List (Nat × Nat)) : (c.withCheckpoints v).ft = c.ft := rfl
@[simp] theorem Core.ledger_withCheckpoints (v : List (Nat × Nat)) : (c.withCheckpoints v).ledger = c.ledger := rfl
@[simp] theorem Core.mon_withCheckpoints (v : List (Nat × Nat)) : (c.withCheckpoints v).mon = c.mon := rfl
@[simp] theorem Core.start_withCheckpoints (v : List (Nat × Nat)) : (c.withCheckpoints v).start = c.start := rfl
@[simp] theorem Core.streams_withCheckpoints (v : List (Nat × Nat)) : (c.withCheckpoints v).streams = c.streams := rfl
@[simp] theorem Core.rings_withCheckpoints (v : List (Nat × Nat)) : (c.withCheckpoints v).rings = c.rings := rfl
@[simp] theorem Core.wins_withCheckpoints (v : List (Nat × Nat)) : (c.withCheckpoints v).wins = c.wins := rfl
@[simp] theorem Core.freezes_withCheckpoints (v : List (Nat × Nat)) : (c.withCheckpoints v).freezes = c.freezes := rfl
@[simp] theorem Core.throttled_withCheckpoints (v : List (Nat × Nat)) : (c.withCheckpoints v).throttled = c.throttled := rfl
@[simp] theorem Core.overHigh_withCheckpoints (v : List (Nat × Nat)) : (c.withCheckpoints v).overHigh = c.overHigh := rfl
@[simp] theorem Core.ctxs_withCheckpoints (v : List (Nat × Nat)) : (c.withCheckpoints v).ctxs = c.ctxs := rfl
@[simp] theorem Core.cache_withCheckpoints (v : List (Nat × Nat)) : (c.withCheckpoints v).cache = c.cache := rfl
@[simp] theorem Core.updLog_withCheckpoints (v : List (Nat × Nat)) : (c.withCheckpoints v).updLog = c.updLog := rfl
@[simp] theorem Core.jobs_withCheckpoints (v : List (Nat × Nat)) : (c.withCheckpoints v).jobs = c.jobs := rfl
@[simp] theorem Core.freeing_withCheckpoints (v : List (Nat × Nat)) : (c.withCheckpoints v).freeing = c.freeing := rfl
@[simp] theorem Core.shown_withCheckpoints (v : List (Nat × Nat)) : (c.withCheckpoints v).shown = c.shown := rfl
@[simp] theorem Core.sessions_withCheckpoints (v : List (Nat × Nat)) : (c.withCheckpoints v).sessions = c.sessions := rfl
@[simp] theorem Core.chainFails_withCheckpoints (v : List (Nat × Nat)) : (c.withCheckpoints v).chainFails = c.chainFails := rfl
@[simp] theorem Core.dll_withCheckpoints (v : List (Nat × Nat)) : (c.withCheckpoints v).dll = c.dll := rfl
@[simp] theorem Core.srQueue_withCheckpoints (v : List (Nat × Nat)) : (c.withCheckpoints v).srQueue = c.srQueue := rfl
@[simp] theorem Core.srBegins_withCheckpoints (v : List (Nat × Nat)) : (c.withCheckpoints v).srBegins = c.srBegins := rfl
@[simp] theorem Core.halves_withCheckpoints (v : List (Nat × Nat)) : (c.withCheckpoints v).halves = c.halves := rfl
@[simp] theorem Core.images_withCheckpoints (v : List (Nat × Nat)) : (c.withCheckpoints v).images = c.images := rfl
@[simp] theorem Core.imageOpen_withCheckpoints (v : List (Nat × Nat)) : (c.withCheckpoints v).imageOpen = c.imageOpen := rfl
@[simp] theorem Core.spill_withCheckpoints (v : List (Nat × Nat)) : (c.withCheckpoints v).spill = c.spill := rfl
@[simp] theorem Core.flash_withCheckpoints (v : List (Nat × Nat)) : (c.withCheckpoints v).flash = c.flash := rfl
@[simp] theorem Core.tap_withCheckpoints (v : List (Nat × Nat)) : (c.withCheckpoints v).tap = c.tap := rfl
@[simp] theorem Core.mg_withCheckpoints (v : List (Nat × Nat)) : (c.withCheckpoints v).mg = c.mg := rfl
@[simp] theorem Core.seq_withCheckpoints (v : List (Nat × Nat)) : (c.withCheckpoints v).seq = c.seq := rfl
@[simp] theorem Core.sail_withCheckpoints (v : List (Nat × Nat)) : (c.withCheckpoints v).sail = c.sail := rfl
@[simp] theorem Core.time_withCheckpoints (v : List (Nat × Nat)) : (c.withCheckpoints v).time = c.time := rfl
@[simp] theorem Core.decisions_withCheckpoints (v : List (Nat × Nat)) : (c.withCheckpoints v).decisions = c.decisions := rfl

/-! ## withFreeing -/

@[simp] theorem Core.tick_withFreeing (v : Tbl Nat) : (c.withFreeing v).tick = c.tick := rfl
@[simp] theorem Core.hubTime_withFreeing (v : Tbl Nat) : (c.withFreeing v).hubTime = c.hubTime := rfl
@[simp] theorem Core.timeRuns_withFreeing (v : Tbl Nat) : (c.withFreeing v).timeRuns = c.timeRuns := rfl
@[simp] theorem Core.objs_withFreeing (v : Tbl Nat) : (c.withFreeing v).objs = c.objs := rfl
@[simp] theorem Core.drawn_withFreeing (v : Tbl Nat) : (c.withFreeing v).drawn = c.drawn := rfl
@[simp] theorem Core.out_withFreeing (v : Tbl Nat) : (c.withFreeing v).out = c.out := rfl
@[simp] theorem Core.req_withFreeing (v : Tbl Nat) : (c.withFreeing v).req = c.req := rfl
@[simp] theorem Core.fc_withFreeing (v : Tbl Nat) : (c.withFreeing v).fc = c.fc := rfl
@[simp] theorem Core.sluice_withFreeing (v : Tbl Nat) : (c.withFreeing v).sluice = c.sluice := rfl
@[simp] theorem Core.mc_withFreeing (v : Tbl Nat) : (c.withFreeing v).mc = c.mc := rfl
@[simp] theorem Core.hr_withFreeing (v : Tbl Nat) : (c.withFreeing v).hr = c.hr := rfl
@[simp] theorem Core.ddr_withFreeing (v : Tbl Nat) : (c.withFreeing v).ddr = c.ddr := rfl
@[simp] theorem Core.ecc_withFreeing (v : Tbl Nat) : (c.withFreeing v).ecc = c.ecc := rfl
@[simp] theorem Core.eccSeq_withFreeing (v : Tbl Nat) : (c.withFreeing v).eccSeq = c.eccSeq := rfl
@[simp] theorem Core.ft_withFreeing (v : Tbl Nat) : (c.withFreeing v).ft = c.ft := rfl
@[simp] theorem Core.ledger_withFreeing (v : Tbl Nat) : (c.withFreeing v).ledger = c.ledger := rfl
@[simp] theorem Core.mon_withFreeing (v : Tbl Nat) : (c.withFreeing v).mon = c.mon := rfl
@[simp] theorem Core.start_withFreeing (v : Tbl Nat) : (c.withFreeing v).start = c.start := rfl
@[simp] theorem Core.streams_withFreeing (v : Tbl Nat) : (c.withFreeing v).streams = c.streams := rfl
@[simp] theorem Core.rings_withFreeing (v : Tbl Nat) : (c.withFreeing v).rings = c.rings := rfl
@[simp] theorem Core.wins_withFreeing (v : Tbl Nat) : (c.withFreeing v).wins = c.wins := rfl
@[simp] theorem Core.freezes_withFreeing (v : Tbl Nat) : (c.withFreeing v).freezes = c.freezes := rfl
@[simp] theorem Core.throttled_withFreeing (v : Tbl Nat) : (c.withFreeing v).throttled = c.throttled := rfl
@[simp] theorem Core.overHigh_withFreeing (v : Tbl Nat) : (c.withFreeing v).overHigh = c.overHigh := rfl
@[simp] theorem Core.ctxs_withFreeing (v : Tbl Nat) : (c.withFreeing v).ctxs = c.ctxs := rfl
@[simp] theorem Core.cache_withFreeing (v : Tbl Nat) : (c.withFreeing v).cache = c.cache := rfl
@[simp] theorem Core.updLog_withFreeing (v : Tbl Nat) : (c.withFreeing v).updLog = c.updLog := rfl
@[simp] theorem Core.jobs_withFreeing (v : Tbl Nat) : (c.withFreeing v).jobs = c.jobs := rfl
@[simp] theorem Core.shown_withFreeing (v : Tbl Nat) : (c.withFreeing v).shown = c.shown := rfl
@[simp] theorem Core.sessions_withFreeing (v : Tbl Nat) : (c.withFreeing v).sessions = c.sessions := rfl
@[simp] theorem Core.checkpoints_withFreeing (v : Tbl Nat) : (c.withFreeing v).checkpoints = c.checkpoints := rfl
@[simp] theorem Core.chainFails_withFreeing (v : Tbl Nat) : (c.withFreeing v).chainFails = c.chainFails := rfl
@[simp] theorem Core.dll_withFreeing (v : Tbl Nat) : (c.withFreeing v).dll = c.dll := rfl
@[simp] theorem Core.srQueue_withFreeing (v : Tbl Nat) : (c.withFreeing v).srQueue = c.srQueue := rfl
@[simp] theorem Core.srBegins_withFreeing (v : Tbl Nat) : (c.withFreeing v).srBegins = c.srBegins := rfl
@[simp] theorem Core.halves_withFreeing (v : Tbl Nat) : (c.withFreeing v).halves = c.halves := rfl
@[simp] theorem Core.images_withFreeing (v : Tbl Nat) : (c.withFreeing v).images = c.images := rfl
@[simp] theorem Core.imageOpen_withFreeing (v : Tbl Nat) : (c.withFreeing v).imageOpen = c.imageOpen := rfl
@[simp] theorem Core.spill_withFreeing (v : Tbl Nat) : (c.withFreeing v).spill = c.spill := rfl
@[simp] theorem Core.flash_withFreeing (v : Tbl Nat) : (c.withFreeing v).flash = c.flash := rfl
@[simp] theorem Core.tap_withFreeing (v : Tbl Nat) : (c.withFreeing v).tap = c.tap := rfl
@[simp] theorem Core.mg_withFreeing (v : Tbl Nat) : (c.withFreeing v).mg = c.mg := rfl
@[simp] theorem Core.seq_withFreeing (v : Tbl Nat) : (c.withFreeing v).seq = c.seq := rfl
@[simp] theorem Core.sail_withFreeing (v : Tbl Nat) : (c.withFreeing v).sail = c.sail := rfl
@[simp] theorem Core.time_withFreeing (v : Tbl Nat) : (c.withFreeing v).time = c.time := rfl
@[simp] theorem Core.decisions_withFreeing (v : Tbl Nat) : (c.withFreeing v).decisions = c.decisions := rfl

/-! ## withChainFails -/

@[simp] theorem Core.tick_withChainFails (v : Nat) : (c.withChainFails v).tick = c.tick := rfl
@[simp] theorem Core.hubTime_withChainFails (v : Nat) : (c.withChainFails v).hubTime = c.hubTime := rfl
@[simp] theorem Core.timeRuns_withChainFails (v : Nat) : (c.withChainFails v).timeRuns = c.timeRuns := rfl
@[simp] theorem Core.objs_withChainFails (v : Nat) : (c.withChainFails v).objs = c.objs := rfl
@[simp] theorem Core.drawn_withChainFails (v : Nat) : (c.withChainFails v).drawn = c.drawn := rfl
@[simp] theorem Core.out_withChainFails (v : Nat) : (c.withChainFails v).out = c.out := rfl
@[simp] theorem Core.req_withChainFails (v : Nat) : (c.withChainFails v).req = c.req := rfl
@[simp] theorem Core.fc_withChainFails (v : Nat) : (c.withChainFails v).fc = c.fc := rfl
@[simp] theorem Core.sluice_withChainFails (v : Nat) : (c.withChainFails v).sluice = c.sluice := rfl
@[simp] theorem Core.mc_withChainFails (v : Nat) : (c.withChainFails v).mc = c.mc := rfl
@[simp] theorem Core.hr_withChainFails (v : Nat) : (c.withChainFails v).hr = c.hr := rfl
@[simp] theorem Core.ddr_withChainFails (v : Nat) : (c.withChainFails v).ddr = c.ddr := rfl
@[simp] theorem Core.ecc_withChainFails (v : Nat) : (c.withChainFails v).ecc = c.ecc := rfl
@[simp] theorem Core.eccSeq_withChainFails (v : Nat) : (c.withChainFails v).eccSeq = c.eccSeq := rfl
@[simp] theorem Core.ft_withChainFails (v : Nat) : (c.withChainFails v).ft = c.ft := rfl
@[simp] theorem Core.ledger_withChainFails (v : Nat) : (c.withChainFails v).ledger = c.ledger := rfl
@[simp] theorem Core.mon_withChainFails (v : Nat) : (c.withChainFails v).mon = c.mon := rfl
@[simp] theorem Core.start_withChainFails (v : Nat) : (c.withChainFails v).start = c.start := rfl
@[simp] theorem Core.streams_withChainFails (v : Nat) : (c.withChainFails v).streams = c.streams := rfl
@[simp] theorem Core.rings_withChainFails (v : Nat) : (c.withChainFails v).rings = c.rings := rfl
@[simp] theorem Core.wins_withChainFails (v : Nat) : (c.withChainFails v).wins = c.wins := rfl
@[simp] theorem Core.freezes_withChainFails (v : Nat) : (c.withChainFails v).freezes = c.freezes := rfl
@[simp] theorem Core.throttled_withChainFails (v : Nat) : (c.withChainFails v).throttled = c.throttled := rfl
@[simp] theorem Core.overHigh_withChainFails (v : Nat) : (c.withChainFails v).overHigh = c.overHigh := rfl
@[simp] theorem Core.ctxs_withChainFails (v : Nat) : (c.withChainFails v).ctxs = c.ctxs := rfl
@[simp] theorem Core.cache_withChainFails (v : Nat) : (c.withChainFails v).cache = c.cache := rfl
@[simp] theorem Core.updLog_withChainFails (v : Nat) : (c.withChainFails v).updLog = c.updLog := rfl
@[simp] theorem Core.jobs_withChainFails (v : Nat) : (c.withChainFails v).jobs = c.jobs := rfl
@[simp] theorem Core.freeing_withChainFails (v : Nat) : (c.withChainFails v).freeing = c.freeing := rfl
@[simp] theorem Core.shown_withChainFails (v : Nat) : (c.withChainFails v).shown = c.shown := rfl
@[simp] theorem Core.sessions_withChainFails (v : Nat) : (c.withChainFails v).sessions = c.sessions := rfl
@[simp] theorem Core.checkpoints_withChainFails (v : Nat) : (c.withChainFails v).checkpoints = c.checkpoints := rfl
@[simp] theorem Core.dll_withChainFails (v : Nat) : (c.withChainFails v).dll = c.dll := rfl
@[simp] theorem Core.srQueue_withChainFails (v : Nat) : (c.withChainFails v).srQueue = c.srQueue := rfl
@[simp] theorem Core.srBegins_withChainFails (v : Nat) : (c.withChainFails v).srBegins = c.srBegins := rfl
@[simp] theorem Core.halves_withChainFails (v : Nat) : (c.withChainFails v).halves = c.halves := rfl
@[simp] theorem Core.images_withChainFails (v : Nat) : (c.withChainFails v).images = c.images := rfl
@[simp] theorem Core.imageOpen_withChainFails (v : Nat) : (c.withChainFails v).imageOpen = c.imageOpen := rfl
@[simp] theorem Core.spill_withChainFails (v : Nat) : (c.withChainFails v).spill = c.spill := rfl
@[simp] theorem Core.flash_withChainFails (v : Nat) : (c.withChainFails v).flash = c.flash := rfl
@[simp] theorem Core.tap_withChainFails (v : Nat) : (c.withChainFails v).tap = c.tap := rfl
@[simp] theorem Core.mg_withChainFails (v : Nat) : (c.withChainFails v).mg = c.mg := rfl
@[simp] theorem Core.seq_withChainFails (v : Nat) : (c.withChainFails v).seq = c.seq := rfl
@[simp] theorem Core.sail_withChainFails (v : Nat) : (c.withChainFails v).sail = c.sail := rfl
@[simp] theorem Core.time_withChainFails (v : Nat) : (c.withChainFails v).time = c.time := rfl
@[simp] theorem Core.decisions_withChainFails (v : Nat) : (c.withChainFails v).decisions = c.decisions := rfl

/-! ## withObjs -/

@[simp] theorem Core.tick_withObjs (v : Tbl Nat) : (c.withObjs v).tick = c.tick := rfl
@[simp] theorem Core.hubTime_withObjs (v : Tbl Nat) : (c.withObjs v).hubTime = c.hubTime := rfl
@[simp] theorem Core.timeRuns_withObjs (v : Tbl Nat) : (c.withObjs v).timeRuns = c.timeRuns := rfl
@[simp] theorem Core.drawn_withObjs (v : Tbl Nat) : (c.withObjs v).drawn = c.drawn := rfl
@[simp] theorem Core.out_withObjs (v : Tbl Nat) : (c.withObjs v).out = c.out := rfl
@[simp] theorem Core.req_withObjs (v : Tbl Nat) : (c.withObjs v).req = c.req := rfl
@[simp] theorem Core.fc_withObjs (v : Tbl Nat) : (c.withObjs v).fc = c.fc := rfl
@[simp] theorem Core.sluice_withObjs (v : Tbl Nat) : (c.withObjs v).sluice = c.sluice := rfl
@[simp] theorem Core.mc_withObjs (v : Tbl Nat) : (c.withObjs v).mc = c.mc := rfl
@[simp] theorem Core.hr_withObjs (v : Tbl Nat) : (c.withObjs v).hr = c.hr := rfl
@[simp] theorem Core.ddr_withObjs (v : Tbl Nat) : (c.withObjs v).ddr = c.ddr := rfl
@[simp] theorem Core.ecc_withObjs (v : Tbl Nat) : (c.withObjs v).ecc = c.ecc := rfl
@[simp] theorem Core.eccSeq_withObjs (v : Tbl Nat) : (c.withObjs v).eccSeq = c.eccSeq := rfl
@[simp] theorem Core.ft_withObjs (v : Tbl Nat) : (c.withObjs v).ft = c.ft := rfl
@[simp] theorem Core.ledger_withObjs (v : Tbl Nat) : (c.withObjs v).ledger = c.ledger := rfl
@[simp] theorem Core.mon_withObjs (v : Tbl Nat) : (c.withObjs v).mon = c.mon := rfl
@[simp] theorem Core.start_withObjs (v : Tbl Nat) : (c.withObjs v).start = c.start := rfl
@[simp] theorem Core.streams_withObjs (v : Tbl Nat) : (c.withObjs v).streams = c.streams := rfl
@[simp] theorem Core.rings_withObjs (v : Tbl Nat) : (c.withObjs v).rings = c.rings := rfl
@[simp] theorem Core.wins_withObjs (v : Tbl Nat) : (c.withObjs v).wins = c.wins := rfl
@[simp] theorem Core.freezes_withObjs (v : Tbl Nat) : (c.withObjs v).freezes = c.freezes := rfl
@[simp] theorem Core.throttled_withObjs (v : Tbl Nat) : (c.withObjs v).throttled = c.throttled := rfl
@[simp] theorem Core.overHigh_withObjs (v : Tbl Nat) : (c.withObjs v).overHigh = c.overHigh := rfl
@[simp] theorem Core.ctxs_withObjs (v : Tbl Nat) : (c.withObjs v).ctxs = c.ctxs := rfl
@[simp] theorem Core.cache_withObjs (v : Tbl Nat) : (c.withObjs v).cache = c.cache := rfl
@[simp] theorem Core.updLog_withObjs (v : Tbl Nat) : (c.withObjs v).updLog = c.updLog := rfl
@[simp] theorem Core.jobs_withObjs (v : Tbl Nat) : (c.withObjs v).jobs = c.jobs := rfl
@[simp] theorem Core.freeing_withObjs (v : Tbl Nat) : (c.withObjs v).freeing = c.freeing := rfl
@[simp] theorem Core.shown_withObjs (v : Tbl Nat) : (c.withObjs v).shown = c.shown := rfl
@[simp] theorem Core.sessions_withObjs (v : Tbl Nat) : (c.withObjs v).sessions = c.sessions := rfl
@[simp] theorem Core.checkpoints_withObjs (v : Tbl Nat) : (c.withObjs v).checkpoints = c.checkpoints := rfl
@[simp] theorem Core.chainFails_withObjs (v : Tbl Nat) : (c.withObjs v).chainFails = c.chainFails := rfl
@[simp] theorem Core.dll_withObjs (v : Tbl Nat) : (c.withObjs v).dll = c.dll := rfl
@[simp] theorem Core.srQueue_withObjs (v : Tbl Nat) : (c.withObjs v).srQueue = c.srQueue := rfl
@[simp] theorem Core.srBegins_withObjs (v : Tbl Nat) : (c.withObjs v).srBegins = c.srBegins := rfl
@[simp] theorem Core.halves_withObjs (v : Tbl Nat) : (c.withObjs v).halves = c.halves := rfl
@[simp] theorem Core.images_withObjs (v : Tbl Nat) : (c.withObjs v).images = c.images := rfl
@[simp] theorem Core.imageOpen_withObjs (v : Tbl Nat) : (c.withObjs v).imageOpen = c.imageOpen := rfl
@[simp] theorem Core.spill_withObjs (v : Tbl Nat) : (c.withObjs v).spill = c.spill := rfl
@[simp] theorem Core.flash_withObjs (v : Tbl Nat) : (c.withObjs v).flash = c.flash := rfl
@[simp] theorem Core.tap_withObjs (v : Tbl Nat) : (c.withObjs v).tap = c.tap := rfl
@[simp] theorem Core.mg_withObjs (v : Tbl Nat) : (c.withObjs v).mg = c.mg := rfl
@[simp] theorem Core.seq_withObjs (v : Tbl Nat) : (c.withObjs v).seq = c.seq := rfl
@[simp] theorem Core.sail_withObjs (v : Tbl Nat) : (c.withObjs v).sail = c.sail := rfl
@[simp] theorem Core.time_withObjs (v : Tbl Nat) : (c.withObjs v).time = c.time := rfl
@[simp] theorem Core.decisions_withObjs (v : Tbl Nat) : (c.withObjs v).decisions = c.decisions := rfl

/-! ## withThrottled -/

@[simp] theorem Core.tick_withThrottled (v : Bool) : (c.withThrottled v).tick = c.tick := rfl
@[simp] theorem Core.hubTime_withThrottled (v : Bool) : (c.withThrottled v).hubTime = c.hubTime := rfl
@[simp] theorem Core.timeRuns_withThrottled (v : Bool) : (c.withThrottled v).timeRuns = c.timeRuns := rfl
@[simp] theorem Core.objs_withThrottled (v : Bool) : (c.withThrottled v).objs = c.objs := rfl
@[simp] theorem Core.drawn_withThrottled (v : Bool) : (c.withThrottled v).drawn = c.drawn := rfl
@[simp] theorem Core.out_withThrottled (v : Bool) : (c.withThrottled v).out = c.out := rfl
@[simp] theorem Core.req_withThrottled (v : Bool) : (c.withThrottled v).req = c.req := rfl
@[simp] theorem Core.fc_withThrottled (v : Bool) : (c.withThrottled v).fc = c.fc := rfl
@[simp] theorem Core.sluice_withThrottled (v : Bool) : (c.withThrottled v).sluice = c.sluice := rfl
@[simp] theorem Core.mc_withThrottled (v : Bool) : (c.withThrottled v).mc = c.mc := rfl
@[simp] theorem Core.hr_withThrottled (v : Bool) : (c.withThrottled v).hr = c.hr := rfl
@[simp] theorem Core.ddr_withThrottled (v : Bool) : (c.withThrottled v).ddr = c.ddr := rfl
@[simp] theorem Core.ecc_withThrottled (v : Bool) : (c.withThrottled v).ecc = c.ecc := rfl
@[simp] theorem Core.eccSeq_withThrottled (v : Bool) : (c.withThrottled v).eccSeq = c.eccSeq := rfl
@[simp] theorem Core.ft_withThrottled (v : Bool) : (c.withThrottled v).ft = c.ft := rfl
@[simp] theorem Core.ledger_withThrottled (v : Bool) : (c.withThrottled v).ledger = c.ledger := rfl
@[simp] theorem Core.mon_withThrottled (v : Bool) : (c.withThrottled v).mon = c.mon := rfl
@[simp] theorem Core.start_withThrottled (v : Bool) : (c.withThrottled v).start = c.start := rfl
@[simp] theorem Core.streams_withThrottled (v : Bool) : (c.withThrottled v).streams = c.streams := rfl
@[simp] theorem Core.rings_withThrottled (v : Bool) : (c.withThrottled v).rings = c.rings := rfl
@[simp] theorem Core.wins_withThrottled (v : Bool) : (c.withThrottled v).wins = c.wins := rfl
@[simp] theorem Core.freezes_withThrottled (v : Bool) : (c.withThrottled v).freezes = c.freezes := rfl
@[simp] theorem Core.overHigh_withThrottled (v : Bool) : (c.withThrottled v).overHigh = c.overHigh := rfl
@[simp] theorem Core.ctxs_withThrottled (v : Bool) : (c.withThrottled v).ctxs = c.ctxs := rfl
@[simp] theorem Core.cache_withThrottled (v : Bool) : (c.withThrottled v).cache = c.cache := rfl
@[simp] theorem Core.updLog_withThrottled (v : Bool) : (c.withThrottled v).updLog = c.updLog := rfl
@[simp] theorem Core.jobs_withThrottled (v : Bool) : (c.withThrottled v).jobs = c.jobs := rfl
@[simp] theorem Core.freeing_withThrottled (v : Bool) : (c.withThrottled v).freeing = c.freeing := rfl
@[simp] theorem Core.shown_withThrottled (v : Bool) : (c.withThrottled v).shown = c.shown := rfl
@[simp] theorem Core.sessions_withThrottled (v : Bool) : (c.withThrottled v).sessions = c.sessions := rfl
@[simp] theorem Core.checkpoints_withThrottled (v : Bool) : (c.withThrottled v).checkpoints = c.checkpoints := rfl
@[simp] theorem Core.chainFails_withThrottled (v : Bool) : (c.withThrottled v).chainFails = c.chainFails := rfl
@[simp] theorem Core.dll_withThrottled (v : Bool) : (c.withThrottled v).dll = c.dll := rfl
@[simp] theorem Core.srQueue_withThrottled (v : Bool) : (c.withThrottled v).srQueue = c.srQueue := rfl
@[simp] theorem Core.srBegins_withThrottled (v : Bool) : (c.withThrottled v).srBegins = c.srBegins := rfl
@[simp] theorem Core.halves_withThrottled (v : Bool) : (c.withThrottled v).halves = c.halves := rfl
@[simp] theorem Core.images_withThrottled (v : Bool) : (c.withThrottled v).images = c.images := rfl
@[simp] theorem Core.imageOpen_withThrottled (v : Bool) : (c.withThrottled v).imageOpen = c.imageOpen := rfl
@[simp] theorem Core.spill_withThrottled (v : Bool) : (c.withThrottled v).spill = c.spill := rfl
@[simp] theorem Core.flash_withThrottled (v : Bool) : (c.withThrottled v).flash = c.flash := rfl
@[simp] theorem Core.tap_withThrottled (v : Bool) : (c.withThrottled v).tap = c.tap := rfl
@[simp] theorem Core.mg_withThrottled (v : Bool) : (c.withThrottled v).mg = c.mg := rfl
@[simp] theorem Core.seq_withThrottled (v : Bool) : (c.withThrottled v).seq = c.seq := rfl
@[simp] theorem Core.sail_withThrottled (v : Bool) : (c.withThrottled v).sail = c.sail := rfl
@[simp] theorem Core.time_withThrottled (v : Bool) : (c.withThrottled v).time = c.time := rfl
@[simp] theorem Core.decisions_withThrottled (v : Bool) : (c.withThrottled v).decisions = c.decisions := rfl

/-! ## withOverHigh -/

@[simp] theorem Core.tick_withOverHigh (v : Bool) : (c.withOverHigh v).tick = c.tick := rfl
@[simp] theorem Core.hubTime_withOverHigh (v : Bool) : (c.withOverHigh v).hubTime = c.hubTime := rfl
@[simp] theorem Core.timeRuns_withOverHigh (v : Bool) : (c.withOverHigh v).timeRuns = c.timeRuns := rfl
@[simp] theorem Core.objs_withOverHigh (v : Bool) : (c.withOverHigh v).objs = c.objs := rfl
@[simp] theorem Core.drawn_withOverHigh (v : Bool) : (c.withOverHigh v).drawn = c.drawn := rfl
@[simp] theorem Core.out_withOverHigh (v : Bool) : (c.withOverHigh v).out = c.out := rfl
@[simp] theorem Core.req_withOverHigh (v : Bool) : (c.withOverHigh v).req = c.req := rfl
@[simp] theorem Core.fc_withOverHigh (v : Bool) : (c.withOverHigh v).fc = c.fc := rfl
@[simp] theorem Core.sluice_withOverHigh (v : Bool) : (c.withOverHigh v).sluice = c.sluice := rfl
@[simp] theorem Core.mc_withOverHigh (v : Bool) : (c.withOverHigh v).mc = c.mc := rfl
@[simp] theorem Core.hr_withOverHigh (v : Bool) : (c.withOverHigh v).hr = c.hr := rfl
@[simp] theorem Core.ddr_withOverHigh (v : Bool) : (c.withOverHigh v).ddr = c.ddr := rfl
@[simp] theorem Core.ecc_withOverHigh (v : Bool) : (c.withOverHigh v).ecc = c.ecc := rfl
@[simp] theorem Core.eccSeq_withOverHigh (v : Bool) : (c.withOverHigh v).eccSeq = c.eccSeq := rfl
@[simp] theorem Core.ft_withOverHigh (v : Bool) : (c.withOverHigh v).ft = c.ft := rfl
@[simp] theorem Core.ledger_withOverHigh (v : Bool) : (c.withOverHigh v).ledger = c.ledger := rfl
@[simp] theorem Core.mon_withOverHigh (v : Bool) : (c.withOverHigh v).mon = c.mon := rfl
@[simp] theorem Core.start_withOverHigh (v : Bool) : (c.withOverHigh v).start = c.start := rfl
@[simp] theorem Core.streams_withOverHigh (v : Bool) : (c.withOverHigh v).streams = c.streams := rfl
@[simp] theorem Core.rings_withOverHigh (v : Bool) : (c.withOverHigh v).rings = c.rings := rfl
@[simp] theorem Core.wins_withOverHigh (v : Bool) : (c.withOverHigh v).wins = c.wins := rfl
@[simp] theorem Core.freezes_withOverHigh (v : Bool) : (c.withOverHigh v).freezes = c.freezes := rfl
@[simp] theorem Core.throttled_withOverHigh (v : Bool) : (c.withOverHigh v).throttled = c.throttled := rfl
@[simp] theorem Core.ctxs_withOverHigh (v : Bool) : (c.withOverHigh v).ctxs = c.ctxs := rfl
@[simp] theorem Core.cache_withOverHigh (v : Bool) : (c.withOverHigh v).cache = c.cache := rfl
@[simp] theorem Core.updLog_withOverHigh (v : Bool) : (c.withOverHigh v).updLog = c.updLog := rfl
@[simp] theorem Core.jobs_withOverHigh (v : Bool) : (c.withOverHigh v).jobs = c.jobs := rfl
@[simp] theorem Core.freeing_withOverHigh (v : Bool) : (c.withOverHigh v).freeing = c.freeing := rfl
@[simp] theorem Core.shown_withOverHigh (v : Bool) : (c.withOverHigh v).shown = c.shown := rfl
@[simp] theorem Core.sessions_withOverHigh (v : Bool) : (c.withOverHigh v).sessions = c.sessions := rfl
@[simp] theorem Core.checkpoints_withOverHigh (v : Bool) : (c.withOverHigh v).checkpoints = c.checkpoints := rfl
@[simp] theorem Core.chainFails_withOverHigh (v : Bool) : (c.withOverHigh v).chainFails = c.chainFails := rfl
@[simp] theorem Core.dll_withOverHigh (v : Bool) : (c.withOverHigh v).dll = c.dll := rfl
@[simp] theorem Core.srQueue_withOverHigh (v : Bool) : (c.withOverHigh v).srQueue = c.srQueue := rfl
@[simp] theorem Core.srBegins_withOverHigh (v : Bool) : (c.withOverHigh v).srBegins = c.srBegins := rfl
@[simp] theorem Core.halves_withOverHigh (v : Bool) : (c.withOverHigh v).halves = c.halves := rfl
@[simp] theorem Core.images_withOverHigh (v : Bool) : (c.withOverHigh v).images = c.images := rfl
@[simp] theorem Core.imageOpen_withOverHigh (v : Bool) : (c.withOverHigh v).imageOpen = c.imageOpen := rfl
@[simp] theorem Core.spill_withOverHigh (v : Bool) : (c.withOverHigh v).spill = c.spill := rfl
@[simp] theorem Core.flash_withOverHigh (v : Bool) : (c.withOverHigh v).flash = c.flash := rfl
@[simp] theorem Core.tap_withOverHigh (v : Bool) : (c.withOverHigh v).tap = c.tap := rfl
@[simp] theorem Core.mg_withOverHigh (v : Bool) : (c.withOverHigh v).mg = c.mg := rfl
@[simp] theorem Core.seq_withOverHigh (v : Bool) : (c.withOverHigh v).seq = c.seq := rfl
@[simp] theorem Core.sail_withOverHigh (v : Bool) : (c.withOverHigh v).sail = c.sail := rfl
@[simp] theorem Core.time_withOverHigh (v : Bool) : (c.withOverHigh v).time = c.time := rfl
@[simp] theorem Core.decisions_withOverHigh (v : Bool) : (c.withOverHigh v).decisions = c.decisions := rfl

/-! ## withCache -/

@[simp] theorem Core.tick_withCache (v : List CacheLine) : (c.withCache v).tick = c.tick := rfl
@[simp] theorem Core.hubTime_withCache (v : List CacheLine) : (c.withCache v).hubTime = c.hubTime := rfl
@[simp] theorem Core.timeRuns_withCache (v : List CacheLine) : (c.withCache v).timeRuns = c.timeRuns := rfl
@[simp] theorem Core.objs_withCache (v : List CacheLine) : (c.withCache v).objs = c.objs := rfl
@[simp] theorem Core.drawn_withCache (v : List CacheLine) : (c.withCache v).drawn = c.drawn := rfl
@[simp] theorem Core.out_withCache (v : List CacheLine) : (c.withCache v).out = c.out := rfl
@[simp] theorem Core.req_withCache (v : List CacheLine) : (c.withCache v).req = c.req := rfl
@[simp] theorem Core.fc_withCache (v : List CacheLine) : (c.withCache v).fc = c.fc := rfl
@[simp] theorem Core.sluice_withCache (v : List CacheLine) : (c.withCache v).sluice = c.sluice := rfl
@[simp] theorem Core.mc_withCache (v : List CacheLine) : (c.withCache v).mc = c.mc := rfl
@[simp] theorem Core.hr_withCache (v : List CacheLine) : (c.withCache v).hr = c.hr := rfl
@[simp] theorem Core.ddr_withCache (v : List CacheLine) : (c.withCache v).ddr = c.ddr := rfl
@[simp] theorem Core.ecc_withCache (v : List CacheLine) : (c.withCache v).ecc = c.ecc := rfl
@[simp] theorem Core.eccSeq_withCache (v : List CacheLine) : (c.withCache v).eccSeq = c.eccSeq := rfl
@[simp] theorem Core.ft_withCache (v : List CacheLine) : (c.withCache v).ft = c.ft := rfl
@[simp] theorem Core.ledger_withCache (v : List CacheLine) : (c.withCache v).ledger = c.ledger := rfl
@[simp] theorem Core.mon_withCache (v : List CacheLine) : (c.withCache v).mon = c.mon := rfl
@[simp] theorem Core.start_withCache (v : List CacheLine) : (c.withCache v).start = c.start := rfl
@[simp] theorem Core.streams_withCache (v : List CacheLine) : (c.withCache v).streams = c.streams := rfl
@[simp] theorem Core.rings_withCache (v : List CacheLine) : (c.withCache v).rings = c.rings := rfl
@[simp] theorem Core.wins_withCache (v : List CacheLine) : (c.withCache v).wins = c.wins := rfl
@[simp] theorem Core.freezes_withCache (v : List CacheLine) : (c.withCache v).freezes = c.freezes := rfl
@[simp] theorem Core.throttled_withCache (v : List CacheLine) : (c.withCache v).throttled = c.throttled := rfl
@[simp] theorem Core.overHigh_withCache (v : List CacheLine) : (c.withCache v).overHigh = c.overHigh := rfl
@[simp] theorem Core.ctxs_withCache (v : List CacheLine) : (c.withCache v).ctxs = c.ctxs := rfl
@[simp] theorem Core.updLog_withCache (v : List CacheLine) : (c.withCache v).updLog = c.updLog := rfl
@[simp] theorem Core.jobs_withCache (v : List CacheLine) : (c.withCache v).jobs = c.jobs := rfl
@[simp] theorem Core.freeing_withCache (v : List CacheLine) : (c.withCache v).freeing = c.freeing := rfl
@[simp] theorem Core.shown_withCache (v : List CacheLine) : (c.withCache v).shown = c.shown := rfl
@[simp] theorem Core.sessions_withCache (v : List CacheLine) : (c.withCache v).sessions = c.sessions := rfl
@[simp] theorem Core.checkpoints_withCache (v : List CacheLine) : (c.withCache v).checkpoints = c.checkpoints := rfl
@[simp] theorem Core.chainFails_withCache (v : List CacheLine) : (c.withCache v).chainFails = c.chainFails := rfl
@[simp] theorem Core.dll_withCache (v : List CacheLine) : (c.withCache v).dll = c.dll := rfl
@[simp] theorem Core.srQueue_withCache (v : List CacheLine) : (c.withCache v).srQueue = c.srQueue := rfl
@[simp] theorem Core.srBegins_withCache (v : List CacheLine) : (c.withCache v).srBegins = c.srBegins := rfl
@[simp] theorem Core.halves_withCache (v : List CacheLine) : (c.withCache v).halves = c.halves := rfl
@[simp] theorem Core.images_withCache (v : List CacheLine) : (c.withCache v).images = c.images := rfl
@[simp] theorem Core.imageOpen_withCache (v : List CacheLine) : (c.withCache v).imageOpen = c.imageOpen := rfl
@[simp] theorem Core.spill_withCache (v : List CacheLine) : (c.withCache v).spill = c.spill := rfl
@[simp] theorem Core.flash_withCache (v : List CacheLine) : (c.withCache v).flash = c.flash := rfl
@[simp] theorem Core.tap_withCache (v : List CacheLine) : (c.withCache v).tap = c.tap := rfl
@[simp] theorem Core.mg_withCache (v : List CacheLine) : (c.withCache v).mg = c.mg := rfl
@[simp] theorem Core.seq_withCache (v : List CacheLine) : (c.withCache v).seq = c.seq := rfl
@[simp] theorem Core.sail_withCache (v : List CacheLine) : (c.withCache v).sail = c.sail := rfl
@[simp] theorem Core.time_withCache (v : List CacheLine) : (c.withCache v).time = c.time := rfl
@[simp] theorem Core.decisions_withCache (v : List CacheLine) : (c.withCache v).decisions = c.decisions := rfl

/-! ## withUpdLog -/

@[simp] theorem Core.tick_withUpdLog (v : List (Nat × Nat)) : (c.withUpdLog v).tick = c.tick := rfl
@[simp] theorem Core.hubTime_withUpdLog (v : List (Nat × Nat)) : (c.withUpdLog v).hubTime = c.hubTime := rfl
@[simp] theorem Core.timeRuns_withUpdLog (v : List (Nat × Nat)) : (c.withUpdLog v).timeRuns = c.timeRuns := rfl
@[simp] theorem Core.objs_withUpdLog (v : List (Nat × Nat)) : (c.withUpdLog v).objs = c.objs := rfl
@[simp] theorem Core.drawn_withUpdLog (v : List (Nat × Nat)) : (c.withUpdLog v).drawn = c.drawn := rfl
@[simp] theorem Core.out_withUpdLog (v : List (Nat × Nat)) : (c.withUpdLog v).out = c.out := rfl
@[simp] theorem Core.req_withUpdLog (v : List (Nat × Nat)) : (c.withUpdLog v).req = c.req := rfl
@[simp] theorem Core.fc_withUpdLog (v : List (Nat × Nat)) : (c.withUpdLog v).fc = c.fc := rfl
@[simp] theorem Core.sluice_withUpdLog (v : List (Nat × Nat)) : (c.withUpdLog v).sluice = c.sluice := rfl
@[simp] theorem Core.mc_withUpdLog (v : List (Nat × Nat)) : (c.withUpdLog v).mc = c.mc := rfl
@[simp] theorem Core.hr_withUpdLog (v : List (Nat × Nat)) : (c.withUpdLog v).hr = c.hr := rfl
@[simp] theorem Core.ddr_withUpdLog (v : List (Nat × Nat)) : (c.withUpdLog v).ddr = c.ddr := rfl
@[simp] theorem Core.ecc_withUpdLog (v : List (Nat × Nat)) : (c.withUpdLog v).ecc = c.ecc := rfl
@[simp] theorem Core.eccSeq_withUpdLog (v : List (Nat × Nat)) : (c.withUpdLog v).eccSeq = c.eccSeq := rfl
@[simp] theorem Core.ft_withUpdLog (v : List (Nat × Nat)) : (c.withUpdLog v).ft = c.ft := rfl
@[simp] theorem Core.ledger_withUpdLog (v : List (Nat × Nat)) : (c.withUpdLog v).ledger = c.ledger := rfl
@[simp] theorem Core.mon_withUpdLog (v : List (Nat × Nat)) : (c.withUpdLog v).mon = c.mon := rfl
@[simp] theorem Core.start_withUpdLog (v : List (Nat × Nat)) : (c.withUpdLog v).start = c.start := rfl
@[simp] theorem Core.streams_withUpdLog (v : List (Nat × Nat)) : (c.withUpdLog v).streams = c.streams := rfl
@[simp] theorem Core.rings_withUpdLog (v : List (Nat × Nat)) : (c.withUpdLog v).rings = c.rings := rfl
@[simp] theorem Core.wins_withUpdLog (v : List (Nat × Nat)) : (c.withUpdLog v).wins = c.wins := rfl
@[simp] theorem Core.freezes_withUpdLog (v : List (Nat × Nat)) : (c.withUpdLog v).freezes = c.freezes := rfl
@[simp] theorem Core.throttled_withUpdLog (v : List (Nat × Nat)) : (c.withUpdLog v).throttled = c.throttled := rfl
@[simp] theorem Core.overHigh_withUpdLog (v : List (Nat × Nat)) : (c.withUpdLog v).overHigh = c.overHigh := rfl
@[simp] theorem Core.ctxs_withUpdLog (v : List (Nat × Nat)) : (c.withUpdLog v).ctxs = c.ctxs := rfl
@[simp] theorem Core.cache_withUpdLog (v : List (Nat × Nat)) : (c.withUpdLog v).cache = c.cache := rfl
@[simp] theorem Core.jobs_withUpdLog (v : List (Nat × Nat)) : (c.withUpdLog v).jobs = c.jobs := rfl
@[simp] theorem Core.freeing_withUpdLog (v : List (Nat × Nat)) : (c.withUpdLog v).freeing = c.freeing := rfl
@[simp] theorem Core.shown_withUpdLog (v : List (Nat × Nat)) : (c.withUpdLog v).shown = c.shown := rfl
@[simp] theorem Core.sessions_withUpdLog (v : List (Nat × Nat)) : (c.withUpdLog v).sessions = c.sessions := rfl
@[simp] theorem Core.checkpoints_withUpdLog (v : List (Nat × Nat)) : (c.withUpdLog v).checkpoints = c.checkpoints := rfl
@[simp] theorem Core.chainFails_withUpdLog (v : List (Nat × Nat)) : (c.withUpdLog v).chainFails = c.chainFails := rfl
@[simp] theorem Core.dll_withUpdLog (v : List (Nat × Nat)) : (c.withUpdLog v).dll = c.dll := rfl
@[simp] theorem Core.srQueue_withUpdLog (v : List (Nat × Nat)) : (c.withUpdLog v).srQueue = c.srQueue := rfl
@[simp] theorem Core.srBegins_withUpdLog (v : List (Nat × Nat)) : (c.withUpdLog v).srBegins = c.srBegins := rfl
@[simp] theorem Core.halves_withUpdLog (v : List (Nat × Nat)) : (c.withUpdLog v).halves = c.halves := rfl
@[simp] theorem Core.images_withUpdLog (v : List (Nat × Nat)) : (c.withUpdLog v).images = c.images := rfl
@[simp] theorem Core.imageOpen_withUpdLog (v : List (Nat × Nat)) : (c.withUpdLog v).imageOpen = c.imageOpen := rfl
@[simp] theorem Core.spill_withUpdLog (v : List (Nat × Nat)) : (c.withUpdLog v).spill = c.spill := rfl
@[simp] theorem Core.flash_withUpdLog (v : List (Nat × Nat)) : (c.withUpdLog v).flash = c.flash := rfl
@[simp] theorem Core.tap_withUpdLog (v : List (Nat × Nat)) : (c.withUpdLog v).tap = c.tap := rfl
@[simp] theorem Core.mg_withUpdLog (v : List (Nat × Nat)) : (c.withUpdLog v).mg = c.mg := rfl
@[simp] theorem Core.seq_withUpdLog (v : List (Nat × Nat)) : (c.withUpdLog v).seq = c.seq := rfl
@[simp] theorem Core.sail_withUpdLog (v : List (Nat × Nat)) : (c.withUpdLog v).sail = c.sail := rfl
@[simp] theorem Core.time_withUpdLog (v : List (Nat × Nat)) : (c.withUpdLog v).time = c.time := rfl
@[simp] theorem Core.decisions_withUpdLog (v : List (Nat × Nat)) : (c.withUpdLog v).decisions = c.decisions := rfl

/-! ## withMg -/

@[simp] theorem Core.tick_withMg (v : MgState) : (c.withMg v).tick = c.tick := rfl
@[simp] theorem Core.hubTime_withMg (v : MgState) : (c.withMg v).hubTime = c.hubTime := rfl
@[simp] theorem Core.timeRuns_withMg (v : MgState) : (c.withMg v).timeRuns = c.timeRuns := rfl
@[simp] theorem Core.objs_withMg (v : MgState) : (c.withMg v).objs = c.objs := rfl
@[simp] theorem Core.drawn_withMg (v : MgState) : (c.withMg v).drawn = c.drawn := rfl
@[simp] theorem Core.out_withMg (v : MgState) : (c.withMg v).out = c.out := rfl
@[simp] theorem Core.req_withMg (v : MgState) : (c.withMg v).req = c.req := rfl
@[simp] theorem Core.fc_withMg (v : MgState) : (c.withMg v).fc = c.fc := rfl
@[simp] theorem Core.sluice_withMg (v : MgState) : (c.withMg v).sluice = c.sluice := rfl
@[simp] theorem Core.mc_withMg (v : MgState) : (c.withMg v).mc = c.mc := rfl
@[simp] theorem Core.hr_withMg (v : MgState) : (c.withMg v).hr = c.hr := rfl
@[simp] theorem Core.ddr_withMg (v : MgState) : (c.withMg v).ddr = c.ddr := rfl
@[simp] theorem Core.ecc_withMg (v : MgState) : (c.withMg v).ecc = c.ecc := rfl
@[simp] theorem Core.eccSeq_withMg (v : MgState) : (c.withMg v).eccSeq = c.eccSeq := rfl
@[simp] theorem Core.ft_withMg (v : MgState) : (c.withMg v).ft = c.ft := rfl
@[simp] theorem Core.ledger_withMg (v : MgState) : (c.withMg v).ledger = c.ledger := rfl
@[simp] theorem Core.mon_withMg (v : MgState) : (c.withMg v).mon = c.mon := rfl
@[simp] theorem Core.start_withMg (v : MgState) : (c.withMg v).start = c.start := rfl
@[simp] theorem Core.streams_withMg (v : MgState) : (c.withMg v).streams = c.streams := rfl
@[simp] theorem Core.rings_withMg (v : MgState) : (c.withMg v).rings = c.rings := rfl
@[simp] theorem Core.wins_withMg (v : MgState) : (c.withMg v).wins = c.wins := rfl
@[simp] theorem Core.freezes_withMg (v : MgState) : (c.withMg v).freezes = c.freezes := rfl
@[simp] theorem Core.throttled_withMg (v : MgState) : (c.withMg v).throttled = c.throttled := rfl
@[simp] theorem Core.overHigh_withMg (v : MgState) : (c.withMg v).overHigh = c.overHigh := rfl
@[simp] theorem Core.ctxs_withMg (v : MgState) : (c.withMg v).ctxs = c.ctxs := rfl
@[simp] theorem Core.cache_withMg (v : MgState) : (c.withMg v).cache = c.cache := rfl
@[simp] theorem Core.updLog_withMg (v : MgState) : (c.withMg v).updLog = c.updLog := rfl
@[simp] theorem Core.jobs_withMg (v : MgState) : (c.withMg v).jobs = c.jobs := rfl
@[simp] theorem Core.freeing_withMg (v : MgState) : (c.withMg v).freeing = c.freeing := rfl
@[simp] theorem Core.shown_withMg (v : MgState) : (c.withMg v).shown = c.shown := rfl
@[simp] theorem Core.sessions_withMg (v : MgState) : (c.withMg v).sessions = c.sessions := rfl
@[simp] theorem Core.checkpoints_withMg (v : MgState) : (c.withMg v).checkpoints = c.checkpoints := rfl
@[simp] theorem Core.chainFails_withMg (v : MgState) : (c.withMg v).chainFails = c.chainFails := rfl
@[simp] theorem Core.dll_withMg (v : MgState) : (c.withMg v).dll = c.dll := rfl
@[simp] theorem Core.srQueue_withMg (v : MgState) : (c.withMg v).srQueue = c.srQueue := rfl
@[simp] theorem Core.srBegins_withMg (v : MgState) : (c.withMg v).srBegins = c.srBegins := rfl
@[simp] theorem Core.halves_withMg (v : MgState) : (c.withMg v).halves = c.halves := rfl
@[simp] theorem Core.images_withMg (v : MgState) : (c.withMg v).images = c.images := rfl
@[simp] theorem Core.imageOpen_withMg (v : MgState) : (c.withMg v).imageOpen = c.imageOpen := rfl
@[simp] theorem Core.spill_withMg (v : MgState) : (c.withMg v).spill = c.spill := rfl
@[simp] theorem Core.flash_withMg (v : MgState) : (c.withMg v).flash = c.flash := rfl
@[simp] theorem Core.tap_withMg (v : MgState) : (c.withMg v).tap = c.tap := rfl
@[simp] theorem Core.seq_withMg (v : MgState) : (c.withMg v).seq = c.seq := rfl
@[simp] theorem Core.sail_withMg (v : MgState) : (c.withMg v).sail = c.sail := rfl
@[simp] theorem Core.time_withMg (v : MgState) : (c.withMg v).time = c.time := rfl
@[simp] theorem Core.decisions_withMg (v : MgState) : (c.withMg v).decisions = c.decisions := rfl

/-! ## withSail -/

@[simp] theorem Core.tick_withSail (v : SailState) : (c.withSail v).tick = c.tick := rfl
@[simp] theorem Core.hubTime_withSail (v : SailState) : (c.withSail v).hubTime = c.hubTime := rfl
@[simp] theorem Core.timeRuns_withSail (v : SailState) : (c.withSail v).timeRuns = c.timeRuns := rfl
@[simp] theorem Core.objs_withSail (v : SailState) : (c.withSail v).objs = c.objs := rfl
@[simp] theorem Core.drawn_withSail (v : SailState) : (c.withSail v).drawn = c.drawn := rfl
@[simp] theorem Core.out_withSail (v : SailState) : (c.withSail v).out = c.out := rfl
@[simp] theorem Core.req_withSail (v : SailState) : (c.withSail v).req = c.req := rfl
@[simp] theorem Core.fc_withSail (v : SailState) : (c.withSail v).fc = c.fc := rfl
@[simp] theorem Core.sluice_withSail (v : SailState) : (c.withSail v).sluice = c.sluice := rfl
@[simp] theorem Core.mc_withSail (v : SailState) : (c.withSail v).mc = c.mc := rfl
@[simp] theorem Core.hr_withSail (v : SailState) : (c.withSail v).hr = c.hr := rfl
@[simp] theorem Core.ddr_withSail (v : SailState) : (c.withSail v).ddr = c.ddr := rfl
@[simp] theorem Core.ecc_withSail (v : SailState) : (c.withSail v).ecc = c.ecc := rfl
@[simp] theorem Core.eccSeq_withSail (v : SailState) : (c.withSail v).eccSeq = c.eccSeq := rfl
@[simp] theorem Core.ft_withSail (v : SailState) : (c.withSail v).ft = c.ft := rfl
@[simp] theorem Core.ledger_withSail (v : SailState) : (c.withSail v).ledger = c.ledger := rfl
@[simp] theorem Core.mon_withSail (v : SailState) : (c.withSail v).mon = c.mon := rfl
@[simp] theorem Core.start_withSail (v : SailState) : (c.withSail v).start = c.start := rfl
@[simp] theorem Core.streams_withSail (v : SailState) : (c.withSail v).streams = c.streams := rfl
@[simp] theorem Core.rings_withSail (v : SailState) : (c.withSail v).rings = c.rings := rfl
@[simp] theorem Core.wins_withSail (v : SailState) : (c.withSail v).wins = c.wins := rfl
@[simp] theorem Core.freezes_withSail (v : SailState) : (c.withSail v).freezes = c.freezes := rfl
@[simp] theorem Core.throttled_withSail (v : SailState) : (c.withSail v).throttled = c.throttled := rfl
@[simp] theorem Core.overHigh_withSail (v : SailState) : (c.withSail v).overHigh = c.overHigh := rfl
@[simp] theorem Core.ctxs_withSail (v : SailState) : (c.withSail v).ctxs = c.ctxs := rfl
@[simp] theorem Core.cache_withSail (v : SailState) : (c.withSail v).cache = c.cache := rfl
@[simp] theorem Core.updLog_withSail (v : SailState) : (c.withSail v).updLog = c.updLog := rfl
@[simp] theorem Core.jobs_withSail (v : SailState) : (c.withSail v).jobs = c.jobs := rfl
@[simp] theorem Core.freeing_withSail (v : SailState) : (c.withSail v).freeing = c.freeing := rfl
@[simp] theorem Core.shown_withSail (v : SailState) : (c.withSail v).shown = c.shown := rfl
@[simp] theorem Core.sessions_withSail (v : SailState) : (c.withSail v).sessions = c.sessions := rfl
@[simp] theorem Core.checkpoints_withSail (v : SailState) : (c.withSail v).checkpoints = c.checkpoints := rfl
@[simp] theorem Core.chainFails_withSail (v : SailState) : (c.withSail v).chainFails = c.chainFails := rfl
@[simp] theorem Core.dll_withSail (v : SailState) : (c.withSail v).dll = c.dll := rfl
@[simp] theorem Core.srQueue_withSail (v : SailState) : (c.withSail v).srQueue = c.srQueue := rfl
@[simp] theorem Core.srBegins_withSail (v : SailState) : (c.withSail v).srBegins = c.srBegins := rfl
@[simp] theorem Core.halves_withSail (v : SailState) : (c.withSail v).halves = c.halves := rfl
@[simp] theorem Core.images_withSail (v : SailState) : (c.withSail v).images = c.images := rfl
@[simp] theorem Core.imageOpen_withSail (v : SailState) : (c.withSail v).imageOpen = c.imageOpen := rfl
@[simp] theorem Core.spill_withSail (v : SailState) : (c.withSail v).spill = c.spill := rfl
@[simp] theorem Core.flash_withSail (v : SailState) : (c.withSail v).flash = c.flash := rfl
@[simp] theorem Core.tap_withSail (v : SailState) : (c.withSail v).tap = c.tap := rfl
@[simp] theorem Core.mg_withSail (v : SailState) : (c.withSail v).mg = c.mg := rfl
@[simp] theorem Core.seq_withSail (v : SailState) : (c.withSail v).seq = c.seq := rfl
@[simp] theorem Core.time_withSail (v : SailState) : (c.withSail v).time = c.time := rfl
@[simp] theorem Core.decisions_withSail (v : SailState) : (c.withSail v).decisions = c.decisions := rfl

/-! ## withImages -/

@[simp] theorem Core.tick_withImages (v : Tbl (List Byte)) : (c.withImages v).tick = c.tick := rfl
@[simp] theorem Core.hubTime_withImages (v : Tbl (List Byte)) : (c.withImages v).hubTime = c.hubTime := rfl
@[simp] theorem Core.timeRuns_withImages (v : Tbl (List Byte)) : (c.withImages v).timeRuns = c.timeRuns := rfl
@[simp] theorem Core.objs_withImages (v : Tbl (List Byte)) : (c.withImages v).objs = c.objs := rfl
@[simp] theorem Core.drawn_withImages (v : Tbl (List Byte)) : (c.withImages v).drawn = c.drawn := rfl
@[simp] theorem Core.out_withImages (v : Tbl (List Byte)) : (c.withImages v).out = c.out := rfl
@[simp] theorem Core.req_withImages (v : Tbl (List Byte)) : (c.withImages v).req = c.req := rfl
@[simp] theorem Core.fc_withImages (v : Tbl (List Byte)) : (c.withImages v).fc = c.fc := rfl
@[simp] theorem Core.sluice_withImages (v : Tbl (List Byte)) : (c.withImages v).sluice = c.sluice := rfl
@[simp] theorem Core.mc_withImages (v : Tbl (List Byte)) : (c.withImages v).mc = c.mc := rfl
@[simp] theorem Core.hr_withImages (v : Tbl (List Byte)) : (c.withImages v).hr = c.hr := rfl
@[simp] theorem Core.ddr_withImages (v : Tbl (List Byte)) : (c.withImages v).ddr = c.ddr := rfl
@[simp] theorem Core.ecc_withImages (v : Tbl (List Byte)) : (c.withImages v).ecc = c.ecc := rfl
@[simp] theorem Core.eccSeq_withImages (v : Tbl (List Byte)) : (c.withImages v).eccSeq = c.eccSeq := rfl
@[simp] theorem Core.ft_withImages (v : Tbl (List Byte)) : (c.withImages v).ft = c.ft := rfl
@[simp] theorem Core.ledger_withImages (v : Tbl (List Byte)) : (c.withImages v).ledger = c.ledger := rfl
@[simp] theorem Core.mon_withImages (v : Tbl (List Byte)) : (c.withImages v).mon = c.mon := rfl
@[simp] theorem Core.start_withImages (v : Tbl (List Byte)) : (c.withImages v).start = c.start := rfl
@[simp] theorem Core.streams_withImages (v : Tbl (List Byte)) : (c.withImages v).streams = c.streams := rfl
@[simp] theorem Core.rings_withImages (v : Tbl (List Byte)) : (c.withImages v).rings = c.rings := rfl
@[simp] theorem Core.wins_withImages (v : Tbl (List Byte)) : (c.withImages v).wins = c.wins := rfl
@[simp] theorem Core.freezes_withImages (v : Tbl (List Byte)) : (c.withImages v).freezes = c.freezes := rfl
@[simp] theorem Core.throttled_withImages (v : Tbl (List Byte)) : (c.withImages v).throttled = c.throttled := rfl
@[simp] theorem Core.overHigh_withImages (v : Tbl (List Byte)) : (c.withImages v).overHigh = c.overHigh := rfl
@[simp] theorem Core.ctxs_withImages (v : Tbl (List Byte)) : (c.withImages v).ctxs = c.ctxs := rfl
@[simp] theorem Core.cache_withImages (v : Tbl (List Byte)) : (c.withImages v).cache = c.cache := rfl
@[simp] theorem Core.updLog_withImages (v : Tbl (List Byte)) : (c.withImages v).updLog = c.updLog := rfl
@[simp] theorem Core.jobs_withImages (v : Tbl (List Byte)) : (c.withImages v).jobs = c.jobs := rfl
@[simp] theorem Core.freeing_withImages (v : Tbl (List Byte)) : (c.withImages v).freeing = c.freeing := rfl
@[simp] theorem Core.shown_withImages (v : Tbl (List Byte)) : (c.withImages v).shown = c.shown := rfl
@[simp] theorem Core.sessions_withImages (v : Tbl (List Byte)) : (c.withImages v).sessions = c.sessions := rfl
@[simp] theorem Core.checkpoints_withImages (v : Tbl (List Byte)) : (c.withImages v).checkpoints = c.checkpoints := rfl
@[simp] theorem Core.chainFails_withImages (v : Tbl (List Byte)) : (c.withImages v).chainFails = c.chainFails := rfl
@[simp] theorem Core.dll_withImages (v : Tbl (List Byte)) : (c.withImages v).dll = c.dll := rfl
@[simp] theorem Core.srQueue_withImages (v : Tbl (List Byte)) : (c.withImages v).srQueue = c.srQueue := rfl
@[simp] theorem Core.srBegins_withImages (v : Tbl (List Byte)) : (c.withImages v).srBegins = c.srBegins := rfl
@[simp] theorem Core.halves_withImages (v : Tbl (List Byte)) : (c.withImages v).halves = c.halves := rfl
@[simp] theorem Core.imageOpen_withImages (v : Tbl (List Byte)) : (c.withImages v).imageOpen = c.imageOpen := rfl
@[simp] theorem Core.spill_withImages (v : Tbl (List Byte)) : (c.withImages v).spill = c.spill := rfl
@[simp] theorem Core.flash_withImages (v : Tbl (List Byte)) : (c.withImages v).flash = c.flash := rfl
@[simp] theorem Core.tap_withImages (v : Tbl (List Byte)) : (c.withImages v).tap = c.tap := rfl
@[simp] theorem Core.mg_withImages (v : Tbl (List Byte)) : (c.withImages v).mg = c.mg := rfl
@[simp] theorem Core.seq_withImages (v : Tbl (List Byte)) : (c.withImages v).seq = c.seq := rfl
@[simp] theorem Core.sail_withImages (v : Tbl (List Byte)) : (c.withImages v).sail = c.sail := rfl
@[simp] theorem Core.time_withImages (v : Tbl (List Byte)) : (c.withImages v).time = c.time := rfl
@[simp] theorem Core.decisions_withImages (v : Tbl (List Byte)) : (c.withImages v).decisions = c.decisions := rfl

/-! ## withImageOpen -/

@[simp] theorem Core.tick_withImageOpen (v : Option Nat) : (c.withImageOpen v).tick = c.tick := rfl
@[simp] theorem Core.hubTime_withImageOpen (v : Option Nat) : (c.withImageOpen v).hubTime = c.hubTime := rfl
@[simp] theorem Core.timeRuns_withImageOpen (v : Option Nat) : (c.withImageOpen v).timeRuns = c.timeRuns := rfl
@[simp] theorem Core.objs_withImageOpen (v : Option Nat) : (c.withImageOpen v).objs = c.objs := rfl
@[simp] theorem Core.drawn_withImageOpen (v : Option Nat) : (c.withImageOpen v).drawn = c.drawn := rfl
@[simp] theorem Core.out_withImageOpen (v : Option Nat) : (c.withImageOpen v).out = c.out := rfl
@[simp] theorem Core.req_withImageOpen (v : Option Nat) : (c.withImageOpen v).req = c.req := rfl
@[simp] theorem Core.fc_withImageOpen (v : Option Nat) : (c.withImageOpen v).fc = c.fc := rfl
@[simp] theorem Core.sluice_withImageOpen (v : Option Nat) : (c.withImageOpen v).sluice = c.sluice := rfl
@[simp] theorem Core.mc_withImageOpen (v : Option Nat) : (c.withImageOpen v).mc = c.mc := rfl
@[simp] theorem Core.hr_withImageOpen (v : Option Nat) : (c.withImageOpen v).hr = c.hr := rfl
@[simp] theorem Core.ddr_withImageOpen (v : Option Nat) : (c.withImageOpen v).ddr = c.ddr := rfl
@[simp] theorem Core.ecc_withImageOpen (v : Option Nat) : (c.withImageOpen v).ecc = c.ecc := rfl
@[simp] theorem Core.eccSeq_withImageOpen (v : Option Nat) : (c.withImageOpen v).eccSeq = c.eccSeq := rfl
@[simp] theorem Core.ft_withImageOpen (v : Option Nat) : (c.withImageOpen v).ft = c.ft := rfl
@[simp] theorem Core.ledger_withImageOpen (v : Option Nat) : (c.withImageOpen v).ledger = c.ledger := rfl
@[simp] theorem Core.mon_withImageOpen (v : Option Nat) : (c.withImageOpen v).mon = c.mon := rfl
@[simp] theorem Core.start_withImageOpen (v : Option Nat) : (c.withImageOpen v).start = c.start := rfl
@[simp] theorem Core.streams_withImageOpen (v : Option Nat) : (c.withImageOpen v).streams = c.streams := rfl
@[simp] theorem Core.rings_withImageOpen (v : Option Nat) : (c.withImageOpen v).rings = c.rings := rfl
@[simp] theorem Core.wins_withImageOpen (v : Option Nat) : (c.withImageOpen v).wins = c.wins := rfl
@[simp] theorem Core.freezes_withImageOpen (v : Option Nat) : (c.withImageOpen v).freezes = c.freezes := rfl
@[simp] theorem Core.throttled_withImageOpen (v : Option Nat) : (c.withImageOpen v).throttled = c.throttled := rfl
@[simp] theorem Core.overHigh_withImageOpen (v : Option Nat) : (c.withImageOpen v).overHigh = c.overHigh := rfl
@[simp] theorem Core.ctxs_withImageOpen (v : Option Nat) : (c.withImageOpen v).ctxs = c.ctxs := rfl
@[simp] theorem Core.cache_withImageOpen (v : Option Nat) : (c.withImageOpen v).cache = c.cache := rfl
@[simp] theorem Core.updLog_withImageOpen (v : Option Nat) : (c.withImageOpen v).updLog = c.updLog := rfl
@[simp] theorem Core.jobs_withImageOpen (v : Option Nat) : (c.withImageOpen v).jobs = c.jobs := rfl
@[simp] theorem Core.freeing_withImageOpen (v : Option Nat) : (c.withImageOpen v).freeing = c.freeing := rfl
@[simp] theorem Core.shown_withImageOpen (v : Option Nat) : (c.withImageOpen v).shown = c.shown := rfl
@[simp] theorem Core.sessions_withImageOpen (v : Option Nat) : (c.withImageOpen v).sessions = c.sessions := rfl
@[simp] theorem Core.checkpoints_withImageOpen (v : Option Nat) : (c.withImageOpen v).checkpoints = c.checkpoints := rfl
@[simp] theorem Core.chainFails_withImageOpen (v : Option Nat) : (c.withImageOpen v).chainFails = c.chainFails := rfl
@[simp] theorem Core.dll_withImageOpen (v : Option Nat) : (c.withImageOpen v).dll = c.dll := rfl
@[simp] theorem Core.srQueue_withImageOpen (v : Option Nat) : (c.withImageOpen v).srQueue = c.srQueue := rfl
@[simp] theorem Core.srBegins_withImageOpen (v : Option Nat) : (c.withImageOpen v).srBegins = c.srBegins := rfl
@[simp] theorem Core.halves_withImageOpen (v : Option Nat) : (c.withImageOpen v).halves = c.halves := rfl
@[simp] theorem Core.images_withImageOpen (v : Option Nat) : (c.withImageOpen v).images = c.images := rfl
@[simp] theorem Core.spill_withImageOpen (v : Option Nat) : (c.withImageOpen v).spill = c.spill := rfl
@[simp] theorem Core.flash_withImageOpen (v : Option Nat) : (c.withImageOpen v).flash = c.flash := rfl
@[simp] theorem Core.tap_withImageOpen (v : Option Nat) : (c.withImageOpen v).tap = c.tap := rfl
@[simp] theorem Core.mg_withImageOpen (v : Option Nat) : (c.withImageOpen v).mg = c.mg := rfl
@[simp] theorem Core.seq_withImageOpen (v : Option Nat) : (c.withImageOpen v).seq = c.seq := rfl
@[simp] theorem Core.sail_withImageOpen (v : Option Nat) : (c.withImageOpen v).sail = c.sail := rfl
@[simp] theorem Core.time_withImageOpen (v : Option Nat) : (c.withImageOpen v).time = c.time := rfl
@[simp] theorem Core.decisions_withImageOpen (v : Option Nat) : (c.withImageOpen v).decisions = c.decisions := rfl

/-! ## withTap -/

@[simp] theorem Core.tick_withTap (v : TapState) : (c.withTap v).tick = c.tick := rfl
@[simp] theorem Core.hubTime_withTap (v : TapState) : (c.withTap v).hubTime = c.hubTime := rfl
@[simp] theorem Core.timeRuns_withTap (v : TapState) : (c.withTap v).timeRuns = c.timeRuns := rfl
@[simp] theorem Core.objs_withTap (v : TapState) : (c.withTap v).objs = c.objs := rfl
@[simp] theorem Core.drawn_withTap (v : TapState) : (c.withTap v).drawn = c.drawn := rfl
@[simp] theorem Core.out_withTap (v : TapState) : (c.withTap v).out = c.out := rfl
@[simp] theorem Core.req_withTap (v : TapState) : (c.withTap v).req = c.req := rfl
@[simp] theorem Core.fc_withTap (v : TapState) : (c.withTap v).fc = c.fc := rfl
@[simp] theorem Core.sluice_withTap (v : TapState) : (c.withTap v).sluice = c.sluice := rfl
@[simp] theorem Core.mc_withTap (v : TapState) : (c.withTap v).mc = c.mc := rfl
@[simp] theorem Core.hr_withTap (v : TapState) : (c.withTap v).hr = c.hr := rfl
@[simp] theorem Core.ddr_withTap (v : TapState) : (c.withTap v).ddr = c.ddr := rfl
@[simp] theorem Core.ecc_withTap (v : TapState) : (c.withTap v).ecc = c.ecc := rfl
@[simp] theorem Core.eccSeq_withTap (v : TapState) : (c.withTap v).eccSeq = c.eccSeq := rfl
@[simp] theorem Core.ft_withTap (v : TapState) : (c.withTap v).ft = c.ft := rfl
@[simp] theorem Core.ledger_withTap (v : TapState) : (c.withTap v).ledger = c.ledger := rfl
@[simp] theorem Core.mon_withTap (v : TapState) : (c.withTap v).mon = c.mon := rfl
@[simp] theorem Core.start_withTap (v : TapState) : (c.withTap v).start = c.start := rfl
@[simp] theorem Core.streams_withTap (v : TapState) : (c.withTap v).streams = c.streams := rfl
@[simp] theorem Core.rings_withTap (v : TapState) : (c.withTap v).rings = c.rings := rfl
@[simp] theorem Core.wins_withTap (v : TapState) : (c.withTap v).wins = c.wins := rfl
@[simp] theorem Core.freezes_withTap (v : TapState) : (c.withTap v).freezes = c.freezes := rfl
@[simp] theorem Core.throttled_withTap (v : TapState) : (c.withTap v).throttled = c.throttled := rfl
@[simp] theorem Core.overHigh_withTap (v : TapState) : (c.withTap v).overHigh = c.overHigh := rfl
@[simp] theorem Core.ctxs_withTap (v : TapState) : (c.withTap v).ctxs = c.ctxs := rfl
@[simp] theorem Core.cache_withTap (v : TapState) : (c.withTap v).cache = c.cache := rfl
@[simp] theorem Core.updLog_withTap (v : TapState) : (c.withTap v).updLog = c.updLog := rfl
@[simp] theorem Core.jobs_withTap (v : TapState) : (c.withTap v).jobs = c.jobs := rfl
@[simp] theorem Core.freeing_withTap (v : TapState) : (c.withTap v).freeing = c.freeing := rfl
@[simp] theorem Core.shown_withTap (v : TapState) : (c.withTap v).shown = c.shown := rfl
@[simp] theorem Core.sessions_withTap (v : TapState) : (c.withTap v).sessions = c.sessions := rfl
@[simp] theorem Core.checkpoints_withTap (v : TapState) : (c.withTap v).checkpoints = c.checkpoints := rfl
@[simp] theorem Core.chainFails_withTap (v : TapState) : (c.withTap v).chainFails = c.chainFails := rfl
@[simp] theorem Core.dll_withTap (v : TapState) : (c.withTap v).dll = c.dll := rfl
@[simp] theorem Core.srQueue_withTap (v : TapState) : (c.withTap v).srQueue = c.srQueue := rfl
@[simp] theorem Core.srBegins_withTap (v : TapState) : (c.withTap v).srBegins = c.srBegins := rfl
@[simp] theorem Core.halves_withTap (v : TapState) : (c.withTap v).halves = c.halves := rfl
@[simp] theorem Core.images_withTap (v : TapState) : (c.withTap v).images = c.images := rfl
@[simp] theorem Core.imageOpen_withTap (v : TapState) : (c.withTap v).imageOpen = c.imageOpen := rfl
@[simp] theorem Core.spill_withTap (v : TapState) : (c.withTap v).spill = c.spill := rfl
@[simp] theorem Core.flash_withTap (v : TapState) : (c.withTap v).flash = c.flash := rfl
@[simp] theorem Core.mg_withTap (v : TapState) : (c.withTap v).mg = c.mg := rfl
@[simp] theorem Core.seq_withTap (v : TapState) : (c.withTap v).seq = c.seq := rfl
@[simp] theorem Core.sail_withTap (v : TapState) : (c.withTap v).sail = c.sail := rfl
@[simp] theorem Core.time_withTap (v : TapState) : (c.withTap v).time = c.time := rfl
@[simp] theorem Core.decisions_withTap (v : TapState) : (c.withTap v).decisions = c.decisions := rfl

/-! ## withSluice -/

@[simp] theorem Core.tick_withSluice (v : SluiceState) : (c.withSluice v).tick = c.tick := rfl
@[simp] theorem Core.hubTime_withSluice (v : SluiceState) : (c.withSluice v).hubTime = c.hubTime := rfl
@[simp] theorem Core.timeRuns_withSluice (v : SluiceState) : (c.withSluice v).timeRuns = c.timeRuns := rfl
@[simp] theorem Core.objs_withSluice (v : SluiceState) : (c.withSluice v).objs = c.objs := rfl
@[simp] theorem Core.drawn_withSluice (v : SluiceState) : (c.withSluice v).drawn = c.drawn := rfl
@[simp] theorem Core.out_withSluice (v : SluiceState) : (c.withSluice v).out = c.out := rfl
@[simp] theorem Core.req_withSluice (v : SluiceState) : (c.withSluice v).req = c.req := rfl
@[simp] theorem Core.fc_withSluice (v : SluiceState) : (c.withSluice v).fc = c.fc := rfl
@[simp] theorem Core.mc_withSluice (v : SluiceState) : (c.withSluice v).mc = c.mc := rfl
@[simp] theorem Core.hr_withSluice (v : SluiceState) : (c.withSluice v).hr = c.hr := rfl
@[simp] theorem Core.ddr_withSluice (v : SluiceState) : (c.withSluice v).ddr = c.ddr := rfl
@[simp] theorem Core.ecc_withSluice (v : SluiceState) : (c.withSluice v).ecc = c.ecc := rfl
@[simp] theorem Core.eccSeq_withSluice (v : SluiceState) : (c.withSluice v).eccSeq = c.eccSeq := rfl
@[simp] theorem Core.ft_withSluice (v : SluiceState) : (c.withSluice v).ft = c.ft := rfl
@[simp] theorem Core.ledger_withSluice (v : SluiceState) : (c.withSluice v).ledger = c.ledger := rfl
@[simp] theorem Core.mon_withSluice (v : SluiceState) : (c.withSluice v).mon = c.mon := rfl
@[simp] theorem Core.start_withSluice (v : SluiceState) : (c.withSluice v).start = c.start := rfl
@[simp] theorem Core.streams_withSluice (v : SluiceState) : (c.withSluice v).streams = c.streams := rfl
@[simp] theorem Core.rings_withSluice (v : SluiceState) : (c.withSluice v).rings = c.rings := rfl
@[simp] theorem Core.wins_withSluice (v : SluiceState) : (c.withSluice v).wins = c.wins := rfl
@[simp] theorem Core.freezes_withSluice (v : SluiceState) : (c.withSluice v).freezes = c.freezes := rfl
@[simp] theorem Core.throttled_withSluice (v : SluiceState) : (c.withSluice v).throttled = c.throttled := rfl
@[simp] theorem Core.overHigh_withSluice (v : SluiceState) : (c.withSluice v).overHigh = c.overHigh := rfl
@[simp] theorem Core.ctxs_withSluice (v : SluiceState) : (c.withSluice v).ctxs = c.ctxs := rfl
@[simp] theorem Core.cache_withSluice (v : SluiceState) : (c.withSluice v).cache = c.cache := rfl
@[simp] theorem Core.updLog_withSluice (v : SluiceState) : (c.withSluice v).updLog = c.updLog := rfl
@[simp] theorem Core.jobs_withSluice (v : SluiceState) : (c.withSluice v).jobs = c.jobs := rfl
@[simp] theorem Core.freeing_withSluice (v : SluiceState) : (c.withSluice v).freeing = c.freeing := rfl
@[simp] theorem Core.shown_withSluice (v : SluiceState) : (c.withSluice v).shown = c.shown := rfl
@[simp] theorem Core.sessions_withSluice (v : SluiceState) : (c.withSluice v).sessions = c.sessions := rfl
@[simp] theorem Core.checkpoints_withSluice (v : SluiceState) : (c.withSluice v).checkpoints = c.checkpoints := rfl
@[simp] theorem Core.chainFails_withSluice (v : SluiceState) : (c.withSluice v).chainFails = c.chainFails := rfl
@[simp] theorem Core.dll_withSluice (v : SluiceState) : (c.withSluice v).dll = c.dll := rfl
@[simp] theorem Core.srQueue_withSluice (v : SluiceState) : (c.withSluice v).srQueue = c.srQueue := rfl
@[simp] theorem Core.srBegins_withSluice (v : SluiceState) : (c.withSluice v).srBegins = c.srBegins := rfl
@[simp] theorem Core.halves_withSluice (v : SluiceState) : (c.withSluice v).halves = c.halves := rfl
@[simp] theorem Core.images_withSluice (v : SluiceState) : (c.withSluice v).images = c.images := rfl
@[simp] theorem Core.imageOpen_withSluice (v : SluiceState) : (c.withSluice v).imageOpen = c.imageOpen := rfl
@[simp] theorem Core.spill_withSluice (v : SluiceState) : (c.withSluice v).spill = c.spill := rfl
@[simp] theorem Core.flash_withSluice (v : SluiceState) : (c.withSluice v).flash = c.flash := rfl
@[simp] theorem Core.tap_withSluice (v : SluiceState) : (c.withSluice v).tap = c.tap := rfl
@[simp] theorem Core.mg_withSluice (v : SluiceState) : (c.withSluice v).mg = c.mg := rfl
@[simp] theorem Core.seq_withSluice (v : SluiceState) : (c.withSluice v).seq = c.seq := rfl
@[simp] theorem Core.sail_withSluice (v : SluiceState) : (c.withSluice v).sail = c.sail := rfl
@[simp] theorem Core.time_withSluice (v : SluiceState) : (c.withSluice v).time = c.time := rfl
@[simp] theorem Core.decisions_withSluice (v : SluiceState) : (c.withSluice v).decisions = c.decisions := rfl

/-! ## withTime -/

@[simp] theorem Core.tick_withTime (v : TimeState) : (c.withTime v).tick = c.tick := rfl
@[simp] theorem Core.hubTime_withTime (v : TimeState) : (c.withTime v).hubTime = c.hubTime := rfl
@[simp] theorem Core.timeRuns_withTime (v : TimeState) : (c.withTime v).timeRuns = c.timeRuns := rfl
@[simp] theorem Core.objs_withTime (v : TimeState) : (c.withTime v).objs = c.objs := rfl
@[simp] theorem Core.drawn_withTime (v : TimeState) : (c.withTime v).drawn = c.drawn := rfl
@[simp] theorem Core.out_withTime (v : TimeState) : (c.withTime v).out = c.out := rfl
@[simp] theorem Core.req_withTime (v : TimeState) : (c.withTime v).req = c.req := rfl
@[simp] theorem Core.fc_withTime (v : TimeState) : (c.withTime v).fc = c.fc := rfl
@[simp] theorem Core.sluice_withTime (v : TimeState) : (c.withTime v).sluice = c.sluice := rfl
@[simp] theorem Core.mc_withTime (v : TimeState) : (c.withTime v).mc = c.mc := rfl
@[simp] theorem Core.hr_withTime (v : TimeState) : (c.withTime v).hr = c.hr := rfl
@[simp] theorem Core.ddr_withTime (v : TimeState) : (c.withTime v).ddr = c.ddr := rfl
@[simp] theorem Core.ecc_withTime (v : TimeState) : (c.withTime v).ecc = c.ecc := rfl
@[simp] theorem Core.eccSeq_withTime (v : TimeState) : (c.withTime v).eccSeq = c.eccSeq := rfl
@[simp] theorem Core.ft_withTime (v : TimeState) : (c.withTime v).ft = c.ft := rfl
@[simp] theorem Core.ledger_withTime (v : TimeState) : (c.withTime v).ledger = c.ledger := rfl
@[simp] theorem Core.mon_withTime (v : TimeState) : (c.withTime v).mon = c.mon := rfl
@[simp] theorem Core.start_withTime (v : TimeState) : (c.withTime v).start = c.start := rfl
@[simp] theorem Core.streams_withTime (v : TimeState) : (c.withTime v).streams = c.streams := rfl
@[simp] theorem Core.rings_withTime (v : TimeState) : (c.withTime v).rings = c.rings := rfl
@[simp] theorem Core.wins_withTime (v : TimeState) : (c.withTime v).wins = c.wins := rfl
@[simp] theorem Core.freezes_withTime (v : TimeState) : (c.withTime v).freezes = c.freezes := rfl
@[simp] theorem Core.throttled_withTime (v : TimeState) : (c.withTime v).throttled = c.throttled := rfl
@[simp] theorem Core.overHigh_withTime (v : TimeState) : (c.withTime v).overHigh = c.overHigh := rfl
@[simp] theorem Core.ctxs_withTime (v : TimeState) : (c.withTime v).ctxs = c.ctxs := rfl
@[simp] theorem Core.cache_withTime (v : TimeState) : (c.withTime v).cache = c.cache := rfl
@[simp] theorem Core.updLog_withTime (v : TimeState) : (c.withTime v).updLog = c.updLog := rfl
@[simp] theorem Core.jobs_withTime (v : TimeState) : (c.withTime v).jobs = c.jobs := rfl
@[simp] theorem Core.freeing_withTime (v : TimeState) : (c.withTime v).freeing = c.freeing := rfl
@[simp] theorem Core.shown_withTime (v : TimeState) : (c.withTime v).shown = c.shown := rfl
@[simp] theorem Core.sessions_withTime (v : TimeState) : (c.withTime v).sessions = c.sessions := rfl
@[simp] theorem Core.checkpoints_withTime (v : TimeState) : (c.withTime v).checkpoints = c.checkpoints := rfl
@[simp] theorem Core.chainFails_withTime (v : TimeState) : (c.withTime v).chainFails = c.chainFails := rfl
@[simp] theorem Core.dll_withTime (v : TimeState) : (c.withTime v).dll = c.dll := rfl
@[simp] theorem Core.srQueue_withTime (v : TimeState) : (c.withTime v).srQueue = c.srQueue := rfl
@[simp] theorem Core.srBegins_withTime (v : TimeState) : (c.withTime v).srBegins = c.srBegins := rfl
@[simp] theorem Core.halves_withTime (v : TimeState) : (c.withTime v).halves = c.halves := rfl
@[simp] theorem Core.images_withTime (v : TimeState) : (c.withTime v).images = c.images := rfl
@[simp] theorem Core.imageOpen_withTime (v : TimeState) : (c.withTime v).imageOpen = c.imageOpen := rfl
@[simp] theorem Core.spill_withTime (v : TimeState) : (c.withTime v).spill = c.spill := rfl
@[simp] theorem Core.flash_withTime (v : TimeState) : (c.withTime v).flash = c.flash := rfl
@[simp] theorem Core.tap_withTime (v : TimeState) : (c.withTime v).tap = c.tap := rfl
@[simp] theorem Core.mg_withTime (v : TimeState) : (c.withTime v).mg = c.mg := rfl
@[simp] theorem Core.seq_withTime (v : TimeState) : (c.withTime v).seq = c.seq := rfl
@[simp] theorem Core.sail_withTime (v : TimeState) : (c.withTime v).sail = c.sail := rfl
@[simp] theorem Core.decisions_withTime (v : TimeState) : (c.withTime v).decisions = c.decisions := rfl

/-! ## withSpill -/

@[simp] theorem Core.tick_withSpill (v : Tbl Nat) : (c.withSpill v).tick = c.tick := rfl
@[simp] theorem Core.hubTime_withSpill (v : Tbl Nat) : (c.withSpill v).hubTime = c.hubTime := rfl
@[simp] theorem Core.timeRuns_withSpill (v : Tbl Nat) : (c.withSpill v).timeRuns = c.timeRuns := rfl
@[simp] theorem Core.objs_withSpill (v : Tbl Nat) : (c.withSpill v).objs = c.objs := rfl
@[simp] theorem Core.drawn_withSpill (v : Tbl Nat) : (c.withSpill v).drawn = c.drawn := rfl
@[simp] theorem Core.out_withSpill (v : Tbl Nat) : (c.withSpill v).out = c.out := rfl
@[simp] theorem Core.req_withSpill (v : Tbl Nat) : (c.withSpill v).req = c.req := rfl
@[simp] theorem Core.fc_withSpill (v : Tbl Nat) : (c.withSpill v).fc = c.fc := rfl
@[simp] theorem Core.sluice_withSpill (v : Tbl Nat) : (c.withSpill v).sluice = c.sluice := rfl
@[simp] theorem Core.mc_withSpill (v : Tbl Nat) : (c.withSpill v).mc = c.mc := rfl
@[simp] theorem Core.hr_withSpill (v : Tbl Nat) : (c.withSpill v).hr = c.hr := rfl
@[simp] theorem Core.ddr_withSpill (v : Tbl Nat) : (c.withSpill v).ddr = c.ddr := rfl
@[simp] theorem Core.ecc_withSpill (v : Tbl Nat) : (c.withSpill v).ecc = c.ecc := rfl
@[simp] theorem Core.eccSeq_withSpill (v : Tbl Nat) : (c.withSpill v).eccSeq = c.eccSeq := rfl
@[simp] theorem Core.ft_withSpill (v : Tbl Nat) : (c.withSpill v).ft = c.ft := rfl
@[simp] theorem Core.ledger_withSpill (v : Tbl Nat) : (c.withSpill v).ledger = c.ledger := rfl
@[simp] theorem Core.mon_withSpill (v : Tbl Nat) : (c.withSpill v).mon = c.mon := rfl
@[simp] theorem Core.start_withSpill (v : Tbl Nat) : (c.withSpill v).start = c.start := rfl
@[simp] theorem Core.streams_withSpill (v : Tbl Nat) : (c.withSpill v).streams = c.streams := rfl
@[simp] theorem Core.rings_withSpill (v : Tbl Nat) : (c.withSpill v).rings = c.rings := rfl
@[simp] theorem Core.wins_withSpill (v : Tbl Nat) : (c.withSpill v).wins = c.wins := rfl
@[simp] theorem Core.freezes_withSpill (v : Tbl Nat) : (c.withSpill v).freezes = c.freezes := rfl
@[simp] theorem Core.throttled_withSpill (v : Tbl Nat) : (c.withSpill v).throttled = c.throttled := rfl
@[simp] theorem Core.overHigh_withSpill (v : Tbl Nat) : (c.withSpill v).overHigh = c.overHigh := rfl
@[simp] theorem Core.ctxs_withSpill (v : Tbl Nat) : (c.withSpill v).ctxs = c.ctxs := rfl
@[simp] theorem Core.cache_withSpill (v : Tbl Nat) : (c.withSpill v).cache = c.cache := rfl
@[simp] theorem Core.updLog_withSpill (v : Tbl Nat) : (c.withSpill v).updLog = c.updLog := rfl
@[simp] theorem Core.jobs_withSpill (v : Tbl Nat) : (c.withSpill v).jobs = c.jobs := rfl
@[simp] theorem Core.freeing_withSpill (v : Tbl Nat) : (c.withSpill v).freeing = c.freeing := rfl
@[simp] theorem Core.shown_withSpill (v : Tbl Nat) : (c.withSpill v).shown = c.shown := rfl
@[simp] theorem Core.sessions_withSpill (v : Tbl Nat) : (c.withSpill v).sessions = c.sessions := rfl
@[simp] theorem Core.checkpoints_withSpill (v : Tbl Nat) : (c.withSpill v).checkpoints = c.checkpoints := rfl
@[simp] theorem Core.chainFails_withSpill (v : Tbl Nat) : (c.withSpill v).chainFails = c.chainFails := rfl
@[simp] theorem Core.dll_withSpill (v : Tbl Nat) : (c.withSpill v).dll = c.dll := rfl
@[simp] theorem Core.srQueue_withSpill (v : Tbl Nat) : (c.withSpill v).srQueue = c.srQueue := rfl
@[simp] theorem Core.srBegins_withSpill (v : Tbl Nat) : (c.withSpill v).srBegins = c.srBegins := rfl
@[simp] theorem Core.halves_withSpill (v : Tbl Nat) : (c.withSpill v).halves = c.halves := rfl
@[simp] theorem Core.images_withSpill (v : Tbl Nat) : (c.withSpill v).images = c.images := rfl
@[simp] theorem Core.imageOpen_withSpill (v : Tbl Nat) : (c.withSpill v).imageOpen = c.imageOpen := rfl
@[simp] theorem Core.flash_withSpill (v : Tbl Nat) : (c.withSpill v).flash = c.flash := rfl
@[simp] theorem Core.tap_withSpill (v : Tbl Nat) : (c.withSpill v).tap = c.tap := rfl
@[simp] theorem Core.mg_withSpill (v : Tbl Nat) : (c.withSpill v).mg = c.mg := rfl
@[simp] theorem Core.seq_withSpill (v : Tbl Nat) : (c.withSpill v).seq = c.seq := rfl
@[simp] theorem Core.sail_withSpill (v : Tbl Nat) : (c.withSpill v).sail = c.sail := rfl
@[simp] theorem Core.time_withSpill (v : Tbl Nat) : (c.withSpill v).time = c.time := rfl
@[simp] theorem Core.decisions_withSpill (v : Tbl Nat) : (c.withSpill v).decisions = c.decisions := rfl

/-! ## withShown -/

@[simp] theorem Core.tick_withShown (v : Tbl Nat) : (c.withShown v).tick = c.tick := rfl
@[simp] theorem Core.hubTime_withShown (v : Tbl Nat) : (c.withShown v).hubTime = c.hubTime := rfl
@[simp] theorem Core.timeRuns_withShown (v : Tbl Nat) : (c.withShown v).timeRuns = c.timeRuns := rfl
@[simp] theorem Core.objs_withShown (v : Tbl Nat) : (c.withShown v).objs = c.objs := rfl
@[simp] theorem Core.drawn_withShown (v : Tbl Nat) : (c.withShown v).drawn = c.drawn := rfl
@[simp] theorem Core.out_withShown (v : Tbl Nat) : (c.withShown v).out = c.out := rfl
@[simp] theorem Core.req_withShown (v : Tbl Nat) : (c.withShown v).req = c.req := rfl
@[simp] theorem Core.fc_withShown (v : Tbl Nat) : (c.withShown v).fc = c.fc := rfl
@[simp] theorem Core.sluice_withShown (v : Tbl Nat) : (c.withShown v).sluice = c.sluice := rfl
@[simp] theorem Core.mc_withShown (v : Tbl Nat) : (c.withShown v).mc = c.mc := rfl
@[simp] theorem Core.hr_withShown (v : Tbl Nat) : (c.withShown v).hr = c.hr := rfl
@[simp] theorem Core.ddr_withShown (v : Tbl Nat) : (c.withShown v).ddr = c.ddr := rfl
@[simp] theorem Core.ecc_withShown (v : Tbl Nat) : (c.withShown v).ecc = c.ecc := rfl
@[simp] theorem Core.eccSeq_withShown (v : Tbl Nat) : (c.withShown v).eccSeq = c.eccSeq := rfl
@[simp] theorem Core.ft_withShown (v : Tbl Nat) : (c.withShown v).ft = c.ft := rfl
@[simp] theorem Core.ledger_withShown (v : Tbl Nat) : (c.withShown v).ledger = c.ledger := rfl
@[simp] theorem Core.mon_withShown (v : Tbl Nat) : (c.withShown v).mon = c.mon := rfl
@[simp] theorem Core.start_withShown (v : Tbl Nat) : (c.withShown v).start = c.start := rfl
@[simp] theorem Core.streams_withShown (v : Tbl Nat) : (c.withShown v).streams = c.streams := rfl
@[simp] theorem Core.rings_withShown (v : Tbl Nat) : (c.withShown v).rings = c.rings := rfl
@[simp] theorem Core.wins_withShown (v : Tbl Nat) : (c.withShown v).wins = c.wins := rfl
@[simp] theorem Core.freezes_withShown (v : Tbl Nat) : (c.withShown v).freezes = c.freezes := rfl
@[simp] theorem Core.throttled_withShown (v : Tbl Nat) : (c.withShown v).throttled = c.throttled := rfl
@[simp] theorem Core.overHigh_withShown (v : Tbl Nat) : (c.withShown v).overHigh = c.overHigh := rfl
@[simp] theorem Core.ctxs_withShown (v : Tbl Nat) : (c.withShown v).ctxs = c.ctxs := rfl
@[simp] theorem Core.cache_withShown (v : Tbl Nat) : (c.withShown v).cache = c.cache := rfl
@[simp] theorem Core.updLog_withShown (v : Tbl Nat) : (c.withShown v).updLog = c.updLog := rfl
@[simp] theorem Core.jobs_withShown (v : Tbl Nat) : (c.withShown v).jobs = c.jobs := rfl
@[simp] theorem Core.freeing_withShown (v : Tbl Nat) : (c.withShown v).freeing = c.freeing := rfl
@[simp] theorem Core.sessions_withShown (v : Tbl Nat) : (c.withShown v).sessions = c.sessions := rfl
@[simp] theorem Core.checkpoints_withShown (v : Tbl Nat) : (c.withShown v).checkpoints = c.checkpoints := rfl
@[simp] theorem Core.chainFails_withShown (v : Tbl Nat) : (c.withShown v).chainFails = c.chainFails := rfl
@[simp] theorem Core.dll_withShown (v : Tbl Nat) : (c.withShown v).dll = c.dll := rfl
@[simp] theorem Core.srQueue_withShown (v : Tbl Nat) : (c.withShown v).srQueue = c.srQueue := rfl
@[simp] theorem Core.srBegins_withShown (v : Tbl Nat) : (c.withShown v).srBegins = c.srBegins := rfl
@[simp] theorem Core.halves_withShown (v : Tbl Nat) : (c.withShown v).halves = c.halves := rfl
@[simp] theorem Core.images_withShown (v : Tbl Nat) : (c.withShown v).images = c.images := rfl
@[simp] theorem Core.imageOpen_withShown (v : Tbl Nat) : (c.withShown v).imageOpen = c.imageOpen := rfl
@[simp] theorem Core.spill_withShown (v : Tbl Nat) : (c.withShown v).spill = c.spill := rfl
@[simp] theorem Core.flash_withShown (v : Tbl Nat) : (c.withShown v).flash = c.flash := rfl
@[simp] theorem Core.tap_withShown (v : Tbl Nat) : (c.withShown v).tap = c.tap := rfl
@[simp] theorem Core.mg_withShown (v : Tbl Nat) : (c.withShown v).mg = c.mg := rfl
@[simp] theorem Core.seq_withShown (v : Tbl Nat) : (c.withShown v).seq = c.seq := rfl
@[simp] theorem Core.sail_withShown (v : Tbl Nat) : (c.withShown v).sail = c.sail := rfl
@[simp] theorem Core.time_withShown (v : Tbl Nat) : (c.withShown v).time = c.time := rfl
@[simp] theorem Core.decisions_withShown (v : Tbl Nat) : (c.withShown v).decisions = c.decisions := rfl

/-! ## withFreezes -/

@[simp] theorem Core.tick_withFreezes (v : Nat) : (c.withFreezes v).tick = c.tick := rfl
@[simp] theorem Core.hubTime_withFreezes (v : Nat) : (c.withFreezes v).hubTime = c.hubTime := rfl
@[simp] theorem Core.timeRuns_withFreezes (v : Nat) : (c.withFreezes v).timeRuns = c.timeRuns := rfl
@[simp] theorem Core.objs_withFreezes (v : Nat) : (c.withFreezes v).objs = c.objs := rfl
@[simp] theorem Core.drawn_withFreezes (v : Nat) : (c.withFreezes v).drawn = c.drawn := rfl
@[simp] theorem Core.out_withFreezes (v : Nat) : (c.withFreezes v).out = c.out := rfl
@[simp] theorem Core.req_withFreezes (v : Nat) : (c.withFreezes v).req = c.req := rfl
@[simp] theorem Core.fc_withFreezes (v : Nat) : (c.withFreezes v).fc = c.fc := rfl
@[simp] theorem Core.sluice_withFreezes (v : Nat) : (c.withFreezes v).sluice = c.sluice := rfl
@[simp] theorem Core.mc_withFreezes (v : Nat) : (c.withFreezes v).mc = c.mc := rfl
@[simp] theorem Core.hr_withFreezes (v : Nat) : (c.withFreezes v).hr = c.hr := rfl
@[simp] theorem Core.ddr_withFreezes (v : Nat) : (c.withFreezes v).ddr = c.ddr := rfl
@[simp] theorem Core.ecc_withFreezes (v : Nat) : (c.withFreezes v).ecc = c.ecc := rfl
@[simp] theorem Core.eccSeq_withFreezes (v : Nat) : (c.withFreezes v).eccSeq = c.eccSeq := rfl
@[simp] theorem Core.ft_withFreezes (v : Nat) : (c.withFreezes v).ft = c.ft := rfl
@[simp] theorem Core.ledger_withFreezes (v : Nat) : (c.withFreezes v).ledger = c.ledger := rfl
@[simp] theorem Core.mon_withFreezes (v : Nat) : (c.withFreezes v).mon = c.mon := rfl
@[simp] theorem Core.start_withFreezes (v : Nat) : (c.withFreezes v).start = c.start := rfl
@[simp] theorem Core.streams_withFreezes (v : Nat) : (c.withFreezes v).streams = c.streams := rfl
@[simp] theorem Core.rings_withFreezes (v : Nat) : (c.withFreezes v).rings = c.rings := rfl
@[simp] theorem Core.wins_withFreezes (v : Nat) : (c.withFreezes v).wins = c.wins := rfl
@[simp] theorem Core.throttled_withFreezes (v : Nat) : (c.withFreezes v).throttled = c.throttled := rfl
@[simp] theorem Core.overHigh_withFreezes (v : Nat) : (c.withFreezes v).overHigh = c.overHigh := rfl
@[simp] theorem Core.ctxs_withFreezes (v : Nat) : (c.withFreezes v).ctxs = c.ctxs := rfl
@[simp] theorem Core.cache_withFreezes (v : Nat) : (c.withFreezes v).cache = c.cache := rfl
@[simp] theorem Core.updLog_withFreezes (v : Nat) : (c.withFreezes v).updLog = c.updLog := rfl
@[simp] theorem Core.jobs_withFreezes (v : Nat) : (c.withFreezes v).jobs = c.jobs := rfl
@[simp] theorem Core.freeing_withFreezes (v : Nat) : (c.withFreezes v).freeing = c.freeing := rfl
@[simp] theorem Core.shown_withFreezes (v : Nat) : (c.withFreezes v).shown = c.shown := rfl
@[simp] theorem Core.sessions_withFreezes (v : Nat) : (c.withFreezes v).sessions = c.sessions := rfl
@[simp] theorem Core.checkpoints_withFreezes (v : Nat) : (c.withFreezes v).checkpoints = c.checkpoints := rfl
@[simp] theorem Core.chainFails_withFreezes (v : Nat) : (c.withFreezes v).chainFails = c.chainFails := rfl
@[simp] theorem Core.dll_withFreezes (v : Nat) : (c.withFreezes v).dll = c.dll := rfl
@[simp] theorem Core.srQueue_withFreezes (v : Nat) : (c.withFreezes v).srQueue = c.srQueue := rfl
@[simp] theorem Core.srBegins_withFreezes (v : Nat) : (c.withFreezes v).srBegins = c.srBegins := rfl
@[simp] theorem Core.halves_withFreezes (v : Nat) : (c.withFreezes v).halves = c.halves := rfl
@[simp] theorem Core.images_withFreezes (v : Nat) : (c.withFreezes v).images = c.images := rfl
@[simp] theorem Core.imageOpen_withFreezes (v : Nat) : (c.withFreezes v).imageOpen = c.imageOpen := rfl
@[simp] theorem Core.spill_withFreezes (v : Nat) : (c.withFreezes v).spill = c.spill := rfl
@[simp] theorem Core.flash_withFreezes (v : Nat) : (c.withFreezes v).flash = c.flash := rfl
@[simp] theorem Core.tap_withFreezes (v : Nat) : (c.withFreezes v).tap = c.tap := rfl
@[simp] theorem Core.mg_withFreezes (v : Nat) : (c.withFreezes v).mg = c.mg := rfl
@[simp] theorem Core.seq_withFreezes (v : Nat) : (c.withFreezes v).seq = c.seq := rfl
@[simp] theorem Core.sail_withFreezes (v : Nat) : (c.withFreezes v).sail = c.sail := rfl
@[simp] theorem Core.time_withFreezes (v : Nat) : (c.withFreezes v).time = c.time := rfl
@[simp] theorem Core.decisions_withFreezes (v : Nat) : (c.withFreezes v).decisions = c.decisions := rfl

/-! ## withWins -/

@[simp] theorem Core.tick_withWins (v : Tbl WinState) : (c.withWins v).tick = c.tick := rfl
@[simp] theorem Core.hubTime_withWins (v : Tbl WinState) : (c.withWins v).hubTime = c.hubTime := rfl
@[simp] theorem Core.timeRuns_withWins (v : Tbl WinState) : (c.withWins v).timeRuns = c.timeRuns := rfl
@[simp] theorem Core.objs_withWins (v : Tbl WinState) : (c.withWins v).objs = c.objs := rfl
@[simp] theorem Core.drawn_withWins (v : Tbl WinState) : (c.withWins v).drawn = c.drawn := rfl
@[simp] theorem Core.out_withWins (v : Tbl WinState) : (c.withWins v).out = c.out := rfl
@[simp] theorem Core.req_withWins (v : Tbl WinState) : (c.withWins v).req = c.req := rfl
@[simp] theorem Core.fc_withWins (v : Tbl WinState) : (c.withWins v).fc = c.fc := rfl
@[simp] theorem Core.sluice_withWins (v : Tbl WinState) : (c.withWins v).sluice = c.sluice := rfl
@[simp] theorem Core.mc_withWins (v : Tbl WinState) : (c.withWins v).mc = c.mc := rfl
@[simp] theorem Core.hr_withWins (v : Tbl WinState) : (c.withWins v).hr = c.hr := rfl
@[simp] theorem Core.ddr_withWins (v : Tbl WinState) : (c.withWins v).ddr = c.ddr := rfl
@[simp] theorem Core.ecc_withWins (v : Tbl WinState) : (c.withWins v).ecc = c.ecc := rfl
@[simp] theorem Core.eccSeq_withWins (v : Tbl WinState) : (c.withWins v).eccSeq = c.eccSeq := rfl
@[simp] theorem Core.ft_withWins (v : Tbl WinState) : (c.withWins v).ft = c.ft := rfl
@[simp] theorem Core.ledger_withWins (v : Tbl WinState) : (c.withWins v).ledger = c.ledger := rfl
@[simp] theorem Core.mon_withWins (v : Tbl WinState) : (c.withWins v).mon = c.mon := rfl
@[simp] theorem Core.start_withWins (v : Tbl WinState) : (c.withWins v).start = c.start := rfl
@[simp] theorem Core.streams_withWins (v : Tbl WinState) : (c.withWins v).streams = c.streams := rfl
@[simp] theorem Core.rings_withWins (v : Tbl WinState) : (c.withWins v).rings = c.rings := rfl
@[simp] theorem Core.freezes_withWins (v : Tbl WinState) : (c.withWins v).freezes = c.freezes := rfl
@[simp] theorem Core.throttled_withWins (v : Tbl WinState) : (c.withWins v).throttled = c.throttled := rfl
@[simp] theorem Core.overHigh_withWins (v : Tbl WinState) : (c.withWins v).overHigh = c.overHigh := rfl
@[simp] theorem Core.ctxs_withWins (v : Tbl WinState) : (c.withWins v).ctxs = c.ctxs := rfl
@[simp] theorem Core.cache_withWins (v : Tbl WinState) : (c.withWins v).cache = c.cache := rfl
@[simp] theorem Core.updLog_withWins (v : Tbl WinState) : (c.withWins v).updLog = c.updLog := rfl
@[simp] theorem Core.jobs_withWins (v : Tbl WinState) : (c.withWins v).jobs = c.jobs := rfl
@[simp] theorem Core.freeing_withWins (v : Tbl WinState) : (c.withWins v).freeing = c.freeing := rfl
@[simp] theorem Core.shown_withWins (v : Tbl WinState) : (c.withWins v).shown = c.shown := rfl
@[simp] theorem Core.sessions_withWins (v : Tbl WinState) : (c.withWins v).sessions = c.sessions := rfl
@[simp] theorem Core.checkpoints_withWins (v : Tbl WinState) : (c.withWins v).checkpoints = c.checkpoints := rfl
@[simp] theorem Core.chainFails_withWins (v : Tbl WinState) : (c.withWins v).chainFails = c.chainFails := rfl
@[simp] theorem Core.dll_withWins (v : Tbl WinState) : (c.withWins v).dll = c.dll := rfl
@[simp] theorem Core.srQueue_withWins (v : Tbl WinState) : (c.withWins v).srQueue = c.srQueue := rfl
@[simp] theorem Core.srBegins_withWins (v : Tbl WinState) : (c.withWins v).srBegins = c.srBegins := rfl
@[simp] theorem Core.halves_withWins (v : Tbl WinState) : (c.withWins v).halves = c.halves := rfl
@[simp] theorem Core.images_withWins (v : Tbl WinState) : (c.withWins v).images = c.images := rfl
@[simp] theorem Core.imageOpen_withWins (v : Tbl WinState) : (c.withWins v).imageOpen = c.imageOpen := rfl
@[simp] theorem Core.spill_withWins (v : Tbl WinState) : (c.withWins v).spill = c.spill := rfl
@[simp] theorem Core.flash_withWins (v : Tbl WinState) : (c.withWins v).flash = c.flash := rfl
@[simp] theorem Core.tap_withWins (v : Tbl WinState) : (c.withWins v).tap = c.tap := rfl
@[simp] theorem Core.mg_withWins (v : Tbl WinState) : (c.withWins v).mg = c.mg := rfl
@[simp] theorem Core.seq_withWins (v : Tbl WinState) : (c.withWins v).seq = c.seq := rfl
@[simp] theorem Core.sail_withWins (v : Tbl WinState) : (c.withWins v).sail = c.sail := rfl
@[simp] theorem Core.time_withWins (v : Tbl WinState) : (c.withWins v).time = c.time := rfl
@[simp] theorem Core.decisions_withWins (v : Tbl WinState) : (c.withWins v).decisions = c.decisions := rfl

/-! ## withDrawn -/

@[simp] theorem Core.tick_withDrawn (v : Nat) : (c.withDrawn v).tick = c.tick := rfl
@[simp] theorem Core.hubTime_withDrawn (v : Nat) : (c.withDrawn v).hubTime = c.hubTime := rfl
@[simp] theorem Core.timeRuns_withDrawn (v : Nat) : (c.withDrawn v).timeRuns = c.timeRuns := rfl
@[simp] theorem Core.objs_withDrawn (v : Nat) : (c.withDrawn v).objs = c.objs := rfl
@[simp] theorem Core.out_withDrawn (v : Nat) : (c.withDrawn v).out = c.out := rfl
@[simp] theorem Core.req_withDrawn (v : Nat) : (c.withDrawn v).req = c.req := rfl
@[simp] theorem Core.fc_withDrawn (v : Nat) : (c.withDrawn v).fc = c.fc := rfl
@[simp] theorem Core.sluice_withDrawn (v : Nat) : (c.withDrawn v).sluice = c.sluice := rfl
@[simp] theorem Core.mc_withDrawn (v : Nat) : (c.withDrawn v).mc = c.mc := rfl
@[simp] theorem Core.hr_withDrawn (v : Nat) : (c.withDrawn v).hr = c.hr := rfl
@[simp] theorem Core.ddr_withDrawn (v : Nat) : (c.withDrawn v).ddr = c.ddr := rfl
@[simp] theorem Core.ecc_withDrawn (v : Nat) : (c.withDrawn v).ecc = c.ecc := rfl
@[simp] theorem Core.eccSeq_withDrawn (v : Nat) : (c.withDrawn v).eccSeq = c.eccSeq := rfl
@[simp] theorem Core.ft_withDrawn (v : Nat) : (c.withDrawn v).ft = c.ft := rfl
@[simp] theorem Core.ledger_withDrawn (v : Nat) : (c.withDrawn v).ledger = c.ledger := rfl
@[simp] theorem Core.mon_withDrawn (v : Nat) : (c.withDrawn v).mon = c.mon := rfl
@[simp] theorem Core.start_withDrawn (v : Nat) : (c.withDrawn v).start = c.start := rfl
@[simp] theorem Core.streams_withDrawn (v : Nat) : (c.withDrawn v).streams = c.streams := rfl
@[simp] theorem Core.rings_withDrawn (v : Nat) : (c.withDrawn v).rings = c.rings := rfl
@[simp] theorem Core.wins_withDrawn (v : Nat) : (c.withDrawn v).wins = c.wins := rfl
@[simp] theorem Core.freezes_withDrawn (v : Nat) : (c.withDrawn v).freezes = c.freezes := rfl
@[simp] theorem Core.throttled_withDrawn (v : Nat) : (c.withDrawn v).throttled = c.throttled := rfl
@[simp] theorem Core.overHigh_withDrawn (v : Nat) : (c.withDrawn v).overHigh = c.overHigh := rfl
@[simp] theorem Core.ctxs_withDrawn (v : Nat) : (c.withDrawn v).ctxs = c.ctxs := rfl
@[simp] theorem Core.cache_withDrawn (v : Nat) : (c.withDrawn v).cache = c.cache := rfl
@[simp] theorem Core.updLog_withDrawn (v : Nat) : (c.withDrawn v).updLog = c.updLog := rfl
@[simp] theorem Core.jobs_withDrawn (v : Nat) : (c.withDrawn v).jobs = c.jobs := rfl
@[simp] theorem Core.freeing_withDrawn (v : Nat) : (c.withDrawn v).freeing = c.freeing := rfl
@[simp] theorem Core.shown_withDrawn (v : Nat) : (c.withDrawn v).shown = c.shown := rfl
@[simp] theorem Core.sessions_withDrawn (v : Nat) : (c.withDrawn v).sessions = c.sessions := rfl
@[simp] theorem Core.checkpoints_withDrawn (v : Nat) : (c.withDrawn v).checkpoints = c.checkpoints := rfl
@[simp] theorem Core.chainFails_withDrawn (v : Nat) : (c.withDrawn v).chainFails = c.chainFails := rfl
@[simp] theorem Core.dll_withDrawn (v : Nat) : (c.withDrawn v).dll = c.dll := rfl
@[simp] theorem Core.srQueue_withDrawn (v : Nat) : (c.withDrawn v).srQueue = c.srQueue := rfl
@[simp] theorem Core.srBegins_withDrawn (v : Nat) : (c.withDrawn v).srBegins = c.srBegins := rfl
@[simp] theorem Core.halves_withDrawn (v : Nat) : (c.withDrawn v).halves = c.halves := rfl
@[simp] theorem Core.images_withDrawn (v : Nat) : (c.withDrawn v).images = c.images := rfl
@[simp] theorem Core.imageOpen_withDrawn (v : Nat) : (c.withDrawn v).imageOpen = c.imageOpen := rfl
@[simp] theorem Core.spill_withDrawn (v : Nat) : (c.withDrawn v).spill = c.spill := rfl
@[simp] theorem Core.flash_withDrawn (v : Nat) : (c.withDrawn v).flash = c.flash := rfl
@[simp] theorem Core.tap_withDrawn (v : Nat) : (c.withDrawn v).tap = c.tap := rfl
@[simp] theorem Core.mg_withDrawn (v : Nat) : (c.withDrawn v).mg = c.mg := rfl
@[simp] theorem Core.seq_withDrawn (v : Nat) : (c.withDrawn v).seq = c.seq := rfl
@[simp] theorem Core.sail_withDrawn (v : Nat) : (c.withDrawn v).sail = c.sail := rfl
@[simp] theorem Core.time_withDrawn (v : Nat) : (c.withDrawn v).time = c.time := rfl
@[simp] theorem Core.decisions_withDrawn (v : Nat) : (c.withDrawn v).decisions = c.decisions := rfl

/-! ## Accessors after updates of other fields -/

@[simp] theorem Core.mcOf_put (i : Nat) (k v : Nat) : (c.put k v).mcOf i = c.mcOf i := rfl
@[simp] theorem Core.ddrOf_put (i : Nat) (k v : Nat) : (c.put k v).ddrOf i = c.ddrOf i := rfl
@[simp] theorem Core.eccOf_put (i : Nat) (k v : Nat) : (c.put k v).eccOf i = c.eccOf i := rfl
@[simp] theorem Core.ftOf_put (i : Nat) (k v : Nat) : (c.put k v).ftOf i = c.ftOf i := rfl
@[simp] theorem Core.ledgerOf_put (i : Nat) (k v : Nat) : (c.put k v).ledgerOf i = c.ledgerOf i := rfl
@[simp] theorem Core.monOf_put (i : Nat) (k v : Nat) : (c.put k v).monOf i = c.monOf i := rfl
@[simp] theorem Core.portOf_put (i : Nat) (k v : Nat) : (c.put k v).portOf i = c.portOf i := rfl
@[simp] theorem Core.streamOf_put (i : Nat) (k v : Nat) : (c.put k v).streamOf i = c.streamOf i := rfl
@[simp] theorem Core.ringOf_put (i : Nat) (k v : Nat) : (c.put k v).ringOf i = c.ringOf i := rfl
@[simp] theorem Core.winOf_put (i : Nat) (k v : Nat) : (c.put k v).winOf i = c.winOf i := rfl
@[simp] theorem Core.ctxOf_put (i : Nat) (k v : Nat) : (c.put k v).ctxOf i = c.ctxOf i := rfl
@[simp] theorem Core.jobOf_put (i : Nat) (k v : Nat) : (c.put k v).jobOf i = c.jobOf i := rfl
@[simp] theorem Core.halfSt_put (i : Nat) (k v : Nat) : (c.put k v).halfSt i = c.halfSt i := rfl
@[simp] theorem Core.sessionOf_put (i : Nat) (k v : Nat) : (c.put k v).sessionOf i = c.sessionOf i := rfl
@[simp] theorem Core.sailOf_put (i : Nat) (k v : Nat) : (c.put k v).sailOf i = c.sailOf i := rfl
@[simp] theorem Core.mcOf_emit (i : Nat) (o : Out) : (c.emit o).mcOf i = c.mcOf i := rfl
@[simp] theorem Core.ddrOf_emit (i : Nat) (o : Out) : (c.emit o).ddrOf i = c.ddrOf i := rfl
@[simp] theorem Core.eccOf_emit (i : Nat) (o : Out) : (c.emit o).eccOf i = c.eccOf i := rfl
@[simp] theorem Core.ftOf_emit (i : Nat) (o : Out) : (c.emit o).ftOf i = c.ftOf i := rfl
@[simp] theorem Core.ledgerOf_emit (i : Nat) (o : Out) : (c.emit o).ledgerOf i = c.ledgerOf i := rfl
@[simp] theorem Core.monOf_emit (i : Nat) (o : Out) : (c.emit o).monOf i = c.monOf i := rfl
@[simp] theorem Core.portOf_emit (i : Nat) (o : Out) : (c.emit o).portOf i = c.portOf i := rfl
@[simp] theorem Core.streamOf_emit (i : Nat) (o : Out) : (c.emit o).streamOf i = c.streamOf i := rfl
@[simp] theorem Core.ringOf_emit (i : Nat) (o : Out) : (c.emit o).ringOf i = c.ringOf i := rfl
@[simp] theorem Core.winOf_emit (i : Nat) (o : Out) : (c.emit o).winOf i = c.winOf i := rfl
@[simp] theorem Core.ctxOf_emit (i : Nat) (o : Out) : (c.emit o).ctxOf i = c.ctxOf i := rfl
@[simp] theorem Core.jobOf_emit (i : Nat) (o : Out) : (c.emit o).jobOf i = c.jobOf i := rfl
@[simp] theorem Core.halfSt_emit (i : Nat) (o : Out) : (c.emit o).halfSt i = c.halfSt i := rfl
@[simp] theorem Core.sessionOf_emit (i : Nat) (o : Out) : (c.emit o).sessionOf i = c.sessionOf i := rfl
@[simp] theorem Core.sailOf_emit (i : Nat) (o : Out) : (c.emit o).sailOf i = c.sailOf i := rfl
@[simp] theorem Core.get_emit (i : Nat) (o : Out) : (c.emit o).get i = c.get i := rfl
@[simp] theorem Core.mcOf_ask (i : Nat) (r : Req) : (c.ask r).mcOf i = c.mcOf i := rfl
@[simp] theorem Core.ddrOf_ask (i : Nat) (r : Req) : (c.ask r).ddrOf i = c.ddrOf i := rfl
@[simp] theorem Core.eccOf_ask (i : Nat) (r : Req) : (c.ask r).eccOf i = c.eccOf i := rfl
@[simp] theorem Core.ftOf_ask (i : Nat) (r : Req) : (c.ask r).ftOf i = c.ftOf i := rfl
@[simp] theorem Core.ledgerOf_ask (i : Nat) (r : Req) : (c.ask r).ledgerOf i = c.ledgerOf i := rfl
@[simp] theorem Core.monOf_ask (i : Nat) (r : Req) : (c.ask r).monOf i = c.monOf i := rfl
@[simp] theorem Core.portOf_ask (i : Nat) (r : Req) : (c.ask r).portOf i = c.portOf i := rfl
@[simp] theorem Core.streamOf_ask (i : Nat) (r : Req) : (c.ask r).streamOf i = c.streamOf i := rfl
@[simp] theorem Core.ringOf_ask (i : Nat) (r : Req) : (c.ask r).ringOf i = c.ringOf i := rfl
@[simp] theorem Core.winOf_ask (i : Nat) (r : Req) : (c.ask r).winOf i = c.winOf i := rfl
@[simp] theorem Core.ctxOf_ask (i : Nat) (r : Req) : (c.ask r).ctxOf i = c.ctxOf i := rfl
@[simp] theorem Core.jobOf_ask (i : Nat) (r : Req) : (c.ask r).jobOf i = c.jobOf i := rfl
@[simp] theorem Core.halfSt_ask (i : Nat) (r : Req) : (c.ask r).halfSt i = c.halfSt i := rfl
@[simp] theorem Core.sessionOf_ask (i : Nat) (r : Req) : (c.ask r).sessionOf i = c.sessionOf i := rfl
@[simp] theorem Core.sailOf_ask (i : Nat) (r : Req) : (c.ask r).sailOf i = c.sailOf i := rfl
@[simp] theorem Core.get_ask (i : Nat) (r : Req) : (c.ask r).get i = c.get i := rfl
@[simp] theorem Core.ddrOf_setMc (i : Nat) (n : Nat) (m : McState) : (c.setMc n m).ddrOf i = c.ddrOf i := rfl
@[simp] theorem Core.eccOf_setMc (i : Nat) (n : Nat) (m : McState) : (c.setMc n m).eccOf i = c.eccOf i := rfl
@[simp] theorem Core.ftOf_setMc (i : Nat) (n : Nat) (m : McState) : (c.setMc n m).ftOf i = c.ftOf i := rfl
@[simp] theorem Core.ledgerOf_setMc (i : Nat) (n : Nat) (m : McState) : (c.setMc n m).ledgerOf i = c.ledgerOf i := rfl
@[simp] theorem Core.monOf_setMc (i : Nat) (n : Nat) (m : McState) : (c.setMc n m).monOf i = c.monOf i := rfl
@[simp] theorem Core.portOf_setMc (i : Nat) (n : Nat) (m : McState) : (c.setMc n m).portOf i = c.portOf i := rfl
@[simp] theorem Core.streamOf_setMc (i : Nat) (n : Nat) (m : McState) : (c.setMc n m).streamOf i = c.streamOf i := rfl
@[simp] theorem Core.ringOf_setMc (i : Nat) (n : Nat) (m : McState) : (c.setMc n m).ringOf i = c.ringOf i := rfl
@[simp] theorem Core.winOf_setMc (i : Nat) (n : Nat) (m : McState) : (c.setMc n m).winOf i = c.winOf i := rfl
@[simp] theorem Core.ctxOf_setMc (i : Nat) (n : Nat) (m : McState) : (c.setMc n m).ctxOf i = c.ctxOf i := rfl
@[simp] theorem Core.jobOf_setMc (i : Nat) (n : Nat) (m : McState) : (c.setMc n m).jobOf i = c.jobOf i := rfl
@[simp] theorem Core.halfSt_setMc (i : Nat) (n : Nat) (m : McState) : (c.setMc n m).halfSt i = c.halfSt i := rfl
@[simp] theorem Core.sessionOf_setMc (i : Nat) (n : Nat) (m : McState) : (c.setMc n m).sessionOf i = c.sessionOf i := rfl
@[simp] theorem Core.sailOf_setMc (i : Nat) (n : Nat) (m : McState) : (c.setMc n m).sailOf i = c.sailOf i := rfl
@[simp] theorem Core.get_setMc (i : Nat) (n : Nat) (m : McState) : (c.setMc n m).get i = c.get i := rfl
@[simp] theorem Core.mcOf_updDdr (i : Nat) (n : Nat) (f : DdrState → DdrState) : (c.updDdr n f).mcOf i = c.mcOf i := rfl
@[simp] theorem Core.eccOf_updDdr (i : Nat) (n : Nat) (f : DdrState → DdrState) : (c.updDdr n f).eccOf i = c.eccOf i := rfl
@[simp] theorem Core.ftOf_updDdr (i : Nat) (n : Nat) (f : DdrState → DdrState) : (c.updDdr n f).ftOf i = c.ftOf i := rfl
@[simp] theorem Core.ledgerOf_updDdr (i : Nat) (n : Nat) (f : DdrState → DdrState) : (c.updDdr n f).ledgerOf i = c.ledgerOf i := rfl
@[simp] theorem Core.monOf_updDdr (i : Nat) (n : Nat) (f : DdrState → DdrState) : (c.updDdr n f).monOf i = c.monOf i := rfl
@[simp] theorem Core.portOf_updDdr (i : Nat) (n : Nat) (f : DdrState → DdrState) : (c.updDdr n f).portOf i = c.portOf i := rfl
@[simp] theorem Core.streamOf_updDdr (i : Nat) (n : Nat) (f : DdrState → DdrState) : (c.updDdr n f).streamOf i = c.streamOf i := rfl
@[simp] theorem Core.ringOf_updDdr (i : Nat) (n : Nat) (f : DdrState → DdrState) : (c.updDdr n f).ringOf i = c.ringOf i := rfl
@[simp] theorem Core.winOf_updDdr (i : Nat) (n : Nat) (f : DdrState → DdrState) : (c.updDdr n f).winOf i = c.winOf i := rfl
@[simp] theorem Core.ctxOf_updDdr (i : Nat) (n : Nat) (f : DdrState → DdrState) : (c.updDdr n f).ctxOf i = c.ctxOf i := rfl
@[simp] theorem Core.jobOf_updDdr (i : Nat) (n : Nat) (f : DdrState → DdrState) : (c.updDdr n f).jobOf i = c.jobOf i := rfl
@[simp] theorem Core.halfSt_updDdr (i : Nat) (n : Nat) (f : DdrState → DdrState) : (c.updDdr n f).halfSt i = c.halfSt i := rfl
@[simp] theorem Core.sessionOf_updDdr (i : Nat) (n : Nat) (f : DdrState → DdrState) : (c.updDdr n f).sessionOf i = c.sessionOf i := rfl
@[simp] theorem Core.sailOf_updDdr (i : Nat) (n : Nat) (f : DdrState → DdrState) : (c.updDdr n f).sailOf i = c.sailOf i := rfl
@[simp] theorem Core.get_updDdr (i : Nat) (n : Nat) (f : DdrState → DdrState) : (c.updDdr n f).get i = c.get i := rfl
@[simp] theorem Core.mcOf_updEcc (i : Nat) (n : Nat) (f : EccState → EccState) : (c.updEcc n f).mcOf i = c.mcOf i := rfl
@[simp] theorem Core.ddrOf_updEcc (i : Nat) (n : Nat) (f : EccState → EccState) : (c.updEcc n f).ddrOf i = c.ddrOf i := rfl
@[simp] theorem Core.ftOf_updEcc (i : Nat) (n : Nat) (f : EccState → EccState) : (c.updEcc n f).ftOf i = c.ftOf i := rfl
@[simp] theorem Core.ledgerOf_updEcc (i : Nat) (n : Nat) (f : EccState → EccState) : (c.updEcc n f).ledgerOf i = c.ledgerOf i := rfl
@[simp] theorem Core.monOf_updEcc (i : Nat) (n : Nat) (f : EccState → EccState) : (c.updEcc n f).monOf i = c.monOf i := rfl
@[simp] theorem Core.portOf_updEcc (i : Nat) (n : Nat) (f : EccState → EccState) : (c.updEcc n f).portOf i = c.portOf i := rfl
@[simp] theorem Core.streamOf_updEcc (i : Nat) (n : Nat) (f : EccState → EccState) : (c.updEcc n f).streamOf i = c.streamOf i := rfl
@[simp] theorem Core.ringOf_updEcc (i : Nat) (n : Nat) (f : EccState → EccState) : (c.updEcc n f).ringOf i = c.ringOf i := rfl
@[simp] theorem Core.winOf_updEcc (i : Nat) (n : Nat) (f : EccState → EccState) : (c.updEcc n f).winOf i = c.winOf i := rfl
@[simp] theorem Core.ctxOf_updEcc (i : Nat) (n : Nat) (f : EccState → EccState) : (c.updEcc n f).ctxOf i = c.ctxOf i := rfl
@[simp] theorem Core.jobOf_updEcc (i : Nat) (n : Nat) (f : EccState → EccState) : (c.updEcc n f).jobOf i = c.jobOf i := rfl
@[simp] theorem Core.halfSt_updEcc (i : Nat) (n : Nat) (f : EccState → EccState) : (c.updEcc n f).halfSt i = c.halfSt i := rfl
@[simp] theorem Core.sessionOf_updEcc (i : Nat) (n : Nat) (f : EccState → EccState) : (c.updEcc n f).sessionOf i = c.sessionOf i := rfl
@[simp] theorem Core.sailOf_updEcc (i : Nat) (n : Nat) (f : EccState → EccState) : (c.updEcc n f).sailOf i = c.sailOf i := rfl
@[simp] theorem Core.get_updEcc (i : Nat) (n : Nat) (f : EccState → EccState) : (c.updEcc n f).get i = c.get i := rfl
@[simp] theorem Core.mcOf_updFt (i : Nat) (n : Nat) (f : FtState → FtState) : (c.updFt n f).mcOf i = c.mcOf i := rfl
@[simp] theorem Core.ddrOf_updFt (i : Nat) (n : Nat) (f : FtState → FtState) : (c.updFt n f).ddrOf i = c.ddrOf i := rfl
@[simp] theorem Core.eccOf_updFt (i : Nat) (n : Nat) (f : FtState → FtState) : (c.updFt n f).eccOf i = c.eccOf i := rfl
@[simp] theorem Core.ledgerOf_updFt (i : Nat) (n : Nat) (f : FtState → FtState) : (c.updFt n f).ledgerOf i = c.ledgerOf i := rfl
@[simp] theorem Core.monOf_updFt (i : Nat) (n : Nat) (f : FtState → FtState) : (c.updFt n f).monOf i = c.monOf i := rfl
@[simp] theorem Core.portOf_updFt (i : Nat) (n : Nat) (f : FtState → FtState) : (c.updFt n f).portOf i = c.portOf i := rfl
@[simp] theorem Core.streamOf_updFt (i : Nat) (n : Nat) (f : FtState → FtState) : (c.updFt n f).streamOf i = c.streamOf i := rfl
@[simp] theorem Core.ringOf_updFt (i : Nat) (n : Nat) (f : FtState → FtState) : (c.updFt n f).ringOf i = c.ringOf i := rfl
@[simp] theorem Core.winOf_updFt (i : Nat) (n : Nat) (f : FtState → FtState) : (c.updFt n f).winOf i = c.winOf i := rfl
@[simp] theorem Core.ctxOf_updFt (i : Nat) (n : Nat) (f : FtState → FtState) : (c.updFt n f).ctxOf i = c.ctxOf i := rfl
@[simp] theorem Core.jobOf_updFt (i : Nat) (n : Nat) (f : FtState → FtState) : (c.updFt n f).jobOf i = c.jobOf i := rfl
@[simp] theorem Core.halfSt_updFt (i : Nat) (n : Nat) (f : FtState → FtState) : (c.updFt n f).halfSt i = c.halfSt i := rfl
@[simp] theorem Core.sessionOf_updFt (i : Nat) (n : Nat) (f : FtState → FtState) : (c.updFt n f).sessionOf i = c.sessionOf i := rfl
@[simp] theorem Core.sailOf_updFt (i : Nat) (n : Nat) (f : FtState → FtState) : (c.updFt n f).sailOf i = c.sailOf i := rfl
@[simp] theorem Core.get_updFt (i : Nat) (n : Nat) (f : FtState → FtState) : (c.updFt n f).get i = c.get i := rfl
@[simp] theorem Core.mcOf_updLedger (i : Nat) (n : Nat) (f : LedgerState → LedgerState) : (c.updLedger n f).mcOf i = c.mcOf i := rfl
@[simp] theorem Core.ddrOf_updLedger (i : Nat) (n : Nat) (f : LedgerState → LedgerState) : (c.updLedger n f).ddrOf i = c.ddrOf i := rfl
@[simp] theorem Core.eccOf_updLedger (i : Nat) (n : Nat) (f : LedgerState → LedgerState) : (c.updLedger n f).eccOf i = c.eccOf i := rfl
@[simp] theorem Core.ftOf_updLedger (i : Nat) (n : Nat) (f : LedgerState → LedgerState) : (c.updLedger n f).ftOf i = c.ftOf i := rfl
@[simp] theorem Core.monOf_updLedger (i : Nat) (n : Nat) (f : LedgerState → LedgerState) : (c.updLedger n f).monOf i = c.monOf i := rfl
@[simp] theorem Core.portOf_updLedger (i : Nat) (n : Nat) (f : LedgerState → LedgerState) : (c.updLedger n f).portOf i = c.portOf i := rfl
@[simp] theorem Core.streamOf_updLedger (i : Nat) (n : Nat) (f : LedgerState → LedgerState) : (c.updLedger n f).streamOf i = c.streamOf i := rfl
@[simp] theorem Core.ringOf_updLedger (i : Nat) (n : Nat) (f : LedgerState → LedgerState) : (c.updLedger n f).ringOf i = c.ringOf i := rfl
@[simp] theorem Core.winOf_updLedger (i : Nat) (n : Nat) (f : LedgerState → LedgerState) : (c.updLedger n f).winOf i = c.winOf i := rfl
@[simp] theorem Core.ctxOf_updLedger (i : Nat) (n : Nat) (f : LedgerState → LedgerState) : (c.updLedger n f).ctxOf i = c.ctxOf i := rfl
@[simp] theorem Core.jobOf_updLedger (i : Nat) (n : Nat) (f : LedgerState → LedgerState) : (c.updLedger n f).jobOf i = c.jobOf i := rfl
@[simp] theorem Core.halfSt_updLedger (i : Nat) (n : Nat) (f : LedgerState → LedgerState) : (c.updLedger n f).halfSt i = c.halfSt i := rfl
@[simp] theorem Core.sessionOf_updLedger (i : Nat) (n : Nat) (f : LedgerState → LedgerState) : (c.updLedger n f).sessionOf i = c.sessionOf i := rfl
@[simp] theorem Core.sailOf_updLedger (i : Nat) (n : Nat) (f : LedgerState → LedgerState) : (c.updLedger n f).sailOf i = c.sailOf i := rfl
@[simp] theorem Core.get_updLedger (i : Nat) (n : Nat) (f : LedgerState → LedgerState) : (c.updLedger n f).get i = c.get i := rfl
@[simp] theorem Core.mcOf_updMon (i : Nat) (n : Nat) (f : MonChannel → MonChannel) : (c.updMon n f).mcOf i = c.mcOf i := rfl
@[simp] theorem Core.ddrOf_updMon (i : Nat) (n : Nat) (f : MonChannel → MonChannel) : (c.updMon n f).ddrOf i = c.ddrOf i := rfl
@[simp] theorem Core.eccOf_updMon (i : Nat) (n : Nat) (f : MonChannel → MonChannel) : (c.updMon n f).eccOf i = c.eccOf i := rfl
@[simp] theorem Core.ftOf_updMon (i : Nat) (n : Nat) (f : MonChannel → MonChannel) : (c.updMon n f).ftOf i = c.ftOf i := rfl
@[simp] theorem Core.ledgerOf_updMon (i : Nat) (n : Nat) (f : MonChannel → MonChannel) : (c.updMon n f).ledgerOf i = c.ledgerOf i := rfl
@[simp] theorem Core.portOf_updMon (i : Nat) (n : Nat) (f : MonChannel → MonChannel) : (c.updMon n f).portOf i = c.portOf i := rfl
@[simp] theorem Core.streamOf_updMon (i : Nat) (n : Nat) (f : MonChannel → MonChannel) : (c.updMon n f).streamOf i = c.streamOf i := rfl
@[simp] theorem Core.ringOf_updMon (i : Nat) (n : Nat) (f : MonChannel → MonChannel) : (c.updMon n f).ringOf i = c.ringOf i := rfl
@[simp] theorem Core.winOf_updMon (i : Nat) (n : Nat) (f : MonChannel → MonChannel) : (c.updMon n f).winOf i = c.winOf i := rfl
@[simp] theorem Core.ctxOf_updMon (i : Nat) (n : Nat) (f : MonChannel → MonChannel) : (c.updMon n f).ctxOf i = c.ctxOf i := rfl
@[simp] theorem Core.jobOf_updMon (i : Nat) (n : Nat) (f : MonChannel → MonChannel) : (c.updMon n f).jobOf i = c.jobOf i := rfl
@[simp] theorem Core.halfSt_updMon (i : Nat) (n : Nat) (f : MonChannel → MonChannel) : (c.updMon n f).halfSt i = c.halfSt i := rfl
@[simp] theorem Core.sessionOf_updMon (i : Nat) (n : Nat) (f : MonChannel → MonChannel) : (c.updMon n f).sessionOf i = c.sessionOf i := rfl
@[simp] theorem Core.sailOf_updMon (i : Nat) (n : Nat) (f : MonChannel → MonChannel) : (c.updMon n f).sailOf i = c.sailOf i := rfl
@[simp] theorem Core.get_updMon (i : Nat) (n : Nat) (f : MonChannel → MonChannel) : (c.updMon n f).get i = c.get i := rfl
@[simp] theorem Core.mcOf_setPort (i : Nat) (n : Nat) (m : HrPortState) : (c.setPort n m).mcOf i = c.mcOf i := rfl
@[simp] theorem Core.ddrOf_setPort (i : Nat) (n : Nat) (m : HrPortState) : (c.setPort n m).ddrOf i = c.ddrOf i := rfl
@[simp] theorem Core.eccOf_setPort (i : Nat) (n : Nat) (m : HrPortState) : (c.setPort n m).eccOf i = c.eccOf i := rfl
@[simp] theorem Core.ftOf_setPort (i : Nat) (n : Nat) (m : HrPortState) : (c.setPort n m).ftOf i = c.ftOf i := rfl
@[simp] theorem Core.ledgerOf_setPort (i : Nat) (n : Nat) (m : HrPortState) : (c.setPort n m).ledgerOf i = c.ledgerOf i := rfl
@[simp] theorem Core.monOf_setPort (i : Nat) (n : Nat) (m : HrPortState) : (c.setPort n m).monOf i = c.monOf i := rfl
@[simp] theorem Core.streamOf_setPort (i : Nat) (n : Nat) (m : HrPortState) : (c.setPort n m).streamOf i = c.streamOf i := rfl
@[simp] theorem Core.ringOf_setPort (i : Nat) (n : Nat) (m : HrPortState) : (c.setPort n m).ringOf i = c.ringOf i := rfl
@[simp] theorem Core.winOf_setPort (i : Nat) (n : Nat) (m : HrPortState) : (c.setPort n m).winOf i = c.winOf i := rfl
@[simp] theorem Core.ctxOf_setPort (i : Nat) (n : Nat) (m : HrPortState) : (c.setPort n m).ctxOf i = c.ctxOf i := rfl
@[simp] theorem Core.jobOf_setPort (i : Nat) (n : Nat) (m : HrPortState) : (c.setPort n m).jobOf i = c.jobOf i := rfl
@[simp] theorem Core.halfSt_setPort (i : Nat) (n : Nat) (m : HrPortState) : (c.setPort n m).halfSt i = c.halfSt i := rfl
@[simp] theorem Core.sessionOf_setPort (i : Nat) (n : Nat) (m : HrPortState) : (c.setPort n m).sessionOf i = c.sessionOf i := rfl
@[simp] theorem Core.sailOf_setPort (i : Nat) (n : Nat) (m : HrPortState) : (c.setPort n m).sailOf i = c.sailOf i := rfl
@[simp] theorem Core.get_setPort (i : Nat) (n : Nat) (m : HrPortState) : (c.setPort n m).get i = c.get i := rfl
@[simp] theorem Core.mcOf_updStream (i : Nat) (n : Nat) (f : StreamState → StreamState) : (c.updStream n f).mcOf i = c.mcOf i := rfl
@[simp] theorem Core.ddrOf_updStream (i : Nat) (n : Nat) (f : StreamState → StreamState) : (c.updStream n f).ddrOf i = c.ddrOf i := rfl
@[simp] theorem Core.eccOf_updStream (i : Nat) (n : Nat) (f : StreamState → StreamState) : (c.updStream n f).eccOf i = c.eccOf i := rfl
@[simp] theorem Core.ftOf_updStream (i : Nat) (n : Nat) (f : StreamState → StreamState) : (c.updStream n f).ftOf i = c.ftOf i := rfl
@[simp] theorem Core.ledgerOf_updStream (i : Nat) (n : Nat) (f : StreamState → StreamState) : (c.updStream n f).ledgerOf i = c.ledgerOf i := rfl
@[simp] theorem Core.monOf_updStream (i : Nat) (n : Nat) (f : StreamState → StreamState) : (c.updStream n f).monOf i = c.monOf i := rfl
@[simp] theorem Core.portOf_updStream (i : Nat) (n : Nat) (f : StreamState → StreamState) : (c.updStream n f).portOf i = c.portOf i := rfl
@[simp] theorem Core.ringOf_updStream (i : Nat) (n : Nat) (f : StreamState → StreamState) : (c.updStream n f).ringOf i = c.ringOf i := rfl
@[simp] theorem Core.winOf_updStream (i : Nat) (n : Nat) (f : StreamState → StreamState) : (c.updStream n f).winOf i = c.winOf i := rfl
@[simp] theorem Core.ctxOf_updStream (i : Nat) (n : Nat) (f : StreamState → StreamState) : (c.updStream n f).ctxOf i = c.ctxOf i := rfl
@[simp] theorem Core.jobOf_updStream (i : Nat) (n : Nat) (f : StreamState → StreamState) : (c.updStream n f).jobOf i = c.jobOf i := rfl
@[simp] theorem Core.halfSt_updStream (i : Nat) (n : Nat) (f : StreamState → StreamState) : (c.updStream n f).halfSt i = c.halfSt i := rfl
@[simp] theorem Core.sessionOf_updStream (i : Nat) (n : Nat) (f : StreamState → StreamState) : (c.updStream n f).sessionOf i = c.sessionOf i := rfl
@[simp] theorem Core.sailOf_updStream (i : Nat) (n : Nat) (f : StreamState → StreamState) : (c.updStream n f).sailOf i = c.sailOf i := rfl
@[simp] theorem Core.get_updStream (i : Nat) (n : Nat) (f : StreamState → StreamState) : (c.updStream n f).get i = c.get i := rfl
@[simp] theorem Core.mcOf_updRing (i : Nat) (n : Nat) (f : RingState → RingState) : (c.updRing n f).mcOf i = c.mcOf i := rfl
@[simp] theorem Core.ddrOf_updRing (i : Nat) (n : Nat) (f : RingState → RingState) : (c.updRing n f).ddrOf i = c.ddrOf i := rfl
@[simp] theorem Core.eccOf_updRing (i : Nat) (n : Nat) (f : RingState → RingState) : (c.updRing n f).eccOf i = c.eccOf i := rfl
@[simp] theorem Core.ftOf_updRing (i : Nat) (n : Nat) (f : RingState → RingState) : (c.updRing n f).ftOf i = c.ftOf i := rfl
@[simp] theorem Core.ledgerOf_updRing (i : Nat) (n : Nat) (f : RingState → RingState) : (c.updRing n f).ledgerOf i = c.ledgerOf i := rfl
@[simp] theorem Core.monOf_updRing (i : Nat) (n : Nat) (f : RingState → RingState) : (c.updRing n f).monOf i = c.monOf i := rfl
@[simp] theorem Core.portOf_updRing (i : Nat) (n : Nat) (f : RingState → RingState) : (c.updRing n f).portOf i = c.portOf i := rfl
@[simp] theorem Core.streamOf_updRing (i : Nat) (n : Nat) (f : RingState → RingState) : (c.updRing n f).streamOf i = c.streamOf i := rfl
@[simp] theorem Core.winOf_updRing (i : Nat) (n : Nat) (f : RingState → RingState) : (c.updRing n f).winOf i = c.winOf i := rfl
@[simp] theorem Core.ctxOf_updRing (i : Nat) (n : Nat) (f : RingState → RingState) : (c.updRing n f).ctxOf i = c.ctxOf i := rfl
@[simp] theorem Core.jobOf_updRing (i : Nat) (n : Nat) (f : RingState → RingState) : (c.updRing n f).jobOf i = c.jobOf i := rfl
@[simp] theorem Core.halfSt_updRing (i : Nat) (n : Nat) (f : RingState → RingState) : (c.updRing n f).halfSt i = c.halfSt i := rfl
@[simp] theorem Core.sessionOf_updRing (i : Nat) (n : Nat) (f : RingState → RingState) : (c.updRing n f).sessionOf i = c.sessionOf i := rfl
@[simp] theorem Core.sailOf_updRing (i : Nat) (n : Nat) (f : RingState → RingState) : (c.updRing n f).sailOf i = c.sailOf i := rfl
@[simp] theorem Core.get_updRing (i : Nat) (n : Nat) (f : RingState → RingState) : (c.updRing n f).get i = c.get i := rfl
@[simp] theorem Core.mcOf_updWin (i : Nat) (n : Nat) (f : WinState → WinState) : (c.updWin n f).mcOf i = c.mcOf i := rfl
@[simp] theorem Core.ddrOf_updWin (i : Nat) (n : Nat) (f : WinState → WinState) : (c.updWin n f).ddrOf i = c.ddrOf i := rfl
@[simp] theorem Core.eccOf_updWin (i : Nat) (n : Nat) (f : WinState → WinState) : (c.updWin n f).eccOf i = c.eccOf i := rfl
@[simp] theorem Core.ftOf_updWin (i : Nat) (n : Nat) (f : WinState → WinState) : (c.updWin n f).ftOf i = c.ftOf i := rfl
@[simp] theorem Core.ledgerOf_updWin (i : Nat) (n : Nat) (f : WinState → WinState) : (c.updWin n f).ledgerOf i = c.ledgerOf i := rfl
@[simp] theorem Core.monOf_updWin (i : Nat) (n : Nat) (f : WinState → WinState) : (c.updWin n f).monOf i = c.monOf i := rfl
@[simp] theorem Core.portOf_updWin (i : Nat) (n : Nat) (f : WinState → WinState) : (c.updWin n f).portOf i = c.portOf i := rfl
@[simp] theorem Core.streamOf_updWin (i : Nat) (n : Nat) (f : WinState → WinState) : (c.updWin n f).streamOf i = c.streamOf i := rfl
@[simp] theorem Core.ringOf_updWin (i : Nat) (n : Nat) (f : WinState → WinState) : (c.updWin n f).ringOf i = c.ringOf i := rfl
@[simp] theorem Core.ctxOf_updWin (i : Nat) (n : Nat) (f : WinState → WinState) : (c.updWin n f).ctxOf i = c.ctxOf i := rfl
@[simp] theorem Core.jobOf_updWin (i : Nat) (n : Nat) (f : WinState → WinState) : (c.updWin n f).jobOf i = c.jobOf i := rfl
@[simp] theorem Core.halfSt_updWin (i : Nat) (n : Nat) (f : WinState → WinState) : (c.updWin n f).halfSt i = c.halfSt i := rfl
@[simp] theorem Core.sessionOf_updWin (i : Nat) (n : Nat) (f : WinState → WinState) : (c.updWin n f).sessionOf i = c.sessionOf i := rfl
@[simp] theorem Core.sailOf_updWin (i : Nat) (n : Nat) (f : WinState → WinState) : (c.updWin n f).sailOf i = c.sailOf i := rfl
@[simp] theorem Core.get_updWin (i : Nat) (n : Nat) (f : WinState → WinState) : (c.updWin n f).get i = c.get i := rfl
@[simp] theorem Core.mcOf_updCtx (i : Nat) (n : Nat) (f : CtxState → CtxState) : (c.updCtx n f).mcOf i = c.mcOf i := rfl
@[simp] theorem Core.ddrOf_updCtx (i : Nat) (n : Nat) (f : CtxState → CtxState) : (c.updCtx n f).ddrOf i = c.ddrOf i := rfl
@[simp] theorem Core.eccOf_updCtx (i : Nat) (n : Nat) (f : CtxState → CtxState) : (c.updCtx n f).eccOf i = c.eccOf i := rfl
@[simp] theorem Core.ftOf_updCtx (i : Nat) (n : Nat) (f : CtxState → CtxState) : (c.updCtx n f).ftOf i = c.ftOf i := rfl
@[simp] theorem Core.ledgerOf_updCtx (i : Nat) (n : Nat) (f : CtxState → CtxState) : (c.updCtx n f).ledgerOf i = c.ledgerOf i := rfl
@[simp] theorem Core.monOf_updCtx (i : Nat) (n : Nat) (f : CtxState → CtxState) : (c.updCtx n f).monOf i = c.monOf i := rfl
@[simp] theorem Core.portOf_updCtx (i : Nat) (n : Nat) (f : CtxState → CtxState) : (c.updCtx n f).portOf i = c.portOf i := rfl
@[simp] theorem Core.streamOf_updCtx (i : Nat) (n : Nat) (f : CtxState → CtxState) : (c.updCtx n f).streamOf i = c.streamOf i := rfl
@[simp] theorem Core.ringOf_updCtx (i : Nat) (n : Nat) (f : CtxState → CtxState) : (c.updCtx n f).ringOf i = c.ringOf i := rfl
@[simp] theorem Core.winOf_updCtx (i : Nat) (n : Nat) (f : CtxState → CtxState) : (c.updCtx n f).winOf i = c.winOf i := rfl
@[simp] theorem Core.jobOf_updCtx (i : Nat) (n : Nat) (f : CtxState → CtxState) : (c.updCtx n f).jobOf i = c.jobOf i := rfl
@[simp] theorem Core.halfSt_updCtx (i : Nat) (n : Nat) (f : CtxState → CtxState) : (c.updCtx n f).halfSt i = c.halfSt i := rfl
@[simp] theorem Core.sessionOf_updCtx (i : Nat) (n : Nat) (f : CtxState → CtxState) : (c.updCtx n f).sessionOf i = c.sessionOf i := rfl
@[simp] theorem Core.sailOf_updCtx (i : Nat) (n : Nat) (f : CtxState → CtxState) : (c.updCtx n f).sailOf i = c.sailOf i := rfl
@[simp] theorem Core.get_updCtx (i : Nat) (n : Nat) (f : CtxState → CtxState) : (c.updCtx n f).get i = c.get i := rfl
@[simp] theorem Core.mcOf_updJob (i : Nat) (n : Nat) (f : JobState → JobState) : (c.updJob n f).mcOf i = c.mcOf i := rfl
@[simp] theorem Core.ddrOf_updJob (i : Nat) (n : Nat) (f : JobState → JobState) : (c.updJob n f).ddrOf i = c.ddrOf i := rfl
@[simp] theorem Core.eccOf_updJob (i : Nat) (n : Nat) (f : JobState → JobState) : (c.updJob n f).eccOf i = c.eccOf i := rfl
@[simp] theorem Core.ftOf_updJob (i : Nat) (n : Nat) (f : JobState → JobState) : (c.updJob n f).ftOf i = c.ftOf i := rfl
@[simp] theorem Core.ledgerOf_updJob (i : Nat) (n : Nat) (f : JobState → JobState) : (c.updJob n f).ledgerOf i = c.ledgerOf i := rfl
@[simp] theorem Core.monOf_updJob (i : Nat) (n : Nat) (f : JobState → JobState) : (c.updJob n f).monOf i = c.monOf i := rfl
@[simp] theorem Core.portOf_updJob (i : Nat) (n : Nat) (f : JobState → JobState) : (c.updJob n f).portOf i = c.portOf i := rfl
@[simp] theorem Core.streamOf_updJob (i : Nat) (n : Nat) (f : JobState → JobState) : (c.updJob n f).streamOf i = c.streamOf i := rfl
@[simp] theorem Core.ringOf_updJob (i : Nat) (n : Nat) (f : JobState → JobState) : (c.updJob n f).ringOf i = c.ringOf i := rfl
@[simp] theorem Core.winOf_updJob (i : Nat) (n : Nat) (f : JobState → JobState) : (c.updJob n f).winOf i = c.winOf i := rfl
@[simp] theorem Core.ctxOf_updJob (i : Nat) (n : Nat) (f : JobState → JobState) : (c.updJob n f).ctxOf i = c.ctxOf i := rfl
@[simp] theorem Core.halfSt_updJob (i : Nat) (n : Nat) (f : JobState → JobState) : (c.updJob n f).halfSt i = c.halfSt i := rfl
@[simp] theorem Core.sessionOf_updJob (i : Nat) (n : Nat) (f : JobState → JobState) : (c.updJob n f).sessionOf i = c.sessionOf i := rfl
@[simp] theorem Core.sailOf_updJob (i : Nat) (n : Nat) (f : JobState → JobState) : (c.updJob n f).sailOf i = c.sailOf i := rfl
@[simp] theorem Core.get_updJob (i : Nat) (n : Nat) (f : JobState → JobState) : (c.updJob n f).get i = c.get i := rfl
@[simp] theorem Core.mcOf_updHalf (i : Nat) (n : Nat) (f : HalfState → HalfState) : (c.updHalf n f).mcOf i = c.mcOf i := rfl
@[simp] theorem Core.ddrOf_updHalf (i : Nat) (n : Nat) (f : HalfState → HalfState) : (c.updHalf n f).ddrOf i = c.ddrOf i := rfl
@[simp] theorem Core.eccOf_updHalf (i : Nat) (n : Nat) (f : HalfState → HalfState) : (c.updHalf n f).eccOf i = c.eccOf i := rfl
@[simp] theorem Core.ftOf_updHalf (i : Nat) (n : Nat) (f : HalfState → HalfState) : (c.updHalf n f).ftOf i = c.ftOf i := rfl
@[simp] theorem Core.ledgerOf_updHalf (i : Nat) (n : Nat) (f : HalfState → HalfState) : (c.updHalf n f).ledgerOf i = c.ledgerOf i := rfl
@[simp] theorem Core.monOf_updHalf (i : Nat) (n : Nat) (f : HalfState → HalfState) : (c.updHalf n f).monOf i = c.monOf i := rfl
@[simp] theorem Core.portOf_updHalf (i : Nat) (n : Nat) (f : HalfState → HalfState) : (c.updHalf n f).portOf i = c.portOf i := rfl
@[simp] theorem Core.streamOf_updHalf (i : Nat) (n : Nat) (f : HalfState → HalfState) : (c.updHalf n f).streamOf i = c.streamOf i := rfl
@[simp] theorem Core.ringOf_updHalf (i : Nat) (n : Nat) (f : HalfState → HalfState) : (c.updHalf n f).ringOf i = c.ringOf i := rfl
@[simp] theorem Core.winOf_updHalf (i : Nat) (n : Nat) (f : HalfState → HalfState) : (c.updHalf n f).winOf i = c.winOf i := rfl
@[simp] theorem Core.ctxOf_updHalf (i : Nat) (n : Nat) (f : HalfState → HalfState) : (c.updHalf n f).ctxOf i = c.ctxOf i := rfl
@[simp] theorem Core.jobOf_updHalf (i : Nat) (n : Nat) (f : HalfState → HalfState) : (c.updHalf n f).jobOf i = c.jobOf i := rfl
@[simp] theorem Core.sessionOf_updHalf (i : Nat) (n : Nat) (f : HalfState → HalfState) : (c.updHalf n f).sessionOf i = c.sessionOf i := rfl
@[simp] theorem Core.sailOf_updHalf (i : Nat) (n : Nat) (f : HalfState → HalfState) : (c.updHalf n f).sailOf i = c.sailOf i := rfl
@[simp] theorem Core.get_updHalf (i : Nat) (n : Nat) (f : HalfState → HalfState) : (c.updHalf n f).get i = c.get i := rfl
@[simp] theorem Core.mcOf_updSession (i : Nat) (n : Nat) (f : Session → Session) : (c.updSession n f).mcOf i = c.mcOf i := rfl
@[simp] theorem Core.ddrOf_updSession (i : Nat) (n : Nat) (f : Session → Session) : (c.updSession n f).ddrOf i = c.ddrOf i := rfl
@[simp] theorem Core.eccOf_updSession (i : Nat) (n : Nat) (f : Session → Session) : (c.updSession n f).eccOf i = c.eccOf i := rfl
@[simp] theorem Core.ftOf_updSession (i : Nat) (n : Nat) (f : Session → Session) : (c.updSession n f).ftOf i = c.ftOf i := rfl
@[simp] theorem Core.ledgerOf_updSession (i : Nat) (n : Nat) (f : Session → Session) : (c.updSession n f).ledgerOf i = c.ledgerOf i := rfl
@[simp] theorem Core.monOf_updSession (i : Nat) (n : Nat) (f : Session → Session) : (c.updSession n f).monOf i = c.monOf i := rfl
@[simp] theorem Core.portOf_updSession (i : Nat) (n : Nat) (f : Session → Session) : (c.updSession n f).portOf i = c.portOf i := rfl
@[simp] theorem Core.streamOf_updSession (i : Nat) (n : Nat) (f : Session → Session) : (c.updSession n f).streamOf i = c.streamOf i := rfl
@[simp] theorem Core.ringOf_updSession (i : Nat) (n : Nat) (f : Session → Session) : (c.updSession n f).ringOf i = c.ringOf i := rfl
@[simp] theorem Core.winOf_updSession (i : Nat) (n : Nat) (f : Session → Session) : (c.updSession n f).winOf i = c.winOf i := rfl
@[simp] theorem Core.ctxOf_updSession (i : Nat) (n : Nat) (f : Session → Session) : (c.updSession n f).ctxOf i = c.ctxOf i := rfl
@[simp] theorem Core.jobOf_updSession (i : Nat) (n : Nat) (f : Session → Session) : (c.updSession n f).jobOf i = c.jobOf i := rfl
@[simp] theorem Core.halfSt_updSession (i : Nat) (n : Nat) (f : Session → Session) : (c.updSession n f).halfSt i = c.halfSt i := rfl
@[simp] theorem Core.sailOf_updSession (i : Nat) (n : Nat) (f : Session → Session) : (c.updSession n f).sailOf i = c.sailOf i := rfl
@[simp] theorem Core.get_updSession (i : Nat) (n : Nat) (f : Session → Session) : (c.updSession n f).get i = c.get i := rfl
@[simp] theorem Core.mcOf_updSail (i : Nat) (n : Nat) (f : SailPortState → SailPortState) : (c.updSail n f).mcOf i = c.mcOf i := rfl
@[simp] theorem Core.ddrOf_updSail (i : Nat) (n : Nat) (f : SailPortState → SailPortState) : (c.updSail n f).ddrOf i = c.ddrOf i := rfl
@[simp] theorem Core.eccOf_updSail (i : Nat) (n : Nat) (f : SailPortState → SailPortState) : (c.updSail n f).eccOf i = c.eccOf i := rfl
@[simp] theorem Core.ftOf_updSail (i : Nat) (n : Nat) (f : SailPortState → SailPortState) : (c.updSail n f).ftOf i = c.ftOf i := rfl
@[simp] theorem Core.ledgerOf_updSail (i : Nat) (n : Nat) (f : SailPortState → SailPortState) : (c.updSail n f).ledgerOf i = c.ledgerOf i := rfl
@[simp] theorem Core.monOf_updSail (i : Nat) (n : Nat) (f : SailPortState → SailPortState) : (c.updSail n f).monOf i = c.monOf i := rfl
@[simp] theorem Core.portOf_updSail (i : Nat) (n : Nat) (f : SailPortState → SailPortState) : (c.updSail n f).portOf i = c.portOf i := rfl
@[simp] theorem Core.streamOf_updSail (i : Nat) (n : Nat) (f : SailPortState → SailPortState) : (c.updSail n f).streamOf i = c.streamOf i := rfl
@[simp] theorem Core.ringOf_updSail (i : Nat) (n : Nat) (f : SailPortState → SailPortState) : (c.updSail n f).ringOf i = c.ringOf i := rfl
@[simp] theorem Core.winOf_updSail (i : Nat) (n : Nat) (f : SailPortState → SailPortState) : (c.updSail n f).winOf i = c.winOf i := rfl
@[simp] theorem Core.ctxOf_updSail (i : Nat) (n : Nat) (f : SailPortState → SailPortState) : (c.updSail n f).ctxOf i = c.ctxOf i := rfl
@[simp] theorem Core.jobOf_updSail (i : Nat) (n : Nat) (f : SailPortState → SailPortState) : (c.updSail n f).jobOf i = c.jobOf i := rfl
@[simp] theorem Core.halfSt_updSail (i : Nat) (n : Nat) (f : SailPortState → SailPortState) : (c.updSail n f).halfSt i = c.halfSt i := rfl
@[simp] theorem Core.sessionOf_updSail (i : Nat) (n : Nat) (f : SailPortState → SailPortState) : (c.updSail n f).sessionOf i = c.sessionOf i := rfl
@[simp] theorem Core.get_updSail (i : Nat) (n : Nat) (f : SailPortState → SailPortState) : (c.updSail n f).get i = c.get i := rfl
@[simp] theorem Core.mcOf_withDecisions (i : Nat) (v : List Decision) : (c.withDecisions v).mcOf i = c.mcOf i := rfl
@[simp] theorem Core.ddrOf_withDecisions (i : Nat) (v : List Decision) : (c.withDecisions v).ddrOf i = c.ddrOf i := rfl
@[simp] theorem Core.eccOf_withDecisions (i : Nat) (v : List Decision) : (c.withDecisions v).eccOf i = c.eccOf i := rfl
@[simp] theorem Core.ftOf_withDecisions (i : Nat) (v : List Decision) : (c.withDecisions v).ftOf i = c.ftOf i := rfl
@[simp] theorem Core.ledgerOf_withDecisions (i : Nat) (v : List Decision) : (c.withDecisions v).ledgerOf i = c.ledgerOf i := rfl
@[simp] theorem Core.monOf_withDecisions (i : Nat) (v : List Decision) : (c.withDecisions v).monOf i = c.monOf i := rfl
@[simp] theorem Core.portOf_withDecisions (i : Nat) (v : List Decision) : (c.withDecisions v).portOf i = c.portOf i := rfl
@[simp] theorem Core.streamOf_withDecisions (i : Nat) (v : List Decision) : (c.withDecisions v).streamOf i = c.streamOf i := rfl
@[simp] theorem Core.ringOf_withDecisions (i : Nat) (v : List Decision) : (c.withDecisions v).ringOf i = c.ringOf i := rfl
@[simp] theorem Core.winOf_withDecisions (i : Nat) (v : List Decision) : (c.withDecisions v).winOf i = c.winOf i := rfl
@[simp] theorem Core.ctxOf_withDecisions (i : Nat) (v : List Decision) : (c.withDecisions v).ctxOf i = c.ctxOf i := rfl
@[simp] theorem Core.jobOf_withDecisions (i : Nat) (v : List Decision) : (c.withDecisions v).jobOf i = c.jobOf i := rfl
@[simp] theorem Core.halfSt_withDecisions (i : Nat) (v : List Decision) : (c.withDecisions v).halfSt i = c.halfSt i := rfl
@[simp] theorem Core.sessionOf_withDecisions (i : Nat) (v : List Decision) : (c.withDecisions v).sessionOf i = c.sessionOf i := rfl
@[simp] theorem Core.sailOf_withDecisions (i : Nat) (v : List Decision) : (c.withDecisions v).sailOf i = c.sailOf i := rfl
@[simp] theorem Core.get_withDecisions (i : Nat) (v : List Decision) : (c.withDecisions v).get i = c.get i := rfl
@[simp] theorem Core.mcOf_withDll (i : Nat) (v : Tbl (Int × Nat)) : (c.withDll v).mcOf i = c.mcOf i := rfl
@[simp] theorem Core.ddrOf_withDll (i : Nat) (v : Tbl (Int × Nat)) : (c.withDll v).ddrOf i = c.ddrOf i := rfl
@[simp] theorem Core.eccOf_withDll (i : Nat) (v : Tbl (Int × Nat)) : (c.withDll v).eccOf i = c.eccOf i := rfl
@[simp] theorem Core.ftOf_withDll (i : Nat) (v : Tbl (Int × Nat)) : (c.withDll v).ftOf i = c.ftOf i := rfl
@[simp] theorem Core.ledgerOf_withDll (i : Nat) (v : Tbl (Int × Nat)) : (c.withDll v).ledgerOf i = c.ledgerOf i := rfl
@[simp] theorem Core.monOf_withDll (i : Nat) (v : Tbl (Int × Nat)) : (c.withDll v).monOf i = c.monOf i := rfl
@[simp] theorem Core.portOf_withDll (i : Nat) (v : Tbl (Int × Nat)) : (c.withDll v).portOf i = c.portOf i := rfl
@[simp] theorem Core.streamOf_withDll (i : Nat) (v : Tbl (Int × Nat)) : (c.withDll v).streamOf i = c.streamOf i := rfl
@[simp] theorem Core.ringOf_withDll (i : Nat) (v : Tbl (Int × Nat)) : (c.withDll v).ringOf i = c.ringOf i := rfl
@[simp] theorem Core.winOf_withDll (i : Nat) (v : Tbl (Int × Nat)) : (c.withDll v).winOf i = c.winOf i := rfl
@[simp] theorem Core.ctxOf_withDll (i : Nat) (v : Tbl (Int × Nat)) : (c.withDll v).ctxOf i = c.ctxOf i := rfl
@[simp] theorem Core.jobOf_withDll (i : Nat) (v : Tbl (Int × Nat)) : (c.withDll v).jobOf i = c.jobOf i := rfl
@[simp] theorem Core.halfSt_withDll (i : Nat) (v : Tbl (Int × Nat)) : (c.withDll v).halfSt i = c.halfSt i := rfl
@[simp] theorem Core.sessionOf_withDll (i : Nat) (v : Tbl (Int × Nat)) : (c.withDll v).sessionOf i = c.sessionOf i := rfl
@[simp] theorem Core.sailOf_withDll (i : Nat) (v : Tbl (Int × Nat)) : (c.withDll v).sailOf i = c.sailOf i := rfl
@[simp] theorem Core.get_withDll (i : Nat) (v : Tbl (Int × Nat)) : (c.withDll v).get i = c.get i := rfl
@[simp] theorem Core.mcOf_withFc (i : Nat) (v : FcState) : (c.withFc v).mcOf i = c.mcOf i := rfl
@[simp] theorem Core.ddrOf_withFc (i : Nat) (v : FcState) : (c.withFc v).ddrOf i = c.ddrOf i := rfl
@[simp] theorem Core.eccOf_withFc (i : Nat) (v : FcState) : (c.withFc v).eccOf i = c.eccOf i := rfl
@[simp] theorem Core.ftOf_withFc (i : Nat) (v : FcState) : (c.withFc v).ftOf i = c.ftOf i := rfl
@[simp] theorem Core.ledgerOf_withFc (i : Nat) (v : FcState) : (c.withFc v).ledgerOf i = c.ledgerOf i := rfl
@[simp] theorem Core.monOf_withFc (i : Nat) (v : FcState) : (c.withFc v).monOf i = c.monOf i := rfl
@[simp] theorem Core.portOf_withFc (i : Nat) (v : FcState) : (c.withFc v).portOf i = c.portOf i := rfl
@[simp] theorem Core.streamOf_withFc (i : Nat) (v : FcState) : (c.withFc v).streamOf i = c.streamOf i := rfl
@[simp] theorem Core.ringOf_withFc (i : Nat) (v : FcState) : (c.withFc v).ringOf i = c.ringOf i := rfl
@[simp] theorem Core.winOf_withFc (i : Nat) (v : FcState) : (c.withFc v).winOf i = c.winOf i := rfl
@[simp] theorem Core.ctxOf_withFc (i : Nat) (v : FcState) : (c.withFc v).ctxOf i = c.ctxOf i := rfl
@[simp] theorem Core.jobOf_withFc (i : Nat) (v : FcState) : (c.withFc v).jobOf i = c.jobOf i := rfl
@[simp] theorem Core.halfSt_withFc (i : Nat) (v : FcState) : (c.withFc v).halfSt i = c.halfSt i := rfl
@[simp] theorem Core.sessionOf_withFc (i : Nat) (v : FcState) : (c.withFc v).sessionOf i = c.sessionOf i := rfl
@[simp] theorem Core.sailOf_withFc (i : Nat) (v : FcState) : (c.withFc v).sailOf i = c.sailOf i := rfl
@[simp] theorem Core.get_withFc (i : Nat) (v : FcState) : (c.withFc v).get i = c.get i := rfl
@[simp] theorem Core.mcOf_withSeq (i : Nat) (v : SeqState) : (c.withSeq v).mcOf i = c.mcOf i := rfl
@[simp] theorem Core.ddrOf_withSeq (i : Nat) (v : SeqState) : (c.withSeq v).ddrOf i = c.ddrOf i := rfl
@[simp] theorem Core.eccOf_withSeq (i : Nat) (v : SeqState) : (c.withSeq v).eccOf i = c.eccOf i := rfl
@[simp] theorem Core.ftOf_withSeq (i : Nat) (v : SeqState) : (c.withSeq v).ftOf i = c.ftOf i := rfl
@[simp] theorem Core.ledgerOf_withSeq (i : Nat) (v : SeqState) : (c.withSeq v).ledgerOf i = c.ledgerOf i := rfl
@[simp] theorem Core.monOf_withSeq (i : Nat) (v : SeqState) : (c.withSeq v).monOf i = c.monOf i := rfl
@[simp] theorem Core.portOf_withSeq (i : Nat) (v : SeqState) : (c.withSeq v).portOf i = c.portOf i := rfl
@[simp] theorem Core.streamOf_withSeq (i : Nat) (v : SeqState) : (c.withSeq v).streamOf i = c.streamOf i := rfl
@[simp] theorem Core.ringOf_withSeq (i : Nat) (v : SeqState) : (c.withSeq v).ringOf i = c.ringOf i := rfl
@[simp] theorem Core.winOf_withSeq (i : Nat) (v : SeqState) : (c.withSeq v).winOf i = c.winOf i := rfl
@[simp] theorem Core.ctxOf_withSeq (i : Nat) (v : SeqState) : (c.withSeq v).ctxOf i = c.ctxOf i := rfl
@[simp] theorem Core.jobOf_withSeq (i : Nat) (v : SeqState) : (c.withSeq v).jobOf i = c.jobOf i := rfl
@[simp] theorem Core.halfSt_withSeq (i : Nat) (v : SeqState) : (c.withSeq v).halfSt i = c.halfSt i := rfl
@[simp] theorem Core.sessionOf_withSeq (i : Nat) (v : SeqState) : (c.withSeq v).sessionOf i = c.sessionOf i := rfl
@[simp] theorem Core.sailOf_withSeq (i : Nat) (v : SeqState) : (c.withSeq v).sailOf i = c.sailOf i := rfl
@[simp] theorem Core.get_withSeq (i : Nat) (v : SeqState) : (c.withSeq v).get i = c.get i := rfl
@[simp] theorem Core.mcOf_withStart (i : Nat) (v : Option StartRun) : (c.withStart v).mcOf i = c.mcOf i := rfl
@[simp] theorem Core.ddrOf_withStart (i : Nat) (v : Option StartRun) : (c.withStart v).ddrOf i = c.ddrOf i := rfl
@[simp] theorem Core.eccOf_withStart (i : Nat) (v : Option StartRun) : (c.withStart v).eccOf i = c.eccOf i := rfl
@[simp] theorem Core.ftOf_withStart (i : Nat) (v : Option StartRun) : (c.withStart v).ftOf i = c.ftOf i := rfl
@[simp] theorem Core.ledgerOf_withStart (i : Nat) (v : Option StartRun) : (c.withStart v).ledgerOf i = c.ledgerOf i := rfl
@[simp] theorem Core.monOf_withStart (i : Nat) (v : Option StartRun) : (c.withStart v).monOf i = c.monOf i := rfl
@[simp] theorem Core.portOf_withStart (i : Nat) (v : Option StartRun) : (c.withStart v).portOf i = c.portOf i := rfl
@[simp] theorem Core.streamOf_withStart (i : Nat) (v : Option StartRun) : (c.withStart v).streamOf i = c.streamOf i := rfl
@[simp] theorem Core.ringOf_withStart (i : Nat) (v : Option StartRun) : (c.withStart v).ringOf i = c.ringOf i := rfl
@[simp] theorem Core.winOf_withStart (i : Nat) (v : Option StartRun) : (c.withStart v).winOf i = c.winOf i := rfl
@[simp] theorem Core.ctxOf_withStart (i : Nat) (v : Option StartRun) : (c.withStart v).ctxOf i = c.ctxOf i := rfl
@[simp] theorem Core.jobOf_withStart (i : Nat) (v : Option StartRun) : (c.withStart v).jobOf i = c.jobOf i := rfl
@[simp] theorem Core.halfSt_withStart (i : Nat) (v : Option StartRun) : (c.withStart v).halfSt i = c.halfSt i := rfl
@[simp] theorem Core.sessionOf_withStart (i : Nat) (v : Option StartRun) : (c.withStart v).sessionOf i = c.sessionOf i := rfl
@[simp] theorem Core.sailOf_withStart (i : Nat) (v : Option StartRun) : (c.withStart v).sailOf i = c.sailOf i := rfl
@[simp] theorem Core.get_withStart (i : Nat) (v : Option StartRun) : (c.withStart v).get i = c.get i := rfl
@[simp] theorem Core.mcOf_withEccSeq (i : Nat) (v : Nat) : (c.withEccSeq v).mcOf i = c.mcOf i := rfl
@[simp] theorem Core.ddrOf_withEccSeq (i : Nat) (v : Nat) : (c.withEccSeq v).ddrOf i = c.ddrOf i := rfl
@[simp] theorem Core.eccOf_withEccSeq (i : Nat) (v : Nat) : (c.withEccSeq v).eccOf i = c.eccOf i := rfl
@[simp] theorem Core.ftOf_withEccSeq (i : Nat) (v : Nat) : (c.withEccSeq v).ftOf i = c.ftOf i := rfl
@[simp] theorem Core.ledgerOf_withEccSeq (i : Nat) (v : Nat) : (c.withEccSeq v).ledgerOf i = c.ledgerOf i := rfl
@[simp] theorem Core.monOf_withEccSeq (i : Nat) (v : Nat) : (c.withEccSeq v).monOf i = c.monOf i := rfl
@[simp] theorem Core.portOf_withEccSeq (i : Nat) (v : Nat) : (c.withEccSeq v).portOf i = c.portOf i := rfl
@[simp] theorem Core.streamOf_withEccSeq (i : Nat) (v : Nat) : (c.withEccSeq v).streamOf i = c.streamOf i := rfl
@[simp] theorem Core.ringOf_withEccSeq (i : Nat) (v : Nat) : (c.withEccSeq v).ringOf i = c.ringOf i := rfl
@[simp] theorem Core.winOf_withEccSeq (i : Nat) (v : Nat) : (c.withEccSeq v).winOf i = c.winOf i := rfl
@[simp] theorem Core.ctxOf_withEccSeq (i : Nat) (v : Nat) : (c.withEccSeq v).ctxOf i = c.ctxOf i := rfl
@[simp] theorem Core.jobOf_withEccSeq (i : Nat) (v : Nat) : (c.withEccSeq v).jobOf i = c.jobOf i := rfl
@[simp] theorem Core.halfSt_withEccSeq (i : Nat) (v : Nat) : (c.withEccSeq v).halfSt i = c.halfSt i := rfl
@[simp] theorem Core.sessionOf_withEccSeq (i : Nat) (v : Nat) : (c.withEccSeq v).sessionOf i = c.sessionOf i := rfl
@[simp] theorem Core.sailOf_withEccSeq (i : Nat) (v : Nat) : (c.withEccSeq v).sailOf i = c.sailOf i := rfl
@[simp] theorem Core.get_withEccSeq (i : Nat) (v : Nat) : (c.withEccSeq v).get i = c.get i := rfl
@[simp] theorem Core.mcOf_withOut (i : Nat) (v : List Out) : (c.withOut v).mcOf i = c.mcOf i := rfl
@[simp] theorem Core.ddrOf_withOut (i : Nat) (v : List Out) : (c.withOut v).ddrOf i = c.ddrOf i := rfl
@[simp] theorem Core.eccOf_withOut (i : Nat) (v : List Out) : (c.withOut v).eccOf i = c.eccOf i := rfl
@[simp] theorem Core.ftOf_withOut (i : Nat) (v : List Out) : (c.withOut v).ftOf i = c.ftOf i := rfl
@[simp] theorem Core.ledgerOf_withOut (i : Nat) (v : List Out) : (c.withOut v).ledgerOf i = c.ledgerOf i := rfl
@[simp] theorem Core.monOf_withOut (i : Nat) (v : List Out) : (c.withOut v).monOf i = c.monOf i := rfl
@[simp] theorem Core.portOf_withOut (i : Nat) (v : List Out) : (c.withOut v).portOf i = c.portOf i := rfl
@[simp] theorem Core.streamOf_withOut (i : Nat) (v : List Out) : (c.withOut v).streamOf i = c.streamOf i := rfl
@[simp] theorem Core.ringOf_withOut (i : Nat) (v : List Out) : (c.withOut v).ringOf i = c.ringOf i := rfl
@[simp] theorem Core.winOf_withOut (i : Nat) (v : List Out) : (c.withOut v).winOf i = c.winOf i := rfl
@[simp] theorem Core.ctxOf_withOut (i : Nat) (v : List Out) : (c.withOut v).ctxOf i = c.ctxOf i := rfl
@[simp] theorem Core.jobOf_withOut (i : Nat) (v : List Out) : (c.withOut v).jobOf i = c.jobOf i := rfl
@[simp] theorem Core.halfSt_withOut (i : Nat) (v : List Out) : (c.withOut v).halfSt i = c.halfSt i := rfl
@[simp] theorem Core.sessionOf_withOut (i : Nat) (v : List Out) : (c.withOut v).sessionOf i = c.sessionOf i := rfl
@[simp] theorem Core.sailOf_withOut (i : Nat) (v : List Out) : (c.withOut v).sailOf i = c.sailOf i := rfl
@[simp] theorem Core.get_withOut (i : Nat) (v : List Out) : (c.withOut v).get i = c.get i := rfl
@[simp] theorem Core.mcOf_withReq (i : Nat) (v : List Req) : (c.withReq v).mcOf i = c.mcOf i := rfl
@[simp] theorem Core.ddrOf_withReq (i : Nat) (v : List Req) : (c.withReq v).ddrOf i = c.ddrOf i := rfl
@[simp] theorem Core.eccOf_withReq (i : Nat) (v : List Req) : (c.withReq v).eccOf i = c.eccOf i := rfl
@[simp] theorem Core.ftOf_withReq (i : Nat) (v : List Req) : (c.withReq v).ftOf i = c.ftOf i := rfl
@[simp] theorem Core.ledgerOf_withReq (i : Nat) (v : List Req) : (c.withReq v).ledgerOf i = c.ledgerOf i := rfl
@[simp] theorem Core.monOf_withReq (i : Nat) (v : List Req) : (c.withReq v).monOf i = c.monOf i := rfl
@[simp] theorem Core.portOf_withReq (i : Nat) (v : List Req) : (c.withReq v).portOf i = c.portOf i := rfl
@[simp] theorem Core.streamOf_withReq (i : Nat) (v : List Req) : (c.withReq v).streamOf i = c.streamOf i := rfl
@[simp] theorem Core.ringOf_withReq (i : Nat) (v : List Req) : (c.withReq v).ringOf i = c.ringOf i := rfl
@[simp] theorem Core.winOf_withReq (i : Nat) (v : List Req) : (c.withReq v).winOf i = c.winOf i := rfl
@[simp] theorem Core.ctxOf_withReq (i : Nat) (v : List Req) : (c.withReq v).ctxOf i = c.ctxOf i := rfl
@[simp] theorem Core.jobOf_withReq (i : Nat) (v : List Req) : (c.withReq v).jobOf i = c.jobOf i := rfl
@[simp] theorem Core.halfSt_withReq (i : Nat) (v : List Req) : (c.withReq v).halfSt i = c.halfSt i := rfl
@[simp] theorem Core.sessionOf_withReq (i : Nat) (v : List Req) : (c.withReq v).sessionOf i = c.sessionOf i := rfl
@[simp] theorem Core.sailOf_withReq (i : Nat) (v : List Req) : (c.withReq v).sailOf i = c.sailOf i := rfl
@[simp] theorem Core.get_withReq (i : Nat) (v : List Req) : (c.withReq v).get i = c.get i := rfl
@[simp] theorem Core.mcOf_withCheckpoints (i : Nat) (v : List (Nat × Nat)) : (c.withCheckpoints v).mcOf i = c.mcOf i := rfl
@[simp] theorem Core.ddrOf_withCheckpoints (i : Nat) (v : List (Nat × Nat)) : (c.withCheckpoints v).ddrOf i = c.ddrOf i := rfl
@[simp] theorem Core.eccOf_withCheckpoints (i : Nat) (v : List (Nat × Nat)) : (c.withCheckpoints v).eccOf i = c.eccOf i := rfl
@[simp] theorem Core.ftOf_withCheckpoints (i : Nat) (v : List (Nat × Nat)) : (c.withCheckpoints v).ftOf i = c.ftOf i := rfl
@[simp] theorem Core.ledgerOf_withCheckpoints (i : Nat) (v : List (Nat × Nat)) : (c.withCheckpoints v).ledgerOf i = c.ledgerOf i := rfl
@[simp] theorem Core.monOf_withCheckpoints (i : Nat) (v : List (Nat × Nat)) : (c.withCheckpoints v).monOf i = c.monOf i := rfl
@[simp] theorem Core.portOf_withCheckpoints (i : Nat) (v : List (Nat × Nat)) : (c.withCheckpoints v).portOf i = c.portOf i := rfl
@[simp] theorem Core.streamOf_withCheckpoints (i : Nat) (v : List (Nat × Nat)) : (c.withCheckpoints v).streamOf i = c.streamOf i := rfl
@[simp] theorem Core.ringOf_withCheckpoints (i : Nat) (v : List (Nat × Nat)) : (c.withCheckpoints v).ringOf i = c.ringOf i := rfl
@[simp] theorem Core.winOf_withCheckpoints (i : Nat) (v : List (Nat × Nat)) : (c.withCheckpoints v).winOf i = c.winOf i := rfl
@[simp] theorem Core.ctxOf_withCheckpoints (i : Nat) (v : List (Nat × Nat)) : (c.withCheckpoints v).ctxOf i = c.ctxOf i := rfl
@[simp] theorem Core.jobOf_withCheckpoints (i : Nat) (v : List (Nat × Nat)) : (c.withCheckpoints v).jobOf i = c.jobOf i := rfl
@[simp] theorem Core.halfSt_withCheckpoints (i : Nat) (v : List (Nat × Nat)) : (c.withCheckpoints v).halfSt i = c.halfSt i := rfl
@[simp] theorem Core.sessionOf_withCheckpoints (i : Nat) (v : List (Nat × Nat)) : (c.withCheckpoints v).sessionOf i = c.sessionOf i := rfl
@[simp] theorem Core.sailOf_withCheckpoints (i : Nat) (v : List (Nat × Nat)) : (c.withCheckpoints v).sailOf i = c.sailOf i := rfl
@[simp] theorem Core.get_withCheckpoints (i : Nat) (v : List (Nat × Nat)) : (c.withCheckpoints v).get i = c.get i := rfl
@[simp] theorem Core.mcOf_withFreeing (i : Nat) (v : Tbl Nat) : (c.withFreeing v).mcOf i = c.mcOf i := rfl
@[simp] theorem Core.ddrOf_withFreeing (i : Nat) (v : Tbl Nat) : (c.withFreeing v).ddrOf i = c.ddrOf i := rfl
@[simp] theorem Core.eccOf_withFreeing (i : Nat) (v : Tbl Nat) : (c.withFreeing v).eccOf i = c.eccOf i := rfl
@[simp] theorem Core.ftOf_withFreeing (i : Nat) (v : Tbl Nat) : (c.withFreeing v).ftOf i = c.ftOf i := rfl
@[simp] theorem Core.ledgerOf_withFreeing (i : Nat) (v : Tbl Nat) : (c.withFreeing v).ledgerOf i = c.ledgerOf i := rfl
@[simp] theorem Core.monOf_withFreeing (i : Nat) (v : Tbl Nat) : (c.withFreeing v).monOf i = c.monOf i := rfl
@[simp] theorem Core.portOf_withFreeing (i : Nat) (v : Tbl Nat) : (c.withFreeing v).portOf i = c.portOf i := rfl
@[simp] theorem Core.streamOf_withFreeing (i : Nat) (v : Tbl Nat) : (c.withFreeing v).streamOf i = c.streamOf i := rfl
@[simp] theorem Core.ringOf_withFreeing (i : Nat) (v : Tbl Nat) : (c.withFreeing v).ringOf i = c.ringOf i := rfl
@[simp] theorem Core.winOf_withFreeing (i : Nat) (v : Tbl Nat) : (c.withFreeing v).winOf i = c.winOf i := rfl
@[simp] theorem Core.ctxOf_withFreeing (i : Nat) (v : Tbl Nat) : (c.withFreeing v).ctxOf i = c.ctxOf i := rfl
@[simp] theorem Core.jobOf_withFreeing (i : Nat) (v : Tbl Nat) : (c.withFreeing v).jobOf i = c.jobOf i := rfl
@[simp] theorem Core.halfSt_withFreeing (i : Nat) (v : Tbl Nat) : (c.withFreeing v).halfSt i = c.halfSt i := rfl
@[simp] theorem Core.sessionOf_withFreeing (i : Nat) (v : Tbl Nat) : (c.withFreeing v).sessionOf i = c.sessionOf i := rfl
@[simp] theorem Core.sailOf_withFreeing (i : Nat) (v : Tbl Nat) : (c.withFreeing v).sailOf i = c.sailOf i := rfl
@[simp] theorem Core.get_withFreeing (i : Nat) (v : Tbl Nat) : (c.withFreeing v).get i = c.get i := rfl
@[simp] theorem Core.mcOf_withChainFails (i : Nat) (v : Nat) : (c.withChainFails v).mcOf i = c.mcOf i := rfl
@[simp] theorem Core.ddrOf_withChainFails (i : Nat) (v : Nat) : (c.withChainFails v).ddrOf i = c.ddrOf i := rfl
@[simp] theorem Core.eccOf_withChainFails (i : Nat) (v : Nat) : (c.withChainFails v).eccOf i = c.eccOf i := rfl
@[simp] theorem Core.ftOf_withChainFails (i : Nat) (v : Nat) : (c.withChainFails v).ftOf i = c.ftOf i := rfl
@[simp] theorem Core.ledgerOf_withChainFails (i : Nat) (v : Nat) : (c.withChainFails v).ledgerOf i = c.ledgerOf i := rfl
@[simp] theorem Core.monOf_withChainFails (i : Nat) (v : Nat) : (c.withChainFails v).monOf i = c.monOf i := rfl
@[simp] theorem Core.portOf_withChainFails (i : Nat) (v : Nat) : (c.withChainFails v).portOf i = c.portOf i := rfl
@[simp] theorem Core.streamOf_withChainFails (i : Nat) (v : Nat) : (c.withChainFails v).streamOf i = c.streamOf i := rfl
@[simp] theorem Core.ringOf_withChainFails (i : Nat) (v : Nat) : (c.withChainFails v).ringOf i = c.ringOf i := rfl
@[simp] theorem Core.winOf_withChainFails (i : Nat) (v : Nat) : (c.withChainFails v).winOf i = c.winOf i := rfl
@[simp] theorem Core.ctxOf_withChainFails (i : Nat) (v : Nat) : (c.withChainFails v).ctxOf i = c.ctxOf i := rfl
@[simp] theorem Core.jobOf_withChainFails (i : Nat) (v : Nat) : (c.withChainFails v).jobOf i = c.jobOf i := rfl
@[simp] theorem Core.halfSt_withChainFails (i : Nat) (v : Nat) : (c.withChainFails v).halfSt i = c.halfSt i := rfl
@[simp] theorem Core.sessionOf_withChainFails (i : Nat) (v : Nat) : (c.withChainFails v).sessionOf i = c.sessionOf i := rfl
@[simp] theorem Core.sailOf_withChainFails (i : Nat) (v : Nat) : (c.withChainFails v).sailOf i = c.sailOf i := rfl
@[simp] theorem Core.get_withChainFails (i : Nat) (v : Nat) : (c.withChainFails v).get i = c.get i := rfl
@[simp] theorem Core.mcOf_withObjs (i : Nat) (v : Tbl Nat) : (c.withObjs v).mcOf i = c.mcOf i := rfl
@[simp] theorem Core.ddrOf_withObjs (i : Nat) (v : Tbl Nat) : (c.withObjs v).ddrOf i = c.ddrOf i := rfl
@[simp] theorem Core.eccOf_withObjs (i : Nat) (v : Tbl Nat) : (c.withObjs v).eccOf i = c.eccOf i := rfl
@[simp] theorem Core.ftOf_withObjs (i : Nat) (v : Tbl Nat) : (c.withObjs v).ftOf i = c.ftOf i := rfl
@[simp] theorem Core.ledgerOf_withObjs (i : Nat) (v : Tbl Nat) : (c.withObjs v).ledgerOf i = c.ledgerOf i := rfl
@[simp] theorem Core.monOf_withObjs (i : Nat) (v : Tbl Nat) : (c.withObjs v).monOf i = c.monOf i := rfl
@[simp] theorem Core.portOf_withObjs (i : Nat) (v : Tbl Nat) : (c.withObjs v).portOf i = c.portOf i := rfl
@[simp] theorem Core.streamOf_withObjs (i : Nat) (v : Tbl Nat) : (c.withObjs v).streamOf i = c.streamOf i := rfl
@[simp] theorem Core.ringOf_withObjs (i : Nat) (v : Tbl Nat) : (c.withObjs v).ringOf i = c.ringOf i := rfl
@[simp] theorem Core.winOf_withObjs (i : Nat) (v : Tbl Nat) : (c.withObjs v).winOf i = c.winOf i := rfl
@[simp] theorem Core.ctxOf_withObjs (i : Nat) (v : Tbl Nat) : (c.withObjs v).ctxOf i = c.ctxOf i := rfl
@[simp] theorem Core.jobOf_withObjs (i : Nat) (v : Tbl Nat) : (c.withObjs v).jobOf i = c.jobOf i := rfl
@[simp] theorem Core.halfSt_withObjs (i : Nat) (v : Tbl Nat) : (c.withObjs v).halfSt i = c.halfSt i := rfl
@[simp] theorem Core.sessionOf_withObjs (i : Nat) (v : Tbl Nat) : (c.withObjs v).sessionOf i = c.sessionOf i := rfl
@[simp] theorem Core.sailOf_withObjs (i : Nat) (v : Tbl Nat) : (c.withObjs v).sailOf i = c.sailOf i := rfl
@[simp] theorem Core.mcOf_withThrottled (i : Nat) (v : Bool) : (c.withThrottled v).mcOf i = c.mcOf i := rfl
@[simp] theorem Core.ddrOf_withThrottled (i : Nat) (v : Bool) : (c.withThrottled v).ddrOf i = c.ddrOf i := rfl
@[simp] theorem Core.eccOf_withThrottled (i : Nat) (v : Bool) : (c.withThrottled v).eccOf i = c.eccOf i := rfl
@[simp] theorem Core.ftOf_withThrottled (i : Nat) (v : Bool) : (c.withThrottled v).ftOf i = c.ftOf i := rfl
@[simp] theorem Core.ledgerOf_withThrottled (i : Nat) (v : Bool) : (c.withThrottled v).ledgerOf i = c.ledgerOf i := rfl
@[simp] theorem Core.monOf_withThrottled (i : Nat) (v : Bool) : (c.withThrottled v).monOf i = c.monOf i := rfl
@[simp] theorem Core.portOf_withThrottled (i : Nat) (v : Bool) : (c.withThrottled v).portOf i = c.portOf i := rfl
@[simp] theorem Core.streamOf_withThrottled (i : Nat) (v : Bool) : (c.withThrottled v).streamOf i = c.streamOf i := rfl
@[simp] theorem Core.ringOf_withThrottled (i : Nat) (v : Bool) : (c.withThrottled v).ringOf i = c.ringOf i := rfl
@[simp] theorem Core.winOf_withThrottled (i : Nat) (v : Bool) : (c.withThrottled v).winOf i = c.winOf i := rfl
@[simp] theorem Core.ctxOf_withThrottled (i : Nat) (v : Bool) : (c.withThrottled v).ctxOf i = c.ctxOf i := rfl
@[simp] theorem Core.jobOf_withThrottled (i : Nat) (v : Bool) : (c.withThrottled v).jobOf i = c.jobOf i := rfl
@[simp] theorem Core.halfSt_withThrottled (i : Nat) (v : Bool) : (c.withThrottled v).halfSt i = c.halfSt i := rfl
@[simp] theorem Core.sessionOf_withThrottled (i : Nat) (v : Bool) : (c.withThrottled v).sessionOf i = c.sessionOf i := rfl
@[simp] theorem Core.sailOf_withThrottled (i : Nat) (v : Bool) : (c.withThrottled v).sailOf i = c.sailOf i := rfl
@[simp] theorem Core.get_withThrottled (i : Nat) (v : Bool) : (c.withThrottled v).get i = c.get i := rfl
@[simp] theorem Core.mcOf_withOverHigh (i : Nat) (v : Bool) : (c.withOverHigh v).mcOf i = c.mcOf i := rfl
@[simp] theorem Core.ddrOf_withOverHigh (i : Nat) (v : Bool) : (c.withOverHigh v).ddrOf i = c.ddrOf i := rfl
@[simp] theorem Core.eccOf_withOverHigh (i : Nat) (v : Bool) : (c.withOverHigh v).eccOf i = c.eccOf i := rfl
@[simp] theorem Core.ftOf_withOverHigh (i : Nat) (v : Bool) : (c.withOverHigh v).ftOf i = c.ftOf i := rfl
@[simp] theorem Core.ledgerOf_withOverHigh (i : Nat) (v : Bool) : (c.withOverHigh v).ledgerOf i = c.ledgerOf i := rfl
@[simp] theorem Core.monOf_withOverHigh (i : Nat) (v : Bool) : (c.withOverHigh v).monOf i = c.monOf i := rfl
@[simp] theorem Core.portOf_withOverHigh (i : Nat) (v : Bool) : (c.withOverHigh v).portOf i = c.portOf i := rfl
@[simp] theorem Core.streamOf_withOverHigh (i : Nat) (v : Bool) : (c.withOverHigh v).streamOf i = c.streamOf i := rfl
@[simp] theorem Core.ringOf_withOverHigh (i : Nat) (v : Bool) : (c.withOverHigh v).ringOf i = c.ringOf i := rfl
@[simp] theorem Core.winOf_withOverHigh (i : Nat) (v : Bool) : (c.withOverHigh v).winOf i = c.winOf i := rfl
@[simp] theorem Core.ctxOf_withOverHigh (i : Nat) (v : Bool) : (c.withOverHigh v).ctxOf i = c.ctxOf i := rfl
@[simp] theorem Core.jobOf_withOverHigh (i : Nat) (v : Bool) : (c.withOverHigh v).jobOf i = c.jobOf i := rfl
@[simp] theorem Core.halfSt_withOverHigh (i : Nat) (v : Bool) : (c.withOverHigh v).halfSt i = c.halfSt i := rfl
@[simp] theorem Core.sessionOf_withOverHigh (i : Nat) (v : Bool) : (c.withOverHigh v).sessionOf i = c.sessionOf i := rfl
@[simp] theorem Core.sailOf_withOverHigh (i : Nat) (v : Bool) : (c.withOverHigh v).sailOf i = c.sailOf i := rfl
@[simp] theorem Core.get_withOverHigh (i : Nat) (v : Bool) : (c.withOverHigh v).get i = c.get i := rfl
@[simp] theorem Core.mcOf_withCache (i : Nat) (v : List CacheLine) : (c.withCache v).mcOf i = c.mcOf i := rfl
@[simp] theorem Core.ddrOf_withCache (i : Nat) (v : List CacheLine) : (c.withCache v).ddrOf i = c.ddrOf i := rfl
@[simp] theorem Core.eccOf_withCache (i : Nat) (v : List CacheLine) : (c.withCache v).eccOf i = c.eccOf i := rfl
@[simp] theorem Core.ftOf_withCache (i : Nat) (v : List CacheLine) : (c.withCache v).ftOf i = c.ftOf i := rfl
@[simp] theorem Core.ledgerOf_withCache (i : Nat) (v : List CacheLine) : (c.withCache v).ledgerOf i = c.ledgerOf i := rfl
@[simp] theorem Core.monOf_withCache (i : Nat) (v : List CacheLine) : (c.withCache v).monOf i = c.monOf i := rfl
@[simp] theorem Core.portOf_withCache (i : Nat) (v : List CacheLine) : (c.withCache v).portOf i = c.portOf i := rfl
@[simp] theorem Core.streamOf_withCache (i : Nat) (v : List CacheLine) : (c.withCache v).streamOf i = c.streamOf i := rfl
@[simp] theorem Core.ringOf_withCache (i : Nat) (v : List CacheLine) : (c.withCache v).ringOf i = c.ringOf i := rfl
@[simp] theorem Core.winOf_withCache (i : Nat) (v : List CacheLine) : (c.withCache v).winOf i = c.winOf i := rfl
@[simp] theorem Core.ctxOf_withCache (i : Nat) (v : List CacheLine) : (c.withCache v).ctxOf i = c.ctxOf i := rfl
@[simp] theorem Core.jobOf_withCache (i : Nat) (v : List CacheLine) : (c.withCache v).jobOf i = c.jobOf i := rfl
@[simp] theorem Core.halfSt_withCache (i : Nat) (v : List CacheLine) : (c.withCache v).halfSt i = c.halfSt i := rfl
@[simp] theorem Core.sessionOf_withCache (i : Nat) (v : List CacheLine) : (c.withCache v).sessionOf i = c.sessionOf i := rfl
@[simp] theorem Core.sailOf_withCache (i : Nat) (v : List CacheLine) : (c.withCache v).sailOf i = c.sailOf i := rfl
@[simp] theorem Core.get_withCache (i : Nat) (v : List CacheLine) : (c.withCache v).get i = c.get i := rfl
@[simp] theorem Core.mcOf_withUpdLog (i : Nat) (v : List (Nat × Nat)) : (c.withUpdLog v).mcOf i = c.mcOf i := rfl
@[simp] theorem Core.ddrOf_withUpdLog (i : Nat) (v : List (Nat × Nat)) : (c.withUpdLog v).ddrOf i = c.ddrOf i := rfl
@[simp] theorem Core.eccOf_withUpdLog (i : Nat) (v : List (Nat × Nat)) : (c.withUpdLog v).eccOf i = c.eccOf i := rfl
@[simp] theorem Core.ftOf_withUpdLog (i : Nat) (v : List (Nat × Nat)) : (c.withUpdLog v).ftOf i = c.ftOf i := rfl
@[simp] theorem Core.ledgerOf_withUpdLog (i : Nat) (v : List (Nat × Nat)) : (c.withUpdLog v).ledgerOf i = c.ledgerOf i := rfl
@[simp] theorem Core.monOf_withUpdLog (i : Nat) (v : List (Nat × Nat)) : (c.withUpdLog v).monOf i = c.monOf i := rfl
@[simp] theorem Core.portOf_withUpdLog (i : Nat) (v : List (Nat × Nat)) : (c.withUpdLog v).portOf i = c.portOf i := rfl
@[simp] theorem Core.streamOf_withUpdLog (i : Nat) (v : List (Nat × Nat)) : (c.withUpdLog v).streamOf i = c.streamOf i := rfl
@[simp] theorem Core.ringOf_withUpdLog (i : Nat) (v : List (Nat × Nat)) : (c.withUpdLog v).ringOf i = c.ringOf i := rfl
@[simp] theorem Core.winOf_withUpdLog (i : Nat) (v : List (Nat × Nat)) : (c.withUpdLog v).winOf i = c.winOf i := rfl
@[simp] theorem Core.ctxOf_withUpdLog (i : Nat) (v : List (Nat × Nat)) : (c.withUpdLog v).ctxOf i = c.ctxOf i := rfl
@[simp] theorem Core.jobOf_withUpdLog (i : Nat) (v : List (Nat × Nat)) : (c.withUpdLog v).jobOf i = c.jobOf i := rfl
@[simp] theorem Core.halfSt_withUpdLog (i : Nat) (v : List (Nat × Nat)) : (c.withUpdLog v).halfSt i = c.halfSt i := rfl
@[simp] theorem Core.sessionOf_withUpdLog (i : Nat) (v : List (Nat × Nat)) : (c.withUpdLog v).sessionOf i = c.sessionOf i := rfl
@[simp] theorem Core.sailOf_withUpdLog (i : Nat) (v : List (Nat × Nat)) : (c.withUpdLog v).sailOf i = c.sailOf i := rfl
@[simp] theorem Core.get_withUpdLog (i : Nat) (v : List (Nat × Nat)) : (c.withUpdLog v).get i = c.get i := rfl
@[simp] theorem Core.mcOf_withMg (i : Nat) (v : MgState) : (c.withMg v).mcOf i = c.mcOf i := rfl
@[simp] theorem Core.ddrOf_withMg (i : Nat) (v : MgState) : (c.withMg v).ddrOf i = c.ddrOf i := rfl
@[simp] theorem Core.eccOf_withMg (i : Nat) (v : MgState) : (c.withMg v).eccOf i = c.eccOf i := rfl
@[simp] theorem Core.ftOf_withMg (i : Nat) (v : MgState) : (c.withMg v).ftOf i = c.ftOf i := rfl
@[simp] theorem Core.ledgerOf_withMg (i : Nat) (v : MgState) : (c.withMg v).ledgerOf i = c.ledgerOf i := rfl
@[simp] theorem Core.monOf_withMg (i : Nat) (v : MgState) : (c.withMg v).monOf i = c.monOf i := rfl
@[simp] theorem Core.portOf_withMg (i : Nat) (v : MgState) : (c.withMg v).portOf i = c.portOf i := rfl
@[simp] theorem Core.streamOf_withMg (i : Nat) (v : MgState) : (c.withMg v).streamOf i = c.streamOf i := rfl
@[simp] theorem Core.ringOf_withMg (i : Nat) (v : MgState) : (c.withMg v).ringOf i = c.ringOf i := rfl
@[simp] theorem Core.winOf_withMg (i : Nat) (v : MgState) : (c.withMg v).winOf i = c.winOf i := rfl
@[simp] theorem Core.ctxOf_withMg (i : Nat) (v : MgState) : (c.withMg v).ctxOf i = c.ctxOf i := rfl
@[simp] theorem Core.jobOf_withMg (i : Nat) (v : MgState) : (c.withMg v).jobOf i = c.jobOf i := rfl
@[simp] theorem Core.halfSt_withMg (i : Nat) (v : MgState) : (c.withMg v).halfSt i = c.halfSt i := rfl
@[simp] theorem Core.sessionOf_withMg (i : Nat) (v : MgState) : (c.withMg v).sessionOf i = c.sessionOf i := rfl
@[simp] theorem Core.sailOf_withMg (i : Nat) (v : MgState) : (c.withMg v).sailOf i = c.sailOf i := rfl
@[simp] theorem Core.get_withMg (i : Nat) (v : MgState) : (c.withMg v).get i = c.get i := rfl
@[simp] theorem Core.mcOf_withSail (i : Nat) (v : SailState) : (c.withSail v).mcOf i = c.mcOf i := rfl
@[simp] theorem Core.ddrOf_withSail (i : Nat) (v : SailState) : (c.withSail v).ddrOf i = c.ddrOf i := rfl
@[simp] theorem Core.eccOf_withSail (i : Nat) (v : SailState) : (c.withSail v).eccOf i = c.eccOf i := rfl
@[simp] theorem Core.ftOf_withSail (i : Nat) (v : SailState) : (c.withSail v).ftOf i = c.ftOf i := rfl
@[simp] theorem Core.ledgerOf_withSail (i : Nat) (v : SailState) : (c.withSail v).ledgerOf i = c.ledgerOf i := rfl
@[simp] theorem Core.monOf_withSail (i : Nat) (v : SailState) : (c.withSail v).monOf i = c.monOf i := rfl
@[simp] theorem Core.portOf_withSail (i : Nat) (v : SailState) : (c.withSail v).portOf i = c.portOf i := rfl
@[simp] theorem Core.streamOf_withSail (i : Nat) (v : SailState) : (c.withSail v).streamOf i = c.streamOf i := rfl
@[simp] theorem Core.ringOf_withSail (i : Nat) (v : SailState) : (c.withSail v).ringOf i = c.ringOf i := rfl
@[simp] theorem Core.winOf_withSail (i : Nat) (v : SailState) : (c.withSail v).winOf i = c.winOf i := rfl
@[simp] theorem Core.ctxOf_withSail (i : Nat) (v : SailState) : (c.withSail v).ctxOf i = c.ctxOf i := rfl
@[simp] theorem Core.jobOf_withSail (i : Nat) (v : SailState) : (c.withSail v).jobOf i = c.jobOf i := rfl
@[simp] theorem Core.halfSt_withSail (i : Nat) (v : SailState) : (c.withSail v).halfSt i = c.halfSt i := rfl
@[simp] theorem Core.sessionOf_withSail (i : Nat) (v : SailState) : (c.withSail v).sessionOf i = c.sessionOf i := rfl
@[simp] theorem Core.get_withSail (i : Nat) (v : SailState) : (c.withSail v).get i = c.get i := rfl
@[simp] theorem Core.mcOf_withImages (i : Nat) (v : Tbl (List Byte)) : (c.withImages v).mcOf i = c.mcOf i := rfl
@[simp] theorem Core.ddrOf_withImages (i : Nat) (v : Tbl (List Byte)) : (c.withImages v).ddrOf i = c.ddrOf i := rfl
@[simp] theorem Core.eccOf_withImages (i : Nat) (v : Tbl (List Byte)) : (c.withImages v).eccOf i = c.eccOf i := rfl
@[simp] theorem Core.ftOf_withImages (i : Nat) (v : Tbl (List Byte)) : (c.withImages v).ftOf i = c.ftOf i := rfl
@[simp] theorem Core.ledgerOf_withImages (i : Nat) (v : Tbl (List Byte)) : (c.withImages v).ledgerOf i = c.ledgerOf i := rfl
@[simp] theorem Core.monOf_withImages (i : Nat) (v : Tbl (List Byte)) : (c.withImages v).monOf i = c.monOf i := rfl
@[simp] theorem Core.portOf_withImages (i : Nat) (v : Tbl (List Byte)) : (c.withImages v).portOf i = c.portOf i := rfl
@[simp] theorem Core.streamOf_withImages (i : Nat) (v : Tbl (List Byte)) : (c.withImages v).streamOf i = c.streamOf i := rfl
@[simp] theorem Core.ringOf_withImages (i : Nat) (v : Tbl (List Byte)) : (c.withImages v).ringOf i = c.ringOf i := rfl
@[simp] theorem Core.winOf_withImages (i : Nat) (v : Tbl (List Byte)) : (c.withImages v).winOf i = c.winOf i := rfl
@[simp] theorem Core.ctxOf_withImages (i : Nat) (v : Tbl (List Byte)) : (c.withImages v).ctxOf i = c.ctxOf i := rfl
@[simp] theorem Core.jobOf_withImages (i : Nat) (v : Tbl (List Byte)) : (c.withImages v).jobOf i = c.jobOf i := rfl
@[simp] theorem Core.halfSt_withImages (i : Nat) (v : Tbl (List Byte)) : (c.withImages v).halfSt i = c.halfSt i := rfl
@[simp] theorem Core.sessionOf_withImages (i : Nat) (v : Tbl (List Byte)) : (c.withImages v).sessionOf i = c.sessionOf i := rfl
@[simp] theorem Core.sailOf_withImages (i : Nat) (v : Tbl (List Byte)) : (c.withImages v).sailOf i = c.sailOf i := rfl
@[simp] theorem Core.get_withImages (i : Nat) (v : Tbl (List Byte)) : (c.withImages v).get i = c.get i := rfl
@[simp] theorem Core.mcOf_withImageOpen (i : Nat) (v : Option Nat) : (c.withImageOpen v).mcOf i = c.mcOf i := rfl
@[simp] theorem Core.ddrOf_withImageOpen (i : Nat) (v : Option Nat) : (c.withImageOpen v).ddrOf i = c.ddrOf i := rfl
@[simp] theorem Core.eccOf_withImageOpen (i : Nat) (v : Option Nat) : (c.withImageOpen v).eccOf i = c.eccOf i := rfl
@[simp] theorem Core.ftOf_withImageOpen (i : Nat) (v : Option Nat) : (c.withImageOpen v).ftOf i = c.ftOf i := rfl
@[simp] theorem Core.ledgerOf_withImageOpen (i : Nat) (v : Option Nat) : (c.withImageOpen v).ledgerOf i = c.ledgerOf i := rfl
@[simp] theorem Core.monOf_withImageOpen (i : Nat) (v : Option Nat) : (c.withImageOpen v).monOf i = c.monOf i := rfl
@[simp] theorem Core.portOf_withImageOpen (i : Nat) (v : Option Nat) : (c.withImageOpen v).portOf i = c.portOf i := rfl
@[simp] theorem Core.streamOf_withImageOpen (i : Nat) (v : Option Nat) : (c.withImageOpen v).streamOf i = c.streamOf i := rfl
@[simp] theorem Core.ringOf_withImageOpen (i : Nat) (v : Option Nat) : (c.withImageOpen v).ringOf i = c.ringOf i := rfl
@[simp] theorem Core.winOf_withImageOpen (i : Nat) (v : Option Nat) : (c.withImageOpen v).winOf i = c.winOf i := rfl
@[simp] theorem Core.ctxOf_withImageOpen (i : Nat) (v : Option Nat) : (c.withImageOpen v).ctxOf i = c.ctxOf i := rfl
@[simp] theorem Core.jobOf_withImageOpen (i : Nat) (v : Option Nat) : (c.withImageOpen v).jobOf i = c.jobOf i := rfl
@[simp] theorem Core.halfSt_withImageOpen (i : Nat) (v : Option Nat) : (c.withImageOpen v).halfSt i = c.halfSt i := rfl
@[simp] theorem Core.sessionOf_withImageOpen (i : Nat) (v : Option Nat) : (c.withImageOpen v).sessionOf i = c.sessionOf i := rfl
@[simp] theorem Core.sailOf_withImageOpen (i : Nat) (v : Option Nat) : (c.withImageOpen v).sailOf i = c.sailOf i := rfl
@[simp] theorem Core.get_withImageOpen (i : Nat) (v : Option Nat) : (c.withImageOpen v).get i = c.get i := rfl
@[simp] theorem Core.mcOf_withTap (i : Nat) (v : TapState) : (c.withTap v).mcOf i = c.mcOf i := rfl
@[simp] theorem Core.ddrOf_withTap (i : Nat) (v : TapState) : (c.withTap v).ddrOf i = c.ddrOf i := rfl
@[simp] theorem Core.eccOf_withTap (i : Nat) (v : TapState) : (c.withTap v).eccOf i = c.eccOf i := rfl
@[simp] theorem Core.ftOf_withTap (i : Nat) (v : TapState) : (c.withTap v).ftOf i = c.ftOf i := rfl
@[simp] theorem Core.ledgerOf_withTap (i : Nat) (v : TapState) : (c.withTap v).ledgerOf i = c.ledgerOf i := rfl
@[simp] theorem Core.monOf_withTap (i : Nat) (v : TapState) : (c.withTap v).monOf i = c.monOf i := rfl
@[simp] theorem Core.portOf_withTap (i : Nat) (v : TapState) : (c.withTap v).portOf i = c.portOf i := rfl
@[simp] theorem Core.streamOf_withTap (i : Nat) (v : TapState) : (c.withTap v).streamOf i = c.streamOf i := rfl
@[simp] theorem Core.ringOf_withTap (i : Nat) (v : TapState) : (c.withTap v).ringOf i = c.ringOf i := rfl
@[simp] theorem Core.winOf_withTap (i : Nat) (v : TapState) : (c.withTap v).winOf i = c.winOf i := rfl
@[simp] theorem Core.ctxOf_withTap (i : Nat) (v : TapState) : (c.withTap v).ctxOf i = c.ctxOf i := rfl
@[simp] theorem Core.jobOf_withTap (i : Nat) (v : TapState) : (c.withTap v).jobOf i = c.jobOf i := rfl
@[simp] theorem Core.halfSt_withTap (i : Nat) (v : TapState) : (c.withTap v).halfSt i = c.halfSt i := rfl
@[simp] theorem Core.sessionOf_withTap (i : Nat) (v : TapState) : (c.withTap v).sessionOf i = c.sessionOf i := rfl
@[simp] theorem Core.sailOf_withTap (i : Nat) (v : TapState) : (c.withTap v).sailOf i = c.sailOf i := rfl
@[simp] theorem Core.get_withTap (i : Nat) (v : TapState) : (c.withTap v).get i = c.get i := rfl
@[simp] theorem Core.mcOf_withSluice (i : Nat) (v : SluiceState) : (c.withSluice v).mcOf i = c.mcOf i := rfl
@[simp] theorem Core.ddrOf_withSluice (i : Nat) (v : SluiceState) : (c.withSluice v).ddrOf i = c.ddrOf i := rfl
@[simp] theorem Core.eccOf_withSluice (i : Nat) (v : SluiceState) : (c.withSluice v).eccOf i = c.eccOf i := rfl
@[simp] theorem Core.ftOf_withSluice (i : Nat) (v : SluiceState) : (c.withSluice v).ftOf i = c.ftOf i := rfl
@[simp] theorem Core.ledgerOf_withSluice (i : Nat) (v : SluiceState) : (c.withSluice v).ledgerOf i = c.ledgerOf i := rfl
@[simp] theorem Core.monOf_withSluice (i : Nat) (v : SluiceState) : (c.withSluice v).monOf i = c.monOf i := rfl
@[simp] theorem Core.portOf_withSluice (i : Nat) (v : SluiceState) : (c.withSluice v).portOf i = c.portOf i := rfl
@[simp] theorem Core.streamOf_withSluice (i : Nat) (v : SluiceState) : (c.withSluice v).streamOf i = c.streamOf i := rfl
@[simp] theorem Core.ringOf_withSluice (i : Nat) (v : SluiceState) : (c.withSluice v).ringOf i = c.ringOf i := rfl
@[simp] theorem Core.winOf_withSluice (i : Nat) (v : SluiceState) : (c.withSluice v).winOf i = c.winOf i := rfl
@[simp] theorem Core.ctxOf_withSluice (i : Nat) (v : SluiceState) : (c.withSluice v).ctxOf i = c.ctxOf i := rfl
@[simp] theorem Core.jobOf_withSluice (i : Nat) (v : SluiceState) : (c.withSluice v).jobOf i = c.jobOf i := rfl
@[simp] theorem Core.halfSt_withSluice (i : Nat) (v : SluiceState) : (c.withSluice v).halfSt i = c.halfSt i := rfl
@[simp] theorem Core.sessionOf_withSluice (i : Nat) (v : SluiceState) : (c.withSluice v).sessionOf i = c.sessionOf i := rfl
@[simp] theorem Core.sailOf_withSluice (i : Nat) (v : SluiceState) : (c.withSluice v).sailOf i = c.sailOf i := rfl
@[simp] theorem Core.get_withSluice (i : Nat) (v : SluiceState) : (c.withSluice v).get i = c.get i := rfl
@[simp] theorem Core.mcOf_withTime (i : Nat) (v : TimeState) : (c.withTime v).mcOf i = c.mcOf i := rfl
@[simp] theorem Core.ddrOf_withTime (i : Nat) (v : TimeState) : (c.withTime v).ddrOf i = c.ddrOf i := rfl
@[simp] theorem Core.eccOf_withTime (i : Nat) (v : TimeState) : (c.withTime v).eccOf i = c.eccOf i := rfl
@[simp] theorem Core.ftOf_withTime (i : Nat) (v : TimeState) : (c.withTime v).ftOf i = c.ftOf i := rfl
@[simp] theorem Core.ledgerOf_withTime (i : Nat) (v : TimeState) : (c.withTime v).ledgerOf i = c.ledgerOf i := rfl
@[simp] theorem Core.monOf_withTime (i : Nat) (v : TimeState) : (c.withTime v).monOf i = c.monOf i := rfl
@[simp] theorem Core.portOf_withTime (i : Nat) (v : TimeState) : (c.withTime v).portOf i = c.portOf i := rfl
@[simp] theorem Core.streamOf_withTime (i : Nat) (v : TimeState) : (c.withTime v).streamOf i = c.streamOf i := rfl
@[simp] theorem Core.ringOf_withTime (i : Nat) (v : TimeState) : (c.withTime v).ringOf i = c.ringOf i := rfl
@[simp] theorem Core.winOf_withTime (i : Nat) (v : TimeState) : (c.withTime v).winOf i = c.winOf i := rfl
@[simp] theorem Core.ctxOf_withTime (i : Nat) (v : TimeState) : (c.withTime v).ctxOf i = c.ctxOf i := rfl
@[simp] theorem Core.jobOf_withTime (i : Nat) (v : TimeState) : (c.withTime v).jobOf i = c.jobOf i := rfl
@[simp] theorem Core.halfSt_withTime (i : Nat) (v : TimeState) : (c.withTime v).halfSt i = c.halfSt i := rfl
@[simp] theorem Core.sessionOf_withTime (i : Nat) (v : TimeState) : (c.withTime v).sessionOf i = c.sessionOf i := rfl
@[simp] theorem Core.sailOf_withTime (i : Nat) (v : TimeState) : (c.withTime v).sailOf i = c.sailOf i := rfl
@[simp] theorem Core.get_withTime (i : Nat) (v : TimeState) : (c.withTime v).get i = c.get i := rfl
@[simp] theorem Core.mcOf_withSpill (i : Nat) (v : Tbl Nat) : (c.withSpill v).mcOf i = c.mcOf i := rfl
@[simp] theorem Core.ddrOf_withSpill (i : Nat) (v : Tbl Nat) : (c.withSpill v).ddrOf i = c.ddrOf i := rfl
@[simp] theorem Core.eccOf_withSpill (i : Nat) (v : Tbl Nat) : (c.withSpill v).eccOf i = c.eccOf i := rfl
@[simp] theorem Core.ftOf_withSpill (i : Nat) (v : Tbl Nat) : (c.withSpill v).ftOf i = c.ftOf i := rfl
@[simp] theorem Core.ledgerOf_withSpill (i : Nat) (v : Tbl Nat) : (c.withSpill v).ledgerOf i = c.ledgerOf i := rfl
@[simp] theorem Core.monOf_withSpill (i : Nat) (v : Tbl Nat) : (c.withSpill v).monOf i = c.monOf i := rfl
@[simp] theorem Core.portOf_withSpill (i : Nat) (v : Tbl Nat) : (c.withSpill v).portOf i = c.portOf i := rfl
@[simp] theorem Core.streamOf_withSpill (i : Nat) (v : Tbl Nat) : (c.withSpill v).streamOf i = c.streamOf i := rfl
@[simp] theorem Core.ringOf_withSpill (i : Nat) (v : Tbl Nat) : (c.withSpill v).ringOf i = c.ringOf i := rfl
@[simp] theorem Core.winOf_withSpill (i : Nat) (v : Tbl Nat) : (c.withSpill v).winOf i = c.winOf i := rfl
@[simp] theorem Core.ctxOf_withSpill (i : Nat) (v : Tbl Nat) : (c.withSpill v).ctxOf i = c.ctxOf i := rfl
@[simp] theorem Core.jobOf_withSpill (i : Nat) (v : Tbl Nat) : (c.withSpill v).jobOf i = c.jobOf i := rfl
@[simp] theorem Core.halfSt_withSpill (i : Nat) (v : Tbl Nat) : (c.withSpill v).halfSt i = c.halfSt i := rfl
@[simp] theorem Core.sessionOf_withSpill (i : Nat) (v : Tbl Nat) : (c.withSpill v).sessionOf i = c.sessionOf i := rfl
@[simp] theorem Core.sailOf_withSpill (i : Nat) (v : Tbl Nat) : (c.withSpill v).sailOf i = c.sailOf i := rfl
@[simp] theorem Core.get_withSpill (i : Nat) (v : Tbl Nat) : (c.withSpill v).get i = c.get i := rfl
@[simp] theorem Core.mcOf_withShown (i : Nat) (v : Tbl Nat) : (c.withShown v).mcOf i = c.mcOf i := rfl
@[simp] theorem Core.ddrOf_withShown (i : Nat) (v : Tbl Nat) : (c.withShown v).ddrOf i = c.ddrOf i := rfl
@[simp] theorem Core.eccOf_withShown (i : Nat) (v : Tbl Nat) : (c.withShown v).eccOf i = c.eccOf i := rfl
@[simp] theorem Core.ftOf_withShown (i : Nat) (v : Tbl Nat) : (c.withShown v).ftOf i = c.ftOf i := rfl
@[simp] theorem Core.ledgerOf_withShown (i : Nat) (v : Tbl Nat) : (c.withShown v).ledgerOf i = c.ledgerOf i := rfl
@[simp] theorem Core.monOf_withShown (i : Nat) (v : Tbl Nat) : (c.withShown v).monOf i = c.monOf i := rfl
@[simp] theorem Core.portOf_withShown (i : Nat) (v : Tbl Nat) : (c.withShown v).portOf i = c.portOf i := rfl
@[simp] theorem Core.streamOf_withShown (i : Nat) (v : Tbl Nat) : (c.withShown v).streamOf i = c.streamOf i := rfl
@[simp] theorem Core.ringOf_withShown (i : Nat) (v : Tbl Nat) : (c.withShown v).ringOf i = c.ringOf i := rfl
@[simp] theorem Core.winOf_withShown (i : Nat) (v : Tbl Nat) : (c.withShown v).winOf i = c.winOf i := rfl
@[simp] theorem Core.ctxOf_withShown (i : Nat) (v : Tbl Nat) : (c.withShown v).ctxOf i = c.ctxOf i := rfl
@[simp] theorem Core.jobOf_withShown (i : Nat) (v : Tbl Nat) : (c.withShown v).jobOf i = c.jobOf i := rfl
@[simp] theorem Core.halfSt_withShown (i : Nat) (v : Tbl Nat) : (c.withShown v).halfSt i = c.halfSt i := rfl
@[simp] theorem Core.sessionOf_withShown (i : Nat) (v : Tbl Nat) : (c.withShown v).sessionOf i = c.sessionOf i := rfl
@[simp] theorem Core.sailOf_withShown (i : Nat) (v : Tbl Nat) : (c.withShown v).sailOf i = c.sailOf i := rfl
@[simp] theorem Core.get_withShown (i : Nat) (v : Tbl Nat) : (c.withShown v).get i = c.get i := rfl
@[simp] theorem Core.mcOf_withFreezes (i : Nat) (v : Nat) : (c.withFreezes v).mcOf i = c.mcOf i := rfl
@[simp] theorem Core.ddrOf_withFreezes (i : Nat) (v : Nat) : (c.withFreezes v).ddrOf i = c.ddrOf i := rfl
@[simp] theorem Core.eccOf_withFreezes (i : Nat) (v : Nat) : (c.withFreezes v).eccOf i = c.eccOf i := rfl
@[simp] theorem Core.ftOf_withFreezes (i : Nat) (v : Nat) : (c.withFreezes v).ftOf i = c.ftOf i := rfl
@[simp] theorem Core.ledgerOf_withFreezes (i : Nat) (v : Nat) : (c.withFreezes v).ledgerOf i = c.ledgerOf i := rfl
@[simp] theorem Core.monOf_withFreezes (i : Nat) (v : Nat) : (c.withFreezes v).monOf i = c.monOf i := rfl
@[simp] theorem Core.portOf_withFreezes (i : Nat) (v : Nat) : (c.withFreezes v).portOf i = c.portOf i := rfl
@[simp] theorem Core.streamOf_withFreezes (i : Nat) (v : Nat) : (c.withFreezes v).streamOf i = c.streamOf i := rfl
@[simp] theorem Core.ringOf_withFreezes (i : Nat) (v : Nat) : (c.withFreezes v).ringOf i = c.ringOf i := rfl
@[simp] theorem Core.winOf_withFreezes (i : Nat) (v : Nat) : (c.withFreezes v).winOf i = c.winOf i := rfl
@[simp] theorem Core.ctxOf_withFreezes (i : Nat) (v : Nat) : (c.withFreezes v).ctxOf i = c.ctxOf i := rfl
@[simp] theorem Core.jobOf_withFreezes (i : Nat) (v : Nat) : (c.withFreezes v).jobOf i = c.jobOf i := rfl
@[simp] theorem Core.halfSt_withFreezes (i : Nat) (v : Nat) : (c.withFreezes v).halfSt i = c.halfSt i := rfl
@[simp] theorem Core.sessionOf_withFreezes (i : Nat) (v : Nat) : (c.withFreezes v).sessionOf i = c.sessionOf i := rfl
@[simp] theorem Core.sailOf_withFreezes (i : Nat) (v : Nat) : (c.withFreezes v).sailOf i = c.sailOf i := rfl
@[simp] theorem Core.get_withFreezes (i : Nat) (v : Nat) : (c.withFreezes v).get i = c.get i := rfl
@[simp] theorem Core.mcOf_withWins (i : Nat) (v : Tbl WinState) : (c.withWins v).mcOf i = c.mcOf i := rfl
@[simp] theorem Core.ddrOf_withWins (i : Nat) (v : Tbl WinState) : (c.withWins v).ddrOf i = c.ddrOf i := rfl
@[simp] theorem Core.eccOf_withWins (i : Nat) (v : Tbl WinState) : (c.withWins v).eccOf i = c.eccOf i := rfl
@[simp] theorem Core.ftOf_withWins (i : Nat) (v : Tbl WinState) : (c.withWins v).ftOf i = c.ftOf i := rfl
@[simp] theorem Core.ledgerOf_withWins (i : Nat) (v : Tbl WinState) : (c.withWins v).ledgerOf i = c.ledgerOf i := rfl
@[simp] theorem Core.monOf_withWins (i : Nat) (v : Tbl WinState) : (c.withWins v).monOf i = c.monOf i := rfl
@[simp] theorem Core.portOf_withWins (i : Nat) (v : Tbl WinState) : (c.withWins v).portOf i = c.portOf i := rfl
@[simp] theorem Core.streamOf_withWins (i : Nat) (v : Tbl WinState) : (c.withWins v).streamOf i = c.streamOf i := rfl
@[simp] theorem Core.ringOf_withWins (i : Nat) (v : Tbl WinState) : (c.withWins v).ringOf i = c.ringOf i := rfl
@[simp] theorem Core.ctxOf_withWins (i : Nat) (v : Tbl WinState) : (c.withWins v).ctxOf i = c.ctxOf i := rfl
@[simp] theorem Core.jobOf_withWins (i : Nat) (v : Tbl WinState) : (c.withWins v).jobOf i = c.jobOf i := rfl
@[simp] theorem Core.halfSt_withWins (i : Nat) (v : Tbl WinState) : (c.withWins v).halfSt i = c.halfSt i := rfl
@[simp] theorem Core.sessionOf_withWins (i : Nat) (v : Tbl WinState) : (c.withWins v).sessionOf i = c.sessionOf i := rfl
@[simp] theorem Core.sailOf_withWins (i : Nat) (v : Tbl WinState) : (c.withWins v).sailOf i = c.sailOf i := rfl
@[simp] theorem Core.get_withWins (i : Nat) (v : Tbl WinState) : (c.withWins v).get i = c.get i := rfl
@[simp] theorem Core.mcOf_withDrawn (i : Nat) (v : Nat) : (c.withDrawn v).mcOf i = c.mcOf i := rfl
@[simp] theorem Core.ddrOf_withDrawn (i : Nat) (v : Nat) : (c.withDrawn v).ddrOf i = c.ddrOf i := rfl
@[simp] theorem Core.eccOf_withDrawn (i : Nat) (v : Nat) : (c.withDrawn v).eccOf i = c.eccOf i := rfl
@[simp] theorem Core.ftOf_withDrawn (i : Nat) (v : Nat) : (c.withDrawn v).ftOf i = c.ftOf i := rfl
@[simp] theorem Core.ledgerOf_withDrawn (i : Nat) (v : Nat) : (c.withDrawn v).ledgerOf i = c.ledgerOf i := rfl
@[simp] theorem Core.monOf_withDrawn (i : Nat) (v : Nat) : (c.withDrawn v).monOf i = c.monOf i := rfl
@[simp] theorem Core.portOf_withDrawn (i : Nat) (v : Nat) : (c.withDrawn v).portOf i = c.portOf i := rfl
@[simp] theorem Core.streamOf_withDrawn (i : Nat) (v : Nat) : (c.withDrawn v).streamOf i = c.streamOf i := rfl
@[simp] theorem Core.ringOf_withDrawn (i : Nat) (v : Nat) : (c.withDrawn v).ringOf i = c.ringOf i := rfl
@[simp] theorem Core.winOf_withDrawn (i : Nat) (v : Nat) : (c.withDrawn v).winOf i = c.winOf i := rfl
@[simp] theorem Core.ctxOf_withDrawn (i : Nat) (v : Nat) : (c.withDrawn v).ctxOf i = c.ctxOf i := rfl
@[simp] theorem Core.jobOf_withDrawn (i : Nat) (v : Nat) : (c.withDrawn v).jobOf i = c.jobOf i := rfl
@[simp] theorem Core.halfSt_withDrawn (i : Nat) (v : Nat) : (c.withDrawn v).halfSt i = c.halfSt i := rfl
@[simp] theorem Core.sessionOf_withDrawn (i : Nat) (v : Nat) : (c.withDrawn v).sessionOf i = c.sessionOf i := rfl
@[simp] theorem Core.sailOf_withDrawn (i : Nat) (v : Nat) : (c.withDrawn v).sailOf i = c.sailOf i := rfl
@[simp] theorem Core.get_withDrawn (i : Nat) (v : Nat) : (c.withDrawn v).get i = c.get i := rfl

/-! ## The updated field -/

@[simp] theorem Core.decisions_withDecisions (v : List Decision) : (c.withDecisions v).decisions = v := rfl
@[simp] theorem Core.dll_withDll (v : Tbl (Int × Nat)) : (c.withDll v).dll = v := rfl
@[simp] theorem Core.fc_withFc (v : FcState) : (c.withFc v).fc = v := rfl
@[simp] theorem Core.seq_withSeq (v : SeqState) : (c.withSeq v).seq = v := rfl
@[simp] theorem Core.start_withStart (v : Option StartRun) : (c.withStart v).start = v := rfl
@[simp] theorem Core.eccSeq_withEccSeq (v : Nat) : (c.withEccSeq v).eccSeq = v := rfl
@[simp] theorem Core.out_withOut (v : List Out) : (c.withOut v).out = v := rfl
@[simp] theorem Core.req_withReq (v : List Req) : (c.withReq v).req = v := rfl
@[simp] theorem Core.checkpoints_withCheckpoints (v : List (Nat × Nat)) : (c.withCheckpoints v).checkpoints = v := rfl
@[simp] theorem Core.freeing_withFreeing (v : Tbl Nat) : (c.withFreeing v).freeing = v := rfl
@[simp] theorem Core.chainFails_withChainFails (v : Nat) : (c.withChainFails v).chainFails = v := rfl
@[simp] theorem Core.objs_withObjs (v : Tbl Nat) : (c.withObjs v).objs = v := rfl
@[simp] theorem Core.throttled_withThrottled (v : Bool) : (c.withThrottled v).throttled = v := rfl
@[simp] theorem Core.overHigh_withOverHigh (v : Bool) : (c.withOverHigh v).overHigh = v := rfl
@[simp] theorem Core.cache_withCache (v : List CacheLine) : (c.withCache v).cache = v := rfl
@[simp] theorem Core.updLog_withUpdLog (v : List (Nat × Nat)) : (c.withUpdLog v).updLog = v := rfl
@[simp] theorem Core.mg_withMg (v : MgState) : (c.withMg v).mg = v := rfl
@[simp] theorem Core.sail_withSail (v : SailState) : (c.withSail v).sail = v := rfl
@[simp] theorem Core.images_withImages (v : Tbl (List Byte)) : (c.withImages v).images = v := rfl
@[simp] theorem Core.imageOpen_withImageOpen (v : Option Nat) : (c.withImageOpen v).imageOpen = v := rfl
@[simp] theorem Core.tap_withTap (v : TapState) : (c.withTap v).tap = v := rfl
@[simp] theorem Core.sluice_withSluice (v : SluiceState) : (c.withSluice v).sluice = v := rfl
@[simp] theorem Core.time_withTime (v : TimeState) : (c.withTime v).time = v := rfl
@[simp] theorem Core.spill_withSpill (v : Tbl Nat) : (c.withSpill v).spill = v := rfl
@[simp] theorem Core.shown_withShown (v : Tbl Nat) : (c.withShown v).shown = v := rfl
@[simp] theorem Core.freezes_withFreezes (v : Nat) : (c.withFreezes v).freezes = v := rfl
@[simp] theorem Core.wins_withWins (v : Tbl WinState) : (c.withWins v).wins = v := rfl
@[simp] theorem Core.drawn_withDrawn (v : Nat) : (c.withDrawn v).drawn = v := rfl

/-! ## Accessors after updates of their own field -/

@[simp] theorem Core.out_emit (o : Out) : (c.emit o).out = c.out ++ [o] := rfl
@[simp] theorem Core.req_ask (r : Req) : (c.ask r).req = c.req ++ [r] := rfl
@[simp] theorem Core.get_put_self (k v : Nat) : (c.put k v).get k = v := Tbl.get_set_self _ _ _ _
theorem Core.get_put_ne {k j : Nat} (v : Nat) (h : j ≠ k) : (c.put k v).get j = c.get j := Tbl.get_set_ne _ _ _ h
theorem Core.get_put (k v j : Nat) : (c.put k v).get j = if j = k then v else c.get j := Tbl.get_set _ _ _ _ _
@[simp] theorem Core.mcOf_setMc_self (n : Nat) (m : McState) : (c.setMc n m).mcOf n = m := Tbl.get_set_self _ _ _ _
theorem Core.mcOf_setMc_ne {n i : Nat} (m : McState) (h : i ≠ n) : (c.setMc n m).mcOf i = c.mcOf i :=
  Tbl.get_set_ne _ _ _ h
@[simp] theorem Core.portOf_setPort_self (n : Nat) (m : HrPortState) : (c.setPort n m).portOf n = m :=
  Tbl.get_set_self _ _ _ _
theorem Core.portOf_setPort_ne {n i : Nat} (m : HrPortState) (h : i ≠ n) : (c.setPort n m).portOf i = c.portOf i :=
  Tbl.get_set_ne _ _ _ h
@[simp] theorem Core.ddrOf_updDdr_self (n : Nat) (f : DdrState → DdrState) : (c.updDdr n f).ddrOf n = f (c.ddrOf n) := Tbl.get_upd_self _ _ _ _
theorem Core.ddrOf_updDdr_ne {n i : Nat} (f : DdrState → DdrState) (h : i ≠ n) : (c.updDdr n f).ddrOf i = c.ddrOf i := Tbl.get_upd_ne _ _ _ h
@[simp] theorem Core.eccOf_updEcc_self (n : Nat) (f : EccState → EccState) : (c.updEcc n f).eccOf n = f (c.eccOf n) := Tbl.get_upd_self _ _ _ _
theorem Core.eccOf_updEcc_ne {n i : Nat} (f : EccState → EccState) (h : i ≠ n) : (c.updEcc n f).eccOf i = c.eccOf i := Tbl.get_upd_ne _ _ _ h
@[simp] theorem Core.ftOf_updFt_self (n : Nat) (f : FtState → FtState) : (c.updFt n f).ftOf n = f (c.ftOf n) := Tbl.get_upd_self _ _ _ _
theorem Core.ftOf_updFt_ne {n i : Nat} (f : FtState → FtState) (h : i ≠ n) : (c.updFt n f).ftOf i = c.ftOf i := Tbl.get_upd_ne _ _ _ h
@[simp] theorem Core.ledgerOf_updLedger_self (n : Nat) (f : LedgerState → LedgerState) : (c.updLedger n f).ledgerOf n = f (c.ledgerOf n) := Tbl.get_upd_self _ _ _ _
theorem Core.ledgerOf_updLedger_ne {n i : Nat} (f : LedgerState → LedgerState) (h : i ≠ n) : (c.updLedger n f).ledgerOf i = c.ledgerOf i := Tbl.get_upd_ne _ _ _ h
@[simp] theorem Core.monOf_updMon_self (n : Nat) (f : MonChannel → MonChannel) : (c.updMon n f).monOf n = f (c.monOf n) := Tbl.get_upd_self _ _ _ _
theorem Core.monOf_updMon_ne {n i : Nat} (f : MonChannel → MonChannel) (h : i ≠ n) : (c.updMon n f).monOf i = c.monOf i := Tbl.get_upd_ne _ _ _ h
@[simp] theorem Core.streamOf_updStream_self (n : Nat) (f : StreamState → StreamState) : (c.updStream n f).streamOf n = f (c.streamOf n) := Tbl.get_upd_self _ _ _ _
theorem Core.streamOf_updStream_ne {n i : Nat} (f : StreamState → StreamState) (h : i ≠ n) : (c.updStream n f).streamOf i = c.streamOf i := Tbl.get_upd_ne _ _ _ h
@[simp] theorem Core.ringOf_updRing_self (n : Nat) (f : RingState → RingState) : (c.updRing n f).ringOf n = f (c.ringOf n) := Tbl.get_upd_self _ _ _ _
theorem Core.ringOf_updRing_ne {n i : Nat} (f : RingState → RingState) (h : i ≠ n) : (c.updRing n f).ringOf i = c.ringOf i := Tbl.get_upd_ne _ _ _ h
@[simp] theorem Core.winOf_updWin_self (n : Nat) (f : WinState → WinState) : (c.updWin n f).winOf n = f (c.winOf n) := Tbl.get_upd_self _ _ _ _
theorem Core.winOf_updWin_ne {n i : Nat} (f : WinState → WinState) (h : i ≠ n) : (c.updWin n f).winOf i = c.winOf i := Tbl.get_upd_ne _ _ _ h
@[simp] theorem Core.ctxOf_updCtx_self (n : Nat) (f : CtxState → CtxState) : (c.updCtx n f).ctxOf n = f (c.ctxOf n) := Tbl.get_upd_self _ _ _ _
theorem Core.ctxOf_updCtx_ne {n i : Nat} (f : CtxState → CtxState) (h : i ≠ n) : (c.updCtx n f).ctxOf i = c.ctxOf i := Tbl.get_upd_ne _ _ _ h
@[simp] theorem Core.jobOf_updJob_self (n : Nat) (f : JobState → JobState) : (c.updJob n f).jobOf n = f (c.jobOf n) := Tbl.get_upd_self _ _ _ _
theorem Core.jobOf_updJob_ne {n i : Nat} (f : JobState → JobState) (h : i ≠ n) : (c.updJob n f).jobOf i = c.jobOf i := Tbl.get_upd_ne _ _ _ h
@[simp] theorem Core.halfSt_updHalf_self (n : Nat) (f : HalfState → HalfState) : (c.updHalf n f).halfSt n = f (c.halfSt n) := Tbl.get_upd_self _ _ _ _
theorem Core.halfSt_updHalf_ne {n i : Nat} (f : HalfState → HalfState) (h : i ≠ n) : (c.updHalf n f).halfSt i = c.halfSt i := Tbl.get_upd_ne _ _ _ h
@[simp] theorem Core.sessionOf_updSession_self (n : Nat) (f : Session → Session) : (c.updSession n f).sessionOf n = f (c.sessionOf n) := Tbl.get_upd_self _ _ _ _
theorem Core.sessionOf_updSession_ne {n i : Nat} (f : Session → Session) (h : i ≠ n) : (c.updSession n f).sessionOf i = c.sessionOf i := Tbl.get_upd_ne _ _ _ h
@[simp] theorem Core.sailOf_updSail_self (n : Nat) (f : SailPortState → SailPortState) : (c.updSail n f).sailOf n = f (c.sailOf n) := Tbl.get_upd_self _ _ _ _
theorem Core.sailOf_updSail_ne {n i : Nat} (f : SailPortState → SailPortState) (h : i ≠ n) : (c.updSail n f).sailOf i = c.sailOf i := Tbl.get_upd_ne _ _ _ h

end Sys2Proof.Machine
end

