-- ==== Sys2Proof/Laws/Collector.lean ====
section
/-! SUPPORT. What an event of the fault collector can change: objects of the collector, the pins, what leaves the hub, what is
asked of other blocks, the collector's own state and the ledger's waiting mark; nothing else. -/

namespace Sys2Proof.Machine

namespace Core

variable {c d e : Core}

theorem FcOnly.refl (c : Core) : c.FcOnly c := ⟨rfl, fun _ _ => rfl⟩

theorem FcOnly.trans (h : c.FcOnly d) (h' : d.FcOnly e) : c.FcOnly e := by
  refine ⟨?_, fun k hk => (h'.2 k hk).trans (h.2 k hk)⟩
  have h1 := h.1
  have h2 := h'.1
  rw [h2, h1]

theorem FcOnly.get (h : c.FcOnly d) {k : Nat} (hk : ¬ isFcKey k) : d.get k = c.get k := h.2 k hk

theorem FcOnly.seq (h : c.FcOnly d) : d.seq = c.seq := by rw [h.1]
theorem FcOnly.mc (h : c.FcOnly d) : d.mc = c.mc := by rw [h.1]
theorem FcOnly.hr (h : c.FcOnly d) : d.hr = c.hr := by rw [h.1]
theorem FcOnly.tick (h : c.FcOnly d) : d.tick = c.tick := by rw [h.1]
theorem FcOnly.hubTime (h : c.FcOnly d) : d.hubTime = c.hubTime := by rw [h.1]

theorem fcOnly_put (c : Core) (k v : Nat) (h : isFcKey k) : c.FcOnly (c.put k v) :=
  ⟨rfl, fun _ hj => get_put_ne c v fun hjk => hj (hjk ▸ h)⟩

theorem fcOnly_add (c : Core) (k w n : Nat) (h : isFcKey k) : c.FcOnly (c.add k w n) := fcOnly_put c k _ h
theorem fcOnly_inc (c : Core) (k : Nat) (h : isFcKey k) : c.FcOnly (c.inc k) := fcOnly_put c k _ h
theorem fcOnly_inc64 (c : Core) (k : Nat) (h : isFcKey k) : c.FcOnly (c.inc64 k) := fcOnly_put c k _ h
theorem fcOnly_flag (c : Core) (k n : Nat) (h : isFcKey k) : c.FcOnly (c.flag k n) := fcOnly_put c k _ h
theorem fcOnly_putBit (c : Core) (k n : Nat) (b : Bool) (h : isFcKey k) : c.FcOnly (c.putBit k n b) := fcOnly_put c k _ h
theorem fcOnly_emit (c : Core) (o : Out) : c.FcOnly (c.emit o) := ⟨rfl, fun _ _ => rfl⟩
theorem fcOnly_ask (c : Core) (r : Req) : c.FcOnly (c.ask r) := ⟨rfl, fun _ _ => rfl⟩
theorem fcOnly_touch (c : Core) : c.FcOnly c.touch := ⟨rfl, fun _ _ => rfl⟩
theorem fcOnly_fc (c : Core) (f : FcState) : c.FcOnly { c with fc := f } := ⟨rfl, fun _ _ => rfl⟩
theorem fcOnly_withFc (c : Core) (f : FcState) : c.FcOnly (c.withFc f) := ⟨rfl, fun _ _ => rfl⟩

theorem fcOnly_ite {b : Prop} [Decidable b] {x y : Core} (hx : b → c.FcOnly x) (hy : ¬ b → c.FcOnly y) :
    c.FcOnly (if b then x else y) := by
  split
  · next h => exact hx h
  · next h => exact hy h

theorem fcOnly_foldl {α : Type} (l : List α) (f : Core → α → Core) (hf : ∀ (c : Core) (a : α), c.FcOnly (f c a)) (c : Core) :
    c.FcOnly (l.foldl f c) := by
  induction l generalizing c with
  | nil => exact FcOnly.refl c
  | cons a t ih => exact (hf c a).trans (ih _)

/-! ## Keys -/

theorem isFcKey_fc (n : Nat) (h : n < 0x100) : isFcKey (0x480000 + n) := by constructor <;> omega
theorem isFcKey_source (s n : Nat) (hs : s < 768) (hn : n < 0x100) : isFcKey ((0x4900 + s) * 0x100 + n) := by
  constructor <;> omega


/-! ## The operations of the collector -/

theorem fcOnly_pins (c : Core) : c.FcOnly c.pins := by
  unfold pins
  refine FcOnly.trans ?_ (fcOnly_put _ _ _ (by decide))
  refine FcOnly.trans (d := if c.errLevel = c.fc.errN then c
    else (c.withFc { c.fc with errN := c.errLevel }).emit (.pin .errN c.errLevel)) ?_ ?_
  · exact fcOnly_ite (fun _ => FcOnly.refl c) fun _ => (fcOnly_withFc c _).trans (fcOnly_emit _ _)
  · exact fcOnly_ite (fun _ => FcOnly.refl _) fun _ => (fcOnly_withFc _ _).trans (fcOnly_emit _ _)

theorem fcOnly_openWindow (c : Core) (r i o : Nat) : c.FcOnly (c.openWindow r i o) := fcOnly_fc c _

theorem fcOnly_act (c : Core) (s a r : Nat) : c.FcOnly (c.act s a r) := by
  unfold act
  have h1 : c.FcOnly (if 2 ≤ a then (c.emit .interrupt).ask (.notify c.fc.seq) else c) :=
    fcOnly_ite (fun _ => (fcOnly_emit _ _).trans (fcOnly_ask _ _)) fun _ => FcOnly.refl c
  refine h1.trans ?_
  generalize (if 2 ≤ a then (c.emit .interrupt).ask (.notify c.fc.seq) else c) = c1
  have h2 : c1.FcOnly (if 3 ≤ a then
      match (sourceInfo s).reaction with
      | 4 => (c1.openWindow 4 (sourceIndex s) c.fc.seq).ask (.scOffline (sourceIndex s) s)
      | 5 => (c1.openWindow 5 (sourceIndex s) c.fc.seq).ask (.halfOffline (sourceIndex s) s)
      | _ => c1
    else c1) := by
    refine fcOnly_ite (fun _ => ?_) fun _ => FcOnly.refl _
    split
    · exact (fcOnly_openWindow _ _ _ _).trans (fcOnly_ask _ _)
    · exact (fcOnly_openWindow _ _ _ _).trans (fcOnly_ask _ _)
    · exact FcOnly.refl _
  refine h2.trans ?_
  refine fcOnly_ite (fun _ => ?_) fun _ => fcOnly_ite (fun _ => ?_) fun _ => FcOnly.refl _
  · exact (((fcOnly_put _ _ _ (by decide)).trans (fcOnly_put _ _ _ (by decide))).trans (fcOnly_touch _)).trans
      (fcOnly_ask _ _)
  · exact (fcOnly_flag _ _ _ (by decide)).trans (fcOnly_ask _ _)

theorem fcOnly_countEvent (c : Core) (s sev : Nat) (m : Marks) (hs : s < 768) : c.FcOnly (c.countEvent s sev m) := by
  unfold countEvent
  have k1 : isFcKey (Obj.Source.STATUS s) := isFcKey_source s 2 hs (by decide)
  have k2 : isFcKey (Obj.Source.COUNT s) := isFcKey_source s 4 hs (by decide)
  have k3 : isFcKey (Obj.Source.LAST_TIME s) := isFcKey_source s 7 hs (by decide)
  refine FcOnly.trans ?_ (fcOnly_ite (fun _ => fcOnly_inc _ _ (by decide)) fun _ => FcOnly.refl _)
  refine FcOnly.trans ?_ (fcOnly_ite (fun _ => fcOnly_flag _ _ _ (by decide)) fun _ => FcOnly.refl _)
  refine FcOnly.trans ?_ (fcOnly_ite
    (fun _ => (fcOnly_inc _ _ (by decide)).trans (fcOnly_flag _ _ _ (by decide))) fun _ => FcOnly.refl _)
  exact (((fcOnly_put _ _ _ k1).trans (fcOnly_inc _ _ k2)).trans (fcOnly_put _ _ _ k3)).trans
    (fcOnly_inc64 _ _ (by decide))

theorem fcOnly_capture (c : Core) (r sev : Nat) (m : Marks) : c.FcOnly (c.capture r sev m) := by
  unfold capture
  refine fcOnly_ite (fun _ => FcOnly.refl _) fun _ => fcOnly_ite (fun _ => ?_) fun _ => ?_
  · exact (fcOnly_put _ _ _ (by decide)).trans (fcOnly_flag _ _ _ (by decide))
  · refine (fcOnly_inc c Obj.Fc.FE_LATER (by decide)).trans (fcOnly_ite (fun _ => ?_) fun _ => FcOnly.refl _)
    exact (fcOnly_put _ _ _ (by decide)).trans (fcOnly_flag _ _ _ (by decide))

theorem isFcKey_logKey (n : Nat) : isFcKey (logKey n) := by
  unfold logKey isFcKey
  simp only [Obj.EventLog.LOG]
  omega

theorem fcOnly_event (c : Core) (s : Nat) (m : Marks) (x : FaultCtx) (hs : s < 768) : c.FcOnly (c.event s m x) := by
  unfold event
  refine fcOnly_ite (fun _ => ?_) fun _ => ?_
  · exact ((fcOnly_inc _ _ (isFcKey_source s 5 hs (by decide))).trans (fcOnly_inc64 _ _ (by decide))).trans (fcOnly_fc _ _)
  · refine FcOnly.trans ?_ (fcOnly_pins _)
    refine (fcOnly_countEvent c s (c.eventSev s) m hs).trans (fcOnly_ite (fun _ => ?_) fun _ => FcOnly.refl _)
    exact ((((fcOnly_fc _ _).trans (fcOnly_put _ _ _ (isFcKey_logKey _))).trans (fcOnly_put _ _ _ (by decide))).trans
      (fcOnly_capture _ _ _ _)).trans (fcOnly_act _ _ _ _)

theorem sourceInfo?_lt {s : Nat} (h : ¬ (sourceInfo? s).isNone = true) : s < 768 := by
  have hall : ∀ r ∈ sourceMap, r.hi < 768 := by decide +kernel
  unfold sourceInfo? at h
  cases hf : sourceMap.find? fun r => decide (r.lo ≤ s ∧ s ≤ r.hi) with
  | none => rw [hf] at h; simp at h
  | some r =>
    have h1 := List.find?_some hf
    have h2 := hall r (List.mem_of_find?_eq_some hf)
    simp at h1
    omega

theorem fcOnly_raise (c : Core) (s : Nat) (x : FaultCtx) : c.FcOnly (c.raise s x) := by
  unfold raise
  split
  · exact FcOnly.refl c
  · next h =>
    split
    · exact fcOnly_fc c _
    · split
      · exact fcOnly_ite (fun _ => FcOnly.refl c) fun _ => fcOnly_fc c _
      · exact fcOnly_ite (fun _ => FcOnly.refl c) fun _ => fcOnly_event c s _ x (sourceInfo?_lt h)

theorem fcOnly_setPair (c : Core) (s v : Nat) (hs : s < 768) : c.FcOnly (c.setPair s v) :=
  (fcOnly_fc c _).trans (fcOnly_putBit _ _ _ _ (isFcKey_source s 2 hs (by decide)))

theorem fcOnly_setUnder (c : Core) (s v : Nat) : c.FcOnly (c.setUnder s v) := fcOnly_fc c _

theorem fcOnly_raiseIf (c : Core) (b : Bool) (s : Nat) (x : FaultCtx) : c.FcOnly (c.raiseIf b s x) := by
  unfold raiseIf
  split
  · exact fcOnly_raise c s x
  · exact FcOnly.refl c

theorem fcOnly_raiseStanding (c : Core) (s : Nat) (x : FaultCtx) : c.FcOnly (c.raiseStanding s x) := by
  unfold raiseStanding
  split
  · exact FcOnly.refl c
  · next h =>
    have hs := sourceInfo?_lt h
    refine (fcOnly_raise c s x).trans ?_
    split
    · exact fcOnly_setUnder _ _ _
    · split
      · exact fcOnly_ite (fun _ => fcOnly_setPair _ _ _ hs) fun _ => FcOnly.refl _
      · exact fcOnly_fc _ _

theorem fcOnly_endStanding (c : Core) (s : Nat) (hs : s < 768) : c.FcOnly (c.endStanding s) := by
  unfold endStanding
  exact fcOnly_ite (fun _ => fcOnly_setUnder c s 0) fun _ => fcOnly_ite (fun _ => FcOnly.refl c) fun _ =>
    fcOnly_setPair c s 0 hs

end Core

end Sys2Proof.Machine
end

