-- ==== Sys2Proof/Laws/Frames.lean ====
section
/-! SUPPORT. Frames over objects: which objects an operation leaves as they were, and how frames compose. -/

namespace Sys2Proof.Machine

/-- The objects under the keys of `K` hold in `d` what they hold in `c`. -/
def Core.Keeps (K : Nat → Prop) (c d : Core) : Prop := ∀ k, K k → d.get k = c.get k

namespace Core

variable {K L : Nat → Prop} {c d e : Core}

theorem Keeps.refl (K : Nat → Prop) (c : Core) : Keeps K c c := fun _ _ => rfl

theorem Keeps.trans (h : Keeps K c d) (h' : Keeps K d e) : Keeps K c e := fun k hk => (h' k hk).trans (h k hk)

theorem Keeps.mono (h : Keeps K c d) (hL : ∀ k, L k → K k) : Keeps L c d := fun k hk => h k (hL k hk)

/-- An operation that leaves the object store alone keeps every object. -/
theorem keeps_of_objs (K : Nat → Prop) (h : d.objs = c.objs) : Keeps K c d := fun k _ => by simp only [Core.get, h]

theorem keeps_put (K : Nat → Prop) (c : Core) (k v : Nat) (h : ¬ K k) : Keeps K c (c.put k v) :=
  fun _ hj => get_put_ne c v fun hjk => h (hjk ▸ hj)

theorem FcOnly.keeps (h : c.FcOnly d) : Keeps (fun k => ¬ isFcKey k) c d := h.2

theorem keeps_ite (K : Nat → Prop) {b : Prop} [Decidable b] {x y : Core} (hx : b → Keeps K c x)
    (hy : ¬ b → Keeps K c y) : Keeps K c (if b then x else y) := by
  split
  · next h => exact hx h
  · next h => exact hy h

theorem keeps_foldl {α : Type} (K : Nat → Prop) (l : List α) (f : Core → α → Core)
    (hf : ∀ (c : Core) (a : α), a ∈ l → Keeps K c (f c a)) (c : Core) : Keeps K c (l.foldl f c) := by
  induction l generalizing c with
  | nil => exact Keeps.refl K c
  | cons a t ih => exact (hf c a (by simp)).trans (ih (fun c b hb => hf c b (by simp [hb])) _)

theorem keeps_each (K : Nat → Prop) (n : Nat) (f : Core → Nat → Core) (hf : ∀ (c : Core) (i : Nat), i < n → Keeps K c (f c i))
    (c : Core) : Keeps K c (c.each n f) := by
  unfold Core.each
  exact keeps_foldl K _ f (fun c i hi => hf c i (List.mem_range.1 hi)) c

/-- A property that every step of a loop keeps holds after the loop. -/
theorem each_induct (P : Core → Prop) (n : Nat) (f : Core → Nat → Core) (c : Core) (h0 : P c)
    (hs : ∀ (c : Core) (i : Nat), i < n → P c → P (f c i)) : P (c.each n f) := by
  unfold Core.each
  have : ∀ (l : List Nat) (c : Core), (∀ i ∈ l, i < n) → P c → P (l.foldl f c) := by
    intro l
    induction l with
    | nil => exact fun c _ h => h
    | cons a t ih => exact fun c hl h => ih _ (fun i hi => hl i (by simp [hi])) (hs c a (hl a (by simp)) h)
  exact this _ c (fun i hi => List.mem_range.1 hi) h0

/-- A field that every step of a loop leaves as it was. -/
theorem each_field {α : Type} (g : Core → α) (n : Nat) (f : Core → Nat → Core)
    (hs : ∀ (c : Core) (i : Nat), g (f c i) = g c) (c : Core) : g (c.each n f) = g c :=
  each_induct (fun d => g d = g c) n f c rfl fun d i _ h => (hs d i).trans h

/-! ## Counters, flags and bits -/

theorem get_add_self (c : Core) (k w n : Nat) : (c.add k w n).get k = sat w (c.get k + n) := get_put_self _ _ _
theorem get_add_ne (c : Core) {k j : Nat} (w n : Nat) (h : j ≠ k) : (c.add k w n).get j = c.get j := get_put_ne _ _ h
theorem get_inc_self (c : Core) (k : Nat) : (c.inc k).get k = sat 32 (c.get k + 1) := get_put_self _ _ _
theorem get_inc_ne (c : Core) {k j : Nat} (h : j ≠ k) : (c.inc k).get j = c.get j := get_put_ne _ _ h
theorem get_flag_self (c : Core) (k n : Nat) : (c.flag k n).get k = setBitTo n true (c.get k) := get_put_self _ _ _
theorem get_flag_ne (c : Core) {k j : Nat} (n : Nat) (h : j ≠ k) : (c.flag k n).get j = c.get j := get_put_ne _ _ h

/-- A flag that was set reads as set. -/
theorem bitOf_flag_self (c : Core) (k n : Nat) : (c.flag k n).bitOf k n = true := by
  simp only [bitOf, get_flag_self, testBit_setBitTo_self]

theorem sat_eq_min (w v : Nat) : sat w v = min v (2 ^ w - 1) := by
  unfold sat
  have := Nat.two_pow_pos w
  split <;> omega

end Core

end Sys2Proof.Machine
end

