-- ==== Sys2Proof/Laws/Memory.lean ====
section
/-! SUPPORT. Every memory operation keeps the canonical form, and what reads find after writes. -/

namespace Sys2Proof.Machine

theorem Memory.wf_iff (m : Memory) : m.wf = true ↔
    Tbl.wf m.baseByte m.cells = true ∧ Tbl.wf m.baseMark m.marks = true ∧ Tbl.wf (fun _ => Base.zeros) m.base = true := by
  simp [Memory.wf, Bool.and_eq_true, and_assoc]

/-! ## What an unlisted address reads as depends on the bases and the zeroed ranges alone -/

@[simp] theorem Memory.baseByte_setByte (m : Memory) (a : Nat) (b : Byte) : (m.setByte a b).baseByte = m.baseByte := rfl
@[simp] theorem Memory.baseMark_setByte (m : Memory) (a : Nat) (b : Byte) : (m.setByte a b).baseMark = m.baseMark := rfl
@[simp] theorem Memory.baseByte_setMark (m : Memory) (a : Nat) (b : Bool) : (m.setMark a b).baseByte = m.baseByte := rfl
@[simp] theorem Memory.baseMark_setMark (m : Memory) (a : Nat) (b : Bool) : (m.setMark a b).baseMark = m.baseMark := rfl

/-! ## Reads after writes -/

@[simp] theorem Memory.byte_setByte_self (m : Memory) (a : Nat) (b : Byte) : (m.setByte a b).byte a = b :=
  Tbl.get_set_self _ _ _ _

theorem Memory.byte_setByte_ne (m : Memory) {a x : Nat} (b : Byte) (h : x ≠ a) : (m.setByte a b).byte x = m.byte x :=
  Tbl.get_set_ne _ _ _ h

@[simp] theorem Memory.byte_setMark (m : Memory) (a x : Nat) (b : Bool) : (m.setMark a b).byte x = m.byte x := rfl

@[simp] theorem Memory.poisoned_setByte (m : Memory) (a x : Nat) (b : Byte) :
    (m.setByte a b).poisoned x = m.poisoned x := rfl

@[simp] theorem Memory.poisoned_setMark_self (m : Memory) (a : Nat) (b : Bool) : (m.setMark a b).poisoned a = b := by
  have h : Tbl.get m.baseMark (m.setMark a b).marks a = ofBool b := Tbl.get_set_self m.baseMark _ _ _
  cases b <;> simp [Memory.poisoned, h, ofBool]

theorem Memory.poisoned_setMark_ne (m : Memory) {a x : Nat} (b : Bool) (h : x ≠ a) :
    (m.setMark a b).poisoned x = m.poisoned x := by
  have h : Tbl.get m.baseMark (m.setMark a b).marks x = Tbl.get m.baseMark m.marks x :=
    Tbl.get_set_ne m.baseMark _ _ h
  simp [Memory.poisoned, h]

/-- Bytes outside the written ones are as before. -/
theorem Memory.byte_setBytes_out (l : List Byte) (m : Memory) (a x : Nat) (h : x < a ∨ a + l.length ≤ x) :
    (m.setBytes a l).byte x = m.byte x := by
  induction l generalizing m a with
  | nil => rfl
  | cons b t ih =>
    simp only [List.length_cons] at h
    rw [Memory.setBytes, ih _ _ (by omega), Memory.byte_setByte_ne]
    omega

/-- The written bytes read as written. -/
theorem Memory.byte_setBytes_in (l : List Byte) (m : Memory) (a i : Nat) (h : i < l.length) :
    (m.setBytes a l).byte (a + i) = l[i] := by
  induction l generalizing m a i with
  | nil => simp at h
  | cons b t ih =>
    rw [Memory.setBytes]
    cases i with
    | zero =>
      rw [Memory.byte_setBytes_out t _ _ _ (by omega)]
      simp
    | succ i =>
      have := ih (m.setByte a b) (a + 1) i (by simpa using h)
      rw [show a + (i + 1) = a + 1 + i by omega, this]
      simp

theorem Memory.poisoned_setBytes (l : List Byte) (m : Memory) (a x : Nat) : (m.setBytes a l).poisoned x = m.poisoned x := by
  induction l generalizing m a with
  | nil => rfl
  | cons b t ih => rw [Memory.setBytes, ih]; rfl

/-! ## The canonical form -/

theorem Memory.wf_setByte (m : Memory) (a : Nat) (b : Byte) (h : m.wf = true) : (m.setByte a b).wf = true := by
  rw [Memory.wf_iff] at h ⊢
  exact ⟨Tbl.wf_set m.baseByte _ _ _ h.1, h.2.1, h.2.2⟩

theorem Memory.wf_setMark (m : Memory) (a : Nat) (b : Bool) (h : m.wf = true) : (m.setMark a b).wf = true := by
  rw [Memory.wf_iff] at h ⊢
  exact ⟨h.1, Tbl.wf_set m.baseMark _ _ _ h.2.1, h.2.2⟩

theorem Memory.wf_setBytes (l : List Byte) (m : Memory) (a : Nat) (h : m.wf = true) : (m.setBytes a l).wf = true := by
  induction l generalizing m a with
  | nil => exact h
  | cons b t ih => exact ih _ _ (Memory.wf_setByte m a b h)

theorem Memory.wf_setBurst (m : Memory) (pa data : Nat) (p : Bool) (h : m.wf = true) : (m.setBurst pa data p).wf = true :=
  Memory.wf_setMark _ _ _ (Memory.wf_setBytes _ _ _ h)

/-- A range that lost a subchannel covers what it covered elsewhere, and nothing there. -/
theorem ZeroSpan.covers_lost (z : ZeroSpan) (sc pa : Nat) :
    ({ z with lost := setBitTo sc true z.lost } : ZeroSpan).covers pa = (z.covers pa && !(pa / 2 ^ 32 == sc)) := by
  have hbit : (setBitTo sc true z.lost).testBit (pa / 2 ^ 32) = (z.lost.testBit (pa / 2 ^ 32) || pa / 2 ^ 32 == sc) := by
    rw [testBit_setBitTo]
    by_cases h : pa / 2 ^ 32 = sc
    · rw [if_pos h, beq_iff_eq.2 h, Bool.or_true]
    · rw [if_neg h, beq_eq_false_iff_ne.2 h, Bool.or_false]
  unfold ZeroSpan.covers
  simp only [hbit]
  cases z.lost.testBit (pa / 2 ^ 32) <;> cases (pa / 2 ^ 32 == sc) <;> simp

/-- Of a subchannel that takes a new base, nothing counts as zeroed; elsewhere nothing changes. -/
theorem Memory.isZeroed_rebase (m : Memory) (sc pa : Nat) (b : Base) :
    (m.rebase sc b).isZeroed pa = (m.isZeroed pa && !(pa / 2 ^ 32 == sc)) := by
  simp only [Memory.isZeroed, Memory.rebase, List.any_map]
  induction m.zeroed with
  | nil => simp
  | cons z t ih =>
    simp only [List.any_cons, ih, Function.comp, ZeroSpan.covers_lost]
    cases (pa / 2 ^ 32 == sc) <;> simp

theorem Memory.wf_rebase (m : Memory) (sc : Nat) (b : Base) (h : m.wf = true) : (m.rebase sc b).wf = true := by
  rw [Memory.wf_iff] at h ⊢
  refine ⟨Tbl.wf_drop m.baseByte m.cells (fun a => a / 2 ^ 38 == sc) h.1 fun a ha => ?_,
    Tbl.wf_drop m.baseMark m.marks (fun a => a / 2 ^ 32 == sc) h.2.1 fun a ha => ?_, Tbl.wf_set _ _ _ _ h.2.2⟩
  · have ha : a / 2 ^ 38 ≠ sc := by simpa using ha
    have hz : (m.rebase sc b).isZeroed (a / 64) = m.isZeroed (a / 64) := by
      rw [Memory.isZeroed_rebase, show a / 64 / 2 ^ 32 = a / 2 ^ 38 by omega,
        beq_eq_false_iff_ne.2 ha, Bool.not_false, Bool.and_true]
    unfold Memory.baseByte
    rw [hz]
    have : Tbl.get (fun _ => Base.zeros) (m.rebase sc b).base (a / 2 ^ 38) = Tbl.get (fun _ => Base.zeros) m.base (a / 2 ^ 38) :=
      Tbl.get_set_ne _ _ _ ha
    rw [this]
  · have ha : a / 2 ^ 32 ≠ sc := by simpa using ha
    have hz : (m.rebase sc b).isZeroed a = m.isZeroed a := by
      rw [Memory.isZeroed_rebase, beq_eq_false_iff_ne.2 ha, Bool.not_false, Bool.and_true]
    unfold Memory.baseMark
    rw [hz]
    have : Tbl.get (fun _ => Base.zeros) (m.rebase sc b).base (a / 2 ^ 32) = Tbl.get (fun _ => Base.zeros) m.base (a / 2 ^ 32) :=
      Tbl.get_set_ne _ _ _ ha
    rw [this]

theorem Memory.wf_epoch (m : Memory) (n : Nat) (h : m.wf = true) : ({ m with epoch := n } : Memory).wf = true := by
  rw [Memory.wf_iff] at h ⊢
  exact h

theorem Memory.wf_lose (m : Memory) (sc : Nat) (h : m.wf = true) : (m.lose sc).wf = true :=
  Memory.wf_epoch _ _ (Memory.wf_rebase m sc (.free m.epoch) h)

theorem pairwise_range_map (k n : Nat) (f : Nat → Base) :
    ((List.range n).map fun i => (i, f (k + i))).Pairwise fun a b => a.1 < b.1 := by
  rw [List.pairwise_map]
  exact List.pairwise_lt_range

theorem Memory.wf_loseAll (m : Memory) : m.loseAll.wf = true := by
  rw [Memory.wf_iff]
  refine ⟨rfl, rfl, ?_⟩
  rw [Tbl.wf_iff]
  refine ⟨pairwise_range_map m.epoch 32 Base.free, fun e he => ?_⟩
  obtain ⟨i, -, rfl⟩ := List.mem_map.1 he
  simp

theorem Memory.wf_init : Memory.init.wf = true := Memory.wf_loseAll { Memory.init with epoch := 0 }

theorem Memory.wf_zero (m : Memory) (map lo hi : Nat) (h : m.wf = true) : (m.zero map lo hi).wf = true := by
  rw [Memory.wf_iff] at h ⊢
  refine ⟨Tbl.wf_drop m.baseByte m.cells (fun a => (⟨map, lo, hi, 0⟩ : ZeroSpan).covers (a / 64)) h.1 fun a ha => ?_,
    Tbl.wf_drop m.baseMark m.marks (fun pa => (⟨map, lo, hi, 0⟩ : ZeroSpan).covers pa) h.2.1 fun a ha => ?_, h.2.2⟩
  · have hz : (m.zero map lo hi).isZeroed (a / 64) = m.isZeroed (a / 64) := by
      simp only [Memory.isZeroed, Memory.zero, List.any_cons, ha, Bool.false_or]
    unfold Memory.baseByte
    rw [hz]; rfl
  · have hz : (m.zero map lo hi).isZeroed a = m.isZeroed a := by
      simp only [Memory.isZeroed, Memory.zero, List.any_cons, ha, Bool.false_or]
    unfold Memory.baseMark
    rw [hz]; rfl

/-! ## Zeroed ranges -/

/-- A zeroed burst reads as zeros, not poisoned, until something is written. -/
theorem Memory.byte_zero (m : Memory) (map lo hi a : Nat) (h : (⟨map, lo, hi, 0⟩ : ZeroSpan).covers (a / 64) = true) :
    (m.zero map lo hi).byte a = 0 := by
  have hn : ∀ t : Tbl Byte, Tbl.get (m.zero map lo hi).baseByte (Tbl.drop t fun x => (⟨map, lo, hi, 0⟩ : ZeroSpan).covers (x / 64)) a
      = (m.zero map lo hi).baseByte a := by
    intro t
    induction t with
    | nil => rfl
    | cons e t ih =>
      obtain ⟨k, v⟩ := e
      by_cases hk : (⟨map, lo, hi, 0⟩ : ZeroSpan).covers (k / 64) = true
      · simp only [Tbl.drop, List.filter_cons, hk, Bool.not_true, Bool.false_eq_true, if_false] at ih ⊢; exact ih
      · have hne : a ≠ k := fun h' => hk (h' ▸ h)
        simp only [Tbl.drop, List.filter_cons, hk, Bool.not_false, if_true, Tbl.get, hne, if_false] at ih ⊢; exact ih
  refine (hn m.cells).trans ?_
  simp [Memory.baseByte, Memory.isZeroed, Memory.zero, h]

end Sys2Proof.Machine
end

