-- ==== Sys2Proof/Laws/Run.lean ====
section
/-! SUPPORT. What running a command does around the command's own effect: the end of a command, the conditions, and the
write of an object. -/

namespace Sys2Proof.Machine

/-! ## The cleared state -/

@[simp] theorem State.clear_mem (s : State) : s.clear.mem = s.mem := rfl
@[simp] theorem State.clear_fuses (s : State) : s.clear.fuses = s.fuses := rfl
@[simp] theorem State.clear_latch (s : State) : s.clear.latch = s.latch := rfl
@[simp] theorem State.clear_pending (s : State) : s.clear.pending = s.pending := rfl
@[simp] theorem State.clear_out (s : State) : s.clear.core.out = [] := rfl
@[simp] theorem State.clear_req (s : State) : s.clear.core.req = [] := rfl
@[simp] theorem State.clear_get (s : State) (k : Nat) : s.clear.core.get k = s.core.get k := rfl
@[simp] theorem State.clear_bitOf (s : State) (k n : Nat) : s.clear.core.bitOf k n = s.core.bitOf k n := rfl
@[simp] theorem State.clear_isSet (s : State) (k : Nat) : s.clear.core.isSet k = s.core.isSet k := rfl
@[simp] theorem State.clear_mcOf (s : State) (n : Nat) : s.clear.core.mcOf n = s.core.mcOf n := rfl
@[simp] theorem State.clear_portOf (s : State) (n : Nat) : s.clear.core.portOf n = s.core.portOf n := rfl
@[simp] theorem State.clear_seq (s : State) : s.clear.core.seq = s.core.seq := rfl
@[simp] theorem State.clear_fc (s : State) : s.clear.core.fc = s.core.fc := rfl
@[simp] theorem State.clear_objs (s : State) : s.clear.core.objs = s.core.objs := rfl
@[simp] theorem State.clear_hubUp (s : State) : s.clear.core.hubUp = s.core.hubUp := rfl
@[simp] theorem State.clear_seqUp (s : State) : s.clear.core.seqUp = s.core.seqUp := rfl
@[simp] theorem State.clear_clear (s : State) : s.clear.clear = s.clear := rfl

/-! ## The end of a command -/

/-- Nothing follows a command whose events asked nothing. -/
theorem State.settle_of_req_nil (s : State) (h : s.core.req = []) : s.settle = s := by simp [State.settle, h]

theorem State.settleRound_mem (s : State) : s.settleRound.mem = s.mem := rfl
theorem State.settleRound_fuses (s : State) : s.settleRound.fuses = s.fuses := rfl
theorem State.settleRound_pending (s : State) : s.settleRound.pending = s.pending := rfl

/-- The lockout latch stays set, and is set by a LOCKOUT request alone (R328). -/
theorem State.settleRound_latch (s : State) : s.settleRound.latch = (s.latch || s.core.req.contains .lockout) := rfl

/-- The rounds change neither DRAM, nor fuses, nor the queue, and the latch never falls. -/
theorem State.settleRounds_frame (n : Nat) (s : State) :
    (State.settleRounds n s).mem = s.mem ∧ (State.settleRounds n s).fuses = s.fuses ∧
    (State.settleRounds n s).pending = s.pending ∧ (s.latch = true → (State.settleRounds n s).latch = true) := by
  induction n generalizing s with
  | zero => exact ⟨rfl, rfl, rfl, id⟩
  | succ n ih =>
    unfold State.settleRounds
    split
    · exact ⟨rfl, rfl, rfl, id⟩
    · obtain ⟨h1, h2, h3, h4⟩ := ih s.settleRound
      exact ⟨h1, h2, h3, fun h => h4 (by rw [State.settleRound_latch, h, Bool.true_or])⟩

theorem State.settle_frame (s : State) :
    s.settle.mem = s.mem ∧ s.settle.fuses = s.fuses ∧ s.settle.pending = s.pending ∧
    (s.latch = true → s.settle.latch = true) := by
  unfold State.settle
  split
  · exact ⟨rfl, rfl, rfl, id⟩
  · obtain ⟨a1, a2, a3, a4⟩ := State.settleRounds_frame 8 s
    refine ⟨?_, ?_, ?_, fun h => ?_⟩
    · rw [(State.settleRounds_frame 8 _).1]; exact a1
    · rw [(State.settleRounds_frame 8 _).2.1]; exact a2
    · rw [(State.settleRounds_frame 8 _).2.2.1]; exact a3
    · exact (State.settleRounds_frame 8 _).2.2.2 (a4 h)

@[simp] theorem State.settle_mem (s : State) : s.settle.mem = s.mem := s.settle_frame.1
@[simp] theorem State.settle_fuses (s : State) : s.settle.fuses = s.fuses := s.settle_frame.2.1
@[simp] theorem State.settle_pending (s : State) : s.settle.pending = s.pending := s.settle_frame.2.2.1

/-! ## Effects -/

/-- A command whose effect asks nothing ends in just that effect. -/
theorem State.act_eq (s : State) (f : State → State) (h : (f s.clear).core.req = []) : s.act f = f s.clear := by
  rw [State.act, State.settle_of_req_nil _ h]

theorem State.onCore_eq (s : State) (f : Core → Core) (h : (f s.clear.core).req = []) :
    s.onCore f = { s.clear with core := f s.clear.core } := State.act_eq s _ h

theorem State.onMem_eq (s : State) (f : Core → Memory → Core × Memory) (h : (f s.clear.core s.mem).1.req = []) :
    s.onMem f = { s.clear with core := (f s.clear.core s.mem).1, mem := (f s.clear.core s.mem).2 } := State.act_eq s _ h

theorem State.onHub_eq (s : State) (f : Core → Core) (hu : s.core.hubUp = true) (h : (f s.clear.core).req = []) :
    s.onHub f = { s.clear with core := f s.clear.core } := by
  simp only [State.onHub, State.when, hu, if_true]; exact State.onCore_eq s f h

theorem State.onHubMem_eq (s : State) (f : Core → Memory → Core × Memory) (hu : s.core.hubUp = true)
    (h : (f s.clear.core s.mem).1.req = []) :
    s.onHubMem f = { s.clear with core := (f s.clear.core s.mem).1, mem := (f s.clear.core s.mem).2 } := by
  simp only [State.onHubMem, State.when, hu, if_true]; exact State.onMem_eq s f h

theorem State.onPower_eq (s : State) (f : Core → Core) (hu : s.core.seqUp = true) (h : (f s.clear.core).req = []) :
    s.onPower f = { s.clear with core := f s.clear.core } := by
  simp only [State.onPower, State.when, hu, if_true]; exact State.onCore_eq s f h

theorem State.onFuses_eq (s : State) (f : Core → Fuses → Core) (hu : s.core.seqUp = true)
    (h : (f s.clear.core s.fuses).req = []) : s.onFuses f = { s.clear with core := f s.clear.core s.fuses } := by
  simp only [State.onFuses, State.when, hu, if_true]; exact State.onCore_eq s _ h

theorem State.onAo_eq (s : State) (f : Core → Core) (hu : s.core.seq.aoUp = true) (h : (f s.clear.core).req = []) :
    s.onAo f = { s.clear with core := f s.clear.core } := by
  simp only [State.onAo, State.when, hu, if_true]; exact State.onCore_eq s f h

theorem State.onAoMem_eq (s : State) (f : Core → Memory → Core × Memory) (hu : s.core.seq.aoUp = true)
    (h : (f s.clear.core s.mem).1.req = []) :
    s.onAoMem f = { s.clear with core := (f s.clear.core s.mem).1, mem := (f s.clear.core s.mem).2 } := by
  simp only [State.onAoMem, State.when, hu, if_true]; exact State.onMem_eq s f h

/-! ## Frames of the effects -/

/-- Every effect on Core alone leaves DRAM, fuses and queue as they were and never clears the latch. -/
theorem State.onCore_frame (s : State) (f : Core → Core) :
    (s.onCore f).mem = s.mem ∧ (s.onCore f).fuses = s.fuses ∧ (s.onCore f).pending = s.pending ∧
    (s.latch = true → (s.onCore f).latch = true) := State.settle_frame _

theorem State.onMem_frame (s : State) (f : Core → Memory → Core × Memory) :
    (s.onMem f).mem = (f s.clear.core s.mem).2 ∧ (s.onMem f).fuses = s.fuses ∧ (s.onMem f).pending = s.pending ∧
    (s.latch = true → (s.onMem f).latch = true) := State.settle_frame _

end Sys2Proof.Machine
end

