-- ==== Sys2Proof/Laws/Power.lean ====
section
/-! SUPPORT. What the steps of the sequencer and the entries of device states do to the objects, and what the statements'
vocabulary (Safety.lean) needs of a command's effect. -/

namespace Sys2Proof.Machine

/-! ## Answers -/

theorem answersCore_onCore {i : Instr} {s : State} {P : Core → Prop} (f : Core → Core) (hi : exec i s = .next (s.onCore f))
    (hr : (f s.clear.core).req = []) (hp : P (f s.clear.core)) : AnswersCore i s P :=
  ⟨f s.clear.core, by rw [hi, State.onCore_eq s f hr]; rfl, hp⟩

theorem answersCore_onAo {i : Instr} {s : State} {P : Core → Prop} (f : Core → Core) (hi : exec i s = .next (s.onAo f))
    (hu : s.core.seq.aoUp = true) (hr : (f s.clear.core).req = []) (hp : P (f s.clear.core)) : AnswersCore i s P :=
  ⟨f s.clear.core, by rw [hi, State.onAo_eq s f hu hr]; rfl, hp⟩

theorem answersCore_onHub {i : Instr} {s : State} {P : Core → Prop} (f : Core → Core) (hi : exec i s = .next (s.onHub f))
    (hu : s.core.hubUp = true) (hr : (f s.clear.core).req = []) (hp : P (f s.clear.core)) : AnswersCore i s P :=
  ⟨f s.clear.core, by rw [hi, State.onHub_eq s f hu hr]; rfl, hp⟩

theorem answersCore_onPower {i : Instr} {s : State} {P : Core → Prop} (f : Core → Core)
    (hi : exec i s = .next (s.onPower f)) (hu : s.core.seqUp = true) (hr : (f s.clear.core).req = [])
    (hp : P (f s.clear.core)) : AnswersCore i s P :=
  ⟨f s.clear.core, by rw [hi, State.onPower_eq s f hu hr]; rfl, hp⟩

theorem answersThen_onCore {i : Instr} {s : State} {P : Core → Prop} (f : Core → Core) (hi : exec i s = .next (s.onCore f))
    (hp : P (f s.clear.core)) : AnswersThen i s P := ⟨f s.clear.core, hi, hp⟩

theorem answersThen_onAo {i : Instr} {s : State} {P : Core → Prop} (f : Core → Core) (hi : exec i s = .next (s.onAo f))
    (hu : s.core.seq.aoUp = true) (hp : P (f s.clear.core)) : AnswersThen i s P :=
  ⟨f s.clear.core, by rw [hi, State.onAo, State.when, hu]; rfl, hp⟩

theorem answersThen_onHub {i : Instr} {s : State} {P : Core → Prop} (f : Core → Core) (hi : exec i s = .next (s.onHub f))
    (hu : s.core.hubUp = true) (hp : P (f s.clear.core)) : AnswersThen i s P :=
  ⟨f s.clear.core, by rw [hi, State.onHub, State.when, hu]; rfl, hp⟩

theorem answersThen_onPower {i : Instr} {s : State} {P : Core → Prop} (f : Core → Core)
    (hi : exec i s = .next (s.onPower f)) (hu : s.core.seqUp = true) (hp : P (f s.clear.core)) : AnswersThen i s P :=
  ⟨f s.clear.core, by rw [hi, State.onPower, State.when, hu]; rfl, hp⟩

namespace Core

/-! ## Objects that the entry of a device state leaves alone -/

/-- Keys of the collector and of the device-state objects (0x4800 to 0x4FFF, 0x5900). -/
abbrev devKey (k : Nat) : Prop := isFcKey k ∨ (0x590000 ≤ k ∧ k < 0x590100)

theorem keeps_setDev (c : Core) (v : Nat) : Keeps (fun k => ¬ devKey k) c (c.setDev v) := by
  unfold setDev
  refine keeps_ite _ (fun _ => Keeps.refl _ c) fun _ => ?_
  refine Keeps.trans (Keeps.trans ?_ ((fcOnly_pins _).keeps.mono fun k hk => fun h => hk (.inl h)))
    (keeps_of_objs _ rfl)
  exact (((keeps_put _ _ _ _ (by decide)).trans (keeps_put _ _ _ _ (by decide))).trans
    (keeps_put _ _ _ _ (by decide))).trans (keeps_put _ _ _ _ (by decide))

theorem pins_seq (c : Core) : c.pins.seq = c.seq := (fcOnly_pins c).seq

@[simp] theorem setDev_seq (c : Core) (v : Nat) : (c.setDev v).seq = c.seq := by
  unfold setDev
  split
  · rfl
  · simp only [ask, pins_seq]; rfl

/-- Outside LOCKOUT the device state becomes the one entered. -/
theorem dev_setDev (c : Core) (v : Nat) (h : c.dev ≠ Dv.lockout) : (c.setDev v).dev = v := by
  unfold setDev
  by_cases hv : c.dev = v
  · simp [hv]
  · simp only [h, hv, decide_false, Bool.or_self, Bool.false_eq_true, if_false]
    show ((pins _).ask .health).get Obj.Dev.DEVICE_STATE = v
    rw [get_ask, (fcOnly_pins _).get (by decide)]
    simp [flag, get_put]

theorem each_objs (n : Nat) (f : Core → Nat → Core) (c : Core) (hs : ∀ (c : Core) (i : Nat), (f c i).objs = c.objs) :
    (c.each n f).objs = c.objs := each_field (fun c => c.objs) n f hs c

theorem each_seq (n : Nat) (f : Core → Nat → Core) (c : Core) (hs : ∀ (c : Core) (i : Nat), (f c i).seq = c.seq) :
    (c.each n f).seq = c.seq := each_field (fun c => c.seq) n f hs c

theorem give_keeps (c : Core) (k n : Nat) :
    (if c.holds k n then c.release k n else c).objs = c.objs ∧ (if c.holds k n then c.release k n else c).seq = c.seq := by
  split <;> exact ⟨rfl, rfl⟩

theorem flushDone_keeps (c : Core) : c.flushDone.objs = c.objs ∧ c.flushDone.seq = c.seq := by
  unfold flushDone; split <;> exact ⟨rfl, rfl⟩

/-- RESET_n of a subchannel touches no object and nothing of the sequencer. -/
theorem resetDevice_keeps (c : Core) (n : Nat) : (c.resetDevice n).objs = c.objs ∧ (c.resetDevice n).seq = c.seq := by
  unfold resetDevice
  dsimp only [List.foldl]
  rw [(flushDone_keeps _).1, (flushDone_keeps _).2, (give_keeps _ _ _).1, (give_keeps _ _ _).2, (give_keeps _ _ _).1,
    (give_keeps _ _ _).2, (give_keeps _ _ _).1, (give_keeps _ _ _).2]
  exact ⟨rfl, rfl⟩

@[simp] theorem resetDram_objs (c : Core) : c.resetDram.objs = c.objs := by
  unfold resetDram
  rw [each_objs]
  intro d i
  rw [objs_updDdr]
  split
  · rfl
  · exact (resetDevice_keeps d i).1

@[simp] theorem resetDram_seq (c : Core) : c.resetDram.seq = c.seq := by
  unfold resetDram
  rw [each_seq]
  intro d i
  rw [seq_updDdr]
  split
  · rfl
  · exact (resetDevice_keeps d i).2

@[simp] theorem driveDn_objs (c : Core) (b : Bool) : (c.driveDn b).objs = c.objs := by
  unfold driveDn; split <;> rfl

@[simp] theorem driveUp_objs (c : Core) (b : Bool) : (c.driveUp b).objs = c.objs := by
  unfold driveUp; split <;> rfl

@[simp] theorem get_resetDram (c : Core) (k : Nat) : c.resetDram.get k = c.get k := by simp only [Core.get, resetDram_objs]

/-- The objects after a descent began with rails to release: DESCENT is entered, SEQ_STATE is 3 and margins are cleared. -/
theorem beginDescent_objs (c : Core) (r : Nat) (l : List Nat) : (c.beginDescent (r :: l)).objs =
    (((c.resetDram).setDev Dv.descent).put Obj.Seq.SEQ_STATE 3).neutralMargins.objs := by
  unfold beginDescent
  rw [if_neg (List.cons_ne_nil r l)]
  generalize ((c.resetDram.setDev Dv.descent).put Obj.Seq.SEQ_STATE 3).neutralMargins = x
  exact driveDn_objs x false

theorem pmbus_objs (c : Core) (rc code : Nat) (d : Option Nat) : (c.pmbus rc code d).objs = c.objs := by
  unfold pmbus; split <;> rfl

/-- The margins return to neutral: their own objects alone change. -/
theorem neutralMargins_keeps (c : Core) :
    Keeps (fun k => ∀ i, i < 16 → k ≠ Obj.Rail.MARGIN i ∧ k ≠ Obj.Rail.MARGIN_APPLIED i) c c.neutralMargins := by
  unfold neutralMargins
  refine keeps_each _ 16 _ (fun d i hi => ?_) c
  have h1 := keeps_put (fun k => ∀ i, i < 16 → k ≠ Obj.Rail.MARGIN i ∧ k ≠ Obj.Rail.MARGIN_APPLIED i) d
    (Obj.Rail.MARGIN i) 0 fun h => (h i hi).1 rfl
  dsimp only
  split
  · exact h1
  · refine h1.trans ?_
    unfold driveMargin
    refine (keeps_put _ _ _ (ofSigned 32 0) fun h => (h i hi).2 rfl).trans ?_
    dsimp only
    split
    · exact keeps_of_objs _ (pmbus_objs _ _ _ _)
    · exact keeps_of_objs _ rfl

theorem beginDescent_todo (c : Core) (r : Nat) (l : List Nat) : (c.beginDescent (r :: l)).seq.todo = r :: l := by
  unfold beginDescent
  rw [if_neg (List.cons_ne_nil r l), Core.seq_withSeq]

theorem beginDescent_get (c : Core) (r : Nat) (l : List Nat) (k : Nat)
    (hk : ∀ i, i < 16 → k ≠ Obj.Rail.MARGIN i ∧ k ≠ Obj.Rail.MARGIN_APPLIED i) :
    (c.beginDescent (r :: l)).get k = (((c.resetDram).setDev Dv.descent).put Obj.Seq.SEQ_STATE 3).get k := by
  rw [← neutralMargins_keeps (((c.resetDram).setDev Dv.descent).put Obj.Seq.SEQ_STATE 3) k hk]
  simp only [Core.get, beginDescent_objs]

/-- With rails to release SEQ_STATE is 3 (R283). -/
theorem beginDescent_state (c : Core) (r : Nat) (l : List Nat) : (c.beginDescent (r :: l)).get Obj.Seq.SEQ_STATE = 3 := by
  rw [beginDescent_get c r l _ fun i hi => ⟨by simp only [Obj.Seq.SEQ_STATE, Obj.Rail.MARGIN]; omega,
    by simp only [Obj.Seq.SEQ_STATE, Obj.Rail.MARGIN_APPLIED]; omega⟩, get_put_self]

/-- Every other object but the device state's, the collector's and the margins is kept. -/
theorem beginDescent_keeps (c : Core) (r : Nat) (l : List Nat) {k : Nat} (h1 : ¬ devKey k) (h2 : k ≠ Obj.Seq.SEQ_STATE)
    (h3 : ∀ i, i < 16 → k ≠ Obj.Rail.MARGIN i ∧ k ≠ Obj.Rail.MARGIN_APPLIED i) :
    (c.beginDescent (r :: l)).get k = c.get k := by
  rw [beginDescent_get c r l k h3, get_put_ne _ _ h2, keeps_setDev _ _ k h1, get_resetDram]


@[simp] theorem driveUp_noCascade (c : Core) (b : Bool) : (c.driveUp b).seq.noCascade = c.seq.noCascade := by
  unfold driveUp; split <;> rfl

@[simp] theorem startTime_objs (c : Core) : c.startTime.objs = c.objs := rfl
@[simp] theorem startTime_seq (c : Core) : c.startTime.seq = c.seq := rfl
@[simp] theorem startTime_hubTime (c : Core) : c.startTime.hubTime = 0 := rfl
@[simp] theorem startTime_timeRuns (c : Core) : c.startTime.timeRuns = true := rfl

/-- The entry of UP: the hub just before the device enters SELFTEST (R22, R282, R397). -/
theorem seqEnterUp_eq (c : Core) : ∃ d : Core, c.seqEnterUp = d.setDev Dv.selftest ∧
    d.objs = ((((c.put Obj.Seq.SEQ_STATE 2).put Obj.Seq.FAIL_COUNT 0).put Obj.Seq.ON_PENDING 0).put
      Obj.Time.DISC_STATE (ofBool (c.get Obj.Time.TIME_SOURCE ≠ 0))).objs ∧
    d.hubTime = 0 ∧ d.timeRuns = true ∧ d.seq.phase = .rest ∧ d.seq.noCascade = c.seq.noCascade := by
  unfold seqEnterUp
  refine ⟨_, rfl, ?_, ?_, ?_, ?_, ?_⟩
  · rw [objs_withStart, objs_withSeq, startTime_objs, each_objs]
    · simp only [Core.put, driveUp_objs]
    · exact fun _ _ => rfl
  · rw [hubTime_withStart, hubTime_withSeq, startTime_hubTime]
  · rw [timeRuns_withStart, timeRuns_withSeq, startTime_timeRuns]
  · rw [seq_withStart, seq_withSeq]
  · rw [seq_withStart, seq_withSeq, each_seq]
    · rw [seq_put, driveUp_noCascade]; rfl
    · exact fun _ _ => rfl

theorem setDev_hubTime (c : Core) (v : Nat) : (c.setDev v).hubTime = c.hubTime := by
  unfold setDev
  split
  · rfl
  · simp only [hubTime_ask, (fcOnly_pins _).hubTime]; rfl

theorem setDev_timeRuns (c : Core) (v : Nat) : (c.setDev v).timeRuns = c.timeRuns := by
  unfold setDev
  split
  · rfl
  · have h : ∀ c : Core, c.pins.timeRuns = c.timeRuns := fun c => by rw [(fcOnly_pins c).1]
    simp only [timeRuns_ask, h]; rfl


/-! ## A RAMP that fails (R281, R288) -/

/-- FAIL_COUNT and the flags of a failed RAMP, before the descent. -/
def rampFailed (c : Core) : Core :=
  let c1 := (c.add Obj.Seq.FAIL_COUNT 8 1).flag Obj.Seq.FLAGS 2
  if c1.get Obj.Seq.RAMP_RETRY < c1.get Obj.Seq.FAIL_COUNT then c1.flag Obj.Seq.FLAGS 6 else c1

theorem rampFailed_failCount (c : Core) : c.rampFailed.get Obj.Seq.FAIL_COUNT = min (c.get Obj.Seq.FAIL_COUNT + 1) 255 := by
  unfold rampFailed
  dsimp only
  split <;> simp (disch := omega) [flag, add, get_put_ne, sat_eq_min]

theorem rampFailed_flag (c : Core) : c.rampFailed.bitOf Obj.Seq.FLAGS 2 = true := by
  unfold rampFailed
  dsimp only
  split <;> simp (disch := omega) [flag, add, get_put_ne, bitOf, testBit_setBitTo]

theorem rampFailed_keeps (c : Core) {k : Nat} (h1 : k ≠ Obj.Seq.FAIL_COUNT) (h2 : k ≠ Obj.Seq.FLAGS) :
    c.rampFailed.get k = c.get k := by
  unfold rampFailed
  dsimp only
  split
  · rw [get_flag_ne _ _ h2, get_flag_ne _ _ h2, get_add_ne _ _ _ h1]
  · rw [get_flag_ne _ _ h2, get_add_ne _ _ _ h1]

theorem rampFailed_seq (c : Core) : c.rampFailed.seq = c.seq := by
  unfold rampFailed; dsimp only; split <;> rfl

/-- With a rail to release, a RAMP that fails counts and descends. -/
theorem rampFail_facts (c : Core) (rc : Nat) (hm : rc ∈ c.descentList) (hs : c.get (Obj.Rail.STATE rc) ≠ 6) :
    c.rampFail.get Obj.Seq.SEQ_STATE = 3 ∧
    c.rampFail.get Obj.Seq.FAIL_COUNT = min (c.get Obj.Seq.FAIL_COUNT + 1) 255 ∧
    c.rampFail.bitOf Obj.Seq.FLAGS 2 = true ∧
    ∀ k, ¬ devKey k → k ≠ Obj.Seq.SEQ_STATE → k ≠ Obj.Seq.FAIL_COUNT → k ≠ Obj.Seq.FLAGS →
      (∀ i, i < 16 → k ≠ Obj.Rail.MARGIN i ∧ k ≠ Obj.Rail.MARGIN_APPLIED i) → c.rampFail.get k = c.get k := by
  have he : c.rampFail = c.rampFailed.beginDescent (c.rampFailed.descentList.filter fun r => c.rampFailed.railState r ≠ 6) := rfl
  have hl : rc ∈ c.rampFailed.descentList.filter fun r => c.rampFailed.railState r ≠ 6 := by
    rw [List.mem_filter]
    refine ⟨?_, ?_⟩
    · unfold descentList at hm ⊢; rw [rampFailed_seq]; exact hm
    · have : c.rampFailed.railState rc = c.get (Obj.Rail.STATE rc) :=
        rampFailed_keeps c (by simp only [Obj.Rail.STATE, Obj.Seq.FAIL_COUNT]; omega)
          (by simp only [Obj.Rail.STATE, Obj.Seq.FLAGS]; omega)
      simpa [this] using hs
  have hm : ∀ a ∈ [Obj.Seq.FAIL_COUNT, Obj.Seq.FLAGS], ¬ devKey a ∧ a ≠ Obj.Seq.SEQ_STATE ∧
      ∀ i, i < 16 → a ≠ Obj.Rail.MARGIN i ∧ a ≠ Obj.Rail.MARGIN_APPLIED i := by
    intro a ha
    simp only [List.mem_cons, List.not_mem_nil, or_false] at ha
    rcases ha with rfl | rfl <;> refine ⟨by decide, by decide, fun i hi => ?_⟩ <;>
      simp only [Obj.Seq.FAIL_COUNT, Obj.Seq.FLAGS, Obj.Rail.MARGIN, Obj.Rail.MARGIN_APPLIED] <;> omega
  rw [he]
  match hd : c.rampFailed.descentList.filter fun r => c.rampFailed.railState r ≠ 6 with
  | [] => rw [hd] at hl; simp at hl
  | r :: l =>
    refine ⟨beginDescent_state _ _ _, ?_, ?_, fun k h1 h2 h3 h4 h5 => ?_⟩
    · obtain ⟨a1, a2, a3⟩ := hm _ (by simp : Obj.Seq.FAIL_COUNT ∈ _)
      rw [beginDescent_keeps _ _ _ a1 a2 a3, rampFailed_failCount]
    · obtain ⟨a1, a2, a3⟩ := hm _ (by simp : Obj.Seq.FLAGS ∈ _)
      rw [bitOf, beginDescent_keeps _ _ _ a1 a2 a3]
      exact rampFailed_flag c
    · rw [beginDescent_keeps _ _ _ h1 h2 h5, rampFailed_keeps c h3 h4]

@[simp] theorem ffail_objs (c : Core) (n : Nat) (r : Option Nat) : (c.ffail n r).objs = c.objs := by
  unfold ffail
  split
  · split <;> rfl
  · split <;> rfl

@[simp] theorem get_ffail (c : Core) (n k : Nat) (r : Option Nat) : (c.ffail n r).get k = c.get k := by
  simp only [Core.get, ffail_objs]

theorem ffail_seq (c : Core) (n : Nat) (r : Option Nat) : (c.ffail n r).seq =
    { c.seq with first := (c.ffail n r).seq.first, failed := (c.ffail n r).seq.failed } := by
  unfold ffail
  split
  · split <;> rfl
  · split <;> rfl

@[simp] theorem ffail_req (c : Core) (n : Nat) (r : Option Nat) : (c.ffail n r).req = c.req := by
  unfold ffail
  split
  · split <;> rfl
  · split <;> rfl

@[simp] theorem descentList_ffail (c : Core) (n : Nat) (r : Option Nat) : (c.ffail n r).descentList = c.descentList := by
  unfold descentList; rw [ffail_seq]

end Core

end Sys2Proof.Machine
end

