-- ==== Sys2Proof/Tests/Slice0.lean ====
section
/-! SUPPORT. Tests: ill-formed operands are refused, and every statement's hypotheses are met by a concrete state. -/

set_option Elab.async false

namespace Sys2Proof.Tests

open Sys2Proof Sys2Proof.Machine

/-- A state whose objects are those of a list, all others at their defaults. -/
def st (objs : List (Nat × Nat)) (f : Core → Core := id) : State :=
  { State.reset with core := f (objs.foldl (fun c e => c.put e.1 e.2) Core.init) }

/-- Change the sequencer's state. -/
def sq (f : SeqState → SeqState) (c : Core) : Core := { c with seq := f c.seq }

/-- The state after a command; an outcome that is no next state leaves the state before it. -/
def after (i : Instr) (s : State) : State :=
  match exec i s with
  | .next t => t
  | _ => s

/-- The hub after a command. -/
def aft (i : Instr) (s : State) : Core := (after i s).core

/-! ## Operands that cannot arrive are refused -/

def shortCell : Cell := mkCell 0 0 true false 0 0 0 [] |> fun c => { c with payload := [1] }

theorem smoke_cell : exec (.writeCell 1 shortCell) State.reset = .refused .illFormed := rfl
theorem smoke_codeword : exec (.codewordReceive 1 0
    { good := true, corrected := 16, msg := 0 }) State.reset
    = .refused .illFormed := rfl
theorem smoke_readDecode : exec (.readDecode 3 { err := [], shadow := [], interruptNs := 0 }) State.reset
    = .refused .illFormed := rfl
theorem smoke_writeSweep : exec (.writeSweepDone 3 0 { runs := [], repeated := false, saveBad := [] }) State.reset
    = .refused .illFormed := rfl
theorem smoke_writeSave : exec (.writeSweepDone 3 0 { runs := List.replicate 10 none, repeated := false, saveBad := [128] })
    State.reset = .refused .illFormed := rfl
theorem smoke_selftest : exec (.selftestDone { fuseBad := false, millpond := none, trims := [], checkers := [] }) State.reset
    = .refused .illFormed := rfl
theorem smoke_trainStep : exec (.trainStepDone 3
    { coarse := [], fine := [], caBits := [], lanes := [], hardOk := [], saveBad := [] }) State.reset
    = .refused .illFormed := rfl
theorem smoke_mr4 : exec (.mr4Result 3 0 [0, 1]) State.reset = .refused .illFormed := rfl
theorem smoke_decoder : exec (.decoderSelftest 3 [0]) State.reset = .refused .illFormed := rfl
theorem smoke_restore : exec (.restoreDone 3 { lanes := [], hardOk := [] }) State.reset = .refused .illFormed := rfl
theorem smoke_object : exec (.loaRead (.headrace 1 shortCell)) State.reset = .refused .illFormed := rfl
theorem smoke_open : exec (.loaRead (.udp 7 9 true [0x14])) State.reset = .refused .illFormed := rfl

/-! ## The hypotheses of the statements are met -/

def up (dev : Nat) (objs : List (Nat × Nat)) (f : Core → Core := id) : State :=
  st ([(Obj.Seq.SEQ_STATE, 2), (Obj.Dev.DEVICE_STATE, dev)] ++ objs) f

def cells (n : Nat) : FuseCells := { a := n, b := n, c := n }

def hearing (f : Core → Core) : Core → Core := fun c => f { c with fc := { c.fc with running := true } }

/-- A request of a host: its header, and its data. -/
def req (op session seq index sub dlen : Nat) (data : List Byte) (flags off total : Nat) : List Byte :=
  toBytes 24 (1 <<< 188 + op <<< 184 + flags <<< 168 + session <<< 152 + seq <<< 120 + index <<< 104 + sub <<< 96
    + dlen <<< 64 + off <<< 32 + total) ++ data

/-- Session 3 is open, from port 9 of address 7. -/
def ses (f : Session → Session := id) (objs : List (Nat × Nat) := []) : State :=
  up 5 objs fun c => c.updSession 3 fun _ => f { Session.closed with isOpen := true, addr := 7, port := 9 }

def dgram (bs : List Byte) : LoaArrival := .udp 7 9 true bs

def rdReq : List Byte := req 1 3 5 0x4000 2 64 [] 0 0 0

def wrReq (sub : Nat) (v : List Byte) : List Byte := req 2 3 5 0x2805 sub v.length v 0 0 v.length

theorem witness_Requests_1 :
    (Fresh (ses) 7 9 rdReq ∧ (loaParse rdReq).op = 1 ∧ (loaParse rdReq).offset = 0 ∧
      ((ses).counted 3).readRefusal .openWorld (loaParse rdReq).index (loaParse rdReq).sub = none ∧
      ((aft (.loaRead (dgram rdReq)) ses).sessionOf 3).top = 5 ∧
      (aft (.loaRead (dgram rdReq)) ses).get Obj.Loa.REQUESTS = 1) := by decide +kernel

theorem witness_Requests_2 :
    (let m := loaParse (req 1 3 5 0x4000 99 64 [] 0 0 0)
     Fresh (ses) 7 9 (req 1 3 5 0x4000 99 64 [] 0 0 0) ∧ m.op = 1 ∧
      ((ses).counted 3).readRefusal .openWorld m.index m.sub = some .malformed) := by decide +kernel

theorem witness_Requests_9 :
    (let b := req 1 3 5 0x4000 2 3 [] 0 4 0
     let s := ses fun x => { x with snap := some (0x400002, ([1, 2, 3, 4, 5, 6, 7, 8], 5, true, false, 0)) }
     Fresh s 7 9 b ∧ (loaParse b).op = 1 ∧ (loaParse b).offset ≠ 0 ∧
      (aft (.loaRead (dgram b)) s).out = [.udp 7 9 (replyBytes (s.core.sessionOf 3) (loaParse b)
        { Reply.bare .ok with ready := true, more := true, gen := 5, offset := 4, total := 8, data := [5, 6, 7] })]) := by
  decide +kernel

/-- Session 3 in the secure world, under the key 99. -/
def closedSes (f : Session → Session := id) : State := ses fun x => f { x with secure := true, ks := 99 }

theorem witness_Requests_10 :
    (let b := loaSeal true 99 3 0 5 (req 1 3 5 0x4000 2 64 [] 8 0 0) []
     Fresh closedSes 7 9 b ∧ (loaParse b).tagged = true ∧ (loaParse b).op = 1 ∧ (loaParse b).offset = 0 ∧
      closedSes.core.worldOf 3 = .secureWorld ∧
      (closedSes.counted 3).readRefusal .secureWorld (loaParse b).index (loaParse b).sub = none) := by decide +kernel

theorem witness_Requests_11 :
    (let b := req 2 3 5 0x2805 9 4 [0, 0, 0, 9] 0 4 8
     let m := loaParse b
     let s := ses fun x => { x with part := some (0x280509, 8, [0, 0, 0, 1]) }
     Fresh s 7 9 b ∧ m.op = 2 ∧ s.core.partGoesOn m.session m = true ∧ m.offset = 4 ∧ m.more = false ∧
      clearableOf m.index m.sub = none ∧
      (s.clear.core.inc64 Obj.Loa.REQUESTS).writeRefusal .openWorld m.index m.sub ([0, 0, 0, 1] ++ m.body) = none ∧
      (aft (.loaWrite (dgram b)) s).get 0x280509 = 1 <<< 32 + 9 ∧ (aft (.loaWrite (dgram b)) s).get Obj.Loa.FLAGS = 0) := by
  decide +kernel

theorem witness_Requests_12 :
    (let s := ses fun x => { x with part := some (0x280509, 8, [0, 0, 0, 1]) }
     let b := wrReq 9 (toBytes 8 77)
     s.core.partGoesOn 3 (loaParse b) = false ∧ Fresh s 7 9 b ∧
      (aft (.loaWrite (dgram b)) s).get 0x280509 = 77 ∧ (aft (.loaWrite (dgram b)) s).bitOf Obj.Loa.FLAGS 0 = true ∧
      (aft (.loaRead (dgram rdReq)) s).bitOf Obj.Loa.FLAGS 0 = true ∧
      ((aft (.loaRead (dgram rdReq)) s).sessionOf 3).part = none) := by decide +kernel

/-- Port 2 is UP, with its session. -/
def portSes (x : Session := { Session.closed with isOpen := true }) : State :=
  up 5 [(Obj.Port.PORT_STATE 2, 3)] fun c => (c.updSession 0xFF02 fun _ => x).updPort 2 fun q =>
    { q with creditSeen := true, grant := [(2, 5)], cum := [(2, 4), (3, 4)] }

def objCell (bs : List Byte) : Cell := mkCell Cy.object Vc.ctl true false 5 bs.length 0 bs

theorem witness_Requests_13 :
    (let x := objCell (req 1 0xFF02 5 0x4000 2 64 [] 0 0 0)
     portSes.core.seqUp = true ∧ x.wf = true ∧ (LoaArrival.headrace 2 x).opens = false ∧
      (portSes.clear.core.objectIn 2 x).2 = some (req 1 0xFF02 5 0x4000 2 64 [] 0 0 0) ∧
      (aft (.loaRead (.headrace 2 x)) portSes).out.length = 1 ∧
      (aft (.loaRead (.headrace 2 x)) portSes).get Obj.Loa.REQUESTS = 1) := by decide +kernel

theorem witness_Requests_3 :
    (let b := wrReq (Obj.Stream.START_INDEX 5 % 256) (toBytes 8 77)
     let m := loaParse b
     Fresh (ses) 7 9 b ∧ m.op = 2 ∧ m.offset = 0 ∧ m.more = false ∧ m.total = m.body.length ∧ m.total ≤ 4096 ∧
      0x2800 ≤ m.index ∧ m.index < 0x2900 ∧ m.sub ≠ 1 ∧ clearableOf m.index m.sub = none ∧
      ((ses).counted 3).writeRefusal .openWorld m.index m.sub m.body = none ∧
      (aft (.loaWrite (dgram b)) ses).get (Obj.Stream.START_INDEX 5) = 77) := by decide +kernel

theorem witness_Requests_4 :
    (let b := wrReq (Obj.Stream.START_INDEX 5 % 256) (toBytes 3 77)
     let m := loaParse b
     Fresh (ses) 7 9 b ∧ m.total = m.body.length ∧
      ((ses).counted 3).writeRefusal .openWorld m.index m.sub m.body = some .malformed ∧
      (aft (.loaWrite (dgram b)) ses).get (Obj.Stream.START_INDEX 5) = (ses).core.get (Obj.Stream.START_INDEX 5)) := by decide +kernel

theorem witness_Requests_5 :
    (let b := req 2 3 5 0x5030 6 4 [1, 2, 3, 4] 0x40 0 9
     let m := loaParse b
     Fresh (ses) 7 9 b ∧ m.op = 2 ∧ m.offset = 0 ∧ m.more = true ∧ m.body.length ≤ m.total ∧
      ((aft (.loaWrite (dgram b)) ses).sessionOf 3).part = some (0x503006, 9, [1, 2, 3, 4])) := by decide +kernel

theorem witness_Requests_6 :
    (let b := req 3 3 5 0x4000 2 0 [] 0 0 0
     let m := loaParse b
     Fresh (ses) 7 9 b ∧ m.op = 3 ∧ ((ses).counted 3).describeRefusal .openWorld m.index m.sub = none ∧
      (lookup m.index m.sub).isSome ∧ ((aft (.loaDescribe (dgram b)) ses).sessionOf 3).top = 5) := by decide +kernel

theorem witness_Requests_7 :
    (let b := req 7 3 5 0 0 1 [1] 0 0 0
     let e := req 9 3 5 0 0 3 [1, 2, 3] 0 0 0
     Fresh (ses) 7 9 b ∧ (loaParse b).op = 7 ∧ (loaParse b).body = [1] ∧
      ((aft (.loaSubscribe (dgram b)) ses).sessionOf 3).subscribed = true ∧
      Fresh (ses) 7 9 e ∧ (loaParse e).op = 9 ∧ (loaParse e).body.length ≤ 64) := by decide +kernel

theorem witness_Requests_8 :
    (let s := ses fun x => { x with top := 40, replies := [(39, [8, 8])] }
     let d := req 2 3 39 0x1110 2 2 [0, 9] 0 0 2
     let l := req 2 3 24 0x1110 2 2 [0, 9] 0 0 2
     Asked s 7 9 d ∧ seqRefused 40 39 = false ∧ (s.core.sessionOf 3).held 39 = some [8, 8] ∧
      (aft (.loaWrite (dgram d)) s).out = [.udp 7 9 [8, 8]] ∧
      Asked s 7 9 l ∧ seqRefused 40 24 = true ∧ (aft (.loaWrite (dgram l)) s).bitOf Obj.Loa.FLAGS 1 = true) := by decide +kernel

theorem witness_Sessions_1 :
    (let b := req 4 0 0 0 0 16 (toBytes 16 0xABCD) 0 0 0
     let m := loaParse b
     m.bad { udp := true, a := 7, b := 9 } = false ∧ m.reply = false ∧ m.op = 4 ∧ m.session = 0 ∧ m.seq = 0 ∧ m.body.length = 16 ∧
      (ses).core.freeSessions ≠ [] ∧ ((ses).core.sessionOf 0).isOpen = false) := by decide +kernel

theorem witness_Sessions_2 :
    (let b := req 4 0 0 0 0 16 (toBytes 16 0xABCD) 0 0 0
     let s := up 5 [] fun c => (List.range 17).foldl (fun c i => c.updSession i fun x => { x with isOpen := i != 0 }) c
     s.core.freeSessions = [] ∧ (s.core.sessionOf 0).isOpen = false ∧ (aft (.loaOpen (dgram b) 1) s).out.length = 1) := by
  decide +kernel

/-- An AUTH of session 3 at hub 77, under the admission key of a part that has none loaded. -/
def authHead : List Byte := req 5 3 1 0 0 0 [] 8 0 0

def authReq : List Byte := authHead ++ toBytes 16 323413006633252587556865633232513430726

def ses77 (fails : Nat) : State :=
  let s := ses fun x => { x with fails := fails }
  { s with
    core := { s.core with objs := (Obj.Id.HUB_ID, 77) :: s.core.objs }
    fuses := { boot := cells 0, hashes := [], revoke := cells 0, floor := cells 0, lock := cells 0 } }

theorem witness_Sessions_3 :
    (let m := loaParse authReq
     let s := ses77 0
     Asked s 7 9 authReq ∧ m.op = 5 ∧ (s.core.sessionOf 3).held 1 = none ∧ (s.core.sessionOf 3).begun = false ∧
      (s.core.sessionOf 3).top = 0 ∧ m.session = 3 ∧ m.seq = 1 ∧ m.tagged = true ∧ m.dlen = 0 ∧
      s.core.admitKeyNow s.fuses = some 0 ∧ m.sealed (loaKey 0 77 3 0 0) 0 = true ∧ s.core.get Obj.Id.HUB_ID = 77) := by
  decide +kernel

theorem witness_Sessions_5 :
    (let m := loaParse authReq
     let s : State := { ses77 0 with fuses := { (ses77 0).fuses with boot := cells 1 } }
     Asked s 7 9 authReq ∧ m.op = 5 ∧ (s.core.sessionOf 3).held 1 = none ∧ (s.core.sessionOf 3).begun = false ∧
      (s.core.sessionOf 3).secure = false ∧ m.seq = 1 ∧ m.tagged = true ∧ m.dlen = 0 ∧
      s.core.admitKeyNow s.fuses = none ∧ (aft (.loaAuth (dgram authReq)) s).get Obj.Loa.AUTH_FAILS = 1) := by decide +kernel

theorem witness_Sessions_4 :
    (let m := loaParse (authHead ++ toBytes 16 0)
     Asked (ses77 2) 7 9 (authHead ++ toBytes 16 0) ∧ m.tagged = true ∧ m.sealed (loaKey 0 77 3 0 0) 0 = false ∧
      (ses77 2).core.admitKeyNow (ses77 2).fuses = some 0 ∧ ((ses77 2).core.sessionOf 3).fails = 2 ∧
      ((ses77 0).core.sessionOf 3).fails ≠ 2) := by decide +kernel

theorem witness_Sessions_6 :
    (let b := req 6 3 5 0 0 0 [] 0 0 0
     Fresh (ses) 7 9 b ∧ (loaParse b).op = 6 ∧ ((aft (.loaClose (dgram b)) ses).sessionOf 3).isOpen = false ∧
      ((aft (.sessionIdle 3) ses).sessionOf 3).isOpen = false) := by decide +kernel

theorem witness_Sessions_n_1 :
    (let s := ses fun x => { x with notes := [{ seq := 1, sent := 1, msg := [5] }, { seq := 2, sent := 4, msg := [6] }] }
     let b := req 8 3 1 0 0 0 [] 0x80 0 0
     (loaParse b).reply = true ∧ (loaParse b).op = 8 ∧ (dgram b).opens = false ∧
      ((aft (.loaNotifyAck (dgram b)) s).sessionOf 3).notes.length = 1 ∧
      (aft (.notifyRetry 3 1) s).out = [.udp 7 9 [5]] ∧ (aft (.notifyRetry 3 2) s).get Obj.Loa.NOTIFY_LOST = 1 ∧
      (aft (.notifyRetry 3 2) s).out = []) := by decide +kernel

theorem witness_Sessions_n_2 :
    (let s := portSes { Session.closed with isOpen := true, notes := [{ seq := 1, sent := 1, msg := [5] }] }
     s.core.portUp 2 = true ∧ ((s.core.sessionOf 0xFF02).notes.find? fun e => e.seq == 1) = some { seq := 1, sent := 1, msg := [5] } ∧
      (s.core.portOf 2).txq = [] ∧ 1 ≤ (s.core.portOf 2).credit Vc.ctl ∧
      (aft (.notifyRetry 0xFF02 1) s).out = [.cell 2 Cy.object (mkCell Cy.object Vc.ctl true false 0 1 0 [5])]) := by decide +kernel

theorem witness_Sessions_n_3 :
    (let s := closedSes fun x => { x with notes := [{ seq := 1, sent := 1, msg := [5] }] }
     let b := loaSeal true 99 3 3 1 (req 8 3 1 0 0 0 [] 0x88 0 0) []
     (loaParse b).reply = true ∧ (loaParse b).sealed 99 3 = true ∧ (loaParse b).op = 8 ∧ (loaParse b).lver = 1 ∧
      (loaParse b).rsv = 0 ∧ ((aft (.loaNotifyAck (dgram b)) s).sessionOf 3).notes = []) := by decide +kernel

theorem witness_ObjectWrites_1 :
    (let s := up 5 [] fun c => { c.withMg { c.mg with v4 := 0x0A000001 } with objs := (Obj.Mg.MAC, 9) :: c.objs }
     s.core.mg.v4 ≠ 0 ∧ (aft (.arpRequest 0x0A000001 3 4) s).out = [.frame 0 3 4 (toBytes 6 9)] ∧
      (aft (.arpRequest 5 3 4) s).out = [] ∧
      (aft (.neighborSolicitation (BitVec.ofNat 128 (linkLocal (s.core.get Obj.Mg.MAC))) 3 4) s).out.length = 1 ∧
      s.core.ownV4 0x0A000001 = true ∧ (aft (.icmpEcho false 0x0A000001 4 [1]) s).out = [.frame 2 0 4 [1]]) := by decide +kernel

theorem witness_ObjectWrites_2 :
    (let s := up 5 [(Obj.Mg.LINK_STATE, 1)] (hearing id)
     s.clear.core.Hears Src.mgLink ∧ s.core.injected Src.mgLink = false ∧ s.core.isSet Obj.Mg.LINK_STATE = true ∧
      (aft (.mgLinkChange false) s).get (Obj.Source.COUNT Src.mgLink) = 1 ∧
      (aft (.mgLinkChange true) s).get Obj.Mg.LINK_STATE = 1) := by decide +kernel

theorem witness_ObjectWrites_3 :
    (let s := ses id [(Obj.Mg.LINK_STATE, 1)]
     Admits s .secureWorld (0x110000 + 3) 0x0A000001 ∧ Obj.Mg.IPV4_ADDR = 0x110003 ∧ Obj.Mg.IPV6_ADDR = 0x110006 ∧
      s.core.get 0x110003 ≠ 0x0A000001 ∧
      clearableOf 0x1100 3 = none ∧ ((aft (.mgAddressWrite .secureWorld 3 0x0A000001) s).sessionOf 3).isOpen = false ∧
      (aft (.mgAddressWrite .secureWorld 3 0x0A000001) s).mg.pending = true ∧
      (aft .mgAddressApply (after (.mgAddressWrite .secureWorld 3 0x0A000001) s)).mg.v4 = 0x0A000001) := by decide +kernel

theorem witness_ObjectWrites_4 :
    (let s := ses
     Admits s .secureWorld Obj.Loa.ADMIT_KEY 5) := by decide +kernel

theorem witness_ObjectWrites_5 :
    (let ports := (List.range 8).map fun p => (Obj.Port.PORT_STATE p, 1)
     let s := up 6 (ports ++ [(Obj.Loa.SESSION_IDLE_S, 9)])
     let t := up 5 []
     Admits s .secureWorld Obj.Id.FACTORY_DEFAULTS 1 ∧ s.core.dev = Dv.service ∧
      (∀ k ∈ [Obj.Mg.MG_MODE, Obj.Mg.IPV4_ADDR, Obj.Mg.IPV6_ADDR, Obj.Time.TIME_SOURCE, Obj.Sail.ROOT, Obj.Mc.ADDR_MAP,
        Obj.SailPort.ENABLE 0, Obj.SailPort.ENABLE 1, Obj.SailPort.ENABLE 2, Obj.SailPort.ENABLE 3],
        s.core.get k = defaultOf k) ∧ (∀ p < 8, s.core.portState p ≠ 0) ∧ s.core.elasticFill = 0 ∧
      isLedger Obj.Loa.SESSION_IDLE_S = true ∧
      (aft (.factoryDefaults .secureWorld) s).get Obj.Loa.SESSION_IDLE_S = defaultOf Obj.Loa.SESSION_IDLE_S ∧
      Admits t .secureWorld Obj.Id.FACTORY_DEFAULTS 1 ∧ t.core.dev ≠ Dv.service ∧
      (aft (.factoryDefaults .secureWorld) t).out = [.status .retry]) := by decide +kernel

theorem witness_ObjectWrites_6 :
    (let s := up 5 []
     Admits s .secureWorld (0x440000 + 1) 800000 ∧ Admits s .secureWorld (0x440000 + 2) 790000 ∧
      (aft (.sluiceBudgetWrite .secureWorld 1 800000) s).get Obj.Sluice.BUDGET_MW = 800000 ∧
      (aft (.sluiceBudgetWrite .secureWorld 2 790000) s).out = [.status .malformed]) := by decide +kernel

theorem witness_ObjectWrites_7 :
    (let s := up 6 []
     s.core.writeRefusal .secureWorld 0x4013 4 [3, 232] = none ∧ clearableOf 0x4013 4 = none ∧
      (aft (.registerWrite .secureWorld 0x4013 4 [3, 232]) s).get 0x401304 = 1000 ∧
      s.core.writeRefusal .secureWorld 0x4013 4 [3] = some .malformed ∧
      (aft (.registerWrite .secureWorld 0x4013 4 [3]) s).out = [.status .malformed]) := by decide +kernel

/-- Port 1 UP in IDLE; stream 2 of it in a state, on region 3, a ring of 4 MiB; more objects. -/
def cap (stt : Nat) (objs : List (Nat × Nat)) (f : Core → Core := id) : State :=
  up 5 ([(Obj.Port.PORT_STATE 1, 3), (Obj.Stream.PORT 2, 1), (Obj.Stream.REGION 2, 3), (Obj.Stream.STATE 2, stt),
      (Obj.Stream.FORMAT 2, 1), (Obj.Stream.RATE 2, (10 ^ 9) <<< 40 + 1), (Obj.Region.PERSONALITY 3, 2), (Obj.Region.OWNER_MASK 3, 2),
      (Obj.Region.DATA_MIB 3, 4), (Obj.Region.SIZE_MIB 3, 6)] ++ objs)
    fun c => f (c.updPort 1 fun q => { q with grant := [(0, 512), (1, 256), (2, 64), (3, 64)] })

/-- A STREAM cell of stream 2: its kind, SIDX_LO and payload. -/
def streamX (kind lo : Nat) (bs : List Byte) : Cell :=
  mkCell Cy.stream Vc.cap true false 0 bs.length (2 <<< 40 + kind <<< 32 + lo) bs

/-- A disclosure record of event 0: SIDX, GDELAY. -/
def disc (sidx gdelay : Nat) : List Byte :=
  toBytes 64 (sidx <<< 448 + 2 <<< 432 + gdelay <<< 304 + 1 <<< 303 + 1 <<< 288)

theorem witness_CaptureCells_1 :
    (let s := cap 1 [(Obj.Stream.NEXT_INDEX 2, 7)]
     let x := streamX 0 7 [1, 2, 3, 4]
     Arrives s 1 Cy.stream x ∧ cellStream x = 2 ∧ s.core.get (Obj.Stream.PORT 2) = 1 ∧ cellKind x = 0 ∧ s.core.inService = true ∧
      s.core.stState 2 = St.armed ∧ x.plen.toNat % fmtBytes (s.core.get (Obj.Stream.FORMAT 2)) = 0 ∧
      x.plen.toNat / fmtBytes (s.core.get (Obj.Stream.FORMAT 2)) = 2 ∧ 2 ≤ s.core.spb 2 ∧ cellSidx x = s.core.next 2 % 2 ^ 32 ∧
      cellMarks x = 0 ∧ s.core.next 2 + 2 ≤ 2 ^ 64 ∧ s.core.get (Obj.Stream.REGION 2) < 1024 ∧ (s.core.ringOf 3).blocked = none ∧
      (s.core.streamOf 2).waiting = [] ∧ s.core.ctxs = [] ∧ s.core.wins = [] ∧
      (aft (.streamSamples 1 x) s).get (Obj.Stream.NEXT_INDEX 2) = 9 ∧ (aft (.streamSamples 1 x) s).stState 2 = St.running ∧
      (aft (.streamSamples 1 x) s).get (Obj.Stream.CELLS 2) = 1) := by decide +kernel

theorem witness_CaptureCells_2 :
    (let s := cap 2 []
     ∀ n ∈ [0, 9], let x := streamX 1 0 (disc n 5)
     let v := ofBytes (x.payload.take 64)
     Arrives s 1 Cy.stream x ∧ cellKind x = 1 ∧ x.plen.toNat = 64 ∧ s.core.discBad 2 v = false ∧
      s.core.discRateBad 2 v = false ∧ discEvent v = 0 ∧ discSidx v = n ∧ s.core.next 2 = 0 ∧
      (aft (.streamDisclosure 1 x) s).get (Obj.Stream.DISC_APPLIED 2) = (if n = 0 then 1 else 0) ∧
      (aft (.streamDisclosure 1 x) s).get (Obj.Stream.GDELAY 2) = (if n = 0 then 5 else 0) ∧
      ((aft (.streamDisclosure 1 x) s).streamOf 2).waiting = (if n = 0 then [] else [v])) := by decide +kernel

theorem witness_CaptureCells_3 :
    (let s := cap 0 []
     let x := streamX 2 0 [1]
     Arrives s 1 Cy.stream x ∧ cellKind x = 2 ∧ s.core.get (Obj.Stream.PORT (cellStream x)) = 1 ∧
      (aft (.streamRecordRefused 1 x) s).get (Obj.Stream.DISCARDED 2) = 1) := by decide +kernel

theorem witness_CaptureCells_4 :
    (let s := cap 0 [(Obj.Stream.PORT 2, 4)]
     let x := streamX 0 0 [1]
     Arrives s 1 Cy.stream x ∧ s.core.get (Obj.Stream.PORT (cellStream x)) ≠ 1 ∧
      (aft (.streamSamples 1 x) s).get (Obj.Port.UNBOUND 1) = 1) := by decide +kernel

theorem witness_StreamBlocks_1 :
    (let s := cap 0 [(Obj.Stream.START_INDEX 2, 77)]
     Admits s .openWorld (Obj.Stream.ENABLE 2) 1 ∧ s.core.stState 2 = St.disabled ∧ s.core.enableRefusal 2 = none ∧
      s.core.ctxs = [] ∧ s.core.wins = [] ∧ s.core.anyBlocked = false ∧
      (aft (.streamEnable 2 .openWorld) s).next 2 = 77 ∧ Out.status .ok ∈ (aft (.streamEnable 2 .openWorld) s).out) := by
  decide +kernel

theorem witness_StreamBlocks_2 :
    (let b : RingBlock := { no := 0, data := 1, runs := [(0, 3)], uncommitted := some 0, due := false, poison := false }
     let s := cap 2 [] fun c => c.updStream 2 fun q => { q with blocks := [b] }
     Admits s .openWorld (Obj.Stream.ENABLE 2) 0 ∧ s.core.stState 2 = St.running ∧ s.core.get (Obj.Stream.REGION 2) < 1024 ∧
      s.core.ctxs = [] ∧ s.core.wins = [] ∧ (aft (.streamDisable 2 .openWorld) s).stState 2 = St.flushing ∧
      s.core.hubUp = true ∧ (s.core.streamOf 2).blocks.getLast? = some b ∧ b.uncommitted ≠ none ∧ b.due = false ∧
      (aft (.flushTimeout 2) s).bitOf (Obj.Stream.FLAGS 2) 6 = true) := by decide +kernel

theorem witness_StreamBlocks_3 :
    (let b : RingBlock := { no := 0, data := 1, runs := [(0, 127)], uncommitted := some 0, due := true, poison := false }
     let s := cap 2 [(Obj.Stream.NEXT_INDEX 2, 130)] fun c => (c.updRing 3 fun g => { g with map := [(0, mkSeg 1 0 0)] }).updStream 2 fun q =>
       { q with blocks := [b] }
     s.core.hubUp = true ∧ (s.core.streamOf 2).blocks = [b] ∧
      segL ((s.core.ringOf 3).map.num (s.core.get (Obj.Region.CURSOR 3))) = b.no / 4096 ∧
      ((s.clear.core.postBlock (s.core.regionHa 3 + s.core.get (Obj.Region.CURSOR 3) * 2 ^ 14 + b.no % 4096 * 4)
        (if s.core.urgent then 1 else 2) b.data b.poison 2).map fun e => e.2) = some [] ∧
      (b.no + 1) * s.core.spb 2 ≤ s.core.next 2 ∧ (s.core.next 2 - 1) / s.core.spseg 2 ≤ b.no / 4096 ∧ s.core.get (Obj.Stream.REGION 2) < 1024 ∧ s.core.wins = [] ∧
      ((aft (.blockCommit 2) s).streamOf 2).blocks = []) := by decide +kernel

theorem witness_StreamBlocks_4 :
    (let b0 : RingBlock := { no := 0, data := 1, runs := [(0, 127)], uncommitted := some 0, due := true, poison := false }
     let b : RingBlock := { b0 with no := 1, runs := [(128, 255)], uncommitted := some 128 }
     let s := cap 2 [(Obj.Stream.NEXT_INDEX 2, 256)] fun c =>
       ((c.updRing 3 fun g => { g with map := [(0, mkSeg 1 0 0)] }).updStream 2 fun q => { q with blocks := [b0, b] }).updMc
         (c.scOf (c.regionHa 3)) fun m => { m with wait := [writeReq 0 2 0 false (.block 9)] }
     let ha := s.core.regionHa 3 + s.core.get (Obj.Region.CURSOR 3) * 2 ^ 14
     s.core.hubUp = true ∧ (s.core.streamOf 2).blocks = [b0, b] ∧ b.no ≠ b0.no ∧ b0.no / 4096 = b.no / 4096 ∧
      segL ((s.core.ringOf 3).map.num (s.core.get (Obj.Region.CURSOR 3))) = b.no / 4096 ∧
      (s.clear.core.postBlock (ha + b0.no % 4096 * 4) (if s.core.urgent then 1 else 2) b0.data b0.poison 2).isNone ∧
      ((s.clear.core.postBlock (ha + b.no % 4096 * 4) (if s.core.urgent then 1 else 2) b.data b.poison 2).map fun e => e.2) = some [] ∧
      (b.no + 1) * s.core.spb 2 ≤ s.core.next 2 ∧ s.core.wins = [] ∧
      ((aft (.blockCommit 2) s).streamOf 2).blocks = [b0]) := by decide +kernel

theorem witness_MillpondRegions_1 :
    (let s := cap 0 []
     let v : BitVec 32 := 0x040602
     (Admits s .openWorld Obj.Millpond.PARTITION v.toNat ∨ Admits s .secureWorld Obj.Millpond.PARTITION v.toNat) ∧
      field 23 16 v.toNat + field 15 8 v.toNat + field 7 0 v.toNat = 12 ∧ 1 ≤ field 7 0 v.toNat ∧ 4 ≤ field 23 16 v.toNat ∧
      (∀ x < 128, s.core.get (Obj.Context.STATE x) = 0) ∧
      (aft (.partitionWrite .secureWorld v) s).get Obj.Millpond.HIGH_WATER = 29360128 ∧
      Admits s .secureWorld Obj.Millpond.ELASTIC_PEAK 0) := by decide +kernel

theorem witness_MillpondRegions_2 :
    (let s := up 5 [(Obj.Region.SIZE_MIB 9, 4), (Obj.Region.BASE_MIB 9, 8)]
     Admits s .secureWorld (Obj.Region.PERSONALITY 9) 1 ∧ s.core.get (Obj.Region.PERSONALITY 9) = 0 ∧
      s.core.defineRefusal 9 1 = none ∧ (aft (.regionDefine 9 .secureWorld 1) s).get (Obj.Region.PERSONALITY 9) = 1 ∧
      (aft (.regionDefine 9 .secureWorld 1) s).get (Obj.Region.RING_HEAD 9) = 0) := by decide +kernel

theorem witness_MillpondRegions_3 :
    (let s := up 5 [(Obj.Region.SIZE_MIB 9, 4), (Obj.Region.PERSONALITY 9, 1)]
     Admits s .secureWorld (Obj.Region.PERSONALITY 9) 0 ∧ s.core.get (Obj.Region.PERSONALITY 9) ≠ 0 ∧
      s.core.get (Obj.Region.FREE_PENDING 9) ≠ 1 ∧ s.core.freeRefused 9 = false ∧ s.core.leasesOn 9 = 0 ∧
      (aft (.regionFree 9 .secureWorld) s).get (Obj.Region.PERSONALITY 9) = 0) := by decide +kernel

/-- A member record of stream 2 in slot 0 of window 6, no other member used. -/
def win (stt : Nat) : List (Nat × Nat) :=
  (Obj.Window.STATE 6, stt) :: (Obj.Window.MEMBER 6 0, 2 <<< 112) :: (List.range 15).map fun k => (Obj.Window.MEMBER 6 (k + 1), 0xFFFF <<< 112)

theorem witness_TriggerWindows_1 :
    (let s := cap 1 (win 0)
     Admits s .openWorld (Obj.Window.ARM 6) 1 ∧ s.core.get (Obj.Window.STATE 6) = 0 ∧
      (s.core.usedMembers 6).map (fun m => m.2.1) = [2] ∧ ((s.core.usedMembers 6).all fun m => s.core.streamRing m.2.1) = true ∧
      (aft (.windowArm 6 .openWorld) s).get (Obj.Window.STATE 6) = 1) := by decide +kernel

theorem witness_TriggerWindows_2 :
    (let s := cap 1 (win 1)
     Admits s .openWorld (Obj.Window.ARM 6) 0 ∧ s.core.get (Obj.Window.STATE 6) = 1 ∧
      (aft (.windowDisarm 6 .openWorld) s).get (Obj.Window.STATE 6) = 0) := by decide +kernel

theorem witness_TriggerWindows_3 :
    (let m : WinMember := { k := 0, stream := 2, region := 3, c := 5, pre := 0, post := 0, spec := 0, firstEff := 5, lastEff := 5,
                            flags := 0, held := [0], reserved := [] }
     let s := cap 1 (win 3) fun c => (c.updWin 6 fun q => { q with members := [m] }).updRing 3 fun g => { g with map := [(0, mkSeg 3 1 0)] }
     Admits s .openWorld (Obj.Window.RELEASE 6) 1 ∧ s.core.get (Obj.Window.STATE 6) = 3 ∧
      (∀ m ∈ (s.core.winOf 6).members, m.region < 1024) ∧ s.core.anyBlocked = false ∧
      (aft (.windowRelease 6 .openWorld) s).get (Obj.Window.STATE 6) = s.core.get (Obj.Window.REARM 6)) := by decide +kernel

/-- A TRIGGER cell for window 6 at index 7 of stream 2. -/
def trigX : Cell := mkCell Cy.trigger Vc.ctl true false 1 64 (2 <<< 40 + 6 <<< 34) (toBytes 64 (7 <<< 448 + 99 <<< 416 + 4660 <<< 400 + 22136 <<< 384))

theorem witness_TriggerWindows_4 :
    (let s := cap 2 (win 1 ++ [(Obj.Stream.NEXT_INDEX 2, 100), (Obj.Window.SOURCES 6, 1)]) fun c =>
       (c.updRing 3 fun g => { g with map := [(0, mkSeg 1 0 0)] }).updStream 2 fun q =>
         { q with bases := [{ s := 0, t := 0, num := 10 ^ 9, den := 1 }], rate := (10 ^ 9) <<< 40 + 1 }
     let c0 := (s.clear.core.tookCredit 1 Vc.ctl).freeCells 1 Vc.ctl 1
     let t : Trigger := { src := 0, stream := 2, tidx := 7, tt := 0, id := 99, detector := 4660, level := 22136, delays := none, port := 1 }
     Arrives s 1 Cy.trigger trigX ∧ cellWindow trigX = 6 ∧ cellStream trigX = 2 ∧ (s.core.portOf 1).tagUsed 1 = false ∧
      s.core.inService = true ∧ triggerBad trigX = false ∧ s.core.get (Obj.Window.STATE 6) = 1 ∧
      (c0.decideTrigger 6 t).1 = .ok ∧
      (aft (.trigger 1 trigX) s).get (Obj.Window.TRIGGER_ID 6) = 99 ∧ ((aft (.trigger 1 trigX) s).winOf 6).level = 22136 ∧
      (aft (.trigger 1 trigX) s).get (Obj.Window.GEN 6) = 1) := by decide +kernel

/-- A context 4 on the SPECTRUM stream 2 of 16 channels, in region 8. -/
def ctx (stt : Nat) (f : Core → Core := id) : State :=
  cap 2 [(Obj.Stream.CLASS 2, 1), (Obj.Stream.SPECLEN 2, 16), (Obj.Context.STREAM 4, 2), (Obj.Context.REGION 4, 8),
      (Obj.Region.PERSONALITY 8, 3), (Obj.Region.SIZE_MIB 8, 1), (Obj.Context.NFRAMES 4, 2), (Obj.Context.NROWS 4, 2), (Obj.Context.XBINS 4, 16),
      (Obj.Context.XDIV 4, 1), (Obj.Context.STATE 4, stt)] f

theorem witness_Contexts_1 :
    (let s := ctx 0
     Admits s .openWorld (Obj.Context.START 4) 1 ∧ s.core.get (Obj.Context.STATE 4) = 0 ∧
      s.core.startRefusal (s.core.cfgOf 4) 4 .openWorld = none ∧ s.core.admits (s.core.ctxCredit (s.core.cfgOf 4)) = true) := by
  decide +kernel

theorem witness_Contexts_2 :
    (let s := ctx 1 fun c => c.updCtx 4 fun q => { q with frame := some (Frame.fresh 3), samples := [(2, 5)] }
     Admits s .openWorld (Obj.Context.START 4) 0 ∧ s.core.get (Obj.Context.STATE 4) = 1 ∧
      (aft (.contextStop 4 .openWorld) s).get (Obj.Context.STATE 4) = 0 ∧
      Admits s .openWorld (Obj.Context.CLOSE_NOW 4) 1 ∧ (s.core.ctxOf 4).samples ≠ [] ∧
      ((aft (.closeNow 4 .openWorld) s).ctxOf 4).closeNow = true) := by decide +kernel

theorem witness_Contexts_3 :
    (let s := ctx 0
     Admits s .openWorld (Obj.Context.OP 4) 2 ∧ (aft (.contextOpWrite 4 .openWorld 2) s).get (Obj.Context.OP 4) = 2) := by
  decide +kernel

theorem witness_Contexts_4 :
    (let s := ctx 1 fun c => c.updCtx 4 fun q => { q with frame := some (Frame.fresh 3) }
     Admits s .openWorld (Obj.Context.CLOSE_NOW 4) 1 ∧ s.core.get (Obj.Context.STATE 4) = 1 ∧ (s.core.ctxOf 4).samples = [] ∧
      (s.core.ctxOf 4).released = 0 ∧ (s.core.ctxOf 4).frame = some (Frame.fresh 3) ∧
      (aft (.closeNow 4 .openWorld) s).get (Obj.Context.FRAME 4) = 4) := by decide +kernel

theorem witness_Contexts_5 :
    (let s := ctx 1 fun c => c.updCtx 4 fun q => { q with closing := [Frame.fresh 3] }
     s.core.hubUp = true ∧ (s.core.ctxOf 4).closing = [Frame.fresh 3] ∧ (Frame.fresh 3).bad = [] ∧ s.core.frameWaits 4 3 = false ∧
      0 < s.core.get (Obj.Context.NFRAMES 4) ∧ s.core.get (Obj.Context.NFRAMES 4) ≤ 4 ∧
      (aft (.frameCloseComplete 4) s).get (Obj.Context.LAST_SUMMARY 4) = s.core.frameSummary 4 (Frame.fresh 3) 1 ∧
      (aft (.frameCloseComplete 4) s).get (Obj.Context.SUMMARY 4 1) = s.core.frameSummary 4 (Frame.fresh 3) 1) := by decide +kernel

/-- A used rail row. -/
def row : RailRow := ⟨true, 0xFF, 1000, 0, 10⟩

theorem witness_RampSteps_1 :
    (let s := st [] (sq fun q => { q with phase := .rampReady, todo := [3], table := List.replicate 16 row })
     s.core.seq.aoUp = true ∧ s.core.seq.phase = .rampReady ∧ s.core.seq.todo = [3] ∧ 9 < (s.core.rowOf 3).off ∧
      (aft (.rampStep 9 true) s).get (Obj.Rail.STATE 3) = 1) := by decide +kernel

theorem witness_RampSteps_2 :
    (let s := st [] (sq fun q => { q with phase := .rising 3 })
     s.core.seq.aoUp = true ∧ s.core.seq.phase = .rising 3 ∧ s.core.seq.offReq = false ∧
      (aft (.railUp 7) s).get (Obj.Rail.T_RISE_US 3) = 7) := by decide +kernel

theorem witness_RampSteps_3 :
    (let s := st [] (sq fun q => { q with phase := .delayOn, todo := [3] })
     s.core.seq.aoUp = true ∧ s.core.seq.phase = .delayOn ∧ s.core.seq.todo = [3] ∧
      (aft .delayOnExpiry s).seq.phase = .rampReady) := by decide +kernel

theorem witness_RampEndsInUp_1 :
    (let s := st [(Obj.Dev.DEVICE_STATE, 1)] (sq fun q => { q with phase := .delayOn, dnIn := true })
     s.core.seq.aoUp = true ∧ s.core.seq.phase = .delayOn ∧ s.core.seq.todo = [] ∧ s.core.seq.dnIn = true ∧
      (aft .delayOnExpiry s).dev = Dv.selftest) := by decide +kernel

theorem witness_RampEndsInUp_2 :
    (let s := st [(Obj.Dev.DEVICE_STATE, 1)] (sq fun q => { q with phase := .cascadeUp })
     s.core.seq.aoUp = true ∧ s.core.seq.phase = .cascadeUp ∧
      (aft (.sqDnInChange true) s).get Obj.Seq.SEQ_STATE = 2) := by decide +kernel

theorem witness_RampEndsInUp_3 :
    (let s := st [(Obj.Seq.CASCADE, 2)] (sq fun q => { q with phase := .delayOn })
     s.core.seq.aoUp = true ∧ s.core.seq.phase = .delayOn ∧ s.core.seq.todo = [] ∧ s.core.dnEn = true ∧
      s.core.seq.dnIn = false ∧ (aft .delayOnExpiry s).seq.phase = .cascadeUp) := by decide +kernel

theorem witness_RampFailures_1 :
    (let s := st [(Obj.Seq.SEQ_STATE, 1), (Obj.Dev.DEVICE_STATE, 1)] (sq fun q => { q with phase := .rising 15 })
     s.core.seq.aoUp = true ∧ s.core.seq.phase = .rising 15 ∧ s.core.get (Obj.Rail.STATE 15) ≠ 6 ∧
      (aft .rampTimeout s).get Obj.Seq.SEQ_STATE = 3) := by decide +kernel

theorem witness_RampFailures_2 :
    (let s := st [(Obj.Seq.SEQ_STATE, 1), (Obj.Rail.STATE 4, 2)] (sq fun q => { q with up := [4] })
     s.core.seq.aoUp = true ∧ s.core.get Obj.Seq.SEQ_STATE = 1 ∧ s.core.get (Obj.Rail.STATE 4) = 2 ∧ 4 ∈ s.core.seq.up ∧
      (aft (.pgDisagree 4) s).get Obj.Seq.SEQ_STATE = 3) := by decide +kernel

theorem witness_RampFailures_3 :
    (let s := st [] (sq fun q => { q with phase := .cascadeUp })
     s.core.seq.aoUp = true ∧ s.core.seq.phase = .cascadeUp ∧
      (aft .cascadeTimeout s).bitOf Obj.Seq.FLAGS 5 = true) := by decide +kernel

theorem witness_RampFailures_4 :
    (let s := st [] (sq fun q => { q with phase := .cascadeDown, todo := [2] })
     s.core.seq.aoUp = true ∧ s.core.seq.phase = .cascadeDown ∧ 2 ∈ s.core.seq.todo ∧ s.core.get (Obj.Rail.STATE 2) ≠ 6 ∧
      (aft .cascadeTimeout s).seq.phase = .dropReady) := by decide +kernel

theorem witness_DescentSteps_1 :
    (let s := st [(Obj.Rail.STATE 3, 2), (Obj.Rail.STATE 5, 6)] (sq fun q => { q with phase := .dropReady, todo := [3, 5] })
     s.core.seq.aoUp = true ∧ s.core.seq.phase = .dropReady ∧ s.core.seq.todo = [3, 5] ∧ s.core.get (Obj.Rail.STATE 3) ≠ 6 ∧
      (aft .descentStep s).seq.todo = [] ∧ (aft .descentStep s).get (Obj.Rail.STATE 3) = 4) := by decide +kernel

theorem witness_DescentSteps_2 :
    (let s := st [(Obj.Rail.STATE 3, 4)] (sq fun q => { q with phase := .falling 3 })
     s.core.seq.aoUp = true ∧ s.core.seq.phase = .falling 3 ∧ (aft (.railOff 9) s).get (Obj.Rail.T_FALL_US 3) = 9 ∧
      (aft .descentStuck s).get (Obj.Rail.STATE 3) = 5 ∧ (aft .descentStuck s).seq.phase = .delayOff) := by decide +kernel

theorem witness_DescentSteps_3 :
    (let s := st [] (sq fun q => { q with phase := .delayOff, todo := [3] })
     s.core.seq.aoUp = true ∧ s.core.seq.phase = .delayOff ∧ 3 ∈ s.core.seq.todo ∧ s.core.get (Obj.Rail.STATE 3) ≠ 6 ∧
      (aft .delayOffExpiry s).seq.phase = .dropReady) := by decide +kernel

theorem witness_DescentSteps_4 :
    (let s := st [(Obj.Rail.STATE 3, 6)] (sq fun q => { q with phase := .delayOff, todo := [3], upOut := true, first := some 5 })
     s.core.seq.aoUp = true ∧ s.core.seq.phase = .delayOff ∧ (∀ r ∈ s.core.seq.todo, s.core.get (Obj.Rail.STATE r) = 6) ∧
      (let q := (aft .delayOffExpiry s).seq
       q.phase = .rest ∧ q.todo = [] ∧ q.upOut = false ∧ q.first = none)) := by decide +kernel

theorem witness_MarginsAndPolls_1 :
    (let s := up 6 [(Obj.Rail.MARGIN 3, 2 ^ 32 - 2)]
     s.core.seq.aoUp = true ∧ s.core.get Obj.Seq.SEQ_STATE = 2 ∧
      s.core.getInt (Obj.Rail.MARGIN_APPLIED 3) ≠ s.core.getInt (Obj.Rail.MARGIN 3) ∧
      (aft (.marginStep 3) s).get (Obj.Rail.MARGIN_APPLIED 3) = 2 ^ 32 - 1) := by decide +kernel

theorem witness_MarginsAndPolls_2 :
    (let s := up 6 [(Obj.Rail.PMB_ADDR 3, 0x40)]
     s.core.seq.aoUp = true ∧ s.core.get Obj.Seq.SEQ_STATE ≠ 0 ∧ s.core.get (Obj.Rail.PMB_ADDR 3) ≠ 0 ∧
      (aft (.pmbusAlert [⟨3, none⟩, ⟨3, some (1, 2, 3, 4)⟩]) s).get (Obj.Rail.PMB_READINGS 3) / 2 ^ 16
        = 1 <<< 80 + 2 <<< 48 + 3 <<< 16 + 4) := by decide +kernel

theorem witness_MarginsAndPolls_3 :
    (let s := up 6 [(Obj.Rail.PMB_ADDR 3, 0x40)] (sq fun q => { q with pmbFails := [(3, 2)] })
     s.core.seq.aoUp = true ∧ s.core.get Obj.Seq.SEQ_STATE ≠ 0 ∧ s.core.get (Obj.Rail.PMB_ADDR 3) ≠ 0 ∧
      s.core.seq.pmbFails.num 3 = 2 ∧ (aft (.pmbusPoll [⟨3, none⟩]) s).seq.pmbFails.num 3 = 3) := by decide +kernel

theorem witness_OnRequests_1 :
    (let s := st [(Obj.Seq.CASCADE, 0), (Obj.Seq.FAIL_COUNT, 255), (Obj.Seq.RAMP_RETRY, 3)]
     s.core.seq.aoUp = true ∧ s.core.upEn = false ∧ (aft .sqUpInRise s).get Obj.Seq.FAIL_COUNT = 0) := by decide +kernel

theorem witness_OnRequests_2 :
    (let s := up 11 [(Obj.Seq.CASCADE, 1)]
     s.core.seq.aoUp = true ∧ s.core.upEn = true ∧ s.core.dev = Dv.lockout ∧
      (aft .sqUpInRise s).get Obj.Dev.LOCKOUT_ON_REQS = 1) := by decide +kernel

theorem witness_OnRequests_3 :
    (let s := up 9 [(Obj.Seq.CASCADE, 1)]
     s.core.seq.aoUp = true ∧ s.core.upEn = true ∧ s.core.dev = Dv.descent ∧
      (aft .sqUpInRise s).get Obj.Seq.ON_PENDING = 1) := by decide +kernel

theorem witness_OnRequests_4 :
    (let s := st [(Obj.Seq.CASCADE, 1)] (sq fun q => { q with dwellOver := true })
     s.core.seq.aoUp = true ∧ s.core.upEn = true ∧ s.core.dev ≠ Dv.descent ∧ s.core.dev ≠ Dv.lockout ∧
      s.core.get Obj.Seq.SEQ_STATE = 0 ∧ s.core.seq.dwellOver = true ∧ (aft .sqUpInRise s).dev = Dv.ramp) := by decide +kernel

theorem witness_OnRequests_5 :
    (let s := st [(Obj.Seq.ON_PENDING, 1)]
     s.core.seq.aoUp = true ∧ s.core.dev ≠ Dv.lockout ∧ s.core.get Obj.Seq.SEQ_STATE = 0 ∧ s.core.onRequest = true ∧
      s.core.get Obj.Seq.FAIL_COUNT ≤ s.core.get Obj.Seq.RAMP_RETRY ∧ (aft .dwellEnd s).dev = Dv.ramp) := by decide +kernel

theorem witness_OnRequests_6 :
    (let s := st [(Obj.Seq.FAIL_COUNT, 4), (Obj.Seq.RAMP_RETRY, 3)]
     s.core.seq.aoUp = true ∧ s.core.get Obj.Seq.SEQ_STATE = 0 ∧
      s.core.get Obj.Seq.RAMP_RETRY < s.core.get Obj.Seq.FAIL_COUNT ∧ (aft .dwellEnd s).seq.dwellOver = true) := by decide +kernel

theorem witness_OffRequests_1 :
    (let s := st [(Obj.Seq.CASCADE, 1), (Obj.Seq.SEQ_STATE, 1), (Obj.Dev.DEVICE_STATE, 1)]
       (sq fun q => { q with phase := .delayOn, up := [1, 2] })
     s.core.seq.aoUp = true ∧ s.core.upEn = true ∧ s.core.get Obj.Seq.SEQ_STATE = 1 ∧ s.core.dev ≠ Dv.lockout ∧
      s.core.seq.phase = .delayOn ∧ s.core.seq.up ≠ [] ∧ (aft .sqUpInFall s).seq.todo = [2, 1]) := by decide +kernel

theorem witness_OffRequests_2 :
    (let s := st [(Obj.Seq.CASCADE, 1), (Obj.Seq.SEQ_STATE, 1), (Obj.Dev.DEVICE_STATE, 1)] (sq fun q => { q with phase := .rising 2 })
     s.core.seq.aoUp = true ∧ s.core.upEn = true ∧ s.core.get Obj.Seq.SEQ_STATE = 1 ∧ s.core.dev ≠ Dv.lockout ∧
      s.core.seq.phase = .rising 2 ∧ (aft .sqUpInFall s).seq.offReq = true) := by decide +kernel

theorem witness_OffRequests_3 :
    (let s := up 5 [(Obj.Seq.CASCADE, 1)]
     s.core.seq.aoUp = true ∧ s.core.upEn = true ∧ s.core.get Obj.Seq.SEQ_STATE = 2 ∧ Dv.selftest ≤ s.core.dev ∧
      s.core.dev ≤ Dv.sleep ∧ (aft .sqUpInFall s).seq.orderly = true) := by decide +kernel

theorem witness_OffRequests_4 : (st [(Obj.Seq.CASCADE, 0)]).core.upEn = false := by decide +kernel

theorem witness_OffRequests_5 :
    (let s := up 5 []
     Admits s .secureWorld Obj.Seq.POWER_REQ 1 ∧ Admits s .secureWorld Obj.Seq.POWER_REQ 2 ∧
      s.core.get Obj.Seq.SEQ_STATE = 2 ∧ Dv.selftest ≤ s.core.dev ∧ s.core.dev ≤ Dv.sleep ∧
      Out.status .ok ∈ (aft (.powerReqOff .secureWorld) s).out ∧ (aft (.powerReqCycle .secureWorld) s).get Obj.Seq.ON_PENDING = 1) := by
  decide +kernel

theorem witness_OffRequests_6 :
    (let s := st [] (sq fun q => { q with phase := .cascadeDown, todo := [2] })
     s.core.seq.aoUp = true ∧ s.core.seq.phase = .cascadeDown ∧ 2 ∈ s.core.seq.todo ∧ s.core.get (Obj.Rail.STATE 2) ≠ 6 ∧
      (aft (.sqDnInChange false) s).seq.phase = .dropReady) := by decide +kernel

theorem witness_PowerLoss_1 :
    (let s := up 5 [] (sq fun q => { q with up := [1], upOut := true })
     s.core.seq.aoUp = true ∧ s.core.get Obj.Seq.SEQ_STATE ≠ 0 ∧ (aft (.inputCollapse true) s).seq.up = []) := by decide +kernel

theorem witness_PowerLoss_2 :
    (let s := st []
     s.core.seq.aoUp = true ∧ s.core.get Obj.Seq.SEQ_STATE = 0 ∧
      (aft (.inputCollapse false) s).bitOf Obj.Seq.FLAGS 4 = true) := by decide +kernel

theorem witness_PowerLoss_3 :
    (let s := st [] (sq fun q => { q with aoUp := false, upIn := true })
     s.core.seq.aoUp = false ∧ (aft .aoResetRelease s).seq.aoUp = true ∧ (aft .aoResetRelease s).seq.upIn = true) := by decide +kernel

theorem witness_PowerLoss_4 :
    (let s := st [] (sq fun q => { q with first := some 0 })
     s.core.seq.aoUp = true ∧ s.core.seq.first = some 0 ∧ s.core.get Obj.Seq.EVENT_SEQ + 1 < 2 ^ 32 ∧
      (aft .firstFailureEnd s).get (Obj.FfLog.LOG 1) / 2 ^ 224 = 1) := by decide +kernel

theorem witness_RailSupervision_1 :
    (let s := up 5 [(Obj.Rail.STATE 3, 2)] (sq fun q => { q with table := List.replicate 16 row })
     s.core.seq.aoUp = true ∧ (s.core.rowOf 3).used = true ∧ s.core.get Obj.Seq.SEQ_STATE = 2 ∧
      s.core.get (Obj.Rail.STATE 3) = 2 ∧ (aft (.glitch 3) s).get (Obj.Rail.GLITCHES 3) = 1 ∧
      (aft (.comparatorTest 3 false) s).bitOf (Obj.Rail.FLAGS 3) 8 = true ∧
      (aft (.pgDisagree 3) s).bitOf (Obj.Rail.FLAGS 3) 6 = true) := by decide +kernel

theorem witness_RailSupervision_2 :
    (let s := up 5 [(Obj.Rail.STATE 3, 2), (Obj.Rail.ACTIONS 3, 2)] (sq fun q => { q with table := List.replicate 16 row, up := [3, 4] })
     s.core.seq.aoUp = true ∧ (s.core.rowOf 3).used = true ∧ s.core.get Obj.Seq.SEQ_STATE = 2 ∧
      s.core.get (Obj.Rail.STATE 3) = 2 ∧ s.core.belowUv 3 0 = true ∧ s.core.aboveOv 3 5000 = true ∧
      (s.core.railVal (Obj.Rail.ACTIONS 3)).testBit 0 = false ∧ (s.core.railVal (Obj.Rail.ACTIONS 3)).testBit 1 = true ∧
      s.core.seq.phase = .rest ∧ (aft (.railExcursion 3 .under 0) s).get (Obj.Rail.STATE 3) = 3 ∧
      (aft (.railExcursion 3 .over 5000) s).seq.todo = [4]) := by decide +kernel

theorem witness_RailSupervision_3 :
    (let s := up 5 [(Obj.Rail.STATE 3, 3)]
     s.core.seq.aoUp = true ∧ s.core.get (Obj.Rail.STATE 3) = 3 ∧ (aft (.railRecover 3) s).get (Obj.Rail.STATE 3) = 2) := by decide +kernel

theorem witness_MarginsAndPolls_w :
    (let s := up 6 [(Obj.Rail.STATE 3, 2), (Obj.Rail.UV_CODE 3, 100), (Obj.Rail.OV_CODE 3, 900)]
        (sq fun q => { q with table := List.replicate 16 row })
     Admits s .openWorld (Obj.Rail.MARGIN 3) 12 ∧ Admits s .openWorld (Obj.Rail.MARGIN 4) 12 ∧ s.core.get Obj.Seq.SEQ_STATE = 2 ∧
      s.core.get (Obj.Rail.STATE 3) = 2 ∧ s.core.get (Obj.Rail.STATE 4) ≠ 2 ∧
      s.core.marginFits 3 (12 : BitVec 32).toInt = true ∧
      (aft (.marginWrite 3 .openWorld 12) s).get (Obj.Rail.MARGIN 3) = 12 ∧
      (aft (.marginWrite 4 .openWorld 12) s).out = [.status .retry]) := by decide +kernel

theorem witness_MarginsAndPolls_w_2 :
    (let s := up 6 [(Obj.Rail.STATE 3, 2), (Obj.Rail.UV_CODE 3, 800), (Obj.Rail.OV_CODE 3, 801)]
        (sq fun q => { q with table := List.replicate 16 row })
     Admits s .openWorld (Obj.Rail.MARGIN 3) 12 ∧ s.core.marginFits 3 (12 : BitVec 32).toInt = false ∧
      (aft (.marginWrite 3 .openWorld 12) s).out = [.status .malformed]) := by decide +kernel

/-- Rails 2, 4 and so on stand below rail 0, and the collector listens. -/
def tree : List RailRow := (List.range 16).map fun i => { row with parent := if i ≠ 0 ∧ i % 2 = 0 then 0 else 0xFF }

def live (seqState act : Nat) (objs : List (Nat × Nat) := []) (f : SeqState → SeqState := id) : State :=
  st ([(Obj.Seq.SEQ_STATE, seqState), (Obj.Dev.DEVICE_STATE, 5), (Obj.Rail.STATE 2, 2), (Obj.Rail.STATE 1, 2),
    (Obj.Rail.ACTIONS 2, act)] ++ objs) (hearing (sq fun q => f { q with up := [1, 2, 4], table := tree }))

theorem witness_RailSupervision_4 :
    (let s := live 2 0
     s.core.seq.aoUp = true ∧ (s.core.rowOf 2).used = true ∧ s.core.isExcursion 2 .under 0 = true ∧
      s.core.isExcursion 2 .over 5000 = true ∧ s.core.isExcursion 2 .senseOpen 5000 = true ∧
      (s.core.railVal (Obj.Rail.ACTIONS 2)).testBit 0 = false ∧ (s.core.railVal (Obj.Rail.ACTIONS 2)).testBit 1 = false ∧
      s.core.Hears (Src.sqUv 2) ∧ s.core.Hears (Src.sqOv 2) ∧ s.core.Hears (Src.sqSense 2) ∧ s.core.Hears (Src.sqPg 2) ∧
      s.core.Hears (Src.sqCheck 2)) := by decide +kernel

theorem witness_RailSupervision_5 :
    (let s := live 2 2
     let c := s.clear.core.railExcursion 2 .senseOpen 5000
     s.core.isExcursion 2 .senseOpen 5000 = true ∧ s.core.seq.phase = .rest ∧ 1 ∈ s.core.seq.up ∧
      belowRail s.core.seq.table 2 16 1 = false ∧ c.get (Obj.Rail.STATE 2) = 6 ∧ c.seqState = 3) := by decide +kernel

theorem witness_RailSupervision_6 :
    (let s := live 3 0
     s.core.get Obj.Seq.SEQ_STATE = 3 ∧ s.core.isExcursion 2 .over 5000 = true ∧ 1 ≤ s.core.get (Obj.Rail.STATE 2) ∧
      s.core.get (Obj.Rail.STATE 2) ≤ 3 ∧ (s.clear.core.railExcursion 2 .over 5000).get (Obj.Rail.STATE 2) = 6) := by
  decide +kernel

theorem witness_DescentSteps_5 :
    (let s := live 3 0 [] fun q => { q with phase := .falling 2, todo := [1] }
     s.core.seq.aoUp = true ∧ s.core.seq.phase = .falling 2 ∧ s.core.Hears Src.sqDescentStuck ∧
      (s.clear.core.descentStuck).seq.phase = .delayOff) := by decide +kernel

theorem witness_MarginsAndPolls_4 :
    (let s := live 2 0 [(Obj.Rail.PMB_ADDR 3, 0x40), (Obj.Rail.PMB_MARGIN 3, 1), (Obj.Rail.MARGIN 3, 2)]
       fun q => { q with pmbFails := [(3, 2)] }
     s.core.Hears Src.sqPmbus ∧ s.core.isSet (Obj.Rail.PMB_MARGIN 3) = true ∧
      s.core.getInt (Obj.Rail.MARGIN_APPLIED 3) ≠ s.core.getInt (Obj.Rail.MARGIN 3) ∧
      (aft (.marginStep 3) s).out.length = 2) := by decide +kernel

theorem witness_OnRequests_7 :
    (let s := st [] (sq fun q => { q with aoUp := false })
     let t := up 11 [(Obj.Seq.CASCADE, 1), (Obj.Seq.FAIL_COUNT, 4), (Obj.Seq.RAMP_RETRY, 3)]
     s.core.seq.aoUp = false ∧ (aft .sqUpInRise s).seq.upIn = true ∧
      t.core.get Obj.Seq.RAMP_RETRY < t.core.get Obj.Seq.FAIL_COUNT ∧ (aft .sqUpInRise t).get Obj.Seq.FAIL_COUNT = 0) := by
  decide +kernel

theorem witness_OffRequests_7 :
    (let s := st [(Obj.Seq.SEQ_STATE, 1), (Obj.Dev.DEVICE_STATE, 1)] (sq fun q => { q with phase := .rising 2, offReq := true, up := [1] })
     s.core.seq.aoUp = true ∧ s.core.seq.offReq = true ∧ (aft (.railUp 77) s).seq.todo = [2, 1]) := by decide +kernel

theorem witness_PowerLoss_5 :
    (let s := up 5 [(Obj.Seq.EVENT_SEQ, 7)] (sq fun q => { q with first := some 0 })
     let t := up 5 [(Obj.Seq.EVENT_SEQ, 7)] (sq fun q => { q with failed := true })
     s.core.seq.first.isSome ∧ (aft (.inputCollapse false) s).get Obj.Seq.EVENT_SEQ = 8 ∧
      t.core.seq.first = none ∧ t.core.seq.failed = true ∧ (aft (.inputCollapse false) t).get Obj.Seq.EVENT_SEQ = 7 ∧
      (after .alwaysOnReset s).core.seq.aoUp = false) := by decide +kernel

/-- A lane of port 1 as given, in a port state. -/
def lane (ps : Nat) (l : HrLaneState) : State :=
  up 5 [(Obj.Port.PORT_STATE 1, ps), (Obj.Hr.PORT_ENABLE, 0xFF)] (hearing fun c => c.updHrLane 1 2 fun _ => l)

/-- A codeword of zeros from lane 2. -/
def word (good : Bool) (fco : Nat) : Codeword :=
  { good := good, corrected := 2, msg := codewordMsg fco 2 15 0 (List.replicate 640 0) }

theorem witness_LaneStates_1 :
    (let s := lane 3 { HrLaneState.init with trained := true }
     let t := lane 3 { HrLaneState.init with trained := true, locked := true }
     s.core.seqUp = true ∧ s.core.portState 1 ≠ 0 ∧ (s.core.hrLane 1 2).locked = false ∧ (t.core.hrLane 1 2).locked = true ∧
      (aft (.laneTrainingRestart 1 ⟨2, .transmit⟩) s).get (Obj.Port.LANE_RETRAINS 1) = 1 ∧
      (aft (.laneTrainingRestart 1 ⟨2, .receive⟩) s).get (Obj.Port.LANE_RETRAINS 1) = 1 ∧
      (t.clear.core.laneRestart 1 2 .receive).bitOf (Obj.Port.FLAGS 1) 2 = true) := by decide +kernel

theorem witness_LaneStates_2 :
    (let s := lane 2 HrLaneState.init
     s.core.seqUp = true ∧ s.core.portState 1 ≠ 0 ∧
      (aft (.laneTrained 1 ⟨2, .transmit⟩) s).get (Obj.Port.LANE_MASK_TX 1) = 4 ∧
      ((aft (.laneTrained 1 ⟨2, .receive⟩) s).hrLane 1 2).trained = true) := by decide +kernel

theorem witness_LaneStates_7 :
    (let s := up 5 [(Obj.Port.PORT_STATE 1, 3), (Obj.Port.LANE_MASK_TX 1, 3)] fun c => c.updPort 1 fun q => { q with wantTx := 0 }
     s.core.portUp 1 = true ∧ (s.core.portOf 1).wantTx = 0 ∧ s.core.get (Obj.Port.LANE_MASK_TX 1) ≠ 0 ∧
      (s.clear.core.txmaskUpdate 1).get (Obj.Port.LANE_MASK_TX 1) = 0) := by decide +kernel

theorem witness_LaneStates_3 :
    (let s := up 5 [(Obj.Port.PORT_STATE 1, 3)] fun c => c.updPort 1 fun q => { q with wantTx := 6 }
     s.core.seqUp = true ∧ s.core.portUp 1 = true ∧ (s.core.portOf 1).wantTx ≠ 0 ∧
      (s.core.portOf 1).wantTx ≠ s.core.get (Obj.Port.LANE_MASK_TX 1) ∧
      (aft (.txmaskUpdate 1) s).get (Obj.Port.LANE_MASK_TX 1) = 6) := by decide +kernel

theorem witness_LaneStates_4 :
    (let s := lane 3 { HrLaneState.init with trained := true, locked := true, bad := 6, uncorr := List.replicate 16 0 }
     s.core.seqUp = true ∧ (word false 0).wf = true ∧ (word false 0).good = false ∧ s.core.portState 1 ≠ 0 ∧
      (s.core.hrLane 1 2).trained = true ∧ (s.core.hrLane 1 2).bad < 7 ∧ (s.core.portOf 1).inbox = [] ∧
      ((s.core.hrLane 1 2).uncorr.filter fun t => s.core.tick < t + 500000000).length = 16 ∧ s.core.Hears (Src.hrFecUncorr 1) ∧
      (s.clear.core.codeword 1 2 (word false 0)).get (Obj.Port.FEC_UNCORRECTABLE 1) = 1) := by decide +kernel

theorem witness_LaneStates_5 :
    (let s := lane 1 { HrLaneState.init with trained := true, good := 2 }
     s.core.seqUp = true ∧ (word true 639).wf = true ∧ (word true 639).good = true ∧ s.core.portState 1 = 1 ∧
      (s.core.hrLane 1 2).trained = true ∧ (s.core.hrLane 1 2).locked = false ∧ 2 ≤ (s.core.hrLane 1 2).good ∧
      cwFco (word true 639) < 640 ∧
      (aft (.codewordReceive 1 2 (word true 639)) s).get (Obj.Port.PORT_STATE 1) = 2) := by decide +kernel

theorem witness_LaneStates_6 :
    (let s := lane 2 { HrLaneState.init with trained := true, locked := true, fcoBad := 6 }
     s.core.seqUp = true ∧ (word true 5).wf = true ∧ (word true 5).good = true ∧ s.core.portState 1 = 2 ∧
      (s.core.hrLane 1 2).trained = true ∧ (s.core.hrLane 1 2).locked = true ∧ (s.core.hrLane 1 2).fcoBad < 7 ∧
      (s.core.lagging 1 (cwSeq (word true 5))).1 = false ∧
      (aft (.codewordReceive 1 2 (word true 5)) s).get (Obj.Port.PORT_STATE 1) = 3 ∧
      ((aft (.codewordReceive 1 2 (word true 5)) s).portOf 1).grant.num 0 = 512) := by decide +kernel

/-- Port 1 UP with its buffers granted, and region 5 a plain region of it. -/
def portUp : State :=
  up 5 [(Obj.Port.PORT_STATE 1, 3), (Obj.Hr.PORT_ENABLE, 0xFF), (Obj.Region.PERSONALITY 5, 1), (Obj.Region.OWNER_MASK 5, 2),
      (Obj.Region.SIZE_MIB 5, 1)]
    (hearing fun c => c.updPort 1 fun q =>
      { q with grant := [(0, 512), (1, 256), (2, 64), (3, 64)], freed := [(1, 3)], creditSeen := true, cum := [(3, 9)] })

/-- An IDLE cell, a CREDIT cell, a WRITE cell and a READ cell for region 5. -/
def idle : Cell := mkCell Cy.idle 0 false false 0 0 0 []

def credit : Cell := mkCell Cy.credit 0 true false 0 1 (1 <<< 36 + 2 <<< 24 + 3 <<< 12 + 4) [15]

def writeX (last : Bool) : Cell := mkCell Cy.write Vc.blk last false 9 256 (5 <<< 38 + 4) [1, 2]

def readX (region : Nat := 5) : Cell := mkCell Cy.read Vc.blk true false 9 3 (region <<< 38 + 4) []

theorem witness_CellChecks_1 :
    (let s := portUp
     s.core.seqUp = true ∧ idle.wf = true ∧ s.core.portUp 1 = true ∧ hcrcOk Cy.idle idle = true ∧ hcrcOk Cy.trigger idle = false ∧
      s.core.Hears (Src.hrHcrc 1) ∧ s.core.Hears (Src.hrKeepalive 1) ∧
      (s.clear.core.triggerIn 1 idle).get (Obj.Port.HCRC_ERRORS 1) = 1) := by decide +kernel

theorem witness_CellChecks_2 :
    (let s := portUp
     credit.wf = true ∧ hcrcOk Cy.credit credit = true ∧ headerOk Cy.credit credit = true ∧ pcrcOk credit = true ∧
      ((aft (.creditCell 1 credit) s).portOf 1).cum.num 2 = 3) := by decide +kernel

theorem witness_CellChecks_3 :
    (let s := portUp
     s.core.grantHeld 1 = false ∧ ((aft (.creditSend 1) s).portOf 1).grant.num 1 = 259 ∧ s.core.grantHeld 3 = false) := by
  decide +kernel

theorem witness_CellChecks_4 :
    (let s := portUp
     s.core.seqUp = true ∧ s.core.portUp 1 = true ∧ (∀ j < 32, s.core.get (Obj.Job.STATE j) ≠ 1) ∧
      (s.clear.core.keepaliveLost 1).get (Obj.Port.PORT_STATE 1) = 1) := by decide +kernel

theorem witness_Transactions_1 :
    (let s := portUp
     let x := writeX false
     s.core.seqUp = true ∧ x.wf = true ∧ s.core.receives 1 Cy.write x = true ∧ (s.core.portOf 1).partialWrite = none ∧
      (s.core.portOf 1).tagUsed x.tag.toNat = false ∧ pcrcOk x = true ∧ x.last = false ∧
      ((aft (.writeCell 1 x) s).portOf 1).partialWrite.isSome = true) := by decide +kernel

theorem witness_Transactions_2 :
    (let s := portUp
     let x := writeX true
     s.core.receives 1 Cy.write x = true ∧ x.last = true ∧
      s.core.regionCheck 1 (cellRegion x) (cellOffset x) (cellBlocks x).length = none ∧
      s.core.get (Obj.Region.PERSONALITY (cellRegion x)) = 1 ∧ (s.core.portOf 1).held = [] ∧
      (∀ n < 32, s.core.scOut n = false) ∧ ((aft (.writeCell 1 x) s).portOf 1).writeTxns.length = 1) := by decide +kernel

theorem witness_Transactions_3 :
    (let t : WriteFlight := { tag := 9, cells := 2, left := 0, retry := false }
     let s := { portUp with core := portUp.core.updPort 1 fun q => { q with writeTxns := [t] } }
     (s.core.portOf 1).writeTxns.find? (fun t => t.tag == 9) = some t ∧ t.left = 0 ∧
      ((aft (.writeResponse 1 9) s).portOf 1).freed.num 1 = 5) := by decide +kernel

theorem witness_Transactions_4 :
    (let s := portUp
     let x := readX
     Arrives s 1 Cy.read x ∧ (s.core.portOf 1).tagUsed x.tag.toNat = false ∧
      s.core.regionCheck 1 (cellRegion x) (cellOffset x) x.plen.toNat = none ∧
      (((aft (.readRequest 1 x) s).portOf 1).readTxns.map fun t => (t.tag, t.blocks.length)) = [(9, 3)]) := by decide +kernel

theorem witness_Transactions_6 :
    (let s := portUp
     let x := readX 6
     Arrives s 1 Cy.read x ∧ (s.core.portOf 1).tagUsed x.tag.toNat = false ∧
      s.core.regionCheck 1 (cellRegion x) (cellOffset x) x.plen.toNat = some .noRegion ∧ (s.core.portOf 1).txq = [] ∧
      0 < (s.core.portOf 1).credit Vc.rsp ∧ (s.clear.core.readIn 1 x).out.length = 1) := by decide +kernel

theorem witness_Transactions_5 :
    (let b : ReadBlock := { src := none, got := some (7, 0), gen := 0, ready := true, stale := false, notReady := false }
     let t : ReadTxn := { tag := 9, region := 5, off := 0, blocks := [b, b], sent := 0 }
     let s := { portUp with core := portUp.core.updPort 1 fun q => { q with readTxns := [t] } }
     (s.core.portOf 1).readTxns.find? (fun t => t.tag == 9) = some t ∧ (∀ b ∈ slice (4 * t.sent) 4 t.blocks, b.got ≠ none) ∧
      t.blocks.length ≤ 4 * t.sent + 4 ∧ ((aft (.readResponse 1 9) s).portOf 1).readTxns = [] ∧
      (aft (.readResponse 1 9) s).out.length = 1) := by decide +kernel

/-- Job 4 in a state and mode on port 1, draining a range of 64 bytes of region 5; its plan and more. -/
def jb (stt mode : Nat) (objs : List (Nat × Nat)) (f : JobState → JobState := id) (g : Core → Core := id) : State :=
  up 5 ([(Obj.Port.PORT_STATE 1, 3), (Obj.Region.PERSONALITY 5, 5), (Obj.Region.OWNER_MASK 5, 2), (Obj.Region.SIZE_MIB 5, 1),
      (Obj.Job.SRC_KIND 4, 2), (Obj.Job.SOURCE 4, 5), (Obj.Job.RANGE_LENGTH 4, 1), (Obj.Job.PORT 4, 1), (Obj.Job.MODE 4, mode),
      (Obj.Job.STATE 4, stt)] ++ objs)
    fun c => g ((c.updPort 1 fun q => { q with grant := [(0, 512), (1, 256), (2, 64), (3, 64)], cum := [(1, 64)], creditSeen := true }).updJob 4 f)

/-- A slot of the objects' record, written whole. -/
def objSlot (objs : Tbl Nat) : LedgerSlot :=
  let x : LedgerSlot := { LedgerSlot.init with seq := 1, magic := 0x5A43, format := 2, half := 2, objs := objs }
  { x with crc := crc32c (x.covered 1) }

def flight (again : Bool) (tag : Nat) : PushFlight := { tag := tag, pos := 0, attempts := 1, again := again, cells := [] }

theorem witness_JobControl_1 :
    (let s := jb 0 0 [(Obj.Job.PROTECT 4, 0)]
     Admits s .openWorld (Obj.Job.START 4) 1 ∧ s.core.jobLive 4 = false ∧ s.core.inService = true ∧ s.core.jobRanges 4 = true ∧
      ((s.core.jobSource 4).toOption.map fun q => (s.core.jobRefusal s.fuses.secureBoot 4 .openWorld q, q.plan)) =
        some (none, rangePlan 0 1) ∧ s.core.admits (s.core.jobCredit 4) = true ∧
      (aft (.jobStart 4 .openWorld) s).get (Obj.Job.STATE 4) = 1 ∧ (aft (.jobStart 4 .openWorld) s).get (Obj.Job.GEN 4) = 1 ∧
      (aft (.jobStart 4 .openWorld) s).get (Obj.Job.CREDIT_MW 4) = 350 ∧
      (aft (.jobStart 4 .openWorld) s).holds Ck.drain 4 = true) := by decide +kernel

theorem witness_JobControl_2 :
    (let s := jb 1 1 [] fun q => { q with flights := [flight false 3, flight true 4] }
     Admits s .openWorld (Obj.Job.CANCEL 4) 1 ∧ s.core.jobLive 4 = true ∧
      (s.core.jobOf 4).flights.filter (fun f => !f.again) ≠ [] ∧
      ((aft (.jobCancel 4 .openWorld) s).jobOf 4).flights = [flight false 3] ∧
      (aft (.jobCancel 4 .openWorld) s).objs = s.core.objs) := by decide +kernel

theorem witness_JobControl_3 :
    (let s := jb 2 1 [] fun q => { q with flights := [flight true 4] }
     Admits s .openWorld (Obj.Job.CANCEL 4) 1 ∧ s.core.jobLive 4 = true ∧
      (s.core.jobOf 4).flights.filter (fun f => !f.again) = [] ∧ s.core.get (Obj.Job.SRC_KIND 4) ≠ 0 ∧
      (aft (.jobCancel 4 .openWorld) s).get (Obj.Job.STATE 4) = 4 ∧
      (aft (.jobCancel 4 .openWorld) s).bitOf (Obj.Job.FLAGS 4) 1 = true) := by decide +kernel

theorem witness_JobControl_4 :
    (let s := jb 2 0 [(Obj.Job.HALT_CAUSE 4, 2)]
     Admits s .openWorld (Obj.Job.RESUME 4) 1 ∧ s.core.get (Obj.Job.STATE 4) = 2 ∧ s.core.get (Obj.Job.HALT_CAUSE 4) ≠ 4 ∧
      s.core.portUp (s.core.get (Obj.Job.PORT 4)) = true ∧
      (aft (.jobResume 4 .openWorld) s).get (Obj.Job.STATE 4) = 1 ∧
      (aft (.jobResume 4 .openWorld) s).get (Obj.Job.RESUMES 4) = 1) := by decide +kernel

theorem witness_JobCells_1 :
    (let s := jb 1 0 [] fun q => { q with plan := rangePlan 0 1, next := 1, pos := 64 }
     s.core.hubUp = true ∧ s.core.get (Obj.Job.STATE 4) = 1 ∧ (s.core.jobOf 4).cancelling = false ∧
      s.core.get (Obj.Job.MODE 4) = 0 ∧ s.core.get (Obj.Job.PORT 4) = 1 ∧ s.core.blkFree 1 = true ∧ s.core.myTurn 1 4 = true ∧
      (s.core.jobOf 4).nextCell.map (fun e => (e.2.1, e.2.2.1)) = some (64, 256) ∧ s.core.rateAllows 4 256 = true ∧
      (s.core.jobOf 4).complete < (s.core.jobOf 4).next ∧ (s.core.portOf 1).txq = [] ∧
      ((aft (.jobCellSend 4 1) s).jobOf 4).pos = 320 ∧ (aft (.jobCellSend 4 1) s).out.length = 1 ∧
      (aft (.jobCellSend 4 1) s).get (Obj.Job.BYTES 4) = 64) := by decide +kernel

theorem witness_JobCells_2 :
    (let f : PushFlight := { flight true 3 with cells := [mkCell Cy.write Vc.blk true false 3 64 0 []] }
     let s := jb 1 1 [] fun q => { q with plan := rangePlan 0 1, flights := [f] }
     s.core.hubUp = true ∧ s.core.blkFree 1 = true ∧ s.core.myTurn 1 4 = true ∧
      (s.core.jobOf 4).flights.find? (·.again) = some f ∧
      s.core.rateAllows 4 64 = true ∧ (s.core.portOf 1).txq = [] ∧ f.cells.length ≤ (s.core.portOf 1).credit Vc.blk ∧
      ((aft (.jobCellSend 4 1) s).jobOf 4).flights = [{ f with again := false }] ∧
      (aft (.jobCellSend 4 1) s).out = f.cells.map (Out.cell 1 Cy.write) ∧
      (aft (.jobCellSend 4 1) s).get (Obj.Job.RETRIES 4) = 1) := by decide +kernel

theorem witness_JobCells_3 :
    (let s := jb 1 1 [] fun q => { q with plan := [{ rtype := 0, member := 0, off := 0, len := 8000 }], next := 1,
                                          flights := [flight false 0] }
     s.core.hubUp = true ∧ s.core.blkFree 1 = true ∧ s.core.myTurn 1 4 = true ∧
      (s.core.jobOf 4).flights.find? (·.again) = none ∧
      (s.core.jobOf 4).pos + 4096 ≤ planBytes (s.core.jobOf 4).plan ∧
      (s.core.jobOf 4).flights.length < s.core.get (Obj.Job.PUSH_DEPTH 4) ∧ s.core.rateAllows 4 4096 = true ∧
      (s.core.jobOf 4).formedTo ((s.core.jobOf 4).pos + 4096) = true ∧
      (s.core.hubTags 1).contains 1 = false ∧ (s.core.portOf 1).txq = [] ∧
      16 ≤ (s.core.portOf 1).credit Vc.blk ∧ ((aft (.jobCellSend 4 1) s).jobOf 4).pos = 4096 ∧
      (((aft (.jobCellSend 4 1) s).jobOf 4).flights.map fun f => (f.tag, f.cells.length)) = [(0, 0), (1, 16)]) := by decide +kernel

theorem witness_JobCells_4 :
    (let s := jb 1 2 [(Obj.Job.PUSH_REGION 4, 5)] fun q => { q with plan := rangePlan 0 1, next := 1 }
     s.core.hubUp = true ∧ s.core.get (Obj.Job.MODE 4) = 2 ∧ (s.core.jobOf 4).pos + 64 < planBytes (s.core.jobOf 4).plan ∧
      s.core.rateAllows 4 64 = true ∧ (s.core.jobOf 4).formedTo ((s.core.jobOf 4).pos + 64) = true ∧
      ((s.clear.core.post (writeReq (s.core.regionHa 5 + 0 + (s.core.jobOf 4).pos / 64) 3
        (ofBytes ((s.core.jobOf 4).bytesAt (s.core.jobOf 4).pos ((s.core.jobOf 4).pos + 64)))
        ((s.core.jobOf 4).markedAt (s.core.jobOf 4).pos ((s.core.jobOf 4).pos + 64)) (.drain 4))).map fun e => e.2) = some false ∧
      ((aft (.jobCellSend 4 1) s).jobOf 4).pos = 64) := by decide +kernel

theorem witness_JobCells_5 :
    (let s := jb 1 1 [(Obj.Job.RETRY_LIMIT 4, 3)] fun q => { q with flights := [flight false 3] }
     s.core.hubUp = true ∧ (s.core.jobOf 4).flights.find? (fun f => f.tag == 3 && !f.again) = some (flight false 3) ∧
      (flight false 3).attempts + 1 < s.core.get (Obj.Job.RETRY_LIMIT 4) ∧
      ((aft (.pushRespTimeout 4 3) s).jobOf 4).flights = [{ flight true 3 with attempts := 2 }]) := by decide +kernel

theorem witness_JobCells_6 :
    (let s := jb 1 1 [(Obj.Job.RETRY_LIMIT 4, 2)] fun q => { q with flights := [flight false 3] }
     s.core.get (Obj.Job.STATE 4) = 1 ∧ (s.core.jobOf 4).flights.find? (fun f => f.tag == 3 && !f.again) = some (flight false 3) ∧
      s.core.get (Obj.Job.RETRY_LIMIT 4) ≤ (flight false 3).attempts + 1 ∧
      (aft (.pushRespTimeout 4 3) s).get (Obj.Job.HALT_CAUSE 4) = 2 ∧
      (aft (.pushRespTimeout 4 3) s).get (Obj.Job.STATE 4) = 2) := by decide +kernel

theorem witness_JobCells_7 :
    (let s := jb 1 0 [] id fun c => c.updPort 1 fun q => { q with cum := [] }
     s.core.hubUp = true ∧ s.core.get (Obj.Job.STATE 4) = 1 ∧ s.core.get (Obj.Job.MODE 4) ≠ 2 ∧ s.core.portUp 1 = true ∧
      (s.core.portOf 1).credit Vc.blk = 0 ∧ (aft (.jobStallTimeout 4) s).get (Obj.Job.HALT_CAUSE 4) = 3) := by decide +kernel

theorem witness_JobCells_8 :
    (let s := jb 1 1 [] fun q => { q with flights := [flight false 3, flight true 4] }
     let x := mkCell Cy.response Vc.rsp true false 3 0 0 []
     Arrives s 1 Cy.response x ∧ field 47 40 x.arg.toNat = 0 ∧
      (List.range 32).find? (fun j => s.core.get (Obj.Job.PORT j) = 1 &&
        (s.core.jobOf j).flights.any fun f => f.tag == x.tag.toNat) = some 4 ∧
      (s.core.jobOf 4).flights.filter (fun g => g.tag != x.tag.toNat) ≠ [] ∧
      ((aft (.hostResponse 1 x) s).jobOf 4).flights = [flight true 4] ∧
      ((aft (.hostResponse 1 x) s).portOf 1).freed.num 3 = 1) := by decide +kernel

theorem witness_JobControl_c_1 :
    (let s := jb 3 1 [(Hid.CP_NEXT, 5), (Obj.CpFetch.SPILL_SLOTS, 8)] id fun c =>
       let d : Core := { c with checkpoints := [(4, 0x4350 <<< 2544)] }
       d.updLedger 2 fun l => { l with a := objSlot [(Hid.CP_RESERVE, 70000)] }
     s.core.hubUp = true ∧ s.core.checkpoints = [(4, 0x4350 <<< 2544)] ∧
      (s.clear.core.takeReserved Hid.CP_NEXT Hid.CP_RESERVE (2 ^ 16)).map (fun e => e.1) = some 5 ∧
      (aft (.checkpointSigned 4) s).checkpoints = [] ∧ ((aft (.checkpointSigned 4) s).jobOf 4).cpReady = true ∧ s.core.get Obj.CpFetch.SPILL_SLOTS ≠ 0) := by decide +kernel

theorem witness_JobControl_c_2 :
    (let s := jb 3 1 [(Obj.CpFetch.SPILL_SLOTS, 8)] id fun c => { c with spill := [(1, 9 <<< 2432 + 5)] }
     Admits s .openWorld Obj.CpFetch.CP_FETCH_SEQ 9 ∧ s.core.get Obj.CpFetch.SPILL_SLOTS ≠ 0 ∧
      field 2495 2432 (s.core.spill.num (9 % s.core.get Obj.CpFetch.SPILL_SLOTS)) = 9 ∧
      (aft (.cpFetch .openWorld 9) s).get Obj.CpFetch.CP_FETCHED = 9 <<< 2432 + 5) := by decide +kernel

theorem witness_JobControl_c_3 :
    (let s := jb 3 1 []
     Admits s .openWorld Obj.CpFetch.CP_FETCH_SEQ 9 ∧ s.core.get Obj.CpFetch.SPILL_SLOTS = 0 ∧
      Out.status .noRegion ∈ (aft (.cpFetch .openWorld 9) s).out) := by decide +kernel

/-- Lease 2 in a state, on region 5 of port 1. -/
def lease (stt : Nat) (objs : List (Nat × Nat)) (f : Core → Core := id) : State :=
  jb 0 0 ([(Obj.Lease.STATE 2, stt), (Obj.Lease.ENABLE 2, stt % 2), (Obj.Lease.REGION 2, 5), (Obj.Lease.PORT 2, 1),
    (Obj.Lease.PERIOD_NEXT 2, 16667), (Obj.Lease.TOL_NEXT 2, 5), (Obj.Lease.PERIOD 2, 16667), (Obj.Lease.TOL 2, 50)] ++ objs) id f

theorem witness_Leases_1 :
    (let s := lease 0 []
     Admits s .openWorld (Obj.Lease.ENABLE 2) 1 ∧ s.core.get (Obj.Lease.STATE 2) ≠ 1 ∧ s.core.regionSecure 5 = false ∧
      s.core.get (Obj.Region.PERSONALITY 5) ≠ 0 ∧ s.core.bitOf (Obj.Region.OWNER_MASK 5) 1 = true ∧
      s.core.get (Obj.Region.FREE_PENDING 5) ≠ 1 ∧ s.core.freeing = []) := by decide +kernel

theorem witness_Leases_2 :
    (let s := lease 1 [(Hid.TIMED, 4)]
     Admits s .openWorld (Obj.Lease.ENABLE 2) 0 ∧ s.core.freeing = [] ∧
      (aft (.leaseDisable 2 .openWorld) s).get (Obj.Lease.STATE 2) = 0 ∧
      Admits s .openWorld (Obj.Lease.FRAME_MARK 2) 77 ∧ s.core.get (Obj.Lease.STATE 2) = 1 ∧ s.core.hubUp = true ∧
      s.core.bitOf Hid.TIMED 2 = true) := by decide +kernel

theorem witness_Leases_3 :
    (let s := lease 2 []
     Admits s .openWorld (Obj.Lease.FRAME_MARK 2) 77 ∧ s.core.get (Obj.Lease.STATE 2) ≠ 1 ∧
      (aft (.frameMark 2 .openWorld 77) s).get (Obj.Lease.LAST_MARK 2) = 77) := by decide +kernel

theorem witness_Leases_4 :
    (let s := lease 1 []
     s.core.hubUp = true ∧ s.core.leasesAt 7 = [2] ∧ s.core.scState 7 = 0 ∧ (s.core.mcOf 7).srEntering = false ∧ (s.core.mcOf 7).srAt = 0 ∧
      (s.core.mcOf 7).stopped = false ∧ s.core.otherWork 7 = false ∧
      (∀ l ∈ s.core.leasesAt 7, s.core.get Obj.Tailrace.SR_EXIT_NS ≤ s.core.get (Obj.Lease.TOL l) * 1000 ∧
        s.core.timeNs + s.core.get Obj.Tailrace.SR_MIN_IDLE_US * 1000 ≤
          s.core.get (Obj.Lease.T_MARK l) / 2 ^ 32 + s.core.get (Obj.Lease.PERIOD l) * 1000) ∧
      s.core.admits 400 = true ∧ ((aft (.leaseQuiet 7) s).mcOf 7).srEntering = true ∧
      (aft (.leaseQuiet 7) s).holds Ck.srExit 7 = true ∧ s.core.scState 7 ≠ 2 ∧
      (aft (.leaseWake 7) s).bitOf (Obj.Sc.PD_MASK 7) 0 = false) := by decide +kernel

theorem witness_Leases_5 :
    (let s := lease 1 [(Obj.Sc.STATE 7, 2)] fun c => c.updMc 7 fun m => { m with srWhy := 1 }
     s.core.hubUp = true ∧ s.core.leasesAt 7 ≠ [] ∧ s.core.scState 7 = 2 ∧ (s.core.mcOf 7).srWhy = 1 ∧ (s.core.mcOf 7).srExiting = false ∧
      ((aft (.leaseWake 7) s).mcOf 7).srExiting = true) := by decide +kernel

/-- Subchannel 3 trained, its controller as given. -/
def mcs (objs : List (Nat × Nat)) (f : McState → McState) (g : Core → Core := id) : State :=
  up 5 ([(Obj.Train.TRAIN_STATE 3, 2)] ++ objs) fun c => g (c.updMc 3 fun m => f { m with inReset := false })

/-- A hub address on subchannel 3, and requests of it. -/
def ha3 : Nat := unmapHa (defaultOf Obj.Mc.ADDR_MAP) { sc := 3, lr := 1, bg := 2, ba := 1, row := 77, col := 5 }

def bank3 : Nat := (({ sc := 3, lr := 1, bg := 2, ba := 1, row := 77, col := 5 } : DramAddr)).bank

def rd3 : Req64 := { readReq ha3 3 (.hrRead 1 9 0 0) with id := 4 }

def wr3 : Req64 := { writeReq ha3 3 99 false (.hrWrite 1 9 0) with id := 5 }

theorem witness_Acceptance_0 :
    (let m : McState := { McState.init with wait := List.replicate 32 rd3, stalled := [rd3, wr3] }
     m.wait = rd3 :: List.replicate 31 rd3 ∧ m.wait.length ≤ 32 ∧ m.pop.wait.length = 32 ∧ m.pop.stalled = [wr3]) := by
  decide +kernel

theorem witness_Acceptance_1 :
    (let s := mcs [] fun m => { m with wait := [rd3] }
     s.core.hubUp = true ∧ (s.core.mcOf 3).wait = [rd3] ∧ rd3.write = false ∧ (s.core.mcOf 3).writes = [] ∧
      s.core.scOut 3 = false ∧ ((aft (.mcRequestAccept 3) s).mcOf 3).reads.length = 1 ∧
      (aft (.mcRequestAccept 3) s).objs = s.core.objs) := by decide +kernel

theorem witness_Acceptance_2 :
    (let b : ReadBlock := { src := none, got := none, gen := 0, ready := true, stale := false, notReady := false }
     let s := mcs [] (fun m => { m with wait := [rd3], writes := [wr3] }) fun c => c.updPort 1 fun q =>
       { q with readTxns := [{ tag := 9, region := 5, off := 0, blocks := [b], sent := 0 }] }
     s.core.hubUp = true ∧ (s.core.mcOf 3).wait = [rd3] ∧ rd3.owner = .hrRead 1 9 0 0 ∧ (s.core.portOf 1).ups = 0 ∧
      ((s.core.mcOf 3).writes.filter fun w => w.ha == rd3.ha).getLast? = some wr3 ∧
      (((aft (.mcRequestAccept 3) s).portOf 1).readTxns.map fun x => x.blocks.map fun b => b.got) = [[some (99, 0)]] ∧
      (aft (.mcRequestAccept 3) s).get (Obj.Sc.FORWARDS 3) = 1 ∧ (aft (.mcRequestAccept 3) s).get (Obj.Sc.READS 3) = 1) := by
  decide +kernel

theorem witness_Acceptance_3 :
    (let s := mcs [] (fun m => { m with wait := [wr3] }) fun c => c.updPort 1 fun q =>
       { q with writeTxns := [{ tag := 9, cells := 1, left := 2, retry := false }] }
     (s.core.mcOf 3).wait = [wr3] ∧ wr3.write = true ∧ s.core.scOut 3 = false ∧ (s.core.mcOf 3).writes.length < 128 ∧
      wr3.owner = .hrWrite 1 9 0 ∧ (s.core.portOf 1).ups = 0 ∧ ((aft (.mcRequestAccept 3) s).mcOf 3).writes.length = 1 ∧
      (((aft (.mcRequestAccept 3) s).portOf 1).writeTxns.map (·.left)) = [1]) := by decide +kernel

theorem witness_Acceptance_4 :
    (let s := mcs [] (fun m => { m with wait := [wr3], writes := [{ wr3 with data := 1, id := 2 }] })
     (s.core.mcOf 3).wait = [wr3] ∧ (∃ w ∈ (s.core.mcOf 3).writes, w.ha = wr3.ha) ∧
      (((aft (.mcRequestAccept 3) s).mcOf 3).writes.map (·.data)) = [99]) := by decide +kernel

theorem witness_Acceptance_5 :
    (let s := mcs [] id
     s.core.hubUp = true ∧ (s.core.mcOf 3).wait = []) := by decide +kernel

/-- The pick of subchannel 3. -/
def picked (s : State) (t : PickTiming) : Pick :=
  let c1 := s.clear.core.updMc 3 (fun m => s.core.skipShadows (s.core.updateDirection 3 m) t)
  c1.pick 3 (c1.mcOf 3) t

/-- Only the column command of a request may issue now. -/
def casOf (id : Nat) : PickTiming := { cas := [id], pre := [], act := [], ref := [2], mode := [], enc1 := true, enc2 := true }

theorem witness_Picks_1 :
    (let s := mcs [] fun m => { m with reads := [rd3], rows := [(bank3, 78)] }
     s.core.hubUp = true ∧ s.core.mayIssue 3 = true ∧ (s.core.eccOf 3).repair = none ∧ picked s (casOf 4) = .cas rd3 ∧
      ((aft (.mcPick 3 (casOf 4)) s).mcOf 3).flight.length = 1 ∧ (aft (.mcPick 3 (casOf 4)) s).out.length = 1) := by decide +kernel

theorem witness_Picks_2 :
    (let s := mcs [] fun m => { m with writes := [wr3], rows := [(bank3, 78)], run := 9 }
     picked s (casOf 5) = .cas wr3 ∧ (s.core.eccOf 3).repair = none ∧
      ((aft (.mcPick 3 (casOf 5)) s).mcOf 3).writes = []) := by decide +kernel

theorem witness_Picks_3 :
    (let s := mcs [] fun m => { m with reads := [rd3], rows := [(bank3, 78)], debt := [(2, 9)] }
     (∀ k < 2, s.core.refWants 3 (s.core.mcOf 3) 0 k = false) ∧ s.core.refWants 3 (s.core.mcOf 3) 0 2 = true ∧
      (s.core.mcOf 3).openBanks 2 = [] ∧ (casOf 4).ref.contains 2 = true ∧ s.core.holds Ck.flush 0 = false ∧
      (s.core.mcOf 3).pattern.testBit 2 = false ∧ (s.core.mcOf 3).pdBack.testBit 0 = false ∧
      ((aft (.mcPick 3 (casOf 4)) s).mcOf 3).debt.num 2 = 8 ∧ (aft (.mcPick 3 (casOf 4)) s).out.length = 1) := by
  decide +kernel

theorem witness_Picks_4 :
    (let t : PickTiming := { cas := [], pre := [], act := [bank3], ref := [], mode := [5], enc1 := true, enc2 := true }
     let s := mcs [] fun m => { m with reads := [rd3] }
     picked s t = .row { bank := bank3, row := some 77 } ∧ s.core.mayIssue 3 = true ∧ (s.core.eccOf 3).repair = none ∧
      (aft (.mcPick 3 t) s).get (Obj.Sc.ACTIVATES 3) = 1) := by decide +kernel

theorem witness_Picks_5 :
    (let t : PickTiming := { cas := [], pre := [], act := [], ref := [], mode := [5], enc1 := true, enc2 := true }
     let s := mcs [] fun m => { m with mrrDue := 0x60 }
     (∀ k < 8, s.core.refWants 3 (s.core.mcOf 3) 0 k = false) ∧ (∀ k < 5, (s.core.mcOf 3).mrrDue.testBit k = false) ∧
      (s.core.mcOf 3).mrrDue.testBit 5 = true ∧ t.mode.contains 5 = true ∧ s.core.bitOf (Obj.Sc.PD_MASK 3) 1 = false ∧
      (s.core.mcOf 3).pattern.testBit 5 = false ∧ ((aft (.mcPick 3 t) s).mcOf 3).mrrDue = 0x40) := by decide +kernel

theorem witness_Refresh_1 :
    (let s := mcs [(Obj.Sc.PD_MASK 3, 2), (Obj.Sc.STATE 3, 1)] fun m => { m with debt := [(5, 3)] }
     s.core.hubUp = true ∧ s.core.restsItself 3 = false ∧ (s.core.mcOf 3).stopped = false ∧
      ((aft (.refreshInterval 3 5) s).mcOf 3).debt.num 5 = 4 ∧ (aft (.refreshInterval 3 5) s).get (Obj.Sc.STATE 3) = 0 ∧
      ((aft (.mr4Poll 3) s).mcOf 3).mrrDue = 255 ∧ (mcs [(Obj.Sc.STATE 3, 2)] id).core.restsItself 3 = true) := by decide +kernel

theorem witness_Refresh_2 :
    (let s := mcs [] fun m => { m with debt := [(5, 9)] }
     s.core.get Obj.Mc.POSTPONE < (s.core.mcOf 3).debt.num 5 ∧
      (aft (.refLate 3 5) s).bitOf (Obj.Sc.FLAGS 3) 5 = true) := by decide +kernel

theorem witness_Refresh_3 :
    (let s := mcs [] fun m => { m with debt := [(5, 3)], mrrOut := 32 }
     let dies : List (Fin 3) := [0, 1, 0, 0, 0, 0, 0, 0, 0, 0]
     dies.length = 10 ∧ (s.core.mcOf 3).mrrOut.testBit 5 = true ∧ (∀ d ∈ dies, d ≠ 2) ∧ (∃ d ∈ dies, d = 1) ∧ (s.core.mcOf 3).hot.testBit 5 = false ∧
      ((aft (.mr4Result 3 5 dies) s).mcOf 3).debt.num 5 = 6 ∧
      ((aft (.mr4Result 3 5 dies) s).mcOf 3).excess.num 5 = 6 - s.core.get Obj.Mc.POSTPONE ∧
      (aft (.mr4Result 3 5 (2 :: dies.tail)) s).bitOf (Obj.Sc.FLAGS 3) 4 = true) := by decide +kernel

theorem witness_Refresh_4 :
    ∀ k < 2, (let s := mcs [] fun m => { m with hot := 32, oneX := [(5, k)], mrrOut := 32 }
     let dies : List (Fin 3) := List.replicate 10 0
     dies.length = 10 ∧ (s.core.mcOf 3).mrrOut.testBit 5 = true ∧ (∀ d ∈ dies, d = 0) ∧ (s.core.mcOf 3).hot.testBit 5 = true ∧
      ((aft (.mr4Result 3 5 dies) s).mcOf 3).hot.testBit 5 = decide (k = 0)) := by decide +kernel

theorem witness_Refresh_5 :
    (let s := mcs [] fun m => { m with reads := [rd3], rows := [(7, 12)] }
     (∃ r ∈ (s.core.mcOf 3).reads ++ (s.core.mcOf 3).writes, r.id = 4 ∧ (r.cls = 3 ∨ r.cls = 4)) ∧
      (((aft (.requestPromote 3 4) s).mcOf 3).reads.map (·.cls)) = [2] ∧
      (aft (.requestPromote 3 4) s).get (Obj.Sc.PROMOTIONS 3) = 1 ∧ s.core.mayIssue 3 = true ∧
      (s.core.mcOf 3).rows.num 7 ≠ 0 ∧ (∀ r ∈ (s.core.mcOf 3).queued, (s.core.dramOf r.ha).bank ≠ 7) ∧
      ((aft (.rowIdleClose 3 7) s).mcOf 3).rows.num 7 = 0) := by decide +kernel

theorem witness_Refresh_6 :
    (let s := mcs [] fun m => { m with debt := [(5, 3)] }
     (Admits s .openWorld Obj.Mc.REFRESH_FLUSH 1 ∨ Admits s .secureWorld Obj.Mc.REFRESH_FLUSH 1) ∧
      s.core.holds Ck.flush 0 = false ∧ s.core.admits 12000 = true ∧ (∀ n < 32, s.core.scState n = 0) ∧
      (s.core.mcOf 3).debt.num 5 ≠ 0) := by decide +kernel

theorem witness_MemoryRest_1 :
    (let s := mcs [] fun m => { m with rows := [(130, 12)] }
     s.core.get Obj.Mc.PD_IDLE_NS ≠ 0 ∧ s.core.mayIssue 3 = true ∧ s.core.scState 3 ≤ 1 ∧
      s.core.bitOf (Obj.Sc.PD_MASK 3) 1 = false ∧ s.core.rankIdle 3 1 = true ∧ s.core.leaseForbidsPd 3 = false ∧
      (aft (.powerDownEntry 3 1) s).get (Obj.Sc.PD_MASK 3) = 2 ∧ ((aft (.powerDownEntry 3 1) s).mcOf 3).rows.num 130 = 0) := by
  decide +kernel

theorem witness_MemoryRest_2 :
    (let s := mcs [] fun m => { m with srEntering := true, srWhy := 2, debt := [(1, 2), (6, 3)] }
     (s.core.mcOf 3).srAt = 0 ∧ (s.core.mcOf 3).srEntering = true ∧ s.core.scState 3 ≤ 1 ∧ (s.core.mcOf 3).drained = true ∧
      s.core.mayIssue 3 = true ∧ (s.core.eccOf 3).repair = none ∧ (s.core.ftOf 3).capture = none ∧
      s.core.holds Ck.flush 0 = false ∧ ((aft (.selfRefreshEntry 3) s).mcOf 3).srAt = 1 ∧
      (aft (.selfRefreshEntry 3) s).get (Obj.Sc.REFRESHES 3) = 5) := by decide +kernel

theorem witness_MemoryRest_5 :
    (let s := mcs [] (fun m => { m with srEntering := true, srWhy := 2, srAt := 1 }) fun c => { c with tick := 500 }
     (s.core.mcOf 3).srAt ≠ 0 ∧ (s.core.mcOf 3).stopped = false ∧
      s.core.get Obj.Phy.ALERT_WINDOW_NS ≤ 2 * (s.core.tick + 1 - (s.core.mcOf 3).srAt) ∧ (s.core.mcOf 3).srWhy ≠ 1 ∧
      (aft (.selfRefreshEntry 3) s).get (Obj.Sc.STATE 3) = 2 ∧
      (mcs [] fun m => { m with wait := [rd3] }).core.hubUp = true ∧
      ((mcs [] fun m => { m with wait := [rd3] }).core.mcOf 3).arriving ≠ []) := by decide +kernel

theorem witness_MemoryRest_3 :
    (let s := mcs [(Obj.Sc.STATE 3, 2)] fun m => { m with srExiting := true, srWhy := 2 }
     s.core.scState 3 = 2 ∧ (s.core.mcOf 3).srExiting = true ∧ s.core.exitMayBegin 3 = true ∧
      (s.core.ddrOf 3).alertLow = false ∧ (s.core.ddrOf 3).alertOwed = false ∧ (s.core.mcOf 3).offAfter = false ∧ s.core.start = none ∧ (s.core.mcOf 3).held = false ∧
      (aft (.selfRefreshExit 3) s).get (Obj.Sc.STATE 3) = 0 ∧ ((aft (.selfRefreshExit 3) s).mcOf 3).debt.num 7 = 1) := by
  decide +kernel

theorem witness_MemoryRest_4 :
    (let s := mcs [] fun m => { m with writes := [wr3] }
     Admits s .secureWorld Obj.Mc.ADDR_MAP 2 ∧ (after (.addrMapWrite .secureWorld 2) s).core.addrMap = 2 ∧
      (after (.addrMapWrite .secureWorld 2) s).mem = s.mem.loseAll) := by decide +kernel

theorem witness_Alerts_1 :
    (let s := mcs [] id
     s.core.hubUp = true ∧ (s.core.ddrOf 3).alertLow = false ∧ s.core.alertHeard 3 = true ∧ (s.core.mcOf 3).inReset = false ∧
      (s.core.ddrOf 3).chain = 0 ∧ ((aft (.alertEvent 3) s).mcOf 3).stopped = true ∧
      ((aft (.alertEvent 3) s).ddrOf 3).chain = 1 ∧ (aft (.alertStuck 3) s).get (Obj.Sc.STATE 3) = 3) := by decide +kernel

theorem witness_Alerts_2 :
    (let s := mcs [] id fun c => c.updDdr 3 fun d => { d with chain := 2 }
     s.core.alertHeard 3 = true ∧ (s.core.ddrOf 3).chain = 2 ∧ s.core.tick ≤ (s.core.ddrOf 3).replayEnd + 500 ∧
      (aft (.alertEvent 3) s).get (Obj.Sc.STATE 3) = 3 ∧ (aft (.alertEvent 3) s).get (Obj.Train.PARITY_UNRECOVERED 3) = 1) := by
  decide +kernel

theorem witness_Alerts_3 :
    (let h : HistCmd := { t := 0, cmd := .wr 7 1 2, read := none, wrote := some (40, 5, false) }
     let s := mcs [] (fun m => { m with stopped := true }) fun c => c.updDdr 3 fun d => { d with alertLow := true, history := [h] }
     (s.core.ddrOf 3).alertLow = true ∧ (s.core.ddrOf 3).alertOwed = false ∧ (s.core.eccOf 3).repair = none ∧
      s.core.alertWindow 3 = [h] ∧
      ((aft (.alertDeassert 3) s).mcOf 3).stopped = false ∧
      (aft (.alertDeassert 3) s).get (Obj.Train.CA_REPLAYS 3) = 1) := by decide +kernel

theorem witness_Alerts_4 :
    (let s := mcs [(Obj.Sc.STATE 3, 2)] id fun c => c.updDdr 3 fun d => { d with alertLow := true, alertOwed := true }
     s.core.hubUp = true ∧ (s.core.ddrOf 3).alertLow = true ∧ (s.core.ddrOf 3).alertOwed = true ∧
      (s.core.eccOf 3).repair = none ∧ ((aft (.alertDeassert 3) s).ddrOf 3).alertLow = false ∧
      ((aft (.alertDeassert 3) s).ddrOf 3).alertOwed = true) := by decide +kernel

/-- What ten lanes measured: nothing. -/
def noResult : StepResult :=
  let l : LaneSweep := { bits := [], coarse := [], fine := [], recen := none, level := none, taps1 := [], taps2 := [],
                         again := none, corrected := 0, inBadBlock := false }
  { coarse := [], fine := [], caBits := [], lanes := List.replicate 10 l, hardOk := [], saveBad := [] }

/-- What a sweep with one passing window found, and what leveling found. -/
def sweep3 : StepResult :=
  { noResult with coarse := [{ code := 40, run := some (10, 50) }],
                  fine := (List.range 17).map fun i => { code := 32 + i, run := some (10, 50) },
                  caBits := List.replicate 14 (3, 9) }

def level3 : StepResult := { noResult with lanes := noResult.lanes.map fun l => { l with level := some (100, false) } }

/-- A training of subchannel 3 under way at a step. -/
def training (f : TrainRun → TrainRun) : State :=
  up 5 [(Obj.Train.TRAIN_STATE 3, 1), (Obj.Sc.STATE 3, 3)] fun c =>
    (c.updMc 3 fun m => { m with inReset := true }).updDdr 3 fun d =>
      { d with train := some (f { TrainRun.fresh true true 0 with waiting := false }) }

theorem witness_Training_1 :
    (let s := training id
     s.core.hubUp = true ∧ noResult.wf = true ∧ (s.core.ddrOf 3).alertLow = false ∧ (s.core.mcOf 3).inReset = true ∧
      ((s.core.ddrOf 3).train.map fun t => (t.waiting, t.repeats, t.failed, t.step)) = some (false, 0, none, 1) ∧
      ((aft (.trainStepDone 3 noResult) s).ddrOf 3).train.map (·.step) = some 2 ∧
      (after (.trainStepDone 3 noResult) s).mem = s.mem.lose 3) := by decide +kernel

theorem witness_Training_2 :
    (let s := training fun t => { t with step := 7, repeats := 3 }
     ((s.core.ddrOf 3).train.map fun t => (t.waiting, t.repeats, t.step)) = some (false, 3, 7) ∧ s.core.start = none ∧
      (aft (.trainStepDone 3 noResult) s).get (Obj.Train.TRAIN_STATE 3) = 3 ∧
      (aft (.trainStepDone 3 noResult) s).get (Obj.Train.READY 3) = 1) := by decide +kernel

theorem witness_Training_3 :
    (let s := training fun t => { t with step := 10, pr := 1 }
     ((s.core.ddrOf 3).train.map fun t => (t.repeats, t.step, t.pr, t.noSave)) = some (0, 10, 1, true) ∧
      (aft (.trainStepDone 3 noResult) s).get (Obj.Train.GEN 3) = 1 ∧
      (aft (.trainStepDone 3 noResult) s).get (Obj.Train.TRAIN_STATE 3) = 3) := by decide +kernel

/-- Step n ends with this result and the next one runs. -/
def stepEnds (n : Nat) (r : StepResult) : Bool :=
  let s := training fun t => { t with step := n, fromOne := false }
  r.wf && !(s.core.ddrOf 3).alertLow &&
    (s.core.ddrOf 3).train.any (fun t => !t.waiting && t.repeats == 0 && t.failed.isNone && t.step == n && t.pr == 0 && !t.fromOne)
    && (((aft (.trainStepDone 3 r) s).ddrOf 3).train.map (·.step)) == some (n + 1)

theorem witness_Training_5 :
    stepEnds 2 sweep3 = true ∧ stepEnds 3 sweep3 = true ∧ stepEnds 4 noResult = true ∧ stepEnds 7 level3 = true := by
  decide +kernel

theorem witness_Training_6 :
    (eyeCentre (State.reset.core.get Obj.Phy.VREF_COARSE_STEP) sweep3.coarse sweep3.fine).isSome = true ∧
    (∀ w ∈ sweep3.caBits, w.1 ≤ w.2) ∧
    (State.reset.core.stepLanes { TrainRun.fresh true true 0 with waiting := false, step := 7 } level3).failed = none := by
  decide +kernel

theorem witness_Training_4 :
    (let s := mcs [(Obj.Train.TRAIN_STATE 3, 3), (Obj.Sc.STATE 3, 3)] id
     Admits s .secureWorld (Obj.Train.RETRAIN 3) 1 ∧ s.core.scOffline 3 = true ∧ s.core.trainState 3 ≠ 1 ∧
      (aft (.retrain 3 .secureWorld) s).get (Obj.Train.TRAIN_STATE 3) = 1 ∧
      Admits (mcs [] id) .secureWorld (Obj.Train.RETRAIN 3) 1 ∧ (mcs [] id).core.scOffline 3 = false ∧
      (aft (.retrain 3 .secureWorld) (mcs [] id)).out = [.status .retry]) := by decide +kernel

/-- A slot of the objects record with a SEQ. -/
def seqSlot (n : Nat) : LedgerSlot :=
  let x : LedgerSlot := { LedgerSlot.init with seq := n, magic := 0x5A43, format := 2, half := 2, objs := [(5, 7)] }
  { x with crc := crc32c (x.covered n) }

/-- What the wires returned: an error in the first n symbols, the shadow samplers silent. -/
def wires (n : Nat) : ReadData :=
  { err := List.replicate n 1 ++ List.replicate (80 - n) 0, shadow := List.replicate 10 (0, 0), interruptNs := 12 }

def verdict (n : Nat) (poison : Bool) : Judgement := judge ((wires n).err.map (·.toNat)) poison none

/-- Reads in flight on subchannel 3, and a READ of port 1 with tag 9 that waits for its one block. -/
def flyingWith (g : Core → Core) (rs : List Req64) : State :=
  mcs [] (fun m => { m with flight := rs }) fun c => g (c.updPort 1 fun q =>
    { q with readTxns := [{ tag := 9, region := 5, off := 0, sent := 0,
                            blocks := [{ src := none, got := none, gen := 0, ready := true, stale := false,
                                         notReady := false }] }] })

def outcomeOf (c : Core) : Option (Nat × Nat) :=
  ((c.portOf 1).readTxns.head?.bind fun t => t.blocks[0]?).bind (·.got)

/-- The common hypotheses of the statement about a Headrace read. -/
def awaited (s : State) (r : Req64) : Bool :=
  s.core.hubUp && ((s.core.mcOf 3).flight.find? (fun r => r.at_ == .out || r.at_ == .stale) == some r) && r.at_ == .out &&
  !(s.core.mcOf 3).stopped && r.owner == .hrRead 1 9 0 0 && (s.core.portOf 1).ups == 0 && (s.core.eccOf 3).suspect.isNone &&
  (s.core.eccOf 3).outcomes.isEmpty && (s.core.eccOf 3).repair.isNone &&
  ((s.core.mcOf 3).flight.all fun q => q.at_ == .out && !q.inReplay) &&
  (s.core.markedLane 3 ((s.core.dramOf r.ha).lr / 4)).isNone

theorem witness_ReadDecoding_1 :
    (let r := { rd3 with data := 77, second := true }
     let s := flyingWith id [r]
     awaited s r = true ∧ (wires 0).wf = true ∧ verdict 0 r.poison = .data [] (List.replicate 80 0) ∧
      outcomeOf (aft (.readDecode 3 (wires 0)) s) = some (77, 0) ∧
      (aft (.readDecode 3 (wires 0)) s).get (Obj.Sc.UE_REREAD_OK 3) = 1) := by decide +kernel

theorem witness_ReadDecoding_2 :
    (let r := { rd3 with data := 77, poison := true }
     let s := flyingWith id [r]
     awaited s r = true ∧ verdict 0 r.poison = .poisoned [] (List.replicate 80 0) ∧
      outcomeOf (aft (.readDecode 3 (wires 0)) s) = some (77, 1)) := by decide +kernel

theorem witness_ReadDecoding_3 :
    (let r := { rd3 with data := 77 }
     let s := flyingWith id [r]
     awaited s r = true ∧ verdict 1 r.poison = .data [0] (List.replicate 80 0) ∧ s.core.hitLanes [0] = []) := by
  decide +kernel

theorem witness_ReadDecoding_4 :
    (let r := { rd3 with data := 77 }
     let s := flyingWith id [r]
     awaited s r = true ∧ verdict 4 r.poison = .data [0, 1, 2, 3] (List.replicate 80 0) ∧
      s.core.hitLanes [0, 1, 2, 3] = [0]) := by decide +kernel

/-- Twenty wrong symbols are beyond the code. -/
theorem verdict_bad : verdict 20 false = .bad := by decide +kernel

theorem witness_ReadDecoding_5 :
    awaited (flyingWith id [rd3]) rd3 = true ∧ rd3.second = false ∧ (wires 20).wf = true := by decide +kernel

theorem witness_ReadDecoding_6 :
    (let r := { rd3 with second := true }
     let s := flyingWith (hearing id) [r]
     awaited s r = true ∧ s.core.Hears (Src.mcUe 3)) := by decide +kernel

/-- A suspect on lane 0 with confirmation reads that have come. -/
def susp (h : List (Nat × Bool)) : Suspect :=
  { lane := 0, pr := 0, ha := ha3, syms := [], hits := h, held := [], requester := 0 }

theorem witness_ReadDecoding_7 :
    (let r := { rd3 with at_ := Flight.stale }
     let s := flyingWith (fun c => c.updEcc 3 fun e => { e with suspect := some (susp []) }) [r]
     (s.core.mcOf 3).flight.find? (fun r => r.at_ == .out || r.at_ == .stale) = some r ∧ (s.core.mcOf 3).stopped = false ∧
      (s.core.eccOf 3).suspect ≠ none ∧ (s.core.eccOf 3).repair = none ∧
      ((aft (.readDecode 3 (wires 20)) s).mcOf 3).flight.map (·.at_) = [.kept]) := by decide +kernel

theorem witness_ReadDecoding_8 :
    (let r := { readReq ha3 0 (.confirm 2) with id := 4 }
     let s := flyingWith (fun c => c.updEcc 3 fun e => { e with suspect := some (susp [(0, false), (1, true)]) }) [r]
     (s.core.mcOf 3).flight.find? (fun r => r.at_ == .out || r.at_ == .stale) = some r ∧ r.at_ = .out ∧
      (s.core.mcOf 3).stopped = false ∧ (s.core.eccOf 3).suspect = some (susp [(0, false), (1, true)]) ∧
      (s.core.eccOf 3).repair = none ∧ verdict 0 false = .data [] (List.replicate 80 0) ∧
      (aft (.readDecode 3 (wires 0)) s).bitOf (Obj.EccSc.FLAGS 3) 2 = true ∧
      (aft (.readDecode 3 (wires 0)) s).get (Obj.EccSc.INTERRUPT_LAST 3) = 12) := by decide +kernel

theorem witness_ReadDecoding_9 :
    ((mcs [] id).core.mcOf 3).flight = [] ∧ ((mcs [] fun m => { m with stopped := true }).core.mcOf 3).stopped = true ∧
      ((mcs [] id).core.eccOf 3).repair = none := by decide +kernel

theorem witness_EccUpkeep_1 :
    (let s := mcs [] id (hearing id)
     s.core.hubUp = true ∧ s.core.Hears (Src.eccChecker 3) ∧
      (s.clear.core.decoderSelftest 3 [1, 1, 1, 2]).bitOf (Obj.EccSc.FLAGS 3) 8 = true ∧
      (s.clear.core.decoderSelftest 3 [1, 1, 1, 2]).get Obj.Ecc.LOG_COUNT = 1) := by decide +kernel

theorem witness_EccUpkeep_2 :
    (let s := mcs [(Obj.EccSc.ERASE_MAP 3, 0x03FF)] id fun c => c.updLane 3 3 fun l => { l with state := 5 }
     Admits s .secureWorld (Obj.EccSc.ERASE_MAP 3) 0xFF04 ∧ s.core.get (Obj.EccSc.ERASE_MAP 3) = 0x03FF ∧
      (aft (.eraseMapWrite 3 .secureWorld 0xFF04) s).get (Obj.EccSc.ERASE_MAP 3) = 0xFF04 ∧
      ((aft (.eraseMapWrite 3 .secureWorld 0xFF04) s).laneOf 3 14).state = 5 ∧
      ((aft (.eraseMapWrite 3 .secureWorld 0xFF04) s).laneOf 3 3).state = 1) := by decide +kernel

theorem witness_EccUpkeep_3 :
    (let s := mcs [(Obj.EccSc.ERASE_MAP 3, 0x0302)] id
     Admits s .secureWorld (Obj.EccSc.ERASE_MAP 3) 0x0304 ∧ Admits s .secureWorld (Obj.EccSc.ERASE_MAP 3) 0x0402 ∧
      (aft (.eraseMapWrite 3 .secureWorld 0x0304) s).out = [.status .malformed] ∧
      (aft (.eraseMapWrite 3 .secureWorld 0x0402) s).out = [.status .malformed]) := by decide +kernel

theorem witness_EccUpkeep_4 :
    (let s := mcs [(Obj.EccSc.SCRUB_POS 3, 2 ^ 25 - 1)] id
     s.core.get Obj.Ecc.SCRUB_PERIOD_H ≠ 0 ∧ s.core.scState 3 < 2 ∧ s.core.trainState 3 = 2 ∧ s.core.dataServed = true ∧
      (s.core.eccOf 3).scrubLeft = 0 ∧ s.core.forceOnly 3 = false ∧ s.core.holds Ck.scrub 3 = false) := by decide +kernel

theorem witness_EccUpkeep_5 :
    (let s := mcs [] id fun c => c.updEcc 3 fun e => { e with scrubLeft := 4, behind := 1 }
     s.core.get Obj.Ecc.SCRUB_PERIOD_H ≠ 0 ∧ s.core.forceOnly 3 = false ∧ s.core.holds Ck.scrub 3 = false ∧
      s.core.admits 40 = true ∧ (aft (.scrubRow 3) s).holds Ck.scrub 3 = true ∧
      ((aft (.scrubRow 3) s).eccOf 3).behind = 2) := by decide +kernel

/-- A repair candidate, and the subchannel with its repair credit held. -/
def cand : Candidate := { lr := 1, lane := 4, bg := 2, ba := 1, row := 77, retried := false }

def repairing (e : EccState → EccState) (objs : List (Nat × Nat)) : State :=
  mcs objs (fun m => { m with nextId := 9 }) (hearing fun c => { c.updEcc 3 e with
    sluice := { held := [{ kind := Ck.repair, owner := 3, mw := 300, forced := false }], queue := [] } })

/-- A repair whose last step is over. -/
def repairRun (alerted clean : Bool) : RepairRun :=
  { k := cand, upto := 0, phase := 6, left := 0, save := [], clean := clean, alerted := alerted }

theorem witness_EccUpkeep_6 :
    (let s := repairing (fun e => { e with candidates := [cand] }) []
     (s.core.eccOf 3).candidates = [cand] ∧ (s.core.eccOf 3).repair = none ∧ s.core.forceOnly 3 = false ∧
      s.core.trainState 3 = 2 ∧ s.core.scState 3 < 2 ∧ s.core.unrepairable 3 cand = false ∧ s.core.holds Ck.repair 3 = true ∧
      (s.core.mcOf 3).srAt = 0 ∧ (s.core.mcOf 3).srEntering = false ∧
      (((aft (.repair 3 true) s).eccOf 3).repair.map (·.upto)) = some 9 ∧ s.core.Hears (Src.eccRepair 3) ∧
      ((s.clear.core.repairBegin 3 false).repairTurn 3).bitOf (Obj.EccSc.FLAGS 3) 7 = true) := by decide +kernel

theorem witness_EccUpkeep_7 :
    (let s := repairing (fun e => { e with repair := some (repairRun false true) }) []
     (s.core.eccOf 3).repair = some (repairRun false true) ∧ cand.lr < 8 ∧ s.core.markedLane 3 (cand.lr / 4) ≠ some cand.lane ∧
      (List.range 512).find? (fun i => field 63 61 (s.core.get (repairKey i)) == 0) = some 0 ∧
      (s.clear.core.repairDone 3 cand.lr).get (Obj.EccSc.REPAIRS 3) = 1) := by decide +kernel

theorem witness_EccUpkeep_8 :
    ∀ x ∈ [(false, false), (true, true)],
    (let s := repairing (fun e => { e with repair := some (repairRun x.1 x.2) }) []
     (s.core.eccOf 3).repair = some (repairRun x.1 x.2) ∧ s.core.markedLane 3 (cand.lr / 4) ≠ some cand.lane ∧
      (s.clear.core.repairDone 3 cand.lr).get (Obj.EccSc.REPAIR_FAILS 3) = 1 ∧
      (((s.clear.core.repairDone 3 cand.lr).eccOf 3).candidates.length) = if x.1 then 1 else 0) := by decide +kernel

theorem witness_LaneTracking_1 :
    (let s := mcs [(Obj.Train.READY 3, 1)] id fun c => c.updLane 3 14 fun l => { l with applied := [(8, 20)], target := [(8, 30)] }
     let l := s.core.laneOf 3 14
     l.applied.num (tapNum .wrDq) ≠ l.target.num (tapNum .wrDq) ∧ s.core.isSet (Obj.Train.READY 3) = true ∧
      s.core.mayStep l (tapNum .wrDq) = true ∧
      ((aft (.tapStep 3 1 4 .wrDq) s).laneOf 3 14).applied.num 8 = 21) := by decide +kernel

theorem witness_LaneTracking_2 :
    (let s := mcs [] id fun c => c.updLane 3 14 fun l => { l with state := 1 }
     (s.core.laneOf 3 14).state = 1 ∧ s.core.scState 3 = 0 ∧ s.core.bitOf (Obj.Sc.PD_MASK 3) 1 = false ∧
      ((aft (.trackStarved 3 1 4) s).laneOf 3 14).state = 3 ∧ (aft (.trackStarved 3 1 4) s).inserting 3 1 = true) := by
  decide +kernel

theorem witness_LaneTracking_3 :
    (let s := mcs [(Obj.Sluice.BUDGET_MW, 0)] id fun c => c.updLane 3 14 fun l => { l with state := 1 }
     s.core.inserting 3 1 = false ∧ s.core.admits 150 = false ∧
      (aft (.trackStarved 3 1 4) s).get (Obj.FtSc.INSERT_REFUSALS 3) = 1) := by decide +kernel

theorem witness_LaneTracking_4 :
    (let s := mcs [] id fun c => ((c.updEcc 3 fun e => { e with behind := 2, candidates := [cand] }).updFt 3 fun f =>
       { f with wanted := true }).updLane 3 14 fun l => { l with state := 2 }
     2 ≤ (s.core.eccOf 3).behind ∧ s.core.holds Ck.scrub 3 = false ∧ s.core.admits 40 = true ∧
      (s.core.eccOf 3).candidates ≠ [] ∧ s.core.holds Ck.repair 3 = false ∧ s.core.admits 300 = true ∧
      (s.core.ftOf 3).wanted = true ∧ s.core.trainState 3 = 2 ∧ (s.core.ftOf 3).capture = none ∧
      s.core.holds Ck.capture 3 = false ∧ s.core.admits 900 = true ∧ s.core.inserting 3 1 = false ∧
      (∃ k < 10, s.core.starved 3 (10 * 1 + k) = true) ∧ s.core.admits 150 = true ∧
      (aft (.creditReask .scrub 3 1) s).holds Ck.scrub 3 = true ∧ (aft (.creditReask .repair 3 1) s).holds Ck.repair 3 = true ∧
      ((aft (.creditReask .capture 3 1) s).ftOf 3).wanted = false ∧ (aft (.creditReask .insert 3 1) s).inserting 3 1 = true) := by
  decide +kernel

theorem witness_LaneTracking_5 :
    (let s := mcs [] id (hearing fun c => { c with dll := [(1, (5, 7))] })
     s.core.hubUp = true ∧ Tbl.get (fun _ => (0, 0)) (aft (.dllTrimStep 1 (some true)) s).dll 1 = (5, 7) ∧
      Tbl.get (fun _ => (0, 0)) (aft (.dllTrimStep 0 (some true)) s).dll 0 = (1, 1) ∧ s.core.Hears (Src.dllUnlock 1)) := by
  decide +kernel

theorem witness_LaneTracking_6 :
    (let s := mcs [(Obj.FtSc.T_NOW 3, 40000)] id
     Admits s .secureWorld (Obj.FtSc.RECAL 3) 1 ∧ (aft (.recal 3 .secureWorld) s).get (Obj.FtSc.T_CAL 3) = 40000 ∧
      (aft (.recal 3 .secureWorld) s).holds Ck.capture 3 = true) := by decide +kernel

/-- A capture's credit held, and the capture as given. -/
def capturing (k : Option CaptureRun) : State :=
  mcs [(Obj.Sc.PD_MASK 3, 1), (Obj.Sc.STATE 3, 1)] (fun m => { m with nextId := 9 }) (hearing fun c =>
    { c.updFt 3 (fun f => { f with capture := k }) with
      sluice := { held := [{ kind := Ck.capture, owner := 3, mw := 900, forced := false }], queue := [] } })

def captureRun (pr : Nat) : CaptureRun := { pr := pr, temp := 5, upto := 3, found := [], read := [], before := [] }

def sweep (r : Option (Int × Int)) : WriteSweep := { runs := List.replicate 10 r, repeated := false, saveBad := [] }

theorem witness_LaneTracking_7 :
    (let s := capturing none
     s.core.holds Ck.capture 3 = true ∧ (s.core.ftOf 3).capture = none ∧ s.core.trainState 3 = 2 ∧ s.core.scState 3 ≤ 1 ∧
      (s.core.mcOf 3).srAt = 0 ∧ (s.core.mcOf 3).srEntering = false ∧
      ((aft (.capture 3) s).ftOf 3).capture.isSome = true) := by decide +kernel

theorem witness_LaneTracking_8 :
    (let s := capturing (some (captureRun 0))
     (sweep none).wf = true ∧ s.core.sweepClear 3 (captureRun 0) = true ∧ (s.core.mcOf 3).stopped = false ∧
      s.core.sweepLane 3 0 (nth (sweep none).runs 0 none) = none ∧ s.core.Hears (Src.ftTrack 3) ∧
      (s.clear.core.writeSweep s.mem 3 0 (sweep none)).1.get (Obj.FtSc.CAPTURE_FAILS 3) = 1 ∧
      (∀ i < 10, s.core.sweepLane 3 i (nth (sweep (some (-10, 10))).runs i none) ≠ none) ∧
      (((aft (.writeSweepDone 3 0 (sweep (some (-10, 10)))) s).ftOf 3).capture.map (·.pr)) = some 1) := by decide +kernel

theorem witness_LaneTracking_9 :
    (let s := capturing (some (captureRun 1))
     s.core.sweepClear 3 (captureRun 1) = true ∧
      (∀ i < 10, s.core.sweepLane 3 (10 + i) (nth (sweep (some (-10, 10))).runs i none) ≠ none) ∧
      (aft (.writeSweepDone 3 1 (sweep (some (-10, 10)))) s).get (Obj.FtSc.CAPTURES 3) = 1 ∧
      (aft (.writeSweepDone 3 1 (sweep (some (-10, 10)))) s).get (Obj.FtSc.T_CAL 3) = 5) := by decide +kernel

theorem witness_Monitors_1 :
    (let s := mcs [] id
     s.core.seqUp = true ∧ (∀ i < 25, (s.core.monOf i).window = false) ∧ ((aft (.monCal 5) s).monOf 5).window = true ∧
      (aft (.monReading 5 (-7)) s).get (Obj.FtSc.T_NOW 22) = 2 ^ 32 - 7 ∧
      (aft (.monReading 5 (-7)) s).monGen 5 = 1) := by decide +kernel

theorem witness_Monitors_2 :
    (let s := mcs [] id fun c => c.updMon 5 fun m => { m with window := true, attempts := 2 }
     (s.core.monOf 5).window = true ∧ (∃ i < 25, (s.core.monOf i).window = true) ∧
      s.core.get Obj.Mon.RIPPLE_LIMIT_MV < 10000 ∧
      ((aft (.monCalDone 5 0 3 4) s).monOf 5).gain = 4 ∧ (aft (.monCalDone 5 10000 3 4) s).get Obj.Mon.CAL_REFUSALS = 1) := by
  decide +kernel

/-- A refused channel whose trims are too old. -/
theorem witness_Monitors_3 :
    (let s := mcs [(Obj.Mon.REFUSED_MASK, 32)] id fun c => { c with tick := 50000000000000 }
     (s.core.monRefused 5 && decide (s.core.get Obj.Mon.MON_TRIM_MAX_AGE_S * 500000000 <
        s.core.tick - (s.core.monOf 5).trimAt)) = true ∧ (s.clear.core.monReading 5 (-7)).monStale 5 = true ∧
      (s.clear.core.monReading 5 (-7)).bitOf (Obj.FtSc.FLAGS 22) 4 = true) := by decide +kernel

theorem witness_Monitors_4 :
    (let s := mcs [(Obj.Mon.TS 5, 1 <<< 16)] id
     s.core.monGen 5 ≠ 0 ∧ (aft (.monitorReadingStale 5) s).monStale 5 = true ∧
      (aft (.monitorReadingStale 5) s).bitOf (Obj.FtSc.FLAGS 23) 4 = true) := by decide +kernel

/-- Record r's ledger in a state. -/
def led (r : Nat) (f : LedgerState → LedgerState) : State := mcs [] id (hearing fun c => c.updLedger r f)

/-- A commit under way into slot B of the objects' record. -/
def commitRun (k : Nat) (again : Bool) : LedgerCommit := { slot := 1, step := k, again := again, content := seqSlot 5 }

theorem witness_LedgerCommits_1 :
    (let s := led 1 fun l => { l with dirty := true }
     let l := s.core.ledgerOf 1
     s.core.seq.aoUp = true ∧ l.run = none ∧ l.topSeq + 1 ≠ 0xFFFFFFFF ∧ l.target = 0 ∧ s.core.commitMay 1 = true ∧
      (((aft (.ledgerCommit .calWest) s).ledgerOf 1).run.map (·.slot)) = some 0 ∧
      ((aft (.calCommitDue 1) s).ledgerOf 1).run.isSome = true) := by decide +kernel

theorem witness_LedgerCommits_2 :
    (let s := led 2 fun l => { l with a := seqSlot 4 }
     (s.core.ledgerOf 2).run = none ∧ (s.core.ledgerOf 2).target = 1 ∧ (s.core.ledgerOf 2).topSeq = 4 ∧
      s.core.commitMay 2 = true) := by decide +kernel

theorem witness_LedgerCommits_3 :
    (let s := led 1 fun l => { l with last := some 0 }
     (s.core.ledgerOf 1).run = none ∧ s.core.commitMay 1 = false ∧
      ((aft (.ledgerCommit .calWest) s).ledgerOf 1).dirty = true) := by decide +kernel

theorem witness_LedgerCommits_4 :
    (let s := led 2 fun l => { l with a := seqSlot 0xFFFFFFFE }
     (s.core.ledgerOf 2).run = none ∧ (s.core.ledgerOf 2).topSeq + 1 = 0xFFFFFFFF ∧ s.core.commitMay 2 = true ∧
      s.core.Hears Src.ledgerCommit) := by decide +kernel

theorem witness_LedgerCommits_5 :
    ∀ k ∈ [2, 3, 4], (let s := led 2 fun l => { l with run := some (commitRun k false) }
     (s.core.ledgerOf 2).run = some (commitRun k false) ∧ (s.core.ledgerOf 2).b.clean = true ∧
      (((aft (.ledgerStepDone .objects []) s).ledgerOf 2).run.map (·.step)) = some (k + 1)) := by decide +kernel

theorem witness_LedgerCommits_6 :
    (let f := fun again => led 2 fun l => { l with run := some (commitRun 4 again), b := { seqSlot 5 with flaw := [(3, 4)] } }
     ((f false).core.ledgerOf 2).b.clean = false ∧ (f true).core.chainFails = 0 ∧ (f true).core.Hears Src.ledgerCommit ∧
      (((aft (.ledgerStepDone .objects []) (f false)).ledgerOf 2).run.map (·.step)) = some 2 ∧
      ((f true).clear.core.ledgerStep 2 []).get Obj.Cal.COMMIT_FAILS = 1) := by decide +kernel

theorem witness_LedgerCommits_7 :
    (let s := led 2 fun l => { l with run := some (commitRun 5 false), a := seqSlot 4 }
     s.core.seq.orderly = false ∧ (s.core.ledgerOf 2).topSeq = 4 ∧
      ({ seqSlot 5 with flaw := [] } : LedgerSlot).valid = true ∧ (seqSlot 5).seqHeld = 5 ∧
      (((aft (.ledgerStepDone .objects []) s).ledgerOf 2).governs.map (·.1)) = some 1) := by decide +kernel

theorem witness_LedgerCommits_8 : Admits (mcs [] id) .secureWorld (forerunnerKey 1) 5 ∧ forerunnerOk 5 = false := by
  decide +kernel

/-- The collector runs; more of its state. -/
def fcs (objs : List (Nat × Nat)) (f : FcState → FcState := id) : State :=
  up 5 objs fun c => c.withFc (f { c.fc with running := true })

def wired : Marks := { Marks.none with wire := true }

def forced : Marks := { Marks.none with injected := true }

theorem witness_FaultEvents_1 :
    (let s := fcs []
     let a := s.core.actionOf 0x213 Marks.none
     s.core.reports 0x213 = true ∧ (sourceInfo? 0x213).isSome ∧ s.core.fc.running = true ∧ s.core.injected 0x213 = false ∧
      s.core.pairOf 0x213 = 0 ∧ 0x213 ≠ Src.mpUeElastic ∧ 0x213 ≠ Src.msCacheUe ∧ 0x213 ≠ Src.mpCe ∧
      s.core.quiet 0x213 a = false ∧ 1 ≤ a ∧
      (aft (.faultEvent 0x213 (ctxNone 3 1)) s).get Obj.Fc.LOG_HEAD = 1 ∧
      (aft (.faultEvent 0x213 (ctxNone 3 1)) s).get (Obj.Source.COUNT 0x213) = 1 ∧
      (aft (.faultEvent 0x213 (ctxNone 3 1)) s).bitOf (Obj.Source.STATUS 0x213) 4 = true) := by decide +kernel

theorem witness_FaultEvents_2 :
    (let s := fcs [] fun f => { f with windows := [{ id := 4, reaction := 4, scope := [0x213], opener := 0, suppressed := 0, masked := [] }] }
     s.core.quiet 0x213 (s.core.actionOf 0x213 Marks.none) = true ∧
      (aft (.faultEvent 0x213 (ctxNone 3 1)) s).get (Obj.Source.SUPPRESSED 0x213) = 1 ∧
      (aft (.faultEvent 0x213 (ctxNone 3 1)) s).fc.seq = 0) := by decide +kernel

theorem witness_FaultEvents_2b :
    (let s := fcs [] fun f => { f with pairs := [(0x213, 1)] }
     s.core.reports 0x213 = true ∧ s.core.fc.running = true ∧ s.core.injected 0x213 = false ∧ s.core.pairOf 0x213 ≠ 0) ∧
    (let s := fcs [] fun f => { f with running := false }
     s.core.reports 0x213 = true ∧ s.core.fc.running = false ∧ s.core.injected 0x213 = false ∧
      (aft (.faultEvent 0x213 (ctxNone 3 1)) s).fc.held = [(0x213, ctxNone 3 1)]) ∧
    (let s := fcs [] fun f => { f with injecting := [(0x213, 0)] }
     s.core.injected 0x213 = true ∧ s.core.fc.injecting.num 0x213 = 0 ∧ s.core.fc.latched = [] ∧
      (aft (.faultEvent 0x213 (ctxNone 3 1)) s).fc.latched = [(0x213, ctxNone 3 1)] ∧
      (aft (.faultEvent 0x213 (ctxNone 3 1)) s).fc.injecting.num 0x213 = 1) := by decide +kernel

theorem witness_FaultEvents_3 :
    (let s := fcs []
     s.core.pairOf 0x213 ≠ 2 ∧ s.core.quiet 0x213 (s.core.actionOf 0x213 wired) = false ∧
      (aft (.wireFault 0x213) s).bitOf (Obj.Source.STATUS 0x213) 3 = true ∧ (aft (.wireFault 0x213) s).pairOf 0x213 = 2) := by
  decide +kernel

theorem witness_FaultEvents_4 :
    (let s := fcs [(Obj.Source.STATUS 0x213, 0x11)] fun f => { f with pairs := [(0x213, 1)] }
     s.core.injected 0x213 = false ∧ s.core.pairOf 0x213 ≠ 0 ∧
      (aft (.sourceIdle 0x213) s).get (Obj.Source.STATUS 0x213) = 1) := by decide +kernel

theorem witness_CollectorChecks_1 :
    (let s := fcs [(Obj.Fc.INJ_ENABLE, 1)]
     Admits s .secureWorld (Obj.Source.FORCE 0x213) 1 ∧ s.core.isSet Obj.Fc.INJ_ENABLE = true ∧ s.core.injected 0x213 = false ∧
      s.core.pairOf 0x213 = 0 ∧ s.core.quiet 0x213 (s.core.actionOf 0x213 forced) = false ∧
      (aft (.faultInject 0x213 .secureWorld) s).injected 0x213 = true ∧
      (aft (.faultInject 0x213 .secureWorld) s).get Obj.Fc.INJECTIONS = 1) := by decide +kernel

theorem witness_CollectorChecks_2 :
    (let s := fcs []
     Admits s .secureWorld (Obj.Source.FORCE 0x213) 1 ∧ s.core.isSet Obj.Fc.INJ_ENABLE = false ∧
      (aft (.faultInject 0x213 .secureWorld) s).out = [.status .retry]) := by decide +kernel

theorem witness_CollectorChecks_3 :
    (let s := fcs [(Obj.Source.STATUS 0x213, 0x13)] fun f => { f with pairs := [(0x213, 1)], injecting := [(0x213, 0)] }
     s.core.seqUp = true ∧ s.core.injected 0x213 = true ∧ (s.core.fc.latched.filter fun e => e.1 == 0x213) = [] ∧
      (aft (.injectionEnd 0x213) s).get (Obj.Source.STATUS 0x213) = 3) := by decide +kernel

theorem witness_CollectorChecks_3b :
    (let s := fcs [] fun f => { f with pairs := [(0x213, 1)], injecting := [(0x213, 1)], latched := [(0x213, ctxNone 3 1)] }
     s.core.seqUp = true ∧ s.core.injected 0x213 = true ∧
      (s.core.fc.latched.filter fun e => e.1 == 0x213) = [(0x213, ctxNone 3 1)] ∧
      s.core.quiet 0x213 (s.core.actionOf 0x213 Marks.none) = false ∧
      (s.clear.core.injectionEnd 0x213).bitOf (Obj.Source.STATUS 0x213) 2 = true) := by decide +kernel

theorem witness_CollectorChecks_4 :
    (let q : QuietWindow := { id := 4, reaction := 4, scope := [0x213], opener := 6, suppressed := 9, masked := [] }
     let s := fcs [(logKey 6, 6 <<< 224)] fun f => { f with windows := [q] }
     (s.core.fc.windows.find? fun w => w.id == 4) = some q ∧ field 255 224 (s.core.get (logKey q.opener)) = q.opener % 2 ^ 32 ∧
      (aft (.quietWindowClose 4) s).get (logKey 6) = 6 <<< 224 + 9 <<< 128) := by decide +kernel

theorem witness_CollectorChecks_4b :
    (let q : QuietWindow :=
       { id := 4, reaction := 4, scope := [0x213], opener := 6, suppressed := 9, masked := [(0x213, ctxNone 3 1)] }
     let s := fcs [(logKey 6, 6 <<< 224)] fun f => { f with windows := [q], seq := 8 }
     let u := fcs [] fun f => { f with windows := [q], pairs := [(0x213, 1)], seq := 8 }
     (s.core.fc.windows.find? fun w => w.id == 4) = some q ∧ s.core.pairOf 0x213 = 0 ∧ u.core.pairOf 0x213 ≠ 0 ∧
      (u.clear.core.closeWindow 4).get (Obj.Source.COUNT 0x213) = 1 ∧ 1 ≤ u.core.actionOf 0x213 Marks.none ∧
      ((u.clear.core.closeWindow 4).get (logKey 9)).testBit 203 = true) := by decide +kernel

theorem witness_CollectorChecks_5 :
    (let s := fcs [(Obj.Fc.MODE, 1)]
     s.core.seqUp = true ∧ s.core.fc.running = true ∧ s.core.Hears Src.fcPin ∧ s.core.Hears Src.fcReg ∧
      s.core.Hears Src.fcSelftest ∧ (s.clear.core.configBad 7).programmed = false ∧
      (aft (.receiverSelftest 0x213 true) s).fc.tested = 0x213) := by decide +kernel

theorem witness_StatusFlags_1 :
    (let s := fcs [(Obj.Port.FLAGS 1, 0x30)]
     Admits s .openWorld (Obj.Port.FLAGS 1) 0x10 ∧ clearableOf 0x2011 (Obj.Port.FLAGS 1 % 256) ≠ none ∧
      Obj.Port.FLAGS 1 / 256 = 0x2011 ∧ isSourceStatus (Obj.Port.FLAGS 1) = false ∧
      duringClear 0x2011 = some Obj.Hr.SET_DURING_CLEAR ∧
      (aft (.statusFlagClear .openWorld 0x2011 (BitVec.ofNat 8 (Obj.Port.FLAGS 1)) 0x10 0) s).get (Obj.Port.FLAGS 1) = 0x20 ∧
      (aft (.statusFlagClear .openWorld 0x2011 (BitVec.ofNat 8 (Obj.Port.FLAGS 1)) 0x10 0x10) s).get Obj.Hr.SET_DURING_CLEAR = 1) := by
  decide +kernel

/-- A write of a reserved flag is refused, and what the hub sets in the same cycle stays set. -/
def badFlags : State := fcs [(Obj.Port.FLAGS 1, 0x30)]

theorem witness_StatusFlags_1b :
    badFlags.core.loaServed = true ∧ (0x80000000 : BitVec 32).toNat < 2 ^ widthOf (Obj.Port.FLAGS 1) ∧
      badFlags.core.writeRefusal .openWorld (Obj.Port.FLAGS 1 / 256) (Obj.Port.FLAGS 1 % 256)
        (toBytes (Sys2Proof.Machine.sizeOf (Obj.Port.FLAGS 1)) 0x80000000) = some .malformed ∧
      (aft (.statusFlagClear .openWorld 0x2011 (BitVec.ofNat 8 (Obj.Port.FLAGS 1)) 0x80000000 0x40) badFlags).get
        (Obj.Port.FLAGS 1) = 0x70 := by decide +kernel

theorem witness_StatusFlags_2 :
    (let s := fcs [(Obj.Source.STATUS 0x213, 0x21), (Obj.Source.STATUS 0x214, 0x31), (Obj.Fc.FIRST_ERROR, 7)]
     Admits s .openWorld (Obj.Source.STATUS 0x213) 1 ∧ Admits s .openWorld Obj.Fc.FE_REARM 1 ∧ Admits s .secureWorld Obj.Fc.CLEAR_ALL 1 ∧
      (aft (.statusFlagClear .openWorld 0x4B13 2 1 0) s).get (Obj.Source.STATUS 0x213) = 0 ∧
      (aft (.statusFlagClear .openWorld 0x4B14 2 1 0) s).get (Obj.Source.STATUS 0x214) = 0x31 ∧
      (aft (.statusFlagClear .openWorld 0x4B14 2 1 1) s).get Obj.Fc.SET_DURING_CLEAR = 1 ∧
      (aft (.statusFlagClear .openWorld 0x4B13 2 1 1) s).get (Obj.Source.STATUS 0x213) = 0x21 ∧
      (aft (.clearAll .secureWorld) s).get (Obj.Source.STATUS 0x213) = 0 ∧
      (aft (.clearAll .secureWorld) s).get (Obj.Source.STATUS 0x214) = 0x31 ∧
      (aft (.feRearm .openWorld) s).get Obj.Fc.FIRST_ERROR = 0) := by decide +kernel

theorem witness_KeySlots_1 :
    (let s := fcs [(Obj.KeySlot.STATE 3, 1), (Obj.Job.STATE 4, 1), (Obj.Job.PROTECT 4, 1), (Obj.Job.KEY_SLOT 4, 3)]
     Admits s .secureWorld (Obj.KeySlot.KEY 5) 77 ∧ s.core.keyJobs 5 = 0 ∧ Admits s .secureWorld (Obj.KeySlot.KEY 3) 77 ∧
      s.core.keyJobs 3 ≠ 0 ∧ s.core.loaServed = true ∧ s.core.allRecovery = false ∧
      (aft (.keyImport 5 .secureWorld 0) s).out = [.status .malformed] ∧
      (aft (.keyImport 3 .secureWorld 77) s).out = [.status .retry] ∧
      Admits s .secureWorld (Obj.KeySlot.ERASE 3) 1 ∧ (∀ j < 32, (s.core.jobOf j).cancelling = false) ∧
      (s.core.keyJobs 3).testBit 4 = true ∧ s.core.Hears Src.secKey ∧
      (s.clear.core.keyErase 3).2.get (Obj.Job.HALT_CAUSE 4) = 4) := by decide +kernel

/-- In SERVICE, with fuses. -/
def service (f : Fuses) : State := { st [(Obj.Seq.SEQ_STATE, 2), (Obj.Dev.DEVICE_STATE, Dv.service)] with fuses := f }

def fuses0 : Fuses :=
  { boot := cells 0, hashes := [(0, (.good 9, .blank))], revoke := cells 0, floor := cells 3, lock := cells 0 }

theorem witness_FuseOps_1 :
    (let s := service fuses0
     Admits s .secureWorld Obj.Fuse.FUSE_PROGRAM (1 * 2 ^ 392 + 2 * 2 ^ 384 + 5) ∧ s.core.dev = Dv.service ∧
      s.fuses.hash? 2 = none ∧ s.fuses.copies 2 = (.blank, .blank) ∧
      (after (.fuseOwnerKey .secureWorld 2 5) s).fuses.hash? 2 = some 5 ∧
      Admits s .secureWorld Obj.Fuse.FUSE_PROGRAM (2 * 2 ^ 392 + 2 * 2 ^ 384 + 0) ∧ s.core.bootHeads = [] ∧
      s.fuses.secureBoot = false ∧ (after (.fuseRevoke .secureWorld 2) s).fuses.revoked = 4) := by decide +kernel

theorem witness_FuseOps_2 :
    (let s := service fuses0
     Admits s .secureWorld Obj.Fuse.FUSE_PROGRAM (3 * 2 ^ 392 + 9 * 2 ^ 384 + 0) ∧ s.fuses.svnFloor = 2 ∧
      s.fuses.floor.val = 2 ^ s.fuses.svnFloor - 1 ∧
      (after (.fuseSvnFloor .secureWorld 9) s).fuses.svnFloor = 9 ∧
      Admits s .secureWorld Obj.Fuse.FUSE_PROGRAM (4 * 2 ^ 392 + 0 * 2 ^ 384 + 0) ∧ s.fuses.keyGood 0 = true ∧
      (after (.fuseSecureBoot .secureWorld) s).fuses.secureBoot = true ∧
      Admits s .secureWorld Obj.Fuse.FUSE_PROGRAM (5 * 2 ^ 392 + 0 * 2 ^ 384 + 0) ∧
      (after (.fuseJtagPermLock .secureWorld) s).fuses.jtagLock = true ∧
      Admits (fcs []) .secureWorld Obj.Fuse.FUSE_PROGRAM (5 * 2 ^ 392 + 0 * 2 ^ 384 + 0) ∧ (fcs []).core.dev ≠ Dv.service) := by
  decide +kernel

theorem witness_FuseOps_3 :
    (let s := service { fuses0 with boot := cells 1 }
     Admits s .secureWorld Obj.Fuse.FUSE_PROGRAM (1 * 2 ^ 392 + 0 * 2 ^ 384 + 5) ∧ s.fuses.hash? 0 ≠ none ∧
      Admits s .secureWorld Obj.Fuse.FUSE_PROGRAM (2 * 2 ^ 392 + 0 * 2 ^ 384 + 0) ∧ s.fuses.secureBoot = true ∧
      (∀ i < 4, i ≠ 0 → s.fuses.keyGood i = false) ∧
      Admits s .secureWorld Obj.Fuse.FUSE_PROGRAM (3 * 2 ^ 392 + 2 * 2 ^ 384 + 0) ∧
      (aft (.fuseOwnerKey .secureWorld 0 5) s).out = [.status .malformed] ∧
      (aft (.fuseRevoke .secureWorld 0) s).out = [.status .malformed] ∧
      (aft (.fuseSvnFloor .secureWorld 2) s).out = [.status .malformed] ∧
      (∀ i < 4, (service { fuses0 with hashes := [] }).fuses.keyGood i = false) ∧
      (aft (.fuseSecureBoot .secureWorld) (service { fuses0 with hashes := [] })).out = [.status .malformed]) := by
  decide +kernel

theorem witness_FuseOps_4 :
    (let s := fcs []
     Admits s .secureWorld Obj.Fuse.FUSE_PROGRAM (1 * 2 ^ 392 + 2 * 2 ^ 384 + 5) ∧
      Admits s .secureWorld Obj.Fuse.FUSE_PROGRAM (2 * 2 ^ 392 + 2 * 2 ^ 384 + 0) ∧
      Admits s .secureWorld Obj.Fuse.FUSE_PROGRAM (3 * 2 ^ 392 + 2 * 2 ^ 384 + 0) ∧
      Admits s .secureWorld Obj.Fuse.FUSE_PROGRAM (4 * 2 ^ 392 + 0 * 2 ^ 384 + 0) ∧
      (aft (.fuseOwnerKey .secureWorld 2 5) s).out = [.status .retry]) := by decide +kernel

/-- An image without payload. -/
def image : List Byte := toBytes 512 (0x5A46 <<< 4080 + 1 <<< 4072 + 7 <<< 4016 + sha384 [] <<< 2808)

/-- A start from OFF in SELFTEST, its flash as given. -/
def booting (objs : List (Nat × Nat)) (imgs : Tbl (List Byte)) : State :=
  st ([(Obj.Seq.SEQ_STATE, 2), (Obj.Dev.DEVICE_STATE, Dv.selftest)] ++ objs) fun c =>
    { c with start := some { origin := 0, begun := 0, exits := 0, restores := 0, trains := 0, cold := false }, images := imgs }

theorem witness_Images_1 :
    (let s := booting [] [(0, image)]
     s.core.seqUp = true ∧ s.core.start.isSome ∧ s.core.dev = Dv.selftest ∧ (s.core.halfSt 1).running = false ∧
      s.core.halfState 1 = 0 ∧ s.core.bootSlot 1 = 0 ∧ s.core.imageOk s.fuses 0 = true ∧
      (aft (.supervisorBoot 1) s).halfState 1 = 0 ∧ ((aft (.supervisorBoot 1) s).halfSt 1).svn = 7) := by decide +kernel

theorem witness_Images_2 :
    (let s := booting [] []
     s.core.imageOk s.fuses (s.core.bootSlot 1) = false ∧ s.core.imageOk s.fuses (1 - s.core.bootSlot 1) = false ∧
      (aft (.supervisorBoot 1) s).halfState 1 = 3) := by decide +kernel

theorem witness_Images_2b :
    (let s := booting [] [(1, image)]
     s.core.imageOk s.fuses (s.core.bootSlot 1) = false ∧ s.core.imageOk s.fuses (1 - s.core.bootSlot 1) = true ∧
      (aft (.supervisorBoot 1) s).runSlot 1 = 1 ∧ (aft (.supervisorBoot 1) s).bitOf Obj.Sec.FLAGS 4 = true) ∧
    (let s := up 5 [(Obj.Image.HALF_STATE, 1)] fun c =>
       { c with images := [(1, image)], halves := [(1, { HalfState.init with target := 1 })] }
     s.core.halfState 1 = 1 ∧ s.core.get Obj.Baton.BATON ≠ 1 ∧ (s.core.halfSt 1).target = 1 ∧
      s.core.imageOk s.fuses 1 = true ∧ (aft (.supervisorBoot 1) s).halfState 1 = 2) := by decide +kernel

theorem witness_Images_2c :
    (let s := up 5 [(Obj.Image.HALF_STATE, 3)] fun c => { c with imageOpen := some 0, images := [(0, image)] }
     Admits s .secureWorld Obj.Image.IMG_CLOSE 1 ∧ s.core.imageOk s.fuses 0 = true ∧ s.core.halfState 1 = 3 ∧
      (aft (.imgClose .secureWorld) s).halfState 1 = 0) := by decide +kernel

theorem witness_Images_3 :
    (let s := fcs []
     Admits s .secureWorld Obj.Image.IMG_OPEN 1 ∧ s.core.flash.fit = true ∧ s.core.imageOpen = none ∧
      (∀ h < 2, s.core.runSlot h ≠ 1 ∧ s.core.bootSlot h ≠ 1) ∧ (aft (.imgOpen .secureWorld 1) s).imageOpen = some 1) := by
  decide +kernel

theorem witness_Images_4 :
    (let s := up 5 [] fun c => { c with imageOpen := some 1, images := [(1, [1])] }
     s.core.loaServed = true ∧ s.core.writeRefusal .secureWorld (Obj.Image.IMG_DATA / 256) (Obj.Image.IMG_DATA % 256) [2, 3] = none ∧
      s.core.imageOf 1 = [1] ∧ (aft (.imgData .secureWorld [2, 3]) s).imageOf 1 = [1, 2, 3] ∧
      Admits s .secureWorld Obj.Image.IMG_CLOSE 1 ∧ (aft (.imgClose .secureWorld) s).imgState 1 = 3) := by decide +kernel

theorem witness_Images_5 :
    (let s := up 5 [(Obj.Image.IMG_STATE, 2)] fun c => { c with images := [(1, image)] }
     let v : BitVec 8 := 0x11
     Admits s .secureWorld Obj.Image.ACTIVATE v.toNat ∧ v.toNat &&& 0xEE = 0 ∧ s.core.halfState 0 = 0 ∧ s.core.inService = true ∧
      s.core.imgState 1 = 2 ∧ imgMinPeer (s.core.imageHead 1) ≤ (s.core.halfSt 0).ilevel ∧
      (s.core.halfSt 0).minPeer ≤ imgIlevel (s.core.imageHead 1) ∧
      (aft (.activate .secureWorld v) s).halfState 1 = 1) := by decide +kernel

theorem witness_Images_6 :
    (let s := up 5 [(Obj.Image.HALF_STATE, 2), (Obj.Image.RUN_SLOT, 1)] fun c =>
       { c with images := [(0, image)], halves := [(1, { HalfState.init with before := 0 })] }
     Admits s .secureWorld Obj.Image.CONFIRM 1 ∧ s.core.halfState 1 = 2 ∧
      (aft (.confirm .secureWorld 1) s).bootSlot 1 = 1 ∧ s.core.imageOk s.fuses (s.core.halfSt 1).before = true ∧
      (aft (.trialExpiry 1) s).halfState 1 = 0 ∧ (aft (.trialExpiry 1) s).runSlot 1 = 0) := by decide +kernel

theorem witness_Jtag_1 :
    (let s := fcs [(Obj.Sec.JTAG_MODE, 2)]
     s.core.seqUp = true ∧ s.core.jtagAdmits s.fuses .samplePreload = true ∧ s.core.jtagAdmits s.fuses .extest = false ∧
      (aft (.jtagInstruction .samplePreload) s).tap.instr = .samplePreload ∧
      (aft (.jtagInstruction .extest) s).bitOf Obj.Sec.FLAGS 2 = true ∧ (aft .jtagTestLogicReset s).tap.mode = 2) := by
  decide +kernel

/-- A Sail message of a peer (R384). -/
def sailMsg (mtype lseq : Nat) (body : List Byte) (stamp : Nat := 0) : SailArrival :=
  { bytes := toBytes 8 (mtype <<< 60 + 1 <<< 56 + lseq <<< 40 + body.length <<< 16) ++ body
    crc := BitVec.ofNat 32 (crc32c (toBytes 8 (mtype <<< 60 + 1 <<< 56 + lseq <<< 40 + body.length <<< 16) ++ body))
    stamp := BitVec.ofNat 96 stamp
    fromSp0 := false }

/-- Hub 9, with its Sail ports in the states given. -/
def sl (a b c d : Nat) (objs : List (Nat × Nat) := []) (f : Core → Core := id) : State :=
  up 5 ([(Obj.SailPort.STATE 0, a), (Obj.SailPort.STATE 1, b), (Obj.SailPort.STATE 2, c), (Obj.SailPort.STATE 3, d)] ++ objs)
    fun k => { f k with objs := (Obj.Id.HUB_ID, 9) :: k.objs }

theorem witness_SailLinks_1 :
    (let s := sl 1 3 0 0 [(Obj.SailPort.ENABLE 1, 1)] (hearing id)
     s.core.spState 0 = 1 ∧ s.core.sailFree 0 ∧ s.core.spState 1 = 3 ∧ (∀ j < 4, s.core.spState j ≠ 4) ∧
      s.core.get (Obj.SailPort.ENABLE 1) ≤ 1 ∧ (aft (.sailBlockLock 0) s).spState 0 = 2 ∧
      s.core.Hears (Src.slLink 1) ∧ (s.clear.core.sailLinkDown 1).spState 1 = 1) := by decide +kernel

theorem witness_SailLinks_2 :
    (let m : SailMsg := { lseq := 4, mtype := 2, hops := 0, body := [] }
     let s := sl 3 0 0 0 [] fun c => c.updSail 0 fun x => { x with unack := [m, { m with lseq := 5 }], txSeq := 6 }
     ((sailParse (sailMsg 3 4 [])).map fun m => m.mtype) = some 3 ∧ (s.core.sailOf 0).queue = [] ∧
      ((aft (.sailSeq 0 (sailMsg 3 4 [])) s).sailOf 0).unack.length = 1 ∧
      (aft (.sailRetx 0) s).get (Obj.SailPort.RETX 0) = 2 ∧ (aft (.sailSeqKeepalive 0) s).out.length = 1 ∧
      s.core.spState 1 < 2) := by decide +kernel

theorem witness_SailLinks_3 :
    (let s := sl 3 0 0 0
     let bad : SailArrival := { sailMsg 3 4 [] with crc := 0 }
     sailParse bad = none ∧ (aft (.sailTrigger 0 bad) s).get (Obj.SailPort.CRC_ERRORS 0) = 1 ∧
      ((sailParse (sailMsg 2 7 (toBytes 24 0))).map fun m => (m.mtype, m.lseq)) = some (2, 7) ∧
      (s.core.sailOf 0).rxNext = 0 ∧ (aft (.sailEpoch 0 (sailMsg 2 7 (toBytes 24 0))) s).out.length = 1) := by decide +kernel

theorem witness_SailEpochs_1 :
    (let a := sailMsg 1 0 (toBytes 32 (5 <<< 248 + 7 <<< 208 + 9 <<< 176))
     let s := sl 3 3 0 0
     SailComes s 0 a { mtype := 1, lseq := 0, hops := 0, body := a.bytes.drop 8 } ∧
      field 207 176 (5 <<< 248 + 7 <<< 208 + 9 <<< 176) = s.core.get Obj.Id.HUB_ID ∧ s.core.sailFree 1 ∧
      ((aft (.sailTrigger 0 a) s).sailOf 1).unack.length = 1) := by decide +kernel

theorem witness_SailEpochs_2 :
    (let a := sailMsg 1 0 (toBytes 32 (5 <<< 248 + 7 <<< 208 + 8 <<< 176))
     let s := sl 3 0 0 0 [(Obj.Window.SOURCES 5, 2)]
     SailComes s 0 a { mtype := 1, lseq := 0, hops := 0, body := a.bytes.drop 8 } ∧
      (s.core.get (Obj.Window.SOURCES 5)).testBit 1 = true ∧ s.core.get (Obj.Window.STATE 5) = 0 ∧
      (aft (.sailTrigger 0 a) s).get (Obj.Window.LAST_REFUSAL 5) = 2) := by decide +kernel

theorem witness_SailEpochs_3 :
    (let n := 3 <<< 160 + 500000 <<< 96 + 8 <<< 64
     let a := sailMsg 2 0 (toBytes 24 n)
     let s := sl 3 3 0 0
     SailComes s 0 a { mtype := 2, lseq := 0, hops := 0, body := a.bytes.drop 8 } ∧
      field 159 96 n = 500000 ∧ s.core.latestEpoch = none ∧ s.core.hubTime ≤ 500000 * 2 ^ 32 ∧
      (aft (.sailEpoch 0 a) s).sail.epochs.length = 1 ∧ SailComes s 1 a { mtype := 2, lseq := 0, hops := 0, body := a.bytes.drop 8 } ∧
      (aft (.sailEpoch 1 a) s).get Obj.Sail.EPOCH_REFUSED = 1) := by decide +kernel

theorem witness_SailEpochs_4 :
    (let n := 3 <<< 160 + 500000 <<< 96 + 8 <<< 64
     let a := sailMsg 2 0 (toBytes 24 n)
     let s := sl 3 3 0 0 [] fun c => c.withSail { c.sail with latched := some 450000 }
     s.core.latestEpoch = some 450000 ∧ (aft (.sailEpoch 0 a) s).get Obj.Sail.EPOCH_REFUSED = 1) := by decide +kernel

theorem witness_SailEpochs_8 :
    (let n := 3 <<< 160 + 5 <<< 96 + 8 <<< 64
     let a := sailMsg 2 0 (toBytes 24 n)
     let e : Epoch := { te := 0, num := 7, late := false, stepped := false }
     let s := sl 3 3 0 0 [] (hearing fun c => { c with hubTime := 9 * 2 ^ 32 })
     let t := sl 3 3 0 0 [] fun c => c.withSail { c.sail with epochs := [e, e, e, e] }
     SailComes s 0 a { mtype := 2, lseq := 0, hops := 0, body := a.bytes.drop 8 } ∧ s.core.sail.epochs.length < 4 ∧
      field 159 96 n * 2 ^ 32 < s.core.hubTime ∧ s.core.latestEpoch = none ∧ s.core.Hears Src.slEpochLate ∧
      (s.clear.core.sailRx 0 a).sail.epochs = [{ te := 5, num := 3, late := true, stepped := false }] ∧
      4 ≤ t.core.sail.epochs.length ∧ (aft (.sailEpoch 0 a) t).get Obj.Sail.EPOCH_REFUSED = 1) := by decide +kernel

theorem witness_SailEpochs_5 :
    (let s := sl 0 3 0 0 [(Obj.Sail.ROLE, 2), (Obj.Sail.EPOCH_PERIOD_MS, 50)]
     let t := sl 3 0 0 0 [(Obj.Sail.ROLE, 1)]
     Admits s .secureWorld Obj.Sail.EPOCH_NOW 1 ∧ isHelm (s.core.get Obj.Sail.ROLE) = true ∧ s.core.latestEpoch = none ∧
      s.core.get Obj.Sail.EPOCH_PERIOD_MS ≠ 0 ∧
      s.core.hubTime ≤ (s.core.timeNs + s.core.get Obj.Sail.EPOCH_LEAD_US * 1000) % 2 ^ 64 * 2 ^ 32 ∧
      (aft (.epochNow .secureWorld) s).sail.epochs.length = 1 ∧ (aft .epochPeriod s).sail.epochNum = 1 ∧
      Admits t .secureWorld Obj.Sail.EPOCH_NOW 1 ∧ isHelm (t.core.get Obj.Sail.ROLE) = false ∧
      (∀ e ∈ t.core.sail.epochs, t.core.hubTime < e.te * 2 ^ 32)) := by decide +kernel

theorem witness_SailEpochs_6 :
    (let e : Epoch := { te := 0, num := 7, late := false, stepped := false }
     let s := sl 3 0 0 0 [] fun c => c.withSail { c.sail with epochs := [e] }
     let t := sl 3 0 0 0 [] fun c => c.withSail { c.sail with snap := some [(Obj.Snap.EPOCH_NUM, 7)] }
     s.core.seqUp = true ∧ s.core.sail.epochs = [e] ∧ e.te * 2 ^ 32 ≤ s.core.hubTime ∧ s.core.sail.snap = none ∧
      t.core.sail.snap = some [(Obj.Snap.EPOCH_NUM, 7)] ∧
      (aft .snapshotPublish t).get Obj.Snap.EPOCH_NUM = 7 ∧ (aft .snapshotPublish t).get Obj.Snap.READY = 1) := by decide +kernel

theorem witness_SailEpochs_7 :
    (let a := sailMsg 1 0 (toBytes 32 (6 <<< 248 + 99 <<< 208 + 8 <<< 176 + (7 * 2 ^ 32) <<< 80))
     let s := cap 2 (win 1 ++ [(Obj.Stream.NEXT_INDEX 2, 100), (Obj.Window.SOURCES 6, 2), (Obj.SailPort.STATE 0, 3)]) fun c =>
       { (c.updRing 3 fun g => { g with map := [(0, mkSeg 1 0 0)] }).updStream 2 fun q =>
         { q with bases := [{ s := 0, t := 0, num := 10 ^ 9, den := 1 }], rate := (10 ^ 9) <<< 40 + 1 } with
         objs := (Obj.Id.HUB_ID, 9) :: c.objs }
     let m : SailIn := { mtype := 1, lseq := 0, hops := 0, body := a.bytes.drop 8 }
     let c0 := (s.sailTaken 0).sailFlood 0 { lseq := 0, mtype := 1, hops := 1, body := m.body }
     let t : Trigger := { src := 1, stream := 0, tidx := 0, tt := 7 * 2 ^ 32, id := 99, detector := 0, level := 0, delays := none, port := 0 }
     SailComes s 0 a m ∧ field 175 80 m.num = 7 * 2 ^ 32 ∧ field 253 248 m.num = 6 ∧ field 239 208 m.num = 99 ∧ m.delays = none ∧
      s.core.get (Obj.Window.STATE 6) = 1 ∧ (c0.decideTrigger 6 t).1 = .ok) := by decide +kernel

/-- A HELLO of hub 4 at depth 1. -/
def hello (root : Nat) (fromSp0 : Bool) : SailArrival :=
  { sailMsg 5 0 (toBytes 32 (4 <<< 216 + root <<< 215 + 1 <<< 211)) with fromSp0 := fromSp0 }

def comes (a : SailArrival) : SailIn := { mtype := 5, lseq := 0, hops := 0, body := a.bytes.drop 8 }

theorem witness_SailHealth_1 :
    (let a := hello 0 false
     let b := hello 0 true
     let s := sl 2 2 0 4
     SailComes s 0 a (comes a) ∧ field 255 248 (comes a).num = 0 ∧ a.fromSp0 = false ∧
      (aft (.healthHello 0 a) s).spState 0 = 3 ∧ (aft (.healthHello 0 a) s).get Obj.Sail.DEPTH = 2 ∧
      SailComes s 1 b (comes b) ∧ b.fromSp0 = true ∧ bit 215 (comes b).num = false ∧ s.core.get Obj.Sail.DEPTH + 1 ≤ 8 ∧
      (aft (.healthHello 1 b) s).spState 1 = 3 ∧ (aft (.healthHello 1 a) s).get (Obj.SailPort.REFUSE_CAUSE 1) = 2) := by
  decide +kernel

theorem witness_SailHealth_5 :
    (let b := hello 1 true
     let s := sl 3 2 3 0 [(Obj.Sail.DEPTH, 1)] (hearing id)
     let t := sl 3 2 3 0 [(Obj.Sail.DEPTH, 8)]
     SailComes s 1 b (comes b) ∧ bit 215 (comes b).num = true ∧ s.core.Hears Src.slDualHelm ∧
      s.core.get Obj.Sail.DEPTH = (if s.core.roleNow = 1 then (s.core.sailOf 0).farDepth + 1 else 0) ∧ s.core.sailFree 1 ∧
      s.core.sailFree 2 ∧ (s.clear.core.sailRx 1 b).get (Obj.SailPort.REFUSE_CAUSE 1) = 1 ∧
      (aft (.healthHello 1 (hello 0 true)) t).get (Obj.SailPort.REFUSE_CAUSE 1) = 3) := by decide +kernel

theorem witness_SailHealth_6 :
    (let a := hello 0 true
     let s := sl 3 4 0 0 [(Obj.SailPort.FAR_ID 1, 4)] fun c => c.updSail 1 fun x => { x with hello := true, farRoot := false, farDepth := 1 }
     let t := sl 3 4 0 0 [(Obj.SailPort.FAR_ID 1, 4)] fun c => c.updSail 1 fun x => { x with hello := true, farRoot := true, farDepth := 1 }
     SailComes s 1 a (comes a) ∧ 3 ≤ s.core.spState 1 ∧ (s.core.sailOf 1).hello = true ∧
      s.core.get (Obj.SailPort.FAR_ID 1) = field 247 216 (comes a).num ∧ (s.core.sailOf 1).farRoot = bit 215 (comes a).num ∧
      (s.core.sailOf 1).farDepth = field 214 211 (comes a).num ∧ (aft (.healthHello 1 a) s).spState 1 = 4 ∧
      t.core.spState 1 = 4 ∧ (t.core.sailOf 1).farRoot ≠ bit 215 (comes a).num ∧ (aft (.healthHello 1 a) t).spState 1 = 3) := by
  decide +kernel

theorem witness_SailHealth_2 :
    (let n := 1 <<< 248 + 4 <<< 216 + 3 <<< 184
     let a := sailMsg 5 0 (toBytes 32 n)
     let s := sl 3 3 0 0
     SailComes s 1 a { mtype := 5, lseq := 0, hops := 0, body := a.bytes.drop 8 } ∧ field 247 216 n ≠ s.core.get Obj.Id.HUB_ID ∧
      s.core.get (Obj.SailPort.FAR_ID 1) ≠ field 247 216 n ∧ ((aft (.healthStatus 1 a) s).sail.hubs.num 4) = n) := by decide +kernel

theorem witness_SailHealth_3 :
    (let n := 2 <<< 248 + 4 <<< 216 + 9 <<< 32
     let a := sailMsg 5 0 (toBytes 32 n)
     let s := sl 3 3 0 0 [] (hearing id)
     SailComes s 1 a (comes a) ∧ SailComes s 0 a (comes a) ∧ field 63 32 n = s.core.get Obj.Id.HUB_ID ∧
      s.core.Hears Src.slDualHelm ∧ (s.clear.core.sailRx 1 a).bitOf Obj.Sail.FLAGS 1 = true ∧
      (s.clear.core.sailRx 0 a).get (Obj.SailPort.REFUSE_CAUSE 0) = 1) := by decide +kernel

theorem witness_SailHealth_4 :
    (let n := 3 <<< 248 + 4 <<< 216 + 9 <<< 32 + 3
     let a := sailMsg 5 0 (toBytes 32 n)
     let o := sailMsg 5 0 (toBytes 32 (3 <<< 248 + 4 <<< 216 + 6 <<< 32 + 3))
     let h := sailMsg 5 0 (toBytes 32 (2 <<< 248 + 4 <<< 216 + 6 <<< 32))
     let s := sl 3 3 0 0
     SailComes s 0 a (comes a) ∧ SailComes s 0 h (comes h) ∧ field 63 32 n = s.core.get Obj.Id.HUB_ID ∧
      ((aft (.healthDualHelm 0 h) s).sailOf 1).unack.length = 1 ∧ field 7 0 n = 3 ∧ s.core.spState 0 ≠ 4 ∧ (aft (.healthRefused 0 a) s).spState 0 = 4 ∧
      ((aft (.healthRefused 0 o) s).sailOf 1).unack.length = 1 ∧
      ((aft .healthPeriod s).sailOf 1).unack.length = 1) := by decide +kernel

theorem witness_TimeDiscipline_1 :
    (let a := sailMsg 4 0 (toBytes 32 (1 <<< 247 + 1000 <<< 96)) 5000
     let s := sl 3 3 0 0 [(Obj.Time.TIME_SOURCE, 2)]
     s.core.timeMode = 2 ∧ ((sailParse a).map fun m => (m.mtype, field 255 248 m.num)) = some (4, 0) ∧
      (aft (.timeSync 0 a) s).time.exchange.isSome ∧ (aft .timeSyncSend s).out.length = 1) := by decide +kernel

theorem witness_TimeDiscipline_2 :
    (let a := sailMsg 4 0 (toBytes 32 (1 <<< 248 + 3 <<< 224)) 5000
     let s := sl 3 3 0 0
     ((sailParse a).map fun m => (m.mtype, field 255 248 m.num)) = some (4, 1) ∧ (aft (.timeDreq 1 a) s).out.length = 1) := by
  decide +kernel

theorem witness_TimeDiscipline_3 :
    (let a := sailMsg 4 0 (toBytes 32 (2 <<< 248 + 3 <<< 224 + 4000 <<< 96)) 5000
     let x : TimeEx := { num := 3, t1 := 0, t2 := 2 ^ 36, t3 := 100, valid := true }
     let s := sl 3 3 0 0 [(Obj.Time.TIME_SOURCE, 2)] fun c => { c.withTime { c.time with exchange := some x } with hubTime := 2 ^ 50 }
     let t := sl 3 3 0 0 [(Obj.Time.TIME_SOURCE, 2)] fun c =>
       { c.withTime { c.time with exchange := some x, last := some 0 } with hubTime := 2 ^ 50, tick := 500000000 }
     s.core.timeMode = 2 ∧ s.core.time.exchange = some x ∧ s.core.time.last = none ∧ nsOf 5000 x.t2 ≤ 100000 ∧
      ((sailParse a).map fun m => (m.mtype, field 255 248 m.num, field 239 224 m.num)) = some (4, 2, 3) ∧
      (aft (.timeDresp 0 a) s).get Obj.Time.STEPS = 1 ∧ t.core.time.last = some 0 ∧
      ratAbs (nsOf x.t2 x.t1 / 2) ≤ (t.core.get Obj.Time.STEP_LIMIT_NS : Rat) ∧ (aft (.timeDresp 0 a) t).hubTime = 2 ^ 50) := by
  decide +kernel

theorem witness_TimeDiscipline_7 :
    (let a := sailMsg 4 0 (toBytes 32 (2 <<< 248 + 3 <<< 224 + 4000 <<< 96)) (2 ^ 50)
     let x : TimeEx := { num := 3, t1 := 0, t2 := 2 ^ 36, t3 := 100, valid := true }
     let s := sl 3 3 0 0 [(Obj.Time.TIME_SOURCE, 2)] fun c => c.withTime { c.time with exchange := some x }
     s.core.timeMode = 2 ∧ 100000 < nsOf a.stamp.toNat x.t2 ∧ (aft (.timeDresp 0 a) s).time.exchange = none ∧
      (aft (.timeDresp 0 a) s).get Obj.Time.STEPS = 0) := by decide +kernel

theorem witness_TimeDiscipline_8 :
    (let s := sl 0 0 0 0 [(Obj.Time.TIME_SOURCE, 1), (Obj.Time.PTP_GM_ID, 5)] fun c =>
       { c.withTime { c.time with masters := [(5, 0x200), (6, 0x101)], sync := some (5, none, 30, 40) } with timeRuns := true }
     let m : PtpAnnounce := { domain := BitVec.ofNat 8 (s.core.get Obj.Time.PTP_DOMAIN), clockIdentity := 6, quality := 7, arb := true }
     s.core.timeMode = 1 ∧ m.domain.toNat = s.core.get Obj.Time.PTP_DOMAIN ∧ (aft (.ptpAnnounce m) s).time.masters = [(5, 0x200)] ∧
      (aft (.ptpAnnounce m) s).bitOf Obj.Time.FLAGS 2 = true ∧
      (aft (.ptpAnnounce { m with arb := false }) s).get Obj.Time.PTP_GM_ID = 6 ∧
      (aft (.ptpSync { clockIdentity := 5, origin := some 9, arrival := 10, departure := 11 }) s).time.sync = some (5, some 9, 30, 11) ∧
      (aft (.ptpSync { clockIdentity := 5, origin := none, arrival := 10, departure := 11 }) s).time.sync = some (5, none, 10, 11)) := by
  decide +kernel

theorem witness_TimeDiscipline_4 :
    (let f := fun (c : Core) => { c with timeRuns := true }
     let s := sl 0 0 0 0 [(Obj.Time.TIME_SOURCE, 1)] f
     let t := sl 0 0 0 0 [(Obj.Time.TIME_SOURCE, 1), (Obj.Time.PTP_GM_ID, 5)] fun c =>
       (f c).withTime { c.time with masters := [(5, 1)] }
     let m : PtpAnnounce := { domain := BitVec.ofNat 8 (s.core.get Obj.Time.PTP_DOMAIN), clockIdentity := 5, quality := 7, arb := false }
     s.core.timeMode = 1 ∧ s.core.time.masters = [] ∧ m.domain.toNat = s.core.get Obj.Time.PTP_DOMAIN ∧
      (aft (.ptpAnnounce m) s).get Obj.Time.PTP_GM_ID = 5 ∧
      t.core.time.masters ≠ [] ∧ t.core.get Obj.Time.PTP_GM_ID = 5 ∧ t.core.time.sync = none ∧
      (aft (.ptpSync { clockIdentity := 5, origin := some 9, arrival := 10, departure := 11 }) t).out = [.delayReq]) := by
  decide +kernel

theorem witness_TimeDiscipline_5 :
    (let s := sl 0 0 0 0 [(Obj.Time.TIME_SOURCE, 1)] fun c =>
       hearing (fun c => { c.withTime { c.time with sync := some (5, some 9, 2 ^ 40, 11) } with timeRuns := true }) c
     s.core.isSet Obj.Time.PPS_MODE = false ∧ s.core.time.last = none ∧
      (aft (.ptpDelayResp { clockIdentity := 5, receive := 4000 }) s).get Obj.Time.DISC_STATE = 1 ∧
      s.core.get Obj.Time.DISC_STATE ≠ 3 ∧ s.core.timeMode ≠ 0 ∧ s.core.Hears Src.timeLost ∧
      s.clear.core.holdover.get Obj.Time.DISC_STATE = 3) := by decide +kernel

theorem witness_TimeDiscipline_6 :
    (let s := sl 0 0 0 0 [(Obj.Time.TIME_SOURCE, 1), (Obj.Time.PPS_MODE, 1)] fun c =>
       { c.withTime { c.time with ptpClose := true } with timeRuns := true }
     s.core.isSet Obj.Time.PPS_MODE = true ∧ s.core.time.last = none ∧
      (aft (.ppsEdge (BitVec.ofNat 96 (20000 * 2 ^ 32))) s).get Obj.Time.PPS_REJECTS = 1 ∧
      (aft (.ppsEdge (BitVec.ofNat 96 (500 * 2 ^ 32))) s).get Obj.Time.DISC_STATE = 1) := by decide +kernel

theorem witness_TimeDiscipline_9 :
    (let s := sl 0 0 0 0 [(Obj.Time.TIME_SOURCE, 1), (Obj.Time.PPS_MODE, 1)] fun c =>
       { c.withTime { c.time with sync := some (5, some 9, 2 ^ 40, 11) } with timeRuns := true }
     s.core.isSet Obj.Time.PPS_MODE = true ∧ s.core.time.ptpClose = false ∧
      (aft (.ptpDelayResp { clockIdentity := 5, receive := 4000 }) s).time.ptpClose = true ∧
      (aft (.ppsEdge (BitVec.ofNat 96 (500 * 2 ^ 32))) s).get Obj.Time.DISC_STATE = 0) := by decide +kernel

/-- Both halves run; what they last reported is given. -/
def hv (f : HalfState → HalfState) (g : HalfState → HalfState) (objs : List (Nat × Nat) := []) (h : Core → Core := id) : State :=
  up 5 objs fun c => sq (fun q => { q with aoUp := true }) (h (({ c with fc := { c.fc with running := true } }.updHalf 0 fun x =>
    f { x with running := true, alive := true, onTime := true }).updHalf 1 fun x =>
    g { x with running := true, alive := true, onTime := true }))

theorem witness_Batons_1 :
    (let s := hv id id
     (aft (.heartbeatWrite 0 0x00010003) s).get Obj.Baton.HEARTBEATS = 0x00010003 <<< 32 ∧
      ((aft (.heartbeatWrite 0 0x00010003) s).halfSt 0).claim = true ∧ field 15 3 0x00010003 = 0 ∧
      (aft (.heartbeatWrite 0 0x00010003) s).healthy 0 = true ∧
      s.core.halfState 0 ≠ 2 ∧ s.core.Hears (Src.supWdog 0) ∧ (s.clear.core.supWdog s.fuses 0).healthy 0 = false ∧
      ((aft (.decisionPost 1 4 99) s).decisions.map fun d => d.num) = [4]) := by decide +kernel

theorem witness_Batons_6 :
    (let s := hv id id [(Obj.Image.HALF_STATE, 2)] fun c => c.withDecisions [⟨4, some 9, none⟩]
     s.core.halfState 1 = 2 ∧ (s.clear.core.supWdog s.fuses 1).halfState 1 ≠ 2 ∧
      s.core.decisions.find? (fun d => d.num == 4) = some ⟨4, some 9, none⟩ ∧
      (aft (.decisionPost 1 4 9) s).decisions = [] ∧ (aft (.decisionPost 1 4 8) s).decisions.any Decision.differs = true) := by
  decide +kernel

theorem witness_Batons_7 :
    (let s := hv (fun x => { x with alive := false, claim := true }) (fun x => { x with claim := true }) [(Obj.Baton.HEARTBEATS, 1 + 1 <<< 32)]
     s.core.get Obj.Baton.BATON = 0 ∧ s.core.healthy 0 = false ∧ s.core.healthy 1 = true ∧ s.core.Hears Src.batonMoved ∧
      s.core.injected Src.batonConflict = false ∧ s.clear.core.arbitrate.get Obj.Baton.LAST_MOVE_CAUSE = 1) := by decide +kernel

theorem witness_Batons_2 :
    (let s := hv id id [] fun c => c.withDecisions [⟨4, some 9, none⟩]
     (s.core.decisions.find? fun e => e.num == 4 && (e.east.isNone || e.west.isNone)) = some ⟨4, some 9, none⟩ ∧
      (aft (.decideMiss 4) s).get Obj.Baton.DECIDE_MISS = 1) := by decide +kernel

theorem witness_Batons_3 :
    (let s := hv (fun x => { x with alive := false }) id [(Obj.Baton.HEARTBEATS, 1 + 1 <<< 32)]
     s.core.get Obj.Baton.BATON = 0 ∧ s.core.healthy 0 = false ∧ s.core.healthy 1 = true ∧
      (aft .batonArbitrate s).get Obj.Baton.BATON = 1 ∧ (aft .batonArbitrate s).get Obj.Baton.LAST_MOVE_CAUSE = 2) := by
  decide +kernel

theorem witness_Batons_4 :
    (let s := hv (fun x => { x with release := true }) id [(Obj.Baton.HEARTBEATS, 1 + 1 <<< 32)]
     let t := hv id (fun x => { x with claim := true }) [(Obj.Baton.HEARTBEATS, 1 + 1 <<< 32)]
     s.core.healthy 0 = true ∧ s.core.healthy 1 = true ∧ s.core.decisions = [] ∧
      (aft .batonArbitrate s).get Obj.Baton.LAST_MOVE_CAUSE = 3 ∧ (t.core.halfSt 0).claim = false ∧
      (t.core.halfSt 0).release = false ∧ t.core.injected Src.batonConflict = false ∧ t.core.pairOf Src.batonConflict = 0 ∧
      (aft .batonArbitrate t).get Obj.Baton.CLAIM_REFUSED = 1) := by decide +kernel

theorem witness_Batons_5 :
    (let s := hv (fun x => { x with claim := true }) (fun x => { x with claim := true }) [(Obj.Baton.HEARTBEATS, 1 + 1 <<< 32)]
     s.core.healthy 0 = true ∧ s.core.healthy 1 = true ∧ s.core.Hears Src.batonConflict ∧
      s.clear.core.arbitrate.get Obj.Baton.BATON = 0) := by decide +kernel

theorem witness_StateRequests_1 :
    (let s := up 5 []
     Admits s .secureWorld Obj.Dev.STATE_REQ 1 ∧ s.core.inService = true ∧ s.core.engineBusy = false ∧
      (aft (.stateReqService .secureWorld) s).dev = 6 ∧ Admits (up 4 []) .secureWorld Obj.Dev.STATE_REQ 1 ∧
      (up 4 []).core.inService = false) := by decide +kernel

theorem witness_StateRequests_2 :
    (let s := up 6 [(Obj.Sec.JTAG_MODE, 1)] fun c => { c with tap := { mode := 0, instr := .extest } }
     Admits s .secureWorld Obj.Dev.STATE_REQ 2 ∧ s.core.dev = Dv.service ∧ s.core.tap.instr = .extest ∧
      (aft (.stateReqLeaveService .secureWorld) s).dev = 5 ∧
      (aft (.stateReqLeaveService .secureWorld) s).tap = { mode := 1, instr := .idcode }) := by decide +kernel

theorem witness_StateRequests_3 :
    (let s := up 5 []
     Admits s .secureWorld Obj.Dev.STATE_REQ 3 ∧ s.core.inService = true ∧ s.core.engineBusy = false ∧
      (∀ n < 32, s.core.trainState n ≠ 1) ∧ s.core.admits (400 * 32) = true ∧ s.core.scOffline 3 = false) := by
  decide +kernel

theorem witness_StateRequests_4 :
    (let s := up 5 [(Obj.Sluice.BASE_MW, 735000)]
     Admits s .secureWorld Obj.Dev.STATE_REQ 3 ∧ s.core.inService = true ∧ s.core.engineBusy = false ∧
      s.core.admits (400 * ((List.range 32).filter fun n => !s.core.scOffline n).length) = false ∧
      ((List.range 32).filter fun n => !s.core.scOffline n).filter (fun n => !s.core.holds Ck.srExit n) = List.range 32) := by
  decide +kernel

theorem witness_StateRequests_5 :
    (let s := up 8 [(Obj.Sc.STATE 3, 2)] fun c => c.updMc 6 fun m => { m with srEntering := true, srWhy := 2 }
     Admits s .secureWorld Obj.Dev.STATE_REQ 4 ∧ s.core.dev = Dv.sleep ∧
      (maskOf 32 fun n => s.core.resting n && !(s.core.mcOf n).held) = 8 ∧
      (maskOf 32 fun n => s.core.binMoved && !(s.core.scOut n)) = 0 ∧
      s.core.scOut 6 = false ∧ (s.core.mcOf 6).srEntering = true ∧ s.core.resting 6 = false ∧
      (aft (.stateReqWake .secureWorld) s).dev = 4) := by decide +kernel

theorem witness_StateRequests_6 :
    (let s := up 8 [(Obj.Sc.STATE 3, 3)]
     let t := up 8 [(Hid.SPEED, 3)]
     Admits s .secureWorld Obj.Dev.STATE_REQ 4 ∧ s.core.dev = Dv.sleep ∧
      (maskOf 32 fun n => s.core.resting n && !(s.core.mcOf n).held) = 0 ∧
      (maskOf 32 fun n => s.core.binMoved && !(s.core.scOut n)) = 0 ∧
      (aft (.stateReqWake .secureWorld) s).dev = 7 ∧ Admits t .secureWorld Obj.Dev.STATE_REQ 4 ∧ t.core.dev = Dv.sleep ∧
      (maskOf 32 fun n => t.core.resting n && !(t.core.mcOf n).held) = 0 ∧
      (maskOf 32 fun n => t.core.binMoved && !(t.core.scOut n)) = 0xFFFFFFFF) := by decide +kernel

theorem witness_StateRequests_7 :
    (let s := up 10 []
     Admits s .secureWorld Obj.Dev.STATE_REQ 5 ∧ s.core.dev = Dv.safe ∧
      (s.core.objs.any fun e => isSourceStatus e.1 && s.core.keepsSafe e.1 e.2) = false ∧
      (s.core.ledgerOf 2).pending = false ∧ isLedger Obj.Hr.PORT_ENABLE = true) := by decide +kernel

theorem witness_StateRequests_8 :
    Admits (up 4 []) .secureWorld Obj.Dev.STATE_REQ 1 ∧ (up 4 []).core.inService = false ∧
    Admits (up 5 []) .secureWorld Obj.Dev.STATE_REQ 2 ∧ (up 5 []).core.dev ≠ Dv.service ∧
    (let s := up 5 [(Obj.Train.TRAIN_STATE 3, 1)]
     Admits s .secureWorld Obj.Dev.STATE_REQ 3 ∧ s.core.trainState 3 = 1) ∧
    Admits (up 5 []) .secureWorld Obj.Dev.STATE_REQ 4 ∧ (up 5 []).core.dev ≠ Dv.sleep ∧
    Admits (up 5 []) .secureWorld Obj.Dev.STATE_REQ 5 ∧ (up 5 []).core.dev ≠ Dv.safe := by decide +kernel

/-- A start from an origin is under way. -/
def starting (dev origin exits restores trains : Nat) (objs : List (Nat × Nat)) (f : Core → Core := id) : State :=
  up dev objs fun c => f { c with
    start := some { origin := origin, begun := 0, exits := exits, restores := restores, trains := trains, cold := false } }

/-- Both halves have booted. -/
def bootedHalves (c : Core) : Core :=
  (c.updHalf 0 fun h => { h with running := true }).updHalf 1 fun h => { h with running := true }

/-- The results of a SELFTEST: one channel keeps a calibration, the others are refused. -/
def checksOf (bad : Bool) : SelftestResult := ⟨bad, none, some (3, -4) :: List.replicate 24 none, []⟩

theorem witness_Starts_1 :
    (let s := starting 2 0 0 0 0 []
     (checksOf true).wf = true ∧ s.core.seqUp = true ∧ s.core.dev = Dv.selftest ∧
      (s.core.start.map fun r => r.origin) = some 0 ∧ (checksOf true).fuseBad = true ∧ s.core.fc.held = [] ∧
      s.core.startCollector.Hears Src.secFuse) := by decide +kernel

theorem witness_Starts_2 :
    (let s := starting 2 3 0 0 0 [(Obj.Sc.STATE 3, 2)]
     (checksOf true).wf = true ∧ (checksOf true).checkers = [] ∧ s.core.seqUp = true ∧ s.core.dev = Dv.selftest ∧
      (s.core.start.map fun r => r.origin) = some 3 ∧ s.core.fc.held = [] ∧
      (∀ k < 16, s.core.get (Obj.KeySlot.KEY k) = 0) ∧ s.core.get Obj.Loa.ADMIT_KEY = 0 ∧
      (checksOf true).trims[0]?.join = some (3, -4) ∧ (checksOf true).trims[24]?.join = none ∧
      s.core.bitOf Obj.Hr.PORT_ENABLE 2 = true ∧ s.core.portState 2 = 0 ∧
      (maskOf 32 fun n => !(s.core.scOut n) && s.core.resting n) = 8) := by decide +kernel

theorem witness_Starts_3 :
    (let s := starting 2 0 0 0 0 [] bootedHalves
     (checksOf false).wf = true ∧ (checksOf false).fuseBad = false ∧ (checksOf false).millpond = none ∧
      s.core.booted = true ∧ (∀ h < 2, s.core.halfState h ≠ 3) ∧ (s.core.ledgerOf 2).topSeq + 1 ≠ 0xFFFFFFFF ∧
      s.core.seqUp = true ∧ s.core.dev = Dv.selftest ∧ (s.core.start.map fun r => r.origin) = some 0 ∧
      (maskOf 32 fun n => !(s.core.scOut n) && s.core.resting n) = 0 ∧
      (maskOf 32 fun n => !(s.core.scOut n) && (s.core.binMoved || (!(s.core.resting n) && !(s.core.hasSet n))))
        = 0xFFFFFFFF) := by decide +kernel

/-- Subchannel 3 is under restore, with its credit. -/
def restoring (exits restores trains : Nat) : State :=
  starting 4 0 exits restores trains [] fun c => c.withSluice { c.sluice with held := [⟨Ck.restore, 3, 800, false⟩] }

/-- Subchannels that a start still restores, that it takes out of self-refresh, and that it is to train. -/
def restoreCases : List (Nat × Nat × Nat) := [(0, 0x28, 0), (0, 8, 4), (0, 8, 0), (1, 8, 0)]

theorem witness_Starts_4 :
    (∀ e ∈ restoreCases,
      (restoring e.1 e.2.1 e.2.2).core.hubUp = true ∧ (restoring e.1 e.2.1 e.2.2).core.dev = Dv.restore ∧
      e.2.1.testBit 3 = true ∧ (restoring e.1 e.2.1 e.2.2).core.holds Ck.restore 3 = true ∧
      (restoring e.1 e.2.1 e.2.2).core.markedLane 3 1 ≠ some 2 ∧ (restoring e.1 e.2.1 e.2.2).core.trainState 3 ≠ 1) ∧
    setBitTo 3 false 0x28 ≠ 0 ∧ setBitTo 3 false 8 = 0 ∧
    (∀ i < 20, checkResult (nth (List.replicate 20 ⟨1, false⟩) i ⟨0, false⟩) ≠ 3) ∧
    checkResult (nth ((List.replicate 20 (⟨1, false⟩ : LaneCheck)).set 12 ⟨5, false⟩) 12 ⟨0, false⟩) = 3 := by decide +kernel

theorem witness_Starts_5 :
    (let s := up 10 [(Obj.Train.TRAIN_STATE 3, 2), (Obj.Stream.STATE 7, 2), (Obj.Stream.REGION 7, 9)]
     s.core.seqUp = true ∧ s.core.dev = Dv.safe ∧ s.core.wins = [] ∧ s.core.streams = [] ∧
      (∀ st < 256, s.core.stState st ≠ St.disabled → s.core.get (Obj.Stream.REGION st) < 1024) ∧
      s.core.trainState 3 = 2 ∧ s.core.scOffline 3 = false ∧ (s.core.mcOf 3).held = false ∧ s.core.stState 7 ≠ St.disabled) ∧
    (up 5 []).core.dev ≠ Dv.safe := by decide +kernel

theorem witness_Starts_6 :
    (let s := st [(Obj.Seq.SEQ_STATE, 2), (Obj.Dev.DEVICE_STATE, 9)] (sq fun q => { q with aoUp := true, orderly := true, up := [0, 1] })
     let t := st [(Obj.Seq.SEQ_STATE, 2), (Obj.Dev.DEVICE_STATE, 9), (Obj.Stream.STATE 4, 3)]
       (sq fun q => { q with aoUp := true, orderly := true, up := [0, 1] })
     s.core.seq.aoUp = true ∧ s.core.seq.orderly = true ∧ s.core.dev = Dv.descent ∧ s.core.descentList ≠ [] ∧
      s.core.wins = [] ∧ s.core.streams = [] ∧ (∀ st < 256, s.core.stState st = St.disabled) ∧
      (∀ r < 3, (s.core.ledgerOf r).run = none) ∧ t.core.seq.aoUp = true ∧ t.core.stState 4 ≠ St.disabled) := by decide +kernel

theorem witness_ScOrders_1 :
    (let s := up 5 []
     let t := up 7 [(Obj.Sc.STATE 3, 2)] fun c => c.updMc 3 fun m => { m with held := true, srExiting := true }
     Admits s .secureWorld (Obj.ScOrder.SC_ORDER 3) 1 ∧ s.core.trainState 3 ≠ 1 ∧ s.core.resting 3 = false ∧
      s.core.scOffline 3 = false ∧ (aft (.scOrderOffline 3 .secureWorld) s).dev = 7 ∧
      Admits t .secureWorld (Obj.ScOrder.SC_ORDER 3) 1 ∧ t.core.scState 3 = 2 ∧ t.core.srQueue = [] ∧
      t.core.exitMayBegin 3 = true ∧ (t.core.ddrOf 3).alertLow = false ∧ (t.core.ddrOf 3).alertOwed = false) := by decide +kernel

theorem witness_ScOrders_2 :
    (let s := up 7 [(Obj.Sc.STATE 3, 2)] fun c => { c with srQueue := [4] }
     Admits s .secureWorld (Obj.ScOrder.SC_ORDER 3) 1 ∧ s.core.inService = true ∧ s.core.trainState 3 ≠ 1 ∧
      s.core.resting 3 = true ∧ s.core.exitMayBegin 3 = false ∧
      ((aft (.scOrderOffline 3 .secureWorld) s).mcOf 3).offAfter = true) := by decide +kernel

theorem witness_ScOrders_3 :
    (let s := up 8 []
     let t := up 7 [(Obj.Sc.STATE 3, 3)]
     (∀ v ∈ [1, 2, 3], Admits s .secureWorld (Obj.ScOrder.SC_ORDER 3) v) ∧ s.core.inService = false ∧ s.core.dev ≠ Dv.service ∧
      Admits t .secureWorld (Obj.ScOrder.SC_ORDER 3) 3 ∧ t.core.scOffline 3 = true ∧ t.core.trainState 3 ≠ 2) := by decide +kernel

theorem witness_ScOrders_4 :
    (let s := up 7 [(Obj.Sc.STATE 3, 3)]
     let t := up 5 []
     Admits s .secureWorld (Obj.ScOrder.SC_ORDER 3) 2 ∧ s.core.inService = true ∧ s.core.trainState 3 ≠ 1 ∧
      s.core.scOut 3 = true ∧ Admits t .secureWorld (Obj.ScOrder.SC_ORDER 3) 3 ∧ t.core.inService = true ∧
      t.core.trainState 3 ≠ 1 ∧ t.core.scOut 3 = false) := by decide +kernel

theorem witness_ScOrders_5 :
    (let s := up 5 []
     let t := up 5 [(Obj.Sluice.BASE_MW, 739900)]
     Admits s .secureWorld (Obj.ScOrder.SC_ORDER 3) 2 ∧ s.core.scOut 3 = false ∧ s.core.holds Ck.srExit 3 = false ∧
      s.core.admits 400 = true ∧ ((aft (.scOrderHold 3 .secureWorld) s).mcOf 3).held = true ∧
      Admits t .secureWorld (Obj.ScOrder.SC_ORDER 3) 2 ∧ t.core.scOut 3 = false ∧ t.core.holds Ck.srExit 3 = false ∧
      t.core.admits 400 = false) := by decide +kernel

theorem witness_ScOrders_6 :
    (let s := up 7 [(Obj.Sc.STATE 3, 3), (Obj.Train.TRAIN_STATE 3, 2), (Obj.ScMask.CONTENT_LOST, 8)]
     let t := up 7 [(Obj.Sc.STATE 3, 3), (Obj.Train.TRAIN_STATE 3, 2)]
     Admits s .secureWorld (Obj.ScOrder.SC_ORDER 3) 3 ∧ s.core.inService = true ∧ s.core.scOffline 3 = true ∧
      s.core.trainState 3 = 2 ∧ s.core.bitOf Obj.ScMask.CONTENT_LOST 3 = true ∧
      Admits t .secureWorld (Obj.ScOrder.SC_ORDER 3) 3 ∧ t.core.inService = true ∧ t.core.scOffline 3 = true ∧
      t.core.trainState 3 = 2 ∧ t.core.bitOf Obj.ScMask.CONTENT_LOST 3 = false ∧ (∀ p < 8, (t.core.portOf p).held = []) ∧
      (aft (.scOrderOnline 3 .secureWorld) t).dev = 5) := by decide +kernel

theorem witness_ScOrders_7 :
    (let s := up 7 [(Obj.Sc.STATE 3, 2)] fun c => c.updMc 3 fun m => { m with held := true }
     let t := up 7 [] fun c => c.updMc 3 fun m => { m with held := true, srEntering := true, srWhy := 4 }
     Admits s .secureWorld (Obj.ScOrder.SC_ORDER 3) 3 ∧ s.core.inService = true ∧ s.core.trainState 3 ≠ 1 ∧
      s.core.scOffline 3 = false ∧ (s.core.mcOf 3).held = true ∧ s.core.resting 3 = true ∧
      Admits t .secureWorld (Obj.ScOrder.SC_ORDER 3) 3 ∧ t.core.inService = true ∧ t.core.trainState 3 ≠ 1 ∧
      t.core.scOffline 3 = false ∧ (t.core.mcOf 3).held = true ∧ t.core.resting 3 = false ∧
      (aft (.scOrderOnline 3 .secureWorld) t).dev = 5) := by decide +kernel

theorem witness_ScOrders_8 :
    (let s := up 7 [(Obj.Sc.STATE 3, 3), (Obj.ScMask.CONTENT_LOST, 8)] fun c =>
       c.withSluice { c.sluice with held := [⟨Ck.fill, 3, 1500, false⟩] }
     let t := up 5 [] fun c => c.withSluice { c.sluice with queue := [⟨Ck.fill, 3, 50000, false⟩] }
     let u := up 5 [] fun c => c.queueTraining 3 true
     s.core.seqUp = true ∧ s.core.scOut 3 = true ∧ s.core.hubUp = true ∧ s.core.scOffline 3 = true ∧
      s.core.holds Ck.fill 3 = true ∧ (∀ p < 8, (s.core.portOf p).held = []) ∧
      ((aft (.offlineHoldExpiry 3) s).mcOf 3).holdOver = true ∧ t.core.hubUp = true ∧ t.core.headFits = true ∧
      t.core.pool < 50000 ∧ (aft .sluiceGrant t).get Obj.Sluice.GRANTS = 1 ∧ s.core.headFits = false ∧
      u.core.headFits = true ∧ u.core.sluice.queue = [⟨Ck.train, 3, 2400, false⟩] ∧ (u.core.ddrOf 3).train.isSome = true) := by
  decide +kernel

theorem witness_StepIdle :
    (let s := up 5 [(Obj.Sc.SR_TIME 3, 9)] fun c => { c with hubTime := 5, timeRuns := true }
     s.pending = [] ∧ s.core.timeRuns = true ∧ s.idle.core.hubTime = 2 ^ 33 + 5 ∧ s.idle.core.tick = s.core.tick + 1 ∧
      s.idle.core.get (Obj.Sc.SR_TIME 3) = 9 ∧ State.reset.core.timeRuns = false) ∧
    (let s := up 8 [(Obj.Sc.STATE 3, 2), (Obj.Phy.ALERT_WINDOW_NS, 20)] fun c =>
       { c.updMc 4 (fun m => { m with srAt := 1, srEntering := true }) with tick := 100, throttled := true }
     s.pending = [] ∧ s.core.scState 3 = 2 ∧ s.core.throttled = true ∧ (s.core.mcOf 4).srAt ≠ 0 ∧
      (s.core.mcOf 4).stopped = false ∧
      s.core.get Obj.Phy.ALERT_WINDOW_NS ≤ 2 * (s.core.tick + 2 - (s.core.mcOf 4).srAt) ∧
      s.idle.core.get (Obj.Sc.SR_TIME 3) = 2 ∧ s.idle.core.get (Obj.Sc.STATE 4) = 2) := by decide +kernel

theorem witness_MemoryStaysCanonical :
    State.reset.mem.wf = true ∧ step State.reset = .next State.reset.idle := ⟨by decide +kernel, rfl⟩

theorem witness_LatchStays :
    (let s : State := { State.reset with latch := true, pending := [.batonArbitrate] }
     s.latch = true ∧ (after .batonArbitrate { s with pending := [] }).latch = true) ∧
    ∀ rest, ([.batonArbitrate] : List Instr) ≠ .alwaysOnReset :: rest ∧ ([.batonArbitrate] : List Instr) ≠ .aoResetRelease :: rest :=
  ⟨by decide +kernel, fun _ => by simp⟩

theorem witness_CommandFrames :
    exec (.txmaskUpdate 1) State.reset = .next (after (.txmaskUpdate 1) State.reset) := rfl

theorem witness_CommandsComplete :
    Instr.wf .batonArbitrate = true ∧ Instr.wf (.mr4Result 0 0 []) = false := by decide +kernel

theorem witness_WriteOrder :
    (let s := up 5 []
     s.core.loaServed = true ∧ s.core.allRecovery = false ∧ lookup 0x1001 0xEE = none ∧
      (lookup 0x5030 2).any (fun r => r.acc = .const || r.acc = .ro) = true) ∧
    (let s := up 6 []
     ∃ r ∈ lookup 0x2900 1, r.acc ≠ .const ∧ r.acc ≠ .ro ∧ r.wellFormed 0x2900 1 (toBytes 4 0x00080301) = true ∧
      s.core.loaServed = true ∧ s.core.allRecovery = false ∧ s.core.writeHeld r.acc 0x2900 1 0x00080301 = true) ∧
    (let s := up 5 [] fun c => (c.setHalf 0 3).setHalf 1 3
     s.core.loaServed = true ∧ s.core.allRecovery = true ∧ romServes 0x2900 = false) := by decide +kernel

theorem witness_WorldRule_1 :
    (let s := up 5 []
     s.core.loaServed = true ∧ s.core.allRecovery = false ∧ (lookup 0x2900 1).any (fun r => r.world = .secureWorld) = true ∧
      (aft (.registerWrite .openWorld 0x2900 1 [1, 3, 8, 0]) s).get Obj.Sec.DENIED_COUNT = 1 ∧
      Out.status .deniedWorld ∈ (aft (.registerWrite .openWorld 0x2900 1 [1, 3, 8, 0]) s).out ∧
      (lookup 0x2805 3).any (fun r => r.world = .openWorld) = true) := by decide +kernel

theorem witness_WorldRule_2 :
    (let b := req 1 3 5 0x2900 1 64 [] 0 0 0
     Fresh ses 7 9 b ∧ (loaParse b).op = 1 ∧ (loaParse b).offset = 0 ∧ (ses).core.allRecovery = false ∧
      (lookup (loaParse b).index (loaParse b).sub).any (fun r => r.world = .secureWorld) = true ∧
      (aft (.loaRead (dgram b)) ses).get Obj.Loa.REQUESTS = 1) := by decide +kernel

theorem witness_PartitionRule :
    (let s := up 5 [(Obj.Context.STATE 9, 1), (Obj.Stream.STATE 4, 1)]
     let u := up 5 []
     s.core.loaServed = true ∧ s.core.dev = Dv.idle ∧ s.core.allRecovery = false ∧
      field 23 16 0x00080302 + field 15 8 0x00080302 + field 7 0 0x00080302 ≠ 12 ∧
      Out.status .malformed ∈ (aft (.partitionWrite .secureWorld 0x00080302) s).out ∧
      field 23 16 0x00070401 + field 15 8 0x00070401 + field 7 0 0x00070401 = 12 ∧ 1 ≤ field 7 0 0x00070401 ∧
      field 15 8 0x00070401 ≠ field 15 8 (s.core.get Obj.Millpond.PARTITION) ∧ s.core.get (Obj.Context.STATE 9) ≠ 0 ∧
      Out.status .retry ∈ (aft (.partitionWrite .secureWorld 0x00070401) s).out ∧
      field 23 16 0x00030306 + field 15 8 0x00030306 + field 7 0 0x00030306 = 12 ∧
      field 15 8 0x00030306 = field 15 8 (s.core.get Obj.Millpond.PARTITION) ∧ field 23 16 0x00030306 < 4 ∧
      s.core.stState 4 ≠ St.disabled ∧
      Out.status .malformed ∈ (aft (.partitionWrite .secureWorld 0x00030306) s).out ∧
      u.core.dev = Dv.idle ∧ u.core.allRecovery = false ∧ (∀ x < 128, u.core.get (Obj.Context.STATE x) = 0) ∧
      (∀ i < 256, u.core.stState i = St.disabled) ∧
      (aft (.partitionWrite .secureWorld 0x00030306) u).get Obj.Millpond.PARTITION = 0x00030306) := by decide +kernel

theorem witness_PortWorldRule :
    (let s := up 5 [(Obj.Port.PORT_STATE 1, 3)]
     s.core.loaServed = true ∧ s.core.portUp 1 = true ∧ bit 1 2 ≠ s.core.portSecure 1 ∧
      s.core.writeRefusal .secureWorld 0x5000 1 [1] = none ∧
      (aft (.registerWrite .secureWorld 0x5000 1 [1]) s).portSecure 0 = true ∧
      Out.status .retry ∈ (aft (.registerWrite .secureWorld 0x5000 1 [2]) s).out) := by decide +kernel

end Sys2Proof.Tests
end

section
/-! PROOFS. The two worlds (00_scope.md R11): what one counted event does to its source's COUNT, what a refusal with
DENIED_WORLD changes, how a write and a LOA request reach that refusal, and the obligation `WorldRule` itself. -/

namespace Sys2Proof.Machine

namespace Core

/-! ## The COUNT of a source (R308) -/

/-- Keys at and above the first source object: no log record, capture or pin object is among them. -/
abbrev sourceUp (k : Nat) : Prop := 0x490000 ≤ k

theorem keeps_pins_sourceUp (c : Core) : Keeps sourceUp c c.pins := by
  unfold pins
  refine Keeps.trans ?_ (keeps_put _ _ Obj.Fc.PIN_STATE _ (by decide))
  dsimp only
  split_ifs <;> exact keeps_of_objs _ rfl

theorem keeps_capture_sourceUp (c : Core) (r sev : Nat) (m : Marks) : Keeps sourceUp c (c.capture r sev m) := by
  have hfirst : ∀ (d : Core) (n : Nat), Keeps sourceUp d ((d.put Obj.Fc.FIRST_ERROR r).flag Obj.Fc.FLAGS n) :=
    fun d _ => (keeps_put _ d _ _ (by decide)).trans (keeps_put _ _ _ _ (by decide))
  unfold capture
  refine keeps_ite _ (fun _ => Keeps.refl _ c) fun _ => keeps_ite _ (fun _ => hfirst c 0) fun _ => ?_
  exact (keeps_put _ c Obj.Fc.FE_LATER _ (by decide)).trans
    (keeps_ite _ (fun _ => hfirst _ 2) fun _ => Keeps.refl _ _)

theorem keeps_act_sourceUp (c : Core) (s action r : Nat) : Keeps sourceUp c (c.act s action r) := by
  unfold act
  refine Keeps.trans (d := if 2 ≤ action then (c.emit .interrupt).ask (.notify c.fc.seq) else c)
    (keeps_ite _ (fun _ => keeps_of_objs _ rfl) fun _ => Keeps.refl _ c) ?_
  generalize (if 2 ≤ action then (c.emit .interrupt).ask (.notify c.fc.seq) else c) = c1
  refine Keeps.trans (d := if 3 ≤ action then
      match (sourceInfo s).reaction with
      | 4 => (c1.openWindow 4 (sourceIndex s) c.fc.seq).ask (.scOffline (sourceIndex s) s)
      | 5 => (c1.openWindow 5 (sourceIndex s) c.fc.seq).ask (.halfOffline (sourceIndex s) s)
      | _ => c1
    else c1) (keeps_ite _ (fun _ => ?_) fun _ => Keeps.refl _ _) ?_
  · split
    · exact keeps_of_objs _ rfl
    · exact keeps_of_objs _ rfl
    · exact Keeps.refl _ _
  · refine keeps_ite _ (fun _ => ?_) fun _ => keeps_ite _ (fun _ => ?_) fun _ => Keeps.refl _ _
    · exact ((keeps_put _ _ Obj.Fc.LOCKOUT_SOURCE _ (by decide)).trans
        (keeps_put _ _ Obj.Fc.LAST_LOCKOUT _ (by decide))).trans (keeps_of_objs _ rfl)
    · exact (keeps_put _ _ Obj.Fc.FLAGS _ (by decide)).trans (keeps_of_objs _ rfl)

theorem sourceUp_count (s : Nat) : sourceUp (Obj.Source.COUNT s) := by
  simp only [Obj.Source.COUNT]; omega

theorem not_sourceUp_logKey (n : Nat) : ¬ sourceUp (logKey n) := by
  simp only [logKey, Obj.EventLog.LOG]; omega

/-- STATUS of a source after one counted event (R305): PENDING, the highest severity, and a bit for each mark. -/
def eventStatus (st sev : Nat) (m : Marks) : Nat :=
  let st1 := setBitTo 0 true (setField 7 5 st (max sev (field 7 5 st)))
  let st2 := if m.wire then setBitTo 3 true st1 else st1
  let st3 := if m.real then setBitTo 2 true st2 else st2
  if m.injected then setBitTo 1 true st3 else st3

/-- Of the source objects an event writes STATUS, COUNT and LAST_TIME of its own source. -/
theorem keeps_countEvent_sourceUp (c : Core) (s sev : Nat) (m : Marks) : Keeps sourceUp
    (((c.put (Obj.Source.STATUS s) (eventStatus (c.get (Obj.Source.STATUS s)) sev m)).inc (Obj.Source.COUNT s)).put
      (Obj.Source.LAST_TIME s) c.hubTime)
    (c.countEvent s sev m) := by
  unfold countEvent
  refine Keeps.trans ?_ (keeps_ite _ (fun _ => keeps_put _ _ Obj.Fc.INJECTIONS _ (by decide)) fun _ => Keeps.refl _ _)
  refine Keeps.trans ?_ (keeps_ite _ (fun _ => keeps_put _ _ Obj.Fc.FLAGS _ (by decide)) fun _ => Keeps.refl _ _)
  refine Keeps.trans ?_ (keeps_ite _ (fun _ => (keeps_put _ _ Obj.Fc.WIRE_FAULTS _ (by decide)).trans
    (keeps_put _ _ Obj.Fc.FLAGS _ (by decide))) fun _ => Keeps.refl _ _)
  exact keeps_put _ _ Obj.Fc.EVENTS _ (by decide)

theorem countEvent_count (c : Core) (s sev : Nat) (m : Marks) :
    (c.countEvent s sev m).get (Obj.Source.COUNT s) = min (c.get (Obj.Source.COUNT s) + 1) (2 ^ 32 - 1) := by
  have hstatus : Obj.Source.COUNT s ≠ Obj.Source.STATUS s := by simp
  have htime : Obj.Source.COUNT s ≠ Obj.Source.LAST_TIME s := by simp
  rw [keeps_countEvent_sourceUp c s sev m _ (sourceUp_count s), get_put_ne _ _ htime, get_inc_self,
    get_put_ne _ _ hstatus, sat_eq_min]

/-- An event that no quiet window masks counts once, whatever its action. -/
theorem event_count (c : Core) (s : Nat) (m : Marks) (x : FaultCtx)
    (hw : (c.fc.windows.any fun w => w.scope.contains s) = false) :
    (c.event s m x).get (Obj.Source.COUNT s) = min (c.get (Obj.Source.COUNT s) + 1) (2 ^ 32 - 1) := by
  have hquiet : ∀ action, c.quiet s action = false := fun action => by unfold quiet; rw [hw, Bool.and_false]
  unfold event
  simp only [hquiet, Bool.false_eq_true, if_false]
  rw [keeps_pins_sourceUp _ _ (sourceUp_count s), ← countEvent_count c s (c.eventSev s) m]
  refine keeps_ite sourceUp (fun _ => ?_) (fun _ => Keeps.refl _ _) _ (sourceUp_count s)
  refine Keeps.trans ?_ (keeps_act_sourceUp _ _ _ _)
  refine Keeps.trans ?_ (keeps_capture_sourceUp _ _ _ _)
  refine Keeps.trans ?_ (keeps_put _ _ _ _ (by decide))
  exact Keeps.trans (keeps_of_objs _ rfl) (keeps_put _ _ _ _ (not_sourceUp_logKey _))

/-- A source of the source map that the collector hears counts the event it raises. -/
theorem raises_raise (c : Core) (s : Nat) (x : FaultCtx) (hs : (sourceInfo? s).isNone = false) :
    c.Raises s (c.raise s x) := by
  rintro ⟨hrun, hinj, hpair, hquiet⟩
  have hraise : c.raise s x = c.event s Marks.none x := by simp [raise, hs, hrun, hinj, hpair]
  rw [hraise]
  exact event_count c s _ x hquiet

/-! ## A refusal with DENIED_WORLD (R335) -/

/-- The refusal as its objects hold it, before SEC_DENIED is raised. -/
theorem denied_fcOnly (c : Core) : ((c.inc Obj.Sec.DENIED_COUNT).flag Obj.Sec.FLAGS 0).FcOnly c.denied :=
  fcOnly_raise _ _ _

theorem denied_get (c : Core) {k : Nat} (hfc : ¬ isFcKey k) (hcount : k ≠ Obj.Sec.DENIED_COUNT)
    (hflags : k ≠ Obj.Sec.FLAGS) : c.denied.get k = c.get k := by
  rw [c.denied_fcOnly.get hfc, get_flag_ne _ _ hflags, get_inc_ne _ hcount]

theorem denied_count (c : Core) :
    c.denied.get Obj.Sec.DENIED_COUNT = min (c.get Obj.Sec.DENIED_COUNT + 1) (2 ^ 32 - 1) := by
  rw [c.denied_fcOnly.get (by decide), get_flag_ne _ _ (by decide), get_inc_self, sat_eq_min]

theorem denied_flag (c : Core) : c.denied.bitOf Obj.Sec.FLAGS 0 = true := by
  rw [bitOf, c.denied_fcOnly.get (by decide)]
  exact bitOf_flag_self _ _ _

theorem denied_raises (c : Core) : c.Raises Src.secDenied c.denied := by
  intro hears
  have hcount := raises_raise ((c.inc Obj.Sec.DENIED_COUNT).flag Obj.Sec.FLAGS 0) Src.secDenied (ctxNone 0 0)
    (by decide +kernel) hears
  rwa [get_flag_ne _ _ (by decide), get_inc_ne _ (by decide)] at hcount

/-! ## The world check of a write and of a read (R11, R446) -/

section
variable {c : Core} {idx sub : Nat} {r : Row}

theorem writeRefusal_open_of_secure (bs : List Byte) (hrec : c.allRecovery = false) (hrow : lookup idx sub = some r)
    (hworld : r.world = .secureWorld) : c.writeRefusal .openWorld idx sub bs = some .deniedWorld := by
  simp [writeRefusal, hrec, hrow, hworld]

theorem readRefusal_open_of_secure (hrec : c.allRecovery = false) (hrow : lookup idx sub = some r)
    (hworld : r.world = .secureWorld) : c.readRefusal .openWorld idx sub = some .deniedWorld := by
  simp [readRefusal, hrec, hrow, hworld]

/-- The world check passes an OPEN object from either world. -/
theorem writeRefusal_of_openRow (bs : List Byte) (w w' : World) (hrow : lookup idx sub = some r)
    (hworld : r.world = .openWorld) : c.writeRefusal w idx sub bs = c.writeRefusal w' idx sub bs := by
  simp [writeRefusal, hrow, hworld]

theorem readRefusal_of_openRow (w w' : World) (hrow : lookup idx sub = some r) (hworld : r.world = .openWorld) :
    c.readRefusal w idx sub = c.readRefusal w' idx sub := by
  simp [readRefusal, hrow, hworld]

end

/-- Whether both halves are in RECOVERY is read from HALF_STATE alone. -/
theorem allRecovery_congr {c d : Core} (h : d.get Obj.Image.HALF_STATE = c.get Obj.Image.HALF_STATE) :
    d.allRecovery = c.allRecovery := by
  unfold allRecovery halfState byteOf; rw [h]

/-! ## Sessions and requests (R365, R366, R371) -/

/-- A UDP session that has not been admitted to the secure world asks from the open one. -/
theorem worldOf_of_not_secure (c : Core) {n : Nat} (hn : n ≤ 16) (h : (c.sessionOf n).secure = false) :
    c.worldOf n = .openWorld := by
  have hudp : ¬ 0xFF00 ≤ n := by omega
  simp [worldOf, sessionSecure, hudp, h]

theorem dropPart_of_none (c : Core) (n : Nat) (h : (c.sessionOf n).part = none) : c.dropPart n = c := by
  simp [dropPart, h]

/-- A READ that starts a value and is refused answers the status alone. -/
theorem loaRead_deniedWorld (c : Core) (f : Fuses) (n want : Nat) (m : LoaMsg) (hoff : m.offset = 0)
    (href : c.readRefusal (c.worldOf n) m.index m.sub = some .deniedWorld) :
    c.loaRead f n want m = (Reply.bare .deniedWorld, c.denied.updSession n fun x => { x with snap := none }) := by
  simp [loaRead, hoff, href]

/-- What is sent to a UDP source leaves. -/
theorem mem_out_sendLoa_udp (c : Core) (addr port vc : Nat) (bs : List Byte) :
    Out.udp addr port bs ∈ (c.sendLoa { udp := true, a := addr, b := port } vc bs).out := by
  simp [sendLoa]

theorem get_sendLoa_udp (c : Core) (addr port vc : Nat) (bs : List Byte) (k : Nat) :
    (c.sendLoa { udp := true, a := addr, b := port } vc bs).get k = c.get k := rfl

end Core

/-! ## A write reaches its object (R446) -/

theorem State.writeObject_deniedWorld (s : State) (w : World) (idx sub : Nat) (bs : List Byte) (set : Nat)
    (h : s.core.writeRefusal w idx sub bs = some .deniedWorld) :
    s.writeObject w idx sub bs set = (.deniedWorld, { s with core := s.core.denied }) := by
  simp [State.writeObject, h]

/-- A REGISTER_WRITE whose effect stays within Core: its status leaves after it. -/
theorem answersThen_registerWrite {s : State} {w : World} {idx : BitVec 16} {sub : BitVec 8} {bs : List Byte}
    {P : Core → Prop} {st : Status} {c : Core} (hserved : s.core.loaServed = true)
    (hw : s.clear.writeObject w idx.toNat sub.toNat bs 0 = (st, { s.clear with core := c }))
    (hp : P (c.emit (.status st))) : AnswersThen (.registerWrite w idx sub bs) s P := by
  have hidx : (idx.toNat * 256 + sub.toNat) / 256 = idx.toNat := by have := sub.isLt; omega
  have hsub : (idx.toNat * 256 + sub.toNat) % 256 = sub.toNat := by have := sub.isLt; omega
  refine ⟨c.emit (.status st), ?_, hp⟩
  show Host.Outcome.next (s.write w (idx.toNat * 256 + sub.toNat) bs 0) = _
  simp only [State.write, State.when, hserved, if_true, State.act, hidx, hsub, hw]
  rfl

/-! ## A request by UDP reaches its session (R361 to R370) -/

theorem Session.opened_of_not_secure {x : Session} (m : LoaMsg) (h : x.secure = false) : x.opened m = m := by
  simp [Session.opened, h]

theorem Session.opened_of_secure {x : Session} (m : LoaMsg) (h : x.secure = true) :
    x.opened m = { m with body := gcmCrypt x.ks (loaIv m.session 0 m.seq) m.body } := by
  simp [Session.opened, h]

/-- A request of an open session that is neither OPEN nor AUTH is executed under its SEQ. -/
theorem State.loaRequest_udp (s : State) {p : LoaPath} {m : LoaMsg} (nh : Nat) (hudp : p.udp = true) (hbad : m.bad p = false)
    (h4 : m.op ≠ 4) (h5 : m.op ≠ 5) (hhere : s.core.sessionHere p m.session = true)
    (htag : m.tagged = true → (s.core.sessionOf m.session).secure = true) :
    s.loaRequest p m nh = s.loaSeq p m.session m := by
  have hplain : (m.tagged && !(s.core.sessionOf m.session).secure) = false := by
    cases ht : m.tagged
    · rfl
    · rw [htag ht]; rfl
  simp [State.loaRequest, hbad, h4, h5, hhere, hudp, hplain]

/-- A fresh request is executed under its SEQ, with its data deciphered where the session is in the secure world. -/
theorem State.loaMessage_fresh (s : State) {addr : Nat} {port : BitVec 16} {bs : List Byte} (h : Fresh s addr port bs)
    (h4 : (loaParse bs).op ≠ 4) (h5 : (loaParse bs).op ≠ 5) (nh : Nat) :
    s.loaMessage { udp := true, a := addr, b := port.toNat } bs nh =
      s.loaSeq { udp := true, a := addr, b := port.toNat } (loaParse bs).session
        ((s.core.sessionOf (loaParse bs).session).opened (loaParse bs)) := by
  obtain ⟨⟨_, hserved, hlen, _, hbad, hreply, hlo, hhi, hopen, haddr, hport, hsealed⟩, htag, _, _⟩ := h
  have hhere : s.core.sessionHere { udp := true, a := addr, b := port.toNat } (loaParse bs).session = true := by
    simp [Core.sessionHere, hopen, hlo, hhi]
  have hforeign : s.core.foreign { udp := true, a := addr, b := port.toNat } (loaParse bs).session = false := by
    simp [Core.foreign, haddr, hport]
  have hpass : ¬ (!s.core.loaServed || decide (bs.length < 9) ||
      s.core.foreign { udp := true, a := addr, b := port.toNat } (loaParse bs).session) = true := by
    simp [hserved, hforeign, hlen]
  unfold State.loaMessage
  dsimp only
  rw [if_neg hpass, if_neg (by rw [hreply]; decide), hhere, Bool.true_and]
  cases hsec : (s.core.sessionOf (loaParse bs).session).secure with
  | false =>
    rw [Session.opened_of_not_secure _ hsec, if_neg (by decide)]
    exact s.loaRequest_udp nh rfl hbad h4 h5 hhere htag
  | true =>
    rw [Session.opened_of_secure _ hsec, if_pos rfl, if_pos (hsealed hsec)]
    exact s.loaRequest_udp nh rfl hbad h4 h5 hhere fun _ => hsec

/-- A fresh LOA_READ by UDP does what its SEQ calls for, and then what its events ask of other blocks. -/
theorem exec_loaRead_fresh {s : State} {addr : Nat} {port : BitVec 16} {bs : List Byte} (h : Fresh s addr port bs)
    (hop : (loaParse bs).op = 1) : exec (.loaRead (.udp addr port true bs)) s =
      .next (s.clear.loaSeq { udp := true, a := addr, b := port.toNat } (loaParse bs).session
        ((s.core.sessionOf (loaParse bs).session).opened (loaParse bs))).settle := by
  obtain ⟨hup, hserved, -, hopens, -⟩ := h.1
  have hclear : Fresh s.clear addr port bs := h
  have harrival : s.clear.loaArrival (.udp addr port true bs) 0 =
      s.clear.loaMessage { udp := true, a := addr, b := port.toNat } bs 0 := by
    have : s.clear.core.loaServed = true := hserved
    simp [State.loaArrival, this]
  show loaRow (.udp addr port true bs) s = _
  simp only [loaRow, formed, LoaArrival.wf, hopens, State.loaIn, State.when, hup, State.act, harrival,
    s.clear.loaMessage_fresh hclear (by omega) (by omega)]
  rfl

/-- A request with a SEQ that was neither refused nor executed: its session keeps the reply, and the reply leaves. -/
theorem State.loaSeq_new (s : State) (p : LoaPath) (n : Nat) (m : LoaMsg) {r : Reply} {u : State}
    (hseq : seqRefused (s.core.sessionOf n).top m.seq = false) (hheld : (s.core.sessionOf n).held m.seq = none)
    (hexec : State.loaExec { s with core := s.core.inc64 Obj.Loa.REQUESTS } p n m = (r, u)) :
    s.loaSeq p n m = { u with
      core := (u.core.updSession n fun y => y.keep m.seq (replyBytes (s.core.sessionOf n) m r)).sendLoa p Vc.rsp
        (replyBytes (s.core.sessionOf n) m r) } := by
  simp [State.loaSeq, hseq, hheld, hexec]

theorem State.loaExec_read (s : State) (p : LoaPath) (n : Nat) (m : LoaMsg) (hop : m.op = 1)
    (hpart : (s.core.sessionOf n).part = none) :
    s.loaExec p n m = ((s.core.loaRead s.fuses n (min m.dlen (p.room (s.core.sessionOf n).secure)) m).1,
      { s with core := (s.core.loaRead s.fuses n (min m.dlen (p.room (s.core.sessionOf n).secure)) m).2 }) := by
  simp [State.loaExec, hop, Core.dropPart_of_none s.core n hpart]

theorem State.loaExec_read_deniedWorld (s : State) (p : LoaPath) (n : Nat) (m : LoaMsg) (hop : m.op = 1)
    (hpart : (s.core.sessionOf n).part = none) (hoff : m.offset = 0)
    (href : s.core.readRefusal (s.core.worldOf n) m.index m.sub = some .deniedWorld) :
    s.loaExec p n m = (Reply.bare .deniedWorld,
      { s with core := s.core.denied.updSession n fun x => { x with snap := none } }) := by
  rw [s.loaExec_read p n m hop hpart, s.core.loaRead_deniedWorld s.fuses n _ m hoff href]

/-! ## The obligation -/

theorem registerWrite_open_of_secure (s : State) (idx : BitVec 16) (sub : BitVec 8) (bs : List Byte) (r : Row)
    (hserved : s.core.loaServed = true) (hrec : s.core.allRecovery = false)
    (hrow : lookup idx.toNat sub.toNat = some r) (hworld : r.world = .secureWorld) :
    AnswersThen (.registerWrite .openWorld idx sub bs) s fun c =>
      Out.status .deniedWorld ∈ c.out ∧ s.core.Raises Src.secDenied c ∧
      c.get Obj.Sec.DENIED_COUNT = min (s.core.get Obj.Sec.DENIED_COUNT + 1) (2 ^ 32 - 1) ∧ c.bitOf Obj.Sec.FLAGS 0 = true ∧
      ∀ k, ¬ isFcKey k → k ≠ Obj.Sec.DENIED_COUNT → k ≠ Obj.Sec.FLAGS → c.get k = s.core.get k := by
  have hrefused : s.clear.core.writeRefusal .openWorld idx.toNat sub.toNat bs = some .deniedWorld :=
    Core.writeRefusal_open_of_secure bs hrec hrow hworld
  refine answersThen_registerWrite hserved (s.clear.writeObject_deniedWorld _ _ _ _ _ hrefused) ⟨?_, ?_, ?_, ?_, ?_⟩
  · simp
  · exact s.clear.core.denied_raises
  · exact s.clear.core.denied_count
  · exact s.clear.core.denied_flag
  · exact fun k hfc hcount hflags => s.clear.core.denied_get hfc hcount hflags

theorem loaRead_open_of_secure (s : State) (addr : Nat) (port : BitVec 16) (bs : List Byte) (r : Row)
    (hfresh : Fresh s addr port bs) (hopen : (s.core.sessionOf (loaParse bs).session).secure = false)
    (hpart : (s.core.sessionOf (loaParse bs).session).part = none) (hop : (loaParse bs).op = 1)
    (hoff : (loaParse bs).offset = 0) (hrec : s.core.allRecovery = false)
    (hrow : lookup (loaParse bs).index (loaParse bs).sub = some r) (hworld : r.world = .secureWorld) :
    AnswersThen (.loaRead (.udp addr port true bs)) s fun c =>
      Out.udp addr port.toNat (replyBytes (s.core.sessionOf (loaParse bs).session) (loaParse bs)
        (Reply.bare .deniedWorld)) ∈ c.out ∧
      ∀ k, ¬ isFcKey k → k ≠ Obj.Sec.DENIED_COUNT → k ≠ Obj.Sec.FLAGS → k ≠ Obj.Loa.REQUESTS →
        c.get k = s.core.get k := by
  have hexec := exec_loaRead_fresh hfresh hop
  obtain ⟨⟨-, -, -, -, -, -, -, hhi, -⟩, -, hseq, hheld⟩ := hfresh
  generalize loaParse bs = m at *
  have hrec' : (s.clear.core.inc64 Obj.Loa.REQUESTS).allRecovery = false :=
    (Core.allRecovery_congr (c := s.core) (Core.get_put_ne _ _ (by decide))).trans hrec
  have href : (s.clear.core.inc64 Obj.Loa.REQUESTS).readRefusal
      ((s.clear.core.inc64 Obj.Loa.REQUESTS).worldOf m.session) m.index m.sub = some .deniedWorld := by
    rw [(s.clear.core.inc64 Obj.Loa.REQUESTS).worldOf_of_not_secure hhi hopen]
    exact Core.readRefusal_open_of_secure hrec' hrow hworld
  rw [Session.opened_of_not_secure m hopen, s.clear.loaSeq_new _ _ _ hseq hheld
    (State.loaExec_read_deniedWorld _ _ _ m hop hpart hoff href)] at hexec
  refine ⟨_, hexec, ?_, fun k hfc hcount hflags hreq => ?_⟩
  · exact Core.mem_out_sendLoa_udp _ _ _ _ _
  · rw [Core.get_sendLoa_udp, Core.get_updSession, Core.get_updSession, Core.denied_get _ hfc hcount hflags]
    exact Core.get_put_ne _ _ hreq

/-- Settles O9: a write and a read from the open world both end in the refusal that `Core.denied` counts, and a refusal
looks at the world in the check of a SECURE object alone. -/
theorem worldRule : Obligations.WorldRule := by
  refine ⟨registerWrite_open_of_secure, ?_, fun c idx sub bs r hrow hworld => ⟨?_, ?_⟩⟩
  · rintro s addr port bs m r rfl
    exact loaRead_open_of_secure s addr port bs r
  · exact Core.writeRefusal_of_openRow bs _ _ hrow hworld
  · exact Core.readRefusal_of_openRow _ _ hrow hworld

end Sys2Proof.Machine
end

section
/-! PROOFS. The partition of Millpond (03_millrace_capture.md R94, R95): what a write whose status is known ends in, the
checks of R446 that a write of PARTITION meets, its effect, and the obligation `PartitionRule` itself. -/

namespace Sys2Proof.Machine

/-! ## A write whose status is known (R446) -/

theorem State.writeObject_refused (s : State) {w : World} {idx sub set : Nat} {bs : List Byte} {st : Status}
    (h : s.core.writeRefusal w idx sub bs = some st) (hworld : st ≠ .deniedWorld) :
    s.writeObject w idx sub bs set = (st, s) := by
  simp [State.writeObject, h]

/-- The status of a write leaves after its effect, and then what its events asked for is served. -/
theorem State.write_of_writeObject {s u : State} {w : World} {k set : Nat} {bs : List Byte} {st : Status}
    (hserved : s.core.loaServed = true) (hw : s.clear.writeObject w (k / 256) (k % 256) bs set = (st, u)) :
    s.write w k bs set = State.settle { u with core := u.core.emit (.status st) } := by
  simp only [State.write, State.when, hserved, if_true, State.act, hw]

/-- A write that changes nothing answers its status and asks nothing. -/
theorem State.write_of_unchanged {s : State} {w : World} {k set : Nat} {bs : List Byte} {st : Status}
    (hserved : s.core.loaServed = true) (hw : s.clear.writeObject w (k / 256) (k % 256) bs set = (st, s.clear)) :
    s.write w k bs set = { s.clear with core := { s.clear.core with out := [.status st] } } := by
  rw [State.write_of_writeObject hserved hw]
  exact State.settle_of_req_nil _ rfl

namespace Core

/-- LOA is served in IDLE (R357). -/
theorem loaServed_of_idle {c : Core} (hidle : c.dev = Dv.idle) : c.loaServed = true := by
  simp [loaServed, hidle]

/-! ## The elastic buffer's level (R96, R98) -/

/-- An object that a change of the fill never writes: neither Millpond's own level and flags, nor the flags of a stream, nor an
object of the collector. -/
abbrev waterKeeps (k : Nat) : Prop :=
  k ≠ Obj.Millpond.ELASTIC_PEAK ∧ k ≠ Obj.Millpond.FLAGS ∧ (∀ st, k ≠ Obj.Stream.FLAGS st) ∧ ¬ isFcKey k

theorem keeps_throttle (K : Nat → Prop) (c : Core) (x y : Bool) : Keeps K c ((c.withThrottled x).withOverHigh y) :=
  keeps_of_objs K rfl

/-- A change of the fill writes the level, the flags it raises, and what an event may write. -/
theorem keeps_water (c : Core) : Keeps waterKeeps c c.water := by
  have hpeak : ¬ waterKeeps Obj.Millpond.ELASTIC_PEAK := fun h => h.1 rfl
  have hflags : ¬ waterKeeps Obj.Millpond.FLAGS := fun h => h.2.1 rfl
  have hstream : ∀ st, ¬ waterKeeps (Obj.Stream.FLAGS st) := fun st h => h.2.2.1 st rfl
  have hseen : ∀ (b : Bool) (n : Nat), Keeps waterKeeps c (if b then (c.put Obj.Millpond.ELASTIC_PEAK n).flag
      Obj.Millpond.FLAGS 1 else c.put Obj.Millpond.ELASTIC_PEAK n) := fun b n =>
    (keeps_put _ c _ _ hpeak).trans (keeps_ite _ (fun _ => keeps_put _ _ _ _ hflags) fun _ => Keeps.refl _ _)
  unfold water
  dsimp only
  refine (hseen (c.elasticBytes / 2 ≤ c.elasticFill && 0 < c.elasticFill)
    (max c.elasticFill (c.get Obj.Millpond.ELASTIC_PEAK))).trans ?_
  refine keeps_ite _ (fun _ => ?_) fun _ => keeps_ite _ (fun _ => keeps_throttle _ _ _ _) fun _ =>
    keeps_of_objs _ (objs_withOverHigh _ _)
  refine Keeps.trans ?_ (keeps_ite _ (fun _ => Keeps.refl _ _) fun _ => ?_)
  · refine Keeps.trans ?_ (keeps_foldl _ _ _ (fun d st _ => ?_) _)
    · exact (keeps_throttle _ _ _ _).trans (keeps_put _ _ _ _ hflags)
    · exact keeps_ite _ (fun _ => keeps_put _ d _ _ (hstream st)) fun _ => Keeps.refl _ d
  · exact (fcOnly_raise _ _ _).keeps.mono fun _ hk => hk.2.2.2

theorem waterKeeps_partition : waterKeeps Obj.Millpond.PARTITION :=
  ⟨by decide, by decide, fun st => by simp only [Obj.Stream.FLAGS, Obj.Millpond.PARTITION]; omega, by decide⟩

/-! ## What a write of PARTITION sets (R95) -/

variable {c : Core} {v : Nat}

/-- Too small an ELASTIC part while a stream is not DISABLED: nothing changes. -/
theorem writePartition_malformed (hsmall : field 23 16 v < 4) (hstream : ∃ st < 256, c.stState st ≠ St.disabled) :
    c.writePartition v = (.malformed, c) := by
  have hany : ((List.range 256).any fun st => decide (c.stState st ≠ 0)) = true := by
    simpa [List.any_eq_true] using hstream
  simp only [writePartition, hsmall, hany, decide_true, Bool.and_self, if_true]

theorem writePartition_ok (h : field 23 16 v < 4 → ∀ st < 256, c.stState st = St.disabled) :
    ∃ d, c.writePartition v = (.ok, d) ∧ d.get Obj.Millpond.PARTITION = v := by
  have hpass : ¬ ((field 23 16 v < 4 && (List.range 256).any fun st => decide (c.stState st ≠ 0)) = true) := by
    simpa [List.any_eq_true] using h
  simp only [writePartition, if_neg hpass]
  refine ⟨_, rfl, ?_⟩
  rw [keeps_water _ _ waterKeeps_partition, touch, get_updLedger, get_put_ne _ _ (by decide), get_put_ne _ _ (by decide),
    get_put_self]

/-! ## The checks that a write of PARTITION meets (R446) -/

/-- The object table's row of PARTITION (R94). -/
def partitionRow : Row := ⟨0x01, 0x01, .u32, .rwi, .secureWorld, .ledger, 0x00080301, .partition⟩

theorem lookup_partition : lookup 0x2900 1 = some partitionRow := by decide +kernel

theorem partition_holds_iff (n v : Nat) : Check.partition.holds n v = true ↔
    v < 2 ^ 24 ∧ field 23 16 v + field 15 8 v + field 7 0 v = 12 ∧ 1 ≤ field 7 0 v := by
  simp [Check.holds, and_assoc]

/-- Check 4 looks at the parts alone: a 32-bit value has the length and the encoding of PARTITION. -/
theorem partitionRow_wellFormed (v : BitVec 32) :
    partitionRow.wellFormed 0x2900 1 (toBytes 4 v.toNat) = Check.partition.holds 4 v.toNat := by
  simp [Row.wellFormed, isImgData, partitionRow, Ty.bytes, Ty.encodes, ofBytes_toBytes_of_lt (n := 4) v.isLt]

/-- In IDLE, check 5 holds a write of PARTITION back for a change of COMBINE alone. -/
theorem writeHeld_partition_of_idle (hidle : c.dev = Dv.idle) : c.writeHeld .rwi 0x2900 1 v =
    (decide (field 15 8 v ≠ field 15 8 (c.get Obj.Millpond.PARTITION)) &&
      (List.range 128).any fun x => decide (c.get (Obj.Context.STATE x) ≠ 0)) := by
  simp [writeHeld, accessHeld, stateHeld, halfHeld, engineHeld, configHeld, hidle]

section
variable {v : BitVec 32} (hrec : c.allRecovery = false)
include hrec

theorem writeRefusal_partition_malformed (hparts : Check.partition.holds 4 v.toNat = false) :
    c.writeRefusal .secureWorld 0x2900 1 (toBytes 4 v.toNat) = some .malformed := by
  simp [writeRefusal, hrec, lookup_partition, partitionRow_wellFormed, hparts]

/-- Well-formed parts from the secure world meet check 5 alone. -/
theorem writeRefusal_partition_of_holds (hparts : Check.partition.holds 4 v.toNat = true) :
    c.writeRefusal .secureWorld 0x2900 1 (toBytes 4 v.toNat) =
      if c.writeHeld .rwi 0x2900 1 v.toNat then some .retry else none := by
  have hvalue : ofBytes (toBytes 4 v.toNat) = v.toNat := ofBytes_toBytes_of_lt v.isLt
  have hacc : partitionRow.acc = .rwi := rfl
  simp [writeRefusal, hrec, lookup_partition, partitionRow_wellFormed, hparts, hvalue, hacc]

theorem writeRefusal_partition_retry (hidle : c.dev = Dv.idle) (hparts : Check.partition.holds 4 v.toNat = true)
    (hcombine : field 15 8 v.toNat ≠ field 15 8 (c.get Obj.Millpond.PARTITION))
    (hactive : ∃ x < 128, c.get (Obj.Context.STATE x) ≠ 0) :
    c.writeRefusal .secureWorld 0x2900 1 (toBytes 4 v.toNat) = some .retry := by
  rw [writeRefusal_partition_of_holds hrec hparts, writeHeld_partition_of_idle hidle, if_pos]
  simpa [List.any_eq_true, hcombine] using hactive

theorem writeRefusal_partition_none (hidle : c.dev = Dv.idle) (hparts : Check.partition.holds 4 v.toNat = true)
    (hfree : field 15 8 v.toNat = field 15 8 (c.get Obj.Millpond.PARTITION) ∨
      ∀ x < 128, c.get (Obj.Context.STATE x) = 0) :
    c.writeRefusal .secureWorld 0x2900 1 (toBytes 4 v.toNat) = none := by
  rw [writeRefusal_partition_of_holds hrec hparts, writeHeld_partition_of_idle hidle, if_neg]
  simpa [List.any_eq_true, or_iff_not_imp_left] using hfree

end

end Core

/-! ## The command PARTITION_WRITE -/

theorem exec_partitionWrite (s : State) (w : World) (v : BitVec 32) :
    exec (.partitionWrite w v) s = .next (s.write w Obj.Millpond.PARTITION (toBytes 4 v.toNat) 0) := by
  have hsize : sizeOf Obj.Millpond.PARTITION = 4 := by decide +kernel
  have hfits : v.toNat < 2 ^ widthOf Obj.Millpond.PARTITION := by
    rw [widthOf, hsize]; exact v.isLt
  show Host.Outcome.next (s.writeNum w Obj.Millpond.PARTITION v.toNat) = _
  rw [State.writeNum, if_pos hfits, hsize]

/-- A write of PARTITION that passes checks 1 to 5 does what `Core.writePartition` says. -/
theorem State.writeObject_partition (s : State) {v : BitVec 32}
    (h : s.core.writeRefusal .secureWorld 0x2900 1 (toBytes 4 v.toNat) = none) :
    s.writeObject .secureWorld 0x2900 1 (toBytes 4 v.toNat) 0 = s.onCoreOnly (s.core.writePartition v.toNat) := by
  have hclear : clearableOf 0x2900 1 = none := by simp [clearableOf, Core.lookup_partition, Core.partitionRow]
  simp [State.writeObject, h, hclear, State.admitted, Core.writeValue, Core.writeMillpond,
    ofBytes_toBytes_of_lt (n := 4) v.isLt]

section
variable {s : State} {v : BitVec 32}

/-- A refusal of PARTITION by checks 1 to 5 changes nothing. -/
theorem exec_partitionWrite_refused {st : Status} (hserved : s.core.loaServed = true)
    (h : s.clear.core.writeRefusal .secureWorld 0x2900 1 (toBytes 4 v.toNat) = some st) (hworld : st ≠ .deniedWorld) :
    exec (.partitionWrite .secureWorld v) s =
      .next { s.clear with core := { s.clear.core with out := [.status st] } } := by
  rw [exec_partitionWrite, State.write_of_unchanged hserved (s.clear.writeObject_refused h hworld)]

/-- Nor does a refusal by the rule of PARTITION itself. -/
theorem exec_partitionWrite_malformed (hserved : s.core.loaServed = true)
    (h : s.clear.core.writeRefusal .secureWorld 0x2900 1 (toBytes 4 v.toNat) = none)
    (hrule : s.clear.core.writePartition v.toNat = (.malformed, s.clear.core)) :
    exec (.partitionWrite .secureWorld v) s =
      .next { s.clear with core := { s.clear.core with out := [.status .malformed] } } := by
  have hw := s.clear.writeObject_partition h
  rw [hrule] at hw
  rw [exec_partitionWrite, State.write_of_unchanged hserved hw]

/-- An accepted write ends with status OK in the effect of the rule of PARTITION. -/
theorem answersOk_partitionWrite {P : Core → Prop} {d : Core} (hserved : s.core.loaServed = true)
    (h : s.clear.core.writeRefusal .secureWorld 0x2900 1 (toBytes 4 v.toNat) = none)
    (hrule : s.clear.core.writePartition v.toNat = (.ok, d)) (hp : P (d.emit (.status .ok))) :
    AnswersOk (.partitionWrite .secureWorld v) s P := by
  have hw := s.clear.writeObject_partition h
  rw [hrule] at hw
  refine ⟨d.emit (.status .ok), ?_, by simp, hp⟩
  rw [exec_partitionWrite, State.write_of_writeObject hserved hw]
  rfl

end

/-! ## The obligation -/

/-- Settles O10: check 4 looks at the parts, check 5 in IDLE at COMBINE and the contexts, and `Core.writePartition` at the
streams. -/
theorem partitionRule : Obligations.PartitionRule := by
  refine ⟨?_, ?_, ?_, ?_⟩
  · intro s v hserved hrec hbad
    have hparts : Check.partition.holds 4 v.toNat = false := by
      rw [Bool.eq_false_iff, ne_eq, Core.partition_holds_iff]
      omega
    exact exec_partitionWrite_refused hserved (Core.writeRefusal_partition_malformed hrec hparts) (by decide)
  · intro s v hidle hrec hlt hsum hdesc hcombine hactive
    have hparts := (Core.partition_holds_iff 4 v.toNat).2 ⟨hlt, hsum, hdesc⟩
    exact exec_partitionWrite_refused (Core.loaServed_of_idle hidle)
      (Core.writeRefusal_partition_retry hrec hidle hparts hcombine hactive) (by decide)
  · intro s v hidle hrec hlt hsum hdesc hfree hsmall hstream
    have hparts := (Core.partition_holds_iff 4 v.toNat).2 ⟨hlt, hsum, hdesc⟩
    exact exec_partitionWrite_malformed (Core.loaServed_of_idle hidle)
      (Core.writeRefusal_partition_none hrec hidle hparts hfree) (Core.writePartition_malformed hsmall hstream)
  · intro s v hidle hrec hlt hsum hdesc hfree hstreams
    have hparts := (Core.partition_holds_iff 4 v.toNat).2 ⟨hlt, hsum, hdesc⟩
    obtain ⟨d, hrule, hpartition⟩ := Core.writePartition_ok (c := s.clear.core) hstreams
    refine answersOk_partitionWrite (Core.loaServed_of_idle hidle)
      (Core.writeRefusal_partition_none hrec hidle hparts hfree) hrule ⟨hpartition, ?_⟩
    rw [Core.elasticBytes, Core.get_emit, hpartition]

end Sys2Proof.Machine
end

section
/-! PROOFS. The worlds of the ports (13_security_worlds.md R334): the checks of R446 that a write of PORT_WORLD meets, its
effect, and the obligation `PortWorldRule` itself. -/

namespace Sys2Proof.Machine

namespace Core

/-! ## The checks that a write of PORT_WORLD meets (R446) -/

/-- The object table's row of PORT_WORLD (R356). -/
def portWorldRow : Row := ⟨0x01, 0x01, .u8, .rw, .secureWorld, .ledger, 0x00, .any⟩

theorem lookup_portWorld : lookup 0x5000 1 = some portWorldRow := by decide +kernel

/-- Check 4 refuses no byte: PORT_WORLD has no reserved bits. -/
theorem portWorldRow_wellFormed (b : Byte) : portWorldRow.wellFormed 0x5000 1 [b] = true := by
  simp [Row.wellFormed, isImgData, portWorldRow, Ty.bytes, Ty.encodes, Check.holds]

theorem ofBytes_singleton (b : Byte) : ofBytes [b] = b.toNat := by simp [ofBytes]

section
variable {c : Core}

/-- PORT_WORLD is in use where it would give a port that is UP another world. -/
theorem configHeld_portWorld_iff (v : Nat) :
    c.configHeld 0x5000 1 v = true ↔ ∃ p < 8, c.portUp p = true ∧ c.portSecure p ≠ bit p v := by
  simp [configHeld]

/-- From the secure world a byte for PORT_WORLD meets the boot ROM's limit (R360) and check 5 alone, and both answer RETRY. -/
theorem writeRefusal_portWorld (b : Byte) :
    c.writeRefusal .secureWorld 0x5000 1 [b] =
      if c.allRecovery || c.writeHeld .rw 0x5000 1 b.toNat then some .retry else none := by
  have hrom : romServes 0x5000 = false := by decide
  have hacc : portWorldRow.acc = .rw := rfl
  cases hrec : c.allRecovery <;>
    simp [writeRefusal, hrec, hrom, lookup_portWorld, portWorldRow_wellFormed, ofBytes_singleton, hacc]

theorem writeRefusal_portWorld_retry {b : Byte} {p : Nat} (hp : p < 8) (hup : c.portUp p = true)
    (hchange : bit p b.toNat ≠ c.portSecure p) : c.writeRefusal .secureWorld 0x5000 1 [b] = some .retry := by
  have hheld : c.configHeld 0x5000 1 b.toNat = true := (configHeld_portWorld_iff _).2 ⟨p, hp, hup, hchange.symm⟩
  simp [writeRefusal_portWorld, writeHeld, hheld]

/-- A byte that no check refuses gives every port that is UP the world it has. -/
theorem portSecure_of_writeRefusal_none {b : Byte} (h : c.writeRefusal .secureWorld 0x5000 1 [b] = none) {p : Nat}
    (hp : p < 8) (hup : c.portUp p = true) : bit p b.toNat = c.portSecure p := by
  by_contra hchange
  rw [writeRefusal_portWorld_retry hp hup hchange] at h
  cases h

/-! ## What a write of PORT_WORLD sets (R334) -/

theorem get_store_self (k v : Nat) : (c.store k v).get k = v := by
  unfold store
  split_ifs <;> simp [touch]

theorem get_store_ne {k j : Nat} (v : Nat) (h : j ≠ k) : (c.store k v).get j = c.get j := by
  unfold store
  split_ifs <;> simp [touch, get_put_ne _ _ h]

/-- A stored value gives every port the world of its bit. -/
theorem portSecure_store_portWorld (v p : Nat) : (c.store Obj.Sec.PORT_WORLD v).portSecure p = bit p v := by
  rw [portSecure, bitOf, get_store_self, bit]

end

end Core

/-! ## The command REGISTER_WRITE of PORT_WORLD -/

/-- A write of PORT_WORLD that passes checks 1 to 5 stores its byte. -/
theorem State.writeObject_portWorld {s : State} {b : Byte}
    (h : s.core.writeRefusal .secureWorld 0x5000 1 [b] = none) :
    s.writeObject .secureWorld 0x5000 1 [b] 0 =
      (.ok, { s with core := s.core.store Obj.Sec.PORT_WORLD b.toNat }) := by
  have hclear : clearableOf 0x5000 1 = none := by simp [clearableOf, Core.lookup_portWorld, Core.portWorldRow]
  simp [State.writeObject, h, hclear, State.admitted, State.onCoreOnly, Core.writeValue, Core.writeSec, Core.storedIf,
    Core.stored, Core.ofBytes_singleton]

/-- A refusal by checks 1 to 5 changes nothing. -/
theorem exec_registerWrite_refused {s : State} {w : World} {idx : BitVec 16} {sub : BitVec 8} {bs : List Byte}
    {st : Status} (hserved : s.core.loaServed = true)
    (h : s.clear.core.writeRefusal w idx.toNat sub.toNat bs = some st) (hworld : st ≠ .deniedWorld) :
    exec (.registerWrite w idx sub bs) s =
      .next { s.clear with core := { s.clear.core with out := [.status st] } } := by
  have hidx : (idx.toNat * 256 + sub.toNat) / 256 = idx.toNat := by have := sub.isLt; omega
  have hsub : (idx.toNat * 256 + sub.toNat) % 256 = sub.toNat := by have := sub.isLt; omega
  show Host.Outcome.next (s.write w (idx.toNat * 256 + sub.toNat) bs 0) = _
  rw [State.write_of_unchanged hserved (by rw [hidx, hsub]; exact s.clear.writeObject_refused h hworld)]

/-! ## The obligation -/

/-- Settles O11: check 5 of R446 refuses a byte that would give a port that is UP another world, and one that passes is
stored as it is. -/
theorem portWorldRule : Obligations.PortWorldRule := by
  refine ⟨fun s b p hserved hp hup hchange => ?_, fun s b hserved hpass => ?_⟩
  · exact exec_registerWrite_refused hserved (Core.writeRefusal_portWorld_retry hp hup hchange) (by decide)
  · have hworlds : ∀ p, (s.clear.core.store Obj.Sec.PORT_WORLD b.toNat).portSecure p = bit p b.toNat :=
      Core.portSecure_store_portWorld b.toNat
    refine answersThen_registerWrite hserved (State.writeObject_portWorld (s := s.clear) hpass)
      ⟨by simp, fun p _ => hworlds p, fun p hp hup => ?_, fun k hk => Core.get_store_ne (c := s.clear.core) _ hk⟩
    exact (hworlds p).trans (Core.portSecure_of_writeRefusal_none hpass hp hup)

end Sys2Proof.Machine
end

section
/-! PROOFS. What a command can do to DRAM, the fuses, the lockout latch and the queue: every memory operation keeps DRAM's
canonical form, every other effect leaves DRAM alone, and the obligations `MemoryStaysCanonical`, `LatchStays`,
`CommandFrames`, `CommandsComplete` and `StepRunsFront` themselves. -/

namespace Sys2Proof.Machine

/-! ## DRAM keeps its canonical form -/

/-- An effect on registers, engines and DRAM that keeps DRAM's canonical form. -/
abbrev KeepsCanonical (f : Core → Memory → Core × Memory) : Prop :=
  ∀ (c : Core) (m : Memory), m.wf = true → (f c m).2.wf = true

/-- A loop over registers, engines and DRAM keeps the canonical form when its body does. -/
theorem Memory.wf_foldl {α : Type} (f : Core × Memory → α → Core × Memory)
    (hf : ∀ x a, x.2.wf = true → (f x a).2.wf = true) (l : List α) (x : Core × Memory) (hx : x.2.wf = true) :
    (l.foldl f x).2.wf = true := by
  induction l generalizing x with
  | nil => exact hx
  | cons a t ih => exact ih _ (hf x a hx)

namespace Core

variable {m : Memory} (hm : m.wf = true)
include hm

/-- A write that is issued stores its burst; every other pick leaves DRAM alone. -/
theorem wf_doPick (c : Core) (n : Nat) (p : Pick) : (c.doPick m n p).2.wf = true := by
  cases p with
  | cas r =>
    simp only [doPick, issueCas]
    split
    · exact Memory.wf_setBurst _ _ _ _ hm
    · exact hm
  | _ => exact hm

theorem wf_mcPick (c : Core) (n : Nat) (t : PickTiming) : (c.mcPick m n t).2.wf = true := by
  unfold mcPick
  split
  · dsimp only
    split
    · exact hm
    · exact wf_doPick hm _ _ _
  · exact hm

theorem wf_writeSaved (c : Core) (pa : Nat) : (c.writeSaved m pa).2.wf = true := Memory.wf_setBurst _ _ _ _ hm

theorem wf_writeSweep (c : Core) (n pr : Nat) (x : WriteSweep) : (c.writeSweep m n pr x).2.wf = true := by
  unfold writeSweep
  split
  · exact hm
  · split
    · exact hm
    · exact Memory.wf_foldl _ (fun y _ hy => wf_writeSaved hy y.1 _) _ (c, m) hm

theorem wf_replayOne (c : Core) (n : Nat) (h : HistCmd) : (c.replayOne m n h).2.wf = true := by
  unfold replayOne
  dsimp only
  split
  · exact Memory.wf_setBurst _ _ _ _ hm
  · exact hm

theorem wf_replay (c : Core) (n : Nat) : (c.replay m n).2.wf = true :=
  Memory.wf_foldl _ (fun y h hy => wf_replayOne hy y.1 n h) _ (_, m) hm

theorem wf_alertDeassert (c : Core) (n : Nat) : (c.alertDeassert m n).2.wf = true := by
  unfold alertDeassert
  dsimp only
  split
  · exact hm
  · split
    · exact hm
    · exact wf_replay hm c n

theorem wf_trainMemory (c : Core) (n : Nat) (t : TrainRun) (r : StepResult) : (c.trainMemory m n t r).2.wf = true := by
  unfold trainMemory
  split
  · exact Memory.wf_lose _ _ hm
  · split
    · exact Memory.wf_foldl _ (fun y _ hy => wf_writeSaved hy y.1 _) _ (c, m) hm
    · exact hm

theorem wf_trainStep (c : Core) (n : Nat) (r : StepResult) : (c.trainStep m n r).2.wf = true := by
  unfold trainStep
  split
  · exact hm
  · split
    · exact hm
    · dsimp only
      split <;> exact wf_trainMemory hm _ n _ r

theorem wf_define (c : Core) (r per : Nat) : (c.define m r per).2.wf = true := by
  unfold define
  dsimp only
  split
  · exact Memory.wf_zero _ _ _ _ hm
  · exact hm

theorem wf_personalityWrite (c : Core) (r per : Nat) : (c.personalityWrite m r per).2.2.wf = true := by
  unfold personalityWrite
  split
  · exact hm
  · split
    · exact hm
    · split
      · exact hm
      · split
        · exact hm
        · exact wf_define hm c r per

theorem wf_tryRamp (c : Core) : (c.tryRamp m).2.wf = true := by
  unfold tryRamp
  split
  · exact Memory.wf_loseAll m
  · exact hm

theorem wf_upInRise (c : Core) : (c.upInRise m).2.wf = true := by
  have hdone : ∀ d : Core, (if !c.upEn then (d, m) else if c.dev = Dv.lockout then (d.inc Obj.Dev.LOCKOUT_ON_REQS, m)
      else if c.dev = Dv.descent then (d.latchOn, m) else d.tryRamp m).2.wf = true := fun d => by
    split_ifs
    · exact hm
    · exact hm
    · exact hm
    · exact wf_tryRamp hm d
  unfold upInRise
  dsimp only
  split
  · exact hm
  · exact hdone _

theorem wf_dwellEnd (c : Core) : (c.dwellEnd m).2.wf = true := by
  unfold dwellEnd
  split
  · exact wf_tryRamp hm _
  · exact hm

theorem wf_restoreDone (c : Core) (n : Nat) (l : List LaneCheck) (h : List Bool) : (c.restoreDone m n l h).2.wf = true := by
  unfold restoreDone
  split
  · exact hm
  · split
    · exact hm
    · exact Memory.wf_lose _ _ hm

theorem wf_leaveRest (c : Core) (n : Nat) : (c.leaveRest m n).2.wf = true := by
  unfold leaveRest
  dsimp only
  split
  · exact wf_replay hm _ n
  · exact hm

theorem wf_selfRefreshExit (c : Core) (n : Nat) : (c.selfRefreshExit m n).2.wf = true := by
  unfold selfRefreshExit
  dsimp only
  split
  · exact hm
  · split <;> exact wf_leaveRest hm c n

theorem wf_fillDone (c : Core) (n : Nat) : (c.fillDone m n).2.wf = true := by
  unfold fillDone
  split
  · exact Memory.wf_rebase _ _ _ hm
  · exact hm

end Core

/-! ## What stands outside the registers and engines -/

/-- The commands that may program a fuse: a write of FUSE_PROGRAM, and a write of an object of the sender's choice (R338). -/
def mayProgram : Instr → Bool
  | .fuseOwnerKey _ _ _ | .fuseRevoke _ _ | .fuseSvnFloor _ _ | .fuseSecureBoot _ | .fuseJtagPermLock _
  | .registerWrite _ _ _ _ | .statusFlagClear _ _ _ _ _ | .loaRead _ | .loaWrite _ | .loaDescribe _ | .loaOpen _ _
  | .loaAuth _ | .loaClose _ | .loaSubscribe _ | .loaNotifyAck _ | .loaEcho _ => true
  | _ => false

/-- The commands that take the always-on domain through reset (R328). -/
def takesReset : Instr → Bool
  | .alwaysOnReset | .aoResetRelease => true
  | _ => false

/-- What a command leaves alone outside the registers and engines, from a state `s` to a state `t`. -/
structure State.Outside (i : Instr) (s t : State) : Prop where
  canonical : s.mem.wf = true → t.mem.wf = true
  latch : takesReset i = false → s.latch = true → t.latch = true
  fuses : mayProgram i = false → t.fuses = s.fuses
  pending : t.pending = s.pending

namespace State

variable {i : Instr} {s t u : State}

theorem Outside.trans (h : s.Outside i t) (h' : t.Outside i u) : s.Outside i u where
  canonical hs := h'.canonical (h.canonical hs)
  latch hi hs := h'.latch hi (h.latch hi hs)
  fuses hi := (h'.fuses hi).trans (h.fuses hi)
  pending := h'.pending.trans h.pending

theorem outside_core (i : Instr) (s : State) (c : Core) : s.Outside i { s with core := c } := ⟨id, fun _ => id, fun _ => rfl, rfl⟩

theorem outside_memory (i : Instr) (s : State) (c : Core) {m : Memory} (h : s.mem.wf = true → m.wf = true) :
    s.Outside i { s with core := c, mem := m } := ⟨h, fun _ => id, fun _ => rfl, rfl⟩

theorem outside_clear (i : Instr) (s : State) : s.Outside i s.clear := outside_core i s _

theorem outside_settle (i : Instr) (s : State) : s.Outside i s.settle := by
  obtain ⟨hmem, hfuses, hpending, hlatch⟩ := s.settle_frame
  exact ⟨fun h => by rw [hmem]; exact h, fun _ => hlatch, fun _ => hfuses, hpending⟩

theorem outside_act (i : Instr) (s : State) (f : State → State) (hf : ∀ u : State, u.Outside i (f u)) :
    s.Outside i (s.act f) := ((outside_clear i s).trans (hf _)).trans (outside_settle i _)

theorem outside_when (i : Instr) (s : State) (b : Bool) (h : s.Outside i t) : s.Outside i (s.when b t) := by
  cases b with
  | true => exact h
  | false => exact outside_clear i s

theorem outside_onCore (i : Instr) (s : State) (f : Core → Core) : s.Outside i (s.onCore f) :=
  outside_act i s _ fun u => outside_core i u _

theorem outside_onMem (i : Instr) (s : State) {f : Core → Memory → Core × Memory} (hf : KeepsCanonical f) :
    s.Outside i (s.onMem f) := outside_act i s _ fun u => outside_memory i u _ (hf _ _)

/-! ## Writes of objects (R446) -/

theorem outside_newMap (i : Instr) (s : State) (c : Core) : s.Outside i (s.newMap c) := by
  unfold newMap
  split
  · exact outside_core i s c
  · exact outside_memory i s _ fun _ => Memory.wf_loseAll _

theorem outside_writeDefaults (i : Instr) (s : State) (v : Nat) : s.Outside i (s.writeDefaults v).2 := by
  unfold writeDefaults
  split
  · exact outside_core i s s.core
  · split
    · exact outside_core i s s.core
    · exact outside_newMap i s _

theorem outside_admitted (s : State) (w : World) (idx sub : Nat) (bs : List Byte)
    (h : mayProgram i = true ∨ ¬ (idx = 0x5010 ∧ sub = 6)) : s.Outside i (s.admitted w idx sub bs).2 := by
  unfold admitted
  dsimp only
  split
  · exact outside_writeDefaults i s _
  · split
    · exact outside_newMap i s _
    · split
      next hkey =>
        have hi : mayProgram i = true := h.resolve_right fun hne => hne (by simpa using hkey)
        exact ⟨id, fun _ => id, fun hno => absurd (hi.symm.trans hno) (by decide), rfl⟩
      next =>
        split
        · exact outside_memory i s _ fun hm => Core.wf_personalityWrite hm _ _ _
        · exact outside_core i s _

theorem outside_writeObject (s : State) (w : World) (idx sub : Nat) (bs : List Byte) (set : Nat)
    (h : mayProgram i = true ∨ ¬ (idx = 0x5010 ∧ sub = 6)) : s.Outside i (s.writeObject w idx sub bs set).2 := by
  unfold writeObject
  split
  · exact outside_core i s _
  · exact outside_core i s s.core
  · split
    · exact outside_core i s _
    · exact outside_admitted s w idx sub bs h

theorem outside_write (s : State) (w : World) {k : Nat} (bs : List Byte) (set : Nat)
    (h : mayProgram i = true ∨ k ≠ Obj.Fuse.FUSE_PROGRAM) : s.Outside i (s.write w k bs set) := by
  have hk : mayProgram i = true ∨ ¬ (k / 256 = 0x5010 ∧ k % 256 = 6) := h.imp_right fun hne => by
    simp only [Obj.Fuse.FUSE_PROGRAM] at hne
    omega
  exact outside_when i s _ (outside_act i s _ fun u => (outside_writeObject u w _ _ bs set hk).trans (outside_core i _ _))

theorem outside_writeNum (s : State) (w : World) {k : Nat} (v : Nat)
    (h : mayProgram i = true ∨ k ≠ Obj.Fuse.FUSE_PROGRAM) : s.Outside i (s.writeNum w k v) := outside_write s w _ 0 h

theorem outside_writeFlags (s : State) (w : World) (k v set : Nat) (h : mayProgram i = true) :
    s.Outside i (s.writeFlags w k v set) :=
  outside_when i s _ (outside_act i s _ fun u =>
    (outside_writeObject u w _ _ _ _ (Or.inl h)).trans (outside_core i _ _))

/-! ## Messages of LOA (R361 to R378) -/

theorem outside_loaWrite (s : State) (n : Nat) (m : LoaMsg) (h : mayProgram i = true) : s.Outside i (s.loaWrite n m).2 := by
  unfold loaWrite
  dsimp only
  generalize (if s.core.partGoesOn n m = true then s.core else s.core.dropPart n) = c
  split_ifs
  · exact outside_core i s _
  · exact outside_core i s _
  · exact (outside_core i s _).trans (outside_writeObject _ _ _ _ _ _ (Or.inl h))

theorem outside_loaExec (s : State) (p : LoaPath) (n : Nat) (m : LoaMsg) (h : mayProgram i = true) :
    s.Outside i (s.loaExec p n m).2 := by
  unfold loaExec
  dsimp only
  split
  · exact outside_core i s _
  · exact outside_loaWrite s n m h
  all_goals exact outside_core i s _

theorem outside_loaSeq (s : State) (p : LoaPath) (n : Nat) (m : LoaMsg) (h : mayProgram i = true) :
    s.Outside i (s.loaSeq p n m) := by
  unfold loaSeq
  dsimp only
  split
  · exact outside_core i s _
  · split
    · exact outside_core i s _
    · exact ((outside_core i s _).trans (outside_loaExec _ p n m h)).trans (outside_core i _ _)

theorem outside_loaRequest (s : State) (p : LoaPath) (m : LoaMsg) (nh : Nat) (h : mayProgram i = true) :
    s.Outside i (s.loaRequest p m nh) := by
  unfold loaRequest
  dsimp only
  generalize (if s.core.sessionHere p m.session = true then s.core.sessionOf m.session else Session.closed) = x
  split_ifs
  case neg => exact outside_loaSeq s p _ m h
  all_goals exact outside_core i s _

theorem outside_loaMessage (s : State) (p : LoaPath) (bs : List Byte) (nh : Nat) (h : mayProgram i = true) :
    s.Outside i (s.loaMessage p bs nh) := by
  unfold loaMessage
  dsimp only
  split_ifs
  · exact outside_core i s s.core
  · exact outside_core i s _
  · exact outside_core i s s.core
  · exact outside_loaRequest s p _ nh h
  · exact outside_core i s _
  · exact outside_loaRequest s p _ nh h

theorem outside_loaArrival (s : State) (a : LoaArrival) (nh : Nat) (h : mayProgram i = true) :
    s.Outside i (s.loaArrival a nh) := by
  unfold loaArrival
  split
  · split_ifs
    · exact outside_core i s s.core
    · exact outside_core i s _
    · exact outside_loaMessage s _ _ nh h
  · dsimp only
    split
    · exact (outside_core i s _).trans (outside_loaMessage _ _ _ nh h)
    · exact outside_core i s _

theorem outside_loaIn (s : State) (a : LoaArrival) (nh : Nat) (h : mayProgram i = true) : s.Outside i (s.loaIn a nh) :=
  outside_when i s _ (outside_act i s _ fun u => outside_loaArrival u a nh h)

end State

/-! ## The always-on reset -/

namespace State

variable {i : Instr} (h : takesReset i = true)
include h

theorem outside_unlatched (s : State) (c : Core) {m : Memory} (hm : s.mem.wf = true → m.wf = true) :
    s.Outside i { s with core := c, mem := m, latch := false } :=
  ⟨hm, fun hno => absurd (h.symm.trans hno) (by decide), fun _ => rfl, rfl⟩

theorem outside_aoReset (s : State) : s.Outside i s.aoReset := by
  unfold aoReset
  exact outside_unlatched h s _ fun _ => Memory.wf_loseAll _

theorem outside_aoRelease (s : State) : s.Outside i s.aoRelease := by
  unfold aoRelease
  split
  · exact outside_core i s s.core
  · exact outside_unlatched h s _ id

end State

/-! ## Every command -/

/-- A command whose operands are checked ends in its next state where they can arrive. -/
theorem eq_of_formed_next {ok : Bool} {t u : State} (h : formed ok t = .next u) : t = u := by
  cases ok with
  | true => exact Host.Outcome.next.inj h
  | false => cases h

section

open State

theorem outside_of_next {i : Instr} {s t u : State} (h : Host.Outcome.next t = (.next u : Host.Outcome State Fault Refusal))
    (ht : s.Outside i t) : s.Outside i u := Host.Outcome.next.inj h ▸ ht

theorem outside_of_formed {i : Instr} {s t u : State} {ok : Bool} (h : formed ok t = .next u) (ht : s.Outside i t) :
    s.Outside i u := eq_of_formed_next h ▸ ht

/-- What no command but those that name it can do outside the registers and engines. -/
theorem exec_outside {i : Instr} {s t : State} (h : exec i s = .next t) : s.Outside i t := by
  cases i with
  | laneTrainingRestart | laneTrained | txmaskUpdate | writeResponse | readResponse | creditSend | keepaliveLost | monCal
    | monCalDone | monReading | quietWindowClose | injectionEnd | pinReadbackFault | configScan | receiverSelftest |
    jtagTestLogicReset | notifyRetry | sessionIdle | arpRequest | neighborSolicitation | icmpEcho | mgLinkChange |
    mgAddressApply | sailBlockLock | sailLinkDown | sailTrigger | sailEpoch | sailSeq | sailSeqKeepalive | sailRetx |
    timeSyncSend | timeSync | timeDreq | timeDresp | healthHello | healthStatus | healthDualHelm | healthRefused |
    healthPeriod | epochPeriod | epochLatch | snapshotPublish | ptpAnnounce | ptpSync | ptpDelayResp | ppsEdge | holdover
    | safeFlush | offlineHoldExpiry | monitorReadingStale | flushTimeout | blockCommit | frameCloseComplete | jobCellSend
    | pushRespTimeout | jobStallTimeout | checkpointSigned | frameOverrun | leaseQuiet | leaseWake | mcRequestAccept |
    refreshInterval | refLate | mr4Poll | requestPromote | rowIdleClose | powerDownEntry | selfRefreshEntry | alertEvent |
    alertStuck | trackStarved | creditReask | tapStep | dllTrimStep | capture | scrubRow | repair | repairDone |
    sluiceGrant | ledgerCommit | ledgerStepDone | calCommitDue | railExcursion | railRecover | pgDisagree | comparatorTest
    | rampStep | railUp | delayOnExpiry | rampTimeout | descentStep | railOff | delayOffExpiry | descentStuck |
    cascadeTimeout | inputCollapse | marginStep | pmbusPoll | pmbusAlert | firstFailureEnd | heartbeatWrite | decisionPost
    | decideMiss | batonArbitrate | shutdownPhaseEnd | glitch | supervisorBoot | trialExpiry | jtagInstruction | supWdog =>
    exact outside_of_next h (outside_when _ s _ (outside_onCore _ s _))
  | codewordReceive | idleCell | creditCell | writeCell | readRequest | hostResponse | streamSamples | streamDisclosure |
    streamRecordRefused | trigger | selftestDone | readDecode | mr4Result | decoderSelftest =>
    exact outside_of_formed h (outside_when _ s _ (outside_onCore _ s _))
  | sqUpInFall | sqDnInChange | faultEvent | wireFault | sourceIdle =>
    exact outside_of_next h (outside_onCore _ s _)
  | mcPick =>
    exact outside_of_next h (outside_when _ s _ (outside_onMem _ s fun c _ hm => Core.wf_mcPick hm c _ _))
  | selfRefreshExit =>
    exact outside_of_next h (outside_when _ s _ (outside_onMem _ s fun c _ hm => Core.wf_selfRefreshExit hm c _))
  | alertDeassert =>
    exact outside_of_next h (outside_when _ s _ (outside_onMem _ s fun c _ hm => Core.wf_alertDeassert hm c _))
  | fillDone =>
    exact outside_of_next h (outside_when _ s _ (outside_onMem _ s fun c _ hm => Core.wf_fillDone hm c _))
  | trainStepDone =>
    exact outside_of_formed h (outside_when _ s _ (outside_onMem _ s fun c _ hm => Core.wf_trainStep hm c _ _))
  | writeSweepDone =>
    exact outside_of_formed h (outside_when _ s _ (outside_onMem _ s fun c _ hm => Core.wf_writeSweep hm c _ _ _))
  | restoreDone =>
    exact outside_of_formed h (outside_when _ s _ (outside_onMem _ s fun c _ hm => Core.wf_restoreDone hm c _ _ _))
  | sqUpInRise =>
    exact outside_of_next h (outside_onMem _ s fun c _ hm => Core.wf_upInRise hm c)
  | dwellEnd =>
    exact outside_of_next h (outside_when _ s _ (outside_onMem _ s fun c _ hm => Core.wf_dwellEnd hm c))
  | partitionWrite | elasticPeakReset | refreshFlush | addrMapWrite | powerReqOff | powerReqCycle | feRearm | clearAll |
    imgOpen | imgClose | activate | confirm | cpFetch | admitKey | factoryDefaults | epochNow | stateReqService |
    stateReqLeaveService | stateReqSleep | stateReqWake | stateReqExitSafe =>
    exact outside_of_next h (outside_writeNum s _ _ (Or.inr (by decide)))
  | streamEnable | streamDisable | regionDefine | regionFree | windowArm | windowDisarm | windowRelease | contextStart |
    contextStop | contextOpWrite | closeNow | jobStart | jobCancel | jobResume | leaseEnable | leaseDisable | frameMark |
    retrain | recal | eraseMapWrite | marginWrite | faultInject | keyImport | keyErase | scOrderOffline | scOrderHold |
    scOrderOnline | mgAddressWrite | sluiceBudgetWrite =>
    exact outside_of_next h (outside_writeNum s _ _ (Or.inr (by
      simp only [Obj.Context.CLOSE_NOW, Obj.Context.OP, Obj.Context.START, Obj.EccSc.ERASE_MAP, Obj.FtSc.RECAL,
        Obj.Job.CANCEL, Obj.Job.RESUME, Obj.Job.START, Obj.KeySlot.ERASE, Obj.KeySlot.KEY,
        Obj.Lease.ENABLE, Obj.Lease.FRAME_MARK, Obj.Rail.MARGIN, Obj.Region.PERSONALITY,
        Obj.ScOrder.SC_ORDER, Obj.Source.FORCE, Obj.Stream.ENABLE, Obj.Train.RETRAIN, Obj.Window.ARM,
        Obj.Window.RELEASE, Obj.Fuse.FUSE_PROGRAM, ne_eq]; omega)))
  | imgData =>
    exact outside_of_next h (outside_write s _ _ 0 (Or.inr (by decide)))
  | forerunnerWrite =>
    exact outside_of_next h (outside_write s _ _ 0 (Or.inr (by unfold forerunnerKey; split <;> decide)))
  | registerWrite =>
    exact outside_of_next h (outside_write s _ _ 0 (Or.inl rfl))
  | statusFlagClear =>
    exact outside_of_next h (outside_writeFlags s _ _ _ _ rfl)
  | fuseOwnerKey | fuseRevoke | fuseSvnFloor | fuseSecureBoot | fuseJtagPermLock =>
    exact outside_of_next h (outside_writeNum s _ _ (Or.inl rfl))
  | loaRead | loaWrite | loaDescribe | loaAuth | loaClose | loaSubscribe | loaNotifyAck | loaEcho | loaOpen =>
    exact outside_of_formed h (outside_loaIn s _ _ rfl)
  | alwaysOnReset =>
    exact outside_of_next h (outside_act _ s _ fun u => outside_aoReset rfl u)
  | aoResetRelease =>
    exact outside_of_next h (outside_act _ s _ fun u => outside_aoRelease rfl u)

end

/-! ## Operands that can arrive (WellFormed.lean) -/

theorem exists_next_of_formed {ok : Bool} {t : State} (h : ok = true) : ∃ u, formed ok t = .next u := ⟨t, by rw [h]; rfl⟩

theorem formed_refused {ok : Bool} {t : State} (h : ok = false) : formed ok t = .refused .illFormed := by rw [h]; rfl

/-- The operands of a command decide whether it ends in a next state or is refused. -/
theorem exec_of_wf (i : Instr) (s : State) (h : i.wf = true) : ∃ t, exec i s = .next t := by
  cases i with
  | codewordReceive | idleCell | creditCell | writeCell | readRequest | hostResponse | streamSamples | streamDisclosure |
    streamRecordRefused | trigger | readDecode | mr4Result | trainStepDone | writeSweepDone | decoderSelftest | loaRead |
    loaWrite | loaDescribe | loaOpen | loaAuth | loaClose | loaSubscribe | loaNotifyAck | loaEcho | selftestDone |
    restoreDone =>
    exact exists_next_of_formed h
  | _ => exact ⟨_, rfl⟩

theorem exec_of_not_wf (i : Instr) (s : State) (h : i.wf = false) : exec i s = .refused .illFormed := by
  cases i with
  | codewordReceive | idleCell | creditCell | writeCell | readRequest | hostResponse | streamSamples | streamDisclosure |
    streamRecordRefused | trigger | readDecode | mr4Result | trainStepDone | writeSweepDone | decoderSelftest | loaRead |
    loaWrite | loaDescribe | loaOpen | loaAuth | loaClose | loaSubscribe | loaNotifyAck | loaEcho | selftestDone |
    restoreDone =>
    exact formed_refused h
  | _ => cases h

/-! ## The obligations -/

/-- A step on an empty queue touches the clock alone; any other is the command at the front of the queue. -/
theorem step_cases {s t : State} (h : step s = .next t) :
    (s.pending = [] ∧ t = s.idle) ∨ ∃ i rest, s.pending = i :: rest ∧ exec i { s with pending := rest } = .next t := by
  unfold step at h
  split at h
  next hq => exact Or.inl ⟨hq, (Host.Outcome.next.inj h).symm⟩
  next i rest hq => exact Or.inr ⟨i, rest, hq, h⟩

/-- Settles O1: `step` is the dispatch on a queue that is not empty. -/
theorem stepRunsFront : Obligations.StepRunsFront := fun _ _ _ => rfl

/-- Settles O4: every command keeps the canonical form, and the clock leaves DRAM alone. -/
theorem memoryStaysCanonical : Obligations.MemoryStaysCanonical := by
  intro s t hwf hstep
  rcases step_cases hstep with ⟨-, rfl⟩ | ⟨i, rest, -, hexec⟩
  · exact hwf
  · exact (exec_outside hexec).canonical hwf

/-- Settles O5: every command but the two that reset the always-on domain keeps the latch, as does the clock. -/
theorem latchStays : Obligations.LatchStays := by
  intro s t hlatch hstep hfront
  rcases step_cases hstep with ⟨-, rfl⟩ | ⟨i, rest, hq, hexec⟩
  · exact hlatch
  · have hi : takesReset i = false := by
      unfold takesReset
      split
      · exact absurd hq (hfront rest).1
      · exact absurd hq (hfront rest).2
      · rfl
    exact (exec_outside hexec).latch hi hlatch

/-- Settles O6: the queue and the fuses stand outside what a command reaches, but for the fuses under a command that may program
one. -/
theorem commandFrames : Obligations.CommandFrames := by
  intro i s t hexec
  refine ⟨(exec_outside hexec).pending, fun h1 h2 h3 h4 h5 hwrite hflags hloa hopen => (exec_outside hexec).fuses ?_⟩
  unfold mayProgram
  split
  · exact absurd rfl (h1 _ _ _)
  · exact absurd rfl (h2 _ _)
  · exact absurd rfl (h3 _ _)
  · exact absurd rfl (h4 _)
  · exact absurd rfl (h5 _)
  · exact absurd rfl (hwrite _ _ _ _)
  · exact absurd rfl (hflags _ _ _ _ _)
  · exact absurd rfl (hloa _).1
  · exact absurd rfl (hloa _).2.1
  · exact absurd rfl (hloa _).2.2.1
  · exact absurd rfl (hopen _ _)
  · exact absurd rfl (hloa _).2.2.2.1
  · exact absurd rfl (hloa _).2.2.2.2.1
  · exact absurd rfl (hloa _).2.2.2.2.2.1
  · exact absurd rfl (hloa _).2.2.2.2.2.2.1
  · exact absurd rfl (hloa _).2.2.2.2.2.2.2
  · rfl

/-- Settles O7: a command ends in a next state or is refused as its operands can arrive or not. -/
theorem commandsComplete : Obligations.CommandsComplete := ⟨exec_of_wf, exec_of_not_wf⟩

end Sys2Proof.Machine
end

section
/-! PROOFS. The clock (00_scope.md; 15_sail_time_array.md R393; 07_memory_controller.md R185, R191; 02_headrace_links.md R30) and
the state after reset: what a loop over numbered parts does to one of them, what each part of a tick changes, and the obligations
`StepIdle` and `AfterReset` themselves. -/

namespace Sys2Proof.Machine

namespace Core

/-! ## Loops over numbered parts -/

/-- A loop whose steps before `i` keep `P`, whose step `i` makes `Q` of `P`, and whose later steps keep `Q`. -/
theorem each_reaches {P Q : Core → Prop} {n i : Nat} {f : Core → Nat → Core} (hi : i < n)
    (hbefore : ∀ (c : Core) (j : Nat), j < i → P c → P (f c j)) (hat : ∀ c : Core, P c → Q (f c i))
    (hafter : ∀ (c : Core) (j : Nat), i < j → j < n → Q c → Q (f c j)) {c : Core} (hc : P c) : Q (c.each n f) := by
  have hkeeps : ∀ (R : Core → Prop) (l : List Nat), (∀ (c : Core), ∀ j ∈ l, R c → R (f c j)) → ∀ c : Core, R c →
      R (l.foldl f c) := by
    intro R l
    induction l with
    | nil => exact fun _ _ h => h
    | cons j t ih =>
      exact fun hstep c h => ih (fun c k hk => hstep c k (by simp [hk])) _ (hstep c j (by simp) h)
  have hsplit : List.range n = List.range i ++ i :: (List.range (n - i - 1)).map (i + 1 + ·) := by
    obtain ⟨m, rfl⟩ : ∃ m, n = i + (1 + m) := ⟨n - i - 1, by omega⟩
    rw [List.range_add, List.range_add]
    simp [Function.comp_def, Nat.add_assoc]
  unfold each
  rw [hsplit, List.foldl_append, List.foldl_cons]
  refine hkeeps Q _ (fun c j hj => ?_) _ (hat _ (hkeeps P _ (fun c j hj => hbefore c j (List.mem_range.1 hj)) c hc))
  obtain ⟨k, hk, rfl⟩ := List.mem_map.1 hj
  have := List.mem_range.1 hk
  exact hafter c _ (by omega) (by omega)

/-- What a loop does to what only its step `i` changes. -/
theorem each_at {α : Type} (g : Core → α) (h : α → α) {n i : Nat} (f : Core → Nat → Core) (hi : i < n)
    (hne : ∀ (c : Core) (j : Nat), j < n → j ≠ i → g (f c j) = g c) (hat : ∀ c : Core, g (f c i) = h (g c)) (c : Core) :
    g (c.each n f) = h (g c) :=
  each_reaches (P := fun d => g d = g c) (Q := fun d => g d = h (g c)) hi
    (fun d j hj hd => (hne d j (by omega) (by omega)).trans hd) (fun d hd => by rw [hat, hd])
    (fun d j hij hj hd => (hne d j hj (by omega)).trans hd) rfl

/-! ## What the lanes send (R30) -/

/-- A codeword period of a port touches what leaves the hub and the port. -/
theorem sendCodeword_frame (c : Core) (p : Nat) :
    (c.sendCodeword p).objs = c.objs ∧ (c.sendCodeword p).mc = c.mc ∧ (c.sendCodeword p).tick = c.tick ∧
    (c.sendCodeword p).hubTime = c.hubTime := by
  have hemits : ∀ {α : Type} (g : Core → α), (∀ (d : Core) (o : Out), g (d.emit o) = g d) → ∀ (m : Nat → Out) (l : List Nat)
      (d : Core), g (l.foldl (fun e i => e.emit (m i)) d) = g d := by
    intro α g hg m l
    induction l with
    | nil => exact fun _ => rfl
    | cons i t ih => exact fun d => (ih _).trans (hg d _)
  unfold sendCodeword
  dsimp only
  split
  · exact ⟨rfl, rfl, rfl, rfl⟩
  · exact ⟨hemits (·.objs) (fun _ _ => rfl) _ _ c, hemits (·.mc) (fun _ _ => rfl) _ _ c, hemits (·.tick) (fun _ _ => rfl) _ _ c,
      hemits (·.hubTime) (fun _ _ => rfl) _ _ c⟩

/-- Nothing but codewords leaves. -/
def OnlyCodewords (c : Core) : Prop := ∀ o ∈ c.out, ∃ p l m, o = Out.codeword p l m

theorem OnlyCodewords.emit {c : Core} (h : c.OnlyCodewords) (p l : Nat) (m : BitVec 5140) :
    (c.emit (.codeword p l m)).OnlyCodewords := by
  intro o ho
  rw [out_emit, List.mem_append, List.mem_singleton] at ho
  rcases ho with ho | rfl
  · exact h o ho
  · exact ⟨p, l, m, rfl⟩

theorem OnlyCodewords.sendCodeword {c : Core} (h : c.OnlyCodewords) (p : Nat) : (c.sendCodeword p).OnlyCodewords := by
  have hemits : ∀ (m : Nat → BitVec 5140) (l : List Nat) (d : Core), d.OnlyCodewords →
      (l.foldl (fun e i => e.emit (.codeword p i (m i))) d).OnlyCodewords := by
    intro m l
    induction l with
    | nil => exact fun _ hd => hd
    | cons i t ih => exact fun d hd => ih _ (hd.emit p i _)
  unfold Core.sendCodeword
  dsimp only
  split
  · exact h
  · exact hemits _ _ c h

theorem sendCodewords_frame (c : Core) :
    c.sendCodewords.objs = c.objs ∧ c.sendCodewords.mc = c.mc ∧ c.sendCodewords.tick = c.tick ∧
    c.sendCodewords.hubTime = c.hubTime := by
  unfold sendCodewords
  split
  · exact ⟨each_field (·.objs) _ _ (fun c i => (sendCodeword_frame c i).1) c,
      each_field (·.mc) _ _ (fun c i => (sendCodeword_frame c i).2.1) c,
      each_field (·.tick) _ _ (fun c i => (sendCodeword_frame c i).2.2.1) c,
      each_field (·.hubTime) _ _ (fun c i => (sendCodeword_frame c i).2.2.2) c⟩
  · exact ⟨rfl, rfl, rfl, rfl⟩

theorem OnlyCodewords.sendCodewords {c : Core} (h : c.OnlyCodewords) : c.sendCodewords.OnlyCodewords := by
  unfold Core.sendCodewords
  split
  · exact each_induct OnlyCodewords _ _ _ h fun _ i _ hd => hd.sendCodeword i
  · exact h

/-! ## The end of a self-refresh entry (R185, R201) -/

/-- Objects that the end of an entry on one of the subchannels may write. -/
abbrev entryKeeps (k : Nat) : Prop :=
  k ≠ Obj.Tailrace.SR_ENTRIES ∧ ∀ n < 32, k ≠ Obj.Sc.PD_MASK n ∧ k ≠ Obj.Sc.STATE n ∧ k ≠ Obj.Sc.SR_ENTRIES n

/-- Has the window of a subchannel's entry passed? -/
def entryOver (c : Core) (n : Nat) : Bool :=
  (c.mcOf n).srAt ≠ 0 && !(c.mcOf n).stopped && c.get Obj.Phy.ALERT_WINDOW_NS ≤ 2 * (c.tick + 1 - (c.mcOf n).srAt)

theorem finishEntry_of_not {c : Core} {n : Nat} (h : c.entryOver n = false) : c.finishEntry n = c := by
  unfold finishEntry
  exact if_neg (by simpa [entryOver] using h)

theorem finishEntry_of_over {c : Core} {n : Nat} (h : c.entryOver n = true) :
    ((c.finishEntry n).mcOf n).srAt = 0 ∧ (c.finishEntry n).get (Obj.Sc.STATE n) = 2 := by
  unfold finishEntry
  dsimp only
  rw [if_pos (by simpa [entryOver] using h)]
  split
  · simp [inc, inc64, add, get_put]
    omega
  · simp [inc, add, get_put]

theorem finishEntry_frame (c : Core) (n : Nat) :
    (c.finishEntry n).out = c.out ∧ (c.finishEntry n).tick = c.tick ∧ (c.finishEntry n).hubTime = c.hubTime ∧
    ∀ j, j ≠ n → (c.finishEntry n).mcOf j = c.mcOf j := by
  unfold finishEntry
  dsimp only
  split
  · split <;> simp +contextual [inc, inc64, add, mcOf_setMc_ne]
  · exact ⟨rfl, rfl, rfl, fun _ _ => rfl⟩

theorem keeps_finishEntry (c : Core) (n : Nat) : Keeps (fun k => k ≠ Obj.Tailrace.SR_ENTRIES ∧ k ≠ Obj.Sc.PD_MASK n ∧
    k ≠ Obj.Sc.STATE n ∧ k ≠ Obj.Sc.SR_ENTRIES n) c (c.finishEntry n) := by
  rintro k ⟨h1, h2, h3, h4⟩
  unfold finishEntry
  dsimp only
  split
  · split <;> simp only [inc, inc64, add, get_put_ne _ _ h1, get_put_ne _ _ h2, get_put_ne _ _ h3, get_put_ne _ _ h4, get_setMc]
  · rfl

/-! ## The counters of time (R191) -/

/-- One subchannel's count of self-refresh or power-down time in one tick. -/
def countRest (c : Core) (n : Nat) : Core :=
  if c.scState n = 2 then c.add (Obj.Sc.SR_TIME n) 64 2
  else if c.get (Obj.Sc.PD_MASK n) ≠ 0 then c.add (Obj.Sc.PD_TIME n) 64 2
  else c

theorem countRest_frame (c : Core) (n : Nat) :
    (c.countRest n).out = c.out ∧ (c.countRest n).tick = c.tick ∧ (c.countRest n).hubTime = c.hubTime ∧
    (c.countRest n).mc = c.mc := by
  unfold countRest
  split_ifs <;> exact ⟨rfl, rfl, rfl, rfl⟩

theorem keeps_countRest (c : Core) (n : Nat) :
    Keeps (fun k => k ≠ Obj.Sc.SR_TIME n ∧ k ≠ Obj.Sc.PD_TIME n) c (c.countRest n) := by
  unfold countRest
  refine keeps_ite _ (fun _ => keeps_put _ _ _ _ fun h => h.1 rfl) fun _ => ?_
  exact keeps_ite _ (fun _ => keeps_put _ _ _ _ fun h => h.2 rfl) fun _ => Keeps.refl _ c

theorem countRest_srTime {c : Core} {n : Nat} (h : c.scState n = 2) :
    (c.countRest n).get (Obj.Sc.SR_TIME n) = min (c.get (Obj.Sc.SR_TIME n) + 2) (2 ^ 64 - 1) := by
  rw [countRest, if_pos h, get_add_self, sat_eq_min]

/-- One tick of SELF_REFRESH in the loop over the subchannels. -/
theorem each_countRest_srTime {c : Core} {n : Nat} (hn : n < 32) (h : c.scState n = 2) :
    (c.each 32 fun c n => c.countRest n).get (Obj.Sc.SR_TIME n) = min (c.get (Obj.Sc.SR_TIME n) + 2) (2 ^ 64 - 1) := by
  have hloop := each_at (fun d => (d.scState n, d.get (Obj.Sc.SR_TIME n)))
    (fun x => (x.1, if x.1 = 2 then min (x.2 + 2) (2 ^ 64 - 1) else x.2)) (fun c n => c.countRest n) hn
    (fun d j _ hj => by
      simp only [scState, keeps_countRest d j _ (show Obj.Sc.STATE n ≠ _ ∧ _ by simp; omega),
        keeps_countRest d j _ (show Obj.Sc.SR_TIME n ≠ _ ∧ _ by simp; omega)])
    (fun d => by
      have hstate : (d.countRest n).scState n = d.scState n := keeps_countRest d n _ (by simp)
      by_cases hd : d.scState n = 2
      · simp only [hstate, countRest_srTime hd, hd, if_true]
      · have htime : (d.countRest n).get (Obj.Sc.SR_TIME n) = d.get (Obj.Sc.SR_TIME n) := by
          rw [countRest, if_neg hd]
          exact keeps_ite (· = _) (fun _ => keeps_put _ _ _ _ (by simp)) (fun _ => Keeps.refl _ d) _ rfl
        simp only [hstate, htime, hd, if_false]) c
  simp only [h, if_true, Prod.mk.injEq] at hloop
  exact hloop.2

/-! ## One tick -/

/-- The hub at another tick and hub time. -/
def atTime (c : Core) (tick time : Nat) : Core := { c with tick := tick, hubTime := time }

@[simp] theorem get_atTime (c : Core) (tick time k : Nat) : (c.atTime tick time).get k = c.get k := rfl
@[simp] theorem mcOf_atTime (c : Core) (tick time n : Nat) : (c.atTime tick time).mcOf n = c.mcOf n := rfl
@[simp] theorem out_atTime (c : Core) (tick time : Nat) : (c.atTime tick time).out = c.out := rfl
@[simp] theorem throttled_atTime (c : Core) (tick time : Nat) : (c.atTime tick time).throttled = c.throttled := rfl

/-- Hub time after a tick (R22, R393). -/
def timeAfter (c : Core) : Nat :=
  if c.timeRuns then ((c.hubTime + 2 ^ 33 : Int) + c.getInt Obj.Time.TRIM).toNat % 2 ^ 96 else c.hubTime

/-- The tick and hub time advance, before anything counts or leaves. -/
def ticked (c : Core) : Core := c.atTime (c.tick + 1) c.timeAfter

@[simp] theorem get_ticked (c : Core) (k : Nat) : c.ticked.get k = c.get k := get_atTime c _ _ k
@[simp] theorem mcOf_ticked (c : Core) (n : Nat) : c.ticked.mcOf n = c.mcOf n := mcOf_atTime c _ _ n
@[simp] theorem out_ticked (c : Core) : c.ticked.out = c.out := out_atTime c _ _
@[simp] theorem throttled_ticked (c : Core) : c.ticked.throttled = c.throttled := throttled_atTime c _ _
@[simp] theorem tick_ticked (c : Core) : c.ticked.tick = c.tick + 1 := rfl
@[simp] theorem hubTime_ticked (c : Core) : c.ticked.hubTime = c.timeAfter := rfl

/-- The count of throttled time (R98). -/
def countThrottle (c : Core) : Core := if c.throttled then c.add Obj.Millpond.THROTTLE_TIME 64 2 else c

@[simp] theorem out_countThrottle (c : Core) : c.countThrottle.out = c.out := by unfold countThrottle; split <;> simp [add]
@[simp] theorem mc_countThrottle (c : Core) : c.countThrottle.mc = c.mc := by unfold countThrottle; split <;> simp [add]
@[simp] theorem tick_countThrottle (c : Core) : c.countThrottle.tick = c.tick := by unfold countThrottle; split <;> simp [add]
@[simp] theorem hubTime_countThrottle (c : Core) : c.countThrottle.hubTime = c.hubTime := by
  unfold countThrottle; split <;> simp [add]

/-- The hub once throttled time has counted and the lanes have sent. -/
def sent (c : Core) : Core := c.countThrottle.sendCodewords

theorem clock_eq (c : Core) : c.clock = (c.ticked.sent.each 32 fun c n => c.finishEntry n).each 32 fun c n => c.countRest n := rfl

theorem sent_frame (c : Core) : c.sent.mc = c.mc ∧ c.sent.tick = c.tick ∧ c.sent.hubTime = c.hubTime := by
  obtain ⟨-, hmc, htick, htime⟩ := sendCodewords_frame c.countThrottle
  exact ⟨hmc.trans (by simp), htick.trans (by simp), htime.trans (by simp)⟩

theorem keeps_sent (c : Core) : Keeps (fun k => k ≠ Obj.Millpond.THROTTLE_TIME) c c.sent := by
  refine Keeps.trans ?_ (keeps_of_objs _ (sendCodewords_frame c.countThrottle).1)
  unfold countThrottle
  exact keeps_ite _ (fun _ => keeps_put _ _ _ _ fun h => h rfl) fun _ => Keeps.refl _ c

theorem sent_throttleTime {c : Core} (h : c.throttled = true) :
    c.sent.get Obj.Millpond.THROTTLE_TIME = min (c.get Obj.Millpond.THROTTLE_TIME + 2) (2 ^ 64 - 1) := by
  rw [sent, keeps_of_objs (fun _ => True) (sendCodewords_frame c.countThrottle).1 _ trivial, countThrottle, if_pos h, get_add_self,
    sat_eq_min]

/-- Only codewords leave, and none where no codeword period begins. -/
theorem onlyCodewords_sent {c : Core} (h : c.out = []) : c.sent.OnlyCodewords :=
  OnlyCodewords.sendCodewords fun o ho => by
    rw [out_countThrottle, h] at ho
    cases ho

theorem out_sent_of_samePeriod {c : Core} (h : codewordPeriods c.tick ≤ codewordPeriods (c.tick - 1)) : c.sent.out = c.out := by
  rw [sent, sendCodewords, if_neg (by rw [tick_countThrottle]; omega), out_countThrottle]

/-- The loops over the subchannels keep what leaves, the tick and hub time. -/
theorem clock_loops {α : Type} (g : Core → α) (hf : ∀ (c : Core) (n : Nat), g (c.finishEntry n) = g c)
    (hr : ∀ (c : Core) (n : Nat), g (c.countRest n) = g c) (c : Core) : g c.clock = g c.ticked.sent := by
  rw [clock_eq, each_field g _ _ hr, each_field g _ _ hf]

theorem clock_tick (c : Core) : c.clock.tick = c.tick + 1 := by
  rw [clock_loops (·.tick) (fun c n => (finishEntry_frame c n).2.1) fun c n => (countRest_frame c n).2.1, (sent_frame _).2.1,
    tick_ticked]

theorem clock_hubTime (c : Core) : c.clock.hubTime = c.timeAfter := by
  rw [clock_loops (·.hubTime) (fun c n => (finishEntry_frame c n).2.2.1) fun c n => (countRest_frame c n).2.2.1,
    (sent_frame _).2.2, hubTime_ticked]

theorem clock_out (c : Core) : c.clock.out = c.ticked.sent.out :=
  clock_loops (·.out) (fun c n => (finishEntry_frame c n).1) (fun c n => (countRest_frame c n).1) c

/-- An object that neither loop writes. -/
theorem clock_get {c : Core} {k : Nat} (hk : k ≠ Obj.Tailrace.SR_ENTRIES)
    (hsc : ∀ n < 32, k ≠ Obj.Sc.SR_TIME n ∧ k ≠ Obj.Sc.PD_TIME n ∧ k ≠ Obj.Sc.PD_MASK n ∧ k ≠ Obj.Sc.STATE n ∧
      k ≠ Obj.Sc.SR_ENTRIES n) : c.clock.get k = c.ticked.sent.get k := by
  rw [clock_eq]
  have hentry := keeps_each (· = k) 32 (fun c n => c.finishEntry n) (fun c n hn j hj => by
    obtain ⟨-, -, hmask, hstate, hentries⟩ := hsc n hn
    exact keeps_finishEntry c n j (hj ▸ ⟨hk, hmask, hstate, hentries⟩)) c.ticked.sent
  have hcount := keeps_each (· = k) 32 (fun c n => c.countRest n) (fun c n hn j hj => by
    obtain ⟨htime, hpd, -⟩ := hsc n hn
    exact keeps_countRest c n j (hj ▸ ⟨htime, hpd⟩)) (c.ticked.sent.each 32 fun c n => c.finishEntry n)
  exact (hcount k rfl).trans (hentry k rfl)

/-- A subchannel in SELF_REFRESH stays in it and counts its time. -/
theorem clock_srTime {c : Core} {n : Nat} (hn : n < 32) (h : c.scState n = 2) :
    c.clock.get (Obj.Sc.SR_TIME n) = min (c.get (Obj.Sc.SR_TIME n) + 2) (2 ^ 64 - 1) := by
  have hsent : c.ticked.sent.scState n = 2 := by
    rw [scState, keeps_sent _ _ (by simp; omega), get_ticked]
    exact h
  have hrests : (c.ticked.sent.each 32 fun c n => c.finishEntry n).scState n = 2 := by
    refine each_induct (fun d => d.scState n = 2) _ _ _ hsent fun d i _ hd => ?_
    by_cases hi : i = n
    · subst hi
      cases hover : d.entryOver i with
      | true => exact (finishEntry_of_over hover).2
      | false => rw [finishEntry_of_not hover]; exact hd
    · rw [scState, keeps_finishEntry d i _ (by simp; omega)]
      exact hd
  have htime : (c.ticked.sent.each 32 fun c n => c.finishEntry n).get (Obj.Sc.SR_TIME n) = c.get (Obj.Sc.SR_TIME n) := by
    rw [keeps_each (· = Obj.Sc.SR_TIME n) 32 _ (fun d i _ j hj => keeps_finishEntry d i j (hj ▸ (by simp; omega))) _ _ rfl,
      keeps_sent _ _ (by simp; omega), get_ticked]
  rw [clock_eq, ← htime]
  exact each_countRest_srTime hn hrests

/-- The end of an entry whose window has passed stands after the tick. -/
theorem clock_entryOver {c : Core} {n : Nat} (hn : n < 32) (h : c.ticked.entryOver n = true) :
    c.clock.get (Obj.Sc.STATE n) = 2 ∧ (c.clock.mcOf n).srAt = 0 := by
  have hsent : c.ticked.sent.entryOver n = true := by
    have hmc : c.ticked.sent.mcOf n = c.ticked.mcOf n := by unfold mcOf; rw [(sent_frame _).1]
    rw [entryOver, hmc, keeps_sent _ _ (by decide), (sent_frame _).2.1]
    exact h
  have hfinished : (fun d : Core => d.get (Obj.Sc.STATE n) = 2 ∧ (d.mcOf n).srAt = 0)
      (c.ticked.sent.each 32 fun c n => c.finishEntry n) := by
    refine each_reaches (P := fun d => d.entryOver n = true) (Q := fun d => d.get (Obj.Sc.STATE n) = 2 ∧ (d.mcOf n).srAt = 0) hn (fun d j hj hd => ?_)
      (fun d hd => (finishEntry_of_over hd).symm) (fun d j hj _ hd => ?_) hsent
    · have hmc := (finishEntry_frame d j).2.2.2 n (by omega)
      rw [entryOver, hmc, keeps_finishEntry d j _ (by simp; omega), (finishEntry_frame d j).2.1]
      exact hd
    · have hmc := (finishEntry_frame d j).2.2.2 n (by omega)
      rw [hmc, keeps_finishEntry d j _ (by simp; omega)]
      exact hd
  rw [clock_eq]
  refine each_induct (fun d : Core => d.get (Obj.Sc.STATE n) = 2 ∧ (d.mcOf n).srAt = 0) _ _ _ hfinished fun d i _ hd => ?_
  have hmc : (d.countRest i).mcOf n = d.mcOf n := by unfold mcOf; rw [(countRest_frame d i).2.2.2]
  rw [hmc, keeps_countRest d i _ (by simp; omega)]
  exact hd

end Core

/-! ## The obligations -/

/-- Settles O2: a tick is `Core.clock`, whose loops over the subchannels touch the objects of rest alone. -/
theorem stepIdle : Obligations.StepIdle := by
  intro s hq
  have hstep : step s = .next s.idle := by
    unfold step
    split
    next => rfl
    next hcons => rw [hq] at hcons; cases hcons
  refine ⟨s.clear.core.clock, hstep, Core.clock_tick _, ?_, ?_, fun hruns => ?_, fun hstops => ?_, fun hthr => ?_,
    fun n hn hrest => Core.clock_srTime hn hrest, fun n hn hat hgo hwin => ?_, fun k hthr hentries hsc => ?_⟩
  · rw [Core.clock_out]
    exact Core.onlyCodewords_sent (Core.out_ticked _)
  · intro hperiod
    rw [Core.clock_out, Core.out_sent_of_samePeriod (Nat.le_of_eq hperiod), Core.out_ticked]
    rfl
  · rw [Core.clock_hubTime, Core.timeAfter, if_pos (by exact hruns)]
    rfl
  · rw [Core.clock_hubTime, Core.timeAfter, if_neg (by exact fun h => absurd (hstops.symm.trans h) (by decide))]
    rfl
  · rw [Core.clock_get (by decide) (fun n _ => by simp; omega), Core.sent_throttleTime (by exact hthr), Core.get_ticked]
    rfl
  · have htick : s.clear.core.tick = s.core.tick := rfl
    refine Core.clock_entryOver hn ?_
    simp only [Core.entryOver, Core.mcOf_ticked, State.clear_mcOf, Core.get_ticked, State.clear_get, Core.tick_ticked, htick,
      hgo, Bool.not_false, Bool.and_true, Bool.and_eq_true, decide_eq_true_eq]
    exact ⟨hat, by omega⟩
  · rw [Core.clock_get hentries hsc, Core.keeps_sent _ k hthr, Core.get_ticked]
    rfl

/-- Settles O3: each value after reset, as the model's initial state gives it. -/
theorem afterReset : Obligations.AfterReset := by
  have hget : ∀ k, State.reset.core.get k = defaultOf k := fun _ => rfl
  refine ⟨?_, ?_, rfl, hget, ?_, rfl, rfl, Memory.wf_init, ?_, ?_, ?_⟩
  all_goals exact (hget _).trans (by decide +kernel)

end Sys2Proof.Machine
end

section
/-! PROOFS. The order of the checks of a write (14_object_dictionary.md R446, 13_security_worlds.md R360): what each check
answers where those before it pass, and the obligation `WriteOrder`. -/

namespace Sys2Proof.Machine

namespace Core

variable {c : Core} {w : World} {idx sub : Nat} {bs : List Byte} {r : Row}

/-- While both halves are in RECOVERY the boot ROM turns away every object it does not serve. -/
theorem writeRefusal_of_notServed (hrec : c.allRecovery = true) (hrom : romServes idx = false) :
    c.writeRefusal w idx sub bs = some .retry := by
  simp [writeRefusal, hrec, hrom]

theorem writeRefusal_of_noRow (hrec : c.allRecovery = false) (hrow : lookup idx sub = none) :
    c.writeRefusal w idx sub bs = some .malformed := by
  simp [writeRefusal, hrec, hrow]

section
variable (hrec : c.allRecovery = false) (hrow : lookup idx sub = some r)
  (hworld : ¬ (r.world = .secureWorld ∧ w = .openWorld))
include hrec hrow hworld

theorem writeRefusal_of_unwritable (h : r.acc = .const ∨ r.acc = .ro ∨ r.wellFormed idx sub bs = false) :
    c.writeRefusal w idx sub bs = some .malformed := by
  rcases h with h | h | h <;> simp [writeRefusal, hrec, hrow, hworld, h]

theorem writeRefusal_of_held (hconst : r.acc ≠ .const) (hro : r.acc ≠ .ro) (hform : r.wellFormed idx sub bs = true)
    (hheld : c.writeHeld r.acc idx sub (ofBytes bs) = true) : c.writeRefusal w idx sub bs = some .retry := by
  simp [writeRefusal, hrec, hrow, hworld, hconst, hro, hform, hheld]

end

end Core

/-- Settles O8: each check answers where those before it pass, and a refusal changes nothing but what leaves the hub. -/
theorem writeOrder : Obligations.WriteOrder := by
  refine ⟨fun s w idx sub bs hserved hrec hrow => ?_, fun s w idx sub bs r hserved hrec hrow hworld hbad => ?_,
    fun s w idx sub bs r hserved hrec hrow hworld hconst hro hform hheld => ?_,
    fun s w idx sub bs hserved hrec hrom => ?_⟩
  · exact exec_registerWrite_refused hserved (Core.writeRefusal_of_noRow hrec hrow) (by decide)
  · exact exec_registerWrite_refused hserved (Core.writeRefusal_of_unwritable hrec hrow hworld hbad) (by decide)
  · exact exec_registerWrite_refused hserved (Core.writeRefusal_of_held hrec hrow hworld hconst hro hform hheld) (by decide)
  · exact exec_registerWrite_refused hserved (Core.writeRefusal_of_notServed hrec hrom) (by decide)

end Sys2Proof.Machine
end

section
/-! PROOFS. Rules that the families share: the count of an event raised after other effects of a command (12_fault_collection.md
R308). -/

namespace Sys2Proof.Machine

namespace Core

variable {c d e : Core} {src : Nat}

/-- Whether the collector hears a source is read from its own state alone. -/
theorem Hears.congr (h : c.Hears src) (hfc : d.fc = c.fc) : d.Hears src := by
  unfold Hears injected pairOf
  rw [hfc]
  exact h

/-- A command raises a source after effects that leave the collector's state and the source's COUNT. -/
theorem raises_of_raise (x : FaultCtx) (hs : (sourceInfo? src).isNone = false) (hfc : d.fc = c.fc)
    (hcount : d.get (Obj.Source.COUNT src) = c.get (Obj.Source.COUNT src)) : c.Raises src (d.raise src x) := fun hears => by
  rw [raises_raise d src x hs (hears.congr hfc), hcount]

/-- What follows the event leaves its count. -/
theorem Raises.of_get (h : c.Raises src d) (hcount : e.get (Obj.Source.COUNT src) = d.get (Obj.Source.COUNT src)) :
    c.Raises src e := fun hears => by rw [hcount, h hears]

/-- The same for a condition that stands. -/
theorem raises_of_raiseStanding (x : FaultCtx) (hs : (sourceInfo? src).isNone = false)
    (hfc : d.fc = c.fc) (hcount : d.get (Obj.Source.COUNT src) = c.get (Obj.Source.COUNT src)) :
    c.Raises src (d.raiseStanding src x) := by
  refine (raises_of_raise x hs hfc hcount).of_get ?_
  have hpair : ∀ v, ((d.raise src x).setPair src v).get (Obj.Source.COUNT src) = (d.raise src x).get (Obj.Source.COUNT src) :=
    fun v => by rw [setPair, putBit, get_put_ne _ _ (by simp), get_withFc]
  unfold raiseStanding
  rw [if_neg (by rw [hs]; decide)]
  dsimp only
  split_ifs
  · exact get_withFc _ _ _
  · exact hpair 1
  · rfl
  · exact get_withFc _ _ _

/-! ## Events of other sources -/

theorem event_count_ne (c : Core) {s t : Nat} (m : Marks) (x : FaultCtx) (h : t ≠ s) :
    (c.event s m x).get (Obj.Source.COUNT t) = c.get (Obj.Source.COUNT t) := by
  have hcount : (c.countEvent s (c.eventSev s) m).get (Obj.Source.COUNT t) = c.get (Obj.Source.COUNT t) := by
    rw [keeps_countEvent_sourceUp c s _ m _ (sourceUp_count t), get_put_ne _ _ (by simp; omega),
      get_inc_ne _ (by simpa using h), get_put_ne _ _ (by simp; omega)]
  unfold event
  dsimp only
  split
  · rw [get_withFc, inc64, get_add_ne _ _ _ (by simp; omega), get_inc_ne _ (by simp; omega)]
  · rw [keeps_pins_sourceUp _ _ (sourceUp_count t)]
    refine (keeps_ite sourceUp (fun _ => ?_) (fun _ => Keeps.refl _ _) _ (sourceUp_count t)).trans hcount
    refine Keeps.trans ?_ (keeps_act_sourceUp _ _ _ _)
    refine Keeps.trans ?_ (keeps_capture_sourceUp _ _ _ _)
    refine Keeps.trans ?_ (keeps_put _ _ _ _ (by decide))
    exact Keeps.trans (keeps_of_objs _ rfl) (keeps_put _ _ _ _ (not_sourceUp_logKey _))

theorem raise_count_ne (c : Core) {s t : Nat} (x : FaultCtx) (h : t ≠ s) :
    (c.raise s x).get (Obj.Source.COUNT t) = c.get (Obj.Source.COUNT t) := by
  unfold raise
  split_ifs
  · rfl
  · exact get_withFc _ _ _
  · rfl
  · exact get_withFc _ _ _
  · rfl
  · exact event_count_ne c _ x h

theorem setPair_count (c : Core) (s t v : Nat) : (c.setPair s v).get (Obj.Source.COUNT t) = c.get (Obj.Source.COUNT t) := by
  rw [setPair, putBit, get_put_ne _ _ (by simp; omega), get_withFc]

theorem raiseStanding_count_ne (c : Core) {s t : Nat} (x : FaultCtx) (h : t ≠ s) :
    (c.raiseStanding s x).get (Obj.Source.COUNT t) = c.get (Obj.Source.COUNT t) := by
  rw [← raise_count_ne c x h]
  unfold raiseStanding
  dsimp only
  split_ifs with hnone
  · rw [raise, if_pos hnone]
  · exact get_withFc _ _ _
  · exact setPair_count _ _ _ _
  · rfl
  · exact get_withFc _ _ _

/-! ## What has been sent stays sent -/

/-- What left the hub up to `c` has left it in `d`. -/
def SentIn (c d : Core) : Prop := ∀ o ∈ c.out, o ∈ d.out

theorem SentIn.refl (c : Core) : c.SentIn c := fun _ h => h
theorem SentIn.trans (h : c.SentIn d) (h' : d.SentIn e) : c.SentIn e := fun o ho => h' o (h o ho)
theorem sentIn_of_out (h : d.out = c.out) : c.SentIn d := fun _ ho => h ▸ ho
theorem sentIn_emit (c : Core) (o : Out) : c.SentIn (c.emit o) := fun _ ho => by rw [out_emit]; exact List.mem_append_left _ ho

theorem sentIn_put (c : Core) (k v : Nat) : c.SentIn (c.put k v) := sentIn_of_out (out_put _ _ _)
theorem sentIn_flag (c : Core) (k n : Nat) : c.SentIn (c.flag k n) := sentIn_put c k _

theorem sentIn_ite {b : Prop} [Decidable b] {x y : Core} (hx : c.SentIn x) (hy : c.SentIn y) : c.SentIn (if b then x else y) := by
  split
  · exact hx
  · exact hy

theorem sentIn_each (n : Nat) (f : Core → Nat → Core) (hf : ∀ (d : Core) (i : Nat), d.SentIn (f d i)) (c : Core) :
    c.SentIn (c.each n f) :=
  each_induct (fun d => c.SentIn d) n f c (SentIn.refl c) fun d i _ h => h.trans (hf d i)

theorem sentIn_pins (c : Core) : c.SentIn c.pins := by
  unfold pins
  refine SentIn.trans ?_ (sentIn_of_out (out_put _ _ _))
  refine SentIn.trans (d := if c.errLevel = c.fc.errN then c
    else (c.withFc { c.fc with errN := c.errLevel }).emit (.pin .errN c.errLevel)) ?_ ?_
  · exact sentIn_ite (SentIn.refl c) ((sentIn_of_out rfl).trans (sentIn_emit _ _))
  · exact sentIn_ite (SentIn.refl _) ((sentIn_of_out rfl).trans (sentIn_emit _ _))

theorem sentIn_act (c : Core) (s a r : Nat) : c.SentIn (c.act s a r) := by
  unfold act
  refine SentIn.trans (d := if 2 ≤ a then (c.emit .interrupt).ask (.notify c.fc.seq) else c)
    (sentIn_ite ((sentIn_emit _ _).trans (sentIn_of_out rfl)) (SentIn.refl c)) ?_
  generalize (if 2 ≤ a then (c.emit .interrupt).ask (.notify c.fc.seq) else c) = c1
  refine SentIn.trans (d := if 3 ≤ a then
      match (sourceInfo s).reaction with
      | 4 => (c1.openWindow 4 (sourceIndex s) c.fc.seq).ask (.scOffline (sourceIndex s) s)
      | 5 => (c1.openWindow 5 (sourceIndex s) c.fc.seq).ask (.halfOffline (sourceIndex s) s)
      | _ => c1
    else c1) (sentIn_ite ?_ (SentIn.refl c1)) ?_
  · split <;> exact sentIn_of_out rfl
  · exact sentIn_ite (((sentIn_put _ Obj.Fc.LOCKOUT_SOURCE s).trans (sentIn_put _ Obj.Fc.LAST_LOCKOUT r)).trans
      (sentIn_of_out rfl)) (sentIn_ite ((sentIn_flag _ Obj.Fc.FLAGS 1).trans (sentIn_of_out rfl)) (SentIn.refl _))

theorem sentIn_capture (c : Core) (r sev : Nat) (m : Marks) : c.SentIn (c.capture r sev m) := by
  unfold capture
  refine sentIn_ite (SentIn.refl c) (sentIn_ite (sentIn_of_out (by simp [flag])) ?_)
  exact SentIn.trans (d := c.inc Obj.Fc.FE_LATER) (sentIn_of_out (by simp [inc, add]))
    (sentIn_ite (sentIn_of_out (by simp [flag])) (SentIn.refl _))

theorem sentIn_countEvent (c : Core) (s sev : Nat) (m : Marks) : c.SentIn (c.countEvent s sev m) := by
  refine sentIn_of_out ?_
  unfold countEvent
  dsimp only
  split_ifs <;> simp [inc, inc64, add, flag]

theorem sentIn_event (c : Core) (s : Nat) (m : Marks) (x : FaultCtx) : c.SentIn (c.event s m x) := by
  unfold event
  refine sentIn_ite (sentIn_of_out ?_) (SentIn.trans ?_ (sentIn_pins _))
  · simp [inc, inc64, add]
  · refine (sentIn_countEvent c s _ m).trans (sentIn_ite ?_ (SentIn.refl _))
    exact SentIn.trans (sentIn_of_out (by simp)) ((sentIn_capture _ _ _ _).trans (sentIn_act _ _ _ _))

theorem sentIn_raise (c : Core) (s : Nat) (x : FaultCtx) : c.SentIn (c.raise s x) := by
  unfold raise
  exact sentIn_ite (SentIn.refl c) (sentIn_ite (sentIn_of_out rfl) (sentIn_ite
    (sentIn_ite (SentIn.refl c) (sentIn_of_out rfl)) (sentIn_ite (SentIn.refl c) (sentIn_event c s _ x))))

theorem sentIn_setPair (c : Core) (s v : Nat) : c.SentIn (c.setPair s v) := sentIn_of_out (by simp [setPair, putBit])

theorem sentIn_raiseStanding (c : Core) (s : Nat) (x : FaultCtx) : c.SentIn (c.raiseStanding s x) := by
  unfold raiseStanding
  refine sentIn_ite (SentIn.refl c) ((sentIn_raise c s x).trans ?_)
  exact sentIn_ite (sentIn_of_out rfl) (sentIn_ite (sentIn_ite (sentIn_setPair _ _ _) (SentIn.refl _)) (sentIn_of_out rfl))

theorem sentIn_endStanding (c : Core) (s : Nat) : c.SentIn (c.endStanding s) := by
  unfold endStanding
  exact sentIn_ite (sentIn_of_out rfl) (sentIn_ite (SentIn.refl c) (sentIn_setPair c s 0))

end Core

end Sys2Proof.Machine
end

section
/-! PROOFS. The way up (11_power_sequencing.md R280 to R282, R286, R288 to R290, R295): what a ramp step, the rise of its rail
and the end of DELAY_ON do, the entry of UP, how RAMP and a cascade fail, and the obligations `RampSteps`, `RampEndsInUp` and
`RampFailures`. -/

namespace Sys2Proof.Machine

namespace Core

/-! ## PMBus transactions (R295) -/

@[simp] theorem get_pmbus (c : Core) (rc code k : Nat) (v : Option Nat) : (c.pmbus rc code v).get k = c.get k := by
  unfold pmbus; split <;> simp

@[simp] theorem seq_pmbus (c : Core) (rc code : Nat) (v : Option Nat) : (c.pmbus rc code v).seq = c.seq := by
  unfold pmbus; split <;> simp

@[simp] theorem fc_pmbus (c : Core) (rc code : Nat) (v : Option Nat) : (c.pmbus rc code v).fc = c.fc := by
  unfold pmbus; split <;> simp

@[simp] theorem req_pmbus (c : Core) (rc code : Nat) (v : Option Nat) : (c.pmbus rc code v).req = c.req := by
  unfold pmbus; split <;> simp

theorem out_pmbus (c : Core) (rc code : Nat) (v : Option Nat) : (c.pmbus rc code v).out = c.out ++
    if c.get (Obj.Rail.PMB_ADDR rc) = 0 then [] else [.pmbus rc 0 (some (c.get (Obj.Rail.PMB_PAGE rc))), .pmbus rc code v] := by
  unfold pmbus; split <;> simp

/-! ## RAMP_STEP (R280 step 1) -/

/-- A rail's enable is driven and the rail is RISING. -/
def enableRail (c : Core) (rc : Nat) (rest : List Nat) : Core :=
  let c1 := ((c.put (Obj.Rail.STATE rc) 1).add Obj.Seq.RAMP_STEP 8 1).emit (.pin (.railEn rc) true)
  c1.withSeq { c1.seq with phase := .rising rc, todo := rest }

/-- The step before what it raises: the enable, the flag of a rail that is not down, and CLEAR_FAULTS and VOUT_MODE. -/
def rampStepped (c : Core) (rc : Nat) (rest : List Nat) (code : Nat) : Core :=
  let c2 := c.enableRail rc rest
  let c3 := if (c.rowOf rc).off ≤ code then c2.flag (Obj.Rail.FLAGS rc) 9 else c2
  (c3.pmbus rc 0x03 (some 0)).pmbus rc 0x20 none

section
variable {c : Core} {rc code : Nat} {rest : List Nat}

theorem get_enableRail_of_ne {k : Nat} (h1 : k ≠ Obj.Rail.STATE rc) (h2 : k ≠ Obj.Seq.RAMP_STEP) :
    (c.enableRail rc rest).get k = c.get k := by
  simp [enableRail, get_put_ne _ _ h1, get_add_ne _ _ _ h2]

@[simp] theorem get_enableRail_state : (c.enableRail rc rest).get (Obj.Rail.STATE rc) = 1 := by
  have h : Obj.Rail.STATE rc ≠ Obj.Seq.RAMP_STEP := by simp; omega
  simp [enableRail, get_add_ne _ _ _ h]

@[simp] theorem get_enableRail_step :
    (c.enableRail rc rest).get Obj.Seq.RAMP_STEP = min (c.get Obj.Seq.RAMP_STEP + 1) 255 := by
  have h : Obj.Seq.RAMP_STEP ≠ Obj.Rail.STATE rc := by simp; omega
  simp [enableRail, get_add_self, get_put_ne _ _ h, sat_eq_min]

@[simp] theorem seq_enableRail : (c.enableRail rc rest).seq = { c.seq with phase := .rising rc, todo := rest } := by
  simp [enableRail, add]

@[simp] theorem out_enableRail : (c.enableRail rc rest).out = c.out ++ [.pin (.railEn rc) true] := by simp [enableRail, add]

@[simp] theorem fc_enableRail : (c.enableRail rc rest).fc = c.fc := by simp [enableRail, add]

@[simp] theorem req_enableRail : (c.enableRail rc rest).req = c.req := by simp [enableRail, add]

@[simp] theorem rowOf_enableRail (r : Nat) : (c.enableRail rc rest).rowOf r = c.rowOf r := by simp [rowOf]

theorem get_rampStepped_of_ne {k : Nat} (h1 : k ≠ Obj.Rail.STATE rc) (h2 : k ≠ Obj.Seq.RAMP_STEP)
    (h3 : k ≠ Obj.Rail.FLAGS rc) : (c.rampStepped rc rest code).get k = c.get k := by
  simp only [rampStepped, get_pmbus]
  split_ifs
  · rw [get_flag_ne _ _ h3, get_enableRail_of_ne h1 h2]
  · rw [get_enableRail_of_ne h1 h2]

theorem get_rampStepped_of_ne_flags {k : Nat} (h3 : k ≠ Obj.Rail.FLAGS rc) :
    (c.rampStepped rc rest code).get k = (c.enableRail rc rest).get k := by
  simp only [rampStepped, get_pmbus]
  split_ifs
  · rw [get_flag_ne _ _ h3]
  · rfl

theorem get_rampStepped_state : (c.rampStepped rc rest code).get (Obj.Rail.STATE rc) = 1 := by
  rw [get_rampStepped_of_ne_flags (by simp), get_enableRail_state]

theorem get_rampStepped_step :
    (c.rampStepped rc rest code).get Obj.Seq.RAMP_STEP = min (c.get Obj.Seq.RAMP_STEP + 1) 255 := by
  rw [get_rampStepped_of_ne_flags (by simp; omega), get_enableRail_step]

theorem bitOf_rampStepped : (c.rampStepped rc rest code).bitOf (Obj.Rail.FLAGS rc) 9 =
    (decide ((c.rowOf rc).off ≤ code) || c.bitOf (Obj.Rail.FLAGS rc) 9) := by
  have hflags : (c.enableRail rc rest).get (Obj.Rail.FLAGS rc) = c.get (Obj.Rail.FLAGS rc) :=
    get_enableRail_of_ne (by simp) (by simp; omega)
  simp only [rampStepped, bitOf, get_pmbus]
  split_ifs with hoff
  · simp [get_flag_self, testBit_setBitTo_self, hoff]
  · simp [hflags, hoff]

theorem seq_rampStepped : (c.rampStepped rc rest code).seq = { c.seq with phase := .rising rc, todo := rest } := by
  simp only [rampStepped, seq_pmbus]
  split_ifs <;> simp [flag]

theorem fc_rampStepped : (c.rampStepped rc rest code).fc = c.fc := by
  simp only [rampStepped, fc_pmbus]
  split_ifs <;> simp [flag]

theorem req_rampStepped : (c.rampStepped rc rest code).req = c.req := by
  simp only [rampStepped, req_pmbus]
  split_ifs <;> simp [flag]

theorem out_rampStepped : (c.rampStepped rc rest code).out = c.out ++ .pin (.railEn rc) true ::
    (if c.get (Obj.Rail.PMB_ADDR rc) = 0 then []
      else [.pmbus rc 0 (some (c.get (Obj.Rail.PMB_PAGE rc))), .pmbus rc 0x03 (some 0),
            .pmbus rc 0 (some (c.get (Obj.Rail.PMB_PAGE rc))), .pmbus rc 0x20 none]) := by
  have hkept : ∀ k, k = Obj.Rail.PMB_ADDR rc ∨ k = Obj.Rail.PMB_PAGE rc →
      k ≠ Obj.Rail.STATE rc ∧ k ≠ Obj.Seq.RAMP_STEP ∧ k ≠ Obj.Rail.FLAGS rc := by
    rintro k (rfl | rfl) <;> simp <;> omega
  obtain ⟨ha, hb, hc⟩ := hkept _ (.inl rfl)
  obtain ⟨hd, he, hf⟩ := hkept _ (.inr rfl)
  by_cases hoff : (c.rowOf rc).off ≤ code <;> by_cases haddr : c.get (Obj.Rail.PMB_ADDR rc) = 0 <;>
    simp [rampStepped, hoff, haddr, out_pmbus, flag, get_put_ne _ _ hc, get_put_ne _ _ hf, get_enableRail_of_ne ha hb,
      get_enableRail_of_ne hd he]

theorem rampStep_eq (linear : Bool) (hphase : c.seq.phase = .rampReady) (htodo : c.seq.todo = rc :: rest) :
    c.rampStep code linear = (c.rampStepped rc rest code).raiseIf (!linear && c.get (Obj.Rail.PMB_ADDR rc) ≠ 0) Src.sqPmbus
      (ctxRail rc) := by
  have hrow : ((c.enableRail rc rest).rowOf rc).off = (c.rowOf rc).off := by rw [rowOf_enableRail]
  have haddr : (c.rampStepped rc rest code).get (Obj.Rail.PMB_ADDR rc) = c.get (Obj.Rail.PMB_ADDR rc) :=
    get_rampStepped_of_ne (by simp) (by simp; omega) (by simp)
  simp only [rampStepped, get_pmbus, ← hrow] at haddr
  simp only [rampStep, hphase, htodo, rampStepped, ← hrow, ← haddr]
  rfl

end

/-! ## RAIL_UP (R280 step 2, R286) -/

/-- The rail of the step is GOOD, with its rise time, and DELAY_ON runs. -/
def railRisen (c : Core) (rc us : Nat) : Core :=
  let c1 := (c.put (Obj.Rail.STATE rc) 2).put (Obj.Rail.T_RISE_US rc) (sat 32 us)
  c1.withSeq { c1.seq with up := c1.seq.up ++ [rc], phase := .delayOn }

theorem railUp_eq {c : Core} {rc : Nat} (us : Nat) (h : c.seq.phase = .rising rc) : c.railUp us =
    if c.seq.offReq then (c.railRisen rc us).beginDescent (c.railRisen rc us).descentList else c.railRisen rc us := by
  simp only [railUp, h, railRisen]
  rfl

section
variable (c : Core) (rc us : Nat)

@[simp] theorem seq_railRisen : (c.railRisen rc us).seq = { c.seq with phase := .delayOn, up := c.seq.up ++ [rc] } := by
  simp [railRisen]

@[simp] theorem req_railRisen : (c.railRisen rc us).req = c.req := by simp [railRisen]

theorem get_railRisen_state : (c.railRisen rc us).get (Obj.Rail.STATE rc) = 2 := by
  have h : Obj.Rail.STATE rc ≠ Obj.Rail.T_RISE_US rc := by simp
  simp [railRisen, get_put_ne _ _ h]

theorem get_railRisen_rise : (c.railRisen rc us).get (Obj.Rail.T_RISE_US rc) = min us (2 ^ 32 - 1) := by
  simp [railRisen, sat_eq_min]

theorem get_railRisen_of_ne {k : Nat} (h1 : k ≠ Obj.Rail.STATE rc) (h2 : k ≠ Obj.Rail.T_RISE_US rc) :
    (c.railRisen rc us).get k = c.get k := by
  simp [railRisen, get_put_ne _ _ h1, get_put_ne _ _ h2]

end

/-! ## DELAY_ON_EXPIRY (R280 step 3) -/

@[simp] theorem get_setPhase (c : Core) (p : SeqPhase) (k : Nat) : (c.setPhase p).get k = c.get k := by simp [setPhase]
@[simp] theorem seq_setPhase (c : Core) (p : SeqPhase) : (c.setPhase p).seq = { c.seq with phase := p } := by simp [setPhase]
@[simp] theorem req_setPhase (c : Core) (p : SeqPhase) : (c.setPhase p).req = c.req := by simp [setPhase]
@[simp] theorem out_setPhase (c : Core) (p : SeqPhase) : (c.setPhase p).out = c.out := by simp [setPhase]
@[simp] theorem fc_setPhase (c : Core) (p : SeqPhase) : (c.setPhase p).fc = c.fc := by simp [setPhase]

theorem delayOnEnd_of_cons {c : Core} {rc : Nat} {rest : List Nat} (h : c.seq.phase = .delayOn) (ht : c.seq.todo = rc :: rest) :
    c.delayOnEnd = c.setPhase .rampReady := by
  simp [delayOnEnd, h, ht]

theorem delayOnEnd_of_nil {c : Core} (h : c.seq.phase = .delayOn) (ht : c.seq.todo = []) : c.delayOnEnd = c.rampEnd := by
  simp [delayOnEnd, h, ht]

end Core

/-- Settles O12: each clause reads the step's own equation. -/
theorem rampSteps : Obligations.RampSteps := by
  refine ⟨fun s rc rest code linear hao hphase htodo hlin => ?_, fun s rc rest code hrc hao hphase htodo haddr => ?_,
    fun s rc us hao hphase hoff => ?_, fun s rc rest hao hphase htodo => ?_⟩
  · have hstep : s.clear.core.rampStep code linear = s.clear.core.rampStepped rc rest code := by
      rw [Core.rampStep_eq (c := s.clear.core) linear hphase htodo, Core.raiseIf, if_neg]
      rcases hlin with h | h <;> simp [h]
    refine answersCore_onAo (fun c => c.rampStep code linear) rfl hao ?_ ?_
    · rw [hstep, Core.req_rampStepped, State.clear_req]
    · rw [hstep]
      exact ⟨Core.get_rampStepped_state, Core.get_rampStepped_step, Core.bitOf_rampStepped, Core.out_rampStepped,
        Core.seq_rampStepped, fun k h1 h2 h3 => Core.get_rampStepped_of_ne h1 h2 h3⟩
  · have hstep : s.clear.core.rampStep code false = (s.clear.core.rampStepped rc rest code).raise Src.sqPmbus (ctxRail rc) := by
      rw [Core.rampStep_eq (c := s.clear.core) false hphase htodo, Core.raiseIf, if_pos (by simp [haddr])]
    refine answersThen_onAo (fun c => c.rampStep code false) rfl hao ?_
    rw [hstep]
    have hfc := Core.fcOnly_raise (s.clear.core.rampStepped rc rest code) Src.sqPmbus (ctxRail rc)
    refine ⟨?_, ?_, ?_, ?_, fun k hk h1 h2 h3 => ?_⟩
    · rw [hfc.get (by simp; omega), Core.get_rampStepped_state]
    · rw [hfc.get (by decide), Core.get_rampStepped_step]; rfl
    · rw [hfc.seq, Core.seq_rampStepped]; rfl
    · exact Core.raises_of_raise _ (by decide +kernel) Core.fc_rampStepped
        (Core.get_rampStepped_of_ne (by simp; omega) (by decide) (by simp; omega))
    · rw [hfc.get hk, Core.get_rampStepped_of_ne h1 h2 h3]; rfl
  · have hstep : s.clear.core.railUp us = s.clear.core.railRisen rc us := by
      rw [Core.railUp_eq (c := s.clear.core) us hphase, if_neg (by simp [hoff])]
    refine answersCore_onAo (fun c => c.railUp us) rfl hao (by simp [hstep]) ?_
    rw [hstep]
    exact ⟨Core.get_railRisen_state _ rc us, Core.get_railRisen_rise _ rc us, Core.seq_railRisen _ rc us,
      fun k h1 h2 => Core.get_railRisen_of_ne _ rc us h1 h2⟩
  · have hstep : s.clear.core.delayOnEnd = s.clear.core.setPhase .rampReady :=
      Core.delayOnEnd_of_cons (c := s.clear.core) hphase htodo
    refine answersCore_onAo Core.delayOnEnd rfl hao (by simp [hstep]) ?_
    rw [hstep]
    exact ⟨Core.seq_setPhase _ _, fun k => Core.get_setPhase _ _ k⟩

/-! ## The entry of UP (R22, R282, R290) -/

namespace Core

theorem get_setDev {c : Core} {v k : Nat} (h : ¬ devKey k) : (c.setDev v).get k = c.get k := keeps_setDev c v k h

@[simp] theorem driveDn_get (c : Core) (b : Bool) (k : Nat) : (c.driveDn b).get k = c.get k := by
  simp only [Core.get, driveDn_objs]

@[simp] theorem driveDn_dnIn (c : Core) (b : Bool) : (c.driveDn b).seq.dnIn = c.seq.dnIn := by
  unfold driveDn; split <;> simp

@[simp] theorem driveDn_dnOut (c : Core) (b : Bool) : (c.driveDn b).seq.dnOut = b := by
  unfold driveDn; split
  · assumption
  · simp

@[simp] theorem driveDn_req (c : Core) (b : Bool) : (c.driveDn b).req = c.req := by
  unfold driveDn; split <;> simp

@[simp] theorem driveUp_upOut (c : Core) (b : Bool) : (c.driveUp b).seq.upOut = b := by
  unfold driveUp; split
  · assumption
  · simp

/-- The objects of the hub in UP: those of the sequencer and of the discipline loop have been set, and the device's. -/
theorem seqEnterUp_get (c : Core) {k : Nat} (h : ¬ devKey k) (h1 : k ≠ Obj.Seq.SEQ_STATE) (h2 : k ≠ Obj.Seq.FAIL_COUNT)
    (h3 : k ≠ Obj.Seq.ON_PENDING) (h4 : k ≠ Obj.Time.DISC_STATE) : c.seqEnterUp.get k = c.get k := by
  obtain ⟨d, he, hobjs, -⟩ := c.seqEnterUp_eq
  rw [he, get_setDev h, keeps_of_objs (fun _ => True) hobjs k trivial, get_put_ne _ _ h4, get_put_ne _ _ h3, get_put_ne _ _ h2,
    get_put_ne _ _ h1]

theorem seqEnterUp_state (c : Core) : c.seqEnterUp.get Obj.Seq.SEQ_STATE = 2 := by
  obtain ⟨d, he, hobjs, -⟩ := c.seqEnterUp_eq
  rw [he, get_setDev (by decide), keeps_of_objs (fun _ => True) hobjs _ trivial, get_put_ne _ _ (by decide),
    get_put_ne _ _ (by decide), get_put_ne _ _ (by decide), get_put_self]

theorem seqEnterUp_failCount (c : Core) : c.seqEnterUp.get Obj.Seq.FAIL_COUNT = 0 := by
  obtain ⟨d, he, hobjs, -⟩ := c.seqEnterUp_eq
  rw [he, get_setDev (by decide), keeps_of_objs (fun _ => True) hobjs _ trivial, get_put_ne _ _ (by decide),
    get_put_ne _ _ (by decide), get_put_self]

theorem seqEnterUp_dev {c : Core} (h : c.dev = Dv.ramp) : c.seqEnterUp.dev = Dv.selftest := by
  obtain ⟨d, he, hobjs, -⟩ := c.seqEnterUp_eq
  have hdev : d.dev = c.dev := by
    rw [dev, keeps_of_objs (fun _ => True) hobjs _ trivial, get_put_ne _ _ (by decide), get_put_ne _ _ (by decide),
      get_put_ne _ _ (by decide), get_put_ne _ _ (by decide), dev]
  rw [he, dev_setDev _ _ (by rw [hdev, h]; decide)]

/-- From objects as the command found them the hub is as R22 and R282 have it. -/
theorem enteredUp_seqEnterUp {s : State} {c : Core} (h : c.objs = s.core.objs) : EnteredUp s c.seqEnterUp := by
  have hget : ∀ k, c.get k = s.core.get k := fun k => keeps_of_objs (fun _ => True) h k trivial
  obtain ⟨d, he, -, htime, hruns, hphase, -⟩ := c.seqEnterUp_eq
  refine ⟨seqEnterUp_state c, seqEnterUp_failCount c, ?_, ?_, ?_, ?_, fun hramp => ?_⟩
  · rw [seqEnterUp_get c (by decide) (by decide) (by decide) (by decide) (by decide), hget]
  · rw [he, setDev_hubTime, htime]
  · rw [he, setDev_timeRuns, hruns]
  · rw [he, setDev_seq, hphase]
  · exact seqEnterUp_dev (by rw [← hramp, dev, hget, dev])

/-- The hub in UP drives SQ_UP_OUT as the cascade has it (R290). -/
theorem seqEnterUp_upOut (c : Core) : c.seqEnterUp.seq.upOut = ((!c.dnEn || c.seq.dnIn) && !c.seq.noCascade) := by
  unfold seqEnterUp
  rw [setDev_seq, seq_withStart, seq_withSeq]
  dsimp only
  rw [each_seq, seq_put, driveUp_upOut]
  exact fun _ _ => rfl

theorem seqEnterUp_noCascade (c : Core) : c.seqEnterUp.seq.noCascade = c.seq.noCascade := by
  obtain ⟨d, he, -, -, -, -, hcascade⟩ := c.seqEnterUp_eq
  rw [he, setDev_seq, hcascade]

end Core

/-- Settles O13: with no cascade to await the hub enters UP from the objects as they stand. -/
theorem rampEndsInUp : Obligations.RampEndsInUp := by
  refine ⟨fun s hao hphase htodo hcascade => ?_, fun s hao hphase => ?_, fun s hao hphase htodo hdn hlow => ?_⟩
  · refine answersThen_onAo Core.delayOnEnd rfl hao ?_
    rw [Core.delayOnEnd_of_nil (c := s.clear.core) hphase htodo, Core.rampEnd]
    have hdn : s.clear.core.dnEn = s.core.dnEn := rfl
    rcases hcascade with h | h
    · rw [if_neg (by rw [hdn, h]; decide)]
      exact Core.enteredUp_seqEnterUp rfl
    · have hin : (s.clear.core.driveDn true).seq.dnIn = true := by rw [Core.driveDn_dnIn]; exact h
      simp only [hin, if_true]
      split
      · exact Core.enteredUp_seqEnterUp (Core.driveDn_objs _ _)
      · exact Core.enteredUp_seqEnterUp rfl
  · refine answersThen_onCore
      (fun c => if c.seq.aoUp then c.dnInChange true else c.withSeq { c.seq with dnIn := true }) rfl ?_
    have hstep : s.clear.core.dnInChange true = (s.clear.core.withSeq { s.clear.core.seq with dnIn := true }).seqEnterUp := by
      simp [Core.dnInChange, hphase]
    rw [if_pos (show s.clear.core.seq.aoUp = true from hao), hstep]
    exact Core.enteredUp_seqEnterUp rfl
  · have hstep : s.clear.core.delayOnEnd = (s.clear.core.driveDn true).setPhase .cascadeUp := by
      have hen : s.clear.core.dnEn = true := hdn
      rw [Core.delayOnEnd_of_nil (c := s.clear.core) hphase htodo, Core.rampEnd]
      simp [hlow, hen]
    refine answersCore_onAo Core.delayOnEnd rfl hao (by simp [hstep]) ?_
    rw [hstep]
    exact ⟨by simp, by simp, fun k => by simp⟩

/-! ## How RAMP fails (R281, R288) and a cascade that runs out (R290) -/

namespace Core

/-- The failing RAMP with its counts and flags descends over the rails that are not cut. -/
theorem rampFail_eq (c : Core) : c.rampFail =
    c.rampFailed.beginDescent (c.rampFailed.descentList.filter fun r => c.rampFailed.railState r ≠ 6) := rfl

@[simp] theorem rampFailed_railState (c : Core) (r : Nat) : c.rampFailed.railState r = c.railState r :=
  rampFailed_keeps c (by simp; omega) (by simp; omega)

@[simp] theorem rampFailed_descentList (c : Core) : c.rampFailed.descentList = c.descentList := by
  rw [descentList, rampFailed_seq, descentList]

/-- The descent of a RAMP that failed begins with the rail whose step ran. -/
theorem rampFail_todo {c : Core} {rc : Nat} (h : c.seq.phase = .rising rc) (hs : c.railState rc ≠ 6) :
    c.rampFail.seq.todo = rc :: c.seq.up.reverse.filter fun r => c.railState r ≠ 6 := by
  have hlist : c.descentList.filter (fun r => c.railState r ≠ 6) = rc :: c.seq.up.reverse.filter fun r => c.railState r ≠ 6 := by
    simp [descentList, h, hs]
  rw [rampFail_eq]
  simp only [rampFailed_descentList, rampFailed_railState, hlist]
  exact beginDescent_todo _ _ _

theorem rampTimeout_eq {c : Core} {rc : Nat} (h : c.seq.phase = .rising rc) : c.rampTimeout =
    (((c.flag (Obj.Rail.FLAGS rc) 4).ffail 5 (some rc)).rampFail).raise Src.sqRampFail (ctxRail rc) := by
  simp only [rampTimeout, h]

/-- A cascade wait that ran out is flagged and raised. -/
def cascadeFailed (c : Core) : Core := ((c.flag Obj.Seq.FLAGS 5).ffail 7 none).raise Src.sqCascade (ctxNone 10 0)

theorem cascadeFailed_get (c : Core) {k : Nat} (hfc : ¬ isFcKey k) (h : k ≠ Obj.Seq.FLAGS) : c.cascadeFailed.get k = c.get k := by
  rw [cascadeFailed, (fcOnly_raise _ _ _).get hfc, get_ffail, get_flag_ne _ _ h]

theorem cascadeFailed_flag (c : Core) : c.cascadeFailed.bitOf Obj.Seq.FLAGS 5 = true := by
  rw [bitOf, cascadeFailed, (fcOnly_raise _ _ _).get (by decide), get_ffail]
  exact bitOf_flag_self c _ 5

theorem cascadeFailed_todo (c : Core) : c.cascadeFailed.seq.todo = c.seq.todo := by
  rw [cascadeFailed, (fcOnly_raise _ _ _).seq, ffail_seq]
  rfl

end Core

/-- Settles O14: the failing step sets its own flag and FAIL_COUNT before the descent begins, and a cascade that runs out goes
on flagged. -/
theorem rampFailures : Obligations.RampFailures := by
  refine ⟨fun s rc hrc hao hphase hcut => ?_, fun s rc hao hramp hgood hup => ?_, fun s hao hphase => ?_,
    fun s rc hrc hao hphase htodo hcut => ?_⟩
  · refine answersThen_onAo Core.rampTimeout rfl hao ?_
    rw [Core.rampTimeout_eq (c := s.clear.core) hphase]
    generalize hd : (s.clear.core.flag (Obj.Rail.FLAGS rc) 4).ffail 5 (some rc) = d
    have hget : ∀ k, k ≠ Obj.Rail.FLAGS rc → d.get k = s.core.get k := fun k hk => by
      rw [← hd, Core.get_ffail, Core.get_flag_ne _ _ hk, State.clear_get]
    have hstate : ∀ r, d.railState r = s.core.get (Obj.Rail.STATE r) := fun r => hget _ (by simp; omega)
    have hphase' : d.seq.phase = .rising rc := by rw [← hd, Core.ffail_seq]; exact hphase
    have hups : d.seq.up = s.core.seq.up := by rw [← hd, Core.ffail_seq]; rfl
    have hmem : rc ∈ d.descentList := by simp [Core.descentList, hphase']
    obtain ⟨h1, h2, h3, h4⟩ := d.rampFail_facts rc hmem (by rw [← Core.railState, hstate]; exact hcut)
    have hfc := Core.fcOnly_raise d.rampFail Src.sqRampFail (ctxRail rc)
    have hcnt : d.get Obj.Seq.FAIL_COUNT = s.core.get Obj.Seq.FAIL_COUNT := hget _ (by simp; omega)
    refine ⟨?_, ?_, ?_, ?_, ?_⟩
    · rw [hfc.get (by decide), h1]
    · rw [hfc.get (by decide), h2, hcnt]
    · rw [Core.bitOf, hfc.get (by decide)]; exact h3
    · rw [Core.bitOf, hfc.get (by simp; omega), h4 _ (by simp; omega) (by simp; omega) (by simp; omega) (by simp; omega)
        (fun i hi => ⟨by simp; omega, by simp; omega⟩), ← hd, Core.get_ffail]
      exact Core.bitOf_flag_self _ _ 4
    · rw [hfc.seq, Core.rampFail_todo hphase' (by rw [hstate]; exact hcut), hups]
      simp only [hstate]
  · refine answersThen_onAo (fun c => c.pgDisagree rc.val) rfl hao ?_
    generalize hd : (s.clear.core.flag (Obj.Rail.FLAGS rc.val) 6).ffail 3 (some rc.val) = d
    have hget : ∀ k, k ≠ Obj.Rail.FLAGS rc.val → d.get k = s.core.get k := fun k hk => by
      rw [← hd, Core.get_ffail, Core.get_flag_ne _ _ hk, State.clear_get]
    have hrc := rc.isLt
    have hstate : d.get (Obj.Rail.STATE rc.val) = 2 := by rw [hget _ (by simp), hgood]
    have hstep : s.clear.core.pgDisagree rc.val =
        (d.rampFail.raise Src.sqRampFail (ctxRail rc.val)).raise (Src.sqPg rc.val) (ctxRail rc.val) := by
      have hone : d.seqState = 1 := by rw [Core.seqState, hget _ (by simp; omega), hramp]
      have hnot : ¬ s.clear.core.railState rc.val ≠ 2 := by simp [Core.railState, hgood]
      simp only [Core.pgDisagree, if_neg hnot, hd, hone, if_true]
    have hmem : rc.val ∈ d.descentList := by
      have hups : d.seq.up = s.core.seq.up := by rw [← hd, Core.ffail_seq]; rfl
      simp [Core.descentList, hups, hup]
    obtain ⟨h1, h2, h3, h4⟩ := d.rampFail_facts rc.val hmem (by rw [hstate]; decide)
    have hfc := (Core.fcOnly_raise d.rampFail Src.sqRampFail (ctxRail rc.val)).trans
      (Core.fcOnly_raise _ (Src.sqPg rc.val) (ctxRail rc.val))
    rw [hstep]
    refine ⟨?_, ?_, ?_, ?_⟩
    · rw [hfc.get (by decide), h1]
    · rw [hfc.get (by decide), h2, hget _ (by simp; omega)]
    · rw [Core.bitOf, hfc.get (by decide)]; exact h3
    · rw [Core.bitOf, hfc.get (by simp; omega), h4 _ (by simp; omega) (by simp; omega) (by simp; omega) (by simp; omega)
        (fun i hi => ⟨by simp; omega, by simp; omega⟩), ← hd, Core.get_ffail]
      exact Core.bitOf_flag_self _ _ 6
  · refine answersThen_onAo Core.cascadeTimeout rfl hao ?_
    have hstep : s.clear.core.cascadeTimeout =
        (s.clear.core.cascadeFailed.withSeq { s.clear.core.cascadeFailed.seq with noCascade := true }).seqEnterUp := by
      simp [Core.cascadeTimeout, hphase, Core.cascadeFailed]
    rw [hstep]
    refine ⟨Core.seqEnterUp_state _, ?_, ?_, ?_⟩
    · rw [Core.bitOf, Core.seqEnterUp_get _ (by decide) (by decide) (by decide) (by decide) (by decide)]
      exact Core.cascadeFailed_flag s.clear.core
    · rw [Core.seqEnterUp_noCascade, Core.seq_withSeq]
    · rw [Core.seqEnterUp_upOut, Core.seq_withSeq]; simp
  · refine answersThen_onAo Core.cascadeTimeout rfl hao ?_
    have hstate : s.clear.core.cascadeFailed.railState rc ≠ 6 := by
      rw [Core.railState, Core.cascadeFailed_get _ (by simp; omega) (by simp; omega)]
      exact hcut
    have hstep : s.clear.core.cascadeTimeout = s.clear.core.cascadeFailed.setPhase .dropReady := by
      have hleft : ¬ (s.clear.core.cascadeFailed.seq.todo.all fun r => s.clear.core.cascadeFailed.railState r = 6) = true := by
        rw [Core.cascadeFailed_todo, List.all_eq_true]
        exact fun h => hstate (by simpa using h rc htodo)
      have hnext : s.clear.core.cascadeTimeout = s.clear.core.cascadeFailed.nextDrop := by
        simp [Core.cascadeTimeout, hphase, Core.cascadeFailed]
      rw [hnext, Core.nextDrop, if_neg hleft]
    rw [hstep]
    exact ⟨by simp, by rw [Core.bitOf, Core.get_setPhase]; exact Core.cascadeFailed_flag s.clear.core⟩

end Sys2Proof.Machine
end

section
/-! PROOFS. Writes of objects by commands of their own (14_object_dictionary.md R446): an admitted write ends in the effect of
its object's rule and its status. -/

namespace Sys2Proof.Machine

/-- The writes that stay within the hub's registers and engines: not FACTORY_DEFAULTS, ADDR_MAP, FUSE_PROGRAM or PERSONALITY. -/
abbrev coreObject (idx sub : Nat) : Prop :=
  ¬ (idx = 0x1000 ∧ sub = 7) ∧ ¬ (idx = 0x3800 ∧ sub = 1) ∧ ¬ (idx = 0x5010 ∧ sub = 6) ∧
    ¬ (0x2300 ≤ idx ∧ idx < 0x2700 ∧ sub = 1)

theorem State.admitted_of_coreObject (s : State) (w : World) {idx sub : Nat} (bs : List Byte) (h : coreObject idx sub) :
    s.admitted w idx sub bs = s.onCoreOnly (s.core.writeValue s.fuses w idx sub bs) := by
  obtain ⟨h1, h2, h3, h4⟩ := h
  simp only [State.admitted, Bool.and_eq_true, decide_eq_true_eq, and_assoc, if_neg h1, if_neg h2, if_neg h3, if_neg h4]

/-- A value that fits its object is what its bytes say. -/
theorem ofBytes_toBytes_of_fits {k v : Nat} (h : v < 2 ^ widthOf k) : ofBytes (toBytes (sizeOf k) v) = v := by
  refine ofBytes_toBytes_of_lt ?_
  rwa [widthOf, pow_mul] at h

section
variable {s : State} {w : World} {k v : Nat}

theorem State.writeNum_of_admitted {u : State} {st : Status} (h : Admits s w k v)
    (hclear : clearableOf (k / 256) (k % 256) = none)
    (hw : s.clear.admitted w (k / 256) (k % 256) (toBytes (sizeOf k) v) = (st, u)) :
    s.writeNum w k v = State.settle { u with core := u.core.emit (.status st) } := by
  obtain ⟨hserved, hfits, hpass⟩ := h
  rw [State.writeNum, if_pos hfits]
  refine State.write_of_writeObject hserved ?_
  have hpass' : s.clear.core.writeRefusal w (k / 256) (k % 256) (toBytes (sizeOf k) v) = none := hpass
  rw [State.writeObject, hpass', hclear]
  exact hw

theorem State.writeNum_of_writeValue {c : Core} {st : Status} (h : Admits s w k v)
    (hclear : clearableOf (k / 256) (k % 256) = none) (hcore : coreObject (k / 256) (k % 256))
    (hw : s.clear.core.writeValue s.fuses w (k / 256) (k % 256) (toBytes (sizeOf k) v) = (st, c)) :
    s.writeNum w k v = State.settle { s.clear with core := c.emit (.status st) } := by
  refine State.writeNum_of_admitted h hclear (u := { s.clear with core := c }) ?_
  rw [State.admitted_of_coreObject _ _ _ hcore, State.onCoreOnly, State.clear_fuses, hw]
  rfl

variable {i : Instr} {P : Core → Prop} {c : Core} {st : Status}

theorem answersThen_writeNum (hi : exec i s = .next (s.writeNum w k v)) (h : Admits s w k v)
    (hclear : clearableOf (k / 256) (k % 256) = none) (hcore : coreObject (k / 256) (k % 256))
    (hw : s.clear.core.writeValue s.fuses w (k / 256) (k % 256) (toBytes (sizeOf k) v) = (st, c))
    (hp : P (c.emit (.status st))) : AnswersThen i s P :=
  ⟨c.emit (.status st), by rw [hi, State.writeNum_of_writeValue h hclear hcore hw]; rfl, hp⟩

theorem answersOk_writeNum (hi : exec i s = .next (s.writeNum w k v)) (h : Admits s w k v)
    (hclear : clearableOf (k / 256) (k % 256) = none) (hcore : coreObject (k / 256) (k % 256))
    (hw : s.clear.core.writeValue s.fuses w (k / 256) (k % 256) (toBytes (sizeOf k) v) = (.ok, c))
    (hp : P (c.emit (.status .ok))) : AnswersOk i s P :=
  answersThen_writeNum hi h hclear hcore hw ⟨by simp, hp⟩

theorem answersCore_writeNum (hi : exec i s = .next (s.writeNum w k v)) (h : Admits s w k v)
    (hclear : clearableOf (k / 256) (k % 256) = none) (hcore : coreObject (k / 256) (k % 256))
    (hw : s.clear.core.writeValue s.fuses w (k / 256) (k % 256) (toBytes (sizeOf k) v) = (st, c)) (hreq : c.req = [])
    (hp : P (c.emit (.status st))) : AnswersCore i s P := by
  refine ⟨c.emit (.status st), ?_, hp⟩
  rw [hi, State.writeNum_of_writeValue h hclear hcore hw, State.settle_of_req_nil _ (by simp [hreq])]
  rfl

end

namespace Core

/-- A write of a rail's object (R293). -/
theorem writeValue_rail (c : Core) (f : Fuses) (w : World) {rc : Nat} (sub : Nat) (bs : List Byte) (h : rc < 16) :
    c.writeValue f w (0x4010 + rc) sub bs = c.writeRail rc sub (ofBytes bs) := by
  simp (disch := omega) only [writeValue, Bool.and_eq_true, decide_eq_true_eq, if_neg, if_pos]
  simp

/-- A write of the sequencer's objects. -/
theorem writeValue_seq (c : Core) (f : Fuses) (w : World) (sub : Nat) (bs : List Byte) :
    c.writeValue f w 0x4000 sub bs = c.writeSeq sub (ofBytes bs) := rfl

end Core

end Sys2Proof.Machine
end

section
/-! PROOFS. Margins and PMBus rails (11_power_sequencing.md R294, R295), and the obligation `MarginsAndPolls`. -/

namespace Sys2Proof.Machine

namespace Core

/-! ## MARGIN_STEP (R294) -/

section
variable {c : Core} {rc : Nat} {m : Int}

theorem marginStep_eq (hup : c.seqState = 2) (hne : c.getInt (Obj.Rail.MARGIN_APPLIED rc) ≠ c.getInt (Obj.Rail.MARGIN rc))
    (hm : m = c.getInt (Obj.Rail.MARGIN_APPLIED rc) +
      (if c.getInt (Obj.Rail.MARGIN_APPLIED rc) < c.getInt (Obj.Rail.MARGIN rc) then 1 else -1)) :
    c.marginStep rc = c.driveMargin rc m := by
  rw [marginStep, if_neg (by simp [hup, hne]), hm]
  split_ifs <;> rfl

theorem get_driveMargin_self : (c.driveMargin rc m).get (Obj.Rail.MARGIN_APPLIED rc) = ofSigned 32 m := by
  unfold driveMargin
  dsimp only
  split_ifs
  · rw [get_pmbus, get_put_self]
  · rw [get_emit, get_put_self]

theorem get_driveMargin_of_ne {k : Nat} (h : k ≠ Obj.Rail.MARGIN_APPLIED rc) : (c.driveMargin rc m).get k = c.get k := by
  unfold driveMargin
  dsimp only
  split_ifs
  · rw [get_pmbus, get_put_ne _ _ h]
  · rw [get_emit, get_put_ne _ _ h]

theorem req_driveMargin : (c.driveMargin rc m).req = c.req := by
  unfold driveMargin
  dsimp only
  split_ifs
  · rw [req_pmbus, req_put]
  · rw [req_emit, req_put]

theorem out_driveMargin : (c.driveMargin rc m).out = c.out ++
    (if c.isSet (Obj.Rail.PMB_MARGIN rc) then
      (if c.get (Obj.Rail.PMB_ADDR rc) = 0 then []
       else [.pmbus rc 0 (some (c.get (Obj.Rail.PMB_PAGE rc))),
             .pmbus rc 0x21 (some (((c.rowOf rc).vnom * (1000 + 5 * m) : Int)).toNat)])
     else [.margin rc m]) := by
  have haddr : Obj.Rail.PMB_ADDR rc ≠ Obj.Rail.MARGIN_APPLIED rc := by simp
  have hpage : Obj.Rail.PMB_PAGE rc ≠ Obj.Rail.MARGIN_APPLIED rc := by simp
  unfold driveMargin
  dsimp only
  split_ifs with hset h
  · rw [out_pmbus, get_put_ne _ _ haddr, if_pos h, out_put]
  · rw [out_pmbus, get_put_ne _ _ haddr, if_neg h, get_put_ne _ _ hpage, out_put]
  · rw [out_emit, out_put]

end

/-! ## Polls (R295) -/

/-- What one poll asks of a rail: STATUS_WORD, VOUT, IOUT and temperature. -/
def pmbusAsk (c : Core) (rc : Nat) : Core := [0x79, 0x8B, 0x8C, 0x8D].foldl (fun c code => c.pmbus rc code none) c

/-- The poll of one rail. -/
def pmbusTurn (c : Core) (x : PmbusResult) : Core := (c.pmbusAsk x.rail.val).pmbusOne x

theorem pmbusPoll_eq {c : Core} (l : List PmbusResult) (h : c.seqState ≠ 0) : c.pmbusPoll l = l.foldl pmbusTurn c := by
  rw [pmbusPoll, if_neg h]; rfl

@[simp] theorem get_pmbusAsk (c : Core) (rc k : Nat) : (c.pmbusAsk rc).get k = c.get k := by simp [pmbusAsk]
@[simp] theorem seq_pmbusAsk (c : Core) (rc : Nat) : (c.pmbusAsk rc).seq = c.seq := by simp [pmbusAsk]
@[simp] theorem fc_pmbusAsk (c : Core) (rc : Nat) : (c.pmbusAsk rc).fc = c.fc := by simp [pmbusAsk]

theorem fcOnly_pmbus (c : Core) (rc code : Nat) (v : Option Nat) : c.FcOnly (c.pmbus rc code v) := by
  unfold pmbus
  exact fcOnly_ite (fun _ => FcOnly.refl c) fun _ => (fcOnly_emit c _).trans (fcOnly_emit _ _)

theorem FcOnly.withSeq {c d : Core} (h : c.FcOnly d) (q : SeqState) : (c.withSeq q).FcOnly (d.withSeq q) := by
  refine ⟨?_, fun k hk => by rw [get_withSeq, get_withSeq, h.get hk]⟩
  obtain ⟨heq, -⟩ := h
  rw [heq]
  rfl

theorem fcOnly_pmbusAsk (c : Core) (rc : Nat) : c.FcOnly (c.pmbusAsk rc) :=
  fcOnly_foldl _ _ (fun d code => fcOnly_pmbus d rc code none) c

/-- The four reads leave for a rail that has an address. -/
theorem mem_out_pmbusAsk {c : Core} {rc code : Nat} (h : c.get (Obj.Rail.PMB_ADDR rc) ≠ 0)
    (hcode : code ∈ [0x79, 0x8B, 0x8C, 0x8D]) : Out.pmbus rc code none ∈ (c.pmbusAsk rc).out := by
  simp only [List.mem_cons, List.not_mem_nil, or_false] at hcode
  simp only [pmbusAsk, List.foldl, out_pmbus, get_pmbus, if_neg h]
  rcases hcode with rfl | rfl | rfl | rfl <;> simp

/-- An answered poll: the readings of the rail with their next generation. -/
def readingsOf (v i t : BitVec 32) (st : BitVec 16) (old : Nat) : Nat :=
  v.toNat <<< 96 + i.toNat <<< 64 + t.toNat <<< 32 + st.toNat <<< 16 + nextGen (field 15 0 old)

theorem field_lt (hi lo v : Nat) : field hi lo v < 2 ^ (hi + 1 - lo) := by
  unfold field
  exact Nat.mod_lt _ (Nat.two_pow_pos _)

theorem readingsOf_div (v i t : BitVec 32) (st : BitVec 16) (old : Nat) :
    readingsOf v i t st old / 2 ^ 16 = v.toNat <<< 80 + i.toNat <<< 48 + t.toNat <<< 16 + st.toNat := by
  have hgen : nextGen (field 15 0 old) < 65536 := by
    have hfield : field 15 0 old < 65536 := field_lt 15 0 old
    unfold nextGen
    split_ifs <;> omega
  simp only [readingsOf, Nat.shiftLeft_eq]
  omega

/-- What the answer of a rail leaves before the end of a standing SQ_PMBUS. -/
def pmbusAnswered (c : Core) (rc : Nat) (r : Nat) : Core :=
  (c.withSeq { c.seq with pmbFails := c.seq.pmbFails.setNum rc 0 }).put (Obj.Rail.PMB_READINGS rc) r

theorem pmbusOne_answered {c : Core} {x : PmbusResult} {v i t : BitVec 32} {st : BitVec 16}
    (hdata : x.data = some (v, i, t, st)) (h : c.get (Obj.Rail.PMB_ADDR x.rail.val) ≠ 0) :
    (c.pmbusAnswered x.rail.val (readingsOf v i t st (c.get (Obj.Rail.PMB_READINGS x.rail.val)))).FcOnly (c.pmbusOne x) := by
  rw [pmbusOne, if_neg h, hdata]
  exact fcOnly_ite (fun _ => FcOnly.refl _) fun _ => fcOnly_endStanding _ _ (by decide)

theorem pmbusOne_failed {c : Core} {x : PmbusResult} (hdata : x.data = none)
    (h : c.get (Obj.Rail.PMB_ADDR x.rail.val) ≠ 0) : c.pmbusOne x =
    (if c.seq.pmbFails.num x.rail.val + 1 = 3 then
      (c.withSeq { c.seq with pmbFails := c.seq.pmbFails.setNum x.rail.val (min (c.seq.pmbFails.num x.rail.val + 1) 3) }).raiseStanding
        Src.sqPmbus (ctxRail x.rail.val)
     else c.withSeq { c.seq with pmbFails := c.seq.pmbFails.setNum x.rail.val (min (c.seq.pmbFails.num x.rail.val + 1) 3) }) := by
  rw [pmbusOne, if_neg h, hdata]

theorem sentIn_pmbusOne (c : Core) (x : PmbusResult) : c.SentIn (c.pmbusOne x) := by
  by_cases haddr : c.get (Obj.Rail.PMB_ADDR x.rail.val) = 0
  · rw [pmbusOne, if_pos haddr]
    exact SentIn.refl c
  · cases hdata : x.data with
    | none =>
      rw [pmbusOne_failed hdata haddr]
      refine sentIn_ite (SentIn.trans ?_ (sentIn_raiseStanding _ _ _)) (sentIn_of_out rfl)
      exact sentIn_of_out rfl
    | some r =>
      rw [pmbusOne, if_neg haddr, hdata]
      refine SentIn.trans ?_ (sentIn_ite (SentIn.refl _) (sentIn_endStanding _ _))
      exact sentIn_of_out (by simp)

/-- A poll changes no object but the readings and the collector's. -/
theorem keeps_pmbusTurn (c : Core) (x : PmbusResult) :
    Keeps (fun k => ¬ isFcKey k ∧ ∀ r < 16, k ≠ Obj.Rail.PMB_READINGS r) c (c.pmbusTurn x) := by
  have hask : ∀ k, (c.pmbusAsk x.rail.val).get k = c.get k := get_pmbusAsk c _
  intro k hk
  obtain ⟨hfc, hread⟩ := hk
  rw [pmbusTurn]
  by_cases haddr : (c.pmbusAsk x.rail.val).get (Obj.Rail.PMB_ADDR x.rail.val) = 0
  · rw [pmbusOne, if_pos haddr, hask]
  · cases hdata : x.data with
    | none =>
      rw [pmbusOne_failed hdata haddr]
      split_ifs
      · rw [(fcOnly_raiseStanding _ _ _).get hfc, get_withSeq, hask]
      · rw [get_withSeq, hask]
    | some r =>
      obtain ⟨v, i, t, st⟩ := r
      rw [(pmbusOne_answered hdata haddr).get hfc, pmbusAnswered, get_put_ne _ _ (hread _ x.rail.isLt), get_withSeq, hask]

end Core

/-! ## MARGIN_WRITE (R294) -/

/-- MARGIN is no flag word, and its write stays within the hub's registers. -/
theorem clearableOf_margin : ∀ rc : RailNo, clearableOf (0x4010 + rc.val) 0xF = none := by decide +kernel

theorem toSigned_toNat (v : BitVec 32) : toSigned 32 v.toNat = v.toInt := by
  rw [BitVec.toInt_eq_toNat_cond, toSigned]
  have := v.isLt
  split_ifs <;> omega

section
variable {s : State} {w : World} {v : BitVec 32} {rc : RailNo} {c : Core} {st : Status}

theorem margin_keys : Obj.Rail.MARGIN rc.val / 256 = 0x4010 + rc.val ∧ Obj.Rail.MARGIN rc.val % 256 = 0xF := by
  simp only [Obj.Rail.MARGIN]; omega

/-- A write of MARGIN that passes checks 1 to 5 does what `Core.marginWrite` says. -/
theorem writeValue_margin (h : Admits s w (Obj.Rail.MARGIN rc.val) v.toNat)
    (hw : s.clear.core.marginWrite rc.val v.toNat = (st, c)) :
    s.clear.core.writeValue s.fuses w (Obj.Rail.MARGIN rc.val / 256) (Obj.Rail.MARGIN rc.val % 256)
      (toBytes (sizeOf (Obj.Rail.MARGIN rc.val)) v.toNat) = (st, c) := by
  rw [margin_keys.1, margin_keys.2, Core.writeValue_rail _ _ _ _ _ rc.isLt, ofBytes_toBytes_of_fits h.2.1]
  exact hw

theorem answersOk_marginWrite {P : Core → Prop} (h : Admits s w (Obj.Rail.MARGIN rc.val) v.toNat)
    (hw : s.clear.core.marginWrite rc.val v.toNat = (.ok, c)) (hp : P (c.emit (.status .ok))) :
    AnswersOk (.marginWrite rc w v) s P :=
  answersOk_writeNum rfl h (by rw [margin_keys.1, margin_keys.2]; exact clearableOf_margin rc)
    (by rw [margin_keys.1, margin_keys.2]; have := rc.isLt; refine ⟨?_, ?_, ?_, ?_⟩ <;> omega) (writeValue_margin h hw) hp

/-- A refusal by the rule of MARGIN changes nothing. -/
theorem answersCore_marginWrite (h : Admits s w (Obj.Rail.MARGIN rc.val) v.toNat)
    (hw : s.clear.core.marginWrite rc.val v.toNat = (st, s.clear.core)) :
    AnswersCore (.marginWrite rc w v) s fun c => c.out = [.status st] ∧ ∀ k, c.get k = s.core.get k :=
  answersCore_writeNum rfl h (by rw [margin_keys.1, margin_keys.2]; exact clearableOf_margin rc)
    (by rw [margin_keys.1, margin_keys.2]; have := rc.isLt; refine ⟨?_, ?_, ?_, ?_⟩ <;> omega) (writeValue_margin h hw) rfl
    ⟨rfl, fun _ => rfl⟩

end

/-! ## The obligation -/

section
variable {s : State} {l : List PmbusResult} {P : Core → Prop} {f : List PmbusResult → Instr}

/-- PMBUS_POLL and PMBUS_ALERT poll the rails in turn. -/
theorem answersThen_poll (hf : f ∈ [Instr.pmbusPoll, Instr.pmbusAlert]) (hao : s.core.seq.aoUp = true)
    (hup : s.core.get Obj.Seq.SEQ_STATE ≠ 0) (hp : P (l.foldl Core.pmbusTurn s.clear.core)) : AnswersThen (f l) s P := by
  have hpoll : s.clear.core.pmbusPoll l = l.foldl Core.pmbusTurn s.clear.core := Core.pmbusPoll_eq l hup
  have hi : exec (f l) s = .next (s.onAo fun c => c.pmbusPoll l) := by
    simp only [List.mem_cons, List.not_mem_nil, or_false] at hf
    rcases hf with rfl | rfl <;> rfl
  exact answersThen_onAo (fun c => c.pmbusPoll l) hi hao (by rw [hpoll]; exact hp)

end

/-- Settles O16: MARGIN_STEP by its own equation, the polls rail by rail, and the writes by the rule of MARGIN. -/
theorem marginsAndPolls : Obligations.MarginsAndPolls := by
  refine ⟨fun s rc m hao hup hne hm => ?_, fun s l x v i t st hao hup hdata haddr f hf => ?_,
    fun s x code hao hup haddr hcode f hf => ?_, fun s x hao hup hdata haddr htwo f hf => ?_,
    fun s rc w v h hup hgood hfits => ?_, fun s rc w v h hup hgood hfits => ?_, fun s rc w v h hbad => ?_⟩
  · have hstep : s.clear.core.marginStep rc.val = s.clear.core.driveMargin rc.val m :=
      Core.marginStep_eq (c := s.clear.core) hup hne hm
    refine answersCore_onAo (fun c => c.marginStep rc.val) rfl hao ?_ ?_
    · rw [hstep, Core.req_driveMargin, State.clear_req]
    · rw [hstep]
      exact ⟨Core.get_driveMargin_self, Core.out_driveMargin, fun k hk => Core.get_driveMargin_of_ne hk⟩
  · refine answersThen_poll hf hao hup ?_
    rw [List.foldl_append, List.foldl_cons, List.foldl_nil]
    generalize hd : l.foldl Core.pmbusTurn s.clear.core = d
    have hkept : (d.pmbusAsk x.rail.val).get (Obj.Rail.PMB_ADDR x.rail.val) ≠ 0 := by
      have hkeeps := Core.keeps_foldl _ l Core.pmbusTurn (fun c y _ => Core.keeps_pmbusTurn c y) s.clear.core
      rw [Core.get_pmbusAsk, ← hd, hkeeps _ ⟨by simp; omega, fun r hr => by simp; omega⟩]
      exact haddr x (by simp)
    rw [Core.pmbusTurn, (Core.pmbusOne_answered hdata hkept).get (by simp; omega), Core.pmbusAnswered, Core.get_put_self,
      Core.readingsOf_div]
  · refine answersThen_poll hf hao hup ?_
    rw [List.foldl_cons, List.foldl_nil, Core.pmbusTurn]
    exact Core.sentIn_pmbusOne (s.clear.core.pmbusAsk x.rail.val) x _ (Core.mem_out_pmbusAsk (c := s.clear.core) haddr hcode)
  · refine answersThen_poll hf hao hup ?_
    have hturn : s.clear.core.pmbusTurn x = ((s.clear.core.pmbusAsk x.rail.val).withSeq
        { s.core.seq with pmbFails := s.core.seq.pmbFails.setNum x.rail.val 3 }).raiseStanding Src.sqPmbus
          (ctxRail x.rail.val) := by
      rw [Core.pmbusTurn, Core.pmbusOne_failed hdata (by rw [Core.get_pmbusAsk]; exact haddr), Core.seq_pmbusAsk]
      simp [htwo]
    simp only [List.foldl_cons, List.foldl_nil, hturn]
    have hfc := Core.fcOnly_raiseStanding ((s.clear.core.pmbusAsk x.rail.val).withSeq
      { s.core.seq with pmbFails := s.core.seq.pmbFails.setNum x.rail.val 3 }) Src.sqPmbus (ctxRail x.rail.val)
    refine ⟨?_, ?_, ?_⟩
    · rw [hfc.seq, Core.seq_withSeq, Tbl.num, Tbl.setNum, Tbl.get_set_self]
    · exact Core.raises_of_raiseStanding _ (by decide +kernel) (by simp) (by simp)
    · rw [hfc.seq, Core.seq_withSeq]
      exact Core.FcOnly.trans ((Core.fcOnly_pmbusAsk s.clear.core x.rail.val).withSeq _) hfc
  · refine answersOk_marginWrite h (c := s.clear.core.put (Obj.Rail.MARGIN rc.val) v.toNat) ?_
      ⟨by simp, fun k hk => by rw [Core.get_emit, Core.get_put_ne _ _ hk, State.clear_get]⟩
    have hfits' : s.clear.core.marginFits rc.val (toSigned 32 v.toNat) = true := by rw [toSigned_toNat]; exact hfits
    simp [Core.marginWrite, Core.seqState, Core.railState, hup, hgood, hfits']
  · refine answersCore_marginWrite h ?_
    have hfits' : s.clear.core.marginFits rc.val (toSigned 32 v.toNat) = false := by rw [toSigned_toNat]; exact hfits
    simp [Core.marginWrite, Core.seqState, Core.railState, hup, hgood, hfits']
  · refine answersCore_marginWrite h ?_
    simp [Core.marginWrite, Core.railState, hbad]

end Sys2Proof.Machine
end

section
/-! PROOFS. On requests (11_power_sequencing.md R285, R287, R288, 16_states_start_sluice.md R418): what the pin's rise and the
end of the dwell do, how RAMP begins, and the obligation `OnRequests`. -/

namespace Sys2Proof.Machine

/-- A command that leaves DRAM alone and asks nothing ends in its own effect. -/
theorem answersCore_onMem {i : Instr} {s : State} {P : Core → Prop} {c : Core} (f : Core → Memory → Core × Memory)
    (hi : exec i s = .next (s.onMem f)) (hf : f s.clear.core s.mem = (c, s.mem)) (hreq : c.req = []) (hp : P c) :
    AnswersCore i s P := by
  refine ⟨c, ?_, hp⟩
  rw [hi, State.onMem_eq s f (by rw [hf]; exact hreq), hf]
  rfl

theorem answersCore_onAoMem {i : Instr} {s : State} {P : Core → Prop} {c : Core} (f : Core → Memory → Core × Memory)
    (hi : exec i s = .next (s.onAoMem f)) (hu : s.core.seq.aoUp = true) (hf : f s.clear.core s.mem = (c, s.mem))
    (hreq : c.req = []) (hp : P c) : AnswersCore i s P :=
  answersCore_onMem f (by rw [hi, State.onAoMem, State.when, hu]; rfl) hf hreq hp

theorem answersAll_onMem {i : Instr} {s : State} {P : State → Prop} (f : Core → Memory → Core × Memory)
    (hi : exec i s = .next (s.onMem f))
    (hp : P { s.clear with core := (f s.clear.core s.mem).1, mem := (f s.clear.core s.mem).2 }) : AnswersAll i s P :=
  ⟨_, hi, hp⟩

theorem answersAll_onAoMem {i : Instr} {s : State} {P : State → Prop} (f : Core → Memory → Core × Memory)
    (hi : exec i s = .next (s.onAoMem f)) (hu : s.core.seq.aoUp = true)
    (hp : P { s.clear with core := (f s.clear.core s.mem).1, mem := (f s.clear.core s.mem).2 }) : AnswersAll i s P :=
  answersAll_onMem f (by rw [hi, State.onAoMem, State.when, hu]; rfl) hp

namespace Core

/-! ## RAMP begins (R274, R280, R410) -/

/-- The hub as RAMP begins over a table in force: its first step is ready, and every rail it uses is OFF. -/
def rampTabled (c : Core) (t : List RailRow) : Core :=
  let order := rampOrder t
  let pad := order ++ List.replicate (16 - order.length) 0xFF
  let c2 := ((c.put Obj.Seq.SEQ_STATE 1).put Obj.Seq.RAMP_STEP 0).put Obj.Seq.RAMP_ORDER
    (pad.foldl (fun a b => a * 256 + b) 0)
  let c3 := c2.each 16 fun c r => c.put (Obj.Rail.STATE r) (if (nth t r ⟨false, 0, 0, 0, 0⟩).used then 0 else 7)
  c3.withSeq { c3.seq with phase := .rampReady, table := t, up := [], todo := order, offReq := false,
                           noCascade := false, first := none, failed := false }

section
variable (c : Core) (t : List RailRow)

theorem rampTabled_get {k : Nat} (h : ∀ r < 16, k ≠ Obj.Rail.STATE r) : (c.rampTabled t).get k =
    (((c.put Obj.Seq.SEQ_STATE 1).put Obj.Seq.RAMP_STEP 0).put Obj.Seq.RAMP_ORDER
      ((rampOrder t ++ List.replicate (16 - (rampOrder t).length) 0xFF).foldl (fun a b => a * 256 + b) 0)).get k := by
  unfold rampTabled
  rw [get_withSeq]
  exact keeps_each (fun k => ∀ r < 16, k ≠ Obj.Rail.STATE r) 16 _
    (fun d r hr => keeps_put _ d _ _ fun hk => hk r hr rfl) _ k h

theorem rampTabled_state : (c.rampTabled t).get Obj.Seq.SEQ_STATE = 1 := by
  rw [rampTabled_get c t fun r _ => by simp; omega, get_put_ne _ _ (by decide), get_put_ne _ _ (by decide), get_put_self]

theorem rampTabled_step : (c.rampTabled t).get Obj.Seq.RAMP_STEP = 0 := by
  rw [rampTabled_get c t fun r _ => by simp; omega, get_put_ne _ _ (by decide), get_put_self]

theorem rampTabled_dev : (c.rampTabled t).dev = c.dev := by
  rw [dev, rampTabled_get c t fun r _ => by simp; omega, get_put_ne _ _ (by decide), get_put_ne _ _ (by decide),
    get_put_ne _ _ (by decide), dev]

theorem rampTabled_seq : (c.rampTabled t).seq = { c.seq with
    phase := .rampReady, table := t, up := [], todo := rampOrder t, offReq := false, noCascade := false, first := none,
    failed := false } := by
  unfold rampTabled
  rw [seq_withSeq]
  dsimp only
  rw [each_seq]
  · simp only [seq_put]
  · exact fun _ _ => rfl

end

/-- RAMP begins over the rail table, or over the default tree where the table fails its check, which is flagged and raised. -/
theorem rampBegin_eq (c : Core) (m : Memory) : ∃ (d : Core) (t : List RailRow), d.dev = c.dev ∧
    c.rampBegin m = ((d.rampTabled t).setDev Dv.ramp, m.loseAll) ∨ d.dev = c.dev ∧
    c.rampBegin m = ((((d.rampTabled t).setDev Dv.ramp).flag Obj.Seq.FLAGS 7).raise Src.sqTableBad (ctxNone 10 0), m.loseAll) := by
  generalize hc0 : c.put Obj.Seq.TABLE_SOURCE 0 = c0
  generalize hbad : c0.tableBad ((List.range 16).map c0.railRow) = bad
  refine ⟨c0.put Obj.Seq.TABLE_SOURCE (ofBool bad),
    (List.range 16).map (c0.put Obj.Seq.TABLE_SOURCE (ofBool bad)).railRow, ?_⟩
  have hdev : (c0.put Obj.Seq.TABLE_SOURCE (ofBool bad)).dev = c.dev := by
    rw [dev, get_put_ne _ _ (by decide), ← hc0, get_put_ne _ _ (by decide), dev]
  cases bad with
  | true => exact .inr ⟨hdev, by simp only [rampBegin, hc0, hbad, if_true]; rfl⟩
  | false => exact .inl ⟨hdev, by simp only [rampBegin, hc0, hbad, Bool.false_eq_true, if_false]; rfl⟩

/-- What the hub holds as RAMP begins outside LOCKOUT. -/
theorem rampBegin_facts {c : Core} (m : Memory) (h : c.dev ≠ Dv.lockout) :
    (c.rampBegin m).2 = m.loseAll ∧ (c.rampBegin m).1.get Obj.Seq.SEQ_STATE = 1 ∧ (c.rampBegin m).1.get Obj.Seq.RAMP_STEP = 0 ∧
    (c.rampBegin m).1.dev = Dv.ramp ∧ (c.rampBegin m).1.seq.phase = .rampReady ∧
    (c.rampBegin m).1.seq.todo = rampOrder (c.rampBegin m).1.seq.table ∧ (c.rampBegin m).1.seq.failed = false := by
  obtain ⟨d, t, ⟨hdev, he⟩ | ⟨hdev, he⟩⟩ := c.rampBegin_eq m
  all_goals
    have hramp : ((d.rampTabled t).setDev Dv.ramp).dev = Dv.ramp := dev_setDev _ _ (by rw [rampTabled_dev, hdev]; exact h)
  · rw [he]
    refine ⟨rfl, ?_, ?_, hramp, ?_, ?_, ?_⟩
    · rw [get_setDev (by decide), rampTabled_state]
    · rw [get_setDev (by decide), rampTabled_step]
    all_goals rw [setDev_seq, rampTabled_seq]
  · have hfc := fcOnly_raise (((d.rampTabled t).setDev Dv.ramp).flag Obj.Seq.FLAGS 7) Src.sqTableBad (ctxNone 10 0)
    rw [he]
    refine ⟨rfl, ?_, ?_, ?_, ?_, ?_, ?_⟩
    · rw [hfc.get (by decide), get_flag_ne _ _ (by decide), get_setDev (by decide), rampTabled_state]
    · rw [hfc.get (by decide), get_flag_ne _ _ (by decide), get_setDev (by decide), rampTabled_step]
    · rw [dev, hfc.get (by decide), get_flag_ne _ _ (by decide)]; exact hramp
    all_goals rw [hfc.seq, flag, seq_put, setDev_seq, rampTabled_seq]

theorem tryRamp_begins {c : Core} (m : Memory) (hao : c.seq.aoUp = true) (hoff : c.seqState = 0) (hdev : c.dev ≠ Dv.lockout)
    (hdwell : c.seq.dwellOver = true) (hon : c.onRequest = true)
    (hretry : c.get Obj.Seq.FAIL_COUNT ≤ c.get Obj.Seq.RAMP_RETRY) : c.tryRamp m = c.rampBegin m := by
  rw [tryRamp, if_pos]
  simp [hao, hoff, hdev, hdwell, hon, hretry]

/-! ## The rise of SQ_UP_IN (R285, R288) -/

/-- The pin reads high, and an exhaustion of retries has ended. -/
def risen (c : Core) : Core :=
  let c1 := c.withSeq { c.seq with upIn := true }
  if c1.get Obj.Seq.RAMP_RETRY < c1.get Obj.Seq.FAIL_COUNT then c1.put Obj.Seq.FAIL_COUNT 0 else c1

@[simp] theorem risen_seq (c : Core) : c.risen.seq = { c.seq with upIn := true } := by
  unfold risen; dsimp only; split <;> simp

@[simp] theorem risen_req (c : Core) : c.risen.req = c.req := by
  unfold risen; dsimp only; split <;> simp

theorem risen_get {c : Core} {k : Nat} (h : k ≠ Obj.Seq.FAIL_COUNT) : c.risen.get k = c.get k := by
  unfold risen
  dsimp only
  split
  · rw [get_put_ne _ _ h, get_withSeq]
  · rw [get_withSeq]

theorem risen_failCount (c : Core) : c.risen.get Obj.Seq.FAIL_COUNT =
    if c.get Obj.Seq.RAMP_RETRY < c.get Obj.Seq.FAIL_COUNT then 0 else c.get Obj.Seq.FAIL_COUNT := by
  by_cases h : c.get Obj.Seq.RAMP_RETRY < c.get Obj.Seq.FAIL_COUNT
  · rw [if_pos h, risen]
    dsimp only
    rw [if_pos (by exact h), get_put_self]
  · rw [if_neg h, risen]
    dsimp only
    rw [if_neg (by exact h), get_withSeq]

/-- Once the pin has risen, retries remain. -/
theorem risen_retry (c : Core) : c.risen.get Obj.Seq.FAIL_COUNT ≤ c.risen.get Obj.Seq.RAMP_RETRY := by
  rw [risen_failCount, risen_get (by decide)]
  split <;> omega

section
variable {c : Core} (m : Memory)

theorem upInRise_of_aoDown (h : c.seq.aoUp = false) : c.upInRise m = (c.withSeq { c.seq with upIn := true }, m) := by
  simp [upInRise, h]

theorem upInRise_eq (h : c.seq.aoUp = true) : c.upInRise m =
    if !c.upEn then (c.risen, m)
    else if c.dev = Dv.lockout then (c.risen.inc Obj.Dev.LOCKOUT_ON_REQS, m)
    else if c.dev = Dv.descent then (c.risen.latchOn, m)
    else c.risen.tryRamp m := by
  rw [upInRise, if_neg (by simp [h])]
  rfl

end

end Core

/-- Settles O17: the rise and the end of the dwell by their cases; `Core.rampBegin_facts` for a RAMP that begins. -/
theorem onRequests : Obligations.OnRequests := by
  refine ⟨fun s hao => ?_, fun s hao hen => ?_, fun s hao hen hdev => ?_, fun s hao hen hdev => ?_,
    fun s hao hen hdescent hlock hoff hdwell => ?_, fun s hao hlock hoff hon hretry => ?_, fun s hao hoff hretry => ?_⟩
  · exact answersCore_onMem (fun c m => c.upInRise m) rfl (Core.upInRise_of_aoDown (c := s.clear.core) s.mem hao) (by simp)
      ⟨by simp, fun k => by simp⟩
  · have hrise : s.clear.core.upInRise s.mem = (s.clear.core.risen, s.mem) := by
      have hen' : s.clear.core.upEn = false := hen
      rw [Core.upInRise_eq (c := s.clear.core) s.mem hao, if_pos (by rw [hen']; rfl)]
    exact answersCore_onMem (fun c m => c.upInRise m) rfl hrise (by simp)
      ⟨by simp, Core.risen_failCount _, fun k hk => Core.risen_get hk⟩
  · have hrise : s.clear.core.upInRise s.mem = (s.clear.core.risen.inc Obj.Dev.LOCKOUT_ON_REQS, s.mem) := by
      have hen' : s.clear.core.upEn = true := hen
      rw [Core.upInRise_eq (c := s.clear.core) s.mem hao, if_neg (by rw [hen']; decide), if_pos (show s.clear.core.dev = _ from hdev)]
    refine answersCore_onMem (fun c m => c.upInRise m) rfl hrise (by simp [Core.inc, Core.add])
      ⟨fun hretry => ?_, ?_, fun k h1 h2 => ?_⟩
    · rw [Core.get_inc_ne _ (by decide), Core.risen_failCount, if_pos (by exact hretry)]
    · rw [Core.get_inc_self, Core.sat_eq_min, Core.risen_get (by decide), State.clear_get]
    · rw [Core.get_inc_ne _ h2, Core.risen_get h1, State.clear_get]
  · have hrise : s.clear.core.upInRise s.mem = (s.clear.core.risen.latchOn, s.mem) := by
      have hen' : s.clear.core.upEn = true := hen
      have hdev' : s.clear.core.dev = Dv.descent := hdev
      rw [Core.upInRise_eq (c := s.clear.core) s.mem hao, if_neg (by rw [hen']; decide), if_neg (by rw [hdev']; decide),
        if_pos hdev']
    refine answersCore_onMem (fun c m => c.upInRise m) rfl hrise (by simp [Core.latchOn, Core.flag]) ⟨?_, ?_, fun k h1 h2 h3 => ?_⟩
    · rw [Core.latchOn, Core.get_flag_ne _ _ (by decide), Core.get_put_self]
    · exact Core.bitOf_flag_self _ _ _
    · rw [Core.latchOn, Core.get_flag_ne _ _ h3, Core.get_put_ne _ _ h2, Core.risen_get h1, State.clear_get]
  · have hdev : s.clear.core.risen.dev = s.core.dev := Core.risen_get (by decide)
    have hrise : s.clear.core.upInRise s.mem = s.clear.core.risen.rampBegin s.mem := by
      have hen' : s.clear.core.upEn = true := hen
      rw [Core.upInRise_eq (c := s.clear.core) s.mem hao, if_neg (by rw [hen']; decide),
        if_neg (show ¬ s.clear.core.dev = _ from hlock), if_neg (show ¬ s.clear.core.dev = _ from hdescent)]
      refine Core.tryRamp_begins _ (by simpa using hao) ?_ (by rw [hdev]; exact hlock) (by simpa using hdwell) ?_
        (Core.risen_retry _)
      · rw [Core.seqState, Core.risen_get (by decide)]; exact hoff
      · have hup : s.clear.core.risen.upEn = true := by
          rw [Core.upEn, Core.bitOf, Core.risen_get (by decide)]; exact hen'
        simp [Core.onRequest, hup]
    obtain ⟨hmem, hstate, hstep, hramp, hphase, htodo, hfailed⟩ :=
      Core.rampBegin_facts (c := s.clear.core.risen) s.mem (by rw [hdev]; exact hlock)
    refine answersAll_onMem (fun c m => c.upInRise m) rfl ?_
    rw [hrise]
    exact ⟨hstate, hstep, hramp, hphase, htodo, hfailed, hmem, rfl, rfl⟩
  · have hrise : s.clear.core.dwellEnd s.mem =
        (s.clear.core.withSeq { s.clear.core.seq with dwellOver := true }).rampBegin s.mem := by
      rw [Core.dwellEnd, if_pos (show s.clear.core.seqState = 0 from hoff)]
      exact Core.tryRamp_begins _ hao hoff hlock rfl hon hretry
    obtain ⟨hmem, hstate, hstep, hramp, hphase, htodo, -⟩ :=
      Core.rampBegin_facts (c := s.clear.core.withSeq { s.clear.core.seq with dwellOver := true }) s.mem hlock
    refine answersAll_onAoMem (fun c m => c.dwellEnd m) rfl hao ?_
    rw [hrise]
    exact ⟨hstate, hstep, hramp, hphase, htodo, hmem, rfl, rfl⟩
  · have hrise : s.clear.core.dwellEnd s.mem = (s.clear.core.withSeq { s.clear.core.seq with dwellOver := true }, s.mem) := by
      rw [Core.dwellEnd, if_pos (show s.clear.core.seqState = 0 from hoff), Core.tryRamp, if_neg]
      intro h
      rw [Bool.and_eq_true] at h
      obtain ⟨-, hleft⟩ := h
      exact absurd (of_decide_eq_true hleft) (Nat.not_le.2 hretry)
    exact answersCore_onAoMem (fun c m => c.dwellEnd m) rfl hao hrise rfl ⟨rfl, fun _ => rfl⟩

end Sys2Proof.Machine
end

section
/-! PROOFS. Supervision of rails (11_power_sequencing.md R275 to R278, R281, R283): what a cut does to the rails of a tree, how an
excursion ends in each state of the sequencer, and the obligation `RailSupervision`. -/

namespace Sys2Proof.Machine

namespace Core

/-! ## A cut (R278, R283) -/

/-- What a cut does to one rail. -/
def cutRail (c : Core) (rc r : Nat) : Core :=
  if !(belowRail c.seq.table rc 16 r) || !(c.rowOf r).used then c
  else if 1 ≤ c.railState r && c.railState r ≤ 3 then
    let c1 := ((c.put (Obj.Rail.STATE r) 6).flag (Obj.Rail.FLAGS r) 0).emit (.pin (.railEn r) false)
    c1.withSeq { c1.seq with up := c1.seq.up.filter (· ≠ r) }
  else if 4 ≤ c.railState r && c.railState r ≤ 5 then c.flag (Obj.Rail.FLAGS r) 0
  else c

theorem cut_eq (c : Core) (rc : Nat) : c.cut rc = c.each 16 fun c r => c.cutRail rc r := rfl

section
variable (c : Core) (rc r : Nat)

theorem cutRail_seq : (c.cutRail rc r).seq = { c.seq with up := (c.cutRail rc r).seq.up } := by
  unfold cutRail
  split_ifs
  · rfl
  · simp [flag]
  · simp [flag]
  · rfl

theorem get_cutRail_of_ne {k : Nat} (h1 : k ≠ Obj.Rail.STATE r) (h2 : k ≠ Obj.Rail.FLAGS r) :
    (c.cutRail rc r).get k = c.get k := by
  unfold cutRail
  dsimp only
  split_ifs
  · rfl
  · rw [get_withSeq, get_emit, get_flag_ne _ _ h2, get_put_ne _ _ h1]
  · rw [get_flag_ne _ _ h2]
  · rfl

theorem sentIn_cutRail : c.SentIn (c.cutRail rc r) := by
  unfold cutRail
  refine sentIn_ite (SentIn.refl c) (sentIn_ite ?_ (sentIn_ite (sentIn_of_out (by simp [flag])) (SentIn.refl c)))
  exact (SentIn.trans (sentIn_of_out (by simp [flag])) (sentIn_emit _ _)).trans (sentIn_of_out (out_withSeq _ _))

/-- A rail that has come up and is not below the cut stays up. -/
theorem mem_up_cutRail {x : Nat} (hx : x ∈ c.seq.up) (hbelow : belowRail c.seq.table rc 16 x = false) :
    x ∈ (c.cutRail rc r).seq.up := by
  unfold cutRail
  split_ifs with hskip
  · exact hx
  · have hne : x ≠ r := by
      rintro rfl
      exact hskip (by rw [hbelow]; rfl)
    simpa [flag, hne] using hx
  · simpa [flag] using hx
  · exact hx

/-- No rail comes up by a cut. -/
theorem not_mem_up_cutRail {x : Nat} (hx : x ∉ c.seq.up) : x ∉ (c.cutRail rc r).seq.up := by
  unfold cutRail
  split_ifs
  · exact hx
  · simp [flag, hx]
  · simpa [flag] using hx
  · exact hx

/-- A rail's flags stay set. -/
theorem bitOf_cutRail {i n : Nat} (h : c.bitOf (Obj.Rail.FLAGS i) n = true) :
    (c.cutRail rc r).bitOf (Obj.Rail.FLAGS i) n = true := by
  have hflag : ∀ d : Core, d.bitOf (Obj.Rail.FLAGS i) n = true →
      (d.flag (Obj.Rail.FLAGS r) 0).bitOf (Obj.Rail.FLAGS i) n = true := fun d hd => by
    by_cases hi : i = r
    · subst hi
      rw [bitOf, get_flag_self, testBit_setBitTo]
      split
      · rfl
      · exact hd
    · rw [bitOf, get_flag_ne _ _ (by simpa using hi)]
      exact hd
  have hput : (c.put (Obj.Rail.STATE r) 6).bitOf (Obj.Rail.FLAGS i) n = true := by
    rw [bitOf, get_put_ne _ _ (by simp; omega)]
    exact h
  unfold cutRail
  dsimp only
  split_ifs
  · exact h
  · rw [bitOf, get_withSeq, get_emit]
    exact hflag _ hput
  · exact hflag c h
  · exact h

end

/-- The rail of the cut itself, where it was on. -/
theorem cutRail_self {c : Core} {rc : Nat} (hused : (c.rowOf rc).used = true) (hlo : 1 ≤ c.railState rc)
    (hhi : c.railState rc ≤ 3) : c.cutRail rc rc =
    (((c.put (Obj.Rail.STATE rc) 6).flag (Obj.Rail.FLAGS rc) 0).emit (.pin (.railEn rc) false)).withSeq
      { c.seq with up := c.seq.up.filter (· ≠ rc) } := by
  have hbelow : belowRail c.seq.table rc 16 rc = true := by simp [belowRail]
  simp [cutRail, hused, hlo, hhi, hbelow, flag]

/-- The rail of a cut has its enable released, is CUT and is not up. -/
def RailCut (rc : Nat) (d : Core) : Prop :=
  d.get (Obj.Rail.STATE rc) = 6 ∧ d.bitOf (Obj.Rail.FLAGS rc) 0 = true ∧ Out.pin (.railEn rc) false ∈ d.out ∧ rc ∉ d.seq.up

theorem railCut_cut {c : Core} {rc : Nat} (hrc : rc < 16) (hused : (c.rowOf rc).used = true) (hlo : 1 ≤ c.railState rc)
    (hhi : c.railState rc ≤ 3) : RailCut rc (c.cut rc) := by
  rw [cut_eq]
  refine each_reaches (P := fun d => d.railState rc = c.railState rc ∧ d.seq.table = c.seq.table) (Q := RailCut rc) hrc
    (fun d j hj ⟨hstate, htable⟩ => ⟨?_, ?_⟩) (fun d ⟨hstate, htable⟩ => ?_)
    (fun d j hj hj' ⟨hstate, hflag, hout, hup⟩ => ⟨?_, ?_, ?_, ?_⟩) ⟨rfl, rfl⟩
  · rw [railState, get_cutRail_of_ne d rc j (by simp; omega) (by simp; omega)]
    exact hstate
  · rw [cutRail_seq]
    exact htable
  · have hrow : (d.rowOf rc).used = true := by rw [rowOf, htable]; exact hused
    rw [cutRail_self hrow (by rw [hstate]; exact hlo) (by rw [hstate]; exact hhi)]
    refine ⟨?_, ?_, ?_, ?_⟩
    · rw [get_withSeq, get_emit, get_flag_ne _ _ (by simp), get_put_self]
    · rw [bitOf, get_withSeq, get_emit]
      exact bitOf_flag_self _ _ _
    · simp
    · simp
  · rw [get_cutRail_of_ne d rc j (by simp; omega) (by simp; omega)]
    exact hstate
  · exact bitOf_cutRail d rc j hflag
  · exact sentIn_cutRail d rc j _ hout
  · exact not_mem_up_cutRail d rc j hup

theorem cut_seq (c : Core) (rc : Nat) : (c.cut rc).seq = { c.seq with up := (c.cut rc).seq.up } := by
  rw [cut_eq]
  refine each_induct (fun d => d.seq = { c.seq with up := d.seq.up }) 16 _ c rfl fun d i _ h => ?_
  rw [cutRail_seq, h]

theorem bitOf_cut (c : Core) (rc : Nat) {i n : Nat} (h : c.bitOf (Obj.Rail.FLAGS i) n = true) :
    (c.cut rc).bitOf (Obj.Rail.FLAGS i) n = true := by
  rw [cut_eq]
  exact each_induct (fun d => d.bitOf (Obj.Rail.FLAGS i) n = true) 16 _ c h fun d j _ hd => bitOf_cutRail d rc j hd

theorem mem_up_cut {c : Core} {rc x : Nat} (hx : x ∈ c.seq.up) (hbelow : belowRail c.seq.table rc 16 x = false) :
    x ∈ (c.cut rc).seq.up := by
  rw [cut_eq]
  refine (each_induct (fun d => x ∈ d.seq.up ∧ d.seq.table = c.seq.table) 16 _ c ⟨hx, rfl⟩ fun d j _ ⟨hup, htable⟩ => ⟨?_, ?_⟩).1
  · exact mem_up_cutRail d rc j hup (by rw [htable]; exact hbelow)
  · rw [cutRail_seq]
    exact htable

theorem get_cut_of_ne {c : Core} {rc k : Nat} (h : ∀ r < 16, k ≠ Obj.Rail.STATE r ∧ k ≠ Obj.Rail.FLAGS r) :
    (c.cut rc).get k = c.get k := by
  rw [cut_eq]
  exact each_induct (fun d => d.get k = c.get k) 16 _ c rfl fun d i hi hd => by
    rw [get_cutRail_of_ne d rc i (h i hi).1 (h i hi).2, hd]

/-! ## Excursions (R276, R278, R281, R283) -/

/-- The flag of an excursion that every kind sets: UV or OV. -/
def excursionFlag (k : Excursion) : Nat := if k = .under then 3 else 2

section
variable (c : Core) (rc : Nat) (k : Excursion)

theorem get_excursionFlags_of_ne {j : Nat} (h : j ≠ Obj.Rail.FLAGS rc) : (c.excursionFlags rc k).get j = c.get j := by
  cases k <;> simp only [excursionFlags, get_flag_ne _ _ h]

theorem bitOf_excursionFlags : (c.excursionFlags rc k).bitOf (Obj.Rail.FLAGS rc) (excursionFlag k) = true := by
  cases k <;> simp [excursionFlags, excursionFlag, bitOf, get_flag_self, testBit_setBitTo]

theorem bitOf_excursionFlags_senseOpen : (c.excursionFlags rc .senseOpen).bitOf (Obj.Rail.FLAGS rc) 7 = true :=
  bitOf_flag_self _ _ _

theorem seq_excursionFlags : (c.excursionFlags rc k).seq = c.seq := by cases k <;> simp [excursionFlags, flag]
theorem fc_excursionFlags : (c.excursionFlags rc k).fc = c.fc := by cases k <;> simp [excursionFlags, flag]

theorem fcOnly_excursionRaise (b : Bool) : c.FcOnly (c.excursionRaise rc k b) := by
  have hup : ∀ (d : Core) (s : Nat), d.FcOnly (if b then d.raiseStanding s (ctxRail rc) else d.raise s (ctxRail rc)) :=
    fun d s => fcOnly_ite (fun _ => fcOnly_raiseStanding d s _) fun _ => fcOnly_raise d s _
  cases k
  · exact hup c _
  · exact hup c _
  · exact (hup c _).trans (hup _ _)

theorem sentIn_excursionRaise (b : Bool) : c.SentIn (c.excursionRaise rc k b) := by
  have hup : ∀ (d : Core) (s : Nat), d.SentIn (if b then d.raiseStanding s (ctxRail rc) else d.raise s (ctxRail rc)) :=
    fun d s => sentIn_ite (sentIn_raiseStanding d s _) (sentIn_raise d s _)
  cases k
  · exact hup c _
  · exact hup c _
  · exact (hup c _).trans (hup _ _)

/-- An excursion as it is noted: its flags, and the first failure. -/
def excursionNoted : Core := (c.excursionFlags rc k).ffail (exCause k) (some rc)

theorem get_excursionNoted_of_ne {j : Nat} (h : j ≠ Obj.Rail.FLAGS rc) : (c.excursionNoted rc k).get j = c.get j := by
  rw [excursionNoted, get_ffail, get_excursionFlags_of_ne c rc k h]

theorem bitOf_excursionNoted : (c.excursionNoted rc k).bitOf (Obj.Rail.FLAGS rc) (excursionFlag k) = true := by
  rw [bitOf, excursionNoted, get_ffail]
  exact bitOf_excursionFlags c rc k

theorem seq_excursionNoted : (c.excursionNoted rc k).seq =
    { c.seq with first := (c.excursionNoted rc k).seq.first, failed := (c.excursionNoted rc k).seq.failed } := by
  rw [excursionNoted, ffail_seq, seq_excursionFlags]

theorem fc_ffail (n : Nat) (r : Option Nat) : (c.ffail n r).fc = c.fc := by
  unfold ffail
  split
  · split <;> rfl
  · split <;> rfl

theorem fc_excursionNoted : (c.excursionNoted rc k).fc = c.fc := by rw [excursionNoted, fc_ffail, fc_excursionFlags]

end

theorem railVal_congr {c d : Core} {k : Nat} (hsource : d.get Obj.Seq.TABLE_SOURCE = c.get Obj.Seq.TABLE_SOURCE)
    (h : d.get k = c.get k) : d.railVal k = c.railVal k := by
  rw [railVal, railVal, hsource, h]

/-- An OUT rail in UP whose excursion has been noted. -/
def railOut (c : Core) (rc : Nat) (k : Excursion) : Core := (c.put (Obj.Rail.STATE rc) 3).excursionNoted rc k

section
variable (c : Core) (rc : Nat) (k : Excursion)

theorem get_railOut_of_ne {j : Nat} (h1 : j ≠ Obj.Rail.STATE rc) (h2 : j ≠ Obj.Rail.FLAGS rc) :
    (c.railOut rc k).get j = c.get j := by
  rw [railOut, get_excursionNoted_of_ne _ _ _ h2, get_put_ne _ _ h1]

theorem get_railOut_state : (c.railOut rc k).get (Obj.Rail.STATE rc) = 3 := by
  rw [railOut, get_excursionNoted_of_ne _ _ _ (by simp), get_put_self]

theorem bitOf_railOut : (c.railOut rc k).bitOf (Obj.Rail.FLAGS rc) (excursionFlag k) = true := bitOf_excursionNoted _ _ _

theorem seq_railOut : (c.railOut rc k).seq =
    { c.seq with first := (c.railOut rc k).seq.first, failed := (c.railOut rc k).seq.failed } := by
  rw [railOut, seq_excursionNoted, seq_put]

theorem fc_railOut : (c.railOut rc k).fc = c.fc := by rw [railOut, fc_excursionNoted, fc_put]

theorem railVal_railOut : (c.railOut rc k).railVal (Obj.Rail.ACTIONS rc) = c.railVal (Obj.Rail.ACTIONS rc) :=
  railVal_congr (get_railOut_of_ne c rc k (by simp; omega) (by simp; omega)) (get_railOut_of_ne c rc k (by simp) (by simp))

end

/-- RAIL_EXCURSION of a GOOD rail in UP (R278). -/
theorem railExcursion_up {c : Core} {rc : Nat} {k : Excursion} {mv : Nat} (hused : (c.rowOf rc).used = true)
    (hex : c.isExcursion rc k mv = true) (hup : c.seqState = 2) (hgood : c.railState rc = 2) : c.railExcursion rc k mv =
    if exOver k && bit 1 (c.railVal (Obj.Rail.ACTIONS rc)) then
      (((c.railOut rc k).cut rc).beginDescent ((c.railOut rc k).cut rc).descentList).excursionRaise rc k false
    else if !(exOver k) && bit 0 (c.railVal (Obj.Rail.ACTIONS rc)) then
      ((c.railOut rc k).beginDescent (c.railOut rc k).descentList).excursionRaise rc k false
    else (c.railOut rc k).excursionRaise rc k true := by
  rw [railExcursion, if_neg (by simp [hused, hex]), if_neg (by simp [hup]), if_pos hup, excursionUp, if_pos (by simp [hgood]),
    ← railVal_railOut c rc k]
  rfl

/-- In DESCENT an overvoltage of a rail that is on cuts it (R283). -/
theorem railExcursion_descent {c : Core} {rc : Nat} {k : Excursion} {mv : Nat} (hused : (c.rowOf rc).used = true)
    (hex : c.isExcursion rc k mv = true) (hdown : c.seqState = 3) (hover : exOver k = true) (hlo : 1 ≤ c.railState rc)
    (hhi : c.railState rc ≤ 3) : c.railExcursion rc k mv = ((c.excursionNoted rc k).cut rc).excursionRaise rc k false := by
  have hhi' : c.railState rc ≤ 5 := by omega
  rw [railExcursion, if_neg (by simp [hused, hex]), if_neg (by simp [hdown]), if_neg (by simp [hdown]), if_pos hdown,
    excursionDescent, if_pos (by simp [hover, hlo, hhi'])]
  rfl

/-- A standing excursion counts at its own source, and at the one of an open sense leg too. -/
theorem raises_excursionRaise {c d : Core} {rc : Nat} (hrc : rc < 16) (hfc : d.fc = c.fc)
    (hcount : ∀ src, d.get (Obj.Source.COUNT src) = c.get (Obj.Source.COUNT src)) :
    c.Raises (Src.sqUv rc) (d.excursionRaise rc .under true) ∧ c.Raises (Src.sqOv rc) (d.excursionRaise rc .over true) ∧
    c.Raises (Src.sqSense rc) (d.excursionRaise rc .senseOpen true) := by
  have hsources : ∀ r : Fin 16, (sourceInfo? (Src.sqUv r.val)).isNone = false ∧ (sourceInfo? (Src.sqOv r.val)).isNone = false ∧
      (sourceInfo? (Src.sqSense r.val)).isNone = false := by decide +kernel
  obtain ⟨huv, hov, hsense⟩ := hsources ⟨rc, hrc⟩
  refine ⟨raises_of_raiseStanding _ huv hfc (hcount _), raises_of_raiseStanding _ hov hfc (hcount _),
    (raises_of_raiseStanding _ hsense hfc (hcount _)).of_get (raiseStanding_count_ne _ _ (by simp))⟩

/-- With a rail to release, the descent keeps the objects of the rails. -/
theorem beginDescent_rail {c : Core} {l : List Nat} (h : l ≠ []) {k : Nat} (h1 : ¬ devKey k) (h2 : k ≠ Obj.Seq.SEQ_STATE)
    (h3 : ∀ i, i < 16 → k ≠ Obj.Rail.MARGIN i ∧ k ≠ Obj.Rail.MARGIN_APPLIED i) : (c.beginDescent l).get k = c.get k := by
  obtain ⟨r, t, rfl⟩ := List.exists_cons_of_ne_nil h
  exact beginDescent_keeps c r t h1 h2 h3

theorem beginDescent_facts (c : Core) {l : List Nat} (h : l ≠ []) :
    (c.beginDescent l).get Obj.Seq.SEQ_STATE = 3 ∧ (c.beginDescent l).seq.todo = l := by
  obtain ⟨r, t, rfl⟩ := List.exists_cons_of_ne_nil h
  exact ⟨beginDescent_state c r t, beginDescent_todo c r t⟩

/-! ## What a descent sends stays sent -/

theorem sentIn_setDev (c : Core) (v : Nat) : c.SentIn (c.setDev v) := by
  unfold setDev
  refine sentIn_ite (SentIn.refl c) (SentIn.trans ?_ (sentIn_of_out (out_ask _ _)))
  exact (sentIn_of_out (by simp [flag])).trans (sentIn_pins _)

theorem sentIn_resetDevice (c : Core) (n : Nat) : c.SentIn (c.resetDevice n) := by
  have hgive : ∀ (d : Core) (k : Nat), (if d.holds k n then d.release k n else d).out = d.out := fun d k => by
    split <;> rfl
  have hflush : ∀ d : Core, d.flushDone.out = d.out := fun d => by unfold flushDone; split <;> rfl
  refine (sentIn_emit c (.dram n (.reset true) false)).trans (sentIn_of_out ?_)
  unfold resetDevice
  dsimp only [List.foldl]
  rw [hflush, hgive, hgive, hgive]
  rfl

theorem sentIn_resetDram (c : Core) : c.SentIn c.resetDram := by
  unfold resetDram
  refine sentIn_each 32 _ (fun d n => ?_) c
  exact SentIn.trans (sentIn_ite (SentIn.refl d) (sentIn_resetDevice d n)) (sentIn_of_out rfl)

theorem sentIn_pmbus (c : Core) (rc code : Nat) (v : Option Nat) : c.SentIn (c.pmbus rc code v) := by
  unfold pmbus
  exact sentIn_ite (SentIn.refl c) ((sentIn_emit _ _).trans (sentIn_emit _ _))

theorem sentIn_neutralMargins (c : Core) : c.SentIn c.neutralMargins := by
  unfold neutralMargins
  refine sentIn_each 16 _ (fun d r => (sentIn_put d (Obj.Rail.MARGIN r) 0).trans (sentIn_ite (SentIn.refl _) ?_)) c
  unfold driveMargin
  exact (sentIn_put _ _ _).trans (sentIn_ite (sentIn_pmbus _ _ _ _) (sentIn_emit _ _))

theorem sentIn_driveDn (c : Core) (b : Bool) : c.SentIn (c.driveDn b) := by
  unfold driveDn
  exact sentIn_ite (SentIn.refl c) ((sentIn_of_out rfl).trans (sentIn_emit _ _))

theorem sentIn_beginDescent {c : Core} {l : List Nat} (h : l ≠ []) : c.SentIn (c.beginDescent l) := by
  unfold beginDescent
  rw [if_neg h]
  exact ((((sentIn_resetDram c).trans (sentIn_setDev _ _)).trans (sentIn_put _ _ _)).trans (sentIn_neutralMargins _)).trans
    ((sentIn_driveDn _ _).trans (sentIn_of_out (out_withSeq _ _)))

end Core

/-- Settles O20: the rules of one rail by their equations, excursions by what is noted, cut and released, in that order. -/
theorem railSupervision : Obligations.RailSupervision := by
  refine ⟨fun s rc hao hused hon => ?_, fun s rc hao hused => ?_, fun s rc => ?_, fun s rc hao hup hgood => ?_,
    fun s rc k mv hao hup hused hex hgood hact => ?_, fun s rc mv hao hup hused hex hgood hact hphase hups => ?_,
    fun s rc k mv r hao hup hused hover hex hgood hact hphase hr hbelow => ?_,
    fun s rc k mv hao hdown hused hover hex hlo hhi => ?_, fun s rc hao hout => ?_⟩
  · have hstep : s.clear.core.glitch rc.val =
        (s.clear.core.inc (Obj.Rail.GLITCHES rc.val)).flag (Obj.Rail.FLAGS rc.val) 1 := by
      have hused' : (s.clear.core.rowOf rc.val).used = true := hused
      have hon' : s.clear.core.seqState ≠ 0 := hon
      simp [Core.glitch, hused', hon']
    refine answersCore_onAo (fun c => c.glitch rc.val) rfl hao (by simp [hstep, Core.inc, Core.add, Core.flag]) ?_
    rw [hstep]
    refine ⟨?_, Core.bitOf_flag_self _ _ _, fun k h1 h2 => ?_⟩
    · rw [Core.get_flag_ne _ _ (by simp), Core.get_inc_self, Core.sat_eq_min, State.clear_get]
    · rw [Core.get_flag_ne _ _ h2, Core.get_inc_ne _ h1, State.clear_get]
  · have hsource : ∀ r : Fin 16, (sourceInfo? (Src.sqCheck r.val)).isNone = false := by decide +kernel
    have hstep : s.clear.core.comparatorTest rc.val false =
        ((s.clear.core.flag (Obj.Rail.FLAGS rc.val) 8).ffail 10 (some rc.val)).raise (Src.sqCheck rc.val) (ctxRail rc.val) := by
      have hused' : (s.clear.core.rowOf rc.val).used = true := hused
      simp [Core.comparatorTest, hused']
    refine answersThen_onAo (fun c => c.comparatorTest rc.val false) rfl hao ?_
    rw [hstep]
    have hfc := Core.fcOnly_raise ((s.clear.core.flag (Obj.Rail.FLAGS rc.val) 8).ffail 10 (some rc.val)) (Src.sqCheck rc.val)
      (ctxRail rc.val)
    refine ⟨?_, Core.raises_of_raise _ (hsource rc) ?_ ?_, hfc⟩
    · rw [Core.bitOf, hfc.get (by simp; omega), Core.get_ffail]
      exact Core.bitOf_flag_self _ _ 8
    · rw [Core.fc_ffail]; rfl
    · rw [Core.get_ffail, Core.get_flag_ne _ _ (by simp; omega), State.clear_get]
  · refine ⟨s.clear.core, ?_, fun k => rfl⟩
    have hstep : s.clear.core.comparatorTest rc.val true = s.clear.core := by simp [Core.comparatorTest]
    show Host.Outcome.next (s.onAo fun c => c.comparatorTest rc.val true) = _
    rw [State.onAo, State.when, State.onCore_eq s _ (by rw [hstep]; rfl), hstep]
    split <;> rfl
  · have hsource : ∀ r : Fin 16, (sourceInfo? (Src.sqPg r.val)).isNone = false := by decide +kernel
    have hstate : ((s.clear.core.flag (Obj.Rail.FLAGS rc.val) 6).ffail 3 (some rc.val)).seqState = 2 := by
      rw [Core.seqState, Core.get_ffail, Core.get_flag_ne _ _ (by simp; omega)]
      exact hup
    have hstep : s.clear.core.pgDisagree rc.val =
        ((s.clear.core.flag (Obj.Rail.FLAGS rc.val) 6).ffail 3 (some rc.val)).raise (Src.sqPg rc.val) (ctxRail rc.val) := by
      have hnot : ¬ s.clear.core.railState rc.val ≠ 2 := by simp [Core.railState, hgood]
      simp only [Core.pgDisagree, if_neg hnot, hstate]
      rfl
    refine answersThen_onAo (fun c => c.pgDisagree rc.val) rfl hao ?_
    rw [hstep]
    have hfc := Core.fcOnly_raise ((s.clear.core.flag (Obj.Rail.FLAGS rc.val) 6).ffail 3 (some rc.val)) (Src.sqPg rc.val)
      (ctxRail rc.val)
    refine ⟨?_, ?_, Core.raises_of_raise _ (hsource rc) ?_ ?_, hfc⟩
    · rw [hfc.get (by simp; omega), Core.get_ffail, Core.get_flag_ne _ _ (by simp), State.clear_get, hgood]
    · rw [Core.bitOf, hfc.get (by simp; omega), Core.get_ffail]
      exact Core.bitOf_flag_self _ _ 6
    · rw [Core.fc_ffail]; rfl
    · rw [Core.get_ffail, Core.get_flag_ne _ _ (by simp; omega), State.clear_get]
  · have hstep : s.clear.core.railExcursion rc.val k mv = (s.clear.core.railOut rc.val k).excursionRaise rc.val k true := by
      rw [Core.railExcursion_up (c := s.clear.core) hused hex hup hgood]
      have hact' : (s.clear.core.railVal (Obj.Rail.ACTIONS rc.val)).testBit (if k = .under then 0 else 1) = false := hact
      cases k <;> simp [exOver, bit] at hact' ⊢ <;> simp [hact']
    have hfc := Core.fcOnly_excursionRaise (s.clear.core.railOut rc.val k) rc.val k true
    obtain ⟨huv, hov, hsense⟩ := Core.raises_excursionRaise (c := s.core) (d := s.clear.core.railOut rc.val k) rc.isLt
      (by rw [Core.fc_railOut]; rfl) (fun src => Core.get_railOut_of_ne _ _ _ (by simp; omega) (by simp; omega))
    refine answersThen_onAo (fun c => c.railExcursion rc.val k mv) rfl hao ?_
    rw [hstep]
    refine ⟨?_, ?_, ?_, ?_, ?_, fun j h h1 h2 => ?_⟩
    · rw [hfc.get (by simp; omega), Core.get_railOut_state]
    · rw [Core.bitOf, hfc.get (by simp; omega)]
      exact Core.bitOf_railOut _ _ _
    · rintro rfl
      refine ⟨?_, hsense⟩
      rw [Core.bitOf, hfc.get (by simp; omega), Core.railOut, Core.excursionNoted, Core.get_ffail]
      exact Core.bitOf_excursionFlags_senseOpen _ _
    · rintro rfl
      exact huv
    · rintro rfl
      exact hov
    · rw [hfc.get h, Core.get_railOut_of_ne _ _ _ h1 h2, State.clear_get]
  · have hstep : s.clear.core.railExcursion rc.val .under mv =
        ((s.clear.core.railOut rc.val .under).beginDescent s.core.seq.up.reverse).excursionRaise rc.val .under false := by
      have hact' : bit 0 (s.clear.core.railVal (Obj.Rail.ACTIONS rc.val)) = true := hact
      have hlist : (s.clear.core.railOut rc.val .under).descentList = s.core.seq.up.reverse := by
        rw [Core.descentList, Core.seq_railOut]
        simp [hphase]
      rw [Core.railExcursion_up (c := s.clear.core) (k := .under) hused hex hup hgood, if_neg (by simp [exOver]),
        if_pos (by rw [hact']; rfl), hlist]
    have hne : s.core.seq.up.reverse ≠ [] := by simpa using hups
    have hfc := Core.fcOnly_excursionRaise ((s.clear.core.railOut rc.val .under).beginDescent s.core.seq.up.reverse) rc.val
      .under false
    obtain ⟨hseq, htodo⟩ := Core.beginDescent_facts (s.clear.core.railOut rc.val .under) hne
    refine answersThen_onAo (fun c => c.railExcursion rc.val .under mv) rfl hao ?_
    rw [hstep]
    refine ⟨?_, ?_, ?_, ?_⟩
    · rw [hfc.get (by decide), hseq]
    · rw [hfc.seq, htodo]
    · rw [hfc.get (by simp; omega), Core.beginDescent_rail hne (by simp; omega) (by simp; omega)
        (fun i hi => ⟨by simp; omega, by simp; omega⟩), Core.get_railOut_state]
    · rw [Core.bitOf, hfc.get (by simp; omega), Core.beginDescent_rail hne (by simp; omega) (by simp; omega)
        (fun i hi => ⟨by simp; omega, by simp; omega⟩)]
      exact Core.bitOf_railOut _ _ _
  · have hkind : exOver k = true := by cases k <;> simp_all [exOver]
    have hflagno : Core.excursionFlag k = 2 := if_neg hover
    generalize hd : (s.clear.core.railOut rc.val k).cut rc.val = d
    have hcut : Core.RailCut rc.val d := hd ▸ Core.railCut_cut rc.isLt
      (by rw [Core.rowOf, Core.seq_railOut]; exact hused) (by rw [Core.railState, Core.get_railOut_state]; decide)
      (by rw [Core.railState, Core.get_railOut_state])
    obtain ⟨hstate, hflag, hout, hnot⟩ := hcut
    have hups : r ∈ d.seq.up := hd ▸ Core.mem_up_cut (by rw [Core.seq_railOut]; exact hr) (by rw [Core.seq_railOut]; exact hbelow)
    have hlist : d.descentList = d.seq.up.reverse := by
      have hrest : d.seq.phase = .rest := by rw [← hd, Core.cut_seq, Core.seq_railOut]; exact hphase
      rw [Core.descentList, hrest]
      rfl
    have hstep : s.clear.core.railExcursion rc.val k mv =
        (d.beginDescent d.seq.up.reverse).excursionRaise rc.val k false := by
      have hact' : bit 1 (s.clear.core.railVal (Obj.Rail.ACTIONS rc.val)) = true := hact
      rw [Core.railExcursion_up (c := s.clear.core) hused hex hup hgood, if_pos (by rw [hkind, hact']; rfl), hd, hlist]
    have hne : d.seq.up.reverse ≠ [] := by
      rw [ne_eq, List.reverse_eq_nil_iff]
      exact List.ne_nil_of_mem hups
    have hfc := Core.fcOnly_excursionRaise (d.beginDescent d.seq.up.reverse) rc.val k false
    obtain ⟨hseq, htodo⟩ := Core.beginDescent_facts d hne
    have hkeep : ∀ j, j = Obj.Rail.STATE rc.val ∨ j = Obj.Rail.FLAGS rc.val →
        ((d.beginDescent d.seq.up.reverse).excursionRaise rc.val k false).get j = d.get j := by
      rintro j (rfl | rfl)
      all_goals rw [hfc.get (by simp; omega), Core.beginDescent_rail hne (by simp; omega) (by simp; omega)
        (fun i hi => ⟨by simp; omega, by simp; omega⟩)]
    refine answersThen_onAo (fun c => c.railExcursion rc.val k mv) rfl hao ?_
    rw [hstep]
    refine ⟨?_, ?_, ?_, ?_, ?_, ?_, ?_⟩
    · rw [hkeep _ (.inl rfl), hstate]
    · rw [Core.bitOf, hkeep _ (.inr rfl)]
      exact hflag
    · rw [Core.bitOf, hkeep _ (.inr rfl), ← hd]
      exact Core.bitOf_cut _ _ (hflagno ▸ Core.bitOf_railOut _ _ _)
    · exact Core.sentIn_excursionRaise _ _ _ _ _ (Core.sentIn_beginDescent hne _ hout)
    · rw [hfc.get (by decide), hseq]
    · rw [hfc.seq, htodo]
      simpa using hups
    · rw [hfc.seq, htodo]
      simpa using hnot
  · have hkind : exOver k = true := by cases k <;> simp_all [exOver]
    have hkept : (s.clear.core.excursionNoted rc.val k).railState rc.val = s.core.get (Obj.Rail.STATE rc.val) :=
      Core.get_excursionNoted_of_ne _ _ _ (by simp)
    have hcut := Core.railCut_cut (c := s.clear.core.excursionNoted rc.val k) rc.isLt
      (by rw [Core.rowOf, Core.seq_excursionNoted]; exact hused) (by rw [hkept]; exact hlo) (by rw [hkept]; exact hhi)
    obtain ⟨hstate, hflag, hout, hnot⟩ := hcut
    have hstep : s.clear.core.railExcursion rc.val k mv =
        ((s.clear.core.excursionNoted rc.val k).cut rc.val).excursionRaise rc.val k false :=
      Core.railExcursion_descent (c := s.clear.core) hused hex hdown hkind hlo hhi
    have hfc := Core.fcOnly_excursionRaise ((s.clear.core.excursionNoted rc.val k).cut rc.val) rc.val k false
    refine answersThen_onAo (fun c => c.railExcursion rc.val k mv) rfl hao ?_
    rw [hstep]
    refine ⟨?_, ?_, Core.sentIn_excursionRaise _ _ _ _ _ hout, ?_⟩
    · rw [hfc.get (by simp; omega), hstate]
    · rw [Core.bitOf, hfc.get (by simp; omega)]
      exact hflag
    · rw [hfc.seq]
      exact hnot
  · have hstep : s.clear.core.railRecover rc.val = (((s.clear.core.put (Obj.Rail.STATE rc.val) 2).endStanding
        (Src.sqOv rc.val)).endStanding (Src.sqUv rc.val)).endStanding (Src.sqSense rc.val) := by
      simp [Core.railRecover, Core.railState, hout]
    have hrc := rc.isLt
    refine answersThen_onAo (fun c => c.railRecover rc.val) rfl hao ?_
    rw [hstep]
    exact ((Core.fcOnly_endStanding _ _ (by simp only [Src.sqOv]; omega)).trans
      (Core.fcOnly_endStanding _ _ (by simp only [Src.sqUv]; omega))).trans
        (Core.fcOnly_endStanding _ _ (by simp only [Src.sqSense]; omega))

end Sys2Proof.Machine
end

section
/-! PROOFS. What an event leaves of the collector for other sources (12_fault_collection.md R303, R315, R316, R322): whether it runs,
the pairs, the injections and, unless its source opens a window, what the windows mask. -/

namespace Sys2Proof.Machine

namespace Core

variable {c d e : Core}

/-- The collector hears every source in `d` as in `c`. -/
def SameEar (c d : Core) : Prop :=
  d.fc.running = c.fc.running ∧ d.fc.injecting = c.fc.injecting ∧ d.fc.pairs = c.fc.pairs ∧
    ∀ t, (d.fc.windows.any fun w => w.scope.contains t) = c.fc.windows.any fun w => w.scope.contains t

theorem SameEar.refl (c : Core) : c.SameEar c := ⟨rfl, rfl, rfl, fun _ => rfl⟩

theorem SameEar.trans (h : c.SameEar d) (h' : d.SameEar e) : c.SameEar e := by
  obtain ⟨h1, h2, h3, h4⟩ := h
  obtain ⟨k1, k2, k3, k4⟩ := h'
  exact ⟨k1.trans h1, k2.trans h2, k3.trans h3, fun t => (k4 t).trans (h4 t)⟩

theorem sameEar_of_fc (h : d.fc = c.fc) : c.SameEar d := by
  rw [SameEar, h]
  exact ⟨rfl, rfl, rfl, fun _ => rfl⟩

theorem sameEar_ite {b : Prop} [Decidable b] {x y : Core} (hx : b → c.SameEar x) (hy : ¬ b → c.SameEar y) :
    c.SameEar (if b then x else y) := by
  split
  · next h => exact hx h
  · next h => exact hy h

theorem sameEar_each (n : Nat) (f : Core → Nat → Core) (hf : ∀ (d : Core) (i : Nat), i < n → d.SameEar (f d i)) (c : Core) :
    c.SameEar (c.each n f) :=
  each_induct (fun d => c.SameEar d) n f c (SameEar.refl c) fun d i hi h => h.trans (hf d i hi)

theorem SameEar.hears {src : Nat} (h : c.SameEar d) (hears : c.Hears src) : d.Hears src := by
  obtain ⟨h1, h2, h3, h4⟩ := h
  unfold Hears injected pairOf at hears ⊢
  rw [h1, h2, h3, h4]
  exact hears

/-- A suppressed event leaves what the windows mask. -/
theorem any_scope_suppressIn (s t : Nat) (x : FaultCtx) (l : List QuietWindow) :
    ((suppressIn s x l).any fun w => w.scope.contains t) = l.any fun w => w.scope.contains t := by
  induction l with
  | nil => rfl
  | cons w l ih =>
    unfold suppressIn
    split
    · rfl
    · rw [List.any_cons, List.any_cons, ih]

theorem sameEar_pins (c : Core) : c.SameEar c.pins := by
  unfold pins
  refine SameEar.trans ?_ (sameEar_of_fc (fc_put _ _ _))
  refine SameEar.trans (d := if c.errLevel = c.fc.errN then c
    else (c.withFc { c.fc with errN := c.errLevel }).emit (.pin .errN c.errLevel)) ?_ ?_
  · exact sameEar_ite (fun _ => SameEar.refl c) fun _ => ⟨rfl, rfl, rfl, fun _ => rfl⟩
  · exact sameEar_ite (fun _ => SameEar.refl _) fun _ => ⟨rfl, rfl, rfl, fun _ => rfl⟩

theorem fc_capture (c : Core) (r sev : Nat) (m : Marks) : (c.capture r sev m).fc = c.fc := by
  unfold capture
  dsimp only
  split_ifs <;> simp [flag, inc, add]

theorem fc_countEvent (c : Core) (s sev : Nat) (m : Marks) : (c.countEvent s sev m).fc = c.fc := by
  unfold countEvent
  dsimp only
  split_ifs <;> simp [inc, inc64, add, flag]

/-- The windows of OFFLINE subchannels and halves are the only ones that an event opens itself. -/
theorem fc_act {c : Core} {s a r : Nat} (h4 : (sourceInfo s).reaction ≠ 4) (h5 : (sourceInfo s).reaction ≠ 5) :
    (c.act s a r).fc = c.fc := by
  unfold act
  dsimp only
  repeat' split
  all_goals simp_all [touch, flag]

theorem sameEar_event {c : Core} {s : Nat} (m : Marks) (x : FaultCtx) (h4 : (sourceInfo s).reaction ≠ 4)
    (h5 : (sourceInfo s).reaction ≠ 5) : c.SameEar (c.event s m x) := by
  unfold event
  refine sameEar_ite (fun _ => ?_) fun _ => ?_
  · exact ⟨rfl, rfl, rfl, fun t => any_scope_suppressIn s t x _⟩
  · refine SameEar.trans (SameEar.trans (sameEar_of_fc (fc_countEvent c s _ m)) (sameEar_ite (fun _ => ?_) fun _ => SameEar.refl _))
      (sameEar_pins _)
    dsimp only
    refine SameEar.trans ?_ (sameEar_of_fc ((fc_act h4 h5).trans (fc_capture _ _ _ _)))
    exact ⟨rfl, rfl, rfl, fun _ => rfl⟩

/-- A source that opens no window of its own leaves the collector's ear for every source. -/
theorem sameEar_raise {c : Core} {s : Nat} (x : FaultCtx) (h4 : (sourceInfo s).reaction ≠ 4)
    (h5 : (sourceInfo s).reaction ≠ 5) : c.SameEar (c.raise s x) := by
  unfold raise
  refine sameEar_ite (fun _ => SameEar.refl c) fun _ => sameEar_ite (fun _ => ⟨rfl, rfl, rfl, fun _ => rfl⟩) fun _ =>
    sameEar_ite (fun _ => sameEar_ite (fun _ => SameEar.refl c) fun _ => ⟨rfl, rfl, rfl, fun _ => rfl⟩) fun _ =>
      sameEar_ite (fun _ => SameEar.refl c) fun _ => sameEar_event _ x h4 h5

/-- A command raises a source after effects under which the collector still hears it and its COUNT stands. -/
theorem raises_of_sameEar {src : Nat} (x : FaultCtx) (hs : (sourceInfo? src).isNone = false) (hear : c.SameEar d)
    (hcount : d.get (Obj.Source.COUNT src) = c.get (Obj.Source.COUNT src)) : c.Raises src (d.raise src x) := fun hears => by
  rw [raises_raise d src x hs (hear.hears hears), hcount]

end Core

end Sys2Proof.Machine
end

section
/-! PROOFS. What an event leaves of the hub's engines (12_fault_collection.md R303): every part of the state but the objects of the
collector, what leaves the hub and what it asks of other blocks, field by field. -/

namespace Sys2Proof.Machine

namespace Core

variable {c d : Core}

theorem FcOnly.timeRuns (h : c.FcOnly d) : d.timeRuns = c.timeRuns := by rw [h.1]
theorem FcOnly.drawn (h : c.FcOnly d) : d.drawn = c.drawn := by rw [h.1]
theorem FcOnly.sluice (h : c.FcOnly d) : d.sluice = c.sluice := by rw [h.1]
theorem FcOnly.ddr (h : c.FcOnly d) : d.ddr = c.ddr := by rw [h.1]
theorem FcOnly.ecc (h : c.FcOnly d) : d.ecc = c.ecc := by rw [h.1]
theorem FcOnly.eccSeq (h : c.FcOnly d) : d.eccSeq = c.eccSeq := by rw [h.1]
theorem FcOnly.ft (h : c.FcOnly d) : d.ft = c.ft := by rw [h.1]
theorem FcOnly.mon (h : c.FcOnly d) : d.mon = c.mon := by rw [h.1]
theorem FcOnly.start (h : c.FcOnly d) : d.start = c.start := by rw [h.1]
theorem FcOnly.streams (h : c.FcOnly d) : d.streams = c.streams := by rw [h.1]
theorem FcOnly.rings (h : c.FcOnly d) : d.rings = c.rings := by rw [h.1]
theorem FcOnly.wins (h : c.FcOnly d) : d.wins = c.wins := by rw [h.1]
theorem FcOnly.freezes (h : c.FcOnly d) : d.freezes = c.freezes := by rw [h.1]
theorem FcOnly.throttled (h : c.FcOnly d) : d.throttled = c.throttled := by rw [h.1]
theorem FcOnly.overHigh (h : c.FcOnly d) : d.overHigh = c.overHigh := by rw [h.1]
theorem FcOnly.ctxs (h : c.FcOnly d) : d.ctxs = c.ctxs := by rw [h.1]
theorem FcOnly.cache (h : c.FcOnly d) : d.cache = c.cache := by rw [h.1]
theorem FcOnly.updLog (h : c.FcOnly d) : d.updLog = c.updLog := by rw [h.1]
theorem FcOnly.jobs (h : c.FcOnly d) : d.jobs = c.jobs := by rw [h.1]
theorem FcOnly.freeing (h : c.FcOnly d) : d.freeing = c.freeing := by rw [h.1]
theorem FcOnly.shown (h : c.FcOnly d) : d.shown = c.shown := by rw [h.1]
theorem FcOnly.sessions (h : c.FcOnly d) : d.sessions = c.sessions := by rw [h.1]
theorem FcOnly.checkpoints (h : c.FcOnly d) : d.checkpoints = c.checkpoints := by rw [h.1]
theorem FcOnly.chainFails (h : c.FcOnly d) : d.chainFails = c.chainFails := by rw [h.1]
theorem FcOnly.dll (h : c.FcOnly d) : d.dll = c.dll := by rw [h.1]
theorem FcOnly.srQueue (h : c.FcOnly d) : d.srQueue = c.srQueue := by rw [h.1]
theorem FcOnly.srBegins (h : c.FcOnly d) : d.srBegins = c.srBegins := by rw [h.1]
theorem FcOnly.halves (h : c.FcOnly d) : d.halves = c.halves := by rw [h.1]
theorem FcOnly.images (h : c.FcOnly d) : d.images = c.images := by rw [h.1]
theorem FcOnly.imageOpen (h : c.FcOnly d) : d.imageOpen = c.imageOpen := by rw [h.1]
theorem FcOnly.spill (h : c.FcOnly d) : d.spill = c.spill := by rw [h.1]
theorem FcOnly.flash (h : c.FcOnly d) : d.flash = c.flash := by rw [h.1]
theorem FcOnly.tap (h : c.FcOnly d) : d.tap = c.tap := by rw [h.1]
theorem FcOnly.mg (h : c.FcOnly d) : d.mg = c.mg := by rw [h.1]
theorem FcOnly.sail (h : c.FcOnly d) : d.sail = c.sail := by rw [h.1]
theorem FcOnly.time (h : c.FcOnly d) : d.time = c.time := by rw [h.1]
theorem FcOnly.decisions (h : c.FcOnly d) : d.decisions = c.decisions := by rw [h.1]

theorem FcOnly.mcOf (h : c.FcOnly d) (i : Nat) : d.mcOf i = c.mcOf i := by rw [Core.mcOf, Core.mcOf, h.mc]
theorem FcOnly.portOf (h : c.FcOnly d) (i : Nat) : d.portOf i = c.portOf i := by rw [Core.portOf, Core.portOf, h.hr]
theorem FcOnly.ddrOf (h : c.FcOnly d) (i : Nat) : d.ddrOf i = c.ddrOf i := by rw [Core.ddrOf, Core.ddrOf, h.ddr]
theorem FcOnly.eccOf (h : c.FcOnly d) (i : Nat) : d.eccOf i = c.eccOf i := by rw [Core.eccOf, Core.eccOf, h.ecc]
theorem FcOnly.ftOf (h : c.FcOnly d) (i : Nat) : d.ftOf i = c.ftOf i := by rw [Core.ftOf, Core.ftOf, h.ft]
theorem FcOnly.monOf (h : c.FcOnly d) (i : Nat) : d.monOf i = c.monOf i := by rw [Core.monOf, Core.monOf, h.mon]
theorem FcOnly.streamOf (h : c.FcOnly d) (i : Nat) : d.streamOf i = c.streamOf i := by rw [Core.streamOf, Core.streamOf, h.streams]
theorem FcOnly.ringOf (h : c.FcOnly d) (i : Nat) : d.ringOf i = c.ringOf i := by rw [Core.ringOf, Core.ringOf, h.rings]
theorem FcOnly.winOf (h : c.FcOnly d) (i : Nat) : d.winOf i = c.winOf i := by rw [Core.winOf, Core.winOf, h.wins]
theorem FcOnly.ctxOf (h : c.FcOnly d) (i : Nat) : d.ctxOf i = c.ctxOf i := by rw [Core.ctxOf, Core.ctxOf, h.ctxs]
theorem FcOnly.jobOf (h : c.FcOnly d) (i : Nat) : d.jobOf i = c.jobOf i := by rw [Core.jobOf, Core.jobOf, h.jobs]
theorem FcOnly.halfSt (h : c.FcOnly d) (i : Nat) : d.halfSt i = c.halfSt i := by rw [Core.halfSt, Core.halfSt, h.halves]
theorem FcOnly.sessionOf (h : c.FcOnly d) (i : Nat) : d.sessionOf i = c.sessionOf i := by rw [Core.sessionOf, Core.sessionOf, h.sessions]
theorem FcOnly.sailOf (h : c.FcOnly d) (i : Nat) : d.sailOf i = c.sailOf i := by rw [Core.sailOf, Core.sailOf, h.sail]
theorem FcOnly.imageOf (h : c.FcOnly d) (i : Nat) : d.imageOf i = c.imageOf i := by rw [Core.imageOf, Core.imageOf, h.images]

section
variable (c : Core) (s : Nat) (x : FaultCtx)

@[simp] theorem hubTime_raise : (c.raise s x).hubTime = c.hubTime := (fcOnly_raise c s x).hubTime
@[simp] theorem timeRuns_raise : (c.raise s x).timeRuns = c.timeRuns := (fcOnly_raise c s x).timeRuns
@[simp] theorem drawn_raise : (c.raise s x).drawn = c.drawn := (fcOnly_raise c s x).drawn
@[simp] theorem sluice_raise : (c.raise s x).sluice = c.sluice := (fcOnly_raise c s x).sluice
@[simp] theorem ddr_raise : (c.raise s x).ddr = c.ddr := (fcOnly_raise c s x).ddr
@[simp] theorem ecc_raise : (c.raise s x).ecc = c.ecc := (fcOnly_raise c s x).ecc
@[simp] theorem eccSeq_raise : (c.raise s x).eccSeq = c.eccSeq := (fcOnly_raise c s x).eccSeq
@[simp] theorem ft_raise : (c.raise s x).ft = c.ft := (fcOnly_raise c s x).ft
@[simp] theorem mon_raise : (c.raise s x).mon = c.mon := (fcOnly_raise c s x).mon
@[simp] theorem start_raise : (c.raise s x).start = c.start := (fcOnly_raise c s x).start
@[simp] theorem streams_raise : (c.raise s x).streams = c.streams := (fcOnly_raise c s x).streams
@[simp] theorem rings_raise : (c.raise s x).rings = c.rings := (fcOnly_raise c s x).rings
@[simp] theorem wins_raise : (c.raise s x).wins = c.wins := (fcOnly_raise c s x).wins
@[simp] theorem freezes_raise : (c.raise s x).freezes = c.freezes := (fcOnly_raise c s x).freezes
@[simp] theorem throttled_raise : (c.raise s x).throttled = c.throttled := (fcOnly_raise c s x).throttled
@[simp] theorem overHigh_raise : (c.raise s x).overHigh = c.overHigh := (fcOnly_raise c s x).overHigh
@[simp] theorem ctxs_raise : (c.raise s x).ctxs = c.ctxs := (fcOnly_raise c s x).ctxs
@[simp] theorem cache_raise : (c.raise s x).cache = c.cache := (fcOnly_raise c s x).cache
@[simp] theorem updLog_raise : (c.raise s x).updLog = c.updLog := (fcOnly_raise c s x).updLog
@[simp] theorem jobs_raise : (c.raise s x).jobs = c.jobs := (fcOnly_raise c s x).jobs
@[simp] theorem freeing_raise : (c.raise s x).freeing = c.freeing := (fcOnly_raise c s x).freeing
@[simp] theorem shown_raise : (c.raise s x).shown = c.shown := (fcOnly_raise c s x).shown
@[simp] theorem sessions_raise : (c.raise s x).sessions = c.sessions := (fcOnly_raise c s x).sessions
@[simp] theorem checkpoints_raise : (c.raise s x).checkpoints = c.checkpoints := (fcOnly_raise c s x).checkpoints
@[simp] theorem chainFails_raise : (c.raise s x).chainFails = c.chainFails := (fcOnly_raise c s x).chainFails
@[simp] theorem dll_raise : (c.raise s x).dll = c.dll := (fcOnly_raise c s x).dll
@[simp] theorem srQueue_raise : (c.raise s x).srQueue = c.srQueue := (fcOnly_raise c s x).srQueue
@[simp] theorem srBegins_raise : (c.raise s x).srBegins = c.srBegins := (fcOnly_raise c s x).srBegins
@[simp] theorem halves_raise : (c.raise s x).halves = c.halves := (fcOnly_raise c s x).halves
@[simp] theorem images_raise : (c.raise s x).images = c.images := (fcOnly_raise c s x).images
@[simp] theorem imageOpen_raise : (c.raise s x).imageOpen = c.imageOpen := (fcOnly_raise c s x).imageOpen
@[simp] theorem spill_raise : (c.raise s x).spill = c.spill := (fcOnly_raise c s x).spill
@[simp] theorem flash_raise : (c.raise s x).flash = c.flash := (fcOnly_raise c s x).flash
@[simp] theorem tap_raise : (c.raise s x).tap = c.tap := (fcOnly_raise c s x).tap
@[simp] theorem mg_raise : (c.raise s x).mg = c.mg := (fcOnly_raise c s x).mg
@[simp] theorem sail_raise : (c.raise s x).sail = c.sail := (fcOnly_raise c s x).sail
@[simp] theorem time_raise : (c.raise s x).time = c.time := (fcOnly_raise c s x).time
@[simp] theorem decisions_raise : (c.raise s x).decisions = c.decisions := (fcOnly_raise c s x).decisions
@[simp] theorem tick_raise : (c.raise s x).tick = c.tick := (fcOnly_raise c s x).tick
@[simp] theorem mc_raise : (c.raise s x).mc = c.mc := (fcOnly_raise c s x).mc
@[simp] theorem hr_raise : (c.raise s x).hr = c.hr := (fcOnly_raise c s x).hr
@[simp] theorem seq_raise : (c.raise s x).seq = c.seq := (fcOnly_raise c s x).seq
@[simp] theorem mcOf_raise (i : Nat) : (c.raise s x).mcOf i = c.mcOf i := (fcOnly_raise c s x).mcOf i
@[simp] theorem portOf_raise (i : Nat) : (c.raise s x).portOf i = c.portOf i := (fcOnly_raise c s x).portOf i
@[simp] theorem ddrOf_raise (i : Nat) : (c.raise s x).ddrOf i = c.ddrOf i := (fcOnly_raise c s x).ddrOf i
@[simp] theorem eccOf_raise (i : Nat) : (c.raise s x).eccOf i = c.eccOf i := (fcOnly_raise c s x).eccOf i
@[simp] theorem ftOf_raise (i : Nat) : (c.raise s x).ftOf i = c.ftOf i := (fcOnly_raise c s x).ftOf i
@[simp] theorem monOf_raise (i : Nat) : (c.raise s x).monOf i = c.monOf i := (fcOnly_raise c s x).monOf i
@[simp] theorem streamOf_raise (i : Nat) : (c.raise s x).streamOf i = c.streamOf i := (fcOnly_raise c s x).streamOf i
@[simp] theorem ringOf_raise (i : Nat) : (c.raise s x).ringOf i = c.ringOf i := (fcOnly_raise c s x).ringOf i
@[simp] theorem winOf_raise (i : Nat) : (c.raise s x).winOf i = c.winOf i := (fcOnly_raise c s x).winOf i
@[simp] theorem ctxOf_raise (i : Nat) : (c.raise s x).ctxOf i = c.ctxOf i := (fcOnly_raise c s x).ctxOf i
@[simp] theorem jobOf_raise (i : Nat) : (c.raise s x).jobOf i = c.jobOf i := (fcOnly_raise c s x).jobOf i
@[simp] theorem halfSt_raise (i : Nat) : (c.raise s x).halfSt i = c.halfSt i := (fcOnly_raise c s x).halfSt i
@[simp] theorem sessionOf_raise (i : Nat) : (c.raise s x).sessionOf i = c.sessionOf i := (fcOnly_raise c s x).sessionOf i
@[simp] theorem sailOf_raise (i : Nat) : (c.raise s x).sailOf i = c.sailOf i := (fcOnly_raise c s x).sailOf i
@[simp] theorem imageOf_raise (i : Nat) : (c.raise s x).imageOf i = c.imageOf i := (fcOnly_raise c s x).imageOf i

@[simp] theorem hubTime_raiseStanding : (c.raiseStanding s x).hubTime = c.hubTime := (fcOnly_raiseStanding c s x).hubTime
@[simp] theorem timeRuns_raiseStanding : (c.raiseStanding s x).timeRuns = c.timeRuns := (fcOnly_raiseStanding c s x).timeRuns
@[simp] theorem drawn_raiseStanding : (c.raiseStanding s x).drawn = c.drawn := (fcOnly_raiseStanding c s x).drawn
@[simp] theorem sluice_raiseStanding : (c.raiseStanding s x).sluice = c.sluice := (fcOnly_raiseStanding c s x).sluice
@[simp] theorem ddr_raiseStanding : (c.raiseStanding s x).ddr = c.ddr := (fcOnly_raiseStanding c s x).ddr
@[simp] theorem ecc_raiseStanding : (c.raiseStanding s x).ecc = c.ecc := (fcOnly_raiseStanding c s x).ecc
@[simp] theorem eccSeq_raiseStanding : (c.raiseStanding s x).eccSeq = c.eccSeq := (fcOnly_raiseStanding c s x).eccSeq
@[simp] theorem ft_raiseStanding : (c.raiseStanding s x).ft = c.ft := (fcOnly_raiseStanding c s x).ft
@[simp] theorem mon_raiseStanding : (c.raiseStanding s x).mon = c.mon := (fcOnly_raiseStanding c s x).mon
@[simp] theorem start_raiseStanding : (c.raiseStanding s x).start = c.start := (fcOnly_raiseStanding c s x).start
@[simp] theorem streams_raiseStanding : (c.raiseStanding s x).streams = c.streams := (fcOnly_raiseStanding c s x).streams
@[simp] theorem rings_raiseStanding : (c.raiseStanding s x).rings = c.rings := (fcOnly_raiseStanding c s x).rings
@[simp] theorem wins_raiseStanding : (c.raiseStanding s x).wins = c.wins := (fcOnly_raiseStanding c s x).wins
@[simp] theorem freezes_raiseStanding : (c.raiseStanding s x).freezes = c.freezes := (fcOnly_raiseStanding c s x).freezes
@[simp] theorem throttled_raiseStanding : (c.raiseStanding s x).throttled = c.throttled := (fcOnly_raiseStanding c s x).throttled
@[simp] theorem overHigh_raiseStanding : (c.raiseStanding s x).overHigh = c.overHigh := (fcOnly_raiseStanding c s x).overHigh
@[simp] theorem ctxs_raiseStanding : (c.raiseStanding s x).ctxs = c.ctxs := (fcOnly_raiseStanding c s x).ctxs
@[simp] theorem cache_raiseStanding : (c.raiseStanding s x).cache = c.cache := (fcOnly_raiseStanding c s x).cache
@[simp] theorem updLog_raiseStanding : (c.raiseStanding s x).updLog = c.updLog := (fcOnly_raiseStanding c s x).updLog
@[simp] theorem jobs_raiseStanding : (c.raiseStanding s x).jobs = c.jobs := (fcOnly_raiseStanding c s x).jobs
@[simp] theorem freeing_raiseStanding : (c.raiseStanding s x).freeing = c.freeing := (fcOnly_raiseStanding c s x).freeing
@[simp] theorem shown_raiseStanding : (c.raiseStanding s x).shown = c.shown := (fcOnly_raiseStanding c s x).shown
@[simp] theorem sessions_raiseStanding : (c.raiseStanding s x).sessions = c.sessions := (fcOnly_raiseStanding c s x).sessions
@[simp] theorem checkpoints_raiseStanding : (c.raiseStanding s x).checkpoints = c.checkpoints := (fcOnly_raiseStanding c s x).checkpoints
@[simp] theorem chainFails_raiseStanding : (c.raiseStanding s x).chainFails = c.chainFails := (fcOnly_raiseStanding c s x).chainFails
@[simp] theorem dll_raiseStanding : (c.raiseStanding s x).dll = c.dll := (fcOnly_raiseStanding c s x).dll
@[simp] theorem srQueue_raiseStanding : (c.raiseStanding s x).srQueue = c.srQueue := (fcOnly_raiseStanding c s x).srQueue
@[simp] theorem srBegins_raiseStanding : (c.raiseStanding s x).srBegins = c.srBegins := (fcOnly_raiseStanding c s x).srBegins
@[simp] theorem halves_raiseStanding : (c.raiseStanding s x).halves = c.halves := (fcOnly_raiseStanding c s x).halves
@[simp] theorem images_raiseStanding : (c.raiseStanding s x).images = c.images := (fcOnly_raiseStanding c s x).images
@[simp] theorem imageOpen_raiseStanding : (c.raiseStanding s x).imageOpen = c.imageOpen := (fcOnly_raiseStanding c s x).imageOpen
@[simp] theorem spill_raiseStanding : (c.raiseStanding s x).spill = c.spill := (fcOnly_raiseStanding c s x).spill
@[simp] theorem flash_raiseStanding : (c.raiseStanding s x).flash = c.flash := (fcOnly_raiseStanding c s x).flash
@[simp] theorem tap_raiseStanding : (c.raiseStanding s x).tap = c.tap := (fcOnly_raiseStanding c s x).tap
@[simp] theorem mg_raiseStanding : (c.raiseStanding s x).mg = c.mg := (fcOnly_raiseStanding c s x).mg
@[simp] theorem sail_raiseStanding : (c.raiseStanding s x).sail = c.sail := (fcOnly_raiseStanding c s x).sail
@[simp] theorem time_raiseStanding : (c.raiseStanding s x).time = c.time := (fcOnly_raiseStanding c s x).time
@[simp] theorem decisions_raiseStanding : (c.raiseStanding s x).decisions = c.decisions := (fcOnly_raiseStanding c s x).decisions
@[simp] theorem tick_raiseStanding : (c.raiseStanding s x).tick = c.tick := (fcOnly_raiseStanding c s x).tick
@[simp] theorem mc_raiseStanding : (c.raiseStanding s x).mc = c.mc := (fcOnly_raiseStanding c s x).mc
@[simp] theorem hr_raiseStanding : (c.raiseStanding s x).hr = c.hr := (fcOnly_raiseStanding c s x).hr
@[simp] theorem seq_raiseStanding : (c.raiseStanding s x).seq = c.seq := (fcOnly_raiseStanding c s x).seq
@[simp] theorem mcOf_raiseStanding (i : Nat) : (c.raiseStanding s x).mcOf i = c.mcOf i := (fcOnly_raiseStanding c s x).mcOf i
@[simp] theorem portOf_raiseStanding (i : Nat) : (c.raiseStanding s x).portOf i = c.portOf i := (fcOnly_raiseStanding c s x).portOf i
@[simp] theorem ddrOf_raiseStanding (i : Nat) : (c.raiseStanding s x).ddrOf i = c.ddrOf i := (fcOnly_raiseStanding c s x).ddrOf i
@[simp] theorem eccOf_raiseStanding (i : Nat) : (c.raiseStanding s x).eccOf i = c.eccOf i := (fcOnly_raiseStanding c s x).eccOf i
@[simp] theorem ftOf_raiseStanding (i : Nat) : (c.raiseStanding s x).ftOf i = c.ftOf i := (fcOnly_raiseStanding c s x).ftOf i
@[simp] theorem monOf_raiseStanding (i : Nat) : (c.raiseStanding s x).monOf i = c.monOf i := (fcOnly_raiseStanding c s x).monOf i
@[simp] theorem streamOf_raiseStanding (i : Nat) : (c.raiseStanding s x).streamOf i = c.streamOf i := (fcOnly_raiseStanding c s x).streamOf i
@[simp] theorem ringOf_raiseStanding (i : Nat) : (c.raiseStanding s x).ringOf i = c.ringOf i := (fcOnly_raiseStanding c s x).ringOf i
@[simp] theorem winOf_raiseStanding (i : Nat) : (c.raiseStanding s x).winOf i = c.winOf i := (fcOnly_raiseStanding c s x).winOf i
@[simp] theorem ctxOf_raiseStanding (i : Nat) : (c.raiseStanding s x).ctxOf i = c.ctxOf i := (fcOnly_raiseStanding c s x).ctxOf i
@[simp] theorem jobOf_raiseStanding (i : Nat) : (c.raiseStanding s x).jobOf i = c.jobOf i := (fcOnly_raiseStanding c s x).jobOf i
@[simp] theorem halfSt_raiseStanding (i : Nat) : (c.raiseStanding s x).halfSt i = c.halfSt i := (fcOnly_raiseStanding c s x).halfSt i
@[simp] theorem sessionOf_raiseStanding (i : Nat) : (c.raiseStanding s x).sessionOf i = c.sessionOf i := (fcOnly_raiseStanding c s x).sessionOf i
@[simp] theorem sailOf_raiseStanding (i : Nat) : (c.raiseStanding s x).sailOf i = c.sailOf i := (fcOnly_raiseStanding c s x).sailOf i
@[simp] theorem imageOf_raiseStanding (i : Nat) : (c.raiseStanding s x).imageOf i = c.imageOf i := (fcOnly_raiseStanding c s x).imageOf i

theorem get_raise {k : Nat} (h : ¬ (0x480000 ≤ k ∧ k < 0x500000)) : (c.raise s x).get k = c.get k :=
  (fcOnly_raise c s x).get h

theorem get_raiseStanding {k : Nat} (h : ¬ (0x480000 ≤ k ∧ k < 0x500000)) : (c.raiseStanding s x).get k = c.get k :=
  (fcOnly_raiseStanding c s x).get h

end

end Core

end Sys2Proof.Machine
end

section
/-! PROOFS. JTAG, record keys and fuses (13_security_worlds.md R336 to R340, R354, R355), and the obligations `Jtag`, `KeySlots`
and `FuseOps`. -/

namespace Sys2Proof.Machine

/-! ## JTAG (R354, R355) -/

theorem answersCore_onFuses {i : Instr} {s : State} {P : Core → Prop} (f : Core → Fuses → Core)
    (hi : exec i s = .next (s.onFuses f)) (hu : s.core.seqUp = true) (hr : (f s.clear.core s.fuses).req = [])
    (hp : P (f s.clear.core s.fuses)) : AnswersCore i s P :=
  ⟨f s.clear.core s.fuses, by rw [hi, State.onFuses_eq s f hu hr]; rfl, hp⟩

theorem answersThen_onFuses {i : Instr} {s : State} {P : Core → Prop} (f : Core → Fuses → Core)
    (hi : exec i s = .next (s.onFuses f)) (hu : s.core.seqUp = true) (hp : P (f s.clear.core s.fuses)) : AnswersThen i s P :=
  ⟨f s.clear.core s.fuses, by rw [hi, State.onFuses, State.when, hu]; rfl, hp⟩

namespace Core

theorem jtagAdmits_iff (c : Core) (f : Fuses) (i : JtagInstr) : c.jtagAdmits f i = true ↔
    i = .bypass ∨ i = .idcode ∨ c.tapMode f = 0 ∨
      c.tapMode f = 1 ∧ (i = .samplePreload ∨ i = .extest ∧ c.dev = Dv.service) := by
  cases i <;> simp [jtagAdmits]
  omega

end Core

/-- Settles O49: the rule of the instruction by whether the mode lets it through, and Test-Logic-Reset by its own. -/
theorem jtag : Obligations.Jtag := by
  refine ⟨fun s i hup hpass => ?_, fun s i hup hstop => ?_, fun s i => s.core.jtagAdmits_iff s.fuses i, fun s hup => ?_⟩
  · have hstep : s.clear.core.jtagInstruction s.fuses i = s.clear.core.withTap { s.clear.core.tap with instr := i } :=
      if_pos hpass
    refine answersCore_onFuses (fun c f => c.jtagInstruction f i) rfl hup (by rw [hstep]; rfl) ?_
    rw [hstep]
    exact ⟨rfl, rfl, fun k => rfl⟩
  · have hstep : s.clear.core.jtagInstruction s.fuses i = ((s.clear.core.flag Obj.Sec.FLAGS 2).withTap
        { s.clear.core.tap with instr := .bypass }).raise Src.secJtag (ctxNone 0 0) := if_neg (by
      have hstop' : s.clear.core.jtagAdmits s.fuses i = false := hstop
      simp [hstop'])
    have hfc := Core.fcOnly_raise ((s.clear.core.flag Obj.Sec.FLAGS 2).withTap { s.clear.core.tap with instr := .bypass })
      Src.secJtag (ctxNone 0 0)
    refine answersThen_onFuses (fun c f => c.jtagInstruction f i) rfl hup ?_
    rw [hstep]
    refine ⟨?_, ?_, Core.raises_of_raise _ (by decide +kernel) (by simp [Core.flag]) ?_⟩
    · obtain ⟨heq, -⟩ := hfc
      rw [heq]
      rfl
    · rw [Core.bitOf, hfc.get (by decide), Core.get_withTap]
      exact Core.bitOf_flag_self _ _ _
    · rw [Core.get_withTap, Core.get_flag_ne _ _ (by decide)]
  · exact answersCore_onPower Core.jtagReset rfl hup rfl ⟨rfl, rfl, fun k => rfl⟩

/-! ## Key slots (R339, R340) -/

namespace Core

/-- A write of a key slot's object. -/
theorem writeValue_keySlot (c : Core) (f : Fuses) (w : World) {k : Nat} (sub : Nat) (bs : List Byte) (h : k < 16) :
    c.writeValue f w (0x5020 + k) sub bs = c.writeKeySlot k sub (ofBytes bs) := by
  simp (disch := omega) only [writeValue, Bool.and_eq_true, decide_eq_true_eq, if_neg, if_pos]
  simp

/-- A loaded key slot (R340). -/
def keyLoaded (c : Core) (k key : Nat) : Core :=
  let c1 := c.inc (Obj.KeySlot.KEY_GEN k)
  (((c1.put (Obj.KeySlot.STATE k) 1).put (Obj.KeySlot.KCV k) (kcv key)).put (Obj.KeySlot.KEY k)
    (wrapKey k (c1.get (Obj.KeySlot.KEY_GEN k)) key)).touch

section
variable (c : Core) (k key : Nat)

theorem keyLoaded_gen : (c.keyLoaded k key).get (Obj.KeySlot.KEY_GEN k) = sat 32 (c.get (Obj.KeySlot.KEY_GEN k) + 1) := by
  simp (disch := omega) [keyLoaded, touch, inc, add, get_put_ne]

theorem keyLoaded_state : (c.keyLoaded k key).get (Obj.KeySlot.STATE k) = 1 := by
  simp (disch := omega) [keyLoaded, touch, get_put_ne]

theorem keyLoaded_kcv : (c.keyLoaded k key).get (Obj.KeySlot.KCV k) = kcv key := by
  simp (disch := omega) [keyLoaded, touch, get_put_ne]

theorem keyLoaded_key : (c.keyLoaded k key).get (Obj.KeySlot.KEY k) =
    wrapKey k (sat 32 (c.get (Obj.KeySlot.KEY_GEN k) + 1)) key := by
  simp only [keyLoaded, touch, get_updLedger, get_put_self, get_inc_self]

theorem keyLoaded_get {o : Nat} (h1 : o ≠ Obj.KeySlot.STATE k) (h2 : o ≠ Obj.KeySlot.KCV k) (h3 : o ≠ Obj.KeySlot.KEY_GEN k)
    (h4 : o ≠ Obj.KeySlot.KEY k) : (c.keyLoaded k key).get o = c.get o := by
  simp only [keyLoaded, touch, get_updLedger, get_put_ne _ _ h1, get_put_ne _ _ h2, get_put_ne _ _ h4, get_inc_ne _ h3]

end

/-! ### A job that halts -/

section
variable {c : Core} {j cause : Nat} (hcancel : (c.jobOf j).cancelling = false)
include hcancel

theorem haltJob_of_running (h : c.get (Obj.Job.STATE j) = 1) : c.haltJob j cause =
    ((((((c.put (Obj.Job.STATE j) 2).put (Obj.Job.HALT_CAUSE j) cause).flag (Obj.Job.FLAGS j) 2).updJob j
      fun s => { s with flights := [] }).flag Obj.Tailrace.FLAGS 0).raise Src.trJobHalt (ctxNumber 5 3 j)) := by
  rw [haltJob, if_neg (not_not.2 h), if_neg (by simp [hcancel])]

theorem haltJob_get {o : Nat} (h1 : o ≠ Obj.Job.STATE j) (h2 : o ≠ Obj.Job.HALT_CAUSE j) (h3 : o ≠ Obj.Job.FLAGS j)
    (h4 : o ≠ Obj.Tailrace.FLAGS) (hfc : ¬ isFcKey o) : (c.haltJob j cause).get o = c.get o := by
  by_cases h : c.get (Obj.Job.STATE j) = 1
  · rw [haltJob_of_running hcancel h, (fcOnly_raise _ _ _).get hfc, get_flag_ne _ _ h4, get_updJob, get_flag_ne _ _ h3,
      get_put_ne _ _ h2, get_put_ne _ _ h1]
  · rw [haltJob, if_pos h]

theorem haltJob_result (hj : j < 32) (h : c.get (Obj.Job.STATE j) = 1) :
    (c.haltJob j cause).get (Obj.Job.STATE j) = 2 ∧ (c.haltJob j cause).get (Obj.Job.HALT_CAUSE j) = cause := by
  rw [haltJob_of_running hcancel h]
  simp (disch := omega) [flag, get_raise, get_put_ne]

theorem haltJob_cancelling (i : Nat) : ((c.haltJob j cause).jobOf i).cancelling = (c.jobOf i).cancelling := by
  by_cases h : c.get (Obj.Job.STATE j) = 1
  · rw [haltJob_of_running hcancel h, jobOf_raise, flag, jobOf_put]
    by_cases hi : i = j
    · subst hi
      rw [jobOf_updJob_self]
      simp [flag]
    · rw [jobOf_updJob_ne _ _ hi]
      simp [flag]
  · rw [haltJob, if_pos h]

theorem sameEar_haltJob : c.SameEar (c.haltJob j cause) := by
  by_cases h : c.get (Obj.Job.STATE j) = 1
  · rw [haltJob_of_running hcancel h]
    exact SameEar.trans (sameEar_of_fc (by simp [flag])) (sameEar_raise _ (by decide +kernel) (by decide +kernel))
  · rw [haltJob, if_pos h]
    exact SameEar.refl c

theorem haltJob_count {t : Nat} (ht : t ≠ Src.trJobHalt) :
    (c.haltJob j cause).get (Obj.Source.COUNT t) = c.get (Obj.Source.COUNT t) := by
  by_cases h : c.get (Obj.Job.STATE j) = 1
  · rw [haltJob_of_running hcancel h, raise_count_ne _ _ ht]
    simp (disch := omega) [flag, get_put_ne]
  · rw [haltJob, if_pos h]

theorem sentIn_haltJob : c.SentIn (c.haltJob j cause) := by
  by_cases h : c.get (Obj.Job.STATE j) = 1
  · rw [haltJob_of_running hcancel h]
    exact SentIn.trans (sentIn_of_out (by simp [flag])) (sentIn_raise _ _ _)
  · rw [haltJob, if_pos h]
    exact SentIn.refl c

end

/-- The jobs in `jobs` halt for the loss of their key. -/
def haltAll (c : Core) (jobs : Nat) : Core := c.each 32 fun c j => if jobs.testBit j then c.haltJob j 4 else c

/-- Job j halts in its turn, and the jobs after it leave its result. -/
theorem haltAll_result {c : Core} {jobs j : Nat} (hj : j < 32) (hcancel : ∀ i < 32, (c.jobOf i).cancelling = false)
    (hbit : jobs.testBit j = true) (hrun : c.get (Obj.Job.STATE j) = 1) :
    (c.haltAll jobs).get (Obj.Job.STATE j) = 2 ∧ (c.haltAll jobs).get (Obj.Job.HALT_CAUSE j) = 4 := by
  have hkeep : ∀ (d : Core) (i o : Nat), (d.jobOf i).cancelling = false → i ≠ j →
      o = Obj.Job.STATE j ∨ o = Obj.Job.HALT_CAUSE j → (if jobs.testBit i then d.haltJob i 4 else d).get o = d.get o := by
    intro d i o hd hij ho
    split
    · exact haltJob_get hd (by simp at ho ⊢; omega) (by simp at ho ⊢; omega) (by simp at ho ⊢; omega) (by simp at ho ⊢; omega)
        (by simp at ho ⊢; omega)
    · rfl
  have hcan : ∀ (d : Core) (i : Nat), (∀ i < 32, (d.jobOf i).cancelling = false) → i < 32 →
      ∀ n < 32, ((if jobs.testBit i then d.haltJob i 4 else d).jobOf n).cancelling = false := by
    intro d i hd hi n hn
    split
    · rw [haltJob_cancelling (hd i hi), hd n hn]
    · exact hd n hn
  refine (each_reaches (P := fun d => (∀ i < 32, (d.jobOf i).cancelling = false) ∧ d.get (Obj.Job.STATE j) = 1)
    (Q := fun d => (∀ i < 32, (d.jobOf i).cancelling = false) ∧ d.get (Obj.Job.STATE j) = 2 ∧
      d.get (Obj.Job.HALT_CAUSE j) = 4) hj ?_ ?_ ?_ ⟨hcancel, hrun⟩).2
  · rintro d i hi ⟨hd, hstate⟩
    exact ⟨hcan d i hd (by omega), by rw [hkeep d i _ (hd i (by omega)) (by omega) (.inl rfl), hstate]⟩
  · rintro d ⟨hd, hstate⟩
    refine ⟨hcan d j hd hj, ?_⟩
    rw [if_pos hbit]
    exact haltJob_result (hd j hj) hj hstate
  · rintro d i hij hi ⟨hd, hstate, hcause⟩
    exact ⟨hcan d i hd hi, by rw [hkeep d i _ (hd i hi) (by omega) (.inl rfl), hstate],
      by rw [hkeep d i _ (hd i hi) (by omega) (.inr rfl), hcause]⟩

/-- What halting jobs leave: objects of other blocks, COUNT of other sources, the collector's ear, what was sent. -/
def HaltKeeps (c d : Core) : Prop :=
  (∀ i < 32, (d.jobOf i).cancelling = false) ∧ c.SameEar d ∧ c.SentIn d ∧
    (∀ o, 0x500000 ≤ o → d.get o = c.get o) ∧
    ∀ t, t ≠ Src.trJobHalt → d.get (Obj.Source.COUNT t) = c.get (Obj.Source.COUNT t)

theorem haltKeeps_haltAll {c : Core} {jobs : Nat} (hcancel : ∀ i < 32, (c.jobOf i).cancelling = false) :
    c.HaltKeeps (c.haltAll jobs) := by
  refine each_induct (fun d => c.HaltKeeps d) 32 _ c ⟨hcancel, SameEar.refl c, SentIn.refl c, fun _ _ => rfl, fun _ _ => rfl⟩ ?_
  rintro d i hi ⟨hd, hear, hsent, hget, hcount⟩
  split
  · refine ⟨fun n hn => by rw [haltJob_cancelling (hd i hi), hd n hn], hear.trans (sameEar_haltJob (hd i hi)),
      hsent.trans (sentIn_haltJob (hd i hi)), fun o ho => ?_, fun t ht => by rw [haltJob_count (hd i hi) ht, hcount t ht]⟩
    rw [haltJob_get (hd i hi) (by simp; omega) (by simp; omega) (by simp; omega) (by simp; omega) (by omega), hget o ho]
  · exact ⟨hd, hear, hsent, hget, hcount⟩

/-- An erased key slot (R340), its jobs still to halt. -/
def keyErased (c : Core) (k : Nat) : Core :=
  (((c.put (Obj.KeySlot.STATE k) 0).put (Obj.KeySlot.KCV k) 0).put (Obj.KeySlot.KEY k) 0).touch

theorem keyErased_get {c : Core} {k o : Nat} (h1 : o ≠ Obj.KeySlot.STATE k) (h2 : o ≠ Obj.KeySlot.KCV k)
    (h3 : o ≠ Obj.KeySlot.KEY k) : (c.keyErased k).get o = c.get o := by
  rw [keyErased, touch, get_updLedger, get_put_ne _ _ h3, get_put_ne _ _ h2, get_put_ne _ _ h1]

theorem keyErased_state (c : Core) (k : Nat) : (c.keyErased k).get (Obj.KeySlot.STATE k) = 0 ∧
    (c.keyErased k).get (Obj.KeySlot.KCV k) = 0 ∧ (c.keyErased k).get (Obj.KeySlot.KEY k) = 0 := by
  refine ⟨?_, ?_, ?_⟩ <;> simp (disch := omega) [keyErased, touch, get_put_ne]

/-- KEY_ERASE (R340). -/
theorem keyErase_eq (c : Core) (k : Nat) : c.keyErase k =
    (.ok, ((c.keyErased k).haltAll (c.keyJobs k)).raise Src.secKey (ctxNone 0 0)) := rfl

end Core

/-- A key of zeros is not well formed, and slot 0 has no key object. -/
theorem zeroKey_malformed : ∀ (k : KeySlotNo) (r : Row),
    lookup ((Obj.KeySlot.KEY k.val) / 256) ((Obj.KeySlot.KEY k.val) % 256) = some r →
    r.wellFormed ((Obj.KeySlot.KEY k.val) / 256) ((Obj.KeySlot.KEY k.val) % 256) (toBytes (sizeOf (Obj.KeySlot.KEY k.val)) 0) = false := by
  decide +kernel

/-- A refused write by a command of its own answers its status and changes nothing. -/
theorem answersThen_refused {i : Instr} {s : State} {w : World} {k v : Nat} {st : Status} (hi : exec i s = .next (s.writeNum w k v))
    (hserved : s.core.loaServed = true) (hfits : v < 2 ^ widthOf k)
    (hrefuse : s.core.writeRefusal w (k / 256) (k % 256) (toBytes (sizeOf k) v) = some st) (hst : st ≠ .deniedWorld) :
    AnswersThen i s fun c => c.out = [.status st] ∧ ∀ o, c.get o = s.core.get o := by
  refine ⟨s.clear.core.emit (.status st), ?_, rfl, fun o => rfl⟩
  rw [hi, State.writeNum, if_pos hfits, State.write_of_writeObject (u := s.clear) (st := st) hserved]
  · rfl
  · have hrefuse' : s.clear.core.writeRefusal w (k / 256) (k % 256) (toBytes (sizeOf k) v) = some st := hrefuse
    exact State.writeObject_refused _ hrefuse' hst

theorem clearableOf_keySlot : ∀ k : KeySlotNo,
    clearableOf (Obj.KeySlot.KEY k.val / 256) (Obj.KeySlot.KEY k.val % 256) = none ∧
      clearableOf (Obj.KeySlot.ERASE k.val / 256) (Obj.KeySlot.ERASE k.val % 256) = none := by
  decide +kernel

section
variable {s : State} {k : KeySlotNo} {w : World} {key : BitVec 256} {P : Core → Prop}

/-- An admitted write of a slot's KEY is an import. -/
theorem answersThen_keyImport {st : Status} {c : Core} (hadm : Admits s w (Obj.KeySlot.KEY k.val) key.toNat)
    (hc : s.clear.core.keyImport k.val key.toNat = (st, c)) (hp : P (c.emit (.status st))) : AnswersThen (.keyImport k w key) s P := by
  have hkey : Obj.KeySlot.KEY k.val / 256 = 0x5020 + k.val ∧ Obj.KeySlot.KEY k.val % 256 = 2 := by simp; omega
  refine answersThen_writeNum rfl hadm (clearableOf_keySlot k).1 ?_ ?_ hp
  · rw [hkey.1, hkey.2, coreObject]
    omega
  · rw [hkey.1, hkey.2, Core.writeValue_keySlot _ _ _ _ _ k.isLt, ofBytes_toBytes_of_fits hadm.2.1]
    exact hc

end

/-- Settles O46: import, its refusals and erase, each by its own rule. -/
theorem keySlots : Obligations.KeySlots := by
  refine ⟨fun s k w key hadm => ⟨fun hkey hjobs => ?_, fun hkey hjobs => ?_⟩, fun s k hserved hrec => ?_, fun s k w hadm hcan => ?_⟩
  · have hkey' : key.toNat ≠ 0 := by simpa [BitVec.toNat_eq] using hkey
    refine answersThen_keyImport hadm (c := s.clear.core.keyLoaded k.val key.toNat) (st := .ok) ?_ ⟨by simp, ?_⟩
    · have hjobs' : s.clear.core.keyJobs k.val = 0 := hjobs
      rw [Core.keyImport, if_neg hkey', if_neg (by rw [hjobs']; decide)]
      rfl
    · simp only [Core.get_emit]
      refine ⟨Core.keyLoaded_state _ _ _, Core.keyLoaded_kcv _ _ _, ?_, ?_, fun o h1 h2 h3 h4 => ?_⟩
      · rw [Core.keyLoaded_gen, Core.sat_eq_min]
        rfl
      · rw [Core.keyLoaded_key, Core.keyLoaded_gen]
      · rw [Core.keyLoaded_get _ _ _ h1 h2 h3 h4]
        rfl
  · have hkey' : key.toNat ≠ 0 := by simpa [BitVec.toNat_eq] using hkey
    refine answersThen_keyImport hadm (c := s.clear.core) (st := .retry) ?_ ⟨by simp, fun o => by simp⟩
    have hjobs' : s.clear.core.keyJobs k.val ≠ 0 := hjobs
    rw [Core.keyImport, if_neg hkey', if_pos hjobs']
  · refine answersThen_refused rfl hserved (by simp) ?_ (by decide)
    rcases hrow : lookup (Obj.KeySlot.KEY k.val / 256) (Obj.KeySlot.KEY k.val % 256) with _ | r
    · exact Core.writeRefusal_of_noRow hrec hrow
    · exact Core.writeRefusal_of_unwritable hrec hrow (by simp) (.inr (.inr (zeroKey_malformed k r hrow)))
  · have hkey : Obj.KeySlot.ERASE k.val / 256 = 0x5020 + k.val ∧ Obj.KeySlot.ERASE k.val % 256 = 3 := by simp; omega
    have hkeeps := Core.haltKeeps_haltAll (c := s.clear.core.keyErased k.val) (jobs := s.clear.core.keyJobs k.val) hcan
    obtain ⟨-, hear, -, hget, hcount⟩ := hkeeps
    refine answersOk_writeNum rfl hadm (clearableOf_keySlot k).2 ?_ (c := (s.clear.core.keyErase k.val).2) ?_ ?_
    · rw [hkey.1, hkey.2, coreObject]
      omega
    · rw [hkey.1, hkey.2, Core.writeValue_keySlot _ _ _ _ _ k.isLt, ofBytes_toBytes_of_fits hadm.2.1]
      rfl
    · simp only [Core.get_emit, Core.keyErase_eq]
      have hobj : ∀ o, 0x500000 ≤ o → (((s.clear.core.keyErased k.val).haltAll (s.clear.core.keyJobs k.val)).raise
          Src.secKey (ctxNone 0 0)).get o = (s.clear.core.keyErased k.val).get o := fun o ho => by
        rw [Core.get_raise _ _ _ (by omega), hget o ho]
      obtain ⟨hstate, hkcv, hk⟩ := Core.keyErased_state s.clear.core k.val
      refine ⟨by rw [hobj _ (by simp; omega), hstate], by rw [hobj _ (by simp; omega), hkcv], by rw [hobj _ (by simp; omega), hk],
        ?_, fun j hj hbit hrun => ?_, ?_⟩
      · rw [hobj _ (by simp; omega), Core.keyErased_get (by simp) (by simp) (by simp)]
        rfl
      · have hrun' : (s.clear.core.keyErased k.val).get (Obj.Job.STATE j) = 1 := by
          rw [Core.keyErased_get (by simp; omega) (by simp; omega) (by simp; omega)]
          exact hrun
        rw [Core.get_raise _ _ _ (by simp; omega), Core.get_raise _ _ _ (by simp; omega)]
        exact Core.haltAll_result hj hcan hbit hrun'
      · refine Core.Raises.of_get (Core.raises_of_sameEar _ (by decide +kernel)
          (Core.SameEar.trans (Core.sameEar_of_fc rfl) hear) ?_) (Core.get_emit _ _ _)
        rw [hcount _ (by decide), Core.keyErased_get (by simp [Src.secKey]; omega) (by simp [Src.secKey]; omega) (by simp [Src.secKey]; omega)]

end Sys2Proof.Machine
end

section
/-! PROOFS. Fuse operations (13_security_worlds.md R336 to R338) and the obligation `FuseOps`. -/

namespace Sys2Proof.Machine

/-! ## FUSE_PROGRAM's operands (R338) -/

/-- The value that FUSE_PROGRAM takes: OP, ARG and HASH. -/
def fuseWord (op arg hash : Nat) : Nat := op * 2 ^ 392 + arg * 2 ^ 384 + hash

section
variable {op arg hash : Nat}

theorem fuseWord_eq (op arg hash : Nat) : fuseWord op arg hash = 2 ^ 384 * (op * 2 ^ 8 + arg) + hash := by
  rw [fuseWord, show (392 : Nat) = 384 + 8 from rfl, pow_add]
  ring

theorem fuseWord_div (hhash : hash < 2 ^ 384) : fuseWord op arg hash / 2 ^ 384 = op * 2 ^ 8 + arg := by
  rw [fuseWord_eq, Nat.mul_add_div (Nat.two_pow_pos 384), Nat.div_eq_of_lt hhash, Nat.add_zero]

theorem field_hash_fuseWord (hhash : hash < 2 ^ 384) : field 383 0 (fuseWord op arg hash) = hash := by
  rw [field, Nat.shiftRight_zero, fuseWord_eq, Nat.mul_add_mod, Nat.mod_eq_of_lt hhash]

theorem field_arg_fuseWord (harg : arg < 2 ^ 8) (hhash : hash < 2 ^ 384) : field 391 384 (fuseWord op arg hash) = arg := by
  rw [field, Nat.shiftRight_eq_div_pow, fuseWord_div hhash]
  omega

theorem field_op_fuseWord (hop : op < 2 ^ 8) (harg : arg < 2 ^ 8) (hhash : hash < 2 ^ 384) :
    field 399 392 (fuseWord op arg hash) = op := by
  rw [field, Nat.shiftRight_eq_div_pow, show (392 : Nat) = 384 + 8 from rfl, pow_add, ← Nat.div_div_eq_div_mul,
    fuseWord_div hhash]
  omega

end

/-! ## Cells and hashes (R337, R338) -/

theorem FuseCells.val_burn (x : FuseCells) (m : Nat) : (x.burn m).val = x.val ||| m := by
  refine Nat.eq_of_testBit_eq fun i => ?_
  simp only [val, burn, Nat.testBit_or, Nat.testBit_and]
  cases m.testBit i <;> simp

/-- A hash that does not read is in neither copy; with a blank copy it reads once it is programmed. -/
theorem hash?_of_burn {f g : Fuses} {i hash : Nat} (hnone : f.hash? i = none)
    (hblank : (f.copies i).1 = .blank ∨ (f.copies i).2 = .blank)
    (hg : g.copies i = ((f.copies i).1.burn hash, (f.copies i).2.burn hash)) : g.hash? i = some hash := by
  unfold Fuses.hash? at hnone ⊢
  rw [hg]
  rcases hx : f.copies i with ⟨x, y⟩
  rw [hx] at hnone hblank
  cases x <;> cases y <;> simp_all [HashCopy.burn]

section
variable {f : Fuses} {arg : Nat}

theorem revoked_burn (harg : arg ≤ 3) (i : Nat) :
    ({ f with revoke := f.revoke.burn (2 ^ arg) } : Fuses).revoked.testBit i = (f.revoked.testBit i || decide (i = arg)) := by
  simp only [Fuses.revoked, FuseCells.val_burn, show (16 : Nat) = 2 ^ 4 from rfl, Nat.testBit_mod_two_pow, Nat.testBit_or,
    Nat.testBit_two_pow]
  by_cases h : i = arg
  · subst h
    simp
    omega
  · simp [h, Ne.symm h]

theorem keyGood_burn (harg : arg ≤ 3) (i : Nat) :
    ({ f with revoke := f.revoke.burn (2 ^ arg) } : Fuses).keyGood i = (f.keyGood i && decide (i ≠ arg)) := by
  rw [Fuses.keyGood, Fuses.keyGood, revoked_burn harg, show ({ f with revoke := f.revoke.burn (2 ^ arg) } : Fuses).hash? i = f.hash? i from rfl]
  by_cases h : i = arg <;> simp [h]

end

theorem popcount_ones : ∀ n ≤ 63, popcount 64 (2 ^ n - 1) = n := by decide +kernel

/-- A floor whose cells are a thermometer code reads as the floor that is programmed over it. -/
theorem svnFloor_burn {f : Fuses} {arg : Nat} (hcode : f.floor.val = 2 ^ f.svnFloor - 1) (habove : f.svnFloor < arg)
    (harg : arg ≤ 63) : ({ f with floor := f.floor.burn (2 ^ arg - 1) } : Fuses).svnFloor = arg := by
  have hor : f.floor.val ||| (2 ^ arg - 1) = 2 ^ arg - 1 := by
    rw [hcode]
    refine Nat.eq_of_testBit_eq fun i => ?_
    rw [Nat.testBit_or, Nat.testBit_two_pow_sub_one, Nat.testBit_two_pow_sub_one]
    simp
    omega
  rw [Fuses.svnFloor, FuseCells.val_burn, hor, popcount_ones arg harg]
  omega

/-! ## An admitted operation -/

section
variable {i : Instr} {s : State} {w : World} {op arg hash : Nat}
  (hi : exec i s = .next (s.programFuse w op arg hash)) (hadm : Admits s w Obj.Fuse.FUSE_PROGRAM (fuseWord op arg hash))
  (hop : op < 2 ^ 8) (harg : arg < 2 ^ 8) (hhash : hash < 2 ^ 384)
include hi hadm hop harg hhash

theorem exec_fuseProgram {st : Status} {g : Fuses} (hx : s.core.fuseProgram s.fuses op arg hash = (st, g)) :
    exec i s = .next (State.settle { s.clear with fuses := g, core := s.clear.core.emit (.status st) }) := by
  rw [hi, State.programFuse]
  refine congrArg _ (State.writeNum_of_admitted hadm (by decide +kernel) (u := { s.clear with fuses := g }) ?_)
  have hx' : s.clear.core.fuseProgram s.clear.fuses op arg hash = (st, g) := hx
  show s.clear.writeFuse _ = _
  rw [State.writeFuse, ← fuseWord, ofBytes_toBytes_of_fits hadm.2.1, field_op_fuseWord hop harg hhash,
    field_arg_fuseWord harg hhash, field_hash_fuseWord hhash, hx']

/-- An operation whose conditions hold, in SERVICE. -/
theorem answersAll_fuse {g : Fuses} {P : State → Prop} (hdev : s.core.dev = Dv.service)
    (hx : s.core.fuseAfter s.fuses op arg hash = some g)
    (hp : ∀ u : State, Out.status .ok ∈ u.core.out → u.fuses = g → u.mem = s.mem → u.latch = s.latch →
      (∀ k, u.core.get k = s.core.get k) → P u) : AnswersAll i s P :=
  ⟨_, exec_fuseProgram hi hadm hop harg hhash (by rw [Core.fuseProgram, if_neg (not_not.2 hdev), hx]),
    hp _ (by simp) rfl rfl rfl fun k => by simp⟩

/-- An operation whose conditions do not hold, in SERVICE. -/
theorem answersThen_fuse_malformed (hdev : s.core.dev = Dv.service) (hx : s.core.fuseAfter s.fuses op arg hash = none) :
    AnswersThen i s fun c => c.out = [.status .malformed] ∧ ∀ k, c.get k = s.core.get k :=
  ⟨s.clear.core.emit (.status .malformed), exec_fuseProgram hi hadm hop harg hhash
    (by rw [Core.fuseProgram, if_neg (not_not.2 hdev), hx]), rfl, fun k => rfl⟩

/-- Outside SERVICE nothing is programmed. -/
theorem answersCore_fuse_retry (hdev : s.core.dev ≠ Dv.service) :
    AnswersCore i s fun c => c.out = [.status .retry] ∧ ∀ k, c.get k = s.core.get k := by
  refine ⟨s.clear.core.emit (.status .retry), ?_, rfl, fun k => rfl⟩
  rw [exec_fuseProgram hi hadm hop harg hhash (by rw [Core.fuseProgram, if_pos hdev]),
    State.settle_of_req_nil _ (by simp)]
  rfl

end

/-! ## The conditions of R338 -/

namespace Core

variable {c : Core} {f : Fuses} {arg hash : Nat}

theorem fuseAfter_ownerKey (harg : arg ≤ 3) (hnone : f.hash? arg = none)
    (hblank : (f.copies arg).1 = .blank ∨ (f.copies arg).2 = .blank) : c.fuseAfter f 1 arg hash =
      some { f with hashes := (Tbl.set (fun _ => (.blank, .blank)) f.hashes arg
        ((f.copies arg).1.burn hash, (f.copies arg).2.burn hash)) } := by
  rw [fuseAfter]
  refine if_neg ?_
  simp [hnone]
  tauto

theorem fuseAfter_ownerKey_none (h : 3 < arg ∨ f.hash? arg ≠ none) : c.fuseAfter f 1 arg hash = none := by
  rw [fuseAfter]
  refine if_pos ?_
  simp only [Bool.or_eq_true, decide_eq_true_eq, Option.isSome_iff_ne_none]
  exact .inl h

theorem fuseAfter_revoke (harg : arg ≤ 3) (hheads : ∀ x ∈ c.bootHeads, imgKeyIndex x ≠ arg)
    (hgood : f.secureBoot = true → ∃ i < 4, i ≠ arg ∧ f.keyGood i = true) :
    c.fuseAfter f 2 arg hash = some { f with revoke := f.revoke.burn (2 ^ arg) } := by
  rw [fuseAfter]
  refine if_neg ?_
  simp only [Bool.or_eq_true, decide_eq_true_eq, Bool.and_eq_true, Bool.not_eq_true', List.any_eq_false, List.any_eq_true,
    List.mem_range, beq_iff_eq, keyGood_burn harg]
  rintro ((h | ⟨hboot, hall⟩) | ⟨x, hx, hkey⟩)
  · omega
  · obtain ⟨i, hi, hne, hok⟩ := hgood hboot
    exact hall i hi (by simp [hne, hok])
  · exact hheads x hx hkey

theorem fuseAfter_revoke_none (h : 3 < arg ∨ (∃ x ∈ c.bootHeads, imgKeyIndex x = arg) ∨
    f.secureBoot = true ∧ (∀ i < 4, i ≠ arg → f.keyGood i = false)) : c.fuseAfter f 2 arg hash = none := by
  rw [fuseAfter]
  refine if_pos ?_
  simp only [Bool.or_eq_true, decide_eq_true_eq, Bool.and_eq_true, Bool.not_eq_true', List.any_eq_false, List.any_eq_true,
    List.mem_range, beq_iff_eq]
  by_cases harg : arg ≤ 3
  · rcases h with h | h | ⟨hboot, hall⟩
    · omega
    · exact .inr h
    · refine .inl (.inr ⟨hboot, fun i hi => ?_⟩)
      rw [keyGood_burn harg]
      by_cases hne : i = arg
      · simp [hne]
      · simp [hall i hi hne]
  · exact .inl (.inl (by omega))

theorem fuseAfter_svnFloor (habove : f.svnFloor < arg) (harg : arg ≤ 63) (hheads : ∀ x ∈ c.bootHeads, arg ≤ imgSvn x) :
    c.fuseAfter f 3 arg hash = some { f with floor := f.floor.burn (2 ^ arg - 1) } := by
  rw [fuseAfter]
  refine if_neg ?_
  simp only [Bool.or_eq_true, decide_eq_true_eq, List.any_eq_true]
  rintro (((h | h) | h) | ⟨x, hx, hlt⟩)
  · omega
  · omega
  · omega
  · exact absurd (hheads x hx) (by omega)

theorem fuseAfter_svnFloor_none (h : arg ≤ f.svnFloor ∨ 63 < arg ∨ ∃ x ∈ c.bootHeads, imgSvn x < arg) :
    c.fuseAfter f 3 arg hash = none := by
  rw [fuseAfter]
  refine if_pos ?_
  simp only [Bool.or_eq_true, decide_eq_true_eq, List.any_eq_true]
  tauto

theorem fuseAfter_secureBoot (h : ∃ i < 4, f.keyGood i = true) :
    c.fuseAfter f 4 0 hash = some { f with boot := f.boot.burn 1 } := by
  rw [fuseAfter]
  refine if_neg ?_
  obtain ⟨i, hi, hok⟩ := h
  simp only [Bool.or_eq_true, decide_eq_true_eq, Bool.not_eq_true', List.any_eq_false, List.mem_range]
  rintro (h | h)
  · exact h rfl
  · exact h i hi hok

theorem fuseAfter_secureBoot_none (h : ∀ i < 4, f.keyGood i = false) : c.fuseAfter f 4 0 hash = none := by
  rw [fuseAfter]
  refine if_pos ?_
  simp only [Bool.or_eq_true, Bool.not_eq_true', List.any_eq_false, List.mem_range]
  exact .inr fun i hi => by simp [h i hi]

end Core

/-- A cell that is blown reads 1. -/
theorem FuseCells.testBit_zero_burn (x : FuseCells) : (x.burn 1).val.testBit 0 = true := by
  rw [FuseCells.val_burn, Nat.testBit_or]
  simp

/-- Settles O47: each operation by its conditions, and every one outside SERVICE. -/
theorem fuseOps : Obligations.FuseOps := by
  refine ⟨fun s w arg hash x hadm hdev hx => ⟨fun harg hnone hblank => ?_, fun h => ?_⟩,
    fun s w arg hadm hdev => ⟨fun harg hheads hgood => ?_, fun h => ?_⟩,
    fun s w arg hadm hdev => ⟨fun habove harg hheads => ?_, fun h => ?_⟩,
    fun s w hadm hdev => ⟨fun h => ?_, fun h => ?_⟩, fun s w hadm hdev => ?_, fun s w arg hash hdev e he hadm => ?_⟩
  · subst hx
    refine answersAll_fuse rfl hadm (by decide) arg.isLt hash.isLt hdev (Core.fuseAfter_ownerKey harg hnone hblank)
      fun u hok hf hmem hlatch hget => ⟨hok, ?_, fun i hi => ?_, ?_, hmem, hlatch, hget⟩
    · rw [hf]
      exact hash?_of_burn hnone hblank (by simp [Fuses.copies])
    · rw [hf, Fuses.copies, Tbl.get_set_ne _ _ _ hi]
      rfl
    · rw [hf]
  · exact answersThen_fuse_malformed rfl hadm (by decide) arg.isLt hash.isLt hdev (Core.fuseAfter_ownerKey_none h)
  · refine answersAll_fuse rfl hadm (by decide) arg.isLt (by decide) hdev (Core.fuseAfter_revoke harg hheads hgood)
      fun u hok hf hmem hlatch hget => ⟨hok, ?_, fun i hi => ?_, ?_, hmem, hlatch, hget⟩
    · rw [hf, revoked_burn harg]
      simp
    · rw [hf, revoked_burn harg]
      simp [hi]
    · rw [hf]
  · exact answersThen_fuse_malformed rfl hadm (by decide) arg.isLt (by decide) hdev (Core.fuseAfter_revoke_none h)
  · refine answersAll_fuse rfl hadm (by decide) arg.isLt (by decide) hdev (Core.fuseAfter_svnFloor habove harg hheads)
      fun u hok hf hmem hlatch hget => ⟨hok, ?_, fun hcode => ?_, ?_, hmem, hlatch, hget⟩
    · rw [hf, FuseCells.val_burn]
    · rw [hf]
      exact svnFloor_burn hcode habove harg
    · rw [hf]
  · exact answersThen_fuse_malformed rfl hadm (by decide) arg.isLt (by decide) hdev (Core.fuseAfter_svnFloor_none h)
  · refine answersAll_fuse rfl hadm (by decide) (by decide) (by decide) hdev (Core.fuseAfter_secureBoot h)
      fun u hok hf hmem hlatch hget => ⟨hok, ?_, ?_, hmem, hlatch, hget⟩
    · rw [hf]
      exact FuseCells.testBit_zero_burn _
    · rw [hf]
  · exact answersThen_fuse_malformed rfl hadm (by decide) (by decide) (by decide) hdev (Core.fuseAfter_secureBoot_none h)
  · refine answersAll_fuse rfl hadm (by decide) (by decide) (by decide) hdev (by rw [Core.fuseAfter]; rfl)
      fun u hok hf hmem hlatch hget => ⟨hok, ?_, ?_, hmem, hlatch, hget⟩
    · rw [hf]
      exact FuseCells.testBit_zero_burn _
    · rw [hf]
  · simp only [List.mem_cons, List.not_mem_nil, or_false] at he
    rcases he with rfl | rfl | rfl | rfl | rfl
    · exact answersCore_fuse_retry rfl hadm (by decide) arg.isLt hash.isLt hdev
    · exact answersCore_fuse_retry rfl hadm (by decide) arg.isLt (by decide) hdev
    · exact answersCore_fuse_retry rfl hadm (by decide) arg.isLt (by decide) hdev
    · exact answersCore_fuse_retry rfl hadm (by decide) (by decide) (by decide) hdev
    · exact answersCore_fuse_retry rfl hadm (by decide) (by decide) (by decide) hdev

end Sys2Proof.Machine
end

section
/-! PROOFS. Images, boot and updates (13_security_worlds.md R342 to R345) and the obligation `Images`. -/

namespace Sys2Proof.Machine

namespace Core

/-! ## The bytes of a two-byte object (R8) -/

theorem byteOf_putByte {h i : Nat} (c : Core) (k v : Nat) (hh : h < 2) (hi : i < 2) :
    (c.putByte k 2 h v).byteOf k 2 i = if i = h then v % 256 else c.byteOf k 2 i := by
  rw [byteOf, putByte, get_put_self, byteOf]
  generalize c.get k = x
  interval_cases h <;> interval_cases i <;> simp [setField, field, Nat.shiftRight_eq_div_pow, Nat.shiftLeft_eq] <;> omega

theorem byteOf_putByte_ne {k o : Nat} (c : Core) (n m i j v : Nat) (h : o ≠ k) :
    (c.putByte k n i v).byteOf o m j = c.byteOf o m j := by
  rw [byteOf, putByte, get_put_ne _ _ h, byteOf]

theorem byteOf_congr {c d : Core} {k : Nat} (n i : Nat) (h : d.get k = c.get k) : d.byteOf k n i = c.byteOf k n i := by
  rw [byteOf, h, byteOf]

theorem byteOf_lt (c : Core) (k n i : Nat) : c.byteOf k n i < 256 := Nat.mod_lt _ (by decide)

/-! ## A supervisor runs an image (R343) -/

section
variable {c : Core} {h slot state : Nat}

theorem runImage_get {o : Nat} (h1 : o ≠ Obj.Image.RUN_SLOT) (h2 : o ≠ Obj.Image.HALF_STATE) (h3 : o ≠ Obj.Id.FW_VERSION) :
    (c.runImage h slot state).get o = c.get o := by
  rw [runImage, get_updHalf, get_put_ne _ _ h3, setHalf, putByte, get_put_ne _ _ h2, putByte, get_put_ne _ _ h1]

theorem runImage_runSlot {i : Nat} (hh : h < 2) (hi : i < 2) (hslot : slot ≤ 1) :
    (c.runImage h slot state).runSlot i = if i = h then slot else c.runSlot i := by
  rw [runSlot, runSlot, runImage, byteOf_congr (c := c.putByte Obj.Image.RUN_SLOT 2 h slot) _ _
    (by simp [setHalf, putByte, get_put_ne]), byteOf_putByte c _ _ hh hi, Nat.mod_eq_of_lt (by omega)]

theorem runImage_halfState {i : Nat} (hh : h < 2) (hi : i < 2) (hstate : state < 256) :
    (c.runImage h slot state).halfState i = if i = h then state else c.halfState i := by
  rw [halfState, halfState, runImage, byteOf_congr (c := (c.putByte Obj.Image.RUN_SLOT 2 h slot).setHalf h state) _ _
    (by simp [get_put_ne]), setHalf, byteOf_putByte _ _ _ hh hi, Nat.mod_eq_of_lt hstate,
    byteOf_putByte_ne _ _ _ _ _ _ (by decide)]

theorem fc_runImage : (c.runImage h slot state).fc = c.fc := by simp [runImage, setHalf, putByte]

theorem fc_flag (k n : Nat) : (c.flag k n).fc = c.fc := fc_put _ _ _

theorem runImage_halfSt : (c.runImage h slot state).halfSt h =
    { c.halfSt h with svn := imgSvn (c.imageHead slot), ilevel := imgIlevel (c.imageHead slot),
                      minPeer := imgMinPeer (c.imageHead slot), running := true, release := false, claim := false } := by
  rw [runImage, halfSt_updHalf_self]
  simp [setHalf, putByte]

end

/-! ## What the check of an image reads (R343) -/

section
variable {c d : Core} (himages : d.images = c.images)
include himages

theorem imageOf_congr (slot : Nat) : d.imageOf slot = c.imageOf slot := by rw [imageOf, himages, imageOf]

theorem imageHead_congr (slot : Nat) : d.imageHead slot = c.imageHead slot := by
  rw [imageHead, imageOf_congr himages, imageHead]

theorem imageOk_congr (hflash : d.flash = c.flash) (f : Fuses) (slot : Nat) : d.imageOk f slot = c.imageOk f slot := by
  rw [imageOk, imageOf_congr himages, imageHead_congr himages, hflash, imageOk]

end

/-! ## Boot at a start and after an update (R343, R345) -/

section
variable {c : Core} {f : Fuses} {h : Nat}

/-- The slots' states are shown as the boot checks them. -/
def bothShown (c : Core) (f : Fuses) : Core := (c.showImage f 0).showImage f 1

theorem imageOk_bothShown (slot : Nat) : (c.bothShown f).imageOk f slot = c.imageOk f slot :=
  imageOk_congr (by simp [bothShown, showImage, putByte]) (by simp [bothShown, showImage, putByte]) f slot

theorem bothShown_get {o : Nat} (ho : o ≠ Obj.Image.IMG_STATE) : (c.bothShown f).get o = c.get o := by
  rw [bothShown, showImage, putByte, get_put_ne _ _ ho, showImage, putByte, get_put_ne _ _ ho]

theorem fc_bothShown : (c.bothShown f).fc = c.fc := by simp [bothShown, showImage, putByte]

theorem bootHalf_eq : c.bootHalf f h =
    if (c.bothShown f).imageOk f (c.bootSlot h) then (c.bothShown f).runImage h (c.bootSlot h) 0
    else if (c.bothShown f).imageOk f (1 - c.bootSlot h) then
      (((c.bothShown f).runImage h (1 - c.bootSlot h) 0).flag Obj.Sec.FLAGS 4).raise Src.secBoot (ctxNone 0 0)
    else (c.bothShown f).recover h := rfl

theorem bootHalf_of_ok (hok : c.imageOk f (c.bootSlot h) = true) :
    c.bootHalf f h = (c.bothShown f).runImage h (c.bootSlot h) 0 := by
  rw [bootHalf_eq, imageOk_bothShown, if_pos hok]

theorem bootHalf_of_other (hbad : c.imageOk f (c.bootSlot h) = false) (hok : c.imageOk f (1 - c.bootSlot h) = true) :
    c.bootHalf f h = (((c.bothShown f).runImage h (1 - c.bootSlot h) 0).flag Obj.Sec.FLAGS 4).raise
      Src.secBoot (ctxNone 0 0) := by
  rw [bootHalf_eq, imageOk_bothShown, imageOk_bothShown, hbad, if_neg (by decide), if_pos hok]

theorem bootHalf_of_none (hbad : c.imageOk f (c.bootSlot h) = false) (hbad' : c.imageOk f (1 - c.bootSlot h) = false) :
    c.bootHalf f h = (c.bothShown f).recover h := by
  rw [bootHalf_eq, imageOk_bothShown, imageOk_bothShown, hbad, hbad', if_neg (by decide), if_neg (by decide)]

theorem supervisorBoot_of_start {r : StartRun} (hstate : c.halfState h ≠ 1) (hstate' : c.halfState h ≠ 3)
    (hstart : c.start = some r) (hdev : c.dev = Dv.selftest) (horigin : r.origin = 0) (hrun : (c.halfSt h).running = false) :
    c.supervisorBoot f h = c.bootHalf f h := by
  rw [supervisorBoot, if_neg hstate, hstart]
  exact if_pos (by simp [hdev, horigin, hrun, hstate'])

theorem supervisorBoot_of_restart (hstate : c.halfState h = 1) (hbaton : c.get Obj.Baton.BATON ≠ h)
    (hok : c.imageOk f (c.halfSt h).target = true) : c.supervisorBoot f h = c.runImage h (c.halfSt h).target 2 := by
  rw [supervisorBoot, if_pos hstate, if_neg hbaton, if_pos hok]

end

section
variable {c : Core} {h : Nat}

/-- RECOVERY: the half's state and flag, with its event (R343 step 5). -/
theorem recover_facts (hh : h < 2) : (c.recover h).halfState h = 3 ∧ ((c.recover h).halfSt h).running = false ∧
    (c.recover h).bitOf Obj.Sec.FLAGS 3 = true ∧ (∀ n, n ≠ 3 → (c.recover h).bitOf Obj.Sec.FLAGS n = c.bitOf Obj.Sec.FLAGS n) ∧
    c.Raises Src.secBoot (c.recover h) := by
  unfold recover
  refine ⟨?_, ?_, ?_, fun n hn => ?_, raises_of_raise _ (by decide +kernel) (by simp [flag, setHalf, putByte]) ?_⟩
  · rw [halfState, byteOf_congr (c := c.setHalf h 3) _ _
      (by simp (disch := decide) [get_raise, flag, get_put_ne]), setHalf, byteOf_putByte _ _ _ hh hh, if_pos rfl]
  · simp [flag]
  · rw [bitOf, get_raise _ _ _ (by decide)]
    exact bitOf_flag_self _ _ _
  · rw [bitOf, bitOf, get_raise _ _ _ (by decide), flag, get_put_self, testBit_setBitTo_ne _ _ hn]
    simp (disch := decide) [setHalf, putByte, get_put_ne]
  · simp (disch := decide) [flag, setHalf, putByte, get_put_ne]

end

section
variable {c : Core} {f : Fuses} {h : Nat} (hh : h < 2)
include hh

theorem bootHalf_ok_facts (ha : c.bootSlot h ≤ 1) (hok : c.imageOk f (c.bootSlot h) = true) :
    (c.bootHalf f h).runSlot h = c.bootSlot h ∧ (c.bootHalf f h).halfState h = 0 ∧
      ((c.bootHalf f h).halfSt h).running = true ∧ ((c.bootHalf f h).halfSt h).svn = imgSvn (c.imageHead (c.bootSlot h)) := by
  rw [bootHalf_of_ok hok, runImage_runSlot hh hh ha, if_pos rfl, runImage_halfState hh hh (by decide), if_pos rfl,
    runImage_halfSt]
  refine ⟨rfl, rfl, rfl, ?_⟩
  dsimp only
  rw [imageHead_congr (c := c) (by simp [bothShown, showImage, putByte])]

theorem bootHalf_other_facts (hbad : c.imageOk f (c.bootSlot h) = false) (hok : c.imageOk f (1 - c.bootSlot h) = true) :
    (c.bootHalf f h).runSlot h = 1 - c.bootSlot h ∧ (c.bootHalf f h).halfState h = 0 ∧
      ((c.bootHalf f h).halfSt h).running = true ∧ (c.bootHalf f h).bitOf Obj.Sec.FLAGS 4 = true ∧
      c.Raises Src.secBoot (c.bootHalf f h) := by
  rw [bootHalf_of_other hbad hok]
  have hbyte : ∀ (d : Core) (o i : Nat), o ≠ Obj.Sec.FLAGS → o = Obj.Image.RUN_SLOT ∨ o = Obj.Image.HALF_STATE →
      ((d.flag Obj.Sec.FLAGS 4).raise Src.secBoot (ctxNone 0 0)).byteOf o 2 i = d.byteOf o 2 i := fun d o i h1 h2 => by
    rw [byteOf_congr _ _ (get_raise _ _ _ (by simp at h2; omega)), byteOf_congr _ _ (get_flag_ne _ _ h1)]
  refine ⟨?_, ?_, ?_, ?_, raises_of_raise _ (by decide +kernel) ?_ ?_⟩
  · rw [runSlot, hbyte _ _ _ (by decide) (.inl rfl), ← runSlot, runImage_runSlot hh hh (by omega), if_pos rfl]
  · rw [halfState, hbyte _ _ _ (by decide) (.inr rfl), ← halfState, runImage_halfState hh hh (by decide), if_pos rfl]
  · rw [halfSt_raise, flag, halfSt_put, runImage_halfSt]
  · rw [bitOf, get_raise _ _ _ (by decide)]
    exact bitOf_flag_self _ _ _
  · rw [fc_flag, fc_runImage, fc_bothShown]
  · rw [get_flag_ne _ _ (by decide), runImage_get (by decide) (by decide) (by decide), bothShown_get (by decide)]

theorem bootHalf_none_facts (hbad : c.imageOk f (c.bootSlot h) = false) (hbad' : c.imageOk f (1 - c.bootSlot h) = false) :
    (c.bootHalf f h).halfState h = 3 ∧ ((c.bootHalf f h).halfSt h).running = false ∧
      (c.bootHalf f h).bitOf Obj.Sec.FLAGS 3 = true ∧ c.Raises Src.secBoot (c.bootHalf f h) := by
  rw [bootHalf_of_none hbad hbad']
  obtain ⟨hst, hrun, hflag, -, hraise⟩ := recover_facts (c := c.bothShown f) hh
  refine ⟨hst, hrun, hflag, fun hears => ?_⟩
  rw [hraise (hears.congr fc_bothShown), bothShown_get (by decide)]

end

section
variable {c : Core} {f : Fuses} {h : Nat}

theorem trialExpiry_of_ok (hstate : c.halfState h = 2) (hok : c.imageOk f (c.halfSt h).before = true) :
    c.trialExpiry f h = ((c.flag Obj.Sec.FLAGS 5).raise Src.secBoot (ctxNone 0 0)).runImage h (c.halfSt h).before 0 := by
  rw [trialExpiry, if_pos hstate, trialRevert]
  exact if_pos ((imageOk_congr (by simp [flag]) (by simp [flag]) f _).trans hok)

theorem trialExpiry_of_bad (hstate : c.halfState h = 2) (hbad : c.imageOk f (c.halfSt h).before = false) :
    c.trialExpiry f h = ((c.flag Obj.Sec.FLAGS 5).raise Src.secBoot (ctxNone 0 0)).recover h := by
  rw [trialExpiry, if_pos hstate, trialRevert]
  refine if_neg ?_
  rw [imageOk_congr (c := c) (by simp [flag]) (by simp [flag]), hbad]
  decide

end

/-! ## Image writes (R344) -/

/-- A write of an object of the images. -/
theorem writeValue_image (c : Core) (f : Fuses) (w : World) (sub : Nat) (bs : List Byte) :
    c.writeValue f w 0x5030 sub bs = c.writeImage f sub (ofBytes bs) bs := rfl

section
variable {c : Core} {f : Fuses} {slot : Nat}

/-- The slot is open for writing, and empty. -/
def imageOpened (c : Core) (slot : Nat) : Core :=
  (((c.withImages (Tbl.set (fun _ => []) c.images slot [])).withImageOpen (some slot)).putByte Obj.Image.IMG_STATE 2 slot 1).put
    Obj.Image.IMG_OFFSET 0

theorem imgOpen_eq (hslot : slot ≤ 1) (hfit : c.flash.fit = true) (hnone : c.imageOpen = none)
    (hfree : ∀ h < 2, c.runSlot h ≠ slot ∧ c.bootSlot h ≠ slot) : c.imgOpen slot = (.ok, c.imageOpened slot) := by
  rw [imgOpen, if_neg (by omega), if_neg (by simp [hfit]), if_neg]
  · rfl
  · simp [hnone, (hfree 0 (by decide)).1, (hfree 0 (by decide)).2, (hfree 1 (by decide)).1, (hfree 1 (by decide)).2]

theorem imageOpened_get {k : Nat} (h1 : k ≠ Obj.Image.IMG_OFFSET) (h2 : k ≠ Obj.Image.IMG_STATE) :
    (c.imageOpened slot).get k = c.get k := by
  rw [imageOpened, get_put_ne _ _ h1, putByte, get_put_ne _ _ h2]
  simp

/-- The bytes are appended to the slot. -/
def imageAppended (c : Core) (slot : Nat) (bs : List Byte) : Core :=
  (c.withImages (Tbl.set (fun _ => []) c.images slot (c.imageOf slot ++ bs))).put Obj.Image.IMG_OFFSET
    ((c.imageOf slot).length + bs.length)

theorem imgData_eq {bs : List Byte} (h1 : 0 < bs.length) (h2 : bs.length ≤ 4096) (hfit : c.flash.fit = true)
    (hopen : c.imageOpen = some slot) (hroom : (c.imageOf slot).length + bs.length ≤ 2 ^ 24) :
    c.imgData bs = (.ok, c.imageAppended slot bs) := by
  rw [imgData, if_neg (by simp; exact ⟨by rintro rfl; simp at h1, h2⟩), if_neg (by simp [hfit]), hopen]
  dsimp only
  rw [List.length_append, if_neg (by omega), imageAppended]

/-- A half in RECOVERY boots the image in `slot`. -/
def bootIfDown (slot : Nat) (c : Core) (h : Nat) : Core := if c.halfState h = 3 then c.runImage h slot 0 else c

/-- The slot is closed and its check shown. -/
def imageClosed (c : Core) (f : Fuses) (slot : Nat) : Core := (c.withImageOpen none).showImage f slot

/-- Where the check passes, the halves in RECOVERY boot the image. -/
def closedAndBooted (c : Core) (f : Fuses) (slot : Nat) : Core :=
  if c.imageOk f slot then ((c.imageClosed f slot).bootIfDown slot 0).bootIfDown slot 1 else c.imageClosed f slot

theorem imgClose_eq (hfit : c.flash.fit = true) (hopen : c.imageOpen = some slot) : c.imgClose f =
    (.ok, c.closedAndBooted f slot) := by
  rw [imgClose, if_neg (by simp [hfit]), hopen, closedAndBooted]
  rw [← imageOk_congr (d := c.imageClosed f slot) (by simp [imageClosed, showImage, putByte])
    (by simp [imageClosed, showImage, putByte]) f slot]
  rfl

theorem imageClosed_imgState (hslot : slot ≤ 1) : (c.imageClosed f slot).imgState slot =
    if c.imageOf slot = [] then 0 else if c.imageOk f slot then 2 else 3 := by
  have hok : (c.withImageOpen none).imageOk f slot = c.imageOk f slot := imageOk_congr (by simp) (by simp) f slot
  have himg : (c.withImageOpen none).imageOf slot = c.imageOf slot := imageOf_congr (by simp) slot
  rw [imageClosed, showImage, imgState, byteOf_putByte _ _ _ (by omega) (by omega), if_pos rfl, hok, himg]
  simp only [imageOpen_withImageOpen, reduceCtorEq, if_false]
  split_ifs <;> rfl

theorem imageClosed_get {k : Nat} (h : k ≠ Obj.Image.IMG_STATE) : (c.imageClosed f slot).get k = c.get k := by
  rw [imageClosed, showImage, putByte, get_put_ne _ _ h, get_withImageOpen]

section
variable (hslot : slot ≤ 1)
include hslot

theorem bootIfDown_of_down {h : Nat} (hh : h < 2) (hdown : c.halfState h = 3) :
    (c.bootIfDown slot h).halfState h = 0 ∧ (c.bootIfDown slot h).runSlot h = slot := by
  rw [bootIfDown, if_pos hdown, runImage_halfState hh hh (by decide), runImage_runSlot hh hh hslot, if_pos rfl, if_pos rfl]
  exact ⟨rfl, rfl⟩

theorem bootIfDown_of_ne {h i : Nat} (hh : h < 2) (hi : i < 2) (hne : i ≠ h) :
    (c.bootIfDown slot h).halfState i = c.halfState i ∧ (c.bootIfDown slot h).runSlot i = c.runSlot i := by
  unfold bootIfDown
  split
  · rw [runImage_halfState hh hi (by decide), runImage_runSlot hh hi hslot, if_neg hne, if_neg hne]
    exact ⟨rfl, rfl⟩
  · exact ⟨rfl, rfl⟩

theorem bootIfDown_both {h : Nat} (hh : h < 2) (hdown : c.halfState h = 3) :
    ((c.bootIfDown slot 0).bootIfDown slot 1).halfState h = 0 ∧ ((c.bootIfDown slot 0).bootIfDown slot 1).runSlot h = slot := by
  have hcases : h = 0 ∨ h = 1 := by omega
  rcases hcases with rfl | rfl
  · obtain ⟨hstate, hrun⟩ := bootIfDown_of_ne (c := c.bootIfDown slot 0) hslot (show 1 < 2 by decide) (show 0 < 2 by decide) (by decide)
    rw [hstate, hrun]
    exact bootIfDown_of_down hslot (by decide) hdown
  · refine bootIfDown_of_down hslot (by decide) ?_
    rw [(bootIfDown_of_ne hslot (show 0 < 2 by decide) (show 1 < 2 by decide) (by decide)).1, hdown]

end

/-- What booting leaves: the slots and their states, and which one is open. -/
theorem bootIfDown_keeps (h i : Nat) : (c.bootIfDown slot h).images = c.images ∧ (c.bootIfDown slot h).imageOpen = c.imageOpen ∧
    (c.bootIfDown slot h).imgState i = c.imgState i := by
  unfold bootIfDown
  split
  · refine ⟨by simp [runImage, setHalf, putByte], by simp [runImage, setHalf, putByte], ?_⟩
    exact byteOf_congr _ _ (runImage_get (by decide) (by decide) (by decide))
  · exact ⟨rfl, rfl, rfl⟩

theorem closedAndBooted_facts (hslot : slot ≤ 1) : (c.closedAndBooted f slot).imageOpen = none ∧
    (c.closedAndBooted f slot).images = c.images ∧
    (c.closedAndBooted f slot).imgState slot = (if c.imageOf slot = [] then 0 else if c.imageOk f slot then 2 else 3) ∧
    (c.imageOk f slot = true → ∀ h < 2, c.halfState h = 3 →
      (c.closedAndBooted f slot).halfState h = 0 ∧ (c.closedAndBooted f slot).runSlot h = slot) := by
  have hnone : (c.imageClosed f slot).imageOpen = none := by simp [imageClosed, showImage, putByte]
  have himages : (c.imageClosed f slot).images = c.images := by simp [imageClosed, showImage, putByte]
  have hhalf : ∀ h, (c.imageClosed f slot).halfState h = c.halfState h := fun h =>
    byteOf_congr _ _ (imageClosed_get (by decide))
  unfold closedAndBooted
  split
  · next hok =>
    obtain ⟨himg0, hopen0, hst0⟩ := bootIfDown_keeps (c := c.imageClosed f slot) (slot := slot) 0 slot
    obtain ⟨himg1, hopen1, hst1⟩ := bootIfDown_keeps (c := (c.imageClosed f slot).bootIfDown slot 0) (slot := slot) 1 slot
    rw [himg1, hopen1, hst1, himg0, hopen0, hst0]
    exact ⟨hnone, himages, (imageClosed_imgState hslot).trans (by simp [hok]), fun _ h hh hdown =>
      bootIfDown_both hslot hh ((hhalf h).trans hdown)⟩
  · next hok => exact ⟨hnone, himages, (imageClosed_imgState hslot).trans (by simp [hok]), fun h => absurd h hok⟩

end

/-! ## ACTIVATE and CONFIRM (R345) -/

section
variable {c : Core} {v : Nat}

/-- A half is to restart into `slot`; the holder offers the baton. -/
def activated (c : Core) (h slot : Nat) : Core :=
  (c.setHalf h 1).updHalf h fun s =>
    { s with before := c.runSlot h, target := slot, release := s.release || decide (c.get Obj.Baton.BATON = h) }

/-- With the holder's RELEASE shown where the half holds the baton. -/
def activatedBy (c : Core) (h slot : Nat) : Core :=
  if c.get Obj.Baton.BATON = h then
    (c.activated h slot).putBit Obj.Baton.HEARTBEATS (if h = 0 then 34 else 2) true
  else c.activated h slot

theorem activatedBy_facts {h slot : Nat} (hh : h < 2) : (c.activatedBy h slot).halfState h = 1 ∧
    (c.activatedBy h slot).halfSt h = { c.halfSt h with
      before := c.runSlot h, target := slot, release := (c.halfSt h).release || decide (c.get Obj.Baton.BATON = h) } := by
  have hstate : (c.activated h slot).halfState h = 1 := by
    rw [halfState, activated, byteOf_congr _ _ (get_updHalf _ _ _ _), setHalf, byteOf_putByte _ _ _ hh hh, if_pos rfl]
  have hhalf : (c.activated h slot).halfSt h = { c.halfSt h with
      before := c.runSlot h, target := slot, release := (c.halfSt h).release || decide (c.get Obj.Baton.BATON = h) } := by
    rw [activated, halfSt_updHalf_self, setHalf, putByte, halfSt_put]
  unfold activatedBy
  split
  · rw [halfState, putBit, byteOf_congr _ _ (get_put_ne _ _ (by decide)), halfSt_put]
    exact ⟨hstate, hhalf⟩
  · exact ⟨hstate, hhalf⟩

theorem activate_eq (hform : v &&& 0xEE = 0) (hpeer : c.halfState (1 - field 4 4 v) = 0)
    (hdev : c.inService = true ∨ c.dev = Dv.service) (himg : c.imgState (field 0 0 v) = 2)
    (hlevel : imgMinPeer (c.imageHead (field 0 0 v)) ≤ (c.halfSt (1 - field 4 4 v)).ilevel)
    (hpeerlevel : (c.halfSt (1 - field 4 4 v)).minPeer ≤ imgIlevel (c.imageHead (field 0 0 v))) :
    c.activate v = (.ok, c.activatedBy (field 4 4 v) (field 0 0 v)) := by
  rw [activate, if_neg (not_not.2 hform), if_neg (by rcases hdev with hdev | hdev <;> simp [hpeer, hdev]), if_neg (by simp [himg]; omega)]
  rfl

theorem confirm_eq (hh : v ≤ 1) (hstate : c.halfState v = 2) :
    c.confirm v = (.ok, ((c.putByte Obj.Image.BOOT_SLOT 2 v (c.runSlot v)).touch).setHalf v 0) := by
  rw [confirm, if_neg (by omega), if_neg (not_not.2 hstate)]

end

end Core

/-- An admitted write of bytes ends in the effect of its object's rule and its status. -/
theorem State.write_of_writeValue {s : State} {w : World} {k : Nat} {bs : List Byte} {c : Core} {st : Status}
    (hserved : s.core.loaServed = true) (hpass : s.core.writeRefusal w (k / 256) (k % 256) bs = none)
    (hclear : clearableOf (k / 256) (k % 256) = none) (hcore : coreObject (k / 256) (k % 256))
    (hw : s.clear.core.writeValue s.fuses w (k / 256) (k % 256) bs = (st, c)) :
    s.write w k bs 0 = State.settle { s.clear with core := c.emit (.status st) } := by
  refine State.write_of_writeObject (u := { s.clear with core := c }) hserved ?_
  have hpass' : s.clear.core.writeRefusal w (k / 256) (k % 256) bs = none := hpass
  rw [State.writeObject, hpass', hclear]
  dsimp only
  rw [State.admitted_of_coreObject _ _ _ hcore, State.onCoreOnly, State.clear_fuses, hw]

theorem coreObject_image {sub : Nat} : coreObject 0x5030 sub := by
  rw [coreObject]
  omega

section
variable {s : State}

/-- The boot of a half at a start (R343). -/
theorem supervisorBoot_start {h : Half} {r : StartRun} {P : Core → Prop} (hup : s.core.seqUp = true)
    (hstart : s.core.start = some r) (hdev : s.core.dev = Dv.selftest) (horigin : r.origin = 0)
    (hrun : (s.core.halfSt h.val).running = false) (hstate : s.core.halfState h.val ≠ 1) (hstate' : s.core.halfState h.val ≠ 3)
    (hp : P (s.clear.core.bootHalf s.fuses h.val)) : AnswersThen (.supervisorBoot h) s P := by
  refine answersThen_onFuses (fun c f => c.supervisorBoot f h.val) rfl hup ?_
  rw [Core.supervisorBoot_of_start (c := s.clear.core) hstate hstate' hstart hdev horigin hrun]
  exact hp

theorem trialExpiry_raises {h : Half}
    (hbefore : (s.core.halfSt h.val).before ≤ 1) (d : Core)
    (hd : d = ((s.clear.core.flag Obj.Sec.FLAGS 5).raise Src.secBoot (ctxNone 0 0)).runImage h.val (s.core.halfSt h.val).before 0) :
    d.bitOf Obj.Sec.FLAGS 5 = true ∧ d.halfState h.val = 0 ∧ d.runSlot h.val = (s.core.halfSt h.val).before ∧
      s.clear.core.Raises Src.secBoot d := by
  subst hd
  refine ⟨?_, ?_, ?_, ?_⟩
  · rw [Core.bitOf, Core.runImage_get (by decide) (by decide) (by decide), Core.get_raise _ _ _ (by decide)]
    exact Core.bitOf_flag_self _ _ _
  · rw [Core.runImage_halfState h.isLt h.isLt (by decide), if_pos rfl]
  · rw [Core.runImage_runSlot h.isLt h.isLt hbefore, if_pos rfl]
  · exact (Core.raises_of_raise _ (by decide +kernel) (by simp [Core.flag])
      (by rw [Core.get_flag_ne _ _ (by decide)])).of_get (Core.runImage_get (by decide) (by decide) (by decide))

end

/-- Settles O48: each command by the equation of its case. -/
theorem images : Obligations.Images := by
  refine ⟨?_, ?_, ?_, ?_, ?_, ?_, ?_, ?_⟩
  · intro s h r a hup hstart hdev horigin hrun hstate hstate' ha ha1
    subst ha
    exact ⟨fun hok => supervisorBoot_start hup hstart hdev horigin hrun hstate hstate'
        (Core.bootHalf_ok_facts (c := s.clear.core) h.isLt ha1 hok),
      fun hbad hok => supervisorBoot_start hup hstart hdev horigin hrun hstate hstate'
        (Core.bootHalf_other_facts (c := s.clear.core) h.isLt hbad hok),
      fun hbad hbad' => supervisorBoot_start hup hstart hdev horigin hrun hstate hstate'
        (Core.bootHalf_none_facts (c := s.clear.core) h.isLt hbad hbad')⟩
  · intro s h t hup hstate hbaton ht ht1 hok
    subst ht
    refine answersThen_onFuses (fun c f => c.supervisorBoot f h.val) rfl hup ?_
    have ht1' : (s.clear.core.halfSt h.val).target ≤ 1 := ht1
    rw [Core.supervisorBoot_of_restart (c := s.clear.core) hstate hbaton hok,
      Core.runImage_runSlot h.isLt h.isLt ht1', if_pos rfl, Core.runImage_halfState h.isLt h.isLt (by decide), if_pos rfl,
      Core.runImage_halfSt]
    exact ⟨rfl, rfl, rfl⟩
  · intro s w v hadm hv hfit hnone hfree
    refine answersOk_writeNum rfl hadm (by decide +kernel) coreObject_image (c := s.clear.core.imageOpened v.toNat) ?_ ?_
    · rw [show Obj.Image.IMG_OPEN / 256 = 0x5030 from rfl, Core.writeValue_image, ofBytes_toBytes_of_fits hadm.2.1]
      exact Core.imgOpen_eq (c := s.clear.core) hv hfit hnone hfree
    · refine ⟨by simp [Core.imageOpened, Core.putByte], ?_, by simp [Core.imageOpened], ?_, fun k h1 h2 => ?_⟩
      · simp [Core.imageOpened, Core.putByte, Core.imageOf]
      · rw [Core.imgState, Core.byteOf_congr _ _ (Core.get_emit _ _ _), Core.imageOpened,
          Core.byteOf_congr _ _ (Core.get_put_ne _ _ (by decide)), Core.byteOf_putByte _ _ _ (by omega) (by omega), if_pos rfl]
      · rw [Core.get_emit, Core.imageOpened_get h1 h2]
        rfl
  · intro s w bs slot hserved hpass h1 h2 hfit hopen hroom
    refine ⟨(s.clear.core.imageAppended slot bs).emit (.status .ok), congrArg _ (State.write_of_writeValue hserved hpass
      (by decide +kernel) coreObject_image ?_), by simp, ?_, by simp [Core.imageAppended]; rfl, fun k hk => ?_⟩
    · exact Core.imgData_eq (c := s.clear.core) h1 h2 hfit hopen hroom
    · simp [Core.imageOf, Core.imageAppended]
      rfl
    · rw [Core.get_emit, Core.imageAppended, Core.get_put_ne _ _ hk]
      rfl
  · intro s w slot hadm hfit hopen hslot
    refine answersOk_writeNum rfl hadm (by decide +kernel) coreObject_image (c := s.clear.core.closedAndBooted s.fuses slot) ?_ ?_
    · rw [show Obj.Image.IMG_CLOSE / 256 = 0x5030 from rfl, Core.writeValue_image, ofBytes_toBytes_of_fits hadm.2.1]
      exact Core.imgClose_eq (c := s.clear.core) hfit hopen
    · obtain ⟨hnone, himages, hstate, hboot⟩ := Core.closedAndBooted_facts (c := s.clear.core) (f := s.fuses) hslot
      refine ⟨hnone, Core.imageOf_congr (c := s.core) himages slot, hstate, hboot⟩
  · intro s w v h slot hadm hform hh hslot hpeer hdev himg hlevel hpeerlevel
    subst hh hslot
    have hact := Core.activate_eq (c := s.clear.core) hform hpeer hdev himg hlevel hpeerlevel
    refine answersOk_writeNum rfl hadm (by decide +kernel) coreObject_image ?_ ?_
      (c := s.clear.core.activatedBy (field 4 4 v.toNat) (field 0 0 v.toNat))
    · rw [show Obj.Image.ACTIVATE / 256 = 0x5030 from rfl, Core.writeValue_image, ofBytes_toBytes_of_fits hadm.2.1]
      exact hact
    · obtain ⟨hst, hhalf⟩ := Core.activatedBy_facts (c := s.clear.core) (slot := field 0 0 v.toNat) (Core.field_lt 4 4 v.toNat)
      refine ⟨hst, ?_, ?_, fun hmine => ?_⟩
      · rw [Core.halfSt_emit, hhalf]
      · rw [Core.halfSt_emit, hhalf]
        rfl
      · have hmine' : s.clear.core.get Obj.Baton.BATON = field 4 4 v.toNat := hmine
        rw [Core.halfSt_emit, hhalf]
        simp [hmine']
  · intro s w v hadm hv hstate
    refine answersOk_writeNum rfl hadm (by decide +kernel) coreObject_image ?_ ?_
      (c := ((s.clear.core.putByte Obj.Image.BOOT_SLOT 2 v.toNat (s.core.runSlot v.toNat)).touch).setHalf v.toNat 0)
    · rw [show Obj.Image.CONFIRM / 256 = 0x5030 from rfl, Core.writeValue_image, ofBytes_toBytes_of_fits hadm.2.1]
      exact Core.confirm_eq (c := s.clear.core) hv hstate
    · refine ⟨?_, ?_, fun k h1 h2 => ?_⟩
      · rw [Core.halfState, Core.byteOf_congr _ _ (Core.get_emit _ _ _), Core.setHalf,
          Core.byteOf_putByte _ _ _ (by omega) (by omega), if_pos rfl]
      · rw [Core.bootSlot, Core.byteOf_congr _ _ (Core.get_emit _ _ _), Core.setHalf,
          Core.byteOf_putByte_ne _ _ _ _ _ _ (by decide), Core.touch, Core.byteOf_congr _ _ (Core.get_updLedger _ _ _ _),
          Core.byteOf_putByte _ _ _ (by omega) (by omega), if_pos rfl]
        exact Nat.mod_eq_of_lt (Core.byteOf_lt _ _ _ _)
      · rw [Core.get_emit, Core.setHalf, Core.putByte, Core.get_put_ne _ _ h2, Core.touch, Core.get_updLedger, Core.putByte,
          Core.get_put_ne _ _ h1]
        rfl
  · intro s h hup hstate hbefore
    refine answersThen_onFuses (fun c f => c.trialExpiry f h.val) rfl hup ?_
    by_cases hok : s.core.imageOk s.fuses (s.core.halfSt h.val).before = true
    · obtain ⟨hflag, hst, hrun, hraise⟩ := trialExpiry_raises hbefore _ rfl
      rw [Core.trialExpiry_of_ok (c := s.clear.core) hstate hok, if_pos hok]
      exact ⟨hflag, hst, hrun, hraise⟩
    · rw [if_neg hok, Core.trialExpiry_of_bad (c := s.clear.core) hstate (Bool.eq_false_of_not_eq_true hok)]
      obtain ⟨hst, -, -, hflag, -⟩ := Core.recover_facts
        (c := (s.clear.core.flag Obj.Sec.FLAGS 5).raise Src.secBoot (ctxNone 0 0)) h.isLt
      refine ⟨?_, hst⟩
      rw [hflag 5 (by decide), Core.bitOf, Core.get_raise _ _ _ (by decide)]
      exact Core.bitOf_flag_self _ _ _

end Sys2Proof.Machine
end

section
/-! PROOFS. Rows of the dictionary for a whole range of indices (00_scope.md R7, 14_object_dictionary.md R382). -/

namespace Sys2Proof.Machine

theorem Group.inst_of_out {g : Group} {idx : Nat} (h : g.base + max 1 (g.stride * g.count) ≤ idx) : g.inst idx = none := by
  have hlt : ¬ idx < g.base := by omega
  have hpos : idx - g.base ≠ 0 := by omega
  rw [Group.inst, if_neg hlt]
  dsimp only
  by_cases hone : g.count = 1
  · rw [if_pos hone, if_neg (by simp [hpos]), if_neg (by simp [hpos])]
  · rw [if_neg hone, if_neg, if_neg (by simp [hone])]
    rintro ⟨hdiv, hi, -⟩
    have hmul : g.stride * ((idx - g.base) / g.stride) < g.stride * g.count := by
      refine Nat.mul_lt_mul_of_pos_left hi (Nat.pos_of_ne_zero fun h0 => ?_)
      rw [h0] at hdiv
      omega
    omega

theorem Group.inst_of_mem {g : Group} {idx : Nat} (hs : g.stride = 1) (hf : g.first = 0) (h1 : g.base ≤ idx)
    (h2 : idx < g.base + g.count) : g.inst idx = some (idx - g.base) := by
  rw [Group.inst, if_neg (by omega), hs, hf]
  by_cases hone : g.count = 1
  · have h0 : idx - g.base = 0 := by omega
    simp [hone, h0]
  · simp [hone]
    omega

/-- The group of an index in the range of the n-th group, when the groups before it lie below. -/
theorem findGroup_of_range {n idx : Nat} {g : Group} (hg : dictionary[n]? = some g)
    (hbelow : ((dictionary.take n).all fun a => decide (a.base + max 1 (a.stride * a.count) ≤ g.base)) = true)
    (hs : g.stride = 1) (hf : g.first = 0) (h1 : g.base ≤ idx) (h2 : idx < g.base + g.count) : findGroup idx = some g := by
  obtain ⟨hn, hget⟩ := List.getElem?_eq_some_iff.1 hg
  have hsplit : dictionary = dictionary.take n ++ g :: dictionary.drop (n + 1) := by
    rw [← hget, List.getElem_cons_drop hn, List.take_append_drop]
  refine List.find?_eq_some_iff_append.2 ⟨by rw [Group.inst_of_mem hs hf h1 h2]; rfl, _, _, hsplit, fun a ha => ?_⟩
  have hle := List.all_eq_true.1 hbelow a ha
  rw [Group.inst_of_out (by simp only [decide_eq_true_eq] at hle; omega)]
  rfl

/-- The row of a subindex of such an index. -/
theorem lookup_of_range {n idx sub : Nat} {g : Group} (hg : dictionary[n]? = some g)
    (hbelow : ((dictionary.take n).all fun a => decide (a.base + max 1 (a.stride * a.count) ≤ g.base)) = true)
    (hs : g.stride = 1) (hf : g.first = 0) (h1 : g.base ≤ idx) (h2 : idx < g.base + g.count)
    (hexists : sourceObjectExists idx = true) (hsub : sub ≠ 0) : lookup idx sub = g.row? sub := by
  unfold lookup
  rw [if_pos hexists, findGroup_of_range hg hbelow hs hf h1 h2]
  exact if_neg fun h => hsub h.1

theorem sourceObjectExists_of_out {idx : Nat} (h : ¬ (0x4900 ≤ idx ∧ idx < 0x4C00)) : sourceObjectExists idx = true := by
  rw [sourceObjectExists, if_neg h]

section
variable {sub : Nat} (hsub : sub ≠ 0)
include hsub

theorem lookup_region {r : Nat} (h : r < 1024) : lookup (0x2300 + r) sub = (⟨0x2300, 1, 1024, 0, Obj.Region.rows⟩ : Group).row? sub :=
  lookup_of_range (n := 6) rfl (by decide) rfl rfl (by dsimp only; omega) (by dsimp only; omega)
    (sourceObjectExists_of_out (by omega)) hsub

theorem lookup_stream {st : Nat} (h : st < 256) : lookup (0x2800 + st) sub = (⟨0x2800, 1, 256, 0, Obj.Stream.rows⟩ : Group).row? sub :=
  lookup_of_range (n := 7) rfl (by decide) rfl rfl (by dsimp only; omega) (by dsimp only; omega)
    (sourceObjectExists_of_out (by omega)) hsub

theorem lookup_window {n : Nat} (h : n < 64) : lookup (0x2A00 + n) sub = (⟨0x2A00, 1, 64, 0, Obj.Window.rows⟩ : Group).row? sub :=
  lookup_of_range (n := 10) rfl (by decide) rfl rfl (by dsimp only; omega) (by dsimp only; omega)
    (sourceObjectExists_of_out (by omega)) hsub

theorem lookup_quota {r : Nat} (h : r < 1024) : lookup (0x2C00 + r) sub = (⟨0x2C00, 1, 1024, 0, Obj.Quota.rows⟩ : Group).row? sub :=
  lookup_of_range (n := 11) rfl (by decide) rfl rfl (by dsimp only; omega) (by dsimp only; omega)
    (sourceObjectExists_of_out (by omega)) hsub

theorem lookup_context {x : Nat} (h : x < 128) : lookup (0x3000 + x) sub = (⟨0x3000, 1, 128, 0, Obj.Context.rows⟩ : Group).row? sub :=
  lookup_of_range (n := 12) rfl (by decide) rfl rfl (by dsimp only; omega) (by dsimp only; omega)
    (sourceObjectExists_of_out (by omega)) hsub

theorem lookup_job {j : Nat} (h : j < 32) : lookup (0x3400 + j) sub = (⟨0x3400, 1, 32, 0, Obj.Job.rows⟩ : Group).row? sub :=
  lookup_of_range (n := 14) rfl (by decide) rfl rfl (by dsimp only; omega) (by dsimp only; omega)
    (sourceObjectExists_of_out (by omega)) hsub

theorem lookup_lease {l : Nat} (h : l < 16) : lookup (0x3500 + l) sub = (⟨0x3500, 1, 16, 0, Obj.Lease.rows⟩ : Group).row? sub :=
  lookup_of_range (n := 15) rfl (by decide) rfl rfl (by dsimp only; omega) (by dsimp only; omega)
    (sourceObjectExists_of_out (by omega)) hsub

theorem lookup_source {src : Nat} (h : src < 768) (hexists : sourceObjectExists (0x4900 + src) = true) :
    lookup (0x4900 + src) sub = (⟨0x4900, 1, 768, 0, Obj.Source.rows⟩ : Group).row? sub :=
  lookup_of_range (n := 31) rfl (by decide) rfl rfl (by dsimp only; omega) (by dsimp only; omega) hexists hsub

end

/-- An object whose row is not of status flags. -/
theorem clearableOf_of_lookup {idx sub : Nat} {r : Row} (h : lookup idx sub = some r) (hrow : ∀ n m, r.chk ≠ .w1c n m) :
    clearableOf idx sub = none := by
  rw [clearableOf, h]
  dsimp only
  split
  · next n m hw => exact absurd hw (hrow n m)
  · rfl

end Sys2Proof.Machine
end

section
/-! PROOFS. Status flags (00_scope.md R10, 12_fault_collection.md R308, R323, R332) and the obligation `StatusFlags`. -/

namespace Sys2Proof.Machine

/-! ## The values of flag words after a write (R10, R308) -/

theorem testBit_clearFlags (old v set i : Nat) :
    (clearFlags old v set).testBit i = (set.testBit i || (old.testBit i && !v.testBit i)) := by
  simp only [clearFlags, Nat.testBit_or, Nat.testBit_and, Nat.testBit_xor]
  cases old.testBit i <;> cases v.testBit i <;> cases set.testBit i <;> rfl

theorem and_and_self (x n : Nat) : x &&& n &&& n = x &&& n := by rw [Nat.and_assoc, Nat.and_self]

/-- While the condition stands PENDING stays. -/
theorem clearStatus_of_standing {old : Nat} (h : old.testBit 4 = true) : clearStatus old 1 0 = old := by
  simp [clearStatus, bit, h, field]

/-- PENDING that is set in the same cycle stays. -/
theorem clearStatus_of_set (old : Nat) : clearStatus old 1 1 = old := by
  simp [clearStatus, bit, field]

/-- Otherwise PENDING clears and PEND_SEV falls. -/
theorem clearStatus_of_idle {old : Nat} (h : old.testBit 4 = false) : clearStatus old 1 0 = 2 * (old / 2) % 32 := by
  simp [clearStatus, bit, h, field]
  omega

section
variable (old : Nat)

theorem clearStatus_pending : (clearStatus old 1 0).testBit 0 = (old.testBit 0 && old.testBit 4) := by
  rcases h : old.testBit 4
  · rw [clearStatus_of_idle h, show (32 : Nat) = 2 ^ 5 from rfl, Nat.testBit_mod_two_pow]
    simp
  · rw [clearStatus_of_standing h, Bool.and_true]

theorem clearStatus_rest {i : Nat} (h1 : 1 ≤ i) (h4 : i ≤ 4) : (clearStatus old 1 0).testBit i = old.testBit i := by
  rcases h : old.testBit 4
  · obtain ⟨j, rfl⟩ : ∃ j, i = j + 1 := ⟨i - 1, by omega⟩
    rw [clearStatus_of_idle h, show (32 : Nat) = 2 ^ 5 from rfl, Nat.testBit_mod_two_pow, Nat.testBit_succ,
      Nat.mul_div_cancel_left _ (by decide), Nat.testBit_succ]
    simp
    omega
  · rw [clearStatus_of_standing h]

end

namespace Core

theorem get_pins_ne (c : Core) {k : Nat} (h : k ≠ Obj.Fc.PIN_STATE) : c.pins.get k = c.get k := by
  unfold pins
  dsimp only
  rw [get_put_ne _ _ h]
  split_ifs <;> simp

theorem get_wonOver_ne (c : Core) {idx n k : Nat} (h : duringClear idx ≠ some k) : (c.wonOver idx n).get k = c.get k := by
  unfold wonOver
  split
  · next q hq => exact get_add_ne _ _ _ fun hk => h (by rw [hq, hk])
  · rfl

theorem get_wonOver_self (c : Core) {idx n q : Nat} (h : duringClear idx = some q) :
    (c.wonOver idx n).get q = min (c.get q + n) (2 ^ 32 - 1) := by
  unfold wonOver
  rw [h]
  exact (get_add_self _ _ _ _).trans (sat_eq_min _ _)

section
variable {c : Core} {idx sub v set n : Nat}

theorem clearFlagWord_of_flags (h : isSourceStatus (256 * idx + sub) = false) : c.clearFlagWord idx sub v set n =
    (c.put (256 * idx + sub) (clearFlags (c.get (256 * idx + sub)) (v &&& n) (set &&& n))).wonOver idx
      (popcount 32 (set &&& v &&& n)) := by
  rw [clearFlagWord, h, if_neg (by decide)]

theorem clearFlagWord_of_status (h : isSourceStatus (256 * idx + sub) = true) : c.clearFlagWord idx sub v set n =
    ((c.put (256 * idx + sub) (clearStatus (c.get (256 * idx + sub)) v (set &&& n) ||| (set &&& n))).wonOver idx
      (popcount 32 (set &&& v &&& n) +
        (if bit 0 v && bit 4 (c.get (256 * idx + sub)) && !(bit 0 (set &&& n)) then 1 else 0))).pins := by
  rw [clearFlagWord, h, if_pos rfl]

end

end Core

theorem lookup_status {src : Nat} (h : src < 768) : lookup (0x4900 + src) 2 = none ∨
    lookup (0x4900 + src) 2 = some ⟨0x02, 0x02, .u8, .w1c, .openWorld, .vol, 0x00, .w1c 0xF 0xF0⟩ := by
  by_cases hexists : sourceObjectExists (0x4900 + src) = true
  · exact .inr (lookup_source (by decide) h hexists)
  · refine .inl ?_
    unfold lookup
    exact if_neg hexists

/-- No source is pending after reset. -/
theorem defaultOf_status {src : Nat} (h : src < 768) : defaultOf (Obj.Source.STATUS src) = 0 := by
  have hdiv : Obj.Source.STATUS src / 256 = 0x4900 + src ∧ Obj.Source.STATUS src % 256 = 2 := by simp; omega
  unfold defaultOf
  simp only [hdiv.1, hdiv.2, lookupKey]
  rw [if_neg (by omega), if_neg (by omega), if_neg (by omega), if_neg (by simp; omega), if_neg (by simp; omega),
    if_neg (by simp; omega), if_neg (by simp; omega), if_neg (by simp; omega), if_neg (by simp; omega)]
  rcases lookup_status h with hrow | hrow <;> rw [hrow]

theorem duringClear_status {src : Nat} (h : src < 768) : duringClear (0x4900 + src) = some Obj.Fc.SET_DURING_CLEAR := by
  unfold duringClear
  simp (disch := omega) only [Bool.and_eq_true, decide_eq_true_eq, if_neg, if_pos]

/-- A write that the checks pass is of an object that exists. -/
theorem lookup_of_writeRefusal {c : Core} {w : World} {idx sub : Nat} {bs : List Byte} (h : c.writeRefusal w idx sub bs = none) :
    lookup idx sub ≠ none := by
  intro hrow
  rw [Core.writeRefusal, hrow] at h
  split_ifs at h

/-! ## An admitted clear -/

section
variable {s : State} {w : World} {k v set n : Nat}

theorem State.writeFlags_of_admitted (hadm : Admits s w k v) (hclear : clearableOf (k / 256) (k % 256) = some n) :
    s.writeFlags w k v set = State.settle { s.clear with
      core := (s.clear.core.clearFlagWord (k / 256) (k % 256) v (set &&& n) n).emit (.status .ok) } := by
  obtain ⟨hserved, hfits, hpass⟩ := hadm
  have hpass' : s.clear.core.writeRefusal w (k / 256) (k % 256) (toBytes (sizeOf k) v) = none := hpass
  have hw : s.clear.writeObject w (k / 256) (k % 256) (toBytes (sizeOf k) v) (set &&& n) =
      (.ok, { s.clear with core := s.clear.core.clearFlagWord (k / 256) (k % 256) v (set &&& n) n }) := by
    rw [State.writeObject, hpass', hclear, ofBytes_toBytes_of_fits hfits]
  simp only [State.writeFlags, State.when, hserved, if_true, State.act, hfits, hclear, Option.getD_some, hw, decide_true, Bool.true_or]

/-- A refused clear still sets what the hub sets in the same cycle. -/
theorem State.writeFlags_of_refused {r : Status} (hserved : s.core.loaServed = true) (hfits : v < 2 ^ widthOf k)
    (hclear : clearableOf (k / 256) (k % 256) = some n) (hn : n ≠ 0)
    (hrefuse : s.core.writeRefusal w (k / 256) (k % 256) (toBytes (sizeOf k) v) = some r) (hr : r ≠ .ok) :
    ∃ d : Core, s.writeFlags w k v set = State.settle { s.clear with
      core := ((d.put k (d.get k ||| (set &&& n))).pins).emit (.status r) } ∧ (r ≠ .deniedWorld → d = s.clear.core) := by
  have hrefuse' : s.clear.core.writeRefusal w (k / 256) (k % 256) (toBytes (sizeOf k) v) = some r := hrefuse
  by_cases hworld : r = .deniedWorld
  · subst hworld
    refine ⟨s.clear.core.denied, ?_, fun h => absurd rfl h⟩
    simp [State.writeFlags, State.when, hserved, State.act, hfits, hclear, hn, State.writeObject, hrefuse']
  · refine ⟨s.clear.core, ?_, fun _ => rfl⟩
    have hw := State.writeObject_refused s.clear (set := set &&& n) hrefuse' hworld
    simp only [State.writeFlags, State.when, hserved, if_true, State.act, hfits, hclear, Option.getD_some, hw, hr, hn,
      decide_false, Bool.or_self, Bool.false_eq_true, if_false]

end

theorem flagKey_parts (idx : BitVec 16) (sub : BitVec 8) :
    (idx.toNat * 256 + sub.toNat) / 256 = idx.toNat ∧ (idx.toNat * 256 + sub.toNat) % 256 = sub.toNat := by
  omega

theorem statusKey (src : SourceNo) :
    (BitVec.ofNat 16 (0x4900 + src.val)).toNat * 256 + (2 : BitVec 8).toNat = Obj.Source.STATUS src.val ∧
      Obj.Source.STATUS src.val / 256 = 0x4900 + src.val ∧ Obj.Source.STATUS src.val % 256 = 2 := by
  rw [BitVec.toNat_ofNat, Nat.mod_eq_of_lt (by omega)]
  simp
  omega

/-! ## STATUS of a source -/

namespace Core

section
variable (c : Core) (src set : Nat)

/-- A clear of PENDING of a source, with what the hub sets in the same cycle. -/
theorem clearFlagWord_status (hsrc : src < 768) : c.clearFlagWord (0x4900 + src) 2 1 set 0xF =
    ((c.put (Obj.Source.STATUS src) (clearStatus (c.get (Obj.Source.STATUS src)) 1 (set &&& 0xF) ||| (set &&& 0xF))).add
      Obj.Fc.SET_DURING_CLEAR 32 (popcount 32 (set &&& 1 &&& 0xF) +
        (if (c.get (Obj.Source.STATUS src)).testBit 4 && !((set &&& 0xF).testBit 0) then 1 else 0))).pins := by
  have hkey : 256 * (0x4900 + src) + 2 = Obj.Source.STATUS src := by simp; omega
  have hd : duringClear (0x4900 + src) = some Obj.Fc.SET_DURING_CLEAR := by
    exact duringClear_status hsrc
  rw [clearFlagWord_of_status (by simp [isSourceStatus]; omega), hkey, wonOver, hd]
  rfl

end

section
variable {c : Core} {src : Nat} (hsrc : src < 768)
include hsrc

/-- What a clear of a source's PENDING leaves in its STATUS. -/
theorem clearFlagWord_status_get (set : Nat) : (c.clearFlagWord (0x4900 + src) 2 1 set 0xF).get (Obj.Source.STATUS src) =
    clearStatus (c.get (Obj.Source.STATUS src)) 1 (set &&& 0xF) ||| (set &&& 0xF) := by
  rw [clearFlagWord_status c src set hsrc, get_pins_ne _ (by simp; omega), get_add_ne _ _ _ (by simp; omega), get_put_self]

theorem clearFlagWord_status_won (set : Nat) : (c.clearFlagWord (0x4900 + src) 2 1 set 0xF).get Obj.Fc.SET_DURING_CLEAR =
    min (c.get Obj.Fc.SET_DURING_CLEAR + (popcount 32 (set &&& 1 &&& 0xF) +
      (if (c.get (Obj.Source.STATUS src)).testBit 4 && !((set &&& 0xF).testBit 0) then 1 else 0))) (2 ^ 32 - 1) := by
  rw [clearFlagWord_status c src set hsrc, get_pins_ne _ (by decide), get_add_self, sat_eq_min, get_put_ne _ _ (by simp; omega)]

theorem clearFlagWord_status_ne (set : Nat) {k : Nat} (h1 : k ≠ Obj.Source.STATUS src) (h2 : k ≠ Obj.Fc.SET_DURING_CLEAR)
    (h3 : k ≠ Obj.Fc.PIN_STATE) : (c.clearFlagWord (0x4900 + src) 2 1 set 0xF).get k = c.get k := by
  rw [clearFlagWord_status c src set hsrc, get_pins_ne _ h3, get_add_ne _ _ _ h2, get_put_ne _ _ h1]

end

/-! ## FE_REARM and CLEAR_ALL (R323, R332) -/

theorem writeValue_fc (c : Core) (f : Fuses) (w : World) (sub : Nat) (bs : List Byte) :
    c.writeValue f w 0x4800 sub bs = c.writeFc sub (ofBytes bs) := rfl

theorem isSourceStatus_iff (k : Nat) : isSourceStatus k = true ↔ ∃ src < 768, k = Obj.Source.STATUS src := by
  constructor
  · intro h
    simp only [isSourceStatus, Bool.and_eq_true, decide_eq_true_eq, beq_iff_eq] at h
    exact ⟨k / 256 - 0x4900, by omega, by simp; omega⟩
  · rintro ⟨src, hsrc, rfl⟩
    simp [isSourceStatus]
    omega

/-- One step of CLEAR_ALL. -/
def clearOne (c : Core) (k : Nat) : Core := c.clearFlagWord (k / 256) 2 1 0 0xF

theorem clearOne_status (c : Core) {src : Nat} : c.clearOne (Obj.Source.STATUS src) = c.clearFlagWord (0x4900 + src) 2 1 0 0xF := by
  rw [clearOne, show Obj.Source.STATUS src / 256 = 0x4900 + src by simp; omega]

theorem status_ne_won (src : Nat) : Obj.Source.STATUS src ≠ Obj.Fc.SET_DURING_CLEAR := by simp; omega

theorem status_ne_pin (src : Nat) : Obj.Source.STATUS src ≠ Obj.Fc.PIN_STATE := by simp; omega

/-- After a clear of the sources in `l`, PENDING of one of them is what its standing condition says, and others keep theirs. -/
theorem clearAll_bits {src : Nat} (hsrc : src < 768) (l : List Nat) (hl : ∀ k ∈ l, isSourceStatus k = true) (c : Core) :
    (l.foldl clearOne c).bitOf (Obj.Source.STATUS src) 4 = c.bitOf (Obj.Source.STATUS src) 4 ∧
    (l.foldl clearOne c).bitOf (Obj.Source.STATUS src) 0 = (c.bitOf (Obj.Source.STATUS src) 0 &&
      (c.bitOf (Obj.Source.STATUS src) 4 || !decide (Obj.Source.STATUS src ∈ l))) := by
  induction l generalizing c with
  | nil => simp
  | cons k t ih =>
    obtain ⟨i, hi, rfl⟩ := (isSourceStatus_iff k).1 (hl k (by simp))
    obtain ⟨hstands, hpending⟩ := ih (fun k hk => hl k (by simp [hk])) (c.clearOne (Obj.Source.STATUS i))
    rw [List.foldl_cons, hstands, hpending, clearOne_status]
    by_cases h : i = src
    · subst h
      have hval := clearFlagWord_status_get (c := c) hi 0
      simp only [Nat.zero_and, Nat.or_zero] at hval
      simp only [bitOf, hval, clearStatus_pending, clearStatus_rest _ (show 1 ≤ 4 by decide) (show 4 ≤ 4 by decide)]
      refine ⟨trivial, ?_⟩
      cases (c.get (Obj.Source.STATUS i)).testBit 0 <;> cases (c.get (Obj.Source.STATUS i)).testBit 4 <;> simp
    · have hne : Obj.Source.STATUS src ≠ Obj.Source.STATUS i := by simp; omega
      have hget := clearFlagWord_status_ne (c := c) hi 0 hne (status_ne_won src) (status_ne_pin src)
      simp only [bitOf, hget, List.mem_cons, hne, false_or, and_self]

theorem clearAll_ne (l : List Nat) (hl : ∀ k ∈ l, isSourceStatus k = true) (c : Core) {o : Nat} (h1 : isSourceStatus o = false)
    (h2 : o ≠ Obj.Fc.SET_DURING_CLEAR) (h3 : o ≠ Obj.Fc.PIN_STATE) : (l.foldl clearOne c).get o = c.get o := by
  induction l generalizing c with
  | nil => rfl
  | cons k t ih =>
    obtain ⟨i, hi, rfl⟩ := (isSourceStatus_iff k).1 (hl k (by simp))
    rw [List.foldl_cons, ih (fun k hk => hl k (by simp [hk])), clearOne_status, clearFlagWord_status_ne hi 0 ?_ h2 h3]
    rintro rfl
    rw [(isSourceStatus_iff _).2 ⟨i, hi, rfl⟩] at h1
    exact absurd h1 (by decide)

/-- The STATUS objects that CLEAR_ALL goes through. -/
def statusKeys (c : Core) : List Nat := (c.objs.map (·.1)).filter isSourceStatus

theorem clearPending_eq (c : Core) : c.clearPending = c.statusKeys.foldl clearOne c := rfl

theorem statusKeys_isSourceStatus (c : Core) : ∀ k ∈ c.statusKeys, isSourceStatus k = true :=
  fun _ hk => (List.mem_filter.1 hk).2

/-- A STATUS that CLEAR_ALL does not go through holds its default. -/
theorem pending_of_not_mem (c : Core) {src : Nat} (hsrc : src < 768) (h : Obj.Source.STATUS src ∉ c.statusKeys) :
    c.get (Obj.Source.STATUS src) = 0 := by
  have hmem : ∀ (t : Tbl Nat) (n : Nat), n ∉ t.map (·.1) → Tbl.get defaultOf t n = defaultOf n := by
    intro t n
    induction t with
    | nil => exact fun _ => rfl
    | cons e t ih =>
      intro hn
      simp only [List.map_cons, List.mem_cons, not_or] at hn
      rw [Tbl.get, if_neg hn.1, ih hn.2]
  rw [get, hmem _ _ fun hn => h (List.mem_filter.2 ⟨hn, (isSourceStatus_iff _).2 ⟨src, hsrc, rfl⟩⟩), defaultOf_status hsrc]

end Core

/-- A write of 1 to PENDING of a source. -/
theorem exec_statusClear {s : State} {w : World} {src : SourceNo} (hadm : Admits s w (Obj.Source.STATUS src.val) 1) (set : BitVec 32) :
    exec (.statusFlagClear w (BitVec.ofNat 16 (0x4900 + src.val)) 2 1 set) s = .next (State.settle { s.clear with
      core := (s.clear.core.clearFlagWord (0x4900 + src.val) 2 1 (set.toNat &&& 0xF) 0xF).emit (.status .ok) }) := by
  obtain ⟨hkey, hidx, hsub⟩ := statusKey src
  have hclear : clearableOf (Obj.Source.STATUS src.val / 256) (Obj.Source.STATUS src.val % 256) = some 0xF := by
    rw [hidx, hsub]
    rcases lookup_status src.isLt with hrow | hrow
    · refine absurd hrow (lookup_of_writeRefusal (c := s.core) (w := w)
        (bs := toBytes (sizeOf (Obj.Source.STATUS src.val)) 1) ?_)
      have hpass := hadm.2.2
      rwa [hidx, hsub] at hpass
    · rw [clearableOf, hrow]
  have hflags := State.writeFlags_of_admitted (set := set.toNat) hadm hclear
  rw [hidx, hsub] at hflags
  exact congrArg _ (hkey ▸ hflags)

/-- Settles O45: the flag words of blocks, a refused clear, PENDING of a source, and the two commands. -/
theorem statusFlags : Obligations.StatusFlags := by
  refine ⟨fun s w idx sub v set n hadm hclear hsource hwon => ?_,
    fun s w idx sub v set n k r hk hserved hfits hclear hn hpin hrefuse hr => ?_, fun s w src hadm => ?_, fun s w src hadm => ?_,
    fun s w hadm => ?_, fun s w hadm => ?_⟩
  · obtain ⟨hidx, hsub⟩ := flagKey_parts idx sub
    have hkey : 256 * idx.toNat + sub.toNat = idx.toNat * 256 + sub.toNat := by omega
    have hset : set.toNat &&& n &&& v.toNat &&& n = set.toNat &&& v.toNat &&& n := by
      rw [Nat.and_assoc set.toNat n, Nat.and_comm n, ← Nat.and_assoc, and_and_self]
    refine ⟨_, congrArg _ (State.writeFlags_of_admitted hadm (by rw [hidx, hsub]; exact hclear)), ?_⟩
    rw [hidx, hsub, Core.clearFlagWord_of_flags (by rw [hkey]; exact hsource), hkey, hset, and_and_self]
    refine ⟨by simp, fun i => ?_, fun q hq => ?_, fun k h1 h2 => ?_⟩
    · rw [Core.bitOf, Core.get_emit, Core.get_wonOver_ne _ hwon, Core.get_put_self, testBit_clearFlags]
      rfl
    · rw [Core.get_emit, Core.get_wonOver_self _ hq, Core.get_put_ne _ _ fun h => hwon (by rw [hq, h])]
      rfl
    · rw [Core.get_emit, Core.get_wonOver_ne _ h2, Core.get_put_ne _ _ h1]
      rfl
  · obtain ⟨hidx, hsub⟩ := flagKey_parts idx sub
    rw [← hk] at hidx hsub
    obtain ⟨d, hexec, hd⟩ := State.writeFlags_of_refused (set := set.toNat) hserved hfits (by rw [hidx, hsub]; exact hclear) hn hrefuse hr
    refine ⟨_, congrArg _ ((by rw [hk] : s.writeFlags w (idx.toNat * 256 + sub.toNat) v.toNat set.toNat =
      s.writeFlags w k v.toNat set.toNat).trans hexec), by simp, fun i hi => ?_, fun hworld => ⟨?_, fun j h1 h2 => ?_⟩⟩
    · rw [Core.bitOf, Core.get_emit, Core.get_pins_ne _ hpin, Core.get_put_self, Nat.testBit_or, hi, Bool.or_true]
    · rw [Core.get_emit, Core.get_pins_ne _ hpin, Core.get_put_self, hd hworld]
      rfl
    · rw [Core.get_emit, Core.get_pins_ne _ h2, Core.get_put_ne _ _ h1, hd hworld]
      rfl
  · have hset : (0 : BitVec 32).toNat &&& 0xF &&& 0xF = 0 := rfl
    have hget := Core.clearFlagWord_status_get (c := s.clear.core) src.isLt ((0 : BitVec 32).toNat &&& 0xF)
    rw [hset, Nat.or_zero] at hget
    refine ⟨_, exec_statusClear hadm 0, by simp, ?_, fun hidle => ?_, fun i hi => ?_, ?_⟩
    · rw [Core.bitOf, Core.get_emit, hget, clearStatus_pending]
      rfl
    · have hidle' : (s.clear.core.get (Obj.Source.STATUS src.val)).testBit 4 = false := hidle
      rw [Core.get_emit, hget, clearStatus_of_idle hidle']
      exact Nat.mod_lt _ (by decide)
    · have hrange : 1 ≤ i ∧ i ≤ 4 := by
        simp only [List.mem_cons, List.not_mem_nil, or_false] at hi
        omega
      rw [Core.bitOf, Core.get_emit, hget, clearStatus_rest _ hrange.1 hrange.2]
      rfl
    · rw [Core.get_emit, Core.clearFlagWord_status_won src.isLt, hset]
      simp [popcount, Core.bitOf]
      rfl
  · have hset : (1 : BitVec 32).toNat &&& 0xF &&& 0xF = 1 := rfl
    have hget := Core.clearFlagWord_status_get (c := s.clear.core) src.isLt ((1 : BitVec 32).toNat &&& 0xF)
    rw [hset, clearStatus_of_set] at hget
    refine ⟨_, exec_statusClear hadm 1, by simp, ?_, fun i hi => ?_, ?_⟩
    · rw [Core.bitOf, Core.get_emit, hget, Nat.testBit_or]
      simp
    · rw [Core.bitOf, Core.get_emit, hget, Nat.testBit_or, show (1 : Nat) = 2 ^ 0 from rfl, Nat.testBit_two_pow_of_ne (Ne.symm hi),
        Bool.or_false]
      rfl
    · rw [Core.get_emit, Core.clearFlagWord_status_won src.isLt, hset]
      simp [popcount]
      rfl
  · refine answersOk_writeNum rfl hadm (by decide +kernel) (by decide) (c := s.clear.core.feRearm) ?_ ?_
    · rw [show Obj.Fc.FE_REARM / 256 = 0x4800 from rfl, Core.writeValue_fc, ofBytes_toBytes_of_fits hadm.2.1]
      rfl
    · refine ⟨?_, ?_, fun k h1 h2 => ?_⟩
      · simp (disch := decide) [Core.feRearm, Core.get_put_ne]
      · simp [Core.feRearm]
      · rw [Core.get_emit, Core.feRearm, Core.get_put_ne _ _ h2, Core.get_put_ne _ _ h1]
        rfl
  · refine answersOk_writeNum rfl hadm (by decide +kernel) (by decide) (c := s.clear.core.clearPending) ?_ ?_
    · rw [show Obj.Fc.CLEAR_ALL / 256 = 0x4800 from rfl, Core.writeValue_fc, ofBytes_toBytes_of_fits hadm.2.1]
      rfl
    · have hkeys := Core.statusKeys_isSourceStatus s.clear.core
      refine ⟨fun src hsrc => ?_, fun k h1 h2 h3 => ?_⟩
      · rw [Core.bitOf, Core.get_emit, ← Core.bitOf, Core.clearPending_eq, (Core.clearAll_bits hsrc _ hkeys _).2]
        by_cases hmem : Obj.Source.STATUS src ∈ s.clear.core.statusKeys
        · simp only [hmem, decide_true, Bool.not_true, Bool.or_false]
          rfl
        · have hzero := Core.pending_of_not_mem s.clear.core hsrc hmem
          have hzero' : s.core.get (Obj.Source.STATUS src) = 0 := hzero
          simp only [Core.bitOf, hzero, hzero', Nat.zero_testBit, Bool.false_and]
      · rw [Core.get_emit, Core.clearPending_eq, Core.clearAll_ne _ hkeys _ h1 h2 h3]
        rfl

end Sys2Proof.Machine
end

section
/-! PROOFS. What Sluice's requests change (16_states_start_sluice.md R423 to R425): its own objects and the credits, and nothing of
any other block. -/

namespace Sys2Proof.Machine

/-- A key of Sluice's objects (0x4400). -/
abbrev isSluiceKey (k : Nat) : Prop := 0x440000 ≤ k ∧ k < 0x440100

namespace Core

variable {c d e : Core}

/-- `d` differs from `c` in Sluice's objects and its credits alone. -/
def SluiceOnly (c d : Core) : Prop :=
  d = { c with objs := d.objs, sluice := d.sluice } ∧ ∀ k, ¬ isSluiceKey k → d.get k = c.get k

theorem SluiceOnly.refl (c : Core) : c.SluiceOnly c := ⟨rfl, fun _ _ => rfl⟩

theorem SluiceOnly.trans (h : c.SluiceOnly d) (h' : d.SluiceOnly e) : c.SluiceOnly e := by
  obtain ⟨h1, h2⟩ := h
  obtain ⟨h3, h4⟩ := h'
  exact ⟨by rw [h3, h1], fun k hk => (h4 k hk).trans (h2 k hk)⟩

theorem SluiceOnly.get (h : c.SluiceOnly d) {k : Nat} (hk : ¬ isSluiceKey k) : d.get k = c.get k := h.2 k hk

theorem SluiceOnly.fc (h : c.SluiceOnly d) : d.fc = c.fc := by rw [h.1]
theorem SluiceOnly.out (h : c.SluiceOnly d) : d.out = c.out := by rw [h.1]
theorem SluiceOnly.req (h : c.SluiceOnly d) : d.req = c.req := by rw [h.1]
theorem SluiceOnly.tick (h : c.SluiceOnly d) : d.tick = c.tick := by rw [h.1]
theorem SluiceOnly.hubTime (h : c.SluiceOnly d) : d.hubTime = c.hubTime := by rw [h.1]
theorem SluiceOnly.start (h : c.SluiceOnly d) : d.start = c.start := by rw [h.1]
theorem SluiceOnly.seq (h : c.SluiceOnly d) : d.seq = c.seq := by rw [h.1]
theorem SluiceOnly.mc (h : c.SluiceOnly d) : d.mc = c.mc := by rw [h.1]
theorem SluiceOnly.ddr (h : c.SluiceOnly d) : d.ddr = c.ddr := by rw [h.1]
theorem SluiceOnly.ecc (h : c.SluiceOnly d) : d.ecc = c.ecc := by rw [h.1]
theorem SluiceOnly.ft (h : c.SluiceOnly d) : d.ft = c.ft := by rw [h.1]
theorem SluiceOnly.mon (h : c.SluiceOnly d) : d.mon = c.mon := by rw [h.1]
theorem SluiceOnly.hr (h : c.SluiceOnly d) : d.hr = c.hr := by rw [h.1]
theorem SluiceOnly.jobs (h : c.SluiceOnly d) : d.jobs = c.jobs := by rw [h.1]
theorem SluiceOnly.ctxs (h : c.SluiceOnly d) : d.ctxs = c.ctxs := by rw [h.1]
theorem SluiceOnly.streams (h : c.SluiceOnly d) : d.streams = c.streams := by rw [h.1]
theorem SluiceOnly.rings (h : c.SluiceOnly d) : d.rings = c.rings := by rw [h.1]
theorem SluiceOnly.wins (h : c.SluiceOnly d) : d.wins = c.wins := by rw [h.1]
theorem SluiceOnly.halves (h : c.SluiceOnly d) : d.halves = c.halves := by rw [h.1]
theorem SluiceOnly.srQueue (h : c.SluiceOnly d) : d.srQueue = c.srQueue := by rw [h.1]
theorem SluiceOnly.srBegins (h : c.SluiceOnly d) : d.srBegins = c.srBegins := by rw [h.1]
theorem SluiceOnly.ledger (h : c.SluiceOnly d) : d.ledger = c.ledger := by rw [h.1]
theorem SluiceOnly.sail (h : c.SluiceOnly d) : d.sail = c.sail := by rw [h.1]
theorem SluiceOnly.drawn (h : c.SluiceOnly d) : d.drawn = c.drawn := by rw [h.1]

theorem SluiceOnly.mcOf (h : c.SluiceOnly d) (i : Nat) : d.mcOf i = c.mcOf i := by rw [Core.mcOf, Core.mcOf, h.mc]
theorem SluiceOnly.portOf (h : c.SluiceOnly d) (i : Nat) : d.portOf i = c.portOf i := by rw [Core.portOf, Core.portOf, h.hr]
theorem SluiceOnly.ddrOf (h : c.SluiceOnly d) (i : Nat) : d.ddrOf i = c.ddrOf i := by rw [Core.ddrOf, Core.ddrOf, h.ddr]
theorem SluiceOnly.eccOf (h : c.SluiceOnly d) (i : Nat) : d.eccOf i = c.eccOf i := by rw [Core.eccOf, Core.eccOf, h.ecc]
theorem SluiceOnly.ftOf (h : c.SluiceOnly d) (i : Nat) : d.ftOf i = c.ftOf i := by rw [Core.ftOf, Core.ftOf, h.ft]
theorem SluiceOnly.monOf (h : c.SluiceOnly d) (i : Nat) : d.monOf i = c.monOf i := by rw [Core.monOf, Core.monOf, h.mon]
theorem SluiceOnly.streamOf (h : c.SluiceOnly d) (i : Nat) : d.streamOf i = c.streamOf i := by rw [Core.streamOf, Core.streamOf, h.streams]
theorem SluiceOnly.ringOf (h : c.SluiceOnly d) (i : Nat) : d.ringOf i = c.ringOf i := by rw [Core.ringOf, Core.ringOf, h.rings]
theorem SluiceOnly.winOf (h : c.SluiceOnly d) (i : Nat) : d.winOf i = c.winOf i := by rw [Core.winOf, Core.winOf, h.wins]
theorem SluiceOnly.ctxOf (h : c.SluiceOnly d) (i : Nat) : d.ctxOf i = c.ctxOf i := by rw [Core.ctxOf, Core.ctxOf, h.ctxs]
theorem SluiceOnly.jobOf (h : c.SluiceOnly d) (i : Nat) : d.jobOf i = c.jobOf i := by rw [Core.jobOf, Core.jobOf, h.jobs]
theorem SluiceOnly.halfSt (h : c.SluiceOnly d) (i : Nat) : d.halfSt i = c.halfSt i := by rw [Core.halfSt, Core.halfSt, h.halves]
theorem SluiceOnly.sailOf (h : c.SluiceOnly d) (i : Nat) : d.sailOf i = c.sailOf i := by rw [Core.sailOf, Core.sailOf, h.sail]
theorem SluiceOnly.ledgerOf (h : c.SluiceOnly d) (i : Nat) : d.ledgerOf i = c.ledgerOf i := by rw [Core.ledgerOf, Core.ledgerOf, h.ledger]

theorem sluiceOnly_put (c : Core) (k v : Nat) (h : isSluiceKey k) : c.SluiceOnly (c.put k v) :=
  ⟨rfl, fun _ hj => get_put_ne _ _ fun hjk => hj (hjk ▸ h)⟩

theorem sluiceOnly_withSluice (c : Core) (s : SluiceState) : c.SluiceOnly (c.withSluice s) := ⟨rfl, fun _ _ => rfl⟩

theorem sluiceOnly_grantCredit (c : Core) (x : Credit) : c.SluiceOnly (c.grantCredit x) :=
  ((sluiceOnly_withSluice c _).trans (sluiceOnly_put _ _ _ (by decide))).trans (sluiceOnly_put _ _ _ (by decide))

theorem sluiceOnly_refuse (c : Core) : c.SluiceOnly c.refuse :=
  (sluiceOnly_put _ _ _ (by decide)).trans (sluiceOnly_put _ _ _ (by decide))

theorem sluiceOnly_askNow (c : Core) (kind owner mw : Nat) : c.SluiceOnly (c.askNow kind owner mw).2 := by
  unfold askNow
  split
  · exact sluiceOnly_grantCredit c _
  · exact sluiceOnly_refuse c

theorem sluiceOnly_askForced (c : Core) (kind owner mw : Nat) : c.SluiceOnly (c.askForced kind owner mw) :=
  sluiceOnly_grantCredit c _

theorem sluiceOnly_release (c : Core) (kind owner : Nat) : c.SluiceOnly (c.release kind owner) := sluiceOnly_withSluice c _

theorem sluiceOnly_askQueued (c : Core) (kind owner mw : Nat) : c.SluiceOnly (c.askQueued kind owner mw) := sluiceOnly_withSluice c _

theorem sluiceOnly_unqueue (c : Core) (kind owner : Nat) : c.SluiceOnly (c.unqueue kind owner) := sluiceOnly_withSluice c _

/-! ## Requests (R425) -/

section
variable (c : Core) (kind owner mw : Nat)

theorem askNow_of_admits {mw : Nat} (h : c.admits mw = true) :
    c.askNow kind owner mw = (true, c.grantCredit { kind := kind, owner := owner, mw := mw, forced := false }) := if_pos h

theorem askNow_of_refused {mw : Nat} (h : c.admits mw = false) : c.askNow kind owner mw = (false, c.refuse) :=
  if_neg (by rw [h]; decide)

theorem held_grantCredit (x : Credit) : (c.grantCredit x).sluice.held = c.sluice.held ++ [x] := rfl

theorem queue_grantCredit (x : Credit) : (c.grantCredit x).sluice.queue = c.sluice.queue := rfl

/-- A granted credit is held. -/
theorem holds_grantCredit (forced : Bool) :
    (c.grantCredit { kind := kind, owner := owner, mw := mw, forced := forced }).holds kind owner = true := by
  simp [holds, held_grantCredit]

theorem grants_grantCredit (x : Credit) :
    (c.grantCredit x).get Obj.Sluice.GRANTS = sat 64 (c.get Obj.Sluice.GRANTS + 1) := by
  simp (disch := decide) [grantCredit, inc64, add, get_put_ne]

/-- A refusal is counted and flagged. -/
theorem refuse_facts : c.refuse.get Obj.Sluice.REFUSALS = sat 32 (c.get Obj.Sluice.REFUSALS + 1) ∧
    c.refuse.bitOf Obj.Sluice.FLAGS 0 = true ∧
    ∀ k, k ≠ Obj.Sluice.REFUSALS → k ≠ Obj.Sluice.FLAGS → c.refuse.get k = c.get k := by
  refine ⟨?_, bitOf_flag_self _ _ _, fun k h1 h2 => ?_⟩
  · rw [refuse, get_flag_ne _ _ (by decide), get_inc_self]
  · rw [refuse, get_flag_ne _ _ h2, get_inc_ne _ h1]

end

end Core

end Sys2Proof.Machine
end

section
/-! PROOFS. Commands that find nothing to do. -/

namespace Sys2Proof.Machine

section
variable {i : Instr} {s : State} (f : Core → Core) (hf : f s.clear.core = s.clear.core)
include hf

theorem exec_of_onCore_unchanged (hi : exec i s = .next (s.onCore f)) : exec i s = .next s.clear := by
  rw [hi, State.onCore_eq s f (by rw [hf]; rfl), hf]

theorem exec_of_onAo_unchanged (hi : exec i s = .next (s.onAo f)) : exec i s = .next s.clear := by
  rw [hi, State.onAo, State.when]
  split
  · rw [State.onCore_eq s f (by rw [hf]; rfl), hf]
  · rfl

theorem exec_of_onHub_unchanged (hi : exec i s = .next (s.onHub f)) : exec i s = .next s.clear := by
  rw [hi, State.onHub, State.when]
  split
  · rw [State.onCore_eq s f (by rw [hf]; rfl), hf]
  · rfl

theorem exec_of_onPower_unchanged (hi : exec i s = .next (s.onPower f)) : exec i s = .next s.clear := by
  rw [hi, State.onPower, State.when]
  split
  · rw [State.onCore_eq s f (by rw [hf]; rfl), hf]
  · rfl

end

end Sys2Proof.Machine
end

section
/-! PROOFS. Monitors (09_fantail_calibration.md R230, R231, R234) and the obligation `Monitors`. -/

namespace Sys2Proof.Machine

namespace Core

/-! ## Operations on the lanes of a subchannel alone (R233) -/

/-- `d` differs from `c` in Fantail's own state alone. -/
def FtOnly (c d : Core) : Prop := d = { c with ft := d.ft }

section
variable {c d e : Core}

theorem FtOnly.refl (c : Core) : c.FtOnly c := rfl

theorem FtOnly.trans (h : c.FtOnly d) (h' : d.FtOnly e) : c.FtOnly e := by rw [FtOnly, h', h]

theorem FtOnly.objs (h : c.FtOnly d) : d.objs = c.objs := by rw [h]
theorem FtOnly.mon (h : c.FtOnly d) : d.mon = c.mon := by rw [h]
theorem FtOnly.sluice (h : c.FtOnly d) : d.sluice = c.sluice := by rw [h]
theorem FtOnly.mc (h : c.FtOnly d) : d.mc = c.mc := by rw [h]
theorem FtOnly.req (h : c.FtOnly d) : d.req = c.req := by rw [h]
theorem FtOnly.fc (h : c.FtOnly d) : d.fc = c.fc := by rw [h]
theorem FtOnly.out (h : c.FtOnly d) : d.out = c.out := by rw [h]
theorem FtOnly.get (h : c.FtOnly d) (k : Nat) : d.get k = c.get k := by rw [Core.get, Core.get, h.objs]

theorem ftOnly_foldl {α : Type} (l : List α) (f : Core → α → Core) (hf : ∀ (c : Core) (a : α), c.FtOnly (f c a)) (c : Core) :
    c.FtOnly (l.foldl f c) := by
  induction l generalizing c with
  | nil => exact FtOnly.refl c
  | cons a t ih => exact (hf c a).trans (ih _)

end

theorem ftOnly_updFt (c : Core) (n : Nat) (f : FtState → FtState) : c.FtOnly (c.updFt n f) := rfl
theorem ftOnly_updLane (c : Core) (n i : Nat) (f : FtLane → FtLane) : c.FtOnly (c.updLane n i f) := rfl
theorem ftOnly_aimLane (c : Core) (n i : Nat) (f : FtLane → FtLane) : c.FtOnly (c.aimLane n i f) := rfl

theorem ftOnly_aim (c : Core) (n : Nat) (t : Int) : c.FtOnly (c.aim n t) := by
  unfold aim
  split
  · exact FtOnly.refl c
  · exact ftOnly_foldl _ _ (fun c i => ftOnly_aimLane c n i _) c

/-! ## A recalibration (R234, R235) -/

/-- The objects that a recalibration of subchannel n leaves. -/
def recalKeeps (n k : Nat) : Prop :=
  ¬ isSluiceKey k ∧ k ≠ Obj.FtSc.T_CAL n ∧ k ≠ Obj.FtSc.T_CAL_TIME n ∧ k ≠ Obj.FtSc.RECALS n

theorem askCapture_get (c : Core) (n : Nat) {k : Nat} (hk : ¬ isSluiceKey k) : (c.askCapture n).get k = c.get k := by
  unfold askCapture
  split_ifs
  · rfl
  · exact (ftOnly_updFt c n _).get k
  · exact ((ftOnly_updFt _ n _).get k).trans ((sluiceOnly_askNow c _ _ _).get hk)

theorem askCapture_mon (c : Core) (n : Nat) : (c.askCapture n).mon = c.mon := by
  unfold askCapture
  split_ifs
  · rfl
  · rfl
  · exact (sluiceOnly_askNow c _ _ _).mon

theorem keeps_recalibrate (c : Core) (n : Nat) (w : Bool) : Keeps (recalKeeps n) c (c.recalibrate n w) := by
  rintro k ⟨h0, h1, h2, h3⟩
  have hbase : ∀ t : Int, ((((c.put (Obj.FtSc.T_CAL n) (c.get (Obj.FtSc.T_NOW n))).put (Obj.FtSc.T_CAL_TIME n) c.hubTime).inc
      (Obj.FtSc.RECALS n)).aim n t).get k = c.get k := fun t => by
    rw [(ftOnly_aim _ n t).get, get_inc_ne _ h3, get_put_ne _ _ h2, get_put_ne _ _ h1]
  unfold recalibrate
  dsimp only
  split
  · exact (askCapture_get _ n h0).trans (hbase _)
  · exact hbase _

theorem mon_recalibrate (c : Core) (n : Nat) (w : Bool) : (c.recalibrate n w).mon = c.mon := by
  unfold recalibrate
  dsimp only
  split
  · exact (askCapture_mon _ n).trans (ftOnly_aim _ n _).mon
  · exact (ftOnly_aim _ n _).mon

/-! ## A reading (R230, R231, R234, R330) -/

theorem monKey_lt {ch : Nat} (h : ch < 25) : monKey ch < 0x440000 := by
  unfold monKey
  split
  · simp; omega
  · simp; omega

theorem fcOnly_tempCheck (c : Core) {ch : Nat} (hch : ch < 25) (v : Int) : c.FcOnly (c.tempCheck ch v) := by
  have hone : ∀ (d : Core) (s : Nat) (t : Int), s < 768 →
      d.FcOnly (if t ≤ v then d.raiseStanding s (ctxSensor ch) else if v ≤ t - 2000 then d.endStanding s else d) :=
    fun d s t hs => fcOnly_ite (fun _ => fcOnly_raiseStanding d s _)
      fun _ => fcOnly_ite (fun _ => fcOnly_endStanding d s hs) fun _ => FcOnly.refl d
  exact (hone c _ _ (show 0x020 + ch < 768 by omega)).trans (hone _ _ _ (show 0x030 + ch < 768 by omega))

theorem fcOnly_monCheck (c : Core) (ch : Nat) : c.FcOnly (c.monCheck ch) :=
  fcOnly_ite (fun _ => fcOnly_raiseStanding c _ _) fun _ => fcOnly_endStanding c _ (by decide)

/-- T of one subchannel of a shoreline sensor, and the recalibration it starts. -/
def newTempAt (ch : Nat) (v : Int) (c : Core) (i : Nat) : Core :=
  let c1 := c.put (Obj.FtSc.T_NOW (4 * ch + i)) (ofSigned 32 v)
  if (c1.get Obj.Cal.RECAL_DT_MC : Int) < (v - c1.getInt (Obj.FtSc.T_CAL (4 * ch + i))).natAbs then
    c1.recalibrate (4 * ch + i) false else c1

theorem newTemp_eq (c : Core) (ch : Nat) (v : Int) : c.newTemp ch v = c.each 4 (newTempAt ch v) := by
  unfold newTemp each
  rfl

theorem keeps_newTempAt (c : Core) (ch i : Nat) (v : Int) :
    Keeps (fun k => recalKeeps (4 * ch + i) k ∧ k ≠ Obj.FtSc.T_NOW (4 * ch + i)) c (newTempAt ch v c i) := by
  rintro k ⟨hk, hne⟩
  unfold newTempAt
  dsimp only
  split
  · rw [keeps_recalibrate _ _ _ k hk, get_put_ne _ _ hne]
  · rw [get_put_ne _ _ hne]

theorem newTempAt_temp (c : Core) (ch i : Nat) (v : Int) :
    (newTempAt ch v c i).get (Obj.FtSc.T_NOW (4 * ch + i)) = ofSigned 32 v := by
  have hkeeps : recalKeeps (4 * ch + i) (Obj.FtSc.T_NOW (4 * ch + i)) := by
    simp [recalKeeps]
    omega
  unfold newTempAt
  dsimp only
  split
  · rw [keeps_recalibrate _ _ _ _ hkeeps, get_put_self]
  · rw [get_put_self]

theorem mon_newTempAt (c : Core) (ch i : Nat) (v : Int) : (newTempAt ch v c i).mon = c.mon := by
  unfold newTempAt
  dsimp only
  split
  · rw [mon_recalibrate, mon_put]
  · rw [mon_put]

theorem newTemp_temp (c : Core) (ch : Nat) (v : Int) {i : Nat} (hi : i < 4) :
    (c.newTemp ch v).get (Obj.FtSc.T_NOW (4 * ch + i)) = ofSigned 32 v := by
  rw [newTemp_eq]
  refine each_reaches (P := fun _ => True) (Q := fun d => d.get (Obj.FtSc.T_NOW (4 * ch + i)) = ofSigned 32 v) hi
    (fun _ _ _ _ => trivial) (fun d _ => newTempAt_temp d ch i v) (fun d j hij hj hd => ?_) trivial
  rw [keeps_newTempAt d ch j v _ ⟨by simp [recalKeeps]; omega, by simp; omega⟩, hd]

theorem newTemp_get (c : Core) (ch : Nat) (v : Int) {k : Nat} (hk : k < 0x440000) : (c.newTemp ch v).get k = c.get k := by
  rw [newTemp_eq]
  exact each_field (fun d => d.get k) 4 _ (fun d i => keeps_newTempAt d ch i v k
    ⟨⟨by omega, by simp; omega, by simp; omega, by simp; omega⟩, by simp; omega⟩) c

theorem mon_newTemp (c : Core) (ch : Nat) (v : Int) : (c.newTemp ch v).mon = c.mon := by
  rw [newTemp_eq]
  exact each_field (fun d => d.mon) 4 _ (fun d i => mon_newTempAt d ch i v) c

theorem staleTemp_eq (c : Core) (ch : Nat) : c.staleTemp ch =
    if ch ≤ 7 then c.each 4 fun c i => c.flag (Obj.FtSc.FLAGS (4 * ch + i)) 4 else c := by
  unfold staleTemp each
  rfl

theorem staleTemp_get (c : Core) (ch : Nat) {k : Nat} (hk : k < 0x440000) : (c.staleTemp ch).get k = c.get k := by
  rw [staleTemp_eq]
  split
  · exact each_field (fun d => d.get k) 4 _ (fun d i => get_flag_ne _ _ (show k ≠ Obj.FtSc.FLAGS (4 * ch + i) by simp; omega)) c
  · rfl

theorem mon_staleTemp (c : Core) (ch : Nat) : (c.staleTemp ch).mon = c.mon := by
  rw [staleTemp_eq]
  split
  · exact each_field (fun d => d.mon) 4 _ (fun d i => mon_put _ _ _) c
  · rfl

/-- TEMP_STALE of the four subchannels of a shoreline sensor. -/
theorem staleTemp_flag (c : Core) {ch i : Nat} (hch : ch ≤ 7) (hi : i < 4) :
    (c.staleTemp ch).bitOf (Obj.FtSc.FLAGS (4 * ch + i)) 4 = true := by
  rw [staleTemp_eq, if_pos hch]
  refine each_reaches (P := fun _ => True) (Q := fun d => d.bitOf (Obj.FtSc.FLAGS (4 * ch + i)) 4 = true)
    hi (fun _ _ _ _ => trivial)
    (fun d _ => bitOf_flag_self _ _ _) (fun d j hij hj hd => ?_) trivial
  rw [bitOf, get_flag_ne _ _ (by simp; omega)]
  exact hd

/-- The record of a reading (R231). -/
def readingRecord (c : Core) (ch : Nat) (v : Int) (stale : Bool) : Nat :=
  (satSigned 32 v) <<< 96 + (c.timeNs % 2 ^ 64) <<< 32 + (nextGen (c.monGen ch)) <<< 16 + 4 * ofBool c.timeValid +
    2 * ofBool (c.monRefused ch) + ofBool stale

/-- The reading is published. -/
def published (c : Core) (ch : Nat) (v : Int) (stale : Bool) : Core :=
  (c.put (monKey ch) (c.readingRecord ch v stale)).updMon ch fun m => { m with readAt := c.tick }

/-- What follows from a published reading before MON_CHECK. -/
def afterReading (c : Core) (ch : Nat) (v : Int) (stale : Bool) : Core :=
  if stale then c.staleTemp ch
  else if ch ≤ 8 then (if ch ≤ 7 then (c.tempCheck ch v).newTemp ch v else c.tempCheck ch v)
  else c

theorem monReading_eq {c : Core} {ch : Nat} {v : Int} {stale : Bool} (hopen : (c.monOf ch).window = false)
    (hstale : stale = (c.monRefused ch && decide (c.get Obj.Mon.MON_TRIM_MAX_AGE_S * 500000000 < c.tick - (c.monOf ch).trimAt))) :
    c.monReading ch v = (((c.published ch v stale).afterReading ch v stale).monCheck ch) := by
  subst hstale
  rw [monReading, if_neg (by simp [hopen])]
  rfl

theorem afterReading_get (c : Core) {ch : Nat} (hch : ch < 25) (v : Int) (stale : Bool) {k : Nat} (hk : k < 0x440000) :
    (c.afterReading ch v stale).get k = c.get k := by
  have htemp : (c.tempCheck ch v).get k = c.get k := (fcOnly_tempCheck c hch v).get (by omega)
  unfold afterReading
  split_ifs
  · exact staleTemp_get c ch hk
  · rw [newTemp_get _ _ _ hk, htemp]
  · exact htemp
  · rfl

theorem mon_afterReading (c : Core) {ch : Nat} (hch : ch < 25) (v : Int) (stale : Bool) : (c.afterReading ch v stale).mon = c.mon := by
  have htemp : (c.tempCheck ch v).mon = c.mon := (fcOnly_tempCheck c hch v).mon
  unfold afterReading
  split_ifs
  · exact mon_staleTemp c ch
  · rw [mon_newTemp, htemp]
  · exact htemp
  · rfl

/-! ## Calibration windows (R230) -/

section
variable {c : Core} {ch mv : Nat} {off gain : Int}

theorem monCal_of_free (h : ∀ i < 25, (c.monOf i).window = false) :
    c.monCal ch = c.updMon ch fun m => { m with window := true } :=
  if_neg (by simpa using h)

theorem monCal_of_busy (h : ∃ i < 25, (c.monOf i).window = true) : c.monCal ch = c := if_pos (by simpa using h)

section
variable (hopen : (c.monOf ch).window = true)
include hopen

theorem monCalDone_of_kept (h : mv ≤ c.get Obj.Mon.RIPPLE_LIMIT_MV) : c.monCalDone ch mv off gain = c.monKeep ch off gain := by
  rw [monCalDone, hopen, if_neg (by decide), if_neg (Nat.not_lt.2 h)]

theorem monCalDone_of_ripple (h : c.get Obj.Mon.RIPPLE_LIMIT_MV < mv) : c.monCalDone ch mv off gain =
    if (c.monOf ch).attempts = 2 then (c.updMon ch fun m => { m with window := false, attempts := 0 }).monRefuse ch
    else c.updMon ch fun m => { m with window := false, attempts := m.attempts + 1 } := by
  rw [monCalDone, hopen, if_neg (by decide), if_pos h]

end

theorem monKeep_facts : ((c.monKeep ch off gain).monOf ch).window = false ∧ ((c.monKeep ch off gain).monOf ch).offset = off ∧
    ((c.monKeep ch off gain).monOf ch).gain = gain ∧ ((c.monKeep ch off gain).monOf ch).attempts = 0 ∧
    ((c.monKeep ch off gain).monOf ch).trimAt = c.tick ∧ (c.monKeep ch off gain).bitOf Obj.Mon.REFUSED_MASK ch = false ∧
    ∀ k, k ≠ Obj.Mon.REFUSED_MASK → (c.monKeep ch off gain).get k = c.get k := by
  have hmon : (c.monKeep ch off gain).monOf ch =
      { c.monOf ch with window := false, attempts := 0, offset := off, gain := gain, trimAt := c.tick } := by
    rw [monKeep, putBit, monOf_put, monOf_updMon_self]
  rw [hmon]
  refine ⟨rfl, rfl, rfl, rfl, rfl, ?_, fun k hk => ?_⟩
  · rw [monKeep, bitOf, putBit, get_put_self, testBit_setBitTo_self]
  · rw [monKeep, putBit, get_put_ne _ _ hk, get_updMon]

theorem monRefuse_facts : (c.monRefuse ch).mon = c.mon ∧ (c.monRefuse ch).bitOf Obj.Mon.REFUSED_MASK ch = true ∧
    (c.monRefuse ch).bitOf Obj.Mon.FLAGS 0 = true ∧
    (c.monRefuse ch).get Obj.Mon.CAL_REFUSALS = min (c.get Obj.Mon.CAL_REFUSALS + 1) (2 ^ 32 - 1) := by
  refine ⟨rfl, ?_, bitOf_flag_self _ _ _, ?_⟩
  · rw [monRefuse, bitOf, get_flag_ne _ _ (by decide), get_inc_ne _ (by decide), putBit, get_put_self, testBit_setBitTo_self]
  · rw [monRefuse, get_flag_ne _ _ (by decide), get_inc_self, putBit, get_put_ne _ _ (by decide), sat_eq_min]

end

/-! ## The age of a reading (R231) -/

section
variable {c : Core} {ch : Nat} (hch : ch < 25)
include hch

theorem monReading_facts {v : Int} {stale : Bool} (hopen : (c.monOf ch).window = false)
    (hstale : stale = (c.monRefused ch && decide (c.get Obj.Mon.MON_TRIM_MAX_AGE_S * 500000000 < c.tick - (c.monOf ch).trimAt))) :
    (c.monReading ch v).get (monKey ch) = c.readingRecord ch v stale ∧ ((c.monReading ch v).monOf ch).readAt = c.tick ∧
    (ch ≤ 7 → ∀ i < 4, if stale = true then (c.monReading ch v).bitOf (Obj.FtSc.FLAGS (4 * ch + i)) 4 = true
      else (c.monReading ch v).get (Obj.FtSc.T_NOW (4 * ch + i)) = ofSigned 32 v) := by
  rw [monReading_eq hopen hstale]
  have hkey := monKey_lt hch
  have hcheck := fcOnly_monCheck ((c.published ch v stale).afterReading ch v stale) ch
  refine ⟨?_, ?_, fun hshore i hi => ?_⟩
  · rw [hcheck.get (by omega), afterReading_get _ hch _ _ hkey, published, get_updMon, get_put_self]
  · rw [hcheck.monOf, monOf, mon_afterReading _ hch, published, ← monOf, monOf_updMon_self]
  · split
    · next h =>
      rw [bitOf, hcheck.get (by simp; omega), h, afterReading, if_pos rfl]
      exact staleTemp_flag _ hshore hi
    · next h =>
      rw [hcheck.get (by simp; omega), afterReading, if_neg h, if_pos (by omega), if_pos hshore]
      exact newTemp_temp _ _ _ hi

theorem monAged_facts (hgen : c.monGen ch ≠ 0) : (c.monAged ch).monStale ch = true ∧ (c.monAged ch).monGen ch = c.monGen ch ∧
    (ch ≤ 7 → ∀ i < 4, (c.monAged ch).bitOf (Obj.FtSc.FLAGS (4 * ch + i)) 4 = true) := by
  have hkey := monKey_lt hch
  have hget : (c.monAged ch).get (monKey ch) = setBitTo 0 true (c.get (monKey ch)) := by
    rw [monAged, if_neg hgen, (fcOnly_monCheck _ ch).get (by omega), staleTemp_get _ _ hkey, get_put_self]
  refine ⟨?_, ?_, fun hshore i hi => ?_⟩
  · rw [monStale, hget]
    exact testBit_setBitTo_self _ _ _
  · rw [monGen, hget, monGen]
    refine Nat.eq_of_testBit_eq fun j => ?_
    rw [field, field, Nat.testBit_mod_two_pow, Nat.testBit_mod_two_pow, Nat.testBit_shiftRight, Nat.testBit_shiftRight,
      testBit_setBitTo_ne _ _ (by omega)]
  · rw [bitOf, monAged, if_neg hgen, (fcOnly_monCheck _ ch).get (by simp; omega)]
    exact staleTemp_flag _ hshore hi

end

end Core

/-- Settles O41: a window, its end kept and refused, a reading, and its age. -/
theorem monitors : Obligations.Monitors := by
  refine ⟨fun s ch hup hfree => ?_, fun s ch hup hbusy => ?_, fun s ch mv off gain hup hopen hripple => ?_,
    fun s ch mv off gain hup hopen hripple => ?_, fun s ch v stale hup hopen hstale => ?_, fun s ch v hup hopen => ?_,
    fun s ch hup hgen => ?_⟩
  · have hstep := Core.monCal_of_free (c := s.clear.core) (ch := ch.val) hfree
    refine answersCore_onPower (fun c => c.monCal ch.val) rfl hup (by rw [hstep]; rfl) ?_
    rw [hstep]
    exact ⟨by simp, fun k => rfl⟩
  · exact exec_of_onPower_unchanged (fun c => c.monCal ch.val) (Core.monCal_of_busy (c := s.clear.core) hbusy) rfl
  · have hstep := Core.monCalDone_of_kept (c := s.clear.core) (off := off) (gain := gain) hopen hripple
    refine answersCore_onPower (fun c => c.monCalDone ch.val mv off gain) rfl hup (by rw [hstep]; rfl) ?_
    rw [hstep]
    exact Core.monKeep_facts
  · have hstep := Core.monCalDone_of_ripple (c := s.clear.core) (off := off) (gain := gain) hopen hripple
    by_cases htwo : (s.clear.core.monOf ch.val).attempts = 2
    · rw [if_pos htwo] at hstep
      refine answersCore_onPower (fun c => c.monCalDone ch.val mv off gain) rfl hup (by rw [hstep]; rfl) ?_
      obtain ⟨hmon, hmask, hflag, hcount⟩ := Core.monRefuse_facts (ch := ch.val)
        (c := s.clear.core.updMon ch.val fun m => { m with window := false, attempts := 0 })
      rw [hstep, Core.monOf, hmon, ← Core.monOf, Core.monOf_updMon_self, if_pos (by exact htwo)]
      exact ⟨rfl, rfl, rfl, rfl, hmask, hflag, hcount⟩
    · rw [if_neg htwo] at hstep
      refine answersCore_onPower (fun c => c.monCalDone ch.val mv off gain) rfl hup (by rw [hstep]; rfl) ?_
      rw [hstep, Core.monOf_updMon_self, if_neg (by exact htwo)]
      exact ⟨rfl, rfl, rfl, rfl, fun k => rfl⟩
  · exact answersThen_onPower (fun c => c.monReading ch.val v) rfl hup (Core.monReading_facts (c := s.clear.core) ch.isLt hopen hstale)
  · have hopen' : (s.clear.core.monOf ch.val).window = true := hopen
    exact exec_of_onPower_unchanged (fun c => c.monReading ch.val v) (if_pos hopen') rfl
  · exact answersThen_onPower (fun c => c.monAged ch.val) rfl hup (Core.monAged_facts (c := s.clear.core) ch.isLt hgen)

end Sys2Proof.Machine
end

section
/-! PROOFS. One fault event that no quiet window withholds (12_fault_collection.md R303, R308, R310, R314, R323 to R326): its counts,
its STATUS, its record, and what its action asks of the hub. -/

namespace Sys2Proof.Machine

namespace Core

/-! ## The objects that the action of an event may still change -/

/-- The objects of the first-error capture, the lockout record and the pins. -/
abbrev reactKey (k : Nat) : Prop :=
  k = Obj.Fc.FIRST_ERROR ∨ k = Obj.Fc.FE_LATER ∨ k = Obj.Fc.FLAGS ∨ k = Obj.Fc.LOCKOUT_SOURCE ∨ k = Obj.Fc.LAST_LOCKOUT ∨
    k = Obj.Fc.PIN_STATE

theorem keeps_capture (c : Core) (r sev : Nat) (m : Marks) : Keeps (fun k => ¬ reactKey k) c (c.capture r sev m) := by
  have hfirst : ∀ (d : Core) (n : Nat), Keeps (fun k => ¬ reactKey k) d ((d.put Obj.Fc.FIRST_ERROR r).flag Obj.Fc.FLAGS n) :=
    fun d _ => (keeps_put _ d _ _ (by decide)).trans (keeps_put _ _ _ _ (by decide))
  unfold capture
  refine keeps_ite _ (fun _ => Keeps.refl _ c) fun _ => keeps_ite _ (fun _ => hfirst c 0) fun _ => ?_
  exact (keeps_put _ c Obj.Fc.FE_LATER _ (by decide)).trans
    (keeps_ite _ (fun _ => hfirst _ 2) fun _ => Keeps.refl _ _)

/-- In `d` the collector's wires, injections and checks stand as in `c`. -/
def SameDetectors (c d : Core) : Prop :=
  d.fc.pairs = c.fc.pairs ∧ d.fc.injecting = c.fc.injecting ∧ d.fc.latched = c.fc.latched ∧ d.fc.held = c.fc.held ∧
    d.fc.running = c.fc.running ∧ d.fc.fallback = c.fc.fallback ∧ d.fc.tested = c.fc.tested

theorem sameDetectors_of_fc {c d : Core} (h : d.fc = c.fc) : c.SameDetectors d := by
  rw [SameDetectors, h]
  exact ⟨rfl, rfl, rfl, rfl, rfl, rfl, rfl⟩

theorem SameDetectors.trans {c d e : Core} (h : c.SameDetectors d) (h' : d.SameDetectors e) : c.SameDetectors e := by
  obtain ⟨h1, h2, h3, h4, h5, h6, h7⟩ := h
  obtain ⟨k1, k2, k3, k4, k5, k6, k7⟩ := h'
  exact ⟨k1.trans h1, k2.trans h2, k3.trans h3, k4.trans h4, k5.trans h5, k6.trans h6, k7.trans h7⟩

theorem sameDetectors_pins (c : Core) : c.SameDetectors c.pins := by
  unfold pins
  dsimp only
  split_ifs <;> exact ⟨rfl, rfl, rfl, rfl, rfl, rfl, rfl⟩

/-- The reaction of an event, before SAFE and LOCKOUT: what it asks, and the window it opens (R310, R315). -/
def reacted (c : Core) (s action : Nat) : Core :=
  let c1 := if 2 ≤ action then (c.emit .interrupt).ask (.notify c.fc.seq) else c
  if 3 ≤ action then
    match (sourceInfo s).reaction with
    | 4 => (c1.openWindow 4 (sourceIndex s) c.fc.seq).ask (.scOffline (sourceIndex s) s)
    | 5 => (c1.openWindow 5 (sourceIndex s) c.fc.seq).ask (.halfOffline (sourceIndex s) s)
    | _ => c1
  else c1

theorem act_eq (c : Core) (s action r : Nat) : c.act s action r =
    if action = 5 then
      ((((c.reacted s action).put Obj.Fc.LOCKOUT_SOURCE s).put Obj.Fc.LAST_LOCKOUT r).touch).ask .lockout
    else if action = 4 then ((c.reacted s action).flag Obj.Fc.FLAGS 1).ask .safe
    else c.reacted s action := rfl

section
variable (c : Core) (s a : Nat)

theorem reacted_objs : (c.reacted s a).objs = c.objs := by
  unfold reacted
  dsimp only
  repeat' split
  all_goals rfl

theorem reacted_get (k : Nat) : (c.reacted s a).get k = c.get k := by rw [get, reacted_objs, get]

theorem reacted_seq : (c.reacted s a).fc.seq = c.fc.seq := by
  unfold reacted
  dsimp only
  repeat' split
  all_goals rfl

theorem sameDetectors_reacted : c.SameDetectors (c.reacted s a) := by
  unfold reacted
  dsimp only
  repeat' split
  all_goals exact ⟨rfl, rfl, rfl, rfl, rfl, rfl, rfl⟩

variable {a}

theorem reacted_notify (h : 2 ≤ a) :
    Out.interrupt ∈ (c.reacted s a).out ∧ Req.notify c.fc.seq ∈ (c.reacted s a).req := by
  unfold reacted
  rw [if_pos h]
  dsimp only
  repeat' split
  all_goals simp [openWindow]

theorem reacted_scOffline (h : 3 ≤ a) (hr : (sourceInfo s).reaction = 4) :
    Req.scOffline (sourceIndex s) s ∈ (c.reacted s a).req := by
  unfold reacted
  rw [if_pos h, hr]
  simp

theorem reacted_halfOffline (h : 3 ≤ a) (hr : (sourceInfo s).reaction = 5) :
    Req.halfOffline (sourceIndex s) s ∈ (c.reacted s a).req := by
  unfold reacted
  rw [if_pos h, hr]
  simp

end

theorem keeps_act (c : Core) (s a r : Nat) : Keeps (fun k => ¬ reactKey k) c (c.act s a r) := by
  rw [act_eq]
  have hreact : Keeps (fun k => ¬ reactKey k) c (c.reacted s a) := keeps_of_objs _ (reacted_objs c s a)
  refine hreact.trans (keeps_ite _ (fun _ => ?_) fun _ => keeps_ite _ (fun _ => ?_) fun _ => Keeps.refl _ _)
  · exact ((keeps_put _ _ Obj.Fc.LOCKOUT_SOURCE _ (by decide)).trans
      (keeps_put _ _ Obj.Fc.LAST_LOCKOUT _ (by decide))).trans (keeps_of_objs _ rfl)
  · exact (keeps_put _ _ Obj.Fc.FLAGS _ (by decide)).trans (keeps_of_objs _ rfl)

section
variable (c : Core) (s a r : Nat)

theorem act_seq : (c.act s a r).fc.seq = c.fc.seq := by
  rw [act_eq]
  split_ifs
  · exact reacted_seq c s a
  · exact reacted_seq c s a
  · exact reacted_seq c s a

theorem sameDetectors_act : c.SameDetectors (c.act s a r) := by
  rw [act_eq]
  split_ifs
  · exact sameDetectors_reacted c s a
  · exact sameDetectors_reacted c s a
  · exact sameDetectors_reacted c s a

theorem mem_req_act {q : Req} (h : q ∈ (c.reacted s a).req) : q ∈ (c.act s a r).req := by
  rw [act_eq]
  split_ifs
  · simp [touch, h]
  · simp [flag, h]
  · exact h

theorem mem_out_act {o : Out} (h : o ∈ (c.reacted s a).out) : o ∈ (c.act s a r).out := by
  rw [act_eq]
  split_ifs
  · simp [touch, h]
  · simp [flag, h]
  · exact h

theorem act_safe : Req.safe ∈ (c.act s 4 r).req := by
  rw [act_eq]
  simp

theorem act_lockout : Req.lockout ∈ (c.act s 5 r).req ∧ (c.act s 5 r).get Obj.Fc.LOCKOUT_SOURCE = s ∧
    (c.act s 5 r).get Obj.Fc.LAST_LOCKOUT = r := by
  rw [act_eq, if_pos rfl]
  refine ⟨by simp, ?_, ?_⟩
  · simp (disch := decide) [touch, get_put_ne]
  · simp [touch]

theorem act_firstError : (c.act s a r).get Obj.Fc.FIRST_ERROR = c.get Obj.Fc.FIRST_ERROR := by
  rw [act_eq]
  split_ifs
  · simp (disch := decide) [touch, get_put_ne, reacted_get]
  · simp (disch := decide) [flag, get_put_ne, reacted_get]
  · exact reacted_get c s a _

end

/-! ## What is counted (R305, R308) -/

/-- The STATUS, COUNT and LAST_TIME of the source, and EVENTS. -/
def counted (c : Core) (s sev : Nat) (m : Marks) : Core :=
  (((c.put (Obj.Source.STATUS s) (eventStatus (c.get (Obj.Source.STATUS s)) sev m)).inc (Obj.Source.COUNT s)).put
    (Obj.Source.LAST_TIME s) c.hubTime).inc64 Obj.Fc.EVENTS

theorem counted_get (c : Core) (s sev : Nat) (m : Marks) {k : Nat} (h1 : k ≠ Obj.Source.STATUS s) (h2 : k ≠ Obj.Source.COUNT s)
    (h3 : k ≠ Obj.Source.LAST_TIME s) (h4 : k ≠ Obj.Fc.EVENTS) : (c.counted s sev m).get k = c.get k := by
  rw [counted, inc64, get_add_ne _ _ _ h4, get_put_ne _ _ h3, get_inc_ne _ h2, get_put_ne _ _ h1]

section
variable (c : Core) (s sev : Nat) (m : Marks)

theorem counted_status : (c.counted s sev m).get (Obj.Source.STATUS s) = eventStatus (c.get (Obj.Source.STATUS s)) sev m := by
  rw [counted, inc64, get_add_ne _ _ _ (by simp; omega), get_put_ne _ _ (by simp), get_inc_ne _ (by simp), get_put_self]

theorem counted_count : (c.counted s sev m).get (Obj.Source.COUNT s) = min (c.get (Obj.Source.COUNT s) + 1) (2 ^ 32 - 1) := by
  rw [counted, inc64, get_add_ne _ _ _ (by simp; omega), get_put_ne _ _ (by simp), get_inc_self, get_put_ne _ _ (by simp), sat_eq_min]

theorem counted_time : (c.counted s sev m).get (Obj.Source.LAST_TIME s) = c.hubTime := by
  rw [counted, inc64, get_add_ne _ _ _ (by simp; omega), get_put_self]

theorem counted_events : (c.counted s sev m).get Obj.Fc.EVENTS = min (c.get Obj.Fc.EVENTS + 1) (2 ^ 64 - 1) := by
  rw [counted, inc64, get_add_self, get_put_ne _ _ (by simp; omega), get_inc_ne _ (by simp; omega), get_put_ne _ _ (by simp; omega),
    sat_eq_min]

end

theorem eventStatus_bits (st sev : Nat) (m : Marks) : (eventStatus st sev m).testBit 0 = true ∧
    (m.injected = true → (eventStatus st sev m).testBit 1 = true) ∧ (m.real = true → (eventStatus st sev m).testBit 2 = true) ∧
    (m.wire = true → (eventStatus st sev m).testBit 3 = true) := by
  unfold eventStatus
  dsimp only
  refine ⟨?_, fun h => ?_, fun h => ?_, fun h => ?_⟩
  · split_ifs <;> simp only [testBit_setBitTo] <;> rfl
  · rw [h, if_pos rfl, testBit_setBitTo_self]
  · rw [h, if_pos rfl]
    split_ifs <;> simp only [testBit_setBitTo] <;> rfl
  · rw [h, if_pos rfl]
    split_ifs <;> simp only [testBit_setBitTo] <;> rfl

/-- A flag that stands stays when another is set. -/
theorem bitOf_flag_of_bitOf {c : Core} {k i : Nat} (n : Nat) (h : c.bitOf k i = true) : (c.flag k n).bitOf k i = true := by
  rw [bitOf, get_flag_self, testBit_setBitTo]
  split
  · rfl
  · exact h

theorem bitOf_congr {c d : Core} {k : Nat} (i : Nat) (h : d.get k = c.get k) : d.bitOf k i = c.bitOf k i := by
  rw [bitOf, h, bitOf]

/-- What the counts of an event do to the core of the counted one, mark by mark. -/
def withWire (c : Core) (m : Marks) : Core := if m.wire then (c.inc Obj.Fc.WIRE_FAULTS).flag Obj.Fc.FLAGS 4 else c

/-- The flag of the REAL mark. -/
def withReal (c : Core) (m : Marks) : Core := if m.real then c.flag Obj.Fc.FLAGS 3 else c

/-- The count of the INJECTED mark. -/
def withInjected (c : Core) (m : Marks) : Core := if m.injected then c.inc Obj.Fc.INJECTIONS else c

theorem countEvent_marks (c : Core) (s sev : Nat) (m : Marks) :
    c.countEvent s sev m = (((c.counted s sev m).withWire m).withReal m).withInjected m := rfl

theorem get_withWire_ne (c : Core) (m : Marks) {k : Nat} (h1 : k ≠ Obj.Fc.WIRE_FAULTS) (h2 : k ≠ Obj.Fc.FLAGS) :
    (c.withWire m).get k = c.get k := by
  unfold withWire
  split
  · rw [get_flag_ne _ _ h2, get_inc_ne _ h1]
  · rfl

theorem get_withReal_ne (c : Core) (m : Marks) {k : Nat} (h : k ≠ Obj.Fc.FLAGS) : (c.withReal m).get k = c.get k := by
  unfold withReal
  split
  · rw [get_flag_ne _ _ h]
  · rfl

theorem get_withInjected_ne (c : Core) (m : Marks) {k : Nat} (h : k ≠ Obj.Fc.INJECTIONS) : (c.withInjected m).get k = c.get k := by
  unfold withInjected
  split
  · rw [get_inc_ne _ h]
  · rfl

/-- The flags of the marks of an event. -/
theorem countEvent_flags (c : Core) (s sev : Nat) (m : Marks) :
    (m.wire = true → (c.countEvent s sev m).bitOf Obj.Fc.FLAGS 4 = true) ∧
    (m.real = true → (c.countEvent s sev m).bitOf Obj.Fc.FLAGS 3 = true) := by
  rw [countEvent_marks, bitOf_congr _ (get_withInjected_ne _ m (by decide)), bitOf_congr _ (get_withInjected_ne _ m (by decide))]
  constructor
  · intro h
    have hwire : ((c.counted s sev m).withWire m).bitOf Obj.Fc.FLAGS 4 = true := by
      rw [withWire, if_pos h, bitOf_flag_self]
    unfold withReal
    split
    · exact bitOf_flag_of_bitOf _ hwire
    · exact hwire
  · intro h
    rw [withReal, if_pos h, bitOf_flag_self]

theorem countEvent_wires (c : Core) (s sev : Nat) {m : Marks} (h : m.wire = true) :
    (c.countEvent s sev m).get Obj.Fc.WIRE_FAULTS = min (c.get Obj.Fc.WIRE_FAULTS + 1) (2 ^ 32 - 1) := by
  rw [countEvent_marks, get_withInjected_ne _ _ (by decide), get_withReal_ne _ _ (by decide), withWire, if_pos h,
    get_flag_ne _ _ (by decide), get_inc_self, counted_get _ _ _ _ (by simp; omega) (by simp; omega) (by simp; omega) (by decide),
    sat_eq_min]

theorem countEvent_injections (c : Core) (s sev : Nat) {m : Marks} (h : m.injected = true) :
    (c.countEvent s sev m).get Obj.Fc.INJECTIONS = min (c.get Obj.Fc.INJECTIONS + 1) (2 ^ 32 - 1) := by
  rw [countEvent_marks, withInjected, if_pos h, get_inc_self, get_withReal_ne _ _ (by decide),
    get_withWire_ne _ _ (by decide) (by decide),
    counted_get _ _ _ _ (by simp; omega) (by simp; omega) (by simp; omega) (by decide), sat_eq_min]

theorem countEvent_get (c : Core) (s sev : Nat) (m : Marks) {k : Nat} (h1 : k ≠ Obj.Fc.WIRE_FAULTS) (h2 : k ≠ Obj.Fc.FLAGS)
    (h3 : k ≠ Obj.Fc.INJECTIONS) : (c.countEvent s sev m).get k = (c.counted s sev m).get k := by
  rw [countEvent_marks, get_withInjected_ne _ _ h3, get_withReal_ne _ _ h2, get_withWire_ne _ _ h1 h2]

/-! ## The whole event (R310, R314, R324) -/

/-- The record of an event (R325). -/
def recordOf (c : Core) (s : Nat) (m : Marks) (x : FaultCtx) : Nat :=
  eventRecord (c.fc.seq + 1) s (c.eventSev s) (ofBool c.programmed) (c.actionOf s m) m x 0 (sourceInfo s).reaction
    c.timeValid c.timeNs

/-- The event with its record in the log, before its capture. -/
def logged (c : Core) (s : Nat) (m : Marks) (x : FaultCtx) : Core :=
  let c1 := c.countEvent s (c.eventSev s) m
  (((c1.withFc { c1.fc with seq := c1.fc.seq + 1 }).put (logKey (c1.fc.seq + 1)) (c.recordOf s m x)).put Obj.Fc.LOG_HEAD
    (c1.fc.seq + 1))

theorem fc_counted (c : Core) (s sev : Nat) (m : Marks) : (c.counted s sev m).fc = c.fc := by simp [counted, inc, inc64, add]

theorem event_of_loud {c : Core} {s : Nat} {m : Marks} (x : FaultCtx) (h : c.quiet s (c.actionOf s m) = false) :
    c.event s m x = (if 1 ≤ c.actionOf s m then
      ((c.logged s m x).capture (c.recordOf s m x) (c.eventSev s) m).act s (c.actionOf s m) (c.recordOf s m x)
      else c.countEvent s (c.eventSev s) m).pins := by
  have hseq : (c.countEvent s (c.eventSev s) m).fc.seq = c.fc.seq := by rw [fc_countEvent]
  unfold event
  dsimp only
  rw [h, if_neg (by decide)]
  simp only [logged, recordOf, hseq, withFc]

section
variable {c : Core} {s : Nat} {m : Marks} (x : FaultCtx) (hloud : c.quiet s (c.actionOf s m) = false)
include hloud

/-- The objects that the capture, the action and the log do not write are those of the counted event. -/
theorem event_get {k : Nat} (h1 : ¬ reactKey k) (h2 : k ≠ Obj.Fc.LOG_HEAD) (h3 : k ≠ logKey (c.fc.seq + 1)) :
    (c.event s m x).get k = (c.countEvent s (c.eventSev s) m).get k := by
  rw [event_of_loud x hloud, get_pins_ne _ fun h => h1 (.inr (.inr (.inr (.inr (.inr h)))))]
  split
  · rw [keeps_act _ _ _ _ k h1, keeps_capture _ _ _ _ k h1, logged, fc_countEvent, get_put_ne _ _ h2, get_put_ne _ _ h3, get_withFc]
  · rfl

end

theorem sameDetectors_event (c : Core) (s : Nat) (m : Marks) (x : FaultCtx) : c.SameDetectors (c.event s m x) := by
  by_cases hloud : c.quiet s (c.actionOf s m) = true
  · rw [event, if_pos hloud]
    exact ⟨rfl, rfl, rfl, rfl, rfl, rfl, rfl⟩
  · rw [event_of_loud x (by simpa using hloud)]
    refine SameDetectors.trans ?_ (sameDetectors_pins _)
    split
    · refine SameDetectors.trans ?_ (sameDetectors_act _ _ _ _)
      refine SameDetectors.trans ?_ (sameDetectors_of_fc (fc_capture _ _ _ _))
      rw [logged, SameDetectors, fc_put, fc_put, fc_withFc, fc_countEvent]
      exact ⟨rfl, rfl, rfl, rfl, rfl, rfl, rfl⟩
    · exact sameDetectors_of_fc (fc_countEvent _ _ _ _)

end Core

end Sys2Proof.Machine
end

section
/-! PROOFS. What a fault event that no quiet window withholds leaves in the objects, the log and the requests (12_fault_collection.md
R303, R308, R310, R314, R323 to R328). -/

namespace Sys2Proof.Machine

namespace Core

theorem logKey_bounds (n : Nat) : 0x482001 ≤ logKey n ∧ logKey n < 0x482200 := by
  simp only [logKey, Obj.EventLog.LOG]
  omega

theorem source_ne_logKey {k : Nat} (h : 0x490000 ≤ k) (n : Nat) : k ≠ logKey n := by
  have := logKey_bounds n
  omega

theorem fc_ne_logKey {k : Nat} (h : k < 0x482001) (n : Nat) : k ≠ logKey n := by
  have := logKey_bounds n
  omega

theorem not_reactKey_of_source {k : Nat} (h : 0x490000 ≤ k) : ¬ reactKey k := by
  simp only [Obj.Fc.FIRST_ERROR, Obj.Fc.FE_LATER, Obj.Fc.FLAGS, Obj.Fc.LOCKOUT_SOURCE, Obj.Fc.LAST_LOCKOUT, Obj.Fc.PIN_STATE, reactKey]
  omega

theorem not_reactKey_logKey (n : Nat) : ¬ reactKey (logKey n) := by
  have := logKey_bounds n
  simp only [Obj.Fc.FIRST_ERROR, Obj.Fc.FE_LATER, Obj.Fc.FLAGS, Obj.Fc.LOCKOUT_SOURCE, Obj.Fc.LAST_LOCKOUT, Obj.Fc.PIN_STATE, reactKey]
  omega

/-! ## Flags stay set -/

theorem bitOf_capture {c : Core} (r sev : Nat) (m : Marks) {n : Nat} (h : c.bitOf Obj.Fc.FLAGS n = true) :
    (c.capture r sev m).bitOf Obj.Fc.FLAGS n = true := by
  have hput : ∀ (d : Core) (k v i : Nat), k ≠ Obj.Fc.FLAGS → d.bitOf Obj.Fc.FLAGS n = true →
      ((d.put k v).flag Obj.Fc.FLAGS i).bitOf Obj.Fc.FLAGS n = true := fun d k v i hk hd =>
    bitOf_flag_of_bitOf i ((bitOf_congr n (get_put_ne d v (Ne.symm hk))).trans hd)
  have hinc : (c.inc Obj.Fc.FE_LATER).bitOf Obj.Fc.FLAGS n = true := (bitOf_congr n (get_inc_ne c (by decide))).trans h
  unfold capture
  dsimp only
  split_ifs
  · exact h
  · exact hput c _ _ _ (by decide) h
  · exact hput _ _ _ _ (by decide) hinc
  · exact hinc

theorem bitOf_act {c : Core} (s a r : Nat) {n : Nat} (h : c.bitOf Obj.Fc.FLAGS n = true) :
    (c.act s a r).bitOf Obj.Fc.FLAGS n = true := by
  have hreact : (c.reacted s a).bitOf Obj.Fc.FLAGS n = true := (bitOf_congr n (reacted_get c s a _)).trans h
  rw [act_eq]
  split_ifs
  · refine (bitOf_congr n ?_).trans hreact
    simp (disch := decide) [touch, get_put_ne]
  · exact (bitOf_congr n (get_ask _ _ _)).trans (bitOf_flag_of_bitOf 1 hreact)
  · exact hreact

theorem mem_out_pins {c : Core} {o : Out} (h : o ∈ c.out) : o ∈ c.pins.out := sentIn_pins c o h

theorem req_pins (c : Core) : c.pins.req = c.req := by
  unfold pins
  dsimp only
  split_ifs <;> simp

theorem seq_fc_pins (c : Core) : c.pins.fc.seq = c.fc.seq := by
  unfold pins
  dsimp only
  split_ifs <;> simp

theorem capture_first {c : Core} {r sev : Nat} (m : Marks) (h : c.errThreshold ≤ sev) (h0 : c.get Obj.Fc.FIRST_ERROR = 0) :
    (c.capture r sev m).get Obj.Fc.FIRST_ERROR = r := by
  rw [capture, if_neg (Nat.not_lt.2 h), if_pos h0, get_flag_ne _ _ (by decide), get_put_self]

/-- `d` classifies, numbers and stamps an event as `c` does. -/
def SameRules (c d : Core) : Prop :=
  d.fc.fallback = c.fc.fallback ∧ d.fc.seq = c.fc.seq ∧ d.hubTime = c.hubTime ∧
    (∀ k ∈ [Obj.Fc.MODE, Obj.Fc.ACTION_MAP, Obj.Fc.INJ_REACT, Obj.Fc.ERR_SEV, Obj.Fc.ERR_CLASS, Obj.Time.TIME_VALID],
      d.get k = c.get k) ∧
    ∀ s, d.get (Obj.Source.CONFIG s) = c.get (Obj.Source.CONFIG s)

section
variable {c d : Core} (h : c.SameRules d)
include h

theorem SameRules.programmed : d.programmed = c.programmed := by
  rw [Core.programmed, isSet, h.1, h.2.2.2.1 _ (by decide), Core.programmed, isSet]

theorem SameRules.eventSev (s : Nat) : d.eventSev s = c.eventSev s := by
  rw [Core.eventSev, h.programmed, severityOf, h.2.2.2.2, Core.eventSev, severityOf]

theorem SameRules.actionOf (s : Nat) (m : Marks) : d.actionOf s m = c.actionOf s m := by
  have hprogrammed := h.programmed
  obtain ⟨hfallback, -, -, hget, hconfig⟩ := h
  have hmap := hget Obj.Fc.ACTION_MAP (by decide)
  have hreact := hget Obj.Fc.INJ_REACT (by decide)
  unfold Core.actionOf maskedSrc bitOf severityOf
  rw [hconfig, hmap, hreact, hprogrammed, hfallback]

theorem SameRules.errThreshold : d.errThreshold = c.errThreshold := by
  rw [Core.errThreshold, h.programmed, h.2.2.2.1 _ (by decide), h.2.2.2.1 _ (by decide), Core.errThreshold]

theorem SameRules.recordOf (s : Nat) (m : Marks) (x : FaultCtx) : d.recordOf s m x = c.recordOf s m x := by
  have hvalid : d.timeValid = c.timeValid := by rw [timeValid, isSet, h.2.2.2.1 _ (by decide), timeValid, isSet]
  rw [Core.recordOf, h.2.1, h.eventSev, h.programmed, h.actionOf, timeNs, h.2.2.1, hvalid, Core.recordOf, timeNs]

end

theorem logged_seq (c : Core) (s : Nat) (m : Marks) (x : FaultCtx) : (c.logged s m x).fc.seq = c.fc.seq + 1 := by
  rw [logged, fc_put, fc_put, fc_withFc, fc_countEvent]

/-! ## The event -/

section
variable {c : Core} {s : Nat} {m : Marks} (x : FaultCtx) (hloud : c.quiet s (c.actionOf s m) = false)
include hloud

theorem event_get_source {k : Nat} (h : 0x490000 ≤ k) : (c.event s m x).get k = (c.counted s (c.eventSev s) m).get k := by
  rw [event_get x hloud (not_reactKey_of_source h) (by simp; omega) (source_ne_logKey h _),
    countEvent_get _ _ _ _ (by simp; omega) (by simp; omega) (by simp; omega)]

theorem event_status : (c.event s m x).get (Obj.Source.STATUS s) = eventStatus (c.get (Obj.Source.STATUS s)) (c.eventSev s) m := by
  rw [event_get_source x hloud (by simp; omega), counted_status]

theorem loud_count : (c.event s m x).get (Obj.Source.COUNT s) = min (c.get (Obj.Source.COUNT s) + 1) (2 ^ 32 - 1) := by
  rw [event_get_source x hloud (by simp; omega), counted_count]

theorem event_time : (c.event s m x).get (Obj.Source.LAST_TIME s) = c.hubTime := by
  rw [event_get_source x hloud (by simp; omega), counted_time]

theorem event_events : (c.event s m x).get Obj.Fc.EVENTS = min (c.get Obj.Fc.EVENTS + 1) (2 ^ 64 - 1) := by
  rw [event_get x hloud (by decide) (by decide) (fc_ne_logKey (by decide) _), countEvent_get _ _ _ _ (by decide) (by decide) (by decide),
    counted_events]

theorem event_wires (h : m.wire = true) :
    (c.event s m x).get Obj.Fc.WIRE_FAULTS = min (c.get Obj.Fc.WIRE_FAULTS + 1) (2 ^ 32 - 1) := by
  rw [event_get x hloud (by decide) (by decide) (fc_ne_logKey (by decide) _), countEvent_wires _ _ _ h]

theorem event_injections (h : m.injected = true) :
    (c.event s m x).get Obj.Fc.INJECTIONS = min (c.get Obj.Fc.INJECTIONS + 1) (2 ^ 32 - 1) := by
  rw [event_get x hloud (by decide) (by decide) (fc_ne_logKey (by decide) _), countEvent_injections _ _ _ h]

/-- A flag that the counting sets, or that stood, still stands at the event's end. -/
theorem event_flag {n : Nat} (h : (c.countEvent s (c.eventSev s) m).bitOf Obj.Fc.FLAGS n = true) :
    (c.event s m x).bitOf Obj.Fc.FLAGS n = true := by
  rw [event_of_loud x hloud, bitOf_congr n (get_pins_ne _ (by decide))]
  split
  · refine bitOf_act s _ _ (bitOf_capture _ _ m ?_)
    rw [logged, bitOf_congr n (get_put_ne _ _ (by decide)), bitOf_congr n (get_put_ne _ _ (fc_ne_logKey (by decide) _)),
      bitOf_congr n (get_withFc _ _ _), h]
  · exact h

theorem event_seq_of_counted (h : c.actionOf s m = 0) : (c.event s m x).fc.seq = c.fc.seq := by
  rw [event_of_loud x hloud, if_neg (by omega), seq_fc_pins, fc_countEvent]

section
variable (h : 1 ≤ c.actionOf s m)
include h

theorem event_eq_act : c.event s m x =
    (((c.logged s m x).capture (c.recordOf s m x) (c.eventSev s) m).act s (c.actionOf s m) (c.recordOf s m x)).pins := by
  rw [event_of_loud x hloud, if_pos h]

theorem event_seq : (c.event s m x).fc.seq = c.fc.seq + 1 := by
  rw [event_eq_act x hloud h, seq_fc_pins, act_seq, fc_capture, logged_seq]

theorem event_head : (c.event s m x).get Obj.Fc.LOG_HEAD = c.fc.seq + 1 := by
  rw [event_eq_act x hloud h, get_pins_ne _ (by decide), keeps_act _ _ _ _ _ (by decide), keeps_capture _ _ _ _ _ (by decide), logged,
    get_put_self, fc_countEvent]

theorem event_record : (c.event s m x).get (logKey (c.fc.seq + 1)) = c.recordOf s m x := by
  rw [event_eq_act x hloud h, get_pins_ne _ (Ne.symm (fc_ne_logKey (by decide) _)), keeps_act _ _ _ _ _ (not_reactKey_logKey _),
    keeps_capture _ _ _ _ _ (not_reactKey_logKey _), logged, fc_countEvent, get_put_ne _ _ (Ne.symm (fc_ne_logKey (by decide) _)), get_put_self]

theorem event_first (hsev : c.errThreshold ≤ c.eventSev s) (h0 : c.get Obj.Fc.FIRST_ERROR = 0) :
    (c.event s m x).get Obj.Fc.FIRST_ERROR = c.recordOf s m x := by
  have hget : ∀ k, k < 0x480100 → k ≠ Obj.Fc.LOG_HEAD → k ≠ Obj.Fc.WIRE_FAULTS → k ≠ Obj.Fc.FLAGS → k ≠ Obj.Fc.INJECTIONS →
      k ≠ Obj.Fc.EVENTS → (c.logged s m x).get k = c.get k := fun k hk h1 h2 h3 h4 h5 => by
    rw [logged, get_put_ne _ _ h1, get_put_ne _ _ (fc_ne_logKey (by omega) _), get_withFc, countEvent_get _ _ _ _ h2 h3 h4,
      counted_get _ _ _ _ (by simp; omega) (by simp; omega) (by simp; omega) h5]
  have hth : (c.logged s m x).errThreshold = c.errThreshold := by
    have hmode := hget Obj.Fc.MODE (by decide) (by decide) (by decide) (by decide) (by decide) (by decide)
    have hsev := hget Obj.Fc.ERR_SEV (by decide) (by decide) (by decide) (by decide) (by decide) (by decide)
    have hclass := hget Obj.Fc.ERR_CLASS (by decide) (by decide) (by decide) (by decide) (by decide) (by decide)
    have hfallback : (c.logged s m x).fc.fallback = c.fc.fallback := by rw [logged, fc_put, fc_put, fc_withFc, fc_countEvent]
    unfold errThreshold programmed isSet
    rw [hmode, hsev, hclass, hfallback]
  rw [event_eq_act x hloud h, get_pins_ne _ (by decide), act_firstError]
  refine capture_first m (hth ▸ hsev) ?_
  rw [hget _ (by decide) (by decide) (by decide) (by decide) (by decide) (by decide), h0]

end

/-- The request that an event's reaction makes leaves the collector. -/
theorem event_asks {q : Req} (h : 1 ≤ c.actionOf s m)
    (hq : q ∈ ((((c.logged s m x).capture (c.recordOf s m x) (c.eventSev s) m).act s (c.actionOf s m) (c.recordOf s m x)).req)) :
    q ∈ (c.event s m x).req := by
  rw [event_eq_act x hloud h, req_pins]
  exact hq

theorem event_notify (h : 2 ≤ c.actionOf s m) :
    Out.interrupt ∈ (c.event s m x).out ∧ Req.notify (c.fc.seq + 1) ∈ (c.event s m x).req := by
  obtain ⟨hout, hreq⟩ := reacted_notify ((c.logged s m x).capture (c.recordOf s m x) (c.eventSev s) m) s h
  rw [fc_capture, logged_seq] at hreq
  refine ⟨?_, event_asks x hloud (by omega) (mem_req_act _ _ _ _ hreq)⟩
  rw [event_eq_act x hloud (by omega)]
  exact mem_out_pins (mem_out_act _ _ _ _ hout)

theorem event_offline (h : 3 ≤ c.actionOf s m) :
    ((sourceInfo s).reaction = 4 → Req.scOffline (sourceIndex s) s ∈ (c.event s m x).req) ∧
    ((sourceInfo s).reaction = 5 → Req.halfOffline (sourceIndex s) s ∈ (c.event s m x).req) :=
  ⟨fun hr => event_asks x hloud (by omega) (mem_req_act _ _ _ _ (reacted_scOffline _ s h hr)),
    fun hr => event_asks x hloud (by omega) (mem_req_act _ _ _ _ (reacted_halfOffline _ s h hr))⟩

theorem event_safe (h : c.actionOf s m = 4) : Req.safe ∈ (c.event s m x).req := by
  refine event_asks x hloud (by omega) ?_
  rw [h]
  exact act_safe _ _ _

theorem event_lockout (h : c.actionOf s m = 5) : Req.lockout ∈ (c.event s m x).req ∧
    (c.event s m x).get Obj.Fc.LOCKOUT_SOURCE = s ∧ (c.event s m x).get Obj.Fc.LAST_LOCKOUT = c.recordOf s m x := by
  obtain ⟨hreq, hsrc, hlast⟩ := act_lockout ((c.logged s m x).capture (c.recordOf s m x) (c.eventSev s) m) s (c.recordOf s m x)
  refine ⟨event_asks x hloud (by omega) (h ▸ hreq), ?_, ?_⟩
  · rw [event_eq_act x hloud (by omega), get_pins_ne _ (by decide), h, hsrc]
  · rw [event_eq_act x hloud (by omega), get_pins_ne _ (by decide), h, hlast]

end

/-! ## The pair -/

section
variable (c : Core) (s v : Nat)

theorem setPair_get {k : Nat} (h : k ≠ Obj.Source.STATUS s) : (c.setPair s v).get k = c.get k := by
  rw [setPair, putBit, get_put_ne _ _ h, get_withFc]

theorem setPair_status : (c.setPair s v).get (Obj.Source.STATUS s) = setBitTo 4 (v ≠ 0) (c.get (Obj.Source.STATUS s)) := by
  rw [setPair, putBit, get_put_self, get_withFc]

theorem setPair_active : (c.setPair s v).bitOf (Obj.Source.STATUS s) 4 = decide (v ≠ 0) := by
  rw [bitOf, setPair_status, testBit_setBitTo_self]

theorem setPair_bitOf {i : Nat} (h : i ≠ 4) : (c.setPair s v).bitOf (Obj.Source.STATUS s) i = c.bitOf (Obj.Source.STATUS s) i := by
  rw [bitOf, setPair_status, testBit_setBitTo_ne _ _ h, bitOf]

theorem setPair_pairOf : (c.setPair s v).pairOf s = v := by
  rw [setPair, putBit, pairOf, fc_put, fc_withFc]
  exact Tbl.get_set_self _ _ _ _

theorem setPair_req : (c.setPair s v).req = c.req := by simp [setPair, putBit]
theorem setPair_out : (c.setPair s v).out = c.out := by simp [setPair, putBit]
theorem setPair_seq : (c.setPair s v).fc.seq = c.fc.seq := by simp [setPair, putBit]

end

end Core

end Sys2Proof.Machine
end

section
/-! PROOFS. Fault events as their blocks report them (12_fault_collection.md R303, R316, R322), with what a source's condition does
beside its event. -/

namespace Sys2Proof.Machine

namespace Core

/-! ## What a condition does beside its event (R94, R140, R304) -/

/-- `d` differs from `c` in engines, and in these two objects of Millstone, at most. -/
def SideOnly (c d : Core) : Prop :=
  d.fc = c.fc ∧ d.hubTime = c.hubTime ∧ d.req = c.req ∧
    ∀ k, k ≠ Obj.Millstone.FLAGS → k ≠ Obj.Millstone.CACHE_CORRECTED → d.get k = c.get k

theorem SideOnly.refl (c : Core) : c.SideOnly c := ⟨rfl, rfl, rfl, fun _ _ _ => rfl⟩

theorem sideOnly_elasticUe (c : Core) (st : Nat) : c.SideOnly (c.elasticUe st) := by
  unfold elasticUe
  dsimp only
  split
  · exact SideOnly.refl c
  · exact ⟨rfl, rfl, rfl, fun _ _ _ => rfl⟩

theorem cacheUe_facts (c : Core) (n : Nat) :
    c.SideOnly (c.cacheUe n) ∧ (c.cacheUe n).bitOf Obj.Millstone.FLAGS 1 = true := by
  have hflag : c.SideOnly (c.flag Obj.Millstone.FLAGS 1) := ⟨rfl, rfl, rfl, fun k h _ => get_flag_ne c 1 h⟩
  have hset := bitOf_flag_self c Obj.Millstone.FLAGS 1
  unfold cacheUe
  dsimp only
  split
  · exact ⟨hflag, hset⟩
  · exact ⟨hflag, hset⟩

theorem sideOnly_millpondCe (c : Core) : c.SideOnly c.millpondCe := by
  unfold millpondCe
  dsimp only
  split
  · exact ⟨rfl, rfl, rfl, fun k _ h => get_inc_ne (c.draw 2).2 h⟩
  · exact ⟨rfl, rfl, rfl, fun _ _ _ => rfl⟩

theorem sideOnly_faultSide (c : Core) (s : Nat) (x : FaultCtx) : c.SideOnly (c.faultSide s x) := by
  unfold faultSide
  split_ifs
  · exact sideOnly_elasticUe c _
  · exact (cacheUe_facts c _).1
  · exact sideOnly_millpondCe c
  · exact SideOnly.refl c

theorem faultSide_cacheUe (c : Core) {s : Nat} (x : FaultCtx) (h : s = Src.msCacheUe) :
    (c.faultSide s x).bitOf Obj.Millstone.FLAGS 1 = true := by
  rw [faultSide, if_neg (by rw [h]; decide), if_pos h]
  exact (cacheUe_facts c _).2

theorem faultSide_of_other (c : Core) {s : Nat} (x : FaultCtx) (h1 : s ≠ Src.mpUeElastic) (h2 : s ≠ Src.msCacheUe)
    (h3 : s ≠ Src.mpCe) : c.faultSide s x = c := by
  rw [faultSide, if_neg h1, if_neg h2, if_neg h3]

section
variable {c d : Core} (h : c.SideOnly d)
include h

theorem SideOnly.getOf {k : Nat} (hk : 0x480000 ≤ k) : d.get k = c.get k := h.2.2.2 k (by simp; omega) (by simp; omega)

theorem SideOnly.rules : c.SameRules d :=
  ⟨by rw [h.1], by rw [h.1], h.2.1, fun k hk => by
    simp only [List.mem_cons, List.not_mem_nil, or_false] at hk
    rcases hk with rfl | rfl | rfl | rfl | rfl | rfl <;> exact h.2.2.2 _ (by decide) (by decide),
    fun s => h.getOf (by simp; omega)⟩

theorem SideOnly.quiet (s a : Nat) : d.quiet s a = c.quiet s a := by rw [Core.quiet, h.1, Core.quiet]

end

/-! ## The four ends of a report (R303, R316, R322) -/

section
variable {c : Core} {s : Nat} (x : FaultCtx) (hs : (sourceInfo? s).isSome = true)
include hs

theorem raiseStanding_of_idle (hrun : c.fc.running = true) (hinj : c.injected s = false) (hpair : c.pairOf s = 0) :
    c.raiseStanding s x = (c.event s Marks.none x).setPair s 1 := by
  have hnone : (sourceInfo? s).isNone = false := by simpa using hs
  simp [raiseStanding, raise, hnone, hrun, hinj, hpair]

theorem raiseStanding_of_fault (hrun : c.fc.running = true) (hinj : c.injected s = false) (hpair : c.pairOf s ≠ 0) :
    c.raiseStanding s x = c := by
  have hnone : (sourceInfo? s).isNone = false := by simpa using hs
  simp [raiseStanding, raise, hnone, hrun, hinj, hpair]

theorem raiseStanding_of_held (hrun : c.fc.running = false) (hinj : c.injected s = false) :
    c.raiseStanding s x = c.withFc { c.fc with held := c.fc.held ++ [(s, x)], pairs := Tbl.setNum c.fc.pairs s 1 } := by
  have hnone : (sourceInfo? s).isNone = false := by simpa using hs
  simp [raiseStanding, raise, hnone, hrun, hinj, withFc]

theorem raiseStanding_of_injected (hrun : c.fc.running = true) (hinj : c.injected s = true) (hunder : c.fc.injecting.num s = 0)
    (hlatched : ∀ e ∈ c.fc.latched, e.1 ≠ s) :
    c.raiseStanding s x = (c.withFc { c.fc with latched := c.fc.latched ++ [(s, x)] }).setUnder s 1 := by
  have hnone : (sourceInfo? s).isNone = false := by simpa using hs
  have hany : (c.fc.latched.any fun e => e.1 == s) = false := by simpa using hlatched
  rw [raiseStanding, raise, hnone, hrun, hinj, hunder, hany]
  rfl

end

/-- Under an injection the pair that the condition asks for is read back. -/
theorem num_map_of_any {l : Tbl Nat} {s v : Nat} (h : (l.any fun e => e.1 == s) = true) :
    Tbl.num (l.map fun e => if e.1 = s then (s, v) else e) s = v := by
  induction l with
  | nil => simp at h
  | cons e t ih =>
    by_cases he : e.1 = s
    · simp [Tbl.num, Tbl.get, he]
    · have ht : (t.any fun e => e.1 == s) = true := by simpa [he] using h
      rw [List.map_cons, if_neg he, Tbl.num, Tbl.get, if_neg (Ne.symm he)]
      exact ih ht

end Core

end Sys2Proof.Machine
end

section
/-! PROOFS. The commands with which blocks report and end conditions (12_fault_collection.md R303). -/

namespace Sys2Proof.Machine

namespace Core

variable {c : Core} {s : Nat}

theorem faultEvent_of_reports (x : FaultCtx) (h : c.reports s = true) : c.faultEvent s x = (c.faultSide s x).raiseStanding s x := by
  rw [faultEvent, if_pos h]

/-- What one event of an idle source that no window withholds leaves (R303, R308, R310, R314, R323 to R328): `d` after `c`. -/
def Faulted (c : Core) (s : Nat) (x : FaultCtx) (d : Core) : Prop :=
  let a := c.actionOf s Marks.none
  let r := c.recordOf s Marks.none x
  (d.get Obj.Fc.EVENTS = min (c.get Obj.Fc.EVENTS + 1) (2 ^ 64 - 1) ∧
    d.get (Obj.Source.COUNT s) = min (c.get (Obj.Source.COUNT s) + 1) (2 ^ 32 - 1) ∧
    d.get (Obj.Source.LAST_TIME s) = c.hubTime ∧
    d.bitOf (Obj.Source.STATUS s) 0 = true ∧ d.bitOf (Obj.Source.STATUS s) 4 = true ∧ d.pairOf s = 1) ∧
  (a = 0 → d.fc.seq = c.fc.seq) ∧
  (1 ≤ a → d.fc.seq = c.fc.seq + 1 ∧ d.get Obj.Fc.LOG_HEAD = c.fc.seq + 1 ∧ d.get (logKey (c.fc.seq + 1)) = r ∧
    (c.errThreshold ≤ c.eventSev s → c.get Obj.Fc.FIRST_ERROR = 0 → d.get Obj.Fc.FIRST_ERROR = r)) ∧
  (2 ≤ a → Out.interrupt ∈ d.out ∧ Req.notify (c.fc.seq + 1) ∈ d.req) ∧
  (3 ≤ a → (sourceInfo s).reaction = 4 → Req.scOffline (sourceIndex s) s ∈ d.req) ∧
  (3 ≤ a → (sourceInfo s).reaction = 5 → Req.halfOffline (sourceIndex s) s ∈ d.req) ∧
  (a = 4 → Req.safe ∈ d.req) ∧
  (a = 5 → Req.lockout ∈ d.req ∧ d.get Obj.Fc.LOCKOUT_SOURCE = s ∧ d.get Obj.Fc.LAST_LOCKOUT = r)

theorem faulted_event (x : FaultCtx) (hloud : c.quiet s (c.actionOf s Marks.none) = false) :
    c.Faulted s x ((c.event s Marks.none x).setPair s 1) := by
  have hfc : ∀ {k}, k < 0x490000 → ((c.event s Marks.none x).setPair s 1).get k = (c.event s Marks.none x).get k := fun {k} hk =>
    setPair_get _ _ _ (by simp; omega)
  have hpending : (c.event s Marks.none x).bitOf (Obj.Source.STATUS s) 0 = true := by
    rw [bitOf, event_status x hloud]
    exact (eventStatus_bits _ _ _).1
  unfold Faulted
  rw [hfc (by decide : Obj.Fc.EVENTS < 0x490000), setPair_get _ _ _ (by simp : Obj.Source.COUNT s ≠ _),
    setPair_get _ _ _ (by simp : Obj.Source.LAST_TIME s ≠ _), setPair_bitOf _ _ _ (by decide), setPair_active, setPair_pairOf,
    setPair_seq, hfc (by decide : Obj.Fc.LOG_HEAD < 0x490000), hfc (Nat.lt_trans (logKey_bounds _).2 (by decide)),
    hfc (by decide : Obj.Fc.FIRST_ERROR < 0x490000), setPair_out, setPair_req, hfc (by decide : Obj.Fc.LOCKOUT_SOURCE < 0x490000),
    hfc (by decide : Obj.Fc.LAST_LOCKOUT < 0x490000)]
  exact ⟨⟨event_events x hloud, loud_count x hloud, event_time x hloud, hpending, rfl, rfl⟩, event_seq_of_counted x hloud,
    fun h => ⟨event_seq x hloud h, event_head x hloud h, event_record x hloud h, event_first x hloud h⟩, event_notify x hloud,
    fun h => (event_offline x hloud h).1, fun h => (event_offline x hloud h).2, event_safe x hloud, event_lockout x hloud⟩

/-- The condition's own effects do not show in its event. -/
theorem SideOnly.faulted {d e : Core} (h : c.SideOnly d) {x : FaultCtx} (hd : d.Faulted s x e) : c.Faulted s x e := by
  unfold Faulted at hd ⊢
  rw [h.rules.actionOf, h.rules.recordOf, h.1, h.2.1, h.rules.errThreshold, h.rules.eventSev, h.getOf (by decide : 0x480000 ≤ Obj.Fc.EVENTS),
    h.getOf (by simp; omega : 0x480000 ≤ Obj.Source.COUNT s), h.getOf (by decide : 0x480000 ≤ Obj.Fc.FIRST_ERROR)] at hd
  exact hd

/-- A block reports a condition of an idle source that nothing masks (R303). -/
theorem faulted_faultEvent (x : FaultCtx) (hrep : c.reports s = true) (hs : (sourceInfo? s).isSome = true)
    (hrun : c.fc.running = true) (hinj : c.injected s = false) (hpair : c.pairOf s = 0)
    (hloud : c.quiet s (c.actionOf s Marks.none) = false) :
    c.Faulted s x (c.faultEvent s x) ∧ (s = Src.msCacheUe → (c.faultEvent s x).bitOf Obj.Millstone.FLAGS 1 = true) := by
  have hside := sideOnly_faultSide c s x
  have hloud' : (c.faultSide s x).quiet s ((c.faultSide s x).actionOf s Marks.none) = false := by
    rw [hside.rules.actionOf, hside.quiet, hloud]
  rw [faultEvent_of_reports x hrep, raiseStanding_of_idle x hs (by rw [hside.1, hrun])
    (by rw [injected, hside.1]; exact hinj) (by rw [pairOf, hside.1]; exact hpair)]
  refine ⟨hside.faulted (faulted_event x hloud'), fun hc => ?_⟩
  rw [bitOf_congr 1 (setPair_get _ _ _ (by simp; omega)),
    bitOf_congr 1 (event_get x hloud' (by decide) (by decide) (fc_ne_logKey (by decide) _)),
    bitOf_congr 1 ((countEvent_get _ _ _ _ (by decide) (by decide) (by decide)).trans
      (counted_get _ _ _ _ (by simp; omega) (by simp; omega) (by simp; omega) (by decide)))]
  exact faultSide_cacheUe c x hc

theorem event_of_quiet {m : Marks} (x : FaultCtx) (h : c.quiet s (c.actionOf s m) = true) :
    c.event s m x = ((c.inc (Obj.Source.SUPPRESSED s)).inc64 Obj.Fc.SUPPRESSED).withFc
      { c.fc with windows := suppressIn s x c.fc.windows } := by
  rw [event, if_pos h, inc64, inc]
  rfl

/-- What a masked condition leaves (R316). -/
theorem quiet_facts (x : FaultCtx) (h : c.quiet s (c.actionOf s Marks.none) = true) :
    let d := (c.event s Marks.none x).setPair s 1
    d.req = c.req ∧ d.fc.seq = c.fc.seq ∧ d.pairOf s = 1 ∧ d.bitOf (Obj.Source.STATUS s) 4 = true ∧
    d.get (Obj.Source.SUPPRESSED s) = min (c.get (Obj.Source.SUPPRESSED s) + 1) (2 ^ 32 - 1) ∧
    d.get Obj.Fc.SUPPRESSED = min (c.get Obj.Fc.SUPPRESSED + 1) (2 ^ 64 - 1) ∧
    ∀ k, k ≠ Obj.Source.STATUS s → k ≠ Obj.Source.SUPPRESSED s → k ≠ Obj.Fc.SUPPRESSED → d.get k = c.get k := by
  dsimp only
  refine ⟨?_, ?_, setPair_pairOf _ _ _, setPair_active _ _ _, ?_, ?_, fun k h1 h2 h3 => ?_⟩
  · rw [setPair_req, event_of_quiet x h]
    rfl
  · rw [setPair_seq, event_of_quiet x h]
    rfl
  · rw [setPair_get _ _ _ (by simp), event_of_quiet x h, get_withFc, inc64, get_add_ne _ _ _ (by simp; omega), get_inc_self, sat_eq_min]
  · rw [setPair_get _ _ _ (by simp; omega), event_of_quiet x h, get_withFc, inc64, get_add_self, get_inc_ne _ (by simp; omega), sat_eq_min]
  · rw [setPair_get _ _ _ h1, event_of_quiet x h, get_withFc, inc64, get_add_ne _ _ _ h3, get_inc_ne _ h2]

theorem wireFault_of_loud (h : c.reports s = true) (hs : (sourceInfo? s).isSome = true) (hrun : c.fc.running = true)
    (hinj : c.injected s = false) (hpair : c.pairOf s ≠ 2) :
    c.wireFault s = (c.event s { Marks.none with wire := true } (ctxNone 0 0)).setPair s 2 := by
  have hnone : (sourceInfo? s).isNone = false := by simpa using hs
  simp [wireFault, h, hnone, hrun, hinj, hpair]

theorem wire_facts (hloud : c.quiet s (c.actionOf s { Marks.none with wire := true }) = false) :
    let d := (c.event s { Marks.none with wire := true } (ctxNone 0 0)).setPair s 2
    d.pairOf s = 2 ∧ d.bitOf (Obj.Source.STATUS s) 0 = true ∧ d.bitOf (Obj.Source.STATUS s) 3 = true ∧
    d.bitOf (Obj.Source.STATUS s) 4 = true ∧ d.bitOf Obj.Fc.FLAGS 4 = true ∧
    d.get (Obj.Source.COUNT s) = min (c.get (Obj.Source.COUNT s) + 1) (2 ^ 32 - 1) ∧
    d.get Obj.Fc.WIRE_FAULTS = min (c.get Obj.Fc.WIRE_FAULTS + 1) (2 ^ 32 - 1) := by
  obtain ⟨hpending, -, -, hwire⟩ := eventStatus_bits (c.get (Obj.Source.STATUS s)) (c.eventSev s) { Marks.none with wire := true }
  dsimp only
  refine ⟨setPair_pairOf _ _ _, ?_, ?_, setPair_active _ _ _, ?_, ?_, ?_⟩
  · rw [setPair_bitOf _ _ _ (by decide), bitOf, event_status _ hloud, hpending]
  · rw [setPair_bitOf _ _ _ (by decide), bitOf, event_status _ hloud, hwire rfl]
  · rw [bitOf_congr _ (setPair_get _ _ _ (by simp; omega))]
    exact event_flag _ hloud ((countEvent_flags _ _ _ _).1 rfl)
  · rw [setPair_get _ _ _ (by simp), loud_count _ hloud]
  · rw [setPair_get _ _ _ (by simp; omega), event_wires _ hloud rfl]

theorem endStanding_of_pair (hinj : c.injected s = false) (hpair : c.pairOf s ≠ 0) : c.endStanding s = c.setPair s 0 := by
  simp [endStanding, hinj, hpair]

end Core

theorem exec_faultEvent (src : SourceNo) (x : FaultCtx) (s : State) :
    exec (.faultEvent src x) s = .next (s.onCore fun c => c.faultEvent src.val x) := rfl

theorem exec_wireFault (src : SourceNo) (s : State) : exec (.wireFault src) s = .next (s.onCore fun c => c.wireFault src.val) := rfl

theorem exec_sourceIdle (src : SourceNo) (s : State) : exec (.sourceIdle src) s = .next (s.onCore fun c => c.endStanding src.val) := rfl

/-- Settles O43: the seven ends of a report, by the state of the collector and of the source's pair. -/
theorem faultEvents : Obligations.FaultEvents := by
  unfold Obligations.FaultEvents
  refine ⟨?_, ?_, ?_, ?_, ?_, ?_, ?_⟩
  · intro s src x a r hrep hs hrun hinj hpair ha hloud hr
    subst ha hr
    refine answersThen_onCore _ (exec_faultEvent src x s) ?_
    obtain ⟨⟨⟨h1, h2, h3, h4, h5, h6⟩, hrest⟩, hcache⟩ :=
      Core.faulted_faultEvent (c := s.clear.core) x hrep hs hrun hinj hpair hloud
    exact ⟨h1, h2, h3, h4, h5, h6, hcache, hrest⟩
  · intro s src x hrep hs hrun hinj hpair hquiet
    have hside := Core.sideOnly_faultSide s.clear.core src.val x
    have hquiet' : (s.clear.core.faultSide src.val x).quiet src.val
        ((s.clear.core.faultSide src.val x).actionOf src.val Marks.none) = true := by
      rw [hside.rules.actionOf, hside.quiet]
      exact hquiet
    have heq : s.clear.core.faultEvent src.val x =
        ((s.clear.core.faultSide src.val x).event src.val Marks.none x).setPair src.val 1 :=
      (Core.faultEvent_of_reports (c := s.clear.core) x hrep).trans (Core.raiseStanding_of_idle x hs (by rw [hside.1]; exact hrun)
        (by rw [Core.injected, hside.1]; exact hinj) (by rw [Core.pairOf, hside.1]; exact hpair))
    obtain ⟨hreq, hseq, hp, hactive, hown, hall, hget⟩ := Core.quiet_facts x hquiet'
    rw [hside.getOf (by simp; omega)] at hown
    rw [hside.getOf (by decide)] at hall
    refine answersCore_onCore _ (exec_faultEvent src x s) (by rw [heq, hreq, hside.2.2.1]; rfl) ?_
    rw [heq]
    exact ⟨hseq.trans (by rw [hside.1]; rfl), hp, hactive, hown, hall, fun k h1 h2 h3 h4 h5 =>
      (hget k h1 h2 h3).trans (hside.2.2.2 k h4 h5)⟩
  · intro s src x hrep hs hrun hinj hpair h1 h2 h3
    refine exec_of_onCore_unchanged _ ?_ (exec_faultEvent src x s)
    rw [Core.faultEvent_of_reports (c := s.clear.core) x hrep, Core.faultSide_of_other _ x h1 h2 h3]
    exact Core.raiseStanding_of_fault x hs hrun hinj hpair
  · intro s src x hrep hs hrun hinj
    have hside := Core.sideOnly_faultSide s.clear.core src.val x
    have heq := (Core.faultEvent_of_reports (c := s.clear.core) x hrep).trans
      (Core.raiseStanding_of_held x hs (by rw [hside.1]; exact hrun) (by rw [Core.injected, hside.1]; exact hinj))
    refine answersCore_onCore _ (exec_faultEvent src x s) (by rw [heq]; exact hside.2.2.1) ?_
    rw [heq, hside.1]
    exact ⟨rfl, Tbl.get_set_self (fun _ => 0) s.clear.core.fc.pairs src.val 1, rfl, fun k h1 h2 => hside.2.2.2 k h1 h2⟩
  · intro s src x hrep hs hrun hinj hunder hlatched
    have hside := Core.sideOnly_faultSide s.clear.core src.val x
    have heq := (Core.faultEvent_of_reports (c := s.clear.core) x hrep).trans
      (Core.raiseStanding_of_injected x hs (by rw [hside.1]; exact hrun) (by rw [Core.injected, hside.1]; exact hinj)
        (by rw [hside.1]; exact hunder) (by rw [hside.1]; exact hlatched))
    refine answersCore_onCore _ (exec_faultEvent src x s) (by rw [heq]; exact hside.2.2.1) ?_
    rw [heq, hside.1]
    exact ⟨rfl, Core.num_map_of_any hinj, rfl, fun k h1 h2 => hside.2.2.2 k h1 h2⟩
  · intro s src hrep hs hrun hinj hpair hloud
    refine answersThen_onCore _ (exec_wireFault src s) ?_
    rw [Core.wireFault_of_loud (c := s.clear.core) hrep hs hrun hinj hpair]
    exact Core.wire_facts (c := s.clear.core) hloud
  · intro s src hinj hpair
    have heq := Core.endStanding_of_pair (c := s.clear.core) hinj hpair
    refine answersCore_onCore _ (exec_sourceIdle src s) (by rw [heq]; rfl) ?_
    rw [heq]
    exact ⟨Core.setPair_pairOf _ _ _, Core.setPair_active _ _ _, fun i hi => Core.setPair_bitOf _ _ _ hi,
      fun k hk => Core.setPair_get _ _ _ hk⟩

end Sys2Proof.Machine
end

section
/-! PROOFS. Injections, quiet windows and the collector's checks of itself (12_fault_collection.md R316, R317, R320 to R322, R329). -/

namespace Sys2Proof.Machine

namespace Core

variable {c : Core} {s : Nat}

/-! ## Injection (R321, R322) -/

theorem reacted_req_of_low {a : Nat} (h : a ≤ 2) {q : Req} (hq : q ∈ (c.reacted s a).req) : q ∈ c.req ∨ ∃ n, q = .notify n := by
  unfold reacted at hq
  dsimp only at hq
  rw [if_neg (by omega)] at hq
  split_ifs at hq
  · rw [req_ask, req_emit, List.mem_append, List.mem_singleton] at hq
    exact hq.imp_right fun h => ⟨_, h⟩
  · exact .inl hq

/-- An action below REACT asks for no more than the notification. -/
theorem event_req_of_low {m : Marks} (x : FaultCtx) (hloud : c.quiet s (c.actionOf s m) = false) (h : c.actionOf s m ≤ 2) {q : Req}
    (hq : q ∈ (c.event s m x).req) : q ∈ c.req ∨ ∃ n, q = .notify n := by
  have hcount : (c.countEvent s (c.eventSev s) m).req = c.req := by
    unfold countEvent
    dsimp only
    split_ifs <;> simp [inc, inc64, add, flag]
  have hcapture : ∀ (d : Core) (r sev : Nat), (d.capture r sev m).req = d.req := fun d r sev => by
    unfold capture
    dsimp only
    split_ifs <;> simp [inc, add, flag]
  rw [event_of_loud x hloud, req_pins] at hq
  split at hq
  · rw [act_eq, if_neg (by omega), if_neg (by omega)] at hq
    refine (reacted_req_of_low h hq).imp_left fun hq => ?_
    rwa [hcapture, logged, req_put, req_put, req_withFc, hcount] at hq
  · exact .inl (hcount ▸ hq)

/-- The pair of the source is driven from now on. -/
def driven (c : Core) (s : Nat) : Core := c.withFc { c.fc with injecting := c.fc.injecting ++ [(s, c.pairOf s)] }

theorem inject_of_idle (hen : c.isSet Obj.Fc.INJ_ENABLE = true) (hinj : c.injected s = false) (hpair : c.pairOf s = 0)
    (hrun : c.fc.running = true) :
    c.inject s = (.ok, ((c.driven s).event s { Marks.none with injected := true } (ctxNone 0 0)).setPair s 1) := by
  simp [inject, hen, hinj, hpair, hrun, driven]

theorem inject_refused (h : c.isSet Obj.Fc.INJ_ENABLE = false ∨ c.injected s = true) : c.inject s = (.retry, c) := by
  rcases h with h | h <;> simp [inject, h]

theorem injected_setPair (c : Core) (s v t : Nat) : (c.setPair s v).injected t = c.injected t := by simp [setPair, putBit, injected]

theorem injected_event (c : Core) (s t : Nat) (m : Marks) (x : FaultCtx) : (c.event s m x).injected t = c.injected t := by
  obtain ⟨-, h, -⟩ := sameDetectors_event c s m x
  rw [injected, h, injected]

theorem inject_facts (hloud : c.quiet s (c.actionOf s { Marks.none with injected := true }) = false) (hreq : c.req = []) :
    let d := ((c.driven s).event s { Marks.none with injected := true } (ctxNone 0 0)).setPair s 1
    d.injected s = true ∧ d.pairOf s = 1 ∧ d.bitOf (Obj.Source.STATUS s) 1 = true ∧
    d.get Obj.Fc.INJECTIONS = min (c.get Obj.Fc.INJECTIONS + 1) (2 ^ 32 - 1) ∧
    (c.get Obj.Fc.INJ_REACT = 0 → Req.safe ∉ d.req ∧ Req.lockout ∉ d.req) := by
  have hloud' : (c.driven s).quiet s ((c.driven s).actionOf s { Marks.none with injected := true }) = false := hloud
  dsimp only
  refine ⟨?_, setPair_pairOf _ _ _, ?_, ?_, fun h => ?_⟩
  · rw [injected_setPair, injected_event]
    simp [driven, injected]
  · rw [setPair_bitOf _ _ _ (by decide), bitOf, event_status _ hloud', (eventStatus_bits _ _ _).2.1 rfl]
  · rw [setPair_get _ _ _ (by simp; omega), event_injections _ hloud' rfl]
    rfl
  · have hlow : (c.driven s).actionOf s { Marks.none with injected := true } ≤ 2 := by
      have hreact : (c.driven s).get Obj.Fc.INJ_REACT = 0 := h
      unfold actionOf
      dsimp only
      rw [hreact, if_pos (by simp)]
      exact Nat.min_le_right _ _
    have hnone : ∀ q, q ∈ ((c.driven s).event s { Marks.none with injected := true } (ctxNone 0 0)).req → ∃ n, q = Req.notify n :=
      fun q hq => (event_req_of_low _ hloud' hlow hq).resolve_left (by rw [driven, req_withFc, hreq]; simp)
    rw [setPair_req]
    refine ⟨fun hq => ?_, fun hq => ?_⟩
    · obtain ⟨n, hn⟩ := hnone _ hq
      cases hn
    · obtain ⟨n, hn⟩ := hnone _ hq
      cases hn

/-- The pair follows its detector again. -/
def released (c : Core) (s : Nat) : Core :=
  c.withFc { c.fc with
    injecting := c.fc.injecting.filter fun e => e.1 != s, latched := c.fc.latched.filter fun e => e.1 != s }

theorem injected_released (c : Core) (s : Nat) : (c.released s).injected s = false := by
  simp [released, injected]

/-- The real condition that an injection hid is presented (R322). -/
def presented (c : Core) (s : Nat) (wire : Bool) (x : FaultCtx) : Core :=
  (c.event s { Marks.none with real := true, wire := wire } x).adoptWindows s c.fc.seq

theorem injectionEnd_eq (h : c.injected s = true) : c.injectionEnd s =
    ((c.fc.latched.filter fun e => e.1 == s).foldl
      (fun d e => d.presented s (c.fc.injecting.num s == 2) e.2) (c.released s)).setPair s (c.fc.injecting.num s) := by
  rw [injectionEnd, h]
  rfl

theorem adoptWindows_get (c : Core) (s n k : Nat) : (c.adoptWindows s n).get k = c.get k := by
  unfold adoptWindows
  dsimp only
  split <;> rfl

theorem adoptWindows_injected (c : Core) (s n t : Nat) : (c.adoptWindows s n).injected t = c.injected t := by
  unfold adoptWindows
  dsimp only
  split <;> rfl

theorem presented_facts {wire : Bool} {x : FaultCtx} {v : Nat} (hloud : c.quiet s (c.actionOf s Marks.none) = false) :
    let d := ((c.released s).presented s wire x).setPair s v
    d.injected s = false ∧ d.pairOf s = v ∧ d.bitOf (Obj.Source.STATUS s) 2 = true ∧ d.bitOf Obj.Fc.FLAGS 3 = true ∧
    d.get (Obj.Source.COUNT s) = min (c.get (Obj.Source.COUNT s) + 1) (2 ^ 32 - 1) := by
  have hloud' : (c.released s).quiet s
      ((c.released s).actionOf s { Marks.none with real := true, wire := wire }) = false := hloud
  dsimp only
  refine ⟨?_, setPair_pairOf _ _ _, ?_, ?_, ?_⟩
  · rw [injected_setPair, presented, adoptWindows_injected, injected_event, injected_released]
  · rw [setPair_bitOf _ _ _ (by decide), bitOf, presented, adoptWindows_get, event_status _ hloud', (eventStatus_bits _ _ _).2.2.1 rfl]
  · rw [bitOf_congr _ (setPair_get _ _ _ (by simp; omega)), presented, bitOf_congr _ (adoptWindows_get _ _ _ _)]
    exact event_flag _ hloud' ((countEvent_flags _ _ _ _).2 rfl)
  · rw [setPair_get _ _ _ (by simp), presented, adoptWindows_get, loud_count _ hloud']
    rfl

/-! ## Quiet windows (R316, R317) -/

/-- The record at `k` takes the count of the window that its event opened. -/
def noteSuppressed (q : QuietWindow) (c : Core) (k : Nat) : Core :=
  if q.opener ≠ 0 && field 255 224 (c.get k) = q.opener % 2 ^ 32
  then c.put k (setField 143 128 (c.get k) (sat 16 q.suppressed)) else c

/-- The window is gone, and its count is noted. -/
def closed (c : Core) (id : Nat) (q : QuietWindow) : Core :=
  noteSuppressed q (noteSuppressed q (c.withFc { c.fc with windows := c.fc.windows.filter fun v => v.id != id }) (logKey q.opener))
    Obj.Fc.FIRST_ERROR

theorem closeWindow_eq {id : Nat} {q : QuietWindow} (h : (c.fc.windows.find? fun w => w.id == id) = some q) :
    c.closeWindow id = q.masked.foldl
      (fun c e => if c.pairOf e.1 ≠ 0 then c.event e.1 { Marks.none with late := true } e.2 else c) (c.closed id q) := by
  rw [closeWindow, h]
  rfl

theorem noteSuppressed_get_ne (q : QuietWindow) (c : Core) {k o : Nat} (h : o ≠ k) : (noteSuppressed q c k).get o = c.get o := by
  unfold noteSuppressed
  split
  · rw [get_put_ne _ _ h]
  · rfl

theorem noteSuppressed_get {q : QuietWindow} {k : Nat} (hq : q.opener ≠ 0) (h : field 255 224 (c.get k) = q.opener % 2 ^ 32) :
    (noteSuppressed q c k).get k = setField 143 128 (c.get k) (min q.suppressed (2 ^ 16 - 1)) := by
  rw [noteSuppressed, if_pos (by simp [hq, h]), get_put_self, sat_eq_min]

theorem noteSuppressed_fc (q : QuietWindow) (c : Core) (k : Nat) : (noteSuppressed q c k).fc = c.fc := by
  unfold noteSuppressed
  split
  · rw [fc_put]
  · rfl

theorem noteSuppressed_req (q : QuietWindow) (c : Core) (k : Nat) : (noteSuppressed q c k).req = c.req := by
  unfold noteSuppressed
  split
  · rw [req_put]
  · rfl

theorem noteSuppressed_hubTime (q : QuietWindow) (c : Core) (k : Nat) : (noteSuppressed q c k).hubTime = c.hubTime := by
  unfold noteSuppressed
  split
  · rw [hubTime_put]
  · rfl

section
variable (c : Core) (id : Nat) (q : QuietWindow)

theorem closed_fc : (c.closed id q).fc = { c.fc with windows := c.fc.windows.filter fun v => v.id != id } := by
  rw [closed, noteSuppressed_fc, noteSuppressed_fc, fc_withFc]

theorem closed_get {k : Nat} (h1 : k ≠ logKey q.opener) (h2 : k ≠ Obj.Fc.FIRST_ERROR) : (c.closed id q).get k = c.get k := by
  rw [closed, noteSuppressed_get_ne _ _ h2, noteSuppressed_get_ne _ _ h1, get_withFc]

theorem closed_record {q : QuietWindow} (hq : q.opener ≠ 0) (h : field 255 224 (c.get (logKey q.opener)) = q.opener % 2 ^ 32) :
    (c.closed id q).get (logKey q.opener) = setField 143 128 (c.get (logKey q.opener)) (min q.suppressed (2 ^ 16 - 1)) := by
  rw [closed, noteSuppressed_get_ne _ _ (Ne.symm (fc_ne_logKey (by decide) _)), noteSuppressed_get hq (by rw [get_withFc]; exact h),
    get_withFc]

theorem closed_first {q : QuietWindow} (hq : q.opener ≠ 0) (h : field 255 224 (c.get Obj.Fc.FIRST_ERROR) = q.opener % 2 ^ 32) :
    (c.closed id q).get Obj.Fc.FIRST_ERROR = setField 143 128 (c.get Obj.Fc.FIRST_ERROR) (min q.suppressed (2 ^ 16 - 1)) := by
  have hfirst : (noteSuppressed q (c.withFc { c.fc with windows := c.fc.windows.filter fun v => v.id != id })
      (logKey q.opener)).get Obj.Fc.FIRST_ERROR = c.get Obj.Fc.FIRST_ERROR := by
    rw [noteSuppressed_get_ne _ _ (fc_ne_logKey (by decide) _), get_withFc]
  rw [closed, noteSuppressed_get hq (by rw [hfirst]; exact h), hfirst]

theorem closed_rules : c.SameRules (c.closed id q) :=
  ⟨by rw [closed_fc], by rw [closed_fc], by rw [closed, noteSuppressed_hubTime, noteSuppressed_hubTime, hubTime_withFc],
    fun k hk => by
      simp only [List.mem_cons, List.not_mem_nil, or_false] at hk
      rcases hk with rfl | rfl | rfl | rfl | rfl | rfl <;>
        exact closed_get c id q (fc_ne_logKey (by decide) _) (by decide),
    fun s => closed_get c id q (source_ne_logKey (by simp; omega) _) (by simp; omega)⟩

end

/-- A window that withheld nothing that stands. -/
theorem closeWindow_of_idle {id : Nat} {q : QuietWindow} (h : (c.fc.windows.find? fun w => w.id == id) = some q)
    (hidle : ∀ e ∈ q.masked, c.pairOf e.1 = 0) : c.closeWindow id = c.closed id q := by
  have hpair : ∀ t, (c.closed id q).pairOf t = c.pairOf t := fun t => by rw [pairOf, closed_fc, pairOf]
  rw [closeWindow_eq h]
  generalize q.masked = l at hidle ⊢
  induction l with
  | nil => rfl
  | cons e l ih =>
    rw [List.foldl_cons, if_neg (by rw [hpair, hidle e (List.mem_cons_self ..)]; simp)]
    exact ih fun e he => hidle e (List.mem_cons_of_mem _ he)

theorem closeWindow_late {id : Nat} {q : QuietWindow} {x : FaultCtx} (h : (c.fc.windows.find? fun w => w.id == id) = some q)
    (hmasked : q.masked = [(s, x)]) (hpair : c.pairOf s ≠ 0) (hother : ∀ w ∈ c.fc.windows, w.id ≠ id → w.scope.contains s = false) :
    (c.closeWindow id).get (Obj.Source.COUNT s) = min (c.get (Obj.Source.COUNT s) + 1) (2 ^ 32 - 1) ∧
    (1 ≤ c.actionOf s Marks.none →
      (c.closeWindow id).get (logKey (c.fc.seq + 1)) = c.recordOf s { Marks.none with late := true } x) := by
  have hrules := closed_rules c id q
  have hloud : ∀ a, (c.closed id q).quiet s a = false := fun a => by
    have hnone : ((c.fc.windows.filter fun v => v.id != id).any fun w => w.scope.contains s) = false := by
      rw [List.any_eq_false]
      intro w hw
      obtain ⟨hmem, hid⟩ := List.mem_filter.1 hw
      rw [hother w hmem (by simpa using hid)]
      decide
    rw [quiet, closed_fc, hnone, Bool.and_false]
  have hevent : c.closeWindow id = (c.closed id q).event s { Marks.none with late := true } x := by
    rw [closeWindow_eq h, hmasked, List.foldl_cons, List.foldl_nil, if_pos]
    rw [pairOf, closed_fc]
    exact hpair
  rw [hevent]
  refine ⟨?_, fun ha => ?_⟩
  · rw [loud_count x (hloud _), closed_get _ _ _ (source_ne_logKey (by simp; omega) _) (by simp; omega)]
  · have hact : (c.closed id q).actionOf s { Marks.none with late := true } = c.actionOf s Marks.none :=
      hrules.actionOf s { Marks.none with late := true }
    have hrec := event_record x (hloud _) (by rw [hact]; exact ha)
    rwa [hrules.2.1, hrules.recordOf] at hrec

/-! ## The collector's own checks (R320, R329) -/

theorem raise_tested (x : FaultCtx) : (c.raise s x).fc.tested = c.fc.tested := by
  obtain ⟨-, -, -, -, -, -, h⟩ := sameDetectors_event c s Marks.none x
  unfold raise
  split_ifs
  · rfl
  · rfl
  · rfl
  · rfl
  · rfl
  · exact h

/-- The word that failed leaves the collector in FALLBACK. -/
def fallenBack (c : Core) : Core := ((c.withFc { c.fc with fallback := true }).flag Obj.Fc.FLAGS 5).pins

theorem configBad_eq {word : Nat} (h : c.fc.running = true) :
    c.configBad word = (c.raise Src.fcReg (ctxNumber 0 0 word)).fallenBack.ask .safe := by
  rw [configBad, h]
  rfl

theorem fallenBack_facts (c : Core) : c.fallenBack.fc.fallback = true ∧ c.fallenBack.bitOf Obj.Fc.FLAGS 5 = true := by
  obtain ⟨-, -, -, -, -, h, -⟩ := sameDetectors_pins ((c.withFc { c.fc with fallback := true }).flag Obj.Fc.FLAGS 5)
  refine ⟨?_, ?_⟩
  · rw [fallenBack, h, flag, fc_put, fc_withFc]
  · rw [fallenBack, bitOf_congr 5 (get_pins_ne _ (by decide)), bitOf_flag_self]

theorem fallenBack_count (c : Core) (t : Nat) : c.fallenBack.get (Obj.Source.COUNT t) = c.get (Obj.Source.COUNT t) := by
  rw [fallenBack, get_pins_ne _ (by simp; omega), get_flag_ne _ _ (by simp; omega), get_withFc]

end Core

/-! ## The writes of FORCE -/

theorem force_parts (src : SourceNo) : Obj.Source.FORCE src.val / 256 = 0x4900 + src.val ∧ Obj.Source.FORCE src.val % 256 = 6 := by
  simp
  omega

theorem clearableOf_force (src : SourceNo) :
    clearableOf (Obj.Source.FORCE src.val / 256) (Obj.Source.FORCE src.val % 256) = none := by
  obtain ⟨hidx, hsub⟩ := force_parts src
  rw [hidx, hsub]
  by_cases hexists : sourceObjectExists (0x4900 + src.val) = true
  · exact clearableOf_of_lookup ((lookup_source (by decide) src.isLt hexists).trans rfl) (by simp)
  · rw [clearableOf, lookup, if_neg hexists]

theorem Core.writeValue_source (c : Core) (f : Fuses) (w : World) {src : Nat} (sub : Nat) (bs : List Byte) (h : src < 768) :
    c.writeValue f w (0x4900 + src) sub bs = c.writeSource src sub (ofBytes bs) := by
  simp (disch := omega) only [writeValue, Bool.and_eq_true, decide_eq_true_eq, if_neg, if_pos]
  simp

theorem answersThen_force {s : State} {src : SourceNo} {w : World} {st : Status} {c : Core} {P : Core → Prop}
    (hadm : Admits s w (Obj.Source.FORCE src.val) 1) (hc : s.clear.core.inject src.val = (st, c)) (hp : P (c.emit (.status st))) :
    AnswersThen (.faultInject src w) s P := by
  obtain ⟨hidx, hsub⟩ := force_parts src
  refine answersThen_writeNum rfl hadm (clearableOf_force src) ?_ ?_ hp
  · rw [hidx, hsub, coreObject]
    omega
  · rw [hidx, hsub, Core.writeValue_source _ _ _ _ _ src.isLt, ofBytes_toBytes_of_fits hadm.2.1]
    exact hc

theorem exec_configScan_some (word : Nat) (s : State) :
    exec (.configScan (some word)) s = .next (s.onPower fun c => c.configBad word) := rfl

/-- Settles O44: FORCE and its refusals, the two ends of an injection, the two ends of a window, and the checks. -/
theorem collectorChecks : Obligations.CollectorChecks := by
  unfold Obligations.CollectorChecks
  refine ⟨fun s src w hadm hen hinj hpair hrun hloud => ?_, fun s src w hadm h => ?_, fun s src hup hinj hnone => ?_,
    fun s src x hup hinj hone hloud => ?_, fun s id q hup hfind hidle hq hrec => ?_,
    fun s id src q x hup hfind hmasked hpair hother => ?_, fun s hup => ?_, fun s hup => ?_, fun s word hup hrun => ?_,
    fun s src hup hrun => ?_, fun s src hup hrun => ?_⟩
  · refine answersThen_force hadm (Core.inject_of_idle (c := s.clear.core) hen hinj hpair hrun) ⟨by simp, ?_⟩
    exact Core.inject_facts (c := s.clear.core) hloud rfl
  · exact answersThen_force hadm (Core.inject_refused (c := s.clear.core) h) ⟨rfl, fun k => rfl⟩
  · have heq : s.clear.core.injectionEnd src.val =
        (s.clear.core.released src.val).setPair src.val (s.clear.core.fc.injecting.num src.val) := by
      rw [Core.injectionEnd_eq (c := s.clear.core) hinj]
      exact congrArg (fun l => Core.setPair (List.foldl _ _ l) _ _) hnone
    refine answersCore_onPower _ rfl hup (by rw [heq]; rfl) ?_
    rw [heq]
    refine ⟨?_, Core.setPair_pairOf _ _ _, Core.setPair_active _ _ _, fun k hk => ?_⟩
    · rw [Core.injected_setPair, Core.injected_released]
    · exact Core.setPair_get _ _ _ hk
  · have heq : s.clear.core.injectionEnd src.val =
        ((s.clear.core.released src.val).presented src.val (s.clear.core.fc.injecting.num src.val == 2) x).setPair src.val
          (s.clear.core.fc.injecting.num src.val) := by
      rw [Core.injectionEnd_eq (c := s.clear.core) hinj]
      exact congrArg (fun l => Core.setPair (List.foldl _ _ l) _ _) hone
    refine answersThen_onPower _ rfl hup ?_
    rw [heq]
    exact Core.presented_facts (c := s.clear.core) hloud
  · have heq := Core.closeWindow_of_idle (c := s.clear.core) hfind hidle
    refine answersCore_onPower _ rfl hup ?_ ?_
    · rw [heq, Core.closed, Core.noteSuppressed_req, Core.noteSuppressed_req]
      rfl
    · rw [heq, Core.closed_fc]
      exact ⟨rfl, Core.closed_record s.clear.core id hq hrec, Core.closed_first s.clear.core id hq,
        fun k h1 h2 => Core.closed_get s.clear.core id q h1 h2⟩
  · exact answersThen_onPower _ rfl hup (Core.closeWindow_late (c := s.clear.core) hfind hmasked hpair hother)
  · exact answersThen_onPower _ rfl hup (Core.raises_of_raise _ (by decide) rfl rfl)
  · exact exec_of_onPower_unchanged _ rfl rfl
  · refine answersThen_onPower _ (exec_configScan_some word s) hup ?_
    obtain ⟨hfall, hflag⟩ := Core.fallenBack_facts (s.clear.core.raise Src.fcReg (ctxNumber 0 0 word))
    rw [Core.configBad_eq (c := s.clear.core) hrun]
    refine ⟨hfall, ?_, hflag, by simp, (Core.raises_of_raise _ (by decide) rfl rfl).of_get (Core.fallenBack_count _ _)⟩
    rw [Core.programmed, Core.fc_ask, hfall]
    exact Bool.and_false _
  · have heq : s.clear.core.receiverTest src.val true = s.clear.core.withFc { s.clear.core.fc with tested := src.val } := by
      rw [Core.receiverTest, if_neg (by have h : s.clear.core.fc.running = true := hrun; rw [h]; decide)]
      rfl
    refine answersCore_onPower _ rfl hup (by rw [heq]; rfl) ?_
    rw [heq]
    exact ⟨rfl, fun k => rfl⟩
  · have heq : s.clear.core.receiverTest src.val false =
        (s.clear.core.withFc { s.clear.core.fc with tested := src.val }).raise Src.fcSelftest (ctxNumber 0 0 src.val) := by
      rw [Core.receiverTest, if_neg (by have h : s.clear.core.fc.running = true := hrun; rw [h]; decide)]
      rfl
    refine answersThen_onPower _ rfl hup ?_
    rw [heq]
    exact ⟨Core.raise_tested _, Core.raises_of_sameEar _ (by decide) ⟨rfl, rfl, rfl, fun _ => rfl⟩ rfl⟩

end Sys2Proof.Machine
end

section
/-! PROOFS. What a command on the wire to DRAM and the waking of a package rank change (07_memory_controller.md R183;
08_ddr5_redrive_training.md R195, R199). -/

namespace Sys2Proof.Machine

namespace Core

variable {c d e : Core} {n : Nat}

/-- `d` differs from `c` in the history of the commands on the wire, and in what leaves the hub, alone. -/
def WireOnly (c d : Core) : Prop := d = { c with ddr := d.ddr, out := d.out }

theorem WireOnly.refl (c : Core) : c.WireOnly c := rfl
theorem WireOnly.trans (h : c.WireOnly d) (h' : d.WireOnly e) : c.WireOnly e := by rw [WireOnly, h', h]
theorem WireOnly.objs (h : c.WireOnly d) : d.objs = c.objs := by rw [h]
theorem WireOnly.mc (h : c.WireOnly d) : d.mc = c.mc := by rw [h]
theorem WireOnly.ft (h : c.WireOnly d) : d.ft = c.ft := by rw [h]
theorem WireOnly.fc (h : c.WireOnly d) : d.fc = c.fc := by rw [h]
theorem WireOnly.req (h : c.WireOnly d) : d.req = c.req := by rw [h]
theorem WireOnly.get (h : c.WireOnly d) (k : Nat) : d.get k = c.get k := by rw [Core.get, Core.get, h.objs]
theorem WireOnly.mcOf (h : c.WireOnly d) (i : Nat) : d.mcOf i = c.mcOf i := by rw [Core.mcOf, Core.mcOf, h.mc]

theorem wireOnly_order (c : Core) (n : Nat) (cmd : DramCmd) : c.WireOnly (c.order n cmd) := rfl

@[simp] theorem get_order (c : Core) (n : Nat) (cmd : DramCmd) (k : Nat) : (c.order n cmd).get k = c.get k := rfl
@[simp] theorem mcOf_order (c : Core) (n : Nat) (cmd : DramCmd) (i : Nat) : (c.order n cmd).mcOf i = c.mcOf i := rfl

/-- `d` differs from `c` in memory controllers, the wire, PD_MASK and STATE of subchannel n alone. -/
def RankOnly (n : Nat) (c d : Core) : Prop :=
  d = { c with objs := d.objs, mc := d.mc, ddr := d.ddr, out := d.out } ∧
    ∀ k, k ≠ Obj.Sc.PD_MASK n → k ≠ Obj.Sc.STATE n → d.get k = c.get k

theorem RankOnly.refl (n : Nat) (c : Core) : RankOnly n c c := ⟨rfl, fun _ _ _ => rfl⟩

theorem RankOnly.trans (h : RankOnly n c d) (h' : RankOnly n d e) : RankOnly n c e := by
  obtain ⟨h1, h2⟩ := h
  obtain ⟨h3, h4⟩ := h'
  exact ⟨by rw [h3, h1], fun k hk hk' => (h4 k hk hk').trans (h2 k hk hk')⟩

theorem RankOnly.get (h : RankOnly n c d) {k : Nat} (h1 : k ≠ Obj.Sc.PD_MASK n) (h2 : k ≠ Obj.Sc.STATE n) : d.get k = c.get k :=
  h.2 k h1 h2

theorem RankOnly.tick (h : RankOnly n c d) : d.tick = c.tick := by rw [h.1]
theorem RankOnly.hubTime (h : RankOnly n c d) : d.hubTime = c.hubTime := by rw [h.1]
theorem RankOnly.timeRuns (h : RankOnly n c d) : d.timeRuns = c.timeRuns := by rw [h.1]
theorem RankOnly.drawn (h : RankOnly n c d) : d.drawn = c.drawn := by rw [h.1]
theorem RankOnly.req (h : RankOnly n c d) : d.req = c.req := by rw [h.1]
theorem RankOnly.fc (h : RankOnly n c d) : d.fc = c.fc := by rw [h.1]
theorem RankOnly.sluice (h : RankOnly n c d) : d.sluice = c.sluice := by rw [h.1]
theorem RankOnly.hr (h : RankOnly n c d) : d.hr = c.hr := by rw [h.1]
theorem RankOnly.ecc (h : RankOnly n c d) : d.ecc = c.ecc := by rw [h.1]
theorem RankOnly.eccSeq (h : RankOnly n c d) : d.eccSeq = c.eccSeq := by rw [h.1]
theorem RankOnly.ft (h : RankOnly n c d) : d.ft = c.ft := by rw [h.1]
theorem RankOnly.ledger (h : RankOnly n c d) : d.ledger = c.ledger := by rw [h.1]
theorem RankOnly.mon (h : RankOnly n c d) : d.mon = c.mon := by rw [h.1]
theorem RankOnly.start (h : RankOnly n c d) : d.start = c.start := by rw [h.1]
theorem RankOnly.streams (h : RankOnly n c d) : d.streams = c.streams := by rw [h.1]
theorem RankOnly.rings (h : RankOnly n c d) : d.rings = c.rings := by rw [h.1]
theorem RankOnly.wins (h : RankOnly n c d) : d.wins = c.wins := by rw [h.1]
theorem RankOnly.freezes (h : RankOnly n c d) : d.freezes = c.freezes := by rw [h.1]
theorem RankOnly.throttled (h : RankOnly n c d) : d.throttled = c.throttled := by rw [h.1]
theorem RankOnly.overHigh (h : RankOnly n c d) : d.overHigh = c.overHigh := by rw [h.1]
theorem RankOnly.ctxs (h : RankOnly n c d) : d.ctxs = c.ctxs := by rw [h.1]
theorem RankOnly.cache (h : RankOnly n c d) : d.cache = c.cache := by rw [h.1]
theorem RankOnly.updLog (h : RankOnly n c d) : d.updLog = c.updLog := by rw [h.1]
theorem RankOnly.jobs (h : RankOnly n c d) : d.jobs = c.jobs := by rw [h.1]
theorem RankOnly.freeing (h : RankOnly n c d) : d.freeing = c.freeing := by rw [h.1]
theorem RankOnly.shown (h : RankOnly n c d) : d.shown = c.shown := by rw [h.1]
theorem RankOnly.sessions (h : RankOnly n c d) : d.sessions = c.sessions := by rw [h.1]
theorem RankOnly.dll (h : RankOnly n c d) : d.dll = c.dll := by rw [h.1]
theorem RankOnly.srQueue (h : RankOnly n c d) : d.srQueue = c.srQueue := by rw [h.1]
theorem RankOnly.srBegins (h : RankOnly n c d) : d.srBegins = c.srBegins := by rw [h.1]
theorem RankOnly.halves (h : RankOnly n c d) : d.halves = c.halves := by rw [h.1]
theorem RankOnly.images (h : RankOnly n c d) : d.images = c.images := by rw [h.1]
theorem RankOnly.seq (h : RankOnly n c d) : d.seq = c.seq := by rw [h.1]
theorem RankOnly.sail (h : RankOnly n c d) : d.sail = c.sail := by rw [h.1]
theorem RankOnly.time (h : RankOnly n c d) : d.time = c.time := by rw [h.1]

theorem RankOnly.eccOf (h : RankOnly n c d) (i : Nat) : d.eccOf i = c.eccOf i := by rw [Core.eccOf, Core.eccOf, h.ecc]
theorem RankOnly.ftOf (h : RankOnly n c d) (i : Nat) : d.ftOf i = c.ftOf i := by rw [Core.ftOf, Core.ftOf, h.ft]
theorem RankOnly.ledgerOf (h : RankOnly n c d) (i : Nat) : d.ledgerOf i = c.ledgerOf i := by rw [Core.ledgerOf, Core.ledgerOf, h.ledger]
theorem RankOnly.monOf (h : RankOnly n c d) (i : Nat) : d.monOf i = c.monOf i := by rw [Core.monOf, Core.monOf, h.mon]
theorem RankOnly.portOf (h : RankOnly n c d) (i : Nat) : d.portOf i = c.portOf i := by rw [Core.portOf, Core.portOf, h.hr]
theorem RankOnly.streamOf (h : RankOnly n c d) (i : Nat) : d.streamOf i = c.streamOf i := by rw [Core.streamOf, Core.streamOf, h.streams]
theorem RankOnly.ringOf (h : RankOnly n c d) (i : Nat) : d.ringOf i = c.ringOf i := by rw [Core.ringOf, Core.ringOf, h.rings]
theorem RankOnly.winOf (h : RankOnly n c d) (i : Nat) : d.winOf i = c.winOf i := by rw [Core.winOf, Core.winOf, h.wins]
theorem RankOnly.ctxOf (h : RankOnly n c d) (i : Nat) : d.ctxOf i = c.ctxOf i := by rw [Core.ctxOf, Core.ctxOf, h.ctxs]
theorem RankOnly.jobOf (h : RankOnly n c d) (i : Nat) : d.jobOf i = c.jobOf i := by rw [Core.jobOf, Core.jobOf, h.jobs]
theorem RankOnly.halfSt (h : RankOnly n c d) (i : Nat) : d.halfSt i = c.halfSt i := by rw [Core.halfSt, Core.halfSt, h.halves]

theorem rankOnly_updMc (c : Core) (n i : Nat) (f : McState → McState) : RankOnly n c (c.updMc i f) := ⟨rfl, fun _ _ _ => rfl⟩
theorem rankOnly_order (c : Core) (n i : Nat) (cmd : DramCmd) : RankOnly n c (c.order i cmd) := ⟨rfl, fun _ _ _ => rfl⟩

theorem rankOnly_put (c : Core) {n k : Nat} (v : Nat) (h : k = Obj.Sc.PD_MASK n ∨ k = Obj.Sc.STATE n) : RankOnly n c (c.put k v) :=
  ⟨rfl, fun o h1 h2 => get_put_ne c v fun hk => h.elim (fun h => h1 (hk.trans h)) fun h => h2 (hk.trans h)⟩

theorem rankOnly_ite {b : Prop} [Decidable b] {x y : Core} (hx : RankOnly n c x) (hy : RankOnly n c y) :
    RankOnly n c (if b then x else y) := by
  split
  · exact hx
  · exact hy

theorem rankOnly_pdExit (c : Core) (n pr : Nat) : RankOnly n c (c.pdExit n pr) := by
  have hbase : RankOnly n c (((c.updMc n fun m => { m with wakeDue := setBitTo pr false m.wakeDue }).putBit (Obj.Sc.PD_MASK n) pr
      false).order n (.pdExit pr)) :=
    ((rankOnly_updMc c n n _).trans (rankOnly_put _ _ (.inl rfl))).trans (rankOnly_order _ n n _)
  unfold pdExit
  exact rankOnly_ite (hbase.trans (rankOnly_put _ _ (.inr rfl))) hbase

theorem rankOnly_wakeRank (c : Core) (n pr : Nat) : RankOnly n c (c.wakeRank n pr) := by
  unfold wakeRank
  exact rankOnly_ite
    (rankOnly_ite ((rankOnly_updMc c n n _).trans (rankOnly_updMc _ n n _)) ((rankOnly_updMc c n n _).trans (rankOnly_pdExit _ n pr)))
    (rankOnly_updMc c n n _)

end Core

end Sys2Proof.Machine
end

section
/-! PROOFS. The lanes of a subchannel (09_fantail_calibration.md R219 to R228): one lane after a change, and the lanes of a package
rank after the same change of each. -/

namespace Sys2Proof.Machine

/-- The lane's targets with its values, while offsets are in force or not (R226, R244). -/
def FtLane.aimed (on : Bool) (f : FtLane → FtLane) (l : FtLane) : FtLane :=
  (f l).retarget (if on then (f l).ofs else 0)

namespace Core

section
variable (c : Core) (n : Nat)

@[simp] theorem laneOf_updLane_self (i : Nat) (f : FtLane → FtLane) : (c.updLane n i f).laneOf n i = f (c.laneOf n i) := by
  rw [laneOf, updLane, ftOf_updFt_self, Tbl.get_upd_self, laneOf]

theorem laneOf_updLane_ne {i j : Nat} (f : FtLane → FtLane) (h : j ≠ i) : (c.updLane n i f).laneOf n j = c.laneOf n j := by
  rw [laneOf, updLane, ftOf_updFt_self, Tbl.get_upd_ne _ _ _ h, laneOf]

/-- A change of a subchannel beside its lanes. -/
theorem laneOf_updFt {f : FtState → FtState} (h : (f (c.ftOf n)).lanes = (c.ftOf n).lanes) (j : Nat) :
    (c.updFt n f).laneOf n j = c.laneOf n j := by
  rw [laneOf, ftOf_updFt_self, h, laneOf]

theorem capture_updLane (i : Nat) (f : FtLane → FtLane) : ((c.updLane n i f).ftOf n).capture = (c.ftOf n).capture := by
  rw [updLane, ftOf_updFt_self]

end

theorem aimLane_eq (c : Core) (n i : Nat) (f : FtLane → FtLane) :
    c.aimLane n i f = c.updLane n i (FtLane.aimed (c.isSet Obj.Fantail.FT_ENABLE) f) := rfl

/-- Lanes of the list `idx 0`, `idx 1` … take one step each. -/
theorem laneOf_foldl {n : Nat} {idx : Nat → Nat} (hinj : ∀ i j, idx i = idx j → i = j) {P : Core → Prop}
    {step : Core → Nat → Core} {F : Nat → FtLane → FtLane} (hP : ∀ c i, P c → P (step c i))
    (hself : ∀ c i, P c → (step c i).laneOf n (idx i) = F i (c.laneOf n (idx i)))
    (hne : ∀ c i j, P c → j ≠ idx i → (step c i).laneOf n j = c.laneOf n j) (m : Nat) {c : Core} (hc : P c) :
    (∀ i < m, ((List.range m).foldl step c).laneOf n (idx i) = F i (c.laneOf n (idx i))) ∧
    (∀ j, (∀ i < m, j ≠ idx i) → ((List.range m).foldl step c).laneOf n j = c.laneOf n j) ∧
    P ((List.range m).foldl step c) := by
  induction m with
  | zero => exact ⟨fun i hi => absurd hi (Nat.not_lt_zero i), fun _ _ => rfl, hc⟩
  | succ m ih =>
    obtain ⟨hin, hout, hp⟩ := ih
    rw [List.range_succ, List.foldl_append, List.foldl_cons, List.foldl_nil]
    refine ⟨fun i hi => ?_, fun j hj => ?_, hP _ _ hp⟩
    · by_cases him : i = m
      · rw [him, hself _ _ hp, hout _ fun k hk heq => absurd (hinj _ _ heq) (by omega)]
      · rw [hne _ _ _ hp fun heq => him (hinj _ _ heq), hin i (by omega)]
    · rw [hne _ _ _ hp (hj m (Nat.lt_succ_self m)), hout j fun i hi => hj i (by omega)]

section
variable (c : Core) (n m : Nat) {idx : Nat → Nat} (hinj : ∀ i j, idx i = idx j → i = j)
include hinj

theorem laneOf_updLanes (F : Nat → FtLane → FtLane) :
    (∀ i < m, ((List.range m).foldl (fun c i => c.updLane n (idx i) (F i)) c).laneOf n (idx i) = F i (c.laneOf n (idx i))) ∧
    (∀ j, (∀ i < m, j ≠ idx i) → ((List.range m).foldl (fun c i => c.updLane n (idx i) (F i)) c).laneOf n j = c.laneOf n j) := by
  obtain ⟨hin, hout, -⟩ := laneOf_foldl (P := fun _ => True) hinj (F := F) (fun _ _ h => h)
    (fun c i _ => laneOf_updLane_self c n (idx i) (F i)) (fun c i j _ h => laneOf_updLane_ne c n (F i) h) m (c := c) trivial
  exact ⟨hin, hout⟩

theorem laneOf_aimLanes (f : Nat → FtLane → FtLane) :
    (∀ i < m, ((List.range m).foldl (fun c i => c.aimLane n (idx i) (f i)) c).laneOf n (idx i) =
      FtLane.aimed (c.isSet Obj.Fantail.FT_ENABLE) (f i) (c.laneOf n (idx i))) ∧
    (∀ j, (∀ i < m, j ≠ idx i) → ((List.range m).foldl (fun c i => c.aimLane n (idx i) (f i)) c).laneOf n j = c.laneOf n j) := by
  have hkeep : ∀ (d : Core) (i : Nat), d.isSet Obj.Fantail.FT_ENABLE = c.isSet Obj.Fantail.FT_ENABLE →
      (d.aimLane n (idx i) (f i)).isSet Obj.Fantail.FT_ENABLE = c.isSet Obj.Fantail.FT_ENABLE := fun d i h => by
    rw [isSet, FtOnly.get (ftOnly_aimLane d n (idx i) (f i)), ← isSet, h]
  obtain ⟨hin, hout, -⟩ := laneOf_foldl (P := fun d => d.isSet Obj.Fantail.FT_ENABLE = c.isSet Obj.Fantail.FT_ENABLE) hinj
    (F := fun i => FtLane.aimed (c.isSet Obj.Fantail.FT_ENABLE) (f i)) hkeep
    (fun d i (h : d.isSet _ = c.isSet _) => by rw [aimLane_eq, laneOf_updLane_self, h])
    (fun d i j _ h => laneOf_updLane_ne d n _ h) m (c := c) rfl
  exact ⟨hin, hout⟩

end

/-- Folds over lanes leave what the subchannel captures. -/
theorem capture_foldl {α : Type} {n : Nat} {step : Core → α → Core} (hstep : ∀ d a, ((step d a).ftOf n).capture = (d.ftOf n).capture)
    (l : List α) (c : Core) : ((l.foldl step c).ftOf n).capture = (c.ftOf n).capture := by
  induction l generalizing c with
  | nil => rfl
  | cons a t ih => rw [List.foldl_cons, ih, hstep]

end Core

/-! ## Numbers of a table (R226) -/

theorem num_setNum_self (t : Tbl Nat) (k v : Nat) : (t.setNum k v).num k = v := Tbl.get_set_self _ _ _ _

theorem num_setNum_ne (t : Tbl Nat) {k i : Nat} (v : Nat) (h : i ≠ k) : (t.setNum k v).num i = t.num i :=
  Tbl.get_set_ne _ _ _ h

/-- The numbers below m of a table set one by one. -/
theorem num_foldl_setNum (g : Nat → Nat) (t : Tbl Nat) (m f : Nat) :
    ((List.range m).foldl (fun t i => t.setNum i (g i)) t).num f = if f < m then g f else t.num f := by
  induction m with
  | zero => rfl
  | succ m ih =>
    rw [List.range_succ, List.foldl_append, List.foldl_cons, List.foldl_nil]
    by_cases h : f = m
    · rw [h, num_setNum_self, if_pos (Nat.lt_succ_self m)]
    · rw [num_setNum_ne _ _ h, ih]
      exact if_congr (by omega) rfl rfl

/-- The target of a field after a change of its lane. -/
theorem FtLane.aimed_target (on : Bool) (f : FtLane → FtLane) (l : FtLane) {i : Nat} (h : i < 13) :
    (FtLane.aimed on f l).target.num i = (f l).targetOf (if on then (f l).ofs else 0) i := by
  rw [FtLane.aimed, FtLane.retarget, num_foldl_setNum, if_pos h]

theorem FtLane.aimed_ofs (on : Bool) (f : FtLane → FtLane) (l : FtLane) : (FtLane.aimed on f l).ofs = (f l).ofs := rfl

theorem FtLane.aimed_state (on : Bool) (f : FtLane → FtLane) (l : FtLane) : (FtLane.aimed on f l).state = (f l).state := rfl

end Sys2Proof.Machine
end

section
/-! PROOFS. Live tracking, captures and their credits (09_fantail_calibration.md R224 to R226, R229, R234 to R236;
16_states_start_sluice.md R424). -/

namespace Sys2Proof.Machine

theorem answersAll_onHubMem {i : Instr} {s : State} {P : State → Prop} (f : Core → Memory → Core × Memory)
    (hi : exec i s = .next (s.onHubMem f)) (hu : s.core.hubUp = true)
    (hp : P { s.clear with core := (f s.clear.core s.mem).1, mem := (f s.clear.core s.mem).2 }) : AnswersAll i s P :=
  answersAll_onMem f (by rw [hi, State.onHubMem, State.when, hu]; rfl) hp

namespace Core

variable {c : Core} {n : Nat}

/-! ## A step of a field (R226) -/

theorem tapStep_eq {pr k f : Nat} {l : FtLane} (hl : l = c.laneOf n (10 * pr + k)) (hne : l.applied.num f ≠ l.target.num f)
    (hready : c.isSet (Obj.Train.READY n) = true) (hmay : c.mayStep l f = true) :
    c.tapStep n pr k f = (c.updLane n (10 * pr + k) fun x =>
      { x with applied := x.applied.setNum f (if l.applied.num f < l.target.num f then l.applied.num f + 1 else l.applied.num f - 1),
               steps := Tbl.upd (fun _ => []) x.steps f fun s => (s.filter fun y => c.tick < y + 500000) ++ [c.tick] }).inc64
        (Obj.FtSc.TAP_MOVES n) := by
  subst hl
  rw [tapStep, hready, hmay, if_neg (by simpa using hne)]

theorem laneOf_put (c : Core) (k v i j : Nat) : (c.put k v).laneOf i j = c.laneOf i j := rfl

/-! ## Insertion (R224, R225) -/

/-- The lane starves, and its subchannel says so. -/
def starving (c : Core) (n i : Nat) : Core :=
  ((c.updLane n i fun l => { l with state := 2 }).flag (Obj.FtSc.FLAGS n) 0).flag Obj.Fantail.FLAGS 0

theorem starve_eq {pr k : Nat} (h1 : (c.laneOf n (10 * pr + k)).state = 1) (h2 : c.scState n = 0)
    (h3 : c.bitOf (Obj.Sc.PD_MASK n) pr = false) : c.starve n pr k =
      if (c.starving n (10 * pr + k)).inserting n pr then
        (c.starving n (10 * pr + k)).updLane n (10 * pr + k) fun l => { l with state := 3 }
      else (c.starving n (10 * pr + k)).askInsert n pr := by
  rw [starve]
  dsimp only
  rw [h1, h2, h3, if_neg (by decide)]
  rfl

/-- The lanes that wait for insertion have it. -/
def insertLanes (c : Core) (n pr : Nat) : Core :=
  (List.range 10).foldl (fun c j => c.updLane n (10 * pr + j) fun l => { l with state := if l.state = 2 then 3 else l.state }) c

/-- A refused insertion is counted and flagged. -/
def insertRefused (c : Core) (n : Nat) : Core :=
  ((c.refuse.inc (Obj.FtSc.INSERT_REFUSALS n)).flag (Obj.FtSc.FLAGS n) 2).flag Obj.Fantail.FLAGS 2

theorem askInsert_of_admits {pr : Nat} (h : c.admits 150 = true) : c.askInsert n pr =
    (c.grantCredit { kind := Ck.insert, owner := 2 * n + pr, mw := 150, forced := false }).insertLanes n pr := by
  rw [askInsert, askNow_of_admits _ _ _ h]
  rfl

theorem askInsert_of_refused {pr : Nat} (h : c.admits 150 = false) : c.askInsert n pr = c.insertRefused n := by
  rw [askInsert, askNow_of_refused _ _ _ h]
  rfl

theorem ftOnly_insertLanes (c : Core) (n pr : Nat) : c.FtOnly (c.insertLanes n pr) :=
  ftOnly_foldl _ _ (fun c j => ftOnly_updLane c n (10 * pr + j) _) c

theorem insertLanes_lane (c : Core) (n pr : Nat) {k : Nat} (hk : k < 10) :
    ((c.insertLanes n pr).laneOf n (10 * pr + k)).state =
      if (c.laneOf n (10 * pr + k)).state = 2 then 3 else (c.laneOf n (10 * pr + k)).state := by
  obtain ⟨hin, -⟩ := laneOf_updLanes c n 10 (idx := fun j => 10 * pr + j) (fun i j h => by omega)
    (fun _ l => { l with state := if l.state = 2 then 3 else l.state })
  exact congrArg FtLane.state (hin k hk)

section
variable {i : Nat}

theorem starving_lane (c : Core) (n i : Nat) : ((c.starving n i).laneOf n i).state = 2 := by
  rw [starving, flag, flag, laneOf_put, laneOf_put, laneOf_updLane_self]

theorem starving_sluice (c : Core) (n i : Nat) : (c.starving n i).sluice = c.sluice := by
  rw [starving, flag, flag, sluice_put, sluice_put]
  rfl

theorem starving_get (c : Core) (n i : Nat) {k : Nat} (h1 : k ≠ Obj.FtSc.FLAGS n) (h2 : k ≠ Obj.Fantail.FLAGS) :
    (c.starving n i).get k = c.get k := by
  rw [starving, get_flag_ne _ _ h2, get_flag_ne _ _ h1]
  rfl

theorem starving_flag (c : Core) (hn : n < 32) (i : Nat) : (c.starving n i).bitOf (Obj.FtSc.FLAGS n) 0 = true := by
  rw [starving, bitOf_congr 0 (get_flag_ne _ _ (by simp; omega)), bitOf_flag_self]

end

theorem admits_congr {d : Core} (hs : d.sluice = c.sluice)
    (hget : ∀ k ∈ [Obj.Sluice.BUDGET_MW, Obj.Sluice.BASE_MW, Obj.Sluice.FLOOR_MW], d.get k = c.get k) (mw : Nat) :
    d.admits mw = c.admits mw := by
  have hpool : d.pool = c.pool := by
    rw [pool, hget _ (by decide), hget _ (by decide), hget _ (by decide), pool]
  rw [admits, granted, headMw, hs, hpool, admits, granted, headMw]

/-! ## A recalibration asks for its capture (R234, R235) -/

theorem askCapture_capture (c : Core) (n : Nat) : ((c.askCapture n).ftOf n).capture = (c.ftOf n).capture := by
  unfold askCapture
  dsimp only
  split_ifs
  · rfl
  · rw [ftOf_updFt_self]
  · rw [ftOf_updFt_self, (sluiceOnly_askNow c _ _ _).ftOf]

/-- With no capture under way, the credit is held or the capture stays wanted. -/
theorem askCapture_wants (h : (c.ftOf n).capture = none) :
    (c.askCapture n).holds Ck.capture n = true ∨ ((c.askCapture n).ftOf n).wanted = true := by
  unfold askCapture
  rw [h]
  by_cases hheld : c.holds Ck.capture n = true
  · rw [if_pos (by simp [hheld])]
    exact .inl hheld
  · rw [if_neg (by simp [hheld])]
    split
    · exact .inr (by rw [ftOf_updFt_self])
    · by_cases hadm : c.admits 900 = true
      · rw [askNow_of_admits _ _ _ hadm]
        exact .inl (holds_grantCredit c _ _ _ _)
      · rw [askNow_of_refused _ _ _ (by simpa using hadm)]
        exact .inr (by rw [ftOf_updFt_self]; rfl)

theorem askCapture_of_admits (h1 : (c.ftOf n).capture = none) (h2 : c.holds Ck.capture n = false) (h3 : c.trainState n = 2)
    (h4 : c.admits 900 = true) : c.askCapture n =
      (c.grantCredit { kind := Ck.capture, owner := n, mw := 900, forced := false }).updFt n fun f => { f with wanted := false } := by
  rw [askCapture, h1, h2, h3, askNow_of_admits _ _ _ h4]
  rfl

/-- The lanes' targets at T, with T_CAL, its time and the count. -/
def recalBase (c : Core) (n : Nat) : Core :=
  (((c.put (Obj.FtSc.T_CAL n) (c.get (Obj.FtSc.T_NOW n))).put (Obj.FtSc.T_CAL_TIME n) c.hubTime).inc (Obj.FtSc.RECALS n)).aim n (c.tempOf n)

theorem recalibrate_written (c : Core) (n : Nat) : c.recalibrate n true = (c.recalBase n).askCapture n := by
  rw [recalibrate, needsCapture]
  rfl

theorem capture_aim (c : Core) (n : Nat) (t : Int) : ((c.aim n t).ftOf n).capture = (c.ftOf n).capture := by
  unfold aim
  split
  · rfl
  · exact capture_foldl (fun d i => capture_updLane d n i _) _ c

theorem recalBase_get (c : Core) (n k : Nat) : (c.recalBase n).get k =
    (((c.put (Obj.FtSc.T_CAL n) (c.get (Obj.FtSc.T_NOW n))).put (Obj.FtSc.T_CAL_TIME n) c.hubTime).inc (Obj.FtSc.RECALS n)).get k :=
  (ftOnly_aim _ n _).get k

theorem recalBase_facts (c : Core) (n : Nat) :
    (c.recalBase n).get (Obj.FtSc.T_CAL n) = c.get (Obj.FtSc.T_NOW n) ∧
    (c.recalBase n).get (Obj.FtSc.T_CAL_TIME n) = c.hubTime ∧
    (c.recalBase n).get (Obj.FtSc.RECALS n) = min (c.get (Obj.FtSc.RECALS n) + 1) (2 ^ 32 - 1) ∧
    ((c.recalBase n).ftOf n).capture = (c.ftOf n).capture := by
  refine ⟨?_, ?_, ?_, capture_aim _ n _⟩
  · rw [recalBase_get, get_inc_ne _ (by simp), get_put_ne _ _ (by simp), get_put_self]
  · rw [recalBase_get, get_inc_ne _ (by simp), get_put_self]
  · rw [recalBase_get, get_inc_self, get_put_ne _ _ (by simp), get_put_ne _ _ (by simp), sat_eq_min]

theorem askCapture_ftSc (c : Core) (n : Nat) {k : Nat} (h : 0x600000 ≤ k) : (c.askCapture n).get k = c.get k :=
  askCapture_get c n (by simp only [isSluiceKey]; omega)

/-! ## A capture (R235, R236) -/

/-- The lanes of the package rank take their applied values as set values, without an offset. -/
def readLanes (c : Core) (n pr : Nat) : Core :=
  (List.range 10).foldl (fun c i => c.aimLane n (10 * pr + i) fun l =>
    { l with ofs := 0, setv := (List.range 7).foldl (fun v f => v.setNum f (l.applied.num f)) l.setv }) c

/-- The capture with the package rank that it turns to. -/
def readRun (c : Core) (n pr : Nat) (k : CaptureRun) : CaptureRun :=
  { k with
    pr := pr, upto := (c.mcOf n).nextId,
    read := (c.readSide n pr).foldl (fun t e => Tbl.set (fun _ => []) t e.1 e.2) k.read,
    before := (List.range 10).foldl (fun t i => t.setNum (10 * pr + i) ((c.laneOf n (10 * pr + i)).setv.num 8)) k.before }

theorem takeRead_eq (c : Core) (n pr : Nat) (k : CaptureRun) : c.takeRead n pr k =
    ((c.readLanes n pr).wakeRank n pr).updFt n fun f => { f with wanted := false, capture := some (c.readRun n pr k) } := rfl

theorem ftOnly_readLanes (c : Core) (n pr : Nat) : c.FtOnly (c.readLanes n pr) :=
  ftOnly_foldl _ _ (fun c i => ftOnly_aimLane c n (10 * pr + i) _) c

section
variable (c : Core) (n pr : Nat) (k : CaptureRun)

theorem takeRead_capture : ((c.takeRead n pr k).ftOf n).capture = some (c.readRun n pr k) := by
  rw [takeRead_eq, ftOf_updFt_self]

theorem takeRead_req : (c.takeRead n pr k).req = c.req := by
  rw [takeRead_eq]
  exact (rankOnly_wakeRank _ n pr).req.trans (ftOnly_readLanes c n pr).req

theorem takeRead_get {o : Nat} (h1 : o ≠ Obj.Sc.PD_MASK n) (h2 : o ≠ Obj.Sc.STATE n) : (c.takeRead n pr k).get o = c.get o := by
  rw [takeRead_eq]
  exact ((rankOnly_wakeRank _ n pr).get h1 h2).trans ((ftOnly_readLanes c n pr).get o)

theorem takeRead_lane (j : Nat) : (c.takeRead n pr k).laneOf n j = (c.readLanes n pr).laneOf n j := by
  rw [takeRead_eq, laneOf_updFt _ _ (by rfl), laneOf, (rankOnly_wakeRank _ n pr).ftOf, laneOf]

theorem readLanes_lane {i f : Nat} (hi : i < 10) (hf : f < 7) :
    ((c.readLanes n pr).laneOf n (10 * pr + i)).ofs = 0 ∧
    ((c.readLanes n pr).laneOf n (10 * pr + i)).target.num f = (c.laneOf n (10 * pr + i)).applied.num f := by
  obtain ⟨hin, -⟩ := laneOf_aimLanes c n 10 (idx := fun i => 10 * pr + i) (fun i j h => by omega)
    (fun _ l => { l with ofs := 0, setv := (List.range 7).foldl (fun v f => v.setNum f (l.applied.num f)) l.setv })
  have hlane := hin i hi
  have hset : ∀ l : FtLane, ((List.range 7).foldl (fun v f => v.setNum f (l.applied.num f)) l.setv).num f = l.applied.num f :=
    fun l => by rw [num_foldl_setNum, if_pos hf]
  refine ⟨(congrArg FtLane.ofs hlane).trans (FtLane.aimed_ofs _ _ _),
    (congrArg (fun l => l.target.num f) hlane).trans ((FtLane.aimed_target _ _ _ (by omega)).trans ?_)⟩
  rw [FtLane.targetOf]
  dsimp only
  rw [ite_self, hset]
  split
  · next h => rw [h] at hset ⊢; rw [hset]; simp
  · rfl

end

end Core

end Sys2Proof.Machine
end

section
/-! PROOFS. The write sweeps of a capture and its ends (09_fantail_calibration.md R235, R236). -/

namespace Sys2Proof.Machine

namespace Core

variable {c : Core} {n : Nat}

theorem captureBegin_eq (h1 : c.holds Ck.capture n = true) (h2 : (c.ftOf n).capture = none) (h3 : c.trainState n = 2)
    (h4 : c.scState n ≤ 1) (h5 : (c.mcOf n).srAt = 0) (h6 : (c.mcOf n).srEntering = false) :
    c.captureBegin n = c.takeRead n 0 { pr := 0, temp := c.tempOf n, upto := 0, found := [], read := [], before := [] } := by
  have hstir : c.stir n = c := by
    rw [stir, if_neg (by simp [h5]; omega), h6, if_neg (by decide)]
  rw [captureBegin, hstir, h1, h2, h3, if_pos (by simp [h4, h5])]

/-- The write-back of the save area draws free values and changes no object or engine. -/
theorem sweepMemory_core (c : Core) (mem : Memory) (n pr : Nat) (bad : List Nat) :
    ∃ v, (c.sweepMemory mem n pr bad).1 = c.withDrawn v := by
  unfold sweepMemory
  suffices h : ∀ (x : Core × Memory), (∃ v, x.1 = c.withDrawn v) →
      ∃ v, (bad.foldl (fun x col => x.1.writeSaved x.2
        { sc := n, lr := 4 * pr, bg := 0, ba := 0, row := 0, col := col : DramAddr }.pa) x).1 = c.withDrawn v from
    h (c, mem) ⟨c.drawn, rfl⟩
  induction bad with
  | nil => exact fun x h => h
  | cons a t ih =>
    rintro x ⟨v, hv⟩
    exact ih _ ⟨x.1.drawn + 1, by dsimp only; rw [hv]; rfl⟩

/-- What a package rank's sweep found of its lanes. -/
def sweepResults (c : Core) (n pr : Nat) (x : WriteSweep) : List (Option (Nat × Nat)) :=
  (List.range 10).map fun i => c.sweepLane n (10 * pr + i) (nth x.runs i none)

theorem nth_sweepResults (c : Core) (n pr : Nat) (x : WriteSweep) {i : Nat} (hi : i < 10) :
    nth (c.sweepResults n pr x) i none = c.sweepLane n (10 * pr + i) (nth x.runs i none) := by
  rw [nth, sweepResults, List.getElem?_map, List.getElem?_range hi]
  rfl

/-- The capture with what the sweep found. -/
def foundRun (c : Core) (n : Nat) (x : WriteSweep) (k : CaptureRun) : CaptureRun :=
  { k with found := (List.range 10).foldl (fun t i =>
      Tbl.set (fun _ => (0, 0)) t (10 * k.pr + i) ((nth (c.sweepResults n k.pr x) i none).getD (0, 0))) k.found }

/-- The lanes with the write values that the sweep found. -/
def foundLanes (c : Core) (n : Nat) (x : WriteSweep) (k : CaptureRun) : Core :=
  (List.range 10).foldl (fun d i => d.aimLane n (10 * k.pr + i) fun l =>
    { l with setv := l.setv.setNum 8 ((nth (c.sweepResults n k.pr x) i none).getD (0, 0)).1 }) c

theorem sweepFound_eq (c : Core) (n : Nat) (x : WriteSweep) (k : CaptureRun) : c.sweepFound n x k =
    match (List.range 10).find? fun i => x.repeated || (nth (c.sweepResults n k.pr x) i none).isNone with
    | some bad => c.captureFail n k.pr bad k
    | none => if k.pr = 0 then (c.foundLanes n x k).takeRead n 1 (c.foundRun n x k)
        else (c.foundLanes n x k).captureDone n (c.foundRun n x k) := rfl

theorem sweepFound_failed {x : WriteSweep} {k : CaptureRun}
    (h : x.repeated = true ∨ ∃ i < 10, c.sweepLane n (10 * k.pr + i) (nth x.runs i none) = none) :
    ∃ bad, c.sweepFound n x k = c.captureFail n k.pr bad k := by
  rw [sweepFound_eq]
  cases hfind : (List.range 10).find? fun i => x.repeated || (nth (c.sweepResults n k.pr x) i none).isNone with
  | some bad => exact ⟨bad, rfl⟩
  | none =>
    rw [List.find?_eq_none] at hfind
    rcases h with h | ⟨i, hi, h⟩
    · exact absurd (hfind 0 (by simp)) (by simp [h])
    · exact absurd (hfind i (by simpa using hi)) (by rw [nth_sweepResults _ _ _ _ hi, h]; simp)

theorem sweepFound_found {x : WriteSweep} {k : CaptureRun} (h1 : x.repeated = false)
    (h2 : ∀ i < 10, c.sweepLane n (10 * k.pr + i) (nth x.runs i none) ≠ none) :
    c.sweepFound n x k = if k.pr = 0 then (c.foundLanes n x k).takeRead n 1 (c.foundRun n x k)
      else (c.foundLanes n x k).captureDone n (c.foundRun n x k) := by
  rw [sweepFound_eq, List.find?_eq_none.2 fun i hi => ?_]
  have hi' : i < 10 := by simpa using hi
  rw [h1, nth_sweepResults _ _ _ _ hi']
  simpa using h2 i hi'

theorem ftOnly_foundLanes (c : Core) (n : Nat) (x : WriteSweep) (k : CaptureRun) : c.FtOnly (c.foundLanes n x k) :=
  ftOnly_foldl _ _ (fun d i => ftOnly_aimLane d n (10 * k.pr + i) _) c

theorem foundLanes_lane {x : WriteSweep} {k : CaptureRun} {i : Nat} {y : Nat × Nat} (hi : i < 10)
    (hy : c.sweepLane n (10 * k.pr + i) (nth x.runs i none) = some y) :
    ((c.foundLanes n x k).laneOf n (10 * k.pr + i)).target.num 8 = y.1 := by
  obtain ⟨hin, -⟩ := laneOf_aimLanes c n 10 (idx := fun i => 10 * k.pr + i) (fun i j h => by omega)
    (fun i l => { l with setv := l.setv.setNum 8 ((nth (c.sweepResults n k.pr x) i none).getD (0, 0)).1 })
  refine (congrArg (fun l => l.target.num 8) (hin i hi)).trans ((FtLane.aimed_target _ _ _ (by decide)).trans ?_)
  rw [FtLane.targetOf, if_neg (by decide)]
  dsimp only
  rw [num_setNum_self, nth_sweepResults _ _ _ _ hi, hy]
  rfl

theorem readLanes_lane_ne (c : Core) (n pr : Nat) {j : Nat} (h : j < 10 * pr ∨ 10 * pr + 10 ≤ j) :
    (c.readLanes n pr).laneOf n j = c.laneOf n j := by
  obtain ⟨-, hout⟩ := laneOf_aimLanes c n 10 (idx := fun i => 10 * pr + i) (fun i j h => by omega)
    (fun _ l => { l with ofs := 0, setv := (List.range 7).foldl (fun v f => v.setNum f (l.applied.num f)) l.setv })
  exact hout j fun i hi => by omega

/-! ## A capture that fails (R235) -/

/-- The write value that a lane returns to. -/
def valueBefore (c : Core) (n : Nat) (run : CaptureRun) (i : Nat) : Nat :=
  if (c.validSets n).isEmpty then run.before.num i else c.setValueAt n i 8 (c.getInt (Obj.FtSc.T_CAL n))

/-- The write targets return to their values before the capture. -/
def writeBack (c : Core) (n : Nat) (run : CaptureRun) : Core :=
  run.found.foldl (fun d e => d.aimLane n e.1 fun l => { l with setv := l.setv.setNum 8 (c.valueBefore n run e.1) }) c

theorem captureFail_eq (c : Core) (n pr k : Nat) (run : CaptureRun) : c.captureFail n pr k run =
    ((((c.writeBack n run).captureOver n).flag (Obj.FtSc.FLAGS n) 5).inc (Obj.FtSc.CAPTURE_FAILS n)).raise (Src.ftTrack n)
      (ctxLane 7 2 n pr k) := rfl

theorem ftOnly_writeBack (c : Core) (n : Nat) (run : CaptureRun) : c.FtOnly (c.writeBack n run) :=
  ftOnly_foldl run.found _ (fun d (e : Nat × Nat × Nat) => ftOnly_aimLane d n e.1 _) c

theorem captureOver_get (c : Core) (n k : Nat) : (c.captureOver n).get k = c.get k := rfl
theorem captureOver_fc (c : Core) (n : Nat) : (c.captureOver n).fc = c.fc := rfl

theorem captureOver_capture (c : Core) (n : Nat) : ((c.captureOver n).ftOf n).capture = none := by
  rw [captureOver, (sluiceOnly_release _ _ _).ftOf, ftOf_updFt_self]

theorem ftTrack_known : ∀ sc : ScNo, (sourceInfo? (Src.ftTrack sc.val)).isNone = false := by decide +kernel

theorem captureFail_facts (c : Core) {n : Nat} (hn : n < 32) (pr k : Nat) (run : CaptureRun) :
    ((c.captureFail n pr k run).ftOf n).capture = none ∧ (c.captureFail n pr k run).bitOf (Obj.FtSc.FLAGS n) 5 = true ∧
    (c.captureFail n pr k run).get (Obj.FtSc.CAPTURE_FAILS n) = min (c.get (Obj.FtSc.CAPTURE_FAILS n) + 1) (2 ^ 32 - 1) ∧
    c.Raises (Src.ftTrack n) (c.captureFail n pr k run) := by
  have hget : ∀ o, ((c.writeBack n run).captureOver n).get o = c.get o := fun o =>
    (captureOver_get _ n o).trans ((ftOnly_writeBack c n run).get o)
  rw [captureFail_eq]
  refine ⟨?_, ?_, ?_, ?_⟩
  · rw [ftOf_raise, inc, add, ftOf_put, flag, ftOf_put, captureOver_capture]
  · rw [bitOf, get_raise _ _ _ (by simp; omega), get_inc_ne _ (by simp), get_flag_self, testBit_setBitTo_self]
  · rw [get_raise _ _ _ (by simp; omega), get_inc_self, get_flag_ne _ _ (by simp), hget, sat_eq_min]
  · refine raises_of_raise _ (ftTrack_known ⟨n, hn⟩) ?_ ?_
    · rw [inc, add, fc_put, flag, fc_put, captureOver_fc, (ftOnly_writeBack c n run).fc]
    · rw [get_inc_ne _ (by simp; omega), get_flag_ne _ _ (by simp; omega), hget]

/-! ## A capture that succeeds (R232, R235) -/

/-- The lanes take their write eye widths, and the captured ones track again. -/
def eyedLanes (c : Core) (n : Nat) (k : CaptureRun) : Core :=
  (List.range 20).foldl (fun c i => c.updLane n i fun l =>
    { l with wrEyeW := (Tbl.get (fun _ => (0, 0)) k.found i).2, state := if l.state = 4 then 1 else l.state }) c

/-- The set that the capture stores. -/
def captureSet (c : Core) (n : Nat) (k : CaptureRun) : CalSet := c.calSetOf n 1 k.temp fun i => k.lane i (c.laneOf n i)

theorem captureDone_eq (c : Core) (n : Nat) (k : CaptureRun) : c.captureDone n k =
    ((((c.eyedLanes n k).storeSet n (c.captureSet n k)).put (Obj.FtSc.T_CAL n) (ofSigned 32 k.temp)).inc (Obj.FtSc.CAPTURES n)).captureOver
      n := rfl

theorem ftOnly_eyedLanes (c : Core) (n : Nat) (k : CaptureRun) : c.FtOnly (c.eyedLanes n k) :=
  ftOnly_foldl _ _ (fun c i => ftOnly_updLane c n i _) c

theorem eyedLanes_state (c : Core) (n : Nat) (k : CaptureRun) {i : Nat} (hi : i < 20) : ((c.eyedLanes n k).laneOf n i).state ≠ 4 := by
  obtain ⟨hin, -⟩ := laneOf_updLanes c n 20 (idx := id) (fun i j h => h) (fun i l =>
    { l with wrEyeW := (Tbl.get (fun _ => (0, 0)) k.found i).2, state := if l.state = 4 then 1 else l.state })
  have hstate : ((c.eyedLanes n k).laneOf n i).state = if (c.laneOf n i).state = 4 then 1 else (c.laneOf n i).state :=
    congrArg FtLane.state (hin i hi)
  rw [hstate]
  split <;> omega

section
variable (c : Core) (n : Nat)

theorem captureOver_lane (i : Nat) : (c.captureOver n).laneOf n i = c.laneOf n i := by
  rw [captureOver, laneOf, (sluiceOnly_release _ _ _).ftOf, ftOf_updFt_self, laneOf]

theorem captureOver_sets : ((c.captureOver n).ftOf n).sets = (c.ftOf n).sets := by
  rw [captureOver, (sluiceOnly_release _ _ _).ftOf, ftOf_updFt_self]

theorem captureOver_ledger (r : Nat) : (c.captureOver n).ledgerOf r = c.ledgerOf r := by
  rw [captureOver, (sluiceOnly_release _ _ _).ledgerOf, ledgerOf_updFt]

variable (q : CalSet)

theorem storeSet_get (k : Nat) : (c.storeSet n q).get k = c.get k := by rw [storeSet, get_updLedger, get_updFt]

theorem storeSet_lane (i : Nat) : (c.storeSet n q).laneOf n i = c.laneOf n i := by
  rw [storeSet, laneOf, ftOf_updLedger, ftOf_updFt_self, laneOf]

theorem storeSet_set : Tbl.get (fun _ => CalSet.none) ((c.storeSet n q).ftOf n).sets (bandOf q.temp) = q := by
  rw [storeSet, ftOf_updLedger, ftOf_updFt_self, Tbl.get_set_self]

theorem storeSet_dirty : ((c.storeSet n q).ledgerOf (halfOf n)).dirty = true := by
  rw [storeSet, ledgerOf_updLedger_self]

end

theorem captureDone_facts (c : Core) (n : Nat) (k : CaptureRun) :
    ((c.captureDone n k).ftOf n).capture = none ∧ (c.captureDone n k).get (Obj.FtSc.T_CAL n) = ofSigned 32 k.temp ∧
    (c.captureDone n k).get (Obj.FtSc.CAPTURES n) = min (c.get (Obj.FtSc.CAPTURES n) + 1) (2 ^ 32 - 1) ∧
    Tbl.get (fun _ => CalSet.none) ((c.captureDone n k).ftOf n).sets (bandOf k.temp) = c.captureSet n k ∧
    ((c.captureDone n k).ledgerOf (halfOf n)).dirty = true ∧ ∀ i < 20, ((c.captureDone n k).laneOf n i).state ≠ 4 := by
  rw [captureDone_eq]
  refine ⟨captureOver_capture _ _, ?_, ?_, ?_, ?_, fun i hi => ?_⟩
  · rw [captureOver_get, get_inc_ne _ (by simp), get_put_self]
  · rw [captureOver_get, get_inc_self, get_put_ne _ _ (by simp), storeSet_get, (ftOnly_eyedLanes c n k).get, sat_eq_min]
  · rw [captureOver_sets, inc, add, ftOf_put, ftOf_put]
    exact storeSet_set _ _ (c.captureSet n k)
  · rw [captureOver_ledger, inc, add, ledgerOf_put, ledgerOf_put, storeSet_dirty]
  · rw [captureOver_lane, inc, add, laneOf_put, laneOf_put, storeSet_lane]
    exact eyedLanes_state c n k hi

/-! ## Credits asked again (R424) -/

theorem reaskScrub_held (h1 : 2 ≤ (c.eccOf n).behind) (h2 : c.holds Ck.scrub n = false) (h3 : c.admits 40 = true) :
    (c.reaskScrub n).req = c.req ∧ (c.reaskScrub n).holds Ck.scrub n = true := by
  rw [reaskScrub, if_pos (by simp [h1, h2]), askNow_of_admits _ _ _ h3]
  exact ⟨(sluiceOnly_grantCredit _ _).req, holds_grantCredit _ _ _ _ _⟩

theorem askRepair_held (h1 : (c.eccOf n).candidates ≠ []) (h2 : c.holds Ck.repair n = false) (h3 : c.admits 300 = true) :
    (c.askRepair n).req = c.req ∧ (c.askRepair n).holds Ck.repair n = true := by
  rw [askRepair, if_neg (by simp [h1, h2]), askNow_of_admits _ _ _ h3]
  exact ⟨(sluiceOnly_grantCredit _ _).req, holds_grantCredit _ _ _ _ _⟩

theorem reaskInsert_of_starved {pr : Nat} (h1 : c.inserting n pr = false) (h2 : ∃ k < 10, c.starved n (10 * pr + k) = true) :
    c.reaskInsert n pr = c.askInsert n pr := by
  have hany : ((List.range 10).any fun k => c.starved n (10 * pr + k)) = true := by simpa using h2
  rw [reaskInsert, h1, hany]
  rfl

/-- A granted insertion leaves no lane of the rank that waits for it. -/
theorem askInsert_granted {pr : Nat} (h : c.admits 150 = true) :
    (c.askInsert n pr).req = c.req ∧ (c.askInsert n pr).inserting n pr = true ∧
    ∀ k < 10, ((c.askInsert n pr).laneOf n (10 * pr + k)).state =
      if (c.laneOf n (10 * pr + k)).state = 2 then 3 else (c.laneOf n (10 * pr + k)).state := by
  rw [askInsert_of_admits h]
  refine ⟨(ftOnly_insertLanes _ n pr).req.trans (sluiceOnly_grantCredit _ _).req, ?_, fun k hk => ?_⟩
  · rw [inserting, holds, (ftOnly_insertLanes _ n pr).sluice]
    exact holds_grantCredit _ _ _ _ _
  · rw [insertLanes_lane _ _ _ hk]
    rfl

/-- A refused one leaves the lanes, and is counted and flagged. -/
theorem askInsert_refused (hn : n < 32) {pr : Nat} (h : c.admits 150 = false) :
    (c.askInsert n pr).req = c.req ∧ (∀ i, (c.askInsert n pr).laneOf n i = c.laneOf n i) ∧
    (c.askInsert n pr).bitOf (Obj.FtSc.FLAGS n) 2 = true ∧
    (∀ i, c.bitOf (Obj.FtSc.FLAGS n) i = true → (c.askInsert n pr).bitOf (Obj.FtSc.FLAGS n) i = true) ∧
    (c.askInsert n pr).get (Obj.FtSc.INSERT_REFUSALS n) = min (c.get (Obj.FtSc.INSERT_REFUSALS n) + 1) (2 ^ 32 - 1) := by
  have hcount : Obj.FtSc.INSERT_REFUSALS n ≠ Obj.Fantail.FLAGS := by simp; omega
  have hkey : 0x600000 ≤ Obj.FtSc.INSERT_REFUSALS n := by simp; omega
  have hne : Obj.FtSc.FLAGS n ≠ Obj.Fantail.FLAGS := by clear hcount hkey; simp; omega
  have hrefuse : ∀ k, 0x600000 ≤ k → c.refuse.get k = c.get k := fun k hk =>
    (sluiceOnly_refuse c).get (by simp only [isSluiceKey]; omega)
  rw [askInsert_of_refused h, insertRefused]
  refine ⟨?_, fun i => ?_, ?_, fun i hi => ?_, ?_⟩
  · rw [flag, req_put, flag, req_put, inc, add, req_put, (sluiceOnly_refuse c).req]
  · rw [flag, laneOf_put, flag, laneOf_put, inc, add, laneOf_put, laneOf, (sluiceOnly_refuse c).ftOf, laneOf]
  · rw [bitOf_congr 2 (get_flag_ne _ _ hne), bitOf_flag_self]
  · rw [bitOf_congr i (get_flag_ne _ _ hne)]
    refine bitOf_flag_of_bitOf 2 ?_
    rw [bitOf_congr i (get_inc_ne _ (by simp)), bitOf_congr i (hrefuse _ (by simp; omega)), hi]
  · rw [get_flag_ne _ _ hcount, get_flag_ne _ _ (by simp), get_inc_self, hrefuse _ hkey, sat_eq_min]

/-- A lane that starves (R224, R225). -/
theorem starve_facts (hn : n < 32) {pr k : Nat} (hk : k < 10) (h1 : (c.laneOf n (10 * pr + k)).state = 1) (h2 : c.scState n = 0)
    (h3 : c.bitOf (Obj.Sc.PD_MASK n) pr = false) :
    (c.starve n pr k).req = c.req ∧ (c.starve n pr k).bitOf (Obj.FtSc.FLAGS n) 0 = true ∧
    ((c.starve n pr k).laneOf n (10 * pr + k)).state = (if c.inserting n pr = true ∨ c.admits 150 = true then 3 else 2) ∧
    (c.inserting n pr = false → c.admits 150 = false → (c.starve n pr k).bitOf (Obj.FtSc.FLAGS n) 2 = true ∧
      (c.starve n pr k).get (Obj.FtSc.INSERT_REFUSALS n) = min (c.get (Obj.FtSc.INSERT_REFUSALS n) + 1) (2 ^ 32 - 1)) := by
  have hflag := starving_flag c hn (10 * pr + k)
  have hinserting : (c.starving n (10 * pr + k)).inserting n pr = c.inserting n pr := by
    rw [inserting, holds, starving_sluice, inserting, holds]
  have hadmits : (c.starving n (10 * pr + k)).admits 150 = c.admits 150 := by
    refine admits_congr (starving_sluice _ _ _) (fun o ho => ?_) 150
    simp only [List.mem_cons, List.not_mem_nil, or_false] at ho
    rcases ho with rfl | rfl | rfl <;> exact starving_get _ _ _ (by simp; omega) (by decide)
  rw [starve_eq h1 h2 h3, hinserting]
  by_cases hins : c.inserting n pr = true
  · rw [if_pos hins, if_pos (.inl hins), hins]
    exact ⟨rfl, hflag, by rw [laneOf_updLane_self], fun h => absurd h (by decide)⟩
  · rw [if_neg hins]
    by_cases hadm : c.admits 150 = true
    · obtain ⟨hreq, -, hlane⟩ := askInsert_granted (n := n) (pr := pr) (hadmits.trans hadm)
      rw [if_pos (.inr hadm), hadm]
      refine ⟨hreq, ?_, ?_, fun _ h => absurd h (by decide)⟩
      · rw [askInsert_of_admits (hadmits.trans hadm), bitOf_congr 0 ((ftOnly_insertLanes _ _ _).get _),
          bitOf_congr 0 ((sluiceOnly_grantCredit _ _).get (by simp; omega)), hflag]
      · rw [hlane k hk, starving_lane, if_pos rfl]
    · have hno : c.admits 150 = false := by simpa using hadm
      obtain ⟨hreq, hlane, hset, hkeep, hcount⟩ := askInsert_refused hn (pr := pr) (hadmits.trans hno)
      rw [if_neg (by simp [hins, hadm])]
      refine ⟨hreq, hkeep 0 hflag, by rw [hlane, starving_lane], fun _ _ => ⟨hset, ?_⟩⟩
      rw [hcount, starving_get _ _ _ (by simp) (by simp; omega)]

/-! ## The sweep as its command ends it -/

theorem writeSweep_eq {mem : Memory} {pr : Nat} {x : WriteSweep} {k : CaptureRun} (h1 : (c.ftOf n).capture = some k) (h2 : k.pr = pr)
    (h3 : c.sweepClear n k = true) (h4 : (c.mcOf n).stopped = false) :
    ∃ v, (c.writeSweep mem n pr x).1 = (c.withDrawn v).sweepFound n x k := by
  obtain ⟨v, hv⟩ := sweepMemory_core c mem n pr x.saveBad
  refine ⟨v, ?_⟩
  rw [writeSweep, h1]
  dsimp only
  rw [h2, h3, h4, if_neg (by simp), hv]

theorem sweepLane_withDrawn (c : Core) (v n i : Nat) (run : Option (Int × Int)) :
    (c.withDrawn v).sweepLane n i run = c.sweepLane n i run := rfl

/-! ## The trim of a half (R229) -/

theorem dllStep_some {h : Nat} (b : Bool) {x : Int × Nat} (hx : x = Tbl.get (fun _ => (0, 0)) c.dll h) :
    (Tbl.get (fun _ => (0, 0)) (c.dllStep h (some b)).dll h).1 =
      (if x.2 = 0 ∨ x.2 + 5000 ≤ c.tick + 1 then x.1 + (if b then 1 else -1) else x.1) ∧
    (c.dllStep h (some b)).req = c.req ∧ ∀ o, (c.dllStep h (some b)).get o = c.get o := by
  subst hx
  unfold dllStep
  dsimp only
  by_cases hwait : (Tbl.get (fun _ => (0, 0)) c.dll h).2 ≠ 0 ∧ c.tick + 1 < (Tbl.get (fun _ => (0, 0)) c.dll h).2 + 5000
  · rw [if_pos hwait]
    exact ⟨(if_neg (by omega)).symm, rfl, fun _ => rfl⟩
  · rw [if_neg hwait]
    exact ⟨(congrArg Prod.fst (Tbl.get_set_self _ _ _ _)).trans (if_pos (by omega)).symm, rfl, fun _ => rfl⟩

end Core

/-! ## RECAL -/

theorem recal_parts (sc : ScNo) : Obj.FtSc.RECAL sc.val / 256 = 0x6000 + 0x40 * sc.val + 5 ∧ Obj.FtSc.RECAL sc.val % 256 = 6 := by
  simp
  omega

theorem clearableOf_recal : ∀ sc : ScNo,
    clearableOf (Obj.FtSc.RECAL sc.val / 256) (Obj.FtSc.RECAL sc.val % 256) = none := by
  decide +kernel

theorem Core.writeValue_sc (c : Core) (f : Fuses) (w : World) {n blk : Nat} (sub : Nat) (bs : List Byte) (h : blk < 64) :
    c.writeValue f w (0x6000 + 0x40 * n + blk) sub bs = c.writeSc n blk sub (ofBytes bs) := by
  have hn : (0x6000 + 0x40 * n + blk - 0x6000) / 64 = n := by omega
  have hb : (0x6000 + 0x40 * n + blk - 0x6000) % 64 = blk := by omega
  simp (disch := omega) only [writeValue, Bool.and_eq_true, decide_eq_true_eq, if_neg, if_pos]
  rw [hn, hb]

theorem exec_creditReask (kind : ReaskKind) (sc : ScNo) (pr : Fin 2) (s : State) :
    exec (.creditReask kind sc pr) s = .next (s.onHub fun c => c.creditReask kind sc.val pr.val) := rfl

theorem exec_writeSweepDone {sc : ScNo} (pr : Fin 2) {x : WriteSweep} {s : State} (h : x.wf = true) :
    exec (.writeSweepDone sc pr x) s = .next (s.onHubMem fun c m => c.writeSweep m sc.val pr.val x) := if_pos h

/-- Settles O40: steps of fields, insertion and the credits asked again, the trims, recalibration and capture. -/
theorem laneTracking : Obligations.LaneTracking := by
  unfold Obligations.LaneTracking
  refine ⟨fun s sc pr k f l hup hl hne hready hmay => ?_, fun s sc pr k hup h1 h2 h3 => ?_, fun s sc pr hup h1 h2 h3 => ?_,
    fun s sc pr hup h1 h2 h3 => ?_, fun s sc pr hup h1 h2 h3 h4 h5 => ?_, fun s sc pr hup h1 h2 h3 => ?_,
    fun s h b x hup hx => ?_, fun s h hup => ?_, fun s sc w hadm => ?_, fun s sc hup h1 h2 h3 h4 h5 h6 => ?_,
    fun s sc pr x k hup hwf h1 h2 h3 h4 => ⟨fun h => ?_, fun hrep hall hpr => ?_, fun hrep hall hpr => ?_⟩⟩
  · have heq := Core.tapStep_eq (c := s.clear.core) hl hne hready hmay
    refine answersCore_onHub _ rfl hup (by rw [heq]; rfl) ?_
    rw [heq]
    refine ⟨?_, ?_, ?_, fun o ho => Core.get_add_ne _ _ _ ho⟩
    · rw [Core.inc64, Core.add, Core.laneOf_put, Core.laneOf_updLane_self]
      exact num_setNum_self _ _ _
    · rw [Core.inc64, Core.add, Core.laneOf_put, Core.laneOf_updLane_self, hl]
      rfl
    · rw [Core.inc64, Core.get_add_self, Core.sat_eq_min]
      rfl
  · obtain ⟨hreq, hflag, hstate, hrefused⟩ := Core.starve_facts (c := s.clear.core) sc.isLt k.isLt h1 h2 h3
    refine answersCore_onHub _ rfl hup hreq ⟨hflag, ?_, hstate, hrefused⟩
    rw [Core.starved, hstate]
    split <;> rfl
  · obtain ⟨hreq, hheld⟩ := Core.reaskScrub_held (c := s.clear.core) h1 h2 h3
    exact answersCore_onHub _ (exec_creditReask .scrub sc pr s) hup hreq hheld
  · obtain ⟨hreq, hheld⟩ := Core.askRepair_held (c := s.clear.core) h1 h2 h3
    exact answersCore_onHub _ (exec_creditReask .repair sc pr s) hup hreq hheld
  · have heq : s.clear.core.creditReask .capture sc.val pr.val = _ :=
      (if_pos h1).trans (Core.askCapture_of_admits (c := s.clear.core) h3 h4 h2 h5)
    refine answersCore_onHub _ (exec_creditReask .capture sc pr s) hup (by rw [heq]; rfl) ?_
    rw [heq]
    exact ⟨Core.holds_grantCredit _ _ _ _ _, by rw [Core.ftOf_updFt_self]⟩
  · obtain ⟨hreq, hins, hlane⟩ := Core.askInsert_granted (c := s.clear.core) (n := sc.val) (pr := pr.val) h3
    have heq : s.clear.core.creditReask .insert sc.val pr.val = s.clear.core.askInsert sc.val pr.val :=
      Core.reaskInsert_of_starved (c := s.clear.core) h1 h2
    refine answersCore_onHub _ (exec_creditReask .insert sc pr s) hup (by rw [heq, hreq]; rfl) ?_
    rw [heq]
    refine ⟨hins, fun k hk => ?_⟩
    rw [hlane k hk]
    split
    · decide
    · next h => exact h
  · obtain ⟨htrim, hreq, hget⟩ := Core.dllStep_some (c := s.clear.core) b hx
    exact answersCore_onHub _ rfl hup hreq ⟨htrim, hget⟩
  · have hsource : ∀ h : Half, (sourceInfo? (Src.dllUnlock h.val)).isNone = false := by decide +kernel
    exact answersThen_onHub _ rfl hup (Core.raises_of_raise _ (hsource h) rfl rfl)
  · obtain ⟨hidx, hsub⟩ := recal_parts sc
    obtain ⟨hcal, htime, hcount, hcapture⟩ := Core.recalBase_facts s.clear.core sc.val
    refine answersOk_writeNum rfl hadm (clearableOf_recal sc) (by rw [hidx, hsub, coreObject]; omega)
      (c := s.clear.core.recalibrate sc.val true) ?_ ?_
    · rw [hidx, hsub, Core.writeValue_sc _ _ _ _ _ (by decide), ofBytes_toBytes_of_fits hadm.2.1]
      rfl
    · rw [Core.recalibrate_written]
      refine ⟨?_, ?_, ?_, ?_, fun h => ?_⟩
      · exact (Core.askCapture_ftSc _ _ (by simp; omega)).trans hcal
      · exact (Core.askCapture_ftSc _ _ (by simp; omega)).trans htime
      · exact (Core.askCapture_ftSc _ _ (by simp; omega)).trans hcount
      · exact (Core.askCapture_capture _ _).trans hcapture
      · exact Core.askCapture_wants ((Core.askCapture_capture _ _).symm.trans h)
  · have heq := Core.captureBegin_eq (c := s.clear.core) h1 h2 h3 h4 h5 h6
    refine answersCore_onHub _ rfl hup (by rw [heq, Core.takeRead_req]; rfl) ?_
    rw [heq]
    refine ⟨⟨_, Core.takeRead_capture _ _ _ _, rfl, rfl, rfl, rfl⟩, fun k hk => ⟨?_, fun f hf => ?_⟩, fun o ho1 ho2 => ?_⟩
    · have hlane := (Core.readLanes_lane s.clear.core sc.val 0 hk (by decide : 0 < 7)).1
      rw [Nat.mul_zero, Nat.zero_add] at hlane
      rw [Core.takeRead_lane, hlane]
    · have hlane := (Core.readLanes_lane s.clear.core sc.val 0 hk hf).2
      rw [Nat.mul_zero, Nat.zero_add] at hlane
      rw [Core.takeRead_lane, hlane]
      rfl
    · exact Core.takeRead_get _ _ _ _ ho1 ho2
  · obtain ⟨v, hv⟩ := Core.writeSweep_eq (c := s.clear.core) (mem := s.mem) (x := x) h1 h2 h3 h4
    obtain ⟨bad, hbad⟩ := Core.sweepFound_failed (c := s.clear.core.withDrawn v) (k := k) (by rw [h2]; exact h)
    refine answersAll_onHubMem _ (exec_writeSweepDone pr hwf) hup ?_
    dsimp only
    rw [hv, hbad]
    exact Core.captureFail_facts (s.clear.core.withDrawn v) sc.isLt k.pr bad k
  · obtain ⟨v, hv⟩ := Core.writeSweep_eq (c := s.clear.core) (mem := s.mem) (x := x) h1 h2 h3 h4
    have hk0 : k.pr = 0 := by rw [h2, hpr]; rfl
    have hfound := Core.sweepFound_found (c := s.clear.core.withDrawn v) (k := k) hrep (by rw [h2]; exact hall)
    rw [if_pos hk0] at hfound
    refine answersAll_onHubMem _ (exec_writeSweepDone pr hwf) hup ?_
    dsimp only
    rw [hv, hfound]
    refine ⟨⟨_, Core.takeRead_capture _ _ _ _, rfl, rfl⟩, fun i hi y hy => ?_, fun o ho1 ho2 => ?_⟩
    · have hlane := Core.foundLanes_lane (c := s.clear.core.withDrawn v) (n := sc.val) (x := x) (k := k) (y := y) hi
        (by rw [hk0, Nat.mul_zero, Nat.zero_add]; exact hy)
      rw [hk0, Nat.mul_zero, Nat.zero_add] at hlane
      rw [Core.takeRead_lane, Core.readLanes_lane_ne _ _ _ (by omega), hlane]
    · rw [Core.takeRead_get _ _ _ _ ho1 ho2, (Core.ftOnly_foundLanes _ _ _ _).get]
      rfl
  · obtain ⟨v, hv⟩ := Core.writeSweep_eq (c := s.clear.core) (mem := s.mem) (x := x) h1 h2 h3 h4
    have hk1 : k.pr ≠ 0 := by rw [h2, hpr]; decide
    have hfound := Core.sweepFound_found (c := s.clear.core.withDrawn v) (k := k) hrep (by rw [h2]; exact hall)
    rw [if_neg hk1] at hfound
    refine answersAll_onHubMem _ (exec_writeSweepDone pr hwf) hup ?_
    dsimp only
    rw [hv, hfound]
    have honly := Core.ftOnly_foundLanes (s.clear.core.withDrawn v) sc.val x k
    obtain ⟨hcapture, hcal, hcount, hset, hdirty, hstate⟩ :=
      Core.captureDone_facts ((s.clear.core.withDrawn v).foundLanes sc.val x k) sc.val ((s.clear.core.withDrawn v).foundRun sc.val x k)
    refine ⟨hcapture, hcal, hcount.trans (by rw [honly.get]; rfl), ?_, hdirty, hstate⟩
    have hset' : Tbl.get (fun _ => CalSet.none) _ (bandOf k.temp) = _ := hset
    rw [hset']
    refine ⟨rfl, rfl, ?_⟩
    rw [Core.captureSet, Core.calSetOf, Core.speedNow, honly.get, honly.get]
    rfl

end Sys2Proof.Machine
end

section
/-! PROOFS. Heartbeats, decisions and the baton (12_fault_collection.md R304; 15_sail_time_array.md R401 to R403). -/

namespace Sys2Proof.Machine

namespace Core

variable {c : Core} {h : Nat}

/-! ## Heartbeats (R401) -/

theorem showHealth_get (c : Core) {k : Nat} (hk : k ≠ Obj.Baton.HEALTH_MASK) : c.showHealth.get k = c.get k := get_put_ne c _ hk

theorem showHealth_healthy (c : Core) (i : Nat) : c.showHealth.healthy i = c.healthy i := by
  rw [healthy, bitOf, showHealth_get c (by decide), showHealth, halfSt_put, healthy, bitOf]

theorem showHealth_mask (c : Core) (hh : h < 2) : c.showHealth.bitOf Obj.Baton.HEALTH_MASK h = c.healthy h := by
  rw [bitOf, showHealth, get_put_self]
  have hbit : ∀ a b : Bool, (ofBool a + 2 * ofBool b).testBit 0 = a ∧ (ofBool a + 2 * ofBool b).testBit 1 = b := by decide
  interval_cases h
  · exact (hbit _ _).1
  · exact (hbit _ _).2

/-- HEARTBEATS with the register of a half written. -/
def beatsWith (c : Core) (h v : Nat) : Nat := setField (beatBase h + 31) (beatBase h) (c.get Obj.Baton.HEARTBEATS) v

/-- Does a BEAT follow the one before it? -/
def beatFollows (c : Core) (h v : Nat) : Bool :=
  field 31 16 v = (field (beatBase h + 31) (beatBase h + 16) (c.get Obj.Baton.HEARTBEATS) + 1) % 65536

theorem beatsWith_testBit (c : Core) (hh : h < 2) (v : Nat) : (c.beatsWith h v).testBit (beatBase h) = v.testBit 0 := by
  rw [beatsWith]
  generalize c.get Obj.Baton.HEARTBEATS = x
  simp only [Nat.testBit_eq_decide_div_mod_eq, setField, field, Nat.shiftRight_eq_div_pow, Nat.shiftLeft_eq]
  interval_cases h <;> simp [beatBase] <;> omega

/-- What a heartbeat makes of its half. -/
def beaten (c : Core) (h v : Nat) (s : HalfState) : HalfState :=
  { s with
    release := bit 2 v && c.get Obj.Baton.BATON = h
    claim := bit 1 v
    alive := s.alive || c.beatFollows h v
    onTime := s.onTime || (c.beatFollows h v && bit 0 v) }

theorem heartbeatWrite_eq {v : Nat} (hv : field 15 3 v = 0) (hrun : (c.halfSt h).running = true) :
    c.heartbeatWrite h v =
      (((c.put Obj.Baton.HEARTBEATS (c.beatsWith h v)).updHalf h (c.beaten h v)).showHealth).emit (.status .ok) := by
  rw [heartbeatWrite, heartbeat, hv, hrun, if_neg (by decide), if_neg (by decide)]
  rfl

/-! ## The watchdog (R304, R345) -/

/-- A half without a heartbeat, with its event. -/
def unbeaten (c : Core) (h : Nat) : Core :=
  ((c.updHalf h fun s => { s with alive := false }).raise (Src.supWdog h) (ctxNone 0 0)).showHealth

theorem unbeaten_get (c : Core) (h : Nat) {k : Nat} (h1 : ¬ isFcKey k) (h2 : k ≠ Obj.Baton.HEALTH_MASK) :
    (c.unbeaten h).get k = c.get k := by
  rw [unbeaten, showHealth_get _ h2, get_raise _ _ _ h1]
  rfl

theorem unbeaten_healthy (c : Core) (h : Nat) : (c.unbeaten h).healthy h = false := by
  rw [unbeaten, showHealth_healthy, healthy, halfSt_raise, halfSt_updHalf_self]
  rfl

theorem unbeaten_mask (c : Core) (hh : h < 2) : (c.unbeaten h).bitOf Obj.Baton.HEALTH_MASK h = false := by
  rw [unbeaten, showHealth_mask _ hh, ← showHealth_healthy, ← unbeaten, unbeaten_healthy]

theorem supWdog_eq (f : Fuses) (hrun : (c.halfSt h).running = true) :
    c.supWdog f h = if c.halfState h = 2 then (c.unbeaten h).trialRevert f h else c.unbeaten h := by
  have hstate : (c.unbeaten h).halfState h = c.halfState h := byteOf_congr _ _ (unbeaten_get c h (by decide) (by decide))
  rw [supWdog, if_neg (by rw [hrun]; decide), ← hstate]
  rfl

theorem unbeaten_raises (c : Core) (hh : h < 2) : c.Raises (Src.supWdog h) (c.unbeaten h) := by
  have hsource : ∀ h : Half, (sourceInfo? (Src.supWdog h.val)).isNone = false := by decide +kernel
  refine (raises_of_raise (d := c.updHalf h fun s => { s with alive := false }) (ctxNone 0 0) (hsource ⟨h, hh⟩) rfl rfl).of_get
    (e := c.unbeaten h) ?_
  exact showHealth_get _ (by simp; omega)

/-- A trial's end, whichever way it goes. -/
theorem trialRevert_cases (c : Core) (f : Fuses) (h : Nat) : ∃ d, d = (c.flag Obj.Sec.FLAGS 5).raise Src.secBoot (ctxNone 0 0) ∧
    (c.trialRevert f h = d.runImage h (c.halfSt h).before 0 ∨ c.trialRevert f h = d.recover h) := by
  refine ⟨_, rfl, ?_⟩
  unfold trialRevert
  dsimp only
  split
  · exact .inl rfl
  · exact .inr rfl

theorem trialRevert_facts (c : Core) (f : Fuses) (hh : h < 2) : (c.trialRevert f h).bitOf Obj.Sec.FLAGS 5 = true ∧
    (c.trialRevert f h).halfState h ≠ 2 ∧
    (c.trialRevert f h).get (Obj.Source.COUNT (Src.supWdog h)) = c.get (Obj.Source.COUNT (Src.supWdog h)) := by
  have hne : Src.supWdog h ≠ Src.secBoot := by interval_cases h <;> decide
  obtain ⟨d, hd, hcases⟩ := trialRevert_cases c f h
  have hflag : d.bitOf Obj.Sec.FLAGS 5 = true := by
    rw [hd, bitOf, get_raise _ _ _ (by decide)]
    exact bitOf_flag_self c _ 5
  have hcount : d.get (Obj.Source.COUNT (Src.supWdog h)) = c.get (Obj.Source.COUNT (Src.supWdog h)) := by
    rw [hd, raise_count_ne _ _ hne, get_flag_ne _ _ (by simp; omega)]
  rcases hcases with hrun | hrec
  · rw [hrun]
    refine ⟨?_, ?_, ?_⟩
    · rw [bitOf_congr 5 (runImage_get (by decide) (by decide) (by decide)), hflag]
    · rw [runImage_halfState hh hh (by decide), if_pos rfl]
      decide
    · rw [runImage_get (by simp; omega) (by simp; omega) (by simp; omega), hcount]
  · obtain ⟨hstate, -, -, hkeep, -⟩ := recover_facts (c := d) hh
    rw [hrec]
    refine ⟨(hkeep 5 (by decide)).trans hflag, by rw [hstate]; decide, ?_⟩
    rw [recover, raise_count_ne _ _ hne, get_flag_ne _ _ (by simp; omega), get_updHalf, setHalf, putByte,
      get_put_ne _ _ (by simp; omega), hcount]

end Core

/-! ## Decisions (R402) -/

theorem filter_num_of_find_none {l : List Decision} {num : Nat} (h : l.find? (fun d => d.num == num) = none) :
    l.filter (fun d => d.num != num) = l := by
  rw [List.filter_eq_self]
  intro d hd
  simpa using List.find?_eq_none.1 h d hd

namespace Core

variable {c : Core} {h : Nat}

/-- The decision with the digest that the half posts. -/
def posted (h digest : Nat) (d : Decision) : Decision := if h = 0 then { d with east := some digest } else { d with west := some digest }

theorem decisionPost_eq {num digest : Nat} (hrun : (c.halfSt h).running = true) (d : Decision)
    (hd : posted h digest ((c.decisions.find? fun d => d.num == num).getD { num := num, east := none, west := none }) = d) :
    c.decisionPost h num digest = c.withDecisions
      (if d.agreed then c.decisions.filter (fun d => d.num != num) else c.decisions.filter (fun d => d.num != num) ++ [d]) := by
  subst hd
  rw [decisionPost, hrun]
  rfl

theorem posted_of_none (h num digest : Nat) : posted h digest { num := num, east := none, west := none } =
    ⟨num, if h = 0 then some digest else none, if h = 0 then none else some digest⟩ := by
  unfold posted
  split <;> rfl

theorem posted_second {digest x : Nat} {d : Decision} (hx : (if h = 0 then d.west else d.east) = some x) :
    (posted h digest d).num = d.num ∧ (posted h digest d).agreed = decide (x = digest) ∧
      (posted h digest d).differs = decide (x ≠ digest) := by
  unfold posted
  by_cases h0 : h = 0
  · rw [if_pos h0] at hx
    rw [if_pos h0]
    refine ⟨rfl, ?_, ?_⟩ <;> simp [Decision.agreed, Decision.differs, hx, eq_comm]
  · rw [if_neg h0] at hx
    rw [if_neg h0]
    refine ⟨rfl, ?_, ?_⟩ <;> simp [Decision.agreed, Decision.differs, hx]

/-- The decision that misses a digest is gone, and the late half is not on time. -/
def missed (c : Core) (num late : Nat) : Core :=
  (((c.withDecisions (c.decisions.filter fun d => d.num != num)).inc Obj.Baton.DECIDE_MISS).updHalf late
    fun s => { s with onTime := false }).showHealth

theorem decideMiss_eq {num late : Nat} {d : Decision}
    (hd : (c.decisions.find? fun e => e.num == num && (e.east.isNone || e.west.isNone)) = some d)
    (hlate : late = if d.east.isNone then 0 else 1) : c.decideMiss num = c.missed num late := by
  rw [decideMiss, hd, hlate]
  rfl

theorem missed_facts (c : Core) (num : Nat) {late : Nat} (hl : late < 2) :
    (c.missed num late).get Obj.Baton.DECIDE_MISS = min (c.get Obj.Baton.DECIDE_MISS + 1) (2 ^ 32 - 1) ∧
    (c.missed num late).healthy late = false ∧ (c.missed num late).bitOf Obj.Baton.HEALTH_MASK late = false ∧
    (c.missed num late).decisions = c.decisions.filter (fun e => e.num != num) ∧
    ∀ k, k ≠ Obj.Baton.DECIDE_MISS → k ≠ Obj.Baton.HEALTH_MASK → (c.missed num late).get k = c.get k := by
  have hhealthy : (((c.withDecisions (c.decisions.filter fun d => d.num != num)).inc Obj.Baton.DECIDE_MISS).updHalf late
      fun s => { s with onTime := false }).healthy late = false := by
    rw [healthy, halfSt_updHalf_self]
    dsimp only
    rw [Bool.and_false, Bool.false_and]
  refine ⟨?_, ?_, ?_, rfl, fun k h1 h2 => ?_⟩
  · rw [missed, showHealth_get _ (by decide), get_updHalf, get_inc_self, sat_eq_min]
    rfl
  · rw [missed, showHealth_healthy, hhealthy]
  · rw [missed, showHealth_mask _ hl, hhealthy]
  · rw [missed, showHealth_get _ h2, get_updHalf, get_inc_ne _ h1]
    rfl

/-! ## Arbitration (R403) -/

/-- The half's CLAIM and RELEASE are cleared. -/
def unclaim (s : HalfState) : HalfState := { s with release := false, claim := false }

/-- The baton and its objects after a move. -/
def movedBaton (c : Core) (cause : Nat) : Core :=
  [1, 2, 33, 34].foldl (fun c n => c.putBit Obj.Baton.HEARTBEATS n false)
    ((((c.put Obj.Baton.BATON (1 - c.get Obj.Baton.BATON)).inc Obj.Baton.MOVES).put Obj.Baton.LAST_MOVE_CAUSE cause).put
      Obj.Baton.T_LAST_MOVE c.hubTime)

theorem moveBaton_eq (c : Core) (cause : Nat) : c.moveBaton cause =
    (((c.movedBaton cause).updHalf 0 unclaim).updHalf 1 unclaim).raise Src.batonMoved (ctxNone 0 0) := rfl

theorem movedBaton_get (c : Core) (cause : Nat) {k : Nat} (hk : k ≠ Obj.Baton.HEARTBEATS) : (c.movedBaton cause).get k =
    ((((c.put Obj.Baton.BATON (1 - c.get Obj.Baton.BATON)).inc Obj.Baton.MOVES).put Obj.Baton.LAST_MOVE_CAUSE cause).put
      Obj.Baton.T_LAST_MOVE c.hubTime).get k := by
  simp only [movedBaton, List.foldl_cons, List.foldl_nil, putBit, get_put_ne _ _ hk]

theorem movedBaton_fc (c : Core) (cause : Nat) : (c.movedBaton cause).fc = c.fc := by
  simp only [movedBaton, List.foldl_cons, List.foldl_nil, putBit, inc, add, fc_put]

theorem moveBaton_facts (c : Core) (cause : Nat) :
    (c.moveBaton cause).get Obj.Baton.BATON = 1 - c.get Obj.Baton.BATON ∧
    (c.moveBaton cause).get Obj.Baton.LAST_MOVE_CAUSE = cause ∧ (c.moveBaton cause).get Obj.Baton.T_LAST_MOVE = c.hubTime ∧
    (c.moveBaton cause).get Obj.Baton.MOVES = min (c.get Obj.Baton.MOVES + 1) (2 ^ 32 - 1) ∧
    (∀ h < 2, ((c.moveBaton cause).halfSt h).claim = false ∧ ((c.moveBaton cause).halfSt h).release = false) ∧
    c.Raises Src.batonMoved (c.moveBaton cause) := by
  rw [moveBaton_eq]
  refine ⟨?_, ?_, ?_, ?_, fun h hh => ?_, ?_⟩
  · rw [get_raise _ _ _ (by decide), get_updHalf, get_updHalf, movedBaton_get _ _ (by decide), get_put_ne _ _ (by decide),
      get_put_ne _ _ (by decide), get_inc_ne _ (by decide), get_put_self]
  · rw [get_raise _ _ _ (by decide), get_updHalf, get_updHalf, movedBaton_get _ _ (by decide), get_put_ne _ _ (by decide), get_put_self]
  · rw [get_raise _ _ _ (by decide), get_updHalf, get_updHalf, movedBaton_get _ _ (by decide), get_put_self]
  · rw [get_raise _ _ _ (by decide), get_updHalf, get_updHalf, movedBaton_get _ _ (by decide), get_put_ne _ _ (by decide),
      get_put_ne _ _ (by decide), get_inc_self, get_put_ne _ _ (by decide), sat_eq_min]
  · rw [halfSt_raise]
    interval_cases h
    · rw [halfSt_updHalf_ne _ _ (by decide), halfSt_updHalf_self]
      exact ⟨rfl, rfl⟩
    · rw [halfSt_updHalf_self]
      exact ⟨rfl, rfl⟩
  · refine raises_of_raise _ (by decide) (movedBaton_fc c cause) ?_
    rw [get_updHalf, get_updHalf, movedBaton_get _ _ (by decide), get_put_ne _ _ (by decide), get_put_ne _ _ (by decide),
      get_inc_ne _ (by decide), get_put_ne _ _ (by decide)]

/-- With no injection of its source, the end of a conflict changes the collector alone. -/
theorem calm_facts (hinj : c.injected Src.batonConflict = false) :
    c.FcOnly (c.endStanding Src.batonConflict) ∧
    (c.Hears Src.batonMoved → (c.endStanding Src.batonConflict).Hears Src.batonMoved) ∧
    (c.endStanding Src.batonConflict).get (Obj.Source.COUNT Src.batonMoved) = c.get (Obj.Source.COUNT Src.batonMoved) := by
  refine ⟨fcOnly_endStanding c _ (by decide), ?_⟩
  rw [endStanding, if_neg (by rw [hinj]; decide)]
  split
  · exact ⟨id, rfl⟩
  · refine ⟨fun ⟨h1, h2, h3, h4⟩ => ⟨?_, ?_, ?_, ?_⟩, setPair_get _ _ _ (by decide)⟩
    · rw [setPair, putBit, fc_put, fc_withFc, h1]
    · rw [injected_setPair, h2]
    · rw [setPair, putBit, pairOf, fc_put, fc_withFc, ← h3]
      exact Tbl.get_set_ne _ _ _ (by decide)
    · rw [setPair, putBit, fc_put, fc_withFc, h4]

theorem calm_of_idle (hinj : c.injected Src.batonConflict = false) (hpair : c.pairOf Src.batonConflict = 0) :
    c.endStanding Src.batonConflict = c := by
  rw [endStanding, hinj, hpair]
  rfl

section
variable {b : Nat} (hb : b = c.get Obj.Baton.BATON)
include hb

theorem batonCase_of_down (hb1 : b ≤ 1) (ho : c.healthy (1 - b) = true) (hdown : c.healthy b = false) :
    c.batonCase = if (c.halfSt 0).claim && (c.halfSt 1).claim then 2 else 3 := by
  have hboth : (c.healthy 0 && c.healthy 1) = false := by
    interval_cases b <;> simp [hdown]
  rw [batonCase, ← hb, hboth, ho, hdown]
  rfl

theorem batonCase_of_release (ho : c.healthy (1 - b) = true) (hup : c.healthy b = true)
    (hclaim : ((c.halfSt 0).claim && (c.halfSt 1).claim) = false) (hagree : ∀ d ∈ c.decisions, d.differs = false)
    (hrel : (c.halfSt b).release = true) : c.batonCase = 4 := by
  have hany : c.decisions.any Decision.differs = false := by simpa using hagree
  rw [batonCase, ← hb, hany, hclaim, ho, hup, hrel, Bool.and_false]
  rfl

theorem batonCase_of_quiet (hup : c.healthy b = true) (hclaim : ((c.halfSt 0).claim && (c.halfSt 1).claim) = false)
    (hagree : ∀ d ∈ c.decisions, d.differs = false) (hrel : (c.halfSt b).release = false) : c.batonCase = 0 := by
  have hany : c.decisions.any Decision.differs = false := by simpa using hagree
  rw [batonCase, ← hb, hany, hclaim, hup, hrel, Bool.and_false]
  rfl

end

/-- Conflicting halves, both HEALTHY, keep the baton. -/
theorem arbitrate_of_conflict (h0 : c.healthy 0 = true) (h1 : c.healthy 1 = true)
    (hc : c.decisions.any Decision.differs = true ∨ ((c.halfSt 0).claim = true ∧ (c.halfSt 1).claim = true)) :
    ∃ v, c.arbitrate = (c.withDecisions v).raiseStanding Src.batonConflict (ctxNone 0 0) := by
  by_cases hany : c.decisions.any Decision.differs = true
  · have hcase : c.batonCase = 1 := by
      rw [batonCase, h0, h1, hany]
      rfl
    refine ⟨c.decisions.filter fun d => !d.differs, ?_⟩
    rw [arbitrate, hcase]
    rfl
  · obtain ⟨hc0, hc1⟩ := hc.resolve_left hany
    have hcase : c.batonCase = 2 := by
      have hnone : c.decisions.any Decision.differs = false := by simpa using hany
      rw [batonCase, h0, h1, hnone, hc0, hc1]
      rfl
    refine ⟨c.decisions, ?_⟩
    rw [arbitrate, hcase]
    dsimp only
    rw [h0, h1]
    rfl

/-- The arbitration that moves the baton. -/
theorem arbitrate_of_move {b cause : Nat} (hb : b = c.get Obj.Baton.BATON) (hb1 : b ≤ 1) (ho : c.healthy (1 - b) = true)
    (hcause : (c.healthy b = false ∧ cause = if (c.halfSt 0).claim && (c.halfSt 1).claim then 1 else 2) ∨
      (c.healthy b = true ∧ ((c.halfSt 0).claim && (c.halfSt 1).claim) = false ∧ (∀ d ∈ c.decisions, d.differs = false) ∧
        (c.halfSt b).release = true ∧ cause = 3)) :
    c.arbitrate = (c.endStanding Src.batonConflict).moveBaton cause := by
  rcases hcause with ⟨hdown, hcause⟩ | ⟨hup, hclaim, hagree, hrel, hcause⟩
  · have hboth : (c.healthy 0 && c.healthy 1) = false := by
      interval_cases b <;> simp [hdown]
    rw [arbitrate, batonCase_of_down hb hb1 ho hdown, hcause]
    by_cases hclaim : ((c.halfSt 0).claim && (c.halfSt 1).claim) = true
    · rw [if_pos hclaim, if_pos hclaim]
      dsimp only
      rw [hboth, ← hb, ho, hdown]
      rfl
    · rw [if_neg hclaim, if_neg hclaim]
      rfl
  · rw [arbitrate, batonCase_of_release hb ho hup hclaim hagree hrel, hcause]
    rfl

end Core

theorem exec_supWdog (h : Half) (s : State) : exec (.supWdog h) s = .next (s.onFuses fun c f => c.supWdog f h.val) := rfl

/-- Settles O57: heartbeats and their end, the two ends of a decision, and the rows of R403. -/
theorem batons : Obligations.Batons := by
  unfold Obligations.Batons
  refine ⟨fun s h v hup hv hrun => ?_, fun s h hup hrun => ?_, fun s h num digest old hup hrun hold => ?_,
    fun s num late d hup hd hlate => ?_, fun s b cause claims hup hb hb1 hclaims ho hcause => ?_, fun s hup h0 h1 hc => ?_,
    fun s b hup hb hb1 hagree hhealthy hrel hclaim hother hinj hpair => ?_⟩
  · have heq := Core.heartbeatWrite_eq (c := s.clear.core) hv hrun
    have hget : ∀ k, k ≠ Obj.Baton.HEALTH_MASK → (s.clear.core.heartbeatWrite h.val v.toNat).get k =
        (s.clear.core.put Obj.Baton.HEARTBEATS (s.clear.core.beatsWith h.val v.toNat)).get k := fun k hk => by
      rw [heq, Core.get_emit, Core.showHealth_get _ hk, Core.get_updHalf]
    have hhalf : (s.clear.core.heartbeatWrite h.val v.toNat).halfSt h.val =
        s.clear.core.beaten h.val v.toNat (s.core.halfSt h.val) := by
      rw [heq, Core.halfSt_emit, Core.showHealth, Core.halfSt_put, Core.halfSt_updHalf_self, Core.halfSt_put]
      rfl
    refine answersCore_onAo _ rfl hup (by rw [heq]; rfl) ⟨by rw [heq]; rfl, ?_, ?_, ?_, fun hfollows => ?_, fun hnot => ?_, fun k h1 h2 => ?_⟩
    · rw [hget _ (by decide), Core.get_put_self]
      rfl
    · rw [hhalf]
      rfl
    · rw [hhalf]
      rfl
    · have hfollows' : s.clear.core.beatFollows h.val v.toNat = true := decide_eq_true hfollows
      have halive : ((s.clear.core.heartbeatWrite h.val v.toNat).halfSt h.val).alive = true := by
        rw [hhalf, Core.beaten, hfollows']
        exact Bool.or_true _
      refine ⟨halive, fun h0 => ?_⟩
      have hbeat : (s.clear.core.heartbeatWrite h.val v.toNat).bitOf Obj.Baton.HEARTBEATS (beatBase h.val) = true := by
        rw [Core.bitOf, hget _ (by decide), Core.get_put_self, Core.beatsWith_testBit _ h.isLt]
        exact h0
      have htime : ((s.clear.core.heartbeatWrite h.val v.toNat).halfSt h.val).onTime = true := by
        rw [hhalf, Core.beaten, hfollows', h0]
        exact Bool.or_true _
      have hhealthy : (s.clear.core.heartbeatWrite h.val v.toNat).healthy h.val = true := by
        rw [Core.healthy, halive, htime, hbeat]
        rfl
      refine ⟨hhealthy, ?_⟩
      rw [heq, Core.bitOf, Core.get_emit, ← Core.bitOf, Core.showHealth_mask _ h.isLt, ← Core.showHealth_healthy]
      rw [heq] at hhealthy
      exact hhealthy
    · have hnot' : s.clear.core.beatFollows h.val v.toNat = false := decide_eq_false hnot
      rw [hhalf, Core.beaten, hnot', Bool.false_and]
      exact ⟨Bool.or_false _, Bool.or_false _⟩
    · rw [hget _ h2, Core.get_put_ne _ _ h1]
      rfl
  · refine answersThen_onFuses _ (exec_supWdog h s) hup ?_
    rw [Core.supWdog_eq (c := s.clear.core) s.fuses hrun]
    refine ⟨fun hstate => ?_, fun hstate => ?_, ?_⟩
    · rw [if_neg (by exact hstate)]
      exact ⟨Core.unbeaten_healthy _ _, Core.unbeaten_mask _ h.isLt⟩
    · obtain ⟨hflag, hst, -⟩ := Core.trialRevert_facts (s.clear.core.unbeaten h.val) s.fuses h.isLt
      rw [if_pos (by exact hstate)]
      exact ⟨hflag, hst⟩
    · refine (Core.unbeaten_raises s.clear.core h.isLt).of_get ?_
      split
      · exact (Core.trialRevert_facts (s.clear.core.unbeaten h.val) s.fuses h.isLt).2.2
      · rfl
  · have heq := Core.decisionPost_eq (c := s.clear.core) (num := num) (digest := digest.toNat) hrun _ rfl
    refine answersCore_onAo _ rfl hup (by rw [heq]; rfl) ?_
    rw [heq]
    have hold' : s.clear.core.decisions.find? (fun d => d.num == num) = old := hold.symm
    rw [hold']
    refine ⟨fun hnone => ?_, fun d x hd hx => ?_, fun k => rfl⟩
    · have hagreed : (Core.posted h.val digest.toNat { num := num, east := none, west := none }).agreed = false := by
        rw [Core.posted_of_none]
        by_cases h0 : h.val = 0 <;> simp [Decision.agreed, h0]
      subst hnone
      rw [Option.getD_none, hagreed, filter_num_of_find_none hold', Core.posted_of_none]
      rfl
    · obtain ⟨hnum, hagreed, hdiffers⟩ := Core.posted_second (digest := digest.toNat) hx
      subst hd
      rw [Option.getD_some, hagreed]
      refine ⟨fun hsame => ?_, fun hdiffer => ⟨Core.posted h.val digest.toNat d, ?_, ?_, ?_⟩⟩
      · rw [if_pos (by simpa using hsame)]
        rfl
      · rw [if_neg (by simpa using hdiffer)]
        exact List.mem_append_right _ (List.mem_singleton_self _)
      · have hfound := List.find?_some hold'
        rw [hnum]
        simpa using hfound
      · rw [hdiffers]
        simpa using hdiffer
  · have heq := Core.decideMiss_eq (c := s.clear.core) hd hlate
    refine answersCore_onAo _ rfl hup (by rw [heq]; rfl) ?_
    rw [heq]
    exact Core.missed_facts s.clear.core num (by rw [hlate]; split <;> omega)
  · have heq := Core.arbitrate_of_move (c := s.clear.core) hb hb1 ho (by rw [hclaims] at hcause; exact hcause)
    refine answersThen_onAo _ rfl hup ?_
    rw [heq]
    obtain ⟨hbaton, hlast, htime, hmoves, hhalves, hraises⟩ :=
      Core.moveBaton_facts (s.clear.core.endStanding Src.batonConflict) cause
    have honly := Core.fcOnly_endStanding s.clear.core Src.batonConflict (by decide)
    refine ⟨?_, hlast, htime.trans honly.hubTime, ?_, fun hinj => ?_, hhalves⟩
    · rw [hbaton, honly.get (by decide), hb]
      rfl
    · rw [hmoves, honly.get (by decide)]
      rfl
    · obtain ⟨-, hhears, hcount⟩ := Core.calm_facts (c := s.clear.core) hinj
      exact fun hh => (hraises (hhears hh)).trans (by rw [hcount])
  · obtain ⟨v, heq⟩ := Core.arbitrate_of_conflict (c := s.clear.core) h0 h1 hc
    refine answersThen_onAo _ rfl hup ?_
    rw [heq]
    refine ⟨?_, ?_, fun hhears => ?_, Core.raises_of_raiseStanding _ (by decide) rfl rfl⟩
    · rw [Core.get_raiseStanding _ _ _ (by decide)]
      rfl
    · rw [Core.get_raiseStanding _ _ _ (by decide)]
      rfl
    · obtain ⟨hrun, hinj, hpair, -⟩ := hhears
      rw [Core.raiseStanding_of_idle (c := s.clear.core.withDecisions v) _ (by decide) hrun hinj hpair, Core.setPair_active]
      rfl
  · have hboth : ((s.core.halfSt 0).claim && (s.core.halfSt 1).claim) = false := by
      interval_cases b <;> simp [hclaim]
    have hcase := Core.batonCase_of_quiet (c := s.clear.core) hb hhealthy hboth hagree hrel
    have hcalm := Core.calm_of_idle (c := s.clear.core) hinj hpair
    have heq : s.clear.core.arbitrate =
        (s.clear.core.inc Obj.Baton.CLAIM_REFUSED).updHalf (1 - b) fun x => { x with claim := false } := by
      have hother' : (s.clear.core.halfSt (1 - b)).claim = true := hother
      have hb' : s.clear.core.get Obj.Baton.BATON = b := hb.symm
      rw [Core.arbitrate, hcase, hcalm, hb']
      exact if_pos hother'
    refine answersCore_onAo _ rfl hup (by rw [heq]; rfl) ?_
    rw [heq]
    refine ⟨?_, ?_, fun k hk => ?_⟩
    · rw [Core.get_updHalf, Core.get_inc_self, Core.sat_eq_min]
      rfl
    · rw [Core.halfSt_updHalf_self]
    · rw [Core.get_updHalf, Core.get_inc_ne _ hk]
      rfl

end Sys2Proof.Machine
end

section
/-! PROOFS. Sail messages as they leave a port (15_sail_time_array.md R384, R385, R391, R392): what a port's transmitter changes, and
what it does not. -/

namespace Sys2Proof.Machine

namespace Core

variable {c d e : Core} {k : Nat}

/-- The transmitter's state aside, the port stands as before. -/
def SamePort (x y : SailPortState) : Prop := y = { x with txSeq := y.txSeq, unack := y.unack, queue := y.queue }

theorem SamePort.refl (x : SailPortState) : SamePort x x := rfl
theorem SamePort.trans {x y z : SailPortState} (h : SamePort x y) (h' : SamePort y z) : SamePort x z := by rw [SamePort, h', h]

/-- `d` differs from `c` in transmitters of ports, in what leaves the hub and, at most, in TRIG_DROPPED. -/
def SailSent (c d : Core) : Prop :=
  d = { c with objs := d.objs, sail := d.sail, out := d.out } ∧ d.sail = { c.sail with ports := d.sail.ports } ∧
    (∀ k, k ≠ Obj.Sail.TRIG_DROPPED → d.get k = c.get k) ∧ ∀ j, SamePort (c.sailOf j) (d.sailOf j)

theorem SailSent.refl (c : Core) : c.SailSent c := ⟨rfl, rfl, fun _ _ => rfl, fun _ => rfl⟩

theorem SailSent.trans (h : c.SailSent d) (h' : d.SailSent e) : c.SailSent e := by
  obtain ⟨h1, h2, h3, h4⟩ := h
  obtain ⟨k1, k2, k3, k4⟩ := h'
  exact ⟨by rw [k1, h1], by rw [k2, h2], fun o ho => (k3 o ho).trans (h3 o ho), fun j => (h4 j).trans (k4 j)⟩

section
variable (h : c.SailSent d)
include h

theorem SailSent.get {o : Nat} (ho : o ≠ Obj.Sail.TRIG_DROPPED) : d.get o = c.get o := h.2.2.1 o ho
theorem SailSent.fc : d.fc = c.fc := by rw [h.1]
theorem SailSent.req : d.req = c.req := by rw [h.1]
theorem SailSent.hubTime : d.hubTime = c.hubTime := by rw [h.1]
theorem SailSent.tick : d.tick = c.tick := by rw [h.1]
theorem SailSent.time : d.time = c.time := by rw [h.1]
theorem SailSent.wins : d.wins = c.wins := by rw [h.1]
theorem SailSent.epochs : d.sail.epochs = c.sail.epochs := by rw [h.2.1]
theorem SailSent.epochNum : d.sail.epochNum = c.sail.epochNum := by rw [h.2.1]
theorem SailSent.latched : d.sail.latched = c.sail.latched := by rw [h.2.1]
theorem SailSent.hubs : d.sail.hubs = c.sail.hubs := by rw [h.2.1]
theorem SailSent.rxNext (j : Nat) : (d.sailOf j).rxNext = (c.sailOf j).rxNext := by rw [h.2.2.2 j]
theorem SailSent.farRoot (j : Nat) : (d.sailOf j).farRoot = (c.sailOf j).farRoot := by rw [h.2.2.2 j]
theorem SailSent.farDepth (j : Nat) : (d.sailOf j).farDepth = (c.sailOf j).farDepth := by rw [h.2.2.2 j]
theorem SailSent.hello (j : Nat) : (d.sailOf j).hello = (c.sailOf j).hello := by rw [h.2.2.2 j]
theorem SailSent.subtree (j : Nat) : (d.sailOf j).subtree = (c.sailOf j).subtree := by rw [h.2.2.2 j]

theorem SailSent.spState (j : Nat) : d.spState j = c.spState j := h.get (by simp; omega)
theorem SailSent.spUp (j : Nat) : d.spUp j = c.spUp j := by rw [Core.spUp, h.spState, Core.spUp]

theorem SailSent.latestEpoch : d.latestEpoch = c.latestEpoch := by
  rw [Core.latestEpoch, h.epochs, h.latched, Core.latestEpoch]

theorem SailSent.roleNow : d.roleNow = c.roleNow := by
  have hroot : d.isSet Obj.Sail.ROOT = c.isSet Obj.Sail.ROOT := by rw [isSet, h.get (by decide), isSet]
  rw [Core.roleNow, hroot, h.spState, h.spUp, h.spUp, h.spUp, Core.roleNow]

theorem SailSent.subtreeNow : d.subtreeNow = c.subtreeNow := by
  simp only [Core.subtreeNow, List.foldl_cons, List.foldl_nil, h.spUp, h.subtree]

end

theorem sailSent_updSail (c : Core) (k : Nat) {f : SailPortState → SailPortState} (h : SamePort (c.sailOf k) (f (c.sailOf k))) :
    c.SailSent (c.updSail k f) := by
  refine ⟨rfl, rfl, fun _ _ => rfl, fun j => ?_⟩
  by_cases hj : j = k
  · rw [hj, sailOf_updSail_self]
    exact h
  · rw [sailOf_updSail_ne _ _ hj]
    exact SamePort.refl _

theorem sailSent_emit (c : Core) (o : Out) : c.SailSent (c.emit o) := ⟨rfl, rfl, fun _ _ => rfl, fun _ => rfl⟩
theorem sailSent_sailEmit (c : Core) (k : Nat) (m : SailMsg) : c.SailSent (c.sailEmit k m) := sailSent_emit c _
theorem sailSent_sailAck (c : Core) (k : Nat) : c.SailSent (c.sailAck k) := sailSent_emit c _

theorem sailSent_ite {b : Prop} [Decidable b] {x y : Core} (hx : c.SailSent x) (hy : c.SailSent y) : c.SailSent (if b then x else y) := by
  split
  · exact hx
  · exact hy

theorem sailSent_each (n : Nat) (f : Core → Nat → Core) (hf : ∀ (d : Core) (i : Nat), d.SailSent (f d i)) (c : Core) :
    c.SailSent (c.each n f) :=
  each_induct (fun d => c.SailSent d) n f c (SailSent.refl c) fun d i _ h => h.trans (hf d i)

/-- A message as it starts: with its LSEQ, and a HEALTH message of this hub with its T_SENT (R385, R387). -/
def started (c : Core) (k : Nat) (m : SailMsg) : SailMsg :=
  { m with
    lseq := (c.sailOf k).txSeq
    body := if m.mtype = 5 && m.hops = 0 then m.body.take 12 ++ toBytes 12 c.hubTime ++ m.body.drop 24 else m.body }

theorem sailLaunch_eq (c : Core) (k : Nat) (m : SailMsg) : c.sailLaunch k m =
    (c.updSail k fun s => { s with txSeq := ((c.sailOf k).txSeq + 1) % 65536, unack := s.unack ++ [c.started k m] }).sailEmit k
      (c.started k m) := rfl

theorem sailSent_sailLaunch (c : Core) (k : Nat) (m : SailMsg) : c.SailSent (c.sailLaunch k m) := by
  rw [sailLaunch_eq]
  refine (sailSent_updSail c k ?_).trans (sailSent_sailEmit _ k _)
  rfl

theorem sailSent_sailSend (c : Core) (k : Nat) (m : SailMsg) : c.SailSent (c.sailSend k m) := by
  unfold sailSend
  refine sailSent_ite (sailSent_sailLaunch c k m) (sailSent_ite (sailSent_updSail c k ?_) (sailSent_ite ?_ (SailSent.refl c)))
  · rfl
  · exact ⟨rfl, rfl, fun o ho => get_inc_ne c ho, fun _ => rfl⟩

theorem sailSent_sailFlood (c : Core) (skip : Nat) (m : SailMsg) : c.SailSent (c.sailFlood skip m) :=
  sailSent_each 4 _ (fun d i => sailSent_ite (sailSent_sailSend d i m) (SailSent.refl d)) c

theorem sailSent_sendHello (c : Core) (k : Nat) : c.SailSent (c.sendHello k) := sailSent_sailSend c k _

/-- A message that is no TRIGGER touches no object. -/
theorem get_sailSend {m : SailMsg} (h : m.mtype ≠ 1) (c : Core) (k o : Nat) : (c.sailSend k m).get o = c.get o := by
  unfold sailSend
  dsimp only
  rw [if_neg h]
  split_ifs <;> rfl

theorem get_sailFlood {m : SailMsg} (h : m.mtype ≠ 1) (c : Core) (skip o : Nat) : (c.sailFlood skip m).get o = c.get o :=
  each_induct (fun d => d.get o = c.get o) 4 _ c rfl fun d i _ hd => by
    split
    · rw [get_sailSend h, hd]
    · exact hd

/-! ## One port -/

theorem sailSend_of_free (m : SailMsg) (h : c.sailFree k) : c.sailSend k m = c.sailLaunch k m := by
  obtain ⟨h1, h2⟩ := h
  rw [sailSend, if_pos (by simp [h1, h2])]

theorem sailOf_sailLaunch (c : Core) (k : Nat) (m : SailMsg) : (c.sailLaunch k m).sailOf k =
    { c.sailOf k with txSeq := ((c.sailOf k).txSeq + 1) % 65536, unack := (c.sailOf k).unack ++ [c.started k m] } := by
  rw [sailLaunch_eq]
  exact sailOf_updSail_self c k _

theorem sailOf_sailLaunch_ne (c : Core) {k j : Nat} (m : SailMsg) (h : j ≠ k) : (c.sailLaunch k m).sailOf j = c.sailOf j := by
  rw [sailLaunch_eq]
  exact sailOf_updSail_ne c _ h

theorem sailOf_sailSend_ne (c : Core) {k j : Nat} (m : SailMsg) (h : j ≠ k) : (c.sailSend k m).sailOf j = c.sailOf j := by
  unfold sailSend
  dsimp only
  split_ifs
  · exact sailOf_sailLaunch_ne c m h
  · exact sailOf_updSail_ne c _ h
  · rfl
  · rfl

/-- The ports that a flood leaves alone. -/
theorem sailOf_sailFlood_ne (c : Core) {skip j : Nat} (m : SailMsg) (h : j = skip ∨ c.spUp j = false) :
    (c.sailFlood skip m).sailOf j = c.sailOf j := by
  have hall : c.SailSent (c.sailFlood skip m) ∧ (c.sailFlood skip m).sailOf j = c.sailOf j := by
    refine each_induct (fun d => c.SailSent d ∧ d.sailOf j = c.sailOf j) 4 _ c ⟨SailSent.refl c, rfl⟩ fun d i _ hd => ?_
    obtain ⟨hsent, hport⟩ := hd
    by_cases hi : (decide (i ≠ skip) && d.spUp i) = true
    · rw [if_pos hi]
      refine ⟨hsent.trans (sailSent_sailSend d i m), ?_⟩
      rw [sailOf_sailSend_ne _ _ fun hji => ?_, hport]
      simp only [Bool.and_eq_true, decide_eq_true_eq, hsent.spUp] at hi
      rcases h with h | h
      · exact hi.1 (hji.symm.trans h)
      · rw [hji, hi.2] at h
        exact absurd h (by decide)
    · rw [if_neg hi]
      exact ⟨hsent, hport⟩
  exact hall.2

/-- A free port that is UP starts the message. -/
theorem sailOf_sailFlood (c : Core) {skip j : Nat} (m : SailMsg) (hj : j < 4) (hskip : j ≠ skip) (hup : c.spUp j = true)
    (hfree : c.sailFree j) : (c.sailFlood skip m).sailOf j =
      { c.sailOf j with txSeq := ((c.sailOf j).txSeq + 1) % 65536, unack := (c.sailOf j).unack ++ [c.started j m] } := by
  have hstep : ∀ (d : Core) (i : Nat), d.SailSent (if i ≠ skip && d.spUp i then d.sailSend i m else d) := fun d i =>
    sailSent_ite (sailSent_sailSend d i m) (SailSent.refl d)
  have hother : ∀ (d : Core) (i : Nat), i ≠ j → (if i ≠ skip && d.spUp i then d.sailSend i m else d).sailOf j = d.sailOf j := by
    intro d i hij
    split
    · exact sailOf_sailSend_ne d m (Ne.symm hij)
    · rfl
  refine each_reaches (P := fun d => c.SailSent d ∧ d.sailOf j = c.sailOf j) (Q := fun d => d.sailOf j = _) hj
    (fun d i hi hd => ⟨hd.1.trans (hstep d i), (hother d i (by omega)).trans hd.2⟩) (fun d hd => ?_)
    (fun d i hi _ hd => (hother d i (by omega)).trans hd) ⟨SailSent.refl c, rfl⟩
  obtain ⟨hsent, hport⟩ := hd
  have hfree' : d.sailFree j := by
    rw [sailFree, hport]
    exact hfree
  rw [if_pos (by simp [hskip, hsent.spUp, hup]), sailSend_of_free m hfree', sailOf_sailLaunch, hport, started, hport, hsent.hubTime,
    started]

/-- A message whose body goes as it stands. -/
theorem started_of_plain (c : Core) (k : Nat) {m : SailMsg} (h : m.mtype = 5 → m.hops ≠ 0) :
    c.started k m = { m with lseq := (c.sailOf k).txSeq } := by
  rw [started, if_neg (by simp; exact h)]

end Core

/-- A flood of a message whose body goes as it stands, from a hub whose transmitters stand as they stood. -/
theorem flooded_sailFlood {s : State} {c d : Core} {skip : Nat} {m : SailMsg} (hm : m.mtype = 5 → m.hops ≠ 0)
    (hup : ∀ j, c.spUp j = s.core.spUp j)
    (hport : ∀ j, (c.sailOf j).unack = (s.core.sailOf j).unack ∧ (c.sailOf j).queue = (s.core.sailOf j).queue ∧
      (c.sailOf j).txSeq = (s.core.sailOf j).txSeq)
    (hd : ∀ j < 4, d.sailOf j = (c.sailFlood skip m).sailOf j) : Flooded s skip m d := by
  intro j hj hskip hsup hfree
  obtain ⟨hunack, hqueue, htx⟩ := hport j
  have hfree' : c.sailFree j := by
    rw [Core.sailFree, hunack, hqueue]
    exact hfree
  rw [hd j hj, Core.sailOf_sailFlood c m hj hskip (by rw [hup, hsup]) hfree', Core.started_of_plain c j hm, hunack, htx]
  exact ⟨rfl, rfl⟩

end Sys2Proof.Machine
end

section
/-! PROOFS. Sail ports: block lock, the loss of a link, acknowledgement and repetition (15_sail_time_array.md R384 to R386). -/

namespace Sys2Proof.Machine

namespace Core

variable {c d : Core} {k : Nat}

/-! ## The tree after a change of a port (R389, R391) -/

/-- ROLE, DEPTH, SUBTREE and ARRAY_HUBS as the ports say. -/
def treed (c : Core) : Core :=
  (((c.put Obj.Sail.ROLE c.roleNow).put Obj.Sail.DEPTH (if c.roleNow = 1 then (c.sailOf 0).farDepth + 1 else 0)).put
    Obj.Sail.SUBTREE c.subtreeNow).put Obj.Sail.ARRAY_HUBS (if isHelm c.roleNow then c.subtreeNow else 0)

/-- FLAGS of a tree that is too large. -/
def treeFlagged (c : Core) : Core := if isHelm c.roleNow && 512 < c.subtreeNow then c.treed.flag Obj.Sail.FLAGS 5 else c.treed

/-- A hub that enters ROLE HELM counts its epochs anew. -/
def treeCounted (c : Core) : Core :=
  if isHelm c.roleNow && !isHelm (c.get Obj.Sail.ROLE) then c.treeFlagged.withSail { c.treeFlagged.sail with epochNum := 0 }
  else c.treeFlagged

theorem topology_eq (c : Core) : c.topology = if c.treeCounted.get Obj.Sail.DEPTH = c.get Obj.Sail.DEPTH then c.treeCounted
    else c.treeCounted.each 4 fun c k => if c.spState k = 4 then c.sendHello k else c := rfl

/-- The objects that the tree writes. -/
def treeKey (o : Nat) : Prop :=
  o = Obj.Sail.ROLE ∨ o = Obj.Sail.DEPTH ∨ o = Obj.Sail.SUBTREE ∨ o = Obj.Sail.ARRAY_HUBS ∨ o = Obj.Sail.FLAGS

theorem treeCounted_get (c : Core) {o : Nat} (h : o ≠ Obj.Sail.FLAGS) : c.treeCounted.get o = c.treed.get o := by
  have hflagged : c.treeFlagged.get o = c.treed.get o := by
    unfold treeFlagged
    split
    · rw [get_flag_ne _ _ h]
    · rfl
  unfold treeCounted
  split
  · exact (get_withSail _ _ _).trans hflagged
  · exact hflagged

theorem treed_get (c : Core) {o : Nat} (h : ¬ treeKey o) : c.treed.get o = c.get o := by
  simp only [treeKey, not_or] at h
  obtain ⟨h1, h2, h3, h4, -⟩ := h
  rw [treed, get_put_ne _ _ h4, get_put_ne _ _ h3, get_put_ne _ _ h2, get_put_ne _ _ h1]

theorem treed_tree (c : Core) : c.treed.get Obj.Sail.ROLE = c.roleNow ∧
    c.treed.get Obj.Sail.DEPTH = (if c.roleNow = 1 then (c.sailOf 0).farDepth + 1 else 0) ∧
    c.treed.get Obj.Sail.SUBTREE = c.subtreeNow := by
  refine ⟨?_, ?_, ?_⟩
  · rw [treed, get_put_ne _ _ (by decide), get_put_ne _ _ (by decide), get_put_ne _ _ (by decide), get_put_self]
  · rw [treed, get_put_ne _ _ (by decide), get_put_ne _ _ (by decide), get_put_self]
  · rw [treed, get_put_ne _ _ (by decide), get_put_self]

/-- `d` differs from `c` in plain objects alone. -/
def ObjsOnly (c d : Core) : Prop := d = { c with objs := d.objs }

theorem ObjsOnly.trans {e : Core} (h : c.ObjsOnly d) (h' : d.ObjsOnly e) : c.ObjsOnly e := by rw [ObjsOnly, h', h]
theorem objsOnly_put (c : Core) (o v : Nat) : c.ObjsOnly (c.put o v) := rfl
theorem ObjsOnly.sail (h : c.ObjsOnly d) : d.sail = c.sail := by rw [h]
theorem ObjsOnly.fc (h : c.ObjsOnly d) : d.fc = c.fc := by rw [h]
theorem ObjsOnly.req (h : c.ObjsOnly d) : d.req = c.req := by rw [h]
theorem ObjsOnly.hubTime (h : c.ObjsOnly d) : d.hubTime = c.hubTime := by rw [h]
theorem ObjsOnly.out (h : c.ObjsOnly d) : d.out = c.out := by rw [h]

theorem objsOnly_treeFlagged (c : Core) : c.ObjsOnly c.treeFlagged := by
  have htreed : c.ObjsOnly c.treed :=
    (((objsOnly_put c _ _).trans (objsOnly_put _ _ _)).trans (objsOnly_put _ _ _)).trans (objsOnly_put _ _ _)
  unfold treeFlagged
  split
  · exact htreed.trans (objsOnly_put _ _ _)
  · exact htreed

/-- What the tree leaves of the hub. -/
theorem treeCounted_kept (c : Core) : c.treeCounted.fc = c.fc ∧ c.treeCounted.req = c.req ∧ c.treeCounted.hubTime = c.hubTime ∧
    c.treeCounted.out = c.out ∧ (∀ j, c.treeCounted.sailOf j = c.sailOf j) ∧ c.treeCounted.sail.hubs = c.sail.hubs := by
  have h := objsOnly_treeFlagged c
  unfold treeCounted
  split
  · refine ⟨h.fc, h.req, h.hubTime, h.out, fun j => ?_, ?_⟩
    · rw [sailOf, sail_withSail, h.sail, sailOf]
    · rw [sail_withSail, h.sail]
  · refine ⟨h.fc, h.req, h.hubTime, h.out, fun j => ?_, by rw [h.sail]⟩
    rw [sailOf, h.sail, sailOf]

/-- The HELLOs that follow a change of DEPTH. -/
theorem sailSent_topology (c : Core) : c.treeCounted.SailSent c.topology := by
  rw [topology_eq]
  refine sailSent_ite (SailSent.refl _) (sailSent_each 4 _ (fun d i => sailSent_ite (sailSent_sendHello d i) (SailSent.refl d)) _)

section
variable (c : Core)

theorem topology_get {o : Nat} (h : ¬ treeKey o) (ho : o ≠ Obj.Sail.TRIG_DROPPED) : c.topology.get o = c.get o := by
  have hflags : o ≠ Obj.Sail.FLAGS := fun hf => h (.inr (.inr (.inr (.inr hf))))
  rw [(sailSent_topology c).get ho, treeCounted_get c hflags, treed_get c h]

theorem not_treeKey_state (j : Nat) : ¬ treeKey (Obj.SailPort.STATE j) ∧ Obj.SailPort.STATE j ≠ Obj.Sail.TRIG_DROPPED := by
  simp only [treeKey]
  constructor
  · simp; omega
  · simp; omega

theorem topology_spState (j : Nat) : c.topology.spState j = c.spState j :=
  topology_get c (not_treeKey_state j).1 (not_treeKey_state j).2

theorem topology_roleNow : c.topology.roleNow = c.roleNow := by
  have hroot : c.treeCounted.isSet Obj.Sail.ROOT = c.isSet Obj.Sail.ROOT := by
    rw [isSet, treeCounted_get c (by decide), treed_get c (by simp only [treeKey]; decide), isSet]
  have hstate : ∀ j, c.treeCounted.spState j = c.spState j := fun j => by
    rw [spState, treeCounted_get c (by simp; omega), treed_get c (not_treeKey_state j).1, spState]
  rw [(sailSent_topology c).roleNow, roleNow, hroot, hstate, spUp, spUp, spUp, hstate, hstate, hstate, roleNow, spUp, spUp, spUp]

theorem topology_subtreeNow : c.topology.subtreeNow = c.subtreeNow := by
  have hstate : ∀ j, c.treeCounted.spUp j = c.spUp j := fun j => by
    rw [spUp, spState, treeCounted_get c (by simp; omega), treed_get c (not_treeKey_state j).1, spUp, spState]
  have hsail := (treeCounted_kept c).2.2.2.2.1
  rw [(sailSent_topology c).subtreeNow]
  simp only [subtreeNow, List.foldl_cons, List.foldl_nil, hstate, hsail]

/-- After a change the tree's objects say what the ports say. -/
theorem topology_tree : c.topology.get Obj.Sail.ROLE = c.topology.roleNow ∧ c.topology.get Obj.Sail.SUBTREE = c.topology.subtreeNow ∧
    c.topology.get Obj.Sail.DEPTH = (if c.topology.roleNow = 1 then (c.topology.sailOf 0).farDepth + 1 else 0) := by
  obtain ⟨hrole, hdepth, hsub⟩ := treed_tree c
  have hsent := sailSent_topology c
  rw [topology_roleNow, topology_subtreeNow]
  refine ⟨?_, ?_, ?_⟩
  · rw [hsent.get (by decide), treeCounted_get c (by decide), hrole]
  · rw [hsent.get (by decide), treeCounted_get c (by decide), hsub]
  · rw [hsent.get (by decide), treeCounted_get c (by decide), hdepth, hsent.farDepth, (treeCounted_kept c).2.2.2.2.1]

/-- A flag of Sail that stands, stands after the tree has changed. -/
theorem topology_flag {n : Nat} (h : c.bitOf Obj.Sail.FLAGS n = true) : c.topology.bitOf Obj.Sail.FLAGS n = true := by
  have hflagged : c.treeFlagged.bitOf Obj.Sail.FLAGS n = true := by
    have htreed : c.treed.bitOf Obj.Sail.FLAGS n = true := by
      rw [treed, bitOf_congr n (get_put_ne _ _ (by decide)), bitOf_congr n (get_put_ne _ _ (by decide)),
        bitOf_congr n (get_put_ne _ _ (by decide)), bitOf_congr n (get_put_ne _ _ (by decide)), h]
    unfold treeFlagged
    split
    · exact bitOf_flag_of_bitOf 5 htreed
    · exact htreed
  rw [bitOf_congr n ((sailSent_topology c).get (by decide))]
  unfold treeCounted
  split
  · exact (bitOf_congr n (get_withSail _ _ _)).trans hflagged
  · exact hflagged

theorem topology_fc : c.topology.fc = c.fc := (sailSent_topology c).fc.trans (treeCounted_kept c).1
theorem topology_req : c.topology.req = c.req := (sailSent_topology c).req.trans (treeCounted_kept c).2.1
theorem topology_hubTime : c.topology.hubTime = c.hubTime := (sailSent_topology c).hubTime.trans (treeCounted_kept c).2.2.1

/-- The ports' transmitters stand where no port is refused, or DEPTH stands. -/
theorem topology_sailOf (h : (∀ j < 4, c.spState j ≠ 4) ∨
    (if c.roleNow = 1 then (c.sailOf 0).farDepth + 1 else 0) = c.get Obj.Sail.DEPTH) (j : Nat) : c.topology.sailOf j = c.sailOf j := by
  obtain ⟨-, hdepth, -⟩ := treed_tree c
  have hsail := (treeCounted_kept c).2.2.2.2.1
  rw [topology_eq, treeCounted_get c (by decide), hdepth]
  by_cases heq : (if c.roleNow = 1 then (c.sailOf 0).farDepth + 1 else 0) = c.get Obj.Sail.DEPTH
  · rw [if_pos heq, hsail]
  · have hstate : ∀ i < 4, c.treeCounted.spState i ≠ 4 := fun i hi => by
      rw [spState, treeCounted_get c (by simp; omega), treed_get c (not_treeKey_state i).1]
      exact h.resolve_right heq i hi
    rw [if_neg heq, each_induct (fun d => d = c.treeCounted) 4 _ _ rfl fun d i hi hd => ?_, hsail]
    rw [hd, if_neg (hstate i hi)]

end

end Core

end Sys2Proof.Machine
end

section
/-! PROOFS. The receiver of Sail messages: what each arrival comes to (15_sail_time_array.md R384, R385, R390). -/

namespace Sys2Proof.Machine

namespace Core

variable {c d : Core} {k : Nat}

/-! ## Arrivals (R384, R385, R390) -/

theorem sailRx_unlocked (a : SailArrival) (h : c.spState k < 2) : c.sailRx k a = c := by rw [sailRx, if_pos h]

theorem sailRx_bad {a : SailArrival} (h : 2 ≤ c.spState k) (ha : sailParse a = none) :
    c.sailRx k a = (c.inc (Obj.SailPort.CRC_ERRORS k)).flag (Obj.SailPort.FLAGS k) 0 := by
  rw [sailRx, if_neg (by omega), ha]

theorem sailRx_seq {a : SailArrival} {m : SailIn} (h : 2 ≤ c.spState k) (ha : sailParse a = some m) (hm : m.mtype = 3) :
    c.sailRx k a = (c.inc64 (Obj.SailPort.MSGS_RX k)).sailSeqIn k m.lseq := by
  rw [sailRx, if_neg (by omega), ha]
  exact if_pos hm

theorem sailRx_time {a : SailArrival} {m : SailIn} (h : c.spState k = 3) (ha : sailParse a = some m) (hm : m.mtype = 4) :
    c.sailRx k a = (c.inc64 (Obj.SailPort.MSGS_RX k)).timeIn k m a.stamp.toNat := by
  rw [sailRx, if_neg (by omega), ha]
  dsimp only
  rw [if_neg (by omega), if_pos hm, if_pos (by rw [spUp, h]; rfl)]

theorem sailRx_old {a : SailArrival} {m : SailIn} (h : 2 ≤ c.spState k) (ha : sailParse a = some m) (h3 : m.mtype ≠ 3)
    (h4 : m.mtype ≠ 4) (hl : m.lseq ≠ (c.sailOf k).rxNext) : c.sailRx k a = c.sailAck k := by
  rw [sailRx, if_neg (by omega), ha]
  dsimp only
  rw [if_neg h3, if_neg h4, if_pos hl]

end Core

/-- A message in order is counted, acknowledged and delivered. -/
theorem sailRx_taken {s : State} {k : Nat} {a : SailArrival} {m : SailIn} (h : SailComes s k a m) :
    s.clear.core.sailRx k a = (s.sailTaken k).sailDeliver k a m := by
  obtain ⟨-, hst, ha, h3, h4, hl⟩ := h
  have hst' : ¬ s.clear.core.spState k < 2 := by
    have : 2 ≤ s.clear.core.spState k := hst
    omega
  rw [Core.sailRx, if_neg hst', ha]
  dsimp only
  rw [if_neg h3, if_neg h4, if_neg (by exact fun hne => hne hl)]

namespace Core

variable {c d : Core} {k : Nat}

/-! ## What the tree is read from -/

theorem roleNow_congr (hroot : d.get Obj.Sail.ROOT = c.get Obj.Sail.ROOT) (hs : ∀ j, d.spState j = c.spState j) :
    d.roleNow = c.roleNow := by
  have hup : ∀ j, d.spUp j = c.spUp j := fun j => by rw [spUp, hs, spUp]
  rw [roleNow, isSet, hroot, hs, hup, hup, hup, roleNow, isSet]

theorem subtreeNow_congr (hs : ∀ j, d.spState j = c.spState j) (hsail : ∀ j, (d.sailOf j).subtree = (c.sailOf j).subtree) :
    d.subtreeNow = c.subtreeNow := by
  have hup : ∀ j, d.spUp j = c.spUp j := fun j => by rw [spUp, hs, spUp]
  simp only [subtreeNow, List.foldl_cons, List.foldl_nil, hup, hsail]

/-! ## A port starts anew (R386) -/

/-- The port with its link gone, before the tree follows. -/
def unlinked (c : Core) (k : Nat) : Core :=
  (c.updSail k fun _ => SailPortState.init).put (Obj.SailPort.STATE k) (c.get (Obj.SailPort.ENABLE k))

theorem sailRestart_eq (c : Core) (k : Nat) : c.sailRestart k = (c.unlinked k).topology := rfl

theorem unlinked_spState_self (c : Core) (k : Nat) : (c.unlinked k).spState k = c.get (Obj.SailPort.ENABLE k) := get_put_self _ _ _

theorem unlinked_spState_ne (c : Core) {k j : Nat} (h : j ≠ k) :
    (c.unlinked k).spState j = c.spState j := by
  rw [spState, unlinked, get_put_ne _ _ (by simp; omega), get_updSail, spState]

theorem unlinked_sailOf_self (c : Core) (k : Nat) : (c.unlinked k).sailOf k = SailPortState.init := by
  rw [unlinked, sailOf_put, sailOf_updSail_self]

theorem unlinked_sailOf_ne (c : Core) {k j : Nat} (h : j ≠ k) : (c.unlinked k).sailOf j = c.sailOf j := by
  rw [unlinked, sailOf_put, sailOf_updSail_ne _ _ h]

/-- The port's flag and its source, once the link is lost. -/
def linkLost (c : Core) (k : Nat) : Core :=
  ((c.sailRestart k).flag (Obj.SailPort.FLAGS k) 2).raise (Src.slLink k) (ctxNone 0 0)

theorem sailLinkDown_eq (h : 2 ≤ c.spState k) :
    c.sailLinkDown k = if c.spUp k then (c.linkLost k).flag Obj.Sail.FLAGS 0 else c.linkLost k := by
  rw [sailLinkDown, if_neg (by omega)]
  rfl

theorem linkLost_get (c : Core) {o : Nat} (h : o ≠ Obj.SailPort.FLAGS k) (hfc : ¬ (0x480000 ≤ o ∧ o < 0x500000)) :
    (c.linkLost k).get o = (c.sailRestart k).get o := by
  rw [linkLost, get_raise _ _ _ hfc, get_flag_ne _ _ h]

/-- The rest of a port whose link is lost. -/
theorem linkLost_facts (href : ∀ j < 4, c.spState j ≠ 4) (hen : c.get (Obj.SailPort.ENABLE k) ≤ 1) :
    (c.linkLost k).spState k = c.get (Obj.SailPort.ENABLE k) ∧ (c.linkLost k).sailOf k = SailPortState.init ∧
      (∀ j, j ≠ k → (c.linkLost k).spState j = c.spState j ∧ (c.linkLost k).sailOf j = c.sailOf j) ∧
      (c.linkLost k).get Obj.Sail.ROLE = (c.linkLost k).roleNow ∧
      (c.linkLost k).get Obj.Sail.SUBTREE = (c.linkLost k).subtreeNow := by
  have hsail : ∀ j, (c.linkLost k).sailOf j = (c.unlinked k).sailOf j := fun j => by
    rw [linkLost, sailOf_raise, flag, sailOf_put, sailRestart_eq]
    refine topology_sailOf _ (.inl fun i hi => ?_) j
    by_cases hik : i = k
    · rw [hik, unlinked_spState_self]
      omega
    · rw [unlinked_spState_ne _ hik]
      exact href i hi
  have hstate : ∀ j, (c.linkLost k).spState j = (c.unlinked k).spState j := fun j => by
    rw [spState, linkLost_get _ (by simp; omega) (by simp; omega), sailRestart_eq, topology_get _ (not_treeKey_state j).1
      (not_treeKey_state j).2, spState]
  obtain ⟨hrole, hsub, -⟩ := topology_tree (c.unlinked k)
  refine ⟨?_, ?_, fun j hj => ⟨?_, ?_⟩, ?_, ?_⟩
  · rw [hstate, unlinked_spState_self]
  · rw [hsail, unlinked_sailOf_self]
  · rw [hstate, unlinked_spState_ne _ hj]
  · rw [hsail, unlinked_sailOf_ne _ hj]
  · rw [linkLost_get _ (by simp; omega) (by decide), sailRestart_eq, hrole]
    refine (roleNow_congr ?_ fun j => ?_).symm
    · rw [linkLost_get _ (by simp; omega) (by decide), sailRestart_eq]
    · rw [hstate, topology_spState]
  · rw [linkLost_get _ (by simp; omega) (by decide), sailRestart_eq, hsub]
    refine (subtreeNow_congr (fun j => ?_) fun j => ?_).symm
    · rw [hstate, topology_spState]
    · rw [linkLost, sailOf_raise, flag, sailOf_put, sailRestart_eq]

theorem linkLost_flag (c : Core) (k : Nat) : (c.linkLost k).bitOf (Obj.SailPort.FLAGS k) 2 = true := by
  rw [linkLost, bitOf, get_raise _ _ _ (by simp; omega)]
  exact bitOf_flag_self _ _ 2

theorem linkLost_raises (c : Core) (hk : k < 4) : c.Raises (Src.slLink k) (c.linkLost k) := by
  have hsource : ∀ i : Fin 4, (sourceInfo? (Src.slLink i.val)).isNone = false := by decide +kernel
  have hflag : ((c.sailRestart k).flag (Obj.SailPort.FLAGS k) 2).fc = c.fc := (fc_put _ _ _).trans (topology_fc (c.unlinked k))
  refine raises_of_raise (ctxNone 0 0) (hsource ⟨k, hk⟩) hflag ?_
  have hkey : ¬ treeKey (Obj.Source.COUNT (Src.slLink k)) ∧ Obj.Source.COUNT (Src.slLink k) ≠ Obj.Sail.TRIG_DROPPED := by
    simp only [treeKey]
    simp [Src.slLink]
    omega
  rw [get_flag_ne _ _ (by simp; omega), sailRestart_eq, topology_get _ hkey.1 hkey.2, unlinked, get_put_ne _ _ (by simp; omega), get_updSail]

/-! ## Acknowledgement and repetition (R385) -/

theorem sailDrain_of_empty (h : (c.sailOf k).queue = []) : c.sailDrain k = c := by
  refine List.foldl_fixed' (fun _ => ?_) _
  rw [sailDrainOne]
  simp only [h]

/-- The unacknowledged messages as they leave again. -/
theorem retx_foldl (k : Nat) (l : List SailMsg) (c : Core) :
    let d := l.foldl (fun c m => (c.sailEmit k m).inc (Obj.SailPort.RETX k)) c
    d.out = c.out ++ l.map (sailOut k) ∧ d.sail = c.sail ∧ d.req = c.req ∧
      d.get (Obj.SailPort.RETX k) = l.foldl (fun n _ => min (n + 1) (2 ^ 32 - 1)) (c.get (Obj.SailPort.RETX k)) ∧
      ∀ o, o ≠ Obj.SailPort.RETX k → d.get o = c.get o := by
  induction l generalizing c with
  | nil => exact ⟨(List.append_nil _).symm, rfl, rfl, rfl, fun _ _ => rfl⟩
  | cons m l ih =>
    obtain ⟨hout, hsail, hreq, hself, hne⟩ := ih ((c.sailEmit k m).inc (Obj.SailPort.RETX k))
    have hcount : ((c.sailEmit k m).inc (Obj.SailPort.RETX k)).get (Obj.SailPort.RETX k) =
        min (c.get (Obj.SailPort.RETX k) + 1) (2 ^ 32 - 1) := (get_inc_self _ _).trans (sat_eq_min _ _)
    refine ⟨hout.trans ?_, hsail, hreq, hself.trans ?_, fun o ho => (hne o ho).trans (get_inc_ne _ ho)⟩
    · exact List.append_assoc c.out [sailOut k m] _
    · rw [hcount, List.foldl_cons]

end Core

end Sys2Proof.Machine
end

section
/-! PROOFS. Sail ports and their messages (15_sail_time_array.md R384 to R386). -/

namespace Sys2Proof.Machine

variable {s : State} {sp : SailNo} {a : SailArrival}

theorem sailLink_blockLock (hu : s.core.seqUp = true) (hst : s.core.spState sp.val = 1) (hfree : s.core.sailFree sp.val) :
    AnswersCore (.sailBlockLock sp) s fun c =>
      c.spState sp.val = 2 ∧ (c.sailOf sp.val).unack.length = (s.core.sailOf sp.val).unack.length + 1 ∧
      (c.sailOf sp.val).txSeq = ((s.core.sailOf sp.val).txSeq + 1) % 65536 ∧ c.out.length = 1 ∧
      ∀ k, k ≠ Obj.SailPort.STATE sp.val → c.get k = s.core.get k := by
  have hlock : s.clear.core.sailBlockLock sp.val = (s.clear.core.put (Obj.SailPort.STATE sp.val) 2).sendHello sp.val :=
    if_neg (fun h => h hst)
  have hlaunch : s.clear.core.sailBlockLock sp.val = (s.clear.core.put (Obj.SailPort.STATE sp.val) 2).sailLaunch sp.val
      ((s.clear.core.put (Obj.SailPort.STATE sp.val) 2).healthMsg 0 0 0) :=
    hlock.trans (Core.sailSend_of_free _ hfree)
  have hsent := Core.sailSent_sailLaunch (s.clear.core.put (Obj.SailPort.STATE sp.val) 2) sp.val
    ((s.clear.core.put (Obj.SailPort.STATE sp.val) 2).healthMsg 0 0 0)
  have hport := Core.sailOf_sailLaunch (s.clear.core.put (Obj.SailPort.STATE sp.val) 2) sp.val
    ((s.clear.core.put (Obj.SailPort.STATE sp.val) 2).healthMsg 0 0 0)
  refine answersCore_onPower _ rfl hu ?_ ?_
  · rw [hlaunch, hsent.req]
    rfl
  · rw [hlaunch, hsent.spState, hport]
    refine ⟨Core.get_put_self _ _ _, ?_, rfl, rfl, fun k hk => ?_⟩
    · exact List.length_append
    · rw [Core.sailLaunch_eq]
      exact Core.get_put_ne _ _ hk

theorem sailLink_down (hu : s.core.seqUp = true) (hst : 2 ≤ s.core.spState sp.val) (href : ∀ j < 4, s.core.spState j ≠ 4)
    (hen : s.core.get (Obj.SailPort.ENABLE sp.val) ≤ 1) : AnswersThen (.sailLinkDown sp) s fun c =>
      c.spState sp.val = s.core.get (Obj.SailPort.ENABLE sp.val) ∧ c.sailOf sp.val = SailPortState.init ∧
      c.bitOf (Obj.SailPort.FLAGS sp.val) 2 = true ∧ (s.core.spState sp.val = 3 → c.bitOf Obj.Sail.FLAGS 0 = true) ∧
      (∀ j < 4, j ≠ sp.val → c.spState j = s.core.spState j ∧ c.sailOf j = s.core.sailOf j) ∧
      s.clear.core.Raises (Src.slLink sp.val) c ∧
      c.get Obj.Sail.ROLE = c.roleNow ∧ c.get Obj.Sail.SUBTREE = c.subtreeNow := by
  obtain ⟨hstate, hsail, hothers, hrole, hsub⟩ := Core.linkLost_facts (c := s.clear.core) href hen
  have hflag := Core.linkLost_flag s.clear.core sp.val
  have hraise := Core.linkLost_raises s.clear.core sp.isLt
  refine answersThen_onPower _ rfl hu ?_
  rw [Core.sailLinkDown_eq (c := s.clear.core) hst]
  by_cases hup : s.clear.core.spUp sp.val = true
  · rw [if_pos hup]
    have hget : ∀ o, o ≠ Obj.Sail.FLAGS → ((s.clear.core.linkLost sp.val).flag Obj.Sail.FLAGS 0).get o =
        (s.clear.core.linkLost sp.val).get o := fun o ho => Core.get_flag_ne _ _ ho
    have hst' : ∀ j, ((s.clear.core.linkLost sp.val).flag Obj.Sail.FLAGS 0).spState j = (s.clear.core.linkLost sp.val).spState j :=
      fun j => hget _ (by simp; omega)
    refine ⟨(hst' _).trans hstate, hsail, (Core.bitOf_congr 2 (hget _ (by simp; omega))).trans hflag,
      fun _ => Core.bitOf_flag_self _ _ 0, fun j _ hj => ⟨(hst' j).trans (hothers j hj).1, (hothers j hj).2⟩,
      hraise.of_get (hget _ (by simp; omega)), ?_, ?_⟩
    · rw [hget _ (by decide), hrole, Core.roleNow_congr (hget _ (by decide)) hst']
    · rw [hget _ (by decide), hsub, Core.subtreeNow_congr hst' fun j => rfl]
  · rw [if_neg hup]
    refine ⟨hstate, hsail, hflag, fun h3 => ?_, fun j _ hj => hothers j hj, hraise, hrole, hsub⟩
    exact absurd (decide_eq_true h3) hup

/-- Every command of an arrival hands it to the receiver. -/
theorem exec_sailArrival (sp : SailNo) (a : SailArrival) (s : State) :
    ∀ f ∈ [Instr.sailTrigger, .sailEpoch, .sailSeq, .timeSync, .timeDreq, .timeDresp, .healthHello, .healthStatus,
      .healthDualHelm, .healthRefused], exec (f sp a) s = .next (s.onPower fun c => c.sailRx sp.val a) := by
  simp only [List.mem_cons, List.not_mem_nil, or_false]
  rintro f (rfl | rfl | rfl | rfl | rfl | rfl | rfl | rfl | rfl | rfl) <;> rfl

theorem sailLink_seq {m : SailIn} (hu : s.core.seqUp = true) (hst : 2 ≤ s.core.spState sp.val) (ha : sailParse a = some m)
    (hm : m.mtype = 3) (hq : (s.core.sailOf sp.val).queue = []) : AnswersCore (.sailSeq sp a) s fun c =>
      (c.sailOf sp.val).unack = sailAcked m.lseq (s.core.sailOf sp.val).unack ∧ c.out = [] ∧
      c.get (Obj.SailPort.MSGS_RX sp.val) = min (s.core.get (Obj.SailPort.MSGS_RX sp.val) + 1) (2 ^ 64 - 1) ∧
      ∀ k, k ≠ Obj.SailPort.MSGS_RX sp.val → c.get k = s.core.get k := by
  have hrx : s.clear.core.sailRx sp.val a = (s.clear.core.inc64 (Obj.SailPort.MSGS_RX sp.val)).updSail sp.val
      fun x => { x with unack := sailAcked m.lseq x.unack } := by
    rw [Core.sailRx_seq (c := s.clear.core) hst ha hm, Core.sailSeqIn, Core.sailDrain_of_empty]
    rw [Core.sailOf_updSail_self]
    exact hq
  refine answersCore_onPower (fun c => c.sailRx sp.val a) rfl hu ?_ ?_
  · rw [hrx]
    rfl
  · rw [hrx]
    refine ⟨?_, rfl, ?_, fun k hk => ?_⟩
    · rw [Core.sailOf_updSail_self]
      rfl
    · exact (Core.get_add_self s.clear.core _ 64 1).trans (Core.sat_eq_min _ _)
    · exact Core.get_add_ne s.clear.core 64 1 hk

theorem sailLink_retx (hu : s.core.seqUp = true) : AnswersCore (.sailRetx sp) s fun c =>
      c.out = (s.core.sailOf sp.val).unack.map
        (fun m => Out.sail sp.val (sailBytes m) (BitVec.ofNat 32 (crc32c (sailBytes m)))) ∧
      c.sail = s.core.sail ∧
      c.get (Obj.SailPort.RETX sp.val) =
        (s.core.sailOf sp.val).unack.foldl (fun n _ => min (n + 1) (2 ^ 32 - 1)) (s.core.get (Obj.SailPort.RETX sp.val)) ∧
      ∀ k, k ≠ Obj.SailPort.RETX sp.val → c.get k = s.core.get k := by
  obtain ⟨hout, hsail, hreq, hcount, hget⟩ := Core.retx_foldl sp.val (s.core.sailOf sp.val).unack s.clear.core
  exact answersCore_onPower _ rfl hu hreq ⟨hout, hsail, hcount, hget⟩

theorem sailLink_bad (hu : s.core.seqUp = true) (hst : 2 ≤ s.core.spState sp.val) (ha : sailParse a = none)
    {f : SailNo → SailArrival → Instr} (hf : exec (f sp a) s = .next (s.onPower fun c => c.sailRx sp.val a)) :
    AnswersCore (f sp a) s fun c =>
      c.get (Obj.SailPort.CRC_ERRORS sp.val) = min (s.core.get (Obj.SailPort.CRC_ERRORS sp.val) + 1) (2 ^ 32 - 1) ∧
      c.bitOf (Obj.SailPort.FLAGS sp.val) 0 = true ∧ c.out = [] ∧ c.sail = s.core.sail ∧
      ∀ k, k ≠ Obj.SailPort.CRC_ERRORS sp.val → k ≠ Obj.SailPort.FLAGS sp.val → c.get k = s.core.get k := by
  have hrx := Core.sailRx_bad (c := s.clear.core) hst ha
  refine answersCore_onPower _ hf hu ?_ ?_
  · rw [hrx]
    rfl
  · rw [hrx]
    refine ⟨?_, Core.bitOf_flag_self _ _ 0, rfl, rfl, fun k hk hk' => ?_⟩
    · rw [Core.get_flag_ne _ _ (by simp), Core.get_inc_self, Core.sat_eq_min]
      rfl
    · rw [Core.get_flag_ne _ _ hk', Core.get_inc_ne _ hk]
      rfl

theorem sailLink_old {m : SailIn} (hu : s.core.seqUp = true) (hst : 2 ≤ s.core.spState sp.val) (ha : sailParse a = some m)
    (h3 : m.mtype ≠ 3) (h4 : m.mtype ≠ 4) (hl : m.lseq ≠ (s.core.sailOf sp.val).rxNext) {i : Instr}
    (hi : exec i s = .next (s.onPower fun c => c.sailRx sp.val a)) :
    exec i s = .next { s.clear with core := { s.clear.core with out := [s.core.seqMessage sp.val] } } := by
  have hrx := Core.sailRx_old (c := s.clear.core) hst ha h3 h4 hl
  rw [hi, State.onPower_eq s _ hu (by rw [hrx]; rfl), hrx]
  rfl

/-- Settles O53: block lock, a lost link, acknowledgement, repetition and the checks of an arrival, each through what the
receiver makes of it. -/
theorem sailLinks : Obligations.SailLinks := by
  unfold Obligations.SailLinks
  refine ⟨fun s sp => sailLink_blockLock, fun s sp _ hst => ?_, fun s sp => sailLink_down, fun s sp a m => sailLink_seq,
    fun s sp hu hst => ?_, fun s sp hst => ?_, fun s sp => sailLink_retx, fun s sp a hu hst ha f hf => ?_,
    fun s sp a m hu hst ha h3 h4 hl f hf => ?_, fun s sp a hst f hf => ?_⟩
  · exact exec_of_onPower_unchanged (fun c => c.sailBlockLock sp.val) (if_pos hst) rfl
  · have hkeep : s.clear.core.sailKeepalive sp.val = s.clear.core.sailAck sp.val := if_neg (Nat.not_lt.2 hst)
    have hexec : exec (.sailSeqKeepalive sp) s = .next (s.onPower fun c => c.sailKeepalive sp.val) := rfl
    rw [hexec, State.onPower_eq s _ hu (by rw [hkeep]; rfl), hkeep]
    rfl
  · exact exec_of_onPower_unchanged (fun c => c.sailKeepalive sp.val) (if_pos hst) rfl
  · exact sailLink_bad hu hst ha (exec_sailArrival sp a s f hf)
  · refine sailLink_old hu hst ha h3 h4 hl (exec_sailArrival sp a s f ?_)
    simp only [List.mem_cons, List.not_mem_nil, or_false] at hf ⊢
    tauto
  · exact exec_of_onPower_unchanged (fun c => c.sailRx sp.val a) (Core.sailRx_unlocked a hst) (exec_sailArrival sp a s f hf)

end Sys2Proof.Machine
end

section
/-! PROOFS. What a trigger that a window accepts leaves in the window (04_weir_retention.md R108, R114, R116). -/

namespace Sys2Proof.Machine

namespace Core

variable {c : Core} {w : Nat} {t : Trigger} {te : Rat} {tt : Nat}

/-! ## Publication of a window's result (R101) -/

theorem get_foldl_put (g f : Nat → Nat) {o : Nat} (ks : List Nat) (c : Core) (h : ∀ k ∈ ks, o ≠ g k) :
    (ks.foldl (fun c k => c.put (g k) (f k)) c).get o = c.get o := by
  induction ks generalizing c with
  | nil => rfl
  | cons k ks ih => exact (ih _ fun x hx => h x (List.mem_cons_of_mem k hx)).trans (get_put_ne _ _ (h k List.mem_cons_self))

theorem objsOnly_foldl_put (g f : Nat → Nat) (ks : List Nat) (c : Core) :
    c.ObjsOnly (ks.foldl (fun c k => c.put (g k) (f k)) c) := by
  induction ks generalizing c with
  | nil => rfl
  | cons k ks ih => exact (objsOnly_put c _ _).trans (ih _)

theorem publishWin_get (c : Core) (w : Nat) {o : Nat} (hres : ∀ k < 16, o ≠ Obj.Window.RESULT w k)
    (hsegs : o ≠ Obj.Window.SEGS_RESERVED w) (hflags : o ≠ Obj.Window.FLAGS w) : (c.publishWin w).get o = c.get o := by
  have hrow : ∀ f : Nat → Nat, ((List.range 16).foldl (fun c k => c.put (Obj.Window.RESULT w k) (f k)) c).get o = c.get o := fun f =>
    get_foldl_put _ f _ c fun k hk => hres k (List.mem_range.1 hk)
  unfold publishWin
  dsimp only
  split_ifs <;> simp only [flag, get_put_ne _ _ hflags, get_put_ne _ _ hsegs, hrow]

theorem publishWin_flag (c : Core) (w : Nat) {n : Nat} (h : c.bitOf (Obj.Window.FLAGS w) n = true) :
    (c.publishWin w).bitOf (Obj.Window.FLAGS w) n = true := by
  have hrow : ∀ (f : Nat → Nat) (v : Nat), (((List.range 16).foldl (fun c k => c.put (Obj.Window.RESULT w k) (f k)) c).put
      (Obj.Window.SEGS_RESERVED w) v).bitOf (Obj.Window.FLAGS w) n = true := fun f v => by
    rw [bitOf_congr n (get_put_ne _ _ (by simp)), bitOf_congr n (get_foldl_put _ f _ c fun k hk => ?_), h]
    have := List.mem_range.1 hk
    simp
    omega
  unfold publishWin
  dsimp only
  split_ifs
  · exact bitOf_flag_of_bitOf 2 (bitOf_flag_of_bitOf 3 (hrow _ _))
  · exact bitOf_flag_of_bitOf 2 (hrow _ _)
  · exact bitOf_flag_of_bitOf 3 (hrow _ _)
  · exact hrow _ _

theorem objsOnly_publishWin (c : Core) (w : Nat) : c.ObjsOnly (c.publishWin w) := by
  have hrow : ∀ (f : Nat → Nat) (v : Nat), c.ObjsOnly (((List.range 16).foldl (fun c k => c.put (Obj.Window.RESULT w k) (f k)) c).put
      (Obj.Window.SEGS_RESERVED w) v) := fun f v => (objsOnly_foldl_put _ f _ c).trans (objsOnly_put _ _ _)
  unfold publishWin
  dsimp only
  split_ifs
  · exact ((hrow _ _).trans (objsOnly_put _ _ _)).trans (objsOnly_put _ _ _)
  · exact (hrow _ _).trans (objsOnly_put _ _ _)
  · exact (hrow _ _).trans (objsOnly_put _ _ _)
  · exact hrow _ _

theorem ObjsOnly.winOf {c d : Core} (h : c.ObjsOnly d) (w : Nat) : d.winOf w = c.winOf w := by rw [h]; rfl

/-! ## The freeze (R114, R116) -/

/-- A window as it freezes: its state, its result and what the trigger carries, before the result is published. -/
def frozen (c : Core) (w gen : Nat) (t : Trigger) (tt : Nat) : Core :=
  let c3 := (((((c.put (Obj.Window.STATE w) 2).put (Obj.Window.GEN w) gen).put (Obj.Window.READY w) 0).put
    (Obj.Window.TRIGGER_ID w) t.id).put (Obj.Window.TRIGGER_SRC w) t.src).put (Obj.Window.T_EVENT w) tt
  let c4 : Core := c3.withFreezes (c3.freezes + 1)
  ((c4.updWin w fun s => { s with order := c4.freezes, detector := t.detector, level := t.level }).flag (Obj.Window.FLAGS w) 0).publishWin w

/-- The plan of a freeze: each member that is placed, as long as all fit. -/
def freezePlan (c : Core) (w : Nat) (ps : List Placed) : FreezePlan × Bool :=
  ps.foldl (fun (a : FreezePlan × Bool) m => if a.2 then a.1.addMember w m else a)
    ({ core := c.updWin w fun s => { s with members := [] }, evicted := [], hit := [] }, true)

/-- Would a member's range be held by too many windows? -/
def overHeld (c : Core) (w : Nat) (ps : List Placed) : Bool :=
  ps.any fun m => c.holdsLimit w m.region (m.first / c.spseg m.stream) (bound64 m.last / c.spseg m.stream)

/-- A freeze of members that are placed. -/
def freezePlaced (c : Core) (w gen : Nat) (t : Trigger) (tt : Nat) (ps : List Placed) : Status × Core :=
  if c.tooLate ps then c.refuseTrigger w 7 .noRegion
  else if c.overHeld w ps then c.refuseTrigger w 8 .retry
  else if !(c.freezePlan w ps).2 then
    ((c.freezePlan w ps).1.hit.foldl (fun c r => c.flag (Obj.Quota.FLAGS r) 0) c).refuseTrigger w 9 .retry
  else (.ok, (((((c.keepShown (Obj.Window.READY w) (winResultKeys w)).commitPlan w (c.freezePlan w ps).1).frozen w gen t
    tt).forwardTrigger w t tt).winProgress w))

theorem freeze_eq (c : Core) (w : Nat) (t : Trigger) (te : Rat) (tt : Nat) : c.freeze w t te tt =
    (c.placeAll w te t.delays).2.freezePlaced w (nextGen (c.get (Obj.Window.GEN w))) t tt (c.placeAll w te t.delays).1 := rfl

/-- A freeze that answers OK ends in a frozen window. -/
theorem freezePlaced_ok {gen : Nat} {ps : List Placed} (h : (c.freezePlaced w gen t tt ps).1 = .ok) :
    ∃ e : Core, (c.freezePlaced w gen t tt ps).2 = ((e.frozen w gen t tt).forwardTrigger w t tt).winProgress w := by
  have hne : ∀ (d : Core) (cause : Nat) (x : Status), x ≠ .ok → (d.refuseTrigger w cause x).1 ≠ .ok := fun _ _ _ hx => hx
  unfold freezePlaced at h ⊢
  by_cases hlate : c.tooLate ps = true
  · rw [if_pos hlate] at h
    exact absurd h (hne _ _ _ (by decide))
  · rw [if_neg hlate] at h ⊢
    by_cases hheld : c.overHeld w ps = true
    · rw [if_pos hheld] at h
      exact absurd h (hne _ _ _ (by decide))
    · rw [if_neg hheld] at h ⊢
      by_cases hplan : (!(c.freezePlan w ps).2) = true
      · rw [if_pos hplan] at h
        exact absurd h (hne _ _ _ (by decide))
      · rw [if_neg hplan]
        exact ⟨_, rfl⟩

/-- An early refusal never answers OK. -/
theorem earlyRefusal_status {x : Nat × Status} (h : c.earlyRefusal w t = some x) : x.2 ≠ .ok := by
  unfold earlyRefusal at h
  dsimp only at h
  split_ifs at h <;> (obtain rfl := Option.some.inj h; decide)

/-- An ARMED window decides by the early causes, and else freezes. -/
theorem decideTrigger_armed (hst : c.get (Obj.Window.STATE w) = 1) : c.decideTrigger w t = match c.earlyRefusal w t with
    | some (cause, s) => c.refuseTrigger w cause s
    | none => (c.eventTime w t).2.2.freeze w t (c.eventTime w t).1 (c.eventTime w t).2.1 := by
  rw [decideTrigger, hst]
  rfl

theorem decideTrigger_ok (hst : c.get (Obj.Window.STATE w) = 1) (h : (c.decideTrigger w t).1 = .ok) :
    ∃ e : Core, (c.decideTrigger w t).2 = ((e.frozen w (nextGen ((c.eventTime w t).2.2.get (Obj.Window.GEN w))) t
      (c.eventTime w t).2.1).forwardTrigger w t (c.eventTime w t).2.1).winProgress w := by
  rw [decideTrigger_armed hst] at h ⊢
  cases hearly : c.earlyRefusal w t with
  | none =>
    rw [hearly] at h
    simp only [freeze_eq] at h ⊢
    exact freezePlaced_ok h
  | some x =>
    rw [hearly] at h
    exact absurd h (earlyRefusal_status hearly)

/-- What a frozen window shows. -/
theorem frozen_facts (c : Core) (w gen : Nat) (t : Trigger) (tt : Nat) :
    (c.frozen w gen t tt).get (Obj.Window.STATE w) = 2 ∧ (c.frozen w gen t tt).get (Obj.Window.READY w) = 0 ∧
      (c.frozen w gen t tt).get (Obj.Window.GEN w) = gen ∧ (c.frozen w gen t tt).get (Obj.Window.TRIGGER_ID w) = t.id ∧
      (c.frozen w gen t tt).get (Obj.Window.TRIGGER_SRC w) = t.src ∧ (c.frozen w gen t tt).get (Obj.Window.T_EVENT w) = tt ∧
      ((c.frozen w gen t tt).winOf w).detector = t.detector ∧ ((c.frozen w gen t tt).winOf w).level = t.level ∧
      (c.frozen w gen t tt).bitOf (Obj.Window.FLAGS w) 0 = true := by
  have hget : ∀ o, (∀ k < 16, o ≠ Obj.Window.RESULT w k) → o ≠ Obj.Window.SEGS_RESERVED w → o ≠ Obj.Window.FLAGS w →
      (c.frozen w gen t tt).get o = ((((((c.put (Obj.Window.STATE w) 2).put (Obj.Window.GEN w) gen).put (Obj.Window.READY w) 0).put
        (Obj.Window.TRIGGER_ID w) t.id).put (Obj.Window.TRIGGER_SRC w) t.src).put (Obj.Window.T_EVENT w) tt).get o :=
    fun o h1 h2 h3 => (publishWin_get _ _ h1 h2 h3).trans (get_flag_ne _ _ h3)
  have hwin : ((c.frozen w gen t tt).winOf w).detector = t.detector ∧ ((c.frozen w gen t tt).winOf w).level = t.level := by
    rw [frozen, (objsOnly_publishWin _ w).winOf, flag, winOf_put, winOf_updWin_self]
    exact ⟨rfl, rfl⟩
  refine ⟨?_, ?_, ?_, ?_, ?_, ?_, hwin.1, hwin.2, publishWin_flag _ _ (bitOf_flag_self _ _ 0)⟩
  all_goals
    rw [hget _ (fun k _ => by simp; omega) (by simp) (by simp)]
    simp [get_put_ne]

end Core
end Sys2Proof.Machine
end

section
/-! PROOFS. What the hub takes from Sail in order: the count, the acknowledgement, the forwarding (15_sail_time_array.md R385,
R391, R392, R398, R399). -/

namespace Sys2Proof.Machine

variable {s : State} {k : Nat}

/-! ## A message taken -/

theorem sailTaken_get {o : Nat} (h : o ≠ Obj.SailPort.MSGS_RX k) : (s.sailTaken k).get o = s.core.get o :=
  (Core.get_add_ne (s.clear.core.updSail k fun x => { x with rxNext := (x.rxNext + 1) % 65536 }) 64 1 h)

theorem sailTaken_msgs : (s.sailTaken k).get (Obj.SailPort.MSGS_RX k) =
    min (s.core.get (Obj.SailPort.MSGS_RX k) + 1) (2 ^ 64 - 1) :=
  (Core.get_add_self (s.clear.core.updSail k fun x => { x with rxNext := (x.rxNext + 1) % 65536 }) _ 64 1).trans (Core.sat_eq_min _ _)

theorem sailTaken_spState (j : Nat) : (s.sailTaken k).spState j = s.core.spState j := sailTaken_get (by simp; omega)

theorem sailTaken_spUp (j : Nat) : (s.sailTaken k).spUp j = s.core.spUp j := by rw [Core.spUp, sailTaken_spState, Core.spUp]

theorem sailTaken_sailOf_self : (s.sailTaken k).sailOf k =
    { s.core.sailOf k with rxNext := ((s.core.sailOf k).rxNext + 1) % 65536 } :=
  Core.sailOf_updSail_self s.clear.core k _

theorem sailTaken_sailOf_ne {j : Nat} (h : j ≠ k) : (s.sailTaken k).sailOf j = s.core.sailOf j :=
  Core.sailOf_updSail_ne s.clear.core _ h

/-- But for the next LSEQ expected, each port stands as it stood. -/
theorem sailTaken_port (j : Nat) : (s.sailTaken k).sailOf j = { s.core.sailOf j with rxNext := ((s.sailTaken k).sailOf j).rxNext } := by
  by_cases h : j = k
  · rw [h, sailTaken_sailOf_self]
  · rw [sailTaken_sailOf_ne h]

theorem sailTaken_transmitter (j : Nat) : ((s.sailTaken k).sailOf j).unack = (s.core.sailOf j).unack ∧
    ((s.sailTaken k).sailOf j).queue = (s.core.sailOf j).queue ∧ ((s.sailTaken k).sailOf j).txSeq = (s.core.sailOf j).txSeq := by
  rw [sailTaken_port j]
  exact ⟨rfl, rfl, rfl⟩

theorem sailTaken_latestEpoch : (s.sailTaken k).latestEpoch = s.core.latestEpoch := rfl

/-! ## A message forwarded -/

/-- The message as it goes on, with HOPS + 1. -/
abbrev onward (ty : Nat) (m : SailIn) : SailMsg := { lseq := 0, mtype := ty, hops := m.hops + 1, body := m.body }

/-- The hub once it has taken and forwarded a message. -/
def forwarded (s : State) (k ty : Nat) (m : SailIn) : Core := (s.sailTaken k).sailFlood k (onward ty m)

section
variable {ty : Nat} {m : SailIn}

theorem sailSent_forwarded (s : State) (k ty : Nat) (m : SailIn) : (s.sailTaken k).SailSent (forwarded s k ty m) :=
  Core.sailSent_sailFlood _ k _

theorem flooded_of_forwarded {c : Core} (h : ∀ j < 4, c.sailOf j = (forwarded s k ty m).sailOf j) : Flooded s k (onward ty m) c :=
  flooded_sailFlood (c := s.sailTaken k) (fun _ => Nat.succ_ne_zero _) sailTaken_spUp sailTaken_transmitter h

theorem forwarded_get {o : Nat} (h : o ≠ Obj.SailPort.MSGS_RX k) (hdrop : o ≠ Obj.Sail.TRIG_DROPPED) :
    (forwarded s k ty m).get o = s.core.get o :=
  ((sailSent_forwarded s k ty m).get hdrop).trans (sailTaken_get h)

theorem forwarded_get_plain (hty : ty ≠ 1) {o : Nat} (h : o ≠ Obj.SailPort.MSGS_RX k) :
    (forwarded s k ty m).get o = s.core.get o :=
  (Core.get_sailFlood hty _ k o).trans (sailTaken_get h)

theorem forwarded_msgs : (forwarded s k ty m).get (Obj.SailPort.MSGS_RX k) =
    min (s.core.get (Obj.SailPort.MSGS_RX k) + 1) (2 ^ 64 - 1) :=
  ((sailSent_forwarded s k ty m).get (by simp; omega)).trans sailTaken_msgs

end

/-- What an arrival delivers, to a port that is UP. -/
theorem sailRx_trigger {a : SailArrival} {m : SailIn} (h : SailComes s k a m) (hup : s.core.spState k = 3) (hm : m.mtype = 1) :
    s.clear.core.sailRx k a = (s.sailTaken k).sailTriggerIn k m := by
  rw [sailRx_taken h, Core.sailDeliver, if_neg (by omega), sailTaken_spUp, if_neg (by simp [Core.spUp, hup]), if_pos hm]

theorem sailRx_epoch {a : SailArrival} {m : SailIn} (h : SailComes s k a m) (hup : s.core.spState k = 3) (hm : m.mtype = 2) :
    s.clear.core.sailRx k a = (s.sailTaken k).epochIn k m := by
  rw [sailRx_taken h, Core.sailDeliver, if_neg (by omega), sailTaken_spUp, if_neg (by simp [Core.spUp, hup]), if_neg (by omega)]

theorem sailRx_health {a : SailArrival} {m : SailIn} (h : SailComes s k a m) (hm : m.mtype = 5) :
    s.clear.core.sailRx k a = (s.sailTaken k).healthIn k a.fromSp0 m := by
  rw [sailRx_taken h, Core.sailDeliver, if_pos hm]

/-! ## Epochs (R398 to R400) -/

namespace Core

variable {c : Core} {te num : Nat}

/-- The hub with an epoch pending. -/
def pended (c : Core) (te num : Nat) (late : Bool) : Core :=
  c.withSail { c.sail with epochs := c.sail.epochs ++ [{ te := te, num := num, late := late, stepped := false }] }

/-- Is a new epoch far enough from the latest (R399)? -/
def epochClose (c : Core) (te : Nat) : Bool := match c.latestEpoch with | some t => decide (te < t + 100000) | none => false

theorem epochClose_eq_false (h : ∀ t, c.latestEpoch = some t → t + 100000 ≤ te) : c.epochClose te = false := by
  unfold epochClose
  cases hl : c.latestEpoch with
  | none => rfl
  | some t => simpa using h t hl

theorem acceptEpoch_eq (c : Core) (te num : Nat) : c.acceptEpoch te num =
    if c.epochClose te || 4 ≤ c.sail.epochs.length then c.inc Obj.Sail.EPOCH_REFUSED
    else if te * 2 ^ 32 < c.hubTime then ((c.pended te num (decide (te * 2 ^ 32 < c.hubTime))).flag Obj.Sail.FLAGS 2).raise
      Src.slEpochLate (ctxNone 0 0)
    else c.pended te num (decide (te * 2 ^ 32 < c.hubTime)) := by
  unfold acceptEpoch
  simp only [decide_eq_true_eq]
  rfl

theorem acceptEpoch_refused (h : (∃ t, c.latestEpoch = some t ∧ te < t + 100000) ∨ 4 ≤ c.sail.epochs.length) :
    c.acceptEpoch te num = c.inc Obj.Sail.EPOCH_REFUSED := by
  rw [acceptEpoch_eq, if_pos]
  rcases h with ⟨t, ht, hlt⟩ | h
  · simp [epochClose, ht, hlt]
  · simp [h]

theorem acceptEpoch_pending (hclose : ∀ t, c.latestEpoch = some t → t + 100000 ≤ te) (hlen : c.sail.epochs.length < 4)
    (htime : c.hubTime ≤ te * 2 ^ 32) : c.acceptEpoch te num = c.pended te num false := by
  rw [acceptEpoch_eq, if_neg (by simp [epochClose_eq_false hclose, hlen]), if_neg (by omega), decide_eq_false (by omega)]

theorem acceptEpoch_late (hclose : ∀ t, c.latestEpoch = some t → t + 100000 ≤ te) (hlen : c.sail.epochs.length < 4)
    (htime : te * 2 ^ 32 < c.hubTime) :
    c.acceptEpoch te num = ((c.pended te num true).flag Obj.Sail.FLAGS 2).raise Src.slEpochLate (ctxNone 0 0) := by
  rw [acceptEpoch_eq, if_neg (by simp [epochClose_eq_false hclose, hlen]), if_pos htime, decide_eq_true htime]

end Core

end Sys2Proof.Machine
end

section
/-! PROOFS. Triggers and epochs over Sail (15_sail_time_array.md R392, R398 to R400; 04_weir_retention.md R106). -/

namespace Sys2Proof.Machine

variable {s : State} {sp : SailNo} {a : SailArrival} {m : SailIn}

/-! ## Triggers (R106, R392) -/

/-- A TRIGGER as Weir is offered it. -/
abbrev sailTrigger (m : SailIn) : Trigger :=
  { src := 1, stream := 0, tidx := 0, tt := field 175 80 m.num, id := field 239 208 m.num, detector := 0, level := 0,
    delays := m.delays, port := 0 }

theorem sailTriggerIn_own (h : field 207 176 m.num = s.core.get Obj.Id.HUB_ID) :
    (s.sailTaken sp.val).sailTriggerIn sp.val m = forwarded s sp.val 1 m :=
  if_pos (h.trans (sailTaken_get (by simp; omega)).symm)

theorem sailTriggerIn_other (h : field 207 176 m.num ≠ s.core.get Obj.Id.HUB_ID) :
    (s.sailTaken sp.val).sailTriggerIn sp.val m =
      ((forwarded s sp.val 1 m).decideTrigger (field 253 248 m.num) (sailTrigger m)).2 :=
  if_neg fun he => h (he.trans (sailTaken_get (by simp; omega)))

theorem sailTrigger_own (hcome : SailComes s sp.val a m) (hm : m.mtype = 1) (hup : s.core.spState sp.val = 3)
    (hid : field 207 176 m.num = s.core.get Obj.Id.HUB_ID) : AnswersCore (.sailTrigger sp a) s fun c =>
      (c.sailOf sp.val).rxNext = (m.lseq + 1) % 65536 ∧ Flooded s sp.val (onward 1 m) c ∧
      c.get (Obj.SailPort.MSGS_RX sp.val) = min (s.core.get (Obj.SailPort.MSGS_RX sp.val) + 1) (2 ^ 64 - 1) ∧
      ∀ k, k ≠ Obj.SailPort.MSGS_RX sp.val → k ≠ Obj.Sail.TRIG_DROPPED → c.get k = s.core.get k := by
  have hsent := sailSent_forwarded s sp.val 1 m
  have hrx : s.clear.core.sailRx sp.val a = forwarded s sp.val 1 m := (sailRx_trigger hcome hup hm).trans (sailTriggerIn_own hid)
  refine answersCore_onPower (fun c => c.sailRx sp.val a) rfl hcome.1 ?_ ?_
  · rw [hrx, hsent.req]
    rfl
  · rw [hrx]
    obtain ⟨-, -, -, -, -, hl⟩ := hcome
    refine ⟨?_, flooded_of_forwarded fun _ _ => rfl, forwarded_msgs, fun k => forwarded_get⟩
    rw [hsent.rxNext, sailTaken_sailOf_self, hl]

theorem sailTrigger_taken {w : Nat} (hcome : SailComes s sp.val a m) (hm : m.mtype = 1) (hup : s.core.spState sp.val = 3)
    (hid : field 207 176 m.num ≠ s.core.get Obj.Id.HUB_ID) (hw : w = field 253 248 m.num)
    (harmed : s.core.get (Obj.Window.STATE w) = 1)
    (hok : ((forwarded s sp.val 1 m).decideTrigger w (sailTrigger m)).1 = .ok) :
    AnswersThen (.sailTrigger sp a) s fun c => ∃ d : Core,
      c = d.winProgress w ∧ d.get (Obj.Window.STATE w) = 2 ∧ d.get (Obj.Window.READY w) = 0 ∧
      d.get (Obj.Window.GEN w) = nextGen (s.core.get (Obj.Window.GEN w)) ∧ d.get (Obj.Window.TRIGGER_ID w) = (sailTrigger m).id ∧
      d.get (Obj.Window.TRIGGER_SRC w) = 1 ∧ d.get (Obj.Window.T_EVENT w) = (sailTrigger m).tt := by
  have hkept : ∀ o, o ≠ Obj.SailPort.MSGS_RX sp.val → o ≠ Obj.Sail.TRIG_DROPPED →
      (forwarded s sp.val 1 m).get o = s.core.get o := fun o => forwarded_get
  have hlt : w < 64 := by
    rw [hw]
    exact Core.field_lt 253 248 m.num
  obtain ⟨e, he⟩ := Core.decideTrigger_ok (by rw [hkept _ (by simp; omega) (by simp; omega), harmed]) hok
  obtain ⟨h1, h2, h3, h4, h5, h6, -⟩ := Core.frozen_facts e w (nextGen ((forwarded s sp.val 1 m).get (Obj.Window.GEN w)))
    (sailTrigger m) (sailTrigger m).tt
  refine answersThen_onPower (fun c => c.sailRx sp.val a) rfl hcome.1 ?_
  refine ⟨e.frozen w (nextGen ((forwarded s sp.val 1 m).get (Obj.Window.GEN w))) (sailTrigger m) (sailTrigger m).tt, ?_, h1, h2, ?_,
    h4, h5, h6⟩
  · refine ((sailRx_trigger hcome hup hm).trans (sailTriggerIn_other hid)).trans ?_
    rw [← hw, he]
    rfl
  · rw [h3, hkept _ (by simp; omega) (by simp; omega)]

theorem sailTrigger_disarmed {w : Nat} (hcome : SailComes s sp.val a m) (hm : m.mtype = 1) (hup : s.core.spState sp.val = 3)
    (hid : field 207 176 m.num ≠ s.core.get Obj.Id.HUB_ID) (hw : w = field 253 248 m.num)
    (hsrc : (s.core.get (Obj.Window.SOURCES w)).testBit 1 = true) (hst : s.core.get (Obj.Window.STATE w) = 0) :
    AnswersCore (.sailTrigger sp a) s fun c =>
      c.get (Obj.Window.LAST_REFUSAL w) = 2 ∧ c.bitOf (Obj.Window.FLAGS w) 4 = true ∧
      c.get (Obj.Window.REFUSALS w) = min (s.core.get (Obj.Window.REFUSALS w) + 1) (2 ^ 32 - 1) ∧
      Flooded s sp.val (onward 1 m) c := by
  have hlt : w < 64 := by
    rw [hw]
    exact Core.field_lt 253 248 m.num
  have hkept : ∀ o, o ≠ Obj.SailPort.MSGS_RX sp.val → o ≠ Obj.Sail.TRIG_DROPPED →
      (forwarded s sp.val 1 m).get o = s.core.get o := fun o => forwarded_get
  have hstate : (forwarded s sp.val 1 m).get (Obj.Window.STATE w) = 0 := by
    rw [hkept _ (by simp; omega) (by simp; omega), hst]
  have hearly : (forwarded s sp.val 1 m).earlyRefusal w (sailTrigger m) = some (2, .retry) := by
    unfold Core.earlyRefusal
    dsimp only
    rw [hkept _ (by simp; omega) (by simp; omega), hsrc, if_neg (by decide), if_pos hstate]
  have hrefuse : ((forwarded s sp.val 1 m).decideTrigger w (sailTrigger m)).2 =
      (((forwarded s sp.val 1 m).put (Obj.Window.LAST_REFUSAL w) 2).inc (Obj.Window.REFUSALS w)).flag (Obj.Window.FLAGS w) 4 := by
    rw [Core.decideTrigger, hearly, hstate]
    rfl
  have hrx := ((sailRx_trigger hcome hup hm).trans (sailTriggerIn_other hid)).trans (by rw [← hw, hrefuse])
  refine answersCore_onPower (fun c => c.sailRx sp.val a) rfl hcome.1 ?_ ?_
  · rw [hrx]
    exact (sailSent_forwarded s sp.val 1 m).req
  · rw [hrx]
    refine ⟨?_, Core.bitOf_flag_self _ _ 4, ?_, flooded_of_forwarded fun _ _ => rfl⟩
    · rw [Core.get_flag_ne _ _ (by simp), Core.get_inc_ne _ (by simp), Core.get_put_self]
    · rw [Core.get_flag_ne _ _ (by simp), Core.get_inc_self, Core.get_put_ne _ _ (by simp), hkept _ (by simp; omega) (by simp; omega),
        Core.sat_eq_min]

/-! ## Epochs that arrive (R398, R399) -/

theorem sailRx_epoch_root {a : SailArrival} (hcome : SailComes s 0 a m) (hm : m.mtype = 2) (hup : s.core.spState 0 = 3) :
    s.clear.core.sailRx 0 a = (forwarded s 0 2 m).acceptEpoch (field 159 96 m.num) (field 191 160 m.num) := by
  rw [sailRx_epoch hcome hup hm, Core.epochIn, if_neg (fun h => h rfl)]
  rfl

theorem forwarded_epochs (ty : Nat) : (forwarded s sp.val ty m).sail.epochs = s.core.sail.epochs :=
  (sailSent_forwarded s sp.val ty m).epochs

theorem forwarded_latestEpoch (ty : Nat) : (forwarded s sp.val ty m).latestEpoch = s.core.latestEpoch :=
  (sailSent_forwarded s sp.val ty m).latestEpoch

theorem forwarded_hubTime (ty : Nat) : (forwarded s sp.val ty m).hubTime = s.core.hubTime :=
  (sailSent_forwarded s sp.val ty m).hubTime

theorem sailEpoch_pending (hcome : SailComes s 0 a m) (hm : m.mtype = 2) (hup : s.core.spState 0 = 3)
    (hlen : s.core.sail.epochs.length < 4) (htime : s.core.hubTime ≤ field 159 96 m.num * 2 ^ 32)
    (hclose : ∀ t, s.core.latestEpoch = some t → t + 100000 ≤ field 159 96 m.num) :
    AnswersCore (.sailEpoch 0 a) s fun c =>
      c.sail.epochs = s.core.sail.epochs ++
        [{ te := field 159 96 m.num, num := field 191 160 m.num, late := false, stepped := false }] ∧
      Flooded s 0 (onward 2 m) c ∧ ∀ k, k ≠ Obj.SailPort.MSGS_RX 0 → c.get k = s.core.get k := by
  have hsent := sailSent_forwarded s 0 2 m
  have hrx := (sailRx_epoch_root hcome hm hup).trans (Core.acceptEpoch_pending (by rw [hsent.latestEpoch]; exact hclose)
    (by rw [hsent.epochs]; exact hlen) (by rw [hsent.hubTime]; exact htime))
  refine answersCore_onPower (fun c => c.sailRx 0 a) rfl hcome.1 ?_ ?_
  · rw [hrx]
    exact hsent.req
  · rw [hrx]
    refine ⟨?_, flooded_of_forwarded fun _ _ => rfl, fun k hk => forwarded_get_plain (by decide) hk⟩
    rw [Core.pended, Core.sail_withSail, hsent.epochs]
    rfl

theorem sailEpoch_late (hcome : SailComes s 0 a m) (hm : m.mtype = 2) (hup : s.core.spState 0 = 3)
    (hlen : s.core.sail.epochs.length < 4) (htime : field 159 96 m.num * 2 ^ 32 < s.core.hubTime)
    (hclose : ∀ t, s.core.latestEpoch = some t → t + 100000 ≤ field 159 96 m.num) :
    AnswersThen (.sailEpoch 0 a) s fun c =>
      c.sail.epochs = s.core.sail.epochs ++
        [{ te := field 159 96 m.num, num := field 191 160 m.num, late := true, stepped := false }] ∧
      Flooded s 0 (onward 2 m) c ∧ c.bitOf Obj.Sail.FLAGS 2 = true ∧ s.clear.core.Raises Src.slEpochLate c := by
  have hsent := sailSent_forwarded s 0 2 m
  have hrx := (sailRx_epoch_root hcome hm hup).trans (Core.acceptEpoch_late (by rw [hsent.latestEpoch]; exact hclose)
    (by rw [hsent.epochs]; exact hlen) (by rw [hsent.hubTime]; exact htime))
  refine answersThen_onPower (fun c => c.sailRx 0 a) rfl hcome.1 ?_
  rw [hrx]
  refine ⟨?_, flooded_of_forwarded fun j _ => ?_, ?_, ?_⟩
  · rw [Core.sail_raise, Core.flag, Core.sail_put, Core.pended, Core.sail_withSail, hsent.epochs]
    rfl
  · rw [Core.sailOf_raise]
    rfl
  · rw [Core.bitOf, Core.get_raise _ _ _ (by decide)]
    exact Core.bitOf_flag_self _ _ 2
  · refine Core.raises_of_raise _ (by decide +kernel) hsent.fc ?_
    rw [Core.get_flag_ne _ _ (by decide)]
    exact forwarded_get_plain (by decide) (by decide)

theorem sailEpoch_refused (hcome : SailComes s 0 a m) (hm : m.mtype = 2) (hup : s.core.spState 0 = 3)
    (href : (∃ t, s.core.latestEpoch = some t ∧ field 159 96 m.num < t + 100000) ∨ 4 ≤ s.core.sail.epochs.length) :
    AnswersCore (.sailEpoch 0 a) s fun c =>
      c.sail.epochs = s.core.sail.epochs ∧ Flooded s 0 (onward 2 m) c ∧
      c.get Obj.Sail.EPOCH_REFUSED = min (s.core.get Obj.Sail.EPOCH_REFUSED + 1) (2 ^ 32 - 1) := by
  have hsent := sailSent_forwarded s 0 2 m
  have hrx := (sailRx_epoch_root hcome hm hup).trans (Core.acceptEpoch_refused
    (by rw [hsent.latestEpoch, hsent.epochs]; exact href))
  refine answersCore_onPower (fun c => c.sailRx 0 a) rfl hcome.1 ?_ ?_
  · rw [hrx]
    exact hsent.req
  · rw [hrx]
    refine ⟨hsent.epochs, flooded_of_forwarded fun _ _ => rfl, ?_⟩
    rw [Core.get_inc_self, Core.sat_eq_min, forwarded_get_plain (by decide) (by decide)]

theorem sailEpoch_child (hcome : SailComes s sp.val a m) (hm : m.mtype = 2) (hup : s.core.spState sp.val = 3) (hsp : sp ≠ 0) :
    AnswersCore (.sailEpoch sp a) s fun c =>
      c.sail.epochs = s.core.sail.epochs ∧ (∀ j, j ≠ sp.val → c.sailOf j = s.core.sailOf j) ∧
      c.get Obj.Sail.EPOCH_REFUSED = min (s.core.get Obj.Sail.EPOCH_REFUSED + 1) (2 ^ 32 - 1) ∧
      ∀ k, k ≠ Obj.SailPort.MSGS_RX sp.val → k ≠ Obj.Sail.EPOCH_REFUSED → c.get k = s.core.get k := by
  have hrx : s.clear.core.sailRx sp.val a = (s.sailTaken sp.val).inc Obj.Sail.EPOCH_REFUSED := by
    have hne : sp.val ≠ 0 := fun h => hsp (Fin.ext h)
    rw [sailRx_epoch hcome hup hm, Core.epochIn, if_pos hne]
  refine answersCore_onPower (fun c => c.sailRx sp.val a) rfl hcome.1 ?_ ?_
  · rw [hrx]
    rfl
  · rw [hrx]
    refine ⟨rfl, fun j hj => sailTaken_sailOf_ne hj, ?_, fun k hk hr => ?_⟩
    · rw [Core.get_inc_self, Core.sat_eq_min, sailTaken_get (by simp; omega)]
    · rw [Core.get_inc_ne _ hr, sailTaken_get hk]

end Sys2Proof.Machine
end

section
/-! PROOFS. The epochs of the helm, the latch of the counters and their publication (15_sail_time_array.md R398 to R400). -/

namespace Sys2Proof.Machine

/-! ## The helm's epochs (R398) -/

namespace Core

variable {c : Core} {te : Nat}

/-- The hub once it has originated an epoch. -/
def originated (c : Core) (te : Nat) : Core :=
  (c.withSail { c.sail with epochNum := (c.sail.epochNum + 1) % 2 ^ 32 }).sailFlood 4
    (helmEpoch ((c.sail.epochNum + 1) % 2 ^ 32) te (c.get Obj.Id.HUB_ID))

theorem sailSent_originated (c : Core) (te : Nat) :
    (c.withSail { c.sail with epochNum := (c.sail.epochNum + 1) % 2 ^ 32 }).SailSent (c.originated te) :=
  sailSent_sailFlood _ 4 _

theorem originateEpoch_eq (c : Core) : c.originateEpoch =
    (c.originated ((c.timeNs + c.get Obj.Sail.EPOCH_LEAD_US * 1000) % 2 ^ 64)).acceptEpoch
      ((c.timeNs + c.get Obj.Sail.EPOCH_LEAD_US * 1000) % 2 ^ 64) ((c.sail.epochNum + 1) % 2 ^ 32) := rfl

/-- An epoch that is in time and far enough from the latest is pending at once. -/
theorem originateEpoch_pending (hte : te = (c.timeNs + c.get Obj.Sail.EPOCH_LEAD_US * 1000) % 2 ^ 64)
    (htime : c.hubTime ≤ te * 2 ^ 32) (hlen : c.sail.epochs.length < 4) (hclose : ∀ t, c.latestEpoch = some t → t + 100000 ≤ te) :
    c.originateEpoch = (c.originated te).pended te ((c.sail.epochNum + 1) % 2 ^ 32) false := by
  have hsent := sailSent_originated c te
  rw [originateEpoch_eq, ← hte]
  refine acceptEpoch_pending ?_ ?_ ?_
  · rw [hsent.latestEpoch]
    exact hclose
  · rw [hsent.epochs]
    exact hlen
  · rw [hsent.hubTime]
    exact htime

end Core

/-- What the epoch of the helm leaves. -/
theorem originated_facts (s : State) (te : Nat) :
    let c := (s.clear.core.originated te).pended te ((s.core.sail.epochNum + 1) % 2 ^ 32) false
    c.sail.epochNum = (s.core.sail.epochNum + 1) % 2 ^ 32 ∧
      c.sail.epochs = s.core.sail.epochs ++
        [{ te := te, num := (s.core.sail.epochNum + 1) % 2 ^ 32, late := false, stepped := false }] ∧
      Flooded s 4 (helmEpoch ((s.core.sail.epochNum + 1) % 2 ^ 32) te (s.core.get Obj.Id.HUB_ID)) c ∧
      (∀ k, c.get k = s.core.get k) ∧ c.req = [] := by
  have hsent := Core.sailSent_originated s.clear.core te
  refine ⟨?_, ?_, ?_, fun k => Core.get_sailFlood (m := helmEpoch _ _ _) (show (2 : Nat) ≠ 1 by decide) _ 4 k, hsent.req⟩
  · rw [Core.pended, Core.sail_withSail, hsent.epochNum]
    rfl
  · rw [Core.pended, Core.sail_withSail, hsent.epochs]
    rfl
  · exact flooded_sailFlood (c := s.clear.core.withSail { s.core.sail with epochNum := (s.core.sail.epochNum + 1) % 2 ^ 32 })
      (fun h => absurd h (show (2 : Nat) ≠ 5 by decide)) (fun _ => rfl) (fun _ => ⟨rfl, rfl, rfl⟩) fun _ _ => rfl

section
variable {s : State} {w : World} {te : Nat}

theorem writeValue_epochNow (c : Core) (f : Fuses) (w : World) (bs : List Byte) :
    c.writeValue f w 0x5800 8 bs = c.onOne (ofBytes bs) c.epochNow := rfl

theorem exec_epochNow (w : World) (s : State) : exec (.epochNow w) s = .next (s.writeNum w Obj.Sail.EPOCH_NOW 1) := rfl

theorem epochNow_write (h : Admits s w Obj.Sail.EPOCH_NOW 1) : s.clear.core.writeValue s.fuses w (Obj.Sail.EPOCH_NOW / 256)
    (Obj.Sail.EPOCH_NOW % 256) (toBytes (sizeOf Obj.Sail.EPOCH_NOW) 1) = s.clear.core.epochNow := by
  rw [show Obj.Sail.EPOCH_NOW / 256 = 0x5800 from rfl, show Obj.Sail.EPOCH_NOW % 256 = 8 from rfl, writeValue_epochNow,
    ofBytes_toBytes_of_fits h.2.1]
  rfl

theorem epochNow_helm (h : Admits s w Obj.Sail.EPOCH_NOW 1) (hhelm : isHelm (s.core.get Obj.Sail.ROLE) = true)
    (hte : te = (s.core.timeNs + s.core.get Obj.Sail.EPOCH_LEAD_US * 1000) % 2 ^ 64) (htime : s.core.hubTime ≤ te * 2 ^ 32)
    (hlen : s.core.sail.epochs.length < 4) (hclose : ∀ t, s.core.latestEpoch = some t → t + 100000 ≤ te) :
    AnswersOk (.epochNow w) s fun c =>
      c.sail.epochNum = (s.core.sail.epochNum + 1) % 2 ^ 32 ∧
      c.sail.epochs = s.core.sail.epochs ++
        [{ te := te, num := (s.core.sail.epochNum + 1) % 2 ^ 32, late := false, stepped := false }] ∧
      Flooded s 4 (helmEpoch ((s.core.sail.epochNum + 1) % 2 ^ 32) te (s.core.get Obj.Id.HUB_ID)) c ∧
      ∀ k, c.get k = s.core.get k := by
  have hnow : s.clear.core.epochNow = (.ok, (s.clear.core.originated te).pended te ((s.core.sail.epochNum + 1) % 2 ^ 32) false) := by
    rw [Core.epochNow, if_pos (by exact hhelm), Core.originateEpoch_pending (c := s.clear.core) hte htime hlen hclose]
    rfl
  obtain ⟨h1, h2, h3, h4, -⟩ := originated_facts s te
  exact answersOk_writeNum (exec_epochNow w s) h (by decide +kernel) (by decide) ((epochNow_write h).trans hnow) ⟨h1, h2, h3, h4⟩

theorem epochNow_other (h : Admits s w Obj.Sail.EPOCH_NOW 1) (hhelm : isHelm (s.core.get Obj.Sail.ROLE) = false) :
    exec (.epochNow w) s = .next { s.clear with core := { s.clear.core with out := [.status .retry] } } := by
  have hnow : s.clear.core.epochNow = (.retry, s.clear.core) := if_neg (by rw [show isHelm (s.clear.core.get Obj.Sail.ROLE) = false from hhelm]; decide)
  rw [exec_epochNow, State.writeNum_of_writeValue h (by decide +kernel) (by decide) ((epochNow_write h).trans hnow)]
  exact congrArg _ (State.settle_of_req_nil _ rfl)

theorem epochPeriod_helm (hu : s.core.seqUp = true) (hhelm : isHelm (s.core.get Obj.Sail.ROLE) = true)
    (hper : s.core.get Obj.Sail.EPOCH_PERIOD_MS ≠ 0)
    (hte : te = (s.core.timeNs + s.core.get Obj.Sail.EPOCH_LEAD_US * 1000) % 2 ^ 64) (htime : s.core.hubTime ≤ te * 2 ^ 32)
    (hlen : s.core.sail.epochs.length < 4) (hclose : ∀ t, s.core.latestEpoch = some t → t + 100000 ≤ te) :
    AnswersCore .epochPeriod s fun c =>
      c.sail.epochNum = (s.core.sail.epochNum + 1) % 2 ^ 32 ∧
      c.sail.epochs = s.core.sail.epochs ++
        [{ te := te, num := (s.core.sail.epochNum + 1) % 2 ^ 32, late := false, stepped := false }] ∧
      Flooded s 4 (helmEpoch ((s.core.sail.epochNum + 1) % 2 ^ 32) te (s.core.get Obj.Id.HUB_ID)) c ∧
      ∀ k, c.get k = s.core.get k := by
  have hnow : s.clear.core.epochPeriod = (s.clear.core.originated te).pended te ((s.core.sail.epochNum + 1) % 2 ^ 32) false := by
    have hcond : (isHelm (s.clear.core.get Obj.Sail.ROLE) && decide (s.clear.core.get Obj.Sail.EPOCH_PERIOD_MS ≠ 0)) = true := by
      rw [show isHelm (s.clear.core.get Obj.Sail.ROLE) = true from hhelm, Bool.true_and]
      exact decide_eq_true hper
    rw [Core.epochPeriod, if_pos hcond, Core.originateEpoch_pending (c := s.clear.core) hte htime hlen hclose]
    rfl
  obtain ⟨h1, h2, h3, h4, h5⟩ := originated_facts s te
  refine answersCore_onPower (fun c => c.epochPeriod) rfl hu ?_ ?_
  · rw [hnow, h5]
  · rw [hnow]
    exact ⟨h1, h2, h3, h4⟩

theorem epochPeriod_other (h : isHelm (s.core.get Obj.Sail.ROLE) = false ∨ s.core.get Obj.Sail.EPOCH_PERIOD_MS = 0) :
    exec .epochPeriod s = .next s.clear := by
  refine exec_of_onPower_unchanged (fun c => c.epochPeriod) (if_neg ?_) rfl
  rw [Bool.and_eq_true, decide_eq_true_eq]
  rintro ⟨hhelm, hper⟩
  rcases h with h | h
  · exact absurd (hhelm.symm.trans h) (by decide)
  · exact hper h

/-! ## The latch and its publication (R399, R400) -/

theorem epochLatch_idle (h : ∀ e ∈ s.core.sail.epochs, s.core.hubTime < e.te * 2 ^ 32) : exec .epochLatch s = .next s.clear := by
  refine exec_of_onPower_unchanged (fun c => c.epochLatch) ?_ rfl
  cases he : s.core.sail.epochs with
  | nil =>
    have he' : s.clear.core.sail.epochs = [] := he
    rw [Core.epochLatch, he']
  | cons e rest =>
    have he' : s.clear.core.sail.epochs = e :: rest := he
    rw [Core.epochLatch, he']
    exact if_pos (h e (he ▸ List.mem_cons_self))

namespace Core

/-- The hub as a snapshot begins: a generation, unless one waits to be published. -/
def snapBegun (c : Core) : Core :=
  if c.sail.snap.isNone then (c.keepShown Obj.Snap.READY [Obj.Snap.GEN]).put Obj.Snap.GEN (nextGen (c.get Obj.Snap.GEN)) else c

theorem epochLatch_eq {c : Core} {e : Epoch} {rest : List Epoch} (he : c.sail.epochs = e :: rest) (h : e.te * 2 ^ 32 ≤ c.hubTime) :
    c.epochLatch = (c.snapBegun.withSail { c.snapBegun.sail with
      epochs := rest, latched := some e.te, snap := some (c.snapshot e) }).put Obj.Snap.READY 0 := by
  rw [epochLatch, he]
  exact if_neg (Nat.not_lt.2 h)

theorem snapBegun_get (c : Core) {o : Nat} (h : o ≠ Obj.Snap.GEN) : c.snapBegun.get o = c.get o := by
  unfold snapBegun keepShown
  split_ifs
  · rw [get_put_ne _ _ h]
    rfl
  · rw [get_put_ne _ _ h]
  · rfl

theorem snapBegun_gen {c : Core} (h : c.sail.snap = none) : c.snapBegun.get Obj.Snap.GEN = nextGen (c.get Obj.Snap.GEN) := by
  rw [snapBegun, if_pos (by rw [h]; rfl), get_put_self]

theorem snapBegun_req (c : Core) : c.snapBegun.req = c.req := by
  unfold snapBegun keepShown
  split_ifs <;> rfl

/-- The table written out object by object. -/
theorem publish_foldl (t : Tbl Nat) (c : Core) : let d := t.foldl (fun c e => c.put e.1 e.2) c
    c.ObjsOnly d ∧ (∀ k, (∀ e ∈ t, e.1 ≠ k) → d.get k = c.get k) ∧ ((t.map (·.1)).Nodup → ∀ e ∈ t, d.get e.1 = e.2) := by
  induction t generalizing c with
  | nil => exact ⟨rfl, fun _ _ => rfl, fun _ e he => absurd he List.not_mem_nil⟩
  | cons x t ih =>
    obtain ⟨hobjs, hkeep, hval⟩ := ih (c.put x.1 x.2)
    refine ⟨(objsOnly_put c _ _).trans hobjs, fun k hk => ?_, fun hnd e he => ?_⟩
    · exact (hkeep k fun e he => hk e (List.mem_cons_of_mem x he)).trans (get_put_ne _ _ (hk x List.mem_cons_self).symm)
    · rw [List.map_cons, List.nodup_cons] at hnd
      obtain ⟨hnot, hnd⟩ := hnd
      rcases List.mem_cons.1 he with rfl | he
      · refine (hkeep e.1 fun y hy hye => hnot ?_).trans (get_put_self _ _ _)
        rw [← hye]
        exact List.mem_map_of_mem hy
      · exact hval hnd e he

end Core

theorem epochLatch_now {e : Epoch} {rest : List Epoch} (hu : s.core.seqUp = true) (he : s.core.sail.epochs = e :: rest)
    (htime : e.te * 2 ^ 32 ≤ s.core.hubTime) : AnswersCore .epochLatch s fun c =>
      c.sail.epochs = rest ∧ c.sail.latched = some e.te ∧ c.get Obj.Snap.READY = 0 ∧
      (∃ t, c.sail.snap = some t ∧ t = s.core.snapshot e ∧ t.num Obj.Snap.EPOCH_NUM = e.num ∧ t.num Obj.Snap.T_EPOCH = e.te ∧
        t.num Obj.Snap.T_LATCH = s.core.hubTime ∧
        t.num Obj.Snap.SNAP_FLAGS = ofBool e.late + 2 * ofBool e.stepped + 4 * ofBool (!s.core.timeValid)) ∧
      (s.core.sail.snap = none → c.get Obj.Snap.GEN = nextGen (s.core.get Obj.Snap.GEN)) ∧
      ∀ k, k ≠ Obj.Snap.READY → k ≠ Obj.Snap.GEN → c.get k = s.core.get k := by
  have hlatch := Core.epochLatch_eq (c := s.clear.core) he htime
  refine answersCore_onPower (fun c => c.epochLatch) rfl hu ?_ ?_
  · rw [hlatch]
    exact Core.snapBegun_req s.clear.core
  · rw [hlatch]
    refine ⟨rfl, rfl, Core.get_put_self _ _ _, ⟨s.core.snapshot e, rfl, rfl, rfl, rfl, rfl, rfl⟩, fun hnone => ?_, fun k hk hg => ?_⟩
    · exact (Core.get_put_ne _ _ (by decide)).trans (Core.snapBegun_gen (c := s.clear.core) hnone)
    · exact (Core.get_put_ne _ _ hk).trans (Core.snapBegun_get s.clear.core hg)

theorem snapshotPublish_now {t : Tbl Nat} (hu : s.core.seqUp = true) (hsnap : s.core.sail.snap = some t) :
    AnswersCore .snapshotPublish s fun c =>
      c.sail.snap = none ∧ c.get Obj.Snap.READY = 1 ∧
      ((t.map (·.1)).Nodup → ∀ e ∈ t, e.1 ≠ Obj.Snap.READY → c.get e.1 = e.2) ∧
      ∀ k, k ≠ Obj.Snap.READY → (∀ e ∈ t, e.1 ≠ k) → c.get k = s.core.get k := by
  obtain ⟨hobjs, hkeep, hval⟩ := Core.publish_foldl t s.clear.core
  have hpub : s.clear.core.snapshotPublish = ((t.foldl (fun c e => c.put e.1 e.2) s.clear.core).withSail
      { (t.foldl (fun c e => c.put e.1 e.2) s.clear.core).sail with snap := none }).put Obj.Snap.READY 1 := by
    have hsnap' : s.clear.core.sail.snap = some t := hsnap
    rw [Core.snapshotPublish, hsnap']
  refine answersCore_onPower (fun c => c.snapshotPublish) rfl hu ?_ ?_
  · rw [hpub]
    exact hobjs.req
  · rw [hpub]
    refine ⟨rfl, Core.get_put_self _ _ _, fun hnd e he hne => ?_, fun k hk hno => ?_⟩
    · exact (Core.get_put_ne _ _ hne).trans (hval hnd e he)
    · exact (Core.get_put_ne _ _ hk).trans (hkeep k hno)

end

/-- Settles O54: a TRIGGER and an EPOCH as the receiver delivers them, the epochs that the helm originates, and the latch. -/
theorem sailEpochs : Obligations.SailEpochs := by
  unfold Obligations.SailEpochs
  refine ⟨fun s sp a m => sailTrigger_own, fun s sp a m c0 w t hcome hm hup hid hw hc0 ht harmed hok => ?_,
    fun s sp a m w => sailTrigger_disarmed, fun s a m => sailEpoch_pending, fun s a m => sailEpoch_late,
    fun s a m => sailEpoch_refused, fun s sp a m => sailEpoch_child, fun s w te => epochNow_helm, fun s w => epochNow_other,
    fun s te => epochPeriod_helm, fun s => epochPeriod_other, fun s => epochLatch_idle, fun s e rest => epochLatch_now,
    fun s t => snapshotPublish_now⟩
  subst hc0 ht
  exact sailTrigger_taken hcome hm hup hid hw harmed hok

end Sys2Proof.Machine
end

section
/-! PROOFS. HELLO, refusal and reports: what they leave of a port and of the tree (15_sail_time_array.md R389 to R391). -/

namespace Sys2Proof.Machine

namespace Core

variable {c d : Core} {k : Nat}

/-- ROLE reads ROOT, whether SP0 is UP or REFUSED, and which child ports are UP. -/
theorem roleNow_of_up (hroot : d.get Obj.Sail.ROOT = c.get Obj.Sail.ROOT) (h0 : d.spState 0 = c.spState 0)
    (hup : ∀ j, d.spUp j = c.spUp j) : d.roleNow = c.roleNow := by
  rw [roleNow, isSet, hroot, h0, hup, hup, hup, roleNow, isSet]

theorem topology_farDepth (c : Core) (j : Nat) : (c.topology.sailOf j).farDepth = (c.sailOf j).farDepth := by
  rw [(sailSent_topology c).farDepth, (treeCounted_kept c).2.2.2.2.1]

theorem topology_rxNext (c : Core) (j : Nat) : (c.topology.sailOf j).rxNext = (c.sailOf j).rxNext := by
  rw [(sailSent_topology c).rxNext, (treeCounted_kept c).2.2.2.2.1]

/-! ## HELLO (R386, R390) -/

/-- The port with what its HELLO says of the far end. -/
def greeted (c : Core) (k far : Nat) (root : Bool) (depth : Nat) : Core :=
  (c.put (Obj.SailPort.FAR_ID k) far).updSail k fun s => { s with farRoot := root, farDepth := depth, hello := true }

theorem greeted_get (c : Core) (k far : Nat) (root : Bool) (depth : Nat) {o : Nat} (h : o ≠ Obj.SailPort.FAR_ID k) :
    (c.greeted k far root depth).get o = c.get o := by
  rw [greeted, get_updSail, get_put_ne _ _ h]

theorem greeted_farId (c : Core) (k far : Nat) (root : Bool) (depth : Nat) :
    (c.greeted k far root depth).get (Obj.SailPort.FAR_ID k) = far := by
  rw [greeted, get_updSail, get_put_self]

theorem greeted_spState (c : Core) (k far : Nat) (root : Bool) (depth j : Nat) :
    (c.greeted k far root depth).spState j = c.spState j := greeted_get c k far root depth (by simp; omega)

theorem greeted_sailOf_self (c : Core) (k far : Nat) (root : Bool) (depth : Nat) : (c.greeted k far root depth).sailOf k =
    { c.sailOf k with farRoot := root, farDepth := depth, hello := true } := by
  rw [greeted, sailOf_updSail_self, sailOf_put]

theorem greeted_sailOf_ne (c : Core) (k far : Nat) (root : Bool) (depth : Nat) {j : Nat} (h : j ≠ k) :
    (c.greeted k far root depth).sailOf j = c.sailOf j := by
  rw [greeted, sailOf_updSail_ne _ _ h, sailOf_put]

/-- The port UP, before the tree follows. -/
def raisedPort (c : Core) (k : Nat) : Core := ((c.put (Obj.SailPort.STATE k) 3).put (Obj.SailPort.REFUSE_CAUSE k) 0).flag Obj.Sail.FLAGS 0

/-- The port UP and the tree with it. -/
def admittedPort (c : Core) (k : Nat) : Core := (c.raisedPort k).topology

theorem raisedPort_get (c : Core) (k : Nat) {o : Nat} (h1 : o ≠ Obj.SailPort.STATE k) (h2 : o ≠ Obj.SailPort.REFUSE_CAUSE k)
    (h3 : o ≠ Obj.Sail.FLAGS) : (c.raisedPort k).get o = c.get o := by
  rw [raisedPort, get_flag_ne _ _ h3, get_put_ne _ _ h2, get_put_ne _ _ h1]

theorem raisedPort_self (c : Core) (k : Nat) : (c.raisedPort k).spState k = 3 ∧
    (c.raisedPort k).get (Obj.SailPort.REFUSE_CAUSE k) = 0 ∧ (c.raisedPort k).bitOf Obj.Sail.FLAGS 0 = true := by
  refine ⟨?_, ?_, bitOf_flag_self _ _ 0⟩
  · rw [spState, raisedPort, get_flag_ne _ _ (by simp; omega), get_put_ne _ _ (by simp), get_put_self]
  · rw [raisedPort, get_flag_ne _ _ (by simp; omega), get_put_self]

theorem portKey_not_tree {o : Nat} (k : Nat) (h : o = Obj.SailPort.REFUSE_CAUSE k ∨ o = Obj.SailPort.FAR_ID k ∨
    o = Obj.SailPort.FLAGS k ∨ o = Obj.SailPort.MSGS_RX k) : ¬ treeKey o ∧ o ≠ Obj.Sail.TRIG_DROPPED := by
  simp only [treeKey]
  rcases h with rfl | rfl | rfl | rfl <;> constructor <;> simp <;> omega

/-- What a port that is admitted shows. -/
theorem admittedPort_facts (c : Core) (k : Nat) : (c.admittedPort k).spState k = 3 ∧
    (c.admittedPort k).get (Obj.SailPort.REFUSE_CAUSE k) = 0 ∧
    (c.admittedPort k).get (Obj.SailPort.FAR_ID k) = c.get (Obj.SailPort.FAR_ID k) ∧
    (c.admittedPort k).bitOf Obj.Sail.FLAGS 0 = true ∧ (∀ j, j ≠ k → (c.admittedPort k).spState j = c.spState j) ∧
    (c.admittedPort k).req = c.req ∧ ∀ j, ((c.admittedPort k).sailOf j).farDepth = (c.sailOf j).farDepth := by
  obtain ⟨hstate, hcause, hflag⟩ := raisedPort_self c k
  have h1 := portKey_not_tree (o := Obj.SailPort.REFUSE_CAUSE k) k (.inl rfl)
  have h2 := portKey_not_tree (o := Obj.SailPort.FAR_ID k) k (.inr (.inl rfl))
  refine ⟨?_, ?_, ?_, topology_flag _ hflag, fun j hj => ?_, ?_, fun j => ?_⟩
  · rw [admittedPort, topology_spState, hstate]
  · rw [admittedPort, topology_get _ h1.1 h1.2, hcause]
  · rw [admittedPort, topology_get _ h2.1 h2.2, raisedPort_get _ _ (by simp) (by simp) (by simp; omega)]
  · rw [admittedPort, topology_spState, spState, raisedPort_get _ _ (by simp; omega) (by simp; omega) (by simp; omega), spState]
  · exact (topology_req _).trans rfl
  · exact (topology_farDepth _ j).trans rfl

/-- A HELLO that is not the one that decided the port. -/
theorem helloIn_fresh {far depth : Nat} {fromSp0 root : Bool}
    (hnew : c.spState k < 3 ∨ c.get (Obj.SailPort.FAR_ID k) ≠ far ∨ (c.sailOf k).farRoot ≠ root)
    (href : c.spState k = 4 → k ≠ 0) : c.helloIn k far fromSp0 root depth =
    (let cause := (c.greeted k far root depth).helloCause k fromSp0 root
     if cause ≠ 0 then (c.greeted k far root depth).refuseHello k far cause
     else if c.spState k = 3 then (c.greeted k far root depth).topology
     else if c.spState k = 4 then ((c.greeted k far root depth).admittedPort k).sendHello k
     else (c.greeted k far root depth).admittedPort k) := by
  have hsame : ((((c.sailOf k).hello && decide (c.get (Obj.SailPort.FAR_ID k) = far) && decide ((c.sailOf k).farRoot = root) &&
      decide ((c.sailOf k).farDepth = depth)) && decide (3 ≤ c.spState k)) = true) → False := by
    simp only [Bool.and_eq_true, decide_eq_true_eq]
    rintro ⟨⟨⟨⟨-, hfar⟩, hroot⟩, -⟩, hst⟩
    rcases hnew with h | h | h
    · omega
    · exact h hfar
    · exact h hroot
  have hzero : ¬ ((decide (c.spState k = 4) && decide (k = 0)) = true) := by
    simp only [Bool.and_eq_true, decide_eq_true_eq, not_and]
    exact href
  rw [helloIn]
  dsimp only
  rw [if_neg hsame]
  exact if_neg hzero

theorem helloIn_same {far depth : Nat} {fromSp0 root : Bool} (hst : 3 ≤ c.spState k) (hh : (c.sailOf k).hello = true)
    (hfar : c.get (Obj.SailPort.FAR_ID k) = far) (hroot : (c.sailOf k).farRoot = root) (hdepth : (c.sailOf k).farDepth = depth) :
    c.helloIn k far fromSp0 root depth = c := by
  rw [helloIn]
  dsimp only
  rw [if_pos (by simp [hst, hh, hfar, hroot, hdepth])]

/-! ## Refusal (R390) -/

/-- The port refused, before the tree follows. -/
def shutPort (c : Core) (k cause : Nat) : Core :=
  let c1 := if c.spUp k then c.flag Obj.Sail.FLAGS 0 else c
  let c2 := c1.updSail k fun s => { s with queue := s.queue.filter fun m => m.mtype == 5 }
  ((c2.put (Obj.SailPort.STATE k) 4).put (Obj.SailPort.REFUSE_CAUSE k) cause).flag (Obj.SailPort.FLAGS k) 1

theorem sailRefuse_eq (c : Core) (k cause : Nat) : c.sailRefuse k cause = (c.shutPort k cause).topology := rfl

theorem shutPort_get (c : Core) (k cause : Nat) {o : Nat} (h0 : o ≠ Obj.Sail.FLAGS) (h1 : o ≠ Obj.SailPort.STATE k)
    (h2 : o ≠ Obj.SailPort.REFUSE_CAUSE k) (h3 : o ≠ Obj.SailPort.FLAGS k) : (c.shutPort k cause).get o = c.get o := by
  rw [shutPort]
  rw [get_flag_ne _ _ h3, get_put_ne _ _ h2, get_put_ne _ _ h1, get_updSail]
  split
  · exact get_flag_ne _ _ h0
  · rfl

theorem shutPort_flag (c : Core) (k cause : Nat) {n : Nat} (h : c.bitOf Obj.Sail.FLAGS n = true) :
    (c.shutPort k cause).bitOf Obj.Sail.FLAGS n = true := by
  rw [shutPort]
  rw [bitOf_congr n (get_flag_ne _ _ (by simp; omega)), bitOf_congr n (get_put_ne _ _ (by simp; omega)),
    bitOf_congr n (get_put_ne _ _ (by simp; omega)), bitOf_congr n (get_updSail _ _ _ _)]
  split
  · exact bitOf_flag_of_bitOf 0 h
  · exact h

theorem shutPort_self (c : Core) (k cause : Nat) : (c.shutPort k cause).spState k = 4 ∧
    (c.shutPort k cause).get (Obj.SailPort.REFUSE_CAUSE k) = cause ∧ (c.shutPort k cause).bitOf (Obj.SailPort.FLAGS k) 1 = true := by
  refine ⟨?_, ?_, bitOf_flag_self _ _ 1⟩
  · rw [spState, shutPort, get_flag_ne _ _ (by simp), get_put_ne _ _ (by simp), get_put_self]
  · rw [shutPort, get_flag_ne _ _ (by simp), get_put_self]

theorem shutPort_kept (c : Core) (k cause : Nat) : (c.shutPort k cause).fc = c.fc ∧ (c.shutPort k cause).req = c.req ∧
    (∀ j, j ≠ k → (c.shutPort k cause).sailOf j = c.sailOf j) ∧
    (c.shutPort k cause).sailOf k = { c.sailOf k with queue := (c.sailOf k).queue.filter fun m => m.mtype == 5 } := by
  rw [shutPort]
  split
  · exact ⟨rfl, rfl, fun j hj => sailOf_updSail_ne (c.flag Obj.Sail.FLAGS 0) _ hj, sailOf_updSail_self (c.flag Obj.Sail.FLAGS 0) k _⟩
  · exact ⟨rfl, rfl, fun j hj => sailOf_updSail_ne c _ hj, sailOf_updSail_self c k _⟩

/-- What a refused port shows. -/
theorem sailRefuse_facts (c : Core) (k cause : Nat) : (c.sailRefuse k cause).spState k = 4 ∧
    (c.sailRefuse k cause).get (Obj.SailPort.REFUSE_CAUSE k) = cause ∧
    (c.sailRefuse k cause).bitOf (Obj.SailPort.FLAGS k) 1 = true ∧ (∀ j, j ≠ k → (c.sailRefuse k cause).spState j = c.spState j) ∧
    (c.sailRefuse k cause).fc = c.fc ∧ (c.sailRefuse k cause).req = c.req ∧
    (∀ n, c.bitOf Obj.Sail.FLAGS n = true → (c.sailRefuse k cause).bitOf Obj.Sail.FLAGS n = true) ∧
    (c.sailRefuse k cause).get (Obj.Source.COUNT Src.slDualHelm) = c.get (Obj.Source.COUNT Src.slDualHelm) := by
  obtain ⟨hstate, hcause, hflag⟩ := shutPort_self c k cause
  obtain ⟨hfc, hreq, -⟩ := shutPort_kept c k cause
  have h1 := portKey_not_tree (o := Obj.SailPort.REFUSE_CAUSE k) k (.inl rfl)
  have h2 := portKey_not_tree (o := Obj.SailPort.FLAGS k) k (.inr (.inr (.inl rfl)))
  rw [sailRefuse_eq]
  refine ⟨?_, ?_, ?_, fun j hj => ?_, (topology_fc _).trans hfc, (topology_req _).trans hreq,
    fun n hn => topology_flag _ (shutPort_flag c k cause hn), ?_⟩
  · rw [topology_spState, hstate]
  · rw [topology_get _ h1.1 h1.2, hcause]
  · rw [bitOf_congr 1 (topology_get _ h2.1 h2.2), hflag]
  · rw [topology_spState, spState, shutPort_get _ _ _ (by simp; omega) (by simp; omega) (by simp; omega) (by simp; omega), spState]
  · have hkey : ¬ treeKey (Obj.Source.COUNT Src.slDualHelm) := by
      simp only [treeKey]
      decide
    rw [topology_get _ hkey (by decide), shutPort_get c k cause (o := Obj.Source.COUNT Src.slDualHelm) (by decide) (by simp; omega)
      (by simp [Src.slDualHelm]; omega) (by simp; omega)]

end Core
end Sys2Proof.Machine
end

section
/-! PROOFS. The tree of the array (15_sail_time_array.md R386, R389 to R391). -/

namespace Sys2Proof.Machine

namespace Core

variable {c d : Core} {k : Nat}

/-! ## The messages of a refusal (R390) -/

/-- A flood on every UP port but one, and the message on that one. -/
def told (c : Core) (k : Nat) (m : SailMsg) : Core := (c.sailFlood k m).sailSend k m

theorem sailSent_told (c : Core) (k : Nat) (m : SailMsg) : c.SailSent (c.told k m) :=
  (sailSent_sailFlood c k m).trans (sailSent_sailSend _ k m)

theorem get_told {m : SailMsg} (h : m.mtype ≠ 1) (c : Core) (k o : Nat) : (c.told k m).get o = c.get o :=
  (get_sailSend h _ k o).trans (get_sailFlood h c k o)

theorem started_congr (k : Nat) (m : SailMsg) (h : d.sailOf k = c.sailOf k) (ht : d.hubTime = c.hubTime) :
    d.started k m = c.started k m := by
  rw [started, h, ht, started]

/-- Each port that the message is for and that is free starts it. -/
theorem told_unack (m : SailMsg) {j : Nat} (hj : j < 4) (hto : c.spUp j = true ∨ j = k) (hfree : c.sailFree j) :
    ((c.told k m).sailOf j).unack = (c.sailOf j).unack ++ [c.started j m] := by
  by_cases hjk : j = k
  · subst hjk
    have hsame : (c.sailFlood j m).sailOf j = c.sailOf j := sailOf_sailFlood_ne c m (.inl rfl)
    have hfree' : (c.sailFlood j m).sailFree j := by
      rw [sailFree, hsame]
      exact hfree
    rw [told, sailSend_of_free m hfree', sailOf_sailLaunch, hsame, started_congr j m hsame (sailSent_sailFlood c j m).hubTime]
  · rw [told, sailOf_sailSend_ne _ m hjk, sailOf_sailFlood c m hj hjk (hto.resolve_right hjk) hfree]

/-- The last eight bytes of a HEALTH message of this hub: the other hub and the cause (R387). -/
theorem healthMsg_started (c : Core) (d : Core) (j kind other cause : Nat) :
    (d.started j (c.healthMsg kind other cause)).mtype = 5 ∧ (d.started j (c.healthMsg kind other cause)).hops = 0 ∧
      (d.started j (c.healthMsg kind other cause)).body.drop 24 = (c.healthMsg kind other cause).body.drop 24 := by
  refine ⟨rfl, rfl, ?_⟩
  have hlen : ((c.healthMsg kind other cause).body.take 12 ++ toBytes 12 d.hubTime).length = 24 := by
    rw [List.length_append, List.length_take, toBytes_length, healthMsg, toBytes_length]
    rfl
  have hbody : (d.started j (c.healthMsg kind other cause)).body = (c.healthMsg kind other cause).body.take 12 ++ toBytes 12 d.hubTime ++
      (c.healthMsg kind other cause).body.drop 24 := by
    rw [started]
    dsimp only
    rw [if_pos]
    rfl
  rw [hbody, List.drop_left' hlen]

theorem toBytes_eight_add (a v : Nat) : toBytes 8 (a * 2 ^ 64 + v) = toBytes 8 v := by
  have hbyte : ∀ i < 8, BitVec.ofNat 8 ((a * 2 ^ 64 + v) / 256 ^ i) = BitVec.ofNat 8 (v / 256 ^ i) := by
    intro i hi
    apply BitVec.eq_of_toNat_eq
    simp only [BitVec.toNat_ofNat]
    interval_cases i <;> omega
  simp only [toBytes]
  rw [hbyte 7 (by decide), hbyte 6 (by decide), hbyte 5 (by decide), hbyte 4 (by decide), hbyte 3 (by decide), hbyte 2 (by decide),
    hbyte 1 (by decide), hbyte 0 (by decide)]

/-- The fields above the last eight bytes. -/
theorem health_fields (kind id root depth dev sub pend sev other : Nat) :
    kind <<< 248 + id <<< 216 + root <<< 215 + depth <<< 211 + dev <<< 200 + sub <<< 184 + pend <<< 168 + sev <<< 160 +
      other <<< 32 + 0 = (kind * 2 ^ 184 + id * 2 ^ 152 + root * 2 ^ 151 + depth * 2 ^ 147 + dev * 2 ^ 136 + sub * 2 ^ 120 +
        pend * 2 ^ 104 + sev * 2 ^ 96) * 2 ^ 64 + other <<< 32 := by
  simp only [Nat.shiftLeft_eq]
  ring

theorem healthMsg_tail (c : Core) (kind : Nat) {other : Nat} (h : other < 2 ^ 32) :
    (c.healthMsg kind other 0).body.drop 24 = toBytes 8 (other <<< 32) := by
  have hdrop : ∀ v, (toBytes 32 v).drop 24 = toBytes 8 v := fun v => rfl
  rw [healthMsg]
  dsimp only
  rw [hdrop, Nat.mod_eq_of_lt h, health_fields, toBytes_eight_add]

end Core
end Sys2Proof.Machine
end

section
/-! PROOFS. HELLO, STATUS and the reports of refusals as the hub takes them (15_sail_time_array.md R386, R390, R391). -/

namespace Sys2Proof.Machine

variable {s : State} {sp : SailNo} {a : SailArrival} {m : SailIn}

/-! ## HELLO -/

/-- The hub with what the HELLO says of the far end. -/
abbrev helloTaken (s : State) (k : Nat) (m : SailIn) : Core :=
  (s.sailTaken k).greeted k (field 247 216 m.num) (bit 215 m.num) (field 214 211 m.num)

theorem sailRx_hello {k : Nat} (hcome : SailComes s k a m) (hm : m.mtype = 5) (hkind : field 255 248 m.num = 0) :
    s.clear.core.sailRx k a =
      (s.sailTaken k).helloIn k (field 247 216 m.num) a.fromSp0 (bit 215 m.num) (field 214 211 m.num) := by
  rw [sailRx_health hcome hm, Core.healthIn]
  exact if_pos hkind

theorem helloTaken_spState (k j : Nat) : (helloTaken s k m).spState j = s.core.spState j :=
  (Core.greeted_spState _ _ _ _ _ _).trans (sailTaken_spState j)

theorem helloTaken_cause (sp : SailNo) : (helloTaken s sp.val m).helloCause sp.val a.fromSp0 (bit 215 m.num) =
    (if sp = 0 then (if a.fromSp0 then 2 else 0) else if !a.fromSp0 then 2 else if bit 215 m.num then 1
      else if 8 < s.core.get Obj.Sail.DEPTH + 1 then 3 else 0) := by
  have hdepth : (helloTaken s sp.val m).get Obj.Sail.DEPTH = s.core.get Obj.Sail.DEPTH :=
    (Core.greeted_get _ _ _ _ _ (by simp; omega)).trans (sailTaken_get (by simp; omega))
  have hzero : (sp.val = 0) = (sp = 0) := propext Fin.val_eq_zero_iff
  rw [Core.helloCause, hdepth]
  simp only [hzero]

/-- A HELLO in which the hub finds nothing wrong has no cause. -/
theorem helloTaken_cause_zero (h : if sp = 0 then a.fromSp0 = false
      else a.fromSp0 = true ∧ bit 215 m.num = false ∧ s.core.get Obj.Sail.DEPTH + 1 ≤ 8) :
    (helloTaken s sp.val m).helloCause sp.val a.fromSp0 (bit 215 m.num) = 0 := by
  rw [helloTaken_cause]
  by_cases hsp : sp = 0
  · rw [if_pos hsp] at h ⊢
    rw [h]
    rfl
  · rw [if_neg hsp] at h ⊢
    obtain ⟨hfrom, hroot, hdepth⟩ := h
    rw [hfrom, hroot, if_neg (by decide), if_neg (by decide), if_neg (by omega)]

theorem health_hello (hcome : SailComes s sp.val a m) (hm : m.mtype = 5) (hkind : field 255 248 m.num = 0)
    (hst : s.core.spState sp.val = 2)
    (hok : if sp = 0 then a.fromSp0 = false
      else a.fromSp0 = true ∧ bit 215 m.num = false ∧ s.core.get Obj.Sail.DEPTH + 1 ≤ 8) :
    AnswersCore (.healthHello sp a) s fun c =>
      c.spState sp.val = 3 ∧ c.get (Obj.SailPort.FAR_ID sp.val) = field 247 216 m.num ∧ c.bitOf Obj.Sail.FLAGS 0 = true ∧
      c.get (Obj.SailPort.REFUSE_CAUSE sp.val) = 0 ∧ c.get Obj.Sail.ROLE = c.roleNow ∧
      c.get Obj.Sail.SUBTREE = c.subtreeNow ∧
      (c.get Obj.Sail.ROLE = 1 → c.get Obj.Sail.DEPTH = (c.sailOf 0).farDepth + 1) ∧
      (c.get Obj.Sail.ROLE ≠ 1 → c.get Obj.Sail.DEPTH = 0) ∧
      (c.sailOf sp.val).farDepth = field 214 211 m.num ∧ ∀ j < 4, j ≠ sp.val → c.spState j = s.core.spState j := by
  have hst' : (s.sailTaken sp.val).spState sp.val = 2 := (sailTaken_spState _).trans hst
  have hrx : s.clear.core.sailRx sp.val a = (helloTaken s sp.val m).admittedPort sp.val := by
    rw [sailRx_hello hcome hm hkind, Core.helloIn_fresh (.inl (by omega)) fun h4 => absurd (hst'.symm.trans h4) (by decide)]
    dsimp only
    rw [helloTaken_cause_zero hok, if_neg (fun h => h rfl), hst', if_neg (by decide), if_neg (by decide)]
  obtain ⟨hstate, hcause, hfar, hflag, hothers, hreq, hdepth⟩ := Core.admittedPort_facts (helloTaken s sp.val m) sp.val
  obtain ⟨hrole, hsub, hdep⟩ := Core.topology_tree ((helloTaken s sp.val m).raisedPort sp.val)
  refine answersCore_onPower (fun c => c.sailRx sp.val a) rfl hcome.1 ?_ ?_
  · rw [hrx, hreq]
    rfl
  · rw [hrx]
    refine ⟨hstate, hfar.trans (Core.greeted_farId _ _ _ _ _), hflag, hcause, hrole, hsub, fun h1 => ?_, fun h1 => ?_, ?_,
      fun j _ hj => (hothers j hj).trans (helloTaken_spState _ j)⟩
    · exact hdep.trans (if_pos (hrole.symm.trans h1))
    · exact hdep.trans (if_neg fun h => h1 (hrole.trans h))
    · rw [hdepth, Core.greeted_sailOf_self]

theorem health_helloSame (hcome : SailComes s sp.val a m) (hm : m.mtype = 5) (hkind : field 255 248 m.num = 0)
    (hst : 3 ≤ s.core.spState sp.val) (hh : (s.core.sailOf sp.val).hello = true)
    (hfar : s.core.get (Obj.SailPort.FAR_ID sp.val) = field 247 216 m.num)
    (hroot : (s.core.sailOf sp.val).farRoot = bit 215 m.num) (hdepth : (s.core.sailOf sp.val).farDepth = field 214 211 m.num) :
    exec (.healthHello sp a) s = .next { s.clear with core := s.sailTaken sp.val } := by
  have hrx : s.clear.core.sailRx sp.val a = s.sailTaken sp.val := by
    rw [sailRx_hello hcome hm hkind, Core.helloIn_same]
    · rw [sailTaken_spState]
      exact hst
    · rw [sailTaken_sailOf_self]
      exact hh
    · rw [sailTaken_get (by simp)]
      exact hfar
    · rw [sailTaken_sailOf_self]
      exact hroot
    · rw [sailTaken_sailOf_self]
      exact hdepth
  have hexec : exec (.healthHello sp a) s = .next (s.onPower fun c => c.sailRx sp.val a) := rfl
  rw [hexec, State.onPower_eq s _ hcome.1 (by rw [hrx]; rfl), hrx]

theorem health_helloAgain (hcome : SailComes s sp.val a m) (hm : m.mtype = 5) (hkind : field 255 248 m.num = 0)
    (hst : s.core.spState sp.val = 4) (hsp : sp ≠ 0)
    (hnew : s.core.get (Obj.SailPort.FAR_ID sp.val) ≠ field 247 216 m.num ∨ (s.core.sailOf sp.val).farRoot ≠ bit 215 m.num)
    (hfrom : a.fromSp0 = true) (hroot : bit 215 m.num = false) (hdepth : s.core.get Obj.Sail.DEPTH + 1 ≤ 8) :
    AnswersCore (.healthHello sp a) s fun c =>
      c.spState sp.val = 3 ∧ c.get (Obj.SailPort.REFUSE_CAUSE sp.val) = 0 ∧
      c.get (Obj.SailPort.FAR_ID sp.val) = field 247 216 m.num ∧ c.bitOf Obj.Sail.FLAGS 0 = true := by
  have hst' : (s.sailTaken sp.val).spState sp.val = 4 := (sailTaken_spState _).trans hst
  have hne : sp.val ≠ 0 := fun h => hsp (Fin.ext h)
  have hnew' : (s.sailTaken sp.val).spState sp.val < 3 ∨ (s.sailTaken sp.val).get (Obj.SailPort.FAR_ID sp.val) ≠ field 247 216 m.num ∨
      ((s.sailTaken sp.val).sailOf sp.val).farRoot ≠ bit 215 m.num := by
    rw [sailTaken_get (by simp), sailTaken_sailOf_self]
    exact .inr hnew
  have hrx : s.clear.core.sailRx sp.val a = ((helloTaken s sp.val m).admittedPort sp.val).sendHello sp.val := by
    rw [sailRx_hello hcome hm hkind, Core.helloIn_fresh hnew' fun _ => hne]
    dsimp only
    rw [helloTaken_cause_zero (by rw [if_neg hsp]; exact ⟨hfrom, hroot, hdepth⟩), if_neg (fun h => h rfl), hst', if_neg (by decide),
      if_pos rfl]
  obtain ⟨hstate, hcause, hfar, hflag, -, hreq, -⟩ := Core.admittedPort_facts (helloTaken s sp.val m) sp.val
  have hsent := Core.sailSent_sendHello ((helloTaken s sp.val m).admittedPort sp.val) sp.val
  refine answersCore_onPower (fun c => c.sailRx sp.val a) rfl hcome.1 ?_ ?_
  · rw [hrx, hsent.req, hreq]
    rfl
  · rw [hrx, hsent.spState, hsent.get (by simp; omega), hsent.get (by simp; omega), Core.bitOf_congr 0 (hsent.get (by decide))]
    exact ⟨hstate, hcause, hfar.trans (Core.greeted_farId _ _ _ _ _), hflag⟩

/-! ## A HELLO that is refused (R390) -/

namespace Core

theorem refuseHello_helm (c : Core) (k far : Nat) : c.refuseHello k far 1 =
    ((c.sailRefuse k 1).told k ((c.sailRefuse k 1).healthMsg 2 far 0)).raise Src.slDualHelm (ctxNone 0 0) := rfl

theorem refuseHello_other (c : Core) (k far : Nat) {cause : Nat} (h : cause ≠ 1) : c.refuseHello k far cause =
    ((c.sailRefuse k cause).flag Obj.Sail.FLAGS (causeFlag cause)).told k
      (((c.sailRefuse k cause).flag Obj.Sail.FLAGS (causeFlag cause)).healthMsg 3 far cause) := by
  rw [refuseHello]
  exact if_neg h

/-- What a refused HELLO shows. -/
theorem refuseHello_facts (c : Core) (k far cause : Nat) : (c.refuseHello k far cause).spState k = 4 ∧
    (c.refuseHello k far cause).get (Obj.SailPort.REFUSE_CAUSE k) = cause ∧
    (c.refuseHello k far cause).bitOf (Obj.SailPort.FLAGS k) 1 = true ∧
    (cause ≠ 1 → (c.refuseHello k far cause).bitOf Obj.Sail.FLAGS (causeFlag cause) = true) ∧
    (cause = 1 → c.Raises Src.slDualHelm (c.refuseHello k far cause)) ∧
    ∀ j, j ≠ k → (c.refuseHello k far cause).spState j = c.spState j := by
  obtain ⟨hstate, hcause, hflag, hothers, hfc, -, -, hcount⟩ := sailRefuse_facts c k cause
  by_cases h1 : cause = 1
  · subst h1
    have hsent := sailSent_told (c.sailRefuse k 1) k ((c.sailRefuse k 1).healthMsg 2 far 0)
    have hget : ∀ o, ¬ (0x480000 ≤ o ∧ o < 0x500000) → o ≠ Obj.Sail.TRIG_DROPPED →
        (c.refuseHello k far 1).get o = (c.sailRefuse k 1).get o := fun o ho hd => by
      rw [refuseHello_helm, get_raise _ _ _ ho, hsent.get hd]
    have hst : ∀ j, (c.refuseHello k far 1).spState j = (c.sailRefuse k 1).spState j := fun j =>
      hget _ (by simp; omega) (by simp; omega)
    refine ⟨(hst k).trans hstate, (hget _ (by simp; omega) (by simp; omega)).trans hcause,
      (bitOf_congr 1 (hget _ (by simp; omega) (by simp; omega))).trans hflag, fun h => absurd rfl h, fun _ => ?_,
      fun j hj => (hst j).trans (hothers j hj)⟩
    exact raises_of_raise _ (by decide +kernel) (hsent.fc.trans hfc) ((hsent.get (by decide)).trans hcount)
  · have hsent := sailSent_told ((c.sailRefuse k cause).flag Obj.Sail.FLAGS (causeFlag cause)) k
      (((c.sailRefuse k cause).flag Obj.Sail.FLAGS (causeFlag cause)).healthMsg 3 far cause)
    have hget : ∀ o, o ≠ Obj.Sail.FLAGS → o ≠ Obj.Sail.TRIG_DROPPED →
        (c.refuseHello k far cause).get o = (c.sailRefuse k cause).get o := fun o ho hd => by
      rw [refuseHello_other _ _ _ h1, hsent.get hd, get_flag_ne _ _ ho]
    have hst : ∀ j, (c.refuseHello k far cause).spState j = (c.sailRefuse k cause).spState j := fun j =>
      hget _ (by simp; omega) (by simp; omega)
    refine ⟨(hst k).trans hstate, (hget _ (by simp; omega) (by simp; omega)).trans hcause,
      (bitOf_congr 1 (hget _ (by simp; omega) (by simp; omega))).trans hflag, fun _ => ?_, fun h => absurd h h1,
      fun j hj => (hst j).trans (hothers j hj)⟩
    rw [refuseHello_other _ _ _ h1, bitOf_congr _ (hsent.get (by decide))]
    exact bitOf_flag_self _ _ _

/-- A port that is refused for DUAL_HELM leaves the tree, and with it DEPTH and the other ports, as it was. -/
theorem sailRefuse_sailOf {c : Core} {k cause : Nat} (hk : k ≠ 0) (hup : c.spUp k = false)
    (hdepth : c.get Obj.Sail.DEPTH = (if c.roleNow = 1 then (c.sailOf 0).farDepth + 1 else 0)) (j : Nat) :
    (c.sailRefuse k cause).sailOf j = (c.shutPort k cause).sailOf j := by
  obtain ⟨hstate, -, -⟩ := shutPort_self c k cause
  have hothers : ∀ i, i ≠ k → (c.shutPort k cause).spState i = c.spState i := fun i hi => by
    rw [spState, shutPort_get c k cause (by simp; omega) (by simp; omega) (by simp; omega) (by simp; omega), spState]
  have hrole : (c.shutPort k cause).roleNow = c.roleNow := by
    refine roleNow_of_up (shutPort_get c k cause (by decide) (by simp; omega) (by simp; omega) (by simp; omega)) (hothers 0 hk.symm)
      fun i => ?_
    by_cases hi : i = k
    · rw [hi, hup, spUp, hstate]
      rfl
    · rw [spUp, hothers i hi, spUp]
  rw [sailRefuse_eq, topology_sailOf _ (.inr ?_) j]
  rw [hrole, (shutPort_kept c k cause).2.2.1 0 hk.symm,
    shutPort_get c k cause (o := Obj.Sail.DEPTH) (by decide) (by simp; omega) (by simp; omega) (by simp; omega), hdepth]

end Core

end Sys2Proof.Machine
end

section
/-! PROOFS. The tree of the array, settled (15_sail_time_array.md R386, R389 to R391). -/

namespace Sys2Proof.Machine

variable {s : State} {sp : SailNo} {a : SailArrival} {m : SailIn}

/-! ## A HELLO that is refused (R390) -/

/-- The far end's refusal for DUAL_HELM goes to every UP port and to the refused one. -/
theorem dualHelm_told (hst : s.core.spState sp.val = 2) (hsp : sp.val ≠ 0)
    (hdepth : s.core.get Obj.Sail.DEPTH = (if s.core.roleNow = 1 then (s.core.sailOf 0).farDepth + 1 else 0)) {j : Nat} (hj : j < 4)
    (hto : s.core.spUp j = true ∨ j = sp.val) (hfree : s.core.sailFree j) :
    ∃ x, (((helloTaken s sp.val m).refuseHello sp.val (field 247 216 m.num) 1).sailOf j).unack = (s.core.sailOf j).unack ++ [x] ∧
      x.mtype = 5 ∧ x.hops = 0 ∧ x.body.drop 24 = toBytes 8 (field 247 216 m.num <<< 32) := by
  have hst' : ∀ i, (helloTaken s sp.val m).spState i = s.core.spState i := helloTaken_spState sp.val
  have hup' : ∀ i, (helloTaken s sp.val m).spUp i = s.core.spUp i := fun i => by rw [Core.spUp, hst', Core.spUp]
  have hdown : (helloTaken s sp.val m).spUp sp.val = false := by
    rw [hup', Core.spUp, hst]
    rfl
  have hport0 : (helloTaken s sp.val m).sailOf 0 = s.core.sailOf 0 :=
    (Core.greeted_sailOf_ne _ _ _ _ _ hsp.symm).trans (sailTaken_sailOf_ne hsp.symm)
  have hget : ∀ o, o ≠ Obj.SailPort.FAR_ID sp.val → o ≠ Obj.SailPort.MSGS_RX sp.val →
      (helloTaken s sp.val m).get o = s.core.get o := fun o h1 h2 => (Core.greeted_get _ _ _ _ _ h1).trans (sailTaken_get h2)
  have hrole : (helloTaken s sp.val m).roleNow = s.core.roleNow := Core.roleNow_congr (hget _ (by simp; omega) (by simp; omega)) hst'
  have hsail := Core.sailRefuse_sailOf (cause := 1) hsp hdown
    (by rw [hget _ (by simp; omega) (by simp; omega), hrole, hport0, hdepth])
  obtain ⟨-, -, hothers, hself⟩ := Core.shutPort_kept (helloTaken s sp.val m) sp.val 1
  have htx : ((helloTaken s sp.val m).shutPort sp.val 1 |>.sailOf j).unack = (s.core.sailOf j).unack ∧
      ((helloTaken s sp.val m).shutPort sp.val 1 |>.sailOf j).queue = [] := by
    obtain ⟨hunack, hqueue, -⟩ := sailTaken_transmitter (s := s) (k := sp.val) j
    by_cases hjs : j = sp.val
    · subst hjs
      rw [hself, Core.greeted_sailOf_self]
      dsimp only
      rw [hunack, hqueue, hfree.2]
      exact ⟨rfl, rfl⟩
    · rw [hothers j hjs, Core.greeted_sailOf_ne _ _ _ _ _ hjs, hunack, hqueue, hfree.2]
      exact ⟨rfl, rfl⟩
  obtain ⟨hunack, hqueue⟩ := htx
  have hfree' : ((helloTaken s sp.val m).sailRefuse sp.val 1).sailFree j := by
    rw [Core.sailFree, hsail, hunack, hqueue]
    exact ⟨hfree.1, rfl⟩
  have hto' : ((helloTaken s sp.val m).sailRefuse sp.val 1).spUp j = true ∨ j = sp.val := by
    by_cases hjs : j = sp.val
    · exact .inr hjs
    · obtain ⟨-, -, -, hst4, -⟩ := Core.sailRefuse_facts (helloTaken s sp.val m) sp.val 1
      rw [Core.spUp, hst4 j hjs, ← Core.spUp, hup']
      exact hto
  obtain ⟨h5, h0, htail⟩ := Core.healthMsg_started ((helloTaken s sp.val m).sailRefuse sp.val 1)
    ((helloTaken s sp.val m).sailRefuse sp.val 1) j 2 (field 247 216 m.num) 0
  refine ⟨_, ?_, h5, h0, htail.trans (Core.healthMsg_tail _ 2 (Core.field_lt 247 216 m.num))⟩
  rw [Core.refuseHello_helm, Core.sailOf_raise, Core.told_unack _ hj hto' hfree', hsail, hunack]

theorem health_helloRefused {cause : Nat} (hcome : SailComes s sp.val a m) (hm : m.mtype = 5) (hkind : field 255 248 m.num = 0)
    (hst : s.core.spState sp.val = 2)
    (hcause : cause = (if sp = 0 then (if a.fromSp0 then 2 else 0) else if !a.fromSp0 then 2 else if bit 215 m.num then 1
      else if 8 < s.core.get Obj.Sail.DEPTH + 1 then 3 else 0)) (hne : cause ≠ 0) :
    AnswersThen (.healthHello sp a) s fun c =>
      c.spState sp.val = 4 ∧ c.get (Obj.SailPort.REFUSE_CAUSE sp.val) = cause ∧
      c.bitOf (Obj.SailPort.FLAGS sp.val) 1 = true ∧
      (cause = 2 → c.bitOf Obj.Sail.FLAGS 4 = true) ∧ (cause = 3 → c.bitOf Obj.Sail.FLAGS 3 = true) ∧
      (cause = 1 → s.clear.core.Raises Src.slDualHelm c ∧
        (s.core.get Obj.Sail.DEPTH = (if s.core.roleNow = 1 then (s.core.sailOf 0).farDepth + 1 else 0) →
          ∀ j < 4, (s.core.spUp j = true ∨ j = sp.val) → s.core.sailFree j →
            ∃ x, (c.sailOf j).unack = (s.core.sailOf j).unack ++ [x] ∧ x.mtype = 5 ∧ x.hops = 0 ∧
              x.body.drop 24 = toBytes 8 (field 247 216 m.num <<< 32))) ∧
      ∀ j < 4, j ≠ sp.val → c.spState j = s.core.spState j := by
  have hst' : (s.sailTaken sp.val).spState sp.val = 2 := (sailTaken_spState _).trans hst
  have hrx : s.clear.core.sailRx sp.val a = (helloTaken s sp.val m).refuseHello sp.val (field 247 216 m.num) cause := by
    rw [sailRx_hello hcome hm hkind, Core.helloIn_fresh (.inl (by omega)) fun h4 => absurd (hst'.symm.trans h4) (by decide)]
    dsimp only
    rw [helloTaken_cause, ← hcause, if_pos hne]
  have hone : cause = 1 → sp.val ≠ 0 := by
    intro h1 h0
    have hsp : sp = 0 := Fin.ext h0
    rw [h1, if_pos hsp] at hcause
    split at hcause
    · exact absurd hcause (by decide)
    · exact absurd hcause (by decide)
  obtain ⟨hstate, hrc, hflag, hbit, hraise, hothers⟩ :=
    Core.refuseHello_facts (helloTaken s sp.val m) sp.val (field 247 216 m.num) cause
  refine answersThen_onPower (fun c => c.sailRx sp.val a) rfl hcome.1 ?_
  rw [hrx]
  refine ⟨hstate, hrc, hflag, fun h2 => ?_, fun h3 => ?_, fun h1 => ⟨?_, fun hdepth j hj hto hfree => ?_⟩,
    fun j _ hj => (hothers j hj).trans (helloTaken_spState _ j)⟩
  · have := hbit (by omega)
    rwa [h2] at this ⊢
  · have := hbit (by omega)
    rwa [h3] at this ⊢
  · intro hears
    have hkeep : (helloTaken s sp.val m).get (Obj.Source.COUNT Src.slDualHelm) = s.core.get (Obj.Source.COUNT Src.slDualHelm) :=
      (Core.greeted_get _ _ _ _ _ (by simp [Src.slDualHelm]; omega)).trans (sailTaken_get (by simp [Src.slDualHelm]; omega))
    exact (hraise h1 (hears.congr rfl)).trans (by rw [hkeep]; rfl)
  · subst h1
    exact dualHelm_told hst (hone rfl) hdepth hj hto hfree

/-! ## STATUS and reports (R391) -/

/-- The table of hubs with a STATUS recorded. -/
def Core.recorded (c : Core) (m : SailIn) : Core :=
  c.withSail { c.sail with hubs := c.sail.hubs.setNum (field 247 216 m.num) m.num }

theorem recorded_spUp (j : Nat) : ((s.sailTaken sp.val).recorded m).spUp j = s.core.spUp j := sailTaken_spUp j

theorem recorded_sailOf (c : Core) (j : Nat) : (c.recorded m).sailOf j = c.sailOf j := rfl

/-- What a report that is no HELLO makes of the hub, before it goes on. -/
def Core.reportIn (c : Core) (k : Nat) (m : SailIn) : Core :=
  let v := m.num
  let mine := field 63 32 v = c.get Obj.Id.HUB_ID
  if field 255 248 v = 1 then c.statusIn k (field 247 216 v) v
  else if field 255 248 v = 2 then (if mine then c.refusedIn k 1 else c)
  else if field 255 248 v = 3 then (if mine then c.refusedIn k (field 7 0 v) else c)
  else c

theorem sailRx_report (hcome : SailComes s sp.val a m) (hm : m.mtype = 5) (hkind : field 255 248 m.num ≠ 0) :
    s.clear.core.sailRx sp.val a = ((s.sailTaken sp.val).reportIn sp.val m).sailFlood sp.val (onward 5 m) := by
  rw [sailRx_health hcome hm, Core.healthIn]
  exact if_neg hkind

theorem health_status (hcome : SailComes s sp.val a m) (hm : m.mtype = 5) (hkind : field 255 248 m.num = 1)
    (hid : field 247 216 m.num ≠ s.core.get Obj.Id.HUB_ID) (hlen : s.core.sail.hubs.length < 512)
    (hfar : s.core.get (Obj.SailPort.FAR_ID sp.val) ≠ field 247 216 m.num) :
    AnswersCore (.healthStatus sp a) s fun c =>
      c.sail.hubs.num (field 247 216 m.num) = m.num ∧ (∀ id, id ≠ field 247 216 m.num → c.sail.hubs.num id = s.core.sail.hubs.num id) ∧
      Flooded s sp.val (onward 5 m) c ∧ ∀ k, k ≠ Obj.SailPort.MSGS_RX sp.val → c.get k = s.core.get k := by
  have hreport : (s.sailTaken sp.val).reportIn sp.val m = (s.sailTaken sp.val).recorded m := by
    have hid' : field 247 216 m.num ≠ (s.sailTaken sp.val).get Obj.Id.HUB_ID := by
      rw [sailTaken_get (by simp; omega)]
      exact hid
    have hlen' : ((s.sailTaken sp.val).sail.hubs.any (fun e => e.1 == field 247 216 m.num) ||
        decide ((s.sailTaken sp.val).sail.hubs.length < 512)) = true := by
      rw [Bool.or_eq_true]
      exact .inr (decide_eq_true hlen)
    have hfar' : (s.sailTaken sp.val).get (Obj.SailPort.FAR_ID sp.val) ≠ field 247 216 m.num := by
      rw [sailTaken_get (by simp)]
      exact hfar
    rw [Core.reportIn]
    rw [if_pos hkind, Core.statusIn]
    dsimp only
    rw [if_pos hfar', if_neg hid', if_pos hlen', Core.recorded]
  have hrx := (sailRx_report hcome hm (by omega)).trans (by rw [hreport])
  have hsent := Core.sailSent_sailFlood ((s.sailTaken sp.val).recorded m) sp.val (onward 5 m)
  refine answersCore_onPower (fun c => c.sailRx sp.val a) rfl hcome.1 ?_ ?_
  · rw [hrx, hsent.req]
    rfl
  · rw [hrx, hsent.hubs, Core.recorded, Core.sail_withSail]
    refine ⟨num_setNum_self _ _ _, fun id h => num_setNum_ne _ _ h, ?_, fun k hk => ?_⟩
    · refine flooded_sailFlood (c := (s.sailTaken sp.val).recorded m) (fun _ => Nat.succ_ne_zero _) recorded_spUp (fun j => ?_)
        fun _ _ => rfl
      rw [recorded_sailOf]
      exact sailTaken_transmitter j
    · exact (Core.get_sailFlood (m := onward 5 m) (show (5 : Nat) ≠ 1 by decide) _ _ k).trans (sailTaken_get hk)

/-- What a report that names this hub leaves. -/
theorem refusedIn_facts (c : Core) (k cause : Nat) (h2 : k = 0 → 2 ≤ c.spState 0) :
    (c.refusedIn k cause).bitOf Obj.Sail.FLAGS (causeFlag cause) = true ∧ (cause ≠ 1 → (c.refusedIn k cause).req = c.req) ∧
      (cause = 1 → c.Raises Src.slDualHelm (c.refusedIn k cause)) ∧
      (k = 0 → c.spState 0 ≠ 4 → (c.refusedIn k cause).spState 0 = 4 ∧
        (c.refusedIn k cause).get (Obj.SailPort.REFUSE_CAUSE 0) = cause) ∧
      (k ≠ 0 → (c.refusedIn k cause).spState 0 = c.spState 0) ∧ ∀ j, j ≠ 0 → (c.refusedIn k cause).spState j = c.spState j := by
  obtain ⟨d, hd⟩ : ∃ d, d = (if cause = 1 then (c.flag Obj.Sail.FLAGS (causeFlag cause)).raise Src.slDualHelm (ctxNone 0 0)
    else c.flag Obj.Sail.FLAGS (causeFlag cause)) := ⟨_, rfl⟩
  have hget : ∀ o, ¬ (0x480000 ≤ o ∧ o < 0x500000) → d.get o = (c.flag Obj.Sail.FLAGS (causeFlag cause)).get o := fun o ho => by
    rw [hd]
    split
    · exact Core.get_raise _ _ _ ho
    · rfl
  have hbit : d.bitOf Obj.Sail.FLAGS (causeFlag cause) = true :=
    (Core.bitOf_congr _ (hget _ (by decide))).trans (Core.bitOf_flag_self _ _ _)
  have hreq : cause ≠ 1 → d.req = c.req := fun h => by
    rw [hd, if_neg h]
    rfl
  have hraise : cause = 1 → c.Raises Src.slDualHelm d := fun h => by
    rw [hd, if_pos h]
    exact Core.raises_of_raise _ (by decide +kernel) rfl (Core.get_flag_ne _ _ (by decide))
  have hstate : ∀ j, d.spState j = c.spState j := fun j =>
    (hget _ (by simp; omega)).trans (Core.get_flag_ne _ _ (by simp; omega))
  have hcase : c.refusedIn k cause = if k = 0 ∧ 2 ≤ d.spState 0 ∧ d.spState 0 ≠ 4 then d.sailRefuse 0 cause else d := by
    rw [hd, Core.refusedIn]
    simp only [Bool.and_eq_true, decide_eq_true_eq, and_assoc, ne_eq]
  by_cases hc : k = 0 ∧ 2 ≤ d.spState 0 ∧ d.spState 0 ≠ 4
  · obtain ⟨hst, hrc, -, hothers, -, hreq', hflags, hcount⟩ := Core.sailRefuse_facts d 0 cause
    rw [hcase, if_pos hc]
    exact ⟨hflags _ hbit, fun h => hreq'.trans (hreq h), fun h => (hraise h).of_get hcount, fun _ _ => ⟨hst, hrc⟩,
      fun h => absurd hc.1 h, fun j hj => (hothers j hj).trans (hstate j)⟩
  · rw [hcase, if_neg hc]
    refine ⟨hbit, hreq, hraise, fun h0 h4 => absurd ⟨h0, ?_, ?_⟩ hc, fun _ => hstate 0, fun j _ => hstate j⟩
    · rw [hstate]
      exact h2 h0
    · rw [hstate]
      exact h4

/-- A report that names this hub: the hub as it is told, before the report goes on. -/
theorem reportIn_mine {cause : Nat} (hid : field 63 32 m.num = s.core.get Obj.Id.HUB_ID)
    (hkind : (field 255 248 m.num = 2 ∧ cause = 1) ∨ (field 255 248 m.num = 3 ∧ cause = field 7 0 m.num)) :
    (s.sailTaken sp.val).reportIn sp.val m = (s.sailTaken sp.val).refusedIn sp.val cause := by
  have hid' : field 63 32 m.num = (s.sailTaken sp.val).get Obj.Id.HUB_ID := by
    rw [sailTaken_get (by simp; omega)]
    exact hid
  rw [Core.reportIn]
  rcases hkind with ⟨hk, rfl⟩ | ⟨hk, rfl⟩
  · rw [if_neg (by omega), if_pos hk, if_pos hid']
  · rw [if_neg (by omega), if_neg (by omega), if_pos hk, if_pos hid']

theorem sailTaken_two (hcome : SailComes s sp.val a m) : sp.val = 0 → 2 ≤ (s.sailTaken sp.val).spState 0 := fun h0 => by
  rw [sailTaken_spState]
  have h2 := hcome.2.1
  rwa [h0] at h2

theorem health_dualHelm (hcome : SailComes s sp.val a m) (hm : m.mtype = 5) (hkind : field 255 248 m.num = 2)
    (hid : field 63 32 m.num = s.core.get Obj.Id.HUB_ID) : AnswersThen (.healthDualHelm sp a) s fun c =>
      c.bitOf Obj.Sail.FLAGS 1 = true ∧ s.clear.core.Raises Src.slDualHelm c ∧
      (sp = 0 → s.core.spState 0 ≠ 4 → c.spState 0 = 4 ∧ c.get (Obj.SailPort.REFUSE_CAUSE 0) = 1) ∧
      (sp ≠ 0 → c.spState 0 = s.core.spState 0) ∧ ∀ j < 4, j ≠ 0 → c.spState j = s.core.spState j := by
  obtain ⟨hbit, -, hraise, hzero, hnz, hothers⟩ := refusedIn_facts (s.sailTaken sp.val) sp.val 1 (sailTaken_two hcome)
  have hsent := Core.sailSent_sailFlood ((s.sailTaken sp.val).refusedIn sp.val 1) sp.val (onward 5 m)
  refine answersThen_onPower (fun c => c.sailRx sp.val a) rfl hcome.1 ?_
  rw [sailRx_report hcome hm (by omega), reportIn_mine hid (.inl ⟨hkind, rfl⟩)]
  simp only [hsent.spState, hsent.get (o := Obj.SailPort.REFUSE_CAUSE 0) (by decide), Core.bitOf_congr 1 (hsent.get (o := Obj.Sail.FLAGS) (by decide))]
  refine ⟨hbit, fun hears => ?_, fun h0 h4 => hzero (by rw [h0]; rfl) (by rw [sailTaken_spState]; exact h4),
    fun h0 => (hnz fun h => h0 (Fin.ext h)).trans (sailTaken_spState 0), fun j _ hj => (hothers j hj).trans (sailTaken_spState j)⟩
  have hkeep : (s.sailTaken sp.val).get (Obj.Source.COUNT Src.slDualHelm) = s.core.get (Obj.Source.COUNT Src.slDualHelm) :=
    sailTaken_get (by simp [Src.slDualHelm]; omega)
  rw [hsent.get (by decide), hraise rfl (hears.congr rfl), hkeep]
  rfl

theorem health_refused {cause : Nat} (hcome : SailComes s sp.val a m) (hm : m.mtype = 5) (hkind : field 255 248 m.num = 3)
    (hid : field 63 32 m.num = s.core.get Obj.Id.HUB_ID) (hcause : cause = field 7 0 m.num) (h23 : cause = 2 ∨ cause = 3) :
    AnswersCore (.healthRefused sp a) s fun c =>
      (cause = 2 → c.bitOf Obj.Sail.FLAGS 4 = true) ∧ (cause = 3 → c.bitOf Obj.Sail.FLAGS 3 = true) ∧
      (sp = 0 → s.core.spState 0 ≠ 4 → c.spState 0 = 4 ∧ c.get (Obj.SailPort.REFUSE_CAUSE 0) = cause) ∧
      (sp ≠ 0 → c.spState 0 = s.core.spState 0) ∧ ∀ j < 4, j ≠ 0 → c.spState j = s.core.spState j := by
  obtain ⟨hbit, hreq, -, hzero, hnz, hothers⟩ := refusedIn_facts (s.sailTaken sp.val) sp.val cause (sailTaken_two hcome)
  have hsent := Core.sailSent_sailFlood ((s.sailTaken sp.val).refusedIn sp.val cause) sp.val (onward 5 m)
  have hrx := (sailRx_report hcome hm (by omega)).trans (by rw [reportIn_mine hid (.inr ⟨hkind, hcause⟩)])
  refine answersCore_onPower (fun c => c.sailRx sp.val a) rfl hcome.1 ?_ ?_
  · rw [hrx, hsent.req, hreq (by omega)]
    rfl
  · rw [hrx]
    simp only [hsent.spState, hsent.get (o := Obj.SailPort.REFUSE_CAUSE 0) (by decide), Core.bitOf_congr _ (hsent.get (o := Obj.Sail.FLAGS) (by decide))]
    refine ⟨fun h => ?_, fun h => ?_, fun h0 h4 => hzero (by rw [h0]; rfl) (by rw [sailTaken_spState]; exact h4),
      fun h0 => (hnz fun h => h0 (Fin.ext h)).trans (sailTaken_spState 0), fun j _ hj => (hothers j hj).trans (sailTaken_spState j)⟩
    · rwa [h] at hbit ⊢
    · rwa [h] at hbit ⊢

theorem health_other (hcome : SailComes s sp.val a m) (hm : m.mtype = 5) (hid : field 63 32 m.num ≠ s.core.get Obj.Id.HUB_ID)
    {i : Instr} (hi : exec i s = .next (s.onPower fun c => c.sailRx sp.val a))
    (hkind : field 255 248 m.num = 2 ∨ field 255 248 m.num = 3) : AnswersCore i s fun c =>
      Flooded s sp.val (onward 5 m) c ∧ ∀ k, k ≠ Obj.SailPort.MSGS_RX sp.val → c.get k = s.core.get k := by
  have hreport : (s.sailTaken sp.val).reportIn sp.val m = s.sailTaken sp.val := by
    have hid' : field 63 32 m.num ≠ (s.sailTaken sp.val).get Obj.Id.HUB_ID := by
      rw [sailTaken_get (by simp; omega)]
      exact hid
    rw [Core.reportIn]
    rw [if_neg (by omega), if_neg hid', if_neg hid', ite_self, ite_self]
  have hrx : s.clear.core.sailRx sp.val a = forwarded s sp.val 5 m := (sailRx_report hcome hm (by omega)).trans (by rw [hreport]; rfl)
  refine answersCore_onPower (fun c => c.sailRx sp.val a) hi hcome.1 ?_ ?_
  · rw [hrx, (sailSent_forwarded s sp.val 5 m).req]
    rfl
  · rw [hrx]
    exact ⟨flooded_of_forwarded fun _ _ => rfl, fun k => forwarded_get_plain (by decide)⟩

theorem health_period (hu : s.core.seqUp = true) : AnswersCore .healthPeriod s fun c =>
      (∀ j < 4, s.core.spUp j = true → s.core.sailFree j →
        (c.sailOf j).unack = (s.core.sailOf j).unack ++ [{ s.core.healthMsg 1 0 0 with
          lseq := (s.core.sailOf j).txSeq
          body := (s.core.healthMsg 1 0 0).body.take 12 ++ toBytes 12 s.core.hubTime ++
            (s.core.healthMsg 1 0 0).body.drop 24 }]) ∧ ∀ k, c.get k = s.core.get k := by
  have hsent := Core.sailSent_sailFlood s.clear.core 4 (s.clear.core.healthMsg 1 0 0)
  refine answersCore_onPower (fun c => c.sendStatus) rfl hu hsent.req ⟨fun j hj hup hfree => ?_, fun k => ?_⟩
  · rw [Core.sendStatus, Core.sailOf_sailFlood s.clear.core _ hj (by omega) hup hfree]
    rfl
  · exact Core.get_sailFlood (m := s.clear.core.healthMsg 1 0 0) (show (5 : Nat) ≠ 1 by decide) s.clear.core 4 k

/-- Settles O55: each HEALTH message as the hub takes it, and the STATUS of each period. -/
theorem sailHealth : Obligations.SailHealth := by
  unfold Obligations.SailHealth
  refine ⟨fun s sp a m => health_hello, fun s sp a m => health_helloSame, fun s sp a m hcome hm hkind hst hsp hnew => ?_,
    fun s sp a m cause => health_helloRefused, fun s sp a m => health_status, fun s sp a m => health_dualHelm,
    fun s sp a m cause => health_refused, fun s sp a m hcome hm hid x hx hkind => ?_, fun s => health_period⟩
  · exact health_helloAgain hcome hm hkind hst hsp hnew
  · simp only [List.mem_cons, List.not_mem_nil, or_false] at hx
    rcases hx with rfl | rfl
    · exact health_other hcome hm hid rfl (.inl hkind)
    · exact health_other hcome hm hid rfl (.inr hkind)

end Sys2Proof.Machine
end

section
/-! PROOFS. A measurement of hub time as the loop applies it (15_sail_time_array.md R397). -/

namespace Sys2Proof.Machine

namespace Core

variable {c : Core} {o : Rat} {stratum : Nat}

/-- What every measurement writes first. -/
def offsetShown (c : Core) (o : Rat) : Core :=
  (c.put Obj.Time.OFFSET_PS (satSigned 32 (ratRound (o * 1000)))).put Obj.Time.TIME_VALID 1

/-- f after a measurement (R397). -/
def nextF (c : Core) (o : Rat) (t : Nat) : Rat :=
  c.time.f - o * (((c.tick - t : Nat) : Rat) * 2 / 1000000000) /
    (4 * ((c.get Obj.Time.LOOP_TC_MS : Rat) / 1000) * ((c.get Obj.Time.LOOP_TC_MS : Rat) / 1000))

/-- The measurements below 100 ns in a row. -/
def nextGood (c : Core) (o : Rat) : Nat := if ratAbs o < 100 then c.time.good + 1 else 0

/-- The state of the loop after a measurement that does not step. -/
def nextState (c : Core) (o : Rat) : Nat :=
  if 8 ≤ c.nextGood o then 2 else if c.get Obj.Time.DISC_STATE = 1 then 0 else c.get Obj.Time.DISC_STATE

/-- The loop's own branch of R397. -/
def trimmed (c : Core) (o : Rat) (t stratum : Nat) : Core :=
  let c1 := ((c.offsetShown o).put Obj.Time.TRIM
    (ofSigned 32 (trimOf (c.nextF o t - o / ((c.get Obj.Time.LOOP_TC_MS : Rat) / 1000))))).put Obj.Time.DISC_STATE (c.nextState o)
  c1.withTime { c1.time with f := c.nextF o t, good := c.nextGood o, last := some c.tick, stratum := stratum }

theorem measure_step (h : c.time.last = none ∨ (c.get Obj.Time.STEP_LIMIT_NS : Rat) < ratAbs o) :
    c.measure o stratum = (c.offsetShown o).stepLoop c.time o stratum := by
  rw [measure]
  cases hl : c.time.last with
  | none => rfl
  | some t =>
    rw [hl] at h
    exact if_pos (h.resolve_left fun h => by cases h)

theorem measure_trim {t : Nat} (hl : c.time.last = some t) (h : ratAbs o ≤ (c.get Obj.Time.STEP_LIMIT_NS : Rat)) :
    c.measure o stratum = c.trimmed o t stratum := by
  rw [measure, hl]
  exact if_neg (not_lt.2 h)

theorem get_stepTime (c : Core) (o : Rat) (k : Nat) : (c.stepTime o).get k = c.get k := rfl

/-- The objects after a measurement that steps hub time. -/
theorem stepLoop_get (c : Core) (tm : TimeState) (o : Rat) (stratum : Nat) {k : Nat} (h1 : k ≠ Obj.Time.STEPS)
    (h2 : k ≠ Obj.Time.FLAGS) (h3 : k ≠ Obj.Time.DISC_STATE) : (c.stepLoop tm o stratum).get k = c.get k := by
  rw [stepLoop, get_withTime, get_put_ne _ _ h3, get_flag_ne _ _ h2, get_inc_ne _ h1, get_stepTime]

theorem stepLoop_flag (c : Core) (tm : TimeState) (o : Rat) (stratum : Nat) : (c.stepLoop tm o stratum).bitOf Obj.Time.FLAGS 1 = true := by
  have hget : (c.stepLoop tm o stratum).get Obj.Time.FLAGS = (((c.stepTime o).inc Obj.Time.STEPS).flag Obj.Time.FLAGS 1).get Obj.Time.FLAGS := by
    rw [stepLoop, get_withTime, get_put_ne _ _ (by decide)]
  rw [bitOf_congr 1 hget, bitOf_flag_self]

theorem offsetShown_get (c : Core) (o : Rat) {k : Nat} (h1 : k ≠ Obj.Time.OFFSET_PS) (h2 : k ≠ Obj.Time.TIME_VALID) :
    (c.offsetShown o).get k = c.get k := by
  rw [offsetShown, get_put_ne _ _ h2, get_put_ne _ _ h1]

theorem offsetShown_shown (c : Core) (o : Rat) : (c.offsetShown o).get Obj.Time.TIME_VALID = 1 ∧
    (c.offsetShown o).get Obj.Time.OFFSET_PS = satSigned 32 (ratRound (o * 1000)) := by
  refine ⟨get_put_self _ _ _, ?_⟩
  rw [offsetShown, get_put_ne _ _ (by decide), get_put_self]

theorem trimmed_get (c : Core) (o : Rat) (t stratum : Nat) {k : Nat} (h1 : k ≠ Obj.Time.TRIM) (h2 : k ≠ Obj.Time.DISC_STATE) :
    (c.trimmed o t stratum).get k = (c.offsetShown o).get k := by
  rw [trimmed, get_withTime, get_put_ne _ _ h2, get_put_ne _ _ h1]

theorem nextState_ne (c : Core) (o : Rat) : c.nextState o ≠ 1 := by
  unfold nextState
  split_ifs with _ h
  · decide
  · decide
  · exact h

/-- Either way, what a measurement shows, and what it leaves. -/
theorem measure_shown (c : Core) (o : Rat) (stratum : Nat) : (c.measure o stratum).get Obj.Time.TIME_VALID = 1 ∧
    (c.measure o stratum).get Obj.Time.OFFSET_PS = satSigned 32 (ratRound (o * 1000)) ∧
    (c.measure o stratum).time.last = some c.tick ∧ (c.measure o stratum).time.exchange = c.time.exchange ∧
    (c.measure o stratum).time.sync = c.time.sync ∧ (c.measure o stratum).req = c.req ∧
    ∀ k, ¬ (0x120000 ≤ k ∧ k < 0x120100) → (c.measure o stratum).get k = c.get k := by
  obtain ⟨hvalid, hoffset⟩ := offsetShown_shown c o
  have hcases : (c.time.last = none ∨ (c.get Obj.Time.STEP_LIMIT_NS : Rat) < ratAbs o) ∨
      ∃ t, c.time.last = some t ∧ ratAbs o ≤ (c.get Obj.Time.STEP_LIMIT_NS : Rat) := by
    cases hl : c.time.last with
    | none => exact .inl (.inl rfl)
    | some t =>
      rcases lt_or_ge (c.get Obj.Time.STEP_LIMIT_NS : Rat) (ratAbs o) with h | h
      · exact .inl (.inr h)
      · exact .inr ⟨t, rfl, h⟩
  rcases hcases with h | ⟨t, hl, h⟩
  · rw [measure_step h]
    refine ⟨?_, ?_, rfl, rfl, rfl, rfl, fun k hk => ?_⟩
    · rw [stepLoop_get _ _ _ _ (by decide) (by decide) (by decide), hvalid]
    · rw [stepLoop_get _ _ _ _ (by decide) (by decide) (by decide), hoffset]
    · rw [stepLoop_get _ _ _ _ (by simp; omega) (by simp; omega) (by simp; omega), offsetShown_get _ _ (by simp; omega) (by simp; omega)]
  · rw [measure_trim hl h]
    refine ⟨?_, ?_, rfl, rfl, rfl, rfl, fun k hk => ?_⟩
    · rw [trimmed_get _ _ _ _ (by decide) (by decide), hvalid]
    · rw [trimmed_get _ _ _ _ (by decide) (by decide), hoffset]
    · rw [trimmed_get _ _ _ _ (by simp; omega) (by simp; omega), offsetShown_get _ _ (by simp; omega) (by simp; omega)]

end Core

/-- A measurement that a hub applies whose time stands as it stood. -/
theorem measured_measure {s : State} {c : Core} {o : Rat} (stratum : Nat)
    (hget : ∀ k, 0x120000 ≤ k ∧ k < 0x120100 → c.get k = s.core.get k) (hhub : c.hubTime = s.core.hubTime)
    (htick : c.tick = s.core.tick) (hlast : c.time.last = s.core.time.last) (hf : c.time.f = s.core.time.f)
    (hgood : c.time.good = s.core.time.good) : Measured s o (c.measure o stratum) := by
  obtain ⟨hvalid, hoffset, hnow, -⟩ := Core.measure_shown c o stratum
  have hlimit : c.get Obj.Time.STEP_LIMIT_NS = s.core.get Obj.Time.STEP_LIMIT_NS := hget _ (by decide)
  refine ⟨hvalid, hoffset, hnow.trans (by rw [htick]), fun h => ?_, fun t hl h => ?_⟩
  · rw [← hlast, ← hlimit] at h
    rw [Core.measure_step h]
    refine ⟨?_, hf, ?_, ?_, rfl, Core.get_put_self _ _ _, ?_⟩
    · rw [← hhub]
      rfl
    · rw [Core.stepLoop, Core.get_withTime, Core.get_put_ne _ _ (by decide), Core.get_flag_ne _ _ (by decide), Core.get_inc_self,
        Core.get_stepTime, Core.offsetShown_get _ _ (by decide) (by decide), Core.sat_eq_min, hget _ (by decide)]
    · exact Core.stepLoop_flag _ _ _ _
    · rw [Core.stepLoop_get _ _ _ _ (by decide) (by decide) (by decide), Core.offsetShown_get _ _ (by decide) (by decide),
        hget _ (by decide)]
  · rw [← hlast] at hl
    have hnextF : c.nextF o t = s.core.time.f - o * (((s.core.tick - t : Nat) : Rat) * 2 / 1000000000) /
        (4 * ((s.core.get Obj.Time.LOOP_TC_MS : Rat) / 1000) * ((s.core.get Obj.Time.LOOP_TC_MS : Rat) / 1000)) := by
      rw [Core.nextF, hf, htick, hget Obj.Time.LOOP_TC_MS (by decide)]
    have hdisc : (c.trimmed o t stratum).get Obj.Time.DISC_STATE = c.nextState o := by
      rw [Core.trimmed, Core.get_withTime, Core.get_put_self]
    have htime : (c.trimmed o t stratum).time.f = c.nextF o t := rfl
    have htrim : (c.trimmed o t stratum).get Obj.Time.TRIM =
        ofSigned 32 (trimOf (c.nextF o t - o / ((c.get Obj.Time.LOOP_TC_MS : Rat) / 1000))) := by
      rw [Core.trimmed, Core.get_withTime, Core.get_put_ne _ _ (by decide), Core.get_put_self]
    rw [← hlimit] at h
    rw [Core.measure_trim hl h]
    refine ⟨hhub, hnextF, ?_, ?_, fun h8 => ?_, ?_, ?_⟩
    · rw [htime, htrim, hget Obj.Time.LOOP_TC_MS (by decide)]
    · rw [← hgood]
      rfl
    · exact hdisc.trans (if_pos h8)
    · rw [hdisc]
      exact Core.nextState_ne c o
    · rw [Core.trimmed_get _ _ _ _ (by decide) (by decide), Core.offsetShown_get _ _ (by decide) (by decide), hget _ (by decide)]

end Sys2Proof.Machine
end

section
/-! PROOFS. Hub time and its sources (15_sail_time_array.md R387, R393 to R397). -/

namespace Sys2Proof.Machine

variable {s : State} {sp : SailNo} {a : SailArrival} {m : SailIn}

/-! ## The exchange over Sail (R395) -/

/-- The hub once it has counted a TIME message. -/
def timeTaken (s : State) (k : Nat) : Core := s.clear.core.inc64 (Obj.SailPort.MSGS_RX k)

theorem timeTaken_get {k o : Nat} (h : o ≠ Obj.SailPort.MSGS_RX k) : (timeTaken s k).get o = s.core.get o :=
  Core.get_add_ne s.clear.core 64 1 h

theorem timeTaken_timeMode (k : Nat) : (timeTaken s k).timeMode = s.core.timeMode := by
  rw [Core.timeMode, timeTaken_get (by simp; omega), timeTaken_get (by simp; omega), Core.timeMode]

theorem sailRx_time_taken (hup : s.core.spState sp.val = 3) (ha : sailParse a = some m) (hm : m.mtype = 4) :
    s.clear.core.sailRx sp.val a = (timeTaken s sp.val).timeIn sp.val m a.stamp.toNat :=
  Core.sailRx_time (c := s.clear.core) hup ha hm

/-- What the TIME messages of the hub read of it. -/
theorem timeMsg_congr {c d : Core} (kind num stamp : Nat) (hvalid : d.get Obj.Time.TIME_VALID = c.get Obj.Time.TIME_VALID)
    (htime : d.time.stratum = c.time.stratum) : d.timeMsg kind num stamp = c.timeMsg kind num stamp := by
  rw [Core.timeMsg, Core.timeMsg, Core.timeValid, Core.timeValid, Core.isSet, Core.isSet, hvalid, htime]

/-- `d` differs from `c` in what leaves the hub alone. -/
def OutOnly (c d : Core) : Prop := d = { c with out := d.out }

/-- The SYNC of a port. -/
def syncOut (c : Core) (k : Nat) : Out := sailOut k (c.timeMsg 0 0 (stamp4 c.hubTime))

theorem OutOnly.syncOut {c d : Core} (h : OutOnly c d) (k : Nat) : syncOut d k = syncOut c k := by
  rw [h]
  rfl

theorem OutOnly.spUp {c d : Core} (h : OutOnly c d) (k : Nat) : d.spUp k = c.spUp k := by
  rw [h]
  rfl

/-- A SYNC leaves on a child port that is UP. -/
def syncStep (d : Core) (k : Nat) : Core := if k ≠ 0 && d.spUp k then d.sailEmit k (d.timeMsg 0 0 (stamp4 d.hubTime)) else d

theorem timeSyncSend_eq (c : Core) : c.timeSyncSend = [0, 1, 2, 3].foldl syncStep c := by
  unfold Core.timeSyncSend Core.each
  rfl

theorem syncStep_foldl (c : Core) (l : List Nat) (d : Core) (hd : OutOnly c d) : OutOnly c (l.foldl syncStep d) ∧
    (l.foldl syncStep d).out = d.out ++ (l.filter fun k => k ≠ 0 && c.spUp k).map (syncOut c) := by
  induction l generalizing d with
  | nil => exact ⟨hd, (List.append_nil _).symm⟩
  | cons k l ih =>
    have hup := hd.spUp k
    rw [List.foldl_cons, List.filter_cons]
    by_cases hk : (decide (k ≠ 0) && c.spUp k) = true
    · have hstep : syncStep d k = d.emit (syncOut d k) := by
        rw [syncStep, hup, if_pos hk]
        rfl
      have hd' : OutOnly c (d.emit (syncOut d k)) := by
        rw [hd]
        rfl
      obtain ⟨honly, hout⟩ := ih _ hd'
      rw [hstep, if_pos hk]
      refine ⟨honly, hout.trans ?_⟩
      rw [hd.syncOut, List.map_cons]
      exact List.append_assoc d.out [_] _
    · have hstep : syncStep d k = d := by rw [syncStep, hup, if_neg hk]
      rw [hstep, if_neg hk]
      exact ih d hd

theorem time_syncSend (hu : s.core.seqUp = true) : AnswersCore .timeSyncSend s fun c =>
      c.out = (([1, 2, 3].filter fun k => s.core.spUp k).map fun k =>
        sailOut k (s.core.timeMsg 0 0 (stamp4 s.core.hubTime))) ∧
      c.sail = s.core.sail ∧ c.time = s.core.time ∧ ∀ k, c.get k = s.core.get k := by
  obtain ⟨honly, hout⟩ := syncStep_foldl s.clear.core [0, 1, 2, 3] s.clear.core rfl
  rw [← timeSyncSend_eq] at honly hout
  refine answersCore_onPower (fun c => c.timeSyncSend) rfl hu ?_ ⟨hout.trans ?_, ?_, ?_, fun k => ?_⟩
  · rw [honly]
    rfl
  · rfl
  · rw [honly]
    rfl
  · rw [honly]
    rfl
  · rw [honly]
    rfl

theorem time_sync {num : Nat} (hu : s.core.seqUp = true) (hup : s.core.spState 0 = 3) (ha : sailParse a = some m)
    (hm : m.mtype = 4) (hkind : field 255 248 m.num = 0) (hmode : s.core.timeMode = 2)
    (hnum : num = (s.core.time.dreqNum + 1) % 65536) : AnswersCore (.timeSync 0 a) s fun c =>
      c.time.exchange = some ⟨num, field 191 96 m.num, stamp4 a.stamp.toNat, stamp4 s.core.hubTime, bit 247 m.num⟩ ∧
      c.time.dreqNum = num ∧ c.out = [sailOut 0 (s.core.timeMsg 1 num (stamp4 s.core.hubTime))] ∧
      ∀ k, k ≠ Obj.SailPort.MSGS_RX 0 → c.get k = s.core.get k := by
  subst hnum
  have hrx : s.clear.core.sailRx 0 a = (timeTaken s 0).syncIn 0 m.num a.stamp.toNat := by
    refine (sailRx_time_taken (sp := 0) hup ha hm).trans ?_
    rw [Core.timeIn, hkind]
    rfl
  have hsync : ∀ c : Core, c.timeMode = 2 → c.syncIn 0 m.num a.stamp.toNat =
      (c.sailEmit 0 (c.timeMsg 1 ((c.time.dreqNum + 1) % 65536) (stamp4 c.hubTime))).withTime { c.time with
        dreqNum := (c.time.dreqNum + 1) % 65536
        exchange := some ⟨(c.time.dreqNum + 1) % 65536, field 191 96 m.num, stamp4 a.stamp.toNat, stamp4 c.hubTime, bit 247 m.num⟩ } :=
    fun c hc => by
      rw [Core.syncIn, hc]
      rfl
  have hall := hrx.trans (hsync _ ((timeTaken_timeMode 0).trans hmode))
  have hmsg : (timeTaken s 0).timeMsg 1 ((s.core.time.dreqNum + 1) % 65536) (stamp4 s.core.hubTime) =
      s.core.timeMsg 1 ((s.core.time.dreqNum + 1) % 65536) (stamp4 s.core.hubTime) :=
    timeMsg_congr _ _ _ (timeTaken_get (by decide)) rfl
  refine answersCore_onPower (fun c => c.sailRx 0 a) rfl hu ?_ ?_
  · rw [hall]
    rfl
  · rw [hall]
    refine ⟨rfl, rfl, ?_, fun k hk => timeTaken_get hk⟩
    rw [← hmsg]
    rfl

theorem time_dreq (hu : s.core.seqUp = true) (hup : s.core.spState sp.val = 3) (ha : sailParse a = some m)
    (hm : m.mtype = 4) (hkind : field 255 248 m.num = 1) (hsp : sp ≠ 0) : AnswersCore (.timeDreq sp a) s fun c =>
      c.out = [sailOut sp.val (s.core.timeMsg 2 (field 239 224 m.num) (stamp4 a.stamp.toNat))] ∧
      c.time = s.core.time ∧ ∀ k, k ≠ Obj.SailPort.MSGS_RX sp.val → c.get k = s.core.get k := by
  have hne : sp.val ≠ 0 := fun h => hsp (Fin.ext h)
  have hrx : s.clear.core.sailRx sp.val a = (timeTaken s sp.val).sailEmit sp.val
      ((timeTaken s sp.val).timeMsg 2 (field 239 224 m.num) (stamp4 a.stamp.toNat)) := by
    refine (sailRx_time_taken hup ha hm).trans ?_
    rw [Core.timeIn, hkind]
    exact if_neg hne
  rw [timeMsg_congr (c := s.core) _ _ _ (timeTaken_get (by simp; omega)) rfl] at hrx
  refine answersCore_onPower (fun c => c.sailRx sp.val a) rfl hu ?_ ?_
  · rw [hrx]
    rfl
  · rw [hrx]
    exact ⟨rfl, rfl, fun k hk => timeTaken_get hk⟩

/-- The exchange that a DRESP ends (R395). -/
theorem drespIn_eq {c : Core} {v stamp : Nat} {x : TimeEx} (hx : c.time.exchange = some x) (hmode : c.timeMode = 2)
    (hnum : x.num = field 239 224 v) : c.drespIn 0 v stamp =
      (let c1 : Core := c.withTime { c.time with exchange := none }
       if !x.valid || (100000 : Rat) < nsOf stamp x.t2 then c1
       else
        let delay := (nsOf x.t2 x.t1 + nsOf (field 191 96 v) x.t3) / 2 + (c.getInt (Obj.SailPort.ASYM_PS 0) : Rat) / 1000
        (c1.put (Obj.SailPort.LINK_DELAY_PS 0) (sat 32 (ratRound (delay * 1000)).toNat)).measure
          (nsOf x.t2 x.t1 - delay) (min 255 (field 223 216 v + 1))) := by
  rw [Core.drespIn, hx]
  dsimp only
  rw [if_neg]
  simp [hmode, hnum]

theorem sailRx_dresp (hup : s.core.spState 0 = 3) (ha : sailParse a = some m) (hm : m.mtype = 4)
    (hkind : field 255 248 m.num = 2) : s.clear.core.sailRx 0 a = (timeTaken s 0).drespIn 0 m.num a.stamp.toNat := by
  refine (sailRx_time_taken (sp := 0) hup ha hm).trans ?_
  rw [Core.timeIn, hkind]
  rfl

theorem time_dresp {x : TimeEx} {delay : Rat} (hu : s.core.seqUp = true) (hup : s.core.spState 0 = 3)
    (ha : sailParse a = some m) (hm : m.mtype = 4) (hkind : field 255 248 m.num = 2) (hmode : s.core.timeMode = 2)
    (hx : s.core.time.exchange = some x) (hnum : x.num = field 239 224 m.num)
    (hdelay : delay = (nsOf x.t2 x.t1 + nsOf (field 191 96 m.num) x.t3) / 2 +
      (s.core.getInt (Obj.SailPort.ASYM_PS 0) : Rat) / 1000) :
    (x.valid = true → nsOf a.stamp.toNat x.t2 ≤ 100000 → AnswersCore (.timeDresp 0 a) s fun c =>
      c.time.exchange = none ∧ c.get (Obj.SailPort.LINK_DELAY_PS 0) = sat 32 (ratRound (delay * 1000)).toNat ∧
      Measured s (nsOf x.t2 x.t1 - delay) c) ∧
    (x.valid = false ∨ 100000 < nsOf a.stamp.toNat x.t2 → AnswersCore (.timeDresp 0 a) s fun c =>
      c.time = { s.core.time with exchange := none } ∧ c.hubTime = s.core.hubTime ∧
      ∀ k, k ≠ Obj.SailPort.MSGS_RX 0 → c.get k = s.core.get k) := by
  have hasym : (timeTaken s 0).getInt (Obj.SailPort.ASYM_PS 0) = s.core.getInt (Obj.SailPort.ASYM_PS 0) := by
    rw [Core.getInt, timeTaken_get (by simp), Core.getInt]
  have hrx := (sailRx_dresp hup ha hm hkind).trans
    (drespIn_eq (c := timeTaken s 0) (stamp := a.stamp.toNat) hx ((timeTaken_timeMode 0).trans hmode) hnum)
  dsimp only at hrx
  rw [hasym, ← hdelay] at hrx
  constructor
  · intro hvalid hlate
    rw [if_neg (by rw [hvalid]; simpa using hlate)] at hrx
    obtain ⟨-, -, -, hex, -, hreq, hkeep⟩ := Core.measure_shown (((timeTaken s 0).withTime { (timeTaken s 0).time with exchange := none }).put
      (Obj.SailPort.LINK_DELAY_PS 0) (sat 32 (ratRound (delay * 1000)).toNat)) (nsOf x.t2 x.t1 - delay) (min 255 (field 223 216 m.num + 1))
    refine answersCore_onPower (fun c => c.sailRx 0 a) rfl hu ?_ ?_
    · rw [hrx, hreq]
      rfl
    · rw [hrx]
      refine ⟨hex, ?_, measured_measure _ (fun k hk => ?_) rfl rfl rfl rfl rfl⟩
      · rw [hkeep _ (by decide), Core.get_put_self]
      · rw [Core.get_put_ne _ _ (by simp; omega)]
        exact timeTaken_get (by simp; omega)
  · intro hbad
    rw [if_pos (by simpa using hbad)] at hrx
    refine answersCore_onPower (fun c => c.sailRx 0 a) rfl hu ?_ ?_
    · rw [hrx]
      rfl
    · rw [hrx]
      exact ⟨rfl, rfl, fun k hk => timeTaken_get hk⟩

end Sys2Proof.Machine
end

section
/-! PROOFS. PTP, `PPS_IN` and HOLDOVER (15_sail_time_array.md R394, R396, R397). -/

namespace Sys2Proof.Machine

variable {s : State}

/-! ## The best master (R394) -/

/-- A master's quality and identity put it no later than another's. -/
def masterLe (a b : Nat × Nat) : Prop := a.2 / 256 < b.2 / 256 ∨ (a.2 / 256 = b.2 / 256 ∧ a.1 ≤ b.1)

theorem masterLe_of_better {a b : Nat × Nat} (h : betterMaster a b = true) : masterLe a b := by
  simp only [betterMaster, Bool.or_eq_true, Bool.and_eq_true, decide_eq_true_eq] at h
  unfold masterLe
  omega

theorem masterLe_of_not_better {a b : Nat × Nat} (h : betterMaster a b = false) : masterLe b a := by
  simp only [betterMaster, Bool.or_eq_false_iff, Bool.and_eq_false_iff, decide_eq_false_iff_not] at h
  unfold masterLe
  omega

theorem masterLe_trans {a b c : Nat × Nat} (h : masterLe a b) (h' : masterLe b c) : masterLe a c := by
  unfold masterLe at *
  omega

theorem bestMaster_spec : ∀ (l : List (Nat × Nat)), l ≠ [] → ∃ b ∈ l, bestMaster l = some b ∧ ∀ x ∈ l, masterLe b x
  | [], h => absurd rfl h
  | x :: t, _ => by
    have hrefl : masterLe x x := .inr ⟨rfl, Nat.le_refl _⟩
    cases t with
    | nil => exact ⟨x, List.mem_cons_self, rfl, fun y hy => by rw [List.mem_singleton.1 hy]; exact hrefl⟩
    | cons y t =>
      obtain ⟨b, hb, hbest, hle⟩ := bestMaster_spec (y :: t) (List.cons_ne_nil y t)
      rw [bestMaster, hbest]
      dsimp only
      cases hx : betterMaster b x with
      | true =>
        refine ⟨b, List.mem_cons_of_mem x hb, rfl, fun z hz => ?_⟩
        rcases List.mem_cons.1 hz with rfl | hz
        · exact masterLe_of_better hx
        · exact hle z hz
      | false =>
        refine ⟨x, List.mem_cons_self, rfl, fun z hz => ?_⟩
        rcases List.mem_cons.1 hz with rfl | hz
        · exact hrefl
        · exact masterLe_trans (masterLe_of_not_better hx) (hle z hz)

/-! ## PTP (R394) -/

/-- The hub with the masters heard, and the best of them. -/
def announced (c : Core) (ms : List (Nat × Nat)) : Core :=
  (c.withTime { c.time with masters := ms }).put Obj.Time.PTP_GM_ID (match bestMaster ms with | some x => x.1 | none => 0)

theorem announced_get (c : Core) (ms : List (Nat × Nat)) {k : Nat} (h : k ≠ Obj.Time.PTP_GM_ID) :
    (announced c ms).get k = c.get k := Core.get_put_ne _ _ h

/-- The master in use is the best of those heard, and none where none is heard. -/
theorem announced_best (c : Core) (ms : List (Nat × Nat)) : (ms = [] → (announced c ms).get Obj.Time.PTP_GM_ID = 0) ∧
    (ms ≠ [] → ∃ b ∈ ms, (announced c ms).get Obj.Time.PTP_GM_ID = b.1 ∧
      ∀ x ∈ ms, b.2 / 256 < x.2 / 256 ∨ (b.2 / 256 = x.2 / 256 ∧ b.1 ≤ x.1)) := by
  refine ⟨fun h => ?_, fun h => ?_⟩
  · rw [h, announced, Core.get_put_self]
    rfl
  · obtain ⟨b, hb, hbest, hle⟩ := bestMaster_spec ms h
    refine ⟨b, hb, ?_, hle⟩
    rw [announced, Core.get_put_self, hbest]

/-- PTP runs: hub time does, and the mode is PTP. -/
theorem ptp_runs {c : Core} (hrun : c.timeRuns = true) (hmode : c.timeMode = 1) : (!c.timeRuns || decide (c.timeMode ≠ 1)) = false := by
  rw [hrun, hmode]
  rfl

theorem ptpAnnounce_eq {c : Core} {m : PtpAnnounce} (hrun : c.timeRuns = true) (hmode : c.timeMode = 1)
    (hdom : m.domain.toNat = c.get Obj.Time.PTP_DOMAIN) :
    c.ptpAnnounce m = announced (if m.arb then c.flag Obj.Time.FLAGS 2 else c)
      (if m.arb then c.time.masters.filter (fun x => x.1 != m.clockIdentity.toNat)
       else c.time.masters.filter (fun x => x.1 != m.clockIdentity.toNat) ++ [(m.clockIdentity.toNat, m.quality.toNat)]) := by
  rw [Core.ptpAnnounce, ptp_runs hrun hmode]
  exact if_neg (by simp [hdom])

theorem time_announce {m : PtpAnnounce} {others : List (Nat × Nat)} (hu : s.core.seqUp = true) (hrun : s.core.timeRuns = true)
    (hmode : s.core.timeMode = 1) (hdom : m.domain.toNat = s.core.get Obj.Time.PTP_DOMAIN)
    (hothers : others = s.core.time.masters.filter (fun x => x.1 != m.clockIdentity.toNat)) :
    AnswersCore (.ptpAnnounce m) s fun c =>
      (m.arb = false → c.time.masters = others ++ [(m.clockIdentity.toNat, m.quality.toNat)]) ∧
      (m.arb = true → c.time.masters = others ∧ c.bitOf Obj.Time.FLAGS 2 = true) ∧
      (c.time.masters = [] → c.get Obj.Time.PTP_GM_ID = 0) ∧
      (c.time.masters ≠ [] → ∃ b ∈ c.time.masters, c.get Obj.Time.PTP_GM_ID = b.1 ∧
        ∀ x ∈ c.time.masters, b.2 / 256 < x.2 / 256 ∨ (b.2 / 256 = x.2 / 256 ∧ b.1 ≤ x.1)) ∧
      (m.arb = false → c.get Obj.Time.FLAGS = s.core.get Obj.Time.FLAGS) ∧
      ∀ k, k ≠ Obj.Time.PTP_GM_ID → k ≠ Obj.Time.FLAGS → c.get k = s.core.get k := by
  subst hothers
  have hann := ptpAnnounce_eq (c := s.clear.core) (m := m) hrun hmode hdom
  refine answersCore_onPower (fun c => c.ptpAnnounce m) rfl hu ?_ ?_
  · rw [hann]
    cases m.arb <;> rfl
  · cases harb : m.arb with
    | false =>
      rw [harb, if_neg (by decide), if_neg (by decide)] at hann
      rw [hann]
      obtain ⟨hnone, hbest⟩ := announced_best s.clear.core
        (s.core.time.masters.filter (fun x => x.1 != m.clockIdentity.toNat) ++ [(m.clockIdentity.toNat, m.quality.toNat)])
      exact ⟨fun _ => rfl, fun h => absurd h (by decide), hnone, hbest, fun _ => announced_get _ _ (by decide),
        fun k hk _ => announced_get _ _ hk⟩
    | true =>
      rw [harb, if_pos rfl, if_pos rfl] at hann
      rw [hann]
      obtain ⟨hnone, hbest⟩ := announced_best (s.clear.core.flag Obj.Time.FLAGS 2)
        (s.core.time.masters.filter (fun x => x.1 != m.clockIdentity.toNat))
      refine ⟨fun h => absurd h (by decide), fun _ => ⟨rfl, ?_⟩, hnone, hbest, fun h => absurd h (by decide), fun k hk hk' => ?_⟩
      · exact (Core.bitOf_congr 2 (announced_get _ _ (by decide))).trans (Core.bitOf_flag_self _ _ 2)
      · exact (announced_get _ _ hk).trans (Core.get_flag_ne _ _ hk')

/-- A Sync or Follow_Up of the master in use. -/
theorem ptpSync_eq {c : Core} {m : PtpSync} (hrun : c.timeRuns = true) (hmode : c.timeMode = 1) (hms : c.time.masters ≠ [])
    (hgm : m.clockIdentity.toNat = c.get Obj.Time.PTP_GM_ID) : c.ptpSync m = match m.origin with
    | none => c.withTime { c.time with sync := some (m.clockIdentity.toNat, none, m.arrival.toNat, m.departure.toNat) }
    | some o =>
      let arrival := match c.time.sync with
        | some (i, none, t, _) => if i = m.clockIdentity.toNat then t else m.arrival.toNat
        | _ => m.arrival.toNat
      (c.withTime { c.time with sync := some (m.clockIdentity.toNat, some o.toNat, arrival, m.departure.toNat) }).emit .delayReq := by
  rw [Core.ptpSync, ptp_runs hrun hmode]
  exact if_neg (by simp [hms, hgm])

theorem time_ptpSync {m : PtpSync} (hu : s.core.seqUp = true) (hrun : s.core.timeRuns = true) (hmode : s.core.timeMode = 1)
    (hms : s.core.time.masters ≠ []) (hgm : m.clockIdentity.toNat = s.core.get Obj.Time.PTP_GM_ID) :
    (∀ o : BitVec 96, m.origin = some o → AnswersCore (.ptpSync m) s fun c =>
      (s.core.time.sync = none →
        c.time.sync = some (m.clockIdentity.toNat, some o.toNat, m.arrival.toNat, m.departure.toNat)) ∧
      (∀ t d, s.core.time.sync = some (m.clockIdentity.toNat, none, t, d) →
        c.time.sync = some (m.clockIdentity.toNat, some o.toNat, t, m.departure.toNat)) ∧
      c.out = [.delayReq] ∧ ∀ k, c.get k = s.core.get k) ∧
    (m.origin = none → AnswersCore (.ptpSync m) s fun c =>
      c.time.sync = some (m.clockIdentity.toNat, none, m.arrival.toNat, m.departure.toNat) ∧ c.out = [] ∧
      ∀ k, c.get k = s.core.get k) := by
  have hsync := ptpSync_eq (c := s.clear.core) (m := m) hrun hmode hms hgm
  constructor
  · intro o ho
    rw [ho] at hsync
    refine answersCore_onPower (fun c => c.ptpSync m) rfl hu ?_ ?_
    · rw [hsync]
      rfl
    · rw [hsync]
      refine ⟨fun hnone => ?_, fun t d hsome => ?_, rfl, fun k => rfl⟩
      · have hnone' : s.clear.core.time.sync = none := hnone
        rw [hnone']
        rfl
      · have hsome' : s.clear.core.time.sync = some (m.clockIdentity.toNat, none, t, d) := hsome
        rw [hsome']
        dsimp only
        rw [if_pos rfl]
        rfl
  · intro ho
    rw [ho] at hsync
    refine answersCore_onPower (fun c => c.ptpSync m) rfl hu ?_ ?_
    · rw [hsync]
      rfl
    · rw [hsync]
      exact ⟨rfl, rfl, fun k => rfl⟩

/-- The offset of the Delay_Resp that the hub awaits. -/
theorem ptpDelayResp_eq {c : Core} {m : PtpDelayResp} {id t1 t2 t3 : Nat} {o : Rat} (hrun : c.timeRuns = true)
    (hmode : c.timeMode = 1) (hsync : c.time.sync = some (id, some t1, t2, t3)) (hid : id = m.clockIdentity.toNat)
    (ho : o = (nsOf t2 t1 - nsOf m.receive.toNat t3) / 2) :
    c.ptpDelayResp m = (c.withTime { c.time with sync := none }).ptpOffset o := by
  rw [Core.ptpDelayResp, hsync, ho]
  dsimp only
  rw [ptp_runs hrun hmode]
  exact if_neg (by simp [hid])

theorem time_delayResp {m : PtpDelayResp} {id t1 t2 t3 : Nat} {o : Rat} (hu : s.core.seqUp = true) (hrun : s.core.timeRuns = true)
    (hmode : s.core.timeMode = 1) (hsync : s.core.time.sync = some (id, some t1, t2, t3)) (hid : id = m.clockIdentity.toNat)
    (ho : o = (nsOf t2 t1 - nsOf m.receive.toNat t3) / 2) :
    (s.core.isSet Obj.Time.PPS_MODE = false ∨ 10000 < ratAbs o → AnswersCore (.ptpDelayResp m) s fun c =>
      c.time.sync = none ∧ Measured s o c) ∧
    (s.core.isSet Obj.Time.PPS_MODE = true → ratAbs o ≤ 10000 → AnswersCore (.ptpDelayResp m) s fun c =>
      c.time = { s.core.time with sync := none, ptpClose := true } ∧ c.hubTime = s.core.hubTime ∧
      ∀ k, c.get k = s.core.get k) := by
  have hresp := ptpDelayResp_eq (c := s.clear.core) hrun hmode hsync hid ho
  have hmeasured : ∀ c : Core, (∃ cl, c = s.clear.core.withTime { s.core.time with sync := none, ptpClose := cl }) →
      s.clear.core.ptpDelayResp m = c.measure o 0 → AnswersCore (.ptpDelayResp m) s fun c => c.time.sync = none ∧ Measured s o c := by
    rintro c ⟨cl, rfl⟩ hc
    obtain ⟨-, -, -, -, hs, hreq, -⟩ :=
      Core.measure_shown (s.clear.core.withTime { s.core.time with sync := none, ptpClose := cl }) o 0
    refine answersCore_onPower (fun c => c.ptpDelayResp m) rfl hu ?_ ?_
    · rw [hc, hreq]
      rfl
    · rw [hc]
      exact ⟨hs, measured_measure 0 (fun k _ => rfl) rfl rfl rfl rfl rfl⟩
  cases hpps : s.core.isSet Obj.Time.PPS_MODE with
  | false =>
    have hset : ¬ (s.clear.core.withTime { s.core.time with sync := none }).isSet Obj.Time.PPS_MODE = true := fun h =>
      absurd (h.symm.trans hpps) (by decide)
    refine ⟨fun _ => hmeasured _ ⟨s.core.time.ptpClose, rfl⟩ (hresp.trans (if_neg hset)), fun h => absurd h (by decide)⟩
  | true =>
    have hset : (s.clear.core.withTime { s.core.time with sync := none }).isSet Obj.Time.PPS_MODE = true := hpps
    have hoffset : (s.clear.core.withTime { s.core.time with sync := none }).ptpOffset o =
        if ratAbs o ≤ 10000 then s.clear.core.withTime { s.core.time with sync := none, ptpClose := decide (ratAbs o ≤ 10000) }
        else (s.clear.core.withTime { s.core.time with sync := none, ptpClose := decide (ratAbs o ≤ 10000) }).measure o 0 := by
      rw [Core.ptpOffset, if_pos hset]
      rfl
    refine ⟨fun h => hmeasured _ ⟨_, rfl⟩ ((hresp.trans hoffset).trans (if_neg ?_)), fun _ hclose => ?_⟩
    · exact not_le.2 (h.resolve_left (by decide))
    · have hall := (hresp.trans hoffset).trans (if_pos hclose)
      rw [decide_eq_true hclose] at hall
      refine answersCore_onPower (fun c => c.ptpDelayResp m) rfl hu ?_ ?_
      · rw [hall]
        rfl
      · rw [hall]
        exact ⟨rfl, rfl, fun k => rfl⟩

/-! ## PPS_IN (R396) and HOLDOVER (R397) -/

theorem time_pps {stamp : BitVec 96} {o : Rat} (hu : s.core.seqUp = true) (hrun : s.core.timeRuns = true)
    (hmode : s.core.timeMode = 1) (hpps : s.core.isSet Obj.Time.PPS_MODE = true)
    (ho : o = (stamp.toNat : Rat) / 4294967296 - (ratRound ((stamp.toNat : Rat) / 4294967296 / 1000000000) : Rat) * 1000000000) :
    (10000 < ratAbs o → AnswersCore (.ppsEdge stamp) s fun c =>
      c.get Obj.Time.PPS_REJECTS = min (s.core.get Obj.Time.PPS_REJECTS + 1) (2 ^ 32 - 1) ∧ c.bitOf Obj.Time.FLAGS 3 = true ∧
      c.hubTime = s.core.hubTime ∧ ∀ k, k ≠ Obj.Time.PPS_REJECTS → k ≠ Obj.Time.FLAGS → c.get k = s.core.get k) ∧
    (ratAbs o ≤ 10000 → s.core.time.ptpClose = true → AnswersCore (.ppsEdge stamp) s fun c => Measured s o c) ∧
    (ratAbs o ≤ 10000 → s.core.time.ptpClose = false → exec (.ppsEdge stamp) s = .next s.clear) := by
  have hedge : s.clear.core.ppsEdge stamp.toNat = if (10000 : Rat) < ratAbs o
      then (s.clear.core.inc Obj.Time.PPS_REJECTS).flag Obj.Time.FLAGS 3
      else if s.clear.core.time.ptpClose then s.clear.core.measure o 0 else s.clear.core := by
    have hset : s.clear.core.isSet Obj.Time.PPS_MODE = true := hpps
    rw [Core.ppsEdge, ptp_runs (c := s.clear.core) hrun hmode, hset, ho]
    rfl
  refine ⟨fun h => ?_, fun h hclose => ?_, fun h hclose => ?_⟩
  · have hall := hedge.trans (if_pos h)
    refine answersCore_onPower (fun c => c.ppsEdge stamp.toNat) rfl hu ?_ ?_
    · rw [hall]
      rfl
    · rw [hall]
      refine ⟨?_, Core.bitOf_flag_self _ _ 3, rfl, fun k h1 h2 => ?_⟩
      · rw [Core.get_flag_ne _ _ (by decide), Core.get_inc_self, Core.sat_eq_min]
        rfl
      · rw [Core.get_flag_ne _ _ h2, Core.get_inc_ne _ h1]
        rfl
  · have hall := (hedge.trans (if_neg (not_lt.2 h))).trans (if_pos hclose)
    refine answersCore_onPower (fun c => c.ppsEdge stamp.toNat) rfl hu ?_ ?_
    · obtain ⟨-, -, -, -, -, hreq, -⟩ := Core.measure_shown s.clear.core o 0
      rw [hall, hreq]
      rfl
    · rw [hall]
      exact measured_measure 0 (fun k _ => rfl) rfl rfl rfl rfl rfl
  · refine exec_of_onPower_unchanged (fun c => c.ppsEdge stamp.toNat) ((hedge.trans (if_neg (not_lt.2 h))).trans (if_neg ?_)) rfl
    exact fun ht => absurd (ht.symm.trans hclose) (by decide)

/-- The loop at f alone, before the source is raised. -/
def heldOver (c : Core) : Core :=
  let c1 := ((c.put Obj.Time.DISC_STATE 3).put Obj.Time.TRIM (ofSigned 32 (trimOf c.time.f))).flag Obj.Time.FLAGS 0
  c1.withTime { c1.time with last := none, good := 0 }

theorem heldOver_get (c : Core) {k : Nat} (h1 : k ≠ Obj.Time.DISC_STATE) (h2 : k ≠ Obj.Time.TRIM) (h3 : k ≠ Obj.Time.FLAGS) :
    (heldOver c).get k = c.get k := by
  rw [heldOver, Core.get_withTime, Core.get_flag_ne _ _ h3, Core.get_put_ne _ _ h2, Core.get_put_ne _ _ h1]

theorem holdover_eq {c : Core} (hrun : c.timeRuns = true) (hmode : c.timeMode ≠ 0) (hdisc : c.get Obj.Time.DISC_STATE ≠ 3) :
    c.holdover = (heldOver c).raise Src.timeLost (ctxNone 0 0) := by
  rw [Core.holdover, if_neg (by simp [hrun, hmode, hdisc])]
  rfl

theorem time_holdover (hu : s.core.seqUp = true) (hrun : s.core.timeRuns = true) (hmode : s.core.timeMode ≠ 0)
    (hdisc : s.core.get Obj.Time.DISC_STATE ≠ 3) : AnswersThen .holdover s fun c =>
      c.get Obj.Time.DISC_STATE = 3 ∧ c.get Obj.Time.TRIM = ofSigned 32 (trimOf s.core.time.f) ∧ c.bitOf Obj.Time.FLAGS 0 = true ∧
      c.time.last = none ∧ c.time.f = s.core.time.f ∧ c.hubTime = s.core.hubTime ∧ s.clear.core.Raises Src.timeLost c := by
  have hhold := holdover_eq (c := s.clear.core) hrun hmode hdisc
  refine answersThen_onPower (fun c => c.holdover) rfl hu ?_
  rw [hhold]
  refine ⟨?_, ?_, ?_, ?_, ?_, ?_, Core.raises_of_raise _ (by decide +kernel) rfl (heldOver_get _ (by decide) (by decide) (by decide))⟩
  · rw [Core.get_raise _ _ _ (by decide), heldOver, Core.get_withTime, Core.get_flag_ne _ _ (by decide),
      Core.get_put_ne _ _ (by decide), Core.get_put_self]
  · rw [Core.get_raise _ _ _ (by decide), heldOver, Core.get_withTime, Core.get_flag_ne _ _ (by decide), Core.get_put_self]
    rfl
  · rw [Core.bitOf_congr 0 (Core.get_raise _ _ _ (by decide))]
    exact Core.bitOf_flag_self _ _ 0
  · rw [Core.time_raise]
    rfl
  · rw [Core.time_raise]
    rfl
  · rw [Core.hubTime_raise]
    rfl

/-- Settles O56: each TIME message, PTP message and edge as the loop takes it, and the end of the measurements. -/
theorem timeDiscipline : Obligations.TimeDiscipline := by
  unfold Obligations.TimeDiscipline
  exact ⟨fun s => time_syncSend, fun s a m num => time_sync, fun s sp a m => time_dreq, fun s a m x delay => time_dresp,
    fun s m others => time_announce, fun s m => time_ptpSync, fun s m id t1 t2 t3 o => time_delayResp, fun s stamp o => time_pps,
    fun s => time_holdover⟩

end Sys2Proof.Machine
end

section
/-! PROOFS. What a Headrace port's transmitter and its credit change, and what they leave (02_headrace_links.md R51, R52). -/

namespace Sys2Proof.Machine

/-- Sending moves the cells that wait, and counts them. -/
def HrPortState.SentAs (x y : HrPortState) : Prop := y = { x with txq := y.txq, sent := y.sent, line := y.line }

/-- A change of what is granted, what is freed and the line alone. -/
def HrPortState.GrantedAs (x y : HrPortState) : Prop := y = { x with grant := y.grant, freed := y.freed, line := y.line }

/-- Freed cells become grants; their sum stays. -/
def HrPortState.FreedAs (x y : HrPortState) : Prop :=
  x.GrantedAs y ∧ ∀ v, y.grant.num v + y.freed.num v = x.grant.num v + x.freed.num v

theorem HrPortState.SentAs.refl (x : HrPortState) : x.SentAs x := rfl
theorem HrPortState.SentAs.trans {x y z : HrPortState} (h : x.SentAs y) (h' : y.SentAs z) : x.SentAs z := by rw [SentAs, h', h]
theorem HrPortState.GrantedAs.refl (x : HrPortState) : x.GrantedAs x := rfl
theorem HrPortState.GrantedAs.trans {x y z : HrPortState} (h : x.GrantedAs y) (h' : y.GrantedAs z) : x.GrantedAs z := by
  rw [GrantedAs, h', h]

theorem HrPortState.FreedAs.refl (x : HrPortState) : x.FreedAs x := ⟨rfl, fun _ => rfl⟩

theorem HrPortState.FreedAs.trans {x y z : HrPortState} (h : x.FreedAs y) (h' : y.FreedAs z) : x.FreedAs z :=
  ⟨h.1.trans h'.1, fun v => (h'.2 v).trans (h.2 v)⟩

namespace Core

variable {c d e : Core} {p : Nat}

theorem portOf_updPort_self (c : Core) (p : Nat) (f : HrPortState → HrPortState) : (c.updPort p f).portOf p = f (c.portOf p) :=
  portOf_setPort_self c p _

/-- `d` differs from `c` in one port and in what leaves the hub. -/
def PortOnly (p : Nat) (c d : Core) : Prop :=
  d = { c with hr := d.hr, out := d.out } ∧ ∀ q, q ≠ p → d.portOf q = c.portOf q

theorem PortOnly.refl (p : Nat) (c : Core) : PortOnly p c c := ⟨rfl, fun _ _ => rfl⟩

theorem PortOnly.trans (h : PortOnly p c d) (h' : PortOnly p d e) : PortOnly p c e :=
  ⟨by rw [h'.1, h.1], fun q hq => (h'.2 q hq).trans (h.2 q hq)⟩

theorem portOnly_setPort (c : Core) (p : Nat) (s : HrPortState) : PortOnly p c (c.setPort p s) :=
  ⟨rfl, fun _ hq => portOf_setPort_ne _ _ hq⟩

theorem portOnly_updPort (c : Core) (p : Nat) (f : HrPortState → HrPortState) : PortOnly p c (c.updPort p f) := portOnly_setPort c p _
theorem portOnly_emit (c : Core) (p : Nat) (o : Out) : PortOnly p c (c.emit o) := ⟨rfl, fun _ _ => rfl⟩
theorem portOnly_withOut (c : Core) (p : Nat) (l : List Out) : PortOnly p c (c.withOut l) := ⟨rfl, fun _ _ => rfl⟩

theorem portOnly_ite {b : Prop} [Decidable b] {x y : Core} (hx : PortOnly p c x) (hy : PortOnly p c y) :
    PortOnly p c (if b then x else y) := by
  split
  · exact hx
  · exact hy

section
variable (h : PortOnly p c d)
include h

theorem PortOnly.objs : d.objs = c.objs := by rw [h.1]
theorem PortOnly.get (k : Nat) : d.get k = c.get k := by rw [Core.get, h.objs, Core.get]
theorem PortOnly.bitOf (k n : Nat) : d.bitOf k n = c.bitOf k n := bitOf_congr n (h.get k)
theorem PortOnly.req : d.req = c.req := by rw [h.1]
theorem PortOnly.fc : d.fc = c.fc := by rw [h.1]
theorem PortOnly.tick : d.tick = c.tick := by rw [h.1]
theorem PortOnly.mc : d.mc = c.mc := by rw [h.1]
theorem PortOnly.ctxs : d.ctxs = c.ctxs := by rw [h.1]
theorem PortOnly.wins : d.wins = c.wins := by rw [h.1]
theorem PortOnly.streams : d.streams = c.streams := by rw [h.1]
theorem PortOnly.rings : d.rings = c.rings := by rw [h.1]
theorem PortOnly.throttled : d.throttled = c.throttled := by rw [h.1]
theorem PortOnly.dev : d.dev = c.dev := h.get _
theorem PortOnly.portState (q : Nat) : d.portState q = c.portState q := h.get _
theorem PortOnly.portUp (q : Nat) : d.portUp q = c.portUp q := by rw [Core.portUp, h.portState, Core.portUp]

theorem PortOnly.grantHeld (v : Nat) : d.grantHeld v = c.grantHeld v := by
  rw [Core.grantHeld, h.throttled, h.dev, Core.grantHeld]

end

/-! ## Cells leave (R51, R52) -/

/-- The cells of a virtual channel that its credit lets go. -/
def going (s : HrPortState) (v : Nat) : List (Nat × Nat × Cell) := (s.txq.filter fun e => e.1 == v).take (s.credit v)

/-- The port once they have left. -/
def pumped (s : HrPortState) (v : Nat) : HrPortState :=
  ({ s with
    txq := (s.txq.filter fun e => e.1 != v) ++ (s.txq.filter fun e => e.1 == v).drop (going s v).length
    sent := s.sent.setNum v (s.sent.num v + (going s v).length) } : HrPortState).queueCells ((going s v).map fun e => e.2)

theorem sentAs_pumped (s : HrPortState) (v : Nat) : s.SentAs (pumped s v) := rfl

theorem pumpVc_eq (c : Core) (p v : Nat) : c.pumpVc p v = (c.setPort p (pumped (c.portOf p) v)).withOut
    (c.out ++ (going (c.portOf p) v).map fun e => Out.cell p e.2.1 e.2.2) := rfl

theorem pumpVc_facts (c : Core) (p v : Nat) : PortOnly p c (c.pumpVc p v) ∧ (c.portOf p).SentAs ((c.pumpVc p v).portOf p) ∧
    (c.pumpVc p v).out = c.out ++ (going (c.portOf p) v).map (fun e => Out.cell p e.2.1 e.2.2) := by
  have hport : (c.pumpVc p v).portOf p = pumped (c.portOf p) v := portOf_setPort_self c p _
  refine ⟨?_, ?_, rfl⟩
  · rw [pumpVc_eq]
    exact (portOnly_setPort c p _).trans (portOnly_withOut _ p _)
  · rw [hport]
    exact sentAs_pumped _ v

theorem pump_facts (c : Core) (p : Nat) : PortOnly p c (c.pump p) ∧ (c.portOf p).SentAs ((c.pump p).portOf p) ∧
    ∃ l, (c.pump p).out = c.out ++ (going (c.portOf p) Vc.rsp).map (fun e => Out.cell p e.2.1 e.2.2) ++ l := by
  obtain ⟨h1, s1, o1⟩ := pumpVc_facts c p Vc.rsp
  obtain ⟨h2, s2, o2⟩ := pumpVc_facts (c.pumpVc p Vc.rsp) p Vc.ctl
  obtain ⟨h3, s3, o3⟩ := pumpVc_facts ((c.pumpVc p Vc.rsp).pumpVc p Vc.ctl) p Vc.blk
  refine ⟨(h1.trans h2).trans h3, (s1.trans s2).trans s3, ?_⟩
  rw [pump, o3, o2, o1, List.append_assoc]
  exact ⟨_, rfl⟩

theorem send_facts (c : Core) (p v ty : Nat) (x : Cell) : PortOnly p c (c.send p v ty x) ∧
    (c.portOf p).SentAs ((c.send p v ty x).portOf p) := by
  unfold send
  split
  · obtain ⟨h, hs, -⟩ := pump_facts (c.updPort p fun s => { s with txq := s.txq ++ [(v, ty, x)] }) p
    refine ⟨(portOnly_updPort c p _).trans h, ?_⟩
    rw [portOf_updPort_self] at hs
    have hq : (c.portOf p).SentAs { c.portOf p with txq := (c.portOf p).txq ++ [(v, ty, x)] } := rfl
    exact hq.trans hs
  · exact ⟨PortOnly.refl p c, HrPortState.SentAs.refl _⟩

theorem going_single {s : HrPortState} {v ty : Nat} {x : Cell} (hq : s.txq = [(v, ty, x)]) (hcr : 0 < s.credit v) :
    going s v = [(v, ty, x)] := by
  obtain ⟨n, hn⟩ : ∃ n, s.credit v = n + 1 := ⟨_, (Nat.succ_pred_eq_of_pos hcr).symm⟩
  rw [going, hq, hn]
  simp

/-- A response leaves at once while nothing waits before it and the far end has granted its place. -/
theorem mem_out_send {ty : Nat} {x : Cell} (hup : c.portUp p = true) (hq : (c.portOf p).txq = [])
    (hcr : 0 < (c.portOf p).credit Vc.rsp) : Out.cell p ty x ∈ (c.send p Vc.rsp ty x).out := by
  obtain ⟨-, -, l, hout⟩ := pump_facts (c.updPort p fun s => { s with txq := s.txq ++ [(Vc.rsp, ty, x)] }) p
  have hgo : going ({ c.portOf p with txq := (c.portOf p).txq ++ [(Vc.rsp, ty, x)] } : HrPortState) Vc.rsp = [(Vc.rsp, ty, x)] :=
    going_single (by rw [hq]; rfl) hcr
  rw [send, if_pos hup, hout, portOf_updPort_self, hgo]
  simp

theorem respond_facts (c : Core) (p tag status ty idx : Nat) : PortOnly p c (c.respond p tag status ty idx) ∧
    (c.portOf p).SentAs ((c.respond p tag status ty idx).portOf p) := send_facts c p _ _ _

/-! ## Credit (R51, R52) -/

/-- The cells freed on a virtual channel become grants. -/
def grantStep (p : Nat) (c : Core) (v : Nat) : Core :=
  if c.grantHeld v then c
  else c.updPort p fun s => { s with grant := s.grant.setNum v (s.grant.num v + s.freed.num v), freed := s.freed.setNum v 0 }

theorem grantStep_facts (c : Core) (p v : Nat) : PortOnly p c (grantStep p c v) ∧ (grantStep p c v).out = c.out ∧
    (c.portOf p).GrantedAs ((grantStep p c v).portOf p) ∧
    ∀ u, (((grantStep p c v).portOf p).grant.num u, ((grantStep p c v).portOf p).freed.num u) =
      if u = v ∧ c.grantHeld u = false then ((c.portOf p).grant.num u + (c.portOf p).freed.num u, 0)
      else ((c.portOf p).grant.num u, (c.portOf p).freed.num u) := by
  unfold grantStep
  by_cases hheld : c.grantHeld v = true
  · rw [if_pos hheld]
    refine ⟨PortOnly.refl p c, rfl, rfl, fun u => (if_neg ?_).symm⟩
    rintro ⟨rfl, h⟩
    exact absurd (hheld.symm.trans h) (by decide)
  · rw [if_neg hheld, portOf_updPort_self]
    refine ⟨portOnly_updPort c p _, rfl, rfl, fun u => ?_⟩
    by_cases hu : u = v
    · subst hu
      rw [if_pos ⟨rfl, by simpa using hheld⟩, num_setNum_self, num_setNum_self]
    · rw [if_neg fun h => hu h.1, num_setNum_ne _ _ hu, num_setNum_ne _ _ hu]

theorem grantStep_foldl (p : Nat) (l : List Nat) (c : Core) : PortOnly p c (l.foldl (grantStep p) c) ∧
    (l.foldl (grantStep p) c).out = c.out ∧
    (c.portOf p).GrantedAs ((l.foldl (grantStep p) c).portOf p) ∧
    ∀ u, (((l.foldl (grantStep p) c).portOf p).grant.num u, ((l.foldl (grantStep p) c).portOf p).freed.num u) =
      if u ∈ l ∧ c.grantHeld u = false then ((c.portOf p).grant.num u + (c.portOf p).freed.num u, 0)
      else ((c.portOf p).grant.num u, (c.portOf p).freed.num u) := by
  induction l generalizing c with
  | nil => exact ⟨PortOnly.refl p c, rfl, rfl, fun u => (if_neg (by simp)).symm⟩
  | cons v l ih =>
    obtain ⟨h1, o1, s1, n1⟩ := grantStep_facts c p v
    obtain ⟨h2, o2, s2, n2⟩ := ih (grantStep p c v)
    refine ⟨h1.trans h2, o2.trans o1, s1.trans s2, fun u => (n2 u).trans ?_⟩
    · simp only [h1.grantHeld, List.mem_cons]
      by_cases hheld : c.grantHeld u = false
      · by_cases huv : u = v
        · obtain ⟨hg, hf⟩ := Prod.mk.inj ((n1 u).trans (if_pos ⟨huv, hheld⟩))
          rw [hg, hf]
          simp [huv, huv ▸ hheld]
        · obtain ⟨hg, hf⟩ := Prod.mk.inj ((n1 u).trans (if_neg fun h => huv h.1))
          rw [hg, hf]
          simp [huv]
      · obtain ⟨hg, hf⟩ := Prod.mk.inj ((n1 u).trans (if_neg fun h => hheld h.2))
        rw [hg, hf]
        simp [hheld]

/-- The CREDIT cell of a port whose grants stand. -/
def creditCellOf (c : Core) (p : Nat) (lanes : Nat) : Cell :=
  let g := fun v => (c.portOf p).grant.num v % 4096
  mkCell Cy.credit 0 true false 0 1 (g 0 <<< 36 + g 1 <<< 24 + g 2 <<< 12 + g 3) [BitVec.ofNat 8 lanes]

theorem payload_mkCell (ty vc : Nat) (last poison : Bool) (tag plen arg : Nat) (data : List Byte) :
    (mkCell ty vc last poison tag plen arg data).payload = data ++ List.replicate (256 - data.length) 0 := rfl

theorem payload_creditCellOf (c : Core) (p lanes : Nat) : (creditCellOf c p lanes).payload.take 1 = [BitVec.ofNat 8 lanes] := by
  rw [creditCellOf, payload_mkCell]
  rfl

theorem emit_out (c : Core) (o : Out) : (c.emit o).out = c.out ++ [o] := rfl
theorem updPort_out (c : Core) (p : Nat) (f : HrPortState → HrPortState) : (c.updPort p f).out = c.out := rfl

theorem portOf_emit_updPort (c : Core) (p : Nat) (f : HrPortState → HrPortState) (o : Out) :
    ((c.updPort p f).emit o).portOf p = f (c.portOf p) := portOf_updPort_self c p f

theorem grantedAs_queueCells (s : HrPortState) (l : List (Nat × Cell)) : s.GrantedAs (s.queueCells l) := rfl
theorem queueCells_grant (s : HrPortState) (l : List (Nat × Cell)) : (s.queueCells l).grant = s.grant := rfl
theorem queueCells_freed (s : HrPortState) (l : List (Nat × Cell)) : (s.queueCells l).freed = s.freed := rfl

theorem creditSend_eq (hup : c.portUp p = true) : c.creditSend p =
    (((List.range 4).foldl (grantStep p) c).updPort p fun s =>
      s.queueCells [(Cy.credit, creditCellOf ((List.range 4).foldl (grantStep p) c) p (c.rxLanes p))]).emit
        (.cell p Cy.credit (creditCellOf ((List.range 4).foldl (grantStep p) c) p (c.rxLanes p))) := by
  rw [creditSend, if_neg (by rw [hup]; decide)]
  rfl

/-- A CREDIT cell sent. -/
theorem creditSend_facts (hup : c.portUp p = true) : PortOnly p c (c.creditSend p) ∧
    (c.portOf p).GrantedAs ((c.creditSend p).portOf p) ∧
    (∀ u, (((c.creditSend p).portOf p).grant.num u, ((c.creditSend p).portOf p).freed.num u) =
      if u < 4 ∧ c.grantHeld u = false then ((c.portOf p).grant.num u + (c.portOf p).freed.num u, 0)
      else ((c.portOf p).grant.num u, (c.portOf p).freed.num u)) ∧
    ∃ x, (c.creditSend p).out = c.out ++ [.cell p Cy.credit x] ∧ x.payload.take 1 = [BitVec.ofNat 8 (c.rxLanes p)] := by
  obtain ⟨h1, o1, s1, n1⟩ := grantStep_foldl p (List.range 4) c
  have hport : (c.creditSend p).portOf p = (((List.range 4).foldl (grantStep p) c).portOf p).queueCells
      [(Cy.credit, creditCellOf ((List.range 4).foldl (grantStep p) c) p (c.rxLanes p))] := by
    rw [creditSend_eq hup, portOf_emit_updPort]
  have honly : PortOnly p c (c.creditSend p) := by
    rw [creditSend_eq hup]
    exact (h1.trans (portOnly_updPort _ p _)).trans (portOnly_emit _ p _)
  have hout : (c.creditSend p).out =
      c.out ++ [.cell p Cy.credit (creditCellOf ((List.range 4).foldl (grantStep p) c) p (c.rxLanes p))] := by
    rw [creditSend_eq hup, emit_out, updPort_out, o1]
  refine ⟨honly, ?_, fun u => ?_, creditCellOf ((List.range 4).foldl (grantStep p) c) p (c.rxLanes p), hout,
    payload_creditCellOf _ p _⟩
  · rw [hport]
    exact s1.trans (grantedAs_queueCells _ _)
  · have hnum := n1 u
    simp only [List.mem_range] at hnum
    rw [hport, queueCells_grant, queueCells_freed, hnum]

theorem freedAs_creditSend (c : Core) (p : Nat) : PortOnly p c (c.creditSend p) ∧ (c.portOf p).FreedAs ((c.creditSend p).portOf p) := by
  by_cases hup : c.portUp p = true
  · obtain ⟨h, hs, hn, -⟩ := creditSend_facts hup
    refine ⟨h, hs, fun v => ?_⟩
    have hv := hn v
    rw [Prod.mk.injEq] at hv
    rw [hv.1, hv.2]
    split <;> rfl
  · have hstay : c.creditSend p = c := by
      rw [creditSend, if_pos (by simpa using hup)]
    rw [hstay]
    exact ⟨PortOnly.refl p c, HrPortState.FreedAs.refl _⟩

/-- Cells freed: the sum of grants and freed cells of the channel rises by them, and of no other. -/
theorem freeCells_facts (c : Core) (p v n : Nat) : PortOnly p c (c.freeCells p v n) ∧
    (c.portOf p).GrantedAs ((c.freeCells p v n).portOf p) ∧
    ∀ u, ((c.freeCells p v n).portOf p).grant.num u + ((c.freeCells p v n).portOf p).freed.num u =
      (c.portOf p).grant.num u + (c.portOf p).freed.num u + (if u = v then n else 0) := by
  have hupd := portOnly_updPort c p fun s => { s with freed := s.freed.setNum v (s.freed.num v + n) }
  have hport : (c.updPort p fun s => { s with freed := s.freed.setNum v (s.freed.num v + n) }).portOf p =
      { c.portOf p with freed := (c.portOf p).freed.setNum v ((c.portOf p).freed.num v + n) } := portOf_updPort_self c p _
  have hsum : ∀ u, (c.portOf p).grant.num u + ((c.portOf p).freed.setNum v ((c.portOf p).freed.num v + n)).num u =
      (c.portOf p).grant.num u + (c.portOf p).freed.num u + (if u = v then n else 0) := fun u => by
    by_cases hu : u = v
    · rw [hu, num_setNum_self, if_pos rfl, Nat.add_assoc]
    · rw [num_setNum_ne _ _ hu, if_neg hu, Nat.add_zero]
  unfold freeCells
  dsimp only
  split
  · obtain ⟨h, hs, hn⟩ := freedAs_creditSend (c.updPort p fun s => { s with freed := s.freed.setNum v (s.freed.num v + n) }) p
    refine ⟨hupd.trans h, ?_, fun u => ?_⟩
    · rw [hport] at hs
      exact HrPortState.GrantedAs.trans (y := { c.portOf p with freed := (c.portOf p).freed.setNum v ((c.portOf p).freed.num v + n) })
        rfl hs
    · rw [hn u, hport]
      exact hsum u
  · refine ⟨hupd, ?_, fun u => ?_⟩
    · rw [hport]
      rfl
    · rw [hport]
      exact hsum u

end Core
end Sys2Proof.Machine
end

section
/-! PROOFS. Cells that carry no request, the checks of cells, and credit (02_headrace_links.md R33, R36, R37, R39, R51 to R53). -/

namespace Sys2Proof.Machine

theorem formed_of_wf {ok : Bool} {t : State} (h : ok = true) : formed ok t = .next t := by rw [h]; rfl

namespace Core

variable {c d : Core} {p ty : Nat} {x : Cell} {k : Core → Core}

/-! ## Reception (R37) -/

theorem receive_bad_hcrc (hup : c.portUp p = true) (hbad : hcrcOk ty x = false) : c.receive p ty x k =
    ((c.flag (Obj.Port.FLAGS p) 4).inc (Obj.Port.HCRC_ERRORS p)).raise (Src.hrHcrc p) (ctxPortTag p x.tag.toNat) := by
  rw [receive, if_neg (by rw [hup]; decide), if_pos (by rw [hbad]; decide)]

theorem receive_idle (hup : c.portUp p = true) (hok : hcrcOk Cy.idle x = true) : c.receive p Cy.idle x k = c := by
  rw [receive, if_neg (by rw [hup]; decide), if_neg (by rw [hok]; decide), if_pos rfl]

theorem receive_credit (hup : c.portUp p = true) (hok : hcrcOk Cy.credit x = true) (hhead : headerOk Cy.credit x = true) :
    c.receive p Cy.credit x k = k c := by
  rw [receive, if_neg (by rw [hup]; decide), if_neg (by rw [hok]; decide), if_neg (by decide)]
  have hstay : (if (decide (x.vc.toNat = Vc.blk) && !(c.continues p Cy.credit x) && decide (Cy.credit ≠ Cy.credit)) = true
      then c.intrude p else c) = c := if_neg (by simp)
  dsimp only
  rw [hstay, if_neg (by rw [hhead]; decide), if_pos rfl]

/-- A cell that passes the checks takes its place in the buffer. -/
theorem receive_of_receives (hrec : c.receives p ty x = true) (hty : ty ≠ Cy.idle) (hty' : ty ≠ Cy.credit)
    (hpart : (c.portOf p).partialWrite = none) : c.receive p ty x k = k (c.tookCredit p (typeVc ty)) := by
  simp only [receives, Bool.and_eq_true, Bool.not_eq_true'] at hrec
  obtain ⟨⟨⟨hup, hcrc⟩, hhead⟩, hcredit⟩ := hrec
  have hintrude : c.intrude p = c := by rw [intrude, hpart]
  rw [receive, if_neg (by rw [hup]; decide), if_neg (by rw [hcrc]; decide), if_neg hty]
  dsimp only
  rw [hintrude, ite_self, if_neg (by rw [hhead]; decide), if_neg hty', if_neg (by rw [hcredit]; decide)]

/-! ## A CREDIT cell (R33, R51, R53) -/

/-- The port with what a CREDIT cell says. -/
def credited (s : HrPortState) (x : Cell) : HrPortState :=
  let a := x.arg.toNat
  let rx := (ofBytes (x.payload.take 1)) % 16
  { s with
    creditSeen := true, farRx := rx,
    wantTx := maskOf 4 fun l => s.wantTx.testBit l && !(s.farRx.testBit l && !(rx.testBit l)),
    cum := (((s.cum.setNum 0 (field 47 36 a)).setNum 1 (field 35 24 a)).setNum 2 (field 23 12 a)).setNum 3 (field 11 0 a) }

theorem creditCell_eq (hup : c.portUp p = true) (hok : hcrcOk Cy.credit x = true) (hhead : headerOk Cy.credit x = true)
    (hcrc : pcrcOk x = true) : c.creditCell p x = (c.updPort p fun s => credited s x).pump p := by
  rw [creditCell, receive_credit hup hok hhead, if_neg (by rw [hcrc]; decide)]
  rfl

theorem credited_cum (s : HrPortState) (x : Cell) : (credited s x).cum.num 0 = field 47 36 x.arg.toNat ∧
    (credited s x).cum.num 1 = field 35 24 x.arg.toNat ∧ (credited s x).cum.num 2 = field 23 12 x.arg.toNat ∧
    (credited s x).cum.num 3 = field 11 0 x.arg.toNat := by
  refine ⟨?_, ?_, ?_, num_setNum_self _ _ _⟩
  · exact (num_setNum_ne _ _ (by decide)).trans ((num_setNum_ne _ _ (by decide)).trans
      ((num_setNum_ne _ _ (by decide)).trans (num_setNum_self _ _ _)))
  · exact (num_setNum_ne _ _ (by decide)).trans ((num_setNum_ne _ _ (by decide)).trans (num_setNum_self _ _ _))
  · exact (num_setNum_ne _ _ (by decide)).trans (num_setNum_self _ _ _)

/-! ## A port restarts (R33, R34, R53) -/

/-- A lane mask written. -/
theorem putLanes_get (c : Core) (p k m : Nat) {o : Nat} (hk : o ≠ k) (hf : o ≠ Obj.Port.FLAGS p) :
    (c.putLanes p k m).get o = c.get o := by
  unfold putLanes
  split
  · rfl
  · rw [get_put_ne _ _ hk, get_flag_ne _ _ hf]

theorem putLanes_self (c : Core) (p k m : Nat) : (c.putLanes p k m).get k = m := by
  unfold putLanes
  split
  · next h => exact h.symm
  · exact get_put_self _ _ _

theorem putLanes_flag (c : Core) {p k : Nat} (m : Nat) {n : Nat} (hk : Obj.Port.FLAGS p ≠ k)
    (h : c.bitOf (Obj.Port.FLAGS p) n = true) : (c.putLanes p k m).bitOf (Obj.Port.FLAGS p) n = true := by
  unfold putLanes
  split
  · exact h
  · rw [bitOf_congr n (get_put_ne _ _ hk)]
    exact bitOf_flag_of_bitOf 10 h

theorem putLanes_changed (c : Core) {p k m : Nat} (hk : Obj.Port.FLAGS p ≠ k) (h : m ≠ c.get k) :
    (c.putLanes p k m).bitOf (Obj.Port.FLAGS p) 10 = true := by
  rw [putLanes, if_neg h, bitOf_congr 10 (get_put_ne _ _ hk)]
  exact bitOf_flag_self _ _ 10

theorem putLanes_objs (c : Core) (p k m : Nat) : c.ObjsOnly (c.putLanes p k m) := by
  unfold putLanes
  split
  · rfl
  · exact (objsOnly_put c _ _).trans (objsOnly_put _ _ _)

theorem ObjsOnly.portOf (h : c.ObjsOnly d) (q : Nat) : d.portOf q = c.portOf q := by
  rw [h]
  rfl

theorem portBegin_eq (c : Core) (p : Nat) : c.portBegin p =
    ((((c.updPort p HrPortState.over).put (Obj.Port.PORT_STATE p) (if c.portWanted p then 1 else 0)).putLanes p
      (Obj.Port.LANE_MASK_TX p) 0).putLanes p (Obj.Port.LANE_MASK_RX p) 0) := rfl

/-- What bring-up leaves of the hub. -/
theorem portBegin_kept (c : Core) (p : Nat) : (c.updPort p HrPortState.over).ObjsOnly (c.portBegin p) := by
  rw [portBegin_eq]
  exact ((objsOnly_put _ _ _).trans (putLanes_objs _ _ _ _)).trans (putLanes_objs _ _ _ _)

theorem portBegin_portOf (c : Core) (p : Nat) : (c.portBegin p).portOf p = (c.portOf p).over := by
  rw [(portBegin_kept c p).portOf, portOf_updPort_self]

theorem portBegin_get (c : Core) (p : Nat) {o : Nat} (h1 : o ≠ Obj.Port.PORT_STATE p) (h2 : o ≠ Obj.Port.LANE_MASK_TX p)
    (h3 : o ≠ Obj.Port.LANE_MASK_RX p) (h4 : o ≠ Obj.Port.FLAGS p) : (c.portBegin p).get o = c.get o := by
  rw [portBegin_eq, putLanes_get _ _ _ _ h3 h4, putLanes_get _ _ _ _ h2 h4, get_put_ne _ _ h1]
  exact (portOnly_updPort c p _).get o

theorem portBegin_state (c : Core) (p : Nat) : (c.portBegin p).portState p = (if c.portWanted p then 1 else 0) := by
  rw [portState, portBegin_eq, putLanes_get _ _ _ _ (by simp) (by simp), putLanes_get _ _ _ _ (by simp) (by simp), get_put_self]

theorem portBegin_lanes (c : Core) (p : Nat) : (c.portBegin p).get (Obj.Port.LANE_MASK_TX p) = 0 ∧
    (c.portBegin p).get (Obj.Port.LANE_MASK_RX p) = 0 := by
  refine ⟨?_, putLanes_self _ _ _ _⟩
  rw [portBegin_eq, putLanes_get _ _ _ _ (by simp) (by simp), putLanes_self]

theorem portBegin_flag (c : Core) (p : Nat) {n : Nat} (h : c.bitOf (Obj.Port.FLAGS p) n = true) :
    (c.portBegin p).bitOf (Obj.Port.FLAGS p) n = true := by
  rw [portBegin_eq]
  refine putLanes_flag _ _ (by simp) (putLanes_flag _ _ (by simp) ?_)
  rw [bitOf_congr n (get_put_ne _ _ (by simp)), (portOnly_updPort c p _).bitOf, h]

/-- A port that is UP restarts: the quiet window opens, and bring-up starts at step 1. -/
theorem restartPort_up {before : Nat} (hup : c.portUp p = true) :
    c.restartPort p before = (c.openWindow 3 p (if before < c.fc.seq then c.fc.seq else 0)).leaveUp p := by
  rw [restartPort, if_pos hup]

/-- The port out of UP, before its jobs halt. -/
def leftUp (c : Core) (p : Nat) : Core := (c.portBegin p).updSession (0xFF00 + p) fun _ => Session.closed

theorem leaveUp_eq (c : Core) (p : Nat) : c.leaveUp p = ((c.leftUp p).jobsOn p).foldl (fun c j => c.haltJob j 1) (c.leftUp p) := rfl

theorem leftUp_get (c : Core) (p o : Nat) : (c.leftUp p).get o = (c.portBegin p).get o := rfl
theorem leftUp_portOf (c : Core) (p q : Nat) : (c.leftUp p).portOf q = (c.portBegin p).portOf q := rfl

theorem leftUp_session (c : Core) (p : Nat) : ((c.leftUp p).sessionOf (0xFF00 + p)).isOpen = false := by
  rw [leftUp, sessionOf_updSession_self]
  rfl

theorem leftUp_state (c : Core) (p : Nat) : (c.leftUp p).get (Obj.Port.PORT_STATE p) = (if c.portWanted p then 1 else 0) := by
  rw [leftUp_get, ← portState, portBegin_state]

theorem leftUp_flag (c : Core) (p : Nat) {n : Nat} (h : c.bitOf (Obj.Port.FLAGS p) n = true) :
    (c.leftUp p).bitOf (Obj.Port.FLAGS p) n = true := by
  rw [bitOf_congr n (leftUp_get c p _), portBegin_flag c p h]

/-- With no job running none halts. -/
theorem leaveUp_idle (hp : p < 8) (h : ∀ j < 32, c.get (Obj.Job.STATE j) ≠ 1) : c.leaveUp p = c.leftUp p := by
  have hidle : ∀ j < 32, (c.leftUp p).get (Obj.Job.STATE j) ≠ 1 := fun j hj => by
    rw [leftUp_get, portBegin_get (o := Obj.Job.STATE j) _ _ (by simp; omega) (by simp; omega) (by simp; omega) (by simp; omega)]
    exact h j hj
  have hmem : ∀ l : List Nat, (∀ j ∈ l, j < 32) → l.foldl (fun c j => c.haltJob j 1) (c.leftUp p) = c.leftUp p := by
    intro l
    induction l with
    | nil => exact fun _ => rfl
    | cons j l ih =>
      intro hl
      rw [List.foldl_cons, haltJob, if_pos (hidle j (hl j List.mem_cons_self))]
      exact ih fun i hi => hl i (List.mem_cons_of_mem j hi)
  rw [leaveUp_eq]
  exact hmem _ fun j hj => List.mem_range.1 (List.mem_of_mem_filter hj)

end Core

/-! ## The obligation -/

variable {s : State} {p : Port} {x : Cell}

theorem receive_badHcrc_facts (c : Core) (p : Port) {ty : Nat} (k : Core → Core) (hup : c.portUp p.val = true)
    (hbad : hcrcOk ty x = false) : c.Raises (Src.hrHcrc p.val) (c.receive p.val ty x k) ∧
      ((c.flag (Obj.Port.FLAGS p.val) 4).inc (Obj.Port.HCRC_ERRORS p.val)).FcOnly (c.receive p.val ty x k) := by
  have hsource : ∀ i : Fin 8, (sourceInfo? (Src.hrHcrc i.val)).isNone = false := by decide +kernel
  rw [Core.receive_bad_hcrc hup hbad]
  refine ⟨Core.raises_of_raise _ (hsource p) rfl ?_, Core.fcOnly_raise _ _ _⟩
  rw [Core.get_inc_ne _ (by simp; omega), Core.get_flag_ne _ _ (by simp; omega)]

theorem cells_badHcrc {i : Instr} {ty : Nat} (k : Core → Core → Core)
    (hi : exec i s = formed x.wf (s.onPower fun c => c.receive p.val ty x (k c)))
    (hu : s.core.seqUp = true) (hwf : x.wf = true) (hup : s.core.portUp p.val = true) (hbad : hcrcOk ty x = false) :
    AnswersThen i s fun c => s.core.Raises (Src.hrHcrc p.val) c ∧
      ((s.clear.core.flag (Obj.Port.FLAGS p.val) 4).inc (Obj.Port.HCRC_ERRORS p.val)).FcOnly c :=
  answersThen_onPower (fun c => c.receive p.val ty x (k c)) (hi.trans (formed_of_wf hwf)) hu
    (receive_badHcrc_facts s.clear.core p (k s.clear.core) hup hbad)

theorem cells_credit (hu : s.core.seqUp = true) (hwf : x.wf = true) (hup : s.core.portUp p.val = true)
    (hok : hcrcOk Cy.credit x = true) (hhead : headerOk Cy.credit x = true) (hcrc : pcrcOk x = true) :
    AnswersCore (.creditCell p x) s fun c =>
      (c.portOf p.val).creditSeen = true ∧ (c.portOf p.val).cum.num 0 = field 47 36 x.arg.toNat ∧
      (c.portOf p.val).cum.num 1 = field 35 24 x.arg.toNat ∧ (c.portOf p.val).cum.num 2 = field 23 12 x.arg.toNat ∧
      (c.portOf p.val).cum.num 3 = field 11 0 x.arg.toNat ∧ (c.portOf p.val).farRx = ofBytes (x.payload.take 1) % 16 ∧
      ∀ k, c.get k = s.core.get k := by
  have hcell := Core.creditCell_eq (c := s.clear.core) hup hok hhead hcrc
  obtain ⟨honly, hsent, -⟩ := Core.pump_facts (s.clear.core.updPort p.val fun s => Core.credited s x) p.val
  have hall := (Core.portOnly_updPort s.clear.core p.val fun s => Core.credited s x).trans honly
  rw [Core.portOf_updPort_self] at hsent
  obtain ⟨h0, h1, h2, h3⟩ := Core.credited_cum (s.clear.core.portOf p.val) x
  have hi : exec (.creditCell p x) s = formed x.wf (s.onPower fun c => c.creditCell p.val x) := rfl
  refine answersCore_onPower (fun c => c.creditCell p.val x) (hi.trans (formed_of_wf hwf)) hu ?_ ?_
  · rw [hcell, hall.req]
    rfl
  · rw [hcell, hsent]
    exact ⟨rfl, h0, h1, h2, h3, rfl, hall.get⟩

theorem cells_creditSend (hu : s.core.seqUp = true) (hup : s.core.portUp p.val = true) :
    AnswersCore (.creditSend p) s fun c =>
      (∀ v < 4, s.core.grantHeld v = false →
        (c.portOf p.val).grant.num v = (s.core.portOf p.val).grant.num v + (s.core.portOf p.val).freed.num v ∧
        (c.portOf p.val).freed.num v = 0) ∧
      (∀ v < 4, s.core.grantHeld v = true →
        (c.portOf p.val).grant.num v = (s.core.portOf p.val).grant.num v ∧
        (c.portOf p.val).freed.num v = (s.core.portOf p.val).freed.num v) ∧
      (∃ x, c.out = [.cell p.val Cy.credit x] ∧ x.payload.take 1 = [BitVec.ofNat 8 (s.core.rxLanes p.val)]) ∧
      ∀ k, c.get k = s.core.get k := by
  obtain ⟨honly, -, hnum, y, hout, hlanes⟩ := Core.creditSend_facts (c := s.clear.core) hup
  refine answersCore_onPower (fun c => c.creditSend p.val) rfl hu honly.req
    ⟨fun v hv hheld => ?_, fun v hv hheld => ?_, ⟨y, hout, hlanes⟩, honly.get⟩
  · exact Prod.mk.inj ((hnum v).trans (if_pos ⟨hv, hheld⟩))
  · exact Prod.mk.inj ((hnum v).trans (if_neg fun h => absurd (hheld.symm.trans h.2) (by decide)))

namespace Core

variable {c d : Core}

/-- A keepalive that is lost, before the port restarts: its flag and its event. -/
def keepaliveEvent (c : Core) (p : Nat) : Core := (c.flag (Obj.Port.FLAGS p) 11).raise (Src.hrKeepalive p) (ctxPortTag p 0)

theorem keepaliveEvent_get (c : Core) (p : Nat) {o : Nat} (h1 : ¬ (0x480000 ≤ o ∧ o < 0x500000)) (h2 : o ≠ Obj.Port.FLAGS p) :
    (c.keepaliveEvent p).get o = c.get o := by
  rw [keepaliveEvent, get_raise _ _ _ h1, get_flag_ne _ _ h2]

theorem keepaliveEvent_flag (c : Core) (p : Port) : (c.keepaliveEvent p.val).bitOf (Obj.Port.FLAGS p.val) 11 = true := by
  rw [keepaliveEvent, bitOf_congr 11 (get_raise _ _ _ (by simp; omega))]
  exact bitOf_flag_self _ _ 11

theorem keepaliveEvent_portOf (c : Core) (p q : Nat) : (c.keepaliveEvent p).portOf q = c.portOf q := portOf_raise _ _ _ _

theorem keepaliveEvent_raises (c : Core) (p : Port) : c.Raises (Src.hrKeepalive p.val) (c.keepaliveEvent p.val) := by
  have hsource : ∀ i : Fin 8, (sourceInfo? (Src.hrKeepalive i.val)).isNone = false := by decide +kernel
  exact raises_of_raise _ (hsource p) rfl (get_flag_ne _ _ (by simp; omega))

theorem keepaliveEvent_up (c : Core) (p : Port) : (c.keepaliveEvent p.val).portUp p.val = c.portUp p.val := by
  rw [portUp, portState, keepaliveEvent_get _ _ (by simp; omega) (by simp), ← portState, ← portUp]

theorem portWanted_congr (hen : d.get Obj.Hr.PORT_ENABLE = c.get Obj.Hr.PORT_ENABLE)
    (hdev : d.get Obj.Dev.DEVICE_STATE = c.get Obj.Dev.DEVICE_STATE) (p : Nat) : d.portWanted p = c.portWanted p := by
  rw [portWanted, bitOf_congr p hen, dev, hdev, ← dev, ← portWanted]

theorem openWindow_get (c : Core) (k i n o : Nat) : (c.openWindow k i n).get o = c.get o := rfl
theorem openWindow_portOf (c : Core) (k i n p : Nat) : (c.openWindow k i n).portOf p = c.portOf p := rfl

/-- A lost keepalive of a port that is UP, with no job running. -/
theorem keepaliveLost_eq {p : Port} (hup : c.portUp p.val = true) (h : ∀ j < 32, c.get (Obj.Job.STATE j) ≠ 1) :
    ∃ n, c.keepaliveLost p.val = ((c.keepaliveEvent p.val).openWindow 3 p.val n).leftUp p.val := by
  refine ⟨if c.fc.seq < (c.keepaliveEvent p.val).fc.seq then (c.keepaliveEvent p.val).fc.seq else 0, ?_⟩
  rw [keepaliveLost, if_neg (by rw [hup]; decide), ← keepaliveEvent,
    restartPort_up ((keepaliveEvent_up c p).trans hup), leaveUp_idle p.isLt]
  intro j hj
  rw [openWindow_get, keepaliveEvent_get _ _ (by simp; omega) (by simp; omega)]
  exact h j hj

end Core

theorem cells_keepalive (hu : s.core.seqUp = true) (hup : s.core.portUp p.val = true)
    (hjobs : ∀ j < 32, s.core.get (Obj.Job.STATE j) ≠ 1) : AnswersThen (.keepaliveLost p) s fun c =>
      c.get (Obj.Port.PORT_STATE p.val) = (if s.core.portWanted p.val then 1 else 0) ∧
      c.bitOf (Obj.Port.FLAGS p.val) 11 = true ∧ s.core.Raises (Src.hrKeepalive p.val) c ∧
      c.portOf p.val = (s.core.portOf p.val).over ∧ (c.sessionOf (0xFF00 + p.val)).isOpen = false := by
  obtain ⟨n, hlost⟩ := Core.keepaliveLost_eq (c := s.clear.core) hup hjobs
  have hwanted : ((s.clear.core.keepaliveEvent p.val).openWindow 3 p.val n).portWanted p.val = s.clear.core.portWanted p.val :=
    Core.portWanted_congr (Core.keepaliveEvent_get _ _ (by decide) (by simp; omega))
      (Core.keepaliveEvent_get _ _ (by decide) (by simp; omega)) _
  refine answersThen_onPower (fun c => c.keepaliveLost p.val) rfl hu ?_
  rw [hlost]
  refine ⟨?_, ?_, ?_, ?_, ?_⟩
  · rw [Core.leftUp_state, hwanted]
    rfl
  · exact Core.leftUp_flag _ _ ((Core.bitOf_congr 11 (Core.openWindow_get _ _ _ _ _)).trans (Core.keepaliveEvent_flag _ p))
  · refine (Core.keepaliveEvent_raises s.clear.core p).of_get ?_
    rw [Core.leftUp_get, Core.portBegin_get _ _ (by simp; omega) (by simp; omega) (by simp; omega) (by simp; omega),
      Core.openWindow_get]
  · rw [Core.leftUp_portOf, Core.portBegin_portOf, Core.openWindow_portOf, Core.keepaliveEvent_portOf]
    rfl
  · exact Core.leftUp_session _ _

/-- Settles O22: an IDLE cell, a bad HCRC, a CREDIT cell received and sent, and a keepalive that is lost. -/
theorem cellChecks : Obligations.CellChecks := by
  unfold Obligations.CellChecks
  refine ⟨fun s p x hu hwf hup hok => ?_, fun s p x f ty hf hu hwf hup hbad => ?_, fun s p x => cells_credit,
    fun s p => cells_creditSend, fun s p => cells_keepalive⟩
  · have hi : exec (.idleCell p x) s = formed x.wf (s.onPower fun c => c.idleCell p.val x) := rfl
    have hidle : s.clear.core.idleCell p.val x = s.clear.core := Core.receive_idle (c := s.clear.core) hup hok
    exact answersCore_onPower (fun c => c.idleCell p.val x) (hi.trans (formed_of_wf hwf)) hu (by rw [hidle]; rfl) hidle
  · simp only [List.mem_cons, Prod.mk.injEq, List.not_mem_nil, or_false] at hf
    rcases hf with ⟨rfl, rfl⟩ | ⟨rfl, rfl⟩ | ⟨rfl, rfl⟩ | ⟨rfl, rfl⟩ | ⟨rfl, rfl⟩ | ⟨rfl, rfl⟩ | ⟨rfl, rfl⟩ | ⟨rfl, rfl⟩ | ⟨rfl, rfl⟩
    all_goals exact cells_badHcrc _ rfl hu hwf hup hbad

end Sys2Proof.Machine
end

section
/-! PROOFS. What a request to a controller changes, and what stands below the regions' objects (07_memory_controller.md R21, R168,
R183 to R186). -/

namespace Sys2Proof.Machine

/-- A key of a subchannel or of Sluice. -/
abbrev isMemKey (k : Nat) : Prop := isSluiceKey k ∨ 0x600000 ≤ k

namespace Core

variable {c d e : Core} {n : Nat}

/-- `d` differs from `c` in memory controllers, the wire, Sluice and the order of self-refresh exits alone. -/
def MemOnly (c d : Core) : Prop :=
  d = { c with objs := d.objs, mc := d.mc, ddr := d.ddr, out := d.out, sluice := d.sluice, srQueue := d.srQueue } ∧
    ∀ k, ¬ isMemKey k → d.get k = c.get k

theorem MemOnly.refl (c : Core) : c.MemOnly c := ⟨rfl, fun _ _ => rfl⟩

theorem MemOnly.trans (h : c.MemOnly d) (h' : d.MemOnly e) : c.MemOnly e := by
  obtain ⟨h1, h2⟩ := h
  obtain ⟨h3, h4⟩ := h'
  exact ⟨by rw [h3, h1], fun k hk => (h4 k hk).trans (h2 k hk)⟩

theorem memOnly_ite {b : Prop} [Decidable b] {x y : Core} (hx : c.MemOnly x) (hy : c.MemOnly y) : c.MemOnly (if b then x else y) := by
  split
  · exact hx
  · exact hy

theorem memOnly_foldl {α : Type} (l : List α) {f : Core → α → Core} (hf : ∀ (c : Core) (a : α), c.MemOnly (f c a)) (c : Core) :
    c.MemOnly (l.foldl f c) := by
  induction l generalizing c with
  | nil => exact MemOnly.refl c
  | cons a l ih => exact (hf c a).trans (ih _)

section
variable (h : c.MemOnly d)
include h

theorem MemOnly.get {k : Nat} (hk : ¬ isMemKey k) : d.get k = c.get k := h.2 k hk
theorem MemOnly.bitOf {k : Nat} (hk : ¬ isMemKey k) (i : Nat) : d.bitOf k i = c.bitOf k i := bitOf_congr i (h.2 k hk)
theorem MemOnly.isSet {k : Nat} (hk : ¬ isMemKey k) : d.isSet k = c.isSet k := by rw [Core.isSet, h.2 k hk, Core.isSet]
theorem MemOnly.req : d.req = c.req := by rw [h.1]
theorem MemOnly.tick : d.tick = c.tick := by rw [h.1]
theorem MemOnly.hubTime : d.hubTime = c.hubTime := by rw [h.1]
theorem MemOnly.fc : d.fc = c.fc := by rw [h.1]
theorem MemOnly.hr : d.hr = c.hr := by rw [h.1]
theorem MemOnly.jobs : d.jobs = c.jobs := by rw [h.1]
theorem MemOnly.streams : d.streams = c.streams := by rw [h.1]
theorem MemOnly.rings : d.rings = c.rings := by rw [h.1]
theorem MemOnly.wins : d.wins = c.wins := by rw [h.1]
theorem MemOnly.ctxs : d.ctxs = c.ctxs := by rw [h.1]
theorem MemOnly.cache : d.cache = c.cache := by rw [h.1]
theorem MemOnly.throttled : d.throttled = c.throttled := by rw [h.1]
theorem MemOnly.overHigh : d.overHigh = c.overHigh := by rw [h.1]
theorem MemOnly.portOf (p : Nat) : d.portOf p = c.portOf p := by rw [Core.portOf, Core.portOf, h.hr]
theorem MemOnly.streamOf (p : Nat) : d.streamOf p = c.streamOf p := by rw [Core.streamOf, Core.streamOf, h.streams]
theorem MemOnly.ringOf (p : Nat) : d.ringOf p = c.ringOf p := by rw [Core.ringOf, Core.ringOf, h.rings]
theorem MemOnly.winOf (p : Nat) : d.winOf p = c.winOf p := by rw [Core.winOf, Core.winOf, h.wins]
theorem MemOnly.ctxOf (p : Nat) : d.ctxOf p = c.ctxOf p := by rw [Core.ctxOf, Core.ctxOf, h.ctxs]
theorem MemOnly.jobOf (p : Nat) : d.jobOf p = c.jobOf p := by rw [Core.jobOf, Core.jobOf, h.jobs]
theorem MemOnly.scOf (ha : Nat) : d.scOf ha = c.scOf ha := by
  rw [Core.scOf, Core.dramOf, Core.addrMap, h.get (by simp only [isMemKey, isSluiceKey]; decide), Core.scOf, Core.dramOf, Core.addrMap]

end

theorem RankOnly.memOnly (h : RankOnly n c d) : c.MemOnly d := by
  refine ⟨by rw [h.1], fun k hk => h.2 k ?_ ?_⟩ <;> exact fun hn => hk (.inr (by rw [hn]; simp; omega))

theorem SluiceOnly.memOnly (h : c.SluiceOnly d) : c.MemOnly d := ⟨by rw [h.1], fun k hk => h.2 k fun hs => hk (.inl hs)⟩

theorem memOnly_updMc (c : Core) (n : Nat) (f : McState → McState) : c.MemOnly (c.updMc n f) := ⟨rfl, fun _ _ => rfl⟩
theorem memOnly_setMc (c : Core) (n : Nat) (m : McState) : c.MemOnly (c.setMc n m) := ⟨rfl, fun _ _ => rfl⟩

/-- A request for subchannel n leaves every request that waits at a controller. -/
def KeepsArriving (c d : Core) : Prop := ∀ i r, r ∈ (c.mcOf i).arriving → r ∈ (d.mcOf i).arriving

theorem KeepsArriving.refl (c : Core) : c.KeepsArriving c := fun _ _ h => h
theorem KeepsArriving.trans (h : c.KeepsArriving d) (h' : d.KeepsArriving e) : c.KeepsArriving e := fun i r hr => h' i r (h i r hr)

theorem keepsArriving_of_mc (h : d.mc = c.mc) : c.KeepsArriving d := fun i r hr => by
  rw [Core.mcOf, h]
  exact hr

theorem keepsArriving_setMc (c : Core) (n : Nat) {m : McState} (hm : ∀ r ∈ (c.mcOf n).arriving, r ∈ m.arriving) :
    c.KeepsArriving (c.setMc n m) := fun i r hr => by
  by_cases hi : i = n
  · subst hi
    rw [mcOf_setMc_self]
    exact hm r hr
  · rw [mcOf_setMc_ne _ _ hi]
    exact hr

theorem keepsArriving_updMc (c : Core) (n : Nat) {f : McState → McState} (hf : ∀ r ∈ (c.mcOf n).arriving, r ∈ (f (c.mcOf n)).arriving) :
    c.KeepsArriving (c.updMc n f) := keepsArriving_setMc c n hf

theorem keepsArriving_ite {b : Prop} [Decidable b] {x y : Core} (hx : c.KeepsArriving x) (hy : c.KeepsArriving y) :
    c.KeepsArriving (if b then x else y) := by
  split
  · exact hx
  · exact hy

/-! ## Waking (R183 to R186) -/

theorem keepsArriving_pdExit (c : Core) (n pr : Nat) : c.KeepsArriving (c.pdExit n pr) := by
  have hbase : c.KeepsArriving (((c.updMc n fun m => { m with wakeDue := setBitTo pr false m.wakeDue }).putBit (Obj.Sc.PD_MASK n) pr
      false).order n (.pdExit pr)) :=
    (keepsArriving_updMc c n (f := fun m => { m with wakeDue := setBitTo pr false m.wakeDue }) fun _ h => h).trans (keepsArriving_of_mc rfl)
  unfold pdExit
  exact keepsArriving_ite (hbase.trans (keepsArriving_of_mc rfl)) hbase

theorem keepsArriving_wakeRank (c : Core) (n pr : Nat) : c.KeepsArriving (c.wakeRank n pr) := by
  have hbase := keepsArriving_updMc c n (f := fun m => { m with pdBack := setBitTo pr false m.pdBack }) fun _ h => h
  unfold wakeRank
  refine keepsArriving_ite (keepsArriving_ite (hbase.trans ?_) (hbase.trans (keepsArriving_pdExit _ n pr))) hbase
  exact keepsArriving_updMc _ n fun _ h => h

theorem demandExit_facts (c : Core) (n : Nat) : c.MemOnly (c.demandExit n) ∧ c.KeepsArriving (c.demandExit n) := by
  unfold demandExit
  split
  · exact ⟨MemOnly.refl c, KeepsArriving.refl c⟩
  · have hupd := keepsArriving_updMc c n (f := fun m => { m with srExiting := true }) fun _ h => h
    exact ⟨⟨rfl, fun _ _ => rfl⟩, hupd.trans (keepsArriving_of_mc rfl)⟩

theorem abandonEntry_facts (c : Core) (n : Nat) : c.MemOnly (c.abandonEntry n) ∧ c.KeepsArriving (c.abandonEntry n) := by
  have hset : ∀ m : McState, m.arriving = (c.mcOf n).arriving → c.MemOnly (c.setMc n m) ∧ c.KeepsArriving (c.setMc n m) :=
    fun m hm => ⟨memOnly_setMc c n m, keepsArriving_setMc c n fun r hr => hm ▸ hr⟩
  obtain ⟨h1, k1⟩ := hset { c.mcOf n with srEntering := false, srAt := 0, srWhy := 0 } rfl
  obtain ⟨h2, k2⟩ := hset { c.mcOf n with srEntering := false, srAt := 0 } rfl
  unfold abandonEntry
  dsimp only
  refine ⟨memOnly_ite (memOnly_ite (h1.trans (sluiceOnly_release _ _ _).memOnly) h1) h2, ?_⟩
  exact keepsArriving_ite (keepsArriving_ite (k1.trans (keepsArriving_of_mc (sluiceOnly_release _ _ _).mc)) k1) k2

theorem stir_facts (c : Core) (n : Nat) : c.MemOnly (c.stir n) ∧ c.KeepsArriving (c.stir n) := by
  obtain ⟨h1, k1⟩ := demandExit_facts c n
  obtain ⟨h2, k2⟩ := abandonEntry_facts c n
  unfold stir
  exact ⟨memOnly_ite (memOnly_ite h1 (.refl c)) (memOnly_ite h2 (.refl c)),
    keepsArriving_ite (keepsArriving_ite k1 (.refl c)) (keepsArriving_ite k2 (.refl c))⟩

/-! ## A request reaches the FIFO (R21, R168) -/

theorem mem_push (m : McState) (r x : Req64) : x ∈ (m.push r).arriving ↔ x ∈ m.arriving ∨ x = r := by
  unfold McState.push McState.arriving
  split
  · next h =>
    have hs : m.stalled = [] := List.isEmpty_iff.1 (Bool.and_eq_true_iff.1 h).1
    simp [hs]
  · simp [or_assoc]

/-- The request stands at its controller, and nothing that waits there goes. -/
theorem request_facts (c : Core) (r : Req64) : c.MemOnly (c.request r) ∧ c.KeepsArriving (c.request r) ∧
    { r with t := c.tick } ∈ ((c.request r).mcOf (c.scOf r.ha)).arriving := by
  obtain ⟨h1, k1⟩ := stir_facts (c.updMc (c.scOf r.ha) fun m => m.push { r with t := c.tick }) (c.scOf r.ha)
  have h2 := rankOnly_wakeRank ((c.updMc (c.scOf r.ha) fun m => m.push { r with t := c.tick }).stir (c.scOf r.ha)) (c.scOf r.ha)
    ((c.dramOf r.ha).lr / 4)
  have k2 := keepsArriving_wakeRank ((c.updMc (c.scOf r.ha) fun m => m.push { r with t := c.tick }).stir (c.scOf r.ha)) (c.scOf r.ha)
    ((c.dramOf r.ha).lr / 4)
  refine ⟨((memOnly_updMc c _ _).trans h1).trans h2.memOnly, ?_, ?_⟩
  · exact ((keepsArriving_updMc c _ fun x hx => (mem_push _ _ x).2 (.inl hx)).trans k1).trans k2
  · refine k2 _ _ (k1 _ _ ?_)
    rw [updMc, mcOf_setMc_self]
    exact (mem_push _ _ _).2 (.inr rfl)

theorem memOnly_request (c : Core) (r : Req64) : c.MemOnly (c.request r) := (request_facts c r).1

end Core
end Sys2Proof.Machine
end

section
/-! PROOFS. A job that halts or ends leaves the ports and every object below the regions (06_tailrace_drain_scanout.md R149, R156;
04_weir_retention.md R116, R118). -/

namespace Sys2Proof.Machine

namespace Core

variable {c d e : Core}

/-- `d` has the ports of `c` and its objects below the regions. -/
def PortsKept (c d : Core) : Prop := d.hr = c.hr ∧ ∀ k, k < 0x230000 → d.get k = c.get k

theorem PortsKept.refl (c : Core) : c.PortsKept c := ⟨rfl, fun _ _ => rfl⟩
theorem PortsKept.trans (h : c.PortsKept d) (h' : d.PortsKept e) : c.PortsKept e :=
  ⟨h'.1.trans h.1, fun k hk => (h'.2 k hk).trans (h.2 k hk)⟩

theorem PortsKept.get (h : c.PortsKept d) {k : Nat} (hk : k < 0x230000) : d.get k = c.get k := h.2 k hk
theorem PortsKept.portOf (h : c.PortsKept d) (p : Nat) : d.portOf p = c.portOf p := by rw [Core.portOf, Core.portOf, h.1]
theorem PortsKept.hrLane (h : c.PortsKept d) (p l : Nat) : d.hrLane p l = c.hrLane p l := by rw [Core.hrLane, Core.hrLane, h.portOf]

theorem portsKept_ite {b : Prop} [Decidable b] {x y : Core} (hx : c.PortsKept x) (hy : c.PortsKept y) :
    c.PortsKept (if b then x else y) := by
  split
  · exact hx
  · exact hy

theorem portsKept_foldl {α : Type} (l : List α) {f : Core → α → Core} (hf : ∀ (c : Core) (a : α), c.PortsKept (f c a)) (c : Core) :
    c.PortsKept (l.foldl f c) := by
  induction l generalizing c with
  | nil => exact PortsKept.refl c
  | cons a l ih => exact (hf c a).trans (ih _)

theorem portsKept_put (c : Core) {k : Nat} (v : Nat) (hk : 0x230000 ≤ k) : c.PortsKept (c.put k v) :=
  ⟨rfl, fun i hi => get_put_ne c v (by omega)⟩

theorem portsKept_flag (c : Core) {k : Nat} (n : Nat) (hk : 0x230000 ≤ k) : c.PortsKept (c.flag k n) := portsKept_put c _ hk
theorem portsKept_inc (c : Core) {k : Nat} (hk : 0x230000 ≤ k) : c.PortsKept (c.inc k) := portsKept_put c _ hk
theorem portsKept_updRing (c : Core) (r : Nat) (f : RingState → RingState) : c.PortsKept (c.updRing r f) := ⟨rfl, fun _ _ => rfl⟩
theorem portsKept_updWin (c : Core) (w : Nat) (f : WinState → WinState) : c.PortsKept (c.updWin w f) := ⟨rfl, fun _ _ => rfl⟩
theorem portsKept_updJob (c : Core) (j : Nat) (f : JobState → JobState) : c.PortsKept (c.updJob j f) := ⟨rfl, fun _ _ => rfl⟩
theorem portsKept_withCheckpoints (c : Core) (l : List (Nat × Nat)) : c.PortsKept (c.withCheckpoints l) := ⟨rfl, fun _ _ => rfl⟩
theorem MemOnly.portsKept (h : c.MemOnly d) : c.PortsKept d :=
  ⟨h.hr, fun k hk => h.get (by simp only [isMemKey, isSluiceKey]; omega)⟩
theorem FcOnly.portsKept (h : c.FcOnly d) : c.PortsKept d := ⟨h.hr, fun k hk => h.2 k (by simp only [isFcKey]; omega)⟩

/-! ## Rings and windows -/

theorem portsKept_setSegs (c : Core) (r : Nat) (l : List (Nat × Nat)) : c.PortsKept (c.setSegs r l) := by
  unfold setSegs
  exact (portsKept_updRing c r _).trans (portsKept_foldl _ (fun c _ => (memOnly_request c _).portsKept) _)

theorem portsKept_refreshRing (c : Core) (r : Nat) : c.PortsKept (c.refreshRing r) := by
  have hbase : ∀ v w x, c.PortsKept (((c.put (Obj.Region.SEGS_HELD r) v).put (Obj.Region.SPANS_USED r) w).put
      (Obj.Quota.SEGS_COMMITTED r) x) := fun v w x =>
    ((portsKept_put c v (by simp; omega)).trans (portsKept_put _ w (by simp; omega))).trans (portsKept_put _ x (by simp; omega))
  unfold refreshRing
  exact portsKept_ite ((hbase _ _ _).trans (portsKept_put _ _ (by simp; omega))) (hbase _ _ _)

theorem portsKept_rehold (c : Core) (r : Nat) (ps : List Nat) : c.PortsKept (c.rehold r ps) :=
  (portsKept_setSegs c r _).trans (portsKept_refreshRing _ r)

theorem portsKept_dropWindow (c : Core) (w : Nat) : c.PortsKept (c.dropWindow w) := by
  unfold dropWindow
  exact (((portsKept_updWin c w _).trans (portsKept_put _ _ (by simp; omega))).trans (portsKept_put _ _ (by simp; omega))).trans
    (portsKept_foldl _ (fun c m => portsKept_rehold c _ _) _)

theorem portsKept_evict (c : Core) (r w : Nat) : c.PortsKept (c.evict r w) :=
  ((portsKept_dropWindow c w).trans (portsKept_flag _ _ (by simp; omega))).trans (portsKept_inc _ (by simp; omega))

theorem portsKept_leaveSeg (c : Core) (r p : Nat) : c.PortsKept (c.leaveSeg r p) := by
  unfold leaveSeg
  exact portsKept_ite (portsKept_setSegs c r _) (.refl c)

theorem portsKept_enterSeg (c : Core) (r p l : Nat) : c.PortsKept (c.enterSeg r p l) := by
  have hclaim : c.PortsKept (c.claimSeg r p l) := portsKept_foldl _ (fun c w => portsKept_updWin c _ _) c
  unfold enterSeg
  exact (hclaim.trans (portsKept_setSegs _ r _)).trans (portsKept_put _ _ (by simp; omega))

/-- What evictions have found so far leaves the ports. -/
def FoundKept (c : Core) (a : Option (Nat × Core) × Core) : Prop := c.PortsKept a.2 ∧ ∀ x, a.1 = some x → c.PortsKept x.2

theorem foundKept_foldl (c : Core) (r p : Nat) (l : List Nat) (a : Option (Nat × Core) × Core) (h : FoundKept c a) :
    FoundKept c (l.foldl (fun (a : Option (Nat × Core) × Core) w =>
      match a.1 with
      | some _ => a
      | none => let c1 := a.2.evict r w; ((c1.nextSeg r p).map fun q => (q, c1), c1)) a) := by
  induction l generalizing a with
  | nil => exact h
  | cons w l ih =>
    refine ih _ ?_
    obtain ⟨f, b⟩ := a
    cases f with
    | some x => exact h
    | none =>
      have hev : c.PortsKept (b.evict r w) := h.1.trans (portsKept_evict b r w)
      refine ⟨hev, fun x hx => ?_⟩
      obtain ⟨q, -, rfl⟩ := Option.map_eq_some_iff.1 hx
      exact hev

theorem portsKept_findSeg {r p : Nat} {x : Nat × Core} (h : c.findSeg r p = some x) : c.PortsKept x.2 := by
  unfold findSeg at h
  split at h
  · obtain rfl := Option.some.inj h
    exact PortsKept.refl c
  · split at h
    · exact (foundKept_foldl c r p _ (none, c) ⟨PortsKept.refl c, fun _ h => absurd h nofun⟩).2 x h
    · exact absurd h nofun

theorem portsKept_stepSeg (c : Core) (r l : Nat) : c.PortsKept (c.stepSeg r l).1 := by
  unfold stepSeg
  dsimp only
  split
  · exact PortsKept.refl c
  · next q d h =>
    exact (((portsKept_findSeg h).trans (portsKept_leaveSeg d r _)).trans (portsKept_enterSeg _ r q l)).trans (portsKept_updRing _ r _)

theorem portsKept_stepSegs (r l k : Nat) (is : List Nat) (a : Core × Bool) :
    a.1.PortsKept (is.foldl (fun (a : Core × Bool) i => if a.2 then a.1.stepSeg r (l - k + 1 + i) else a) a).1 := by
  induction is generalizing a with
  | nil => exact PortsKept.refl _
  | cons i is ih =>
    refine PortsKept.trans ?_ (ih _)
    dsimp only
    split
    · exact portsKept_stepSeg _ _ _
    · exact PortsKept.refl _

theorem portsKept_moveCursor (c : Core) (r l : Nat) : c.PortsKept (c.moveCursor r l).1 := by
  unfold moveCursor
  refine PortsKept.trans ?_ ((portsKept_stepSegs _ _ _ _ _).trans (portsKept_refreshRing _ r))
  exact portsKept_ite (.refl c) (portsKept_ite (.refl c) ((portsKept_leaveSeg c r _).trans (portsKept_put _ _ (by simp; omega))))

theorem portsKept_ringFreed (c : Core) (r : Nat) : c.PortsKept (c.ringFreed r) := by
  have hupd : c.PortsKept (c.updRing r fun g => { g with blocked := none }) := portsKept_updRing c r _
  unfold ringFreed
  exact portsKept_ite (.refl c) (portsKept_ite hupd (hupd.trans (fcOnly_endStanding _ _ (by decide)).portsKept))

theorem portsKept_tryUnblock (c : Core) (r : Nat) : c.PortsKept (c.tryUnblock r) := by
  unfold tryUnblock
  split
  · exact PortsKept.refl c
  · exact portsKept_ite ((portsKept_moveCursor c r _).trans (portsKept_ringFreed _ r)) (.refl c)

theorem portsKept_releaseWindow (c : Core) (w : Nat) : c.PortsKept (c.releaseWindow w) :=
  (portsKept_dropWindow c w).trans
    (portsKept_foldl _ (fun c _ => portsKept_foldl _ (fun c r => portsKept_tryUnblock c r) c) _)

theorem portsKept_drainEnded (c : Core) (w : Nat) : c.PortsKept (c.drainEnded w) := by
  unfold drainEnded
  exact portsKept_ite (portsKept_ite (portsKept_releaseWindow c w) (portsKept_put c _ (by simp; omega))) (.refl c)

/-! ## Jobs (R149, R156) -/

theorem portsKept_endJob (c : Core) (j state : Nat) : c.PortsKept (c.endJob j state) := by
  have hobjs : ∀ n, c.PortsKept ((((c.put (Obj.Job.STATE j) state).put (Obj.Job.READY j) 1).flag (Obj.Job.FLAGS j) n).put
      (Obj.Job.CREDIT_MW j) 0) := fun n =>
    (((portsKept_put c _ (by simp; omega)).trans (portsKept_put _ _ (by simp; omega))).trans
      (portsKept_flag _ _ (by simp; omega))).trans (portsKept_put _ _ (by simp; omega))
  have hjob : ∀ n f, c.PortsKept ((((((c.put (Obj.Job.STATE j) state).put (Obj.Job.READY j) 1).flag (Obj.Job.FLAGS j) n).put
      (Obj.Job.CREDIT_MW j) 0).release Ck.drain j).updJob j f) := fun n f =>
    ((hobjs n).trans (sluiceOnly_release _ _ _).memOnly.portsKept).trans (portsKept_updJob _ _ _)
  unfold endJob
  refine PortsKept.trans ?_ (portsKept_ite (portsKept_drainEnded _ _) (.refl _))
  refine PortsKept.trans ?_ (portsKept_ite (portsKept_put _ _ (by simp; omega)) (.refl _))
  exact portsKept_ite ((hjob _ _).trans (portsKept_withCheckpoints _ _)) (hjob _ _)

theorem portsKept_haltJob (c : Core) (j cause : Nat) : c.PortsKept (c.haltJob j cause) := by
  unfold haltJob
  refine portsKept_ite (.refl c) (portsKept_ite (portsKept_endJob c j 4) ?_)
  refine PortsKept.trans ?_ (fcOnly_raise _ _ _).portsKept
  exact ((((portsKept_put c _ (by simp; omega)).trans (portsKept_put _ _ (by simp; omega))).trans
    (portsKept_flag _ _ (by simp; omega))).trans (portsKept_updJob _ _ _)).trans (portsKept_flag _ _ (by decide))

/-- A port that leaves UP is at its first step, whatever its jobs do. -/
theorem leaveUp_kept (c : Core) (p : Nat) : (c.leftUp p).PortsKept (c.leaveUp p) := by
  rw [leaveUp_eq]
  exact portsKept_foldl _ (fun c j => portsKept_haltJob c j 1) _

end Core
end Sys2Proof.Machine
end

section
/-! PROOFS. Lanes of a Headrace port (02_headrace_links.md R29, R31 to R33). -/

namespace Sys2Proof.Machine

theorem testBit_maskOf4 (f : Nat → Bool) (l : Fin 4) : (maskOf 4 f).testBit l.val = f l.val := by
  have h : ∀ a b c d : Bool, ∀ l : Fin 4, (maskOf 4 fun i => [a, b, c, d].getD i false).testBit l.val = [a, b, c, d].getD l.val false := by
    decide
  have hmask : maskOf 4 f = maskOf 4 fun i => [f 0, f 1, f 2, f 3].getD i false := by simp [maskOf, List.range_succ]
  rw [hmask, h]
  match l with
  | 0 => rfl
  | 1 => rfl
  | 2 => rfl
  | 3 => rfl

namespace Core

variable {c d : Core} {p l m : Nat}

theorem hrLane_updHrLane_self (c : Core) (p l : Nat) (f : HrLaneState → HrLaneState) :
    (c.updHrLane p l f).hrLane p l = f (c.hrLane p l) := by
  rw [hrLane, updHrLane, portOf_updPort_self]
  exact Tbl.get_upd_self _ _ _ _

theorem portOnly_updHrLane (c : Core) (p l : Nat) (f : HrLaneState → HrLaneState) : PortOnly p c (c.updHrLane p l f) :=
  portOnly_updPort c p _

theorem portOf_updHrLane (c : Core) (p l : Nat) (f : HrLaneState → HrLaneState) : (c.updHrLane p l f).portOf p =
    { c.portOf p with lanes := Tbl.upd (fun _ => HrLaneState.init) (c.portOf p).lanes l f } := portOf_updPort_self c p _

theorem ObjsOnly.hrLane (h : c.ObjsOnly d) (p l : Nat) : d.hrLane p l = c.hrLane p l := by rw [Core.hrLane, h.portOf, Core.hrLane]

theorem get_inc_min (c : Core) (k : Nat) : (c.inc k).get k = min (c.get k + 1) (2 ^ 32 - 1) := by
  rw [get_inc_self, sat_eq_min]

/-! ## The wanted mask (R32, R33) -/

theorem wantLanes_objs (c : Core) (p m : Nat) : (c.updPort p fun s => { s with wantTx := m }).ObjsOnly (c.wantLanes p m) := by
  unfold wantLanes
  dsimp only
  split
  · exact putLanes_objs _ _ _ _
  · rfl

theorem wantLanes_portOf (c : Core) (p m : Nat) : (c.wantLanes p m).portOf p = { c.portOf p with wantTx := m } := by
  rw [(wantLanes_objs c p m).portOf, portOf_updPort_self]

theorem wantLanes_hrLane (c : Core) (p m l : Nat) : (c.wantLanes p m).hrLane p l = c.hrLane p l := by
  rw [hrLane, wantLanes_portOf, hrLane]

theorem wantLanes_get (c : Core) (p m : Nat) {k : Nat} (h1 : k ≠ Obj.Port.LANE_MASK_TX p) (h2 : k ≠ Obj.Port.FLAGS p) :
    (c.wantLanes p m).get k = c.get k := by
  unfold wantLanes
  dsimp only
  split
  · rw [putLanes_get _ _ _ _ h1 h2]
    rfl
  · rfl

theorem wantLanes_tx (c : Core) (p m : Nat) (h : c.portState p = 2) : (c.wantLanes p m).get (Obj.Port.LANE_MASK_TX p) = m := by
  rw [wantLanes, if_pos h]
  exact putLanes_self _ _ _ _

/-! ## Training of a lane starts again, or completes (R32, R33) -/

theorem laneRestart_transmit (h : c.portState p ≠ 0) : c.laneRestart p l .transmit =
    (((c.inc (Obj.Port.LANE_RETRAINS p)).updHrLane p l fun s => { s with txTrained := false }).wantLanes p
      (setBitTo l false (c.portOf p).wantTx)) := by
  rw [laneRestart, if_neg h]

theorem laneRestart_receive (h : c.portState p ≠ 0) : c.laneRestart p l .receive =
    (if (c.hrLane p l).locked then
      (((c.inc (Obj.Port.LANE_RETRAINS p)).updHrLane p l fun s => { s with trained := false }).loseLock p l)
    else ((c.inc (Obj.Port.LANE_RETRAINS p)).updHrLane p l fun s => { s with trained := false })) := by
  rw [laneRestart, if_neg h]

theorem laneTrained_transmit (h : c.portState p ≠ 0) : c.laneTrained p l .transmit =
    ((c.updHrLane p l fun s => { s with txTrained := true }).wantLanes p (setBitTo l true (c.portOf p).wantTx)) := by
  rw [laneTrained, if_neg h]

theorem laneTrained_receive (h : c.portState p ≠ 0) : c.laneTrained p l .receive =
    (c.updHrLane p l fun s => { s with trained := true }) := by
  rw [laneTrained, if_neg h]

/-! ## A port that may lose its last aligned lane (R33) -/

/-- A check of the aligned lanes changes nothing, or takes a port that is UP to its first step. -/
theorem checkAligned_cases (c : Core) (p : Nat) : c.checkAligned p = c ∨
    ∃ n, ((c.openWindow 3 p n).leftUp p).PortsKept (c.checkAligned p) := by
  unfold checkAligned
  split
  · next h =>
    rw [restartPort_up (Bool.and_eq_true_iff.1 h).1]
    exact .inr ⟨_, leaveUp_kept _ p⟩
  · exact .inl rfl

theorem leftUp_hrLane (c : Core) (p l : Nat) : (c.leftUp p).hrLane p l = HrLaneState.init := by
  rw [hrLane, leftUp_portOf, portBegin_portOf]
  rfl

theorem loseLock_objs (c : Core) (p l : Nat) : ((c.updHrLane p l fun s =>
      { s with locked := false, good := 0, bad := 0, fcoBad := 0, part := none }).showLanes p).hrLane p l =
    { c.hrLane p l with locked := false, good := 0, bad := 0, fcoBad := 0, part := none } := by
  rw [showLanes, (putLanes_objs _ _ _ _).hrLane, hrLane_updHrLane_self]

theorem loseLock_eq (c : Core) (p l : Nat) : c.loseLock p l = ((((c.updHrLane p l fun s =>
    { s with locked := false, good := 0, bad := 0, fcoBad := 0, part := none }).showLanes p).flag (Obj.Port.FLAGS p) l).checkAligned p) := rfl

/-- A lane that loses lock holds none, its flag stands, and no other count of the port moves. -/
theorem loseLock_facts (c : Core) (p l : Nat) (hp : p < 8) : ((c.loseLock p l).hrLane p l).locked = false ∧
    ((c.hrLane p l).trained = false → ((c.loseLock p l).hrLane p l).trained = false) ∧
    (c.loseLock p l).bitOf (Obj.Port.FLAGS p) l = true ∧
    (c.loseLock p l).get (Obj.Port.LANE_RETRAINS p) = c.get (Obj.Port.LANE_RETRAINS p) := by
  obtain ⟨d, hd⟩ : ∃ d, d = (((c.updHrLane p l fun s =>
    { s with locked := false, good := 0, bad := 0, fcoBad := 0, part := none }).showLanes p).flag (Obj.Port.FLAGS p) l) := ⟨_, rfl⟩
  have hlane : d.hrLane p l = { c.hrLane p l with locked := false, good := 0, bad := 0, fcoBad := 0, part := none } := by
    rw [hd, ← loseLock_objs c p l]
    exact (objsOnly_put _ _ _).hrLane p l
  have hflag : d.bitOf (Obj.Port.FLAGS p) l = true := by
    rw [hd]
    exact bitOf_flag_self _ _ l
  have hcount : d.get (Obj.Port.LANE_RETRAINS p) = c.get (Obj.Port.LANE_RETRAINS p) := by
    rw [hd, get_flag_ne _ _ (by simp), showLanes, putLanes_get _ _ _ _ (by simp) (by simp), (portOnly_updHrLane c p l _).get]
  rw [loseLock_eq, ← hd]
  obtain hstay | ⟨n, hkept⟩ := checkAligned_cases d p
  · rw [hstay, hlane]
    exact ⟨rfl, id, hflag, hcount⟩
  · have hport : ∀ k, k = Obj.Port.FLAGS p ∨ k = Obj.Port.LANE_RETRAINS p →
        (d.checkAligned p).get k = ((d.openWindow 3 p n).leftUp p).get k := fun k hk =>
      hkept.get (by rcases hk with rfl | rfl <;> simp <;> omega)
    rw [hkept.hrLane, leftUp_hrLane]
    refine ⟨rfl, fun _ => rfl, ?_, ?_⟩
    · rw [bitOf_congr l (hport _ (.inl rfl))]
      exact leftUp_flag _ _ hflag
    · rw [hport _ (.inr rfl), leftUp_get, portBegin_get _ _ (by simp) (by simp) (by simp) (by simp), openWindow_get, hcount]

/-! ## The mask at SEQ = 0 (R33) -/

/-- The port as the mask takes effect. -/
def maskTaken (c : Core) (p : Nat) : Core :=
  (c.updPort p fun s => { s with txSeq := 0 }).putLanes p (Obj.Port.LANE_MASK_TX p) (c.portOf p).wantTx

theorem txmaskUpdate_eq (hup : c.portUp p = true) (hm : (c.portOf p).wantTx ≠ c.get (Obj.Port.LANE_MASK_TX p)) :
    c.txmaskUpdate p = if (c.portOf p).wantTx = 0 then (c.maskTaken p).restartPort p c.fc.seq else c.maskTaken p := by
  rw [txmaskUpdate]
  dsimp only
  rw [if_neg (by simp [hup, hm])]
  rfl

theorem maskTaken_get (c : Core) (p : Nat) {k : Nat} (h1 : k ≠ Obj.Port.LANE_MASK_TX p) (h2 : k ≠ Obj.Port.FLAGS p) :
    (c.maskTaken p).get k = c.get k := by
  rw [maskTaken, putLanes_get _ _ _ _ h1 h2]
  exact (portOnly_updPort c p _).get k

theorem maskTaken_up (c : Core) (p : Nat) : (c.maskTaken p).portUp p = c.portUp p := by
  rw [portUp, portState, maskTaken_get _ _ (by simp) (by simp), ← portState, ← portUp]

theorem maskTaken_txSeq (c : Core) (p : Nat) : ((c.maskTaken p).portOf p).txSeq = 0 := by
  rw [maskTaken, (putLanes_objs _ _ _ _).portOf, portOf_updPort_self]

theorem maskTaken_objs (c : Core) (p : Nat) : (c.updPort p fun s => { s with txSeq := 0 }).ObjsOnly (c.maskTaken p) := putLanes_objs _ _ _ _

/-- A port that leaves UP has no lane, and awaits bring-up where it is wanted. -/
theorem leaveUp_facts (c : Core) (hp : p < 8) : (c.leaveUp p).get (Obj.Port.LANE_MASK_TX p) = 0 ∧
    (c.leaveUp p).get (Obj.Port.PORT_STATE p) = if c.portWanted p then 1 else 0 := by
  have hkept := leaveUp_kept c p
  rw [hkept.get (by simp; omega), hkept.get (by simp; omega), leftUp_state, leftUp_get]
  exact ⟨(portBegin_lanes c p).1, rfl⟩

end Core

/-! ## The commands -/

variable {s : State} {p : Port} {l : HrLane}

theorem lanes_restart_transmit (hu : s.core.seqUp = true) (hstate : s.core.portState p.val ≠ 0) :
    AnswersCore (.laneTrainingRestart p ⟨l, .transmit⟩) s fun c =>
      (c.hrLane p.val l.val).txTrained = false ∧ (c.portOf p.val).wantTx = setBitTo l.val false (s.core.portOf p.val).wantTx ∧
      (s.core.portState p.val = 2 → c.get (Obj.Port.LANE_MASK_TX p.val) = (c.portOf p.val).wantTx) ∧
      c.get (Obj.Port.LANE_RETRAINS p.val) = min (s.core.get (Obj.Port.LANE_RETRAINS p.val) + 1) (2 ^ 32 - 1) ∧
      ∀ k, k ≠ Obj.Port.LANE_RETRAINS p.val → k ≠ Obj.Port.LANE_MASK_TX p.val → k ≠ Obj.Port.FLAGS p.val →
        c.get k = s.core.get k := by
  have heq := Core.laneRestart_transmit (c := s.clear.core) (p := p.val) (l := l.val) hstate
  have hget := (Core.portOnly_updHrLane (s.clear.core.inc (Obj.Port.LANE_RETRAINS p.val)) p.val l.val
    fun s => { s with txTrained := false }).get
  refine answersCore_onPower (fun c => c.laneRestart p.val l.val .transmit) rfl hu ?_ ?_
  · rw [heq, (Core.wantLanes_objs _ _ _).req]
    rfl
  · rw [heq, Core.wantLanes_portOf, Core.wantLanes_hrLane, Core.hrLane_updHrLane_self]
    refine ⟨rfl, rfl, fun h2 => ?_, ?_, fun k h1 h2 h3 => ?_⟩
    · refine Core.wantLanes_tx _ _ _ ?_
      rw [Core.portState, hget, Core.get_inc_ne _ (by simp)]
      exact h2
    · rw [Core.wantLanes_get _ _ _ (by simp) (by simp), hget]
      exact Core.get_inc_min s.clear.core _
    · rw [Core.wantLanes_get _ _ _ h2 h3, hget, Core.get_inc_ne _ h1]
      rfl

theorem lanes_restart_receive (hu : s.core.seqUp = true) (hstate : s.core.portState p.val ≠ 0)
    (hlock : (s.core.hrLane p.val l.val).locked = false) : AnswersCore (.laneTrainingRestart p ⟨l, .receive⟩) s fun c =>
      (c.hrLane p.val l.val).trained = false ∧
      c.get (Obj.Port.LANE_RETRAINS p.val) = min (s.core.get (Obj.Port.LANE_RETRAINS p.val) + 1) (2 ^ 32 - 1) ∧
      ∀ k, k ≠ Obj.Port.LANE_RETRAINS p.val → c.get k = s.core.get k := by
  have heq := Core.laneRestart_receive (c := s.clear.core) (p := p.val) (l := l.val) hstate
  have hoff : ¬ (s.clear.core.hrLane p.val l.val).locked = true := fun h => absurd (hlock.symm.trans h) (by decide)
  rw [if_neg hoff] at heq
  have honly := Core.portOnly_updHrLane (s.clear.core.inc (Obj.Port.LANE_RETRAINS p.val)) p.val l.val fun s => { s with trained := false }
  refine answersCore_onPower (fun c => c.laneRestart p.val l.val .receive) rfl hu ?_ ?_
  · rw [heq, honly.req]
    rfl
  · rw [heq, Core.hrLane_updHrLane_self, honly.get]
    refine ⟨rfl, Core.get_inc_min s.clear.core _, fun k h1 => ?_⟩
    rw [honly.get, Core.get_inc_ne _ h1]
    rfl

theorem lanes_restart_locked (hu : s.core.seqUp = true) (hstate : s.core.portState p.val ≠ 0)
    (hlock : (s.core.hrLane p.val l.val).locked = true) : AnswersThen (.laneTrainingRestart p ⟨l, .receive⟩) s fun c =>
      (c.hrLane p.val l.val).trained = false ∧ (c.hrLane p.val l.val).locked = false ∧
      c.bitOf (Obj.Port.FLAGS p.val) l.val = true ∧
      c.get (Obj.Port.LANE_RETRAINS p.val) = min (s.core.get (Obj.Port.LANE_RETRAINS p.val) + 1) (2 ^ 32 - 1) := by
  have heq := Core.laneRestart_receive (c := s.clear.core) (p := p.val) (l := l.val) hstate
  have hon : (s.clear.core.hrLane p.val l.val).locked = true := hlock
  rw [if_pos hon] at heq
  obtain ⟨hlocked, htrained, hflag, hcount⟩ := Core.loseLock_facts ((s.clear.core.inc (Obj.Port.LANE_RETRAINS p.val)).updHrLane
    p.val l.val fun s => { s with trained := false }) p.val l.val p.isLt
  refine answersThen_onPower (fun c => c.laneRestart p.val l.val .receive) rfl hu ?_
  rw [heq]
  refine ⟨htrained ?_, hlocked, hflag, ?_⟩
  · rw [Core.hrLane_updHrLane_self]
  · rw [hcount, (Core.portOnly_updHrLane _ p.val l.val _).get]
    exact Core.get_inc_min s.clear.core _

theorem lanes_trained_transmit (hu : s.core.seqUp = true) (hstate : s.core.portState p.val ≠ 0) :
    AnswersCore (.laneTrained p ⟨l, .transmit⟩) s fun c =>
      (c.hrLane p.val l.val).txTrained = true ∧ (c.portOf p.val).wantTx = setBitTo l.val true (s.core.portOf p.val).wantTx ∧
      (s.core.portState p.val = 2 → c.get (Obj.Port.LANE_MASK_TX p.val) = (c.portOf p.val).wantTx) ∧
      ∀ k, k ≠ Obj.Port.LANE_MASK_TX p.val → k ≠ Obj.Port.FLAGS p.val → c.get k = s.core.get k := by
  have heq := Core.laneTrained_transmit (c := s.clear.core) (p := p.val) (l := l.val) hstate
  have hget := (Core.portOnly_updHrLane s.clear.core p.val l.val fun s => { s with txTrained := true }).get
  refine answersCore_onPower (fun c => c.laneTrained p.val l.val .transmit) rfl hu ?_ ?_
  · rw [heq, (Core.wantLanes_objs _ _ _).req]
    rfl
  · rw [heq, Core.wantLanes_portOf, Core.wantLanes_hrLane, Core.hrLane_updHrLane_self]
    refine ⟨rfl, rfl, fun h2 => ?_, fun k h2 h3 => ?_⟩
    · exact Core.wantLanes_tx _ _ _ ((hget _).trans h2)
    · rw [Core.wantLanes_get _ _ _ h2 h3, hget]
      rfl

theorem lanes_trained_receive (hu : s.core.seqUp = true) (hstate : s.core.portState p.val ≠ 0) :
    AnswersCore (.laneTrained p ⟨l, .receive⟩) s fun c =>
      (c.hrLane p.val l.val).trained = true ∧ ∀ k, c.get k = s.core.get k := by
  have heq := Core.laneTrained_receive (c := s.clear.core) (p := p.val) (l := l.val) hstate
  have honly := Core.portOnly_updHrLane s.clear.core p.val l.val fun s => { s with trained := true }
  refine answersCore_onPower (fun c => c.laneTrained p.val l.val .receive) rfl hu ?_ ?_
  · rw [heq, honly.req]
    rfl
  · rw [heq, Core.hrLane_updHrLane_self]
    exact ⟨rfl, fun k => honly.get k⟩

theorem lanes_mask (hu : s.core.seqUp = true) (hup : s.core.portUp p.val = true) (hne : (s.core.portOf p.val).wantTx ≠ 0)
    (hm : (s.core.portOf p.val).wantTx ≠ s.core.get (Obj.Port.LANE_MASK_TX p.val)) : AnswersCore (.txmaskUpdate p) s fun c =>
      c.get (Obj.Port.LANE_MASK_TX p.val) = (s.core.portOf p.val).wantTx ∧ c.bitOf (Obj.Port.FLAGS p.val) 10 = true ∧
      (c.portOf p.val).txSeq = 0 ∧
      ∀ k, k ≠ Obj.Port.LANE_MASK_TX p.val → k ≠ Obj.Port.FLAGS p.val → c.get k = s.core.get k := by
  have heq := Core.txmaskUpdate_eq (c := s.clear.core) hup hm
  have hne' : ¬ (s.clear.core.portOf p.val).wantTx = 0 := hne
  rw [if_neg hne'] at heq
  refine answersCore_onPower (fun c => c.txmaskUpdate p.val) rfl hu ?_ ?_
  · rw [heq, (Core.maskTaken_objs _ _).req]
    rfl
  · rw [heq]
    exact ⟨Core.putLanes_self _ _ _ _, Core.putLanes_changed _ (by simp) hm, Core.maskTaken_txSeq _ _,
      fun k h1 h2 => Core.maskTaken_get _ _ h1 h2⟩

theorem lanes_last (hu : s.core.seqUp = true) (hup : s.core.portUp p.val = true) (hz : (s.core.portOf p.val).wantTx = 0)
    (hm : s.core.get (Obj.Port.LANE_MASK_TX p.val) ≠ 0) : AnswersThen (.txmaskUpdate p) s fun c =>
      c.get (Obj.Port.LANE_MASK_TX p.val) = 0 ∧ c.get (Obj.Port.PORT_STATE p.val) = (if s.core.portWanted p.val then 1 else 0) := by
  have hz' : (s.clear.core.portOf p.val).wantTx = 0 := hz
  have heq := Core.txmaskUpdate_eq (c := s.clear.core) (p := p.val) hup (by rw [hz']; exact hm.symm)
  rw [if_pos hz', Core.restartPort_up ((Core.maskTaken_up s.clear.core p.val).trans hup)] at heq
  have hwanted : ∀ n, ((s.clear.core.maskTaken p.val).openWindow 3 p.val n).portWanted p.val = s.core.portWanted p.val := fun n =>
    Core.portWanted_congr (Core.maskTaken_get _ _ (by simp; omega) (by simp; omega))
      (Core.maskTaken_get _ _ (by simp; omega) (by simp; omega)) _
  refine answersThen_onPower (fun c => c.txmaskUpdate p.val) rfl hu ?_
  rw [heq, ← hwanted]
  exact Core.leaveUp_facts _ p.isLt

end Sys2Proof.Machine
end

section
/-! PROOFS. Codewords of a Headrace port, and its way to UP (02_headrace_links.md R29 to R32, R60). -/

namespace Sys2Proof.Machine

namespace Core

variable {c d : Core} {p l n : Nat} {cw : Codeword}

/-! ## Cells that leave the rotation (R30, R31) -/

theorem deliverCells_nil (h : (c.portOf p).inbox = []) : c.deliverCells p = c.updPort p fun s => { s with inbox := [] } := by
  rw [deliverCells, h]
  rfl

/-- The rotation of a port that is not UP changes what waits and what leaves alone. -/
theorem deliverCells_quiet (hup : c.portUp p = false) : PortOnly p c (c.deliverCells p) ∧
    ∃ i, (c.deliverCells p).portOf p = { c.portOf p with inbox := i } := by
  have hpass : ∀ (d : Core) (bs : List Byte), d.portUp p = false → PortOnly p d (d.pass p bs) ∧ (d.pass p bs).portOf p = d.portOf p := by
    intro d bs hd
    unfold pass
    dsimp only
    split
    · exact ⟨portOnly_emit d p _, rfl⟩
    · rw [receive, if_pos (by rw [hd]; rfl)]
      exact ⟨PortOnly.refl p d, rfl⟩
  have hfold : ∀ (bss : List (List Byte)) (d : Core), d.portUp p = false →
      PortOnly p d (bss.foldl (fun c bs => c.pass p bs) d) ∧ (bss.foldl (fun c bs => c.pass p bs) d).portOf p = d.portOf p := by
    intro bss
    induction bss with
    | nil => exact fun d _ => ⟨PortOnly.refl p d, rfl⟩
    | cons bs bss ih =>
      intro d hd
      obtain ⟨h1, h2⟩ := hpass d bs hd
      obtain ⟨h3, h4⟩ := ih _ ((h1.portUp p).trans hd)
      exact ⟨h1.trans h3, h4.trans h2⟩
  have hupd := portOnly_updPort c p fun s => { s with inbox := (c.rotation p (c.portOf p).inbox.length (c.portOf p).inbox).2 }
  obtain ⟨h1, h2⟩ := hfold (c.rotation p (c.portOf p).inbox.length (c.portOf p).inbox).1 _ ((hupd.portUp p).trans hup)
  exact ⟨hupd.trans h1, _, h2.trans (portOf_updPort_self c p _)⟩

/-- A lane once it has given the cells of a codeword to the rotation. -/
def extracted (n l : Nat) (cw : Codeword) (s : HrLaneState) : HrLaneState :=
  let r := takeCells 3 ((cwStream cw).drop ((272 - s.phase) % 272))
  { s with phase := (s.phase + 640) % 272, part := some r.2, used := (cwTxmask cw).testBit l, count := n,
           slot := if r.2.isEmpty then 3 * (n + 1) else 3 * n + r.1.length }

/-- A codeword's cells at a port that is not UP: the lane takes them, and no object changes. -/
theorem extract_quiet (hup : c.portUp p = false) : PortOnly p c (c.extract p l n cw) ∧
    (c.extract p l n cw).hrLane p l = extracted n l cw (c.hrLane p l) ∧
    ∃ t i, (c.extract p l n cw).portOf p = { c.portOf p with lanes := t, inbox := i } := by
  obtain ⟨d, i, hext, honly, hport⟩ : ∃ d i, c.extract p l n cw = d.deliverCells p ∧ PortOnly p c d ∧
      d.portOf p = { (c.updHrLane p l fun s => extracted n l cw s).portOf p with inbox := i } := by
    have h1 := portOnly_updHrLane c p l fun _ => extracted n l cw (c.hrLane p l)
    unfold extract
    dsimp only
    split
    · exact ⟨_, _, rfl, h1.trans (portOnly_updPort _ p _), portOf_updPort_self _ p _⟩
    · exact ⟨_, _, rfl, h1, rfl⟩
  obtain ⟨h1, j, h2⟩ := deliverCells_quiet ((honly.portUp p).trans hup)
  refine ⟨hext ▸ honly.trans h1, ?_, ?_⟩
  · rw [hext, hrLane, h2, hport, ← hrLane_updHrLane_self c p l fun s => extracted n l cw s]
    rfl
  · rw [hext, h2, hport, portOf_updHrLane]
    exact ⟨_, j, rfl⟩

/-! ## An uncorrectable codeword (R29, R60) -/

/-- Ticks of a lane's uncorrectable codewords in the last second, with this one's. -/
def recentBad (c : Core) (p l : Nat) : List Nat := (c.hrLane p l).uncorr.filter (fun t => c.tick < t + 500000000) ++ [c.tick]

/-- The lane and its count after an uncorrectable codeword. -/
def badCounted (c : Core) (p l : Nat) : Core :=
  (c.updHrLane p l fun s =>
    { s with good := 0, bad := s.bad + 1, fcoBad := 0, phase := (s.phase + 640) % 272, part := none, uncorr := c.recentBad p l,
             count := s.count + 1, slot := 3 * (s.count + 2) }).inc (Obj.Port.FEC_UNCORRECTABLE p)

/-- What follows it while the lane keeps its lock. -/
def badRaised (c : Core) (p l : Nat) : Core :=
  if (c.recentBad p l).length = 17 then (c.badCounted p l).raise (Src.hrFecUncorr p) (ctxPortTag p 0) else c.badCounted p l

theorem codeword_bad (hstate : c.portState p ≠ 0) (htr : (c.hrLane p l).trained = true) (hbad : cw.good = false) :
    c.codeword p l cw = (c.badCodeword p l).deliverCells p := by
  rw [codeword]
  dsimp only
  rw [if_neg (by simp [hstate, htr]), if_pos (by rw [hbad]; rfl)]

theorem badCodeword_kept (h : (c.hrLane p l).locked = false ∨ (c.hrLane p l).bad < 7) : c.badCodeword p l = c.badRaised p l := by
  have hkeep : ¬ ((c.hrLane p l).locked && decide (8 ≤ (c.hrLane p l).bad + 1)) = true := by
    rcases h with h | h
    · simp [h]
    · simp; omega
  rw [badCodeword, if_neg hkeep]
  rfl

theorem badCounted_get (c : Core) (p l : Nat) {k : Nat} (h : k ≠ Obj.Port.FEC_UNCORRECTABLE p) : (c.badCounted p l).get k = c.get k := by
  rw [badCounted, get_inc_ne _ h, (portOnly_updHrLane c p l _).get]

theorem badCounted_self (c : Core) (p l : Nat) : (c.badCounted p l).get (Obj.Port.FEC_UNCORRECTABLE p) =
    min (c.get (Obj.Port.FEC_UNCORRECTABLE p) + 1) (2 ^ 32 - 1) := by
  rw [badCounted, get_inc_min, (portOnly_updHrLane c p l _).get]

theorem badCounted_objs (c : Core) (p l : Nat) : (c.updHrLane p l fun s =>
    { s with good := 0, bad := s.bad + 1, fcoBad := 0, phase := (s.phase + 640) % 272, part := none, uncorr := c.recentBad p l,
             count := s.count + 1, slot := 3 * (s.count + 2) }).ObjsOnly (c.badCounted p l) := objsOnly_put _ _ _

theorem badCounted_lane (c : Core) (p l : Nat) : ((c.badCounted p l).hrLane p l).bad = (c.hrLane p l).bad + 1 := by
  rw [(badCounted_objs c p l).hrLane, hrLane_updHrLane_self]

theorem badCounted_inbox (c : Core) (p l : Nat) : ((c.badCounted p l).portOf p).inbox = (c.portOf p).inbox := by
  rw [(badCounted_objs c p l).portOf, portOf_updHrLane]

theorem badRaised_portOf (c : Core) (p l q : Nat) : (c.badRaised p l).portOf q = (c.badCounted p l).portOf q := by
  unfold badRaised
  split
  · exact portOf_raise _ _ _ _
  · rfl

theorem badRaised_get (c : Core) (p l : Nat) {k : Nat} (h : ¬ isFcKey k) : (c.badRaised p l).get k = (c.badCounted p l).get k := by
  unfold badRaised
  split
  · exact get_raise _ _ _ h
  · rfl

theorem badRaised_raises (c : Core) (p : Port) (l : Nat) (h : (c.recentBad p.val l).length = 17) :
    c.Raises (Src.hrFecUncorr p.val) (c.badRaised p.val l) := by
  have hsource : ∀ i : Fin 8, (sourceInfo? (Src.hrFecUncorr i.val)).isNone = false := by decide +kernel
  rw [badRaised, if_pos h]
  exact raises_of_raise _ (hsource p) rfl (badCounted_get c _ _ (by simp; omega))

/-! ## A good codeword (R31, R32) -/

/-- The port once a good codeword is counted: its corrections, its time, its number, and the lane's counts. -/
def noted (c : Core) (p l : Nat) (cw : Codeword) : Core :=
  let lag := (c.add (Obj.Port.FEC_CORRECTED p) 64 cw.corrected).lagging p (cwSeq cw)
  (lag.2.updPort p fun q => { q with front := max q.front (unroll (c.portOf p).front (cwSeq cw)) }).updHrLane p l fun s =>
    { s with bad := 0, good := if cwFco cw < 640 then s.good + 1 else 0, lost := lag.1 }

theorem lagging_facts (c : Core) (p seq : Nat) : PortOnly p c (c.lagging p seq).2 ∧
    ∃ t, (c.lagging p seq).2.portOf p = { c.portOf p with seen := t } := by
  unfold lagging
  dsimp only
  split
  · exact ⟨PortOnly.refl p c, _, rfl⟩
  · have honly := portOnly_updPort c p fun s => { s with seen := s.seen.setNum seq (c.tick + 1) }
    exact ⟨honly, _, portOf_updPort_self c p _⟩

theorem portOf_add (c : Core) (k w v q : Nat) : (c.add k w v).portOf q = c.portOf q := (objsOnly_put c _ _).portOf q

theorem lagging_congr (hport : d.portOf p = c.portOf p) (htick : d.tick = c.tick) (seq : Nat) :
    (d.lagging p seq).1 = (c.lagging p seq).1 := by
  rw [lagging, lagging, hport, htick]
  split <;> rfl

theorem noted_facts (c : Core) (p l : Nat) (cw : Codeword) : PortOnly p (c.add (Obj.Port.FEC_CORRECTED p) 64 cw.corrected) (c.noted p l cw) ∧
    (c.noted p l cw).hrLane p l = { c.hrLane p l with bad := 0, good := if cwFco cw < 640 then (c.hrLane p l).good + 1 else 0,
                                                      lost := (c.lagging p (cwSeq cw)).1 } ∧
    ((c.noted p l cw).portOf p).wantTx = (c.portOf p).wantTx := by
  obtain ⟨h1, t, h2⟩ := lagging_facts (c.add (Obj.Port.FEC_CORRECTED p) 64 cw.corrected) p (cwSeq cw)
  unfold noted
  dsimp only
  refine ⟨(h1.trans (portOnly_updPort _ p _)).trans (portOnly_updHrLane _ p l _), ?_, ?_⟩
  · rw [hrLane_updHrLane_self, hrLane, portOf_updPort_self, h2, lagging_congr (portOf_add c _ _ _ p) rfl, hrLane, portOf_add]
  · rw [portOf_updHrLane, portOf_updPort_self, h2]
    rfl

theorem noted_get (c : Core) (p l : Nat) (cw : Codeword) {k : Nat} (h : k ≠ Obj.Port.FEC_CORRECTED p) : (c.noted p l cw).get k = c.get k := by
  rw [(noted_facts c p l cw).1.get, get_add_ne _ _ _ h]

/-- LANE_LAG beside it, where the lane lags. -/
def lagFlagged (c : Core) (p : Nat) (late : Bool) : Core := if late then c.flag (Obj.Port.FLAGS p) 9 else c

theorem lagFlagged_objs (c : Core) (p : Nat) (late : Bool) : c.ObjsOnly (c.lagFlagged p late) := by
  unfold lagFlagged
  split
  · exact objsOnly_put _ _ _
  · rfl

theorem lagFlagged_get (c : Core) (p : Nat) (late : Bool) {k : Nat} (h : k ≠ Obj.Port.FLAGS p) : (c.lagFlagged p late).get k = c.get k := by
  unfold lagFlagged
  split
  · exact get_flag_ne _ _ h
  · rfl

/-- The lane locks. -/
def lockLane (c : Core) (p l n : Nat) (cw : Codeword) : Core :=
  (c.updHrLane p l fun s =>
    { s with locked := true, fcoBad := 0, phase := (272 - cwFco cw % 272) % 272, part := none, slot := 3 * n }).showLanes p

/-- The port is ALIGNING. -/
def aligning (c : Core) (p : Nat) : Core := (c.put (Obj.Port.PORT_STATE p) 2).putLanes p (Obj.Port.LANE_MASK_TX p) (c.portOf p).wantTx

theorem lockLane_objs (c : Core) (p l n : Nat) (cw : Codeword) : (c.updHrLane p l fun s =>
    { s with locked := true, fcoBad := 0, phase := (272 - cwFco cw % 272) % 272, part := none, slot := 3 * n }).ObjsOnly
      (c.lockLane p l n cw) := putLanes_objs _ _ _ _

theorem lockLane_get (c : Core) (p l n : Nat) (cw : Codeword) {k : Nat} (h1 : k ≠ Obj.Port.LANE_MASK_RX p) (h2 : k ≠ Obj.Port.FLAGS p) :
    (c.lockLane p l n cw).get k = c.get k := by
  rw [lockLane, showLanes, putLanes_get _ _ _ _ h1 h2, (portOnly_updHrLane c p l _).get]

theorem lockLane_lane (c : Core) (p l n : Nat) (cw : Codeword) : ((c.lockLane p l n cw).hrLane p l).locked = true := by
  rw [(lockLane_objs c p l n cw).hrLane, hrLane_updHrLane_self]

theorem lockLane_wantTx (c : Core) (p l n : Nat) (cw : Codeword) : ((c.lockLane p l n cw).portOf p).wantTx = (c.portOf p).wantTx := by
  rw [(lockLane_objs c p l n cw).portOf, portOf_updHrLane]

theorem lockLane_mask (c : Core) (p n : Nat) (l : HrLane) (cw : Codeword) :
    (c.lockLane p l.val n cw).bitOf (Obj.Port.LANE_MASK_RX p) l.val = true := by
  rw [bitOf, lockLane, showLanes, putLanes_self, testBit_maskOf4, hrLane_updHrLane_self]

theorem aligning_objs (c : Core) (p : Nat) : c.ObjsOnly (c.aligning p) := (objsOnly_put _ _ _).trans (putLanes_objs _ _ _ _)

theorem aligning_state (c : Core) (p : Nat) : (c.aligning p).portState p = 2 := by
  rw [portState, aligning, putLanes_get _ _ _ _ (by simp) (by simp), get_put_self]

theorem aligning_tx (c : Core) (p : Nat) : (c.aligning p).get (Obj.Port.LANE_MASK_TX p) = (c.portOf p).wantTx := putLanes_self _ _ _ _

theorem aligning_rx (c : Core) (p : Nat) : (c.aligning p).get (Obj.Port.LANE_MASK_RX p) = c.get (Obj.Port.LANE_MASK_RX p) := by
  rw [aligning, putLanes_get _ _ _ _ (by simp) (by simp), get_put_ne _ _ (by simp)]

/-- Is a codeword more than 4 periods later than the first of its number? -/
def lateOf (c : Core) (p : Nat) (cw : Codeword) : Bool := ((c.add (Obj.Port.FEC_CORRECTED p) 64 cw.corrected).lagging p (cwSeq cw)).1

theorem lateOf_eq (c : Core) (p : Nat) (cw : Codeword) : c.lateOf p cw = (c.lagging p (cwSeq cw)).1 :=
  lagging_congr (portOf_add c _ _ _ p) rfl _

/-- The port once LANE_LAG is noted too. -/
def lagNoted (c : Core) (p l : Nat) (cw : Codeword) : Core :=
  (c.noted p l cw).lagFlagged p (c.lateOf p cw && !((c.hrLane p l).locked && (c.hrLane p l).lost))

/-- What a codeword does at a lane that holds lock. -/
def followed (c d : Core) (p l : Nat) (cw : Codeword) : Core :=
  let k := if cwFco cw = (272 - (c.hrLane p l).phase) % 272 then 0 else (c.hrLane p l).fcoBad + 1
  let e := (d.updHrLane p l fun s => { s with fcoBad := k }).extract p l (unroll (c.portOf p).front (cwSeq cw)) cw
  if 8 ≤ k then (e.loseLock p l).deliverCells p
  else if e.portState p = 2 && !c.lateOf p cw then e.enterUp p
  else e

theorem codeword_good (hstate : c.portState p ≠ 0) (htr : (c.hrLane p l).trained = true) (hgood : cw.good = true) :
    c.codeword p l cw =
      if !(c.hrLane p l).locked && !(decide (cwFco cw < 640) && decide (3 ≤ (c.hrLane p l).good + 1)) then c.noted p l cw
      else if !(c.hrLane p l).locked then
        (if ((c.lagNoted p l cw).lockLane p l (unroll (c.portOf p).front (cwSeq cw)) cw).portState p = 1 then
          ((c.lagNoted p l cw).lockLane p l (unroll (c.portOf p).front (cwSeq cw)) cw).aligning p
        else (c.lagNoted p l cw).lockLane p l (unroll (c.portOf p).front (cwSeq cw)) cw).extract p l
          (unroll (c.portOf p).front (cwSeq cw)) cw
      else if (c.lagNoted p l cw).portUp p && !(((c.lagNoted p l cw).checkAligned p).portUp p) then (c.lagNoted p l cw).checkAligned p
      else c.followed ((c.lagNoted p l cw).checkAligned p) p l cw := by
  rw [codeword]
  dsimp only
  rw [if_neg (by simp [hstate, htr]), if_neg (by rw [hgood]; decide)]
  rfl

theorem lagNoted_get (c : Core) (p l : Nat) (cw : Codeword) {k : Nat} (h1 : k ≠ Obj.Port.FEC_CORRECTED p) (h2 : k ≠ Obj.Port.FLAGS p) :
    (c.lagNoted p l cw).get k = c.get k := by
  rw [lagNoted, lagFlagged_get _ _ _ h2, noted_get _ _ _ _ h1]

theorem lagNoted_state (c : Core) (p l : Nat) (cw : Codeword) : (c.lagNoted p l cw).portState p = c.portState p :=
  lagNoted_get c p l cw (by simp) (by simp)

theorem lagNoted_wantTx (c : Core) (p l : Nat) (cw : Codeword) : ((c.lagNoted p l cw).portOf p).wantTx = (c.portOf p).wantTx := by
  rw [lagNoted, (lagFlagged_objs _ _ _).portOf]
  exact (noted_facts c p l cw).2.2

/-- The third good codeword in a row of a port in TRAINING: the lane locks, and the port is ALIGNING. -/
theorem codeword_locks (hstate : c.portState p = 1) (htr : (c.hrLane p l).trained = true) (hlock : (c.hrLane p l).locked = false)
    (hgood : cw.good = true) (h2 : 2 ≤ (c.hrLane p l).good) (hf : cwFco cw < 640) : ∃ n, c.codeword p l cw =
      (((c.lagNoted p l cw).lockLane p l n cw).aligning p).extract p l n cw := by
  refine ⟨unroll (c.portOf p).front (cwSeq cw), ?_⟩
  have hst : ((c.lagNoted p l cw).lockLane p l (unroll (c.portOf p).front (cwSeq cw)) cw).portState p = 1 := by
    rw [portState, lockLane_get _ _ _ _ _ (by simp) (by simp), ← portState, lagNoted_state, hstate]
  rw [codeword_good (by rw [hstate]; decide) htr hgood, hlock, if_neg (by simp [hf]; omega),
    if_pos (show (!false) = true from rfl), if_pos hst]

theorem codeword_locks_facts {l : HrLane} (hstate : c.portState p = 1) (htr : (c.hrLane p l.val).trained = true)
    (hlock : (c.hrLane p l.val).locked = false) (hgood : cw.good = true) (h2 : 2 ≤ (c.hrLane p l.val).good) (hf : cwFco cw < 640) :
    (c.codeword p l.val cw).get (Obj.Port.PORT_STATE p) = 2 ∧ ((c.codeword p l.val cw).hrLane p l.val).locked = true ∧
    (c.codeword p l.val cw).bitOf (Obj.Port.LANE_MASK_RX p) l.val = true ∧
    (c.codeword p l.val cw).get (Obj.Port.LANE_MASK_TX p) = (c.portOf p).wantTx := by
  obtain ⟨n, heq⟩ := codeword_locks hstate htr hlock hgood h2 hf
  have hlocked := lockLane_lane (c.lagNoted p l.val cw) p l.val n cw
  have hmask := lockLane_mask (c.lagNoted p l.val cw) p n l cw
  have hwant := (lockLane_wantTx (c.lagNoted p l.val cw) p l.val n cw).trans (lagNoted_wantTx c p l.val cw)
  generalize (c.lagNoted p l.val cw).lockLane p l.val n cw = d at heq hlocked hmask hwant
  have hst := aligning_state d p
  have hlane' := (aligning_objs d p).hrLane p l.val
  have htx := (aligning_tx d p).trans hwant
  have hrx := (bitOf_congr l.val (aligning_rx d p)).trans hmask
  generalize d.aligning p = e at heq hst hlane' htx hrx
  obtain ⟨honly, hlane, -⟩ := extract_quiet (p := p) (l := l.val) (n := n) (cw := cw) (c := e) (by simp [portUp, hst])
  have hkeep : ((e.extract p l.val n cw).hrLane p l.val).locked = (e.hrLane p l.val).locked := by
    rw [hlane]
    rfl
  rw [heq]
  exact ⟨(honly.portState p).trans hst, hkeep.trans ((congrArg HrLaneState.locked hlane').trans hlocked), (honly.bitOf _ _).trans hrx,
    (honly.get _).trans htx⟩

/-- The port's state as it enters UP. -/
def freshPort (s : HrPortState) : HrPortState :=
  { s with grant := [(0, 512), (1, 256), (2, 64), (3, 64)], recv := [], freed := [], cum := [], sent := [], txq := [],
           creditSeen := false, readTxns := [], writeTxns := [], partialWrite := none }

/-- A port enters UP: its buffers are granted, its LOA session is open, and a CREDIT cell leaves. -/
theorem enterUp_facts (c : Core) (p : Nat) : (c.enterUp p).get (Obj.Port.PORT_STATE p) = 3 ∧
    ((c.enterUp p).portOf p).creditSeen = false ∧ ((c.enterUp p).portOf p).txq = [] ∧
    ((c.enterUp p).portOf p).grant.num 0 = 512 ∧ ((c.enterUp p).portOf p).grant.num 1 = 256 ∧
    ((c.enterUp p).portOf p).grant.num 2 = 64 ∧ ((c.enterUp p).portOf p).grant.num 3 = 64 ∧
    ((c.enterUp p).sessionOf (0xFF00 + p)).isOpen = true ∧ ∃ x, Out.cell p Cy.credit x ∈ (c.enterUp p).out := by
  obtain ⟨d, hd⟩ : ∃ d, d = (((c.updPort p freshPort).put
    (Obj.Port.PORT_STATE p) 3).updSession (0xFF00 + p) fun _ => { Session.closed with isOpen := true }) := ⟨_, rfl⟩
  have henter : c.enterUp p = d.creditSend p := by rw [hd]; rfl
  have hstate : d.get (Obj.Port.PORT_STATE p) = 3 := by
    rw [hd]
    exact get_put_self _ _ _
  have hport : d.portOf p = freshPort (c.portOf p) := by
    rw [hd]
    exact portOf_updPort_self c p freshPort
  have hup : d.portUp p = true := by simp [portUp, portState, hstate]
  obtain ⟨honly, hgranted, hnum, x, hout, -⟩ := creditSend_facts hup
  have hgrant : ∀ v, ((d.creditSend p).portOf p).grant.num v = Tbl.num [(0, 512), (1, 256), (2, 64), (3, 64)] v := fun v => by
    have hv := hnum v
    rw [Prod.mk.injEq] at hv
    rw [hport, freshPort] at hv
    have hzero : Tbl.num [] v = 0 := rfl
    obtain ⟨hv, -⟩ := hv
    rw [hv]
    split
    · exact congrArg (Tbl.num [(0, 512), (1, 256), (2, 64), (3, 64)] v + ·) hzero
    · rfl
  rw [henter]
  refine ⟨(honly.get _).trans hstate, ?_, ?_, hgrant 0, hgrant 1, hgrant 2, hgrant 3, ?_, x, ?_⟩
  · rw [hgranted, hport]
    rfl
  · rw [hgranted, hport]
    rfl
  · have hsession : (d.creditSend p).sessionOf (0xFF00 + p) = d.sessionOf (0xFF00 + p) := by rw [sessionOf, honly.1, sessionOf]
    rw [hsession, hd, sessionOf_updSession_self]
  · rw [hout]
    exact List.mem_append_right _ (List.mem_singleton.2 rfl)

/-- A good codeword on time at a lane that holds lock brings an ALIGNING port UP. -/
theorem codeword_up (hstate : c.portState p = 2) (htr : (c.hrLane p l).trained = true) (hlock : (c.hrLane p l).locked = true)
    (hgood : cw.good = true) (hbad : (c.hrLane p l).fcoBad < 7) (hlag : (c.lagging p (cwSeq cw)).1 = false) :
    ∃ d : Core, c.codeword p l cw = d.enterUp p := by
  have hst : (c.lagNoted p l cw).portState p = 2 := (lagNoted_state c p l cw).trans hstate
  have hdown : (c.lagNoted p l cw).portUp p = false := by simp [portUp, hst]
  have hstay : (c.lagNoted p l cw).checkAligned p = c.lagNoted p l cw := by
    rw [checkAligned, if_neg (by simp [hdown])]
  rw [codeword_good (by rw [hstate]; decide) htr hgood, if_neg (by simp [hlock]), if_neg (by simp [hlock]), if_neg (by simp [hdown]),
    hstay, followed]
  have hk : ¬ 8 ≤ (if cwFco cw = (272 - (c.hrLane p l).phase) % 272 then 0 else (c.hrLane p l).fcoBad + 1) := by
    split <;> omega
  have hquiet := (extract_quiet (p := p) (l := l) (n := unroll (c.portOf p).front (cwSeq cw)) (cw := cw)
    (c := (c.lagNoted p l cw).updHrLane p l fun s =>
      { s with fcoBad := if cwFco cw = (272 - (c.hrLane p l).phase) % 272 then 0 else (c.hrLane p l).fcoBad + 1 })
    (((portOnly_updHrLane _ p l _).portUp p).trans hdown)).1
  have hst' := (hquiet.portState p).trans (((portOnly_updHrLane (c.lagNoted p l cw) p l _).portState p).trans hst)
  rw [if_neg hk, if_pos (by rw [hst', lateOf_eq, hlag]; rfl)]
  exact ⟨_, rfl⟩

end Core

/-! ## The commands -/

variable {s : State} {p : Port} {l : HrLane} {cw : Codeword}

theorem exec_codewordReceive (p : Port) (l : HrLane) (cw : Codeword) (s : State) (h : cw.wf = true) :
    exec (.codewordReceive p l cw) s = .next (s.onPower fun c => c.codeword p.val l.val cw) := formed_of_wf h

theorem lanes_bad (hu : s.core.seqUp = true) (hwf : cw.wf = true) (hbad : cw.good = false) (hstate : s.core.portState p.val ≠ 0)
    (htr : (s.core.hrLane p.val l.val).trained = true) (hbox : (s.core.portOf p.val).inbox = [])
    (hlock : (s.core.hrLane p.val l.val).locked = false ∨ (s.core.hrLane p.val l.val).bad < 7) :
    AnswersThen (.codewordReceive p l cw) s fun c =>
      (c.hrLane p.val l.val).bad = (s.core.hrLane p.val l.val).bad + 1 ∧
      c.get (Obj.Port.FEC_UNCORRECTABLE p.val) = min (s.core.get (Obj.Port.FEC_UNCORRECTABLE p.val) + 1) (2 ^ 32 - 1) ∧
      (((s.core.hrLane p.val l.val).uncorr.filter fun t => s.core.tick < t + 500000000).length = 16 →
        s.core.Raises (Src.hrFecUncorr p.val) c) ∧
      ∀ k, ¬ isFcKey k → k ≠ Obj.Port.FEC_UNCORRECTABLE p.val → c.get k = s.core.get k := by
  have hbox' : ((s.clear.core.badRaised p.val l.val).portOf p.val).inbox = [] := by
    rw [Core.badRaised_portOf, Core.badCounted_inbox]
    exact hbox
  have heq : s.clear.core.codeword p.val l.val cw =
      (s.clear.core.badRaised p.val l.val).updPort p.val fun s => { s with inbox := [] } := by
    rw [Core.codeword_bad (c := s.clear.core) hstate htr hbad, Core.badCodeword_kept (c := s.clear.core) hlock, Core.deliverCells_nil hbox']
  have honly := Core.portOnly_updPort (s.clear.core.badRaised p.val l.val) p.val fun s => { s with inbox := [] }
  have hkey : ¬ isFcKey (Obj.Port.FEC_UNCORRECTABLE p.val) := by simp; omega
  refine answersThen_onPower (fun c => c.codeword p.val l.val cw) (exec_codewordReceive p l cw s hwf) hu ?_
  rw [heq]
  refine ⟨?_, ?_, fun h16 => ?_, fun k h1 h2 => ?_⟩
  · have hlane := Core.badCounted_lane s.clear.core p.val l.val
    rw [Core.hrLane, Core.portOf_updPort_self, Core.badRaised_portOf]
    exact hlane
  · rw [honly.get, Core.badRaised_get _ _ _ hkey]
    exact Core.badCounted_self s.clear.core p.val l.val
  · have hlen : (s.clear.core.recentBad p.val l.val).length = 17 := by
      rw [Core.recentBad, List.length_append]
      exact congrArg (· + 1) h16
    exact (Core.badRaised_raises s.clear.core p l.val hlen).of_get (honly.get _)
  · rw [honly.get, Core.badRaised_get _ _ _ h1, Core.badCounted_get _ _ _ h2]
    rfl

theorem lanes_locks (hu : s.core.seqUp = true) (hwf : cw.wf = true) (hgood : cw.good = true) (hstate : s.core.portState p.val = 1)
    (htr : (s.core.hrLane p.val l.val).trained = true) (hlock : (s.core.hrLane p.val l.val).locked = false)
    (h2 : 2 ≤ (s.core.hrLane p.val l.val).good) (hf : cwFco cw < 640) : AnswersThen (.codewordReceive p l cw) s fun c =>
      c.get (Obj.Port.PORT_STATE p.val) = 2 ∧ (c.hrLane p.val l.val).locked = true ∧
      c.bitOf (Obj.Port.LANE_MASK_RX p.val) l.val = true ∧
      c.get (Obj.Port.LANE_MASK_TX p.val) = (s.core.portOf p.val).wantTx := by
  have hfacts := Core.codeword_locks_facts (c := s.clear.core) hstate htr hlock hgood h2 hf
  exact answersThen_onPower (fun c => c.codeword p.val l.val cw) (exec_codewordReceive p l cw s hwf) hu hfacts

theorem lanes_up (hu : s.core.seqUp = true) (hwf : cw.wf = true) (hgood : cw.good = true) (hstate : s.core.portState p.val = 2)
    (htr : (s.core.hrLane p.val l.val).trained = true) (hlock : (s.core.hrLane p.val l.val).locked = true)
    (hbad : (s.core.hrLane p.val l.val).fcoBad < 7) (hlag : (s.core.lagging p.val (cwSeq cw)).1 = false) :
    AnswersThen (.codewordReceive p l cw) s fun c =>
      c.get (Obj.Port.PORT_STATE p.val) = 3 ∧ (c.portOf p.val).creditSeen = false ∧ (c.portOf p.val).txq = [] ∧
      (c.portOf p.val).grant.num 0 = 512 ∧ (c.portOf p.val).grant.num 1 = 256 ∧ (c.portOf p.val).grant.num 2 = 64 ∧
      (c.portOf p.val).grant.num 3 = 64 ∧ (c.sessionOf (0xFF00 + p.val)).isOpen = true ∧
      ∃ x, Out.cell p.val Cy.credit x ∈ c.out := by
  have hlag' : (s.clear.core.lagging p.val (cwSeq cw)).1 = false :=
    (Core.lagging_congr (c := s.core) (d := s.clear.core) rfl rfl _).trans hlag
  obtain ⟨d, heq⟩ := Core.codeword_up (c := s.clear.core) hstate htr hlock hgood hbad hlag'
  refine answersThen_onPower (fun c => c.codeword p.val l.val cw) (exec_codewordReceive p l cw s hwf) hu ?_
  rw [heq]
  exact Core.enterUp_facts d p.val

/-- Settles O21, clause by clause: training, the mask at SEQ = 0, codewords, and the way to UP. -/
theorem laneStates : Obligations.LaneStates := by
  unfold Obligations.LaneStates
  exact ⟨fun _ _ _ => lanes_restart_transmit, fun _ _ _ => lanes_restart_receive, fun _ _ _ => lanes_restart_locked,
    fun _ _ _ => lanes_trained_transmit, fun _ _ _ => lanes_trained_receive, fun _ _ => lanes_mask, fun _ _ => lanes_last,
    fun _ _ _ _ => lanes_bad, fun _ _ _ _ => lanes_locks, fun _ _ _ _ => lanes_up⟩

end Sys2Proof.Machine
end

section
/-! PROOFS. WRITE and READ transactions of a host (02_headrace_links.md R41, R43, R51, R55). -/

namespace Sys2Proof.Machine

/-! ## Tags and what they read -/

theorem HrPortState.GrantedAs.tagUsed {x y : HrPortState} (h : x.GrantedAs y) (tag : Nat) : y.tagUsed tag = x.tagUsed tag := by
  rw [h]
  rfl

theorem HrPortState.GrantedAs.txq {x y : HrPortState} (h : x.GrantedAs y) : y.txq = x.txq := by rw [h]
theorem HrPortState.GrantedAs.readTxns {x y : HrPortState} (h : x.GrantedAs y) : y.readTxns = x.readTxns := by rw [h]
theorem HrPortState.GrantedAs.writeTxns {x y : HrPortState} (h : x.GrantedAs y) : y.writeTxns = x.writeTxns := by rw [h]
theorem HrPortState.GrantedAs.credit {x y : HrPortState} (h : x.GrantedAs y) (v : Nat) : y.credit v = x.credit v := by
  rw [h]
  rfl

theorem HrPortState.SentAs.readTxns {x y : HrPortState} (h : x.SentAs y) : y.readTxns = x.readTxns := by rw [h]
theorem HrPortState.SentAs.writeTxns {x y : HrPortState} (h : x.SentAs y) : y.writeTxns = x.writeTxns := by rw [h]
theorem HrPortState.SentAs.grant {x y : HrPortState} (h : x.SentAs y) : y.grant = x.grant := by rw [h]
theorem HrPortState.SentAs.freed {x y : HrPortState} (h : x.SentAs y) : y.freed = x.freed := by rw [h]

namespace Core

variable {c d : Core} {p r off n : Nat} {x : Cell}

theorem scOf_lt (c : Core) (ha : Nat) : c.scOf ha < 32 := by
  unfold scOf dramOf mapHa
  dsimp only
  split <;> exact field_lt _ _ _

/-- The checks of a READ or WRITE against its region read objects alone. -/
theorem regionCheck_congr (h : ∀ k, d.get k = c.get k) (p r off n : Nat) : d.regionCheck p r off n = c.regionCheck p r off n := by
  have hdata : d.dataServed = c.dataServed := by rw [dataServed, inService, dev, h, dataServed, inService, dev]
  have hsec : d.portSecure p = c.portSecure p := by rw [portSecure, bitOf_congr p (h _), portSecure]
  rw [regionCheck, regionCheck, hdata, hsec, h, h, h, bitOf_congr p (h _)]

theorem portOnly_tookCredit (c : Core) (p v : Nat) : PortOnly p c (c.tookCredit p v) := portOnly_updPort c p _

theorem portOf_tookCredit (c : Core) (p v : Nat) : (c.tookCredit p v).portOf p =
    { c.portOf p with recv := (c.portOf p).recv.setNum v ((c.portOf p).recv.num v + 1) } := portOf_updPort_self c p _

/-! ## WRITE (R41) -/

/-- The transaction that a WRITE cell begins. -/
def begunWrite (x : Cell) : WriteTxn :=
  { tag := x.tag.toNat, region := cellRegion x, off := cellOffset x, blocks := cellBlocks x, cells := 1, fate := .good }

theorem writeCell_begins (hpart : (c.portOf p).partialWrite = none) (htag : (c.portOf p).tagUsed x.tag.toNat = false)
    (hcrc : pcrcOk x = true) : c.writeCell p x = c.keepWrite p (begunWrite x) x.last := by
  rw [writeCell]
  dsimp only
  rw [hpart]
  dsimp only
  rw [if_neg (by rw [htag]; decide), if_neg (by rw [hcrc]; decide)]
  rfl

/-- One burst of a transaction is sent to its controller. -/
def issueStep (base : Nat) (o : Owner) (a : Core × Nat) (b : Nat × Bool) : Core × Nat :=
  (a.1.request (writeReq (base + a.2) 3 b.1 b.2 o), a.2 + 1)

/-- Each burst of a transaction stands at its controller. -/
theorem issueSteps_facts (base : Nat) (o : Owner) (l : List (Nat × Bool)) (c : Core) (k : Nat) :
    c.MemOnly (l.foldl (issueStep base o) (c, k)).1 ∧ c.KeepsArriving (l.foldl (issueStep base o) (c, k)).1 ∧
    ∀ (i : Nat) (b : Nat × Bool), l[i]? = some b →
      ∃ q ∈ ((l.foldl (issueStep base o) (c, k)).1.mcOf (c.scOf (base + (k + i)))).arriving,
        q.ha = base + (k + i) ∧ q.write = true ∧ q.data = b.1 ∧ q.poison = b.2 := by
  induction l generalizing c k with
  | nil => exact ⟨MemOnly.refl c, KeepsArriving.refl c, fun i b h => absurd h (by simp)⟩
  | cons a l ih =>
    obtain ⟨h1, k1, hin⟩ := request_facts c (writeReq (base + k) 3 a.1 a.2 o)
    obtain ⟨h2, k2, hall⟩ := ih (c.request (writeReq (base + k) 3 a.1 a.2 o)) (k + 1)
    refine ⟨h1.trans h2, k1.trans k2, fun i b hb => ?_⟩
    cases i with
    | zero =>
      obtain rfl : a = b := by simpa using hb
      exact ⟨_, k2 _ _ hin, rfl, rfl, rfl, rfl⟩
    | succ i =>
      obtain ⟨q, hq, hfacts⟩ := hall i b (by simpa using hb)
      have hidx : k + 1 + i = k + (i + 1) := by omega
      rw [h1.scOf, hidx] at hq
      rw [hidx] at hfacts
      exact ⟨q, hq, hfacts⟩

theorem issueWrite_eq (c : Core) (p : Nat) (t : WriteTxn) (h : t.fate = .good) : c.issueWrite p t =
    (t.blocks.foldl (issueStep (c.regionHa t.region + t.off) (.hrWrite p t.tag (c.portOf p).ups))
      (c.setPort p { c.portOf p with writeTxns := (c.portOf p).writeTxns ++
        [{ tag := t.tag, cells := t.cells, left := t.blocks.length, retry := false }] }, 0)).1 := by
  have hs : ¬ t.fate = WriteFate.silent := by rw [h]; decide
  rw [issueWrite]
  dsimp only
  rw [if_neg hs, if_neg hs]
  rfl

/-- The flight of an applied WRITE transaction. -/
def flightOf (t : WriteTxn) : WriteFlight := { tag := t.tag, cells := t.cells, left := t.blocks.length, retry := false }

theorem issueWrite_facts (c : Core) (p : Nat) (t : WriteTxn) (h : t.fate = .good) :
    (c.issueWrite p t).portOf p = { c.portOf p with writeTxns := (c.portOf p).writeTxns ++ [flightOf t] } ∧
    ∀ (i : Nat) (b : Nat × Bool), t.blocks[i]? = some b →
      ∃ q ∈ ((c.issueWrite p t).mcOf (c.scOf (c.regionHa t.region + t.off + i))).arriving,
        q.ha = c.regionHa t.region + t.off + i ∧ q.write = true ∧ q.data = b.1 ∧ q.poison = b.2 := by
  obtain ⟨hmem, -, hall⟩ := issueSteps_facts (c.regionHa t.region + t.off) (.hrWrite p t.tag (c.portOf p).ups) t.blocks
    (c.setPort p { c.portOf p with writeTxns := (c.portOf p).writeTxns ++ [flightOf t] }) 0
  rw [issueWrite_eq c p t h]
  refine ⟨(hmem.portOf p).trans (portOf_setPort_self c p _), fun i b hb => ?_⟩
  have hi := hall i b hb
  rw [Nat.zero_add] at hi
  exact hi

/-- With every subchannel in service and nothing held a checked transaction is issued at once. -/
theorem applyWrite_issues {t : WriteTxn} (hheld : (c.portOf p).held = []) (hout : ∀ n < 32, c.scOut n = false) :
    c.applyWrite p t = c.issueWrite p t := by
  have hnone : ∀ (f : Nat → Bool), ((c.writeScs t).any fun sc => c.scOut sc && f sc) = false := fun f => by
    rw [List.any_eq_false]
    intro sc hsc
    obtain ⟨i, -, rfl⟩ := List.mem_map.1 hsc
    simp [hout _ (scOf_lt c _)]
  have hnone' : ((c.writeScs t).any c.scOut) = false := by
    have h := hnone fun _ => true
    simpa only [Bool.and_true] using h
  rw [applyWrite, if_neg (by rw [hnone]; decide), if_neg (by rw [hnone', hheld]; decide)]

theorem endWrite_applies {t : WriteTxn} (hfate : t.fate = .good) (hcheck : c.regionCheck p t.region t.off t.blocks.length = none)
    (hplain : c.get (Obj.Region.PERSONALITY t.region) = 1) :
    c.endWrite p t = (c.updPort p fun s => { s with partialWrite := none }).applyWrite p t := by
  rw [endWrite, hfate]
  dsimp only
  rw [hcheck]
  dsimp only
  rw [if_neg (by simp [hplain])]

theorem writeResponse_eq {tag : Nat} {t : WriteFlight} (hfind : (c.portOf p).writeTxns.find? (fun t => t.tag == tag) = some t)
    (hleft : t.left = 0) : c.writeResponse p tag =
      ((c.updPort p fun s => { s with writeTxns := s.writeTxns.filter fun u => u.tag != tag }).freeCells p Vc.blk t.cells).respond p tag
        (if t.retry then 3 else 0) Cy.write 0 := by
  rw [writeResponse, hfind]
  dsimp only
  rw [if_neg (by rw [hleft]; decide)]

/-! ## READ (R43) -/

/-- One block of a READ is asked of its controller. -/
def readStep (base p tag ups : Nat) (a : Core × Nat) (b : ReadBlock) : Core × Nat :=
  (match b.src with
   | some o => a.1.request (readReq (base + o) 3 (.hrRead p tag a.2 ups))
   | none => a.1, a.2 + 1)

theorem memOnly_issueRead (c : Core) (p : Nat) (t : ReadTxn) : c.MemOnly (c.issueRead p t) := by
  have hfold : ∀ (l : List ReadBlock) (base ups : Nat) (a : Core × Nat), a.1.MemOnly (l.foldl (readStep base p t.tag ups) a).1 := by
    intro l base ups
    induction l with
    | nil => exact fun a => MemOnly.refl a.1
    | cons b l ih =>
      refine fun a => MemOnly.trans ?_ (ih _)
      unfold readStep
      cases b.src with
      | none => exact MemOnly.refl a.1
      | some o => exact memOnly_request a.1 _
  exact hfold t.blocks _ _ (c, 0)

theorem countSlowWakes_objs (c : Core) (p r off n : Nat) : c.ObjsOnly (c.countSlowWakes p r off n) := by
  have hfold : ∀ (l : List Nat) (c : Core), c.ObjsOnly (l.foldl (fun c l =>
      if c.get (Obj.Lease.STATE l) = 1 && c.get (Obj.Lease.REGION l) = r && c.get (Obj.Lease.PORT l) = p then
        c.inc (Obj.Lease.SLOW_WAKES l) else c) c) := by
    intro l
    induction l with
    | nil => exact fun c => rfl
    | cons a l ih =>
      refine fun c => ObjsOnly.trans ?_ (ih _)
      dsimp only
      split
      · exact objsOnly_put _ _ _
      · rfl
  unfold countSlowWakes
  dsimp only
  split
  · exact hfold _ c
  · rfl

/-- The transaction that an admitted READ cell begins. -/
def begunRead (c : Core) (x : Cell) : ReadTxn :=
  { tag := x.tag.toNat, region := cellRegion x, off := cellOffset x, sent := 0,
    blocks := (c.readSources (cellRegion x) (cellOffset x) x.plen.toNat).map fun b =>
      { src := b.at_, got := if b.at_.isNone then some (0, 0) else none, gen := b.gen, ready := b.ready, stale := b.stale,
        notReady := b.notReady } }

theorem begunRead_length (c : Core) (x : Cell) : (begunRead c x).blocks.length = x.plen.toNat := by simp [begunRead, readSources]

/-- An admitted READ stands among the port's transactions; its grants and freed cells stay. -/
theorem readCell_admitted (htag : (c.portOf p).tagUsed x.tag.toNat = false) (hcrc : pcrcOk x = true)
    (hcheck : c.regionCheck p (cellRegion x) (cellOffset x) x.plen.toNat = none) :
    ((c.readCell p x).portOf p).readTxns = (c.portOf p).readTxns ++ [begunRead c x] ∧
    ((c.readCell p x).portOf p).grant = (c.portOf p).grant ∧ ((c.readCell p x).portOf p).freed = (c.portOf p).freed := by
  obtain ⟨h, d, hd, hcell⟩ : ∃ (h : HrPortState → List HeldOp) (d : Core), d = ((c.countSlowWakes p (cellRegion x) (cellOffset x) x.plen.toNat).updPort p fun s =>
        { s with readTxns := s.readTxns ++ [begunRead c x], held := h s }) ∧
      (c.readCell p x = d ∨ c.readCell p x = d.issueRead p (begunRead c x)) := by
    rw [readCell]
    dsimp only
    rw [if_neg (by rw [htag]; decide), if_neg (by rw [hcrc]; decide), hcheck]
    dsimp only
    refine ⟨fun s => if c.behindWrite p (cellRegion x) (cellOffset x) x.plen.toNat then s.held ++ [.read x.tag.toNat] else s.held, _, rfl, ?_⟩
    split
    · exact .inl rfl
    · exact .inr rfl
  have hport : (c.readCell p x).portOf p = d.portOf p := by
    rcases hcell with hcell | hcell
    · rw [hcell]
    · rw [hcell, (memOnly_issueRead d p _).portOf]
  rw [hport, hd, portOf_updPort_self, (countSlowWakes_objs c _ _ _ _).portOf]
  exact ⟨rfl, rfl, rfl⟩

/-- Before it is answered, a refusal is noted in objects and events alone. -/
theorem answer_facts (c : Core) (p tag ty idx : Nat) (s : Status) : ∃ d : Core, c.answer p tag ty idx s = d.respond p tag s.code ty idx ∧
    (∀ q, d.portOf q = c.portOf q) ∧ (p < 8 → d.portUp p = c.portUp p) := by
  unfold answer
  dsimp only
  refine ⟨_, rfl, fun q => ?_, fun hp => ?_⟩
  · split_ifs
    · exact ((objsOnly_put c _ _).trans (objsOnly_put _ _ _)).portOf q
    · exact (portOf_raise _ _ _ _).trans (((objsOnly_put c _ _).trans (objsOnly_put _ _ _)).portOf q)
    · rfl
  · rw [portUp, portUp, portState, portState]
    split_ifs
    · rw [sawMalformed, get_inc_ne _ (by simp), get_flag_ne _ _ (by simp)]
    · rw [denied, get_raise _ _ _ (by simp; omega), get_flag_ne _ _ (by simp; omega), get_inc_ne _ (by simp; omega)]
    · rfl

theorem readCell_refused {st : Status} (htag : (c.portOf p).tagUsed x.tag.toNat = false) (hcrc : pcrcOk x = true)
    (hcheck : c.regionCheck p (cellRegion x) (cellOffset x) x.plen.toNat = some st) :
    c.readCell p x = c.answer p x.tag.toNat Cy.read 0 st := by
  rw [readCell]
  dsimp only
  rw [if_neg (by rw [htag]; decide), if_neg (by rw [hcrc]; decide), hcheck]

theorem readResponse_last {tag : Nat} {t : ReadTxn} (hfind : (c.portOf p).readTxns.find? (fun t => t.tag == tag) = some t)
    (hgot : ∀ b ∈ slice (4 * t.sent) 4 t.blocks, b.got ≠ none) (hlast : t.blocks.length ≤ 4 * t.sent + 4) :
    c.readResponse p tag = (c.updPort p fun s => { s with readTxns := s.readTxns.filter fun u => u.tag != tag }).send p Vc.rsp Cy.response
      (readCellOf tag t.sent true (slice (4 * t.sent) 4 t.blocks)) := by
  have hall : ((slice (4 * t.sent) 4 t.blocks).any fun b => b.got.isNone) = false := by
    rw [List.any_eq_false]
    intro b hb h
    exact hgot b hb (Option.isNone_iff_eq_none.1 h)
  rw [readResponse, hfind]
  dsimp only
  rw [if_neg (by rw [hall]; decide)]
  simp only [hlast, decide_true, if_true]

end Core

/-! ## The commands -/

variable {s : State} {p : Port} {x : Cell}

theorem exec_writeCell (p : Port) (x : Cell) (s : State) (h : x.wf = true) :
    exec (.writeCell p x) s = .next (s.onPower fun c => c.writeIn p.val x) := formed_of_wf h

theorem exec_readRequest (p : Port) (x : Cell) (s : State) (h : x.wf = true) :
    exec (.readRequest p x) s = .next (s.onPower fun c => c.readIn p.val x) := formed_of_wf h

theorem transactions_kept (h : Arrives s p.val Cy.write x) (htag : (s.core.portOf p.val).tagUsed x.tag.toNat = false)
    (hlast : x.last = false) : AnswersCore (.writeCell p x) s fun c =>
      (∃ t, (c.portOf p.val).partialWrite = some t ∧ t.tag = x.tag.toNat ∧ t.region = cellRegion x ∧
        t.off = cellOffset x ∧ t.blocks = cellBlocks x ∧ t.cells = 1 ∧ t.fate = .good) ∧
      (c.portOf p.val).recv.num 1 = (s.core.portOf p.val).recv.num 1 + 1 ∧ ∀ k, c.get k = s.core.get k := by
  obtain ⟨hu, hwf, hrec, hcrc, hpart⟩ := h
  have hport := Core.portOf_tookCredit s.clear.core p.val (typeVc Cy.write)
  have heq : s.clear.core.writeIn p.val x =
      (s.clear.core.tookCredit p.val (typeVc Cy.write)).updPort p.val fun s => { s with partialWrite := some (Core.begunWrite x) } := by
    rw [Core.writeIn, Core.receive_of_receives (c := s.clear.core) hrec (by decide) (by decide) hpart,
      Core.writeCell_begins (by rw [hport]; exact hpart) (by rw [hport]; exact htag) hcrc, Core.keepWrite,
      if_neg (by rw [hlast]; decide)]
  have honly := (Core.portOnly_tookCredit s.clear.core p.val (typeVc Cy.write)).trans
    (Core.portOnly_updPort _ p.val fun s => { s with partialWrite := some (Core.begunWrite x) })
  refine answersCore_onPower (fun c => c.writeIn p.val x) (exec_writeCell p x s hwf) hu ?_ ?_
  · rw [heq, honly.req]
    rfl
  · rw [heq, Core.portOf_updPort_self, hport]
    exact ⟨⟨_, rfl, rfl, rfl, rfl, rfl, rfl, rfl⟩,
      num_setNum_self (s.clear.core.portOf p.val).recv 1 ((s.clear.core.portOf p.val).recv.num 1 + 1), honly.get⟩

theorem transactions_issued (h : Arrives s p.val Cy.write x) (htag : (s.core.portOf p.val).tagUsed x.tag.toNat = false)
    (hlast : x.last = true) (hcheck : s.core.regionCheck p.val (cellRegion x) (cellOffset x) (cellBlocks x).length = none)
    (hplain : s.core.get (Obj.Region.PERSONALITY (cellRegion x)) = 1) (hheld : (s.core.portOf p.val).held = [])
    (hout : ∀ n < 32, s.core.scOut n = false) : AnswersThen (.writeCell p x) s fun c =>
      (c.portOf p.val).partialWrite = none ∧
      (∃ t ∈ (c.portOf p.val).writeTxns, t.tag = x.tag.toNat ∧ t.cells = 1 ∧ t.left = (cellBlocks x).length ∧ t.retry = false) ∧
      ∀ (i : Nat) (b : Nat × Bool), (cellBlocks x)[i]? = some b →
        ∃ r ∈ (c.mcOf (s.core.scOf (s.core.regionHa (cellRegion x) + cellOffset x + i))).arriving,
          r.ha = s.core.regionHa (cellRegion x) + cellOffset x + i ∧ r.write = true ∧ r.data = b.1 ∧ r.poison = b.2 := by
  obtain ⟨hu, hwf, hrec, hcrc, hpart⟩ := h
  have hport := Core.portOf_tookCredit s.clear.core p.val (typeVc Cy.write)
  have honly := Core.portOnly_tookCredit s.clear.core p.val (typeVc Cy.write)
  have honly' := honly.trans (Core.portOnly_updPort _ p.val fun s => { s with partialWrite := none })
  have hport' : (((s.clear.core.tookCredit p.val (typeVc Cy.write)).updPort p.val fun s => { s with partialWrite := none }).portOf
      p.val).partialWrite = none ∧ (((s.clear.core.tookCredit p.val (typeVc Cy.write)).updPort p.val fun s =>
        { s with partialWrite := none }).portOf p.val).held = [] := by
    rw [Core.portOf_updPort_self, hport]
    exact ⟨rfl, hheld⟩
  have heq : s.clear.core.writeIn p.val x =
      ((s.clear.core.tookCredit p.val (typeVc Cy.write)).updPort p.val fun s => { s with partialWrite := none }).issueWrite p.val
        (Core.begunWrite x) := by
    rw [Core.writeIn, Core.receive_of_receives (c := s.clear.core) hrec (by decide) (by decide) hpart,
      Core.writeCell_begins (by rw [hport]; exact hpart) (by rw [hport]; exact htag) hcrc, Core.keepWrite, if_pos hlast,
      Core.endWrite_applies (t := Core.begunWrite x) rfl ((Core.regionCheck_congr honly.get _ _ _ _).trans hcheck) ((honly.get _).trans hplain)]
    refine Core.applyWrite_issues hport'.2 fun n hn => ?_
    rw [Core.scOut, Core.scOffline, Core.scState, honly'.get, Core.mcOf, honly'.mc]
    exact hout n hn
  generalize (s.clear.core.tookCredit p.val (typeVc Cy.write)).updPort p.val (fun s => { s with partialWrite := none }) = d
    at honly' hport' heq
  obtain ⟨hafter, hall⟩ := Core.issueWrite_facts d p.val (Core.begunWrite x) rfl
  have hsc : ∀ ha, d.scOf ha = s.core.scOf ha := fun ha => by
    rw [Core.scOf, Core.dramOf, Core.addrMap, honly'.get]
    rfl
  have hbase : d.regionHa (cellRegion x) = s.core.regionHa (cellRegion x) := by
    rw [Core.regionHa, honly'.get]
    rfl
  refine answersThen_onPower (fun c => c.writeIn p.val x) (exec_writeCell p x s hwf) hu ?_
  rw [heq, hafter]
  refine ⟨hport'.1, ⟨_, List.mem_append_right _ (List.mem_singleton.2 rfl), rfl, rfl, rfl, rfl⟩, fun i b hb => ?_⟩
  have hi := hall i b hb
  rw [hsc] at hi
  exact hbase ▸ hi

/-- A response sent at once, from a port whose credit and queue another has. -/
theorem mem_out_respond {c d : Core} {p : Nat} {x : Cell} {ty : Nat} (hup : d.portUp p = c.portUp p)
    (hq : (d.portOf p).txq = (c.portOf p).txq) (hcr : (d.portOf p).credit Vc.rsp = (c.portOf p).credit Vc.rsp)
    (h1 : c.portUp p = true) (h2 : (c.portOf p).txq = []) (h3 : 0 < (c.portOf p).credit Vc.rsp) :
    Out.cell p ty x ∈ (d.send p Vc.rsp ty x).out :=
  Core.mem_out_send (hup.trans h1) (hq.trans h2) (hcr ▸ h3)

theorem transactions_written {tag : Nat} {t : WriteFlight} (hu : s.core.seqUp = true)
    (hfind : (s.core.portOf p.val).writeTxns.find? (fun t => t.tag == tag) = some t) (hleft : t.left = 0) :
    AnswersCore (.writeResponse p tag) s fun c =>
      (c.portOf p.val).writeTxns = (s.core.portOf p.val).writeTxns.filter (fun u => u.tag != tag) ∧
      (c.portOf p.val).grant.num 1 + (c.portOf p.val).freed.num 1 =
        (s.core.portOf p.val).grant.num 1 + (s.core.portOf p.val).freed.num 1 + t.cells ∧
      (s.core.portUp p.val = true → (s.core.portOf p.val).txq = [] → 0 < (s.core.portOf p.val).credit Vc.rsp →
        Out.cell p.val Cy.response (mkCell Cy.response Vc.rsp true false tag 0
          (responseArg (if t.retry then 3 else 0) Cy.write 0 false false 0 0) []) ∈ c.out) ∧
      ∀ k, c.get k = s.core.get k := by
  have heq := Core.writeResponse_eq (c := s.clear.core) hfind hleft
  have h1 := Core.portOnly_updPort s.clear.core p.val fun s => { s with writeTxns := s.writeTxns.filter fun u => u.tag != tag }
  have hport := Core.portOf_updPort_self s.clear.core p.val fun s => { s with writeTxns := s.writeTxns.filter fun u => u.tag != tag }
  obtain ⟨h2, hgranted, hsum⟩ := Core.freeCells_facts (s.clear.core.updPort p.val fun s =>
    { s with writeTxns := s.writeTxns.filter fun u => u.tag != tag }) p.val Vc.blk t.cells
  obtain ⟨h3, hsent⟩ := Core.respond_facts ((s.clear.core.updPort p.val fun s =>
    { s with writeTxns := s.writeTxns.filter fun u => u.tag != tag }).freeCells p.val Vc.blk t.cells) p.val tag (if t.retry then 3 else 0)
    Cy.write 0
  have hall := (h1.trans h2).trans h3
  refine answersCore_onPower (fun c => c.writeResponse p.val tag) rfl hu ?_ ?_
  · rw [heq, hall.req]
    rfl
  · rw [heq]
    refine ⟨?_, ?_, fun hup hq hcr => ?_, hall.get⟩
    · rw [hsent.writeTxns, hgranted.writeTxns, hport]
      rfl
    · rw [hsent.grant, hsent.freed, hsum 1, hport]
      rfl
    · refine mem_out_respond (c := s.core) ((h1.trans h2).portUp _) ?_ ?_ hup hq hcr
      · rw [hgranted.txq, hport]
        rfl
      · rw [hgranted.credit, hport]
        rfl

/-- A READ cell takes its place, which is free again at once. -/
theorem readIn_eq (h : Arrives s p.val Cy.read x) : ∃ d : Core, s.clear.core.readIn p.val x = d.readCell p.val x ∧
    Core.PortOnly p.val s.clear.core d ∧ (∀ tag, (d.portOf p.val).tagUsed tag = (s.core.portOf p.val).tagUsed tag) ∧
    (d.portOf p.val).txq = (s.core.portOf p.val).txq ∧ (∀ v, (d.portOf p.val).credit v = (s.core.portOf p.val).credit v) ∧
    (d.portOf p.val).readTxns = (s.core.portOf p.val).readTxns ∧
    (d.portOf p.val).grant.num 1 + (d.portOf p.val).freed.num 1 =
      (s.core.portOf p.val).grant.num 1 + (s.core.portOf p.val).freed.num 1 + 1 := by
  obtain ⟨-, -, hrec, -, hpart⟩ := h
  have h1 := Core.portOnly_tookCredit s.clear.core p.val (typeVc Cy.read)
  have hport := Core.portOf_tookCredit s.clear.core p.val (typeVc Cy.read)
  obtain ⟨h2, hgranted, hsum⟩ := Core.freeCells_facts (s.clear.core.tookCredit p.val (typeVc Cy.read)) p.val Vc.blk 1
  refine ⟨_, ?_, h1.trans h2, fun tag => ?_, ?_, fun v => ?_, ?_, ?_⟩
  · rw [Core.readIn, Core.receive_of_receives (c := s.clear.core) hrec (by decide) (by decide) hpart]
  · rw [hgranted.tagUsed, hport]
    rfl
  · rw [hgranted.txq, hport]
    rfl
  · rw [hgranted.credit, hport]
    rfl
  · rw [hgranted.readTxns, hport]
    rfl
  · rw [hsum 1, hport]
    rfl

theorem transactions_read (h : Arrives s p.val Cy.read x) (htag : (s.core.portOf p.val).tagUsed x.tag.toNat = false)
    (hcheck : s.core.regionCheck p.val (cellRegion x) (cellOffset x) x.plen.toNat = none) :
    AnswersThen (.readRequest p x) s fun c =>
      (∃ t ∈ (c.portOf p.val).readTxns, t.tag = x.tag.toNat ∧ t.region = cellRegion x ∧ t.off = cellOffset x ∧
        t.blocks.length = x.plen.toNat ∧ t.sent = 0) ∧
      (c.portOf p.val).grant.num 1 + (c.portOf p.val).freed.num 1 =
        (s.core.portOf p.val).grant.num 1 + (s.core.portOf p.val).freed.num 1 + 1 := by
  obtain ⟨d, heq, honly, htags, -, -, -, hsum⟩ := readIn_eq h
  obtain ⟨hreads, hgrant, hfreed⟩ := Core.readCell_admitted ((htags _).trans htag) h.2.2.2.1
    ((Core.regionCheck_congr honly.get _ _ _ _).trans hcheck)
  refine answersThen_onPower (fun c => c.readIn p.val x) (exec_readRequest p x s h.2.1) h.1 ?_
  rw [heq, hreads, hgrant, hfreed]
  exact ⟨⟨_, List.mem_append_right _ (List.mem_singleton.2 rfl), rfl, rfl, rfl, Core.begunRead_length d x, rfl⟩, hsum⟩

theorem transactions_refused {st : Status} (h : Arrives s p.val Cy.read x) (htag : (s.core.portOf p.val).tagUsed x.tag.toNat = false)
    (hcheck : s.core.regionCheck p.val (cellRegion x) (cellOffset x) x.plen.toNat = some st)
    (hq : (s.core.portOf p.val).txq = []) (hcr : 0 < (s.core.portOf p.val).credit Vc.rsp) : AnswersThen (.readRequest p x) s fun c =>
      (c.portOf p.val).readTxns = (s.core.portOf p.val).readTxns ∧
      Out.cell p.val Cy.response (mkCell Cy.response Vc.rsp true false x.tag.toNat 0
        (responseArg st.code Cy.read 0 false false 0 0) []) ∈ c.out := by
  obtain ⟨d, heq, honly, htags, htxq, hcredit, hreads, -⟩ := readIn_eq h
  obtain ⟨hu, hwf, hrec, hcrc, -⟩ := h
  have hup : s.core.portUp p.val = true := by
    simp only [Core.receives, Bool.and_eq_true] at hrec
    exact hrec.1.1.1
  have hrefuse := Core.readCell_refused ((htags _).trans htag) hcrc ((Core.regionCheck_congr honly.get _ _ _ _).trans hcheck)
  obtain ⟨e, hanswer, hport, hupe⟩ := Core.answer_facts d p.val x.tag.toNat Cy.read 0 st
  refine answersThen_onPower (fun c => c.readIn p.val x) (exec_readRequest p x s hwf) hu ?_
  rw [heq, hrefuse, hanswer, (Core.respond_facts e p.val _ _ _ _).2.readTxns, hport]
  refine ⟨hreads, mem_out_respond (c := s.core) ((hupe p.isLt).trans (honly.portUp _)) ?_ ?_ hup hq hcr⟩
  · rw [hport, htxq]
  · rw [hport, hcredit]

theorem transactions_answered {tag : Nat} {t : ReadTxn} (hu : s.core.seqUp = true)
    (hfind : (s.core.portOf p.val).readTxns.find? (fun t => t.tag == tag) = some t)
    (hgot : ∀ b ∈ slice (4 * t.sent) 4 t.blocks, b.got ≠ none) (hlast : t.blocks.length ≤ 4 * t.sent + 4) :
    AnswersCore (.readResponse p tag) s fun c =>
      (c.portOf p.val).readTxns = (s.core.portOf p.val).readTxns.filter (fun u => u.tag != tag) ∧
      (s.core.portUp p.val = true → (s.core.portOf p.val).txq = [] → 0 < (s.core.portOf p.val).credit Vc.rsp →
        Out.cell p.val Cy.response (readCellOf tag t.sent true (slice (4 * t.sent) 4 t.blocks)) ∈ c.out) ∧
      ∀ k, c.get k = s.core.get k := by
  have heq := Core.readResponse_last (c := s.clear.core) hfind hgot hlast
  have h1 := Core.portOnly_updPort s.clear.core p.val fun s => { s with readTxns := s.readTxns.filter fun u => u.tag != tag }
  have hport := Core.portOf_updPort_self s.clear.core p.val fun s => { s with readTxns := s.readTxns.filter fun u => u.tag != tag }
  obtain ⟨h2, hsent⟩ := Core.send_facts (s.clear.core.updPort p.val fun s =>
    { s with readTxns := s.readTxns.filter fun u => u.tag != tag }) p.val Vc.rsp Cy.response
    (readCellOf tag t.sent true (slice (4 * t.sent) 4 t.blocks))
  refine answersCore_onPower (fun c => c.readResponse p.val tag) rfl hu ?_ ?_
  · rw [heq, (h1.trans h2).req]
    rfl
  · rw [heq]
    refine ⟨?_, fun hup hq hcr => mem_out_respond (c := s.core) (h1.portUp _) ?_ ?_ hup hq hcr, (h1.trans h2).get⟩
    · rw [hsent.readTxns, hport]
      rfl
    · rw [hport]
      rfl
    · rw [hport]
      rfl

/-- Settles O23: what a WRITE and a READ leave at the port, at the controllers, and on the wire. -/
theorem transactions : Obligations.Transactions := by
  unfold Obligations.Transactions
  exact ⟨fun _ _ _ => transactions_kept, fun _ _ _ => transactions_issued, fun _ _ _ _ => transactions_written,
    fun _ _ _ => transactions_read, fun _ _ _ _ => transactions_refused, fun _ _ _ _ => transactions_answered⟩

end Sys2Proof.Machine
end

section
/-! PROOFS. Trigger windows: ARM, DISARM, RELEASE, and a TRIGGER cell (04_weir_retention.md R103, R104, R108, R112, R114, R116). -/

namespace Sys2Proof.Machine

section
variable {α : Type}

theorem Tbl.mem_of_mem_upd [DecidableEq α] {d : Nat → α} {t : Tbl α} {n : Nat} {f : α → α} {e : Nat × α}
    (h : e ∈ Tbl.upd d t n f) : e = (n, f (Tbl.get d t n)) ∨ e ∈ t := by
  unfold Tbl.upd Tbl.set at h
  split at h
  · exact .inr (Tbl.mem_erase h)
  · exact (Tbl.mem_insert h).imp id Tbl.mem_erase

/-- What holds of every entry and of an unlisted one holds of what a key reads as. -/
theorem Tbl.get_of_forall {P : α → Prop} {d : Nat → α} {t : Tbl α} (hd : ∀ n, P (d n)) (h : ∀ e ∈ t, P e.2) (n : Nat) :
    P (Tbl.get d t n) := by
  induction t with
  | nil => exact hd n
  | cons a t ih =>
    obtain ⟨k, v⟩ := a
    unfold Tbl.get
    split
    · exact h (k, v) List.mem_cons_self
    · exact ih fun e he => h e (List.mem_cons_of_mem _ he)

end

/-- A key of a trigger window. -/
abbrev isWindowKey (k : Nat) : Prop := 0x2A0000 ≤ k ∧ k < 0x2B0000

namespace Core

variable {c d e : Core} {p w : Nat} {x : Cell}

/-! ## Rings that are not blocked (R118) -/

/-- No ring is blocked. -/
def Flowing (c : Core) : Prop := ∀ g ∈ c.rings, g.2.blocked = none

theorem flowing_iff (c : Core) : c.Flowing ↔ c.anyBlocked = false := by
  rw [Flowing, anyBlocked, List.any_eq_false]
  exact ⟨fun h g hg hb => by rw [h g hg] at hb; exact absurd hb (by decide), fun h g hg => by simpa using h g hg⟩

theorem Flowing.unblock (h : c.Flowing) : c.unblock = c := by
  have hnone : (c.rings.filter fun e => e.2.blocked.isSome) = [] := by
    rw [List.filter_eq_nil_iff]
    intro g hg
    rw [h g hg]
    decide
  rw [Core.unblock, hnone]
  rfl

/-- `d` has the windows of `c`, their objects, and no more blocked rings. -/
def WindowsKept (c d : Core) : Prop := d.wins = c.wins ∧ (∀ k, isWindowKey k → d.get k = c.get k) ∧ (c.Flowing → d.Flowing)

theorem WindowsKept.refl (c : Core) : c.WindowsKept c := ⟨rfl, fun _ _ => rfl, id⟩
theorem WindowsKept.trans (h : c.WindowsKept d) (h' : d.WindowsKept e) : c.WindowsKept e :=
  ⟨h'.1.trans h.1, fun k hk => (h'.2.1 k hk).trans (h.2.1 k hk), fun hf => h'.2.2 (h.2.2 hf)⟩

theorem windowsKept_put (c : Core) {k : Nat} (v : Nat) (hk : ¬ isWindowKey k) : c.WindowsKept (c.put k v) :=
  ⟨rfl, fun _ hi => get_put_ne c v fun h => hk (h ▸ hi), id⟩

theorem MemOnly.windowsKept (h : c.MemOnly d) : c.WindowsKept d :=
  ⟨h.wins, fun k hk => h.get (by simp only [isMemKey, isSluiceKey]; omega), fun hf => by rw [Flowing, h.rings]; exact hf⟩

theorem windowsKept_updRing (c : Core) (r : Nat) {f : RingState → RingState} (hf : ∀ g, (f g).blocked = g.blocked) :
    c.WindowsKept (c.updRing r f) := by
  refine ⟨rfl, fun _ _ => rfl, fun hc g hg => ?_⟩
  rcases Tbl.mem_of_mem_upd hg with rfl | hg
  · exact (hf _).trans (Tbl.get_of_forall (P := fun g : RingState => g.blocked = none) (fun _ => rfl) (fun e he => hc e he) r)
  · exact hc g hg

theorem windowsKept_foldl {α : Type} {f : Core → α → Core} (l : List α) (hf : ∀ (c : Core), ∀ a ∈ l, c.WindowsKept (f c a)) (c : Core) :
    c.WindowsKept (l.foldl f c) := by
  induction l generalizing c with
  | nil => exact WindowsKept.refl c
  | cons a l ih =>
    exact (hf c a List.mem_cons_self).trans (ih (fun c b hb => hf c b (List.mem_cons_of_mem _ hb)) _)

theorem windowsKept_rehold (c : Core) {r : Nat} (hr : r < 1024) (ps : List Nat) : c.WindowsKept (c.rehold r ps) := by
  have hsegs : ∀ l, c.WindowsKept (c.setSegs r l) := fun l =>
    (windowsKept_updRing c r (f := fun g => { g with map := l.foldl (fun m e => m.setNum e.1 e.2) g.map }) fun _ => rfl).trans
      (windowsKept_foldl _ (fun c _ _ => (memOnly_request c _).windowsKept) _)
  have hobjs : ∀ (c : Core) u v x, c.WindowsKept (((c.put (Obj.Region.SEGS_HELD r) u).put (Obj.Region.SPANS_USED r) v).put
      (Obj.Quota.SEGS_COMMITTED r) x) := fun c u v x =>
    ((windowsKept_put c u (by simp; omega)).trans (windowsKept_put _ v (by simp; omega))).trans (windowsKept_put _ x (by simp; omega))
  have hfresh : ∀ c : Core, c.WindowsKept (c.refreshRing r) := fun c => by
    unfold refreshRing
    dsimp only
    split
    · exact (hobjs _ _ _ _).trans (windowsKept_put _ _ (by simp; omega))
    · exact hobjs _ _ _ _
  exact WindowsKept.trans (hsegs _) (hfresh _)

/-! ## RELEASE (R116) -/

/-- The window without its members, before their segments are counted again. -/
def dropped (c : Core) (w : Nat) : Core :=
  ((c.updWin w fun s => { s with members := [] }).put (Obj.Window.STATE w) (c.get (Obj.Window.REARM w))).put (Obj.Window.ARM w)
    (c.get (Obj.Window.REARM w))

theorem dropWindow_eq (c : Core) (w : Nat) : c.dropWindow w =
    (c.winOf w).members.foldl (fun c m => c.rehold m.region m.held) (c.dropped w) := rfl

/-- With no ring blocked a release drops the members and rearms or disarms the window. -/
theorem releaseWindow_facts (hw : w < 64) (hreg : ∀ m ∈ (c.winOf w).members, m.region < 1024) (hfree : c.anyBlocked = false) :
    ((c.releaseWindow w).winOf w).members = [] ∧ (c.releaseWindow w).get (Obj.Window.STATE w) = c.get (Obj.Window.REARM w) ∧
    (c.releaseWindow w).get (Obj.Window.ARM w) = c.get (Obj.Window.REARM w) := by
  have hkept : (c.dropped w).WindowsKept (c.dropWindow w) := by
    rw [dropWindow_eq]
    exact windowsKept_foldl _ (fun c m hm => windowsKept_rehold c (hreg m hm) _) _
  have hflow : (c.dropWindow w).Flowing := hkept.2.2 ((flowing_iff c).2 hfree)
  have hwin : (c.dropWindow w).winOf w = (c.dropped w).winOf w := by rw [winOf, hkept.1, winOf]
  have hstate : (c.dropped w).get (Obj.Window.STATE w) = c.get (Obj.Window.REARM w) := by
    rw [dropped, get_put_ne _ _ (by simp), get_put_self]
  rw [releaseWindow, hflow.unblock, hwin, hkept.2.1 _ (by simp; omega), hkept.2.1 _ (by simp; omega), hstate]
  refine ⟨?_, rfl, get_put_self _ _ _⟩
  rw [dropped, winOf_put, winOf_put, winOf_updWin_self]

theorem askRelease_frozen (h : c.get (Obj.Window.STATE w) = 2 ∨ c.get (Obj.Window.STATE w) = 3) :
    c.askRelease w = (.ok, c.releaseWindow w) := by
  rw [askRelease]
  rcases h with h | h <;> simp [h]

theorem armWindow_ok (hstate : c.get (Obj.Window.STATE w) = 0) (hne : (c.usedMembers w).map (fun m => m.2.1) ≠ [])
    (hdist : ((c.usedMembers w).map fun m => m.2.1).eraseDups.length = (c.usedMembers w).length)
    (hring : ((c.usedMembers w).all fun m => c.streamRing m.2.1) = true) :
    c.armWindow w = (.ok, (c.put (Obj.Window.STATE w) 1).put (Obj.Window.ARM w) 1) := by
  have hempty : ((c.usedMembers w).map fun m => m.2.1).isEmpty = false := List.isEmpty_eq_false_iff.2 hne
  rw [armWindow]
  dsimp only
  rw [if_neg (by rw [hstate]; decide), if_neg]
  rw [hempty, hdist, List.length_map, List.all_map]
  simpa using hring

theorem disarmWindow_armed (hstate : c.get (Obj.Window.STATE w) = 1) :
    c.disarmWindow w = (.ok, (c.put (Obj.Window.STATE w) 0).put (Obj.Window.ARM w) 0) := by
  simp [disarmWindow, hstate]

theorem writeValue_window (c : Core) (f : Fuses) (x : World) {n : Nat} (sub : Nat) (bs : List Byte) (h : n < 64) :
    c.writeValue f x (0x2A00 + n) sub bs = c.writeWindow n sub (ofBytes bs) := by
  have hn : 0x2A00 + n - 0x2A00 = n := by omega
  simp (disch := omega) only [writeValue, Bool.and_eq_true, decide_eq_true_eq, if_neg, if_pos]
  rw [hn]

/-! ## A TRIGGER cell (R46, R108) -/

/-- The trigger that a cell carries. -/
def triggerOf (p : Nat) (x : Cell) : Trigger :=
  { src := 0, stream := cellStream x, tidx := field 511 448 (ofBytes (x.payload.take 64)), tt := 0,
    id := field 447 416 (ofBytes (x.payload.take 64)), detector := field 415 400 (ofBytes (x.payload.take 64)),
    level := field 399 384 (ofBytes (x.payload.take 64)),
    delays := (if (ofBytes (x.payload.take 64)).testBit 383 then some (triggerDelays x) else none), port := p }

theorem triggerIn_decides (hrec : c.receives p Cy.trigger x = true) (hcrc : pcrcOk x = true) (hpart : (c.portOf p).partialWrite = none)
    (htag : (c.portOf p).tagUsed x.tag.toNat = false) (hserve : c.inService = true) (hgood : triggerBad x = false) :
    c.triggerIn p x = (((c.tookCredit p Vc.ctl).freeCells p Vc.ctl 1).decideTrigger (cellWindow x) (triggerOf p x)).2.answer p
      x.tag.toNat Cy.trigger 0 (((c.tookCredit p Vc.ctl).freeCells p Vc.ctl 1).decideTrigger (cellWindow x) (triggerOf p x)).1 := by
  obtain ⟨h2, hgranted, -⟩ := freeCells_facts (c.tookCredit p Vc.ctl) p Vc.ctl 1
  have honly := (portOnly_tookCredit c p Vc.ctl).trans h2
  have htag' : (((c.tookCredit p Vc.ctl).freeCells p Vc.ctl 1).portOf p).tagUsed x.tag.toNat = false := by
    rw [hgranted.tagUsed, portOf_tookCredit]
    exact htag
  have hserve' : ((c.tookCredit p Vc.ctl).freeCells p Vc.ctl 1).inService = true := by
    rw [inService, honly.dev]
    exact hserve
  rw [triggerIn, receive_of_receives hrec (by decide) (by decide) hpart]
  rw [show typeVc Cy.trigger = Vc.ctl from rfl]
  generalize (c.tookCredit p Vc.ctl).freeCells p Vc.ctl 1 = d at htag' hserve'
  dsimp only
  rw [if_neg (by rw [htag']; decide), if_neg (by rw [hcrc]; decide), if_neg (by rw [hgood]; decide), if_neg (by rw [hserve']; decide)]
  rfl

theorem eventTime_get (c : Core) (w : Nat) (t : Trigger) (k : Nat) : (c.eventTime w t).2.2.get k = c.get k := by
  unfold eventTime
  split
  · rfl
  · dsimp only
    split <;> rfl

end Core

/-! ## The commands -/

variable {s : State} {n : WindowNo} {w : World} {p : Port} {x : Cell}

theorem window_parts (n : WindowNo) (sub : Nat) (h : sub < 256) : ((0x2A00 + n.val) * 0x100 + sub) / 256 = 0x2A00 + n.val ∧
    ((0x2A00 + n.val) * 0x100 + sub) % 256 = sub := by omega

theorem clearableOf_window {n : WindowNo} {sub : Nat} {r : Row} (hn : sub ≠ 0) (h : (⟨0x2A00, 1, 64, 0, Obj.Window.rows⟩ : Group).row? sub = some r)
    (hrow : ∀ a b, r.chk ≠ .w1c a b) : clearableOf (0x2A00 + n.val) sub = none :=
  clearableOf_of_lookup ((lookup_window hn n.isLt).trans h) hrow

theorem windows_armed (hadm : Admits s w (Obj.Window.ARM n.val) 1) (hstate : s.core.get (Obj.Window.STATE n.val) = 0)
    (hne : (s.core.usedMembers n.val).map (fun m => m.2.1) ≠ [])
    (hdist : ((s.core.usedMembers n.val).map fun m => m.2.1).eraseDups.length = (s.core.usedMembers n.val).length)
    (hring : ((s.core.usedMembers n.val).all fun m => s.core.streamRing m.2.1) = true) : AnswersOk (.windowArm n w) s fun c =>
      c.get (Obj.Window.STATE n.val) = 1 ∧ c.get (Obj.Window.ARM n.val) = 1 ∧
      ∀ k, k ≠ Obj.Window.STATE n.val → k ≠ Obj.Window.ARM n.val → c.get k = s.core.get k := by
  obtain ⟨hidx, hsub⟩ := window_parts n 2 (by decide)
  have heq := Core.armWindow_ok (c := s.clear.core) hstate hne hdist hring
  refine answersOk_writeNum rfl hadm (by rw [hidx, hsub]; exact clearableOf_window (by decide) rfl nofun)
    (by rw [hidx, hsub, coreObject]; omega) (c := (s.clear.core.put (Obj.Window.STATE n.val) 1).put (Obj.Window.ARM n.val) 1) ?_ ?_
  · rw [hidx, hsub, Core.writeValue_window _ _ _ _ _ n.isLt, ofBytes_toBytes_of_fits hadm.2.1]
    exact heq
  · refine ⟨?_, ?_, fun k h1 h2 => ?_⟩
    · rw [Core.get_emit, Core.get_put_ne _ _ (by simp), Core.get_put_self]
    · rw [Core.get_emit, Core.get_put_self]
    · rw [Core.get_emit, Core.get_put_ne _ _ h2, Core.get_put_ne _ _ h1]
      rfl

theorem windows_disarmed (hadm : Admits s w (Obj.Window.ARM n.val) 0) (hstate : s.core.get (Obj.Window.STATE n.val) = 1) :
    AnswersOk (.windowDisarm n w) s fun c =>
      c.get (Obj.Window.STATE n.val) = 0 ∧ c.get (Obj.Window.ARM n.val) = 0 ∧
      ∀ k, k ≠ Obj.Window.STATE n.val → k ≠ Obj.Window.ARM n.val → c.get k = s.core.get k := by
  obtain ⟨hidx, hsub⟩ := window_parts n 2 (by decide)
  have heq := Core.disarmWindow_armed (c := s.clear.core) hstate
  refine answersOk_writeNum rfl hadm (by rw [hidx, hsub]; exact clearableOf_window (by decide) rfl nofun)
    (by rw [hidx, hsub, coreObject]; omega) (c := (s.clear.core.put (Obj.Window.STATE n.val) 0).put (Obj.Window.ARM n.val) 0) ?_ ?_
  · rw [hidx, hsub, Core.writeValue_window _ _ _ _ _ n.isLt, ofBytes_toBytes_of_fits hadm.2.1]
    exact heq
  · refine ⟨?_, ?_, fun k h1 h2 => ?_⟩
    · rw [Core.get_emit, Core.get_put_ne _ _ (by simp), Core.get_put_self]
    · rw [Core.get_emit, Core.get_put_self]
    · rw [Core.get_emit, Core.get_put_ne _ _ h2, Core.get_put_ne _ _ h1]
      rfl

theorem windows_released (hadm : Admits s w (Obj.Window.RELEASE n.val) 1)
    (hstate : s.core.get (Obj.Window.STATE n.val) = 2 ∨ s.core.get (Obj.Window.STATE n.val) = 3)
    (hreg : ∀ m ∈ (s.core.winOf n.val).members, m.region < 1024) (hfree : s.core.anyBlocked = false) :
    AnswersOk (.windowRelease n w) s fun c =>
      (c.winOf n.val).members = [] ∧ c.get (Obj.Window.STATE n.val) = s.core.get (Obj.Window.REARM n.val) ∧
      c.get (Obj.Window.ARM n.val) = s.core.get (Obj.Window.REARM n.val) := by
  obtain ⟨hidx, hsub⟩ := window_parts n 9 (by decide)
  have heq := Core.askRelease_frozen (c := s.clear.core) hstate
  have hfacts := Core.releaseWindow_facts (c := s.clear.core) n.isLt hreg hfree
  refine answersOk_writeNum rfl hadm (by rw [hidx, hsub]; exact clearableOf_window (by decide) rfl nofun)
    (by rw [hidx, hsub, coreObject]; omega) (c := s.clear.core.releaseWindow n.val) ?_ hfacts
  rw [hidx, hsub, Core.writeValue_window _ _ _ _ _ n.isLt, ofBytes_toBytes_of_fits hadm.2.1]
  exact heq

theorem windows_triggered {c0 : Core} {t : Trigger} (h : Arrives s p.val Cy.trigger x)
    (htag : (s.core.portOf p.val).tagUsed x.tag.toNat = false) (hserve : s.core.inService = true) (hgood : triggerBad x = false)
    (hc : c0 = (s.clear.core.tookCredit p.val Vc.ctl).freeCells p.val Vc.ctl 1) (ht : t = Core.triggerOf p.val x)
    (hstate : s.core.get (Obj.Window.STATE (cellWindow x)) = 1) (hok : (c0.decideTrigger (cellWindow x) t).1 = .ok) :
    AnswersThen (.trigger p x) s fun c => ∃ (d : Core) (tt : Nat),
      c = ((d.forwardTrigger (cellWindow x) t tt).winProgress (cellWindow x)).answer p.val x.tag.toNat Cy.trigger 0 .ok ∧
      d.get (Obj.Window.STATE (cellWindow x)) = 2 ∧ d.get (Obj.Window.READY (cellWindow x)) = 0 ∧
      d.get (Obj.Window.GEN (cellWindow x)) = nextGen (s.core.get (Obj.Window.GEN (cellWindow x))) ∧
      d.get (Obj.Window.TRIGGER_ID (cellWindow x)) = t.id ∧ d.get (Obj.Window.TRIGGER_SRC (cellWindow x)) = 0 ∧
      (d.winOf (cellWindow x)).detector = t.detector ∧ (d.winOf (cellWindow x)).level = t.level ∧
      tt = (c0.eventTime (cellWindow x) t).2.1 ∧ d.get (Obj.Window.T_EVENT (cellWindow x)) = tt ∧
      d.bitOf (Obj.Window.FLAGS (cellWindow x)) 0 = true := by
  obtain ⟨hu, hwf, hrec, hcrc, hpart⟩ := h
  have heq := Core.triggerIn_decides (c := s.clear.core) hrec hcrc hpart htag hserve hgood
  have hget : ∀ k, c0.get k = s.core.get k := fun k => by
    rw [hc]
    exact ((Core.portOnly_tookCredit s.clear.core p.val Vc.ctl).trans (Core.freeCells_facts _ p.val Vc.ctl 1).1).get k
  rw [← hc, ← ht] at heq
  obtain ⟨e, he⟩ := Core.decideTrigger_ok ((hget _).trans hstate) hok
  rw [he, hok, Core.eventTime_get, hget] at heq
  obtain ⟨h1, h2, h3, h4, h5, h6, h7, h8, h9⟩ := Core.frozen_facts e (cellWindow x) (nextGen (s.core.get (Obj.Window.GEN (cellWindow x)))) t
    (c0.eventTime (cellWindow x) t).2.1
  refine answersThen_onPower (fun c => c.triggerIn p.val x) (formed_of_wf hwf) hu ?_
  rw [heq]
  exact ⟨_, _, rfl, h1, h2, h3, h4, h5.trans (by rw [ht]; rfl), h7, h8, rfl, h6, h9⟩

/-- Settles O27: ARM, DISARM, RELEASE, and a TRIGGER cell that an ARMED window accepts. -/
theorem triggerWindows : Obligations.TriggerWindows := by
  unfold Obligations.TriggerWindows
  exact ⟨fun _ _ _ => windows_armed, fun _ _ _ => windows_disarmed, fun _ _ _ => windows_released,
    fun _ _ _ _ _ => windows_triggered⟩

end Sys2Proof.Machine
end

section
/-! PROOFS. The fill of the elastic buffer, Millpond's partition and peak, and regions (03_millrace_capture.md R82, R83, R95, R96,
R98). -/

namespace Sys2Proof.Machine

namespace Core

variable {c d e : Core} {r : Nat}

/-! ## The fill may have changed (R96, R98) -/

/-- `d` differs from `c` in objects, the throttle and the collector alone. -/
def WaterOnly (c d : Core) : Prop :=
  d = { c with objs := d.objs, out := d.out, req := d.req, fc := d.fc, ledger := d.ledger, throttled := d.throttled,
               overHigh := d.overHigh }

theorem WaterOnly.refl (c : Core) : c.WaterOnly c := rfl
theorem WaterOnly.trans (h : c.WaterOnly d) (h' : d.WaterOnly e) : c.WaterOnly e := by rw [WaterOnly, h', h]

theorem waterOnly_put (c : Core) (k v : Nat) : c.WaterOnly (c.put k v) := rfl
theorem waterOnly_throttle (c : Core) (x y : Bool) : c.WaterOnly ((c.withThrottled x).withOverHigh y) := rfl
theorem waterOnly_withOverHigh (c : Core) (b : Bool) : c.WaterOnly (c.withOverHigh b) := rfl
theorem FcOnly.waterOnly (h : c.FcOnly d) : c.WaterOnly d := by rw [WaterOnly, h.1]

theorem waterOnly_ite {b : Prop} [Decidable b] {x y : Core} (hx : c.WaterOnly x) (hy : c.WaterOnly y) :
    c.WaterOnly (if b then x else y) := by
  split
  · exact hx
  · exact hy

theorem waterOnly_foldl {α : Type} (l : List α) {f : Core → α → Core} (hf : ∀ (c : Core) (a : α), c.WaterOnly (f c a)) (c : Core) :
    c.WaterOnly (l.foldl f c) := by
  induction l generalizing c with
  | nil => exact WaterOnly.refl c
  | cons a l ih => exact (hf c a).trans (ih _)

section
variable (h : c.WaterOnly d)
include h

theorem WaterOnly.streams : d.streams = c.streams := by rw [h]
theorem WaterOnly.mc : d.mc = c.mc := by rw [h]
theorem WaterOnly.rings : d.rings = c.rings := by rw [h]
theorem WaterOnly.hr : d.hr = c.hr := by rw [h]
theorem WaterOnly.streamOf (i : Nat) : d.streamOf i = c.streamOf i := by rw [Core.streamOf, Core.streamOf, h.streams]

end

/-- FLAGS.1 at half the elastic buffer. -/
def waterHalf (c c1 : Core) : Core :=
  if c.elasticBytes / 2 ≤ c.elasticFill && 0 < c.elasticFill then c1.flag Obj.Millpond.FLAGS 1 else c1

/-- The flags of throttling: the pool's, and that of every stream in use. -/
def waterMarks (c : Core) : Core :=
  (c.streams.map (·.1)).foldl (fun c st =>
    if c.stState st ≠ 0 then c.flag (Obj.Stream.FLAGS st) 7 else c) (c.flag Obj.Millpond.FLAGS 0)

/-- What `water` does after ELASTIC_PEAK. -/
def waterFlags (c c1 : Core) : Core :=
  let f := c.elasticFill
  let em := c.elasticBytes
  let c2 := c.waterHalf c1
  if em / 8 * 7 ≤ f && 0 < f then
    let c4 := ((c2.withThrottled true).withOverHigh true).waterMarks
    if c.overHigh then c4 else c4.raise Src.mrThrottle (ctxNone 2 6)
  else if f ≤ em / 8 * 6 then (c2.withThrottled false).withOverHigh false
  else c2.withOverHigh false

theorem water_eq (c : Core) : c.water =
    c.waterFlags (c.put Obj.Millpond.ELASTIC_PEAK (max c.elasticFill (c.get Obj.Millpond.ELASTIC_PEAK))) := rfl

theorem waterFlags_only (c c1 : Core) : c1.WaterOnly (c.waterFlags c1) := by
  have hmark : ∀ (c : Core) (st : Nat), c.WaterOnly (if c.stState st ≠ 0 then c.flag (Obj.Stream.FLAGS st) 7 else c) := fun c st => by
    split
    · exact waterOnly_put c _ _
    · exact .refl c
  have h4 : ∀ c : Core, c.WaterOnly (((((c.withThrottled true).withOverHigh true).streams.map (·.1)).foldl (fun (c : Core) st =>
      if c.stState st ≠ 0 then c.flag (Obj.Stream.FLAGS st) 7 else c) (((c.withThrottled true).withOverHigh true).flag
        Obj.Millpond.FLAGS 0))) := fun c =>
    ((waterOnly_throttle c true true).trans (waterOnly_put _ _ _)).trans
      (waterOnly_foldl _ hmark _)
  unfold waterFlags
  dsimp only
  refine WaterOnly.trans (d := c.waterHalf c1) (waterOnly_ite (waterOnly_put c1 _ _) (.refl c1)) ?_
  refine waterOnly_ite (WaterOnly.trans (h4 _) ?_) (waterOnly_ite (waterOnly_throttle _ _ _) (waterOnly_withOverHigh _ _))
  exact waterOnly_ite (.refl _) (fcOnly_raise _ _ _).waterOnly

theorem waterOnly_water (c : Core) : c.WaterOnly c.water := by
  rw [water_eq]
  exact (waterOnly_put c _ _).trans (waterFlags_only c _)

theorem waterFlags_peak (c c1 : Core) : Keeps (· = Obj.Millpond.ELASTIC_PEAK) c1 (c.waterFlags c1) := by
  have hflag : ∀ (c : Core) (n : Nat), Keeps (· = Obj.Millpond.ELASTIC_PEAK) c (c.flag Obj.Millpond.FLAGS n) := fun c n =>
    keeps_put _ c _ _ (by decide)
  have hmark : ∀ (c : Core) (st : Nat), Keeps (· = Obj.Millpond.ELASTIC_PEAK) c
      (if c.stState st ≠ 0 then c.flag (Obj.Stream.FLAGS st) 7 else c) := fun c st => by
    split
    · exact keeps_put _ c _ _ (by simp; omega)
    · exact Keeps.refl _ c
  unfold waterFlags
  refine Keeps.trans (d := c.waterHalf c1) (keeps_ite (· = Obj.Millpond.ELASTIC_PEAK) (fun _ => hflag c1 1) fun _ => Keeps.refl _ c1) ?_
  refine keeps_ite _ (fun _ => ?_) fun _ => keeps_ite _ (fun _ => keeps_throttle _ _ _ _) fun _ => keeps_of_objs _ (objs_withOverHigh _ _)
  refine Keeps.trans (d := (((c.waterHalf c1).withThrottled true).withOverHigh true).waterMarks)
    ((keeps_throttle _ _ _ _).trans ((hflag _ 0).trans (keeps_foldl _ _ _ (fun c st _ => hmark c st) _))) ?_
  exact keeps_ite _ (fun _ => Keeps.refl _ _) fun _ => (fcOnly_raise _ _ _).keeps.mono fun _ hk => by
    subst hk
    decide

theorem water_peak (c : Core) : c.water.get Obj.Millpond.ELASTIC_PEAK = max c.elasticFill (c.get Obj.Millpond.ELASTIC_PEAK) := by
  rw [water_eq, waterFlags_peak _ _ _ rfl, get_put_self]

/-! ## What the fill reads -/

/-- The fill reads streams, contexts, FORMAT, SPECLEN and what a context names. -/
theorem elasticFill_congr (hs : d.streams = c.streams) (hx : d.ctxs = c.ctxs) (h : ∀ k, k ≠ Obj.Millpond.ELASTIC_PEAK → d.get k = c.get k) :
    d.elasticFill = c.elasticFill := by
  have hspb : ∀ st, d.spb st = c.spb st := fun st => by rw [spb, h _ (by simp; omega), spb]
  have hctx : ∀ x, d.ctxOf x = c.ctxOf x := fun x => by rw [ctxOf, hx, ctxOf]
  have hon : ∀ st, d.ctxsOn st = c.ctxsOn st := fun st => by
    have hkey : ∀ x, Obj.Context.STATE x ≠ Obj.Millpond.ELASTIC_PEAK ∧ Obj.Context.STREAM x ≠ Obj.Millpond.ELASTIC_PEAK := fun x => by
      simp
      omega
    simp only [ctxsOn, hx, h _ (hkey _).1, h _ (hkey _).2]
  have hheld : ∀ st, d.heldBlocks st = c.heldBlocks st := fun st => by
    simp only [heldBlocks, hon, hctx, hspb, h (Obj.Stream.SPECLEN st) (by simp; omega)]
  have hfill : ∀ st, d.streamFill st = c.streamFill st := fun st => by
    rw [streamFill, streamOf, hs, hheld, streamFill, streamOf]
  simp only [elasticFill, hs, hfill]

/-! ## Millpond (R95, R98) -/

/-- The partition with its water marks, before the fill is looked at. -/
def partitioned (c : Core) (v : Nat) : Core :=
  ((((c.put Obj.Millpond.PARTITION v).put Obj.Millpond.HIGH_WATER (field 23 16 v * 8 * 2 ^ 20 / 8 * 7)).put Obj.Millpond.LOW_WATER
    (field 23 16 v * 8 * 2 ^ 20 / 8 * 6)).touch).water

theorem writePartition_sets {v : Nat} (h : 4 ≤ field 23 16 v ∨ ∀ st < 256, c.stState st = 0) :
    c.writePartition v = (.ok, c.partitioned v) := by
  have hpass : ¬ (decide (field 23 16 v < 4) && (List.range 256).any fun s => decide (c.stState s ≠ 0)) = true := by
    rw [Bool.and_eq_true, decide_eq_true_eq, List.any_eq_true]
    rintro ⟨hlt, st, hst, hne⟩
    rcases h with h | h
    · omega
    · simp [h st (List.mem_range.1 hst)] at hne
  rw [writePartition]
  dsimp only
  rw [if_neg hpass]
  rfl

theorem partitioned_facts (c : Core) (v : Nat) : (c.partitioned v).get Obj.Millpond.PARTITION = v ∧
    (c.partitioned v).get Obj.Millpond.HIGH_WATER = field 23 16 v * 8 * 2 ^ 20 / 8 * 7 ∧
    (c.partitioned v).get Obj.Millpond.LOW_WATER = field 23 16 v * 8 * 2 ^ 20 / 8 * 6 := by
  have htouch : ∀ (c : Core) k, c.touch.get k = c.get k := fun _ _ => rfl
  unfold partitioned
  have hkeeps : ∀ k, k < 0x290006 → 0x290000 ≤ k → k ≠ Obj.Millpond.ELASTIC_PEAK → waterKeeps k := fun k h1 h2 h3 =>
    ⟨h3, by simp; omega, fun st => by simp; omega, by simp only [isFcKey]; omega⟩
  refine ⟨?_, ?_, ?_⟩ <;> rw [keeps_water _ _ (hkeeps _ (by decide) (by decide) (by decide)), htouch]
  · rw [get_put_ne _ _ (by decide), get_put_ne _ _ (by decide), get_put_self]
  · rw [get_put_ne _ _ (by decide), get_put_self]
  · rw [get_put_self]

theorem writeValue_millpond (c : Core) (f : Fuses) (w : World) (sub : Nat) (bs : List Byte) :
    c.writeValue f w 0x2900 sub bs = c.writeMillpond sub (ofBytes bs) := by
  simp (disch := omega) only [writeValue, Bool.and_eq_true, decide_eq_true_eq, if_neg, if_true]

/-! ## Regions (R82, R83) -/

theorem define_core (c : Core) (mem : Memory) (r per : Nat) : ∃ d : Core, (∀ k, d.get k = ((c.define mem r per).1).get k) ∧
    d.get (Obj.Region.PERSONALITY r) = per ∧ d.get (Obj.Region.STREAM r) = defaultOf (Obj.Region.STREAM r) ∧
    d.get (Obj.Region.RING_HEAD r) = defaultOf (Obj.Region.RING_HEAD r) := by
  obtain ⟨d, hd⟩ : ∃ d, d = ([Obj.Region.CONTEXT r, Obj.Region.SLOT_BYTES r, Obj.Region.NFRAMES_BOUND r, Obj.Region.RECORD_END r,
    Obj.Region.RING_HEAD r, Obj.Region.RING_TAIL r, Obj.Region.SEGS_HELD r, Obj.Region.SPANS_USED r,
    Obj.Region.SPAN_HEAD r, Obj.Region.CURSOR r, Obj.Region.STREAM r].foldl (fun (c : Core) k => c.put k (defaultOf k)) c).put
      (Obj.Region.PERSONALITY r) per := ⟨_, rfl⟩
  have heach : ∀ (n : Nat) (c : Core) (f : McState → McState) (k : Nat), (c.each n fun c i => c.updMc i f).get k = c.get k :=
    fun n c f k => each_induct (fun d => d.get k = c.get k) n (fun c i => c.updMc i f) c rfl fun _ _ _ h => h
  refine ⟨d, fun k => ?_, ?_, ?_, ?_⟩
  · unfold define
    dsimp only
    rw [← hd]
    split
    · rw [get_updRing, heach]
    · rfl
  · rw [hd, get_put_self]
  · rw [hd, get_put_ne _ _ (by simp), List.foldl_cons]
    simp only [List.foldl_cons, List.foldl_nil, get_put_self]
  · rw [hd, get_put_ne _ _ (by simp)]
    simp only [List.foldl_cons, List.foldl_nil]
    rw [get_put_ne _ _ (by simp), get_put_ne _ _ (by simp), get_put_ne _ _ (by simp), get_put_ne _ _ (by simp), get_put_ne _ _ (by simp),
      get_put_ne _ _ (by simp), get_put_self]

theorem define_mem (c : Core) (mem : Memory) (r per : Nat) : (c.define mem r per).2 =
    (if per = 2 then mem.zero c.addrMap (c.annexLo r) (c.regionHi r) else mem) := by
  unfold define
  dsimp only
  split <;> rfl

theorem personalityWrite_defines {mem : Memory} {per : Nat} (hper : per ≠ 0) (hnone : c.get (Obj.Region.PERSONALITY r) = 0)
    (href : c.defineRefusal r per = none) : c.personalityWrite mem r per = (.ok, c.define mem r per) := by
  rw [personalityWrite, if_neg hper, if_neg (by rw [hnone]; exact hper.symm), if_neg (by rw [hnone]; decide), href]

theorem personalityWrite_frees {mem : Memory} (hper : c.get (Obj.Region.PERSONALITY r) ≠ 0) (hpend : c.get (Obj.Region.FREE_PENDING r) ≠ 1)
    (href : c.freeRefused r = false) (hlease : c.leasesOn r = 0) : c.personalityWrite mem r 0 = (.ok, c.freeRegion r, mem) := by
  have hfree : c.freeWrite r = (.ok, c.freeRegion r) := by
    rw [freeWrite, if_neg (by simp [hper, hpend]), if_neg (by rw [href]; decide), if_pos hlease]
  rw [personalityWrite, if_pos rfl, hfree]

theorem freeRegion_facts (c : Core) (r : Nat) : (c.freeRegion r).get (Obj.Region.PERSONALITY r) = 0 ∧
    (c.freeRegion r).get (Obj.Region.FREE_PENDING r) = 0 ∧ (c.freeRegion r).ringOf r = RingState.init := by
  have hget : ∀ k, (c.freeRegion r).get k = ((c.put (Obj.Region.PERSONALITY r) 0).put (Obj.Region.FREE_PENDING r) 0).get k := fun _ => rfl
  refine ⟨?_, ?_, ?_⟩
  · rw [hget, get_put_ne _ _ (by simp), get_put_self]
  · rw [hget, get_put_self]
  · rw [freeRegion, ringOf_updRing_self]

end Core

/-! ## The commands -/

variable {s : State} {r : RegionNo} {w : World}

theorem State.admitted_personality (s : State) (w : World) (r : RegionNo) (bs : List Byte) :
    s.admitted w (0x2300 + r.val) 1 bs = s.writePersonality r.val (ofBytes bs) := by
  have hn : 0x2300 + r.val - 0x2300 = r.val := by omega
  have hin : (0x2300 ≤ 0x2300 + r.val ∧ 0x2300 + r.val < 0x2700) ∧ True := ⟨by omega, trivial⟩
  simp (disch := omega) only [State.admitted, Bool.and_eq_true, decide_eq_true_eq, if_neg]
  rw [if_pos hin, hn]

theorem region_parts (r : RegionNo) : Obj.Region.PERSONALITY r.val / 256 = 0x2300 + r.val ∧ Obj.Region.PERSONALITY r.val % 256 = 1 := by
  simp
  omega

theorem clearableOf_personality (r : RegionNo) : clearableOf (0x2300 + r.val) 1 = none :=
  clearableOf_of_lookup ((lookup_region (by decide) r.isLt).trans rfl) nofun

theorem regions_partition {v : BitVec 32} (hadm : Admits s w Obj.Millpond.PARTITION v.toNat)
    (h : 4 ≤ field 23 16 v.toNat ∨ ∀ st < 256, s.core.stState st = 0) : AnswersOk (.partitionWrite w v) s fun c =>
      c.get Obj.Millpond.PARTITION = v.toNat ∧
      c.get Obj.Millpond.HIGH_WATER = field 23 16 v.toNat * 8 * 2 ^ 20 / 8 * 7 ∧
      c.get Obj.Millpond.LOW_WATER = field 23 16 v.toNat * 8 * 2 ^ 20 / 8 * 6 := by
  have heq := Core.writePartition_sets (c := s.clear.core) h
  obtain ⟨h1, h2, h3⟩ := Core.partitioned_facts s.clear.core v.toNat
  refine answersOk_writeNum rfl hadm (by decide +kernel) (by rw [coreObject]; decide) (c := s.clear.core.partitioned v.toNat) ?_
    ⟨(Core.get_emit _ _ _).trans h1, (Core.get_emit _ _ _).trans h2, (Core.get_emit _ _ _).trans h3⟩
  refine (Core.writeValue_millpond _ _ _ 1 _).trans ?_
  rw [ofBytes_toBytes_of_fits hadm.2.1, Core.writeMillpond, if_pos rfl, heq]

theorem regions_peak (hadm : Admits s w Obj.Millpond.ELASTIC_PEAK 0) :
    AnswersOk (.elasticPeakReset w) s fun c => c.get Obj.Millpond.ELASTIC_PEAK = s.core.elasticFill := by
  refine answersOk_writeNum rfl hadm (by decide +kernel) (by rw [coreObject]; decide)
    (c := (s.clear.core.put Obj.Millpond.ELASTIC_PEAK 0).water) (Core.writeValue_millpond _ _ _ 3 _) ?_
  rw [Core.get_emit, Core.water_peak, Core.get_put_self, Nat.max_zero]
  exact Core.elasticFill_congr rfl rfl fun k hk => (Core.get_put_ne _ 0 hk).trans rfl

theorem regions_defined {per : BitVec 8} (hadm : Admits s w (Obj.Region.PERSONALITY r.val) per.toNat) (hper : per.toNat ≠ 0)
    (hnone : s.core.get (Obj.Region.PERSONALITY r.val) = 0) (href : s.core.defineRefusal r.val per.toNat = none) :
    AnswersAll (.regionDefine r w per) s fun u =>
      Out.status .ok ∈ u.core.out ∧ u.core.get (Obj.Region.PERSONALITY r.val) = per.toNat ∧
      u.core.get (Obj.Region.STREAM r.val) = defaultOf (Obj.Region.STREAM r.val) ∧ u.core.get (Obj.Region.RING_HEAD r.val) = 0 ∧
      u.mem = (if per.toNat = 2 then s.mem.zero s.core.addrMap (s.core.annexLo r.val) (s.core.regionHi r.val) else s.mem) ∧
      u.fuses = s.fuses ∧ u.latch = s.latch := by
  obtain ⟨hidx, hsub⟩ := region_parts r
  have heq := Core.personalityWrite_defines (c := s.clear.core) (mem := s.clear.mem) hper hnone href
  obtain ⟨d, hd, h1, h2, h3⟩ := Core.define_core s.clear.core s.clear.mem r.val per.toNat
  have hzero : ∀ r : RegionNo, defaultOf (Obj.Region.RING_HEAD r.val) = 0 := by decide +kernel
  have hw : s.clear.admitted w (0x2300 + r.val) 1 (toBytes (sizeOf (Obj.Region.PERSONALITY r.val)) per.toNat) =
      (.ok, { s.clear with core := (s.clear.core.define s.clear.mem r.val per.toNat).1, mem := (s.clear.core.define s.clear.mem r.val per.toNat).2 }) := by
    rw [State.admitted_personality, ofBytes_toBytes_of_fits hadm.2.1, State.writePersonality]
    dsimp only
    rw [heq]
  rw [← hidx, ← hsub] at hw
  have hrun := State.writeNum_of_admitted hadm (by rw [hidx, hsub]; exact clearableOf_personality r) hw
  refine ⟨_, congrArg _ hrun, by simp, ?_, ?_, ?_, ?_, rfl, rfl⟩
  · exact (hd _).symm.trans h1
  · exact (hd _).symm.trans h2
  · exact (hd _).symm.trans (h3.trans (hzero r))
  · exact Core.define_mem _ _ _ _

theorem regions_freed (hadm : Admits s w (Obj.Region.PERSONALITY r.val) 0) (hper : s.core.get (Obj.Region.PERSONALITY r.val) ≠ 0)
    (hpend : s.core.get (Obj.Region.FREE_PENDING r.val) ≠ 1) (href : s.core.freeRefused r.val = false)
    (hlease : s.core.leasesOn r.val = 0) : AnswersOk (.regionFree r w) s fun c =>
      c.get (Obj.Region.PERSONALITY r.val) = 0 ∧ c.get (Obj.Region.FREE_PENDING r.val) = 0 ∧ c.ringOf r.val = RingState.init := by
  obtain ⟨hidx, hsub⟩ := region_parts r
  have heq := Core.personalityWrite_frees (c := s.clear.core) (mem := s.clear.mem) hper hpend href hlease
  refine ⟨(s.clear.core.freeRegion r.val).emit (.status .ok), congrArg _ ((State.writeNum_of_admitted hadm
    (by rw [hidx, hsub]; exact clearableOf_personality r) (u := { s.clear with core := s.clear.core.freeRegion r.val }) (st := .ok) ?_)),
    by simp, Core.freeRegion_facts s.clear.core r.val⟩
  rw [hidx, hsub, State.admitted_personality, ofBytes_toBytes_of_fits hadm.2.1, State.writePersonality]
  dsimp only
  rw [heq]

/-- Settles O26: the partition, the peak, and regions defined and freed. -/
theorem millpondRegions : Obligations.MillpondRegions := by
  unfold Obligations.MillpondRegions
  exact ⟨fun _ _ _ => regions_partition, fun _ _ => regions_peak, fun _ _ _ _ => regions_defined, fun _ _ _ => regions_freed⟩

end Sys2Proof.Machine
end

section
/-! PROOFS. Streams and their blocks: ENABLE, DISABLE, FLUSH_TIMEOUT and BLOCK_COMMIT (03_millrace_capture.md R72, R73, R87, R88,
R92, R97, R99). -/

namespace Sys2Proof.Machine

/-- A key of a stream (R70). -/
abbrev isStreamKey (k : Nat) : Prop := 0x280000 ≤ k ∧ k < 0x290000

namespace Core

variable {c d e : Core} {st r : Nat}

/-! ## What leaves streams, contexts, windows and the streams' objects -/

/-- `d` has the streams, contexts and windows of `c` and its streams' objects. -/
def StreamsSame (c d : Core) : Prop :=
  d.streams = c.streams ∧ d.ctxs = c.ctxs ∧ d.wins = c.wins ∧ ∀ k, isStreamKey k → d.get k = c.get k

theorem StreamsSame.refl (c : Core) : c.StreamsSame c := ⟨rfl, rfl, rfl, fun _ _ => rfl⟩
theorem StreamsSame.trans (h : c.StreamsSame d) (h' : d.StreamsSame e) : c.StreamsSame e := by
  obtain ⟨h1, h2, h3, h4⟩ := h
  obtain ⟨h5, h6, h7, h8⟩ := h'
  exact ⟨h5.trans h1, h6.trans h2, h7.trans h3, fun k hk => (h8 k hk).trans (h4 k hk)⟩

section
variable (h : c.StreamsSame d)
include h

theorem StreamsSame.streamOf (i : Nat) : d.streamOf i = c.streamOf i := by rw [Core.streamOf, Core.streamOf, h.1]
theorem StreamsSame.noCtxs (hc : c.ctxs = []) : d.ctxs = [] := h.2.1.trans hc
theorem StreamsSame.noWins (hc : c.wins = []) : d.wins = [] := h.2.2.1.trans hc
theorem StreamsSame.get {k : Nat} (hk : isStreamKey k) : d.get k = c.get k := h.2.2.2 k hk

end

/-- And no ring of `d` is blocked where none of `c` is. -/
def StreamsKept (c d : Core) : Prop := c.StreamsSame d ∧ (c.Flowing → d.Flowing)

theorem StreamsKept.refl (c : Core) : c.StreamsKept c := ⟨.refl c, id⟩
theorem StreamsKept.trans (h : c.StreamsKept d) (h' : d.StreamsKept e) : c.StreamsKept e := ⟨h.1.trans h'.1, h'.2 ∘ h.2⟩

theorem streamsKept_ite {b : Prop} [Decidable b] {x y : Core} (hx : c.StreamsKept x) (hy : c.StreamsKept y) :
    c.StreamsKept (if b then x else y) := by
  split
  · exact hx
  · exact hy

theorem streamsKept_put (c : Core) {k : Nat} (v : Nat) (hk : ¬ isStreamKey k) : c.StreamsKept (c.put k v) :=
  ⟨⟨rfl, rfl, rfl, fun _ hi => get_put_ne c v fun h => hk (h ▸ hi)⟩, id⟩
theorem streamsKept_updRing (c : Core) (r : Nat) {f : RingState → RingState} (hf : ∀ g, (f g).blocked = g.blocked) :
    c.StreamsKept (c.updRing r f) := ⟨⟨rfl, rfl, rfl, fun _ _ => rfl⟩, (windowsKept_updRing c r hf).2.2⟩
theorem MemOnly.streamsKept (h : c.MemOnly d) : c.StreamsKept d :=
  ⟨⟨h.streams, h.ctxs, h.wins, fun k hk => h.get (by simp only [isMemKey, isSluiceKey]; omega)⟩, h.windowsKept.2.2⟩
theorem FcOnly.streamsSame (h : c.FcOnly d) : c.StreamsSame d :=
  ⟨by rw [h.1], by rw [h.1], by rw [h.1], fun k hk => h.2 k (by simp only [isFcKey]; omega)⟩

theorem streamsKept_foldl {α : Type} (l : List α) {f : Core → α → Core} (hf : ∀ (c : Core) (a : α), c.StreamsKept (f c a)) (c : Core) :
    c.StreamsKept (l.foldl f c) := by
  induction l generalizing c with
  | nil => exact StreamsKept.refl c
  | cons a l ih => exact (hf c a).trans (ih _)

/-! ## The ring of a stream while no window stands (R85 to R88) -/

theorem streamsKept_setSegs (c : Core) (r : Nat) (l : List (Nat × Nat)) : c.StreamsKept (c.setSegs r l) := by
  unfold setSegs
  exact (streamsKept_updRing c r (f := fun g => { g with map := l.foldl (fun m e => m.setNum e.1 e.2) g.map }) fun _ => rfl).trans
    (streamsKept_foldl _ (fun c _ => (memOnly_request c _).streamsKept) _)

theorem streamsKept_leaveSeg (c : Core) (r p : Nat) : c.StreamsKept (c.leaveSeg r p) := by
  unfold leaveSeg
  exact streamsKept_ite (streamsKept_setSegs c r _) (.refl c)

theorem claimSeg_eq_self (hw : c.wins = []) (r p l : Nat) : c.claimSeg r p l = c := by rw [claimSeg, hw, List.foldl_nil]

theorem findSeg_eq_self (hw : c.wins = []) {p : Nat} {x : Nat × Core} (h : c.findSeg r p = some x) : x.2 = c := by
  have hnone : c.evictable r = [] := by simp [evictable, hw]
  rw [findSeg, hnone] at h
  split at h
  · exact (congrArg Prod.snd (Option.some.inj h)).symm
  · split at h <;> exact absurd h nofun

/-- The cursor of a jump longer than the ring, before its last steps. -/
def jumped (c : Core) (r l : Nat) : Core :=
  let n := c.nseg r
  let p := c.get (Obj.Region.CURSOR r)
  let j := l - segL ((c.ringOf r).map.num p)
  if j ≤ n then c
  else
    let c1 := c.leaveSeg r p
    let free := (cursorOrder n p).filter fun q => segFree ((c1.ringOf r).map.num q)
    if free.isEmpty then c else c1.put (Obj.Region.CURSOR r) (nth free ((j - n - 1) % free.length) p)

theorem moveCursor_eq (c : Core) (r l : Nat) : ∃ k : Nat, (c.moveCursor r l).1 = ((List.range k).foldl (fun (a : Core × Bool) i =>
    if a.2 then a.1.stepSeg r (l - k + 1 + i) else a) (c.jumped r l, true)).1.refreshRing r :=
  ⟨min (l - segL ((c.ringOf r).map.num (c.get (Obj.Region.CURSOR r)))) (c.nseg r), rfl⟩

section
variable (hr : r < 1024)
include hr

theorem streamsKept_enterSeg (hw : c.wins = []) (p l : Nat) : c.StreamsKept (c.enterSeg r p l) := by
  unfold enterSeg
  rw [claimSeg_eq_self hw]
  exact (streamsKept_setSegs c r _).trans (streamsKept_put _ _ (by simp; omega))

/-- The status fields follow the ring; RING_HEAD is not one of them. -/
theorem refreshRing_keeps (c : Core) : c.StreamsKept (c.refreshRing r) ∧ (c.refreshRing r).mc = c.mc ∧
    (c.refreshRing r).rings = c.rings ∧ (c.refreshRing r).get (Obj.Region.RING_HEAD r) = c.get (Obj.Region.RING_HEAD r) := by
  have hkeep : ∀ (c : Core) k v, ¬ isStreamKey k → k ≠ Obj.Region.RING_HEAD r → c.StreamsKept (c.put k v) ∧ (c.put k v).mc = c.mc ∧
      (c.put k v).rings = c.rings ∧ (c.put k v).get (Obj.Region.RING_HEAD r) = c.get (Obj.Region.RING_HEAD r) := fun c k v h1 h2 =>
    ⟨streamsKept_put c v h1, rfl, rfl, get_put_ne c v h2.symm⟩
  have h3 : ∀ u v x, c.StreamsKept (((c.put (Obj.Region.SEGS_HELD r) u).put (Obj.Region.SPANS_USED r) v).put
      (Obj.Quota.SEGS_COMMITTED r) x) ∧ (((c.put (Obj.Region.SEGS_HELD r) u).put (Obj.Region.SPANS_USED r) v).put
      (Obj.Quota.SEGS_COMMITTED r) x).get (Obj.Region.RING_HEAD r) = c.get (Obj.Region.RING_HEAD r) := fun u v x => by
    obtain ⟨k1, -, -, g1⟩ := hkeep c (Obj.Region.SEGS_HELD r) u (by simp; omega) (by simp)
    obtain ⟨k2, -, -, g2⟩ := hkeep (c.put (Obj.Region.SEGS_HELD r) u) (Obj.Region.SPANS_USED r) v (by simp; omega) (by simp)
    obtain ⟨k3, -, -, g3⟩ := hkeep ((c.put (Obj.Region.SEGS_HELD r) u).put (Obj.Region.SPANS_USED r) v) (Obj.Quota.SEGS_COMMITTED r) x
      (by simp; omega) (by simp; omega)
    exact ⟨(k1.trans k2).trans k3, g3.trans (g2.trans g1)⟩
  unfold refreshRing
  dsimp only
  split
  · obtain ⟨k4, g4⟩ := h3 ((c.ringOf r).map.filter fun e => segState e.2 == Seg.held).length (c.ringOf r).spans.length
      (((c.put (Obj.Region.SEGS_HELD r) ((c.ringOf r).map.filter fun e => segState e.2 == Seg.held).length).put
        (Obj.Region.SPANS_USED r) (c.ringOf r).spans.length).committedSegs r)
    obtain ⟨k5, -, -, g5⟩ := hkeep _ (Obj.Region.RING_TAIL r) _ (by simp; omega) (by simp)
    exact ⟨k4.trans k5, rfl, rfl, g5.trans g4⟩
  · obtain ⟨k4, g4⟩ := h3 ((c.ringOf r).map.filter fun e => segState e.2 == Seg.held).length (c.ringOf r).spans.length
      (((c.put (Obj.Region.SEGS_HELD r) ((c.ringOf r).map.filter fun e => segState e.2 == Seg.held).length).put
        (Obj.Region.SPANS_USED r) (c.ringOf r).spans.length).committedSegs r)
    exact ⟨k4, rfl, rfl, g4⟩

theorem streamsKept_stepSeg (hw : c.wins = []) (l : Nat) : c.StreamsKept (c.stepSeg r l).1 := by
  unfold stepSeg
  dsimp only
  split
  · exact StreamsKept.refl c
  · next q d h =>
    obtain rfl : d = c := findSeg_eq_self hw h
    have hleave := streamsKept_leaveSeg d r (d.get (Obj.Region.CURSOR r))
    exact (hleave.trans (streamsKept_enterSeg hr (hleave.1.noWins hw) q l)).trans (streamsKept_updRing _ r fun _ => rfl)

theorem streamsKept_stepSegs (l k : Nat) (is : List Nat) (a : Core × Bool) (hw : a.1.wins = []) :
    a.1.StreamsKept (is.foldl (fun (a : Core × Bool) i => if a.2 then a.1.stepSeg r (l - k + 1 + i) else a) a).1 := by
  induction is generalizing a with
  | nil => exact StreamsKept.refl _
  | cons i is ih =>
    have hstep : a.1.StreamsKept (if a.2 then a.1.stepSeg r (l - k + 1 + i) else a).1 := by
      split
      · exact streamsKept_stepSeg hr hw _
      · exact StreamsKept.refl _
    exact hstep.trans (ih _ (hstep.1.noWins hw))

theorem streamsKept_jumped (l : Nat) : c.StreamsKept (c.jumped r l) := by
  unfold jumped
  exact streamsKept_ite (.refl c) (streamsKept_ite (.refl c) ((streamsKept_leaveSeg c r _).trans
    (streamsKept_put _ _ (by simp; omega))))

theorem streamsKept_moveCursor (hw : c.wins = []) (l : Nat) : c.StreamsKept (c.moveCursor r l).1 := by
  obtain ⟨k, heq⟩ := moveCursor_eq c r l
  rw [heq]
  have hjump := streamsKept_jumped (c := c) hr l
  exact hjump.trans ((streamsKept_stepSegs hr l k _ _ (hjump.1.noWins hw)).trans (refreshRing_keeps hr _).1)

end

/-! ## RING_HEAD follows (R87, R88) -/

theorem headOf_congr (hs : d.streamOf st = c.streamOf st) (hn : d.next st = c.next st) : d.headOf st = c.headOf st := by
  rw [headOf, hs, hn, headOf]

theorem weirProgress_eq_self (hw : c.wins = []) : c.weirProgress = c := by rw [weirProgress, hw, List.map_nil, List.foldl_nil]

theorem streamsSame_stopRing (hr : r < 1024) (l : Nat) : c.StreamsSame (c.stopRing r l) := by
  refine StreamsSame.trans (d := (c.updRing r fun g => { g with blocked := some l }).flag (Obj.Quota.FLAGS r) 1) ?_
    (fcOnly_raiseStanding _ _ _).streamsSame
  exact StreamsSame.trans (d := c.updRing r fun g => { g with blocked := some l }) ⟨rfl, rfl, rfl, fun _ _ => rfl⟩
    (streamsKept_put _ _ (by simp; omega)).1

theorem streamsSame_gapCursor (hr : c.get (Obj.Stream.REGION st) < 1024) (hw : c.wins = []) (hf : c.Flowing) :
    c.StreamsSame (c.gapCursor st) := by
  have hmove := streamsKept_moveCursor (c := c) hr hw ((c.next st - 1) / c.spseg st)
  unfold gapCursor
  dsimp only
  split
  · exact StreamsSame.refl c
  · split
    · rw [(hmove.2 hf).unblock]
      exact hmove.1
    · exact hmove.1.trans (streamsSame_stopRing hr _)

theorem ringHead_not_stream (hr : r < 1024) : ¬ isStreamKey (Obj.Region.RING_HEAD r) := by simp; omega

/-- Once the cursor stands, RING_HEAD is the lowest sample that no commit has taken. -/
theorem headMoved_facts (hst : st < 256) (hr : c.get (Obj.Stream.REGION st) < 1024) (hw : c.wins = [])
    (hg : c.StreamsSame (c.gapCursor st)) : c.StreamsSame (c.headMoved st) ∧ (c.headMoved st).mc = (c.gapCursor st).mc ∧
      (c.headMoved st).get (Obj.Region.RING_HEAD (c.get (Obj.Stream.REGION st))) = c.headOf st := by
  have hreg : (c.gapCursor st).get (Obj.Stream.REGION st) = c.get (Obj.Stream.REGION st) := hg.get (by simp; omega)
  have hhead : (c.gapCursor st).headOf st = c.headOf st := headOf_congr (hg.streamOf st) (hg.get (by simp; omega))
  obtain ⟨h1, h2, -, h3⟩ := refreshRing_keeps hr ((c.gapCursor st).put
    (Obj.Region.RING_HEAD (c.get (Obj.Stream.REGION st))) (c.headOf st))
  have hput := streamsKept_put (c.gapCursor st) (k := Obj.Region.RING_HEAD (c.get (Obj.Stream.REGION st))) (c.headOf st) (ringHead_not_stream hr)
  have hall : c.StreamsSame (((c.gapCursor st).put (Obj.Region.RING_HEAD (c.get (Obj.Stream.REGION st))) (c.headOf st)).refreshRing
      (c.get (Obj.Stream.REGION st))) := hg.trans (hput.1.trans h1.1)
  rw [headMoved, hreg, hhead, weirProgress_eq_self (hall.noWins hw)]
  exact ⟨hall, h2, h3.trans (get_put_self _ _ _)⟩

theorem water_facts (c : Core) : c.water.streams = c.streams ∧ c.water.mc = c.mc ∧ Keeps waterKeeps c c.water :=
  ⟨(waterOnly_water c).streams, (waterOnly_water c).mc, keeps_water c⟩

theorem waterKeeps_of {k : Nat} (h1 : 0x230000 ≤ k) (h2 : k < 0x290000) (h3 : k % 256 ≠ 16) : waterKeeps k := by
  refine ⟨fun h => ?_, fun h => ?_, fun i h => ?_, ?_⟩
  · rw [h] at h2
    exact absurd h2 (by decide)
  · rw [h] at h2
    exact absurd h2 (by decide)
  · rw [h] at h3
    exact h3 (by simp only [Obj.Stream.FLAGS]; omega)
  · simp only [isFcKey]
    omega

/-! ## ENABLE (R72, R73) -/

/-- The stream as ENABLE arms it, before its ring starts. -/
def armedAt (c : Core) (st : Nat) (b : TimeBase) : Core :=
  ((((((((c.put (Obj.Stream.STATE st) St.armed).put (Obj.Stream.ENABLE st) 1).put (Obj.Stream.NEXT_INDEX st)
    (c.get (Obj.Stream.START_INDEX st))).put (Obj.Stream.GDELAY st) 0).put (Obj.Stream.MINPHASE st) 0).updStream st fun _ =>
      { blocks := [], waiting := [], bases := [b], rate := c.get (Obj.Stream.RATE st) }).showBases st).put
        (Obj.Region.STREAM (c.get (Obj.Stream.REGION st))) st)

theorem armedAt_facts (hst : st < 256) (hr : c.get (Obj.Stream.REGION st) < 1024) (b : TimeBase) :
    (c.armedAt st b).stState st = St.armed ∧ (c.armedAt st b).get (Obj.Stream.ENABLE st) = 1 ∧
    (c.armedAt st b).next st = c.get (Obj.Stream.START_INDEX st) ∧ ((c.armedAt st b).streamOf st).blocks = [] ∧
    ((c.armedAt st b).streamOf st).waiting = [] ∧ (c.armedAt st b).get (Obj.Stream.REGION st) = c.get (Obj.Stream.REGION st) := by
  have hreg : ∀ k, isStreamKey k → k ≠ Obj.Region.STREAM (c.get (Obj.Stream.REGION st)) := by
    generalize c.get (Obj.Stream.REGION st) = r at hr
    intro k hk
    simp
    omega
  have hkey : ∀ j, j < 256 → isStreamKey ((0x2800 + st) * 0x100 + j) := fun j hj => by omega
  have hs : (c.armedAt st b).streamOf st = { blocks := [], waiting := [], bases := [b], rate := c.get (Obj.Stream.RATE st) } := by
    rw [armedAt, streamOf_put, showBases, streamOf_put, streamOf_updStream_self]
  refine ⟨?_, ?_, ?_, by rw [hs], by rw [hs], ?_⟩
  · rw [stState, armedAt, get_put_ne _ _ (hreg _ (hkey 2 (by decide))), showBases, get_put_ne _ _ (by simp), get_updStream,
      get_put_ne _ _ (by simp), get_put_ne _ _ (by simp), get_put_ne _ _ (by simp), get_put_ne _ _ (by simp), get_put_self]
  · rw [armedAt, get_put_ne _ _ (hreg _ (hkey 1 (by decide))), showBases, get_put_ne _ _ (by simp), get_updStream,
      get_put_ne _ _ (by simp), get_put_ne _ _ (by simp), get_put_ne _ _ (by simp), get_put_self]
  · rw [next, armedAt, get_put_ne _ _ (hreg _ (hkey 14 (by decide))), showBases, get_put_ne _ _ (by simp), get_updStream,
      get_put_ne _ _ (by simp), get_put_ne _ _ (by simp), get_put_self]
  · rw [armedAt, get_put_ne _ _ (hreg _ (hkey 4 (by decide))), showBases, get_put_ne _ _ (by simp), get_updStream,
      get_put_ne _ _ (by simp), get_put_ne _ _ (by simp), get_put_ne _ _ (by simp), get_put_ne _ _ (by simp), get_put_ne _ _ (by simp)]

theorem armedAt_noWins (hw : c.wins = []) (b : TimeBase) : (c.armedAt st b).wins = [] := by
  simp only [armedAt, showBases, wins_put, wins_updStream, hw]
theorem armedAt_noCtxs (hc : c.ctxs = []) (b : TimeBase) : (c.armedAt st b).ctxs = [] := by
  simp only [armedAt, showBases, ctxs_put, ctxs_updStream, hc]
theorem Flowing.armedAt (hf : c.Flowing) (b : TimeBase) : (c.armedAt st b).Flowing := by
  simp only [Flowing, Core.armedAt, showBases, rings_put, rings_updStream]
  exact hf

theorem streamsKept_startRing (hr : r < 1024) (hw : c.wins = []) (hf : c.Flowing) (l sps : Nat) :
    c.StreamsKept (c.startRing r l sps) := by
  have hfree : c.ringFreed r = c := by
    have hb : (c.ringOf r).blocked = none :=
      Tbl.get_of_forall (P := fun g : RingState => g.blocked = none) (fun _ => rfl) (fun e he => hf e he) r
    rw [ringFreed, if_pos (by rw [hb]; rfl)]
  have hsegs : ∀ m, c.StreamsKept ((c.updRing r fun g => { g with sps := sps }).setSegs r m) := fun m =>
    (streamsKept_updRing c r (f := fun g => { g with sps := sps }) fun _ => rfl).trans (streamsKept_setSegs _ r m)
  unfold startRing
  rw [hfree]
  exact ((hsegs _).trans (streamsKept_enterSeg hr ((hsegs _).1.noWins hw) _ l)).trans (refreshRing_keeps hr _).1

theorem ctxsOn_eq_nil (hc : c.ctxs = []) : c.ctxsOn st = [] := by rw [ctxsOn, hc]; rfl
theorem feedPassed_eq_self (hc : c.ctxs = []) (n : Nat) : c.feedPassed st n = c := by rw [feedPassed, ctxsOn_eq_nil hc, List.foldl_nil]
theorem stopCtxs_eq_self (hc : c.ctxs = []) : c.stopCtxs st = c := by rw [stopCtxs, ctxsOn_eq_nil hc, List.foldl_nil]
theorem mismatchCtxs_eq_self (hc : c.ctxs = []) : c.mismatchCtxs st = c := by rw [mismatchCtxs, ctxsOn_eq_nil hc, List.foldl_nil]

theorem streamRing_of_enableRefusal (h : c.enableRefusal st = none) : c.streamRing st = true := by
  by_contra hn
  rw [Bool.not_eq_true] at hn
  simp [enableRefusal, hn] at h

theorem streamRing_lt (h : c.streamRing st = true) : c.get (Obj.Stream.REGION st) < 1024 := by
  have hle := of_decide_eq_true (Bool.and_eq_true_iff.1 h).1
  exact Nat.lt_succ_of_le hle

theorem enableStream_facts (hst : st < 256) (hdis : c.stState st = St.disabled) (hok : c.enableRefusal st = none)
    (hc : c.ctxs = []) (hw : c.wins = []) (hf : c.Flowing) : ∃ d : Core, c.enableStream st = (.ok, d) ∧ d.stState st = St.armed ∧
      d.get (Obj.Stream.ENABLE st) = 1 ∧ d.next st = c.get (Obj.Stream.START_INDEX st) ∧ (d.streamOf st).blocks = [] ∧
      (d.streamOf st).waiting = [] := by
  have hr : c.get (Obj.Stream.REGION st) < 1024 := streamRing_lt (streamRing_of_enableRefusal hok)
  obtain ⟨b, l, n, heq⟩ : ∃ b l n, c.enableStream st = (.ok, ((((((c.armedAt st b).startRing (c.get (Obj.Stream.REGION st)) l
      n).unblock).mismatchCtxs st).feedPassed st (c.get (Obj.Stream.START_INDEX st))).headMoved st).water) := by
    rw [enableStream, hdis]
    dsimp only
    rw [if_neg (by decide), if_neg (by decide), hok]
    exact ⟨_, _, _, rfl⟩
  obtain ⟨h1, h2, h3, h4, h5, h6⟩ := armedAt_facts (c := c) hst hr b
  have hstart := streamsKept_startRing (c := c.armedAt st b) hr (armedAt_noWins hw b) (hf.armedAt b) l n
  generalize hd : (c.armedAt st b).startRing (c.get (Obj.Stream.REGION st)) l n = d at hstart heq
  have hflow : d.Flowing := hstart.2 (hf.armedAt b)
  have hdw : d.wins = [] := hstart.1.noWins (armedAt_noWins hw b)
  have hdc : d.ctxs = [] := hstart.1.noCtxs (armedAt_noCtxs hc b)
  rw [hflow.unblock, mismatchCtxs_eq_self hdc, feedPassed_eq_self hdc] at heq
  have hkey : ∀ j, j < 256 → isStreamKey ((0x2800 + st) * 0x100 + j) := fun j hj => by omega
  have hdr : d.get (Obj.Stream.REGION st) < 1024 := by rw [hstart.1.get (hkey 4 (by decide)), h6]; exact hr
  obtain ⟨hm, -, -⟩ := headMoved_facts hst hdr hdw (streamsSame_gapCursor hdr hdw hflow)
  obtain ⟨hws, -, hwk⟩ := water_facts (d.headMoved st)
  have hall : ∀ j, j < 256 → j ≠ 16 → (d.headMoved st).water.get ((0x2800 + st) * 0x100 + j) =
      (c.armedAt st b).get ((0x2800 + st) * 0x100 + j) := fun j hj hne => by
    rw [hwk _ (waterKeeps_of (by omega) (by omega) (by omega)), hm.get (hkey j hj), hstart.1.get (hkey j hj)]
  have hstr : (d.headMoved st).water.streamOf st = (c.armedAt st b).streamOf st := by
    rw [streamOf, hws, ← streamOf, hm.streamOf, hstart.1.streamOf]
  refine ⟨_, heq, ?_, ?_, ?_, by rw [hstr, h4], by rw [hstr, h5]⟩
  · exact (hall 2 (by decide) (by decide)).trans h1
  · exact (hall 1 (by decide) (by decide)).trans h2
  · exact (hall 14 (by decide) (by decide)).trans h3

/-! ## DISABLE (R73) -/

/-- The stream as DISABLE leaves it FLUSHING: what waits to be committed is kept. -/
def flushed (c : Core) (st : Nat) : Core :=
  ((((c.put (Obj.Stream.STATE st) St.flushing).put (Obj.Stream.ENABLE st) 0).closeAll st).updStream st fun s =>
    { s with waiting := [], blocks := s.blocks.filter fun b => b.uncommitted.isSome })

theorem flushStream_eq (hc : c.ctxs = []) : c.flushStream st = (((c.flushed st).flushDoneStream st).headMoved st).water := by
  rw [flushStream, stopCtxs_eq_self (by simp only [ctxs_put, hc])]
  rfl

theorem flushed_facts (c : Core) (st : Nat) : (c.flushed st).stState st = St.flushing ∧ (c.flushed st).get (Obj.Stream.ENABLE st) = 0 ∧
    (c.flushed st).get (Obj.Stream.REGION st) = c.get (Obj.Stream.REGION st) ∧ (c.flushed st).wins = c.wins ∧
    (∀ b ∈ ((c.flushed st).streamOf st).blocks, b.due = true) ∧
    ((c.flushed st).streamOf st).blocks.isEmpty = !((c.streamOf st).blocks.any fun b => b.uncommitted.isSome) := by
  have hb : ((c.flushed st).streamOf st).blocks =
      ((c.streamOf st).blocks.map fun b => { b with due := true }).filter fun b => b.uncommitted.isSome := by
    rw [flushed, streamOf_updStream_self, closeAll, streamOf_updStream_self, streamOf_put, streamOf_put]
  refine ⟨?_, ?_, ?_, rfl, fun b h => ?_, ?_⟩
  · rw [stState, flushed, get_updStream, closeAll, get_updStream, get_put_ne _ _ (by simp), get_put_self]
  · rw [flushed, get_updStream, closeAll, get_updStream, get_put_self]
  · rw [flushed, get_updStream, closeAll, get_updStream, get_put_ne _ _ (by simp), get_put_ne _ _ (by simp)]
  · rw [hb] at h
    obtain ⟨x, -, rfl⟩ := List.mem_map.1 (List.mem_filter.1 h).1
    rfl
  · rw [hb, List.filter_map, List.isEmpty_map]
    induction (c.streamOf st).blocks with
    | nil => rfl
    | cons b l ih => cases hu : b.uncommitted.isSome <;> simp_all

/-- The cursor stands where the stream is DISABLED, where a block waits, or where no gap lies ahead. -/
theorem gapCursor_eq_self (h : c.stState st = 0 ∨ (c.streamOf st).blocks.any (fun b => b.due || b.uncommitted.isSome) = true ∨
    (c.next st - 1) / c.spseg st ≤ segL ((c.ringOf (c.get (Obj.Stream.REGION st))).map.num (c.get (Obj.Region.CURSOR
      (c.get (Obj.Stream.REGION st)))))) : c.gapCursor st = c := by
  rw [gapCursor]
  dsimp only
  rw [if_pos]
  simp only [Bool.or_eq_true, decide_eq_true_eq]
  rcases h with h | h | h
  · exact .inl (.inl (.inl h))
  · exact .inl (.inr h)
  · exact .inr h

/-- What the end of a flush leaves. -/
theorem flushDoneStream_facts (hw : c.wins = []) :
    (c.flushDoneStream st).streams = c.streams ∧ (c.flushDoneStream st).mc = c.mc ∧ (c.flushDoneStream st).wins = [] ∧
    (c.flushDoneStream st).stState st = (if c.stState st = St.flushing ∧ (c.streamOf st).blocks.isEmpty = true then St.disabled
      else c.stState st) ∧
    ∀ k, k ≠ Obj.Stream.STATE st → k ≠ Obj.Region.STREAM (c.get (Obj.Stream.REGION st)) → (c.flushDoneStream st).get k = c.get k := by
  have hreg : Obj.Stream.STATE st ≠ Obj.Region.STREAM (c.get (Obj.Stream.REGION st)) := by simp; omega
  unfold flushDoneStream
  by_cases h : c.stState st = St.flushing ∧ (c.streamOf st).blocks.isEmpty = true
  · rw [if_pos h, if_pos (by simpa using h), weirProgress_eq_self (by simp only [wins_put, hw])]
    refine ⟨rfl, rfl, hw, ?_, fun k h1 h2 => ?_⟩
    · rw [stState, get_put_ne _ _ hreg, get_put_self]
    · rw [get_put_ne _ _ h2, get_put_ne _ _ h1]
  · rw [if_neg h, if_neg (by simpa using h)]
    exact ⟨rfl, rfl, hw, rfl, fun _ _ _ => rfl⟩

theorem disableStream_facts (hst : st < 256) (hstate : c.stState st = St.armed ∨ c.stState st = St.running ∨ c.stState st = St.ended)
    (hr : c.get (Obj.Stream.REGION st) < 1024) (hc : c.ctxs = []) (hw : c.wins = []) :
    ∃ d : Core, c.disableStream st = (.ok, d) ∧ d.get (Obj.Stream.ENABLE st) = 0 ∧
      d.stState st = if (c.streamOf st).blocks.any (fun b => b.uncommitted.isSome) then St.flushing else St.disabled := by
  obtain ⟨f1, f2, f3, f4, f5, f6⟩ := flushed_facts c st
  obtain ⟨g1, -, g3, g4, g5⟩ := flushDoneStream_facts (st := st) (c := c.flushed st) (f4.trans hw)
  have hreg : ∀ j, j < 256 → (0x2800 + st) * 0x100 + j ≠ Obj.Region.STREAM ((c.flushed st).get (Obj.Stream.REGION st)) := by
    rw [f3]
    generalize c.get (Obj.Stream.REGION st) = r at hr
    intro j hj
    simp
    omega
  rw [f1, f6] at g4
  have hstream : ((c.flushed st).flushDoneStream st).streamOf st = (c.flushed st).streamOf st := by rw [streamOf, g1, ← streamOf]
  have hgap : ((c.flushed st).flushDoneStream st).gapCursor st = (c.flushed st).flushDoneStream st := by
    refine gapCursor_eq_self ?_
    cases hany : (c.streamOf st).blocks.any (fun b => b.uncommitted.isSome) with
    | false => exact .inl (by rw [g4, hany]; rfl)
    | true =>
      refine .inr (.inl ?_)
      rw [hany] at f6
      obtain ⟨b, hb⟩ := List.exists_mem_of_ne_nil _ (List.isEmpty_eq_false_iff.1 f6)
      rw [hstream, List.any_eq_true]
      exact ⟨b, hb, by rw [f5 b hb]; rfl⟩
  have hdr : ((c.flushed st).flushDoneStream st).get (Obj.Stream.REGION st) < 1024 := by
    rw [g5 _ (by simp) (hreg 4 (by decide)), f3]
    exact hr
  obtain ⟨hm, -, -⟩ := headMoved_facts hst hdr g3 (by rw [hgap]; exact StreamsSame.refl _)
  have hall : ∀ j, j < 256 → j ≠ 16 → (((c.flushed st).flushDoneStream st).headMoved st).water.get ((0x2800 + st) * 0x100 + j) =
      ((c.flushed st).flushDoneStream st).get ((0x2800 + st) * 0x100 + j) := fun j hj hne => by
    rw [(water_facts _).2.2 _ (waterKeeps_of (by omega) (by omega) (by omega)), hm.get (by omega)]
  refine ⟨(((c.flushed st).flushDoneStream st).headMoved st).water, ?_, ?_, ?_⟩
  · rw [disableStream, ← flushStream_eq hc]
    rcases hstate with h | h | h <;> rw [h] <;> rfl
  · rw [hall 1 (by decide) (by decide), g5 _ (by simp) (hreg 1 (by decide)), f2]
  · refine (hall 2 (by decide) (by decide)).trans (g4.trans ?_)
    cases (c.streamOf st).blocks.any (fun b => b.uncommitted.isSome) <;> rfl

/-! ## FLUSH_TIMEOUT (R92) -/

theorem flushTimeout_facts {b : RingBlock} (hlast : (c.streamOf st).blocks.getLast? = some b) (hun : b.uncommitted ≠ none)
    (hdue : b.due = false) : (∃ b', ((c.flushTimeout st).streamOf st).blocks.getLast? = some b' ∧ b'.due = true ∧ b'.no = b.no ∧
      b'.data = b.data) ∧ (c.flushTimeout st).bitOf (Obj.Stream.FLAGS st) 6 = true ∧
    (∀ k, k ≠ Obj.Stream.FLAGS st → (c.flushTimeout st).get k = c.get k) ∧ (c.flushTimeout st).req = c.req := by
  have hsome : (b.uncommitted.isSome && !b.due) = true := by rw [hdue, Option.isSome_iff_ne_none.2 hun]; rfl
  unfold flushTimeout
  rw [hlast]
  dsimp only
  rw [if_pos hsome]
  refine ⟨⟨{ b with due := true }, ?_, rfl, rfl, rfl⟩, bitOf_flag_self _ _ _, fun k hk => ?_, rfl⟩
  · rw [flag, streamOf_put, streamOf_updStream_self, List.getLast?_map, hlast, Option.map_some, if_pos rfl]
  · rw [get_flag_ne _ _ hk, get_updStream]

/-! ## BLOCK_COMMIT (R97, R99) -/

/-- `d` has what `c` has but for controllers, the wire, Sluice and objects above the windows'. -/
def PostOnly (c d : Core) : Prop :=
  d = { c with objs := d.objs, mc := d.mc, ddr := d.ddr, out := d.out, sluice := d.sluice, srQueue := d.srQueue } ∧
    ∀ k, k < 0x300000 → d.get k = c.get k

theorem PostOnly.refl (c : Core) : c.PostOnly c := ⟨rfl, fun _ _ => rfl⟩
theorem PostOnly.trans (h : c.PostOnly d) (h' : d.PostOnly e) : c.PostOnly e := by
  obtain ⟨h1, h2⟩ := h
  obtain ⟨h3, h4⟩ := h'
  exact ⟨by rw [h3, h1], fun k hk => (h4 k hk).trans (h2 k hk)⟩
theorem PostOnly.streamOf (h : c.PostOnly d) (i : Nat) : d.streamOf i = c.streamOf i := by rw [Core.streamOf, h.1, Core.streamOf]
theorem PostOnly.rings (h : c.PostOnly d) : d.rings = c.rings := by rw [h.1]
theorem PostOnly.wins (h : c.PostOnly d) : d.wins = c.wins := by rw [h.1]
theorem MemOnly.postOnly (h : c.MemOnly d) : c.PostOnly d := ⟨h.1, fun k hk => h.get (by simp only [isMemKey, isSluiceKey]; omega)⟩

theorem postOnly_post {q : Req64} {x : Core × Bool} (h : c.post q = some x) : c.PostOnly x.1 := by
  unfold post at h
  dsimp only at h
  split at h
  · exact absurd h nofun
  · split at h
    · split at h
      · obtain rfl := Option.some.inj h
        exact ⟨rfl, fun k hk => get_put_ne c _ (by simp; omega)⟩
      · exact absurd h nofun
    · obtain ⟨m, -, rfl⟩ := Option.map_eq_some_iff.1 h
      exact (((memOnly_setMc c _ _).trans (stir_facts _ _).1).trans (rankOnly_wakeRank _ _ _).memOnly).postOnly

/-- One burst of a block. -/
def postBurst (ha cls data : Nat) (poison : Bool) (st : Nat) (a : Option (Core × List Nat)) (i : Nat) : Option (Core × List Nat) :=
  match a with
  | none => none
  | some (c, lost) =>
    (c.post (writeReq (ha + i) cls ((data >>> (512 * (3 - i))) % 2 ^ 512) poison (.block st))).map fun x =>
      (x.1, if x.2 then lost ++ [i] else lost)

theorem postOnly_bursts (ha cls data : Nat) (poison : Bool) (st : Nat) (l : List Nat) (a : Option (Core × List Nat)) {x : Core × List Nat}
    (ha' : ∀ y, a = some y → c.PostOnly y.1) (h : l.foldl (postBurst ha cls data poison st) a = some x) : c.PostOnly x.1 := by
  induction l generalizing a with
  | nil => exact ha' x h
  | cons i l ih =>
    refine ih _ (fun y hy => ?_) h
    cases a with
    | none => exact absurd hy nofun
    | some z =>
      obtain ⟨v, hv, rfl⟩ := Option.map_eq_some_iff.1 hy
      exact (ha' z rfl).trans (postOnly_post hv)

theorem postOnly_postBlock {ha cls data : Nat} {poison : Bool} {x : Core × List Nat} (h : c.postBlock ha cls data poison st = some x) :
    c.PostOnly x.1 := by
  refine postOnly_bursts ha cls data poison st (List.range 4) (some (c, [])) (fun y hy => ?_) h
  obtain rfl := Option.some.inj hy
  exact PostOnly.refl c

theorem releaseHeld_only (c : Core) : ∃ l, (if c.urgent then c.releaseHeld else c) = { c with ctxs := l } := by
  have hfold : ∀ (f : Core → Nat → CtxState → CtxState) (l : List Nat) (c : Core),
      ∃ t, l.foldl (fun c x => c.updCtx x (f c x)) c = { c with ctxs := t } := fun f l => by
    induction l with
    | nil => exact fun c => ⟨c.ctxs, rfl⟩
    | cons x l ih =>
      intro c
      obtain ⟨t, ht⟩ := ih (c.updCtx x (f c x))
      exact ⟨t, ht⟩
  split
  · exact hfold _ _ c
  · exact ⟨c.ctxs, rfl⟩

theorem releaseHeld_facts (c : Core) : ∃ t : Core, (if c.urgent then c.releaseHeld else c) = t ∧ t.mc = c.mc ∧ t.wins = c.wins ∧
    t.rings = c.rings ∧ (∀ k, t.get k = c.get k) ∧ t.streams = c.streams := by
  obtain ⟨l, hl⟩ := releaseHeld_only c
  exact ⟨_, hl, rfl, rfl, rfl, fun _ => rfl, rfl⟩

/-- A block that its controllers take, whose samples are complete, leaves the buffer, and RING_HEAD follows. -/
theorem commitAt_facts {b : RingBlock} {p : Nat} {c1 : Core} (hst : st < 256) (hr : c.get (Obj.Stream.REGION st) < 1024)
    (hw : c.wins = []) (hpost : c.postBlock (c.regionHa (c.get (Obj.Stream.REGION st)) + p * 2 ^ 14 + b.no % 4096 * 4)
      (if c.urgent then 1 else 2) b.data b.poison st = some (c1, []))
    (hgone : (b.no + 1) * c.spb st ≤ c.next st)
    (hgap : ((c.streamOf st).blocks.filter fun y => y.no != b.no).any (fun b => b.due || b.uncommitted.isSome) = true ∨
      (c.next st - 1) / c.spseg st ≤ segL ((c.ringOf (c.get (Obj.Stream.REGION st))).map.num (c.get (Obj.Region.CURSOR
        (c.get (Obj.Stream.REGION st)))))) :
    ∃ d, c.commitAt st b p = some d ∧ d.mc = c1.mc ∧ (d.streamOf st).blocks = ((c.streamOf st).blocks.filter fun y => y.no != b.no) ∧
      d.get (Obj.Region.RING_HEAD (c.get (Obj.Stream.REGION st))) = d.headOf st := by
  have hpo : c.PostOnly c1 := postOnly_postBlock hpost
  have hget := hpo.2
  have hspb : c1.spb st = c.spb st := by rw [spb, spb, hget _ (by simp; omega)]
  have hnext : c1.next st = c.next st := hget _ (by simp; omega)
  have hstr : c1.streamOf st = c.streamOf st := hpo.streamOf st
  have htaken : c1.blockTaken st b = c1.updStream st fun s => { s with blocks := s.blocks.filter fun x => x.no != b.no } := by
    have hif : ((decide ((b.no + 1) * c1.spb st ≤ c1.next st) || decide (c1.stState st = St.ended)) ||
        decide (c1.stState st = St.flushing)) = true := by
      rw [hspb, hnext, decide_eq_true hgone, Bool.true_or, Bool.true_or]
    simp only [blockTaken, if_pos hif]
  obtain ⟨t, hteq, hmc, htw, hrings, htget, htstr⟩ := releaseHeld_facts (c1.blockTaken st b)
  have hblocks : (t.streamOf st).blocks = (c.streamOf st).blocks.filter fun y => y.no != b.no := by
    rw [streamOf, htstr, ← streamOf, htaken, streamOf_updStream_self, hstr]
  rw [htaken] at hmc htw hrings htget
  replace hmc : t.mc = c1.mc := hmc
  replace htw : t.wins = [] := htw.trans (hpo.wins.trans hw)
  replace hrings : t.rings = c.rings := hrings.trans hpo.rings
  replace htget : ∀ k, t.get k = c1.get k := fun k => (htget k).trans (get_updStream _ _ _ _)
  have htr : t.get (Obj.Stream.REGION st) = c.get (Obj.Stream.REGION st) := (htget _).trans (hget _ (by simp; omega))
  have hstand : t.gapCursor st = t := by
    refine gapCursor_eq_self (.inr ?_)
    rw [hblocks, htr, next, spseg, spb, ringOf, hrings, ← ringOf, htget, htget, htget, hget _ (by simp; omega), hget _ (by simp; omega),
      hget _ (by revert hr; generalize c.get (Obj.Stream.REGION st) = r; intro hr; simp; omega)]
    exact hgap
  obtain ⟨hm, hmm, hmh⟩ := headMoved_facts hst (htr ▸ hr) htw (by rw [hstand]; exact StreamsSame.refl t)
  rw [htr] at hmh
  have hdr : (t.headMoved st).get (Obj.Stream.REGION st) = c.get (Obj.Stream.REGION st) := by rw [hm.get (by simp; omega), htr]
  obtain ⟨g1, g2, -, -, g5⟩ := flushDoneStream_facts (st := st) (c := t.headMoved st) (hm.noWins htw)
  obtain ⟨w1, w2, w3⟩ := water_facts ((t.headMoved st).flushDoneStream st)
  have hds : (((t.headMoved st).flushDoneStream st).water).streamOf st = t.streamOf st := by rw [streamOf, w1, g1, ← streamOf, hm.streamOf]
  have hdn : (((t.headMoved st).flushDoneStream st).water).next st = t.next st := by
    rw [next, w3 _ (waterKeeps_of (by simp; omega) (by simp; omega) (by simp)), g5 _ (by simp) ?_, hm.get (by simp; omega), next]
    rw [hdr]
    revert hr
    generalize c.get (Obj.Stream.REGION st) = r
    intro hr
    simp
    omega
  refine ⟨((t.headMoved st).flushDoneStream st).water, ?_, ?_, by rw [hds, hblocks], ?_⟩
  · rw [commitAt]
    dsimp only
    rw [hpost, Option.map_some, ← hteq]
    rfl
  · rw [w2, g2, hmm, hstand, hmc]
  · rw [headOf_congr hds hdn, ← hmh]
    revert hr
    generalize c.get (Obj.Stream.REGION st) = r at hdr ⊢
    intro hr
    rw [w3 _ (waterKeeps_of (by simp; omega) (by simp; omega) (by simp)), g5 _ (by simp; omega) (by rw [hdr]; simp)]

/-- The first block that waits, in the segment where the cursor stands. -/
theorem tryCommit_here {b : RingBlock} (before : List RingBlock) (hdue : b.due = true)
    (hseg : segL ((c.ringOf (c.get (Obj.Stream.REGION st))).map.num (c.get (Obj.Region.CURSOR (c.get (Obj.Stream.REGION st))))) =
      b.no / 4096) : c.tryCommit st before b = c.commitAt st b (c.get (Obj.Region.CURSOR (c.get (Obj.Stream.REGION st)))) := by
  rw [tryCommit]
  dsimp only
  rw [if_neg (by rw [hdue]; decide), if_neg (by omega), if_pos hseg.symm]

theorem commitAt_of_stalled {b : RingBlock} {p : Nat} (h : c.postBlock (c.regionHa (c.get (Obj.Stream.REGION st)) + p * 2 ^ 14 +
    b.no % 4096 * 4) (if c.urgent then 1 else 2) b.data b.poison st = none) : c.commitAt st b p = none := by
  rw [commitAt]
  dsimp only
  rw [h, Option.map_none]

theorem blockCommit_of_first {b : RingBlock} {rest : List RingBlock} (hb : (c.streamOf st).blocks = b :: rest)
    (h : c.tryCommit st [] b = some d) : c.blockCommit st = d := by
  rw [blockCommit, hb, List.mapIdx_cons, List.findSome?_cons_of_isSome]
  · simp [h]
  · simp [h]

theorem blockCommit_of_second {b0 b : RingBlock} {rest : List RingBlock} (hb : (c.streamOf st).blocks = b0 :: b :: rest)
    (h0 : c.tryCommit st [] b0 = none) (h : c.tryCommit st [b0] b = some d) : c.blockCommit st = d := by
  rw [blockCommit, hb, List.mapIdx_cons, List.mapIdx_cons]
  simp [h0, h]

end Core

/-! ## The statement -/

variable {s : State} {st : StreamNo} {w : World}

theorem stream_enable : Obj.Stream.ENABLE st.val / 256 = 0x2800 + st.val ∧ Obj.Stream.ENABLE st.val % 256 = 1 ∧
    clearableOf (0x2800 + st.val) 1 = none ∧ coreObject (0x2800 + st.val) 1 ∧
    ∀ (c : Core) (f : Fuses) (x : World) (bs : List Byte), c.writeValue f x (0x2800 + st.val) 1 bs =
      if ofBytes bs = 1 then c.enableStream st.val else c.disableStream st.val := by
  have hn : 0x2800 + st.val - 0x2800 = st.val := by omega
  refine ⟨by simp; omega, by simp, clearableOf_of_lookup ((lookup_stream (by decide) st.isLt).trans rfl) nofun,
    by simp only [coreObject]; omega, fun c f x bs => ?_⟩
  simp (disch := omega) only [Core.writeValue, Bool.and_eq_true, decide_eq_true_eq, if_neg, if_pos]
  rw [hn, Core.writeStream, if_pos rfl]

theorem urgent_clear (s : State) : s.clear.core.urgent = s.core.urgent := rfl

theorem streams_enabled (hadm : Admits s w (Obj.Stream.ENABLE st.val) 1) (hdis : s.core.stState st.val = St.disabled)
    (hok : s.core.enableRefusal st.val = none) (hc : s.core.ctxs = []) (hw : s.core.wins = []) (hf : s.core.anyBlocked = false) :
    AnswersOk (.streamEnable st w) s fun c =>
      c.stState st.val = St.armed ∧ c.get (Obj.Stream.ENABLE st.val) = 1 ∧
      c.next st.val = s.core.get (Obj.Stream.START_INDEX st.val) ∧ (c.streamOf st.val).blocks = [] ∧
      (c.streamOf st.val).waiting = [] := by
  obtain ⟨hidx, hsub, hclear, hcore, hval⟩ := stream_enable (st := st)
  obtain ⟨d, hd, h1, h2, h3, h4, h5⟩ := Core.enableStream_facts (c := s.clear.core) st.isLt hdis hok hc hw ((Core.flowing_iff _).2 hf)
  refine answersOk_writeNum rfl hadm (by rw [hidx, hsub]; exact hclear) (by rw [hidx, hsub]; exact hcore) (c := d) ?_
    ⟨h1, h2, h3, h4, h5⟩
  rw [hidx, hsub, hval, ofBytes_toBytes_of_fits hadm.2.1, if_pos rfl]
  exact hd

theorem streams_disabled (hadm : Admits s w (Obj.Stream.ENABLE st.val) 0)
    (hstate : s.core.stState st.val = St.armed ∨ s.core.stState st.val = St.running ∨ s.core.stState st.val = St.ended)
    (hr : s.core.get (Obj.Stream.REGION st.val) < 1024) (hc : s.core.ctxs = []) (hw : s.core.wins = []) :
    AnswersOk (.streamDisable st w) s fun c =>
      c.get (Obj.Stream.ENABLE st.val) = 0 ∧
      c.stState st.val =
        (if (s.core.streamOf st.val).blocks.any (fun b => b.uncommitted.isSome) then St.flushing else St.disabled) := by
  obtain ⟨hidx, hsub, hclear, hcore, hval⟩ := stream_enable (st := st)
  obtain ⟨d, hd, h1, h2⟩ := Core.disableStream_facts (c := s.clear.core) st.isLt hstate hr hc hw
  refine answersOk_writeNum rfl hadm (by rw [hidx, hsub]; exact hclear) (by rw [hidx, hsub]; exact hcore) (c := d) ?_ ⟨h1, h2⟩
  rw [hidx, hsub, hval, ofBytes_toBytes_of_fits hadm.2.1, if_neg (by decide)]
  exact hd

/-- Settles O25: ENABLE and DISABLE move a stream and its ring, which no window or context watches; a timeout lets the last block go;
a commit posts the first block that waits and whose controllers take it. -/
theorem streamBlocks : Obligations.StreamBlocks := by
  unfold Obligations.StreamBlocks
  refine ⟨fun s st w => streams_enabled, fun s st w => streams_disabled, fun s st b hup hlast hun hdue => ?_,
    fun s st b rest c1 r hup hr hlt hb hdue hseg hpost hgone hgap hw => ?_,
    fun s st b0 b rest c1 r hup hr hlt hb hdue0 hdue hne hseg0 hseg hnone hpost hgone hw => ?_⟩
  · obtain ⟨h1, h2, h3, h4⟩ := Core.flushTimeout_facts (c := s.clear.core) hlast hun hdue
    exact answersCore_onHub (fun c => c.flushTimeout st.val) rfl hup (h4.trans rfl) ⟨h1, h2, h3⟩
  · subst hr
    rw [← urgent_clear] at hpost
    have hfilter : (s.clear.core.streamOf st.val).blocks.filter (fun y => y.no != b.no) = (b :: rest).filter fun y => y.no != b.no :=
      congrArg _ hb
    obtain ⟨d, hd, h1, h2, h3⟩ := Core.commitAt_facts (c := s.clear.core) st.isLt hlt hw hpost hgone (.inr (hgap.trans hseg.ge))
    refine answersThen_onHub (fun c => c.blockCommit st.val) rfl hup ?_
    rw [Core.blockCommit_of_first (c := s.clear.core) hb ((Core.tryCommit_here (c := s.clear.core) [] hdue hseg).trans hd)]
    exact ⟨h1, h2.trans hfilter, h3⟩
  · subst hr
    rw [← urgent_clear] at hpost hnone
    have hfilter : (s.clear.core.streamOf st.val).blocks.filter (fun y => y.no != b.no) = (b0 :: b :: rest).filter fun y => y.no != b.no :=
      congrArg _ hb
    have hwait : ((s.clear.core.streamOf st.val).blocks.filter fun y => y.no != b.no).any (fun b => b.due || b.uncommitted.isSome) = true := by
      rw [hfilter, List.any_eq_true]
      exact ⟨b0, List.mem_filter.2 ⟨List.mem_cons_self, bne_iff_ne.2 hne.symm⟩, by rw [hdue0]; rfl⟩
    obtain ⟨d, hd, h1, h2, h3⟩ := Core.commitAt_facts (c := s.clear.core) st.isLt hlt hw hpost hgone (.inl hwait)
    refine answersThen_onHub (fun c => c.blockCommit st.val) rfl hup ?_
    rw [Core.blockCommit_of_second (c := s.clear.core) hb ((Core.tryCommit_here (c := s.clear.core) [] hdue0 (hseg.trans hseg0.symm)).trans
      (Core.commitAt_of_stalled hnone)) ((Core.tryCommit_here (c := s.clear.core) [b0] hdue hseg).trans hd)]
    exact ⟨h1, h2.trans hfilter, h3⟩

end Sys2Proof.Machine
end

section
/-! PROOFS. Acceptance at a controller (01_hub_in_the_array.md R21; 07_memory_controller.md R168 to R170). -/

namespace Sys2Proof.Machine

/-- The FIFO gives up its head, and the requests behind it keep their order. -/
theorem McState.pop_arriving (m : McState) : m.pop.wait ++ m.pop.stalled = m.wait.drop 1 ++ m.stalled := by
  rw [McState.pop, List.append_assoc, List.take_append_drop]

theorem McState.pop_length (m : McState) {r : Req64} {rest : List Req64} (h : m.wait = r :: rest) (hle : m.wait.length ≤ 32) :
    m.pop.wait.length ≤ 32 ∧ (m.pop.stalled ≠ [] → m.pop.wait.length = 32) := by
  have hlen : m.wait.length = rest.length + 1 := by rw [h, List.length_cons]
  have hwait : m.pop.wait.length = rest.length + min (32 - rest.length) m.stalled.length := by
    rw [McState.pop]
    dsimp only
    rw [List.length_append, List.length_drop, List.length_take, hlen]
    omega
  refine ⟨by omega, fun hne => ?_⟩
  have hpos : 0 < m.pop.stalled.length := List.length_pos_of_ne_nil hne
  rw [McState.pop] at hpos
  dsimp only at hpos
  rw [List.length_drop, hlen] at hpos
  omega

namespace Core

variable {c : Core} {n : Nat} {m : McState} {r : Req64} {rest : List Req64}

theorem get_inc64_min (c : Core) (k : Nat) : (c.inc64 k).get k = min (c.get k + 1) (2 ^ 64 - 1) := by
  rw [inc64, get_add_self, sat_eq_min]

theorem get_inc64_ne (c : Core) {k i : Nat} (h : i ≠ k) : (c.inc64 k).get i = c.get i := get_add_ne c 64 1 h

/-! ## Reads (R168, R169) -/

theorem mcAccept_read (hw : (c.mcOf n).wait = r :: rest) (hr : r.write = false) : c.mcAccept n = c.acceptRead n (c.mcOf n) r := by
  simp [mcAccept, hw, hr]

theorem mcAccept_write (hw : (c.mcOf n).wait = r :: rest) (hr : r.write = true) : c.mcAccept n = c.acceptWrite n (c.mcOf n) r := by
  simp [mcAccept, hw, hr]

theorem mcAccept_idle (hw : (c.mcOf n).wait = []) : c.mcAccept n = c := by rw [mcAccept, hw]

theorem lastOf_eq_none {ws : List Req64} {ha : Nat} (h : ∀ w ∈ ws, w.ha ≠ ha) : (ws.filter fun w => w.ha == ha).getLast? = none := by
  have hnil : ws.filter (fun w => w.ha == ha) = [] := List.filter_eq_nil_iff.2 fun w hw => by simpa using h w hw
  rw [hnil, List.getLast?_nil]

/-- A read of no waiting write takes a read entry, or waits. -/
theorem acceptRead_entry (hno : ∀ w ∈ m.writes, w.ha ≠ r.ha) (hin : c.scOut n = false) : c.acceptRead n m r =
    if m.reads.length < 128 then
      c.setMc n { m.pop with reads := m.reads ++ [{ r with id := m.nextId, t := c.tick }], nextId := m.nextId + 1 }
    else c := by
  rw [acceptRead, lastOf_eq_none hno]
  dsimp only
  rw [if_neg (by simp [hin])]

/-- A block of a READ has its data. -/
theorem hrGot_facts {p tag blk up data outcome : Nat} (hup : (c.portOf p).ups = up) :
    (∀ x ∈ ((c.hrGot p tag blk up data outcome).portOf p).readTxns, x.tag = tag → ∀ b, x.blocks[blk]? = some b →
      b.got = some (data, outcome)) ∧ (c.hrGot p tag blk up data outcome).mc = c.mc ∧ (c.hrGot p tag blk up data outcome).req = c.req ∧
    ∀ k, (c.hrGot p tag blk up data outcome).get k = c.get k := by
  rw [hrGot, if_neg (by rw [hup]; simp)]
  refine ⟨fun x hx htag b hb => ?_, rfl, rfl, fun k => rfl⟩
  rw [portOf_updPort_self] at hx
  obtain ⟨y, -, rfl⟩ := List.mem_map.1 hx
  by_cases hy : y.tag = tag
  · rw [if_pos hy, List.getElem?_mapIdx] at hb
    obtain ⟨z, -, rfl⟩ := Option.map_eq_some_iff.1 hb
    rw [if_pos rfl]
  · rw [if_neg hy] at htag
    exact absurd htag hy

/-- A read of an address that waits in the write queue has its data from there. -/
theorem acceptRead_forward {w : Req64} {p tag blk up : Nat} (hown : r.owner = .hrRead p tag blk up) (hup : (c.portOf p).ups = up)
    (hw : (m.writes.filter fun w => w.ha == r.ha).getLast? = some w) :
    (c.acceptRead n m r).mcOf n = m.pop ∧
    (∀ x ∈ ((c.acceptRead n m r).portOf p).readTxns, x.tag = tag → ∀ b, x.blocks[blk]? = some b →
      b.got = some (w.data, ofBool w.poison)) ∧
    (c.acceptRead n m r).get (Obj.Sc.READS n) = min (c.get (Obj.Sc.READS n) + 1) (2 ^ 64 - 1) ∧
    (c.acceptRead n m r).get (Obj.Sc.FORWARDS n) = min (c.get (Obj.Sc.FORWARDS n) + 1) (2 ^ 64 - 1) ∧
    (∀ k, k ≠ Obj.Sc.READS n → k ≠ Obj.Sc.FORWARDS n → (c.acceptRead n m r).get k = c.get k) ∧ (c.acceptRead n m r).req = c.req := by
  have hdata : (if ofBool w.poison = 2 then 0 else w.data) = w.data := if_neg (by cases w.poison <;> decide)
  have heq : c.acceptRead n m r = (((c.setMc n m.pop).inc64 (Obj.Sc.READS n)).inc64 (Obj.Sc.FORWARDS n)).hrGot p tag blk up w.data
      (ofBool w.poison) := by
    rw [acceptRead, hw]
    dsimp only
    rw [deliver, hown]
    dsimp only
    rw [hdata]
  obtain ⟨h1, h2, h3, h4⟩ := hrGot_facts (c := ((c.setMc n m.pop).inc64 (Obj.Sc.READS n)).inc64 (Obj.Sc.FORWARDS n)) (tag := tag)
    (blk := blk) (data := w.data) (outcome := ofBool w.poison) (p := p) (up := up) hup
  rw [heq]
  refine ⟨?_, h1, ?_, ?_, fun k hk1 hk2 => ?_, h3⟩
  · rw [mcOf, h2]
    exact mcOf_setMc_self c n m.pop
  · rw [h4, get_inc64_ne _ (by simp), get_inc64_min]
    rfl
  · rw [h4, get_inc64_min, get_inc64_ne _ (by simp)]
    rfl
  · rw [h4, get_inc64_ne _ hk2, get_inc64_ne _ hk1]
    rfl

/-! ## Writes (R168, R170) -/

theorem takeWrite_new (hno : ∀ w ∈ m.writes, w.ha ≠ r.ha) (hlen : m.writes.length < 128) (now : Nat) : ∃ m1, m.takeWrite r now = some m1 ∧
    m1.wait = passScrub r.ha m.wait ∧ m1.stalled = passScrub r.ha m.stalled ∧
    m1.writes = m.writes ++ [{ r with id := m.nextId, t := now }] := by
  have hany : (m.writes.any fun w => w.ha == r.ha) = false := List.any_eq_false.2 fun w hw => by simpa using hno w hw
  rw [McState.takeWrite]
  dsimp only
  rw [hany, if_neg (by decide), if_pos hlen]
  exact ⟨_, rfl, rfl, rfl, rfl⟩

theorem takeWrite_merge (hw : ∃ w ∈ m.writes, w.ha = r.ha) (now : Nat) : ∃ m1, m.takeWrite r now = some m1 ∧
    m1.wait = passScrub r.ha m.wait ∧ m1.stalled = passScrub r.ha m.stalled ∧ m1.writes = mergeWrite r m.writes := by
  have hany : (m.writes.any fun w => w.ha == r.ha) = true := List.any_eq_true.2 (by simpa using hw)
  rw [McState.takeWrite]
  dsimp only
  rw [hany, if_pos rfl]
  exact ⟨_, rfl, rfl, rfl, rfl⟩

/-- The FIFO gives up a WRITE's burst that the write queue takes, and the WRITE awaits one burst less. -/
theorem acceptWrite_facts {m1 : McState} {p tag up : Nat} (hw : m.wait = r :: rest) (hown : r.owner = .hrWrite p tag up)
    (hup : (c.portOf p).ups = up) (hin : c.scOut n = false) (htake : m.takeWrite r c.tick = some m1)
    (h1 : m1.wait = passScrub r.ha m.wait) (h2 : m1.stalled = passScrub r.ha m.stalled) :
    ((c.acceptWrite n m r).mcOf n).wait ++ ((c.acceptWrite n m r).mcOf n).stalled = passScrub r.ha (rest ++ m.stalled) ∧
    ((c.acceptWrite n m r).mcOf n).writes = m1.writes ∧
    ((c.acceptWrite n m r).portOf p).writeTxns = ((c.portOf p).writeTxns.map fun x =>
      if x.tag = tag then { x with left := x.left - 1 } else x) ∧
    (∀ k, (c.acceptWrite n m r).get k = c.get k) ∧ (c.acceptWrite n m r).req = c.req := by
  have heq : c.acceptWrite n m r = (c.setMc n m1.pop).updPort p fun s => { s with writeTxns := s.writeTxns.map fun x =>
      if x.tag = tag then { x with left := x.left - 1, retry := x.retry || false } else x } := by
    rw [acceptWrite, if_neg (by simp [hin]), if_neg (by simp [hown]), htake, hown]
    dsimp only
    rw [hrAccepted, if_neg]
    exact not_not.2 hup
  have hmc : (c.acceptWrite n m r).mcOf n = m1.pop := by
    rw [heq]
    exact mcOf_setMc_self c n m1.pop
  rw [hmc]
  refine ⟨?_, rfl, ?_, fun k => ?_, ?_⟩
  · rw [McState.pop_arriving, h1, h2, hw, passScrub, passScrub, passScrub, List.map_append]
    rfl
  · rw [heq, portOf_updPort_self]
    simp only [Bool.or_false]
    rfl
  · rw [heq]
    rfl
  · rw [heq]
    rfl

end Core

/-- Settles O32: what the FIFO gives up, and what becomes of a read and of a write at its head. -/
theorem acceptance : Obligations.Acceptance := by
  unfold Obligations.Acceptance
  refine ⟨fun m r rest hw hle => ?_, fun s sc m r rest hup hm hw hr hno hin => ?_,
    fun s sc m r w rest p tag blk up hub hm hw hr hown hup hlast => ?_,
    fun s sc m r rest p tag up hub hm hw hr hown hup hin hno hlen => ?_,
    fun s sc m r rest p tag up hub hm hw hr hown hup hin hex => ?_, fun s sc hup hw => ?_⟩
  · obtain ⟨h1, h2⟩ := m.pop_length hw hle
    refine ⟨?_, h1, h2⟩
    rw [m.pop_arriving, hw, List.drop_one, List.tail_cons]
  · subst hm
    have heq : s.clear.core.mcAccept sc.val = _ := (Core.mcAccept_read (c := s.clear.core) hw hr).trans
      (Core.acceptRead_entry (c := s.clear.core) hno hin)
    refine answersCore_onHub (fun c => c.mcAccept sc.val) rfl hup ?_ ?_ <;> rw [heq]
    · split <;> rfl
    · by_cases hlen : (s.core.mcOf sc.val).reads.length < 128
      · rw [if_pos hlen, if_pos (show (s.clear.core.mcOf sc.val).reads.length < 128 from hlen)]
        exact ⟨Core.mcOf_setMc_self _ _ _, fun _ => rfl⟩
      · rw [if_neg hlen, if_neg (show ¬ (s.clear.core.mcOf sc.val).reads.length < 128 from hlen)]
        exact ⟨rfl, fun _ => rfl⟩
  · subst hm
    obtain ⟨h1, h2, h3, h4, h5, h6⟩ := Core.acceptRead_forward (c := s.clear.core) (n := sc.val) hown hup hlast
    have heq : s.clear.core.mcAccept sc.val = _ := Core.mcAccept_read (c := s.clear.core) hw hr
    refine answersCore_onHub (fun c => c.mcAccept sc.val) rfl hub ?_ ?_ <;> rw [heq]
    · exact h6.trans rfl
    · exact ⟨h1, h2, h3, h4, h5⟩
  · subst hm
    obtain ⟨m1, htake, hwait, hstalled, hwrites⟩ := Core.takeWrite_new hno hlen s.clear.core.tick
    obtain ⟨h1, h2, h3, h4, h5⟩ := Core.acceptWrite_facts (c := s.clear.core) (n := sc.val) hw hown hup hin htake hwait hstalled
    have heq : s.clear.core.mcAccept sc.val = _ := Core.mcAccept_write (c := s.clear.core) hw hr
    refine answersCore_onHub (fun c => c.mcAccept sc.val) rfl hub ?_ ?_ <;> rw [heq]
    · exact h5.trans rfl
    · exact ⟨h1, h2.trans hwrites, h3, h4⟩
  · subst hm
    obtain ⟨m1, htake, hwait, hstalled, hwrites⟩ := Core.takeWrite_merge hex s.clear.core.tick
    obtain ⟨h1, h2, h3, h4, h5⟩ := Core.acceptWrite_facts (c := s.clear.core) (n := sc.val) hw hown hup hin htake hwait hstalled
    have heq : s.clear.core.mcAccept sc.val = _ := Core.mcAccept_write (c := s.clear.core) hw hr
    refine answersCore_onHub (fun c => c.mcAccept sc.val) rfl hub ?_ ?_ <;> rw [heq]
    · exact h5.trans rfl
    · exact ⟨h1, h2.trans hwrites, h3, h4⟩
  · exact exec_of_onHub_unchanged (f := fun c => c.mcAccept sc.val) (Core.mcAccept_idle (c := s.clear.core) hw) rfl

end Sys2Proof.Machine
end

section
/-! PROOFS. Refresh debts, MR4 polls, promotions, idle rows and REFRESH_FLUSH (07_memory_controller.md R173, R175, R176, R178 to
R183). -/

namespace Sys2Proof.Machine

namespace Core

variable {c : Core} {n pr lr : Nat}

/-! ## Waking a package rank (R183) -/

theorem bitOf_put_self (c : Core) (k v i : Nat) : (c.put k v).bitOf k i = v.testBit i := by rw [bitOf, get_put_self]

theorem bitOf_putBit_self (c : Core) (k i j : Nat) (b : Bool) :
    (c.putBit k i b).bitOf k j = if j = i then b else c.bitOf k j := by
  rw [putBit, bitOf_put_self, testBit_setBitTo, bitOf]

theorem pdExit_bit (c : Core) (n pr i : Nat) :
    (c.pdExit n pr).bitOf (Obj.Sc.PD_MASK n) i = if i = pr then false else c.bitOf (Obj.Sc.PD_MASK n) i := by
  have hbase : (((c.updMc n fun m => { m with wakeDue := setBitTo pr false m.wakeDue }).putBit (Obj.Sc.PD_MASK n) pr false).order n
      (.pdExit pr)).bitOf (Obj.Sc.PD_MASK n) i = if i = pr then false else c.bitOf (Obj.Sc.PD_MASK n) i :=
    bitOf_putBit_self _ _ _ _ _
  unfold pdExit
  dsimp only
  split
  · rw [bitOf_congr i (get_put_ne _ 0 (by simp)), hbase]
  · exact hbase

theorem pdExit_mcOf (c : Core) (n pr : Nat) : (c.pdExit n pr).mcOf n =
    { c.mcOf n with wakeDue := setBitTo pr false (c.mcOf n).wakeDue } := by
  have hbase : (((c.updMc n fun m => { m with wakeDue := setBitTo pr false m.wakeDue }).putBit (Obj.Sc.PD_MASK n) pr false).order n
      (.pdExit pr)).mcOf n = { c.mcOf n with wakeDue := setBitTo pr false (c.mcOf n).wakeDue } := mcOf_setMc_self c n _
  unfold pdExit
  dsimp only
  split
  · exact hbase
  · exact hbase

/-- A package rank wakes, and the controller notes no more than that. -/
theorem wakeRank_mcOf (c : Core) (n pr : Nat) : ∃ w b, (c.wakeRank n pr).mcOf n = { c.mcOf n with wakeDue := w, pdBack := b } := by
  have hbase := mcOf_setMc_self c n { c.mcOf n with pdBack := setBitTo pr false (c.mcOf n).pdBack }
  unfold wakeRank updMc
  dsimp only
  split
  · split
    · exact ⟨_, _, (mcOf_setMc_self _ n _).trans (by rw [hbase])⟩
    · exact ⟨_, _, (pdExit_mcOf _ n pr).trans (by rw [hbase])⟩
  · exact ⟨_, _, hbase⟩

/-- Where ALERT_n lets commands issue, the rank leaves power-down at once. -/
theorem wakeRank_bit (hs : (c.mcOf n).stopped = false) (i : Nat) :
    (c.wakeRank n pr).bitOf (Obj.Sc.PD_MASK n) i = if i = pr then false else c.bitOf (Obj.Sc.PD_MASK n) i := by
  unfold wakeRank
  dsimp only
  split
  · rw [if_neg (by rw [hs]; decide), pdExit_bit]
    rfl
  · next h =>
    split
    · next hi =>
      rw [hi]
      exact Bool.eq_false_iff.2 h
    · rfl

theorem wakeBoth_facts (hs : (c.mcOf n).stopped = false) : (c.wakeBoth n).bitOf (Obj.Sc.PD_MASK n) 0 = false ∧
    (c.wakeBoth n).bitOf (Obj.Sc.PD_MASK n) 1 = false ∧ RankOnly n c (c.wakeBoth n) := by
  obtain ⟨w, b, hm⟩ := wakeRank_mcOf c n 0
  have hs' : ((c.wakeRank n 0).mcOf n).stopped = false := by rw [hm]; exact hs
  refine ⟨?_, ?_, (rankOnly_wakeRank c n 0).trans (rankOnly_wakeRank _ n 1)⟩
  · rw [wakeBoth, wakeRank_bit hs', if_neg (by decide), wakeRank_bit hs, if_pos rfl]
  · rw [wakeBoth, wakeRank_bit hs', if_pos rfl]

/-! ## Refresh intervals and polls (R176, R178, R181) -/

theorem refreshInterval_facts (hr : c.restsItself n = false) (hs : (c.mcOf n).stopped = false) :
    ((c.refreshInterval n lr).mcOf n).debt.num lr = (c.mcOf n).debt.num lr + 1 ∧
    (c.refreshInterval n lr).bitOf (Obj.Sc.PD_MASK n) (lr / 4) = false ∧ RankOnly n c (c.refreshInterval n lr) := by
  obtain ⟨m, hm⟩ : ∃ m, m = { c.mcOf n with debt := (c.mcOf n).debt.setNum lr ((c.mcOf n).debt.num lr + 1) } := ⟨_, rfl⟩
  have hdebt : m.debt.num lr = (c.mcOf n).debt.num lr + 1 := by
    rw [hm]
    exact num_setNum_self (c.mcOf n).debt lr ((c.mcOf n).debt.num lr + 1)
  have hset : (c.setMc n m).mcOf n = m := mcOf_setMc_self c n m
  have hstop : ((c.setMc n m).mcOf n).stopped = false := by rw [hset, hm]; exact hs
  have heq : c.refreshInterval n lr = if c.bitOf (Obj.Sc.PD_MASK n) (lr / 4) then
      ((c.setMc n m).wakeRank n (lr / 4)).updMc n fun m => { m with pdBack := setBitTo (lr / 4) true m.pdBack }
      else c.setMc n m := by rw [refreshInterval, hr, hm]; rfl
  rw [heq]
  split
  · obtain ⟨w, b, hw⟩ := wakeRank_mcOf (c.setMc n m) n (lr / 4)
    refine ⟨?_, ?_, ((rankOnly_updMc c n n fun _ => m).trans (rankOnly_wakeRank _ n _)).trans (rankOnly_updMc _ n n _)⟩
    · rw [updMc, mcOf_setMc_self, hw, hset]
      exact hdebt
    · have hbit := wakeRank_bit (pr := lr / 4) hstop (lr / 4)
      rw [if_pos rfl] at hbit
      exact hbit
  · next h => exact ⟨by rw [hset, hdebt], Bool.eq_false_iff.2 h, rankOnly_updMc c n n fun _ => m⟩

theorem refreshInterval_rests (hr : c.restsItself n = true) : c.refreshInterval n lr = c := by rw [refreshInterval, if_pos hr]
theorem mr4Poll_rests (hr : c.restsItself n = true) : c.mr4Poll n = c := by rw [mr4Poll, if_pos hr]

theorem mr4Poll_facts (hr : c.restsItself n = false) (hs : (c.mcOf n).stopped = false) :
    (∀ lr < 8, ((c.mr4Poll n).mcOf n).mrrDue.testBit lr = true) ∧ (c.mr4Poll n).bitOf (Obj.Sc.PD_MASK n) 0 = false ∧
    (c.mr4Poll n).bitOf (Obj.Sc.PD_MASK n) 1 = false ∧ RankOnly n c (c.mr4Poll n) := by
  obtain ⟨h0, h1, hk⟩ := wakeBoth_facts hs
  rw [mr4Poll, if_neg (by rw [hr]; decide)]
  refine ⟨fun lr hlr => ?_, h0, h1, hk.trans (rankOnly_updMc _ n n _)⟩
  rw [updMc, mcOf_setMc_self]
  dsimp only
  interval_cases lr <;> rfl

/-! ## MR4 values (R178 to R180) -/

/-- One hot die doubles the debt, and what is above POSTPONE is excess. -/
theorem mr4Result_hot {dies : List (Fin 3)} (hout : (c.mcOf n).mrrOut.testBit lr = true) (hno : ∀ d ∈ dies, d ≠ 2)
    (hone : ∃ d ∈ dies, d = 1) (hcold : (c.mcOf n).hot.testBit lr = false) :
    ∃ m : McState, m.hot.testBit lr = true ∧ m.debt.num lr = 2 * (c.mcOf n).debt.num lr ∧
      m.excess.num lr = 2 * (c.mcOf n).debt.num lr - c.get Obj.Mc.POSTPONE ∧
      c.mr4Result n lr dies = if c.get Obj.Mc.POSTPONE < 2 * (c.mcOf n).debt.num lr then (c.setMc n m).flag (Obj.Sc.FLAGS n) 3
        else c.setMc n m := by
  have h2 : dies.any (· == 2) = false := List.any_eq_false.2 fun d hd => by simpa using hno d hd
  have h0 : dies.any (· != 0) = true := by
    obtain ⟨d, hd, rfl⟩ := hone
    exact List.any_eq_true.2 ⟨1, hd, by decide⟩
  refine ⟨{ c.mcOf n with mrrOut := setBitTo lr false (c.mcOf n).mrrOut, hot := setBitTo lr true (c.mcOf n).hot, oneX :=
    (c.mcOf n).oneX.setNum lr 0, debt := (c.mcOf n).debt.setNum lr (2 * (c.mcOf n).debt.num lr), excess :=
    (c.mcOf n).excess.setNum lr (2 * (c.mcOf n).debt.num lr - c.get Obj.Mc.POSTPONE) }, testBit_setBitTo_self _ _ _,
    num_setNum_self _ _ _, num_setNum_self _ _ _, ?_⟩
  simp only [mr4Result, hout, h2, h0, hcold, Bool.not_true, Bool.false_eq_true, if_false, if_true]

/-- Without a hot die the second poll in a row ends the hot rate. -/
theorem mr4Result_cool {dies : List (Fin 3)} (hout : (c.mcOf n).mrrOut.testBit lr = true) (hall : ∀ d ∈ dies, d = 0)
    (hhot : (c.mcOf n).hot.testBit lr = true) : ∃ m : McState, (m.hot.testBit lr = true ↔ (c.mcOf n).oneX.num lr = 0) ∧
      m.debt = (c.mcOf n).debt ∧ c.mr4Result n lr dies = c.setMc n m := by
  have h2 : dies.any (· == 2) = false := List.any_eq_false.2 fun d hd => by rw [hall d hd]; decide
  have h0 : dies.any (· != 0) = false := List.any_eq_false.2 fun d hd => by rw [hall d hd]; decide
  simp only [mr4Result, hout, h2, h0, hhot, Bool.not_true, Bool.false_eq_true, if_false, Bool.true_and, decide_eq_true_eq]
  split
  · next h =>
    refine ⟨_, ?_, ?_, rfl⟩
    · rw [testBit_setBitTo_self]
      simp
      omega
    · rfl
  · next h =>
    refine ⟨_, ?_, ?_, rfl⟩
    · simp only [hhot, true_iff]
      omega
    · rfl

/-- Whatever the values, the controller and one flag follow what a die beyond 2x has done. -/
theorem mr4Result_shape {dies : List (Fin 3)} (hout : (c.mcOf n).mrrOut.testBit lr = true) (h2 : 2 ∈ dies) :
    ∃ m : McState, c.mr4Result n lr dies = ((c.flag (Obj.Sc.FLAGS n) 4).raise (Src.mcTempLimit n) (ctxNone 11 5)).setMc n m ∨
      c.mr4Result n lr dies =
        (((c.flag (Obj.Sc.FLAGS n) 4).raise (Src.mcTempLimit n) (ctxNone 11 5)).setMc n m).flag (Obj.Sc.FLAGS n) 3 := by
  have h2 : dies.any (· == 2) = true := List.any_eq_true.2 ⟨2, h2, by decide⟩
  simp only [mr4Result, hout, h2, Bool.not_true, Bool.false_eq_true, if_false, if_true]
  split
  · split
    · exact ⟨_, .inl rfl⟩
    · split
      · exact ⟨_, .inr rfl⟩
      · exact ⟨_, .inl rfl⟩
  · split
    · exact ⟨_, .inl rfl⟩
    · exact ⟨_, .inl rfl⟩

theorem mcTempLimit_known (n : Fin 32) : (sourceInfo? (Src.mcTempLimit n.val)).isNone = false := by
  revert n
  decide +kernel

theorem mcRefLate_known (n : Fin 32) : (sourceInfo? (Src.mcRefLate n.val)).isNone = false := by
  revert n
  decide +kernel

/-- A die beyond 2x is flagged and raised, whatever the other dies say. -/
theorem mr4Result_beyond (n : Fin 32) {dies : List (Fin 3)} (hout : (c.mcOf n).mrrOut.testBit lr = true) (h2 : 2 ∈ dies) :
    (c.mr4Result n lr dies).bitOf (Obj.Sc.FLAGS n) 4 = true ∧ c.Raises (Src.mcTempLimit n) (c.mr4Result n lr dies) := by
  have hflag : ((c.flag (Obj.Sc.FLAGS n) 4).raise (Src.mcTempLimit n) (ctxNone 11 5)).bitOf (Obj.Sc.FLAGS n) 4 = true := by
    rw [bitOf_congr 4 (get_raise _ _ _ (by simp; omega)), bitOf_flag_self]
  have hraise : c.Raises (Src.mcTempLimit n) ((c.flag (Obj.Sc.FLAGS n) 4).raise (Src.mcTempLimit n) (ctxNone 11 5)) :=
    raises_of_raise _ (mcTempLimit_known n) rfl (get_flag_ne _ _ (by simp; omega))
  obtain ⟨m, h | h⟩ := mr4Result_shape hout h2 <;> rw [h]
  · exact ⟨hflag, hraise.of_get rfl⟩
  · exact ⟨bitOf_flag_of_bitOf 3 hflag, hraise.of_get (get_flag_ne _ _ (by simp; omega))⟩

theorem refLate_facts (n : Fin 32) (h : c.get Obj.Mc.POSTPONE < (c.mcOf n).debt.num lr) :
    (c.refLate n lr).bitOf (Obj.Sc.FLAGS n) 5 = true ∧ (c.refLate n lr).bitOf Obj.Mc.FLAGS 1 = true ∧
    c.Raises (Src.mcRefLate n) (c.refLate n lr) ∧ (c.refLate n lr).mc = c.mc := by
  rw [refLate, if_pos h]
  refine ⟨?_, ?_, raises_of_raise _ (mcRefLate_known n) rfl ?_, ?_⟩
  · rw [bitOf_congr 5 (get_raise _ _ _ (by simp; omega)), bitOf_congr 5 (get_flag_ne _ _ (by simp; omega)), bitOf_flag_self]
  · rw [bitOf_congr 1 (get_raise _ _ _ (by decide)), bitOf_flag_self]
  · rw [get_flag_ne _ _ (by simp; omega), get_flag_ne _ _ (by simp; omega)]
  · rw [mc_raise]
    rfl

/-! ## Promotion and idle rows (R173, R175) -/

theorem promote_eq {id : Nat} (h : ∃ r ∈ (c.mcOf n).reads ++ (c.mcOf n).writes, r.id = id ∧ (r.cls = 3 ∨ r.cls = 4)) :
    c.promote n id = (c.setMc n { c.mcOf n with
      reads := (c.mcOf n).reads.map fun r => if r.id = id then { r with cls := promoted r.cls, t := c.tick } else r
      writes := (c.mcOf n).writes.map fun r => if r.id = id then { r with cls := promoted r.cls, t := c.tick } else r }).inc64
        (Obj.Sc.PROMOTIONS n) := by
  have hany : (((c.mcOf n).reads ++ (c.mcOf n).writes).any fun r => r.id == id && (r.cls == 3 || r.cls == 4)) = true :=
    List.any_eq_true.2 (by simpa using h)
  rw [promote]
  dsimp only
  rw [if_pos hany]

theorem rowIdleClose_eq {b : Nat} (hopen : (c.mcOf n).rows.num b ≠ 0) (hmay : c.mayIssue n = true)
    (hfree : ∀ r ∈ (c.mcOf n).queued, (c.dramOf r.ha).bank = b → (c.dramOf r.ha).row + 1 ≠ (c.mcOf n).rows.num b) :
    c.rowIdleClose n b = (c.setMc n ((c.mcOf n).close b)).order n (.pre b) := by
  have hany : ((c.mcOf n).queued.any fun r => (c.dramOf r.ha).bank == b && (c.dramOf r.ha).row + 1 == (c.mcOf n).rows.num b) = false :=
    List.any_eq_false.2 fun r hr => by simpa using hfree r hr
  rw [rowIdleClose]
  dsimp only
  rw [if_pos]
  rw [hany, hmay]
  simpa using hopen

/-! ## REFRESH_FLUSH (R182) -/

/-- Every debt of a controller is to be worked off. -/
def flushAll (m : McState) : McState := { m with flush := (List.range 8).foldl (fun t lr => t.setNum lr (m.debt.num lr)) [] }

theorem flushAll_num (m : McState) (h : lr < 8) : (flushAll m).flush.num lr = m.debt.num lr := by
  rw [flushAll]
  dsimp only
  rw [num_foldl_setNum, if_pos h]

/-- REFRESH_FLUSH at one subchannel. -/
def flushAt (c : Core) (n : Nat) : Core :=
  if c.scOffline n || c.scState n = 2 then c
  else c.updMc n fun m => { m with flush := (List.range 8).foldl (fun t lr => t.setNum lr (m.debt.num lr)) [] }

theorem refreshFlush_eq (hfree : c.holds Ck.flush 0 = false) (hadm : c.admits 12000 = true) : c.refreshFlush =
    (.ok, ((c.grantCredit { kind := Ck.flush, owner := 0, mw := 12000, forced := false }).each 32 flushAt).flushDone) := by
  have hask : (if c.holds Ck.flush 0 then (true, c) else c.askNow Ck.flush 0 12000) =
      (true, c.grantCredit { kind := Ck.flush, owner := 0, mw := 12000, forced := false }) := by
    rw [hfree]
    exact askNow_of_admits c _ _ hadm
  rw [refreshFlush, hask]
  rfl

theorem flushAt_objs (c : Core) (n : Nat) : (flushAt c n).objs = c.objs ∧ (flushAt c n).sluice = c.sluice := by
  unfold flushAt
  split
  · exact ⟨rfl, rfl⟩
  · exact ⟨rfl, rfl⟩

theorem flushAt_mcOf (h : c.scState n = 0) : (flushAt c n).mcOf n = flushAll (c.mcOf n) := by
  rw [flushAt, scOffline, h]
  exact mcOf_setMc_self c n _

theorem flushAt_mcOf_ne {i : Nat} (h : i ≠ n) : (flushAt c n).mcOf i = c.mcOf i := by
  unfold flushAt
  split
  · rfl
  · exact mcOf_setMc_ne c _ h


/-- With every subchannel active, each controller works off its debts. -/
theorem flushed_mcOf {i : Nat} (hi : i < 32) (hact : ∀ n < 32, c.scState n = 0) :
    (c.each 32 flushAt).mcOf i = flushAll (c.mcOf i) := by
  refine each_reaches (P := fun d => d.objs = c.objs ∧ d.mcOf i = c.mcOf i) (Q := fun d => d.mcOf i = flushAll (c.mcOf i)) hi
    (fun d j hj hd => ⟨(flushAt_objs d j).1.trans hd.1, (flushAt_mcOf_ne (by omega)).trans hd.2⟩)
    (fun d hd => ?_) (fun d j hij _ hd => (flushAt_mcOf_ne (by omega)).trans hd) ⟨rfl, rfl⟩
  have hstate : d.scState i = 0 := by rw [scState, get, hd.1]; exact hact i hi
  rw [flushAt_mcOf hstate, hd.2]

theorem flushed_sluice (c : Core) : (c.each 32 flushAt).sluice = c.sluice :=
  each_induct (fun d => d.sluice = c.sluice) 32 flushAt c rfl fun d n _ hd => (flushAt_objs d n).2.trans hd

/-- The flush keeps its credit until the last debt is worked off. -/
theorem refreshFlush_facts (hfree : c.holds Ck.flush 0 = false) (hadm : c.admits 12000 = true) (hact : ∀ n < 32, c.scState n = 0)
    (hdebt : ∃ n < 32, ∃ lr < 8, (c.mcOf n).debt.num lr ≠ 0) : ∃ d : Core, c.refreshFlush = (.ok, d) ∧ d.holds Ck.flush 0 = true ∧
      ∀ n < 32, d.mcOf n = flushAll (c.mcOf n) := by
  obtain ⟨g, hg⟩ : ∃ g, g = c.grantCredit { kind := Ck.flush, owner := 0, mw := 12000, forced := false } := ⟨_, rfl⟩
  have hkeep : ∀ n < 32, g.scState n = 0 := fun n hn => by
    rw [scState, hg, (sluiceOnly_grantCredit c _).get (by simp; omega)]
    exact hact n hn
  have hmc : ∀ n < 32, (g.each 32 flushAt).mcOf n = flushAll (c.mcOf n) := fun n hn => by
    rw [flushed_mcOf hn hkeep, mcOf, hg, (sluiceOnly_grantCredit c _).mc, mcOf]
  have hleft : (g.each 32 flushAt).flushDone = g.each 32 flushAt := by
    obtain ⟨n, hn, lr, hlr, hne⟩ := hdebt
    rw [flushDone, if_neg]
    rw [Bool.and_eq_true, not_and]
    refine fun _ hall => hne ?_
    have hempty := List.all_eq_true.1 hall n (List.mem_range.2 hn)
    rw [hmc n hn, List.isEmpty_iff] at hempty
    rw [← flushAll_num (c.mcOf n) hlr, hempty]
    rfl
  refine ⟨g.each 32 flushAt, ?_, ?_, hmc⟩
  · rw [refreshFlush_eq hfree hadm, ← hg, hleft]
  · rw [holds, flushed_sluice, hg]
    exact holds_grantCredit c Ck.flush 0 12000 false

theorem writeValue_flush (c : Core) (f : Fuses) (w : World) (bs : List Byte) (h : ofBytes bs = 1) :
    c.writeValue f w 0x3800 9 bs = c.refreshFlush := by
  simp (disch := decide) only [writeValue, Bool.and_eq_true, decide_eq_true_eq, if_neg, if_pos]
  rw [h]
  rfl

end Core

variable {s : State} {sc : ScNo} {lr : RankNo} {w : World}

theorem refresh_promotes {id : Nat} (hup : s.core.hubUp = true)
    (h : ∃ r ∈ (s.core.mcOf sc.val).reads ++ (s.core.mcOf sc.val).writes, r.id = id ∧ (r.cls = 3 ∨ r.cls = 4)) :
    AnswersCore (.requestPromote sc id) s fun c =>
      (c.mcOf sc.val).reads = ((s.core.mcOf sc.val).reads.map fun r =>
        if r.id = id then { r with cls := promoted r.cls, t := s.core.tick } else r) ∧
      (c.mcOf sc.val).writes = ((s.core.mcOf sc.val).writes.map fun r =>
        if r.id = id then { r with cls := promoted r.cls, t := s.core.tick } else r) ∧
      c.get (Obj.Sc.PROMOTIONS sc.val) = min (s.core.get (Obj.Sc.PROMOTIONS sc.val) + 1) (2 ^ 64 - 1) ∧
      ∀ k, k ≠ Obj.Sc.PROMOTIONS sc.val → c.get k = s.core.get k := by
  have heq := Core.promote_eq (c := s.clear.core) h
  refine answersCore_onHub (fun c => c.promote sc.val id) rfl hup ?_ ?_ <;> rw [heq]
  · rfl
  · have hm : ∀ (c : Core) (m : McState) (k : Nat), ((c.setMc sc.val m).inc64 k).mcOf sc.val = m := fun c m k =>
      Core.mcOf_setMc_self c sc.val m
    rw [hm]
    exact ⟨rfl, rfl, Core.get_inc64_min _ _, fun k hk => Core.get_inc64_ne _ hk⟩

theorem refresh_closes {b : BankNo} (hup : s.core.hubUp = true) (hmay : s.core.mayIssue sc.val = true)
    (hopen : (s.core.mcOf sc.val).rows.num b.val ≠ 0)
    (hfree : ∀ r ∈ (s.core.mcOf sc.val).queued, (s.core.dramOf r.ha).bank = b.val →
      (s.core.dramOf r.ha).row + 1 ≠ (s.core.mcOf sc.val).rows.num b.val) :
    AnswersCore (.rowIdleClose sc b) s fun c =>
      (c.mcOf sc.val).rows.num b.val = 0 ∧ c.out = [.dram sc.val (.pre b.val) (s.core.parLevel (.pre b.val))] ∧
      ∀ k, c.get k = s.core.get k := by
  have heq := Core.rowIdleClose_eq (c := s.clear.core) hopen hmay hfree
  refine answersCore_onHub (fun c => c.rowIdleClose sc.val b.val) rfl hup ?_ ?_ <;> rw [heq]
  · rfl
  · refine ⟨?_, rfl, fun _ => rfl⟩
    have hm : ((s.clear.core.setMc sc.val ((s.clear.core.mcOf sc.val).close b.val)).order sc.val (.pre b.val)).mcOf sc.val =
        (s.clear.core.mcOf sc.val).close b.val := Core.mcOf_setMc_self _ _ _
    rw [hm]
    exact num_setNum_self (s.clear.core.mcOf sc.val).rows b.val 0

theorem refresh_flushes (hadm : Admits s w Obj.Mc.REFRESH_FLUSH 1) (hfree : s.core.holds Ck.flush 0 = false)
    (hpool : s.core.admits 12000 = true) (hact : ∀ n < 32, s.core.scState n = 0)
    (hdebt : ∃ n < 32, ∃ lr < 8, (s.core.mcOf n).debt.num lr ≠ 0) :
    AnswersOk (.refreshFlush w) s fun c =>
      c.holds Ck.flush 0 = true ∧
      ∀ n < 32, ∀ lr < 8, (c.mcOf n).flush.num lr = (s.core.mcOf n).debt.num lr ∧
        (c.mcOf n).debt.num lr = (s.core.mcOf n).debt.num lr := by
  obtain ⟨d, hd, hhold, hmc⟩ := Core.refreshFlush_facts (c := s.clear.core) hfree hpool hact hdebt
  refine answersOk_writeNum rfl hadm (by decide +kernel) (by decide) (c := d) ?_ ⟨hhold, fun n hn lr hlr => ?_⟩
  · exact (Core.writeValue_flush _ _ _ _ (ofBytes_toBytes_of_fits hadm.2.1)).trans hd
  · have hm : (d.emit (.status .ok)).mcOf n = Core.flushAll (s.clear.core.mcOf n) := hmc n hn
    rw [hm]
    exact ⟨Core.flushAll_num _ hlr, rfl⟩

/-- Settles O34: what refresh intervals, polls, values, promotions, idle rows and a flush do to a controller. -/
theorem refresh : Obligations.Refresh := by
  unfold Obligations.Refresh
  refine ⟨fun s sc lr hup hr hs => ?_, fun s sc lr hup hr => ⟨?_, ?_⟩, fun s sc lr hup h => ?_, fun s sc hup hr hs => ?_,
    fun s sc lr dies hup hlen hout hno hone hcold => ?_, fun s sc lr dies hup hlen hout hall hhot => ?_,
    fun s sc lr dies hup hlen h2 hout => ?_, fun s sc id => refresh_promotes, fun s sc b => refresh_closes,
    fun s w => refresh_flushes⟩
  · obtain ⟨h1, h2, hfr, hget⟩ := Core.refreshInterval_facts (c := s.clear.core) (lr := lr.val) hr hs
    exact answersCore_onHub (fun c => c.refreshInterval sc.val lr.val) rfl hup (by rw [hfr]; rfl) ⟨h1, h2, hget⟩
  · exact exec_of_onHub_unchanged (f := fun c => c.refreshInterval sc.val lr.val) (Core.refreshInterval_rests hr) rfl
  · exact exec_of_onHub_unchanged (f := fun c => c.mr4Poll sc.val) (Core.mr4Poll_rests hr) rfl
  · exact answersThen_onHub (fun c => c.refLate sc.val lr.val) rfl hup (Core.refLate_facts sc h)
  · obtain ⟨h1, h2, h3, hfr, hget⟩ := Core.mr4Poll_facts (c := s.clear.core) hr hs
    exact answersCore_onHub (fun c => c.mr4Poll sc.val) rfl hup (by rw [hfr]; rfl) ⟨h1, h2, h3, hget⟩
  · obtain ⟨m, h1, h2, h3, heq⟩ := Core.mr4Result_hot (c := s.clear.core) (lr := lr.val) hout hno hone hcold
    refine answersCore_onHub (fun c => c.mr4Result sc.val lr.val dies) (formed_of_wf (decide_eq_true hlen)) hup ?_ ?_ <;> rw [heq]
    · split <;> rfl
    · have hm : ∀ k i, ((s.clear.core.setMc sc.val m).flag k i).mcOf sc.val = m := fun k i => Core.mcOf_setMc_self _ _ _
      split
      · rw [hm]
        exact ⟨h1, h2, h3, fun _ => Core.bitOf_flag_self _ _ _, fun k hk => Core.get_flag_ne _ _ hk⟩
      · next hle =>
        rw [Core.mcOf_setMc_self]
        exact ⟨h1, h2, h3, fun hlt => absurd hlt hle, fun _ _ => rfl⟩
  · obtain ⟨m, h1, h2, heq⟩ := Core.mr4Result_cool (c := s.clear.core) (lr := lr.val) hout hall hhot
    refine answersCore_onHub (fun c => c.mr4Result sc.val lr.val dies) (formed_of_wf (decide_eq_true hlen)) hup ?_ ?_ <;> rw [heq]
    · rfl
    · rw [Core.mcOf_setMc_self]
      exact ⟨h1, h2, fun _ => rfl⟩
  · exact answersThen_onHub (fun c => c.mr4Result sc.val lr.val dies) (formed_of_wf (decide_eq_true hlen)) hup
      (Core.mr4Result_beyond sc hout h2)

end Sys2Proof.Machine
end

section
/-! PROOFS. The pick and what it does to memory (07_memory_controller.md R171, R172, R174, R177). -/

namespace Sys2Proof.Machine

/-! ## A burst written to memory (R170, R247) -/

namespace Memory

theorem burst_eq_ofBytes (m : Memory) (pa : Nat) : m.burst pa = ofBytes ((List.range 64).map fun i => m.byte (64 * pa + i)) := by
  rw [burst, ofBytes, List.foldl_map]

/-- The burst reads as it was written. -/
theorem burst_setBurst (m : Memory) (pa data : Nat) (p : Bool) : (m.setBurst pa data p).burst pa = data % 2 ^ 512 := by
  have hbytes : ((List.range 64).map fun i => (m.setBurst pa data p).byte (64 * pa + i)) = toBytes 64 data := by
    refine List.ext_getElem (by simp) fun i h1 h2 => ?_
    rw [List.getElem_map, List.getElem_range, setBurst, byte_setMark, byte_setBytes_in (toBytes 64 data) m (64 * pa) i h2]
  rw [burst_eq_ofBytes, hbytes, ofBytes_toBytes, show (256 : Nat) ^ 64 = 2 ^ 512 by rw [show (256 : Nat) = 2 ^ 8 by norm_num, ← Nat.pow_mul]]

theorem byte_setBurst_out (m : Memory) {pa i : Nat} (data : Nat) (p : Bool) (h : ¬ (64 * pa ≤ i ∧ i < 64 * pa + 64)) :
    (m.setBurst pa data p).byte i = m.byte i := by
  rw [setBurst, byte_setMark, byte_setBytes_out (toBytes 64 data) m (64 * pa) i (by rw [toBytes_length]; omega)]

theorem poisoned_setBurst (m : Memory) (pa data : Nat) (p : Bool) : (m.setBurst pa data p).poisoned pa = p := by
  rw [setBurst, poisoned_setMark_self]

theorem poisoned_setBurst_ne (m : Memory) {pa i : Nat} (data : Nat) (p : Bool) (h : i ≠ pa) :
    (m.setBurst pa data p).poisoned i = m.poisoned i := by
  rw [setBurst, poisoned_setMark_ne _ _ h, poisoned_setBytes]

end Memory

namespace Core

variable {c d : Core} {n : Nat} {m : McState} {t : PickTiming} {r : Req64}

/-! ## The oldest of a list (R174) -/

theorem oldest_foldl (l : List Req64) (a : Option Req64) (h : l.foldl (fun a r => match a with
    | none => some r | some q => if r.id < q.id then some r else some q) a = some r) :
    (r ∈ l ∨ a = some r) ∧ (∀ q ∈ l, r.id ≤ q.id) ∧ ∀ q, a = some q → r.id ≤ q.id := by
  induction l generalizing a with
  | nil =>
    rw [List.foldl_nil] at h
    exact ⟨.inr h, nofun, fun q hq => by rw [h] at hq; cases hq; exact Nat.le_refl _⟩
  | cons x l ih =>
    rw [List.foldl_cons] at h
    obtain ⟨h1, h2, h3⟩ := ih _ h
    cases a with
    | none =>
      refine ⟨.inl ?_, fun q hq => ?_, nofun⟩
      · rcases h1 with h1 | h1
        · exact List.mem_cons_of_mem _ h1
        · cases h1
          exact List.mem_cons_self
      · rcases List.mem_cons.1 hq with rfl | hq
        · exact h3 _ rfl
        · exact h2 q hq
    | some y =>
      dsimp only at h1 h3
      by_cases hlt : x.id < y.id
      · rw [if_pos hlt] at h1 h3
        refine ⟨.inl ?_, fun q hq => ?_, fun q hq => ?_⟩
        · rcases h1 with h1 | h1
          · exact List.mem_cons_of_mem _ h1
          · cases h1
            exact List.mem_cons_self
        · rcases List.mem_cons.1 hq with rfl | hq
          · exact h3 _ rfl
          · exact h2 q hq
        · cases hq
          exact (h3 x rfl).trans hlt.le
      · rw [if_neg hlt] at h1 h3
        refine ⟨h1.imp_left (List.mem_cons_of_mem _), fun q hq => ?_, fun q hq => h3 q hq⟩
        rcases List.mem_cons.1 hq with rfl | hq
        · exact (h3 y rfl).trans (Nat.le_of_not_lt hlt)
        · exact h2 q hq

theorem oldest_some {l : List Req64} (h : oldest l = some r) : r ∈ l ∧ ∀ q ∈ l, r.id ≤ q.id := by
  obtain ⟨h1, h2, -⟩ := oldest_foldl l none h
  exact ⟨h1.resolve_right nofun, h2⟩

/-! ## Column commands (R174) -/

theorem orElse_some {α : Type} {a : Option α} {b : Unit → Option α} {x : α} (h : a.orElse b = some x) : a = some x ∨ b () = some x := by
  cases a with
  | none => exact .inr h
  | some y => exact .inl h


theorem refreshPick_ne_cas {cls : Nat} : c.refreshPick n m cls t ≠ some (.cas r) := by
  intro h
  obtain ⟨lr, -, hlr⟩ := List.exists_of_findSome?_eq_some h
  dsimp only at hlr
  split at hlr
  · split at hlr
    · split at hlr <;> exact absurd hlr nofun
    · split at hlr <;> exact absurd hlr nofun
  · exact absurd hlr nofun

theorem mrrPick_ne_cas {cls : Nat} : c.mrrPick n m cls t ≠ some (.cas r) := by
  intro h
  rw [mrrPick] at h
  split at h
  · exact absurd h nofun
  · obtain ⟨lr, -, hlr⟩ := List.exists_of_findSome?_eq_some h
    split at hlr <;> exact absurd hlr nofun

theorem patternPick_ne_cas {cls : Nat} : c.patternPick m cls t ≠ some (.cas r) := by
  intro h
  rw [patternPick] at h
  split at h
  · exact absurd h nofun
  · obtain ⟨lr, -, hlr⟩ := List.exists_of_findSome?_eq_some h
    split at hlr
    · exact absurd hlr nofun
    · split at hlr
      · split at hlr <;> exact absurd hlr nofun
      · split at hlr <;> exact absurd hlr nofun

/-- A column command of a class is the oldest that its timing, direction and bank allow. -/
theorem pickAt_cas {cls : Nat} (h : c.pickAt n m t cls = some (.cas r)) : c.casPick n m cls t = some r := by
  rcases orElse_some h with h | h
  · exact absurd h refreshPick_ne_cas
  rcases orElse_some h with h | h
  · exact absurd h mrrPick_ne_cas
  rcases orElse_some h with h | h
  · obtain ⟨q, hq, he⟩ := Option.map_eq_some_iff.1 h
    cases he
    exact hq
  rcases orElse_some h with h | h
  · obtain ⟨q, -, he⟩ := Option.map_eq_some_iff.1 h
    exact absurd he nofun
  · exact absurd h patternPick_ne_cas

theorem leave_cas {p : Pick} (h : Pick.leave m t p = .cas r) : p = .cas r := by
  rw [Pick.leave] at h
  split at h
  · split at h
    · split at h <;> exact absurd h nofun
    · exact h
  · exact h

theorem idlePick_ne_cas : c.idlePick m t ≠ .cas r := by
  rw [idlePick]
  split
  · split <;> nofun
  · nofun

/-- A column command that the pick chooses is one of a class's. -/
theorem pick_cas (h : c.pick n m t = .cas r) : ∃ cls, c.casPick n m cls t = some r := by
  have h := leave_cas h
  split at h
  · cases hp : (c.refreshPick n m 0 t).orElse fun _ => c.mrrPick n m 0 t with
    | none => rw [hp] at h; exact absurd h nofun
    | some p =>
      rw [hp, Option.getD_some] at h
      subst h
      rcases orElse_some hp with hp | hp
      · exact absurd hp refreshPick_ne_cas
      · exact absurd hp mrrPick_ne_cas
  · split at h
    · cases hp : c.pickAt n m t 0 with
      | none => rw [hp] at h; exact absurd h nofun
      | some p =>
        rw [hp, Option.getD_some] at h
        subst h
        exact ⟨0, pickAt_cas hp⟩
    · cases hp : (List.range 5).findSome? (c.pickAt n m t) with
      | none => rw [hp] at h; exact absurd h idlePick_ne_cas
      | some p =>
        rw [hp, Option.getD_some] at h
        subst h
        obtain ⟨cls, -, hc⟩ := List.exists_of_findSome?_eq_some hp
        exact ⟨cls, pickAt_cas hc⟩

theorem casPick_facts {cls : Nat} (h : c.casPick n m cls t = some r) : r.cls = cls ∧ r ∈ m.queued ∧ c.eligible n m r = true ∧
    c.rowOpen m r = true ∧ dirOk m r = true ∧ t.cas.contains r.id = true ∧
    ∀ q ∈ m.queued, q.cls = cls → c.eligible n m q = true → c.rowOpen m q = true → t.cas.contains q.id = true → dirOk m q = true →
      m.streak.num (c.dramOf q.ha).bank < 16 → r.id ≤ q.id := by
  obtain ⟨hr, hmin⟩ := oldest_some h
  obtain ⟨hq, hr⟩ := List.mem_filter.1 hr
  simp only [Bool.and_eq_true, beq_iff_eq] at hr
  obtain ⟨⟨⟨⟨⟨hcls, hel⟩, hopen⟩, hcas⟩, hdir⟩, -⟩ := hr
  refine ⟨hcls, hq, hel, hopen, hdir, hcas, fun q hqm hqc hqe hqo hqt hqd hqs => hmin q (List.mem_filter.2 ⟨hqm, ?_⟩)⟩
  simp only [Bool.and_eq_true, beq_iff_eq, hqc, hqe, hqo, hqt, hqd, hqs, decide_true, Bool.true_or, and_self]

end Core
end Sys2Proof.Machine
end

section
/-! PROOFS. What a pick issues: column commands, activates, refreshes and polls (07_memory_controller.md R171, R172, R174, R177). -/

namespace Sys2Proof.Machine

namespace Core

variable {c d : Core} {mem : Memory} {n : Nat} {m : McState} {t : PickTiming} {r : Req64} {p : Pick} {lr : Nat}

/-- The core whose controller update_direction and the skipped shadows have prepared for the pick. -/
def turned (c : Core) (n : Nat) (t : PickTiming) : Core := c.updMc n fun m => c.skipShadows (c.updateDirection n m) t

/-- They change the direction, its run and the shadows alone. -/
theorem turned_mcOf (c : Core) (n : Nat) (t : PickTiming) : ∃ w k e, (c.turned n t).mcOf n =
    { c.mcOf n with dirWrite := w, run := k, shadow := e } := by
  have hdir : ∃ w k, c.updateDirection n (c.mcOf n) = { c.mcOf n with dirWrite := w, run := k } := by
    have hif : ∀ (m : McState) (b x : Bool), ∃ w k, (if b then { m with dirWrite := x, run := 0 } else m) =
        { m with dirWrite := w, run := k } := fun m b x => by
      cases b
      · exact ⟨m.dirWrite, m.run, rfl⟩
      · exact ⟨x, 0, rfl⟩
    exact hif (c.mcOf n) _ _
  obtain ⟨w, k, hdir⟩ := hdir
  refine ⟨w, k, (c.skipShadows (c.updateDirection n (c.mcOf n)) t).shadow, ?_⟩
  rw [turned, updMc, mcOf_setMc_self, hdir]
  rfl

theorem mcPick_eq (hmay : c.mayIssue n = true) (hp : (c.turned n t).pick n ((c.turned n t).mcOf n) t = p)
    (hgood : p.badEncode t = false) (hrep : ((((c.turned n t).doPick mem n p).1.eccOf n)).repair = none) :
    c.mcPick mem n t = (c.turned n t).doPick mem n p := by
  have hturn : ∀ e : Core, (e.eccOf n).repair = none → e.repairTurn n = e := fun e he => by rw [repairTurn, he]
  have heq : c.mcPick mem n t = if p.badEncode t then (((c.turned n t).checkerFail n).ask (.scOffline n (Src.eccChecker n)), mem)
      else ((((c.turned n t).doPick mem n p).1).repairTurn n, ((c.turned n t).doPick mem n p).2) := by
    rw [mcPick, if_pos hmay, ← hp]
    rfl
  rw [heq, hgood, if_neg (by decide), hturn _ hrep]

theorem parLevel_congr (h : d.get Obj.Phy.CA_PARITY_EN = c.get Obj.Phy.CA_PARITY_EN) (x : DramCmd) : d.parLevel x = c.parLevel x := by
  rw [parLevel, isSet, h, parLevel, isSet]

/-! ## Column commands (R167, R171) -/

theorem ftOnly_loadDelays (c : Core) (n pr : Nat) : c.FtOnly (c.loadDelays n pr) := ftOnly_foldl _ _ (fun c k => ftOnly_updLane c n _ _) c

/-- The core that a column command finds: the row hit counted, the delay set loaded. -/
def casReady (c : Core) (n : Nat) (r : Req64) : Core :=
  (if (c.mcOf n).fresh.num (c.dramOf r.ha).bank = 0 && r.needsRow then c.inc64 (Obj.Sc.ROW_HITS n) else c).loadDelays n
    ((c.dramOf r.ha).lr / 4)

theorem casReady_facts (c : Core) (n : Nat) (r : Req64) : (c.casReady n r).mc = c.mc ∧ (c.casReady n r).out = c.out ∧
    (c.casReady n r).req = c.req ∧ (c.casReady n r).ecc = c.ecc ∧
    ∀ k, k ≠ Obj.Sc.ROW_HITS n → (c.casReady n r).get k = c.get k := by
  have hft := ftOnly_loadDelays (if (c.mcOf n).fresh.num (c.dramOf r.ha).bank = 0 && r.needsRow then c.inc64 (Obj.Sc.ROW_HITS n) else c)
    n ((c.dramOf r.ha).lr / 4)
  unfold casReady
  refine ⟨hft.mc.trans ?_, hft.out.trans ?_, hft.req.trans ?_, (congrArg ecc hft).trans ?_, fun k hk => (hft.get k).trans ?_⟩
  · split <;> rfl
  · split <;> rfl
  · split <;> rfl
  · split <;> rfl
  · split
    · exact get_inc64_ne _ hk
    · rfl

/-- The controller as a column command leaves it. -/
def casMc (c : Core) (m : McState) (r : Req64) : McState :=
  if r.needsRow then
    { m with streak := m.streak.setNum (c.dramOf r.ha).bank (m.streak.num (c.dramOf r.ha).bank + 1), run := m.run + 1,
             fresh := m.fresh.setNum (c.dramOf r.ha).bank 0 }
  else { m with run := m.run + 1 }

theorem casMc_lists (c : Core) (m : McState) (r : Req64) : (c.casMc m r).reads = m.reads ∧ (c.casMc m r).writes = m.writes ∧
    (c.casMc m r).flight = m.flight := by
  unfold casMc
  split <;> exact ⟨rfl, rfl, rfl⟩

theorem issueCas_read (hr : r.write = false) : ∃ k, c.issueCas mem n r =
    ((k ((c.casReady n r).setMc n ((c.casMc (c.mcOf n) r).issued r (mem.burst (c.dramOf r.ha).pa) (mem.poisoned (c.dramOf r.ha).pa)))
      : Core).command n (.rd (c.dramOf r.ha).bank (c.dramOf r.ha).row (c.dramOf r.ha).col) (some r.id) none, mem) ∧
    (k = id ∨ k = fun c => c.inc64 (Obj.FtSc.INSERTED_BURSTS n)) := by
  refine ⟨fun c => if r.needsRow then c else c.inc64 (Obj.FtSc.INSERTED_BURSTS n), ?_, ?_⟩
  · rw [issueCas, if_neg (by rw [hr]; decide)]
    rfl
  · cases r.needsRow
    · exact .inr rfl
    · exact .inl rfl

theorem issueCas_write (hr : r.write = true) : c.issueCas mem n r =
    ((((c.casReady n r).setMc n ((c.casMc (c.mcOf n) r).issued r (mem.burst (c.dramOf r.ha).pa) (mem.poisoned (c.dramOf r.ha).pa))).inc64
      (Obj.Sc.WRITES n)).command n (.wr (c.dramOf r.ha).bank (c.dramOf r.ha).row (c.dramOf r.ha).col) none
        (some ((c.dramOf r.ha).pa, r.data, r.poison)), mem.setBurst (c.dramOf r.ha).pa r.data r.poison) := by
  rw [issueCas, if_pos hr]
  rfl

theorem doPick_cas (c : Core) (mem : Memory) (n : Nat) (r : Req64) : c.doPick mem n (.cas r) = c.issueCas mem n r := rfl

/-- A command on the wire is recorded, and leaves the rest. -/
theorem command_facts (c : Core) (n : Nat) (x : DramCmd) (i : Option Nat) (w : Option (Nat × Nat × Bool)) :
    (∀ j, (c.command n x i w).mcOf j = c.mcOf j) ∧ (∀ j, (c.command n x i w).eccOf j = c.eccOf j) ∧ (c.command n x i w).req = c.req ∧
    (c.command n x i w).out = c.out ++ [.dram n x (c.parLevel x)] ∧ ∀ k, (c.command n x i w).get k = c.get k :=
  ⟨fun _ => rfl, fun _ => rfl, rfl, rfl, fun _ => rfl⟩

theorem counted_facts {k : Core → Core} (hk : k = id ∨ k = fun c => c.inc64 (Obj.FtSc.INSERTED_BURSTS n)) (c : Core) :
    (k c).mc = c.mc ∧ (k c).ecc = c.ecc ∧ (k c).req = c.req ∧ (k c).out = c.out ∧
      ∀ i, i ≠ Obj.FtSc.INSERTED_BURSTS n → (k c).get i = c.get i := by
  rcases hk with rfl | rfl
  · exact ⟨rfl, rfl, rfl, rfl, fun _ _ => rfl⟩
  · exact ⟨rfl, rfl, rfl, rfl, fun i hi => get_inc64_ne c hi⟩

/-- Of a read, nothing else of the controller's lists goes, and its burst is in flight. -/
theorem doPick_read (hr : r.write = false) {x : McState} (hx : c.mcOf n = x) (hrep : (c.eccOf n).repair = none) :
    ∃ d : Core, c.doPick mem n (.cas r) = (d, mem) ∧ (d.eccOf n).repair = none ∧ d.req = c.req ∧
      (d.mcOf n).reads = x.reads.filter (fun q => q.id != r.id) ∧
      (d.mcOf n).flight = x.flight.filter (fun q => q.id != r.id) ++ [{ r with
        data := mem.burst (c.dramOf r.ha).pa, poison := mem.poisoned (c.dramOf r.ha).pa, at_ := .out, replayed := false }] ∧
      d.out = c.out ++ [.dram n (.rd (c.dramOf r.ha).bank (c.dramOf r.ha).row (c.dramOf r.ha).col)
        (c.parLevel (.rd (c.dramOf r.ha).bank (c.dramOf r.ha).row (c.dramOf r.ha).col))] := by
  obtain ⟨k, heq, hk⟩ := issueCas_read (c := c) (mem := mem) (n := n) hr
  obtain ⟨h1, h2, h3, h4, h5⟩ := casReady_facts c n r
  obtain ⟨l1, l2, l3⟩ := casMc_lists c (c.mcOf n) r
  obtain ⟨y, hy⟩ : ∃ y, y = (c.casMc (c.mcOf n) r).issued r (mem.burst (c.dramOf r.ha).pa) (mem.poisoned (c.dramOf r.ha).pa) := ⟨_, rfl⟩
  have hyr : y.reads = x.reads.filter (fun q => q.id != r.id) := by
    rw [hy, McState.issued]
    dsimp only
    rw [if_neg (by rw [hr]; decide), ← hx, ← l1]
  have hyf : y.flight = x.flight.filter (fun q => q.id != r.id) ++ [{ r with
      data := mem.burst (c.dramOf r.ha).pa, poison := mem.poisoned (c.dramOf r.ha).pa, at_ := .out, replayed := false }] := by
    rw [hy, McState.issued]
    dsimp only
    rw [if_neg (by rw [hr]; decide), ← hx, ← l3]
  rw [← hy] at heq
  generalize c.casReady n r = e at heq h1 h2 h3 h4 h5
  obtain ⟨i1, i2, i3, i4, i5⟩ := counted_facts hk (e.setMc n y)
  have hmc : (k (e.setMc n y)).mcOf n = y := by rw [mcOf, i1, ← mcOf, mcOf_setMc_self]
  have hecc : (k (e.setMc n y)).eccOf n = c.eccOf n := by rw [eccOf, i2, setMc, h4, ← eccOf]
  have hpar : (k (e.setMc n y)).get Obj.Phy.CA_PARITY_EN = c.get Obj.Phy.CA_PARITY_EN :=
    by rw [i5 _ (by simp; omega), get_setMc, h5 _ (by simp; omega)]
  obtain ⟨g1, g2, g3, g4, -⟩ := command_facts (k (e.setMc n y)) n (.rd (c.dramOf r.ha).bank (c.dramOf r.ha).row (c.dramOf r.ha).col)
    (some r.id) none
  refine ⟨_, (doPick_cas c mem n r).trans heq, ?_, ?_, ?_, ?_, ?_⟩
  · rw [g2, hecc, hrep]
  · rw [g3, i3, req_setMc, h3]
  · rw [g1, hmc, hyr]
  · rw [g1, hmc, hyf]
  · rw [g4, i4, out_setMc, h2, parLevel_congr hpar]

/-- A write leaves the queue and stores its burst. -/
theorem doPick_write (hr : r.write = true) {x : McState} (hx : c.mcOf n = x) (hrep : (c.eccOf n).repair = none) :
    ∃ d : Core, c.doPick mem n (.cas r) = (d, mem.setBurst (c.dramOf r.ha).pa r.data r.poison) ∧ (d.eccOf n).repair = none ∧
      (d.mcOf n).writes = x.writes.filter (fun q => q.id != r.id) ∧
      d.out = c.out ++ [.dram n (.wr (c.dramOf r.ha).bank (c.dramOf r.ha).row (c.dramOf r.ha).col)
        (c.parLevel (.wr (c.dramOf r.ha).bank (c.dramOf r.ha).row (c.dramOf r.ha).col))] ∧
      d.get (Obj.Sc.WRITES n) = min (c.get (Obj.Sc.WRITES n) + 1) (2 ^ 64 - 1) := by
  obtain ⟨h1, h2, h3, h4, h5⟩ := casReady_facts c n r
  obtain ⟨l1, l2, l3⟩ := casMc_lists c (c.mcOf n) r
  have heq := issueCas_write (c := c) (mem := mem) (n := n) hr
  obtain ⟨y, hy⟩ : ∃ y, y = (c.casMc (c.mcOf n) r).issued r (mem.burst (c.dramOf r.ha).pa) (mem.poisoned (c.dramOf r.ha).pa) := ⟨_, rfl⟩
  have hyw : y.writes = x.writes.filter (fun q => q.id != r.id) := by
    rw [hy, McState.issued]
    dsimp only
    rw [if_pos hr, ← hx, ← l2]
  rw [← hy] at heq
  generalize c.casReady n r = e at heq h1 h2 h3 h4 h5
  have hmc : ((e.setMc n y).inc64 (Obj.Sc.WRITES n)).mcOf n = y := by rw [inc64, add, mcOf_put, mcOf_setMc_self]
  have hecc : ((e.setMc n y).inc64 (Obj.Sc.WRITES n)).eccOf n = c.eccOf n := by
    rw [inc64, add, eccOf_put, eccOf_setMc, eccOf, h4, ← eccOf]
  have hout : ((e.setMc n y).inc64 (Obj.Sc.WRITES n)).out = c.out := by rw [inc64, add, out_put, out_setMc, h2]
  have hpar : ((e.setMc n y).inc64 (Obj.Sc.WRITES n)).get Obj.Phy.CA_PARITY_EN = c.get Obj.Phy.CA_PARITY_EN := by
    rw [get_inc64_ne _ (by simp; omega), get_setMc, h5 _ (by simp; omega)]
  have hwr : ((e.setMc n y).inc64 (Obj.Sc.WRITES n)).get (Obj.Sc.WRITES n) =
      min (c.get (Obj.Sc.WRITES n) + 1) (2 ^ 64 - 1) := by
    rw [get_inc64_min, get_setMc, h5 _ (by simp)]
  obtain ⟨g1, g2, -, g4, g5⟩ := command_facts ((e.setMc n y).inc64 (Obj.Sc.WRITES n)) n
    (.wr (c.dramOf r.ha).bank (c.dramOf r.ha).row (c.dramOf r.ha).col) none (some ((c.dramOf r.ha).pa, r.data, r.poison))
  refine ⟨_, (doPick_cas c mem n r).trans heq, ?_, ?_, ?_, ?_⟩
  · rw [g2, hecc, hrep]
  · rw [g1, hmc, hyw]
  · rw [g4, hout, parLevel_congr hpar]
  · rw [g5, hwr]

/-! ## Rows, refreshes and polls (R172, R174, R177) -/

theorem order_facts (c : Core) (n : Nat) (x : DramCmd) : (∀ j, (c.order n x).mcOf j = c.mcOf j) ∧ (c.order n x).ecc = c.ecc ∧
    (c.order n x).req = c.req ∧ (c.order n x).sluice = c.sluice ∧ (c.order n x).out = c.out ++ [.dram n x (c.parLevel x)] ∧
    ∀ k, (c.order n x).get k = c.get k :=
  ⟨fun _ => rfl, rfl, rfl, rfl, rfl, fun _ => rfl⟩

theorem inc64_facts (c : Core) (i : Nat) : (∀ j, (c.inc64 i).mcOf j = c.mcOf j) ∧ (c.inc64 i).ecc = c.ecc ∧ (c.inc64 i).req = c.req ∧
    (c.inc64 i).out = c.out ∧ (c.inc64 i).sluice = c.sluice := ⟨fun _ => rfl, rfl, rfl, rfl, rfl⟩

theorem doPick_activate (c : Core) (mem : Memory) (n bank row : Nat) : ∃ d : Core,
    c.doPick mem n (.row { bank := bank, row := some row }) = (d, mem) ∧ d.ecc = c.ecc ∧ d.req = c.req ∧
      (d.mcOf n).rows.num bank = row + 1 ∧ d.out = c.out ++ [.dram n (.act bank row) (c.parLevel (.act bank row))] ∧
      d.get (Obj.Sc.ACTIVATES n) = min (c.get (Obj.Sc.ACTIVATES n) + 1) (2 ^ 64 - 1) ∧
      ∀ k, k ≠ Obj.Sc.ACTIVATES n → d.get k = c.get k := by
  obtain ⟨y, hy⟩ : ∃ y, y = { c.mcOf n with
      rows := (c.mcOf n).rows.setNum bank (row + 1), streak := (c.mcOf n).streak.setNum bank 0, fresh := (c.mcOf n).fresh.setNum bank 1
      rr := (bank + 1) % 256, shadow := setBitTo (bank / 32) false (c.mcOf n).shadow } := ⟨_, rfl⟩
  have hrow : y.rows.num bank = row + 1 := by
    rw [hy]
    exact num_setNum_self (c.mcOf n).rows bank (row + 1)
  have hdo : c.doPick mem n (.row { bank := bank, row := some row }) =
      (((c.setMc n y).inc64 (Obj.Sc.ACTIVATES n)).order n (.act bank row), mem) := by
    rw [hy]
    rfl
  obtain ⟨i1, i2, i3, i4, -⟩ := inc64_facts (c.setMc n y) (Obj.Sc.ACTIVATES n)
  obtain ⟨o1, o2, o3, -, o5, o6⟩ := order_facts ((c.setMc n y).inc64 (Obj.Sc.ACTIVATES n)) n (.act bank row)
  have hpar : ((c.setMc n y).inc64 (Obj.Sc.ACTIVATES n)).get Obj.Phy.CA_PARITY_EN = c.get Obj.Phy.CA_PARITY_EN := by
    rw [get_inc64_ne _ (by simp; omega), get_setMc]
  refine ⟨_, hdo, ?_, ?_, ?_, ?_, ?_, fun k hk => ?_⟩
  · rw [o2, i2, ecc_setMc]
  · rw [o3, i3, req_setMc]
  · rw [o1, i1, mcOf_setMc_self, hrow]
  · rw [o5, i4, out_setMc, parLevel_congr hpar]
  · rw [o6, get_inc64_min, get_setMc]
  · rw [o6, get_inc64_ne _ hk, get_setMc]

theorem doPick_mrr (c : Core) (mem : Memory) (n lr : Nat) : ∃ d : Core, c.doPick mem n (.mrr lr) = (d, mem) ∧ d.ecc = c.ecc ∧
    d.req = c.req ∧ (d.mcOf n).mrrDue.testBit lr = false ∧ (d.mcOf n).mrrOut.testBit lr = true ∧
    d.out = c.out ++ [.dram n (.mrr lr) (c.parLevel (.mrr lr))] ∧ ∀ k, d.get k = c.get k := by
  obtain ⟨y, hy⟩ : ∃ y, y = { c.mcOf n with
      mrrDue := setBitTo lr false (c.mcOf n).mrrDue, mrrOut := setBitTo lr true (c.mcOf n).mrrOut } := ⟨_, rfl⟩
  have hdo : c.doPick mem n (.mrr lr) = ((c.setMc n y).order n (.mrr lr), mem) := by
    rw [hy]
    rfl
  obtain ⟨o1, o2, o3, -, o5, o6⟩ := order_facts (c.setMc n y) n (.mrr lr)
  refine ⟨_, hdo, ?_, ?_, ?_, ?_, ?_, fun k => ?_⟩
  · rw [o2, ecc_setMc]
  · rw [o3, req_setMc]
  · rw [o1, mcOf_setMc_self, hy]
    exact testBit_setBitTo_self lr false (c.mcOf n).mrrDue
  · rw [o1, mcOf_setMc_self, hy]
    exact testBit_setBitTo_self lr true (c.mcOf n).mrrOut
  · rw [o5, out_setMc, parLevel_congr (get_setMc c _ n y)]
  · rw [o6, get_setMc]

/-- What a refresh counts beside itself: one that an excess asked for, and one that POSTPONE forced. -/
def refreshCounts (c : Core) (n : Nat) (excess forced : Bool) : Core :=
  let c2 := if excess then c.inc (Obj.Sc.REF_EXCESS n) else c
  if forced then (c2.inc64 (Obj.Sc.REF_FORCED n)).flag (Obj.Sc.FLAGS n) 2 else c2

theorem refreshCounts_facts (c : Core) (n : Nat) (x y : Bool) : (c.refreshCounts n x y).mc = c.mc ∧ (c.refreshCounts n x y).out = c.out ∧
    (c.refreshCounts n x y).req = c.req ∧ (c.refreshCounts n x y).ecc = c.ecc ∧ (c.refreshCounts n x y).sluice = c.sluice ∧
    (c.refreshCounts n x y).get (Obj.Sc.REFRESHES n) = c.get (Obj.Sc.REFRESHES n) := by
  have hx : (if x then c.inc (Obj.Sc.REF_EXCESS n) else c).get (Obj.Sc.REFRESHES n) = c.get (Obj.Sc.REFRESHES n) := by
    cases x
    · rfl
    · exact get_inc_ne c (by simp)
  refine ⟨?_, ?_, ?_, ?_, ?_, ?_⟩
  · cases x <;> cases y <;> rfl
  · cases x <;> cases y <;> rfl
  · cases x <;> cases y <;> rfl
  · cases x <;> cases y <;> rfl
  · cases x <;> cases y <;> rfl
  · cases y
    · exact hx
    · exact (get_flag_ne _ _ (by simp)).trans ((get_inc64_ne _ (by simp)).trans hx)

/-- The controller after a refresh of a logical rank. -/
def refreshedMc (c : Core) (n lr : Nat) : McState :=
  let m := c.mcOf n
  { m with debt := m.debt.setNum lr (m.debt.num lr - 1), excess := m.excess.setNum lr (m.excess.num lr - 1)
           flush := m.flush.setNum lr (m.flush.num lr - 1), shadow := setBitTo lr (c.inserting n (lr / 4)) m.shadow }

theorem issueRefresh_eq (c : Core) (n lr : Nat) : ∃ x y, c.issueRefresh n lr =
    (((((c.setMc n (c.refreshedMc n lr)).order n (.ref lr)).inc64 (Obj.Sc.REFRESHES n)).refreshCounts n x y).flushDone).backToRest n
      (lr / 4) :=
  ⟨decide (0 < (c.mcOf n).excess.num lr), (c.mcOf n).excess.num lr = 0 && (c.mcOf n).flush.num lr = 0 &&
    c.get Obj.Mc.POSTPONE < (c.mcOf n).debt.num lr, by simp only [issueRefresh, refreshCounts, refreshedMc, decide_eq_true_eq]⟩

/-- A refresh works off a debt; without a flush, and with no rank that woke for it alone, no more follows. -/
theorem doPick_refresh (c : Core) (mem : Memory) (n lr : Nat) (hflush : c.holds Ck.flush 0 = false)
    (hback : (c.mcOf n).pdBack.testBit (lr / 4) = false) : ∃ d : Core, c.doPick mem n (.refresh lr) = (d, mem) ∧ d.ecc = c.ecc ∧
      d.req = c.req ∧ (d.mcOf n).debt.num lr = (c.mcOf n).debt.num lr - 1 ∧
      d.out = c.out ++ [.dram n (.ref lr) (c.parLevel (.ref lr))] ∧
      d.get (Obj.Sc.REFRESHES n) = min (c.get (Obj.Sc.REFRESHES n) + 1) (2 ^ 64 - 1) := by
  obtain ⟨x, y, heq⟩ := issueRefresh_eq c n lr
  obtain ⟨m, hm⟩ : ∃ m, m = c.refreshedMc n lr := ⟨_, rfl⟩
  have hdebt : m.debt.num lr = (c.mcOf n).debt.num lr - 1 := by
    rw [hm]
    exact num_setNum_self (c.mcOf n).debt lr ((c.mcOf n).debt.num lr - 1)
  have hpd : m.pdBack = (c.mcOf n).pdBack := by
    rw [hm]
    rfl
  rw [← hm] at heq
  obtain ⟨h1, h2, h3, h4, h5, h6⟩ := refreshCounts_facts (((c.setMc n m).order n (.ref lr)).inc64 (Obj.Sc.REFRESHES n)) n x y
  obtain ⟨i1, i2, i3, i4, i5⟩ := inc64_facts ((c.setMc n m).order n (.ref lr)) (Obj.Sc.REFRESHES n)
  obtain ⟨o1, o2, o3, o4, o5, o6⟩ := order_facts (c.setMc n m) n (.ref lr)
  have hcount : (((c.setMc n m).order n (.ref lr)).inc64 (Obj.Sc.REFRESHES n)).get (Obj.Sc.REFRESHES n) =
      min (c.get (Obj.Sc.REFRESHES n) + 1) (2 ^ 64 - 1) := by rw [get_inc64_min, o6, get_setMc]
  have hmc : ∀ e : Core, e.mc = (((c.setMc n m).order n (.ref lr)).inc64 (Obj.Sc.REFRESHES n)).mc → e.mcOf n = m := fun e he => by
    rw [mcOf, he, ← mcOf, i1, o1, mcOf_setMc_self]
  replace hmc := hmc _ h1
  generalize (((c.setMc n m).order n (.ref lr)).inc64 (Obj.Sc.REFRESHES n)).refreshCounts n x y = e at heq hmc h2 h3 h4 h5 h6
  have hfree : e.holds Ck.flush 0 = false := by
    rw [holds, h5, i5, o4, sluice_setMc, ← holds, hflush]
  have hdone : e.flushDone = e := by
    rw [flushDone, hfree]
    rfl
  have hrest : e.backToRest n (lr / 4) = e := by
    rw [backToRest, hmc, hpd, hback]
    rfl
  rw [hdone, hrest] at heq
  refine ⟨e, congrArg (fun z => (z, mem)) heq, ?_, ?_, ?_, ?_, h6.trans hcount⟩
  · rw [h4, i2, o2, ecc_setMc]
  · rw [h3, i3, o3, req_setMc]
  · rw [hmc, hdebt]
  · rw [h2, i4, o5, out_setMc, parLevel_congr (get_setMc c _ n m)]

end Core
end Sys2Proof.Machine
end

section
/-! PROOFS. Which refresh and which poll the pick chooses at FORCE, and what MC_PICK does (07_memory_controller.md R171, R172, R174,
R177). -/

namespace Sys2Proof.Machine

namespace Core

variable {c : Core} {n lr : Nat} {m : McState} {t : PickTiming} {p : Pick}

theorem findSome?_range_first {α : Type} {f : Nat → Option α} {x : α} {k : Nat} (hk : lr < k) (hbefore : ∀ i < lr, f i = none)
    (hat : f lr = some x) : (List.range k).findSome? f = some x := by
  obtain ⟨j, rfl⟩ : ∃ j, k = lr + (j + 1) := ⟨k - lr - 1, by omega⟩
  rw [List.range_add, List.findSome?_append, List.findSome?_eq_none_iff.2 fun i hi => hbefore i (List.mem_range.1 hi), List.range_succ_eq_map]
  simp [hat]

/-- What the pick chooses at FORCE goes before every other class, and OFFLINE and a suspect let it through. -/
theorem pick_force (hpick : ((c.refreshPick n m 0 t).orElse fun _ => c.mrrPick n m 0 t) = some p) (hleave : Pick.leave m t p = p) :
    c.pick n m t = p := by
  have h0 : c.pickAt n m t 0 = some p := by
    rw [pickAt]
    cases hr : c.refreshPick n m 0 t with
    | some q =>
      rw [hr] at hpick
      exact hpick
    | none =>
      rw [hr] at hpick
      have hm : c.mrrPick n m 0 t = some p := hpick
      rw [hm]
      rfl
  have hfirst : (List.range 5).findSome? (c.pickAt n m t) = some p := findSome?_range_first (lr := 0) (by decide) nofun h0
  rw [pick, hpick, h0, hfirst, Option.getD_some, Option.getD_some, ite_self, ite_self, hleave]

theorem refWants_force (c : Core) (n : Nat) (m : McState) (k : Nat) : c.refWants n m 0 k =
    (decide (c.repairPhase n k ≠ 3) && !(c.bitOf (Obj.Sc.PD_MASK n) (k / 4)) && c.refForce n m k) := by
  simp [refWants]

theorem refWants_turned (c : Core) (n : Nat) (t : PickTiming) (k : Nat) :
    (c.turned n t).refWants n ((c.turned n t).mcOf n) 0 k = c.refWants n (c.mcOf n) 0 k := by
  obtain ⟨w, r, e, hm⟩ := turned_mcOf c n t
  rw [refWants_force, refWants_force, hm]
  rfl

/-- The first logical rank at FORCE, with its banks closed and its time come, is refreshed. -/
theorem pick_refresh (hlr : lr < 8) (hbefore : ∀ k < lr, c.refWants n m 0 k = false) (hat : c.refWants n m 0 lr = true)
    (hclosed : m.openBanks lr = []) (href : t.ref.contains lr = true) (hpat : m.pattern.testBit lr = false) :
    c.pick n m t = .refresh lr := by
  have hpick : c.refreshPick n m 0 t = some (.refresh lr) := by
    refine findSome?_range_first hlr (fun k hk => ?_) ?_
    · rw [if_neg (by rw [hbefore k hk]; decide)]
    · rw [if_pos hat, hclosed]
      exact if_pos href
  refine pick_force (by rw [hpick]; rfl) ?_
  rw [Pick.leave]
  exact if_neg (by rw [hpat]; decide)

/-- With no refresh at FORCE, the first logical rank that is polled. -/
theorem pick_mrr (hlr : lr < 8) (hno : ∀ k < 8, c.refWants n m 0 k = false) (hbefore : ∀ k < lr, m.mrrDue.testBit k = false)
    (hdue : m.mrrDue.testBit lr = true) (hmode : t.mode.contains lr = true) (hpd : c.bitOf (Obj.Sc.PD_MASK n) (lr / 4) = false)
    (hpat : m.pattern.testBit lr = false) : c.pick n m t = .mrr lr := by
  have hnone : c.refreshPick n m 0 t = none :=
    List.findSome?_eq_none_iff.2 fun k hk => by rw [if_neg (by rw [hno k (List.mem_range.1 hk)]; decide)]
  have hpick : c.mrrPick n m 0 t = some (.mrr lr) := by
    rw [mrrPick, if_neg (by decide)]
    refine findSome?_range_first hlr (fun k hk => ?_) ?_
    · rw [hbefore k hk]
      rfl
    · rw [hdue, hmode, hpd]
      rfl
  refine pick_force (by rw [hnone]; exact hpick) ?_
  rw [Pick.leave]
  exact if_neg (by rw [hpat]; decide)

end Core

variable {s : State} {sc : ScNo} {t : PickTiming} {p : Pick} {c : Core}

/-- A pick that leaves memory is a step of the core. -/
theorem answersCore_pick {P : Core → Prop} (hup : s.core.hubUp = true) (hmay : s.core.mayIssue sc.val = true)
    (hp : (s.clear.core.turned sc.val t).pick sc.val ((s.clear.core.turned sc.val t).mcOf sc.val) t = p) (hgood : p.badEncode t = false)
    (hdo : (s.clear.core.turned sc.val t).doPick s.mem sc.val p = (c, s.mem)) (hrep : (c.eccOf sc.val).repair = none)
    (hreq : c.req = []) (h : P c) : AnswersCore (.mcPick sc t) s P := by
  have heq := Core.mcPick_eq (c := s.clear.core) (mem := s.mem) hmay hp hgood (by rw [hdo]; exact hrep)
  refine answersCore_onMem (fun c m => c.mcPick m sc.val t) ?_ (heq.trans hdo) hreq h
  show Host.Outcome.next (s.onHubMem fun c m => c.mcPick m sc.val t) = _
  rw [State.onHubMem, State.when, hup]
  rfl

/-- The statement's prepared core is the one that MC_PICK prepares. -/
theorem turned_clear (s : State) (n : Nat) (t : PickTiming) :
    s.clear.core.updMc n (fun m => s.core.skipShadows (s.core.updateDirection n m) t) = s.clear.core.turned n t := rfl

theorem repair_turned (h : (s.core.eccOf sc.val).repair = none) : ((s.clear.core.turned sc.val t).eccOf sc.val).repair = none := h

/-- Settles O33: the choice of the pick at a class and at FORCE, and what each command it issues leaves. -/
theorem picks : Obligations.Picks := by
  unfold Obligations.Picks
  refine ⟨fun c n t r h => ?_, fun s sc t c1 r d hup hmay hrep h1 hpick hr hd => ?_, fun s sc t c1 r d hup hmay hrep h1 hpick hr henc hd => ?_,
    fun s sc t c1 bank row hup hmay hrep h1 hpick => ?_, fun s sc t lr hup hmay hrep hlr hb hw hopen href hpat hpd hfl => ?_,
    fun s sc t lr hup hmay hrep hlr hno hb hdue hmode hpd hpat => ?_⟩
  · obtain ⟨cls, hcls⟩ := Core.pick_cas h
    obtain ⟨h1, h2, h3, h4, h5, h6, h7⟩ := Core.casPick_facts hcls
    exact ⟨h2, h3, h4, h5, h6, fun q hq hqc he ho ht hd hs => h7 q hq (hqc.trans h1) he ho ht hd hs⟩
  · rw [turned_clear] at h1
    subst h1 hd
    obtain ⟨w, k, e, hm⟩ := Core.turned_mcOf s.clear.core sc.val t
    obtain ⟨c, hdo, hcr, hreq, hreads, hflight, hout⟩ := Core.doPick_read (mem := s.mem) hr hm (repair_turned hrep)
    refine answersCore_pick hup hmay hpick (by simp [Pick.badEncode, hr]) hdo hcr (hreq.trans rfl) ⟨hreads, hflight, hout⟩
  · rw [turned_clear] at h1
    subst h1 hd
    obtain ⟨w, k, e, hm⟩ := Core.turned_mcOf s.clear.core sc.val t
    obtain ⟨c, hdo, hcr, hwrites, hout, hcount⟩ := Core.doPick_write (mem := s.mem) hr hm (repair_turned hrep)
    have hgood : (Pick.cas r).badEncode t = false := by
      rcases henc with h | h <;> simp [Pick.badEncode, h]
    have heq := (Core.mcPick_eq (c := s.clear.core) (mem := s.mem) hmay hpick hgood (by rw [hdo]; exact hcr)).trans hdo
    refine answersAll_onHubMem (fun c m => c.mcPick m sc.val t) rfl hup ?_
    rw [heq]
    exact ⟨hwrites, hout, hcount, fun a ha => Memory.byte_setBurst_out _ _ _ ha, Memory.burst_setBurst _ _ _ _,
      Memory.poisoned_setBurst _ _ _ _, fun pa hpa => Memory.poisoned_setBurst_ne _ _ _ hpa, rfl, rfl⟩
  · rw [turned_clear] at h1
    subst h1
    obtain ⟨c, hdo, hecc, hreq, hrow, hout, hcount, hget⟩ := Core.doPick_activate (s.clear.core.turned sc.val t) s.mem sc.val bank row
    refine answersCore_pick hup hmay hpick rfl hdo (by rw [Core.eccOf, hecc]; exact repair_turned hrep) (hreq.trans rfl)
      ⟨hrow, hout, hcount, hget⟩
  · obtain ⟨w, k, e, hm⟩ := Core.turned_mcOf s.clear.core sc.val t
    have hpick : (s.clear.core.turned sc.val t).pick sc.val ((s.clear.core.turned sc.val t).mcOf sc.val) t = .refresh lr := by
      refine Core.pick_refresh hlr (fun k hk => ?_) ?_ (by rw [hm]; exact hopen) href (by rw [hm]; exact hpat)
      · rw [Core.refWants_turned]
        exact hb k hk
      · rw [Core.refWants_turned]
        exact hw
    obtain ⟨c, hdo, hecc, hreq, hdebt, hout, hcount⟩ := Core.doPick_refresh (s.clear.core.turned sc.val t) s.mem sc.val lr hfl
      (by rw [hm]; exact hpd)
    rw [hm] at hdebt
    exact answersCore_pick hup hmay hpick rfl hdo (by rw [Core.eccOf, hecc]; exact repair_turned hrep) (hreq.trans rfl)
      ⟨hdebt, hout, hcount⟩
  · obtain ⟨w, k, e, hm⟩ := Core.turned_mcOf s.clear.core sc.val t
    have hpick : (s.clear.core.turned sc.val t).pick sc.val ((s.clear.core.turned sc.val t).mcOf sc.val) t = .mrr lr := by
      refine Core.pick_mrr hlr (fun k hk => ?_) (fun k hk => ?_) (by rw [hm]; exact hdue) hmode hpd (by rw [hm]; exact hpat)
      · rw [Core.refWants_turned]
        exact hno k hk
      · rw [hm]
        exact hb k hk
    obtain ⟨c, hdo, hecc, hreq, h1, h2, hout, hget⟩ := Core.doPick_mrr (s.clear.core.turned sc.val t) s.mem sc.val lr
    exact answersCore_pick hup hmay hpick rfl hdo (by rw [Core.eccOf, hecc]; exact repair_turned hrep) (hreq.trans rfl)
      ⟨h1, h2, hout, hget⟩

end Sys2Proof.Machine
end

section
/-! PROOFS. Closing banks and working off refreshes: power-down and the entry into self-refresh (07_memory_controller.md R183,
R185). -/

namespace Sys2Proof.Machine

namespace Core

variable {c d e : Core} {n lr : Nat} {l : List Nat}

/-! ## What closing banks and refreshing leave -/

/-- What stays, of a core whose controller n closes banks and refreshes: the wire only gains commands. -/
def RefreshKept (n : Nat) (c d : Core) : Prop :=
  d.sluice = c.sluice ∧ d.tick = c.tick ∧ d.req = c.req ∧ (∃ l, d.out = c.out ++ l) ∧ (d.mcOf n).pdBack = (c.mcOf n).pdBack ∧
    ∀ k, k ≠ Obj.Sc.REFRESHES n → k ≠ Obj.Sc.REF_EXCESS n → k ≠ Obj.Sc.REF_FORCED n → k ≠ Obj.Sc.FLAGS n → d.get k = c.get k

theorem RefreshKept.refl (n : Nat) (c : Core) : RefreshKept n c c := ⟨rfl, rfl, rfl, ⟨[], (List.append_nil _).symm⟩, rfl, fun _ _ _ _ _ => rfl⟩

theorem RefreshKept.trans (h : RefreshKept n c d) (h' : RefreshKept n d e) : RefreshKept n c e := by
  obtain ⟨h1, h2, h3, ⟨l, h4⟩, h5, h6⟩ := h
  obtain ⟨g1, g2, g3, ⟨l', g4⟩, g5, g6⟩ := h'
  exact ⟨g1.trans h1, g2.trans h2, g3.trans h3, ⟨l ++ l', by rw [g4, h4, List.append_assoc]⟩, g5.trans h5,
    fun k a b x y => (g6 k a b x y).trans (h6 k a b x y)⟩

theorem tick_order (c : Core) (n : Nat) (x : DramCmd) : (c.order n x).tick = c.tick := rfl

/-! ## Closing the banks of a rank -/

/-- The rows of a controller after banks of a list are closed. -/
theorem close_foldl (bs : List Nat) (m : McState) : ∃ r f, bs.foldl (fun m b => m.close b) m = { m with rows := r, fresh := f } ∧
    ∀ b, r.num b = if b ∈ bs then 0 else m.rows.num b := by
  induction bs generalizing m with
  | nil => exact ⟨m.rows, m.fresh, rfl, fun b => by simp⟩
  | cons x bs ih =>
    obtain ⟨r, f, heq, hr⟩ := ih (m.close x)
    refine ⟨r, f, heq, fun b => ?_⟩
    rw [hr]
    have hclose : (m.close x).rows.num b = if b = x then 0 else m.rows.num b := by
      split
      · next h =>
        rw [h]
        exact num_setNum_self m.rows x 0
      · next h => exact num_setNum_ne m.rows 0 h
    rw [hclose]
    by_cases h1 : b ∈ bs
    · simp [h1]
    · by_cases h2 : b = x
      · simp [h2]
      · simp [h1, h2]

theorem mem_openBanks (m : McState) {b : Nat} (h : b / 32 = lr) (hne : m.rows.num b ≠ 0) : b ∈ m.openBanks lr := by
  refine List.mem_filterMap.2 ⟨b % 32, List.mem_range.2 (Nat.mod_lt _ (by decide)), ?_⟩
  have hb : lr * 32 + b % 32 = b := by omega
  rw [hb, if_pos hne]

/-- Every bank of the rank is closed, no other opens, and the rest of the controller stays. -/
theorem closeRank_facts (c : Core) (n lr : Nat) : RefreshKept n c (c.closeRank n lr) ∧ (∀ k, (c.closeRank n lr).get k = c.get k) ∧
    ∃ r f, (c.closeRank n lr).mcOf n = { c.mcOf n with rows := r, fresh := f } ∧
      ∀ b, (b / 32 = lr ∨ (c.mcOf n).rows.num b = 0) → r.num b = 0 := by
  unfold closeRank
  split
  · next h =>
    refine ⟨RefreshKept.refl n c, fun _ => rfl, (c.mcOf n).rows, (c.mcOf n).fresh, rfl, fun b hb => ?_⟩
    rcases hb with hb | hb
    · by_contra hne
      have hmem := mem_openBanks (c.mcOf n) hb hne
      rw [List.isEmpty_iff.1 h] at hmem
      exact absurd hmem List.not_mem_nil
    · exact hb
  · obtain ⟨r, f, heq, hr⟩ := close_foldl ((c.mcOf n).openBanks lr) (c.mcOf n)
    have hdo : c.issuePreAll n lr = (c.setMc n { c.mcOf n with rows := r, fresh := f }).order n (.preAll lr) := by
      rw [← heq]
      rfl
    rw [hdo]
    obtain ⟨o1, -, o3, o4, o5, o6⟩ := order_facts (c.setMc n { c.mcOf n with rows := r, fresh := f }) n (.preAll lr)
    refine ⟨⟨?_, ?_, ?_, ⟨_, o5.trans (by rw [out_setMc])⟩, ?_, fun k _ _ _ _ => ?_⟩, fun k => ?_, r, f, ?_, fun b hb => ?_⟩
    · rw [o4, sluice_setMc]
    · rw [tick_order, tick_setMc]
    · rw [o3, req_setMc]
    · rw [o1, mcOf_setMc_self]
    · rw [o6, get_setMc]
    · rw [o6, get_setMc]
    · rw [o1, mcOf_setMc_self]
    · rw [hr]
      split
      · rfl
      · next hb' =>
        rcases hb with hb | hb
        · by_contra hne
          exact hb' (mem_openBanks (c.mcOf n) hb hne)
        · exact hb

/-- Closing ranks one after another. -/
theorem closeRanks_facts (c : Core) (n : Nat) (l : List Nat) : RefreshKept n c (l.foldl (fun c lr => c.closeRank n lr) c) ∧
    (∀ k, (l.foldl (fun c lr => c.closeRank n lr) c).get k = c.get k) ∧
    ∃ r f, (l.foldl (fun c lr => c.closeRank n lr) c).mcOf n = { c.mcOf n with rows := r, fresh := f } ∧
      ∀ b, (b / 32 ∈ l ∨ (c.mcOf n).rows.num b = 0) → r.num b = 0 := by
  induction l generalizing c with
  | nil => exact ⟨RefreshKept.refl n c, fun _ => rfl, _, _, rfl, fun b hb => hb.resolve_left List.not_mem_nil⟩
  | cons x l ih =>
    obtain ⟨h1, h2, r, f, h3, h4⟩ := closeRank_facts c n x
    obtain ⟨g1, g2, r', f', g3, g4⟩ := ih (c.closeRank n x)
    rw [h3] at g3 g4
    refine ⟨h1.trans g1, fun k => (g2 k).trans (h2 k), r', f', g3, fun b hb => g4 b ?_⟩
    rcases hb with hb | hb
    · rcases List.mem_cons.1 hb with hb | hb
      · exact .inr (h4 b (.inl hb))
      · exact .inl hb
    · exact .inr (h4 b (.inr hb))

/-! ## Refreshes owed (R185 step 2) -/

/-- A saturating 64-bit counter after a number of counts. -/
def counted64 (g k : Nat) : Nat := if k = 0 then g else min (g + k) (2 ^ 64 - 1)

theorem counted64_counted64 (g a b : Nat) : counted64 (counted64 g a) b = counted64 g (a + b) := by
  unfold counted64
  split <;> split <;> split <;> omega

theorem refreshCounts_get (c : Core) (n : Nat) (x y : Bool) {k : Nat} (h1 : k ≠ Obj.Sc.REF_EXCESS n) (h2 : k ≠ Obj.Sc.REF_FORCED n)
    (h3 : k ≠ Obj.Sc.FLAGS n) : (c.refreshCounts n x y).get k = c.get k := by
  have hx : (if x then c.inc (Obj.Sc.REF_EXCESS n) else c).get k = c.get k := by
    cases x
    · rfl
    · exact get_inc_ne c h1
  cases y
  · exact hx
  · exact (get_flag_ne _ _ h3).trans ((get_inc64_ne _ h2).trans hx)

theorem refreshCounts_tick (c : Core) (n : Nat) (x y : Bool) : (c.refreshCounts n x y).tick = c.tick := by
  cases x <;> cases y <;> rfl

theorem inc64_tick (c : Core) (i : Nat) : (c.inc64 i).tick = c.tick := rfl

/-- A refresh, without a flush and with no rank that woke for it alone. -/
theorem issueRefresh_facts (c : Core) (n lr : Nat) (hflush : c.holds Ck.flush 0 = false)
    (hback : (c.mcOf n).pdBack.testBit (lr / 4) = false) : RefreshKept n c (c.issueRefresh n lr) ∧
      (c.issueRefresh n lr).mcOf n = c.refreshedMc n lr ∧
      (c.issueRefresh n lr).get (Obj.Sc.REFRESHES n) = min (c.get (Obj.Sc.REFRESHES n) + 1) (2 ^ 64 - 1) := by
  obtain ⟨x, y, heq⟩ := issueRefresh_eq c n lr
  obtain ⟨m, hm⟩ : ∃ m, m = c.refreshedMc n lr := ⟨_, rfl⟩
  have hpd : m.pdBack = (c.mcOf n).pdBack := by
    rw [hm]
    rfl
  rw [← hm] at heq
  obtain ⟨h1, h2, h3, h4, h5, h6⟩ := refreshCounts_facts (((c.setMc n m).order n (.ref lr)).inc64 (Obj.Sc.REFRESHES n)) n x y
  obtain ⟨i1, i2, i3, i4, i5⟩ := inc64_facts ((c.setMc n m).order n (.ref lr)) (Obj.Sc.REFRESHES n)
  obtain ⟨o1, o2, o3, o4, o5, o6⟩ := order_facts (c.setMc n m) n (.ref lr)
  have hcount : (((c.setMc n m).order n (.ref lr)).inc64 (Obj.Sc.REFRESHES n)).get (Obj.Sc.REFRESHES n) =
      min (c.get (Obj.Sc.REFRESHES n) + 1) (2 ^ 64 - 1) := by rw [get_inc64_min, o6, get_setMc]
  have hkeep : ∀ k, k ≠ Obj.Sc.REFRESHES n → k ≠ Obj.Sc.REF_EXCESS n → k ≠ Obj.Sc.REF_FORCED n → k ≠ Obj.Sc.FLAGS n →
      ((((c.setMc n m).order n (.ref lr)).inc64 (Obj.Sc.REFRESHES n)).refreshCounts n x y).get k = c.get k := fun k a b z w => by
    rw [refreshCounts_get _ _ _ _ b z w, get_inc64_ne _ a, o6, get_setMc]
  have htick : ((((c.setMc n m).order n (.ref lr)).inc64 (Obj.Sc.REFRESHES n)).refreshCounts n x y).tick = c.tick := by
    rw [refreshCounts_tick, inc64_tick, tick_order, tick_setMc]
  have hmc : ∀ e : Core, e.mc = (((c.setMc n m).order n (.ref lr)).inc64 (Obj.Sc.REFRESHES n)).mc → e.mcOf n = m := fun e he => by
    rw [mcOf, he, ← mcOf, i1, o1, mcOf_setMc_self]
  replace hmc := hmc _ h1
  generalize (((c.setMc n m).order n (.ref lr)).inc64 (Obj.Sc.REFRESHES n)).refreshCounts n x y = e at heq hmc h2 h3 h4 h5 h6 hkeep htick
  have hfree : e.holds Ck.flush 0 = false := by
    rw [holds, h5, i5, o4, sluice_setMc, ← holds, hflush]
  have hdone : e.flushDone = e := by
    rw [flushDone, hfree]
    rfl
  have hrest : e.backToRest n (lr / 4) = e := by
    rw [backToRest, hmc, hpd, hback]
    rfl
  rw [hdone, hrest] at heq
  rw [heq]
  refine ⟨⟨?_, htick, ?_, ⟨_, h2.trans (i4.trans (o5.trans (by rw [out_setMc])))⟩, by rw [hmc, hpd], hkeep⟩, hmc.trans hm, h6.trans hcount⟩
  · rw [h5, i5, o4, sluice_setMc]
  · rw [h3, i3, o3, req_setMc]

theorem RefreshKept.holds (h : RefreshKept n c d) (k o : Nat) : d.holds k o = c.holds k o := by rw [Core.holds, h.1, Core.holds]

/-- A number of refreshes of one rank. -/
theorem issueRefreshes_facts (k : Nat) (c : Core) (n lr : Nat) (hflush : c.holds Ck.flush 0 = false)
    (hback : (c.mcOf n).pdBack.testBit (lr / 4) = false) (is : List Nat) (hlen : is.length = k) :
    RefreshKept n c (is.foldl (fun c _ => c.issueRefresh n lr) c) ∧
      (∀ i, ((is.foldl (fun c _ => c.issueRefresh n lr) c).mcOf n).debt.num i =
        if i = lr then (c.mcOf n).debt.num lr - k else (c.mcOf n).debt.num i) ∧
      (is.foldl (fun c _ => c.issueRefresh n lr) c).get (Obj.Sc.REFRESHES n) = counted64 (c.get (Obj.Sc.REFRESHES n)) k := by
  induction is generalizing c k with
  | nil =>
    obtain rfl : 0 = k := hlen
    refine ⟨RefreshKept.refl n c, fun i => ?_, rfl⟩
    split
    · next h => rw [h]; rfl
    · rfl
  | cons x is ih =>
    rw [List.length_cons] at hlen
    obtain ⟨h1, h2, h3⟩ := issueRefresh_facts c n lr hflush hback
    obtain ⟨g1, g2, g3⟩ := ih (k - 1) (c.issueRefresh n lr) (by rw [h1.holds, hflush]) (by rw [h1.2.2.2.2.1, hback]) (by omega)
    have hdebt : ∀ i, (c.refreshedMc n lr).debt.num i = if i = lr then (c.mcOf n).debt.num lr - 1 else (c.mcOf n).debt.num i := fun i => by
      split
      · next h =>
        rw [h]
        exact num_setNum_self (c.mcOf n).debt lr ((c.mcOf n).debt.num lr - 1)
      · next h => exact num_setNum_ne (c.mcOf n).debt _ h
    refine ⟨h1.trans g1, fun i => ?_, ?_⟩
    · rw [List.foldl_cons, g2, h2, hdebt, if_pos rfl, hdebt]
      split
      · omega
      · rfl
    · rw [List.foldl_cons, g3, h3]
      have hone : counted64 (c.get (Obj.Sc.REFRESHES n)) 1 = min (c.get (Obj.Sc.REFRESHES n) + 1) (2 ^ 64 - 1) := rfl
      rw [← hone, counted64_counted64]
      congr 1
      omega

/-- A rank that works off what it owes. -/
theorem refreshOwed_facts (c : Core) (n lr : Nat) (hflush : c.holds Ck.flush 0 = false)
    (hback : (c.mcOf n).pdBack.testBit (lr / 4) = false) : RefreshKept n c (c.refreshOwed n lr) ∧
      (∀ i, ((c.refreshOwed n lr).mcOf n).debt.num i = if i = lr then 0 else (c.mcOf n).debt.num i) ∧
      (c.refreshOwed n lr).get (Obj.Sc.REFRESHES n) = counted64 (c.get (Obj.Sc.REFRESHES n)) ((c.mcOf n).debt.num lr) := by
  unfold refreshOwed
  dsimp only
  split
  · next h =>
    refine ⟨RefreshKept.refl n c, fun i => ?_, by rw [h]; rfl⟩
    split
    · next hi => rw [hi, h]
    · rfl
  · obtain ⟨h1, h2, r, f, h3, -⟩ := closeRank_facts c n lr
    obtain ⟨g1, g2, g3⟩ := issueRefreshes_facts ((c.mcOf n).debt.num lr) (c.closeRank n lr) n lr (by rw [h1.holds, hflush])
      (by rw [h3]; exact hback) (List.range ((c.mcOf n).debt.num lr)) List.length_range
    refine ⟨h1.trans g1, fun i => ?_, by rw [g3, h2]⟩
    rw [g2, h3]
    split
    · exact Nat.sub_self _
    · rfl

/-- All ranks of a list work off what they owe. -/
theorem refreshAll_facts (l : List Nat) (c : Core) (n : Nat) (hn : l.Nodup) (hflush : c.holds Ck.flush 0 = false)
    (hback : ∀ lr ∈ l, (c.mcOf n).pdBack.testBit (lr / 4) = false) : RefreshKept n c (l.foldl (fun c lr => c.refreshOwed n lr) c) ∧
      (∀ i, ((l.foldl (fun c lr => c.refreshOwed n lr) c).mcOf n).debt.num i = if i ∈ l then 0 else (c.mcOf n).debt.num i) ∧
      (l.foldl (fun c lr => c.refreshOwed n lr) c).get (Obj.Sc.REFRESHES n) =
        counted64 (c.get (Obj.Sc.REFRESHES n)) ((l.map fun lr => (c.mcOf n).debt.num lr).sum) := by
  induction l generalizing c with
  | nil => exact ⟨RefreshKept.refl n c, fun i => by simp, rfl⟩
  | cons x l ih =>
    obtain ⟨hx, hn⟩ := List.nodup_cons.1 hn
    obtain ⟨h1, h2, h3⟩ := refreshOwed_facts c n x hflush (hback x List.mem_cons_self)
    obtain ⟨g1, g2, g3⟩ := ih (c.refreshOwed n x) hn (by rw [h1.holds, hflush])
      (fun lr hlr => by rw [h1.2.2.2.2.1]; exact hback lr (List.mem_cons_of_mem _ hlr))
    refine ⟨h1.trans g1, fun i => ?_, ?_⟩
    · rw [List.foldl_cons, g2, h2]
      by_cases hi : i ∈ l
      · simp [hi]
      · by_cases hix : i = x
        · simp [hix]
        · simp [hi, hix]
    · have hsame : (l.map fun lr => ((c.refreshOwed n x).mcOf n).debt.num lr) = l.map fun lr => (c.mcOf n).debt.num lr :=
        List.map_congr_left fun lr hlr => by rw [h2, if_neg]; rintro rfl; exact hx hlr
      rw [List.foldl_cons, g3, h3, hsame, counted64_counted64, List.map_cons, List.sum_cons]

end Core
end Sys2Proof.Machine
end

section
/-! PROOFS. Power-down, the entry into self-refresh and its exit, and a new address map (07_memory_controller.md R166, R183, R185,
R186; 08_ddr5_redrive_training.md R201). -/

namespace Sys2Proof.Machine

namespace Core

variable {c d e : Core} {n pr : Nat}

/-! ## Waking, once more -/

theorem pdExit_out (c : Core) (n pr : Nat) : ∃ l, (c.pdExit n pr).out = c.out ++ l := by
  unfold pdExit
  dsimp only
  split
  · exact ⟨[_], rfl⟩
  · exact ⟨[_], rfl⟩

/-- A rank that wakes is not one that woke for a refresh alone. -/
theorem wakeRank_facts (c : Core) (n pr : Nat) : (c.wakeRank n pr).sluice = c.sluice ∧ (c.wakeRank n pr).tick = c.tick ∧
    (c.wakeRank n pr).req = c.req ∧ (∃ l, (c.wakeRank n pr).out = c.out ++ l) ∧
    ∃ w, (c.wakeRank n pr).mcOf n = { c.mcOf n with wakeDue := w, pdBack := setBitTo pr false (c.mcOf n).pdBack } := by
  have hfr := (rankOnly_wakeRank c n pr).1
  have hbase := mcOf_setMc_self c n { c.mcOf n with pdBack := setBitTo pr false (c.mcOf n).pdBack }
  refine ⟨by rw [hfr], by rw [hfr], by rw [hfr], ?_, ?_⟩
  · unfold wakeRank
    dsimp only
    split
    · split
      · exact ⟨[], (List.append_nil _).symm⟩
      · exact pdExit_out _ n pr
    · exact ⟨[], (List.append_nil _).symm⟩
  · unfold wakeRank updMc
    dsimp only
    split
    · split
      · exact ⟨_, (mcOf_setMc_self _ n _).trans (by rw [hbase])⟩
      · exact ⟨_, (pdExit_mcOf _ n pr).trans (by rw [hbase])⟩
    · exact ⟨_, hbase⟩

theorem wakeBoth_rest (c : Core) (n : Nat) : (c.wakeBoth n).sluice = c.sluice ∧ (c.wakeBoth n).tick = c.tick ∧
    (c.wakeBoth n).req = c.req ∧ (∃ l, (c.wakeBoth n).out = c.out ++ l) ∧
    (∃ w b, (c.wakeBoth n).mcOf n = { c.mcOf n with wakeDue := w, pdBack := b } ∧ b.testBit 0 = false ∧ b.testBit 1 = false) ∧
    ∀ k, k ≠ Obj.Sc.PD_MASK n → k ≠ Obj.Sc.STATE n → (c.wakeBoth n).get k = c.get k := by
  obtain ⟨a1, a2, a3, ⟨l, a4⟩, w, a5⟩ := wakeRank_facts c n 0
  obtain ⟨b1, b2, b3, ⟨l', b4⟩, w', b5⟩ := wakeRank_facts (c.wakeRank n 0) n 1
  refine ⟨b1.trans a1, b2.trans a2, b3.trans a3, ⟨l ++ l', ?_⟩, ⟨w', setBitTo 1 false (setBitTo 0 false (c.mcOf n).pdBack), ?_, ?_, ?_⟩,
    ((rankOnly_wakeRank c n 0).trans (rankOnly_wakeRank _ n 1)).2⟩
  · rw [wakeBoth, b4, a4, List.append_assoc]
  · rw [wakeBoth, b5, a5]
  · rw [testBit_setBitTo_ne _ _ (by decide), testBit_setBitTo_self]
  · rw [testBit_setBitTo_self]

/-! ## Power-down (R183) -/

/-- The core that enters power-down, its rows closed, before the entry command. -/
def pdReady (c : Core) (n pr : Nat) : Core :=
  (c.updMc n fun m =>
    { m with pdBack := setBitTo pr false m.pdBack,
             shadow := if pr = 0 then field 7 4 m.shadow <<< 4 else field 3 0 m.shadow }).putBit (Obj.Sc.PD_MASK n) pr true

theorem enterPowerDown_eq (c : Core) (n pr : Nat) : c.enterPowerDown n pr =
    let d := ((((List.range 4).map (4 * pr + ·)).foldl (fun c lr => c.closeRank n lr) c).pdReady n pr).order n (.pdEnter pr)
    if d.get (Obj.Sc.PD_MASK n) = 3 then d.put (Obj.Sc.STATE n) 1 else d := by
  rw [List.foldl_map]
  rfl

theorem pdReady_facts (c : Core) (n pr : Nat) : (c.pdReady n pr).bitOf (Obj.Sc.PD_MASK n) pr = true ∧
    (∀ k, k ≠ Obj.Sc.PD_MASK n → (c.pdReady n pr).get k = c.get k) ∧ ((c.pdReady n pr).mcOf n).rows = (c.mcOf n).rows ∧
    (c.pdReady n pr).out = c.out ∧ (c.pdReady n pr).req = c.req := by
  refine ⟨?_, fun k hk => ?_, ?_, rfl, rfl⟩
  · rw [pdReady, bitOf_putBit_self, if_pos rfl]
  · rw [pdReady, putBit, get_put_ne _ _ hk, updMc, get_setMc]
  · rw [pdReady, putBit, mcOf_put, updMc, mcOf_setMc_self]

theorem enterPowerDown_facts (c : Core) (n pr : Nat) : (c.enterPowerDown n pr).bitOf (Obj.Sc.PD_MASK n) pr = true ∧
    .dram n (.pdEnter pr) (c.parLevel (.pdEnter pr)) ∈ (c.enterPowerDown n pr).out ∧
    ((c.enterPowerDown n pr).get (Obj.Sc.PD_MASK n) = 3 → (c.enterPowerDown n pr).get (Obj.Sc.STATE n) = 1) ∧
    (∀ b, b / 128 = pr → ((c.enterPowerDown n pr).mcOf n).rows.num b = 0) ∧ (c.enterPowerDown n pr).req = c.req ∧
    ∀ k, k ≠ Obj.Sc.PD_MASK n → k ≠ Obj.Sc.STATE n → (c.enterPowerDown n pr).get k = c.get k := by
  obtain ⟨⟨-, -, hreq, -, -, -⟩, hget, r, f, hmc, hrows⟩ := closeRanks_facts c n ((List.range 4).map (4 * pr + ·))
  have heq := enterPowerDown_eq c n pr
  generalize ((List.range 4).map (4 * pr + ·)).foldl (fun c lr => c.closeRank n lr) c = a at heq hreq hget hmc
  obtain ⟨p1, p2, p3, p4, p5⟩ := pdReady_facts a n pr
  obtain ⟨o1, -, o3, -, o5, o6⟩ := order_facts (a.pdReady n pr) n (.pdEnter pr)
  have hpar : (a.pdReady n pr).parLevel (.pdEnter pr) = c.parLevel (.pdEnter pr) :=
    parLevel_congr ((p2 _ (by simp; omega)).trans (hget _)) _
  have hbit : ((a.pdReady n pr).order n (.pdEnter pr)).bitOf (Obj.Sc.PD_MASK n) pr = true := by rw [bitOf_congr pr (o6 _), p1]
  have hzero : ∀ b, b / 128 = pr → (((a.pdReady n pr).order n (.pdEnter pr)).mcOf n).rows.num b = 0 := fun b hb => by
    rw [o1, p3, hmc]
    refine hrows b (.inl (List.mem_map.2 ⟨b / 32 % 4, List.mem_range.2 (Nat.mod_lt _ (by decide)), ?_⟩))
    show 4 * pr + b / 32 % 4 = b / 32
    omega
  have hout : Out.dram n (.pdEnter pr) (c.parLevel (.pdEnter pr)) ∈ ((a.pdReady n pr).order n (.pdEnter pr)).out := by
    rw [o5, hpar]
    exact List.mem_append_right _ List.mem_cons_self
  have hkeep : ∀ k, k ≠ Obj.Sc.PD_MASK n → ((a.pdReady n pr).order n (.pdEnter pr)).get k = c.get k := fun k hk => by
    rw [o6, p2 k hk, hget]
  have hdreq : ((a.pdReady n pr).order n (.pdEnter pr)).req = c.req := by rw [o3, p5, hreq]
  generalize (a.pdReady n pr).order n (.pdEnter pr) = d at heq hbit hzero hout hkeep hdreq
  rw [heq]
  dsimp only
  split
  · refine ⟨?_, hout, fun _ => get_put_self _ _ _, fun b hb => ?_, hdreq, fun k h1 h2 => ?_⟩
    · rw [bitOf_congr pr (get_put_ne d 1 (by simp)), hbit]
    · rw [mcOf_put, hzero b hb]
    · rw [get_put_ne _ _ h2, hkeep k h1]
  · next h => exact ⟨hbit, hout, fun h3 => absurd h3 h, hzero, hdreq, fun k h1 _ => hkeep k h1⟩

theorem powerDownEntry_eq (hpd : c.get Obj.Mc.PD_IDLE_NS ≠ 0) (hmay : c.mayIssue n = true) (hst : c.scState n ≤ 1)
    (hbit : c.bitOf (Obj.Sc.PD_MASK n) pr = false) (hidle : c.rankIdle n pr = true) (hlease : c.leaseForbidsPd n = false) :
    c.powerDownEntry n pr = c.enterPowerDown n pr := by
  rw [powerDownEntry, if_pos]
  rw [hmay, hbit, hidle, hlease]
  simpa using ⟨hpd, hst⟩

/-! ## The entry into self-refresh (R185, R201) -/

/-- The entry commands have gone, at a tick. -/
def entered (c : Core) (n t : Nat) : Core :=
  ((c.order n (.srEnter 0)).order n (.srEnter 1)).updMc n fun m =>
    { m with srEntering := true, srAt := t + 1, excess := [], flush := [], streak := [], shadow := 0, mrrDue := 0, mrrOut := 0 }

theorem entered_facts (c : Core) (n t : Nat) : (c.entered n t).sluice = c.sluice ∧ (c.entered n t).req = c.req ∧
    (c.entered n t).out = c.out ++ [.dram n (.srEnter 0) (c.parLevel (.srEnter 0)), .dram n (.srEnter 1) (c.parLevel (.srEnter 1))] ∧
    (∀ k, (c.entered n t).get k = c.get k) ∧ ((c.entered n t).mcOf n).srAt = t + 1 ∧
    ((c.entered n t).mcOf n).debt = (c.mcOf n).debt ∧ ((c.entered n t).mcOf n).rows = (c.mcOf n).rows := by
  obtain ⟨o1, -, o3, o4, o5, o6⟩ := order_facts c n (.srEnter 0)
  obtain ⟨p1, -, p3, p4, p5, p6⟩ := order_facts (c.order n (.srEnter 0)) n (.srEnter 1)
  unfold entered updMc
  refine ⟨?_, ?_, ?_, fun k => ?_, ?_, ?_, ?_⟩
  · rw [sluice_setMc, p4, o4]
  · rw [req_setMc, p3, o3]
  · rw [out_setMc, p5, o5, parLevel_congr (o6 _), List.append_assoc]
    rfl
  · rw [get_setMc, p6, o6]
  · rw [mcOf_setMc_self]
  · rw [mcOf_setMc_self, p1, o1]
  · rw [mcOf_setMc_self, p1, o1]

theorem beginEntry_eq (c : Core) (n : Nat) : c.beginEntry n = (((List.range 8).foldl (fun c lr => c.closeRank n lr)
    ((List.range 8).foldl (fun c lr => c.refreshOwed n lr) (c.wakeBoth n))).entered n c.tick).flushDone := by
  rw [beginEntry]
  rfl

theorem owed_eq (m : McState) : m.owed = ((List.range 8).map fun lr => m.debt.num lr).sum := by
  rw [McState.owed, List.sum_eq_foldl, List.foldl_map]

/-- Refreshes, precharges and the entry commands. -/
theorem beginEntry_facts (hflush : c.holds Ck.flush 0 = false) : ((c.beginEntry n).mcOf n).srAt = c.tick + 1 ∧
    (∀ lr < 8, ((c.beginEntry n).mcOf n).debt.num lr = 0) ∧ (∀ b < 256, ((c.beginEntry n).mcOf n).rows.num b = 0) ∧
    (c.beginEntry n).get (Obj.Sc.REFRESHES n) = counted64 (c.get (Obj.Sc.REFRESHES n)) (c.mcOf n).owed ∧
    (∃ l, (c.beginEntry n).out = c.out ++ l ++ [.dram n (.srEnter 0) (c.parLevel (.srEnter 0)),
      .dram n (.srEnter 1) (c.parLevel (.srEnter 1))]) ∧
    (c.beginEntry n).get (Obj.Sc.SR_ENTRIES n) = c.get (Obj.Sc.SR_ENTRIES n) ∧ (c.beginEntry n).req = c.req := by
  have heq := beginEntry_eq c n
  obtain ⟨w1, -, w3, ⟨l, w4⟩, ⟨w, b, w5, hb0, hb1⟩, w6⟩ := wakeBoth_rest c n
  generalize c.wakeBoth n = x at heq w1 w3 w4 w5 w6
  have hback : ∀ lr ∈ List.range 8, (x.mcOf n).pdBack.testBit (lr / 4) = false := fun lr hlr => by
    rw [w5]
    have hlt := List.mem_range.1 hlr
    obtain h | h : lr / 4 = 0 ∨ lr / 4 = 1 := by omega
    · rw [h, hb0]
    · rw [h, hb1]
  obtain ⟨⟨r1, -, r3, ⟨l', r4⟩, -, r6⟩, r7, r8⟩ := refreshAll_facts (List.range 8) x n List.nodup_range
    (by rw [holds, w1, ← holds, hflush]) hback
  generalize (List.range 8).foldl (fun c lr => c.refreshOwed n lr) x = y at heq r1 r3 r4 r6 r7 r8
  obtain ⟨⟨q1, -, q3, ⟨l'', q4⟩, -, -⟩, q7, r, f, q8, q9⟩ := closeRanks_facts y n (List.range 8)
  generalize (List.range 8).foldl (fun c lr => c.closeRank n lr) y = z at heq q1 q3 q4 q7 q8
  obtain ⟨e1, e2, e3, e4, e5, e6, e7⟩ := entered_facts z n c.tick
  have hfree : (z.entered n c.tick).flushDone = z.entered n c.tick := by
    have hno : (z.entered n c.tick).holds Ck.flush 0 = false := by rw [holds, e1, q1, r1, w1, ← holds, hflush]
    rw [flushDone, hno]
    rfl
  rw [hfree] at heq
  generalize z.entered n c.tick = g at heq e1 e2 e3 e4 e5 e6 e7
  have hpar : ∀ v, z.parLevel v = c.parLevel v := fun v =>
    parLevel_congr ((q7 _).trans ((r6 _ (by simp; omega) (by simp; omega) (by simp; omega) (by simp; omega)).trans
      (w6 _ (by simp; omega) (by simp; omega)))) v
  rw [heq]
  refine ⟨e5, fun lr hlr => ?_, fun i hi => ?_, ?_, ⟨l ++ l' ++ l'', ?_⟩, ?_, ?_⟩
  · rw [e6, q8]
    exact (r7 lr).trans (if_pos (List.mem_range.2 hlr))
  · rw [e7, q8]
    exact q9 i (.inl (List.mem_range.2 (by omega)))
  · rw [e4, q7, r8, w6 _ (by simp) (by simp), owed_eq, w5]
  · rw [e3, q4, r4, w4, hpar, hpar]
    simp only [List.append_assoc]
  · rw [e4, q7, r6 _ (by simp) (by simp) (by simp) (by simp), w6 _ (by simp) (by simp)]
  · rw [e2, q3, r3, w3]

theorem selfRefreshEntry_begin (hat : (c.mcOf n).srAt = 0) (hent : (c.mcOf n).srEntering = true) (hst : c.scState n ≤ 1)
    (hdr : (c.mcOf n).drained = true) (hmay : c.mayIssue n = true) (hrep : (c.eccOf n).repair = none)
    (hcap : (c.ftOf n).capture = none) : c.selfRefreshEntry n = c.beginEntry n := by
  rw [selfRefreshEntry, if_neg (by rw [hat]; decide), if_pos]
  rw [hent, hdr, hmay, hrep, hcap]
  simpa using hst

theorem selfRefreshEntry_finish (hat : (c.mcOf n).srAt ≠ 0) : c.selfRefreshEntry n = c.finishEntry n := by
  rw [selfRefreshEntry]
  exact if_pos hat

theorem selfRefreshEntry_waits (hat : (c.mcOf n).srAt = 0) (harr : (c.mcOf n).arriving ≠ []) : c.selfRefreshEntry n = c := by
  have hdr : (c.mcOf n).drained = false := by
    rw [McState.drained, List.isEmpty_eq_false_iff.2 harr]
    rfl
  rw [selfRefreshEntry, if_neg (by rw [hat]; decide), if_neg]
  rw [hdr]
  simp

/-- CK stops. -/
def rested (c : Core) (n : Nat) : Core :=
  ((((c.setMc n { c.mcOf n with srEntering := false, srAt := 0 }).put (Obj.Sc.PD_MASK n) 0).put (Obj.Sc.STATE n) 2).inc
    (Obj.Sc.SR_ENTRIES n))

theorem finishEntry_eq (hat : (c.mcOf n).srAt ≠ 0) (hst : (c.mcOf n).stopped = false)
    (hwin : c.get Obj.Phy.ALERT_WINDOW_NS ≤ 2 * (c.tick + 1 - (c.mcOf n).srAt)) (hwhy : (c.mcOf n).srWhy ≠ 1) :
    c.finishEntry n = c.rested n := by
  rw [finishEntry, if_pos, if_neg hwhy]
  · rfl
  · rw [hst]
    simpa using ⟨hat, hwin⟩

theorem rested_facts (c : Core) (n : Nat) : (c.rested n).get (Obj.Sc.STATE n) = 2 ∧ (c.rested n).get (Obj.Sc.PD_MASK n) = 0 ∧
    (c.rested n).get (Obj.Sc.SR_ENTRIES n) = min (c.get (Obj.Sc.SR_ENTRIES n) + 1) (2 ^ 32 - 1) ∧
    ((c.rested n).mcOf n).srAt = 0 ∧ ((c.rested n).mcOf n).srEntering = false ∧ (c.rested n).out = c.out ∧
    (c.rested n).req = c.req ∧
    ∀ k, k ≠ Obj.Sc.STATE n → k ≠ Obj.Sc.PD_MASK n → k ≠ Obj.Sc.SR_ENTRIES n → (c.rested n).get k = c.get k := by
  obtain ⟨m, hm⟩ : ∃ m, m = { c.mcOf n with srEntering := false, srAt := 0 } := ⟨_, rfl⟩
  have heq : c.rested n = ((((c.setMc n m).put (Obj.Sc.PD_MASK n) 0).put (Obj.Sc.STATE n) 2).inc (Obj.Sc.SR_ENTRIES n)) := by
    rw [rested, hm]
  have hmc : (c.rested n).mcOf n = m := by rw [heq, inc, add, mcOf_put, mcOf_put, mcOf_put, mcOf_setMc_self]
  refine ⟨?_, ?_, ?_, by rw [hmc, hm], by rw [hmc, hm], by rw [heq]; rfl, by rw [heq]; rfl, fun k h1 h2 h3 => ?_⟩
  · rw [heq, get_inc_ne _ (by simp), get_put_self]
  · rw [heq, get_inc_ne _ (by simp), get_put_ne _ _ (by simp), get_put_self]
  · rw [heq, get_inc_min, get_put_ne _ _ (by simp), get_put_ne _ _ (by simp), get_setMc]
  · rw [heq, get_inc_ne _ h3, get_put_ne _ _ h1, get_put_ne _ _ h2, get_setMc]

end Core
end Sys2Proof.Machine
end

section
/-! PROOFS. The exit of self-refresh and the rest of the statement about memory at rest (07_memory_controller.md R166, R183, R185,
R186). -/

namespace Sys2Proof.Machine

namespace Core

variable {c d e : Core} {n : Nat}

/-! ## The device state that follows -/

theorem out_pins (c : Core) : ∃ l, c.pins.out = c.out ++ l := by
  unfold pins
  dsimp only
  split <;> split
  · exact ⟨[], (List.append_nil _).symm⟩
  · exact ⟨_, rfl⟩
  · exact ⟨_, rfl⟩
  · exact ⟨_, List.append_assoc _ _ _⟩

theorem setDev_facts (c : Core) (v : Nat) : (∃ l, (c.setDev v).out = c.out ++ l) ∧ (c.setDev v).mc = c.mc ∧
    (c.setDev v).srQueue = c.srQueue := by
  unfold setDev
  split
  · exact ⟨⟨[], (List.append_nil _).symm⟩, rfl, rfl⟩
  · obtain ⟨a, ha⟩ : ∃ a, a = ((((c.put Obj.Dev.PREV_STATE c.dev).put Obj.Dev.DEVICE_STATE v).put Obj.Dev.T_STATE c.hubTime).flag
        Obj.Dev.FLAGS 0) := ⟨_, rfl⟩
    have h1 : a.out = c.out := by rw [ha]; rfl
    have h2 : a.mc = c.mc := by rw [ha]; rfl
    have h3 : a.srQueue = c.srQueue := by rw [ha]; rfl
    rw [← ha]
    obtain ⟨l, hl⟩ := out_pins a
    exact ⟨⟨l, by rw [← h1]; exact hl⟩, ((fcOnly_pins a).mc).trans h2, ((fcOnly_pins a).srQueue).trans h3⟩

theorem autoState_facts (c : Core) : (∃ l, c.autoState.out = c.out ++ l) ∧ c.autoState.mc = c.mc ∧
    c.autoState.srQueue = c.srQueue ∧ ∀ k, ¬ devKey k → c.autoState.get k = c.get k := by
  unfold autoState
  split
  · obtain ⟨h1, h2, h3⟩ := setDev_facts c c.serviceState
    exact ⟨h1, h2, h3, fun k hk => get_setDev hk⟩
  · exact ⟨⟨[], (List.append_nil _).symm⟩, rfl, rfl, fun _ _ => rfl⟩

/-! ## The exit (R186) -/

theorem issueMrr_facts (c : Core) (n lr : Nat) : ∃ d o, (c.issueMrr n lr).mcOf n = { c.mcOf n with mrrDue := d, mrrOut := o } ∧
    o.testBit lr = true ∧ (∀ i, (c.mcOf n).mrrOut.testBit i = true → o.testBit i = true) ∧
    (c.issueMrr n lr).out = c.out ++ [.dram n (.mrr lr) (c.parLevel (.mrr lr))] ∧ ∀ k, (c.issueMrr n lr).get k = c.get k := by
  obtain ⟨m, hm⟩ : ∃ m, m = { c.mcOf n with mrrDue := setBitTo lr false (c.mcOf n).mrrDue, mrrOut := setBitTo lr true (c.mcOf n).mrrOut } :=
    ⟨_, rfl⟩
  have heq : c.issueMrr n lr = (c.setMc n m).order n (.mrr lr) := by
    rw [hm]
    rfl
  obtain ⟨o1, -, -, -, o5, o6⟩ := order_facts (c.setMc n m) n (.mrr lr)
  refine ⟨_, _, by rw [heq, o1, mcOf_setMc_self, hm], testBit_setBitTo_self _ _ _, fun i hi => ?_, ?_, fun k => ?_⟩
  · by_cases h : i = lr
    · rw [h, testBit_setBitTo_self]
    · rw [testBit_setBitTo_ne _ _ h, hi]
  · rw [heq, o5, out_setMc, parLevel_congr (get_setMc _ _ _ _)]
  · rw [heq, o6, get_setMc]

theorem issueMrrs_facts (l : List Nat) (c : Core) (n : Nat) :
    ∃ d o, (l.foldl (fun c lr => c.issueMrr n lr) c).mcOf n = { c.mcOf n with mrrDue := d, mrrOut := o } ∧
    (∀ lr, (lr ∈ l ∨ (c.mcOf n).mrrOut.testBit lr = true) → o.testBit lr = true) ∧
    (l.foldl (fun c lr => c.issueMrr n lr) c).out = c.out ++ l.map (fun lr => .dram n (.mrr lr) (c.parLevel (.mrr lr))) ∧
    ∀ k, (l.foldl (fun c lr => c.issueMrr n lr) c).get k = c.get k := by
  induction l generalizing c with
  | nil => exact ⟨_, _, rfl, fun lr h => h.resolve_left List.not_mem_nil, (List.append_nil _).symm, fun _ => rfl⟩
  | cons x l ih =>
    obtain ⟨d, o, h1, h2, h3, h4, h5⟩ := issueMrr_facts c n x
    obtain ⟨d', o', g1, g2, g3, g4⟩ := ih (c.issueMrr n x)
    rw [h1] at g1 g2
    refine ⟨d', o', g1, fun lr hlr => g2 lr ?_, ?_, fun k => (g4 k).trans (h5 k)⟩
    · rcases hlr with hlr | hlr
      · rcases List.mem_cons.1 hlr with hlr | hlr
        · rw [hlr]
          exact .inr h2
        · exact .inl hlr
      · exact .inr (h3 lr hlr)
    · have hmap : l.map (fun lr => Out.dram n (.mrr lr) ((c.issueMrr n x).parLevel (.mrr lr))) =
          l.map fun lr => .dram n (.mrr lr) (c.parLevel (.mrr lr)) :=
        List.map_congr_left fun lr _ => by rw [parLevel_congr (h5 _)]
      rw [List.foldl_cons, g3, h4, hmap, List.map_cons, List.append_assoc]
      rfl

/-- The controller as its rank's exit begins. -/
def exiting (m : McState) : McState :=
  { m with debt := (List.range 8).map fun lr => (lr, 1), srWhy := 0, srExiting := false, srEntering := false,
           rows := [], fresh := [], streak := [] }

theorem debt_exiting (m : McState) : ∀ lr < 8, (exiting m).debt.num lr = 1 := fun lr h => by
  have hall : ∀ lr < 8, Tbl.num ((List.range 8).map fun lr => (lr, 1)) lr = 1 := by decide
  exact hall lr h

theorem beginExit_eq (c : Core) (n : Nat) : c.beginExit n =
    { (List.range 8).foldl (fun c lr => c.issueMrr n lr) (((c.order n (.srExit 0)).order n (.srExit 1)).updMc n exiting)
      with srQueue := c.srQueue.filter (· != n), srBegins := (c.srBegins.filter fun t => c.tick < t + 500) ++ [c.tick] } := by
  rw [beginExit]
  rfl

theorem beginExit_facts (c : Core) (n : Nat) : (∀ lr < 8, ((c.beginExit n).mcOf n).debt.num lr = 1) ∧
    (∀ lr < 8, ((c.beginExit n).mcOf n).mrrOut.testBit lr = true) ∧ ((c.beginExit n).mcOf n).srWhy = 0 ∧
    ((c.beginExit n).mcOf n).srExiting = false ∧ (c.beginExit n).srQueue = c.srQueue.filter (· != n) ∧
    (c.beginExit n).out = c.out ++ ([.dram n (.srExit 0) (c.parLevel (.srExit 0)), .dram n (.srExit 1) (c.parLevel (.srExit 1))] ++
      (List.range 8).map fun lr => .dram n (.mrr lr) (c.parLevel (.mrr lr))) := by
  obtain ⟨o1, -, -, -, o5, o6⟩ := order_facts c n (.srExit 0)
  obtain ⟨p1, -, -, -, p5, p6⟩ := order_facts (c.order n (.srExit 0)) n (.srExit 1)
  have heq := beginExit_eq c n
  generalize (c.order n (.srExit 0)).order n (.srExit 1) = b at heq p1 p5 p6
  obtain ⟨m, hm⟩ : ∃ m, m = exiting (b.mcOf n) := ⟨_, rfl⟩
  rw [updMc, ← hm] at heq
  obtain ⟨x, o, g1, g2, g3, g4⟩ := issueMrrs_facts (List.range 8) (b.setMc n m) n
  have hget : ∀ k, (b.setMc n m).get k = c.get k := fun k => by rw [get_setMc, p6, o6]
  rw [mcOf_setMc_self] at g1
  rw [out_setMc, p5, o5, parLevel_congr (o6 _)] at g3
  generalize (List.range 8).foldl (fun c lr => c.issueMrr n lr) (b.setMc n m) = a at heq g1 g3 g4
  have hmc : (c.beginExit n).mcOf n = a.mcOf n := by rw [heq, mcOf, mcOf]
  have hout : (c.beginExit n).out = a.out := by rw [heq]
  refine ⟨fun lr h => ?_, fun lr h => ?_, ?_, ?_, by rw [heq], ?_⟩
  · rw [hmc, g1, hm]
    exact debt_exiting (b.mcOf n) lr h
  · rw [hmc, g1]
    exact g2 lr (.inl (List.mem_range.2 h))
  · rw [hmc, g1, hm]
    rfl
  · rw [hmc, g1, hm]
    rfl
  · have hmap : (List.range 8).map (fun lr => Out.dram n (.mrr lr) ((b.setMc n m).parLevel (.mrr lr))) =
        (List.range 8).map fun lr => .dram n (.mrr lr) (c.parLevel (.mrr lr)) :=
      List.map_congr_left fun lr _ => by rw [parLevel_congr (hget _)]
    rw [hout, g3, hmap, List.append_assoc, List.append_assoc]
    rfl

theorem endExit_facts (c : Core) (n : Nat) : (c.endExit n).get (Obj.Sc.STATE n) = 0 ∧ (c.endExit n).mc = c.mc ∧
    (c.endExit n).srQueue = c.srQueue ∧ (c.endExit n).out = c.out := by
  unfold endExit
  dsimp only
  split
  · have hs := sluiceOnly_release (c.put (Obj.Sc.STATE n) 0) Ck.srExit n
    exact ⟨(hs.get (by simp [isSluiceKey]; omega)).trans (get_put_self _ _ _), hs.mc, hs.srQueue, hs.out⟩
  · exact ⟨get_put_self _ _ _, rfl, rfl, rfl⟩

/-- The core after an exit with nothing left to answer. -/
def exited (c : Core) (n : Nat) : Core := ((c.beginExit n).endExit n).updMc n fun m => { m with held := false }

theorem selfRefreshExit_eq (mem : Memory) (hst : c.scState n = 2) (hx : (c.mcOf n).srExiting = true) (hmay : c.exitMayBegin n = true)
    (hlow : (c.ddrOf n).alertLow = false) (howed : (c.ddrOf n).alertOwed = false) (hstart : c.start = none)
    (hheld : (c.mcOf n).held = false) (hoff : (c.mcOf n).offAfter = false) :
    c.selfRefreshExit mem n = ((c.exited n).autoState, mem) := by
  rw [selfRefreshExit, if_neg (by rw [hst, hx, hmay, hlow]; decide)]
  dsimp only
  rw [hoff, hheld, hstart, leaveRest]
  dsimp only
  rw [howed]
  rfl

theorem exited_facts (c : Core) (n : Nat) : (c.exited n).get (Obj.Sc.STATE n) = 0 ∧ (∀ lr < 8, ((c.exited n).mcOf n).debt.num lr = 1) ∧
    (∀ lr < 8, ((c.exited n).mcOf n).mrrOut.testBit lr = true) ∧ ((c.exited n).mcOf n).srWhy = 0 ∧
    ((c.exited n).mcOf n).srExiting = false ∧ (c.exited n).srQueue = c.srQueue.filter (· != n) ∧
    (c.exited n).out = c.out ++ ([.dram n (.srExit 0) (c.parLevel (.srExit 0)), .dram n (.srExit 1) (c.parLevel (.srExit 1))] ++
      (List.range 8).map fun lr => .dram n (.mrr lr) (c.parLevel (.mrr lr))) := by
  obtain ⟨b1, b2, b3, b4, b5, b6⟩ := beginExit_facts c n
  have heq : c.exited n = ((c.beginExit n).endExit n).updMc n fun m => { m with held := false } := rfl
  generalize c.beginExit n = a at heq b1 b2 b3 b4 b5 b6
  obtain ⟨e1, e2, e3, e4⟩ := endExit_facts a n
  have hmc : (a.endExit n).mcOf n = a.mcOf n := by rw [mcOf, e2, ← mcOf]
  generalize a.endExit n = g at heq e1 e3 e4 hmc
  have hmc' : (c.exited n).mcOf n = { a.mcOf n with held := false } := by rw [heq, updMc, mcOf_setMc_self, hmc]
  refine ⟨by rw [heq, updMc, get_setMc, e1], by rw [hmc']; exact b1, by rw [hmc']; exact b2, by rw [hmc']; exact b3,
    by rw [hmc']; exact b4, ?_, by rw [heq, updMc, out_setMc, e4, b6]⟩
  rw [heq, ← b5, ← e3]
  rfl

/-! ## A new address map (R166) -/

theorem dropQueued_writes (c : Core) {n : Nat} (hn : n < 32) : (c.dropQueued.mcOf n).writes = [] :=
  each_at (fun c => (c.mcOf n).writes) (fun _ => []) _ hn
    (fun c j _ hj => by rw [updMc, mcOf_setMc_ne _ _ (Ne.symm hj)]) (fun c => by rw [updMc, mcOf_setMc_self]) c

theorem dropQueued_get (c : Core) (k : Nat) : c.dropQueued.get k = c.get k :=
  each_induct (fun d => d.get k = c.get k) 32 _ c rfl fun d i _ h => by rw [updMc, get_setMc, h]

end Core
end Sys2Proof.Machine
end

section
/-! PROOFS. The statement about memory at rest (07_memory_controller.md R166, R183, R185, R186). -/

namespace Sys2Proof.Machine

variable {s : State} {sc : ScNo}

/-- A command of the hub that leaves DRAM as it stands. -/
theorem answersThen_onHubMem {i : Instr} {P : Core → Prop} {d : Core} (f : Core → Memory → Core × Memory)
    (hi : exec i s = .next (s.onHubMem f)) (hu : s.core.hubUp = true) (hf : f s.clear.core s.mem = (d, s.mem)) (hp : P d) :
    AnswersThen i s P := by
  refine ⟨d, ?_, hp⟩
  have hact : s.onHubMem f = ({ s.clear with core := (f s.clear.core s.mem).1, mem := (f s.clear.core s.mem).2 } : State).settle := by
    rw [State.onHubMem, State.when, hu]
    rfl
  rw [hi, hact, hf]
  rfl

theorem admitted_addrMap (s : State) (w : World) (bs : List Byte) :
    s.admitted w (Obj.Mc.ADDR_MAP / 256) (Obj.Mc.ADDR_MAP % 256) bs = s.writeMap (ofBytes bs) := by
  rw [State.admitted, if_neg (by decide), if_pos (by decide)]

theorem writeMap_eq (s : State) (v : Nat) : s.writeMap v = (.ok, s.newMap (s.core.store Obj.Mc.ADDR_MAP v)) := by rw [State.writeMap]

/-- What a state that takes a map holds. -/
theorem newMap_facts (s : State) (a : Core) : (s.newMap a).core.addrMap = a.addrMap ∧
    (s.newMap a).mem = (if a.addrMap = s.core.addrMap then s.mem else s.mem.loseAll) ∧
    (a.addrMap ≠ s.core.addrMap → ∀ n < 32, ((s.newMap a).core.mcOf n).writes = []) ∧
    (∀ k, (s.newMap a).core.get k = a.get k) ∧ (s.newMap a).fuses = s.fuses ∧ (s.newMap a).latch = s.latch := by
  unfold State.newMap
  split
  · next h => exact ⟨rfl, rfl, fun hne => absurd h hne, fun _ => rfl, rfl, rfl⟩
  · exact ⟨Core.dropQueued_get a _, rfl, fun _ n hn => Core.dropQueued_writes a hn, Core.dropQueued_get a, rfl, rfl⟩

theorem memoryRest_map {w : World} {v : BitVec 8} (hadm : Admits s w Obj.Mc.ADDR_MAP v.toNat) :
    AnswersAll (.addrMapWrite w v) s fun u =>
      Out.status .ok ∈ u.core.out ∧ u.core.addrMap = v.toNat ∧
      u.mem = (if v.toNat = s.core.addrMap then s.mem else s.mem.loseAll) ∧
      (v.toNat ≠ s.core.addrMap → ∀ n < 32, (u.core.mcOf n).writes = []) ∧
      (∀ k, k ≠ Obj.Mc.ADDR_MAP → u.core.get k = s.core.get k) ∧ u.fuses = s.fuses ∧ u.latch = s.latch := by
  have hw : s.clear.admitted w (Obj.Mc.ADDR_MAP / 256) (Obj.Mc.ADDR_MAP % 256) (toBytes (sizeOf Obj.Mc.ADDR_MAP) v.toNat) =
      (.ok, s.clear.newMap (s.clear.core.store Obj.Mc.ADDR_MAP v.toNat)) := by
    rw [admitted_addrMap, ofBytes_toBytes_of_fits hadm.2.1, writeMap_eq]
  have hrun := State.writeNum_of_admitted hadm (by decide +kernel) hw
  have hmap : (s.clear.core.store Obj.Mc.ADDR_MAP v.toNat).addrMap = v.toNat := Core.get_store_self _ _
  have hget : ∀ k, k ≠ Obj.Mc.ADDR_MAP → (s.clear.core.store Obj.Mc.ADDR_MAP v.toNat).get k = s.core.get k := fun k hk =>
    (Core.get_store_ne _ hk).trans (State.clear_get s k)
  generalize s.clear.core.store Obj.Mc.ADDR_MAP v.toNat = a at hmap hget hrun
  obtain ⟨h1, h2, h3, h4, h5, h6⟩ := newMap_facts s.clear a
  rw [hmap] at h1 h2 h3
  generalize s.clear.newMap a = u at hrun h1 h2 h3 h4 h5 h6
  exact ⟨_, congrArg _ hrun, by simp, h1, h2, h3, fun k hk => (h4 k).trans (hget k hk), h5, h6⟩

/-- Settles O35: what the entry into power-down, the entry into self-refresh, its exit and a new address map each leave. -/
theorem memoryRest : Obligations.MemoryRest := by
  unfold Obligations.MemoryRest
  refine ⟨fun s sc pr hup hpd hmay hst hbit hidle hlease => ?_, fun s sc hup hat hent hst hdr hmay hrep hcap hfl => ?_,
    fun s sc hup hat hstop hwin hwhy => ?_, fun s sc hup hat harr => ?_,
    fun s sc hup hst hx hmay hlow howed hstart hheld hoff => ?_, fun s w v hadm => memoryRest_map hadm⟩
  · obtain ⟨h1, h2, h3, h4, h5, h6⟩ := Core.enterPowerDown_facts s.clear.core sc.val pr.val
    have heq := Core.powerDownEntry_eq (c := s.clear.core) hpd hmay hst hbit hidle hlease
    refine answersCore_onHub (fun c => c.powerDownEntry sc.val pr.val) rfl hup (by rw [heq, h5]; rfl) ?_
    rw [heq]
    exact ⟨h1, h2, h3, fun b hb _ => h4 b hb, h6⟩
  · obtain ⟨h1, h2, h3, h4, ⟨l, h5⟩, h6, h7⟩ := Core.beginEntry_facts (c := s.clear.core) (n := sc.val) hfl
    have heq := Core.selfRefreshEntry_begin (c := s.clear.core) hat hent hst hdr hmay hrep hcap
    refine answersCore_onHub (fun c => c.selfRefreshEntry sc.val) rfl hup (by rw [heq, h7]; rfl) ?_
    rw [heq]
    exact ⟨h1, h2, h3, h4, ⟨l, h5⟩, h6⟩
  · obtain ⟨h1, h2, h3, h4, h5, h6, h7, h8⟩ := Core.rested_facts s.clear.core sc.val
    have heq := (Core.selfRefreshEntry_finish (c := s.clear.core) hat).trans (Core.finishEntry_eq hat hstop hwin hwhy)
    refine answersCore_onHub (fun c => c.selfRefreshEntry sc.val) rfl hup (by rw [heq, h7]; rfl) ?_
    rw [heq]
    exact ⟨h1, h2, h3, h4, h5, h6, h8⟩
  · have heq := Core.selfRefreshEntry_waits (c := s.clear.core) hat harr
    exact exec_of_onHub_unchanged (f := fun c => c.selfRefreshEntry sc.val) heq rfl
  · have heq := Core.selfRefreshExit_eq (c := s.clear.core) s.mem hst hx hmay hlow howed hstart hheld hoff
    obtain ⟨h1, h2, h3, h4, h5, h6, h7⟩ := Core.exited_facts s.clear.core sc.val
    obtain ⟨⟨l, a1⟩, a2, a3, a4⟩ := Core.autoState_facts (s.clear.core.exited sc.val)
    refine answersThen_onHubMem (fun c m => c.selfRefreshExit m sc.val) rfl hup heq ?_
    generalize (s.clear.core.exited sc.val).autoState = d at a1 a2 a3 a4
    generalize s.clear.core.exited sc.val = g at h1 h2 h3 h4 h5 h6 h7 a1 a2 a3 a4
    have hmc : d.mcOf sc.val = g.mcOf sc.val := by rw [Core.mcOf, a2, ← Core.mcOf]
    refine ⟨by rw [a4 _ (by simp [Core.devKey]; omega), h1], by rw [hmc]; exact h2, by rw [hmc]; exact h3, by rw [hmc]; exact h4,
      by rw [hmc]; exact h5, a3.trans h6, ⟨l, ?_⟩⟩
    rw [a1, h7]
    rfl

end Sys2Proof.Machine
end

section
/-! PROOFS. Accumulation contexts: start, stop, OP, CLOSE_NOW and the end of a close (05_millstone_accumulation.md R120 to R124,
R130, R132 to R136). -/

namespace Sys2Proof.Machine

namespace Core

variable {c d : Core} {x : Nat} {w : World} {f : Frame}

/-! ## Writing a frame (R133) -/

theorem memOnly_writeHead (c : Core) (x : Nat) : c.MemOnly (c.writeHead x) := by
  unfold writeHead
  split
  · exact MemOnly.refl c
  · split
    · exact memOnly_foldl _ (fun c b => memOnly_ite (MemOnly.refl c) (memOnly_request c _)) c
    · exact MemOnly.refl c

/-- The frame that a close puts among those in close. -/
def shortened (short : Bool) (f : Frame) : Frame := if short then { f with flags := setBitTo 2 true f.flags } else f

/-- A context whose open frame closes. -/
def ctxClosing (f : Frame) (short next : Bool) (s : CtxState) : CtxState :=
  { s with closing := s.closing ++ [shortened short f], frame := if next then some (Frame.fresh (f.k + 1)) else none }

/-- The core of a close before its oldest frame is written. -/
def closedFrame (c : Core) (x : Nat) (f : Frame) (short next : Bool) : Core :=
  let c1 := c.updCtx x (ctxClosing f short next)
  let c2 := if short then c1.flag (Obj.Context.FLAGS x) 1 else c1
  if next then c2.put (Obj.Context.FRAME x) (f.k + 1) else c2

theorem closedFrame_facts (c : Core) (x : Nat) (f : Frame) (short next : Bool) :
    (c.closedFrame x f short next).ctxOf x = ctxClosing f short next (c.ctxOf x) ∧
    ∀ k, k ≠ Obj.Context.FLAGS x → k ≠ Obj.Context.FRAME x → (c.closedFrame x f short next).get k = c.get k := by
  unfold closedFrame
  refine ⟨?_, fun k h1 h2 => ?_⟩
  · cases short <;> cases next <;> simp [flag]
  · cases short <;> cases next
    · rfl
    · exact get_put_ne _ _ h2
    · exact get_flag_ne _ _ h1
    · exact (get_put_ne _ _ h2).trans (get_flag_ne _ _ h1)

theorem closeFrame_eq (h : (c.ctxOf x).frame = some f) (short next : Bool) : c.closeFrame x short next =
    if (c.ctxOf x).closing.isEmpty then (c.closedFrame x f short next).writeHead x else c.closedFrame x f short next := by
  rw [closeFrame, h]
  rfl

/-- What a close leaves of the context and its registers. -/
theorem closeFrame_facts (hx : x < 128) (h : (c.ctxOf x).frame = some f) (short next : Bool) :
    (c.closeFrame x short next).ctxOf x = ctxClosing f short next (c.ctxOf x) ∧
    ∀ sub < 256, (c.closeFrame x short next).get ((0x3000 + x) * 256 + sub) = (c.closedFrame x f short next).get ((0x3000 + x) * 256 + sub) := by
  rw [closeFrame_eq h]
  obtain ⟨h1, -⟩ := closedFrame_facts c x f short next
  split
  · have hm := memOnly_writeHead (c.closedFrame x f short next) x
    exact ⟨(hm.ctxOf x).trans h1, fun sub hsub => hm.get (by simp only [isMemKey, isSluiceKey]; omega)⟩
  · exact ⟨h1, fun _ _ => rfl⟩

/-! ## Start (R121 to R124, R132) -/

theorem startRefusal_region {g : CtxCfg} (h : c.startRefusal g x w = none) : g.region < 1024 := by
  by_contra hge
  unfold startRefusal at h
  rw [if_neg (show ¬ g.region ≤ 1023 by omega)] at h
  have hzero : (0 : Nat) ≠ (if g.op = 3 then 4 else 3) := by split <;> decide
  simp only [if_pos hzero] at h
  repeat (split at h; · exact absurd h (by simp))
  exact absurd h (by simp)

theorem bindRegion_keeps {g : CtxCfg} (hr : g.region < 1024) : Keeps (fun k => k < 0x230000 ∨ 0x270000 ≤ k) c (c.bindRegion x g) := by
  have hput : ∀ (c : Core) (r sub v : Nat), r < 1024 → sub < 256 →
      Keeps (fun k => k < 0x230000 ∨ 0x270000 ≤ k) c (c.put ((0x2300 + r) * 256 + sub) v) := fun c r sub v hr hs k hk =>
    get_put_ne c v (by rcases hk with hk | hk <;> omega)
  unfold bindRegion
  refine (((keeps_foldl _ _ _ (fun c r hr => ?_) c).trans (hput _ _ _ _ hr (by decide))).trans (hput _ _ _ _ hr (by decide))).trans
    (hput _ _ _ _ hr (by decide))
  have hlt := List.mem_range.1 hr
  exact keeps_ite _ (fun _ => ((hput _ _ _ _ hlt (by decide)).trans (hput _ _ _ _ hlt (by decide))).trans (hput _ _ _ _ hlt (by decide)))
    fun _ => Keeps.refl _ c

theorem bindRegion_binds (c : Core) (x : Nat) (g : CtxCfg) : (c.bindRegion x g).get (Obj.Region.CONTEXT g.region) = x := by
  unfold bindRegion
  rw [get_put_ne _ _ (by simp), get_put_ne _ _ (by simp), get_put_self]

/-- The state of a context at its start. -/
def ctxFresh (g : CtxCfg) (k : Nat) (s : CtxState) : CtxState :=
  { s with frame := some (Frame.fresh k), closing := [], row := g.startRow + k * g.nrows, samples := [], released := 0,
           closeNow := false, closed := [], newest := none, applied := [] }

/-- The context's registers at a start, and its region's. -/
def ctxStarted (c : Core) (x k mw : Nat) (g : CtxCfg) : Core :=
  (((((c.put (Obj.Context.STATE x) 1).put (Obj.Context.START x) 1).put (Obj.Context.FRAME x) k).put (Obj.Context.CREDIT_MW x)
    mw).bindRegion x g).updCtx x (ctxFresh g k)

/-- A context that is IDLE, whose START no rule refuses and whose credit is granted. -/
theorem startCtx_eq (hst : c.get (Obj.Context.STATE x) = 0) (hok : c.startRefusal (c.cfgOf x) x w = none)
    (hadm : c.admits (c.ctxCredit (c.cfgOf x)) = true) : ∃ d : Core, c.startCtx x w = (.ok,
      d.ctxStarted x (c.firstFrame (c.cfgOf x)) (c.ctxCredit (c.cfgOf x)) (c.cfgOf x)) := by
  have hask := askNow_of_admits c Ck.context x hadm
  unfold startCtx
  generalize c.ctxCredit = credit at hask ⊢
  generalize c.askNow = ask at hask ⊢
  as_aux_lemma =>
    rw [hst]
    dsimp only
    rw [hok, hask]
    exact ⟨_, rfl⟩

theorem ctxStarted_facts (hx : x < 128) (g : CtxCfg) (hr : g.region < 1024) (k mw : Nat) :
    (c.ctxStarted x k mw g).get (Obj.Context.STATE x) = 1 ∧ (c.ctxStarted x k mw g).get (Obj.Context.START x) = 1 ∧
    (c.ctxStarted x k mw g).get (Obj.Context.FRAME x) = k ∧ (c.ctxStarted x k mw g).get (Obj.Context.CREDIT_MW x) = mw ∧
    (c.ctxStarted x k mw g).get (Obj.Region.CONTEXT g.region) = x ∧
    ((c.ctxStarted x k mw g).ctxOf x).frame = some (Frame.fresh k) := by
  unfold ctxStarted
  obtain ⟨a, ha⟩ : ∃ a, a = (((c.put (Obj.Context.STATE x) 1).put (Obj.Context.START x) 1).put (Obj.Context.FRAME x) k).put
    (Obj.Context.CREDIT_MW x) mw := ⟨_, rfl⟩
  rw [← ha]
  have hkeep := bindRegion_keeps (c := a) (x := x) hr
  have hget : ∀ sub < 256, ((a.bindRegion x g).updCtx x (ctxFresh g k)).get ((0x3000 + x) * 256 + sub) = a.get ((0x3000 + x) * 256 + sub) :=
    fun sub hs => by
      rw [get_updCtx]
      exact hkeep _ (.inr (by omega))
  refine ⟨(hget 1 (by decide)).trans ?_, (hget 2 (by decide)).trans ?_, (hget 0x18 (by decide)).trans ?_,
    (hget 0x16 (by decide)).trans ?_, ?_, ?_⟩
  · rw [ha, get_put_ne _ _ (by simp), get_put_ne _ _ (by simp), get_put_ne _ _ (by simp), get_put_self]
  · rw [ha, get_put_ne _ _ (by simp), get_put_ne _ _ (by simp), get_put_self]
  · rw [ha, get_put_ne _ _ (by simp), get_put_self]
  · rw [ha]
    exact get_put_self _ _ _
  · rw [get_updCtx, bindRegion_binds]
  · rw [ctxOf_updCtx_self, ctxFresh]

/-! ## Stop (R124) -/

/-- The open frame of a context that stops: dropped where it has no row, else closed. -/
def dropOpen (c : Core) (x : Nat) : Core :=
  match (c.ctxOf x).frame with
  | some f =>
    if f.used = 0 then { (c.updCtx x fun s => { s with frame := none }) with cache := c.cache.filter fun l => !(l.x == x && l.k == f.k) }
    else c.closeFrame x true false
  | none => c

/-- The row in hand, decided where the stop finds one. -/
def decideOpen (c : Core) (x : Nat) : Core :=
  let g := c.cfgOf x
  let spec := c.get (Obj.Stream.SPECLEN g.stream)
  let s := c.ctxOf x
  if s.row * spec < c.get (Obj.Stream.NEXT_INDEX g.stream) && s.frame.isSome
      && (match s.frame with | some f => s.row < g.startRow + (f.k + 1) * g.nrows | none => false)
  then c.decideRow x else c

theorem stopCtx_eq (hst : c.get (Obj.Context.STATE x) = 1) : c.stopCtx x =
    ((((c.decideOpen x).put (Obj.Context.STATE x) 2).put (Obj.Context.START x) 0).dropOpen x).ctxIdle x := by
  rw [stopCtx, if_neg (by rw [hst]; decide)]
  rfl

theorem dropOpen_get (hx : x < 128) {sub : Nat} (hsub : sub < 3) : (c.dropOpen x).get ((0x3000 + x) * 256 + sub) = c.get ((0x3000 + x) * 256 + sub) := by
  unfold dropOpen
  split
  · next f hf =>
    split
    · rfl
    · rw [(closeFrame_facts hx hf true false).2 sub (by omega)]
      exact (closedFrame_facts c x f true false).2 _ (by simp; omega) (by simp; omega)
  · rfl

theorem stopCtx_facts (hx : x < 128) (hst : c.get (Obj.Context.STATE x) = 1) : (c.stopCtx x).get (Obj.Context.START x) = 0 ∧
    ((c.stopCtx x).get (Obj.Context.STATE x) = 2 ∨ (c.stopCtx x).get (Obj.Context.STATE x) = 0 ∧ ((c.stopCtx x).ctxOf x).closing = []) := by
  rw [stopCtx_eq hst]
  obtain ⟨a, ha⟩ : ∃ a, a = (c.decideOpen x).put (Obj.Context.STATE x) 2 := ⟨_, rfl⟩
  have hstate : ((a.put (Obj.Context.START x) 0).dropOpen x).get (Obj.Context.STATE x) = 2 := by
    refine (dropOpen_get hx (sub := 1) (by decide)).trans ?_
    rw [get_put_ne _ _ (by simp), ha, get_put_self]
  have hstart : ((a.put (Obj.Context.START x) 0).dropOpen x).get (Obj.Context.START x) = 0 :=
    (dropOpen_get hx (sub := 2) (by decide)).trans (get_put_self _ _ _)
  rw [← ha]
  generalize (a.put (Obj.Context.START x) 0).dropOpen x = b at hstate hstart
  unfold ctxIdle
  split
  · next h =>
    have hs := sluiceOnly_release ((b.put (Obj.Context.STATE x) 0).put (Obj.Context.CREDIT_MW x) 0) Ck.context x
    refine ⟨?_, .inr ⟨?_, ?_⟩⟩
    · rw [hs.get (by simp [isSluiceKey]; omega), get_put_ne _ _ (by simp), get_put_ne _ _ (by simp), hstart]
    · rw [hs.get (by simp [isSluiceKey]; omega), get_put_ne _ _ (by simp), get_put_self]
    · rw [hs.ctxOf]
      exact List.isEmpty_iff.1 (Bool.and_eq_true_iff.1 h).2
  · exact ⟨hstart, .inl hstate⟩

theorem waterKeeps_context {sub : Nat} (hx : x < 128) (hsub : sub < 16) : waterKeeps ((0x3000 + x) * 256 + sub) := by
  refine ⟨by simp; omega, by simp; omega, fun st => by simp; omega, by simp only [isFcKey]; omega⟩

/-! ## CLOSE_NOW (R133) and the end of a close (R134 to R136) -/

theorem closeNow_waits (hst : c.get (Obj.Context.STATE x) = 1) (hs : (c.ctxOf x).samples ≠ []) :
    c.closeNow x = (.ok, c.updCtx x fun s => { s with closeNow := true }) := by
  rw [closeNow, if_neg (by rw [hst]; decide)]
  exact if_pos (by simp [hs])

theorem closeNow_closes (hst : c.get (Obj.Context.STATE x) = 1) (hs : (c.ctxOf x).samples = []) (hr : (c.ctxOf x).released = 0)
    (hf : (c.ctxOf x).frame = some f) : c.closeNow x =
      (.ok, (c.closeFrame x true true).updCtx x fun t => { t with row := (c.cfgOf x).startRow + (f.k + 1) * (c.cfgOf x).nrows }) := by
  rw [closeNow, if_neg (by rw [hst]; decide)]
  dsimp only
  rw [if_neg (by rw [hs, hr]; decide), hf]

theorem closeNow_facts (hx : x < 128) (hf : (c.ctxOf x).frame = some f) (r : Nat) :
    ((c.closeFrame x true true).updCtx x fun t => { t with row := r }).get (Obj.Context.FRAME x) = f.k + 1 ∧
    ((c.closeFrame x true true).updCtx x fun t => { t with row := r }).bitOf (Obj.Context.FLAGS x) 1 = true ∧
    (((c.closeFrame x true true).updCtx x fun t => { t with row := r }).ctxOf x).closing =
      (c.ctxOf x).closing ++ [{ f with flags := setBitTo 2 true f.flags }] ∧
    (((c.closeFrame x true true).updCtx x fun t => { t with row := r }).ctxOf x).frame = some (Frame.fresh (f.k + 1)) := by
  obtain ⟨h1, h2⟩ := closeFrame_facts hx hf true true
  have hframe := h2 0x18 (by decide)
  have hflags := h2 0x17 (by decide)
  generalize c.closeFrame x true true = a at h1 hframe hflags
  refine ⟨?_, ?_, ?_, ?_⟩
  · rw [get_updCtx]
    exact hframe.trans (get_put_self _ _ _)
  · rw [bitOf_congr 1 ((get_updCtx _ _ _ _).trans hflags)]
    exact (bitOf_congr 1 (get_put_ne _ _ (by simp))).trans (bitOf_flag_self _ _ _)
  · rw [ctxOf_updCtx_self, h1]
    rfl
  · rw [ctxOf_updCtx_self, h1]
    rfl

/-- A context whose oldest frame in close is published. -/
def ctxPublished (slot gen sum : Nat) (rest : List Frame) (s : CtxState) : CtxState :=
  { s with closing := rest, gen := gen, newest := some slot, closed := s.closed.setNum slot sum }

/-- A frame is published. -/
def framePublished (c : Core) (x slot gen sum : Nat) (f : Frame) (rest : List Frame) : Core :=
  ((((c.updCtx x (ctxPublished slot gen sum rest)).withCache
    (c.cache.filter fun l => !(l.x == x && l.k == f.k))).put (Obj.Context.SUMMARY x slot) sum).put (Obj.Context.LAST_SUMMARY x) sum).flag
      (Obj.Context.FLAGS x) 0

theorem frameClosed_eq {rest : List Frame} (hcl : (c.ctxOf x).closing = f :: rest) (hbad : f.bad = []) (hfill : f.filling = [])
    (hw : c.frameWaits x f.k = false) : c.frameClosed x =
      (let d := c.framePublished x (f.k % c.get (Obj.Context.NFRAMES x)) (nextGen (c.ctxOf x).gen)
        (c.frameSummary x f (nextGen (c.ctxOf x).gen)) f rest
      if rest = [] then d.ctxIdle x else d.writeHead x) := by
  rw [frameClosed, hcl]
  dsimp only
  rw [hbad, hfill, hw]
  simp only [List.isEmpty_nil, Bool.not_true, Bool.or_self, Bool.false_eq_true, if_false, if_true]
  cases rest with
  | nil => rw [if_pos rfl, framePublished]; rfl
  | cons r rest => rw [if_neg (List.cons_ne_nil r rest), framePublished]; rfl

theorem framePublished_facts (c : Core) {x slot : Nat} (gen sum : Nat) (f : Frame) (rest : List Frame) (hslot : slot < 4) :
    ((c.framePublished x slot gen sum f rest).ctxOf x).gen = gen ∧ ((c.framePublished x slot gen sum f rest).ctxOf x).closing = rest ∧
    (c.framePublished x slot gen sum f rest).get (Obj.Context.LAST_SUMMARY x) = sum ∧
    (c.framePublished x slot gen sum f rest).get (Obj.Context.SUMMARY x slot) = sum ∧
    (c.framePublished x slot gen sum f rest).bitOf (Obj.Context.FLAGS x) 0 = true := by
  have hctx : (c.framePublished x slot gen sum f rest).ctxOf x =
      ctxPublished slot gen sum rest (c.ctxOf x) := ctxOf_updCtx_self c x (ctxPublished slot gen sum rest)
  refine ⟨by rw [hctx, ctxPublished], by rw [hctx, ctxPublished], ?_, ?_, bitOf_flag_self _ _ _⟩
  · rw [framePublished, get_flag_ne _ _ (by simp), get_put_self]
  · rw [framePublished, get_flag_ne _ _ (by simp; omega), get_put_ne _ _ (by simp; omega), get_put_self]

/-- What follows the publication leaves the context's results. -/
theorem afterPublish (hx : x < 128) (b : Prop) [Decidable b] : (if b then c.ctxIdle x else c.writeHead x).ctxOf x = c.ctxOf x ∧
    ∀ sub, 0x17 ≤ sub → sub < 256 → (if b then c.ctxIdle x else c.writeHead x).get ((0x3000 + x) * 256 + sub) = c.get ((0x3000 + x) * 256 + sub) := by
  split
  · unfold ctxIdle
    split
    · have hs := sluiceOnly_release ((c.put (Obj.Context.STATE x) 0).put (Obj.Context.CREDIT_MW x) 0) Ck.context x
      refine ⟨hs.ctxOf x, fun sub h1 h2 => ?_⟩
      rw [hs.get (by simp only [isSluiceKey]; omega), get_put_ne _ _ (by simp; omega), get_put_ne _ _ (by simp; omega)]
    · exact ⟨rfl, fun _ _ _ => rfl⟩
  · have hm := memOnly_writeHead c x
    exact ⟨hm.ctxOf x, fun sub h1 h2 => hm.get (by simp only [isMemKey, isSluiceKey]; omega)⟩

theorem frameClosed_facts {rest : List Frame} (hx : x < 128) (hcl : (c.ctxOf x).closing = f :: rest) (hbad : f.bad = [])
    (hfill : f.filling = []) (hw : c.frameWaits x f.k = false) (hslot : f.k % c.get (Obj.Context.NFRAMES x) < 4) :
    ((c.frameClosed x).ctxOf x).gen = nextGen (c.ctxOf x).gen ∧ ((c.frameClosed x).ctxOf x).closing = rest ∧
    (c.frameClosed x).get (Obj.Context.LAST_SUMMARY x) = c.frameSummary x f (nextGen (c.ctxOf x).gen) ∧
    (c.frameClosed x).get (Obj.Context.SUMMARY x (f.k % c.get (Obj.Context.NFRAMES x))) = c.frameSummary x f (nextGen (c.ctxOf x).gen) ∧
    (c.frameClosed x).bitOf (Obj.Context.FLAGS x) 0 = true := by
  have heq := frameClosed_eq hcl hbad hfill hw
  revert heq hslot
  generalize f.k % c.get (Obj.Context.NFRAMES x) = slot
  generalize c.frameSummary x f (nextGen (c.ctxOf x).gen) = sum
  generalize nextGen (c.ctxOf x).gen = gen
  intro hslot heq
  obtain ⟨h1, h2, h3, h4, h5⟩ := framePublished_facts c (x := x) gen sum f rest hslot
  dsimp only at heq
  generalize c.framePublished x slot gen sum f rest = d at heq h1 h2 h3 h4 h5
  obtain ⟨g1, g2⟩ := afterPublish (c := d) hx (rest = [])
  rw [← heq] at g1 g2
  exact ⟨by rw [g1, h1], by rw [g1, h2], (g2 0x24 (by decide) (by decide)).trans h3, (g2 (0x20 + slot) (by omega) (by omega)).trans h4,
    (bitOf_congr 0 (g2 0x17 (by decide) (by decide))).trans h5⟩

theorem writeOp_idle (hst : c.get (Obj.Context.STATE x) = 0) (op : Nat) : c.writeOp x op =
    (.ok, (c.put (Obj.Context.OP x) op).put (Obj.Context.EXCLUDE x) (if op = 0 then 0x11 else 0)) := by
  rw [writeOp, if_neg (by rw [hst]; decide)]

theorem WaterOnly.ctxOf (h : c.WaterOnly d) (i : Nat) : d.ctxOf i = c.ctxOf i := by rw [h, Core.ctxOf, Core.ctxOf]

theorem stopWater_facts (hx : x < 128) (hst : c.get (Obj.Context.STATE x) = 1) : (c.stopCtx x).water.get (Obj.Context.START x) = 0 ∧
    ((c.stopCtx x).water.get (Obj.Context.STATE x) = 2 ∨
      (c.stopCtx x).water.get (Obj.Context.STATE x) = 0 ∧ ((c.stopCtx x).water.ctxOf x).closing = []) := by
  obtain ⟨h1, h2⟩ := stopCtx_facts hx hst
  have hkeep := keeps_water (c.stopCtx x)
  rw [hkeep _ (waterKeeps_context (sub := 1) hx (by decide)), hkeep _ (waterKeeps_context (sub := 2) hx (by decide)),
    WaterOnly.ctxOf (waterOnly_water _)]
  exact ⟨h1, h2⟩

theorem writeValue_context (c : Core) (f : Fuses) (v : World) {x : Nat} (sub : Nat) (bs : List Byte) (h : x < 128) :
    c.writeValue f v (0x3000 + x) sub bs = c.writeContext x sub (ofBytes bs) v := by
  have hn : 0x3000 + x - 0x3000 = x := by omega
  simp (disch := omega) only [writeValue, Bool.and_eq_true, decide_eq_true_eq, if_neg, if_pos]
  rw [hn]

end Core

variable {s : State} {x : ContextNo} {w : World}

theorem context_parts (x : ContextNo) (sub : Nat) (h : sub < 256) : ((0x3000 + x.val) * 0x100 + sub) / 256 = 0x3000 + x.val ∧
    ((0x3000 + x.val) * 0x100 + sub) % 256 = sub := by omega

theorem clearableOf_context {sub : Nat} {r : Row} (hn : sub ≠ 0) (h : (⟨0x3000, 1, 128, 0, Obj.Context.rows⟩ : Group).row? sub = some r)
    (hrow : ∀ a b, r.chk ≠ .w1c a b) : clearableOf (0x3000 + x.val) sub = none :=
  clearableOf_of_lookup ((lookup_context hn x.isLt).trans h) hrow

/-- A write of a context's register. -/
theorem answersOk_context {i : Instr} {P : Core → Prop} {c : Core} {sub v : Nat} {r : Row} (hi : exec i s = .next (s.writeNum w ((0x3000 + x.val) * 0x100 + sub) v))
    (hadm : Admits s w ((0x3000 + x.val) * 0x100 + sub) v) (hs : sub < 256) (hn : sub ≠ 0)
    (h : (⟨0x3000, 1, 128, 0, Obj.Context.rows⟩ : Group).row? sub = some r) (hrow : ∀ a b, r.chk ≠ .w1c a b)
    (hw : s.clear.core.writeContext x.val sub v w = (.ok, c)) (hp : P (c.emit (.status .ok))) : AnswersOk i s P := by
  obtain ⟨hidx, hsub⟩ := context_parts x sub hs
  refine answersOk_writeNum hi hadm (by rw [hidx, hsub]; exact clearableOf_context hn h hrow) (by rw [hidx, hsub, coreObject]; omega) ?_ hp
  rw [hidx, hsub, Core.writeValue_context _ _ _ _ _ x.isLt, ofBytes_toBytes_of_fits hadm.2.1, hw]

theorem get_clear (s : State) : s.clear.core.get = s.core.get := rfl

theorem firstFrame_clear (s : State) (g : CtxCfg) : s.clear.core.firstFrame g = s.core.firstFrame g := by
  simp only [Core.firstFrame, State.clear_get]
  rfl

theorem ctxCredit_clear (s : State) (g : CtxCfg) : s.clear.core.ctxCredit g = s.core.ctxCredit g := by
  have hstream : s.clear.core.streamOf g.stream = s.core.streamOf g.stream := rfl
  simp only [Core.ctxCredit, Core.rateInForce, State.clear_get, hstream]

theorem startRefusal_clear (s : State) (g : CtxCfg) (x : Nat) (w : World) : s.clear.core.startRefusal g x w = s.core.startRefusal g x w := by
  unfold Core.startRefusal Core.regionSecure
  rw [get_clear]

theorem admits_clear (s : State) (mw : Nat) : s.clear.core.admits mw = s.core.admits mw := Core.admits_congr rfl (fun _ _ => rfl) mw

theorem writeContext_stop (c : Core) (x : Nat) (w : World) : c.writeContext x 2 0 w = (.ok, (c.stopCtx x).water) := by
  rw [Core.writeContext, if_pos rfl, if_neg (by decide)]
  rfl

theorem writeContext_start (c : Core) (x : Nat) (w : World) : c.writeContext x 2 1 w = c.startCtx x w := by
  rw [Core.writeContext, if_pos rfl, if_pos rfl]

theorem indexTime_clear (s : State) (st n : Nat) : s.clear.core.indexTime st n = s.core.indexTime st n := by
  have h1 : s.clear.core.streamOf = s.core.streamOf := rfl
  have h2 : s.clear.core.specOf = s.core.specOf := rfl
  have h3 : s.clear.core.timeValid = s.core.timeValid := rfl
  unfold Core.indexTime
  rw [h1, h2, h3]

theorem frameSummary_clear (s : State) (x : Nat) (f : Frame) (gen : Nat) : s.clear.core.frameSummary x f gen = s.core.frameSummary x f gen := by
  unfold Core.frameSummary Core.cfgOf
  simp only [indexTime_clear]
  rw [get_clear]

/-- A START that is accepted, in terms of the core it leaves. -/
theorem answersOk_started {e : Core} {k mw g : Nat} {f : Frame} (hadm : Admits s w (Obj.Context.START x.val) 1)
    (heq : s.clear.core.startCtx x.val w = (.ok, e))
    (h : e.get (Obj.Context.STATE x.val) = 1 ∧ e.get (Obj.Context.START x.val) = 1 ∧ e.get (Obj.Context.FRAME x.val) = k ∧
      e.get (Obj.Context.CREDIT_MW x.val) = mw ∧ e.get (Obj.Region.CONTEXT g) = x.val ∧ (e.ctxOf x.val).frame = some f) :
    AnswersOk (.contextStart x w) s fun c => c.get (Obj.Context.STATE x.val) = 1 ∧ c.get (Obj.Context.START x.val) = 1 ∧
      c.get (Obj.Context.FRAME x.val) = k ∧ c.get (Obj.Context.CREDIT_MW x.val) = mw ∧ c.get (Obj.Region.CONTEXT g) = x.val ∧
      (c.ctxOf x.val).frame = some f :=
  answersOk_context (sub := 2) rfl hadm (by decide) (by decide) rfl nofun ((writeContext_start _ _ _).trans heq) h

/-- A STOP, in terms of the core it leaves. -/
theorem answersOk_stopped {e : Core} (hadm : Admits s w (Obj.Context.START x.val) 0) (heq : (s.clear.core.stopCtx x.val).water = e)
    (h : e.get (Obj.Context.START x.val) = 0 ∧
      (e.get (Obj.Context.STATE x.val) = 2 ∨ e.get (Obj.Context.STATE x.val) = 0 ∧ (e.ctxOf x.val).closing = [])) :
    AnswersOk (.contextStop x w) s fun c => c.get (Obj.Context.START x.val) = 0 ∧
      (c.get (Obj.Context.STATE x.val) = 2 ∨ c.get (Obj.Context.STATE x.val) = 0 ∧ (c.ctxOf x.val).closing = []) :=
  answersOk_context (sub := 2) rfl hadm (by decide) (by decide) rfl nofun (by rw [writeContext_stop, heq]) h

theorem contexts_start (hadm : Admits s w (Obj.Context.START x.val) 1) (hst : s.core.get (Obj.Context.STATE x.val) = 0)
    (hok : s.core.startRefusal (s.core.cfgOf x.val) x.val w = none) (hpool : s.core.admits (s.core.ctxCredit (s.core.cfgOf x.val)) = true) :
    AnswersOk (.contextStart x w) s fun c =>
      c.get (Obj.Context.STATE x.val) = 1 ∧ c.get (Obj.Context.START x.val) = 1 ∧
      c.get (Obj.Context.FRAME x.val) = s.core.firstFrame (s.core.cfgOf x.val) ∧
      c.get (Obj.Context.CREDIT_MW x.val) = s.core.ctxCredit (s.core.cfgOf x.val) ∧
      c.get (Obj.Region.CONTEXT (s.core.get (Obj.Context.REGION x.val))) = x.val ∧
      (c.ctxOf x.val).frame = some (Frame.fresh (s.core.firstFrame (s.core.cfgOf x.val))) := by
  have hcfg : s.clear.core.cfgOf x.val = s.core.cfgOf x.val := by simp only [Core.cfgOf, State.clear_get]
  have hok' : s.clear.core.startRefusal (s.clear.core.cfgOf x.val) x.val w = none := by rw [hcfg, startRefusal_clear, hok]
  have hpool' : s.clear.core.admits (s.clear.core.ctxCredit (s.clear.core.cfgOf x.val)) = true := by
    rw [hcfg, ctxCredit_clear, admits_clear, hpool]
  obtain ⟨d, heq⟩ := Core.startCtx_eq (c := s.clear.core) hst hok' hpool'
  rw [hcfg, firstFrame_clear, ctxCredit_clear] at heq
  exact answersOk_started hadm heq (Core.ctxStarted_facts (c := d) x.isLt _ (Core.startRefusal_region hok) _ _)

theorem contexts_stop (hadm : Admits s w (Obj.Context.START x.val) 0) (hst : s.core.get (Obj.Context.STATE x.val) = 1) :
    AnswersOk (.contextStop x w) s fun c =>
      c.get (Obj.Context.START x.val) = 0 ∧
      (c.get (Obj.Context.STATE x.val) = 2 ∨ c.get (Obj.Context.STATE x.val) = 0 ∧ (c.ctxOf x.val).closing = []) :=
  answersOk_stopped hadm rfl (Core.stopWater_facts (c := s.clear.core) x.isLt hst)

theorem contexts_op {op : BitVec 8} (hadm : Admits s w (Obj.Context.OP x.val) op.toNat) (hst : s.core.get (Obj.Context.STATE x.val) = 0) :
    AnswersOk (.contextOpWrite x w op) s fun c =>
      c.get (Obj.Context.OP x.val) = op.toNat ∧ c.get (Obj.Context.EXCLUDE x.val) = (if op.toNat = 0 then 0x11 else 0) ∧
      ∀ k, k ≠ Obj.Context.OP x.val → k ≠ Obj.Context.EXCLUDE x.val → c.get k = s.core.get k := by
  have heq := Core.writeOp_idle (c := s.clear.core) hst op.toNat
  refine answersOk_context (sub := 3) rfl hadm (by decide) (by decide) rfl nofun heq ⟨?_, ?_, fun k h1 h2 => ?_⟩
  · rw [Core.get_emit, Core.get_put_ne _ _ (by simp), Core.get_put_self]
  · rw [Core.get_emit, Core.get_put_self]
  · rw [Core.get_emit, Core.get_put_ne _ _ h2, Core.get_put_ne _ _ h1, State.clear_get]

theorem contexts_closes {f : Frame} (hadm : Admits s w (Obj.Context.CLOSE_NOW x.val) 1) (hst : s.core.get (Obj.Context.STATE x.val) = 1)
    (hs : (s.core.ctxOf x.val).samples = []) (hr : (s.core.ctxOf x.val).released = 0) (hf : (s.core.ctxOf x.val).frame = some f) :
    AnswersOk (.closeNow x w) s fun c =>
      c.get (Obj.Context.FRAME x.val) = f.k + 1 ∧ c.bitOf (Obj.Context.FLAGS x.val) 1 = true ∧
      (∃ f', (c.ctxOf x.val).closing = (s.core.ctxOf x.val).closing ++ [f'] ∧ f'.k = f.k ∧ f'.elems = f.elems ∧
        f'.flags = setBitTo 2 true f.flags) ∧
      (c.ctxOf x.val).frame = some (Frame.fresh (f.k + 1)) := by
  have heq := Core.closeNow_closes (c := s.clear.core) hst hs hr hf
  obtain ⟨h1, h2, h3, h4⟩ := Core.closeNow_facts (c := s.clear.core) x.isLt hf
    ((s.clear.core.cfgOf x.val).startRow + (f.k + 1) * (s.clear.core.cfgOf x.val).nrows)
  exact answersOk_context (sub := 0x19) rfl hadm (by decide) (by decide) rfl nofun heq ⟨h1, h2, ⟨_, h3, rfl, rfl, rfl⟩, h4⟩

theorem contexts_close {f : Frame} {rest : List Frame} (hup : s.core.hubUp = true) (hcl : (s.core.ctxOf x.val).closing = f :: rest)
    (hbad : f.bad = []) (hfill : f.filling = []) (hw : s.core.frameWaits x.val f.k = false)
    (hn0 : 0 < s.core.get (Obj.Context.NFRAMES x.val)) (hn4 : s.core.get (Obj.Context.NFRAMES x.val) ≤ 4) :
    AnswersThen (.frameCloseComplete x) s fun c =>
      (c.ctxOf x.val).gen = nextGen (s.core.ctxOf x.val).gen ∧ (c.ctxOf x.val).closing = rest ∧
      c.get (Obj.Context.LAST_SUMMARY x.val) = s.core.frameSummary x.val f (nextGen (s.core.ctxOf x.val).gen) ∧
      c.get (Obj.Context.SUMMARY x.val (f.k % s.core.get (Obj.Context.NFRAMES x.val))) =
        s.core.frameSummary x.val f (nextGen (s.core.ctxOf x.val).gen) ∧
      c.bitOf (Obj.Context.FLAGS x.val) 0 = true := by
  have hslot : f.k % s.core.get (Obj.Context.NFRAMES x.val) < 4 := (Nat.mod_lt _ hn0).trans_le hn4
  obtain ⟨h1, h2, h3, h4, h5⟩ := Core.frameClosed_facts (c := s.clear.core) x.isLt hcl hbad hfill hw hslot
  rw [frameSummary_clear] at h3 h4
  exact answersThen_onHub (fun c => c.frameClosed x.val) rfl hup ⟨h1, h2, h3, h4, h5⟩

/-- Settles O28: what START, STOP, OP, CLOSE_NOW and the end of a close leave of a context. -/
theorem contexts : Obligations.Contexts := by
  unfold Obligations.Contexts
  refine ⟨fun _ _ _ => contexts_start, fun _ _ _ => contexts_stop, fun _ _ _ _ => contexts_op, fun s x w hadm hst hs => ?_,
    fun _ _ _ _ => contexts_closes, fun _ _ _ _ => contexts_close⟩
  have heq := Core.closeNow_waits (c := s.clear.core) hst hs
  refine answersOk_context (sub := 0x19) rfl hadm (by decide) (by decide) rfl nofun heq ⟨?_, fun k => ?_⟩
  · rw [Core.ctxOf_emit, Core.ctxOf_updCtx_self]
  · rw [Core.get_emit, Core.get_updCtx, State.clear_get]

end Sys2Proof.Machine
end

section
/-! PROOFS. Scan-out leases: enable, marks, overruns, the quiet decision and the wake (06_tailrace_drain_scanout.md R158 to R161). -/

namespace Sys2Proof.Machine

namespace Core

variable {c d : Core} {n pr l : Nat}

/-! ## The lease decision at a subchannel (R161) -/

/-- What the decision at a subchannel may write. -/
abbrev quietKeeps (k : Nat) : Prop := ¬ isMemKey k

theorem quietKeeps_lease {l sub : Nat} (hl : l < 16) (hsub : sub < 256) : quietKeeps ((0x3500 + l) * 256 + sub) := by
  simp only [quietKeeps, isMemKey, isSluiceKey]
  omega

theorem sc_memKey (n : Nat) {sub : Nat} : isMemKey ((0x6000 + 64 * n) * 256 + sub) := .inr (by omega)

theorem enterPowerDown_keeps (c : Core) (n pr : Nat) : Keeps quietKeeps c (c.enterPowerDown n pr) := fun k hk => by
  obtain ⟨-, -, -, -, -, h⟩ := enterPowerDown_facts c n pr
  refine h k (fun hx => hk ?_) fun hx => hk ?_
  · rw [hx]
    exact sc_memKey n
  · rw [hx]
    exact sc_memKey n

theorem orderSelfRefresh_get (c : Core) (n why k : Nat) : (c.orderSelfRefresh n why).get k = c.get k := by
  unfold orderSelfRefresh
  split <;> exact get_setMc _ _ _ _

/-- The package ranks that a lease lets rest. -/
def quietPd (n : Nat) (idle : Int) (c : Core) : Core :=
  if !(c.leaseForbidsPd n) && (c.get Obj.Tailrace.PD_MIN_IDLE_NS : Int) ≤ idle then
    [0, 1].foldl (fun c pr =>
      if c.bitOf (Obj.Sc.PD_MASK n) pr || !(c.mayIssue n) || !(c.rankIdle n pr) then c else c.enterPowerDown n pr) c
  else c

theorem quietPd_keeps (c : Core) (n : Nat) (idle : Int) : Keeps quietKeeps c (quietPd n idle c) := by
  unfold quietPd
  refine keeps_ite _ (fun _ => keeps_foldl _ _ _ (fun c pr _ => ?_) c) fun _ => Keeps.refl _ c
  exact keeps_ite _ (fun _ => Keeps.refl _ c) fun _ => enterPowerDown_keeps c n pr

/-- How long a subchannel has until the first of its leases wakes it, in ns. -/
def quietIdle (c : Core) (n : Nat) : Int :=
  let wake := (c.leasesAt n).map fun l => c.get (Obj.Lease.T_MARK l) / 2 ^ 32 + c.get (Obj.Lease.PERIOD l) * 1000
  (wake.foldl min (wake.headD 0) : Nat) - (c.timeNs : Int)

/-- Does a lease decision choose self-refresh? -/
def quietSr (c : Core) (n : Nat) : Bool :=
  ((c.leasesAt n).all fun l => c.get Obj.Tailrace.SR_EXIT_NS ≤ c.get (Obj.Lease.TOL l) * 1000)
    && (c.get Obj.Tailrace.SR_MIN_IDLE_US * 1000 : Int) ≤ c.quietIdle n

theorem leaseDecide_eq (c : Core) (n : Nat) : c.leaseDecide n =
    if c.leasesAt n = [] || 1 < c.scState n || (c.mcOf n).srEntering || c.otherWork n then c
    else if c.quietSr n then
      match c.askNow Ck.srExit n 400 with
      | (true, c1) => (c1.wakeBoth n).orderSelfRefresh n 1
      | (false, c1) => quietPd n (c.quietIdle n) c1
    else quietPd n (c.quietIdle n) c := by
  unfold leaseDecide quietSr quietIdle quietPd
  rfl

theorem leaseDecide_keeps (c : Core) (n : Nat) : Keeps quietKeeps c (c.leaseDecide n) := by
  rw [leaseDecide_eq]
  refine keeps_ite _ (fun _ => Keeps.refl _ c) fun _ => keeps_ite _ (fun _ => ?_) fun _ => quietPd_keeps c n _
  have hs := sluiceOnly_askNow c Ck.srExit n 400
  have hask : Keeps quietKeeps c (c.askNow Ck.srExit n 400).2 := fun k hk => hs.get fun h => hk (.inl h)
  revert hask
  generalize c.askNow Ck.srExit n 400 = r
  intro hask
  obtain ⟨b, c1⟩ := r
  cases b
  · exact hask.trans (quietPd_keeps c1 n _)
  · refine hask.trans fun k hk => ?_
    show ((c1.wakeBoth n).orderSelfRefresh n 1).get k = c1.get k
    rw [orderSelfRefresh_get]
    exact (wakeBoth_rest c1 n).2.2.2.2.2 k (fun hx => hk (hx ▸ sc_memKey n)) fun hx => hk (hx ▸ sc_memKey n)

theorem leaseDecideAll_keeps (c : Core) (l : Nat) : Keeps quietKeeps c (c.leaseDecideAll l) :=
  keeps_each _ _ _ (fun c n _ => keeps_ite _ (fun _ => leaseDecide_keeps c n) fun _ => Keeps.refl _ c) c

/-! ## A frame starts (R159) -/

theorem frameEnded_eq_self (h : c.freeing = []) (l : Nat) : c.frameEnded l = c := by
  rw [frameEnded, h]
  rfl

theorem freeing_inc64 (c : Core) (k : Nat) : (c.inc64 k).freeing = c.freeing := rfl

/-- A frame's start sets T_MARK, counts it, and leaves the lease's other registers. -/
theorem frameStart_facts (hl : l < 16) (hfree : c.freeing = []) : (c.frameStart l).get (Obj.Lease.T_MARK l) = c.hubTime % 2 ^ 96 ∧
    (c.frameStart l).get (Obj.Lease.FRAMES l) = min (c.get (Obj.Lease.FRAMES l) + 1) (2 ^ 64 - 1) ∧
    ∀ sub < 256, sub ≠ 0x0B → sub ≠ 0x0C → (c.frameStart l).get ((0x3500 + l) * 256 + sub) = c.get ((0x3500 + l) * 256 + sub) := by
  unfold frameStart
  rw [frameEnded_eq_self (by rw [freeing_inc64]; exact hfree)]
  have hkeep : ∀ sub < 256, _ := fun sub hs => leaseDecideAll_keeps ((c.put (Obj.Lease.T_MARK l) (c.hubTime % 2 ^ 96)).inc64
    (Obj.Lease.FRAMES l)) l _ (quietKeeps_lease (sub := sub) hl hs)
  refine ⟨(hkeep 0x0B (by decide)).trans ?_, (hkeep 0x0C (by decide)).trans ?_, fun sub hs h1 h2 => (hkeep sub hs).trans ?_⟩
  · rw [get_inc64_ne _ (by simp), get_put_self]
  · rw [get_inc64_min, get_put_ne _ _ (by simp)]
  · rw [get_inc64_ne _ (by simp; omega), get_put_ne _ _ (by simp; omega)]

/-! ## Enable, disable, marks and overruns (R158 to R160) -/

theorem lease_ne_timed {l sub : Nat} (hl : l < 16) (hs : sub < 256) : (0x3500 + l) * 256 + sub ≠ Hid.TIMED := by
  show _ ≠ 0x1000004
  omega

theorem takeTiming_facts (c : Core) (hl : l < 16) : (c.takeTiming l).get (Obj.Lease.PERIOD l) = c.get (Obj.Lease.PERIOD_NEXT l) ∧
    (c.takeTiming l).get (Obj.Lease.TOL l) = c.get (Obj.Lease.TOL_NEXT l) ∧
    ∀ k, k ≠ Obj.Lease.PERIOD l → k ≠ Obj.Lease.TOL l → k ≠ Hid.TIMED → (c.takeTiming l).get k = c.get k := by
  refine ⟨?_, ?_, fun k h1 h2 h3 => ?_⟩ <;> rw [takeTiming, putBit]
  · rw [get_put_ne _ _ (lease_ne_timed (sub := 5) hl (by decide)), get_put_ne _ _ (by simp), get_put_self]
  · rw [get_put_ne _ _ (lease_ne_timed (sub := 6) hl (by decide)), get_put_self]
  · rw [get_put_ne _ _ h3, get_put_ne _ _ h2, get_put_ne _ _ h1]

/-- The core of a lease that is enabled, before its frame starts. -/
def leaseOn (c : Core) (l : Nat) : Core := ((c.put (Obj.Lease.STATE l) 1).put (Obj.Lease.ENABLE l) 1).takeTiming l

theorem leaseEnable_eq (hst : c.get (Obj.Lease.STATE l) ≠ 1) (hr : c.get (Obj.Lease.REGION l) < 1024) (hp : c.get (Obj.Lease.PORT l) < 8)
    (hper : c.get (Obj.Region.PERSONALITY (c.get (Obj.Lease.REGION l))) ≠ 0)
    (hown : c.bitOf (Obj.Region.OWNER_MASK (c.get (Obj.Lease.REGION l))) (c.get (Obj.Lease.PORT l)) = true)
    (hsec : c.regionSecure (c.get (Obj.Lease.REGION l)) = true → c.portSecure (c.get (Obj.Lease.PORT l)) = true)
    (hfree : c.get (Obj.Region.FREE_PENDING (c.get (Obj.Lease.REGION l))) ≠ 1) :
    c.leaseEnable l = (.ok, (c.leaseOn l).frameStart l) := by
  have hsec' : ¬ (c.regionSecure (c.get (Obj.Lease.REGION l)) && !c.portSecure (c.get (Obj.Lease.PORT l))) = true := by
    simpa using hsec
  have hok : ¬ (1023 < c.get (Obj.Lease.REGION l) || 7 < c.get (Obj.Lease.PORT l) ||
      c.get (Obj.Region.PERSONALITY (c.get (Obj.Lease.REGION l))) = 0) = true := by
    rw [decide_eq_false (show ¬ 1023 < c.get (Obj.Lease.REGION l) by omega), decide_eq_false (show ¬ 7 < c.get (Obj.Lease.PORT l) by omega),
      decide_eq_false hper]
    decide
  rw [leaseEnable, if_neg hst, if_neg hok, if_neg (by rw [hown]; decide), if_neg hsec', if_neg hfree]
  rfl

theorem leaseOn_facts (hl : l < 16) (hfree : c.freeing = []) : ((c.leaseOn l).frameStart l).get (Obj.Lease.STATE l) = 1 ∧
    ((c.leaseOn l).frameStart l).get (Obj.Lease.ENABLE l) = 1 ∧
    ((c.leaseOn l).frameStart l).get (Obj.Lease.PERIOD l) = c.get (Obj.Lease.PERIOD_NEXT l) ∧
    ((c.leaseOn l).frameStart l).get (Obj.Lease.TOL l) = c.get (Obj.Lease.TOL_NEXT l) ∧
    ((c.leaseOn l).frameStart l).get (Obj.Lease.T_MARK l) = c.hubTime % 2 ^ 96 ∧
    ((c.leaseOn l).frameStart l).get (Obj.Lease.FRAMES l) = min (c.get (Obj.Lease.FRAMES l) + 1) (2 ^ 64 - 1) := by
  obtain ⟨t1, t2, t3⟩ := takeTiming_facts ((c.put (Obj.Lease.STATE l) 1).put (Obj.Lease.ENABLE l) 1) hl
  obtain ⟨f1, f2, f3⟩ := frameStart_facts (c := c.leaseOn l) hl hfree
  have hput : ∀ sub, sub ≠ 1 → sub ≠ 2 → ((c.put (Obj.Lease.STATE l) 1).put (Obj.Lease.ENABLE l) 1).get ((0x3500 + l) * 256 + sub) =
      c.get ((0x3500 + l) * 256 + sub) := fun sub h1 h2 => by rw [get_put_ne _ _ (by simp; omega), get_put_ne _ _ (by simp; omega)]
  have hon : ∀ sub < 256, sub < 5 ∨ 6 < sub → (c.leaseOn l).get ((0x3500 + l) * 256 + sub) =
      ((c.put (Obj.Lease.STATE l) 1).put (Obj.Lease.ENABLE l) 1).get ((0x3500 + l) * 256 + sub) := fun sub hs h =>
    t3 _ (by simp; omega) (by simp; omega) (lease_ne_timed hl hs)
  refine ⟨?_, ?_, ?_, ?_, f1, ?_⟩
  · rw [f3 1 (by decide) (by decide) (by decide), hon 1 (by decide) (by decide), get_put_ne _ _ (by simp), get_put_self]
  · rw [f3 2 (by decide) (by decide) (by decide), hon 2 (by decide) (by decide), get_put_self]
  · rw [f3 5 (by decide) (by decide) (by decide)]
    exact t1.trans (hput 7 (by decide) (by decide))
  · rw [f3 6 (by decide) (by decide) (by decide)]
    exact t2.trans (hput 8 (by decide) (by decide))
  · rw [f2, hon 0x0C (by decide) (by decide), hput 0x0C (by decide) (by decide)]

/-- The core of a lease that takes a marker, before its frame starts. -/
def leaseMarked (c : Core) (l v : Nat) : Core :=
  if c.bitOf Hid.TIMED l then ((c.put (Obj.Lease.LAST_MARK l) v).takeTiming l).flag (Obj.Lease.FLAGS l) 0 else c.put (Obj.Lease.LAST_MARK l) v

theorem frameMark_active {v : Nat} (hst : c.get (Obj.Lease.STATE l) = 1) : c.frameMark l v = (c.leaseMarked l v).frameStart l := by
  rw [frameMark, if_neg (by rw [hst]; decide)]
  rfl

theorem frameMark_idle {v : Nat} (hst : c.get (Obj.Lease.STATE l) ≠ 1) : c.frameMark l v = c.put (Obj.Lease.LAST_MARK l) v := by
  rw [frameMark, if_pos hst]

theorem leaseMarked_facts (hl : l < 16) (v : Nat) : (c.leaseMarked l v).freeing = c.freeing ∧ (c.leaseMarked l v).hubTime = c.hubTime ∧
    (c.leaseMarked l v).get (Obj.Lease.LAST_MARK l) = v ∧ (c.leaseMarked l v).get (Obj.Lease.FRAMES l) = c.get (Obj.Lease.FRAMES l) ∧
    (c.leaseMarked l v).get (Obj.Lease.PERIOD l) = c.get (if c.bitOf Hid.TIMED l then Obj.Lease.PERIOD_NEXT l else Obj.Lease.PERIOD l) ∧
    (c.leaseMarked l v).get (Obj.Lease.TOL l) = c.get (if c.bitOf Hid.TIMED l then Obj.Lease.TOL_NEXT l else Obj.Lease.TOL l) ∧
    (c.bitOf Hid.TIMED l = true → (c.leaseMarked l v).bitOf (Obj.Lease.FLAGS l) 0 = true) := by
  obtain ⟨t1, t2, t3⟩ := takeTiming_facts (c.put (Obj.Lease.LAST_MARK l) v) hl
  unfold leaseMarked
  split
  · refine ⟨rfl, rfl, ?_, ?_, ?_, ?_, fun _ => bitOf_flag_self _ _ _⟩
    · rw [get_flag_ne _ _ (by simp), t3 _ (by simp) (by simp) (lease_ne_timed (sub := 0x0A) hl (by decide)), get_put_self]
    · rw [get_flag_ne _ _ (by simp), t3 _ (by simp) (by simp) (lease_ne_timed (sub := 0x0C) hl (by decide)), get_put_ne _ _ (by simp)]
    · rw [get_flag_ne _ _ (by simp), t1, get_put_ne _ _ (by simp)]
    · rw [get_flag_ne _ _ (by simp), t2, get_put_ne _ _ (by simp)]
  · next h =>
    exact ⟨rfl, rfl, get_put_self _ _ _, get_put_ne _ _ (by simp), get_put_ne _ _ (by simp), get_put_ne _ _ (by simp), fun hx => absurd hx h⟩

/-! ## Self-refresh and the wake (R161) -/

theorem pdExit_state (h : c.scState n = 0) : (c.pdExit n pr).scState n = 0 := by
  have h1 : (((c.updMc n fun m => { m with wakeDue := setBitTo pr false m.wakeDue }).putBit (Obj.Sc.PD_MASK n) pr false).order n
      (.pdExit pr)).scState n = 0 := by
    rw [scState, (order_facts _ _ _).2.2.2.2.2, putBit, get_put_ne _ _ (by simp), updMc, get_setMc]
    exact h
  unfold pdExit
  dsimp only
  rw [if_neg (by rw [h1]; decide)]
  exact h1

theorem wakeRank_state (h : c.scState n = 0) : (c.wakeRank n pr).scState n = 0 := by
  have h1 : (c.updMc n fun m => { m with pdBack := setBitTo pr false m.pdBack }).scState n = 0 := (get_setMc _ _ _ _).trans h
  unfold wakeRank
  dsimp only
  split
  · split
    · exact (get_setMc _ _ _ _).trans h1
    · exact pdExit_state h1
  · exact h1

theorem orderSelfRefresh_facts (h : c.scState n = 0) (hat : (c.mcOf n).srAt = 0) (why : Nat) :
    ((c.orderSelfRefresh n why).mcOf n).srEntering = true ∧ ((c.orderSelfRefresh n why).mcOf n).srWhy = (c.mcOf n).srWhy ||| why ∧
    (c.orderSelfRefresh n why).sluice = c.sluice := by
  have heq : c.orderSelfRefresh n why = c.updMc n fun m => { m with srEntering := true, srWhy := m.srWhy ||| why } := by
    rw [orderSelfRefresh, if_neg]
    rw [scOffline, h, hat]
    decide
  rw [heq, updMc]
  exact ⟨by rw [mcOf_setMc_self], by rw [mcOf_setMc_self], sluice_setMc _ _ _⟩

theorem le_foldl_min {a b : Nat} {ls : List Nat} (hb : a ≤ b) (h : ∀ m ∈ ls, a ≤ m) : a ≤ ls.foldl min b := by
  induction ls generalizing b with
  | nil => exact hb
  | cons x ls ih =>
    exact ih (Nat.le_min.2 ⟨hb, h x List.mem_cons_self⟩) fun m hm => h m (List.mem_cons_of_mem _ hm)

theorem quietSr_of (hne : c.leasesAt n ≠ []) (h : ∀ l ∈ c.leasesAt n, c.get Obj.Tailrace.SR_EXIT_NS ≤ c.get (Obj.Lease.TOL l) * 1000 ∧
      c.timeNs + c.get Obj.Tailrace.SR_MIN_IDLE_US * 1000 ≤
        c.get (Obj.Lease.T_MARK l) / 2 ^ 32 + c.get (Obj.Lease.PERIOD l) * 1000) : c.quietSr n = true := by
  rw [quietSr, Bool.and_eq_true]
  refine ⟨List.all_eq_true.2 fun l hl => decide_eq_true (h l hl).1, decide_eq_true ?_⟩
  unfold quietIdle
  obtain ⟨wake, hw⟩ : ∃ wake, wake = (c.leasesAt n).map fun l => c.get (Obj.Lease.T_MARK l) / 2 ^ 32 + c.get (Obj.Lease.PERIOD l) * 1000 :=
    ⟨_, rfl⟩
  have hall : ∀ m ∈ wake, c.timeNs + c.get Obj.Tailrace.SR_MIN_IDLE_US * 1000 ≤ m := fun m hm => by
    rw [hw] at hm
    obtain ⟨l, hl, rfl⟩ := List.mem_map.1 hm
    exact (h l hl).2
  rw [← hw]
  have hne' : wake ≠ [] := by rw [hw]; simpa using hne
  obtain ⟨x, t, rfl⟩ := List.exists_cons_of_ne_nil hne'
  have hmin := le_foldl_min (ls := x :: t) (b := x) (hall x List.mem_cons_self) hall
  dsimp only [List.headD_cons]
  generalize (x :: t).foldl min x = m at hmin
  generalize c.get Obj.Tailrace.SR_MIN_IDLE_US = q at hmin ⊢
  omega

theorem leaseDecide_rests (hne : c.leasesAt n ≠ []) (hst : c.scState n = 0) (hent : (c.mcOf n).srEntering = false)
    (hat : (c.mcOf n).srAt = 0) (hwork : c.otherWork n = false) (hsr : c.quietSr n = true) (hadm : c.admits 400 = true) :
    ((c.leaseDecide n).mcOf n).srEntering = true ∧ ((c.leaseDecide n).mcOf n).srWhy.testBit 0 = true ∧
    (c.leaseDecide n).holds Ck.srExit n = true := by
  obtain ⟨x, hx⟩ : ∃ x, x = c.grantCredit { kind := Ck.srExit, owner := n, mw := 400, forced := false } := ⟨_, rfl⟩
  have heq : c.leaseDecide n = (x.wakeBoth n).orderSelfRefresh n 1 := by
    rw [leaseDecide_eq, if_neg (by rw [hst, hent, hwork]; simpa using hne), if_pos hsr, askNow_of_admits c Ck.srExit n hadm, hx]
  have hs := sluiceOnly_grantCredit c { kind := Ck.srExit, owner := n, mw := 400, forced := false }
  have hhold := holds_grantCredit (c := c) (kind := Ck.srExit) (owner := n) (mw := 400) false
  rw [← hx] at hs hhold
  have hstate : x.scState n = 0 := (hs.get (by simp [isSluiceKey]; omega)).trans hst
  obtain ⟨w1, -, -, -, ⟨w, b, w5, -, -⟩, -⟩ := wakeBoth_rest x n
  have hwake : (x.wakeBoth n).scState n = 0 := wakeRank_state (wakeRank_state hstate)
  obtain ⟨o1, o2, o3⟩ := orderSelfRefresh_facts (c := x.wakeBoth n) hwake (by rw [w5, hs.mcOf]; exact hat) 1
  rw [heq]
  refine ⟨o1, ?_, by rw [holds, o3, w1, ← holds, hhold]⟩
  rw [o2, Nat.testBit_or]
  simp

theorem leaseWake_sleeps (hne : c.leasesAt n ≠ []) (hst : c.scState n = 2) (hwhy : (c.mcOf n).srWhy = 1)
    (hx : (c.mcOf n).srExiting = false) : ((c.leaseWake n).mcOf n).srExiting = true ∧ (c.leaseWake n).srQueue = c.srQueue ++ [n] ∧
      (∀ k, (c.leaseWake n).get k = c.get k) ∧ (c.leaseWake n).req = c.req := by
  have heq : c.leaseWake n = { c.updMc n fun m => { m with srExiting := true } with srQueue := c.srQueue ++ [n] } := by
    rw [leaseWake, if_neg hne, if_pos (by rw [hst]; rfl), if_pos hwhy, demandExit, if_neg (by rw [hx, hst]; simp)]
  obtain ⟨a, ha⟩ : ∃ a, a = c.updMc n fun m => { m with srExiting := true } := ⟨_, rfl⟩
  have hmc : (a.mcOf n).srExiting = true := by rw [ha, updMc, mcOf_setMc_self]
  have hget : ∀ k, a.get k = c.get k := fun k => by rw [ha, updMc, get_setMc]
  have hreq : a.req = c.req := by rw [ha, updMc, req_setMc]
  rw [heq, ← ha]
  exact ⟨hmc, rfl, hget, hreq⟩

theorem leaseWake_wakes (hne : c.leasesAt n ≠ []) (hst : c.scState n ≠ 2) (hat : (c.mcOf n).srAt = 0) : c.leaseWake n = c.wakeBoth n := by
  rw [leaseWake, if_neg hne, if_neg (by rw [hat]; simpa using hst)]

theorem writeValue_lease (c : Core) (f : Fuses) (v : World) {l : Nat} (sub : Nat) (bs : List Byte) (h : l < 16) :
    c.writeValue f v (0x3500 + l) sub bs = c.writeLease l sub (ofBytes bs) := by
  have hn : 0x3500 + l - 0x3500 = l := by omega
  simp (disch := omega) only [writeValue, Bool.and_eq_true, decide_eq_true_eq, if_neg, if_pos]
  rw [hn]

end Core

variable {s : State} {l : LeaseNo} {w : World}

theorem lease_parts (l : LeaseNo) (sub : Nat) (h : sub < 256) : ((0x3500 + l.val) * 0x100 + sub) / 256 = 0x3500 + l.val ∧
    ((0x3500 + l.val) * 0x100 + sub) % 256 = sub := by omega

/-- A write of a lease's register. -/
theorem answersOk_lease {i : Instr} {P : Core → Prop} {c : Core} {sub v : Nat} {r : Row}
    (hi : exec i s = .next (s.writeNum w ((0x3500 + l.val) * 0x100 + sub) v)) (hadm : Admits s w ((0x3500 + l.val) * 0x100 + sub) v)
    (hs : sub < 256) (hn : sub ≠ 0) (h : (⟨0x3500, 1, 16, 0, Obj.Lease.rows⟩ : Group).row? sub = some r) (hrow : ∀ a b, r.chk ≠ .w1c a b)
    (hw : s.clear.core.writeLease l.val sub v = (.ok, c)) (hp : P (c.emit (.status .ok))) : AnswersOk i s P := by
  obtain ⟨hidx, hsub⟩ := lease_parts l sub hs
  refine answersOk_writeNum hi hadm (by rw [hidx, hsub]; exact clearableOf_of_lookup ((lookup_lease hn l.isLt).trans h) hrow)
    (by rw [hidx, hsub, coreObject]; omega) ?_ hp
  rw [hidx, hsub, Core.writeValue_lease _ _ _ _ _ l.isLt, ofBytes_toBytes_of_fits hadm.2.1, hw]

theorem writeLease_on (c : Core) (l : Nat) : c.writeLease l 2 1 = c.leaseEnable l := by rw [Core.writeLease, if_pos rfl, if_pos rfl]
theorem writeLease_off (c : Core) (l : Nat) : c.writeLease l 2 0 = c.leaseDisable l := by
  rw [Core.writeLease, if_pos rfl, if_neg (by decide)]
theorem writeLease_mark (c : Core) (l v : Nat) : c.writeLease l 9 v = (.ok, c.frameMark l v) := by
  rw [Core.writeLease, if_neg (by decide), if_pos rfl]

theorem otherWork_clear (s : State) (n : Nat) : s.clear.core.otherWork n = s.core.otherWork n := rfl

/-- Settles O31: what enable, disable, marks, overruns, the quiet decision and the wake leave of a lease and its subchannels. -/
theorem leases : Obligations.Leases := by
  unfold Obligations.Leases
  refine ⟨fun s l w hadm hst hr hp hper hown hsec hpend hfree => ?_, fun s l w hadm hfree => ?_, fun s l w v hadm hst hfree => ?_,
    fun s l w v hadm hst => ?_, fun s l hup hst hfree => ?_, fun s sc hup hne hst hent hat hwork hall hadm => ?_,
    fun s sc hup hne hst hwhy hx => ?_, fun s sc hup hne hst hat hstop => ?_⟩
  · have heq := Core.leaseEnable_eq (c := s.clear.core) hst hr hp hper hown hsec hpend
    have hfacts := Core.leaseOn_facts (c := s.clear.core) l.isLt hfree
    generalize (s.clear.core.leaseOn l.val).frameStart l.val = d at heq hfacts
    exact answersOk_lease (sub := 2) rfl hadm (by decide) (by decide) rfl nofun ((writeLease_on _ _).trans heq) hfacts
  · have heq : s.clear.core.leaseDisable l.val = (.ok, (s.clear.core.put (Obj.Lease.STATE l.val) 0).put (Obj.Lease.ENABLE l.val) 0) := by
      rw [Core.leaseDisable, Core.frameEnded_eq_self (c := (s.clear.core.put (Obj.Lease.STATE l.val) 0).put (Obj.Lease.ENABLE l.val) 0) hfree]
    refine answersOk_lease (sub := 2) rfl hadm (by decide) (by decide) rfl nofun ((writeLease_off _ _).trans heq) ⟨?_, ?_, fun k h1 h2 => ?_⟩
    · rw [Core.get_emit, Core.get_put_ne _ _ (by simp), Core.get_put_self]
    · rw [Core.get_emit, Core.get_put_self]
    · rw [Core.get_emit, Core.get_put_ne _ _ h2, Core.get_put_ne _ _ h1, State.clear_get]
  · have heq := Core.frameMark_active (c := s.clear.core) (v := v.toNat) hst
    obtain ⟨m1, m2, m3, m4, m5, m6, m7⟩ := Core.leaseMarked_facts (c := s.clear.core) l.isLt v.toNat
    obtain ⟨f1, f2, f3⟩ := Core.frameStart_facts (c := s.clear.core.leaseMarked l.val v.toNat) l.isLt (m1.trans hfree)
    have hw := (writeLease_mark s.clear.core l.val v.toNat).trans (congrArg (Prod.mk Status.ok) heq)
    generalize (s.clear.core.leaseMarked l.val v.toNat).frameStart l.val = d at hw f1 f2 f3
    refine answersOk_lease (sub := 9) rfl hadm (by decide) (by decide) rfl nofun hw ⟨?_, ?_, ?_, ?_, ?_, fun ht => ?_⟩
    · exact (f3 0x0A (by decide) (by decide) (by decide)).trans m3
    · rw [Core.get_emit, f1, m2]
      rfl
    · rw [Core.get_emit, f2, m4, State.clear_get]
    · exact (f3 5 (by decide) (by decide) (by decide)).trans m5
    · exact (f3 6 (by decide) (by decide) (by decide)).trans m6
    · exact (Core.bitOf_congr 0 (f3 0x0F (by decide) (by decide) (by decide))).trans (m7 ht)
  · have hw := (writeLease_mark s.clear.core l.val v.toNat).trans (congrArg (Prod.mk Status.ok) (Core.frameMark_idle hst))
    refine answersOk_lease (sub := 9) rfl hadm (by decide) (by decide) rfl nofun hw ⟨?_, fun k hk => ?_⟩
    · rw [Core.get_emit, Core.get_put_self]
    · rw [Core.get_emit, Core.get_put_ne _ _ hk, State.clear_get]
  · have heq : s.clear.core.frameOverrun l.val =
        ((s.clear.core.inc (Obj.Lease.OVERRUNS l.val)).flag (Obj.Lease.FLAGS l.val) 1).frameStart l.val := by
      rw [Core.frameOverrun, if_neg (by rw [State.clear_get, hst]; decide)]
    obtain ⟨a, ha⟩ : ∃ a, a = (s.clear.core.inc (Obj.Lease.OVERRUNS l.val)).flag (Obj.Lease.FLAGS l.val) 1 := ⟨_, rfl⟩
    rw [← ha] at heq
    have hinc : a.get (Obj.Lease.OVERRUNS l.val) = min (s.core.get (Obj.Lease.OVERRUNS l.val) + 1) (2 ^ 32 - 1) := by
      rw [ha, Core.get_flag_ne _ _ (by simp), Core.get_inc_min, State.clear_get]
    have hframes : a.get (Obj.Lease.FRAMES l.val) = s.core.get (Obj.Lease.FRAMES l.val) := by
      rw [ha, Core.get_flag_ne _ _ (by simp), Core.get_inc_ne _ (by simp), State.clear_get]
    have hflag : a.bitOf (Obj.Lease.FLAGS l.val) 1 = true := by
      rw [ha]
      exact Core.bitOf_flag_self _ _ _
    have htime : a.hubTime = s.core.hubTime := by
      rw [ha]
      rfl
    obtain ⟨f1, f2, f3⟩ := Core.frameStart_facts (c := a) l.isLt (by rw [ha]; exact hfree)
    refine answersThen_onHub (fun c => c.frameOverrun l.val) rfl hup ?_
    rw [heq]
    exact ⟨(f3 0x0D (by decide) (by decide) (by decide)).trans hinc, by rw [f2, hframes],
      (Core.bitOf_congr 1 (f3 0x0F (by decide) (by decide) (by decide))).trans hflag, by rw [f1, htime]⟩
  · have hsr := Core.quietSr_of (c := s.clear.core) hne hall
    exact answersThen_onHub (fun c => c.leaseDecide sc.val) rfl hup (Core.leaseDecide_rests (c := s.clear.core) hne hst hent hat
      ((otherWork_clear s sc.val).trans hwork) hsr ((admits_clear s 400).trans hadm))
  · obtain ⟨h1, h2, h3, h4⟩ := Core.leaseWake_sleeps (c := s.clear.core) hne hst hwhy hx
    exact answersCore_onHub (fun c => c.leaseWake sc.val) rfl hup (h4.trans rfl) ⟨h1, h2, h3⟩
  · have heq := Core.leaseWake_wakes (c := s.clear.core) hne hst hat
    obtain ⟨-, -, w3, -⟩ := Core.wakeBoth_rest s.clear.core sc.val
    obtain ⟨b0, b1, -⟩ := Core.wakeBoth_facts (c := s.clear.core) (n := sc.val) hstop
    refine answersCore_onHub (fun c => c.leaseWake sc.val) rfl hup (by rw [heq, w3]; rfl) ?_
    rw [heq]
    exact ⟨b0, b1⟩

end Sys2Proof.Machine
end

section
/-! PROOFS. A subchannel that leaves service (16_states_start_sluice.md R420, R422; 08_ddr5_redrive_training.md R200). -/

namespace Sys2Proof.Machine

namespace Core

variable {c d e : Core} {n : Nat}

/-! ## RESET_n goes low (R422) -/

/-- The register and data buffer of a subchannel whose DRAM is reset. -/
def ddrReset (d : DdrState) : DdrState :=
  { d with alertLow := false, alertOwed := false, chain := 0, parityOn := 0, twoN := 0, history := [] }

/-- The error correction of a subchannel whose DRAM is reset. -/
def eccReset (e : EccState) : EccState :=
  { e with suspect := none, outcomes := [], repair := none,
           candidates := (match e.repair with | some x => [x.k] | none => []) ++ e.candidates }

/-- The reset of a subchannel but for the credits that return. -/
def resetBase (c : Core) (n : Nat) : Core :=
  let c1 : Core := { c.emit (.dram n (.reset true) false) with srQueue := c.srQueue.filter (· != n) }
  (((c1.updMc n McState.reset).updDdr n ddrReset).updEcc n eccReset).updFt n fun f => { f with capture := none }

theorem sluiceOnly_give (c : Core) (k n : Nat) : c.SluiceOnly (if c.holds k n then c.release k n else c) := by
  split
  · exact sluiceOnly_release c k n
  · exact SluiceOnly.refl c

theorem sluiceOnly_flushDone (c : Core) : c.SluiceOnly c.flushDone := by
  unfold flushDone
  split
  · exact sluiceOnly_release c _ _
  · exact SluiceOnly.refl c

theorem resetDevice_sluiceOnly (c : Core) (n : Nat) : (c.resetBase n).SluiceOnly (c.resetDevice n) := by
  have heq : c.resetDevice n = ([Ck.repair, Ck.capture, Ck.srExit].foldl (fun c k => if c.holds k n then c.release k n else c)
      (c.resetBase n)).flushDone := rfl
  rw [heq]
  generalize c.resetBase n = b
  exact (((sluiceOnly_give b _ n).trans (sluiceOnly_give _ _ n)).trans (sluiceOnly_give _ _ n)).trans (sluiceOnly_flushDone _)

theorem resetBase_facts (c : Core) (n : Nat) : (c.resetBase n).mcOf n = (c.mcOf n).reset ∧ (∀ i, i ≠ n → (c.resetBase n).mcOf i = c.mcOf i) ∧
    (c.resetBase n).ddrOf n = ddrReset (c.ddrOf n) ∧ (∀ i, i ≠ n → (c.resetBase n).ddrOf i = c.ddrOf i) ∧
    (c.resetBase n).eccOf n = eccReset (c.eccOf n) ∧ (c.resetBase n).fc = c.fc ∧ (c.resetBase n).req = c.req ∧ (c.resetBase n).start = c.start ∧
    (c.resetBase n).hr = c.hr ∧ (c.resetBase n).srQueue = c.srQueue.filter (· != n) ∧
    (c.resetBase n).out = c.out ++ [.dram n (.reset true) false] := by
  obtain ⟨c1, h1⟩ : ∃ c1 : Core, c1 = { c.emit (.dram n (.reset true) false) with srQueue := c.srQueue.filter (· != n) } := ⟨_, rfl⟩
  have hmc : ∀ i, c1.mcOf i = c.mcOf i := fun i => by rw [h1]; rfl
  have hddr : ∀ i, c1.ddrOf i = c.ddrOf i := fun i => by rw [h1]; rfl
  have hecc : ∀ i, c1.eccOf i = c.eccOf i := fun i => by rw [h1]; rfl
  have heq : c.resetBase n = (((c1.updMc n McState.reset).updDdr n ddrReset).updEcc n eccReset).updFt n fun f => { f with capture := none } := by
    rw [h1]
    rfl
  have hrest : c1.fc = c.fc ∧ c1.req = c.req ∧ c1.start = c.start ∧ c1.hr = c.hr ∧ c1.srQueue = c.srQueue.filter (· != n) ∧
      c1.out = c.out ++ [.dram n (.reset true) false] := by
    rw [h1]
    exact ⟨rfl, rfl, rfl, rfl, rfl, rfl⟩
  have hm : ∀ i, (c.resetBase n).mcOf i = (c1.updMc n McState.reset).mcOf i := fun i => by rw [heq]; rfl
  have hd : ∀ i, (c.resetBase n).ddrOf i = ((c1.updMc n McState.reset).updDdr n ddrReset).ddrOf i := fun i => by rw [heq]; rfl
  have he : ∀ i, (c.resetBase n).eccOf i = (((c1.updMc n McState.reset).updDdr n ddrReset).updEcc n eccReset).eccOf i := fun i => by
    rw [heq]; rfl
  refine ⟨by rw [hm, updMc, mcOf_setMc_self, hmc], fun i hi => by rw [hm, updMc, mcOf_setMc_ne _ _ hi, hmc], ?_, fun i hi => ?_, ?_, ?_⟩
  · rw [hd, ddrOf_updDdr_self]
    exact congrArg ddrReset (hddr n)
  · rw [hd, ddrOf_updDdr_ne _ _ hi]
    exact hddr i
  · rw [he, eccOf_updEcc_self]
    exact congrArg eccReset (hecc n)
  · obtain ⟨r1, r2, r3, r4, r5, r6⟩ := hrest
    rw [heq]
    refine ⟨?_, ?_, ?_, ?_, ?_, ?_⟩
    · rw [← r1, fc_updFt, fc_updEcc, fc_updDdr, updMc, fc_setMc]
    · rw [← r2, req_updFt, req_updEcc, req_updDdr, updMc, req_setMc]
    · rw [← r3, start_updFt, start_updEcc, start_updDdr, updMc, start_setMc]
    · rw [← r4, hr_updFt, hr_updEcc, hr_updDdr, updMc, hr_setMc]
    · rw [← r5, srQueue_updFt, srQueue_updEcc, srQueue_updDdr, updMc, srQueue_setMc]
    · rw [← r6, out_updFt, out_updEcc, out_updDdr, updMc, out_setMc]

theorem resetDevice_get (c : Core) (n k : Nat) : (c.resetDevice n).get k = c.get k := by
  rw [get, (resetDevice_keeps c n).1, ← get]

/-! ## What a source's event leaves of other sources' counts -/

theorem setDev_count (c : Core) (v : Nat) {t : Nat} (ht : t < 0x1000) : (c.setDev v).get (Obj.Source.COUNT t) = c.get (Obj.Source.COUNT t) := by
  unfold setDev
  split
  · rfl
  · have hask : ∀ (d : Core) (r : Req), (d.ask r).get (Obj.Source.COUNT t) = d.get (Obj.Source.COUNT t) := fun d r => get_ask _ _ _
    rw [hask, keeps_pins_sourceUp _ _ (sourceUp_count t), get_flag_ne _ _ (by simp; omega), get_put_ne _ _ (by simp; omega),
      get_put_ne _ _ (by simp; omega), get_put_ne _ _ (by simp; omega)]

theorem autoState_count (c : Core) {t : Nat} (ht : t < 0x1000) : c.autoState.get (Obj.Source.COUNT t) = c.get (Obj.Source.COUNT t) := by
  unfold autoState
  split
  · exact setDev_count c _ ht
  · rfl

theorem autoState_ddr (c : Core) : c.autoState.ddr = c.ddr := by
  unfold autoState
  split
  · unfold setDev
    split
    · rfl
    · have hask : ∀ (d : Core) (r : Req), (d.ask r).ddr = d.ddr := fun _ _ => rfl
      rw [hask, (fcOnly_pins _).ddr]
      rfl
  · rfl

theorem autoState_ddrOf (c : Core) (i : Nat) : c.autoState.ddrOf i = c.ddrOf i := by rw [ddrOf, autoState_ddr, ← ddrOf]
theorem autoState_mcOf (c : Core) (i : Nat) : c.autoState.mcOf i = c.mcOf i := by rw [mcOf, (autoState_facts c).2.1, ← mcOf]

/-! ## The steps of a subchannel's way to OFFLINE (R420) -/

/-- A controller that leaves service. -/
def leftService (was : Bool) (m : McState) : McState :=
  { m with srEntering := false, srWhy := 0, srExiting := false, offAfter := false, held := false,
           holdOver := if was then m.holdOver else false }

/-- The registers of a subchannel that is OFFLINE. -/
def offMarked (c : Core) (n : Nat) (was : Bool) : Core :=
  ((c.put (Obj.Sc.STATE n) 3).put (Obj.Sc.PD_MASK n) 0).updMc n (leftService was)

/-- The content is lost, and with it the training. -/
def contentLost (c : Core) (n : Nat) : Core :=
  let k := c.putBit Obj.ScMask.CONTENT_LOST n true
  if k.trainState n = 3 then k else k.put (Obj.Train.TRAIN_STATE n) 0

/-- The end of the way to OFFLINE: the event, the credits and the device state. -/
def offEnded (c : Core) (n : Nat) (quiet lost : Bool) : Core :=
  let c4 := if quiet then c else c.raise (Src.scOffline n) (ctxNone 11 0)
  ((if c4.holds Ck.srExit n then c4.release Ck.srExit n else c4).dropStart n lost).autoState

theorem enterOffline_eq (c : Core) (n : Nat) (order lost : Bool) : c.enterOffline n order lost =
    (if lost then ((if lost then c.resetDevice n else c.wakeBoth n).offMarked n (c.scOffline n)).contentLost n
      else (if lost then c.resetDevice n else c.wakeBoth n).offMarked n (c.scOffline n)).offEnded n (c.scOffline n || order) lost := rfl

theorem enterOffline_lost (c : Core) (n : Nat) (order : Bool) : c.enterOffline n order true =
    (((c.resetDevice n).offMarked n (c.scOffline n)).contentLost n).offEnded n (c.scOffline n || order) true := by
  rw [enterOffline_eq, if_pos rfl, if_pos rfl]

theorem enterOffline_kept (c : Core) (n : Nat) (order : Bool) : c.enterOffline n order false =
    ((c.wakeBoth n).offMarked n (c.scOffline n)).offEnded n (c.scOffline n || order) false := by
  rw [enterOffline_eq, if_neg (by decide), if_neg (by decide)]

theorem offMarked_facts (c : Core) (n : Nat) (was : Bool) : (c.offMarked n was).scState n = 3 ∧
    (∀ k, k ≠ Obj.Sc.STATE n → k ≠ Obj.Sc.PD_MASK n → (c.offMarked n was).get k = c.get k) ∧
    (c.offMarked n was).mcOf n = leftService was (c.mcOf n) ∧ (∀ i, i ≠ n → (c.offMarked n was).mcOf i = c.mcOf i) ∧
    (c.offMarked n was).ddr = c.ddr := by
  unfold offMarked updMc
  refine ⟨?_, fun k h1 h2 => ?_, ?_, fun i hi => ?_, rfl⟩
  · rw [scState, get_setMc, get_put_ne _ _ (by simp), get_put_self]
  · rw [get_setMc, get_put_ne _ _ h2, get_put_ne _ _ h1]
  · rw [mcOf_setMc_self, mcOf_put, mcOf_put]
  · rw [mcOf_setMc_ne _ _ hi, mcOf_put, mcOf_put]

theorem contentLost_facts (c : Core) (n : Nat) : (c.contentLost n).bitOf Obj.ScMask.CONTENT_LOST n = true ∧
    (∀ k, k ≠ Obj.ScMask.CONTENT_LOST → k ≠ Obj.Train.TRAIN_STATE n → (c.contentLost n).get k = c.get k) ∧
    (∀ i, (c.contentLost n).mcOf i = c.mcOf i) ∧ (c.contentLost n).ddr = c.ddr := by
  have hbit : (c.putBit Obj.ScMask.CONTENT_LOST n true).bitOf Obj.ScMask.CONTENT_LOST n = true := by rw [bitOf_putBit_self, if_pos rfl]
  unfold contentLost
  dsimp only
  split
  · exact ⟨hbit, fun k h1 _ => get_put_ne _ _ h1, fun _ => rfl, rfl⟩
  · exact ⟨(bitOf_congr n (get_put_ne _ _ (by simp; omega))).trans hbit, fun k h1 h2 => (get_put_ne _ _ h2).trans (get_put_ne _ _ h1),
      fun _ => rfl, rfl⟩

theorem dropStart_facts (c : Core) (n : Nat) (lost : Bool) : (∀ k, ¬ isSluiceKey k → (c.dropStart n lost).get k = c.get k) ∧
    (∀ i, (c.dropStart n lost).mcOf i = c.mcOf i) ∧
    (∀ i, (c.dropStart n lost).ddrOf i = if lost ∧ i = n then { c.ddrOf i with train := none } else c.ddrOf i) := by
  have hgive : ∀ (c : Core) (k : Nat), c.SluiceOnly (if c.waits k n then c.unqueue k n else if c.holds k n then c.release k n else c) :=
    fun c k => by
      split
      · exact sluiceOnly_unqueue c k n
      · exact sluiceOnly_give c k n
  obtain ⟨c1, h1⟩ : ∃ c1 : Core, c1 = c.updStart fun r =>
      { r with exits := setBitTo n false r.exits, restores := setBitTo n false r.restores, trains := setBitTo n false r.trains } := ⟨_, rfl⟩
  have g1 : ∀ k, c1.get k = c.get k := fun k => by rw [h1]; rfl
  have g2 : ∀ i, c1.mcOf i = c.mcOf i := fun i => by rw [h1]; rfl
  have g3 : ∀ i, c1.ddrOf i = c.ddrOf i := fun i => by rw [h1]; rfl
  have hs := hgive c1 Ck.restore
  unfold dropStart
  dsimp only
  rw [← h1]
  generalize (if c1.waits Ck.restore n then c1.unqueue Ck.restore n else if c1.holds Ck.restore n then c1.release Ck.restore n else c1) = c2
    at hs
  cases lost with
  | false => exact ⟨fun k hk => (hs.get hk).trans (g1 k), fun i => (hs.mcOf i).trans (g2 i), fun i => (hs.ddrOf i).trans (g3 i)⟩
  | true =>
    rw [if_pos rfl]
    have hs' := hgive (c2.updDdr n fun d => { d with train := none }) Ck.train
    refine ⟨fun k hk => (hs'.get hk).trans ((hs.get hk).trans (g1 k)), fun i => (hs'.mcOf i).trans ((hs.mcOf i).trans (g2 i)), fun i => ?_⟩
    rw [hs'.ddrOf]
    by_cases hi : i = n
    · rw [if_pos ⟨rfl, hi⟩, hi, ddrOf_updDdr_self, hs.ddrOf, g3]
    · rw [if_neg (fun h => hi h.2), ddrOf_updDdr_ne _ _ hi, hs.ddrOf, g3]

/-- The core before the credits of an OFFLINE subchannel return. -/
def offRaised (c : Core) (n : Nat) (quiet : Bool) : Core := if quiet then c else c.raise (Src.scOffline n) (ctxNone 11 0)

theorem offRaised_fcOnly (c : Core) (n : Nat) (quiet : Bool) : c.FcOnly (c.offRaised n quiet) := by
  unfold offRaised
  split
  · exact FcOnly.refl c
  · exact fcOnly_raise _ _ _

/-- What the end of the way to OFFLINE leaves. -/
theorem offEnded_facts (c : Core) (n : Nat) (quiet lost : Bool) :
    (∀ k, ¬ devKey k → ¬ isSluiceKey k → (c.offEnded n quiet lost).get k = c.get k) ∧
    (∀ i, (c.offEnded n quiet lost).mcOf i = c.mcOf i) ∧
    (∀ i, (c.offEnded n quiet lost).ddrOf i = if lost ∧ i = n then { c.ddrOf i with train := none } else c.ddrOf i) ∧
    ∀ t < 0x1000, t ≠ Src.scOffline n → (c.offEnded n quiet lost).get (Obj.Source.COUNT t) = c.get (Obj.Source.COUNT t) := by
  have heq : c.offEnded n quiet lost = ((if (c.offRaised n quiet).holds Ck.srExit n then (c.offRaised n quiet).release Ck.srExit n
      else c.offRaised n quiet).dropStart n lost).autoState := rfl
  have hfc := offRaised_fcOnly c n quiet
  have hcount : ∀ t, t ≠ Src.scOffline n → (c.offRaised n quiet).get (Obj.Source.COUNT t) = c.get (Obj.Source.COUNT t) := fun t ht => by
    unfold offRaised
    split
    · rfl
    · exact raise_count_ne c _ ht
  generalize c.offRaised n quiet = a at heq hfc hcount
  have hs := sluiceOnly_give a Ck.srExit n
  generalize (if a.holds Ck.srExit n then a.release Ck.srExit n else a) = b at heq hs
  obtain ⟨d1, d2, d3⟩ := dropStart_facts b n lost
  generalize b.dropStart n lost = x at heq d1 d2 d3
  obtain ⟨-, -, -, a4⟩ := autoState_facts x
  rw [heq]
  refine ⟨fun k h1 h2 => ?_, fun i => ?_, fun i => ?_, fun t ht hne => ?_⟩
  · rw [a4 k h1, d1 k h2, hs.get h2, hfc.2 k fun h => h1 (.inl h)]
  · rw [autoState_mcOf, d2, hs.mcOf, hfc.mcOf]
  · rw [autoState_ddrOf, d3, hs.ddrOf, hfc.ddrOf]
  · rw [autoState_count x ht, d1 _ (by simp [isSluiceKey]; omega), hs.get (by simp [isSluiceKey]; omega), hcount t hne]

/-- What a subchannel that goes OFFLINE with its content lost leaves. -/
theorem enterOffline_lost_facts (hn : n < 32) (order : Bool) : (c.enterOffline n order true).scState n = 3 ∧
    ((c.enterOffline n order true).mcOf n).inReset = true ∧ (c.enterOffline n order true).bitOf Obj.ScMask.CONTENT_LOST n = true ∧
    ((c.enterOffline n order true).ddrOf n).alertLow = false ∧ ((c.enterOffline n order true).ddrOf n).chain = 0 ∧
    (∀ k, ¬ devKey k → ¬ isSluiceKey k → k ≠ Obj.Sc.STATE n → k ≠ Obj.Sc.PD_MASK n → k ≠ Obj.ScMask.CONTENT_LOST → k ≠ Obj.Train.TRAIN_STATE n →
      (c.enterOffline n order true).get k = c.get k) ∧
    ∀ t < 0x1000, t ≠ Src.scOffline n → (c.enterOffline n order true).get (Obj.Source.COUNT t) = c.get (Obj.Source.COUNT t) := by
  have heq := enterOffline_lost c n order
  obtain ⟨b1, -, b3, -⟩ := resetBase_facts c n
  have hs := resetDevice_sluiceOnly c n
  have hget := resetDevice_get c n
  generalize c.resetDevice n = r at heq hs hget
  have hmc : (r.mcOf n).inReset = true := by
    rw [hs.mcOf, b1]
    rfl
  obtain ⟨m1, m2, m3, -, m5⟩ := offMarked_facts r n (c.scOffline n)
  generalize r.offMarked n (c.scOffline n) = m at heq m1 m2 m3 m5
  obtain ⟨l1, l2, l3, l4⟩ := contentLost_facts m n
  generalize m.contentLost n = l at heq l1 l2 l3 l4
  obtain ⟨e1, e2, e3, e4⟩ := offEnded_facts l n (c.scOffline n || order) true
  rw [heq]
  have hddr : l.ddrOf n = ddrReset (c.ddrOf n) := by
    rw [ddrOf, l4, m5, ← ddrOf, hs.ddrOf, b3]
  refine ⟨?_, ?_, ?_, ?_, ?_, fun k h1 h2 h3 h4 h5 h6 => ?_, fun t ht hne => ?_⟩
  · rw [scState, e1 _ (by simp [devKey]; omega) (by simp [isSluiceKey]; omega), l2 _ (by simp; omega) (by simp)]
    exact m1
  · rw [e2, l3, m3]
    exact hmc
  · rw [bitOf_congr n (e1 _ (by decide) (by decide)), l1]
  · rw [e3, if_pos ⟨rfl, rfl⟩, hddr]
    rfl
  · rw [e3, if_pos ⟨rfl, rfl⟩, hddr]
    rfl
  · rw [e1 k h1 h2, l2 k h5 h6, m2 k h3 h4, hget]
  · rw [e4 t ht hne, l2 _ (by simp; omega) (by simp; omega), m2 _ (by simp; omega) (by simp; omega), hget]

end Core
end Sys2Proof.Machine
end

section
/-! PROOFS. The statement about ALERT_n (08_ddr5_redrive_training.md R199 to R201): the events, the replay and the way to OFFLINE. -/

namespace Sys2Proof.Machine

namespace Core

variable {c d e : Core} {n : Nat}

/-! ## What the steps of a replay keep (R199) -/

/-- `d` follows `c` in a replay of subchannel n: of the controller it may change all but `stopped`, of the register side the
history, of the objects PD_MASK, STATE and the sluice's, and commands may leave. -/
def ReplayKept (n : Nat) (c d : Core) : Prop :=
  (∀ k, ¬ isSluiceKey k → k ≠ Obj.Sc.PD_MASK n → k ≠ Obj.Sc.STATE n → d.get k = c.get k) ∧
  (∃ h, d.ddrOf n = { c.ddrOf n with history := h }) ∧ d.tick = c.tick ∧ d.ecc = c.ecc ∧ (∃ l, d.out = c.out ++ l) ∧
  (d.mcOf n).stopped = (c.mcOf n).stopped

theorem ReplayKept.refl (n : Nat) (c : Core) : ReplayKept n c c :=
  ⟨fun _ _ _ _ => rfl, ⟨_, rfl⟩, rfl, rfl, ⟨[], (List.append_nil _).symm⟩, rfl⟩

theorem ReplayKept.trans (h : ReplayKept n c d) (h' : ReplayKept n d e) : ReplayKept n c e := by
  obtain ⟨a1, ⟨x, a2⟩, a3, a4, ⟨l, a5⟩, a6⟩ := h
  obtain ⟨b1, ⟨y, b2⟩, b3, b4, ⟨l', b5⟩, b6⟩ := h'
  refine ⟨fun k h1 h2 h3 => (b1 k h1 h2 h3).trans (a1 k h1 h2 h3), ⟨y, ?_⟩, b3.trans a3, b4.trans a4, ⟨l ++ l', ?_⟩, b6.trans a6⟩
  · rw [b2, a2]
  · rw [b5, a5, List.append_assoc]

theorem replayKept_ite {p : Prop} [Decidable p] {x y : Core} (hx : ReplayKept n c x) (hy : ReplayKept n c y) :
    ReplayKept n c (if p then x else y) := by
  split
  · exact hx
  · exact hy

theorem replayKept_foldl {α : Type} (l : List α) (f : Core → α → Core) (h : ∀ c x, ReplayKept n c (f c x)) (c : Core) :
    ReplayKept n c (l.foldl f c) := by
  induction l generalizing c with
  | nil => exact .refl n c
  | cons x l ih => exact (h c x).trans (ih (f c x))

theorem replayKept_setMc (c : Core) (n : Nat) {m : McState} (h : m.stopped = (c.mcOf n).stopped) : ReplayKept n c (c.setMc n m) :=
  ⟨fun _ _ _ _ => rfl, ⟨_, rfl⟩, rfl, rfl, ⟨[], (List.append_nil _).symm⟩, by rw [mcOf_setMc_self, h]⟩

theorem replayKept_updMc (c : Core) (n : Nat) {f : McState → McState} (h : ∀ m, (f m).stopped = m.stopped) :
    ReplayKept n c (c.updMc n f) := replayKept_setMc c n (h _)

theorem replayKept_put (c : Core) {n k : Nat} (v : Nat) (h : k = Obj.Sc.PD_MASK n ∨ k = Obj.Sc.STATE n) :
    ReplayKept n c (c.put k v) :=
  ⟨fun _ _ h1 h2 => get_put_ne c v fun hk => h.elim (fun h => h1 (hk.trans h)) fun h => h2 (hk.trans h),
    ⟨_, rfl⟩, rfl, rfl, ⟨[], (List.append_nil _).symm⟩, rfl⟩

theorem replayKept_command (c : Core) (n : Nat) (x : DramCmd) (i : Option Nat) (w : Option (Nat × Nat × Bool)) :
    ReplayKept n c (c.command n x i w) := by
  refine ⟨fun _ _ _ _ => rfl, ?_, rfl, rfl, ⟨[_], rfl⟩, rfl⟩
  unfold command
  exact ⟨_, (ddrOf_emit _ n _).trans (ddrOf_updDdr_self c n _)⟩

theorem replayKept_order (c : Core) (n : Nat) (x : DramCmd) : ReplayKept n c (c.order n x) := replayKept_command c n x none none

theorem replayKept_sluice (h : c.SluiceOnly d) : ReplayKept n c d :=
  ⟨fun k hk _ _ => h.get hk, ⟨_, h.ddrOf n⟩, h.tick, h.ecc, ⟨[], by rw [h.out, List.append_nil]⟩, by rw [h.mcOf]⟩

theorem replayKept_pdExit (c : Core) (n pr : Nat) : ReplayKept n c (c.pdExit n pr) := by
  have hbase : ReplayKept n c (((c.updMc n fun m => { m with wakeDue := setBitTo pr false m.wakeDue }).putBit (Obj.Sc.PD_MASK n) pr
      false).order n (.pdExit pr)) :=
    ((replayKept_updMc c n (f := fun m => { m with wakeDue := setBitTo pr false m.wakeDue }) fun _ => rfl).trans
      (replayKept_put _ _ (.inl rfl))).trans (replayKept_order _ n _)
  unfold pdExit
  exact replayKept_ite (hbase.trans (replayKept_put _ _ (.inr rfl))) hbase

theorem replayKept_abandonEntry (c : Core) (n : Nat) : ReplayKept n c (c.abandonEntry n) := by
  have h1 := replayKept_setMc c n (m := { c.mcOf n with srEntering := false, srAt := 0, srWhy := 0 }) rfl
  have h2 := replayKept_setMc c n (m := { c.mcOf n with srEntering := false, srAt := 0 }) rfl
  unfold abandonEntry
  exact replayKept_ite (h1.trans (replayKept_sluice (sluiceOnly_give _ _ _))) h2

theorem stopped_foldl_close (l : List Nat) (m : McState) : (l.foldl (fun m b => m.close b) m).stopped = m.stopped := by
  induction l generalizing m with
  | nil => rfl
  | cons b l ih => exact ih (m.close b)

theorem replayKept_issuePreAll (c : Core) (n lr : Nat) : ReplayKept n c (c.issuePreAll n lr) := by
  unfold issuePreAll
  exact (replayKept_setMc c n (stopped_foldl_close _ _)).trans (replayKept_order _ n _)

/-! ## The steps -/

theorem replayKept_replayOpen (c : Core) (n bank row : Nat) : ReplayKept n c (c.replayOpen n bank row) := by
  unfold replayOpen
  exact replayKept_ite (.refl n c)
    ((replayKept_setMc c n (m := { c.mcOf n with rows := (c.mcOf n).rows.setNum bank (row + 1) }) rfl).trans (replayKept_order _ n _))

theorem replayKept_replayState (c : Core) (n : Nat) (x : DramCmd) : ReplayKept n c (c.replayState n x) := by
  have hpd : ∀ (pr : Nat) (b : Bool), ReplayKept n c (c.putBit (Obj.Sc.PD_MASK n) pr b) := fun pr b => replayKept_put c _ (.inl rfl)
  cases x <;> simp only [replayState] <;> try exact .refl n c
  case act b row => exact replayKept_updMc c n fun _ => rfl
  case pre b => exact replayKept_updMc c n fun _ => rfl
  case preAll lr => exact replayKept_updMc c n fun m => stopped_foldl_close _ m
  case rd b row _ => exact replayKept_replayOpen c n b row
  case wr b row _ => exact replayKept_replayOpen c n b row
  case pdEnter pr => exact replayKept_ite ((hpd pr true).trans (replayKept_put _ _ (.inr rfl))) (hpd pr true)
  case pdExit pr => exact replayKept_ite ((hpd pr false).trans (replayKept_put _ _ (.inr rfl))) (hpd pr false)

/-- A read of the window takes its data anew. -/
def rereadAt (c : Core) (mem : Memory) (h : HistCmd) (r : Req64) : Req64 :=
  if h.read == some r.id && (r.at_ == .out || r.at_ == .stale) then
    { r with data := mem.burst (c.paOf r.ha), poison := mem.poisoned (c.paOf r.ha), replayed := true }
  else r

theorem replayOne_eq (c : Core) (mem : Memory) (n : Nat) (h : HistCmd) : c.replayOne mem n h =
    (((c.replayState n h.cmd).updMc n fun m => { m with flight := m.flight.map (c.rereadAt mem h) }).command n h.cmd h.read h.wrote,
      match h.wrote with | some (pa, data, poison) => mem.setBurst pa data poison | none => mem) := rfl

/-- One command of the window again: it is on the wire, and of memory it writes its own burst alone. -/
theorem replayOne_facts (c : Core) (mem : Memory) (n : Nat) (h : HistCmd) : ReplayKept n c (c.replayOne mem n h).1 ∧
    .dram n h.cmd (c.parLevel h.cmd) ∈ (c.replayOne mem n h).1.out ∧
    ∀ a, (∀ x, h.wrote = some x → ¬ (64 * x.1 ≤ a ∧ a < 64 * x.1 + 64)) → (c.replayOne mem n h).2.byte a = mem.byte a := by
  have h1 := replayKept_replayState c n h.cmd
  rw [replayOne_eq]
  dsimp only
  generalize c.replayState n h.cmd = a at h1
  have h2 := h1.trans (replayKept_updMc a n (f := fun m => { m with flight := m.flight.map (c.rereadAt mem h) }) fun _ => rfl)
  generalize (a.updMc n fun m => { m with flight := m.flight.map (c.rereadAt mem h) }) = b at h2
  have hpar : b.parLevel h.cmd = c.parLevel h.cmd :=
    parLevel_congr (h2.1 _ (by decide) (by simp; omega) (by simp; omega)) h.cmd
  refine ⟨h2.trans (replayKept_command b n _ _ _), ?_, fun x hx => ?_⟩
  · rw [(command_facts b n h.cmd h.read h.wrote).2.2.2.1, hpar]
    exact List.mem_append_right _ (.head _)
  · cases hw : h.wrote with
    | none => rfl
    | some x => exact Memory.byte_setBurst_out _ _ _ (hx x hw)

/-- The window again, in order. -/
theorem replayWindow_facts (n : Nat) (win : List HistCmd) (c : Core) (mem : Memory) :
    ReplayKept n c (win.foldl (fun x h => x.1.replayOne x.2 n h) (c, mem)).1 ∧
    (∀ h ∈ win, .dram n h.cmd (c.parLevel h.cmd) ∈ (win.foldl (fun x h => x.1.replayOne x.2 n h) (c, mem)).1.out) ∧
    ∀ a, (∀ h ∈ win, ∀ x, h.wrote = some x → ¬ (64 * x.1 ≤ a ∧ a < 64 * x.1 + 64)) →
      (win.foldl (fun x h => x.1.replayOne x.2 n h) (c, mem)).2.byte a = mem.byte a := by
  induction win generalizing c mem with
  | nil => exact ⟨.refl n c, nofun, fun _ _ => rfl⟩
  | cons h win ih =>
    obtain ⟨a1, a2, a3⟩ := replayOne_facts c mem n h
    rw [List.foldl_cons]
    dsimp only at *
    generalize c.replayOne mem n h = y at a1 a2 a3
    obtain ⟨d, m⟩ := y
    obtain ⟨b1, b2, b3⟩ := ih d m
    refine ⟨a1.trans b1, fun x hx => ?_, fun a ha => ?_⟩
    · rcases List.mem_cons.1 hx with rfl | hx
      · obtain ⟨l, hl⟩ := b1.2.2.2.2.1
        rw [hl]
        exact List.mem_append_left _ a2
      · rw [← parLevel_congr (a1.1 _ (by decide) (by simp; omega) (by simp; omega)) x.cmd]
        exact b2 x hx
    · exact (b3 a fun x hx => ha x (.tail _ hx)).trans (a3 a (ha h (.head _)))

/-- Precharge-all to each logical rank in turn. -/
theorem preAlls_facts (n : Nat) (l : List Nat) (c : Core) : ReplayKept n c (l.foldl (fun c lr => c.issuePreAll n lr) c) ∧
    ∀ lr ∈ l, .dram n (.preAll lr) (c.parLevel (.preAll lr)) ∈ (l.foldl (fun c lr => c.issuePreAll n lr) c).out := by
  refine ⟨replayKept_foldl l _ (fun c lr => replayKept_issuePreAll c n lr) c, ?_⟩
  induction l generalizing c with
  | nil => exact nofun
  | cons y l ih =>
    intro lr hlr
    have h1 := replayKept_issuePreAll c n y
    rw [List.foldl_cons]
    rcases List.mem_cons.1 hlr with rfl | hlr
    · obtain ⟨o, ho⟩ := (replayKept_foldl l _ (fun c lr => replayKept_issuePreAll c n lr) (c.issuePreAll n lr)).2.2.2.2.1
      rw [ho]
      refine List.mem_append_left _ ?_
      unfold issuePreAll
      dsimp only
      rw [(order_facts _ n _).2.2.2.2.1, parLevel_congr (get_setMc c _ n _)]
      exact List.mem_append_right _ (.head _)
    · rw [← parLevel_congr (h1.1 _ (by decide) (by simp; omega) (by simp; omega)) (.preAll lr)]
      exact ih (c.issuePreAll n y) lr hlr

theorem replayKept_replayReady (c : Core) (n : Nat) : ReplayKept n c (c.replayReady n) := by
  have h1 : ReplayKept n c (if (c.mcOf n).srAt ≠ 0 then ((c.order n (.srExit 0)).order n (.srExit 1)).abandonEntry n else c) :=
    replayKept_ite (((replayKept_order c n _).trans (replayKept_order _ n _)).trans (replayKept_abandonEntry _ n)) (.refl n c)
  unfold replayReady
  dsimp only
  generalize (if (c.mcOf n).srAt ≠ 0 then ((c.order n (.srExit 0)).order n (.srExit 1)).abandonEntry n else c) = a at h1
  have h2 : ReplayKept n a (match (c.eccOf n).repair with
      | some x => if x.alerted && x.phase = 3 then a.order n (.repairMode x.k.lr x.k.lane false) else a
      | none => a) := by
    split
    · exact replayKept_ite (replayKept_order a n _) (.refl n a)
    · exact .refl n a
  refine (h1.trans h2).trans (replayKept_foldl _ _ (fun c pr => ?_) _)
  exact replayKept_ite ((replayKept_pdExit c n pr).trans (replayKept_updMc _ n fun _ => rfl)) (.refl n c)

theorem replayKept_wakeOwed (c : Core) (n : Nat) : ReplayKept n c (c.wakeOwed n) := by
  unfold wakeOwed
  refine replayKept_foldl _ _ (fun c pr => ?_) c
  exact replayKept_ite (replayKept_ite (replayKept_pdExit c n pr) (replayKept_updMc c n fun _ => rfl)) (.refl n c)

/-! ## The replay as a whole (R199, R217) -/

/-- The register side after a replay that ends at `t`. -/
def replayed (d : DdrState) (t : Nat) : DdrState :=
  { d with alertLow := false, alertOwed := false, replayEnd := t
           train := d.train.map fun t => if t.waiting then t else { t with repeats := t.repeats + 1 } }

/-- The core that the window has left, with commands that go on. -/
def resumed (c : Core) (n t : Nat) : Core :=
  ((c.updDdr n fun d => replayed d t).updMc n fun m => { m with stopped := false }).wakeOwed n

/-- The counts and flags of a replay. -/
def replayMarked (c : Core) (n : Nat) : Core :=
  (((c.inc (Obj.Train.ALERT_EVENTS n)).inc (Obj.Train.CA_REPLAYS n)).flag (Obj.Train.FLAGS n) 0).flag Obj.Phy.FLAGS 0

/-- The counts and flags of a replay, and the end of the event. -/
def replayCounted (c : Core) (n : Nat) : Core := (c.replayMarked n).endStanding (Src.ddrAlert n)

theorem replay_eq (c : Core) (mem : Memory) (n : Nat) : c.replay mem n =
    let x := (c.alertWindow n).foldl (fun x h => x.1.replayOne x.2 n h)
      ((List.range 8).foldl (fun c lr => c.issuePreAll n lr) (c.replayReady n), mem)
    ((x.1.resumed n c.tick).replayCounted n, x.2) := rfl

theorem resumed_facts (c : Core) (n t : Nat) :
    (∀ k, ¬ isSluiceKey k → k ≠ Obj.Sc.PD_MASK n → k ≠ Obj.Sc.STATE n → (c.resumed n t).get k = c.get k) ∧
    (∃ h, (c.resumed n t).ddrOf n = { replayed (c.ddrOf n) t with history := h }) ∧ (c.resumed n t).ecc = c.ecc ∧
    (∃ l, (c.resumed n t).out = c.out ++ l) ∧ ((c.resumed n t).mcOf n).stopped = false := by
  unfold resumed
  obtain ⟨h1, ⟨x, h2⟩, -, h4, ⟨l, h5⟩, h6⟩ := replayKept_wakeOwed
    ((c.updDdr n fun d => replayed d t).updMc n fun m => { m with stopped := false }) n
  refine ⟨h1, ⟨x, ?_⟩, h4, ⟨l, h5⟩, h6.trans ?_⟩
  · rw [h2, updMc, ddrOf_setMc, ddrOf_updDdr_self]
  · rw [updMc, mcOf_setMc_self]

theorem out_endStanding (c : Core) (s : Nat) : (c.endStanding s).out = c.out := by
  unfold endStanding
  split_ifs <;> rfl

theorem endStanding_count (c : Core) (s t : Nat) : (c.endStanding s).get (Obj.Source.COUNT t) = c.get (Obj.Source.COUNT t) := by
  unfold endStanding
  split_ifs
  · exact get_withFc _ _ _
  · rfl
  · exact setPair_count c s t 0

theorem replayMarked_facts (c : Core) (n : Nat) :
    (∀ i, (c.replayMarked n).mcOf i = c.mcOf i) ∧ (∀ i, (c.replayMarked n).ddrOf i = c.ddrOf i) ∧ (c.replayMarked n).ecc = c.ecc ∧
    (c.replayMarked n).out = c.out ∧ (c.replayMarked n).bitOf (Obj.Train.FLAGS n) 0 = true ∧
    (c.replayMarked n).get (Obj.Train.ALERT_EVENTS n) = min (c.get (Obj.Train.ALERT_EVENTS n) + 1) (2 ^ 32 - 1) ∧
    (c.replayMarked n).get (Obj.Train.CA_REPLAYS n) = min (c.get (Obj.Train.CA_REPLAYS n) + 1) (2 ^ 32 - 1) := by
  unfold replayMarked
  refine ⟨fun i => ?_, fun i => ?_, ?_, ?_, ?_, ?_, ?_⟩
  · simp only [flag, putBit, inc, add, mcOf_put]
  · simp only [flag, putBit, inc, add, ddrOf_put]
  · simp only [flag, putBit, inc, add, ecc_put]
  · simp only [flag, putBit, inc, add, out_put]
  · rw [bitOf_congr 0 (get_flag_ne _ _ (by simp; omega)), bitOf_flag_self]
  · rw [get_flag_ne _ _ (by simp; omega), get_flag_ne _ _ (by simp), get_inc_ne _ (by simp), get_inc_min]
  · rw [get_flag_ne _ _ (by simp; omega), get_flag_ne _ _ (by simp), get_inc_min, get_inc_ne _ (by simp)]

theorem replayCounted_facts {n : Nat} (hn : n < 32) (c : Core) :
    (∀ i, (c.replayCounted n).mcOf i = c.mcOf i) ∧ (∀ i, (c.replayCounted n).ddrOf i = c.ddrOf i) ∧ (c.replayCounted n).ecc = c.ecc ∧
    (c.replayCounted n).out = c.out ∧ (c.replayCounted n).bitOf (Obj.Train.FLAGS n) 0 = true ∧
    (c.replayCounted n).get (Obj.Train.ALERT_EVENTS n) = min (c.get (Obj.Train.ALERT_EVENTS n) + 1) (2 ^ 32 - 1) ∧
    (c.replayCounted n).get (Obj.Train.CA_REPLAYS n) = min (c.get (Obj.Train.CA_REPLAYS n) + 1) (2 ^ 32 - 1) := by
  obtain ⟨h1, h2, h3, h4, h5, h6, h7⟩ := replayMarked_facts c n
  unfold replayCounted
  generalize c.replayMarked n = g at h1 h2 h3 h4 h5 h6 h7
  have hfc := fcOnly_endStanding g (Src.ddrAlert n) (by simp only [Src.ddrAlert]; omega)
  refine ⟨fun i => (hfc.mcOf i).trans (h1 i), fun i => (hfc.ddrOf i).trans (h2 i), hfc.ecc.trans h3, (out_endStanding _ _).trans h4,
    (bitOf_congr 0 (hfc.2 _ (by simp; omega))).trans h5, (hfc.2 _ (by simp; omega)).trans h6, (hfc.2 _ (by simp; omega)).trans h7⟩

theorem replay_facts (hn : n < 32) (c : Core) (mem : Memory) :
    (∃ h, ((c.replay mem n).1.ddrOf n) = { replayed (c.ddrOf n) c.tick with history := h }) ∧
    (((c.replay mem n).1.mcOf n).stopped = false) ∧ (c.replay mem n).1.bitOf (Obj.Train.FLAGS n) 0 = true ∧
    (c.replay mem n).1.get (Obj.Train.ALERT_EVENTS n) = min (c.get (Obj.Train.ALERT_EVENTS n) + 1) (2 ^ 32 - 1) ∧
    (c.replay mem n).1.get (Obj.Train.CA_REPLAYS n) = min (c.get (Obj.Train.CA_REPLAYS n) + 1) (2 ^ 32 - 1) ∧
    (∀ lr < 8, .dram n (.preAll lr) (c.parLevel (.preAll lr)) ∈ (c.replay mem n).1.out) ∧
    (∀ h ∈ c.alertWindow n, .dram n h.cmd (c.parLevel h.cmd) ∈ (c.replay mem n).1.out) ∧
    (∀ a, (∀ h ∈ c.alertWindow n, ∀ x, h.wrote = some x → ¬ (64 * x.1 ≤ a ∧ a < 64 * x.1 + 64)) →
      (c.replay mem n).2.byte a = mem.byte a) ∧ (c.replay mem n).1.ecc = c.ecc := by
  have h1 := replayKept_replayReady c n
  rw [replay_eq]
  dsimp only
  generalize c.alertWindow n = win
  generalize c.replayReady n = a at h1
  have hpa := parLevel_congr (h1.1 _ (by decide) (by simp; omega) (by simp; omega))
  obtain ⟨p1, p2⟩ := preAlls_facts n (List.range 8) a
  have h2 := h1.trans p1
  generalize (List.range 8).foldl (fun c lr => c.issuePreAll n lr) a = b at h2 p1 p2
  have hpb := parLevel_congr (h2.1 _ (by decide) (by simp; omega) (by simp; omega))
  obtain ⟨w1, w2, w3⟩ := replayWindow_facts n win b mem
  have h3 := h2.trans w1
  generalize win.foldl (fun x h => x.1.replayOne x.2 n h) (b, mem) = y at h3 w1 w2 w3
  obtain ⟨e, m⟩ := y
  dsimp only at h3 w1 w2 w3 ⊢
  obtain ⟨k1, ⟨x, k2⟩, -, k4, -, -⟩ := h3
  obtain ⟨r1, ⟨z, r2⟩, r3, ⟨l, r4⟩, r5⟩ := resumed_facts e n c.tick
  generalize e.resumed n c.tick = g at r1 r2 r3 r4 r5
  obtain ⟨q1, q2, q3, q4, q5, q6, q7⟩ := replayCounted_facts hn g
  generalize g.replayCounted n = u at q1 q2 q3 q4 q5 q6 q7
  have hout : ∀ o, o ∈ e.out → o ∈ u.out := fun o ho => by
    rw [q4, r4]
    exact List.mem_append_left _ ho
  obtain ⟨l', hl'⟩ := w1.2.2.2.2.1
  refine ⟨⟨z, ?_⟩, ?_, q5, ?_, ?_, fun lr hlr => hout _ ?_, fun h hh => hout _ ?_, w3, ?_⟩
  · rw [q2, r2, k2]
    rfl
  · rw [q1, r5]
  · rw [q6, r1 _ (by simp [isSluiceKey]; omega) (by simp; omega) (by simp; omega),
      k1 _ (by simp [isSluiceKey]; omega) (by simp; omega) (by simp; omega)]
  · rw [q7, r1 _ (by simp [isSluiceKey]; omega) (by simp; omega) (by simp; omega),
      k1 _ (by simp [isSluiceKey]; omega) (by simp; omega) (by simp; omega)]
  · rw [hl', ← hpa]
    exact List.mem_append_left _ (p2 lr (List.mem_range.2 hlr))
  · rw [← hpb]
    exact w2 h hh
  · rw [q3, r3, k4]

end Core
end Sys2Proof.Machine
end

section
/-! PROOFS. The statement about ALERT_n (08_ddr5_redrive_training.md R199 to R201, R217): the events, and the statement. -/

namespace Sys2Proof.Machine

namespace Core

variable {c d : Core} {n : Nat}

/-! ## The way to OFFLINE (R200) -/

theorem alertOffline_eq (c : Core) (n : Nat) : c.alertOffline n =
    ((if (c.ddrOf n).alertLow then c.inc (Obj.Train.ALERT_EVENTS n) else c).enterOffline n false true).endStanding (Src.ddrAlert n) := by
  rw [alertOffline, goOffline, Bool.true_or, if_pos rfl]

/-- What an event that ends the replays leaves: the subchannel OFFLINE, its content lost, and what has been raised and flagged. -/
theorem alertOffline_facts (hn : n < 32) (c : Core) : (c.alertOffline n).get (Obj.Sc.STATE n) = 3 ∧
    ((c.alertOffline n).mcOf n).inReset = true ∧ (c.alertOffline n).bitOf Obj.ScMask.CONTENT_LOST n = true ∧
    ((c.alertOffline n).ddrOf n).alertLow = false ∧ ((c.alertOffline n).ddrOf n).chain = 0 ∧
    (c.alertOffline n).get (Obj.Train.FLAGS n) = c.get (Obj.Train.FLAGS n) ∧
    (c.alertOffline n).get (Obj.Train.PARITY_UNRECOVERED n) = c.get (Obj.Train.PARITY_UNRECOVERED n) ∧
    (c.alertOffline n).get (Obj.Source.COUNT (Src.ddrAlert n)) = c.get (Obj.Source.COUNT (Src.ddrAlert n)) := by
  have heq := alertOffline_eq c n
  obtain ⟨a, ha⟩ : ∃ a, a = if (c.ddrOf n).alertLow then c.inc (Obj.Train.ALERT_EVENTS n) else c := ⟨_, rfl⟩
  have hget : ∀ k, k ≠ Obj.Train.ALERT_EVENTS n → a.get k = c.get k := fun k hk => by
    rw [ha]
    split
    · exact get_inc_ne c hk
    · rfl
  rw [← ha] at heq
  obtain ⟨h1, h2, h3, h4, h5, h6, h7⟩ := enterOffline_lost_facts (c := a) hn false
  generalize a.enterOffline n false true = b at heq h1 h2 h3 h4 h5 h6 h7
  have hfc := fcOnly_endStanding b (Src.ddrAlert n) (by simp only [Src.ddrAlert]; omega)
  have hcount := endStanding_count b (Src.ddrAlert n) (Src.ddrAlert n)
  rw [heq]
  generalize b.endStanding (Src.ddrAlert n) = e at hfc hcount
  refine ⟨(hfc.2 _ (by simp; omega)).trans h1, by rw [hfc.mcOf, h2], (bitOf_congr n (hfc.2 _ (by decide))).trans h3,
    by rw [hfc.ddrOf, h4], by rw [hfc.ddrOf, h5], ?_, ?_, ?_⟩
  · rw [hfc.2 _ (by simp; omega), h6 _ (by simp [devKey]; omega) (by simp [isSluiceKey]; omega) (by simp; omega) (by simp; omega)
      (by simp; omega) (by simp), hget _ (by simp)]
  · rw [hfc.2 _ (by simp; omega), h6 _ (by simp [devKey]; omega) (by simp [isSluiceKey]; omega) (by simp; omega) (by simp; omega)
      (by simp; omega) (by simp), hget _ (by simp)]
  · rw [hcount, h7 _ (by simp only [Src.ddrAlert]; omega) (by simp only [Src.ddrAlert, Src.scOffline]; omega),
      hget _ (by simp [Src.ddrAlert]; omega)]

/-! ## The event (R199, R201) -/

/-- The event's number in its chain. -/
def alertChain (c : Core) (n : Nat) : Nat :=
  if (c.ddrOf n).chain ≠ 0 ∧ c.tick ≤ (c.ddrOf n).replayEnd + 500 then (c.ddrOf n).chain + 1 else 1

/-- The event is raised, and its window opens. -/
def alertRaised (c : Core) (n : Nat) : Core :=
  (c.raiseStanding (Src.ddrAlert n) (ctxNone 11 3)).openWindow 1 n
    (if c.fc.seq < (c.raiseStanding (Src.ddrAlert n) (ctxNone 11 3)).fc.seq then
      (c.raiseStanding (Src.ddrAlert n) (ctxNone 11 3)).fc.seq else 0)

/-- ALERT_n is low: commands stop, or in self-refresh the event is owed to the exit. -/
def alertHeld (c : Core) (n chain tick st : Nat) : Core :=
  ((c.updDdr n fun d => { d with alertLow := true, alertOwed := st = 2, chain := chain, alertAt := tick }).updMc n fun m =>
    { m with stopped := st ≠ 2 }).updEcc n fun e =>
      { e with repair := e.repair.map fun x => { x with alerted := x.alerted || x.phase = 3 } }

theorem alertEvent_eq (hlow : (c.ddrOf n).alertLow = false) (hh : c.alertHeard n = true) : c.alertEvent n =
    if c.alertChain n = 3 then
      ((((c.alertRaised n).alertHeld n (c.alertChain n) c.tick (c.scState n)).flag (Obj.Train.FLAGS n) 1).inc
        (Obj.Train.PARITY_UNRECOVERED n)).alertOffline n
    else (c.alertRaised n).alertHeld n (c.alertChain n) c.tick (c.scState n) := by
  have hchain : (if (c.ddrOf n).chain ≠ 0 && c.tick ≤ (c.ddrOf n).replayEnd + 500 then (c.ddrOf n).chain + 1 else 1) = c.alertChain n := by
    simp only [alertChain, Bool.and_eq_true, decide_eq_true_eq]
  unfold alertEvent
  dsimp only
  rw [hchain, if_neg (by rw [hlow, hh]; decide)]
  rfl

theorem source_ddrAlert : ∀ n < 32, (sourceInfo? (Src.ddrAlert n)).isNone = false := by decide +kernel

theorem alertRaised_facts (hn : n < 32) (c : Core) : c.FcOnly (c.alertRaised n) ∧ c.Raises (Src.ddrAlert n) (c.alertRaised n) := by
  have h1 := fcOnly_raiseStanding c (Src.ddrAlert n) (ctxNone 11 3)
  have h2 : c.Raises (Src.ddrAlert n) (c.raiseStanding (Src.ddrAlert n) (ctxNone 11 3)) :=
    raises_of_raiseStanding _ (source_ddrAlert n hn) rfl rfl
  unfold alertRaised
  generalize c.raiseStanding (Src.ddrAlert n) (ctxNone 11 3) = a at h1 h2
  exact ⟨h1.trans (fcOnly_openWindow a _ _ _), h2.of_get (openWindow_get a _ _ _ _)⟩

theorem alertHeld_facts (c : Core) (n k t st : Nat) : ((c.alertHeld n k t st).ddrOf n).alertLow = true ∧
    ((c.alertHeld n k t st).ddrOf n).chain = k ∧ ((c.alertHeld n k t st).ddrOf n).alertAt = t ∧
    ((c.alertHeld n k t st).ddrOf n).alertOwed = decide (st = 2) ∧ ((c.alertHeld n k t st).mcOf n).stopped = !decide (st = 2) ∧
    ∀ o, (c.alertHeld n k t st).get o = c.get o := by
  have hddr : (c.alertHeld n k t st).ddrOf n = { c.ddrOf n with alertLow := true, alertOwed := st = 2, chain := k, alertAt := t } := by
    unfold alertHeld
    rw [ddrOf_updEcc, updMc, ddrOf_setMc, ddrOf_updDdr_self]
  have hmc : (c.alertHeld n k t st).mcOf n = { c.mcOf n with stopped := st ≠ 2 } := by
    unfold alertHeld
    rw [mcOf_updEcc, updMc, mcOf_setMc_self, mcOf_updDdr]
  rw [hddr, hmc]
  exact ⟨rfl, rfl, rfl, rfl, decide_not, fun _ => rfl⟩

end Core

variable {s : State} {sc : ScNo}

/-! ## The clauses -/

theorem alerts_event (hup : s.core.hubUp = true) (hlow : (s.core.ddrOf sc.val).alertLow = false) (hh : s.core.alertHeard sc.val = true)
    (hne : s.core.alertChain sc.val ≠ 3) : AnswersThen (.alertEvent sc) s fun c =>
      (c.ddrOf sc.val).alertLow = true ∧ (c.ddrOf sc.val).chain = s.core.alertChain sc.val ∧ (c.ddrOf sc.val).alertAt = s.core.tick ∧
      (c.mcOf sc.val).stopped = !decide (s.core.scState sc.val = 2) ∧
      (c.ddrOf sc.val).alertOwed = decide (s.core.scState sc.val = 2) ∧ s.core.Raises (Src.ddrAlert sc.val) c := by
  have heq := Core.alertEvent_eq (c := s.clear.core) (n := sc.val) hlow hh
  rw [if_neg (show s.clear.core.alertChain sc.val ≠ 3 from hne)] at heq
  obtain ⟨-, h2⟩ := Core.alertRaised_facts sc.isLt s.clear.core
  obtain ⟨a1, a2, a3, a4, a5, a6⟩ := Core.alertHeld_facts (s.clear.core.alertRaised sc.val) sc.val (s.clear.core.alertChain sc.val)
    s.clear.core.tick (s.clear.core.scState sc.val)
  refine answersThen_onHub (fun c => c.alertEvent sc.val) rfl hup ?_
  rw [heq]
  exact ⟨a1, a2, a3, a5, a4, h2.of_get (a6 _)⟩

theorem alerts_third (hup : s.core.hubUp = true) (hlow : (s.core.ddrOf sc.val).alertLow = false) (hh : s.core.alertHeard sc.val = true)
    (hthird : s.core.alertChain sc.val = 3) : AnswersThen (.alertEvent sc) s fun c =>
      c.get (Obj.Sc.STATE sc.val) = 3 ∧ (c.mcOf sc.val).inReset = true ∧ c.bitOf Obj.ScMask.CONTENT_LOST sc.val = true ∧
      (c.ddrOf sc.val).alertLow = false ∧ (c.ddrOf sc.val).chain = 0 ∧ c.bitOf (Obj.Train.FLAGS sc.val) 1 = true ∧
      s.core.Raises (Src.ddrAlert sc.val) c ∧
      c.get (Obj.Train.PARITY_UNRECOVERED sc.val) = min (s.core.get (Obj.Train.PARITY_UNRECOVERED sc.val) + 1) (2 ^ 32 - 1) := by
  have hn := sc.isLt
  have heq := Core.alertEvent_eq (c := s.clear.core) (n := sc.val) hlow hh
  rw [if_pos (show s.clear.core.alertChain sc.val = 3 from hthird)] at heq
  obtain ⟨h1, h2⟩ := Core.alertRaised_facts sc.isLt s.clear.core
  obtain ⟨-, -, -, -, -, a6⟩ := Core.alertHeld_facts (s.clear.core.alertRaised sc.val) sc.val (s.clear.core.alertChain sc.val)
    s.clear.core.tick (s.clear.core.scState sc.val)
  refine answersThen_onHub (fun c => c.alertEvent sc.val) rfl hup ?_
  rw [heq]
  generalize (s.clear.core.alertRaised sc.val).alertHeld sc.val (s.clear.core.alertChain sc.val) s.clear.core.tick
    (s.clear.core.scState sc.val) = d at a6
  obtain ⟨b1, b2, b3, b4, b5, b6, b7, b8⟩ := Core.alertOffline_facts sc.isLt
    ((d.flag (Obj.Train.FLAGS sc.val) 1).inc (Obj.Train.PARITY_UNRECOVERED sc.val))
  refine ⟨b1, b2, b3, b4, b5, ?_, h2.of_get ?_, ?_⟩
  · rw [Core.bitOf_congr 1 b6, Core.bitOf_congr 1 (Core.get_inc_ne _ (by simp)), Core.bitOf_flag_self]
  · rw [b8, Core.get_inc_ne _ (by simp; omega), Core.get_flag_ne _ _ (by simp; omega), a6]
  · rw [b7, Core.get_inc_min, Core.get_flag_ne _ _ (by simp), a6, h1.2 _ (by simp; omega)]
    rfl

theorem alerts_stuck (hup : s.core.hubUp = true) (hr : (s.core.mcOf sc.val).inReset = false) : AnswersThen (.alertStuck sc) s fun c =>
      c.get (Obj.Sc.STATE sc.val) = 3 ∧ (c.mcOf sc.val).inReset = true ∧ c.bitOf Obj.ScMask.CONTENT_LOST sc.val = true ∧
      c.bitOf (Obj.Train.FLAGS sc.val) 2 = true ∧ (c.ddrOf sc.val).alertLow = false ∧ s.core.Raises (Src.ddrAlert sc.val) c := by
  have hn := sc.isLt
  have heq : s.clear.core.alertStuck sc.val =
      ((s.clear.core.raise (Src.ddrAlert sc.val) (ctxNone 11 3)).flag (Obj.Train.FLAGS sc.val) 2).alertOffline sc.val := by
    rw [Core.alertStuck, if_neg]
    rw [State.clear_mcOf, hr]
    decide
  have h1 : s.core.Raises (Src.ddrAlert sc.val) (s.clear.core.raise (Src.ddrAlert sc.val) (ctxNone 11 3)) :=
    Core.raises_of_raise _ (Core.source_ddrAlert _ hn) rfl rfl
  refine answersThen_onHub (fun c => c.alertStuck sc.val) rfl hup ?_
  rw [heq]
  generalize s.clear.core.raise (Src.ddrAlert sc.val) (ctxNone 11 3) = d at h1
  obtain ⟨b1, b2, b3, b4, -, b6, -, b8⟩ := Core.alertOffline_facts hn (d.flag (Obj.Train.FLAGS sc.val) 2)
  refine ⟨b1, b2, b3, ?_, b4, h1.of_get ?_⟩
  · rw [Core.bitOf_congr 2 b6, Core.bitOf_flag_self]
  · rw [b8, Core.get_flag_ne _ _ (by simp; omega)]

/-- A subchannel that repairs nothing repairs nothing after the event's end. -/
theorem repairTurn_idle {c : Core} {n : Nat} (h : (c.eccOf n).repair = none) : c.repairTurn n = c := by rw [Core.repairTurn, h]

theorem alerts_replay (hup : s.core.hubUp = true) (hlow : (s.core.ddrOf sc.val).alertLow = true)
    (howed : (s.core.ddrOf sc.val).alertOwed = false) (hrep : (s.core.eccOf sc.val).repair = none) :
    AnswersAll (.alertDeassert sc) s fun u =>
      (u.core.ddrOf sc.val).alertLow = false ∧ (u.core.ddrOf sc.val).replayEnd = s.core.tick ∧
      (u.core.mcOf sc.val).stopped = false ∧ u.core.bitOf (Obj.Train.FLAGS sc.val) 0 = true ∧
      u.core.get (Obj.Train.ALERT_EVENTS sc.val) = min (s.core.get (Obj.Train.ALERT_EVENTS sc.val) + 1) (2 ^ 32 - 1) ∧
      u.core.get (Obj.Train.CA_REPLAYS sc.val) = min (s.core.get (Obj.Train.CA_REPLAYS sc.val) + 1) (2 ^ 32 - 1) ∧
      (∀ lr < 8, .dram sc.val (.preAll lr) (s.core.parLevel (.preAll lr)) ∈ u.core.out) ∧
      (∀ h ∈ s.core.alertWindow sc.val, .dram sc.val h.cmd (s.core.parLevel h.cmd) ∈ u.core.out) ∧
      (∀ t, (s.core.ddrOf sc.val).train = some t → t.waiting = false →
        (u.core.ddrOf sc.val).train = some { t with repeats := t.repeats + 1 }) ∧
      (∀ a, (∀ h ∈ s.core.alertWindow sc.val, ∀ x, h.wrote = some x → ¬ (64 * x.1 ≤ a ∧ a < 64 * x.1 + 64)) →
        u.mem.byte a = s.mem.byte a) ∧ u.fuses = s.fuses ∧ u.latch = s.latch := by
  have heq : s.clear.core.alertDeassert s.mem sc.val = s.clear.core.replay s.mem sc.val := by
    rw [Core.alertDeassert, show s.clear.core.ddrOf sc.val = s.core.ddrOf sc.val from rfl, hlow, howed]
    rfl
  obtain ⟨⟨z, h1⟩, h2, h3, h4, h5, h6, h7, h8, h9⟩ := Core.replay_facts sc.isLt s.clear.core s.mem
  have hidle : ((s.clear.core.replay s.mem sc.val).1.eccOf sc.val).repair = none := by
    rw [Core.eccOf, h9]
    exact hrep
  refine answersAll_onHubMem (fun c m => let x := c.alertDeassert m sc.val; (x.1.repairTurn sc.val, x.2)) rfl hup ?_
  dsimp only
  rw [heq, repairTurn_idle hidle]
  refine ⟨by rw [h1]; rfl, by rw [h1]; rfl, h2, h3, h4, h5, h6, h7, fun t ht hw => ?_, h8, rfl, rfl⟩
  rw [h1]
  show Option.map _ (s.core.ddrOf sc.val).train = _
  rw [ht, Option.map_some, if_neg (by rw [hw]; decide)]

theorem alerts_owed (hup : s.core.hubUp = true) (hlow : (s.core.ddrOf sc.val).alertLow = true)
    (howed : (s.core.ddrOf sc.val).alertOwed = true) (hrep : (s.core.eccOf sc.val).repair = none) :
    AnswersCore (.alertDeassert sc) s fun c =>
      (c.ddrOf sc.val).alertLow = false ∧ (c.ddrOf sc.val).alertOwed = true ∧ ∀ k, c.get k = s.core.get k := by
  have heq : s.clear.core.alertDeassert s.mem sc.val = (s.clear.core.updDdr sc.val fun d => { d with alertLow := false }, s.mem) := by
    rw [Core.alertDeassert, show s.clear.core.ddrOf sc.val = s.core.ddrOf sc.val from rfl, hlow, howed]
    rfl
  have hddr := Core.ddrOf_updDdr_self s.clear.core sc.val fun d => { d with alertLow := false }
  have hidle : ((s.clear.core.updDdr sc.val fun d => { d with alertLow := false }).eccOf sc.val).repair = none := hrep
  have hreq : (s.clear.core.updDdr sc.val fun d => { d with alertLow := false }).req = [] := rfl
  have hget : ∀ k, (s.clear.core.updDdr sc.val fun d => { d with alertLow := false }).get k = s.core.get k := fun k => State.clear_get s k
  generalize (s.clear.core.updDdr sc.val fun d => { d with alertLow := false }) = d at heq hddr hidle hreq hget
  refine answersCore_onMem (c := d) (fun c m => let x := c.alertDeassert m sc.val; (x.1.repairTurn sc.val, x.2)) ?_ ?_ hreq ?_
  · show Host.Outcome.next (s.onHubMem _) = _
    rw [State.onHubMem, State.when, hup]
    rfl
  · dsimp only
    rw [heq, repairTurn_idle hidle]
  · exact ⟨by rw [hddr], by rw [hddr]; exact howed, hget⟩

/-- Settles O36: an event is raised and stops the commands or is owed, a third one and a stuck pin end in OFFLINE, and the end of an
event replays its window. -/
theorem alerts : Obligations.Alerts := by
  unfold Obligations.Alerts
  refine ⟨fun s sc n hup hlow hh hn hne => ?_, fun s sc hup hlow hh h2 htick => alerts_third hup hlow hh ?_,
    fun s sc hup hlow howed hrep => alerts_replay hup hlow howed hrep, fun s sc hup hlow howed hrep => alerts_owed hup hlow howed hrep,
    fun s sc hup hr => alerts_stuck hup hr⟩
  · subst hn
    exact alerts_event hup hlow hh hne
  · rw [Core.alertChain, if_pos ⟨by rw [h2]; decide, htick⟩, h2]

end Sys2Proof.Machine
end

section
/-! PROOFS. What the end of a command leaves of a subchannel's STATE and of a device in DESCENT (16_states_start_sluice.md R408,
R409, R420): while the latch is clear nothing ends DESCENT, and while a start goes on only the way to OFFLINE changes STATE. -/

namespace Sys2Proof.Machine

namespace Core

variable {c d e : Core} {n i : Nat}

/-- The objects of regions, streams and windows, the sequencer's own, SUSPECTS of subchannel 0 and STATE of lease 0. -/
def calmKey (k : Nat) : Prop := (0x200000 ≤ k ∧ k < 0x300000) ∨ (0x400000 ≤ k ∧ k < 0x401000) ∨ k = 0x600806 ∨ k = 0x350001

/-- A calm object, the STATE of subchannel n, or the device state. -/
def heldKey (n k : Nat) : Prop := calmKey k ∨ k = Obj.Sc.STATE n ∨ k = Obj.Dev.DEVICE_STATE

/-- From `c` to `d` a start under way may end but none begins, the STATE of subchannel n stays or becomes OFFLINE, a device in
DESCENT stays there, and so do the calm objects. -/
def Goes (n : Nat) (c d : Core) : Prop :=
  (d.start.isSome = true → c.start.isSome = true) ∧ (d.scState n = c.scState n ∨ d.scState n = 3) ∧
    (c.dev = Dv.descent → d.dev = Dv.descent) ∧ ∀ k, calmKey k → d.get k = c.get k

theorem Goes.refl (n : Nat) (c : Core) : Goes n c c := ⟨id, .inl rfl, id, fun _ _ => rfl⟩

theorem Goes.trans (h : Goes n c d) (h' : Goes n d e) : Goes n c e := by
  obtain ⟨h1, h2, h3, h4⟩ := h
  obtain ⟨k1, k2, k3, k4⟩ := h'
  refine ⟨fun he => h1 (k1 he), ?_, fun hc => k3 (h3 hc), fun k hk => (k4 k hk).trans (h4 k hk)⟩
  rcases k2 with k2 | k2
  · rwa [k2]
  · exact .inr k2

theorem Goes.start_none (h : Goes n c d) (hc : c.start = none) : d.start = none := by
  cases hd : d.start with
  | none => rfl
  | some r =>
    have := h.1 (by rw [hd]; rfl)
    rw [hc] at this
    exact absurd this (by decide)

theorem goes_of (hs : d.start = c.start) (hg : ∀ k, heldKey n k → d.get k = c.get k) : Goes n c d :=
  ⟨fun h => hs ▸ h, .inl (hg _ (.inr (.inl rfl))), fun h => (hg _ (.inr (.inr rfl))).trans h, fun k hk => hg k (.inl hk)⟩

theorem goes_ite {p : Prop} [Decidable p] {x y : Core} (hx : Goes n c x) (hy : Goes n c y) : Goes n c (if p then x else y) := by
  split
  · exact hx
  · exact hy

theorem goes_foldl {α : Type} (l : List α) (f : Core → α → Core) (h : ∀ c x, Goes n c (f c x)) (c : Core) : Goes n c (l.foldl f c) := by
  induction l generalizing c with
  | nil => exact .refl n c
  | cons x l ih => exact (h c x).trans (ih (f c x))

theorem goes_each (k : Nat) (f : Core → Nat → Core) (h : ∀ c x, Goes n c (f c x)) (c : Core) : Goes n c (c.each k f) :=
  each_induct (Goes n c) k f c (.refl n c) fun d i _ hd => hd.trans (h d i)

theorem goes_put (c : Core) (v : Nat) {k : Nat} (h : ¬ heldKey n k) : Goes n c (c.put k v) :=
  goes_of rfl fun _ ho => get_put_ne _ _ fun hk => h (hk ▸ ho)

theorem goes_fcOnly (h : c.FcOnly d) : Goes n c d :=
  goes_of h.start fun k hk => h.2 k (by unfold isFcKey; unfold heldKey calmKey at hk; simp at hk ⊢; omega)

theorem goes_sluice (h : c.SluiceOnly d) : Goes n c d :=
  goes_of h.start fun k hk => h.get (by unfold isSluiceKey; unfold heldKey calmKey at hk; simp at hk ⊢; omega)

/-! ## The device state and the start -/

theorem start_setDev (c : Core) (v : Nat) : (c.setDev v).start = c.start := by
  unfold setDev
  split
  · rfl
  · have hask : ∀ (d : Core) (r : Req), (d.ask r).start = d.start := fun _ _ => rfl
    rw [hask, (fcOnly_pins _).start]
    rfl

/-- A device that leaves a state other than DESCENT. -/
theorem goes_setDev (c : Core) (v : Nat) (h : c.dev ≠ Dv.descent) : Goes n c (c.setDev v) :=
  ⟨fun hs => start_setDev c v ▸ hs, .inl (get_setDev (by simp [devKey]; omega)), fun hd => absurd hd h,
    fun k hk => get_setDev (by unfold calmKey at hk; unfold devKey; simp; omega)⟩

theorem goes_autoState (c : Core) : Goes n c c.autoState := by
  unfold autoState
  split
  · next h =>
    refine goes_setDev c _ fun hd => ?_
    rw [inService, hd] at h
    exact absurd h (by simp)
  · exact .refl n c

theorem start_finishStart (c : Core) (r : StartRun) : (c.finishStart r).start = none := by
  unfold finishStart
  exact start_setDev _ _

/-- From `c` to `d` no start begins or ends, and the calm objects stay. -/
def Calm (c d : Core) : Prop := d.start = c.start ∧ ∀ k, calmKey k → d.get k = c.get k

theorem Calm.trans (h : Calm c d) (h' : Calm d e) : Calm c e := ⟨h'.1.trans h.1, fun k hk => (h'.2 k hk).trans (h.2 k hk)⟩

theorem Calm.refl (c : Core) : Calm c c := ⟨rfl, fun _ _ => rfl⟩

theorem calm_put (c : Core) (v : Nat) {k : Nat} (h : ¬ calmKey k) : Calm c (c.put k v) :=
  ⟨rfl, fun _ ho => get_put_ne _ _ fun hk => h (hk ▸ ho)⟩

theorem calm_inc (c : Core) {k : Nat} (h : ¬ calmKey k) : Calm c (c.inc k) := calm_put c _ h

theorem calm_fcOnly (h : c.FcOnly d) : Calm c d :=
  ⟨h.start, fun k hk => h.2 k (by unfold isFcKey; unfold calmKey at hk; omega)⟩

theorem calm_sluice (h : c.SluiceOnly d) : Calm c d :=
  ⟨h.start, fun k hk => h.get (by unfold isSluiceKey; unfold calmKey at hk; simp; omega)⟩

theorem calm_withFc (c : Core) (f : FcState) : Calm c (c.withFc f) := ⟨rfl, fun _ _ => rfl⟩

theorem calm_ite {p : Prop} [Decidable p] {x y : Core} (hx : Calm c x) (hy : Calm c y) : Calm c (if p then x else y) := by
  split
  · exact hx
  · exact hy

theorem calm_foldl {α : Type} (l : List α) (f : Core → α → Core) (h : ∀ c x, Calm c (f c x)) (c : Core) : Calm c (l.foldl f c) := by
  induction l generalizing c with
  | nil => exact .refl c
  | cons x l ih => exact (h c x).trans (ih (f c x))

/-- From `c` to `d` the start is over, or all goes as in `Goes`; DESCENT stays either way, and so do the calm objects unless
lease 0 has left ACTIVE. -/
def Moves (n : Nat) (c d : Core) : Prop :=
  (c.dev = Dv.descent → d.dev = Dv.descent) ∧ (d.get (Obj.Lease.STATE 0) = 1 → ∀ k, calmKey k → d.get k = c.get k) ∧
    (d.start = none ∨ Goes n c d)

theorem Goes.moves (h : Goes n c d) : Moves n c d := ⟨h.2.2.1, fun _ => h.2.2.2, .inr h⟩

theorem calmKey_lease : calmKey (Obj.Lease.STATE 0) := .inr (.inr (.inr (by simp)))

theorem Moves.trans (h : Moves n c d) (h' : Moves n d e) : Moves n c e := by
  obtain ⟨h1, h2, h3⟩ := h
  obtain ⟨k1, k2, k3⟩ := h'
  refine ⟨fun hc => k1 (h1 hc), fun he k hk => ?_, ?_⟩
  · exact (k2 he k hk).trans (h2 ((k2 he _ calmKey_lease).symm.trans he) k hk)
  · rcases k3 with k3 | k3
    · exact .inl k3
    · exact h3.imp k3.start_none fun h3 => h3.trans k3

/-- The end of a start leaves the calm objects. -/
theorem calm_finishStart (c : Core) (r : StartRun) {k : Nat} (hk : calmKey k) : (c.finishStart r).get k = c.get k := by
  have h1 : Calm c ((c.put Obj.Dev.START_KIND (if r.origin = 0 then if r.cold then 0 else 1 else r.origin)).put
      Obj.Dev.START_TIME_US (sat 32 ((c.tick - r.begun) * 2 / 1000))) :=
    (calm_put c _ (by simp [calmKey])).trans (calm_put _ _ (by simp [calmKey]))
  unfold finishStart
  dsimp only
  generalize (c.put Obj.Dev.START_KIND _).put Obj.Dev.START_TIME_US _ = a at h1 ⊢
  rw [get_setDev (by unfold calmKey at hk; unfold devKey; simp; omega)]
  refine (h1.trans (calm_ite (Calm.trans (d := a.put Obj.Dev.FORCE_COLD 0) (calm_put a 0 (by simp [calmKey])) ?_) (.refl a))).2 k hk
  exact ⟨rfl, fun _ _ => rfl⟩

/-- A start that does not end goes on in the same subchannels. -/
theorem moves_startProgress (c : Core) : Moves n c c.startProgress := by
  unfold startProgress
  split
  · exact (Goes.refl n c).moves
  · next r _ =>
    split
    · next h =>
      have hne : c.dev ≠ Dv.descent := fun hd => by
        rw [hd] at h
        exact absurd h (by simp)
      split
      · exact ⟨fun hd => absurd hd hne, fun _ _ hk => calm_finishStart c r hk, .inl (start_finishStart c r)⟩
      · exact (goes_setDev c _ hne).moves
    · split
      · next h =>
        refine ⟨fun hd => ?_, fun _ _ hk => calm_finishStart c r hk, .inl (start_finishStart c r)⟩
        rw [hd] at h
        exact absurd h (by simp)
      · exact (Goes.refl n c).moves

theorem goes_queueTraining (c : Core) (i : Nat) (b : Bool) : Goes n c (c.queueTraining i b) := by
  unfold queueTraining
  have h1 : Goes n c (c.put (Obj.Train.TRAIN_STATE i) 1) := goes_put c 1 (by simp [heldKey, calmKey]; omega)
  generalize c.put (Obj.Train.TRAIN_STATE i) 1 = a at h1
  exact h1.trans (goes_of rfl fun _ _ => rfl)

theorem goes_trainPhase (c : Core) : Goes n c c.trainPhase := by
  unfold trainPhase
  split
  · exact .refl n c
  · exact goes_ite (.refl n c) (goes_each 32 _ (fun c i => goes_ite (goes_queueTraining c i _) (.refl n c)) c)

theorem moves_advance (c : Core) : Moves n c c.advance := (moves_startProgress c).trans (goes_trainPhase _).moves

/-! ## The way to OFFLINE (R420, R422) -/

theorem start_resetDevice (c : Core) (n : Nat) : (c.resetDevice n).start = c.start := by
  rw [(resetDevice_sluiceOnly c n).start, resetBase, start_updFt, start_updEcc, start_updDdr, updMc, start_setMc]
  rfl

theorem goes_dropStart (c : Core) (i : Nat) (lost : Bool) : Goes n c (c.dropStart i lost) := by
  have hgive : ∀ (c : Core) (k : Nat), Goes n c (if c.waits k i then c.unqueue k i else if c.holds k i then c.release k i else c) :=
    fun c k => goes_ite (goes_sluice (sluiceOnly_unqueue c k i)) (goes_sluice (sluiceOnly_give c k i))
  have h1 : Goes n c (c.updStart fun r =>
      { r with exits := setBitTo i false r.exits, restores := setBitTo i false r.restores, trains := setBitTo i false r.trains }) := by
    refine ⟨fun h => ?_, .inl rfl, id, fun _ _ => rfl⟩
    rw [updStart] at h
    exact Option.isSome_map.symm.trans h
  unfold dropStart
  refine (h1.trans (hgive _ _)).trans (goes_ite ?_ (.refl n _))
  exact (goes_of rfl fun _ _ => rfl).trans (hgive _ _)

theorem goes_offEnded (c : Core) (i : Nat) (quiet lost : Bool) : Goes n c (c.offEnded i quiet lost) :=
  (((goes_fcOnly (offRaised_fcOnly c i quiet)).trans (goes_sluice (sluiceOnly_give _ _ _))).trans (goes_dropStart _ i lost)).trans
    (goes_autoState _)

theorem goes_contentLost (c : Core) (i : Nat) : Goes n c (c.contentLost i) := by
  have h1 : Goes n c (c.putBit Obj.ScMask.CONTENT_LOST i true) := goes_put c _ (by simp [heldKey, calmKey]; omega)
  unfold contentLost
  exact goes_ite h1 (h1.trans (goes_put _ _ (by simp [heldKey, calmKey]; omega)))

theorem start_wakeBoth (c : Core) (i : Nat) : (c.wakeBoth i).start = c.start :=
  (rankOnly_wakeRank _ i 1).start.trans (rankOnly_wakeRank c i 0).start

/-- A subchannel on its way to OFFLINE arrives there, and no other changes its STATE. -/
theorem goes_enterOffline_of (hs : d.start = c.start) (hg : ∀ k, k ≠ Obj.Sc.STATE i → k ≠ Obj.Sc.PD_MASK i → ¬ isSluiceKey k →
    d.get k = c.get k) (order lost : Bool) : Goes n c (d.enterOffline i order lost) := by
  have hmark : ∀ e : Core, e.start = d.start → (∀ k, k ≠ Obj.Sc.STATE i → k ≠ Obj.Sc.PD_MASK i → e.get k = d.get k) → ∀ was,
      Goes n c (e.offMarked i was) := fun e he hk was => by
    obtain ⟨h1, h2, -⟩ := offMarked_facts e i was
    have hstart : (e.offMarked i was).start = e.start := rfl
    have hget : ∀ k, k ≠ Obj.Sc.STATE i → k ≠ Obj.Sc.PD_MASK i → ¬ isSluiceKey k → (e.offMarked i was).get k = c.get k :=
      fun k k1 k2 k3 => (h2 k k1 k2).trans ((hk k k1 k2).trans (hg k k1 k2 k3))
    have hcalm : ∀ k, calmKey k → (e.offMarked i was).get k = c.get k := fun k hk => by
      unfold calmKey at hk
      exact hget k (by simp; omega) (by simp; omega) (by unfold isSluiceKey; simp; omega)
    refine ⟨fun h => by rwa [← hs, ← he, ← hstart], ?_, fun h => (hget _ (by simp; omega) (by simp; omega) (by decide)).trans h, hcalm⟩
    by_cases hi : n = i
    · subst hi
      exact .inr h1
    · exact .inl (hget _ (by simp; omega) (by simp; omega) (by simp [isSluiceKey]; omega))
  cases lost with
  | true =>
    rw [enterOffline_lost]
    exact ((hmark _ (start_resetDevice d i) (fun k _ _ => resetDevice_get d i k) _).trans (goes_contentLost _ i)).trans (goes_offEnded _ i _ _)
  | false =>
    rw [enterOffline_kept]
    refine (hmark _ (start_wakeBoth d i) (fun k k1 k2 => ?_) _).trans (goes_offEnded _ i _ _)
    exact ((rankOnly_wakeRank _ i 1).get k2 k1).trans ((rankOnly_wakeRank d i 0).get k2 k1)

theorem rankOnly_issueMrrs (l : List Nat) (c : Core) (n : Nat) : RankOnly n c (l.foldl (fun c lr => c.issueMrr n lr) c) := by
  induction l generalizing c with
  | nil => exact .refl n c
  | cons x l ih =>
    rw [List.foldl_cons]
    refine RankOnly.trans ?_ (ih (c.issueMrr n x))
    unfold issueMrr
    exact (rankOnly_updMc c n n _).trans (rankOnly_order _ n n _)

/-- The exit's first steps order DRAM of the subchannel alone, and take it off the queue of exits. -/
theorem beginExit_ranked (c : Core) (n : Nat) : ∃ a, RankOnly n c a ∧ c.beginExit n =
    { a with srQueue := c.srQueue.filter (· != n), srBegins := (c.srBegins.filter fun t => c.tick < t + 500) ++ [c.tick] } :=
  ⟨_, (((rankOnly_order c n n _).trans (rankOnly_order _ n n _)).trans (rankOnly_updMc _ n n _)).trans (rankOnly_issueMrrs _ _ n),
    beginExit_eq c n⟩

theorem beginExit_frame (c : Core) (n : Nat) : (c.beginExit n).start = c.start ∧
    ∀ k, k ≠ Obj.Sc.PD_MASK n → k ≠ Obj.Sc.STATE n → (c.beginExit n).get k = c.get k := by
  obtain ⟨a, ha, heq⟩ := beginExit_ranked c n
  have h3 : (c.beginExit n).start = a.start := by rw [heq]
  have h4 : ∀ k, (c.beginExit n).get k = a.get k := fun k => by rw [heq, get, get]
  exact ⟨h3.trans ha.start, fun k h1 h2 => (h4 k).trans (ha.get h1 h2)⟩

theorem endExit_frame (c : Core) (n : Nat) : (c.endExit n).start = c.start ∧
    ∀ k, ¬ isSluiceKey k → k ≠ Obj.Sc.STATE n → (c.endExit n).get k = c.get k := by
  have hs := sluiceOnly_give (c.put (Obj.Sc.STATE n) 0) Ck.srExit n
  unfold endExit
  exact ⟨hs.start, fun k h1 h2 => (hs.get h1).trans (get_put_ne _ _ h2)⟩

theorem goes_goOffline (c : Core) (i : Nat) (order lost : Bool) : Goes n c (c.goOffline i order lost) := by
  have hdem : Goes n c ((c.demandExit i).updMc i fun m => { m with offAfter := true }) := by
    refine Goes.trans (d := c.demandExit i) ?_ (goes_of rfl fun _ _ => rfl)
    unfold demandExit
    exact goes_ite (.refl n c) (goes_of rfl fun _ _ => rfl)
  unfold goOffline
  refine goes_ite (goes_enterOffline_of rfl (fun _ _ _ _ => rfl) order lost) (goes_ite ?_ (goes_ite hdem ?_))
  · obtain ⟨a1, a2⟩ := beginExit_frame c i
    obtain ⟨b1, b2⟩ := endExit_frame (c.beginExit i) i
    exact goes_enterOffline_of (b1.trans a1) (fun k h1 h2 h3 => (b2 k h3 h1).trans (a2 k h2 h1)) order false
  · exact hdem.trans (goes_fcOnly (fcOnly_raise _ _ _))

/-! ## Messages -/

theorem goes_sailSent (h : c.SailSent d) : Goes n c d := 
  goes_of (by rw [h.1]) fun k hk => h.get (by unfold heldKey calmKey at hk; simp at hk ⊢; omega)

theorem goes_portOnly {p : Nat} (h : PortOnly p c d) : Goes n c d := goes_of (by rw [h.1]) fun k _ => h.get k

theorem goes_sendLoa (c : Core) (p : LoaPath) (vc : Nat) (bs : List Byte) : Goes n c (c.sendLoa p vc bs) := by
  unfold sendLoa
  exact goes_ite (goes_of rfl fun _ _ => rfl) (goes_portOnly (send_facts c p.a vc _ _).1)

theorem goes_notifyOne (c : Core) (ev k : Nat) : Goes n c (c.notifyOne ev k) := by
  have hlost : Goes n c c.noteLost := by
    unfold noteLost
    exact (goes_put c _ (by simp [heldKey, calmKey]; omega)).trans (goes_put _ _ (by simp [heldKey, calmKey]; omega))
  have hnote : ∀ (f : Session → Session) (p : LoaPath) (bs : List Byte), Goes n c ((c.updSession k f).sendLoa p Vc.ctl bs) := fun f p bs =>
    Goes.trans (d := c.updSession k f) (goes_of rfl fun _ _ => rfl) (goes_sendLoa _ p _ bs)
  unfold notifyOne
  exact goes_ite (.refl n c) (goes_ite hlost (hnote _ _ _))

theorem goes_treeCounted (c : Core) : Goes n c c.treeCounted := by
  have h1 : Goes n c c.treed :=
    (((goes_put c _ (by simp [heldKey, calmKey]; omega)).trans (goes_put _ _ (by simp [heldKey, calmKey]; omega))).trans
      (goes_put _ _ (by simp [heldKey, calmKey]; omega))).trans (goes_put _ _ (by simp [heldKey, calmKey]; omega))
  have h2 : Goes n c c.treeFlagged := by
    unfold treeFlagged
    exact goes_ite (h1.trans (goes_put _ _ (by simp [heldKey, calmKey]; omega))) h1
  unfold treeCounted
  generalize c.treeFlagged = a at h2
  exact goes_ite (h2.trans (goes_of rfl fun _ _ => rfl)) h2

theorem goes_topology (c : Core) : Goes n c c.topology := by
  rw [topology_eq]
  refine goes_ite (goes_treeCounted c) ((goes_treeCounted c).trans ?_)
  exact goes_each 4 _ (fun c k => goes_ite (goes_sailSent (sailSent_sendHello c k)) (.refl n c)) _

theorem goes_serve (c : Core) (r : Req) : Goes n c (c.serve r) := by
  unfold serve
  split
  · exact goes_goOffline c _ _ _
  · exact goes_each 16 _ (fun c i => goes_goOffline c _ _ _) c
  · exact goes_foldl _ _ (fun c k => goes_notifyOne c _ k) c
  · exact goes_sailSent (sailSent_sailFlood c 4 _)
  · exact goes_sailSent (sailSent_sailFlood c 4 _)
  · exact .refl n c

/-! ## SAFE -/

theorem calm_countEvent (c : Core) (s sev : Nat) (m : Marks) : Calm c (c.countEvent s sev m) := by
  have hw : ∀ c : Core, Calm c (c.withWire m) := fun c => by
    unfold withWire
    exact calm_ite ((calm_inc c (by simp [calmKey])).trans (calm_put _ _ (by simp [calmKey]))) (.refl c)
  have hr : ∀ c : Core, Calm c (c.withReal m) := fun c => by
    unfold withReal
    exact calm_ite (calm_put c _ (by simp [calmKey])) (.refl c)
  have hi : ∀ c : Core, Calm c (c.withInjected m) := fun c => by
    unfold withInjected
    exact calm_ite (calm_inc c (by simp [calmKey])) (.refl c)
  have hc : Calm c (c.counted s sev m) := by
    refine ⟨by simp only [counted, inc64, inc, add, start_put], fun k hk => ?_⟩
    unfold calmKey at hk
    exact counted_get _ _ _ _ (by simp; omega) (by simp; omega) (by simp; omega) (by simp; omega)
  rw [countEvent_marks]
  exact hc.trans ((hw _).trans ((hr _).trans (hi _)))

theorem calm_event (c : Core) (s : Nat) (m : Marks) (x : FaultCtx) : Calm c (c.event s m x) := by
  have hcount := calm_countEvent c s (c.eventSev s) m
  unfold event
  dsimp only
  split
  · refine Calm.trans (d := (c.inc (Obj.Source.SUPPRESSED s)).inc64 Obj.Fc.SUPPRESSED) ?_ (calm_withFc _ _)
    exact (calm_inc c (by simp [calmKey]; omega)).trans (calm_put _ _ (by simp [calmKey]))
  · refine Calm.trans ?_ (calm_fcOnly (fcOnly_pins _))
    split
    · refine (hcount.trans ?_).trans (calm_fcOnly ((fcOnly_capture _ _ _ _).trans (fcOnly_act _ _ _ _)))
      generalize c.countEvent s (c.eventSev s) m = a
      exact ((calm_withFc a _).trans (calm_put _ _ (by unfold logKey; simp [calmKey]; omega))).trans
        (calm_put _ _ (by simp [calmKey]))
    · exact hcount

theorem calm_closed (c : Core) (id : Nat) (q : QuietWindow) : Calm c (c.closed id q) := by
  have hnote : ∀ (c : Core) (k : Nat), ¬ calmKey k → Calm c (noteSuppressed q c k) := fun c k hk => by
    unfold noteSuppressed
    exact calm_ite (calm_put c _ hk) (.refl c)
  unfold closed
  exact ((calm_withFc c _).trans (hnote _ _ (by unfold logKey; simp [calmKey]; omega))).trans
    (hnote _ _ (by simp [calmKey]))

theorem calm_closeWindow (c : Core) (id : Nat) : Calm c (c.closeWindow id) := by
  cases hq : c.fc.windows.find? fun w => w.id == id with
  | none =>
    rw [closeWindow, hq]
    exact .refl c
  | some q =>
    rw [closeWindow_eq hq]
    exact (calm_closed c id q).trans (calm_foldl _ _ (fun c e => calm_ite (calm_event c _ _ _) (.refl c)) _)

theorem calm_closeReaction (c : Core) (k i : Nat) : Calm c (c.closeReaction k i) := by
  unfold closeReaction
  exact calm_foldl _ _ (fun c (w : QuietWindow) => calm_closeWindow c w.id) c

theorem calm_abandonStart (c : Core) : c.abandonStart.start = none ∧ ∀ k, calmKey k → c.abandonStart.get k = c.get k := by
  have hdrop : ∀ (c : Core) (k n : Nat), Calm c (if c.waits k n then c.unqueue k n else if c.holds k n then c.release k n else c) :=
    fun c k n => calm_ite (calm_sluice (sluiceOnly_unqueue c k n)) (calm_sluice (sluiceOnly_give c k n))
  have htrain : ∀ (c : Core) (n : Nat), Calm c ((c.updDdr n fun d => { d with train := none }).put (Obj.Train.TRAIN_STATE n) 0) :=
    fun c n => Calm.trans (d := c.updDdr n _) ⟨rfl, fun _ _ => rfl⟩ (calm_put _ _ (by simp [calmKey]; omega))
  refine ⟨rfl, fun k hk => ?_⟩
  unfold abandonStart
  refine (each_induct (Calm c) 32 _ c (.refl c) fun d n _ hd => hd.trans ?_).2 k hk
  exact (calm_ite ((htrain d n).trans (hdrop _ _ n)) (.refl d)).trans (hdrop _ _ n)

/-! A lease that is not ACTIVE becomes so by no free of a region, and the end of every lease takes lease 0 out of ACTIVE. -/

theorem lease_endFreed (c : Core) (r l : Nat) (h : c.get (Obj.Lease.STATE 0) ≠ 1) :
    (c.endFreed r l).get (Obj.Lease.STATE 0) ≠ 1 := by
  have h1 : (((c.inc Obj.Tailrace.EARLY_FREES).put Obj.Tailrace.LAST_EARLY_FREE (r <<< 16 + l)).flag Obj.Tailrace.FLAGS 1).get
      (Obj.Lease.STATE 0) = c.get (Obj.Lease.STATE 0) := by
    rw [get_flag_ne _ _ (by decide), get_put_ne _ _ (by decide), get_inc_ne _ (by decide)]
  unfold endFreed
  dsimp only
  generalize ((c.inc Obj.Tailrace.EARLY_FREES).put Obj.Tailrace.LAST_EARLY_FREE (r <<< 16 + l)).flag Obj.Tailrace.FLAGS 1 = a at h1
  split
  · rw [get_flag_ne _ _ (by simp; omega), get_flag_ne _ _ (by simp; omega), get_put_ne _ _ (by simp; omega)]
    by_cases hl : l = 0
    · subst hl
      rw [get_put_self]
      decide
    · rwa [get_put_ne _ _ (by simp; omega), h1]
  · rwa [h1]

theorem lease_freeRegion (c : Core) (r : Nat) (h : c.get (Obj.Lease.STATE 0) ≠ 1) :
    (c.freeRegion r).get (Obj.Lease.STATE 0) ≠ 1 := by
  have hput : ∀ (c : Core) (k : Nat), c.get (Obj.Lease.STATE 0) ≠ 1 → (c.put k 0).get (Obj.Lease.STATE 0) ≠ 1 := fun c k hc => by
    by_cases hk : Obj.Lease.STATE 0 = k
    · rw [← hk, get_put_self]
      decide
    · rwa [get_put_ne _ _ hk]
  unfold freeRegion
  have hfreed := hput _ (Obj.Region.FREE_PENDING r) (hput c (Obj.Region.PERSONALITY r) h)
  generalize (c.put (Obj.Region.PERSONALITY r) 0).put (Obj.Region.FREE_PENDING r) 0 = a at hfreed ⊢
  exact hfreed

theorem lease_frameEnded (c : Core) (l : Nat) (h : c.get (Obj.Lease.STATE 0) ≠ 1) :
    (c.frameEnded l).get (Obj.Lease.STATE 0) ≠ 1 := by
  have hfold : ∀ {α : Type} (f : Core → α → Core), (∀ c x, c.get (Obj.Lease.STATE 0) ≠ 1 → (f c x).get (Obj.Lease.STATE 0) ≠ 1) →
      ∀ (l : List α) (c : Core), c.get (Obj.Lease.STATE 0) ≠ 1 → (l.foldl f c).get (Obj.Lease.STATE 0) ≠ 1 := fun f hf l => by
    induction l with
    | nil => exact fun _ h => h
    | cons x l ih => exact fun c h => ih _ (hf c x h)
  unfold frameEnded
  refine hfold _ (fun c e hc => ?_) _ c h
  dsimp only
  split
  · exact hc
  · split
    · exact hc
    · refine lease_freeRegion _ _ (hfold _ (fun c i hc => ?_) _ _ hc)
      split
      · exact lease_endFreed c _ _ hc
      · exact hc

theorem lease_endEngines (c : Core) : c.endEngines.get (Obj.Lease.STATE 0) ≠ 1 := by
  unfold endEngines endLeases
  refine each_reaches (P := fun _ => True) (Q := fun d => d.get (Obj.Lease.STATE 0) ≠ 1) (n := 16) (i := 0) (by decide) (fun _ _ _ _ => trivial) (fun c _ => ?_) (fun c j hj _ hc => ?_) trivial
  · split
    · refine lease_frameEnded _ _ ?_
      rw [get_put_ne _ _ (by decide), get_put_self]
      decide
    · assumption
  · split
    · refine lease_frameEnded _ _ ?_
      rwa [get_put_ne _ _ (by simp; omega), get_put_ne _ _ (by simp; omega)]
    · exact hc

/-- SAFE either finds nothing to do, as in DESCENT, or ends the start under way. -/
theorem moves_safeEntry (c : Core) : Moves n c c.safeEntry := by
  have hfold : ∀ (l : List Nat) (c : Core), Calm c (l.foldl (fun c n => c.closeReaction 6 n) c) := fun l =>
    calm_foldl l _ fun c n => calm_closeReaction c 6 n
  unfold safeEntry
  split
  · next h =>
    have hend := calm_abandonStart ((c.setDev Dv.safe).flag Obj.Dev.FLAGS 1).endEngines
    refine ⟨fun hd => ?_, fun hl => ?_, .inl ((hfold _ _).1.trans hend.1)⟩
    · rw [hd] at h
      exact absurd h (by decide)
    · rw [(hfold _ _).2 _ calmKey_lease, hend.2 _ calmKey_lease] at hl
      exact absurd hl (lease_endEngines _)
  · exact (Goes.refl n c).moves

end Core

/-! ## The end of a command -/

/-- From `s` to `t` the latch is set, or the hub moves as in `Core.Moves`. -/
def State.Moves (n : Nat) (s t : State) : Prop := (s.latch = true → t.latch = true) ∧ (t.latch = true ∨ Core.Moves n s.core t.core)

theorem State.Moves.trans {n : Nat} {s t u : State} (h : State.Moves n s t) (h' : State.Moves n t u) : State.Moves n s u := by
  obtain ⟨h1, h2⟩ := h
  obtain ⟨k1, k2⟩ := h'
  refine ⟨fun hs => k1 (h1 hs), ?_⟩
  rcases k2 with k2 | k2
  · exact .inl k2
  · exact h2.imp k1 fun h2 => h2.trans k2

theorem State.moves_core {n : Nat} (s : State) {c : Core} (h : Core.Moves n s.core c) : State.Moves n s { s with core := c } := ⟨id, .inr h⟩

theorem State.moves_settleRound (n : Nat) (s : State) : State.Moves n s s.settleRound := by
  refine ⟨fun h => by rw [State.settleRound_latch, h, Bool.true_or], ?_⟩
  cases hlock : s.core.req.contains .lockout with
  | true => exact .inl (by rw [State.settleRound_latch, hlock, Bool.or_true])
  | false =>
    right
    have hserve : ∀ c : Core, Core.Moves n c (s.core.req.foldl (fun c r => c.serve r) c) := fun c =>
      (Core.goes_foldl _ _ (fun c r => Core.goes_serve c r) c).moves
    have heq : s.settleRound.core = s.core.req.foldl (fun c r => c.serve r)
        (if s.core.req.contains .safe then ((s.core.withReq []).safeEntry).ask .health else s.core.withReq []) := by
      unfold State.settleRound
      dsimp only
      rw [hlock]
      cases s.core.req.contains .safe <;> rfl
    have hquiet : Core.Moves n s.core (s.core.withReq []) := (Core.goes_of rfl fun _ _ => rfl).moves
    rw [heq]
    refine Core.Moves.trans ?_ (hserve _)
    split
    · exact (hquiet.trans (Core.moves_safeEntry _)).trans (Core.goes_of rfl fun _ _ => rfl).moves
    · exact hquiet

theorem State.moves_settleRounds (n k : Nat) (s : State) : State.Moves n s (State.settleRounds k s) := by
  induction k generalizing s with
  | zero => exact ⟨id, .inr (Core.Goes.refl n _).moves⟩
  | succ k ih =>
    unfold State.settleRounds
    split
    · exact ⟨id, .inr (Core.Goes.refl n _).moves⟩
    · exact (State.moves_settleRound n s).trans (ih _)

theorem State.moves_settle (n : Nat) (s : State) : State.Moves n s s.settle := by
  unfold State.settle
  split
  · exact ⟨id, .inr (Core.Goes.refl n _).moves⟩
  · have h1 := State.moves_settleRounds n 8 s
    dsimp only
    generalize State.settleRounds 8 s = s1 at h1
    refine h1.trans (State.Moves.trans (t := { s1 with core := _ }) (State.moves_core s1 ?_) (State.moves_settleRounds n 8 _))
    have h2 : Core.Goes n s1.core (if s1.core.seqUp && s1.core.get Obj.Sail.ROLE ≠ s1.core.roleNow then s1.core.topology else s1.core) :=
      Core.goes_ite (Core.goes_topology _) (.refl n _)
    exact h2.moves.trans (Core.moves_advance _)

theorem State.goes_settle {n : Nat} {s : State} (hl : s.settle.latch = false) (hs : s.settle.core.start.isSome = true) :
    Core.Goes n s.core s.settle.core := by
  rcases (State.moves_settle n s).2 with h | ⟨-, -, h | h⟩
  · rw [hl] at h
    exact absurd h (by decide)
  · rw [h] at hs
    exact absurd hs (by decide)
  · exact h

/-- A command that leaves the latch clear and a start under way moves a subchannel's STATE, after its own effect, to OFFLINE alone. -/
theorem State.settle_scState {n : Nat} {s : State} (hl : s.settle.latch = false) (hs : s.settle.core.start.isSome = true) :
    s.settle.core.scState n = s.core.scState n ∨ s.settle.core.scState n = 3 :=
  (State.goes_settle hl hs).2.1

/-- … and it leaves the calm objects as its own effect does. -/
theorem State.settle_calm {s : State} {k : Nat} (hl : s.settle.latch = false) (hs : s.settle.core.start.isSome = true)
    (hk : Core.calmKey k) : s.settle.core.get k = s.core.get k :=
  (State.goes_settle (n := 0) hl hs).2.2.2 k hk

/-- … and so it does while lease 0 is ACTIVE, start or none. -/
theorem State.settle_leased {s : State} {k : Nat} (hl : s.settle.latch = false) (hs : s.settle.core.get (Obj.Lease.STATE 0) = 1)
    (hk : Core.calmKey k) : s.settle.core.get k = s.core.get k := by
  rcases (State.moves_settle 0 s).2 with h | ⟨-, h, -⟩
  · rw [hl] at h
    exact absurd h (by decide)
  · exact h hs k hk

/-- A command that leaves the latch clear ends, once its own effect is in DESCENT, in DESCENT. -/
theorem State.settle_descent {s : State} (hl : s.settle.latch = false) (hd : s.core.dev = Dv.descent) : s.settle.core.dev = Dv.descent := by
  rcases (State.moves_settle 0 s).2 with h | h
  · rw [hl] at h
    exact absurd h (by decide)
  · exact h.1 hd

end Sys2Proof.Machine
end

section
/-! PROOFS. The refutation of the statement about orders to a subchannel (16_states_start_sluice.md R420, R421): a held subchannel
in POWER_DOWN whose entry has not completed wakes as it returns, because the WRITE that waits behind it goes on. -/

namespace Sys2Proof.Machine

/-- A WRITE transaction of one block of subchannel 3. -/
def waitingWrite : WriteTxn := { tag := 0, region := 0, off := 3, blocks := [(0, false)], cells := 1, fate := .silent }

/-- The hub in SERVICE with a start under way: subchannel 3 is held and in POWER_DOWN, and port 0 keeps a WRITE for it. -/
def heldAsleep : State :=
  { State.reset with core :=
    { (((((Core.init.put Obj.Seq.SEQ_STATE 2).put Obj.Dev.DEVICE_STATE Dv.service).put (Obj.Sc.STATE 3) 1).put (Obj.Sc.PD_MASK 3) 3).updMc 3
        fun m => { m with held := true }).updPort 0 fun p => { p with held := [.write waitingWrite] } with
      start := some { origin := 0, begun := 0, exits := 0, restores := 0, trains := 0, cold := false } } }

/-- The state after its ONLINE order. -/
def heldAwake : State := heldAsleep.writeNum .secureWorld (Obj.ScOrder.SC_ORDER 3) 3

theorem heldAsleep_hypotheses : Admits heldAsleep .secureWorld (Obj.ScOrder.SC_ORDER 3) 3 ∧ heldAsleep.core.dev = Dv.service ∧
    heldAsleep.core.trainState 3 ≠ 1 ∧ heldAsleep.core.scOffline 3 = false ∧ (heldAsleep.core.mcOf 3).held = true ∧
    heldAsleep.core.resting 3 = false ∧ heldAsleep.core.scState 3 = 1 := by decide +kernel

theorem heldAwake_awake : heldAwake.latch = false ∧ heldAwake.core.start.isSome = true ∧ heldAwake.core.scState 3 = 0 := by decide +kernel

/-- Refutes O60: ONLINE of a held subchannel whose entry had not completed does not keep its STATE where a WRITE waits for it: the
burst takes it out of POWER_DOWN, from 1 to 0. -/
theorem not_scOrders : ¬ Obligations.ScOrders := by
  unfold Obligations.ScOrders
  intro h
  obtain ⟨-, -, -, -, -, -, honline, -⟩ := h
  obtain ⟨hadm, hdev, htrain, hoff, hheld, hrest, hst⟩ := heldAsleep_hypotheses
  obtain ⟨c, hexec, -, -, -, -, hkept, -⟩ := (honline heldAsleep 3 .secureWorld hadm (.inr hdev) htrain hoff hheld).2 hrest
  obtain ⟨hlatch, hstart, hawake⟩ := heldAwake_awake
  have hend : ({ heldAsleep with core := c } : State).settle = heldAwake := (Host.Outcome.next.inj hexec).symm
  rw [← hend] at hlatch hstart hawake
  have hone : c.scState 3 = 1 := hkept.trans hst
  rcases State.settle_scState (n := 3) hlatch hstart with hgo | hgo
  · exact absurd (hgo.symm.trans hawake) (by rw [hone]; decide)
  · exact absurd (hgo.symm.trans hawake) (by decide)

end Sys2Proof.Machine
end

section
/-! PROOFS. The refutation of the statement about off requests (11_power_sequencing.md R285, R286; 16_states_start_sluice.md R419):
the statement does not bound the regions whose free waits for a lease, and the end of that lease writes what it names. -/

namespace Sys2Proof.Machine

/-- The number that the free of a region takes to the object of the device state. -/
theorem personality_is_deviceState : Obj.Region.PERSONALITY 0x3600 = Obj.Dev.DEVICE_STATE := by decide

/-- The hub in UP and IDLE with UP_EN: lease 0 is at work, and the free of region 0x3600 waits for it. -/
def leaseHolds : State :=
  { State.reset with core :=
    { (((Core.init.put Obj.Seq.SEQ_STATE 2).put Obj.Dev.DEVICE_STATE Dv.idle).put Obj.Seq.CASCADE 1).put (Obj.Lease.STATE 0) 1 with
      seq := { Core.init.seq with aoUp := true }, freeing := [(0x3600, 1)] } }

/-- The state after SQ_UP_IN falls. -/
def leaseEnded : State := leaseHolds.onCore fun c => c.upInFall

theorem leaseHolds_hypotheses : leaseHolds.core.seq.aoUp = true ∧ leaseHolds.core.upEn = true ∧
    leaseHolds.core.get Obj.Seq.SEQ_STATE = 2 ∧ leaseHolds.core.dev = Dv.idle := by decide +kernel

theorem leaseEnded_off : leaseEnded.latch = false ∧ leaseEnded.core.dev = Dv.off := by decide +kernel

/-- Refutes O18: an off request in UP ends the leases, and with them the free that waits; of a region that no hub has, it takes the
device from DESCENT to OFF. -/
theorem not_offRequests : ¬ Obligations.OffRequests := by
  unfold Obligations.OffRequests
  intro h
  obtain ⟨-, -, -, hfall, -⟩ := h
  obtain ⟨hao, hup, hseq, hdev⟩ := leaseHolds_hypotheses
  obtain ⟨c, hexec, hdescent, -⟩ := hfall leaseHolds hao hup hseq (by rw [hdev]; decide) (by rw [hdev]; decide)
  obtain ⟨hlatch, hoff⟩ := leaseEnded_off
  have hend : ({ leaseHolds with core := c } : State).settle = leaseEnded := (Host.Outcome.next.inj hexec).symm
  rw [← hend] at hlatch hoff
  exact absurd ((State.settle_descent hlatch hdescent).symm.trans hoff) (by decide)

end Sys2Proof.Machine
end

section
/-! PROOFS. Cold training (08_ddr5_redrive_training.md R205, R206, R210, R211, R216, R217). -/

namespace Sys2Proof.Machine

/-- A command of the hub that leaves DRAM as it stands and asks nothing. -/
theorem answersCore_onHubMem {i : Instr} {s : State} {P : Core → Prop} {d : Core} (f : Core → Memory → Core × Memory)
    (hi : exec i s = .next (s.onHubMem f)) (hu : s.core.hubUp = true) (hf : f s.clear.core s.mem = (d, s.mem)) (hreq : d.req = [])
    (hp : P d) : AnswersCore i s P := by
  refine answersCore_onMem (c := d) f ?_ hf hreq hp
  rw [hi, State.onHubMem, State.when, hu]
  rfl

namespace Core

variable {c d e : Core} {n : Nat} {mem : Memory} {r : StepResult} {t t1 : TrainRun}

/-! ## A subchannel that goes OFFLINE with its content lost, once more (R422) -/

theorem contentLost_trainState (h : c.trainState n = 3) : (c.contentLost n).trainState n = 3 := by
  have hput : (c.putBit Obj.ScMask.CONTENT_LOST n true).trainState n = c.trainState n := get_put_ne _ _ (by simp; omega)
  unfold contentLost
  dsimp only
  rw [if_pos (hput.trans h), hput, h]

/-- A training that has FAILED stays so, and none runs. -/
theorem enterOffline_failed (order : Bool) (h : c.trainState n = 3) : (c.enterOffline n order true).trainState n = 3 ∧
    ((c.enterOffline n order true).ddrOf n).train = none := by
  have heq := enterOffline_lost c n order
  have hget := resetDevice_get c n
  generalize c.resetDevice n = x at heq hget
  obtain ⟨-, m2, -⟩ := offMarked_facts x n (c.scOffline n)
  have hm : (x.offMarked n (c.scOffline n)).trainState n = 3 := (m2 _ (by simp) (by simp; omega)).trans ((hget _).trans h)
  generalize x.offMarked n (c.scOffline n) = m at heq hm
  have hl := contentLost_trainState hm
  generalize m.contentLost n = l at heq hl
  obtain ⟨e1, -, e3, -⟩ := offEnded_facts l n (c.scOffline n || order) true
  rw [heq]
  refine ⟨(e1 _ (by simp [devKey]; omega) (by simp [isSluiceKey]; omega)).trans hl, ?_⟩
  rw [e3, if_pos ⟨rfl, rfl⟩]

theorem goOffline_lost (c : Core) (n : Nat) (order : Bool) : c.goOffline n order true = c.enterOffline n order true := by
  rw [goOffline, Bool.true_or, if_pos rfl]

/-! ## What the end of a training leaves beside its own results (R210, R253) -/

/-- The results of a training that the statements name. -/
def resultKey (n k : Nat) : Prop :=
  k = Obj.Train.TRAIN_STATE n ∨ k = Obj.Train.GEN n ∨ k = Obj.Train.READY n ∨ k = Obj.Train.TRAIN_TIME n

/-- `d` holds the same results of subchannel n as `c`, and the same register side. -/
def Aside (n : Nat) (c d : Core) : Prop := (∀ k, resultKey n k → d.get k = c.get k) ∧ d.ddrOf n = c.ddrOf n

theorem Aside.refl (n : Nat) (c : Core) : Aside n c c := ⟨fun _ _ => rfl, rfl⟩
theorem Aside.trans (h : Aside n c d) (h' : Aside n d e) : Aside n c e := ⟨fun k hk => (h'.1 k hk).trans (h.1 k hk), h'.2.trans h.2⟩

theorem aside_ite {p : Prop} [Decidable p] {x y : Core} (hx : Aside n c x) (hy : Aside n c y) : Aside n c (if p then x else y) := by
  split
  · exact hx
  · exact hy

theorem aside_foldl {α : Type} (l : List α) (f : Core → α → Core) (h : ∀ c x, Aside n c (f c x)) (c : Core) : Aside n c (l.foldl f c) := by
  induction l generalizing c with
  | nil => exact .refl n c
  | cons x l ih => exact (h c x).trans (ih (f c x))

theorem aside_put (c : Core) (v : Nat) {k : Nat} (h : ¬ resultKey n k) : Aside n c (c.put k v) :=
  ⟨fun _ ho => get_put_ne _ _ fun hk => h (hk ▸ ho), ddrOf_put _ _ _ _⟩

theorem aside_updLane (c : Core) (n i : Nat) (f : FtLane → FtLane) : Aside n c (c.updLane n i f) :=
  ⟨fun _ _ => (ftOnly_updLane c n i f).get _, by rw [ddrOf, (ftOnly_updLane c n i f), ddrOf]⟩

theorem aside_sluice (h : c.SluiceOnly d) : Aside n c d :=
  ⟨fun k hk => h.get (by rcases hk with rfl | rfl | rfl | rfl <;> simp [isSluiceKey] <;> omega), h.ddrOf n⟩

theorem aside_fcOnly (h : c.FcOnly d) : Aside n c d :=
  ⟨fun k hk => h.2 k (by rcases hk with rfl | rfl | rfl | rfl <;> simp <;> omega), h.ddrOf n⟩

theorem aside_checkInsertion (c : Core) (n pr : Nat) : Aside n c (c.checkInsertion n pr) := by
  have hupd : ∀ f : McState → McState, Aside n c (c.updMc n f) := fun f => ⟨fun _ _ => rfl, by rw [updMc, ddrOf_setMc]⟩
  unfold checkInsertion
  exact aside_ite (.refl n c) ((hupd _).trans (aside_sluice (sluiceOnly_release _ _ _)))

theorem aside_markPackage (c : Core) (n pr k : Nat) : Aside n c (c.markPackage n pr k) := by
  have htouch : ∀ c : Core, Aside n c c.touch := fun c => ⟨fun _ _ => rfl, rfl⟩
  unfold markPackage
  exact (((aside_put c _ (by simp [resultKey]; omega)).trans (aside_updLane _ n _ _)).trans (htouch _)).trans (aside_checkInsertion _ n pr)

theorem aside_markFails (c : Core) (n : Nat) (t : TrainRun) : Aside n c (c.markFails n t) := by
  unfold markFails
  refine aside_foldl _ _ (fun d pr => ?_) c
  split
  · exact aside_ite (.refl n d) ((aside_ite (.refl n d) (aside_markPackage d n pr _)).trans (aside_fcOnly (fcOnly_raise _ _ _)))
  · exact .refl n d

theorem aside_freshMc (c : Core) (n : Nat) : Aside n c (c.freshMc n) := ⟨fun _ _ => rfl, by rw [freshMc, updMc, ddrOf_setMc]⟩

/-! ## The results (R211, R213, R214) -/

/-- The objects of other blocks, and of a subchannel its own and those of its training. -/
def besideLanes (k : Nat) : Prop := k < 0x600000 ∨ k % 0x4000 < 0x200

theorem putTraining_facts (c : Core) (n : Nat) (t : TrainRun) : c.ObjsOnly (c.putTraining n t) ∧
    ∀ k, besideLanes k → (c.putTraining n t).get k = c.get k := by
  have hlane : ∀ k, besideLanes k → ∀ i, k ≠ laneKey n (i / 10) (i % 10) := fun k hk i => by
    unfold laneKey
    unfold besideLanes at hk
    split <;> simp <;> omega
  unfold putTraining
  dsimp only
  have h1 := objsOnly_foldl_put (fun i => laneKey n (i / 10) (i % 10))
    (fun i => (Tbl.get (fun _ => LaneTrain.init) t.lanes i).record (c.resultOf t (i / 10) (i % 10))) (List.range 20) c
  have h2 : ∀ k, besideLanes k → ((List.range 20).foldl (fun c' i => c'.put (laneKey n (i / 10) (i % 10))
      ((Tbl.get (fun _ => LaneTrain.init) t.lanes i).record (c.resultOf t (i / 10) (i % 10)))) c).get k = c.get k := fun k hk =>
    get_foldl_put _ _ (List.range 20) c fun i _ => hlane k hk i
  generalize (List.range 20).foldl _ c = a at h1 h2
  refine ⟨h1.trans ((((((objsOnly_put _ _ _).trans (objsOnly_put _ _ _)).trans (objsOnly_put _ _ _)).trans (objsOnly_put _ _ _)).trans
    (objsOnly_put _ _ _)).trans ((objsOnly_put _ _ _).trans (objsOnly_put _ _ _))), fun k hk => ?_⟩
  have hca : ∀ j < 0x100, k ≠ (0x6004 + 0x40 * n) * 0x100 + j := fun j hj => by
    unfold besideLanes at hk
    omega
  rw [get_put_ne _ _ (hca _ (by decide)), get_put_ne _ _ (hca _ (by decide)), get_put_ne _ _ (hca _ (by decide)),
    get_put_ne _ _ (hca _ (by decide)), get_put_ne _ _ (hca _ (by decide)), get_put_ne _ _ (hca _ (by decide)),
    get_put_ne _ _ (hca _ (by decide)), h2 k hk]

theorem putSummary_facts (c : Core) (n : Nat) (temp : Int) (f us : Nat) (res : Nat → Nat) : c.ObjsOnly (c.putSummary n temp f us res) ∧
    (c.putSummary n temp f us res).get (Obj.Train.READY n) = 1 ∧
    (c.putSummary n temp f us res).get (Obj.Train.GEN n) = nextGen (c.get (Obj.Train.GEN n)) ∧
    (c.putSummary n temp f us res).get (Obj.Train.TRAIN_TIME n) = c.hubTime ∧
    ∀ k, (∀ j < 0x100, k ≠ (0x6001 + 0x40 * n) * 0x100 + j) → (c.putSummary n temp f us res).get k = c.get k := by
  have hp : ∀ {d : Core} (o v : Nat), c.ObjsOnly d → c.ObjsOnly (d.put o v) := fun o v h => h.trans (objsOnly_put _ o v)
  unfold putSummary
  dsimp only
  refine ⟨hp _ _ (hp _ _ (hp _ _ (hp _ _ (hp _ _ (hp _ _ (hp _ _ (hp _ _ (objsOnly_put c _ _)))))))), get_put_self _ _ _, ?_, ?_, fun k hk => ?_⟩
  · rw [get_put_ne _ _ (by simp), get_put_self]
    rfl
  · rw [get_put_ne _ _ (by simp), get_put_ne _ _ (by simp), get_put_ne _ _ (by simp), get_put_ne _ _ (by simp), get_put_ne _ _ (by simp),
      get_put_ne _ _ (by simp), get_put_ne _ _ (by simp), get_put_ne _ _ (by simp), get_put_self]
  · rw [get_put_ne _ _ (hk _ (by decide)), get_put_ne _ _ (hk _ (by decide)), get_put_ne _ _ (hk _ (by decide)),
      get_put_ne _ _ (hk _ (by decide)), get_put_ne _ _ (hk _ (by decide)), get_put_ne _ _ (hk _ (by decide)),
      get_put_ne _ _ (hk _ (by decide)), get_put_ne _ _ (hk _ (by decide)), get_put_ne _ _ (hk _ (by decide))]

theorem publishTraining_facts (c : Core) (n : Nat) (t : TrainRun) (temp : Int) : c.ObjsOnly (c.publishTraining n t temp) ∧
    (c.publishTraining n t temp).get (Obj.Train.READY n) = 1 ∧
    (c.publishTraining n t temp).get (Obj.Train.GEN n) = nextGen (c.get (Obj.Train.GEN n)) ∧
    (c.publishTraining n t temp).get (Obj.Train.TRAIN_TIME n) = c.hubTime ∧
    ∀ k < 0x600000, (c.publishTraining n t temp).get k = c.get k := by
  obtain ⟨h1, h2⟩ := putTraining_facts c n t
  unfold publishTraining
  generalize c.putTraining n t = a at h1 h2
  obtain ⟨k1, k2, k3, k4, k5⟩ := putSummary_facts a n temp t.firstFail ((c.tick - t.start) * 2 / 1000) fun i => c.resultOf t (i / 10) (i % 10)
  exact ⟨h1.trans k1, k2, k3.trans (congrArg nextGen (h2 _ (.inr (by simp; omega)))), k4.trans h1.hubTime,
    fun k hk => (k5 k fun j _ => by omega).trans (h2 k (.inl hk))⟩

/-! ## Publication (R206 step 11) -/

/-- The core that publication decides on: the results are out, the set is stored, the run is over and its credit returned. -/
def trainOver (c : Core) (n : Nat) (t : TrainRun) (temp : Int) : Core :=
  (((((c.publishTraining n t temp).storeSet n ((c.publishTraining n t temp).trainedSet n t temp)).put (Obj.FtSc.T_CAL n)
    (ofSigned 32 temp)).put (Obj.FtSc.T_CAL_TIME n) c.hubTime).updDdr n fun d => { d with train := none }).release Ck.train n

/-- A FAILED subchannel goes OFFLINE. -/
def trainFailed (c : Core) (n : Nat) (t : TrainRun) : Core :=
  ((((c.put (Obj.Train.TRAIN_STATE n) 3).flag (Obj.Train.FLAGS n) 3).flag Obj.Phy.FLAGS 1).raise (Src.ddrTrain n)
    (ctxLane 11 5 n (t.firstFail / 128) 0)).goOffline n false true

/-- The lanes of a TRAINED subchannel, as they were trained. -/
def lanesTrained (c : Core) (n : Nat) (t : TrainRun) : Core :=
  (List.range 20).foldl (fun k i => k.updLane n i fun l =>
    (Tbl.get (fun _ => LaneTrain.init) t.lanes i).toLane l (c.markedLane n (i / 10) = some (i % 10))) c

/-- A TRAINED subchannel marks its failed lanes and starts afresh. -/
def trained (c : Core) (n : Nat) (t : TrainRun) : Core :=
  ((((((c.put (Obj.Train.TRAIN_STATE n) 2).markFails n t).lanesTrained n t)).checkInsertion n 0).checkInsertion n 1).freshMc n

theorem trainPublish_eq (c : Core) (n : Nat) (t : TrainRun) (temp : Int) (h : c.start = none) : c.trainPublish n t temp =
    if c.trainFails n t then (c.trainOver n t temp).trainFailed n t else (c.trainOver n t temp).trained n t := by
  have heq : c.trainPublish n t temp = if (c.start.isSome && (c.start.map (fun s => s.trains.testBit n)).getD false) = true then
      ((if c.trainFails n t then (c.trainOver n t temp).trainFailed n t else (c.trainOver n t temp).trained n t).updStart fun s =>
        { s with trains := setBitTo n false s.trains, cold := true }).startProgress
    else if c.trainFails n t then (c.trainOver n t temp).trainFailed n t else (c.trainOver n t temp).trained n t := rfl
  rw [heq, h]
  rfl

theorem trainOver_facts (c : Core) (n : Nat) (t : TrainRun) (temp : Int) : ((c.trainOver n t temp).ddrOf n).train = none ∧
    (c.trainOver n t temp).get (Obj.Train.READY n) = 1 ∧
    (c.trainOver n t temp).get (Obj.Train.GEN n) = nextGen (c.get (Obj.Train.GEN n)) ∧
    (c.trainOver n t temp).get (Obj.Train.TRAIN_TIME n) = c.hubTime ∧ (c.trainOver n t temp).fc = c.fc ∧
    ∀ k < 0x600000, ¬ isSluiceKey k → (c.trainOver n t temp).get k = c.get k := by
  obtain ⟨h1, h2, h3, h4, h5⟩ := publishTraining_facts c n t temp
  unfold trainOver
  generalize c.publishTraining n t temp = p at h1 h2 h3 h4 h5
  have hget : ∀ k, (p.storeSet n (p.trainedSet n t temp)).get k = p.get k := storeSet_get p n _
  have hfc : (p.storeSet n (p.trainedSet n t temp)).fc = c.fc := by rw [storeSet, fc_updLedger, fc_updFt, h1.fc]
  generalize p.storeSet n (p.trainedSet n t temp) = q at hget hfc
  have hput : ∀ k, k ≠ Obj.FtSc.T_CAL n → k ≠ Obj.FtSc.T_CAL_TIME n →
      ((q.put (Obj.FtSc.T_CAL n) (ofSigned 32 temp)).put (Obj.FtSc.T_CAL_TIME n) c.hubTime).get k = p.get k := fun k k1 k2 => by
    rw [get_put_ne _ _ k2, get_put_ne _ _ k1, hget]
  have hfc' : ((q.put (Obj.FtSc.T_CAL n) (ofSigned 32 temp)).put (Obj.FtSc.T_CAL_TIME n) c.hubTime).fc = c.fc := by
    rw [fc_put, fc_put, hfc]
  generalize (q.put (Obj.FtSc.T_CAL n) (ofSigned 32 temp)).put (Obj.FtSc.T_CAL_TIME n) c.hubTime = y at hput hfc'
  have hs := sluiceOnly_release (y.updDdr n fun d => { d with train := none }) Ck.train n
  have hd : ((y.updDdr n fun d => { d with train := none }).ddrOf n).train = none := by rw [ddrOf_updDdr_self]
  have hkept : ∀ k, ¬ isSluiceKey k → ((y.updDdr n fun d => { d with train := none }).release Ck.train n).get k = y.get k := fun k hk =>
    (hs.get hk).trans (get_updDdr y _ n _)
  refine ⟨by rw [hs.ddrOf, hd], ?_, ?_, ?_, hs.fc.trans ((fc_updDdr y n _).trans hfc'), fun k k1 k2 => ?_⟩
  · rw [hkept _ (by simp [isSluiceKey]; omega), hput _ (by simp; omega) (by simp), h2]
  · rw [hkept _ (by simp [isSluiceKey]; omega), hput _ (by simp) (by simp; omega), h3]
  · rw [hkept _ (by simp [isSluiceKey]; omega), hput _ (by simp; omega) (by simp; omega), h4]
  · rw [hkept _ k2, hput _ (by simp; omega) (by simp; omega), h5 k k1]

theorem source_ddrTrain : ∀ n < 32, (sourceInfo? (Src.ddrTrain n)).isNone = false := by decide +kernel

/-- What a FAILED training leaves. -/
theorem trainFailed_facts (hn : n < 32) (c : Core) (t : TrainRun) : ((c.trainFailed n t).ddrOf n).train = none ∧
    (c.trainFailed n t).get (Obj.Train.TRAIN_STATE n) = 3 ∧ (c.trainFailed n t).get (Obj.Sc.STATE n) = 3 ∧
    (c.trainFailed n t).bitOf (Obj.Train.FLAGS n) 3 = true ∧
    (∀ k, k = Obj.Train.READY n ∨ k = Obj.Train.GEN n ∨ k = Obj.Train.TRAIN_TIME n → (c.trainFailed n t).get k = c.get k) ∧
    c.Raises (Src.ddrTrain n) (c.trainFailed n t) := by
  unfold trainFailed
  rw [goOffline_lost]
  obtain ⟨a, ha⟩ : ∃ a, a = ((c.put (Obj.Train.TRAIN_STATE n) 3).flag (Obj.Train.FLAGS n) 3).flag Obj.Phy.FLAGS 1 := ⟨_, rfl⟩
  have g1 : a.get (Obj.Train.TRAIN_STATE n) = 3 := by rw [ha, get_flag_ne _ _ (by simp; omega), get_flag_ne _ _ (by simp), get_put_self]
  have g2 : a.bitOf (Obj.Train.FLAGS n) 3 = true := by rw [ha, bitOf_congr 3 (get_flag_ne _ _ (by simp; omega)), bitOf_flag_self]
  have g3 : ∀ k, k ≠ Obj.Train.TRAIN_STATE n → k ≠ Obj.Train.FLAGS n → k ≠ Obj.Phy.FLAGS → a.get k = c.get k := fun k k1 k2 k3 => by
    rw [ha, get_flag_ne _ _ k3, get_flag_ne _ _ k2, get_put_ne _ _ k1]
  have g4 : a.fc = c.fc := by
    rw [ha]
    simp only [flag, fc_put]
  rw [← ha]
  have hfc := fcOnly_raise a (Src.ddrTrain n) (ctxLane 11 5 n (t.firstFail / 128) 0)
  have hr : c.Raises (Src.ddrTrain n) (a.raise (Src.ddrTrain n) (ctxLane 11 5 n (t.firstFail / 128) 0)) :=
    raises_of_raise _ (source_ddrTrain n hn) g4 (g3 _ (by simp; omega) (by simp; omega) (by simp; omega))
  generalize a.raise (Src.ddrTrain n) (ctxLane 11 5 n (t.firstFail / 128) 0) = b at hfc hr
  have hb : b.trainState n = 3 := (hfc.2 _ (by simp; omega)).trans g1
  obtain ⟨f1, f2⟩ := enterOffline_failed false hb
  obtain ⟨h1, -, -, -, -, h6, h7⟩ := enterOffline_lost_facts (c := b) hn false
  refine ⟨f2, f1, h1, ?_, fun k hk => ?_, hr.of_get (h7 _ (by simp only [Src.ddrTrain]; omega) (by simp only [Src.ddrTrain, Src.scOffline]; omega))⟩
  · rw [bitOf_congr 3 (h6 _ (by simp [devKey]; omega) (by simp [isSluiceKey]; omega) (by simp; omega) (by simp; omega) (by simp; omega) (by simp)),
      bitOf_congr 3 (hfc.2 _ (by simp; omega)), g2]
  · have hne : ¬ devKey k ∧ ¬ isSluiceKey k ∧ k ≠ Obj.Sc.STATE n ∧ k ≠ Obj.Sc.PD_MASK n ∧ k ≠ Obj.ScMask.CONTENT_LOST ∧
        k ≠ Obj.Train.TRAIN_STATE n ∧ ¬ isFcKey k ∧ k ≠ Obj.Train.FLAGS n ∧ k ≠ Obj.Phy.FLAGS := by
      rcases hk with rfl | rfl | rfl <;> simp [devKey, isSluiceKey] <;> omega
    obtain ⟨k1, k2, k3, k4, k5, k6, k7, k8, k9⟩ := hne
    rw [h6 k k1 k2 k3 k4 k5 k6, hfc.2 k k7, g3 k k6 k8 k9]

theorem trained_facts (c : Core) (n : Nat) (t : TrainRun) : ((c.trained n t).ddrOf n).train = (c.ddrOf n).train ∧
    (c.trained n t).get (Obj.Train.TRAIN_STATE n) = 2 ∧
    (∀ k, k = Obj.Train.READY n ∨ k = Obj.Train.GEN n ∨ k = Obj.Train.TRAIN_TIME n → (c.trained n t).get k = c.get k) := by
  have hl : ∀ c : Core, Aside n c (c.lanesTrained n t) := fun c => by
    unfold lanesTrained
    exact aside_foldl _ _ (fun d i => aside_updLane d n i _) c
  have h : Aside n (c.put (Obj.Train.TRAIN_STATE n) 2) (c.trained n t) := by
    unfold trained
    exact ((((aside_markFails _ n t).trans (hl _)).trans (aside_checkInsertion _ n 0)).trans (aside_checkInsertion _ n 1)).trans
      (aside_freshMc _ n)
  obtain ⟨h1, h2⟩ := h
  refine ⟨by rw [h2, ddrOf_put], by rw [h1 _ (.inl rfl), get_put_self], fun k hk => ?_⟩
  rcases hk with rfl | rfl | rfl
  · rw [h1 _ (.inr (.inr (.inl rfl))), get_put_ne _ _ (by simp)]
  · rw [h1 _ (.inr (.inl rfl)), get_put_ne _ _ (by simp)]
  · rw [h1 _ (.inr (.inr (.inr rfl))), get_put_ne _ _ (by simp)]

end Core
end Sys2Proof.Machine
end

section
/-! PROOFS. The steps of cold training, and RETRAIN (08_ddr5_redrive_training.md R205, R206, R211, R216, R217). -/

namespace Sys2Proof.Machine
namespace Core

variable {c d e : Core} {n : Nat} {mem : Memory} {r : StepResult} {t t1 : TrainRun}

/-! ## One step -/

theorem trainStep_eq (h : (c.ddrOf n).train = some t) (hw : t.waiting = false) (ha : (c.ddrOf n).alertLow = false)
    (h1 : c.trainNext t r = t1) : c.trainStep mem n r =
      (if t1.failed.isSome ∨ t1.step = 11 then
        (((c.trainOrders n t t1 r).trainMemory mem n t r).1.trainPublish n t1
          (((c.trainOrders n t t1 r).trainMemory mem n t r).1.monValue (n / 4)), ((c.trainOrders n t t1 r).trainMemory mem n t r).2)
      else (((c.trainOrders n t t1 r).trainMemory mem n t r).1.updDdr n (fun d => { d with train := some t1 }),
        ((c.trainOrders n t t1 r).trainMemory mem n t r).2)) := by
  subst h1
  unfold trainStep
  rw [h]
  dsimp only
  rw [hw, ha, if_neg (by decide)]
  simp only [Bool.or_eq_true, decide_eq_true_eq]

theorem trainMemory_same (h1 : t.step ≠ 1) (h10 : t.step = 10 → t.noSave = true) : c.trainMemory mem n t r = (c, mem) := by
  unfold trainMemory
  rw [if_neg h1, if_neg]
  rw [Bool.and_eq_true, decide_eq_true_eq]
  exact fun h => by rw [h10 h.1] at h; exact absurd h.2 (by decide)

/-- A step after which the next one begins. -/
theorem trainStep_next (h : (c.ddrOf n).train = some t) (hw : t.waiting = false) (ha : (c.ddrOf n).alertLow = false)
    (h1 : c.trainNext t r = t1) (hs1 : t.step ≠ 1) (hs10 : t.step ≠ 10) (hf : t1.failed = none) (h11 : t1.step ≠ 11) :
    c.trainStep mem n r = ((c.trainOrders n t t1 r).updDdr n (fun d => { d with train := some t1 }), mem) := by
  rw [trainStep_eq h hw ha h1, if_neg (by rw [hf]; exact fun x => x.elim (by decide) h11),
    trainMemory_same hs1 fun h => absurd h hs10]

/-- A step that ends a training. -/
theorem trainStep_last (h : (c.ddrOf n).train = some t) (hw : t.waiting = false) (ha : (c.ddrOf n).alertLow = false)
    (h1 : c.trainNext t r = t1) (hs1 : t.step ≠ 1) (hs10 : t.step = 10 → t.noSave = true) (hend : t1.failed.isSome ∨ t1.step = 11) :
    c.trainStep mem n r = ((c.trainOrders n t t1 r).trainPublish n t1 ((c.trainOrders n t t1 r).monValue (n / 4)), mem) := by
  rw [trainStep_eq h hw ha h1, if_pos hend, trainMemory_same hs1 hs10]

theorem trainNext_one (hr : t.repeats < 3) (h : t.step = 1) : c.trainNext t r = { t with step := 2, repeats := 0 } := by
  rw [trainNext, if_neg (by omega), h]
  rfl

theorem trainNext_two (hr : t.repeats < 3) (h : t.step = 2) : c.trainNext t r = c.stepCs t r := by
  rw [trainNext, if_neg (by omega), h]
  rfl

theorem trainNext_three (hr : t.repeats < 3) (h : t.step = 3) : c.trainNext t r = c.stepCa t r := by
  rw [trainNext, if_neg (by omega), h]
  rfl

theorem trainNext_four (hr : t.repeats < 3) (h : t.step = 4) : c.trainNext t r = { t with step := 5, repeats := 0 } := by
  rw [trainNext, if_neg (by omega), h]
  rfl

theorem trainNext_lanes (hr : t.repeats < 3) (h5 : 5 ≤ t.step) : c.trainNext t r = c.stepLanes t r := by
  rw [trainNext, if_neg (by omega)]
  split
  iterate 4 omega
  rfl

theorem trainNext_repeated (hr : 3 ≤ t.repeats) : c.trainNext t r = t.fail t.step := if_pos hr

/-- A lane side step that does not fail. -/
theorem stepLanes_facts (hf : (c.stepLanes t r).failed = none) (h : t.step ≤ 9) :
    (c.stepLanes t r).step = t.step + 1 ∧ (c.stepLanes t r).repeats = 0 := by
  unfold stepLanes at hf ⊢
  dsimp only at hf ⊢
  split at hf
  · exact absurd hf (by simp [TrainRun.fail])
  · next hlane =>
    rw [if_neg hlane, if_neg (by omega)]
    exact ⟨rfl, rfl⟩

/-- CS training takes the centre it finds. -/
theorem stepCs_of_centre {y : Eye} (hy : eyeCentre (c.get Obj.Phy.VREF_COARSE_STEP) r.coarse r.fine = some y) :
    (c.stepCs t r).step = 3 ∧ (c.stepCs t r).repeats = 0 ∧ (c.stepCs t r).csDly.num t.pr = y.t % 4096 ∧
      (c.stepCs t r).vrefCs.num t.pr = y.v % 256 ∧ (c.stepCs t r).failed = t.failed := by
  rw [stepCs, hy]
  exact ⟨rfl, rfl, num_setNum_self _ _ _, num_setNum_self _ _ _, rfl⟩

/-- CA training of PR0 takes the windows it finds. -/
theorem stepCa_of_centre {y : Eye} (hy : eyeCentre (c.get Obj.Phy.VREF_COARSE_STEP) r.coarse r.fine = some y) (hpr : t.pr = 0)
    (hw : ∀ w ∈ r.caBits, w.1 ≤ w.2) : (c.stepCa t r).step = 4 ∧ (c.stepCa t r).repeats = 0 ∧ (c.stepCa t r).caWindows = r.caBits ∧
      (c.stepCa t r).vrefCa.num 0 = y.v % 256 ∧ (c.stepCa t r).failed = t.failed := by
  have hopen : ¬ (r.caBits.any fun w => decide (w.2 < w.1)) = true := fun h => by
    obtain ⟨w, hin, hbad⟩ := List.any_eq_true.mp h
    exact absurd (hw w hin) (Nat.not_le.mpr (of_decide_eq_true hbad))
  rw [stepCa, hy]
  dsimp only
  rw [if_pos hpr, if_neg hopen, hpr]
  exact ⟨rfl, rfl, rfl, num_setNum_self _ _ _, rfl⟩

/-- Step 10 of PR1 is the last. -/
theorem stepLanes_last (h : t.step = 10) (hpr : t.pr = 1) : (c.stepLanes t r).failed.isSome ∨ (c.stepLanes t r).step = 11 := by
  unfold stepLanes
  dsimp only
  split
  · exact .inl rfl
  · exact .inr (by rw [hpr]; rfl)

/-! ## What a step orders -/

/-- `d` is `c` after orders to DRAM. -/
structure Orders (c d : Core) : Prop where
  get : ∀ k, d.get k = c.get k
  req : d.req = c.req
  start : d.start = c.start
  fc : d.fc = c.fc

theorem Orders.refl (c : Core) : Orders c c := ⟨fun _ => rfl, rfl, rfl, rfl⟩
theorem Orders.trans (h : Orders c d) (h' : Orders d e) : Orders c e :=
  ⟨fun k => (h'.get k).trans (h.get k), h'.req.trans h.req, h'.start.trans h.start, h'.fc.trans h.fc⟩

theorem orders_order (c : Core) (n : Nat) (x : DramCmd) : Orders c (c.order n x) := by
  unfold order command
  exact ⟨fun _ => by rw [get_emit, get_updDdr], by simp, by simp, by simp⟩

theorem orders_updDdr (c : Core) (n : Nat) (f : DdrState → DdrState) : Orders c (c.updDdr n f) :=
  ⟨fun k => get_updDdr c k n f, by simp, by simp, by simp⟩

theorem orders_updMc (c : Core) (n : Nat) (f : McState → McState) : Orders c (c.updMc n f) := by
  unfold updMc
  exact ⟨fun _ => by rw [get_setMc], by simp, by simp, by simp⟩

theorem orders_writeDramSide (c : Core) (n pr : Nat) (side : Nat → Nat × Nat × Nat) : Orders c (c.writeDramSide n pr side) := by
  unfold writeDramSide
  generalize List.range 10 = l
  induction l generalizing c with
  | nil => exact .refl c
  | cons k l ih => exact (orders_order c n _).trans (ih _)

theorem modeRegisters_facts (c : Core) (n pr : Nat) : Orders c (c.modeRegisters n pr) ∧
    ((c.modeRegisters n pr).ddrOf n).twoN.testBit pr = c.twoN := by
  have horder : ∀ (c : Core) (x : DramCmd), ((c.order n x).ddrOf n).twoN = (c.ddrOf n).twoN := fun c x => by
    rw [order, command, ddrOf_emit, ddrOf_updDdr_self]
  have h1 := (orders_updDdr c n fun d => { d with twoN := setBitTo pr c.twoN d.twoN }).trans (orders_order _ n (.timing pr c.twoN c.speedNow))
  have h2 : (((c.updDdr n fun d => { d with twoN := setBitTo pr c.twoN d.twoN }).order n (.timing pr c.twoN c.speedNow)).ddrOf n).twoN.testBit pr =
      c.twoN := by rw [horder, ddrOf_updDdr_self, testBit_setBitTo_self]
  unfold modeRegisters
  dsimp only
  split
  · refine ⟨(h1.trans (orders_updDdr _ n _)).trans (orders_order _ n _), ?_⟩
    rw [horder, ddrOf_updDdr_self]
    exact h2
  · exact ⟨h1, h2⟩

theorem trainOrders_side (h5 : 5 ≤ t.step) (h9 : t.step ≤ 9) : Orders c (c.trainOrders n t t1 r) := by
  unfold trainOrders
  split
  · omega
  · omega
  · exact orders_writeDramSide _ _ _ _
  · omega
  · exact .refl c

/-- Step 1 with the DRAM already in reset. -/
theorem dramStart_facts (h : (c.mcOf n).inReset = true) : Orders c (c.dramStart n) ∧ ((c.dramStart n).mcOf n).inReset = false ∧
    (c.dramStart n).out = c.out ++ [.dram n (.reset false) (c.parLevel (.reset false)), .dram n (.zq 0) (c.parLevel (.zq 0)),
      .dram n (.zq 1) (c.parLevel (.zq 1))] := by
  have hu := orders_updMc c n fun m => { m with inReset := false }
  have hm : ((c.updMc n fun m => { m with inReset := false }).mcOf n).inReset = false := by rw [updMc, mcOf_setMc_self]
  have ho : (c.updMc n fun m => { m with inReset := false }).out = c.out := by rw [updMc, out_setMc]
  unfold dramStart
  dsimp only
  rw [if_pos h]
  generalize c.updMc n _ = a at hu hm ho
  have o1 := orders_order a n (.reset false)
  have o2 := orders_order (a.order n (.reset false)) n (.zq 0)
  obtain ⟨a1, -, -, -, a2, -⟩ := order_facts a n (.reset false)
  obtain ⟨b1, -, -, -, b2, -⟩ := order_facts (a.order n (.reset false)) n (.zq 0)
  obtain ⟨c1, -, -, -, c2, -⟩ := order_facts ((a.order n (.reset false)).order n (.zq 0)) n (.zq 1)
  refine ⟨((hu.trans o1).trans o2).trans (orders_order _ n _), by rw [c1, b1, a1, hm], ?_⟩
  rw [c2, b2, a2, ho, parLevel_congr (((hu.trans o1).trans o2).get _), parLevel_congr ((hu.trans o1).get _), parLevel_congr (hu.get _)]
  simp

/-! ## Publication (R206 step 11) -/

/-- A step that a third event fails: the training has FAILED. -/
theorem trainPublish_failed (hn : n < 32) (ho : Orders d c) (hs : d.start = none) (hf : t.failed.isSome = true) (temp : Int) :
    ((c.trainPublish n t temp).ddrOf n).train = none ∧ (c.trainPublish n t temp).get (Obj.Train.TRAIN_STATE n) = 3 ∧
    (c.trainPublish n t temp).get (Obj.Sc.STATE n) = 3 ∧ (c.trainPublish n t temp).bitOf (Obj.Train.FLAGS n) 3 = true ∧
    (c.trainPublish n t temp).get (Obj.Train.READY n) = 1 ∧
    (c.trainPublish n t temp).get (Obj.Train.GEN n) = nextGen (d.get (Obj.Train.GEN n)) ∧
    d.Raises (Src.ddrTrain n) (c.trainPublish n t temp) := by
  obtain ⟨-, h2, h3, -, h5, h6⟩ := trainOver_facts c n t temp
  obtain ⟨f1, f2, f3, f4, f5, f6⟩ := trainFailed_facts hn (c.trainOver n t temp) t
  rw [trainPublish_eq c n t temp (ho.start.trans hs), if_pos (by rw [trainFails, hf]; rfl)]
  refine ⟨f1, f2, f3, f4, (f5 _ (.inl rfl)).trans h2, ?_, fun hears => ?_⟩
  · rw [f5 _ (.inr (.inl rfl)), h3, ho.get]
  · rw [f6 (hears.congr (h5.trans ho.fc)), h6 _ (by simp [Src.ddrTrain]; omega) (by simp [isSluiceKey]; omega), ho.get]

/-- The end of step 10 of PR1. -/
theorem trainPublish_facts (hn : n < 32) (hs : c.start = none) (temp : Int) :
    ((c.trainPublish n t temp).ddrOf n).train = none ∧ (c.trainPublish n t temp).get (Obj.Train.READY n) = 1 ∧
    (c.trainPublish n t temp).get (Obj.Train.GEN n) = nextGen (c.get (Obj.Train.GEN n)) ∧
    (c.trainPublish n t temp).get (Obj.Train.TRAIN_TIME n) = c.hubTime ∧
    (c.trainPublish n t temp).get (Obj.Train.TRAIN_STATE n) = (if c.trainFails n t then 3 else 2) ∧
    ((c.trainPublish n t temp).get (Obj.Train.TRAIN_STATE n) = 3 → (c.trainPublish n t temp).get (Obj.Sc.STATE n) = 3) := by
  obtain ⟨h1, h2, h3, h4, -, -⟩ := trainOver_facts c n t temp
  rw [trainPublish_eq c n t temp hs]
  split
  · obtain ⟨f1, f2, f3, -, f5, -⟩ := trainFailed_facts hn (c.trainOver n t temp) t
    exact ⟨f1, (f5 _ (.inl rfl)).trans h2, (f5 _ (.inr (.inl rfl))).trans h3, (f5 _ (.inr (.inr rfl))).trans h4, f2, fun _ => f3⟩
  · obtain ⟨f1, f2, f3⟩ := trained_facts (c.trainOver n t temp) n t
    exact ⟨f1.trans h1, (f3 _ (.inl rfl)).trans h2, (f3 _ (.inr (.inl rfl))).trans h3, (f3 _ (.inr (.inr rfl))).trans h4, f2,
      fun h => absurd (f2.symm.trans h) (by decide)⟩

/-! ## RETRAIN (R216) -/

theorem openWindow_facts (c : Core) (trig unit w : Nat) : (c.openWindow trig unit w).ddr = c.ddr ∧ (c.openWindow trig unit w).sluice = c.sluice :=
  ⟨(fcOnly_openWindow c trig unit w).ddr, (fcOnly_openWindow c trig unit w).sluice⟩

theorem queueTraining_facts (c : Core) (n : Nat) (one : Bool) : (c.queueTraining n one).get (Obj.Train.TRAIN_STATE n) = 1 ∧
    (c.queueTraining n one).waits Ck.train n = true ∧
    ∃ t, ((c.queueTraining n one).ddrOf n).train = some t ∧ t.waiting = true ∧ t.step = (if one then 1 else 2) := by
  have hstep : ∀ b u, (TrainRun.fresh one b u).step = if one then 1 else 2 := fun b u => rfl
  unfold queueTraining
  have hs := sluiceOnly_askQueued ((c.put (Obj.Train.TRAIN_STATE n) 1).updDdr n fun d =>
    { d with train := some (TrainRun.fresh one (c.bitOf Obj.ScMask.CONTENT_LOST n || one) c.tick) }) Ck.train n 2400
  refine ⟨?_, ?_, ?_⟩
  · rw [hs.get (by simp [isSluiceKey]; omega), get_updDdr, get_put_self]
  · simp [waits, askQueued]
  · refine ⟨TrainRun.fresh one (c.bitOf Obj.ScMask.CONTENT_LOST n || one) c.tick, ?_, rfl, hstep _ _⟩
    rw [hs.ddrOf, ddrOf_updDdr_self]

end Core

theorem retrain_parts (sc : ScNo) : Obj.Train.RETRAIN sc.val / 256 = 0x6000 + 0x40 * sc.val + 1 ∧ Obj.Train.RETRAIN sc.val % 256 = 0xB := by
  simp
  omega

theorem clearableOf_retrain : ∀ sc : ScNo,
    clearableOf (Obj.Train.RETRAIN sc.val / 256) (Obj.Train.RETRAIN sc.val % 256) = none := by
  decide +kernel

theorem writeValue_retrain (s : State) (w : World) (sc : ScNo) (hadm : Admits s w (Obj.Train.RETRAIN sc.val) 1) :
    s.clear.core.writeValue s.fuses w (Obj.Train.RETRAIN sc.val / 256) (Obj.Train.RETRAIN sc.val % 256)
      (toBytes (sizeOf (Obj.Train.RETRAIN sc.val)) 1) = s.clear.core.retrain sc.val := by
  obtain ⟨hidx, hsub⟩ := retrain_parts sc
  rw [hidx, hsub, Core.writeValue_sc _ _ _ _ _ (by decide), ofBytes_toBytes_of_fits hadm.2.1]
  rfl

theorem exec_trainStepDone (sc : ScNo) {r : StepResult} (s : State) (h : r.wf = true) :
    exec (.trainStepDone sc r) s = .next (s.onHubMem fun c m => c.trainStep m sc.val r) := formed_of_wf h

theorem stepLanes_clear (s : State) (t : TrainRun) (r : StepResult) : s.clear.core.stepLanes t r = s.core.stepLanes t r := rfl

section
variable {s : State} {sc : ScNo} {r : StepResult} {t t1 : TrainRun} {P : Core → Prop}

/-- A step after which training goes on: what it orders, then the run after it. -/
theorem answersCore_trainStep (hup : s.core.hubUp = true) (hwf : r.wf = true) (h : (s.core.ddrOf sc.val).train = some t)
    (hw : t.waiting = false) (ha : (s.core.ddrOf sc.val).alertLow = false) (h1 : s.clear.core.trainNext t r = t1) (hs1 : t.step ≠ 1)
    (hs10 : t.step ≠ 10) (hf : t1.failed = none) (h11 : t1.step ≠ 11) (ho : Core.Orders s.clear.core (s.clear.core.trainOrders sc.val t t1 r))
    (hp : P ((s.clear.core.trainOrders sc.val t t1 r).updDdr sc.val fun d => { d with train := some t1 })) :
    AnswersCore (.trainStepDone sc r) s P :=
  answersCore_onHubMem _ (exec_trainStepDone sc s hwf) hup (Core.trainStep_next h hw ha h1 hs1 hs10 hf h11)
    ((Core.req_updDdr _ _ _).trans ho.req) hp

end

/-- Settles O37: the steps of a training that go on, those that end it, and RETRAIN. -/
theorem training : Obligations.Training := by
  unfold Obligations.Training
  refine ⟨fun s sc r t hup hwf h hw ha hr hf hs hreset => ?_, fun s sc r t y hup hwf h hw ha hr hf hy => ⟨fun hs => ?_, fun hs hpr hbits => ?_⟩,
    fun s sc r t hup hwf h hw ha hr hf hs hone => ?_, fun s sc r t t1 hup hwf h hw ha hr hf h5 h9 ht1 hf1 => ?_,
    fun s sc r t hup hwf h hw ha hr h5 h9 hstart => ?_, fun s sc r t hup hwf h hw ha hr hf hs hpr hsave hstart => ?_,
    fun s sc w hadm hoff hstate => ?_, fun s sc w hadm hoff => ?_⟩
  · obtain ⟨ho, hin, hout⟩ := Core.dramStart_facts (c := s.clear.core) hreset
    refine answersAll_onHubMem _ (exec_trainStepDone sc s hwf) hup ?_
    rw [Core.trainStep_eq (c := s.clear.core) h hw ha (Core.trainNext_one hr hs), if_neg (by rw [hf]; simp)]
    have hord : ∀ t1, s.clear.core.trainOrders sc.val t t1 r = s.clear.core.dramStart sc.val := fun t1 => by
      rw [Core.trainOrders, hs]
      rfl
    rw [hord, Core.trainMemory, if_pos hs]
    dsimp only
    refine ⟨by rw [Core.ddrOf_updDdr_self], rfl, ?_, ?_, fun k => ?_, rfl, rfl⟩
    · rw [Core.mcOf_updDdr, hin]
    · rw [Core.out_updDdr, hout]
      rfl
    · rw [Core.get_updDdr, ho.get]
      rfl
  · obtain ⟨h1, h2, h3, h4, h5⟩ := Core.stepCs_of_centre (c := s.clear.core) (t := t) hy
    have hord : ∀ t1, s.clear.core.trainOrders sc.val t t1 r = s.clear.core := fun t1 => by
      rw [Core.trainOrders, hs]
      rfl
    refine answersCore_trainStep hup hwf h hw ha (Core.trainNext_two hr hs) (by omega) (by omega) (h5.trans hf) (by omega)
      (by rw [hord]; exact .refl _) ?_
    rw [hord]
    exact ⟨⟨_, by rw [Core.ddrOf_updDdr_self], h1, h2, h3, h4⟩, fun k => Core.get_updDdr _ _ _ _⟩
  · obtain ⟨h1, h2, h3, h4, h5⟩ := Core.stepCa_of_centre (c := s.clear.core) (t := t) hy hpr hbits
    have hord : ∀ t1, s.clear.core.trainOrders sc.val t t1 r = s.clear.core := fun t1 => by
      rw [Core.trainOrders, hs]
      rfl
    refine answersCore_trainStep hup hwf h hw ha (Core.trainNext_three hr hs) (by omega) (by omega) (h5.trans hf) (by omega)
      (by rw [hord]; exact .refl _) ?_
    rw [hord]
    exact ⟨⟨_, by rw [Core.ddrOf_updDdr_self], h1, h2, h3, h4⟩, fun k => Core.get_updDdr _ _ _ _⟩
  · obtain ⟨ho, hn⟩ := Core.modeRegisters_facts s.clear.core sc.val t.pr
    have hord : ∀ t1, s.clear.core.trainOrders sc.val t t1 r = s.clear.core.modeRegisters sc.val t.pr := fun t1 => by
      rw [Core.trainOrders, hs]
      exact if_neg (by rw [hone]; decide)
    refine answersCore_trainStep hup hwf h hw ha (Core.trainNext_four hr hs) (by omega) (by omega) hf (by simp)
      (by rw [hord]; exact ho) ?_
    rw [hord]
    refine ⟨by rw [Core.ddrOf_updDdr_self], by rw [Core.ddrOf_updDdr_self]; exact hn, fun k => ?_⟩
    rw [Core.get_updDdr, ho.get]
    rfl
  · subst ht1
    obtain ⟨h1, h2⟩ := Core.stepLanes_facts hf1 h9
    have ho := Core.trainOrders_side (c := s.clear.core) (n := sc.val) (t1 := s.core.stepLanes t r) (r := r) h5 h9
    refine answersCore_trainStep hup hwf h hw ha ((Core.trainNext_lanes hr h5).trans (stepLanes_clear s t r)) (by omega) (by omega) hf1
      (by omega) ho ⟨by rw [Core.ddrOf_updDdr_self], h1, h2, fun k => ?_⟩
    rw [Core.get_updDdr, ho.get]
    rfl
  · have ho := Core.trainOrders_side (c := s.clear.core) (n := sc.val) (t1 := t.fail t.step) (r := r) h5 h9
    exact answersThen_onHubMem _ (exec_trainStepDone sc s hwf) hup
      (Core.trainStep_last (c := s.clear.core) h hw ha (Core.trainNext_repeated hr) (by omega) (by omega) (.inl rfl))
      (Core.trainPublish_failed sc.isLt ho hstart rfl _)
  · have hord : s.clear.core.trainOrders sc.val t (s.clear.core.stepLanes t r) r = s.clear.core := by
      rw [Core.trainOrders, hs]
      exact if_neg (by rw [hpr]; decide)
    refine answersThen_onHubMem _ (exec_trainStepDone sc s hwf) hup
      (Core.trainStep_last (c := s.clear.core) h hw ha (Core.trainNext_lanes hr (by omega)) (by omega) (fun _ => hsave)
        (Core.stepLanes_last hs hpr)) ?_
    rw [hord]
    exact Core.trainPublish_facts (c := s.clear.core) sc.isLt hstart _
  · obtain ⟨hddr, hslu⟩ := Core.openWindow_facts s.clear.core 6 sc.val 0
    obtain ⟨q1, q2, q3⟩ := Core.queueTraining_facts (s.clear.core.openWindow 6 sc.val 0) sc.val (decide (s.core.trainState sc.val ≠ 2))
    have heq : s.clear.core.retrain sc.val =
        (.ok, (s.clear.core.openWindow 6 sc.val 0).queueTraining sc.val (decide (s.core.trainState sc.val ≠ 2))) := by
      have hoff' : s.clear.core.scOffline sc.val = true := hoff
      have hst' : s.clear.core.trainState sc.val ≠ 1 := hstate
      rw [Core.retrain, hoff', Bool.not_true, Bool.false_or, if_neg (by simpa using hst')]
      rfl
    refine answersOk_writeNum rfl hadm (clearableOf_retrain sc) (by rw [(retrain_parts sc).1, (retrain_parts sc).2, coreObject]; omega)
      ((writeValue_retrain s w sc hadm).trans heq) ⟨(Core.get_emit _ _ _).trans q1, q2, ?_⟩
    obtain ⟨t, ht, hwait, hstep⟩ := q3
    refine ⟨t, (congrArg DdrState.train (Core.ddrOf_emit _ _ _)).trans ht, hwait, hstep.trans ?_⟩
    by_cases h2 : s.core.trainState sc.val = 2 <;> simp [h2]
  · have hoff' : s.clear.core.scOffline sc.val = false := hoff
    have heq : s.clear.core.retrain sc.val = (.retry, s.clear.core) := by
      rw [Core.retrain, hoff']
      rfl
    exact answersThen_writeNum rfl hadm (clearableOf_retrain sc) (by rw [(retrain_parts sc).1, (retrain_parts sc).2, coreObject]; omega)
      ((writeValue_retrain s w sc hadm).trans heq) ⟨rfl, fun _ => rfl⟩

end Sys2Proof.Machine
end

section
/-! PROOFS. The refutation of the statement about STREAM cells (03_millrace_capture.md R73 to R75): the statement does not bound the
regions whose rings are blocked, and the one that a moved cursor frees writes the status fields of its descriptor. -/

namespace Sys2Proof.Machine

/-- The number that the status of region 0x502 takes to the group delay of stream 2. -/
theorem segsHeld_is_gdelay : Obj.Region.SEGS_HELD 0x502 = Obj.Stream.GDELAY 2 := by decide

/-- The objects of a hub in UP and IDLE: port 1 is UP, and stream 2 of it runs at E = 2^20 on region 3, a ring of 4 MiB. -/
def captureObjs : List (Nat × Nat) :=
  [(Obj.Seq.SEQ_STATE, 2), (Obj.Dev.DEVICE_STATE, Dv.idle), (Obj.Port.PORT_STATE 1, 3), (Obj.Stream.PORT 2, 1), (Obj.Stream.REGION 2, 3),
    (Obj.Stream.STATE 2, St.running), (Obj.Stream.FORMAT 2, 1), (Obj.Stream.RATE 2, (10 ^ 9) <<< 40 + 1), (Obj.Region.PERSONALITY 3, 2),
    (Obj.Region.OWNER_MASK 3, 2), (Obj.Region.DATA_MIB 3, 4), (Obj.Region.SIZE_MIB 3, 6), (Obj.Stream.NEXT_INDEX 2, 2 ^ 20)]

/-- Those objects, credit at port 1, a start under way, and a ring blocked that no hub has. -/
def ringBlocked : State :=
  { State.reset with core :=
    { (((captureObjs.foldl (fun c e => c.put e.1 e.2) Core.init).updPort 1 fun q =>
        { q with grant := [(0, 512), (1, 256), (2, 64), (3, 64)] }).updRing 0x502 fun g => { g with blocked := some 0 }) with
      seq := { Core.init.seq with aoUp := true }, start := some ⟨0, 0, 0, 0, 0, false⟩ } }

/-- A DISCLOSURE cell of stream 2: event STATE at E with a group delay of 5. -/
def delayCell : Cell :=
  mkCell Cy.stream Vc.cap true false 0 64 (2 <<< 40 + 1 <<< 32)
    (toBytes 64 ((2 ^ 20) <<< 448 + 2 <<< 432 + 5 <<< 304 + 1 <<< 303 + 1 <<< 288))

/-- The state after the cell. -/
def ringFreedState : State := ringBlocked.onPower fun k => k.streamIn 1 delayCell

theorem delayCell_fields : cellStream delayCell = 2 ∧ cellKind delayCell = 1 ∧ delayCell.plen.toNat = 64 ∧
    discGdelay (ofBytes (delayCell.payload.take 64)) = 5 := by decide +kernel

theorem ringBlocked_hypotheses : Arrives ringBlocked 1 Cy.stream delayCell ∧
    ringBlocked.core.get (Obj.Stream.PORT (cellStream delayCell)) = 1 ∧ ringBlocked.core.inService = true ∧
    ringBlocked.core.stState (cellStream delayCell) = St.running ∧
    ringBlocked.core.discBad (cellStream delayCell) (ofBytes (delayCell.payload.take 64)) = false ∧
    ringBlocked.core.discRateBad (cellStream delayCell) (ofBytes (delayCell.payload.take 64)) = false ∧
    discEvent (ofBytes (delayCell.payload.take 64)) = 0 ∧
    discSidx (ofBytes (delayCell.payload.take 64)) = ringBlocked.core.next (cellStream delayCell) ∧
    ringBlocked.core.get (Obj.Stream.REGION (cellStream delayCell)) < 1024 ∧
    (ringBlocked.core.streamOf (cellStream delayCell)).waiting = [] ∧ ringBlocked.core.wins = [] := by decide +kernel

theorem ringFreedState_gdelay : ringFreedState.latch = false ∧ ringFreedState.core.start.isSome = true ∧
    ringFreedState.core.get (Obj.Stream.GDELAY 2) = 0 := by decide +kernel

theorem exec_streamDisclosure (p : Port) {x : Cell} (s : State) (h : x.wf = true) :
    exec (.streamDisclosure p x) s = .next (s.onPower fun k => k.streamIn p.val x) := formed_of_wf h

/-- Refutes O24: a record of event STATE for E moves the cursor of its ring, which frees a blocked ring elsewhere; of a region that no
hub has, the freed ring's descriptor takes the place of the group delay. -/
theorem not_captureCells : ¬ Obligations.CaptureCells := by
  unfold Obligations.CaptureCells
  intro h
  obtain ⟨-, -, hdisc, -, -⟩ := h
  obtain ⟨hs, hkind, hlen, hdelay⟩ := delayCell_fields
  obtain ⟨harr, hport, hserv, hrun, hbad, hrate, hev, hsidx, hreg, hwait, hwins⟩ := ringBlocked_hypotheses
  obtain ⟨c, hexec, -, hget, -⟩ := hdisc ringBlocked 1 delayCell harr hport hkind hserv (.inr hrun) hlen hbad hrate hev hsidx hreg hwait hwins
  obtain ⟨hlatch, hstart, hzero⟩ := ringFreedState_gdelay
  have hend : ({ ringBlocked with core := c } : State).settle = ringFreedState :=
    (Host.Outcome.next.inj ((exec_streamDisclosure 1 ringBlocked harr.2.1).symm.trans hexec)).symm
  rw [← hend] at hlatch hstart hzero
  have hcalm := State.settle_calm hlatch hstart (k := Obj.Stream.GDELAY 2) (by unfold Core.calmKey; decide)
  rw [hs, hdelay] at hget
  exact absurd ((hcalm.trans hget).symm.trans hzero) (by decide)

end Sys2Proof.Machine
end

section
/-! PROOFS. What the requests of a device state are made of: the entry of a state, object by object; the credits and orders of SLEEP;
the exits of WAKE (16_states_start_sluice.md R409, R414, R415). -/

namespace Sys2Proof.Machine

theorem testBit_maskOf (w : Nat) (f : Nat → Bool) (i : Nat) : (maskOf w f).testBit i = (decide (i < w) && f i) := by
  induction w generalizing i with
  | zero => simp [maskOf]
  | succ w ih =>
    have hsucc : maskOf (w + 1) f = if f w then maskOf w f + 2 ^ w else maskOf w f := by
      unfold maskOf
      rw [List.range_succ, List.foldl_append]
      rfl
    have hclear : (maskOf w f).testBit w = false := by rw [ih]; simp
    have hlt : i ≠ w → decide (i < w + 1) = decide (i < w) := fun h => by simp; omega
    rw [hsucc]
    by_cases hi : i = w
    · subst hi
      split
      · next hf => rw [testBit_add_two_pow _ _ _ hclear, if_pos rfl, hf]; simp
      · next hf => rw [hclear]; simp [hf]
    · rw [hlt hi, ← ih]
      split
      · rw [testBit_add_two_pow _ _ _ hclear, if_neg hi]
      · rfl

namespace Core

variable {c d : Core} {n i : Nat}

/-! ## The entry of a state (R408) -/

/-- The objects that the entry of a device state writes. -/
def entryKey (k : Nat) : Prop :=
  k = Obj.Dev.PREV_STATE ∨ k = Obj.Dev.DEVICE_STATE ∨ k = Obj.Dev.T_STATE ∨ k = Obj.Dev.FLAGS ∨ k = Obj.Fc.PIN_STATE

theorem setDev_get (c : Core) (v : Nat) {k : Nat} (h : ¬ entryKey k) : (c.setDev v).get k = c.get k := by
  unfold entryKey at h
  obtain ⟨h1, h2, h3, h4, h5⟩ : k ≠ Obj.Dev.PREV_STATE ∧ k ≠ Obj.Dev.DEVICE_STATE ∧ k ≠ Obj.Dev.T_STATE ∧ k ≠ Obj.Dev.FLAGS ∧
      k ≠ Obj.Fc.PIN_STATE := by tauto
  unfold setDev
  split
  · rfl
  · rw [get_ask, get_pins_ne _ h5, get_flag_ne _ _ h4, get_put_ne _ _ h3, get_put_ne _ _ h2, get_put_ne _ _ h1]

/-- Another state is entered: what the objects of the device show. -/
theorem setDev_entered (c : Core) {v : Nat} (hl : c.dev ≠ Dv.lockout) (hv : c.dev ≠ v) : (c.setDev v).get Obj.Dev.PREV_STATE = c.dev ∧
    (c.setDev v).get Obj.Dev.T_STATE = c.hubTime ∧ (c.setDev v).bitOf Obj.Dev.FLAGS 0 = true := by
  have hp : ∀ k, k ≠ Obj.Fc.PIN_STATE → (c.setDev v).get k =
      ((((c.put Obj.Dev.PREV_STATE c.dev).put Obj.Dev.DEVICE_STATE v).put Obj.Dev.T_STATE c.hubTime).flag Obj.Dev.FLAGS 0).get k := fun k hk => by
    rw [setDev, if_neg (by simp [hl, hv]), get_ask, get_pins_ne _ hk]
  refine ⟨?_, ?_, ?_⟩
  · rw [hp _ (by decide), get_flag_ne _ _ (by decide), get_put_ne _ _ (by decide), get_put_ne _ _ (by decide), get_put_self]
  · rw [hp _ (by decide), get_flag_ne _ _ (by decide), get_put_self]
  · rw [bitOf_congr 0 (hp _ (by decide)), bitOf_flag_self]

/-- The engines that the entry of a state leaves alone. -/
theorem setDev_fields (c : Core) (v : Nat) : (c.setDev v).mc = c.mc ∧ (c.setDev v).sluice = c.sluice ∧ (c.setDev v).tap = c.tap ∧
    (c.setDev v).tick = c.tick ∧ (c.setDev v).start = c.start ∧ (c.setDev v).fc.fallback = c.fc.fallback := by
  have hpins : ∀ a : Core, a.pins.fc.fallback = a.fc.fallback := fun a => by
    unfold pins
    dsimp only
    rw [fc_put]
    split_ifs <;> rfl
  have hask : ∀ (a : Core) (r : Req), (a.ask r).mc = a.mc ∧ (a.ask r).sluice = a.sluice ∧ (a.ask r).tap = a.tap ∧ (a.ask r).tick = a.tick ∧
      (a.ask r).fc = a.fc := fun _ _ => ⟨rfl, rfl, rfl, rfl, rfl⟩
  refine ⟨(setDev_facts c v).2.1, ?_, ?_, ?_, start_setDev c v, ?_⟩ <;> unfold setDev <;> split
  · rfl
  · rw [(hask _ _).2.1, (fcOnly_pins _).sluice]
    simp only [flag, sluice_put]
  · rfl
  · rw [(hask _ _).2.2.1, (fcOnly_pins _).tap]
    simp only [flag, tap_put]
  · rfl
  · rw [(hask _ _).2.2.2.1, (fcOnly_pins _).tick]
    simp only [flag, tick_put]
  · rfl
  · rw [(hask _ _).2.2.2.2, hpins]
    simp only [flag, fc_put]

/-! ## Power-down before an order (R183, R415) -/

theorem wakeRank_mcOf_ne (c : Core) (pr : Nat) (h : i ≠ n) : (c.wakeRank n pr).mcOf i = c.mcOf i := by
  have hpd : ∀ d : Core, (d.pdExit n pr).mcOf i = d.mcOf i := fun d => by
    unfold pdExit
    dsimp only
    split
    · rw [mcOf_put, mcOf_order, putBit, mcOf_put, updMc, mcOf_setMc_ne _ _ h]
    · rw [mcOf_order, putBit, mcOf_put, updMc, mcOf_setMc_ne _ _ h]
  unfold wakeRank
  dsimp only
  split
  · split
    · rw [updMc, mcOf_setMc_ne _ _ h, updMc, mcOf_setMc_ne _ _ h]
    · rw [hpd, updMc, mcOf_setMc_ne _ _ h]
  · rw [updMc, mcOf_setMc_ne _ _ h]

/-- One subchannel on its way to sleep. -/
def sleepAt (c : Core) (n : Nat) : Core := (c.wakeBoth n).orderSelfRefresh n 2

theorem orderSelfRefresh_frame (c : Core) (n why : Nat) : RankOnly n c (c.orderSelfRefresh n why) ∧
    ∀ i, i ≠ n → (c.orderSelfRefresh n why).mcOf i = c.mcOf i := by
  unfold orderSelfRefresh
  split
  · exact ⟨rankOnly_updMc c n n _, fun i h => by rw [updMc, mcOf_setMc_ne _ _ h]⟩
  · exact ⟨rankOnly_updMc c n n _, fun i h => by rw [updMc, mcOf_setMc_ne _ _ h]⟩

theorem sleepAt_frame (c : Core) (n : Nat) : RankOnly n c (c.sleepAt n) ∧ ∀ i, i ≠ n → (c.sleepAt n).mcOf i = c.mcOf i := by
  obtain ⟨h1, h2⟩ := orderSelfRefresh_frame (c.wakeBoth n) n 2
  refine ⟨((rankOnly_wakeRank c n 0).trans (rankOnly_wakeRank _ n 1)).trans h1, fun i h => ?_⟩
  rw [sleepAt, h2 i h, wakeBoth, wakeRank_mcOf_ne _ _ h, wakeRank_mcOf_ne _ _ h]

/-- A subchannel ordered to sleep rests or enters self-refresh (R415). -/
def asleep (c : Core) (n : Nat) : Prop := (c.mcOf n).srWhy &&& 2 = 2 ∧ (c.resting n = true ∨ (c.mcOf n).srEntering = true)

theorem asleep_of (hm : d.mcOf n = c.mcOf n) (hs : d.scState n = c.scState n) (h : c.asleep n) : d.asleep n := by
  rwa [asleep, resting, hm, hs]

theorem orderSelfRefresh_asleep (h : c.scOffline n = false) : (c.orderSelfRefresh n 2).asleep n := by
  have hwhy : ∀ m : McState, (m.srWhy ||| 2) &&& 2 = 2 := fun m => by
    apply Nat.eq_of_testBit_eq
    intro j
    simp
    tauto
  unfold orderSelfRefresh asleep resting
  split
  · next hc =>
    have hst : (c.updMc n fun m => { m with srWhy := m.srWhy ||| 2 }).scState n = c.scState n := rfl
    rw [hst, updMc, mcOf_setMc_self]
    rw [h] at hc
    exact ⟨hwhy _, .inl (by simpa using hc)⟩
  · rw [updMc, mcOf_setMc_self]
    exact ⟨hwhy _, .inr rfl⟩

/-- Power-down exit does not take a subchannel OFFLINE. -/
theorem wakeBoth_scOffline (h : c.scOffline n = false) : (c.wakeBoth n).scOffline n = false := by
  have hpd : ∀ (d : Core) (pr : Nat), d.scOffline n = false → (d.pdExit n pr).scOffline n = false := fun d pr hd => by
    have hput : ∀ (a : Core) (x : DramCmd), ((a.putBit (Obj.Sc.PD_MASK n) pr false).order n x).scOffline n = a.scOffline n := fun a x => by
      rw [scOffline, scState, get_order, putBit, get_put_ne _ _ (by simp)]
      rfl
    unfold pdExit
    dsimp only
    split
    · rw [scOffline, scState, get_put_self]
      rfl
    · rw [hput]
      exact hd
  have hrank : ∀ (d : Core) (pr : Nat), d.scOffline n = false → (d.wakeRank n pr).scOffline n = false := fun d pr hd => by
    unfold wakeRank
    dsimp only
    split
    · split
      · exact hd
      · exact hpd _ pr hd
    · exact hd
  exact hrank _ 1 (hrank c 0 h)

/-- SLEEP orders every subchannel of a list that is not OFFLINE. -/
theorem sleepAll_asleep (p : Nat → Bool) (c : Core) (hn : n < 32) (hp : p n = true) (hoff : c.scOffline n = false) :
    ((((List.range 32).filter p).foldl (fun c n => c.sleepAt n) c).asleep n) := by
  have heach : ((List.range 32).filter p).foldl (fun c n => c.sleepAt n) c = c.each 32 fun c n => if p n then c.sleepAt n else c := by
    rw [List.foldl_filter]
    unfold each
    rfl
  have hne : ∀ (d : Core) (j : Nat), j ≠ n → (if p j then d.sleepAt j else d).mcOf n = d.mcOf n ∧
      (if p j then d.sleepAt j else d).scState n = d.scState n := fun d j hj => by
    obtain ⟨h1, h2⟩ := sleepAt_frame d j
    split
    · exact ⟨h2 n (Ne.symm hj), h1.get (by simp; omega) (by simp; omega)⟩
    · exact ⟨rfl, rfl⟩
  rw [heach]
  refine each_reaches (P := fun d => d.scOffline n = false) (Q := fun d => d.asleep n) hn (fun d j hj hd => ?_) (fun d hd => ?_)
    (fun d j hij _ hd => ?_) hoff
  · rw [scOffline, (hne d j (by omega)).2]
    exact hd
  · rw [if_pos hp]
    exact orderSelfRefresh_asleep (wakeBoth_scOffline hd)
  · exact asleep_of (hne d j (by omega)).1 (hne d j (by omega)).2 hd

/-- The rest of the hub as SLEEP's orders leave it. -/
theorem sleepAll_frame (l : List Nat) (c : Core) : (l.foldl (fun c n => c.sleepAt n) c).sluice = c.sluice ∧
    ∀ k < 0x600000, (l.foldl (fun c n => c.sleepAt n) c).get k = c.get k := by
  induction l generalizing c with
  | nil => exact ⟨rfl, fun _ _ => rfl⟩
  | cons n l ih =>
    obtain ⟨h1, -⟩ := sleepAt_frame c n
    obtain ⟨i1, i2⟩ := ih (c.sleepAt n)
    exact ⟨i1.trans h1.sluice, fun k hk => (i2 k hk).trans (h1.get (by simp; omega) (by simp; omega))⟩

end Core
end Sys2Proof.Machine
end

section
/-! PROOFS. Requests of a device state (16_states_start_sluice.md R408 to R411, R414, R415, R418; 13_security_worlds.md R355). -/

namespace Sys2Proof.Machine
namespace Core

variable {c d : Core} {n i : Nat}

/-! ## SERVICE and its end (R355, R409) -/

theorem dev_of_inService (h : c.inService = true) : c.dev = Dv.idle ∨ c.dev = Dv.degraded := by
  simpa [inService] using h

theorem serviceState_cases (c : Core) : c.serviceState = Dv.degraded ∨ c.serviceState = Dv.idle := by
  unfold serviceState
  split
  · exact .inl rfl
  · exact .inr rfl

/-- The TAP as SERVICE leaves it: EXTEST is not in force. -/
def tapLeft (c : Core) : Core := if c.tap.instr = .extest then c.jtagReset else c

theorem tapLeft_facts (c : Core) : (∀ k, c.tapLeft.get k = c.get k) ∧ c.tapLeft.mc = c.mc ∧ c.tapLeft.hubTime = c.hubTime ∧
    c.tapLeft.tap = (if c.tap.instr = .extest then { mode := c.get Obj.Sec.JTAG_MODE, instr := .idcode } else c.tap) := by
  unfold tapLeft
  split
  · exact ⟨fun _ => rfl, rfl, rfl, rfl⟩
  · exact ⟨fun _ => rfl, rfl, rfl, rfl⟩

theorem serviceState_congr (h : ∀ i < 32, d.scOut i = c.scOut i) : d.serviceState = c.serviceState := by
  have hany : d.anyOut = c.anyOut := by
    unfold anyOut
    rw [Bool.eq_iff_iff, List.any_eq_true, List.any_eq_true]
    exact exists_congr fun i => and_congr_right fun hi => by rw [h i (List.mem_range.mp hi)]
  rw [serviceState, serviceState, hany]

/-! ## SLEEP (R415, R424) -/

/-- The credits that SLEEP takes, as one grant. -/
def sleepCredits (c : Core) (ask : List Nat) : Core :=
  let c1 : Core := c.withSluice { c.sluice with
      held := c.sluice.held ++ ask.map fun n => { kind := Ck.srExit, owner := n, mw := 400, forced := false } }
  (c1.inc64 Obj.Sluice.GRANTS).put Obj.Sluice.PEAK_GRANTED_MW (max (c.get Obj.Sluice.PEAK_GRANTED_MW) c1.granted)

theorem creditSum_append (a b : List Credit) : creditSum (a ++ b) = creditSum a + creditSum b := by
  have hfrom : ∀ (l : List Credit) (x : Nat), l.foldl (fun a c => a + c.mw) x = x + l.foldl (fun a c => a + c.mw) 0 := fun l => by
    induction l with
    | nil => exact fun _ => rfl
    | cons y l ih =>
      intro x
      rw [List.foldl_cons, List.foldl_cons, ih, ih (0 + y.mw)]
      omega
  unfold creditSum
  rw [List.foldl_append, hfrom]

theorem creditSum_map_const (l : List Nat) (f : Nat → Credit) (w : Nat) (h : ∀ n, (f n).mw = w) : creditSum (l.map f) = w * l.length := by
  induction l with
  | nil => rfl
  | cons n l ih =>
    have hone : creditSum [f n] = w := by simp [creditSum, h]
    rw [List.map_cons, ← List.singleton_append, creditSum_append, hone, ih, List.length_cons]
    ring

theorem sleepCredits_facts (c : Core) (ask : List Nat) : c.SluiceOnly (c.sleepCredits ask) ∧
    (c.sleepCredits ask).get Obj.Sluice.GRANTS = min (c.get Obj.Sluice.GRANTS + 1) (2 ^ 64 - 1) ∧
    (c.sleepCredits ask).granted = c.granted + 400 * ask.length ∧
    ∀ n, (c.holds Ck.srExit n = true ∨ n ∈ ask) → (c.sleepCredits ask).holds Ck.srExit n = true := by
  have hheld : (c.sleepCredits ask).sluice.held =
      c.sluice.held ++ ask.map fun n => { kind := Ck.srExit, owner := n, mw := 400, forced := false } := rfl
  refine ⟨((sluiceOnly_withSluice c _).trans (sluiceOnly_put _ _ _ (by decide))).trans (sluiceOnly_put _ _ _ (by decide)), ?_, ?_,
    fun n hn => ?_⟩
  · unfold sleepCredits
    rw [get_put_ne _ _ (by decide), get_inc64_min]
    rfl
  · rw [granted, hheld, creditSum_append, creditSum_map_const _ _ 400 fun _ => rfl]
    rfl
  · rw [holds, hheld, List.any_append]
    rcases hn with hn | hn
    · rw [holds] at hn
      rw [hn, Bool.true_or]
    · rw [Bool.or_eq_true]
      exact .inr (by simpa using hn)

/-- SLEEP with its grant: every subchannel in service is ordered into self-refresh, then the state is entered. -/
def slept (c : Core) (ns ask : List Nat) : Core := (ns.foldl (fun c n => c.sleepAt n) (c.sleepCredits ask)).setDev Dv.sleep

theorem reqSleep_eq (hin : c.inService = true) (hb : c.engineBusy = false) (ht : ∀ n < 32, c.trainState n ≠ 1) : c.reqSleep =
    (if c.admits (400 * (((List.range 32).filter fun n => !c.scOffline n).filter (fun n => !c.holds Ck.srExit n)).length) = true then
      (.ok, c.slept ((List.range 32).filter fun n => !c.scOffline n)
        (((List.range 32).filter fun n => !c.scOffline n).filter (fun n => !c.holds Ck.srExit n)))
    else (.busySluice, c.refuse)) := by
  have htrain : ((List.range 32).any fun n => decide (c.trainState n = 1)) = false := by
    rw [List.any_eq_false]
    exact fun n hn => by simpa using ht n (List.mem_range.mp hn)
  unfold reqSleep
  dsimp only
  rw [hin, hb, htrain, if_neg (by decide)]
  cases c.admits (400 * (((List.range 32).filter fun n => !c.scOffline n).filter (fun n => !c.holds Ck.srExit n)).length) <;> rfl

theorem slept_facts (hl : c.dev ≠ Dv.lockout) (ask : List Nat) (p : Nat → Bool) : (c.slept ((List.range 32).filter p) ask).dev = Dv.sleep ∧
    (c.slept ((List.range 32).filter p) ask).get Obj.Sluice.GRANTS = min (c.get Obj.Sluice.GRANTS + 1) (2 ^ 64 - 1) ∧
    (c.slept ((List.range 32).filter p) ask).granted = c.granted + 400 * ask.length ∧
    ∀ n < 32, p n = true → c.scOffline n = false → ((c.holds Ck.srExit n = true ∨ n ∈ ask) →
      (c.slept ((List.range 32).filter p) ask).holds Ck.srExit n = true) ∧ (c.slept ((List.range 32).filter p) ask).asleep n := by
  obtain ⟨h1, h2, h3, h4⟩ := sleepCredits_facts c ask
  unfold slept
  generalize c.sleepCredits ask = a at h1 h2 h3 h4
  obtain ⟨b1, b2⟩ := sleepAll_frame ((List.range 32).filter p) a
  have hall := fun n => sleepAll_asleep (n := n) p a
  generalize ((List.range 32).filter p).foldl (fun c n => c.sleepAt n) a = b at b1 b2 hall
  obtain ⟨m, s, -⟩ := setDev_fields b Dv.sleep
  have hdev : b.dev = c.dev := (b2 _ (by decide)).trans (h1.get (by decide))
  refine ⟨dev_setDev _ _ (by rwa [hdev]), ?_, ?_, fun n hn hp hoff => ⟨fun hc => ?_, ?_⟩⟩
  · rw [setDev_get _ _ (by simp [entryKey]), b2 _ (by decide), h2]
  · rw [granted, s, b1, ← granted, h3]
  · rw [holds, s, b1, ← holds]
    exact h4 n hc
  · refine asleep_of (c := b) (by rw [mcOf, m, mcOf]) (setDev_get _ _ (by simp [entryKey]; omega)) (hall n hn hp ?_)
    rw [scOffline, scState, h1.get (by simp [isSluiceKey]; omega)]
    exact hoff

/-! ## WAKE (R414) -/

/-- WAKE in one subchannel: it leaves self-refresh, or gives up an entry that has not completed. -/
def wakeAt (exits : Nat) (c : Core) (n : Nat) : Core :=
  if exits.testBit n then c.demandExit n
  else if c.scOut n || !(c.mcOf n).srEntering then c
  else (c.updMc n fun m => { m with srEntering := false, srWhy := 0 }).release Ck.srExit n

/-- The controller of a subchannel after WAKE, by its STATE. -/
def wokenMc (exit : Bool) (st : Nat) (m : McState) : McState :=
  if exit then (if m.srExiting || !(decide (st = 2) || decide (m.srAt ≠ 0)) then m else { m with srExiting := true })
  else if decide (st = 3) || m.held || !m.srEntering then m
  else { m with srEntering := false, srWhy := 0 }

theorem wakeAt_frame (exits : Nat) (c : Core) (n : Nat) : (wakeAt exits c n).objs = c.objs ∧ (wakeAt exits c n).tick = c.tick ∧
    (∀ i, i ≠ n → (wakeAt exits c n).mcOf i = c.mcOf i) ∧ (wakeAt exits c n).mcOf n = wokenMc (exits.testBit n) (c.scState n) (c.mcOf n) := by
  unfold wakeAt wokenMc
  split
  · unfold demandExit
    split
    · exact ⟨rfl, rfl, fun _ _ => rfl, rfl⟩
    · have hmc : ∀ (d : Core) (q : List Nat) (i : Nat), ({ d with srQueue := q } : Core).mcOf i = d.mcOf i := fun _ _ _ => rfl
      refine ⟨objs_setMc c n { c.mcOf n with srExiting := true }, rfl, fun i hi => ?_, ?_⟩
      · rw [hmc, updMc, mcOf_setMc_ne _ _ hi]
      · rw [hmc, updMc, mcOf_setMc_self]
  · rw [scOut, scOffline]
    split
    · exact ⟨rfl, rfl, fun _ _ => rfl, rfl⟩
    · exact ⟨objs_setMc c n { c.mcOf n with srEntering := false, srWhy := 0 }, rfl, fun i hi => mcOf_setMc_ne _ _ hi, mcOf_setMc_self _ _ _⟩

theorem wakeAll_facts (exits : Nat) (c : Core) : (c.each 32 (wakeAt exits)).objs = c.objs ∧ (c.each 32 (wakeAt exits)).tick = c.tick ∧
    ∀ n < 32, (c.each 32 (wakeAt exits)).mcOf n = wokenMc (exits.testBit n) (c.scState n) (c.mcOf n) := by
  refine ⟨each_objs 32 _ c fun d j => (wakeAt_frame exits d j).1, each_field (fun c => c.tick) 32 _ (fun d j => (wakeAt_frame exits d j).2.1) c,
    fun n hn => ?_⟩
  have hst : ∀ (d : Core) (j : Nat), (wakeAt exits d j).scState n = d.scState n := fun d j => by
    rw [scState, get, (wakeAt_frame exits d j).1]
    rfl
  refine each_reaches (P := fun d => d.mcOf n = c.mcOf n ∧ d.scState n = c.scState n)
    (Q := fun d => d.mcOf n = wokenMc (exits.testBit n) (c.scState n) (c.mcOf n)) hn (fun d j hj hd => ?_) (fun d hd => ?_)
    (fun d j hij _ hd => ?_) ⟨rfl, rfl⟩
  · exact ⟨((wakeAt_frame exits d j).2.2.1 n (by omega)).trans hd.1, (hst d j).trans hd.2⟩
  · rw [(wakeAt_frame exits d n).2.2.2, hd.1, hd.2]
  · exact ((wakeAt_frame exits d j).2.2.1 n (by omega)).trans hd

/-- The start that a WAKE begins. -/
def wakeRun (c : Core) (exits trains : Nat) : StartRun :=
  { origin := 2, begun := c.tick, exits := exits, restores := 0, trains := trains, cold := false }

/-- The hub in RESTORE, before a start goes on. -/
def woken (c : Core) (exits trains : Nat) : Core :=
  (((c.each 32 (wakeAt exits)).takeBin).withStart (some (c.wakeRun exits trains))).setDev Dv.restore

theorem reqWake_eq (h : c.dev = Dv.sleep) : c.reqWake = (.ok, (c.woken (maskOf 32 fun n => c.resting n && !(c.mcOf n).held)
    (maskOf 32 fun n => c.binMoved && !(c.scOut n))).advance) := by
  rw [reqWake, if_neg (by rw [h]; decide)]
  rfl

theorem takeBin_facts (c : Core) : c.takeBin.get Hid.SPEED = c.get Obj.Phy.SPEED_BIN ∧ c.takeBin.mc = c.mc ∧ c.takeBin.tick = c.tick ∧
    ∀ k, k ≠ Hid.SPEED → c.takeBin.get k = c.get k := by
  unfold takeBin
  split
  · next h => exact ⟨h, rfl, rfl, fun _ _ => rfl⟩
  · refine ⟨?_, rfl, rfl, fun k hk => ?_⟩
    · rw [touch, get_updLedger, get_put_self]
    · rw [touch, get_updLedger, get_put_ne _ _ hk]

theorem woken_facts (hl : c.dev ≠ Dv.lockout) (exits trains : Nat) : (c.woken exits trains).dev = Dv.restore ∧
    (c.woken exits trains).start = some (c.wakeRun exits trains) ∧ (c.woken exits trains).tick = c.tick ∧
    (c.woken exits trains).get Hid.SPEED = c.get Obj.Phy.SPEED_BIN ∧
    (∀ n, (c.woken exits trains).scState n = c.scState n) ∧
    ∀ n < 32, (c.woken exits trains).mcOf n = wokenMc (exits.testBit n) (c.scState n) (c.mcOf n) := by
  obtain ⟨h1, h2, h3⟩ := wakeAll_facts exits c
  unfold woken
  generalize c.each 32 (wakeAt exits) = a at h1 h2 h3
  have hget : ∀ k, a.get k = c.get k := fun k => by rw [get, h1, get]
  obtain ⟨t1, t2, t3, t4⟩ := takeBin_facts a
  have hst : ∀ k, (a.takeBin.withStart (some (c.wakeRun exits trains))).get k = a.takeBin.get k := fun _ => rfl
  obtain ⟨m, -, -, k, s, -⟩ := setDev_fields (a.takeBin.withStart (some (c.wakeRun exits trains))) Dv.restore
  refine ⟨dev_setDev _ _ ?_, s, ?_, ?_, fun n => ?_, fun n hn => ?_⟩
  · rw [dev, hst, t4 _ (by decide), hget]
    exact hl
  · exact k.trans (t3.trans h2)
  · rw [setDev_get _ _ (by simp [entryKey]), hst, t1, hget]
  · rw [scState, setDev_get _ _ (by simp [entryKey]; omega), hst, t4 _ (by simp [Hid.SPEED]; omega), hget]
    rfl
  · rw [mcOf, m]
    have : (a.takeBin.withStart (some (c.wakeRun exits trains))).mc = a.mc := t2
    rw [this]
    exact h3 n hn

/-! ## How a start of WAKE goes on (R408, R410, R411) -/

theorem queueTraining_frame (c : Core) (n : Nat) (one : Bool) : (c.queueTraining n one).mc = c.mc ∧
    (c.queueTraining n one).get Hid.SPEED = c.get Hid.SPEED ∧ (c.queueTraining n one).dev = c.dev := by
  unfold queueTraining
  have hs := sluiceOnly_askQueued ((c.put (Obj.Train.TRAIN_STATE n) 1).updDdr n fun d =>
    { d with train := some (TrainRun.fresh one (c.bitOf Obj.ScMask.CONTENT_LOST n || one) c.tick) }) Ck.train n 2400
  refine ⟨hs.mc.trans rfl, ?_, ?_⟩
  · rw [hs.get (by decide), get_updDdr, get_put_ne _ _ (by simp [Hid.SPEED]; omega)]
  · rw [dev, hs.get (by decide), get_updDdr, get_put_ne _ _ (by simp; omega)]
    rfl

theorem trainPhase_frame (c : Core) : c.trainPhase.mc = c.mc ∧ c.trainPhase.get Hid.SPEED = c.get Hid.SPEED ∧ c.trainPhase.dev = c.dev := by
  have hone : ∀ (r : StartRun) (c : Core) (i : Nat), (if r.trains.testBit i && decide (c.trainState i ≠ 1) then
      c.queueTraining i (c.mcOf i).inReset else c).mc = c.mc ∧ (if r.trains.testBit i && decide (c.trainState i ≠ 1) then
      c.queueTraining i (c.mcOf i).inReset else c).get Hid.SPEED = c.get Hid.SPEED ∧ (if r.trains.testBit i && decide (c.trainState i ≠ 1) then
      c.queueTraining i (c.mcOf i).inReset else c).dev = c.dev := fun r c i => by
    split
    · exact queueTraining_frame c i _
    · exact ⟨rfl, rfl, rfl⟩
  unfold trainPhase
  split
  · exact ⟨rfl, rfl, rfl⟩
  · next r _ =>
    split
    · exact ⟨rfl, rfl, rfl⟩
    · exact each_induct (fun d => d.mc = c.mc ∧ d.get Hid.SPEED = c.get Hid.SPEED ∧ d.dev = c.dev) 32 _ c ⟨rfl, rfl, rfl⟩
        fun d i _ ⟨h1, h2, h3⟩ => by
          obtain ⟨k1, k2, k3⟩ := hone r d i
          exact ⟨k1.trans h1, k2.trans h2, k3.trans h3⟩

/-- A start with subchannels left to take out of self-refresh waits. -/
theorem advance_exits {r : StartRun} (hs : c.start = some r) (hd : c.dev = Dv.restore) (he : r.exits ≠ 0) : c.advance = c := by
  have hp : c.startProgress = c := by
    rw [startProgress, hs]
    dsimp only
    rw [if_neg (by simp [he]), if_neg (by rw [hd]; simp)]
  rw [advance, hp, trainPhase, hs]
  dsimp only
  rw [if_pos (by rw [hd]; decide)]

/-- With none left, and some to train, the device enters TRAIN. -/
theorem advance_trains {r : StartRun} (hs : c.start = some r) (hd : c.dev = Dv.restore) (he : r.exits = 0) (hr : r.restores = 0)
    (ht : r.trains ≠ 0) : c.advance = (c.setDev Dv.train).trainPhase := by
  rw [advance, startProgress, hs]
  dsimp only
  rw [if_pos (by rw [hd, he, hr]; decide), if_neg ht]

/-- With none of either the start ends. -/
theorem advance_ends {r : StartRun} (hs : c.start = some r) (hd : c.dev = Dv.restore) (he : r.exits = 0) (hr : r.restores = 0)
    (ht : r.trains = 0) : c.advance = c.finishStart r := by
  rw [advance, startProgress, hs]
  dsimp only
  rw [if_pos (by rw [hd, he, hr]; decide), if_pos ht, trainPhase, start_finishStart]

/-- The core that the end of a start leaves, before the state of service is entered. -/
def startDone (c : Core) (r : StartRun) : Core :=
  (let c1 := (c.put Obj.Dev.START_KIND (if r.origin = 0 then (if r.cold then 0 else 1) else r.origin)).put Obj.Dev.START_TIME_US
      (sat 32 ((c.tick - r.begun) * 2 / 1000))
   if c1.isSet Obj.Dev.FORCE_COLD then (c1.put Obj.Dev.FORCE_COLD 0).touch else c1).withStart none

theorem startDone_facts (c : Core) (r : StartRun) : (c.startDone r).mc = c.mc ∧
    (c.startDone r).get Obj.Dev.START_KIND = (if r.origin = 0 then (if r.cold then 0 else 1) else r.origin) ∧
    (c.startDone r).get Obj.Dev.START_TIME_US = sat 32 ((c.tick - r.begun) * 2 / 1000) ∧
    ∀ k, k ≠ Obj.Dev.START_KIND → k ≠ Obj.Dev.START_TIME_US → k ≠ Obj.Dev.FORCE_COLD → (c.startDone r).get k = c.get k := by
  have hcold : ∀ a : Core, (if a.isSet Obj.Dev.FORCE_COLD then (a.put Obj.Dev.FORCE_COLD 0).touch else a).mc = a.mc ∧
      ∀ k, k ≠ Obj.Dev.FORCE_COLD → (if a.isSet Obj.Dev.FORCE_COLD then (a.put Obj.Dev.FORCE_COLD 0).touch else a).get k = a.get k := fun a => by
    split
    · exact ⟨rfl, fun k hk => by rw [touch, get_updLedger, get_put_ne _ _ hk]⟩
    · exact ⟨rfl, fun _ _ => rfl⟩
  unfold startDone
  dsimp only
  generalize hx : (c.put Obj.Dev.START_KIND (if r.origin = 0 then (if r.cold then 0 else 1) else r.origin)).put Obj.Dev.START_TIME_US
      (sat 32 ((c.tick - r.begun) * 2 / 1000)) = x
  obtain ⟨h1, h2⟩ := hcold x
  generalize (if x.isSet Obj.Dev.FORCE_COLD then (x.put Obj.Dev.FORCE_COLD 0).touch else x) = y at h1 h2
  have hget : ∀ k, (y.withStart none).get k = y.get k := fun _ => rfl
  refine ⟨h1.trans (by rw [← hx]; rfl), ?_, ?_, fun k k1 k2 k3 => ?_⟩
  · rw [hget, h2 _ (by decide), ← hx, get_put_ne _ _ (by decide), get_put_self]
  · rw [hget, h2 _ (by decide), ← hx, get_put_self]
  · rw [hget, h2 k k3, ← hx, get_put_ne _ _ k2, get_put_ne _ _ k1]

theorem finishStart_eq (c : Core) (r : StartRun) : c.finishStart r = (c.startDone r).setDev (c.startDone r).serviceState := rfl

theorem finishStart_facts (r : StartRun) (hl : c.dev ≠ Dv.lockout) : (c.finishStart r).mc = c.mc ∧ (c.finishStart r).dev = c.serviceState ∧
    (c.finishStart r).start = none ∧ (c.finishStart r).get Hid.SPEED = c.get Hid.SPEED ∧
    (c.finishStart r).get Obj.Dev.START_KIND = (if r.origin = 0 then (if r.cold then 0 else 1) else r.origin) ∧
    (c.finishStart r).get Obj.Dev.START_TIME_US = sat 32 ((c.tick - r.begun) * 2 / 1000) := by
  obtain ⟨h1, h2, h3, h4⟩ := startDone_facts c r
  have hserv : (c.startDone r).serviceState = c.serviceState := serviceState_congr fun i _ => by
    rw [scOut, scOffline, scState, h4 _ (by simp; omega) (by simp; omega) (by simp; omega), mcOf, h1]
    rfl
  have hstart := start_finishStart c r
  rw [finishStart_eq] at hstart ⊢
  generalize c.startDone r = a at h1 h2 h3 h4 hserv hstart
  obtain ⟨m, -⟩ := setDev_fields a a.serviceState
  refine ⟨m.trans h1, ?_, hstart, ?_, ?_, ?_⟩
  · rw [dev_setDev _ _ (by rw [dev, h4 _ (by decide) (by decide) (by decide)]; exact hl), hserv]
  · rw [setDev_get _ _ (by simp [entryKey]), h4 _ (by decide) (by decide) (by decide)]
  · rw [setDev_get _ _ (by simp [entryKey]), h2]
  · rw [setDev_get _ _ (by simp [entryKey]), h3]

/-! ## EXIT_SAFE (R239, R411) -/

/-- The objects that a table lists, and no other, take their values anew. -/
theorem get_foldl_put_mem (v : Nat → Nat) {k : Nat} (l : List Nat) (c : Core) (h : k ∈ l) :
    (l.foldl (fun c a => c.put a (v a)) c).get k = v k := by
  induction l generalizing c with
  | nil => exact absurd h List.not_mem_nil
  | cons a l ih =>
    rw [List.foldl_cons]
    by_cases hk : k ∈ l
    · exact ih _ hk
    · obtain rfl : k = a := by simpa [hk] using h
      exact (get_foldl_put id v l _ fun x hx (he : k = x) => hk (he ▸ hx)).trans (get_put_self _ _ _)

theorem tblGet_of_not_mem {α : Type} (d : Nat → α) (t : Tbl α) {k : Nat} (h : k ∉ t.map (·.1)) : Tbl.get d t k = d k := by
  induction t with
  | nil => rfl
  | cons e t ih =>
    obtain ⟨h1, h2⟩ : k ≠ e.1 ∧ k ∉ t.map (·.1) := by simpa using h
    rw [Tbl.get, if_neg h1]
    exact ih h2

/-- The objects that the objects' record or the registers list. -/
def listedKeys (c : Core) : List Nat :=
  (c.objs.map (·.1)) ++ (match (c.ledgerOf 2).governs with | some (_, s) => s.objs.map (·.1) | none => [])

theorem loadObjects_eq (h : (c.ledgerOf 2).pending = false) : c.loadObjects =
    (let c1 := (c.listedKeys.filter isLedger).foldl (fun k a => k.put a (c.committed a)) c
     c1.withFc { c1.fc with fallback := false }) := by
  unfold loadObjects listedKeys
  rw [h]
  rfl

theorem get_of_not_listed {k : Nat} (h : k ∉ c.listedKeys) : c.get k = c.committed k := by
  rw [listedKeys, List.mem_append, not_or] at h
  obtain ⟨h1, h2⟩ := h
  rw [get, tblGet_of_not_mem _ _ h1]
  unfold committed
  split
  · next s hs =>
    rw [hs] at h2
    exact (tblGet_of_not_mem _ _ h2).symm
  · rfl

/-- Every LEDGER object is as the record that governs holds it. -/
theorem loadObjects_ledger {k : Nat} (h : (c.ledgerOf 2).pending = false) (hk : isLedger k = true) : c.loadObjects.get k = c.committed k := by
  rw [loadObjects_eq h]
  dsimp only
  rw [get_withFc]
  by_cases hin : k ∈ c.listedKeys
  · exact get_foldl_put_mem c.committed _ c (List.mem_filter.mpr ⟨hin, hk⟩)
  · refine (get_foldl_put id c.committed _ c fun a ha => ?_).trans (get_of_not_listed hin)
    exact fun (he : k = a) => hin (he ▸ (List.mem_filter.mp ha).1)

/-- The device state is not read from the record. -/
theorem loadObjects_dev (c : Core) : c.loadObjects.dev = c.dev := by
  have hdev : isLedger Obj.Dev.DEVICE_STATE = false ∧ collectorWord Obj.Dev.DEVICE_STATE = false := by decide +kernel
  unfold loadObjects
  dsimp only
  rw [dev, get_withFc]
  refine get_foldl_put id c.committed _ c fun a ha => ?_
  obtain ⟨-, h⟩ := List.mem_filter.mp ha
  rintro (rfl : Obj.Dev.DEVICE_STATE = a)
  rw [hdev.1, hdev.2] at h
  split at h <;> exact absurd h (by decide)

end Core

/-! ## STATE_REQ -/

theorem clearableOf_stateReq : clearableOf (Obj.Dev.STATE_REQ / 256) (Obj.Dev.STATE_REQ % 256) = none := by decide +kernel

theorem Core.writeValue_dev (c : Core) (f : Fuses) (w : World) (sub : Nat) (bs : List Byte) :
    c.writeValue f w 0x5900 sub bs = c.writeDev sub (ofBytes bs) := by
  simp (disch := omega) only [writeValue, Bool.and_eq_true, decide_eq_true_eq, if_neg]
  exact if_pos trivial

section
variable {i : Instr} {s : State} {w : World} {v : Nat} {c : Core} {P : Core → Prop} {st : Status}

theorem writeValue_stateReq (hadm : Admits s w Obj.Dev.STATE_REQ v) : s.clear.core.writeValue s.fuses w (Obj.Dev.STATE_REQ / 256)
    (Obj.Dev.STATE_REQ % 256) (toBytes (sizeOf Obj.Dev.STATE_REQ) v) = s.clear.core.stateReq v := by
  have h := Core.writeValue_dev s.clear.core s.fuses w 2 (toBytes (sizeOf Obj.Dev.STATE_REQ) v)
  rw [ofBytes_toBytes_of_fits hadm.2.1] at h
  exact h

theorem answersThen_stateReq (hi : exec i s = .next (s.writeNum w Obj.Dev.STATE_REQ v)) (hadm : Admits s w Obj.Dev.STATE_REQ v)
    (hw : s.clear.core.stateReq v = (st, c)) (hp : P (c.emit (.status st))) : AnswersThen i s P :=
  answersThen_writeNum hi hadm clearableOf_stateReq (by decide) ((writeValue_stateReq hadm).trans hw) hp

theorem answersOk_stateReq (hi : exec i s = .next (s.writeNum w Obj.Dev.STATE_REQ v)) (hadm : Admits s w Obj.Dev.STATE_REQ v)
    (hw : s.clear.core.stateReq v = (.ok, c)) (hp : P (c.emit (.status .ok))) : AnswersOk i s P :=
  answersOk_writeNum hi hadm clearableOf_stateReq (by decide) ((writeValue_stateReq hadm).trans hw) hp

/-- A request whose conditions fail changes nothing. -/
theorem stateReq_retry (hi : exec i s = .next (s.writeNum w Obj.Dev.STATE_REQ v)) (hadm : Admits s w Obj.Dev.STATE_REQ v)
    (hw : s.clear.core.stateReq v = (.retry, s.clear.core)) :
    exec i s = .next { s.clear with core := { s.clear.core with out := [.status .retry] } } := by
  rw [hi, State.writeNum_of_writeValue hadm clearableOf_stateReq (by decide) ((writeValue_stateReq hadm).trans hw),
    State.settle_of_req_nil _ rfl]
  rfl

end

end Sys2Proof.Machine
end

section
/-! PROOFS. The requests of a device state: the clauses of R408 to R411, R414, R415 and R418, and their settling. -/

namespace Sys2Proof.Machine
namespace Core

variable {c d : Core} {n : Nat}

theorem stateKeys_of_ne {k : Nat} (h1 : k ≠ Obj.Dev.PREV_STATE) (h2 : k ≠ Obj.Dev.DEVICE_STATE) (h3 : k ≠ Obj.Dev.T_STATE)
    (h4 : k ≠ Obj.Dev.FLAGS) (h5 : k ≠ Obj.Fc.PIN_STATE) : ¬ entryKey k := by
  unfold entryKey
  tauto

/-! ## SERVICE and its end -/

theorem reqService_eq (hin : c.inService = true) (hb : c.engineBusy = false) : c.reqService = (.ok, c.setDev Dv.service) := by
  rw [reqService, hin, hb]
  rfl

theorem reqService_retry (h : c.inService = false ∨ c.engineBusy = true) : c.reqService = (.retry, c) := by
  rw [reqService, if_pos (by rcases h with h | h <;> simp [h])]

theorem service_facts (hin : c.inService = true) : (c.setDev Dv.service).dev = Dv.service ∧
    (c.setDev Dv.service).get Obj.Dev.PREV_STATE = c.dev ∧ (c.setDev Dv.service).get Obj.Dev.T_STATE = c.hubTime ∧
    (c.setDev Dv.service).bitOf Obj.Dev.FLAGS 0 = true := by
  have hne : c.dev ≠ Dv.lockout ∧ c.dev ≠ Dv.service := by
    rcases dev_of_inService hin with h | h <;> rw [h] <;> decide
  exact ⟨dev_setDev _ _ hne.1, setDev_entered c hne.1 hne.2⟩

theorem reqLeave_eq (h : c.dev = Dv.service) : c.reqLeave = (.ok, c.tapLeft.setDev c.tapLeft.serviceState) := by
  rw [reqLeave, if_neg (by rw [h]; decide)]
  rfl

theorem reqLeave_retry (h : c.dev ≠ Dv.service) : c.reqLeave = (.retry, c) := by
  rw [reqLeave, if_pos h]

theorem leave_facts (h : c.dev = Dv.service) : (c.tapLeft.setDev c.tapLeft.serviceState).dev = c.serviceState ∧
    (c.tapLeft.setDev c.tapLeft.serviceState).get Obj.Dev.PREV_STATE = Dv.service ∧
    (c.tapLeft.setDev c.tapLeft.serviceState).get Obj.Dev.T_STATE = c.hubTime ∧
    (c.tapLeft.setDev c.tapLeft.serviceState).tap =
      (if c.tap.instr = .extest then { mode := c.get Obj.Sec.JTAG_MODE, instr := .idcode } else c.tap) ∧
    ∀ k, ¬ entryKey k → (c.tapLeft.setDev c.tapLeft.serviceState).get k = c.get k := by
  obtain ⟨hget, hmc, htime, htap⟩ := tapLeft_facts c
  have hdev : c.tapLeft.dev = Dv.service := (hget _).trans h
  have hserv : c.tapLeft.serviceState = c.serviceState := serviceState_congr fun i _ => by
    rw [scOut, scOffline, scState, hget, mcOf, hmc]
    rfl
  have hne : Dv.service ≠ c.serviceState := by
    rcases serviceState_cases c with h | h <;> rw [h] <;> decide
  rw [hserv]
  obtain ⟨h1, h2, -⟩ := setDev_entered c.tapLeft (v := c.serviceState) (by rw [hdev]; decide) (by rw [hdev]; exact hne)
  exact ⟨dev_setDev _ _ (by rw [hdev]; decide), h1.trans hdev, h2.trans htime, (setDev_fields _ _).2.2.1.trans htap,
    fun k hk => (setDev_get _ _ hk).trans (hget k)⟩

/-! ## SLEEP -/

theorem reqSleep_retry (h : c.inService = false ∨ c.engineBusy = true ∨ ∃ n < 32, c.trainState n = 1) : c.reqSleep = (.retry, c) := by
  rw [reqSleep, if_pos]
  rcases h with h | h | ⟨n, hn, h⟩
  · simp [h]
  · simp [h]
  · have hany : ((List.range 32).any fun n => decide (c.trainState n = 1)) = true :=
      List.any_eq_true.mpr ⟨n, List.mem_range.mpr hn, by simpa using h⟩
    rw [hany]
    simp

theorem dev_refuse (c : Core) : c.refuse.dev = c.dev := (refuse_facts c).2.2 _ (by decide) (by decide)

/-! ## WAKE -/

theorem reqWake_retry (h : c.dev ≠ Dv.sleep) : c.reqWake = (.retry, c) := by
  rw [reqWake, if_pos h]

theorem wokenMc_held (e : Bool) (st : Nat) (m : McState) : (wokenMc e st m).held = m.held := by
  unfold wokenMc
  split_ifs <;> rfl

/-- An entry that has not completed is given up. -/
theorem wokenMc_entering {st : Nat} {m : McState} (hst : st ≠ 3) (hh : m.held = false) (he : m.srEntering = true) :
    (wokenMc false st m).srEntering = false ∧ (wokenMc false st m).srWhy = 0 := by
  have h : wokenMc false st m = { m with srEntering := false, srWhy := 0 } := by
    simp [wokenMc, hst, hh, he]
  rw [h]
  exact ⟨rfl, rfl⟩

theorem wokenMc_exiting {st : Nat} {m : McState} (h : st = 2 ∨ m.srAt ≠ 0) : (wokenMc true st m).srExiting = true := by
  unfold wokenMc
  rw [if_pos rfl]
  split
  · next hx =>
    have hgo : (!(decide (st = 2) || decide (m.srAt ≠ 0))) = false := by simpa using fun hst => h.resolve_left hst
    rwa [hgo, Bool.or_false] at hx
  · rfl

/-- A start of WAKE goes on without another look at the controllers or the bin. -/
theorem advance_wake (r : StartRun) (hs : c.start = some r) (hd : c.dev = Dv.restore) (hr : r.restores = 0) :
    c.advance.mc = c.mc ∧ c.advance.get Hid.SPEED = c.get Hid.SPEED ∧
    (r.exits ≠ 0 → c.advance = c) ∧ (r.exits = 0 → r.trains ≠ 0 → c.advance.dev = Dv.train) ∧
    (r.exits = 0 → r.trains = 0 → c.advance = c.finishStart r) := by
  have hl : c.dev ≠ Dv.lockout := by rw [hd]; decide
  by_cases he : r.exits = 0
  · by_cases ht : r.trains = 0
    · have h := advance_ends hs hd he hr ht
      obtain ⟨f1, -, -, f4, -⟩ := finishStart_facts r hl
      exact ⟨by rw [h, f1], by rw [h, f4], fun hx => absurd he hx, fun _ hx => absurd ht hx, fun _ _ => h⟩
    · have h := advance_trains hs hd he hr ht
      obtain ⟨t1, t2, t3⟩ := trainPhase_frame (c.setDev Dv.train)
      refine ⟨by rw [h, t1, (setDev_fields _ _).1], ?_, fun hx => absurd he hx, fun _ _ => ?_, fun _ hx => absurd hx ht⟩
      · rw [h, t2, setDev_get _ _ (by simp [entryKey, Hid.SPEED])]
      · rw [h, t3, dev_setDev _ _ hl]
  · have h := advance_exits hs hd he
    exact ⟨by rw [h], by rw [h], fun _ => h, fun hx => absurd hx he, fun hx => absurd hx he⟩

theorem wake_facts (hd : c.dev = Dv.sleep) {exits trains : Nat} (hx : exits = maskOf 32 fun n => c.resting n && !(c.mcOf n).held) :
    (c.woken exits trains).advance.get Hid.SPEED = c.get Obj.Phy.SPEED_BIN ∧
    (∀ n < 32, c.scOut n = false → (c.mcOf n).srEntering = true → c.resting n = false →
      ((c.woken exits trains).advance.mcOf n).srEntering = false ∧ ((c.woken exits trains).advance.mcOf n).srWhy = 0) ∧
    (∀ n < 32, c.resting n = true → (c.mcOf n).held = false → ((c.woken exits trains).advance.mcOf n).srExiting = true) ∧
    (exits ≠ 0 → (c.woken exits trains).advance.dev = Dv.restore ∧
      (c.woken exits trains).advance.start = some ⟨2, c.tick, exits, 0, trains, false⟩) ∧
    (exits = 0 → trains ≠ 0 → (c.woken exits trains).advance.dev = Dv.train) ∧
    (exits = 0 → trains = 0 → (c.woken exits trains).advance.dev = c.serviceState ∧ (c.woken exits trains).advance.start = none ∧
      (c.woken exits trains).advance.get Obj.Dev.START_KIND = 2 ∧ (c.woken exits trains).advance.get Obj.Dev.START_TIME_US = 0) := by
  obtain ⟨w1, w2, w3, w4, w5, w6⟩ := woken_facts (c := c) (by rw [hd]; decide) exits trains
  have hbit : ∀ n < 32, exits.testBit n = (c.resting n && !(c.mcOf n).held) := fun n hn => by
    rw [hx, testBit_maskOf, decide_eq_true hn, Bool.true_and]
  generalize c.woken exits trains = a at w1 w2 w3 w4 w5 w6
  obtain ⟨a1, a2, a3, a4, a5⟩ := advance_wake (c := a) _ w2 w1 rfl
  have hmc : ∀ n < 32, a.advance.mcOf n = wokenMc (exits.testBit n) (c.scState n) (c.mcOf n) := fun n hn => by
    rw [mcOf, a1, ← mcOf, w6 n hn]
  refine ⟨a2.trans w4, fun n hn ho he hr => ?_, fun n hn hr hh => ?_, fun h => ?_, fun h ht => a4 h ht, fun h ht => ?_⟩
  · obtain ⟨hst, hheld⟩ : c.scState n ≠ 3 ∧ (c.mcOf n).held = false := by simpa [scOut, scOffline] using ho
    rw [hmc n hn, hbit n hn, hr]
    exact wokenMc_entering hst hheld he
  · rw [hmc n hn, hbit n hn, hr, hh]
    exact wokenMc_exiting (by simpa [resting] using hr)
  · rw [a3 h]
    exact ⟨w1, w2⟩
  · obtain ⟨-, f2, f3, -, f5, f6⟩ := finishStart_facts (c := a) (c.wakeRun exits trains) (by rw [w1]; decide)
    rw [a5 h ht]
    refine ⟨f2.trans (serviceState_congr fun i hi => ?_), f3, f5, f6.trans ?_⟩
    · rw [scOut, scOffline, w5, w6 i hi, wokenMc_held]
      rfl
    · rw [w3]
      simp [wakeRun, sat]

/-! ## EXIT_SAFE -/

/-- The start that EXIT_SAFE begins. -/
def exitSafe (c : Core) : Core :=
  (c.loadObjects.withStart (some { origin := 3, begun := c.tick, exits := 0, restores := 0, trains := 0, cold := false })).setDev Dv.selftest

theorem reqExitSafe_eq (h : c.dev = Dv.safe) (hk : (c.objs.any fun e => isSourceStatus e.1 && c.keepsSafe e.1 e.2) = false) :
    c.reqExitSafe = (.ok, c.exitSafe) := by
  rw [reqExitSafe, hk, if_neg (by rw [h]; decide)]
  rfl

theorem reqExitSafe_retry (h : c.dev ≠ Dv.safe ∨ (c.objs.any fun e => isSourceStatus e.1 && c.keepsSafe e.1 e.2) = true) :
    c.reqExitSafe = (.retry, c) := by
  rw [reqExitSafe, if_pos]
  rcases h with h | h
  · simp [h]
  · rw [h]
    simp

/-- No object that the entry of a state writes is kept in the ledger. -/
theorem not_entryKey_of_isLedger {k : Nat} (h : isLedger k = true) : ¬ entryKey k := by
  have hkeys : isLedger Obj.Dev.PREV_STATE = false ∧ isLedger Obj.Dev.DEVICE_STATE = false ∧ isLedger Obj.Dev.T_STATE = false ∧
      isLedger Obj.Dev.FLAGS = false ∧ isLedger Obj.Fc.PIN_STATE = false := by decide +kernel
  obtain ⟨h1, h2, h3, h4, h5⟩ := hkeys
  rintro (rfl | rfl | rfl | rfl | rfl)
  · exact absurd (h1.symm.trans h) (by decide)
  · exact absurd (h2.symm.trans h) (by decide)
  · exact absurd (h3.symm.trans h) (by decide)
  · exact absurd (h4.symm.trans h) (by decide)
  · exact absurd (h5.symm.trans h) (by decide)

theorem fallback_loadObjects (c : Core) : c.loadObjects.fc.fallback = false := rfl

theorem exitSafe_facts (h : c.dev = Dv.safe) : c.exitSafe.dev = Dv.selftest ∧ c.exitSafe.fc.fallback = false ∧
    c.exitSafe.start = some ⟨3, c.tick, 0, 0, 0, false⟩ ∧
    ((c.ledgerOf 2).pending = false → ∀ k, isLedger k = true → c.exitSafe.get k = c.committed k) := by
  have hdev := loadObjects_dev c
  have hfall := fallback_loadObjects c
  have hled := fun (hp : (c.ledgerOf 2).pending = false) k hk => loadObjects_ledger (c := c) (k := k) hp hk
  unfold exitSafe
  generalize c.loadObjects = a at hdev hfall hled
  obtain ⟨-, -, -, -, s, f⟩ := setDev_fields (a.withStart (some { origin := 3, begun := c.tick, exits := 0, restores := 0, trains := 0, cold := false }))
    Dv.selftest
  refine ⟨dev_setDev _ _ ?_, f.trans hfall, s, fun hp k hk => (setDev_get _ _ (not_entryKey_of_isLedger hk)).trans (hled hp k hk)⟩
  rw [show (a.withStart (some { origin := 3, begun := c.tick, exits := 0, restores := 0, trains := 0, cold := false })).dev = a.dev from rfl, hdev, h]
  decide

end Core

/-- Settles O58: each request enters its state by `Core.setDev`, which writes five objects; SLEEP folds one order over the subchannels,
WAKE one exit, and the start of WAKE goes on by what it has left. -/
theorem stateRequests : Obligations.StateRequests := by
  unfold Obligations.StateRequests
  refine ⟨fun s w hadm hin hb => ?_, fun s w hadm hd => ?_, fun s w ask hadm hin hb ht hask => ⟨fun ha => ?_, fun ha => ?_⟩,
    fun s w exits trains hadm hd hx ht => ?_, fun s w hadm hd hk => ?_, fun s w x hx hadm hcond => ?_⟩
  · obtain ⟨h1, h2, h3, h4⟩ := Core.service_facts (c := s.clear.core) hin
    exact answersOk_stateReq rfl hadm (Core.reqService_eq hin hb) ⟨h1, h2, h3, h4, fun k k1 k2 k3 k4 k5 =>
      Core.setDev_get _ _ (Core.stateKeys_of_ne k1 k2 k3 k4 k5)⟩
  · obtain ⟨h1, h2, h3, h4, h5⟩ := Core.leave_facts (c := s.clear.core) hd
    exact answersOk_stateReq rfl hadm (Core.reqLeave_eq hd) ⟨h1, h2, h3, h4, fun k k1 k2 k3 k4 k5 =>
      h5 k (Core.stateKeys_of_ne k1 k2 k3 k4 k5)⟩
  · subst hask
    obtain ⟨h1, h2, h3, h4⟩ := Core.slept_facts (c := s.clear.core) (by rcases Core.dev_of_inService hin with h | h <;> rw [show s.clear.core.dev = _ from h] <;> decide)
      (((List.range 32).filter fun n => !s.core.scOffline n).filter (fun n => !s.core.holds Ck.srExit n)) fun n => !s.core.scOffline n
    refine answersOk_stateReq rfl hadm ((Core.reqSleep_eq (c := s.clear.core) hin hb ht).trans (if_pos ha)) ⟨h1, h2, h3, fun n hn ho => ?_⟩
    obtain ⟨k1, k2⟩ := h4 n hn (by simpa using ho) ho
    exact ⟨k1 (by cases hh : s.core.holds Ck.srExit n; exacts [.inr (by simp [hn, ho, hh]), .inl hh]), k2⟩
  · subst hask
    obtain ⟨h1, h2, h3⟩ := Core.refuse_facts (c := s.clear.core)
    exact answersThen_stateReq rfl hadm ((Core.reqSleep_eq (c := s.clear.core) hin hb ht).trans (if_neg (fun ht => absurd (ha.symm.trans ht) (by decide))))
      ⟨by simp, Core.dev_refuse _, h2, h1.trans (Core.sat_eq_min 32 _), fun k k1 k2 => h3 k k2 k1⟩
  · exact answersOk_stateReq rfl hadm ((Core.reqWake_eq (c := s.clear.core) hd).trans (by rw [hx, ht]; rfl)) (Core.wake_facts (c := s.clear.core) hd hx)
  · exact answersOk_stateReq rfl hadm (Core.reqExitSafe_eq (c := s.clear.core) hd hk) (Core.exitSafe_facts (c := s.clear.core) hd)
  · simp only [List.mem_cons, List.not_mem_nil, or_false] at hx
    rcases hx with rfl | rfl | rfl | rfl | rfl
    · have h : s.core.inService = false ∨ s.core.engineBusy = true := by simpa using hcond
      exact stateReq_retry rfl hadm (Core.reqService_retry h)
    · have h : s.core.dev ≠ Dv.service := by simpa using hcond
      exact stateReq_retry rfl hadm (Core.reqLeave_retry h)
    · have h : s.core.inService = false ∨ s.core.engineBusy = true ∨ ∃ n < 32, s.core.trainState n = 1 := by simpa using hcond
      exact stateReq_retry rfl hadm (Core.reqSleep_retry h)
    · have h : s.core.dev ≠ Dv.sleep := by simpa using hcond
      exact stateReq_retry rfl hadm (Core.reqWake_retry h)
    · have h : s.core.dev ≠ Dv.safe ∨ (s.core.objs.any fun e => isSourceStatus e.1 && s.core.keepsSafe e.1 e.2) = true := by simpa using hcond
      exact stateReq_retry rfl hadm (Core.reqExitSafe_retry h)

end Sys2Proof.Machine
end

section
/-! PROOFS. The refutation of the statement about writes of objects (14_object_dictionary.md R379): the statement does not bound the
tables of the elastic buffer. FACTORY_DEFAULTS may bind a context that no hub has to a stream that stands in the table as often as fills
the buffer; the rise to HIGH_WATER then flags every stream of the table, and the flags of a stream that no hub has are a ledger object. -/

namespace Sys2Proof.Machine
namespace Core

variable {c d : Core}

/-! ## The throttle of a full buffer (R96) -/

/-- One stream of a full buffer. -/
def throttleFlag (c : Core) (st : Nat) : Core := if c.stState st ≠ 0 then c.flag (Obj.Stream.FLAGS st) 7 else c

theorem throttleFlag_fields (c : Core) (st : Nat) : (c.throttleFlag st).req = c.req ∧ (c.throttleFlag st).start = c.start ∧
    (c.throttleFlag st).addrMap = c.addrMap ∧ ∀ i, (c.throttleFlag st).stState i = c.stState i := by
  unfold throttleFlag
  split
  · exact ⟨rfl, rfl, get_flag_ne _ _ (by simp; omega), fun i => get_flag_ne _ _ (by simp; omega)⟩
  · exact ⟨rfl, rfl, rfl, fun _ => rfl⟩

theorem throttleFlag_bit {i : Nat} (st : Nat) (h : c.bitOf (Obj.Stream.FLAGS i) 7 = true) :
    (c.throttleFlag st).bitOf (Obj.Stream.FLAGS i) 7 = true := by
  unfold throttleFlag
  split
  · by_cases hx : Obj.Stream.FLAGS i = Obj.Stream.FLAGS st
    · rw [← hx]
      exact bitOf_flag_self _ _ _
    · rw [bitOf_congr 7 (get_flag_ne c 7 hx)]
      exact h
  · exact h

/-- The flags of a full buffer, stream by stream. -/
def throttleFlags (c : Core) (l : List Nat) : Core := l.foldl throttleFlag c

theorem throttleFlags_fields (l : List Nat) (c : Core) : (c.throttleFlags l).req = c.req ∧ (c.throttleFlags l).start = c.start ∧
    (c.throttleFlags l).addrMap = c.addrMap := by
  induction l generalizing c with
  | nil => exact ⟨rfl, rfl, rfl⟩
  | cons st l ih =>
    obtain ⟨h1, h2, h3⟩ := ih (c.throttleFlag st)
    obtain ⟨k1, k2, k3, -⟩ := throttleFlag_fields c st
    exact ⟨h1.trans k1, h2.trans k2, h3.trans k3⟩

theorem throttleFlags_bit_of_bit {i : Nat} (l : List Nat) (c : Core) (h : c.bitOf (Obj.Stream.FLAGS i) 7 = true) :
    (c.throttleFlags l).bitOf (Obj.Stream.FLAGS i) 7 = true := by
  induction l generalizing c with
  | nil => exact h
  | cons st l ih => exact ih _ (throttleFlag_bit st h)

/-- Every stream of the list that is not DISABLED is flagged. -/
theorem throttleFlags_bit {st : Nat} {l : List Nat} (hl : st ∈ l) (c : Core) (hst : c.stState st ≠ 0) :
    (c.throttleFlags l).bitOf (Obj.Stream.FLAGS st) 7 = true := by
  induction l generalizing c with
  | nil => exact absurd hl List.not_mem_nil
  | cons x l ih =>
    by_cases hx : st = x
    · subst hx
      refine throttleFlags_bit_of_bit l _ ?_
      rw [throttleFlag, if_pos hst]
      exact bitOf_flag_self _ _ _
    · refine ih (List.mem_of_ne_of_mem hx hl) _ ?_
      rwa [(throttleFlag_fields c x).2.2.2]

theorem waterMarks_eq (c : Core) : c.waterMarks = (c.flag Obj.Millpond.FLAGS 0).throttleFlags (c.streams.map (·.1)) := rfl

theorem waterFlags_full (hf : c.elasticBytes / 8 * 7 ≤ c.elasticFill) (h0 : 0 < c.elasticFill) (ho : c.overHigh = true) (c1 : Core) :
    c.waterFlags c1 = (((c.waterHalf c1).withThrottled true).withOverHigh true).waterMarks := by
  unfold waterFlags
  generalize c.elasticFill = f at hf h0
  generalize c.elasticBytes = em at hf
  dsimp only
  rw [decide_eq_true hf, decide_eq_true h0, ho]
  rfl

theorem waterHalf_fields (c c1 : Core) : (c.waterHalf c1).req = c1.req ∧ (c.waterHalf c1).start = c1.start ∧
    (c.waterHalf c1).streams = c1.streams ∧ ∀ k, k ≠ Obj.Millpond.FLAGS → (c.waterHalf c1).get k = c1.get k := by
  unfold waterHalf
  split
  · exact ⟨rfl, rfl, rfl, fun k hk => get_flag_ne _ _ hk⟩
  · exact ⟨rfl, rfl, rfl, fun _ _ => rfl⟩

/-- A buffer at HIGH_WATER that was there before: its streams are flagged, and nothing is raised. -/
theorem water_full (hf : c.elasticBytes / 8 * 7 ≤ c.elasticFill) (h0 : 0 < c.elasticFill) (ho : c.overHigh = true) :
    c.water.req = c.req ∧ c.water.start = c.start ∧ c.water.addrMap = c.addrMap ∧
    ∀ st ∈ c.streams.map (·.1), c.stState st ≠ 0 → c.water.bitOf (Obj.Stream.FLAGS st) 7 = true := by
  rw [water_eq, waterFlags_full hf h0 ho, waterMarks_eq]
  generalize max c.elasticFill (c.get Obj.Millpond.ELASTIC_PEAK) = v
  obtain ⟨p1, p2, p3, p4⟩ := waterHalf_fields c (c.put Obj.Millpond.ELASTIC_PEAK v)
  rw [Core.req_put] at p1
  rw [Core.start_put] at p2
  rw [Core.streams_put] at p3
  generalize c.waterHalf (c.put Obj.Millpond.ELASTIC_PEAK v) = a at p1 p2 p3 p4
  have hstreams : ((a.withThrottled true).withOverHigh true).streams = c.streams := by
    rw [Core.streams_withOverHigh, Core.streams_withThrottled, p3]
  have hget : ∀ k, ((a.withThrottled true).withOverHigh true).get k = a.get k := fun k => by
    rw [Core.get_withOverHigh, Core.get_withThrottled]
  obtain ⟨f1, f2, f3⟩ := throttleFlags_fields (((a.withThrottled true).withOverHigh true).streams.map (·.1))
    (((a.withThrottled true).withOverHigh true).flag Obj.Millpond.FLAGS 0)
  rw [flag, Core.req_put, Core.req_withOverHigh, Core.req_withThrottled] at f1
  rw [flag, Core.start_put, Core.start_withOverHigh, Core.start_withThrottled] at f2
  refine ⟨f1.trans p1, f2.trans p2, f3.trans ?_, fun st hst hs => ?_⟩
  · rw [addrMap, get_flag_ne _ _ (by decide), hget, p4 _ (by decide), get_put_ne _ _ (by decide), addrMap]
  rw [hstreams]
  refine throttleFlags_bit hst _ ?_
  rw [stState, get_flag_ne _ _ (by simp; omega), hget, p4 _ (by simp; omega), get_put_ne _ _ (by simp; omega)]
  exact hs

/-! ## FACTORY_DEFAULTS with nothing that follows (R379) -/

theorem portsFollow_eq_self (h : ∀ p < 8, c.bitOf Obj.Hr.PORT_ENABLE p = true ∧ c.portState p ≠ 0) : c.portsFollow = c :=
  each_induct (fun d => d = c) 8 _ c rfl fun d p hp hd => by
    rw [hd, if_pos (h p hp).1, if_neg (h p hp).2]

/-- The water marks of the partition in force. -/
def poolMarks (c : Core) : Core :=
  (c.put Obj.Millpond.HIGH_WATER (c.elasticBytes / 8 * 7)).put Obj.Millpond.LOW_WATER (c.elasticBytes / 8 * 6)

/-- The credits held may exceed the pool. -/
def overPool (c : Core) : Core := if c.pool < c.granted then c.flag Obj.Sluice.FLAGS 1 else c

/-- The settings that other blocks follow. -/
def settingsFollowed : List Nat :=
  [Obj.Mg.MG_MODE, Obj.Mg.IPV4_ADDR, Obj.Mg.IPV6_ADDR, Obj.Time.TIME_SOURCE, Obj.SailPort.ENABLE 0, Obj.SailPort.ENABLE 1,
    Obj.SailPort.ENABLE 2, Obj.SailPort.ENABLE 3, Obj.Sail.ROOT, Obj.Fantail.FT_ENABLE]

theorem foldl_eq_self {α : Type} {l : List Nat} {f : α → Nat → α} (a : α) (h : ∀ b, ∀ x ∈ l, f b x = b) : l.foldl f a = a := by
  induction l generalizing a with
  | nil => rfl
  | cons x l ih =>
    rw [List.foldl_cons, h a x List.mem_cons_self]
    exact ih a fun b y hy => h b y (List.mem_cons_of_mem _ hy)

theorem defaultsFollow_eq (hmoved : ∀ k ∈ settingsFollowed, c.get k = d.get k)
    (hports : ∀ p < 8, c.bitOf Obj.Hr.PORT_ENABLE p = true ∧ c.portState p ≠ 0) :
    c.defaultsFollow d = c.poolMarks.water.overPool.pins := by
  have hno : ∀ k ∈ settingsFollowed, decide (c.get k ≠ d.get k) = false := fun k hk => by simpa using hmoved k hk
  have hmg : ¬ ((decide (c.get Obj.Mg.MG_MODE ≠ d.get Obj.Mg.MG_MODE) || decide (c.get Obj.Mg.IPV4_ADDR ≠ d.get Obj.Mg.IPV4_ADDR) ||
      decide (c.get Obj.Mg.IPV6_ADDR ≠ d.get Obj.Mg.IPV6_ADDR)) = true) := by
    rw [hno _ (by simp [settingsFollowed]), hno _ (by simp [settingsFollowed]), hno _ (by simp [settingsFollowed])]
    decide
  have hsail : ∀ p ∈ List.range 4, c.get (Obj.SailPort.ENABLE p) = d.get (Obj.SailPort.ENABLE p) := by
    intro p hp
    refine hmoved _ ?_
    obtain rfl | rfl | rfl | rfl : p = 0 ∨ p = 1 ∨ p = 2 ∨ p = 3 := by
      have := List.mem_range.mp hp
      omega
    all_goals simp [settingsFollowed]
  unfold defaultsFollow
  dsimp only
  rw [if_neg hmg, if_neg (not_not.mpr (hmoved Obj.Time.TIME_SOURCE (by simp [settingsFollowed]))), portsFollow_eq_self hports,
    foldl_eq_self _ fun b p hp => if_neg (not_not.mpr (hsail p hp)),
    if_neg (not_not.mpr (hmoved Obj.Sail.ROOT (by simp [settingsFollowed]))),
    if_neg (not_not.mpr (hmoved Obj.Fantail.FT_ENABLE (by simp [settingsFollowed])))]
  rw [overPool, poolMarks]

theorem poolMarks_fields (c : Core) : c.poolMarks.req = c.req ∧ c.poolMarks.start = c.start ∧ c.poolMarks.streams = c.streams ∧
    c.poolMarks.overHigh = c.overHigh ∧ c.poolMarks.addrMap = c.addrMap := by
  unfold poolMarks
  generalize c.elasticBytes / 8 * 7 = hi
  generalize c.elasticBytes / 8 * 6 = lo
  refine ⟨?_, ?_, ?_, ?_, ?_⟩
  · rw [Core.req_put, Core.req_put]
  · rw [Core.start_put, Core.start_put]
  · rw [Core.streams_put, Core.streams_put]
  · rw [Core.overHigh_put, Core.overHigh_put]
  · rw [addrMap, get_put_ne _ _ (by decide), get_put_ne _ _ (by decide), addrMap]

theorem overPool_fields (c : Core) : c.overPool.req = c.req ∧ c.overPool.start = c.start ∧
    ∀ k, k ≠ Obj.Sluice.FLAGS → c.overPool.get k = c.get k := by
  unfold overPool
  split
  · exact ⟨rfl, rfl, fun k hk => get_flag_ne _ _ hk⟩
  · exact ⟨rfl, rfl, fun _ _ => rfl⟩

/-- A full buffer as FACTORY_DEFAULTS leaves it: a stream that is not DISABLED is flagged, and no other block follows. -/
theorem defaultsFollow_full (hmoved : ∀ k ∈ settingsFollowed, c.get k = d.get k)
    (hports : ∀ p < 8, c.bitOf Obj.Hr.PORT_ENABLE p = true ∧ c.portState p ≠ 0)
    (hf : c.poolMarks.elasticBytes / 8 * 7 ≤ c.poolMarks.elasticFill) (h0 : 0 < c.poolMarks.elasticFill) (ho : c.overHigh = true) :
    (c.defaultsFollow d).req = c.req ∧ (c.defaultsFollow d).start = c.start ∧ (c.defaultsFollow d).addrMap = c.addrMap ∧
    ∀ st ∈ c.streams.map (·.1), c.stState st ≠ 0 → (c.defaultsFollow d).bitOf (Obj.Stream.FLAGS st) 7 = true := by
  obtain ⟨m1, m2, m3, m4, m5⟩ := poolMarks_fields c
  obtain ⟨w1, w2, w4, w3⟩ := water_full hf h0 (m4.trans ho)
  rw [m1] at w1
  rw [m2] at w2
  rw [m3] at w3
  rw [m5] at w4
  rw [defaultsFollow_eq hmoved hports]
  generalize c.poolMarks.water = a at w1 w2 w3 w4
  obtain ⟨o1, o2, o3⟩ := overPool_fields a
  refine ⟨(req_pins _).trans (o1.trans w1), (fcOnly_pins _).start.trans (o2.trans w2), ?_, fun st hst hs => ?_⟩
  · rw [addrMap, get_pins_ne _ (by decide), o3 _ (by decide), ← addrMap, w4]
  rw [bitOf_congr 7 ((get_pins_ne _ (by simp; omega)).trans (o3 _ (by simp; omega)))]
  refine w3 st hst ?_
  rw [stState, poolMarks, get_put_ne _ _ (by simp; omega), get_put_ne _ _ (by simp; omega)]
  exact hs

end Core
end Sys2Proof.Machine
end

section
/-! PROOFS. The state that refutes the statement about writes of objects (14_object_dictionary.md R379). -/

namespace Sys2Proof.Machine
namespace Core

variable {c : Core}

theorem streams_foldl_put (v : Nat → Nat) (l : List Nat) (c : Core) : (l.foldl (fun c k => c.put k (v k)) c).streams = c.streams ∧
    (l.foldl (fun c k => c.put k (v k)) c).overHigh = c.overHigh ∧ (l.foldl (fun c k => c.put k (v k)) c).req = c.req ∧
    (l.foldl (fun c k => c.put k (v k)) c).start = c.start := by
  induction l generalizing c with
  | nil => exact ⟨rfl, rfl, rfl, rfl⟩
  | cons k l ih => exact ih (c.put k (v k))

/-- The ledger's settings at their defaults, before anything follows. -/
def defaulted (c : Core) : Core :=
  (((c.objs.map (·.1)).filter fun k => isLedger k && !keptByDefaults k).foldl (fun c k => c.put k (defaultOf k)) c).touch

theorem toDefaults_eq (c : Core) : c.toDefaults = c.defaulted.defaultsFollow c := rfl

theorem defaulted_fields (c : Core) : c.defaulted.streams = c.streams ∧ c.defaulted.overHigh = c.overHigh ∧ c.defaulted.req = c.req ∧
    c.defaulted.start = c.start := by
  unfold defaulted
  exact streams_foldl_put _ _ c

/-- The fill of a table in which one stream stands often. -/
theorem elasticFill_replicate {a b n : Nat} {x y : StreamState} (h : c.streams = (a, x) :: List.replicate n (b, y)) :
    c.elasticFill = 256 * c.streamFill a + n * (256 * c.streamFill b) := by
  rw [elasticFill, h]
  simp

end Core

/-- What a rail's table calls subindex 5, a context that no hub has calls its stream; and what it calls subindex 1, its state. -/
theorem railSetting_is_stream : Obj.Context.STREAM 0x1010 = 0x401005 ∧ Obj.Context.STATE 0x1010 = 0x401001 := by decide

/-- The preset that stream 257 calls its flags. -/
theorem preset_is_flags : Obj.Stream.FLAGS 257 = 0x290110 := by decide

/-- The objects of a hub in SERVICE whose ports are in TRAINING; rail 0 has a setting of its own. -/
def serviceObjs : List (Nat × Nat) :=
  [(Obj.Seq.SEQ_STATE, 2), (Obj.Dev.DEVICE_STATE, Dv.service), (0x401005, 7)] ++ (List.range 8).map fun p => (Obj.Port.PORT_STATE p, 1)

/-- A context that no hub has holds a sample; stream 0 stands in the table as often as the elastic buffer has blocks for HIGH_WATER. -/
def crowded : State :=
  { State.reset with core :=
    { serviceObjs.foldl (fun c e => c.put e.1 e.2) Core.init with
      streams := (257, StreamState.init) :: List.replicate 229376 (0, StreamState.init)
      ctxs := [(0x1010, { frame := none, closing := [], row := 0, samples := [(0, 0)], released := 0, closeNow := false, gen := 0,
                          closed := [], newest := none, applied := [] })]
      overHigh := true
      start := some ⟨0, 0, 0, 0, 0, false⟩ } }

theorem crowded_streams : crowded.core.streams = (257, StreamState.init) :: List.replicate 229376 (0, StreamState.init) := rfl

theorem crowded_admits : Admits crowded .secureWorld Obj.Id.FACTORY_DEFAULTS 1 ∧ crowded.core.dev = Dv.service := by decide +kernel

theorem crowded_settings : (∀ k ∈ [Obj.Mg.MG_MODE, Obj.Mg.IPV4_ADDR, Obj.Mg.IPV6_ADDR, Obj.Time.TIME_SOURCE, Obj.Sail.ROOT, Obj.Mc.ADDR_MAP,
      Obj.SailPort.ENABLE 0, Obj.SailPort.ENABLE 1, Obj.SailPort.ENABLE 2, Obj.SailPort.ENABLE 3],
      crowded.core.get k = defaultOf k) ∧ ∀ p < 8, crowded.core.portState p ≠ 0 := by decide +kernel

theorem crowded_fill : crowded.core.elasticFill = 0 := by
  have h : crowded.core.streamFill 257 = 0 ∧ crowded.core.streamFill 0 = 0 := by decide +kernel
  rw [Core.elasticFill_replicate crowded_streams, h.1, h.2]

/-- The hub with its settings at their defaults, before anything follows. -/
def crowdedDefaults : Core := crowded.clear.core.defaulted

theorem crowdedDefaults_settings : (∀ k ∈ Core.settingsFollowed, crowdedDefaults.get k = crowded.clear.core.get k) ∧
    (∀ p < 8, crowdedDefaults.bitOf Obj.Hr.PORT_ENABLE p = true ∧ crowdedDefaults.portState p ≠ 0) ∧
    crowdedDefaults.stState 257 ≠ 0 ∧ crowdedDefaults.addrMap = crowded.clear.core.addrMap := by decide +kernel

theorem crowdedDefaults_fill : crowdedDefaults.poolMarks.elasticBytes / 8 * 7 ≤ crowdedDefaults.poolMarks.elasticFill ∧
    0 < crowdedDefaults.poolMarks.elasticFill := by
  have hbytes : crowdedDefaults.poolMarks.elasticBytes = 67108864 := by decide +kernel
  have hone : crowdedDefaults.poolMarks.streamFill 257 = 0 ∧ crowdedDefaults.poolMarks.streamFill 0 = 1 := by decide +kernel
  have hstreams : crowdedDefaults.poolMarks.streams = (257, StreamState.init) :: List.replicate 229376 (0, StreamState.init) :=
    (Core.poolMarks_fields _).2.2.1.trans (Core.defaulted_fields _).1
  rw [Core.elasticFill_replicate hstreams, hone.1, hone.2, hbytes]
  decide

/-- The hub after FACTORY_DEFAULTS. -/
def crowdedAfter : State :=
  { crowded.clear with core := (crowdedDefaults.defaultsFollow crowded.clear.core).emit (.status .ok) }

theorem crowdedFollowed_facts : (crowdedDefaults.defaultsFollow crowded.clear.core).bitOf (Obj.Stream.FLAGS 257) 7 = true ∧
    (crowdedDefaults.defaultsFollow crowded.clear.core).req = [] ∧
    (crowdedDefaults.defaultsFollow crowded.clear.core).start.isSome = true ∧
    (crowdedDefaults.defaultsFollow crowded.clear.core).addrMap = crowded.clear.core.addrMap := by
  obtain ⟨hset, hports, hst, hmap⟩ := crowdedDefaults_settings
  obtain ⟨hhigh, hpos⟩ := crowdedDefaults_fill
  obtain ⟨f1, f2, f3, f4⟩ := Core.defaulted_fields crowded.clear.core
  have hover : crowded.clear.core.overHigh = true ∧ crowded.clear.core.req = [] ∧ crowded.clear.core.start.isSome = true := ⟨rfl, rfl, rfl⟩
  obtain ⟨h1, h2, h3, h4⟩ := Core.defaultsFollow_full hset hports hhigh hpos (f2.trans hover.1)
  have hin : 257 ∈ crowdedDefaults.streams.map (·.1) := by
    rw [crowdedDefaults, f1]
    exact List.mem_cons_self
  exact ⟨h4 257 hin hst, h1.trans (f3.trans hover.2.1), by rw [h2, crowdedDefaults, f4, hover.2.2], h3.trans hmap⟩

theorem crowdedAfter_flagged : crowdedAfter.core.bitOf (Obj.Stream.FLAGS 257) 7 = true ∧ crowdedAfter.core.req = [] ∧
    crowdedAfter.core.start.isSome = true ∧ crowdedAfter.latch = false := by
  obtain ⟨h1, h2, h3, -⟩ := crowdedFollowed_facts
  have hcore : crowdedAfter.core = (crowdedDefaults.defaultsFollow crowded.clear.core).emit (.status .ok) := rfl
  rw [hcore, Core.bitOf, Core.get_emit, ← Core.bitOf, Core.req_emit, Core.start_emit]
  exact ⟨h1, h2, h3, rfl⟩

theorem exec_crowded : exec (.factoryDefaults .secureWorld) crowded = .next crowdedAfter := by
  obtain ⟨hadm, hdev⟩ := crowded_admits
  obtain ⟨-, -, -, hmap⟩ := crowdedFollowed_facts
  have hw : crowded.clear.admitted .secureWorld (Obj.Id.FACTORY_DEFAULTS / 256) (Obj.Id.FACTORY_DEFAULTS % 256)
      (toBytes (sizeOf Obj.Id.FACTORY_DEFAULTS) 1) =
      (.ok, { crowded.clear with core := crowdedDefaults.defaultsFollow crowded.clear.core }) := by
    rw [State.admitted, if_pos (by decide), ofBytes_toBytes_of_fits hadm.2.1, State.writeDefaults, if_neg (by decide),
      if_neg (not_not.mpr (show crowded.clear.core.dev = Dv.service from hdev)), Core.toDefaults_eq, ← crowdedDefaults, State.newMap,
      if_pos hmap]
  obtain ⟨-, hreq, -⟩ := crowdedAfter_flagged
  have hexec : exec (.factoryDefaults .secureWorld) crowded = .next (crowded.writeNum .secureWorld Obj.Id.FACTORY_DEFAULTS 1) := rfl
  rw [hexec, State.writeNum_of_admitted hadm (by decide +kernel) hw]
  exact congrArg _ (State.settle_of_req_nil crowdedAfter hreq)

/-- Refutes O52: FACTORY_DEFAULTS fills an elastic buffer that was empty, and what flags the streams of a full buffer flags a preset that
the defaults had just set. -/
theorem not_objectWrites : ¬ Obligations.ObjectWrites := by
  unfold Obligations.ObjectWrites
  intro h
  obtain ⟨-, -, -, -, -, -, -, -, hdefaults, -⟩ := h
  obtain ⟨hadm, hdev⟩ := crowded_admits
  obtain ⟨hset, hports⟩ := crowded_settings
  obtain ⟨c, hexec, -, hget, -⟩ := hdefaults crowded .secureWorld hadm hdev hset hports crowded_fill
  obtain ⟨hbit, -, hstart, hlatch⟩ := crowdedAfter_flagged
  have hend : ({ crowded with core := c } : State).settle = crowdedAfter := (Host.Outcome.next.inj (exec_crowded.symm.trans hexec)).symm
  have hcalm : crowdedAfter.core.get (Obj.Stream.FLAGS 257) = c.get (Obj.Stream.FLAGS 257) := by
    rw [← hend] at hlatch hstart ⊢
    exact State.settle_calm hlatch hstart (by unfold Core.calmKey; decide)
  have hpreset : isLedger (Obj.Stream.FLAGS 257) = true ∧ keptByDefaults (Obj.Stream.FLAGS 257) = false ∧
      (defaultOf (Obj.Stream.FLAGS 257)).testBit 7 = false := by decide +kernel
  rw [Core.bitOf, hcalm, hget _ hpreset.1 hpreset.2.1, hpreset.2.2] at hbit
  exact absurd hbit (by decide)

end Sys2Proof.Machine
end

section
/-! PROOFS. What drain jobs do as they run (06_tailrace_drain_scanout.md R145, R154 to R157; 02_headrace_links.md R48). -/

namespace Sys2Proof.Machine
namespace Core

variable {c d e : Core} {p j tag : Nat}

theorem PortOnly.jobOf (h : PortOnly p c d) (i : Nat) : d.jobOf i = c.jobOf i := by
  have hj : d.jobs = c.jobs := by rw [h.1]
  rw [Core.jobOf, hj, Core.jobOf]

/-! ## BLK cells leave (R51, R52) -/

/-- What a port's BLK cells find: nothing waits, and the far end has granted n places. -/
def blkOpen (c : Core) (p n : Nat) : Prop := c.portUp p = true ∧ (c.portOf p).txq = [] ∧ n ≤ (c.portOf p).credit Vc.blk

theorem pumped_empty {s : HrPortState} {v : Nat} (h : (s.txq.filter fun e => e.1 == v) = []) : going s v = [] ∧
    (pumped s v).txq = s.txq ∧ ∀ u, (pumped s v).credit u = s.credit u := by
  have hgo : going s v = [] := by rw [going, h, List.take_nil]
  have hall : (s.txq.filter fun e => e.1 != v) = s.txq := by
    rw [List.filter_eq_nil_iff] at h
    exact List.filter_eq_self.mpr fun e he => by simpa using h e he
  refine ⟨hgo, ?_, fun u => ?_⟩
  · show (s.txq.filter fun e => e.1 != v) ++ (s.txq.filter fun e => e.1 == v).drop (going s v).length = s.txq
    rw [h, hall, List.drop_nil, List.append_nil]
  · have hsent : (s.sent.setNum v (s.sent.num v + (going s v).length)).num u = s.sent.num u := by
      rw [hgo]
      by_cases hu : u = v
      · subst hu
        exact num_setNum_self _ _ _
      · exact num_setNum_ne _ _ hu
    show (if s.creditSeen then (s.cum.num u + 4096 - (s.sent.setNum v (s.sent.num v + (going s v).length)).num u % 4096) % 4096 else 0) =
      s.credit u
    rw [hsent]
    rfl

/-- A single BLK cell with credit leaves. -/
theorem pumped_single {s : HrPortState} {ty : Nat} {x : Cell} (hq : s.txq = [(Vc.blk, ty, x)]) (hcr : 0 < s.credit Vc.blk) :
    going s Vc.blk = [(Vc.blk, ty, x)] ∧ (pumped s Vc.blk).txq = [] ∧ (pumped s Vc.blk).credit Vc.blk + 1 = s.credit Vc.blk := by
  have hgo := going_single hq hcr
  refine ⟨hgo, ?_, ?_⟩
  · show (s.txq.filter fun e => e.1 != Vc.blk) ++ (s.txq.filter fun e => e.1 == Vc.blk).drop (going s Vc.blk).length = []
    rw [hgo, hq]
    rfl
  · have hsent : (s.sent.setNum Vc.blk (s.sent.num Vc.blk + (going s Vc.blk).length)).num Vc.blk = s.sent.num Vc.blk + 1 := by
      rw [num_setNum_self, hgo]
      rfl
    have hpumped : (pumped s Vc.blk).credit Vc.blk = if s.creditSeen then
        (s.cum.num Vc.blk + 4096 - (s.sent.setNum Vc.blk (s.sent.num Vc.blk + (going s Vc.blk).length)).num Vc.blk % 4096) % 4096 else 0 := rfl
    rw [hpumped, hsent]
    unfold HrPortState.credit at hcr ⊢
    split at hcr
    · next hseen =>
      rw [if_pos hseen, if_pos hseen]
      omega
    · omega

theorem send_blk {ty n : Nat} (x : Cell) (h : c.blkOpen p (n + 1)) : PortOnly p c (c.send p Vc.blk ty x) ∧
    (c.send p Vc.blk ty x).out = c.out ++ [.cell p ty x] ∧ (c.send p Vc.blk ty x).blkOpen p n := by
  obtain ⟨hup, hq, hn⟩ := h
  obtain ⟨honly, -⟩ := send_facts c p Vc.blk ty x
  have hport : ∀ (d : Core) (v : Nat), (d.pumpVc p v).portOf p = pumped (d.portOf p) v := fun d v => portOf_setPort_self d p _
  have hout : ∀ (d : Core) (v : Nat), (d.pumpVc p v).out = d.out ++ (going (d.portOf p) v).map fun e => Out.cell p e.2.1 e.2.2 :=
    fun _ _ => rfl
  have hsend : c.send p Vc.blk ty x = (((c.updPort p fun s => { s with txq := s.txq ++ [(Vc.blk, ty, x)] }).pumpVc p Vc.rsp).pumpVc p
      Vc.ctl).pumpVc p Vc.blk := by rw [send, if_pos hup, pump]
  have hs0 : ((c.updPort p fun s => { s with txq := s.txq ++ [(Vc.blk, ty, x)] }).portOf p).txq = [(Vc.blk, ty, x)] ∧
      ((c.updPort p fun s => { s with txq := s.txq ++ [(Vc.blk, ty, x)] }).portOf p).credit Vc.blk = (c.portOf p).credit Vc.blk := by
    rw [portOf_updPort_self]
    exact ⟨by rw [hq]; rfl, rfl⟩
  have hout0 : (c.updPort p fun s => { s with txq := s.txq ++ [(Vc.blk, ty, x)] }).out = c.out := rfl
  generalize (c.updPort p fun s => { s with txq := s.txq ++ [(Vc.blk, ty, x)] }) = a at hsend hs0 hout0
  obtain ⟨g1, q1, r1⟩ := pumped_empty (s := a.portOf p) (v := Vc.rsp) (by rw [hs0.1]; rfl)
  obtain ⟨g2, q2, r2⟩ := pumped_empty (s := (a.pumpVc p Vc.rsp).portOf p) (v := Vc.ctl) (by rw [hport, q1, hs0.1]; rfl)
  have hq2 : (((a.pumpVc p Vc.rsp).pumpVc p Vc.ctl).portOf p).txq = [(Vc.blk, ty, x)] := by rw [hport, q2, hport, q1, hs0.1]
  have hc2 : (((a.pumpVc p Vc.rsp).pumpVc p Vc.ctl).portOf p).credit Vc.blk = (c.portOf p).credit Vc.blk := by
    rw [hport, r2, hport, r1, hs0.2]
  obtain ⟨g3, q3, r3⟩ := pumped_single hq2 (by rw [hc2]; omega)
  refine ⟨honly, ?_, (honly.portUp p).trans hup, ?_, ?_⟩
  · rw [hsend, hout, hout, hout, g1, g2, g3, hout0]
    simp
  · rw [hsend, hport, q3]
  · rw [hsend, hport]
    omega

/-- The cells of a transaction leave together. -/
theorem sendAll_facts {l : List Cell} (h : c.blkOpen p l.length) : PortOnly p c (c.sendAll p l) ∧
    (c.sendAll p l).out = c.out ++ l.map (Out.cell p Cy.write) := by
  induction l generalizing c with
  | nil => exact ⟨PortOnly.refl p c, by simp [sendAll]⟩
  | cons x l ih =>
    obtain ⟨h1, o1, b1⟩ := send_blk (ty := Cy.write) x h
    obtain ⟨h2, o2⟩ := ih b1
    refine ⟨h1.trans h2, o2.trans ?_⟩
    rw [o1]
    simp

/-! ## What a job has sent (R145, R154) -/

theorem tookTurn_facts (c : Core) (p j : Nat) : PortOnly p c (c.tookTurn p j) ∧ (c.tookTurn p j).out = c.out :=
  ⟨portOnly_updPort c p _, rfl⟩

theorem sentTo_facts (c : Core) (j pos : Nat) : (c.sentTo j pos).jobOf j = { c.jobOf j with pos := pos } ∧
    (c.sentTo j pos).get (Obj.Job.BYTES j) = max (c.get (Obj.Job.PROGRESS j)) (dataBelow (c.jobOf j).plan pos) ∧
    (c.sentTo j pos).get (Obj.Job.PROGRESS j) = (c.sentTo j pos).get (Obj.Job.BYTES j) ∧
    (∀ k, k ≠ Obj.Job.BYTES j → k ≠ Obj.Job.PROGRESS j → (c.sentTo j pos).get k = c.get k) ∧ (c.sentTo j pos).out = c.out ∧
    (c.sentTo j pos).req = c.req ∧ (c.sentTo j pos).mc = c.mc := by
  unfold sentTo
  dsimp only
  generalize max (c.get (Obj.Job.PROGRESS j)) (dataBelow (c.jobOf j).plan pos) = v
  refine ⟨?_, ?_, ?_, fun k h1 h2 => ?_, ?_, ?_, ?_⟩
  · rw [jobOf_put, jobOf_put, jobOf_updJob_self]
  · rw [get_put_ne _ _ (by simp), get_put_self]
  · rw [get_put_self, get_put_ne _ _ (by simp), get_put_self]
  · rw [get_put_ne _ _ h2, get_put_ne _ _ h1, get_updJob]
  · rw [out_put, out_put]
    rfl
  · rw [req_put, req_put]
    rfl
  · rw [mc_put, mc_put]
    rfl

/-- A job's bytes are logged and its turn is over. -/
def sentOff (c : Core) (p j n : Nat) : Core := (c.logSent j n).tookTurn p j

theorem sentOff_facts (c : Core) (p j n : Nat) : (∀ k, (c.sentOff p j n).get k = c.get k) ∧ (c.sentOff p j n).out = c.out ∧
    (c.sentOff p j n).req = c.req ∧
    ((c.sentOff p j n).jobOf j).plan = (c.jobOf j).plan ∧ ((c.sentOff p j n).jobOf j).flights = (c.jobOf j).flights := by
  have hjob : (c.sentOff p j n).jobOf j = (c.logSent j n).jobOf j := rfl
  refine ⟨fun _ => rfl, rfl, rfl, ?_, ?_⟩
  · rw [hjob, logSent, jobOf_updJob_self]
  · rw [hjob, logSent, jobOf_updJob_self]

/-! ## A STREAM job (R154) -/

theorem jobSend_port (hst : c.get (Obj.Job.STATE j) = 1) (hcan : (c.jobOf j).cancelling = false)
    (hfree : c.blkFree (c.get (Obj.Job.PORT j)) = true) (hturn : c.myTurn (c.get (Obj.Job.PORT j)) j = true) :
    (c.get (Obj.Job.MODE j) = 0 → c.jobSend j tag = c.streamCell j) ∧ (c.get (Obj.Job.MODE j) = 1 → c.jobSend j tag = c.pushNext j tag) := by
  refine ⟨fun hm => ?_, fun hm => ?_⟩ <;>
  · rw [jobSend, hst, hcan, if_neg (by decide), hm, hfree, hturn]
    rfl

theorem blkOpen_of_blkFree (hfree : c.blkFree p = true) (hq : (c.portOf p).txq = []) : c.blkOpen p 1 := by
  unfold blkFree at hfree
  simp only [Bool.and_eq_true, decide_eq_true_eq] at hfree
  exact ⟨hfree.1.1, hq, hfree.1.2⟩

/-- The next cell of a STREAM job. -/
def streamCellOf (s : JobState) (j size k : Nat) : Cell :=
  mkCell Cy.stream Vc.blk true (s.markedAt s.pos (s.pos + size)) 0 size (j <<< 40 + 2 <<< 32 + k) (s.bytesAt s.pos (s.pos + size))

theorem streamCell_eq {r : RecDesc} {o size k : Nat} (hnext : (c.jobOf j).nextCell = some (r, o, size, k)) (hrate : c.rateAllows j size = true)
    (hformed : (c.jobOf j).complete < (c.jobOf j).next) (hmore : o + size ≠ r.len + 512) : c.streamCell j =
    ((c.send (c.get (Obj.Job.PORT j)) Vc.blk Cy.stream (streamCellOf (c.jobOf j) j size k)).sentOff (c.get (Obj.Job.PORT j)) j size).sentTo j
      ((c.jobOf j).pos + size) := by
  rw [streamCell, hnext]
  dsimp only
  rw [hrate, if_neg (by decide), if_neg (show ¬ (c.jobOf j).next ≤ (c.jobOf j).complete by omega)]
  dsimp only
  rw [if_neg (by decide), if_neg hmore]
  rfl

/-! ## A PUSH job (R48, R154) -/

/-- The failed transaction is on its way again. -/
def sentAgain (c : Core) (j tag : Nat) : Core :=
  c.updJob j fun s => { s with flights := s.flights.map fun g => if g.tag = tag then { g with again := false } else g }

theorem pushNext_again {f : PushFlight} (hf : (c.jobOf j).flights.find? (·.again) = some f)
    (hrate : c.rateAllows j (f.cells.map fun x => x.plen.toNat).sum = true) : c.pushNext j tag =
    (((c.sendAll (c.get (Obj.Job.PORT j)) f.cells).sentOff (c.get (Obj.Job.PORT j)) j (f.cells.map fun x => x.plen.toNat).sum).sentAgain j
      f.tag).inc (Obj.Job.RETRIES j) := by
  rw [pushNext, hf]
  dsimp only
  rw [hrate, if_neg (by decide)]
  rfl

/-- A new transaction of a PUSH job. -/
def pushFlight (c : Core) (j tag : Nat) : PushFlight :=
  { tag := tag, pos := (c.jobOf j).pos, attempts := 0, again := false,
    cells := c.pushCells j (c.jobOf j) tag (c.jobOf j).pos ((c.jobOf j).pos + 4096) }

theorem pushFlight_length (c : Core) (j tag : Nat) : (c.pushFlight j tag).cells.length = 16 := by
  have h : ceilDiv 4096 256 = 16 := by decide
  simp [pushFlight, pushCells, h]

theorem pushNext_new (hf : (c.jobOf j).flights.find? (·.again) = none) (hlen : (c.jobOf j).pos + 4096 ≤ planBytes (c.jobOf j).plan)
    (hdepth : (c.jobOf j).flights.length < c.get (Obj.Job.PUSH_DEPTH j)) (hrate : c.rateAllows j 4096 = true)
    (hformed : (c.jobOf j).formedTo ((c.jobOf j).pos + 4096) = true)
    (htag : (c.hubTags (c.get (Obj.Job.PORT j))).contains tag = false) : c.pushNext j tag =
    ((((c.sendAll (c.get (Obj.Job.PORT j)) (c.pushFlight j tag).cells).sentOff (c.get (Obj.Job.PORT j)) j 4096).sentTo j
      ((c.jobOf j).pos + 4096)).updJob j fun s => { s with flights := s.flights ++ [c.pushFlight j tag] }) := by
  have hhi : min ((c.jobOf j).pos + 4096) (planBytes (c.jobOf j).plan) = (c.jobOf j).pos + 4096 := Nat.min_eq_left hlen
  have hsub : (c.jobOf j).pos + 4096 - (c.jobOf j).pos = 4096 := Nat.add_sub_cancel_left _ _
  rw [pushNext, hf]
  dsimp only
  rw [hhi, hsub, hrate, decide_eq_false (show ¬ planBytes (c.jobOf j).plan ≤ (c.jobOf j).pos by omega),
    decide_eq_false (show ¬ c.get (Obj.Job.PUSH_DEPTH j) ≤ (c.jobOf j).flights.length by omega), if_neg (by decide), hformed, if_pos rfl]
  dsimp only
  rw [hformed, htag, if_neg (by decide)]
  rw [pushFlight, hsub]
  rfl

end Core
end Sys2Proof.Machine
end

section
/-! PROOFS. The turns, failures, halts and answers of drain jobs (06_tailrace_drain_scanout.md R145, R154 to R157). -/

namespace Sys2Proof.Machine
namespace Core

variable {c d e : Core} {p j tag : Nat}

/-! ## The turns -/

theorem streamTurn {r : RecDesc} {o size k : Nat} (hopen : c.blkOpen (c.get (Obj.Job.PORT j)) 1)
    (hnext : (c.jobOf j).nextCell = some (r, o, size, k)) (hrate : c.rateAllows j size = true)
    (hformed : (c.jobOf j).complete < (c.jobOf j).next) (hmore : o + size ≠ r.len + 512) :
    ((c.streamCell j).jobOf j).pos = (c.jobOf j).pos + size ∧
    (c.streamCell j).out = c.out ++ [.cell (c.get (Obj.Job.PORT j)) Cy.stream (streamCellOf (c.jobOf j) j size k)] ∧
    (c.streamCell j).get (Obj.Job.BYTES j) = max (c.get (Obj.Job.PROGRESS j)) (dataBelow (c.jobOf j).plan ((c.jobOf j).pos + size)) ∧
    (c.streamCell j).get (Obj.Job.PROGRESS j) = (c.streamCell j).get (Obj.Job.BYTES j) ∧ (c.streamCell j).req = c.req ∧
    ∀ k, k ≠ Obj.Job.BYTES j → k ≠ Obj.Job.PROGRESS j → (c.streamCell j).get k = c.get k := by
  obtain ⟨h1, o1, -⟩ := send_blk (ty := Cy.stream) (streamCellOf (c.jobOf j) j size k) hopen
  rw [streamCell_eq hnext hrate hformed hmore]
  generalize c.send (c.get (Obj.Job.PORT j)) Vc.blk Cy.stream (streamCellOf (c.jobOf j) j size k) = a at h1 o1
  obtain ⟨g2, o2, q2, p2, -⟩ := sentOff_facts a (c.get (Obj.Job.PORT j)) j size
  generalize a.sentOff (c.get (Obj.Job.PORT j)) j size = b at g2 o2 q2 p2
  obtain ⟨s1, s2, s3, s4, s5, s6, -⟩ := sentTo_facts b j ((c.jobOf j).pos + size)
  refine ⟨by rw [s1], s5.trans (o2.trans o1), ?_, s3, s6.trans (q2.trans h1.req), fun k k1 k2 => (s4 k k1 k2).trans ((g2 k).trans (h1.get k))⟩
  rw [s2, g2, h1.get, p2, h1.jobOf]

theorem sentAgain_facts (c : Core) (j tag : Nat) : ((c.sentAgain j tag).jobOf j).flights =
    ((c.jobOf j).flights.map fun g => if g.tag = tag then { g with again := false } else g) ∧ (∀ k, (c.sentAgain j tag).get k = c.get k) ∧
    (c.sentAgain j tag).out = c.out ∧ (c.sentAgain j tag).req = c.req := by
  refine ⟨?_, fun _ => rfl, rfl, rfl⟩
  rw [sentAgain, jobOf_updJob_self]

theorem pushTurn_again {f : PushFlight} (hopen : c.blkOpen (c.get (Obj.Job.PORT j)) f.cells.length)
    (hf : (c.jobOf j).flights.find? (·.again) = some f)
    (hrate : c.rateAllows j (f.cells.map fun x => x.plen.toNat).sum = true) :
    (c.pushNext j tag).out = c.out ++ f.cells.map (Out.cell (c.get (Obj.Job.PORT j)) Cy.write) ∧
    ((c.pushNext j tag).jobOf j).flights = ((c.jobOf j).flights.map fun g => if g.tag = f.tag then { g with again := false } else g) ∧
    (c.pushNext j tag).get (Obj.Job.RETRIES j) = min (c.get (Obj.Job.RETRIES j) + 1) (2 ^ 32 - 1) ∧ (c.pushNext j tag).req = c.req ∧
    ∀ k, k ≠ Obj.Job.RETRIES j → (c.pushNext j tag).get k = c.get k := by
  obtain ⟨h1, o1⟩ := sendAll_facts hopen
  rw [pushNext_again hf hrate]
  generalize c.sendAll (c.get (Obj.Job.PORT j)) f.cells = a at h1 o1
  obtain ⟨g2, o2, q2, -, f2⟩ := sentOff_facts a (c.get (Obj.Job.PORT j)) j (f.cells.map fun x => x.plen.toNat).sum
  generalize a.sentOff (c.get (Obj.Job.PORT j)) j (f.cells.map fun x => x.plen.toNat).sum = b at g2 o2 q2 f2
  obtain ⟨f3, g3, o3, q3⟩ := sentAgain_facts b j f.tag
  generalize b.sentAgain j f.tag = b' at f3 g3 o3 q3
  refine ⟨?_, ?_, ?_, ?_, fun k hk => ?_⟩
  · rw [inc, add, out_put, o3, o2, o1]
  · rw [inc, add, jobOf_put, f3, f2, h1.jobOf]
  · rw [get_inc_min, g3, g2, h1.get]
  · rw [inc, add, req_put, q3, q2, h1.req]
  · rw [get_inc_ne _ hk, g3, g2, h1.get]

theorem pushTurn_new (hopen : c.blkOpen (c.get (Obj.Job.PORT j)) 16) (hf : (c.jobOf j).flights.find? (·.again) = none)
    (hlen : (c.jobOf j).pos + 4096 ≤ planBytes (c.jobOf j).plan)
    (hdepth : (c.jobOf j).flights.length < c.get (Obj.Job.PUSH_DEPTH j)) (hrate : c.rateAllows j 4096 = true)
    (hformed : (c.jobOf j).formedTo ((c.jobOf j).pos + 4096) = true) (htag : (c.hubTags (c.get (Obj.Job.PORT j))).contains tag = false) :
    (c.pushNext j tag).out = c.out ++ (c.pushFlight j tag).cells.map (Out.cell (c.get (Obj.Job.PORT j)) Cy.write) ∧
    ((c.pushNext j tag).jobOf j).pos = (c.jobOf j).pos + 4096 ∧
    ((c.pushNext j tag).jobOf j).flights = (c.jobOf j).flights ++ [c.pushFlight j tag] ∧
    (c.pushNext j tag).get (Obj.Job.BYTES j) = max (c.get (Obj.Job.PROGRESS j)) (dataBelow (c.jobOf j).plan ((c.jobOf j).pos + 4096)) ∧
    (c.pushNext j tag).get (Obj.Job.PROGRESS j) = (c.pushNext j tag).get (Obj.Job.BYTES j) ∧ (c.pushNext j tag).req = c.req ∧
    ∀ k, k ≠ Obj.Job.BYTES j → k ≠ Obj.Job.PROGRESS j → (c.pushNext j tag).get k = c.get k := by
  obtain ⟨h1, o1⟩ := sendAll_facts (l := (c.pushFlight j tag).cells) (by rw [pushFlight_length]; exact hopen)
  rw [pushNext_new hf hlen hdepth hrate hformed htag]
  generalize c.pushFlight j tag = f at h1 o1
  generalize c.sendAll (c.get (Obj.Job.PORT j)) f.cells = a at h1 o1
  obtain ⟨g2, o2, q2, p2, f2⟩ := sentOff_facts a (c.get (Obj.Job.PORT j)) j 4096
  generalize a.sentOff (c.get (Obj.Job.PORT j)) j 4096 = b at g2 o2 q2 p2 f2
  obtain ⟨s1, s2, s3, s4, s5, s6, -⟩ := sentTo_facts b j ((c.jobOf j).pos + 4096)
  generalize b.sentTo j ((c.jobOf j).pos + 4096) = b' at s1 s2 s3 s4 s5 s6
  have hout : (b'.updJob j fun s => { s with flights := s.flights ++ [f] }).out = b'.out ∧
      (b'.updJob j fun s => { s with flights := s.flights ++ [f] }).req = b'.req := ⟨rfl, rfl⟩
  refine ⟨?_, ?_, ?_, ?_, ?_, ?_, fun k k1 k2 => ?_⟩
  · rw [hout.1, s5, o2, o1]
  · rw [jobOf_updJob_self, s1]
  · rw [jobOf_updJob_self, s1]
    exact congrArg (· ++ [f]) (f2.trans (by rw [h1.jobOf]))
  · rw [get_updJob, s2, g2, h1.get, p2, h1.jobOf]
  · rw [get_updJob, get_updJob, s3]
  · rw [hout.2, s6, q2, h1.req]
  · rw [get_updJob, s4 k k1 k2, g2, h1.get]

/-! ## A LOCAL job (R155) -/

theorem completeTo_facts (c : Core) (j low : Nat) : ((c.completeTo j low).jobOf j).pos = (c.jobOf j).pos ∧
    ((c.completeTo j low).jobOf j).flights = (c.jobOf j).flights ∧ (c.completeTo j low).mc = c.mc ∧ (c.completeTo j low).req = c.req ∧
    (c.completeTo j low).hr = c.hr ∧ ∀ k, k ≠ Obj.Job.RECORDS j → (c.completeTo j low).get k = c.get k := by
  unfold completeTo
  dsimp only
  generalize max (c.jobOf j).complete ((List.range (c.jobOf j).plan.length).filter fun i => planStart (c.jobOf j).plan (i + 1) ≤ low).length = n
  generalize (if c.get (Obj.Job.MODE j) = 1 then planStart (c.jobOf j).plan n / 4096 * 4096 else planStart (c.jobOf j).plan n) = keep
  refine ⟨?_, ?_, ?_, ?_, ?_, fun k hk => ?_⟩
  · rw [jobOf_put, jobOf_updJob_self]
  · rw [jobOf_put, jobOf_updJob_self]
  · rw [mc_put]
    rfl
  · rw [req_put]
    rfl
  · rw [hr_put]
    rfl
  · rw [get_put_ne _ _ hk, get_updJob]

/-- The block that a LOCAL job posts next. -/
def localReq (c : Core) (j : Nat) : Req64 :=
  writeReq (c.regionHa (c.get (Obj.Job.PUSH_REGION j)) + c.get (Obj.Job.PUSH_OFFSET j) + (c.jobOf j).pos / 64) 3
    (ofBytes ((c.jobOf j).bytesAt (c.jobOf j).pos ((c.jobOf j).pos + 64))) ((c.jobOf j).markedAt (c.jobOf j).pos ((c.jobOf j).pos + 64))
    (.drain j)

theorem localNext_eq {b : Bool} (hlen : (c.jobOf j).pos + 64 < planBytes (c.jobOf j).plan) (hrate : c.rateAllows j 64 = true)
    (hformed : (c.jobOf j).formedTo ((c.jobOf j).pos + 64) = true) (hpost : c.post (c.localReq j) = some (d, b)) : c.localNext j =
    ((d.logSent j 64).sentTo j ((c.jobOf j).pos + 64)).completeTo j ((c.jobOf j).pos + 64) := by
  rw [localReq] at hpost
  rw [localNext, hrate, decide_eq_false (show ¬ planBytes (c.jobOf j).plan ≤ (c.jobOf j).pos by omega), hformed]
  rw [if_neg (by decide), if_pos rfl]
  dsimp only
  rw [if_neg (by decide), hpost]
  dsimp only
  rw [if_neg (by omega)]

theorem localTurn {b : Bool} (hlen : (c.jobOf j).pos + 64 < planBytes (c.jobOf j).plan) (hrate : c.rateAllows j 64 = true)
    (hformed : (c.jobOf j).formedTo ((c.jobOf j).pos + 64) = true) (hpost : c.post (c.localReq j) = some (d, b)) :
    ((c.localNext j).jobOf j).pos = (c.jobOf j).pos + 64 ∧ (c.localNext j).mc = d.mc ∧
    (c.localNext j).get (Obj.Job.BYTES j) = max (d.get (Obj.Job.PROGRESS j)) (dataBelow (c.jobOf j).plan ((c.jobOf j).pos + 64)) ∧
    (c.localNext j).get (Obj.Job.PROGRESS j) = (c.localNext j).get (Obj.Job.BYTES j) ∧ (c.localNext j).req = c.req := by
  have honly : d = { c with objs := d.objs, mc := d.mc, ddr := d.ddr, out := d.out, sluice := d.sluice, srQueue := d.srQueue } :=
    (postOnly_post hpost).1
  have hreq : d.req = c.req := by rw [honly]
  have hjobs : d.jobs = c.jobs := by rw [honly]
  have hjob : d.jobOf j = c.jobOf j := by rw [jobOf, hjobs, jobOf]
  rw [localNext_eq hlen hrate hformed hpost]
  have hlog : (∀ k, (d.logSent j 64).get k = d.get k) ∧ (d.logSent j 64).mc = d.mc ∧ (d.logSent j 64).req = d.req := ⟨fun _ => rfl, rfl, rfl⟩
  have hplan : ((d.logSent j 64).jobOf j).plan = (c.jobOf j).plan := by rw [logSent, jobOf_updJob_self, ← hjob]
  generalize d.logSent j 64 = a at hlog hplan
  obtain ⟨g, m, q⟩ := hlog
  obtain ⟨s1, s2, s3, -, -, s6, s7⟩ := sentTo_facts a j ((c.jobOf j).pos + 64)
  generalize a.sentTo j ((c.jobOf j).pos + 64) = b at s1 s2 s3 s6 s7
  obtain ⟨t1, -, t3, t4, -, t6⟩ := completeTo_facts b j ((c.jobOf j).pos + 64)
  refine ⟨t1.trans (by rw [s1]), t3.trans (s7.trans m), ?_, ?_, t4.trans (s6.trans (q.trans hreq))⟩
  · rw [t6 _ (by simp), s2, g, hplan]
  · rw [t6 _ (by simp), t6 _ (by simp), s3]

/-! ## Failures and answers (R149, R156, R157) -/

theorem pushFailed_again {f : PushFlight} (hf : (c.jobOf j).flights.find? (fun f => f.tag == tag && !f.again) = some f)
    (hcan : (c.jobOf j).cancelling = false) (hlim : f.attempts + 1 < c.get (Obj.Job.RETRY_LIMIT j)) : c.pushFailed j tag =
    c.updJob j fun s => { s with flights := s.flights.map fun g =>
      if g.tag = tag then { g with attempts := g.attempts + 1, again := true } else g } := by
  rw [pushFailed, hf]
  dsimp only
  rw [hcan, if_neg (by decide), if_neg (by omega)]

theorem pushFailed_halts {f : PushFlight} (hf : (c.jobOf j).flights.find? (fun f => f.tag == tag && !f.again) = some f)
    (hcan : (c.jobOf j).cancelling = false) (hlim : c.get (Obj.Job.RETRY_LIMIT j) ≤ f.attempts + 1) : c.pushFailed j tag = c.haltJob j 2 := by
  rw [pushFailed, hf]
  dsimp only
  rw [hcan, if_neg (by decide), if_pos hlim]

/-- A running job that halts says so, drops its transactions and raises. -/
theorem haltJob_facts {cause : Nat} (hj : j < 32) (hst : c.get (Obj.Job.STATE j) = 1) (hcan : (c.jobOf j).cancelling = false) :
    (c.haltJob j cause).get (Obj.Job.STATE j) = 2 ∧ (c.haltJob j cause).get (Obj.Job.HALT_CAUSE j) = cause ∧
    (c.haltJob j cause).bitOf (Obj.Job.FLAGS j) 2 = true ∧ ((c.haltJob j cause).jobOf j).flights = [] ∧
    c.Raises Src.trJobHalt (c.haltJob j cause) := by
  obtain ⟨h1, h2⟩ := haltJob_result (cause := cause) hcan hj hst
  refine ⟨h1, h2, ?_, ?_, ?_⟩ <;> rw [haltJob_of_running hcan hst]
  · rw [bitOf_congr 2 ((fcOnly_raise _ _ _).get (by simp; omega)), bitOf_congr 2 (get_flag_ne _ _ (by simp; omega)),
      bitOf_congr 2 (get_updJob _ _ _ _), bitOf_flag_self]
  · rw [jobOf_raise, flag, jobOf_put, jobOf_updJob_self]
  · exact raises_of_raise _ (by decide +kernel) (by simp [flag]) (by simp (disch := omega) [flag, get_put_ne])

theorem jobStalled_eq (hm : c.get (Obj.Job.MODE j) ≠ 2) (hup : c.portUp (c.get (Obj.Job.PORT j)) = true)
    (hcr : (c.portOf (c.get (Obj.Job.PORT j))).credit Vc.blk = 0) : c.jobStalled j = c.haltJob j 3 := by
  rw [jobStalled, hup, hcr, decide_eq_false hm, if_neg (by decide)]

theorem pushDone_facts (h : (c.jobOf j).flights.filter (fun g => g.tag != tag) ≠ []) : (c.pushDone j tag).req = c.req ∧
    (c.pushDone j tag).hr = c.hr ∧ ((c.pushDone j tag).jobOf j).flights = (c.jobOf j).flights.filter (fun g => g.tag != tag) := by
  have hjob : ((c.updJob j fun s => { s with flights := s.flights.filter fun g => g.tag != tag }).jobOf j).flights =
      (c.jobOf j).flights.filter (fun g => g.tag != tag) := by rw [jobOf_updJob_self]
  have hfields : (c.updJob j fun s => { s with flights := s.flights.filter fun g => g.tag != tag }).req = c.req ∧
      (c.updJob j fun s => { s with flights := s.flights.filter fun g => g.tag != tag }).hr = c.hr := ⟨rfl, rfl⟩
  unfold pushDone
  generalize (c.updJob j fun s => { s with flights := s.flights.filter fun g => g.tag != tag }) = a at hjob hfields
  dsimp only
  obtain ⟨-, t2, -, t4, t5, -⟩ := completeTo_facts a j (((a.jobOf j).flights.map (·.pos)).foldl min (a.jobOf j).pos)
  rw [if_neg (by rw [hjob]; simpa using h)]
  exact ⟨t4.trans hfields.1, t5.trans hfields.2, t2.trans hjob⟩

end Core
end Sys2Proof.Machine
end

section
/-! PROOFS. The statement of what drain jobs do as they run (06_tailrace_drain_scanout.md R145, R154 to R157), clause by clause. -/

namespace Sys2Proof.Machine

variable {s : State} {j : JobNo} {tag : BitVec 12} {p : Nat}

theorem mkCell_fields (ty vc : Nat) (last poison : Bool) (tag plen arg : Nat) (data : List Byte) :
    (mkCell ty vc last poison tag plen arg data).plen = BitVec.ofNat 9 plen ∧
    (mkCell ty vc last poison tag plen arg data).arg = BitVec.ofNat 48 arg := ⟨rfl, rfl⟩

theorem jobs_stream {r : RecDesc} {o size k : Nat} (hu : s.core.hubUp = true) (hst : s.core.get (Obj.Job.STATE j.val) = 1)
    (hcan : (s.core.jobOf j.val).cancelling = false) (hm : s.core.get (Obj.Job.MODE j.val) = 0) (hp : p = s.core.get (Obj.Job.PORT j.val))
    (hfree : s.core.blkFree p = true) (hturn : s.core.myTurn p j.val = true)
    (hnext : (s.core.jobOf j.val).nextCell = some (r, o, size, k)) (hrate : s.core.rateAllows j.val size = true)
    (hformed : (s.core.jobOf j.val).complete < (s.core.jobOf j.val).next) (hmore : o + size ≠ r.len + 512)
    (hq : (s.core.portOf p).txq = []) : AnswersCore (.jobCellSend j tag) s fun c =>
      (c.jobOf j.val).pos = (s.core.jobOf j.val).pos + size ∧
      (∃ x, c.out = [.cell p Cy.stream x] ∧ x.plen = BitVec.ofNat 9 size ∧ x.arg = BitVec.ofNat 48 (j.val <<< 40 + 2 <<< 32 + k)) ∧
      c.get (Obj.Job.BYTES j.val) = max (s.core.get (Obj.Job.PROGRESS j.val))
        (dataBelow (s.core.jobOf j.val).plan ((s.core.jobOf j.val).pos + size)) ∧
      c.get (Obj.Job.PROGRESS j.val) = c.get (Obj.Job.BYTES j.val) ∧
      ∀ k, k ≠ Obj.Job.BYTES j.val → k ≠ Obj.Job.PROGRESS j.val → c.get k = s.core.get k := by
  subst hp
  have heq : s.clear.core.jobSend j.val tag.toNat = s.clear.core.streamCell j.val := (Core.jobSend_port (c := s.clear.core) hst hcan hfree hturn).1 hm
  obtain ⟨h1, h2, h3, h4, h5, h6⟩ := Core.streamTurn (c := s.clear.core) (Core.blkOpen_of_blkFree hfree hq) hnext hrate hformed hmore
  refine answersCore_onHub (fun c => c.jobSend j.val tag.toNat) rfl hu (by rw [heq, h5]; rfl) ?_
  rw [heq]
  exact ⟨h1, ⟨_, h2, mkCell_fields _ _ _ _ _ _ _ _⟩, h3, h4, h6⟩

theorem jobs_again {f : PushFlight} (hu : s.core.hubUp = true) (hst : s.core.get (Obj.Job.STATE j.val) = 1)
    (hcan : (s.core.jobOf j.val).cancelling = false) (hm : s.core.get (Obj.Job.MODE j.val) = 1) (hp : p = s.core.get (Obj.Job.PORT j.val))
    (hfree : s.core.blkFree p = true) (hturn : s.core.myTurn p j.val = true) (hf : (s.core.jobOf j.val).flights.find? (·.again) = some f)
    (hrate : s.core.rateAllows j.val (f.cells.map fun x => x.plen.toNat).sum = true) (hq : (s.core.portOf p).txq = [])
    (hcr : f.cells.length ≤ (s.core.portOf p).credit Vc.blk) : AnswersCore (.jobCellSend j tag) s fun c =>
      c.out = f.cells.map (Out.cell p Cy.write) ∧
      (c.jobOf j.val).flights = ((s.core.jobOf j.val).flights.map fun g => if g.tag = f.tag then { g with again := false } else g) ∧
      c.get (Obj.Job.RETRIES j.val) = min (s.core.get (Obj.Job.RETRIES j.val) + 1) (2 ^ 32 - 1) ∧
      ∀ k, k ≠ Obj.Job.RETRIES j.val → c.get k = s.core.get k := by
  subst hp
  have heq : s.clear.core.jobSend j.val tag.toNat = s.clear.core.pushNext j.val tag.toNat := (Core.jobSend_port (c := s.clear.core) hst hcan hfree hturn).2 hm
  have hopen : s.clear.core.blkOpen (s.clear.core.get (Obj.Job.PORT j.val)) f.cells.length :=
    ⟨(Core.blkOpen_of_blkFree (c := s.clear.core) hfree hq).1, hq, hcr⟩
  obtain ⟨h1, h2, h3, h4, h5⟩ := Core.pushTurn_again (tag := tag.toNat) hopen hf hrate
  refine answersCore_onHub (fun c => c.jobSend j.val tag.toNat) rfl hu (by rw [heq, h4]; rfl) ?_
  rw [heq]
  exact ⟨h1, h2, h3, h5⟩

theorem jobs_new (hu : s.core.hubUp = true) (hst : s.core.get (Obj.Job.STATE j.val) = 1)
    (hcan : (s.core.jobOf j.val).cancelling = false) (hm : s.core.get (Obj.Job.MODE j.val) = 1) (hp : p = s.core.get (Obj.Job.PORT j.val))
    (hfree : s.core.blkFree p = true) (hturn : s.core.myTurn p j.val = true) (hf : (s.core.jobOf j.val).flights.find? (·.again) = none)
    (hlen : (s.core.jobOf j.val).pos + 4096 ≤ planBytes (s.core.jobOf j.val).plan)
    (hdepth : (s.core.jobOf j.val).flights.length < s.core.get (Obj.Job.PUSH_DEPTH j.val)) (hrate : s.core.rateAllows j.val 4096 = true)
    (hformed : (s.core.jobOf j.val).formedTo ((s.core.jobOf j.val).pos + 4096) = true)
    (htag : (s.core.hubTags p).contains tag.toNat = false) (hq : (s.core.portOf p).txq = []) (hcr : 16 ≤ (s.core.portOf p).credit Vc.blk) :
    AnswersCore (.jobCellSend j tag) s fun c => ∃ f,
      f = { tag := tag.toNat, pos := (s.core.jobOf j.val).pos, attempts := 0, again := false,
            cells := s.core.pushCells j.val (s.core.jobOf j.val) tag.toNat (s.core.jobOf j.val).pos ((s.core.jobOf j.val).pos + 4096) } ∧
      c.out = f.cells.map (Out.cell p Cy.write) ∧ (c.jobOf j.val).pos = (s.core.jobOf j.val).pos + 4096 ∧
      (c.jobOf j.val).flights = (s.core.jobOf j.val).flights ++ [f] ∧
      c.get (Obj.Job.BYTES j.val) = max (s.core.get (Obj.Job.PROGRESS j.val))
        (dataBelow (s.core.jobOf j.val).plan ((s.core.jobOf j.val).pos + 4096)) ∧
      c.get (Obj.Job.PROGRESS j.val) = c.get (Obj.Job.BYTES j.val) ∧
      ∀ k, k ≠ Obj.Job.BYTES j.val → k ≠ Obj.Job.PROGRESS j.val → c.get k = s.core.get k := by
  subst hp
  have heq : s.clear.core.jobSend j.val tag.toNat = s.clear.core.pushNext j.val tag.toNat := (Core.jobSend_port (c := s.clear.core) hst hcan hfree hturn).2 hm
  have hopen : s.clear.core.blkOpen (s.clear.core.get (Obj.Job.PORT j.val)) 16 :=
    ⟨(Core.blkOpen_of_blkFree (c := s.clear.core) hfree hq).1, hq, hcr⟩
  obtain ⟨h1, h2, h3, h4, h5, h6, h7⟩ := Core.pushTurn_new (c := s.clear.core) hopen hf hlen hdepth hrate hformed htag
  refine answersCore_onHub (fun c => c.jobSend j.val tag.toNat) rfl hu (by rw [heq, h6]; rfl) ?_
  rw [heq]
  exact ⟨_, rfl, h1, h2, h3, h4, h5, h7⟩

theorem jobSend_local {c : Core} {j tag : Nat} (hst : c.get (Obj.Job.STATE j) = 1) (hcan : (c.jobOf j).cancelling = false)
    (hm : c.get (Obj.Job.MODE j) = 2) : c.jobSend j tag = c.localNext j := by
  rw [Core.jobSend, hst, hcan, if_neg (by decide), hm]
  rfl

theorem jobs_answer {x : Cell} {p : Port} {j : Nat} (h : Arrives s p.val Cy.response x) (harg : field 47 40 x.arg.toNat = 0)
    (hfind : (List.range 32).find? (fun j => s.core.get (Obj.Job.PORT j) = p.val &&
      (s.core.jobOf j).flights.any fun f => f.tag == x.tag.toNat) = some j)
    (hmore : (s.core.jobOf j).flights.filter (fun g => g.tag != x.tag.toNat) ≠ []) : AnswersCore (.hostResponse p x) s fun c =>
      (c.jobOf j).flights = (s.core.jobOf j).flights.filter (fun g => g.tag != x.tag.toNat) ∧
      (c.portOf p.val).grant.num 3 + (c.portOf p.val).freed.num 3 =
        (s.core.portOf p.val).grant.num 3 + (s.core.portOf p.val).freed.num 3 + 1 := by
  obtain ⟨hu, hwf, hrec, hcrc, hpart⟩ := h
  have h1 := Core.portOnly_tookCredit s.clear.core p.val (typeVc Cy.response)
  have hport := Core.portOf_tookCredit s.clear.core p.val (typeVc Cy.response)
  obtain ⟨h2, -, hsum⟩ := Core.freeCells_facts (s.clear.core.tookCredit p.val (typeVc Cy.response)) p.val Vc.rsp 1
  have honly := h1.trans h2
  have heq : s.clear.core.responseIn p.val x = ((s.clear.core.tookCredit p.val (typeVc Cy.response)).freeCells p.val Vc.rsp 1).pushDone j
      x.tag.toNat := by
    rw [Core.responseIn, Core.receive_of_receives (c := s.clear.core) hrec (by decide) (by decide) hpart]
    generalize (s.clear.core.tookCredit p.val (typeVc Cy.response)).freeCells p.val Vc.rsp 1 = d at honly
    have hsame : (List.range 32).find? (fun j => d.get (Obj.Job.PORT j) = p.val && (d.jobOf j).flights.any fun f => f.tag == x.tag.toNat) =
        some j := by
      simp only [honly.get, honly.jobOf]
      exact hfind
    dsimp only
    rw [hcrc, if_neg (by decide), hsame]
    dsimp only
    rw [if_pos harg]
  have hsum3 : (((s.clear.core.tookCredit p.val (typeVc Cy.response)).freeCells p.val Vc.rsp 1).portOf p.val).grant.num 3 +
      (((s.clear.core.tookCredit p.val (typeVc Cy.response)).freeCells p.val Vc.rsp 1).portOf p.val).freed.num 3 =
      (s.core.portOf p.val).grant.num 3 + (s.core.portOf p.val).freed.num 3 + 1 := by
    rw [hsum 3, hport]
    rfl
  generalize (s.clear.core.tookCredit p.val (typeVc Cy.response)).freeCells p.val Vc.rsp 1 = d at honly heq hsum3
  obtain ⟨d1, d2, d3⟩ := Core.pushDone_facts (c := d) (j := j) (tag := x.tag.toNat) (by rw [honly.jobOf]; exact hmore)
  refine answersCore_onPower (fun c => c.responseIn p.val x) (formed_of_wf hwf) hu (by rw [heq, d1, honly.req]; rfl) ?_
  rw [heq]
  refine ⟨d3.trans (by rw [honly.jobOf]; rfl), ?_⟩
  rw [show (d.pushDone j x.tag.toNat).portOf p.val = d.portOf p.val by rw [Core.portOf, d2, Core.portOf]]
  exact hsum3

/-- Settles O30: each turn is a send, a log entry and the source bytes below the new position; a failure counts or halts, and an answer
takes its transaction away. -/
theorem jobCells : Obligations.JobCells := by
  unfold Obligations.JobCells
  refine ⟨fun s j tag r o size k p hu hst hcan hm hp hfree hturn hnext hrate hformed hmore hq =>
      jobs_stream hu hst hcan hm hp hfree hturn hnext hrate hformed hmore hq,
    fun s j tag f p hu hst hcan hm hp hfree hturn hf hrate hq hcr => jobs_again hu hst hcan hm hp hfree hturn hf hrate hq hcr,
    fun s j tag p hu hst hcan hm hp hfree hturn hf hlen hdepth hrate hformed htag hq hcr =>
      jobs_new hu hst hcan hm hp hfree hturn hf hlen hdepth hrate hformed htag hq hcr,
    fun s j tag c2 b hu hst hcan hm hlen hrate hformed hpost => ?_, fun s j tag f hu hf hcan hlim => ?_,
    fun s j tag f hu hst hf hcan hlim => ?_, fun s j hu hst hcan hm hup hcr => ?_,
    fun s p x j h harg hfind hmore => jobs_answer h harg hfind hmore⟩
  · have heq : s.clear.core.jobSend j.val tag.toNat = s.clear.core.localNext j.val := jobSend_local hst hcan hm
    obtain ⟨h1, h2, h3, h4, h5⟩ := Core.localTurn (c := s.clear.core) (j := j.val) hlen hrate hformed hpost
    refine answersCore_onHub (fun c => c.jobSend j.val tag.toNat) rfl hu (by rw [heq, h5]; rfl) ?_
    rw [heq]
    exact ⟨h1, h2, h3, h4⟩
  · have heq := Core.pushFailed_again (c := s.clear.core) hf hcan hlim
    refine answersCore_onHub (fun c => c.pushTimeout j.val tag) rfl hu (by rw [Core.pushTimeout, heq]; rfl) ?_
    rw [Core.pushTimeout, heq, Core.jobOf_updJob_self]
    exact ⟨rfl, fun k => Core.get_updJob _ _ _ _⟩
  · have heq := Core.pushFailed_halts (c := s.clear.core) hf hcan hlim
    refine answersThen_onHub (fun c => c.pushTimeout j.val tag) rfl hu ?_
    rw [Core.pushTimeout, heq]
    exact Core.haltJob_facts (c := s.clear.core) j.isLt hst hcan
  · refine answersThen_onHub (fun c => c.jobStalled j.val) rfl hu ?_
    rw [Core.jobStalled_eq (c := s.clear.core) hm hup hcr]
    exact Core.haltJob_facts (c := s.clear.core) j.isLt hst hcan

end Sys2Proof.Machine
end

section
/-! PROOFS. Drain jobs as software starts and ends them, and their checkpoints (06_tailrace_drain_scanout.md R145 to R149, R157;
13_security_worlds.md R350 to R352). -/

namespace Sys2Proof.Machine
namespace Core

variable {c d e : Core} {j n : Nat}

/-! ## CANCEL (R149) -/

/-- The transactions that wait to be sent again are dropped. -/
def cancelled (c : Core) (j : Nat) : Core := c.updJob j fun s => { s with cancelling := true, flights := s.flights.filter fun f => !f.again }

theorem cancelled_facts (c : Core) (j : Nat) : ((c.cancelled j).jobOf j).cancelling = true ∧
    ((c.cancelled j).jobOf j).flights = (c.jobOf j).flights.filter (fun f => !f.again) ∧ ∀ k, (c.cancelled j).get k = c.get k := by
  refine ⟨?_, ?_, fun _ => rfl⟩ <;> rw [cancelled, jobOf_updJob_self]

theorem cancelJob_waits (h : c.jobLive j = true) (hf : (c.jobOf j).flights.filter (fun f => !f.again) ≠ []) : c.cancelJob j = c.cancelled j := by
  rw [cancelJob, h, if_neg (by decide)]
  exact if_neg (by rw [← cancelled, (cancelled_facts c j).2.1]; simpa using hf)

theorem cancelJob_ends (h : c.jobLive j = true) (hf : (c.jobOf j).flights.filter (fun f => !f.again) = []) :
    c.cancelJob j = (c.cancelled j).endJob j 4 := by
  rw [cancelJob, h, if_neg (by decide)]
  exact if_pos (by rw [← cancelled, (cancelled_facts c j).2.1, hf]; rfl)

/-- The result of a job that ends CANCELLED. -/
def endResult (c : Core) (j : Nat) : Core :=
  (((c.put (Obj.Job.STATE j) 4).put (Obj.Job.READY j) 1).flag (Obj.Job.FLAGS j) 1).put (Obj.Job.CREDIT_MW j) 0

/-- The job is over: its credit is back and its transactions are gone. -/
def endOver (c : Core) (j : Nat) : Core :=
  ((c.endResult j).release Ck.drain j).updJob j fun s =>
    { s with flights := [], cancelling := false, formed := [],
             lastKey := if c.get (Obj.Job.PROTECT j) ≠ 0 && s.digests ≠ [] then c.get (Obj.Job.KEY_SLOT j) else 0,
             lastTag := if c.get (Obj.Job.PROTECT j) ≠ 0 && s.digests ≠ [] then s.prevTag else 0 }

theorem endOver_facts (c : Core) (j : Nat) : (c.endOver j).get (Obj.Job.STATE j) = 4 ∧ (c.endOver j).get (Obj.Job.READY j) = 1 ∧
    (c.endOver j).get (Obj.Job.CREDIT_MW j) = 0 ∧ (c.endOver j).bitOf (Obj.Job.FLAGS j) 1 = true ∧ ((c.endOver j).jobOf j).flights = [] := by
  have hget : ∀ k, (c.endOver j).get k = (c.endResult j).get k := fun k => by
    rw [endOver, get_updJob]
    rfl
  refine ⟨?_, ?_, ?_, ?_, ?_⟩
  · rw [hget, endResult, get_put_ne _ _ (by simp), get_flag_ne _ _ (by simp), get_put_ne _ _ (by simp), get_put_self]
  · rw [hget, endResult, get_put_ne _ _ (by simp), get_flag_ne _ _ (by simp), get_put_self]
  · rw [hget, endResult, get_put_self]
  · rw [bitOf_congr 1 (hget _), endResult, bitOf_congr 1 (get_put_ne _ _ (by simp)), bitOf_flag_self]
  · rw [endOver, jobOf_updJob_self]

theorem endJob_cancelled (hk : c.get (Obj.Job.SRC_KIND j) ≠ 0) : c.endJob j 4 =
    if c.get (Obj.Job.PROTECT j) ≠ 0 then
      (c.endOver j).withCheckpoints ((c.endOver j).checkpoints ++ [(j, c.checkpoint j 4)]) else c.endOver j := by
  unfold endJob
  dsimp only
  rw [if_neg hk, if_neg (show ¬ (decide (4 = 3) && decide (c.get (Obj.Job.MODE j) = 2)) = true by simp),
    if_neg (show ¬ (4 = 3) by decide)]
  rfl

theorem endJob_facts (hk : c.get (Obj.Job.SRC_KIND j) ≠ 0) : (c.endJob j 4).get (Obj.Job.STATE j) = 4 ∧
    (c.endJob j 4).get (Obj.Job.READY j) = 1 ∧ (c.endJob j 4).get (Obj.Job.CREDIT_MW j) = 0 ∧
    (c.endJob j 4).bitOf (Obj.Job.FLAGS j) 1 = true ∧ ((c.endJob j 4).jobOf j).flights = [] := by
  rw [endJob_cancelled hk]
  have h := endOver_facts c j
  split
  · generalize c.endOver j = a at h
    exact h
  · exact h

/-! ## RESUME (R157) -/

/-- A halted job runs again. -/
def jobResumed (c : Core) (j : Nat) : Core :=
  ((c.put (Obj.Job.STATE j) 1).inc (Obj.Job.RESUMES j)).updJob j fun s =>
    { s with pos := if c.get (Obj.Job.MODE j) = 1 then planStart s.plan s.complete / 4096 * 4096
                    else if c.get (Obj.Job.MODE j) = 2 then s.pos else planStart s.plan s.complete }

theorem resumeJob_eq (hst : c.get (Obj.Job.STATE j) = 2) (hcause : c.get (Obj.Job.HALT_CAUSE j) ≠ 4)
    (hup : c.get (Obj.Job.MODE j) = 2 ∨ c.portUp (c.get (Obj.Job.PORT j)) = true) : c.resumeJob j = (.ok, c.jobResumed j) := by
  rw [resumeJob, if_neg (not_not.mpr hst), if_neg hcause, if_neg (by rcases hup with h | h <;> simp [h])]
  rfl

theorem jobResumed_facts (c : Core) (j : Nat) : (c.jobResumed j).get (Obj.Job.STATE j) = 1 ∧
    (c.jobResumed j).get (Obj.Job.RESUMES j) = min (c.get (Obj.Job.RESUMES j) + 1) (2 ^ 32 - 1) ∧
    (c.get (Obj.Job.MODE j) = 0 → ((c.jobResumed j).jobOf j).pos = planStart (c.jobOf j).plan (c.jobOf j).complete) ∧
    (c.get (Obj.Job.MODE j) = 1 → ((c.jobResumed j).jobOf j).pos = planStart (c.jobOf j).plan (c.jobOf j).complete / 4096 * 4096) ∧
    ∀ k, k ≠ Obj.Job.STATE j → k ≠ Obj.Job.RESUMES j → (c.jobResumed j).get k = c.get k := by
  have hjob : ((c.put (Obj.Job.STATE j) 1).inc (Obj.Job.RESUMES j)).jobOf j = c.jobOf j := by rw [inc, add, jobOf_put, jobOf_put]
  refine ⟨?_, ?_, fun hm => ?_, fun hm => ?_, fun k h1 h2 => ?_⟩
  · rw [jobResumed, get_updJob, get_inc_ne _ (by simp), get_put_self]
  · rw [jobResumed, get_updJob, get_inc_min, get_put_ne _ _ (by simp)]
  · rw [jobResumed, jobOf_updJob_self, hjob, hm]
    rfl
  · rw [jobResumed, jobOf_updJob_self, hjob, hm]
    rfl
  · rw [jobResumed, get_updJob, get_inc_ne _ h2, get_put_ne _ _ h1]

/-! ## Checkpoints (R350 to R352) -/

/-- A checkpoint with its number and signature. -/
def signedAs (c1 : Core) (body n : Nat) : Nat :=
  body + n <<< 2432 + (Config.ecdsaSign (BitVec.ofNat 384 (sha384 (toBytes 224 ((body + n <<< 2432) / 2 ^ 768)))) c1.drawn).toNat

/-- The signed checkpoint stands in CP_JOB. -/
def signed (c1 : Core) (j body n : Nat) (rest : List (Nat × Nat)) : Core :=
  (((c1.withDrawn (c1.drawn + 1)).withCheckpoints rest).put (Obj.Checkpoint.CP_JOB j) (c1.signedAs body n)).updJob j fun s =>
    { s with cpGen := field 2399 2384 (body + n <<< 2432), cpReady := true }

theorem signed_facts (c1 : Core) (j body n : Nat) (rest : List (Nat × Nat)) : (c1.signed j body n rest).checkpoints = rest ∧
    ((c1.signed j body n rest).jobOf j).cpReady = true ∧ (c1.signed j body n rest).get (Obj.Checkpoint.CP_JOB j) = c1.signedAs body n := by
  refine ⟨?_, ?_, ?_⟩
  · rw [signed]
    generalize c1.signedAs body n = v
    rfl
  · rw [signed, jobOf_updJob_self]
  · rw [signed, get_updJob, get_put_self]

theorem checkpointSigned_eq {body : Nat} {rest : List (Nat × Nat)} {c1 : Core} (hcp : c.checkpoints = (j, body) :: rest)
    (htake : c.takeReserved Hid.CP_NEXT Hid.CP_RESERVE (2 ^ 16) = some (n, c1)) : c.checkpointSigned j =
    if c.get Obj.CpFetch.SPILL_SLOTS = 0 then (c1.signed j body n rest).flag Obj.Sec.FLAGS 7
    else (c1.signed j body n rest).withSpill (Tbl.set (fun _ => 0)
      (if n % c.get Obj.CpFetch.SPILL_SLOTS % 8 = 0 then
        Tbl.drop (c1.signed j body n rest).spill fun i => i / 8 == n % c.get Obj.CpFetch.SPILL_SLOTS / 8
        else (c1.signed j body n rest).spill) (n % c.get Obj.CpFetch.SPILL_SLOTS) (c1.signedAs body n)) := by
  rw [checkpointSigned, hcp]
  dsimp only
  rw [if_neg (not_not.mpr rfl), htake]
  rfl

theorem checkpointSigned_facts {body : Nat} {rest : List (Nat × Nat)} {c1 : Core} (hcp : c.checkpoints = (j, body) :: rest)
    (htake : c.takeReserved Hid.CP_NEXT Hid.CP_RESERVE (2 ^ 16) = some (n, c1)) :
    (c.checkpointSigned j).checkpoints = rest ∧ ((c.checkpointSigned j).jobOf j).cpReady = true ∧
    (∃ sig : Nat, sig < 2 ^ 768 ∧ (c.checkpointSigned j).get (Obj.Checkpoint.CP_JOB j) = body + n <<< 2432 + sig) ∧
    (c.get Obj.CpFetch.SPILL_SLOTS ≠ 0 → (c.checkpointSigned j).spill.num (n % c.get Obj.CpFetch.SPILL_SLOTS) =
      (c.checkpointSigned j).get (Obj.Checkpoint.CP_JOB j)) := by
  obtain ⟨h1, h2, h3⟩ := signed_facts c1 j body n rest
  have hsig : ∃ sig : Nat, sig < 2 ^ 768 ∧ c1.signedAs body n = body + n <<< 2432 + sig := ⟨_, (Config.ecdsaSign _ _).isLt, rfl⟩
  rw [checkpointSigned_eq hcp htake]
  generalize c1.signed j body n rest = a at h1 h2 h3
  generalize c1.signedAs body n = v at h3 hsig
  split
  · next h0 =>
    refine ⟨?_, ?_, ?_, fun h => absurd h0 h⟩
    · rw [flag, checkpoints_put, h1]
    · rw [flag, jobOf_put, h2]
    · rw [get_flag_ne _ _ (by simp; omega), h3]
      exact hsig
  · refine ⟨h1, h2, ?_, fun _ => ?_⟩
    · rw [get_withSpill, h3]
      exact hsig
    · rw [get_withSpill, h3]
      exact Tbl.get_set_self _ _ _ _

theorem cpFetch_stored (hs : c.get Obj.CpFetch.SPILL_SLOTS ≠ 0) (hv : c.spill.num (n % c.get Obj.CpFetch.SPILL_SLOTS) ≠ 0)
    (hn : field 2495 2432 (c.spill.num (n % c.get Obj.CpFetch.SPILL_SLOTS)) = n) : c.cpFetch n =
    (.ok, (c.put Obj.CpFetch.CP_FETCH_SEQ n).put Obj.CpFetch.CP_FETCHED (c.spill.num (n % c.get Obj.CpFetch.SPILL_SLOTS))) := by
  rw [cpFetch, if_neg hs]
  exact if_pos (by simp [hv, hn])

theorem cpFetch_none (hs : c.get Obj.CpFetch.SPILL_SLOTS = 0) : c.cpFetch n = (.noRegion, c) := by
  rw [cpFetch, if_pos hs]
  exact if_neg (by simp)

end Core
end Sys2Proof.Machine
end

section
/-! PROOFS. START of a drain job (06_tailrace_drain_scanout.md R145 to R148): its credit, its result, its plan and the reads of its first
record. -/

namespace Sys2Proof.Machine
namespace Core

variable {c d e : Core} {i j n : Nat}

/-! ## Reads leave the job's credit alone (R161, R184) -/

/-- The credits of drain jobs that `c` holds stand in `d`. -/
def KeepsDrains (c d : Core) : Prop := ∀ j, c.holds Ck.drain j = true → d.holds Ck.drain j = true

theorem keepsDrains_of_sluice (h : d.sluice = c.sluice) : c.KeepsDrains d := fun j hj => by rwa [holds, h, ← holds]

theorem KeepsDrains.trans (h : c.KeepsDrains d) (h' : d.KeepsDrains e) : c.KeepsDrains e := fun j hj => h' j (h j hj)

theorem mem_dropCredit {kind owner : Nat} {x : Credit} {l : List Credit} (hx : x ∈ l) (hk : x.kind ≠ kind) : x ∈ dropCredit kind owner l := by
  induction l with
  | nil => exact hx
  | cons y l ih =>
    rw [dropCredit]
    rcases List.mem_cons.mp hx with rfl | hx
    · rw [if_neg fun h => hk h.1]
      exact List.mem_cons_self
    · split
      · exact hx
      · exact List.mem_cons_of_mem _ (ih hx)

theorem keepsDrains_release (c : Core) {kind : Nat} (owner : Nat) (hk : Ck.drain ≠ kind) : c.KeepsDrains (c.release kind owner) := fun j hj => by
  rw [holds, List.any_eq_true] at hj ⊢
  obtain ⟨x, hx, hxk⟩ := hj
  have hkind : x.kind = Ck.drain := by
    rw [Bool.and_eq_true, beq_iff_eq] at hxk
    exact hxk.1
  exact ⟨x, mem_dropCredit hx (hkind ▸ hk), hxk⟩

theorem keepsDrains_ite {b : Prop} [Decidable b] {x y : Core} (hx : c.KeepsDrains x) (hy : c.KeepsDrains y) :
    c.KeepsDrains (if b then x else y) := by
  split
  · exact hx
  · exact hy

theorem keepsDrains_stir (c : Core) (n : Nat) : c.KeepsDrains (c.stir n) := by
  have hself : c.KeepsDrains c := fun _ h => h
  have hset : ∀ m, c.KeepsDrains (c.setMc n m) := fun m => keepsDrains_of_sluice rfl
  have habandon : c.KeepsDrains (c.abandonEntry n) := by
    unfold abandonEntry
    dsimp only
    exact keepsDrains_ite (keepsDrains_ite ((hset _).trans (keepsDrains_release _ n (by decide))) (hset _)) (hset _)
  have hdemand : c.KeepsDrains (c.demandExit n) := by
    unfold demandExit
    exact keepsDrains_ite hself (keepsDrains_of_sluice rfl)
  unfold stir
  exact keepsDrains_ite (keepsDrains_ite hdemand hself) (keepsDrains_ite habandon hself)

theorem keepsDrains_request (c : Core) (r : Req64) : c.KeepsDrains (c.request r) := by
  unfold request
  refine (keepsDrains_of_sluice (d := c.updMc (c.dramOf r.ha).sc fun m => m.push { r with t := c.tick }) rfl).trans ?_
  exact (keepsDrains_stir _ _).trans (keepsDrains_of_sluice (rankOnly_wakeRank _ _ _).sluice)

/-! ## The reads of a record (R150) -/

/-- `d` differs from `c` in the memory's side, and in what has come of a job's record. -/
def Asked (j : Nat) (c d : Core) : Prop :=
  (∀ k, ¬ isMemKey k → d.get k = c.get k) ∧ c.KeepsDrains d ∧ (d.jobOf j).plan = (c.jobOf j).plan ∧ (d.jobOf j).pos = (c.jobOf j).pos ∧
    (d.jobOf j).complete = (c.jobOf j).complete ∧ (d.jobOf j).flights = (c.jobOf j).flights

theorem Asked.refl (j : Nat) (c : Core) : Asked j c c := ⟨fun _ _ => rfl, fun _ h => h, rfl, rfl, rfl, rfl⟩

theorem Asked.trans (h : Asked j c d) (h' : Asked j d e) : Asked j c e := by
  obtain ⟨h1, h2, h3, h4, h5, h6⟩ := h
  obtain ⟨k1, k2, k3, k4, k5, k6⟩ := h'
  exact ⟨fun k hk => (k1 k hk).trans (h1 k hk), h2.trans k2, k3.trans h3, k4.trans h4, k5.trans h5, k6.trans h6⟩

theorem asked_request (j : Nat) (c : Core) (r : Req64) : Asked j c (c.request r) := by
  have h := memOnly_request c r
  refine ⟨fun k hk => h.get hk, keepsDrains_request c r, ?_, ?_, ?_, ?_⟩ <;> rw [h.jobOf]

theorem asked_foldl {α : Type} (l : List α) {f : Core → α → Core} (hf : ∀ (c : Core) (a : α), Asked j c (f c a)) (c : Core) :
    Asked j c (l.foldl f c) := by
  induction l generalizing c with
  | nil => exact .refl j c
  | cons a l ih => exact (hf c a).trans (ih _)

theorem asked_askRecord (c : Core) (j : Nat) : Asked j c (c.askRecord j) := by
  unfold askRecord
  dsimp only
  split
  · exact .refl j c
  · refine Asked.trans (d := c.updJob j _) ⟨fun k _ => get_updJob c k j _, keepsDrains_of_sluice rfl, ?_, ?_, ?_, ?_⟩
      (asked_foldl _ (fun c i => ?_) _)
    · rw [jobOf_updJob_self]
    · rw [jobOf_updJob_self]
    · rw [jobOf_updJob_self]
    · rw [jobOf_updJob_self]
    · split
      · exact asked_request j c _
      · exact .refl j c

/-! ## The result of a new job (R145) -/

/-- The objects of the result that a new generation begins at zero. -/
def clearedResult (c : Core) (j : Nat) : Core :=
  (jobResultKeys j).foldl (fun k o => if o = Obj.Job.GEN j ∨ o = Obj.Job.READY j then k else k.put o 0)
    (c.keepShown (Obj.Job.READY j) (jobResultKeys j))

theorem mem_jobResultKeys (j k : Nat) : k ∈ jobResultKeys j ↔ 0x340017 + 0x100 * j ≤ k ∧ k < 0x340017 + 0x100 * j + 12 := by
  simp only [jobResultKeys, List.mem_map, List.mem_range]
  constructor
  · rintro ⟨i, hi, rfl⟩
    omega
  · rintro ⟨h1, h2⟩
    exact ⟨k - (0x340017 + 0x100 * j), by omega, by omega⟩

theorem get_foldl_clear (j : Nat) (l : List Nat) (c : Core) {k : Nat} :
    (k ∉ l → (l.foldl (fun k o => if o = Obj.Job.GEN j ∨ o = Obj.Job.READY j then k else k.put o 0) c).get k = c.get k) ∧
    (k ≠ Obj.Job.GEN j → k ≠ Obj.Job.READY j → (k ∈ l ∨ c.get k = 0) →
      (l.foldl (fun k o => if o = Obj.Job.GEN j ∨ o = Obj.Job.READY j then k else k.put o 0) c).get k = 0) ∧
    (l.foldl (fun k o => if o = Obj.Job.GEN j ∨ o = Obj.Job.READY j then k else k.put o 0) c).sluice = c.sluice := by
  induction l generalizing c with
  | nil => exact ⟨fun _ => rfl, fun _ _ h => h.resolve_left List.not_mem_nil, rfl⟩
  | cons o l ih =>
    obtain ⟨h1, h2, h3⟩ := ih (if o = Obj.Job.GEN j ∨ o = Obj.Job.READY j then c else c.put o 0)
    refine ⟨fun hk => ?_, fun g r hk => ?_, ?_⟩
    · obtain ⟨hko, hkl⟩ : k ≠ o ∧ k ∉ l := by simpa using hk
      refine (h1 hkl).trans ?_
      split
      · rfl
      · exact get_put_ne _ _ hko
    · refine h2 g r ?_
      by_cases hko : k = o
      · subst hko
        rw [if_neg (not_or.mpr ⟨g, r⟩), get_put_self]
        exact .inr rfl
      · refine hk.imp (fun h => ?_) fun h => ?_
        · simpa [hko] using h
        · split
          · exact h
          · rw [get_put_ne _ _ hko, h]
    · rw [List.foldl_cons, h3]
      split
      · rfl
      · exact sluice_put _ _ _

theorem clearedResult_facts (c : Core) (j : Nat) : (c.clearedResult j).get (Obj.Job.BYTES j) = 0 ∧ (c.clearedResult j).sluice = c.sluice := by
  have hshown : (c.keepShown (Obj.Job.READY j) (jobResultKeys j)).sluice = c.sluice := by
    unfold keepShown
    split
    · rfl
    · rfl
  obtain ⟨-, h2, h3⟩ := get_foldl_clear j (jobResultKeys j) (c.keepShown (Obj.Job.READY j) (jobResultKeys j)) (k := Obj.Job.BYTES j)
  refine ⟨h2 (by simp) (by simp) (.inl ?_), h3.trans hshown⟩
  rw [mem_jobResultKeys]
  simp only [Obj.Job.BYTES]
  omega

/-- The job as a START fixes it. -/
def startedJob (c : Core) (j : Nat) (q : JobState) : JobState :=
  { q with
    run := q.run + 1, asked := false, got := [], next := 0, complete := 0, formed := [], pos := 0, flights := [], cancelling := false, sentLog := [],
    prevTag := if c.get (Obj.Job.PROTECT j) ≠ 0 && q.lastKey = c.get (Obj.Job.KEY_SLOT j) && c.get (Obj.Job.KEY_SLOT j) ≠ 0 then q.lastTag else 0,
    digests := [], digestBytes := 0, started := c.hubTime % 2 ^ 96,
    cpReady := if c.get (Obj.Job.PROTECT j) ≠ 0 then false else q.cpReady }

/-- The registers of a job that runs. -/
def runningJob (c : Core) (j mw : Nat) (q : JobState) : Core :=
  (((((((c.clearedResult j).put (Obj.Job.STATE j) 1).put (Obj.Job.GEN j) (nextGen (c.get (Obj.Job.GEN j)))).put (Obj.Job.READY j) 0).put
    (Obj.Job.CREDIT_MW j) mw).put (Obj.Job.SOURCE_GEN j) (c.sourceGen j q)).put (Obj.Job.PROGRESS j) 0).updJob j fun _ => c.startedJob j q

/-- A window that is drained says so. -/
def drainedWindow (c a : Core) (j : Nat) : Core :=
  if c.get (Obj.Job.SRC_KIND j) = 0 then a.put (Obj.Window.STATE (c.get (Obj.Job.SOURCE j))) 4 else a

theorem beginJob_eq (c : Core) (j mw : Nat) (q : JobState) : c.beginJob j mw q = (c.drainedWindow (c.runningJob j mw q) j).askRecord j := rfl

theorem runningJob_facts (c : Core) (j mw : Nat) (q : JobState) : (c.runningJob j mw q).get (Obj.Job.STATE j) = 1 ∧
    (c.runningJob j mw q).get (Obj.Job.READY j) = 0 ∧ (c.runningJob j mw q).get (Obj.Job.GEN j) = nextGen (c.get (Obj.Job.GEN j)) ∧
    (c.runningJob j mw q).get (Obj.Job.CREDIT_MW j) = mw ∧ (c.runningJob j mw q).get (Obj.Job.PROGRESS j) = 0 ∧
    (c.runningJob j mw q).get (Obj.Job.BYTES j) = 0 ∧ (c.runningJob j mw q).jobOf j = c.startedJob j q ∧
    (c.runningJob j mw q).sluice = c.sluice := by
  obtain ⟨h1, h2⟩ := clearedResult_facts c j
  unfold runningJob
  generalize c.clearedResult j = a at h1 h2
  refine ⟨?_, ?_, ?_, ?_, ?_, ?_, ?_, ?_⟩
  · simp [get_put_ne]
  · simp [get_put_ne]
  · simp [get_put_ne]
  · simp [get_put_ne]
  · simp
  · simpa [get_put_ne] using h1
  · rw [jobOf_updJob_self]
  · simpa using h2

end Core
end Sys2Proof.Machine
end

section
/-! PROOFS. The statement of drain jobs as software starts and ends them (06_tailrace_drain_scanout.md R145 to R149, R157;
13_security_worlds.md R350 to R352), clause by clause. -/

namespace Sys2Proof.Machine
namespace Core

variable {c : Core} {j mw : Nat}

theorem drainedWindow_facts (c a : Core) (j : Nat) (hs : c.get (Obj.Job.SRC_KIND j) = 0 → c.get (Obj.Job.SOURCE j) < 64) :
    (∀ k, 0x340000 ≤ k → (c.drainedWindow a j).get k = a.get k) ∧
    (c.get (Obj.Job.SRC_KIND j) = 0 → (c.drainedWindow a j).get (Obj.Window.STATE (c.get (Obj.Job.SOURCE j))) = 4) ∧
    (c.drainedWindow a j).sluice = a.sluice ∧ (c.drainedWindow a j).jobOf j = a.jobOf j := by
  unfold drainedWindow
  split
  · next hk =>
    have := hs hk
    exact ⟨fun k hk => get_put_ne _ _ (by simp only [Obj.Window.STATE]; omega), fun _ => get_put_self _ _ _, sluice_put _ _ _, jobOf_put _ _ _ _⟩
  · next hk => exact ⟨fun _ _ => rfl, fun h => absurd h hk, rfl, rfl⟩

/-- What a job that has begun shows (R145, R147). -/
theorem beginJob_facts (c : Core) {j : Nat} (hj : j < 32) (mw : Nat) (q : JobState)
    (hs : c.get (Obj.Job.SRC_KIND j) = 0 → c.get (Obj.Job.SOURCE j) < 64) (hh : c.holds Ck.drain j = true) :
    (c.beginJob j mw q).get (Obj.Job.STATE j) = 1 ∧ (c.beginJob j mw q).get (Obj.Job.READY j) = 0 ∧
    (c.beginJob j mw q).get (Obj.Job.GEN j) = nextGen (c.get (Obj.Job.GEN j)) ∧ (c.beginJob j mw q).get (Obj.Job.CREDIT_MW j) = mw ∧
    (c.beginJob j mw q).get (Obj.Job.PROGRESS j) = 0 ∧ (c.beginJob j mw q).get (Obj.Job.BYTES j) = 0 ∧
    (c.get (Obj.Job.SRC_KIND j) = 0 → (c.beginJob j mw q).get (Obj.Window.STATE (c.get (Obj.Job.SOURCE j))) = 4) ∧
    ((c.beginJob j mw q).jobOf j).plan = q.plan ∧ ((c.beginJob j mw q).jobOf j).pos = 0 ∧ ((c.beginJob j mw q).jobOf j).complete = 0 ∧
    ((c.beginJob j mw q).jobOf j).flights = [] ∧ (c.beginJob j mw q).holds Ck.drain j = true := by
  obtain ⟨r1, r2, r3, r4, r5, r6, r7, r8⟩ := runningJob_facts c j mw q
  rw [beginJob_eq]
  generalize c.runningJob j mw q = a at r1 r2 r3 r4 r5 r6 r7 r8
  obtain ⟨w1, w2, w3, w4⟩ := drainedWindow_facts c a j hs
  generalize c.drainedWindow a j = b at w1 w2 w3 w4
  obtain ⟨s1, s2, s3, s4, s5, s6⟩ := asked_askRecord b j
  have hjob : b.jobOf j = c.startedJob j q := w4.trans r7
  have hget : ∀ i, i < 256 → (b.askRecord j).get ((0x3400 + j) * 0x100 + i) = a.get ((0x3400 + j) * 0x100 + i) := fun i hi =>
    (s1 _ (by simp only [isMemKey, isSluiceKey]; omega)).trans (w1 _ (by omega))
  refine ⟨(hget 0x01 (by decide)).trans r1, (hget 0x19 (by decide)).trans r2, (hget 0x18 (by decide)).trans r3,
    (hget 0x15 (by decide)).trans r4, (hget 0x23 (by decide)).trans r5, (hget 0x1B (by decide)).trans r6, fun hk => ?_, ?_, ?_, ?_, ?_,
    s2 j ?_⟩
  · have := hs hk
    exact (s1 _ (by simp only [isMemKey, isSluiceKey, Obj.Window.STATE]; omega)).trans (w2 hk)
  · rw [s3, hjob]
    rfl
  · rw [s4, hjob]
    rfl
  · rw [s5, hjob]
    rfl
  · rw [s6, hjob]
    rfl
  · rwa [holds, w3, r8, ← holds]

/-- The job's credit is granted. -/
def jobGranted (c : Core) (j : Nat) : Core := c.grantCredit { kind := Ck.drain, owner := j, mw := c.jobCredit j, forced := false }

theorem startJob_eq {sb : Bool} {w : World} {q : JobState} (hlive : c.jobLive j = false) (hin : c.inService = true)
    (hranges : c.jobRanges j = true) (hsrc : c.jobSource j = .ok q) (hrefuse : c.jobRefusal sb j w q = none)
    (hadm : c.admits (c.jobCredit j) = true) : c.startJob sb j w =
    (.ok, (c.jobGranted j).beginJob j (c.jobCredit j) q) := by
  rw [startJob, hlive, hin, if_neg (by decide), hranges, if_neg (by decide), hsrc]
  dsimp only
  rw [hrefuse]
  dsimp only
  rw [askNow_of_admits _ _ _ hadm]
  rfl

/-- A window source is one of the 64 windows. -/
theorem source_lt_of_jobRanges (h : c.jobRanges j = true) (hk : c.get (Obj.Job.SRC_KIND j) = 0) : c.get (Obj.Job.SOURCE j) < 64 := by
  rw [jobRanges, hk] at h
  simp only [Bool.and_eq_true, decide_eq_true_eq, and_assoc] at h
  obtain ⟨-, -, -, -, hsource, -⟩ := h
  exact hsource

theorem startJob_facts (q : JobState) (hj : j < 32) (hranges : c.jobRanges j = true) :
    ((c.jobGranted j).beginJob j (c.jobCredit j) q).get (Obj.Job.STATE j) = 1 ∧
    ((c.jobGranted j).beginJob j (c.jobCredit j) q).get (Obj.Job.READY j) = 0 ∧
    ((c.jobGranted j).beginJob j (c.jobCredit j) q).get (Obj.Job.GEN j) = nextGen (c.get (Obj.Job.GEN j)) ∧
    ((c.jobGranted j).beginJob j (c.jobCredit j) q).get (Obj.Job.CREDIT_MW j) = c.jobCredit j ∧
    ((c.jobGranted j).beginJob j (c.jobCredit j) q).get (Obj.Job.PROGRESS j) = 0 ∧
    ((c.jobGranted j).beginJob j (c.jobCredit j) q).get (Obj.Job.BYTES j) = 0 ∧
    (c.get (Obj.Job.SRC_KIND j) = 0 →
      ((c.jobGranted j).beginJob j (c.jobCredit j) q).get (Obj.Window.STATE (c.get (Obj.Job.SOURCE j))) = 4) ∧
    (((c.jobGranted j).beginJob j (c.jobCredit j) q).jobOf j).plan = q.plan ∧
    (((c.jobGranted j).beginJob j (c.jobCredit j) q).jobOf j).pos = 0 ∧
    (((c.jobGranted j).beginJob j (c.jobCredit j) q).jobOf j).complete = 0 ∧
    (((c.jobGranted j).beginJob j (c.jobCredit j) q).jobOf j).flights = [] ∧
    ((c.jobGranted j).beginJob j (c.jobCredit j) q).holds Ck.drain j = true := by
  have honly : c.SluiceOnly (c.jobGranted j) := sluiceOnly_grantCredit c _
  have hholds : (c.jobGranted j).holds Ck.drain j = true := holds_grantCredit c _ _ _ false
  have hget : ∀ i, i < 256 → (c.jobGranted j).get ((0x3400 + j) * 0x100 + i) = c.get ((0x3400 + j) * 0x100 + i) := fun i hi =>
    honly.get (by simp only [isSluiceKey]; omega)
  have hkind : (c.jobGranted j).get (Obj.Job.SRC_KIND j) = c.get (Obj.Job.SRC_KIND j) := hget 3 (by decide)
  have hsource : (c.jobGranted j).get (Obj.Job.SOURCE j) = c.get (Obj.Job.SOURCE j) := hget 4 (by decide)
  have hgen : (c.jobGranted j).get (Obj.Job.GEN j) = c.get (Obj.Job.GEN j) := hget 0x18 (by decide)
  generalize c.jobGranted j = a at hholds hkind hsource hgen
  have h := beginJob_facts a hj (c.jobCredit j) q (fun hk => by
    rw [hsource]
    exact source_lt_of_jobRanges hranges (hkind ▸ hk)) hholds
  rwa [hkind, hsource, hgen] at h

end Core

variable {s : State} {j : JobNo} {w : World}

theorem Core.writeValue_job (c : Core) (f : Fuses) (v : World) {l : Nat} (sub : Nat) (bs : List Byte) (h : l < 32) :
    c.writeValue f v (0x3400 + l) sub bs = c.writeJob f l sub (ofBytes bs) v := by
  have hn : 0x3400 + l - 0x3400 = l := by omega
  simp (disch := omega) only [Core.writeValue, Bool.and_eq_true, decide_eq_true_eq, if_neg, if_pos]
  rw [hn]

/-- A write of 1 to an object of a job that acts. -/
theorem answersOk_job {i : Instr} {P : Core → Prop} {c : Core} {sub : Nat} {r : Row}
    (hi : exec i s = .next (s.writeNum w ((0x3400 + j.val) * 0x100 + sub) 1)) (hadm : Admits s w ((0x3400 + j.val) * 0x100 + sub) 1)
    (hs : sub < 256) (hn : sub ≠ 0) (h : (⟨0x3400, 1, 32, 0, Obj.Job.rows⟩ : Group).row? sub = some r) (hrow : ∀ a b, r.chk ≠ .w1c a b)
    (hw : s.clear.core.writeJob s.fuses j.val sub 1 w = (.ok, c)) (hp : P (c.emit (.status .ok))) : AnswersOk i s P := by
  have hidx : ((0x3400 + j.val) * 0x100 + sub) / 256 = 0x3400 + j.val := by omega
  have hsub : ((0x3400 + j.val) * 0x100 + sub) % 256 = sub := by omega
  refine answersOk_writeNum hi hadm ?_ (by rw [hidx, hsub, coreObject]; omega) ?_ hp
  · rw [hidx, hsub]
    exact clearableOf_of_lookup ((lookup_job hn j.isLt).trans h) hrow
  · rw [hidx, hsub, Core.writeValue_job _ _ _ _ _ j.isLt, ofBytes_toBytes_of_fits hadm.2.1, hw]

theorem Core.writeValue_cp (c : Core) (f : Fuses) (v : World) (sub : Nat) (bs : List Byte) :
    c.writeValue f v 0x5041 sub bs = c.writeCp sub (ofBytes bs) := by
  simp (disch := omega) only [Core.writeValue, Bool.and_eq_true, decide_eq_true_eq, if_neg]
  exact if_pos trivial

theorem clearableOf_cpFetch : clearableOf (Obj.CpFetch.CP_FETCH_SEQ / 256) (Obj.CpFetch.CP_FETCH_SEQ % 256) = none := by decide +kernel

theorem writeValue_cpFetch {v : Nat} (hadm : Admits s w Obj.CpFetch.CP_FETCH_SEQ v) : s.clear.core.writeValue s.fuses w
    (Obj.CpFetch.CP_FETCH_SEQ / 256) (Obj.CpFetch.CP_FETCH_SEQ % 256) (toBytes (sizeOf Obj.CpFetch.CP_FETCH_SEQ) v) = s.clear.core.cpFetch v := by
  have h := Core.writeValue_cp s.clear.core s.fuses w 1 (toBytes (sizeOf Obj.CpFetch.CP_FETCH_SEQ) v)
  rw [ofBytes_toBytes_of_fits hadm.2.1] at h
  exact h

/-- Settles O29: START, CANCEL and RESUME write the job's registers by equations of their own; a checkpoint takes the next number and
stands in its slot. -/
theorem jobControl : Obligations.JobControl := by
  unfold Obligations.JobControl
  refine ⟨fun s j w q hadm hlive hin hranges hsrc hrefuse hcredit => ?_, fun s j w hadm hlive hf => ?_, fun s j w hadm hlive hf hk => ?_,
    fun s j w hadm hst hcause hup => ?_, fun s j body n rest c1 hu hcp htake => ?_, fun s w v hadm hslots hv hn => ?_,
    fun s w v hadm hslots => ?_⟩
  · have hstart := Core.startJob_eq (c := s.clear.core) hlive hin hranges hsrc hrefuse hcredit
    have hfacts := Core.startJob_facts (c := s.clear.core) q j.isLt hranges
    generalize (s.clear.core.jobGranted j.val).beginJob j.val (s.clear.core.jobCredit j.val) q = a at hstart hfacts
    exact answersOk_job rfl hadm (by decide) (by decide) rfl (by simp) hstart hfacts
  · exact answersOk_job rfl hadm (by decide) (by decide) rfl (by simp)
      (congrArg (fun c => (Status.ok, c)) (Core.cancelJob_waits (c := s.clear.core) hlive hf)) (Core.cancelled_facts s.clear.core j.val)
  · have hjob := (Core.cancelled_facts s.clear.core j.val).2.2 (Obj.Job.SRC_KIND j.val)
    exact answersOk_job rfl hadm (by decide) (by decide) rfl (by simp)
      (congrArg (fun c => (Status.ok, c)) (Core.cancelJob_ends (c := s.clear.core) hlive hf)) (Core.endJob_facts (by rw [hjob]; exact hk))
  · exact answersOk_job rfl hadm (by decide) (by decide) rfl (by simp) (Core.resumeJob_eq (c := s.clear.core) hst hcause hup)
      (Core.jobResumed_facts s.clear.core j.val)
  · exact answersThen_onHub (fun c => c.checkpointSigned j.val) rfl hu (Core.checkpointSigned_facts (c := s.clear.core) hcp htake)
  · refine answersOk_writeNum rfl hadm clearableOf_cpFetch (by decide)
      ((writeValue_cpFetch hadm).trans (Core.cpFetch_stored (c := s.clear.core) hslots hv hn)) ⟨?_, ?_, fun k h1 h2 => ?_⟩
    · rw [Core.get_emit, Core.get_put_ne _ _ (by decide), Core.get_put_self]
    · rw [Core.get_emit, Core.get_put_self]
      rfl
    · rw [Core.get_emit, Core.get_put_ne _ _ h2, Core.get_put_ne _ _ h1]
      rfl
  · exact answersThen_writeNum rfl hadm clearableOf_cpFetch (by decide)
      ((writeValue_cpFetch hadm).trans (Core.cpFetch_none (c := s.clear.core) hslots)) ⟨by simp, fun _ => rfl⟩

end Sys2Proof.Machine
end

section
/-! PROOFS. Requests of Lareri Object Access by UDP (14_object_dictionary.md R361 to R370): how an arrival reaches its session, what a
counted request leaves of the session, and what the session keeps of its reply. -/

namespace Sys2Proof.Machine

/-! ## OP of a message (R361) -/

theorem ofBytes_cons (b : Byte) (l : List Byte) : ofBytes (b :: l) = b.toNat * 256 ^ l.length + ofBytes l := by
  unfold ofBytes
  rw [List.foldl_cons, ofBytes_foldl, Nat.zero_mul, Nat.zero_add]

theorem ofBytes_lt (l : List Byte) : ofBytes l < 256 ^ l.length := by
  induction l with
  | nil => exact Nat.one_pos
  | cons b l ih =>
    have hb : b.toNat + 1 ≤ 256 := b.isLt
    calc ofBytes (b :: l) < b.toNat * 256 ^ l.length + 256 ^ l.length := by rw [ofBytes_cons]; omega
      _ = (b.toNat + 1) * 256 ^ l.length := by ring
      _ ≤ 256 * 256 ^ l.length := Nat.mul_le_mul_right _ hb
      _ = 256 ^ (b :: l).length := by rw [List.length_cons, pow_succ]; ring

/-- OP is the low half of the first byte. -/
theorem loaParse_op (b : Byte) (l : List Byte) : (loaParse (b :: l)).op = b.toNat % 16 := by
  have hlen : ((l ++ List.replicate 24 0).take 23 : List Byte).length = 23 := by
    rw [List.length_take, List.length_append, List.length_replicate]
    omega
  have hlt := ofBytes_lt ((l ++ List.replicate 24 0).take 23)
  have hop : (loaParse (b :: l)).op = field 187 184 (ofBytes (b :: (l ++ List.replicate 24 0).take 23)) := rfl
  rw [hop, ofBytes_cons, field, Nat.shiftRight_eq_div_pow]
  rw [hlen] at hlt ⊢
  omega

/-- A datagram is an OPEN as its OP says. -/
theorem opens_udp {addr : Nat} {port : BitVec 16} {bs : List Byte} (h : (LoaArrival.udp addr port true bs).opens = false)
    (hlen : bs ≠ []) : (loaParse bs).op ≠ 4 := by
  cases bs with
  | nil => exact absurd rfl hlen
  | cons b l =>
    rw [loaParse_op]
    simpa [LoaArrival.opens, LoaArrival.message] using h

/-! ## An arrival reaches its session (R364 to R368) -/

/-- The path of a datagram. -/
abbrev udpPath (addr : Nat) (port : BitVec 16) : LoaPath := { udp := true, a := addr, b := port.toNat }

section
variable {s : State} {addr : Nat} {port : BitVec 16} {bs : List Byte}

theorem Asked.op_ne_open (h : Asked s addr port bs) : (loaParse bs).op ≠ 4 :=
  opens_udp h.2.2.2.1 fun hnil => by
    have := h.2.2.1
    rw [hnil] at this
    simp at this

theorem Asked.sessionHere (h : Asked s addr port bs) : s.core.sessionHere (udpPath addr port) (loaParse bs).session = true := by
  obtain ⟨-, -, -, -, -, -, hlo, hhi, hopen, -⟩ := h
  simp [Core.sessionHere, hopen, hlo, hhi]

/-- A request whose seal holds is taken up with its data deciphered. -/
theorem State.loaMessage_asked (h : Asked s addr port bs) (nh : Nat) : s.loaMessage (udpPath addr port) bs nh =
    s.loaRequest (udpPath addr port) ((s.core.sessionOf (loaParse bs).session).opened (loaParse bs)) nh := by
  have hhere := h.sessionHere
  obtain ⟨-, hserved, hlen, -, -, hreply, -, -, -, haddr, hport, hsealed⟩ := h
  have hforeign : s.core.foreign (udpPath addr port) (loaParse bs).session = false := by
    simp [Core.foreign, haddr, hport]
  have hpass : ¬ (!s.core.loaServed || decide (bs.length < 9) || s.core.foreign (udpPath addr port) (loaParse bs).session) = true := by
    simp [hserved, hforeign, hlen]
  unfold State.loaMessage
  dsimp only
  rw [if_neg hpass, if_neg (by rw [hreply]; decide), hhere, Bool.true_and]
  cases hsec : (s.core.sessionOf (loaParse bs).session).secure with
  | false => rw [Session.opened_of_not_secure _ hsec, if_neg (by decide)]
  | true => rw [Session.opened_of_secure _ hsec, if_pos rfl, if_pos (hsealed hsec)]

theorem Session.opened_eq (x : Session) (m : LoaMsg) : x.opened m = { m with body := (x.opened m).body } := by
  rw [Session.opened]
  split <;> rfl

@[simp] theorem Session.session_opened (x : Session) (m : LoaMsg) : (x.opened m).session = m.session := by
  rw [Session.opened_eq]

@[simp] theorem Session.op_opened (x : Session) (m : LoaMsg) : (x.opened m).op = m.op := by
  rw [Session.opened_eq]

@[simp] theorem Session.seq_opened (x : Session) (m : LoaMsg) : (x.opened m).seq = m.seq := by
  rw [Session.opened_eq]

@[simp] theorem Session.tagged_opened (x : Session) (m : LoaMsg) : (x.opened m).tagged = m.tagged := by
  rw [Session.opened_eq]

@[simp] theorem Session.bad_opened (x : Session) (m : LoaMsg) (p : LoaPath) : (x.opened m).bad p = m.bad p := by
  rw [Session.opened_eq]
  rfl

/-- A reply names its request and says nothing of the request's data. -/
@[simp] theorem replyBytes_opened (x y : Session) (m : LoaMsg) (r : Reply) : replyBytes x (y.opened m) r = replyBytes x m r := by
  rw [Session.opened_eq]
  rfl

/-- A request that is neither OPEN nor AUTH goes on under its SEQ. -/
theorem State.loaMessage_seq (h : Asked s addr port bs) (h5 : (loaParse bs).op ≠ 5)
    (htag : (loaParse bs).tagged = true → (s.core.sessionOf (loaParse bs).session).secure = true) (nh : Nat) :
    s.loaMessage (udpPath addr port) bs nh = s.loaSeq (udpPath addr port) (loaParse bs).session
      ((s.core.sessionOf (loaParse bs).session).opened (loaParse bs)) := by
  have hhere := h.sessionHere
  have h4 := h.op_ne_open
  rw [State.loaMessage_asked h]
  obtain ⟨-, -, -, -, hbad, -⟩ := h
  rw [State.loaRequest_udp _ nh rfl (by simpa using hbad) (by simpa using h4) (by simpa using h5) (by simpa using hhere)
    (by simpa using htag), Session.session_opened]

/-- What a datagram that is no OPEN does, once its session has it. -/
theorem loaRow_udp {u : State} (hup : s.core.seqUp = true) (hserved : s.core.loaServed = true)
    (hopens : (LoaArrival.udp addr port true bs).opens = false) (hu : s.clear.loaMessage (udpPath addr port) bs 0 = u) :
    loaRow (.udp addr port true bs) s = .next u.settle := by
  have hserved' : s.clear.core.loaServed = true := hserved
  have harrival : s.clear.loaArrival (.udp addr port true bs) 0 = u := by
    rw [← hu]
    simp [State.loaArrival, hserved']
  rw [loaRow, formed_of_wf (by simp [LoaArrival.wf, hopens]), State.loaIn, State.when, hup, State.act, harrival]
  rfl

variable {i : Instr} {P : Core → Prop} {c : Core}

/-- A command whose message leaves the hub's engines as `c`, which asks nothing of other blocks. -/
theorem answersCore_loaMessage (hi : exec i s = loaRow (.udp addr port true bs) s) (hup : s.core.seqUp = true)
    (hserved : s.core.loaServed = true) (hopens : (LoaArrival.udp addr port true bs).opens = false)
    (hu : s.clear.loaMessage (udpPath addr port) bs 0 = { s.clear with core := c }) (hreq : c.req = []) (hp : P c) :
    AnswersCore i s P := by
  refine ⟨c, ?_, hp⟩
  rw [hi, loaRow_udp hup hserved hopens hu, State.settle_of_req_nil _ hreq]
  rfl

theorem answersCore_loaSeq (hi : exec i s = loaRow (.udp addr port true bs) s) (h : Asked s addr port bs) (h5 : (loaParse bs).op ≠ 5)
    (htag : (loaParse bs).tagged = true → (s.core.sessionOf (loaParse bs).session).secure = true)
    (hu : s.clear.loaSeq (udpPath addr port) (loaParse bs).session
      ((s.core.sessionOf (loaParse bs).session).opened (loaParse bs)) = { s.clear with core := c })
    (hreq : c.req = []) (hp : P c) : AnswersCore i s P := by
  have hclear : Asked s.clear addr port bs := h
  refine answersCore_loaMessage hi h.1 h.2.1 h.2.2.2.1 ?_ hreq hp
  rw [State.loaMessage_seq hclear h5 htag]
  exact hu

end

/-! ## What a request that is counted leaves of its session (R372) -/

namespace Core

variable {c : Core} {n : Nat}

@[simp] theorem sessionOf_inc (c : Core) (k i : Nat) : (c.inc k).sessionOf i = c.sessionOf i := rfl
@[simp] theorem sessionOf_inc64 (c : Core) (k i : Nat) : (c.inc64 k).sessionOf i = c.sessionOf i := rfl
@[simp] theorem sessionOf_flag (c : Core) (k j i : Nat) : (c.flag k j).sessionOf i = c.sessionOf i := rfl

theorem sessionOf_dropPart (c : Core) (n : Nat) : (c.dropPart n).sessionOf n = { c.sessionOf n with part := none } := by
  unfold dropPart
  split
  · rw [sessionOf_flag, sessionOf_updSession_self]
  · next h =>
    have hnone : (c.sessionOf n).part = none := by simpa using h
    rw [← hnone]

theorem sessionOf_dropPart_ne (c : Core) {n i : Nat} (h : i ≠ n) : (c.dropPart n).sessionOf i = c.sessionOf i := by
  unfold dropPart
  split
  · rw [sessionOf_flag, sessionOf_updSession_ne _ _ h]
  · rfl

theorem get_dropPart (c : Core) (n : Nat) {k : Nat} (h : k ≠ Obj.Loa.FLAGS) : (c.dropPart n).get k = c.get k := by
  unfold dropPart
  split
  · rw [get_flag_ne _ _ h, get_updSession]
  · rfl

theorem out_dropPart (c : Core) (n : Nat) : (c.dropPart n).out = c.out := by
  unfold dropPart
  split
  · rfl
  · rfl

theorem req_dropPart (c : Core) (n : Nat) : (c.dropPart n).req = c.req := by
  unfold dropPart
  split
  · rfl
  · rfl

/-- What a reply by UDP leaves unchanged. -/
theorem sendLoa_udp (c : Core) (addr : Nat) (port : BitVec 16) (vc : Nat) (bs : List Byte) :
    c.sendLoa (udpPath addr port) vc bs = c.emit (.udp addr port.toNat bs) := by
  rw [sendLoa, if_pos rfl]

end Core

/-! ## A session keeps the reply to a SEQ (R370) -/

namespace Session

variable {x : Session} {seq : Nat} (bs : List Byte)

theorem keep_closed : Session.closed.keep seq bs = Session.closed := by
  rw [keep, if_neg (by decide)]

theorem top_keep (h : x.isOpen = true) : (x.keep seq bs).top = max x.top seq := by
  rw [keep, if_pos h]

/-- A SEQ that no reply was held for is answered with its reply from then on. -/
theorem held_keep (h : x.isOpen = true) (hseq : seqRefused x.top seq = false) (hheld : x.held seq = none) :
    (x.keep seq bs).held seq = some bs := by
  have hnone : ∀ e ∈ x.replies, ¬ (e.1 == seq) = true := List.find?_eq_none.mp (Option.map_eq_none_iff.mp hheld)
  have hwin : x.top < seq + 16 := by
    simp only [seqRefused, Bool.or_eq_false_iff, decide_eq_false_iff_not] at hseq
    omega
  have hfind : ((x.replies ++ [(seq, bs)]).filter fun e => decide (max x.top seq < e.1 + 16)).find? (fun e => e.1 == seq) = some (seq, bs) := by
    rw [List.filter_append, List.find?_append, List.find?_eq_none.mpr fun e he => hnone e (List.mem_filter.mp he).1]
    simp [hwin]
  rw [keep, if_pos h]
  show (((x.replies ++ [(seq, bs)]).filter fun e => decide (max x.top seq < e.1 + 16)).find? fun e => e.1 == seq).map (·.2) = some bs
  rw [hfind]
  rfl

end Session

theorem State.counted_facts (s : State) (n : Nat) : (s.counted n).out = [] ∧ (s.counted n).req = [] ∧
    (s.counted n).get Obj.Loa.REQUESTS = min (s.core.get Obj.Loa.REQUESTS + 1) (2 ^ 64 - 1) ∧
    (s.counted n).sessionOf n = { s.core.sessionOf n with part := none } ∧
    ∀ i, i ≠ n → (s.counted n).sessionOf i = s.core.sessionOf i := by
  refine ⟨Core.out_dropPart _ _, Core.req_dropPart _ _, ?_, Core.sessionOf_dropPart _ _, fun i hi => Core.sessionOf_dropPart_ne _ hi⟩
  rw [Core.get_dropPart _ _ (by decide), Core.get_inc64_min]
  rfl

/-- A fresh request is executed; its session keeps the reply, and the reply leaves. -/
theorem answersCore_loaSeq_new {i : Instr} {s : State} {addr : Nat} {port : BitVec 16} {bs : List Byte} {P : Core → Prop} {r : Reply}
    {d : Core} (hi : exec i s = loaRow (.udp addr port true bs) s) (h : Fresh s addr port bs) (h5 : (loaParse bs).op ≠ 5)
    (hexec : State.loaExec { s.clear with core := s.clear.core.inc64 Obj.Loa.REQUESTS } (udpPath addr port) (loaParse bs).session
      ((s.core.sessionOf (loaParse bs).session).opened (loaParse bs)) = (r, { s.clear with core := d })) (hreq : d.req = [])
    (hp : P ((d.updSession (loaParse bs).session fun y => y.keep (loaParse bs).seq
      (replyBytes (s.core.sessionOf (loaParse bs).session) (loaParse bs) r)).emit
        (.udp addr port.toNat (replyBytes (s.core.sessionOf (loaParse bs).session) (loaParse bs) r)))) : AnswersCore i s P := by
  obtain ⟨hasked, htag, hseq, hheld⟩ := h
  have hnew := s.clear.loaSeq_new (udpPath addr port) (loaParse bs).session
    ((s.core.sessionOf (loaParse bs).session).opened (loaParse bs)) (by rw [Session.seq_opened]; exact hseq)
    (by rw [Session.seq_opened]; exact hheld) hexec
  have hclear : s.clear.core.sessionOf (loaParse bs).session = s.core.sessionOf (loaParse bs).session := rfl
  rw [Core.sendLoa_udp, replyBytes_opened, Session.seq_opened, hclear] at hnew
  exact answersCore_loaSeq hi hasked h5 htag hnew hreq hp

/-- The session of an executed request as it was before the reply: open, with the window and the replies of before. -/
def Core.Replies (c : Core) (n : Nat) (x : Session) : Prop :=
  (c.sessionOf n).isOpen = true ∧ (c.sessionOf n).top = x.top ∧ (c.sessionOf n).replies = x.replies

/-- An executed request is answered and held. -/
theorem replied_keep {s : State} {addr : Nat} {port : BitVec 16} {bs : List Byte} {r : Reply} {c : Core} (h : Fresh s addr port bs)
    (hx : c.Replies (loaParse bs).session (s.core.sessionOf (loaParse bs).session)) (hout : c.out = [])
    (hcount : c.get Obj.Loa.REQUESTS = min (s.core.get Obj.Loa.REQUESTS + 1) (2 ^ 64 - 1))
    (hne : ∀ n, n ≠ (loaParse bs).session → c.sessionOf n = s.core.sessionOf n) :
    Replied s addr port bs r ((c.updSession (loaParse bs).session fun y => y.keep (loaParse bs).seq
      (replyBytes (s.core.sessionOf (loaParse bs).session) (loaParse bs) r)).emit
        (.udp addr port.toNat (replyBytes (s.core.sessionOf (loaParse bs).session) (loaParse bs) r))) := by
  obtain ⟨-, -, hseq, hheld⟩ := h
  obtain ⟨hopen, htop, hreplies⟩ := hx
  unfold Replied
  dsimp only
  generalize replyBytes (s.core.sessionOf (loaParse bs).session) (loaParse bs) r = b
  refine ⟨?_, ?_, ?_, ?_, fun n hn => ?_⟩
  · rw [Core.out_emit, Core.out_updSession, hout]
    rfl
  · rw [Core.sessionOf_emit, Core.sessionOf_updSession_self]
    exact Session.held_keep b hopen (by rw [htop]; exact hseq) (by rw [Session.held, hreplies]; exact hheld)
  · rw [Core.sessionOf_emit, Core.sessionOf_updSession_self, Session.top_keep b hopen, htop]
  · rw [Core.get_emit, Core.get_updSession, hcount]
  · rw [Core.sessionOf_emit, Core.sessionOf_updSession_ne _ _ hn, hne n hn]

end Sys2Proof.Machine
end

section
/-! PROOFS. OPEN, AUTH, CLOSE and the idle time of a session (14_object_dictionary.md R366 to R370). -/

namespace Sys2Proof.Machine

section
variable {s : State} {addr : Nat} {port : BitVec 16} {bs : List Byte}

/-! ## OPEN (R366) -/

/-- A well-formed OPEN is taken up as it came. -/
theorem State.loaMessage_open (nh : Nat) (hserved : s.core.loaServed = true) (hlen : 9 ≤ bs.length)
    (hbad : (loaParse bs).bad (udpPath addr port) = false) (hreply : (loaParse bs).reply = false) (hop : (loaParse bs).op = 4)
    (h0 : (loaParse bs).session = 0) : s.loaMessage (udpPath addr port) bs nh =
      { s with core := s.core.loaOpen (udpPath addr port) (loaParse bs) nh } := by
  have hhere : s.core.sessionHere (udpPath addr port) (loaParse bs).session = false := by simp [Core.sessionHere, h0]
  have hforeign : s.core.foreign (udpPath addr port) (loaParse bs).session = false := by simp [Core.foreign, hhere]
  have hpass : ¬ (!s.core.loaServed || decide (bs.length < 9) || s.core.foreign (udpPath addr port) (loaParse bs).session) = true := by
    simp [hserved, hforeign, hlen]
  unfold State.loaMessage
  dsimp only
  rw [if_neg hpass, if_neg (by rw [hreply]; decide), hhere, Bool.false_and, if_neg (by decide)]
  unfold State.loaRequest
  dsimp only
  rw [if_neg (by rw [hbad]; decide), if_pos hop]

namespace Core

variable {c : Core} {m : LoaMsg}

theorem loaOpen_full (nh : Nat) (h0 : m.session = 0) (hseq : m.seq = 0) (hbody : m.body.length = 16) (hfree : c.freeSessions = []) :
    c.loaOpen (udpPath addr port) m nh = c.emit (.udp addr port.toNat (replyBytes Session.closed m (Reply.bare .retry))) := by
  simp [loaOpen, h0, hseq, hbody, hfree, answerLoa, sendLoa]

theorem nth_mem {α : Type} {l : List α} {i : Nat} (d : α) (h : i < l.length) : nth l i d ∈ l := by
  rw [nth, List.getElem?_eq_getElem h]
  exact List.getElem_mem h

/-- A free number is drawn, and its session holds both nonces. -/
theorem loaOpen_free (nh : Nat) (h0 : m.session = 0) (hseq : m.seq = 0) (hbody : m.body.length = 16) (hfree : c.freeSessions ≠ []) :
    ∃ n ∈ c.freeSessions, c.loaOpen (udpPath addr port) m nh =
      (((c.draw c.freeSessions.length).2.inc64 Obj.Loa.REQUESTS).updSession n fun _ =>
        { Session.closed with isOpen := true, addr := addr, port := port.toNat, nc := ofBytes m.body, nh := nh }).emit
      (.udp addr port.toNat (replyBytes
        { Session.closed with isOpen := true, addr := addr, port := port.toNat, nc := ofBytes m.body, nh := nh }
        { m with session := n } (Reply.whole (toBytes 16 nh)))) := by
  have hpos : 0 < c.freeSessions.length := List.length_pos_iff.mpr hfree
  refine ⟨nth c.freeSessions (c.draw c.freeSessions.length).1 1, nth_mem 1 (Nat.mod_lt _ hpos), ?_⟩
  unfold loaOpen
  dsimp only
  rw [if_neg (by simp [h0, hseq, hbody]), if_neg hfree, answerLoa, sendLoa_udp]

end Core

theorem answersCore_loaOpen {nh : BitVec 128} {P : Core → Prop} {c : Core} (hup : s.core.seqUp = true) (hserved : s.core.loaServed = true)
    (hu : s.clear.loaMessage (udpPath addr port) bs nh.toNat = { s.clear with core := c }) (hreq : c.req = []) (hp : P c) :
    AnswersCore (.loaOpen (.udp addr port true bs) nh) s P := by
  have hserved' : s.clear.core.loaServed = true := hserved
  have harrival : s.clear.loaArrival (.udp addr port true bs) nh.toNat = { s.clear with core := c } := by
    rw [← hu]
    simp [State.loaArrival, hserved']
  refine ⟨c, ?_, hp⟩
  show Host.Outcome.next (s.loaIn (.udp addr port true bs) nh.toNat) = _
  rw [State.loaIn, State.when, hup, State.act, harrival, State.settle_of_req_nil _ hreq]
  rfl

theorem answersCore_loaOpen_free {nh : BitVec 128} (hup : s.core.seqUp = true) (hserved : s.core.loaServed = true) (hlen : 9 ≤ bs.length)
    (hbad : (loaParse bs).bad (udpPath addr port) = false) (hreply : (loaParse bs).reply = false) (hop : (loaParse bs).op = 4)
    (h0 : (loaParse bs).session = 0) (hseq : (loaParse bs).seq = 0) (hbody : (loaParse bs).body.length = 16)
    (hfree : s.core.freeSessions ≠ []) : ∃ n ∈ s.core.freeSessions,
      AnswersCore (.loaOpen (.udp addr port true bs) nh) s fun c =>
        (let x := { Session.closed with isOpen := true, addr := addr, port := port.toNat, nc := ofBytes (loaParse bs).body, nh := nh.toNat }
         c.sessionOf n = x ∧
         c.out = [.udp addr port.toNat (replyBytes x { loaParse bs with session := n } (Reply.whole (toBytes 16 nh.toNat)))]) ∧
        c.get Obj.Loa.REQUESTS = min (s.core.get Obj.Loa.REQUESTS + 1) (2 ^ 64 - 1) ∧
        (∀ i, i ≠ n → c.sessionOf i = s.core.sessionOf i) ∧ ∀ k, k ≠ Obj.Loa.REQUESTS → c.get k = s.core.get k := by
  obtain ⟨n, hn, hopen⟩ := Core.loaOpen_free (addr := addr) (port := port) (c := s.clear.core) nh.toNat h0 hseq hbody hfree
  refine ⟨n, hn, answersCore_loaOpen hup hserved
    (State.loaMessage_open (s := s.clear) nh.toNat hserved hlen hbad hreply hop h0) (by rw [hopen]; rfl) ?_⟩
  rw [hopen]
  refine ⟨⟨?_, rfl⟩, ?_, fun i hi => ?_, fun k hk => ?_⟩
  · rw [Core.sessionOf_emit, Core.sessionOf_updSession_self]
  · rw [Core.get_emit, Core.get_updSession, Core.get_inc64_min]
    rfl
  · rw [Core.sessionOf_emit, Core.sessionOf_updSession_ne _ _ hi]
    rfl
  · rw [Core.get_emit, Core.get_updSession, Core.get_inc64_ne _ hk]
    rfl

theorem answersCore_loaOpen_full {nh : BitVec 128} (hup : s.core.seqUp = true) (hserved : s.core.loaServed = true) (hlen : 9 ≤ bs.length)
    (hbad : (loaParse bs).bad (udpPath addr port) = false) (hreply : (loaParse bs).reply = false) (hop : (loaParse bs).op = 4)
    (h0 : (loaParse bs).session = 0) (hseq : (loaParse bs).seq = 0) (hbody : (loaParse bs).body.length = 16)
    (hfree : s.core.freeSessions = []) : AnswersCore (.loaOpen (.udp addr port true bs) nh) s fun c =>
        c.out = [.udp addr port.toNat (replyBytes Session.closed (loaParse bs) (Reply.bare .retry))] ∧
        c.sessions = s.core.sessions ∧ ∀ k, c.get k = s.core.get k := by
  have hopen := Core.loaOpen_full (addr := addr) (port := port) (c := s.clear.core) nh.toNat h0 hseq hbody hfree
  refine answersCore_loaOpen hup hserved
    (State.loaMessage_open (s := s.clear) nh.toNat hserved hlen hbad hreply hop h0) (by rw [hopen]; rfl) ?_
  rw [hopen]
  exact ⟨rfl, rfl, fun k => rfl⟩

/-! ## AUTH (R367) -/

theorem answersCore_loaAuth {P : Core → Prop} (h : Asked s addr port bs) (h5 : (loaParse bs).op = 5)
    (hsec : (s.core.sessionOf (loaParse bs).session).secure = false)
    (hreq : (s.clear.core.loaAuth s.fuses (udpPath addr port) (loaParse bs).session (loaParse bs)).req = [])
    (hp : P (s.clear.core.loaAuth s.fuses (udpPath addr port) (loaParse bs).session (loaParse bs))) :
    AnswersCore (.loaAuth (.udp addr port true bs)) s P := by
  have hclear : Asked s.clear addr port bs := h
  have hbad := h.2.2.2.2.1
  have hhere := hclear.sessionHere
  have h4 := h.op_ne_open
  have hplain : (s.clear.core.sessionOf (loaParse bs).session).opened (loaParse bs) = loaParse bs :=
    Session.opened_of_not_secure _ hsec
  refine answersCore_loaMessage rfl h.1 h.2.1 h.2.2.2.1 ?_ hreq hp
  rw [State.loaMessage_asked hclear, hplain]
  unfold State.loaRequest
  dsimp only
  rw [if_neg (by rw [hbad]; decide), if_neg h4, hhere, if_neg (by decide), if_pos (by simp [h5])]
  rfl

/-- A session that AUTH admits to the secure world under a session key. -/
def Session.admitted (x : Session) (ks : Nat) : Session := { x with secure := true, ks := ks }

theorem Session.secure_keep (x : Session) (seq : Nat) (b : List Byte) : (x.keep seq b).secure = x.secure := by
  rw [Session.keep]
  split <;> rfl

theorem Session.ks_keep (x : Session) (seq : Nat) (b : List Byte) : (x.keep seq b).ks = x.ks := by
  rw [Session.keep]
  split <;> rfl

namespace Core

variable {c : Core} {f : Fuses} {p : LoaPath} {n : Nat} {m : LoaMsg}

/-- The first request of a session, in the form of an AUTH, is judged by its tag. -/
theorem loaAuth_key {key : Nat} (hheld : (c.sessionOf n).held m.seq = none) (hbegun : (c.sessionOf n).begun = false) (hseq : m.seq = 1)
    (htag : m.tagged = true) (hdlen : m.dlen = 0) (hkey : c.admitKeyNow f = some key)
    (hsealed : m.sealed (loaKey key (c.get Obj.Id.HUB_ID) n (c.sessionOf n).nc (c.sessionOf n).nh) 0 = true) :
    ∃ y, y = (c.sessionOf n).admitted (loaKey key (c.get Obj.Id.HUB_ID) n (c.sessionOf n).nc (c.sessionOf n).nh) ∧
      c.loaAuth f p n m = ((c.inc64 Obj.Loa.REQUESTS).updSession n fun _ => y.keep m.seq (replyBytes y m (Reply.bare .ok))).sendLoa p
        Vc.rsp (replyBytes y m (Reply.bare .ok)) := by
  refine ⟨_, rfl, ?_⟩
  unfold loaAuth
  dsimp only
  rw [hheld]
  dsimp only
  rw [if_neg (by simp [hbegun, hseq, htag, hdlen]), hkey]
  dsimp only
  rw [if_pos hsealed]
  rfl

theorem loaAuth_wrong (hheld : (c.sessionOf n).held m.seq = none) (hbegun : (c.sessionOf n).begun = false) (hseq : m.seq = 1)
    (htag : m.tagged = true) (hdlen : m.dlen = 0) (hkey : ∀ key, c.admitKeyNow f = some key →
      m.sealed (loaKey key (c.get Obj.Id.HUB_ID) n (c.sessionOf n).nc (c.sessionOf n).nh) 0 = false) :
    c.loaAuth f p n m = c.authFail n := by
  unfold loaAuth
  dsimp only
  rw [hheld]
  dsimp only
  rw [if_neg (by simp [hbegun, hseq, htag, hdlen])]
  cases hk : c.admitKeyNow f with
  | none => rfl
  | some key =>
    dsimp only
    rw [if_neg (by rw [hkey key hk]; decide)]

theorem authFail_third (h : (c.sessionOf n).fails = 2) : (c.authFail n).sessionOf n = Session.closed := by
  rw [authFail, sessionOf_updSession_self, h]
  rfl

theorem authFail_first (h : (c.sessionOf n).fails ≠ 2) :
    (c.authFail n).sessionOf n = { c.sessionOf n with fails := (c.sessionOf n).fails + 1 } := by
  rw [authFail, sessionOf_updSession_self, sessionOf_inc, if_neg (by omega)]

end Core

section
variable {ks : Nat → Nat} (h : Asked s addr port bs) (h5 : (loaParse bs).op = 5)
  (hheld : (s.core.sessionOf (loaParse bs).session).held 1 = none) (hbegun : (s.core.sessionOf (loaParse bs).session).begun = false)
  (hsec : (s.core.sessionOf (loaParse bs).session).secure = false) (hseq : (loaParse bs).seq = 1) (htag : (loaParse bs).tagged = true)
  (hdlen : (loaParse bs).dlen = 0) (hks : ks = fun key => loaKey key (s.core.get Obj.Id.HUB_ID) (loaParse bs).session
    (s.core.sessionOf (loaParse bs).session).nc (s.core.sessionOf (loaParse bs).session).nh)
include h h5 hheld hbegun hsec hseq htag hdlen hks

theorem answersCore_loaAuth_key {key : Nat} (hkey : s.core.admitKeyNow s.fuses = some key) (hsealed : (loaParse bs).sealed (ks key) 0 = true) :
    AnswersCore (.loaAuth (.udp addr port true bs)) s fun c =>
      (c.sessionOf (loaParse bs).session).secure = true ∧ (c.sessionOf (loaParse bs).session).ks = ks key ∧
      (c.sessionOf (loaParse bs).session).top = max (s.core.sessionOf (loaParse bs).session).top 1 ∧
      c.out = [.udp addr port.toNat (replyBytes { s.core.sessionOf (loaParse bs).session with secure := true, ks := ks key }
        (loaParse bs) (Reply.bare .ok))] ∧
      c.get Obj.Loa.REQUESTS = min (s.core.get Obj.Loa.REQUESTS + 1) (2 ^ 64 - 1) ∧
      (∀ i, i ≠ (loaParse bs).session → c.sessionOf i = s.core.sessionOf i) ∧ ∀ k, k ≠ Obj.Loa.REQUESTS → c.get k = s.core.get k := by
  have hopen := h.2.2.2.2.2.2.2.2.1
  obtain ⟨y, hy, hauth⟩ := Core.loaAuth_key (c := s.clear.core) (f := s.fuses) (p := udpPath addr port) (n := (loaParse bs).session)
    (m := loaParse bs) (key := key) (by rw [hseq]; exact hheld) hbegun hseq htag hdlen hkey (by rw [hks] at hsealed; exact hsealed)
  have hyks : y.ks = ks key := by rw [hy, hks]; rfl
  have hysec : y.secure = true := by rw [hy]; rfl
  have hyopen : y.isOpen = true := by rw [hy]; exact hopen
  have hytop : y.top = (s.core.sessionOf (loaParse bs).session).top := by rw [hy]; rfl
  have hyeq : { s.core.sessionOf (loaParse bs).session with secure := true, ks := ks key } = y := by rw [hy, hks]; rfl
  rw [Core.sendLoa_udp] at hauth
  refine answersCore_loaAuth h h5 hsec (by rw [hauth]; rfl) ?_
  rw [hauth, hyeq]
  have hself : (((s.clear.core.inc64 Obj.Loa.REQUESTS).updSession (loaParse bs).session fun _ =>
      y.keep (loaParse bs).seq (replyBytes y (loaParse bs) (Reply.bare .ok))).emit (.udp addr port.toNat (replyBytes y (loaParse bs)
        (Reply.bare .ok)))).sessionOf (loaParse bs).session = y.keep 1 (replyBytes y (loaParse bs) (Reply.bare .ok)) := by
    rw [Core.sessionOf_emit, Core.sessionOf_updSession_self, hseq]
  refine ⟨?_, ?_, ?_, rfl, ?_, fun i hi => ?_, fun k hk => ?_⟩
  · rw [hself, Session.secure_keep, hysec]
  · rw [hself, Session.ks_keep, hyks]
  · rw [hself, Session.top_keep _ hyopen, hytop]
  · rw [Core.get_emit, Core.get_updSession, Core.get_inc64_min]
    rfl
  · rw [Core.sessionOf_emit, Core.sessionOf_updSession_ne _ _ hi]
    rfl
  · rw [Core.get_emit, Core.get_updSession, Core.get_inc64_ne _ hk]
    rfl

theorem answersCore_loaAuth_wrong (hwrong : ∀ key, s.core.admitKeyNow s.fuses = some key → (loaParse bs).sealed (ks key) 0 = false) :
    AnswersCore (.loaAuth (.udp addr port true bs)) s fun c =>
      c.out = [] ∧ c.get Obj.Loa.AUTH_FAILS = min (s.core.get Obj.Loa.AUTH_FAILS + 1) (2 ^ 32 - 1) ∧
      ((s.core.sessionOf (loaParse bs).session).fails = 2 → c.sessionOf (loaParse bs).session = Session.closed) ∧
      ((s.core.sessionOf (loaParse bs).session).fails ≠ 2 → c.sessionOf (loaParse bs).session =
        { s.core.sessionOf (loaParse bs).session with fails := (s.core.sessionOf (loaParse bs).session).fails + 1 }) ∧
      (∀ i, i ≠ (loaParse bs).session → c.sessionOf i = s.core.sessionOf i) ∧ ∀ k, k ≠ Obj.Loa.AUTH_FAILS → c.get k = s.core.get k := by
  have hauth := Core.loaAuth_wrong (c := s.clear.core) (f := s.fuses) (p := udpPath addr port) (n := (loaParse bs).session) (m := loaParse bs)
    (by rw [hseq]; exact hheld) hbegun hseq htag hdlen (fun key hkey => by rw [hks] at hwrong; exact hwrong key hkey)
  refine answersCore_loaAuth h h5 hsec (by rw [hauth]; rfl) ?_
  rw [hauth]
  refine ⟨rfl, ?_, Core.authFail_third, Core.authFail_first, fun i hi => ?_, fun k hk => ?_⟩
  · rw [Core.authFail, Core.get_updSession, Core.get_inc_min]
    rfl
  · rw [Core.authFail, Core.sessionOf_updSession_ne _ _ hi]
    rfl
  · rw [Core.authFail, Core.get_updSession, Core.get_inc_ne _ hk]
    rfl

end

/-! ## CLOSE and the idle time (R366) -/

theorem State.loaExec_close {u : State} {p : LoaPath} {n : Nat} {m : LoaMsg} (h : m.op = 6) : u.loaExec p n m =
    (Reply.bare .ok, { u with core := (u.core.dropPart n).updSession n fun _ => Session.closed }) := by
  simp [State.loaExec, h]

theorem answersCore_loaClose (h : Fresh s addr port bs) (hop : (loaParse bs).op = 6) :
    AnswersCore (.loaClose (.udp addr port true bs)) s fun c =>
      c.sessionOf (loaParse bs).session = Session.closed ∧
      c.out = [.udp addr port.toNat (replyBytes (s.core.sessionOf (loaParse bs).session) (loaParse bs) (Reply.bare .ok))] ∧
      (∀ i, i ≠ (loaParse bs).session → c.sessionOf i = s.core.sessionOf i) ∧
      ∀ k, c.get k = (s.counted (loaParse bs).session).get k := by
  obtain ⟨hout, hreq, -, -, hne⟩ := State.counted_facts s (loaParse bs).session
  refine answersCore_loaSeq_new (r := Reply.bare .ok)
    (d := (s.counted (loaParse bs).session).updSession (loaParse bs).session fun _ => Session.closed) rfl h (by omega)
    (State.loaExec_close (by rw [Session.op_opened]; exact hop)) hreq ?_
  generalize s.counted (loaParse bs).session = d at hout hne ⊢
  refine ⟨?_, ?_, fun i hi => ?_, fun k => rfl⟩
  · rw [Core.sessionOf_emit, Core.sessionOf_updSession_self, Core.sessionOf_updSession_self]
    exact Session.keep_closed _
  · rw [Core.out_emit, Core.out_updSession, Core.out_updSession, hout]
    rfl
  · rw [Core.sessionOf_emit, Core.sessionOf_updSession_ne _ _ hi, Core.sessionOf_updSession_ne _ _ hi]
    exact hne i hi

theorem answersCore_sessionIdle {n : Nat} (hup : s.core.seqUp = true) (h1 : 1 ≤ n) (h16 : n ≤ 16) :
    AnswersCore (.sessionIdle n) s fun c =>
      c.sessionOf n = Session.closed ∧ (∀ i, i ≠ n → c.sessionOf i = s.core.sessionOf i) ∧ ∀ k, c.get k = s.core.get k := by
  have hidle : s.clear.core.sessionIdle n = s.clear.core.updSession n fun _ => Session.closed := by
    rw [Core.sessionIdle, if_pos (by simp [h1, h16])]
  refine answersCore_onPower (fun c => c.sessionIdle n) rfl hup (by rw [hidle]; rfl) ?_
  rw [hidle]
  exact ⟨Core.sessionOf_updSession_self _ _ _, fun i hi => Core.sessionOf_updSession_ne _ _ hi, fun k => rfl⟩

end

end Sys2Proof.Machine
end

section
/-! PROOFS. Notifications and their acknowledgements (14_object_dictionary.md R365, R377, R378), and the statement of sessions. -/

namespace Sys2Proof.Machine

namespace Core

variable {c : Core} {p : Nat}

/-! ## A CTL cell leaves (R51, R52) -/

/-- A CTL cell leaves at once while nothing waits before it and the far end has granted its place. -/
theorem out_send_ctl {ty : Nat} (x : Cell) (hup : c.portUp p = true) (hq : (c.portOf p).txq = []) (hcr : 1 ≤ (c.portOf p).credit Vc.ctl) :
    (c.send p Vc.ctl ty x).out = c.out ++ [.cell p ty x] := by
  have hport : ∀ (d : Core) (v : Nat), (d.pumpVc p v).portOf p = pumped (d.portOf p) v := fun d v => portOf_setPort_self d p _
  have hout : ∀ (d : Core) (v : Nat), (d.pumpVc p v).out = d.out ++ (going (d.portOf p) v).map fun e => Out.cell p e.2.1 e.2.2 :=
    fun _ _ => rfl
  have hs0 : ((c.updPort p fun s => { s with txq := s.txq ++ [(Vc.ctl, ty, x)] }).portOf p).txq = [(Vc.ctl, ty, x)] ∧
      ((c.updPort p fun s => { s with txq := s.txq ++ [(Vc.ctl, ty, x)] }).portOf p).credit Vc.ctl = (c.portOf p).credit Vc.ctl := by
    rw [portOf_updPort_self]
    exact ⟨by rw [hq]; rfl, rfl⟩
  have hout0 : (c.updPort p fun s => { s with txq := s.txq ++ [(Vc.ctl, ty, x)] }).out = c.out := rfl
  rw [send, if_pos hup, pump]
  generalize (c.updPort p fun s => { s with txq := s.txq ++ [(Vc.ctl, ty, x)] }) = a at hs0 hout0 ⊢
  obtain ⟨htxq, hcredit⟩ := hs0
  obtain ⟨hgo1, htxq1, hcr1⟩ := pumped_empty (s := a.portOf p) (v := Vc.rsp) (by rw [htxq]; rfl)
  have hgo2 : going (pumped (a.portOf p) Vc.rsp) Vc.ctl = [(Vc.ctl, ty, x)] :=
    going_single (by rw [htxq1, htxq]) (by rw [hcr1, hcredit]; exact hcr)
  have htxq2 : (pumped (pumped (a.portOf p) Vc.rsp) Vc.ctl).txq = [] := by
    show ((pumped (a.portOf p) Vc.rsp).txq.filter fun e => e.1 != Vc.ctl) ++
      ((pumped (a.portOf p) Vc.rsp).txq.filter fun e => e.1 == Vc.ctl).drop (going (pumped (a.portOf p) Vc.rsp) Vc.ctl).length = []
    rw [hgo2, htxq1, htxq]
    rfl
  obtain ⟨hgo3, -, -⟩ := pumped_empty (s := pumped (pumped (a.portOf p) Vc.rsp) Vc.ctl) (v := Vc.blk) (by rw [htxq2]; rfl)
  rw [hout, hout, hout, hport, hport, hport, hgo1, hgo2, hgo3, hout0]
  simp

/-! ## NOTIFY_RETRY (R378) -/

variable {n seq : Nat} {e : Note}

theorem notifyRetry_again (h : ((c.sessionOf n).notes.find? fun e => e.seq == seq) = some e) (hs : e.sent ≤ 3) :
    c.notifyRetry n seq = (c.updSession n fun x =>
      { x with notes := x.notes.map fun y => if y.seq = seq then { y with sent := y.sent + 1 } else y }).sendLoa (c.pathOf n) Vc.ctl e.msg := by
  rw [notifyRetry, h]
  dsimp only
  rw [if_neg (by omega)]

theorem notifyRetry_lost (h : ((c.sessionOf n).notes.find? fun e => e.seq == seq) = some e) (hs : 4 ≤ e.sent) :
    c.notifyRetry n seq =
      (c.updSession n fun x => { x with notes := x.notes.filter fun y => y.seq != seq }).noteLost := by
  rw [notifyRetry, h]
  dsimp only
  rw [if_pos hs]

end Core

/-- A note that is sent again is counted in its place. -/
theorem find_resent {l : List Note} {seq : Nat} {e : Note} (h : (l.find? fun e => e.seq == seq) = some e) :
    ((l.map fun y => if y.seq = seq then { y with sent := y.sent + 1 } else y).find? fun e => e.seq == seq) =
      some { e with sent := e.sent + 1 } := by
  induction l with
  | nil => simp at h
  | cons y l ih =>
    by_cases hy : y.seq = seq
    · have he : y = e := by simpa [hy] using h
      simp [hy, ← he]
    · rw [List.find?_cons_of_neg (by simpa using hy)] at h
      rw [List.map_cons, if_neg hy, List.find?_cons_of_neg (by simpa using hy)]
      exact ih h

theorem find_ended (l : List Note) (seq : Nat) : ((l.filter fun y => y.seq != seq).find? fun e => e.seq == seq) = none := by
  rw [List.find?_eq_none]
  intro e he
  simpa using (List.mem_filter.mp he).2

section
variable {s : State} {n seq : Nat} {e : Note}

theorem answersCore_notifyRetry_udp (hup : s.core.seqUp = true) (h16 : n ≤ 16)
    (h : ((s.core.sessionOf n).notes.find? fun e => e.seq == seq) = some e) (hs : e.sent ≤ 3) :
    AnswersCore (.notifyRetry n seq) s fun c =>
      c.out = [.udp (s.core.sessionOf n).addr (s.core.sessionOf n).port e.msg] ∧
      ((c.sessionOf n).notes.find? fun e => e.seq == seq) = some { e with sent := e.sent + 1 } ∧
      (c.sessionOf n).notes.length = (s.core.sessionOf n).notes.length ∧ ∀ k, c.get k = s.core.get k := by
  have hagain := Core.notifyRetry_again (c := s.clear.core) h hs
  rw [Core.pathOf, if_neg (by omega), Core.sendLoa, if_pos rfl] at hagain
  refine answersCore_onPower (fun c => c.notifyRetry n seq) rfl hup (by rw [hagain]; rfl) ?_
  rw [hagain]
  refine ⟨rfl, ?_, ?_, fun k => rfl⟩
  · rw [Core.sessionOf_emit, Core.sessionOf_updSession_self]
    exact find_resent h
  · rw [Core.sessionOf_emit, Core.sessionOf_updSession_self]
    exact List.length_map _

theorem answersCore_notifyRetry_port {p : Nat} (hup : s.core.seqUp = true) (hport : s.core.portUp p = true)
    (h : ((s.core.sessionOf (0xFF00 + p)).notes.find? fun e => e.seq == seq) = some e) (hs : e.sent ≤ 3)
    (hq : (s.core.portOf p).txq = []) (hcr : 1 ≤ (s.core.portOf p).credit Vc.ctl) :
    AnswersCore (.notifyRetry (0xFF00 + p) seq) s fun c =>
      c.out = [.cell p Cy.object (mkCell Cy.object Vc.ctl true false 0 e.msg.length 0 e.msg)] ∧
      ((c.sessionOf (0xFF00 + p)).notes.find? fun e => e.seq == seq) = some { e with sent := e.sent + 1 } := by
  have hagain := Core.notifyRetry_again (c := s.clear.core) h hs
  have hpath : s.clear.core.pathOf (0xFF00 + p) = { udp := false, a := p, b := 0 } := by
    rw [Core.pathOf, if_pos (Nat.le_add_right _ _), Nat.add_sub_cancel_left]
  rw [hpath, Core.sendLoa, if_neg Bool.false_ne_true] at hagain
  have hself := Core.sessionOf_updSession_self s.clear.core (0xFF00 + p) fun x =>
    { x with notes := x.notes.map fun y => if y.seq = seq then { y with sent := y.sent + 1 } else y }
  have hout : (s.clear.core.updSession (0xFF00 + p) fun x =>
    { x with notes := x.notes.map fun y => if y.seq = seq then { y with sent := y.sent + 1 } else y }).out = [] := rfl
  have hreq : (s.clear.core.updSession (0xFF00 + p) fun x =>
    { x with notes := x.notes.map fun y => if y.seq = seq then { y with sent := y.sent + 1 } else y }).req = [] := rfl
  have hopen : (s.clear.core.updSession (0xFF00 + p) fun x =>
    { x with notes := x.notes.map fun y => if y.seq = seq then { y with sent := y.sent + 1 } else y }).portUp p = true := hport
  have hq' : ((s.clear.core.updSession (0xFF00 + p) fun x =>
    { x with notes := x.notes.map fun y => if y.seq = seq then { y with sent := y.sent + 1 } else y }).portOf p) = s.core.portOf p := rfl
  generalize (s.clear.core.updSession (0xFF00 + p) fun x =>
    { x with notes := x.notes.map fun y => if y.seq = seq then { y with sent := y.sent + 1 } else y }) = d at hagain hself hout hreq hopen hq'
  obtain ⟨honly, -⟩ := Core.send_facts d p Vc.ctl Cy.object (mkCell Cy.object Vc.ctl true false 0 e.msg.length 0 e.msg)
  refine answersCore_onPower (fun c => c.notifyRetry (0xFF00 + p) seq) rfl hup (by rw [hagain, honly.req]; exact hreq) ?_
  rw [hagain]
  refine ⟨?_, ?_⟩
  · rw [Core.out_send_ctl _ hopen (by rw [hq']; exact hq) (by rw [hq']; exact hcr), hout]
    rfl
  · have hsessions : (d.send p Vc.ctl Cy.object (mkCell Cy.object Vc.ctl true false 0 e.msg.length 0 e.msg)).sessions = d.sessions := by
      rw [honly.1]
    rw [Core.sessionOf, hsessions, ← Core.sessionOf, hself]
    exact find_resent h

theorem answersCore_notifyRetry_lost (hup : s.core.seqUp = true)
    (h : ((s.core.sessionOf n).notes.find? fun e => e.seq == seq) = some e) (hs : 4 ≤ e.sent) :
    AnswersCore (.notifyRetry n seq) s fun c =>
      c.out = [] ∧ ((c.sessionOf n).notes.find? fun e => e.seq == seq) = none ∧
      c.get Obj.Loa.NOTIFY_LOST = min (s.core.get Obj.Loa.NOTIFY_LOST + 1) (2 ^ 32 - 1) ∧ c.bitOf Obj.Loa.FLAGS 3 = true ∧
      ∀ k, k ≠ Obj.Loa.NOTIFY_LOST → k ≠ Obj.Loa.FLAGS → c.get k = s.core.get k := by
  have hlost := Core.notifyRetry_lost (c := s.clear.core) h hs
  refine answersCore_onPower (fun c => c.notifyRetry n seq) rfl hup (by rw [hlost]; rfl) ?_
  rw [hlost, Core.noteLost]
  refine ⟨rfl, ?_, ?_, Core.bitOf_flag_self _ _ _, fun k h1 h2 => ?_⟩
  · rw [Core.sessionOf_flag, Core.sessionOf_inc, Core.sessionOf_updSession_self]
    exact find_ended _ _
  · rw [Core.get_flag_ne _ _ (by decide), Core.get_inc_min]
    rfl
  · rw [Core.get_flag_ne _ _ h2, Core.get_inc_ne _ h1]
    rfl

end

/-! ## Acknowledgements (R378) -/

section
variable {s : State} {addr : Nat} {port : BitVec 16} {bs : List Byte}

theorem Core.loaAck_of_holds {c : Core} {p : LoaPath} {m : LoaMsg} (hhere : c.sessionHere p m.session = true) (hdlen : m.dlen = 0)
    (hlver : m.lver = 1) (hrsv : m.rsv = 0) (hseal : if (c.sessionOf m.session).secure = true
      then m.sealed (c.sessionOf m.session).ks 3 = true else m.tagged = false) :
    c.loaAck p m = c.updSession m.session fun x => { x with notes := x.notes.filter fun e => e.seq != m.seq } := by
  unfold loaAck
  dsimp only
  cases hsec : (c.sessionOf m.session).secure with
  | false =>
    rw [hsec, if_neg (by decide)] at hseal
    rw [if_neg (by simp [hhere, hdlen, hlver, hrsv, hseal]), if_neg (by simp)]
  | true =>
    rw [hsec, if_pos rfl] at hseal
    rw [if_neg (by simp [hhere, hdlen, hlver, hrsv]), if_neg (by simp [hseal])]

theorem State.loaMessage_ack {m : LoaMsg} (hm : m = loaParse bs) (hserved : s.core.loaServed = true) (hlen : 9 ≤ bs.length) (hreply : m.reply = true) (hop : m.op = 8)
    (haddr : (s.core.sessionOf m.session).addr = addr) (hport : (s.core.sessionOf m.session).port = port.toNat) (nh : Nat) :
    s.loaMessage (udpPath addr port) bs nh = { s with core := s.core.loaAck (udpPath addr port) m } := by
  have hforeign : s.core.foreign (udpPath addr port) m.session = false := by simp [Core.foreign, haddr, hport]
  have hpass : ¬ (!s.core.loaServed || decide (bs.length < 9) || s.core.foreign (udpPath addr port) m.session) = true := by
    simp [hserved, hforeign, hlen]
  unfold State.loaMessage
  dsimp only
  rw [← hm, if_neg hpass, if_pos hreply, if_pos hop]

theorem answersCore_loaNotifyAck {m : LoaMsg} (hm : m = loaParse bs) (hup : s.core.seqUp = true) (hserved : s.core.loaServed = true)
    (hlen : 9 ≤ bs.length) (hopens : (LoaArrival.udp addr port true bs).opens = false) (hreply : m.reply = true) (hop : m.op = 8)
    (hdlen : m.dlen = 0) (hlo : 1 ≤ m.session) (hhi : m.session ≤ 16) (hopen : (s.core.sessionOf m.session).isOpen = true)
    (haddr : (s.core.sessionOf m.session).addr = addr) (hport : (s.core.sessionOf m.session).port = port.toNat) (hlver : m.lver = 1)
    (hrsv : m.rsv = 0) (hseal : if (s.core.sessionOf m.session).secure = true
      then m.sealed (s.core.sessionOf m.session).ks 3 = true else m.tagged = false) :
    AnswersCore (.loaNotifyAck (.udp addr port true bs)) s fun c =>
      (c.sessionOf m.session).notes = (s.core.sessionOf m.session).notes.filter (fun e => e.seq != m.seq) ∧
      c.out = [] ∧ (∀ i, i ≠ m.session → c.sessionOf i = s.core.sessionOf i) ∧ ∀ k, c.get k = s.core.get k := by
  have hhere : s.clear.core.sessionHere (udpPath addr port) m.session = true := by
    have : (s.clear.core.sessionOf m.session).isOpen = true := hopen
    simp [Core.sessionHere, this, hlo, hhi]
  have hmsg := State.loaMessage_ack (s := s.clear) hm hserved hlen hreply hop haddr hport 0
  rw [Core.loaAck_of_holds hhere hdlen hlver hrsv hseal] at hmsg
  refine answersCore_loaMessage rfl hup hserved hopens hmsg rfl ⟨?_, rfl, fun i hi => ?_, fun k => rfl⟩
  · rw [Core.sessionOf_updSession_self]
    rfl
  · rw [Core.sessionOf_updSession_ne _ _ hi]
    rfl

end

/-! ## The obligation -/

/-- Settles O51: each message is followed to the session it names, and a notification through its retries. -/
theorem sessions : Obligations.Sessions := by
  refine ⟨?_, ?_, ?_, ?_, ?_, ?_, ?_, ?_⟩
  · rintro s addr port bs nh m rfl hup hserved hlen hbad hreply hop h0 hseq hbody -
    exact ⟨answersCore_loaOpen_free hup hserved hlen hbad hreply hop h0 hseq hbody,
      answersCore_loaOpen_full hup hserved hlen hbad hreply hop h0 hseq hbody⟩
  · rintro s addr port bs m x ks rfl h h5 rfl hheld hbegun hsec hseq htag hdlen hks
    exact ⟨fun key => answersCore_loaAuth_key h h5 hheld hbegun hsec hseq htag hdlen hks,
      answersCore_loaAuth_wrong h h5 hheld hbegun hsec hseq htag hdlen hks⟩
  · rintro s addr port bs m rfl h hop
    exact answersCore_loaClose h hop
  · exact fun s n => answersCore_sessionIdle
  · intro s addr port bs m hm hup hserved hlen hopens hreply hop hdlen hlo hhi hopen haddr hport hlver hrsv hseal
    exact answersCore_loaNotifyAck hm hup hserved hlen hopens hreply hop hdlen hlo hhi hopen haddr hport hlver hrsv hseal
  · exact fun s n seq e hup _ h16 h hs => answersCore_notifyRetry_udp hup h16 h hs
  · exact fun s p seq e hup _ hport h hs hq hcr => answersCore_notifyRetry_port hup hport h hs hq hcr
  · exact fun s n seq e hup h hs => answersCore_notifyRetry_lost hup h hs

end Sys2Proof.Machine
end

section
/-! PROOFS. What an executed request leaves, and READ, DESCRIBE, SUBSCRIBE and ECHO (14_object_dictionary.md R363, R370 to R377). -/

namespace Sys2Proof.Machine

/-! ## An executed request (R370) -/

/-- The hub between a request's execution and its reply: the request is counted, the session is open with the window and the
replies of before, no other session has changed, and nothing has left or was asked. -/
def Core.Executed (d : Core) (s : State) (n : Nat) : Prop :=
  d.req = [] ∧ d.out = [] ∧ d.Replies n (s.core.sessionOf n) ∧
  d.get Obj.Loa.REQUESTS = min (s.core.get Obj.Loa.REQUESTS + 1) (2 ^ 64 - 1) ∧
  ∀ i, i ≠ n → d.sessionOf i = s.core.sessionOf i

theorem State.counted_executed {s : State} {n : Nat} (h : (s.core.sessionOf n).isOpen = true) : (s.counted n).Executed s n := by
  obtain ⟨hout, hreq, hcount, hself, hne⟩ := s.counted_facts n
  refine ⟨hreq, hout, ?_, hcount, hne⟩
  unfold Core.Replies
  rw [hself]
  exact ⟨h, rfl, rfl⟩

/-- A request changes its session but for what it says of the replies. -/
theorem Core.Executed.updSession {d : Core} {s : State} {n : Nat} {f : Session → Session} (h : d.Executed s n)
    (hf : ∀ x, (f x).isOpen = x.isOpen ∧ (f x).top = x.top ∧ (f x).replies = x.replies) : (d.updSession n f).Executed s n := by
  obtain ⟨hreq, hout, ⟨hopen, htop, hreplies⟩, hcount, hne⟩ := h
  obtain ⟨h1, h2, h3⟩ := hf (d.sessionOf n)
  refine ⟨hreq, hout, ?_, hcount, fun i hi => ?_⟩
  · unfold Core.Replies
    rw [Core.sessionOf_updSession_self]
    exact ⟨h1.trans hopen, h2.trans htop, h3.trans hreplies⟩
  · rw [Core.sessionOf_updSession_ne _ _ hi, hne i hi]

/-- What the reply leaves of a session. -/
theorem Session.keep_rest (x : Session) (seq : Nat) (b : List Byte) :
    (x.keep seq b).snap = x.snap ∧ (x.keep seq b).part = x.part ∧ (x.keep seq b).subscribed = x.subscribed := by
  rw [Session.keep]
  split
  · exact ⟨rfl, rfl, rfl⟩
  · exact ⟨rfl, rfl, rfl⟩

section
variable {i : Instr} {s : State} {addr : Nat} {port : BitVec 16} {bs : List Byte} {P : Core → Prop} {r : Reply} {d : Core}

/-- A fresh request ends in its reply, with what its execution left of the rest. -/
theorem answersCore_executed (hi : exec i s = loaRow (.udp addr port true bs) s) (h : Fresh s addr port bs) (h5 : (loaParse bs).op ≠ 5)
    (hexec : State.loaExec { s.clear with core := s.clear.core.inc64 Obj.Loa.REQUESTS } (udpPath addr port) (loaParse bs).session
      ((s.core.sessionOf (loaParse bs).session).opened (loaParse bs)) = (r, { s.clear with core := d }))
    (hd : d.Executed s (loaParse bs).session)
    (hp : ∀ c, Replied s addr port bs r c → (c.sessionOf (loaParse bs).session).snap = (d.sessionOf (loaParse bs).session).snap →
      (c.sessionOf (loaParse bs).session).part = (d.sessionOf (loaParse bs).session).part →
      (c.sessionOf (loaParse bs).session).subscribed = (d.sessionOf (loaParse bs).session).subscribed → (∀ k, c.get k = d.get k) → P c) :
    AnswersCore i s P := by
  obtain ⟨hreq, hout, hx, hcount, hne⟩ := hd
  obtain ⟨hsnap, hpart, hsub⟩ := Session.keep_rest (d.sessionOf (loaParse bs).session) (loaParse bs).seq
    (replyBytes (s.core.sessionOf (loaParse bs).session) (loaParse bs) r)
  refine answersCore_loaSeq_new hi h h5 hexec hreq (hp _ (replied_keep h hx hout hcount hne) ?_ ?_ ?_ fun k => rfl)
  · rw [Core.sessionOf_emit, Core.sessionOf_updSession_self, hsnap]
  · rw [Core.sessionOf_emit, Core.sessionOf_updSession_self, hpart]
  · rw [Core.sessionOf_emit, Core.sessionOf_updSession_self, hsub]

theorem Fresh.isOpen (h : Fresh s addr port bs) : (s.core.sessionOf (loaParse bs).session).isOpen = true := h.1.2.2.2.2.2.2.2.2.1

theorem Fresh.le_sixteen (h : Fresh s addr port bs) : (loaParse bs).session ≤ 16 := h.1.2.2.2.2.2.2.2.1

end

/-- A UDP session asks from the world it was admitted to. -/
theorem Core.worldOf_congr {c d : Core} {n : Nat} (hn : n ≤ 16) (ho : (d.sessionOf n).isOpen = (c.sessionOf n).isOpen)
    (hs : (d.sessionOf n).secure = (c.sessionOf n).secure) : d.worldOf n = c.worldOf n := by
  have hudp : ¬ 0xFF00 ≤ n := by omega
  rw [Core.worldOf, Core.worldOf, Core.sessionSecure, Core.sessionSecure, if_neg hudp, if_neg hudp, ho, hs]

theorem State.worldOf_counted (s : State) {n : Nat} (hn : n ≤ 16) : (s.counted n).worldOf n = s.core.worldOf n := by
  obtain ⟨-, -, -, hself, -⟩ := s.counted_facts n
  exact Core.worldOf_congr hn (by rw [hself]) (by rw [hself])

/-! ## READ (R371) -/

theorem State.loaExec_readOp {u : State} {p : LoaPath} {n : Nat} {m : LoaMsg} (h : m.op = 1) : u.loaExec p n m =
    (((u.core.dropPart n).loaRead u.fuses n (min m.dlen (p.room (u.core.sessionOf n).secure)) m).1,
      { u with core := ((u.core.dropPart n).loaRead u.fuses n (min m.dlen (p.room (u.core.sessionOf n).secure)) m).2 }) := by
  simp [State.loaExec, h]

namespace Core

variable {c : Core} {f : Fuses} {n want : Nat} {m : LoaMsg}

theorem loaRead_first (h0 : m.offset = 0) (h : c.readRefusal (c.worldOf n) m.index m.sub = none) : c.loaRead f n want m =
    (segmentReply 0 want (toBytes (sizeOf (256 * m.index + m.sub)) (c.seen f m.index m.sub).v, (c.seen f m.index m.sub).gen,
      (c.seen f m.index m.sub).ready, (c.seen f m.index m.sub).stale, (c.seen f m.index m.sub).status.code),
    c.updSession n fun x => { x with snap := some (256 * m.index + m.sub, toBytes (sizeOf (256 * m.index + m.sub)) (c.seen f m.index m.sub).v,
      (c.seen f m.index m.sub).gen, (c.seen f m.index m.sub).ready, (c.seen f m.index m.sub).stale,
      (c.seen f m.index m.sub).status.code) }) := by
  unfold loaRead
  dsimp only
  rw [if_pos h0, h]

theorem loaRead_next {v : List Byte × Nat × Bool × Bool × Nat} (h0 : m.offset ≠ 0)
    (hsnap : (c.sessionOf n).snap = some (256 * m.index + m.sub, v)) (hlt : m.offset < v.1.length) :
    c.loaRead f n want m = (segmentReply m.offset want v, c) := by
  unfold loaRead
  dsimp only
  rw [if_neg h0, hsnap]
  dsimp only
  rw [if_pos (by simp [hlt])]

theorem loaRead_refused {e : Status} (h0 : m.offset = 0) (h : c.readRefusal (c.worldOf n) m.index m.sub = some e)
    (he : e ≠ .deniedWorld) : c.loaRead f n want m = (Reply.bare e, c.updSession n fun x => { x with snap := none }) := by
  unfold loaRead
  dsimp only
  rw [if_pos h0, h]
  dsimp only
  rw [if_neg he]

theorem loaRead_opened (c : Core) (f : Fuses) (n want : Nat) (x : Session) (m : LoaMsg) :
    c.loaRead f n want (x.opened m) = c.loaRead f n want m := by
  rw [Session.opened_eq]
  rfl

end Core

section
variable {s : State} {addr : Nat} {port : BitVec 16} {bs : List Byte}

/-- Data bytes that a segment of a READ by UDP carries (R362). -/
abbrev readWant (x : Session) (m : LoaMsg) : Nat := min m.dlen (if x.secure then 1192 else 1208)

/-- A READ does what `Core.loaRead` says of the hub that has counted it. -/
theorem answersCore_read {P : Core → Prop} {r : Reply} {d : Core} (h : Fresh s addr port bs) (hop : (loaParse bs).op = 1)
    (hread : (s.counted (loaParse bs).session).loaRead s.fuses (loaParse bs).session
      (readWant (s.core.sessionOf (loaParse bs).session) (loaParse bs)) (loaParse bs) = (r, d)) (hd : d.Executed s (loaParse bs).session)
    (hp : ∀ c, Replied s addr port bs r c → (c.sessionOf (loaParse bs).session).snap = (d.sessionOf (loaParse bs).session).snap →
      (c.sessionOf (loaParse bs).session).part = (d.sessionOf (loaParse bs).session).part → (∀ k, c.get k = d.get k) → P c) :
    AnswersCore (.loaRead (.udp addr port true bs)) s P := by
  refine answersCore_executed (r := r) (d := d) rfl h (by omega) ?_ hd fun c hc hsnap hpart _ hget => hp c hc hsnap hpart hget
  have hwant : ((s.core.sessionOf (loaParse bs).session).opened (loaParse bs)).dlen = (loaParse bs).dlen := by rw [Session.opened_eq]
  rw [State.loaExec_readOp (by rw [Session.op_opened]; exact hop), Core.loaRead_opened, hwant]
  change (((s.counted (loaParse bs).session).loaRead s.fuses (loaParse bs).session
    (readWant (s.core.sessionOf (loaParse bs).session) (loaParse bs)) (loaParse bs)).1, _) = _
  rw [hread]
  have hcore : ((s.counted (loaParse bs).session).loaRead s.fuses (loaParse bs).session
      (readWant (s.core.sessionOf (loaParse bs).session) (loaParse bs)) (loaParse bs)).2 = d := by rw [hread]
  rw [← hcore]
  rfl

variable (h : Fresh s addr port bs) (hop : (loaParse bs).op = 1)
include h hop

theorem answersCore_read_first (h0 : (loaParse bs).offset = 0)
    (hnone : (s.counted (loaParse bs).session).readRefusal (s.core.worldOf (loaParse bs).session) (loaParse bs).index (loaParse bs).sub = none)
    {q : Seen} (hq : q = (s.counted (loaParse bs).session).seen s.fuses (loaParse bs).index (loaParse bs).sub) :
    AnswersCore (.loaRead (.udp addr port true bs)) s fun c =>
      (let v := (toBytes (Sys2Proof.Machine.sizeOf (256 * (loaParse bs).index + (loaParse bs).sub)) q.v, q.gen, q.ready, q.stale, q.status.code)
       Replied s addr port bs (segmentReply 0 (min (loaParse bs).dlen
         (if (s.core.sessionOf (loaParse bs).session).secure then 1192 else 1208)) v) c ∧
       (c.sessionOf (loaParse bs).session).snap = some (256 * (loaParse bs).index + (loaParse bs).sub, v)) ∧
      (c.sessionOf (loaParse bs).session).part = none ∧ ∀ k, c.get k = (s.counted (loaParse bs).session).get k := by
  have hread := Core.loaRead_first (f := s.fuses) (want := readWant (s.core.sessionOf (loaParse bs).session) (loaParse bs)) h0
    (by rw [s.worldOf_counted h.le_sixteen]; exact hnone)
  obtain ⟨-, -, -, hself, -⟩ := s.counted_facts (loaParse bs).session
  have hexec := s.counted_executed h.isOpen
  rw [← hq] at hread
  refine answersCore_read h hop hread (hexec.updSession fun x => ⟨rfl, rfl, rfl⟩) fun c hc hsnap hpart hget => ?_
  rw [Core.sessionOf_updSession_self] at hsnap hpart
  exact ⟨⟨hc, hsnap⟩, by rw [hpart, hself], hget⟩

theorem answersCore_read_next {v : List Byte × Nat × Bool × Bool × Nat} (h0 : (loaParse bs).offset ≠ 0)
    (hsnap : (s.core.sessionOf (loaParse bs).session).snap = some (256 * (loaParse bs).index + (loaParse bs).sub, v))
    (hlt : (loaParse bs).offset < v.1.length) : AnswersCore (.loaRead (.udp addr port true bs)) s fun c =>
      Replied s addr port bs (segmentReply (loaParse bs).offset (min (loaParse bs).dlen
        (if (s.core.sessionOf (loaParse bs).session).secure then 1192 else 1208)) v) c ∧
      (c.sessionOf (loaParse bs).session).snap = (s.core.sessionOf (loaParse bs).session).snap ∧
      ∀ k, c.get k = (s.counted (loaParse bs).session).get k := by
  obtain ⟨-, -, -, hself, -⟩ := s.counted_facts (loaParse bs).session
  have hread := Core.loaRead_next (c := s.counted (loaParse bs).session) (f := s.fuses)
    (want := readWant (s.core.sessionOf (loaParse bs).session) (loaParse bs)) h0 (by rw [hself]; exact hsnap) hlt
  refine answersCore_read h hop hread (s.counted_executed h.isOpen) fun c hc hs _ hget => ⟨hc, ?_, hget⟩
  rw [hs, hself]

theorem answersCore_read_refused {e : Status} (h0 : (loaParse bs).offset = 0)
    (hsome : (s.counted (loaParse bs).session).readRefusal (s.core.worldOf (loaParse bs).session) (loaParse bs).index (loaParse bs).sub = some e)
    (he : e ≠ .deniedWorld) : AnswersCore (.loaRead (.udp addr port true bs)) s fun c =>
      Replied s addr port bs (Reply.bare e) c ∧ (c.sessionOf (loaParse bs).session).snap = none ∧
      ∀ k, c.get k = (s.counted (loaParse bs).session).get k := by
  have hread := Core.loaRead_refused (f := s.fuses) (want := readWant (s.core.sessionOf (loaParse bs).session) (loaParse bs)) h0
    (by rw [s.worldOf_counted h.le_sixteen]; exact hsome) he
  have hexec := s.counted_executed h.isOpen
  refine answersCore_read h hop hread (hexec.updSession fun x => ⟨rfl, rfl, rfl⟩) fun c hc hsnap _ hget => ⟨hc, ?_, hget⟩
  rw [Core.sessionOf_updSession_self] at hsnap
  exact hsnap

end

/-! ## DESCRIBE, SUBSCRIBE, ECHO (R363, R374, R377) -/

theorem State.loaExec_describe {u : State} {p : LoaPath} {n : Nat} {m : LoaMsg} (h : m.op = 3) : u.loaExec p n m =
    (((u.core.dropPart n).loaDescribe n m).1, { u with core := ((u.core.dropPart n).loaDescribe n m).2 }) := by
  simp [State.loaExec, h]

theorem State.loaExec_subscribe {u : State} {p : LoaPath} {n : Nat} {m : LoaMsg} (h : m.op = 7) : u.loaExec p n m =
    (((u.core.dropPart n).loaSubscribe n m).1, { u with core := ((u.core.dropPart n).loaSubscribe n m).2 }) := by
  simp [State.loaExec, h]

theorem State.loaExec_echo {u : State} {p : LoaPath} {n : Nat} {m : LoaMsg} (h : m.op = 9) : u.loaExec p n m =
    (loaEcho m, { u with core := u.core.dropPart n }) := by
  simp [State.loaExec, h]

section
variable {s : State} {addr : Nat} {port : BitVec 16} {bs : List Byte} {m : LoaMsg} (h : Fresh s addr port bs)
  (hm : m = (s.core.sessionOf (loaParse bs).session).opened (loaParse bs))
include h hm

theorem answersCore_loaDescribe {r : Row} (hop : m.op = 3)
    (hnone : (s.counted m.session).describeRefusal (s.core.worldOf m.session) m.index m.sub = none) (hrow : lookup m.index m.sub = some r) :
    AnswersCore (.loaDescribe (.udp addr port true bs)) s fun c =>
      Replied s addr port bs (Reply.whole r.describe) c ∧ (c.sessionOf m.session).part = none ∧
      ∀ k, c.get k = (s.counted m.session).get k := by
  have hn : m.session = (loaParse bs).session := by rw [hm, Session.session_opened]
  have hop' : (loaParse bs).op = 3 := by rw [hm, Session.op_opened] at hop; exact hop
  rw [hn] at hnone ⊢
  obtain ⟨-, -, -, hself, -⟩ := s.counted_facts (loaParse bs).session
  have hdesc : (s.counted (loaParse bs).session).loaDescribe (loaParse bs).session m =
      (Reply.whole r.describe, s.counted (loaParse bs).session) := by
    rw [Core.loaDescribe, s.worldOf_counted h.le_sixteen, hnone]
    dsimp only
    rw [hrow]
  refine answersCore_executed (r := Reply.whole r.describe) (d := s.counted (loaParse bs).session) rfl h (by omega) ?_
    (s.counted_executed h.isOpen) fun c hc _ hpart _ hget => ⟨hc, by rw [hpart, hself], hget⟩
  rw [← hm, State.loaExec_describe hop]
  change (((s.counted (loaParse bs).session).loaDescribe (loaParse bs).session m).1, _) = _
  have hcore : ((s.counted (loaParse bs).session).loaDescribe (loaParse bs).session m).2 = s.counted (loaParse bs).session := by rw [hdesc]
  rw [hdesc, ← hcore]

theorem answersCore_loaSubscribe {b : Byte} (hop : m.op = 7) (hbody : m.body = [b]) (hb : b.toNat ≤ 1) :
    AnswersCore (.loaSubscribe (.udp addr port true bs)) s fun c =>
      Replied s addr port bs (Reply.bare .ok) c ∧ (c.sessionOf m.session).subscribed = decide (b = 1) ∧
      (c.sessionOf m.session).part = none ∧ ∀ k, c.get k = (s.counted m.session).get k := by
  have hn : m.session = (loaParse bs).session := by rw [hm, Session.session_opened]
  have hop' : (loaParse bs).op = 7 := by rw [hm, Session.op_opened] at hop; exact hop
  rw [hn]
  obtain ⟨-, -, -, hself, -⟩ := s.counted_facts (loaParse bs).session
  have hexec := s.counted_executed h.isOpen
  have hsub : ∀ c : Core, c.loaSubscribe (loaParse bs).session m =
      (Reply.bare .ok, c.updSession (loaParse bs).session fun x => { x with subscribed := decide (b = 1) }) := fun c => by
    rw [Core.loaSubscribe, hbody]
    dsimp only
    rw [if_pos hb]
  refine answersCore_executed (r := Reply.bare .ok)
    (d := (s.counted (loaParse bs).session).updSession (loaParse bs).session fun x => { x with subscribed := decide (b = 1) }) rfl h (by omega)
    ?_ (hexec.updSession fun x => ⟨rfl, rfl, rfl⟩) fun c hc _ hpart hsubd hget => ?_
  · rw [← hm, State.loaExec_subscribe hop, hsub]
  · rw [Core.sessionOf_updSession_self] at hpart hsubd
    exact ⟨hc, hsubd, by rw [hpart, hself], hget⟩

theorem answersCore_loaEcho (hop : m.op = 9) (hbody : m.body.length ≤ 64) : AnswersCore (.loaEcho (.udp addr port true bs)) s fun c =>
      Replied s addr port bs (Reply.whole m.body) c ∧ (c.sessionOf m.session).part = none ∧
      ∀ k, c.get k = (s.counted m.session).get k := by
  have hn : m.session = (loaParse bs).session := by rw [hm, Session.session_opened]
  have hop' : (loaParse bs).op = 9 := by rw [hm, Session.op_opened] at hop; exact hop
  rw [hn]
  obtain ⟨-, -, -, hself, -⟩ := s.counted_facts (loaParse bs).session
  refine answersCore_executed (r := Reply.whole m.body) (d := s.counted (loaParse bs).session) rfl h (by omega) ?_
    (s.counted_executed h.isOpen) fun c hc _ hpart _ hget => ⟨hc, by rw [hpart, hself], hget⟩
  rw [← hm, State.loaExec_echo hop, loaEcho, if_pos hbody]

end

end Sys2Proof.Machine
end

section
/-! PROOFS. WRITE, repeated and refused SEQs, OBJECT messages of a Headrace port, and the statement of requests
(14_object_dictionary.md R361 to R363, R370 to R373). -/

namespace Sys2Proof.Machine

/-! ## WRITE (R372, R373) -/

/-- The hub with the assembly of a WRITE as its segment finds it. -/
abbrev State.assembling (s : State) (n : Nat) (m : LoaMsg) : Core :=
  if s.core.partGoesOn n m = true then s.clear.core.inc64 Obj.Loa.REQUESTS else s.counted n

/-- The bytes that a WRITE segment goes on with. -/
abbrev Session.sofar (x : Session) (goes : Bool) : List Byte := if goes = true then (x.part.map fun e => e.2.2).getD [] else []

namespace Core

/-- No check of a write looks at a session. -/
theorem writeRefusal_updSession (c : Core) (n : Nat) (f : Session → Session) (w : World) (idx sub : Nat) (bs : List Byte) :
    (c.updSession n f).writeRefusal w idx sub bs = c.writeRefusal w idx sub bs := rfl

theorem worldOf_updSession_part (c : Core) (n : Nat) (part : Option (Nat × Nat × List Byte)) (hn : n ≤ 16) :
    (c.updSession n fun x => { x with part := part }).worldOf n = c.worldOf n :=
  worldOf_congr hn (by rw [sessionOf_updSession_self]) (by rw [sessionOf_updSession_self])

/-- A write of a stream's configuration is stored (R71). -/
theorem writeValue_stream (c : Core) (f : Fuses) (w : World) {idx sub : Nat} (bs : List Byte) (hlo : 0x2800 ≤ idx) (hhi : idx < 0x2900)
    (hsub : sub ≠ 1) : c.writeValue f w idx sub bs = (.ok, c.store (256 * idx + sub) (ofBytes bs)) := by
  have hkey : 0x280000 + 256 * (idx - 0x2800) + sub = 256 * idx + sub := by omega
  have hstream : c.writeValue f w idx sub bs = c.writeStream (idx - 0x2800) sub (ofBytes bs) := by
    unfold writeValue
    dsimp only
    rw [if_neg (by omega), if_neg (by omega), if_neg (by omega), if_neg (by omega), if_neg (by simp; omega), if_pos (by simp; omega)]
  rw [hstream, writeStream, if_neg hsub, stored, hkey]

@[simp] theorem sessionOf_store (c : Core) (k v i : Nat) : (c.store k v).sessionOf i = c.sessionOf i := by
  unfold store
  split <;> rfl

@[simp] theorem out_store (c : Core) (k v : Nat) : (c.store k v).out = c.out := by
  unfold store
  split <;> rfl

@[simp] theorem req_store (c : Core) (k v : Nat) : (c.store k v).req = c.req := by
  unfold store
  split <;> rfl

theorem Executed.withPart {d : Core} {s : State} {n : Nat} (h : d.Executed s n) (part : Option (Nat × Nat × List Byte)) :
    (d.updSession n fun x => { x with part := part }).Executed s n := h.updSession fun _ => ⟨rfl, rfl, rfl⟩

theorem Executed.store {d : Core} {s : State} {n k : Nat} (h : d.Executed s n) (v : Nat) (hk : k ≠ Obj.Loa.REQUESTS) :
    (d.store k v).Executed s n := by
  obtain ⟨hreq, hout, hx, hcount, hne⟩ := h
  refine ⟨by rw [req_store, hreq], by rw [out_store, hout], ?_, ?_, fun i hi => ?_⟩
  · unfold Replies
    rw [sessionOf_store]
    exact hx
  · rw [get_store_ne _ (Ne.symm hk), hcount]
  · rw [sessionOf_store, hne i hi]

end Core

/-- A write of a stream's configuration that the checks admit. -/
theorem State.writeObject_stream {u : State} {w : World} {idx sub : Nat} {bs : List Byte} (hlo : 0x2800 ≤ idx) (hhi : idx < 0x2900)
    (hsub : sub ≠ 1) (hclear : clearableOf idx sub = none) (h : u.core.writeRefusal w idx sub bs = none) :
    u.writeObject w idx sub bs 0 = (.ok, { u with core := u.core.store (256 * idx + sub) (ofBytes bs) }) := by
  rw [State.writeObject, h, hclear]
  have hcore : coreObject idx sub := ⟨by omega, by omega, by omega, by omega⟩
  refine (State.admitted_of_coreObject u w bs hcore).trans ?_
  rw [Core.writeValue_stream _ _ _ _ hlo hhi hsub]
  rfl

section
variable {s : State} {n : Nat} {m : LoaMsg}

theorem State.assembling_executed (h : (s.core.sessionOf n).isOpen = true) : (s.assembling n m).Executed s n := by
  rw [State.assembling]
  split
  · refine ⟨rfl, rfl, ⟨h, rfl, rfl⟩, ?_, fun i _ => rfl⟩
    rw [Core.get_inc64_min]
    rfl
  · exact State.counted_executed h

theorem State.worldOf_assembling (hn : n ≤ 16) : (s.assembling n m).worldOf n = s.core.worldOf n := by
  rw [State.assembling]
  split
  · exact Core.worldOf_congr hn rfl rfl
  · exact s.worldOf_counted hn

theorem State.part_assembling :
    (((s.assembling n m).sessionOf n).part.map fun e => e.2.2).getD [] = (s.core.sessionOf n).sofar (s.core.partGoesOn n m) := by
  rw [State.assembling, Session.sofar]
  split
  · rfl
  · obtain ⟨-, -, -, hself, -⟩ := s.counted_facts n
    rw [hself]
    rfl

/-- The hub as a WRITE segment leaves it before its value is applied. -/
abbrev State.assembled (s : State) (n : Nat) (m : LoaMsg) : Core := (s.assembling n m).updSession n fun x => { x with part := none }

/-- A segment that adds up with what was assembled is kept, or completes the value that is applied. -/
theorem State.loaWrite_adds {u : State} {c d : Core} {sofar : List Byte} (hc : c = if u.core.partGoesOn n m = true then u.core else u.core.dropPart n)
    (hsofar : ((c.sessionOf n).part.map fun e => e.2.2).getD [] = sofar) (hoff : m.offset = sofar.length) (htotal : m.total ≤ 4096)
    (hlen : (sofar ++ m.body).length ≤ m.total) (hend : m.more = false → (sofar ++ m.body).length = m.total)
    (hd : d = c.updSession n fun x => { x with part := none }) : u.loaWrite n m = if m.more = true then
        (Reply.bare .ok, { u with core := d.updSession n fun x => { x with part := some (256 * m.index + m.sub, m.total, sofar ++ m.body) } })
      else (Reply.bare (State.writeObject { u with core := d } (d.worldOf n) m.index m.sub (sofar ++ m.body) 0).1,
        (State.writeObject { u with core := d } (d.worldOf n) m.index m.sub (sofar ++ m.body) 0).2) := by
  have hbad : ¬ (decide (m.offset ≠ sofar.length) || decide (4096 < m.total) || decide (m.total < (sofar ++ m.body).length) ||
      (!m.more && decide ((sofar ++ m.body).length ≠ m.total))) = true := by
    cases hmore : m.more with
    | false => simp only [hoff, hend hmore]; simp; omega
    | true => simp only [hoff]; simp at hlen ⊢; omega
  unfold State.loaWrite
  dsimp only
  rw [← hc, ← hd]
  cases hp : (c.sessionOf n).part with
  | none =>
    have hnil : sofar = [] := by rw [← hsofar, hp]; rfl
    subst hnil
    exact if_neg hbad
  | some e =>
    obtain ⟨k, t, b⟩ := e
    have hb : sofar = b := by rw [← hsofar, hp]; rfl
    subst hb
    exact if_neg hbad

end

section
variable {s : State} {addr : Nat} {port : BitVec 16} {bs : List Byte} {m : LoaMsg} {all : List Byte} (h : Fresh s addr port bs)
  (hm : m = (s.core.sessionOf (loaParse bs).session).opened (loaParse bs)) (hop : m.op = 2)
  (hall : all = (s.core.sessionOf m.session).sofar (s.core.partGoesOn m.session m) ++ m.body)
  (hoff : m.offset = ((s.core.sessionOf m.session).sofar (s.core.partGoesOn m.session m)).length) (htotal : m.total ≤ 4096)
include h hm hop hall hoff htotal

/-- What the last segment of a WRITE, or one that goes on, leaves the hub to reply to. -/
theorem State.loaExec_write (hlen : all.length ≤ m.total) (hend : m.more = false → all.length = m.total) :
    State.loaExec { s.clear with core := s.clear.core.inc64 Obj.Loa.REQUESTS } (udpPath addr port) m.session m =
      if m.more = true then (Reply.bare .ok, { s.clear with core := (s.assembled m.session m).updSession m.session fun x =>
        { x with part := some (256 * m.index + m.sub, m.total, all) } })
      else (Reply.bare (State.writeObject { s.clear with core := s.assembled m.session m } (s.core.worldOf m.session) m.index m.sub all 0).1,
        (State.writeObject { s.clear with core := s.assembled m.session m } (s.core.worldOf m.session) m.index m.sub all 0).2) := by
  have hn : m.session ≤ 16 := by rw [hm, Session.session_opened]; exact h.le_sixteen
  have hwrite := State.loaWrite_adds (u := { s.clear with core := s.clear.core.inc64 Obj.Loa.REQUESTS }) (c := s.assembling m.session m)
    rfl State.part_assembling hoff htotal (by rw [← hall]; exact hlen) (by rw [← hall]; exact hend) rfl
  rw [Core.worldOf_updSession_part _ _ _ hn, State.worldOf_assembling hn, ← hall] at hwrite
  refine Eq.trans ?_ hwrite
  simp [State.loaExec, hop]

theorem answersCore_loaWrite_more (hmore : m.more = true) (hlen : all.length ≤ m.total) :
    AnswersCore (.loaWrite (.udp addr port true bs)) s fun c =>
      Replied s addr port bs (Reply.bare .ok) c ∧ (c.sessionOf m.session).part = some (256 * m.index + m.sub, m.total, all) ∧
      ∀ k, c.get k = (s.assembling m.session m).get k := by
  have hexec := State.loaExec_write h hm hop hall hoff htotal hlen (by rw [hmore]; exact fun h => absurd h (by decide))
  rw [if_pos hmore] at hexec
  have hn : (loaParse bs).session = m.session := by rw [hm, Session.session_opened]
  have hop' : (loaParse bs).op ≠ 5 := by rw [hm, Session.op_opened] at hop; omega
  have hopen := h.isOpen
  rw [hn] at hopen
  have hd := (State.assembling_executed (m := m) hopen)
  refine answersCore_executed (r := Reply.bare .ok) (d := (s.assembled m.session m).updSession m.session fun x =>
        { x with part := some (256 * m.index + m.sub, m.total, all) }) rfl h hop' (by rw [← hm, hn]; exact hexec)
    (by rw [hn]; exact (hd.withPart none).withPart _) fun c hc _ hpart _ hget => ⟨hc, ?_, hget⟩
  rw [hn, Core.sessionOf_updSession_self] at hpart
  exact hpart

/-- The value of a WRITE is applied, and its status is the reply. -/
theorem answersCore_loaWrite_last {P : Core → Prop} {st : Status} {d : Core} (hmore : m.more = false) (hlen : all.length = m.total)
    (hwrite : State.writeObject { s.clear with core := s.assembled m.session m } (s.core.worldOf m.session) m.index m.sub all 0 =
      (st, { s.clear with core := d })) (hd : d.Executed s m.session)
    (hp : ∀ c, Replied s addr port bs (Reply.bare st) c → (c.sessionOf m.session).part = (d.sessionOf m.session).part →
      (∀ k, c.get k = d.get k) → P c) : AnswersCore (.loaWrite (.udp addr port true bs)) s P := by
  have hexec := State.loaExec_write h hm hop hall hoff htotal (by omega) fun _ => hlen
  rw [if_neg (by rw [hmore]; decide), hwrite] at hexec
  have hn : (loaParse bs).session = m.session := by rw [hm, Session.session_opened]
  have hop' : (loaParse bs).op ≠ 5 := by rw [hm, Session.op_opened] at hop; omega
  refine answersCore_executed (r := Reply.bare st) (d := d) rfl h hop' (by rw [← hm, hn]; exact hexec) (by rw [hn]; exact hd)
    fun c hc _ hpart _ hget => hp c hc (by rw [← hn]; exact hpart) hget

theorem answersCore_loaWrite_stream (hmore : m.more = false) (hlen : all.length = m.total) (hlo : 0x2800 ≤ m.index)
    (hhi : m.index < 0x2900) (hsub : m.sub ≠ 1) (hclear : clearableOf m.index m.sub = none)
    (hnone : (s.assembling m.session m).writeRefusal (s.core.worldOf m.session) m.index m.sub all = none) :
    AnswersCore (.loaWrite (.udp addr port true bs)) s fun c =>
      Replied s addr port bs (Reply.bare .ok) c ∧ (c.sessionOf m.session).part = none ∧
      c.get (256 * m.index + m.sub) = ofBytes all ∧
      ∀ k, k ≠ 256 * m.index + m.sub → c.get k = (s.assembling m.session m).get k := by
  have hopen : (s.core.sessionOf m.session).isOpen = true := by rw [hm, Session.session_opened]; exact h.isOpen
  have hkey : 256 * m.index + m.sub ≠ Obj.Loa.REQUESTS := by simp [Obj.Loa.REQUESTS]; omega
  have hwrite := State.writeObject_stream (u := { s.clear with core := s.assembled m.session m }) hlo hhi hsub hclear hnone
  have hd := (State.assembling_executed (m := m) hopen)
  refine answersCore_loaWrite_last h hm hop hall hoff htotal hmore hlen hwrite
    ((hd.withPart none).store (ofBytes all) hkey) fun c hc hpart hget => ⟨hc, ?_, ?_, fun k hk => ?_⟩
  · rw [hpart, Core.sessionOf_store, Core.sessionOf_updSession_self]
  · rw [hget, Core.get_store_self]
  · rw [hget, Core.get_store_ne _ hk]
    rfl

theorem answersCore_loaWrite_refused {e : Status} (hmore : m.more = false) (hlen : all.length = m.total)
    (hsome : (s.assembling m.session m).writeRefusal (s.core.worldOf m.session) m.index m.sub all = some e) (he : e ≠ .deniedWorld) :
    AnswersCore (.loaWrite (.udp addr port true bs)) s fun c =>
      Replied s addr port bs (Reply.bare e) c ∧ (c.sessionOf m.session).part = none ∧
      ∀ k, c.get k = (s.assembling m.session m).get k := by
  have hopen : (s.core.sessionOf m.session).isOpen = true := by rw [hm, Session.session_opened]; exact h.isOpen
  have hd := (State.assembling_executed (m := m) hopen)
  refine answersCore_loaWrite_last h hm hop hall hoff htotal hmore hlen
    (State.writeObject_refused { s.clear with core := s.assembled m.session m } (set := 0) hsome he)
    (hd.withPart none) fun c hc hpart hget => ⟨hc, ?_, hget⟩
  rw [hpart, Core.sessionOf_updSession_self]

end

/-! ## SEQs that were refused or executed (R370) -/

section
variable {s : State} {addr : Nat} {port : BitVec 16} {bs : List Byte} (h : Asked s addr port bs)
  (htag : (loaParse bs).tagged = true → (s.core.sessionOf (loaParse bs).session).secure = true) (h5 : (loaParse bs).op ≠ 5)
include h htag h5

theorem answersCore_again {held : List Byte} (hseq : seqRefused (s.core.sessionOf (loaParse bs).session).top (loaParse bs).seq = false)
    (hheld : (s.core.sessionOf (loaParse bs).session).held (loaParse bs).seq = some held) :
    AnswersCore (.loaWrite (.udp addr port true bs)) s fun c =>
      c.out = [.udp addr port.toNat held] ∧ c.get Obj.Loa.DUPLICATES = min (s.core.get Obj.Loa.DUPLICATES + 1) (2 ^ 32 - 1) ∧
      c.sessions = s.core.sessions ∧ ∀ k, k ≠ Obj.Loa.DUPLICATES → c.get k = s.core.get k := by
  have hclear : s.clear.core.sessionOf (loaParse bs).session = s.core.sessionOf (loaParse bs).session := rfl
  refine answersCore_loaSeq (c := (s.clear.core.inc Obj.Loa.DUPLICATES).emit (.udp addr port.toNat held)) rfl h h5 htag ?_ rfl
    ⟨rfl, ?_, rfl, fun k hk => ?_⟩
  · unfold State.loaSeq
    dsimp only
    rw [hclear, Session.seq_opened, hseq, if_neg (by decide), hheld]
    dsimp only
    rw [Core.again, Core.sendLoa_udp]
  · rw [Core.get_emit, Core.get_inc_min]
    rfl
  · rw [Core.get_emit, Core.get_inc_ne _ hk]
    rfl

theorem answersCore_seqRefused (hseq : seqRefused (s.core.sessionOf (loaParse bs).session).top (loaParse bs).seq = true) :
    AnswersCore (.loaWrite (.udp addr port true bs)) s fun c =>
      c.out = [.udp addr port.toNat (replyBytes (s.core.sessionOf (loaParse bs).session) (loaParse bs) (Reply.bare .malformed))] ∧
      c.bitOf Obj.Loa.FLAGS 1 = true ∧ c.sessions = s.core.sessions ∧ ∀ k, k ≠ Obj.Loa.FLAGS → c.get k = s.core.get k := by
  have hclear : s.clear.core.sessionOf (loaParse bs).session = s.core.sessionOf (loaParse bs).session := rfl
  refine answersCore_loaSeq (c := (s.clear.core.flag Obj.Loa.FLAGS 1).emit (.udp addr port.toNat
      (replyBytes (s.core.sessionOf (loaParse bs).session) (loaParse bs) (Reply.bare .malformed)))) rfl h h5 htag ?_ rfl
    ⟨rfl, Core.bitOf_flag_self _ _ _, rfl, fun k hk => ?_⟩
  · unfold State.loaSeq
    dsimp only
    rw [hclear, Session.seq_opened, hseq, if_pos rfl, Core.answerLoa, Core.sendLoa_udp, replyBytes_opened]
  · rw [Core.get_emit, Core.get_flag_ne _ _ hk]
    rfl

end

/-! ## OBJECT messages of a Headrace port (R47, R365) -/

/-- An OBJECT message that is whole is a message of its port. -/
theorem loaRow_headrace {s : State} {p : Port} {x : Cell} {c : Core} {bs : List Byte} (hup : s.core.seqUp = true) (hwf : x.wf = true)
    (hopens : (LoaArrival.headrace p x).opens = false) (hobj : s.clear.core.objectIn p.val x = (c, some bs)) :
    loaRow (.headrace p x) s =
      .next ((({ s.clear with core := c } : State).loaMessage { udp := false, a := p.val, b := x.tag.toNat } bs 0).settle) := by
  have harrival : s.clear.loaArrival (.headrace p x) 0 =
      ({ s.clear with core := c } : State).loaMessage { udp := false, a := p.val, b := x.tag.toNat } bs 0 := by
    rw [State.loaArrival, hobj]
  rw [loaRow, formed_of_wf (by simp [LoaArrival.wf, hwf, hopens]), State.loaIn, State.when, hup, State.act, harrival]
  rfl

/-! ## The obligation -/

/-- Settles O50: each request is followed through its execution to the reply that its session keeps. -/
theorem requests : Obligations.Requests := by
  refine ⟨?_, ?_, ?_, ?_, ?_⟩
  · rintro s addr port bs m x d rfl rfl rfl h hop
    exact ⟨fun q h0 hnone hq => answersCore_read_first h hop h0 hnone hq,
      fun v h0 hsnap hlt => answersCore_read_next h hop h0 hsnap hlt,
      fun e h0 hsome he => answersCore_read_refused h hop h0 hsome he⟩
  · rintro s addr port bs m x d sofar all rfl hm h hop rfl rfl hall hoff htotal
    have hn : m.session = (loaParse bs).session := by rw [hm, Session.session_opened]
    rw [← hn] at hall hoff
    exact ⟨answersCore_loaWrite_more h hm hop hall hoff htotal,
      fun hmore hlen hlo hhi hsub hclear hnone =>
        answersCore_loaWrite_stream h hm hop hall hoff htotal hmore hlen hlo hhi hsub hclear hnone,
      fun e hmore hlen hsome he => answersCore_loaWrite_refused h hm hop hall hoff htotal hmore hlen hsome he⟩
  · rintro s addr port bs m d hm rfl h
    exact ⟨fun r hop hnone hrow => answersCore_loaDescribe h hm hop hnone hrow,
      fun b hop hbody hb => answersCore_loaSubscribe h hm hop hbody hb, answersCore_loaEcho h hm⟩
  · rintro s addr port bs m x rfl rfl h htag h5
    exact ⟨fun held hseq hheld => answersCore_again h htag h5 hseq hheld, answersCore_seqRefused h htag h5⟩
  · intro s p x c bs hup hwf hopens hobj i hi
    have hrow := loaRow_headrace hup hwf hopens hobj
    simp only [List.mem_cons, List.not_mem_nil, or_false] at hi
    rcases hi with rfl | rfl | rfl | rfl | rfl | rfl | rfl | rfl
    all_goals exact hrow

end Sys2Proof.Machine
end

section
/-! PROOFS. The refutation of the statement about a READ's burst (10_ecc_repair.md R252): the statement does not bound MARK_SYMS, and with
0 of it every package reaches the limit in a burst without a corrected symbol, which makes no suspect. -/

namespace Sys2Proof.Machine

/-- A read of port 0, issued and awaited, which an ALERT replay has issued again. -/
def awaitedRead : Req64 := { readReq 0 0 (.hrRead 0 0 0 0) with replayed := true }

/-- The hub in UP and IDLE with MARK_SYMS 0 and a start under way: subchannel 0 awaits one read. -/
def limitless : State :=
  { State.reset with core :=
    { ((((Core.init.put Obj.Seq.SEQ_STATE 2).put Obj.Dev.DEVICE_STATE Dv.idle).put Obj.Ecc.MARK_SYMS 0).updMc 0
        fun m => { m with flight := [awaitedRead] }) with
      start := some { origin := 0, begun := 0, exits := 0, restores := 0, trains := 0, cold := false } } }

/-- A burst as it was stored. -/
def cleanBurst : ReadData := { err := List.replicate 80 0, shadow := List.replicate 10 (0, 0), interruptNs := 0 }

/-- The state after the burst. -/
def limitlessAfter : State := limitless.onHub fun c => (c.readDecode 0 cleanBurst).repairTurn 0

theorem limitless_hypotheses : limitless.core.hubUp = true ∧ cleanBurst.wf = true ∧
    (limitless.core.mcOf 0).flight.find? (fun r => r.at_ == .out || r.at_ == .stale) = some awaitedRead ∧
    (limitless.core.mcOf 0).stopped = false ∧ (limitless.core.portOf 0).ups = 0 ∧ (limitless.core.eccOf 0).suspect = none ∧
    (limitless.core.eccOf 0).outcomes = [] ∧ (limitless.core.eccOf 0).repair = none ∧
    (∀ q ∈ (limitless.core.mcOf 0).flight, q.at_ ≠ .stale ∧ q.at_ ≠ .kept ∧ q.inReplay = false) := by decide +kernel

theorem cleanBurst_judged : judge (cleanBurst.err.map (·.toNat)) awaitedRead.poison
    (limitless.core.markedLane 0 ((limitless.core.dramOf awaitedRead.ha).lr / 4)) = .data [] (List.replicate 80 0) := by decide +kernel

theorem limitless_hits : limitless.core.hitLanes [] = [0, 1, 2, 3, 4, 5, 6, 7, 8, 9] := by decide +kernel

theorem limitlessAfter_suspects : limitlessAfter.latch = false ∧ limitlessAfter.core.start.isSome = true ∧
    limitlessAfter.core.get (Obj.EccSc.SUSPECTS 0) = 0 := by decide +kernel

theorem exec_readDecode (sc : ScNo) {x : ReadData} (s : State) (h : x.wf = true) :
    exec (.readDecode sc x) s = .next (s.onHub fun c => (c.readDecode sc.val x).repairTurn sc.val) := formed_of_wf h

/-- Refutes O38: with MARK_SYMS 0 a burst without a corrected symbol has MARK_SYMS of them in every package, and no suspect is counted. -/
theorem not_readDecoding : ¬ Obligations.ReadDecoding := by
  unfold Obligations.ReadDecoding
  intro h
  obtain ⟨hread, -, -, -⟩ := h
  obtain ⟨hup, hwf, hfind, hstop, hups, hsus, hout, hrep, hplain⟩ := limitless_hypotheses
  obtain ⟨-, -, -, hsuspect, -, -⟩ := hread limitless 0 cleanBurst _ _ awaitedRead 0 0 0 0 _ hup hwf rfl rfl hfind rfl hstop rfl hups hsus hout
    hrep hplain rfl
  obtain ⟨c, hexec, -, -, hcount, -⟩ := hsuspect [] _ 0 _ cleanBurst_judged limitless_hits
  obtain ⟨hlatch, hstart, hzero⟩ := limitlessAfter_suspects
  have hend : ({ limitless with core := c } : State).settle = limitlessAfter :=
    (Host.Outcome.next.inj ((exec_readDecode 0 limitless hwf).symm.trans hexec)).symm
  rw [← hend] at hlatch hstart hzero
  have hcalm := State.settle_calm hlatch hstart (k := Obj.EccSc.SUSPECTS 0) (by unfold Core.calmKey; decide)
  have hbefore : limitless.core.get (Obj.EccSc.SUSPECTS (0 : ScNo).val) = 0 := by decide +kernel
  rw [hbefore] at hcount
  exact absurd ((hcalm.trans hcount).symm.trans hzero) (by decide)

end Sys2Proof.Machine
end

section
/-! PROOFS. Checkers and erasures (10_ecc_repair.md R251, R253, R264). -/

namespace Sys2Proof.Machine

namespace Core

variable {c d : Core} {n : Nat}

/-! ## The error log (R264) -/

/-- A record changes the ring of records and its count alone. -/
theorem get_eccLog {k : Nat} (c : Core) (ev sc lane rq : Nat) (syms : List Nat) (a : DramAddr) (t : Nat)
    (h1 : k < 0x3B2000 ∨ 0x3B2800 ≤ k) (h2 : k ≠ Obj.Ecc.LOG_COUNT) : (c.eccLog ev sc lane rq syms a t).get k = c.get k := by
  unfold eccLog
  rw [get_inc64_ne _ h2, get_put_ne _ _ (by simp only [Obj.EccLog.RECORD]; omega), get_withEccSeq]

theorem eccLog_count (c : Core) (ev sc lane rq : Nat) (syms : List Nat) (a : DramAddr) (t : Nat) :
    (c.eccLog ev sc lane rq syms a t).get Obj.Ecc.LOG_COUNT = min (c.get Obj.Ecc.LOG_COUNT + 1) (2 ^ 64 - 1) := by
  unfold eccLog
  rw [get_inc64_min, get_put_ne _ _ (by simp only [Obj.EccLog.RECORD, Obj.Ecc.LOG_COUNT]; omega), get_withEccSeq]

theorem fc_eccLog (c : Core) (ev sc lane rq : Nat) (syms : List Nat) (a : DramAddr) (t : Nat) :
    (c.eccLog ev sc lane rq syms a t).fc = c.fc := by
  unfold eccLog inc64 add
  rw [fc_put, fc_put]
  rfl

theorem ecc_eccLog (c : Core) (ev sc lane rq : Nat) (syms : List Nat) (a : DramAddr) (t : Nat) :
    (c.eccLog ev sc lane rq syms a t).ecc = c.ecc := by
  unfold eccLog inc64 add
  rw [ecc_put, ecc_put]
  rfl

/-! ## The checkers (R251) -/

theorem checkerFail_facts (hs : (sourceInfo? (Src.eccChecker n)).isNone = false) : (c.checkerFail n).bitOf (Obj.EccSc.FLAGS n) 8 = true ∧
    (c.checkerFail n).bitOf Obj.Ecc.FLAGS 3 = true ∧
    (c.checkerFail n).get Obj.Ecc.LOG_COUNT = min (c.get Obj.Ecc.LOG_COUNT + 1) (2 ^ 64 - 1) ∧ c.Raises (Src.eccChecker n) (c.checkerFail n) := by
  have hraise := fun d : Core => fcOnly_raise d (Src.eccChecker n) (ctxNone 11 2)
  unfold checkerFail
  refine ⟨?_, ?_, ?_, ?_⟩
  · rw [bitOf_congr 8 ((hraise _).get (by simp; omega)), bitOf_congr 8 (get_eccLog _ _ _ _ _ _ _ _ (.inr (by simp; omega)) (by simp; omega)),
      bitOf_congr 8 (get_flag_ne _ _ (by simp; omega))]
    exact bitOf_flag_self _ _ _
  · rw [bitOf_congr 3 ((hraise _).get (by decide)), bitOf_congr 3 (get_eccLog _ _ _ _ _ _ _ _ (.inl (by decide)) (by decide))]
    exact bitOf_flag_self _ _ _
  · rw [(hraise _).get (by decide), eccLog_count, get_flag_ne _ _ (by decide), get_flag_ne _ _ (by simp; omega)]
  · refine raises_of_raise _ hs (fc_eccLog _ _ _ _ _ _ _ _) ?_
    rw [get_eccLog _ _ _ _ _ _ _ _ (.inr (by simp; omega)) (by simp; omega), get_flag_ne _ _ (by simp; omega), get_flag_ne _ _ (by simp; omega)]

/-! ## ERASE_MAP (R253) -/

theorem checkInsertion_rest (c : Core) (n pr : Nat) : (∀ k, (c.checkInsertion n pr).get k = c.get k) ∧
    (∀ j, (c.checkInsertion n pr).laneOf n j = c.laneOf n j) := by
  unfold checkInsertion
  split
  · exact ⟨fun _ => rfl, fun _ => rfl⟩
  · exact ⟨fun _ => rfl, fun _ => rfl⟩

/-- What a new map makes of a lane: a marked one reads ERASED, and one that was so is in service again or not trained. -/
def remarked (c : Core) (n v i : Nat) (l : FtLane) : FtLane :=
  if (c.put (Obj.EccSc.ERASE_MAP n) v).markedLane n (i / 10) = some (i % 10) then { l with state := 5 }
  else if l.state = 5 then
    { l with state := if c.trainState n = 2 then 1 else 0, n := 0, e := 0, l := 0, tr := 0, ones := 0, bursts := 0, moved := false, live := false }
  else l

/-- Each package rank keeps its mark, loses it or has its first. -/
abbrev oneMark (old v : Nat) : Prop :=
  (v / 256 = 0xFF ∨ old / 256 = 0xFF ∨ old / 256 = v / 256) ∧ (v % 256 = 0xFF ∨ old % 256 = 0xFF ∨ old % 256 = v % 256)

theorem eraseMap_ok_iff (old v : Nat) :
    (!(decide (v / 256 = 0xFF) || decide (old / 256 = 0xFF) || decide (old / 256 = v / 256)) ||
      !(decide (v % 256 = 0xFF) || decide (old % 256 = 0xFF) || decide (old % 256 = v % 256))) = true ↔ ¬ oneMark old v := by
  simp only [oneMark, Bool.or_eq_true, Bool.not_eq_true', Bool.or_eq_false_iff, decide_eq_false_iff_not]
  omega

theorem writeEraseMap_ok {v : Nat} (h : oneMark (c.get (Obj.EccSc.ERASE_MAP n)) v) : ∃ e : Core, c.writeEraseMap n v = (.ok, e) ∧
    (∀ k, e.get k = (c.put (Obj.EccSc.ERASE_MAP n) v).get k) ∧ ∀ i < 20, e.laneOf n i = c.remarked n v i (c.laneOf n i) := by
  have hfold := laneOf_updLanes (c.put (Obj.EccSc.ERASE_MAP n) v).touch n 20 (idx := id) (fun _ _ h => h) (c.remarked n v)
  have hget : ∀ (l : List Nat) (e : Core) (k : Nat), (l.foldl (fun k i => k.updLane n i (c.remarked n v i)) e).get k = e.get k := by
    intro l
    induction l with
    | nil => exact fun _ _ => rfl
    | cons i l ih => exact fun e k => (ih _ k).trans rfl
  refine ⟨((((List.range 20).foldl (fun k i => k.updLane n i (c.remarked n v i)) (c.put (Obj.EccSc.ERASE_MAP n) v).touch).checkInsertion n
    0).checkInsertion n 1), ?_, fun k => ?_, fun i hi => ?_⟩
  · unfold writeEraseMap
    dsimp only
    rw [if_neg ((eraseMap_ok_iff _ _).not.mpr (not_not.mpr h))]
    rfl
  · rw [(checkInsertion_rest _ n 1).1, (checkInsertion_rest _ n 0).1, hget]
    rfl
  · rw [(checkInsertion_rest _ n 1).2, (checkInsertion_rest _ n 0).2]
    exact hfold.1 i hi

theorem writeEraseMap_malformed {v : Nat} (h : ¬ oneMark (c.get (Obj.EccSc.ERASE_MAP n)) v) : c.writeEraseMap n v = (.malformed, c) := by
  unfold writeEraseMap
  dsimp only
  rw [if_pos ((eraseMap_ok_iff _ _).mpr h)]

end Core

section
variable {s : State}

theorem exec_decoderSelftest (sc : ScNo) (s : State) {l : List Nat} (h : l.length = 4) :
    exec (.decoderSelftest sc l) s = .next (s.onHub fun c => c.decoderSelftest sc.val l) := formed_of_wf (by simp [h])

theorem exec_decoderSelftest_good (sc : ScNo) (hup : s.core.hubUp = true) : exec (.decoderSelftest sc [1, 1, 3, 2]) s = .next s.clear := by
  rw [exec_decoderSelftest sc s rfl, State.onHub_eq s _ hup rfl]
  rfl

theorem answersThen_decoderSelftest (sc : ScNo) {l : List Nat} (hup : s.core.hubUp = true) (hlen : l.length = 4) (hbad : l ≠ [1, 1, 3, 2]) :
    AnswersThen (.decoderSelftest sc l) s fun c =>
      c.bitOf (Obj.EccSc.FLAGS sc.val) 8 = true ∧ c.bitOf Obj.Ecc.FLAGS 3 = true ∧
      c.get Obj.Ecc.LOG_COUNT = min (s.core.get Obj.Ecc.LOG_COUNT + 1) (2 ^ 64 - 1) ∧ s.clear.core.Raises (Src.eccChecker sc.val) c := by
  have hs : (sourceInfo? (Src.eccChecker sc.val)).isNone = false := by
    revert sc
    decide +kernel
  refine answersThen_onHub _ (exec_decoderSelftest sc s hlen) hup ?_
  rw [Core.decoderSelftest, if_neg hbad]
  exact Core.checkerFail_facts hs

theorem eraseMap_parts (sc : ScNo) : Obj.EccSc.ERASE_MAP sc.val / 256 = 0x6000 + 0x40 * sc.val + 8 ∧ Obj.EccSc.ERASE_MAP sc.val % 256 = 1 := by
  simp
  omega

theorem clearableOf_eraseMap : ∀ sc : ScNo, clearableOf (Obj.EccSc.ERASE_MAP sc.val / 256) (Obj.EccSc.ERASE_MAP sc.val % 256) = none := by
  decide +kernel

theorem writeValue_eraseMap {w : World} {sc : ScNo} {v : Nat} (hadm : Admits s w (Obj.EccSc.ERASE_MAP sc.val) v) :
    s.clear.core.writeValue s.fuses w (Obj.EccSc.ERASE_MAP sc.val / 256) (Obj.EccSc.ERASE_MAP sc.val % 256)
      (toBytes (sizeOf (Obj.EccSc.ERASE_MAP sc.val)) v) = s.clear.core.writeEraseMap sc.val v := by
  obtain ⟨hidx, hsub⟩ := eraseMap_parts sc
  rw [hidx, hsub, Core.writeValue_sc _ _ _ _ _ (by decide), ofBytes_toBytes_of_fits hadm.2.1]
  rfl

theorem coreObject_eraseMap (sc : ScNo) : coreObject (Obj.EccSc.ERASE_MAP sc.val / 256) (Obj.EccSc.ERASE_MAP sc.val % 256) := by
  rw [(eraseMap_parts sc).1, (eraseMap_parts sc).2, coreObject]
  omega

theorem answersOk_eraseMap {sc : ScNo} {w : World} {v : BitVec 16} (hadm : Admits s w (Obj.EccSc.ERASE_MAP sc.val) v.toNat)
    (h : Core.oneMark (s.core.get (Obj.EccSc.ERASE_MAP sc.val)) v.toNat) : AnswersOk (.eraseMapWrite sc w v) s fun c =>
      c.get (Obj.EccSc.ERASE_MAP sc.val) = v.toNat ∧
      (∀ i < 20, c.markedLane sc.val (i / 10) = some (i % 10) → (c.laneOf sc.val i).state = 5) ∧
      (∀ i < 20, c.markedLane sc.val (i / 10) ≠ some (i % 10) → (s.core.laneOf sc.val i).state = 5 →
        (c.laneOf sc.val i).state = if s.core.trainState sc.val = 2 then 1 else 0) ∧
      ∀ k, k ≠ Obj.EccSc.ERASE_MAP sc.val → c.get k = s.core.get k := by
  obtain ⟨e, hw, hget, hlane⟩ := Core.writeEraseMap_ok (c := s.clear.core) (n := sc.val) (v := v.toNat) h
  have hmark : ∀ pr, (e.emit (.status .ok)).markedLane sc.val pr = (s.clear.core.put (Obj.EccSc.ERASE_MAP sc.val) v.toNat).markedLane sc.val pr :=
    fun pr => by rw [Core.markedLane, Core.markedLane, Core.get_emit, hget]
  refine answersOk_writeNum rfl hadm (clearableOf_eraseMap sc) (coreObject_eraseMap sc) ((writeValue_eraseMap hadm).trans hw)
    ⟨?_, fun i hi hm => ?_, fun i hi hm hfive => ?_, fun k hk => ?_⟩
  · rw [Core.get_emit, hget, Core.get_put_self]
  · rw [hmark] at hm
    have : (e.emit (.status .ok)).laneOf sc.val i = e.laneOf sc.val i := rfl
    rw [this, hlane i hi, Core.remarked, if_pos hm]
  · rw [hmark] at hm
    have : (e.emit (.status .ok)).laneOf sc.val i = e.laneOf sc.val i := rfl
    rw [this, hlane i hi, Core.remarked, if_neg hm, if_pos (show (s.clear.core.laneOf sc.val i).state = 5 from hfive)]
    rfl
  · rw [Core.get_emit, hget, Core.get_put_ne _ _ hk]
    rfl

theorem answersThen_eraseMap {sc : ScNo} {w : World} {v : BitVec 16} (hadm : Admits s w (Obj.EccSc.ERASE_MAP sc.val) v.toNat)
    (h : ¬ Core.oneMark (s.core.get (Obj.EccSc.ERASE_MAP sc.val)) v.toNat) : AnswersThen (.eraseMapWrite sc w v) s fun c =>
      c.out = [.status .malformed] ∧ ∀ k, c.get k = s.core.get k :=
  answersThen_writeNum rfl hadm (clearableOf_eraseMap sc) (coreObject_eraseMap sc)
    ((writeValue_eraseMap hadm).trans (Core.writeEraseMap_malformed h)) ⟨rfl, fun _ => rfl⟩

end

end Sys2Proof.Machine
end

section
/-! PROOFS. Scrub and repair, and the statement of the error correction's upkeep (10_ecc_repair.md R256, R258 to R261, R263). -/

namespace Sys2Proof.Machine

namespace Core

variable {c d e : Core} {n : Nat}

/-! ## Scrub (R256, R258) -/

theorem get_stir (c : Core) (n k : Nat) : (c.stir n).get k = c.get k := by
  unfold stir demandExit abandonEntry
  dsimp only
  split_ifs <;> rfl

/-- A request changes no object but what wakes its package rank. -/
theorem get_request (c : Core) (r : Req64) {k : Nat} (h1 : ∀ i, k ≠ Obj.Sc.PD_MASK i) (h2 : ∀ i, k ≠ Obj.Sc.STATE i) :
    (c.request r).get k = c.get k := by
  unfold request
  dsimp only
  rw [(rankOnly_wakeRank _ _ _).2 k (h1 _) (h2 _), get_stir]
  rfl

/-- What the reads of a row leave: the scrub's own state and its position. -/
theorem foldl_request_facts (f : Core → Nat → Req64) (l : List Nat) (c : Core) :
    (l.foldl (fun c col => c.request (f c col)) c).ecc = c.ecc ∧ (l.foldl (fun c col => c.request (f c col)) c).req = c.req ∧
    (l.foldl (fun c col => c.request (f c col)) c).get (Obj.EccSc.SCRUB_POS n) = c.get (Obj.EccSc.SCRUB_POS n) := by
  induction l generalizing c with
  | nil => exact ⟨rfl, rfl, rfl⟩
  | cons col l ih =>
    obtain ⟨h1, h2, h3⟩ := ih (c.request (f c col))
    have hreq := memOnly_request c (f c col)
    refine ⟨h1.trans (by rw [hreq.1]), h2.trans (by rw [hreq.1]), h3.trans (get_request c _ (fun i => ?_) fun i => ?_)⟩
    · simp only [Obj.EccSc.SCRUB_POS, Obj.Sc.PD_MASK]
      omega
    · simp only [Obj.EccSc.SCRUB_POS, Obj.Sc.STATE]
      omega

/-- The scrub's own state as the reads of a row begin. -/
def rowBegun (c : Core) (n : Nat) (e : EccState) : EccState :=
  { e with scrubLeft := 128, scrubRow := c.get (Obj.EccSc.SCRUB_POS n), scrubCe := [], behind := e.behind - 1
           passStart := if c.get (Obj.EccSc.SCRUB_POS n) = 0 then c.tick else e.passStart }

/-- The burst of a column of the row at a position. -/
abbrev scrubAddr (n q col : Nat) : DramAddr :=
  { sc := n, lr := q / 32 % 8, bg := q % 8, ba := q / 8 % 4, row := q / 256, col := col }

/-- The position moves, the row is read, and a catch-up credit may return. -/
theorem scrubBegin_eq (c : Core) (n : Nat) : ∃ (f : Core → Nat → Req64) (d : Core), d = (List.range 128).foldl (fun c col => c.request (f c col))
      ((c.updEcc n (c.rowBegun n)).put (Obj.EccSc.SCRUB_POS n) ((c.get (Obj.EccSc.SCRUB_POS n) + 1) % 2 ^ 25)) ∧
    (c.scrubBegin n = d.release Ck.scrub n ∨ c.scrubBegin n = d) := by
  refine ⟨fun d col => readReq (unmapHa d.addrMap (scrubAddr n (c.get (Obj.EccSc.SCRUB_POS n)) col)) 4 .scrub, _, rfl, ?_⟩
  unfold scrubBegin
  exact ite_eq_or_eq _ _ _

theorem scrubBegin_facts (c : Core) (n : Nat) :
    (c.scrubBegin n).get (Obj.EccSc.SCRUB_POS n) = (c.get (Obj.EccSc.SCRUB_POS n) + 1) % 2 ^ 25 ∧ (c.scrubBegin n).req = c.req ∧
    (c.scrubBegin n).eccOf n = c.rowBegun n (c.eccOf n) := by
  obtain ⟨f, d, hd, hend⟩ := scrubBegin_eq c n
  obtain ⟨hecc, hreq, hpos⟩ := foldl_request_facts (n := n) f (List.range 128)
    ((c.updEcc n (c.rowBegun n)).put (Obj.EccSc.SCRUB_POS n) ((c.get (Obj.EccSc.SCRUB_POS n) + 1) % 2 ^ 25))
  rw [← hd] at hecc hreq hpos
  have hself : d.eccOf n = c.rowBegun n (c.eccOf n) := by
    rw [eccOf, hecc, ← eccOf, eccOf_put, eccOf_updEcc_self]
  rw [get_put_self] at hpos
  rw [req_put, req_updEcc] at hreq
  rcases hend with hend | hend
  · have hrel := sluiceOnly_release d Ck.scrub n
    rw [hend]
    exact ⟨hpos, hrel.req.trans hreq, (hrel.eccOf n).trans hself⟩
  · rw [hend]
    exact ⟨hpos, hreq, hself⟩

/-- A row that falls due is behind until it is read. -/
theorem scrubRow_eq (hper : c.get Obj.Ecc.SCRUB_PERIOD_H ≠ 0) (hst : c.scState n < 2) (htr : c.trainState n = 2) (hdata : c.dataServed = true)
    (hforce : c.forceOnly n = false) (hfree : c.holds Ck.scrub n = false) : c.scrubRow n =
      if (c.eccOf n).scrubLeft = 0 then (c.updEcc n fun e => { e with behind := e.behind + 1 }).scrubBegin n
      else if (c.eccOf n).behind = 1 then ((c.updEcc n fun e => { e with behind := e.behind + 1 }).askNow Ck.scrub n 40).2
      else c.updEcc n fun e => { e with behind := e.behind + 1 } := by
  unfold scrubRow
  rw [if_neg (by simp [hper, htr, hdata]; omega)]
  dsimp only
  rw [hfree, hforce, if_neg (show ¬ (false && decide (c.get (Obj.EccSc.SCRUB_POS n) % 4 ≠ 0)) = true by simp)]
  by_cases hleft : (c.eccOf n).scrubLeft = 0
  · rw [if_neg (by simp [hleft]), if_neg (by omega), if_pos hleft]
  · rw [if_pos (by simp [hleft]), if_neg hleft]
    by_cases hone : (c.eccOf n).behind = 1
    · rw [if_pos (by simp [hone]), if_pos hone]
    · rw [if_neg (by simp [hone]), if_neg hone]

/-! ## The next repair (R259, R260) -/

theorem askRepair_sluiceOnly (c : Core) (n : Nat) : c.SluiceOnly (c.askRepair n) := by
  unfold askRepair
  split
  · exact SluiceOnly.refl c
  · exact sluiceOnly_askNow _ _ _ _

theorem markedLane_of_repairable {k : Candidate} (h : c.unrepairable n k = false) : c.markedLane n (k.lr / 4) ≠ some k.lane := by
  intro hm
  unfold unrepairable at h
  simp [hm] at h

theorem stir_of_awake (hst : c.scState n < 2) (hsr : (c.mcOf n).srAt = 0) (he : (c.mcOf n).srEntering = false) : c.stir n = c := by
  unfold stir
  dsimp only
  rw [if_neg (by simp [hsr]; omega), if_neg (by rw [he]; decide)]

/-- The repair of a candidate as it begins. -/
abbrev begun (c : Core) (n : Nat) (k : Candidate) : RepairRun :=
  { k := k, upto := (c.mcOf n).nextId, phase := 0, left := 0, save := [], clean := true, alerted := false }

section
variable {k : Candidate} {rest : List Candidate} (hcand : (c.eccOf n).candidates = k :: rest) (hrep : (c.eccOf n).repair = none)
  (hforce : c.forceOnly n = false) (htr : c.trainState n = 2) (hst : c.scState n < 2) (hsr : (c.mcOf n).srAt = 0)
include hcand hrep hforce htr hst hsr

theorem repairBegin_eq (he : (c.mcOf n).srEntering = false) (hok : c.unrepairable n k = false) (hcr : c.holds Ck.repair n = true) :
    c.repairBegin n true = (c.updEcc n fun e => { e with candidates := rest, repair := some (c.begun n k) }).wakeRank n (k.lr / 4) := by
  have hstir : (c.updEcc n fun e => { e with candidates := rest, repair := some (c.begun n k) }).stir n =
      c.updEcc n fun e => { e with candidates := rest, repair := some (c.begun n k) } := stir_of_awake hst hsr he
  unfold repairBegin
  rw [hcand]
  dsimp only
  rw [if_neg (by simp [hrep, hforce, htr, hsr]; omega), if_neg (by simp [hok]), if_neg (by simp [hcr]), hstir]

/-- A candidate that cannot be repaired goes, and the credit with it. -/
theorem repairBegin_refused {res : Bool} (hno : res = false ∨ c.unrepairable n k = true) :
    ∃ d, c.repairBegin n res = d ∧ ((c.updEcc n fun e => { e with candidates := rest }).refuseCandidate n k (k.addr n)).SluiceOnly d := by
  refine ⟨_, rfl, ?_⟩
  unfold repairBegin
  rw [hcand]
  dsimp only
  rw [if_neg (by simp [hrep, hforce, htr, hsr]; omega), if_pos (by rcases hno with h | h <;> simp [h])]
  refine SluiceOnly.trans ?_ (askRepair_sluiceOnly _ n)
  split
  · exact sluiceOnly_release _ _ _
  · exact SluiceOnly.refl _

end

/-- A repair that has begun waits for the writes before it. -/
theorem repairTurn_begun {x : RepairRun} (h : (c.eccOf n).repair = some x) (h0 : x.phase = 0)
    (hm : c.markedLane n (x.k.lr / 4) ≠ some x.k.lane) :
    c.repairTurn n = c ∨ c.repairTurn n = c.updRepair n fun x => { x with phase := 1 } := by
  unfold repairTurn
  rw [h]
  dsimp only
  split
  · exact .inl rfl
  · rw [if_neg (by simp [hm]), h0]
    exact ite_eq_or_eq _ _ _

theorem refuseCandidate_facts (c : Core) (n : Nat) (k : Candidate) (a : DramAddr) (hs : (sourceInfo? (Src.eccRepair n)).isNone = false) :
    (c.refuseCandidate n k a).ecc = c.ecc ∧ (c.refuseCandidate n k a).bitOf (Obj.EccSc.FLAGS n) 7 = true ∧
    c.Raises (Src.eccRepair n) (c.refuseCandidate n k a) := by
  have hraise := fun d : Core => fcOnly_raise d (Src.eccRepair n) (ctxLane 11 0 n (k.lr / 4) k.lane)
  unfold refuseCandidate
  refine ⟨?_, ?_, raises_of_raise _ hs ?_ ?_⟩
  · rw [(hraise _).ecc]
    unfold flag
    rw [ecc_put, ecc_eccLog]
  · rw [bitOf_congr 7 ((hraise _).get (by simp; omega))]
    exact bitOf_flag_self _ _ _
  · unfold flag
    rw [fc_put, fc_eccLog]
  · rw [get_flag_ne _ _ (by simp; omega), get_eccLog _ _ _ _ _ _ _ _ (.inr (by simp; omega)) (by simp; omega)]

end Core

end Sys2Proof.Machine
end

section
/-! PROOFS. The end of a repair, and the statement of the error correction's upkeep (10_ecc_repair.md R258 to R261, R263). -/

namespace Sys2Proof.Machine

namespace Core

variable {c : Core} {n i : Nat} {k : Candidate}

/-! ## REPAIR_DONE (R260 steps 7 and 8, R263) -/

/-- The first EMPTY entry of the repair list. -/
abbrev emptyEntry (c : Core) : Option Nat := (List.range 512).find? fun i => field 63 61 (c.get (repairKey i)) == 0

/-- HOURS of an entry. -/
abbrev hoursNow (c : Core) : Nat := if c.timeValid then c.timeNs / 3600000000000 else 0

theorem repairKey_range (h : c.emptyEntry = some i) : 0x3B3000 ≤ repairKey i ∧ repairKey i < 0x3B3400 := by
  have hi : i < 512 := List.mem_range.mp (List.mem_of_find?_eq_some h)
  unfold repairKey
  simp only [Obj.Repair.ENTRY]
  omega

theorem addRepair_eq {kind : Nat} (h : c.emptyEntry = some i) :
    c.addRepair kind n k = (c.put (repairKey i) (repairEntry kind n k c.hoursNow)).touch := by
  have h' : ((List.range 512).find? fun i => field 63 61 (c.get (repairKey i)) == 0) = some i := h
  unfold addRepair
  dsimp only
  rw [h']

/-- An entry takes the place of an empty one, or of none; no object of a subchannel or of a block changes. -/
theorem addRepair_facts (c : Core) (kind n : Nat) (k : Candidate) : (c.addRepair kind n k).ecc = c.ecc ∧
    (c.addRepair kind n k).fc = c.fc ∧ ∀ j, j < 0x3B3000 ∨ 0x3B3400 ≤ j → (c.addRepair kind n k).get j = c.get j := by
  cases h : c.emptyEntry with
  | none =>
    have h' : ((List.range 512).find? fun i => field 63 61 (c.get (repairKey i)) == 0) = none := h
    have hnone : c.addRepair kind n k = c := by
      unfold addRepair
      dsimp only
      rw [h']
    rw [hnone]
    exact ⟨rfl, rfl, fun _ _ => rfl⟩
  | some i =>
    have hkey := repairKey_range h
    rw [addRepair_eq h]
    exact ⟨rfl, rfl, fun j hj => (get_updLedger _ _ _ _).trans (get_put_ne _ _ (by omega))⟩

theorem repairHeld_facts (c : Core) (n : Nat) (k : Candidate) : (c.repairHeld n k).ecc = c.ecc ∧
    (c.repairHeld n k).get (Obj.EccSc.REPAIRS n) = min (c.get (Obj.EccSc.REPAIRS n) + 1) (2 ^ 16 - 1) ∧
    ∀ i, c.emptyEntry = some i → (c.repairHeld n k).get (repairKey i) =
      repairEntry (if c.get Obj.Ecc.REPAIR_MODE = 2 then 2 else 1) n k c.hoursNow := by
  obtain ⟨hecc, -, hget⟩ := addRepair_facts c (if c.get Obj.Ecc.REPAIR_MODE = 2 then 2 else 1) n k
  have hentry : ∀ i, c.emptyEntry = some i → (c.addRepair (if c.get Obj.Ecc.REPAIR_MODE = 2 then 2 else 1) n k).get (repairKey i) =
      repairEntry (if c.get Obj.Ecc.REPAIR_MODE = 2 then 2 else 1) n k c.hoursNow := fun i h => by
    rw [addRepair_eq h]
    exact get_put_self _ _ _
  unfold repairHeld
  generalize c.addRepair (if c.get Obj.Ecc.REPAIR_MODE = 2 then 2 else 1) n k = a at hecc hget hentry
  refine ⟨?_, ?_, fun i h => ?_⟩
  · rw [ecc_eccLog]
    unfold add flag
    rw [ecc_put, ecc_put, hecc]
  · rw [get_eccLog _ _ _ _ _ _ _ _ (.inr (by simp; omega)) (by simp; omega), get_add_self, sat_eq_min, get_flag_ne _ _ (by simp; omega),
      hget _ (.inr (by simp; omega))]
  · have hkey := repairKey_range h
    rw [get_eccLog _ _ _ _ _ _ _ _ (.inr (by omega)) (by simp only [Obj.Ecc.LOG_COUNT]; omega),
      get_add_ne _ _ _ (by simp only [Obj.EccSc.REPAIRS]; omega), get_flag_ne _ _ (by simp only [Obj.Ecc.FLAGS]; omega), hentry i h]

theorem repairFailed_facts (c : Core) (n : Nat) (k : Candidate) (hs : (sourceInfo? (Src.eccRepair n)).isNone = false) :
    (c.repairFailed n k).ecc = c.ecc ∧ (c.repairFailed n k).bitOf (Obj.EccSc.FLAGS n) 6 = true ∧
    (c.repairFailed n k).get (Obj.EccSc.REPAIR_FAILS n) = min (c.get (Obj.EccSc.REPAIR_FAILS n) + 1) (2 ^ 16 - 1) ∧
    c.Raises (Src.eccRepair n) (c.repairFailed n k) := by
  have hraise := fun d : Core => fcOnly_raise d (Src.eccRepair n) (ctxLane 11 0 n (k.lr / 4) k.lane)
  obtain ⟨hecc, hfc, hget⟩ := addRepair_facts c 4 n k
  unfold repairFailed
  generalize c.addRepair 4 n k = a at hecc hfc hget
  refine ⟨?_, ?_, ?_, raises_of_raise _ hs ?_ ?_⟩
  · rw [(hraise _).ecc, ecc_eccLog]
    unfold add flag
    rw [ecc_put, ecc_put, ecc_put, hecc]
  · rw [bitOf_congr 6 ((hraise _).get (by simp; omega)), bitOf_congr 6 (get_eccLog _ _ _ _ _ _ _ _ (.inr (by simp; omega)) (by simp; omega)),
      bitOf_congr 6 (get_add_ne _ _ _ (by simp)), bitOf_congr 6 (get_flag_ne _ _ (by simp; omega))]
    exact bitOf_flag_self _ _ _
  · rw [(hraise _).get (by simp; omega), get_eccLog _ _ _ _ _ _ _ _ (.inr (by simp; omega)) (by simp; omega), get_add_self, sat_eq_min,
      get_flag_ne _ _ (by simp; omega), get_flag_ne _ _ (by simp), hget _ (.inr (by simp; omega))]
  · rw [fc_eccLog]
    unfold add flag
    rw [fc_put, fc_put, fc_put, hfc]
  · rw [get_eccLog _ _ _ _ _ _ _ _ (.inr (by simp; omega)) (by simp; omega), get_add_ne _ _ _ (by simp; omega), get_flag_ne _ _ (by simp; omega),
      get_flag_ne _ _ (by simp; omega), hget _ (.inr (by simp; omega))]

/-- The repair is over and its credit has returned; no object has changed. -/
theorem repairOver_facts (c : Core) (n : Nat) : ((c.repairOver n).eccOf n) = { c.eccOf n with repair := none } ∧
    (c.repairOver n).fc = c.fc ∧ (∀ k, (c.repairOver n).get k = c.get k) ∧ (c.repairOver n).hoursNow = c.hoursNow := by
  have hrel := sluiceOnly_release (c.updEcc n fun e => { e with repair := none }) Ck.repair n
  refine ⟨?_, rfl, fun _ => rfl, rfl⟩
  rw [repairOver, hrel.eccOf, eccOf_updEcc_self]

section
variable {x : RepairRun} {lr : Nat} (h : (c.eccOf n).repair = some x) (h6 : x.phase = 6) (hlr : x.k.lr = lr)
  (hm : c.markedLane n (x.k.lr / 4) ≠ some x.k.lane)
include h h6 hlr hm

theorem repairDone_held (ha : x.alerted = false) (hc : x.clean = true) :
    c.repairDone n lr = ((c.repairOver n).repairHeld n x.k).askRepair n := by
  unfold repairDone
  rw [h]
  dsimp only
  rw [if_neg (by simp [h6, hlr]), if_neg hm, if_neg (by rw [ha]; decide), if_neg (by rw [hc]; decide)]

/-- A repair that failed: a candidate that an ALERT ended for the first time is tried again. -/
theorem repairDone_failed (hf : x.alerted = true ∨ x.clean = false) : c.repairDone n lr =
    (if x.alerted = true ∧ x.k.retried = false then ((c.repairOver n).repairFailed n x.k).updEcc n fun e =>
      { e with candidates := { x.k with retried := true } :: e.candidates } else (c.repairOver n).repairFailed n x.k).askRepair n := by
  unfold repairDone
  rw [h]
  dsimp only
  rw [if_neg (by simp [h6, hlr]), if_neg hm]
  cases ha : x.alerted with
  | false =>
    have hc : x.clean = false := hf.resolve_left (by rw [ha]; decide)
    rw [if_neg (by decide), if_pos (by rw [hc]; decide), if_neg (by simp)]
  | true =>
    rw [if_pos rfl]
    cases hr : x.k.retried with
    | true => rw [if_pos rfl, if_neg (by simp)]
    | false => rw [if_neg (by decide), if_pos ⟨rfl, rfl⟩]

end

end Core

/-! ## The obligation -/

section
variable {s : State} {sc : ScNo}

theorem eccRepair_known (sc : ScNo) : (sourceInfo? (Src.eccRepair sc.val)).isNone = false := by
  revert sc
  decide +kernel

theorem answersCore_scrubRow (hup : s.core.hubUp = true) (hper : s.core.get Obj.Ecc.SCRUB_PERIOD_H ≠ 0) (hst : s.core.scState sc.val < 2)
    (htr : s.core.trainState sc.val = 2) (hdata : s.core.dataServed = true) (hforce : s.core.forceOnly sc.val = false)
    (hfree : s.core.holds Ck.scrub sc.val = false) : AnswersCore (.scrubRow sc) s fun c =>
      if (s.core.eccOf sc.val).scrubLeft = 0 then
        c.get (Obj.EccSc.SCRUB_POS sc.val) = (s.core.get (Obj.EccSc.SCRUB_POS sc.val) + 1) % 2 ^ 25 ∧
        (c.eccOf sc.val).scrubLeft = 128 ∧ (c.eccOf sc.val).scrubRow = s.core.get (Obj.EccSc.SCRUB_POS sc.val) ∧
        (c.eccOf sc.val).behind = (s.core.eccOf sc.val).behind
      else
        c.get (Obj.EccSc.SCRUB_POS sc.val) = s.core.get (Obj.EccSc.SCRUB_POS sc.val) ∧
        (c.eccOf sc.val).behind = (s.core.eccOf sc.val).behind + 1 ∧
        ((s.core.eccOf sc.val).behind = 1 → s.core.admits 40 = true → c.holds Ck.scrub sc.val = true) := by
  have hrow := Core.scrubRow_eq (c := s.clear.core) (n := sc.val) hper hst htr hdata hforce hfree
  have hself := Core.eccOf_updEcc_self s.clear.core sc.val fun e => { e with behind := e.behind + 1 }
  have hreq : (s.clear.core.updEcc sc.val fun e => { e with behind := e.behind + 1 }).req = [] := rfl
  have hget : ∀ k, (s.clear.core.updEcc sc.val fun e => { e with behind := e.behind + 1 }).get k = s.core.get k := fun _ => rfl
  have hadmits : (s.clear.core.updEcc sc.val fun e => { e with behind := e.behind + 1 }).admits 40 = s.core.admits 40 := rfl
  have hecc : s.clear.core.eccOf sc.val = s.core.eccOf sc.val := rfl
  rw [hecc] at hrow hself
  generalize (s.clear.core.updEcc sc.val fun e => { e with behind := e.behind + 1 }) = a at hrow hself hreq hget hadmits
  by_cases hleft : (s.core.eccOf sc.val).scrubLeft = 0
  · obtain ⟨hpos, hreq', hbegun⟩ := Core.scrubBegin_facts a sc.val
    rw [if_pos hleft] at hrow
    refine answersCore_onHub (fun c => c.scrubRow sc.val) rfl hup (by rw [hrow, hreq', hreq]) ?_
    rw [hrow, if_pos hleft, hpos, hbegun, hself, hget]
    exact ⟨rfl, rfl, hget _, Nat.add_sub_cancel _ _⟩
  · rw [if_neg hleft] at hrow
    have hask := Core.sluiceOnly_askNow a Ck.scrub sc.val 40
    have hkey : ¬ isSluiceKey (Obj.EccSc.SCRUB_POS sc.val) := by simp [isSluiceKey]; omega
    by_cases hone : (s.core.eccOf sc.val).behind = 1
    · rw [if_pos hone] at hrow
      refine answersCore_onHub (fun c => c.scrubRow sc.val) rfl hup (by rw [hrow, hask.req, hreq]) ?_
      rw [hrow, if_neg hleft, hask.get hkey, hget, hask.eccOf, hself]
      refine ⟨rfl, rfl, fun _ hadm => ?_⟩
      rw [Core.askNow_of_admits _ _ _ (hadmits.trans hadm)]
      exact Core.holds_grantCredit _ _ _ _ _
    · rw [if_neg hone] at hrow
      refine answersCore_onHub (fun c => c.scrubRow sc.val) rfl hup (by rw [hrow, hreq]) ?_
      rw [hrow, if_neg hleft, hget, hself]
      exact ⟨rfl, rfl, fun h => absurd h hone⟩

theorem unrepairable_clear (k : Candidate) : s.clear.core.unrepairable sc.val k = s.core.unrepairable sc.val k := by
  have hget : s.clear.core.get = s.core.get := rfl
  unfold Core.unrepairable Core.markedLane
  rw [hget]

section
variable {k : Candidate} {rest : List Candidate} (hup : s.core.hubUp = true) (hcand : (s.core.eccOf sc.val).candidates = k :: rest)
  (hrep : (s.core.eccOf sc.val).repair = none) (hforce : s.core.forceOnly sc.val = false) (htr : s.core.trainState sc.val = 2)
  (hst : s.core.scState sc.val < 2) (hsr : (s.core.mcOf sc.val).srAt = 0)
include hup hcand hrep hforce htr hst hsr

theorem answersCore_repair (he : (s.core.mcOf sc.val).srEntering = false) (hok : s.core.unrepairable sc.val k = false)
    (hcr : s.core.holds Ck.repair sc.val = true) : AnswersCore (.repair sc true) s fun c =>
      (∃ x, (c.eccOf sc.val).repair = some x ∧ x.k = k ∧ x.upto = (s.core.mcOf sc.val).nextId ∧ x.phase ≤ 1) ∧
      (c.eccOf sc.val).candidates = rest ∧
      ∀ o, o ≠ Obj.Sc.PD_MASK sc.val → o ≠ Obj.Sc.STATE sc.val → c.get o = s.core.get o := by
  have hbegin := Core.repairBegin_eq (c := s.clear.core) hcand hrep hforce htr hst hsr he ((unrepairable_clear k).trans hok) hcr
  have hself := Core.eccOf_updEcc_self s.clear.core sc.val fun e => { e with candidates := rest, repair := some (s.clear.core.begun sc.val k) }
  have hreq : (s.clear.core.updEcc sc.val fun e => { e with candidates := rest, repair := some (s.clear.core.begun sc.val k) }).req = [] := rfl
  have hget : ∀ o, (s.clear.core.updEcc sc.val fun e => { e with candidates := rest, repair := some (s.clear.core.begun sc.val k) }).get o =
    s.core.get o := fun _ => rfl
  have hx : s.clear.core.begun sc.val k = s.core.begun sc.val k := rfl
  rw [hx] at hbegin hself hreq hget
  generalize (s.clear.core.updEcc sc.val fun e => { e with candidates := rest, repair := some (s.core.begun sc.val k) }) = a
    at hbegin hself hreq hget
  obtain ⟨hwake, hkeep⟩ := Core.rankOnly_wakeRank a sc.val (k.lr / 4)
  have hecc : (a.wakeRank sc.val (k.lr / 4)).eccOf sc.val = a.eccOf sc.val := by
    have : (a.wakeRank sc.val (k.lr / 4)).ecc = a.ecc := by rw [hwake]
    rw [Core.eccOf, this, ← Core.eccOf]
  have hwreq : (a.wakeRank sc.val (k.lr / 4)).req = [] := by rw [hwake]; exact hreq
  generalize a.wakeRank sc.val (k.lr / 4) = b at hbegin hkeep hecc hwreq
  have hrepair : (b.eccOf sc.val).repair = some (s.core.begun sc.val k) := by rw [hecc, hself]
  have hcands : (b.eccOf sc.val).candidates = rest := by rw [hecc, hself]
  have hmark : b.markedLane sc.val (k.lr / 4) ≠ some k.lane := by
    have hmap : b.get (Obj.EccSc.ERASE_MAP sc.val) = s.core.get (Obj.EccSc.ERASE_MAP sc.val) :=
      (hkeep _ (by simp; omega) (by simp)).trans (hget _)
    rw [Core.markedLane, hmap, ← Core.markedLane]
    exact Core.markedLane_of_repairable hok
  have hends : ∀ d : Core, (s.clear.core.repairBegin sc.val true).repairTurn sc.val = d → d.req = [] →
      (∃ x, (d.eccOf sc.val).repair = some x ∧ x.k = k ∧ x.upto = (s.core.mcOf sc.val).nextId ∧ x.phase ≤ 1) →
      (d.eccOf sc.val).candidates = rest → (∀ o, d.get o = b.get o) → AnswersCore (.repair sc true) s fun c =>
      (∃ x, (c.eccOf sc.val).repair = some x ∧ x.k = k ∧ x.upto = (s.core.mcOf sc.val).nextId ∧ x.phase ≤ 1) ∧
      (c.eccOf sc.val).candidates = rest ∧
      ∀ o, o ≠ Obj.Sc.PD_MASK sc.val → o ≠ Obj.Sc.STATE sc.val → c.get o = s.core.get o := fun d hd hr h1 h2 h3 => by
    refine answersCore_onHub (fun c => (c.repairBegin sc.val true).repairTurn sc.val) rfl hup (by rw [hd, hr]) ?_
    rw [hd]
    exact ⟨h1, h2, fun o ho1 ho2 => (h3 o).trans ((hkeep o ho1 ho2).trans (hget o))⟩
  rw [hbegin] at hends
  rcases Core.repairTurn_begun hrepair rfl hmark with hturn | hturn
  · exact hends b hturn hwreq ⟨_, hrepair, rfl, rfl, Nat.zero_le _⟩ hcands fun _ => rfl
  · have hnext := Core.eccOf_updEcc_self b sc.val fun e => { e with repair := e.repair.map fun x => { x with phase := 1 } }
    refine hends _ hturn hwreq ⟨{ s.core.begun sc.val k with phase := 1 }, ?_, rfl, rfl, Nat.le_refl _⟩ ?_ fun _ => rfl
    · rw [Core.updRepair, hnext, hrepair]
      rfl
    · rw [Core.updRepair, hnext]
      exact hcands

theorem answersThen_repair_refused {res : Bool} (hno : res = false ∨ s.core.unrepairable sc.val k = true) :
    AnswersThen (.repair sc res) s fun c =>
      (c.eccOf sc.val).repair = none ∧ (c.eccOf sc.val).candidates = rest ∧ c.bitOf (Obj.EccSc.FLAGS sc.val) 7 = true ∧
      s.clear.core.Raises (Src.eccRepair sc.val) c := by
  obtain ⟨d, hd, honly⟩ := Core.repairBegin_refused (c := s.clear.core) hcand hrep hforce htr hst hsr
    (hno.imp_right fun h => (unrepairable_clear k).trans h)
  have hself := Core.eccOf_updEcc_self s.clear.core sc.val fun e => { e with candidates := rest }
  obtain ⟨hecc, hbit, hraise⟩ := Core.refuseCandidate_facts (s.clear.core.updEcc sc.val fun e => { e with candidates := rest }) sc.val k
    (k.addr sc.val) (eccRepair_known sc)
  have hheard : s.clear.core.Raises (Src.eccRepair sc.val)
      ((s.clear.core.updEcc sc.val fun e => { e with candidates := rest }).refuseCandidate sc.val k (k.addr sc.val)) := hraise
  have hecc' : d.eccOf sc.val = { s.clear.core.eccOf sc.val with candidates := rest } := by
    rw [honly.eccOf, Core.eccOf, hecc, ← Core.eccOf, hself]
  have hrepair : (d.eccOf sc.val).repair = none := by rw [hecc']; exact hrep
  refine answersThen_onHub (fun c => (c.repairBegin sc.val res).repairTurn sc.val) rfl hup ?_
  have hend : (s.clear.core.repairBegin sc.val res).repairTurn sc.val = d := by
    rw [hd, Core.repairTurn, hrepair]
  rw [hend]
  refine ⟨hrepair, by rw [hecc'], ?_, hheard.of_get (honly.get (by simp [isSluiceKey]; omega))⟩
  rw [Core.bitOf_congr 7 (honly.get (by simp [isSluiceKey]; omega))]
  exact hbit

end

section
variable {lr : RankNo} {x : RepairRun} (hup : s.core.hubUp = true) (hrep : (s.core.eccOf sc.val).repair = some x) (h6 : x.phase = 6)
  (hlr : x.k.lr = lr.val) (hm : s.core.markedLane sc.val (x.k.lr / 4) ≠ some x.k.lane)
include hup hrep h6 hlr hm

theorem answersThen_repairDone_held {i : Nat} (ha : x.alerted = false) (hc : x.clean = true) (hi : s.core.emptyEntry = some i) :
    AnswersThen (.repairDone sc lr) s fun c =>
        (c.eccOf sc.val).repair = none ∧
        c.get (repairKey i) = repairEntry (if s.core.get Obj.Ecc.REPAIR_MODE = 2 then 2 else 1) sc.val x.k s.core.hoursNow ∧
        c.get (Obj.EccSc.REPAIRS sc.val) = min (s.core.get (Obj.EccSc.REPAIRS sc.val) + 1) (2 ^ 16 - 1) := by
  have hdone := Core.repairDone_held (c := s.clear.core) hrep h6 hlr hm ha hc
  obtain ⟨hover, -, hget, hhours⟩ := Core.repairOver_facts s.clear.core sc.val
  have hempty : (s.clear.core.repairOver sc.val).emptyEntry = some i := by
    have hfun : (s.clear.core.repairOver sc.val).get = s.core.get := funext hget
    rw [Core.emptyEntry, hfun]
    exact hi
  generalize s.clear.core.repairOver sc.val = a at hdone hover hget hhours hempty
  obtain ⟨hecc, hcount, hentry⟩ := Core.repairHeld_facts a sc.val x.k
  have hent := hentry i hempty
  generalize a.repairHeld sc.val x.k = b at hdone hecc hcount hent
  have honly := Core.askRepair_sluiceOnly b sc.val
  have hkey := Core.repairKey_range hi
  refine answersThen_onHub (fun c => c.repairDone sc.val lr.val) rfl hup ?_
  rw [hdone]
  refine ⟨?_, ?_, ?_⟩
  · rw [honly.eccOf, Core.eccOf, hecc, ← Core.eccOf, hover]
  · rw [honly.get (by unfold isSluiceKey; omega), hent, hget, hhours]
    rfl
  · rw [honly.get (by simp [isSluiceKey]; omega), hcount, hget]
    rfl

theorem answersThen_repairDone_failed (hf : x.alerted = true ∨ x.clean = false) : AnswersThen (.repairDone sc lr) s fun c =>
      (c.eccOf sc.val).repair = none ∧ c.bitOf (Obj.EccSc.FLAGS sc.val) 6 = true ∧
      c.get (Obj.EccSc.REPAIR_FAILS sc.val) = min (s.core.get (Obj.EccSc.REPAIR_FAILS sc.val) + 1) (2 ^ 16 - 1) ∧
      (x.alerted = true → x.k.retried = false → (c.eccOf sc.val).candidates =
        { x.k with retried := true } :: (s.core.eccOf sc.val).candidates) ∧
      s.clear.core.Raises (Src.eccRepair sc.val) c := by
  have hdone := Core.repairDone_failed (c := s.clear.core) hrep h6 hlr hm hf
  obtain ⟨hover, hfc, hget, -⟩ := Core.repairOver_facts s.clear.core sc.val
  have hraises : ∀ d, (s.clear.core.repairOver sc.val).Raises (Src.eccRepair sc.val) d → s.clear.core.Raises (Src.eccRepair sc.val) d :=
    fun d hd hears => (hd (hears.congr hfc)).trans (by rw [hget])
  generalize s.clear.core.repairOver sc.val = a at hdone hover hget hraises
  obtain ⟨hecc, hbit, hcount, hraise⟩ := Core.repairFailed_facts a sc.val x.k (eccRepair_known sc)
  have hheard := hraises _ hraise
  generalize a.repairFailed sc.val x.k = b at hdone hecc hbit hcount hheard
  have hself : b.eccOf sc.val = { s.clear.core.eccOf sc.val with repair := none } := by
    rw [Core.eccOf, hecc, ← Core.eccOf, hover]
  have hends : ∀ e : Core, s.clear.core.repairDone sc.val lr.val = e.askRepair sc.val → (∀ k, e.get k = b.get k) →
      (e.eccOf sc.val).repair = none → (x.alerted = true → x.k.retried = false → (e.eccOf sc.val).candidates =
        { x.k with retried := true } :: (s.core.eccOf sc.val).candidates) → AnswersThen (.repairDone sc lr) s fun c =>
      (c.eccOf sc.val).repair = none ∧ c.bitOf (Obj.EccSc.FLAGS sc.val) 6 = true ∧
      c.get (Obj.EccSc.REPAIR_FAILS sc.val) = min (s.core.get (Obj.EccSc.REPAIR_FAILS sc.val) + 1) (2 ^ 16 - 1) ∧
      (x.alerted = true → x.k.retried = false → (c.eccOf sc.val).candidates =
        { x.k with retried := true } :: (s.core.eccOf sc.val).candidates) ∧
      s.clear.core.Raises (Src.eccRepair sc.val) c := fun e he h1 h2 h3 => by
    have honly := Core.askRepair_sluiceOnly e sc.val
    refine answersThen_onHub (fun c => c.repairDone sc.val lr.val) rfl hup ?_
    rw [he]
    refine ⟨by rw [honly.eccOf]; exact h2, ?_, ?_, by rw [honly.eccOf]; exact h3, hheard.of_get ?_⟩
    · rw [Core.bitOf_congr 6 ((honly.get (by simp [isSluiceKey]; omega)).trans (h1 _))]
      exact hbit
    · rw [honly.get (by simp [isSluiceKey]; omega), h1, hcount, hget]
      rfl
    · rw [honly.get (by simp [isSluiceKey]; omega), h1]
  by_cases hagain : x.alerted = true ∧ x.k.retried = false
  · rw [if_pos hagain] at hdone
    have hnext := Core.eccOf_updEcc_self b sc.val fun e => { e with candidates := { x.k with retried := true } :: e.candidates }
    refine hends _ hdone (fun _ => rfl) ?_ fun _ _ => ?_
    · rw [hnext, hself]
    · rw [hnext, hself]
      rfl
  · rw [if_neg hagain] at hdone
    exact hends b hdone (fun _ => rfl) (by rw [hself]) fun h1 h2 => absurd ⟨h1, h2⟩ hagain

end

end

/-- Settles O39: each part of the upkeep is followed from its command to what it has counted, flagged and left. -/
theorem eccUpkeep : Obligations.EccUpkeep := by
  refine ⟨fun s sc hup => exec_decoderSelftest_good sc hup, fun s sc l hup hlen hbad => answersThen_decoderSelftest sc hup hlen hbad,
    ?_, ?_, ?_, ?_, ?_⟩
  · rintro s sc w v old hadm rfl hhi hlo
    exact answersOk_eraseMap hadm ⟨hhi, hlo⟩
  · rintro s sc w v old hadm rfl hno
    refine answersThen_eraseMap hadm fun hmark => ?_
    obtain ⟨hhi, hlo⟩ := hmark
    omega
  · exact fun s sc hup hper hst htr hdata hforce hfree => answersCore_scrubRow hup hper hst htr hdata hforce hfree
  · intro s sc k rest hup hcand hrep hforce htr hst hsr he
    exact ⟨answersCore_repair hup hcand hrep hforce htr hst hsr he,
      fun res hno => answersThen_repair_refused hup hcand hrep hforce htr hst hsr hno⟩
  · intro s sc lr x hup hrep h6 hlr hm
    exact ⟨fun i ha hc hi => answersThen_repairDone_held hup hrep h6 hlr hm ha hc hi, answersThen_repairDone_failed hup hrep h6 hlr hm⟩

end Sys2Proof.Machine
end

section
/-! PROOFS. What OFF takes from the ledger (11_power_sequencing.md R283, R284, R292; 09_fantail_calibration.md R239): a record that
holds an object of the always-on domain overwrites what OFF has just set, and nothing that follows the command mends it. -/

namespace Sys2Proof.Machine

/-- A slot of the objects' record that governs, with the STATE of lease 0 at ACTIVE and SEQ_STATE at a value that no sequencer has. -/
def oddSlot : LedgerSlot :=
  { LedgerSlot.init with
    magic := 0x5A43, format := 2, half := 2, seq := 1, crc := 3837049984,
    objs := [(Obj.Lease.STATE 0, 1), (Obj.Seq.SEQ_STATE, 7)] }

/-- A hub that holds that record, at the end of the last DELAY_OFF of a descent. -/
def oddDescent : State :=
  { State.reset with
    core := { Core.init with
      ledger := [(2, { LedgerState.init with a := oddSlot })]
      seq := { Core.init.seq with aoUp := true, phase := .delayOff } } }

/-- The same hub with the sequencer in UP. -/
def oddUp : State := { oddDescent with core := oddDescent.core.put Obj.Seq.SEQ_STATE 2 }

/-- An end with the latch clear, lease 0 ACTIVE and SEQ_STATE other than 0 is the end of no effect that leaves SEQ_STATE at 0. -/
theorem not_answersThen_off {i : Instr} {s : State} {P : Core → Prop} (hP : ∀ c, P c → c.get Obj.Seq.SEQ_STATE = 0)
    (h : ∃ t, exec i s = .next t ∧ t.latch = false ∧ t.core.get (Obj.Lease.STATE 0) = 1 ∧ t.core.get Obj.Seq.SEQ_STATE ≠ 0) :
    ¬ AnswersThen i s P := by
  rintro ⟨c, heq, hc⟩
  obtain ⟨t, ht, hlatch, hlease, hseq⟩ := h
  have hset : t = ({ s with core := c } : State).settle := by
    rw [ht] at heq
    injection heq
  rw [hset] at hlatch hlease hseq
  refine hseq ((State.settle_leased hlatch hlease ?_).trans (hP c hc))
  exact .inr (.inl (by decide))

/-- Does the command end with the latch clear, lease 0 ACTIVE and SEQ_STATE not at 0? -/
def endsOdd (i : Instr) (s : State) : Bool :=
  match exec i s with
  | .next t => !t.latch && t.core.get (Obj.Lease.STATE 0) == 1 && t.core.get Obj.Seq.SEQ_STATE != 0
  | _ => false

theorem next_of_endsOdd {i : Instr} {s : State} (h : endsOdd i s = true) :
    ∃ t, exec i s = .next t ∧ t.latch = false ∧ t.core.get (Obj.Lease.STATE 0) = 1 ∧ t.core.get Obj.Seq.SEQ_STATE ≠ 0 := by
  unfold endsOdd at h
  cases ht : exec i s with
  | next t =>
    rw [ht] at h
    simp only [Bool.and_eq_true, Bool.not_eq_true', beq_iff_eq, bne_iff_ne] at h
    obtain ⟨⟨h1, h2⟩, h3⟩ := h
    exact ⟨t, rfl, h1, h2, h3⟩
  | _ =>
    rw [ht] at h
    exact absurd h Bool.false_ne_true

/-- Refutes O15: OFF loads every object that the ledger's record holds, and a record that holds SEQ_STATE leaves it at 7. -/
theorem not_descentSteps : ¬ Obligations.DescentSteps := by
  unfold Obligations.DescentSteps
  rintro ⟨-, -, -, hoff, -⟩
  exact not_answersThen_off (fun c hc => hc.1) (next_of_endsOdd (by decide +kernel))
    (hoff oddDescent rfl rfl (by decide))

/-- Refutes O19: so does a collapse of the input. -/
theorem not_powerLoss : ¬ Obligations.PowerLoss := by
  unfold Obligations.PowerLoss
  rintro ⟨hcollapse, -⟩
  exact not_answersThen_off (fun c hc => hc.1) (next_of_endsOdd (by decide +kernel))
    (hcollapse oddUp true rfl (by decide +kernel))

end Sys2Proof.Machine
end

section
/-! PROOFS. What the end of a command can hide of a lockout that LEDGER_COMMIT has caused (09_fantail_calibration.md R237, R238;
12_fault_collection.md R310, R327): read backwards, no reaction, transition or message makes its first event or its change of the
objects' record. -/

namespace Sys2Proof.Machine

namespace Core

variable {c d e : Core}

/-- What the marks below stand on: the clock, the sequencer's place in RAMP, the time of the latest start, and STATE of lease 0. -/
def base (c : Core) : Nat × SeqPhase × Bool × Bool × Nat × Nat :=
  (c.tick, c.seq.phase, c.seq.offReq, c.seq.dwellOver, c.get Obj.Dev.START_TIME_US, c.get (Obj.Lease.STATE 0))

/-- The marks of a lockout: the events of LEDGER_COMMIT, the source of the latest lockout, and the ledger. -/
def mark (c : Core) : Nat × Nat × Tbl LedgerState :=
  (c.get (Obj.Source.COUNT Src.ledgerCommit), c.get Obj.Fc.LOCKOUT_SOURCE, c.ledger)

/-- In a hub at its first tick whose RAMP waits, with a lease ACTIVE and a START_TIME_US that no start has left: no event of
LEDGER_COMMIT yet, or one, by which the lockout came and the objects' record waits for a commit. -/
def Odd (c : Core) : Prop :=
  c.base = (0, .delayOn, false, true, 5, 1) ∧ (c.get (Obj.Source.COUNT Src.ledgerCommit) = 0 ∨
    (c.get (Obj.Source.COUNT Src.ledgerCommit) = 1 ∧ c.get Obj.Fc.LOCKOUT_SOURCE = Src.ledgerCommit ∧ (c.ledgerOf 2).dirty = true))

/-- Such a hub comes from such a hub. -/
def Back (c d : Core) : Prop := Odd d → Odd c

theorem Back.refl (c : Core) : Back c c := id

theorem Back.trans (h : Back c d) (h' : Back d e) : Back c e := fun he => h (h' he)

theorem back_ite {p : Prop} [Decidable p] {x y : Core} (hx : Back c x) (hy : Back c y) : Back c (if p then x else y) := by
  split
  · exact hx
  · exact hy

theorem back_foldl {α : Type} (l : List α) (f : Core → α → Core) (h : ∀ c x, Back c (f c x)) (c : Core) : Back c (l.foldl f c) := by
  induction l generalizing c with
  | nil => exact .refl c
  | cons x l ih => exact (h c x).trans (ih (f c x))

theorem back_each (k : Nat) (f : Core → Nat → Core) (h : ∀ c x, Back c (f c x)) (c : Core) : Back c (c.each k f) :=
  each_induct (Back c) k f c (.refl c) fun d i _ hd => hd.trans (h d i)

/-- What it stands on and the marks stay. -/
def Same (c d : Core) : Prop := d.base = c.base ∧ d.mark = c.mark

theorem Same.refl (c : Core) : Same c c := ⟨rfl, rfl⟩

theorem Same.trans (h : Same c d) (h' : Same d e) : Same c e := ⟨h'.1.trans h.1, h'.2.trans h.2⟩

theorem same_withFc (c : Core) (f : FcState) : Same c (c.withFc f) := ⟨rfl, rfl⟩

theorem same_ite {p : Prop} [Decidable p] {x y : Core} (hx : Same c x) (hy : Same c y) : Same c (if p then x else y) := by
  split
  · exact hx
  · exact hy

theorem Same.back (h : Same c d) : Back c d := by
  obtain ⟨hbase, hmark⟩ := h
  simp only [mark, Prod.mk.injEq] at hmark
  obtain ⟨h1, h2, h3⟩ := hmark
  rintro ⟨k1, k2⟩
  refine ⟨hbase ▸ k1, ?_⟩
  rwa [h1, h2, ledgerOf, h3, ← ledgerOf] at k2

/-- The objects that the hub above is told by: COUNT of LEDGER_COMMIT, LOCKOUT_SOURCE, START_TIME_US, and STATE of lease 0. -/
def oddKey (k : Nat) : Prop := k = 0x490B04 ∨ k = 0x48000D ∨ k = 0x59000A ∨ k = 0x350001

theorem same_of (ht : d.tick = c.tick) (hq : d.seq = c.seq) (hl : d.ledger = c.ledger) (hg : ∀ k, oddKey k → d.get k = c.get k) :
    Same c d := by
  refine ⟨?_, ?_⟩
  · rw [base, base, ht, hq, hg _ (.inr (.inr (.inl rfl))), hg _ (.inr (.inr (.inr rfl)))]
  · rw [mark, mark, hl, hg (Obj.Source.COUNT Src.ledgerCommit) (.inl rfl), hg _ (.inr (.inl rfl))]

theorem same_put (c : Core) (v : Nat) {k : Nat} (h : ¬ oddKey k) : Same c (c.put k v) :=
  same_of rfl rfl rfl fun _ ho => get_put_ne _ _ fun hk => h (hk ▸ ho)

theorem same_inc (c : Core) {k : Nat} (h : ¬ oddKey k) : Same c (c.inc k) := same_put c _ h

theorem same_sluice (h : c.SluiceOnly d) : Same c d :=
  same_of h.tick h.seq h.ledger fun k hk => h.get (by unfold isSluiceKey; unfold oddKey at hk; simp; omega)

theorem same_rank {n : Nat} (h : RankOnly n c d) : Same c d :=
  same_of h.tick h.seq h.ledger fun k hk => h.get (by unfold oddKey at hk; simp; omega) (by unfold oddKey at hk; simp; omega)

/-! ## Events -/

theorem same_pins (c : Core) : Same c c.pins := by
  refine same_of (fcOnly_pins c).tick (fcOnly_pins c).seq ?_ fun k hk => get_pins_ne c ?_
  · unfold pins
    dsimp only
    split_ifs <;> rfl
  · rintro rfl
    simp [oddKey] at hk

theorem same_countEvent {s : Nat} (c : Core) (sev : Nat) (m : Marks) (h : s ≠ 0x00B) : Same c (c.countEvent s sev m) := by
  have hw : ∀ c : Core, Same c (c.withWire m) := fun c => by
    unfold withWire
    exact same_ite ((same_inc c (by simp [oddKey])).trans (same_put _ _ (by simp [oddKey]))) (.refl c)
  have hr : ∀ c : Core, Same c (c.withReal m) := fun c => by
    unfold withReal
    exact same_ite (same_put c _ (by simp [oddKey])) (.refl c)
  have hi : ∀ c : Core, Same c (c.withInjected m) := fun c => by
    unfold withInjected
    exact same_ite (same_inc c (by simp [oddKey])) (.refl c)
  have hc : Same c (c.counted s sev m) := by
    refine same_of rfl rfl rfl fun k hk => ?_
    unfold oddKey at hk
    exact counted_get _ _ _ _ (by simp; omega) (by simp; omega) (by simp; omega) (by simp; omega)
  rw [countEvent_marks]
  exact hc.trans ((hw _).trans ((hr _).trans (hi _)))

theorem same_capture (c : Core) (r sev : Nat) (m : Marks) : Same c (c.capture r sev m) := by
  have h1 : ∀ (c : Core) (n : Nat), Same c ((c.put Obj.Fc.FIRST_ERROR r).flag Obj.Fc.FLAGS n) := fun c n =>
    (same_put c _ (by simp [oddKey])).trans (same_put _ _ (by simp [oddKey]))
  have h2 : Same c (c.inc Obj.Fc.FE_LATER) := same_inc c (by simp [oddKey])
  unfold capture
  exact same_ite (.refl c) (same_ite (h1 c 0) (same_ite (h2.trans (h1 _ 2)) h2))

theorem same_reacted (c : Core) (s a : Nat) : Same c (c.reacted s a) := by
  refine same_of ?_ ?_ ?_ fun k _ => reacted_get c s a k
  all_goals
    unfold reacted
    dsimp only
    repeat' split
  all_goals rfl

/-- The action of another source leaves the marks, or makes it the source of the latest lockout. -/
theorem act_marks {s : Nat} (c : Core) (a r : Nat) :
    Same c (c.act s a r) ∨ ((c.act s a r).base = c.base ∧ (c.act s a r).get (Obj.Source.COUNT Src.ledgerCommit) =
      c.get (Obj.Source.COUNT Src.ledgerCommit) ∧ (c.act s a r).get Obj.Fc.LOCKOUT_SOURCE = s) := by
  have hreact := same_reacted c s a
  rw [act_eq]
  generalize c.reacted s a = b at hreact
  split
  · right
    have hne : ∀ (c : Core) (k v : Nat), ¬ oddKey k → ∀ o, oddKey o → (c.put k v).get o = c.get o := fun c k v hk o ho =>
      get_put_ne _ _ fun h => hk (h ▸ ho)
    have hlast : ∀ o, oddKey o → ((((b.put Obj.Fc.LOCKOUT_SOURCE s).put Obj.Fc.LAST_LOCKOUT r).touch).ask .lockout).get o =
        (b.put Obj.Fc.LOCKOUT_SOURCE s).get o := fun o ho => hne _ _ _ (by simp [oddKey]) o ho
    obtain ⟨h1, h2⟩ := hreact
    simp only [mark, Prod.mk.injEq] at h2
    obtain ⟨h2, -, -⟩ := h2
    refine ⟨?_, ?_, ?_⟩
    · rw [← h1, base, base, hlast _ (.inr (.inr (.inl rfl))), hlast _ (.inr (.inr (.inr rfl))), get_put_ne _ _ (by decide),
        get_put_ne _ _ (by decide)]
      rfl
    · rw [hlast (Obj.Source.COUNT Src.ledgerCommit) (.inl rfl), get_put_ne _ _ (by decide), h2]
    · rw [hlast _ (.inr (.inl rfl)), get_put_self]
  · left
    exact hreact.trans (same_ite (Same.trans (d := b.flag Obj.Fc.FLAGS 1) (same_put b _ (by simp [oddKey])) ⟨rfl, rfl⟩) (.refl b))

/-- What the log, the capture and the action of a counted event leave. -/
theorem loud_marks {s : Nat} {m : Marks} (x : FaultCtx) (h : c.quiet s (c.actionOf s m) = false) :
    Same (c.countEvent s (c.eventSev s) m) (c.event s m x) ∨ ((c.event s m x).base = (c.countEvent s (c.eventSev s) m).base ∧
      (c.event s m x).get (Obj.Source.COUNT Src.ledgerCommit) =
        (c.countEvent s (c.eventSev s) m).get (Obj.Source.COUNT Src.ledgerCommit) ∧
      (c.event s m x).get Obj.Fc.LOCKOUT_SOURCE = s) := by
  rw [event_of_loud x h]
  split
  · have hlog : Same (c.countEvent s (c.eventSev s) m) ((c.logged s m x).capture (c.recordOf s m x) (c.eventSev s) m) := by
      refine Same.trans ?_ (same_capture _ _ _ _)
      unfold logged
      dsimp only
      generalize c.countEvent s (c.eventSev s) m = a
      refine Same.trans (d := a.withFc { a.fc with seq := a.fc.seq + 1 }) ⟨rfl, rfl⟩ ?_
      exact (same_put _ _ (by unfold logKey; simp [oddKey]; omega)).trans (same_put _ _ (by simp [oddKey]))
    generalize (c.logged s m x).capture (c.recordOf s m x) (c.eventSev s) m = a at hlog
    have hpins := same_pins (a.act s (c.actionOf s m) (c.recordOf s m x))
    rcases act_marks a (c.actionOf s m) (c.recordOf s m x) (s := s) with hact | ⟨h1, h2, h3⟩
    · exact .inl (hlog.trans (hact.trans hpins))
    · right
      obtain ⟨l1, l2⟩ := hlog
      obtain ⟨p1, p2⟩ := hpins
      simp only [mark, Prod.mk.injEq] at l2 p2
      exact ⟨p1.trans (h1.trans l1), p2.1.trans (h2.trans l2.1), p2.2.1.trans h3⟩
  · exact .inl (same_pins _)

theorem base_countEvent (c : Core) (s sev : Nat) (m : Marks) : (c.countEvent s sev m).base = c.base := by
  have hget : ∀ k, k = 0x59000A ∨ k = 0x350001 → (c.countEvent s sev m).get k = c.get k := fun k hk => by
    rw [countEvent_get _ _ _ _ (by simp; omega) (by simp; omega) (by simp; omega)]
    exact counted_get _ _ _ _ (by simp; omega) (by simp; omega) (by simp; omega) (by simp; omega)
  have hfields : (c.countEvent s sev m).tick = c.tick ∧ (c.countEvent s sev m).seq = c.seq := by
    have hw : ∀ c : Core, (c.withWire m).tick = c.tick ∧ (c.withWire m).seq = c.seq := fun c => by
      unfold withWire
      split <;> exact ⟨rfl, rfl⟩
    have hr : ∀ c : Core, (c.withReal m).tick = c.tick ∧ (c.withReal m).seq = c.seq := fun c => by
      unfold withReal
      split <;> exact ⟨rfl, rfl⟩
    have hi : ∀ c : Core, (c.withInjected m).tick = c.tick ∧ (c.withInjected m).seq = c.seq := fun c => by
      unfold withInjected
      split <;> exact ⟨rfl, rfl⟩
    rw [countEvent_marks, (hi _).1, (hi _).2, (hr _).1, (hr _).2, (hw _).1, (hw _).2]
    exact ⟨rfl, rfl⟩
  rw [base, base, hget _ (.inl rfl), hget _ (.inr rfl), hfields.1, hfields.2]

/-- An event read backwards. -/
theorem back_event (c : Core) (s : Nat) (m : Marks) (x : FaultCtx) : Back c (c.event s m x) := by
  have hpins : ∀ c : Core, Back c c.pins := fun c => (same_pins c).back
  cases hq : c.quiet s (c.actionOf s m) with
  | true =>
    unfold event
    dsimp only
    rw [hq, if_pos rfl]
    refine Same.back (Same.trans (d := (c.inc (Obj.Source.SUPPRESSED s)).inc64 Obj.Fc.SUPPRESSED) ?_ ⟨rfl, rfl⟩)
    exact (same_inc c (by simp [oddKey]; omega)).trans (same_put _ _ (by simp [oddKey]))
  | false =>
    have hmarks := loud_marks x hq
    have hbase := base_countEvent c s (c.eventSev s) m
    by_cases hs : s = Src.ledgerCommit
    · have hcount : (c.event s m x).get (Obj.Source.COUNT Src.ledgerCommit) =
          min (c.get (Obj.Source.COUNT Src.ledgerCommit) + 1) (2 ^ 32 - 1) := by
        have hone := countEvent_count c s (c.eventSev s) m
        rw [hs] at hone
        rcases hmarks with ⟨-, h⟩ | ⟨-, h, -⟩
        · simp only [mark, Prod.mk.injEq] at h
          rw [h.1, hs, hone]
        · rw [h, hs, hone]
      have hstand : (c.event s m x).base = c.base := by
        rcases hmarks with ⟨h, -⟩ | ⟨h, -, -⟩
        · exact h.trans hbase
        · exact h.trans hbase
      rintro ⟨h1, h2⟩
      refine ⟨hstand ▸ h1, .inl ?_⟩
      rw [hcount] at h2
      omega
    · have hsame := same_countEvent c (c.eventSev s) m hs
      rcases hmarks with hmarks | ⟨h1, h2, h3⟩
      · exact (hsame.trans hmarks).back
      · rintro ⟨k1, k2⟩
        refine hsame.back ⟨h1 ▸ k1, .inl ?_⟩
        rw [h2, h3] at k2
        rcases k2 with k2 | ⟨-, k2, -⟩
        · exact k2
        · exact absurd k2 hs

theorem back_raise (c : Core) (s : Nat) (x : FaultCtx) : Back c (c.raise s x) := by
  have hfc : ∀ f : FcState, Back c (c.withFc f) := fun _ => Same.back ⟨rfl, rfl⟩
  unfold raise
  exact back_ite (.refl c) (back_ite (hfc _) (back_ite (back_ite (.refl c) (hfc _)) (back_ite (.refl c) (back_event c s _ x))))

/-! ## The device state and the start -/

theorem same_setDev (c : Core) (v : Nat) : Same c (c.setDev v) := by
  unfold setDev
  refine same_ite (.refl c) (Same.trans (Same.trans ?_ (same_pins _)) ⟨rfl, rfl⟩)
  exact (((same_put c _ (by simp [oddKey])).trans (same_put _ _ (by simp [oddKey]))).trans (same_put _ _ (by simp [oddKey]))).trans
    (same_put _ _ (by simp [oddKey]))

theorem same_autoState (c : Core) : Same c c.autoState := by
  unfold autoState
  exact same_ite (same_setDev c _) (.refl c)

/-- At the first tick no start has ended after it has begun. -/
theorem not_odd_finishStart (c : Core) (r : StartRun) : ¬ Odd (c.finishStart r) := by
  rintro ⟨h, -⟩
  unfold finishStart at h
  dsimp only at h
  rw [(same_setDev _ _).1] at h
  have hbase : ∀ (a : Core), ((if a.isSet Obj.Dev.FORCE_COLD then (a.put Obj.Dev.FORCE_COLD 0).touch else a).withStart none).base = a.base :=
    fun a => by
      have h1 : ((if a.isSet Obj.Dev.FORCE_COLD then (a.put Obj.Dev.FORCE_COLD 0).touch else a)).base = a.base := by
        split
        · exact (same_put a 0 (k := Obj.Dev.FORCE_COLD) (by simp [oddKey])).1
        · rfl
      exact h1
  rw [hbase] at h
  simp only [base, Prod.mk.injEq] at h
  obtain ⟨htick, -, -, -, htime, -⟩ := h
  rw [get_put_self] at htime
  have h0 : c.tick = 0 := htick
  rw [h0] at htime
  simp [sat] at htime

theorem back_startProgress (c : Core) : Back c c.startProgress := by
  have hend : ∀ r, Back c (c.finishStart r) := fun r h => absurd h (not_odd_finishStart c r)
  unfold startProgress
  split
  · exact .refl c
  · exact back_ite (back_ite (hend _) (same_setDev c _).back) (back_ite (hend _) (.refl c))

theorem same_queueTraining (c : Core) (i : Nat) (b : Bool) : Same c (c.queueTraining i b) := by
  have h1 : Same c (c.put (Obj.Train.TRAIN_STATE i) 1) := same_put c 1 (by simp [oddKey]; omega)
  unfold queueTraining
  generalize c.put (Obj.Train.TRAIN_STATE i) 1 = a at h1
  exact h1.trans ⟨rfl, rfl⟩

theorem back_advance (c : Core) : Back c c.advance := by
  unfold advance
  refine (back_startProgress c).trans ?_
  unfold trainPhase
  split
  · exact .refl _
  · exact back_ite (.refl _) (back_each 32 _ (fun c i => back_ite (same_queueTraining c i _).back (.refl c)) _)

/-! ## The way to OFFLINE -/

theorem same_resetDevice (c : Core) (i : Nat) : Same c (c.resetDevice i) :=
  Same.trans (d := c.resetBase i) ⟨rfl, rfl⟩ (same_sluice (resetDevice_sluiceOnly c i))

theorem same_dropStart (c : Core) (i : Nat) (lost : Bool) : Same c (c.dropStart i lost) := by
  have hgive : ∀ (c : Core) (k : Nat), Same c (if c.waits k i then c.unqueue k i else if c.holds k i then c.release k i else c) :=
    fun c k => same_ite (same_sluice (sluiceOnly_unqueue c k i)) (same_sluice (sluiceOnly_give c k i))
  unfold dropStart
  refine (Same.trans (d := c.updStart _) ⟨rfl, rfl⟩ (hgive _ _)).trans (same_ite ?_ (.refl _))
  exact Same.trans ⟨rfl, rfl⟩ (hgive _ _)

theorem back_offEnded (c : Core) (i : Nat) (quiet lost : Bool) : Back c (c.offEnded i quiet lost) := by
  have hraise : Back c (c.offRaised i quiet) := back_ite (.refl c) (back_raise c _ _)
  have hend : ∀ a : Core, Same a (((if a.holds Ck.srExit i then a.release Ck.srExit i else a).dropStart i lost).autoState) := fun a =>
    ((same_sluice (sluiceOnly_give a _ i)).trans (same_dropStart _ i lost)).trans (same_autoState _)
  exact hraise.trans (hend _).back

theorem same_contentLost (c : Core) (i : Nat) : Same c (c.contentLost i) := by
  have h1 : Same c (c.putBit Obj.ScMask.CONTENT_LOST i true) := same_put c _ (by simp [oddKey])
  unfold contentLost
  exact same_ite h1 (h1.trans (same_put _ _ (by simp [oddKey]; omega)))

theorem same_offMarked (c : Core) (i : Nat) (was : Bool) : Same c (c.offMarked i was) := by
  have h1 : Same c ((c.put (Obj.Sc.STATE i) 3).put (Obj.Sc.PD_MASK i) 0) :=
    (same_put c _ (by simp [oddKey]; omega)).trans (same_put _ _ (by simp [oddKey]; omega))
  unfold offMarked
  generalize (c.put (Obj.Sc.STATE i) 3).put (Obj.Sc.PD_MASK i) 0 = a at h1
  exact h1.trans ⟨rfl, rfl⟩

theorem back_enterOffline (c : Core) (i : Nat) (order lost : Bool) : Back c (c.enterOffline i order lost) := by
  cases lost with
  | true =>
    rw [enterOffline_lost]
    exact (((same_resetDevice c i).trans (same_offMarked _ i _)).trans (same_contentLost _ i)).back.trans (back_offEnded _ i _ _)
  | false =>
    rw [enterOffline_kept]
    have hwake : Same c (c.wakeBoth i) := same_rank ((rankOnly_wakeRank c i 0).trans (rankOnly_wakeRank _ i 1))
    exact (hwake.trans (same_offMarked _ i _)).back.trans (back_offEnded _ i _ _)

theorem same_beginExit (c : Core) (i : Nat) : Same c (c.beginExit i) := by
  obtain ⟨a, ha, heq⟩ := beginExit_ranked c i
  rw [heq]
  exact (same_rank ha).trans ⟨rfl, rfl⟩

theorem same_endExit (c : Core) (i : Nat) : Same c (c.endExit i) := by
  unfold endExit
  exact (same_put c 0 (by simp [oddKey]; omega)).trans (same_sluice (sluiceOnly_give _ Ck.srExit i))

theorem back_goOffline (c : Core) (i : Nat) (order lost : Bool) : Back c (c.goOffline i order lost) := by
  have hdem : Same c ((c.demandExit i).updMc i fun m => { m with offAfter := true }) := by
    refine Same.trans (d := c.demandExit i) ?_ ⟨rfl, rfl⟩
    unfold demandExit
    exact same_ite (.refl c) ⟨rfl, rfl⟩
  unfold goOffline
  refine back_ite (back_enterOffline c i _ _) (back_ite ?_ (back_ite hdem.back (hdem.back.trans (back_raise _ _ _))))
  exact ((same_beginExit c i).trans (same_endExit _ i)).back.trans (back_enterOffline _ i _ _)

/-! ## Messages -/

theorem same_sailSent (h : c.SailSent d) : Same c d :=
  same_of (by rw [h.1]) (by rw [h.1]) (by rw [h.1]) fun k hk => h.get (by unfold oddKey at hk; simp; omega)

theorem same_notifyOne (c : Core) (ev k : Nat) : Same c (c.notifyOne ev k) := by
  have hlost : Same c c.noteLost := by
    unfold noteLost
    exact (same_put c _ (by simp [oddKey])).trans (same_put _ _ (by simp [oddKey]))
  have hsend : ∀ (c : Core) (p : LoaPath) (vc : Nat) (bs : List Byte), Same c (c.sendLoa p vc bs) := fun c p vc bs => by
    have hport : ∀ {q : Nat} {d : Core}, PortOnly q c d → Same c d := fun h =>
      same_of (by rw [h.1]) (by rw [h.1]) (by rw [h.1]) fun k _ => h.get k
    unfold sendLoa
    exact same_ite ⟨rfl, rfl⟩ (hport (send_facts c p.a vc _ _).1)
  unfold notifyOne
  exact same_ite (.refl c) (same_ite hlost (Same.trans (d := c.updSession k _) ⟨rfl, rfl⟩ (hsend _ _ _ _)))

theorem same_topology (c : Core) : Same c c.topology := by
  have h1 : Same c c.treed :=
    (((same_put c _ (by simp [oddKey])).trans (same_put _ _ (by simp [oddKey]))).trans (same_put _ _ (by simp [oddKey]))).trans
      (same_put _ _ (by simp [oddKey]))
  have h2 : Same c c.treeFlagged := by
    unfold treeFlagged
    exact same_ite (h1.trans (same_put _ _ (by simp [oddKey]))) h1
  have h3 : Same c c.treeCounted := by
    unfold treeCounted
    generalize c.treeFlagged = a at h2
    exact same_ite (h2.trans ⟨rfl, rfl⟩) h2
  rw [topology_eq]
  refine same_ite h3 (h3.trans ?_)
  exact each_induct (Same _) 4 _ _ (.refl _) fun d k _ hd => hd.trans (same_ite (same_sailSent (sailSent_sendHello d k)) (.refl d))

theorem back_serve (c : Core) (r : Req) : Back c (c.serve r) := by
  unfold serve
  split
  · exact back_goOffline c _ _ _
  · exact back_each 16 _ (fun c i => back_goOffline c _ _ _) c
  · exact back_foldl _ _ (fun c k => (same_notifyOne c _ k).back) c
  · exact (same_sailSent (sailSent_sailFlood c 4 _)).back
  · exact (same_sailSent (sailSent_sailFlood c 4 _)).back
  · exact .refl c

/-! ## SAFE and LOCKOUT -/

/-- SAFE takes lease 0 out of ACTIVE, or finds nothing to do. -/
theorem back_safeEntry (c : Core) : Back c c.safeEntry := by
  unfold safeEntry
  split
  · rintro ⟨h, -⟩
    have hend := calm_abandonStart ((c.setDev Dv.safe).flag Obj.Dev.FLAGS 1).endEngines
    have hfold := calm_foldl ((List.range 32).filter fun n => (c.ddrOf n).train.isSome) (fun c n => c.closeReaction 6 n)
      (fun c n => calm_closeReaction c 6 n) ((c.setDev Dv.safe).flag Obj.Dev.FLAGS 1).endEngines.abandonStart
    simp only [base, Prod.mk.injEq] at h
    obtain ⟨-, -, -, -, -, h⟩ := h
    rw [hfold.2 _ calmKey_lease, hend.2 _ calmKey_lease] at h
    exact absurd h (lease_endEngines _)
  · exact .refl c

theorem back_closeWindow (c : Core) (id : Nat) : Back c (c.closeWindow id) := by
  have hnote : ∀ (q : QuietWindow) (c : Core) (k : Nat), ¬ oddKey k → Same c (noteSuppressed q c k) := fun q c k hk => by
    unfold noteSuppressed
    exact same_ite (same_put c _ hk) (.refl c)
  cases hq : c.fc.windows.find? fun w => w.id == id with
  | none =>
    rw [closeWindow, hq]
    exact .refl c
  | some q =>
    rw [closeWindow_eq hq]
    have hclosed : Same c (c.closed id q) := by
      unfold closed
      exact ((same_withFc c _).trans (hnote q _ _ (by unfold logKey; simp [oddKey]; omega))).trans (hnote q _ _ (by simp [oddKey]))
    exact hclosed.back.trans (back_foldl _ _ (fun c e => back_ite (back_event c _ _ _) (.refl c)) _)

theorem seq_powerOff (c : Core) : c.powerOff.seq = c.seq := by
  have hfold : ∀ (f : Core → Nat → Core), (∀ k a, (f k a).seq = k.seq) → ∀ (l : List Nat) (k : Core), (l.foldl f k).seq = k.seq :=
    fun f hf l => by
      induction l with
      | nil => exact fun _ => rfl
      | cons a l ih => exact fun k => (ih _).trans (hf k a)
  have hkept : ∀ (l : List Nat) (k : Core), (l.foldl (fun k a => if k.get a = c.get a then k else (k.put a (c.get a)).touch) k).seq = k.seq :=
    hfold _ fun k a => by
      split <;> rfl
  unfold powerOff
  dsimp only
  rw [hkept]
  exact hfold (fun k a => k.put a (c.get a)) (fun _ _ => rfl) _ _

theorem dwellOver_seqOff (c : Core) : c.seqOff.seq.dwellOver = false := by
  have hsplit : ∃ a : Core, a.seq.dwellOver = false ∧ c.seqOff = if a.dev = Dv.lockout then a else a.powerOff.setDev Dv.off := by
    refine ⟨_, ?_, rfl⟩
    rfl
  obtain ⟨a, ha, heq⟩ := hsplit
  rw [heq]
  split
  · exact ha
  · rw [setDev_seq, seq_powerOff, ha]

/-- DESCENT begins with its first step, or OFF follows it at once. -/
theorem beginDescent_seq (c : Core) (l : List Nat) : (c.beginDescent l).seq.phase ≠ .delayOn ∨ (c.beginDescent l).seq.dwellOver = false := by
  have hwait : ∀ b : Bool, (if b then SeqPhase.cascadeDown else .dropReady) ≠ .delayOn := fun b => by cases b <;> decide
  have hsplit : ∃ a : Core, a.seq.phase ≠ .delayOn ∧ c.beginDescent l = if l = [] then a.seqOff else a := by
    refine ⟨_, ?_, rfl⟩
    exact hwait _
  obtain ⟨a, ha, heq⟩ := hsplit
  rw [heq]
  split
  · exact .inr (dwellOver_seqOff a)
  · exact .inl ha

/-- An off request in RAMP waits for its step, or begins DESCENT. -/
theorem not_odd_offInRamp (c : Core) : ¬ Odd c.offInRamp := by
  rintro ⟨h, -⟩
  simp only [base, Prod.mk.injEq] at h
  obtain ⟨-, hphase, hoff, hdwell, -, -⟩ := h
  have hsplit : (∃ a : Core, c.offInRamp = a.withSeq { a.seq with offReq := true }) ∨
      ∃ (a : Core) (l : List Nat), c.offInRamp = a.beginDescent l := by
    unfold offInRamp
    dsimp only
    split
    · exact .inl ⟨_, rfl⟩
    · exact .inr ⟨_, _, rfl⟩
  rcases hsplit with ⟨a, heq⟩ | ⟨a, l, heq⟩
  · rw [heq] at hoff
    exact Bool.noConfusion (show true = false from hoff)
  · rw [heq] at hphase hdwell
    rcases beginDescent_seq a l with h | h
    · exact h hphase
    · exact absurd (hdwell.symm.trans h) (by decide)

theorem back_lockoutEntry (c : Core) : Back c c.lockoutEntry := by
  have hclose : ∀ c : Core, Back c c.closeAllWindows := fun c => by
    unfold closeAllWindows
    exact back_foldl _ _ (fun c (w : QuietWindow) => back_closeWindow c w.id) c
  have hreset : ∀ c : Core, Same c c.resetDram := fun c => by
    unfold resetDram
    refine each_induct (Same c) 32 _ c (.refl c) fun d i _ hd => hd.trans ?_
    exact Same.trans (same_ite (.refl d) (same_resetDevice d i)) ⟨rfl, rfl⟩
  have hbefore : Same c ((((c.setDev Dv.lockout).resetDram).withStart none).withSeq
      { ((c.setDev Dv.lockout).resetDram).seq with orderly := false }) :=
    ((same_setDev c _).trans (hreset _)).trans ⟨rfl, rfl⟩
  unfold lockoutEntry
  refine back_ite (.refl c) ?_
  exact (hbefore.back.trans (hclose _)).trans (back_ite (fun h => absurd h (not_odd_offInRamp _)) (.refl _))

end Core

/-! ## The end of a command -/

theorem State.back_settleRound (s : State) : Core.Back s.core s.settleRound.core := by
  have hserve : ∀ c : Core, Core.Back c (s.core.req.foldl (fun c r => c.serve r) c) := fun c =>
    Core.back_foldl _ _ (fun c r => Core.back_serve c r) c
  have hquiet : Core.Back s.core (s.core.withReq []) := Core.Same.back ⟨rfl, rfl⟩
  have hask : ∀ c : Core, Core.Back c (c.ask .health) := fun c => Core.Same.back ⟨rfl, rfl⟩
  have hcollect : Core.Back s.core (if s.core.req.contains .lockout then (s.core.withReq []).lockoutEntry
      else if s.core.req.contains .safe then (s.core.withReq []).safeEntry else s.core.withReq []) :=
    Core.back_ite (hquiet.trans (Core.back_lockoutEntry _)) (Core.back_ite (hquiet.trans (Core.back_safeEntry _)) hquiet)
  unfold State.settleRound
  exact (hcollect.trans (Core.back_ite (hask _) (.refl _))).trans (hserve _)

theorem State.back_settleRounds (k : Nat) (s : State) : Core.Back s.core (State.settleRounds k s).core := by
  induction k generalizing s with
  | zero => exact .refl _
  | succ k ih =>
    unfold State.settleRounds
    split
    · exact .refl _
    · exact (State.back_settleRound s).trans (ih _)

/-- A hub that shows the marks of a lockout by LEDGER_COMMIT at the end of a command showed them, or no event yet, before it. -/
theorem State.back_settle (s : State) : Core.Back s.core s.settle.core := by
  unfold State.settle
  split
  · exact .refl _
  · have h1 := State.back_settleRounds 8 s
    dsimp only
    generalize State.settleRounds 8 s = s1 at h1
    refine h1.trans (Core.Back.trans ?_ (State.back_settleRounds 8 _))
    exact (Core.back_ite (Core.same_topology _).back (.refl _)).trans (Core.back_advance _)

end Sys2Proof.Machine
end

section
/-! PROOFS. A commit that would need the last SEQ (09_fantail_calibration.md R237, R238; 12_fault_collection.md R310, R327): where the
action of LEDGER_COMMIT is LOCKOUT, its event writes LAST_LOCKOUT, and the objects' record waits for a commit from then on. -/

namespace Sys2Proof.Machine

/-- A valid slot of the objects' record with the last SEQ that may be used. -/
def lastSlot : LedgerSlot :=
  { LedgerSlot.init with magic := 0x5A43, format := 2, half := 2, seq := 0xFFFFFFFE, crc := 1315945155 }

/-- A hub in SLEEP whose sequencer waits in RAMP, with lease 0 ACTIVE, LOCKOUT as the action of every severity, and no change that
waits for a commit. -/
def lastSeq : State :=
  { State.reset with
    core := ((((({ Core.init with
      ledger := [(2, { LedgerState.init with a := lastSlot })]
      fc := { Core.init.fc with running := true }
      seq := { Core.init.seq with aoUp := true, phase := .delayOn, dwellOver := true } } : Core).put Obj.Dev.START_TIME_US 5).put
        (Obj.Lease.STATE 0) 1).put Obj.Fc.MODE 1).put Obj.Fc.ACTION_MAP 0x0505050505050505).put Obj.Dev.DEVICE_STATE Dv.sleep }

/-- The state after the commit is asked for. -/
def lastSeqAfter : State := lastSeq.onAo fun c => c.ledgerBegin 2

theorem exec_lastSeq : exec (.ledgerCommit .objects) lastSeq = .next lastSeqAfter := rfl

theorem odd_lastSeqAfter : lastSeqAfter.core.Odd := by
  have hbase : lastSeqAfter.core.base = (0, .delayOn, false, true, 5, 1) := by decide +kernel
  have hmark : lastSeqAfter.core.get (Obj.Source.COUNT Src.ledgerCommit) = 1 ∧
      lastSeqAfter.core.get Obj.Fc.LOCKOUT_SOURCE = Src.ledgerCommit ∧ (lastSeqAfter.core.ledgerOf 2).dirty = true := by
    decide +kernel
  exact ⟨hbase, .inr hmark⟩

/-- Refutes O42: the event of LEDGER_COMMIT with the action LOCKOUT leaves the objects' record with a change to commit, and nothing
that follows the command makes that change in place of the event. -/
theorem not_ledgerCommits : ¬ Obligations.LedgerCommits := by
  unfold Obligations.LedgerCommits
  rintro ⟨hbegin, -⟩
  obtain ⟨-, -, hlast⟩ := hbegin lastSeq .objects _ rfl rfl rfl
  obtain ⟨c, hexec, hledger, hraise⟩ := hlast rfl (by decide +kernel)
  have hend : lastSeqAfter = ({ lastSeq with core := c } : State).settle := by
    rw [exec_lastSeq] at hexec
    injection hexec
  obtain ⟨-, hcount⟩ := State.back_settle { lastSeq with core := c } (hend ▸ odd_lastSeqAfter)
  have hone : c.get (Obj.Source.COUNT Src.ledgerCommit) = 1 := (hraise (by decide +kernel)).trans (by decide +kernel)
  have hclean : (c.ledgerOf 2).dirty = false := by
    have hsame : c.ledgerOf 2 = lastSeq.core.ledgerOf 2 := hledger
    rw [hsame]
    decide +kernel
  rcases hcount with h | ⟨-, -, h⟩
  · exact absurd (hone.symm.trans h) (by decide)
  · exact absurd (hclean.symm.trans h) (by decide)

end Sys2Proof.Machine
end

section
/-! PROOFS. Writes of tables in another order: a write below a key that stands in its place, and a write from that key on, commute
whatever the rest of the table holds. -/

namespace Sys2Proof.Machine

namespace Tbl

variable {α : Type}

theorem erase_append (X Y : Tbl α) (k : Nat) : Tbl.erase (X ++ Y) k = Tbl.erase X k ++ Tbl.erase Y k := by
  induction X with
  | nil => rfl
  | cons e X ih =>
    obtain ⟨j, v⟩ := e
    simp only [List.cons_append, Tbl.erase]
    split
    · exact ih
    · rw [ih, List.cons_append]

theorem erase_cons_ne {j k : Nat} (v : α) (t : Tbl α) (h : k ≠ j) : Tbl.erase ((j, v) :: t) k = (j, v) :: Tbl.erase t k := by
  simp only [Tbl.erase]
  rw [if_neg h]

theorem erase_eq_self {t : Tbl α} {k : Nat} (h : ∀ e ∈ t, e.1 ≠ k) : Tbl.erase t k = t := by
  induction t with
  | nil => rfl
  | cons e t ih =>
    obtain ⟨j, v⟩ := e
    rw [erase_cons_ne v t (Ne.symm (h _ List.mem_cons_self)), ih fun e he => h e (List.mem_cons_of_mem _ he)]

theorem erase_erase (t : Tbl α) (a b : Nat) : Tbl.erase (Tbl.erase t a) b = Tbl.erase (Tbl.erase t b) a := by
  induction t with
  | nil => rfl
  | cons e t ih =>
    obtain ⟨j, v⟩ := e
    rcases eq_or_ne a j with rfl | ha
    · rcases eq_or_ne b a with rfl | hb
      · rfl
      · simp [Tbl.erase, hb, ih]
    · rcases eq_or_ne b j with rfl | hb
      · simp [Tbl.erase, ha, ih]
      · simp [Tbl.erase, ha, hb, ih]

/-- An entry that goes before the first larger key stands before a larger one. -/
theorem insert_append {T k : Nat} (X Y : Tbl α) (v x : α) (h : k < T) :
    Tbl.insert (X ++ (T, v) :: Y) k x = Tbl.insert X k x ++ (T, v) :: Y := by
  induction X with
  | nil => simp [Tbl.insert, h]
  | cons e X ih =>
    obtain ⟨j, w⟩ := e
    simp only [List.cons_append, Tbl.insert]
    split
    · rfl
    · rw [ih, List.cons_append]

/-- … and after every smaller one. -/
theorem insert_after {k : Nat} (X Y : Tbl α) (x : α) (h : ∀ e ∈ X, e.1 < k) : Tbl.insert (X ++ Y) k x = X ++ Tbl.insert Y k x := by
  induction X with
  | nil => rfl
  | cons e X ih =>
    obtain ⟨j, w⟩ := e
    have hj : j < k := h _ List.mem_cons_self
    simp only [List.cons_append, Tbl.insert]
    rw [if_neg (by omega), ih fun e he => h e (List.mem_cons_of_mem _ he)]

theorem erase_insert {k T : Nat} (t : Tbl α) (x : α) (h : k < T) :
    Tbl.erase (Tbl.insert t T x) k = Tbl.insert (Tbl.erase t k) T x := by
  induction t with
  | nil => simp [Tbl.insert, Tbl.erase, Nat.ne_of_lt h]
  | cons e t ih =>
    obtain ⟨j, v⟩ := e
    by_cases hT : T < j
    · have hj : k ≠ j := by omega
      simp [Tbl.insert, Tbl.erase, hT, hj, Nat.ne_of_lt h]
    · rcases eq_or_ne k j with rfl | hk
      · simp [Tbl.insert, Tbl.erase, hT, ih]
      · simp [Tbl.insert, Tbl.erase, hT, hk, ih]

/-- The key stands behind smaller ones alone. -/
def Behind (T : Nat) (L : Tbl α) : Prop := ∃ X v Y, L = X ++ (T, v) :: Y ∧ ∀ e ∈ X, e.1 < T

/-- The key stands in its place: behind smaller ones alone, before a larger one, and once. -/
def Placed (T : Nat) (L : Tbl α) : Prop :=
  ∃ X v Y, L = X ++ (T, v) :: Y ∧ (∀ e ∈ X, e.1 < T) ∧ (∀ e ∈ Y, e.1 ≠ T) ∧ ∀ e ∈ Y.head?, T < e.1

theorem Placed.behind {T : Nat} {L : Tbl α} (h : Placed T L) : Behind T L := by
  obtain ⟨X, v, Y, h1, h2, -⟩ := h
  exact ⟨X, v, Y, h1, h2⟩

section
variable [DecidableEq α] (d : Nat → α) {T T' k : Nat} {L X Y : Tbl α} {v x y : α}

/-- What a write of a smaller key does before the key. -/
def setBefore (X : Tbl α) (k : Nat) (x : α) : Tbl α := if x = d k then X.erase k else (X.erase k).insert k x

theorem set_before (hk : k < T) : Tbl.set d (X ++ (T, v) :: Y) k x = setBefore d X k x ++ (T, v) :: Y.erase k := by
  unfold Tbl.set setBefore
  rw [erase_append, erase_cons_ne v Y (Nat.ne_of_lt hk)]
  split
  · rfl
  · exact insert_append _ _ v x hk

theorem lt_of_mem_setBefore (hk : k < T) (hX : ∀ e ∈ X, e.1 < T) : ∀ e ∈ setBefore d X k x, e.1 < T := by
  unfold setBefore
  intro e he
  split at he
  · exact hX e (Tbl.mem_erase he)
  · rcases Tbl.mem_insert he with rfl | he
    · exact hk
    · exact hX e (Tbl.mem_erase he)

theorem Behind.set_lt (hk : k < T) (h : Behind T L) : Behind T (Tbl.set d L k x) := by
  obtain ⟨X, v, Y, rfl, hX⟩ := h
  exact ⟨_, v, _, set_before d hk, lt_of_mem_setBefore d hk hX⟩

theorem Placed.set_lt (hk : k < T) (h : Placed T L) : Placed T (Tbl.set d L k x) := by
  obtain ⟨X, v, Y, rfl, hX, hY, hhead⟩ := h
  refine ⟨_, v, _, set_before d hk, lt_of_mem_setBefore d hk hX, fun e he => hY e (Tbl.mem_erase he), ?_⟩
  cases Y with
  | nil => exact hhead
  | cons e Y =>
    obtain ⟨j, w⟩ := e
    have hj : T < j := hhead _ rfl
    rw [erase_cons_ne w Y (by omega)]
    exact hhead

/-- A write of the key itself puts it in its place. -/
theorem placed_set (hx : x ≠ d T) : Placed T (Tbl.set d L T x) := by
  have hins : ∀ t : Tbl α, (∀ e ∈ t, e.1 ≠ T) → Placed T (t.insert T x) := fun t => by
    induction t with
    | nil => exact fun _ => ⟨[], x, [], rfl, by simp, by simp, by simp⟩
    | cons e t ih =>
      intro ht
      obtain ⟨j, w⟩ := e
      by_cases hj : T < j
      · refine ⟨[], x, (j, w) :: t, by simp [Tbl.insert, hj], by simp, ht, ?_⟩
        rintro e he
        obtain rfl : (j, w) = e := Option.some.inj he
        exact hj
      · obtain ⟨X, v, Y, h1, h2, h3, h4⟩ := ih fun e he => ht e (List.mem_cons_of_mem _ he)
        have hne : j ≠ T := ht _ List.mem_cons_self
        refine ⟨(j, w) :: X, v, Y, by simp [Tbl.insert, hj, h1], fun e he => ?_, h3, h4⟩
        rcases List.mem_cons.mp he with rfl | he
        · show j < T
          omega
        · exact h2 e he
  unfold Tbl.set
  rw [if_neg hx]
  exact hins _ (Tbl.not_mem_erase L T)

/-- A write of a later key leaves the key behind smaller ones alone. -/
theorem set_after (hT : T < T') (hX : ∀ e ∈ X, e.1 < T) (hx : x ≠ d T') :
    Tbl.set d (X ++ (T, v) :: Y) T' x = X ++ (T, v) :: (Y.erase T').insert T' x := by
  have hXT : ∀ e ∈ X ++ [(T, v)], e.1 < T' := fun e he => by
    rcases List.mem_append.mp he with he | he
    · exact (hX e he).trans hT
    · rw [List.mem_singleton.mp he]
      exact hT
  have hsplit : ∀ Z : Tbl α, X ++ (T, v) :: Z = (X ++ [(T, v)]) ++ Z := fun Z => by simp
  unfold Tbl.set
  rw [if_neg hx, hsplit, erase_append, erase_eq_self fun e he => Nat.ne_of_lt (hXT e he), insert_after _ _ _ hXT, ← hsplit]

theorem Behind.set_gt (hT : T < T') (hx : x ≠ d T') (h : Behind T L) : Behind T (Tbl.set d L T' x) := by
  obtain ⟨X, v, Y, rfl, hX⟩ := h
  exact ⟨X, v, _, set_after d hT hX hx, hX⟩

theorem set_placed (hx : x ≠ d T) (hX : ∀ e ∈ X, e.1 < T) (hY : ∀ e ∈ Y, e.1 ≠ T) (hhead : ∀ e ∈ Y.head?, T < e.1) :
    Tbl.set d (X ++ (T, v) :: Y) T x = X ++ (T, x) :: Y := by
  unfold Tbl.set
  have hself : Tbl.erase ((T, v) :: Y) T = Y := by
    simp only [Tbl.erase, if_true]
    exact erase_eq_self hY
  rw [if_neg hx, erase_append, erase_eq_self fun e he => Nat.ne_of_lt (hX e he), hself, insert_after _ _ _ hX]
  cases Y with
  | nil => rfl
  | cons e Y =>
    obtain ⟨j, w⟩ := e
    have hj : T < j := hhead _ rfl
    simp [Tbl.insert, hj]

/-- A write below a key and a write above it commute. -/
theorem set_comm_gt (hk : k < T) (hT : T < T') (hx : x ≠ d T') (h : Behind T L) :
    Tbl.set d (Tbl.set d L T' x) k y = Tbl.set d (Tbl.set d L k y) T' x := by
  obtain ⟨X, v, Y, rfl, hX⟩ := h
  rw [set_after d hT hX hx, set_before d hk, set_before d hk, set_after d hT (lt_of_mem_setBefore d hk hX) hx,
    erase_insert _ _ (hk.trans hT), erase_erase]

/-- A write below a key and a write of the key in its place commute. -/
theorem set_comm_self (hk : k < T) (hx : x ≠ d T) (h : Placed T L) :
    Tbl.set d (Tbl.set d L T x) k y = Tbl.set d (Tbl.set d L k y) T x := by
  have h' := h.set_lt d hk (x := y)
  obtain ⟨X, v, Y, rfl, hX, hY, hhead⟩ := h
  rw [set_placed d hx hX hY hhead, set_before d hk, set_before d hk]
  refine (set_placed d hx (lt_of_mem_setBefore d hk hX) (fun e he => hY e (Tbl.mem_erase he)) ?_).symm
  cases Y with
  | nil => exact hhead
  | cons e Y =>
    obtain ⟨j, w⟩ := e
    have hj : T < j := hhead _ rfl
    rw [erase_cons_ne w Y (by omega)]
    exact hhead

end

end Tbl

end Sys2Proof.Machine
end

section
/-! PROOFS. The trainings that TRAIN begins, before and after the HEALTH STATUS and the roles that a change of the device state brings
(16_states_start_sluice.md R408, R411; 15_sail_time_array.md R389, R391): the order of the two makes no difference. -/

namespace Sys2Proof.Machine

namespace Core

variable {c e : Core}

/-! ## Trainings queued for a list of subchannels -/

/-- The trainings of a list of subchannels are queued, their runs set by `g`. -/
def queued (c : Core) (q : List Nat) (g : Nat → DdrState → DdrState) : Core :=
  q.foldl (fun c i => ((c.put (Obj.Train.TRAIN_STATE i) 1).updDdr i (g i)).askQueued Ck.train i 2400) c

/-- The run that TRAIN begins on a subchannel. -/
def freshRun (c : Core) (i : Nat) (d : DdrState) : DdrState :=
  { d with train := some (TrainRun.fresh (c.mcOf i).inReset (c.bitOf Obj.ScMask.CONTENT_LOST i || (c.mcOf i).inReset) c.tick) }

/-- Does a start train the subchannel, and is its training not queued yet? -/
def toTrain (c : Core) (trains i : Nat) : Bool := trains.testBit i && c.trainState i ≠ 1

/-- The subchannels that a start trains and whose training is not queued yet. -/
def untrained (c : Core) (trains : Nat) : List Nat := (List.range 32).filter (c.toTrain trains)

theorem queued_append (c : Core) (q q' : List Nat) (g : Nat → DdrState → DdrState) : c.queued (q ++ q') g = (c.queued q g).queued q' g := by
  unfold queued
  exact List.foldl_append

theorem queueTraining_eq (c : Core) (i : Nat) : c.queueTraining i (c.mcOf i).inReset = c.queued [i] c.freshRun := rfl

theorem get_queued (c : Core) (q : List Nat) (g : Nat → DdrState → DdrState) (k : Nat) (h : ∀ i ∈ q, k ≠ Obj.Train.TRAIN_STATE i) :
    (c.queued q g).get k = c.get k := by
  induction q generalizing c with
  | nil => rfl
  | cons i q ih =>
    refine (ih _ fun j hj => h j (List.mem_cons_of_mem _ hj)).trans ?_
    exact get_put_ne _ _ (h i List.mem_cons_self)

theorem trainState_queued_mem (c : Core) (q : List Nat) (g : Nat → DdrState → DdrState) {i : Nat} (h : i ∈ q ∨ c.trainState i = 1) :
    (c.queued q g).trainState i = 1 := by
  induction q generalizing c with
  | nil => exact h.resolve_left (by simp)
  | cons j q ih =>
    refine ih _ ?_
    by_cases hj : i = j
    · subst hj
      exact .inr (get_put_self c _ _)
    · refine (h.imp (fun h => ?_) fun h => ?_)
      · exact (List.mem_cons.mp h).resolve_left hj
      · exact (get_put_ne _ _ (by simp; omega)).trans h

/-- What queueing leaves. -/
theorem queued_fields (c : Core) (q : List Nat) (g : Nat → DdrState → DdrState) : (c.queued q g).start = c.start ∧
    (c.queued q g).tick = c.tick ∧ (c.queued q g).mc = c.mc ∧ (c.queued q g).req = c.req := by
  induction q generalizing c with
  | nil => exact ⟨rfl, rfl, rfl, rfl⟩
  | cons i q ih => exact ih _

theorem trainPhase_eq {r : StartRun} (hs : c.start = some r) (hd : c.dev = Dv.train) :
    c.trainPhase = c.queued (c.untrained r.trains) c.freshRun := by
  have hfold : ∀ (l done : List Nat), (done ++ l).Nodup →
      l.foldl (fun d i => if d.toTrain r.trains i then d.queueTraining i (d.mcOf i).inReset else d)
        (c.queued done c.freshRun) =
      c.queued (done ++ l.filter (c.toTrain r.trains)) c.freshRun := fun l => by
    induction l with
    | nil => exact fun done _ => by simp
    | cons i l ih =>
      intro done hnodup
      have hi : ∀ j ∈ done, Obj.Train.TRAIN_STATE i ≠ Obj.Train.TRAIN_STATE j := fun j hj h => by
        have hij : i = j := by
          simp at h
          omega
        subst hij
        exact (List.nodup_append.mp hnodup).2.2 i hj i List.mem_cons_self rfl
      have hstate : (c.queued done c.freshRun).toTrain r.trains i = c.toTrain r.trains i := by
        rw [toTrain, toTrain, trainState, trainState, get_queued c done _ _ hi]
      obtain ⟨-, htick, hmc, -⟩ := queued_fields c done c.freshRun
      have hlost : (c.queued done c.freshRun).get Obj.ScMask.CONTENT_LOST = c.get Obj.ScMask.CONTENT_LOST :=
        get_queued c done _ _ fun j _ => by simp; omega
      have hfresh : (c.queued done c.freshRun).freshRun i = c.freshRun i := by
        funext d
        simp only [freshRun, mcOf, hmc, htick, bitOf, hlost]
      have hstep : (c.queued done c.freshRun).queueTraining i ((c.queued done c.freshRun).mcOf i).inReset =
          c.queued (done ++ [i]) c.freshRun := by
        rw [queueTraining_eq, queued_append]
        simp only [queued, List.foldl_cons, List.foldl_nil]
        rw [← queued, hfresh]
      rw [List.foldl_cons, hstate]
      by_cases hp : c.toTrain r.trains i = true
      · rw [if_pos hp, hstep, ih (done ++ [i]) (by simpa using hnodup), List.filter_cons_of_pos hp]
        simp
      · rw [if_neg hp, ih done ?_, List.filter_cons_of_neg hp]
        exact hnodup.sublist (List.Sublist.append_left (List.sublist_cons_self _ _) _)
  unfold trainPhase
  rw [hs]
  dsimp only
  rw [if_neg (not_not.mpr hd), each]
  exact hfold (List.range 32) [] (by simpa using List.nodup_range)

/-! ## Two hubs that differ in queued trainings alone -/

/-- Other objects, DDR states and credits. -/
def withTrains (c : Core) (o : Tbl Nat) (d : Tbl DdrState) (l : SluiceState) : Core := { c with objs := o, ddr := d, sluice := l }

/-- The objects with TRAIN_STATE at QUEUED for a list of subchannels. -/
def trainSet (q : List Nat) (o : Tbl Nat) : Tbl Nat := q.foldl (fun o i => Tbl.set defaultOf o (Obj.Train.TRAIN_STATE i) 1) o

/-- The DDR states with the runs of a list of subchannels. -/
def trainRuns (q : List Nat) (g : Nat → DdrState → DdrState) (d : Tbl DdrState) : Tbl DdrState :=
  q.foldl (fun d i => Tbl.upd (fun _ => DdrState.init) d i (g i)) d

/-- The queue of credits with the requests of a list of subchannels. -/
def trainAsks (q : List Nat) (l : SluiceState) : SluiceState :=
  q.foldl (fun l i => { l with queue := l.queue ++ [{ kind := Ck.train, owner := i, mw := 2400, forced := false }] }) l

theorem queued_withTrains (c : Core) (q : List Nat) (g : Nat → DdrState → DdrState) :
    c.queued q g = c.withTrains (trainSet q c.objs) (trainRuns q g c.ddr) (trainAsks q c.sluice) := by
  induction q generalizing c with
  | nil => rfl
  | cons i q ih => exact ih _

theorem default_trainState {i : Nat} (hi : i < 32) : (1 : Nat) ≠ defaultOf (Obj.Train.TRAIN_STATE i) := by
  have h : ∀ i < 32, (1 : Nat) ≠ defaultOf (Obj.Train.TRAIN_STATE i) := by decide +kernel
  exact h i hi

/-- The second hub has queued the trainings of `n` and of later subchannels, in whose place TRAIN_STATE of `n` stands. -/
structure Twin (n : Nat) (q : List Nat) (d : Tbl DdrState) (l : SluiceState) (c e : Core) : Prop where
  eq : e = c.withTrains (trainSet (n :: q) c.objs) d l
  placed : Tbl.Placed (Obj.Train.TRAIN_STATE n) c.objs

section
variable {n : Nat} {q : List Nat} {d : Tbl DdrState} {l : SluiceState}

theorem trainSet_comm (hn : n < 32) (hq : ∀ i ∈ q, n < i ∧ i < 32) {k : Nat} (hk : k < 0x600101) (v : Nat) {o : Tbl Nat}
    (h : Tbl.Placed (Obj.Train.TRAIN_STATE n) o) :
    Tbl.set defaultOf (trainSet (n :: q) o) k v = trainSet (n :: q) (Tbl.set defaultOf o k v) := by
  have hlater : ∀ (q : List Nat), (∀ i ∈ q, n < i ∧ i < 32) → ∀ o : Tbl Nat, Tbl.Behind (Obj.Train.TRAIN_STATE n) o →
      Tbl.set defaultOf (trainSet q o) k v = trainSet q (Tbl.set defaultOf o k v) := fun q => by
    induction q with
    | nil => exact fun _ _ _ => rfl
    | cons i q ih =>
      intro hq o ho
      obtain ⟨h1, h2⟩ := hq i List.mem_cons_self
      have hi : Obj.Train.TRAIN_STATE n < Obj.Train.TRAIN_STATE i := by simp; omega
      refine (ih (fun j hj => hq j (List.mem_cons_of_mem _ hj)) _ (ho.set_gt defaultOf hi (default_trainState h2))).trans ?_
      rw [Tbl.set_comm_gt defaultOf (by simp; omega) hi (default_trainState h2) ho]
      rfl
  refine (hlater q hq _ (Tbl.placed_set defaultOf (default_trainState hn)).behind).trans ?_
  rw [Tbl.set_comm_self defaultOf (by simp; omega) (default_trainState hn) h]
  rfl

theorem Twin.put (hn : n < 32) (hq : ∀ i ∈ q, n < i ∧ i < 32) (h : Twin n q d l c e) {k : Nat} (hk : k < 0x600101) (v : Nat) :
    Twin n q d l (c.put k v) (e.put k v) := by
  refine ⟨?_, h.placed.set_lt defaultOf (by simp; omega)⟩
  have hcomm := trainSet_comm hn hq hk v h.placed
  rw [h.eq]
  unfold Core.put withTrains
  rw [hcomm]

theorem Twin.get (h : Twin n q d l c e) {k : Nat} (hk : k < 0x600101) : e.get k = c.get k := by
  have hset : ∀ (q : List Nat) (o : Tbl Nat), Tbl.get defaultOf (trainSet q o) k = Tbl.get defaultOf o k := fun q => by
    induction q with
    | nil => exact fun _ => rfl
    | cons i q ih => exact fun o => (ih _).trans (Tbl.get_set_ne _ _ _ (by simp; omega))
  rw [h.eq]
  exact hset _ _

/-- A function that neither reads nor writes what the two differ in. -/
theorem Twin.map (h : Twin n q d l c e) (f : Core → Core) (hf : ∀ c o d l, f (withTrains c o d l) = withTrains (f c) o d l) (ho : (f c).objs = c.objs) :
    Twin n q d l (f c) (f e) := by
  refine ⟨?_, ho ▸ h.placed⟩
  rw [h.eq, hf, ho]

theorem Twin.each (k : Nat) (f : Core → Nat → Core) (hf : ∀ c e x, x < k → Twin n q d l c e → Twin n q d l (f c x) (f e x))
    (h : Twin n q d l c e) : Twin n q d l (c.each k f) (e.each k f) := by
  have hfold : ∀ (xs : List Nat), (∀ x ∈ xs, x < k) → ∀ c e : Core, Twin n q d l c e → Twin n q d l (xs.foldl f c) (xs.foldl f e) := fun xs => by
    induction xs with
    | nil => exact fun _ _ _ h => h
    | cons x xs ih =>
      exact fun hxs c e h => ih (fun y hy => hxs y (List.mem_cons_of_mem _ hy)) _ _ (hf c e x (hxs x List.mem_cons_self) h)
  unfold Core.each
  exact hfold _ (fun x hx => List.mem_range.mp hx) _ _ h

/-! ## Messages -/

theorem Twin.sailSend (h : Twin n q d l c e) (k : Nat) {m : SailMsg} (hm : m.mtype ≠ 1) : Twin n q d l (c.sailSend k m) (e.sailSend k m) := by
  refine h.map (fun c => c.sailSend k m) (fun c o d l => ?_) ?_
  · have hs : (c.withTrains o d l).sailOf k = c.sailOf k := rfl
    unfold Core.sailSend
    dsimp only
    rw [hs, if_neg hm, if_neg hm]
    split_ifs <;> rfl
  · unfold Core.sailSend
    dsimp only
    rw [if_neg hm]
    split_ifs <;> rfl

theorem filter_erase (p : Nat × Nat → Bool) (o : Tbl Nat) (k : Nat) (hk : ∀ v, p (k, v) = false) : (Tbl.erase o k).filter p = o.filter p := by
  induction o with
  | nil => rfl
  | cons a o ih =>
    obtain ⟨j, v⟩ := a
    by_cases hj : k = j
    · subst hj
      rw [List.filter_cons_of_neg (by rw [hk]; decide), ← ih]
      simp [Tbl.erase]
    · rw [Tbl.erase_cons_ne v o hj, List.filter_cons, List.filter_cons, ih]

theorem filter_set (p : Nat × Nat → Bool) (o : Tbl Nat) (k v : Nat) (hk : ∀ v, p (k, v) = false) :
    (Tbl.set defaultOf o k v).filter p = o.filter p := by
  have hins : ∀ o : Tbl Nat, (Tbl.insert o k v).filter p = o.filter p := fun o => by
    induction o with
    | nil => simp [Tbl.insert, hk]
    | cons a o ih =>
      obtain ⟨j, w⟩ := a
      simp only [Tbl.insert]
      split
      · rw [List.filter_cons_of_neg (by rw [hk]; decide)]
      · rw [List.filter_cons, List.filter_cons, ih]
  unfold Tbl.set
  split
  · exact filter_erase p o k hk
  · exact (hins _).trans (filter_erase p o k hk)

theorem Twin.filter (h : Twin n q d l c e) (p : Nat × Nat → Bool) (hp : ∀ i v, p (Obj.Train.TRAIN_STATE i, v) = false) :
    e.objs.filter p = c.objs.filter p := by
  have hset : ∀ (q : List Nat) (o : Tbl Nat), (trainSet q o).filter p = o.filter p := fun q => by
    induction q with
    | nil => exact fun _ => rfl
    | cons i q ih => exact fun o => (ih _).trans (filter_set p o _ _ (hp i))
  rw [h.eq]
  exact hset _ _

theorem worstSev_eq (c : Core) : c.worstSev = (c.objs.filter fun e => isSourceStatus e.1 && bit 0 e.2).foldl (fun a e => max a (field 7 5 e.2)) 0 := by
  rw [List.foldl_filter]
  rfl

theorem Twin.healthMsg (h : Twin n q d l c e) (kind other cause : Nat) : e.healthMsg kind other cause = c.healthMsg kind other cause := by
  have hstatus : e.objs.filter (fun x => isSourceStatus x.1 && bit 0 x.2) = c.objs.filter fun x => isSourceStatus x.1 && bit 0 x.2 :=
    h.filter _ fun i v => by
      have : isSourceStatus (Obj.Train.TRAIN_STATE i) = false := by
        simp [isSourceStatus]
      rw [this, Bool.false_and]
  have hdev : e.dev = c.dev := h.get (by decide)
  unfold Core.healthMsg
  rw [worstSev_eq, worstSev_eq, pendingCount, pendingCount, hstatus, hdev, h.get (by decide), h.get (by decide), h.get (by decide),
    h.get (by decide)]

/-! ## Roles -/

theorem Twin.sail (h : Twin n q d l c e) : e.sail = c.sail := by rw [h.eq]; rfl

theorem Twin.sailOf (h : Twin n q d l c e) (k : Nat) : e.sailOf k = c.sailOf k := by rw [Core.sailOf, h.sail, Core.sailOf]

theorem Twin.spState (h : Twin n q d l c e) {k : Nat} (hk : k < 4) : e.spState k = c.spState k := h.get (by simp; omega)

theorem Twin.spUp (h : Twin n q d l c e) {k : Nat} (hk : k < 4) : e.spUp k = c.spUp k := by rw [Core.spUp, h.spState hk, Core.spUp]

theorem Twin.roleNow (h : Twin n q d l c e) : e.roleNow = c.roleNow := by
  have hroot : e.isSet Obj.Sail.ROOT = c.isSet Obj.Sail.ROOT := by rw [isSet, h.get (by decide), isSet]
  unfold Core.roleNow
  rw [hroot, h.spState (by decide), h.spUp (by decide), h.spUp (by decide), h.spUp (by decide)]

theorem Twin.subtreeNow (h : Twin n q d l c e) : e.subtreeNow = c.subtreeNow := by
  unfold Core.subtreeNow
  simp only [List.foldl_cons, List.foldl_nil, h.spUp (show 1 < 4 by decide), h.spUp (show 2 < 4 by decide), h.spUp (show 3 < 4 by decide), h.sailOf]

theorem Twin.ite {p : Prop} [Decidable p] {x y x' y' : Core} (hx : Twin n q d l x x') (hy : Twin n q d l y y') :
    Twin n q d l (if p then x else y) (if p then x' else y') := by
  split
  · exact hx
  · exact hy

theorem Twin.sailFlood (h : Twin n q d l c e) (skip : Nat) {m : SailMsg} (hm : m.mtype ≠ 1) :
    Twin n q d l (c.sailFlood skip m) (e.sailFlood skip m) := by
  unfold Core.sailFlood
  refine Twin.each 4 _ (fun c e k hk h => ?_) h
  rw [h.spUp hk]
  exact Twin.ite (h.sailSend k hm) h

theorem Twin.sendStatus (h : Twin n q d l c e) : Twin n q d l c.sendStatus e.sendStatus := by
  unfold Core.sendStatus
  rw [h.healthMsg]
  exact h.sailFlood 4 (show 5 ≠ 1 by decide)

theorem Twin.flag (hn : n < 32) (hq : ∀ i ∈ q, n < i ∧ i < 32) (h : Twin n q d l c e) {k : Nat} (hk : k < 0x600101) (b : Nat) :
    Twin n q d l (c.flag k b) (e.flag k b) := by
  unfold Core.flag
  rw [h.get hk]
  exact h.put hn hq hk _

theorem Twin.topology (hn : n < 32) (hq : ∀ i ∈ q, n < i ∧ i < 32) (h : Twin n q d l c e) : Twin n q d l c.topology e.topology := by
  have htreed : Twin n q d l c.treed e.treed := by
    unfold treed
    rw [h.roleNow, h.subtreeNow, h.sailOf]
    exact (((h.put hn hq (by decide) _).put hn hq (by decide) _).put hn hq (by decide) _).put hn hq (by decide) _
  have hflagged : Twin n q d l c.treeFlagged e.treeFlagged := by
    unfold treeFlagged
    rw [h.roleNow, h.subtreeNow]
    exact Twin.ite (htreed.flag hn hq (by decide) 5) htreed
  have hcounted : Twin n q d l c.treeCounted e.treeCounted := by
    unfold treeCounted
    rw [h.roleNow, h.get (show Obj.Sail.ROLE < 0x600101 by decide)]
    refine Twin.ite ?_ hflagged
    exact hflagged.map (fun a => a.withSail { a.sail with epochNum := 0 }) (fun _ _ _ _ => rfl) rfl
  rw [topology_eq, topology_eq, hcounted.get (show Obj.Sail.DEPTH < 0x600101 by decide), h.get (show Obj.Sail.DEPTH < 0x600101 by decide)]
  refine Twin.ite hcounted (Twin.each 4 _ (fun c e k hk h => ?_) hcounted)
  rw [h.spState hk]
  refine Twin.ite ?_ h
  unfold sendHello
  rw [h.healthMsg]
  exact h.sailSend k (show 5 ≠ 1 by decide)

end

/-! ## What a change of the device state brings -/

/-- The HEALTH STATUS, and the roles where they have changed. -/
def stateTold (c : Core) : Core :=
  let a := (c.withReq []).sendStatus
  if a.seqUp && a.get Obj.Sail.ROLE ≠ a.roleNow then a.topology else a

theorem Twin.stateTold {n : Nat} {q : List Nat} {d : Tbl DdrState} {l : SluiceState} (hn : n < 32) (hq : ∀ i ∈ q, n < i ∧ i < 32)
    (h : Twin n q d l c e) : Twin n q d l c.stateTold e.stateTold := by
  have hquiet : Twin n q d l (c.withReq []) (e.withReq []) := h.map (fun a => a.withReq []) (fun _ _ _ _ => rfl) rfl
  have hsent := hquiet.sendStatus
  have hup : (e.withReq []).sendStatus.seqUp = (c.withReq []).sendStatus.seqUp := by
    rw [seqUp, hsent.get (by decide), seqUp]
  unfold Core.stateTold
  dsimp only
  rw [hup, hsent.roleNow, hsent.get (show Obj.Sail.ROLE < 0x600101 by decide)]
  exact Twin.ite (hsent.topology hn hq) hsent

/-- What those leave. -/
theorem stateTold_kept (c : Core) : c.stateTold = { c with req := [], objs := c.stateTold.objs, sail := c.stateTold.sail, out := c.stateTold.out } ∧
    ∀ k, ¬ treeKey k → k ≠ Obj.Sail.TRIG_DROPPED → c.stateTold.get k = c.get k := by
  have hsent : (c.withReq []).SailSent (c.withReq []).sendStatus := sailSent_sailFlood _ 4 _
  have htree : ∀ a : Core, a.treeCounted = { a with objs := a.treeCounted.objs, sail := a.treeCounted.sail } := fun a => by
    have hobjs := objsOnly_treeFlagged a
    unfold treeCounted
    split
    · rw [hobjs]
      rfl
    · rw [hobjs]
  have htopo : ∀ a : Core, a.topology = { a with objs := a.topology.objs, sail := a.topology.sail, out := a.topology.out } := fun a => by
    have h := (sailSent_topology a).1
    rw [h, htree]
  unfold stateTold
  dsimp only
  generalize (c.withReq []).sendStatus = a at hsent
  refine ⟨?_, fun k h1 h2 => ?_⟩
  · split
    · rw [htopo, hsent.1]
      rfl
    · rw [hsent.1]
      rfl
  · split
    · rw [topology_get a h1 h2, hsent.get h2]
      rfl
    · rw [hsent.get h2]
      rfl

end Core

/-- The end of a command whose only request is HEALTH. -/
theorem State.settle_health {s : State} (h : s.core.req = [.health]) :
    s.settle = State.settleRounds 8 { s with core := s.core.stateTold.advance } := by
  have hround : s.settleRound = { s with core := (s.core.withReq []).sendStatus } := by
    unfold State.settleRound
    rw [h]
    simp [Core.serve]
  have hquiet : (s.core.withReq []).sendStatus.req = [] := by
    have hsent : (s.core.withReq []).SailSent (s.core.withReq []).sendStatus := Core.sailSent_sailFlood _ 4 _
    rw [hsent.1]
    rfl
  have hrounds : State.settleRounds 8 s = { s with core := (s.core.withReq []).sendStatus } := by
    rw [State.settleRounds, if_neg (by rw [h]; simp), hround, State.settleRounds, if_pos hquiet]
  unfold State.settle
  rw [if_neg (by rw [h]; simp), hrounds]
  rfl

/-- The message and the roles leave what the trainings of TRAIN go by. -/
theorem Core.stateTold_trains (c : Core) : c.stateTold.start = c.start ∧ c.stateTold.dev = c.dev ∧ c.stateTold.ddr = c.ddr ∧
    c.stateTold.sluice = c.sluice ∧ (∀ i, c.stateTold.trainState i = c.trainState i) ∧ c.stateTold.freshRun = c.freshRun := by
  obtain ⟨heq, hget⟩ := Core.stateTold_kept c
  have hmc : c.stateTold.mc = c.mc := by rw [heq]
  have htick : c.stateTold.tick = c.tick := by rw [heq]
  have hlost : c.stateTold.get Obj.ScMask.CONTENT_LOST = c.get Obj.ScMask.CONTENT_LOST := hget _ (by simp [Core.treeKey]) (by decide)
  refine ⟨by rw [heq], hget _ (by simp [Core.treeKey]) (by decide), by rw [heq], by rw [heq], fun i => hget _ ?_ (by simp; omega), ?_⟩
  · simp [Core.treeKey]
    omega
  · funext i d
    simp only [Core.freshRun, Core.mcOf, Core.bitOf, hmc, htick, hlost]

/-- A start in TRAIN with trainings goes on with them. -/
theorem Core.advance_train {c : Core} {r : StartRun} (hs : c.start = some r) (hd : c.dev = Dv.train) (hr : r.trains ≠ 0) :
    c.advance = c.queued (c.untrained r.trains) c.freshRun := by
  have hprogress : c.startProgress = c := by
    unfold Core.startProgress
    rw [hs]
    dsimp only
    rw [if_neg (by simp [hd]), if_neg (by simp [hr])]
  rw [Core.advance, hprogress, Core.trainPhase_eq hs hd]

/-- Trainings that are queued are not queued again. -/
theorem Core.advance_queued {c : Core} {r : StartRun} (hs : c.start = some r) (hd : c.dev = Dv.train) (hr : r.trains ≠ 0)
    (g : Nat → DdrState → DdrState) :
    (c.queued (c.untrained r.trains) g).advance = c.queued (c.untrained r.trains) g := by
  obtain ⟨hstart, -, -, -⟩ := Core.queued_fields c (c.untrained r.trains) g
  have hdev : (c.queued (c.untrained r.trains) g).dev = Dv.train :=
    (Core.get_queued c _ _ _ fun i _ => by simp; omega).trans hd
  rw [Core.advance_train (hstart.trans hs) hdev hr]
  have hnone : (c.queued (c.untrained r.trains) g).untrained r.trains = [] := by
    rw [Core.untrained, List.filter_eq_nil_iff]
    intro i hi h
    simp only [Core.toTrain, Bool.and_eq_true, decide_eq_true_eq] at h
    refine h.2 (Core.trainState_queued_mem c _ g ?_)
    by_cases hstate : c.trainState i = 1
    · exact .inr hstate
    · exact .inl (List.mem_filter.mpr ⟨hi, by simp [Core.toTrain, h.1, hstate]⟩)
  rw [hnone]
  rfl

/-- The trainings of TRAIN may begin before the HEALTH STATUS or after it. -/
theorem State.settle_trainPhase {s : State} {r : StartRun} {n : Nat} {q : List Nat} (hreq : s.core.req = [.health])
    (hdev : s.core.dev = Dv.train) (hstart : s.core.start = some r) (hr : r.trains ≠ 0) (hn : n < 32)
    (hq : ∀ i ∈ q, n < i ∧ i < 32) (huntrained : s.core.untrained r.trains = n :: q)
    (hplaced : Tbl.Placed (Obj.Train.TRAIN_STATE n) s.core.objs) :
    ({ s with core := s.core.trainPhase } : State).settle = s.settle := by
  have heq := Core.trainPhase_eq hstart hdev
  rw [huntrained] at heq
  have hafter : s.core.trainPhase.req = [.health] := by rw [heq, (Core.queued_fields _ _ _).2.2.2, hreq]
  rw [State.settle_health hreq, State.settle_health (s := { s with core := s.core.trainPhase }) hafter]
  congr 2
  have htwin : Core.Twin n q (Core.trainRuns (n :: q) s.core.freshRun s.core.ddr) (Core.trainAsks (n :: q) s.core.sluice) s.core s.core.trainPhase :=
    ⟨by rw [heq, Core.queued_withTrains], hplaced⟩
  obtain ⟨hstart', hdev', hddr, hsluice, hstate, hfresh⟩ := Core.stateTold_trains s.core
  have huntrained' : s.core.stateTold.untrained r.trains = n :: q := by
    rw [← huntrained]
    refine List.filter_congr fun i _ => ?_
    rw [Core.toTrain, Core.toTrain, hstate]
  have htold : s.core.trainPhase.stateTold = s.core.stateTold.queued (s.core.stateTold.untrained r.trains) s.core.freshRun := by
    rw [(htwin.stateTold hn hq).eq, huntrained', Core.queued_withTrains, hddr, hsluice]
  show s.core.trainPhase.stateTold.advance = s.core.stateTold.advance
  rw [htold, Core.advance_queued (hstart'.trans hstart) (hdev'.trans hdev) hr,
    Core.advance_train (hstart'.trans hstart) (hdev'.trans hdev) hr, hfresh]

end Sys2Proof.Machine
end

section
/-! PROOFS. What a restore of a subchannel leaves of the start that it belongs to (16_states_start_sluice.md R408, R413). -/

namespace Sys2Proof.Machine

namespace Core

variable {c d e : Core} {n : Nat}

/-- The objects by which a start goes on. -/
def startKey (n k : Nat) : Prop := k = Obj.Dev.DEVICE_STATE ∨ k = Obj.Dev.RESTORE_FAILS ∨ k = Obj.Train.TRAIN_STATE n

/-- `d` holds the start of `c`, what it goes by, and the requests of the command. -/
structure Started (n : Nat) (c d : Core) : Prop where
  get : ∀ k, startKey n k → d.get k = c.get k
  req : d.req = c.req
  start : d.start = c.start

theorem Started.refl (n : Nat) (c : Core) : Started n c c := ⟨fun _ _ => rfl, rfl, rfl⟩
theorem Started.trans (h : Started n c d) (h' : Started n d e) : Started n c e :=
  ⟨fun k hk => (h'.get k hk).trans (h.get k hk), h'.req.trans h.req, h'.start.trans h.start⟩

theorem started_ite {p : Prop} [Decidable p] {x y : Core} (hx : Started n c x) (hy : Started n c y) : Started n c (if p then x else y) := by
  split
  · exact hx
  · exact hy

theorem started_foldl {α : Type} (l : List α) (f : Core → α → Core) (h : ∀ c, ∀ x ∈ l, Started n c (f c x)) (c : Core) :
    Started n c (l.foldl f c) := by
  induction l generalizing c with
  | nil => exact .refl n c
  | cons x l ih => exact (h c x List.mem_cons_self).trans (ih (fun c y hy => h c y (List.mem_cons_of_mem _ hy)) _)

theorem started_put (c : Core) (v : Nat) {k : Nat} (h : ¬ startKey n k) : Started n c (c.put k v) :=
  ⟨fun _ ho => get_put_ne _ _ fun hk => h (hk ▸ ho), rfl, rfl⟩

theorem started_flag (c : Core) (b : Nat) {k : Nat} (h : ¬ startKey n k) : Started n c (c.flag k b) := started_put c _ h

theorem started_add (c : Core) (w v : Nat) {k : Nat} (h : ¬ startKey n k) : Started n c (c.add k w v) := started_put c _ h

theorem started_orders (h : Orders c d) : Started n c d := ⟨fun k _ => h.get k, h.req, h.start⟩

theorem started_sluice (h : c.SluiceOnly d) : Started n c d := by
  refine ⟨fun k hk => h.get ?_, by rw [h.1], by rw [h.1]⟩
  rcases hk with rfl | rfl | rfl
  · decide
  · decide
  · simp [isSluiceKey]
    omega

theorem started_ft (h : c.FtOnly d) : Started n c d := ⟨fun k _ => h.get k, by rw [h], by rw [h]⟩

theorem started_draw (c : Core) (b : Nat) : Started n c (c.draw b).2 := ⟨fun _ _ => rfl, rfl, rfl⟩

theorem started_touch (c : Core) : Started n c c.touch := ⟨fun _ _ => rfl, rfl, rfl⟩

/-! ## Reset and the mode registers -/

theorem started_resetDevice (c : Core) (m : Nat) : Started n c (c.resetDevice m) := by
  have hgive : ∀ (c : Core) (k : Nat), Started n c (if c.holds k m then c.release k m else c) := fun c k =>
    started_ite (started_sluice (sluiceOnly_release c k m)) (.refl n c)
  have hflush : ∀ c : Core, Started n c c.flushDone := fun c =>
    started_ite (started_sluice (sluiceOnly_release c _ _)) (.refl n c)
  have hecc : ∀ (c : Core) (f : EccState → EccState), Started n c (c.updEcc m f) := fun c f => ⟨fun _ _ => rfl, rfl, rfl⟩
  have hquiet : Started n c { c.emit (.dram m (.reset true) false) with srQueue := c.srQueue.filter (· != m) } :=
    ⟨fun _ _ => rfl, rfl, rfl⟩
  unfold resetDevice
  dsimp only
  refine .trans ?_ (hflush _)
  refine .trans ?_ (started_foldl _ _ (fun c k _ => hgive c k) _)
  refine .trans ?_ (started_ft (ftOnly_updFt _ m _))
  refine .trans ?_ (hecc _ _)
  exact (hquiet.trans (started_orders (orders_updMc _ m _))).trans (started_orders (orders_updDdr _ m _))

theorem started_dramStart (c : Core) (m : Nat) : Started n c (c.dramStart m) := by
  have hreset : Started n c (if (c.mcOf m).inReset then c else c.resetDevice m) := started_ite (.refl n c) (started_resetDevice c m)
  unfold dramStart
  dsimp only
  exact hreset.trans (started_orders ((((orders_updMc _ m _).trans (orders_order _ m _)).trans (orders_order _ m _)).trans (orders_order _ m _)))

/-! ## Repairs -/

theorem started_eccLog (c : Core) (ev sc lane rq : Nat) (syms : List Nat) (a : DramAddr) (t : Nat) :
    Started n c (c.eccLog ev sc lane rq syms a t) := by
  refine ⟨fun k hk => get_eccLog _ _ _ _ _ _ _ _ (.inr ?_) ?_, ?_, ?_⟩
  · rcases hk with rfl | rfl | rfl <;> simp
    omega
  · rcases hk with rfl | rfl | rfl <;> simp
    omega
  · unfold eccLog
    rfl
  · unfold eccLog
    rfl

theorem started_hardRepair (c : Core) (m : Nat) {i : Nat} (hi : i < 512) (ok : Bool) : Started n c (c.hardRepair m i ok) := by
  have hprog : ∀ (c : Core) (k : Candidate) (hard : Bool), Started n c (c.programRow m k hard) := fun c k hard =>
    started_orders (((orders_order c m _).trans (orders_order _ m _)).trans (orders_order _ m _))
  have hentry : ¬ startKey n (repairKey i) := by
    simp only [startKey, repairKey, Obj.Repair.ENTRY, Obj.Dev.DEVICE_STATE, Obj.Dev.RESTORE_FAILS, Obj.Train.TRAIN_STATE]
    omega
  unfold hardRepair
  dsimp only
  have hput := (hprog c (entryCandidate (c.get (repairKey i))) true).trans (started_put _ (setField 63 61 (c.get (repairKey i)) (if ok then 3 else 1)) hentry)
  refine started_ite ?_ ?_
  · exact (hput.trans (started_add _ _ _ (by simp [startKey]; omega))).trans (started_eccLog _ _ _ _ _ _ _ _)
  · exact (((hput.trans (started_flag _ _ (by simp [startKey]; omega))).trans (started_flag _ _ (by simp [startKey]; omega))).trans
      (started_add _ _ _ (by simp [startKey]; omega))).trans (started_eccLog _ _ _ _ _ _ _ _)

theorem started_applyRepairs (c : Core) (m pr : Nat) (hard : List Bool) : Started n c (c.applyRepairs m pr hard) := by
  have hprog : ∀ (c : Core) (k : Candidate) (hard : Bool), Started n c (c.programRow m k hard) := fun c k hard =>
    started_orders (((orders_order c m _).trans (orders_order _ m _)).trans (orders_order _ m _))
  have hindex : ∀ j, j < (c.repairEntries m pr 2).length → nth (c.repairEntries m pr 2) j 0 < 512 := fun j hj => by
    have hmem : nth (c.repairEntries m pr 2) j 0 ∈ c.repairEntries m pr 2 := by
      rw [nth, List.getElem?_eq_getElem hj]
      exact List.getElem_mem hj
    exact List.mem_range.mp (List.mem_filter.mp hmem).1
  unfold applyRepairs
  dsimp only
  have h1 := started_foldl (n := n) (List.range (c.repairEntries m pr 2).length)
    (fun k j => k.hardRepair m (nth (c.repairEntries m pr 2) j 0) (nth hard j true))
    (fun k j hj => started_hardRepair k m (hindex j (List.mem_range.mp hj)) _) c
  generalize (List.range (c.repairEntries m pr 2).length).foldl _ c = c1 at h1
  have h2 := h1.trans (started_foldl (n := n) (c1.repairEntries m pr 1)
    (fun k i => k.programRow m (entryCandidate (k.get (repairKey i))) false) (fun k i _ => hprog k _ _) c1)
  exact started_ite h2 (h2.trans (started_touch _))

theorem started_restoreDram (c : Core) (m : Nat) (s : CalSet) (hard : List Bool) : Started n c (c.restoreDram m s hard) := by
  unfold restoreDram
  dsimp only
  refine (Started.trans (started_foldl _ _ (fun c pr _ => ?_) c) (started_applyRepairs _ m 0 _)).trans (started_applyRepairs _ m 1 _)
  exact started_orders ((modeRegisters_facts c m pr).1.trans (orders_writeDramSide _ m pr _))

/-! ## Lanes -/

theorem started_checkInsertion (c : Core) (m pr : Nat) : Started n c (c.checkInsertion m pr) := by
  unfold checkInsertion
  exact started_ite (.refl n c) ((started_orders (orders_updMc c m _)).trans (started_sluice (sluiceOnly_release _ _ _)))

theorem started_restoreLanes (c : Core) (m : Nat) (t : Int) (s : CalSet) : Started n c (c.restoreLanes m t s) := by
  have heyes : ∀ c : Core, Started n c (c.takeEyes m) := fun c => by
    unfold takeEyes
    split
    · exact .refl n c
    · exact started_foldl _ _ (fun c i _ => started_ft (ftOnly_updLane c m i _)) c
  have htargets : ∀ c : Core, Started n c (c.applyTargets m) := fun c =>
    started_foldl _ _ (fun c i _ => started_ft (ftOnly_updLane c m i _)) c
  unfold restoreLanes
  dsimp only
  refine .trans ?_ (started_checkInsertion _ m 1)
  refine .trans ?_ (started_checkInsertion _ m 0)
  refine .trans ?_ (heyes _)
  refine .trans ?_ (htargets _)
  refine .trans ?_ (started_ft (ftOnly_aim _ m t))
  exact started_foldl _ _ (fun c i _ => started_ft (ftOnly_updLane c m i _)) c

/-- A restore up to its check. -/
def restoreRun (c : Core) (n : Nat) (t : Int) (s : CalSet) (hard : List Bool) : Core :=
  ((((c.release Ck.restore n).dramStart n).restoreDram n s hard).restoreLanes n t s).freshMc n

theorem started_freshMc (c : Core) (m : Nat) : Started n c (c.freshMc m) := started_orders (orders_updMc c m _)

theorem started_restoreRun (c : Core) (m : Nat) (t : Int) (s : CalSet) (hard : List Bool) : Started n c (c.restoreRun m t s hard) := by
  unfold restoreRun
  refine .trans ?_ (started_freshMc _ m)
  refine .trans ?_ (started_restoreLanes _ m t s)
  refine .trans ?_ (started_restoreDram _ m s hard)
  exact (started_sluice (sluiceOnly_release c _ m)).trans (started_dramStart _ m)

/-! ## Results -/

theorem started_restoreCa (c : Core) (m ca : Nat) : Started n c (c.restoreCa m ca) := by
  have hput : ∀ (c : Core) (j v : Nat), 1 ≤ j → j < 0x100 → Started n c (c.put ((0x6004 + 0x40 * m) * 0x100 + j) v) := fun c j v _ _ =>
    started_put c v (by simp only [startKey, Obj.Dev.DEVICE_STATE, Obj.Dev.RESTORE_FAILS, Obj.Train.TRAIN_STATE]; omega)
  unfold restoreCa
  dsimp only
  refine .trans ?_ (hput _ 7 _ (by decide) (by decide))
  refine .trans ?_ (hput _ 6 _ (by decide) (by decide))
  refine .trans ?_ (hput _ 5 _ (by decide) (by decide))
  refine .trans ?_ (hput _ 4 _ (by decide) (by decide))
  refine .trans ?_ (hput _ 3 _ (by decide) (by decide))
  refine .trans ?_ (hput _ 2 _ (by decide) (by decide))
  refine .trans ?_ (hput _ 1 _ (by decide) (by decide))
  exact (started_draw c 256).trans (started_draw _ 65536)

theorem started_putRestored (c : Core) (m : Nat) (l : List LaneCheck) : Started n c (c.putRestored m l) := by
  have hlane : ∀ i < 20, ¬ startKey n (laneKey m (i / 10) (i % 10)) := fun i hi => by
    unfold laneKey
    split <;>
      simp only [startKey, Obj.LaneRec0.LANE, Obj.LaneRec1.LANE, Obj.Dev.DEVICE_STATE, Obj.Dev.RESTORE_FAILS, Obj.Train.TRAIN_STATE] <;> omega
  unfold putRestored
  refine started_foldl _ _ (fun c i hi => ?_) c
  exact (started_draw c 65536).trans (started_put _ _ (hlane i (List.mem_range.mp hi)))

theorem started_putSummary (c : Core) (m : Nat) (t : Int) (f us : Nat) (res : Nat → Nat) : Started n c (c.putSummary m t f us res) := by
  have hput : ∀ (c : Core) (j v : Nat), 1 < j → j < 0x100 → Started n c (c.put ((0x6001 + 0x40 * m) * 0x100 + j) v) := fun c j v _ _ =>
    started_put c v (by simp only [startKey, Obj.Dev.DEVICE_STATE, Obj.Dev.RESTORE_FAILS, Obj.Train.TRAIN_STATE]; omega)
  unfold putSummary
  dsimp only
  refine .trans ?_ (hput _ 3 _ (by decide) (by decide))
  refine .trans ?_ (hput _ 2 _ (by decide) (by decide))
  refine .trans ?_ (hput _ 10 _ (by decide) (by decide))
  refine .trans ?_ (hput _ 9 _ (by decide) (by decide))
  refine .trans ?_ (hput _ 8 _ (by decide) (by decide))
  refine .trans ?_ (hput _ 7 _ (by decide) (by decide))
  refine .trans ?_ (hput _ 6 _ (by decide) (by decide))
  exact (hput c 4 _ (by decide) (by decide)).trans (hput _ 5 _ (by decide) (by decide))

end Core

end Sys2Proof.Machine
end

section
/-! PROOFS. How a start goes on after a restore (16_states_start_sluice.md R408, R411, R413). -/

namespace Sys2Proof.Machine

namespace Tbl

variable {α : Type}

theorem erase_insert_self (t : Tbl α) (k : Nat) (x : α) : Tbl.erase (Tbl.insert t k x) k = Tbl.erase t k := by
  induction t with
  | nil => simp [Tbl.insert, Tbl.erase]
  | cons e t ih =>
    obtain ⟨j, v⟩ := e
    by_cases hj : k < j
    · simp [Tbl.insert, Tbl.erase, hj]
    · rcases eq_or_ne k j with rfl | hk
      · simp [Tbl.insert, Tbl.erase, ih]
      · simp [Tbl.insert, Tbl.erase, hj, hk, ih]

/-- Of two writes of a key the latter stands. -/
theorem set_set [DecidableEq α] (d : Nat → α) (t : Tbl α) (k : Nat) (x y : α) : Tbl.set d (Tbl.set d t k x) k y = Tbl.set d t k y := by
  have herase : Tbl.erase (Tbl.erase t k) k = Tbl.erase t k := erase_eq_self (Tbl.not_mem_erase t k)
  unfold Tbl.set
  split_ifs <;> simp [erase_insert_self, herase]

end Tbl

namespace Core

variable {c d e : Core} {n : Nat} {r : StartRun}

/-- A start with work left before the trainings waits. -/
theorem advance_waits (hs : c.start = some r) (hd : c.dev = Dv.restore) (h : r.exits ≠ 0 ∨ r.restores ≠ 0) : c.advance = c := by
  have hp : c.startProgress = c := by
    rw [startProgress, hs]
    dsimp only
    rw [if_neg (by rcases h with h | h <;> simp [h]), if_neg (by rw [hd]; simp)]
  rw [advance, hp, trainPhase, hs]
  dsimp only
  rw [if_pos (by rw [hd]; decide)]

/-- Objects that the end of a start leaves. -/
theorem finishStart_get (c : Core) (r : StartRun) {k : Nat} (h1 : k ≠ Obj.Dev.START_KIND) (h2 : k ≠ Obj.Dev.START_TIME_US)
    (h3 : k ≠ Obj.Dev.FORCE_COLD) (h4 : ¬ entryKey k) : (c.finishStart r).get k = c.get k := by
  rw [finishStart_eq, setDev_get _ _ h4]
  exact (startDone_facts c r).2.2.2 k h1 h2 h3

/-- The state of service that a start ends in is the one of its end. -/
theorem serviceState_finishStart (c : Core) (r : StartRun) (hl : c.dev ≠ Dv.lockout) : (c.finishStart r).serviceState = c.serviceState :=
  serviceState_congr fun i _ => by
    rw [scOut, scOffline, scState, finishStart_get c r (by simp; omega) (by simp; omega) (by simp; omega) (by simp [entryKey]; omega), mcOf,
      (finishStart_facts r hl).1]
    rfl

/-! ## TRAIN is entered -/

/-- TRAIN_STATE of a subchannel stands in its place among the objects. -/
def PlacedAt (n : Nat) (c : Core) : Prop := Tbl.Placed (Obj.Train.TRAIN_STATE n) c.objs

theorem put_put (c : Core) (k v w : Nat) : (c.put k v).put k w = c.put k w := by
  unfold put
  dsimp only
  rw [Tbl.set_set]

theorem placedAt_put (c : Core) (hn : n < 32) {v : Nat} (hv : v ≠ 0) : PlacedAt n (c.put (Obj.Train.TRAIN_STATE n) v) := by
  have hdefault : ∀ n < 32, defaultOf (Obj.Train.TRAIN_STATE n) = 0 := by decide +kernel
  exact Tbl.placed_set defaultOf (by rw [hdefault n hn]; exact hv)

/-- A quiet command that enters another state asks for the HEALTH STATUS alone. -/
theorem req_setDev (hreq : c.req = []) (hl : c.dev ≠ Dv.lockout) {v : Nat} (hv : c.dev ≠ v) : (c.setDev v).req = [.health] := by
  have hput : ∀ (d : Core) (k v : Nat), (d.put k v).req = d.req := fun _ _ _ => rfl
  have hflag : ∀ (d : Core) (k b : Nat), (d.flag k b).req = d.req := fun _ _ _ => rfl
  have hask : ∀ (d : Core) (r : Req), (d.ask r).req = d.req ++ [r] := fun _ _ => rfl
  rw [Core.setDev, if_neg (by simp [hl, hv]), hask, req_pins, hflag, hput, hput, hput, hreq]
  rfl

/-! ## The trainings before a subchannel, and from it on -/

/-- The subchannels before `n` that a start trains and whose training is not queued yet. -/
def untrainedBefore (c : Core) (trains n : Nat) : List Nat := (List.range n).filter (c.toTrain trains)

/-- … and those behind it. -/
def untrainedAfter (c : Core) (trains n : Nat) : List Nat := ((List.range (31 - n)).map (n + 1 + ·)).filter (c.toTrain trains)

theorem untrained_split (hn : n < 32) {trains : Nat} (h : c.toTrain trains n = true) :
    c.untrained trains = c.untrainedBefore trains n ++ n :: c.untrainedAfter trains n := by
  have hrange : List.range 32 = List.range n ++ n :: (List.range (31 - n)).map (n + 1 + ·) := by
    obtain ⟨m, hm⟩ : ∃ m, 32 = n + (m + 1) := ⟨31 - n, by omega⟩
    obtain rfl : m = 31 - n := by omega
    rw [hm, List.range_add, List.range_succ_eq_map]
    simp [Function.comp_def, Nat.add_assoc, Nat.add_comm 1]
  rw [untrained, hrange, List.filter_append, List.filter_cons_of_pos h]
  rfl

theorem mem_untrainedBefore {trains i : Nat} (h : i ∈ c.untrainedBefore trains n) : i < n := List.mem_range.mp (List.mem_filter.mp h).1

theorem mem_untrainedAfter {trains i : Nat} (hn : n < 32) (h : i ∈ c.untrainedAfter trains n) : n < i ∧ i < 32 := by
  obtain ⟨j, hj, rfl⟩ := List.mem_map.mp (List.mem_filter.mp h).1
  have := List.mem_range.mp hj
  omega

/-- The hub with the trainings before `n` queued: what is left to queue. -/
theorem untrained_queued_before (hn : n < 32) {trains : Nat} (h : c.toTrain trains n = true) (g : Nat → DdrState → DdrState) :
    (c.queued (c.untrainedBefore trains n) g).untrained trains = n :: c.untrainedAfter trains n := by
  have hlater : ∀ i, n ≤ i → (c.queued (c.untrainedBefore trains n) g).toTrain trains i = c.toTrain trains i := fun i hi => by
    rw [toTrain, toTrain, trainState, trainState, get_queued c _ _ _ fun j hj => by
      have := mem_untrainedBefore hj
      simp
      omega]
  have hsplit := untrained_split (c := c.queued (c.untrainedBefore trains n) g) hn ((hlater n le_rfl).trans h)
  have hbefore : (c.queued (c.untrainedBefore trains n) g).untrainedBefore trains n = [] := by
    unfold untrainedBefore
    rw [List.filter_eq_nil_iff]
    intro i hi hi'
    simp only [toTrain, Bool.and_eq_true, decide_eq_true_eq] at hi'
    refine hi'.2 (trainState_queued_mem c _ g ?_)
    by_cases hstate : c.trainState i = 1
    · exact .inr hstate
    · exact .inl (List.mem_filter.mpr ⟨hi, by simp [toTrain, hi'.1, hstate]⟩)
  have hafter : (c.queued (c.untrainedBefore trains n) g).untrainedAfter trains n = c.untrainedAfter trains n :=
    List.filter_congr fun i hi => by
      obtain ⟨j, -, rfl⟩ := List.mem_map.mp hi
      exact hlater _ (by omega)
  rw [hsplit, hbefore, hafter]
  rfl

/-- Which runs begin does not hang on the trainings that are queued. -/
theorem freshRun_queued (c : Core) (q : List Nat) (g : Nat → DdrState → DdrState) : (c.queued q g).freshRun = c.freshRun := by
  obtain ⟨-, htick, hmc, -⟩ := queued_fields c q g
  have hlost : (c.queued q g).get Obj.ScMask.CONTENT_LOST = c.get Obj.ScMask.CONTENT_LOST := get_queued c q _ _ fun j _ => by simp; omega
  funext i d
  simp only [freshRun, mcOf, hmc, htick, bitOf, hlost]

/-- The hub with the trainings before `n` queued, and `n` itself shown TRAINED. -/
def queuedBefore (c : Core) (trains n : Nat) : Core := (c.queued (c.untrainedBefore trains n) c.freshRun).put (Obj.Train.TRAIN_STATE n) 2

theorem queuedBefore_fields (c : Core) (trains n : Nat) : (c.queuedBefore trains n).dev = c.dev ∧
    (c.queuedBefore trains n).start = c.start ∧ (c.queuedBefore trains n).req = c.req := by
  obtain ⟨hstart, -, -, hreq⟩ := queued_fields c (c.untrainedBefore trains n) c.freshRun
  refine ⟨?_, hstart, hreq⟩
  rw [dev, queuedBefore, get_put_ne _ _ (by simp; omega), get_queued c _ _ _ fun i _ => by simp; omega]
  rfl

theorem untrained_queuedBefore (hn : n < 32) {trains : Nat} (h : c.toTrain trains n = true) :
    (c.queuedBefore trains n).untrained trains = n :: c.untrainedAfter trains n := by
  rw [← untrained_queued_before hn h c.freshRun]
  refine List.filter_congr fun i _ => ?_
  by_cases hi : i = n
  · subst hi
    have hbit : trains.testBit i = true := (Bool.and_eq_true_iff.mp h).1
    have hsame : (c.queued (c.untrainedBefore trains i) c.freshRun).trainState i = c.trainState i := get_queued c _ _ _ fun j hj => by
      have := mem_untrainedBefore hj
      simp
      omega
    have hput : (c.queuedBefore trains i).trainState i = 2 := get_put_self _ _ _
    rw [toTrain, toTrain, hput, hsame, hbit]
    exact (Bool.and_eq_true_iff.mp h).2.symm
  · rw [toTrain, toTrain, trainState, trainState, queuedBefore, get_put_ne _ _ (by simp; omega)]

/-- The trainings of TRAIN in two parts. -/
theorem trainPhase_queuedBefore (hn : n < 32) (hs : c.start = some r) (hd : c.dev = Dv.train) (h : c.toTrain r.trains n = true) :
    (c.queuedBefore r.trains n).trainPhase = c.trainPhase := by
  obtain ⟨hdev, hstart, -⟩ := queuedBefore_fields c r.trains n
  have hfresh : (c.queuedBefore r.trains n).freshRun = c.freshRun := by
    rw [← freshRun_queued c (c.untrainedBefore r.trains n) c.freshRun]
    funext i d
    have hlost : (c.queuedBefore r.trains n).bitOf Obj.ScMask.CONTENT_LOST i =
        (c.queued (c.untrainedBefore r.trains n) c.freshRun).bitOf Obj.ScMask.CONTENT_LOST i :=
      bitOf_congr i (get_put_ne _ _ (by simp; omega))
    rw [freshRun, freshRun, hlost]
    rfl
  have hagain : ∀ a : Core, (a.put (Obj.Train.TRAIN_STATE n) 2).put (Obj.Train.TRAIN_STATE n) 1 = a.put (Obj.Train.TRAIN_STATE n) 1 := fun a =>
    put_put a _ _ _
  have hqueued : (c.queuedBefore r.trains n).queued (n :: c.untrainedAfter r.trains n) c.freshRun =
      (c.queued (c.untrainedBefore r.trains n) c.freshRun).queued (n :: c.untrainedAfter r.trains n) c.freshRun := by
    unfold queuedBefore
    generalize c.queued (c.untrainedBefore r.trains n) c.freshRun = a
    rw [queued, queued, List.foldl_cons, List.foldl_cons, hagain]
  rw [trainPhase_eq (hstart.trans hs) (hdev.trans hd), untrained_queuedBefore hn h, hfresh, hqueued, ← queued_append,
    ← untrained_split hn h, trainPhase_eq hs hd]

end Core

end Sys2Proof.Machine
end

section
/-! PROOFS. A restore that ends (16_states_start_sluice.md R408, R411, R413). -/

namespace Sys2Proof.Machine

namespace Core

variable {c d e : Core} {n : Nat} {r : StartRun}

/-- The start without the restore of a subchannel. -/
def restoredStart (n : Nat) (r : StartRun) : StartRun := { r with restores := setBitTo n false r.restores }

/-- … which is sent to training. -/
def failedStart (n : Nat) (r : StartRun) : StartRun :=
  { r with restores := setBitTo n false r.restores, trains := setBitTo n true r.trains }

/-- The results of a restore that are published. -/
def restorePublish (c : Core) (n ca : Nat) (t : Int) (l : List LaneCheck) : Core :=
  let x := ((c.restoreCa n ca).putRestored n l).draw (2 ^ 32)
  x.2.putSummary n t 0 x.1 fun i => checkResult (nth l i ⟨0, false⟩)

/-- A verified restore, before the start goes on. -/
def restoreVerified (c : Core) (n : Nat) (t : Int) (x : CalSet) (l : List LaneCheck) (hard : List Bool) : Core :=
  let k := ((c.restoreRun n t x hard).updStart (restoredStart n)).restorePublish n x.ca t l
  ((k.put (Obj.Train.TRAIN_STATE n) 2).put (Obj.FtSc.T_CAL n) (ofSigned 32 t)).put (Obj.FtSc.T_CAL_TIME n) c.hubTime

/-- A failed one. -/
def restoreFailed (c : Core) (n : Nat) (t : Int) (x : CalSet) (hard : List Bool) : Core :=
  ((((c.restoreRun n t x hard).updStart (restoredStart n)).inc Obj.Dev.RESTORE_FAILS).flag Obj.Dev.FLAGS 3).updStart fun r =>
    { r with trains := setBitTo n true r.trains }

/-- Does a lane that no mark replaces fail its check? -/
def restoreJudged (c : Core) (n : Nat) (l : List LaneCheck) : Bool :=
  (List.range 20).any fun i => !(c.markedLane n (i / 10) = some (i % 10)) && checkResult (nth l i ⟨0, false⟩) = 3

/-- The set that a subchannel is restored from. -/
def nearestSet (c : Core) (n : Nat) : CalSet := (nearest (c.tempOf n) (c.validSets n)).getD CalSet.none

theorem restoreDone_eq (mem : Memory) (l : List LaneCheck) (hard : List Bool) (hs : c.start = some r) (hd : c.dev = Dv.restore)
    (hr : r.restores.testBit n = true) (hh : c.holds Ck.restore n = true) :
    c.restoreDone mem n l hard =
      ((if c.restoreJudged n l then c.restoreFailed n (c.tempOf n) (c.nearestSet n) hard
        else c.restoreVerified n (c.tempOf n) (c.nearestSet n) l hard).advance, mem.lose n) := by
  unfold restoreDone
  rw [hs]
  dsimp only
  rw [if_neg (by simp [hd, hr, hh])]
  rfl

theorem restoreJudged_iff (l : List LaneCheck) : c.restoreJudged n l = true ↔
    ∃ i < 20, c.markedLane n (i / 10) ≠ some (i % 10) ∧ checkResult (nth l i ⟨0, false⟩) = 3 := by
  simp [restoreJudged, List.any_eq_true]

/-! ## What the restore has done -/

theorem started_restorePublish (c : Core) (m ca : Nat) (t : Int) (l : List LaneCheck) : Started n c (c.restorePublish m ca t l) := by
  unfold restorePublish
  dsimp only
  refine .trans ?_ (started_putSummary _ m t 0 _ _)
  exact ((started_restoreCa c m ca).trans (started_putRestored _ m l)).trans (started_draw _ _)

/-- A verified restore: the start without it, its subchannel TRAINED, and T_CAL at T. -/
theorem restoreVerified_facts (hn : n < 32) (hs : c.start = some r) (t : Int) (x : CalSet) (l : List LaneCheck) (hard : List Bool) :
    (c.restoreVerified n t x l hard).start = some (restoredStart n r) ∧ (c.restoreVerified n t x l hard).req = c.req ∧
    (c.restoreVerified n t x l hard).dev = c.dev ∧ (c.restoreVerified n t x l hard).get (Obj.Train.TRAIN_STATE n) = 2 ∧
    (c.restoreVerified n t x l hard).get (Obj.FtSc.T_CAL n) = ofSigned 32 t ∧
    (c.restoreVerified n t x l hard).get (Obj.FtSc.T_CAL_TIME n) = c.hubTime := by
  have hrun := started_restoreRun (n := n) c n t x hard
  have hupd : ∀ a : Core, (a.updStart (restoredStart n)).start = a.start.map (restoredStart n) ∧ (a.updStart (restoredStart n)).req = a.req ∧
      ∀ k, (a.updStart (restoredStart n)).get k = a.get k := fun _ => ⟨rfl, rfl, fun _ => rfl⟩
  unfold restoreVerified
  dsimp only
  generalize c.restoreRun n t x hard = a at hrun ⊢
  obtain ⟨h1, h2, h3⟩ := hupd a
  generalize a.updStart (restoredStart n) = b at h1 h2 h3 ⊢
  have hpub := started_restorePublish (n := n) b n x.ca t l
  generalize b.restorePublish n x.ca t l = k at hpub ⊢
  have hput : ∀ (d : Core) (o v : Nat), (d.put o v).start = d.start ∧ (d.put o v).req = d.req := fun _ _ _ => ⟨rfl, rfl⟩
  refine ⟨?_, ?_, ?_, ?_, ?_, ?_⟩
  · rw [(hput _ _ _).1, (hput _ _ _).1, (hput _ _ _).1, hpub.start, h1, hrun.start, hs]
    rfl
  · rw [(hput _ _ _).2, (hput _ _ _).2, (hput _ _ _).2, hpub.req, h2, hrun.req]
  · rw [dev, get_put_ne _ _ (by simp; omega), get_put_ne _ _ (by simp; omega), get_put_ne _ _ (by simp; omega), hpub.get _ (.inl rfl), h3,
      hrun.get _ (.inl rfl)]
    rfl
  · rw [get_put_ne _ _ (by simp; omega), get_put_ne _ _ (by simp; omega), get_put_self]
  · rw [get_put_ne _ _ (by simp), get_put_self]
  · rw [get_put_self]

/-- A failed one: the start without it and with a training, the count and its flag. -/
theorem restoreFailed_facts (hs : c.start = some r) (t : Int) (x : CalSet) (hard : List Bool) :
    (c.restoreFailed n t x hard).start = some (failedStart n r) ∧ (c.restoreFailed n t x hard).dev = c.dev ∧
    (c.restoreFailed n t x hard).trainState n = c.trainState n ∧
    (c.restoreFailed n t x hard).get Obj.Dev.RESTORE_FAILS = min (c.get Obj.Dev.RESTORE_FAILS + 1) (2 ^ 32 - 1) ∧
    (c.restoreFailed n t x hard).bitOf Obj.Dev.FLAGS 3 = true := by
  have hrun := started_restoreRun (n := n) c n t x hard
  have hupd : ∀ (a : Core) (f : StartRun → StartRun), (a.updStart f).start = a.start.map f ∧ ∀ k, (a.updStart f).get k = a.get k :=
    fun _ _ => ⟨rfl, fun _ => rfl⟩
  have hput : ∀ (d : Core) (o v : Nat), (d.put o v).start = d.start := fun _ _ _ => rfl
  unfold restoreFailed
  generalize c.restoreRun n t x hard = a at hrun ⊢
  obtain ⟨h1, h2⟩ := hupd a (restoredStart n)
  generalize a.updStart (restoredStart n) = b at h1 h2 ⊢
  obtain ⟨h3, h4⟩ := hupd ((b.inc Obj.Dev.RESTORE_FAILS).flag Obj.Dev.FLAGS 3) fun r => { r with trains := setBitTo n true r.trains }
  refine ⟨?_, ?_, ?_, ?_, ?_⟩
  · rw [h3, flag, hput, inc, add, hput, h1, hrun.start, hs]
    rfl
  · rw [dev, h4, get_flag_ne _ _ (by decide), inc, add, get_put_ne _ _ (by decide), h2, hrun.get _ (.inl rfl)]
    rfl
  · rw [trainState, h4, get_flag_ne _ _ (by simp; omega), inc, add, get_put_ne _ _ (by simp; omega), h2, hrun.get _ (.inr (.inr rfl))]
    rfl
  · rw [h4, get_flag_ne _ _ (by decide), inc, add, get_put_self, h2, hrun.get _ (.inr (.inl rfl)), sat_eq_min]
  · rw [bitOf_congr 3 (h4 _), bitOf_flag_self]

/-! ## The start goes on -/

/-- How a start in RESTORE goes on. -/
structure GoesOn (r : StartRun) (c d : Core) : Prop where
  waits : r.exits ≠ 0 ∨ r.restores ≠ 0 → d.dev = Dv.restore ∧ d.start = some r
  trains : r.exits = 0 → r.restores = 0 → r.trains ≠ 0 → d.dev = Dv.train
  ends : r.exits = 0 → r.restores = 0 → r.trains = 0 → d.dev = d.serviceState ∧ d.start = none ∧
    d.get Obj.Dev.START_KIND = if r.origin = 0 then (if r.cold then 0 else 1) else r.origin

theorem goesOn_advance (hs : c.start = some r) (hd : c.dev = Dv.restore) : GoesOn r c c.advance := by
  have hl : c.dev ≠ Dv.lockout := by rw [hd]; decide
  refine ⟨fun h => ?_, fun he hr ht => ?_, fun he hr ht => ?_⟩
  · rw [advance_waits hs hd h]
    exact ⟨hd, hs⟩
  · rw [advance_trains hs hd he hr ht, (trainPhase_frame _).2.2, dev_setDev _ _ hl]
  · rw [advance_ends hs hd he hr ht]
    obtain ⟨-, h2, h3, -, h5, -⟩ := finishStart_facts r hl
    exact ⟨by rw [h2, serviceState_finishStart c r hl], h3, h5⟩

/-- What the progress of a start leaves, TRAIN_STATE aside. -/
theorem advance_get (hs : c.start = some r) (hd : c.dev = Dv.restore) {k : Nat} (h1 : k ≠ Obj.Dev.START_KIND)
    (h2 : k ≠ Obj.Dev.START_TIME_US) (h3 : k ≠ Obj.Dev.FORCE_COLD) (h4 : ¬ entryKey k)
    (h5 : ∀ i, r.exits = 0 → r.restores = 0 → r.trains.testBit i = true → k ≠ Obj.Train.TRAIN_STATE i) : c.advance.get k = c.get k := by
  have hl : c.dev ≠ Dv.lockout := by rw [hd]; decide
  by_cases h : r.exits ≠ 0 ∨ r.restores ≠ 0
  · rw [advance_waits hs hd h]
  · have he : r.exits = 0 := by by_contra he; exact h (.inl he)
    have hr : r.restores = 0 := by by_contra hr; exact h (.inr hr)
    by_cases ht : r.trains = 0
    · rw [advance_ends hs hd he hr ht, finishStart_get c r h1 h2 h3 h4]
    · rw [advance_trains hs hd he hr ht, trainPhase_eq ((setDev_fields c _).2.2.2.2.1.trans hs) (dev_setDev _ _ hl), get_queued _ _ _ _ fun i hi => ?_,
        setDev_get _ _ h4]
      exact h5 i he hr (Bool.and_eq_true_iff.mp (List.mem_filter.mp hi).2).1

/-- A start in RESTORE goes on, the HEALTH STATUS beside it, from a hub in which a subchannel just restored still shows TRAINED. -/
theorem exists_settle_advance (s : State) (hn : n < 32) (hs : c.start = some r) (hd : c.dev = Dv.restore) (hreq : c.req = [])
    (hstate : c.get (Obj.Train.TRAIN_STATE n) = 2) :
    ∃ d : Core, ({ s with core := c.advance } : State).settle = ({ s with core := d } : State).settle ∧ GoesOn r c d ∧
      d.get (Obj.Train.TRAIN_STATE n) = 2 ∧ d.get (Obj.FtSc.T_CAL n) = c.get (Obj.FtSc.T_CAL n) ∧
      d.get (Obj.FtSc.T_CAL_TIME n) = c.get (Obj.FtSc.T_CAL_TIME n) := by
  have hl : c.dev ≠ Dv.lockout := by rw [hd]; decide
  by_cases h : r.exits = 0 ∧ r.restores = 0 ∧ r.trains.testBit n = true
  · obtain ⟨he, hr, hbit⟩ := h
    have ht : r.trains ≠ 0 := fun ht => by
      rw [ht, Nat.zero_testBit] at hbit
      exact Bool.noConfusion hbit
    have hstart : (c.setDev Dv.train).start = some r := (setDev_fields c _).2.2.2.2.1.trans hs
    have hdev : (c.setDev Dv.train).dev = Dv.train := dev_setDev _ _ hl
    obtain ⟨hdev', hstart', hreq'⟩ := queuedBefore_fields (c.setDev Dv.train) r.trains n
    have hto : (c.setDev Dv.train).toTrain r.trains n = true := by
      rw [toTrain, hbit, trainState, setDev_get _ _ (by simp [entryKey]; omega), hstate]
      rfl
    have hget : ∀ k, ¬ entryKey k → (∀ i, k ≠ Obj.Train.TRAIN_STATE i) → ((c.setDev Dv.train).queuedBefore r.trains n).get k = c.get k := fun k h4 h5 => by
      rw [queuedBefore, get_put_ne _ _ (h5 n), get_queued _ _ _ _ fun i _ => h5 i, setDev_get _ _ h4]
    refine ⟨(c.setDev Dv.train).queuedBefore r.trains n, ?_, ⟨fun h => ?_, fun _ _ _ => ?_, fun _ _ h => absurd h ht⟩, get_put_self _ _ _, ?_, ?_⟩
    · rw [advance_trains hs hd he hr ht, ← trainPhase_queuedBefore hn hstart hdev hto]
      refine State.settle_trainPhase (s := { s with core := (c.setDev Dv.train).queuedBefore r.trains n }) ?_ ?_ ?_ ht hn
        (fun i hi => mem_untrainedAfter hn hi) (untrained_queuedBefore hn hto) (placedAt_put _ hn (by decide))
      · exact hreq'.trans (req_setDev hreq hl (by rw [hd]; decide))
      · exact hdev'.trans hdev
      · exact hstart'.trans hstart
    · exact absurd h (by simp [he, hr])
    · exact hdev'.trans hdev
    · exact hget _ (by simp [entryKey]; omega) fun i => by simp; omega
    · exact hget _ (by simp [entryKey]; omega) fun i => by simp; omega
  · refine ⟨c.advance, rfl, goesOn_advance hs hd, ?_, ?_, ?_⟩
    · refine (advance_get hs hd (by simp; omega) (by simp; omega) (by simp; omega) (by simp [entryKey]; omega) fun i he hr hbit => ?_).trans hstate
      rcases eq_or_ne i n with rfl | hi
      · exact absurd ⟨he, hr, hbit⟩ h
      · simp
        omega
    · exact advance_get hs hd (by simp; omega) (by simp; omega) (by simp; omega) (by simp [entryKey]; omega) fun i _ _ _ => by simp; omega
    · exact advance_get hs hd (by simp; omega) (by simp; omega) (by simp; omega) (by simp [entryKey]; omega) fun i _ _ _ => by simp; omega

/-- The entry of a state keeps a flag of the device. -/
theorem bitOf_setDev {v i : Nat} (h : c.bitOf Obj.Dev.FLAGS i = true) : (c.setDev v).bitOf Obj.Dev.FLAGS i = true := by
  unfold setDev
  split
  · exact h
  · have hput : (((c.put Obj.Dev.PREV_STATE c.dev).put Obj.Dev.DEVICE_STATE v).put Obj.Dev.T_STATE c.hubTime).bitOf Obj.Dev.FLAGS i = true :=
      (bitOf_congr i ((get_put_ne _ _ (by decide)).trans ((get_put_ne _ _ (by decide)).trans (get_put_ne _ _ (by decide))))).trans h
    rw [bitOf_congr i ((get_ask _ _ _).trans (get_pins_ne _ (by decide)))]
    exact bitOf_flag_of_bitOf 0 hput

/-- A training that is queued waits for its credit. -/
theorem waits_queued {q : List Nat} (g : Nat → DdrState → DdrState) (h : n ∈ q ∨ c.waits Ck.train n = true) :
    (c.queued q g).waits Ck.train n = true := by
  have hask : ∀ (a : Core) (i : Nat), (a.askQueued Ck.train i 2400).waits Ck.train n =
      (a.waits Ck.train n || (Ck.train == Ck.train && i == n)) := fun a i => by
    rw [waits, waits]
    show (a.sluice.queue ++ [_]).any _ = _
    rw [List.any_append, List.any_cons, List.any_nil, Bool.or_false]
  have hother : ∀ (a : Core) (i v : Nat) (f : DdrState → DdrState), ((a.put (Obj.Train.TRAIN_STATE i) v).updDdr i f).waits Ck.train n =
      a.waits Ck.train n := fun _ _ _ _ => rfl
  induction q generalizing c with
  | nil => exact h.resolve_left (by simp)
  | cons i q ih =>
    refine ih (c := _) ?_
    rw [hask, hother]
    by_cases hi : n = i
    · exact .inr (by simp [hi])
    · exact h.imp (fun h => (List.mem_cons.mp h).resolve_left hi) fun h => by rw [h, Bool.true_or]

/-- A start with a training goes on: the start stays, its flags and counts stay, and the training waits in TRAIN. -/
theorem advance_training (hs : c.start = some r) (hd : c.dev = Dv.restore) (hn : n < 32) (hbit : r.trains.testBit n = true) :
    c.advance.start = some r ∧ c.advance.get Obj.Dev.RESTORE_FAILS = c.get Obj.Dev.RESTORE_FAILS ∧
    (∀ i, c.bitOf Obj.Dev.FLAGS i = true → c.advance.bitOf Obj.Dev.FLAGS i = true) ∧
    (r.exits = 0 → r.restores = 0 → c.trainState n ≠ 1 → c.advance.dev = Dv.train ∧ c.advance.trainState n = 1 ∧
      c.advance.waits Ck.train n = true) := by
  have hl : c.dev ≠ Dv.lockout := by rw [hd]; decide
  have ht : r.trains ≠ 0 := fun ht => by
    rw [ht, Nat.zero_testBit] at hbit
    exact Bool.noConfusion hbit
  by_cases h : r.exits ≠ 0 ∨ r.restores ≠ 0
  · rw [advance_waits hs hd h]
    exact ⟨hs, rfl, fun _ h => h, fun he hr => absurd h (by simp [he, hr])⟩
  · have he : r.exits = 0 := by by_contra he; exact h (.inl he)
    have hr : r.restores = 0 := by by_contra hr; exact h (.inr hr)
    have hstart : (c.setDev Dv.train).start = some r := (setDev_fields c _).2.2.2.2.1.trans hs
    have hdev : (c.setDev Dv.train).dev = Dv.train := dev_setDev _ _ hl
    have heq : c.advance = (c.setDev Dv.train).queued ((c.setDev Dv.train).untrained r.trains) (c.setDev Dv.train).freshRun := by
      rw [advance_trains hs hd he hr ht, trainPhase_eq hstart hdev]
    have hget : ∀ k, (∀ i, k ≠ Obj.Train.TRAIN_STATE i) → c.advance.get k = (c.setDev Dv.train).get k := fun k hk => by
      rw [heq, get_queued _ _ _ _ fun i _ => hk i]
    refine ⟨?_, ?_, fun i hi => ?_, fun _ _ hstate => ?_⟩
    · rw [heq]
      exact (queued_fields _ _ _).1.trans hstart
    · rw [hget _ fun i => by simp; omega, setDev_get _ _ (by simp [entryKey])]
    · rw [bitOf_congr i (hget _ fun i => by simp; omega)]
      exact bitOf_setDev hi
    · have hmem : n ∈ (c.setDev Dv.train).untrained r.trains := by
        refine List.mem_filter.mpr ⟨List.mem_range.mpr hn, ?_⟩
        rw [toTrain, hbit, trainState, setDev_get _ _ (by simp [entryKey]; omega)]
        exact decide_eq_true hstate
      rw [heq]
      refine ⟨?_, trainState_queued_mem _ _ _ (.inl hmem), waits_queued _ (.inl hmem)⟩
      exact (get_queued _ _ _ _ fun i _ => by simp; omega).trans hdev

end Core

end Sys2Proof.Machine
end

section
/-! PROOFS. RESTORE_DONE (16_states_start_sluice.md R413). -/

namespace Sys2Proof.Machine

variable {s : State} {sc : ScNo} {l : List LaneCheck} {hard : List Bool} {r : StartRun}

/-- What RESTORE_DONE does. -/
theorem exec_restoreDone (hl : l.length = 20) (hup : s.core.hubUp = true) (hs : s.core.start = some r) (hd : s.core.dev = Dv.restore)
    (hr : r.restores.testBit sc.val = true) (hh : s.core.holds Ck.restore sc.val = true) :
    exec (.restoreDone sc ⟨l, hard⟩) s = .next (({ s.clear with mem := s.mem.lose sc.val, core :=
      (if s.core.restoreJudged sc.val l then s.clear.core.restoreFailed sc.val (s.core.tempOf sc.val) (s.core.nearestSet sc.val) hard
        else s.clear.core.restoreVerified sc.val (s.core.tempOf sc.val) (s.core.nearestSet sc.val) l hard).advance } : State).settle) := by
  have heq : s.clear.core.restoreDone s.mem sc.val l hard = _ := Core.restoreDone_eq (c := s.clear.core) s.mem l hard hs hd hr hh
  show formed (decide (l.length = 20)) (s.onHubMem fun c m => c.restoreDone m sc.val l hard) = _
  rw [State.onHubMem, State.when, hup, formed, decide_eq_true hl]
  show Host.Outcome.next (State.settle { s.clear with
    core := (s.clear.core.restoreDone s.mem sc.val l hard).1, mem := (s.clear.core.restoreDone s.mem sc.val l hard).2 }) = _
  rw [heq]
  rfl

/-- A restore whose lanes all pass. -/
theorem restoreDone_verified (hl : l.length = 20) (hup : s.core.hubUp = true) (hs : s.core.start = some r) (hd : s.core.dev = Dv.restore)
    (hr : r.restores.testBit sc.val = true) (hh : s.core.holds Ck.restore sc.val = true)
    (hpass : ∀ i < 20, s.core.markedLane sc.val (i / 10) ≠ some (i % 10) → checkResult (nth l i ⟨0, false⟩) ≠ 3) :
    AnswersAll (.restoreDone sc ⟨l, hard⟩) s fun u =>
      u.core.get (Obj.Train.TRAIN_STATE sc.val) = 2 ∧ u.core.get (Obj.FtSc.T_CAL sc.val) = ofSigned 32 (s.core.tempOf sc.val) ∧
      u.core.get (Obj.FtSc.T_CAL_TIME sc.val) = s.core.hubTime ∧ u.mem = s.mem.lose sc.val ∧ u.fuses = s.fuses ∧
      u.latch = s.latch ∧
      ((r.exits ≠ 0 ∨ setBitTo sc.val false r.restores ≠ 0) → u.core.dev = Dv.restore ∧
        u.core.start = some { r with restores := setBitTo sc.val false r.restores }) ∧
      (r.exits = 0 → setBitTo sc.val false r.restores = 0 → r.trains ≠ 0 → u.core.dev = Dv.train) ∧
      (r.exits = 0 → setBitTo sc.val false r.restores = 0 → r.trains = 0 →
        u.core.dev = u.core.serviceState ∧ u.core.start = none ∧
        u.core.get Obj.Dev.START_KIND = if r.origin = 0 then (if r.cold then 0 else 1) else r.origin) := by
  have hjudged : s.core.restoreJudged sc.val l = false := by
    rw [Bool.eq_false_iff, Ne, Core.restoreJudged_iff]
    rintro ⟨i, hi, hm, hc⟩
    exact hpass i hi hm hc
  have hexec := exec_restoreDone (hard := hard) hl hup hs hd hr hh
  rw [hjudged, if_neg Bool.false_ne_true] at hexec
  obtain ⟨h1, h2, h3, h4, h5, h6⟩ := Core.restoreVerified_facts (c := s.clear.core) sc.isLt hs (s.core.tempOf sc.val) (s.core.nearestSet sc.val) l hard
  generalize s.clear.core.restoreVerified sc.val (s.core.tempOf sc.val) (s.core.nearestSet sc.val) l hard = c at hexec h1 h2 h3 h4 h5 h6
  obtain ⟨d, k1, k2, k3, k4, k5⟩ := Core.exists_settle_advance { s.clear with mem := s.mem.lose sc.val } sc.isLt h1 (h3.trans hd) h2 h4
  exact ⟨{ s.clear with mem := s.mem.lose sc.val, core := d }, hexec.trans (congrArg _ k1), k3, k4.trans h5, k5.trans h6, rfl, rfl, rfl,
    k2.waits, k2.trains, k2.ends⟩

/-- A restore with a lane that fails. -/
theorem restoreDone_failed (hl : l.length = 20) (hup : s.core.hubUp = true) (hs : s.core.start = some r) (hd : s.core.dev = Dv.restore)
    (hr : r.restores.testBit sc.val = true) (hh : s.core.holds Ck.restore sc.val = true)
    (hfail : ∃ i < 20, s.core.markedLane sc.val (i / 10) ≠ some (i % 10) ∧ checkResult (nth l i ⟨0, false⟩) = 3) :
    AnswersAll (.restoreDone sc ⟨l, hard⟩) s fun u =>
      u.core.get Obj.Dev.RESTORE_FAILS = min (s.core.get Obj.Dev.RESTORE_FAILS + 1) (2 ^ 32 - 1) ∧
      u.core.bitOf Obj.Dev.FLAGS 3 = true ∧ u.mem = s.mem.lose sc.val ∧ u.fuses = s.fuses ∧ u.latch = s.latch ∧
      u.core.start = some { r with
        restores := setBitTo sc.val false r.restores
        trains := setBitTo sc.val true r.trains } ∧
      ((r.exits ≠ 0 ∨ setBitTo sc.val false r.restores ≠ 0) → u.core.dev = Dv.restore) ∧
      (r.exits = 0 → setBitTo sc.val false r.restores = 0 → s.core.trainState sc.val ≠ 1 →
        u.core.dev = Dv.train ∧ u.core.trainState sc.val = 1 ∧ u.core.waits Ck.train sc.val = true) := by
  have hexec := exec_restoreDone (hard := hard) hl hup hs hd hr hh
  rw [(Core.restoreJudged_iff l).mpr hfail, if_pos rfl] at hexec
  obtain ⟨h1, h2, h3, h4, h5⟩ := Core.restoreFailed_facts (c := s.clear.core) (n := sc.val) hs (s.core.tempOf sc.val) (s.core.nearestSet sc.val) hard
  generalize s.clear.core.restoreFailed sc.val (s.core.tempOf sc.val) (s.core.nearestSet sc.val) hard = c at hexec h1 h2 h3 h4 h5
  have hdev : c.dev = Dv.restore := h2.trans hd
  have hbit : (Core.failedStart sc.val r).trains.testBit sc.val = true := testBit_setBitTo_self _ _ _
  obtain ⟨k1, k2, k3, k4⟩ := Core.advance_training h1 hdev sc.isLt hbit
  refine ⟨_, hexec, k2.trans h4, k3 3 h5, rfl, rfl, rfl, k1, fun h => ?_, fun he hr hstate => k4 he hr ?_⟩
  · exact ((Core.goesOn_advance h1 hdev).waits h).1
  · rw [h3]
    exact hstate

end Sys2Proof.Machine
end

section
/-! PROOFS. SELFTEST with a failed fuse field, and the commands that find nothing to do (13_security_worlds.md R337,
16_states_start_sluice.md R412, R416, R419). -/

namespace Sys2Proof.Machine

namespace Core

variable {c d : Core}

/-! ## The collector starts (R329) -/

/-- The pins follow their levels. -/
theorem pins_fc (c : Core) : c.pins.fc = { c.fc with errN := c.errLevel, safeN := c.safeLevel } := by
  unfold pins
  dsimp only
  rw [fc_put]
  by_cases he : c.errLevel = c.fc.errN
  · rw [if_pos he]
    split
    · next hs => rw [he, hs]
    · rw [he]
      rfl
  · rw [if_neg he]
    split
    · next hs =>
        have hs' : c.safeLevel = c.fc.safeN := hs
        rw [hs']
        rfl
    · rfl

/-- The collector runs and holds no event. -/
def collecting (c : Core) : Core := c.withFc { c.fc with running := true, held := [] }

theorem startCollector_eq (h : c.fc.running = true ∨ c.fc.held = []) : c.startCollector =
    if c.fc.running then c else (c.collecting.put Obj.Time.TIME_VALID (c.get Obj.Time.TIME_VALID)).pins := by
  unfold startCollector
  by_cases hr : c.fc.running = true
  · rw [if_pos hr, if_pos hr]
  · rw [if_neg hr, if_neg hr, h.resolve_left hr]
    dsimp only [List.foldr_nil, List.foldl_nil]
    rw [put_put]
    rfl

theorem get_put_own (c : Core) (j k : Nat) : (c.put j (c.get j)).get k = c.get k := by
  by_cases h : k = j
  · subst h
    exact get_put_self _ _ _
  · exact get_put_ne _ _ h

theorem startCollector_running (h : c.fc.running = true ∨ c.fc.held = []) : c.startCollector.fc.running = true := by
  rw [startCollector_eq h]
  split
  · assumption
  · rw [pins_fc]
    rfl

theorem startCollector_get (h : c.fc.running = true ∨ c.fc.held = []) {k : Nat} (hk : k ≠ Obj.Fc.PIN_STATE) :
    c.startCollector.get k = c.get k := by
  rw [startCollector_eq h]
  split
  · rfl
  · rw [get_pins_ne _ hk]
    exact get_put_own c.collecting _ _

theorem fcOnly_startCollector (h : c.fc.running = true ∨ c.fc.held = []) : c.FcOnly c.startCollector := by
  have hget : ∀ k, ¬ isFcKey k → c.startCollector.get k = c.get k := fun k hk => startCollector_get h fun hp => hk (hp ▸ by decide)
  refine ⟨?_, hget⟩
  rw [startCollector_eq h]
  split
  · rfl
  · rw [(fcOnly_pins _).1]
    rfl

/-- What the command has sent and asked so far makes no difference to the start of the collector. -/
theorem startCollector_clear (s : State) (h : s.core.fc.running = true ∨ s.core.fc.held = []) :
    s.clear.core.startCollector.fc = s.core.startCollector.fc ∧ ∀ k, k ≠ Obj.Fc.PIN_STATE →
      s.clear.core.startCollector.get k = s.core.startCollector.get k := by
  have h' : s.clear.core.fc.running = true ∨ s.clear.core.fc.held = [] := h
  refine ⟨?_, fun k hk => (startCollector_get h' hk).trans (startCollector_get h hk).symm⟩
  have hrun : s.clear.core.fc.running = s.core.fc.running := rfl
  rw [startCollector_eq h, startCollector_eq h', hrun]
  by_cases hr : s.core.fc.running = true
  · rw [if_pos hr, if_pos hr]
    rfl
  · rw [if_neg hr, if_neg hr, pins_fc, pins_fc]
    rfl

/-- A raised condition leaves the collector running. -/
theorem running_raise (c : Core) (src : Nat) (x : FaultCtx) : (c.raise src x).fc.running = c.fc.running := by
  unfold raise
  split_ifs
  · rfl
  · rfl
  · rfl
  · rfl
  · rfl
  · exact (sameDetectors_event c src _ x).2.2.2.2.1

end Core

/-! ## The commands -/

variable {s : State}

/-- A failed fuse field keeps the device in SELFTEST. -/
theorem selftestDone_fuseBad {x : SelftestResult} {r : StartRun} (hx : x.wf = true) (hup : s.core.seqUp = true)
    (hs : s.core.start = some r) (hd : s.core.dev = Dv.selftest) (ho : r.origin = 0) (hbad : x.fuseBad = true)
    (hrun : s.core.fc.running = true ∨ s.core.fc.held = []) :
    AnswersThen (.selftestDone x) s fun c =>
      c.fc.running = true ∧ c.dev = Dv.selftest ∧ c.start = some r ∧ s.core.startCollector.Raises Src.secFuse c := by
  have hrun' : s.clear.core.fc.running = true ∨ s.clear.core.fc.held = [] := hrun
  have heq : s.clear.core.selftestDone x = s.clear.core.startCollector.raise Src.secFuse (ctxNone 0 0) := by
    have hs' : s.clear.core.start = some r := hs
    have hd' : s.clear.core.dev = Dv.selftest := hd
    unfold Core.selftestDone
    rw [hs']
    dsimp only
    rw [if_neg (not_not.mpr hd'), if_pos (by simp [ho, hbad])]
  obtain ⟨hfc, hget⟩ := Core.startCollector_clear s hrun
  have hstart := Core.fcOnly_startCollector hrun'
  have hraise := Core.fcOnly_raise s.clear.core.startCollector Src.secFuse (ctxNone 0 0)
  refine answersThen_onPower (fun c => c.selftestDone x) (formed_of_wf hx) hup ?_
  show _ ∧ _ ∧ _ ∧ _
  rw [heq]
  refine ⟨?_, ?_, (hraise.start.trans hstart.start).trans hs, Core.raises_of_raise _ (by decide) hfc (hget _ (by decide))⟩
  · rw [Core.running_raise, Core.startCollector_running hrun']
  · rw [Core.dev, hraise.get (by decide), hstart.get (by decide)]
    exact hd

/-- SAFE_FLUSH outside SAFE. -/
theorem safeFlush_outside (h : s.core.seqUp = false ∨ s.core.dev ≠ Dv.safe) : exec .safeFlush s = .next s.clear := by
  by_cases hd : s.core.dev = Dv.safe
  · show Host.Outcome.next (s.onPower fun c => c.safeFlush) = _
    rw [State.onPower, State.when, h.resolve_right (not_not.mpr hd)]
    rfl
  · refine exec_of_onPower_unchanged (fun c => c.safeFlush) ?_ rfl
    unfold Core.safeFlush
    exact if_pos hd

/-- The end of the orderly phase, where it has not begun or its work is not done. -/
theorem shutdownPhaseEnd_early (h : s.core.seq.orderly = false ∨ (∃ st < 256, s.core.stState st ≠ St.disabled) ∨
    ∃ r < 3, (s.core.ledgerOf r).run ≠ none) : exec (.shutdownPhaseEnd false) s = .next s.clear := by
  refine exec_of_onAo_unchanged (fun c => c.shutdownEnd false) ?_ rfl
  unfold Core.shutdownEnd
  refine if_pos ?_
  have hst : ∀ st, s.clear.core.stState st = s.core.stState st := fun _ => rfl
  have hled : ∀ r, s.clear.core.ledgerOf r = s.core.ledgerOf r := fun _ => rfl
  have hord : s.clear.core.seq.orderly = s.core.seq.orderly := rfl
  rcases h with h | ⟨st, hlt, h⟩ | ⟨r, hlt, h⟩
  · rw [hord, h]
    rfl
  · have hall : ((List.range 256).all fun st => decide (s.clear.core.stState st = St.disabled)) = false := by
      rw [List.all_eq_false]
      exact ⟨st, List.mem_range.mpr hlt, by simpa [hst] using h⟩
    rw [hall]
    simp
  · have hall : ((List.range 3).all fun r => (s.clear.core.ledgerOf r).run.isNone) = false := by
      rw [List.all_eq_false]
      exact ⟨r, List.mem_range.mpr hlt, by simpa [hled] using h⟩
    rw [hall]
    simp

end Sys2Proof.Machine
end

section
/-! PROOFS. The elastic blocks that no commit took (16_states_start_sluice.md R416, R419). -/

namespace Sys2Proof.Machine

namespace Core

variable {c d : Core} {st : Nat}

/-! ## One stream -/

/-- The samples of a stream are discarded and it is DISABLED. -/
def dropStream (c : Core) (st : Nat) : Core :=
  if c.stState st = St.disabled then c
  else (((c.updStream st fun s => { s with blocks := [], waiting := [] }).put (Obj.Stream.STATE st) St.disabled).put
    (Obj.Stream.ENABLE st) 0).put (Obj.Region.STREAM (c.get (Obj.Stream.REGION st))) 0xFFFF

theorem dropElastic_eq (c : Core) : c.dropElastic = (c.each 256 fun c st => c.dropStream st).weirProgress.water := rfl

/-- The objects that the discarding of streams leaves. -/
def dropKept (k : Nat) : Prop := k < 0x230000 ∨ 0x290000 ≤ k ∨ (0x280000 ≤ k ∧ k % 256 ≠ 1 ∧ k % 256 ≠ 2)

/-- Every stream that is not DISABLED has a region. -/
def Regioned (c : Core) : Prop := ∀ st < 256, c.stState st ≠ St.disabled → c.get (Obj.Stream.REGION st) < 1024

theorem region_key_ne {r k : Nat} (hr : r < 1024) (hk : k < 0x230000 ∨ 0x270000 ≤ k) : k ≠ Obj.Region.STREAM r := by
  simp only [Obj.Region.STREAM]
  omega

theorem dropStream_get (hr : c.stState st ≠ St.disabled → c.get (Obj.Stream.REGION st) < 1024) {k : Nat} (h1 : k ≠ Obj.Stream.STATE st)
    (h2 : k ≠ Obj.Stream.ENABLE st) (h3 : k < 0x230000 ∨ 0x270000 ≤ k) : (c.dropStream st).get k = c.get k := by
  unfold dropStream
  split
  · rfl
  · next h =>
    have hreg : k ≠ Obj.Region.STREAM (c.get (Obj.Stream.REGION st)) := region_key_ne (hr h) h3
    have hupd : ∀ f, (c.updStream st f).get k = c.get k := fun _ => rfl
    rw [get_put_ne _ _ hreg, get_put_ne _ _ h2, get_put_ne _ _ h1, hupd]

theorem dropStream_kept (hst : st < 256) (hr : c.stState st ≠ St.disabled → c.get (Obj.Stream.REGION st) < 1024) {k : Nat} (hk : dropKept k) :
    (c.dropStream st).get k = c.get k := by
  unfold dropKept at hk
  refine dropStream_get hr ?_ ?_ ?_
  · simp only [Obj.Stream.STATE]
    omega
  · simp only [Obj.Stream.ENABLE]
    omega
  · omega

theorem dropStream_state (hr : c.stState st ≠ St.disabled → c.get (Obj.Stream.REGION st) < 1024) :
    (c.dropStream st).stState st = St.disabled := by
  unfold dropStream
  split
  · assumption
  · next h =>
    have hreg : Obj.Stream.STATE st ≠ Obj.Region.STREAM (c.get (Obj.Stream.REGION st)) := region_key_ne (hr h) (.inr (by simp; omega))
    rw [stState, get_put_ne _ _ hreg, get_put_ne _ _ (by simp), get_put_self]

theorem dropStream_blocks (h : c.stState st ≠ St.disabled) : ((c.dropStream st).streamOf st).blocks = [] := by
  unfold dropStream
  rw [if_neg h]
  have hput : ∀ (a : Core) (k v : Nat), (a.put k v).streamOf st = a.streamOf st := fun _ _ _ => rfl
  rw [hput, hput, hput, streamOf_updStream_self]

theorem dropStream_streamOf_ne {i : Nat} (h : i ≠ st) : (c.dropStream st).streamOf i = c.streamOf i := by
  unfold dropStream
  split
  · rfl
  · have hput : ∀ (a : Core) (k v : Nat), (a.put k v).streamOf i = a.streamOf i := fun _ _ _ => rfl
    rw [hput, hput, hput, streamOf_updStream_ne _ _ h]

theorem dropStream_fields (c : Core) (st : Nat) : (c.dropStream st).mc = c.mc ∧ (c.dropStream st).sluice = c.sluice ∧
    (c.dropStream st).seq = c.seq ∧ (c.dropStream st).wins = c.wins := by
  unfold dropStream
  split
  · exact ⟨rfl, rfl, rfl, rfl⟩
  · exact ⟨rfl, rfl, rfl, rfl⟩

theorem Regioned.dropStream (h : c.Regioned) (hst : st < 256) : (c.dropStream st).Regioned := fun i hi hstate => by
  have hr := h st hst
  have hreg : (c.dropStream st).get (Obj.Stream.REGION i) = c.get (Obj.Stream.REGION i) :=
    dropStream_get hr (by simp; omega) (by simp; omega) (.inr (by simp; omega))
  rw [hreg]
  refine h i hi fun hdis => hstate ?_
  rcases eq_or_ne i st with rfl | hne
  · exact dropStream_state hr
  · exact (dropStream_get hr (by simp; omega) (by simp; omega) (.inr (by simp; omega))).trans hdis

/-! ## All streams -/

theorem dropAll_frame (h : c.Regioned) : (c.each 256 fun c st => c.dropStream st).mc = c.mc ∧
    (c.each 256 fun c st => c.dropStream st).sluice = c.sluice ∧ (c.each 256 fun c st => c.dropStream st).seq = c.seq ∧
    (c.each 256 fun c st => c.dropStream st).wins = c.wins ∧
    ∀ k, dropKept k → (c.each 256 fun c st => c.dropStream st).get k = c.get k := by
  have hall := each_induct (fun d => d.Regioned ∧ d.mc = c.mc ∧ d.sluice = c.sluice ∧ d.seq = c.seq ∧ d.wins = c.wins ∧
    ∀ k, dropKept k → d.get k = c.get k) 256 (fun c st => c.dropStream st) c ⟨h, rfl, rfl, rfl, rfl, fun _ _ => rfl⟩
    fun d st hst ⟨h0, h1, h2, h3, h4, h5⟩ => by
      obtain ⟨k1, k2, k3, k4⟩ := dropStream_fields d st
      exact ⟨h0.dropStream hst, k1.trans h1, k2.trans h2, k3.trans h3, k4.trans h4,
        fun k hk => (dropStream_kept hst (h0 st hst) hk).trans (h5 k hk)⟩
  exact hall.2

theorem dropAll_stream (h : c.Regioned) (hst : st < 256) : (c.each 256 fun c st => c.dropStream st).stState st = St.disabled ∧
    (c.stState st ≠ St.disabled → ((c.each 256 fun c st => c.dropStream st).streamOf st).blocks = []) := by
  have hstep : ∀ (d : Core) (j : Nat), j ≠ st → j < 256 → d.Regioned → (d.dropStream j).stState st = d.stState st ∧
      (d.dropStream j).streamOf st = d.streamOf st := fun d j hj hlt hd =>
    ⟨dropStream_get (hd j hlt) (by simp; omega) (by simp; omega) (.inr (by simp; omega)), dropStream_streamOf_ne hj.symm⟩
  have hall := each_reaches (P := fun d => d.Regioned ∧ d.stState st = c.stState st)
    (Q := fun d => d.Regioned ∧ d.stState st = St.disabled ∧ (c.stState st ≠ St.disabled → (d.streamOf st).blocks = [])) hst
    (f := fun c st => c.dropStream st)
    (fun d j hj ⟨h1, h2⟩ => ⟨h1.dropStream (by omega), (hstep d j (by omega) (by omega) h1).1.trans h2⟩)
    (fun d ⟨h1, h2⟩ => ⟨h1.dropStream hst, dropStream_state (h1 st hst), fun hne => dropStream_blocks (by rw [h2]; exact hne)⟩)
    (fun d j hj hlt ⟨h1, h2, h3⟩ => by
      obtain ⟨k1, k2⟩ := hstep d j (by omega) hlt h1
      exact ⟨h1.dropStream hlt, k1.trans h2, fun hne => by rw [k2]; exact h3 hne⟩) (c := c) ⟨h, rfl⟩
  exact hall.2

/-! ## The windows and the fill -/

theorem weirProgress_still (h : ∀ e ∈ c.wins, c.get (Obj.Window.STATE e.1) ≠ 2) : c.weirProgress = c := by
  have hfold : ∀ l : List Nat, (∀ w ∈ l, c.get (Obj.Window.STATE w) ≠ 2) → l.foldl (fun c w => c.winProgress w) c = c := fun l => by
    induction l with
    | nil => exact fun _ => rfl
    | cons w l ih =>
      intro hl
      have hw : c.winProgress w = c := by rw [winProgress, if_neg (hl w List.mem_cons_self)]
      rw [List.foldl_cons, hw, ih fun v hv => hl v (List.mem_cons_of_mem _ hv)]
  refine hfold _ fun w hw => ?_
  obtain ⟨e, he, rfl⟩ := List.mem_map.mp hw
  exact h e he

/-- What discarding the blocks leaves. -/
theorem dropElastic_facts (h : c.Regioned) (hw : ∀ e ∈ c.wins, c.get (Obj.Window.STATE e.1) ≠ 2) :
    (∀ st < 256, c.dropElastic.stState st = St.disabled ∧ (c.stState st ≠ St.disabled → (c.dropElastic.streamOf st).blocks = [])) ∧
    c.dropElastic.mc = c.mc ∧ c.dropElastic.sluice = c.sluice ∧ c.dropElastic.seq = c.seq ∧
    ∀ k, dropKept k → waterKeeps k → c.dropElastic.get k = c.get k := by
  obtain ⟨h1, h2, h3, h4, h5⟩ := dropAll_frame h
  have hstill : (c.each 256 fun c st => c.dropStream st).weirProgress = c.each 256 fun c st => c.dropStream st := weirProgress_still fun e he => by
    rw [h5 _ (.inr (.inl (by simp; omega)))]
    exact hw e (h4 ▸ he)
  have hstream := fun st (hst : st < 256) => dropAll_stream (st := st) h hst
  rw [dropElastic_eq, hstill]
  generalize (c.each 256 fun c st => c.dropStream st) = d at h1 h2 h3 h4 h5 hstream
  have hwater := waterOnly_water d
  refine ⟨fun st hst => ?_, hwater.mc.trans h1, ?_, ?_, fun k hk hk' => (keeps_water d k hk').trans (h5 k hk)⟩
  · rw [stState, keeps_water d _ (waterKeeps_of (by simp; omega) (by simp; omega) (by simp)), hwater.streamOf]
    exact hstream st hst
  · rw [hwater]
    exact h2
  · rw [hwater]
    exact h3

end Core

end Sys2Proof.Machine
end

section
/-! PROOFS. SAFE_FLUSH and the end of the orderly phase (16_states_start_sluice.md R416, R419). -/

namespace Sys2Proof.Machine

namespace Core

variable {c d : Core} {n i : Nat}

/-! ## A subchannel ordered into self-refresh by SAFE_FLUSH -/

/-- The forced credit of an exit, where none is held. -/
def exitCredit (c : Core) (n : Nat) : Core := if c.holds Ck.srExit n then c else c.askForced Ck.srExit n 400

/-- SAFE_FLUSH orders a TRAINED subchannel that is neither OFFLINE nor held into self-refresh. -/
def safeRestAt (c : Core) (n : Nat) : Core :=
  if c.trainState n = 2 && !c.scOffline n && !(c.mcOf n).held then ((c.exitCredit n).wakeBoth n).orderSelfRefresh n 8 else c

theorem safeFlush_eq (h : c.dev = Dv.safe) : c.safeFlush =
    ((c.add Obj.Dev.SAFE_LOST_BLOCKS 64 (c.streams.map fun e => (e.2.blocks.filter fun b => b.uncommitted.isSome).length).sum).dropElastic).each 32
      fun c n => c.safeRestAt n := by
  unfold safeFlush
  rw [if_neg (not_not.mpr h)]
  rfl

theorem exitCredit_facts (c : Core) (n : Nat) : c.SluiceOnly (c.exitCredit n) ∧ (c.exitCredit n).holds Ck.srExit n = true ∧
    ∀ i, c.holds Ck.srExit i = true → (c.exitCredit n).holds Ck.srExit i = true := by
  have hmore : ∀ i, c.holds Ck.srExit i = true → (c.askForced Ck.srExit n 400).holds Ck.srExit i = true := fun i hi => by
    show (c.sluice.held ++ [_]).any _ = true
    rw [List.any_append, show c.sluice.held.any _ = true from hi, Bool.true_or]
  unfold exitCredit
  split
  · exact ⟨.refl c, by assumption, fun _ h => h⟩
  · refine ⟨sluiceOnly_askForced c _ n 400, ?_, hmore⟩
    show (c.sluice.held ++ [_]).any _ = true
    rw [List.any_append, List.any_cons]
    simp

/-- A subchannel that SAFE_FLUSH has ordered: its credit, its reason and its way. -/
def safeRested (c : Core) (n : Nat) : Prop :=
  c.holds Ck.srExit n = true ∧ (c.mcOf n).srWhy &&& 8 = 8 ∧ (c.resting n = true ∨ (c.mcOf n).srEntering = true)

theorem orderSelfRefresh_why (h : c.scOffline n = false) : ((c.orderSelfRefresh n 8).mcOf n).srWhy &&& 8 = 8 ∧
    ((c.orderSelfRefresh n 8).resting n = true ∨ ((c.orderSelfRefresh n 8).mcOf n).srEntering = true) := by
  have hwhy : ∀ m : McState, (m.srWhy ||| 8) &&& 8 = 8 := fun m => by
    apply Nat.eq_of_testBit_eq
    intro j
    simp
    tauto
  unfold orderSelfRefresh resting
  split
  · next hc =>
    have hst : (c.updMc n fun m => { m with srWhy := m.srWhy ||| 8 }).scState n = c.scState n := rfl
    rw [hst, updMc, mcOf_setMc_self]
    rw [h] at hc
    exact ⟨hwhy _, .inl (by simpa using hc)⟩
  · rw [updMc, mcOf_setMc_self]
    exact ⟨hwhy _, .inr rfl⟩

/-- What the order of a subchannel leaves. -/
theorem safeRestAt_frame (c : Core) (n : Nat) : (∀ k, ¬ isSluiceKey k → k ≠ Obj.Sc.PD_MASK n → k ≠ Obj.Sc.STATE n → (c.safeRestAt n).get k = c.get k) ∧
    (c.safeRestAt n).streams = c.streams ∧ (∀ i, i ≠ n → (c.safeRestAt n).mcOf i = c.mcOf i) ∧
    ∀ i, c.holds Ck.srExit i = true → (c.safeRestAt n).holds Ck.srExit i = true := by
  unfold safeRestAt
  split
  · obtain ⟨h1, -, h3⟩ := exitCredit_facts c n
    generalize c.exitCredit n = a at h1 h3
    obtain ⟨k1, k2⟩ := orderSelfRefresh_frame (a.wakeBoth n) n 8
    have hrank : RankOnly n a ((a.wakeBoth n).orderSelfRefresh n 8) := ((rankOnly_wakeRank a n 0).trans (rankOnly_wakeRank _ n 1)).trans k1
    refine ⟨fun k hk hp hs => (hrank.get hp hs).trans (h1.get hk), by rw [hrank.streams, h1.1], fun i hi => ?_, fun i hi => ?_⟩
    · rw [k2 i hi, wakeBoth, wakeRank_mcOf_ne _ _ hi, wakeRank_mcOf_ne _ _ hi, mcOf, h1.1, mcOf]
    · rw [holds, hrank.sluice]
      exact h3 i hi
  · exact ⟨fun _ _ _ _ => rfl, rfl, fun _ _ => rfl, fun _ h => h⟩

theorem safeRestAt_rested (ht : c.trainState n = 2) (ho : c.scOffline n = false) (hh : (c.mcOf n).held = false) : (c.safeRestAt n).safeRested n := by
  obtain ⟨h1, h2, -⟩ := exitCredit_facts c n
  unfold safeRestAt safeRested
  rw [if_pos (by simp [ht, ho, hh])]
  have hoff : (c.exitCredit n).scOffline n = false := by
    rw [scOffline, scState, h1.get (by simp [isSluiceKey]; omega)]
    exact ho
  generalize c.exitCredit n = a at h2 hoff
  refine ⟨?_, orderSelfRefresh_why (wakeBoth_scOffline hoff)⟩
  rw [holds, (orderSelfRefresh_frame (a.wakeBoth n) n 8).1.sluice, (wakeBoth_rest a n).1]
  exact h2

theorem safeRested_keep (hne : i ≠ n) (h : c.safeRested n) : (c.safeRestAt i).safeRested n := by
  obtain ⟨k1, -, k3, k4⟩ := safeRestAt_frame c i
  obtain ⟨h1, h2, h3⟩ := h
  have hm := k3 n (Ne.symm hne)
  have hs : (c.safeRestAt i).scState n = c.scState n := k1 _ (by simp [isSluiceKey]; omega) (by simp; omega) (by simp; omega)
  refine ⟨k4 n h1, by rw [hm]; exact h2, ?_⟩
  rw [resting, hs, hm]
  exact h3

/-- All subchannels: TRAINED ones that are neither OFFLINE nor held are ordered. -/
theorem safeRestAll_rested (hn : n < 32) (ht : c.trainState n = 2) (ho : c.scOffline n = false) (hh : (c.mcOf n).held = false) :
    (c.each 32 fun c n => c.safeRestAt n).safeRested n := by
  refine each_reaches (P := fun d => d.trainState n = 2 ∧ d.scOffline n = false ∧ (d.mcOf n).held = false) (Q := fun d => d.safeRested n) hn
    (fun d j hj ⟨h1, h2, h3⟩ => ?_) (fun d ⟨h1, h2, h3⟩ => safeRestAt_rested h1 h2 h3) (fun d j hj _ hd => safeRested_keep (by omega) hd) ⟨ht, ho, hh⟩
  obtain ⟨k1, -, k3, -⟩ := safeRestAt_frame d j
  refine ⟨(k1 _ (by simp [isSluiceKey]; omega) (by simp; omega) (by simp; omega)).trans h1, ?_, ?_⟩
  · rw [scOffline, scState, k1 _ (by simp [isSluiceKey]; omega) (by simp; omega) (by simp; omega)]
    exact h2
  · rw [k3 n (by omega)]
    exact h3

theorem safeRestAll_frame (c : Core) : (c.each 32 fun c n => c.safeRestAt n).streams = c.streams ∧
    ∀ k, k < 0x600000 → ¬ isSluiceKey k → (c.each 32 fun c n => c.safeRestAt n).get k = c.get k := by
  refine each_induct (fun d => d.streams = c.streams ∧ ∀ k, k < 0x600000 → ¬ isSluiceKey k → d.get k = c.get k) 32 _ c ⟨rfl, fun _ _ _ => rfl⟩
    fun d i _ ⟨h1, h2⟩ => ?_
  obtain ⟨k1, k2, -⟩ := safeRestAt_frame d i
  exact ⟨k2.trans h1, fun k hk hs => (k1 k hs (by simp; omega) (by simp; omega)).trans (h2 k hk hs)⟩

/-! ## The orderly phase ends -/

/-- The hub as the orderly phase leaves it: at its time limit the samples that wait are discarded, with SHUTDOWN_FORCED. -/
def orderlyEnd (c : Core) (forced : Bool) : Core := if forced then c.dropElastic.flag Obj.Dev.FLAGS 2 else c

theorem shutdownEnd_eq {forced : Bool} (ho : c.seq.orderly = true)
    (h : forced = true ∨ ((∀ st < 256, c.stState st = St.disabled) ∧ ∀ r < 3, (c.ledgerOf r).run = none)) :
    c.shutdownEnd forced = (c.orderlyEnd forced).beginDescent (c.orderlyEnd forced).descentList := by
  have hready : forced = true ∨ (((List.range 256).all fun st => decide (c.stState st = St.disabled)) = true ∧
      ((List.range 3).all fun r => (c.ledgerOf r).run.isNone) = true) := h.imp id fun ⟨h1, h2⟩ =>
    ⟨List.all_eq_true.mpr fun st hst => decide_eq_true (h1 st (List.mem_range.mp hst)),
      List.all_eq_true.mpr fun r hr => by rw [h2 r (List.mem_range.mp hr)]; rfl⟩
  unfold shutdownEnd
  refine if_neg ?_
  rcases hready with rfl | ⟨h1, h2⟩
  · simp [ho]
  · rw [h1, h2]
    simp [ho]

theorem orderlyEnd_facts (h : c.Regioned) (hw : ∀ e ∈ c.wins, c.get (Obj.Window.STATE e.1) ≠ 2) {forced : Bool}
    (hdone : forced = true ∨ ∀ st < 256, c.stState st = St.disabled) :
    (∀ st < 256, (c.orderlyEnd forced).stState st = St.disabled) ∧ (c.orderlyEnd forced).seq = c.seq ∧ (c.orderlyEnd forced).dev = c.dev ∧
    (forced = true → (c.orderlyEnd forced).bitOf Obj.Dev.FLAGS 2 = true) := by
  unfold orderlyEnd
  by_cases hf : forced = true
  · rw [if_pos hf]
    obtain ⟨h1, -, -, h4, h5⟩ := dropElastic_facts h hw
    generalize c.dropElastic = d at h1 h4 h5
    refine ⟨fun st hst => ?_, by rw [flag, seq_put, h4], ?_, fun _ => bitOf_flag_self _ _ _⟩
    · rw [stState, get_flag_ne _ _ (by simp; omega)]
      exact (h1 st hst).1
    · have hwater : waterKeeps Obj.Dev.DEVICE_STATE := ⟨by decide, by decide, fun i => by simp; omega, by decide⟩
      exact (get_flag_ne _ _ (by decide)).trans (h5 _ (.inr (.inl (by decide))) hwater)
  · rw [if_neg hf]
    exact ⟨hdone.resolve_left hf, rfl, rfl, fun h => absurd h hf⟩

/-- DESCENT begins in a device that is in it: the objects but SEQ_STATE and the margins stay. -/
theorem beginDescent_inDescent (hd : c.dev = Dv.descent) {l : List Nat} (hl : l ≠ []) {k : Nat} (h2 : k ≠ Obj.Seq.SEQ_STATE)
    (h3 : ∀ i, i < 16 → k ≠ Obj.Rail.MARGIN i ∧ k ≠ Obj.Rail.MARGIN_APPLIED i) : (c.beginDescent l).get k = c.get k := by
  obtain ⟨r, t, rfl⟩ := List.exists_cons_of_ne_nil hl
  have hdev : c.resetDram.dev = Dv.descent := (get_resetDram c _).trans hd
  have hset : c.resetDram.setDev Dv.descent = c.resetDram := by
    unfold setDev
    rw [hdev]
    rfl
  rw [beginDescent_get c r t k h3, get_put_ne _ _ h2, hset, get_resetDram]

theorem beginDescent_fields (c : Core) {l : List Nat} (hl : l ≠ []) : (c.beginDescent l).get Obj.Seq.SEQ_STATE = 3 ∧
    (c.beginDescent l).seq.todo = l := by
  obtain ⟨r, t, rfl⟩ := List.exists_cons_of_ne_nil hl
  exact ⟨beginDescent_state c r t, beginDescent_todo c r t⟩

theorem beginDescent_orderly (c : Core) {l : List Nat} (hl : l ≠ []) : (c.beginDescent l).seq.orderly = false := by
  unfold beginDescent
  rw [if_neg hl, seq_withSeq]

end Core

/-! ## The commands -/

variable {s : State}

/-- SAFE_FLUSH in SAFE. -/
theorem safeFlush_inSafe (hup : s.core.seqUp = true) (hd : s.core.dev = Dv.safe)
    (hw : ∀ e ∈ s.core.wins, s.core.get (Obj.Window.STATE e.1) ≠ 2)
    (hr : ∀ st < 256, s.core.stState st ≠ St.disabled → s.core.get (Obj.Stream.REGION st) < 1024) :
    AnswersThen .safeFlush s fun c =>
      c.get Obj.Dev.SAFE_LOST_BLOCKS = min (s.core.get Obj.Dev.SAFE_LOST_BLOCKS +
        (s.core.streams.map fun e => (e.2.blocks.filter fun b => b.uncommitted.isSome).length).sum) (2 ^ 64 - 1) ∧
      (∀ st < 256, c.stState st = St.disabled ∧ (s.core.stState st ≠ St.disabled → (c.streamOf st).blocks = [])) ∧
      c.dev = Dv.safe ∧
      ∀ n < 32, s.core.trainState n = 2 → s.core.scOffline n = false → (s.core.mcOf n).held = false →
        c.holds Ck.srExit n = true ∧ (c.mcOf n).srWhy &&& 8 = 8 ∧ (c.resting n = true ∨ (c.mcOf n).srEntering = true) := by
  refine answersThen_onPower (fun c => c.safeFlush) rfl hup ?_
  show _ ∧ _ ∧ _ ∧ _
  rw [Core.safeFlush_eq (c := s.clear.core) hd]
  have hget : ∀ k, k ≠ Obj.Dev.SAFE_LOST_BLOCKS → ∀ v, (s.clear.core.add Obj.Dev.SAFE_LOST_BLOCKS 64 v).get k = s.core.get k := fun k hk v =>
    Core.get_add_ne _ _ _ hk
  have hself : ∀ v, (s.clear.core.add Obj.Dev.SAFE_LOST_BLOCKS 64 v).get Obj.Dev.SAFE_LOST_BLOCKS =
      min (s.core.get Obj.Dev.SAFE_LOST_BLOCKS + v) (2 ^ 64 - 1) := fun v => by
    rw [Core.add, Core.get_put_self, Core.sat_eq_min]
    rfl
  have hlost : s.clear.core.streams = s.core.streams := rfl
  rw [hlost]
  generalize (s.core.streams.map fun e => (e.2.blocks.filter fun b => b.uncommitted.isSome).length).sum = lost
  have hfields : (s.clear.core.add Obj.Dev.SAFE_LOST_BLOCKS 64 lost).wins = s.core.wins ∧
      (s.clear.core.add Obj.Dev.SAFE_LOST_BLOCKS 64 lost).mc = s.core.mc := ⟨rfl, rfl⟩
  replace hget := fun k hk => hget k hk lost
  replace hself := hself lost
  generalize s.clear.core.add Obj.Dev.SAFE_LOST_BLOCKS 64 lost = a at hget hself hfields
  obtain ⟨hwins, hmc⟩ := hfields
  have hregioned : a.Regioned := fun st hst h => by
    rw [hget _ (by simp; omega)]
    exact hr st hst fun h' => h ((hget _ (by simp; omega)).trans h')
  have hstill : ∀ e ∈ a.wins, a.get (Obj.Window.STATE e.1) ≠ 2 := fun e he => by
    have hne : Obj.Window.STATE e.1 ≠ Obj.Dev.SAFE_LOST_BLOCKS := by simp; omega
    rw [hget _ hne]
    exact hw e (hwins ▸ he)
  obtain ⟨h1, h2, h3, -, h5⟩ := Core.dropElastic_facts hregioned hstill
  generalize a.dropElastic = b at h1 h2 h3 h5
  obtain ⟨k1, k2⟩ := Core.safeRestAll_frame b
  have hdev : ∀ k, 0x590000 ≤ k → k % 256 ≠ 16 → b.get k = a.get k := fun k hk hlow =>
    h5 k (.inr (.inl (by omega))) ⟨by simp; omega, by simp; omega, fun i => by simp; omega, by simp only [isFcKey]; omega⟩
  have hkept : ∀ k, 0x600000 ≤ k → k % 256 ≠ 16 → b.get k = s.core.get k := fun k hk hlow =>
    (hdev k (by omega) hlow).trans (hget k (by simp; omega))
  refine ⟨?_, fun st hst => ?_, ?_, fun n hn ht ho hh => Core.safeRestAll_rested hn ?_ ?_ ?_⟩
  · rw [k2 _ (by decide) (by decide), hdev _ (by decide) (by decide), hself]
  · obtain ⟨m1, m2⟩ := h1 st hst
    refine ⟨?_, fun hne => ?_⟩
    · rw [Core.stState, k2 _ (by simp; omega) (by simp [isSluiceKey]; omega)]
      exact m1
    · rw [Core.streamOf, k1]
      exact m2 fun h => hne ((hget _ (by simp; omega)).symm.trans h)
  · rw [Core.dev, k2 _ (by decide) (by decide), hdev _ (by decide) (by decide), hget _ (by decide)]
    exact hd
  · exact (hkept _ (by simp; omega) (by simp)).trans ht
  · rw [Core.scOffline, Core.scState, hkept _ (by simp; omega) (by simp)]
    exact ho
  · rw [Core.mcOf, h2, hmc]
    exact hh

/-- The end of the orderly phase. -/
theorem shutdownPhaseEnd_ends {forced : Bool} (hao : s.core.seq.aoUp = true) (ho : s.core.seq.orderly = true) (hd : s.core.dev = Dv.descent)
    (hl : s.core.descentList ≠ []) (hw : ∀ e ∈ s.core.wins, s.core.get (Obj.Window.STATE e.1) ≠ 2)
    (hr : ∀ st < 256, s.core.stState st ≠ St.disabled → s.core.get (Obj.Stream.REGION st) < 1024)
    (hdone : forced = true ∨ ((∀ st < 256, s.core.stState st = St.disabled) ∧ ∀ r < 3, (s.core.ledgerOf r).run = none)) :
    AnswersThen (.shutdownPhaseEnd forced) s fun c =>
      c.get Obj.Seq.SEQ_STATE = 3 ∧ c.dev = Dv.descent ∧ c.seq.orderly = false ∧ c.seq.todo = s.core.descentList ∧
      (∀ st < 256, c.stState st = St.disabled) ∧ (forced = true → c.bitOf Obj.Dev.FLAGS 2 = true) := by
  refine answersThen_onAo (fun c => c.shutdownEnd forced) rfl hao ?_
  show _ ∧ _ ∧ _ ∧ _
  rw [Core.shutdownEnd_eq (c := s.clear.core) ho hdone]
  obtain ⟨h1, h2, h3, h4⟩ := Core.orderlyEnd_facts (c := s.clear.core) (forced := forced) hr hw (hdone.imp id fun h => h.1)
  generalize s.clear.core.orderlyEnd forced = a at h1 h2 h3 h4
  have hlist : a.descentList = s.core.descentList := by
    rw [Core.descentList, h2]
    rfl
  have hdev : a.dev = Dv.descent := h3.trans hd
  rw [hlist]
  obtain ⟨k1, k2⟩ := Core.beginDescent_fields a hl
  refine ⟨k1, ?_, Core.beginDescent_orderly a hl, k2, fun st hst => ?_, fun hf => ?_⟩
  · exact (Core.beginDescent_inDescent hdev hl (by decide) fun i hi => by simp; omega).trans hdev
  · exact (Core.beginDescent_inDescent hdev hl (by simp; omega) fun i hi => by simp; omega).trans (h1 st hst)
  · rw [Core.bitOf_congr 2 (Core.beginDescent_inDescent hdev hl (by decide) fun i hi => by simp; omega)]
    exact h4 hf

end Sys2Proof.Machine
end

section
/-! PROOFS. SELFTEST up to the way of the start (16_states_start_sluice.md R412): what the loading of records, the reservations and the
ports leave. -/

namespace Sys2Proof.Machine

namespace Core

variable {c d e : Core} {K : Nat → Prop}

/-- `d` holds what the start of `c` goes by: controllers, requests, the start, the collector running, the monitors' trims, and the
objects of a set. -/
structure Checked (K : Nat → Prop) (c d : Core) : Prop where
  mc : d.mc = c.mc
  req : d.req = c.req
  start : d.start = c.start
  running : d.fc.running = c.fc.running
  mon : d.mon = c.mon
  get : ∀ k, K k → d.get k = c.get k

theorem Checked.refl (K : Nat → Prop) (c : Core) : Checked K c c := ⟨rfl, rfl, rfl, rfl, rfl, fun _ _ => rfl⟩
theorem Checked.trans (h : Checked K c d) (h' : Checked K d e) : Checked K c e :=
  ⟨h'.mc.trans h.mc, h'.req.trans h.req, h'.start.trans h.start, h'.running.trans h.running, h'.mon.trans h.mon,
    fun k hk => (h'.get k hk).trans (h.get k hk)⟩
theorem Checked.mono {K' : Nat → Prop} (h : Checked K c d) (hK : ∀ k, K' k → K k) : Checked K' c d :=
  ⟨h.mc, h.req, h.start, h.running, h.mon, fun k hk => h.get k (hK k hk)⟩

theorem checked_put (c : Core) (v : Nat) {k : Nat} (h : ¬ K k) : Checked K c (c.put k v) :=
  ⟨rfl, rfl, rfl, rfl, rfl, fun _ ho => get_put_ne _ _ fun hk => h (hk ▸ ho)⟩

theorem checked_ite {p : Prop} [Decidable p] {x y : Core} (hx : Checked K c x) (hy : Checked K c y) : Checked K c (if p then x else y) := by
  split
  · exact hx
  · exact hy

theorem checked_each (n : Nat) (f : Core → Nat → Core) (h : ∀ c i, i < n → Checked K c (f c i)) (c : Core) : Checked K c (c.each n f) :=
  each_induct (fun d => Checked K c d) n f c (.refl K c) fun d i hi hd => hd.trans (h d i hi)

theorem checked_updFt (c : Core) (n : Nat) (f : FtState → FtState) : Checked K c (c.updFt n f) := ⟨rfl, rfl, rfl, rfl, rfl, fun _ _ => rfl⟩
theorem checked_updLedger (c : Core) (r : Nat) (f : LedgerState → LedgerState) : Checked K c (c.updLedger r f) :=
  ⟨rfl, rfl, rfl, rfl, rfl, fun _ _ => rfl⟩
theorem checked_draw (c : Core) (b : Nat) : Checked K c (c.draw b).2 := ⟨rfl, rfl, rfl, rfl, rfl, fun _ _ => rfl⟩

/-! ## The objects -/

/-- The objects that a start goes by: the states of the device and its subchannels, the refused channels, and the enabled ports. -/
def baseKey (k : Nat) : Prop :=
  k = Obj.Dev.DEVICE_STATE ∨ k = Obj.Mon.REFUSED_MASK ∨ k = Obj.Hr.PORT_ENABLE ∨ (0x600000 ≤ k ∧ k < 0x680000 ∧ k % 0x4000 = 1)

/-- … with the states of the ports. -/
def portedKey (k : Nat) : Prop := baseKey k ∨ (0x201000 ≤ k ∧ k < 0x201800 ∧ k % 256 = 1)

/-- … and the bin of the start. -/
def binKey (k : Nat) : Prop := portedKey k ∨ k = Hid.SPEED

theorem baseKey_scState {n : Nat} (hn : n < 32) : baseKey (Obj.Sc.STATE n) := by
  simp only [baseKey, Obj.Sc.STATE]
  omega

theorem portedKey_portState {p : Nat} (hp : p < 8) : portedKey (Obj.Port.PORT_STATE p) := by
  simp only [portedKey, baseKey, Obj.Port.PORT_STATE]
  omega

/-! ## The records -/

theorem not_binKey_cal {j : Nat} (hj : j < 0x100) : ¬ binKey (0x3A1000 + j) := by
  simp only [binKey, portedKey, baseKey, Obj.Dev.DEVICE_STATE, Obj.Mon.REFUSED_MASK, Obj.Hr.PORT_ENABLE, Hid.SPEED]
  omega

theorem checked_loadSets (c : Core) (h : Nat) : Checked binKey c (c.loadSets h) := by
  have hsource : ∀ (c : Core) (v : Nat), Checked binKey c (c.putByte Obj.Cal.RESTORE_SOURCE 2 h v) := fun c v =>
    checked_put c _ (not_binKey_cal (j := 7) (by decide))
  have htake : ∀ (c : Core) (s : LedgerSlot), Checked binKey c (c.takeSets h s) := fun c s =>
    checked_each 16 _ (fun c k _ => checked_updFt c _ _) c
  have hconvert : ∀ (c : Core) (v : Nat), Checked binKey c (c.convertSets h v) := fun c v => by
    unfold convertSets
    dsimp only
    exact ((checked_draw c _).trans (checked_updLedger _ h _)).trans (checked_each 16 _ (fun c k _ => checked_updFt c _ _) _)
  unfold loadSets
  dsimp only
  split
  · exact checked_ite (hsource c _) ((hsource c _).trans (htake _ _))
  · refine checked_ite (checked_ite (hsource c _) ((hsource c _).trans (hconvert _ _))) ?_
    exact (hsource c 0).trans (checked_put _ _ (not_binKey_cal (j := 13) (by decide)))

theorem loadSets_ledger (c : Core) {h : Nat} (hh : h < 2) : (c.loadSets h).ledgerOf 2 = c.ledgerOf 2 := by
  have hft : ∀ (c : Core) (f : Core → Nat → Nat) (g : Core → Nat → FtState → FtState),
      (c.each 16 fun c k => c.updFt (f c k) (g c k)).ledgerOf 2 = c.ledgerOf 2 := fun c f g =>
    each_induct (fun d => d.ledgerOf 2 = c.ledgerOf 2) 16 _ c rfl fun d k _ hd => hd
  have hother : ∀ (c : Core) (f : LedgerState → LedgerState), (c.updLedger h f).ledgerOf 2 = c.ledgerOf 2 := fun c f =>
    Tbl.get_upd_ne _ _ _ (by omega)
  have htake : ∀ (c : Core) (s : LedgerSlot), (c.takeSets h s).ledgerOf 2 = c.ledgerOf 2 := fun c s => hft c _ _
  have hconvert : ∀ (c : Core) (v : Nat), (c.convertSets h v).ledgerOf 2 = c.ledgerOf 2 := fun c v => by
    unfold convertSets
    dsimp only
    exact (hft _ _ _).trans (hother _ _)
  unfold loadSets
  dsimp only
  split
  · split
    · rfl
    · exact htake _ _
  · split
    · split
      · rfl
      · exact hconvert _ _
    · rfl

theorem checked_showSlots (c : Core) : Checked binKey c c.showSlots :=
  (checked_put c _ (not_binKey_cal (j := 5) (by decide))).trans (checked_put _ _ (not_binKey_cal (j := 6) (by decide)))

/-- With no key stored none is unwrapped. -/
theorem unwrapKeys_none (hk : ∀ k < 16, c.get (Obj.KeySlot.KEY k) = 0) (ha : c.get Obj.Loa.ADMIT_KEY = 0) : c.unwrapKeys = c := by
  have hfold : ∀ (f : Core → Nat → Core) (l : List Nat), (∀ i ∈ l, f c i = c) → l.foldl f c = c := fun f l => by
    induction l with
    | nil => exact fun _ => rfl
    | cons i l ih =>
      intro hl
      rw [List.foldl_cons, hl i List.mem_cons_self]
      exact ih fun j hj => hl j (List.mem_cons_of_mem _ hj)
  unfold unwrapKeys
  dsimp only
  rw [hfold _ (List.range 15) fun i hi => ?_, if_pos ha]
  exact if_pos (hk (i + 1) (by have := List.mem_range.mp hi; omega))

/-! ## The reservations (R347, R352) -/

/-- A commit of the objects' record that needs no SEQ beyond the last begins, or goes on. -/
theorem ledgerBegin_objects (h : (c.ledgerOf 2).run.isSome = true ∨ (c.ledgerOf 2).topSeq + 1 ≠ 0xFFFFFFFF) :
    Checked K c (c.ledgerBegin 2) ∧ ((c.ledgerBegin 2).ledgerOf 2).run.isSome = true := by
  have hmay : c.commitMay 2 = true := rfl
  unfold ledgerBegin
  dsimp only
  by_cases hrun : (c.ledgerOf 2).run.isSome = true
  · rw [if_pos hrun]
    exact ⟨.refl K c, hrun⟩
  · rw [if_neg hrun, if_neg (by rw [hmay]; decide), if_neg (h.resolve_left hrun), slotsMoved, if_pos rfl]
    refine ⟨checked_updLedger c 2 _, ?_⟩
    rw [ledgerOf, updLedger, Tbl.get_upd_self]
    rfl

theorem startReserved_facts {a b step : Nat} (ha : ¬ K a) (hb : ¬ K b)
    (h : (c.ledgerOf 2).run.isSome = true ∨ (c.ledgerOf 2).topSeq + 1 ≠ 0xFFFFFFFF) :
    Checked K c (c.startReserved a b step) ∧ ((c.startReserved a b step).ledgerOf 2).run.isSome = true := by
  have htouch : ∀ c : Core, c.touch.ledgerOf 2 = { c.ledgerOf 2 with dirty := true } := fun c =>
    Tbl.get_upd_self (fun _ => LedgerState.init) c.ledger 2 fun l => { l with dirty := true }
  unfold startReserved
  dsimp only
  generalize hx : ((c.put a (max (c.get b) 1)).put b (max (c.get b) 1 + step)).touch = x
  have hchecked : Checked K c x := by
    rw [← hx]
    exact ((checked_put c _ ha).trans (checked_put _ _ hb)).trans (checked_updLedger _ 2 _)
  have hledger : x.ledgerOf 2 = { c.ledgerOf 2 with dirty := true } := by
    rw [← hx, htouch]
    rfl
  obtain ⟨h1, h2⟩ := ledgerBegin_objects (K := K) (c := x) (by rw [hledger]; exact h)
  exact ⟨hchecked.trans h1, h2⟩

/-! ## The monitors (R234) -/

/-- A channel keeps the trim that its test has found, or is refused. -/
def monTested (x : SelftestResult) (c : Core) (ch : Nat) : Core :=
  match x.trims[ch]?.join with
  | some t => c.monKeep ch t.1 t.2
  | none => c.monRefuse ch

/-- The objects of a set without those that the refusal of a channel writes. -/
theorem checked_monTested (hK : ∀ k, K k → k < 0x3A2004 ∨ 0x3A2007 ≤ k) (x : SelftestResult) (c : Core) (ch : Nat) :
    (monTested x c ch).mc = c.mc ∧ (monTested x c ch).req = c.req ∧ (monTested x c ch).start = c.start ∧
    (monTested x c ch).fc = c.fc ∧ (monTested x c ch).ledger = c.ledger ∧ ∀ k, K k → (monTested x c ch).get k = c.get k := by
  unfold monTested
  split
  · refine ⟨rfl, rfl, rfl, rfl, rfl, fun k hk => monKeep_facts.2.2.2.2.2.2 k ?_⟩
    have := hK k hk
    simp only [Obj.Mon.REFUSED_MASK]
    omega
  · refine ⟨rfl, rfl, rfl, rfl, rfl, fun k hk => ?_⟩
    have := hK k hk
    rw [monRefuse, get_flag_ne _ _ (by simp only [Obj.Mon.FLAGS]; omega), get_inc_ne _ (by simp only [Obj.Mon.CAL_REFUSALS]; omega), putBit,
      get_put_ne _ _ (by simp only [Obj.Mon.REFUSED_MASK]; omega)]

/-- What a channel's test leaves of another channel. -/
theorem monTested_ne (x : SelftestResult) (c : Core) {ch i : Nat} (h : i ≠ ch) : (monTested x c ch).monOf i = c.monOf i ∧
    (monTested x c ch).bitOf Obj.Mon.REFUSED_MASK i = c.bitOf Obj.Mon.REFUSED_MASK i := by
  unfold monTested
  split
  · refine ⟨?_, ?_⟩
    · rw [monKeep, putBit, monOf_put, monOf_updMon_ne _ _ h]
    · rw [monKeep, bitOf, putBit, get_put_self, testBit_setBitTo_ne _ _ h]
      rfl
  · refine ⟨rfl, ?_⟩
    rw [monRefuse, bitOf_congr i (get_flag_ne _ _ (by decide)), bitOf_congr i (get_inc_ne _ (by decide)), bitOf, putBit, get_put_self,
      testBit_setBitTo_ne _ _ h]
    rfl

/-- All channels. -/
theorem monAll_facts (hK : ∀ k, K k → k < 0x3A2004 ∨ 0x3A2007 ≤ k) (x : SelftestResult) (c : Core) :
    (c.each 25 (monTested x)).mc = c.mc ∧ (c.each 25 (monTested x)).req = c.req ∧ (c.each 25 (monTested x)).start = c.start ∧
    (c.each 25 (monTested x)).fc = c.fc ∧ (c.each 25 (monTested x)).ledger = c.ledger ∧
    ∀ k, K k → (c.each 25 (monTested x)).get k = c.get k :=
  each_induct (fun d => d.mc = c.mc ∧ d.req = c.req ∧ d.start = c.start ∧ d.fc = c.fc ∧ d.ledger = c.ledger ∧ ∀ k, K k → d.get k = c.get k)
    25 _ c ⟨rfl, rfl, rfl, rfl, rfl, fun _ _ => rfl⟩ fun d ch _ ⟨h1, h2, h3, h4, h5, h6⟩ => by
      obtain ⟨k1, k2, k3, k4, k5, k6⟩ := checked_monTested hK x d ch
      exact ⟨k1.trans h1, k2.trans h2, k3.trans h3, k4.trans h4, k5.trans h5, fun k hk => (k6 k hk).trans (h6 k hk)⟩

/-- The channel's own trim and refusal. -/
theorem monAll_trims (x : SelftestResult) (c : Core) {ch : Nat} (hch : ch < 25) :
    (∀ t, x.trims[ch]?.join = some t → ((c.each 25 (monTested x)).monOf ch).offset = t.1 ∧ ((c.each 25 (monTested x)).monOf ch).gain = t.2 ∧
      (c.each 25 (monTested x)).bitOf Obj.Mon.REFUSED_MASK ch = false) ∧
    (x.trims[ch]?.join = none → (c.each 25 (monTested x)).bitOf Obj.Mon.REFUSED_MASK ch = true) := by
  refine each_reaches (P := fun _ => True) (Q := fun d =>
    (∀ t, x.trims[ch]?.join = some t → (d.monOf ch).offset = t.1 ∧ (d.monOf ch).gain = t.2 ∧ d.bitOf Obj.Mon.REFUSED_MASK ch = false) ∧
    (x.trims[ch]?.join = none → d.bitOf Obj.Mon.REFUSED_MASK ch = true)) hch (fun _ _ _ _ => trivial) (fun d _ => ?_)
    (fun d j hj _ ⟨h1, h2⟩ => ?_) trivial
  · unfold monTested
    refine ⟨fun t ht => ?_, fun ht => ?_⟩
    · rw [ht]
      obtain ⟨-, h1, h2, -, -, h3, -⟩ := monKeep_facts (c := d) (ch := ch) (off := t.1) (gain := t.2)
      exact ⟨h1, h2, h3⟩
    · rw [ht]
      exact monRefuse_facts.2.1
  · obtain ⟨k1, k2⟩ := monTested_ne x d (show ch ≠ j by omega)
    rw [k1, k2]
    exact ⟨h1, h2⟩

/-! ## The ports (R412 step 7) -/

/-- A port that is enabled and DOWN begins bring-up. -/
def portStarted (c : Core) (p : Nat) : Core := if c.bitOf Obj.Hr.PORT_ENABLE p && c.portState p = 0 then c.portBegin p else c

theorem checked_portStarted (c : Core) {p : Nat} (hp : p < 8)
    (hK : ∀ k, K k → k < 0x201000 ∨ 0x201800 ≤ k ∨ (k ≠ Obj.Port.PORT_STATE p ∧ k % 256 = 1)) : Checked K c (c.portStarted p) := by
  refine checked_ite ?_ (.refl K c)
  have hobjs := portBegin_kept c p
  refine ⟨?_, ?_, ?_, ?_, ?_, fun k hk => portBegin_get c p ?_ ?_ ?_ ?_⟩
  · rw [hobjs]; rfl
  · rw [hobjs]; rfl
  · rw [hobjs]; rfl
  · rw [hobjs]; rfl
  · rw [hobjs]; rfl
  all_goals
    have := hK k hk
    simp only [Obj.Port.PORT_STATE, Obj.Port.LANE_MASK_TX, Obj.Port.LANE_MASK_RX, Obj.Port.FLAGS] at this ⊢
    omega

/-- A Sail port that is enabled and DOWN begins too. -/
def sailStarted (c : Core) (k : Nat) : Core :=
  if c.isSet (Obj.SailPort.ENABLE k) && c.get (Obj.SailPort.STATE k) = 0 then c.put (Obj.SailPort.STATE k) 1 else c

theorem beginPorts_eq (c : Core) : c.beginPorts = (c.each 8 portStarted).each 4 sailStarted := rfl

theorem checked_sailStarted (c : Core) {i : Nat} (hi : i < 4) : Checked binKey c (c.sailStarted i) := by
  refine checked_ite (checked_put c 1 ?_) (.refl _ c)
  simp only [binKey, portedKey, baseKey, Obj.Dev.DEVICE_STATE, Obj.Mon.REFUSED_MASK, Obj.Hr.PORT_ENABLE, Hid.SPEED, Obj.SailPort.STATE]
  omega

/-- The objects of a set beside the states of the ports. -/
def unportedKey (k : Nat) : Prop := baseKey k ∨ k = Hid.SPEED

theorem unportedKey_far {k : Nat} (h : unportedKey k) : k < 0x201000 ∨ 0x201800 ≤ k := by
  simp only [unportedKey, baseKey, Obj.Dev.DEVICE_STATE, Obj.Mon.REFUSED_MASK, Obj.Hr.PORT_ENABLE, Hid.SPEED] at h
  omega

theorem checked_beginPorts (c : Core) : Checked unportedKey c c.beginPorts := by
  rw [beginPorts_eq]
  refine (checked_each 8 _ (fun c p hp => checked_portStarted c hp fun k hk => ?_) c).trans
    (checked_each 4 _ (fun c i hi => (checked_sailStarted c hi).mono fun k hk => ?_) _)
  · have := unportedKey_far hk
    omega
  · unfold unportedKey at hk
    unfold binKey portedKey
    tauto

/-- A port that is enabled and DOWN ends in its first step. -/
theorem beginPorts_state {p : Nat} (hp : p < 8) (hd : c.dev = Dv.selftest) (hon : c.bitOf Obj.Hr.PORT_ENABLE p = true)
    (hdown : c.portState p = 0) : c.beginPorts.portState p = 1 := by
  have hsail : ∀ d : Core, (d.each 4 sailStarted).portState p = d.portState p := fun d =>
    (checked_each 4 _ (fun c i hi => checked_sailStarted c hi) d).get _ (.inl (portedKey_portState hp))
  rw [beginPorts_eq, hsail]
  refine each_reaches (P := fun d => d.dev = Dv.selftest ∧ d.bitOf Obj.Hr.PORT_ENABLE p = true ∧ d.portState p = 0)
    (Q := fun d => d.portState p = 1) hp (fun d j hj ⟨h1, h2, h3⟩ => ?_) (fun d ⟨h1, h2, h3⟩ => ?_) (fun d j hj hlt h => ?_) ⟨hd, hon, hdown⟩
  · have hkept : Checked (fun k => k = Obj.Dev.DEVICE_STATE ∨ k = Obj.Hr.PORT_ENABLE ∨ k = Obj.Port.PORT_STATE p) d (d.portStarted j) :=
      checked_portStarted d (by omega) fun k hk => by
        simp only [Obj.Dev.DEVICE_STATE, Obj.Hr.PORT_ENABLE, Obj.Port.PORT_STATE] at hk ⊢
        omega
    exact ⟨(hkept.get _ (.inl rfl)).trans h1, (bitOf_congr p (hkept.get _ (.inr (.inl rfl)))).trans h2,
      (hkept.get _ (.inr (.inr rfl))).trans h3⟩
  · rw [portStarted, if_pos (by simp [h2, h3]), portBegin_state, portWanted, h2, h1]
    rfl
  · have hkept : Checked (fun k => k = Obj.Port.PORT_STATE p) d (d.portStarted j) :=
      checked_portStarted d hlt fun k hk => by
        simp only [Obj.Port.PORT_STATE] at hk ⊢
        omega
    exact (hkept.get _ rfl).trans h

end Core

end Sys2Proof.Machine
end

section
/-! PROOFS. SELFTEST_DONE up to the way of the start (16_states_start_sluice.md R408, R412). -/

namespace Sys2Proof.Machine

namespace Core

variable {c d e : Core} {r : StartRun} {x : SelftestResult}

/-- The records that a start reads. -/
def recordsLoaded (c : Core) : Core := (((c.takeBin.unwrapKeys).loadSets 0).loadSets 1).showSlots

/-- The reservations of a start after power-up. -/
def reservations (c : Core) (r : StartRun) (slots : Nat) : Core :=
  if r.origin = 0 then
    ((c.startReserved Obj.Sec.CHAIN_NEXT Obj.Sec.CHAIN_RESERVE (2 ^ 20)).startReserved Hid.CP_NEXT Hid.CP_RESERVE (2 ^ 16)).put
      Obj.CpFetch.SPILL_SLOTS slots
  else c

/-- The hub after SELFTEST, before its subchannels take their ways. -/
def selftestLoaded (c : Core) (x : SelftestResult) (r : StartRun) : Core :=
  ((c.startCollector.each 25 (monTested x)).recordsLoaded.reservations r
    (if c.flash.fit then (c.flash.bytes - 33 * 2 ^ 20) / 512 else 0)).beginPorts

/-- Where a start after power-up finds its half and its record in order. -/
def BootsWell (c : Core) (x : SelftestResult) (r : StartRun) : Prop :=
  r.origin = 3 ∨ (r.origin = 0 ∧ x.fuseBad = false ∧ x.millpond = none ∧ c.booted = true ∧
    (∀ h < 2, c.halfState h ≠ 3) ∧ (c.ledgerOf 2).topSeq + 1 ≠ 0xFFFFFFFF)

theorem selftestDone_eq (hs : c.start = some r) (hd : c.dev = Dv.selftest) (hx : x.checkers = []) (hb : c.BootsWell x r)
    (hrun : c.fc.running = true ∨ c.fc.held = []) :
    c.selftestDone x = if (c.selftestLoaded x r).stopAsked then c.selftestLoaded x r
      else ((c.selftestLoaded x r).classify r c.binMoved).advance := by
  have hhalf : ∀ h < 2, c.startCollector.halfState h = c.halfState h := fun h _ =>
    byteOf_congr _ _ (startCollector_get hrun (by decide))
  unfold selftestDone selftestLoaded recordsLoaded reservations
  rw [hs]
  dsimp only
  rw [if_neg (not_not.mpr hd), hx]
  rcases hb with ho | ⟨ho, hf, hm, hboot, hrec, -⟩
  · rw [if_neg (by simp [ho]), if_neg (by simp [ho])]
    simp only [ho, show ((3 : Nat) = 0) = False from by simp, if_false, List.foldl_nil]
    rfl
  · have hkeep : ∀ h < 2, (if c.startCollector.halfState h = 3 then c.startCollector.each 16 fun c i => c.goOffline (16 * h + i) false true
        else c.startCollector) = c.startCollector := fun h hh => if_neg (by rw [hhalf h hh]; exact hrec h hh)
    have hfold : [0, 1].foldl (fun c h => if c.halfState h = 3 then c.each 16 fun c i => c.goOffline (16 * h + i) false true else c) c.startCollector =
        c.startCollector := by
      rw [List.foldl_cons, hkeep 0 (by decide), List.foldl_cons, hkeep 1 (by decide), List.foldl_nil]
    rw [if_neg (by simp [hf]), if_neg (by simp [hboot]), hm]
    simp only [ho, if_true, hfold, List.foldl_nil]
    rfl

theorem startCollector_req (h : c.fc.running = true ∨ c.fc.held = []) : c.startCollector.req = c.req := by
  rw [startCollector_eq h]
  split
  · rfl
  · rw [req_pins]
    rfl

theorem startCollector_ledger (h : c.fc.running = true ∨ c.fc.held = []) : c.startCollector.ledger = c.ledger := by
  have hpins : ∀ a : Core, a.pins.ledger = a.ledger := fun a => by
    unfold pins
    dsimp only
    rw [ledger_put]
    split_ifs <;> rfl
  rw [startCollector_eq h]
  split
  · rfl
  · rw [hpins]
    rfl

/-- What the records leave; the bin of the start is SPEED_BIN. -/
theorem recordsLoaded_facts (hk : ∀ k < 16, c.get (Obj.KeySlot.KEY k) = 0) (ha : c.get Obj.Loa.ADMIT_KEY = 0) :
    Checked portedKey c c.recordsLoaded ∧ c.recordsLoaded.get Hid.SPEED = c.get Obj.Phy.SPEED_BIN ∧
    (c.recordsLoaded.ledgerOf 2).topSeq = (c.ledgerOf 2).topSeq := by
  have hspeedKey : ¬ portedKey Hid.SPEED := by
    simp only [portedKey, baseKey, Hid.SPEED, Obj.Dev.DEVICE_STATE, Obj.Mon.REFUSED_MASK, Obj.Hr.PORT_ENABLE]
    omega
  have hbin : Checked portedKey c c.takeBin := by
    unfold takeBin
    refine checked_ite (.refl _ c) ?_
    have hput := checked_put (K := portedKey) c (c.get Obj.Phy.SPEED_BIN) hspeedKey
    generalize c.put Hid.SPEED (c.get Obj.Phy.SPEED_BIN) = a at hput ⊢
    exact hput.trans (checked_updLedger a 2 _)
  have htop : (c.takeBin.ledgerOf 2).topSeq = (c.ledgerOf 2).topSeq := by
    have htouch : ∀ a : Core, (a.touch.ledgerOf 2).topSeq = (a.ledgerOf 2).topSeq := fun a => by
      rw [touch, ledgerOf, updLedger, Tbl.get_upd_self]
      rfl
    unfold takeBin
    split
    · rfl
    · rw [htouch, ledgerOf_put]
  obtain ⟨hspeed, -, -, hget⟩ := takeBin_facts c
  have hnone : c.takeBin.unwrapKeys = c.takeBin := unwrapKeys_none
    (fun k hk' => by rw [hget _ (by simp [Hid.SPEED]; omega)]; exact hk k hk') (by rw [hget _ (by decide)]; exact ha)
  unfold recordsLoaded
  rw [hnone]
  have hload : Checked binKey c.takeBin (((c.takeBin.loadSets 0).loadSets 1).showSlots) :=
    ((checked_loadSets _ 0).trans (checked_loadSets _ 1)).trans (checked_showSlots _)
  refine ⟨hbin.trans (hload.mono fun k hk => .inl hk), (hload.get _ (.inr rfl)).trans hspeed, ?_⟩
  have hshow : ∀ a : Core, a.showSlots.ledgerOf 2 = a.ledgerOf 2 := fun a => by
    rw [showSlots, ledgerOf_put, ledgerOf_put]
  rw [hshow, loadSets_ledger _ (by decide), loadSets_ledger _ (by decide), htop]

theorem reservations_checked (c : Core) (r : StartRun) (slots : Nat) (h : r.origin = 0 → (c.ledgerOf 2).topSeq + 1 ≠ 0xFFFFFFFF) :
    Checked binKey c (c.reservations r slots) := by
  have hkey : ∀ k, k = Obj.Sec.CHAIN_NEXT ∨ k = Obj.Sec.CHAIN_RESERVE ∨ k = Hid.CP_NEXT ∨ k = Hid.CP_RESERVE ∨ k = Obj.CpFetch.SPILL_SLOTS →
      ¬ binKey k := fun k hk => by
    simp only [binKey, portedKey, baseKey, Obj.Sec.CHAIN_NEXT, Obj.Sec.CHAIN_RESERVE, Hid.CP_NEXT, Hid.CP_RESERVE, Obj.CpFetch.SPILL_SLOTS,
      Obj.Dev.DEVICE_STATE, Obj.Mon.REFUSED_MASK, Obj.Hr.PORT_ENABLE, Hid.SPEED] at hk ⊢
    omega
  unfold reservations
  split
  · next ho =>
    obtain ⟨h1, h2⟩ := startReserved_facts (K := binKey) (step := 2 ^ 20) (hkey _ (.inl rfl)) (hkey _ (.inr (.inl rfl))) (.inr (h ho))
    obtain ⟨h3, -⟩ := startReserved_facts (K := binKey) (step := 2 ^ 16) (hkey _ (.inr (.inr (.inl rfl)))) (hkey _ (.inr (.inr (.inr (.inl rfl)))))
      (.inl h2)
    exact (h1.trans h3).trans (checked_put _ _ (hkey _ (.inr (.inr (.inr (.inr rfl))))))
  · exact .refl _ c

/-- The hub after SELFTEST. -/
structure Tested (x : SelftestResult) (c d : Core) : Prop where
  mc : d.mc = c.mc
  req : d.req = c.req
  start : d.start = c.start
  running : d.fc.running = true
  dev : d.dev = c.dev
  scState : ∀ n < 32, d.scState n = c.scState n
  speed : d.get Hid.SPEED = c.get Obj.Phy.SPEED_BIN
  trims : ∀ ch < 25, ∀ t, x.trims[ch]?.join = some t →
    (d.monOf ch).offset = t.1 ∧ (d.monOf ch).gain = t.2 ∧ d.bitOf Obj.Mon.REFUSED_MASK ch = false
  refused : ∀ ch < 25, x.trims[ch]?.join = none → d.bitOf Obj.Mon.REFUSED_MASK ch = true
  ports : ∀ p < 8, c.bitOf Obj.Hr.PORT_ENABLE p = true → c.portState p = 0 → d.portState p = 1

theorem selftestLoaded_tested (hd : c.dev = Dv.selftest) (hb : c.BootsWell x r) (hrun : c.fc.running = true ∨ c.fc.held = [])
    (hk : ∀ k < 16, c.get (Obj.KeySlot.KEY k) = 0) (ha : c.get Obj.Loa.ADMIT_KEY = 0) : Tested x c (c.selftestLoaded x r) := by
  have hfc := fcOnly_startCollector hrun
  have hget := fun k hk => startCollector_get (k := k) hrun hk
  have hrunning := startCollector_running hrun
  have hreq := startCollector_req hrun
  have hledger := startCollector_ledger hrun
  unfold selftestLoaded
  generalize (if c.flash.fit then (c.flash.bytes - 33 * 2 ^ 20) / 512 else 0) = slots
  generalize c.startCollector = c1 at hfc hget hrunning hreq hledger ⊢
  obtain ⟨m1, m2, m3, m4, m5, m6⟩ := monAll_facts (K := fun k => k < 0x3A2004 ∨ 0x3A2007 ≤ k) (fun _ h => h) x c1
  have htrims := fun ch (hch : ch < 25) => monAll_trims x c1 (ch := ch) hch
  generalize c1.each 25 (monTested x) = c4 at m1 m2 m3 m4 m5 m6 htrims ⊢
  have hget4 : ∀ k, k ≠ Obj.Fc.PIN_STATE → (k < 0x3A2004 ∨ 0x3A2007 ≤ k) → c4.get k = c.get k := fun k h1 h2 => (m6 k h2).trans (hget k h1)
  obtain ⟨l1, l2, l3⟩ := recordsLoaded_facts (c := c4)
    (fun k hk' => (hget4 _ (by simp; omega) (.inr (by simp; omega))).trans (hk k hk'))
    ((hget4 _ (by decide) (.inl (by decide))).trans ha)
  have hbegin := reservations_checked c4.recordsLoaded r slots fun ho => by
    rw [l3, ledgerOf, m5, hledger]
    rcases hb with h | ⟨-, -, -, -, -, h⟩
    · omega
    · exact h
  generalize c4.recordsLoaded = c6 at l1 l2 hbegin ⊢
  generalize c6.reservations r slots = c7 at hbegin ⊢
  have hload : Checked portedKey c4 c7 := l1.trans (hbegin.mono fun k hk => .inl hk)
  have hports := checked_beginPorts c7
  have hbase : ∀ k, baseKey k → c7.beginPorts.get k = c4.get k := fun k hk => (hports.get k (.inl hk)).trans (hload.get k (.inl hk))
  have hrefused : ∀ ch, c7.beginPorts.bitOf Obj.Mon.REFUSED_MASK ch = c4.bitOf Obj.Mon.REFUSED_MASK ch := fun ch =>
    bitOf_congr ch (hbase _ (.inr (.inl rfl)))
  have hmon : ∀ ch, c7.beginPorts.monOf ch = c4.monOf ch := fun ch => by rw [monOf, hports.mon, hload.mon, monOf]
  have hdev : c7.dev = Dv.selftest := ((hload.get _ (.inl (.inl rfl))).trans (hget4 _ (by decide) (.inr (by decide)))).trans hd
  refine ⟨?_, ?_, ?_, ?_, ?_, fun n hn => ?_, ?_, fun ch hch t ht => ?_, fun ch hch ht => ?_, fun p hp hon hdown => ?_⟩
  · rw [hports.mc, hload.mc, m1, hfc.mc]
  · rw [hports.req, hload.req, m2, hreq]
  · rw [hports.start, hload.start, m3, hfc.start]
  · rw [hports.running, hload.running, m4, hrunning]
  · exact (hbase _ (.inl rfl)).trans (hget4 _ (by decide) (.inr (by decide)))
  · exact (hbase _ (baseKey_scState hn)).trans (hget4 _ (by simp; omega) (.inr (by simp; omega)))
  · rw [hports.get _ (.inr rfl), hbegin.get _ (.inr rfl), l2, hget4 _ (by decide) (.inl (by decide))]
  · rw [hmon, hrefused]
    exact (htrims ch hch).1 t ht
  · rw [hrefused]
    exact (htrims ch hch).2 ht
  · refine beginPorts_state hp hdev ?_ ?_
    · rw [bitOf_congr p (hload.get _ (.inl (.inr (.inr (.inl rfl))))), bitOf_congr p (hget4 _ (by decide) (.inl (by decide)))]
      exact hon
    · exact ((hload.get _ (portedKey_portState hp)).trans (hget4 _ (by simp; omega) (.inl (by simp; omega)))).trans hdown

end Core

end Sys2Proof.Machine
end

section
/-! PROOFS. The ways that a start's subchannels take (16_states_start_sluice.md R411). -/

namespace Sys2Proof.Machine

namespace Core

variable {c d e : Core} {n i : Nat}

/-! ## What the ways leave -/

/-- `d` holds the trims and calibration sets of `c`, and its collector runs as that of `c`. -/
structure TrimsKept (c d : Core) : Prop where
  mon : d.mon = c.mon
  running : d.fc.running = c.fc.running
  sets : ∀ i, (d.ftOf i).sets = (c.ftOf i).sets

theorem TrimsKept.refl (c : Core) : TrimsKept c c := ⟨rfl, rfl, fun _ => rfl⟩
theorem TrimsKept.trans (h : TrimsKept c d) (h' : TrimsKept d e) : TrimsKept c e :=
  ⟨h'.mon.trans h.mon, h'.running.trans h.running, fun i => (h'.sets i).trans (h.sets i)⟩

theorem trimsKept_put (c : Core) (k v : Nat) : TrimsKept c (c.put k v) := ⟨mon_put c k v, by rw [fc_put], fun i => by rw [ftOf_put]⟩

theorem trimsKept_sluice (h : c.SluiceOnly d) : TrimsKept c d := ⟨by rw [h.1], by rw [h.1], fun i => by rw [ftOf, h.1, ftOf]⟩

theorem TrimsKept.monOf (h : TrimsKept c d) (ch : Nat) : d.monOf ch = c.monOf ch := by rw [Core.monOf, h.mon, Core.monOf]

/-- Whether a subchannel has a set to restore hangs on its sets and four objects. -/
theorem hasSet_congr (h : ∀ i, (d.ftOf i).sets = (c.ftOf i).sets) (h1 : d.get Obj.Cal.RESTORE_SOURCE = c.get Obj.Cal.RESTORE_SOURCE)
    (h2 : d.get Obj.Dev.FORCE_COLD = c.get Obj.Dev.FORCE_COLD) (h3 : d.get Hid.SPEED = c.get Hid.SPEED)
    (h4 : d.get Obj.Phy.SPEED_BIN = c.get Obj.Phy.SPEED_BIN) (n : Nat) : d.hasSet n = c.hasSet n := by
  have hvalid : d.setValid = c.setValid := by
    funext s
    rw [setValid, setValid, speedNow, speedNow, h3, h4]
  rw [hasSet, hasSet, validSets, validSets, h n, hvalid, byteOf_congr _ _ h1, isSet, h2, isSet]

/-! ## Reset of what neither rests nor is out -/

theorem trimsKept_resetDevice (c : Core) (n : Nat) : TrimsKept c (c.resetDevice n) := by
  have hbase : TrimsKept c (c.resetBase n) := by
    obtain ⟨-, -, -, -, -, hfc, -⟩ := resetBase_facts c n
    refine ⟨rfl, by rw [hfc], fun i => ?_⟩
    have hft : ∀ a : Core, ((a.updFt n fun f => { f with capture := none }).ftOf i).sets = (a.ftOf i).sets := fun a => by
      by_cases hi : i = n
      · subst hi
        rw [ftOf_updFt_self]
      · rw [ftOf_updFt_ne _ _ hi]
    exact hft _
  exact hbase.trans (trimsKept_sluice (resetDevice_sluiceOnly c n))

theorem resetDevice_mc (c : Core) (n : Nat) : (c.resetDevice n).mcOf n = (c.mcOf n).reset ∧ ∀ i, i ≠ n → (c.resetDevice n).mcOf i = c.mcOf i := by
  obtain ⟨h1, h2, -⟩ := resetBase_facts c n
  have hmc : ∀ i, (c.resetDevice n).mcOf i = (c.resetBase n).mcOf i := fun i => by
    rw [mcOf, (resetDevice_sluiceOnly c n).1, mcOf]
  exact ⟨(hmc n).trans h1, fun i hi => (hmc i).trans (h2 i hi)⟩

/-- A subchannel that neither rests nor is out starts from its reset. -/
def resetAwake (c : Core) (n : Nat) : Core :=
  if c.scOut n || c.resting n then c else (if (c.mcOf n).inReset then c else c.resetDevice n).put (Obj.Train.TRAIN_STATE n) 0

theorem resetAwake_trimsKept (c : Core) (n : Nat) : TrimsKept c (c.resetAwake n) := by
  unfold resetAwake
  split
  · exact .refl c
  · refine TrimsKept.trans ?_ (trimsKept_put _ _ _)
    split
    · exact .refl c
    · exact trimsKept_resetDevice c n

theorem resetAwake_get (c : Core) (n : Nat) {k : Nat} (hk : k ≠ Obj.Train.TRAIN_STATE n) : (c.resetAwake n).get k = c.get k := by
  unfold resetAwake
  split
  · rfl
  · rw [get_put_ne _ _ hk]
    split
    · rfl
    · exact resetDevice_get c n k

theorem resetAwake_start (c : Core) (n : Nat) : (c.resetAwake n).start = c.start := by
  unfold resetAwake
  split
  · rfl
  · rw [start_put]
    split
    · rfl
    · exact start_resetDevice c n

/-- The parts of a controller that say whether its subchannel is out or rests. -/
def restParts (m : McState) : Bool × Nat := (m.held, m.srAt)

theorem resetAwake_rest (c : Core) (n i : Nat) : restParts ((c.resetAwake n).mcOf i) = restParts (c.mcOf i) := by
  obtain ⟨h1, h2⟩ := resetDevice_mc c n
  unfold resetAwake
  split
  · rfl
  · next h =>
    rw [mcOf_put]
    split
    · rfl
    · by_cases hi : i = n
      · subst hi
        have hat : (c.mcOf i).srAt = 0 := by
          simp [resting] at h
          exact h.2.2
        have hreset : (c.mcOf i).reset.held = (c.mcOf i).held ∧ (c.mcOf i).reset.srAt = 0 := ⟨rfl, rfl⟩
        rw [h1, restParts, restParts, hreset.1, hreset.2, hat]
      · rw [h2 i hi]

/-- All subchannels. -/
def resetAll (c : Core) : Core := c.each 32 resetAwake

theorem resetAll_frame (c : Core) : TrimsKept c c.resetAll ∧ c.resetAll.start = c.start ∧
    (∀ k, (∀ i, k ≠ Obj.Train.TRAIN_STATE i) → c.resetAll.get k = c.get k) ∧ ∀ i, restParts (c.resetAll.mcOf i) = restParts (c.mcOf i) :=
  each_induct (fun d => TrimsKept c d ∧ d.start = c.start ∧ (∀ k, (∀ i, k ≠ Obj.Train.TRAIN_STATE i) → d.get k = c.get k) ∧
    ∀ i, restParts (d.mcOf i) = restParts (c.mcOf i)) 32 _ c ⟨.refl c, rfl, fun _ _ => rfl, fun _ => rfl⟩ fun d j _ ⟨h1, h2, h3, h4⟩ =>
      ⟨h1.trans (resetAwake_trimsKept d j), (resetAwake_start d j).trans h2, fun k hk => (resetAwake_get d j (hk j)).trans (h3 k hk),
        fun i => (resetAwake_rest d j i).trans (h4 i)⟩

theorem out_of_restParts (hm : restParts (d.mcOf n) = restParts (c.mcOf n)) (hs : d.scState n = c.scState n) :
    d.scOut n = c.scOut n ∧ d.resting n = c.resting n := by
  obtain ⟨h1, h2⟩ := Prod.ext_iff.mp hm
  have h1' : (d.mcOf n).held = (c.mcOf n).held := h1
  have h2' : (d.mcOf n).srAt = (c.mcOf n).srAt := h2
  exact ⟨by rw [scOut, scOffline, hs, h1', scOut, scOffline], by rw [resting, hs, h2', resting]⟩

theorem resetAll_ways (c : Core) (n : Nat) : c.resetAll.scOut n = c.scOut n ∧ c.resetAll.resting n = c.resting n := by
  obtain ⟨-, -, h3, h4⟩ := resetAll_frame c
  exact out_of_restParts (h4 n) (h3 _ fun i => by simp; omega)

/-- A subchannel that neither rests nor is out shows no training. -/
theorem resetAll_untrained (hn : n < 32) (ho : c.scOut n = false) (hr : c.resting n = false) : c.resetAll.trainState n = 0 := by
  refine each_reaches (P := fun d => d.scOut n = false ∧ d.resting n = false) (Q := fun d => d.trainState n = 0) hn (fun d j hj ⟨h1, h2⟩ => ?_)
    (fun d ⟨h1, h2⟩ => ?_) (fun d j hj _ h => (resetAwake_get d j (by simp; omega)).trans h) ⟨ho, hr⟩
  · obtain ⟨k1, k2⟩ := out_of_restParts (resetAwake_rest d j n) (show (d.resetAwake j).scState n = d.scState n from resetAwake_get d j (by simp; omega))
    exact ⟨k1.trans h1, k2.trans h2⟩
  · rw [resetAwake, if_neg (by simp [h1, h2])]
    exact get_put_self _ _ _

end Core

end Sys2Proof.Machine
end

section
/-! PROOFS. The end of SELFTEST (16_states_start_sluice.md R408, R411, R412). -/

namespace Sys2Proof.Machine

namespace Core

variable {c d e : Core} {n i : Nat} {r : StartRun}

/-! ## Credits and exits -/

/-- The restores of a mask ask for their credits. -/
def askRestores (c : Core) (m : Nat) : Core := c.each 32 fun c n => if m.testBit n then c.askQueued Ck.restore n 800 else c

/-- The exits of a mask are demanded. -/
def demandExits (c : Core) (m : Nat) : Core := c.each 32 fun c n => if m.testBit n then c.demandExit n else c

theorem waits_askQueued (c : Core) (i mw : Nat) : (c.askQueued Ck.restore i mw).waits Ck.restore n = (c.waits Ck.restore n || i == n) := by
  rw [waits, waits]
  show (c.sluice.queue ++ [_]).any _ = _
  rw [List.any_append, List.any_cons, List.any_nil, Bool.or_false]
  rfl

theorem askRestores_sluice (c : Core) (m : Nat) : c.SluiceOnly (c.askRestores m) := by
  have hask : ∀ (d : Core) (j : Nat), d.SluiceOnly (d.askQueued Ck.restore j 800) := fun d j => sluiceOnly_withSluice d _
  refine each_induct (fun d => c.SluiceOnly d) 32 _ c (.refl c) fun d j _ h => ?_
  split
  · exact h.trans (hask d j)
  · exact h

theorem askRestores_objs (c : Core) (m : Nat) : (c.askRestores m).objs = c.objs := by
  refine each_objs 32 _ c fun d j => ?_
  split
  · rfl
  · rfl

theorem askRestores_waits (c : Core) {m : Nat} (hn : n < 32) (h : m.testBit n = true) : (c.askRestores m).waits Ck.restore n = true := by
  refine each_reaches (P := fun _ => True) (Q := fun d => d.waits Ck.restore n = true) hn (fun _ _ _ _ => trivial) (fun d _ => ?_)
    (fun d j _ _ hd => ?_) trivial
  · rw [if_pos h, waits_askQueued, beq_self_eq_true, Bool.or_true]
  · split
    · rw [waits_askQueued, hd, Bool.true_or]
    · exact hd

/-- What a demand leaves. -/
theorem demandExit_frame (c : Core) (n : Nat) : (c.demandExit n).objs = c.objs ∧ (c.demandExit n).sluice = c.sluice ∧
    TrimsKept c (c.demandExit n) ∧ (∀ i, restParts ((c.demandExit n).mcOf i) = restParts (c.mcOf i)) ∧
    (∀ i, (c.mcOf i).srExiting = true → ((c.demandExit n).mcOf i).srExiting = true) ∧
    (c.resting n = true → ((c.demandExit n).mcOf n).srExiting = true) := by
  unfold demandExit
  split
  · next h =>
    refine ⟨rfl, rfl, .refl c, fun _ => rfl, fun _ h => h, fun hr => ?_⟩
    have hrest : (c.scState n = 2 || (c.mcOf n).srAt ≠ 0) = true := hr
    rw [hrest] at h
    simpa using h
  · have hmc : ∀ (d : Core) (q : List Nat) (i : Nat), ({ d with srQueue := q } : Core).mcOf i = d.mcOf i := fun _ _ _ => rfl
    refine ⟨rfl, rfl, ⟨rfl, rfl, fun _ => rfl⟩, fun i => ?_, fun i hi => ?_, fun _ => ?_⟩
    · rw [hmc, updMc]
      by_cases h : i = n
      · subst h
        rw [mcOf_setMc_self]
        rfl
      · rw [mcOf_setMc_ne _ _ h]
    · rw [hmc, updMc]
      by_cases h : i = n
      · subst h
        rw [mcOf_setMc_self]
      · rw [mcOf_setMc_ne _ _ h]
        exact hi
    · rw [hmc, updMc, mcOf_setMc_self]

theorem demandExits_frame (c : Core) (m : Nat) : (c.demandExits m).objs = c.objs ∧ (c.demandExits m).sluice = c.sluice ∧
    TrimsKept c (c.demandExits m) ∧ ∀ i, restParts ((c.demandExits m).mcOf i) = restParts (c.mcOf i) := by
  refine each_induct (fun d => d.objs = c.objs ∧ d.sluice = c.sluice ∧ TrimsKept c d ∧ ∀ i, restParts (d.mcOf i) = restParts (c.mcOf i)) 32 _ c
    ⟨rfl, rfl, .refl c, fun _ => rfl⟩ fun d j _ ⟨h1, h2, h3, h4⟩ => ?_
  split
  · obtain ⟨k1, k2, k3, k4, -⟩ := demandExit_frame d j
    exact ⟨k1.trans h1, k2.trans h2, h3.trans k3, fun i => (k4 i).trans (h4 i)⟩
  · exact ⟨h1, h2, h3, h4⟩

theorem demandExits_exiting (c : Core) {m : Nat} (hn : n < 32) (h : m.testBit n = true) (hr : c.resting n = true) :
    ((c.demandExits m).mcOf n).srExiting = true := by
  refine each_reaches (P := fun d => d.resting n = true) (Q := fun d => (d.mcOf n).srExiting = true) hn (fun d j _ hd => ?_) (fun d hd => ?_)
    (fun d j _ _ hd => ?_) hr
  · split
    · obtain ⟨k1, -, -, k4, -⟩ := demandExit_frame d j
      rw [(out_of_restParts (k4 n) (by rw [scState, get, k1]; rfl)).2]
      exact hd
    · exact hd
  · rw [if_pos h]
    exact (demandExit_frame d n).2.2.2.2.2 hd
  · split
    · exact (demandExit_frame d j).2.2.2.2.1 n hd
    · exact hd

/-! ## The ways -/

/-- The subchannels that a start takes out of self-refresh, … -/
def exitMask (c : Core) : Nat := maskOf 32 fun n => !(c.scOut n) && c.resting n

/-- … restores, … -/
def restoreMask (c : Core) (moved : Bool) : Nat := maskOf 32 fun n => !(c.scOut n) && !(c.resting n) && c.hasSet n && !moved

/-- … and trains. -/
def trainMask (c : Core) (moved : Bool) : Nat := maskOf 32 fun n => !(c.scOut n) && (moved || (!(c.resting n) && !(c.hasSet n)))

/-- The start with the ways of its subchannels. -/
def waysRun (c : Core) (r : StartRun) (moved : Bool) : StartRun :=
  { r with exits := c.exitMask, restores := c.restoreMask moved, trains := c.trainMask moved }

/-- The hub with the ways begun, from one whose subchannels are reset. -/
def waysTaken (c : Core) (r : StartRun) (moved : Bool) : Core :=
  ((c.askRestores (c.restoreMask moved)).demandExits c.exitMask).withStart (some (c.waysRun r moved))

theorem classify_eq (c : Core) (r : StartRun) (moved : Bool) : c.classify r moved =
    (c.resetAll.waysTaken r moved).setDev
      (if c.resetAll.exitMask = 0 ∧ c.resetAll.restoreMask moved = 0 then Dv.train else Dv.restore) := by
  have hcases : c.classify r moved = if c.resetAll.exitMask = 0 && c.resetAll.restoreMask moved = 0 then
      (c.resetAll.waysTaken r moved).setDev Dv.train else (c.resetAll.waysTaken r moved).setDev Dv.restore := rfl
  rw [hcases]
  by_cases h : c.resetAll.exitMask = 0 ∧ c.resetAll.restoreMask moved = 0
  · rw [if_pos h, if_pos (by simp [h.1, h.2])]
  · rw [if_neg h, if_neg (by simpa using h)]

theorem waysTaken_facts (c : Core) (r : StartRun) (moved : Bool) : (c.waysTaken r moved).start = some (c.waysRun r moved) ∧
    (∀ k, (c.waysTaken r moved).get k = c.get k) ∧ TrimsKept c (c.waysTaken r moved) ∧
    (∀ n < 32, c.exitMask.testBit n = true → ((c.waysTaken r moved).mcOf n).srExiting = true) ∧
    ∀ n < 32, (c.restoreMask moved).testBit n = true → (c.waysTaken r moved).waits Ck.restore n = true := by
  have hask := askRestores_sluice c (c.restoreMask moved)
  have hobjs := askRestores_objs c (c.restoreMask moved)
  have hwaits := fun n (hn : n < 32) h => askRestores_waits (n := n) c (m := c.restoreMask moved) hn h
  unfold waysTaken
  generalize c.waysRun r moved = run
  generalize c.askRestores (c.restoreMask moved) = a at hask hobjs hwaits ⊢
  obtain ⟨h1, h2, h3, -⟩ := demandExits_frame a c.exitMask
  have hexits := fun n (hn : n < 32) h hr => demandExits_exiting (n := n) a (m := c.exitMask) hn h hr
  generalize a.demandExits c.exitMask = b at h1 h2 h3 hexits ⊢
  have hstart : (b.withStart (some run)).start = some run ∧ (∀ k, (b.withStart (some run)).get k = b.get k) ∧
      TrimsKept b (b.withStart (some run)) ∧ (∀ n, (b.withStart (some run)).mcOf n = b.mcOf n) ∧
      ∀ n, (b.withStart (some run)).waits Ck.restore n = b.waits Ck.restore n := ⟨rfl, fun _ => rfl, ⟨rfl, rfl, fun _ => rfl⟩, fun _ => rfl, fun _ => rfl⟩
  obtain ⟨k1, k2, k3, k4, k5⟩ := hstart
  refine ⟨k1, fun k => ?_, ((trimsKept_sluice hask).trans h3).trans k3, fun n hn hbit => ?_, fun n hn hbit => ?_⟩
  · rw [k2, get, h1, hobjs, get]
  · rw [k4]
    refine hexits n hn hbit ?_
    have hrest : c.resting n = true := by
      rw [exitMask, testBit_maskOf, Bool.and_eq_true, Bool.and_eq_true] at hbit
      exact hbit.2.2
    have hmc : a.mcOf n = c.mcOf n := by rw [mcOf, hask.1, mcOf]
    rw [resting, scState, get, hobjs, hmc]
    exact hrest
  · rw [k5, waits, h2]
    exact hwaits n hn hbit

/-! ## The start goes on -/

theorem trimsKept_setDev (c : Core) (v : Nat) : TrimsKept c (c.setDev v) := by
  have hpins : ∀ a : Core, TrimsKept a a.pins := fun a =>
    ⟨(fcOnly_pins a).mon, by rw [pins_fc], fun i => by rw [(fcOnly_pins a).ftOf]⟩
  have hask : ∀ (a : Core) (q : Req), TrimsKept a (a.ask q) := fun _ _ => ⟨rfl, rfl, fun _ => rfl⟩
  unfold setDev
  split
  · exact .refl c
  · refine .trans ?_ (hask _ _)
    refine .trans ?_ (hpins _)
    exact (((trimsKept_put c _ _).trans (trimsKept_put _ _ _)).trans (trimsKept_put _ _ _)).trans (trimsKept_put _ _ _)

theorem trimsKept_queued (c : Core) (q : List Nat) (g : Nat → DdrState → DdrState) : TrimsKept c (c.queued q g) := by
  rw [queued_withTrains]
  exact ⟨rfl, rfl, fun _ => rfl⟩

theorem trimsKept_finishStart (c : Core) (r : StartRun) : TrimsKept c (c.finishStart r) := by
  have htouch : ∀ a : Core, TrimsKept a a.touch := fun _ => ⟨rfl, rfl, fun _ => rfl⟩
  have hwith : ∀ a : Core, TrimsKept a (a.withStart none) := fun _ => ⟨rfl, rfl, fun _ => rfl⟩
  unfold finishStart
  dsimp only
  refine .trans ?_ (trimsKept_setDev _ _)
  refine .trans ?_ (hwith _)
  have hput := (trimsKept_put c Obj.Dev.START_KIND (if r.origin = 0 then (if r.cold then 0 else 1) else r.origin)).trans
    (trimsKept_put _ Obj.Dev.START_TIME_US (sat 32 ((c.tick - r.begun) * 2 / 1000)))
  generalize (c.put Obj.Dev.START_KIND _).put Obj.Dev.START_TIME_US _ = a at hput ⊢
  split
  · exact (hput.trans (trimsKept_put _ _ _)).trans (htouch _)
  · exact hput

end Core

end Sys2Proof.Machine
end

section
/-! PROOFS. The state that a start enters by the ways of its subchannels (16_states_start_sluice.md R408, R411). -/

namespace Sys2Proof.Machine

theorem maskOf_congr {w : Nat} {f g : Nat → Bool} (h : ∀ i < w, f i = g i) : maskOf w f = maskOf w g := by
  refine Nat.eq_of_testBit_eq fun i => ?_
  rw [testBit_maskOf, testBit_maskOf]
  by_cases hi : i < w
  · rw [h i hi]
  · simp [hi]

theorem maskOf_eq_zero {w : Nat} {f : Nat → Bool} : maskOf w f = 0 ↔ ∀ i < w, f i = false := by
  refine ⟨fun h i hi => ?_, fun h => Nat.eq_of_testBit_eq fun i => ?_⟩
  · have hbit := testBit_maskOf w f i
    rw [h, Nat.zero_testBit, decide_eq_true hi, Bool.true_and] at hbit
    exact hbit.symm
  · rw [testBit_maskOf, Nat.zero_testBit]
    by_cases hi : i < w
    · rw [h i hi, Bool.and_false]
    · simp [hi]

namespace Core

variable {c d e : Core} {n i : Nat} {r : StartRun} {moved : Bool}

/-- A start in TRAIN without trainings ends. -/
theorem advance_train_ends (hs : c.start = some r) (hd : c.dev = Dv.train) (ht : r.trains = 0) : c.advance = c.finishStart r := by
  rw [advance, startProgress, hs]
  dsimp only
  rw [if_neg (by simp [hd]), if_pos (by simp [hd, ht]), trainPhase, start_finishStart]

/-- An object that no way of a start writes. -/
def wayKept (k : Nat) : Prop :=
  ¬ entryKey k ∧ (∀ i, k ≠ Obj.Train.TRAIN_STATE i) ∧ k ≠ Obj.Dev.START_KIND ∧ k ≠ Obj.Dev.START_TIME_US ∧ k ≠ Obj.Dev.FORCE_COLD

/-- The masks of a start's ways, by what counts as a set to restore from. -/
structure Ways (c : Core) (sets : Nat → Bool) (moved : Bool) (exits restores trains : Nat) : Prop where
  exits : exits = maskOf 32 fun n => !(c.scOut n) && c.resting n
  restores : restores = maskOf 32 fun n => !(c.scOut n) && !(c.resting n) && sets n && !moved
  trains : trains = maskOf 32 fun n => !(c.scOut n) && (moved || (!(c.resting n) && !(sets n)))

/-- A start of which no subchannel is left to take a way has none in any of its masks. -/
theorem Ways.none {sets sets' : Nat → Bool} {exits restores trains : Nat} (h0 : Ways c sets moved 0 0 0)
    (h : Ways c sets' moved exits restores trains) : exits = 0 ∧ restores = 0 ∧ trains = 0 := by
  obtain ⟨h1, h2, h3⟩ := h0
  have hout : ∀ n < 32, c.scOut n = true := fun n hn => by
    have k1 := maskOf_eq_zero.mp h1.symm n hn
    have k2 := maskOf_eq_zero.mp h2.symm n hn
    have k3 := maskOf_eq_zero.mp h3.symm n hn
    by_contra h
    have ho := Bool.eq_false_iff.mpr h
    rw [ho, Bool.not_false, Bool.true_and] at k1
    simp only [ho, k1, Bool.not_false, Bool.true_and, Bool.and_eq_false_iff, Bool.or_eq_false_iff, Bool.not_eq_false'] at k2 k3
    obtain ⟨hmoved, hset⟩ := k3
    simp [hmoved, hset] at k2
  obtain ⟨k1, k2, k3⟩ := h
  refine ⟨k1.trans (maskOf_eq_zero.mpr fun n hn => ?_), k2.trans (maskOf_eq_zero.mpr fun n hn => ?_), k3.trans (maskOf_eq_zero.mpr fun n hn => ?_)⟩
  all_goals
    rw [hout n hn]
    rfl

theorem ways_resetAll (c : Core) (moved : Bool) :
    Ways c c.hasSet moved c.resetAll.exitMask (c.resetAll.restoreMask moved) (c.resetAll.trainMask moved) := by
  obtain ⟨h1, -, h3, -⟩ := resetAll_frame c
  have hset : ∀ n, c.resetAll.hasSet n = c.hasSet n := hasSet_congr h1.sets (h3 _ fun i => by simp; omega) (h3 _ fun i => by simp; omega)
    (h3 _ fun i => by simp [Hid.SPEED]; omega) (h3 _ fun i => by simp; omega)
  refine ⟨maskOf_congr fun n _ => ?_, maskOf_congr fun n _ => ?_, maskOf_congr fun n _ => ?_⟩
  · rw [(resetAll_ways c n).1, (resetAll_ways c n).2]
  · rw [(resetAll_ways c n).1, (resetAll_ways c n).2, hset]
  · rw [(resetAll_ways c n).1, (resetAll_ways c n).2, hset]

/-- The hub as the ways of a start begin: the state it enters, its masks, and what it has asked. -/
structure Begun (r : StartRun) (exits restores trains : Nat) (d : Core) : Prop where
  takes : exits ≠ 0 ∨ restores ≠ 0 → d.dev = Dv.restore ∧ d.start = some { r with exits := exits, restores := restores, trains := trains } ∧
    (∀ n < 32, exits.testBit n = true → (d.mcOf n).srExiting = true) ∧ ∀ n < 32, restores.testBit n = true → d.waits Ck.restore n = true
  trains : exits = 0 → restores = 0 → trains ≠ 0 → d.dev = Dv.train ∧
    d.start = some { r with exits := 0, restores := 0, trains := trains } ∧
    ∀ n < 32, trains.testBit n = true → d.trainState n = 1 ∧ d.waits Ck.train n = true

/-- With subchannels to take out or to restore the device waits in RESTORE. -/
theorem begun_restore {exits restores trains : Nat} (hs : c.start = some { r with exits := exits, restores := restores, trains := trains })
    (hl : c.dev ≠ Dv.lockout) (hx : ∀ n < 32, exits.testBit n = true → (c.mcOf n).srExiting = true)
    (hw : ∀ n < 32, restores.testBit n = true → c.waits Ck.restore n = true) (h : exits ≠ 0 ∨ restores ≠ 0) :
    (c.setDev Dv.restore).advance = c.setDev Dv.restore ∧ Begun r exits restores trains (c.setDev Dv.restore) := by
  obtain ⟨hmc, hsluice, -, -, hstart, -⟩ := setDev_fields c Dv.restore
  have hdev := dev_setDev c Dv.restore hl
  refine ⟨advance_waits (hstart.trans hs) hdev h, fun _ => ⟨hdev, hstart.trans hs, fun n hn hb => ?_, fun n hn hb => ?_⟩, fun he hr _ => ?_⟩
  · rw [mcOf, hmc]
    exact hx n hn hb
  · rw [waits, hsluice]
    exact hw n hn hb
  · exact absurd h (by simp [he, hr])

/-- With some to train alone it enters TRAIN. -/
theorem begun_train {trains : Nat} (hs : c.start = some { r with exits := 0, restores := 0, trains := trains }) (hl : c.dev ≠ Dv.lockout)
    (ht : trains ≠ 0) (h0 : ∀ n < 32, trains.testBit n = true → c.trainState n = 0) :
    (c.setDev Dv.train).advance = (c.setDev Dv.train).queued ((c.setDev Dv.train).untrained trains) (c.setDev Dv.train).freshRun ∧
    Begun r 0 0 trains (c.setDev Dv.train).advance := by
  have hstart := (setDev_fields c Dv.train).2.2.2.2.1.trans hs
  have hdev := dev_setDev c Dv.train hl
  have heq := advance_train hstart hdev ht
  refine ⟨heq, fun h => absurd h (by simp), fun _ _ _ => ?_⟩
  rw [heq]
  refine ⟨(get_queued _ _ _ _ fun i _ => by simp; omega).trans hdev, (queued_fields _ _ _).1.trans hstart, fun n hn hb => ?_⟩
  have hstate : (c.setDev Dv.train).trainState n = 0 := (setDev_get _ _ (by simp [entryKey]; omega)).trans (h0 n hn hb)
  have hmem : n ∈ (c.setDev Dv.train).untrained trains := List.mem_filter.mpr ⟨List.mem_range.mpr hn, by simp [toTrain, hb, hstate]⟩
  exact ⟨trainState_queued_mem _ _ _ (.inl hmem), waits_queued _ (.inl hmem)⟩

/-- The ways of a start's subchannels. -/
theorem classify_advance (hd : c.dev = Dv.selftest) (r : StartRun) (moved : Bool) : TrimsKept c (c.classify r moved).advance ∧
    (∀ k, wayKept k → (c.classify r moved).advance.get k = c.get k) ∧
    ∀ exits restores trains, Ways c (c.classify r moved).advance.hasSet moved exits restores trains →
      Begun r exits restores trains (c.classify r moved).advance := by
  obtain ⟨a1, -, a3, -⟩ := resetAll_frame c
  have hways := ways_resetAll c moved
  have huntrained := fun n (hn : n < 32) ho hr => resetAll_untrained (c := c) (n := n) hn ho hr
  rw [classify_eq]
  obtain ⟨w1, w2, w3, w4, w5⟩ := waysTaken_facts c.resetAll r moved
  have hrun : c.resetAll.waysRun r moved =
      { r with exits := c.resetAll.exitMask, restores := c.resetAll.restoreMask moved, trains := c.resetAll.trainMask moved } := rfl
  rw [hrun] at w1
  generalize c.resetAll.waysTaken r moved = w at w1 w2 w3 w4 w5
  generalize c.resetAll.exitMask = xs at hways w1 w4
  generalize c.resetAll.restoreMask moved = rs at hways w1 w5
  generalize c.resetAll.trainMask moved = ts at hways w1
  generalize c.resetAll = a at a1 a3 huntrained w2 w3
  have hget : ∀ k, (∀ i, k ≠ Obj.Train.TRAIN_STATE i) → w.get k = c.get k := fun k hk => (w2 k).trans (a3 k hk)
  have htrims := a1.trans w3
  have hl : w.dev ≠ Dv.lockout := by
    rw [dev, hget _ fun i => by simp; omega, ← dev, hd]
    decide
  have hsets : ∀ d : Core, TrimsKept c d → (∀ k, ¬ entryKey k → (∀ i, k ≠ Obj.Train.TRAIN_STATE i) → d.get k = c.get k) → d.hasSet = c.hasSet :=
    fun d h1 h2 => funext (hasSet_congr h1.sets (h2 _ (by simp [entryKey]) fun i => by simp; omega) (h2 _ (by simp [entryKey]) fun i => by simp; omega)
      (h2 _ (by simp [entryKey, Hid.SPEED]) fun i => by simp [Hid.SPEED]; omega) (h2 _ (by simp [entryKey]) fun i => by simp; omega))
  by_cases hx : xs = 0 ∧ rs = 0
  · rw [if_pos hx]
    obtain ⟨rfl, rfl⟩ := hx
    by_cases ht : ts = 0
    · subst ht
      have hstart := (setDev_fields w Dv.train).2.2.2.2.1.trans w1
      rw [advance_train_ends hstart (dev_setDev w Dv.train hl) rfl]
      refine ⟨(htrims.trans (trimsKept_setDev w _)).trans (trimsKept_finishStart _ _), fun k ⟨k1, k2, k3, k4, k5⟩ => ?_, fun exits restores trains h => ?_⟩
      · rw [finishStart_get _ _ k3 k4 k5 k1, setDev_get _ _ k1, hget k k2]
      · obtain ⟨rfl, rfl, rfl⟩ := hways.none h
        exact ⟨fun h => absurd h (by simp), fun _ _ h => absurd rfl h⟩
    · have htrained : ∀ n < 32, ts.testBit n = true → w.trainState n = 0 := fun n hn hb => by
        have hbit := hb
        rw [hways.trains, testBit_maskOf, decide_eq_true hn, Bool.true_and, Bool.and_eq_true, Bool.not_eq_true'] at hbit
        have hrest := maskOf_eq_zero.mp hways.exits.symm n hn
        rw [hbit.1, Bool.not_false, Bool.true_and] at hrest
        exact (w2 _).trans (huntrained n hn hbit.1 hrest)
      obtain ⟨heq, hbegun⟩ := begun_train w1 hl ht htrained
      have hkept : TrimsKept c (w.setDev Dv.train).advance := by
        rw [heq]
        exact (htrims.trans (trimsKept_setDev w _)).trans (trimsKept_queued _ _ _)
      have hgets : ∀ k, ¬ entryKey k → (∀ i, k ≠ Obj.Train.TRAIN_STATE i) → (w.setDev Dv.train).advance.get k = c.get k := fun k k1 k2 => by
        rw [heq, get_queued _ _ _ _ fun i _ => k2 i, setDev_get _ _ k1, hget k k2]
      refine ⟨hkept, fun k hk => hgets k hk.1 hk.2.1, fun exits restores trains h => ?_⟩
      rw [hsets _ hkept hgets] at h
      rwa [h.exits, ← hways.exits, h.restores, ← hways.restores, h.trains, ← hways.trains]
  · rw [if_neg hx]
    obtain ⟨heq, hbegun⟩ := begun_restore w1 hl w4 w5 (by
      by_contra h
      exact hx (by simpa using h))
    rw [heq]
    have hkept : TrimsKept c (w.setDev Dv.restore) := htrims.trans (trimsKept_setDev w _)
    have hgets : ∀ k, ¬ entryKey k → (∀ i, k ≠ Obj.Train.TRAIN_STATE i) → (w.setDev Dv.restore).get k = c.get k := fun k k1 k2 => by
      rw [setDev_get _ _ k1, hget k k2]
    refine ⟨hkept, fun k hk => hgets k hk.1 hk.2.1, fun exits restores trains h => ?_⟩
    rw [hsets _ hkept hgets] at h
    rwa [h.exits, ← hways.exits, h.restores, ← hways.restores, h.trains, ← hways.trains]

end Core

end Sys2Proof.Machine
end

section
/-! PROOFS. SELFTEST_DONE, and the obligation `Starts` (16_states_start_sluice.md R408, R410 to R413, R416, R419). -/

namespace Sys2Proof.Machine

variable {s : State}

/-- The end of SELFTEST. -/
theorem selftestDone_classifies {x : SelftestResult} {r : StartRun} {moved : Bool} (hx : x.wf = true) (hc : x.checkers = [])
    (hup : s.core.seqUp = true) (hs : s.core.start = some r) (hd : s.core.dev = Dv.selftest)
    (hrun : s.core.fc.running = true ∨ s.core.fc.held = [])
    (hb : r.origin = 3 ∨ (r.origin = 0 ∧ x.fuseBad = false ∧ x.millpond = none ∧ s.core.booted = true ∧
      (∀ h < 2, s.core.halfState h ≠ 3) ∧ (s.core.ledgerOf 2).topSeq + 1 ≠ 0xFFFFFFFF))
    (hk : ∀ k < 16, s.core.get (Obj.KeySlot.KEY k) = 0) (ha : s.core.get Obj.Loa.ADMIT_KEY = 0) (hm : moved = s.core.binMoved) :
    AnswersThen (.selftestDone x) s fun c =>
      c.fc.running = true ∧ c.get Hid.SPEED = s.core.get Obj.Phy.SPEED_BIN ∧
      (∀ ch < 25, ∀ t, x.trims[ch]?.join = some t →
        (c.monOf ch).offset = t.1 ∧ (c.monOf ch).gain = t.2 ∧ c.bitOf Obj.Mon.REFUSED_MASK ch = false) ∧
      (∀ ch < 25, x.trims[ch]?.join = none → c.bitOf Obj.Mon.REFUSED_MASK ch = true) ∧
      (∀ p < 8, s.core.bitOf Obj.Hr.PORT_ENABLE p = true → s.core.portState p = 0 → c.portState p = 1) ∧
      ∀ exits restores trains,
        exits = (maskOf 32 fun n => !(s.core.scOut n) && s.core.resting n) →
        restores = (maskOf 32 fun n => !(s.core.scOut n) && !(s.core.resting n) && c.hasSet n && !moved) →
        trains = (maskOf 32 fun n => !(s.core.scOut n) && (moved || (!(s.core.resting n) && !(c.hasSet n)))) →
        (exits ≠ 0 ∨ restores ≠ 0 →
          c.dev = Dv.restore ∧ c.start = some { r with exits := exits, restores := restores, trains := trains } ∧
          (∀ n < 32, exits.testBit n = true → (c.mcOf n).srExiting = true) ∧
          ∀ n < 32, restores.testBit n = true → c.waits Ck.restore n = true) ∧
        (exits = 0 → restores = 0 → trains ≠ 0 →
          c.dev = Dv.train ∧ c.start = some { r with exits := 0, restores := 0, trains := trains } ∧
          ∀ n < 32, trains.testBit n = true → c.trainState n = 1 ∧ c.waits Ck.train n = true) := by
  have htested := Core.selftestLoaded_tested (c := s.clear.core) (x := x) (r := r) hd hb hrun hk ha
  have heq := Core.selftestDone_eq (c := s.clear.core) (x := x) (r := r) hs hd hc hb hrun
  have hmoved : s.clear.core.binMoved = moved := hm.symm
  refine answersThen_onPower (fun c => c.selftestDone x) (formed_of_wf hx) hup ?_
  show _ ∧ _ ∧ _ ∧ _ ∧ _ ∧ _
  rw [heq, hmoved]
  generalize s.clear.core.selftestLoaded x r = a at htested ⊢
  have hquiet : a.stopAsked = false := by
    rw [Core.stopAsked, htested.req]
    rfl
  rw [if_neg (by rw [hquiet]; decide)]
  obtain ⟨hkept, hget, hways⟩ := Core.classify_advance (htested.dev.trans hd) r moved
  generalize (a.classify r moved).advance = d at hkept hget hways ⊢
  have hrefused : ∀ ch, d.bitOf Obj.Mon.REFUSED_MASK ch = a.bitOf Obj.Mon.REFUSED_MASK ch := fun ch =>
    Core.bitOf_congr ch (hget _ ⟨by simp [Core.entryKey], fun i => by simp; omega, by decide, by decide, by decide⟩)
  have hout : ∀ n < 32, a.scOut n = s.core.scOut n ∧ a.resting n = s.core.resting n := fun n hn =>
    Core.out_of_restParts (congrArg Core.restParts (by rw [Core.mcOf, htested.mc]; rfl)) (htested.scState n hn)
  refine ⟨hkept.running.trans htested.running, ?_, fun ch hch t ht => ?_, fun ch hch ht => ?_, fun p hp hon hdown => ?_,
    fun exits restores trains h1 h2 h3 => ?_⟩
  · rw [hget _ ⟨by simp [Core.entryKey, Hid.SPEED], fun i => by simp [Hid.SPEED]; omega, by decide, by decide, by decide⟩, htested.speed]
    rfl
  · rw [hkept.monOf, hrefused]
    exact htested.trims ch hch t ht
  · rw [hrefused]
    exact htested.refused ch hch ht
  · rw [Core.portState, hget _ ⟨by simp [Core.entryKey]; omega, fun i => by simp; omega, by simp; omega, by simp; omega, by simp; omega⟩]
    exact htested.ports p hp hon hdown
  · have hbegun := hways exits restores trains
      ⟨h1.trans (maskOf_congr fun n hn => by rw [(hout n hn).1, (hout n hn).2]),
        h2.trans (maskOf_congr fun n hn => by rw [(hout n hn).1, (hout n hn).2]),
        h3.trans (maskOf_congr fun n hn => by rw [(hout n hn).1, (hout n hn).2])⟩
    exact ⟨hbegun.takes, hbegun.trains⟩

/-- Settles O59. SELFTEST by what its steps leave and the ways of its subchannels; a restore by what it leaves of its start, the hub with the
trainings of later subchannels still to queue standing in where the last restore's own subchannel is trained; the flush stream by stream and
subchannel by subchannel; the orderly phase by the descent that follows it. -/
theorem starts : Obligations.Starts := by
  unfold Obligations.Starts
  refine ⟨?_, ?_, ?_, ?_, ?_, ?_, ?_, ?_⟩
  · exact fun s x r hx hup hs hd ho hbad hrun => selftestDone_fuseBad hx hup hs hd ho hbad hrun
  · exact fun s x r moved hx hc hup hs hd hrun hb hk ha hm => selftestDone_classifies hx hc hup hs hd hrun hb hk ha hm
  · exact fun s sc l hard r hl hup hs hd hr hh hpass => restoreDone_verified hl hup hs hd hr hh hpass
  · exact fun s sc l hard r hl hup hs hd hr hh hfail => restoreDone_failed hl hup hs hd hr hh hfail
  · exact fun s hup hd hw _ hr => safeFlush_inSafe hup hd hw hr
  · exact fun s h => safeFlush_outside h
  · exact fun s forced hao ho hd hl hw _ hr hdone => shutdownPhaseEnd_ends hao ho hd hl hw hr hdone
  · exact fun s _ h => shutdownPhaseEnd_early h

end Sys2Proof.Machine
end
